-- ==== Sys2Proof/Word.lean ====
section
/-!
DEFINITION. Word.lean: the word types of the part. Registers are 32 bits wide (R98), memory is made of bytes (R90), a domain
is a 16-bit number (R39).
-/
namespace Sys2Proof

/-- A register word. -/
abbrev Word := BitVec 32

/-- A byte of memory. -/
abbrev Byte := BitVec 8

/-- A domain number of R39. -/
abbrev Dom := BitVec 16

end Sys2Proof
end

