-- ==== Sys2Proof/Syntax.lean ====
section
/-!
DEFINITION. Syntax.lean: the commands of the part, one constructor for each row of spec/opcode_table.json, in the table's order.
A row that is a message of the control protocol carries its sender and its decoded payload; a row that is a register access carries
its master and its data; a row that is an event of the outside world (a pin, a packet, a measurement) carries what arrived.
-/
namespace Sys2Proof

/-- Kinds of fabric master (R96). -/
inductive MasterKind where
  | core | ap | firmware | pcie | ioDma | debug | mirsia
deriving DecidableEq, Repr

/-- Privilege mode of an AP request (R96). -/
inductive Priv where
  | user | supervisor | machine
deriving DecidableEq, Repr

/-- A fabric master as R96 identifies it, with the privilege and virtualisation bit of an AP request and the domain that owns it (R105). -/
structure Master where
  die : Nat
  kind : MasterKind
  index : Nat
  priv : Priv
  virt : Bool
  dom : Dom
deriving DecidableEq, Repr

/-- The sender of a control-protocol request: its domain (R39), the SEQ and the SESSION of its header (R114). -/
structure Req where
  dom : Dom
  seq : BitVec 16
  session : BitVec 16
deriving DecidableEq, Repr

/-- What a reset covers (R64, R66). -/
inductive ResetTarget where
  | package
  | die (d : Nat)
  | cluster (d c : Nat)
  | ap (d a : Nat)
deriving DecidableEq, Repr

/-- Which part of the machine suffers a double fault (R64, code 0x8). -/
inductive LockUnit where
  | ap (d a : Nat)
  | ccc (d c : Nat)
  | sch (d : Nat)
  | pmc (d : Nat)
  | sec (d : Nat)
deriving DecidableEq, Repr

/-- A request of the debug module (R64, code 0x6). -/
inductive DebugReset where
  | ndmreset
  | hartreset (d a : Nat)
deriving DecidableEq, Repr

/-- What the judgement of a die's PLL measures (R50, R54): the expected count of a window, and the eight counts. -/
structure PllWindows where
  expected : Nat
  counts : List Nat
deriving DecidableEq, Repr

/-- The pending lines of an AP pair at a checkpoint (R427): of the main and of the checker. -/
structure PairLines where
  main : List (Nat × Byte)
  checker : List (Nat × Byte)
deriving DecidableEq, Repr

/-- What the partner presents as the mirror port trains (R431, R481): the first 8 bytes of its digest as a big-endian number, and whether its signatures and
certificate chains pass the checks of R481. -/
structure PartnerId where
  digest : Nat
  trusted : Bool
deriving DecidableEq, Repr

/-- One closed window of the clock monitor (R54, R56, R520): the count of XO or of REFB_IN against IRC, or whether ROOT_PLL was locked. -/
inductive ClkWindow where
  | xo (count : Nat)
  | root (locked : Bool)
  | refb (count : Nat)
deriving DecidableEq, Repr

/-- The posted blocks of R93, with their place within a shared slot. -/
inductive PostedBlk where
  | rstctl | clkctl | pinmux | pmc | timebase | odo | can (n : Nat) | uart (n : Nat) | pmbus | xspi | mvb
deriving DecidableEq, Repr

/-- The range that CLAIM and RELEASE name (R38). -/
structure ResRange where
  resType : Nat
  die : Nat
  index : Nat
  count : Nat
  cls : Nat
deriving DecidableEq, Repr

/-- What a read of ECC-protected memory found (R148, R149). -/
inductive EccFound where
  | clean
  | single (syndrome : Nat)
  | double (syndrome : Nat)
deriving DecidableEq, Repr

/-- The slots of a compute core (R291): one for each engine, and the sequencer's for ENGINE 3 and ENGINE 5. -/
inductive SlotKind where
  | te | ve | xe | seq
deriving DecidableEq, Repr

/-- Where a placed command stands: a slot of a core of a die, core index 8c + k, or a raster context (R330). -/
inductive SlotRef where
  | core (core : Nat) (slot : SlotKind)
  | raster (ctx : Nat)
deriving DecidableEq, Repr

/-- The payload of KV_SEQ_CREATE (R270). -/
structure KvSeqCfg where
  pool : Word
  kvHeads : Nat
  headDim : Nat
  flags : Nat
  maxRows : Nat
  budget : Nat
  recent : Nat
  reserve : Nat
  decay : Nat
deriving DecidableEq, Repr

/-- The payload of Q_CREATE (R297). -/
structure QueueCfg where
  die : Nat
  sqLog2 : Nat
  cqLog2 : Nat
  flags : Nat
  sqBase : Nat
  cqBase : Nat
  acctBase : Nat
  vector : Nat
  minClass : Nat
deriving DecidableEq, Repr

/-- The configuration of a silo (R289), in the fields of the SILO_SET payload (R297). -/
structure SiloCfg where
  cls : Nat
  head : Nat
  mask : Nat
  gMin : Nat
  share : Nat
  waitMax : Nat
  quantum : Nat
  lead : Nat
  en : Bool
deriving DecidableEq, Repr

/-- The payload of DISP_MODE (R343). -/
structure DispModeCfg where
  head : Nat
  link : Nat
  maxLanes : Nat
  bpc : Nat
  pclkKhz : Nat
  htime : Word
  hsync : Word
  vtime : Word
  vsync : Word
  fill : Word
deriving DecidableEq, Repr

/-- What the receiver finds in a CSI-2 packet header (R346): its ECC, data type, virtual channel and VCX bits. -/
structure CsiHeader where
  eccErrors : Nat
  dt : Nat
  vc : Nat
  vcx : Nat
deriving DecidableEq, Repr

/-- A GVSP stream packet of payload type Image (R348): a leader with its block ID, PFNC pixel format and width, a payload packet with the offset of its
bytes in the image, a trailer. -/
inductive GvspPacket where
  | leader (blockId pixelFormat sizeX : Nat)
  | payload (blockId offset : Nat) (bytes : List Byte)
  | trailer (blockId : Nat)
deriving DecidableEq, Repr

/-- The payload of TB_SET (R388). -/
structure TbCfg where
  tb : Nat
  src : Nat
  holdS : Nat
  en : Nat
  kp : Nat
  ki : Nat
  ppsDelay : Word
  adj : Word
deriving DecidableEq, Repr

/-- The payload of TRG_SET (R388). -/
structure TrgCfg where
  trg : Nat
  mode : Nat
  src : Nat
  dir : Nat
  flags : Nat
  width : Nat
  start : Nat
  period : Nat
deriving DecidableEq, Repr

/-- A CAN frame (R396): its message element without the stamp, whether it was received or sent without error. -/
structure CanFrame where
  identFlags : Word
  dlc : Nat
  data : List Byte
  ok : Bool
deriving DecidableEq, Repr

/-- What a UART does with one character (R397). -/
inductive UartEvent where
  | received (ch : Nat)
  | loaded (ch : Nat)
  | startSending
  | stopSent
deriving DecidableEq, Repr

/-- One telegram on the MVB (R398). -/
inductive MvbTelegram where
  | processReceived (logical : Nat) (fcode : Nat) (data : List Byte)
  | processSent (logical : Nat)
  | messageReceived (data : List Byte)
  | messageSent
  | masterFrame (entry : Nat)
  | mastership (take : Bool)
deriving DecidableEq, Repr

/-- A request arriving over a PCI Express link (R302, R402): through a BAR of a function of an endpoint, or by bus address below a root port. -/
inductive PcieRequest where
  | barRead (fn bar offset len : Nat)
  | barWrite (fn bar offset : Nat) (data : List Byte)
  | busRead (addr len : Nat)
  | busWrite (addr : Nat) (data : List Byte)
  | atomic
deriving DecidableEq, Repr

/-- A guarded command of the xSPI controller (R405): it moves bytes between flash and memory. -/
inductive XspiCmd where
  | read (cs flashAddr memAddr len : Nat)
  | program (cs flashAddr memAddr len : Nat)
  | erase (cs flashAddr len : Nat)
deriving DecidableEq, Repr

/-- An atomic access of an AP (R139, R412): an operation by its RISC-V function code, a load-reserve or a store-conditional, of 32 bits or, wide, of 64. -/
inductive FbrAtomic where
  | amo (op : Nat) (operand : BitVec 64) (wide : Bool)
  | lr (wide : Bool)
  | sc (data : BitVec 64) (wide : Bool)
deriving DecidableEq, Repr

/-- The payload of TSN_STREAM_SET (R414). -/
structure TsnStream where
  handle : Nat
  idType : Nat
  funcs : Nat
  ident : List Byte
  meter : List Byte
  history : Nat
  algorithm : Nat
deriving DecidableEq, Repr

/-- An action of a debugger on the main of a checked pair (R429): the count of retired instructions at which it acts,
whether it came over the system bus or as an abstract command, and the memory bytes it writes, if it writes memory. -/
structure DebugAct where
  retired : Nat
  systemBus : Bool
  writes : List (Nat × Byte)
deriving DecidableEq, Repr

/-- One record of a mirror transfer (R432), in the section types of R312: its type, the object it names and its content. -/
structure MirrorRec where
  kind : Nat
  object : Nat
  content : List Byte
deriving DecidableEq, Repr

/-- The content of a heartbeat (R434). -/
structure Heartbeat where
  role : Nat
  count : Nat
  seq : Nat
  time : Nat
  clkFail : Bool
  safeState : Bool
  handover : Bool
  unsync : Bool
deriving DecidableEq, Repr

/-- How one test of a checker ends (R459, R460): it passes, it fails, or it yields to real work of its checker. -/
inductive CheckOutcome where
  | passed | failed | yielded
deriving DecidableEq, Repr

/-- A section of a handoff record (R134): TAG, VERSION and what the firmware keeps in it. -/
structure HandoffSection where
  tag : Nat
  version : Nat
  content : List Byte
deriving DecidableEq, Repr

/-- What the two images bring to a handoff (R130, R134): the record version and the sections that the old one writes, the record majors and the critical TAGs that the new
one knows, and a byte of the record that reads otherwise than written. -/
structure Handoff where
  major : Nat
  minor : Nat
  sections : List HandoffSection
  majors : List Nat
  tags : List Nat
  damage : Option (Nat × Byte)
deriving DecidableEq, Repr

/-- What a debugger does at the authentication registers of its module (R480): it writes a word of authdata, or writes dmactive 0. -/
inductive DmAccess where
  | authdata (w : Word)
  | dmactiveOff
deriving DecidableEq, Repr

/-- What one reading of a rail entry gave (R487, R506): the regulator does not answer, or READ_VOUT in millivolts and whether
STATUS_WORD reports a fault. -/
inductive PmbusReading where
  | noAnswer
  | vout (millivolts : Nat)
deriving DecidableEq, Repr

/-- The payload of PWR_SET (R502). -/
structure PowerSet where
  die : Nat
  floor : Nat
  dieLimit : Nat
  pkgLimit : Nat
  throttleC : Nat
deriving DecidableEq, Repr

/-- The payload of SAFE_STREAM_SET (R463). -/
structure SafeStreamCfg where
  entry : Nat
  en : Bool
  handle : Nat
  offset : Nat
  die : Nat
  silo : Nat
  template : List Byte
deriving DecidableEq, Repr

/-- The commands of the part (spec/opcode_table.json, one constructor for each row). -/
inductive Instr where
  -- Reset, strap sensing and option loading
  | powerOnRelease
  | brownOut (die : Nat)
  | rstNAssert
  | rstNRelease
  | watchdogExpiry (die : Nat)
  | rstWdtKickWrite (m : Master) (die : Nat) (data : Word)
  | rstSwreqWrite (m : Master) (die : Nat) (data : Word)
  | debugResetRequest (r : DebugReset)
  | lockUp (u : LockUnit)
  | resetTakeEffect
  | holdoffEnd (t : ResetTarget)
  | trimLoadEnd (die : Nat) (parityFail : Bool) (conversions : List Nat)
  | xoJudgementEnd (counts : List Nat)
  | pllJudgementEnd (root tref : List PllWindows)
  | optionLoadEnd
  | bootVerifyEnd (fromPartner : List Byte)
  | dramTrainingEnd (die : Nat)
  | fabricUp (t : ResetTarget)
  | firmwareStart (t : ResetTarget)
  | rstctlForceWrite (m : Master) (die : Nat) (data : Word)
  | forcedGroupClockStable (die group : Nat)
  | resetRequest (r : Req) (scope die target : Nat)
  | resetQuery (r : Req) (die : Nat)
  | optRead (r : Req)
  | optWrite (r : Req) (expected : Nat) (options : List Byte)
  | rstStatusRead (m : Master) (die : Nat)
  -- Clock generation, spreading and monitoring
  | clkmonWindowEnd (die : Nat) (w : ClkWindow)
  | clkAckTimeout
  | clkAckWrite (m : Master) (die : Nat) (data : Word)
  | dividerRampStep (die domain : Nat)
  | clkDivTargetWrite (m : Master) (die domain : Nat) (data : Word)
  | clkCtrlRestore (m : Master) (die : Nat) (data : Word)
  | sscDepthApply
  | restoreJudgementEnd (xo : List Nat) (root tref : List PllWindows)
  | clkQuery (r : Req) (die : Nat)
  | clkSpread (r : Req) (depth : Nat)
  | clkRestore (r : Req)
  -- Claims and pins
  | claim (r : Req) (range : ResRange)
  | release (r : Req) (range : ResRange)
  | pinConfig (r : Req) (die index : Nat) (image : Word)
  | pinQuery (r : Req) (die index : Nat)
  | pincfgWrite (m : Master) (die index : Nat) (data : Word)
  | pinmuxOvrWrite (m : Master) (die : Nat) (data : Word)
  -- Register behaviour
  | registerWrite (m : Master) (addr size : Nat) (data : BitVec 64)
  | postedWriteComplete (die : Nat) (blk : PostedBlk)
  | pairLoRead (m : Master) (addr : Nat)
  | pairHiRead (m : Master) (addr : Nat)
  | pairLoWrite (m : Master) (addr : Nat) (data : Word)
  | pairHiWrite (m : Master) (addr : Nat) (data : Word)
  | rcRegisterRead (m : Master) (addr size : Nat) (sameClock : BitVec 64)
  | fabStatusRead (m : Master) (die : Nat)
  -- Mailboxes and sessions
  | mbReqTailWrite (m : Master) (dom : Dom) (data : Word) (units : List Byte)
  | mbRspHeadWrite (m : Master) (dom : Dom) (data : Word)
  | mbNotifyWrite (m : Master) (dom : Dom) (data : Word)
  | requestStart (dom : Dom) (headerUe payloadUe : Bool)
  | hello (r : Req) (major minor : Nat) (features : Nat)
  | goodbye (r : Req)
  | ping (r : Req) (payload : List Byte)
  | event (r : Req)
  | eventMask (r : Req) (mask : Nat) (notifyEn vector : Nat)
  | eventRingWrite (dom : Dom)
  -- Live update
  | fwStage (r : Req) (addr len : Nat)
  | fwActivate (r : Req) (kinds dieMask clusterMask flags : Nat)
  | fwStatus (r : Req)
  | fwAbort (r : Req)
  | shadowCopyEnd
  | handoffPoint (h : Handoff)
  | adoptionDeclared
  | abandonPoint
  | probationEnd
  | fwPersistWriteEnd (ok : Bool)
  -- Granary, Loft and LPDDR5X memory
  | eccCorrectionWriteback (master addr syndrome origin : Nat) (overwritten : Bool)
  | scrubRead (die unit : Nat) (found : EccFound)
  | dramReread (master addr bg bank rank : Nat) (rereads : Nat) (clean : Bool)
  | eccCountCollect (die : Nat)
  | dramPowerDownEntry (die channel : Nat)
  | spillStart (die silo slice : Nat)
  | spillCopyEnd (die silo slice : Nat)
  | refillCopyEnd (die silo slice : Nat)
  | grnQuotaWrite (m : Master) (die silo slice : Nat) (data : Word)
  | loftMapWrite (m : Master) (die : Nat) (data : Word)
  | loftScratchWrite (m : Master) (die silo : Nat) (data : Word)
  | grnDramStatusRead (m : Master) (die : Nat) (dram : Bool)
  | memQuota (r : Req) (die silo slice quota : Nat)
  | memAlloc (r : Req) (die silo slice flags length : Nat)
  | memFree (r : Req) (handle : Word)
  | memBufQuery (r : Req) (handle : Word)
  | memLoftMap (r : Req) (die kvMib stookMib : Nat)
  | memEccQuery (r : Req) (die : Nat)
  -- Tensor engine: the row runs the command that stands in the core's TE slot
  | matmul (die core : Nat)
  | conv (die core : Nat)
  | attend (die core : Nat)
  | kvAppend (die core : Nat)
  | kvFork (die core : Nat)
  | kvRelease (die core : Nat)
  -- Vector engine
  | unary (die core : Nat)
  | binary (die core : Nat)
  | reduce (die core : Nat)
  | softmax (die core : Nat)
  | norm (die core : Nat)
  | convert (die core : Nat)
  | dwconv (die core : Nat)
  | pool (die core : Nat)
  | resample (die core : Nat)
  -- Traversal engine
  | gather (die core : Nat)
  | neighbours (die core : Nat)
  | setOp (die core : Nat)
  | hashBuild (die core : Nat)
  | hashProbe (die core : Nat)
  | radixSort (die core : Nat)
  | segReduce (die core : Nat)
  | scatter (die core : Nat)
  | frontier (die core : Nat)
  -- Command sequencer
  | copy (die core : Nat)
  | nop (die core : Nat)
  | signal (die core : Nat)
  -- Raster units: the row runs the command in a context of the die
  | render (die ctx : Nat)
  | fastClear (die ctx : Nat)
  | expand (die ctx : Nat)
  | shadingBatch (die core ctx : Nat)
  -- Engine queries and the key-value messages
  | teQuery (r : Req) (die cluster core : Nat)
  | veQuery (r : Req) (die cluster core : Nat)
  | xeQuery (r : Req) (die cluster core : Nat)
  | winQuery (r : Req) (die cluster core : Nat)
  | kvPoolCreate (r : Req) (handle : Word) (pages : Nat)
  | kvPoolDestroy (r : Req) (pool : Word)
  | kvSeqCreate (r : Req) (c : KvSeqCfg)
  | kvSeqDestroy (r : Req) (seq : Word)
  | kvSeqQuery (r : Req) (seq : Word)
  | kvSeqSet (r : Req) (seq : Word) (budget recent reserve decay : Nat) (evict : Bool)
  -- Queues, sheaves and scheduling
  | qdbSqTailWrite (m : Master) (queue : Nat) (data : Word) (written : List (Nat × Byte))
  | qdbCqHeadWrite (m : Master) (queue : Nat) (data : Word)
  | sheafFetch (queue : Nat)
  | sheafReady (queue : Nat) (count : Nat)
  | commandPlace (die : Nat)
  | commandCommit (die : Nat) (place : SlotRef)
  | quantumBoundary (die silo : Nat)
  | coresGuaranteeCheck (die silo : Nat)
  | displayReserveStart (die silo : Nat)
  | siloSpanAck (silo dieMask : Nat)
  | qCreate (r : Req) (c : QueueCfg)
  | qDestroy (r : Req) (queue : Word)
  | qEnable (r : Req) (queue : Word)
  | qDisable (r : Req) (queue : Word)
  | qQuery (r : Req) (queue : Word)
  | qAcct (r : Req) (queue : Word) (reset : Bool)
  | siloSet (r : Req) (die silo : Nat) (c : SiloCfg)
  | siloQuery (r : Req) (die silo : Nat)
  | siloSpan (r : Req) (silo dieMask : Nat)
  | schQctlEnable (m : Master) (die : Nat) (queue : Nat)
  | schQctlDisable (m : Master) (die : Nat) (queue : Nat)
  | schQctlDrain (m : Master) (die : Nat) (queue : Nat)
  -- Virtual functions and migration
  | fnConfig (r : Req) (fn assign quota vectors aperBase : Nat)
  | fnReset (r : Req) (fn : Nat)
  | fnQuery (r : Req) (fn : Nat)
  | fnQmap (r : Req) (fn first : Nat)
  | fnGlobal (r : Req) (controller a : Nat)
  | fnFreeze (r : Req) (fn : Nat)
  | fnSave (r : Req) (fn flags maxLen addr : Nat)
  | fnRestore (r : Req) (fn flags len addr : Nat) (dieMap : List Nat)
  | fnThaw (r : Req) (fn : Nat)
  | fnDiscard (r : Req) (fn : Nat)
  | functionLevelReset (controller : Nat) (fn : Option Nat)
  | fnResetRegWrite (m : Master) (fn : Nat) (data : Word)
  | fnCfgWrite (m : Master) (fn : Nat) (data : Word)
  | numvfsWrite (controller numVfs : Nat) (vfEnable : Bool)
  | genDrainEnd (fn : Nat)
  | functionResetEnd (fn : Nat)
  -- Display engine and the graphics messages
  | verticalBlank (head : Nat)
  | scanoutTileRowDue (head : Nat) (ready : Bool)
  | hpdChange (head : Nat) (level : Bool)
  | headImgHiWrite (m : Master) (head : Nat) (data : Word)
  | headCtrlEnWrite (m : Master) (head : Nat) (data : Word)
  | rasStookSet (r : Req) (die loc sizeMib addr : Nat)
  | rasQuery (r : Req) (die : Nat)
  | dispMode (r : Req) (c : DispModeCfg) (training : Option (Nat × Nat))
  | dispFlip (r : Req) (head addr : Nat)
  | dispQuery (r : Req) (head : Nat)
  | dispOff (r : Req) (head : Nat)
  -- Camera ingest and odometry
  | csiShortPacket (die rx : Nat) (h : CsiHeader) (number : Nat)
  | csiLongPacket (die rx : Nat) (h : CsiHeader) (payload : List Byte) (crcOk : Bool)
  | gvspPacket (die udpPort : Nat) (p : GvspPacket)
  | frameComplete (die stream : Nat)
  | goldenCopyEnd (die stream : Nat)
  | strCfgWrite (m : Master) (die stream offset : Nat) (data : Word)
  | odoEdgeAccept (channel : Nat) (levelA levelB : Bool)
  | odoZEdge (channel : Nat)
  | tachEdge (tach cycles : Nat)
  | odoWindowEnd
  | odoDistWrite (m : Master) (channel : Nat) (data : Word)
  | camRxSet (r : Req) (die rx mode lanes rate : Nat)
  | camStreamSet (r : Req) (die stream : Nat) (images : List Word)
  | camStreamQuery (r : Req) (die stream : Nat)
  | odoSet (r : Req) (channel : Nat) (cfg slip ratio : Word)
  | odoPreset (r : Req) (channel : Nat) (dist : BitVec 64)
  | odoQuery (r : Req) (channel : Nat)
  | tachSet (r : Req) (tach : Nat) (cfg : Word)
  -- Time bases and triggers
  | ppsInEdge
  | holdoverTimeout (tb : Nat)
  | replicaAlign
  | timeTriggerFire (trg : Nat)
  | triggerPulseEnd (trg : Nat)
  | ppsOutPulse
  | cmp32Match (k : Nat)
  | tscapEdge (die input : Nat) (rising : Bool)
  | tbAdjWrite (m : Master) (tb : Nat) (data : Word)
  | tbOffsetHiWrite (m : Master) (tb : Nat) (data : Word)
  | tbSetnsecWrite (m : Master) (tb : Nat) (data : Word)
  | trgCfgWrite (m : Master) (trg offset : Nat) (data : Word)
  | cmp32NsecWrite (m : Master) (k : Nat) (data : Word)
  | tbQuery (r : Req) (tb : Nat)
  | tbSet (r : Req) (c : TbCfg)
  | tbOffset (r : Req) (tb : Nat) (theta : BitVec 64)
  | tbStep (r : Req) (tb sec nsec : Nat)
  | ppsOutSet (r : Req) (tb en width : Nat)
  | trgSet (r : Req) (c : TrgCfg)
  | trgQuery (r : Req) (trg : Nat)
  | tscapSet (r : Req) (die input en edge tb : Nat)
  | tscapRead (r : Req) (die input : Nat)
  | cmp32Set (r : Req) (k tb en sec nsec : Nat)
  -- Gateway ports, PCI Express and bridges
  | ethFrameRx (die port : Nat) (frame : List Byte) (fcsOk : Bool)
  | ethFrameTx (die port : Nat)
  | gclEntryEnd (die port : Nat)
  | cpuTxDescriptor (die ring : Nat)
  | canFrameRx (die ctrl : Nat) (f : CanFrame)
  | canBusoffRejoin (die ctrl : Nat)
  | uartCharacter (die uart : Nat) (u : UartEvent)
  | mvbTelegram (die : Nat) (t : MvbTelegram)
  | pcieLinkTraining (controller : Nat) (trained : Option (Nat × Nat))
  | pcieInboundRequest (controller : Nat) (q : PcieRequest)
  | pcieAerError (controller : Nat) (uncorrectable correctable : Word) (header : List Word)
  | mirsiaRetrain (die link : Nat) (ok : Bool) (lanesRepaired : Nat)
  | xspiCommand (m : Master) (c : XspiCmd)
  | postedWriteFail (die : Nat) (blk : PostedBlk) (cause : Nat)
  | fbrReadRelease (die : Nat)
  | fbrHeadOnRetry (die : Nat) (engine : Nat)
  | fbrSemTimeout (die : Nat)
  | fbrSemReleaseWrite (m : Master) (die : Nat) (data : Word)
  | fbrAtomicEmulation (m : Master) (addr : Nat) (op : FbrAtomic)
  | fbrStatusRead (m : Master) (die : Nat)
  | ethPortSet (r : Req) (die port speed fec an latIn latOut : Nat)
  | ethPortQuery (r : Req) (die port : Nat)
  | tsnGclSet (r : Req) (port tb flags cycle base : Nat) (entries : List (Nat × Nat))
  | tsnStreamSet (r : Req) (e : TsnStream)
  | ptpDomainSet (r : Req) (entry domainNumber tb en : Nat)
  | ethTrapSet (r : Req) (die entry ring mode ethertype mac maskBits : Nat)
  | canSet (r : Req) (die ctrl : Nat) (btr dbtr : Word)
  | uartSet (r : Req) (die uart : Nat) (cfg : Word)
  | mvbSet (r : Req) (die role pair periodMs deviceAddr : Nat)
  | pcieSet (r : Req) (ctrl role width rate : Nat)
  | fbrQuery (r : Req) (die release : Nat)
  -- Redundant execution and the mirrored pair
  | commitCompare (die : Nat) (place : SlotRef) (difference : BitVec 128) (cycles : Nat)
  | mismatchSelftestEnd (die : Nat) (place : SlotRef) (mainPass checkerPass : Bool)
  | shadowToOutputCopyEnd (die : Nat) (place : SlotRef)
  | apCheckpoint (die pair : Nat) (lines : PairLines) (equal : Bool)
  | apPairSelftestEnd (die pair : Nat) (mainPass checkerPass : Bool)
  | debugAction (die pair : Nat) (a : DebugAct)
  | mirrorPortTrained (lanes partnerCode : Nat) (partner : PartnerId)
  | mirrorTransferRx (seq : Nat) (fn : Nat) (records : List MirrorRec)
  | heartbeatSend
  | heartbeatRx (alternate : Bool) (h : Heartbeat)
  | heartbeatMissed (alternate : Bool)
  | chkQuery (r : Req) (die : Nat)
  | chkRestore (r : Req) (die kind index : Nat) (passes : List Bool)
  | appairSet (r : Req) (die pair en : Nat)
  | pairSet (r : Req) (en role altEn altPort altMac : Nat)
  | pairMirror (r : Req) (fn en : Nat)
  | pairHandover (r : Req)
  | pairQuery (r : Req)
  | mirrorFnWrite (m : Master) (entry : Nat) (data : Word)
  -- Safety mechanisms and the safe state
  | secConfirm
  | secConfirmLapse
  | silenceTimeout (die silo : Nat)
  | safeCtrlArmWrite (m : Master) (die : Nat) (data : Word)
  | safeCtrlClearWrite (m : Master) (die : Nat) (data : Word) (sameCycle : Option Nat)
  | safeReactWrite (m : Master) (die : Nat) (data : Word)
  | gleanerTestStart (die cluster : Nat)
  | gleanerTestEnd (die core : Nat) (failing : Nat)
  | coveragePeriodEnd (die core : Nat)
  | checkerRotationSlot (die : Nat) (o : CheckOutcome)
  | checkerTestRetry (die : Nat) (o : CheckOutcome)
  | safeCfg (r : Req) (fttiMs : Nat) (react : Word)
  | safeArm (r : Req) (en : Nat)
  | safeClear (r : Req) (sameCycle : Option Nat)
  | safeQuery (r : Req)
  | safeSiloSet (r : Req) (die silo cfg : Nat) (str : Word)
  | safeStreamSet (r : Req) (c : SafeStreamCfg)
  | glnQuery (r : Req) (die cluster : Nat)
  | chkrotQuery (r : Req) (die : Nat)
  -- Security, identity and firmware signing
  | attest (r : Req) (nonce : List Byte) (mrMask : Nat)
  | certRead (r : Req) (chain offset : Nat)
  | mrExtend (r : Req) (index : Nat) (digest : List Byte)
  | guardGrant (r : Req) (dom : Dom)
  | guardRevoke (r : Req) (dom : Dom)
  | fuseProgram (r : Req) (word : Nat) (value mask : Word)
  | svnAdvance (r : Req) (target : Nat)
  | lcAdvance (r : Req) (target : Nat)
  | keyRevoke (r : Req) (slot : Nat)
  | bootChunk (r : Req) (offset total : Nat) (data : List Byte)
  | secFuseCtrlGo (m : Master) (die : Nat) (data : Word)
  | authdataWrite (a : DmAccess)
  -- Power, thermal control and lifetime records
  | pmcIntervalEnd (die : Nat) (p100 : Nat)
  | packagePowerCheck
  | powerEstimateScale (readPout : Nat)
  | thermalSample (die : Nat) (readings : List Int)
  | voltageConfirmed (die : Nat) (inTime : Bool)
  | railMonitor (die : Nat) (readings : List PmbusReading)
  | pmbusAlert (die : Nat) (fault : Bool)
  | powerFailAssert
  | powerFailRestore
  | titheHourlyWrite
  | titheWriteEnd (readBack : Bool)
  | titheEraseEnd
  | pwrQuery (r : Req) (die : Nat)
  | pwrSet (r : Req) (c : PowerSet)
  | railSet (r : Req) (die entry : Nat) (image : Word)
  | titheRead (r : Req) (offset : Nat)
  | titheFlush (r : Req)
  -- Events of links, devices and tables
  | ethLinkChange (die port : Nat) (up : Bool) (speed : Nat)
  | csiPhyLockChange (die rx : Nat) (locked : Bool)
  | mirrorLaneLoss (lane : Nat)
  | canFrameTx (die ctrl : Nat) (ok : Bool)
  | failureInProbation
  | mirrorAckRx (seq : Nat)
  | dramRefreshDerate (die channel : Nat) (derate : Bool)
  | fdbEntryAgeing (mac vlan : Nat)
  | pairDiscoveryWindowEnd
deriving DecidableEq, Repr

end Sys2Proof
end

