-- ==== Sys2Proof/Decode.lean ====
section
/-!
DEFINITION. Decode.lean: the part has no instruction words; spec/opcode_table.json gives no row any bits, so no word spells a command.
-/
namespace Sys2Proof

/-- The command that a word of `nbits` bits spells: none, as no row of the table gives bits. -/
def decodeTableWord (_nbits _w : Nat) : Option Instr := none

end Sys2Proof
end

