-- ==== Sys2Proof/Machine/Bits.lean ====
section
/-!
DEFINITION. Machine/Bits.lean: bit fields of naturals, little-endian byte strings (R90, R114), two's complement, saturation
and the checksums the spec names.
-/
namespace Sys2Proof.Machine

/-- Bits [hi:lo] of a natural. -/
def bits (v hi lo : Nat) : Nat := (v / 2 ^ lo) % 2 ^ (hi + 1 - lo)

/-- One bit of a natural. -/
def bit (v i : Nat) : Bool := (v / 2 ^ i) % 2 == 1

/-- 1 for true, 0 for false. -/
def b2n (b : Bool) : Nat := if b then 1 else 0

/-- `v` with bits [hi:lo] replaced by `x`. -/
def putBits (v hi lo x : Nat) : Nat :=
  v - bits v hi lo * 2 ^ lo + (x % 2 ^ (hi + 1 - lo)) * 2 ^ lo

/-- `v` with bit `i` set. -/
def setBit (v i : Nat) : Nat := putBits v i i 1

/-- `v` with bit `i` clear. -/
def clearBit (v i : Nat) : Nat := putBits v i i 0

/-- The n low bytes of a natural, least significant first. -/
def leBytes : Nat → Nat → List Byte
  | 0, _ => []
  | n + 1, v => BitVec.ofNat 8 v :: leBytes n (v / 256)

/-- The natural that bytes spell, least significant first. -/
def leNat : List Byte → Nat
  | [] => 0
  | b :: bs => b.toNat + 256 * leNat bs

/-- The bytes from offset `o` on, `n` of them. -/
def slice {α : Type} (bs : List α) (o n : Nat) : List α := (bs.drop o).take n

/-- The little-endian field of `n` bytes at offset `o`. -/
def leAt (bs : List Byte) (o n : Nat) : Nat := leNat (slice bs o n)

/-- Two's complement reading of the low `w` bits. -/
def toSigned (w v : Nat) : Int :=
  let u := v % 2 ^ w
  if u < 2 ^ (w - 1) then (u : Int) else (u : Int) - (2 ^ w : Nat)

/-- The low `w` bits of a two's complement number. -/
def ofSigned (w : Nat) (x : Int) : Nat := (x % ((2 ^ w : Nat) : Int)).toNat

/-- Clamp to the range of a signed `w`-bit integer. -/
def clampSigned (w : Nat) (x : Int) : Int :=
  if x < -((2 ^ (w - 1) : Nat) : Int) then -((2 ^ (w - 1) : Nat) : Int)
  else if x > ((2 ^ (w - 1) : Nat) : Int) - 1 then ((2 ^ (w - 1) : Nat) : Int) - 1 else x

/-- Saturating addition below `2 ^ w`. -/
def satAdd (w a b : Nat) : Nat := if a + b < 2 ^ w then a + b else 2 ^ w - 1

/-- Round a quotient to the nearest integer, ties to even. -/
def divRne (a b : Int) : Int :=
  let q := a / b
  let r := 2 * (a % b)
  if r < b then q else if r > b then q + 1 else if q % 2 = 0 then q else q + 1

/-- Ceiling of a quotient of naturals. -/
def ceilDiv (a b : Nat) : Nat := (a + b - 1) / b

/-- The least k with 2 ^ k ≥ n. -/
def clog2 (n : Nat) : Nat := if n ≤ 1 then 0 else Nat.log2 (n - 1) + 1

/-- Bit reversal of a natural over `w` bits. -/
def revBits : Nat → Nat → Nat
  | 0, _ => 0
  | w + 1, v => (v % 2) * 2 ^ w + revBits w (v / 2)

/-- One byte of a reflected CRC with reversed polynomial `p`: eight shifts. -/
def crcShift (p : Nat) : Nat → Nat → Nat
  | 0, c => c
  | n + 1, c => crcShift p n (if c % 2 = 1 then Nat.xor (c / 2) p else c / 2)

/-- A reflected CRC over bytes, from `c`. -/
def crcRun (p : Nat) : Nat → List Byte → Nat
  | c, [] => c
  | c, b :: bs => crcRun p (crcShift p 8 (Nat.xor c b.toNat)) bs

/-- CRC-32 of R79: polynomial 0x04C1_1DB7 reflected, all ones in and out. -/
def crc32 (bs : List Byte) : Nat := Nat.xor (crcRun 0xEDB88320 0xFFFFFFFF bs) 0xFFFFFFFF

/-- CRC-32C of R114: polynomial 0x1EDC_6F41 reflected, all ones in and out. -/
def crc32c (bs : List Byte) : Nat := Nat.xor (crcRun 0x82F63B78 0xFFFFFFFF bs) 0xFFFFFFFF

/-- The first index, counted from `n`, at which a test holds. -/
def firstIdx {α : Type} (p : α → Bool) : Nat → List α → Option Nat
  | _, [] => none
  | n, x :: xs => if p x then some n else firstIdx p (n + 1) xs

/-- 0, 1, …, n − 1 from a start. -/
def rangeFrom (start n : Nat) : List Nat := (List.range n).map (fun i => start + i)

/-- Number of ones among the low `w` bits. -/
def popCount : Nat → Nat → Nat
  | 0, _ => 0
  | w + 1, v => v % 2 + popCount w (v / 2)

/-- Insert before the first element that an order does not put ahead. -/
def insertBy {α : Type} (le : α → α → Bool) (a : α) : List α → List α
  | [] => [a]
  | b :: bs => if le a b then a :: b :: bs else b :: insertBy le a bs

/-- Sort, keeping the order of equal elements. -/
def sortBy {α : Type} (le : α → α → Bool) (xs : List α) : List α := xs.foldr (insertBy le) []

end Sys2Proof.Machine
end

