-- ==== Sys2Proof/Machine/Map.lean ====
section
/-!
DEFINITION. Machine/Map.lean: finite maps as association lists. A key that is not listed reads as the default its reader names;
a write replaces the entry of its key where it stands, or appends one.
-/
namespace Sys2Proof.Machine

/-- The value listed for a key, or the default. -/
def lookupD {κ ν : Type} [DecidableEq κ] : List (κ × ν) → κ → ν → ν
  | [], _, d => d
  | (k', v) :: m, k, d => if k' = k then v else lookupD m k d

/-- The value listed for a key, if any. -/
def lookup? {κ ν : Type} [DecidableEq κ] : List (κ × ν) → κ → Option ν
  | [], _ => none
  | (k', v) :: m, k => if k' = k then some v else lookup? m k

/-- Write a key. -/
def insertKV {κ ν : Type} [DecidableEq κ] : List (κ × ν) → κ → ν → List (κ × ν)
  | [], k, v => [(k, v)]
  | (k', v') :: m, k, v => if k' = k then (k, v) :: m else (k', v') :: insertKV m k v

/-- Remove a key. -/
def eraseK {κ ν : Type} [DecidableEq κ] (m : List (κ × ν)) (k : κ) : List (κ × ν) :=
  m.filter (fun e => decide (e.1 ≠ k))

/-- Keep only the keys that a test accepts. -/
def keepK {κ ν : Type} (m : List (κ × ν)) (p : κ → Bool) : List (κ × ν) :=
  m.filter (fun e => p e.1)

end Sys2Proof.Machine
end

