-- ==== Sys2Proof/Machine/Fields.lean ====
section
/-!
DEFINITION. Machine/Fields.lean: the names of the blocks, of the registers and of the register fields, as the register
tables of the spec spell them (R93 for the blocks; each chapter for its own registers).
A field of a 64-bit pair (R101) is one name: the low register shows its low 32 bits, the high register the rest.
-/

namespace Sys2Proof.Machine

/-- The blocks of a register window (R93). MBOX is the mailbox doorbell region with the function pages of R315, QDB the queue doorbell region. -/
inductive Blk where
  | PINMUX
  | CLKCTL
  | RSTCTL
  | FABRIC
  | MBOX
  | GRANARY
  | LOFT
  | DRAMC
  | CCC
  | SCH
  | QDB
  | RASTER
  | DISPLAY
  | CSI
  | ODO
  | TIMEBASE
  | FBR
  | ETH
  | CAN
  | UART
  | PCIE
  | MIRSIA
  | COMMIT
  | MIRROR
  | SEC
  | PMC
  | PMBUS
  | XSPI
  | MVB
  | APINTC
deriving DecidableEq, Repr

/-- Every register the spec lays out; the two halves of a pair are two names. -/
inductive RegName where
  | PINMUX_STATUS
  | PINMUX_OVR
  | PINCFG
  | CLK_STATUS
  | CLK_CTRL
  | CLK_ACK
  | CLK_DIV
  | CLKMON_COUNT
  | RSTCTL_STATUS
  | RST_CAUSE
  | RST_STATUS
  | RST_SWREQ
  | RSTCTL_FORCE
  | RSTCTL_STABLE
  | RSTCTL_ISO
  | RST_WDT
  | RST_WDT_KICK
  | FAB_STATUS
  | FAB_ERR_ADDR_LO
  | FAB_ERR_ADDR_HI
  | FAB_ERR_INFO
  | MB_STATUS
  | MB_REQ_TAIL
  | MB_REQ_HEAD
  | MB_RSP_TAIL
  | MB_RSP_HEAD
  | MB_EVT_LOST
  | MB_REQ_BASE_LO
  | MB_REQ_BASE_HI
  | MB_RSP_BASE_LO
  | MB_RSP_BASE_HI
  | MB_NOTIFY
  | GRN_STATUS
  | GRN_ERR_ADDR_LO
  | GRN_ERR_ADDR_HI
  | GRN_ERR_INFO
  | GRN_CE_COUNT
  | GRN_UE_COUNT
  | GRN_SCRUB
  | GRN_QUOTA
  | LOFT_STATUS
  | LOFT_MAP
  | LOFT_SCRATCH
  | DRAM_STATUS
  | DRAM_ERR_ADDR_LO
  | DRAM_ERR_ADDR_HI
  | DRAM_ERR_INFO
  | DRAM_CE_COUNT
  | DRAM_UE_COUNT
  | DRAM_CFG
  | TE_STATUS
  | TE_ACTIVE_LO
  | TE_ACTIVE_HI
  | TE_STALL_LO
  | TE_STALL_HI
  | VE_STATUS
  | VE_ACTIVE_LO
  | VE_ACTIVE_HI
  | VE_STALL_LO
  | VE_STALL_HI
  | XE_STATUS
  | XE_ACTIVE_LO
  | XE_ACTIVE_HI
  | XE_STALL_LO
  | XE_STALL_HI
  | WIN_STATUS
  | KV_STATUS
  | KV_FREE_SLOTS
  | KV_COW
  | KV_EVICT
  | SCH_STATUS
  | SCH_QCTX_BASE_LO
  | SCH_QCTX_BASE_HI
  | SCH_QCTL
  | SCH_NK_OVERRUN
  | SILO_CFG
  | SILO_MASK_LO
  | SILO_MASK_HI
  | SILO_TIME
  | SILO_STAT
  | QDB_SQ_TAIL
  | QDB_CQ_HEAD
  | QDB_SQ_HEAD
  | QDB_CQ_TAIL
  | QDB_STATUS
  | FN_STATUS
  | FN_GEN
  | FN_RESET
  | FN_LATE
  | FN_CFG
  | FN_STATE
  | FN_APER_LO
  | FN_APER_HI
  | RAS_STATUS
  | RAS_STOOK
  | RAS_STOOK_ADDR_LO
  | RAS_STOOK_ADDR_HI
  | RAS_FLUSH_COUNT
  | RAS_STOOK_PEAK
  | DISP_STATUS
  | HEAD_CTRL
  | HEAD_HTIME
  | HEAD_HSYNC
  | HEAD_VTIME
  | HEAD_VSYNC
  | HEAD_PCLK
  | HEAD_IMG_LO
  | HEAD_IMG_HI
  | HEAD_REPEAT
  | HEAD_UNDERRUN
  | HEAD_VBLANK_LO
  | HEAD_VBLANK_HI
  | HEAD_LINK
  | HEAD_FILL
  | CSI_STATUS
  | CSI_PHY
  | CSI_PKT_ERR
  | STR_CFG
  | STR_GEOM
  | STR_BUF
  | STR_HANDLE
  | STR_OUT_OFF
  | STR_FSTRIDE
  | STR_REC_LO
  | STR_REC_HI
  | STR_REL_LO
  | STR_REL_HI
  | STR_GOLD
  | STR_GOLD_HANDLE
  | STR_EXPECT_0
  | STR_EXPECT_1
  | STR_EXPECT_2
  | STR_EXPECT_3
  | STR_FRAMES_LO
  | STR_FRAMES_HI
  | STR_STATE
  | STR_DROP
  | STR_DAMAGED
  | STR_DISPLACED
  | ODO_STATUS
  | ODO_CFG
  | ODO_SLIP
  | ODO_RATIO
  | ODO_COUNT_LO
  | ODO_COUNT_HI
  | ODO_DIST_LO
  | ODO_DIST_HI
  | ODO_ZCOUNT_LO
  | ODO_ZCOUNT_HI
  | ODO_SPEED
  | ODO_ERR
  | TACH_CFG
  | TACH_PULSES
  | TACH_PERIOD
  | TB_STATUS
  | TB_CFG
  | TB_GAIN
  | TB_ADJ
  | TB_INTEG
  | TB_NSEC
  | TB_SEC_LO
  | TB_SEC_HI
  | TB_FRAC
  | TB_NS64_LO
  | TB_NS64_HI
  | TB_OFFSET_LO
  | TB_OFFSET_HI
  | TB_SETSEC_LO
  | TB_SETSEC_HI
  | TB_SETNSEC
  | TB_LAST_OFF
  | PPS_OUT_CFG
  | PPS_IN_DELAY
  | TRG_CFG
  | TRG_START_LO
  | TRG_START_HI
  | TRG_PERIOD
  | TRG_COUNT_LO
  | TRG_COUNT_HI
  | TRG_MISSED
  | TSCAP_CFG
  | TSCAP_STAMP_LO
  | TSCAP_STAMP_HI
  | TSCAP_STATUS
  | CMP32_CFG
  | CMP32_SEC
  | CMP32_NSEC
  | CMP32_STATUS
  | FBR_STATUS
  | FBR_ERR_ADDR_LO
  | FBR_ERR_ADDR_HI
  | FBR_ERR_INFO
  | FBR_ERR_OVERFLOW
  | FBR_LL_MASTER
  | FBR_SEM
  | FBR_RANGE
  | ETH_PORT_CFG
  | ETH_PORT_STATUS
  | ETH_PORT_LAT
  | CAN_STATUS
  | CAN_CFG
  | CAN_BTR
  | CAN_DBTR
  | UART_CFG
  | UART_FRAC
  | PCIE_CFG
  | PCIE_IB_BUS_LO
  | PCIE_IB_BUS_HI
  | PCIE_IB_PHYS_LO
  | PCIE_IB_PHYS_HI
  | MIRSIA_STATUS
  | COMMIT_STATUS
  | COMMIT_OUT_LO
  | COMMIT_OUT_HI
  | COMMIT_COUNT
  | COMMIT_SEG_OVERRUN
  | APPAIR_CFG
  | APPAIR_STATUS
  | MIRROR_STATUS
  | MIRROR_CFG
  | MIRROR_SEQ_LO
  | MIRROR_SEQ_HI
  | MIRROR_ACK_LO
  | MIRROR_ACK_HI
  | MIRROR_LAG
  | MIRROR_HB_MISS
  | MIRROR_FN
  | SAFE_STATUS
  | SAFE_CTRL
  | SAFE_REACT
  | SAFE_CAUSE
  | SAFE_TIME_LO
  | SAFE_TIME_HI
  | SAFE_SILO_CFG
  | SAFE_SILO_STR
  | SAFE_SILO_STAT
  | CHKROT_STATUS
  | CHKROT_FAILED_LO
  | CHKROT_FAILED_HI
  | GLN_CTRL
  | GLN_CORE
  | SAFE_STREAM_0
  | SAFE_STREAM_1
  | SEC_STATUS
  | SEC_LC
  | SEC_FUSE_ADDR
  | SEC_FUSE_DATA
  | SEC_FUSE_CTRL
  | PWR_STATUS
  | PWR_LIMIT
  | PWR_PKG_LIMIT
  | PWR_FLOOR
  | PWR_POWER
  | THERM_STATUS
  | THERM_CFG
  | THERM_SENSOR
  | PWR_RAIL
  | TITHE_STATUS
  | TITHE_SEQ
deriving DecidableEq, Repr

/-- Every field of those registers that is not reserved. -/
inductive Fld where
  | PINMUX_STATUS_BUSY
  | PINMUX_STATUS_PIN
  | PINMUX_STATUS_OVR_ACTIVE
  | PINMUX_STATUS_BADSEL
  | PINMUX_STATUS_CONFLICT
  | PINMUX_OVR_EN
  | PINMUX_OVR_STATE
  | PINMUX_OVR_PIN
  | PINCFG_OWNER
  | PINCFG_IN
  | PINCFG_OUT
  | PINCFG_OE
  | PINCFG_FILTER
  | PINCFG_PULL
  | PINCFG_SLEW
  | PINCFG_FUNC
  | CLK_STATUS_BUSY
  | CLK_STATUS_BADCFG
  | CLK_STATUS_RESTORE_FAIL
  | CLK_STATUS_CAUSE
  | CLK_STATUS_ACKED
  | CLK_STATUS_RAMPING
  | CLK_STATUS_REFB_PRESENT
  | CLK_STATUS_TREF_HOLD
  | CLK_STATUS_TREF_LOCK
  | CLK_STATUS_ROOT_LOCK
  | CLK_STATUS_XO_OK
  | CLK_STATUS_LIMP
  | CLK_CTRL_RESTORE
  | CLK_CTRL_REFB_FREQ
  | CLK_CTRL_SSC_DEPTH
  | CLK_ACK_ACK
  | CLK_DIV_SRC
  | CLK_DIV_CURRENT
  | CLK_DIV_TARGET
  | CLKMON_COUNT_REFB
  | CLKMON_COUNT_XO
  | RSTCTL_STATUS_BUSY
  | RSTCTL_STATUS_HOLDOFF
  | RSTCTL_STATUS_PENDING
  | RSTCTL_STATUS_BADKEY
  | RSTCTL_STATUS_BADCFG
  | RSTCTL_STATUS_EARLY_RELEASE
  | RST_CAUSE_MERGED
  | RST_CAUSE_TARGET
  | RST_CAUSE_SRC_DIE
  | RST_CAUSE_SCOPE
  | RST_CAUSE_CAUSE
  | RST_STATUS_TRIM_ERR
  | RST_STATUS_OPT_ABORTS
  | RST_STATUS_DRAM_KEPT
  | RST_STATUS_OPT_BANK
  | RST_STATUS_OPT_INVALID
  | RST_STATUS_OPT_FALLBACK
  | RST_STATUS_BOOTSEL_OPEN
  | RST_STATUS_BOOTSEL_BAD
  | RST_STATUS_BOOTSEL_EFF
  | RST_STATUS_BOOTSEL_RAW
  | RST_SWREQ_KEY
  | RST_SWREQ_TARGET
  | RST_SWREQ_DIE
  | RST_SWREQ_SCOPE
  | RSTCTL_FORCE_GROUPS
  | RSTCTL_STABLE_GROUPS
  | RSTCTL_ISO_GROUPS
  | RST_WDT_EN
  | RST_WDT_TIMEOUT
  | RST_WDT_KICK_KEY
  | FAB_STATUS_BUSY
  | FAB_STATUS_OVERFLOW
  | FAB_STATUS_GUARD
  | FAB_STATUS_DECODE
  | FAB_ERR_ADDR_ADDR
  | FAB_ERR_INFO_WRITE
  | FAB_ERR_INFO_TYPE
  | FAB_ERR_INFO_V
  | FAB_ERR_INFO_PRIV
  | FAB_ERR_INFO_MASTER
  | MB_STATUS_BUSY
  | MB_STATUS_BLACKOUT
  | MB_STATUS_EVT_LOST
  | MB_STATUS_RING_ERR
  | MB_STATUS_RSP_PENDING
  | MB_STATUS_SESSION
  | MB_STATUS_READY
  | MB_REQ_TAIL_INDEX
  | MB_REQ_HEAD_INDEX
  | MB_RSP_TAIL_INDEX
  | MB_RSP_HEAD_INDEX
  | MB_EVT_LOST_LOST
  | MB_REQ_BASE_ADDR
  | MB_RSP_BASE_ADDR
  | MB_NOTIFY_EN
  | MB_NOTIFY_VECTOR
  | GRN_STATUS_BUSY
  | GRN_STATUS_OVERFLOW
  | GRN_STATUS_SCRUB_WRAP
  | GRN_STATUS_SPILLING
  | GRN_STATUS_QUOTA_ERR
  | GRN_STATUS_BADCFG
  | GRN_STATUS_UE
  | GRN_STATUS_CE
  | GRN_ERR_ADDR_ADDR
  | GRN_ERR_INFO_UE
  | GRN_ERR_INFO_ORIGIN
  | GRN_ERR_INFO_UNIT
  | GRN_ERR_INFO_SYNDROME
  | GRN_ERR_INFO_MASTER
  | GRN_CE_COUNT_BG3
  | GRN_CE_COUNT_BG2
  | GRN_CE_COUNT_BG1
  | GRN_CE_COUNT_BG0
  | GRN_UE_COUNT_COUNT
  | GRN_SCRUB_EN
  | GRN_SCRUB_UNIT
  | GRN_SCRUB_PERIOD_H
  | GRN_QUOTA_USED
  | GRN_QUOTA_QUOTA
  | LOFT_STATUS_BUSY
  | LOFT_STATUS_MAP_BUSY
  | LOFT_STATUS_BADCFG
  | LOFT_MAP_STOOK_MIB
  | LOFT_MAP_KV_MIB
  | LOFT_SCRATCH_USED
  | LOFT_SCRATCH_QUOTA
  | DRAM_STATUS_BUSY
  | DRAM_STATUS_OVERFLOW
  | DRAM_STATUS_DERATE
  | DRAM_STATUS_SELF_REFRESH
  | DRAM_STATUS_TRAINED
  | DRAM_STATUS_BADCFG
  | DRAM_STATUS_UE
  | DRAM_STATUS_CE
  | DRAM_ERR_ADDR_ADDR
  | DRAM_ERR_INFO_UE
  | DRAM_ERR_INFO_CHANNEL
  | DRAM_ERR_INFO_BG
  | DRAM_ERR_INFO_BANK
  | DRAM_ERR_INFO_RANK
  | DRAM_ERR_INFO_RETRIES
  | DRAM_ERR_INFO_MASTER
  | DRAM_CE_COUNT_BG3
  | DRAM_CE_COUNT_BG2
  | DRAM_CE_COUNT_BG1
  | DRAM_CE_COUNT_BG0
  | DRAM_UE_COUNT_COUNT
  | DRAM_CFG_PD_IDLE
  | TE_STATUS_BUSY
  | TE_STATUS_LAST_ERR
  | TE_STATUS_SAT_FP
  | TE_STATUS_SAT_INT
  | TE_STATUS_INF
  | TE_STATUS_NAN
  | TE_STATUS_ACTIVE
  | TE_ACTIVE_CYCLES
  | TE_STALL_CYCLES
  | VE_STATUS_BUSY
  | VE_STATUS_LAST_ERR
  | VE_STATUS_SAT_FP
  | VE_STATUS_SAT_INT
  | VE_STATUS_INF
  | VE_STATUS_NAN
  | VE_STATUS_WINDOW
  | VE_STATUS_ACTIVE
  | VE_ACTIVE_CYCLES
  | VE_STALL_CYCLES
  | XE_STATUS_BUSY
  | XE_STATUS_LAST_ERR
  | XE_STATUS_TRUNC
  | XE_STATUS_SAT_INT
  | XE_STATUS_INF
  | XE_STATUS_NAN
  | XE_STATUS_IN_PLACE
  | XE_STATUS_ACTIVE
  | XE_ACTIVE_CYCLES
  | XE_STALL_CYCLES
  | WIN_STATUS_BUSY
  | WIN_STATUS_LIVE_TAPS
  | WIN_STATUS_PASSES
  | WIN_STATUS_FOLD
  | WIN_STATUS_REDUCED
  | WIN_STATUS_S2D
  | WIN_STATUS_ACTIVE
  | KV_STATUS_BUSY
  | KV_STATUS_TABLE_ERR
  | KV_STATUS_WINNOW_SHORT
  | KV_STATUS_NO_PAGE
  | KV_STATUS_SLOT_LOW
  | KV_STATUS_COMMITTING
  | KV_FREE_SLOTS_FREE
  | KV_COW_COUNT
  | KV_EVICT_COUNT
  | SCH_STATUS_BUSY
  | SCH_STATUS_CONFLICT
  | SCH_STATUS_BROKEN
  | SCH_STATUS_DL_MISS
  | SCH_STATUS_BADCFG
  | SCH_STATUS_BLACKOUT
  | SCH_QCTX_BASE_ADDR
  | SCH_QCTL_OP
  | SCH_QCTL_QUEUE
  | SCH_NK_OVERRUN_COUNT
  | SILO_CFG_EN
  | SILO_CFG_CLASS
  | SILO_CFG_HEAD
  | SILO_CFG_PENDING
  | SILO_CFG_SHARE
  | SILO_CFG_G_MIN
  | SILO_MASK_MASK
  | SILO_TIME_QUANTUM
  | SILO_TIME_LEAD
  | SILO_TIME_WAIT_MAX
  | SILO_STAT_SPAN
  | SILO_STAT_RESERVE
  | SILO_STAT_HOLDER
  | QDB_SQ_TAIL_COUNT
  | QDB_CQ_HEAD_COUNT
  | QDB_SQ_HEAD_COUNT
  | QDB_CQ_TAIL_COUNT
  | QDB_STATUS_BUSY
  | QDB_STATUS_CQ_FULL
  | QDB_STATUS_DB_ERR
  | QDB_STATUS_STATE
  | FN_STATUS_BUSY
  | FN_STATUS_ASSIGN
  | FN_STATUS_BADKEY
  | FN_STATUS_MSI_ERR
  | FN_STATUS_FROZEN
  | FN_STATUS_RESET_BUSY
  | FN_STATUS_ENABLED
  | FN_GEN_GEN
  | FN_RESET_KEY
  | FN_LATE_COUNT
  | FN_CFG_ASSIGN
  | FN_CFG_QUOTA
  | FN_CFG_VECTORS
  | FN_STATE_STATE
  | FN_STATE_GEN
  | FN_APER_BASE
  | RAS_STATUS_BUSY
  | RAS_STATUS_CLASS1
  | RAS_STATUS_CTX1
  | RAS_STATUS_CTX0
  | RAS_STATUS_FLUSH
  | RAS_STATUS_STOOK_BUSY
  | RAS_STATUS_BADCFG
  | RAS_STOOK_SIZE_MIB
  | RAS_STOOK_LOC
  | RAS_STOOK_ADDR_ADDR
  | RAS_FLUSH_COUNT_COUNT
  | RAS_STOOK_PEAK_COUNT
  | DISP_STATUS_BUSY
  | DISP_STATUS_CONFLICT
  | DISP_STATUS_HPD
  | DISP_STATUS_UNDERRUN
  | DISP_STATUS_REPEAT
  | HEAD_CTRL_EN
  | HEAD_CTRL_BPC10
  | HEAD_HTIME_H_TOTAL
  | HEAD_HTIME_H_ACTIVE
  | HEAD_HSYNC_POL
  | HEAD_HSYNC_WIDTH
  | HEAD_HSYNC_START
  | HEAD_VTIME_V_TOTAL
  | HEAD_VTIME_V_ACTIVE
  | HEAD_VSYNC_POL
  | HEAD_VSYNC_WIDTH
  | HEAD_VSYNC_START
  | HEAD_PCLK_KHZ
  | HEAD_IMG_ADDR
  | HEAD_REPEAT_COUNT
  | HEAD_UNDERRUN_COUNT
  | HEAD_VBLANK_TIME
  | HEAD_LINK_TRAINED
  | HEAD_LINK_LANES
  | HEAD_LINK_RATE
  | HEAD_FILL_COLOUR
  | CSI_STATUS_BUSY
  | CSI_STATUS_CONFLICT
  | CSI_STATUS_BADCFG
  | CSI_STATUS_PHY_ERR
  | CSI_STATUS_LOCK
  | CSI_PHY_MODE
  | CSI_PHY_LANES
  | CSI_PHY_RATE
  | CSI_PKT_ERR_UNKNOWN
  | CSI_PKT_ERR_ECC_FIX
  | STR_CFG_EN
  | STR_CFG_SRC
  | STR_CFG_LINESCAN
  | STR_CFG_GOLD_EN
  | STR_CFG_VC
  | STR_CFG_DT
  | STR_CFG_OUT_FMT
  | STR_CFG_TB
  | STR_CFG_ODO
  | STR_CFG_TRIG_EN
  | STR_CFG_TRIG
  | STR_GEOM_HEIGHT
  | STR_GEOM_WIDTH
  | STR_BUF_X0
  | STR_BUF_NBUF
  | STR_HANDLE_HANDLE
  | STR_OUT_OFF_OFF
  | STR_FSTRIDE_STRIDE
  | STR_REC_ADDR
  | STR_REL_ADDR
  | STR_GOLD_UDP_PORT
  | STR_GOLD_PERIOD
  | STR_GOLD_HANDLE_HANDLE
  | STR_EXPECT_0_SIG
  | STR_EXPECT_1_SIG
  | STR_EXPECT_2_SIG
  | STR_EXPECT_3_SIG
  | STR_FRAMES_COUNT
  | STR_STATE_FROZEN
  | STR_STATE_INJECTING
  | STR_STATE_DEFER
  | STR_DROP_COUNT
  | STR_DAMAGED_COUNT
  | STR_DISPLACED_COUNT
  | ODO_STATUS_BUSY
  | ODO_STATUS_BADCFG
  | ODO_STATUS_STILL
  | ODO_STATUS_SLIP
  | ODO_STATUS_FAULT
  | ODO_STATUS_ZSEEN
  | ODO_CFG_EN
  | ODO_CFG_INVERT
  | ODO_CFG_FALLBACK
  | ODO_CFG_REF
  | ODO_CFG_DEB
  | ODO_CFG_CPR
  | ODO_SLIP_STILL_MAX
  | ODO_SLIP_TOL
  | ODO_SLIP_WIN
  | ODO_RATIO_RATIO
  | ODO_COUNT_COUNT
  | ODO_DIST_DIST
  | ODO_ZCOUNT_DIST
  | ODO_SPEED_SPEED
  | ODO_ERR_COUNT
  | TACH_CFG_EN
  | TACH_CFG_DEB
  | TACH_PULSES_COUNT
  | TACH_PERIOD_CYCLES
  | TB_STATUS_BUSY
  | TB_STATUS_HOLD
  | TB_STATUS_STEPPED
  | TB_STATUS_CONFLICT
  | TB_STATUS_BADCFG
  | TB_CFG_EN
  | TB_CFG_SRC
  | TB_CFG_DEGRADED
  | TB_CFG_HOLDOVER
  | TB_CFG_HOLD_S
  | TB_GAIN_KP
  | TB_GAIN_KI
  | TB_ADJ_ADJ
  | TB_INTEG_I
  | TB_NSEC_NSEC
  | TB_SEC_SEC
  | TB_FRAC_FRAC
  | TB_NS64_TIME
  | TB_OFFSET_THETA
  | TB_SETSEC_SEC
  | TB_SETNSEC_NSEC
  | TB_LAST_OFF_THETA
  | PPS_OUT_CFG_EN
  | PPS_OUT_CFG_TB
  | PPS_OUT_CFG_WIDTH
  | PPS_IN_DELAY_DELAY
  | TRG_CFG_MODE
  | TRG_CFG_SRC
  | TRG_CFG_DIR
  | TRG_CFG_PIN
  | TRG_CFG_CTRL
  | TRG_CFG_POL
  | TRG_CFG_WIDTH
  | TRG_START_START
  | TRG_PERIOD_PERIOD
  | TRG_COUNT_COUNT
  | TRG_MISSED_COUNT
  | TSCAP_CFG_EN
  | TSCAP_CFG_EDGE
  | TSCAP_CFG_TB
  | TSCAP_STAMP_TIME
  | TSCAP_STATUS_OVERRUN
  | TSCAP_STATUS_VALID
  | CMP32_CFG_EN
  | CMP32_CFG_TB
  | CMP32_SEC_SEC
  | CMP32_NSEC_NSEC
  | CMP32_STATUS_MATCH
  | FBR_STATUS_BUSY
  | FBR_STATUS_BADCFG
  | FBR_STATUS_SEM_HELD
  | FBR_STATUS_SEM_TIMEOUT
  | FBR_STATUS_LIVELOCK
  | FBR_STATUS_PWERR
  | FBR_ERR_ADDR_ADDR
  | FBR_ERR_INFO_CAUSE
  | FBR_ERR_INFO_BE
  | FBR_ERR_INFO_MASTER
  | FBR_ERR_OVERFLOW_COUNT
  | FBR_LL_MASTER_MASTER
  | FBR_SEM_HELD
  | FBR_SEM_RELEASE
  | FBR_SEM_HOLDER
  | FBR_RANGE_EN
  | FBR_RANGE_POSTED
  | FBR_RANGE_COUNT
  | FBR_RANGE_BASE
  | ETH_PORT_CFG_EN
  | ETH_PORT_CFG_AN
  | ETH_PORT_CFG_FEC
  | ETH_PORT_CFG_SPEED
  | ETH_PORT_STATUS_LINK
  | ETH_PORT_STATUS_SPEED
  | ETH_PORT_LAT_LAT_OUT
  | ETH_PORT_LAT_LAT_IN
  | CAN_STATUS_BUSY
  | CAN_STATUS_BUSOFF
  | CAN_STATUS_PASSIVE
  | CAN_STATUS_LOST
  | CAN_STATUS_TEC
  | CAN_STATUS_REC
  | CAN_CFG_EN
  | CAN_CFG_SRST
  | CAN_CFG_FD
  | CAN_CFG_MANUAL
  | CAN_CFG_TB
  | CAN_BTR_PRESC
  | CAN_BTR_TSEG1
  | CAN_BTR_TSEG2
  | CAN_BTR_SJW
  | CAN_DBTR_PRESC
  | CAN_DBTR_TSEG1
  | CAN_DBTR_TSEG2
  | CAN_DBTR_SJW
  | CAN_DBTR_TDCO
  | UART_CFG_EN
  | UART_CFG_RS485
  | UART_CFG_PARITY
  | UART_CFG_BITS8
  | UART_CFG_STOP2
  | UART_CFG_DE_LEAD
  | UART_CFG_DE_TAIL
  | UART_CFG_DIV
  | UART_CFG_DIVF_HI
  | UART_FRAC_DIVF_LO
  | PCIE_CFG_EN
  | PCIE_CFG_ROLE
  | PCIE_CFG_REFCLK_OUT
  | PCIE_CFG_WIDTH
  | PCIE_CFG_RATE
  | PCIE_IB_BUS_ADDR
  | PCIE_IB_PHYS_ADDR
  | MIRSIA_STATUS_UP
  | MIRSIA_STATUS_DOWN
  | MIRSIA_STATUS_REPAIRED
  | MIRSIA_STATUS_RETRAINS
  | COMMIT_STATUS_BUSY
  | COMMIT_STATUS_SEG_OVERRUN
  | COMMIT_STATUS_INVALID
  | COMMIT_STATUS_REMOVED
  | COMMIT_STATUS_TRANSIENT
  | COMMIT_STATUS_SEQ_ACTIVE
  | COMMIT_STATUS_MISMATCH
  | COMMIT_OUT_CORES
  | COMMIT_COUNT_PERSISTENT
  | COMMIT_COUNT_TRANSIENT
  | COMMIT_SEG_OVERRUN_COUNT
  | APPAIR_CFG_EN1
  | APPAIR_CFG_EN0
  | APPAIR_STATUS_OUT
  | APPAIR_STATUS_DEGRADED
  | APPAIR_STATUS_ACTIVE
  | MIRROR_STATUS_BUSY
  | MIRROR_STATUS_LANES
  | MIRROR_STATUS_ROLE_ERR
  | MIRROR_STATUS_UNSYNC
  | MIRROR_STATUS_HANDOVER
  | MIRROR_STATUS_ALT_OK
  | MIRROR_STATUS_LINK_UP
  | MIRROR_STATUS_ROLE
  | MIRROR_STATUS_HB_LOST
  | MIRROR_CFG_EN
  | MIRROR_CFG_ROLE_REQ
  | MIRROR_CFG_ALT_EN
  | MIRROR_CFG_ALT_PORT
  | MIRROR_SEQ_SEQ
  | MIRROR_ACK_SEQ
  | MIRROR_LAG_COUNT
  | MIRROR_HB_MISS_COUNT
  | MIRROR_FN_EN
  | MIRROR_FN_SYNCED
  | MIRROR_FN_FUNCTION
  | SAFE_STATUS_BUSY
  | SAFE_STATUS_BADCFG
  | SAFE_STATUS_MSG_SENT
  | SAFE_STATUS_OUT1
  | SAFE_STATUS_OUT0
  | SAFE_STATUS_SEC_OK
  | SAFE_STATUS_STANDBY
  | SAFE_STATUS_ARMED
  | SAFE_STATUS_ENTERED
  | SAFE_STATUS_SAFE
  | SAFE_CTRL_ARM
  | SAFE_CTRL_CLEAR
  | SAFE_CTRL_FTTI_MS
  | SAFE_REACT_ACT
  | SAFE_CAUSE_SOURCE
  | SAFE_CAUSE_DIE
  | SAFE_CAUSE_SILO
  | SAFE_CAUSE_HAS_SILO
  | SAFE_TIME_TIME
  | SAFE_SILO_CFG_EN
  | SAFE_SILO_CFG_TOL
  | SAFE_SILO_CFG_ODO
  | SAFE_SILO_STR_EN1
  | SAFE_SILO_STR_STREAM1
  | SAFE_SILO_STR_EN0
  | SAFE_SILO_STR_STREAM0
  | SAFE_SILO_STAT_INVALID_RUN
  | SAFE_SILO_STAT_MISSING
  | CHKROT_STATUS_BUSY
  | CHKROT_STATUS_NEXT
  | CHKROT_STATUS_UNITS
  | CHKROT_STATUS_LAPSE
  | CHKROT_STATUS_FAIL
  | CHKROT_FAILED_ORDER
  | GLN_CTRL_EN
  | GLN_CTRL_TESTING
  | GLN_CORE_KILLS
  | GLN_CORE_FAILED
  | GLN_CORE_S_EXCLUDED
  | GLN_CORE_LAPSE
  | GLN_CORE_TESTING
  | GLN_CORE_AGE
  | SAFE_STREAM_0_EN
  | SAFE_STREAM_0_DIE
  | SAFE_STREAM_0_SILO
  | SAFE_STREAM_0_HANDLE
  | SAFE_STREAM_1_OFFSET
  | SEC_STATUS_BUSY
  | SEC_STATUS_LAST_FAIL
  | SEC_STATUS_DBG_LOCKOUT
  | SEC_STATUS_DBG_AUTH
  | SEC_STATUS_BOOT_FAIL
  | SEC_STATUS_SLOT_FAIL
  | SEC_STATUS_SLOT
  | SEC_LC_SVN_FUSE
  | SEC_LC_REVOKED
  | SEC_LC_USE_DBG
  | SEC_LC_USE_FW
  | SEC_LC_LC
  | SEC_FUSE_ADDR_WORD
  | SEC_FUSE_DATA_VALUE
  | SEC_FUSE_CTRL_GO
  | SEC_FUSE_CTRL_REFUSED
  | SEC_FUSE_CTRL_ACTIVE
  | PWR_STATUS_BUSY
  | PWR_STATUS_LEVEL
  | PWR_STATUS_ARITH_STEP
  | PWR_STATUS_TRIP
  | PWR_STATUS_PFAIL
  | PWR_STATUS_THERM
  | PWR_STATUS_PMBUS_ERR
  | PWR_STATUS_BADCFG
  | PWR_LIMIT_DIE_LIMIT
  | PWR_PKG_LIMIT_PKG_LIMIT
  | PWR_FLOOR_FLOOR
  | PWR_POWER_P1MS
  | PWR_POWER_P100
  | THERM_STATUS_VALID
  | THERM_STATUS_SENSOR
  | THERM_STATUS_TEMP
  | THERM_CFG_THROTTLE_C
  | THERM_SENSOR_TEMP
  | PWR_RAIL_EN
  | PWR_RAIL_RAIL
  | PWR_RAIL_PAGE
  | PWR_RAIL_ADDR
  | TITHE_STATUS_WRITE_ERR
  | TITHE_STATUS_SKIPPED
  | TITHE_STATUS_FRESH
  | TITHE_STATUS_ERASING
  | TITHE_STATUS_WRITING
  | TITHE_STATUS_BANK
  | TITHE_SEQ_SEQ
deriving DecidableEq, Repr

end Sys2Proof.Machine
end

