-- ==== Sys2Proof/Machine/Reg.lean ====
section
/-!
DEFINITION. Machine/Reg.lean: the layout of every register: its block, offset and repetition, and the place, access code and
guard of each field, copied from the register tables of the spec (chapters 02 to 22). Reserved bits are in no segment:
they read zero and ignore writes (R104).
-/

namespace Sys2Proof.Machine

/-- Access codes of R11. -/
inductive Acc where
  | ro | rw | rwp | rc | wo
deriving DecidableEq, Repr

/-- Which half of a 64-bit pair under R101 a register is, if any. -/
inductive Half where
  | single | lo | hi
deriving DecidableEq, Repr

/-- One field's place in a register: bits [hi:lo] show the field's bits from flo on. -/
structure Seg where
  hi : Nat
  lo : Nat
  fld : Fld
  flo : Nat
  acc : Acc
  guarded : Bool
deriving DecidableEq, Repr

/-- One register: offset in its block, repetition as (stride, count) from the outermost in, and its fields. -/
structure RegDesc where
  name : RegName
  blk : Blk
  off : Nat
  dims : List (Nat × Nat)
  half : Half
  segs : List Seg
deriving DecidableEq, Repr

/-- Width of each field in bits. -/
def Fld.width : Fld → Nat
  | .PINMUX_STATUS_BUSY => 1
  | .PINMUX_STATUS_PIN => 10
  | .PINMUX_STATUS_OVR_ACTIVE => 1
  | .PINMUX_STATUS_BADSEL => 1
  | .PINMUX_STATUS_CONFLICT => 1
  | .PINMUX_OVR_EN => 1
  | .PINMUX_OVR_STATE => 2
  | .PINMUX_OVR_PIN => 10
  | .PINCFG_OWNER => 16
  | .PINCFG_IN => 1
  | .PINCFG_OUT => 1
  | .PINCFG_OE => 1
  | .PINCFG_FILTER => 4
  | .PINCFG_PULL => 2
  | .PINCFG_SLEW => 2
  | .PINCFG_FUNC => 4
  | .CLK_STATUS_BUSY => 1
  | .CLK_STATUS_BADCFG => 1
  | .CLK_STATUS_RESTORE_FAIL => 1
  | .CLK_STATUS_CAUSE => 2
  | .CLK_STATUS_ACKED => 1
  | .CLK_STATUS_RAMPING => 1
  | .CLK_STATUS_REFB_PRESENT => 1
  | .CLK_STATUS_TREF_HOLD => 1
  | .CLK_STATUS_TREF_LOCK => 1
  | .CLK_STATUS_ROOT_LOCK => 1
  | .CLK_STATUS_XO_OK => 1
  | .CLK_STATUS_LIMP => 1
  | .CLK_CTRL_RESTORE => 1
  | .CLK_CTRL_REFB_FREQ => 2
  | .CLK_CTRL_SSC_DEPTH => 3
  | .CLK_ACK_ACK => 1
  | .CLK_DIV_SRC => 2
  | .CLK_DIV_CURRENT => 10
  | .CLK_DIV_TARGET => 10
  | .CLKMON_COUNT_REFB => 16
  | .CLKMON_COUNT_XO => 16
  | .RSTCTL_STATUS_BUSY => 1
  | .RSTCTL_STATUS_HOLDOFF => 1
  | .RSTCTL_STATUS_PENDING => 1
  | .RSTCTL_STATUS_BADKEY => 1
  | .RSTCTL_STATUS_BADCFG => 1
  | .RSTCTL_STATUS_EARLY_RELEASE => 1
  | .RST_CAUSE_MERGED => 1
  | .RST_CAUSE_TARGET => 3
  | .RST_CAUSE_SRC_DIE => 3
  | .RST_CAUSE_SCOPE => 2
  | .RST_CAUSE_CAUSE => 4
  | .RST_STATUS_TRIM_ERR => 1
  | .RST_STATUS_OPT_ABORTS => 2
  | .RST_STATUS_DRAM_KEPT => 1
  | .RST_STATUS_OPT_BANK => 1
  | .RST_STATUS_OPT_INVALID => 1
  | .RST_STATUS_OPT_FALLBACK => 1
  | .RST_STATUS_BOOTSEL_OPEN => 1
  | .RST_STATUS_BOOTSEL_BAD => 1
  | .RST_STATUS_BOOTSEL_EFF => 4
  | .RST_STATUS_BOOTSEL_RAW => 4
  | .RST_SWREQ_KEY => 8
  | .RST_SWREQ_TARGET => 3
  | .RST_SWREQ_DIE => 3
  | .RST_SWREQ_SCOPE => 2
  | .RSTCTL_FORCE_GROUPS => 20
  | .RSTCTL_STABLE_GROUPS => 20
  | .RSTCTL_ISO_GROUPS => 20
  | .RST_WDT_EN => 1
  | .RST_WDT_TIMEOUT => 10
  | .RST_WDT_KICK_KEY => 16
  | .FAB_STATUS_BUSY => 1
  | .FAB_STATUS_OVERFLOW => 15
  | .FAB_STATUS_GUARD => 1
  | .FAB_STATUS_DECODE => 1
  | .FAB_ERR_ADDR_ADDR => 48
  | .FAB_ERR_INFO_WRITE => 1
  | .FAB_ERR_INFO_TYPE => 3
  | .FAB_ERR_INFO_V => 1
  | .FAB_ERR_INFO_PRIV => 2
  | .FAB_ERR_INFO_MASTER => 12
  | .MB_STATUS_BUSY => 1
  | .MB_STATUS_BLACKOUT => 1
  | .MB_STATUS_EVT_LOST => 1
  | .MB_STATUS_RING_ERR => 1
  | .MB_STATUS_RSP_PENDING => 1
  | .MB_STATUS_SESSION => 1
  | .MB_STATUS_READY => 1
  | .MB_REQ_TAIL_INDEX => 9
  | .MB_REQ_HEAD_INDEX => 9
  | .MB_RSP_TAIL_INDEX => 9
  | .MB_RSP_HEAD_INDEX => 9
  | .MB_EVT_LOST_LOST => 16
  | .MB_REQ_BASE_ADDR => 48
  | .MB_RSP_BASE_ADDR => 48
  | .MB_NOTIFY_EN => 1
  | .MB_NOTIFY_VECTOR => 11
  | .GRN_STATUS_BUSY => 1
  | .GRN_STATUS_OVERFLOW => 15
  | .GRN_STATUS_SCRUB_WRAP => 1
  | .GRN_STATUS_SPILLING => 1
  | .GRN_STATUS_QUOTA_ERR => 1
  | .GRN_STATUS_BADCFG => 1
  | .GRN_STATUS_UE => 1
  | .GRN_STATUS_CE => 1
  | .GRN_ERR_ADDR_ADDR => 48
  | .GRN_ERR_INFO_UE => 1
  | .GRN_ERR_INFO_ORIGIN => 3
  | .GRN_ERR_INFO_UNIT => 3
  | .GRN_ERR_INFO_SYNDROME => 9
  | .GRN_ERR_INFO_MASTER => 12
  | .GRN_CE_COUNT_BG3 => 8
  | .GRN_CE_COUNT_BG2 => 8
  | .GRN_CE_COUNT_BG1 => 8
  | .GRN_CE_COUNT_BG0 => 8
  | .GRN_UE_COUNT_COUNT => 16
  | .GRN_SCRUB_EN => 1
  | .GRN_SCRUB_UNIT => 3
  | .GRN_SCRUB_PERIOD_H => 5
  | .GRN_QUOTA_USED => 11
  | .GRN_QUOTA_QUOTA => 11
  | .LOFT_STATUS_BUSY => 1
  | .LOFT_STATUS_MAP_BUSY => 1
  | .LOFT_STATUS_BADCFG => 1
  | .LOFT_MAP_STOOK_MIB => 5
  | .LOFT_MAP_KV_MIB => 4
  | .LOFT_SCRATCH_USED => 9
  | .LOFT_SCRATCH_QUOTA => 9
  | .DRAM_STATUS_BUSY => 1
  | .DRAM_STATUS_OVERFLOW => 15
  | .DRAM_STATUS_DERATE => 1
  | .DRAM_STATUS_SELF_REFRESH => 1
  | .DRAM_STATUS_TRAINED => 1
  | .DRAM_STATUS_BADCFG => 1
  | .DRAM_STATUS_UE => 1
  | .DRAM_STATUS_CE => 1
  | .DRAM_ERR_ADDR_ADDR => 48
  | .DRAM_ERR_INFO_UE => 1
  | .DRAM_ERR_INFO_CHANNEL => 3
  | .DRAM_ERR_INFO_BG => 2
  | .DRAM_ERR_INFO_BANK => 2
  | .DRAM_ERR_INFO_RANK => 1
  | .DRAM_ERR_INFO_RETRIES => 2
  | .DRAM_ERR_INFO_MASTER => 12
  | .DRAM_CE_COUNT_BG3 => 8
  | .DRAM_CE_COUNT_BG2 => 8
  | .DRAM_CE_COUNT_BG1 => 8
  | .DRAM_CE_COUNT_BG0 => 8
  | .DRAM_UE_COUNT_COUNT => 16
  | .DRAM_CFG_PD_IDLE => 8
  | .TE_STATUS_BUSY => 1
  | .TE_STATUS_LAST_ERR => 4
  | .TE_STATUS_SAT_FP => 1
  | .TE_STATUS_SAT_INT => 1
  | .TE_STATUS_INF => 1
  | .TE_STATUS_NAN => 1
  | .TE_STATUS_ACTIVE => 1
  | .TE_ACTIVE_CYCLES => 64
  | .TE_STALL_CYCLES => 64
  | .VE_STATUS_BUSY => 1
  | .VE_STATUS_LAST_ERR => 4
  | .VE_STATUS_SAT_FP => 1
  | .VE_STATUS_SAT_INT => 1
  | .VE_STATUS_INF => 1
  | .VE_STATUS_NAN => 1
  | .VE_STATUS_WINDOW => 1
  | .VE_STATUS_ACTIVE => 1
  | .VE_ACTIVE_CYCLES => 64
  | .VE_STALL_CYCLES => 64
  | .XE_STATUS_BUSY => 1
  | .XE_STATUS_LAST_ERR => 4
  | .XE_STATUS_TRUNC => 1
  | .XE_STATUS_SAT_INT => 1
  | .XE_STATUS_INF => 1
  | .XE_STATUS_NAN => 1
  | .XE_STATUS_IN_PLACE => 1
  | .XE_STATUS_ACTIVE => 1
  | .XE_ACTIVE_CYCLES => 64
  | .XE_STALL_CYCLES => 64
  | .WIN_STATUS_BUSY => 1
  | .WIN_STATUS_LIVE_TAPS => 12
  | .WIN_STATUS_PASSES => 7
  | .WIN_STATUS_FOLD => 1
  | .WIN_STATUS_REDUCED => 1
  | .WIN_STATUS_S2D => 1
  | .WIN_STATUS_ACTIVE => 1
  | .KV_STATUS_BUSY => 1
  | .KV_STATUS_TABLE_ERR => 1
  | .KV_STATUS_WINNOW_SHORT => 1
  | .KV_STATUS_NO_PAGE => 1
  | .KV_STATUS_SLOT_LOW => 1
  | .KV_STATUS_COMMITTING => 1
  | .KV_FREE_SLOTS_FREE => 20
  | .KV_COW_COUNT => 32
  | .KV_EVICT_COUNT => 32
  | .SCH_STATUS_BUSY => 1
  | .SCH_STATUS_CONFLICT => 1
  | .SCH_STATUS_BROKEN => 1
  | .SCH_STATUS_DL_MISS => 1
  | .SCH_STATUS_BADCFG => 1
  | .SCH_STATUS_BLACKOUT => 1
  | .SCH_QCTX_BASE_ADDR => 48
  | .SCH_QCTL_OP => 2
  | .SCH_QCTL_QUEUE => 16
  | .SCH_NK_OVERRUN_COUNT => 32
  | .SILO_CFG_EN => 1
  | .SILO_CFG_CLASS => 3
  | .SILO_CFG_HEAD => 2
  | .SILO_CFG_PENDING => 1
  | .SILO_CFG_SHARE => 8
  | .SILO_CFG_G_MIN => 6
  | .SILO_MASK_MASK => 48
  | .SILO_TIME_QUANTUM => 8
  | .SILO_TIME_LEAD => 8
  | .SILO_TIME_WAIT_MAX => 16
  | .SILO_STAT_SPAN => 8
  | .SILO_STAT_RESERVE => 1
  | .SILO_STAT_HOLDER => 16
  | .QDB_SQ_TAIL_COUNT => 32
  | .QDB_CQ_HEAD_COUNT => 32
  | .QDB_SQ_HEAD_COUNT => 32
  | .QDB_CQ_TAIL_COUNT => 32
  | .QDB_STATUS_BUSY => 1
  | .QDB_STATUS_CQ_FULL => 1
  | .QDB_STATUS_DB_ERR => 1
  | .QDB_STATUS_STATE => 8
  | .FN_STATUS_BUSY => 1
  | .FN_STATUS_ASSIGN => 2
  | .FN_STATUS_BADKEY => 1
  | .FN_STATUS_MSI_ERR => 1
  | .FN_STATUS_FROZEN => 1
  | .FN_STATUS_RESET_BUSY => 1
  | .FN_STATUS_ENABLED => 1
  | .FN_GEN_GEN => 16
  | .FN_RESET_KEY => 8
  | .FN_LATE_COUNT => 32
  | .FN_CFG_ASSIGN => 2
  | .FN_CFG_QUOTA => 11
  | .FN_CFG_VECTORS => 7
  | .FN_STATE_STATE => 2
  | .FN_STATE_GEN => 16
  | .FN_APER_BASE => 48
  | .RAS_STATUS_BUSY => 1
  | .RAS_STATUS_CLASS1 => 3
  | .RAS_STATUS_CTX1 => 1
  | .RAS_STATUS_CTX0 => 1
  | .RAS_STATUS_FLUSH => 1
  | .RAS_STATUS_STOOK_BUSY => 1
  | .RAS_STATUS_BADCFG => 1
  | .RAS_STOOK_SIZE_MIB => 7
  | .RAS_STOOK_LOC => 2
  | .RAS_STOOK_ADDR_ADDR => 48
  | .RAS_FLUSH_COUNT_COUNT => 32
  | .RAS_STOOK_PEAK_COUNT => 32
  | .DISP_STATUS_BUSY => 1
  | .DISP_STATUS_CONFLICT => 1
  | .DISP_STATUS_HPD => 4
  | .DISP_STATUS_UNDERRUN => 4
  | .DISP_STATUS_REPEAT => 4
  | .HEAD_CTRL_EN => 1
  | .HEAD_CTRL_BPC10 => 1
  | .HEAD_HTIME_H_TOTAL => 16
  | .HEAD_HTIME_H_ACTIVE => 16
  | .HEAD_HSYNC_POL => 1
  | .HEAD_HSYNC_WIDTH => 15
  | .HEAD_HSYNC_START => 16
  | .HEAD_VTIME_V_TOTAL => 16
  | .HEAD_VTIME_V_ACTIVE => 16
  | .HEAD_VSYNC_POL => 1
  | .HEAD_VSYNC_WIDTH => 15
  | .HEAD_VSYNC_START => 16
  | .HEAD_PCLK_KHZ => 20
  | .HEAD_IMG_ADDR => 48
  | .HEAD_REPEAT_COUNT => 32
  | .HEAD_UNDERRUN_COUNT => 32
  | .HEAD_VBLANK_TIME => 64
  | .HEAD_LINK_TRAINED => 1
  | .HEAD_LINK_LANES => 4
  | .HEAD_LINK_RATE => 4
  | .HEAD_FILL_COLOUR => 30
  | .CSI_STATUS_BUSY => 1
  | .CSI_STATUS_CONFLICT => 1
  | .CSI_STATUS_BADCFG => 1
  | .CSI_STATUS_PHY_ERR => 1
  | .CSI_STATUS_LOCK => 1
  | .CSI_PHY_MODE => 2
  | .CSI_PHY_LANES => 2
  | .CSI_PHY_RATE => 13
  | .CSI_PKT_ERR_UNKNOWN => 16
  | .CSI_PKT_ERR_ECC_FIX => 16
  | .STR_CFG_EN => 1
  | .STR_CFG_SRC => 1
  | .STR_CFG_LINESCAN => 1
  | .STR_CFG_GOLD_EN => 1
  | .STR_CFG_VC => 4
  | .STR_CFG_DT => 6
  | .STR_CFG_OUT_FMT => 4
  | .STR_CFG_TB => 3
  | .STR_CFG_ODO => 2
  | .STR_CFG_TRIG_EN => 1
  | .STR_CFG_TRIG => 5
  | .STR_GEOM_HEIGHT => 16
  | .STR_GEOM_WIDTH => 16
  | .STR_BUF_X0 => 16
  | .STR_BUF_NBUF => 4
  | .STR_HANDLE_HANDLE => 32
  | .STR_OUT_OFF_OFF => 32
  | .STR_FSTRIDE_STRIDE => 32
  | .STR_REC_ADDR => 48
  | .STR_REL_ADDR => 48
  | .STR_GOLD_UDP_PORT => 16
  | .STR_GOLD_PERIOD => 16
  | .STR_GOLD_HANDLE_HANDLE => 32
  | .STR_EXPECT_0_SIG => 32
  | .STR_EXPECT_1_SIG => 32
  | .STR_EXPECT_2_SIG => 32
  | .STR_EXPECT_3_SIG => 32
  | .STR_FRAMES_COUNT => 64
  | .STR_STATE_FROZEN => 1
  | .STR_STATE_INJECTING => 1
  | .STR_STATE_DEFER => 3
  | .STR_DROP_COUNT => 32
  | .STR_DAMAGED_COUNT => 32
  | .STR_DISPLACED_COUNT => 32
  | .ODO_STATUS_BUSY => 1
  | .ODO_STATUS_BADCFG => 1
  | .ODO_STATUS_STILL => 4
  | .ODO_STATUS_SLIP => 4
  | .ODO_STATUS_FAULT => 4
  | .ODO_STATUS_ZSEEN => 4
  | .ODO_CFG_EN => 1
  | .ODO_CFG_INVERT => 1
  | .ODO_CFG_FALLBACK => 1
  | .ODO_CFG_REF => 3
  | .ODO_CFG_DEB => 10
  | .ODO_CFG_CPR => 16
  | .ODO_SLIP_STILL_MAX => 16
  | .ODO_SLIP_TOL => 8
  | .ODO_SLIP_WIN => 8
  | .ODO_RATIO_RATIO => 32
  | .ODO_COUNT_COUNT => 64
  | .ODO_DIST_DIST => 64
  | .ODO_ZCOUNT_DIST => 64
  | .ODO_SPEED_SPEED => 32
  | .ODO_ERR_COUNT => 32
  | .TACH_CFG_EN => 1
  | .TACH_CFG_DEB => 10
  | .TACH_PULSES_COUNT => 32
  | .TACH_PERIOD_CYCLES => 32
  | .TB_STATUS_BUSY => 1
  | .TB_STATUS_HOLD => 8
  | .TB_STATUS_STEPPED => 8
  | .TB_STATUS_CONFLICT => 1
  | .TB_STATUS_BADCFG => 1
  | .TB_CFG_EN => 1
  | .TB_CFG_SRC => 2
  | .TB_CFG_DEGRADED => 1
  | .TB_CFG_HOLDOVER => 1
  | .TB_CFG_HOLD_S => 8
  | .TB_GAIN_KP => 16
  | .TB_GAIN_KI => 16
  | .TB_ADJ_ADJ => 32
  | .TB_INTEG_I => 32
  | .TB_NSEC_NSEC => 30
  | .TB_SEC_SEC => 64
  | .TB_FRAC_FRAC => 16
  | .TB_NS64_TIME => 64
  | .TB_OFFSET_THETA => 64
  | .TB_SETSEC_SEC => 64
  | .TB_SETNSEC_NSEC => 30
  | .TB_LAST_OFF_THETA => 32
  | .PPS_OUT_CFG_EN => 1
  | .PPS_OUT_CFG_TB => 3
  | .PPS_OUT_CFG_WIDTH => 20
  | .PPS_IN_DELAY_DELAY => 32
  | .TRG_CFG_MODE => 2
  | .TRG_CFG_SRC => 3
  | .TRG_CFG_DIR => 2
  | .TRG_CFG_PIN => 1
  | .TRG_CFG_CTRL => 1
  | .TRG_CFG_POL => 1
  | .TRG_CFG_WIDTH => 20
  | .TRG_START_START => 64
  | .TRG_PERIOD_PERIOD => 32
  | .TRG_COUNT_COUNT => 64
  | .TRG_MISSED_COUNT => 32
  | .TSCAP_CFG_EN => 1
  | .TSCAP_CFG_EDGE => 2
  | .TSCAP_CFG_TB => 3
  | .TSCAP_STAMP_TIME => 64
  | .TSCAP_STATUS_OVERRUN => 1
  | .TSCAP_STATUS_VALID => 1
  | .CMP32_CFG_EN => 1
  | .CMP32_CFG_TB => 3
  | .CMP32_SEC_SEC => 32
  | .CMP32_NSEC_NSEC => 30
  | .CMP32_STATUS_MATCH => 1
  | .FBR_STATUS_BUSY => 1
  | .FBR_STATUS_BADCFG => 1
  | .FBR_STATUS_SEM_HELD => 1
  | .FBR_STATUS_SEM_TIMEOUT => 1
  | .FBR_STATUS_LIVELOCK => 1
  | .FBR_STATUS_PWERR => 1
  | .FBR_ERR_ADDR_ADDR => 48
  | .FBR_ERR_INFO_CAUSE => 2
  | .FBR_ERR_INFO_BE => 4
  | .FBR_ERR_INFO_MASTER => 12
  | .FBR_ERR_OVERFLOW_COUNT => 16
  | .FBR_LL_MASTER_MASTER => 12
  | .FBR_SEM_HELD => 1
  | .FBR_SEM_RELEASE => 1
  | .FBR_SEM_HOLDER => 12
  | .FBR_RANGE_EN => 1
  | .FBR_RANGE_POSTED => 1
  | .FBR_RANGE_COUNT => 12
  | .FBR_RANGE_BASE => 12
  | .ETH_PORT_CFG_EN => 1
  | .ETH_PORT_CFG_AN => 1
  | .ETH_PORT_CFG_FEC => 2
  | .ETH_PORT_CFG_SPEED => 4
  | .ETH_PORT_STATUS_LINK => 1
  | .ETH_PORT_STATUS_SPEED => 4
  | .ETH_PORT_LAT_LAT_OUT => 16
  | .ETH_PORT_LAT_LAT_IN => 16
  | .CAN_STATUS_BUSY => 1
  | .CAN_STATUS_BUSOFF => 1
  | .CAN_STATUS_PASSIVE => 1
  | .CAN_STATUS_LOST => 8
  | .CAN_STATUS_TEC => 8
  | .CAN_STATUS_REC => 8
  | .CAN_CFG_EN => 1
  | .CAN_CFG_SRST => 1
  | .CAN_CFG_FD => 1
  | .CAN_CFG_MANUAL => 1
  | .CAN_CFG_TB => 3
  | .CAN_BTR_PRESC => 8
  | .CAN_BTR_TSEG1 => 8
  | .CAN_BTR_TSEG2 => 8
  | .CAN_BTR_SJW => 8
  | .CAN_DBTR_PRESC => 5
  | .CAN_DBTR_TSEG1 => 5
  | .CAN_DBTR_TSEG2 => 4
  | .CAN_DBTR_SJW => 4
  | .CAN_DBTR_TDCO => 7
  | .UART_CFG_EN => 1
  | .UART_CFG_RS485 => 1
  | .UART_CFG_PARITY => 2
  | .UART_CFG_BITS8 => 1
  | .UART_CFG_STOP2 => 1
  | .UART_CFG_DE_LEAD => 4
  | .UART_CFG_DE_TAIL => 4
  | .UART_CFG_DIV => 16
  | .UART_CFG_DIVF_HI => 2
  | .UART_FRAC_DIVF_LO => 2
  | .PCIE_CFG_EN => 1
  | .PCIE_CFG_ROLE => 1
  | .PCIE_CFG_REFCLK_OUT => 2
  | .PCIE_CFG_WIDTH => 2
  | .PCIE_CFG_RATE => 3
  | .PCIE_IB_BUS_ADDR => 64
  | .PCIE_IB_PHYS_ADDR => 64
  | .MIRSIA_STATUS_UP => 1
  | .MIRSIA_STATUS_DOWN => 1
  | .MIRSIA_STATUS_REPAIRED => 8
  | .MIRSIA_STATUS_RETRAINS => 16
  | .COMMIT_STATUS_BUSY => 1
  | .COMMIT_STATUS_SEG_OVERRUN => 1
  | .COMMIT_STATUS_INVALID => 1
  | .COMMIT_STATUS_REMOVED => 1
  | .COMMIT_STATUS_TRANSIENT => 1
  | .COMMIT_STATUS_SEQ_ACTIVE => 1
  | .COMMIT_STATUS_MISMATCH => 1
  | .COMMIT_OUT_CORES => 48
  | .COMMIT_COUNT_PERSISTENT => 16
  | .COMMIT_COUNT_TRANSIENT => 16
  | .COMMIT_SEG_OVERRUN_COUNT => 32
  | .APPAIR_CFG_EN1 => 1
  | .APPAIR_CFG_EN0 => 1
  | .APPAIR_STATUS_OUT => 4
  | .APPAIR_STATUS_DEGRADED => 2
  | .APPAIR_STATUS_ACTIVE => 2
  | .MIRROR_STATUS_BUSY => 1
  | .MIRROR_STATUS_LANES => 4
  | .MIRROR_STATUS_ROLE_ERR => 1
  | .MIRROR_STATUS_UNSYNC => 1
  | .MIRROR_STATUS_HANDOVER => 1
  | .MIRROR_STATUS_ALT_OK => 1
  | .MIRROR_STATUS_LINK_UP => 1
  | .MIRROR_STATUS_ROLE => 2
  | .MIRROR_STATUS_HB_LOST => 1
  | .MIRROR_CFG_EN => 1
  | .MIRROR_CFG_ROLE_REQ => 2
  | .MIRROR_CFG_ALT_EN => 1
  | .MIRROR_CFG_ALT_PORT => 6
  | .MIRROR_SEQ_SEQ => 64
  | .MIRROR_ACK_SEQ => 64
  | .MIRROR_LAG_COUNT => 32
  | .MIRROR_HB_MISS_COUNT => 32
  | .MIRROR_FN_EN => 1
  | .MIRROR_FN_SYNCED => 1
  | .MIRROR_FN_FUNCTION => 12
  | .SAFE_STATUS_BUSY => 1
  | .SAFE_STATUS_BADCFG => 1
  | .SAFE_STATUS_MSG_SENT => 1
  | .SAFE_STATUS_OUT1 => 1
  | .SAFE_STATUS_OUT0 => 1
  | .SAFE_STATUS_SEC_OK => 1
  | .SAFE_STATUS_STANDBY => 1
  | .SAFE_STATUS_ARMED => 1
  | .SAFE_STATUS_ENTERED => 1
  | .SAFE_STATUS_SAFE => 1
  | .SAFE_CTRL_ARM => 1
  | .SAFE_CTRL_CLEAR => 1
  | .SAFE_CTRL_FTTI_MS => 10
  | .SAFE_REACT_ACT => 32
  | .SAFE_CAUSE_SOURCE => 4
  | .SAFE_CAUSE_DIE => 3
  | .SAFE_CAUSE_SILO => 4
  | .SAFE_CAUSE_HAS_SILO => 1
  | .SAFE_TIME_TIME => 64
  | .SAFE_SILO_CFG_EN => 1
  | .SAFE_SILO_CFG_TOL => 4
  | .SAFE_SILO_CFG_ODO => 4
  | .SAFE_SILO_STR_EN1 => 1
  | .SAFE_SILO_STR_STREAM1 => 7
  | .SAFE_SILO_STR_EN0 => 1
  | .SAFE_SILO_STR_STREAM0 => 7
  | .SAFE_SILO_STAT_INVALID_RUN => 8
  | .SAFE_SILO_STAT_MISSING => 16
  | .CHKROT_STATUS_BUSY => 1
  | .CHKROT_STATUS_NEXT => 8
  | .CHKROT_STATUS_UNITS => 8
  | .CHKROT_STATUS_LAPSE => 1
  | .CHKROT_STATUS_FAIL => 1
  | .CHKROT_FAILED_ORDER => 39
  | .GLN_CTRL_EN => 1
  | .GLN_CTRL_TESTING => 3
  | .GLN_CORE_KILLS => 8
  | .GLN_CORE_FAILED => 1
  | .GLN_CORE_S_EXCLUDED => 1
  | .GLN_CORE_LAPSE => 1
  | .GLN_CORE_TESTING => 1
  | .GLN_CORE_AGE => 16
  | .SAFE_STREAM_0_EN => 1
  | .SAFE_STREAM_0_DIE => 3
  | .SAFE_STREAM_0_SILO => 4
  | .SAFE_STREAM_0_HANDLE => 16
  | .SAFE_STREAM_1_OFFSET => 11
  | .SEC_STATUS_BUSY => 1
  | .SEC_STATUS_LAST_FAIL => 4
  | .SEC_STATUS_DBG_LOCKOUT => 1
  | .SEC_STATUS_DBG_AUTH => 1
  | .SEC_STATUS_BOOT_FAIL => 1
  | .SEC_STATUS_SLOT_FAIL => 2
  | .SEC_STATUS_SLOT => 2
  | .SEC_LC_SVN_FUSE => 8
  | .SEC_LC_REVOKED => 4
  | .SEC_LC_USE_DBG => 4
  | .SEC_LC_USE_FW => 4
  | .SEC_LC_LC => 2
  | .SEC_FUSE_ADDR_WORD => 32
  | .SEC_FUSE_DATA_VALUE => 32
  | .SEC_FUSE_CTRL_GO => 1
  | .SEC_FUSE_CTRL_REFUSED => 1
  | .SEC_FUSE_CTRL_ACTIVE => 1
  | .PWR_STATUS_BUSY => 1
  | .PWR_STATUS_LEVEL => 4
  | .PWR_STATUS_ARITH_STEP => 2
  | .PWR_STATUS_TRIP => 1
  | .PWR_STATUS_PFAIL => 1
  | .PWR_STATUS_THERM => 1
  | .PWR_STATUS_PMBUS_ERR => 1
  | .PWR_STATUS_BADCFG => 1
  | .PWR_LIMIT_DIE_LIMIT => 16
  | .PWR_PKG_LIMIT_PKG_LIMIT => 16
  | .PWR_FLOOR_FLOOR => 4
  | .PWR_POWER_P1MS => 16
  | .PWR_POWER_P100 => 16
  | .THERM_STATUS_VALID => 12
  | .THERM_STATUS_SENSOR => 4
  | .THERM_STATUS_TEMP => 11
  | .THERM_CFG_THROTTLE_C => 8
  | .THERM_SENSOR_TEMP => 11
  | .PWR_RAIL_EN => 1
  | .PWR_RAIL_RAIL => 3
  | .PWR_RAIL_PAGE => 8
  | .PWR_RAIL_ADDR => 7
  | .TITHE_STATUS_WRITE_ERR => 1
  | .TITHE_STATUS_SKIPPED => 1
  | .TITHE_STATUS_FRESH => 1
  | .TITHE_STATUS_ERASING => 1
  | .TITHE_STATUS_WRITING => 1
  | .TITHE_STATUS_BANK => 1
  | .TITHE_SEQ_SEQ => 32

/-- The reset value of a field that does not depend on the place it stands in; see `fieldReset` for those that do. -/
def Fld.resetConst : Fld → Nat
  | .PINCFG_OWNER => 0xffff
  | .PINCFG_SLEW => 1
  | .CLK_CTRL_SSC_DEPTH => 2
  | .RST_CAUSE_CAUSE => 1
  | .GRN_SCRUB_EN => 1
  | .GRN_SCRUB_PERIOD_H => 24
  | .LOFT_MAP_STOOK_MIB => 8
  | .LOFT_MAP_KV_MIB => 2
  | .DRAM_CFG_PD_IDLE => 4
  | .SILO_TIME_QUANTUM => 10
  | .SILO_TIME_LEAD => 30
  | .SILO_STAT_HOLDER => 0xffff
  | .FN_CFG_QUOTA => 16
  | .FN_CFG_VECTORS => 8
  | .RAS_STOOK_SIZE_MIB => 8
  | .STR_GOLD_PERIOD => 64
  | .ODO_CFG_DEB => 10
  | .ODO_RATIO_RATIO => 0x10000
  | .TACH_CFG_DEB => 10
  | .TB_CFG_HOLD_S => 3
  | .TB_GAIN_KP => 0xc000
  | .TB_GAIN_KI => 0x4000
  | .PPS_OUT_CFG_WIDTH => 0x7a120
  | .TRG_CFG_WIDTH => 0x1f4
  | .CAN_CFG_SRST => 1
  | .SAFE_CTRL_FTTI_MS => 100
  | .SAFE_REACT_ACT => 0x12829a55
  | .CHKROT_STATUS_UNITS => 35
  | .GLN_CTRL_EN => 1
  | .PWR_LIMIT_DIE_LIMIT => 250
  | .THERM_STATUS_VALID => 0xfff
  | .THERM_CFG_THROTTLE_C => 115
  | _ => 0

/-- The block whose register holds a field. -/
def Fld.blk : Fld → Blk
  | .PINMUX_STATUS_BUSY | .PINMUX_STATUS_PIN | .PINMUX_STATUS_OVR_ACTIVE | .PINMUX_STATUS_BADSEL | .PINMUX_STATUS_CONFLICT | .PINMUX_OVR_EN
  | .PINMUX_OVR_STATE | .PINMUX_OVR_PIN | .PINCFG_OWNER | .PINCFG_IN | .PINCFG_OUT | .PINCFG_OE
  | .PINCFG_FILTER | .PINCFG_PULL | .PINCFG_SLEW | .PINCFG_FUNC => .PINMUX
  | .CLK_STATUS_BUSY | .CLK_STATUS_BADCFG | .CLK_STATUS_RESTORE_FAIL | .CLK_STATUS_CAUSE | .CLK_STATUS_ACKED | .CLK_STATUS_RAMPING
  | .CLK_STATUS_REFB_PRESENT | .CLK_STATUS_TREF_HOLD | .CLK_STATUS_TREF_LOCK | .CLK_STATUS_ROOT_LOCK | .CLK_STATUS_XO_OK | .CLK_STATUS_LIMP
  | .CLK_CTRL_RESTORE | .CLK_CTRL_REFB_FREQ | .CLK_CTRL_SSC_DEPTH | .CLK_ACK_ACK | .CLK_DIV_SRC | .CLK_DIV_CURRENT
  | .CLK_DIV_TARGET | .CLKMON_COUNT_REFB | .CLKMON_COUNT_XO => .CLKCTL
  | .RSTCTL_STATUS_BUSY | .RSTCTL_STATUS_HOLDOFF | .RSTCTL_STATUS_PENDING | .RSTCTL_STATUS_BADKEY | .RSTCTL_STATUS_BADCFG | .RSTCTL_STATUS_EARLY_RELEASE
  | .RST_CAUSE_MERGED | .RST_CAUSE_TARGET | .RST_CAUSE_SRC_DIE | .RST_CAUSE_SCOPE | .RST_CAUSE_CAUSE | .RST_STATUS_TRIM_ERR
  | .RST_STATUS_OPT_ABORTS | .RST_STATUS_DRAM_KEPT | .RST_STATUS_OPT_BANK | .RST_STATUS_OPT_INVALID | .RST_STATUS_OPT_FALLBACK | .RST_STATUS_BOOTSEL_OPEN
  | .RST_STATUS_BOOTSEL_BAD | .RST_STATUS_BOOTSEL_EFF | .RST_STATUS_BOOTSEL_RAW | .RST_SWREQ_KEY | .RST_SWREQ_TARGET | .RST_SWREQ_DIE
  | .RST_SWREQ_SCOPE | .RSTCTL_FORCE_GROUPS | .RSTCTL_STABLE_GROUPS | .RSTCTL_ISO_GROUPS | .RST_WDT_EN | .RST_WDT_TIMEOUT
  | .RST_WDT_KICK_KEY => .RSTCTL
  | .FAB_STATUS_BUSY | .FAB_STATUS_OVERFLOW | .FAB_STATUS_GUARD | .FAB_STATUS_DECODE | .FAB_ERR_ADDR_ADDR | .FAB_ERR_INFO_WRITE
  | .FAB_ERR_INFO_TYPE | .FAB_ERR_INFO_V | .FAB_ERR_INFO_PRIV | .FAB_ERR_INFO_MASTER => .FABRIC
  | .MB_STATUS_BUSY | .MB_STATUS_BLACKOUT | .MB_STATUS_EVT_LOST | .MB_STATUS_RING_ERR | .MB_STATUS_RSP_PENDING | .MB_STATUS_SESSION
  | .MB_STATUS_READY | .MB_REQ_TAIL_INDEX | .MB_REQ_HEAD_INDEX | .MB_RSP_TAIL_INDEX | .MB_RSP_HEAD_INDEX | .MB_EVT_LOST_LOST
  | .MB_REQ_BASE_ADDR | .MB_RSP_BASE_ADDR | .MB_NOTIFY_EN | .MB_NOTIFY_VECTOR | .FN_STATUS_BUSY | .FN_STATUS_ASSIGN
  | .FN_STATUS_BADKEY | .FN_STATUS_MSI_ERR | .FN_STATUS_FROZEN | .FN_STATUS_RESET_BUSY | .FN_STATUS_ENABLED | .FN_GEN_GEN
  | .FN_RESET_KEY | .FN_LATE_COUNT => .MBOX
  | .GRN_STATUS_BUSY | .GRN_STATUS_OVERFLOW | .GRN_STATUS_SCRUB_WRAP | .GRN_STATUS_SPILLING | .GRN_STATUS_QUOTA_ERR | .GRN_STATUS_BADCFG
  | .GRN_STATUS_UE | .GRN_STATUS_CE | .GRN_ERR_ADDR_ADDR | .GRN_ERR_INFO_UE | .GRN_ERR_INFO_ORIGIN | .GRN_ERR_INFO_UNIT
  | .GRN_ERR_INFO_SYNDROME | .GRN_ERR_INFO_MASTER | .GRN_CE_COUNT_BG3 | .GRN_CE_COUNT_BG2 | .GRN_CE_COUNT_BG1 | .GRN_CE_COUNT_BG0
  | .GRN_UE_COUNT_COUNT | .GRN_SCRUB_EN | .GRN_SCRUB_UNIT | .GRN_SCRUB_PERIOD_H | .GRN_QUOTA_USED | .GRN_QUOTA_QUOTA => .GRANARY
  | .LOFT_STATUS_BUSY | .LOFT_STATUS_MAP_BUSY | .LOFT_STATUS_BADCFG | .LOFT_MAP_STOOK_MIB | .LOFT_MAP_KV_MIB | .LOFT_SCRATCH_USED
  | .LOFT_SCRATCH_QUOTA | .KV_STATUS_BUSY | .KV_STATUS_TABLE_ERR | .KV_STATUS_WINNOW_SHORT | .KV_STATUS_NO_PAGE | .KV_STATUS_SLOT_LOW
  | .KV_STATUS_COMMITTING | .KV_FREE_SLOTS_FREE | .KV_COW_COUNT | .KV_EVICT_COUNT => .LOFT
  | .DRAM_STATUS_BUSY | .DRAM_STATUS_OVERFLOW | .DRAM_STATUS_DERATE | .DRAM_STATUS_SELF_REFRESH | .DRAM_STATUS_TRAINED | .DRAM_STATUS_BADCFG
  | .DRAM_STATUS_UE | .DRAM_STATUS_CE | .DRAM_ERR_ADDR_ADDR | .DRAM_ERR_INFO_UE | .DRAM_ERR_INFO_CHANNEL | .DRAM_ERR_INFO_BG
  | .DRAM_ERR_INFO_BANK | .DRAM_ERR_INFO_RANK | .DRAM_ERR_INFO_RETRIES | .DRAM_ERR_INFO_MASTER | .DRAM_CE_COUNT_BG3 | .DRAM_CE_COUNT_BG2
  | .DRAM_CE_COUNT_BG1 | .DRAM_CE_COUNT_BG0 | .DRAM_UE_COUNT_COUNT | .DRAM_CFG_PD_IDLE => .DRAMC
  | .TE_STATUS_BUSY | .TE_STATUS_LAST_ERR | .TE_STATUS_SAT_FP | .TE_STATUS_SAT_INT | .TE_STATUS_INF | .TE_STATUS_NAN
  | .TE_STATUS_ACTIVE | .TE_ACTIVE_CYCLES | .TE_STALL_CYCLES | .VE_STATUS_BUSY | .VE_STATUS_LAST_ERR | .VE_STATUS_SAT_FP
  | .VE_STATUS_SAT_INT | .VE_STATUS_INF | .VE_STATUS_NAN | .VE_STATUS_WINDOW | .VE_STATUS_ACTIVE | .VE_ACTIVE_CYCLES
  | .VE_STALL_CYCLES | .XE_STATUS_BUSY | .XE_STATUS_LAST_ERR | .XE_STATUS_TRUNC | .XE_STATUS_SAT_INT | .XE_STATUS_INF
  | .XE_STATUS_NAN | .XE_STATUS_IN_PLACE | .XE_STATUS_ACTIVE | .XE_ACTIVE_CYCLES | .XE_STALL_CYCLES | .WIN_STATUS_BUSY
  | .WIN_STATUS_LIVE_TAPS | .WIN_STATUS_PASSES | .WIN_STATUS_FOLD | .WIN_STATUS_REDUCED | .WIN_STATUS_S2D | .WIN_STATUS_ACTIVE
  | .GLN_CTRL_EN | .GLN_CTRL_TESTING | .GLN_CORE_KILLS | .GLN_CORE_FAILED | .GLN_CORE_S_EXCLUDED | .GLN_CORE_LAPSE
  | .GLN_CORE_TESTING | .GLN_CORE_AGE => .CCC
  | .SCH_STATUS_BUSY | .SCH_STATUS_CONFLICT | .SCH_STATUS_BROKEN | .SCH_STATUS_DL_MISS | .SCH_STATUS_BADCFG | .SCH_STATUS_BLACKOUT
  | .SCH_QCTX_BASE_ADDR | .SCH_QCTL_OP | .SCH_QCTL_QUEUE | .SCH_NK_OVERRUN_COUNT | .SILO_CFG_EN | .SILO_CFG_CLASS
  | .SILO_CFG_HEAD | .SILO_CFG_PENDING | .SILO_CFG_SHARE | .SILO_CFG_G_MIN | .SILO_MASK_MASK | .SILO_TIME_QUANTUM
  | .SILO_TIME_LEAD | .SILO_TIME_WAIT_MAX | .SILO_STAT_SPAN | .SILO_STAT_RESERVE | .SILO_STAT_HOLDER | .FN_CFG_ASSIGN
  | .FN_CFG_QUOTA | .FN_CFG_VECTORS | .FN_STATE_STATE | .FN_STATE_GEN | .FN_APER_BASE | .SAFE_STATUS_BUSY
  | .SAFE_STATUS_BADCFG | .SAFE_STATUS_MSG_SENT | .SAFE_STATUS_OUT1 | .SAFE_STATUS_OUT0 | .SAFE_STATUS_SEC_OK | .SAFE_STATUS_STANDBY
  | .SAFE_STATUS_ARMED | .SAFE_STATUS_ENTERED | .SAFE_STATUS_SAFE | .SAFE_CTRL_ARM | .SAFE_CTRL_CLEAR | .SAFE_CTRL_FTTI_MS
  | .SAFE_REACT_ACT | .SAFE_CAUSE_SOURCE | .SAFE_CAUSE_DIE | .SAFE_CAUSE_SILO | .SAFE_CAUSE_HAS_SILO | .SAFE_TIME_TIME
  | .SAFE_SILO_CFG_EN | .SAFE_SILO_CFG_TOL | .SAFE_SILO_CFG_ODO | .SAFE_SILO_STR_EN1 | .SAFE_SILO_STR_STREAM1 | .SAFE_SILO_STR_EN0
  | .SAFE_SILO_STR_STREAM0 | .SAFE_SILO_STAT_INVALID_RUN | .SAFE_SILO_STAT_MISSING | .CHKROT_STATUS_BUSY | .CHKROT_STATUS_NEXT | .CHKROT_STATUS_UNITS
  | .CHKROT_STATUS_LAPSE | .CHKROT_STATUS_FAIL | .CHKROT_FAILED_ORDER => .SCH
  | .QDB_SQ_TAIL_COUNT | .QDB_CQ_HEAD_COUNT | .QDB_SQ_HEAD_COUNT | .QDB_CQ_TAIL_COUNT | .QDB_STATUS_BUSY | .QDB_STATUS_CQ_FULL
  | .QDB_STATUS_DB_ERR | .QDB_STATUS_STATE => .QDB
  | .RAS_STATUS_BUSY | .RAS_STATUS_CLASS1 | .RAS_STATUS_CTX1 | .RAS_STATUS_CTX0 | .RAS_STATUS_FLUSH | .RAS_STATUS_STOOK_BUSY
  | .RAS_STATUS_BADCFG | .RAS_STOOK_SIZE_MIB | .RAS_STOOK_LOC | .RAS_STOOK_ADDR_ADDR | .RAS_FLUSH_COUNT_COUNT | .RAS_STOOK_PEAK_COUNT => .RASTER
  | .DISP_STATUS_BUSY | .DISP_STATUS_CONFLICT | .DISP_STATUS_HPD | .DISP_STATUS_UNDERRUN | .DISP_STATUS_REPEAT | .HEAD_CTRL_EN
  | .HEAD_CTRL_BPC10 | .HEAD_HTIME_H_TOTAL | .HEAD_HTIME_H_ACTIVE | .HEAD_HSYNC_POL | .HEAD_HSYNC_WIDTH | .HEAD_HSYNC_START
  | .HEAD_VTIME_V_TOTAL | .HEAD_VTIME_V_ACTIVE | .HEAD_VSYNC_POL | .HEAD_VSYNC_WIDTH | .HEAD_VSYNC_START | .HEAD_PCLK_KHZ
  | .HEAD_IMG_ADDR | .HEAD_REPEAT_COUNT | .HEAD_UNDERRUN_COUNT | .HEAD_VBLANK_TIME | .HEAD_LINK_TRAINED | .HEAD_LINK_LANES
  | .HEAD_LINK_RATE | .HEAD_FILL_COLOUR => .DISPLAY
  | .CSI_STATUS_BUSY | .CSI_STATUS_CONFLICT | .CSI_STATUS_BADCFG | .CSI_STATUS_PHY_ERR | .CSI_STATUS_LOCK | .CSI_PHY_MODE
  | .CSI_PHY_LANES | .CSI_PHY_RATE | .CSI_PKT_ERR_UNKNOWN | .CSI_PKT_ERR_ECC_FIX | .STR_CFG_EN | .STR_CFG_SRC
  | .STR_CFG_LINESCAN | .STR_CFG_GOLD_EN | .STR_CFG_VC | .STR_CFG_DT | .STR_CFG_OUT_FMT | .STR_CFG_TB
  | .STR_CFG_ODO | .STR_CFG_TRIG_EN | .STR_CFG_TRIG | .STR_GEOM_HEIGHT | .STR_GEOM_WIDTH | .STR_BUF_X0
  | .STR_BUF_NBUF | .STR_HANDLE_HANDLE | .STR_OUT_OFF_OFF | .STR_FSTRIDE_STRIDE | .STR_REC_ADDR | .STR_REL_ADDR
  | .STR_GOLD_UDP_PORT | .STR_GOLD_PERIOD | .STR_GOLD_HANDLE_HANDLE | .STR_EXPECT_0_SIG | .STR_EXPECT_1_SIG | .STR_EXPECT_2_SIG
  | .STR_EXPECT_3_SIG | .STR_FRAMES_COUNT | .STR_STATE_FROZEN | .STR_STATE_INJECTING | .STR_STATE_DEFER | .STR_DROP_COUNT
  | .STR_DAMAGED_COUNT | .STR_DISPLACED_COUNT => .CSI
  | .ODO_STATUS_BUSY | .ODO_STATUS_BADCFG | .ODO_STATUS_STILL | .ODO_STATUS_SLIP | .ODO_STATUS_FAULT | .ODO_STATUS_ZSEEN
  | .ODO_CFG_EN | .ODO_CFG_INVERT | .ODO_CFG_FALLBACK | .ODO_CFG_REF | .ODO_CFG_DEB | .ODO_CFG_CPR
  | .ODO_SLIP_STILL_MAX | .ODO_SLIP_TOL | .ODO_SLIP_WIN | .ODO_RATIO_RATIO | .ODO_COUNT_COUNT | .ODO_DIST_DIST
  | .ODO_ZCOUNT_DIST | .ODO_SPEED_SPEED | .ODO_ERR_COUNT | .TACH_CFG_EN | .TACH_CFG_DEB | .TACH_PULSES_COUNT
  | .TACH_PERIOD_CYCLES => .ODO
  | .TB_STATUS_BUSY | .TB_STATUS_HOLD | .TB_STATUS_STEPPED | .TB_STATUS_CONFLICT | .TB_STATUS_BADCFG | .TB_CFG_EN
  | .TB_CFG_SRC | .TB_CFG_DEGRADED | .TB_CFG_HOLDOVER | .TB_CFG_HOLD_S | .TB_GAIN_KP | .TB_GAIN_KI
  | .TB_ADJ_ADJ | .TB_INTEG_I | .TB_NSEC_NSEC | .TB_SEC_SEC | .TB_FRAC_FRAC | .TB_NS64_TIME
  | .TB_OFFSET_THETA | .TB_SETSEC_SEC | .TB_SETNSEC_NSEC | .TB_LAST_OFF_THETA | .PPS_OUT_CFG_EN | .PPS_OUT_CFG_TB
  | .PPS_OUT_CFG_WIDTH | .PPS_IN_DELAY_DELAY | .TRG_CFG_MODE | .TRG_CFG_SRC | .TRG_CFG_DIR | .TRG_CFG_PIN
  | .TRG_CFG_CTRL | .TRG_CFG_POL | .TRG_CFG_WIDTH | .TRG_START_START | .TRG_PERIOD_PERIOD | .TRG_COUNT_COUNT
  | .TRG_MISSED_COUNT | .TSCAP_CFG_EN | .TSCAP_CFG_EDGE | .TSCAP_CFG_TB | .TSCAP_STAMP_TIME | .TSCAP_STATUS_OVERRUN
  | .TSCAP_STATUS_VALID | .CMP32_CFG_EN | .CMP32_CFG_TB | .CMP32_SEC_SEC | .CMP32_NSEC_NSEC | .CMP32_STATUS_MATCH => .TIMEBASE
  | .FBR_STATUS_BUSY | .FBR_STATUS_BADCFG | .FBR_STATUS_SEM_HELD | .FBR_STATUS_SEM_TIMEOUT | .FBR_STATUS_LIVELOCK | .FBR_STATUS_PWERR
  | .FBR_ERR_ADDR_ADDR | .FBR_ERR_INFO_CAUSE | .FBR_ERR_INFO_BE | .FBR_ERR_INFO_MASTER | .FBR_ERR_OVERFLOW_COUNT | .FBR_LL_MASTER_MASTER
  | .FBR_SEM_HELD | .FBR_SEM_RELEASE | .FBR_SEM_HOLDER | .FBR_RANGE_EN | .FBR_RANGE_POSTED | .FBR_RANGE_COUNT
  | .FBR_RANGE_BASE => .FBR
  | .ETH_PORT_CFG_EN | .ETH_PORT_CFG_AN | .ETH_PORT_CFG_FEC | .ETH_PORT_CFG_SPEED | .ETH_PORT_STATUS_LINK | .ETH_PORT_STATUS_SPEED
  | .ETH_PORT_LAT_LAT_OUT | .ETH_PORT_LAT_LAT_IN | .SAFE_STREAM_0_EN | .SAFE_STREAM_0_DIE | .SAFE_STREAM_0_SILO | .SAFE_STREAM_0_HANDLE
  | .SAFE_STREAM_1_OFFSET => .ETH
  | .CAN_STATUS_BUSY | .CAN_STATUS_BUSOFF | .CAN_STATUS_PASSIVE | .CAN_STATUS_LOST | .CAN_STATUS_TEC | .CAN_STATUS_REC
  | .CAN_CFG_EN | .CAN_CFG_SRST | .CAN_CFG_FD | .CAN_CFG_MANUAL | .CAN_CFG_TB | .CAN_BTR_PRESC
  | .CAN_BTR_TSEG1 | .CAN_BTR_TSEG2 | .CAN_BTR_SJW | .CAN_DBTR_PRESC | .CAN_DBTR_TSEG1 | .CAN_DBTR_TSEG2
  | .CAN_DBTR_SJW | .CAN_DBTR_TDCO => .CAN
  | .UART_CFG_EN | .UART_CFG_RS485 | .UART_CFG_PARITY | .UART_CFG_BITS8 | .UART_CFG_STOP2 | .UART_CFG_DE_LEAD
  | .UART_CFG_DE_TAIL | .UART_CFG_DIV | .UART_CFG_DIVF_HI | .UART_FRAC_DIVF_LO => .UART
  | .PCIE_CFG_EN | .PCIE_CFG_ROLE | .PCIE_CFG_REFCLK_OUT | .PCIE_CFG_WIDTH | .PCIE_CFG_RATE | .PCIE_IB_BUS_ADDR
  | .PCIE_IB_PHYS_ADDR => .PCIE
  | .MIRSIA_STATUS_UP | .MIRSIA_STATUS_DOWN | .MIRSIA_STATUS_REPAIRED | .MIRSIA_STATUS_RETRAINS => .MIRSIA
  | .COMMIT_STATUS_BUSY | .COMMIT_STATUS_SEG_OVERRUN | .COMMIT_STATUS_INVALID | .COMMIT_STATUS_REMOVED | .COMMIT_STATUS_TRANSIENT | .COMMIT_STATUS_SEQ_ACTIVE
  | .COMMIT_STATUS_MISMATCH | .COMMIT_OUT_CORES | .COMMIT_COUNT_PERSISTENT | .COMMIT_COUNT_TRANSIENT | .COMMIT_SEG_OVERRUN_COUNT | .APPAIR_CFG_EN1
  | .APPAIR_CFG_EN0 | .APPAIR_STATUS_OUT | .APPAIR_STATUS_DEGRADED | .APPAIR_STATUS_ACTIVE => .COMMIT
  | .MIRROR_STATUS_BUSY | .MIRROR_STATUS_LANES | .MIRROR_STATUS_ROLE_ERR | .MIRROR_STATUS_UNSYNC | .MIRROR_STATUS_HANDOVER | .MIRROR_STATUS_ALT_OK
  | .MIRROR_STATUS_LINK_UP | .MIRROR_STATUS_ROLE | .MIRROR_STATUS_HB_LOST | .MIRROR_CFG_EN | .MIRROR_CFG_ROLE_REQ | .MIRROR_CFG_ALT_EN
  | .MIRROR_CFG_ALT_PORT | .MIRROR_SEQ_SEQ | .MIRROR_ACK_SEQ | .MIRROR_LAG_COUNT | .MIRROR_HB_MISS_COUNT | .MIRROR_FN_EN
  | .MIRROR_FN_SYNCED | .MIRROR_FN_FUNCTION => .MIRROR
  | .SEC_STATUS_BUSY | .SEC_STATUS_LAST_FAIL | .SEC_STATUS_DBG_LOCKOUT | .SEC_STATUS_DBG_AUTH | .SEC_STATUS_BOOT_FAIL | .SEC_STATUS_SLOT_FAIL
  | .SEC_STATUS_SLOT | .SEC_LC_SVN_FUSE | .SEC_LC_REVOKED | .SEC_LC_USE_DBG | .SEC_LC_USE_FW | .SEC_LC_LC
  | .SEC_FUSE_ADDR_WORD | .SEC_FUSE_DATA_VALUE | .SEC_FUSE_CTRL_GO | .SEC_FUSE_CTRL_REFUSED | .SEC_FUSE_CTRL_ACTIVE => .SEC
  | .PWR_STATUS_BUSY | .PWR_STATUS_LEVEL | .PWR_STATUS_ARITH_STEP | .PWR_STATUS_TRIP | .PWR_STATUS_PFAIL | .PWR_STATUS_THERM
  | .PWR_STATUS_PMBUS_ERR | .PWR_STATUS_BADCFG | .PWR_LIMIT_DIE_LIMIT | .PWR_PKG_LIMIT_PKG_LIMIT | .PWR_FLOOR_FLOOR | .PWR_POWER_P1MS
  | .PWR_POWER_P100 | .THERM_STATUS_VALID | .THERM_STATUS_SENSOR | .THERM_STATUS_TEMP | .THERM_CFG_THROTTLE_C | .THERM_SENSOR_TEMP
  | .PWR_RAIL_EN | .PWR_RAIL_RAIL | .PWR_RAIL_PAGE | .PWR_RAIL_ADDR | .TITHE_STATUS_WRITE_ERR | .TITHE_STATUS_SKIPPED
  | .TITHE_STATUS_FRESH | .TITHE_STATUS_ERASING | .TITHE_STATUS_WRITING | .TITHE_STATUS_BANK | .TITHE_SEQ_SEQ => .PMC

/-- Registers, part 1. -/
def regTable1 : List RegDesc := [
  ⟨.PINMUX_STATUS, .PINMUX, 0x0, [], .single,
    [⟨31, 31, .PINMUX_STATUS_BUSY, 0, .ro, false⟩, ⟨25, 16, .PINMUX_STATUS_PIN, 0, .rc, false⟩, ⟨2, 2, .PINMUX_STATUS_OVR_ACTIVE, 0, .ro, false⟩, ⟨1, 1, .PINMUX_STATUS_BADSEL, 0, .rc, false⟩, ⟨0, 0, .PINMUX_STATUS_CONFLICT, 0, .rc, false⟩]⟩,
  ⟨.PINMUX_OVR, .PINMUX, 0x10, [], .single,
    [⟨15, 15, .PINMUX_OVR_EN, 0, .rwp, true⟩, ⟨13, 12, .PINMUX_OVR_STATE, 0, .rwp, true⟩, ⟨9, 0, .PINMUX_OVR_PIN, 0, .rwp, true⟩]⟩,
  ⟨.PINCFG, .PINMUX, 0x1000, [(0x4, 768)], .single,
    [⟨31, 16, .PINCFG_OWNER, 0, .ro, false⟩, ⟨14, 14, .PINCFG_IN, 0, .ro, false⟩, ⟨13, 13, .PINCFG_OUT, 0, .rwp, false⟩, ⟨12, 12, .PINCFG_OE, 0, .rwp, false⟩, ⟨11, 8, .PINCFG_FILTER, 0, .rwp, false⟩, ⟨7, 6, .PINCFG_PULL, 0, .rwp, false⟩, ⟨5, 4, .PINCFG_SLEW, 0, .rwp, false⟩, ⟨3, 0, .PINCFG_FUNC, 0, .rwp, false⟩]⟩,
  ⟨.CLK_STATUS, .CLKCTL, 0x0, [], .single,
    [⟨31, 31, .CLK_STATUS_BUSY, 0, .ro, false⟩, ⟨11, 11, .CLK_STATUS_BADCFG, 0, .rc, false⟩, ⟨10, 10, .CLK_STATUS_RESTORE_FAIL, 0, .rc, false⟩, ⟨9, 8, .CLK_STATUS_CAUSE, 0, .ro, false⟩, ⟨7, 7, .CLK_STATUS_ACKED, 0, .ro, false⟩, ⟨6, 6, .CLK_STATUS_RAMPING, 0, .ro, false⟩, ⟨5, 5, .CLK_STATUS_REFB_PRESENT, 0, .ro, false⟩, ⟨4, 4, .CLK_STATUS_TREF_HOLD, 0, .ro, false⟩, ⟨3, 3, .CLK_STATUS_TREF_LOCK, 0, .ro, false⟩, ⟨2, 2, .CLK_STATUS_ROOT_LOCK, 0, .ro, false⟩, ⟨1, 1, .CLK_STATUS_XO_OK, 0, .ro, false⟩, ⟨0, 0, .CLK_STATUS_LIMP, 0, .ro, false⟩]⟩,
  ⟨.CLK_CTRL, .CLKCTL, 0x10, [], .single,
    [⟨7, 7, .CLK_CTRL_RESTORE, 0, .wo, true⟩, ⟨6, 5, .CLK_CTRL_REFB_FREQ, 0, .rwp, true⟩, ⟨2, 0, .CLK_CTRL_SSC_DEPTH, 0, .rwp, true⟩]⟩,
  ⟨.CLK_ACK, .CLKCTL, 0x14, [], .single,
    [⟨0, 0, .CLK_ACK_ACK, 0, .wo, true⟩]⟩,
  ⟨.CLK_DIV, .CLKCTL, 0x20, [(0x4, 5)], .single,
    [⟨31, 30, .CLK_DIV_SRC, 0, .ro, false⟩, ⟨25, 16, .CLK_DIV_CURRENT, 0, .ro, false⟩, ⟨9, 0, .CLK_DIV_TARGET, 0, .rwp, true⟩]⟩,
  ⟨.CLKMON_COUNT, .CLKCTL, 0x40, [], .single,
    [⟨31, 16, .CLKMON_COUNT_REFB, 0, .ro, false⟩, ⟨15, 0, .CLKMON_COUNT_XO, 0, .ro, false⟩]⟩,
  ⟨.RSTCTL_STATUS, .RSTCTL, 0x0, [], .single,
    [⟨31, 31, .RSTCTL_STATUS_BUSY, 0, .ro, false⟩, ⟨30, 30, .RSTCTL_STATUS_HOLDOFF, 0, .ro, false⟩, ⟨29, 29, .RSTCTL_STATUS_PENDING, 0, .ro, false⟩, ⟨2, 2, .RSTCTL_STATUS_BADKEY, 0, .rc, false⟩, ⟨1, 1, .RSTCTL_STATUS_BADCFG, 0, .rc, false⟩, ⟨0, 0, .RSTCTL_STATUS_EARLY_RELEASE, 0, .rc, false⟩]⟩,
  ⟨.RST_CAUSE, .RSTCTL, 0x4, [], .single,
    [⟨12, 12, .RST_CAUSE_MERGED, 0, .ro, false⟩, ⟨11, 9, .RST_CAUSE_TARGET, 0, .ro, false⟩, ⟨8, 6, .RST_CAUSE_SRC_DIE, 0, .ro, false⟩, ⟨5, 4, .RST_CAUSE_SCOPE, 0, .ro, false⟩, ⟨3, 0, .RST_CAUSE_CAUSE, 0, .ro, false⟩]⟩,
  ⟨.RST_STATUS, .RSTCTL, 0x8, [], .single,
    [⟨18, 18, .RST_STATUS_TRIM_ERR, 0, .rc, false⟩, ⟨17, 16, .RST_STATUS_OPT_ABORTS, 0, .ro, false⟩, ⟨15, 15, .RST_STATUS_DRAM_KEPT, 0, .ro, false⟩, ⟨14, 14, .RST_STATUS_OPT_BANK, 0, .ro, false⟩, ⟨13, 13, .RST_STATUS_OPT_INVALID, 0, .rc, false⟩, ⟨12, 12, .RST_STATUS_OPT_FALLBACK, 0, .rc, false⟩, ⟨11, 11, .RST_STATUS_BOOTSEL_OPEN, 0, .rc, false⟩, ⟨10, 10, .RST_STATUS_BOOTSEL_BAD, 0, .rc, false⟩, ⟨7, 4, .RST_STATUS_BOOTSEL_EFF, 0, .ro, false⟩, ⟨3, 0, .RST_STATUS_BOOTSEL_RAW, 0, .ro, false⟩]⟩,
  ⟨.RST_SWREQ, .RSTCTL, 0x10, [], .single,
    [⟨31, 24, .RST_SWREQ_KEY, 0, .wo, true⟩, ⟨11, 9, .RST_SWREQ_TARGET, 0, .wo, true⟩, ⟨8, 6, .RST_SWREQ_DIE, 0, .wo, true⟩, ⟨5, 4, .RST_SWREQ_SCOPE, 0, .wo, true⟩]⟩,
  ⟨.RSTCTL_FORCE, .RSTCTL, 0x20, [], .single,
    [⟨19, 0, .RSTCTL_FORCE_GROUPS, 0, .rwp, true⟩]⟩,
  ⟨.RSTCTL_STABLE, .RSTCTL, 0x24, [], .single,
    [⟨19, 0, .RSTCTL_STABLE_GROUPS, 0, .ro, false⟩]⟩,
  ⟨.RSTCTL_ISO, .RSTCTL, 0x28, [], .single,
    [⟨19, 0, .RSTCTL_ISO_GROUPS, 0, .ro, false⟩]⟩,
  ⟨.RST_WDT, .RSTCTL, 0x30, [], .single,
    [⟨31, 31, .RST_WDT_EN, 0, .rwp, true⟩, ⟨9, 0, .RST_WDT_TIMEOUT, 0, .rwp, true⟩]⟩,
  ⟨.RST_WDT_KICK, .RSTCTL, 0x34, [], .single,
    [⟨15, 0, .RST_WDT_KICK_KEY, 0, .wo, false⟩]⟩,
  ⟨.FAB_STATUS, .FABRIC, 0x0, [], .single,
    [⟨31, 31, .FAB_STATUS_BUSY, 0, .ro, false⟩, ⟨30, 16, .FAB_STATUS_OVERFLOW, 0, .rc, false⟩, ⟨1, 1, .FAB_STATUS_GUARD, 0, .rc, false⟩, ⟨0, 0, .FAB_STATUS_DECODE, 0, .rc, false⟩]⟩,
  ⟨.FAB_ERR_ADDR_LO, .FABRIC, 0x10, [], .lo,
    [⟨31, 0, .FAB_ERR_ADDR_ADDR, 0, .ro, false⟩]⟩,
  ⟨.FAB_ERR_ADDR_HI, .FABRIC, 0x14, [], .hi,
    [⟨15, 0, .FAB_ERR_ADDR_ADDR, 32, .ro, false⟩]⟩,
  ⟨.FAB_ERR_INFO, .FABRIC, 0x18, [], .single,
    [⟨31, 31, .FAB_ERR_INFO_WRITE, 0, .ro, false⟩, ⟨30, 28, .FAB_ERR_INFO_TYPE, 0, .ro, false⟩, ⟨18, 18, .FAB_ERR_INFO_V, 0, .ro, false⟩, ⟨17, 16, .FAB_ERR_INFO_PRIV, 0, .ro, false⟩, ⟨11, 0, .FAB_ERR_INFO_MASTER, 0, .ro, false⟩]⟩,
  ⟨.MB_STATUS, .MBOX, 0x0, [(0x1000, 2561)], .single,
    [⟨31, 31, .MB_STATUS_BUSY, 0, .ro, false⟩, ⟨5, 5, .MB_STATUS_BLACKOUT, 0, .ro, false⟩, ⟨4, 4, .MB_STATUS_EVT_LOST, 0, .rc, false⟩, ⟨3, 3, .MB_STATUS_RING_ERR, 0, .rc, false⟩, ⟨2, 2, .MB_STATUS_RSP_PENDING, 0, .ro, false⟩, ⟨1, 1, .MB_STATUS_SESSION, 0, .ro, false⟩, ⟨0, 0, .MB_STATUS_READY, 0, .ro, false⟩]⟩,
  ⟨.MB_REQ_TAIL, .MBOX, 0x4, [(0x1000, 2561)], .single,
    [⟨8, 0, .MB_REQ_TAIL_INDEX, 0, .rw, false⟩]⟩,
  ⟨.MB_REQ_HEAD, .MBOX, 0x8, [(0x1000, 2561)], .single,
    [⟨8, 0, .MB_REQ_HEAD_INDEX, 0, .ro, false⟩]⟩]

/-- Registers, part 2. -/
def regTable2 : List RegDesc := [
  ⟨.MB_RSP_TAIL, .MBOX, 0xc, [(0x1000, 2561)], .single,
    [⟨8, 0, .MB_RSP_TAIL_INDEX, 0, .ro, false⟩]⟩,
  ⟨.MB_RSP_HEAD, .MBOX, 0x10, [(0x1000, 2561)], .single,
    [⟨8, 0, .MB_RSP_HEAD_INDEX, 0, .rw, false⟩]⟩,
  ⟨.MB_EVT_LOST, .MBOX, 0x14, [(0x1000, 2561)], .single,
    [⟨15, 0, .MB_EVT_LOST_LOST, 0, .rc, false⟩]⟩,
  ⟨.MB_REQ_BASE_LO, .MBOX, 0x18, [(0x1000, 2561)], .lo,
    [⟨31, 0, .MB_REQ_BASE_ADDR, 0, .ro, false⟩]⟩,
  ⟨.MB_REQ_BASE_HI, .MBOX, 0x1c, [(0x1000, 2561)], .hi,
    [⟨15, 0, .MB_REQ_BASE_ADDR, 32, .ro, false⟩]⟩,
  ⟨.MB_RSP_BASE_LO, .MBOX, 0x20, [(0x1000, 2561)], .lo,
    [⟨31, 0, .MB_RSP_BASE_ADDR, 0, .ro, false⟩]⟩,
  ⟨.MB_RSP_BASE_HI, .MBOX, 0x24, [(0x1000, 2561)], .hi,
    [⟨15, 0, .MB_RSP_BASE_ADDR, 32, .ro, false⟩]⟩,
  ⟨.MB_NOTIFY, .MBOX, 0x28, [(0x1000, 2561)], .single,
    [⟨31, 31, .MB_NOTIFY_EN, 0, .rw, false⟩, ⟨10, 0, .MB_NOTIFY_VECTOR, 0, .rw, false⟩]⟩,
  ⟨.GRN_STATUS, .GRANARY, 0x0, [], .single,
    [⟨31, 31, .GRN_STATUS_BUSY, 0, .ro, false⟩, ⟨30, 16, .GRN_STATUS_OVERFLOW, 0, .rc, false⟩, ⟨5, 5, .GRN_STATUS_SCRUB_WRAP, 0, .rc, false⟩, ⟨4, 4, .GRN_STATUS_SPILLING, 0, .ro, false⟩, ⟨3, 3, .GRN_STATUS_QUOTA_ERR, 0, .rc, false⟩, ⟨2, 2, .GRN_STATUS_BADCFG, 0, .rc, false⟩, ⟨1, 1, .GRN_STATUS_UE, 0, .rc, false⟩, ⟨0, 0, .GRN_STATUS_CE, 0, .rc, false⟩]⟩,
  ⟨.GRN_ERR_ADDR_LO, .GRANARY, 0x10, [], .lo,
    [⟨31, 0, .GRN_ERR_ADDR_ADDR, 0, .ro, false⟩]⟩,
  ⟨.GRN_ERR_ADDR_HI, .GRANARY, 0x14, [], .hi,
    [⟨15, 0, .GRN_ERR_ADDR_ADDR, 32, .ro, false⟩]⟩,
  ⟨.GRN_ERR_INFO, .GRANARY, 0x18, [], .single,
    [⟨31, 31, .GRN_ERR_INFO_UE, 0, .ro, false⟩, ⟨30, 28, .GRN_ERR_INFO_ORIGIN, 0, .ro, false⟩, ⟨27, 25, .GRN_ERR_INFO_UNIT, 0, .ro, false⟩, ⟨24, 16, .GRN_ERR_INFO_SYNDROME, 0, .ro, false⟩, ⟨11, 0, .GRN_ERR_INFO_MASTER, 0, .ro, false⟩]⟩,
  ⟨.GRN_CE_COUNT, .GRANARY, 0x20, [(0x4, 7)], .single,
    [⟨31, 24, .GRN_CE_COUNT_BG3, 0, .rc, false⟩, ⟨23, 16, .GRN_CE_COUNT_BG2, 0, .rc, false⟩, ⟨15, 8, .GRN_CE_COUNT_BG1, 0, .rc, false⟩, ⟨7, 0, .GRN_CE_COUNT_BG0, 0, .rc, false⟩]⟩,
  ⟨.GRN_UE_COUNT, .GRANARY, 0x3c, [], .single,
    [⟨15, 0, .GRN_UE_COUNT_COUNT, 0, .rc, false⟩]⟩,
  ⟨.GRN_SCRUB, .GRANARY, 0x40, [], .single,
    [⟨31, 31, .GRN_SCRUB_EN, 0, .rw, true⟩, ⟨26, 24, .GRN_SCRUB_UNIT, 0, .ro, false⟩, ⟨4, 0, .GRN_SCRUB_PERIOD_H, 0, .rw, true⟩]⟩,
  ⟨.GRN_QUOTA, .GRANARY, 0x1000, [(0x20, 16), (0x4, 6)], .single,
    [⟨26, 16, .GRN_QUOTA_USED, 0, .ro, false⟩, ⟨10, 0, .GRN_QUOTA_QUOTA, 0, .rw, true⟩]⟩,
  ⟨.LOFT_STATUS, .LOFT, 0x0, [], .single,
    [⟨31, 31, .LOFT_STATUS_BUSY, 0, .ro, false⟩, ⟨1, 1, .LOFT_STATUS_MAP_BUSY, 0, .rc, false⟩, ⟨0, 0, .LOFT_STATUS_BADCFG, 0, .rc, false⟩]⟩,
  ⟨.LOFT_MAP, .LOFT, 0x10, [], .single,
    [⟨20, 16, .LOFT_MAP_STOOK_MIB, 0, .rw, true⟩, ⟨3, 0, .LOFT_MAP_KV_MIB, 0, .rw, true⟩]⟩,
  ⟨.LOFT_SCRATCH, .LOFT, 0x100, [(0x4, 16)], .single,
    [⟨24, 16, .LOFT_SCRATCH_USED, 0, .ro, false⟩, ⟨8, 0, .LOFT_SCRATCH_QUOTA, 0, .rw, true⟩]⟩,
  ⟨.DRAM_STATUS, .DRAMC, 0x0, [], .single,
    [⟨31, 31, .DRAM_STATUS_BUSY, 0, .ro, false⟩, ⟨30, 16, .DRAM_STATUS_OVERFLOW, 0, .rc, false⟩, ⟨5, 5, .DRAM_STATUS_DERATE, 0, .ro, false⟩, ⟨4, 4, .DRAM_STATUS_SELF_REFRESH, 0, .ro, false⟩, ⟨3, 3, .DRAM_STATUS_TRAINED, 0, .ro, false⟩, ⟨2, 2, .DRAM_STATUS_BADCFG, 0, .rc, false⟩, ⟨1, 1, .DRAM_STATUS_UE, 0, .rc, false⟩, ⟨0, 0, .DRAM_STATUS_CE, 0, .rc, false⟩]⟩,
  ⟨.DRAM_ERR_ADDR_LO, .DRAMC, 0x10, [], .lo,
    [⟨31, 0, .DRAM_ERR_ADDR_ADDR, 0, .ro, false⟩]⟩,
  ⟨.DRAM_ERR_ADDR_HI, .DRAMC, 0x14, [], .hi,
    [⟨15, 0, .DRAM_ERR_ADDR_ADDR, 32, .ro, false⟩]⟩,
  ⟨.DRAM_ERR_INFO, .DRAMC, 0x18, [], .single,
    [⟨31, 31, .DRAM_ERR_INFO_UE, 0, .ro, false⟩, ⟨30, 28, .DRAM_ERR_INFO_CHANNEL, 0, .ro, false⟩, ⟨27, 26, .DRAM_ERR_INFO_BG, 0, .ro, false⟩, ⟨25, 24, .DRAM_ERR_INFO_BANK, 0, .ro, false⟩, ⟨23, 23, .DRAM_ERR_INFO_RANK, 0, .ro, false⟩, ⟨22, 21, .DRAM_ERR_INFO_RETRIES, 0, .ro, false⟩, ⟨11, 0, .DRAM_ERR_INFO_MASTER, 0, .ro, false⟩]⟩,
  ⟨.DRAM_CE_COUNT, .DRAMC, 0x20, [(0x4, 8)], .single,
    [⟨31, 24, .DRAM_CE_COUNT_BG3, 0, .rc, false⟩, ⟨23, 16, .DRAM_CE_COUNT_BG2, 0, .rc, false⟩, ⟨15, 8, .DRAM_CE_COUNT_BG1, 0, .rc, false⟩, ⟨7, 0, .DRAM_CE_COUNT_BG0, 0, .rc, false⟩]⟩]

/-- Registers, part 3. -/
def regTable3 : List RegDesc := [
  ⟨.DRAM_UE_COUNT, .DRAMC, 0x40, [], .single,
    [⟨15, 0, .DRAM_UE_COUNT_COUNT, 0, .rc, false⟩]⟩,
  ⟨.DRAM_CFG, .DRAMC, 0x50, [], .single,
    [⟨7, 0, .DRAM_CFG_PD_IDLE, 0, .rw, true⟩]⟩,
  ⟨.TE_STATUS, .CCC, 0xc000, [(0x10000, 6), (0x40, 8)], .single,
    [⟨31, 31, .TE_STATUS_BUSY, 0, .ro, false⟩, ⟨15, 12, .TE_STATUS_LAST_ERR, 0, .ro, false⟩, ⟨7, 7, .TE_STATUS_SAT_FP, 0, .rc, false⟩, ⟨6, 6, .TE_STATUS_SAT_INT, 0, .rc, false⟩, ⟨5, 5, .TE_STATUS_INF, 0, .rc, false⟩, ⟨4, 4, .TE_STATUS_NAN, 0, .rc, false⟩, ⟨0, 0, .TE_STATUS_ACTIVE, 0, .ro, false⟩]⟩,
  ⟨.TE_ACTIVE_LO, .CCC, 0xc008, [(0x10000, 6), (0x40, 8)], .lo,
    [⟨31, 0, .TE_ACTIVE_CYCLES, 0, .ro, false⟩]⟩,
  ⟨.TE_ACTIVE_HI, .CCC, 0xc00c, [(0x10000, 6), (0x40, 8)], .hi,
    [⟨31, 0, .TE_ACTIVE_CYCLES, 32, .ro, false⟩]⟩,
  ⟨.TE_STALL_LO, .CCC, 0xc010, [(0x10000, 6), (0x40, 8)], .lo,
    [⟨31, 0, .TE_STALL_CYCLES, 0, .ro, false⟩]⟩,
  ⟨.TE_STALL_HI, .CCC, 0xc014, [(0x10000, 6), (0x40, 8)], .hi,
    [⟨31, 0, .TE_STALL_CYCLES, 32, .ro, false⟩]⟩,
  ⟨.VE_STATUS, .CCC, 0xd000, [(0x10000, 6), (0x40, 8)], .single,
    [⟨31, 31, .VE_STATUS_BUSY, 0, .ro, false⟩, ⟨15, 12, .VE_STATUS_LAST_ERR, 0, .ro, false⟩, ⟨7, 7, .VE_STATUS_SAT_FP, 0, .rc, false⟩, ⟨6, 6, .VE_STATUS_SAT_INT, 0, .rc, false⟩, ⟨5, 5, .VE_STATUS_INF, 0, .rc, false⟩, ⟨4, 4, .VE_STATUS_NAN, 0, .rc, false⟩, ⟨1, 1, .VE_STATUS_WINDOW, 0, .ro, false⟩, ⟨0, 0, .VE_STATUS_ACTIVE, 0, .ro, false⟩]⟩,
  ⟨.VE_ACTIVE_LO, .CCC, 0xd008, [(0x10000, 6), (0x40, 8)], .lo,
    [⟨31, 0, .VE_ACTIVE_CYCLES, 0, .ro, false⟩]⟩,
  ⟨.VE_ACTIVE_HI, .CCC, 0xd00c, [(0x10000, 6), (0x40, 8)], .hi,
    [⟨31, 0, .VE_ACTIVE_CYCLES, 32, .ro, false⟩]⟩,
  ⟨.VE_STALL_LO, .CCC, 0xd010, [(0x10000, 6), (0x40, 8)], .lo,
    [⟨31, 0, .VE_STALL_CYCLES, 0, .ro, false⟩]⟩,
  ⟨.VE_STALL_HI, .CCC, 0xd014, [(0x10000, 6), (0x40, 8)], .hi,
    [⟨31, 0, .VE_STALL_CYCLES, 32, .ro, false⟩]⟩,
  ⟨.XE_STATUS, .CCC, 0xe000, [(0x10000, 6), (0x40, 8)], .single,
    [⟨31, 31, .XE_STATUS_BUSY, 0, .ro, false⟩, ⟨15, 12, .XE_STATUS_LAST_ERR, 0, .ro, false⟩, ⟨7, 7, .XE_STATUS_TRUNC, 0, .rc, false⟩, ⟨6, 6, .XE_STATUS_SAT_INT, 0, .rc, false⟩, ⟨5, 5, .XE_STATUS_INF, 0, .rc, false⟩, ⟨4, 4, .XE_STATUS_NAN, 0, .rc, false⟩, ⟨1, 1, .XE_STATUS_IN_PLACE, 0, .ro, false⟩, ⟨0, 0, .XE_STATUS_ACTIVE, 0, .ro, false⟩]⟩,
  ⟨.XE_ACTIVE_LO, .CCC, 0xe008, [(0x10000, 6), (0x40, 8)], .lo,
    [⟨31, 0, .XE_ACTIVE_CYCLES, 0, .ro, false⟩]⟩,
  ⟨.XE_ACTIVE_HI, .CCC, 0xe00c, [(0x10000, 6), (0x40, 8)], .hi,
    [⟨31, 0, .XE_ACTIVE_CYCLES, 32, .ro, false⟩]⟩,
  ⟨.XE_STALL_LO, .CCC, 0xe010, [(0x10000, 6), (0x40, 8)], .lo,
    [⟨31, 0, .XE_STALL_CYCLES, 0, .ro, false⟩]⟩,
  ⟨.XE_STALL_HI, .CCC, 0xe014, [(0x10000, 6), (0x40, 8)], .hi,
    [⟨31, 0, .XE_STALL_CYCLES, 32, .ro, false⟩]⟩,
  ⟨.WIN_STATUS, .CCC, 0xf000, [(0x10000, 6), (0x40, 8)], .single,
    [⟨31, 31, .WIN_STATUS_BUSY, 0, .ro, false⟩, ⟨27, 16, .WIN_STATUS_LIVE_TAPS, 0, .ro, false⟩, ⟨14, 8, .WIN_STATUS_PASSES, 0, .ro, false⟩, ⟨3, 3, .WIN_STATUS_FOLD, 0, .ro, false⟩, ⟨2, 2, .WIN_STATUS_REDUCED, 0, .ro, false⟩, ⟨1, 1, .WIN_STATUS_S2D, 0, .ro, false⟩, ⟨0, 0, .WIN_STATUS_ACTIVE, 0, .ro, false⟩]⟩,
  ⟨.KV_STATUS, .LOFT, 0x200, [], .single,
    [⟨31, 31, .KV_STATUS_BUSY, 0, .ro, false⟩, ⟨4, 4, .KV_STATUS_TABLE_ERR, 0, .rc, false⟩, ⟨3, 3, .KV_STATUS_WINNOW_SHORT, 0, .rc, false⟩, ⟨2, 2, .KV_STATUS_NO_PAGE, 0, .rc, false⟩, ⟨1, 1, .KV_STATUS_SLOT_LOW, 0, .rc, false⟩, ⟨0, 0, .KV_STATUS_COMMITTING, 0, .ro, false⟩]⟩,
  ⟨.KV_FREE_SLOTS, .LOFT, 0x210, [], .single,
    [⟨19, 0, .KV_FREE_SLOTS_FREE, 0, .ro, false⟩]⟩,
  ⟨.KV_COW, .LOFT, 0x220, [], .single,
    [⟨31, 0, .KV_COW_COUNT, 0, .rc, false⟩]⟩,
  ⟨.KV_EVICT, .LOFT, 0x224, [], .single,
    [⟨31, 0, .KV_EVICT_COUNT, 0, .rc, false⟩]⟩,
  ⟨.SCH_STATUS, .SCH, 0x0, [], .single,
    [⟨31, 31, .SCH_STATUS_BUSY, 0, .ro, false⟩, ⟨4, 4, .SCH_STATUS_CONFLICT, 0, .rc, false⟩, ⟨3, 3, .SCH_STATUS_BROKEN, 0, .rc, false⟩, ⟨2, 2, .SCH_STATUS_DL_MISS, 0, .rc, false⟩, ⟨1, 1, .SCH_STATUS_BADCFG, 0, .rc, false⟩, ⟨0, 0, .SCH_STATUS_BLACKOUT, 0, .ro, false⟩]⟩,
  ⟨.SCH_QCTX_BASE_LO, .SCH, 0x10, [], .lo,
    [⟨31, 0, .SCH_QCTX_BASE_ADDR, 0, .rw, true⟩]⟩]

/-- Registers, part 4. -/
def regTable4 : List RegDesc := [
  ⟨.SCH_QCTX_BASE_HI, .SCH, 0x14, [], .hi,
    [⟨15, 0, .SCH_QCTX_BASE_ADDR, 32, .rw, true⟩]⟩,
  ⟨.SCH_QCTL, .SCH, 0x20, [], .single,
    [⟨17, 16, .SCH_QCTL_OP, 0, .wo, true⟩, ⟨15, 0, .SCH_QCTL_QUEUE, 0, .wo, true⟩]⟩,
  ⟨.SCH_NK_OVERRUN, .SCH, 0x30, [], .single,
    [⟨31, 0, .SCH_NK_OVERRUN_COUNT, 0, .rc, false⟩]⟩,
  ⟨.SILO_CFG, .SCH, 0x1000, [(0x40, 16)], .single,
    [⟨31, 31, .SILO_CFG_EN, 0, .rw, true⟩, ⟨30, 28, .SILO_CFG_CLASS, 0, .rw, true⟩, ⟨27, 26, .SILO_CFG_HEAD, 0, .rw, true⟩, ⟨25, 25, .SILO_CFG_PENDING, 0, .ro, false⟩, ⟨15, 8, .SILO_CFG_SHARE, 0, .rw, true⟩, ⟨5, 0, .SILO_CFG_G_MIN, 0, .rw, true⟩]⟩,
  ⟨.SILO_MASK_LO, .SCH, 0x1004, [(0x40, 16)], .lo,
    [⟨31, 0, .SILO_MASK_MASK, 0, .rw, true⟩]⟩,
  ⟨.SILO_MASK_HI, .SCH, 0x1008, [(0x40, 16)], .hi,
    [⟨15, 0, .SILO_MASK_MASK, 32, .rw, true⟩]⟩,
  ⟨.SILO_TIME, .SCH, 0x100c, [(0x40, 16)], .single,
    [⟨31, 24, .SILO_TIME_QUANTUM, 0, .rw, true⟩, ⟨23, 16, .SILO_TIME_LEAD, 0, .rw, true⟩, ⟨15, 0, .SILO_TIME_WAIT_MAX, 0, .rw, true⟩]⟩,
  ⟨.SILO_STAT, .SCH, 0x1010, [(0x40, 16)], .single,
    [⟨31, 24, .SILO_STAT_SPAN, 0, .ro, false⟩, ⟨21, 21, .SILO_STAT_RESERVE, 0, .ro, false⟩, ⟨15, 0, .SILO_STAT_HOLDER, 0, .ro, false⟩]⟩,
  ⟨.QDB_SQ_TAIL, .QDB, 0x0, [(0x100, 65536)], .single,
    [⟨31, 0, .QDB_SQ_TAIL_COUNT, 0, .rw, false⟩]⟩,
  ⟨.QDB_CQ_HEAD, .QDB, 0x4, [(0x100, 65536)], .single,
    [⟨31, 0, .QDB_CQ_HEAD_COUNT, 0, .rw, false⟩]⟩,
  ⟨.QDB_SQ_HEAD, .QDB, 0x8, [(0x100, 65536)], .single,
    [⟨31, 0, .QDB_SQ_HEAD_COUNT, 0, .ro, false⟩]⟩,
  ⟨.QDB_CQ_TAIL, .QDB, 0xc, [(0x100, 65536)], .single,
    [⟨31, 0, .QDB_CQ_TAIL_COUNT, 0, .ro, false⟩]⟩,
  ⟨.QDB_STATUS, .QDB, 0x10, [(0x100, 65536)], .single,
    [⟨31, 31, .QDB_STATUS_BUSY, 0, .ro, false⟩, ⟨9, 9, .QDB_STATUS_CQ_FULL, 0, .ro, false⟩, ⟨8, 8, .QDB_STATUS_DB_ERR, 0, .ro, false⟩, ⟨7, 0, .QDB_STATUS_STATE, 0, .ro, false⟩]⟩,
  ⟨.FN_STATUS, .MBOX, 0x100, [(0x1000, 2049)], .single,
    [⟨31, 31, .FN_STATUS_BUSY, 0, .ro, false⟩, ⟨7, 6, .FN_STATUS_ASSIGN, 0, .ro, false⟩, ⟨5, 5, .FN_STATUS_BADKEY, 0, .rc, false⟩, ⟨4, 4, .FN_STATUS_MSI_ERR, 0, .rc, false⟩, ⟨3, 3, .FN_STATUS_FROZEN, 0, .ro, false⟩, ⟨2, 2, .FN_STATUS_RESET_BUSY, 0, .ro, false⟩, ⟨0, 0, .FN_STATUS_ENABLED, 0, .ro, false⟩]⟩,
  ⟨.FN_GEN, .MBOX, 0x104, [(0x1000, 2049)], .single,
    [⟨15, 0, .FN_GEN_GEN, 0, .ro, false⟩]⟩,
  ⟨.FN_RESET, .MBOX, 0x108, [(0x1000, 2049)], .single,
    [⟨31, 24, .FN_RESET_KEY, 0, .wo, false⟩]⟩,
  ⟨.FN_LATE, .MBOX, 0x10c, [(0x1000, 2049)], .single,
    [⟨31, 0, .FN_LATE_COUNT, 0, .rc, false⟩]⟩,
  ⟨.FN_CFG, .SCH, 0x80000, [(0x10, 2049)], .single,
    [⟨31, 30, .FN_CFG_ASSIGN, 0, .rw, true⟩, ⟨26, 16, .FN_CFG_QUOTA, 0, .rw, true⟩, ⟨6, 0, .FN_CFG_VECTORS, 0, .rw, true⟩]⟩,
  ⟨.FN_STATE, .SCH, 0x80004, [(0x10, 2049)], .single,
    [⟨17, 16, .FN_STATE_STATE, 0, .ro, false⟩, ⟨15, 0, .FN_STATE_GEN, 0, .ro, false⟩]⟩,
  ⟨.FN_APER_LO, .SCH, 0x80008, [(0x10, 2049)], .lo,
    [⟨31, 0, .FN_APER_BASE, 0, .rw, true⟩]⟩,
  ⟨.FN_APER_HI, .SCH, 0x8000c, [(0x10, 2049)], .hi,
    [⟨15, 0, .FN_APER_BASE, 32, .rw, true⟩]⟩,
  ⟨.RAS_STATUS, .RASTER, 0x0, [], .single,
    [⟨31, 31, .RAS_STATUS_BUSY, 0, .ro, false⟩, ⟨7, 5, .RAS_STATUS_CLASS1, 0, .ro, false⟩, ⟨4, 4, .RAS_STATUS_CTX1, 0, .ro, false⟩, ⟨3, 3, .RAS_STATUS_CTX0, 0, .ro, false⟩, ⟨2, 2, .RAS_STATUS_FLUSH, 0, .rc, false⟩, ⟨1, 1, .RAS_STATUS_STOOK_BUSY, 0, .rc, false⟩, ⟨0, 0, .RAS_STATUS_BADCFG, 0, .rc, false⟩]⟩,
  ⟨.RAS_STOOK, .RASTER, 0x10, [], .single,
    [⟨22, 16, .RAS_STOOK_SIZE_MIB, 0, .rw, true⟩, ⟨1, 0, .RAS_STOOK_LOC, 0, .rw, true⟩]⟩,
  ⟨.RAS_STOOK_ADDR_LO, .RASTER, 0x18, [], .lo,
    [⟨31, 0, .RAS_STOOK_ADDR_ADDR, 0, .rw, true⟩]⟩]

/-- Registers, part 5. -/
def regTable5 : List RegDesc := [
  ⟨.RAS_STOOK_ADDR_HI, .RASTER, 0x1c, [], .hi,
    [⟨15, 0, .RAS_STOOK_ADDR_ADDR, 32, .rw, true⟩]⟩,
  ⟨.RAS_FLUSH_COUNT, .RASTER, 0x20, [], .single,
    [⟨31, 0, .RAS_FLUSH_COUNT_COUNT, 0, .rc, false⟩]⟩,
  ⟨.RAS_STOOK_PEAK, .RASTER, 0x24, [], .single,
    [⟨31, 0, .RAS_STOOK_PEAK_COUNT, 0, .rc, false⟩]⟩,
  ⟨.DISP_STATUS, .DISPLAY, 0x0, [], .single,
    [⟨31, 31, .DISP_STATUS_BUSY, 0, .ro, false⟩, ⟨16, 16, .DISP_STATUS_CONFLICT, 0, .rc, false⟩, ⟨15, 12, .DISP_STATUS_HPD, 0, .ro, false⟩, ⟨7, 4, .DISP_STATUS_UNDERRUN, 0, .rc, false⟩, ⟨3, 0, .DISP_STATUS_REPEAT, 0, .rc, false⟩]⟩,
  ⟨.HEAD_CTRL, .DISPLAY, 0x100, [(0x40, 4)], .single,
    [⟨31, 31, .HEAD_CTRL_EN, 0, .rw, false⟩, ⟨30, 30, .HEAD_CTRL_BPC10, 0, .rw, false⟩]⟩,
  ⟨.HEAD_HTIME, .DISPLAY, 0x104, [(0x40, 4)], .single,
    [⟨31, 16, .HEAD_HTIME_H_TOTAL, 0, .rw, false⟩, ⟨15, 0, .HEAD_HTIME_H_ACTIVE, 0, .rw, false⟩]⟩,
  ⟨.HEAD_HSYNC, .DISPLAY, 0x108, [(0x40, 4)], .single,
    [⟨31, 31, .HEAD_HSYNC_POL, 0, .rw, false⟩, ⟨30, 16, .HEAD_HSYNC_WIDTH, 0, .rw, false⟩, ⟨15, 0, .HEAD_HSYNC_START, 0, .rw, false⟩]⟩,
  ⟨.HEAD_VTIME, .DISPLAY, 0x10c, [(0x40, 4)], .single,
    [⟨31, 16, .HEAD_VTIME_V_TOTAL, 0, .rw, false⟩, ⟨15, 0, .HEAD_VTIME_V_ACTIVE, 0, .rw, false⟩]⟩,
  ⟨.HEAD_VSYNC, .DISPLAY, 0x110, [(0x40, 4)], .single,
    [⟨31, 31, .HEAD_VSYNC_POL, 0, .rw, false⟩, ⟨30, 16, .HEAD_VSYNC_WIDTH, 0, .rw, false⟩, ⟨15, 0, .HEAD_VSYNC_START, 0, .rw, false⟩]⟩,
  ⟨.HEAD_PCLK, .DISPLAY, 0x114, [(0x40, 4)], .single,
    [⟨19, 0, .HEAD_PCLK_KHZ, 0, .rw, false⟩]⟩,
  ⟨.HEAD_IMG_LO, .DISPLAY, 0x118, [(0x40, 4)], .lo,
    [⟨31, 0, .HEAD_IMG_ADDR, 0, .rw, false⟩]⟩,
  ⟨.HEAD_IMG_HI, .DISPLAY, 0x11c, [(0x40, 4)], .hi,
    [⟨15, 0, .HEAD_IMG_ADDR, 32, .rw, false⟩]⟩,
  ⟨.HEAD_REPEAT, .DISPLAY, 0x120, [(0x40, 4)], .single,
    [⟨31, 0, .HEAD_REPEAT_COUNT, 0, .rc, false⟩]⟩,
  ⟨.HEAD_UNDERRUN, .DISPLAY, 0x124, [(0x40, 4)], .single,
    [⟨31, 0, .HEAD_UNDERRUN_COUNT, 0, .rc, false⟩]⟩,
  ⟨.HEAD_VBLANK_LO, .DISPLAY, 0x128, [(0x40, 4)], .lo,
    [⟨31, 0, .HEAD_VBLANK_TIME, 0, .ro, false⟩]⟩,
  ⟨.HEAD_VBLANK_HI, .DISPLAY, 0x12c, [(0x40, 4)], .hi,
    [⟨31, 0, .HEAD_VBLANK_TIME, 32, .ro, false⟩]⟩,
  ⟨.HEAD_LINK, .DISPLAY, 0x130, [(0x40, 4)], .single,
    [⟨31, 31, .HEAD_LINK_TRAINED, 0, .ro, false⟩, ⟨7, 4, .HEAD_LINK_LANES, 0, .ro, false⟩, ⟨3, 0, .HEAD_LINK_RATE, 0, .ro, false⟩]⟩,
  ⟨.HEAD_FILL, .DISPLAY, 0x134, [(0x40, 4)], .single,
    [⟨29, 0, .HEAD_FILL_COLOUR, 0, .rw, false⟩]⟩,
  ⟨.CSI_STATUS, .CSI, 0x0, [(0x10000, 8)], .single,
    [⟨31, 31, .CSI_STATUS_BUSY, 0, .ro, false⟩, ⟨3, 3, .CSI_STATUS_CONFLICT, 0, .rc, false⟩, ⟨2, 2, .CSI_STATUS_BADCFG, 0, .rc, false⟩, ⟨1, 1, .CSI_STATUS_PHY_ERR, 0, .rc, false⟩, ⟨0, 0, .CSI_STATUS_LOCK, 0, .ro, false⟩]⟩,
  ⟨.CSI_PHY, .CSI, 0x10, [(0x10000, 8)], .single,
    [⟨31, 30, .CSI_PHY_MODE, 0, .rw, false⟩, ⟨29, 28, .CSI_PHY_LANES, 0, .rw, false⟩, ⟨12, 0, .CSI_PHY_RATE, 0, .rw, false⟩]⟩,
  ⟨.CSI_PKT_ERR, .CSI, 0x14, [(0x10000, 8)], .single,
    [⟨31, 16, .CSI_PKT_ERR_UNKNOWN, 0, .rc, false⟩, ⟨15, 0, .CSI_PKT_ERR_ECC_FIX, 0, .rc, false⟩]⟩,
  ⟨.STR_CFG, .CSI, 0x1000, [(0x10000, 8), (0x80, 16)], .single,
    [⟨31, 31, .STR_CFG_EN, 0, .rw, false⟩, ⟨30, 30, .STR_CFG_SRC, 0, .rw, false⟩, ⟨29, 29, .STR_CFG_LINESCAN, 0, .rw, false⟩, ⟨28, 28, .STR_CFG_GOLD_EN, 0, .rw, false⟩, ⟨27, 24, .STR_CFG_VC, 0, .rw, false⟩, ⟨23, 18, .STR_CFG_DT, 0, .rw, false⟩, ⟨15, 12, .STR_CFG_OUT_FMT, 0, .rw, false⟩, ⟨11, 9, .STR_CFG_TB, 0, .rw, false⟩, ⟨8, 7, .STR_CFG_ODO, 0, .rw, false⟩, ⟨6, 6, .STR_CFG_TRIG_EN, 0, .rw, false⟩, ⟨4, 0, .STR_CFG_TRIG, 0, .rw, false⟩]⟩,
  ⟨.STR_GEOM, .CSI, 0x1004, [(0x10000, 8), (0x80, 16)], .single,
    [⟨31, 16, .STR_GEOM_HEIGHT, 0, .rw, false⟩, ⟨15, 0, .STR_GEOM_WIDTH, 0, .rw, false⟩]⟩,
  ⟨.STR_BUF, .CSI, 0x1008, [(0x10000, 8), (0x80, 16)], .single,
    [⟨31, 16, .STR_BUF_X0, 0, .rw, false⟩, ⟨3, 0, .STR_BUF_NBUF, 0, .rw, false⟩]⟩]

/-- Registers, part 6. -/
def regTable6 : List RegDesc := [
  ⟨.STR_HANDLE, .CSI, 0x100c, [(0x10000, 8), (0x80, 16)], .single,
    [⟨31, 0, .STR_HANDLE_HANDLE, 0, .rw, false⟩]⟩,
  ⟨.STR_OUT_OFF, .CSI, 0x1010, [(0x10000, 8), (0x80, 16)], .single,
    [⟨31, 0, .STR_OUT_OFF_OFF, 0, .rw, false⟩]⟩,
  ⟨.STR_FSTRIDE, .CSI, 0x1014, [(0x10000, 8), (0x80, 16)], .single,
    [⟨31, 0, .STR_FSTRIDE_STRIDE, 0, .rw, false⟩]⟩,
  ⟨.STR_REC_LO, .CSI, 0x1018, [(0x10000, 8), (0x80, 16)], .lo,
    [⟨31, 0, .STR_REC_ADDR, 0, .rw, false⟩]⟩,
  ⟨.STR_REC_HI, .CSI, 0x101c, [(0x10000, 8), (0x80, 16)], .hi,
    [⟨15, 0, .STR_REC_ADDR, 32, .rw, false⟩]⟩,
  ⟨.STR_REL_LO, .CSI, 0x1020, [(0x10000, 8), (0x80, 16)], .lo,
    [⟨31, 0, .STR_REL_ADDR, 0, .rw, false⟩]⟩,
  ⟨.STR_REL_HI, .CSI, 0x1024, [(0x10000, 8), (0x80, 16)], .hi,
    [⟨15, 0, .STR_REL_ADDR, 32, .rw, false⟩]⟩,
  ⟨.STR_GOLD, .CSI, 0x1028, [(0x10000, 8), (0x80, 16)], .single,
    [⟨31, 16, .STR_GOLD_UDP_PORT, 0, .rw, false⟩, ⟨15, 0, .STR_GOLD_PERIOD, 0, .rw, false⟩]⟩,
  ⟨.STR_GOLD_HANDLE, .CSI, 0x102c, [(0x10000, 8), (0x80, 16)], .single,
    [⟨31, 0, .STR_GOLD_HANDLE_HANDLE, 0, .rw, false⟩]⟩,
  ⟨.STR_EXPECT_0, .CSI, 0x1030, [(0x10000, 8), (0x80, 16)], .single,
    [⟨31, 0, .STR_EXPECT_0_SIG, 0, .rw, false⟩]⟩,
  ⟨.STR_EXPECT_1, .CSI, 0x1034, [(0x10000, 8), (0x80, 16)], .single,
    [⟨31, 0, .STR_EXPECT_1_SIG, 0, .rw, false⟩]⟩,
  ⟨.STR_EXPECT_2, .CSI, 0x1038, [(0x10000, 8), (0x80, 16)], .single,
    [⟨31, 0, .STR_EXPECT_2_SIG, 0, .rw, false⟩]⟩,
  ⟨.STR_EXPECT_3, .CSI, 0x103c, [(0x10000, 8), (0x80, 16)], .single,
    [⟨31, 0, .STR_EXPECT_3_SIG, 0, .rw, false⟩]⟩,
  ⟨.STR_FRAMES_LO, .CSI, 0x1040, [(0x10000, 8), (0x80, 16)], .lo,
    [⟨31, 0, .STR_FRAMES_COUNT, 0, .ro, false⟩]⟩,
  ⟨.STR_FRAMES_HI, .CSI, 0x1044, [(0x10000, 8), (0x80, 16)], .hi,
    [⟨31, 0, .STR_FRAMES_COUNT, 32, .ro, false⟩]⟩,
  ⟨.STR_STATE, .CSI, 0x1048, [(0x10000, 8), (0x80, 16)], .single,
    [⟨31, 31, .STR_STATE_FROZEN, 0, .ro, false⟩, ⟨30, 30, .STR_STATE_INJECTING, 0, .ro, false⟩, ⟨29, 27, .STR_STATE_DEFER, 0, .ro, false⟩]⟩,
  ⟨.STR_DROP, .CSI, 0x104c, [(0x10000, 8), (0x80, 16)], .single,
    [⟨31, 0, .STR_DROP_COUNT, 0, .rc, false⟩]⟩,
  ⟨.STR_DAMAGED, .CSI, 0x1050, [(0x10000, 8), (0x80, 16)], .single,
    [⟨31, 0, .STR_DAMAGED_COUNT, 0, .rc, false⟩]⟩,
  ⟨.STR_DISPLACED, .CSI, 0x1054, [(0x10000, 8), (0x80, 16)], .single,
    [⟨31, 0, .STR_DISPLACED_COUNT, 0, .rc, false⟩]⟩,
  ⟨.ODO_STATUS, .ODO, 0x0, [], .single,
    [⟨31, 31, .ODO_STATUS_BUSY, 0, .ro, false⟩, ⟨16, 16, .ODO_STATUS_BADCFG, 0, .rc, false⟩, ⟨15, 12, .ODO_STATUS_STILL, 0, .ro, false⟩, ⟨11, 8, .ODO_STATUS_SLIP, 0, .ro, false⟩, ⟨7, 4, .ODO_STATUS_FAULT, 0, .rc, false⟩, ⟨3, 0, .ODO_STATUS_ZSEEN, 0, .rc, false⟩]⟩,
  ⟨.ODO_CFG, .ODO, 0x100, [(0x40, 4)], .single,
    [⟨31, 31, .ODO_CFG_EN, 0, .rwp, true⟩, ⟨30, 30, .ODO_CFG_INVERT, 0, .rwp, true⟩, ⟨29, 29, .ODO_CFG_FALLBACK, 0, .rwp, true⟩, ⟨28, 26, .ODO_CFG_REF, 0, .rwp, true⟩, ⟨25, 16, .ODO_CFG_DEB, 0, .rwp, true⟩, ⟨15, 0, .ODO_CFG_CPR, 0, .rwp, true⟩]⟩,
  ⟨.ODO_SLIP, .ODO, 0x104, [(0x40, 4)], .single,
    [⟨31, 16, .ODO_SLIP_STILL_MAX, 0, .rwp, true⟩, ⟨15, 8, .ODO_SLIP_TOL, 0, .rwp, true⟩, ⟨7, 0, .ODO_SLIP_WIN, 0, .rwp, true⟩]⟩,
  ⟨.ODO_RATIO, .ODO, 0x108, [(0x40, 4)], .single,
    [⟨31, 0, .ODO_RATIO_RATIO, 0, .rwp, true⟩]⟩,
  ⟨.ODO_COUNT_LO, .ODO, 0x110, [(0x40, 4)], .lo,
    [⟨31, 0, .ODO_COUNT_COUNT, 0, .ro, false⟩]⟩]

/-- Registers, part 7. -/
def regTable7 : List RegDesc := [
  ⟨.ODO_COUNT_HI, .ODO, 0x114, [(0x40, 4)], .hi,
    [⟨31, 0, .ODO_COUNT_COUNT, 32, .ro, false⟩]⟩,
  ⟨.ODO_DIST_LO, .ODO, 0x118, [(0x40, 4)], .lo,
    [⟨31, 0, .ODO_DIST_DIST, 0, .rwp, true⟩]⟩,
  ⟨.ODO_DIST_HI, .ODO, 0x11c, [(0x40, 4)], .hi,
    [⟨31, 0, .ODO_DIST_DIST, 32, .rwp, true⟩]⟩,
  ⟨.ODO_ZCOUNT_LO, .ODO, 0x120, [(0x40, 4)], .lo,
    [⟨31, 0, .ODO_ZCOUNT_DIST, 0, .ro, false⟩]⟩,
  ⟨.ODO_ZCOUNT_HI, .ODO, 0x124, [(0x40, 4)], .hi,
    [⟨31, 0, .ODO_ZCOUNT_DIST, 32, .ro, false⟩]⟩,
  ⟨.ODO_SPEED, .ODO, 0x128, [(0x40, 4)], .single,
    [⟨31, 0, .ODO_SPEED_SPEED, 0, .ro, false⟩]⟩,
  ⟨.ODO_ERR, .ODO, 0x12c, [(0x40, 4)], .single,
    [⟨31, 0, .ODO_ERR_COUNT, 0, .rc, false⟩]⟩,
  ⟨.TACH_CFG, .ODO, 0x200, [(0x10, 4)], .single,
    [⟨31, 31, .TACH_CFG_EN, 0, .rwp, false⟩, ⟨9, 0, .TACH_CFG_DEB, 0, .rwp, false⟩]⟩,
  ⟨.TACH_PULSES, .ODO, 0x204, [(0x10, 4)], .single,
    [⟨31, 0, .TACH_PULSES_COUNT, 0, .ro, false⟩]⟩,
  ⟨.TACH_PERIOD, .ODO, 0x208, [(0x10, 4)], .single,
    [⟨31, 0, .TACH_PERIOD_CYCLES, 0, .ro, false⟩]⟩,
  ⟨.TB_STATUS, .TIMEBASE, 0x0, [], .single,
    [⟨31, 31, .TB_STATUS_BUSY, 0, .ro, false⟩, ⟨23, 16, .TB_STATUS_HOLD, 0, .ro, false⟩, ⟨15, 8, .TB_STATUS_STEPPED, 0, .rc, false⟩, ⟨1, 1, .TB_STATUS_CONFLICT, 0, .rc, false⟩, ⟨0, 0, .TB_STATUS_BADCFG, 0, .rc, false⟩]⟩,
  ⟨.TB_CFG, .TIMEBASE, 0x100, [(0x40, 8)], .single,
    [⟨31, 31, .TB_CFG_EN, 0, .rwp, true⟩, ⟨30, 29, .TB_CFG_SRC, 0, .rwp, true⟩, ⟨28, 28, .TB_CFG_DEGRADED, 0, .ro, false⟩, ⟨27, 27, .TB_CFG_HOLDOVER, 0, .ro, false⟩, ⟨23, 16, .TB_CFG_HOLD_S, 0, .rwp, true⟩]⟩,
  ⟨.TB_GAIN, .TIMEBASE, 0x104, [(0x40, 8)], .single,
    [⟨31, 16, .TB_GAIN_KP, 0, .rwp, true⟩, ⟨15, 0, .TB_GAIN_KI, 0, .rwp, true⟩]⟩,
  ⟨.TB_ADJ, .TIMEBASE, 0x108, [(0x40, 8)], .single,
    [⟨31, 0, .TB_ADJ_ADJ, 0, .rwp, true⟩]⟩,
  ⟨.TB_INTEG, .TIMEBASE, 0x10c, [(0x40, 8)], .single,
    [⟨31, 0, .TB_INTEG_I, 0, .ro, false⟩]⟩,
  ⟨.TB_NSEC, .TIMEBASE, 0x110, [(0x40, 8)], .single,
    [⟨29, 0, .TB_NSEC_NSEC, 0, .ro, false⟩]⟩,
  ⟨.TB_SEC_LO, .TIMEBASE, 0x114, [(0x40, 8)], .single,
    [⟨31, 0, .TB_SEC_SEC, 0, .ro, false⟩]⟩,
  ⟨.TB_SEC_HI, .TIMEBASE, 0x118, [(0x40, 8)], .single,
    [⟨31, 0, .TB_SEC_SEC, 32, .ro, false⟩]⟩,
  ⟨.TB_FRAC, .TIMEBASE, 0x11c, [(0x40, 8)], .single,
    [⟨15, 0, .TB_FRAC_FRAC, 0, .ro, false⟩]⟩,
  ⟨.TB_NS64_LO, .TIMEBASE, 0x120, [(0x40, 8)], .lo,
    [⟨31, 0, .TB_NS64_TIME, 0, .ro, false⟩]⟩,
  ⟨.TB_NS64_HI, .TIMEBASE, 0x124, [(0x40, 8)], .hi,
    [⟨31, 0, .TB_NS64_TIME, 32, .ro, false⟩]⟩,
  ⟨.TB_OFFSET_LO, .TIMEBASE, 0x128, [(0x40, 8)], .lo,
    [⟨31, 0, .TB_OFFSET_THETA, 0, .wo, true⟩]⟩,
  ⟨.TB_OFFSET_HI, .TIMEBASE, 0x12c, [(0x40, 8)], .hi,
    [⟨31, 0, .TB_OFFSET_THETA, 32, .wo, true⟩]⟩,
  ⟨.TB_SETSEC_LO, .TIMEBASE, 0x130, [(0x40, 8)], .lo,
    [⟨31, 0, .TB_SETSEC_SEC, 0, .rwp, true⟩]⟩]

/-- Registers, part 8. -/
def regTable8 : List RegDesc := [
  ⟨.TB_SETSEC_HI, .TIMEBASE, 0x134, [(0x40, 8)], .hi,
    [⟨31, 0, .TB_SETSEC_SEC, 32, .rwp, true⟩]⟩,
  ⟨.TB_SETNSEC, .TIMEBASE, 0x138, [(0x40, 8)], .single,
    [⟨29, 0, .TB_SETNSEC_NSEC, 0, .wo, true⟩]⟩,
  ⟨.TB_LAST_OFF, .TIMEBASE, 0x13c, [(0x40, 8)], .single,
    [⟨31, 0, .TB_LAST_OFF_THETA, 0, .ro, false⟩]⟩,
  ⟨.PPS_OUT_CFG, .TIMEBASE, 0x80, [], .single,
    [⟨31, 31, .PPS_OUT_CFG_EN, 0, .rwp, true⟩, ⟨30, 28, .PPS_OUT_CFG_TB, 0, .rwp, true⟩, ⟨19, 0, .PPS_OUT_CFG_WIDTH, 0, .rwp, true⟩]⟩,
  ⟨.PPS_IN_DELAY, .TIMEBASE, 0x84, [], .single,
    [⟨31, 0, .PPS_IN_DELAY_DELAY, 0, .rwp, true⟩]⟩,
  ⟨.TRG_CFG, .TIMEBASE, 0x400, [(0x20, 32)], .single,
    [⟨31, 30, .TRG_CFG_MODE, 0, .rwp, false⟩, ⟨29, 27, .TRG_CFG_SRC, 0, .rwp, false⟩, ⟨26, 25, .TRG_CFG_DIR, 0, .rwp, false⟩, ⟨24, 24, .TRG_CFG_PIN, 0, .rwp, false⟩, ⟨23, 23, .TRG_CFG_CTRL, 0, .rwp, false⟩, ⟨22, 22, .TRG_CFG_POL, 0, .rwp, false⟩, ⟨19, 0, .TRG_CFG_WIDTH, 0, .rwp, false⟩]⟩,
  ⟨.TRG_START_LO, .TIMEBASE, 0x404, [(0x20, 32)], .lo,
    [⟨31, 0, .TRG_START_START, 0, .rwp, false⟩]⟩,
  ⟨.TRG_START_HI, .TIMEBASE, 0x408, [(0x20, 32)], .hi,
    [⟨31, 0, .TRG_START_START, 32, .rwp, false⟩]⟩,
  ⟨.TRG_PERIOD, .TIMEBASE, 0x40c, [(0x20, 32)], .single,
    [⟨31, 0, .TRG_PERIOD_PERIOD, 0, .rwp, false⟩]⟩,
  ⟨.TRG_COUNT_LO, .TIMEBASE, 0x410, [(0x20, 32)], .lo,
    [⟨31, 0, .TRG_COUNT_COUNT, 0, .ro, false⟩]⟩,
  ⟨.TRG_COUNT_HI, .TIMEBASE, 0x414, [(0x20, 32)], .hi,
    [⟨31, 0, .TRG_COUNT_COUNT, 32, .ro, false⟩]⟩,
  ⟨.TRG_MISSED, .TIMEBASE, 0x418, [(0x20, 32)], .single,
    [⟨31, 0, .TRG_MISSED_COUNT, 0, .rc, false⟩]⟩,
  ⟨.TSCAP_CFG, .TIMEBASE, 0x1000, [(0x10, 32)], .single,
    [⟨31, 31, .TSCAP_CFG_EN, 0, .rwp, false⟩, ⟨30, 29, .TSCAP_CFG_EDGE, 0, .rwp, false⟩, ⟨28, 26, .TSCAP_CFG_TB, 0, .rwp, false⟩]⟩,
  ⟨.TSCAP_STAMP_LO, .TIMEBASE, 0x1004, [(0x10, 32)], .lo,
    [⟨31, 0, .TSCAP_STAMP_TIME, 0, .ro, false⟩]⟩,
  ⟨.TSCAP_STAMP_HI, .TIMEBASE, 0x1008, [(0x10, 32)], .hi,
    [⟨31, 0, .TSCAP_STAMP_TIME, 32, .ro, false⟩]⟩,
  ⟨.TSCAP_STATUS, .TIMEBASE, 0x100c, [(0x10, 32)], .single,
    [⟨1, 1, .TSCAP_STATUS_OVERRUN, 0, .rc, false⟩, ⟨0, 0, .TSCAP_STATUS_VALID, 0, .rc, false⟩]⟩,
  ⟨.CMP32_CFG, .TIMEBASE, 0x3000, [(0x10, 8)], .single,
    [⟨31, 31, .CMP32_CFG_EN, 0, .rwp, false⟩, ⟨30, 28, .CMP32_CFG_TB, 0, .rwp, false⟩]⟩,
  ⟨.CMP32_SEC, .TIMEBASE, 0x3004, [(0x10, 8)], .single,
    [⟨31, 0, .CMP32_SEC_SEC, 0, .rwp, false⟩]⟩,
  ⟨.CMP32_NSEC, .TIMEBASE, 0x3008, [(0x10, 8)], .single,
    [⟨29, 0, .CMP32_NSEC_NSEC, 0, .rwp, false⟩]⟩,
  ⟨.CMP32_STATUS, .TIMEBASE, 0x300c, [(0x10, 8)], .single,
    [⟨0, 0, .CMP32_STATUS_MATCH, 0, .rc, false⟩]⟩,
  ⟨.FBR_STATUS, .FBR, 0x0, [], .single,
    [⟨31, 31, .FBR_STATUS_BUSY, 0, .ro, false⟩, ⟨4, 4, .FBR_STATUS_BADCFG, 0, .rc, false⟩, ⟨3, 3, .FBR_STATUS_SEM_HELD, 0, .ro, false⟩, ⟨2, 2, .FBR_STATUS_SEM_TIMEOUT, 0, .rc, false⟩, ⟨1, 1, .FBR_STATUS_LIVELOCK, 0, .rc, false⟩, ⟨0, 0, .FBR_STATUS_PWERR, 0, .rc, false⟩]⟩,
  ⟨.FBR_ERR_ADDR_LO, .FBR, 0x10, [], .lo,
    [⟨31, 0, .FBR_ERR_ADDR_ADDR, 0, .ro, false⟩]⟩,
  ⟨.FBR_ERR_ADDR_HI, .FBR, 0x14, [], .hi,
    [⟨15, 0, .FBR_ERR_ADDR_ADDR, 32, .ro, false⟩]⟩,
  ⟨.FBR_ERR_INFO, .FBR, 0x18, [], .single,
    [⟨25, 24, .FBR_ERR_INFO_CAUSE, 0, .ro, false⟩, ⟨19, 16, .FBR_ERR_INFO_BE, 0, .ro, false⟩, ⟨11, 0, .FBR_ERR_INFO_MASTER, 0, .ro, false⟩]⟩]

/-- Registers, part 9. -/
def regTable9 : List RegDesc := [
  ⟨.FBR_ERR_OVERFLOW, .FBR, 0x1c, [], .single,
    [⟨15, 0, .FBR_ERR_OVERFLOW_COUNT, 0, .rc, false⟩]⟩,
  ⟨.FBR_LL_MASTER, .FBR, 0x20, [], .single,
    [⟨11, 0, .FBR_LL_MASTER_MASTER, 0, .ro, false⟩]⟩,
  ⟨.FBR_SEM, .FBR, 0x30, [], .single,
    [⟨31, 31, .FBR_SEM_HELD, 0, .ro, false⟩, ⟨30, 30, .FBR_SEM_RELEASE, 0, .wo, true⟩, ⟨11, 0, .FBR_SEM_HOLDER, 0, .ro, false⟩]⟩,
  ⟨.FBR_RANGE, .FBR, 0x100, [(0x4, 16)], .single,
    [⟨31, 31, .FBR_RANGE_EN, 0, .rw, true⟩, ⟨30, 30, .FBR_RANGE_POSTED, 0, .rw, true⟩, ⟨27, 16, .FBR_RANGE_COUNT, 0, .rw, true⟩, ⟨11, 0, .FBR_RANGE_BASE, 0, .rw, true⟩]⟩,
  ⟨.ETH_PORT_CFG, .ETH, 0x1000, [(0x100, 7)], .single,
    [⟨31, 31, .ETH_PORT_CFG_EN, 0, .rw, false⟩, ⟨30, 30, .ETH_PORT_CFG_AN, 0, .rw, false⟩, ⟨29, 28, .ETH_PORT_CFG_FEC, 0, .rw, false⟩, ⟨27, 24, .ETH_PORT_CFG_SPEED, 0, .rw, false⟩]⟩,
  ⟨.ETH_PORT_STATUS, .ETH, 0x1004, [(0x100, 7)], .single,
    [⟨31, 31, .ETH_PORT_STATUS_LINK, 0, .ro, false⟩, ⟨27, 24, .ETH_PORT_STATUS_SPEED, 0, .ro, false⟩]⟩,
  ⟨.ETH_PORT_LAT, .ETH, 0x1008, [(0x100, 7)], .single,
    [⟨31, 16, .ETH_PORT_LAT_LAT_OUT, 0, .rw, false⟩, ⟨15, 0, .ETH_PORT_LAT_LAT_IN, 0, .rw, false⟩]⟩,
  ⟨.CAN_STATUS, .CAN, 0x0, [(0x4000, 4)], .single,
    [⟨31, 31, .CAN_STATUS_BUSY, 0, .ro, false⟩, ⟨30, 30, .CAN_STATUS_BUSOFF, 0, .ro, false⟩, ⟨29, 29, .CAN_STATUS_PASSIVE, 0, .ro, false⟩, ⟨23, 16, .CAN_STATUS_LOST, 0, .rc, false⟩, ⟨15, 8, .CAN_STATUS_TEC, 0, .ro, false⟩, ⟨7, 0, .CAN_STATUS_REC, 0, .ro, false⟩]⟩,
  ⟨.CAN_CFG, .CAN, 0x4, [(0x4000, 4)], .single,
    [⟨31, 31, .CAN_CFG_EN, 0, .rwp, false⟩, ⟨30, 30, .CAN_CFG_SRST, 0, .rwp, false⟩, ⟨29, 29, .CAN_CFG_FD, 0, .rwp, false⟩, ⟨28, 28, .CAN_CFG_MANUAL, 0, .rwp, false⟩, ⟨26, 24, .CAN_CFG_TB, 0, .rwp, false⟩]⟩,
  ⟨.CAN_BTR, .CAN, 0x10, [(0x4000, 4)], .single,
    [⟨31, 24, .CAN_BTR_PRESC, 0, .rwp, false⟩, ⟨23, 16, .CAN_BTR_TSEG1, 0, .rwp, false⟩, ⟨15, 8, .CAN_BTR_TSEG2, 0, .rwp, false⟩, ⟨7, 0, .CAN_BTR_SJW, 0, .rwp, false⟩]⟩,
  ⟨.CAN_DBTR, .CAN, 0x14, [(0x4000, 4)], .single,
    [⟨31, 27, .CAN_DBTR_PRESC, 0, .rwp, false⟩, ⟨26, 22, .CAN_DBTR_TSEG1, 0, .rwp, false⟩, ⟨21, 18, .CAN_DBTR_TSEG2, 0, .rwp, false⟩, ⟨17, 14, .CAN_DBTR_SJW, 0, .rwp, false⟩, ⟨6, 0, .CAN_DBTR_TDCO, 0, .rwp, false⟩]⟩,
  ⟨.UART_CFG, .UART, 0x4, [(0x4000, 4)], .single,
    [⟨31, 31, .UART_CFG_EN, 0, .rwp, false⟩, ⟨30, 30, .UART_CFG_RS485, 0, .rwp, false⟩, ⟨29, 28, .UART_CFG_PARITY, 0, .rwp, false⟩, ⟨27, 27, .UART_CFG_BITS8, 0, .rwp, false⟩, ⟨26, 26, .UART_CFG_STOP2, 0, .rwp, false⟩, ⟨25, 22, .UART_CFG_DE_LEAD, 0, .rwp, false⟩, ⟨21, 18, .UART_CFG_DE_TAIL, 0, .rwp, false⟩, ⟨17, 2, .UART_CFG_DIV, 0, .rwp, false⟩, ⟨1, 0, .UART_CFG_DIVF_HI, 0, .rwp, false⟩]⟩,
  ⟨.UART_FRAC, .UART, 0x8, [(0x4000, 4)], .single,
    [⟨1, 0, .UART_FRAC_DIVF_LO, 0, .rwp, false⟩]⟩,
  ⟨.PCIE_CFG, .PCIE, 0x0, [], .single,
    [⟨31, 31, .PCIE_CFG_EN, 0, .rw, true⟩, ⟨30, 30, .PCIE_CFG_ROLE, 0, .rw, true⟩, ⟨29, 28, .PCIE_CFG_REFCLK_OUT, 0, .rw, true⟩, ⟨27, 26, .PCIE_CFG_WIDTH, 0, .rw, true⟩, ⟨25, 23, .PCIE_CFG_RATE, 0, .rw, true⟩]⟩,
  ⟨.PCIE_IB_BUS_LO, .PCIE, 0x100, [(0x10, 16)], .lo,
    [⟨31, 0, .PCIE_IB_BUS_ADDR, 0, .rw, true⟩]⟩,
  ⟨.PCIE_IB_BUS_HI, .PCIE, 0x104, [(0x10, 16)], .hi,
    [⟨31, 0, .PCIE_IB_BUS_ADDR, 32, .rw, true⟩]⟩,
  ⟨.PCIE_IB_PHYS_LO, .PCIE, 0x108, [(0x10, 16)], .lo,
    [⟨31, 0, .PCIE_IB_PHYS_ADDR, 0, .rw, true⟩]⟩,
  ⟨.PCIE_IB_PHYS_HI, .PCIE, 0x10c, [(0x10, 16)], .hi,
    [⟨31, 0, .PCIE_IB_PHYS_ADDR, 32, .rw, true⟩]⟩,
  ⟨.MIRSIA_STATUS, .MIRSIA, 0x0, [(0x10000, 3)], .single,
    [⟨31, 31, .MIRSIA_STATUS_UP, 0, .ro, false⟩, ⟨30, 30, .MIRSIA_STATUS_DOWN, 0, .ro, false⟩, ⟨23, 16, .MIRSIA_STATUS_REPAIRED, 0, .ro, false⟩, ⟨15, 0, .MIRSIA_STATUS_RETRAINS, 0, .rc, false⟩]⟩,
  ⟨.COMMIT_STATUS, .COMMIT, 0x0, [], .single,
    [⟨31, 31, .COMMIT_STATUS_BUSY, 0, .ro, false⟩, ⟨5, 5, .COMMIT_STATUS_SEG_OVERRUN, 0, .rc, false⟩, ⟨4, 4, .COMMIT_STATUS_INVALID, 0, .rc, false⟩, ⟨3, 3, .COMMIT_STATUS_REMOVED, 0, .rc, false⟩, ⟨2, 2, .COMMIT_STATUS_TRANSIENT, 0, .rc, false⟩, ⟨1, 1, .COMMIT_STATUS_SEQ_ACTIVE, 0, .ro, false⟩, ⟨0, 0, .COMMIT_STATUS_MISMATCH, 0, .rc, false⟩]⟩,
  ⟨.COMMIT_OUT_LO, .COMMIT, 0x10, [], .lo,
    [⟨31, 0, .COMMIT_OUT_CORES, 0, .ro, false⟩]⟩,
  ⟨.COMMIT_OUT_HI, .COMMIT, 0x14, [], .hi,
    [⟨15, 0, .COMMIT_OUT_CORES, 32, .ro, false⟩]⟩,
  ⟨.COMMIT_COUNT, .COMMIT, 0x20, [], .single,
    [⟨31, 16, .COMMIT_COUNT_PERSISTENT, 0, .rc, false⟩, ⟨15, 0, .COMMIT_COUNT_TRANSIENT, 0, .rc, false⟩]⟩,
  ⟨.COMMIT_SEG_OVERRUN, .COMMIT, 0x24, [], .single,
    [⟨31, 0, .COMMIT_SEG_OVERRUN_COUNT, 0, .rc, false⟩]⟩]

/-- Registers, part 10. -/
def regTable10 : List RegDesc := [
  ⟨.APPAIR_CFG, .COMMIT, 0x30, [], .single,
    [⟨1, 1, .APPAIR_CFG_EN1, 0, .rw, true⟩, ⟨0, 0, .APPAIR_CFG_EN0, 0, .rw, true⟩]⟩,
  ⟨.APPAIR_STATUS, .COMMIT, 0x34, [], .single,
    [⟨7, 4, .APPAIR_STATUS_OUT, 0, .ro, false⟩, ⟨3, 2, .APPAIR_STATUS_DEGRADED, 0, .ro, false⟩, ⟨1, 0, .APPAIR_STATUS_ACTIVE, 0, .ro, false⟩]⟩,
  ⟨.MIRROR_STATUS, .MIRROR, 0x0, [], .single,
    [⟨31, 31, .MIRROR_STATUS_BUSY, 0, .ro, false⟩, ⟨11, 8, .MIRROR_STATUS_LANES, 0, .ro, false⟩, ⟨7, 7, .MIRROR_STATUS_ROLE_ERR, 0, .rc, false⟩, ⟨6, 6, .MIRROR_STATUS_UNSYNC, 0, .ro, false⟩, ⟨5, 5, .MIRROR_STATUS_HANDOVER, 0, .ro, false⟩, ⟨4, 4, .MIRROR_STATUS_ALT_OK, 0, .ro, false⟩, ⟨3, 3, .MIRROR_STATUS_LINK_UP, 0, .ro, false⟩, ⟨2, 1, .MIRROR_STATUS_ROLE, 0, .ro, false⟩, ⟨0, 0, .MIRROR_STATUS_HB_LOST, 0, .rc, false⟩]⟩,
  ⟨.MIRROR_CFG, .MIRROR, 0x10, [], .single,
    [⟨31, 31, .MIRROR_CFG_EN, 0, .rw, true⟩, ⟨30, 29, .MIRROR_CFG_ROLE_REQ, 0, .rw, true⟩, ⟨28, 28, .MIRROR_CFG_ALT_EN, 0, .rw, true⟩, ⟨21, 16, .MIRROR_CFG_ALT_PORT, 0, .rw, true⟩]⟩,
  ⟨.MIRROR_SEQ_LO, .MIRROR, 0x18, [], .lo,
    [⟨31, 0, .MIRROR_SEQ_SEQ, 0, .ro, false⟩]⟩,
  ⟨.MIRROR_SEQ_HI, .MIRROR, 0x1c, [], .hi,
    [⟨31, 0, .MIRROR_SEQ_SEQ, 32, .ro, false⟩]⟩,
  ⟨.MIRROR_ACK_LO, .MIRROR, 0x20, [], .lo,
    [⟨31, 0, .MIRROR_ACK_SEQ, 0, .ro, false⟩]⟩,
  ⟨.MIRROR_ACK_HI, .MIRROR, 0x24, [], .hi,
    [⟨31, 0, .MIRROR_ACK_SEQ, 32, .ro, false⟩]⟩,
  ⟨.MIRROR_LAG, .MIRROR, 0x28, [], .single,
    [⟨31, 0, .MIRROR_LAG_COUNT, 0, .ro, false⟩]⟩,
  ⟨.MIRROR_HB_MISS, .MIRROR, 0x2c, [], .single,
    [⟨31, 0, .MIRROR_HB_MISS_COUNT, 0, .rc, false⟩]⟩,
  ⟨.MIRROR_FN, .MIRROR, 0x100, [(0x4, 64)], .single,
    [⟨31, 31, .MIRROR_FN_EN, 0, .rw, true⟩, ⟨30, 30, .MIRROR_FN_SYNCED, 0, .ro, false⟩, ⟨11, 0, .MIRROR_FN_FUNCTION, 0, .rw, true⟩]⟩,
  ⟨.SAFE_STATUS, .SCH, 0x90000, [], .single,
    [⟨31, 31, .SAFE_STATUS_BUSY, 0, .ro, false⟩, ⟨8, 8, .SAFE_STATUS_BADCFG, 0, .rc, false⟩, ⟨7, 7, .SAFE_STATUS_MSG_SENT, 0, .ro, false⟩, ⟨6, 6, .SAFE_STATUS_OUT1, 0, .ro, false⟩, ⟨5, 5, .SAFE_STATUS_OUT0, 0, .ro, false⟩, ⟨4, 4, .SAFE_STATUS_SEC_OK, 0, .ro, false⟩, ⟨3, 3, .SAFE_STATUS_STANDBY, 0, .ro, false⟩, ⟨2, 2, .SAFE_STATUS_ARMED, 0, .ro, false⟩, ⟨1, 1, .SAFE_STATUS_ENTERED, 0, .rc, false⟩, ⟨0, 0, .SAFE_STATUS_SAFE, 0, .ro, false⟩]⟩,
  ⟨.SAFE_CTRL, .SCH, 0x90010, [], .single,
    [⟨31, 31, .SAFE_CTRL_ARM, 0, .rw, true⟩, ⟨30, 30, .SAFE_CTRL_CLEAR, 0, .wo, true⟩, ⟨25, 16, .SAFE_CTRL_FTTI_MS, 0, .rw, true⟩]⟩,
  ⟨.SAFE_REACT, .SCH, 0x90014, [], .single,
    [⟨31, 0, .SAFE_REACT_ACT, 0, .rw, true⟩]⟩,
  ⟨.SAFE_CAUSE, .SCH, 0x90018, [], .single,
    [⟨23, 20, .SAFE_CAUSE_SOURCE, 0, .ro, false⟩, ⟨19, 17, .SAFE_CAUSE_DIE, 0, .ro, false⟩, ⟨15, 12, .SAFE_CAUSE_SILO, 0, .ro, false⟩, ⟨0, 0, .SAFE_CAUSE_HAS_SILO, 0, .ro, false⟩]⟩,
  ⟨.SAFE_TIME_LO, .SCH, 0x90020, [], .lo,
    [⟨31, 0, .SAFE_TIME_TIME, 0, .ro, false⟩]⟩,
  ⟨.SAFE_TIME_HI, .SCH, 0x90024, [], .hi,
    [⟨31, 0, .SAFE_TIME_TIME, 32, .ro, false⟩]⟩,
  ⟨.SAFE_SILO_CFG, .SCH, 0x91000, [(0x10, 16)], .single,
    [⟨31, 31, .SAFE_SILO_CFG_EN, 0, .rw, true⟩, ⟨27, 24, .SAFE_SILO_CFG_TOL, 0, .rw, true⟩, ⟨23, 20, .SAFE_SILO_CFG_ODO, 0, .rw, true⟩]⟩,
  ⟨.SAFE_SILO_STR, .SCH, 0x91004, [(0x10, 16)], .single,
    [⟨31, 31, .SAFE_SILO_STR_EN1, 0, .rw, true⟩, ⟨30, 24, .SAFE_SILO_STR_STREAM1, 0, .rw, true⟩, ⟨15, 15, .SAFE_SILO_STR_EN0, 0, .rw, true⟩, ⟨14, 8, .SAFE_SILO_STR_STREAM0, 0, .rw, true⟩]⟩,
  ⟨.SAFE_SILO_STAT, .SCH, 0x91008, [(0x10, 16)], .single,
    [⟨23, 16, .SAFE_SILO_STAT_INVALID_RUN, 0, .ro, false⟩, ⟨15, 0, .SAFE_SILO_STAT_MISSING, 0, .rc, false⟩]⟩,
  ⟨.CHKROT_STATUS, .SCH, 0x92000, [], .single,
    [⟨31, 31, .CHKROT_STATUS_BUSY, 0, .ro, false⟩, ⟨23, 16, .CHKROT_STATUS_NEXT, 0, .ro, false⟩, ⟨15, 8, .CHKROT_STATUS_UNITS, 0, .ro, false⟩, ⟨1, 1, .CHKROT_STATUS_LAPSE, 0, .rc, false⟩, ⟨0, 0, .CHKROT_STATUS_FAIL, 0, .rc, false⟩]⟩,
  ⟨.CHKROT_FAILED_LO, .SCH, 0x92004, [], .single,
    [⟨31, 0, .CHKROT_FAILED_ORDER, 0, .ro, false⟩]⟩,
  ⟨.CHKROT_FAILED_HI, .SCH, 0x92008, [], .single,
    [⟨6, 0, .CHKROT_FAILED_ORDER, 32, .ro, false⟩]⟩,
  ⟨.GLN_CTRL, .CCC, 0x8000, [(0x10000, 6)], .single,
    [⟨31, 31, .GLN_CTRL_EN, 0, .rw, true⟩, ⟨2, 0, .GLN_CTRL_TESTING, 0, .ro, false⟩]⟩]

/-- Registers, part 11. -/
def regTable11 : List RegDesc := [
  ⟨.GLN_CORE, .CCC, 0x8010, [(0x10000, 6), (0x4, 8)], .single,
    [⟨27, 20, .GLN_CORE_KILLS, 0, .rc, false⟩, ⟨19, 19, .GLN_CORE_FAILED, 0, .ro, false⟩, ⟨18, 18, .GLN_CORE_S_EXCLUDED, 0, .ro, false⟩, ⟨17, 17, .GLN_CORE_LAPSE, 0, .ro, false⟩, ⟨16, 16, .GLN_CORE_TESTING, 0, .ro, false⟩, ⟨15, 0, .GLN_CORE_AGE, 0, .ro, false⟩]⟩,
  ⟨.SAFE_STREAM_0, .ETH, 0xf0000, [(0x8, 16)], .single,
    [⟨31, 31, .SAFE_STREAM_0_EN, 0, .rw, true⟩, ⟨30, 28, .SAFE_STREAM_0_DIE, 0, .rw, true⟩, ⟨27, 24, .SAFE_STREAM_0_SILO, 0, .rw, true⟩, ⟨15, 0, .SAFE_STREAM_0_HANDLE, 0, .rw, true⟩]⟩,
  ⟨.SAFE_STREAM_1, .ETH, 0xf0004, [(0x8, 16)], .single,
    [⟨10, 0, .SAFE_STREAM_1_OFFSET, 0, .rw, true⟩]⟩,
  ⟨.SEC_STATUS, .SEC, 0x0, [], .single,
    [⟨31, 31, .SEC_STATUS_BUSY, 0, .ro, false⟩, ⟨11, 8, .SEC_STATUS_LAST_FAIL, 0, .ro, false⟩, ⟨7, 7, .SEC_STATUS_DBG_LOCKOUT, 0, .ro, false⟩, ⟨6, 6, .SEC_STATUS_DBG_AUTH, 0, .ro, false⟩, ⟨5, 5, .SEC_STATUS_BOOT_FAIL, 0, .ro, false⟩, ⟨4, 3, .SEC_STATUS_SLOT_FAIL, 0, .ro, false⟩, ⟨2, 1, .SEC_STATUS_SLOT, 0, .ro, false⟩]⟩,
  ⟨.SEC_LC, .SEC, 0x10, [], .single,
    [⟨23, 16, .SEC_LC_SVN_FUSE, 0, .ro, false⟩, ⟨15, 12, .SEC_LC_REVOKED, 0, .ro, false⟩, ⟨11, 8, .SEC_LC_USE_DBG, 0, .ro, false⟩, ⟨7, 4, .SEC_LC_USE_FW, 0, .ro, false⟩, ⟨1, 0, .SEC_LC_LC, 0, .ro, false⟩]⟩,
  ⟨.SEC_FUSE_ADDR, .SEC, 0x20, [], .single,
    [⟨31, 0, .SEC_FUSE_ADDR_WORD, 0, .rw, true⟩]⟩,
  ⟨.SEC_FUSE_DATA, .SEC, 0x24, [], .single,
    [⟨31, 0, .SEC_FUSE_DATA_VALUE, 0, .rw, true⟩]⟩,
  ⟨.SEC_FUSE_CTRL, .SEC, 0x28, [], .single,
    [⟨31, 31, .SEC_FUSE_CTRL_GO, 0, .wo, true⟩, ⟨1, 1, .SEC_FUSE_CTRL_REFUSED, 0, .rc, false⟩, ⟨0, 0, .SEC_FUSE_CTRL_ACTIVE, 0, .ro, false⟩]⟩,
  ⟨.PWR_STATUS, .PMC, 0x0, [], .single,
    [⟨31, 31, .PWR_STATUS_BUSY, 0, .ro, false⟩, ⟨11, 8, .PWR_STATUS_LEVEL, 0, .ro, false⟩, ⟨7, 6, .PWR_STATUS_ARITH_STEP, 0, .ro, false⟩, ⟨5, 5, .PWR_STATUS_TRIP, 0, .ro, false⟩, ⟨4, 4, .PWR_STATUS_PFAIL, 0, .ro, false⟩, ⟨3, 3, .PWR_STATUS_THERM, 0, .ro, false⟩, ⟨2, 2, .PWR_STATUS_PMBUS_ERR, 0, .rc, false⟩, ⟨1, 1, .PWR_STATUS_BADCFG, 0, .rc, false⟩]⟩,
  ⟨.PWR_LIMIT, .PMC, 0x10, [], .single,
    [⟨15, 0, .PWR_LIMIT_DIE_LIMIT, 0, .rwp, true⟩]⟩,
  ⟨.PWR_PKG_LIMIT, .PMC, 0x14, [], .single,
    [⟨15, 0, .PWR_PKG_LIMIT_PKG_LIMIT, 0, .rwp, true⟩]⟩,
  ⟨.PWR_FLOOR, .PMC, 0x18, [], .single,
    [⟨3, 0, .PWR_FLOOR_FLOOR, 0, .rwp, true⟩]⟩,
  ⟨.PWR_POWER, .PMC, 0x20, [], .single,
    [⟨31, 16, .PWR_POWER_P1MS, 0, .ro, false⟩, ⟨15, 0, .PWR_POWER_P100, 0, .ro, false⟩]⟩,
  ⟨.THERM_STATUS, .PMC, 0x30, [], .single,
    [⟨27, 16, .THERM_STATUS_VALID, 0, .ro, false⟩, ⟨15, 12, .THERM_STATUS_SENSOR, 0, .ro, false⟩, ⟨10, 0, .THERM_STATUS_TEMP, 0, .ro, false⟩]⟩,
  ⟨.THERM_CFG, .PMC, 0x34, [], .single,
    [⟨7, 0, .THERM_CFG_THROTTLE_C, 0, .rwp, true⟩]⟩,
  ⟨.THERM_SENSOR, .PMC, 0x40, [(0x4, 12)], .single,
    [⟨10, 0, .THERM_SENSOR_TEMP, 0, .ro, false⟩]⟩,
  ⟨.PWR_RAIL, .PMC, 0x100, [(0x4, 8)], .single,
    [⟨31, 31, .PWR_RAIL_EN, 0, .rwp, true⟩, ⟨18, 16, .PWR_RAIL_RAIL, 0, .rwp, true⟩, ⟨15, 8, .PWR_RAIL_PAGE, 0, .rwp, true⟩, ⟨6, 0, .PWR_RAIL_ADDR, 0, .rwp, true⟩]⟩,
  ⟨.TITHE_STATUS, .PMC, 0x200, [], .single,
    [⟨6, 6, .TITHE_STATUS_WRITE_ERR, 0, .rc, false⟩, ⟨5, 5, .TITHE_STATUS_SKIPPED, 0, .rc, false⟩, ⟨4, 4, .TITHE_STATUS_FRESH, 0, .ro, false⟩, ⟨3, 3, .TITHE_STATUS_ERASING, 0, .ro, false⟩, ⟨2, 2, .TITHE_STATUS_WRITING, 0, .ro, false⟩, ⟨0, 0, .TITHE_STATUS_BANK, 0, .ro, false⟩]⟩,
  ⟨.TITHE_SEQ, .PMC, 0x204, [], .single,
    [⟨31, 0, .TITHE_SEQ_SEQ, 0, .ro, false⟩]⟩]

/-- Every register of the part. -/
def regTable : List RegDesc :=
  regTable1 ++ regTable2 ++ regTable3 ++ regTable4 ++ regTable5 ++ regTable6 ++ regTable7 ++ regTable8 ++ regTable9 ++ regTable10 ++ regTable11

end Sys2Proof.Machine
end

