-- ==== Sys2Proof/Config.lean ====
section
/-!
DEFINITION. Config.lean: what manufacture fixes (the part number, R2 and R3) and the free values: functions without a body,
one for each value the spec leaves open. Nothing can be proved about a free value but that it is the same for the same arguments.
-/
namespace Sys2Proof

/-- The six part numbers that exist (R3). -/
inductive Part where
  | lrk2c32e | lrk2c64e | lrk4c64e | lrk4c128e | lrk8c128e | lrk8c256e
deriving DecidableEq, Repr

/-- Dies of a part (R3). -/
def Part.dies : Part → Nat
  | .lrk2c32e | .lrk2c64e => 2
  | .lrk4c64e | .lrk4c128e => 4
  | .lrk8c128e | .lrk8c256e => 8

/-- LPDDR5X bytes of each die (R3). -/
def Part.dramBytes : Part → Nat
  | .lrk2c32e | .lrk4c64e | .lrk8c128e => 0x4_0000_0000
  | .lrk2c64e | .lrk4c128e | .lrk8c256e => 0x8_0000_0000

/-- A natural number the spec leaves open; the machine applies it to a counter that it advances, so that no two uses are tied together. -/
opaque Config.free : Nat → Nat

/-- Which 9 KiB of a die's mailbox pool firmware allocates to its first mailbox (R109, R140 give no order); its others follow in turn. -/
opaque Config.poolShift : Nat → Nat

/-- Where firmware places the buffer tables and the handoff records of a die within its Loft area (R134, R140, R153), in steps of 4 KiB, and the queue contexts
of a die within its LPDDR5X (R272, R298), in steps of 64 bytes. -/
opaque Config.tablePlace : Nat → Nat
opaque Config.recordPlace : Nat → Nat
opaque Config.contextPlace : Nat → Nat

/-- The private sections of a handoff record rewritten in probation (R132, R134): TAG, VERSION, content. -/
opaque Config.handoffSections : Nat → List (Nat × Nat × List Byte)

/-- SHA-384 (R468, R471, R478): the digest of a byte string, as a number of 384 bits; its standard is outside the spec. -/
opaque Config.sha384 : List Byte → BitVec 384

/-- Ed25519 verification (R471): public key, message, signature. -/
opaque Config.ed25519Verifies : List Byte → List Byte → List Byte → Bool

/-- ML-DSA-65 verification (R471): public key, message, signature. -/
opaque Config.mldsaVerifies : List Byte → List Byte → List Byte → Bool

/-- The Ed25519 signature by the part's identity key (R476, R479): the seeds and life-cycle label that derive the key, and the message. -/
opaque Config.ed25519Sign : Nat → List Byte → BitVec 512

/-- The ML-DSA-65 signature by the part's identity key, 3,309 bytes (R476, R479). -/
opaque Config.mldsaSign : Nat → List Byte → BitVec 26472

/-- The Ed25519 identity public key that HKDF derives from the seeds and the life-cycle label (R476). -/
opaque Config.identityKey : Nat → BitVec 256

/-- Which fuse a bit of a fuse word is (R485 gives no layout of WORD): die, word, bit, to a number in the order of `fuseOf`. -/
opaque Config.fuseBit : Nat → Nat → Nat → Nat

/-- The digest of the security fuses other than SEED (R478): their values, in a form the spec does not give. -/
opaque Config.fuseDigest : List Nat → BitVec 384

/-- Where a certificate chain lies in the certificate region (R477 gives no place): offset and length. -/
opaque Config.certPlace : Nat → Nat × Nat

/-- Verification of a debug signature against the digest that a key slot holds (R480): Ed25519, then ML-DSA-65. -/
opaque Config.dbgEd25519 : BitVec 384 → List Byte → List Byte → Bool
opaque Config.dbgMldsa : BitVec 384 → List Byte → List Byte → Bool

/-- The AES-256 key stream of R481 by key, IV and position, and the GCM tag over the additional data and the sealed bytes. -/
opaque Config.aesStream : Nat → Nat → Nat → Byte
opaque Config.gcmTag : Nat → Nat → List Byte → List Byte → BitVec 128

/-- What a transcendental unit of the VE returns within the error bound of R194: function code of R186, FP32 input, to an FP32 word. -/
opaque Config.approx : Nat → Nat → Nat

/-- Where the rings of a slice's CPU port lie (R395 gives no register for it): die, ring, transmit, to the base and the logarithm of the number of descriptors. -/
opaque Config.cpuRing : Nat → Nat → Bool → Nat × Nat

/-- Whether a frame belongs to a stream identified by an IP octuple (R391): the identification fields of TSN_STREAM_SET, whose layout the spec does not
give, and the frame. -/
opaque Config.ipStream : List Byte → List Byte → Bool

/-- Where element `n` of a CAN controller's message RAM lies in its slot (R396, R407 give no layout): transmit buffers are elements 0 to 15. -/
opaque Config.canElement : Nat → Nat

/-- What the shading microcode and the choices of the raster units give that the spec leaves open (R318, R319, R333 to R336), by run and by what is asked: positions of
vertices, depths, colours, discards, texture lookups, the order in which shading ends, and the places of samples. -/
opaque Config.raster : Nat → List Nat → Nat

/-- The transfer function of SRGB (R328, R336 do not give it): an 8-bit channel to an FP32 word of linear light, and back. -/
opaque Config.srgbLinear : Nat → Nat
opaque Config.linearSrgb : Nat → Nat

/-- The fused AVS value V₃₂₀ of a die in millivolts (R488). -/
opaque Config.avs : Nat → Nat

/-- Bits of the last byte of a row beyond its last element, where an engine writes a row whose elements do not fill it (R162): from the row's elements. -/
opaque Config.padBits : Nat → Nat

end Sys2Proof
end

