-- ==== Sys2Proof/Machine/State.lean ====
section
/-!
DEFINITION. Machine/State.lean: everything the spec gives the part: the fields of its registers, its memories, and the state of its
clocks, resets, mailboxes, engines, queues and ports that no register shows, as plain data; the reasons a step can stop; and the
state right after reset. INVENTORY.md lists each piece with the rule that names it.
-/
namespace Sys2Proof.Machine

/-- Why a step stops with a fault: nothing in the spec stops this part, so the type has no constructor and no step faults. -/
inductive Fault where
deriving DecidableEq, Repr

/-- Why a command has no meaning here. -/
inductive Refusal where
  /-- Raised by a dispatch arm that has no meaning yet; it names the table's row. Safe. -/
  | notModelled (mnemonic : String)
deriving DecidableEq, Repr

/-- The key of one register field: die, field, and index where the register repeats. -/
structure FK where
  die : Nat
  fld : Fld
  i : Nat
deriving DecidableEq, Repr

/-- The answer of the last access to its master (R92, R98, R100): nothing yet, a write taken, a value read, waiting, a bus error with its TYPE, an
uncorrectable memory error (R149). -/
inductive Access where
  | nothing
  | done
  | value (v : Nat)
  | waits
  | busError (type : Nat)
  | memError
deriving DecidableEq, Repr

/-- A posted write accepted at the fabric port of its block and not yet in effect (R100), with its size in bytes. -/
structure Posted where
  m : Master
  die : Nat
  blk : PostedBlk
  off : Nat
  data : Word
  size : Nat
deriving DecidableEq, Repr

/-- An access to a register that waits, a write with its data or a read: behind a held posted write of its master, behind an earlier access of its master to the
block, or a read for posted writes (R99, R100, R410). -/
structure Stalled where
  m : Master
  addr : Nat
  write : Bool
  data : Word
  size : Nat
deriving DecidableEq, Repr

/-- Shadows and holding registers of the 64-bit pairs (R101), keyed by die, register name of the low half and index; posted writes; the accesses that wait, in order. -/
structure BusState where
  shadow : List ((Nat × RegName × Nat) × Nat)
  holding : List ((Nat × RegName × Nat) × Nat)
  posted : List Posted
  stalled : List Stalled
deriving DecidableEq, Repr

/-- Claims and pins (R6, R31, R32, R42, R43, R47). Keys: (die, pin); the code whose BOOTSEL defaults are in force; SAFE_OUT pins that stand at their
fuse code since their release. -/
structure PinState where
  claims : List ((Nat × Nat × Nat) × (Dom × Nat))
  fuses : List ((Nat × Nat) × Nat)
  applied : List Nat
  ovr : List ((Nat × Nat) × Nat)
  pad : List ((Nat × Nat) × Bool)
  bootCode : Option Nat
  released : List Nat
deriving DecidableEq, Repr

/-- Clocks beside the CLKCTL registers (R54 to R61): failing windows in a row, the latest windows of an absent REFB_IN, what a clock failure and a restore have
under way, the die that detected the last failure, the goal of each ramp, held targets, the domains whose restore ramp runs, the spread depth in force. -/
structure ClkState where
  xoFails : List (Nat × Nat)
  rootFails : List (Nat × Nat)
  refbFails : List (Nat × Nat)
  refbRun : List (Nat × List Nat)
  awaitAck : Bool
  noticeDue : Bool
  judging : Bool
  restoring : Bool
  restoreReq : Option Req
  goal : List ((Nat × Nat) × Nat)
  heldTarget : List ((Nat × Nat) × Nat)
  depth : Nat
  failDie : Nat
  back : List (Nat × Nat)
deriving DecidableEq, Repr

/-- A reset request (R64): its cause code, what it covers, the die on which the source was detected, whether it stands for more than one. -/
structure ResetReq where
  cause : Nat
  target : ResetTarget
  srcDie : Nat
  merged : Bool
deriving DecidableEq, Repr

/-- A write of the option store in progress (R84): who asked, the bank, its bytes. -/
structure OptWrite where
  req : Req
  bank : Nat
  bytes : List Byte
  seq : Nat
deriving DecidableEq, Repr

/-- Reset, start-up and options (R64 to R88): among them the dies whose trim load runs, the clusters in reset whose step 9 has run, and the write of the option
store in progress. -/
structure BootState where
  powered : Bool
  rstNLow : Bool
  step : List (Nat × Nat)
  pkg : Bool
  down : List (Nat × Nat)
  forced : List (Nat × Nat)
  due : List ResetReq
  held : List ResetReq
  holdoff : List ResetTarget
  options : Option (List Byte)
  xoPassed : Bool
  dramSaved : List Nat
  chunks : List Byte
  chunkTotal : Option Nat
  slotUsed : Nat
  loading : List Nat
  zeroed : List (Nat × Nat)
  optWrite : Option OptWrite
deriving DecidableEq, Repr

/-- STATUS codes of R117. -/
inductive Status where
  | ok | busy | unsupported | denied | conflict | staleGeneration | timeout | badMessage | noResource | guaranteeRefused | safetyLocked
deriving DecidableEq, Repr

/-- A message written into a response ring (R114, R116). -/
structure Msg where
  opcode : Nat
  seq : Nat
  session : Nat
  status : Nat
  flags : Nat
  major : Nat
  minor : Nat
  payload : List Byte
deriving DecidableEq, Repr

/-- An open session (R119, R121). -/
structure Session where
  number : Nat
  major : Nat
  minor : Nat
  features : Nat
deriving DecidableEq, Repr

/-- The event codes of R123 and of the chapters' own tables. -/
inductive Ev where
  | guaranteeBroken | deadlineMiss
  | frozenFrame | goldenFail | frameDisplaced | frameDropped | odoSlip | odoFault
  | tbStep | tbHoldover | trgMissed | cmp32
  | stookFlush | dispRepeat | dispUnderrun | dispHpd
  | mismatch | testLapse | safeState | pairFailover | eccUe | pairLink | testFail | checkerFail
  | clkFail | thermal | powerFail | powerThrottle | pmbusFault
  | guardViolation | debugAuth
  | fwRollback
  | postedWriteErr | ethLink | pcieAer | mirsiaRetrain | mirsiaDown | canBusoff
deriving DecidableEq, Repr

/-- A record of an event queue (R124, R125). -/
structure EvRec where
  ev : Ev
  die : Nat
  source : Nat
  count : Nat
  sec : Nat
  nsec : Nat
  detail : List Byte
deriving DecidableEq, Repr

/-- A mailbox (R109 to R126): its session, the numbers issued and those closed under R113, the mask and queue of its events, the messages of its response ring from
head to tail; the request that has been taken from its request ring (opcode and the die it names), the one in progress, and those in progress whose response
goes nowhere. -/
structure Mailbox where
  session : Option Session
  issued : Nat
  closed : List Nat
  mask : Nat
  evq : List EvRec
  evCount : Nat
  lost : Bool
  rsp : List Msg
  current : Option (Nat × Nat)
  work : Option (Req × Nat)
  orphans : List (Req × Nat)
deriving DecidableEq, Repr

/-- Mailboxes by domain, the doorbells whose requests have not all taken effect in their order (R112) as (mailbox, cycle, tail), guarded grants (R482), APLIC pulses by (die, source) and the clock-failure interrupt (R127), parameters (R128). -/
structure MailState where
  boxes : List (Dom × Mailbox)
  bells : List (Dom × Nat × Nat)
  grants : List Dom
  aplic : List (Nat × Nat)
  nmi : Bool
  fttiMs : Nat
  quantum : Nat
  policy : Nat
  console : Nat
deriving DecidableEq, Repr

/-- Phases of an activation at one processor (R130). -/
inductive FwPhase where
  | copying | copied | blackout | probation | persisting
deriving DecidableEq, Repr

/-- A firmware processor: kind 0 SEC, 1 PMC, 2 SCH, 3 CCC (R134), die, cluster. -/
structure FwUnit where
  kind : Nat
  die : Nat
  cluster : Nat
deriving DecidableEq, Repr

/-- One image of a bundle: an entry of TABLE (R471). -/
structure BundleImage where
  kind : Nat
  offset : Nat
  length : Nat
  entry : Nat
  digest : BitVec 384
deriving DecidableEq, Repr

/-- What the header of a verified bundle says (R471), and the digest of the header. -/
structure BundleInfo where
  version : Nat
  seq : Nat
  svn : Nat
  header : BitVec 384
  images : List BundleImage
deriving DecidableEq, Repr

/-- An activation in progress (R129 to R135). -/
structure Activation where
  req : Req
  todo : List FwUnit
  adopted : Nat
  last : FwUnit
  phase : FwPhase
  persist : Bool
  info : BundleInfo
  stop : Bool
deriving DecidableEq, Repr

/-- What a firmware core works in (R107): its data SRAM as (offset, byte), its 16 PMP regions as (configuration, address), its registers and its pc. -/
structure FwWork where
  data : List Host.Cell
  pmp : List (Nat × Nat)
  x : List Nat
  pc : Nat
deriving DecidableEq, Repr

/-- A firmware core (R107, R130, R132): the image in its active instruction bank and in the shadow bank, its working state, and the old image's while that may
resume. -/
structure FwCore where
  active : List Byte
  shadow : List Byte
  work : FwWork
  kept : Option FwWork
deriving DecidableEq, Repr

/-- The working state of a core as an image starts. DESIGN CHOICE (notes/assumptions/97): zeros; what the image's program makes of it is private to the firmware. -/
def FwWork.start : FwWork := ⟨[], List.replicate 16 (0, 0), List.replicate 32 0, 0⟩

/-- A core that has no image yet. -/
def FwCore.empty : FwCore := ⟨[], [], FwWork.start, none⟩

/-- Firmware update (R107, R129 to R135): the staged bundle, the activation, the bundle each processor's image comes from, the one it keeps until
probation ends, the bundle that booted, the number of handoff records written, the last record of each die, the sheaves pre-dispatched for an SCH's blackout by (queue, header count), the
cores. -/
structure FwState where
  staged : Option (BundleInfo × List Byte)
  activation : Option Activation
  running : List (FwUnit × BundleInfo)
  previous : List (FwUnit × BundleInfo)
  bundle : Option BundleInfo
  updateSeq : Nat
  records : List (Nat × List Byte)
  early : List (Nat × Nat)
  cores : List (FwUnit × FwCore)
deriving DecidableEq, Repr

/-- An entry of a buffer table (R153). -/
structure BufEnt where
  base : Nat
  valid : Bool
  spilled : Bool
  pinned : Bool
  moving : Bool
  slice : Nat
  length : Nat
  gen : Nat
deriving DecidableEq, Repr

/-- A spill or refill of one buffer in progress (R154). -/
structure Move where
  index : Nat
  refill : Bool
  dest : Nat
  nextQuota : Option Nat
deriving DecidableEq, Repr

/-- Memory beside its bytes and registers (R139, R144, R149 to R156): buffers, moves, poisoned granules with the syndrome of their codes, the scrubbers' places, totals, channels in
power-down, reservations, derated channels, the scratch units of silos (R140), the runs of KV slots in use as (die, first slot) with their silo and
number (R246), buffers of a released silo that a placed command still names (R307), MEM_QUOTA requests that a spill is to
complete (R156), and the buffers of a function restored on other dies, by the key of their handles, with the die whose silo they then serve (R313). -/
structure MemState where
  bufs : List ((Nat × Nat × Nat) × BufEnt)
  spills : List ((Nat × Nat × Nat) × Move)
  poison : List (Nat × Nat)
  scrub : List ((Nat × Nat) × Nat)
  wrapped : List (Nat × Nat)
  ceTotal : List ((Nat × Nat) × Nat)
  ueTotal : List ((Nat × Nat) × Nat)
  powerDown : List (Nat × Nat)
  reservations : List (Nat × Nat)
  derated : List (Nat × Nat)
  scratch : List ((Nat × Nat) × List Nat)
  kvAlloc : List ((Nat × Nat) × (Nat × Nat))
  released : List (Nat × Nat × Nat)
  quotaReqs : List ((Nat × Nat × Nat) × Req)
  carried : List ((Nat × Nat × Nat) × Nat)
deriving DecidableEq, Repr

/-- What the part sends to the outside: an MSI-X message over a function's link (R303), a frame on an Ethernet port (R391, R395), a CAN
frame (R396), a UART character (R397), an MVB telegram (R398), the completion of a PCI Express request (R302, R402), a heartbeat or a transfer
on the mirror port (R432, R434), a command to a regulator (R486), a request through an outbound window (R90), a tile row on a display port: its pixels as the image holds
them, or FILL for all of it (R338, R340). -/
inductive Sent where
  | msi (fn : Dom) (addr data : Nat)
  | eth (die port : Nat) (frame : List Byte)
  | can (die ctrl : Nat) (identFlags dlc : Nat) (data : List Byte)
  | uart (die uart : Nat) (ch : Nat)
  | mvb (die : Nat) (data : List Byte)
  | pcie (controller : Nat) (ok : Bool) (data : List Byte)
  | heartbeat (alternate : Bool) (h : Heartbeat)
  | transfer (seq : Nat) (fn : Nat) (records : List MirrorRec)
  | pmbus (die entry : Nat) (command value : Nat)
  | outbound (controller off : Nat) (write : Bool) (data : List Byte)
  | tileRow (head row fill : Nat) (pixels : Option (List Nat))
deriving DecidableEq, Repr

/-- One MSI-X table entry (R303). -/
structure MsixEnt where
  addr : Nat
  data : Nat
  masked : Bool
deriving DecidableEq, Repr

/-- Interrupts: the MSI-X tables by (function, vector), pending bits of the PBAs, identities pending in IMSIC files by (file address, identity),
APLIC sources enabled by (die, source), and the APLIC registers written by (die, domain, offset) (R127, R303). -/
structure IrqState where
  msix : List ((Dom × Nat) × MsixEnt)
  pba : List (Dom × Nat)
  imsic : List (Nat × Nat)
  aplicOn : List (Nat × Nat)
  aplicRegs : List ((Nat × Nat × Nat) × Nat)
deriving DecidableEq, Repr

/-- The Tithe working copy (R497 to R500): counters by their byte offset in the record, the highest temperature of each die, and the flash write
in progress with its reason. -/
structure TitheState where
  counts : List (Nat × Nat)
  maxTemp : List (Nat × Int)
  writing : Option Nat
  seq : Nat
  image : List Byte
  flushReq : Option Req
deriving DecidableEq, Repr

/-- Time (R369 to R384): the live time bases in units of 2⁻⁴⁸ ns, TREF_PLL cycles counted since reset, when each time base last accepted an offset,
the dies whose replica is aligned, the next fire of each time trigger, the last point of each distance trigger, the times on the eight time bases at
each trigger's latest fire and the four distance counters then, the cause of each holdover, pulses in progress, TREF_PLL cycles left of a PPS_OUT pulse, the compare registers armed. -/
structure TimeState where
  live : List (Nat × Nat)
  ticks : Nat
  lastOffset : List (Nat × Nat)
  replicas : List Nat
  next : List (Nat × Nat)
  last : List (Nat × Int)
  fireAt : List (Nat × List Nat)
  fireDist : List (Nat × List Nat)
  holdCause : List (Nat × Nat)
  pulse : List Nat
  ppsLeft : Nat
  armed : List Nat
deriving DecidableEq, Repr

/-- Where a command of a sheaf in flight stands (R281, R284, R286). -/
inductive CmdPos where
  | unplaced
  | placed
  | committed
deriving DecidableEq, Repr

/-- A sheaf that the SCH has fetched (R275 to R288): the ring count of its header, the fields of the header, its times, its commands and how many have ever been placed, the
flags of its committed commands, the status that ends it with its failing command, the signature of its last checked commit, the source that
invalidated it, and whether the frame it waited for was golden (with its stream), or frozen or damaged. -/
structure Sheaf where
  hdr : Nat
  ident : Nat
  cls : Nat
  silo : Nat
  dlTb : Nat
  serial : Bool
  frame : Bool
  deadline : Nat
  count : Nat
  waitKind : Nat
  waitArg : Nat
  waitValue : Nat
  submit : Nat
  ready : Option Nat
  first : Option Nat
  preempt : Nat
  cmds : List CmdPos
  high : Nat
  flags : Nat
  ending : Option Nat
  engStatus : Nat
  failed : Nat
  done : Bool
  signature : Option (BitVec 128)
  golden : Option Nat
  brokenWait : Bool
  took : Nat
deriving DecidableEq, Repr

/-- A queue: its context (R272), the doorbell error flag (R299), its map slot (R304; none when another queue stands there for it, R313), the
ring count of the next header to fetch, the doorbell writes with their times, the records held for want of room (R276), its sheaves in flight
in ring order, and the requests that wait for its cancellation. -/
structure Queue where
  sqBase : Nat
  sqLog2 : Nat
  cqLog2 : Nat
  cqBase : Nat
  fn : Dom
  sqHead : Nat
  sqTail : Nat
  cqTail : Nat
  cqHead : Nat
  gen : Nat
  state : Nat
  notifyOn : Bool
  vector : Nat
  minClass : Nat
  acctBase : Nat
  dbErr : Bool
  mapSlot : Option Nat
  next : Nat
  bells : List (Nat × Nat)
  heldRecords : List (List Byte)
  flight : List Sheaf
  cancelReq : List Req
  loaded : Bool
deriving DecidableEq, Repr

/-- A change of the KV tables that a commit makes (R266), by slot index: write a slot (R251, R252); set LIVE and BANK of a page's entry; take a fresh page
from its pool's chain with REFCNT 1, LIVE and BANK; raise or lower a REFCNT, a page at 0 returning to the head of its pool's chain (R249, R250). -/
inductive KvOp where
  | put (slot : Nat) (bytes : List Byte)
  | page (pte live bank : Nat)
  | take (pte live bank : Nat)
  | ref (pte : Nat) (up : Bool)
deriving DecidableEq, Repr

/-- A command in a slot of a core or a raster context (R280, R291): its queue, the ring count of its sheaf's header, its index, its descriptor as
read at placement, the time of placement, its function and generation, silo and class, whether its engine has finished with which status, whether
this is the checker copy of a checked command and where the other copy stands, the write records of its run as (offset, bytes), the writes to
be applied at commit, the changes of its table step, the counts and status bits that its table step adds, the score banks and scratch that it wrote
outside its output, whether the comparator has published it, and how far a stage of it has come. -/
structure Placed where
  queue : Nat
  hdr : Nat
  idx : Nat
  desc : List Byte
  start : Nat
  fn : Dom
  gen : Nat
  silo : Nat
  cls : Nat
  ran : Bool
  status : Nat
  copy : Bool
  other : Option SlotRef
  writes : List (Nat × List Byte)
  atCommit : List (Nat × List Byte)
  table : List KvOp
  kv : Nat × Nat × Nat
  extra : List (Nat × List Byte)
  published : Bool
  progress : Nat
  left : List (Nat × List Byte)
  busy : Nat × Nat
  took : Nat
  plan : Option (Nat × Nat × Bool × Bool × Bool)
deriving DecidableEq, Repr

/-- A mismatch sequence (R422): the places of the copies, their queue, silo and function, whether the second run is under way, and whether the copy of R423 runs. -/
structure Mismatch where
  die : Nat
  main : SlotRef
  checker : SlotRef
  queue : Nat
  silo : Nat
  fn : Dom
  second : Bool
  copying : Bool
deriving DecidableEq, Repr

/-- A silo beside its registers (R289 to R295, R445): the configuration awaiting the boundary and who asked, the rotation point, the slot time
used in the quantum, when the quantum began, the kinds of guarantee broken in it, whether placeable work stood at every pass and at any, when
the display reserve began, the first FRAME sheaf to become ready since the blank and whether it has completed, the Class S time on reserved
cores, the span under negotiation with the dies that have acknowledged and who asked, the output records written, the last final commit. -/
structure SiloState where
  next : Option SiloCfg
  nextReq : Option Req
  rotation : Nat
  used : Nat
  quantumStart : Nat
  broken : List Nat
  gap : Bool
  worked : Bool
  reserveStart : Option Nat
  frameFirst : Option (Nat × Nat)
  frameDone : Bool
  classSTime : Nat
  spanNext : Option (Nat × Nat)
  spanFrom : Option Nat
  spanReq : Option Req
  records : Nat
  lastFinal : Nat
  reserveHead : Nat
deriving DecidableEq, Repr

/-- Queues by 19-bit ID (R18, R272), silos by (die, silo), the commands in slots by (die, place), the mismatch sequences. -/
structure QueueState where
  queues : List (Nat × Queue)
  silos : List ((Nat × Nat) × SiloState)
  slots : List ((Nat × SlotRef) × Placed)
  mismatches : List Mismatch
deriving DecidableEq, Repr

/-- A function reset in progress (R306, R521): who asked with which message, whether GEN has been incremented, whether resources go back to the pools. -/
structure FnReset where
  fn : Dom
  asked : List (Req × Nat)
  advanced : Bool
  release : Bool
deriving DecidableEq, Repr

/-- A freeze (R310): who waits for it, whether it is complete, and the time of the freeze (R312). -/
structure FnFreeze where
  fn : Dom
  asked : List Req
  complete : Bool
  time : Nat
  handover : Bool
deriving DecidableEq, Repr

/-- Functions beside their registers (R300 to R314): NumVFs and VF Enable of each controller, the aperture exponent A of each, vector counts that wait
for the next reset, resets and freezes in progress, and for a function restored on the same part its source queues and buffers. -/
structure FnState where
  numVfs : List (Nat × Nat)
  vfEnable : List Nat
  apExp : List (Nat × Nat)
  vecPending : List (Dom × Nat)
  resets : List FnReset
  freezes : List FnFreeze
  moved : List (Dom × (List Nat × List (Nat × Nat × Nat)))
deriving DecidableEq, Repr

/-- The safe state and the safety mechanisms beside their registers (R443 to R460): what SEC drives on channel 1, whether a safety message is owed,
when ARM was set, the source whose silence was reported, the message templates and frame counts of the safety streams, when each core last completed
a Gleaner test, the rotation slot of each die, checkers due for a retry or a spare slot, slots since each checker was tested, where the last entry
arose, cores that rejoin a Class S silo at its next boundary, and when the coverage period of each core began. -/
structure SafeData where
  chan1 : Bool
  msgDue : Bool
  armTime : Nat
  silent : List (Nat × Nat)
  templates : List (Nat × List Byte)
  streamSeq : List (Nat × Nat)
  tested : List ((Nat × Nat) × Nat)
  slot : List (Nat × Nat)
  retry : List (Nat × Nat)
  spare : List (Nat × Nat)
  untested : List ((Nat × Nat) × Nat)
  entry : Option (Nat × Nat × Option Nat)
  rejoin : List (Nat × Nat × Nat)
  period : List ((Nat × Nat) × Nat)
deriving DecidableEq, Repr

/-- A key slot of the security fuses (R468, R469): the digests, USE (bit 0 firmware, bit 1 debug), REVOKED. -/
structure KeySlot where
  ed : BitVec 384
  mldsa : BitVec 384
  use : Nat
  revoked : Bool
deriving DecidableEq, Repr

/-- A debug authentication in progress (R480): the first word, the challenge, the words of the signatures so far. -/
structure DbgAuth where
  word : Nat
  challenge : Nat
  words : List Nat
deriving DecidableEq, Repr

/-- Security (R468 to R482): the life-cycle state in force and in the fuses, the blown bits of SVN, the key slots, the seeds, the pin codes blown
(by die and pin), other blown bits (die, place), the measurement registers, the save count, the part key and the pair key by which draw made them,
debug authentication, the fuse words being programmed as (die, word, value), and the debug scopes open now. -/
structure SecState where
  lc : Nat
  lcFuse : Nat
  svn : Nat
  keys : List KeySlot
  seeds : List (Nat × Nat)
  pinFuse : List ((Nat × Nat) × Nat)
  spare : List (Nat × Nat)
  mr : List (Nat × BitVec 384)
  saveCount : Nat
  partKey : Nat
  pairKey : Option Nat
  dbg : Option DbgAuth
  dbgFails : Nat
  dbgScopes : Nat
  fusing : List (Nat × Nat × Nat)
  dbgOpen : Nat
deriving DecidableEq, Repr

/-- The mirrored pair beside its registers (R430 to R437): the trained lanes and the partner's code and digest, whether the discovery window of R431
is open, the transfers not yet acknowledged as (sequence number, function, bytes), the initial images under way as (function, sequence number of
the image, who asked), the sequence number the next transfer takes on receipt, consecutive misses on the mirror port and on the alternate path,
the count of heartbeats sent, the last heartbeat of the partner, ALT_MAC, the handover in progress and who asked, whether this part became primary by
a takeover (R436). -/
structure MirrorState where
  lanes : List Nat
  partner : Option (Nat × Nat)
  window : Bool
  queue : List (Nat × Nat × Nat)
  initial : List (Nat × Nat × List Req)
  expect : Nat
  misses : Nat
  altMisses : Nat
  sent : Nat
  heard : Option Heartbeat
  altMac : Nat
  handover : Option (Option Req)
  tookOver : Bool
deriving DecidableEq, Repr

/-- A checked AP pair (R426 to R429): the pending lines of the main and of the checker at the checkpoint being judged, whether its self-test runs, whether it
re-executes, and the replay log. -/
structure ApPairRun where
  lines : List (Nat × Byte)
  checkerLines : List (Nat × Byte)
  testing : Bool
  second : Bool
  log : List DebugAct
deriving DecidableEq, Repr

/-- The image offered to a head (R339): a descriptor in memory by its address, or the descriptor of a colour attachment. -/
inductive HeadImage where
  | at (addr : Nat)
  | desc (bytes : List Byte)
deriving DecidableEq, Repr

/-- A display head beside its registers (R338 to R341): the pending image, the descriptor latched, whether output is stopped until DISP_MODE, the
timing in force (pixel clock, HTIME, HSYNC, VTIME, VSYNC images), whether an underrun was reported in this frame, the tile row that is due next. -/
structure HeadState where
  pending : Option HeadImage
  latched : Option (List Byte)
  stopped : Bool
  timing : List Nat
  underrun : Bool
  row : Nat
deriving DecidableEq, Repr

/-- A frame inside a stream (R350 to R355): the settings latched at its start, its count and slot, where its slot begins and how many bytes of the buffer
follow, its stamps, and what has arrived: lines, CRC, the row not yet written, GVSP parts. `channel` is the virtual channel or the UDP port that brings it; `skip` is 1
for a dropped frame, 2 for a displaced one. -/
structure CamFrame where
  count : Nat
  number : Nat
  lineScan : Bool
  format : Nat
  sizeX : Nat
  channel : Nat
  outFmt : Nat
  tb : Nat
  odo : Nat
  width : Nat
  height : Nat
  x0 : Nat
  slot : Nat
  base : Nat
  room : Nat
  record : Nat
  tsTrig : Nat
  tsFs : Nat
  distTrig : Nat
  distFs : Nat
  marks : Nat
  skip : Nat
  blank : Nat
  lines : Nat
  crc : Nat
  damaged : Bool
  row : List (Nat × List Byte)
  parts : List (Nat × List Byte)
deriving DecidableEq, Repr

/-- A golden frame on its way into its slot (R357, R358): the frame it becomes, where its bytes come from, whether it was forced. -/
structure Injection where
  frame : CamFrame
  src : Nat
  len : Nat
  forced : Bool
deriving DecidableEq, Repr

/-- A stream beside its registers (R350 to R358): the open frame, frames that have ended and await completion, CRC and number of the previous real
frame and whether it was stale, real frames completed since the last golden frame, the time of the last frame end, the injection, the count of a
golden frame that displaces the next real frame, and PERIOD, GOLD_HANDLE and EXPECT as last latched (R364). -/
structure CamStream where
  opened : Option CamFrame
  ended : List CamFrame
  last : Option (Nat × Nat)
  lastStale : Bool
  since : Nat
  endAt : Option Nat
  golden : Option Injection
  displace : Option Nat
  gold : Nat × Nat × Nat
deriving DecidableEq, Repr

/-- An encoder channel beside its registers (R360 to R363): levels of A and B, COUNT at the window's start and at the last Z edge, windows in a row that
disagreed, agreed and stood still, the fraction of DIST under slip, in 1/65,536. -/
structure OdoState where
  levelA : Bool
  levelB : Bool
  windowCount : Nat
  zCount : Option Nat
  disagree : Nat
  agree : Nat
  still : Nat
  fraction : Nat
deriving DecidableEq, Repr

/-- A frame that waits at an egress port (R391, R395): its bytes without the FCS, its class, the stream it belongs to (R446), ONE_STEP, and the
transmit descriptor (die, address) that its end completes. -/
structure EthOut where
  bytes : List Byte
  cls : Nat
  handle : Option Nat
  oneStep : Bool
  desc : Option (Nat × Nat)
deriving DecidableEq, Repr

/-- A gate control list (R391): time base, cycle time, base time, entries of gate states and interval. -/
structure GateList where
  tb : Nat
  cycle : Nat
  base : Nat
  entries : List (Nat × Nat)
deriving DecidableEq, Repr

/-- An Ethernet port beside its registers (R390 to R392): frames in, frames out, drops by class, FCS errors, frames waiting in order, when the frame in
transmission ends, the gate control list in force with its current entry and that entry's end, the list that is to follow. -/
structure EthPort where
  framesIn : Nat
  framesOut : Nat
  drops : List (Nat × Nat)
  fcs : Nat
  waiting : List EthOut
  sendEnd : Nat
  gates : Option GateList
  entry : Nat
  entryEnd : Nat
  nextGates : Option GateList
deriving DecidableEq, Repr

/-- A trap table entry (R394, R414). -/
structure EthTrap where
  ring : Nat
  copy : Bool
  ethertype : Nat
  mac : Nat
  maskBits : Nat
deriving DecidableEq, Repr

/-- A TSN stream's sequence functions at work (R391): the next number generated; for recovery the latest number taken and the numbers taken before it
within the history, latest first. -/
structure StreamWork where
  nextSeq : Nat
  taken : Option (Nat × List Bool)
deriving DecidableEq, Repr

/-- The TSN switch (R391 to R395): ports by (die, place), the filtering database by (MAC, VID) with port number and time, trap tables by (die, entry),
the domain table, the stream table with its work, positions of the CPU port's rings by (die, ring, transmit). -/
structure EthState where
  ports : List ((Nat × Nat) × EthPort)
  fdb : List ((Nat × Nat) × (Nat × Nat))
  traps : List ((Nat × Nat) × EthTrap)
  ptp : List (Nat × (Nat × Nat))
  tsn : List (Nat × TsnStream)
  work : List (Nat × StreamWork)
  rings : List ((Nat × Nat × Bool) × Nat)
deriving DecidableEq, Repr

/-- A UART's FIFOs and its DE pin (R397). -/
structure UartState where
  rx : List Nat
  tx : List Nat
  de : Bool
deriving DecidableEq, Repr

/-- An MVB controller (R398): the settings of MVB_SET, whether it is the bus master, process-data ports by logical address with data and stamp, message
data received. -/
structure MvbState where
  role : Nat
  pair : Nat
  periodMs : Nat
  addr : Nat
  isMaster : Bool
  ports : List (Nat × (List Byte × Nat))
  inbox : List (List Byte)
deriving DecidableEq, Repr

/-- A PCI Express controller (R399 to R403): link width and rate while up, AER status and header log. -/
structure PcieState where
  link : Option (Nat × Nat)
  uncorrectable : Nat
  correctable : Nat
  header : List Nat
deriving DecidableEq, Repr

/-- The fieldbus ports, links and bridges beside their registers: CAN receive FIFOs by (die, controller, FIFO), CAN message RAM and MVB traffic memory by (die, offset from
the CAN slot), UARTs, MVB and PCI Express controllers, times of failed retrains by (die, link) (R404), the reservation of each bridge's LR (R412), accesses
that wait for the semaphore, and consecutive RETRYs by (die, engine) (R411). -/
structure BusPorts where
  canFifo : List ((Nat × Nat × Nat) × List (List Byte))
  canRam : List ((Nat × Nat) × Byte)
  uart : List ((Nat × Nat) × UartState)
  mvb : List (Nat × MvbState)
  pcie : List (Nat × PcieState)
  retrains : List ((Nat × Nat) × List Nat)
  reserved : List (Nat × Nat)
  semWaits : List (Nat × Master × Nat × FbrAtomic)
  retries : List ((Nat × Nat) × Nat)
deriving DecidableEq, Repr

/-- Power control of a die beside its registers (R489 to R496): the estimate before scaling, the last ten estimates, the power and thermal demands, the floor
above PWR_FLOOR, consecutive intervals over the limit since the level changed, at or below 95 % of it, and cool, such intervals at level 8 by power and by
temperature, the fall delay and the intervals since a fall and since a rise of the power demand, sensors that read 130 °C or more at the last sample, the
last READ_VOUT of VDD_CORE in mV, the clock raises that wait for a voltage as (domain, divider), consecutive intervals that count toward the return of
ARITH_CLK, and the divider of AP_CLK last asked for. -/
structure PowerDie where
  raw : Nat
  recent : List Nat
  demand : Nat
  thermal : Nat
  floorAdd : Nat
  above : Nat
  low : Nat
  cool : Nat
  over8 : Nat
  hot8 : Nat
  fallDelay : Nat
  sinceFall : Nat
  sinceRise : Nat
  hot : List Nat
  vout : Nat
  rises : List (Nat × Nat)
  calm : Nat
  apDiv : Nat
deriving DecidableEq, Repr

/-- Power control (R488, R489, R493, R506): dies, the scale of the estimates as a fraction, consecutive checks of the package at or below 95 % of its limit,
VDD_CORE and VDD_AP as commanded in mV, and consecutive readings of a rail entry outside its tolerance. -/
structure PowerState where
  dies : List (Nat × PowerDie)
  scaleNum : Nat
  scaleDen : Nat
  pkgLow : Nat
  core : Nat
  ap : Nat
  outside : List ((Nat × Nat) × Nat)
deriving DecidableEq, Repr

/-- The machine. -/
structure State where
  part : Part
  pending : List Instr
  free : Nat
  access : Access
  regs : List (FK × Nat)
  mem : List (Nat × Byte)
  flash : List (Nat × Byte)
  bus : BusState
  pins : PinState
  clk : ClkState
  boot : BootState
  mail : MailState
  fw : FwState
  memy : MemState
  irq : IrqState
  tithe : TitheState
  out : List Sent
  time : TimeState
  q : QueueState
  fn : FnState
  safe : SafeData
  sec : SecState
  mirror : MirrorState
  pairs : List ((Nat × Nat) × ApPairRun)
  heads : List (Nat × HeadState)
  frameFlags : List ((Nat × Nat × Nat) × Nat)
  streams : List ((Nat × Nat) × CamStream)
  odo : List (Nat × OdoState)
  tachPulses : List (Nat × Nat)
  tachSeen : List Nat
  eth : EthState
  ports : BusPorts
  power : PowerState
deriving DecidableEq, Repr

/-- The machine right after reset: power-on detection still holds the part (R506), no register field differs from its reset value,
nothing is listed in memory, no session, claim or queue exists, and no command waits. The part number and the values the spec does
not state are the model's (notes/assumptions 1, 3). -/
def State.reset : State where
  part := .lrk8c256e
  pending := []
  free := 0
  access := .nothing
  regs := []
  mem := []
  flash := []
  bus := ⟨[], [], [], []⟩
  pins := ⟨[], [], [], [], [], none, []⟩
  clk := ⟨[], [], [], [], false, false, false, false, none, [], [], 0, 0, []⟩
  boot := ⟨false, false, [], true, [], [], [], [], [], none, false, [], [], none, 0, [], [], none⟩
  mail := ⟨[], [], [], [], false, 100, 10, 3, 0⟩
  fw := ⟨none, none, [], [], none, 0, [], [], []⟩
  memy := ⟨[], [], [], [], [], [], [], [], [], [], [], [], [], [], []⟩
  irq := ⟨[], [], [], [], []⟩
  tithe := ⟨[], [], none, 0, [], none⟩
  out := []
  time := ⟨[], 0, [], [], [], [], [], [], [], [], 0, []⟩
  q := ⟨[], [], [], []⟩
  fn := ⟨[], [], [], [], [], [], []⟩
  safe := ⟨false, false, 0, [], [], [], [], [], [], [], [], none, [], []⟩
  sec := ⟨1, 1, 0, [⟨1, 1, 1, false⟩, ⟨2, 2, 2, false⟩, ⟨0, 0, 0, false⟩, ⟨0, 0, 0, false⟩],
    [(0, 1), (1, 2), (2, 3), (3, 4), (4, 5), (5, 6), (6, 7), (7, 8)], [], [], [], 0, 0, none, none, 0, 0, [], 0⟩
  mirror := ⟨[], none, false, [], [], 0, 0, 0, 0, none, 0, none, false⟩
  pairs := []
  heads := []
  frameFlags := []
  streams := []
  odo := []
  tachPulses := []
  tachSeen := []
  eth := ⟨[], [], [], [], [], [], []⟩
  ports := ⟨[], [], [], [], [], [], [], [], []⟩
  power := ⟨[], 1, 1, 0, 750, 900, []⟩

end Sys2Proof.Machine
end

