-- ==== Sys2Proof/Machine/Ops.lean ====
section
/-!
DEFINITION. Machine/Ops.lean: the named operations over the state that every family uses: register fields, memory, free values,
the present time, and the outcome of an event that names a unit the part may not have.
-/
namespace Sys2Proof.Machine

/-- The outcome type of every meaning. -/
abbrev Out := Host.Outcome State Fault Refusal

/-- An event at a unit: it has its effect when the part has the unit; an event that names a unit which the part does not have (R3) changes nothing.
DESIGN CHOICE (notes/assumptions/76): the spec says that no such unit exists and not what naming it does. -/
def ifUnit (present : Bool) (s t : State) : Out := .next (if present then t else s)

/-- Dies of the part (R3). -/
def State.dies (s : State) : Nat := s.part.dies

/-- Whether the part has this die. -/
def State.hasDie (s : State) (d : Nat) : Bool := decide (d < s.part.dies)

/-- The dies of the part, ascending. -/
def State.dieList (s : State) : List Nat := List.range s.part.dies

/-- Fields kept once for the package, on DIE_0 (R63, R89, R389, R464, R503). -/
def sharedFld : Fld → Bool
  | .CLK_CTRL_RESTORE | .CLK_CTRL_REFB_FREQ | .CLK_CTRL_SSC_DEPTH | .CLK_ACK_ACK
  | .RST_STATUS_TRIM_ERR | .RST_STATUS_OPT_ABORTS | .RST_STATUS_DRAM_KEPT | .RST_STATUS_OPT_BANK | .RST_STATUS_OPT_INVALID
  | .RST_STATUS_OPT_FALLBACK | .RST_STATUS_BOOTSEL_OPEN | .RST_STATUS_BOOTSEL_BAD | .RST_STATUS_BOOTSEL_EFF | .RST_STATUS_BOOTSEL_RAW
  | .SAFE_STATUS_BADCFG | .SAFE_STATUS_MSG_SENT | .SAFE_STATUS_SEC_OK | .SAFE_STATUS_STANDBY | .SAFE_STATUS_ARMED
  | .SAFE_STATUS_ENTERED | .SAFE_STATUS_SAFE | .SAFE_STATUS_OUT0 | .SAFE_STATUS_OUT1
  | .SAFE_CTRL_ARM | .SAFE_CTRL_CLEAR | .SAFE_CTRL_FTTI_MS | .SAFE_REACT_ACT
  | .SAFE_CAUSE_SOURCE | .SAFE_CAUSE_DIE | .SAFE_CAUSE_SILO | .SAFE_CAUSE_HAS_SILO | .SAFE_TIME_TIME
  | .PWR_PKG_LIMIT_PKG_LIMIT | .TITHE_STATUS_WRITE_ERR | .TITHE_STATUS_SKIPPED | .TITHE_STATUS_FRESH | .TITHE_STATUS_ERASING
  | .TITHE_STATUS_WRITING | .TITHE_STATUS_BANK | .TITHE_SEQ_SEQ
  | .TB_STATUS_BUSY | .TB_STATUS_HOLD | .TB_STATUS_STEPPED | .TB_STATUS_CONFLICT | .TB_STATUS_BADCFG | .TB_CFG_EN | .TB_CFG_SRC
  | .TB_CFG_DEGRADED | .TB_CFG_HOLDOVER | .TB_CFG_HOLD_S | .TB_GAIN_KP | .TB_GAIN_KI | .TB_ADJ_ADJ | .TB_INTEG_I | .TB_NSEC_NSEC
  | .TB_SEC_SEC | .TB_FRAC_FRAC | .TB_NS64_TIME | .TB_OFFSET_THETA | .TB_SETSEC_SEC | .TB_SETNSEC_NSEC | .TB_LAST_OFF_THETA
  | .PPS_OUT_CFG_EN | .PPS_OUT_CFG_TB | .PPS_OUT_CFG_WIDTH | .PPS_IN_DELAY_DELAY | .TRG_CFG_MODE | .TRG_CFG_SRC | .TRG_CFG_DIR
  | .TRG_CFG_PIN | .TRG_CFG_CTRL | .TRG_CFG_POL | .TRG_CFG_WIDTH | .TRG_START_START | .TRG_PERIOD_PERIOD | .TRG_COUNT_COUNT
  | .TRG_MISSED_COUNT | .CMP32_CFG_EN | .CMP32_CFG_TB | .CMP32_SEC_SEC | .CMP32_NSEC_NSEC | .CMP32_STATUS_MATCH => true
  | _ => false

/-- The die whose copy of a field counts. -/
def homeDie (f : Fld) (d : Nat) : Nat := if sharedFld f then 0 else d

/-- Normal dividers of the five domains (R51), in the order AP, FAB, MEM, ARITH, PERI. -/
def normalDiv : Nat → Nat
  | 0 => 3 | 1 => 6 | 2 => 12 | 3 => 24 | _ => 48

/-- Limp dividers of IRC (R51). -/
def limpDiv : Nat → Nat
  | 0 => 1 | 1 => 1 | 2 => 2 | 3 => 2 | _ => 4

/-- The reset-state codes parts are shipped with (R33), by pin index (R28, R44). -/
def shippedCode (p : Nat) : Nat :=
  if p = 372 ∨ p = 374 then 3                                     -- SAFE_OUT_0_N, SAFE_OUT_1_N
  else if (376 ≤ p ∧ p ≤ 391) ∨ (400 ≤ p ∧ p ≤ 415) then 2           -- TRIG_OUT_0 to 31
  else if p = 370 then 2                                          -- PPS_OUT
  else if p = 154 ∨ p = 157 ∨ p = 160 ∨ p = 163 then 2               -- UART_n_DE
  else if p = 562 ∨ p = 346 then 2                                -- MVB_TXEN, JTAG_TRST_N
  else if p = 144 ∨ p = 146 ∨ p = 148 ∨ p = 150 then 1               -- CAN_n_TX
  else if p = 152 ∨ p = 155 ∨ p = 158 ∨ p = 161 then 1               -- UART_n_TX
  else if p = 338 ∨ p = 339 ∨ p = 340 then 1                       -- XSPI_CS_0_N, XSPI_CS_1_N, XSPI_RESET_N
  else if p = 343 ∨ p = 344 then 1                                -- JTAG_TMS, JTAG_TDI
  else 0

/-- The fuse code of a pin (R31, R33). -/
def State.pinCode (s : State) (d p : Nat) : Nat := lookupD s.pins.fuses (d, p) (shippedCode p)

/-- The level that the board drives at a pad from now on. -/
def State.setPad (s : State) (d p : Nat) (level : Bool) : State := { s with pins.pad := insertKV s.pins.pad (d, p) level }

/-- The reset value of a field where it depends on the place (R45, R63, R315, R316, R389, R415, R465, R503). -/
def fieldReset (s : State) (d : Nat) (f : Fld) (i : Nat) : Nat :=
  match f with
  | .CLK_DIV_CURRENT => normalDiv i
  | .CLK_DIV_TARGET => normalDiv i
  | .PINCFG_OE => if d ∈ s.pins.applied ∧ s.pinCode d i = 3 then 1 else 0
  | .PINCFG_PULL => if d ∈ s.pins.applied ∧ s.pinCode d i < 3 then s.pinCode d i else 0
  | .FN_CFG_ASSIGN => if i = 0 then 1 else 0
  | .FN_CFG_QUOTA => if i = 0 then 64 else 16
  | .FN_CFG_VECTORS => if i = 0 then 64 else 8
  | .TB_CFG_EN => if i = 0 then 1 else 0
  | .PWR_PKG_LIMIT_PKG_LIMIT => 250 * s.part.dies
  | .CHKROT_STATUS_UNITS => if d = 0 then 39 else 35
  | .FBR_RANGE_EN => if i < 2 then 1 else 0
  | .FBR_RANGE_POSTED => if i < 2 then 1 else 0
  | .FBR_RANGE_BASE => if i = 0 then 2 else if i = 1 then 7 else 0
  | .FBR_RANGE_COUNT => if i = 0 then 1 else if i = 1 then 6 else 0
  | _ => f.resetConst

/-- The value of a register field. -/
def State.fld (s : State) (d : Nat) (f : Fld) (i : Nat := 0) : Nat :=
  lookupD s.regs ⟨homeDie f d, f, i⟩ (fieldReset s d f i)

/-- Set a register field, keeping as many bits as it has. -/
def State.setFld (s : State) (d : Nat) (f : Fld) (i v : Nat) : State :=
  { s with regs := insertKV s.regs ⟨homeDie f d, f, i⟩ (v % 2 ^ f.width) }

/-- Set a one-bit field. -/
def State.flag (s : State) (d : Nat) (f : Fld) (i : Nat := 0) : State := s.setFld d f i 1

/-- Add to a field that saturates at all ones. -/
def State.addSat (s : State) (d : Nat) (f : Fld) (i n : Nat) : State :=
  s.setFld d f i (satAdd f.width (s.fld d f i) n)

/-- Set several fields of one register. -/
def State.setFlds (s : State) (d i : Nat) : List (Fld × Nat) → State
  | [] => s
  | (f, v) :: r => (s.setFld d f i v).setFlds d i r

/-- Restore the fields that a test selects to their reset values. -/
def State.restore (s : State) (p : FK → Bool) : State :=
  { s with regs := keepK s.regs (fun k => !p k) }

/-- A fresh free value, and the state with the counter advanced. -/
def State.fresh (s : State) : Nat × State := (Config.free s.free, { s with free := s.free + 1 })

/-- The byte an address holds, or the value that an unlisted address reads as. -/
def cellGet (dflt : Byte) : List (Nat × Byte) → Nat → Byte
  | [], _ => dflt
  | (a, b) :: m, x => if a = x then b else if x < a then dflt else cellGet dflt m x

/-- Write one byte, keeping the list sorted and free of entries equal to the unlisted value. -/
def cellPut (dflt : Byte) : List (Nat × Byte) → Nat → Byte → List (Nat × Byte)
  | [], x, v => if v = dflt then [] else [(x, v)]
  | (a, b) :: m, x, v =>
    if x < a then (if v = dflt then (a, b) :: m else (x, v) :: (a, b) :: m)
    else if a = x then (if v = dflt then m else (x, v) :: m)
    else (a, b) :: cellPut dflt m x v

/-- The canonical form of a sparse memory: addresses strictly rising, no entry equal to the unlisted value. -/
def cellsWf (dflt : Byte) : List (Nat × Byte) → Bool
  | [] => true
  | (a, b) :: m => decide (b ≠ dflt) && (m.all (fun e => decide (a < e.1))) && cellsWf dflt m

/-- Memory.wf: the form of LPDDR5X, Granary and Loft bytes and of the flash bytes. -/
def Memory.wf (s : State) : Bool := cellsWf 0#8 s.mem && cellsWf 0xFF#8 s.flash

/-- One byte of Granary, Loft or LPDDR5X. A byte nothing has written reads zero (R66, R147; for LPDDR5X the model's choice). -/
def State.byte (s : State) (a : Nat) : Byte := cellGet 0#8 s.mem a

/-- Write one byte of memory. -/
def State.putByte (s : State) (a : Nat) (v : Byte) : State := { s with mem := cellPut 0#8 s.mem a v }

/-- `n` bytes from an address. -/
def State.bytes (s : State) (a : Nat) : Nat → List Byte
  | 0 => []
  | n + 1 => s.byte a :: s.bytes (a + 1) n

/-- The little-endian value of `n` bytes. -/
def State.loadNat (s : State) (a n : Nat) : Nat := leNat (s.bytes a n)

/-- Write bytes from an address on. -/
def State.putBytes (s : State) (a : Nat) : List Byte → State
  | [] => s
  | b :: bs => (s.putByte a b).putBytes (a + 1) bs

/-- Write zeros. -/
def State.zeroBytes (s : State) (lo n : Nat) : State :=
  { s with mem := s.mem.filter (fun e => !(decide (lo ≤ e.1) && decide (e.1 < lo + n))) }

/-- One byte of xSPI flash; erased flash reads 0xFF. -/
def State.flashByte (s : State) (a : Nat) : Byte := cellGet 0xFF#8 s.flash a

/-- Bytes of xSPI flash. -/
def State.flashBytes (s : State) (a : Nat) : Nat → List Byte
  | 0 => []
  | n + 1 => s.flashByte a :: s.flashBytes (a + 1) n

/-- Write bytes of xSPI flash. -/
def State.putFlash (s : State) (a : Nat) : List Byte → State
  | [] => s
  | b :: bs => ({ s with flash := cellPut 0xFF#8 s.flash a b }).putFlash (a + 1) bs

/-- Erase flash bytes. -/
def State.eraseFlash (s : State) (lo n : Nat) : State :=
  { s with flash := s.flash.filter (fun e => !(decide (lo ≤ e.1) && decide (e.1 < lo + n))) }

/-- A time base in the DEADLINE encoding of R277 and R370: its seconds × 10⁹ + nanoseconds, without the fraction. -/
def State.tbNs (s : State) (k : Nat) : Nat := lookupD s.time.live k 0 / 2 ^ 48

/-- Seconds, nanoseconds and 2⁻¹⁶ ns fraction of a time base (R369). -/
def State.tbSec (s : State) (k : Nat) : Nat := s.tbNs k / 1000000000
def State.tbNsec (s : State) (k : Nat) : Nat := s.tbNs k % 1000000000
def State.tbFrac (s : State) (k : Nat) : Nat := lookupD s.time.live k 0 % 2 ^ 48 / 2 ^ 32

/-- The present time: TB_0 in the DEADLINE encoding. -/
def State.now (s : State) : Nat := s.tbNs 0

/-- Add to a Tithe counter, at its byte offset in the record; six bytes, saturating (R497). -/
def State.titheAdd (s : State) (off n : Nat) : State :=
  { s with tithe.counts := insertKV s.tithe.counts off (satAdd 48 (lookupD s.tithe.counts off 0) n) }

/-- The Tithe offset of a field in the section of a die (R498). -/
def titheDie (d off : Nat) : Nat := 0x180 + 0x280 * d + off

/-- Record what the part sends. -/
def State.send (s : State) (x : Sent) : State := { s with out := s.out ++ [x] }

/-- The start-up step a die has completed (R73). -/
def State.stepOf (s : State) (d : Nat) : Nat := lookupD s.boot.step d 0

/-- Whether firmware of a die runs (R73, step 10). -/
def State.fwRuns (s : State) (d : Nat) : Bool := s.boot.powered && decide (10 ≤ s.stepOf d)

/-- Holder of a claimed resource (R6); 0xFFFF when none. -/
def State.holder (s : State) (ty d i : Nat) : Dom :=
  match lookup? s.pins.claims (ty, d, i) with
  | some (h, _) => h
  | none => 0xFFFF

/-- Class of the claim on a resource (R40). -/
def State.claimClass (s : State) (ty d i : Nat) : Nat :=
  match lookup? s.pins.claims (ty, d, i) with
  | some (_, c) => c
  | none => 0

/-- The firmware domain of R39. -/
def fwDom : Dom := 0xFF00

/-- No holder, R39. -/
def noDom : Dom := 0xFFFF

/-- Whether a domain holds a guarded grant, or is firmware (R7, R482). -/
def State.granted (s : State) (dom : Dom) : Bool := decide (dom = fwDom) || decide (dom ∈ s.mail.grants)

/-- PF_0, firmware or a holder of a guarded grant. -/
def State.manager (s : State) (dom : Dom) : Bool := decide (dom = 0) || s.granted dom

/-- Master ID of R96. -/
def masterId (m : Master) : Nat :=
  m.die * 512 + (match m.kind with
    | .core => 0 | .ap => 1 | .firmware => 2 | .pcie => 3 | .ioDma => 4 | .debug => 5 | .mirsia => 6) * 64 + m.index % 64

/-- The image of a SILO member mask and configuration: the class of a silo as its claim and configuration give it (R289). -/
def State.siloClass (s : State) (d k : Nat) : Nat := s.fld d .SILO_CFG_CLASS k

/-- Silos of a die that are enabled and of Class S (R69, R289). -/
def State.classSSilos (s : State) (d : Nat) : List Nat :=
  (List.range 16).filter (fun k => decide (s.fld d .SILO_CFG_EN k = 1) && decide (s.siloClass d k = 0) && decide (s.holder 2 d k ≠ noDom))

/-- Whether a domain holds a Class S silo grant (R69, R289). -/
def State.holdsClassS (s : State) (dom : Dom) : Bool :=
  s.pins.claims.any (fun e => decide (e.1.1 = 2) && decide (e.2.1 = dom) && decide (e.2.2 = 0))

end Sys2Proof.Machine
end

