-- ==== Sys2Proof/Machine/Events.lean ====
section
/-!
DEFINITION. Machine/Events.lean: interrupts and events: the event codes (R123 and the chapters' own tables), the event queues of the
mailboxes (R125), MSI-X and IMSIC delivery (R127, R303).
-/
namespace Sys2Proof.Machine

/-- Event code: group in bits [15:8], number in bits [7:0] (R123, R295, R342, R365, R387, R413, R438, R461, R483, R501). -/
def Ev.code : Ev → Nat
  | .guaranteeBroken => 0x0201 | .deadlineMiss => 0x0202
  | .frozenFrame => 0x0401 | .goldenFail => 0x0402 | .frameDisplaced => 0x0403 | .frameDropped => 0x0404 | .odoSlip => 0x0405 | .odoFault => 0x0406
  | .tbStep => 0x0501 | .tbHoldover => 0x0502 | .trgMissed => 0x0503 | .cmp32 => 0x0504
  | .stookFlush => 0x0601 | .dispRepeat => 0x0602 | .dispUnderrun => 0x0603 | .dispHpd => 0x0604
  | .mismatch => 0x0701 | .testLapse => 0x0702 | .safeState => 0x0703 | .pairFailover => 0x0704 | .eccUe => 0x0705 | .pairLink => 0x0706
  | .testFail => 0x0707 | .checkerFail => 0x0708
  | .clkFail => 0x0801 | .thermal => 0x0802 | .powerFail => 0x0803 | .powerThrottle => 0x0804 | .pmbusFault => 0x0805
  | .guardViolation => 0x0901 | .debugAuth => 0x0902
  | .fwRollback => 0x0A01
  | .postedWriteErr => 0x0B01 | .ethLink => 0x0B02 | .pcieAer => 0x0B03 | .mirsiaRetrain => 0x0B04 | .mirsiaDown => 0x0B05 | .canBusoff => 0x0B06

/-- Event index: 16 × group + number (R123). -/
def Ev.index (e : Ev) : Nat := 16 * (e.code / 256) + e.code % 256

/-- Severity (R123). -/
def Ev.severity : Ev → Nat
  | .stookFlush | .dispHpd | .cmp32 | .ethLink => 0
  | .guaranteeBroken | .frameDisplaced | .frameDropped | .tbStep | .trgMissed | .dispRepeat | .dispUnderrun | .thermal | .powerThrottle
  | .mirsiaRetrain => 1
  | .deadlineMiss | .goldenFail | .safeState | .pairFailover | .checkerFail | .clkFail | .powerFail | .mirsiaDown => 3
  | _ => 2

/-- Events that no mask withholds (R123). -/
def Ev.nonMaskable : Ev → Bool
  | .safeState | .pairFailover | .clkFail | .checkerFail | .powerFail | .mirsiaDown => true
  | _ => false

/-- Every event code. -/
def Ev.all : List Ev := [
  .guaranteeBroken, .deadlineMiss, .frozenFrame, .goldenFail, .frameDisplaced, .frameDropped, .odoSlip, .odoFault, .tbStep, .tbHoldover,
  .trgMissed, .cmp32, .stookFlush, .dispRepeat, .dispUnderrun, .dispHpd, .mismatch, .testLapse, .safeState, .pairFailover, .eccUe,
  .pairLink, .testFail, .checkerFail, .clkFail, .thermal, .powerFail, .powerThrottle, .pmbusFault, .guardViolation, .debugAuth,
  .fwRollback, .postedWriteErr, .ethLink, .pcieAer, .mirsiaRetrain, .mirsiaDown, .canBusoff]

/-- The payload of an event message (R124). -/
def EvRec.payload (e : EvRec) : List Byte :=
  leBytes 2 e.ev.code ++ leBytes 1 e.ev.severity ++ leBytes 1 e.die ++ leBytes 2 e.source ++ leBytes 2 e.count ++ leBytes 8 e.sec ++ leBytes 4 e.nsec ++ e.detail

/-- The mask with every non-maskable bit set (R126). -/
def nonMaskableBits : Nat := Ev.all.foldl (fun a e => if e.nonMaskable then a + 2 ^ e.index else a) 0

/-- DETAIL of an event: fields as (byte of the payload, length, value), bytes 20 to 31. -/
def detail (fs : List (Nat × Nat × Nat)) : List Byte :=
  leBytes 12 (fs.foldl (fun a f => a + (f.2.2 % 256 ^ f.2.1) * 256 ^ (f.1 - 20)) 0)

/-- A mailbox that nothing has used. -/
def Mailbox.empty : Mailbox := ⟨none, 0, [], nonMaskableBits, [], 0, false, [], none, none, []⟩

/-- The mailbox of a domain. -/
def State.box (s : State) (dom : Dom) : Mailbox := lookupD s.mail.boxes dom Mailbox.empty

/-- Replace the mailbox of a domain. -/
def State.setBox (s : State) (dom : Dom) (b : Mailbox) : State := { s with mail.boxes := insertKV s.mail.boxes dom b }

/-- Doorbell page of a mailbox domain (R94). -/
def pageOf (dom : Dom) : Nat :=
  let n := dom.toNat
  if n ≤ 0x800 then n else if n = 0x2000 then 0xA00 else 0x900 + (n - 0x1000)

/-- The die that holds a mailbox's rings and decodes its page (R109). -/
def homeOf (dies : Nat) (dom : Dom) : Nat :=
  let n := dom.toNat
  if n = 0 then 0 else if n ≤ 0x800 then (n - 1) % dies else if n = 0x2000 then 0 else (n - 0x1000) / 4

/-- The domain a doorbell page serves (R94, R109). -/
def domOfPage (dies p : Nat) : Option Dom :=
  if p ≤ 0x800 then some (BitVec.ofNat 16 p)
  else if p = 0xA00 then some 0x2000
  else if 0x900 ≤ p ∧ p < 0x900 + 4 * dies then some (BitVec.ofNat 16 (0x1000 + (p - 0x900)))
  else none

/-- A mailbox register field. -/
def State.mbFld (s : State) (dom : Dom) (f : Fld) : Nat := s.fld (homeOf s.part.dies dom) f (pageOf dom)

/-- Set a mailbox register field. -/
def State.setMb (s : State) (dom : Dom) (f : Fld) (v : Nat) : State := s.setFld (homeOf s.part.dies dom) f (pageOf dom) v

/-- Base of a die's register window (R90). -/
def windowBase (d : Nat) : Nat := 0xF00000000000 + d * 0x10000000

/-- Whether an address lies in an IMSIC file of APINTC (R127). -/
def inImsic (dies a : Nat) : Bool :=
  decide (windowBase 0 ≤ a) && decide ((a - windowBase 0) / 0x10000000 < dies) &&
  (let o := (a - windowBase 0) % 0x10000000
   (decide (0x910000 ≤ o) && decide (o < 0x914000)) ||
   (decide (0x920000 ≤ o) && decide (o < 0x940000) && decide ((o - 0x920000) % 0x8000 < 0x6000)))

/-- Mark an identity pending in an IMSIC file (R127); a file has the identities 1 to 255. -/
def State.imsicPend (s : State) (file ident : Nat) : State :=
  if ident = 0 ∨ 255 < ident then s
  else { s with irq.imsic := if (file, ident) ∈ s.irq.imsic then s.irq.imsic else s.irq.imsic ++ [(file, ident)] }

/-! The APLIC of a die (R127). The spec names RISC-V AIA 1.0 and no register of it: the layout and its rules are PRESUMED from that standard (notes/assumptions/98). -/

/-- A register of an APLIC domain, 0 machine and 1 supervisor level, by its offset. -/
def State.aplicReg (s : State) (d dom o : Nat) : Nat := lookupD s.irq.aplicRegs (d, dom, o) 0

/-- The domain that a source belongs to: supervisor level where the machine level delegates it. -/
def State.aplicDom (s : State) (d src : Nat) : Nat := (s.aplicReg d 0 (4 * src)) / 0x400 % 2

/-- Whether a source is active in its domain: its source mode is not 0. -/
def State.aplicActive (s : State) (d src : Nat) : Bool := decide (s.aplicReg d (s.aplicDom d src) (4 * src) % 8 ≠ 0)

/-- An MSI of an APLIC domain to a file of an AP: AP_a of DIE_d is hart 4 × d + a; a file that the part does not have takes nothing. -/
def State.aplicMsi (s : State) (dom hart guest ident : Nat) : State :=
  if 4 * s.part.dies ≤ hart ∨ 5 < guest then s
  else s.imsicPend (windowBase (hart / 4) + (if dom = 0 then 0x910000 + hart % 4 * 0x1000 else 0x920000 + hart % 4 * 0x8000 + guest * 0x1000)) ident

/-- A pending source is forwarded and no longer pending: active, enabled, and interrupts on in its domain. -/
def State.aplicForward (s : State) (e : Nat × Nat) : State :=
  let dom := s.aplicDom e.1 e.2
  if e ∈ s.mail.aplic ∧ e ∈ s.irq.aplicOn ∧ s.aplicActive e.1 e.2 ∧ bit (s.aplicReg e.1 dom 0) 8 then
    let t := s.aplicReg e.1 dom (0x3000 + 4 * e.2)
    ({ s with mail.aplic := s.mail.aplic.filter (fun x => decide (x ≠ e)) } : State).aplicMsi dom (t / 2 ^ 18) (if dom = 0 then 0 else t / 2 ^ 12 % 64) (t % 2 ^ 11)
  else s

/-- An edge arrives at a source of an APLIC (R127): pending, and forwarded where that can be. -/
def State.pulse (s : State) (d src : Nat) : State :=
  ({ s with mail.aplic := if (d, src) ∈ s.mail.aplic then s.mail.aplic else s.mail.aplic ++ [(d, src)] } : State).aplicForward (d, src)

/-- A function's MSI-X message (R303): pending in the PBA while masked, delivered to an IMSIC file within the fabric, dropped with MSI_ERR
when an AP-assigned function names any other address, else written over the function's PCI Express link. -/
def State.msix (s : State) (fn : Dom) (vec : Nat) : State :=
  match lookup? s.irq.msix (fn, vec) with
  | none => { s with irq.pba := if (fn, vec) ∈ s.irq.pba then s.irq.pba else s.irq.pba ++ [(fn, vec)] }
  | some e =>
    if e.masked then { s with irq.pba := if (fn, vec) ∈ s.irq.pba then s.irq.pba else s.irq.pba ++ [(fn, vec)] }
    else if inImsic s.part.dies e.addr then s.imsicPend e.addr e.data
    else if s.fld 0 .FN_CFG_ASSIGN fn.toNat = 3 then s.setMb fn .FN_STATUS_MSI_ERR 1
    else s.send (.msi fn e.addr e.data)

/-- What MB_NOTIFY signals when a message enters the response ring (R113). -/
def State.notify (s : State) (dom : Dom) : State :=
  if s.mbFld dom .MB_NOTIFY_EN = 0 then s
  else
    let v := s.mbFld dom .MB_NOTIFY_VECTOR
    let n := dom.toNat
    if n ≤ 0x800 then s.msix dom v
    else if n = 0x2000 then s.msix 0 v
    else s.imsicPend (windowBase ((n - 0x1000) / 4) + 0x920000 + (n % 4) * 0x8000) v

/-- Count a dropped event of a mailbox (R125). -/
def State.evDrop (s : State) (dom : Dom) : State :=
  let d := homeOf s.part.dies dom
  ((s.addSat d .MB_EVT_LOST_LOST (pageOf dom) 1).setMb dom .MB_STATUS_EVT_LOST 1).setBox dom { s.box dom with lost := true }

/-- Increment COUNT of the oldest record of a code. -/
def bumpOldest (e : Ev) : List EvRec → List EvRec
  | [] => []
  | r :: rs => if r.ev = e then { r with count := min 0xFFFF (r.count + 1) } :: rs else r :: bumpOldest e rs

/-- Remove the first record that a test selects. -/
def dropFirst (p : EvRec → Bool) : List EvRec → List EvRec
  | [] => []
  | r :: rs => if p r then rs else r :: dropFirst p rs

/-- Queue one event record at a mailbox (R125). -/
def State.evQueue (s : State) (dom : Dom) (r : EvRec) : State :=
  let b := s.box dom
  if b.evq.length < 32 then s.setBox dom { b with evq := b.evq ++ [r] }
  else if b.evq.any (fun q => decide (q.ev = r.ev)) then s.setBox dom { b with evq := bumpOldest r.ev b.evq }
  else if !r.ev.nonMaskable then s.evDrop dom
  else
    let q := if b.evq.any (fun q => !q.ev.nonMaskable) then dropFirst (fun q => !q.ev.nonMaskable) b.evq
      else dropFirst (fun q => decide (2 ≤ (b.evq.filter (fun x => decide (x.ev = q.ev))).length)) b.evq
    let s' := s.evDrop dom
    s'.setBox dom { s'.box dom with evq := q ++ [r] }

/-- Whether a mailbox takes an event: a session is open and the mask bit is 1 (R125). -/
def Mailbox.wants (b : Mailbox) (e : Ev) : Bool := b.session.isSome && bit b.mask e.index

/-- Queue a record at each of the mailboxes that take it. -/
def State.evAll (s : State) (r : EvRec) : List Dom → State
  | [] => s
  | d :: ds => (if (s.box d).wants r.ev then s.evQueue d r else s).evAll r ds

/-- Raise an event (R123 to R127): pulse the APLIC source of the die and queue the record at the concerned mailboxes and at PF_0. -/
def State.raise (s : State) (e : Ev) (die source : Nat) (dt : List (Nat × Nat × Nat)) (doms : List Dom) : State :=
  (s.pulse die e.index).evAll ⟨e, die, source, 1, s.tbSec 0, s.tbNsec 0, detail dt⟩ ((0 : Dom) :: (doms.filter (fun d => decide (d ≠ 0))).eraseDups)

/-- The mailbox domains of every AP of the part (R39). -/
def State.apDoms (s : State) : List Dom := (List.range (4 * s.part.dies)).map (fun k => BitVec.ofNat 16 (0x1000 + k))

/-- Holders of Class S silo grants (R461). -/
def State.classSHolders (s : State) : List Dom :=
  ((s.pins.claims.filter (fun e => decide (e.1.1 = 2) && decide (e.2.2 = 0))).map (fun e => e.2.1)).eraseDups

/-- The concerned domains of a safety event: holders of Class S silos and of the SAFE_OUT pins (R461). -/
def State.safetyDoms (s : State) : List Dom := s.classSHolders ++ [s.holder 1 0 372]

end Sys2Proof.Machine
end

