-- ==== Sys2Proof/Machine/Bus.lean ====
section
/-!
DEFINITION. Machine/Bus.lean: the address map (R90 to R94), who may reach registers (R95), the refusal of an access (R92), the guard
(R105), the fabric error log (R106), and the path of a register write through the posted blocks (R100).
-/
namespace Sys2Proof.Machine

/-- Where a physical address lies (R90). -/
inductive Region where
  | dram (d off : Nat)
  | granary (d off : Nat)
  | loft (d off : Nat)
  | pcieOut (k off : Nat)
  | regs (d off : Nat)
  | hole (d : Nat)
  | absent
deriving DecidableEq, Repr

/-- Decode a physical address; `own` is the die of the requesting master, for the alias window. -/
def decodeAddr (part : Part) (own a : Nat) : Region :=
  if a < 0x8000000000 then
    let d := a / 0x1000000000
    let o := a % 0x1000000000
    if d < part.dies then (if o < part.dramBytes then .dram d o else .hole d) else .absent
  else if 0x800000000000 ≤ a ∧ a < 0x800000000000 + 8 * 0x40000000 then
    let d := (a - 0x800000000000) / 0x40000000
    let o := (a - 0x800000000000) % 0x40000000
    if d < part.dies then
      (if o < 0x1E000000 then .granary d o
       else if 0x20000000 ≤ o ∧ o < 0x22000000 then .loft d (o - 0x20000000) else .hole d)
    else .absent
  else if 0xC00000000000 ≤ a ∧ a < 0xC00000000000 + 2 * 0x10000000000 then
    .pcieOut ((a - 0xC00000000000) / 0x10000000000) ((a - 0xC00000000000) % 0x10000000000)
  else if 0xF00000000000 ≤ a ∧ a < 0xF00000000000 + 8 * 0x10000000 then
    let d := (a - 0xF00000000000) / 0x10000000
    if d < part.dies then .regs d ((a - 0xF00000000000) % 0x10000000) else .absent
  else if 0xF0F000000000 ≤ a ∧ a < 0xF0F000000000 + 0x10000000 then .regs own (a - 0xF0F000000000)
  else .absent

/-- Base of a die's Granary window, of its Loft and of a slice (R90, R91). -/
def granaryBase (d : Nat) : Nat := 0x800000000000 + d * 0x40000000
def loftBase (d : Nat) : Nat := granaryBase d + 0x20000000
def sliceBase (d c : Nat) : Nat := granaryBase d + c * 0x5000000
def dramBase (d : Nat) : Nat := d * 0x1000000000

/-- Where firmware puts the queue contexts of a die (R272, R298): below its spill region; a free value. -/
def contextBase (part : Part) (d : Nat) : Nat := dramBase d + 64 * (1 + Config.contextPlace d % ((part.dramBytes - 0x40000000) / 64 - 0x10001))

/-- Base of the spill region of a die: the top 1 GiB of its populated LPDDR5X (R143). -/
def spillBase (part : Part) (d : Nat) : Nat := dramBase d + part.dramBytes - 0x40000000

/-- The blocks of a register window: offset, size and which dies hold them (0 all, 1 DIE_0, 2 DIE_0 and DIE_1), R93. -/
def blockMap : List (Nat × Nat × Nat × Blk) := [
  (0x0000000, 0x10000, 0, .RSTCTL), (0x0010000, 0x10000, 0, .CLKCTL), (0x0020000, 0x10000, 0, .PINMUX), (0x0030000, 0x10000, 0, .FBR),
  (0x0040000, 0x10000, 0, .PMC), (0x0050000, 0x10000, 0, .SEC), (0x0060000, 0x10000, 0, .TIMEBASE), (0x0070000, 0x10000, 1, .ODO),
  (0x0080000, 0x10000, 0, .CAN), (0x0090000, 0x10000, 0, .UART), (0x00A0000, 0x10000, 0, .PMBUS), (0x00B0000, 0x10000, 1, .XSPI),
  (0x00C0000, 0x10000, 2, .MVB), (0x00D0000, 0x10000, 0, .FABRIC), (0x0100000, 0x100000, 0, .SCH), (0x0200000, 0x60000, 0, .CCC),
  (0x0300000, 0x10000, 0, .GRANARY), (0x0310000, 0x10000, 0, .LOFT), (0x0320000, 0x10000, 0, .DRAMC), (0x0330000, 0x30000, 0, .MIRSIA),
  (0x0400000, 0x80000, 0, .CSI), (0x0500000, 0x100000, 0, .ETH), (0x0600000, 0x100000, 2, .PCIE), (0x0700000, 0x10000, 1, .DISPLAY),
  (0x0710000, 0x10000, 0, .RASTER), (0x0800000, 0x10000, 1, .MIRROR), (0x0810000, 0x10000, 0, .COMMIT), (0x0900000, 0x100000, 0, .APINTC),
  (0x1000000, 0x1000000, 0, .QDB), (0x2000000, 0x1000000, 0, .MBOX)]

/-- Window offset of a block (R93). -/
def blkBase (b : Blk) : Nat :=
  match blockMap.find? (fun e => decide (e.2.2.2 = b)) with
  | some e => e.1
  | none => 0

/-- The block at a window offset of a die, with the offset inside it (R93); none for an unoccupied slot. -/
def blockAt (d off : Nat) : Option (Blk × Nat) :=
  match blockMap.find? (fun e => decide (e.1 ≤ off) && decide (off < e.1 + e.2.1)) with
  | some (b, _, k, blk) => if k = 0 ∨ (k = 1 ∧ d = 0) ∨ (k = 2 ∧ d < 2) then some (blk, off - b) else none
  | none => none

/-- Physical address of a register of a block. -/
def regAddr (d : Nat) (b : Blk) (off : Nat) : Nat := windowBase d + blkBase b + off

/-- The release group of R89 that a block belongs to, for blocks that have one. -/
def blkGroup (b : Blk) (off : Nat) : Option Nat :=
  match b with
  | .TIMEBASE => some 19
  | .CAN | .UART | .PMBUS | .XSPI | .MVB | .ODO => some 18
  | .DISPLAY => some 17
  | .PCIE => some 16
  | .ETH => some 15
  | .CSI => some 14
  | .MIRSIA => some 13
  | .DRAMC => some 12
  | .PMC => some 11
  | .SCH | .QDB => some 10
  | .CCC => some (4 + off / 0x10000)
  | _ => none

/-- The start-up step whose completion finds a release group out of reset (R73). -/
def groupStep (g : Nat) : Nat :=
  if g < 4 then 11 else if g ≤ 10 then 10 else if g = 11 ∨ g = 12 then 7 else if g = 13 then 8 else 5

/-- Whether a release group of a die is out of reset: released by the start-up order and not held by a cluster or AP reset, or forced (R85, R86). -/
def State.groupUp (s : State) (d g : Nat) : Bool :=
  (s.boot.powered && decide (groupStep g ≤ s.stepOf d) && decide ((d, g) ∉ s.boot.down)) || decide ((d, g) ∈ s.boot.forced)

/-- CLK_STABLE of a release group (R85): the domains' source has passed its judgement or is IRC after the trim load; a group on TREF_PLL
needs its lock or holdover. -/
def State.groupStable (s : State) (d g : Nat) : Bool :=
  if g = 19 then decide (s.fld d .CLK_STATUS_TREF_LOCK = 1) || decide (s.fld d .CLK_STATUS_TREF_HOLD = 1)
  else s.boot.powered && decide (1 ≤ s.stepOf d)

/-- The step of the start-up order from which the registers of a block without a release group answer. -/
def blkStep (b : Blk) : Nat :=
  match b with
  | .RSTCTL | .CLKCTL | .PINMUX | .FBR | .SEC | .FABRIC => 1
  | .MBOX => 6
  | _ => 9

/-- Whether a block of a die is out of reset and not isolated (R85, R86, R92). -/
def State.blkUp (s : State) (d : Nat) (b : Blk) (off : Nat) : Bool :=
  match blkGroup b off with
  | some g => s.groupUp d g && decide ((s.fld d .RSTCTL_ISO_GROUPS / 2 ^ g) % 2 = 0)
  | none => s.boot.powered && decide (blkStep b ≤ s.stepOf d)

/-- Lowest bit in which two numbers below 8 differ. -/
def lowDiff (a b : Nat) : Nat := if a % 2 ≠ b % 2 then 0 else if (a / 2) % 2 ≠ (b / 2) % 2 then 1 else 2

/-- The fixed route between two dies, the dies after the first (R145). -/
def route (dies : Nat) : Nat → Nat → Nat → List Nat
  | 0, _, _ => []
  | n + 1, a, b =>
    if a = b then []
    else if dies < 8 then [b]
    else
      let k := lowDiff a b
      let c := if (a / 2 ^ k) % 2 = 1 then a - 2 ^ k else a + 2 ^ k
      c :: route dies n c b

/-- The Mirsia port of a die toward a neighbour, for a request of a line (R20, R145): on the LRK-8C the bit in which they differ, on the LRK-4C the place of the
neighbour among the other dies, on the LRK-2C the line modulo the three links. -/
def portTo (dies a b line : Nat) : Nat :=
  if dies = 8 then lowDiff a b else if dies = 4 then (if b < a then b else b - 1) else line % 3

/-- The line of a memory request, address[47:8]; a request to a register window counts as line 0, so it takes link 0 (R145). -/
def memLine (a : Nat) : Nat := a / 256

/-- Whether a die's Mirsia ports are isolated (R68): it is in reset up to the end of step 9. -/
def State.isolated (s : State) (d : Nat) : Bool := !(s.boot.powered && decide (9 ≤ s.stepOf d))

/-- Walk a route from die `a`: the last die reached when an isolated die or a down link stops it, none when it reaches its end (R92, R106). -/
def State.routeStop (s : State) (line a : Nat) : List Nat → Option Nat
  | [] => none
  | b :: bs =>
    if s.isolated b || decide (s.fld a .MIRSIA_STATUS_DOWN (portTo s.part.dies a b line) = 1) then some a else s.routeStop line b bs

/-- Where a request from a die to a die is stopped, if it is (R92, R106, R145). -/
def State.blocked (s : State) (src d line : Nat) : Option Nat := if src = d then none else s.routeStop line src (route s.part.dies 3 src d)

/-- The domain that owns a master, for the events of R105 and R152, as the request carries it. -/
def ownerDoms (m : Master) : List Dom := [m.dom]

/-- Whether a master passes the guard of R105. -/
def State.guardOk (s : State) (m : Master) : Bool :=
  match m.kind with
  | .firmware => true
  | .debug => decide (s.fld 0 .SEC_STATUS_DBG_AUTH = 1)
  | .ap => (match m.priv with
    | .machine => true
    | .supervisor => !m.virt
    | .user => false)
  | _ => false

/-- Privilege code of FAB_ERR_INFO (R106). -/
def privCode : Priv → Nat
  | .user => 0 | .supervisor => 1 | .machine => 3

/-- Log a bus error or guard violation at a die (R106). -/
def State.fabLog (s : State) (d : Nat) (guard : Bool) (type addr : Nat) (m : Master) (write : Bool) : State :=
  if s.fld d .FAB_STATUS_DECODE = 1 ∨ s.fld d .FAB_STATUS_GUARD = 1 then s.addSat d .FAB_STATUS_OVERFLOW 0 1
  else
    (s.setFld d (if guard then .FAB_STATUS_GUARD else .FAB_STATUS_DECODE) 0 1).setFlds d 0
      [(.FAB_ERR_ADDR_ADDR, addr), (.FAB_ERR_INFO_WRITE, b2n write), (.FAB_ERR_INFO_TYPE, type),
       (.FAB_ERR_INFO_V, if m.kind = .ap then b2n m.virt else 0), (.FAB_ERR_INFO_PRIV, if m.kind = .ap then privCode m.priv else 0),
       (.FAB_ERR_INFO_MASTER, masterId m)]

/-- A bus error: logged at the die of the refusal, and the answer to the master (R92, R106). -/
def State.busError (s : State) (d type addr : Nat) (m : Master) (write : Bool) : State :=
  { s.fabLog d false type addr m write with access := .busError type }

/-- A guard violation (R105): logged at the register's die and raised to the domain that owns the master and, as to every event, to PF_0. -/
def State.guardViolation (s : State) (d addr : Nat) (m : Master) (write : Bool) : State :=
  (s.fabLog d true 4 addr m write).raise .guardViolation d (masterId m) [(20, 6, addr), (26, 1, b2n write)] (ownerDoms m)

/-- Whether the queue doorbell page of a queue is decoded: the queue exists (R92, R299). -/
def State.queueExists (s : State) (d q : Nat) : Bool := (lookup? s.q.queues (d * 65536 + q)).isSome

/-- Whether a mailbox is enabled: PF_0 and the APs always, a VF while assigned, the PCIe host mailbox while DIE_0's controller is an endpoint or PF_0's page maps it (R109, R300, R301). -/
def State.mbEnabled (s : State) (dom : Dom) : Bool :=
  let n := dom.toNat
  if n = 0 ∨ n = 0x2000 then true
  else if n ≤ 0x800 then decide (s.fld 0 .FN_CFG_ASSIGN n ≠ 0)
  else decide (0x1000 ≤ n) && decide (n < 0x1000 + 4 * s.part.dies)

/-- Whether a mailbox page is decoded in the window of a die (R94). -/
def State.pageDecoded (s : State) (d p : Nat) : Bool :=
  match domOfPage s.part.dies p with
  | some dom => decide (homeOf s.part.dies dom = d) && s.mbEnabled dom
  | none => false

/-- Why a register access at a window offset of a die is refused, and the die that logs it; none when it goes through (R92, R95, R106). -/
def State.refusal (s : State) (m : Master) (d off : Nat) : Option (Nat × Nat) :=
  if ¬ s.hasDie d then some (0, m.die)
  else
    match s.blocked m.die d 0 with
    | some at' => some (3, at')
    | none =>
      if (decide (m.kind = .core) || decide (m.kind = .ioDma)) && !(decide (0x1000000 ≤ off) && decide (off < 0x2000000)) then some (5, d)
      else
        match blockAt d off with
        | none => some (1, d)
        | some (blk, o) =>
          if ¬ s.blkUp d blk o then some (3, d)
          else if blk = .MBOX ∧ ¬ s.pageDecoded d (o / 0x1000) then some (1, d)
          else if blk = .QDB ∧ ¬ s.queueExists d (o / 0x100) then some (1, d)
          else none

/-- The posted block at a window offset, under the reset ranges of R408 or the blocks that post in their own clock (R93, R100). -/
def postedBlkAt (blk : Blk) (o : Nat) : Option PostedBlk :=
  match blk with
  | .RSTCTL => some .rstctl | .CLKCTL => some .clkctl | .PINMUX => some .pinmux | .PMC => some .pmc | .TIMEBASE => some .timebase
  | .ODO => some .odo | .CAN => some (.can (o / 0x4000)) | .UART => some (.uart (o / 0x4000)) | .PMBUS => some .pmbus | .XSPI => some .xspi
  | .MVB => some .mvb | _ => none

/-- The block and place of a posted block. -/
def blkOfPosted : PostedBlk → Blk
  | .rstctl => .RSTCTL | .clkctl => .CLKCTL | .pinmux => .PINMUX | .pmc => .PMC | .timebase => .TIMEBASE | .odo => .ODO
  | .can _ => .CAN | .uart _ => .UART | .pmbus => .PMBUS | .xspi => .XSPI | .mvb => .MVB

/-- Whether the Field bridge posts a write at a window offset: the first enabled range that contains it decides (R408). Blocks that post in
their own clock do not pass the bridge. -/
def State.bridgePosts (s : State) (d off : Nat) : Bool :=
  let slot := off / 0x10000
  match (List.range 16).find? (fun n => decide (s.fld d .FBR_RANGE_EN n = 1) && decide (s.fld d .FBR_RANGE_BASE n ≤ slot)
      && decide (slot < s.fld d .FBR_RANGE_BASE n + s.fld d .FBR_RANGE_COUNT n)) with
  | some n => decide (s.fld d .FBR_RANGE_POSTED n = 1)
  | none => false

/-- The posted block that a write at a window offset goes to, if the write is posted (R93, R408). -/
def State.postsTo (s : State) (d off : Nat) : Option PostedBlk :=
  match blockAt d off with
  | some (blk, o) =>
    match postedBlkAt blk o with
    | some p =>
      if p = .rstctl ∨ p = .clkctl ∨ p = .pmc ∨ p = .timebase then some p
      else if s.bridgePosts d off then some p else none
    | none => none
  | none => none

/-- Whether a posted write of a block is in progress: BUSY (R100). -/
def State.blkBusy (s : State) (d : Nat) (p : PostedBlk) : Bool :=
  s.bus.posted.any (fun w => decide (w.die = d) && decide (w.blk = p))

/-- The posted writes behind an earlier one of their block: held at the block's port until BUSY clears (R100). -/
def heldBehind : List (Nat × PostedBlk) → List Posted → List Posted
  | _, [] => []
  | seen, w :: ws => if (w.die, w.blk) ∈ seen then w :: heldBehind seen ws else heldBehind ((w.die, w.blk) :: seen) ws

/-- Whether a master has a write of a die held at a busy block, so that its accesses to the die's other blocks queue behind it (R100). -/
def State.masterHeld (s : State) (m : Master) (d : Nat) (p : Option PostedBlk) : Bool :=
  (heldBehind [] s.bus.posted).any (fun w => decide (w.m = m) && decide (w.die = d) && decide (some w.blk ≠ p))

/-- The die and window offset of a register address. -/
def regPlace (part : Part) (m : Master) (addr : Nat) : Option (Nat × Nat) :=
  match decodeAddr part m.die addr with
  | .regs d off => some (d, off)
  | _ => none

/-- Whether an earlier access of a master to the registers of a block waits: the accesses of a master to one block complete in order (R99). -/
def State.blockWaits (s : State) (m : Master) (d off : Nat) : Bool :=
  s.bus.stalled.any (fun x => decide (x.m = m) && (match regPlace s.part x.m x.addr with
    | some (e, o) => decide (e = d) && decide ((blockAt e o).map (fun b => b.1) = (blockAt d off).map (fun b => b.1))
    | none => false))

/-- Whether a write of a master at a window offset queues behind an earlier access of its own (R99, R100). -/
def State.mustQueue (s : State) (m : Master) (d off : Nat) : Bool := s.masterHeld m d (s.postsTo d off) || s.blockWaits m d off

/-- The path of a register write whose effect is `apply` (R92, R100): refused with a bus error, queued behind a held write of the same master,
queued behind the write in progress at a posted block, or in effect. -/
def State.regWrite (s : State) (m : Master) (d : Nat) (blk : Blk) (off : Nat) (data : Word) (apply : State → State) : State :=
  let w := blkBase blk + off
  match s.refusal m d w with
  | some (t, at') => s.busError at' t (windowBase d + w) m true
  | none =>
    let p := s.postsTo d w
    if s.mustQueue m d w then { s with bus.stalled := s.bus.stalled ++ [⟨m, windowBase d + w, true, data, 4⟩], access := .waits }
    else
      match p with
      | some b =>
        if s.blkBusy d b then { s with bus.posted := s.bus.posted ++ [⟨m, d, b, off, data, 4⟩], access := .waits }
        else apply { s with access := .done }
      | none => apply { s with access := .done }

/-- The low half that a write of _HI commits: the holding register while valid, else the low word in force (R101). -/
def State.pairLow (s : State) (d : Nat) (n : RegName) (i cur : Nat) : Nat :=
  match lookup? s.bus.holding (d, n, i) with
  | some v => v
  | none => cur % 2 ^ 32

/-- Fill the holding register of a pair. -/
def State.holdLow (s : State) (d : Nat) (n : RegName) (i v : Nat) : State :=
  { s with bus.holding := insertKV s.bus.holding (d, n, i) v }

/-- Mark the holding register of a pair invalid. -/
def State.dropLow (s : State) (d : Nat) (n : RegName) (i : Nat) : State :=
  { s with bus.holding := eraseK s.bus.holding (d, n, i) }

/-- The shadow and holding register of each pair that a reset restores are marked invalid (R101). -/
def State.dropPairs (s : State) (sel : FK → Bool) : State :=
  let gone (k : Nat × RegName × Nat) : Bool := regTable.any (fun r => decide (r.name = k.2.1) && r.segs.any (fun g => sel ⟨k.1, g.fld, k.2.2⟩))
  { s with bus.shadow := s.bus.shadow.filter (fun e => !gone e.1), bus.holding := s.bus.holding.filter (fun e => !gone e.1) }

/-- The domain that writes: firmware, or the owner of the master. -/
def writerOf (m : Master) : Dom := if m.kind = .firmware then fwDom else m.dom

/-- Whether a write to a claimed resource is ignored under R6: another domain than the writer holds it. Firmware is a domain as any other (R39). -/
def State.otherHolds (s : State) (m : Master) (ty d i : Nat) : Bool :=
  let h := s.holder ty d i
  decide (h ≠ noDom) && decide (h ≠ writerOf m)

/-- Judge the guard for a write to a register with guarded fields: whether the guarded fields take the write, and the state with any violation
raised (R105). -/
def State.guardWrite (s : State) (m : Master) (d : Nat) (blk : Blk) (off : Nat) : Bool × State :=
  if s.guardOk m then (true, s) else (false, s.guardViolation d (regAddr d blk off) m true)

/-- A write of a register all of whose writable fields are guarded. -/
def State.guarded (s : State) (m : Master) (d : Nat) (blk : Blk) (off : Nat) (eff : State → State) : State :=
  let r := s.guardWrite m d blk off
  if r.1 then eff r.2 else r.2

end Sys2Proof.Machine
end

