-- ==== Sys2Proof/Machine/Lcp.lean ====
section
/-!
DEFINITION. Machine/Lcp.lean: the control protocol: the table of its messages, the checks before a request is served (R111, R116, R120,
R122), responses (R111, R114, R116) and the closing of a session (R113).
-/
namespace Sys2Proof.Machine

/-- A message: its opcode, the payload lengths it admits (from, to, in steps of), the largest response payload, and the reserved bytes of its
request as (offset, length). -/
structure LcpOp where
  opcode : Nat
  lo : Nat
  hi : Nat
  mult : Nat
  maxRsp : Nat
  zero : List (Nat × Nat)
deriving DecidableEq, Repr

/-- Messages, part 1. -/
def lcpOps1 : List LcpOp := [
  ⟨0x0000, 16, 16, 1, 32, []⟩,
  ⟨0x0001, 0, 0, 1, 0, []⟩,
  ⟨0x0002, 0, 64, 1, 64, []⟩,
  ⟨0x0003, 0, 4080, 1, 0, []⟩,
  ⟨0x0004, 36, 36, 1, 32, [(33, 1)]⟩,
  ⟨0x0100, 16, 16, 1, 8, [(7, 9)]⟩,
  ⟨0x0101, 16, 16, 1, 8, [(6, 10)]⟩,
  ⟨0x0102, 8, 8, 1, 4, [(1, 1)]⟩,
  ⟨0x0103, 4, 4, 1, 8, [(1, 1)]⟩,
  ⟨0x0200, 32, 32, 1, 4, [(31, 1)]⟩,
  ⟨0x0201, 4, 4, 1, 0, []⟩,
  ⟨0x0202, 4, 4, 1, 0, []⟩,
  ⟨0x0203, 4, 4, 1, 0, []⟩,
  ⟨0x0204, 4, 4, 1, 64, []⟩,
  ⟨0x0205, 8, 8, 1, 128, [(5, 3)]⟩,
  ⟨0x0210, 20, 20, 1, 0, [(17, 3)]⟩,
  ⟨0x0211, 2, 2, 1, 28, []⟩,
  ⟨0x0212, 4, 4, 1, 0, [(2, 2)]⟩,
  ⟨0x0240, 8, 8, 1, 4, [(3, 1), (6, 2)]⟩,
  ⟨0x0241, 8, 8, 1, 4, []⟩,
  ⟨0x0242, 4, 4, 1, 0, []⟩,
  ⟨0x0243, 4, 4, 1, 16, []⟩,
  ⟨0x0244, 4, 4, 1, 4, [(3, 1)]⟩,
  ⟨0x0250, 4, 4, 1, 24, [(3, 1)]⟩,
  ⟨0x0251, 4, 4, 1, 24, [(3, 1)]⟩,
  ⟨0x0252, 4, 4, 1, 24, [(3, 1)]⟩,
  ⟨0x0253, 4, 4, 1, 8, [(3, 1)]⟩,
  ⟨0x0260, 8, 8, 1, 4, [(6, 2)]⟩,
  ⟨0x0261, 4, 4, 1, 0, []⟩,
  ⟨0x0262, 24, 24, 1, 4, [(7, 1), (18, 6)]⟩]

/-- Messages, part 2. -/
def lcpOps2 : List LcpOp := [
  ⟨0x0263, 4, 4, 1, 0, []⟩,
  ⟨0x0264, 4, 4, 1, 64, []⟩,
  ⟨0x0265, 16, 16, 1, 0, [(13, 3)]⟩,
  ⟨0x0300, 16, 16, 1, 4, [(3, 1), (7, 1)]⟩,
  ⟨0x0301, 4, 4, 1, 4, [(2, 2)]⟩,
  ⟨0x0302, 4, 4, 1, 32, [(2, 2)]⟩,
  ⟨0x0303, 4, 4, 1, 256, []⟩,
  ⟨0x0304, 4, 4, 1, 0, [(2, 2)]⟩,
  ⟨0x0310, 4, 4, 1, 0, [(2, 2)]⟩,
  ⟨0x0311, 16, 16, 1, 8, [(3, 1)]⟩,
  ⟨0x0312, 32, 32, 1, 4, [(3, 1), (24, 8)]⟩,
  ⟨0x0313, 4, 4, 1, 0, [(2, 2)]⟩,
  ⟨0x0314, 4, 4, 1, 4, [(2, 2)]⟩,
  ⟨0x0400, 8, 8, 1, 0, [(6, 2)]⟩,
  ⟨0x0401, 68, 68, 1, 0, [(2, 2)]⟩,
  ⟨0x0402, 2, 2, 1, 96, []⟩,
  ⟨0x0410, 16, 16, 1, 0, [(1, 3)]⟩,
  ⟨0x0411, 12, 12, 1, 0, [(1, 3)]⟩,
  ⟨0x0412, 1, 1, 1, 48, []⟩,
  ⟨0x0413, 8, 8, 1, 0, [(1, 3)]⟩,
  ⟨0x0500, 1, 1, 1, 32, []⟩,
  ⟨0x0501, 16, 16, 1, 0, []⟩,
  ⟨0x0502, 12, 12, 1, 0, [(1, 3)]⟩,
  ⟨0x0503, 16, 16, 1, 0, [(1, 3)]⟩,
  ⟨0x0504, 8, 8, 1, 0, [(2, 2)]⟩,
  ⟨0x0510, 24, 24, 1, 0, [(5, 3)]⟩,
  ⟨0x0511, 1, 1, 1, 32, []⟩,
  ⟨0x0520, 4, 4, 1, 0, []⟩,
  ⟨0x0521, 2, 2, 1, 16, []⟩,
  ⟨0x0530, 12, 12, 1, 0, [(3, 1)]⟩]

/-- Messages, part 3. -/
def lcpOps3 : List LcpOp := [
  ⟨0x0600, 16, 16, 1, 0, [(3, 1)]⟩,
  ⟨0x0601, 1, 1, 1, 16, []⟩,
  ⟨0x0610, 32, 32, 1, 4, [(28, 4)]⟩,
  ⟨0x0611, 12, 12, 1, 0, [(1, 3)]⟩,
  ⟨0x0612, 1, 1, 1, 24, []⟩,
  ⟨0x0613, 1, 1, 1, 0, []⟩,
  ⟨0x0700, 8, 8, 1, 0, [(6, 2)]⟩,
  ⟨0x0701, 4, 4, 1, 0, [(1, 3)]⟩,
  ⟨0x0702, 0, 0, 1, 0, []⟩,
  ⟨0x0703, 0, 0, 1, 32, []⟩,
  ⟨0x0710, 8, 8, 1, 0, []⟩,
  ⟨0x0711, 12, 1534, 1, 0, []⟩,
  ⟨0x0720, 2, 2, 1, 36, []⟩,
  ⟨0x0721, 1, 1, 1, 12, []⟩,
  ⟨0x0740, 1, 1, 1, 68, []⟩,
  ⟨0x0750, 1, 1, 1, 32, []⟩,
  ⟨0x0751, 4, 4, 1, 0, [(3, 1)]⟩,
  ⟨0x0752, 4, 4, 1, 0, [(3, 1)]⟩,
  ⟨0x0760, 12, 12, 1, 0, [(10, 2)]⟩,
  ⟨0x0761, 4, 4, 1, 0, [(3, 1)]⟩,
  ⟨0x0762, 0, 0, 1, 4, []⟩,
  ⟨0x0763, 0, 0, 1, 32, []⟩,
  ⟨0x0800, 1, 1, 1, 32, []⟩,
  ⟨0x0801, 8, 8, 1, 0, [(7, 1)]⟩,
  ⟨0x0802, 8, 8, 1, 0, [(6, 2)]⟩,
  ⟨0x0820, 1, 1, 1, 24, []⟩,
  ⟨0x0821, 1, 1, 1, 0, []⟩,
  ⟨0x0822, 0, 0, 1, 0, []⟩,
  ⟨0x0830, 4, 4, 1, 0, [(3, 1)]⟩,
  ⟨0x0831, 1, 1, 1, 12, []⟩]

/-- Messages, part 4. -/
def lcpOps4 : List LcpOp := [
  ⟨0x0832, 0, 0, 1, 264, []⟩,
  ⟨0x0833, 260, 260, 1, 4, []⟩,
  ⟨0x0840, 4, 4, 1, 4080, []⟩,
  ⟨0x0841, 0, 0, 1, 4, []⟩,
  ⟨0x0900, 36, 36, 1, 3821, [(34, 2)]⟩,
  ⟨0x0901, 8, 8, 1, 4080, [(1, 3)]⟩,
  ⟨0x0902, 52, 52, 1, 48, [(1, 3)]⟩,
  ⟨0x0903, 4, 4, 1, 0, [(2, 2)]⟩,
  ⟨0x0904, 4, 4, 1, 0, [(2, 2)]⟩,
  ⟨0x0905, 12, 12, 1, 0, []⟩,
  ⟨0x0906, 1, 1, 1, 0, []⟩,
  ⟨0x0907, 1, 1, 1, 0, []⟩,
  ⟨0x0908, 1, 1, 1, 0, []⟩,
  ⟨0x0910, 16, 4080, 16, 4, [(8, 8)]⟩,
  ⟨0x0A00, 16, 16, 1, 4, [(12, 4)]⟩,
  ⟨0x0A01, 8, 8, 1, 8, [(4, 4)]⟩,
  ⟨0x0A02, 0, 0, 1, 16, []⟩,
  ⟨0x0A03, 0, 0, 1, 0, []⟩,
  ⟨0x0B00, 8, 8, 1, 0, [(7, 1)]⟩,
  ⟨0x0B01, 2, 2, 1, 32, []⟩,
  ⟨0x0B02, 20, 4076, 1, 0, [(3, 1), (6, 2)]⟩,
  ⟨0x0B03, 32, 32, 1, 0, [(30, 2)]⟩,
  ⟨0x0B04, 4, 4, 1, 0, []⟩,
  ⟨0x0B05, 16, 16, 1, 0, [(13, 3)]⟩,
  ⟨0x0B10, 12, 12, 1, 0, [(2, 2)]⟩,
  ⟨0x0B11, 8, 8, 1, 0, [(2, 2)]⟩,
  ⟨0x0B12, 8, 8, 1, 0, [(6, 2)]⟩,
  ⟨0x0B20, 4, 4, 1, 0, []⟩,
  ⟨0x0B30, 2, 2, 1, 24, []⟩]

/-- Every message of the protocol (R118 and the chapters' own groups). -/
def lcpOps : List LcpOp := lcpOps1 ++ lcpOps2 ++ lcpOps3 ++ lcpOps4

/-- The message of an opcode. -/
def lcpOp (o : Nat) : Option LcpOp := lcpOps.find? (fun e => decide (e.opcode = o))

/-- STATUS codes (R117). -/
def Status.code : Status → Nat
  | .ok => 0 | .busy => 1 | .unsupported => 2 | .denied => 3 | .conflict => 4 | .staleGeneration => 5 | .timeout => 6 | .badMessage => 7
  | .noResource => 8 | .guaranteeRefused => 9 | .safetyLocked => 10

/-- Units that a message occupies in a ring (R110). -/
def ringUnits (len : Nat) : Nat := (16 + len + 15) / 16

/-- Bytes 0 to 11 of a message header (R114). -/
def Msg.head (m : Msg) : List Byte :=
  leBytes 1 m.major ++ leBytes 1 m.minor ++ leBytes 2 m.opcode ++ leBytes 2 m.payload.length ++ leBytes 2 m.seq ++ leBytes 2 m.session ++
  leBytes 1 m.status ++ leBytes 1 m.flags

/-- The bytes of a message, header with CRC and payload (R114). -/
def Msg.bytes (m : Msg) : List Byte := m.head ++ leBytes 4 (crc32c (m.head ++ m.payload)) ++ m.payload

/-- Units held in the response ring of a mailbox (R110). -/
def State.rspHeld (s : State) (dom : Dom) : Nat :=
  (s.mbFld dom .MB_RSP_TAIL_INDEX + 512 - s.mbFld dom .MB_RSP_HEAD_INDEX) % 512

/-- Where a mailbox stands among those of its die: PF_0, the VFs, the APs, the PCIe host (R109). -/
def mbOrder (dies : Nat) (dom : Dom) : Nat :=
  let n := dom.toNat
  if n = 0 then 0 else if n ≤ 0x800 then 1 + (n - 1) / dies else if n = 0x2000 then 5 + 0x800 / dies else 1 + 0x800 / dies + n % 4

/-- The mailbox at a place among those of a die. -/
def mbAt (dies d k : Nat) : Option Dom :=
  let v := 0x800 / dies
  if k = 0 then (if d = 0 then some 0 else none)
  else if k ≤ v then some (BitVec.ofNat 16 (1 + (k - 1) * dies + d))
  else if k ≤ v + 4 then some (BitVec.ofNat 16 (0x1000 + 4 * d + (k - 1 - v)))
  else if k = v + 5 ∧ d = 0 then some 0x2000
  else none

/-- Base of a die's mailbox pool (R140). -/
def State.poolBase (s : State) (d : Nat) : Nat := loftBase d + (5 + s.fld d .LOFT_MAP_KV_MIB + s.fld d .LOFT_MAP_STOOK_MIB) * 0x100000

/-- Mailboxes that a pool has room for, 9 KiB each. -/
def poolSlots : Nat := 0xA00000 / 0x2400

/-- Where a mailbox's 9 KiB lie: the request ring, the response ring 4 KiB further, the event queue 8 KiB further (R109, R125, R140). -/
def State.mbPlace (s : State) (dom : Dom) : Nat :=
  let d := homeOf s.part.dies dom
  s.poolBase d + 0x2400 * ((mbOrder s.part.dies dom + Config.poolShift d) % poolSlots)

/-- Address of the unit of a request ring that lies a number of units behind its head (R110). -/
def State.reqUnit (s : State) (dom : Dom) (k : Nat) : Nat := s.mbPlace dom + 16 * ((s.mbFld dom .MB_REQ_HEAD_INDEX + k) % 256)

/-- `n` units of a request ring from its head, as they stand in the Loft (R110). -/
def State.reqBytes (s : State) (dom : Dom) (n : Nat) : List Byte := (List.range n).flatMap (fun k => s.bytes (s.reqUnit dom k) 16)

/-- Units that the request ring holds (R110). -/
def State.reqHeld (s : State) (dom : Dom) : Nat :=
  (s.mbFld dom .MB_REQ_TAIL_INDEX + 512 - s.mbFld dom .MB_REQ_HEAD_INDEX) % 512

/-- Write a message into the response ring and signal it (R110, R111, R113). -/
def State.putMsg (s : State) (dom : Dom) (m : Msg) : State :=
  let s1 := s.setBox dom { s.box dom with rsp := (s.box dom).rsp ++ [m] }
  (s1.setMb dom .MB_RSP_TAIL_INDEX ((s.mbFld dom .MB_RSP_TAIL_INDEX + ringUnits m.payload.length) % 512)).notify dom

/-- The doorbells of a mailbox whose requests have all been taken from its ring are done with (R112). -/
def State.settle (s : State) (dom : Dom) : State :=
  { s with mail.bells := s.mail.bells.filter (fun e => decide (e.1 ≠ dom) || (
      let n := (e.2.2 + 512 - s.mbFld dom .MB_REQ_HEAD_INDEX) % 512
      decide (n ≠ 0) && decide (n ≤ s.reqHeld dom))) }

/-- Write the response to a request (R116): the session's version, or 3.2 where none is open; RSP set. -/
def State.respond (s : State) (r : Req) (opcode : Nat) (st : Status) (payload : List Byte) : State :=
  if r.dom = fwDom then s
  else
    let b := s.box r.dom
    let v := match b.session with
      | some x => (x.major, x.minor)
      | none => (3, 2)
    ((s.setBox r.dom { b with current := none, work := none }).settle r.dom).putMsg r.dom ⟨opcode, r.seq.toNat, r.session.toNat, st.code, 1, v.1, v.2, payload⟩

/-- Answer a request in progress: the response is discarded when its mailbox was closed meanwhile (R113). -/
def State.answer (s : State) (r : Req) (opcode : Nat) (st : Status) (payload : List Byte) : State :=
  let b := s.box r.dom
  if (r, opcode) ∈ b.orphans then s.setBox r.dom { b with orphans := b.orphans.erase (r, opcode) }
  else if b.work = some (r, opcode) then s.respond r opcode st payload
  else s

/-- What serving a request gives: the state, and its response unless the request completes later. -/
structure Reply where
  st : State
  ans : Option (Status × List Byte)
deriving DecidableEq, Repr

/-- The request completes now. -/
def reply (s : State) (st : Status) (p : List Byte := []) : Reply := ⟨s, some (st, p)⟩

/-- The request completes later. -/
def later (s : State) : Reply := ⟨s, none⟩

/-- Whether a processor is between its handoff point and adoption (R130, R131). -/
def State.blackout (s : State) (kind die : Nat) : Bool :=
  match s.fw.activation with
  | some a => decide (a.phase = .blackout) && decide (a.last.kind = kind) && decide (a.last.die = die)
  | none => false

/-- A clock failure or a takeover lets the instance in activation finish, and then stops the activation (R135). -/
def State.stopActivation (s : State) : State :=
  { s with fw.activation := s.fw.activation.map (fun a => { a with stop := true }) }

/-- A section of a handoff record as bytes (R134). -/
def sectionOut (x : HandoffSection) : List Byte := leBytes 2 x.tag ++ leBytes 2 x.version ++ leBytes 4 x.content.length ++ x.content

/-- The 64-byte header of a handoff record with its sections (R134): `front` is bytes 0 to 15, `time` bytes 24 to 35. -/
def recordOf (front time : List Byte) (seq : Nat) (xs : List HandoffSection) : List Byte :=
  let body := xs.flatMap sectionOut
  let head := front ++ leBytes 4 body.length ++ leBytes 4 xs.length ++ time ++ leBytes 4 seq ++ leBytes 20 0
  head ++ leBytes 4 (crc32c (head ++ body)) ++ body

/-- The sections that fit into the 1 MiB of a record. -/
def fitSections : Nat → List HandoffSection → List HandoffSection
  | _, [] => []
  | room, x :: xs => if 8 + x.content.length ≤ room then x :: fitSections (room - (8 + x.content.length)) xs else []

/-- A firmware processor on probation rewrites its handoff record as its state changes, in the version of the old image (R132, R134): UPDATE_SEQ counts on, and
the sections are of the firmware's own making, a free value. -/
def State.noteChange (s : State) (kind die : Nat) : State :=
  match s.fw.activation with
  | none => s
  | some a =>
    if a.phase = .probation ∧ a.last.kind = kind ∧ a.last.die = die then
      let old := lookupD s.fw.records die []
      let n := (s.fw.updateSeq + 1) % 2 ^ 32
      let xs := fitSections 0x100000 ((Config.handoffSections s.free).map (fun x => ⟨x.1 % 65536, x.2.1 % 65536, x.2.2⟩))
      { s with fw.updateSeq := n, fw.records := insertKV s.fw.records die (recordOf (slice old 0 16) (slice old 24 12) n xs), free := s.free + 1 }
    else s

/-- The kind of processor that owns an opcode group (R108), in the numbers of R134. -/
def groupOwner (group : Nat) : Nat := if group = 8 then 1 else if group = 9 ∨ group = 10 then 0 else 2

/-- Whether the SEC ROM serves the PCIe host mailbox: under effective code 3, in step 7 of the start-up order (R401, R473, R484). -/
def State.romServes (s : State) (dom : Dom) (opcode : Nat) : Bool :=
  decide (dom = 0x2000) && s.boot.powered && decide (s.stepOf 0 = 6) && decide (s.fld 0 .RST_STATUS_BOOTSEL_EFF = 3) &&
  (decide (opcode = 0x910) || decide (opcode < 3))

/-- The die of the processor that owns a message (R108): of the serving SCH for a session message, of the die concerned for queues, cameras, raster, power and
the gateway, DIE_0 for the rest. -/
def ownerDie (home opcode die : Nat) : Nat :=
  let g := opcode / 256
  if g = 0 then home
  else if g = 2 ∨ g = 4 ∨ g = 11 ∨ opcode = 0x600 ∨ opcode = 0x601 ∨ (0x800 ≤ opcode ∧ opcode ≤ 0x802) then die
  else 0

/-- The die that a request names, by the first bytes of its payload; 0 where it names none (R108 and the chapters' payloads). -/
def reqDie (opcode : Nat) (p : List Byte) : Nat :=
  if 0x201 ≤ opcode ∧ opcode ≤ 0x205 then leAt p 2 1 % 8
  else if opcode = 0x242 ∨ opcode = 0x243 ∨ opcode = 0x260 then bits (leAt p 0 4) 31 29
  else if opcode = 0xB02 then leAt p 0 1 / 8
  else if opcode ∈ [0x200, 0x210, 0x211, 0x240, 0x241, 0x244, 0x250, 0x251, 0x252, 0x253, 0x400, 0x401, 0x402, 0x600, 0x601, 0x800, 0x801, 0x802,
      0xB00, 0xB01, 0xB05, 0xB10, 0xB11, 0xB12, 0xB20, 0xB30] then leAt p 0 1
  else 0

/-- Whether a message waits for an update blackout (R111, R131): of the serving SCH, of its owner, or of the SEC that seals and opens the images of FN_SAVE and
FN_RESTORE. -/
def State.inBlackout (s : State) (dom : Dom) (opcode die : Nat) : Bool :=
  let h := homeOf s.part.dies dom
  s.blackout 2 h || s.blackout (groupOwner (opcode / 256)) (ownerDie h opcode die) || ((decide (opcode = 0x311) || decide (opcode = 0x312)) && s.blackout 0 0)

/-- Whether a request of a mailbox could start but for those before it (R109, R111): firmware of its die runs, the mailbox is enabled, no update
blackout holds the message, the response ring has room for the largest response, and no earlier request of the mailbox is in progress. -/
def State.ready (s : State) (dom : Dom) (opcode die : Nat) : Bool :=
  let big := match lcpOp opcode with
    | some o => ringUnits o.maxRsp
    | none => 1
  (s.fwRuns (homeOf s.part.dies dom) || s.romServes dom opcode) && s.mbEnabled dom && !s.inBlackout dom opcode die &&
  decide (s.rspHeld dom + big ≤ 256) && (s.box dom).work.isNone

/-- The request of a mailbox that takes effect next: its opcode and the die it names. -/
def State.nextReq (s : State) (dom : Dom) : Nat × Nat :=
  match (s.box dom).current with
  | some c => c
  | none =>
    let h := s.reqBytes dom 1
    (leAt h 2 2, reqDie (leAt h 2 2) (s.bytes (s.reqUnit dom 1) 16))

/-- Whether two messages may concern the same resource: neither is of the session group, and processors of one kind own them. DESIGN CHOICE
(notes/assumptions/92): which requests concern the same resource, R112 does not say. -/
def sameOwner (a b : Nat) : Bool := decide (a / 256 ≠ 0) && decide (b / 256 ≠ 0) && decide (groupOwner (a / 256) = groupOwner (b / 256))

/-- Whether a message of a mailbox has its turn: no mailbox whose doorbell came earlier has a request that could start and that may concern the same resource
(R40, R112). -/
def State.inTurn (s : State) (dom : Dom) (opcode : Nat) : Bool :=
  (s.mail.bells.takeWhile (fun e => decide (e.1 ≠ dom))).all (fun e =>
    let q := s.nextReq e.1
    !(sameOwner opcode q.1 && s.ready e.1 q.1 q.2))

/-- Whether a message of a mailbox can have its effect now (R111, R112): it is the request taken from the ring, where one is, and has its turn. -/
def State.canServe (s : State) (dom : Dom) (opcode die : Nat) : Bool :=
  s.ready dom opcode die && (s.box dom).current.all (fun c => decide (c.1 = opcode)) && s.inTurn dom opcode

/-- Messages a major-2 session may send (R122). -/
def major2Allows (opcode : Nat) : Bool :=
  decide (opcode < 5) || decide (opcode = 0x100) || decide (opcode = 0x101) || decide (opcode = 0x103) ||
  (decide (0x200 ≤ opcode) && decide (opcode ≤ 0x212)) || decide (opcode / 256 = 4) || decide (opcode / 256 = 5) ||
  decide (opcode = 0x820) || decide (opcode = 0x831)

/-- The session judgement of R116, R120 and R122: the status that refuses a request, if any. `die` is the die the request names. -/
def sessionRefusal (b : Mailbox) (r : Req) (opcode : Nat) (die : Option Nat) : Option Status :=
  if r.session.toNat = 0 then some .badMessage
  else
    match b.session with
    | none => some (if r.session.toNat ∈ b.closed then .staleGeneration else .badMessage)
    | some x =>
      if x.number ≠ r.session.toNat then some (if r.session.toNat ∈ b.closed then .staleGeneration else .badMessage)
      else if opcode / 256 ≠ 0 ∧ ¬ bit x.features (opcode / 256) then some .unsupported
      else if x.major = 2 ∧ ¬ major2Allows opcode then some .unsupported
      else if x.major = 2 ∧ die.getD 0 ≠ 0 then some .badMessage
      else none

/-- Whether the sender's session runs under the compatibility subset of R122. -/
def State.major2 (s : State) (r : Req) : Bool :=
  match (s.box r.dom).session with
  | some x => decide (x.major = 2)
  | none => false

/-- What a major-2 session may not ask (R122): a field that names another die than DIE_0 is BAD_MESSAGE, one that names Class S, or a silo or resource of Class S,
SAFETY_LOCKED. -/
def State.subsetRefusal (s : State) (r : Req) (otherDie classS : Bool) : Option Status :=
  if ¬ s.major2 r then none else if otherDie then some .badMessage else if classS then some .safetyLocked else none

/-- Whether the sender's session negotiated a feature bit (R120); firmware has every feature. -/
def State.hasFeature (s : State) (r : Req) (n : Nat) : Bool :=
  decide (r.dom = fwDom) || (match (s.box r.dom).session with
    | some x => bit x.features n
    | none => false)

/-- A request is in progress from here to its response (R111). -/
def State.begin (s : State) (r : Req) (opcode : Nat) : State :=
  (s.setBox r.dom { s.box r.dom with current := none, work := some (r, opcode) }).settle r.dom

/-- The state in which a request is handled: in progress, where it comes from a mailbox. -/
def State.handling (s : State) (r : Req) (opcode : Nat) : State := if r.dom = fwDom then s else s.begin r opcode

/-- The end of what a request does at once: its answer, where it has one yet, after the record that the serving core keeps (R132). Firmware's own requests have no
answer. -/
def State.answered (t : State) (r : Req) (opcode : Nat) (die : Option Nat) (ans : Option (Status × List Byte)) : State :=
  if r.dom = fwDom then t
  else
    let u := t.noteChange (groupOwner (opcode / 256)) (ownerDie (homeOf t.part.dies r.dom) opcode (die.getD 0))
    match ans with
    | some (st, p) => u.respond r opcode st p
    | none => u

/-- Serve a request (R111, R116). Firmware's own requests pass no mailbox. A request that cannot be started waits in its ring, and nothing changes. -/
def State.serve (s : State) (r : Req) (opcode : Nat) (die : Option Nat) (body : State → Reply) : State :=
  if r.dom ≠ fwDom ∧ ¬ s.canServe r.dom opcode (die.getD 0) then s
  else
    match (if r.dom = fwDom then none else sessionRefusal (s.box r.dom) r opcode die) with
    | some st => s.respond r opcode st []
    | none =>
      let b := body (s.handling r opcode)
      b.st.answered r opcode die b.ans

/-- Requests of a mailbox in progress whose response goes nowhere once it is closed (R113). -/
def Mailbox.pending (b : Mailbox) : List (Req × Nat) := b.orphans ++ b.work.toList

/-- Close the session of a mailbox under R113: requests not started, responses not read and indices go; the number is remembered. -/
def State.mbClose (s : State) (dom : Dom) : State :=
  let b := s.box dom
  let closed := match b.session with
    | some x => x.number :: b.closed
    | none => b.closed
  let p := pageOf dom
  let s1 := s.setBox dom { Mailbox.empty with issued := b.issued, closed := closed, orphans := b.pending }
  let s2 : State := { s1 with mail.bells := s1.mail.bells.filter (fun e => decide (e.1 ≠ dom)) }
  s2.restore (fun k => decide (k.i = p) && (match k.fld with
    | .MB_STATUS_EVT_LOST | .MB_STATUS_RING_ERR | .MB_REQ_TAIL_INDEX | .MB_REQ_HEAD_INDEX | .MB_RSP_TAIL_INDEX | .MB_RSP_HEAD_INDEX
    | .MB_EVT_LOST_LOST | .MB_NOTIFY_EN | .MB_NOTIFY_VECTOR => true
    | _ => false))

end Sys2Proof.Machine
end

