-- ==== Sys2Proof/Machine/SafeState.lean ====
section
/-!
DEFINITION. Machine/SafeState.lean: the safe state as a latch (R442 to R444), and how a source acts on it (R448, R449). The other
families call these operations.
-/
namespace Sys2Proof.Machine

/-- The minimum action of a source (R448). -/
def srcMinimum : Nat → Nat
  | 0 | 1 | 2 | 3 | 6 | 7 => 1
  | 4 | 5 | 8 | 12 => 2
  | _ => 0

/-- A SAFE_REACT image with every field raised to what R448 admits: a value below the minimum, or 3, becomes the minimum. -/
def reactRaise (w : Nat) : Nat :=
  (List.range 16).foldl (fun a i =>
    let v := (w / 4 ^ i) % 4
    a + (if v = 3 ∨ v < srcMinimum i then srcMinimum i else v) * 4 ^ i) 0

/-- The action of a source (R448). -/
def State.action (s : State) (src : Nat) : Nat := (s.fld 0 .SAFE_REACT_ACT / 4 ^ src) % 4

/-- Whether the part is standby (R434, R443). -/
def State.standby (s : State) : Bool := decide (s.fld 0 .MIRROR_STATUS_ROLE = 2)

/-- Whether the safe state holds (R442). -/
def State.isSafe (s : State) : Bool := decide (s.fld 0 .SAFE_STATUS_SAFE = 1)

/-- The conditions of the permissive level that both channels share, for a pin (R443); a released pin stands at its fuse code (R42). -/
def State.permits (s : State) (pin : Nat) : Bool :=
  decide (s.fld 0 .SAFE_CTRL_ARM = 1) && !s.isSafe && !s.standby && (lookup? s.pins.ovr (0, pin)).isNone &&
  decide (0 ∈ s.pins.applied) && decide (pin ∉ s.pins.released)

/-- The level driven on SAFE_OUT_0_N: channel 0 follows the latch (R443). -/
def State.safeOut0 (s : State) : Bool := s.permits 372

/-- The level driven on SAFE_OUT_1_N: channel 1 further needs SEC's confirmation, and follows SEC's last confirmation of the latch (R443). -/
def State.safeOut1 (s : State) : Bool := s.permits 374 && decide (s.fld 0 .SAFE_STATUS_SEC_OK = 1) && s.safe.chan1

/-- Where an entry into the safe state was detected: source, die, silo, queue and sheaf where it has them. -/
structure Entry where
  src : Nat
  die : Nat
  silo : Option Nat := none
  queue : Nat := 0xFFFFFFFF
  sheaf : Nat := 0xFFFFFFFF
deriving DecidableEq, Repr

/-- Enter the safe state (R444). An entry while it holds changes nothing but SAFE_STATUS.ENTERED and the Tithe count. -/
def State.safeEnter (s : State) (e : Entry) : State :=
  let s1 := (s.flag 0 .SAFE_STATUS_ENTERED).titheAdd 0x082 1
  if s.isSafe then s1
  else
    let s2 := s1.setFlds 0 0 [(.SAFE_STATUS_SAFE, 1), (.SAFE_STATUS_MSG_SENT, 0), (.SAFE_CAUSE_SOURCE, e.src), (.SAFE_CAUSE_DIE, e.die),
      (.SAFE_CAUSE_SILO, e.silo.getD 0), (.SAFE_CAUSE_HAS_SILO, b2n e.silo.isSome), (.SAFE_TIME_TIME, s.now)]
    let s3 := { s2 with safe.msgDue := true, safe.entry := some (e.src, e.die, e.silo) }
    s3.raise .safeState e.die 0xFF00 [(20, 1, 1), (21, 1, e.src), (22, 1, e.die), (23, 1, e.silo.getD 0xFF), (24, 4, e.queue), (28, 4, e.sheaf)]
      s3.safetyDoms

/-- One invalid output of a silo: INVALID_RUN rises, and beyond TOL the safe state is entered (R449). -/
def State.invalidOutput (s : State) (e : Entry) (d k : Nat) : State :=
  let s1 := s.addSat d .SAFE_SILO_STAT_INVALID_RUN k 1
  if s1.fld d .SAFE_SILO_STAT_INVALID_RUN k > s1.fld d .SAFE_SILO_CFG_TOL k then s1.safeEnter { e with silo := some k } else s1

/-- Count an invalid output against each affected silo. -/
def State.invalidateAll (s : State) (e : Entry) : List (Nat × Nat) → State
  | [] => s
  | (d, k) :: r => (s.invalidOutput e d k).invalidateAll e r

/-- A source without a sheaf acts with its action (R448, R449); action 1 on a source with no affected silo acts as 2. -/
def State.source (s : State) (e : Entry) (silos : List (Nat × Nat)) : State :=
  let a := s.action e.src
  if a = 0 then s
  else if a = 1 ∧ silos ≠ [] then s.invalidateAll e silos
  else s.safeEnter { e with silo := match silos with
    | (_, k) :: _ => some k
    | [] => e.silo }

/-- Every Class S silo of some dies, as (die, silo). -/
def State.classSOf (s : State) (ds : List Nat) : List (Nat × Nat) :=
  (ds.map (fun d => (s.classSSilos d).map (fun k => (d, k)))).flatten

/-- Whether a core of a die belongs to an enabled Class S silo (R69). -/
def State.coreClassS (s : State) (d core : Nat) : Bool :=
  (s.classSSilos d).any (fun k => bit (s.fld d .SILO_MASK_MASK k) core)

/-- The Class S silos of a die that hold a core. -/
def State.classSWith (s : State) (d core : Nat) : List (Nat × Nat) :=
  ((s.classSSilos d).filter (fun k => bit (s.fld d .SILO_MASK_MASK k) core)).map (fun k => (d, k))

end Sys2Proof.Machine
end

