-- ==== Sys2Proof/Machine/MemCore.lean ====
section
/-!
DEFINITION. Machine/MemCore.lean: memory as masters write it, ECC detections and logs (R136, R139, R140, R142, R147 to R152, R157), buffers
and handles (R153).
-/
namespace Sys2Proof.Machine

/-- Where a granule or burst lies: die, memory (0 Granary, 1 Loft, 2 LPDDR5X), unit (slice, 6 for the Loft, channel), bank group. -/
structure MemLoc where
  die : Nat
  mem : Nat
  unit : Nat
  bg : Nat
deriving DecidableEq, Repr

/-- The place of a physical address in Granary, Loft or LPDDR5X (R136, R140, R142). The bank group of an LPDDR5X burst is not in its address
by any rule of the spec; it is 0 here and an operand where it counts. -/
def memLoc (part : Part) (a : Nat) : Option MemLoc :=
  match decodeAddr part 0 a with
  | .granary d o => some ⟨d, 0, o / 0x5000000, o % 0x5000000 % 2048 / 64 / 8⟩
  | .loft d o => some ⟨d, 1, 6, o % 1024 / 64 / 4⟩
  | .dram d o => some ⟨d, 2, Nat.xor (bits o 10 8) (bits o 22 20), 0⟩
  | _ => none

/-- The master of an I/O DMA engine (R96, R97). -/
def ioMaster (d engine : Nat) : Master := ⟨d, .ioDma, engine, .user, false, fwDom⟩

/-- The KV table region of a die (R140, R246). -/
def kvBase (d : Nat) : Nat := loftBase d + 0x500000

/-- The mirror engine of DIE_0 (R97). -/
def isMirrorEngine (m : Master) : Bool := decide (m.kind = .ioDma) && decide (m.index = 28)

/-- Whether a master may reach a byte of memory: the spill regions are for firmware cores, and the queue at the foot of DIE_0's for the mirror engine, which reaches
nothing else (R92, R143); the queue contexts are for firmware cores, the SCH among them (R272), once SCH_QCTX_BASE places them; the KV page-table regions are for
those of R246. -/
def State.mayReach (s : State) (m : Master) (a : Nat) : Bool :=
  let contexts (d : Nat) := s.fld d .SCH_QCTX_BASE_ADDR
  let queue := decide (spillBase s.part 0 ≤ a) && decide (a < spillBase s.part 0 + 0x400000)
  if isMirrorEngine m then queue
  else
    !(s.dieList.any (fun d => decide (spillBase s.part d ≤ a) && decide (a < spillBase s.part d + 0x40000000) && decide (m.kind ≠ .firmware))) &&
    !(s.dieList.any (fun d => decide (contexts d ≠ 0) && decide (contexts d ≤ a) && decide (a < contexts d + 0x400000) && decide (m.kind ≠ .firmware))) &&
    !(s.dieList.any (fun d => decide (kvBase d ≤ a) && decide (a < kvBase d + s.fld d .LOFT_MAP_KV_MIB * 0x100000) &&
        decide (m.kind ≠ .firmware) && !(decide (m.kind = .ap) && s.guardOk m)))

/-- The first byte of a run in each 256-byte line that it touches: the regions, the routes and the access rules change at lines only (R90, R145). -/
def linesOf (a n : Nat) : List Nat := a :: ((List.range (n / 256 + 1)).map (fun i => (a / 256 + i + 1) * 256)).filter (fun x => decide (x < a + n))

/-- Why an access of a master to memory is refused, with the die that logs it (R92, R106); none when all its bytes are memory that it may reach. -/
def State.memRefusal (s : State) (m : Master) (a n : Nat) : Option (Nat × Nat) :=
  let reach (d x : Nat) (rest : Option (Nat × Nat)) : Option (Nat × Nat) :=
    match s.blocked m.die d (memLine x) with
    | some at' => some (3, at')
    | none => rest
  (linesOf a n).findSome? (fun x =>
    match decodeAddr s.part m.die x with
    | .absent => some (0, m.die)
    | .hole d => reach d x (some (1, d))
    | .pcieOut k _ => some (1, min k 1)
    | .regs d _ => some (5, d)
    | .dram d _ | .granary d _ | .loft d _ => reach d x (if s.mayReach m x then none else some (5, d)))

/-- The LPDDR5X channels that a run of bytes touches, with their dies (R142). -/
def channelsOf (part : Part) (a n : Nat) : List (Nat × Nat) :=
  (linesOf a n).filterMap (fun x => match memLoc part x with
    | some l => if l.mem = 2 then some (l.die, l.unit) else none
    | none => none)

/-- A request to a run of bytes takes the channels that it touches out of power-down (R144). -/
def State.wake (s : State) (a n : Nat) : State := { s with memy.powerDown := s.memy.powerDown.filter (fun x => decide (x ∉ channelsOf s.part a n)) }

/-- A store to memory from an address on, as R147 and R139 have it: a whole granule replaces a poisoned one, a part of one leaves it poisoned,
and a write clears AP reservations on its 64-byte granules. The write wakes the LPDDR5X channels that it touches (R144). -/
def State.write (s : State) (a : Nat) (bs : List Byte) : State :=
  if bs.isEmpty then s
  else
    let e := a + bs.length
    let t := s.putBytes a bs
    { t with
      memy.poison := t.memy.poison.filter (fun g => !(decide (a ≤ g.1) && decide (g.1 + 16 ≤ e)))
      memy.reservations := t.memy.reservations.filter (fun r => !(decide (r.2 < e) && decide (a < r.2 + 64)))
      memy.powerDown := t.memy.powerDown.filter (fun x => decide (x ∉ channelsOf t.part a bs.length)) }

/-- The poisoned granules that a run of bytes touches (R149). -/
def State.poisonIn (s : State) (a n : Nat) : List Nat :=
  (s.memy.poison.filter (fun g => decide (g.1 < a + n) && decide (a < g.1 + 16))).map (fun g => g.1)

/-- Whether a read of bytes meets a poisoned granule (R149), and the first such granule. -/
def State.poisoned (s : State) (a n : Nat) : Option Nat := (s.poisonIn a n).head?

/-- A master as an ECC detection reports it: its ID (R96), the domains it acts for (R152), and whether it is outside the silo of the bushels (R448). -/
structure Agent where
  id : Nat
  doms : List Dom
  outside : Bool
deriving DecidableEq, Repr

/-- A master by its request, and the scrubber, whose ID in the log is 0xFFF (R157). -/
def agentOf (m : Master) : Agent := ⟨masterId m, ownerDoms m, true⟩
def scrubber : Agent := ⟨0xFFF, [], true⟩

/-- The SCH of a die as a master (R96); it acts for firmware. -/
def schAgent (d : Nat) : Agent := ⟨d * 512 + 2 * 64 + 2, [], true⟩

/-- Bushels that a buffer of a length occupies (R153). -/
def bushels (len : Nat) : Nat := ceilDiv len 0x10000

/-- The silo whose bushels hold an address of Granary. -/
def State.siloAt (s : State) (a : Nat) : Option (Nat × Nat) :=
  match s.memy.bufs.find? (fun e => e.2.valid && !e.2.spilled && decide (e.2.base ≤ a) && decide (a < e.2.base + bushels e.2.length * 0x10000)) with
  | some ((d, k, _), _) => some (d, k)
  | none => none

/-- Log an ECC detection of Granary or Loft (R106, R157): the first is held, an uncorrectable one replaces a held correctable record once. -/
def State.grnLog (s : State) (d : Nat) (ue : Bool) (addr unit syndrome master origin : Nat) : State :=
  let held := decide (s.fld d .GRN_STATUS_CE = 1) || decide (s.fld d .GRN_STATUS_UE = 1)
  let s1 := s.flag d (if ue then .GRN_STATUS_UE else .GRN_STATUS_CE)
  if held ∧ ¬ (ue ∧ s.fld d .GRN_ERR_INFO_UE = 0) then s1.addSat d .GRN_STATUS_OVERFLOW 0 1
  else s1.setFlds d 0 [(.GRN_ERR_ADDR_ADDR, addr), (.GRN_ERR_INFO_UE, b2n ue), (.GRN_ERR_INFO_ORIGIN, origin), (.GRN_ERR_INFO_UNIT, unit),
    (.GRN_ERR_INFO_SYNDROME, syndrome), (.GRN_ERR_INFO_MASTER, master)]

/-- Log an LPDDR5X detection (R157). -/
def State.dramLog (s : State) (d : Nat) (ue : Bool) (addr channel bg bank rank retries master : Nat) : State :=
  let held := decide (s.fld d .DRAM_STATUS_CE = 1) || decide (s.fld d .DRAM_STATUS_UE = 1)
  let s1 := s.flag d (if ue then .DRAM_STATUS_UE else .DRAM_STATUS_CE)
  if held ∧ ¬ (ue ∧ s.fld d .DRAM_ERR_INFO_UE = 0) then s1.addSat d .DRAM_STATUS_OVERFLOW 0 1
  else s1.setFlds d 0 [(.DRAM_ERR_ADDR_ADDR, addr), (.DRAM_ERR_INFO_UE, b2n ue), (.DRAM_ERR_INFO_CHANNEL, channel), (.DRAM_ERR_INFO_BG, bg),
    (.DRAM_ERR_INFO_BANK, bank), (.DRAM_ERR_INFO_RANK, rank), (.DRAM_ERR_INFO_RETRIES, retries), (.DRAM_ERR_INFO_MASTER, master)]

/-- The correctable counter of a bank group of GRN_CE_COUNT and of DRAM_CE_COUNT. -/
def grnCe : Nat → Fld
  | 0 => .GRN_CE_COUNT_BG0 | 1 => .GRN_CE_COUNT_BG1 | 2 => .GRN_CE_COUNT_BG2 | _ => .GRN_CE_COUNT_BG3
def dramCe : Nat → Fld
  | 0 => .DRAM_CE_COUNT_BG0 | 1 => .DRAM_CE_COUNT_BG1 | 2 => .DRAM_CE_COUNT_BG2 | _ => .DRAM_CE_COUNT_BG3

/-- Add to a total of MEM_ECC_QUERY; totals 0 to 6 are Granary slices and Loft, 8 to 15 LPDDR5X channels. -/
def State.ceTotalAdd (s : State) (d u : Nat) : State :=
  { s with memy.ceTotal := insertKV s.memy.ceTotal (d, u) (satAdd 32 (lookupD s.memy.ceTotal (d, u) 0) 1) }

/-- Totals of uncorrectable errors: 0 Granary and Loft, 1 LPDDR5X. -/
def State.ueTotalAdd (s : State) (d u : Nat) : State :=
  { s with memy.ueTotal := insertKV s.memy.ueTotal (d, u) (satAdd 32 (lookupD s.memy.ueTotal (d, u) 0) 1) }

/-- EV_ECC_UE (R152): to the holder of the silo whose bushels hold the address, to PF_0 otherwise, and to the reader's domain. Class S bushels read
by the scrubber or a master outside the silo act as safety source 7 (R448). -/
def State.ueEvent (s : State) (l : MemLoc) (addr origin : Nat) (w : Agent) : State :=
  let silo := if l.mem = 0 then s.siloAt addr else none
  let holder : List Dom := match silo with
    | some (d, k) => [s.holder 2 d k]
    | none => []
  let s1 := s.raise .eccUe l.die (if w.id = 0xFFF then 0xFFFF else w.id)
    [(20, 6, addr), (26, 1, l.mem), (27, 1, l.unit), (28, 1, match silo with | some (_, k) => k | none => 0xFF), (29, 1, origin)] (holder ++ w.doms)
  match silo with
  | some (d, k) =>
    if w.outside ∧ k ∈ s1.classSSilos d then s1.source { src := 7, die := d, silo := some k } [(d, k)] else s1
  | none => s1

/-- An uncorrectable error detected in a poisoned granule of Granary or Loft (R149): counted, logged with the syndrome of its code, raised; the granule is
not altered. -/
def State.grnUe (s : State) (l : MemLoc) (g origin : Nat) (w : Agent) : State :=
  let s1 := (s.addSat l.die .GRN_UE_COUNT_COUNT 0 1).ueTotalAdd l.die 0
  (s1.grnLog l.die true g l.unit (lookupD s.memy.poison g 0) w.id origin).ueEvent l g origin w

/-- A double error that arises in a granule: the granule is poisoned from now on, under the syndrome of its code. -/
def State.poison (s : State) (g syndrome : Nat) : State :=
  { s with memy.poison := if (lookup? s.memy.poison g).isSome then s.memy.poison else s.memy.poison ++ [(g, syndrome % 512)] }

/-- A single-bit error of Granary or Loft corrected (R148). -/
def State.grnCorrected (s : State) (l : MemLoc) (addr syndrome master origin : Nat) : State :=
  ((s.addSat l.die (grnCe l.bg) l.unit 1).ceTotalAdd l.die l.unit).grnLog l.die false addr l.unit syndrome master origin

/-- A detection at a poisoned granule, of Granary or Loft: ORIGIN 0 by a read, 1 by a partial write (R149, R152). -/
def State.detect (s : State) (w : Agent) (origin g : Nat) : State :=
  match memLoc s.part g with
  | some l => if l.mem < 2 then s.grnUe l g origin w else s
  | none => s

/-- An uncorrectable error met while a master reads a poisoned granule. -/
def State.readUe (s : State) (g : Nat) (w : Agent) : State := s.detect w 0 g

/-- A master's store (R147, R149): the merge of a part into a poisoned granule detects the error, and its code stays. -/
def State.store (s : State) (w : Agent) (a : Nat) (bs : List Byte) : State :=
  (((s.poisonIn a bs.length).filter (fun g => !(decide (a ≤ g) && decide (g + 16 ≤ a + bs.length)))).foldl (fun t g => t.detect w 1 g) s).write a bs

/-- Stores in order. -/
def State.stores (s : State) (w : Agent) (l : List (Nat × List Byte)) : State := l.foldl (fun t x => t.store w x.1 x.2) s

/-- The bytes of a run of addresses that follow one another, gathered from single bytes in order (R427). -/
def gather : List (Nat × Byte) → List (Nat × List Byte)
  | [] => []
  | (a, b) :: r =>
    match gather r with
    | (a', bs) :: t => if a' = a + 1 then (a, b :: bs) :: t else (a, [b]) :: (a', bs) :: t
    | [] => [(a, [b])]

/-- The parts of a handle (R153). -/
def handleDie (h : Nat) : Nat := bits h 31 29
def handleSilo (h : Nat) : Nat := bits h 28 25
def handleGen (h : Nat) : Nat := bits h 24 10
def handleIdx (h : Nat) : Nat := bits h 9 0

/-- Make a handle. -/
def mkHandle (d k gen i : Nat) : Nat := d * 2 ^ 29 + k * 2 ^ 25 + (gen % 2 ^ 15) * 2 ^ 10 + i

/-- The buffer that a handle names, unless it is stale (R153). -/
def State.bufOf (s : State) (h : Nat) : Option BufEnt :=
  match lookup? s.memy.bufs (handleDie h, handleSilo h, handleIdx h) with
  | some e => if e.valid ∧ e.gen % 2 ^ 15 = handleGen h then some e else none
  | none => none

/-- The die whose silo the bushels of a handle serve: that of the handle, or the one to which a restore took its function (R153, R313). -/
def State.bufDie (s : State) (h : Nat) : Nat := lookupD s.memy.carried (handleDie h, handleSilo h, handleIdx h) (handleDie h)

/-- Put an entry into a buffer table. -/
def State.setBuf (s : State) (d k i : Nat) (e : BufEnt) : State := { s with memy.bufs := insertKV s.memy.bufs (d, k, i) e }

/-- The table entry as R153 lays it out. -/
def BufEnt.bytes (e : BufEnt) : List Byte :=
  leBytes 6 e.base ++ leBytes 1 (b2n e.valid + 2 * b2n e.spilled + 4 * b2n e.pinned + 8 * b2n e.moving) ++ leBytes 1 e.slice ++
  leBytes 4 e.length ++ leBytes 2 e.gen ++ leBytes 2 0

/-- The CCC of the cluster of an address as a master (R96, R97): a firmware core of its die. -/
def cccAgent (part : Part) (a : Nat) : Agent :=
  match memLoc part a with
  | some l => ⟨l.die * 512 + 128 + 3 + l.unit % 6, [], true⟩
  | none => ⟨0, [], true⟩

/-- Bytes within the memory moved by firmware: those listed in a range stand in another, which reads zero elsewhere. Whole granules are written (R147), and AP
reservations on them end (R139). -/
def State.moveBytes (s : State) (src dst n : Nat) : State :=
  let here := s.mem.filter (fun e => decide (src ≤ e.1) && decide (e.1 < src + n))
  let s1 := here.foldl (fun (t : State) e => t.putByte (dst + (e.1 - src)) e.2) (s.zeroBytes dst n)
  { s1 with
    memy.poison := s1.memy.poison.filter (fun g => !(decide (dst ≤ g.1) && decide (g.1 + 16 ≤ dst + n)))
    memy.reservations := s1.memy.reservations.filter (fun r => !(decide (dst < r.2 + 64) && decide (r.2 < dst + n))) }

/-- The CCC copies a buffer (R154). What a poisoned granule yields is free, and its read is an uncorrectable error of the CCC (R149); both ranges take their channels
out of power-down (R144). -/
def State.copyMem (s : State) (src dst n : Nat) : State :=
  let bad := s.memy.poison.filter (fun g => decide (src ≤ g.1) && decide (g.1 + 16 ≤ src + n))
  bad.foldl (fun (t : State) g =>
    let (v, t1) := t.fresh
    (t1.putBytes (dst + (g.1 - src)) (leBytes 16 v)).readUe g.1 (cccAgent s.part g.1)) (((s.wake src n).wake dst n).moveBytes src dst n)

end Sys2Proof.Machine
end

