-- ==== Sys2Proof/Machine/Picture.lean ====
section
/-!
DEFINITION. Machine/Picture.lean: images as the raster units and the display engine keep them (R320 to R324, R327): descriptors, tiles and blocks, block states and
the lossless compression of a block.
-/
namespace Sys2Proof.Machine

/-- Bits of each channel of an image format, least significant first (R321); none for a reserved format. -/
def imgChannels : Nat → List Nat
  | 1 | 2 | 3 => [8, 8, 8, 8] | 4 => [10, 10, 10, 2] | 5 => [16, 16, 16, 16] | 6 | 0x10 => [32] | 7 | 0x12 => [8] | 0x11 => [16] | _ => []

/-- Bytes per pixel of a format (R321). -/
def imgB (fmt : Nat) : Nat := (imgChannels fmt).foldl (fun a b => a + b) 0 / 8

/-- An image descriptor (R327). -/
structure RasImage where
  loc : Nat
  width : Nat
  height : Nat
  format : Nat
  load : Nat
  store : Bool
  hasMeta : Bool
  metaLoc : Nat
  clear : Nat
  zeros : Bool
deriving DecidableEq, Repr

/-- Read an image descriptor. -/
def rasImage (b : List Byte) : RasImage :=
  let ops := leAt b 13 1
  ⟨leAt b 0 8, leAt b 8 2, leAt b 10 2, leAt b 12 1, ops % 4, bit ops 2, bit ops 3, leAt b 16 8, leAt b 24 8, decide (ops / 16 = 0) && decide (leAt b 14 2 = 0)⟩

namespace RasImage

/-- Tile columns and rows (R320). -/
def tw (i : RasImage) : Nat := ceilDiv i.width 32
def th (i : RasImage) : Nat := ceilDiv i.height 32

/-- Bytes of one level's data and of its metadata (R320). -/
def dataLen (i : RasImage) : Nat := i.tw * i.th * 1024 * imgB i.format
def metaLen (i : RasImage) : Nat := i.tw * i.th * 16

/-- The image of mip level `l` of a texture, without its place. -/
def level (i : RasImage) (l : Nat) : RasImage := { i with width := max 1 (i.width / 2 ^ l), height := max 1 (i.height / 2 ^ l) }

/-- Bytes from the start of a texture of `n` levels to the end of the last (R320). -/
def levelsLen (len : RasImage → Nat) (i : RasImage) (n : Nat) : Nat :=
  (List.range n).foldl (fun a l => ceilDiv a 64 * 64 + len (i.level l)) 0

/-- Every field of the descriptor has a defined value (R329). -/
def ok (i : RasImage) : Bool :=
  decide (1 ≤ i.width) && decide (i.width ≤ 8192) && decide (1 ≤ i.height) && decide (i.height ≤ 8192) && decide (imgChannels i.format ≠ []) &&
  decide (i.load ≤ 2) && i.zeros && (bit i.loc 63 || decide (i.loc < 2 ^ 48)) && (!i.hasMeta || bit i.metaLoc 63 || decide (i.metaLoc < 2 ^ 48))

/-- Index of a block in the image, and whether any of its pixels lies in the image (R320): block column and row counted over the whole image. -/
def blockIdx (i : RasImage) (x y : Nat) : Nat := ((y / 4) * i.tw + x / 4) * 16 + 4 * (y % 4) + x % 4
def blockIn (i : RasImage) (x y : Nat) : Bool := decide (8 * x < i.width) && decide (8 * y < i.height)

/-- Blocks of a range of tiles that hold pixels of the image: column and row. -/
def blocks (i : RasImage) (x0 y0 x1 y1 : Nat) : List (Nat × Nat) :=
  ((rangeFrom (4 * y0) (4 * (y1 - y0))).flatMap (fun y => (rangeFrom (4 * x0) (4 * (x1 - x0))).map (fun x => (x, y)))).filter (fun b => i.blockIn b.1 b.2)

end RasImage

/-- The pixels of a block (R322, R323) at an address, under its metadata byte. -/
def blockStep (n : Nat) (st : List Nat × List Byte × Nat) (w : Nat) : List Nat × List Byte × Nat :=
  let k := ceilDiv w 8
  let least := leAt st.2.1 0 k
  let r := leAt st.2.1 k 1
  let packed := leNat (slice st.2.1 (k + 1) (8 * r))
  let ps := st.1.mapIdx (fun i v => v + 2 ^ st.2.2 * ((least + packed / 2 ^ (r * i) % 2 ^ r) % 2 ^ w))
  (ps.take n, st.2.1.drop (k + 1 + 8 * r), st.2.2 + w)

/-- The 64 pixels of a block: from its metadata byte, its bytes, and the image's CLEAR value. -/
def decodeBlock (fmt clear meta_ : Nat) (bs : List Byte) : List Nat :=
  let b := imgB fmt
  match bits meta_ 7 6 with
  | 0 => List.replicate 64 (clear % 2 ^ (8 * b))
  | 1 => ((imgChannels fmt).foldl (blockStep 64) (List.replicate 64 0, bs, 0)).1
  | _ => (List.range 64).map (fun i => leAt bs (b * i) b)

/-- One channel of a compressed block (R323). -/
def packChannel (w : Nat) (vs : List Nat) : List Byte :=
  let least := vs.foldl min (2 ^ w - 1)
  let r := clog2 (vs.foldl (fun a v => max a (v - least)) 0 + 1)
  leBytes (ceilDiv w 8) least ++ leBytes 1 r ++ leBytes (8 * r) (vs.foldr (fun v a => (v - least) + 2 ^ r * a) 0)

/-- The channels of a compressed block in turn: the pixels with the lower channels shifted out, and the bytes. -/
def packStep (st : List Nat × List Byte) (w : Nat) : List Nat × List Byte :=
  (st.1.map (fun v => v / 2 ^ w), st.2 ++ packChannel w (st.1.map (fun v => v % 2 ^ w)))

/-- A block as a store writes it (R323, R324): its metadata byte and its bytes. Bytes that fill the last unit of 32 are a free value. -/
def encodeBlock (fmt : Nat) (compress : Bool) (ps : List Nat) : Nat × List Byte :=
  let raw := ps.flatMap (fun v => leBytes (imgB fmt) v)
  let c := ((imgChannels fmt).foldl packStep (ps, [])).2
  let units := ceilDiv c.length 32
  if compress ∧ units * 32 < raw.length then (0x40 + units, c ++ leBytes (units * 32 - c.length) (Config.padBits (leNat c))) else (0x80, raw)

/-- The bytes of a block that a reader takes, at the place of its data, by its metadata byte: none of a CLEAR block, SIZE units of a COMPRESSED one (R322). -/
def blockRun (fmt meta_ a : Nat) : List (Nat × Nat) :=
  match bits meta_ 7 6 with
  | 0 => []
  | 1 => [(a, 32 * bits meta_ 5 0)]
  | _ => [(a, 64 * imgB fmt)]

/-- A picture in memory: its descriptor, and the places of its data and of its metadata. -/
structure Picture where
  img : RasImage
  base : Nat
  metaBase : Nat
deriving DecidableEq, Repr

/-- Where block (x, y) of a picture lies. -/
def Picture.blockAt (i : Picture) (x y : Nat) : Nat := i.base + i.img.blockIdx x y * 64 * imgB i.img.format

/-- The metadata byte of a block; without metadata every block is UNCOMPRESSED (R324). -/
def State.blockMeta (s : State) (i : Picture) (x y : Nat) : Nat := if i.img.hasMeta then (s.byte (i.metaBase + i.img.blockIdx x y)).toNat else 0x80

/-- The pixels of a block of a picture. -/
def State.blockPixels (s : State) (i : Picture) (x y : Nat) : List Nat :=
  decodeBlock i.img.format i.img.clear (s.blockMeta i x y) (s.bytes (i.blockAt x y) (64 * imgB i.img.format))

/-- What a reader of a block reads: its metadata byte, and the data that it names. -/
def State.blockReads (s : State) (i : Picture) (x y : Nat) : List (Nat × Nat) :=
  (if i.img.hasMeta then [(i.metaBase + i.img.blockIdx x y, 1)] else []) ++ blockRun i.img.format (s.blockMeta i x y) (i.blockAt x y)

end Sys2Proof.Machine
end

