-- ==== Sys2Proof/Machine/ResetReq.lean ====
section
/-!
DEFINITION. Machine/ResetReq.lean: reset requests, hold-off and merging (R64, R65, R70, R72, R75).
-/
namespace Sys2Proof.Machine

/-- Whether a target contains another (R70). -/
def contains : ResetTarget → ResetTarget → Bool
  | .package, _ => true
  | .die d, .die e => decide (d = e)
  | .die d, .cluster e _ => decide (d = e)
  | .die d, .ap e _ => decide (d = e)
  | .cluster d c, .cluster e b => decide (d = e) && decide (c = b)
  | .ap d a, .ap e b => decide (d = e) && decide (a = b)
  | _, _ => false

/-- Whether two targets share a part. -/
def overlaps (a b : ResetTarget) : Bool := contains a b || contains b a

/-- The scope code of a target (R89): 0 package, 1 die, 2 cluster, 3 AP. -/
def scopeCode : ResetTarget → Nat
  | .package => 0
  | .die _ => 1
  | .cluster _ _ => 2
  | .ap _ _ => 3

/-- The TARGET field of RST_CAUSE (R89). -/
def targetCode : ResetTarget → Nat
  | .cluster _ c => c
  | .ap _ a => a
  | _ => 0

/-- A request of die scope that names DIE_0 is a package reset (R65). -/
def widen : ResetTarget → ResetTarget
  | .die 0 => .package
  | t => t

/-- Dies a reset reaches. -/
def reachedDies (dies : Nat) : ResetTarget → List Nat
  | .package => List.range dies
  | .die d => [d]
  | .cluster d _ => [d]
  | .ap d _ => [d]

/-- Whether the part has a target. -/
def State.hasTarget (s : State) : ResetTarget → Bool
  | .package => true
  | .die d => s.hasDie d
  | .cluster d c => s.hasDie d && decide (c < 6)
  | .ap d a => s.hasDie d && decide (a < 4)

/-- Whether the trim load of a die in a target runs (R75). -/
def State.trimRuns (s : State) (t : ResetTarget) : Bool :=
  (reachedDies s.part.dies t).any (fun d => decide (d ∈ s.boot.loading))

/-- Whether a warm reset is held pending: a hold-off covers part of its target, or a trim load runs (R72, R75). -/
def State.mustHold (s : State) (t : ResetTarget) : Bool := s.boot.holdoff.any (overlaps t) || s.trimRuns t

/-- Request a warm reset (R64, R72, R75). Nothing is requested while power-on detection holds the part. -/
def State.requestReset (s : State) (cause : Nat) (t : ResetTarget) (srcDie : Nat) : State :=
  if ¬ s.boot.powered then s
  else
    let q : ResetReq := ⟨cause, widen t, srcDie, false⟩
    if s.mustHold q.target then { s with boot.held := s.boot.held ++ [q] }
    else { s with boot.due := s.boot.due ++ [q] }

/-- Join a request with the groups of pending requests that it overlaps (R70). -/
def joinGroup (q : ResetReq) (gs : List (List ResetReq)) : List (List ResetReq) :=
  let hit := gs.filter (fun g => g.any (fun x => overlaps x.target q.target))
  let miss := gs.filter (fun g => !g.any (fun x => overlaps x.target q.target))
  if hit = [] then gs ++ [[q]] else miss ++ [hit.flatten ++ [q]]

/-- One reset for a group: the widest scope in it, with the cause of the later request of that scope (R70). -/
def collapse (g : List ResetReq) : Option ResetReq :=
  let w := g.foldl (fun a q => min a (scopeCode q.target)) 4
  match (g.filter (fun q => decide (scopeCode q.target = w))).getLast? with
  | some q => some { q with merged := q.merged || decide (2 ≤ g.length) }
  | none => none

/-- The groups of joined pending requests (R70). -/
def resetGroups (qs : List ResetReq) : List (List ResetReq) := qs.foldl (fun gs q => joinGroup q gs) []

/-- Groups of joined requests of which none is held any longer join those that are due, each as one reset; a request joined with one still held waits with
it (R70, R72, R75). -/
def State.freeHeld (s : State) : State :=
  let stuck := ((resetGroups s.boot.held).filter (fun g => g.any (fun q => s.mustHold q.target))).flatten
  let go := (resetGroups s.boot.held).filter (fun g => g.all (fun q => !s.mustHold q.target))
  { s with boot.held := s.boot.held.filter (fun q => decide (q ∈ stuck)), boot.due := s.boot.due ++ go.filterMap collapse }

/-- A die whose hardware has tripped: it stays in reset through a warm reset of the package (R495). -/
def State.tripped (s : State) (d : Nat) : Bool := decide (s.fld d .PWR_STATUS_TRIP = 1)

/-- A tripped die other than DIE_0 that stands in reset: it takes no part in a start-up or a restore. -/
def State.leftOut (s : State) (d : Nat) : Bool := decide (d ≠ 0) && s.tripped d && decide (s.stepOf d = 0)

/-- The trim loads that the release of a reset starts (R73, R75): of every die of its scope that has not tripped; a cluster or AP has none. -/
def State.startLoad (s : State) (t : ResetTarget) : State :=
  match t with
  | .package | .die _ =>
    { s with boot.loading := s.boot.loading ++ (reachedDies s.part.dies t).filter (fun d => decide (d ∉ s.boot.loading) && !s.tripped d) }
  | _ => s

/-- The release of a reset (R72, R73): its hold-off begins and its start-up order begins. -/
def State.released (s : State) (t : ResetTarget) : State :=
  { s with boot.holdoff := if t ∈ s.boot.holdoff then s.boot.holdoff else s.boot.holdoff ++ [t] }.startLoad t

/-- Set the start-up step of a die. -/
def State.setStep (s : State) (d n : Nat) : State := { s with boot.step := insertKV s.boot.step d n }

end Sys2Proof.Machine
end

