-- ==== Sys2Proof/Machine/Time.lean ====
section
/-!
DEFINITION. Machine/Time.lean: time bases and triggers (R369 to R389).
-/
namespace Sys2Proof.Machine

/-- One nanosecond in the units of a time base (R369: 16 visible and 32 hidden bits of fraction). -/
def nsUnit : Nat := 2 ^ 48

/-- The first setting that R370 refuses, in nanoseconds. -/
def settingLimit : Nat := 2 ^ 34 * 1000000000

/-- The limit of ADJ, 500 ppm (R369). -/
def adjLimit : Int := 549755814

/-- Clamp to the limit of R369. -/
def clampAdj (x : Int) : Int := if x > adjLimit then adjLimit else if x < -adjLimit then -adjLimit else x

/-- The live value of a time base in units of 2⁻⁴⁸ ns. -/
def State.live (s : State) (k : Nat) : Nat := lookupD s.time.live k 0

/-- Set the live value of a time base. -/
def State.setLive (s : State) (k v : Nat) : State := { s with time.live := insertKV s.time.live k v }

/-- A signed 32-bit field of DIE_0. -/
def State.int32 (s : State) (f : Fld) (k : Nat) : Int := toSigned 32 (s.fld 0 f k)

/-- Whether a time base counts: enabled, and TB_0 from the end of step 5 (R371). -/
def State.tbRuns (s : State) (k : Nat) : Bool :=
  s.boot.powered && decide (5 ≤ s.stepOf 0) && decide (s.fld 0 .TB_CFG_EN k = 1)

/-- One TREF_PLL cycle of a time base: 2 ns × (1 + ADJ × 2⁻⁴⁰) (R369). -/
def State.tbTick (s : State) (k : Nat) : State :=
  if s.tbRuns k then s.setLive k ((s.live k : Int) + 2 ^ 49 + s.int32 .TB_ADJ_ADJ k * 512).toNat else s

/-- One TREF_PLL cycle of the package: every time base counts, and a PPS_OUT pulse runs down (R369, R383). -/
def State.tick (s : State) : State :=
  let s1 := (List.range 8).foldl State.tbTick s
  { s1 with time.ticks := s1.time.ticks + 1, time.ppsLeft := s1.time.ppsLeft - 1 }

/-- The holder of a time base: firmware for TB_0 (R388). -/
def State.tbHolder (s : State) (k : Nat) : Dom := if k = 0 then fwDom else s.holder 8 0 k

/-- Raise an event of a time base, trigger or compare register to its holder (R387). -/
def State.timeEvent (s : State) (e : Ev) (h : Dom) (k : Nat) (fs : List (Nat × Nat × Nat)) : State :=
  s.raise e 0 h.toNat ((20, 1, k) :: fs) [h]

/-- The first grid point of a periodic trigger later than a time (R380). -/
def nextPoint (start period now : Nat) : Nat :=
  if now < start then start else start + ((now - start) / period + 1) * period

/-- Set or clear the next fire of a trigger. -/
def State.setNext (s : State) (n : Nat) (v : Option Nat) : State :=
  { s with time.next := match v with
    | some t => insertKV s.time.next n t
    | none => eraseK s.time.next n }

/-- One fire of a trigger (R382, R377, R355): COUNT, the pulse, the interrupt sources 256 + n on every die, the time on each time base and the distance
counters at the fire. -/
def State.fire (s : State) (n : Nat) : State :=
  let s1 := s.setFld 0 .TRG_COUNT_COUNT n (s.fld 0 .TRG_COUNT_COUNT n + 1)
  let s2 := if s1.fld 0 .TRG_CFG_PIN n = 1 then
      { s1 with time.pulse := if n ∈ s1.time.pulse then s1.time.pulse else s1.time.pulse ++ [n] } else s1
  let s3 := { s2 with time.fireAt := insertKV s2.time.fireAt n ((List.range 8).map s2.tbNs),
                      time.fireDist := insertKV s2.time.fireDist n ((List.range 4).map (fun c => s2.fld 0 .ODO_DIST_DIST c)) }
  if s3.fld 0 .TRG_CFG_CTRL n = 1 then s3.dieList.foldl (fun t d => t.pulse d (256 + n)) s3 else s3

/-- Count points that a trigger missed, and raise EV_TRG_MISSED (R380, R381). -/
def State.missed (s : State) (n k : Nat) : State :=
  if k = 0 then s
  else (s.addSat 0 .TRG_MISSED_COUNT n k).timeEvent .trgMissed (s.holder 9 0 n) n [(24, 4, min k 0xFFFFFFFF)]

/-- Compute the next fire of a trigger when it is enabled or rewritten (R380, R382); a one-shot whose START is past fires at once. -/
def State.trgArm (s : State) (n : Nat) : State :=
  let k := s.fld 0 .TRG_CFG_SRC n
  let start := s.fld 0 .TRG_START_START n
  let period := s.fld 0 .TRG_PERIOD_PERIOD n
  match s.fld 0 .TRG_CFG_MODE n with
  | 1 => if s.tbRuns k ∧ start ≤ s.tbNs k then (s.fire n).setNext n none else s.setNext n (some start)
  | 2 => if period = 0 then s.setNext n none else s.setNext n (some (nextPoint start period (s.tbNs k)))
  | 3 => { s.setNext n none with time.last := insertKV s.time.last n (toSigned 64 (s.fld 0 .ODO_DIST_DIST (k % 4))) }
  | _ => s.setNext n none

/-- What a step of its time base does to one trigger (R380). `forward` tells whether the time rose. -/
def State.trgAfterStep (k : Nat) (s : State) (n : Nat) : State :=
  if s.fld 0 .TRG_CFG_SRC n ≠ k then s
  else
    match s.fld 0 .TRG_CFG_MODE n, lookup? s.time.next n with
    | 2, some t =>
      let period := s.fld 0 .TRG_PERIOD_PERIOD n
      let now := s.tbNs k
      if period = 0 then s
      else
        (s.setNext n (some (nextPoint (s.fld 0 .TRG_START_START n) period now))).missed n
          (if t ≤ now then (now - t) / period + 1 else 0)
    | 1, some t => if s.tbRuns k ∧ t ≤ s.tbNs k then (s.fire n).setNext n none else s
    | _, _ => s

/-- Move a time base to a value and bring its triggers to the new time. -/
def State.moveTo (s : State) (k v : Nat) : State :=
  (List.range 32).foldl (State.trgAfterStep k) (s.setLive k v)

/-- A step of a time base (R374, R376): I is kept, ADJ is I, STEPPED sets, EV_TB_STEP carries the difference in ns. One that is not enabled holds its value (R371;
DEDUCED, notes/assumptions/106). -/
def State.tbStepTo (s : State) (k v : Nat) : State :=
  if ¬ s.tbRuns k then s
  else
  let diff := divRne ((v : Int) - (s.live k : Int)) (nsUnit : Nat)
  let s1 := s.setFld 0 .TB_ADJ_ADJ k (s.fld 0 .TB_INTEG_I k)
  let s2 := s1.setFld 0 .TB_STATUS_STEPPED 0 (setBit (s1.fld 0 .TB_STATUS_STEPPED) k)
  let s3 := { s2 with time.lastOffset := eraseK s2.time.lastOffset k }
  (s3.timeEvent .tbStep (s3.tbHolder k) k [(24, 8, ofSigned 64 (clampSigned 64 diff))]).moveTo k v

/-- Enter holdover (R375): cause 0 source lost, 1 clock failure. -/
def State.enterHoldover (s : State) (k cause : Nat) : State :=
  if s.fld 0 .TB_CFG_HOLDOVER k = 1 then
    { s with time.holdCause := insertKV s.time.holdCause k (max cause (lookupD s.time.holdCause k 0)) }
  else
    let s1 := s.setFlds 0 k [(.TB_ADJ_ADJ, s.fld 0 .TB_INTEG_I k), (.TB_CFG_HOLDOVER, 1), (.TB_CFG_DEGRADED, 1)]
    let s2 := s1.setFld 0 .TB_STATUS_HOLD 0 (setBit (s1.fld 0 .TB_STATUS_HOLD) k)
    let s3 := { s2 with time.lastOffset := eraseK s2.time.lastOffset k, time.holdCause := insertKV s2.time.holdCause k cause }
    s3.timeEvent .tbHoldover (s3.tbHolder k) k [(21, 1, cause), (22, 1, 1)]

/-- Leave holdover (R375). -/
def State.leaveHoldover (s : State) (k : Nat) : State :=
  if s.fld 0 .TB_CFG_HOLDOVER k = 0 then s
  else
    let s1 := s.setFlds 0 k [(.TB_CFG_HOLDOVER, 0), (.TB_CFG_DEGRADED, 0)]
    let s2 := s1.setFld 0 .TB_STATUS_HOLD 0 (clearBit (s1.fld 0 .TB_STATUS_HOLD) k)
    s2.timeEvent .tbHoldover (s2.tbHolder k) k [(21, 1, lookupD s2.time.holdCause k 0), (22, 1, 0)]

/-- Every enabled time base enters holdover at a clock failure (R375). -/
def State.clockHoldover (s : State) : State :=
  (List.range 8).foldl (fun t k => if t.tbRuns k then t.enterHoldover k 1 else t) s

/-- TREF_HOLD clears: the free-running time bases leave holdover (R375). -/
def State.trefBack (s : State) : State :=
  (List.range 8).foldl (fun t k => if t.fld 0 .TB_CFG_SRC k = 0 then t.leaveHoldover k else t) s

/-- Whether a step by an offset stays within R370. -/
def State.stepFits (s : State) (k : Nat) (theta : Int) : Bool :=
  decide (0 ≤ (s.live k : Int) + theta) && decide ((s.live k : Int) + theta < (settingLimit * nsUnit : Nat))

/-- TREF_PLL cycles since the last accepted offset, clamped to 0.001 s to 16 s; 1 s for the first (R374). -/
def State.servoCycles (s : State) (k : Nat) : Nat :=
  match lookup? s.time.lastOffset k with
  | none => 500000000
  | some t => max 500000 (min 8000000000 (s.time.ticks - t))

/-- The PI servo of R374 on an offset in units of 2⁻⁴⁸ ns: r, then I, then ADJ, each rounded to nearest and clamped. -/
def State.servo (s : State) (k : Nat) (theta : Int) : State :=
  let r := divRne theta ((512 * s.servoCycles k : Nat) : Int)
  let i := clampAdj (s.int32 .TB_INTEG_I k + divRne ((s.fld 0 .TB_GAIN_KI k : Int) * r) 65536)
  let adj := clampAdj (i + divRne ((s.fld 0 .TB_GAIN_KP k : Int) * r) 65536)
  let s1 := s.setFlds 0 k [(.TB_INTEG_I, ofSigned 32 i), (.TB_ADJ_ADJ, ofSigned 32 adj)]
  { s1 with time.lastOffset := insertKV s1.time.lastOffset k s1.time.ticks }

/-- An offset reaches a time base (R374, R375), in units of 2⁻⁴⁸ ns; whether it was refused as a step. -/
def State.offset (s : State) (k : Nat) (theta : Int) : State × Bool :=
  if s.fld 0 .CLK_STATUS_TREF_HOLD = 1 ∨ ¬ s.tbRuns k then (s, false)
  else if theta.natAbs > 1000000 * nsUnit then
    if s.stepFits k theta then
      let s1 := (s.leaveHoldover k).setFld 0 .TB_LAST_OFF_THETA k (ofSigned 32 (clampSigned 32 (divRne theta (nsUnit : Nat))))
      (s1.tbStepTo k ((s1.live k : Int) + theta).toNat, false)
    else (s.flag 0 .TB_STATUS_BADCFG, true)
  else
    let s1 := (s.leaveHoldover k).setFld 0 .TB_LAST_OFF_THETA k (ofSigned 32 (clampSigned 32 (divRne theta (nsUnit : Nat))))
    (s1.servo k theta, false)

/-- The offset that a PPS_IN edge yields: the stamp less the delay, against the nearest whole second, 0.5 s rounding up (R374). -/
def State.ppsTheta (s : State) (k : Nat) : Int :=
  let t : Int := (s.live k : Int) - s.int32 .PPS_IN_DELAY_DELAY 0 * (nsUnit : Nat)
  let second : Int := ((1000000000 * nsUnit : Nat) : Int)
  (t + second / 2) / second * second - t

/-- PPS_IN_EDGE: every enabled time base with SRC 2 takes its offset. -/
def execPpsInEdge (s : State) : Out :=
  .next ((List.range 8).foldl (fun t k =>
    if t.tbRuns k ∧ t.fld 0 .TB_CFG_SRC k = 2 then (t.offset k (t.ppsTheta k)).1 else t) s)

/-- HOLDOVER_TIMEOUT: no offset has been accepted for HOLD_S seconds (R375). -/
def execHoldoverTimeout (k : Nat) (s : State) : Out :=
  if k < 8 then
    .next (if s.tbRuns k ∧ (s.fld 0 .TB_CFG_SRC k = 1 ∨ s.fld 0 .TB_CFG_SRC k = 2) then s.enterHoldover k 0 else s)
  else .next s

/-- REPLICA_ALIGN: at a 1 µs boundary of TB_0 the replica of every die whose ports are not isolated is aligned (R372). -/
def execReplicaAlign (s : State) : Out :=
  .next { s with time.replicas := s.dieList.filter (fun d => !s.isolated d) }

/-- TIME_TRIGGER_FIRE: the time base has reached the fire time (R380, R382). -/
def execTimeTriggerFire (n : Nat) (s : State) : Out :=
  if 32 ≤ n then .next s
  else
    let k := s.fld 0 .TRG_CFG_SRC n
    match lookup? s.time.next n with
    | some t =>
      if s.tbRuns k ∧ t ≤ s.tbNs k then
        .next ((s.fire n).setNext n (if s.fld 0 .TRG_CFG_MODE n = 2 then some (t + s.fld 0 .TRG_PERIOD_PERIOD n) else none))
      else .next s
    | none => .next s

/-- TRIGGER_PULSE_END: the pulse of TRIG_OUT_n ends (R382). -/
def execTriggerPulseEnd (n : Nat) (s : State) : Out :=
  if n < 32 then .next { s with time.pulse := s.time.pulse.filter (fun x => decide (x ≠ n)) } else .next s

/-- PPS_OUT_PULSE: the time base of PPS_OUT reaches a whole second (R383). -/
def execPpsOutPulse (s : State) : Out :=
  .next (if s.fld 0 .PPS_OUT_CFG_EN = 1 ∧ s.tbRuns (s.fld 0 .PPS_OUT_CFG_TB) then
    { s with time.ppsLeft := s.fld 0 .PPS_OUT_CFG_WIDTH } else s)

/-- The level driven on TRIG_OUT_n, if it is driven (R382). -/
def State.trigOut (s : State) (n : Nat) : Option Bool :=
  let pol := decide (s.fld 0 .TRG_CFG_POL n = 1)
  if n ∈ s.time.pulse then some (!pol)
  else if s.fld 0 .TRG_CFG_PIN n = 1 ∧ s.fld 0 .TRG_CFG_MODE n ≠ 0 then some pol else none

/-- sdiff of R385. -/
def sdiff (n a b : Nat) : Int := toSigned n ((a + 2 ^ n - b % 2 ^ n) % 2 ^ n)

/-- Whether a compare register has reached its value (R384). -/
def State.cmpReached (s : State) (k : Nat) : Bool :=
  let tb := s.fld 0 .CMP32_CFG_TB k
  let d := sdiff 32 (s.tbSec tb % 2 ^ 32) (s.fld 0 .CMP32_SEC_SEC k)
  decide (d > 0) || (decide (d = 0) && decide (s.fld 0 .CMP32_NSEC_NSEC k ≤ s.tbNsec tb))

/-- CMP32_MATCH (R384): once after NSEC is written. -/
def execCmp32Match (k : Nat) (s : State) : Out :=
  if 8 ≤ k then .next s
  else if s.fld 0 .CMP32_CFG_EN k = 1 ∧ k ∈ s.time.armed ∧ s.cmpReached k then
    let s1 := s.flag 0 .CMP32_STATUS_MATCH k
    let s2 := s1.dieList.foldl (fun t d => t.pulse d (288 + k)) { s1 with time.armed := s1.time.armed.filter (fun x => decide (x ≠ k)) }
    .next (s2.timeEvent .cmp32 (s2.holder 0xA 0 k) k [])
  else .next s

/-- Pin index of GPIO_n (R28, R44). -/
def gpioPin (n : Nat) : Nat := if n < 16 then 168 + n else 176 + n

/-- TSCAP_EDGE: an edge at GPIO_n with FUNC 2 is stamped (R377, R378). -/
def execTscapEdge (d n : Nat) (rising : Bool) (s : State) : Out :=
  if ¬ s.hasDie d ∨ 32 ≤ n then .next s
  else
    let e := s.fld d .TSCAP_CFG_EDGE n
    let s := s.setPad d (gpioPin n) rising
    if s.fld d .TSCAP_CFG_EN n = 1 ∧ s.fld d .PINCFG_FUNC (gpioPin n) = 2 ∧ (e = 2 ∨ e = (if rising then 0 else 1)) then
      let s1 := if s.fld d .TSCAP_STATUS_VALID n = 1 then s.flag d .TSCAP_STATUS_OVERRUN n else s
      .next (s1.setFlds d n [(.TSCAP_STAMP_TIME, s1.tbNs (s1.fld d .TSCAP_CFG_TB n)), (.TSCAP_STATUS_VALID, 1)])
    else .next s

/-- Enable or disable a time base and set its source (R371, R375, R376). -/
def State.tbConfigure (s : State) (k en src holdS : Nat) : State :=
  let was := s.fld 0 .TB_CFG_EN k
  let old := s.fld 0 .TB_CFG_SRC k
  let s1 := s.setFlds 0 k [(.TB_CFG_EN, en), (.TB_CFG_SRC, src), (.TB_CFG_HOLD_S, holdS)]
  let s2 := if en = 1 ∧ was = 0 then
      let t := { s1 with time.lastOffset := eraseK s1.time.lastOffset k }
      (t.leaveHoldover k).moveTo k 0
    else s1
  if src = 0 ∧ old ≠ 0 ∧ s2.fld 0 .CLK_STATUS_TREF_HOLD = 0 then s2.leaveHoldover k else s2

/-- Whether a writer may write the registers of a time base, or of PPS_OUT for TB_0 (R6, R388, R389). -/
def State.tbMay (s : State) (m : Master) (k : Nat) : Bool :=
  if k = 0 then s.granted (writerOf m) else !s.otherHolds m 8 0 k

/-- A register write to a time base: ignored on other dies than DIE_0, by the guard, or when another domain holds it (R105, R389). -/
def State.tbWrite (s : State) (m : Master) (d off k : Nat) (eff : State → State) : State :=
  if d ≠ 0 then s
  else s.guarded m d .TIMEBASE off (fun t => if t.tbMay m k then eff t else t.flag 0 .TB_STATUS_CONFLICT)

/-- Write of TB_n_CFG: a value out of range, and EN 0 of TB_0, is ignored (R371, R373, R389). -/
def wrTbCfg (m : Master) (d k data : Nat) (s : State) : State :=
  s.tbWrite m d (0x100 + 0x40 * k) k (fun t =>
    let en := bits data 31 31
    let src := bits data 30 29
    let h := bits data 23 16
    let u := t.tbConfigure k (if k = 0 then 1 else en) (if src = 3 then t.fld 0 .TB_CFG_SRC k else src) (if h = 0 then t.fld 0 .TB_CFG_HOLD_S k else h)
    if src = 3 ∨ h = 0 ∨ (k = 0 ∧ en = 0) then u.flag 0 .TB_STATUS_BADCFG else u)

/-- Write of TB_n_GAIN. -/
def wrTbGain (m : Master) (d k data : Nat) (s : State) : State :=
  s.tbWrite m d (0x104 + 0x40 * k) k (fun t => t.setFlds 0 k [(.TB_GAIN_KP, bits data 31 16), (.TB_GAIN_KI, bits data 15 0)])

/-- ADJ under SRC 0 (R369); in holdover it stays at I (R375; DEDUCED, notes/assumptions/106). -/
def State.adjSet (s : State) (k v : Nat) : State := if s.fld 0 .TB_CFG_HOLDOVER k = 1 then s else s.setFld 0 .TB_ADJ_ADJ k v

/-- Write of TB_n_ADJ: under SRC 0 and within the limit, else BADCFG (R369, R389). -/
def wrTbAdj (m : Master) (d k data : Nat) (s : State) : State :=
  s.tbWrite m d (0x108 + 0x40 * k) k (fun t =>
    if t.fld 0 .TB_CFG_SRC k ≠ 0 ∨ (toSigned 32 data).natAbs > 549755814 then t.flag 0 .TB_STATUS_BADCFG
    else t.adjSet k data)

/-- Write of TB_n_OFFSET_HI submits the offset (R374). -/
def wrTbOffset (m : Master) (d k data : Nat) (s : State) : State :=
  s.tbWrite m d (0x12C + 0x40 * k) k (fun t =>
    let v := t.pairLow 0 .TB_OFFSET_LO k 0 + data * 2 ^ 32
    let t1 := t.dropLow 0 .TB_OFFSET_LO k
    if t1.fld 0 .TB_CFG_SRC k ≠ 1 then t1.flag 0 .TB_STATUS_BADCFG
    else (t1.offset k (toSigned 64 v * (nsUnit : Nat))).1)

/-- Write of TB_n_SETNSEC steps to SETSEC and NSEC (R376), under R370. -/
def wrTbSetnsec (m : Master) (d k data : Nat) (s : State) : State :=
  s.tbWrite m d (0x138 + 0x40 * k) k (fun t =>
    let sec := t.fld 0 .TB_SETSEC_SEC k
    let nsec := data % 2 ^ 30
    if 2 ^ 34 ≤ sec ∨ 1000000000 ≤ nsec then t.flag 0 .TB_STATUS_BADCFG
    else t.tbStepTo k ((sec * 1000000000 + nsec) * nsUnit))

/-- Write of TB_n_SETSEC_HI: it commits both halves (R101). -/
def wrTbSetsec (m : Master) (d k data : Nat) (s : State) : State :=
  s.tbWrite m d (0x134 + 0x40 * k) k (fun t =>
    (t.setFld 0 .TB_SETSEC_SEC k (t.pairLow 0 .TB_SETSEC_LO k (t.fld 0 .TB_SETSEC_SEC k) + data * 2 ^ 32)).dropLow 0 .TB_SETSEC_LO k)

/-- Writes of PPS_OUT_CFG and PPS_IN_DELAY, held by firmware (R388). -/
def wrPpsOutCfg (m : Master) (d data : Nat) (s : State) : State :=
  s.tbWrite m d 0x80 0 (fun t => t.setFlds 0 0 [(.PPS_OUT_CFG_EN, bits data 31 31), (.PPS_OUT_CFG_TB, bits data 30 28), (.PPS_OUT_CFG_WIDTH, bits data 19 0)])
def wrPpsInDelay (m : Master) (d data : Nat) (s : State) : State :=
  s.tbWrite m d 0x84 0 (fun t => t.setFld 0 .PPS_IN_DELAY_DELAY 0 data)

/-- Whether the settings of a trigger are in range (R379, R381, R388, R389). A distance source is a channel, 0 to 3. -/
def trgValid (mode src dir width start period : Nat) : Bool :=
  decide (mode < 4) && decide (dir < 3) && decide (1 ≤ width) && decide (width < 2 ^ 20) &&
  decide (src < if mode = 3 then 4 else 8) && (!(decide (mode = 1) || decide (mode = 2)) || decide (start < settingLimit)) &&
  (!decide (mode = 2) || decide (100 ≤ period)) && (!decide (mode = 3) || (decide (1 ≤ period) && decide (start % 2 ^ 32 < period)))

/-- A write to a trigger: claims are per trigger (R388). -/
def State.trgWrite (s : State) (m : Master) (d n : Nat) (eff : State → State) : State :=
  if d ≠ 0 then s else if s.otherHolds m 9 0 n then s.flag 0 .TB_STATUS_CONFLICT else eff s

/-- Write of TRG_n_CFG: DIR 3 and WIDTH 0 are ignored, and a write whose MODE the trigger's START or PERIOD does not fit (R381, R389). -/
def wrTrgCfg (m : Master) (d n data : Nat) (s : State) : State :=
  s.trgWrite m d n (fun t =>
    let mode := bits data 31 30
    let src := if mode = 3 then bits data 28 27 else bits data 29 27
    let dir := if bits data 26 25 = 3 then t.fld 0 .TRG_CFG_DIR n else bits data 26 25
    let width := if bits data 19 0 = 0 then t.fld 0 .TRG_CFG_WIDTH n else bits data 19 0
    if ¬ trgValid mode src dir width (t.fld 0 .TRG_START_START n) (t.fld 0 .TRG_PERIOD_PERIOD n) then t.flag 0 .TB_STATUS_BADCFG
    else
      let u := (t.setFlds 0 n [(.TRG_CFG_MODE, mode), (.TRG_CFG_SRC, src), (.TRG_CFG_DIR, dir), (.TRG_CFG_PIN, bits data 24 24),
        (.TRG_CFG_CTRL, bits data 23 23), (.TRG_CFG_POL, bits data 22 22), (.TRG_CFG_WIDTH, width)]).trgArm n
      if bits data 26 25 = 3 ∨ bits data 19 0 = 0 then u.flag 0 .TB_STATUS_BADCFG else u)

/-- Write of TRG_n_START_LO: it fills the holding register (R101). -/
def wrTrgStartLo (m : Master) (d n data : Nat) (s : State) : State := s.trgWrite m d n (fun t => t.holdLow 0 .TRG_START_LO n data)

/-- Write of TRG_n_START_HI: it commits both halves (R101, R389). -/
def wrTrgStart (m : Master) (d n data : Nat) (s : State) : State :=
  s.trgWrite m d n (fun s =>
    let v := s.pairLow 0 .TRG_START_LO n (s.fld 0 .TRG_START_START n) + data * 2 ^ 32
    let t := s.dropLow 0 .TRG_START_LO n
    let mode := t.fld 0 .TRG_CFG_MODE n
    if ((mode = 1 ∨ mode = 2) ∧ settingLimit ≤ v) ∨ (mode = 3 ∧ t.fld 0 .TRG_PERIOD_PERIOD n ≤ v % 2 ^ 32) then t.flag 0 .TB_STATUS_BADCFG
    else (t.setFld 0 .TRG_START_START n v).trgArm n)

/-- Write of TRG_n_PERIOD. -/
def wrTrgPeriod (m : Master) (d n data : Nat) (s : State) : State :=
  s.trgWrite m d n (fun t =>
    let mode := t.fld 0 .TRG_CFG_MODE n
    if (mode = 2 ∧ data < 100) ∨ (mode = 3 ∧ (data = 0 ∨ data ≤ t.fld 0 .TRG_START_START n % 2 ^ 32)) then t.flag 0 .TB_STATUS_BADCFG
    else (t.setFld 0 .TRG_PERIOD_PERIOD n data).trgArm n)

/-- Write of TSCAP_n_CFG; the pin of the input is claimed as its GPIO. -/
def wrTscapCfg (m : Master) (d n data : Nat) (s : State) : State :=
  if s.otherHolds m 1 d (gpioPin n) then s.flag 0 .TB_STATUS_CONFLICT
  else if bits data 30 29 = 3 then (s.setFlds d n [(.TSCAP_CFG_EN, bits data 31 31), (.TSCAP_CFG_TB, bits data 28 26)]).flag 0 .TB_STATUS_BADCFG
  else s.setFlds d n [(.TSCAP_CFG_EN, bits data 31 31), (.TSCAP_CFG_EDGE, bits data 30 29), (.TSCAP_CFG_TB, bits data 28 26)]

/-- A write to a compare register. -/
def State.cmpWrite (s : State) (m : Master) (d k : Nat) (eff : State → State) : State :=
  if d ≠ 0 then s else if s.otherHolds m 0xA 0 k then s.flag 0 .TB_STATUS_CONFLICT else eff s

/-- Writes of CMP32_k_CFG, _SEC and _NSEC; NSEC re-arms the match (R384). -/
def wrCmpCfg (m : Master) (d k data : Nat) (s : State) : State :=
  s.cmpWrite m d k (fun t => t.setFlds 0 k [(.CMP32_CFG_EN, bits data 31 31), (.CMP32_CFG_TB, bits data 30 28)])
def wrCmpSec (m : Master) (d k data : Nat) (s : State) : State :=
  s.cmpWrite m d k (fun t => t.setFld 0 .CMP32_SEC_SEC k data)
def State.cmpArm (s : State) (k nsec : Nat) : State :=
  let s1 := s.setFld 0 .CMP32_NSEC_NSEC k nsec
  { s1 with time.armed := if k ∈ s1.time.armed then s1.time.armed else s1.time.armed ++ [k] }
def wrCmpNsec (m : Master) (d k data : Nat) (s : State) : State :=
  s.cmpWrite m d k (fun t => t.cmpArm k data)

/-- TB_ADJ_WRITE. -/
def execTbAdjWrite (m : Master) (k : Nat) (data : Word) (s : State) : Out :=
  if k < 8 then .next (s.regWrite m 0 .TIMEBASE (0x108 + 0x40 * k) data (wrTbAdj m 0 k data.toNat)) else .next s

/-- TB_OFFSET_HI_WRITE. -/
def execTbOffsetHiWrite (m : Master) (k : Nat) (data : Word) (s : State) : Out :=
  if k < 8 then .next (s.regWrite m 0 .TIMEBASE (0x12C + 0x40 * k) data (wrTbOffset m 0 k data.toNat)) else .next s

/-- TB_SETNSEC_WRITE. -/
def execTbSetnsecWrite (m : Master) (k : Nat) (data : Word) (s : State) : Out :=
  if k < 8 then .next (s.regWrite m 0 .TIMEBASE (0x138 + 0x40 * k) data (wrTbSetnsec m 0 k data.toNat)) else .next s

/-- TRG_CFG_WRITE: a write of one of the writable registers of trigger n at an offset of its range; a write of another offset changes nothing. -/
def execTrgCfgWrite (m : Master) (n off : Nat) (data : Word) (s : State) : Out :=
  if 32 ≤ n then .next s
  else
    .next (s.regWrite m 0 .TIMEBASE (0x400 + 0x20 * n + off % 0x20) data (fun t =>
      match off with
      | 0x0 => wrTrgCfg m 0 n data.toNat t
      | 0x4 => wrTrgStartLo m 0 n data.toNat t
      | 0x8 => wrTrgStart m 0 n data.toNat t
      | 0xC => wrTrgPeriod m 0 n data.toNat t
      | _ => t))

/-- CMP32_NSEC_WRITE. -/
def execCmp32NsecWrite (m : Master) (k : Nat) (data : Word) (s : State) : Out :=
  if k < 8 then .next (s.regWrite m 0 .TIMEBASE (0x3008 + 0x10 * k) data (wrCmpNsec m 0 k data.toNat)) else .next s

/-- A time of the DEADLINE encoding as a session carries it (R384): native, or 32-bit seconds and nanoseconds under major 2. -/
def State.timeOut (s : State) (r : Req) (t : Nat) : Nat :=
  if s.major2 r then t / 1000000000 % 2 ^ 32 + t % 1000000000 * 2 ^ 32 else t

/-- Native seconds of 32-bit seconds, against the present seconds of a time base (R384). -/
def State.sec32 (s : State) (k v : Nat) : Nat := ((s.tbSec k : Int) + sdiff 32 v (s.tbSec k % 2 ^ 32)).toNat

/-- A time value of a message in the DEADLINE encoding (R384). -/
def State.timeIn (s : State) (r : Req) (k v : Nat) : Nat :=
  if s.major2 r then s.sec32 k (v % 2 ^ 32) * 1000000000 + v / 2 ^ 32 else v

/-- TB_QUERY. -/
def execTbQuery (r : Req) (k : Nat) (s : State) : Out :=
  .next (s.serve r 0x0500 none (fun s =>
    if 8 ≤ k then reply s .badMessage
    else reply s .ok (leBytes 8 (if s.major2 r then s.tbSec k % 2 ^ 32 + s.tbNsec k * 2 ^ 32 else s.tbSec k) ++ leBytes 4 (s.tbNsec k) ++
      leBytes 2 (s.tbFrac k) ++
      leBytes 1 (s.fld 0 .TB_CFG_EN k + 2 * s.fld 0 .TB_CFG_HOLDOVER k + 4 * s.fld 0 .TB_CFG_DEGRADED k) ++ leBytes 1 (s.fld 0 .TB_CFG_SRC k) ++
      leBytes 4 (s.fld 0 .TB_ADJ_ADJ k) ++ leBytes 4 (s.fld 0 .TB_INTEG_I k) ++ leBytes 4 (s.fld 0 .TB_LAST_OFF_THETA k) ++ leBytes 4 0)))

/-- Whether a sender may change a time base or PPS_OUT (R388). -/
def State.tbSender (s : State) (r : Req) (k : Nat) : Bool := if k = 0 then s.granted r.dom else decide (s.holder 8 0 k = r.dom)

/-- TB_SET. -/
def execTbSet (r : Req) (c : TbCfg) (s : State) : Out :=
  .next (s.serve r 0x0501 none (fun s =>
    let adj := toSigned 32 c.adj.toNat
    if 8 ≤ c.tb ∨ 2 < c.src ∨ 1 < c.en ∨ c.holdS = 0 ∨ 255 < c.holdS ∨ (c.tb = 0 ∧ c.en = 0) ∨ (c.src = 0 ∧ adj.natAbs > 549755814) ∨
        (c.src ≠ 0 ∧ adj ≠ 0) then reply s .badMessage
    else if ¬ s.tbSender r c.tb then reply s .denied
    else
      let s1 := s.setFlds 0 c.tb [(.TB_GAIN_KP, c.kp), (.TB_GAIN_KI, c.ki)]
      let s2 := if c.src = 2 then s1.setFld 0 .PPS_IN_DELAY_DELAY 0 c.ppsDelay.toNat else s1
      let s3 := s2.tbConfigure c.tb c.en c.src c.holdS
      reply (if c.src = 0 then s3.adjSet c.tb c.adj.toNat else s3) .ok))

/-- TB_OFFSET. -/
def execTbOffset (r : Req) (k : Nat) (theta : BitVec 64) (s : State) : Out :=
  .next (s.serve r 0x0502 none (fun s =>
    if 8 ≤ k ∨ s.fld 0 .TB_CFG_SRC k ≠ 1 then reply s .badMessage
    else if ¬ s.tbSender r k then reply s .denied
    else
      let t := s.offset k (toSigned 64 theta.toNat * (nsUnit : Nat))
      reply t.1 (if t.2 then .badMessage else .ok)))

/-- TB_STEP. -/
def execTbStep (r : Req) (k sec nsec : Nat) (s : State) : Out :=
  .next (s.serve r 0x0503 none (fun s =>
    let sc := if s.major2 r then s.sec32 k (sec % 2 ^ 32) else sec
    let ns := if s.major2 r then sec / 2 ^ 32 else nsec
    if 8 ≤ k ∨ 2 ^ 34 ≤ sc ∨ 1000000000 ≤ ns then reply s .badMessage
    else if ¬ s.tbSender r k then reply s .denied
    else reply (s.tbStepTo k ((sc * 1000000000 + ns) * nsUnit)) .ok))

/-- PPS_OUT_SET. -/
def execPpsOutSet (r : Req) (tb en width : Nat) (s : State) : Out :=
  .next (s.serve r 0x0504 none (fun s =>
    if 8 ≤ tb ∨ 1 < en ∨ 2 ^ 20 ≤ width then reply s .badMessage
    else if ¬ s.granted r.dom then reply s .denied
    else reply (s.setFlds 0 0 [(.PPS_OUT_CFG_EN, en), (.PPS_OUT_CFG_TB, tb), (.PPS_OUT_CFG_WIDTH, width)]) .ok))

/-- TRG_SET. -/
def execTrgSet (r : Req) (c : TrgCfg) (s : State) : Out :=
  .next (s.serve r 0x0510 none (fun s =>
    let start := if c.mode = 1 ∨ c.mode = 2 then s.timeIn r c.src c.start else c.start
    if 32 ≤ c.trg ∨ 8 ≤ c.flags ∨ ¬ trgValid c.mode c.src c.dir c.width start c.period then reply s .badMessage
    else if s.holder 9 0 c.trg ≠ r.dom then reply s .denied
    else reply ((s.setFlds 0 c.trg [(.TRG_CFG_MODE, c.mode), (.TRG_CFG_SRC, c.src), (.TRG_CFG_DIR, c.dir), (.TRG_CFG_PIN, c.flags % 2),
      (.TRG_CFG_CTRL, c.flags / 2 % 2), (.TRG_CFG_POL, c.flags / 4 % 2), (.TRG_CFG_WIDTH, c.width), (.TRG_START_START, start),
      (.TRG_PERIOD_PERIOD, c.period)]).trgArm c.trg) .ok))

/-- The image of TRG_n_CFG. -/
def State.trgImage (s : State) (n : Nat) : Nat :=
  s.fld 0 .TRG_CFG_MODE n * 2 ^ 30 + s.fld 0 .TRG_CFG_SRC n * 2 ^ 27 + s.fld 0 .TRG_CFG_DIR n * 2 ^ 25 + s.fld 0 .TRG_CFG_PIN n * 2 ^ 24 +
  s.fld 0 .TRG_CFG_CTRL n * 2 ^ 23 + s.fld 0 .TRG_CFG_POL n * 2 ^ 22 + s.fld 0 .TRG_CFG_WIDTH n

/-- TRG_QUERY. -/
def execTrgQuery (r : Req) (n : Nat) (s : State) : Out :=
  .next (s.serve r 0x0511 none (fun s =>
    if 32 ≤ n then reply s .badMessage
    else
      let mode := s.fld 0 .TRG_CFG_MODE n
      let start := s.fld 0 .TRG_START_START n
      reply s .ok (leBytes 4 (s.trgImage n) ++ leBytes 8 (if mode = 1 ∨ mode = 2 then s.timeOut r start else start) ++
        leBytes 4 (s.fld 0 .TRG_PERIOD_PERIOD n) ++ leBytes 8 (s.fld 0 .TRG_COUNT_COUNT n) ++ leBytes 4 (s.fld 0 .TRG_MISSED_COUNT n) ++ leBytes 4 0)))

/-- TSCAP_SET. -/
def execTscapSet (r : Req) (d n en edge tb : Nat) (s : State) : Out :=
  .next (s.serve r 0x0520 (some d) (fun s =>
    if ¬ s.hasDie d ∨ 32 ≤ n ∨ 1 < en ∨ 2 < edge ∨ 8 ≤ tb then reply s .badMessage
    else if s.holder 1 d (gpioPin n) ≠ r.dom then reply s .conflict
    else reply (s.setFlds d n [(.TSCAP_CFG_EN, en), (.TSCAP_CFG_EDGE, edge), (.TSCAP_CFG_TB, tb)]) .ok))

/-- TSCAP_READ. -/
def execTscapRead (r : Req) (d n : Nat) (s : State) : Out :=
  .next (s.serve r 0x0521 (some d) (fun s =>
    if ¬ s.hasDie d ∨ 32 ≤ n then reply s .badMessage
    else
      reply (s.setFlds d n [(.TSCAP_STATUS_VALID, 0), (.TSCAP_STATUS_OVERRUN, 0)]) .ok
        (leBytes 8 (s.timeOut r (s.fld d .TSCAP_STAMP_TIME n)) ++
         leBytes 4 (s.fld d .TSCAP_STATUS_VALID n + 2 * s.fld d .TSCAP_STATUS_OVERRUN n) ++ leBytes 4 0)))

/-- CMP32_SET. -/
def execCmp32Set (r : Req) (k tb en sec nsec : Nat) (s : State) : Out :=
  .next (s.serve r 0x0530 none (fun s =>
    if 8 ≤ k ∨ 8 ≤ tb ∨ 1 < en ∨ 1000000000 ≤ nsec then reply s .badMessage
    else if s.holder 0xA 0 k ≠ r.dom then reply s .denied
    else reply ((s.setFlds 0 k [(.CMP32_CFG_EN, en), (.CMP32_CFG_TB, tb), (.CMP32_SEC_SEC, sec)]).cmpArm k nsec) .ok))

end Sys2Proof.Machine
end

