-- ==== Sys2Proof/Machine/Clocks.lean ====
section
/-!
DEFINITION. Machine/Clocks.lean: clock generation, spreading and monitoring (R49 to R63, R520).
-/
namespace Sys2Proof.Machine

/-- The divider a domain's ramp moves toward (R55). -/
def State.goalOf (s : State) (d x : Nat) : Nat := lookupD s.clk.goal (d, x) (s.fld d .CLK_DIV_CURRENT x)

/-- Set the divider a ramp moves toward. -/
def State.setGoal (s : State) (d x v : Nat) : State := { s with clk.goal := insertKV s.clk.goal (d, x) v }

/-- Whether a domain of a die is ramping (R55). -/
def State.ramping (s : State) (d : Nat) : Bool := (List.range 5).any (fun x => decide (s.goalOf d x ≠ s.fld d .CLK_DIV_CURRENT x))

/-- Every (die, domain) of the part. -/
def State.domains (s : State) : List (Nat × Nat) := (s.dieList.map (fun d => (List.range 5).map (fun x => (d, x)))).flatten

/-- Frequency of a source in MHz: ROOT_PLL 7,680, IRC 100 (R49). -/
def srcMHz (src : Nat) : Nat := if src = 0 then 7680 else 100

/-- The smallest divider whose output does not exceed the present frequency (R55). -/
def startDiv (newSrc oldSrc cur : Nat) : Nat := max 1 (ceilDiv (srcMHz newSrc * cur) (srcMHz oldSrc))

/-- Switch a domain to a source; its ramp goes toward a divider (R55). A domain already on that source starts from its present divider. -/
def State.switchTo (src : Nat) (goal : Nat → Nat) (s : State) (dx : Nat × Nat) : State :=
  let old := s.fld dx.1 .CLK_DIV_SRC dx.2
  let cur := s.fld dx.1 .CLK_DIV_CURRENT dx.2
  ((s.setFld dx.1 .CLK_DIV_CURRENT dx.2 (startDiv src old cur)).setFld dx.1 .CLK_DIV_SRC dx.2 src).setGoal dx.1 dx.2 (goal dx.2)

/-- A domain as it runs until step 5 of a start-up (R73): from IRC at its limp divider of R51. -/
def State.atLimp (s : State) (dx : Nat × Nat) : State :=
  ((s.setFld dx.1 .CLK_DIV_CURRENT dx.2 (limpDiv dx.2)).setFld dx.1 .CLK_DIV_SRC dx.2 1).setGoal dx.1 dx.2 (limpDiv dx.2)

/-- Every domain of the part at its limp divider of IRC (R73). -/
def State.allLimp (s : State) : State := s.domains.foldl State.atLimp s

/-- Set one CLK_STATUS field on every die. -/
def State.clkAll (s : State) (f : Fld) (v : Nat) : State := s.dieList.foldl (fun t d => t.setFld d f 0 v) s

/-- A window count of an oscillator passes within 3 % of 1,000 (R54, R56). -/
def windowOk (c : Nat) : Bool := decide (970 ≤ c) && decide (c ≤ 1030)

/-- A window count as CLKMON_COUNT shows it, with the limit of R520. -/
def windowCount (c : Nat) : Nat := min c 1031

/-- The judgement of R54 on eight consecutive windows: each within 3 % of the expected count and within 0.5 % of the first. -/
def judgedFor (expected : Nat) (counts : List Nat) : Bool :=
  match counts with
  | [] => false
  | f :: _ => decide (counts.length = 8) && counts.all (fun c =>
      decide (97 * expected ≤ 100 * c) && decide (100 * c ≤ 103 * expected) && decide (200 * c ≤ 201 * f) && decide (199 * f ≤ 200 * c))

/-- The judgement of an oscillator against IRC: 1,000 cycles expected in a window (R54). -/
def judged (counts : List Nat) : Bool := judgedFor 1000 counts

/-- Whether a die's own PLL, ROOT_PLL or TREF_PLL, passes its judgement (R50, R54): its windows are those of its place; a die without windows fails. -/
def pllPasses (plls : List PllWindows) (d : Nat) : Bool :=
  match plls[d]? with
  | some w => judgedFor w.expected w.counts
  | none => false

/-- A clock failure detected on die `d` (R56 to R61): every die acts on it. In limp it changes nothing, except during a restore ramp. The notice is owed in a
mirrored pair only. DESIGN CHOICE (notes/assumptions/80): ROOT_LOCK clears on every die for either cause, XO_OK on every die for cause 2, and TREF_LOCK stays
set in holdover. -/
def State.clockFailure (s : State) (d cause : Nat) : State :=
  if s.fld 0 .CLK_STATUS_LIMP = 1 ∧ ¬ s.clk.restoring then s
  else
    let s1 := ((((s.clkAll .CLK_STATUS_CAUSE cause).clkAll .CLK_STATUS_ACKED 0).clkAll .CLK_STATUS_ROOT_LOCK 0).clkAll .CLK_STATUS_TREF_HOLD 1).clkAll .CLK_STATUS_LIMP 1
    let s2 := if cause = 2 then s1.clkAll .CLK_STATUS_XO_OK 0 else s1
    let s3 := s2.domains.foldl (State.switchTo 1 limpDiv) s2
    let s4 := ({ s3 with
      clk.awaitAck := true, clk.noticeDue := decide (s3.fld 0 .MIRROR_STATUS_ROLE ≠ 0), clk.restoring := false, clk.back := [],
      clk.depth := 0, clk.failDie := d, mail.nmi := true }).stopActivation
    let image := s4.fld d .CLKMON_COUNT_REFB * 2 ^ 16 + s4.fld d .CLKMON_COUNT_XO
    let s5 := s4.raise .clkFail d 0xFF00 [(20, 1, d), (21, 1, cause), (24, 4, image)] s4.apDoms
    (s5.clockHoldover.titheAdd 0x07C 1).source { src := 13, die := d } []

/-- One window of XO against IRC closes (R54, R56). -/
def State.xoWindow (s : State) (d c : Nat) : State :=
  let s1 := s.setFld d .CLKMON_COUNT_XO 0 (windowCount c)
  let n := if windowOk (windowCount c) then 0 else min 2 (lookupD s1.clk.xoFails d 0 + 1)
  let s2 := { s1.setFld d .CLK_STATUS_XO_OK 0 (b2n (windowOk (windowCount c))) with clk.xoFails := insertKV s1.clk.xoFails d n }
  if n = 2 then s2.clockFailure d 2 else s2

/-- One window of the ROOT_PLL lock check closes (R56). -/
def State.rootWindow (s : State) (d : Nat) (locked : Bool) : State :=
  let n := if locked then 0 else min 2 (lookupD s.clk.rootFails d 0 + 1)
  let s1 := { s with clk.rootFails := insertKV s.clk.rootFails d n }
  if n = 2 then s1.clockFailure d 3 else s1

/-- One window of REFB_IN against IRC closes (R54, R58): absent until the last eight windows pass the judgement; present, two failing windows in a row reset the package. -/
def State.refbWindow (s : State) (d c : Nat) : State :=
  if s.fld 0 .CLK_CTRL_REFB_FREQ = 0 then s
  else
    let w := windowCount c
    let s1 := s.setFld d .CLKMON_COUNT_REFB 0 w
    if s1.fld d .CLK_STATUS_REFB_PRESENT = 1 then
      let n := if windowOk w then 0 else lookupD s1.clk.refbFails d 0 + 1
      let s2 := { s1 with clk.refbFails := insertKV s1.clk.refbFails d n }
      if 2 ≤ n then ((s2.setFld d .CLK_STATUS_REFB_PRESENT 0 0).requestReset 7 .package d) else s2
    else
      let old := lookupD s1.clk.refbRun d []
      let run := (if old.length < 8 then old else old.tail) ++ [w]
      if judged run then
        let s2 := s1.setFld d .CLK_STATUS_REFB_PRESENT 0 1
        { s2 with clk.refbRun := eraseK s2.clk.refbRun d, clk.refbFails := eraseK s2.clk.refbFails d }
      else { s1 with clk.refbRun := insertKV s1.clk.refbRun d run }

/-- CLKMON_WINDOW_END: the running checks begin at the end of step 5 (R520). -/
def execClkmonWindowEnd (d : Nat) (w : ClkWindow) (s : State) : Out :=
  if ¬ s.hasDie d then .next s
  else if ¬ s.boot.powered ∨ s.stepOf 0 < 5 then .next s
  else
    match w with
    | .xo c => .next (s.xoWindow d c)
    | .root l => .next (s.rootWindow d l)
    | .refb c => .next (s.refbWindow d c)

/-- CLK_ACK_TIMEOUT: no acknowledgement within 1 ms of a clock failure resets the package (R58). DESIGN CHOICE (notes/assumptions/81): the die on which the
source was detected is the die that detected the clock failure. -/
def execClkAckTimeout (s : State) : Out :=
  .next (if s.clk.awaitAck then ({ s with clk.awaitAck := false }).requestReset 7 .package s.clk.failDie else s)

/-- Whether a write of CLK_ACK by this master counts (R58). -/
def ackCounts (m : Master) : Bool := decide (m.kind = .ap) || (decide (m.kind = .firmware) && decide (m.index < 2))

/-- Write of CLK_ACK; it acts on DIE_0 only (R63). DESIGN CHOICE (notes/assumptions/82): a write by a permitted master that R58 does not count (the SCH, a CCC, the
debug module) leaves ACKED as it was. -/
def wrClkAck (m : Master) (d data : Nat) (s : State) : State :=
  if d ≠ 0 then s
  else s.guarded m d .CLKCTL 0x14 (fun t =>
    if data % 2 = 1 ∧ ackCounts m then { t.clkAll .CLK_STATUS_ACKED 1 with clk.awaitAck := false, mail.nmi := false } else t)

/-- CLK_ACK_WRITE. -/
def execClkAckWrite (m : Master) (d : Nat) (data : Word) (s : State) : Out :=
  .next (s.regWrite m d .CLKCTL 0x14 data (wrClkAck m d data.toNat))

/-- Move a domain's target on ROOT_PLL, or hold it while the domain runs from IRC or in its own restore ramp (R55, R61). A later write replaces a held one.
DESIGN CHOICE (notes/assumptions/83): CLK_DIV_x.TARGET keeps reading the old target while a write is held. -/
def State.retarget (s : State) (d x v : Nat) : State :=
  if s.fld d .CLK_DIV_SRC x = 1 ∨ (d, x) ∈ s.clk.back then { s with clk.heldTarget := insertKV s.clk.heldTarget (d, x) v }
  else ({ s with clk.heldTarget := eraseK s.clk.heldTarget (d, x) }.setFld d .CLK_DIV_TARGET x v).setGoal d x v

/-- Every restore ramp has reached its normal divider: the part leaves limp, and held targets apply (R60, R61). DESIGN CHOICE (notes/assumptions/84):
CLK_STATUS.CAUSE keeps the cause of the limp that ended. -/
def State.leaveLimp (s : State) : State :=
  if s.clk.restoring ∧ s.clk.back = [] then
    let s1 := { s.clkAll .CLK_STATUS_LIMP 0 with clk.restoring := false, clk.heldTarget := [] }
    s.clk.heldTarget.foldl (fun t e => t.retarget e.1.1 e.1.2 e.2) s1
  else s

/-- DIVIDER_RAMP_STEP: one step every 2 µs toward the target (R55). -/
def execDividerRampStep (d x : Nat) (s : State) : Out :=
  if ¬ s.hasDie d ∨ 5 ≤ x then .next s
  else
    let cur := s.fld d .CLK_DIV_CURRENT x
    let g := s.goalOf d x
    if cur = g then .next s
    else
      let next := if cur < g then cur + 1 else cur - 1
      let s1 := s.setFld d .CLK_DIV_CURRENT x next
      .next ({ s1 with clk.back := if next = g then s1.clk.back.filter (fun e => decide (e ≠ (d, x))) else s1.clk.back }).leaveLimp

/-- Dividers that software may set for a domain (R51, R63). -/
def divValid (x v : Nat) : Bool :=
  if x = 0 then decide (3 ≤ v) && decide (v ≤ 12)
  else if x = 3 then decide (v = 24) || decide (v = 48) || decide (v = 96)
  else decide (v = normalDiv x)

/-- Write of CLK_DIV_x.TARGET. -/
def wrClkDiv (m : Master) (d x data : Nat) (s : State) : State :=
  s.guarded m d .CLKCTL (0x20 + 4 * x) (fun t =>
    let v := data % 2 ^ 10
    if divValid x v then t.retarget d x v else t.flag d .CLK_STATUS_BADCFG)

/-- CLK_DIV_TARGET_WRITE. -/
def execClkDivTargetWrite (m : Master) (d x : Nat) (data : Word) (s : State) : Out :=
  if x < 5 then .next (s.regWrite m d .CLKCTL (0x20 + 4 * x) data (wrClkDiv m d x data.toNat)) else .next s

/-- Start a restore (R60): outside limp, or while one runs, it has no effect. ROOT_PLL is reset on every die, and it starts unspread (R53). -/
def State.startRestore (s : State) (r : Option Req) : State :=
  if s.fld 0 .CLK_STATUS_LIMP = 1 ∧ ¬ s.clk.judging ∧ ¬ s.clk.restoring then
    { s.clkAll .CLK_STATUS_ROOT_LOCK 0 with clk.judging := true, clk.restoreReq := r, clk.depth := 0 }
  else s

/-- Write of CLK_CTRL; it acts on DIE_0 only (R53, R60, R63). -/
def wrClkCtrl (m : Master) (d data : Nat) (s : State) : State :=
  if d ≠ 0 then s
  else s.guarded m d .CLKCTL 0x10 (fun t =>
    let t1 := if bits data 2 0 ≤ 4 then t.setFld 0 .CLK_CTRL_SSC_DEPTH 0 (bits data 2 0) else t.flag 0 .CLK_STATUS_BADCFG
    let t2 := if bits data 6 5 = t1.fld 0 .CLK_CTRL_REFB_FREQ then t1
      else { (t1.setFld 0 .CLK_CTRL_REFB_FREQ 0 (bits data 6 5)).clkAll .CLK_STATUS_REFB_PRESENT 0 with clk.refbRun := [], clk.refbFails := [] }
    if bits data 7 7 = 1 then t2.startRestore none else t2)

/-- CLK_CTRL_RESTORE. -/
def execClkCtrlRestore (m : Master) (d : Nat) (data : Word) (s : State) : Out :=
  .next (s.regWrite m d .CLKCTL 0x10 data (wrClkCtrl m d data.toNat))

/-- SSC_DEPTH_APPLY: the depth written takes effect at the next minimum of the triangle, once ROOT_PLL has passed its judgement (R53). -/
def execSscDepthApply (s : State) : Out :=
  .next (if s.fld 0 .CLK_STATUS_ROOT_LOCK = 1 then { s with clk.depth := s.fld 0 .CLK_CTRL_SSC_DEPTH } else s)

/-- ROOT_LOCK of each die follows the verdict on its own ROOT_PLL (R50). -/
def State.rootVerdicts (s : State) (root : List PllWindows) : State :=
  s.dieList.foldl (fun t d => if pllPasses root d then t.setFld d .CLK_STATUS_ROOT_LOCK 0 1 else t) s

/-- Whether the PLLs of every die that takes part pass (R60). -/
def State.pllsPass (s : State) (root tref : List PllWindows) : Bool := s.dieList.all (fun d => (pllPasses root d && pllPasses tref d) || s.leftOut d)

/-- TREF_PLL has passed its judgement on every die: it leaves holdover (R60). -/
def State.trefGood (s : State) : State := ((s.clkAll .CLK_STATUS_TREF_LOCK 1).clkAll .CLK_STATUS_TREF_HOLD 0).trefBack

/-- RESTORE_JUDGEMENT_END (R60): XO and the PLLs of every die pass and every domain ramps back, or RESTORE_FAIL sets and the part stays in limp.
DESIGN CHOICE (notes/assumptions/85): a domain that was under a PMC step before the failure ramps to its normal divider, and its TARGET keeps reading the step. -/
def execRestoreJudgementEnd (xo : List Nat) (root tref : List PllWindows) (s : State) : Out :=
  if ¬ s.clk.judging then .next s
  else
    let s0 := ({ s with clk.judging := false, clk.restoreReq := none } : State).rootVerdicts root
    if judged xo ∧ s0.pllsPass root tref then
      let s1 := (s0.clkAll .CLK_STATUS_XO_OK 1).trefGood
      let s2 := { s1 with clk.restoring := true, clk.back := s1.domains, clk.depth := s1.fld 0 .CLK_CTRL_SSC_DEPTH, clk.xoFails := [], clk.rootFails := [] }
      let s3 := s2.domains.foldl (State.switchTo 0 normalDiv) s2
      .next (match s.clk.restoreReq with
        | some r => s3.answer r 0x0822 .ok []
        | none => s3)
    else
      let s1 := s0.clkAll .CLK_STATUS_RESTORE_FAIL 1
      .next (match s.clk.restoreReq with
        | some r => s1.answer r 0x0822 .timeout []
        | none => s1)

/-- The image of CLK_STATUS (R63). -/
def State.clkImage (s : State) (d : Nat) : Nat :=
  b2n (s.blkBusy d .clkctl) * 2 ^ 31 + s.fld d .CLK_STATUS_BADCFG * 2 ^ 11 + s.fld d .CLK_STATUS_RESTORE_FAIL * 2 ^ 10 + s.fld d .CLK_STATUS_CAUSE * 2 ^ 8 +
  s.fld d .CLK_STATUS_ACKED * 2 ^ 7 + b2n (s.ramping d) * 2 ^ 6 + s.fld d .CLK_STATUS_REFB_PRESENT * 2 ^ 5 + s.fld d .CLK_STATUS_TREF_HOLD * 2 ^ 4 +
  s.fld d .CLK_STATUS_TREF_LOCK * 2 ^ 3 + s.fld d .CLK_STATUS_ROOT_LOCK * 2 ^ 2 + s.fld d .CLK_STATUS_XO_OK * 2 + s.fld d .CLK_STATUS_LIMP

/-- CLK_QUERY. DESIGN CHOICE (notes/assumptions/86): the SSC depth byte is the code written to CLK_CTRL.SSC_DEPTH, not the depth in force. -/
def execClkQuery (r : Req) (d : Nat) (s : State) : Out :=
  .next (s.serve r 0x0820 (some d) (fun s =>
    if ¬ s.hasDie d then reply s .badMessage
    else reply s .ok (leBytes 4 (s.clkImage d) ++ ((List.range 5).map (fun x => leBytes 2 (s.fld d .CLK_DIV_CURRENT x))).flatten ++
      leBytes 1 (s.fld 0 .CLK_CTRL_SSC_DEPTH) ++ leBytes 9 0)))

/-- CLK_SPREAD. -/
def execClkSpread (r : Req) (depth : Nat) (s : State) : Out :=
  .next (s.serve r 0x0821 none (fun s =>
    if 4 < depth then reply s .badMessage
    else if ¬ s.granted r.dom then reply s .denied
    else reply (s.setFld 0 .CLK_CTRL_SSC_DEPTH 0 depth) .ok))

/-- CLK_RESTORE. -/
def execClkRestore (r : Req) (s : State) : Out :=
  .next (s.serve r 0x0822 none (fun s =>
    if ¬ s.granted r.dom then reply s .denied
    else if s.clk.judging ∨ s.clk.restoring then reply s .busy
    else if s.fld 0 .CLK_STATUS_LIMP = 0 then reply s .ok
    else later (s.startRestore (some r))))

end Sys2Proof.Machine
end

