-- ==== Sys2Proof/Machine/Queues.lean ====
section
/-!
DEFINITION. Machine/Queues.lean: queues, sheaves and silos as the SCH keeps them: ring counts (R274), command headers (R280), slots of cores
(R291), share accounts (R290), guarantees (R295), accounting (R296), completion records (R276, R287), output records (R445), the end of a
sheaf (R288), kills (R286) and the transfers of the mirror engine (R432, R433).
-/
namespace Sys2Proof.Machine

/-- A silo that nothing has used. -/
def SiloState.empty : SiloState := ⟨none, none, 0, 0, 0, [], false, false, none, none, false, 0, none, none, none, 0, 0, 0⟩

/-- The state of a silo beside its registers. -/
def State.silo (s : State) (d k : Nat) : SiloState := lookupD s.q.silos (d, k) SiloState.empty

/-- Replace the state of a silo. -/
def State.setSilo (s : State) (d k : Nat) (x : SiloState) : State := { s with q.silos := insertKV s.q.silos (d, k) x }

/-- What waits at a silo that goes, or is reset, is answered CONFLICT (notes/assumptions/47). -/
def State.siloGone (s : State) (d k : Nat) : State :=
  let x := s.silo d k
  let s1 := match x.nextReq with
    | some r => s.answer r 0x0210 .conflict []
    | none => s
  match x.spanReq with
  | some r => s1.answer r 0x0212 .conflict []
  | none => s1

/-- The queue of an ID. -/
def State.queue (s : State) (q : Nat) : Option Queue := lookup? s.q.queues q

/-- Replace a queue. -/
def State.setQueue (s : State) (q : Nat) (x : Queue) : State := { s with q.queues := insertKV s.q.queues q x }

/-- The command placed in a slot of a die. -/
def State.placed (s : State) (d : Nat) (r : SlotRef) : Option Placed := lookup? s.q.slots (d, r)

/-- Replace the command placed in a slot. -/
def State.setPlaced (s : State) (d : Nat) (r : SlotRef) (p : Placed) : State := { s with q.slots := insertKV s.q.slots (d, r) p }

/-- Ring count `a` is later than `b` (R274). -/
def laterCount (a b : Nat) : Bool :=
  let x := (a + 2 ^ 32 - b % 2 ^ 32) % 2 ^ 32
  decide (1 ≤ x) && decide (x < 2 ^ 31)

/-- The distance from count `b` up to count `a`. -/
def countDist (a b : Nat) : Nat := (a + 2 ^ 32 - b % 2 ^ 32) % 2 ^ 32

/-- A 16-bit generation is earlier than another, by signed difference (R308). -/
def earlierGen (a b : Nat) : Bool := decide (sdiff 16 a b < 0)

/-- Address of a submission slot and of a completion record (R274). -/
def Queue.slotAddr (q : Queue) (n : Nat) : Nat := q.sqBase + 64 * (n % 2 ^ q.sqLog2)
def Queue.recAddr (q : Queue) (n : Nat) : Nat := q.cqBase + 32 * (n % 2 ^ q.cqLog2)

/-- Fields of the common command header (R280). -/
def descOp (b : List Byte) : Nat := bits (leAt b 0 2) 7 0
def descEngine (b : List Byte) : Nat := bits (leAt b 0 2) 10 8
def descKillable (b : List Byte) : Bool := bit (leAt b 0 2) 11
def descChecked (b : List Byte) : Bool := bit (leAt b 0 2) 12
def descInPlace (b : List Byte) : Bool := bit (leAt b 0 2) 13
def descFence (b : List Byte) : Bool := bit (leAt b 0 2) 14
def descOp1 (b : List Byte) : Nat := leAt b 4 4
def descOp2 (b : List Byte) : Nat := leAt b 8 4
def descOut (b : List Byte) : Nat := leAt b 12 4

/-- A fused attention command (R169, R254). -/
def descFused (b : List Byte) : Bool := decide (descEngine b = 0) && decide (0x10 ≤ descOp b) && decide (descOp b ≤ 0x1F)

/-- The slot that a command takes on a core (R283, R291). -/
def descSlot (b : List Byte) : SlotKind :=
  match descEngine b with
  | 0 => .te | 1 => .ve | 2 => .xe | _ => .seq

/-- Handles that a command names (R280, R170, R210). -/
def descHandles (b : List Byte) : List Nat :=
  ([descOp1 b, descOp2 b, descOut b] ++ (if descEngine b = 0 ∧ (descOp b = 1 ∨ descOp b = 2) then [leAt b 52 4] else []) ++
    (if descEngine b = 2 then [leAt b 48 4, leAt b 52 4] else [])).filter (fun h => decide (h ≠ 0))

/-- The handles that a LOC, and an image descriptor, names (R327). -/
def locHandles (loc : Nat) : List Nat := if bit loc 63 then [bits loc 31 0] else []
def imageHandles (i : List Byte) : List Nat := locHandles (leAt i 0 8) ++ (if bit (leAt i 13 1) 3 then locHandles (leAt i 16 8) else [])

/-- Bytes at a LOC (R327); none where its handle names no buffer. -/
def State.locBytes (s : State) (loc off n : Nat) : List Byte :=
  if bit loc 63 then
    match s.bufOf (bits loc 31 0) with
    | some e => s.bytes (e.base + bits loc 62 32 + off) n
    | none => []
  else s.bytes (bits loc 47 0 + off) n

/-- Handles that a raster command names through its descriptors (R325 to R327): the images of a RENDER's pass and texture table, or the one image of FAST_CLEAR and
EXPAND. -/
def State.rasHandles (s : State) (b : List Byte) : List Nat :=
  let op1 (off n : Nat) := s.locBytes (2 ^ 63 + descOp1 b) off n
  match descOp b with
  | 1 =>
    let pass := op1 (leAt b 16 4) 256
    let at_ (o : Nat) := imageHandles (slice pass o 32)
    (List.range (min 4 (leAt pass 0 1))).flatMap (fun i => at_ (32 + 32 * i)) ++ (if bit (leAt pass 1 1) 0 then at_ 160 else []) ++
      (if bit (leAt pass 1 1) 1 then at_ 192 else []) ++
      (List.range (min 4096 (leAt pass 2 2))).flatMap (fun i => imageHandles (op1 (leAt pass 4 4 + 48 * i) 32))
  | 2 | 3 => locHandles (leAt b 16 8) ++ imageHandles (s.locBytes (leAt b 16 8) 0 32)
  | _ => []

/-- Every buffer handle that a command names (R154, R156): in its words and, of a raster command, in its descriptors. -/
def State.handlesOf (s : State) (b : List Byte) : List Nat := descHandles b ++ (if descEngine b = 4 then s.rasHandles b else [])

/-- The core of a place. -/
def coreOf : SlotRef → Nat
  | .core c _ => c
  | .raster c => c

/-- The master ID of a core (R96). -/
def coreMaster (d c : Nat) : Nat := d * 512 + c % 64

/-- A core that runs a command, as a master: for the function, inside the silo (R152). -/
def coreAgent (d c : Nat) (p : Placed) : Agent := ⟨coreMaster d c, [p.fn], false⟩

/-- The raster unit as a master (R97): I/O DMA index 27, for the function. -/
def rasterAgent (d : Nat) (p : Placed) : Agent := ⟨d * 512 + 4 * 64 + 27, [p.fn], false⟩

/-- The unit of a place as a master. -/
def engineAgent (d : Nat) (r : SlotRef) (p : Placed) : Agent :=
  match r with
  | .core c _ => coreAgent d c p
  | .raster _ => rasterAgent d p

/-- The sheaf of a queue by the ring count of its header. -/
def State.sheaf (s : State) (q hdr : Nat) : Option Sheaf :=
  match s.queue q with
  | some x => x.flight.find? (fun h => decide (h.hdr = hdr))
  | none => none

/-- Replace a sheaf. -/
def State.setSheaf (s : State) (q : Nat) (h : Sheaf) : State :=
  match s.queue q with
  | some x => s.setQueue q { x with flight := x.flight.map (fun y => if y.hdr = h.hdr then h else y) }
  | none => s

/-- Replace an element of a list. -/
def setAt {α : Type} : List α → Nat → α → List α
  | [], _, _ => []
  | _ :: xs, 0, a => a :: xs
  | x :: xs, n + 1, a => x :: setAt xs n a

/-- Set where a command of a sheaf stands. -/
def State.setPos (s : State) (q hdr idx : Nat) (p : CmdPos) : State :=
  match s.sheaf q hdr with
  | some h => s.setSheaf q { h with cmds := setAt h.cmds idx p }
  | none => s

/-- Every command in a slot of a die. -/
def State.slotsOf (s : State) (d : Nat) : List (SlotRef × Placed) :=
  (s.q.slots.filter (fun e => decide (e.1.1 = d))).map (fun e => (e.1.2, e.2))

/-- Whether a command of a sheaf is in flight. -/
def State.inFlight (s : State) (q hdr gen : Nat) : Bool :=
  s.q.slots.any (fun e => decide (e.2.queue = q) && decide (e.2.hdr = hdr) && decide (e.2.gen = gen))

/-- ARITH_CLK cycles in a span of nanoseconds on a die, at its present source and divider. -/
def State.arithCycles (s : State) (d ns : Nat) : Nat := ns * srcMHz (s.fld d .CLK_DIV_SRC 3) / (1000 * max 1 (s.fld d .CLK_DIV_CURRENT 3))

/-- Member cores of a silo. -/
def State.members (s : State) (d k : Nat) : List Nat := (List.range 48).filter (bit (s.fld d .SILO_MASK_MASK k))

/-- Cores that a silo holds for a slot, or for any slot (R291, R292). -/
def State.coresHeld (s : State) (d k : Nat) (slot : Option SlotKind) : List Nat :=
  ((s.slotsOf d).filterMap (fun e => match e.1 with
    | .core c x => if e.2.silo = k ∧ (slot = none ∨ slot = some x) then some c else none
    | .raster _ => none)).eraseDups

/-- Slot time used by a silo in its quantum, up to now (R291). -/
def State.slotTime (s : State) (d k : Nat) : Nat :=
  let x := s.silo d k
  (s.slotsOf d).foldl (fun a e => match e.1 with
    | .core _ _ => if e.2.silo = k then a + (s.now - max e.2.start x.quantumStart) else a
    | .raster _ => a) x.used

/-- 256 times the share deficit of a silo (R291). -/
def State.deficit (s : State) (d k : Nat) : Int :=
  (s.fld d .SILO_CFG_SHARE k * (s.members d k).length * (s.now - (s.silo d k).quantumStart) : Nat) - (256 * s.slotTime d k : Nat)

/-- FN_GEN of a function (R315). -/
def State.genOf (s : State) (fn : Dom) : Nat := s.mbFld fn .FN_GEN_GEN

/-- The SCH of a die adds to a little-endian counter in memory that saturates (R296). -/
def State.memAdd (s : State) (d a n x : Nat) : State := s.store (schAgent d) a (leBytes n (satAdd (8 * n) (s.loadNat a n) x))

/-- Charge a break to the queues with work in a silo (R296). -/
def State.chargeBroken (s : State) (d k : Nat) : State :=
  s.q.queues.foldl (fun t e => if e.1 / 65536 = d ∧ e.2.flight.any (fun h => decide (h.silo = k) && !h.done) then t.memAdd d (e.2.acctBase + 96) 8 1 else t) s

/-- A guarantee of a silo is broken (R295): once for each kind and quantum. -/
def State.guaranteeBroken (s : State) (d k kind amount cause queue : Nat) : State :=
  let x := s.silo d k
  if kind ∈ x.broken then s
  else
    let h := s.holder 2 d k
    let s1 := ((s.setSilo d k { x with broken := kind :: x.broken }).flag d .SCH_STATUS_BROKEN).chargeBroken d k
    let s2 := s1.raise .guaranteeBroken d h.toNat
      [(20, 1, k), (21, 1, kind), (22, 1, cause), (24, 4, min amount 0xFFFFFFFF), (28, 4, if kind = 2 then queue else 0xFFFFFFFF)] [h]
    if k ∈ s2.classSSilos d then s2.source { src := 6, die := d, silo := some k } [(d, k)] else s2

/-- What the throttle level of a die does to a class (R490): 0 nothing, 1 halved, 2 withheld. -/
def throttle (level cls : Nat) : Nat :=
  if cls = 0 then 0
  else
    let first := 2 * (4 - cls) + 1
    if level < first then 0 else if level = first then 1 else 2

/-- Whether a silo lacks cores for a reason other than work: limp operation, throttling of its class, or a member core whose test has lapsed (R295). -/
def State.coresLapse (s : State) (d k : Nat) : Bool :=
  decide (s.fld 0 .CLK_STATUS_LIMP = 1) || decide (throttle (s.fld d .PWR_STATUS_LEVEL) (s.siloClass d k) ≠ 0) ||
  (decide (s.siloClass d k = 0) && (s.members d k).any (fun c => decide (s.fld d .GLN_CORE_S_EXCLUDED c = 1)))

/-- The class whose work took the cores of a silo, for byte 22 of R295: 7 where the cause is limp operation, throttling or a test lapse, or when no other silo works
on its members. -/
def State.takerClass (s : State) (d k : Nat) : Nat :=
  if s.coresLapse d k then 7
  else (s.slotsOf d).foldl (fun a e => match e.1 with
    | .core c _ => if e.2.silo ≠ k ∧ bit (s.fld d .SILO_MASK_MASK k) c then min a e.2.cls else a
    | .raster _ => a) 7

/-- The entry of MIRROR_FN that names a function on a primary part (R432). -/
def State.mirrored (s : State) (fn : Dom) : Option Nat :=
  (List.range 64).find? (fun i => decide (s.fld 0 .MIRROR_FN_EN i = 1) && decide (s.fld 0 .MIRROR_FN_FUNCTION i = fn.toNat))

/-- Bytes of a transfer: each record a section of R312. -/
def transferBytes (rs : List MirrorRec) : Nat := rs.foldl (fun a r => a + ceilDiv (8 + r.content.length) 64 * 64) 0

/-- Bytes queued in the mirror engine (R433). -/
def State.mirrorLag (s : State) : Nat := s.mirror.queue.foldl (fun a t => a + t.2.2) 0

/-- Initial images under way end unacknowledged, and PAIR_MIRROR messages that wait for them are answered (R432, R439). -/
def State.dropImages (s : State) (st : Status) (which : Nat → Bool) : State :=
  (s.mirror.initial.filter (fun x => which x.1)).foldl (fun t x => x.2.2.foldl (fun u r => u.answer r 0x0761 st []) t)
    { s with mirror.initial := s.mirror.initial.filter (fun x => !which x.1) }

/-- The pair becomes unsynchronised (R433, R436); EV_PAIR_LINK names the reason. A lost link or partner acknowledges no image that is under way (DEDUCED,
notes/assumptions/107). -/
def State.unsync (s : State) (why : Nat) : State :=
  let s0 := if why = 3 then s else s.dropImages .timeout (fun _ => true)
  let s1 := if s.fld 0 .MIRROR_STATUS_UNSYNC = 1 then s0 else (s0.flag 0 .MIRROR_STATUS_UNSYNC).source { src := 15, die := 0 } []
  let doms := (List.range 64).filterMap (fun i => if s.fld 0 .MIRROR_FN_EN i = 1 then some (BitVec.ofNat 16 (s.fld 0 .MIRROR_FN_FUNCTION i)) else none)
  s1.raise .pairLink 0 0xFF00 [(20, 1, why), (24, 8, s.fld 0 .MIRROR_SEQ_SEQ)] (doms ++ s1.safetyDoms)

/-- Whether the mirror engine sends for a function now: a primary with a trained, synchronised link (R432, R436). -/
def State.mirrorSends (s : State) (fn : Dom) : Bool :=
  decide (s.fld 0 .MIRROR_STATUS_ROLE = 1) && decide (s.fld 0 .MIRROR_STATUS_LINK_UP = 1) && decide (s.fld 0 .MIRROR_STATUS_UNSYNC = 0) &&
  (s.mirrored fn).isSome

/-- Whether a transfer finds room in the 4 MiB queue (R433). -/
def State.mirrorRoom (s : State) (rs : List MirrorRec) : Bool := decide (s.mirrorLag + transferBytes rs ≤ 0x400000)

/-- Queue and send one transfer (R432): MIRROR_SEQ rises. -/
def State.mirrorPush (s : State) (fn : Dom) (rs : List MirrorRec) : State :=
  let n := (s.fld 0 .MIRROR_SEQ_SEQ + 1) % 2 ^ 64
  let s1 := { s with mirror.queue := s.mirror.queue ++ [(n, fn.toNat, transferBytes rs)] }
  ((s1.setFld 0 .MIRROR_SEQ_SEQ 0 n).setFld 0 .MIRROR_LAG_COUNT 0 s1.mirrorLag).send (.transfer n fn.toNat rs)

/-- A change of a mirrored function's state goes to the standby; with the queue full it is dropped and the pair becomes unsynchronised. -/
def State.mirrorChange (s : State) (fn : Dom) (rs : List MirrorRec) : State :=
  if ¬ s.mirrorSends fn then s else if s.mirrorRoom rs then s.mirrorPush fn rs else s.unsync 3

/-- The BUFTAB item of R312: the entry with the handle in bytes 12 to 15. -/
def bufItem (k : Nat × Nat × Nat) (e : BufEnt) : List Byte := e.bytes.take 12 ++ leBytes 4 (mkHandle k.1 k.2.1 e.gen k.2.2)

/-- An entry of a buffer table changes (R153), and goes to the standby where the silo's holder is mirrored (R432). -/
def State.changeBuf (s : State) (d k i : Nat) (e : BufEnt) : State :=
  (s.setBuf d k i e).mirrorChange (s.holder 2 (s.bufDie (mkHandle d k e.gen i)) k) [⟨7, 0, bufItem (d, k, i) e⟩]

/-- The 64-byte context of R272. -/
def Queue.context (q : Queue) : List Byte :=
  leBytes 6 q.sqBase ++ leBytes 1 q.sqLog2 ++ leBytes 1 q.cqLog2 ++ leBytes 6 q.cqBase ++ leBytes 2 q.fn.toNat ++ leBytes 4 q.sqHead ++
  leBytes 4 q.sqTail ++ leBytes 4 q.cqTail ++ leBytes 4 q.cqHead ++ leBytes 2 q.gen ++ leBytes 1 q.state ++ leBytes 1 (b2n q.notifyOn) ++
  leBytes 2 q.vector ++ leBytes 1 q.minClass ++ leBytes 1 0 ++ leBytes 6 q.acctBase ++ leBytes 18 0

/-- Where the buffer tables of a die lie: 16 KiB for each silo (R140, R153); a free place. -/
def bufTables (d : Nat) : Nat := loftBase d + 0x1000 * (Config.tablePlace d % 0x3C1)

/-- Where the handoff record of a die lies (R130, R140); a free place. -/
def recordBase (d : Nat) : Nat := loftBase d + 0x1000 * (Config.recordPlace d % 0x2FF)

/-- A byte of the response ring or of the event queue of a mailbox (R110, R125), at an offset of its 9 KiB; none where the ring holds nothing. -/
def State.mbByte (s : State) (dom : Dom) (o : Nat) : Option Byte :=
  let b := s.box dom
  if 0x2000 ≤ o then some (((b.evq[(o - 0x2000) / 32]?).map (fun e => e.payload.getD (o % 32) 0)).getD 0)
  else if 0x1000 ≤ o then
    let held := s.rspHeld dom
    let k := ((o - 0x1000) / 16 + 512 - s.mbFld dom .MB_RSP_HEAD_INDEX) % 256
    let msgs := b.rsp.flatMap (fun m => m.bytes ++ List.replicate (16 * ringUnits m.payload.length - m.bytes.length) 0#8)
    if k < held then some (msgs.getD (msgs.length - 16 * held + 16 * k + o % 16) 0) else none
  else none

/-- What a byte of the Loft shows where firmware keeps something there: a buffer table (R153), the handoff record (R134), a mailbox's rings (R110, R125). -/
def State.loftByte (s : State) (d o : Nat) : Option Byte :=
  let a := loftBase d + o
  let pool := s.poolBase d
  if bufTables d ≤ a ∧ a < bufTables d + 0x40000 then
    let i := (a - bufTables d) / 16
    some ((lookup? s.memy.bufs (d, i / 1024, i % 1024)).elim 0 (fun e => e.bytes.getD (a % 16) 0))
  else if recordBase d ≤ a ∧ a < recordBase d + 0x100040 then (lookupD s.fw.records d [])[a - recordBase d]?
  else if pool ≤ a ∧ a < pool + 0x2400 * poolSlots then
    (mbAt s.part.dies d (((a - pool) / 0x2400 + poolSlots - Config.poolShift d % poolSlots) % poolSlots)).bind (fun dom => s.mbByte dom ((a - pool) % 0x2400))
  else none

/-- What a byte of LPDDR5X shows where a queue context lies (R272). -/
def State.contextByte (s : State) (a : Nat) : Option Byte :=
  s.dieList.findSome? (fun d =>
    let base := s.fld d .SCH_QCTX_BASE_ADDR
    if base ≠ 0 ∧ base ≤ a ∧ a < base + 0x400000 then (lookup? s.q.queues (d * 65536 + (a - base) / 64)).map (fun q => q.context.getD ((a - base) % 64) 0)
    else none)

/-- A byte of memory as a master reads it: what firmware keeps there, where it does, else the byte stored. DESIGN CHOICE (notes/assumptions/93): another master's
write to such a byte is not taken over by firmware, which keeps its own. -/
def State.seenByte (s : State) (a : Nat) : Byte :=
  (match decodeAddr s.part 0 a with
    | .loft d o => s.loftByte d o
    | .dram _ _ => s.contextByte a
    | _ => none).getD (s.byte a)

/-- Bytes of memory as a master reads them. -/
def State.seen (s : State) (a n : Nat) : List Byte := (rangeFrom a n).map s.seenByte

/-- The QUEUE item of R312. -/
def queueItem (id : Nat) (q : Queue) : List Byte := leBytes 4 (q.mapSlot.getD 0xFFFF) ++ leBytes 4 (id / 65536) ++ q.context ++ leBytes 56 0

/-- The SHEAF item of R312: map slot, header count, CMD_COUNT, PREEMPT, submit time, bitmap of committed commands padded to 8 bytes. -/
def sheafItem (q : Queue) (h : Sheaf) : List Byte :=
  let bm := h.cmds.foldr (fun c a => 2 * a + (if c = .committed then 1 else 0)) 0
  leBytes 4 (q.mapSlot.getD 0xFFFF) ++ leBytes 4 h.hdr ++ leBytes 2 h.count ++ leBytes 2 h.preempt ++ leBytes 4 0 ++ leBytes 8 h.submit ++
  leBytes (ceilDiv (ceilDiv h.count 8) 8 * 8) bm

/-- Whether a record finds room in the completion ring (R276). -/
def Queue.room (q : Queue) : Bool := decide (countDist q.cqTail q.cqHead < 2 ^ q.cqLog2)

/-- Write a record into the completion ring, with the message of NOTIFY (R276, R303). -/
def State.putRecord (s : State) (id : Nat) (q : Queue) (r : List Byte) : State :=
  let s1 := (s.store (schAgent (id / 65536)) (q.recAddr q.cqTail) r).setQueue id { q with cqTail := (q.cqTail + 1) % 2 ^ 32 }
  if q.notifyOn then s1.msix q.fn q.vector else s1

/-- Write a record, or hold it while the ring is full or earlier records are held (R276). -/
def State.giveRecord (s : State) (id : Nat) (r : List Byte) : State :=
  match s.queue id with
  | none => s
  | some q => if q.room ∧ q.heldRecords = [] then s.putRecord id q r else s.setQueue id { q with heldRecords := q.heldRecords ++ [r] }

/-- The completion record of R287. -/
def Sheaf.record (id gen now : Nat) (h : Sheaf) (status : Nat) : List Byte :=
  let sat (x : Nat) := min x 0xFFFFFFFF
  leBytes 4 id ++ leBytes 4 h.ident ++ leBytes 2 gen ++ leBytes 1 status ++ leBytes 1 (if status = 2 ∨ status = 7 then h.engStatus else h.flags) ++
  leBytes 2 (min h.preempt 0xFFFF) ++ leBytes 2 h.failed ++ leBytes 8 h.submit ++ leBytes 4 (sat (h.first.getD now - h.submit)) ++
  leBytes 4 (sat (now - h.submit))

/-- The histogram bin of a waiting time in nanoseconds (R296). -/
def waitBin (ns : Nat) : Nat := if ns < 1000 then 0 else min 15 (Nat.log2 (ns / 1000) + 1)

/-- The accounting of a completed sheaf of a die's queue (R296). -/
def State.account (s : State) (d : Nat) (q : Queue) (h : Sheaf) : State :=
  let a := q.acctBase
  let s1 := (s.memAdd d a 8 1).memAdd d (a + 20) 4 h.preempt
  match h.ready, h.first with
  | some r, some f =>
    let w := f - r
    let s2 := (s1.memAdd d (a + 8) 8 w).memAdd d (a + 32 + 4 * waitBin w) 4 1
    s2.store (schAgent d) (a + 16) (leBytes 4 (max (s2.loadNat (a + 16) 4) (min w 0xFFFFFFFF)))
  | _, _ => s1

/-- Where the silo scratch begins in a Loft (R140). -/
def State.scratchBase (s : State) (d : Nat) : Nat := loftBase d + (15 + s.fld d .LOFT_MAP_KV_MIB + s.fld d .LOFT_MAP_STOOK_MIB) * 0x100000

/-- Scratch units of a die (R140). -/
def State.scratchUnits (s : State) (d : Nat) : Nat := (17 - s.fld d .LOFT_MAP_KV_MIB - s.fld d .LOFT_MAP_STOOK_MIB) * 16

/-- Scratch units that a silo holds. -/
def State.scratchOf (s : State) (d k : Nat) : List Nat := lookupD s.memy.scratch (d, k) []

/-- The output-record ring of a Class S silo: the start of its first scratch unit (R445). -/
def State.outputRing (s : State) (d k : Nat) : Option Nat := (s.scratchOf d k).head?.map (fun u => s.scratchBase d + 0x10000 * u)

/-- The output record of R445. -/
def outputRecord (id : Nat) (h : Sheaf) (now seq flags cause status run : Nat) : List Byte :=
  leBytes 4 id ++ leBytes 4 h.ident ++ leBytes 8 now ++ leBytes 8 h.deadline ++ leBytes 8 seq ++ leBytes 1 flags ++ leBytes 1 cause ++
  leBytes 1 status ++ leBytes 1 0 ++ leBytes 4 run ++ leBytes 16 (h.signature.getD 0).toNat ++ leBytes 8 0

/-- The safety source of a sheaf's status (R448). -/
def statusSource (status : Nat) : Option Nat := if status = 0 then none else if status = 6 then some 0 else if status = 1 then some 1 else some 2

/-- The end of a Class S sheaf acts on the safe state and writes the output record (R445, R448, R449): its own source counts one invalid output
and enters the safe state beyond TOL or with action 2; a frame FROZEN or DAMAGED marks the record without counting again; a golden sheaf leaves
INVALID_RUN. -/
def State.outputEnd (s : State) (id d : Nat) (h : Sheaf) (status : Nat) : State :=
  let k := h.silo
  let src := statusSource status
  let golden := h.golden.isSome
  let e : Entry := { src := src.getD 0, die := d, silo := some k, queue := id, sheaf := h.ident }
  let valid := decide (status = 0) && !h.brokenWait && !s.isSafe && !s.standby && !golden
  let counts := !valid && !golden && !(h.brokenWait && src.isNone)
  let s1 := if valid then s.setFld d .SAFE_SILO_STAT_INVALID_RUN k 0 else if counts then s.addSat d .SAFE_SILO_STAT_INVALID_RUN k 1 else s
  let run := s1.fld d .SAFE_SILO_STAT_INVALID_RUN k
  let s2 := match src with
    | some n => if 2 ≤ s1.action n ∨ (counts ∧ run > s1.fld d .SAFE_SILO_CFG_TOL k) then s1.safeEnter e else s1
    | none => s1
  let x := s2.silo d k
  let cause := if valid then 0xFF else match src with
    | some n => if h.brokenWait ∧ s1.action n < s1.action 3 then 3 else n
    | none => if h.brokenWait then 3 else 0xFF
  let r := outputRecord id h s.now x.records (b2n valid + 2 * b2n s2.isSafe + 4 * b2n golden) cause status run
  let s3 := match s2.outputRing d k with
    | some a => s2.store (schAgent d) (a + 64 * (x.records % 16)) r
    | none => s2
  let s4 : State := if status ≤ 1 then { s3 with safe.silent := s3.safe.silent.filter (fun y => decide (y ≠ (d, k))) } else s3
  s4.setSilo d k { x with records := x.records + 1, lastFinal := if status ≤ 1 then s.now else x.lastFinal }

/-- SQ_HEAD moves past the completed sheaves at the front of the ring (R275). -/
def advanceHead : Nat → List Sheaf → Nat × List Sheaf
  | head, [] => (head, [])
  | head, h :: hs =>
    let n := (h.hdr + h.count + 1) % 2 ^ 32
    if h.done then advanceHead (if laterCount n head then n else head) hs else (head, h :: hs)

/-- A draining queue with no sheaf in flight becomes DISABLED, and those who asked are answered (R273, R297). -/
def State.drainCheck (s : State) (id : Nat) : State :=
  match s.queue id with
  | some q =>
    if q.state = 4 ∧ q.flight = [] then
      q.cancelReq.foldl (fun t r => t.answer r 0x0203 .ok []) (s.setQueue id { q with state := 0, cancelReq := [] })
    else s
  | none => s

/-- A freeze completes when no command of the function is in flight (R310); a mismatch sequence of its commands holds it (R425). -/
def State.freezeCheck (s : State) (fn : Dom) : State :=
  if s.q.slots.any (fun e => decide (e.2.fn = fn)) then s
  else
    match s.fn.freezes.find? (fun f => decide (f.fn = fn)) with
    | some f =>
      if f.complete then s
      else
        let s1 := { s with fn.freezes := s.fn.freezes.map (fun g => if g.fn = fn then { g with complete := true, asked := [] } else g) }
        f.asked.foldl (fun t r => t.answer r 0x0310 .ok []) s1
    | none => s

/-- A late record is discarded (R308). -/
def State.lateRecord (s : State) (fn : Dom) : State := s.addSat (homeOf s.part.dies fn) .FN_LATE_COUNT (pageOf fn) 1

/-- A sheaf completes with a status (R281, R288): its output record, its completion record with the accounting, or for late work the discarded
record; then SQ_HEAD, the display reserve of R293 and a drain of the queue follow. -/
def State.finish (s : State) (id : Nat) (h : Sheaf) (status : Nat) : State :=
  match s.queue id with
  | none => s
  | some q =>
    let d := id / 65536
    let late := earlierGen q.gen (s.genOf q.fn)
    let s1 := if late ∨ h.cls ≠ 0 ∨ h.silo ∉ s.classSSilos d ∨ (status = 3 ∧ h.failed < 5) then s else s.outputEnd id d h status
    let s2 := s1.setSheaf id { h with done := true, ending := some status }
    let rcd := h.record id q.gen s.now status
    let s3 := if late then s2.lateRecord q.fn else (s2.account d q h).giveRecord id rcd
    let s4 := match s3.queue id with
      | some x =>
        let r := advanceHead x.sqHead x.flight
        let x' := { x with sqHead := r.1, flight := r.2 }
        let t := s3.setQueue id x'
        if late then t
        else t.mirrorChange q.fn (([⟨4, id, sheafItem q h⟩] : List MirrorRec) ++ (if x.cqTail ≠ q.cqTail then [(⟨9, q.recAddr q.cqTail, rcd⟩ : MirrorRec)] else []) ++
          [(⟨3, q.mapSlot.getD 0xFFFF, queueItem id x'⟩ : MirrorRec)])
      | none => s3
    let x := s4.silo d h.silo
    let s5 := if h.frame ∧ x.frameFirst = some (id, h.hdr) then
        (s4.setFld d .SILO_STAT_RESERVE h.silo 0).setSilo d h.silo { x with frameDone := true, reserveStart := none }
      else s4
    s5.drainCheck id

/-- Finish a sheaf that is ending when none of its commands is in flight (R288). -/
def State.finishIdle (s : State) (id hdr : Nat) : State :=
  match s.queue id, s.sheaf id hdr with
  | some q, some h =>
    match h.ending with
    | some st => if h.done ∨ s.inFlight id hdr q.gen then s else s.finish id h st
    | none => s
  | _, _ => s

/-- The ACTIVE bit of the engine whose slot a place is, and its index 8c + k. -/
def activeFld : SlotKind → Option Fld
  | .te => some .TE_STATUS_ACTIVE | .ve => some .VE_STATUS_ACTIVE | .xe => some .XE_STATUS_ACTIVE | .seq => none

/-- Counters of the cycles an engine computed and waited. -/
def cycleFlds : SlotKind → Option (Fld × Fld)
  | .te => some (.TE_ACTIVE_CYCLES, .TE_STALL_CYCLES) | .ve => some (.VE_ACTIVE_CYCLES, .VE_STALL_CYCLES)
  | .xe => some (.XE_ACTIVE_CYCLES, .XE_STALL_CYCLES) | .seq => none

/-- Cycles into the counters of the engine and, for a fused command, of the VE beside it (R179, R203, R226): those it computed and those it waited. -/
def State.countCycles (s : State) (d core : Nat) (slot : SlotKind) (p : Placed) (n : Nat × Nat) : State :=
  match cycleFlds slot with
  | some (a, w) =>
    let s1 := (s.addSat d a core n.1).addSat d w core n.2
    if descFused p.desc then s1.addSat d .VE_ACTIVE_CYCLES core n.1 else s1
  | none => s

/-- A run goes on in its slot by some of its writes and cycles (R176, R190, R213): the writes reach memory, the cycles their counters. -/
def State.runOn (s : State) (d : Nat) (r : SlotRef) (n a w : Nat) : State :=
  match s.placed d r with
  | none => s
  | some p =>
    let s1 := s.stores (engineAgent d r p) (p.left.take n)
    let s2 := match r with
      | .core c slot => s1.countCycles d c slot p (min a p.busy.1, min w p.busy.2)
      | .raster _ => s1
    s2.setPlaced d r { p with left := p.left.drop n, busy := (p.busy.1 - a, p.busy.2 - w) }

/-- A run goes on to its end: every write that is left, every cycle. -/
def State.runOut (s : State) (d : Nat) (r : SlotRef) : State :=
  match s.placed d r with
  | none => s
  | some p => s.runOn d r p.left.length p.busy.1 p.busy.2

/-- A run goes on by a free part of what is left: the spec fixes no time at which a write is made. -/
def State.runPart (s : State) (d : Nat) (r : SlotRef) : State :=
  match s.placed d r with
  | none => s
  | some p =>
    let (n, s1) := s.fresh
    let (a, s2) := s1.fresh
    let (w, s3) := s2.fresh
    s3.runOn d r (n % (p.left.length + 1)) (a % (p.busy.1 + 1)) (w % (p.busy.2 + 1))

/-- A window command: TE CONV, VE DWCONV or POOL (R229). -/
def descWindow (b : List Byte) : Bool :=
  (decide (descEngine b = 0) && decide (descOp b = 2)) || (decide (descEngine b = 1) && (decide (descOp b = 0x10) || decide (descOp b = 0x11)))

/-- A VE command of the window path: DWCONV, POOL or RESAMPLE (R198 to R200). -/
def descVeWindow (b : List Byte) : Bool := decide (descEngine b = 1) && decide (0x10 ≤ descOp b) && decide (descOp b ≤ 0x12)

/-- An in-place SCATTER (R212): IN_PLACE set and INIT clear. -/
def descInPlaceScatter (b : List Byte) : Bool := decide (descEngine b = 2) && decide (descOp b = 8) && descInPlace b && !bit (leAt b 19 1) 1

/-- WIN_STATUS shows the plan of a window command (R244). -/
def State.showPlan (s : State) (d core : Nat) (w : Option (Nat × Nat × Bool × Bool × Bool)) : State :=
  match w with
  | some (live, passes, fold, reduced, s2d) => s.setFlds d core
      [(.WIN_STATUS_LIVE_TAPS, live), (.WIN_STATUS_PASSES, passes), (.WIN_STATUS_FOLD, b2n fold), (.WIN_STATUS_REDUCED, b2n reduced), (.WIN_STATUS_S2D, b2n s2d)]
  | none => s

/-- The window commands that stand in the slots of a core. -/
def State.windowsOf (s : State) (d c : Nat) : List Placed :=
  (s.slotsOf d).filterMap (fun e => match e.1 with
    | .core x _ => if x = c ∧ descWindow e.2.desc then some e.2 else none
    | .raster _ => none)

/-- WIN_STATUS of a core: ACTIVE while a window command stands in one of its slots, with the plan of the one that runs (R244). -/
def State.showWindow (s : State) (d c : Nat) : State :=
  (s.showPlan d c ((s.windowsOf d c).findSome? (fun p => p.plan))).setFld d .WIN_STATUS_ACTIVE c (b2n (!(s.windowsOf d c).isEmpty))

/-- Set or clear what shows a running command on a core (R179, R203, R226, R244); a fused command shows on the TE and the VE. -/
def State.showActive (s : State) (d : Nat) (r : SlotRef) (p : Placed) (on : Bool) : State :=
  match r with
  | .raster _ => s
  | .core c slot =>
    let s1 := (match activeFld slot with
      | some f => s.setFld d f c (b2n on)
      | none => s).showWindow d c
    if descFused p.desc then s1.setFld d .VE_STATUS_ACTIVE c (b2n on)
    else if slot = .ve then s1.setFld d .VE_STATUS_WINDOW c (b2n (on && descVeWindow p.desc))
    else if slot = .xe then s1.setFld d .XE_STATUS_IN_PLACE c (b2n (on && descInPlaceScatter p.desc))
    else s1

/-- Class S time of a command counts toward the display reserves of the silos that hold its core (R295, KIND 3). -/
def State.reserveTime (s : State) (d c : Nat) (p : Placed) : State :=
  if p.cls ≠ 0 then s
  else (List.range 16).foldl (fun t k =>
    let x := t.silo d k
    match x.reserveStart with
    | some b => if bit (t.fld d .SILO_MASK_MASK k) c then t.setSilo d k { x with classSTime := x.classSTime + (t.now - max b p.start) } else t
    | none => t) s

/-- The bushels of a released silo's buffers return to their slice when no placed command names them (R307). -/
def State.reap (s : State) : State :=
  s.memy.released.foldl (fun t b =>
    match lookup? t.memy.bufs b with
    | some e =>
      if t.q.slots.any (fun x => decide (mkHandle b.1 b.2.1 e.gen b.2.2 ∈ t.handlesOf x.2.desc)) then t
      else { t.changeBuf b.1 b.2.1 b.2.2 { e with valid := false } with memy.released := t.memy.released.filter (fun y => decide (y ≠ b)) }
    | none => t) s

/-- A command leaves its slot: the slot time is charged to its silo (R291). -/
def State.leave (s : State) (d : Nat) (r : SlotRef) : State :=
  match s.placed d r with
  | none => s
  | some p =>
    let s1 := (({ s with q.slots := eraseK s.q.slots (d, r) } : State).reap).showActive d r p false
    match r with
    | .raster _ => s1
    | .core c _ =>
      let x := s1.silo d p.silo
      (s1.setSilo d p.silo { x with used := x.used + (s.now - max p.start x.quantumStart) }).reserveTime d c p

/-- A command and the other copy of a checked one leave their slots. -/
def State.leaveBoth (s : State) (d : Nat) (r : SlotRef) : State :=
  match s.placed d r with
  | none => s
  | some p => match p.other with
    | some o => (s.leave d r).leave d o
    | none => s.leave d r

/-- A command and the other copy of a checked one stop where they are (R176, R190): what they have written stays, the rest is never written. -/
def State.stopBoth (s : State) (d : Nat) (r : SlotRef) : State :=
  match s.placed d r with
  | none => s
  | some p => match p.other with
    | some o => (((s.runPart d r).runPart d o).leave d r).leave d o
    | none => (s.runPart d r).leave d r

/-- A command is killed (R286): both copies of a checked one together; its cycles are charged to its queue and its sheaf's PREEMPT rises. With
`rerun` it goes back to its sheaf unplaced. The cycles that a killed run computed and waited are not fixed by the spec. -/
def State.kill (s : State) (d : Nat) (r : SlotRef) (rerun : Bool) : State :=
  match s.placed d r with
  | none => s
  | some p =>
    let s1 := s.stopBoth d r
    let s2 := match r with
      | .core c slot => (match cycleFlds slot with
        | some (a, b) =>
          if p.ran then s1
          else
            let f := s1.fresh
            let g := f.2.fresh
            (g.2.setFld d a c (g.2.fld d a c + f.1)).setFld d b c (g.2.fld d b c + g.1)
        | none => s1)
      | .raster _ => s1
    let s3 := match s2.queue p.queue, s2.sheaf p.queue p.hdr with
      | some q, some h =>
        let t := (s2.memAdd d (q.acctBase + 24) 8 (s.arithCycles d (s.now - p.start))).setSheaf p.queue
          { h with preempt := min 0xFFFF (h.preempt + 1), cmds := if rerun then setAt h.cmds p.idx .unplaced else h.cmds }
        t.finishIdle p.queue p.hdr
      | _, _ => s2
    s3.freezeCheck p.fn

/-- Kill every command of a die that a test selects and that is killable. -/
def State.killWhere (s : State) (d : Nat) (rerun : Bool) (sel : SlotRef → Placed → Bool) : State :=
  (s.slotsOf d).foldl (fun t e => if descKillable e.2.desc && sel e.1 e.2 then t.kill d e.1 rerun else t) s

/-- Whether a place belongs to a mismatch sequence (R422). -/
def State.inSequence (s : State) (d : Nat) (r : SlotRef) : Bool :=
  s.q.mismatches.any (fun m => decide (m.die = d) && (decide (m.main = r) || decide (m.checker = r)))

/-- A sheaf ends with an error status (R288): it places nothing more, its killable commands in flight are killed and not re-run, and its record
follows when none remains in flight. The first ending stands. -/
def State.endSheaf (s : State) (id hdr status engStatus failed : Nat) : State :=
  match s.sheaf id hdr with
  | none => s
  | some h =>
    if h.done then s
    else
      let s1 := if h.ending.isSome then s else s.setSheaf id { h with ending := some status, engStatus := engStatus, failed := failed }
      (s1.killWhere (id / 65536) false (fun _ p => decide (p.queue = id) && decide (p.hdr = hdr))).finishIdle id hdr

/-- End every sheaf in flight that a test selects, CANCELLED. -/
def State.cancelWhere (s : State) (sel : Nat → Sheaf → Bool) : State :=
  s.q.queues.foldl (fun t e => e.2.flight.foldl (fun u h => if sel e.1 h then u.endSheaf e.1 h.hdr 5 0 0 else u) t) s

/-- Whether a function is in a function reset, or frozen (R306, R310). -/
def State.inReset (s : State) (fn : Dom) : Bool := s.fn.resets.any (fun r => decide (r.fn = fn))
def State.frozen (s : State) (fn : Dom) : Bool := s.fn.freezes.any (fun f => decide (f.fn = fn))

end Sys2Proof.Machine
end

