-- ==== Sys2Proof/Machine/Display.lean ====
section
/-!
DEFINITION. Machine/Display.lean: the display engine (R337 to R344) and the display reserve (R293).
-/
namespace Sys2Proof.Machine

/-- A head that nothing has used. -/
def HeadState.empty : HeadState := ⟨none, none, false, [], false, 0⟩

/-- A display head. -/
def State.head (s : State) (h : Nat) : HeadState := lookupD s.heads h HeadState.empty

/-- Replace a display head. -/
def State.setHead (s : State) (h : Nat) (x : HeadState) : State := { s with heads := insertKV s.heads h x }

/-- An image becomes pending (R339); a later one replaces it. -/
def State.offer (s : State) (h : Nat) (i : HeadImage) : State := s.setHead h { s.head h with pending := some i }

/-- Raise a display event to the head's holder (R341, R342). -/
def State.dispEvent (s : State) (e : Ev) (h : Nat) : State :=
  let o := s.holder 3 0 h
  let v := s.fld 0 .HEAD_VBLANK_TIME h
  s.raise e 0 o.toNat [(20, 1, h), (24, 4, v / 1000000000), (28, 4, v % 1000000000)] [o]

/-- Whether a head sends frames: enabled, its link trained, not stopped by HPD (R341). -/
def State.headRuns (s : State) (h : Nat) : Bool :=
  decide (s.fld 0 .HEAD_CTRL_EN h = 1) && decide (s.fld 0 .HEAD_LINK_TRAINED h = 1) && !(s.head h).stopped

/-- A LOC at the latch (R339): its physical address; a handle must name a pinned, resident buffer. -/
def State.locAddr (s : State) (loc : Nat) : Option Nat :=
  if bit loc 63 then
    match s.bufOf (bits loc 31 0) with
    | some e => if e.pinned ∧ ¬ e.spilled ∧ ¬ e.moving then some (e.base + bits loc 62 32) else none
    | none => none
  else some (bits loc 47 0)

/-- Resolve the pending image at the latch (R339): its descriptor, with physical addresses for its data and its metadata. -/
def State.resolve (s : State) (i : HeadImage) : Option (List Byte) :=
  let b := match i with
    | .at a => s.bytes a 32
    | .desc b => b
  match s.locAddr (leAt b 0 8), (if (rasImage b).hasMeta then s.locAddr (leAt b 16 8) else some 0) with
  | some a, some m => some (leBytes 8 a ++ slice b 8 8 ++ leBytes 8 m ++ slice b 24 8)
  | _, _ => none

/-- Silos of a die with a display reserve that follows a head (R293). -/
def State.reserving (s : State) (d h : Nat) : List Nat :=
  (List.range 16).filter (fun k => decide (s.fld d .SILO_CFG_EN k = 1) && decide (s.fld d .SILO_CFG_CLASS k = 1) &&
    decide (0 < s.fld d .SILO_TIME_LEAD k) && decide (s.fld d .SILO_CFG_HEAD k = h))

/-- Whether a FRAME sheaf of a silo became ready before its reserve began and has not completed (R295, R340). -/
def State.frameLate (s : State) (d k : Nat) : Bool :=
  match (s.silo d k).reserveStart with
  | none => false
  | some b => s.q.queues.any (fun e => decide (e.1 / 65536 = d) && e.2.flight.any (fun h => decide (h.silo = k) && h.frame && !h.done &&
      (match h.ready with
        | some r => decide (r ≤ b)
        | none => false)))

/-- Class S time on the reserved cores of a silo in its reserve, up to now (R295, KIND 3). -/
def State.classSInReserve (s : State) (d k : Nat) : Nat :=
  let x := s.silo d k
  match x.reserveStart with
  | none => 0
  | some b => (s.slotsOf d).foldl (fun a e => match e.1 with
      | .core c _ => if e.2.cls = 0 ∧ bit (s.fld d .SILO_MASK_MASK k) c then a + (s.now - max b e.2.start) else a
      | .raster _ => a) x.classSTime

/-- Silos of a die that a blank of a head concerns: those whose reserve follows it, and those whose reserve, begun before it, still holds (R293). -/
def State.blanked (s : State) (d h : Nat) : List Nat :=
  (List.range 16).filter (fun k => decide (k ∈ s.reserving d h) || ((s.silo d k).reserveStart.isSome && decide ((s.silo d k).reserveHead = h)))

/-- The vertical blank of a head ends a reserve that began before it (R293), and a FRAME sheaf that Class S work held back breaks the guarantee (R295). -/
def State.reserveEnd (h : Nat) (s : State) (dk : Nat × Nat) : State :=
  let d := dk.1
  let k := dk.2
  let t := s.classSInReserve d k
  let ends := (s.silo d k).reserveStart.isNone || decide ((s.silo d k).reserveHead = h)
  let s1 := if ends ∧ s.frameLate d k ∧ 0 < t then s.guaranteeBroken d k 3 (t / 1000) 0 0xFFFFFFFF else s
  let s2 := if ends then (s1.setFld d .SILO_STAT_RESERVE k 0).setSilo d k { s1.silo d k with reserveStart := none, classSTime := 0 } else s1
  s2.setSilo d k { s2.silo d k with frameFirst := none, frameDone := false }

/-- VERTICAL_BLANK (R293, R295, R339, R340, R341). -/
def execVerticalBlank (h : Nat) (s : State) : Out :=
  if 4 ≤ h then .next s
  else if ¬ s.headRuns h then .next s
  else
    let missed := (s.blanked 0 h).any (s.frameLate 0)
    let s1 := s.setFld 0 .HEAD_VBLANK_TIME h s.now
    let x := s1.head h
    let s2 := match x.pending with
      | some i => (match s1.resolve i with
        | some b => s1.setHead h { x with pending := none, latched := some b }
        | none => s1.setHead h { x with pending := none })
      | none =>
        if missed then ((s1.setFld 0 .DISP_STATUS_REPEAT 0 (setBit (s1.fld 0 .DISP_STATUS_REPEAT) h)).addSat 0 .HEAD_REPEAT_COUNT h 1).dispEvent .dispRepeat h
        else s1
    let timing := [s2.fld 0 .HEAD_PCLK_KHZ h, s2.fld 0 .HEAD_HTIME_H_TOTAL h, s2.fld 0 .HEAD_HTIME_H_ACTIVE h, s2.fld 0 .HEAD_HSYNC_POL h,
      s2.fld 0 .HEAD_HSYNC_WIDTH h, s2.fld 0 .HEAD_HSYNC_START h, s2.fld 0 .HEAD_VTIME_V_TOTAL h, s2.fld 0 .HEAD_VTIME_V_ACTIVE h,
      s2.fld 0 .HEAD_VSYNC_POL h, s2.fld 0 .HEAD_VSYNC_WIDTH h, s2.fld 0 .HEAD_VSYNC_START h]
    let s3 := s2.setHead h { s2.head h with timing := timing, underrun := false, row := 0 }
    .next (((s3.dieList.map (fun d => (s3.blanked d h).map (fun k => (d, k)))).flatten).foldl (State.reserveEnd h) s3)

/-- The picture that a head scans out: its latched descriptor (R338, R339). -/
def scanPicture (b : List Byte) : Picture := ⟨rasImage b, leAt b 0 8, leAt b 16 8⟩

/-- The blocks of a tile row of an image (R320, R338). -/
def RasImage.rowBlocks (i : RasImage) (row : Nat) : List (Nat × Nat) := i.blocks 0 row i.tw (row + 1)

/-- The pixels of a tile row, line by line (R320). -/
def State.rowPixels (s : State) (a : Picture) (row : Nat) : List Nat :=
  (rangeFrom (32 * row) (min 32 (a.img.height - 32 * row))).flatMap (fun y =>
    (List.range a.img.width).map (fun x => (s.blockPixels a (x / 8) (y / 8)).getD (8 * (y % 8) + x % 8) 0))

/-- A head sends the tile row that is due (R338, R340): its pixels, or HEAD_h_FILL. -/
def State.sendRow (s : State) (h : Nat) (pixels : Option (List Nat)) : State :=
  (s.send (.tileRow h (s.head h).row (s.fld 0 .HEAD_FILL_COLOUR h) pixels)).setHead h { s.head h with row := (s.head h).row + 1 }

/-- The pixels of a tile row are not there in time (R338): FILL in their place; flagged, counted and raised once in a frame. -/
def State.underrunRow (s : State) (h : Nat) : State :=
  if (s.head h).underrun then s.sendRow h none
  else
    let s1 := (s.setFld 0 .DISP_STATUS_UNDERRUN 0 (setBit (s.fld 0 .DISP_STATUS_UNDERRUN) h)).addSat 0 .HEAD_UNDERRUN_COUNT h 1
    ((s1.setHead h { s1.head h with underrun := true }).dispEvent .dispUnderrun h).sendRow h none

/-- SCANOUT_TILE_ROW_DUE (R338, R340): the tile row that is due is in the buffer, or not. A row whose read is refused or meets an uncorrectable error never comes
(DEDUCED, notes/assumptions/104). -/
def execScanoutTileRowDue (h : Nat) (ready : Bool) (s : State) : Out :=
  if 4 ≤ h then .next s
  else if ¬ s.headRuns h then .next s
  else
    let x := s.head h
    match x.latched with
    | none => .next (s.sendRow h none)
    | some b =>
      let a := scanPicture b
      let m := ioMaster 0 26
      if a.img.th ≤ x.row then .next s
      else if ¬ ready then .next (s.underrunRow h)
      else
        let reads := (a.img.rowBlocks x.row).flatMap (fun q => s.blockReads a q.1 q.2)
        match reads.findSome? (fun r => (s.memRefusal m r.1 r.2).map (fun e => (e, r.1))), reads.findSome? (fun r => s.poisoned r.1 r.2) with
        | some (e, at'), _ => .next ((s.fabLog e.2 false e.1 at' m true).underrunRow h)
        | none, some g => .next ((s.readUe g (agentOf m)).underrunRow h)
        | none, none => .next ((reads.foldl (fun (t : State) r => t.wake r.1 r.2) s).sendRow h (some (s.rowPixels a x.row)))

/-- HPD_CHANGE (R341): the head stops until the next DISP_MODE. -/
def execHpdChange (h : Nat) (level : Bool) (s : State) : Out :=
  if 4 ≤ h then .next s
  else
    let v := s.fld 0 .DISP_STATUS_HPD
    if bit v h = level then .next s
    else .next (((s.setFld 0 .DISP_STATUS_HPD 0 (putBits v h h (b2n level))).setHead h { s.head h with stopped := true }).dispEvent .dispHpd h)

/-- A write to a head register: another domain's head sets CONFLICT (R6, R344). -/
def State.headWrite (s : State) (m : Master) (h : Nat) (eff : State → State) : State :=
  if s.otherHolds m 3 0 h then s.flag 0 .DISP_STATUS_CONFLICT else eff s

/-- A write of HEAD_h_IMG_HI: the pair is committed and the image becomes pending (R101, R339). -/
def wrHeadImg (m : Master) (h data : Nat) (s : State) : State :=
  s.headWrite m h (fun s =>
    let a := s.pairLow 0 .HEAD_IMG_LO h (s.fld 0 .HEAD_IMG_ADDR h) + bits data 15 0 * 2 ^ 32
    ((s.setFld 0 .HEAD_IMG_ADDR h a).offer h (.at a)).dropLow 0 .HEAD_IMG_LO h)

/-- HEAD_h_CTRL (R341). -/
def wrHeadCtrl (m : Master) (h data : Nat) (s : State) : State :=
  s.headWrite m h (fun s => s.setFlds 0 h [(.HEAD_CTRL_EN, bits data 31 31), (.HEAD_CTRL_BPC10, bits data 30 30)])

/-- HEAD_h_PCLK (R344). -/
def wrHeadPclk (m : Master) (h data : Nat) (s : State) : State :=
  s.headWrite m h (fun s =>
    let k := bits data 19 0
    if 25000 ≤ k ∧ k ≤ 600000 then s.setFld 0 .HEAD_PCLK_KHZ h k else s.flag 0 .RAS_STATUS_BADCFG)

/-- HEAD_IMG_HI_WRITE. -/
def execHeadImgHiWrite (m : Master) (h : Nat) (data : Word) (s : State) : Out :=
  if 4 ≤ h then .next s
  else .next (s.regWrite m 0 .DISPLAY (0x11C + 0x40 * h) data (wrHeadImg m h data.toNat))

/-- HEAD_CTRL_EN_WRITE. -/
def execHeadCtrlEnWrite (m : Master) (h : Nat) (data : Word) (s : State) : Out :=
  if 4 ≤ h then .next s
  else .next (s.regWrite m 0 .DISPLAY (0x100 + 0x40 * h) data (wrHeadCtrl m h data.toNat))

/-- The rates of a link in units of 10 kb/s per lane: RBR, HBR, HBR2, HBR3 (R337). The eDP intermediate rates are those of eDP 1.4b, outside the spec. -/
def linkRate : Nat → Nat
  | 0 => 162000 | 1 => 270000 | 2 => 540000 | 3 => 810000
  | 4 => 216000 | 5 => 243000 | 6 => 324000 | _ => 432000

/-- HEAD_h_LINK as a word. -/
def State.linkImage (s : State) (h : Nat) : Nat :=
  s.fld 0 .HEAD_LINK_TRAINED h * 2 ^ 31 + s.fld 0 .HEAD_LINK_LANES h * 16 + s.fld 0 .HEAD_LINK_RATE h

/-- DISP_MODE: the SCH trains the link; `training` is what the link reached, lanes and rate (R337, R343). -/
def execDispMode (r : Req) (c : DispModeCfg) (training : Option (Nat × Nat)) (s : State) : Out :=
  .next (s.serve r 0x0610 none (fun s =>
    let h := c.head
    if 4 ≤ h ∨ 2 ≤ c.link ∨ ¬ (c.maxLanes = 1 ∨ c.maxLanes = 2 ∨ c.maxLanes = 4) ∨ ¬ (c.bpc = 8 ∨ c.bpc = 10) ∨ c.pclkKhz < 25000 ∨ 600000 < c.pclkKhz then
      reply s .badMessage
    else if s.holder 3 0 h ≠ r.dom then reply s .denied
    else
      match training with
      | none => reply (s.setFlds 0 h [(.HEAD_LINK_TRAINED, 0), (.HEAD_LINK_LANES, 0), (.HEAD_LINK_RATE, 0)]) .timeout
      | some (lanes, rate) =>
        if c.maxLanes < lanes ∨ ¬ (lanes = 1 ∨ lanes = 2 ∨ lanes = 4) ∨ 8 ≤ rate ∨ (c.link = 0 ∧ 4 ≤ rate) then reply s .timeout
        else if lanes * linkRate rate * 10 * 8 < c.pclkKhz * 3 * c.bpc * 10 then reply s .noResource
        else
          let w (x : Word) (hi lo : Nat) := bits x.toNat hi lo
          let s1 := s.setFlds 0 h [(.HEAD_CTRL_EN, 1), (.HEAD_CTRL_BPC10, b2n (decide (c.bpc = 10))), (.HEAD_PCLK_KHZ, c.pclkKhz),
            (.HEAD_HTIME_H_TOTAL, w c.htime 31 16), (.HEAD_HTIME_H_ACTIVE, w c.htime 15 0), (.HEAD_HSYNC_POL, w c.hsync 31 31),
            (.HEAD_HSYNC_WIDTH, w c.hsync 30 16), (.HEAD_HSYNC_START, w c.hsync 15 0), (.HEAD_VTIME_V_TOTAL, w c.vtime 31 16),
            (.HEAD_VTIME_V_ACTIVE, w c.vtime 15 0), (.HEAD_VSYNC_POL, w c.vsync 31 31), (.HEAD_VSYNC_WIDTH, w c.vsync 30 16),
            (.HEAD_VSYNC_START, w c.vsync 15 0), (.HEAD_FILL_COLOUR, w c.fill 29 0), (.HEAD_LINK_TRAINED, 1), (.HEAD_LINK_LANES, lanes),
            (.HEAD_LINK_RATE, rate)]
          let s2 := s1.setHead h { s1.head h with stopped := false }
          reply s2 .ok (leBytes 4 (s2.linkImage h))))

/-- DISP_FLIP (R339). -/
def execDispFlip (r : Req) (h addr : Nat) (s : State) : Out :=
  .next (s.serve r 0x0611 none (fun s =>
    if 4 ≤ h ∨ 2 ^ 48 ≤ addr ∨ (memLoc s.part addr).isNone then reply s .badMessage
    else if s.holder 3 0 h ≠ r.dom then reply s .denied
    else reply (s.offer h (.at addr)) .ok))

/-- DISP_STATUS as a word. -/
def State.dispStatus (s : State) : Nat :=
  s.fld 0 .DISP_STATUS_CONFLICT * 2 ^ 16 + s.fld 0 .DISP_STATUS_HPD * 2 ^ 12 + s.fld 0 .DISP_STATUS_UNDERRUN * 16 + s.fld 0 .DISP_STATUS_REPEAT

/-- DISP_QUERY (R343). -/
def execDispQuery (r : Req) (h : Nat) (s : State) : Out :=
  .next (s.serve r 0x0612 none (fun s =>
    if 4 ≤ h then reply s .badMessage
    else reply s .ok (leBytes 4 s.dispStatus ++ leBytes 4 (s.fld 0 .HEAD_REPEAT_COUNT h) ++ leBytes 4 (s.fld 0 .HEAD_UNDERRUN_COUNT h) ++
      leBytes 4 (s.linkImage h) ++ leBytes 8 (s.fld 0 .HEAD_VBLANK_TIME h))))

/-- DISP_OFF: as EN 0, and the link is released (R343). -/
def execDispOff (r : Req) (h : Nat) (s : State) : Out :=
  .next (s.serve r 0x0613 none (fun s =>
    if 4 ≤ h then reply s .badMessage
    else if s.holder 3 0 h ≠ r.dom then reply s .denied
    else reply (s.setFlds 0 h [(.HEAD_CTRL_EN, 0), (.HEAD_LINK_TRAINED, 0), (.HEAD_LINK_LANES, 0), (.HEAD_LINK_RATE, 0)]) .ok))

/-- DISPLAY_RESERVE_START (R293): LEAD before the blank of the silo's head, the killable Class I and B commands on its cores are killed. -/
def execDisplayReserveStart (d k : Nat) (s : State) : Out :=
  if ¬ s.hasDie d ∨ 16 ≤ k then .next s
  else
    let x := s.silo d k
    if s.fld d .SILO_CFG_EN k = 0 ∨ s.fld d .SILO_CFG_CLASS k ≠ 1 ∨ s.fld d .SILO_TIME_LEAD k = 0 ∨ x.reserveStart.isSome ∨ x.frameDone then .next s
    else
      let s1 := (s.setFld d .SILO_STAT_RESERVE k 1).setSilo d k { x with reserveStart := some s.now, classSTime := 0, reserveHead := s.fld d .SILO_CFG_HEAD k }
      .next (s1.killWhere d true (fun r p => match r with
        | .core c _ => decide (3 ≤ p.cls) && bit (s1.fld d .SILO_MASK_MASK k) c
        | .raster _ => false))

end Sys2Proof.Machine
end

