-- ==== Sys2Proof/Machine/Place.lean ====
section
/-!
DEFINITION. Machine/Place.lean: placement, time slices and pre-emption (R275, R281, R282, R291, R292, R293, R417, R456), and the row
COMMAND_PLACE: one placing pass of the SCH of a die.
-/
namespace Sys2Proof.Machine

/-- A placeable command: its queue, its sheaf, its index and its descriptor; none for a slot that cannot be read. -/
structure Cand where
  queue : Nat
  sheaf : Sheaf
  idx : Nat
  desc : Option (List Byte)

/-- The bytes of a slot of the KV table region of a die (R246). -/
def State.kvBytes (s : State) (d i n : Nat) : List Byte := s.bytes (kvBase d + 16 * i) n

/-- Sequences that a fused command names, with whether it writes them (R254 to R257, R267). -/
def State.sequences (s : State) (b : List Byte) : List (Nat × Bool) :=
  if ¬ descFused b then []
  else
    match descOp b with
    | 0x11 => [(leAt b 20 4, true)]
    | 0x12 => [(leAt b 16 4, true), (leAt b 20 4, true)]
    | 0x13 => [(leAt b 16 4, true)]
    | 0x10 =>
      match s.bufOf (descOp2 b) with
      | some e => (List.range (min 256 (leAt b 20 2))).map (fun i => (s.loadNat (e.base + leAt b 32 4 + 16 * i) 4, bit (leAt b 18 1) 2))
      | none => []
    | _ => []

/-- Whether a sequence's pool is spilled or moving (R268). -/
def State.poolAway (s : State) (d q : Nat) : Bool :=
  match s.bufOf (leNat (s.kvBytes d (leNat (s.kvBytes d q 4)) 4)) with
  | some e => e.spilled || e.moving
  | none => false

/-- Whether a command must wait for another that names its sequences, or for a pool (R267, R268). -/
def State.seqWaits (s : State) (d : Nat) (b : List Byte) : Bool :=
  let mine := s.sequences b
  mine.any (fun m => s.poolAway d m.1) ||
  (s.slotsOf d).any (fun e => (s.sequences e.2.desc).any (fun o => mine.any (fun m => decide (m.1 = o.1) && (m.2 || o.2))))

/-- Whether a command names a buffer that is spilled or moving (R154). -/
def State.bufferAway (s : State) (b : List Byte) : Bool :=
  (s.handlesOf b).any (fun h => match s.bufOf h with
    | some e => e.spilled || e.moving
    | none => false)

/-- Whether the sheaf before one in its queue lets its first command be placed (R275). -/
def mayFollow (prev : Option Sheaf) (h : Sheaf) : Bool :=
  match prev with
  | none => true
  | some p => if h.serial then p.done else p.done || p.ending.isSome || decide (p.high = p.count)

/-- Whether a command of an earlier sheaf of the queue waits unplaced for a sequence that this one names, so that queue order on the sequence is kept (R267). -/
def State.seqBehind (s : State) (q : Queue) (h : Sheaf) (b : List Byte) : Bool :=
  let mine := s.sequences b
  !mine.isEmpty && (q.flight.takeWhile (fun e => decide (e.hdr ≠ h.hdr))).any (fun e => !e.done && e.ending.isNone &&
    (e.cmds.zipIdx.filter (fun c => decide (c.1 = CmdPos.unplaced))).any (fun c =>
      (s.sequences (s.bytes (q.slotAddr (e.hdr + 1 + c.2)) 64)).any (fun o => mine.any (fun m => decide (m.1 = o.1) && (m.2 || o.2)))))

/-- The command that a sheaf offers for placement (R275, R276, R281). -/
def State.candOf (s : State) (id : Nat) (q : Queue) (prev : Option Sheaf) (h : Sheaf) : Option Cand :=
  if h.done ∨ h.ending.isSome ∨ h.ready.isNone ∨ s.inReset q.fn ∨ q.state = 0 ∨ q.state = 3 ∨ q.heldRecords ≠ [] ∨
      (h.high = 0 ∧ ¬ mayFollow prev h) ∨ (s.blackout 2 (id / 65536) ∧ (id, h.hdr) ∉ s.fw.early) then none
  else
    match firstIdx (fun p => decide (p = CmdPos.unplaced)) 0 h.cmds with
    | none => none
    | some i =>
      let a := q.slotAddr (h.hdr + 1 + i)
      if (s.poisoned a 64).isSome then some ⟨id, h, i, none⟩
      else
        let b := s.bytes a 64
        if descFence b ∧ ¬ (h.cmds.take i).all (fun p => decide (p = CmdPos.committed)) then none
        else if s.bufferAway b ∨ s.seqWaits (id / 65536) b ∨ s.seqBehind q h b then none
        else some ⟨id, h, i, some b⟩

/-- The offers of a queue's sheaves, each with the sheaf before it. -/
def State.candsOf (s : State) (id : Nat) (q : Queue) : Option Sheaf → List Sheaf → List Cand
  | _, [] => []
  | prev, h :: hs =>
    match s.candOf id q prev h with
    | some c => c :: s.candsOf id q (some h) hs
    | none => s.candsOf id q (some h) hs

/-- Every placeable command of a die. -/
def State.candidates (s : State) (d : Nat) : List Cand :=
  ((s.q.queues.filter (fun e => decide (e.1 / 65536 = d))).map (fun e => s.candsOf e.1 e.2 none e.2.flight)).flatten

/-- The place of a queue in its silo's rotation (R291). -/
def State.rotationPlace (s : State) (d k id : Nat) : Nat :=
  let qs := sortBy (fun a b => decide (a ≤ b)) ((s.q.queues.filter (fun e => decide (e.1 / 65536 = d) && e.2.flight.any (fun h => decide (h.silo = k)))).map (fun e => e.1))
  let i := qs.findIdx (fun x => decide (x = id))
  let n := max 1 qs.length
  (i + n - (s.silo d k).rotation % n) % n

/-- The order of R291 as a list compared from its first element on. -/
def State.rank (s : State) (d : Nat) (c : Cand) : List Int :=
  let k := c.sheaf.silo
  let slot := match c.desc with
    | some b => descSlot b
    | none => .te
  [c.sheaf.cls, if (s.coresHeld d k (some slot)).length < s.fld d .SILO_CFG_G_MIN k then 0 else 1, - s.deficit d k, k,
   s.rotationPlace d k c.queue, countDist c.sheaf.hdr ((s.queue c.queue).map (·.sqHead) |>.getD 0), c.idx]

/-- Lexicographic order. -/
def lexLe : List Int → List Int → Bool
  | [], _ => true
  | _ :: _, [] => false
  | a :: as, b :: bs => if a < b then true else if b < a then false else lexLe as bs

/-- The commands of a pass in the order of R291. -/
def State.ordered (s : State) (d : Nat) : List Cand :=
  (sortBy (fun a b => lexLe a.1 b.1) ((s.candidates d).map (fun c => (s.rank d c, c)))).map (fun e => e.2)

/-- The header check of the SCH (R282, R418): 0 when it passes. -/
def headerCode (b : List Byte) (cls : Nat) : Nat :=
  if 6 ≤ descEngine b then 1
  else if bit (leAt b 0 2) 15 ∨ leAt b 2 2 ≠ 0 ∨ (descInPlace b ∧ descKillable b) then 2
  else if descChecked b ∧ (cls ≠ 0 ∨ descEngine b = 4 ∨ ¬ descKillable b) then 3
  else 0

/-- What stands in the way of a command on a core: its slot, the VE slot for a fused command, a fused command for the VE slot (R254, R291). -/
def State.blockers (s : State) (d c : Nat) (b : List Byte) : List (SlotRef × Placed) :=
  (s.slotsOf d).filter (fun e => match e.1 with
    | .core c' x => decide (c' = c) && (decide (x = descSlot b) || (descFused b && decide (x = .ve)) || (decide (descSlot b = .ve) && descFused e.2.desc))
    | .raster _ => false)

/-- Whether a mismatch sequence holds the slots that a command needs on a core (R422). -/
def State.sequenceHolds (s : State) (d c : Nat) (b : List Byte) : Bool :=
  s.inSequence d (.core c (descSlot b)) || (descFused b && s.inSequence d (.core c .ve))

/-- Whether a core may serve a silo at all: a member, not removed (R424), not outside the Class S silos (R457), not reserved for another silo
(R293), its CCC not in an update blackout (R131). -/
def State.coreServes (s : State) (d k cls c : Nat) : Bool :=
  bit (s.fld d .SILO_MASK_MASK k) c && !bit (s.fld d .COMMIT_OUT_CORES) c &&
  !(decide (cls = 0) && (decide (s.fld d .GLN_CORE_S_EXCLUDED c = 1) || decide ((d, k, c) ∈ s.safe.rejoin))) &&
  !(decide (cls ≠ 0) && (List.range 16).any (fun x => decide (x ≠ k) && decide (s.fld d .SILO_STAT_RESERVE x = 1) && bit (s.fld d .SILO_MASK_MASK x) c)) &&
  !(match s.fw.activation with
    | some a => decide (a.phase = .blackout) && decide (a.last = ⟨3, d, c / 8⟩)
    | none => false) && decide ((d, 4 + c / 8) ∉ s.boot.down) && decide (s.fld d .PWR_STATUS_TRIP = 0)

/-- Whether throttling keeps a silo from a core now (R490). -/
def State.throttled (s : State) (d k cls c : Nat) : Bool :=
  match throttle (s.fld d .PWR_STATUS_LEVEL) cls with
  | 0 => false
  | 1 =>
    let held := s.coresHeld d k none
    decide (c ∉ held) && decide (ceilDiv (s.members d k).length 2 ≤ held.length)
  | _ => true

/-- Member cores free for a command, in ascending index; with `testing`, those kept only by a Gleaner test. -/
def State.freeCores (s : State) (d : Nat) (h : Sheaf) (b : List Byte) (testing : Bool) : List Nat :=
  (List.range 48).filter (fun c => s.coreServes d h.silo h.cls c && !s.throttled d h.silo h.cls c && !s.sequenceHolds d c b && (s.blockers d c b).isEmpty &&
    (decide (s.fld d .GLN_CORE_TESTING c = 1) == testing))

/-- First free core, and for a checked command the first free core of another cluster (R291). -/
def pickCores (free : List Nat) (checked : Bool) : Option (Nat × Option Nat) :=
  match free with
  | [] => none
  | c :: cs => if checked then (cs.find? (fun x => decide (x / 8 ≠ c / 8))).map (fun x => (c, some x)) else some (c, none)

/-- Kill the Gleaner test of a core (R456). -/
def State.killTest (s : State) (d c : Nat) : State := (s.setFld d .GLN_CORE_TESTING c 0).addSat d .GLN_CORE_KILLS c 1

/-- Whether R292 lets a command kill another: a lower class, or the same class while X lacks G_MIN and the other's silo exceeds its own. -/
def State.mayKill (s : State) (d : Nat) (h : Sheaf) (b : List Byte) (e : SlotRef × Placed) : Bool :=
  descKillable e.2.desc && decide (e.2.cls ≠ 0) && !s.inSequence d e.1 &&
  (decide (h.cls < e.2.cls) ||
   (decide (h.cls = e.2.cls) && decide (h.silo ≠ e.2.silo) &&
    decide ((s.coresHeld d h.silo (some (descSlot b))).length < s.fld d .SILO_CFG_G_MIN h.silo) &&
    decide ((s.coresHeld d e.2.silo none).length > s.fld d .SILO_CFG_G_MIN e.2.silo)))

/-- Cores that pre-emption could free for a command, best first: lowest class, silo furthest above its share, highest index (R292). -/
def State.victims (s : State) (d : Nat) (h : Sheaf) (b : List Byte) : List Nat :=
  let cs := (List.range 48).filter (fun c => s.coreServes d h.silo h.cls c && !s.throttled d h.silo h.cls c && !s.sequenceHolds d c b &&
    decide (s.fld d .GLN_CORE_TESTING c = 0) && !(s.blockers d c b).isEmpty && (s.blockers d c b).all (s.mayKill d h b))
  let key (c : Nat) : List Int := match s.blockers d c b with
    | e :: _ => [-(e.2.cls : Int), s.deficit d e.2.silo, -(c : Int)]
    | [] => []
  (sortBy (fun x y => lexLe x.1 y.1) (cs.map (fun c => (key c, c)))).map (fun e => e.2)

/-- Kill what stands on a core for a command. -/
def State.clearCore (s : State) (d c : Nat) (b : List Byte) : State := (s.blockers d c b).foldl (fun t e => t.kill d e.1 true) s

/-- The state and cores after pre-emption, when it can serve the command (R292). -/
def State.preempt (s : State) (d : Nat) (h : Sheaf) (b : List Byte) (free : List Nat) : Option (State × Nat × Option Nat) :=
  let vs := s.victims d h b
  if ¬ descChecked b then vs.head?.map (fun c => (s.clearCore d c b, c, none))
  else
    match free with
    | c :: _ => (vs.find? (fun x => decide (x / 8 ≠ c / 8))).map (fun x => (s.clearCore d x b, min c x, some (max c x)))
    | [] =>
      match vs with
      | [] => none
      | x :: xs => (xs.find? (fun y => decide (y / 8 ≠ x / 8))).map (fun y => ((s.clearCore d x b).clearCore d y b, min x y, some (max x y)))

/-- Put a command into a slot (R286, R291). -/
def State.putIn (s : State) (c : Cand) (b : List Byte) (r : SlotRef) (copy : Bool) (other : Option SlotRef) : State :=
  let fn := match s.queue c.queue with
    | some q => (q.fn, q.gen)
    | none => (noDom, 0)
  let p : Placed := ⟨c.queue, c.sheaf.hdr, c.idx, b, s.now, fn.1, fn.2, c.sheaf.silo, c.sheaf.cls, false, 0, copy, other, [], [], [], (0, 0, 0), [], false, 0, [], (0, 0), 0, none⟩
  (s.setPlaced (c.queue / 65536) r p).showActive (c.queue / 65536) r p true

/-- Record a placement in the sheaf, and judge WAIT_MAX at its first (R295, KIND 2). -/
def State.notePlaced (s : State) (d : Nat) (c : Cand) : State :=
  match s.sheaf c.queue c.sheaf.hdr with
  | none => s
  | some h =>
    let s1 := s.setSheaf c.queue { h with cmds := setAt h.cmds c.idx .placed, high := max h.high (c.idx + 1), first := some (h.first.getD s.now) }
    let most := s.fld d .SILO_TIME_WAIT_MAX h.silo * 1000
    let waited := s.now - h.ready.getD s.now
    if h.first.isNone ∧ most ≠ 0 ∧ most < waited then s1.guaranteeBroken d h.silo 2 (ceilDiv (waited - most) 1000) h.took c.queue else s1

/-- Place a command on cores. -/
def State.placeOn (s : State) (d : Nat) (c : Cand) (b : List Byte) (core : Nat) (chk : Option Nat) : State :=
  let slot := descSlot b
  let s1 := match chk with
    | none => s.putIn c b (.core core slot) false none
    | some x => (s.putIn c b (.core core slot) false (some (.core x slot))).putIn c b (.core x slot) true (some (.core core slot))
  s1.notePlaced d c

/-- The raster context of a command (R331): the compositor context takes RENDER of Class D silos with LEAD above 0. -/
def State.rasterCtx (s : State) (d : Nat) (c : Cand) (b : List Byte) : Nat :=
  if descOp b = 1 ∧ c.sheaf.cls = 1 ∧ s.fld d .SILO_TIME_LEAD c.sheaf.silo > 0 then 1 else 0

/-- Try to place a raster command (R331). -/
def State.tryRaster (s : State) (d : Nat) (c : Cand) (b : List Byte) : State × Bool :=
  let x := s.rasterCtx d c b
  if (s.placed d (.raster x)).isSome ∨ throttle (s.fld d .PWR_STATUS_LEVEL) c.sheaf.cls = 2 then (s, false)
  else if x = 0 ∧ (List.range 16).any (fun k => decide (k ≠ c.sheaf.silo) && decide (s.fld d .SILO_STAT_RESERVE k = 1)) then (s, false)
  else
    let s1 := if x = 1 then s.killWhere d true (fun r p => decide (r = .raster 0) && decide (3 ≤ p.cls)) else s
    ((s1.putIn c b (.raster x) false none).notePlaced d c, true)

/-- Try to place one command: whether anything changed. -/
def State.tryPlace (s : State) (d : Nat) (c : Cand) : State × Bool :=
  match c.desc with
  | none => (s.endSheaf c.queue c.sheaf.hdr 2 8 c.idx, true)
  | some b =>
    let code := headerCode b c.sheaf.cls
    if code ≠ 0 then (s.endSheaf c.queue c.sheaf.hdr 7 code c.idx, true)
    else if descEngine b = 4 then s.tryRaster d c b
    else
      let free := s.freeCores d c.sheaf b false
      match pickCores free (descChecked b) with
      | some (m, x) => (s.placeOn d c b m x, true)
      | none =>
        let tests := if c.sheaf.cls = 0 then s.freeCores d c.sheaf b true else []
        match tests with
        | t :: _ => (s.killTest d t, true)
        | [] =>
          match s.preempt d c.sheaf b free with
          | some (s1, m, x) => (s1.placeOn d c b m x, true)
          | none =>
            (match s.sheaf c.queue c.sheaf.hdr with
              | some h => s.setSheaf c.queue { h with took := s.takerClass d h.silo }
              | none => s, false)

/-- Try each command of a pass in order until one changes something. -/
def State.tryAll (s : State) (d : Nat) : List Cand → State × Bool
  | [] => (s, false)
  | c :: cs =>
    let r := s.tryPlace d c
    if r.2 then r else r.1.tryAll d cs

/-- A placing pass: place in order until nothing more can be placed. -/
def State.placePass (d : Nat) : Nat → State → State
  | 0, s => s
  | n + 1, s =>
    let r := s.tryAll d (s.ordered d)
    if r.2 then State.placePass d n r.1 else r.1

/-- Note for the share guarantee which silos had placeable work (R295, KIND 1). -/
def State.noteWork (s : State) (d : Nat) : State :=
  let cs := s.candidates d
  (List.range 16).foldl (fun t k =>
    if t.fld d .SILO_CFG_EN k = 1 then
      let x := t.silo d k
      let w := cs.any (fun c => decide (c.sheaf.silo = k))
      t.setSilo d k { x with gap := x.gap || !w, worked := x.worked || w }
    else t) s

/-- Steps that a pass can take: every command in flight may be placed, and every sheaf ended. -/
def State.passBound (s : State) (d : Nat) : Nat :=
  2 * (s.q.queues.foldl (fun a e => if e.1 / 65536 = d then a + e.2.flight.foldl (fun b h => b + h.count + 1) 0 else a) 0) + 49

/-- COMMAND_PLACE: one placing pass (R291). -/
def execCommandPlace (d : Nat) (s : State) : Out :=
  ifUnit (s.hasDie d) s (if s.fwRuns d then State.placePass d (s.passBound d) (s.noteWork d) else s)

end Sys2Proof.Machine
end

