-- ==== Sys2Proof/Machine/KvTable.lean ====
section
/-!
DEFINITION. Machine/KvTable.lean: the tables of the key-value cache in the Loft (R246 to R252), and the step that applies a command's changes to them
(R250, R264, R266).
-/
namespace Sys2Proof.Machine

/-- Slots of the KV region of a die (R246). -/
def State.kvSlots (s : State) (d : Nat) : Nat := 65536 * s.fld d .LOFT_MAP_KV_MIB

/-- Slots under change: (slot, 16 bytes), over the region. -/
abbrev KvView := List (Nat × List Byte)

/-- A slot as a view shows it. -/
def State.kvSlot (s : State) (d : Nat) (v : KvView) (i : Nat) : List Byte := (lookup? v i).getD (s.kvBytes d i 16)

/-- Replace bytes of a slot in a view. -/
def State.kvPut (s : State) (d : Nat) (v : KvView) (i off : Nat) (bs : List Byte) : KvView :=
  let x := s.kvSlot d v i
  insertKV v i (x.take off ++ bs ++ x.drop (off + bs.length))

/-- The null index (R246). -/
def kvNull : Nat := 0xFFFFFFFF

/-- A pool record (R250). -/
structure KvPool where
  slot : Nat
  handle : Nat
  pages : Nat
  free : Nat
  base : Nat
  head : Nat
deriving DecidableEq, Repr

/-- Read a pool record through a view. -/
def State.kvPool (s : State) (d : Nat) (v : KvView) (i : Nat) : KvPool :=
  let b := s.kvSlot d v i
  ⟨i, leAt b 0 4, leAt b 4 2, leAt b 6 2, leAt b 8 4, leAt b 12 4⟩

/-- A page-table entry (R249). -/
structure KvPte where
  pool : Nat
  page : Nat
  ref : Nat
  live : Nat
  bank : Nat
  next : Nat
deriving DecidableEq, Repr

/-- Read a page-table entry through a view. -/
def State.kvPte (s : State) (d : Nat) (v : KvView) (i : Nat) : KvPte :=
  let b := s.kvSlot d v i
  ⟨leAt b 0 4, leAt b 4 2, leAt b 6 2, leAt b 8 1, leAt b 9 1 % 2, leAt b 12 4⟩

/-- The free chain of a pool from an entry on; the first argument bounds it. -/
def State.kvChain (s : State) (d : Nat) (v : KvView) : Nat → Nat → List Nat
  | 0, _ => []
  | n + 1, i => if i = kvNull then [] else i :: s.kvChain d v n (s.kvPte d v i).next

/-- Take a page out of its pool's chain: the entry before it, or FREE_HEAD, names the one after it (R250). -/
def State.kvUnchain (s : State) (d : Nat) (v : KvView) (i : Nat) : KvView :=
  let e := s.kvPte d v i
  let p := s.kvPool d v e.pool
  let v1 := s.kvPut d v e.pool 6 (leBytes 2 (p.free - 1))
  if p.head = i then s.kvPut d v1 e.pool 12 (leBytes 4 e.next)
  else
    match (s.kvChain d v p.pages p.head).find? (fun x => decide ((s.kvPte d v x).next = i)) with
    | some x => s.kvPut d v1 x 12 (leBytes 4 e.next)
    | none => v1

/-- Return a page to the head of its pool's chain (R250). -/
def State.kvGive (s : State) (d : Nat) (v : KvView) (i : Nat) : KvView :=
  let e := s.kvPte d v i
  let p := s.kvPool d v e.pool
  let v1 := s.kvPut d (s.kvPut d v i 6 (leBytes 2 0 ++ leBytes 1 0)) i 12 (leBytes 4 p.head)
  s.kvPut d (s.kvPut d v1 e.pool 6 (leBytes 2 (p.free + 1))) e.pool 12 (leBytes 4 i)

/-- Apply one change; the Bool tells whether a REFCNT would have fallen below 0 (R264). -/
def State.kvStep (s : State) (d : Nat) (a : KvView × Bool) : KvOp → KvView × Bool
  | .put i bs => (s.kvPut d a.1 i 0 bs, a.2)
  | .page i live bank => (s.kvPut d a.1 i 8 (leBytes 1 live ++ leBytes 1 bank), a.2)
  | .take i live bank =>
    let v := s.kvUnchain d a.1 i
    (s.kvPut d (s.kvPut d v i 6 (leBytes 2 1 ++ leBytes 1 live ++ leBytes 1 bank)) i 12 (leBytes 4 kvNull), a.2)
  | .ref i true => (s.kvPut d a.1 i 6 (leBytes 2 ((s.kvPte d a.1 i).ref + 1)), a.2)
  | .ref i false =>
    let n := (s.kvPte d a.1 i).ref
    if n = 0 then (a.1, true)
    else if n = 1 then (s.kvGive d a.1 i, a.2)
    else (s.kvPut d a.1 i 6 (leBytes 2 (n - 1)), a.2)

/-- Apply changes in order (R266): the slots that come out changed. -/
def State.kvApply (s : State) (d : Nat) (ops : List KvOp) : KvView × Bool := ops.foldl (s.kvStep d) ([], false)

/-- Write the slots of a view into the Loft, and show TABLE_ERR. -/
def State.kvCommit (s : State) (d : Nat) (r : KvView × Bool) : State :=
  let s1 := r.1.foldl (fun (t : State) (w : Nat × List Byte) => t.write (kvBase d + 16 * w.1) w.2) s
  if r.2 then s1.flag d .KV_STATUS_TABLE_ERR else s1

/-- Fresh pages that commands in flight have taken, but for a copy of the same command (R266). -/
def State.kvReserved (s : State) (d : Nat) (but : Option SlotRef) : List Nat :=
  ((s.slotsOf d).filter (fun e => decide (some e.1 ≠ but))).flatMap (fun e => e.2.table.filterMap (fun o => match o with
    | .take i _ _ => some i
    | _ => none))

/-- A sequence record (R251). -/
structure KvSeq where
  slot : Nat
  pool : Nat
  heads : Nat
  dim : Nat
  flags : Nat
  rows : Nat
  maxRows : Nat
  budget : Nat
  recent : Nat
  reserve : Nat
  decay : Nat
  nextPos : Nat
  live : Nat
  list : Nat
deriving DecidableEq, Repr

/-- Read a sequence record through a view. -/
def State.kvSeq (s : State) (d : Nat) (v : KvView) (i : Nat) : KvSeq :=
  let b := s.kvSlot d v i ++ s.kvSlot d v (i + 1)
  ⟨i, leAt b 0 4, leAt b 4 1, leAt b 5 1, leAt b 6 1, leAt b 8 2, leAt b 10 2, leAt b 12 2, leAt b 14 2, leAt b 16 2, leAt b 18 2, leAt b 20 4, leAt b 24 4,
    leAt b 28 4⟩

/-- The first 32 bytes of a record; the rest is zero. -/
def KvSeq.bytes (q : KvSeq) : List Byte :=
  leBytes 4 q.pool ++ leBytes 1 q.heads ++ leBytes 1 q.dim ++ leBytes 1 q.flags ++ leBytes 1 0 ++ leBytes 2 q.rows ++ leBytes 2 q.maxRows ++
  leBytes 2 q.budget ++ leBytes 2 q.recent ++ leBytes 2 q.reserve ++ leBytes 2 q.decay ++ leBytes 4 q.nextPos ++ leBytes 4 q.live ++ leBytes 4 q.list

/-- The two slots that a changed record writes. -/
def KvSeq.puts (q : KvSeq) : List KvOp := [.put q.slot (q.bytes.take 16), .put (q.slot + 1) (q.bytes.drop 16)]

/-- Values of a record in their ranges (R251). -/
def KvSeq.rangesOk (q : KvSeq) : Bool :=
  decide (1 ≤ q.heads) && decide (q.heads ≤ 4) && (decide (q.dim = 32) || decide (q.dim = 64) || decide (q.dim = 96) || decide (q.dim = 128)) &&
  decide (q.flags < 16) && decide (1 ≤ q.maxRows) && decide (q.maxRows ≤ 256) && decide (1 ≤ q.budget) && decide (q.budget ≤ q.maxRows) &&
  decide (q.recent ≤ 4096) && decide (q.reserve ≤ 1024) && decide (q.decay ≤ 0x3C00) && decide (q.nextPos ≤ 32768) && decide (q.rows ≤ q.maxRows)

/-- A pool record that stands: within the region, its buffer of a silo large enough (R247, R250). -/
def State.poolValid (s : State) (d : Nat) (p : KvPool) (silo : Nat) : Bool :=
  decide (p.slot < s.kvSlots d) && decide (1 ≤ p.pages) && decide (p.base + p.pages ≤ s.kvSlots d) && decide (handleSilo p.handle = silo) &&
  (match s.bufOf p.handle with
   | some e => decide (34816 * p.pages ≤ e.length)
   | none => false)

/-- A sequence that stands in a silo (R251, R258). -/
def State.seqValid (s : State) (d i silo : Nat) : Bool :=
  let q := s.kvSeq d [] i
  decide (i % 4 = 0) && decide (i + 4 ≤ s.kvSlots d) && decide (q.flags % 2 = 1) && q.rangesOk && decide (q.list + q.maxRows ≤ s.kvSlots d) &&
  s.poolValid d (s.kvPool d [] q.pool) silo

/-- The page entries of row j: one for each head (R252). -/
def State.kvRow (s : State) (d : Nat) (q : KvSeq) (j : Nat) : List Nat :=
  let b := s.kvSlot d [] (q.list + j)
  (List.range q.heads).map (fun h => leAt b (4 * h) 4)

/-- The bytes of a row entry. -/
def rowEntry (ptes : List Nat) : List Byte := ((ptes ++ List.replicate (4 - ptes.length) kvNull).map (leBytes 4)).flatten

/-- A row is shared when a page of it has REFCNT above 1 (R252). -/
def State.rowShared (s : State) (d : Nat) (ptes : List Nat) : Bool := ptes.any (fun i => decide (1 < (s.kvPte d [] i).ref))

/-- Every row entry of a sequence. -/
def State.kvRows (s : State) (d : Nat) (q : KvSeq) : List (List Nat) := (List.range q.rows).map (s.kvRow d q)

/-- What dropping every row of a sequence changes (R264). -/
def State.releaseOps (s : State) (d : Nat) (q : KvSeq) : List KvOp :=
  (s.kvRows d q).flatten.map (fun i => .ref i false) ++ { q with rows := 0, live := 0, nextPos := 0 }.puts

end Sys2Proof.Machine
end

