-- ==== Sys2Proof/Machine/Commit.lean ====
section
/-!
DEFINITION. Machine/Commit.lean: the commit comparator (R417 to R425), commit (R284, R285), and the rows COMMAND_COMMIT, COMMIT_COMPARE,
MISMATCH_SELFTEST_END and SHADOW_TO_OUTPUT_COPY_END.
-/
namespace Sys2Proof.Machine

/-- One byte into an unreflected CRC-64 of polynomial `p`: eight shifts. -/
def crc64Shift (p : Nat) : Nat → Nat → Nat
  | 0, c => c
  | n + 1, c => crc64Shift p n (if 2 ^ 63 ≤ c then Nat.xor (c * 2 % 2 ^ 64) p else c * 2)

/-- An unreflected CRC-64 over bytes (R420). -/
def crc64Run (p : Nat) : Nat → List Byte → Nat
  | c, [] => c
  | c, b :: bs => crc64Run p (crc64Shift p 8 (Nat.xor c (b.toNat * 2 ^ 56))) bs

/-- The 128-bit signature of R420 over bytes: the low 64 bits from one polynomial, the high 64 bits from the other. -/
def signatureOf (bs : List Byte) : BitVec 128 :=
  BitVec.ofNat 128 (crc64Run 0xAD93D23594C935A9 (2 ^ 64 - 1) bs * 2 ^ 64 + crc64Run 0x42F0E1EBA9EA3693 (2 ^ 64 - 1) bs)

/-- Cut a run of written bytes at the 64-byte words it touches: (word offset, bytes). The first argument bounds the number of words. -/
def wordsOf : Nat → Nat → List Byte → List (Nat × List Byte)
  | 0, _, _ => []
  | _, _, [] => []
  | n + 1, o, bs => let k := 64 - o % 64; (o, bs.take k) :: wordsOf n (o + k) (bs.drop k)

/-- The 64-byte words of a copy's writes. -/
def Placed.words (p : Placed) : List (Nat × List Byte) := (p.writes.map (fun w => wordsOf (w.2.length / 64 + 2) w.1 w.2)).flatten

/-- A write record of R420: output handle, word offset, 64 data bytes with those not written zero, byte enables. -/
def writeRecord (handle : Nat) (w : Nat × List Byte) : List Byte :=
  let a := w.1 % 64
  leBytes 4 handle ++ leBytes 4 (w.1 - a) ++ List.replicate a 0#8 ++ w.2 ++ List.replicate (64 - a - w.2.length) 0#8 ++
  leBytes 8 ((2 ^ w.2.length - 1) * 2 ^ a)

/-- The signature of a copy's run: its write records, the new contents of each Loft slot that its table step would write, in ascending slot order, and the status
record (R420). -/
def State.signature (s : State) (d : Nat) (p : Placed) : BitVec 128 :=
  let slots := sortBy (fun (a b : Nat × List Byte) => decide (a.1 ≤ b.1)) (s.kvApply d p.table).1
  signatureOf ((p.words.map (writeRecord (descOut p.desc))).flatten ++ (slots.map (fun x => x.2)).flatten ++ leBytes 8 p.status)

/-- Offsets and byte enables of a copy's write records, as R423 compares them. -/
def Placed.enables (p : Placed) : List (Nat × Nat) := p.words.map (fun w => (w.1, w.2.length))

/-- The shadow buffer of an output handle: the same silo, index 512 higher (R417). -/
def State.shadowOf (s : State) (h : Nat) : Option BufEnt :=
  if handleIdx h < 512 then lookup? s.memy.bufs (handleDie h, handleSilo h, handleIdx h + 512) else none

/-- Raise EV_MISMATCH for a pair of copies (R438). -/
def State.mismatchEvent (s : State) (m : Mismatch) (outcome : Nat) : State :=
  let h := s.holder 2 m.die m.silo
  s.raise .mismatch m.die h.toNat [(20, 1, outcome), (22, 2, coreMaster m.die (coreOf m.main)), (24, 2, coreMaster m.die (coreOf m.checker)),
    (28, 4, m.queue)] (h :: s.safetyDoms)

/-- A command whose main copy is published (R421): it commits. -/
def State.isPublished (s : State) (d : Nat) (p : Placed) : Bool :=
  p.published || (match p.other with
    | some o => (s.placed d o).any (fun q => q.published)
    | none => false)

/-- A core is removed from service (R424): its killable commands are killed and re-run elsewhere, but one that is published commits (R423). -/
def State.removeCore (s : State) (d c : Nat) : State :=
  let s1 := (s.setFld d .COMMIT_OUT_CORES 0 (setBit (s.fld d .COMMIT_OUT_CORES) c)).flag d .COMMIT_STATUS_REMOVED
  s1.killWhere d true (fun r p => match r with
    | .core x _ => decide (x = c) && !s.isPublished d p
    | .raster _ => false)

/-- SEQ_ACTIVE of a die: a mismatch sequence of a segment or of an AP pair is running (R440). -/
def State.showSeq (s : State) (d : Nat) : State :=
  s.setFld d .COMMIT_STATUS_SEQ_ACTIVE 0 (b2n (s.q.mismatches.any (fun x => decide (x.die = d)) || s.pairs.any (fun e => decide (e.1.1 = d) && (e.2.testing || e.2.second))))

/-- A mismatch sequence ends with an outcome: its event, and SEQ_ACTIVE while none other runs. -/
def State.endSequence (s : State) (m : Mismatch) (outcome : Nat) : State :=
  let s1 := { s with q.mismatches := s.q.mismatches.filter (fun x => !(decide (x.die = m.die) && decide (x.main = m.main))) }
  ((s1.showSeq m.die).mismatchEvent m outcome).freezeCheck m.fn

/-- Count a sequence that removed a unit (R440). -/
def State.countPersistent (s : State) (d : Nat) : State := (s.addSat d .COMMIT_COUNT_PERSISTENT 0 1).titheAdd (titheDie d 0x22A) 1

/-- Count a transient mismatch (R423, R440). -/
def State.countTransient (s : State) (d : Nat) : State :=
  ((s.addSat d .COMMIT_COUNT_TRANSIENT 0 1).flag d .COMMIT_STATUS_TRANSIENT).titheAdd (titheDie d 0x224) 1

/-- Mark both copies published. -/
def State.publish (s : State) (d : Nat) (r : SlotRef) (p : Placed) : State := s.setPlaced d r { p with published := true, left := [], busy := (0, 0) }

/-- Outputs invalid (R423): the sheaf ends OUTPUT_INVALID and both cores are removed. -/
def State.outputsInvalid (s : State) (m : Mismatch) (p : Placed) (outcome : Nat) : State :=
  let s1 := (s.endSequence m outcome).flag m.die .COMMIT_STATUS_INVALID
  let s2 := (s1.leaveBoth m.die m.main).endSheaf p.queue p.hdr 6 0 p.idx
  (((s2.removeCore m.die (coreOf m.main)).removeCore m.die (coreOf m.checker)).countPersistent m.die).freezeCheck p.fn

/-- COMMIT_COMPARE: the two signatures of a segment meet (R419, R421, R422). `difference` is what a fault changed in the checker's signature, and
`cycles` the length of the segment in ARITH_CLK cycles. -/
def execCommitCompare (d : Nat) (r : SlotRef) (difference : BitVec 128) (cycles : Nat) (s : State) : Out :=
  if ¬ s.hasDie d then .next s
  else
    match s.placed d r with
    | none => .next s
    | some p =>
      match p.other with
      | none => .next s
      | some o =>
        match s.placed d o with
        | none => .next s
        | some c =>
          if p.copy ∨ ¬ p.ran ∨ ¬ c.ran ∨ p.published ∨ s.tripped d then .next s
          else
            let s0 := (s.runOut d r).runOut d o
            let s1 := if 5120 < cycles then (s0.addSat d .COMMIT_SEG_OVERRUN_COUNT 0 1).flag d .COMMIT_STATUS_SEG_OVERRUN else s0
            let equal := decide (s.signature d p ^^^ s.signature d c ^^^ difference = 0)
            match s.q.mismatches.find? (fun m => decide (m.die = d) && decide (m.main = r)) with
            | none =>
              if equal then .next (s1.publish d r p)
              else .next ((({ s1 with q.mismatches := s1.q.mismatches ++ [(⟨d, r, o, p.queue, p.silo, p.fn, false, false⟩ : Mismatch)] } : State).flag d .COMMIT_STATUS_MISMATCH).flag d .COMMIT_STATUS_SEQ_ACTIVE)
            | some m =>
              if ¬ m.second then .next s
              else if equal then
                .next (((s1.publish d r p).countTransient d).endSequence m 0)
              else .next (s1.outputsInvalid m p 4)

/-- A copy runs again from its beginning (R422, step 4). -/
def Placed.again (p : Placed) : Placed := { p with ran := false, status := 0, writes := [], atCommit := [], table := [], kv := (0, 0, 0), extra := [], progress := 0, left := [], busy := (0, 0) }

/-- MISMATCH_SELFTEST_END: both cores have run the structural self-test (R422, R423). After a function reset only the cores are judged (R425). -/
def execMismatchSelftestEnd (d : Nat) (r : SlotRef) (mainPass checkerPass : Bool) (s : State) : Out :=
  if ¬ s.hasDie d then .next s
  else
    match s.q.mismatches.find? (fun m => decide (m.die = d) && decide (m.main = r)) with
    | none => .next s
    | some m =>
      if m.second ∨ m.copying ∨ s.tripped d then .next s
      else
        let outcome := if mainPass then (if checkerPass then 0 else 2) else if checkerPass then 1 else 3
        match s.placed d m.main, s.placed d m.checker with
        | some p, some c =>
          if ¬ p.ran ∨ p.other ≠ some m.checker then .next s
          else if mainPass ∧ checkerPass then
            .next ({ (s.setPlaced d m.main p.again).setPlaced d m.checker c.again with
              q.mismatches := s.q.mismatches.map (fun x => if x = m then { m with second := true } else x) })
          else if checkerPass ∧ ¬ mainPass then
            if p.enables = c.enables then
              .next { s with q.mismatches := s.q.mismatches.map (fun x => if x = m then { m with copying := true } else x) }
            else .next (s.outputsInvalid m p 3)
          else if mainPass then
            .next ((((s.publish d m.main p).endSequence m 2).removeCore d (coreOf m.checker)).countPersistent d)
          else .next (s.outputsInvalid m p 3)
        | _, _ =>
          let s1 := s.endSequence m outcome
          let s2 := if mainPass then s1 else s1.removeCore d (coreOf m.main)
          let s3 := if checkerPass then s2 else s2.removeCore d (coreOf m.checker)
          .next (if mainPass ∧ checkerPass then s3 else s3.countPersistent d)

/-- SHADOW_TO_OUTPUT_COPY_END: the checker's bytes stand in the output buffer, the comparator publishes, the main core is removed (R423). A shadow
buffer that is gone counts as both copies failing. -/
def execShadowToOutputCopyEnd (d : Nat) (r : SlotRef) (s : State) : Out :=
  if ¬ s.hasDie d then .next s
  else
    match s.q.mismatches.find? (fun m => decide (m.die = d) && decide (m.main = r) && m.copying) with
    | none => .next s
    | some m =>
      match s.placed d m.main, s.placed d m.checker with
      | some p, some c =>
        match s.bufOf (descOut p.desc), s.shadowOf (descOut p.desc) with
        | some o, some sh =>
          let s1 := s.stores (coreAgent d (coreOf m.main) p) (c.writes.map (fun w => (o.base + w.1, s.bytes (sh.base + w.1) w.2.length)))
          let p' := { p with status := c.status, atCommit := c.atCommit, table := c.table, kv := c.kv, extra := c.extra, writes := c.writes }
          .next ((((s1.publish d m.main p').endSequence m 1).removeCore d (coreOf m.main)).countPersistent d)
        | _, _ => .next (s.outputsInvalid m p 3)
      | _, _ => .next (s.endSequence m 1)

/-- Status flags that a committed command adds to its engine's register (R172, R190, R213). -/
def flagFlds : SlotKind → List (Nat × Fld)
  | .te => [(4, .TE_STATUS_NAN), (5, .TE_STATUS_INF), (6, .TE_STATUS_SAT_INT), (7, .TE_STATUS_SAT_FP)]
  | .ve => [(4, .VE_STATUS_NAN), (5, .VE_STATUS_INF), (6, .VE_STATUS_SAT_INT), (7, .VE_STATUS_SAT_FP)]
  | .xe => [(4, .XE_STATUS_NAN), (5, .XE_STATUS_INF), (6, .XE_STATUS_SAT_INT), (7, .XE_STATUS_TRUNC)]
  | .seq => []

/-- LAST_ERR of an engine (R179, R203, R226). -/
def lastErrFld : SlotKind → Option Fld
  | .te => some .TE_STATUS_LAST_ERR | .ve => some .VE_STATUS_LAST_ERR | .xe => some .XE_STATUS_LAST_ERR | .seq => none

/-- What the engine registers show after a command: its flags, or its error. -/
def State.showStatus (s : State) (d : Nat) (r : SlotRef) (status : Nat) : State :=
  match r with
  | .raster _ => s
  | .core c slot =>
    if status % 16 ≠ 0 then
      match lastErrFld slot with
      | some f => s.setFld d f c status
      | none => s
    else (flagFlds slot).foldl (fun t e => if bit status e.1 then t.flag d e.2 c else t) s

/-- The table step of R266 and the counts it adds (R271). -/
def State.applyTable (s : State) (d : Nat) (p : Placed) : State :=
  let s1 := if p.table = [] then s else s.kvCommit d (s.kvApply d p.table)
  let s2 := (s1.addSat d .KV_COW_COUNT 0 p.kv.1).addSat d .KV_EVICT_COUNT 0 p.kv.2.1
  if bit p.kv.2.2 3 then s2.flag d .KV_STATUS_WINNOW_SHORT else s2

/-- The records of a commit for the standby: output words written and the bitmap (R432). -/
def State.commitRecords (s : State) (p : Placed) : List MirrorRec :=
  let base := match s.bufOf (descOut p.desc) with
    | some e => e.base
    | none => 0
  p.writes.map (fun w => ⟨8, base + w.1, w.2⟩) ++ p.atCommit.map (fun w => ⟨8, w.1, w.2⟩) ++ (if descFused p.desc ∨ descEngine p.desc = 4 then p.extra.map (fun w => ⟨8, w.1, w.2⟩) else []) ++
  (s.kvApply (p.queue / 65536) p.table).1.map (fun w => ⟨8, kvBase (p.queue / 65536) + 16 * w.1, w.2⟩) ++
  (match s.queue p.queue, s.sheaf p.queue p.hdr with
    | some q, some h => [⟨4, p.queue, sheafItem q { h with cmds := setAt h.cmds p.idx .committed }⟩]
    | _, _ => [])

/-- RENDER with PRESENT offers colour attachment 0 to a head (R326, R339). -/
def State.present (s : State) (p : Placed) : State :=
  if descEngine p.desc = 4 ∧ descOp p.desc = 1 ∧ bit (leAt p.desc 45 1) 7 then
    match s.bufOf (descOp1 p.desc) with
    | some e => s.offer (leAt p.desc 45 1 % 4) (.desc (s.bytes (e.base + leAt p.desc 16 4 + 32) 32))
    | none => s
  else s

/-- The golden check at a sheaf's final commit (R359): EXPECT of the stream, as latched (R364), against the signature of the last checked commit. -/
def State.goldenCheck (s : State) (id : Nat) (h : Sheaf) : State :=
  match h.golden with
  | none => s
  | some n =>
    let d := id / 65536
    let expect := (lookup? s.streams (d, n)).elim 0 (fun c => c.gold.2.2)
    if h.signature = some (BitVec.ofNat 128 expect) then s
    else
      let o := s.holder 4 d n
      let s1 := s.raise .goldenFail d o.toNat [(20, 1, n), (24, 8, h.waitValue)] [o]
      s1.source { src := 4, die := d, silo := some h.silo, queue := id, sheaf := h.ident } []

/-- The final commit of a sheaf: the deadline of R294 is judged there, and the golden check made. -/
def State.finalCommit (s : State) (id : Nat) (h : Sheaf) : State :=
  let d := id / 65536
  let t := s.tbNs h.dlTb
  let s1 := s.goldenCheck id h
  if h.cls = 0 ∧ h.deadline < t then
    let o := s1.holder 2 d h.silo
    let s2 := (s1.flag d .SCH_STATUS_DL_MISS).raise .deadlineMiss d o.toNat [(20, 4, id), (24, 4, h.ident), (28, 4, min (t - h.deadline) 0xFFFFFFFF)] (o :: s1.safetyDoms)
    s2.finish id h 1
  else s1.finish id h 0

/-- A commit in the books of its sheaf: flags, the signature of a checked commit as it was before its table step, and the end of the sheaf with its last command. Late work, whose
queue is gone, is discarded (R308). -/
def State.commitBooks (s : State) (p : Placed) (signature : BitVec 128) : State :=
  match s.queue p.queue, s.sheaf p.queue p.hdr with
  | some q, some h =>
    if q.gen ≠ p.gen then s
    else
      let h1 := { h with cmds := setAt h.cmds p.idx .committed, flags := Nat.lor h.flags (p.status / 16 * 16),
                         signature := if p.other.isSome then some signature else h.signature }
      let s1 := s.setSheaf p.queue h1
      if h1.ending.isSome then s1.finishIdle p.queue p.hdr
      else if h1.cmds.all (fun c => decide (c = CmdPos.committed)) then s1.finalCommit p.queue h1
      else s1
  | _, _ => if s.inFlight p.queue p.hdr p.gen then s else s.lateRecord p.fn

/-- A command with KILLABLE 0 that has run past 50 µs is counted when it ends (R285). -/
def State.overrun (s : State) (d : Nat) (p : Placed) : State :=
  if ¬ descKillable p.desc ∧ 50000 < s.now - p.start then s.addSat d .SCH_NK_OVERRUN_COUNT 0 1 else s

/-- COMMAND_COMMIT: the command in a place commits, or ends its sheaf with its error (R284, R285, R288, R433). On a tripped die nothing runs on to its end (R495). -/
def execCommandCommit (d : Nat) (r : SlotRef) (s : State) : Out :=
  if ¬ s.hasDie d then .next s
  else
    match s.placed d r with
    | none => .next s
    | some p =>
      if p.copy ∨ ¬ p.ran ∨ (p.other.isSome ∧ ¬ p.published) ∨ s.tripped d then .next s
      else if p.status % 16 ≠ 0 then
        let s1 := (((s.runOut d r).leaveBoth d r).overrun d p).showStatus d r p.status
        match s1.queue p.queue with
        | some q => .next ((if q.gen = p.gen then s1.endSheaf p.queue p.hdr 2 p.status p.idx else s1).freezeCheck p.fn)
        | none => .next ((if s1.inFlight p.queue p.hdr p.gen then s1 else s1.lateRecord p.fn).freezeCheck p.fn)
      else
        let rs := s.commitRecords p
        if s.mirrorSends p.fn ∧ p.cls ≠ 0 ∧ ¬ s.mirrorRoom rs then .next s
        else
          let s1 := ((s.runOut d r).stores (coreAgent d (coreOf r) p) p.atCommit).applyTable d p
          let s2 := (s1.present p).leaveBoth d r
          let s3 := (s2.overrun d p).showStatus d r p.status
          .next (((s3.mirrorChange p.fn rs).commitBooks p (s.signature d p)).freezeCheck p.fn)

end Sys2Proof.Machine
end

