-- ==== Sys2Proof/Machine/QueueRows.lean ====
section
/-!
DEFINITION. Machine/QueueRows.lean: doorbells (R274, R299), fetching sheaves and their header checks (R275, R278), waits (R279), the queue messages
and SCH_QCTL (R297, R298).
-/
namespace Sys2Proof.Machine

/-- A client's stores into its ring before it rings, where they fall in memory. -/
def State.clientWrites (s : State) (m : Master) (ws : List (Nat × Byte)) : State := s.stores (agentOf m) (gather (ws.filter (fun w => (s.memRefusal m w.1 1).isNone)))

/-- QDB_SQ_TAIL: the doorbell (R274, R306, R310, R432). -/
def wrSqTail (id t : Nat) (s : State) : State :=
  match s.queue id with
  | none => s
  | some q =>
    if q.state = 0 ∨ ¬ q.loaded ∨ s.inReset q.fn then s
    else if laterCount q.sqTail t ∨ 2 ^ q.sqLog2 < countDist t q.sqHead then s.setQueue id { q with dbErr := true }
    else
      let q' := { q with sqTail := t, bells := q.bells ++ [(t, s.now)] }
      let fresh := (List.range (countDist t q.sqTail)).map (fun i => let a := q.slotAddr (q.sqTail + i); (⟨9, a, s.bytes a 64⟩ : MirrorRec))
      (s.setQueue id q').mirrorChange q.fn (if s.mirrorSends q.fn then fresh ++ [⟨3, q.mapSlot.getD 0xFFFF, queueItem id q'⟩] else [])

/-- Write held records while the ring has room (R276). -/
def State.flushRecords (id : Nat) : Nat → State → State
  | 0, s => s
  | n + 1, s =>
    match s.queue id with
    | some q =>
      match q.heldRecords with
      | r :: rs => if q.room then State.flushRecords id n (s.putRecord id { q with heldRecords := rs } r) else s
      | [] => s
    | none => s

/-- QDB_CQ_HEAD (R274, R276). -/
def wrCqHead (id h : Nat) (s : State) : State :=
  match s.queue id with
  | none => s
  | some q =>
    if q.state = 0 ∨ ¬ q.loaded ∨ s.inReset q.fn then s
    else if laterCount q.cqHead h ∨ laterCount h q.cqTail then s.setQueue id { q with dbErr := true }
    else State.flushRecords id q.heldRecords.length (s.setQueue id { q with cqHead := h })

/-- QDB_SQ_TAIL_WRITE: the bytes the client wrote into its ring, then the doorbell. -/
def execQdbSqTailWrite (m : Master) (id : Nat) (data : Word) (written : List (Nat × Byte)) (s : State) : Out :=
  let s1 := s.clientWrites m written
  .next (s1.regWrite m (id / 65536) .QDB (id % 65536 * 0x100) data (wrSqTail id data.toNat))

/-- QDB_CQ_HEAD_WRITE. -/
def execQdbCqHeadWrite (m : Master) (id : Nat) (data : Word) (s : State) : Out :=
  .next (s.regWrite m (id / 65536) .QDB (id % 65536 * 0x100 + 4) data (wrCqHead id data.toNat))

/-- The submit time of a sheaf: when the doorbell that made its last slot available was accepted (R279). -/
def submitTime (bells : List (Nat × Nat)) (last now : Nat) : Nat :=
  match bells.find? (fun b => !laterCount last b.1) with
  | some b => b.2
  | none => now

/-- Whether WAIT_KIND is defined (R278, R279). -/
def waitDefined (kind : Nat) : Bool := decide (kind ≤ 4)

/-- Whether CMD_COUNT is in range (R277). -/
def countInRange (q : Queue) (n : Nat) : Bool := decide (1 ≤ n) && decide (n < 2 ^ q.sqLog2)

/-- The header check that fails first, 0 when all pass (R278). -/
def State.headerCheck (s : State) (id : Nat) (q : Queue) (b : List Byte) : Nat :=
  let d := id / 65536
  let cls := bits (leAt b 4 1) 2 0
  let k := bits (leAt b 5 1) 3 0
  if leAt b 18 2 ≠ q.fn.toNat then 1
  else if leAt b 20 2 ≠ q.gen then 2
  else if 8 ≤ leAt b 4 1 ∨ 5 ≤ cls ∨ cls < q.minClass ∨ 16 ≤ leAt b 5 1 ∨ 8 ≤ leAt b 6 1 ∨ 4 ≤ leAt b 7 1 ∨ leAt b 32 32 ≠ 0 then 3
  else if s.fld d .SILO_CFG_EN k = 0 ∨ s.fld d .SILO_CFG_CLASS k ≠ cls ∨ s.holder 2 d k ≠ q.fn then 4
  else if ¬ ((leAt b 8 8 ≠ 0) ↔ cls = 0) then 5
  else if ¬ countInRange q (leAt b 16 2) then 6
  else if ¬ waitDefined (leAt b 22 1) then 7
  else 0

/-- The sheaf that a header spells. -/
def sheafOf (b : List Byte) (hdr submit : Nat) : Sheaf :=
  let n := leAt b 16 2
  ⟨hdr, leAt b 0 4, bits (leAt b 4 1) 2 0, bits (leAt b 5 1) 3 0, bits (leAt b 6 1) 2 0, bit (leAt b 7 1) 0, bit (leAt b 7 1) 1, leAt b 8 8, n,
   leAt b 22 1, leAt b 23 1, leAt b 24 8, submit, none, none, 0, List.replicate n .unplaced, 0, 0, none, 0, 0, false, none, none, false, 7⟩

/-- A sheaf becomes ready (R279): the frame it waited for may be golden, frozen or damaged, and the first FRAME sheaf since the blank is noted (R293). -/
def State.markReady (s : State) (id : Nat) (h : Sheaf) : State :=
  let d := id / 65536
  let f := if h.waitKind = 2 then lookupD s.frameFlags (d, h.waitArg, h.waitValue) 0 else 0
  let s1 := s.setSheaf id { h with ready := some s.now, golden := if bit f 0 then some h.waitArg else none, brokenWait := bit f 1 || bit f 2 }
  let x := s1.silo d h.silo
  if h.frame ∧ x.frameFirst.isNone ∧ s1.fld d .SILO_CFG_CLASS h.silo = 1 then s1.setSilo d h.silo { x with frameFirst := some (id, h.hdr) } else s1

/-- The queue enters ERROR with SQ_HEAD left at a sheaf whose header cannot be taken, and its record is written (R278). -/
def State.fetchError (s : State) (id : Nat) (q : Queue) (h : Sheaf) (status eng failed : Nat) : State :=
  let q' := { q with state := 2 }
  let h' := { h with engStatus := eng, failed := failed }
  ((s.setQueue id q').account (id / 65536) q' h').giveRecord id (h'.record id q.gen s.now status)

/-- SHEAF_FETCH (R275, R278): the next sheaf of an ACTIVE queue is read once its slots are available, at most 16 in flight. DESIGN CHOICE
(notes/assumptions/46): where a check before check 6 fails and CMD_COUNT is out of range as well, the slot of the header alone is released. -/
def execSheafFetch (id : Nat) (s : State) : Out :=
  match s.queue id with
  | none => .next s
  | some q =>
    if q.state ≠ 1 ∨ s.inReset q.fn ∨ s.blackout 2 (id / 65536) ∨ ¬ s.fwRuns (id / 65536) ∨ 16 ≤ (q.flight.filter (fun h => !h.done)).length ∨ q.next = q.sqTail then .next s
    else
      let a := q.slotAddr q.next
      let b := s.bytes a 64
      let h := sheafOf b q.next (submitTime q.bells (q.next + leAt b 16 2 + 1) s.now)
      if (s.poisoned a 64).isSome then .next (s.fetchError id q { h with ident := 0, submit := s.now } 2 8 0)
      else
        let c := s.headerCheck id q b
        if c = 6 then .next (s.fetchError id q { h with submit := submitTime q.bells (q.next + 1) s.now } 3 0 6)
        else
          let h := if c ≠ 0 ∧ ¬ countInRange q h.count then { h with count := 0, cmds := [], submit := submitTime q.bells (q.next + 1) s.now } else h
          if countDist q.sqTail q.next < h.count + 1 then .next s
          else
            let q' := { q with next := (q.next + h.count + 1) % 2 ^ 32, flight := q.flight ++ [h],
                               bells := q.bells.filter (fun x => laterCount x.1 (q.next + h.count + 1)) }
            let s1 := s.setQueue id q'
            if c ≠ 0 then .next (s1.finish id { h with failed := c } (if c = 2 then 4 else 3))
            else if h.waitKind = 0 then .next (s1.markReady id h)
            else .next s1

/-- Whether the wait of a sheaf of a die is satisfied (R279). DESIGN CHOICE (notes/assumptions/46): a wait for a trigger, a stream, a queue or a time base that
does not exist is never satisfied, and bits that the kind does not use are ignored. -/
def State.waitMet (s : State) (d : Nat) (h : Sheaf) : Bool :=
  match h.waitKind with
  | 1 => decide (h.waitArg < 32) && decide (h.waitValue ≤ s.fld 0 .TRG_COUNT_COUNT h.waitArg)
  | 2 => decide (h.waitArg < 128) && decide (h.waitValue ≤ s.fld d .STR_FRAMES_COUNT h.waitArg)
  | 3 => (match s.queue (bits h.waitValue 18 0) with
    | some q => !laterCount (bits h.waitValue 63 32) q.cqTail
    | none => false)
  | 4 => decide (h.waitArg < 8) && decide (h.waitValue ≤ s.tbNs h.waitArg)
  | _ => true

/-- SHEAF_READY (R279). -/
def execSheafReady (id hdr : Nat) (s : State) : Out :=
  match s.queue id with
  | none => .next s
  | some _ =>
    match s.sheaf id hdr with
    | none => .next s
    | some h => if h.ready.isSome ∨ h.done ∨ h.ending.isSome ∨ ¬ s.waitMet (id / 65536) h then .next s else .next (s.markReady id h)

/-- Whether a range of bytes lies in one populated LPDDR5X, Granary or Loft range (R90, R272). -/
def State.inMemory (s : State) (a n : Nat) : Bool :=
  match decodeAddr s.part 0 a with
  | .dram _ o => decide (o + n ≤ s.part.dramBytes)
  | .granary _ o => decide (o + n ≤ 0x1E000000)
  | .loft _ o => decide (o + n ≤ 0x2000000)
  | _ => false

/-- The number of domains that are functions (R39). -/
def isFunction (dom : Dom) : Bool := decide (dom.toNat ≤ 0x800)

/-- Queues of a function, by ID. -/
def State.queuesOf (s : State) (fn : Dom) : List (Nat × Queue) := s.q.queues.filter (fun e => decide (e.2.fn = fn))

/-- The lowest free map slot of a function below its QUOTA (R304). -/
def State.freeMapSlot (s : State) (fn : Dom) : Option Nat :=
  (List.range (s.fld 0 .FN_CFG_QUOTA fn.toNat)).find? (fun j => !(s.queuesOf fn).any (fun e => decide (e.2.mapSlot = some j)))

/-- The lowest free queue index of a die, from a start; the first argument bounds the search. -/
def freeLocal (used : List Nat) : Nat → Nat → Option Nat
  | 0, _ => none
  | n + 1, i => if i ∈ used then freeLocal used n (i + 1) else if i < 65536 then some i else none

/-- The lowest free queue ID of a die (R300). -/
def State.freeQueue (s : State) (d : Nat) : Option Nat :=
  let used := (s.q.queues.filter (fun e => decide (e.1 / 65536 = d))).map (fun e => e.1 % 65536)
  (freeLocal used (used.length + 1) 0).map (fun i => d * 65536 + i)

/-- Q_CREATE (R122, R297, R299, R304). -/
def execQCreate (r : Req) (c : QueueCfg) (s : State) : Out :=
  .next (s.serve r 0x0200 (some c.die) (fun s =>
    if ¬ s.hasDie c.die ∨ c.sqLog2 < 6 ∨ 20 < c.sqLog2 ∨ c.cqLog2 < 6 ∨ 20 < c.cqLog2 ∨ 2 ≤ c.flags ∨ c.sqBase % 64 ≠ 0 ∨ c.cqBase % 64 ≠ 0 ∨
        c.acctBase % 64 ≠ 0 ∨ ¬ s.inMemory c.sqBase (64 * 2 ^ c.sqLog2) ∨ ¬ s.inMemory c.cqBase (32 * 2 ^ c.cqLog2) ∨ ¬ s.inMemory c.acctBase 128 ∨
        4 < c.minClass then reply s .badMessage
    else if (s.subsetRefusal r false (decide (c.minClass = 0))).isSome then reply s .safetyLocked
    else if ¬ isFunction r.dom then reply s .denied
    else if s.fld 0 .FN_CFG_VECTORS r.dom.toNat ≤ c.vector then reply s .badMessage
    else
      match s.freeMapSlot r.dom, s.freeQueue c.die with
      | some j, some id =>
        let q : Queue := ⟨c.sqBase, c.sqLog2, c.cqLog2, c.cqBase, r.dom, 0, 0, 0, 0, s.genOf r.dom, 0, bit c.flags 0, c.vector, c.minClass, c.acctBase,
          false, some j, 0, [], [], [], [], true⟩
        reply ((s.setQueue id q).write c.acctBase (leBytes 128 0)) .ok (leBytes 4 id)
      | _, _ => reply s .noResource))

/-- Serve a message about a queue: its sender must be the queue's FUNCTION, PF_0 or firmware (R297). A frozen queue is not changed (R310). -/
def State.queueMsg (s : State) (r : Req) (id : Nat) (changes : Bool) (eff : Queue → State → Reply) : Reply :=
  match s.queue id with
  | none => reply s .badMessage
  | some q =>
    if r.dom ≠ q.fn ∧ r.dom ≠ 0 ∧ r.dom ≠ fwDom then reply s .denied
    else if changes ∧ q.state = 3 then reply s .busy
    else eff q s

/-- Q_DESTROY (R297, R304). -/
def execQDestroy (r : Req) (queue : Word) (s : State) : Out :=
  let id := queue.toNat
  .next (s.serve r 0x0201 (some (id / 65536)) (fun s => s.queueMsg r id true (fun q s =>
    if q.state ≠ 0 then reply s .busy else reply { s with q.queues := eraseK s.q.queues id } .ok)))

/-- Make a queue ACTIVE, its page loaded from its context; from ERROR the waiting slots are discarded (R297, R299). A Q_DISABLE that the enabling overtakes is
answered CONFLICT, the model's choice (notes/assumptions/47). -/
def State.queueEnable (s : State) (id : Nat) (q : Queue) : State :=
  let q1 := { q with state := 1, dbErr := false, loaded := true, cancelReq := [] }
  q.cancelReq.foldl (fun t r => t.answer r 0x0203 .conflict []) (s.setQueue id (if q.state = 2 then { q1 with sqHead := q.sqTail, next := q.sqTail, bells := [] } else q1))

/-- Q_ENABLE (R297). -/
def execQEnable (r : Req) (queue : Word) (s : State) : Out :=
  let id := queue.toNat
  .next (s.serve r 0x0202 (some (id / 65536)) (fun s => s.queueMsg r id true (fun q s => reply (s.queueEnable id q) .ok)))

/-- A queue drains, with or without cancelling its sheaves, and becomes DISABLED when none is in flight (R273, R297, R298). -/
def State.queueDisable (s : State) (id : Nat) (cancel : Bool) : State :=
  match s.queue id with
  | none => s
  | some q =>
    let s1 := s.setQueue id { q with state := 4 }
    (if cancel then s1.cancelWhere (fun i _ => decide (i = id)) else s1).drainCheck id

/-- Q_DISABLE (R297): answered when the queue is DISABLED. -/
def execQDisable (r : Req) (queue : Word) (s : State) : Out :=
  let id := queue.toNat
  .next (s.serve r 0x0203 (some (id / 65536)) (fun s => s.queueMsg r id true (fun q s =>
    if q.state = 0 then reply s .ok
    else later ((s.setQueue id { q with cancelReq := q.cancelReq ++ [r] }).queueDisable id true))))

/-- Q_QUERY (R297). -/
def execQQuery (r : Req) (queue : Word) (s : State) : Out :=
  let id := queue.toNat
  .next (s.serve r 0x0204 (some (id / 65536)) (fun s => s.queueMsg r id false (fun q s => reply s .ok q.context)))

/-- Q_ACCT (R297). -/
def execQAcct (r : Req) (queue : Word) (reset : Bool) (s : State) : Out :=
  let id := queue.toNat
  .next (s.serve r 0x0205 (some (id / 65536)) (fun s => s.queueMsg r id false (fun q s =>
    let b := s.bytes q.acctBase 128
    reply (if reset then s.write q.acctBase (leBytes 128 0) else s) .ok b)))

/-- SCH_QCTL (R298): enable, disable or drain a queue of the die, clearing its DB_ERR (R299). An absent or frozen queue, or OP 3, sets BADCFG. -/
def wrQctl (d data : Nat) (s : State) : State :=
  let id := d * 65536 + bits data 15 0
  match s.queue id with
  | none => s.flag d .SCH_STATUS_BADCFG
  | some q =>
    if q.state = 3 ∨ bits data 17 16 = 3 then s.flag d .SCH_STATUS_BADCFG
    else
      let s1 := s.setQueue id { q with dbErr := false }
      match bits data 17 16 with
      | 0 => s.queueEnable id q
      | 1 => if q.state = 0 then s1 else s1.queueDisable id true
      | _ => if q.state = 0 then s1 else s1.queueDisable id false

/-- A write of SCH_QCTL with an OP. -/
def State.qctl (s : State) (m : Master) (d op queue : Nat) : State :=
  let data := op * 2 ^ 16 + queue % 2 ^ 16
  s.regWrite m d .SCH 0x20 (BitVec.ofNat 32 data) (fun s => s.guarded m d .SCH 0x20 (wrQctl d data))

/-- SCH_QCTL_ENABLE. -/
def execSchQctlEnable (m : Master) (d queue : Nat) (s : State) : Out := .next (s.qctl m d 0 queue)

/-- SCH_QCTL_DISABLE. -/
def execSchQctlDisable (m : Master) (d queue : Nat) (s : State) : Out := .next (s.qctl m d 1 queue)

/-- SCH_QCTL_DRAIN. -/
def execSchQctlDrain (m : Master) (d queue : Nat) (s : State) : Out := .next (s.qctl m d 2 queue)

end Sys2Proof.Machine
end

