-- ==== Sys2Proof/Machine/Silos.lean ====
section
/-!
DEFINITION. Machine/Silos.lean: silos (R289, R290), their guarantees (R295), spans (R19, R290), and the silo messages and registers (R297, R298).
-/
namespace Sys2Proof.Machine

/-- The configuration of a silo in force. -/
def State.siloCfg (s : State) (d k : Nat) : SiloCfg :=
  ⟨s.fld d .SILO_CFG_CLASS k, s.fld d .SILO_CFG_HEAD k, s.fld d .SILO_MASK_MASK k, s.fld d .SILO_CFG_G_MIN k, s.fld d .SILO_CFG_SHARE k,
   s.fld d .SILO_TIME_WAIT_MAX k, s.fld d .SILO_TIME_QUANTUM k, s.fld d .SILO_TIME_LEAD k, decide (s.fld d .SILO_CFG_EN k = 1)⟩

/-- The latest configuration of a silo, pending or in force. -/
def State.latestCfg (s : State) (d k : Nat) : SiloCfg := (s.silo d k).next.getD (s.siloCfg d k)

/-- Whether every field is in range (R289, R298). -/
def siloInRange (c : SiloCfg) : Bool :=
  decide (c.cls < 5) && decide (c.head < 4) && decide (c.mask < 2 ^ 48) && decide (c.gMin ≤ 48) && decide (c.share < 256) && decide (c.waitMax < 65536) &&
  decide (1 ≤ c.quantum) && decide (c.quantum ≤ 100) && decide (c.lead ≤ 100)

/-- Whether a configuration puts a core both under a display reserve and into a Class M silo (R293). -/
def State.reserveClash (s : State) (d k : Nat) (c : SiloCfg) : Bool :=
  (List.range 16).any (fun j =>
    let o := s.latestCfg d j
    decide (j ≠ k) && decide (s.holder 2 d j ≠ noDom) && decide (Nat.land o.mask c.mask ≠ 0) &&
    ((decide (c.cls = 1) && decide (0 < c.lead) && decide (o.cls = 2)) || (decide (c.cls = 2) && decide (o.cls = 1) && decide (0 < o.lead))))

/-- Whether silos could hold their G_MIN on disjoint sets of member cores at once: every set of silos has as many member cores as it is guaranteed. -/
def disjointly : List (Nat × Nat) → Nat → Nat → Bool
  | [], union, need => decide (need ≤ popCount 48 union)
  | (m, g) :: r, union, need => disjointly r union need && disjointly r (Nat.lor union m) (need + g)

/-- Whether the enabled silos of a die, with a configuration for one of them, can keep G_MIN and SHARE (R295). -/
def State.guaranteesFit (s : State) (d k : Nat) (c : SiloCfg) : Bool :=
  let all := (List.range 16).filterMap (fun j => let o := if j = k then c else s.latestCfg d j
    if o.en ∧ (j = k ∨ s.holder 2 d j ≠ noDom) then some o else none)
  disjointly ((all.filter (fun o => decide (o.gMin ≠ 0))).map (fun o => (o.mask, o.gMin))) 0 0 &&
  (List.range 48).all (fun core => decide (all.foldl (fun a o => if bit o.mask core then a + o.share else a) 0 ≤ 256))

/-- The lowest die of the span a silo belongs to on a die: the die itself when it spans no other (R290). -/
def State.spanLead (s : State) (d k : Nat) : Nat :=
  let m := s.fld d .SILO_STAT_SPAN k
  match (List.range 8).find? (fun x => bit m x) with
  | some l => l
  | none => d

/-- The dies that a change of a silo goes to (R290): those of its span where its holder holds it. -/
def State.spanDies (s : State) (d k : Nat) : List Nat :=
  let m := s.fld d .SILO_STAT_SPAN k
  if m = 0 then [d] else s.dieList.filter (fun e => bit m e && decide (s.holder 2 e k = s.holder 2 d k))

/-- A configuration becomes pending (R290): on every die of the span; a request pending on any of them is answered CONFLICT. -/
def State.pend (s : State) (d k : Nat) (c : SiloCfg) (r : Option Req) : State :=
  let s0 := ((s.spanDies d k).filterMap (fun e => (s.silo e k).nextReq)).foldl (fun t q => t.answer q 0x0210 .conflict []) s
  let s1 := (s0.spanDies d k).foldl (fun t e => (t.setSilo e k { t.silo e k with next := some c, nextReq := if e = d then r else none }).flag e .SILO_CFG_PENDING k) s0
  let l := s1.spanLead d k
  s1.setSilo l k { s1.silo l k with spanFrom := none }

/-- The SILO item of R312: the SILO_SET payload, padded. -/
def siloItem (d k : Nat) (c : SiloCfg) : List Byte :=
  leBytes 1 d ++ leBytes 1 k ++ leBytes 1 c.cls ++ leBytes 1 c.head ++ leBytes 6 c.mask ++ leBytes 1 c.gMin ++ leBytes 1 c.share ++ leBytes 2 c.waitMax ++
  leBytes 1 c.quantum ++ leBytes 1 c.lead ++ leBytes 1 (b2n c.en) ++ leBytes 7 0

/-- Firmware allocates the first scratch unit of a Class S silo when it is enabled (R445): the lowest unit of the die that no silo holds. -/
def State.allocRing (s : State) (d k : Nat) : State :=
  if s.scratchOf d k ≠ [] then s
  else
    let used := ((s.memy.scratch.filter (fun e => decide (e.1.1 = d))).map (fun e => e.2)).flatten
    match (List.range (s.scratchUnits d)).find? (fun u => decide (u ∉ used)) with
    | some u => ({ s with memy.scratch := insertKV s.memy.scratch (d, k) [u] }).setFld d .LOFT_SCRATCH_USED k 1
    | none => s

/-- A configuration takes effect (R290): commands on cores that leave MASK are killed and re-run, a silo disabled cancels its sheaves, and a
Class S silo newly enabled starts its output records. -/
def State.applyCfg (s : State) (d k : Nat) (c : SiloCfg) : State :=
  let was := s.siloCfg d k
  let s1 := s.setFlds d k [(.SILO_CFG_HEAD, c.head), (.SILO_CFG_G_MIN, c.gMin), (.SILO_CFG_SHARE, c.share), (.SILO_CFG_EN, b2n c.en), (.SILO_MASK_MASK, c.mask),
    (.SILO_TIME_QUANTUM, c.quantum), (.SILO_TIME_LEAD, c.lead), (.SILO_TIME_WAIT_MAX, c.waitMax), (.SILO_CFG_PENDING, 0)]
  let s2 := s1.killWhere d true (fun r p => match r with
    | .core x _ => decide (p.silo = k) && !bit c.mask x
    | .raster _ => false)
  let s3 := if c.en then s2 else s2.cancelWhere (fun id h => decide (id / 65536 = d) && decide (h.silo = k))
  let s4 := if c.en ∧ ¬ was.en ∧ c.cls = 0 then
      let t := s3.allocRing d k
      { t.setSilo d k { t.silo d k with records := 0, lastFinal := t.now } with safe.silent := t.safe.silent.filter (fun x => decide (x ≠ (d, k))) }
    else s3
  s4.mirrorChange (s4.holder 2 d k) [⟨6, d * 16 + k, siloItem d k c⟩]

/-- Whether the last die of a span has acknowledged at least 20 µs ago (R290). -/
def State.spanReady (s : State) (d k : Nat) : Bool :=
  match (s.silo (s.spanLead d k) k).spanFrom with
  | some t => decide (t ≤ s.now)
  | none => false

/-- A pending configuration takes effect at the boundary and its request is answered. -/
def State.takeConfig (s : State) (d k : Nat) : State :=
  let x := s.silo d k
  match x.next with
  | none => s
  | some c =>
    if 1 < (s.spanDies d k).length ∧ ¬ s.spanReady d k then s
    else
      let s1 := (s.setSilo d k { x with next := none, nextReq := none }).applyCfg d k c
      match x.nextReq with
      | some r => s1.answer r 0x0210 .ok []
      | none => s1

/-- A span under negotiation takes effect on a die (R290): on each die that it reaches and has not yet taken it; the request is answered with the last. -/
def State.takeSpan (s : State) (d k : Nat) : State :=
  match s.dieList.find? (fun l => match (s.silo l k).spanNext with
      | some (_, left) => bit left d
      | none => false) with
  | none => s
  | some l =>
    let x := s.silo l k
    match x.spanNext, x.spanFrom with
    | some (m, left), some t =>
      if s.now < t then s
      else
        let s1 := s.setFld d .SILO_STAT_SPAN k (if bit m d then m else 0)
        let left' := clearBit left d
        let s2 := s1.setSilo l k { x with spanNext := if left' = 0 then none else some (m, left'), spanReq := if left' = 0 then none else x.spanReq }
        if left' = 0 then
          match x.spanReq with
          | some r => s2.answer r 0x0212 .ok []
          | none => s2
        else s2
    | _, _ => s

/-- The share of a silo in the quantum that ends, in nanoseconds of slot time. -/
def State.shareDue (s : State) (d k : Nat) : Nat :=
  s.fld d .SILO_CFG_SHARE k * (s.members d k).length * (s.now - (s.silo d k).quantumStart) / 256

/-- QUANTUM_BOUNDARY (R290, R295): the share of the quantum is judged, pending configurations take effect, the account restarts and the rotation
advances; a core that passed its Gleaner test rejoins the silo (R457). -/
def execQuantumBoundary (d k : Nat) (s : State) : Out :=
  if ¬ s.hasDie d ∨ 16 ≤ k then .next s
  else if ¬ s.fwRuns d then .next s
  else
    let x := s.silo d k
    let due := s.shareDue d k
    let used := s.slotTime d k
    let s1 := if s.fld d .SILO_CFG_EN k = 1 ∧ x.worked ∧ ¬ x.gap ∧ used < due then s.guaranteeBroken d k 1 ((due - used) / 1000) (s.takerClass d k) 0xFFFFFFFF else s
    let s2 := (s1.takeSpan d k).takeConfig d k
    let y := s2.silo d k
    .next ({ s2.setSilo d k { y with rotation := y.rotation + 1, used := 0, quantumStart := s.now, broken := [], gap := false, worked := false } with
      safe.rejoin := s2.safe.rejoin.filter (fun e => !(decide (e.1 = d) && decide (e.2.1 = k))) })

/-- CORES_GUARANTEE_CHECK (R295, KIND 0): 3 µs after a command became placeable. A member core that runs another silo's command with KILLABLE 0
stands in the way of one core. -/
def execCoresGuaranteeCheck (d k : Nat) (s : State) : Out :=
  if ¬ s.hasDie d ∨ 16 ≤ k then .next s
  else
    let g := s.fld d .SILO_CFG_G_MIN k
    let held := (s.coresHeld d k none).length
    let mask := s.fld d .SILO_MASK_MASK k
    let inWay := ((s.slotsOf d).filterMap (fun e => match e.1 with
      | .core c _ => if e.2.silo ≠ k ∧ ¬ descKillable e.2.desc ∧ bit mask c then some c else none
      | .raster _ => none)).eraseDups.length
    if s.fld d .SILO_CFG_EN k = 1 ∧ held + inWay < g ∧ (s.candidates d).any (fun c => decide (c.sheaf.silo = k)) then
      .next (s.guaranteeBroken d k 0 (g - held) (s.takerClass d k) 0xFFFFFFFF)
    else .next s

/-- SILO_SPAN_ACK: the last die acknowledges a change of a span, which may take effect 20 µs later (R290). -/
def execSiloSpanAck (k dieMask : Nat) (s : State) : Out :=
  if 16 ≤ k then .next s
  else
    match (List.range 8).find? (bit dieMask) with
    | none => .next s
    | some l => if s.hasDie l then .next (s.setSilo l k { s.silo l k with spanFrom := some (s.now + 20000) }) else .next s

/-- Whether a sender may change a silo: its holder, which for Class S must hold a guarded grant, and firmware a silo of Class S (R297). -/
def State.siloSender (s : State) (r : Req) (d k : Nat) : Option Status :=
  let h := s.holder 2 d k
  if h ≠ noDom ∧ s.claimClass 2 d k = 0 ∧ (h = r.dom ∨ r.dom = fwDom) then if s.granted r.dom then none else some .safetyLocked
  else if h = r.dom then none
  else some .denied

/-- SILO_SET (R289, R290, R293, R295, R297). -/
def execSiloSet (r : Req) (d k : Nat) (c : SiloCfg) (s : State) : Out :=
  .next (s.serve r 0x0210 (some d) (fun s =>
    if ¬ s.hasDie d ∨ 16 ≤ k ∨ ¬ siloInRange c then reply s .badMessage
    else
      match s.siloSender r d k with
      | some st => reply s st
      | none =>
        if (s.subsetRefusal r false (decide (c.cls = 0) || decide (s.siloClass d k = 0))).isSome then reply s .safetyLocked
        else if c.cls ≠ s.fld d .SILO_CFG_CLASS k then reply s .conflict
        else if (s.spanDies d k).any (fun e => s.reserveClash e k c) then reply s .badMessage
        else if ¬ (s.spanDies d k).all (fun e => s.guaranteesFit e k c) then reply s .guaranteeRefused
        else later (s.pend d k c (some r))))

/-- SILO_QUERY (R297): open to the holder, PF_0 and firmware. -/
def execSiloQuery (r : Req) (d k : Nat) (s : State) : Out :=
  .next (s.serve r 0x0211 (some d) (fun s =>
    if ¬ s.hasDie d ∨ 16 ≤ k then reply s .badMessage
    else if s.holder 2 d k ≠ r.dom ∧ r.dom ≠ 0 ∧ r.dom ≠ fwDom then reply s .denied
    else
      let n := (s.candidates d).foldl (fun a c => if c.sheaf.silo = k then a + 1 else a) 0
      reply s .ok ((siloItem d k (s.siloCfg d k)).take 20 ++ leBytes 1 (s.coresHeld d k none).length ++ leBytes 2 n ++ leBytes 2 (s.holder 2 d k).toNat ++
        leBytes 1 (s.fld d .SILO_STAT_SPAN k) ++ leBytes 2 0)))

/-- The dies that a change of a silo's span reaches: those of the mask, those they span with, and those that an earlier change under way has yet to reach. -/
def State.spanReach (s : State) (k mask : Nat) : Nat :=
  let all := (s.dieList.filter (bit mask)).foldl (fun a d => Nat.lor a (s.fld d .SILO_STAT_SPAN k)) mask
  s.dieList.foldl (fun a l => match (s.silo l k).spanNext with
    | some (m, left) => if Nat.land (Nat.lor m left) all = 0 then a else Nat.lor a left
    | none => a) all

/-- An earlier change of a span that a later one overtakes ends, its request answered CONFLICT (notes/assumptions/47). -/
def State.spanOver (s : State) (k all : Nat) : State :=
  s.dieList.foldl (fun t l => match (t.silo l k).spanNext with
    | some (m, left) =>
      if Nat.land (Nat.lor m left) all = 0 then t
      else
        let u := t.setSilo l k { t.silo l k with spanNext := none, spanFrom := none, spanReq := none }
        match (t.silo l k).spanReq with
        | some r => u.answer r 0x0212 .conflict []
        | none => u
    | none => t) s

/-- SILO_SPAN (R290, R297): the lowest die of the mask negotiates; it waits for the acknowledgement and the boundary. -/
def execSiloSpan (r : Req) (k mask : Nat) (s : State) : Out :=
  .next (s.serve r 0x0212 none (fun s =>
    let dies := s.dieList.filter (bit mask)
    match dies with
    | [] => reply s .badMessage
    | l :: _ =>
      if 16 ≤ k ∨ 2 ^ s.part.dies ≤ mask ∨ (s.subsetRefusal r (decide (2 ≤ mask)) false).isSome then reply s .badMessage
      else
        match s.siloSender r l k with
        | some st => reply s st
        | none =>
          if (s.subsetRefusal r false (decide (s.siloClass l k = 0))).isSome then reply s .safetyLocked
          else if dies.any (fun d => decide (s.holder 2 d k ≠ noDom) && decide (s.holder 2 d k ≠ s.holder 2 l k)) then reply s .conflict
          else
            let all := s.spanReach k mask
            let t := s.spanOver k all
            later (t.setSilo l k { t.silo l k with spanNext := some (mask, all), spanFrom := none, spanReq := some r })))

/-- A write of a silo register (R6, R289, R293, R298): another domain's silo sets CONFLICT, a value out of range or another CLASS sets BADCFG. -/
def State.siloWrite (s : State) (m : Master) (d k : Nat) (f : SiloCfg → SiloCfg) : State :=
  if s.otherHolds m 2 d k then s.flag d .SCH_STATUS_CONFLICT
  else
    let c := f (s.latestCfg d k)
    if ¬ siloInRange c ∨ c.cls ≠ s.fld d .SILO_CFG_CLASS k ∨ (s.spanDies d k).any (fun e => s.reserveClash e k c) then s.flag d .SCH_STATUS_BADCFG else s.pend d k c none

/-- SILO_CFG_s. -/
def wrSiloCfg (m : Master) (d k data : Nat) (s : State) : State :=
  s.siloWrite m d k (fun c => { c with en := bit data 31, cls := bits data 30 28, head := bits data 27 26, share := bits data 15 8, gMin := bits data 5 0 })

/-- SILO_MASK_s. -/
def wrSiloMask (m : Master) (d k v : Nat) (s : State) : State := s.siloWrite m d k (fun c => { c with mask := v % 2 ^ 48 })

/-- SILO_TIME_s. -/
def wrSiloTime (m : Master) (d k data : Nat) (s : State) : State :=
  s.siloWrite m d k (fun c => { c with quantum := bits data 31 24, lead := bits data 23 16, waitMax := bits data 15 0 })

end Sys2Proof.Machine
end

