-- ==== Sys2Proof/Machine/Flags.lean ====
section
/-!
DEFINITION. Machine/Flags.lean: numbers as the engines hold them, exact until they are rounded, the element encodings of R161, the conversions of
R167, R195, R196 and R197, and the numeric flags of R172 and R190 that each of them sets.
-/
namespace Sys2Proof.Machine

/-- A number of an engine: NaN, an infinity with its sign (true for minus), or (-1)^neg · m · 2^e exactly; m = 0 is a zero of the sign. -/
inductive Val where
  | nan
  | inf (neg : Bool)
  | fin (neg : Bool) (m : Nat) (e : Int)
deriving DecidableEq, Repr

/-- Numeric flags of a command (R172). -/
structure Fl where
  nan : Bool
  inf : Bool
  satInt : Bool
  satFp : Bool
deriving DecidableEq, Repr

/-- No flag. -/
def Fl.none : Fl := ⟨false, false, false, false⟩

/-- Flags of two results together. -/
def Fl.or (a b : Fl) : Fl := ⟨a.nan || b.nan, a.inf || b.inf, a.satInt || b.satInt, a.satFp || b.satFp⟩

/-- Flags of many results together. -/
def Fl.all (xs : List Fl) : Fl := xs.foldr Fl.or Fl.none

/-- The engine status that flags make: bits [7:4], with bits [3:0] zero (R172). -/
def Fl.status (f : Fl) : Nat := 16 * b2n f.nan + 32 * b2n f.inf + 64 * b2n f.satInt + 128 * b2n f.satFp

/-- How a floating-point format ends its range (R161): with infinities and NaNs, with NaN alone (E4M3), or with numbers alone. -/
inductive FpEnd where
  | ieee
  | nanOnly
  | numbers
deriving DecidableEq, Repr

/-- A floating-point format: exponent bits, mantissa bits, bias, the end of its range (R161). -/
structure Fp where
  eb : Nat
  mb : Nat
  bias : Nat
  tail : FpEnd
deriving DecidableEq, Repr

/-- FP32 and the formats of R161. -/
def fp32 : Fp := ⟨8, 23, 127, .ieee⟩
def bf16 : Fp := ⟨8, 7, 127, .ieee⟩
def fp16 : Fp := ⟨5, 10, 15, .ieee⟩
def e4m3 : Fp := ⟨4, 3, 7, .nanOnly⟩
def e5m2 : Fp := ⟨5, 2, 15, .ieee⟩
def e3m2 : Fp := ⟨3, 2, 3, .numbers⟩
def e2m3 : Fp := ⟨2, 3, 1, .numbers⟩
def e2m1 : Fp := ⟨2, 1, 1, .numbers⟩

/-- Bits of an element of a format. -/
def Fp.width (f : Fp) : Nat := 1 + f.eb + f.mb

/-- Exponent of the least normal number. -/
def Fp.emin (f : Fp) : Int := 1 - f.bias

/-- Exponent of the largest finite number. -/
def Fp.emax (f : Fp) : Int := match f.tail with
  | .ieee => (2 ^ f.eb - 2 : Int) - f.bias
  | _ => (2 ^ f.eb - 1 : Int) - f.bias

/-- The largest finite number: all ones in the mantissa, less one step where E4M3 keeps its NaN. -/
def Fp.largest (f : Fp) : Nat × Int :=
  ((match f.tail with | .nanOnly => 2 ^ (f.mb + 1) - 2 | _ => 2 ^ (f.mb + 1) - 1), f.emax - f.mb)

/-- The value that the bits of a format spell (R161). -/
def Fp.decode (f : Fp) (x : Nat) : Val :=
  let neg := bit x (f.eb + f.mb)
  let e := bits x (f.eb + f.mb - 1) f.mb
  let m := x % 2 ^ f.mb
  if e = 2 ^ f.eb - 1 ∧ f.tail = .ieee then (if m = 0 then .inf neg else .nan)
  else if e = 2 ^ f.eb - 1 ∧ f.tail = .nanOnly ∧ m = 2 ^ f.mb - 1 then .nan
  else if e = 0 then .fin neg m (f.emin - f.mb)
  else .fin neg (m + 2 ^ f.mb) ((e : Int) - f.bias - f.mb)

/-- `m · 2 ^ e` divided by `2 ^ t`, when that is whole. -/
def shiftTo (m : Nat) (e t : Int) : Nat := if t ≤ e then m * 2 ^ (e - t).toNat else m / 2 ^ (t - e).toNat

/-- Shift right with rounding to nearest, ties to even. -/
def rneShift (m k : Nat) : Nat :=
  let q := m / 2 ^ k
  let r := 2 * (m % 2 ^ k)
  if r < 2 ^ k then q else if r > 2 ^ k then q + 1 else q + q % 2

/-- Exponent of the leading bit of `m · 2 ^ e`. -/
def topExp (m : Nat) (e : Int) : Int := (Nat.log2 m : Int) + e

/-- Round a magnitude to the precision of a format, ties to even, subnormals kept; the exponent is not bounded above. -/
def Fp.roundMag (f : Fp) (m : Nat) (e : Int) : Nat × Int :=
  if m = 0 then (0, f.emin - f.mb)
  else
    let q := max (topExp m e - f.mb) (f.emin - f.mb)
    if q ≤ e then (m, e) else (rneShift m (q - e).toNat, q)

/-- Compare `m · 2 ^ e` with `m' · 2 ^ e'`. -/
def magLe (a b : Nat × Int) : Bool :=
  let t := min a.2 b.2
  decide (shiftTo a.1 a.2 t ≤ shiftTo b.1 b.2 t)

/-- Round to a format; a result beyond the largest finite is an infinity. -/
def Fp.round (f : Fp) : Val → Val
  | .nan => .nan
  | .inf n => .inf n
  | .fin n m e =>
    let r := f.roundMag m e
    if magLe r f.largest then .fin n r.1 r.2 else .inf n

/-- Bits of a finite number that a format holds. -/
def Fp.encodeFin (f : Fp) (neg : Bool) (m : Nat) (e : Int) : Nat :=
  let sign := b2n neg * 2 ^ (f.eb + f.mb)
  if m = 0 then sign
  else
    let t := topExp m e
    if t < f.emin then sign + shiftTo m e (f.emin - f.mb)
    else sign + (t + f.bias).toNat * 2 ^ f.mb + (shiftTo m e (t - f.mb) - 2 ^ f.mb)

/-- The NaN that a format is written with (R166, R183). -/
def Fp.nanBits (f : Fp) : Nat := if f.eb + f.mb = 7 then 0x7F else (2 ^ f.eb - 1) * 2 ^ f.mb + 2 ^ (f.mb - 1)

/-- Bits of an infinity. -/
def Fp.infBits (f : Fp) (neg : Bool) : Nat := b2n neg * 2 ^ (f.eb + f.mb) + (2 ^ f.eb - 1) * 2 ^ f.mb

/-- Bits of the largest finite number of a sign. -/
def Fp.largestBits (f : Fp) (neg : Bool) : Nat := f.encodeFin neg f.largest.1 f.largest.2

/-- Write a value to a format without block scale (R167, R196): the bits with the flags. An E4M3 result beyond 448 is 448 with SAT_FP; an infinity is
its NaN, or 448 with SAT. -/
def Fp.out (f : Fp) (sat : Bool) (v : Val) : Nat × Fl :=
  match v with
  | .nan => (f.nanBits, { Fl.none with nan := true })
  | .inf n =>
    if sat then (f.largestBits n, { Fl.none with inf := true, satFp := true })
    else if f.tail = .ieee then (f.infBits n, { Fl.none with inf := true })
    else (f.nanBits, { Fl.none with inf := true, nan := true })
  | .fin _ _ _ =>
    match f.round v with
    | .fin n m e => (f.encodeFin n m e, Fl.none)
    | .inf n =>
      if f.tail = .ieee then
        (if sat then (f.largestBits n, { Fl.none with inf := true, satFp := true }) else (f.infBits n, { Fl.none with inf := true }))
      else (f.largestBits n, { Fl.none with satFp := true })
    | .nan => (f.nanBits, { Fl.none with nan := true })

/-- Write a value to an element of an MX block (R197): beyond the largest finite it is clamped, and no flag sets. -/
def Fp.outMx (f : Fp) (v : Val) : Nat :=
  match v with
  | .fin _ _ _ => match f.round v with
    | .fin n m e => f.encodeFin n m e
    | .inf n => f.largestBits n
    | .nan => 0
  | _ => 0

/-- A value as an FP32 word. -/
def Val.bits32 (v : Val) : Nat := (fp32.out false v).1

/-- An integer times a power of two. -/
def Val.ofInt (i : Int) (e : Int := 0) : Val := .fin (decide (i < 0)) i.natAbs e

/-- Zero and one. -/
def Val.zero : Val := .fin false 0 0
def Val.one : Val := .fin false 1 0

/-- A NaN, an infinity, a zero; the sign. -/
def Val.isNan : Val → Bool
  | .nan => true
  | _ => false
def Val.isInf : Val → Bool
  | .inf _ => true
  | _ => false
def Val.isZero : Val → Bool
  | .fin _ 0 _ => true
  | _ => false
def Val.sign : Val → Bool
  | .nan => false
  | .inf n => n
  | .fin n _ _ => n

/-- Negation, magnitude. -/
def Val.neg : Val → Val
  | .nan => .nan
  | .inf n => .inf !n
  | .fin n m e => .fin (!n) m e
def Val.abs : Val → Val
  | .nan => .nan
  | .inf _ => .inf false
  | .fin _ m e => .fin false m e

/-- Multiplication by a power of two. -/
def Val.scale (v : Val) (k : Int) : Val := match v with
  | .fin n m e => .fin n m (e + k)
  | x => x

/-- The exact product; infinity times zero is NaN. -/
def Val.mul : Val → Val → Val
  | .nan, _ => .nan
  | _, .nan => .nan
  | .inf a, y => if y.isZero then .nan else .inf (a != y.sign)
  | x, .inf b => if x.isZero then .nan else .inf (x.sign != b)
  | .fin a m e, .fin b n f => .fin (a != b) (m * n) (e + f)

/-- A signed magnitude as an integer in units of `2 ^ t`. -/
def signedAt (neg : Bool) (m : Nat) (e t : Int) : Int := if neg then -(shiftTo m e t : Int) else shiftTo m e t

/-- The exact sum; opposite infinities make NaN; an exact zero is -0 only from two of them. -/
def Val.add : Val → Val → Val
  | .nan, _ => .nan
  | _, .nan => .nan
  | .inf a, .inf b => if a = b then .inf a else .nan
  | .inf a, _ => .inf a
  | _, .inf b => .inf b
  | .fin a m e, .fin b n f =>
    let t := min e f
    let r := signedAt a m e t + signedAt b n f t
    if r = 0 then .fin (a && b) 0 t else Val.ofInt r t

/-- FP32 operations: exact, then rounded once (R183). -/
def Val.f32 (v : Val) : Val := fp32.round v
def Val.add32 (x y : Val) : Val := (x.add y).f32
def Val.sub32 (x y : Val) : Val := (x.add y.neg).f32
def Val.mul32 (x y : Val) : Val := (x.mul y).f32
def Val.fma32 (x y z : Val) : Val := ((x.mul y).add z).f32

/-- Order of two numbers: -0 below +0 where `zeros` says so; NaN is below nothing. -/
def Val.lt (zeros : Bool) : Val → Val → Bool
  | .nan, _ => false
  | _, .nan => false
  | .inf a, .inf b => a && !b
  | .inf a, _ => a
  | _, .inf b => !b
  | .fin a m e, .fin b n f =>
    let t := min e f
    let x := signedAt a m e t
    let y := signedAt b n f t
    decide (x < y) || (zeros && decide (x = 0) && decide (y = 0) && a && !b)

/-- MAX and MIN of R183: NaN when either is NaN, -0 below +0. -/
def Val.max (x y : Val) : Val := if x.isNan || y.isNan then .nan else if x.lt true y then y else x
def Val.min (x y : Val) : Val := if x.isNan || y.isNan then .nan else if y.lt true x then y else x

/-- Round a number to an integer, ties to even. -/
def roundInt (neg : Bool) (m : Nat) (e : Int) : Int :=
  let a : Nat := if 0 ≤ e then m * 2 ^ e.toNat else rneShift m (-e).toNat
  if neg then -(a : Int) else a

/-- Clamp an integer to a range, with SAT_INT when it moves. -/
def clampFlag (lo hi x : Int) : Int × Fl :=
  if x < lo then (lo, { Fl.none with satInt := true }) else if hi < x then (hi, { Fl.none with satInt := true }) else (x, Fl.none)

/-- Range of an integer format: INT8 0, UINT8 1, INT4 2, INT32 14 (R161, R182). -/
def intRange (fmt : Nat) : Int × Int :=
  match fmt with
  | 0 => (-128, 127) | 1 => (0, 255) | 2 => (-8, 7) | _ => (-2147483648, 2147483647)

/-- Bits of an integer format. -/
def intWidth (fmt : Nat) : Nat := match fmt with
  | 2 => 4 | 14 => 32 | _ => 8

/-- An exact integer into an integer format (R183). -/
def intOut (fmt : Nat) (x : Int) : Nat × Fl :=
  let r := clampFlag (intRange fmt).1 (intRange fmt).2 x
  (ofSigned (intWidth fmt) r.1, r.2)

/-- A number into an integer format with a zero point (R195): NaN writes the zero point, infinities clamp. -/
def quantInt (fmt : Nat) (zp : Int) (v : Val) : Nat × Fl :=
  let lo := (intRange fmt).1
  let hi := (intRange fmt).2
  match v with
  | .nan => (ofSigned (intWidth fmt) zp, { Fl.none with nan := true })
  | .inf true => (ofSigned (intWidth fmt) lo, { Fl.none with satInt := true })
  | .inf false => (ofSigned (intWidth fmt) hi, { Fl.none with satInt := true })
  | .fin n m e =>
    let r := clampFlag lo hi (roundInt n m e + zp)
    (ofSigned (intWidth fmt) r.1, r.2)

/-- The value of an E8M0 scale (R161): NaN for 0xFF. -/
def scaleVal (b : Nat) : Val := if b = 0xFF then .nan else .fin false 1 ((b : Int) - 127)

/-- `emax` of an MX format (R197). -/
def mxEmax : Nat → Int
  | 5 => 8 | 6 => 15 | 7 => 4 | 8 => 2 | 9 => 2 | _ => 0

/-- The floating-point element format of a code of R160 and R182. -/
def fpOf : Nat → Option Fp
  | 3 => some e4m3 | 4 => some e5m2 | 5 => some e4m3 | 6 => some e5m2 | 7 => some e3m2 | 8 => some e2m3 | 9 => some e2m1
  | 11 => some bf16 | 12 => some fp16 | 13 => some fp32 | _ => none

/-- One element of an MX block from its value divided by the scale (R197). -/
def mxElem (fmt : Nat) (v : Val) : Nat :=
  match fpOf fmt with
  | some f => f.outMx v
  | none => match v with
    | .fin n m e => ofSigned 8 (clampSigned 8 (roundInt n m (e + 6)))
    | _ => 0

/-- An MX block (R197): scale byte, elements, flags. -/
def mxBlock (fmt : Nat) (vs : List Val) : Nat × List Nat × Fl :=
  if vs.any (fun v => v.isNan || v.isInf) then (0xFF, vs.map (fun _ => 0), { Fl.none with nan := true })
  else
    let tops := vs.filterMap (fun v => match v with
      | .fin _ m e => if m = 0 then none else some (topExp m e)
      | _ => none)
    match tops with
    | [] => (0, vs.map (fun _ => 0), Fl.none)
    | t :: ts =>
      let x := max (-127) (min 127 (ts.foldl max t - mxEmax fmt))
      ((x + 127).toNat, vs.map (fun v => mxElem fmt (v.scale (-x))), Fl.none)

end Sys2Proof.Machine
end

