-- ==== Sys2Proof/Machine/Transcend.lean ====
section
/-!
DEFINITION. Machine/Transcend.lean: the transcendental functions of R194. The spec bounds the error and leaves the value within the bound open, so
a result is the free value `Config.approx` where that lies within the bound of the correctly rounded FP32 result, and the correctly rounded
result otherwise. The exact values are formed in fixed point with 512 bits below the point.
-/
namespace Sys2Proof.Machine

/-- One in fixed point. -/
def fxOne : Int := 2 ^ 512

/-- A finite FP32 number in fixed point. -/
def fxOf (neg : Bool) (m : Nat) (e : Int) : Int := signedAt neg m e (-512)

/-- Product and quotient in fixed point. -/
def fxMul (a b : Int) : Int := a * b / fxOne
def fxDiv (a b : Int) : Int := a * fxOne / b

/-- The sum of a series from a first term: `next` gives term n + 1 from term n. -/
def fxSeries (next : Nat → Int → Int) : Nat → Nat → Int → Int
  | 0, _, _ => 0
  | k + 1, n, t => t + fxSeries next k (n + 1) (next n t)

/-- Natural logarithm of 2: the sum of 1 / (k 2^k). -/
def fxLn2 : Int := (List.range 520).foldl (fun a (k : Nat) => a + fxOne / (((k : Int) + 1) * 2 ^ (k + 1))) 0

/-- The inverse tangent of 1 / n. -/
def fxAtanInv (n : Int) : Int :=
  (List.range 230).foldl (fun a (k : Nat) => a + (if k % 2 = 0 then 1 else -1) * (fxOne / ((2 * (k : Int) + 1) * n ^ (2 * k + 1)))) 0

/-- The number pi. -/
def fxPi : Int := 16 * fxAtanInv 5 - 4 * fxAtanInv 239

/-- Integer square root by bits, from the highest tried down. -/
def isqrtBits (n : Nat) : Nat → Nat → Nat
  | 0, r => r
  | k + 1, r => let c := r + 2 ^ k; isqrtBits n k (if c * c ≤ n then c else r)

/-- The integer square root of a natural. -/
def isqrt (n : Nat) : Nat := isqrtBits n (Nat.log2 n / 2 + 1) 0

/-- The exponential of a fixed-point number: mantissa in fixed point and a power of two. -/
def fxExp (x : Int) : Int × Int :=
  let k := x / fxLn2
  (fxSeries (fun n t => fxMul t (x - k * fxLn2) / ((n : Int) + 1)) 110 0 fxOne, k)

/-- Clamp an argument beyond which a sigmoid is 0 or 1 to more than FP32 shows. -/
def fxClamp (x : Int) : Int := max (-400 * fxOne) (min (400 * fxOne) x)

/-- The logistic function in fixed point. -/
def fxSigmoid (x : Int) : Int :=
  let e := fxExp (-fxClamp x)
  fxDiv fxOne (fxOne + (if 0 ≤ e.2 then e.1 * 2 ^ e.2.toNat else e.1 / 2 ^ (-e.2).toNat))

/-- The natural logarithm of a positive number. -/
def fxLog (m : Nat) (e : Int) : Int :=
  let l := Nat.log2 m
  let f : Int := (m : Int) * 2 ^ 512 / 2 ^ l
  let t := fxDiv (f - fxOne) (f + fxOne)
  let t2 := fxMul t t
  let p := (List.range 170).foldl (fun (a : Int × Int) (k : Nat) => (a.1 + a.2 / (2 * (k : Int) + 1), fxMul a.2 t2)) (0, t)
  2 * p.1 + (e + l) * fxLn2

/-- The sine of a fixed-point number: reduced to a quarter turn, then its series. -/
def fxSin (x : Int) : Int :=
  let h := fxPi / 2
  let k := x / h
  let r := x - k * h
  let r2 := fxMul r r
  let sn := fxSeries (fun n t => -(fxMul t r2) / ((2 * (n : Int) + 2) * (2 * (n : Int) + 3))) 70 0 r
  let cs := fxSeries (fun n t => -(fxMul t r2) / ((2 * (n : Int) + 1) * (2 * (n : Int) + 2))) 70 0 fxOne
  match (k % 4).toNat with
  | 0 => sn | 1 => cs | 2 => -sn | _ => -cs

/-- The error function: 1 to more than FP32 shows from 6 on, its series below. -/
def fxErf (x : Int) : Int :=
  if 6 * fxOne ≤ x then fxOne
  else if x ≤ -6 * fxOne then -fxOne
  else
    let x2 := fxMul x x
    let p := (List.range 260).foldl (fun (a : Int × Int) (k : Nat) => (a.1 + a.2 / (2 * (k : Int) + 1), -(fxMul a.2 x2) / ((k : Int) + 1))) (0, x)
    fxDiv (2 * p.1) (isqrt (fxPi * fxOne).toNat)

/-- A fixed-point number rounded to FP32. -/
def fxRound (x : Int) : Val := (Val.ofInt x (-512)).f32

/-- A quotient of naturals in units of `2 ^ e`, with a sticky bit, rounded to FP32. -/
def stickyRound (neg : Bool) (q : Nat) (exact : Bool) (e : Int) : Val := fp32.round (.fin neg (2 * q + b2n (!exact)) (e - 1))

/-- The correctly rounded FP32 value of a function of R186 at a finite number. -/
def exactFn (fn : Nat) (neg : Bool) (m : Nat) (e : Int) : Val :=
  let x := fxOf neg m e
  match fn with
  | 0x10 => let r := fxExp (max (-300 * fxOne) (min (300 * fxOne) x)); (Val.ofInt r.1 (r.2 - 512)).f32
  | 0x11 => let r := fxExp (fxMul (max (-400 * fxOne) (min (400 * fxOne) x)) fxLn2); (Val.ofInt r.1 (r.2 - 512)).f32
  | 0x12 => fxRound (fxLog m e)
  | 0x13 => fxRound (fxDiv (fxLog m e) fxLn2)
  | 0x14 => stickyRound neg (2 ^ 100 / m) (decide (2 ^ 100 % m = 0)) (-e - 100)
  | 0x15 =>
    let m' := if e % 2 = 0 then m * 2 ^ 100 else 2 * m * 2 ^ 100
    let s := isqrt m'
    stickyRound false s (decide (s * s = m')) ((if e % 2 = 0 then e else e - 1) / 2 - 50)
  | 0x16 =>
    let m' := if e % 2 = 0 then m else 2 * m
    let s := isqrt (2 ^ 200 / m')
    stickyRound false s (decide (s * s * m' = 2 ^ 200)) (-((if e % 2 = 0 then e else e - 1) / 2) - 100)
  | 0x17 => fxRound (fxSigmoid x)
  | 0x18 => fxRound (2 * fxSigmoid (2 * fxClamp x) - fxOne)
  | 0x19 =>
    let c : Int := isqrt (2 * fxOne.toNat ^ 3 / fxPi.toNat)
    let y := max (-64 * fxOne) (min (64 * fxOne) x)
    let u := fxMul c (y + 44715 * fxMul (fxMul y y) y / 1000000)
    (Val.mul (.fin neg m e) (Val.ofInt (fxSigmoid (2 * u)) (-512))).f32
  | 0x1A => (Val.mul (.fin neg m e) (Val.ofInt (fxSigmoid x) (-512))).f32
  | 0x1B => fxRound (fxSin x)
  | 0x1C => fxRound (fxSin (x + fxPi / 2))
  | _ => fxRound (fxErf x)

/-- One unit in the last place of an FP32 number, as a power of two. -/
def ulpExp (m : Nat) (e : Int) : Int := if m = 0 then -149 else max (topExp m e) (-126) - 23

/-- The error bound of R194 about a correctly rounded result: units in the last place, or an absolute power of two where that is larger. The
absolute bounds of LOG and LOG2 hold for inputs in [0.5, 2]. -/
def errBound (fn : Nat) (near1 : Bool) (m : Nat) (e : Int) : Nat × Int :=
  let u := ulpExp m e
  let ulps (k : Nat) : Nat × Int := (k, u)
  let wide (k : Nat) (a : Int) : Nat × Int := if magLe (k, u) (1, a) then (1, a) else (k, u)
  match fn with
  | 0x10 | 0x11 | 0x16 => ulps 2
  | 0x12 | 0x13 => if near1 then (1, -22) else ulps 2
  | 0x14 | 0x15 => ulps 1
  | 0x17 | 0x18 | 0x1D => wide 3 (-24)
  | 0x19 | 0x1A => wide 4 (-23)
  | _ => (1, -22)

/-- Where the value of a function is open, the free value within the bound, else the correctly rounded result. -/
def withinBound (fn : Nat) (x : Val) (near1 : Bool) (exact : Val) : Val :=
  match exact with
  | .fin n m e =>
    let y := fp32.decode (Config.approx fn x.bits32)
    match y.add (Val.fin n m e).neg with
    | .fin _ d de => if magLe (d, de) (errBound fn near1 m e) then y else exact
    | _ => exact
  | v => v

/-- A transcendental function of R186 on an FP32 value, with the special values of R194. -/
def transcend (fn : Nat) (x : Val) : Val :=
  match x with
  | .nan => .nan
  | .inf neg =>
    match fn with
    | 0x10 | 0x11 => if neg then .zero else .inf false
    | 0x12 | 0x13 | 0x15 => if neg then .nan else .inf false
    | 0x14 => .fin neg 0 0
    | 0x16 => if neg then .nan else .zero
    | 0x17 => if neg then .zero else .one
    | 0x18 | 0x1D => .fin neg 1 0
    | 0x19 | 0x1A => if neg then .fin true 0 0 else .inf false
    | _ => .nan
  | .fin neg m e =>
    if m = 0 then
      match fn with
      | 0x12 | 0x13 => .inf true
      | 0x14 | 0x16 => .inf neg
      | 0x15 => .fin neg 0 0
      | _ => withinBound fn x false (exactFn fn neg 0 (-149))
    else if neg ∧ (fn = 0x12 ∨ fn = 0x13 ∨ fn = 0x15 ∨ fn = 0x16) then .nan
    else
      let r := exactFn fn neg m e
      let near1 := magLe (1, -1) (m, e) && magLe (m, e) (1, 1)
      if (fn = 0x10 ∨ fn = 0x11) ∧ below fn neg m e then .zero else withinBound fn x near1 r
where
  /-- An exponential whose exact value is below 2^-149. -/
  below (fn : Nat) (neg : Bool) (m : Nat) (e : Int) : Bool :=
    if fn = 0x11 then decide (signedAt neg m e (-149) < -149 * 2 ^ 149)
    else decide (fxOf neg m e < -149 * fxLn2)

end Sys2Proof.Machine
end

