-- ==== Sys2Proof/Machine/Operands.lean ====
section
/-!
DEFINITION. Machine/Operands.lean: the operands of engine commands: element formats (R160, R161, R182), rows, packing and scale rows (R162), handles and
buffers (R139, R153, R171), bounds and overlap, and what every engine's run leaves in its slot (R171, R172, R188, R190, R213, R283, R417).
-/
namespace Sys2Proof.Machine

/-- Bits per element of a format code of R160 and R182. -/
def fmtBits : Nat → Nat
  | 2 => 4 | 7 => 6 | 8 => 6 | 9 => 4 | 11 => 16 | 12 => 16 | 13 => 32 | 14 => 32 | _ => 8

/-- MX formats are the codes 5 to 10. -/
def isMx (f : Nat) : Bool := decide (5 ≤ f) && decide (f ≤ 10)

/-- INT8, UINT8, INT4 and INT32. -/
def isIntFmt (f : Nat) : Bool := decide (f ≤ 2) || decide (f = 14)

/-- The integer that an element of an integer format spells. -/
def intElem (fmt raw : Nat) : Int := if fmt = 1 then (raw % 256 : Nat) else toSigned (intWidth fmt) raw

/-- The value of an element (R161), before any block scale. -/
def elemVal (fmt raw : Nat) : Val :=
  match fpOf fmt with
  | some f => f.decode raw
  | none => if fmt = 10 then Val.ofInt (toSigned 8 raw) (-6) else Val.ofInt (intElem fmt raw)

/-- Bytes of a row of `n` elements (R162). -/
def rowBytes (fmt n : Nat) : Nat := ceilDiv (n * fmtBits fmt) 8

/-- Bytes of a scale row and its stride (R162). -/
def scaleBytes (n : Nat) : Nat := ceilDiv n 32
def scaleStride (n : Nat) : Nat := ceilDiv (ceilDiv n 32) 64 * 64

/-- The elements packed in a row (R162). -/
def unpackRow (fmt n : Nat) (bs : List Byte) : List Nat :=
  let x := leNat bs
  (List.range n).map (fun i => x / 2 ^ (fmtBits fmt * i) % 2 ^ fmtBits fmt)

/-- Pack elements into a row; the bits of the last byte beyond the last element are a free value. -/
def packRow (fmt : Nat) (es : List Nat) : List Byte :=
  let w := fmtBits fmt
  let x := es.foldr (fun e a => e + 2 ^ w * a) 0
  let n := w * es.length
  leBytes (ceilDiv n 8) (if n % 8 = 0 then x else x + 2 ^ n * (Config.padBits x % 2 ^ (8 - n % 8)))

/-- Values of a row with the scale of each block of 32 applied (R162, R183). -/
def scaledRow (fmt : Nat) (raws : List Nat) (scales : List Byte) : List Val :=
  raws.mapIdx (fun i r => if isMx fmt then (elemVal fmt r).mul (scaleVal (scales.getD (i / 32) 0#8).toNat) else elemVal fmt r)

/-- Rows of bytes in a buffer: handle, first offset, stride, rows, bytes of each. -/
structure Rows where
  handle : Nat
  off : Nat
  stride : Nat
  rows : Nat
  len : Nat
deriving DecidableEq, Repr

/-- One past the last byte of a region. -/
def Rows.last (r : Rows) : Nat := r.off + r.stride * (r.rows - 1) + r.len

/-- Whether two regions share a byte of one buffer. -/
def Rows.meets (a b : Rows) : Bool :=
  decide (a.handle = b.handle) && decide (a.off < b.last) && decide (b.off < a.last) &&
  (List.range a.rows).any (fun i => (List.range b.rows).any (fun j =>
    decide (a.off + a.stride * i < b.off + b.stride * j + b.len) && decide (b.off + b.stride * j < a.off + a.stride * i + a.len)))

/-- The buffer that a command may use under a handle: of its silo on a die of the silo's span, not stale, not SPILLED (R139, R153, R171). A handle that a restore
carried to another die names a buffer of the silo there, wherever its bytes lie (R312, R313). -/
def State.opBuf (s : State) (d : Nat) (p : Placed) (h : Nat) : Option BufEnt :=
  if handleSilo h = p.silo ∧ s.bufDie h ∈ s.spanDies d p.silo then
    match s.bufOf h with
    | some e => if e.spilled then none else some e
    | none => none
  else none

/-- Whether every handle names a buffer. -/
def State.handlesOk (s : State) (d : Nat) (p : Placed) (hs : List Nat) : Bool := hs.all (fun h => (s.opBuf d p h).isSome)

/-- Whether every region lies within its buffer's LENGTH. -/
def State.boundsOk (s : State) (d : Nat) (p : Placed) (rs : List Rows) : Bool :=
  rs.all (fun r => match s.opBuf d p r.handle with
    | some e => decide (r.rows = 0) || decide (r.last ≤ e.length)
    | none => false)

/-- Bytes of a buffer. -/
def State.bufBytes (s : State) (d : Nat) (p : Placed) (h off n : Nat) : List Byte :=
  match s.opBuf d p h with
  | some e => s.bytes (e.base + off) n
  | none => []

/-- Physical runs of bytes of a region. -/
def State.runsOf (s : State) (d : Nat) (p : Placed) (r : Rows) : List (Nat × Nat) :=
  match s.opBuf d p r.handle with
  | some e => (List.range r.rows).map (fun i => (e.base + r.off + r.stride * i, r.len))
  | none => []

/-- A buffer lies in the slice of the core's own cluster (R174, R175). -/
def State.isLocal (s : State) (d core : Nat) (p : Placed) (h : Nat) : Bool :=
  match s.opBuf d p h with
  | some e => decide ((memLoc s.part e.base).map (fun l => l.die) = some d) && decide (e.slice = core / 8)
  | none => false

/-- Values of a row operand. -/
def State.rowVals (s : State) (d : Nat) (p : Placed) (fmt n h off scaleOff : Nat) : List Val :=
  scaledRow fmt (unpackRow fmt n (s.bufBytes d p h off (rowBytes fmt n)))
    (if isMx fmt then s.bufBytes d p h scaleOff (scaleBytes n) else [])

/-- The code of the first check that fails, or 0 (R171, R188, R213, R268). -/
def firstFailing : List (Nat × Bool) → Nat
  | [] => 0
  | (c, ok) :: cs => if ok then firstFailing cs else c

/-- What an engine's run comes to: its status, the physical bytes it read, its writes to the output buffer, what its commit writes and changes,
its cycles in all (R174, R201, R225), those it computes in and those it waits for remote streams in (R175, R179, R203, R226), the plan of the window
streamer (R244): live taps, passes, fold, reduced, space-to-depth, and what it leaves at physical addresses outside its output. -/
structure Job where
  status : Nat
  reads : List (Nat × Nat)
  writes : List (Nat × List Byte)
  atCommit : List (Nat × List Byte)
  table : List KvOp
  kv : Nat × Nat × Nat
  cycles : Nat
  busy : Nat × Nat
  win : Option (Nat × Nat × Bool × Bool × Bool)
  scratch : List (Nat × List Byte)
deriving DecidableEq, Repr

/-- A run that fails a check within its first 32 cycles. -/
def Job.fail (code : Nat) : Job := ⟨code, [], [], [], [], (0, 0, 0), 32, (0, 0), none, []⟩

/-- A run that writes to its output buffer, with its cycles in all, computing and waiting. -/
def Job.done (f : Fl) (reads : List (Nat × Nat)) (writes : List (Nat × List Byte)) (cycles : Nat) (busy : Nat × Nat) : Job :=
  ⟨f.status, reads, writes, [], [], (0, 0, 0), cycles, busy, none, []⟩

/-- The shadow buffer of a checked command is there (R417); a command without output needs none. -/
def State.shadowOk (s : State) (d : Nat) (p : Placed) : Bool :=
  p.other.isNone || decide (descOut p.desc = 0) ||
  (match s.opBuf d p (descOut p.desc), s.shadowOf (descOut p.desc) with
   | some o, some e => e.valid && !e.spilled && decide (o.length ≤ e.length)
   | _, _ => false)

/-- A checked command without its shadow buffer fails with BAD_HANDLE, in the place of check 5 (R417). -/
def State.judge (s : State) (d : Nat) (p : Placed) (j : Job) : Job :=
  if (j.status % 16 = 0 ∨ 5 < j.status % 16) ∧ ¬ s.shadowOk d p then Job.fail 5 else j

/-- Where a copy writes its outputs: the output buffer, or the shadow buffer for the checker copy (R417). -/
def State.outBase (s : State) (p : Placed) : Option Nat :=
  (if p.copy then s.shadowOf (descOut p.desc) else s.bufOf (descOut p.desc)).map (fun e => e.base)

/-- Where a core's way to some bytes is stopped, with the address: at an isolated die or a down link (R16, R92, R145). -/
def State.stopOnWay (s : State) (d : Nat) (rs : List (Nat × Nat)) : Option (Nat × Nat) :=
  rs.findSome? (fun r => (linesOf r.1 r.2).findSome? (fun a => match memLoc s.part a with
    | some l => (s.blocked d l.die (memLine a)).map (fun e => (e, a))
    | none => none))

/-- What a command writes to its output buffer, by physical address. -/
def State.outWrites (s : State) (p : Placed) (j : Job) : List (Nat × List Byte) :=
  match s.outBase p with
  | some b => j.writes.map (fun w => (b + w.1, w.2))
  | none => []

/-- Cycles that a run computes and waits: what its engine's chapter fixes, and a free part of waiting at banks that are busy (R138, R179); none when it failed a
check. -/
def State.busyOf (s : State) (j : Job) : (Nat × Nat) × State :=
  if j.status % 16 = 0 then
    let f := s.fresh
    ((j.busy.1, j.busy.2 + f.1), f.2)
  else (j.busy, s)

/-- What a run reads: nothing where a check before the reads of its operands fails (R170). -/
def Job.taken (j : Job) : List (Nat × Nat) := if j.status % 16 = 0 ∨ 8 < j.status % 16 then j.reads else []

/-- Where the way to what a run reads and writes is stopped, and the first poisoned granule among what it reads. -/
def State.runStops (s : State) (d : Nat) (j : Job) (outs : List (Nat × List Byte)) : Option (Nat × Nat) × Option Nat :=
  (s.stopOnWay d (j.taken ++ outs.map (fun w => (w.1, w.2.length))), j.taken.findSome? (fun x => s.poisoned x.1 x.2))

/-- A command runs: a refused access ends it with a bus error logged (R92) and an error status that the engines' chapters do not name, a free value; an uncorrectable
error among what it read is ECC_UE (check 8), also where a check after it in the order fails; otherwise it writes its buffer piece by piece, a free part of it now and the rest by its commit (R176); its status
is final. -/
def State.ranTo (s : State) (d core : Nat) (slot : SlotKind) (p : Placed) (j0 : Job) : State :=
  let j := s.judge d p j0
  let (busy, s0) := s.busyOf j
  let s1 := s0.showPlan d core j.win
  let outs := s.outWrites p j
  let q := { p with ran := true, took := j.cycles, busy := busy, plan := j.win, left := [] }
  match s.runStops d j outs with
  | (some (at', a), _) =>
    let (v, t) := (s1.fabLog at' false 3 a ⟨d, .core, core, .user, false, p.fn⟩ false).fresh
    (t.setPlaced d (.core core slot) { q with status := 1 + v % 8 }).runPart d (.core core slot)
  | (none, some g) => ((s1.readUe g (coreAgent d core p)).setPlaced d (.core core slot) { q with status := 8 }).runPart d (.core core slot)
  | (none, none) =>
    let s2 := (j.taken.foldl (fun (t : State) x => t.wake x.1 x.2) s1).stores (coreAgent d core p) j.scratch
    (s2.setPlaced d (.core core slot)
      { q with status := j.status, writes := j.writes, left := outs, atCommit := j.atCommit, table := j.table, kv := j.kv, extra := j.scratch }).runPart d
        (.core core slot)

/-- An engine row: the command that stands in the slot of a core runs, when it is of the row's opcode. An opcode of the engine that no row has fails with
BAD_OPCODE in whichever row takes it. A tripped die's ARITH_CLK stands still (R495). -/
def State.runRow (s : State) (d core : Nat) (slot : SlotKind) (engine : Nat) (mine known : Nat → Bool) (go : Placed → Job) : Out :=
  if ¬ s.hasDie d ∨ 48 ≤ core then .next s
  else
    match s.placed d (.core core slot) with
    | none => .next s
    | some p =>
      if p.ran ∨ descEngine p.desc ≠ engine ∨ s.tripped d then .next s
      else if mine (descOp p.desc) then .next (s.ranTo d core slot p (go p))
      else if known (descOp p.desc) then .next s
      else .next (s.ranTo d core slot p (Job.fail 1))

end Sys2Proof.Machine
end

