-- ==== Sys2Proof/Machine/Window.lean ====
section
/-!
DEFINITION. Machine/Window.lean: the window streamer: feature maps (R227, R228), the window descriptor and its rules (R229, R230, R233), padding
(R231), the order of taps and passes (R232), dead taps (R234), space-to-depth (R236) and what the streamer fetches (R241, R242).
-/
namespace Sys2Proof.Machine

/-- The window descriptor of R229. -/
structure Win where
  inH : Nat
  inW : Nat
  outH : Nat
  outW : Nat
  channels : Nat
  cOff : Nat
  cCnt : Nat
  pix : Nat
  row : Nat
  kh : Nat
  kw : Nat
  sh : Nat
  sw : Nat
  dh : Nat
  dw : Nat
  pad : Nat
  s2d : Nat
  pt : Nat
  pb : Nat
  pl : Nat
  pr : Nat
  padConst : Nat
  inOff : Nat
  scaleOff : Nat
  outY0 : Nat
  tapY0 : Nat
  tapX0 : Nat
  zeros : Bool
deriving DecidableEq, Repr

/-- Read a window descriptor from its 64 bytes. -/
def Win.parse (b : List Byte) : Win :=
  { inH := leAt b 0 2, inW := leAt b 2 2, outH := leAt b 4 2, outW := leAt b 6 2, channels := leAt b 8 2, cOff := leAt b 10 2, cCnt := leAt b 12 2,
    pix := leAt b 14 2, row := leAt b 16 3, kh := leAt b 20 1, kw := leAt b 21 1, sh := leAt b 22 1, sw := leAt b 23 1, dh := leAt b 24 1,
    dw := leAt b 25 1, pad := leAt b 26 1, s2d := leAt b 27 1, pt := leAt b 28 2, pb := leAt b 30 2, pl := leAt b 32 2, pr := leAt b 34 2,
    padConst := leAt b 36 4, inOff := leAt b 40 4, scaleOff := leAt b 44 4, outY0 := leAt b 48 2, tapY0 := leAt b 50 1, tapX0 := leAt b 51 1,
    zeros := decide (leAt b 52 12 = 0) && decide (leAt b 19 1 = 0) }

/-- The largest number of outputs on an axis (R230). -/
def outMax (inL before after dil tap0 k stride : Nat) : Nat :=
  let x : Int := (inL : Int) + before + after - dil * (tap0 + k - 1 : Nat) - 1
  if x < 0 then 0 else x.toNat / stride + 1

/-- The rules of R233 that TE and VE commands share, for an input format. -/
def Win.rules (w : Win) (fmt : Nat) : Bool :=
  let within (x lo hi : Nat) : Bool := decide (lo ≤ x) && decide (x ≤ hi)
  w.zeros && within w.pad 0 3 && (decide (w.s2d = 0) || decide (w.s2d = 2) || decide (w.s2d = 4)) &&
  decide (1 ≤ w.inH) && decide (1 ≤ w.inW) && decide (1 ≤ w.outH) && decide (1 ≤ w.outW) && decide (1 ≤ w.channels) && decide (1 ≤ w.cCnt) &&
  within w.pix 1 4096 && within w.kh 1 63 && within w.kw 1 63 && within w.sh 1 16 && within w.sw 1 16 && within w.dh 1 64 && within w.dw 1 64 &&
  decide (w.pt ≤ 4095) && decide (w.pb ≤ 4095) && decide (w.pl ≤ 4095) && decide (w.pr ≤ 4095) && decide (w.padConst < 2 ^ fmtBits fmt) &&
  decide (w.tapY0 ≤ 62) && decide (w.tapX0 ≤ 62) && decide (w.cOff + w.cCnt ≤ w.channels) &&
  decide (rowBytes fmt w.channels ≤ w.pix) && decide (w.inW * w.pix ≤ 64 * w.row) &&
  (!decide (fmtBits fmt = 4) || (decide (w.cOff % 2 = 0) && decide (w.cCnt % 2 = 0))) &&
  (!isMx fmt || (decide (w.channels % 32 = 0) && decide (w.cOff % 32 = 0) && decide (w.cCnt % 32 = 0))) &&
  decide (w.outH ≤ outMax w.inH w.pt w.pb w.dh w.tapY0 w.kh w.sh) && decide (w.outW ≤ outMax w.inW w.pl w.pr w.dw w.tapX0 w.kw w.sw)

/-- Space-to-depth is accepted on these maps alone (R236). -/
def Win.s2dOk (w : Win) (fmt : Nat) : Bool :=
  decide (w.s2d = 0) ||
  (decide (w.sh % w.s2d = 0) && decide (w.sw % w.s2d = 0) && decide (w.dh = 1) && decide (w.dw = 1) && decide (w.pt % w.s2d = 0) &&
   decide (w.pl % w.s2d = 0) && decide (w.inH % w.s2d = 0) && decide (w.inW % w.s2d = 0) && !isMx fmt && decide (w.cCnt ≤ 16))

/-- The factor of the regrouped space: 1 without space-to-depth. -/
def Win.f (w : Win) : Nat := max 1 w.s2d

/-- Kernel rows and columns in regrouped space, and channels of a regrouped pixel. -/
def Win.khR (w : Win) : Nat := ceilDiv w.kh w.f
def Win.kwR (w : Win) : Nat := ceilDiv w.kw w.f
def Win.chR (w : Win) : Nat := w.f * w.f * w.cCnt

/-- The reduction length (R232, R236). -/
def Win.kLen (w : Win) : Nat := w.khR * w.kwR * w.chR

/-- The rules of R233 for a TE CONV with K and M. -/
def Win.teRules (w : Win) (fmt k m : Nat) : Bool :=
  w.rules fmt && w.s2dOk fmt && decide (w.tapY0 = 0) && decide (w.tapX0 = 0) && decide (k = w.kLen) && decide (w.outY0 * w.outW + m ≤ w.outH * w.outW)

/-- The coordinate of an axis at tap `t` of output `y`, in regrouped space (R230, R236). -/
def Win.coordY (w : Win) (y t : Nat) : Int := ((w.sh / w.f * y : Nat) : Int) - (w.pt / w.f : Nat) + (w.dh * (t + w.tapY0) : Nat)
def Win.coordX (w : Win) (x t : Nat) : Int := ((w.sw / w.f * x : Nat) : Int) - (w.pl / w.f : Nat) + (w.dw * (t + w.tapX0) : Nat)

/-- A coordinate outside its axis is padded (R230). -/
def padded (l : Nat) (i : Int) : Bool := decide (i < 0) || decide ((l : Int) ≤ i)

/-- The coordinate that a padded coordinate reads (R231); none for zero and constant padding. -/
def padAxis (mode l : Nat) (i : Int) : Option Nat :=
  if ¬ padded l i then some i.toNat
  else if mode = 2 then some (max 0 (min i ((l : Int) - 1))).toNat
  else if mode = 3 then
    (if l = 1 then some 0
     else
       let p : Int := 2 * ((l : Int) - 1)
       let k := i % p
       some (if k ≤ (l : Int) - 1 then k else p - k).toNat)
  else none

/-- The pixel of the (regrouped) map that tap (r, t) of output (y, x) reads, or none for a value of padding. -/
def Win.source (w : Win) (y x r t : Nat) : Option (Nat × Nat) :=
  match padAxis w.pad (w.inH / w.f) (w.coordY y r), padAxis w.pad (w.inW / w.f) (w.coordX x t) with
  | some i, some j => some (i, j)
  | _, _ => none

/-- A tap row or column is dead: padded for every output of the map (R234). -/
def deadAxis (l out stride before dil tap0 t : Nat) : Bool :=
  decide (((out - 1) * stride : Nat) + (dil * (t + tap0) : Nat) < (before : Int)) || decide ((l : Int) ≤ (dil * (t + tap0) : Nat) - (before : Int))

/-- A live tap (R234). -/
def Win.live (w : Win) (r t : Nat) : Bool :=
  !deadAxis w.inH w.outH w.sh w.pt w.dh w.tapY0 r && !deadAxis w.inW w.outW w.sw w.pl w.dw w.tapX0 t

/-- Taps in the order of R232: passes of at most 7 × 7 with p ascending, then q; in each pass r ascending, then s. Each with its pass. -/
def Win.taps (w : Win) : List (Nat × Nat × Nat) :=
  let bands (n : Nat) : List Nat := List.range (ceilDiv n 7)
  (bands w.khR).flatMap (fun p => (bands w.kwR).flatMap (fun q =>
    (rangeFrom (7 * p) (min 7 (w.khR - 7 * p))).flatMap (fun r =>
      (rangeFrom (7 * q) (min 7 (w.kwR - 7 * q))).map (fun t => (p * ceilDiv w.kwR 7 + q, r, t)))))

/-- Whether the mapper skips dead taps (R234): zero or constant padding, no space-to-depth, and for a TE CONV the weights of each live tap start a new MX
block and a whole byte in B. -/
def Win.skips (w : Win) (bFmt : Option Nat) : Bool :=
  decide (w.s2d = 0) && decide (w.pad < 2) &&
  (match bFmt with
   | some f => !(isMx f && decide (w.cCnt % 32 ≠ 0)) && !(decide (fmtBits f = 4) && decide (w.cCnt % 2 = 1))
   | none => true) &&
  w.taps.any (fun t => !w.live t.2.1 t.2.2)

/-- Taps that run, each with its index in the full order of R232: (index, pass, row, column). -/
def Win.running (w : Win) (skip : Bool) : List (Nat × Nat × Nat × Nat) :=
  (w.taps.mapIdx (fun i t => (i, t))).filter (fun t => !skip || w.live t.2.2.1 t.2.2.2)

/-- Dead taps, each with its index. -/
def Win.dead (w : Win) : List (Nat × Nat × Nat × Nat) := (w.taps.mapIdx (fun i t => (i, t))).filter (fun t => !w.live t.2.2.1 t.2.2.2)

/-- Distinct passes among taps. -/
def passesOf (ts : List (Nat × Nat × Nat × Nat)) : List Nat := (ts.map (fun t => t.2.1)).eraseDups

/-- The plan that WIN_STATUS shows (R244). -/
def Win.plan (w : Win) (skip fold : Bool) : Nat × Nat × Bool × Bool × Bool :=
  ((w.running skip).length, (passesOf (w.running skip)).length, fold, skip, decide (w.s2d ≠ 0))

/-- Regions of the map, the scale plane and the descriptor within the A buffer (R227, R229). -/
def Win.regions (w : Win) (fmt h off : Nat) : List Rows :=
  [⟨h, off, 0, 1, 64⟩, ⟨h, w.inOff, 64 * w.row, w.inH, (w.inW - 1) * w.pix + rowBytes fmt w.channels⟩] ++
  (if isMx fmt then [⟨h, w.scaleOff, 0, 1, w.inH * w.inW * ceilDiv w.channels 32⟩] else [])

/-- Values and scale bytes of channels `c0`, …, of one pixel of a map in memory from a physical base (R227). -/
def State.pixel (s : State) (base : Nat) (w : Win) (fmt i j c0 n : Nat) : List Nat × List Nat :=
  let bs := s.bytes (base + w.inOff + 64 * w.row * i + w.pix * j) (rowBytes fmt w.channels)
  let nb := ceilDiv w.channels 32
  (slice (unpackRow fmt w.channels bs) c0 n,
   if isMx fmt then slice ((s.bytes (base + w.scaleOff + (i * w.inW + j) * nb) nb).map (fun b => b.toNat)) (c0 / 32) (ceilDiv n 32) else [])

/-- Raw elements and scales that a tap of an output pixel gives the product: `chR` elements (R231, R236). Padding is zero, or PAD_CONST with a factor of 1. -/
def State.tapRow (s : State) (base : Nat) (w : Win) (fmt y x r t : Nat) : List Nat × List Nat :=
  match w.source y x r t with
  | some (i, j) =>
    let f := w.f
    let parts := (List.range f).flatMap (fun dy => (List.range f).map (fun dx => s.pixel base w fmt (f * i + dy) (f * j + dx) w.cOff w.cCnt))
    ((parts.map (fun p => p.1)).flatten, (parts.map (fun p => p.2)).flatten)
  | none => (List.replicate w.chR (if w.pad = 1 then w.padConst else 0), List.replicate (if isMx fmt then ceilDiv w.chR 32 else 0) 0x7F)

/-- Physical bytes that a tap of an output pixel reads. -/
def Win.tapReads (w : Win) (base fmt y x r t : Nat) : List (Nat × Nat) :=
  match w.source y x r t with
  | some (i, j) =>
    (List.range w.f).flatMap (fun dy => (List.range w.f).flatMap (fun dx =>
      let a := w.f * i + dy
      let b := w.f * j + dx
      let lo := w.cOff * fmtBits fmt / 8
      let hi := ceilDiv ((w.cOff + w.cCnt) * fmtBits fmt) 8
      (base + w.inOff + 64 * w.row * a + w.pix * b + lo, hi - lo) ::
        (if isMx fmt then [(base + w.scaleOff + (a * w.inW + b) * ceilDiv w.channels 32 + w.cOff / 32, ceilDiv w.cCnt 32)] else [])))
  | none => []

/-- Bytes that the streamer fetches for output pixels (R241): for each pass and live tap row, the distinct pixels of the map read at each input row. -/
def Win.fetched (w : Win) (fmt : Nat) (ts : List (Nat × Nat × Nat × Nat)) (pixels : List (Nat × Nat)) : Nat :=
  let per := if w.s2d = 0 then rowBytes fmt w.cCnt + (if isMx fmt then ceilDiv w.cCnt 32 else 0) else w.f * rowBytes fmt (w.f * w.cCnt)
  let rows := (ts.map (fun t => (t.2.1, t.2.2.1))).eraseDups
  rows.foldl (fun a pr =>
    let cols := (ts.filter (fun t => decide (t.2.1 = pr.1) && decide (t.2.2.1 = pr.2))).map (fun t => t.2.2.2)
    let seen := (pixels.flatMap (fun yx => cols.filterMap (fun c => w.source yx.1 yx.2 pr.2 c))).eraseDups
    a + seen.length * per) 0

end Sys2Proof.Machine
end

