-- ==== Sys2Proof/Machine/Tensor.lean ====
section
/-!
DEFINITION. Machine/Tensor.lean: the tensor engine: its numerics (R163 to R168), the checks of R171, the cycles of R174, R175 and R241, and the rows
MATMUL and CONV.
-/
namespace Sys2Proof.Machine

/-- The fields of bytes 16 to 63 of MATMUL and CONV (R170). -/
structure TeCmd where
  aFmt : Nat
  bFmt : Nat
  outFmt : Nat
  accIn : Bool
  bias : Bool
  sat : Bool
  reserved : Bool
  m : Nat
  k : Nat
  n : Nat
  ldo : Nat
  aOff : Nat
  bOff : Nat
  outOff : Nat
  aScale : Nat
  bScale : Nat
  cHandle : Nat
  cOff : Nat
  lda : Nat
  ldb : Nat
deriving DecidableEq, Repr

/-- Read the fields; `reserved` tells whether the reserved bits of bytes 16 to 31 are zero. -/
def TeCmd.parse (b : List Byte) : TeCmd :=
  let fl := leAt b 19 1
  { aFmt := leAt b 16 1 % 16, bFmt := leAt b 17 1 % 16, outFmt := leAt b 18 1 % 8, accIn := bit fl 0, bias := bit fl 1, sat := bit fl 2,
    reserved := decide (leAt b 16 1 < 16) && decide (leAt b 17 1 < 16) && decide (leAt b 18 1 < 8) && decide (fl < 8) && decide (leAt b 23 1 = 0) &&
      decide (leAt b 27 1 = 0),
    m := leAt b 20 3, k := leAt b 24 3, n := leAt b 28 2, ldo := leAt b 30 2, aOff := leAt b 32 4, bOff := leAt b 36 4, outOff := leAt b 40 4,
    aScale := leAt b 44 4, bScale := leAt b 48 4, cHandle := leAt b 52 4, cOff := leAt b 56 4, lda := leAt b 60 2, ldb := leAt b 62 2 }

/-- BF16 and FP16. -/
def is16 (f : Nat) : Bool := decide (f = 11) || decide (f = 12)

/-- The integer path: both operands INT8, UINT8 or INT4 (R163). -/
def TeCmd.integer (c : TeCmd) : Bool := decide (c.aFmt ≤ 2) && decide (c.bFmt ≤ 2)

/-- Bytes of an output element (R167). -/
def TeCmd.outBytes (c : TeCmd) : Nat := if c.outFmt < 2 then 4 else 2

/-- Rows of B, its scales, C and D (R170). -/
def TeCmd.bRows (c : TeCmd) (b : List Byte) : List Rows :=
  [⟨descOp2 b, c.bOff, 64 * c.ldb, c.n, rowBytes c.bFmt c.k⟩] ++
  (if isMx c.bFmt then [⟨descOp2 b, c.bScale, scaleStride c.k, c.n, scaleBytes c.k⟩] else [])
def TeCmd.cRows (c : TeCmd) : List Rows :=
  if c.accIn then [⟨c.cHandle, c.cOff, 64 * c.ldo, c.m, 4 * c.n⟩] else if c.bias then [⟨c.cHandle, c.cOff, 0, 1, 4 * c.n⟩] else []
def TeCmd.dRows (c : TeCmd) (b : List Byte) : Rows := ⟨descOut b, c.outOff, 64 * c.ldo, c.m, c.n * c.outBytes⟩

/-- Rows of A of a MATMUL. -/
def TeCmd.aRows (c : TeCmd) (b : List Byte) : List Rows :=
  [⟨descOp1 b, c.aOff, 64 * c.lda, c.m, rowBytes c.aFmt c.k⟩] ++
  (if isMx c.aFmt then [⟨descOp1 b, c.aScale, scaleStride c.k, c.m, scaleBytes c.k⟩] else [])

/-- The window descriptor of a CONV, when its bytes can be read. -/
def State.teWin (s : State) (d : Nat) (p : Placed) (c : TeCmd) : Option Win :=
  match s.opBuf d p (descOp1 p.desc) with
  | some e => if c.aOff % 64 = 0 ∧ c.aOff + 64 ≤ e.length then some (Win.parse (s.bytes (e.base + c.aOff) 64)) else none
  | none => none

/-- The checks of R171 in their order, with those of R233 for a CONV; 0 when all pass. -/
def State.teCheck (s : State) (d : Nat) (p : Placed) (c : TeCmd) (win : Option (Option Win)) : Nat :=
  let conv := win.isSome
  let w := win.join
  let shape := match w with
    | some x => x.teRules c.aFmt c.k c.m
    | none => true
  let aRegions := match win with
    | none => c.aRows p.desc
    | some (some x) => x.regions c.aFmt (descOp1 p.desc) c.aOff
    | some none => [⟨descOp1 p.desc, c.aOff, 0, 1, 64⟩]
  let ins := aRegions ++ c.bRows p.desc ++ c.cRows
  let offs := [c.aOff, c.bOff, c.outOff, c.cOff] ++ (if isMx c.aFmt then [c.aScale] else []) ++ (if isMx c.bFmt then [c.bScale] else [])
  firstFailing
    [(2, decide (c.aFmt ≤ 12) && decide (c.bFmt ≤ 12) && decide (c.outFmt ≤ 3) && (is16 c.aFmt == is16 c.bFmt) &&
        (!decide (c.outFmt = 1) || c.integer) && !(c.accIn && c.bias) && c.reserved),
     (3, decide (1 ≤ c.m) && decide (1 ≤ c.k) && decide (1 ≤ c.n) && (if conv then decide (c.lda = 0) else decide (rowBytes c.aFmt c.k ≤ 64 * c.lda)) &&
        decide (rowBytes c.bFmt c.k ≤ 64 * c.ldb) && decide (c.n * c.outBytes ≤ 64 * c.ldo) && shape),
     (4, offs.all (fun o => decide (o % 64 = 0))),
     (5, s.handlesOk d p ([descOp1 p.desc, descOp2 p.desc, descOut p.desc] ++ (if c.accIn ∨ c.bias then [c.cHandle] else [])) &&
        (!(c.accIn || c.bias) || !decide (c.cHandle = 0))),
     (6, s.boundsOk d p (ins ++ [c.dRows p.desc])),
     (7, !descInPlace p.desc && ins.all (fun r => !r.meets (c.dRows p.desc)))]

/-- A zero is +0 (R166). -/
def Val.posZero (v : Val) : Val := if v.isZero then .zero else v

/-- The exact sum of products of a group (R164). -/
def groupSum (xs ys : List Val) : Val := ((xs.zip ys).foldl (fun a e => a.add (e.1.mul e.2)) Val.zero).posZero

/-- Cut a list into pieces of `n`; the first argument bounds the number of pieces. -/
def chunks {α : Type} : Nat → Nat → List α → List (List α)
  | 0, _, _ => []
  | _ + 1, _, [] => []
  | k + 1, n, xs => xs.take n :: chunks k n (xs.drop n)

/-- One step of the floating-point path of the narrow classes (R164): the group's sum by both scales, rounded once, added to the accumulator.
The Bool tells whether an infinity was produced, be it a product of a group whose sum is NaN (R167). -/
def groupStep32 (acc : Val × Bool) (xs ys : List Val) (sa sb : Nat) : Val × Bool :=
  let g := groupSum xs ys
  let v := ((g.mul (scaleVal sa)).mul (scaleVal sb)).f32
  let r := (acc.1.add32 v).posZero
  (r, acc.2 || (xs.zip ys).any (fun e => (e.1.mul e.2).isInf) || g.isInf || v.isInf || r.isInf)

/-- The floating-point path of the narrow classes over groups of 32 (R164); a missing scale is a factor of 1. -/
def dotNarrow (start : Val) (xs ys : List Val) (sas sbs : List Nat) : Val × Bool :=
  let n := xs.length / 32 + 1
  ((chunks n 32 xs).zip (chunks n 32 ys)).zipIdx.foldl
    (fun acc g => groupStep32 acc g.1.1 g.1.2 (sas.getD g.2 127) (sbs.getD g.2 127)) (start, false)

/-- Exponent of the leading bit of a number, when it is not zero. -/
def Val.top : Val → Option Int
  | .fin _ m e => if m = 0 then none else some (topExp m e)
  | _ => none

/-- The sum of finite terms in a window of 48 bits from the largest exponent down, with one sticky bit below it (R165): bits below the window are cut from
each magnitude; an exact zero with a sticky bit takes the sign of the largest term. DEDUCED. -/
def windowSum (ts : List Val) : Val :=
  match ts.filterMap Val.top with
  | [] => .zero
  | e :: es =>
    let lo := es.foldl max e - 47
    let parts : List (Int × Bool) := ts.map (fun t => match t with
      | .fin n m x =>
        let q := shiftTo m x lo
        (if n then -(q : Int) else (q : Int), !decide (shiftTo q lo (min lo x) = shiftTo m x (min lo x)))
      | _ => (0, false))
    let total : Int := parts.foldl (fun (a : Int) t => a + t.1) 0
    let sticky := parts.any (fun t => t.2)
    let big := ts.foldl (fun a t => if a.abs.lt false t.abs then t else a) Val.zero
    let neg := decide (total < 0) || (decide (total = 0) && big.sign)
    if total = 0 ∧ ¬ sticky then .zero else fp32.round (.fin neg (2 * total.natAbs + b2n sticky) (lo - 1))

/-- One group of four products with the accumulator (R165, R166). -/
def windowStep (acc : Val × Bool) (xs ys : List Val) : Val × Bool :=
  let terms := acc.1 :: (xs.zip ys).map (fun e => e.1.mul e.2)
  let special := terms.foldl (fun a t => a.add (match t with | .fin _ _ _ => Val.zero | x => x)) Val.zero
  let r := match special with
    | .fin _ _ _ => (windowSum terms).posZero
    | x => x
  (r, acc.2 || terms.any (fun t => t.isInf) || r.isInf)

/-- The floating-point path of the 16-bit class (R165). -/
def dot16 (start : Val) (xs ys : List Val) : Val × Bool :=
  let n := xs.length / 4 + 1
  ((chunks n 4 xs).zip (chunks n 4 ys)).foldl (fun acc g => windowStep acc g.1 g.2) (start, false)

/-- A row of an operand as the product takes it: raw elements and one scale byte for each group of 32 (none without MX). -/
structure TeRow where
  raws : List Nat
  scales : List Nat
deriving DecidableEq, Repr

/-- One output element: its bits with the flags (R163 to R167). `start` is C, the bias or zero, as a number. -/
def teElem (c : TeCmd) (start : Val) (a b : TeRow) : Nat × Fl :=
  if c.integer then
    let x := (a.raws.zip b.raws).foldl (fun t e => t + intElem c.aFmt e.1 * intElem c.bFmt e.2) 0
    let v := start.add (Val.ofInt x)
    match v with
    | .fin n m e =>
      if c.outFmt = 1 then intOut 14 (roundInt n m e)
      else teOut v.posZero false
    | _ => (0, Fl.none)
  else
    let xs := a.raws.map (elemVal c.aFmt)
    let ys := b.raws.map (elemVal c.bFmt)
    let r := if is16 c.aFmt then dot16 start xs ys else dotNarrow start xs ys a.scales b.scales
    teOut r.1.posZero r.2
where
  /-- The output conversion of R167, a result that rounds to zero as +0 (R166), with the infinities produced on the way. -/
  teOut (v : Val) (inf : Bool) : Nat × Fl :=
    let f := if c.outFmt = 2 then bf16 else if c.outFmt = 3 then fp16 else fp32
    let o := f.out c.sat (match v with
      | .fin n m e => if (f.roundMag m e).1 = 0 then .zero else .fin n m e
      | x => x)
    (o.1, { o.2 with inf := o.2.inf || inf })

/-- C of an output row: INT32 on the integer path, FP32 otherwise; zero without C (R170). -/
def State.teStart (s : State) (d : Nat) (p : Placed) (c : TeCmd) (m : Nat) : List Val :=
  let fmt := if c.integer then 14 else 13
  if c.accIn then s.rowVals d p fmt c.n c.cHandle (c.cOff + 64 * c.ldo * m) 0
  else if c.bias then s.rowVals d p fmt c.n c.cHandle c.cOff 0
  else List.replicate c.n Val.zero

/-- Row n of B, at the elements whose K indices are listed as (first, count) pieces (R162, R234). -/
def State.teB (s : State) (d : Nat) (p : Placed) (c : TeCmd) (pieces : List (Nat × Nat)) (n : Nat) : TeRow :=
  let raws := unpackRow c.bFmt c.k (s.bufBytes d p (descOp2 p.desc) (c.bOff + 64 * c.ldb * n) (rowBytes c.bFmt c.k))
  let sc := if isMx c.bFmt then (s.bufBytes d p (descOp2 p.desc) (c.bScale + scaleStride c.k * n) (scaleBytes c.k)).map (fun x => x.toNat) else []
  match pieces with
  | [(0, _)] => ⟨raws, sc⟩
  | _ => ⟨pieces.flatMap (fun e => slice raws e.1 e.2), pieces.flatMap (fun e => slice sc (e.1 / 32) (ceilDiv e.2 32))⟩

/-- A bytes, B bytes and scale bytes per cycle (R158, R159). -/
def teTraffic (c : TeCmd) : Nat :=
  if is16 c.aFmt then 160
  else
    let step := if fmtBits c.aFmt = 4 ∧ fmtBits c.bFmt = 4 then 2 else 1
    (96 * step * fmtBits c.aFmt + 64 * step * fmtBits c.bFmt) / 8 + (if isMx c.aFmt then 3 * step else 0) + (if isMx c.bFmt then 2 * step else 0)

/-- K cycles of a tile for a K that runs (R174). -/
def teKc (c : TeCmd) (k : Nat) : Nat :=
  if is16 c.aFmt then 4 * k else if fmtBits c.aFmt = 4 ∧ fmtBits c.bFmt = 4 then ceilDiv k 2 else k

/-- Tiles in the order of R173: first row and column. -/
def TeCmd.tiles (c : TeCmd) : List (Nat × Nat) :=
  (List.range (ceilDiv c.n 64)).flatMap (fun j => (List.range (ceilDiv c.m 96)).map (fun i => (96 * i, 64 * j)))

/-- Cycles of a command (R174, R175, R241), in all and those its tiles wait for remote streams: `first` is what each tile takes for its K cycles and its fetches,
`remote` the remote bytes of a tile with its rows and columns, `far` whether D is remote, `fold` the cycles before the first tile. -/
def teCycles (c : TeCmd) (first : Nat × Nat → Nat) (remote : Nat × Nat → Nat → Nat → Nat) (far : Bool) (fold : Nat) : Nat × Nat :=
  let dc := 96 * 64 * c.outBytes / 128
  let cc := if c.accIn then ceilDiv 24576 (256 - teTraffic c) else 0
  let r := c.tiles.foldl (fun (a : (Nat × Nat) × Nat) t =>
    let rows := min 96 (c.m - t.1)
    let cols := min 64 (c.n - t.2)
    let own := max (max (first t) a.2) cc + 16
    let n := max own (ceilDiv (remote t rows cols) 64)
    ((a.1.1 + n, a.1.2 + (n - own)), if far then max dc (ceilDiv (rows * cols * c.outBytes) 64) else dc)) ((32 + fold, 0), 0)
  (r.1.1 + r.2, r.1.2)

/-- The rows of D within each tile, in the order in which the TE writes its tiles (R173): the bytes of each with its flags (R170). -/
def teRows (c : TeCmd) (start : Nat → List Val) (a b : Nat → TeRow) : List ((Nat × List Byte) × Fl) :=
  let bs := (List.range c.n).map b
  c.tiles.flatMap (fun t => (rangeFrom t.1 (min 96 (c.m - t.1))).map (fun m =>
    let ar := a m
    let es := (slice ((start m).zip bs) t.2 64).map (fun e => teElem c e.1 ar e.2)
    ((c.outOff + 64 * c.ldo * m + c.outBytes * t.2, (es.map (fun e => leBytes c.outBytes e.1)).flatten), Fl.all (es.map (fun e => e.2)))))

/-- MATMUL as a run (R170 to R175). -/
def State.matmulJob (s : State) (d core : Nat) (p : Placed) : Job :=
  let c := TeCmd.parse p.desc
  let code := s.teCheck d p c none
  if code ≠ 0 then Job.fail code
  else
    let a (m : Nat) : TeRow :=
      ⟨unpackRow c.aFmt c.k (s.bufBytes d p (descOp1 p.desc) (c.aOff + 64 * c.lda * m) (rowBytes c.aFmt c.k)),
       if isMx c.aFmt then (s.bufBytes d p (descOp1 p.desc) (c.aScale + scaleStride c.k * m) (scaleBytes c.k)).map (fun x => x.toNat) else []⟩
    let rows := teRows c (s.teStart d p c) a (s.teB d p c [(0, c.k)])
    let far (h : Nat) : Bool := !s.isLocal d core p h
    let remote (_ : Nat × Nat) (r n : Nat) : Nat :=
      (if far (descOp1 p.desc) then r * (rowBytes c.aFmt c.k + (if isMx c.aFmt then scaleBytes c.k else 0)) else 0) +
      (if far (descOp2 p.desc) then n * (rowBytes c.bFmt c.k + (if isMx c.bFmt then scaleBytes c.k else 0)) else 0) +
      (if (c.accIn ∨ c.bias) ∧ far c.cHandle then (if c.accIn then r * n * 4 else n * 4) else 0)
    let t := teCycles c (fun _ => teKc c c.k) remote (far (descOut p.desc)) 0
    Job.done (Fl.all (rows.map (fun r => r.2))) ((c.aRows p.desc ++ c.bRows p.desc ++ c.cRows).flatMap (s.runsOf d p)) (rows.map (fun r => r.1))
      t.1 (c.tiles.length * teKc c c.k, t.2)

/-- The fold of constant padding for output channel n (R235): PAD_CONST times each weight of the dead taps, exact on the integer path, summed in FP32
otherwise, each product with the B block scale exact. -/
def foldSum (c : TeCmd) (padConst : Nat) (b : TeRow) (pieces : List (Nat × Nat)) : Val :=
  pieces.foldl (fun acc e => (rangeFrom e.1 e.2).foldl (fun t i =>
    let v := ((elemVal c.aFmt padConst).mul (elemVal c.bFmt (b.raws.getD i 0))).mul (if isMx c.bFmt then scaleVal (b.scales.getD (i / 32) 127) else Val.one)
    if c.integer then t.add v else t.add32 v) acc) Val.zero

/-- CONV as a run (R169, R230 to R236, R241): rows of A are output pixels OUT_Y0 × OUT_W and on. -/
def State.convJob (s : State) (d core : Nat) (p : Placed) : Job :=
  let c := TeCmd.parse p.desc
  let ow := s.teWin d p c
  let code := s.teCheck d p c (some ow)
  match ow, s.opBuf d p (descOp1 p.desc) with
  | some w, some e =>
    if code ≠ 0 then Job.fail code
    else
      let skip := w.skips (some c.bFmt)
      let fold := skip && decide (w.pad = 1)
      let ts := w.running skip
      let piece (t : Nat × Nat × Nat × Nat) : Nat × Nat := (t.1 * w.chR, w.chR)
      let pix (m : Nat) : Nat × Nat := ((w.outY0 * w.outW + m) / w.outW, (w.outY0 * w.outW + m) % w.outW)
      let a (m : Nat) : TeRow :=
        let parts := ts.map (fun t => s.tapRow e.base w c.aFmt (pix m).1 (pix m).2 t.2.2.1 t.2.2.2)
        ⟨(parts.map (fun x => x.1)).flatten, (parts.map (fun x => x.2)).flatten⟩
      let whole := s.teB d p c [(0, c.k)]
      let folds := if fold then (List.range c.n).map (fun n => foldSum c w.padConst (whole n) (w.dead.map piece)) else []
      let start (m : Nat) : List Val :=
        if fold then ((s.teStart d p c m).zip folds).map (fun x => if c.integer then x.1.add x.2 else (x.1.add32 x.2)) else s.teStart d p c m
      let rows := teRows c start a (if skip then s.teB d p c (ts.map piece) else whole)
      let infs := folds.any (fun v => v.isInf)
      let kRun := ts.length * w.chR
      let far (h : Nat) : Bool := !s.isLocal d core p h
      let fetched (t : Nat × Nat) : Nat := w.fetched c.aFmt ts ((rangeFrom t.1 (min 96 (c.m - t.1))).map pix)
      let first (t : Nat × Nat) : Nat :=
        if ts = [] then 0 else max (teKc c kRun + 8 * ((passesOf ts).length - 1)) (ceilDiv (fetched t) 128)
      let remote (t : Nat × Nat) (r n : Nat) : Nat :=
        (if far (descOp1 p.desc) then fetched t else 0) +
        (if far (descOp2 p.desc) then n * (ceilDiv (kRun * fmtBits c.bFmt) 8 + (if isMx c.bFmt then ceilDiv kRun 32 else 0)) else 0) +
        (if (c.accIn ∨ c.bias) ∧ far c.cHandle then (if c.accIn then r * n * 4 else n * 4) else 0)
      let deadBytes := c.n * (ceilDiv (w.dead.length * w.chR * fmtBits c.bFmt) 8 + (if isMx c.bFmt then w.dead.length * w.chR / 32 else 0))
      let bReads := if skip ∧ ¬ fold then
          (List.range c.n).flatMap (fun n => ts.flatMap (fun t =>
            let o := piece t
            (s.runsOf d p ⟨descOp2 p.desc, c.bOff + 64 * c.ldb * n + o.1 * fmtBits c.bFmt / 8, 0, 1, rowBytes c.bFmt o.2⟩) ++
            (if isMx c.bFmt then s.runsOf d p ⟨descOp2 p.desc, c.bScale + scaleStride c.k * n + o.1 / 32, 0, 1, ceilDiv o.2 32⟩ else [])))
        else (c.bRows p.desc).flatMap (s.runsOf d p)
      let aReads := (e.base + c.aOff, 64) :: (List.range c.m).flatMap (fun m => ts.flatMap (fun t => w.tapReads e.base c.aFmt (pix m).1 (pix m).2 t.2.2.1 t.2.2.2))
      let f := Fl.all (rows.map (fun r => r.2))
      let t := teCycles c first remote (far (descOut p.desc)) (if fold then ceilDiv deadBytes 128 + 64 else 0)
      { Job.done { f with inf := f.inf || infs } (aReads ++ bReads ++ c.cRows.flatMap (s.runsOf d p)) (rows.map (fun r => r.1)) t.1
          (c.tiles.length * teKc c kRun, t.2) with
        win := some (w.plan skip fold) }
  | _, _ => Job.fail (if code = 0 then 5 else code)

/-- TE opcodes that have a row: MATMUL, CONV and the fused commands. -/
def teOps (op : Nat) : Bool := decide (op = 1) || decide (op = 2) || decide (op = 0x10) || decide (op = 0x11) || decide (op = 0x12) || decide (op = 0x13)

/-- MATMUL: the command on the TE of a core computes D = C + A × Bᵀ (R169 to R177). -/
def execMatmul (d core : Nat) (s : State) : Out := s.runRow d core .te 0 (fun o => o == 1) teOps (s.matmulJob d core)

/-- CONV: the command on the TE of a core computes D with the rows of A formed by the window streamer (R169, R227 to R241). -/
def execConv (d core : Nat) (s : State) : Out := s.runRow d core .te 0 (fun o => o == 2) teOps (s.convJob d core)

end Sys2Proof.Machine
end

