-- ==== Sys2Proof/Machine/Vector.lean ====
section
/-!
DEFINITION. Machine/Vector.lean: the row commands of the vector engine (R180 to R197): UNARY, BINARY, REDUCE, SOFTMAX, NORM and CONVERT.
-/
namespace Sys2Proof.Machine

/-- Fields of a row command (R185). -/
structure VeCmd where
  op : Nat
  aFmt : Nat
  bFmt : Nat
  outFmt : Nat
  sat : Bool
  bcast : Bool
  colScale : Bool
  axis : Bool
  reserved : Bool
  rows : Nat
  cols : Nat
  func : Nat
  aux : Nat
  ldo : Nat
  aOff : Nat
  bOff : Nat
  outOff : Nat
  aScale : Nat
  bScale : Nat
  oScale : Nat
  imm : Val
  lda : Nat
  ldb : Nat
deriving DecidableEq, Repr

/-- Whether a row command reads B: BINARY, NORM, and CONVERT with COL_SCALE (R185). -/
def veReadsB (op : Nat) (colScale : Bool) : Bool := decide (op = 2) || decide (op = 5) || (decide (op = 6) && colScale)

/-- Read the fields; B_FMT is ignored where no B is read (R185). -/
def VeCmd.parse (b : List Byte) : VeCmd :=
  let fl := leAt b 19 1
  { op := descOp b, aFmt := leAt b 16 1 % 16, bFmt := leAt b 17 1 % 16, outFmt := leAt b 18 1 % 16, sat := bit fl 0, bcast := bit fl 1,
    colScale := bit fl 2, axis := bit fl 3,
    reserved := decide (leAt b 16 1 < 16) && (decide (leAt b 17 1 < 16) || !veReadsB (descOp b) (bit fl 2)) && decide (leAt b 18 1 < 16) && decide (fl < 16) &&
      decide (leAt b 23 1 = 0) && decide (leAt b 27 1 = 0),
    rows := leAt b 20 3, cols := leAt b 24 3, func := leAt b 28 1, aux := leAt b 29 1, ldo := leAt b 30 2, aOff := leAt b 32 4, bOff := leAt b 36 4,
    outOff := leAt b 40 4, aScale := leAt b 44 4, bScale := leAt b 48 4, oScale := leAt b 52 4, imm := fp32.decode (leAt b 56 4), lda := leAt b 60 2,
    ldb := leAt b 62 2 }

/-- FUNC and AUX are defined for the opcode (R185, R186). -/
def VeCmd.funcOk (c : VeCmd) : Bool :=
  match c.op with
  | 1 => (decide (c.func ≤ 6) || (decide (0x10 ≤ c.func) && decide (c.func ≤ 0x1D))) && decide (c.aux = 0)
  | 2 => decide (c.func ≤ 7) && decide (c.aux ≤ 6)
  | 3 => decide (c.func ≤ 4) && decide (c.aux = 0)
  | 4 => decide (c.func = 0) && decide (c.aux = 0)
  | 5 => decide (c.func ≤ 1) && decide (c.aux = 0)
  | _ => decide (c.func = 0) && (decide (c.outFmt ≤ 2) || decide (c.aux = 0))

/-- REDUCE along rows, along columns. -/
def VeCmd.alongRows (c : VeCmd) : Bool := decide (c.op = 3) && !c.axis
def VeCmd.alongCols (c : VeCmd) : Bool := decide (c.op = 3) && c.axis

/-- Rows and columns of D (R185). -/
def VeCmd.outRows (c : VeCmd) : Nat := if c.alongCols then 1 else c.rows
def VeCmd.outCols (c : VeCmd) : Nat := if c.alongRows then 1 else c.cols

/-- An FP32 row or rows in B: the column scale, or gamma and beta (R185, R193). -/
def VeCmd.fpRows (c : VeCmd) : Nat := if c.op = 5 then (if c.func = 0 then 2 else 1) else if c.op = 6 ∧ c.colScale then 1 else 0

/-- Rows of A, B and D with their scale rows. -/
def VeCmd.aRows (c : VeCmd) (b : List Byte) : List Rows :=
  [⟨descOp1 b, c.aOff, 64 * c.lda, c.rows, rowBytes c.aFmt c.cols⟩] ++
  (if isMx c.aFmt then [⟨descOp1 b, c.aScale, scaleStride c.cols, c.rows, scaleBytes c.cols⟩] else [])
def VeCmd.bRows (c : VeCmd) (b : List Byte) : List Rows :=
  let n := if c.bcast then 1 else c.rows
  if c.op = 2 then
    [⟨descOp2 b, c.bOff, 64 * c.ldb, n, rowBytes c.bFmt c.cols⟩] ++
    (if isMx c.bFmt then [⟨descOp2 b, c.bScale, scaleStride c.cols, n, scaleBytes c.cols⟩] else [])
  else if c.fpRows = 0 then []
  else [⟨descOp2 b, c.bOff, 64 * c.ldb, c.fpRows, 4 * c.cols⟩]
def VeCmd.dRows (c : VeCmd) (b : List Byte) : List Rows :=
  [⟨descOut b, c.outOff, 64 * c.ldo, c.outRows, rowBytes c.outFmt c.outCols⟩] ++
  (if isMx c.outFmt then [⟨descOut b, c.oScale, scaleStride c.outCols, c.outRows, scaleBytes c.outCols⟩] else [])

/-- The checks of R188 on a row command; 0 when all pass. -/
def State.veCheck (s : State) (d : Nat) (p : Placed) (c : VeCmd) : Nat :=
  let b := p.desc
  let ins := c.aRows b ++ c.bRows b
  let useB := veReadsB c.op c.colScale
  let inPlaceOk := (decide (c.op = 1) || decide (c.op = 2) || decide (c.op = 6)) && decide (descOut b = descOp1 b) && decide (c.outOff = c.aOff) &&
    decide (c.ldo = c.lda) && decide (fmtBits c.aFmt = fmtBits c.outFmt) && !isMx c.aFmt && !isMx c.outFmt
  firstFailing
    [(1, c.funcOk),
     (2, decide (c.aFmt ≤ 14) && (!useB || decide (c.bFmt ≤ 14)) && decide (c.outFmt ≤ 14) &&
        (!(decide (c.op = 3) && decide (c.func = 4)) || decide (c.outFmt = 14)) && c.reserved),
     (3, decide (1 ≤ c.rows) && decide (1 ≤ c.cols) && decide (rowBytes c.aFmt c.cols ≤ 64 * c.lda) &&
        (!decide (c.op = 2) || decide (rowBytes c.bFmt c.cols ≤ 64 * c.ldb)) && (decide (c.fpRows = 0) || decide (4 * c.cols ≤ 64 * c.ldb)) &&
        decide (rowBytes c.outFmt c.outCols ≤ 64 * c.ldo) && (!descInPlace b || decide (c.rows * (ceilDiv c.cols 10 + 8) ≤ 15360))),
     (4, ([c.aOff, c.bOff, c.outOff] ++ (if isMx c.aFmt then [c.aScale] else []) ++
        (if c.op = 2 ∧ isMx c.bFmt then [c.bScale] else []) ++ (if isMx c.outFmt then [c.oScale] else [])).all (fun o => decide (o % 64 = 0))),
     (5, s.handlesOk d p ([descOp1 b, descOut b] ++ (if useB then [descOp2 b] else []))),
     (6, s.boundsOk d p (ins ++ c.dRows b)),
     (7, if descInPlace b then inPlaceOk && (c.bRows b).all (fun r => (c.dRows b).all (fun x => !r.meets x))
        else ins.all (fun r => (c.dRows b).all (fun x => !r.meets x)))]

/-- The integer path (R183): integer inputs and output, and FUNC one of the operations it has. -/
def VeCmd.integer (c : VeCmd) : Bool :=
  isIntFmt c.aFmt && isIntFmt c.outFmt &&
  (match c.op with
   | 1 => decide (c.func ≤ 3)
   | 2 => isIntFmt c.bFmt && decide (c.func ≤ 4)
   | 3 => decide (c.func = 1) || decide (c.func = 2)
   | _ => false)

/-- Unary operations on exact integers (R186). -/
def intUnary (fn : Nat) (x : Int) : Int :=
  match fn with
  | 0 => x | 1 => -x | 2 => x.natAbs | _ => max x 0

/-- The post-operation of a BINARY on the integer path (R183, R186): exact, CLAMP and LEAKY with the value of IMM; the output stage rounds what is no integer
(R195). DEDUCED (notes/assumptions/38). -/
def intPost (fn : Nat) (imm : Val) (x : Int) : Val :=
  let v := Val.ofInt x
  match fn with
  | 4 => (v.max imm.abs.neg).min imm.abs
  | 5 => if x < 0 then imm.mul v else v
  | 6 => v.mul v
  | f => Val.ofInt (intUnary f x)

/-- Binary operations on exact integers. -/
def intBinary (fn : Nat) (x y : Int) : Int :=
  match fn with
  | 0 => x + y | 1 => x - y | 2 => x * y | 3 => max x y | _ => min x y

/-- Unary operations on FP32 values (R186). -/
def fpUnary (fn : Nat) (imm x : Val) : Val :=
  match fn with
  | 0 => x
  | 1 => x.neg
  | 2 => x.abs
  | 3 => if x.isNan then .nan else if Val.zero.lt false x then x else .zero
  | 4 => (x.max imm.abs.neg).min imm.abs
  | 5 => if x.isNan then .nan else if x.lt false Val.zero then imm.mul32 x else x
  | 6 => x.mul32 x
  | f => transcend f x

/-- Binary operations on FP32 values, with whether an infinity was produced on the way (R186). -/
def fpBinary (fn : Nat) (imm x y : Val) : Val × Bool :=
  match fn with
  | 0 => (x.add32 y, false)
  | 1 => (x.sub32 y, false)
  | 2 => (x.mul32 y, false)
  | 3 => (x.max y, false)
  | 4 => (x.min y, false)
  | 5 => (x.fma32 imm y, false)
  | 6 => let r := transcend 0x14 y; (x.mul32 r, r.isInf && !y.isInf)
  | _ => (if y.lt false x then .one else .zero, false)

/-- The zero point of CONVERT (R185). -/
def VeCmd.zp (c : VeCmd) : Int := if c.op = 6 ∧ (c.outFmt = 0 ∨ c.outFmt = 2) then toSigned 8 c.aux else if c.op = 6 ∧ c.outFmt = 1 then (c.aux : Int) else 0

/-- One FP32 result to an output format without MX (R195, R196). An infinite result sets INF whatever is written. -/
def veElem (fmt : Nat) (sat : Bool) (zp : Int) (v : Val) : Nat × Fl :=
  let r := match fpOf fmt with
    | some f => f.out sat v
    | none => quantInt fmt (if fmt = 14 then 0 else zp) v
  (r.1, { r.2 with inf := r.2.inf || v.isInf })

/-- The output stage on a row (R195 to R197): elements, scale bytes, flags. -/
def veRowOut (fmt : Nat) (sat : Bool) (zp : Int) (vs : List Val) : List Nat × List Byte × Fl :=
  if isMx fmt then
    let bs := (chunks (vs.length / 32 + 1) 32 vs).map (mxBlock fmt)
    ((bs.map (fun b => b.2.1)).flatten, bs.map (fun b => BitVec.ofNat 8 b.1),
     { Fl.all (bs.map (fun b => b.2.2)) with inf := vs.any (fun v => v.isInf) })
  else
    let es := vs.map (veElem fmt sat zp)
    (es.map (fun e => e.1), [], Fl.all (es.map (fun e => e.2)))

/-- Lane results combined by the pairwise tree of R191: neighbours first. The first argument bounds the levels. -/
def pairTree {α : Type} (f : α → α → α) : Nat → List α → List α
  | 0, xs => xs
  | n + 1, xs => pairTree f n (pairs xs)
where
  pairs : List α → List α
    | a :: b :: xs => f a b :: pairs xs
    | xs => xs

/-- A reduction along a row in 64 lanes (R191): each lane from the identity over its elements in order, then six levels of pairs. -/
def laneReduce {α β : Type} (idn : α) (step : α → β → α) (merge : α → α → α) (xs : List β) : α :=
  let rows := chunks (xs.length / 64 + 1) 64 xs
  let lanes := (List.range 64).map (fun j => rows.foldl (fun a r => match r[j]? with | some x => step a x | none => a) idn)
  (pairTree merge 6 lanes).headD idn

/-- ARGMAX of values by index: the lowest index of a NaN, else the lowest of the largest (R191). -/
def argMax (vs : List Val) : Nat :=
  match firstIdx Val.isNan 0 vs with
  | some i => i
  | none => (vs.zipIdx.foldl (fun (a : Nat × Val) e => if a.2.lt true e.1 then (e.2, e.1) else a) (0, vs.headD Val.zero)).1

/-- One reduced element from the values in the order that is reduced, with a flag for an infinity on the way. `lanes` folds along a row, otherwise
rows are taken in ascending order (R191). -/
def reduceVals (func : Nat) (lanes : Bool) (vs : List Val) : Val × Bool :=
  let go (idn : Val) (step merge : Val → Val → Val) : Val × Bool :=
    let st (a : Val × Bool) (x : Val) : Val × Bool := let r := step a.1 x; (r, a.2 || r.isInf)
    let mg (a b : Val × Bool) : Val × Bool := let r := merge a.1 b.1; (r, a.2 || b.2 || r.isInf)
    if lanes then laneReduce (idn, false) st mg vs else vs.foldl st (idn, false)
  match func with
  | 0 => go Val.zero Val.add32 Val.add32
  | 1 => ((go (.inf true) Val.max Val.max).1, false)
  | 2 => ((go (.inf false) Val.min Val.min).1, false)
  | 3 => go Val.zero (fun a x => x.fma32 x a) Val.add32
  | _ => (Val.ofInt (argMax vs), false)

/-- Base-2 logarithm of e in FP32. -/
def log2e : Val := fp32.decode 0x3FB8AA3B

/-- 2 to the power of (x - y) × log2 e, each operation in FP32 (R192), with whether an infinity was produced on the way. -/
def expDiff (x y : Val) : Val × Bool :=
  let dl := x.sub32 y
  let e := dl.mul32 log2e
  (transcend 0x11 e, dl.isInf || e.isInf)

/-- What a lane of SOFTMAX keeps (R192): the running maximum, -∞ before the first element, the sum, and whether an infinity was produced. -/
structure SoftLane where
  top : Val
  sum : Val
  inf : Bool
deriving DecidableEq, Repr

/-- A lane before its first element. -/
def SoftLane.empty : SoftLane := ⟨.inf true, .zero, false⟩

/-- A lane takes an element (R192). -/
def SoftLane.step (a : SoftLane) (x : Val) : SoftLane :=
  if x = .inf true then a
  else if a.top = .inf true then { a with top := x, sum := .one }
  else if a.top.lt false x then
    let e := expDiff a.top x
    ⟨x, a.sum.fma32 e.1 Val.one, a.inf || e.2⟩
  else
    let e := expDiff x a.top
    { a with sum := a.sum.add32 e.1, inf := a.inf || e.2 }

/-- Merge two lanes: the sum of the smaller maximum is rescaled. -/
def SoftLane.merge (a b : SoftLane) : SoftLane :=
  if b.top = .inf true then { a with inf := a.inf || b.inf }
  else if a.top = .inf true then { b with inf := a.inf || b.inf }
  else if a.top.lt false b.top then
    let e := expDiff a.top b.top
    ⟨b.top, a.sum.fma32 e.1 b.sum, a.inf || b.inf || e.2⟩
  else
    let e := expDiff b.top a.top
    ⟨a.top, b.sum.fma32 e.1 a.sum, a.inf || b.inf || e.2⟩

/-- Softmax of a row with whether an infinity was produced (R192). -/
def softmaxRow (imm : Val) (vs : List Val) : List Val × Bool :=
  let xs := vs.map (fun a => imm.mul32 a)
  let inf := xs.any (fun x => x.isInf)
  if xs.any (fun x => x.isNan || decide (x = .inf false)) then (xs.map (fun _ => .nan), inf)
  else if xs.all (fun x => decide (x = .inf true)) then (xs.map (fun _ => .zero), inf)
  else
    let l := laneReduce SoftLane.empty SoftLane.step SoftLane.merge xs
    let r := transcend 0x14 l.sum
    let es := xs.map (fun x => if x = .inf true then (Val.zero, false) else
      (let dl := x.sub32 l.top
       ((transcend 0x10 dl).mul32 r, dl.isInf)))
    (es.map (fun e => e.1), inf || l.inf || es.any (fun e => e.2))

/-- An FP32 quotient, rounded once (R183, R193), of a number by a number that is not zero. -/
def Val.div32 (x y : Val) : Val :=
  match x, y with
  | .fin a m e, .fin b n f => if n = 0 then .nan else stickyRound (a != b) (m * 2 ^ 80 / n) (decide (m * 2 ^ 80 % n = 0)) (e - f - 80)
  | .inf a, .fin b n _ => if n = 0 then .nan else .inf (a != b)
  | _, _ => .nan

/-- What a lane of LAYERNORM keeps (R193): count, mean, sum of squared deviations, and whether an infinity was produced. -/
structure Welford where
  count : Nat
  mean : Val
  dev : Val
  inf : Bool
deriving DecidableEq, Repr

/-- A lane before its first element. -/
def Welford.empty : Welford := ⟨0, .zero, .zero, false⟩

/-- Welford's update of a lane (R193). -/
def Welford.step (a : Welford) (x : Val) : Welford :=
  let n := a.count + 1
  let dl := x.sub32 a.mean
  let mean := a.mean.add32 (dl.div32 (Val.ofInt n))
  let after := x.sub32 mean
  let dev := dl.fma32 after a.dev
  ⟨n, mean, dev, a.inf || [dl, mean, after, dev].any Val.isInf⟩

/-- The pairwise formula for two lanes (R193). -/
def Welford.merge (a b : Welford) : Welford :=
  if b.count = 0 then a
  else if a.count = 0 then b
  else
    let n := a.count + b.count
    let dl := b.mean.sub32 a.mean
    let w := (Val.ofInt b.count).div32 (Val.ofInt n)
    let sq := dl.mul32 dl
    let part := sq.mul32 ((Val.ofInt a.count).mul32 w)
    let mean := dl.fma32 w a.mean
    let both := a.dev.add32 b.dev
    let dev := part.add32 both
    ⟨n, mean, dev, a.inf || b.inf || [dl, sq, part, mean, both, dev].any Val.isInf⟩

/-- Layer or RMS normalisation of a row, with whether an infinity was produced (R193). -/
def normRow (func : Nat) (eps : Val) (vs gamma beta : List Val) : List Val × Bool :=
  if vs.any (fun v => v.isNan || v.isInf) then (vs.map (fun _ => .nan), false)
  else
    let n := Val.ofInt vs.length
    let root (sum : Val) : Val × Bool :=
      let var := (sum.div32 n).add32 eps
      let r := transcend 0x16 var
      (r, var.isInf || r.isInf)
    if func = 0 then
      let w := laneReduce Welford.empty Welford.step Welford.merge vs
      let r := root w.dev
      let es := (vs.zip (gamma.zip beta)).map (fun e =>
        let dl := e.1.sub32 w.mean
        let z := dl.mul32 r.1
        (z.fma32 e.2.1 e.2.2, dl.isInf || z.isInf))
      (es.map (fun e => e.1), w.inf || r.2 || es.any (fun e => e.2))
    else
      let q := reduceVals 3 true vs
      let r := root q.1
      let es := (vs.zip gamma).map (fun e =>
        let z := e.1.mul32 r.1
        (z.mul32 e.2, z.isInf))
      (es.map (fun e => e.1), q.2 || r.2 || es.any (fun e => e.2))

/-- Values of row m of A, and of B for a BINARY, as FP32 (R183). -/
def State.veA (s : State) (d : Nat) (p : Placed) (c : VeCmd) (m : Nat) : List Val :=
  (s.rowVals d p c.aFmt c.cols (descOp1 p.desc) (c.aOff + 64 * c.lda * m) (c.aScale + scaleStride c.cols * m)).map Val.f32
def State.veB (s : State) (d : Nat) (p : Placed) (c : VeCmd) (m : Nat) : List Val :=
  let m' := if c.bcast then 0 else m
  (s.rowVals d p c.bFmt c.cols (descOp2 p.desc) (c.bOff + 64 * c.ldb * m') (c.bScale + scaleStride c.cols * m')).map Val.f32

/-- Integers of a row of an operand. -/
def State.veInts (s : State) (d : Nat) (p : Placed) (fmt n h off : Nat) : List Int :=
  (unpackRow fmt n (s.bufBytes d p h off (rowBytes fmt n))).map (intElem fmt)

/-- An FP32 row of B. -/
def State.veFp (s : State) (d : Nat) (p : Placed) (c : VeCmd) (m : Nat) : List Val :=
  s.rowVals d p 13 c.cols (descOp2 p.desc) (c.bOff + 64 * c.ldb * m) 0

/-- Integer rows of A, and of B for a BINARY. -/
def State.veIntA (s : State) (d : Nat) (p : Placed) (c : VeCmd) (m : Nat) : List Int :=
  s.veInts d p c.aFmt c.cols (descOp1 p.desc) (c.aOff + 64 * c.lda * m)
def State.veIntB (s : State) (d : Nat) (p : Placed) (c : VeCmd) (m : Nat) : List Int :=
  s.veInts d p c.bFmt c.cols (descOp2 p.desc) (c.bOff + 64 * c.ldb * (if c.bcast then 0 else m))

/-- Columns of a list of rows. -/
def columns {α : Type} (n : Nat) (rows : List (List α)) : List (List α) := (List.range n).map (fun j => rows.filterMap (fun r => r[j]?))

/-- Rows of D as exact values on the integer path. -/
def State.veIntRow (s : State) (d : Nat) (p : Placed) (c : VeCmd) (m : Nat) : List Val :=
  match c.op with
  | 1 => (s.veIntA d p c m).map (fun x => Val.ofInt (intUnary c.func x))
  | 2 => ((s.veIntA d p c m).zip (s.veIntB d p c m)).map (fun e => intPost c.aux c.imm (intBinary c.func e.1 e.2))
  | _ =>
    let red (xs : List Int) : Val := Val.ofInt (xs.foldl (fun a x => intBinary (c.func + 2) a x) (xs.headD 0))
    if c.axis then (columns c.cols ((List.range c.rows).map (s.veIntA d p c))).map red else [red (s.veIntA d p c m)]

/-- Rows of D as FP32 results with a flag for an infinity produced on the way (R186, R191 to R193). SUM of integer inputs is exact, and an FP32
result before a floating-point output (R183, R191). -/
def State.veFpRow (s : State) (d : Nat) (p : Placed) (c : VeCmd) (m : Nat) : List Val × Bool :=
  match c.op with
  | 1 => ((s.veA d p c m).map (fpUnary c.func c.imm), false)
  | 2 =>
    let rs := ((s.veA d p c m).zip (s.veB d p c m)).map (fun e => fpBinary c.func c.imm e.1 e.2)
    (rs.map (fun r => fpUnary c.aux c.imm r.1), rs.any (fun r => r.2 || r.1.isInf))
  | 3 =>
    if c.func = 0 ∧ isIntFmt c.aFmt then
      let sum (xs : List Int) : Val :=
        let v := Val.ofInt (xs.foldl (fun a x => a + x) 0)
        if isIntFmt c.outFmt then v else v.f32
      ((if c.axis then (columns c.cols ((List.range c.rows).map (s.veIntA d p c))).map sum else [sum (s.veIntA d p c m)]), false)
    else
      let rs := if c.axis then (columns c.cols ((List.range c.rows).map (s.veA d p c))).map (reduceVals c.func false) else [reduceVals c.func true (s.veA d p c m)]
      (rs.map (fun r => r.1), rs.any (fun r => r.2))
  | 4 => softmaxRow c.imm (s.veA d p c m)
  | 5 => normRow c.func c.imm (s.veA d p c m) (s.veFp d p c 0) (s.veFp d p c 1)
  | _ =>
    let vs := (s.veA d p c m).map (fun a => a.mul32 c.imm)
    if c.colScale then
      let rs := (vs.zip (s.veFp d p c 0)).map (fun e => e.1.mul32 e.2)
      (rs, vs.any (fun v => v.isInf))
    else (vs, false)

/-- The writes of row m of D with its flags. -/
def State.veRow (s : State) (d : Nat) (p : Placed) (c : VeCmd) (m : Nat) : List (Nat × List Byte) × Fl :=
  let o := if c.integer then
      let es := (s.veIntRow d p c m).map (quantInt c.outFmt 0)
      (es.map (fun e => e.1), ([] : List Byte), Fl.all (es.map (fun e => e.2)))
    else
      let r := s.veFpRow d p c m
      let w := veRowOut c.outFmt c.sat c.zp r.1
      (w.1, w.2.1, { w.2.2 with inf := w.2.2.inf || r.2 })
  ((c.outOff + 64 * c.ldo * m, packRow c.outFmt o.1) :: (if isMx c.outFmt then [(c.oScale + scaleStride c.outCols * m, o.2.1)] else []), o.2.2)

/-- Elements per cycle that the lanes compute (R180). -/
def VeCmd.rate (c : VeCmd) : Nat :=
  let w := max (max (fmtBits c.aFmt) (fmtBits c.outFmt)) (if c.op = 2 then fmtBits c.bFmt else if 0 < c.fpRows then 32 else 0)
  if (c.op = 1 ∧ 0x10 ≤ c.func) ∨ (c.op = 2 ∧ c.func = 6) ∨ c.op = 4 then 16
  else if c.integer then (if w ≤ 8 then 256 else 64)
  else if w ≤ 16 then 128 else 64

/-- Cycles of one pass over a row before its last 8 (R181): lanes, bytes read and bytes written, in units of 1 ÷ 32 B, with the TE idle. -/
def passCycles (cols rate bIn bOut : Nat) : Nat := max (ceilDiv cols rate) (max (ceilDiv (cols * bIn) (256 * 32)) (ceilDiv (cols * bOut) (128 * 32)))

/-- Bytes per element in units of 1 ÷ 32 B (R181). -/
def bytes32 (fmt : Nat) : Nat := 4 * fmtBits fmt + (if isMx fmt then 1 else 0)

/-- The passes of a row command, each as its cycles for a row before the last 8 (R201): SOFTMAX and NORM read A twice and what B holds in the second pass. -/
def VeCmd.passes (c : VeCmd) : List Nat :=
  let a := bytes32 c.aFmt
  let b := if c.op = 2 then bytes32 c.bFmt else c.fpRows * bytes32 13
  let last := passCycles c.cols c.rate (a + b) (if c.op = 3 then 0 else bytes32 c.outFmt)
  if c.op = 4 then [passCycles c.cols 16 a 0, last] else if c.op = 5 then [passCycles c.cols 64 a 0, last] else [last]

/-- Cycles of a row command (R201), in all and those in which the lanes compute. -/
def VeCmd.cycles (c : VeCmd) : Nat × Nat :=
  if c.alongCols then
    let n := ceilDiv (c.rows * c.cols) (if max (fmtBits c.aFmt) (fmtBits c.outFmt) ≤ 16 then 128 else 64)
    (32 + (n + 8) + 16, n)
  else
    let n := c.passes.foldl (fun a x => a + x) 0
    (32 + c.rows * (n + 8 * c.passes.length) + 16, c.rows * n)

/-- A row command as a run. -/
def State.veJob (s : State) (d : Nat) (p : Placed) : Job :=
  let c := VeCmd.parse p.desc
  let code := s.veCheck d p c
  if code ≠ 0 then Job.fail code
  else
    let rows := (List.range c.outRows).map (s.veRow d p c)
    Job.done (Fl.all (rows.map (fun r => r.2))) ((c.aRows p.desc ++ c.bRows p.desc).flatMap (s.runsOf d p)) ((rows.map (fun r => r.1)).flatten)
      c.cycles.1 (c.cycles.2, 0)

/-- VE opcodes (R184). -/
def veOps (op : Nat) : Bool := (decide (1 ≤ op) && decide (op ≤ 6)) || (decide (0x10 ≤ op) && decide (op ≤ 0x12))

/-- UNARY: D = f(A) elementwise (R184, R186). -/
def execUnary (d core : Nat) (s : State) : Out := s.runRow d core .ve 1 (fun o => o == 1) veOps (s.veJob d)

/-- BINARY: D = post(g(A, B)) elementwise (R184, R186). -/
def execBinary (d core : Nat) (s : State) : Out := s.runRow d core .ve 1 (fun o => o == 2) veOps (s.veJob d)

/-- REDUCE: reduction along rows or columns (R191). -/
def execReduce (d core : Nat) (s : State) : Out := s.runRow d core .ve 1 (fun o => o == 3) veOps (s.veJob d)

/-- SOFTMAX along each row (R192). -/
def execSoftmax (d core : Nat) (s : State) : Out := s.runRow d core .ve 1 (fun o => o == 4) veOps (s.veJob d)

/-- NORM: layer or RMS normalisation along each row (R193). -/
def execNorm (d core : Nat) (s : State) : Out := s.runRow d core .ve 1 (fun o => o == 5) veOps (s.veJob d)

/-- CONVERT: quantise A times a scale (R195 to R197). -/
def execConvert (d core : Nat) (s : State) : Out := s.runRow d core .ve 1 (fun o => o == 6) veOps (s.veJob d)

end Sys2Proof.Machine
end

