-- ==== Sys2Proof/Machine/VecWindow.lean ====
section
/-!
DEFINITION. Machine/VecWindow.lean: the window path of the vector engine: DWCONV (R198), POOL (R199) and RESAMPLE (R200), with the dense maps of
R228, the checks of R188 and R233, and the cycles of R201 and R242.
-/
namespace Sys2Proof.Machine

/-- Fields of a window command (R187). -/
structure VwCmd where
  op : Nat
  inFmt : Nat
  wFmt : Nat
  outFmt : Nat
  sat : Bool
  bias : Bool
  requant : Bool
  relu : Bool
  reserved : Bool
  channels : Nat
  group : Nat
  kh : Nat
  kw : Nat
  mode : Nat
  zp : Nat
  winOff : Nat
  wOff : Nat
  outOff : Nat
  biasOff : Nat
  qOff : Nat
deriving DecidableEq, Repr

/-- Read the fields; POOL reads no GROUP (R233). -/
def VwCmd.parse (b : List Byte) : VwCmd :=
  let fl := leAt b 19 1
  { op := descOp b, inFmt := leAt b 16 1, wFmt := leAt b 17 1, outFmt := leAt b 18 1, sat := bit fl 0, bias := bit fl 1, requant := bit fl 2,
    relu := bit fl 3, reserved := decide (fl < 16) && decide (leAt b 26 6 = 0) && decide (leAt b 52 12 = 0), channels := leAt b 20 2,
    group := if descOp b = 0x11 then 1 else leAt b 22 1, kh := leAt b 23 1 / 16, kw := leAt b 23 1 % 16, mode := leAt b 24 1, zp := leAt b 25 1,
    winOff := leAt b 32 4, wOff := leAt b 36 4, outOff := leAt b 40 4, biasOff := leAt b 44 4, qOff := leAt b 48 4 }

/-- Input formats of the window path. -/
def winFmt (f : Nat) : Bool := decide (f = 0) || decide (f = 1) || decide (f = 11) || decide (f = 12)

/-- Bytes from one pixel of a dense map to the next (R228). -/
def denseStride (fmt ch : Nat) : Nat := ceilDiv (rowBytes fmt ch) 64 * 64

/-- Weights, bias and scales in B (R187, R228). -/
def VwCmd.bRows (c : VwCmd) (b : List Byte) : List Rows :=
  if c.op = 0x11 then []
  else
    [⟨descOp2 b, c.wOff, 0, 1, rowBytes c.wFmt (c.kh * c.kw * c.group * c.channels)⟩] ++
    (if c.bias then [⟨descOp2 b, c.biasOff, 0, 1, 4 * c.channels⟩] else []) ++ (if c.requant then [⟨descOp2 b, c.qOff, 0, 1, 4 * c.channels⟩] else [])

/-- Pixels of D. -/
def VwCmd.dRows (c : VwCmd) (b : List Byte) (pixels : Nat) : Rows :=
  ⟨descOut b, c.outOff, denseStride c.outFmt c.channels, pixels, rowBytes c.outFmt c.channels⟩

/-- The window descriptor of a command, when its bytes can be read. -/
def State.vwWin (s : State) (d : Nat) (p : Placed) (c : VwCmd) : Option Win :=
  match s.opBuf d p (descOp1 p.desc) with
  | some e => if c.winOff + 64 ≤ e.length then some (Win.parse (s.bytes (e.base + c.winOff) 64)) else none
  | none => none

/-- The rules of R233 for a VE command. -/
def Win.veRules (w : Win) (c : VwCmd) : Bool :=
  w.rules c.inFmt && decide (w.s2d = 0) && decide (w.outY0 = 0) && decide (w.kh = c.kh) && decide (w.kw = c.kw) && decide (w.cCnt = c.channels)

/-- The checks of R188 on DWCONV and POOL; 0 when all pass. -/
def State.vwCheck (s : State) (d : Nat) (p : Placed) (c : VwCmd) (ow : Option Win) : Nat :=
  let b := p.desc
  let pool := decide (c.op = 0x11)
  let useB := !pool
  let pixels := match ow with
    | some w => w.outH * w.outW
    | none => 1
  let ins := (match ow with
    | some w => w.regions c.inFmt (descOp1 b) c.winOff
    | none => [⟨descOp1 b, c.winOff, 0, 1, 64⟩]) ++ c.bRows b
  firstFailing
    [(1, !pool || decide (c.mode ≤ 2)),
     (2, winFmt c.inFmt && (pool || (if c.inFmt ≤ 1 then decide (c.wFmt = 0) else is16 c.wFmt)) && (winFmt c.outFmt || decide (c.outFmt = 13) || decide (c.outFmt = 14)) && c.reserved),
     (3, decide (1 ≤ c.channels) && decide (1 ≤ c.group) && decide (c.group ≤ 16) && decide (c.channels % c.group = 0) && decide (1 ≤ c.kh) &&
        decide (c.kh ≤ 7) && decide (1 ≤ c.kw) && decide (c.kw ≤ 7)),
     (4, [c.winOff, c.wOff, c.outOff, c.biasOff, c.qOff].all (fun o => decide (o % 64 = 0))),
     (5, s.handlesOk d p ([descOp1 b, descOut b] ++ (if useB then [descOp2 b] else []))),
     (6, s.boundsOk d p (ins ++ [c.dRows b pixels])),
     (7, !descInPlace b && ins.all (fun r => !r.meets (c.dRows b pixels))),
     (9, match ow with
        | some w => w.veRules c
        | none => false)]

/-- Raw elements that a tap of an output pixel reads, and whether it lies inside the map. -/
def State.vwTap (s : State) (base : Nat) (w : Win) (c : VwCmd) (y x : Nat) (t : Nat × Nat × Nat × Nat) : List Nat × Bool :=
  ((s.tapRow base w c.inFmt y x t.2.2.1 t.2.2.2).1, !padded w.inH (w.coordY y t.2.2.1) && !padded w.inW (w.coordX x t.2.2.2))

/-- Weight of output channel `o` at a tap and position in the group (R228). -/
def VwCmd.weight (c : VwCmd) (ws : List Nat) (r t g o : Nat) : Nat := ws.getD (((r * c.kw + t) * c.group + g) * c.channels + o) 0

/-- Products of one channel over taps: (input element, weight) in the order r, s, input channel (R198). -/
def VwCmd.products (c : VwCmd) (ws : List Nat) (ts : List ((Nat × Nat × Nat × Nat) × List Nat)) (o : Nat) : List (Nat × Nat) :=
  ts.flatMap (fun t => (List.range c.group).map (fun g => (t.2.getD (o / c.group * c.group + g) 0, c.weight ws t.1.2.2.1 t.1.2.2.2 g o)))

/-- One output channel of DWCONV (R198): exact on the integer path, FP32 additions of exact products otherwise, from the start (bias and fold), with whether an
infinity was produced. -/
def VwCmd.accumulate (c : VwCmd) (start : Val) (ps : List (Nat × Nat)) : Val × Bool :=
  ps.foldl (fun a e =>
    let x := (elemVal c.inFmt e.1).mul (elemVal c.wFmt e.2)
    let r := if c.inFmt ≤ 1 then a.1.add x else a.1.add32 x
    (r, a.2 || x.isInf || r.isInf)) (start, false)

/-- The zero point of REQUANT (R187, R195). -/
def VwCmd.zpInt (c : VwCmd) : Int := if c.outFmt = 1 then (c.zp : Int) else if c.outFmt = 0 then toSigned 8 c.zp else 0

/-- What an accumulator becomes in D (R198): REQUANT scales it in FP32, RELU comes before the output stage, and an infinity that RELU takes away sets INF (R190). -/
def VwCmd.finish (c : VwCmd) (acc scale : Val) : Nat × Fl :=
  let relu (v : Val) : Val := if c.relu then fpUnary 3 Val.zero v else v
  if c.requant then
    let v := acc.f32.mul32 scale
    let r := veElem c.outFmt c.sat c.zpInt (relu v)
    (r.1, { r.2 with inf := r.2.inf || v.isInf })
  else if c.inFmt ≤ 1 ∧ isIntFmt c.outFmt then
    match relu acc with
    | .fin n m e => intOut c.outFmt (roundInt n m e)
    | _ => (0, Fl.none)
  else veElem c.outFmt c.sat 0 (relu acc.f32)

/-- The streamer's term of R242 for DWCONV and POOL: bytes newly fetched for a pixel and a block of channels, beyond what its cycles hide. The first
window of each row is fetched during the row before it. -/
def Win.windowTerm (w : Win) (c : VwCmd) (cyc : Nat) : Nat :=
  let blocks := List.range (ceilDiv c.channels 64)
  (List.range w.outH).foldl (fun a y =>
    let rows := ((List.range w.kh).filter (fun r => !padded w.inH (w.coordY y r))).length
    (rangeFrom 1 (w.outW - 1)).foldl (fun a x =>
      let j := w.coordX x (w.kw - 1)
      let cols := ((List.range w.sw).filter (fun (k : Nat) => !padded w.inW (j - (k : Int)))).length
      blocks.foldl (fun a b =>
        let lo := 64 * b / c.group * c.group
        let hi := min c.channels (ceilDiv (min (64 * b + 64) c.channels) c.group * c.group)
        a + (ceilDiv (rows * cols * rowBytes c.inFmt (hi - lo)) 128 - cyc)) a) a) 0

/-- Cycles of DWCONV and POOL (R201, R242), in all and those in which the window path computes. -/
def Win.vwCycles (w : Win) (c : VwCmd) (foldBytes : Option Nat) : Nat × Nat :=
  let taps := c.kh * c.kw * c.group
  let cyc := if c.inFmt ≤ 1 then ceilDiv taps 4 else taps
  let n := w.outH * w.outW * ceilDiv c.channels 64 * cyc
  (32 + n + 16 + w.windowTerm c cyc +
    (match foldBytes with
      | some n => ceilDiv n 128 + 64
      | none => 0), n)

/-- A window command that fails a check: BAD_WINDOW comes after the descriptor was read, so that an error in it comes first (R188). -/
def windowFail (code : Nat) (at' : Nat) : Job := { Job.fail code with reads := if code = 9 then [(at', 64)] else [] }

/-- The pixels of a map in raster order. -/
def raster (h w : Nat) : List (Nat × Nat) := (List.range h).flatMap (fun y => (List.range w).map (fun x => (y, x)))

/-- Physical bytes that a window command reads from its map. -/
def Win.mapReads (w : Win) (base fmt : Nat) (ts : List (Nat × Nat × Nat × Nat)) : List (Nat × Nat) :=
  (raster w.outH w.outW).flatMap (fun yx => ts.flatMap (fun t => w.tapReads base fmt yx.1 yx.2 t.2.2.1 t.2.2.2))

/-- A dense pixel of D from its elements. -/
def densePixel (off fmt n : Nat) (es : List (Nat × Fl)) : (Nat × List Byte) × Fl :=
  ((off + denseStride fmt es.length * n, packRow fmt (es.map (fun e => e.1))), Fl.all (es.map (fun e => e.2)))

/-- DWCONV as a run (R198, R234, R235). -/
def State.dwconvJob (s : State) (d : Nat) (p : Placed) : Job :=
  let c := VwCmd.parse p.desc
  let ow := s.vwWin d p c
  let code := s.vwCheck d p c ow
  match ow, s.opBuf d p (descOp1 p.desc) with
  | some w, some e =>
    if code ≠ 0 then windowFail code (e.base + c.winOff)
    else
      let skip := w.skips none
      let fold := skip && decide (w.pad = 1)
      let ts := w.running skip
      let n := c.kh * c.kw * c.group * c.channels
      let ws := unpackRow c.wFmt n (s.bufBytes d p (descOp2 p.desc) c.wOff (rowBytes c.wFmt n))
      let bias := if c.bias then s.rowVals d p (if c.inFmt ≤ 1 then 14 else 13) c.channels (descOp2 p.desc) c.biasOff 0 else List.replicate c.channels Val.zero
      let scales := if c.requant then s.rowVals d p 13 c.channels (descOp2 p.desc) c.qOff 0 else List.replicate c.channels Val.one
      let dead := w.dead.map (fun t => (t, List.replicate c.channels w.padConst))
      let starts := (List.range c.channels).map (fun o =>
        let b := bias.getD o Val.zero
        if fold then
          (let f := c.accumulate Val.zero (c.products ws dead o)
           ((if c.inFmt ≤ 1 then b.add f.1 else b.add32 f.1), f.2))
        else (b, false))
      let px := (raster w.outH w.outW).mapIdx (fun i yx =>
        let taps := ts.map (fun t => (t, (s.vwTap e.base w c yx.1 yx.2 t).1))
        densePixel c.outOff c.outFmt i ((List.range c.channels).map (fun o =>
          let st := starts.getD o (Val.zero, false)
          let acc := c.accumulate st.1 (c.products ws taps o)
          let r := c.finish acc.1 (scales.getD o Val.one)
          (r.1, { r.2 with inf := r.2.inf || st.2 || st.1.isInf || acc.2 }))))
      let cyc := w.vwCycles c (if fold then some (rowBytes c.wFmt (w.dead.length * c.group * c.channels)) else none)
      { Job.done (Fl.all (px.map (fun x => x.2))) ((e.base + c.winOff, 64) :: (w.mapReads e.base c.inFmt ts ++ (c.bRows p.desc).flatMap (s.runsOf d p)))
          (px.map (fun x => x.1)) cyc.1 (cyc.2, 0) with
        win := some (w.plan skip fold) }
  | _, _ => Job.fail (if code = 0 then 5 else code)

/-- One channel of a pooled pixel (R199): `taps` are its elements in tap order with whether each lies inside the map, `start` the fold;
with whether an infinity was produced. -/
def poolElem (mode : Nat) (divisor : Nat) (start : Val) (taps : List (Val × Bool)) : Val × Bool :=
  let inside := (taps.filter (fun t => t.2)).map (fun t => t.1)
  match inside with
  | [] => (.zero, false)
  | v :: vs =>
    if mode = 0 then (vs.foldl Val.max v, false)
    else
      let xs := if mode = 1 then taps.map (fun t => t.1) else inside
      let d := if mode = 1 then divisor else inside.length
      let sum := xs.foldl (fun a x => let r := a.1.add32 x; (r, a.2 || r.isInf)) (start, start.isInf)
      (sum.1.mul32 (exactFn 0x14 false d 0), sum.2)

/-- POOL as a run (R199). -/
def State.poolJob (s : State) (d : Nat) (p : Placed) : Job :=
  let c := VwCmd.parse p.desc
  let ow := s.vwWin d p c
  let code := s.vwCheck d p c ow
  match ow, s.opBuf d p (descOp1 p.desc) with
  | some w, some e =>
    if code ≠ 0 then windowFail code (e.base + c.winOff)
    else
      let skip := w.skips none
      let fold := skip && decide (w.pad = 1) && decide (c.mode = 1)
      let ts := w.running skip
      let start := if fold then (Val.ofInt w.dead.length).mul32 (elemVal c.inFmt w.padConst).f32 else Val.zero
      let px := (raster w.outH w.outW).mapIdx (fun i yx =>
        let taps := ts.map (fun t => s.vwTap e.base w c yx.1 yx.2 t)
        densePixel c.outOff c.outFmt i ((List.range c.channels).map (fun o =>
          let v := poolElem c.mode (c.kh * c.kw) start (taps.map (fun t => (elemVal c.inFmt (t.1.getD o 0), t.2)))
          let r := veElem c.outFmt c.sat 0 v.1
          (r.1, { r.2 with inf := r.2.inf || v.2 }))))
      let cyc := w.vwCycles c (if fold then some 0 else none)
      { Job.done (Fl.all (px.map (fun x => x.2))) ((e.base + c.winOff, 64) :: w.mapReads e.base c.inFmt ts) (px.map (fun x => x.1)) cyc.1 (cyc.2, 0) with
        win := some (w.plan skip fold) }
  | _, _ => Job.fail (if code = 0 then 5 else code)

/-- Fields of RESAMPLE (R187). -/
structure RsCmd where
  fmt : Nat
  outFmt : Nat
  inH : Nat
  inW : Nat
  outH : Nat
  outW : Nat
  mode : Nat
  channels : Nat
  inOff : Nat
  outOff : Nat
  reserved : Bool
deriving DecidableEq, Repr

/-- Read the fields. -/
def RsCmd.parse (b : List Byte) : RsCmd :=
  { fmt := leAt b 16 1, outFmt := leAt b 18 1, inH := leAt b 20 2, inW := leAt b 22 2, outH := leAt b 24 2, outW := leAt b 26 2, mode := leAt b 28 1,
    channels := leAt b 30 2, inOff := leAt b 32 4, outOff := leAt b 40 4,
    reserved := decide (leAt b 17 1 = 0) && decide (leAt b 19 1 = 0) && decide (leAt b 29 1 = 0) && decide (leAt b 36 4 = 0) && decide (leAt b 44 20 = 0) }

/-- The factor of modes 3 and 4, when the shape has one (R200). -/
def RsCmd.factor (c : RsCmd) : Option Nat :=
  let big := if c.mode = 3 then (c.inH, c.inW) else (c.outH, c.outW)
  let small := if c.mode = 3 then (c.outH, c.outW) else (c.inH, c.inW)
  let f := big.1 / max 1 small.1
  if (f = 2 ∨ f = 4) ∧ big.1 = f * small.1 ∧ big.2 = f * small.2 ∧ (c.mode = 3 ∨ c.channels % (f * f) = 0) then some f else none

/-- Channels of an output pixel. -/
def RsCmd.outCh (c : RsCmd) : Nat :=
  match c.mode, c.factor with
  | 3, some f => f * f * c.channels
  | 4, some f => c.channels / (f * f)
  | _, _ => c.channels

/-- The input and output maps as regions (R228). -/
def RsCmd.inRows (c : RsCmd) (b : List Byte) : Rows := ⟨descOp1 b, c.inOff, denseStride c.fmt c.channels, c.inH * c.inW, rowBytes c.fmt c.channels⟩
def RsCmd.dRows (c : RsCmd) (b : List Byte) : Rows := ⟨descOut b, c.outOff, denseStride c.fmt c.outCh, c.outH * c.outW, rowBytes c.fmt c.outCh⟩

/-- The checks of R188 on RESAMPLE; 0 when all pass. -/
def State.rsCheck (s : State) (d : Nat) (p : Placed) (c : RsCmd) : Nat :=
  let b := p.desc
  firstFailing
    [(1, decide (c.mode ≤ 4)),
     (2, winFmt c.fmt && decide (c.outFmt = c.fmt) && c.reserved),
     (3, decide (1 ≤ c.inH) && decide (1 ≤ c.inW) && decide (1 ≤ c.outH) && decide (1 ≤ c.outW) && decide (1 ≤ c.channels) &&
        (decide (c.mode < 3) || c.factor.isSome)),
     (4, decide (c.inOff % 64 = 0) && decide (c.outOff % 64 = 0)),
     (5, s.handlesOk d p [descOp1 b, descOut b]),
     (6, s.boundsOk d p [c.inRows b, c.dRows b]),
     (7, !descInPlace b && !(c.inRows b).meets (c.dRows b))]

/-- The floor of a number. -/
def Val.floor : Val → Int
  | .fin n m e => if 0 ≤ e then signedAt n m e 0 else (if n then -(m : Int) else m) / 2 ^ (-e).toNat
  | _ => 0

/-- The source coordinate of an output coordinate on an axis, in FP32 (R200): for mode 0 the index, for modes 1 and 2 the sample with its fraction. -/
def rsSource (mode y inL outL : Nat) : Nat × Val :=
  let top := Val.ofInt ((inL : Int) - 1)
  let at05 := ((Val.ofInt (2 * (y : Int) + 1) (-1)).mul32 (Val.ofInt inL)).div32 (Val.ofInt outL)
  match mode with
  | 0 => (min (inL - 1) at05.floor.toNat, Val.zero)
  | 1 =>
    let v := ((at05.sub32 (Val.ofInt 1 (-1))).max Val.zero).min top
    (v.floor.toNat, v.sub32 (Val.ofInt v.floor))
  | _ =>
    let v := if outL = 1 then Val.zero else ((Val.ofInt y).mul32 top).div32 (Val.ofInt ((outL : Int) - 1))
    let v := (v.max Val.zero).min top
    (v.floor.toNat, v.sub32 (Val.ofInt v.floor))

/-- A bilinear sample: four neighbours weighed in the order top-left, top-right, bottom-left, bottom-right (R200), with whether an
infinity was produced. -/
def bilinear (fy fx tl tr bl br : Val) : Val × Bool :=
  let gy := Val.one.sub32 fy
  let gx := Val.one.sub32 fx
  let a := tl.mul32 (gy.mul32 gx)
  let b := tr.fma32 (gy.mul32 fx) a
  let c := bl.fma32 (fy.mul32 gx) b
  let r := br.fma32 (fy.mul32 fx) c
  (r, [a, b, c, r].any Val.isInf)

/-- Source pixels of an output pixel (R200), for the streamer's count. -/
def RsCmd.sources (c : RsCmd) (y x : Nat) : List (Nat × Nat) :=
  match c.mode, c.factor with
  | 3, some f => (List.range f).flatMap (fun dy => (List.range f).map (fun dx => (f * y + dy, f * x + dx)))
  | 4, some f => [(y / f, x / f)]
  | m, _ =>
    let i := (rsSource m y c.inH c.outH).1
    let j := (rsSource m x c.inW c.outW).1
    if m = 0 then [(i, j)]
    else (raster 2 2).map (fun o => (min (c.inH - 1) (i + o.1), min (c.inW - 1) (j + o.2)))

/-- Cycles of RESAMPLE (R201, R242), in all and those in which the window path computes. -/
def RsCmd.cycles (c : RsCmd) : Nat × Nat :=
  let cyc := if (c.mode = 1 ∨ c.mode = 2) ∧ is16 c.fmt then 4 else 1
  let term := (List.range c.outH).foldl (fun a y => (rangeFrom 1 (c.outW - 1)).foldl (fun a x =>
    let old := c.sources y (x - 1)
    let fresh := ((c.sources y x).eraseDups.filter (fun q => !decide (q ∈ old))).length
    (List.range (ceilDiv c.channels 64)).foldl (fun a b => a + (ceilDiv (fresh * rowBytes c.fmt (min 64 (c.channels - 64 * b))) 128 - cyc)) a) a) 0
  let n := c.outH * c.outW * ceilDiv c.channels 64 * cyc
  (32 + n + 16 + term, n)

/-- An element moved unchanged, with the flags that what it is sets (R172). -/
def moved (fmt r : Nat) : Nat × Fl := (r, { Fl.none with nan := (elemVal fmt r).isNan, inf := (elemVal fmt r).isInf })

/-- RESAMPLE as a run (R200). -/
def State.resampleJob (s : State) (d : Nat) (p : Placed) : Job :=
  let c := RsCmd.parse p.desc
  let code := s.rsCheck d p c
  if code ≠ 0 then Job.fail code
  else
    let px (i j : Nat) : List Nat :=
      unpackRow c.fmt c.channels (s.bufBytes d p (descOp1 p.desc) (c.inOff + denseStride c.fmt c.channels * (i * c.inW + j)) (rowBytes c.fmt c.channels))
    let out (y x : Nat) : List (Nat × Fl) :=
      match c.mode, c.factor with
      | 3, some _ => ((c.sources y x).flatMap (fun q => px q.1 q.2)).map (moved c.fmt)
      | 4, some f => (slice (px (y / f) (x / f)) ((y % f * f + x % f) * c.outCh) c.outCh).map (moved c.fmt)
      | m, _ =>
        let sy := rsSource m y c.inH c.outH
        let sx := rsSource m x c.inW c.outW
        if m = 0 then (px sy.1 sx.1).map (fun r => veElem c.fmt false 0 (elemVal c.fmt r))
        else
          let y1 := min (c.inH - 1) (sy.1 + 1)
          let x1 := min (c.inW - 1) (sx.1 + 1)
          let v (i j : Nat) : List Val := (px i j).map (elemVal c.fmt)
          ((v sy.1 sx.1).zip ((v sy.1 x1).zip ((v y1 sx.1).zip (v y1 x1)))).map (fun e =>
            let v := bilinear sy.2 sx.2 e.1 e.2.1 e.2.2.1 e.2.2.2
            let r := veElem c.fmt false 0 v.1
            (r.1, { r.2 with inf := r.2.inf || v.2 }))
    let rows := (raster c.outH c.outW).mapIdx (fun i yx => densePixel c.outOff c.fmt i (out yx.1 yx.2))
    Job.done (Fl.all (rows.map (fun r => r.2)))
      ((raster c.outH c.outW).flatMap (fun yx => (c.sources yx.1 yx.2).flatMap (fun q =>
        s.runsOf d p ⟨descOp1 p.desc, c.inOff + denseStride c.fmt c.channels * (q.1 * c.inW + q.2), 0, 1, rowBytes c.fmt c.channels⟩)))
      (rows.map (fun r => r.1)) c.cycles.1 (c.cycles.2, 0)

/-- DWCONV: depthwise or grouped convolution on the window path (R198). -/
def execDwconv (d core : Nat) (s : State) : Out := s.runRow d core .ve 1 (fun o => o == 0x10) veOps (s.dwconvJob d)

/-- POOL: max or average pooling on the window path (R199). -/
def execPool (d core : Nat) (s : State) : Out := s.runRow d core .ve 1 (fun o => o == 0x11) veOps (s.poolJob d)

/-- RESAMPLE: resize, space-to-depth and depth-to-space (R200). -/
def execResample (d core : Nat) (s : State) : Out := s.runRow d core .ve 1 (fun o => o == 0x12) veOps (s.resampleJob d)

end Sys2Proof.Machine
end

