-- ==== Sys2Proof/Machine/Traverse.lean ====
section
/-!
DEFINITION. Machine/Traverse.lean: the traversal engine (R204 to R224): GATHER, NEIGHBOURS, SET_OP, HASH_BUILD, HASH_PROBE, RADIX_SORT, SEG_REDUCE,
SCATTER and FRONTIER.
-/
namespace Sys2Proof.Machine

/-- Fields of an XE command (R210). -/
structure XeCmd where
  op : Nat
  keyFmt : Nat
  inFmt : Nat
  outFmt : Nat
  fn : Nat
  countOnly : Bool
  init : Bool
  edgeId : Bool
  reserved : Bool
  count : Nat
  count2 : Nat
  rowLen : Nat
  ldo : Nat
  aOff : Nat
  bOff : Nat
  outOff : Nat
  auxOff : Nat
  auxH : Nat
  aux2H : Nat
  aux2Off : Nat
  lda : Nat
deriving DecidableEq, Repr

/-- Read the fields. -/
def XeCmd.parse (b : List Byte) : XeCmd :=
  let fl := leAt b 19 1
  { op := descOp b, keyFmt := leAt b 16 1, inFmt := leAt b 17 1 % 16, outFmt := leAt b 17 1 / 16, fn := leAt b 18 1, countOnly := bit fl 0, init := bit fl 1,
    edgeId := bit fl 2, reserved := decide (fl < 8) && decide (leAt b 23 1 = 0) && decide (leAt b 62 2 = 0), count := leAt b 20 3, count2 := leAt b 24 4,
    rowLen := leAt b 28 2, ldo := leAt b 30 2, aOff := leAt b 32 4, bOff := leAt b 36 4, outOff := leAt b 40 4, auxOff := leAt b 44 4, auxH := leAt b 48 4,
    aux2H := leAt b 52 4, aux2Off := leAt b 56 4, lda := leAt b 60 2 }

/-- Which operands an opcode uses (R209): B, AUX, AUX2; opcodes on rows. -/
def XeCmd.usesB (c : XeCmd) : Bool := !(decide (c.op = 4) || decide (c.op = 6))
def XeCmd.usesAux (c : XeCmd) : Bool := decide (c.op = 2) || decide (c.op = 3) || decide (c.op = 6) || decide (c.op = 9)
def XeCmd.usesAux2 (c : XeCmd) : Bool := decide (c.op = 9)
def XeCmd.onRows (c : XeCmd) : Bool := decide (c.op = 1) || decide (c.op = 7) || decide (c.op = 8)
def XeCmd.values (c : XeCmd) : Bool := decide (c.op = 7) || decide (c.op = 8)

/-- Bytes of a key element, and of an element of a list of vertices (R204, R215). -/
def XeCmd.keyBytes (c : XeCmd) : Nat := if c.keyFmt = 1 then 8 else 4
def XeCmd.idBytes (c : XeCmd) : Nat := if c.edgeId then 8 else 4

/-- Elements of a row of values, and the bytes of a row of D. -/
def XeCmd.elems (c : XeCmd) : Nat := c.rowLen * 8 / fmtBits c.inFmt
def XeCmd.outRowBytes (c : XeCmd) : Nat := if c.values then rowBytes c.outFmt c.elems else c.rowLen

/-- The next multiple of 64 (R206). -/
def up64 (n : Nat) : Nat := ceilDiv n 64 * 64

/-- Bytes of D from OUT_OFF on: the header, then each region at a multiple of 64; with the capacity where a result is bounded by CAP. -/
def XeCmd.outBytes (c : XeCmd) (v : Nat) : Nat :=
  64 + (match c.op with
    | 2 => up64 (4 * (c.count + 1)) + c.idBytes * c.count2
    | 3 => if c.countOnly then 4 * (c.count + 1) else up64 (4 * (c.count + 1)) + c.keyBytes * c.count2
    | 4 => 64 * 2 ^ c.count2
    | 5 => 4 * c.count
    | 6 => c.keyBytes * c.count
    | 9 => ceilDiv v 512 * 64 + c.idBytes * c.count2
    | _ => 0)

/-- What a command writes in D: the header and its regions, or rows after the header. -/
def XeCmd.dRows (c : XeCmd) (b : List Byte) (v : Nat) : List Rows :=
  ⟨descOut b, c.outOff, 0, 1, c.outBytes v⟩ ::
  (if c.onRows then [⟨descOut b, c.outOff + 64, 64 * c.ldo, if c.op = 1 then c.count else c.count2, c.outRowBytes⟩] else [])

/-- The graph header: V and E (R205). -/
def State.graph (s : State) (d : Nat) (p : Placed) (c : XeCmd) : Nat × Nat :=
  let h := s.bufBytes d p (descOp1 p.desc) c.aOff 8
  (leAt h 0 4, leAt h 4 4)

/-- Inputs of a command as regions (R209); the sets of SET_OP are judged as they are read. -/
def XeCmd.inRows (c : XeCmd) (b : List Byte) (g : Nat × Nat) : List Rows :=
  let flat (h off n : Nat) : List Rows := [⟨h, off, 0, 1, n⟩]
  match c.op with
  | 1 => ⟨descOp1 b, c.aOff, 64 * c.lda, c.count2, c.rowLen⟩ :: flat (descOp2 b) c.bOff (4 * c.count)
  | 2 => flat (descOp1 b) c.aOff (64 + 4 * (g.1 + 1)) ++ flat (descOp2 b) c.bOff (4 * c.count) ++ flat c.auxH c.auxOff (4 * g.2)
  | 3 => flat (descOp2 b) c.bOff (16 * c.count)
  | 4 => flat (descOp1 b) c.aOff (c.keyBytes * c.count)
  | 5 => flat (descOp1 b) c.aOff (c.keyBytes * c.count) ++ flat (descOp2 b) c.bOff (64 * 2 ^ c.count2)
  | 6 => flat (descOp1 b) c.aOff (c.keyBytes * c.count) ++ flat c.auxH c.auxOff (c.keyBytes * c.count)
  | 7 => ⟨descOp1 b, c.aOff, 64 * c.lda, c.count, c.rowLen⟩ :: flat (descOp2 b) c.bOff (4 * (c.count2 + 1))
  | 8 => ⟨descOp1 b, c.aOff, 64 * c.lda, c.count, c.rowLen⟩ :: flat (descOp2 b) c.bOff (4 * c.count)
  | _ => flat (descOp1 b) c.aOff (64 + 4 * (g.1 + 1)) ++ flat (descOp2 b) c.bOff (4 * c.count) ++ flat c.auxH c.auxOff (4 * g.2) ++
    flat c.aux2H c.aux2Off (ceilDiv g.1 8)

/-- The pairs of a SET_OP: start and length of a first and of a second set (R217). -/
def State.setPairs (s : State) (d : Nat) (p : Placed) (c : XeCmd) : List (Nat × Nat × Nat × Nat) :=
  (chunks c.count 16 (s.bufBytes d p (descOp2 p.desc) c.bOff (16 * c.count))).map (fun x => (leAt x 0 4, leAt x 4 4, leAt x 8 4, leAt x 12 4))

/-- The sets of a SET_OP as regions of A and AUX. -/
def State.setRows (s : State) (d : Nat) (p : Placed) (c : XeCmd) : List Rows :=
  if c.op ≠ 3 then []
  else (s.setPairs d p c).flatMap (fun x =>
    [⟨descOp1 p.desc, c.aOff + c.keyBytes * x.1, 0, 1, c.keyBytes * x.2.1⟩, ⟨c.auxH, c.auxOff + c.keyBytes * x.2.2.1, 0, 1, c.keyBytes * x.2.2.2⟩])

/-- Regions that hold a byte. -/
def solid (rs : List Rows) : List Rows := rs.filter (fun r => decide (0 < r.len) && decide (0 < r.rows))

/-- The handles an opcode uses; an unused handle field holds 0 (R210). -/
def XeCmd.handles (c : XeCmd) (b : List Byte) : List Nat :=
  [descOp1 b, descOut b] ++ (if c.usesB then [descOp2 b] else []) ++ (if c.usesAux then [c.auxH] else []) ++ (if c.usesAux2 then [c.aux2H] else [])

/-- The checks of R211 before the run; 0 when all pass. -/
def State.xeCheck (s : State) (d core : Nat) (p : Placed) (c : XeCmd) : Nat :=
  let b := p.desc
  let g := if c.op = 2 ∨ c.op = 9 then s.graph d p c else (0, 0)
  let ins := solid (c.inRows b g ++ s.setRows d p c)
  let outs := solid (c.dRows b g.1)
  let fnMax := match c.op with
    | 3 => 2 | 4 => 2 | 7 => 3 | 8 => 2 | _ => 0
  let value (f : Nat) : Bool := decide (11 ≤ f) && decide (f ≤ 14)
  let graphHeader := !(decide (c.op = 2) || decide (c.op = 9)) || s.boundsOk d p [⟨descOp1 b, c.aOff, 0, 1, 64⟩]
  firstFailing
    [(1, decide (c.fn ≤ fnMax)),
     (2, decide (c.keyFmt ≤ 1) && value c.inFmt && value c.outFmt && c.reserved),
     (3, decide (1 ≤ c.count) && (!(decide (c.op = 4) || decide (c.op = 5)) || (decide (4 ≤ c.count2) && decide (c.count2 ≤ 20))) &&
        (!decide (c.op = 6) || (decide (1 ≤ c.count2) && decide (c.count2 ≤ 32))) &&
        (if c.onRows then decide (4 ≤ c.rowLen) && decide (c.rowLen ≤ 4096) && decide (c.rowLen % 4 = 0) && decide (c.rowLen ≤ 64 * c.lda) &&
            decide (c.rowLen ≤ 64 * c.ldo)
          else decide (c.rowLen = 0)) &&
        (!descInPlace b || decide (c.count * c.rowLen ≤ 4 * 24576))),
     (4, [c.aOff, c.bOff, c.outOff, c.auxOff, c.aux2Off].all (fun o => decide (o % 64 = 0))),
     (5, s.handlesOk d p (c.handles b) && (c.usesAux || decide (c.auxH = 0)) && (c.usesAux2 || decide (c.aux2H = 0))),
     (6, graphHeader && s.boundsOk d p (ins ++ outs)),
     (7, (if descInPlace b then decide (c.op = 8) && !c.init && s.isLocal d core p (descOut b) else !decide (c.op = 8) || c.init) &&
        ins.all (fun r => outs.all (fun x => !r.meets x)))]

/-- 32-bit words of an operand. -/
def State.words (s : State) (d : Nat) (p : Placed) (h off n : Nat) : List Nat :=
  (chunks n 4 (s.bufBytes d p h off (4 * n))).map leNat

/-- Key elements of an operand: key and payload (R204). -/
def State.keyElems (s : State) (d : Nat) (p : Placed) (c : XeCmd) (h off n : Nat) : List (Nat × Nat) :=
  (chunks n c.keyBytes (s.bufBytes d p h off (c.keyBytes * n))).map (fun x => (leAt x 0 4, leAt x 4 4))

/-- The null key (R204). -/
def nullKey : Nat := 0xFFFFFFFF

/-- Bytes of an element: key alone, or key and payload. -/
def elemBytes (wide : Bool) (e : Nat × Nat) : List Byte := leBytes 4 e.1 ++ (if wide then leBytes 4 e.2 else [])

/-- The result header of R206. -/
def xeHeader (written required probes : Nat) : List Byte := leBytes 4 written ++ leBytes 4 required ++ leBytes 4 probes ++ leBytes 52 0

/-- What an XE operation comes to: an error code of the run, or its header counts, flags, writes, cycles W, reads and what it leaves in the scratch. -/
structure XeRun where
  code : Nat
  written : Nat
  required : Nat
  probes : Nat
  flags : Fl
  writes : List (Nat × List Byte)
  work : Nat
  scratch : List Byte
deriving DecidableEq, Repr

/-- A run that ends with an error. -/
def XeRun.fail (code : Nat) : XeRun := ⟨code, 0, 0, 0, Fl.none, [], 0, []⟩

/-- GATHER (R214). -/
def State.gatherRun (s : State) (d : Nat) (p : Placed) (c : XeCmd) : XeRun :=
  let idx := s.words d p (descOp2 p.desc) c.bOff c.count
  if idx.any (fun i => decide (i ≠ nullKey) && decide (c.count2 ≤ i)) then XeRun.fail 10
  else
    let rows := idx.mapIdx (fun i k => (c.outOff + 64 + 64 * c.ldo * i,
      if k = nullKey then List.replicate c.rowLen 0#8 else s.bufBytes d p (descOp1 p.desc) (c.aOff + 64 * c.lda * k) c.rowLen))
    let w := if c.rowLen < 64 then ceilDiv (c.count * ceilDiv c.rowLen 8) 16 else ceilDiv (c.count * ceilDiv c.rowLen 64) 4
    ⟨0, c.count, c.count, 0, Fl.none, rows, w, []⟩

/-- The adjacency of a vertex: (edge index, neighbour); none when an offset that is read or a neighbour is not valid (R205). -/
def State.adjacent (s : State) (d : Nat) (p : Placed) (c : XeCmd) (g : Nat × Nat) (v : Nat) : Option (List (Nat × Nat)) :=
  if g.1 ≤ v then none
  else
    let o := s.words d p (descOp1 p.desc) (c.aOff + 64 + 4 * v) 2
    let a := o.headD 0
    let b := (o.drop 1).headD 0
    if b < a ∨ g.2 < b then none
    else
      let ns := s.words d p c.auxH (c.auxOff + 4 * a) (b - a)
      if ns.any (fun n => decide (g.1 ≤ n)) then none else some (ns.mapIdx (fun i n => (a + i, n)))

/-- Adjacency of each vertex of a list in order; none when any is not valid. -/
def State.adjacents (s : State) (d : Nat) (p : Placed) (c : XeCmd) (g : Nat × Nat) (vs : List Nat) : Option (List (List (Nat × Nat))) :=
  vs.foldr (fun v acc => match s.adjacent d p c g v, acc with
    | some x, some xs => some (x :: xs)
    | _, _ => none) (some [])

/-- Exclusive prefix sums with the total last (R215). -/
def prefixSums (ns : List Nat) : List Nat := (ns.foldl (fun (a : List Nat × Nat) n => (a.1 ++ [a.2 + n], a.2 + n)) ([0], 0)).1

/-- Bytes of 32-bit words. -/
def wordBytes (ws : List Nat) : List Byte := (ws.map (leBytes 4)).flatten

/-- W of NEIGHBOURS (R224). -/
def neighbourWork (count : Nat) (degrees : List Nat) : Nat := ceilDiv (2 * count) 16 + degrees.foldl (fun a n => a + ceilDiv n 16 + 2) 0

/-- NEIGHBOURS (R215). -/
def State.neighboursRun (s : State) (d : Nat) (p : Placed) (c : XeCmd) : XeRun :=
  let g := s.graph d p c
  match s.adjacents d p c g (s.words d p (descOp2 p.desc) c.bOff c.count) with
  | none => XeRun.fail 10
  | some ls =>
    let all := ls.flatten.map (fun e => (e.2, e.1))
    let kept := all.take c.count2
    ⟨0, kept.length, all.length, 0, { Fl.none with satFp := decide (c.count2 < all.length) },
     [(c.outOff + 64, wordBytes (prefixSums (ls.map List.length))), (c.outOff + 64 + up64 (4 * (c.count + 1)), (kept.map (elemBytes c.edgeId)).flatten)],
     neighbourWork c.count (ls.map List.length), []⟩

/-- A set is strictly ascending by key (R204). -/
def ascending : List (Nat × Nat) → Bool
  | a :: b :: xs => decide (a.1 < b.1) && ascending (b :: xs)
  | _ => true

/-- Insert an element of a second set into a sorted first set unless its key is there (R217). -/
def unionOne (xs : List (Nat × Nat)) (e : Nat × Nat) : List (Nat × Nat) :=
  if xs.any (fun x => decide (x.1 = e.1)) then xs else insertBy (fun a b => decide (a.1 ≤ b.1)) e xs

/-- Intersection, union or difference of two sorted sets (R217). -/
def setOp (fn : Nat) (xs ys : List (Nat × Nat)) : List (Nat × Nat) :=
  let has (k : Nat) : Bool := ys.any (fun y => decide (y.1 = k))
  match fn with
  | 0 => xs.filter (fun x => has x.1)
  | 1 => ys.foldl unionOne xs
  | _ => xs.filter (fun x => !has x.1)

/-- SET_OP (R217). -/
def State.setOpRun (s : State) (d : Nat) (p : Placed) (c : XeCmd) : XeRun :=
  let pairs := s.setPairs d p c
  let sets := pairs.map (fun x =>
    (s.keyElems d p c (descOp1 p.desc) (c.aOff + c.keyBytes * x.1) x.2.1, s.keyElems d p c c.auxH (c.auxOff + c.keyBytes * x.2.2.1) x.2.2.2))
  if sets.any (fun x => !ascending x.1 || !ascending x.2) then XeRun.fail 9
  else
    let rs := sets.map (fun x => setOp c.fn x.1 x.2)
    let all := rs.flatten
    let kept := if c.countOnly then [] else all.take c.count2
    ⟨0, kept.length, all.length, 0, { Fl.none with satFp := decide (c.count2 < all.length) },
     (c.outOff + 64, wordBytes (prefixSums (rs.map List.length))) ::
       (if c.countOnly then [] else [(c.outOff + 64 + up64 (4 * (c.count + 1)), (kept.map (elemBytes (decide (c.keyFmt = 1)))).flatten)]),
     pairs.foldl (fun a x => a + ceilDiv (x.2.1 + x.2.2.2) 16 + 4) 0, []⟩

/-- The home bucket of a key in a table of 2^l buckets (R218). -/
def homeBucket (l k : Nat) : Nat := k * 0x9E3779B1 % 2 ^ 32 / 2 ^ (32 - l)

/-- The search of R218 in a table of slots: buckets visited, the slot that holds the key, the lowest empty slot of the first bucket with room. -/
def hashSearch (l : Nat) (slot : Nat → Nat × Nat) (k : Nat) : Nat → Nat → Nat → Nat × Option Nat × Option Nat
  | 0, _, seen => (seen, none, none)
  | n + 1, b, seen =>
    let slots := (List.range 8).map (fun i => 8 * b + i)
    match (if k = nullKey then none else slots.find? (fun i => decide ((slot i).1 = k))), slots.find? (fun i => decide ((slot i).1 = nullKey)) with
    | some i, _ => (seen + 1, some i, none)
    | none, some e => (seen + 1, none, some e)
    | none, none => hashSearch l slot k n ((b + 1) % 2 ^ l) (seen + 1)

/-- A table under construction: slots that are taken, buckets visited, visited beyond the first, SAT_INT; none when a key found no place. -/
def hashInsert (l fn : Nat) (t : Option (List (Nat × Nat × Nat) × Nat × Nat × Bool)) (e : Nat × Nat) : Option (List (Nat × Nat × Nat) × Nat × Nat × Bool) :=
  match t with
  | none => none
  | some (slots, seen, extra, sat) =>
    let at_ (i : Nat) : Nat × Nat := match slots.find? (fun x => decide (x.1 = i)) with
      | some x => x.2
      | none => (nullKey, 0)
    match hashSearch l at_ e.1 16 (homeBucket l e.1) 0 with
    | (n, some i, _) =>
      let r := match fn with
        | 0 => ((at_ i).2, false)
        | 1 => (e.2, false)
        | _ => let x := intOut 14 (toSigned 32 (at_ i).2 + toSigned 32 e.2); (x.1, x.2.satInt)
      some (slots.map (fun x => if x.1 = i then (i, e.1, r.1) else x), seen + n, extra + (n - 1), sat || r.2)
    | (n, none, some i) => some (slots ++ [(i, e.1, e.2)], seen + n, extra + (n - 1), sat)
    | (_, none, none) => none

/-- HASH_BUILD (R219): every slot is written empty first; KEY_FMT 0 inserts the payload 1. -/
def State.hashBuildRun (s : State) (d : Nat) (p : Placed) (c : XeCmd) : XeRun :=
  let es := (s.keyElems d p c (descOp1 p.desc) c.aOff c.count).map (fun e => if c.keyFmt = 0 then (e.1, 1) else e)
  if es.any (fun e => decide (e.1 = nullKey)) then XeRun.fail 10
  else
    match es.foldl (hashInsert c.count2 c.fn) (some ([], 0, 0, false)) with
    | none => XeRun.fail 11
    | some (slots, seen, extra, sat) =>
      let image := (List.range (8 * 2 ^ c.count2)).flatMap (fun i => match slots.find? (fun x => decide (x.1 = i)) with
        | some x => elemBytes true x.2
        | none => elemBytes true (nullKey, 0))
      ⟨0, slots.length, slots.length, seen, { Fl.none with satInt := sat }, [(c.outOff + 64, image)], 2 ^ c.count2 / 2 + ceilDiv c.count 2 + extra, []⟩

/-- A slot of the table that HASH_PROBE searches: key and payload (R218). -/
def State.tableSlot (s : State) (d : Nat) (p : Placed) (c : XeCmd) (i : Nat) : Nat × Nat :=
  let x := s.bufBytes d p (descOp2 p.desc) (c.bOff + 8 * i) 8
  (leAt x 0 4, leAt x 4 4)

/-- HASH_PROBE (R220). -/
def State.hashProbeRun (s : State) (d : Nat) (p : Placed) (c : XeCmd) : XeRun :=
  let es := s.keyElems d p c (descOp1 p.desc) c.aOff c.count
  let slot := s.tableSlot d p c
  let rs := es.map (fun e => let r := hashSearch c.count2 slot e.1 16 (homeBucket c.count2 e.1) 0; (r.1, r.2.1.map (fun i => (slot i).2)))
  let probes := rs.foldl (fun a r => a + r.1) 0
  ⟨0, (rs.filter (fun r => r.2.isSome)).length, c.count, probes, Fl.none, [(c.outOff + 64, wordBytes (rs.map (fun r => r.2.getD nullKey)))], ceilDiv probes 4, []⟩

/-- A stable sort by the low bits of keys (R221). -/
def radixPass (bits : Nat) (es : List (Nat × Nat)) : List (Nat × Nat) := sortBy (fun a b => decide (a.1 % 2 ^ bits ≤ b.1 % 2 ^ bits)) es

/-- RADIX_SORT (R221): the scratch keeps what the last pass but one wrote. -/
def State.radixRun (s : State) (d : Nat) (p : Placed) (c : XeCmd) : XeRun :=
  let es := s.keyElems d p c (descOp1 p.desc) c.aOff c.count
  let passes := ceilDiv c.count2 8
  let bytes (xs : List (Nat × Nat)) : List Byte := (xs.map (elemBytes (decide (c.keyFmt = 1)))).flatten
  ⟨0, c.count, c.count, 0, Fl.none, [(c.outOff + 64, bytes (radixPass c.count2 es))], ceilDiv c.count 16 + passes * (ceilDiv c.count 8 + 16),
   if 2 ≤ passes then bytes (radixPass (8 * (passes - 1)) es) else []⟩

/-- A result of R222 in the output format; INF marks an infinity that is written. -/
def xeOut (fmt : Nat) (v : Val) : Nat × Fl :=
  match fpOf fmt with
  | some f => f.out false v
  | none => quantInt fmt 0 v

/-- Values of a row of A in its format. -/
def State.xeRow (s : State) (d : Nat) (p : Placed) (c : XeCmd) (i : Nat) : List Val :=
  s.rowVals d p c.inFmt c.elems (descOp1 p.desc) (c.aOff + 64 * c.lda * i) 0

/-- One column of a segment (R222). -/
def segElem (inFmt fn : Nat) (vs : List Val) : Val :=
  match vs with
  | [] => .zero
  | v :: rest =>
    let exact := decide (inFmt = 14)
    let sum := if exact then vs.foldl Val.add Val.zero else vs.foldl Val.add32 Val.zero
    match fn with
    | 0 => sum
    | 1 => rest.foldl Val.max v
    | 2 => rest.foldl Val.min v
    | _ => sum.f32.mul32 (exactFn 0x14 false vs.length 0)

/-- SEG_REDUCE (R222). -/
def State.segReduceRun (s : State) (d : Nat) (p : Placed) (c : XeCmd) : XeRun :=
  let pos := s.words d p (descOp2 p.desc) c.bOff (c.count2 + 1)
  if ¬ ((pos.zip (pos.drop 1)).all (fun e => decide (e.1 ≤ e.2))) ∨ pos.any (fun x => decide (c.count < x)) then XeRun.fail 10
  else
    let rows := (pos.zip (pos.drop 1)).map (fun e =>
      let vs := (rangeFrom e.1 (e.2 - e.1)).map (s.xeRow d p c)
      (List.range c.elems).map (fun j =>
        xeOut c.outFmt (segElem c.inFmt c.fn (vs.filterMap (fun r => r[j]?)))))
    ⟨0, c.count2, c.count2, 0, Fl.all (rows.map (fun r => Fl.all (r.map (fun e => e.2)))),
     rows.mapIdx (fun i r => (c.outOff + 64 + 64 * c.ldo * i, packRow c.outFmt (r.map (fun e => e.1)))),
     ceilDiv (c.count * c.elems) (if fmtBits c.inFmt = 32 then 16 else 32) + ceilDiv c.count2 16, []⟩

/-- The identity of an operation in D's format, with the flag of an infinity that it writes (R213, R223). -/
def xeIdentity (fmt fn : Nat) : Nat × Fl :=
  match fmt, fn with
  | 14, 0 => (0, Fl.none)
  | 14, 1 => (0x80000000, Fl.none)
  | 14, _ => (0x7FFFFFFF, Fl.none)
  | f, 0 => xeOut f Val.zero
  | f, 1 => xeOut f (.inf true)
  | f, _ => xeOut f (.inf false)

/-- One element update: read, combine, write in D's format (R222, R223). -/
def xeUpdate (inFmt outFmt fn : Nat) (old : Nat) (v : Val) : Nat × Fl :=
  let x := elemVal outFmt old
  if inFmt = 14 ∧ outFmt = 14 then
    xeOut 14 (match fn with
      | 0 => x.add v
      | 1 => x.max v
      | _ => x.min v)
  else
    xeOut outFmt (match fn with
      | 0 => x.f32.add32 v.f32
      | 1 => x.f32.max v.f32
      | _ => x.f32.min v.f32)

/-- SCATTER (R223): updates in input order; a null index skips its row. -/
def State.scatterRun (s : State) (d : Nat) (p : Placed) (c : XeCmd) : XeRun :=
  let idx := s.words d p (descOp2 p.desc) c.bOff c.count
  if idx.any (fun i => decide (i ≠ nullKey) && decide (c.count2 ≤ i)) then XeRun.fail 10
  else
    let start := (List.range c.count2).map (fun i =>
      if c.init then List.replicate c.elems (xeIdentity c.outFmt c.fn).1
      else unpackRow c.outFmt c.elems (s.bufBytes d p (descOut p.desc) (c.outOff + 64 + 64 * c.ldo * i) c.outRowBytes))
    let r := idx.zipIdx.foldl (fun (acc : List (List Nat) × Fl) e =>
      if e.1 = nullKey then acc
      else
        let row := ((acc.1.getD e.1 []).zip (s.xeRow d p c e.2)).map (fun x => xeUpdate c.inFmt c.outFmt c.fn x.1 x.2)
        (setAt acc.1 e.1 (row.map (fun x => x.1)), acc.2.or (Fl.all (row.map (fun x => x.2))))) (start, if c.init ∧ 0 < c.count2 then (xeIdentity c.outFmt c.fn).2 else Fl.none)
    let rows := r.1.zipIdx.filter (fun e => c.init || decide (e.2 ∈ idx))
    ⟨0, rows.length, rows.length, 0, r.2,
     rows.map (fun e => (c.outOff + 64 + 64 * c.ldo * e.2, packRow c.outFmt e.1)),
     (if c.init then 64 * c.ldo * c.count2 / 128 else 0) + ceilDiv (c.count * c.elems) (if fmtBits c.inFmt = 32 then 8 else 16), []⟩

/-- FRONTIER (R216). -/
def State.frontierRun (s : State) (d : Nat) (p : Placed) (c : XeCmd) : XeRun :=
  let g := s.graph d p c
  match s.adjacents d p c g (s.words d p (descOp2 p.desc) c.bOff c.count) with
  | none => XeRun.fail 10
  | some ls =>
    let vis := leNat (s.bufBytes d p c.aux2H c.aux2Off (ceilDiv g.1 8))
    let edges := ls.flatten
    let next := ((List.range g.1).filter (fun v => !bit vis v && edges.any (fun e => decide (e.2 = v)))).map (fun v =>
      (v, match edges.find? (fun e => decide (e.2 = v)) with
        | some e => e.1
        | none => 0))
    let vis' := (List.range g.1).foldr (fun v a => 2 * a + b2n (bit vis v || edges.any (fun e => decide (e.2 = v)))) 0
    let kept := next.take c.count2
    let mapBytes := ceilDiv g.1 512 * 64
    ⟨0, kept.length, next.length, 0, { Fl.none with satFp := decide (c.count2 < next.length) },
     [(c.outOff + 64, leBytes mapBytes vis'), (c.outOff + 64 + mapBytes, (kept.map (elemBytes c.edgeId)).flatten)],
     ceilDiv g.1 1024 + neighbourWork c.count (ls.map List.length) + ceilDiv edges.length 16 + ceilDiv g.1 512, []⟩

/-- What a command reads (R211, code 8): everything its inputs hold, but of GATHER the rows indexed, of a graph the entries and lists of the listed vertices,
of a hash table the buckets visited, and of the D of a SCATTER the rows it updates. -/
def State.xeReads (s : State) (d : Nat) (p : Placed) (c : XeCmd) : List (Nat × Nat) :=
  let b := p.desc
  let flat (h off n : Nat) : List (Nat × Nat) := s.runsOf d p ⟨h, off, 0, 1, n⟩
  let list := s.words d p (descOp2 b) c.bOff c.count
  if c.op = 1 then
    flat (descOp2 b) c.bOff (4 * c.count) ++ (list.filter (fun i => decide (i < c.count2))).flatMap (fun i => flat (descOp1 b) (c.aOff + 64 * c.lda * i) c.rowLen)
  else if c.op = 2 ∨ c.op = 9 then
    let g := s.graph d p c
    flat (descOp1 b) c.aOff 64 ++ flat (descOp2 b) c.bOff (4 * c.count) ++ (if c.op = 9 then flat c.aux2H c.aux2Off (ceilDiv g.1 8) else []) ++
    (list.filter (fun v => decide (v < g.1))).flatMap (fun v =>
      let o := s.words d p (descOp1 b) (c.aOff + 64 + 4 * v) 2
      flat (descOp1 b) (c.aOff + 64 + 4 * v) 8 ++ flat c.auxH (c.auxOff + 4 * o.headD 0) (4 * ((o.drop 1).headD 0 - o.headD 0)))
  else if c.op = 6 then flat (descOp1 b) c.aOff (c.keyBytes * c.count)
  else if c.op = 5 then
    flat (descOp1 b) c.aOff (c.keyBytes * c.count) ++ (s.keyElems d p c (descOp1 b) c.aOff c.count).flatMap (fun e =>
      let home := homeBucket c.count2 e.1
      (List.range (hashSearch c.count2 (s.tableSlot d p c) e.1 16 home 0).1).flatMap (fun i => flat (descOp2 b) (c.bOff + 64 * ((home + i) % 2 ^ c.count2)) 64))
  else
    (c.inRows b (0, 0) ++ s.setRows d p c).flatMap (s.runsOf d p) ++
    (if c.op = 8 ∧ ¬ c.init then (list.filter (fun i => decide (i < c.count2))).flatMap (fun i => flat (descOut b) (c.outOff + 64 + 64 * c.ldo * i) c.outRowBytes) else [])

/-- An XE command as a run: the checks, the operation, the header it writes at OUT_OFF (R206, R211, R213, R224). -/
def State.xeJob (s : State) (d core : Nat) (run : XeCmd → XeRun) (p : Placed) : Job :=
  let c := XeCmd.parse p.desc
  let code := s.xeCheck d core p c
  if code ≠ 0 then Job.fail code
  else
    let r := run c
    if r.code ≠ 0 then { Job.fail r.code with reads := s.xeReads d p c }
    else
      { Job.done r.flags (s.xeReads d p c) ((c.outOff, xeHeader r.written r.required r.probes) :: r.writes) (32 + r.work + 16) (r.work, 0) with
        scratch := match s.opBuf d p c.auxH with
          | some e => if r.scratch = [] then [] else [(e.base + c.auxOff, r.scratch)]
          | none => [] }

/-- XE opcodes (R209). -/
def xeOps (op : Nat) : Bool := decide (1 ≤ op) && decide (op ≤ 9)

/-- GATHER: row i of D is row idx[i] of A (R214). -/
def execGather (d core : Nat) (s : State) : Out := s.runRow d core .xe 2 (fun o => o == 1) xeOps (fun p => s.xeJob d core (s.gatherRun d p) p)

/-- NEIGHBOURS: positions and concatenated neighbour lists (R215). -/
def execNeighbours (d core : Nat) (s : State) : Out := s.runRow d core .xe 2 (fun o => o == 2) xeOps (fun p => s.xeJob d core (s.neighboursRun d p) p)

/-- SET_OP: intersection, union or difference of pairs of sorted sets (R217). -/
def execSetOp (d core : Nat) (s : State) : Out := s.runRow d core .xe 2 (fun o => o == 3) xeOps (fun p => s.xeJob d core (s.setOpRun d p) p)

/-- HASH_BUILD: a hash table of the keys of A (R218, R219). -/
def execHashBuild (d core : Nat) (s : State) : Out := s.runRow d core .xe 2 (fun o => o == 4) xeOps (fun p => s.xeJob d core (s.hashBuildRun d p) p)

/-- HASH_PROBE: the payload of each key of A (R220). -/
def execHashProbe (d core : Nat) (s : State) : Out := s.runRow d core .xe 2 (fun o => o == 5) xeOps (fun p => s.xeJob d core (s.hashProbeRun d p) p)

/-- RADIX_SORT: a stable sort by the low bits of keys (R221). -/
def execRadixSort (d core : Nat) (s : State) : Out := s.runRow d core .xe 2 (fun o => o == 6) xeOps (fun p => s.xeJob d core (s.radixRun d p) p)

/-- SEG_REDUCE: each segment of rows combined into one (R222). -/
def execSegReduce (d core : Nat) (s : State) : Out := s.runRow d core .xe 2 (fun o => o == 7) xeOps (fun p => s.xeJob d core (s.segReduceRun d p) p)

/-- SCATTER: rows of A combined into indexed rows of D (R223). -/
def execScatter (d core : Nat) (s : State) : Out := s.runRow d core .xe 2 (fun o => o == 8) xeOps (fun p => s.xeJob d core (s.scatterRun d p) p)

/-- FRONTIER: one step of a breadth-first traversal (R216). -/
def execFrontier (d core : Nat) (s : State) : Out := s.runRow d core .xe 2 (fun o => o == 9) xeOps (fun p => s.xeJob d core (s.frontierRun d p) p)

end Sys2Proof.Machine
end

