-- ==== Sys2Proof/Machine/Attend.lean ====
section
/-!
DEFINITION. Machine/Attend.lean: the fused attention commands (R245 to R269): ATTEND, KV_APPEND with Winnow, KV_FORK and KV_RELEASE, and the messages of
the key-value cache (R270).
-/
namespace Sys2Proof.Machine

/-- Physical address of page k of a pool and of its annex (R247). -/
def pageAddr (base k : Nat) : Nat := base + 32768 * k
def annexAddr (base pages k : Nat) : Nat := base + 32768 * pages + 2048 * k

/-- Minus infinity in FP16 (R248). -/
def scoreNone : Nat := 0xFC00

/-- A page with its pool's base in memory: what the commands of a sequence read of it. -/
structure KvPage where
  pte : Nat
  page : Nat
  bank : Nat
  mem : Nat
  annex : Nat
deriving DecidableEq, Repr

/-- The page of an entry. -/
def State.kvPageAt (s : State) (d : Nat) (pte : Nat) : KvPage :=
  let e := s.kvPte d [] pte
  let p := s.kvPool d [] e.pool
  let base := match s.bufOf p.handle with
    | some b => b.base
    | none => 0
  ⟨pte, e.page, e.bank, pageAddr base e.page, annexAddr base p.pages e.page⟩

/-- Fields of a slot of a page: position, score of a bank, K and V elements, scales (R247, R248). -/
def State.slotPos (s : State) (g : KvPage) (i : Nat) : Nat := s.loadNat (g.annex + 2 * i) 2
def State.slotScore (s : State) (g : KvPage) (bank i : Nat) : Nat := s.loadNat (g.annex + 0x100 + 0x100 * bank + 2 * i) 2
def State.slotLive (s : State) (g : KvPage) (i : Nat) : Bool := decide (s.slotScore g g.bank i ≠ scoreNone)
def State.slotK (s : State) (g : KvPage) (fmt dim i : Nat) : List Val := (s.bytes (g.mem + 128 * i) dim).map (fun b => elemVal fmt b.toNat)
def State.slotKScale (s : State) (g : KvPage) (dim i : Nat) : List Nat := (s.bytes (g.annex + 0x300 + 4 * i) (dim / 32)).map (fun b => b.toNat)
def State.slotV (s : State) (g : KvPage) (fmt dim i : Nat) : List Val := (s.bytes (g.mem + 0x4000 + 128 * i) dim).map (fun b => elemVal fmt b.toNat)
def State.slotVScale (s : State) (g : KvPage) (i : Nat) : Nat := s.loadNat (g.annex + 0x500 + i) 1

/-- Element formats of K and V of a sequence: MXFP8 E4M3 or E5M2 (R251). -/
def KvSeq.kFmt (q : KvSeq) : Nat := if bit q.flags 2 then 6 else 5
def KvSeq.vFmt (q : KvSeq) : Nat := if bit q.flags 3 then 6 else 5

/-- Fields of ATTEND (R255). -/
structure AtCmd where
  qFmt : Nat
  outFmt : Nat
  causal : Bool
  bias : Bool
  score : Bool
  lse : Bool
  sat : Bool
  reserved : Bool
  perKv : Nat
  entries : Nat
  bMin : Nat
  bMax : Nat
  scale : Val
  ldq : Nat
  ldo : Nat
  batchOff : Nat
  qOff : Nat
  outOff : Nat
  qScale : Nat
  biasOff : Nat
  lseOff : Nat
deriving DecidableEq, Repr

/-- Read the fields. -/
def AtCmd.parse (b : List Byte) : AtCmd :=
  let fl := leAt b 18 1
  { qFmt := leAt b 16 1, outFmt := leAt b 17 1, causal := bit fl 0, bias := bit fl 1, score := bit fl 2, lse := bit fl 3, sat := bit fl 4,
    reserved := decide (fl < 32) && decide (leAt b 56 8 = 0), perKv := leAt b 19 1, entries := leAt b 20 2, bMin := leAt b 22 1, bMax := leAt b 23 1,
    scale := fp32.decode (leAt b 24 4), ldq := leAt b 28 2, ldo := leAt b 30 2, batchOff := leAt b 32 4, qOff := leAt b 36 4, outOff := leAt b 40 4,
    qScale := leAt b 44 4, biasOff := leAt b 48 4, lseOff := leAt b 52 4 }

/-- A batch entry (R256). -/
structure AtEntry where
  seq : Nat
  row : Nat
  count : Nat
  pos0 : Nat
  zeros : Bool
deriving DecidableEq, Repr

/-- Read the batch. -/
def State.batch (s : State) (d : Nat) (p : Placed) (c : AtCmd) : List AtEntry :=
  (chunks c.entries 16 (s.bufBytes d p (descOp2 p.desc) c.batchOff (16 * c.entries))).map (fun b =>
    ⟨leAt b 0 4, leAt b 4 3, leAt b 8 2, leAt b 10 2, decide (leAt b 7 1 = 0) && decide (leAt b 12 4 = 0)⟩)

/-- Query heads of an entry's sequence. -/
def State.qHeads (s : State) (d : Nat) (c : AtCmd) (e : AtEntry) : Nat := (s.kvSeq d [] e.seq).heads * c.perKv

/-- The length bucket of an entry (R265). -/
def State.bucket (s : State) (d : Nat) (e : AtEntry) : Nat := max 4 (clog2 (s.kvSeq d [] e.seq).live)

/-- The entries processed, in the order of R265: descending bucket, batch order within one. -/
def State.chosen (s : State) (d : Nat) (c : AtCmd) (es : List AtEntry) : List AtEntry :=
  sortBy (fun a b => decide (s.bucket d b ≤ s.bucket d a)) (es.filter (fun e => decide (c.bMin ≤ s.bucket d e) && decide (s.bucket d e ≤ c.bMax)))

/-- Rows of Q and of O, LSE values and bias tables that a processed entry uses. -/
def State.entryRows (s : State) (d : Nat) (p : Placed) (c : AtCmd) (e : AtEntry) : List Rows × List Rows :=
  let q := s.kvSeq d [] e.seq
  let n := e.count * s.qHeads d c e
  let oBytes := if c.outFmt = 13 then 4 else 2
  ([⟨descOp1 p.desc, c.qOff + 64 * c.ldq * e.row, 64 * c.ldq, n, rowBytes c.qFmt q.dim⟩] ++
   (if isMx c.qFmt then [⟨descOp1 p.desc, c.qScale + scaleStride q.dim * e.row, scaleStride q.dim, n, scaleBytes q.dim⟩] else []) ++
   (if c.bias then [⟨descOp2 p.desc, c.biasOff, 0, 1, 2048 * s.qHeads d c e⟩] else []),
   [⟨descOut p.desc, c.outOff + 64 * c.ldo * e.row, 64 * c.ldo, n, q.dim * oBytes⟩] ++
   (if c.lse then [⟨descOut p.desc, c.lseOff + 4 * e.row, 0, 1, 4 * n⟩] else []))

/-- The pages and annexes of a sequence as regions of its pool's buffer (R247). -/
def State.seqPages (s : State) (d : Nat) (q : KvSeq) : List Rows :=
  let pool := s.kvPool d [] q.pool
  (s.kvRows d q).flatten.flatMap (fun i =>
    let n := (s.kvPte d [] i).page
    [⟨pool.handle, pageAddr 0 n, 0, 1, 32768⟩, ⟨pool.handle, annexAddr 0 pool.pages n, 0, 1, 2048⟩])

/-- The checks of R171 and R258 on ATTEND; 0 when all pass. -/
def State.attendCheck (s : State) (d : Nat) (p : Placed) (c : AtCmd) : Nat :=
  let b := p.desc
  let batchRows : Rows := ⟨descOp2 b, c.batchOff, 0, 1, 16 * c.entries⟩
  let readable := s.boundsOk d p [batchRows]
  let es := if readable then s.batch d p c else []
  let seqsOk := es.all (fun e => s.seqValid d e.seq p.silo)
  let used := if seqsOk then s.chosen d c es else []
  let ins := used.flatMap (fun e => (s.entryRows d p c e).1)
  let outs := used.flatMap (fun e => (s.entryRows d p c e).2)
  let pages := used.flatMap (fun e => s.seqPages d (s.kvSeq d [] e.seq))
  firstFailing
    [(2, (decide (c.qFmt = 5) || is16 c.qFmt) && (is16 c.outFmt || decide (c.outFmt = 13)) && c.reserved),
     (3, used.all (fun e => let q := s.kvSeq d [] e.seq
          decide (rowBytes c.qFmt q.dim ≤ 64 * c.ldq) && decide (q.dim * (if c.outFmt = 13 then 4 else 2) ≤ 64 * c.ldo))),
     (4, ([c.batchOff, c.qOff, c.outOff, c.biasOff, c.lseOff] ++ (if isMx c.qFmt then [c.qScale] else [])).all (fun o => decide (o % 64 = 0))),
     (5, s.handlesOk d p [descOp1 b, descOp2 b, descOut b]),
     (6, readable && s.boundsOk d p (ins ++ outs)),
     (7, !descInPlace b && (batchRows :: ins ++ pages).all (fun r => outs.all (fun x => !r.meets x))),
     (9, seqsOk && decide (1 ≤ c.perKv) && decide (c.perKv ≤ 16) && decide (1 ≤ c.entries) && decide (c.entries ≤ 256) && decide (4 ≤ c.bMin) && decide (c.bMin ≤ c.bMax) &&
        decide (c.bMax ≤ 15) && es.all (fun e => e.zeros && decide (1 ≤ e.count) && decide (e.count ≤ 4096) && decide (e.pos0 ≤ 32767))),
     (11, es.all (fun e => decide (e.pos0 + e.count - 1 ≤ 32767)))]

/-- The logit of a key (R259): none for one that is minus infinity by its slot, by CAUSAL or by its bias. -/
def atLogit (c : AtCmd) (q : List Val) (qs : List Nat) (k : List Val) (ks : List Nat) (bias : Option Val) (masked : Bool) : Val × Bool :=
  if masked then (.inf true, false)
  else
    match bias with
    | some (.inf true) => (.inf true, false)
    | _ =>
      let r := dotNarrow Val.zero q k qs ks
      let x := r.1.mul32 c.scale
      let y := match bias with
        | some v => x.add32 v
        | none => x
      (y, r.2 || x.isInf || y.isInf)

/-- The running state of a query row: maximum, sum, accumulators, an infinity produced (R260). -/
structure AtAcc where
  m : Val
  sum : Val
  o : List Val
  inf : Bool
deriving DecidableEq, Repr

/-- One row of pages (R260): logits of its 128 slots, V scales and V rows. -/
def AtAcc.step (a : AtAcc) (xs : List Val) (vScales : List Nat) (vs : List (List Val)) : AtAcc :=
  let m' := xs.foldl Val.max a.m
  if m' = .inf true then a
  else
    let al := if a.m = .inf true then Val.zero else transcend 0x10 (a.m.sub32 m')
    let ps := xs.map (fun x => transcend 0x10 (x.sub32 m'))
    let s1 := ps.foldl Val.add32 (a.sum.mul32 al)
    let scaled := (ps.zip vScales).map (fun e => (e.1.mul (scaleVal e.2)).f32)
    let blocks := (chunks 4 32 scaled).map (mxBlock 5)
    let pe := (blocks.map (fun b => b.2.1)).flatten.map (elemVal 5)
    let pss := blocks.map (fun b => b.1)
    let o1 := a.o.mapIdx (fun i v => dotNarrow (v.mul32 al) pe (vs.map (fun r => r.getD i Val.zero)) pss [])
    ⟨m', s1, o1.map (fun r => r.1), a.inf || o1.any (fun r => r.2)⟩

/-- Query i and query head h of an entry's n-th query row, and the positions of its query (R256). -/
def State.rowHead (s : State) (d : Nat) (c : AtCmd) (e : AtEntry) (n : Nat) : Nat × Nat := (n / s.qHeads d c e, n % s.qHeads d c e)

/-- Logits of a query row over a page of its KV head. -/
def State.pageLogits (s : State) (d : Nat) (p : Placed) (c : AtCmd) (q : KvSeq) (e : AtEntry) (n : Nat) (g : KvPage) : List (Val × Bool) :=
  let ih := s.rowHead d c e n
  let row := e.row + n
  let qv := (unpackRow c.qFmt q.dim (s.bufBytes d p (descOp1 p.desc) (c.qOff + 64 * c.ldq * row) (rowBytes c.qFmt q.dim))).map (elemVal c.qFmt)
  let qs := if isMx c.qFmt then (s.bufBytes d p (descOp1 p.desc) (c.qScale + scaleStride q.dim * row) (scaleBytes q.dim)).map (fun b => b.toNat) else []
  let qpos := e.pos0 + ih.1
  (List.range 128).map (fun i =>
    let kpos := s.slotPos g i
    let dist := if kpos ≤ qpos then qpos - kpos else kpos - qpos
    let bias := if c.bias then some (elemVal 12 (leNat (s.bufBytes d p (descOp2 p.desc) (c.biasOff + 2048 * ih.2 + 2 * min dist 1023) 2))) else none
    atLogit c qv qs (s.slotK g q.kFmt q.dim i) (s.slotKScale g q.dim i) bias (!s.slotLive g i || (c.causal && decide (qpos < kpos))))

/-- Attention of one query row over its sequence: final maximum, sum and accumulators. -/
def State.attendRow (s : State) (d : Nat) (p : Placed) (c : AtCmd) (e : AtEntry) (n : Nat) : AtAcc :=
  let q := s.kvSeq d [] e.seq
  let h := (s.rowHead d c e n).2 / c.perKv
  (s.kvRows d q).foldl (fun a row =>
    let g := s.kvPageAt d (row.getD h kvNull)
    let xs := s.pageLogits d p c q e n g
    let a' := a.step (xs.map (fun x => x.1)) ((List.range 128).map (s.slotVScale g)) ((List.range 128).map (s.slotV g q.vFmt q.dim))
    { a' with inf := a'.inf || xs.any (fun x => x.2) }) ⟨.inf true, Val.zero, List.replicate q.dim Val.zero, false⟩

/-- O and LSE of a finished row (R260). -/
def AtAcc.output (c : AtCmd) (a : AtAcc) : List Byte × Fl × Nat :=
  let f := (fpOf c.outFmt).getD fp32
  if a.m = .inf true then ((a.o.map (fun _ => leBytes (f.width / 8) 0)).flatten, Fl.none, (Val.inf true).bits32)
  else
    let r := transcend 0x14 a.sum
    let es := a.o.map (fun v => f.out c.sat (v.mul32 r).posZero)
    ((es.map (fun e => leBytes (f.width / 8) e.1)).flatten, { Fl.all (es.map (fun e => e.2)) with inf := a.inf || es.any (fun e => e.2.inf) },
     (a.m.add32 (transcend 0x12 a.sum)).bits32)

/-- The new score of a live key (R261): λ times the old score plus the FP32 sum of its attention over the entry's rows of its head, NaN terms
counting as +0, rounded once to FP16. -/
def newScore (decay old : Nat) (terms : List Val) : Nat :=
  let sum := (terms.map (fun t => if t.isNan then Val.zero else t)).foldl Val.add32 Val.zero
  (fp16.out true (((fp16.decode decay).mul (fp16.decode old)).add sum)).1

/-- Score banks that ATTEND with SCORE writes (R261): for each page of an unshared row, the other bank in memory and the page's changed BANK. -/
def State.scoreBanks (s : State) (d : Nat) (p : Placed) (c : AtCmd) (e : AtEntry) (accs : List AtAcc) : List ((Nat × List Byte) × KvOp) :=
  let q := s.kvSeq d [] e.seq
  ((s.kvRows d q).filter (fun r => !s.rowShared d r)).flatMap (fun row => row.mapIdx (fun h pte =>
    let g := s.kvPageAt d pte
    let mine := accs.zipIdx.filter (fun a => decide ((s.rowHead d c e a.2).2 / c.perKv = h))
    let terms := mine.map (fun a =>
      let r := transcend 0x14 a.1.sum
      (s.pageLogits d p c q e a.2 g).map (fun x => if a.1.m = .inf true then Val.zero else (transcend 0x10 (x.1.sub32 a.1.m)).mul32 r))
    let bank := (List.range 128).map (fun i =>
      if s.slotLive g i then newScore q.decay (s.slotScore g g.bank i) (terms.map (fun t => t.getD i Val.zero)) else scoreNone)
    ((g.annex + 0x100 + 0x100 * (1 - g.bank), (bank.map (leBytes 2)).flatten), .page pte (s.kvPte d [] pte).live (1 - g.bank))))

/-- Cycles of ATTEND for an entry (R269): blocks of 96 rows of one KV head against each row of pages. -/
def State.entryCycles (s : State) (d : Nat) (c : AtCmd) (e : AtEntry) : Nat :=
  let q := s.kvSeq d [] e.seq
  let qk := 2 * ((if isMx c.qFmt then q.dim else 4 * q.dim) + 16)
  let pv := ceilDiv q.dim 64 * (128 + 16)
  let n := e.count * c.perKv
  24 + (List.range q.heads).foldl (fun a h => (List.range (ceilDiv n 96)).foldl (fun a b => (s.kvRows d q).foldl (fun a row =>
    let g := s.kvPageAt d (row.getD h kvNull)
    let rows := min 96 (n - 96 * b)
    let lastPos := e.pos0 + (96 * b + rows - 1) / c.perKv
    let dead := (List.range 128).all (fun i => !s.slotLive g i || (c.causal && decide (lastPos < s.slotPos g i)))
    a + (if dead then 8 else max (qk + pv) (8 * rows) + 8 + (if c.score ∧ ¬ s.rowShared d row then qk + 8 * rows else 0))) a) a) 0

/-- The bytes of the pages of a sequence. -/
def State.seqReads (s : State) (d : Nat) (q : KvSeq) : List (Nat × Nat) :=
  (s.kvRows d q).flatten.flatMap (fun i => let g := s.kvPageAt d i; [(g.mem, 32768), (g.annex, 2048)])

/-- ATTEND as a run (R259 to R261, R265). -/
def State.attendJob (s : State) (d : Nat) (p : Placed) : Job :=
  let c := AtCmd.parse p.desc
  let code := s.attendCheck d p c
  let es := s.chosen d c ((s.batch d p c).filter (fun e => s.seqValid d e.seq p.silo))
  let reads := s.runsOf d p ⟨descOp2 p.desc, c.batchOff, 0, 1, 16 * c.entries⟩ ++ es.flatMap (fun e =>
    (s.entryRows d p c e).1.flatMap (s.runsOf d p) ++ s.seqReads d (s.kvSeq d [] e.seq))
  if code ≠ 0 then { Job.fail code with reads := if code < 8 then [] else reads }
  else
    let runs := es.map (fun e => (e, (List.range (e.count * s.qHeads d c e)).map (s.attendRow d p c e)))
    let outs := runs.flatMap (fun r => r.2.mapIdx (fun n a => (r.1.row + n, a.output c)))
    let writes := outs.flatMap (fun o => (c.outOff + 64 * c.ldo * o.1, o.2.1) :: (if c.lse then [(c.lseOff + 4 * o.1, leBytes 4 o.2.2.2)] else []))
    let scores := if c.score then runs.flatMap (fun r => s.scoreBanks d p c r.1 r.2) else []
    let n := (es.map (s.entryCycles d c)).foldl (fun a n => a + n) 0
    { Job.done (Fl.all (outs.map (fun o => o.2.2.1))) reads writes (32 + n + 16) (n, 0) with
      table := scores.map (fun x => x.2), scratch := scores.map (fun x => x.1) }

/-- Fields of KV_APPEND (R257). -/
structure ApCmd where
  fmt : Nat
  seq : Nat
  count : Nat
  kCol : Nat
  vCol : Nat
  lds : Nat
  srcOff : Nat
  zeros : Bool
deriving DecidableEq, Repr

/-- Read the fields. -/
def ApCmd.parse (b : List Byte) : ApCmd :=
  ⟨leAt b 16 1, leAt b 20 4, leAt b 24 2, leAt b 26 2, leAt b 28 2, leAt b 30 2, leAt b 32 4, decide (leAt b 17 3 = 0) && decide (leAt b 36 28 = 0)⟩

/-- Where KV_APPEND places its tokens (R262): free slots of unshared rows, then of a shared last row, then new rows. -/
structure ApPlan where
  own : List (Nat × Nat)
  copied : List (Nat × Nat)
  fresh : Nat
deriving DecidableEq, Repr

/-- Free slots of a row. -/
def State.freeSlots (s : State) (d : Nat) (row : List Nat) : List Nat :=
  let g := s.kvPageAt d (row.headD kvNull)
  (List.range 128).filter (fun i => !s.slotLive g i)

/-- The plan for a count of tokens: the slots in own rows and in the copied last row that take tokens, and how many tokens go to new rows. -/
def State.appendPlan (s : State) (d : Nat) (q : KvSeq) (count : Nat) : ApPlan :=
  let rows := s.kvRows d q
  let own := (rows.zipIdx.filter (fun r => !s.rowShared d r.1)).flatMap (fun r => (s.freeSlots d r.1).map (fun i => (r.2, i)))
  let lastShared := match rows.getLast? with
    | some r => if s.rowShared d r then (s.freeSlots d r).map (fun i => (q.rows - 1, i)) else []
    | none => []
  ⟨own.take count, lastShared.take (count - own.length), count - own.length - lastShared.length⟩

/-- New rows and pages of a plan. -/
def ApPlan.newRows (a : ApPlan) : Nat := ceilDiv a.fresh 128
def ApPlan.pages (a : ApPlan) (heads : Nat) : Nat := heads * (a.newRows + (if a.copied = [] then 0 else 1))

/-- Pages that a command may take from a pool now, in the order of its chain (R250, R266). -/
def State.freshPages (s : State) (d : Nat) (p : Placed) (pool : KvPool) : List Nat :=
  let taken := s.kvReserved d p.other
  (s.kvChain d [] pool.pages pool.head).filter (fun i => !decide (i ∈ taken))

/-- The checks of R171 and R258 on KV_APPEND; 0 when all pass. -/
def State.appendCheck (s : State) (d : Nat) (p : Placed) (c : ApCmd) : Nat :=
  let b := p.desc
  let seqOk := s.seqValid d c.seq p.silo
  let q := s.kvSeq d [] c.seq
  let pool := s.kvPool d [] q.pool
  let rowEnd := (max c.kCol c.vCol + q.heads * q.dim) * fmtBits c.fmt / 8
  let src : List Rows := if c.count = 0 ∨ ¬ seqOk then [] else [⟨descOp1 b, c.srcOff, 64 * c.lds, c.count, rowEnd⟩]
  let plan := s.appendPlan d q c.count
  firstFailing
    [(2, (is16 c.fmt || decide (c.fmt = 13)) && c.zeros),
     (3, decide (c.count = 0) || !seqOk || decide (rowEnd ≤ 64 * c.lds)),
     (4, decide (c.srcOff % 64 = 0)),
     (5, s.handlesOk d p ((if c.count = 0 then [] else [descOp1 b]) ++ [descOut b])),
     (6, s.boundsOk d p src),
     (7, !descInPlace b && src.all (fun r => !r.meets ⟨descOut b, 0, 0, 1, 34816 * pool.pages⟩)),
     (9, seqOk && decide (c.count ≤ 4096) && decide (pool.handle = descOut b)),
     (10, decide (plan.pages q.heads ≤ (s.freshPages d p pool).length)),
     (11, decide (q.nextPos + c.count ≤ 32768) && decide (q.rows + plan.newRows ≤ q.maxRows))]

/-- What KV_APPEND reads: its source rows and the pages of its sequence. -/
def State.appendReads (s : State) (d : Nat) (p : Placed) (c : ApCmd) : List (Nat × Nat) :=
  if ¬ s.seqValid d c.seq p.silo then []
  else
    let q := s.kvSeq d [] c.seq
    (if c.count = 0 then [] else s.runsOf d p ⟨descOp1 p.desc, c.srcOff, 64 * c.lds, c.count, (max c.kCol c.vCol + q.heads * q.dim) * fmtBits c.fmt / 8⟩) ++ s.seqReads d q

/-- The K and V rows of a token for a head (R262): K bytes with its scales, V bytes with its one scale, flags. -/
def State.tokenRows (s : State) (d : Nat) (p : Placed) (c : ApCmd) (q : KvSeq) (t h : Nat) : (List Byte × List Byte) × (List Byte × Byte) × Fl :=
  let w := fmtBits c.fmt / 8
  let at_ (col : Nat) : List Val :=
    (unpackRow c.fmt q.dim (s.bufBytes d p (descOp1 p.desc) (c.srcOff + 64 * c.lds * t + w * (col + h * q.dim)) (w * q.dim))).map (elemVal c.fmt)
  let ks := (chunks 4 32 (at_ c.kCol)).map (mxBlock q.kFmt)
  let v := mxBlock q.vFmt (at_ c.vCol)
  let pad (es : List Nat) : List Byte := es.map (BitVec.ofNat 8) ++ List.replicate (128 - q.dim) 0#8
  ((pad (ks.map (fun b => b.2.1)).flatten, ks.map (fun b => BitVec.ofNat 8 b.1)), (pad v.2.1, BitVec.ofNat 8 v.1), Fl.all (v.2.2 :: ks.map (fun b => b.2.2)))

/-- Eligible positions of Winnow (R263): row, slot, position and rank. -/
def State.eligible (s : State) (d : Nat) (q : KvSeq) (nextPos : Nat) : List ((Nat × Nat) × (Nat × Val)) :=
  ((s.kvRows d q).zipIdx.filter (fun r => !s.rowShared d r.1)).flatMap (fun r =>
    let pages := r.1.map (s.kvPageAt d)
    match pages with
    | [] => []
    | g :: _ => (List.range 128).filterMap (fun i =>
      let pos := s.slotPos g i
      if s.slotLive g i ∧ 4 ≤ pos ∧ pos + q.recent < nextPos then
        some ((r.2, i), (pos, (pages.map (fun x => fp16.decode (s.slotScore x x.bank i))).foldl Val.add32 Val.zero))
      else none))

/-- The order of eviction: lower rank first, then lower position. -/
def evictsFirst (a b : (Nat × Nat) × (Nat × Val)) : Bool :=
  a.2.2.lt false b.2.2 || (!b.2.2.lt false a.2.2 && decide (a.2.1 ≤ b.2.1))

/-- A bank of scores for a page that KV_APPEND fills (R262, R263): scores kept, +0 for a new token, minus infinity for an evicted slot. -/
def fillBank (old : List Nat) (placed evicted : List Nat) : List Nat :=
  old.mapIdx (fun i x => if i ∈ evicted then scoreNone else if i ∈ placed then 0 else x)

/-- KV_APPEND as a run (R253, R262, R263). -/
def State.appendJob (s : State) (d : Nat) (p : Placed) : Job :=
  let c := ApCmd.parse p.desc
  let code := s.appendCheck d p c
  match code, s.opBuf d p (descOut p.desc) with
  | 0, some buf =>
    let q := s.kvSeq d [] c.seq
    let pool := s.kvPool d [] q.pool
    let plan := s.appendPlan d q c.count
    let rows := s.kvRows d q
    let pages := s.freshPages d p pool
    let copyRow := plan.copied ≠ []
    let copies := if copyRow then pages.take q.heads else []
    let fresh := pages.drop copies.length
    let newRows := (List.range plan.newRows).map (fun j => slice fresh (q.heads * j) q.heads)
    let places := plan.own ++ plan.copied ++ (List.range plan.fresh).map (fun i => (q.rows + i / 128, i % 128))
    let nextPos := q.nextPos + c.count
    let elig := if bit q.flags 1 then s.eligible d q nextPos else []
    let need : Int := (q.live + c.count + q.reserve : Nat) - (128 * q.budget : Nat)
    let n := if bit q.flags 1 then need.toNat else 0
    let gone := ((sortBy evictsFirst elig).take n).map (fun x => x.1)
    let short := bit q.flags 1 && decide (elig.length < n)
    let off (a : Nat) : Nat := a - buf.base
    let target (j : Nat) : List Nat := if j < q.rows then (if copyRow ∧ j + 1 = q.rows then copies else rows.getD j []) else newRows.getD (j - q.rows) []
    let touched := (List.range (q.rows + plan.newRows)).filter (fun j => places.any (fun x => decide (x.1 = j)) || gone.any (fun x => decide (x.1 = j)))
    let rowBanks (j : Nat) : List (Nat × List Nat) :=
      let placed := (places.filter (fun x => decide (x.1 = j))).map (fun x => x.2)
      let evicted := (gone.filter (fun x => decide (x.1 = j))).map (fun x => x.2)
      let src := if j < q.rows then rows.getD j [] else newRows.getD (j - q.rows) []
      src.map (fun i => let g := s.kvPageAt d i
        (1 - g.bank, fillBank (if j < q.rows then (List.range 128).map (s.slotScore g g.bank) else List.replicate 128 scoreNone) placed evicted))
    let copyWrites := if copyRow then
        ((rows.getD (q.rows - 1) []).zip copies).flatMap (fun x => let g := s.kvPageAt d x.1
          let t := s.kvPageAt d x.2
          [(off t.mem, s.bytes g.mem 32768), (off t.annex, s.bytes g.annex 2048)])
      else []
    let newWrites := newRows.flatten.map (fun i => let g := s.kvPageAt d i
      (off g.annex, List.replicate 256 0#8 ++ (List.replicate 256 (leBytes 2 scoreNone)).flatten ++ List.replicate 1280 0#8))
    let tokens := places.mapIdx (fun t x => (target x.1).mapIdx (fun h i =>
      let g := s.kvPageAt d i
      let r := s.tokenRows d p c q t h
      ([(off g.mem + 128 * x.2, r.1.1), (off g.mem + 0x4000 + 128 * x.2, r.2.1.1), (off g.annex + 2 * x.2, leBytes 2 (q.nextPos + t)),
        (off g.annex + 0x300 + 4 * x.2, r.1.2), (off g.annex + 0x500 + x.2, [r.2.1.2])], r.2.2)))
    let bankWrites := touched.flatMap (fun j => ((target j).zip (rowBanks j)).map (fun x => let g := s.kvPageAt d x.1
      (off g.annex + 0x100 + 0x100 * x.2.1, (x.2.2.map (leBytes 2)).flatten)))
    let liveOf (b : List Nat) : Nat := (b.filter (fun x => decide (x ≠ scoreNone))).length
    let rowLive (j : Nat) : Nat := match rowBanks j with
      | b :: _ => liveOf b.2
      | [] => 0
    let removed := touched.filter (fun j => gone.any (fun x => decide (x.1 = j)) && decide (rowLive j = 0))
    let kept := (List.range (q.rows + plan.newRows)).filter (fun j => !decide (j ∈ removed))
    let pageOps := touched.flatMap (fun j => ((target j).zip (rowBanks j)).map (fun x =>
      if j < q.rows ∧ ¬ (copyRow ∧ j + 1 = q.rows) then KvOp.page x.1 (liveOf x.2.2) x.2.1 else KvOp.take x.1 (liveOf x.2.2) x.2.1))
    let dropOps := (if copyRow then (rows.getD (q.rows - 1) []).map (fun i => KvOp.ref i false) else []) ++
      (removed.flatMap (fun j => (target j).map (fun i => KvOp.ref i false)))
    let listOps := kept.mapIdx (fun j x => KvOp.put (q.list + j) (rowEntry (target x)))
    let live' := kept.foldl (fun a j => a + (if j ∈ touched then rowLive j else (s.kvPte d [] ((rows.getD j []).headD kvNull)).live)) 0
    let recOps := { q with rows := kept.length, nextPos := nextPos, live := live' }.puts
    let cycles := ceilDiv (c.count * q.heads * 2 * q.dim) 64 + 16 * newRows.flatten.length + 272 * copies.length +
      (if 0 < n then ceilDiv (elig.length * q.heads) 16 + 2 * ceilDiv elig.length 8 else 0)
    { Job.done (Fl.all ((tokens.flatten).map (fun t => t.2))) (s.appendReads d p c)
        (copyWrites ++ newWrites ++ ((tokens.flatten).map (fun t => t.1)).flatten ++ bankWrites) (32 + cycles + 16) (cycles, 0) with
      table := pageOps ++ dropOps ++ listOps ++ recOps, kv := (copies.length, gone.length, if short then 8 else 0) }
  | 0, none => Job.fail 5
  | n, _ => { Job.fail n with reads := if n < 8 then [] else s.appendReads d p c }

/-- The checks of R258 on KV_FORK: target, source, rows, next position; 0 when all pass. -/
def State.forkCheck (s : State) (d : Nat) (p : Placed) : Nat :=
  let b := p.desc
  let t := s.kvSeq d [] (leAt b 16 4)
  let q := s.kvSeq d [] (leAt b 20 4)
  let n := leAt b 24 2
  let next := leAt b 26 2
  let shared := (List.range n).map (s.kvRow d q)
  firstFailing
    [(2, decide (leAt b 28 36 = 0)),
     (5, s.handlesOk d p [descOut b]),
     (7, !descInPlace b),
     (9, s.seqValid d (leAt b 16 4) p.silo && s.seqValid d (leAt b 20 4) p.silo && decide (t.rows = 0) && decide (1 ≤ n) && decide (n ≤ q.rows) &&
        decide (t.pool = q.pool) && decide (t.heads = q.heads) && decide (t.dim = q.dim) && decide (bits t.flags 3 2 = bits q.flags 3 2) &&
        decide ((s.kvPool d [] q.pool).handle = descOut b)),
     (11, decide (n ≤ t.maxRows) && shared.flatten.all (fun i => decide ((s.kvPte d [] i).ref < 65535)) && decide (next ≤ 32768) &&
        shared.all (fun r => let g := s.kvPageAt d (r.headD kvNull)
          (List.range 128).all (fun i => !s.slotLive g i || decide (s.slotPos g i < next))))]

/-- KV_FORK as a run (R264). -/
def State.forkJob (s : State) (d : Nat) (p : Placed) : Job :=
  let code := s.forkCheck d p
  if code ≠ 0 then Job.fail code
  else
    let t := s.kvSeq d [] (leAt p.desc 16 4)
    let q := s.kvSeq d [] (leAt p.desc 20 4)
    let n := leAt p.desc 24 2
    let shared := (List.range n).map (s.kvRow d q)
    let live := shared.foldl (fun a r => a + (s.kvPte d [] (r.headD kvNull)).live) 0
    { Job.done Fl.none [] [] (32 + n * q.heads + 16) (n * q.heads, 0) with
      table := shared.flatten.map (fun i => KvOp.ref i true) ++ shared.mapIdx (fun j r => KvOp.put (t.list + j) (rowEntry r)) ++
        { t with rows := n, nextPos := leAt p.desc 26 2, live := live }.puts }

/-- KV_RELEASE as a run (R264). -/
def State.releaseJob (s : State) (d : Nat) (p : Placed) : Job :=
  let b := p.desc
  let q := s.kvSeq d [] (leAt b 16 4)
  let code := firstFailing
    [(2, decide (leAt b 20 44 = 0)), (5, s.handlesOk d p [descOut b]), (7, !descInPlace b),
     (9, s.seqValid d (leAt b 16 4) p.silo && decide ((s.kvPool d [] q.pool).handle = descOut b))]
  if code ≠ 0 then Job.fail code
  else { Job.done Fl.none [] [] (32 + q.rows * q.heads + 16) (q.rows * q.heads, 0) with table := s.releaseOps d q }

/-- A fused row: as any engine row, and a command that finds too few pages shows NO_PAGE (R271). -/
def State.runFused (s : State) (d core op : Nat) (go : Placed → Job) : Out :=
  match s.placed d (.core core .te) with
  | some p =>
    let short := !p.ran && descFused p.desc && decide (descOp p.desc = op) && decide ((go p).status = 10)
    (if short then s.flag d .KV_STATUS_NO_PAGE else s).runRow d core .te 0 (fun o => o == op) teOps go
  | none => s.runRow d core .te 0 (fun o => o == op) teOps go

/-- ATTEND: attention of a batch of query rows over their sequences (R259 to R261). -/
def execAttend (d core : Nat) (s : State) : Out := s.runFused d core 0x10 (s.attendJob d)

/-- KV_APPEND: quantise and append keys and values, and run Winnow (R262, R263). -/
def execKvAppend (d core : Nat) (s : State) : Out := s.runFused d core 0x11 (s.appendJob d)

/-- KV_FORK: share the first rows of a sequence with an empty one (R264). -/
def execKvFork (d core : Nat) (s : State) : Out := s.runFused d core 0x12 (s.forkJob d)

/-- KV_RELEASE: drop every row of a sequence (R264). -/
def execKvRelease (d core : Nat) (s : State) : Out := s.runFused d core 0x13 (s.releaseJob d)

end Sys2Proof.Machine
end

