-- ==== Sys2Proof/Machine/Gateway.lean ====
section
/-!
DEFINITION. Machine/Gateway.lean: CAN FD, the UARTs, the MVB controllers, PCI Express links, the Mirsia links, the xSPI controller, and failures and
meetings at the Field bridge (R396 to R401, R403 to R405, R409, R411), with their messages (R414).
-/
namespace Sys2Proof.Machine

/-- An access of a peripheral-side engine is accepted: its run of RETRYs ends (R411). -/
def State.retryEnds (s : State) (d engine : Nat) : State := { s with ports.retries := eraseK s.ports.retries (d, engine) }

/-! CAN FD (R396) -/

/-- Counting of ISO 11898-1: ERROR PASSIVE while a counter exceeds 127. -/
def State.canPassive (s : State) (d n : Nat) : State :=
  s.setFld d .CAN_STATUS_PASSIVE n (b2n (decide (127 < s.fld d .CAN_STATUS_TEC n) || decide (127 < s.fld d .CAN_STATUS_REC n)))

/-- Data bytes that a data length code stands for. -/
def dlcBytes (n : Nat) : Nat := if n ≤ 8 then n else if n ≤ 12 then 4 * (n - 6) else 16 * (n - 11)

/-- A controller that takes part in its bus. -/
def State.canRuns (s : State) (d n : Nat) : Bool :=
  s.blkUp d .CAN (0x4000 * n) && decide (s.fld d .CAN_CFG_EN n = 1) && decide (s.fld d .CAN_CFG_SRST n = 0) && decide (s.fld d .CAN_STATUS_BUSOFF n = 0)

/-- CAN_FRAME_RX (R396). The filters and the software's place in the FIFOs are message-RAM content whose layout the spec does not give: whether a frame
is accepted, into which FIFO, and how many elements software has taken before are free. -/
def execCanFrameRx (d n : Nat) (f : CanFrame) (s : State) : Out :=
  if ¬ s.hasDie d ∨ 4 ≤ n then .next s
  else if ¬ s.canRuns d n then .next s
  else if ¬ f.ok then .next ((s.addSat d .CAN_STATUS_REC n 1).canPassive d n)
  else
    let rec' := s.fld d .CAN_STATUS_REC n
    let (v, s0) := s.fresh
    let s1 := (s0.setFld d .CAN_STATUS_REC n (if 127 < rec' then 119 + v / 8 % 9 else rec' - 1)).canPassive d n
    if v % 2 = 0 then .next s1
    else
      let k := (d, n, v / 2 % 2)
      let held := lookupD s1.ports.canFifo k []
      let (w, s2) := s1.fresh
      let left := held.drop (w % (held.length + 1))
      if 32 ≤ left.length then .next (({ s2 with ports.canFifo := insertKV s2.ports.canFifo k left } : State).addSat d .CAN_STATUS_LOST n 1)
      else
        let e := leBytes 4 f.identFlags.toNat ++ leBytes 1 f.dlc ++ leBytes 3 0 ++ leBytes 8 (s2.tbNs (s2.fld d .CAN_CFG_TB n)) ++
          (f.data ++ List.replicate 64 0#8).take 64
        .next { s2 with ports.canFifo := insertKV s2.ports.canFifo k (left ++ [e]) }

/-- CAN_STATUS of R416 as a word. -/
def State.canStatus (s : State) (d n : Nat) : Nat :=
  b2n (s.blkBusy d (.can n)) * 2 ^ 31 + s.fld d .CAN_STATUS_BUSOFF n * 2 ^ 30 + s.fld d .CAN_STATUS_PASSIVE n * 2 ^ 29 +
    s.fld d .CAN_STATUS_LOST n * 2 ^ 16 + s.fld d .CAN_STATUS_TEC n * 2 ^ 8 + s.fld d .CAN_STATUS_REC n

/-- A byte of a CAN message RAM. -/
def State.canByte (s : State) (d off : Nat) : Byte := lookupD s.ports.canRam (d, off) 0#8
def State.canBytes (s : State) (d off n : Nat) : List Byte := (List.range n).map (fun i => s.canByte d (off + i))

/-- The transmit buffer that goes out next among those requested: the lowest identifier, the lower buffer on equality (R396). -/
def State.canNext (s : State) (d n requested : Nat) : Option Nat :=
  let ident (b : Nat) : Nat := leNat (s.canBytes d (0x4000 * n + Config.canElement b) 4) % 2 ^ 29
  (List.range 16).foldl (fun best b =>
    if ¬ bit requested b then best
    else match best with
      | none => some b
      | some x => if ident b < ident x then some b else best) none

/-- CAN_FRAME_TX (R396): which buffers are requested is message-RAM control whose place the spec does not give, and free. -/
def execCanFrameTx (d n : Nat) (ok : Bool) (s : State) : Out :=
  if ¬ s.hasDie d ∨ 4 ≤ n then .next s
  else if ¬ s.canRuns d n then .next s
  else
    let (v, s0) := s.fresh
    match s0.canNext d n (v % 2 ^ 16) with
    | none => .next s0
    | some b =>
      let tec := s0.fld d .CAN_STATUS_TEC n
      if ok then
        let e := s0.canBytes d (0x4000 * n + Config.canElement b) 80
        let dlc := leAt e 4 1 % 16
        .next (((s0.setFld d .CAN_STATUS_TEC n (tec - 1)).canPassive d n).send (.can d n (leAt e 0 4) dlc (slice e 16 (dlcBytes dlc))))
      else
        let s1 := (s0.addSat d .CAN_STATUS_TEC n 8).canPassive d n
        if tec + 8 < 256 then .next s1
        else
          let s2 := s1.flag d .CAN_STATUS_BUSOFF n
          let h := s2.holder 0xC d n
          .next (s2.raise .canBusoff d h.toNat [(20, 1, n), (24, 4, s2.canStatus d n)] [h])

/-- The controller leaves bus-off with its counters at 0 (R396). -/
def State.canRejoin (s : State) (d n : Nat) : State :=
  s.setFlds d n [(.CAN_STATUS_BUSOFF, 0), (.CAN_STATUS_PASSIVE, 0), (.CAN_STATUS_TEC, 0), (.CAN_STATUS_REC, 0)]

/-- CAN_BUSOFF_REJOIN: 128 sequences of 11 recessive bits have been seen (R396). -/
def execCanBusoffRejoin (d n : Nat) (s : State) : Out :=
  if ¬ s.hasDie d ∨ 4 ≤ n then .next s
  else .next (if s.fld d .CAN_STATUS_BUSOFF n = 1 ∧ s.fld d .CAN_CFG_MANUAL n = 0 ∧ s.fld d .CAN_CFG_SRST n = 0 then s.canRejoin d n else s)

/-- Write of CAN_n_CFG (R396, R416): with MANUAL, a write of EN rejoins. -/
def wrCanCfg (m : Master) (d n data : Nat) (s : State) : State :=
  if s.otherHolds m 0xC d n then s
  else
    let t := s.setFlds d n [(.CAN_CFG_EN, bits data 31 31), (.CAN_CFG_SRST, bits data 30 30), (.CAN_CFG_FD, bits data 29 29),
      (.CAN_CFG_MANUAL, bits data 28 28), (.CAN_CFG_TB, bits data 26 24)]
    if s.fld d .CAN_STATUS_BUSOFF n = 1 ∧ s.fld d .CAN_CFG_MANUAL n = 1 ∧ bits data 31 31 = 1 then t.canRejoin d n else t

/-- Timing of CAN_n_BTR and CAN_n_DBTR, as CAN_SET and the register writes set it. -/
def State.canBtr (s : State) (d n v : Nat) : State :=
  s.setFlds d n [(.CAN_BTR_PRESC, bits v 31 24), (.CAN_BTR_TSEG1, bits v 23 16), (.CAN_BTR_TSEG2, bits v 15 8), (.CAN_BTR_SJW, bits v 7 0)]
def State.canDbtr (s : State) (d n v : Nat) : State :=
  s.setFlds d n [(.CAN_DBTR_PRESC, bits v 31 27), (.CAN_DBTR_TSEG1, bits v 26 22), (.CAN_DBTR_TSEG2, bits v 21 18), (.CAN_DBTR_SJW, bits v 17 14),
    (.CAN_DBTR_TDCO, bits v 6 0)]

/-- Writes of the timing registers (R416): ignored while EN is 1. The CAN slot has no BADCFG bit for the spec's flag to stand in. -/
def wrCanTiming (m : Master) (d n : Nat) (data : Bool) (v : Nat) (s : State) : State :=
  if s.otherHolds m 0xC d n ∨ s.fld d .CAN_CFG_EN n = 1 then s
  else if data then s.canDbtr d n v else s.canBtr d n v

/-- CAN_SET (R414). -/
def execCanSet (r : Req) (d n : Nat) (btr dbtr : Word) (s : State) : Out :=
  .next (s.serve r 0x0B10 (some d) (fun s =>
    if ¬ s.hasDie d ∨ 4 ≤ n then reply s .badMessage
    else if s.holder 0xC d n ≠ r.dom then reply s .denied
    else if s.fld d .CAN_CFG_EN n = 1 then reply s .busy
    else reply ((s.canBtr d n btr.toNat).canDbtr d n dbtr.toNat) .ok))

/-! UARTs (R397) -/

def State.uart (s : State) (d n : Nat) : UartState := lookupD s.ports.uart (d, n) ⟨[], [], false⟩
def State.setUart (s : State) (d n : Nat) (u : UartState) : State := { s with ports.uart := insertKV s.ports.uart (d, n) u }

/-- UART_CHARACTER (R397). A character for a full FIFO is lost; the spec has no status for it. -/
def execUartCharacter (d n : Nat) (ev : UartEvent) (s : State) : Out :=
  if ¬ s.hasDie d ∨ 4 ≤ n then .next s
  else if ¬ (s.blkUp d .UART (0x4000 * n) ∧ s.fld d .UART_CFG_EN n = 1) then .next s
  else
    let u := s.uart d n
    let char (c : Nat) : Nat := c % (if s.fld d .UART_CFG_BITS8 n = 1 then 256 else 128)
    match ev with
    | .received c => .next (if u.de ∨ 64 ≤ u.rx.length then s else s.setUart d n { u with rx := u.rx ++ [char c] })
    | .loaded c => .next (if 64 ≤ u.tx.length then s else s.setUart d n { u with tx := u.tx ++ [c % 256] })
    | .startSending =>
      (match u.tx with
      | [] => .next s
      | c :: cs => .next ((s.setUart d n { u with tx := cs, de := decide (s.fld d .UART_CFG_RS485 n = 1) }).send (.uart d n (char c))))
    | .stopSent => .next (if u.tx = [] then s.setUart d n { u with de := false } else s)

/-- UART_n_CFG from its image (R416). -/
def State.uartCfg (s : State) (d n v : Nat) : State :=
  s.setFlds d n [(.UART_CFG_EN, bits v 31 31), (.UART_CFG_RS485, bits v 30 30), (.UART_CFG_PARITY, bits v 29 28), (.UART_CFG_BITS8, bits v 27 27),
    (.UART_CFG_STOP2, bits v 26 26), (.UART_CFG_DE_LEAD, bits v 25 22), (.UART_CFG_DE_TAIL, bits v 21 18), (.UART_CFG_DIV, bits v 17 2),
    (.UART_CFG_DIVF_HI, bits v 1 0)]

/-- Writes of the UART registers (R6, R416). -/
def wrUartCfg (m : Master) (d n v : Nat) (s : State) : State := if s.otherHolds m 0xD d n then s else s.uartCfg d n v
def wrUartFrac (m : Master) (d n v : Nat) (s : State) : State := if s.otherHolds m 0xD d n then s else s.setFld d .UART_FRAC_DIVF_LO n (v % 4)

/-- UART_SET (R414). -/
def execUartSet (r : Req) (d n : Nat) (cfg : Word) (s : State) : Out :=
  .next (s.serve r 0x0B11 (some d) (fun s =>
    if ¬ s.hasDie d ∨ 4 ≤ n then reply s .badMessage
    else if s.holder 0xD d n ≠ r.dom then reply s .denied
    else reply (s.uartCfg d n cfg.toNat) .ok))

/-! MVB (R398) -/

def State.mvb (s : State) (d : Nat) : MvbState := lookupD s.ports.mvb d ⟨0, 0, 1, 0, false, [], []⟩
def State.setMvb (s : State) (d : Nat) (v : MvbState) : State := { s with ports.mvb := insertKV s.ports.mvb d v }

/-- MVB_TELEGRAM (R398). The port index, the periodic list and the rings lie in traffic memory whose layout the spec does not give: whether a logical
address is served, what a list entry asks for and the message that leaves are free. -/
def execMvbTelegram (d : Nat) (t : MvbTelegram) (s : State) : Out :=
  if ¬ s.hasDie d ∨ 2 ≤ d then .next s
  else if ¬ s.blkUp d .MVB 0 then .next s
  else
    let v := s.mvb d
    match t with
    | .processReceived a f bs =>
      let (x, s1) := s.fresh
      .next (if 4096 ≤ a ∨ 4 < f ∨ bs.length ≠ 2 ^ (f + 1) then s
        else if x % 2 = 0 ∨ (1024 ≤ v.ports.length ∧ (lookup? v.ports a).isNone) then s1
        else s1.setMvb d { v with ports := insertKV v.ports a (bs, s.tbNs 0) })
    | .processSent a =>
      (match lookup? v.ports a with
      | some (bs, _) => .next (s.send (.mvb d bs))
      | none => .next s)
    | .messageReceived bs => .next ((s.retryEnds d 8).setMvb d { v with inbox := v.inbox ++ [bs] })
    | .messageSent =>
      let (x, s1) := s.fresh
      .next ((s1.retryEnds d 8).send (.mvb d (leBytes 32 x)))
    | .masterFrame e =>
      let (x, s1) := s.fresh
      .next (if v.role = 1 ∧ v.isMaster ∧ e < 1024 then s1.send (.mvb d (leBytes 2 x)) else s)
    | .mastership take => .next (if v.role = 1 then s.setMvb d { v with isMaster := take } else s)

/-- MVB_SET (R414): the bus administrator runs while it is the bus master. -/
def execMvbSet (r : Req) (d role pair periodMs addr : Nat) (s : State) : Out :=
  .next (s.serve r 0x0B12 (some d) (fun s =>
    let v := s.mvb d
    if ¬ s.hasDie d ∨ 2 ≤ d ∨ 2 ≤ role ∨ 2 ≤ pair ∨ (periodMs ≠ 1 ∧ periodMs ≠ 2) ∨ 4096 ≤ addr then reply s .badMessage
    else if s.holder 0xE d 0 ≠ r.dom then reply s .denied
    else if v.role = 1 ∧ v.isMaster then reply s .busy
    else reply (s.setMvb d { v with role := role, pair := pair, periodMs := periodMs, addr := addr }) .ok))

/-! PCI Express links (R399 to R401, R403) -/

def State.pcie (s : State) (c : Nat) : PcieState := lookupD s.ports.pcie c ⟨none, 0, 0, []⟩
def State.setPcieSt (s : State) (c : Nat) (p : PcieState) : State := { s with ports.pcie := insertKV s.ports.pcie c p }
def State.pcieUp (s : State) (c : Nat) : Bool := (s.pcie c).link.isSome

/-- Whether a controller is in service: enabled, or fixed by the code of DIE_0 before step 7 sets PCIE_CFG (R400, R401). -/
def State.pcieOn (s : State) (c : Nat) : Bool :=
  decide (s.fld c .PCIE_CFG_EN = 1) || (decide (c = 0) && decide (s.stepOf 0 < 7) && decide (s.fld 0 .RST_STATUS_BOOTSEL_EFF ∈ [3, 4, 5]))

/-- Whether a controller is a root port. -/
def State.pcieRoot (s : State) (c : Nat) : Bool :=
  decide (s.fld c .PCIE_CFG_ROLE = 1) || (decide (c = 0) && decide (s.stepOf 0 < 7) && decide (s.fld 0 .RST_STATUS_BOOTSEL_EFF = 5))

/-- PCIE_LINK_TRAINING: training ends with a width and a rate, or the link goes down (R399, R401). -/
def execPcieLinkTraining (c : Nat) (trained : Option (Nat × Nat)) (s : State) : Out :=
  if ¬ s.hasDie c ∨ 2 ≤ c then .next s
  else
    match trained with
    | none => .next (s.setPcieSt c { s.pcie c with link := none })
    | some (w, rate) =>
      .next (if s.pcieOn c ∧ s.groupUp c 16 ∧ 5 ≤ s.stepOf c ∧ w ∈ [1, 2, 4, 8] ∧ rate < 5 then s.setPcieSt c { s.pcie c with link := some (w, rate) }
        else s)

/-- PCIE_AER_ERROR (R403): recorded with its header log, with EV_PCIE_AER to PF_0. -/
def execPcieAerError (c : Nat) (uncorrectable correctable : Word) (header : List Word) (s : State) : Out :=
  if ¬ s.hasDie c ∨ 2 ≤ c then .next s
  else if ¬ s.pcieUp c then .next s
  else
    let p := s.pcie c
    let u := Nat.lor p.uncorrectable uncorrectable.toNat
    let k := Nat.lor p.correctable correctable.toNat
    let s1 := s.setPcieSt c { p with uncorrectable := u, correctable := k,
                                     header := if p.uncorrectable = 0 ∧ uncorrectable.toNat ≠ 0 then header.map (fun w => w.toNat) else p.header }
    .next (s1.raise .pcieAer c 0 [(20, 1, c), (24, 4, u), (28, 4, k)] [0])

/-- Whether PCIE_SET and PCIE_CFG set the role of a controller (R400). -/
def State.roleFixed (s : State) (c : Nat) : Bool := decide (c = 0) && decide (s.fld 0 .RST_STATUS_BOOTSEL_EFF ∈ [3, 4, 5])

/-- Write of PCIE_CFG (R400, R416). The PCIE slot has no BADCFG bit for the spec's flag to stand in. -/
def wrPcieCfg (m : Master) (d data : Nat) (s : State) : State :=
  s.guarded m d .PCIE 0 (fun t =>
    if t.pcieUp d then t
    else t.setFlds d 0 [(.PCIE_CFG_EN, bits data 31 31), (.PCIE_CFG_ROLE, if t.roleFixed d then t.fld d .PCIE_CFG_ROLE else bits data 30 30),
      (.PCIE_CFG_REFCLK_OUT, bits data 29 28), (.PCIE_CFG_WIDTH, bits data 27 26), (.PCIE_CFG_RATE, bits data 25 23)])

/-- PCIE_SET (R400, R414). -/
def execPcieSet (r : Req) (c role width rate : Nat) (s : State) : Out :=
  .next (s.serve r 0x0B20 (some c) (fun s =>
    if 2 ≤ c ∨ ¬ s.hasDie c ∨ 2 ≤ role ∨ 4 ≤ width ∨ 5 ≤ rate then reply s .badMessage
    else if ¬ s.manager r.dom then reply s .denied
    else if s.pcieUp c then reply s .busy
    else reply (s.setFlds c 0 [(.PCIE_CFG_ROLE, if c = 1 then role else s.fld c .PCIE_CFG_ROLE), (.PCIE_CFG_WIDTH, width), (.PCIE_CFG_RATE, rate)]) .ok))

/-! Mirsia (R20, R404) -/

/-- The die at the far end of a Mirsia port, and its port there (R20). -/
def farEnd (dies d link : Nat) : Nat × Nat :=
  if dies = 8 then (Nat.xor d (2 ^ link), link)
  else if dies = 4 then let b := if link < d then link else link + 1; (b, portTo 4 b d 0)
  else (1 - d, link)

/-- MIRSIA_RETRAIN (R404): every retrain is counted; after the third that fails within 1 ms the link is down, a loss of Class S work (R448). -/
def execMirsiaRetrain (d link : Nat) (ok : Bool) (lanes : Nat) (s : State) : Out :=
  if ¬ s.hasDie d ∨ 3 ≤ link then .next s
  else if ¬ s.groupUp d 13 ∨ s.fld d .MIRSIA_STATUS_DOWN link = 1 then .next s
  else
    let s1 := ((s.addSat d .MIRSIA_STATUS_RETRAINS link 1).titheAdd (titheDie d 0x242) 1).raise .mirsiaRetrain d 0xFF00 [(20, 1, link), (21, 1, lanes)] [fwDom, 0]
    if ok then
      .next ({ s1.addSat d .MIRSIA_STATUS_REPAIRED link lanes with ports.retrains := eraseK s1.ports.retrains (d, link) })
    else
      let t := s.now
      let fails := ((lookupD s1.ports.retrains (d, link) []).filter (fun x => decide (t < x + 1000000))) ++ [t]
      if fails.length < 3 then .next { s1 with ports.retrains := insertKV s1.ports.retrains (d, link) fails }
      else
        let (b, l) := farEnd s.part.dies d link
        let s2 := (({ s1 with ports.retrains := eraseK s1.ports.retrains (d, link) } : State).setFlds d link
            [(.MIRSIA_STATUS_UP, 0), (.MIRSIA_STATUS_DOWN, 1)]).setFlds b l [(.MIRSIA_STATUS_UP, 0), (.MIRSIA_STATUS_DOWN, 1)]
        let s3 := s2.raise .mirsiaDown d 0xFF00 [(20, 1, link)] [fwDom, 0]
        let silos := s3.classSOf [d, b]
        .next (if silos = [] then s3 else s3.source { src := 8, die := d } silos)

/-! xSPI (R405) -/

/-- XSPI_COMMAND: a guarded command moves up to 4 KiB between flash and memory by DMA. Programming clears bits and erasing sets them, as NOR flash does;
the spec leaves the device to the command. A transfer that meets an uncorrectable error ends there (R149): nothing is programmed. -/
def execXspiCommand (m : Master) (c : XspiCmd) (s : State) : Out :=
  .next (match s.refusal m 0 (blkBase .XSPI) with
  | some (t, at') => s.busError at' t (regAddr 0 .XSPI 0) m true
  | none => ({ s with access := .done } : State).guarded m 0 .XSPI 0 (fun t =>
    let dma := ioMaster 0 9
    let inFlash (cs a n : Nat) : Bool := decide (cs < 2) && decide (0 < n) && decide (n ≤ 4096) && decide (a + n ≤ 2 ^ 32)
    match c with
    | .read cs fa ma n =>
      if ¬ inFlash cs fa n then t
      else (match t.memRefusal dma ma n with
        | some (ty, at') => t.fabLog at' false ty ma dma true
        | none => (t.retryEnds 0 9).store (agentOf dma) ma (t.flashBytes (cs * 2 ^ 32 + fa) n))
    | .program cs fa ma n =>
      if ¬ inFlash cs fa n then t
      else (match t.memRefusal dma ma n with
        | some (ty, at') => t.fabLog at' false ty ma dma false
        | none =>
          let base := cs * 2 ^ 32 + fa
          let u := (t.retryEnds 0 9).wake ma n
          match t.poisoned ma n with
          | some g => u.readUe g (agentOf dma)
          | none => u.putFlash base ((t.flashBytes base n).zipWith (fun x y => x &&& y) (t.seen ma n)))
    | .erase cs fa n => if cs < 2 ∧ fa + n ≤ 2 ^ 32 then t.eraseFlash (cs * 2 ^ 32 + fa) n else t))

/-! The Field bridge (R406, R409, R411) -/

/-- Domain that owns a master, for EV_POSTED_WRITE_ERR (R409). -/
def masterOwner (m : Master) : Dom :=
  match m.kind with
  | .ap => BitVec.ofNat 16 (0x1000 + 4 * m.die + m.index)
  | .pcie => 0
  | .core => m.dom
  | _ => fwDom

/-- A posted write fails on the far side (R409): the log takes it and EV_POSTED_WRITE_ERR is raised, or only the overflow count rises. -/
def State.pwFail (s : State) (d addr : Nat) (m : Master) (be cause : Nat) : State :=
  if s.fld d .FBR_STATUS_PWERR = 1 then s.addSat d .FBR_ERR_OVERFLOW_COUNT 0 1
  else
    let s1 := s.setFlds d 0 [(.FBR_ERR_ADDR_ADDR, addr), (.FBR_ERR_INFO_MASTER, masterId m), (.FBR_ERR_INFO_BE, be), (.FBR_ERR_INFO_CAUSE, cause),
      (.FBR_STATUS_PWERR, 1)]
    s1.raise .postedWriteErr d (masterId m) [(20, 6, addr), (26, 1, be), (27, 1, cause)] [masterOwner m, fwDom]

/-- FBR_HEAD_ON_RETRY: a peripheral-side access receives RETRY; after 64 in a row the next attempt receives an error response (R411). -/
def execFbrHeadOnRetry (d engine : Nat) (s : State) : Out :=
  if ¬ s.hasDie d ∨ 10 ≤ engine then .next s
  else
    let n := lookupD s.ports.retries (d, engine) 0
    .next (if n < 64 then { s with ports.retries := insertKV s.ports.retries (d, engine) (n + 1) }
      else ({ s with ports.retries := eraseK s.ports.retries (d, engine) } : State).setFlds d 0
        [(.FBR_STATUS_LIVELOCK, 1), (.FBR_LL_MASTER_MASTER, masterId (ioMaster d engine))])

/-- FBR_STATUS of R415 as a word. -/
def State.fbrStatus (s : State) (d : Nat) : Nat :=
  s.fld d .FBR_STATUS_BADCFG * 16 + s.fld d .FBR_SEM_HELD * 8 + s.fld d .FBR_STATUS_SEM_TIMEOUT * 4 + s.fld d .FBR_STATUS_LIVELOCK * 2 +
    s.fld d .FBR_STATUS_PWERR

/-- FBR_QUERY (R414): RELEASE 1 then releases the log. -/
def execFbrQuery (r : Req) (d release : Nat) (s : State) : Out :=
  .next (s.serve r 0x0B30 (some d) (fun s =>
    if ¬ s.hasDie d ∨ 2 ≤ release then reply s .badMessage
    else if release = 1 ∧ ¬ s.manager r.dom then reply s .denied
    else
      let p := leBytes 4 (s.fbrStatus d) ++ leBytes 8 (s.fld d .FBR_ERR_ADDR_ADDR) ++
        leBytes 4 (s.fld d .FBR_ERR_INFO_CAUSE * 2 ^ 24 + s.fld d .FBR_ERR_INFO_BE * 2 ^ 16 + s.fld d .FBR_ERR_INFO_MASTER) ++
        leBytes 4 (s.fld d .FBR_ERR_OVERFLOW_COUNT) ++ leBytes 4 (s.fld d .FBR_LL_MASTER_MASTER)
      reply (if release = 1 then s.setFld d .FBR_STATUS_PWERR 0 0 else s) .ok p))

end Sys2Proof.Machine
end

