-- ==== Sys2Proof/Machine/Pins.lean ====
section
/-!
DEFINITION. Machine/Pins.lean: signal pins (R28 to R36, R44 to R47, R518, R519).
-/
namespace Sys2Proof.Machine

/-- Whether a column lies in one of some ranges. -/
def inCols (c : Nat) (rs : List (Nat × Nat)) : Bool := rs.any (fun r => decide (r.1 ≤ c) && decide (c ≤ r.2))

/-- Columns that carry signals, by block and row (R28). -/
def signalCols (b r : Nat) : List (Nat × Nat) :=
  match b, r with
  | 0, 0 | 0, 1 | 0, 2 | 0, 3 => [(0, 9), (12, 21)]
  | 0, 4 => [(0, 3), (6, 9), (12, 15), (18, 21)]
  | 0, 5 => [(0, 3), (6, 9), (12, 13)]
  | 0, 6 => [(0, 22)]
  | 0, 7 | 0, 8 => [(0, 15)]
  | 1, 0 | 1, 1 => [(0, 10), (12, 22)]
  | 1, 2 => [(0, 15), (18, 19), (21, 21)]
  | 1, 3 => [(0, 12), (14, 18), (20, 22)]
  | 1, 4 => [(0, 15), (17, 18), (20, 20), (22, 22)]
  | 1, 5 | 1, 6 => [(0, 15)]
  | 2, 0 => [(0, 15), (18, 19)]
  | 2, 1 => [(0, 15), (18, 20)]
  | 2, 2 => [(0, 2)]
  | _, _ => []

/-- Block, row and column of a pin index (R44). -/
def pinBlock (p : Nat) : Nat := p / 256
def pinRow (p : Nat) : Nat := p % 256 / 24
def pinCol (p : Nat) : Nat := p % 256 % 24

/-- Whether a die has a signal block (R27): common on every die, system on DIE_0, host on DIE_0 and DIE_1. -/
def hasBlock (d b : Nat) : Bool := decide (b = 0) || (decide (b = 1) && decide (d = 0)) || (decide (b = 2) && decide (d < 2))

/-- Whether a pin index of a die carries a signal. -/
def hasSignal (d p : Nat) : Bool := hasBlock d (pinBlock p) && inCols (pinCol p) (signalCols (pinBlock p) (pinRow p))

/-- Whether a pin is a GPIO, rows 7 and 8 of the common block. -/
def isGpio (p : Nat) : Bool := (decide (168 ≤ p) && decide (p < 184)) || (decide (192 ≤ p) && decide (p < 208))

/-- Number of a GPIO pin. -/
def gpioNum (p : Nat) : Nat := if p < 184 then p - 168 else p - 176

/-- SAFE_OUT_0_N and SAFE_OUT_1_N. -/
def isSafeOut (d p : Nat) : Bool := decide (d = 0) && (decide (p = 372) || decide (p = 374))

/-- ODO_A, ODO_B and ODO_Z pins: system row 4, columns 0 to 11. -/
def isOdoPin (d p : Nat) : Bool := decide (d = 0) && decide (352 ≤ p) && decide (p < 364)

/-- MIRROR pins: system row 2, columns 0 to 15. -/
def isMirrorPin (d p : Nat) : Bool := decide (d = 0) && decide (304 ≤ p) && decide (p < 320)

/-- TRIG_OUT_n of a pin of DIE_0. -/
def trigOutNum (d p : Nat) : Option Nat :=
  if d ≠ 0 then none
  else if 376 ≤ p ∧ p < 392 then some (p - 376) else if 400 ≤ p ∧ p < 416 then some (p - 400 + 16) else none

/-- Pins that a claim of another type covers (R341, R366, R382, R414): DP port of a head, CSI receiver, TRIG_OUT of a trigger, Ethernet port
(KR_0, KR_1, USX_0 to USX_3 in that order), CAN, UART and MVB controller. -/
def resPins (ty i : Nat) : List Nat :=
  match ty with
  | 3 => rangeFrom (256 + 24 * (i / 2) + 12 * (i % 2)) 11
  | 5 => rangeFrom (24 * (i / 2) + 12 * (i % 2)) 10
  | 9 => [if i < 16 then 376 + i else 400 + (i - 16)]
  | 0xB => if i < 4 then rangeFrom (96 + 6 * i) 4 else if i < 6 then rangeFrom (120 + 6 * (i - 4)) 4 else []
  | 0xC => rangeFrom (144 + 2 * i) 2
  | 0xD => rangeFrom (152 + 3 * i) 3
  | 0xE => rangeFrom 560 3
  | _ => []

/-- How many resources of a covering type a die has. -/
def coverCount : Nat → Nat
  | 3 => 4 | 5 => 8 | 9 => 32 | 0xB => 6 | 0xC => 4 | 0xD => 4 | 0xE => 1 | _ => 0

/-- The covering resource of a pin, if there is one. -/
def coverOf (d p : Nat) : Option (Nat × Nat) :=
  ([3, 5, 9, 0xB, 0xC, 0xD, 0xE].filterMap (fun ty =>
    if (ty = 3 ∨ ty = 9) ∧ d ≠ 0 ∨ ty = 0xE ∧ 2 ≤ d then none
    else ((List.range (coverCount ty)).find? (fun i => decide (p ∈ resPins ty i))).map (fun i => (ty, i)))).head?

/-- The holder of a pin: of its own claim, or of the claim that covers it (R6). -/
def State.pinHolder (s : State) (d p : Nat) : Dom :=
  match lookup? s.pins.claims (1, d, p) with
  | some (h, _) => h
  | none => match coverOf d p with
    | some (ty, i) => s.holder ty d i
    | none => 0xFFFF

/-- Whether R36 refuses a value of FUNC: a reserved one, or 3 on GPIO_16 to GPIO_31. -/
def funcReserved (p f : Nat) : Bool := decide (3 < f) || (decide (f = 3) && isGpio p && decide (16 ≤ gpioNum p))

/-- Whether FUNC is ignored at a pin (R36, R45): a value that R36 refuses, or any but zero on a pin that is no GPIO. -/
def funcRefused (p f : Nat) : Bool := funcReserved p f || (decide (f ≠ 0) && !isGpio p)

/-- The fields of a PINCFG image take effect (R36, R45, R46). -/
def State.pinSet (s : State) (d p img : Nat) : State :=
  let s1 := if isGpio p then s.setFlds d p [(.PINCFG_OUT, bits img 13 13), (.PINCFG_OE, bits img 12 12)] else s
  let s2 := s1.setFlds d p [(.PINCFG_FILTER, bits img 11 8), (.PINCFG_SLEW, bits img 5 4)]
  let s3 := if bits img 7 6 = 3 then s2 else s2.setFld d .PINCFG_PULL p (bits img 7 6)
  if funcRefused p (bits img 3 0) then s3.flag d .PINMUX_STATUS_BADSEL else s3.setFld d .PINCFG_FUNC p (bits img 3 0)

/-- A write to another domain's pin is ignored and recorded (R6, R45). -/
def State.pinConflict (s : State) (d p : Nat) : State :=
  let s1 := if s.fld d .PINMUX_STATUS_CONFLICT = 0 then s.setFld d .PINMUX_STATUS_PIN 0 p else s
  s1.flag d .PINMUX_STATUS_CONFLICT

/-- Write of PINCFG_p (R45). -/
def wrPincfg (m : Master) (d p data : Nat) (s : State) : State :=
  if ¬ hasSignal d p then s
  else
    let h := s.pinHolder d p
    if h ≠ noDom ∧ h ≠ writerOf m then s.pinConflict d p else s.pinSet d p data

/-- Write of PINMUX_OVR (R45, R47). -/
def wrPinmuxOvr (m : Master) (d data : Nat) (s : State) : State :=
  s.guarded m d .PINMUX 0x10 (fun t =>
    let p := bits data 9 0
    let st := bits data 13 12
    if ¬ hasSignal d p then t.flag d .PINMUX_STATUS_BADSEL
    else if isSafeOut d p ∧ st ≠ 3 then t
    else
      let o := if bits data 15 15 = 1 then insertKV t.pins.ovr (d, p) st else eraseK t.pins.ovr (d, p)
      ({ t with pins.ovr := o }.setFld d .PINMUX_OVR_PIN 0 p).setFld d .PINMUX_STATUS_OVR_ACTIVE 0 (b2n (o.any (fun e => decide (e.1.1 = d)))))

/-- The pins that a code enables before AP release, as the BOOTSEL default of its row (R43): xSPI and JTAG under every code; MIRROR, the PCI Express pins of
the host block of DIE_0, or UART_0 of DIE_0 by the code. -/
def codeEnables (code : Option Nat) (d p : Nat) : Bool :=
  decide (d = 0) && ((decide (328 ≤ p) && decide (p ≤ 340)) || (decide (342 ≤ p) && decide (p ≤ 346)) ||
    (match code with
    | some 0 | some 1 | some 2 | some 6 => isMirrorPin d p
    | some 3 | some 4 | some 5 => decide (pinBlock p = 2) && decide (pinRow p < 2)
    | some 7 | some 14 => decide (152 ≤ p) && decide (p ≤ 154)
    | _ => false))

/-- Whether the BOOTSEL defaults enable a pin now: after the fuse map, by the code in force (R43). -/
def State.bootEnables (s : State) (d p : Nat) : Bool := decide (d ∈ s.pins.applied) && codeEnables s.pins.bootCode d p

/-- Whether a pin is CSI_n_L9 of a receiver in C-PHY mode: unused, Hi-Z, its termination off (R29). -/
def State.cphyUnused (s : State) (d p : Nat) : Bool :=
  match coverOf d p with
  | some (5, i) => decide (p = 24 * (i / 2) + 12 * (i % 2) + 9) && decide (s.fld d .CSI_PHY_MODE i = 2)
  | _ => false

/-- What a pin's peripheral drives while it is enabled (R43, R45, R396 to R398): nothing, or a level, which is open where its bits are not part of the state.
xSPI and CAN and UART transmitters show their level between transfers; the driver enables follow their transmitters. -/
def State.periphOut (s : State) (d p : Nat) : Option (Option Bool) :=
  if 328 ≤ p ∧ p ≤ 340 then
    (if ¬ s.bootEnables d p then none else if 338 ≤ p then some (some true) else if p = 328 then some none else none)
  else if 144 ≤ p ∧ p < 152 then (if p % 2 = 0 ∧ s.fld d .CAN_CFG_EN ((p - 144) / 2) = 1 then some (some true) else none)
  else if 152 ≤ p ∧ p < 164 then
    let n := (p - 152) / 3
    if s.fld d .UART_CFG_EN n = 0 ∧ ¬ s.bootEnables d p then none
    else
      match (p - 152) % 3 with
      | 0 => some (some true)
      | 1 => none
      | _ => if s.fld d .UART_CFG_RS485 n = 1 then some (some (lookupD s.ports.uart (d, n) ⟨[], [], false⟩).de) else none
  else if p = 560 ∨ p = 562 then (if (lookup? s.ports.mvb d).isSome then some (if p = 562 then some false else none) else none)
  else if isMirrorPin d p then (if p % 4 < 2 ∧ (s.fld 0 .MIRROR_CFG_EN = 1 ∨ s.bootEnables d p) then some none else none)
  else if 96 ≤ p ∧ p < 132 then (if (p - 96) % 6 < 2 ∧ s.fld d .ETH_PORT_CFG_EN ((p - 96) / 6) = 1 then some none else none)
  else if 256 ≤ p ∧ p < 304 then (if pinCol p % 12 < 8 ∧ s.fld 0 .HEAD_CTRL_EN (2 * pinRow p + pinCol p / 12) = 1 then some none else none)
  else if 512 ≤ p ∧ p < 528 then (if s.fld d .PCIE_CFG_EN = 1 ∨ s.bootEnables d p then some none else none)
  else none

/-- What the part drives at a pad (R29, R32, R35, R42, R45, R47, R382, R383, R443): nothing, or a level, which may be open. A pin that its function does not
drive follows its fuse code. -/
def State.driven (s : State) (d p : Nat) : Option (Option Bool) :=
  match lookup? s.pins.ovr (d, p) with
  | some 3 => some (some false)
  | some _ => none
  | none =>
    if d ∉ s.pins.applied ∨ s.cphyUnused d p then none
    else if d = 0 ∧ (p = 372 ∨ p = 374) then some (some (if p = 372 then s.safeOut0 else s.safeOut1))
    else if isGpio p then
      (match s.fld d .PINCFG_FUNC p with
       | 0 => if s.fld d .PINCFG_OE p = 1 then some (some (decide (s.fld d .PINCFG_OUT p = 1))) else none
       | 1 => (s.trigOut (gpioNum p)).map some
       | _ => none)
    else
      let own : Option (Option Bool) :=
        if d = 0 ∧ p = 370 then (if s.fld 0 .PPS_OUT_CFG_EN = 1 then some (some (decide (0 < s.time.ppsLeft))) else none)
        else match trigOutNum d p with
          | some n => (s.trigOut n).map some
          | none => s.periphOut d p
      match own with
      | some l => some l
      | none => if s.fld d .PINCFG_OE p = 1 then some (some false) else none

/-- Whether a differential receiver's termination is on at a pin (R29, R32, R48): off before the fuse map is applied, while its receiver or port is disabled, and at
CSI_n_L9 in C-PHY mode. -/
def State.terminated (s : State) (d p : Nat) : Bool :=
  decide (d ∈ s.pins.applied) && !s.cphyUnused d p &&
  (match coverOf d p with
  | some (5, i) => decide (s.fld d .CSI_PHY_MODE i ≠ 0)
  | some (0xB, i) => decide (2 ≤ (p - 96) % 6) && decide (s.fld d .ETH_PORT_CFG_EN i = 1)
  | _ => (isMirrorPin d p && decide (2 ≤ p % 4) && (decide (s.fld 0 .MIRROR_CFG_EN = 1) || s.bootEnables d p)) ||
    (decide (d < 2) && decide (536 ≤ p) && decide (p < 552) && (decide (s.fld d .PCIE_CFG_EN = 1) || s.bootEnables d p)))

/-- The pull at a pad: of the override, or PINCFG.PULL once the fuse map is applied. -/
def State.pull (s : State) (d p : Nat) : Nat :=
  match lookup? s.pins.ovr (d, p) with
  | some st => if st = 3 then 0 else st
  | none => if d ∈ s.pins.applied ∧ ¬ s.cphyUnused d p then s.fld d .PINCFG_PULL p else 0

/-- The level at a pad, if it is determined: none when it floats or when the board drives against the part (R45, R519). -/
def State.padLevel (s : State) (d p : Nat) : Option Bool :=
  match s.driven d p, lookup? s.pins.pad (d, p) with
  | some v, some b => if v = some b then v else none
  | some v, none => v
  | none, some b => some b
  | none, none => match s.pull d p with
    | 1 => some true
    | 2 => some false
    | _ => none

/-- PINCFG.IN, with a free value where the level is not determined. -/
def State.pinIn (s : State) (d p : Nat) : Nat :=
  match s.padLevel d p with
  | some v => b2n v
  | none => Config.free s.free % 2

/-- PINCFG.OE as it reads: the stored field on a GPIO pin, whether the part drives the pad on any other (R45). -/
def State.pinOe (s : State) (d p : Nat) : Nat :=
  if isGpio p then s.fld d .PINCFG_OE p else b2n (s.driven d p).isSome

/-- PINCFG.OWNER: the holder, which firmware of the die writes back at step 10 (R6, R45). -/
def State.pinOwner (s : State) (d p : Nat) : Dom := if s.stepOf d < 10 then noDom else s.pinHolder d p

/-- The PINCFG image of a pin (R45); reading an undetermined pad uses up one free value. -/
def State.pinImage (s : State) (d p : Nat) : Nat :=
  if ¬ hasSignal d p then 0
  else
    (s.pinOwner d p).toNat * 2 ^ 16 + s.pinIn d p * 2 ^ 14 + s.fld d .PINCFG_OUT p * 2 ^ 13 + s.pinOe d p * 2 ^ 12 +
    s.fld d .PINCFG_FILTER p * 2 ^ 8 + s.fld d .PINCFG_PULL p * 2 ^ 6 + s.fld d .PINCFG_SLEW p * 2 ^ 4 + s.fld d .PINCFG_FUNC p

/-- Advance the free values. -/
def State.useFree (s : State) : State := { s with free := s.free + 1 }

/-- A pin returns to its fuse code and FUNC 0; a SAFE_OUT pin is then driven low (R42). -/
def State.pinDefault (s : State) (d p : Nat) : State :=
  (if isSafeOut d p ∧ p ∉ s.pins.released then { s with pins.released := s.pins.released ++ [p] } else s).restore (fun k => decide (k.die = d) && decide (k.i = p) && (match k.fld with
    | .PINCFG_OUT | .PINCFG_OE | .PINCFG_FILTER | .PINCFG_PULL | .PINCFG_SLEW | .PINCFG_FUNC | .PINCFG_OWNER => true
    | _ => false))

/-- PINCFG_WRITE. -/
def execPincfgWrite (m : Master) (d p : Nat) (data : Word) (s : State) : Out :=
  if ¬ s.hasDie d ∨ 768 ≤ p then .next s
  else .next (s.regWrite m d .PINMUX (0x1000 + 4 * p) data (wrPincfg m d p data.toNat))

/-- PINMUX_OVR_WRITE. -/
def execPinmuxOvrWrite (m : Master) (d : Nat) (data : Word) (s : State) : Out :=
  .next (s.regWrite m d .PINMUX 0x10 data (wrPinmuxOvr m d data.toNat))

/-- PIN_CONFIG (R518). -/
def execPinConfig (r : Req) (d p : Nat) (image : Word) (s : State) : Out :=
  .next (s.serve r 0x0102 (some d) (fun s =>
    if ¬ s.hasDie d ∨ ¬ hasSignal d p ∨ 2 ^ 14 ≤ image.toNat ∨ funcReserved p (bits image.toNat 3 0) then reply s .badMessage
    else if s.pinHolder d p = noDom then reply s .denied
    else if s.pinHolder d p ≠ r.dom then reply s .conflict
    else
      let s1 := s.pinSet d p image.toNat
      reply s1.useFree .ok (leBytes 4 (s1.pinImage d p))))

/-- PIN_QUERY (R518). -/
def execPinQuery (r : Req) (d p : Nat) (s : State) : Out :=
  .next (s.serve r 0x0103 (some d) (fun s =>
    if ¬ s.hasDie d ∨ ¬ hasSignal d p then reply s .badMessage
    else reply s.useFree .ok (leBytes 4 (s.pinImage d p) ++ leBytes 2 (s.pinHolder d p).toNat ++ leBytes 2 0)))

end Sys2Proof.Machine
end

