-- ==== Sys2Proof/Machine/Claims.lean ====
section
/-!
DEFINITION. Machine/Claims.lean: claiming and releasing resources (R6, R37 to R42, R289, R341, R366, R382, R388, R414, R517).
-/
namespace Sys2Proof.Machine

/-- Whether a die has a resource of a type and index: pins 1, silos 2, heads 3, streams 4, receivers 5, encoders 6, tachometers 7, time bases 8,
triggers 9, compare registers 10, Ethernet ports 11, CAN 12, UART 13, MVB 14 (R38, R289, R341, R366, R388, R414). -/
def State.hasResource (s : State) (ty d i : Nat) : Bool :=
  s.hasDie d && (match ty with
    | 1 => hasSignal d i
    | 2 => decide (i < 16)
    | 3 | 6 | 7 => decide (d = 0) && decide (i < 4)
    | 4 => decide (i < 128)
    | 5 => decide (i < 8)
    | 8 | 10 => decide (d = 0) && decide (i < 8)
    | 9 => decide (d = 0) && decide (i < 32)
    | 11 => decide (i < 6)
    | 12 | 13 => decide (i < 4)
    | 14 => decide (d < 2) && decide (i = 0)
    | _ => false)

/-- The MIRROR pins, which a claim of any of them covers (R41). -/
def mirrorPins : List Nat := (List.range 768).filter (isMirrorPin 0)

/-- The indices that a claim or release takes (R38, R41). DESIGN CHOICE (notes/assumptions/78): R41 extends a claim of one MIRROR pin to all sixteen, and the model
takes a RELEASE of one the same way, for its conflicts and for what it releases. -/
def rangeIndices (g : ResRange) : List Nat :=
  let l := rangeFrom g.index g.count
  if g.resType = 1 ∧ l.any (isMirrorPin g.die) then (mirrorPins.filter (fun p => decide (p ∉ l))).foldr (insertBy (fun a b => decide (a ≤ b))) l else l

/-- The domain that stands in the way of a claim: the holder of the resource, of a pin that it covers, or of the resource that covers the pin; TB_0 is
firmware's (R6, R341, R382, R388, R414). -/
def State.holderOf (s : State) (ty d i : Nat) : Dom :=
  if ty = 8 ∧ i = 0 then fwDom
  else if ty = 1 then s.pinHolder d i
  else
    match ((s.holder ty d i) :: (resPins ty i).map (fun p => s.holder 1 d p)).find? (fun h => decide (h ≠ noDom)) with
    | some h => h
    | none => noDom

/-- The first index of a range that another domain holds. -/
def State.conflictIn (s : State) (dom : Dom) (ty d : Nat) : List Nat → Option Nat
  | [] => none
  | i :: is => if s.holderOf ty d i = noDom ∨ s.holderOf ty d i = dom then s.conflictIn dom ty d is else some i

/-- The safety rule of a claim (R41, R289, R366): whether it is refused. -/
def State.safetyRefuses (s : State) (r : Req) (g : ResRange) : Bool :=
  match g.resType with
  | 1 => (rangeIndices g).any (fun p => isSafeOut g.die p || isOdoPin g.die p || isMirrorPin g.die p) &&
      (decide (g.cls ≠ 0) || !(decide (r.dom = fwDom) || s.holdsClassS r.dom))
  | 6 => decide (g.cls ≠ 0) || !(decide (r.dom = fwDom) || s.holdsClassS r.dom)
  | 2 => decide (g.cls = 0) && !s.granted r.dom
  | _ => false

/-- The CLAIM item of R312, in the payload layout of R38. -/
def claimItem (ty d i cls : Nat) : List Byte := leBytes 1 ty ++ leBytes 1 d ++ leBytes 2 i ++ leBytes 2 1 ++ leBytes 1 cls ++ leBytes 9 0

/-- One resource is granted, unless the claimant holds it already; a claim of a pin that the claimant's other claim covers, or that covers such a pin, is one
of its own (R40, R517). A silo takes the class of the claim and the default quantum (R289). -/
def State.grant (s : State) (dom : Dom) (ty d cls i : Nat) : State :=
  if (lookup? s.pins.claims (ty, d, i)).isSome then s
  else
    let s1 := { s with pins.claims := s.pins.claims ++ [((ty, d, i), (dom, cls))] }
    let s2 := if ty = 2 then s1.setFlds d i [(.SILO_CFG_CLASS, cls), (.SILO_TIME_QUANTUM, s.mail.quantum), (.SILO_STAT_HOLDER, dom.toNat)] else s1
    s2.mirrorChange dom [⟨5, 0, claimItem ty d i cls⟩]

/-- The buffers of a silo on a die: those whose bushels lie in its quota there. -/
def State.siloBufs (s : State) (d k : Nat) : List ((Nat × Nat × Nat) × BufEnt) :=
  s.memy.bufs.filter (fun e => e.2.valid && decide (e.1.2.1 = k) &&
    decide ((match memLoc s.part e.2.base with
      | some l => l.die
      | none => e.1.1) = d))

/-- A silo is given back (R290, R307): disabled at once with its sheaves cancelled, a pending SILO_SET or SILO_SPAN answered CONFLICT, its buffers returned once
no placed command names them, its scratch units and KV slots returned, its configuration that of a silo nobody holds. -/
def State.releaseSilo (s : State) (d k : Nat) : State :=
  let s1 := ((s.siloGone d k).setFld d .SILO_CFG_EN k 0).cancelWhere (fun id h => decide (id / 65536 = d) && decide (h.silo = k))
  let bufs := (s1.siloBufs d k).map (fun e => e.1)
  let s2 := ({ s1 with memy.released := s1.memy.released ++ bufs.filter (fun b => decide (b ∉ s1.memy.released))
                       memy.spills := s1.memy.spills.filter (fun e => !(decide (e.1.1 = d) && decide (e.1.2.1 = k)))
                       memy.scratch := eraseK s1.memy.scratch (d, k)
                       memy.kvAlloc := s1.memy.kvAlloc.filter (fun e => !(decide (e.1.1 = d) && decide (e.2.1 = k)))
                       q.silos := eraseK s1.q.silos (d, k)
                       safe.silent := s1.safe.silent.filter (fun x => decide (x ≠ (d, k)))
                       safe.rejoin := s1.safe.rejoin.filter (fun x => !(decide (x.1 = d) && decide (x.2.1 = k))) } : State).reap
  (s2.setFld d .LOFT_SCRATCH_USED k 0).restore (fun f => decide (f.die = d) && decide (f.i = k) && (match f.fld with
    | .SILO_CFG_EN | .SILO_CFG_CLASS | .SILO_CFG_HEAD | .SILO_CFG_PENDING | .SILO_CFG_SHARE | .SILO_CFG_G_MIN | .SILO_MASK_MASK
    | .SILO_TIME_QUANTUM | .SILO_TIME_LEAD | .SILO_TIME_WAIT_MAX | .SILO_STAT_SPAN | .SILO_STAT_RESERVE | .SILO_STAT_HOLDER
    | .SAFE_SILO_STAT_INVALID_RUN => true
    | _ => false))

/-- One resource is released (R42, R289): a pin, or the pins of a resource that covers pins, return to their fuse codes. -/
def State.ungrant (s : State) (ty d i : Nat) : State :=
  let h := s.holder ty d i
  let s1 := if ty = 2 then s.releaseSilo d i else s
  let s2 := { s1 with pins.claims := s1.pins.claims.filter (fun e => decide (e.1 ≠ (ty, d, i))) }
  let s3 := if ty = 1 then s2.pinDefault d i else (resPins ty i).foldl (fun t p => t.pinDefault d p) s2
  s3.mirrorChange h [⟨5, 0, claimItem ty d i 0xFF⟩]

/-- The response of CLAIM and RELEASE (R38, R517). -/
def State.claimReply (s : State) (h : Dom) (first : Nat) (g : ResRange) : List Byte :=
  leBytes 2 h.toNat ++ leBytes 2 first ++ leBytes 4 (if g.resType = 1 then s.pinImage g.die g.index else 0)

/-- Whether a range names only resources that the part has (R38, R40, R517). -/
def State.rangeOk (s : State) (g : ResRange) : Bool :=
  decide (1 ≤ g.count) && decide (g.count ≤ 768) && (rangeFrom g.index g.count).all (s.hasResource g.resType g.die)

/-- CLAIM (R37 to R41, R289). DESIGN CHOICE (notes/assumptions/79): a CLASS of 5 to 7, reserved by R21, is BAD_MESSAGE. -/
def execClaim (r : Req) (g : ResRange) (s : State) : Out :=
  .next (s.serve r 0x0100 (some g.die) (fun s =>
    if ¬ s.rangeOk g ∨ 4 < g.cls then reply s .badMessage
    else if s.safetyRefuses r g ∨ (s.major2 r ∧ g.cls = 0) then reply s .safetyLocked
    else
      match s.conflictIn r.dom g.resType g.die (rangeIndices g) with
      | some i => reply s .conflict (s.claimReply (s.holderOf g.resType g.die i) i { g with resType := 0 })
      | none =>
        let s1 := (rangeIndices g).foldl (fun t i => t.grant r.dom g.resType g.die g.cls i) s
        reply s1.useFree .ok (s1.claimReply r.dom g.index g)))

/-- RELEASE (R122, R517). -/
def execRelease (r : Req) (g : ResRange) (s : State) : Out :=
  .next (s.serve r 0x0101 (some g.die) (fun s =>
    if ¬ s.rangeOk g ∨ g.cls ≠ 0 then reply s .badMessage
    else if (s.subsetRefusal r false ((rangeIndices g).any (fun i => decide (s.holder g.resType g.die i ≠ noDom) && decide (s.claimClass g.resType g.die i = 0)))).isSome then
      reply s .safetyLocked
    else
      match s.conflictIn r.dom g.resType g.die (rangeIndices g) with
      | some i => reply s .conflict (s.claimReply (s.holderOf g.resType g.die i) i { g with resType := 0 })
      | none =>
        let s1 := (rangeIndices g).foldl (fun t i => if t.holder g.resType g.die i = r.dom then t.ungrant g.resType g.die i else t) s
        reply s1.useFree .ok (s1.claimReply r.dom g.index g)))

end Sys2Proof.Machine
end

