-- ==== Sys2Proof/Machine/Bundle.lean ====
section
/-!
DEFINITION. Machine/Bundle.lean: firmware bundles: their header, the tests of R472, key slots (R468, R469), measurement (R478), the firmware cores (R107).
-/
namespace Sys2Proof.Machine

/-- Whether a key slot is usable for a purpose: USE bit 0 firmware, 1 debug (R469). -/
def KeySlot.usable (k : KeySlot) (purpose : Nat) : Bool :=
  bit k.use purpose && !k.revoked && !(decide (k.ed = 0) && decide (k.mldsa = 0))

/-- A key slot by number. -/
def State.keySlot (s : State) (n : Nat) : KeySlot := (s.sec.keys[n]?).getD ⟨0, 0, 0, true⟩

/-- The SVN fuse counter: the number of blown bits (R468). -/
def State.svnCount (s : State) : Nat := popCount 64 s.sec.svn

/-- One entry of TABLE (R471). -/
def bundleEntry (h : List Byte) (i : Nat) : BundleImage :=
  let o := 0x10 + 64 * i
  ⟨leAt h o 1, leAt h (o + 4) 4, leAt h (o + 8) 4, leAt h (o + 12) 4, BitVec.ofNat 384 (leAt h (o + 16) 48)⟩

/-- Whether an entry is in range: kind, padding, place and size (R471). -/
def entryOk (h : List Byte) (i : Nat) : Bool :=
  let e := bundleEntry h i
  decide (e.kind ≤ 4) && decide (leAt h (0x11 + 64 * i) 3 = 0) && decide (e.offset % 0x10000 = 0) && decide (e.offset + e.length ≤ 0x1000000) &&
  decide (e.length ≤ if e.kind = 4 then 0xF00000 else 0x40000)

/-- The first test of R472: MAGIC, the ranges of the fields, and RECOVERY equal to the slot's purpose. -/
def formatOk (h : List Byte) (recovery : Bool) : Bool :=
  decide (leAt h 0 4 = 0x4C444E42) && decide (leAt h 0xC 1 ≤ 64) && decide (leAt h 0xD 1 ≤ 3) && decide (1 ≤ leAt h 0xE 1) &&
  decide (leAt h 0xE 1 ≤ 8) && decide (leAt h 0xF 1 = b2n recovery) && (List.range (leAt h 0xE 1)).all (entryOk h)

/-- Tests of R472 in order, on a bundle read by offset and length: the code of SEC_STATUS.LAST_FAIL of the first that fails, or what the header says. -/
def State.verify (s : State) (read : Nat → Nat → List Byte) (recovery : Bool) : Except Nat BundleInfo :=
  let h := read 0 0x4000
  if ¬ formatOk h recovery then .error 1
  else
    let k := s.keySlot (leAt h 0xD 1)
    let ed := slice h 0x210 32
    let ml := slice h 0x230 1952
    let signed := slice h 0 0x9D0
    if ¬ (k.usable 0 && decide (Config.sha384 ed = k.ed) && decide (Config.sha384 ml = k.mldsa)) then .error 2
    else if ¬ Config.ed25519Verifies ed signed (slice h 0x9D0 64) then .error 3
    else if ¬ Config.mldsaVerifies ml signed (slice h 0xA10 3309) then .error 3
    else if leAt h 0xC 1 < s.svnCount then .error 4
    else
      let images := (List.range (leAt h 0xE 1)).map (bundleEntry h)
      if images.all (fun e => decide (Config.sha384 (read e.offset e.length) = e.digest)) then
        .ok ⟨leAt h 4 4, leAt h 8 4, leAt h 0xC 1, Config.sha384 h, images⟩
      else .error 5

/-- Flash bases of the slots: A, B and recovery (R470). -/
def slotBase : Nat → Nat
  | 0 => 0x100000 | 1 => 0x1100000 | _ => 0x2100000

/-- Read a flash slot. -/
def State.readSlot (s : State) (slot off len : Nat) : List Byte := s.flashBytes (slotBase slot + off) len

/-- `a` is later than `b` in the serial-number arithmetic of R80. -/
def laterSeq (a b : Nat) : Bool :=
  let d := (a + 2 ^ 32 - b % 2 ^ 32) % 2 ^ 32
  decide (1 ≤ d) && decide (d ≤ 2 ^ 31 - 1)

/-- Extend a measurement register: MR = SHA-384(MR ‖ d) (R478). -/
def State.extend (s : State) (i : Nat) (d : BitVec 384) : State :=
  let old := lookupD s.sec.mr i 0
  { s with sec.mr := insertKV s.sec.mr i (Config.sha384 (leBytes 48 old.toNat ++ leBytes 48 d.toNat)) }

/-- Extend MR_1 with a bundle's header and MR_2 to MR_5 with its SEC, PMC, SCH and CCC images, or with one kind only (R478). -/
def State.measureBundle (s : State) (b : BundleInfo) (kinds : List Nat) : State :=
  let s1 := s.extend 1 b.header
  (b.images.filter (fun e => decide (e.kind < 4) && decide (e.kind ∈ kinds))).foldl (fun t e => t.extend (2 + e.kind) e.digest) s1

/-- MR_7 is extended with LC, BOOTSEL_EFF and the debug scopes (R478). -/
def State.measureDebug (s : State) : State :=
  s.extend 7 (Config.sha384 (leBytes 1 s.sec.lc ++ leBytes 1 (s.fld 0 .RST_STATUS_BOOTSEL_EFF) ++ leBytes 1 s.sec.dbgScopes))

/-- The number that stands for the seeds of all dies in die order and the label of R476. -/
def State.identity (s : State) : Nat :=
  (s.dieList.foldl (fun a d => a * 2 ^ 256 + lookupD s.sec.seeds d 0) 0) * 2 + b2n (decide (2 ≤ s.sec.lc))

/-- The part serial: the first eight bytes of the digest of the Ed25519 public key, big-endian (R476). -/
def State.serialBytes (s : State) : List Byte :=
  (leBytes 48 (Config.sha384 (leBytes 32 (Config.identityKey s.identity).toNat)).toNat).take 8
def State.serial (s : State) : Nat := leNat s.serialBytes.reverse

/-- Every firmware processor of the part, by kind: SEC, PMC, SCH of each die, CCC of each cluster. -/
def State.fwUnits (s : State) : List FwUnit :=
  (s.dieList.map (fun d => [(⟨0, d, 0⟩ : FwUnit), ⟨1, d, 0⟩, ⟨2, d, 0⟩] ++ (List.range 6).map (fun c => (⟨3, d, c⟩ : FwUnit)))).flatten

/-- Set the debug scopes that are open, and on every die whether debug is authenticated. -/
def State.setDbgAuth (s : State) (scopes : Nat) (v : Nat) : State :=
  s.dieList.foldl (fun t d => t.setFld d .SEC_STATUS_DBG_AUTH 0 v) { s with sec.dbgOpen := scopes }

/-- Raise EV_DEBUG_AUTH (R483). -/
def State.debugEvent (s : State) (ok scopes : Nat) : State := s.raise .debugAuth 0 320 [(20, 1, ok), (21, 1, scopes)] []

/-- The words of a debug response are complete: both signatures are verified (R480). -/
def State.judgeDebug (s : State) (a : DbgAuth) : State :=
  let s0 := { s with sec.dbg := none }
  let scopes := a.word % 8
  let sig := (a.words.map (leBytes 4)).flatten
  let msg := leBytes 32 a.challenge ++ s.serialBytes ++ leBytes 4 a.word
  let k := s.keySlot (a.word / 16 % 4)
  let allowed := decide (2 ≤ s.sec.lc) || decide (scopes < 4)
  if s.fld 0 .SEC_STATUS_DBG_LOCKOUT = 0 ∧ k.usable 1 ∧ allowed ∧ Config.dbgEd25519 k.ed msg (slice sig 0 64) ∧
      Config.dbgMldsa k.mldsa msg (slice sig 64 3309) then
    let s1 := { s0 with sec.dbgScopes := Nat.lor s0.sec.dbgScopes scopes }
    (s1.setDbgAuth (Nat.lor s1.sec.dbgOpen scopes) 1).measureDebug.debugEvent 1 scopes
  else
    let s1 := { s0 with sec.dbgFails := s0.sec.dbgFails + 1 }
    (if 8 ≤ s1.sec.dbgFails then s1.dieList.foldl (fun t d => t.flag d .SEC_STATUS_DBG_LOCKOUT) s1 else s1).debugEvent 0 scopes

/-- The blackout of SEC has ended: a debug response that waited is verified (R131, R480). -/
def State.judgeWaiting (s : State) : State :=
  match s.sec.dbg with
  | some x => if 844 ≤ x.words.length then s.judgeDebug x else s
  | none => s

/-- A firmware core of the part. -/
def State.core (s : State) (u : FwUnit) : FwCore := lookupD s.fw.cores u FwCore.empty

/-- Change a firmware core. -/
def State.setCore (s : State) (u : FwUnit) (c : FwCore) : State := { s with fw.cores := insertKV s.fw.cores u c }

/-- The image of a kind in a bundle, read by offset and length (R471). -/
def bundleImage (i : BundleInfo) (read : Nat → Nat → List Byte) (kind : Nat) : List Byte :=
  match i.images.find? (fun e => decide (e.kind = kind)) with
  | some e => read e.offset e.length
  | none => []

/-- The image of a kind in the bundle that the boot chain loaded: from its flash slot, or from the bytes received (R473). -/
def State.bootImage (s : State) (i : BundleInfo) (kind : Nat) : List Byte :=
  bundleImage i (fun o n => if s.boot.slotUsed = 3 then slice s.boot.chunks o n else s.readSlot s.boot.slotUsed o n) kind

/-- The cores of some processors start the images that the boot chain loads into their active banks (R107, R135). -/
def State.startCores (s : State) (i : BundleInfo) (us : List FwUnit) : State :=
  us.foldl (fun t u => t.setCore u ⟨s.bootImage i u.kind, [], FwWork.start, none⟩) s

/-- The banks of a core exchange, and the image now active goes on in a working state (R130, R132). -/
def FwCore.exchange (c : FwCore) (work : FwWork) (kept : Option FwWork) : FwCore := ⟨c.shadow, c.active, work, kept⟩

/-- Choose between two banks by validity and SEQ (R80). -/
def chooseBank (v0 v1 : Bool) (q0 q1 : Nat) : Option Nat :=
  if v0 ∧ v1 then (if laterSeq q1 q0 then some 1 else some 0) else if v0 then some 0 else if v1 then some 1 else none

end Sys2Proof.Machine
end

