-- ==== Sys2Proof/Machine/FwUpdate.lean ====
section
/-!
DEFINITION. Machine/FwUpdate.lean: live update of firmware (R107, R129 to R135).
-/
namespace Sys2Proof.Machine

/-- Whether a sender may use the firmware-update group (R129). -/
def State.fwSender (s : State) (dom : Dom) : Bool :=
  (s.manager dom || decide (dom = 0x2000)) && bit s.mail.policy 0

/-- Whether the `len` bytes at an address lie in the LPDDR5X of one die. -/
def State.inDram (s : State) (addr len : Nat) : Bool :=
  match decodeAddr s.part 0 addr with
  | .dram _ o => decide (o + len ≤ s.part.dramBytes)
  | _ => false

/-- FW_STAGE: the tests of R472 on a bundle in LPDDR5X. -/
def execFwStage (r : Req) (addr len : Nat) (s : State) : Out :=
  .next (s.serve r 0x0A00 none (fun s =>
    if ¬ s.fwSender r.dom then reply s .denied
    else if 0x1000000 < len ∨ ¬ s.inDram addr len then
      reply s .badMessage
    else if s.fw.activation.isSome then reply s .busy
    else
      match s.verify (fun o n => s.bytes (addr + o) (min n (len - o))) false with
      | .ok i => reply { s with fw.staged := some (i, s.bytes addr len) } .ok (leBytes 4 i.version)
      | .error _ => reply s .denied))

/-- The instances that the masks of FW_ACTIVATE select, in the order of R130. -/
def State.fwSelect (s : State) (kinds dieMask clusterMask : Nat) : List FwUnit :=
  let ds := s.dieList.filter (bit dieMask)
  (if bit kinds 0 then (ds.map (fun d => ((List.range 6).filter (bit clusterMask)).map (fun c => (⟨3, d, c⟩ : FwUnit)))).flatten else []) ++
  (if bit kinds 1 then ds.map (fun d => ⟨2, d, 0⟩) else []) ++ (if bit kinds 2 then ds.map (fun d => ⟨1, d, 0⟩) else []) ++
  (if bit kinds 3 then ds.map (fun d => ⟨0, d, 0⟩) else [])

/-- Whether a takeover of the pair or a migration of a function is in progress (R129); the frozen copies that a standby holds are neither (R432). -/
def State.takeoverOrMigration (s : State) : Bool :=
  let standbyCopy (fn : Dom) := decide (s.fld 0 .MIRROR_STATUS_ROLE = 2) &&
    (List.range 64).any (fun i => decide (s.fld 0 .MIRROR_FN_EN i = 1) && decide (s.fld 0 .MIRROR_FN_FUNCTION i = fn.toNat))
  decide (s.fld 0 .MIRROR_STATUS_HANDOVER = 1) || s.fn.freezes.any (fun f => !standbyCopy f.fn)

/-- The response of FW_ACTIVATE (R129). -/
def fwResult (a : Activation) (result : Nat) : List Byte :=
  leBytes 1 result ++ leBytes 1 a.adopted ++ leBytes 1 a.last.kind ++ leBytes 1 a.last.die ++ leBytes 1 a.last.cluster ++ leBytes 3 0

/-- End an activation with a RESULT. -/
def State.fwEnd (s : State) (a : Activation) (result : Nat) : State :=
  ({ s with fw.activation := none, fw.early := [], fw.staged := if result = 0 then none else s.fw.staged }).answer a.req 0x0A01 (if result = 0 then .ok else .timeout) (fwResult a result)

/-- FW_ACTIVATE (R129, R130). -/
def execFwActivate (r : Req) (kinds dieMask clusterMask flags : Nat) (s : State) : Out :=
  .next (s.serve r 0x0A01 none (fun s =>
    if 16 ≤ kinds ∨ 256 ≤ dieMask ∨ 64 ≤ clusterMask ∨ 2 ≤ flags then reply s .badMessage
    else if ¬ s.fwSender r.dom then reply s .denied
    else
      match s.fw.staged with
      | none => reply s .noResource
      | some (i, _) =>
        if s.fw.activation.isSome ∨ s.fld 0 .CLK_STATUS_LIMP = 1 ∨ s.takeoverOrMigration then reply s .busy
        else
          match s.fwSelect kinds dieMask clusterMask with
          | [] => reply s .ok (leBytes 8 0)
          | u :: us => later { s with fw.activation := some ⟨r, us, 0, u, .copying, bit flags 0, i, false⟩ }))

/-- FW_STATUS: the versions of the SEC, PMC, SCH and CCC images of DIE_0. -/
def State.runningVersion (s : State) (u : FwUnit) : Nat :=
  match lookup? s.fw.running u with
  | some i => i.version
  | none => 0
def execFwStatus (r : Req) (s : State) : Out :=
  .next (s.serve r 0x0A02 none (fun s =>
    if ¬ s.fwSender r.dom then reply s .denied
    else reply s .ok (((List.range 4).map (fun k => leBytes 4 (s.runningVersion ⟨k, 0, 0⟩))).flatten)))

/-- FW_ABORT. -/
def execFwAbort (r : Req) (s : State) : Out :=
  .next (s.serve r 0x0A03 none (fun s =>
    if ¬ s.fwSender r.dom then reply s .denied
    else if s.fw.activation.isSome then reply s .busy
    else reply { s with fw.staged := none } .ok))

/-- Whether an activation stands in a phase. -/
def State.inPhase (s : State) (p : FwPhase) : Option Activation :=
  match s.fw.activation with
  | some a => if a.phase = p then some a else none
  | none => none

/-- Replace the phase of an activation. -/
def State.toPhase (s : State) (a : Activation) (p : FwPhase) : State := { s with fw.activation := some { a with phase := p } }

/-- Bytes of the staged bundle. -/
def State.stagedBytes (s : State) (o n : Nat) : List Byte :=
  match s.fw.staged with
  | some x => slice x.2 o n
  | none => []

/-- SHADOW_COPY_END (R130, step 1): the new image is in the shadow bank. -/
def execShadowCopyEnd (s : State) : Out :=
  .next (match s.inPhase .copying with
    | some a => (s.setCore a.last { s.core a.last with shadow := bundleImage a.info s.stagedBytes a.last.kind }).toPhase a .copied
    | none => s)

/-- The old image is restored (R132): the banks exchange again, it resumes with its data untouched, the registers record what runs, EV_FW_ROLLBACK is raised, and the
activation stops with the cause, or with 4 where a clock failure or a takeover had stopped it (R135). -/
def State.fwRollback (s : State) (a : Activation) (cause : Nat) : State :=
  let u := a.last
  let result := if a.stop then 4 else cause
  match lookup? s.fw.previous u with
  | none => s.fwEnd a result
  | some old =>
    let c := s.core u
    let s1 : State := { s with fw.running := insertKV s.fw.running u old, fw.previous := eraseK s.fw.previous u }
    let s2 := (s1.setCore u (c.exchange (c.kept.getD c.work) none)).judgeWaiting.measureBundle old [u.kind]
    let s3 := s2.raise .fwRollback u.die 0xFF00 [(20, 1, u.kind), (21, 1, u.die), (22, 1, u.cluster), (23, 1, cause), (24, 4, old.version),
      (28, 4, a.info.version)] [a.req.dom]
    s3.fwEnd a result

/-- The sheaves of a die that its SCH pre-dispatches before its handoff point (R130, step 2): of Class S, ready, or released within the next 1 ms as far as their wait
tells. -/
def State.preDispatched (s : State) (d : Nat) : List (Nat × Nat) :=
  (s.q.queues.filter (fun e => decide (e.1 / 65536 = d))).flatMap (fun e =>
    (e.2.flight.filter (fun h => decide (h.cls = 0) && !h.done && (h.ready.isSome || decide (h.waitKind ≠ 4) || decide (h.waitValue ≤ s.tbNs h.waitArg + 1000000)))).map
      (fun h => (e.1, h.hdr)))

/-- The record that an old image writes at its handoff point (R130, step 4; R134). -/
def State.handoffRecord (s : State) (u : FwUnit) (old new : Nat) (h : Handoff) : List Byte :=
  recordOf (leBytes 4 0x48444F46 ++ leBytes 1 h.major ++ leBytes 1 h.minor ++ leBytes 1 u.kind ++ leBytes 1 (u.die + 16 * u.cluster) ++ leBytes 4 old ++ leBytes 4 new)
    (leBytes 8 (s.tbSec 0) ++ leBytes 4 (s.tbNsec 0)) ((s.fw.updateSeq + 1) % 2 ^ 32) h.sections

/-- A record as it is read back. -/
def readBack (h : Handoff) (bs : List Byte) : List Byte :=
  match h.damage with
  | some (i, b) => if i < bs.length then bs.take i ++ b :: bs.drop (i + 1) else bs
  | none => bs

/-- The TAGs of the sections in a record, from an offset. -/
def recordTags (bs : List Byte) : Nat → Nat → List Nat
  | 0, _ => []
  | n + 1, o => leAt bs o 2 :: recordTags bs n (o + 8 + leAt bs (o + 4) 4)

/-- Whether the new image rejects a record (R134): a REC_MAJOR that it does not support, a wrong CRC, a critical TAG that it does not know. -/
def rejects (h : Handoff) (bs : List Byte) : Bool :=
  decide (leAt bs 4 1 ∉ h.majors) || decide (leAt bs 60 4 ≠ crc32c (slice bs 0 60 ++ slice bs 64 (leAt bs 16 4))) ||
  (recordTags bs (min (leAt bs 20 4) 0x20000) 64).any (fun t => bit t 15 && decide (t ∉ h.tags))

/-- HANDOFF_POINT (R130, steps 2 to 5): the blackout starts, the handoff record is written, the banks exchange, and the new image checks the record. -/
def execHandoffPoint (h : Handoff) (s : State) : Out :=
  .next (match s.inPhase .copied with
    | none => s
    | some a =>
      let u := a.last
      let c := s.core u
      let bs := s.handoffRecord u (s.runningVersion u) a.info.version h
      let s1 := { s with
        fw.previous := match lookup? s.fw.running u with
          | some o => insertKV s.fw.previous u o
          | none => s.fw.previous
        fw.running := insertKV s.fw.running u a.info
        fw.updateSeq := (s.fw.updateSeq + 1) % 2 ^ 32
        fw.records := insertKV s.fw.records u.die (readBack h bs)
        fw.early := if u.kind = 2 then s.preDispatched u.die else [] }
      let s2 := s1.setCore u (c.exchange FwWork.start (some c.work))
      if rejects h (readBack h bs) then s2.fwRollback a 1 else s2.toPhase a .blackout)

/-- ADOPTION_DECLARED (R130, step 6; R478). -/
def execAdoptionDeclared (s : State) : Out :=
  .next (match s.inPhase .blackout with
    | none => s
    | some a => ({ s with fw.early := [] } : State).judgeWaiting.measureBundle a.info [a.last.kind] |>.toPhase a .probation)

/-- ABANDON_POINT (R130, R132). -/
def execAbandonPoint (s : State) : Out :=
  .next (match s.inPhase .blackout with
    | none => s
    | some a => s.fwRollback a 2)

/-- FAILURE_IN_PROBATION: the new image locks up, trips its watchdog or declares its failure within 10 ms of its handoff point (R132). -/
def execFailureInProbation (s : State) : Out :=
  .next (match s.inPhase .probation with
    | some a => s.fwRollback a 3
    | none => match s.inPhase .blackout with
      | some a => s.fwRollback a 3
      | none => s)

/-- Whether a processor is the instance in blackout or probation, so that its lock-up or watchdog restores the old image (R132). -/
def State.inTrial (s : State) (u : FwUnit) : Option Activation :=
  match s.fw.activation with
  | some a => if a.last = u ∧ (a.phase = .blackout ∨ a.phase = .probation) then some a else none
  | none => none

/-- PROBATION_END (R130, step 7; R135): the old image and its data are discarded. -/
def execProbationEnd (s : State) : Out :=
  .next (match s.inPhase .probation with
    | none => s
    | some a =>
      let b := { a with adopted := a.adopted + 1 }
      let s1 := ({ s with fw.previous := eraseK s.fw.previous a.last } : State).setCore a.last { s.core a.last with shadow := [], kept := none }
      if b.stop then s1.fwEnd b 4
      else
        match b.todo with
        | u :: us => { s1 with fw.activation := some { b with todo := us, last := u, phase := .copying } }
        | [] =>
          let s2 := if b.last.kind = 0 ∧ b.last.die = 0 ∨ b.info.version = s1.runningVersion ⟨0, 0, 0⟩ then { s1 with fw.bundle := some b.info } else s1
          if b.persist then s2.toPhase b .persisting else s2.fwEnd b 0)

/-- The flash slot not in use. -/
def State.freeSlot (s : State) : Nat := if s.boot.slotUsed = 0 then 1 else 0

/-- FW_PERSIST_WRITE_END (R135, R474): the staged bundle stands in the flash slot not in use, with SEQ one later than that of the slot in use. -/
def execFwPersistWriteEnd (ok : Bool) (s : State) : Out :=
  .next (match s.inPhase .persisting with
    | none => s
    | some a =>
      let s1 := match ok, s.fw.staged with
        | true, some (_, bs) =>
          let seq := (leNat (s.flashBytes (slotBase (1 - s.freeSlot) + 8) 4) + 1) % 2 ^ 32
          s.putFlash (slotBase s.freeSlot) (slice bs 0 8 ++ leBytes 4 seq ++ bs.drop 12)
        | _, _ => s
      s1.fwEnd a 0)

end Sys2Proof.Machine
end

