-- ==== Sys2Proof/Machine/Mail.lean ====
section
/-!
DEFINITION. Machine/Mail.lean: mailboxes, requests, sessions and events (R109 to R126).
-/
namespace Sys2Proof.Machine

/-- A doorbell joins the order of R112: after those before it, and within one cycle after those of lower domain number. DESIGN CHOICE (notes/assumptions/92): doorbells
between two ticks of the model's clock stand for those of one FAB_CLK cycle. -/
def State.ring (s : State) (dom : Dom) (tail : Nat) : State :=
  let before := s.mail.bells.filter (fun e => decide (e.2.1 ≠ s.time.ticks) || decide (e.1.toNat ≤ dom.toNat))
  let after := s.mail.bells.filter (fun e => !(decide (e.2.1 ≠ s.time.ticks) || decide (e.1.toNat ≤ dom.toNat)))
  { s with mail.bells := before ++ [(dom, s.time.ticks, tail)] ++ after }

/-- Write of MB_REQ_TAIL (R110): the units that the client has written into its ring are available. -/
def wrReqTail (dom : Dom) (data : Nat) (s : State) : State :=
  let t := data % 512
  let n := (t + 512 - s.mbFld dom .MB_REQ_HEAD_INDEX) % 512
  let held := s.reqHeld dom
  if n ≤ 256 ∧ held ≤ n then
    let s1 := s.setMb dom .MB_REQ_TAIL_INDEX t
    if held < n then s1.ring dom t else s1
  else s.setMb dom .MB_STATUS_RING_ERR 1

/-- What a client writes into its request ring before the doorbell, unit by unit behind the tail (R110). -/
def State.fillRing (s : State) (m : Master) (dom : Dom) (units : List Byte) : State :=
  s.stores (agentOf m) ((List.range (min 256 (ceilDiv units.length 16))).map (fun k =>
    (s.mbPlace dom + 16 * ((s.mbFld dom .MB_REQ_TAIL_INDEX + k) % 256), slice units (16 * k) 16)))

/-- Drop the messages of a response ring that its head has passed, while the rest still fills the units held. -/
def dropRead (held : Nat) : List Msg → List Msg
  | [] => []
  | m :: ms => if held ≤ (ms.map (fun x => ringUnits x.payload.length)).sum then dropRead held ms else m :: ms

/-- Write of MB_RSP_HEAD (R110). -/
def wrRspHead (dom : Dom) (data : Nat) (s : State) : State :=
  let h := data % 512
  let n := (h + 512 - s.mbFld dom .MB_RSP_HEAD_INDEX) % 512
  if n ≤ s.rspHeld dom then
    let s1 := s.setMb dom .MB_RSP_HEAD_INDEX h
    s1.setBox dom { s1.box dom with rsp := dropRead (s1.rspHeld dom) (s1.box dom).rsp }
  else s.setMb dom .MB_STATUS_RING_ERR 1

/-- Whether a notification vector is in range for a mailbox (R113, R305). -/
def State.vectorOk (s : State) (dom : Dom) (v : Nat) : Bool :=
  let n := dom.toNat
  if n = 0 ∨ n = 0x2000 then decide (v < 64)
  else if n ≤ 0x800 then decide (v < s.fld 0 .FN_CFG_VECTORS n)
  else decide (1 ≤ v) && decide (v ≤ 255)

/-- Write EN and VECTOR of MB_NOTIFY. -/
def State.setNotify (s : State) (dom : Dom) (en v : Nat) : State :=
  if s.vectorOk dom v then (s.setMb dom .MB_NOTIFY_EN en).setMb dom .MB_NOTIFY_VECTOR v else s.setMb dom .MB_STATUS_RING_ERR 1

/-- Write of MB_NOTIFY. -/
def wrNotify (dom : Dom) (data : Nat) (s : State) : State := s.setNotify dom (bits data 31 31) (bits data 10 0)

/-- A write to a register of a mailbox page, at the die that decodes it. -/
def State.pageWrite (s : State) (m : Master) (dom : Dom) (off : Nat) (data : Word) (eff : State → State) : State :=
  s.regWrite m (homeOf s.part.dies dom) .MBOX (pageOf dom * 0x1000 + off) data eff

/-- MB_REQ_TAIL_WRITE: the bytes the client wrote into its ring, then the doorbell. -/
def execMbReqTailWrite (m : Master) (dom : Dom) (data : Word) (units : List Byte) (s : State) : Out :=
  .next ((s.fillRing m dom units).pageWrite m dom 0x4 data (wrReqTail dom data.toNat))

/-- MB_RSP_HEAD_WRITE. -/
def execMbRspHeadWrite (m : Master) (dom : Dom) (data : Word) (s : State) : Out :=
  .next (s.pageWrite m dom 0x10 data (wrRspHead dom data.toNat))

/-- MB_NOTIFY_WRITE. -/
def execMbNotifyWrite (m : Master) (dom : Dom) (data : Word) (s : State) : Out :=
  .next (s.pageWrite m dom 0x28 data (wrNotify dom data.toNat))

/-- Take units from the request ring: the head moves on. -/
def State.takeUnits (s : State) (dom : Dom) (n : Nat) : State := s.setMb dom .MB_REQ_HEAD_INDEX ((s.mbFld dom .MB_REQ_HEAD_INDEX + n) % 512)

/-- An uncorrectable error met in a unit of a request ring, with the serving SCH as the reader (R116, R149): in a granule that is poisoned already, or that a
double error has poisoned, under a syndrome that the row does not give. -/
def State.ringUe (s : State) (dom : Dom) (k : Nat) : State :=
  let g := s.reqUnit dom k
  let s1 := if (s.poisoned g 16).isSome then s else (let (v, t) := s.fresh; t.poison g v)
  s1.readUe g (schAgent (homeOf s.part.dies dom))

/-- The units of a message's payload that are poisoned, and one of them, free which, where the row finds an error (R116). -/
def State.badUnits (s : State) (dom : Dom) (n : Nat) (ue : Bool) : List Nat × State :=
  let bad := (rangeFrom 1 (n - 1)).filter (fun k => (s.poisoned (s.reqUnit dom k) 16).isSome)
  if ue ∧ bad = [] ∧ 1 < n then (let (v, t) := s.fresh; ([1 + v % (n - 1)], t)) else (bad, s)

/-- Checks 3 to 9 of R116 on a request whose bytes are sound: the status that refuses it, if any. -/
def formRefusal (b : Mailbox) (h payload : List Byte) : Option Status :=
  let opcode := leAt h 2 2
  let session := leAt h 8 2
  if leAt h 10 1 ≠ 0 ∨ Nat.land (leAt h 11 1) 0xFB ≠ 0 then some .badMessage
  else if (opcode = 0) ≠ (session = 0) then some .badMessage
  else
    let known : Option Status :=
      if opcode = 0 then none
      else match b.session with
        | none => some (if session ∈ b.closed then .staleGeneration else .badMessage)
        | some x =>
          if x.number ≠ session then some (if session ∈ b.closed then .staleGeneration else .badMessage)
          else if x.major ≠ leAt h 0 1 then some .badMessage
          else if ¬ bit x.features (opcode / 256) ∨ 12 ≤ opcode / 256 then some .unsupported
          else if x.major = 2 ∧ ¬ major2Allows opcode then some .unsupported
          else none
    match known with
    | some st => some st
    | none =>
      match lcpOp opcode with
      | none => some .unsupported
      | some o =>
        let n := payload.length
        if n < o.lo ∨ o.hi < n ∨ (n - o.lo) % o.mult ≠ 0 ∨ (opcode = 0xB02 ∧ n ≠ 20 + 8 * leAt payload 4 2) then some .badMessage
        else if o.zero.any (fun z => decide (leAt payload z.1 z.2 ≠ 0)) then some .badMessage
        else none

/-- REQUEST_START (R111, R112, R116): the serving SCH takes the oldest request of a mailbox. A refused one is answered; any other is taken from the ring,
and its own row has its effect. The row says which reads find a new uncorrectable error. -/
def execRequestStart (dom : Dom) (headerUe payloadUe : Bool) (s : State) : Out :=
  let h := s.reqBytes dom 1
  let opcode := leAt h 2 2
  let len := leAt h 4 2
  let n := ringUnits len
  let named := (s.nextReq dom).2
  if s.reqHeld dom = 0 ∨ (s.box dom).current.isSome ∨ ¬ s.canServe dom opcode named then .next s
  else
    let r : Req := ⟨dom, BitVec.ofNat 16 (leAt h 6 2), BitVec.ofNat 16 (leAt h 8 2)⟩
    let bad := headerUe || (s.poisoned (s.reqUnit dom 0) 16).isSome
    if bad ∨ 4080 < len ∨ s.reqHeld dom < n then
      let s1 := if bad then s.ringUe dom 0 else s
      let s2 := (s1.takeUnits dom (s1.reqHeld dom)).setMb dom .MB_STATUS_RING_ERR 1
      .next (s2.respond { r with seq := 0, session := if bad then 0 else r.session } (if bad then 0 else opcode) .badMessage [])
    else
      let payload := slice (s.reqBytes dom n) 16 len
      let (units, s0) := s.badUnits dom n payloadUe
      let s1 := (units.foldl (fun t k => t.ringUe dom k) s0).takeUnits dom n
      if units ≠ [] ∨ crc32c (slice h 0 12 ++ payload) ≠ leAt h 12 4 then .next (s1.respond r opcode .badMessage [])
      else
        match formRefusal (s.box dom) h payload with
        | some st => .next (s1.respond r opcode st [])
        | none => .next (s1.setBox dom { s1.box dom with current := some (opcode, named) })

/-- Feature bits of the firmware (R120). -/
def fwFeatures : Nat := 2 ^ 14 - 1

/-- Feature bits that a major-2 session may have: groups 0, 1, 2, 4, 5 and 8, and event messages (R122). -/
def major2Features : Nat := 2 ^ 0 + 2 ^ 1 + 2 ^ 2 + 2 ^ 4 + 2 ^ 5 + 2 ^ 8 + 2 ^ 12

/-- The session number after one (R119). -/
def nextSession (n : Nat) : Nat := if (n + 1) % 2 ^ 16 = 0 then 1 else (n + 1) % 2 ^ 16

/-- The version of the running bundle. -/
def State.fwVersion (s : State) : Nat :=
  match s.fw.bundle with
  | some b => b.version
  | none => 0

/-- Write a response whose header carries a given session and version. -/
def State.respondAs (s : State) (r : Req) (opcode session major minor : Nat) (st : Status) (p : List Byte) : State :=
  ((s.setBox r.dom { s.box r.dom with current := none, work := none }).settle r.dom).putMsg r.dom ⟨opcode, r.seq.toNat, session, st.code, 1, major, minor, p⟩

/-- HELLO (R118 to R122). -/
def execHello (r : Req) (major minor : Nat) (features : Nat) (s : State) : Out :=
  if r.dom = fwDom ∨ ¬ s.canServe r.dom 0 0 then .next s
  else if r.session.toNat ≠ 0 then .next (s.respond r 0 .badMessage [])
  else if (major ≠ 3 ∧ major ≠ 2) ∨ (major = 2 ∧ ¬ bit s.mail.policy 1) then .next (s.respondAs r 0 0 3 2 .unsupported [])
  else
    let b := s.box r.dom
    let f := Nat.lor (Nat.land features (if major = 3 then fwFeatures else major2Features)) 1
    let mn := min minor (if major = 3 then 2 else 4)
    let n := nextSession b.issued
    let s1 := s.setBox r.dom { b with session := some ⟨n, major, mn, f⟩, issued := n, closed := b.closed.filter (fun x => decide (x ≠ n)), mask := nonMaskableBits }
    .next (s1.respondAs r 0 n major mn .ok (leBytes 16 f ++ leBytes 2 n ++ leBytes 1 major ++ leBytes 1 mn ++ leBytes 4 s1.fwVersion ++
      leBytes 2 r.dom.toNat ++ leBytes 1 s1.part.dies ++ leBytes 5 0))

/-- GOODBYE: the session closes after the response (R118). Events that wait for it are not kept (R125). -/
def execGoodbye (r : Req) (s : State) : Out :=
  if r.dom = fwDom ∨ ¬ s.canServe r.dom 1 0 then .next s
  else
    match sessionRefusal (s.box r.dom) r 1 none with
    | some st => .next (s.respond r 1 st [])
    | none =>
      let s1 := s.respond r 1 .ok []
      .next (s1.setBox r.dom { s1.box r.dom with session := none, evq := [] })

/-- PING. -/
def execPing (r : Req) (payload : List Byte) (s : State) : Out :=
  .next (s.serve r 2 none (fun s => if 64 < payload.length then reply s .badMessage else reply s .ok payload))

/-- EVENT as a request returns BAD_MESSAGE (R118). -/
def execEvent (r : Req) (s : State) : Out := .next (s.serve r 3 none (fun s => reply s .badMessage))

/-- EVENT_MASK (R126). -/
def execEventMask (r : Req) (mask : Nat) (en v : Nat) (s : State) : Out :=
  .next (s.serve r 4 none (fun s =>
    if 1 < en ∨ 2 ^ 256 ≤ mask then reply s .badMessage
    else
      let force := Nat.lor mask nonMaskableBits
      reply ((s.setBox r.dom { s.box r.dom with mask := force }).setNotify r.dom en v) .ok (leBytes 32 force)))

/-- EVENT_RING_WRITE: the oldest queued event enters the response ring when it has room, outside an update blackout (R125, R130). -/
def execEventRingWrite (dom : Dom) (s : State) : Out :=
  let b := s.box dom
  match b.evq, b.session with
  | e :: rest, some x =>
    if 256 < s.rspHeld dom + 3 ∨ s.blackout 2 (homeOf s.part.dies dom) ∨ ¬ s.fwRuns (homeOf s.part.dies dom) then .next s
    else
      let p := if x.major = 2 then { e with sec := e.sec % 2 ^ 32 } else e
      let s1 := s.setBox dom { b with evq := rest, evCount := (b.evCount + 1) % 2 ^ 16, lost := false }
      .next (s1.putMsg dom ⟨3, b.evCount, x.number, 0, 2 + 4 * b2n b.lost, x.major, x.minor, p.payload⟩)
  | _, _ => .next s

end Sys2Proof.Machine
end

