-- ==== Sys2Proof/Machine/Security.lean ====
section
/-!
DEFINITION. Machine/Security.lean: fuses, attestation, grants, host-loaded firmware and debug authentication (R468 to R485).
-/
namespace Sys2Proof.Machine

/-- A fuse: the fields of R468, or one of no field. -/
inductive FuseBit where
  | lc (b : Nat)
  | seed (b : Nat)
  | key (slot b : Nat)
  | svn (b : Nat)
  | pin (p b : Nat)
  | spare (n : Nat)
deriving DecidableEq, Repr

/-- The fuse of a number: LC, SEED, the four key slots, SVN, the pin codes, then spare fuses. LC, the keys and SVN exist on DIE_0 only (R468). -/
def fuseOf (d n : Nat) : FuseBit :=
  if n < 2 then (if d = 0 then .lc n else .spare n)
  else if n < 258 then .seed (n - 2)
  else if n < 258 + 3084 then (if d = 0 then .key ((n - 258) / 771) ((n - 258) % 771) else .spare n)
  else if n < 3342 + 64 then (if d = 0 then .svn (n - 3342) else .spare n)
  else if n < 3406 + 1536 then .pin ((n - 3406) / 2) (n % 2)
  else .spare n

/-- The fuses of a fuse word of a die, bit 0 first. -/
def wordFuses (d w : Nat) : List FuseBit := (List.range 32).map (fun b => fuseOf d (Config.fuseBit d w b))

/-- Whether a fuse is blown. -/
def State.blown (s : State) (d : Nat) : FuseBit → Bool
  | .lc b => bit s.sec.lcFuse b
  | .seed b => bit (lookupD s.sec.seeds d 0) b
  | .key j b =>
    let k := s.keySlot j
    if b < 384 then k.ed.getLsbD b else if b < 768 then k.mldsa.getLsbD (b - 384) else if b < 770 then bit k.use (b - 768) else k.revoked
  | .svn b => bit s.sec.svn b
  | .pin p b => bit (lookupD s.sec.pinFuse (d, p) (shippedCode p)) b
  | .spare n => decide ((d, n) ∈ s.sec.spare)

/-- Blow a fuse; a blown fuse stays blown (R33). -/
def State.blow (d : Nat) (s : State) (f : FuseBit) : State :=
  if s.blown d f then s
  else
    match f with
    | .lc b => { s with sec.lcFuse := setBit s.sec.lcFuse b }
    | .seed b => { s with sec.seeds := insertKV s.sec.seeds d (setBit (lookupD s.sec.seeds d 0) b) }
    | .key j b =>
      let k := s.keySlot j
      let k' := if b < 384 then { k with ed := BitVec.ofNat 384 (setBit k.ed.toNat b) }
        else if b < 768 then { k with mldsa := BitVec.ofNat 384 (setBit k.mldsa.toNat (b - 384)) }
        else if b < 770 then { k with use := setBit k.use (b - 768) } else { k with revoked := true }
      { s with sec.keys := s.sec.keys.set j k' }
    | .svn b => { s with sec.svn := setBit s.sec.svn b }
    | .pin p b => { s with sec.pinFuse := insertKV s.sec.pinFuse (d, p) (setBit (lookupD s.sec.pinFuse (d, p) (shippedCode p)) b) }
    | .spare n => { s with sec.spare := s.sec.spare ++ [(d, n)] }

/-- Whether a word holds a key or seed fuse, programmed only in MANUFACTURE (R469). -/
def keyOrSeed (d w : Nat) : Bool :=
  (wordFuses d w).any (fun f => match f with
    | .seed _ => true
    | .key _ _ => true
    | _ => false)

/-- Program a word: the bits of VALUE under MASK; refused where a bit would clear, or outside MANUFACTURE for keys and seeds (R33, R469, R484). -/
def State.programWord (s : State) (d w value mask : Nat) : Option State :=
  let fs := (wordFuses d w).zip (List.range 32)
  if keyOrSeed d w ∧ s.sec.lc ≠ 0 then none
  else if fs.any (fun e => bit mask e.2 && !bit value e.2 && s.blown d e.1) then none
  else some ((fs.filter (fun e => bit mask e.2 && bit value e.2)).foldl (fun t e => t.blow d e.1) s)

/-- The value of a fuse word as SEC_FUSE_DATA reads it: SEED reads zero (R485). -/
def State.wordValue (s : State) (d w : Nat) : Nat :=
  ((wordFuses d w).zip (List.range 32)).foldl (fun a e => match e.1 with
    | .seed _ => a
    | f => a + b2n (s.blown d f) * 2 ^ e.2) 0

/-- The report of R479 for the registers of a mask. -/
def State.report (s : State) (nonce : List Byte) (mask : Nat) : List Byte :=
  let sel := (List.range 16).filter (bit mask)
  let version := match s.fw.bundle with
    | some b => b.version
    | none => 0
  let body := leBytes 4 0x54525441 ++ leBytes 1 1 ++ leBytes 1 s.part.dies ++ leBytes 1 s.sec.lc ++ leBytes 1 s.sec.dbgScopes ++
    leBytes 4 version ++ leBytes 1 s.svnCount ++ leBytes 1 sel.length ++ leBytes 2 mask ++ leBytes 8 s.now ++ slice (nonce ++ leBytes 32 0) 0 32 ++
    leBytes 8 0 ++ (sel.map (fun i => leBytes 48 (lookupD s.sec.mr i 0).toNat)).flatten
  body ++ leBytes 64 (Config.ed25519Sign s.identity body).toNat ++ leBytes 3309 (Config.mldsaSign s.identity body).toNat

/-- ATTEST. -/
def execAttest (r : Req) (nonce : List Byte) (mask : Nat) (s : State) : Out :=
  .next (s.serve r 0x0900 none (fun s =>
    if 8 < popCount 16 mask ∨ popCount 16 mask = 0 ∨ 2 ^ 16 ≤ mask then reply s .badMessage else reply s .ok (s.report nonce mask)))

/-- CERT_READ: the stored bytes of a chain from an offset, 4,080 at most (R477). -/
def execCertRead (r : Req) (chain offset : Nat) (s : State) : Out :=
  .next (s.serve r 0x0901 none (fun s =>
    if 2 ≤ chain then reply s .badMessage
    else
      let p := Config.certPlace chain
      reply s .ok (s.flashBytes (0x8000 + p.1 + offset) (min 4080 (p.2 - offset)))))

/-- MR_EXTEND. -/
def execMrExtend (r : Req) (i : Nat) (digest : List Byte) (s : State) : Out :=
  .next (s.serve r 0x0902 none (fun s =>
    if i < 8 ∨ 16 ≤ i then reply s .badMessage
    else if ¬ s.manager r.dom then reply s .denied
    else
      let s1 := s.extend i (BitVec.ofNat 384 (leNat (slice digest 0 48)))
      reply s1 .ok (leBytes 48 (lookupD s1.sec.mr i 0).toNat)))

/-- PF_0 or firmware (R484). -/
def pf0OrFw (dom : Dom) : Bool := decide (dom = 0) || decide (dom = fwDom)

/-- Whether a number is a domain of the part (R39). -/
def State.isDomain (s : State) (dom : Dom) : Bool :=
  let n := dom.toNat
  decide (n ≤ 0x800) || (decide (0x1000 ≤ n) && decide (n < 0x1000 + 4 * s.part.dies)) || decide (n = 0x2000) || decide (dom = fwDom)

/-- GUARD_GRANT (R482). -/
def execGuardGrant (r : Req) (dom : Dom) (s : State) : Out :=
  .next (s.serve r 0x0903 none (fun s =>
    if ¬ s.isDomain dom then reply s .badMessage
    else if ¬ pf0OrFw r.dom then reply s .denied
    else reply { s with mail.grants := if dom ∈ s.mail.grants then s.mail.grants else s.mail.grants ++ [dom] } .ok))

/-- GUARD_REVOKE (R482). -/
def execGuardRevoke (r : Req) (dom : Dom) (s : State) : Out :=
  .next (s.serve r 0x0904 none (fun s =>
    if ¬ s.isDomain dom then reply s .badMessage
    else if ¬ pf0OrFw r.dom then reply s .denied
    else reply { s with mail.grants := s.mail.grants.filter (fun x => decide (x ≠ dom)) } .ok))

/-- FUSE_PROGRAM on DIE_0 (R468, R484). -/
def execFuseProgram (r : Req) (w : Nat) (value mask : Word) (s : State) : Out :=
  .next (s.serve r 0x0905 none (fun s =>
    if ¬ pf0OrFw r.dom then reply s .denied
    else match s.programWord 0 w value.toNat mask.toNat with
      | some t => reply t .ok
      | none => reply s .denied))

/-- Blow SVN fuses, lowest first, until the counter stands at a target. -/
def svnTo : Nat → Nat → Nat → Nat
  | 0, v, _ => v
  | n + 1, v, t => if t ≤ popCount 64 v then v else svnTo n (if bit v (63 - n) then v else setBit v (63 - n)) t

/-- SVN_ADVANCE. -/
def execSvnAdvance (r : Req) (target : Nat) (s : State) : Out :=
  .next (s.serve r 0x0906 none (fun s =>
    let running := match s.fw.bundle with
      | some b => b.svn
      | none => 0
    if ¬ pf0OrFw r.dom ∨ running < target ∨ target < s.svnCount then reply s .denied
    else reply { s with sec.svn := svnTo 64 s.sec.svn target } .ok))

/-- LC_ADVANCE: only to the next state; it takes effect at the next package reset (R475). -/
def execLcAdvance (r : Req) (target : Nat) (s : State) : Out :=
  .next (s.serve r 0x0907 none (fun s =>
    let next := if s.sec.lcFuse = 0 then 1 else if s.sec.lcFuse = 1 then 3 else 4
    if ¬ pf0OrFw r.dom then reply s .denied
    else if target ≠ next then reply s .badMessage
    else reply { s with sec.lcFuse := target } .ok))

/-- KEY_REVOKE: not the last slot usable for firmware (R469). -/
def execKeyRevoke (r : Req) (slot : Nat) (s : State) : Out :=
  .next (s.serve r 0x0908 none (fun s =>
    if 4 ≤ slot then reply s .badMessage
    else if ¬ pf0OrFw r.dom then reply s .denied
    else if (s.keySlot slot).usable 0 ∧ (s.sec.keys.filter (fun k => k.usable 0)).length = 1 then reply s .denied
    else reply { s with sec.keys := s.sec.keys.set slot { s.keySlot slot with revoked := true } } .ok))

/-- Read from a byte string as a bundle is read. -/
def readBytes (bs : List Byte) (off len : Nat) : List Byte := slice bs off len

/-- BOOT_CHUNK: host-loaded firmware under effective code 3, before step 7 ends (R473, R484). -/
def execBootChunk (r : Req) (offset total : Nat) (data : List Byte) (s : State) : Out :=
  .next (s.serve r 0x0910 none (fun s =>
    if r.dom ≠ 0x2000 ∨ s.fld 0 .RST_STATUS_BOOTSEL_EFF ≠ 3 ∨ 7 ≤ s.stepOf 0 then reply s .denied
    else if data.length % 16 ≠ 0 ∨ 4064 < data.length ∨ offset ≠ s.boot.chunks.length ∨ total < offset + data.length ∨ 0x1000000 < total ∨ total = 0 ∨
        (offset ≠ 0 ∧ s.boot.chunkTotal ≠ some total) then reply s .badMessage
    else
      let bs := s.boot.chunks ++ data
      let s1 := { s with boot.chunks := bs, boot.chunkTotal := some total }
      if bs.length < total then reply s1 .ok
      else
        match s1.verify (readBytes bs) false with
        | .ok _ => reply s1 .ok
        | .error c => reply { s1 with boot.chunks := [], boot.chunkTotal := none } .denied (leBytes 4 c)))

/-- Write of SEC_FUSE_CTRL: GO programs WORD with VALUE (R485), unless programming is in progress. It ends when nothing waits (`State.fusesDone`). -/
def wrFuseCtrl (m : Master) (d data : Nat) (s : State) : State :=
  s.guarded m d .SEC 0x28 (fun t =>
    let w := t.fld d .SEC_FUSE_ADDR_WORD
    let v := t.fld d .SEC_FUSE_DATA_VALUE
    if bits data 31 31 = 0 ∨ t.fld d .SEC_FUSE_CTRL_ACTIVE = 1 then t
    else if (t.programWord d w v v).isNone then t.flag d .SEC_FUSE_CTRL_REFUSED
    else ({ t with sec.fusing := t.sec.fusing ++ [(d, w, v)] } : State).flag d .SEC_FUSE_CTRL_ACTIVE)

/-- Programming that SEC_FUSE_CTRL started ends: the bits of the words are blown (R485). -/
def State.fusesDone (s : State) : State :=
  s.sec.fusing.foldl (fun t e => ((t.programWord e.1 e.2.1 e.2.2 e.2.2).getD t).setFld e.1 .SEC_FUSE_CTRL_ACTIVE 0 0) { s with sec.fusing := [] }

/-- A reset of the package stops programming: which of the bits are blown is open, a free value (notes/assumptions/110). -/
def State.fusesStop (s : State) : State :=
  s.sec.fusing.foldl (fun t e =>
    let (n, u) := t.fresh
    let v := Nat.land e.2.2 n
    (u.programWord e.1 e.2.1 v v).getD u) { s with sec.fusing := [] }

/-- SEC_FUSE_CTRL_GO. -/
def execSecFuseCtrlGo (m : Master) (d : Nat) (data : Word) (s : State) : Out :=
  .next (s.regWrite m d .SEC 0x28 data (wrFuseCtrl m d data.toNat))

/-- AUTHDATA_WRITE: the exchange of R480; in MANUFACTURE debug is open (R475). Verification waits for the end of
a blackout of SEC (R131). -/
def execAuthdataWrite (a : DmAccess) (s : State) : Out :=
  match a with
  | .dmactiveOff => .next (if s.sec.lc = 0 then { s with sec.dbg := none } else { s.setDbgAuth 0 0 with sec.dbg := none })
  | .authdata w =>
    if s.sec.lc = 0 then .next s
    else
      match s.sec.dbg with
      | none =>
        let f := s.fresh
        .next { f.2 with sec.dbg := some ⟨w.toNat, f.1 % 2 ^ 256, []⟩ }
      | some x =>
        let x' := { x with words := x.words ++ [w.toNat] }
        .next (if x'.words.length < 844 ∨ s.blackout 0 0 then { s with sec.dbg := some x' } else s.judgeDebug x')

end Sys2Proof.Machine
end

