-- ==== Sys2Proof/Machine/Functions.lean ====
section
/-!
DEFINITION. Machine/Functions.lean: functions, their resources and resizing (R300 to R305), function resets (R306 to R309, R521) and the freeze of a
migration (R310, R311).
-/
namespace Sys2Proof.Machine

/-- The domain of a function number. -/
def fnDom (n : Nat) : Dom := BitVec.ofNat 16 n

/-- ASSIGN of a function (R301). -/
def State.assign (s : State) (n : Nat) : Nat := s.fld 0 .FN_CFG_ASSIGN n

/-- Vectors that a function reserves from the pool: the present count, or the one that its next reset brings (R305). -/
def State.vectorsHeld (s : State) (n : Nat) : Nat :=
  if s.assign n = 0 then 0 else max (s.fld 0 .FN_CFG_VECTORS n) (lookupD s.fn.vecPending (fnDom n) 0)

/-- Functions that are enabled: PF_0 and every VF that the registers assign. -/
def State.enabledFns (s : State) : List Nat :=
  0 :: (s.regs.filterMap (fun e => if e.1.fld = .FN_CFG_ASSIGN ∧ e.1.i ≠ 0 ∧ e.2 ≠ 0 then some e.1.i else none)).eraseDups

/-- QUOTAs and vectors of the enabled functions other than one. -/
def State.othersQuota (s : State) (n : Nat) : Nat := (s.enabledFns.filter (fun m => decide (m ≠ n))).foldl (fun a m => a + s.fld 0 .FN_CFG_QUOTA m) 0
def State.othersVectors (s : State) (n : Nat) : Nat := (s.enabledFns.filter (fun m => decide (m ≠ n))).foldl (fun a m => a + s.vectorsHeld m) 0

/-- NumVFs of the DIE_0 and the DIE_1 controller (R301). -/
def State.numVf (s : State) (c : Nat) : Nat := lookupD s.fn.numVfs c 0

/-- The VFs of a controller by NumVFs (R301). -/
def State.vfRange (s : State) (c : Nat) : List Nat := if c = 0 then rangeFrom 1 (s.numVf 0) else rangeFrom (s.numVf 0 + 1) (s.numVf 1)

/-- The controller whose NumVFs covers a VF, where its VF Enable is 1 (R301). -/
def State.vfOf (s : State) (n : Nat) : Option Nat := [0, 1].find? (fun c => decide (c ∈ s.fn.vfEnable) && decide (n ∈ s.vfRange c))

/-- A in force for a function (R302): 32 for PF_0, that of its controller for a PCIe VF; a VF without a link reads its base under A of the DIE_0 controller. -/
def State.aperExp (s : State) (n : Nat) : Nat := if n = 0 then 32 else lookupD s.fn.apExp (if s.assign n = 2 then 1 else 0) 20

/-- The FUNCTION item of R312: ASSIGN, VECTORS, QUOTA, APER_BASE, A, and whether the controllers are enabled. -/
def State.functionItem (s : State) (n : Nat) : List Byte :=
  leBytes 1 (s.assign n) ++ leBytes 1 (s.fld 0 .FN_CFG_VECTORS n) ++ leBytes 2 (s.fld 0 .FN_CFG_QUOTA n) ++ leBytes 8 (s.fld 0 .FN_APER_BASE n) ++
  leBytes 1 (s.aperExp n) ++ leBytes 1 (s.fld 0 .PCIE_CFG_EN + 2 * s.fld 1 .PCIE_CFG_EN) ++ leBytes 42 0

/-- A function's configuration has changed: its quota goes to the standby where the function is mirrored (R432). -/
def State.functionChange (s : State) (n : Nat) : State := s.mirrorChange (fnDom n) [⟨1, s.genOf (fnDom n), s.functionItem n⟩]

/-- APER_BASE as stored: bits below A are 0 (R302, R316). -/
def State.aperOf (s : State) (n v : Nat) : Nat := v / 2 ^ s.aperExp n * 2 ^ s.aperExp n

/-- Whether a base lies in a populated range of R90. -/
def State.aperOk (s : State) (v : Nat) : Bool := s.inMemory v 1

/-- Whether a vector number at or above a count is in use by a queue or by MB_NOTIFY (R305). -/
def State.vectorsNamed (s : State) (n count : Nat) : Bool :=
  (s.queuesOf (fnDom n)).any (fun e => decide (count ≤ e.2.vector)) ||
  (decide (s.mbFld (fnDom n) .MB_NOTIFY_EN = 1) && decide (count ≤ s.mbFld (fnDom n) .MB_NOTIFY_VECTOR))

/-- Whether a mapped queue stands at or above a QUOTA. -/
def State.slotsAbove (s : State) (n quota : Nat) : Bool :=
  (s.queuesOf (fnDom n)).any (fun e => match e.2.mapSlot with
    | some j => decide (quota ≤ j)
    | none => false)

/-- Why a change of ASSIGN, QUOTA and VECTORS of a function that is not in reset is refused (R301, R305); ASSIGN 0 of an assigned function is a reset. -/
def State.resizeRefusal (s : State) (n assign quota vectors : Nat) : Option Status :=
  let was := s.assign n
  let pcie := s.numVf 0 + s.numVf 1
  let cur := s.fld 0 .FN_CFG_VECTORS n
  if assign ≠ 0 ∧ was ≠ 0 ∧ assign ≠ was then some .busy
  else if assign ≠ 0 ∧ n ≠ 0 ∧ was = 0 ∧ ¬ (if assign = 3 then pcie < n else s.vfOf n = some (assign - 1)) then some .conflict
  else if quota < s.fld 0 .FN_CFG_QUOTA n ∧ s.slotsAbove n quota then some .busy
  else if vectors < cur ∧ (was = 3 ∨ was = 0) ∧ s.vectorsNamed n vectors then some .busy
  else if (s.fld 0 .FN_CFG_QUOTA n < quota ∨ (was = 0 ∧ assign ≠ 0)) ∧ 65536 * s.part.dies < s.othersQuota n + quota then some .noResource
  else if (cur < vectors ∨ (was = 0 ∧ assign ≠ 0)) ∧ 131072 < s.othersVectors n + max vectors (if assign = 1 ∨ assign = 2 then cur else 0) then some .noResource
  else none

/-- The change takes effect (R305): the vectors of a PCIe function wait for its next reset. -/
def State.resize (s : State) (n assign quota vectors : Nat) : State :=
  let s1 := (s.setFld 0 .FN_CFG_ASSIGN n assign).setFld 0 .FN_CFG_QUOTA n quota
  if assign = 1 ∨ assign = 2 then
    if vectors = s.fld 0 .FN_CFG_VECTORS n then { s1 with fn.vecPending := eraseK s1.fn.vecPending (fnDom n) }
    else { s1 with fn.vecPending := insertKV s1.fn.vecPending (fnDom n) vectors }
  else s1.setFld 0 .FN_CFG_VECTORS n vectors

/-- The loss of a function's Class S work is a fault (R306, R448): source 8, or source 2 where a Class S sheaf is cancelled and its action is no lower. -/
def State.loseClassS (s : State) (fn : Dom) : State :=
  let silos := s.pins.claims.filterMap (fun e => if e.1.1 = 2 ∧ e.2.1 = fn ∧ e.2.2 = 0 then some (e.1.2.1, e.1.2.2) else none)
  match silos with
  | [] => s
  | (d, _) :: _ =>
    let work := (s.queuesOf fn).any (fun e => e.2.flight.any (fun h => decide (h.cls = 0) && !h.done))
    let dies := (silos.map (fun x => x.1)).eraseDups
    s.source { src := if work ∧ s.action 8 ≤ s.action 2 then 2 else 8, die := d } (s.classSOf dies)

/-- Mismatch sequences of a function whose re-run or publication is under way: the re-run or the publication is discarded, and a main core that failed its self-test
is removed all the same (R425). -/
def State.dropReruns (s : State) (fn : Dom) : State :=
  let gone := s.q.mismatches.filter (fun m => decide (m.fn = fn) && (m.second || m.copying))
  let left := s.q.mismatches.filter (fun m => !(decide (m.fn = fn) && (m.second || m.copying)))
  let s1 := s.dieList.foldl (fun (t : State) d => t.showSeq d) { s with q.mismatches := left }
  gone.foldl (fun t m => if m.copying then ((t.mismatchEvent m 1).removeCore m.die (coreOf m.main)).countPersistent m.die else t) s1

/-- GEN rises by one. -/
def State.nextGen (s : State) (fn : Dom) : State :=
  { s.setMb fn .FN_GEN_GEN ((s.genOf fn + 1) % 2 ^ 16) with
    fn.resets := s.fn.resets.map (fun r => if r.fn = fn then { r with advanced := true } else r) }

/-- Whether GEN is about to reach 0x0000 or 0x8000 (R306, R309). -/
def State.genWaits (s : State) (fn : Dom) : Bool := decide (s.genOf fn = 0x7FFF) || decide (s.genOf fn = 0xFFFF)

/-- A migration ends (R311): the freeze is over and those who waited for it are answered BUSY. -/
def State.endFreeze (s : State) (fn : Dom) : State :=
  let waiting := (s.fn.freezes.filter (fun f => decide (f.fn = fn))).map (fun f => f.asked)
  let s1 := { s with fn.freezes := s.fn.freezes.filter (fun f => decide (f.fn ≠ fn)), fn.moved := eraseK s.fn.moved fn }
  waiting.flatten.foldl (fun t r => t.answer r 0x0310 .busy []) (s1.setMb fn .FN_STATUS_FROZEN 0)

/-- A function goes back to work (R314): the source queues of one restored on the same part are destroyed, its source buffers freed and the silos it
left released; then its queues are ACTIVE. -/
def State.thawFn (s : State) (fn : Dom) : State :=
  let s1 : State := match lookup? s.fn.moved fn with
    | some (ids, bufs) =>
      let t : State := { s with q.queues := s.q.queues.filter (fun e => decide (e.1 ∉ ids)), memy.bufs := s.memy.bufs.filter (fun e => decide (e.1 ∉ bufs)) }
      bufs.foldl (fun (u : State) b => if b.2.2 = 2048 then u.ungrant 2 b.1 b.2.1 else u) t
    | none => s
  ({ s1 with
    q.queues := s1.q.queues.map (fun e => if e.2.fn = fn then (e.1, { e.2 with state := 1, loaded := true }) else e)
    fn.freezes := s1.fn.freezes.filter (fun f => decide (f.fn ≠ fn))
    fn.moved := eraseK s1.fn.moved fn } : State).setMb fn .FN_STATUS_FROZEN 0

/-- A handover ends without the partner (R437): its functions are thawed in place and the request is answered. -/
def State.abortHandover (s : State) : State :=
  match s.mirror.handover with
  | none => s
  | some r =>
    let s1 := (s.fn.freezes.filter (fun f => f.handover)).foldl (fun t f => t.thawFn f.fn)
      ({ s with mirror.handover := none } : State)
    let s2 := s1.setFld 0 .MIRROR_STATUS_HANDOVER 0 0
    match r with
    | some q => s2.answer q 0x0762 .timeout []
    | none => s2

/-- A function reset starts or is joined (R306 steps 1 to 4, R311, R521). `asked` is the request to answer at step 7 with its opcode. -/
def State.startFnReset (s : State) (fn : Dom) (asked : List (Req × Nat)) (release : Bool) : State :=
  if s.inReset fn then
    { s with fn.resets := s.fn.resets.map (fun r => if r.fn = fn then { r with asked := r.asked ++ asked, release := r.release || release } else r) }
  else
    let s1 : State := { s with fn.resets := s.fn.resets ++ [⟨fn, asked, false, release⟩] }
    let s2 := ((s1.setMb fn .FN_STATUS_RESET_BUSY 1).mbClose fn).endFreeze fn
    let s2 := if s.fn.freezes.any (fun f => decide (f.fn = fn) && f.handover) then s2.abortHandover else s2
    let s3 := (s2.dieList.foldl (fun t d => t.killWhere d false (fun _ p => decide (p.fn = fn))) s2).dropReruns fn
    if s3.genWaits fn then s3 else s3.nextGen fn

/-- A function reset that is no message of the protocol: the loss of Class S work is a fault (R306). -/
def State.forceFnReset (s : State) (fn : Dom) (release : Bool) : State :=
  if s.inReset fn then s.startFnReset fn [] release else (s.loseClassS fn).startFnReset fn [] release

/-- GEN_DRAIN_END (R306 step 4′, R309). -/
def execGenDrainEnd (n : Nat) (s : State) : Out :=
  let fn := fnDom n
  if 2048 < n then .next s
  else if s.fn.resets.any (fun r => decide (r.fn = fn) && !r.advanced) ∧ ¬ s.q.slots.any (fun e => decide (e.2.fn = fn)) then .next (s.nextGen fn)
  else .next s

/-- Steps 5 and 6 (R306): claims released, silos disabled, queues destroyed, MSI-X entries masked; a guarded grant goes (R482). -/
def State.clearFn (s : State) (fn : Dom) : State :=
  let claims := (s.pins.claims.filter (fun e => decide (e.2.1 = fn))).map (fun e => e.1)
  let s1 := claims.foldl (fun t c => t.ungrant c.1 c.2.1 c.2.2) s
  let own := (s1.queuesOf fn).map (fun e => e.1)
  let s2 := s1.cancelWhere (fun id _ => decide (id ∈ own))
  let s3 := (s2.queuesOf fn).foldl (fun t e => e.2.cancelReq.foldl (fun u r => u.answer r 0x0203 .ok []) t) s2
  { s3 with
    q.queues := s3.q.queues.filter (fun e => decide (e.2.fn ≠ fn))
    irq.msix := s3.irq.msix.filter (fun e => decide (e.1.1 ≠ fn))
    irq.pba := s3.irq.pba.filter (fun e => decide (e.1 ≠ fn))
    mail.grants := s3.mail.grants.filter (fun g => decide (g ≠ fn)) }

/-- Step 7 (R306): the registers of the page are restored, a waiting vector count takes effect, the requests are answered, and with ASSIGN 0 the
resources go back to the pools. -/
def State.finishFnReset (s : State) (r : FnReset) : State :=
  let n := r.fn.toNat
  let h := homeOf s.part.dies r.fn
  let p := pageOf r.fn
  let s1 := s.restore (fun k => decide (k.die = h) && decide (k.i = p) && (match k.fld with
    | .FN_STATUS_BADKEY | .FN_STATUS_MSI_ERR | .FN_STATUS_FROZEN | .FN_STATUS_RESET_BUSY | .FN_LATE_COUNT => true
    | _ => false))
  let s2 := match lookup? s1.fn.vecPending r.fn with
    | some v => { s1.setFld 0 .FN_CFG_VECTORS n v with fn.vecPending := eraseK s1.fn.vecPending r.fn }
    | none => s1
  let s3 := if r.release then s2.setFld 0 .FN_CFG_ASSIGN n 0 else s2
  let s4 := { s3 with fn.resets := s3.fn.resets.filter (fun x => decide (x.fn ≠ r.fn)) }
  r.asked.foldl (fun t a => t.answer a.1 a.2 .ok (if a.2 = 0x0314 then [] else leBytes 2 (s.genOf r.fn) ++ leBytes 2 0)) s4

/-- FUNCTION_RESET_END (R306 steps 5 to 7). -/
def execFunctionResetEnd (n : Nat) (s : State) : Out :=
  let fn := fnDom n
  if 2048 < n then .next s
  else
    match s.fn.resets.find? (fun r => decide (r.fn = fn) && r.advanced) with
    | none => .next s
    | some r => .next ((s.clearFn fn).finishFnReset r)

/-- Whether a sender may send the messages of the group about others (R315's group). -/
def State.fnSender (s : State) (r : Req) : Bool := s.manager r.dom

/-- A function reset asked by a message (R306): SAFETY_LOCKED for the holder of a Class S silo grant unless firmware sends it. -/
def State.resetByMessage (s : State) (r : Req) (op n : Nat) (release : Bool) : Reply :=
  if s.holdsClassS (fnDom n) ∧ r.dom ≠ fwDom ∧ ¬ s.inReset (fnDom n) then reply s .safetyLocked
  else later (s.startFnReset (fnDom n) [(r, op)] release)

/-- FN_CONFIG (R305). -/
def execFnConfig (r : Req) (n assign quota vectors aper : Nat) (s : State) : Out :=
  .next (s.serve r 0x0300 none (fun s =>
    if 2048 < n ∨ 4 ≤ assign ∨ 1024 < quota ∨ vectors = 0 ∨ 64 < vectors ∨ ¬ s.aperOk aper then reply s .badMessage
    else if ¬ s.fnSender r then reply s .denied
    else if n = 0 ∧ (assign ≠ 1 ∨ vectors ≠ 64 ∨ quota = 0) then reply s .badMessage
    else if assign = 0 ∧ s.assign n ≠ 0 then s.resetByMessage r 0x0300 n true
    else if s.inReset (fnDom n) then reply s .busy
    else
      match s.resizeRefusal n assign quota vectors with
      | some st => reply s st
      | none =>
        let s1 := s.resize n assign quota vectors
        reply ((s1.setFld 0 .FN_APER_BASE n (s1.aperOf n aper)).functionChange n) .ok (leBytes 2 (s1.genOf (fnDom n)) ++ leBytes 2 0)))

/-- Whether FN_RESET and FN_DISCARD are refused before the reset: no such function, or one that nothing assigns. -/
def State.resetMessage (s : State) (r : Req) (op n : Nat) : Reply :=
  if 2048 < n then reply s .badMessage
  else if ¬ s.fnSender r then reply s .denied
  else if s.assign n = 0 then reply s .badMessage
  else s.resetByMessage r op n false

/-- FN_RESET (R306, R521). -/
def execFnReset (r : Req) (n : Nat) (s : State) : Out := .next (s.serve r 0x0301 none (fun s => s.resetMessage r 0x0301 n))

/-- FN_DISCARD (R314). -/
def execFnDiscard (r : Req) (n : Nat) (s : State) : Out := .next (s.serve r 0x0314 none (fun s => s.resetMessage r 0x0314 n))

/-- STATE of a function (R316). -/
def State.fnStateOf (s : State) (fn : Dom) : Nat := if s.inReset fn then 1 else if s.frozen fn then 2 else 0

/-- FN_QUERY. -/
def execFnQuery (r : Req) (n : Nat) (s : State) : Out :=
  .next (s.serve r 0x0302 none (fun s =>
    let fn := fnDom n
    if 2048 < n then reply s .badMessage
    else if ¬ s.fnSender r ∧ r.dom ≠ fn then reply s .denied
    else
      let qs := s.queuesOf fn
      reply s .ok (leBytes 1 (s.assign n) ++ leBytes 1 (s.fnStateOf fn) ++ leBytes 2 (s.genOf fn) ++ leBytes 2 (s.fld 0 .FN_CFG_QUOTA n) ++
        leBytes 2 (min qs.length 0xFFFF) ++ leBytes 1 (s.fld 0 .FN_CFG_VECTORS n) ++ leBytes 7 0 ++ leBytes 8 (s.fld 0 .FN_APER_BASE n) ++
        ((List.range 8).map (fun d => leBytes 1 (min 255 (qs.filter (fun e => decide (e.1 / 65536 = d))).length))).flatten)))

/-- FN_QMAP (R304). -/
def execFnQmap (r : Req) (n first : Nat) (s : State) : Out :=
  .next (s.serve r 0x0303 none (fun s =>
    let fn := fnDom n
    if 2048 < n ∨ 1024 ≤ first then reply s .badMessage
    else if ¬ s.fnSender r ∧ r.dom ≠ fn then reply s .denied
    else
      reply s .ok (((rangeFrom first 64).map (fun j => match (s.queuesOf fn).find? (fun e => decide (e.2.mapSlot = some j)) with
        | some e => leBytes 4 e.1
        | none => leBytes 4 0xFFFFFFFF)).flatten)))

/-- FN_GLOBAL (R302). -/
def execFnGlobal (r : Req) (c a : Nat) (s : State) : Out :=
  .next (s.serve r 0x0304 none (fun s =>
    if 2 ≤ c ∨ a < 20 ∨ 32 < a then reply s .badMessage
    else if ¬ s.fnSender r then reply s .denied
    else if c ∈ s.fn.vfEnable then reply s .busy
    else reply { s with fn.apExp := insertKV s.fn.apExp c a } .ok))

/-- The queues of a function become FROZEN (R273, R310); a Q_DISABLE that waits for one to drain is answered BUSY. -/
def State.freezeQueues (s : State) (fn : Dom) : State :=
  let asked := (s.queuesOf fn).flatMap (fun e => e.2.cancelReq)
  asked.foldl (fun t r => t.answer r 0x0203 .busy [])
    ({ s with q.queues := s.q.queues.map (fun e => if e.2.fn = fn then (e.1, { e.2 with state := 3, cancelReq := [] }) else e) } : State)

/-- The freeze begins (R310): every queue FROZEN, killable commands killed and recorded as unplaced, except those of a mismatch sequence (R425). -/
def State.beginFreeze (s : State) (fn : Dom) (asked : List Req) (handover : Bool) : State :=
  let s1 : State := { s with fn.freezes := s.fn.freezes ++ [⟨fn, asked, false, s.now, handover⟩] }
  let s2 := (s1.freezeQueues fn).setMb fn .FN_STATUS_FROZEN 1
  let s3 := s2.dieList.foldl (fun t d => t.killWhere d true (fun r p => decide (p.fn = fn) && !s2.inSequence d r)) s2
  s3.freezeCheck fn

/-- FN_FREEZE (R310, R311). -/
def execFnFreeze (r : Req) (n : Nat) (s : State) : Out :=
  .next (s.serve r 0x0310 none (fun s =>
    let fn := fnDom n
    if 2048 < n then reply s .badMessage
    else if ¬ s.fnSender r then reply s .denied
    else if s.assign n = 0 then reply s .badMessage
    else if s.holdsClassS fn ∧ r.dom ≠ fwDom then reply s .safetyLocked
    else
      match s.fn.freezes.find? (fun f => decide (f.fn = fn)) with
      | some f =>
        if f.complete then reply s .ok
        else later { s with fn.freezes := s.fn.freezes.map (fun g => if g.fn = fn then { g with asked := g.asked ++ [r] } else g) }
      | none =>
        if s.inReset fn ∨ s.fn.freezes ≠ [] ∨ s.fw.activation.isSome ∨ s.fld 0 .MIRROR_STATUS_HANDOVER = 1 then reply s .busy
        else later (s.beginFreeze fn [r] false)))

/-- FUNCTION_LEVEL_RESET (R306): of one function of a controller's link, or of PF_0 there, which covers every VF of that controller. -/
def execFunctionLevelReset (c : Nat) (fn : Option Nat) (s : State) : Out :=
  match fn with
  | some 0 | none =>
    if 2 ≤ c then .next s
    else .next ((s.enabledFns.filter (fun n => decide (n = 0) || decide (s.assign n = c + 1))).foldl (fun t n => t.forceFnReset (fnDom n) false) s)
  | some n => if 2 ≤ c ∨ 2048 < n ∨ s.assign n ≠ c + 1 then .next s else .next (s.forceFnReset (fnDom n) false)

/-- FN_RESET of a page (R306, R315). -/
def wrFnReset (fn : Dom) (data : Nat) (s : State) : State :=
  if bits data 31 24 = 0xC3 then s.forceFnReset fn false else s.setMb fn .FN_STATUS_BADKEY 1

/-- FN_RESET_REG_WRITE. -/
def execFnResetRegWrite (m : Master) (n : Nat) (data : Word) (s : State) : Out :=
  if 2048 < n then .next s else .next (s.pageWrite m (fnDom n) 0x108 data (wrFnReset (fnDom n) data.toNat))

/-- FN_CFG_n (R305, R316). -/
def wrFnCfg (n data : Nat) (s : State) : State :=
  let a := bits data 31 30
  let q := bits data 26 16
  let v := bits data 6 0
  if 1024 < q ∨ v = 0 ∨ 64 < v ∨ (n = 0 ∧ (a ≠ 1 ∨ v ≠ 64 ∨ q = 0)) then s.flag 0 .SCH_STATUS_BADCFG
  else if a = 0 ∧ s.assign n ≠ 0 then s.forceFnReset (fnDom n) true
  else if s.inReset (fnDom n) ∨ (s.resizeRefusal n a q v).isSome then s.flag 0 .SCH_STATUS_BADCFG
  else (s.resize n a q v).functionChange n

/-- FN_APER_n as a whole (R316). -/
def wrFnAper (n v : Nat) (s : State) : State :=
  if s.inReset (fnDom n) ∨ ¬ s.aperOk (s.aperOf n v) then s.flag 0 .SCH_STATUS_BADCFG else (s.setFld 0 .FN_APER_BASE n (s.aperOf n v)).functionChange n

/-- FN_CFG_WRITE. -/
def execFnCfgWrite (m : Master) (n : Nat) (data : Word) (s : State) : Out :=
  if 2048 < n then .next s
  else .next (s.regWrite m 0 .SCH (0x80000 + 16 * n) data (fun s => s.guarded m 0 .SCH (0x80000 + 16 * n) (wrFnCfg n data.toNat)))

/-- Whether the pools have what a VF that is enabled draws from them (R300). -/
def State.poolsHold (s : State) (n : Nat) : Bool :=
  decide (s.othersQuota n + s.fld 0 .FN_CFG_QUOTA n ≤ 65536 * s.part.dies) && decide (s.othersVectors n + s.fld 0 .FN_CFG_VECTORS n ≤ 131072)

/-- NUMVFS_WRITE (R301, R306): NumVFs and VF Enable of the SR-IOV capability of a controller. NumVFs keeps its value while VF Enable is 1. Setting VF
Enable assigns the controller's VFs; clearing it resets them and gives their resources back. DESIGN CHOICE (notes/assumptions/102): a VF for which the pools of R300
have no room stays disabled. -/
def execNumvfsWrite (c n : Nat) (en : Bool) (s : State) : Out :=
  if 2 ≤ c then .next s
  else
    let was := decide (c ∈ s.fn.vfEnable)
    let s1 := if was && en then s else { s with fn.numVfs := insertKV s.fn.numVfs c (min n (2048 - s.numVf (1 - c))) }
    if was = en then .next s1
    else if en then
      let s2 := { s1 with fn.vfEnable := c :: s1.fn.vfEnable }
      .next ((s2.vfRange c).foldl (fun t v => if t.assign v = 0 ∧ t.poolsHold v then t.setFld 0 .FN_CFG_ASSIGN v (c + 1) else t) s2)
    else
      let s2 := { s1 with fn.vfEnable := s1.fn.vfEnable.filter (fun x => decide (x ≠ c)) }
      .next ((s2.enabledFns.filter (fun v => decide (s2.assign v = c + 1) && decide (v ≠ 0))).foldl (fun t v => t.forceFnReset (fnDom v) true) s2)

end Sys2Proof.Machine
end

