-- ==== Sys2Proof/Machine/Image.lean ====
section
/-!
DEFINITION. Machine/Image.lean: free bushels and spill space (R153, R154), the saved state of a function as records and as an image (R312, R313, R481),
and the rows FN_SAVE, FN_RESTORE and FN_THAW (R314).
-/
namespace Sys2Proof.Machine

/-- Bushels of a slice in use as (first, number): resident buffers, and the places that refills copy into (R153, R154). -/
def State.sliceRuns (s : State) (d sl : Nat) : List (Nat × Nat) :=
  let here (b : Nat) := decide (sliceBase d sl ≤ b) && decide (b < sliceBase d sl + 0x5000000)
  (s.memy.bufs.filterMap (fun e => if e.2.valid ∧ ¬ e.2.spilled ∧ here e.2.base then some ((e.2.base - sliceBase d sl) / 0x10000, bushels e.2.length) else none)) ++
  (s.memy.spills.filterMap (fun m => if m.2.refill ∧ here m.2.dest then
      (lookup? s.memy.bufs (m.1.1, m.1.2.1, m.2.index)).map (fun e => ((m.2.dest - sliceBase d sl) / 0x10000, bushels e.length)) else none))

/-- Bushels that a silo uses in a slice (R153). -/
def State.usedBushels (s : State) (d k sl : Nat) : Nat :=
  let here (b : Nat) := decide (sliceBase d sl ≤ b) && decide (b < sliceBase d sl + 0x5000000)
  (s.memy.bufs.filter (fun e => e.2.valid && !e.2.spilled && decide (e.1.2.1 = k) && here e.2.base)).foldl (fun a e => a + bushels e.2.length) 0 +
  (s.memy.spills.filter (fun m => m.2.refill && decide (m.1.2.1 = k) && here m.2.dest)).foldl (fun a m =>
    match lookup? s.memy.bufs (m.1.1, m.1.2.1, m.2.index) with
    | some e => a + bushels e.length
    | none => a) 0

/-- The quota of a silo in a slice. -/
def State.quotaOf (s : State) (d k sl : Nat) : Nat := s.fld d .GRN_QUOTA_QUOTA (6 * k + sl)

/-- Whether a run of units overlaps any of some runs. -/
def runFree (runs : List (Nat × Nat)) (b n : Nat) : Bool := runs.all (fun r => decide (b + n ≤ r.1) || decide (r.1 + r.2 ≤ b))

/-- The lowest free contiguous run of bushels in a slice, as an address. -/
def State.findRun (s : State) (d sl n : Nat) : Option Nat :=
  let runs := s.sliceRuns d sl
  ((List.range (1281 - n)).find? (fun b => runFree runs b n)).map (fun b => sliceBase d sl + 0x10000 * b)

/-- A place for a buffer in a silo's quota (R153). -/
def State.allocRun (s : State) (d k sl len : Nat) : Option Nat :=
  if s.quotaOf d k sl < s.usedBushels d k sl + bushels len then none else s.findRun d sl (bushels len)

/-- The runs of a die's spill region in use, in units of 64 KiB: the mirror engine's queue at the foot of DIE_0's, spilled buffers, and the places that spills copy into
(R143, R154, R433). -/
def State.spillRuns (s : State) (d : Nat) : List (Nat × Nat) :=
  let base := spillBase s.part d
  let run (b len : Nat) : Option (Nat × Nat) := if base ≤ b ∧ b < base + 0x40000000 then some ((b - base) / 0x10000, bushels len) else none
  (if d = 0 then [(0, 64)] else []) ++
  s.memy.bufs.filterMap (fun e => if e.2.valid ∧ e.2.spilled then run e.2.base e.2.length else none) ++
  s.memy.spills.filterMap (fun m => if m.2.refill then none else (lookup? s.memy.bufs (m.1.1, m.1.2.1, m.2.index)).bind (fun e => run m.2.dest e.length))

/-- The lowest free place for a buffer in the spill region of a die (R154). -/
def State.findSpill (s : State) (d len : Nat) : Option Nat :=
  let runs := s.spillRuns d
  let ends := 0 :: (sortBy (fun a b => decide (a ≤ b)) (runs.map (fun r => r.1 + r.2)))
  (ends.find? (fun b => decide (b + bushels len ≤ 16384) && runFree runs b (bushels len))).map (fun b => spillBase s.part d + 0x10000 * b)

/-- Silos that a function holds. -/
def State.fnSilos (s : State) (fn : Dom) : List (Nat × Nat) :=
  s.pins.claims.filterMap (fun e => if e.1.1 = 2 ∧ e.2.1 = fn then some (e.1.2.1, e.1.2.2) else none)

/-- Buffers of a function's silos. -/
def State.fnBufs (s : State) (fn : Dom) : List ((Nat × Nat × Nat) × BufEnt) :=
  ((s.fnSilos fn).map (fun x => (s.siloBufs x.1 x.2).filter (fun e => decide (e.1.2.2 < 1024) && decide (e.1 ∉ s.memy.released)))).flatten

/-- An MSI-X table entry of the PCI Express layout. -/
def msixItem (e : Option MsixEnt) : List Byte :=
  match e with
  | some e => leBytes 8 e.addr ++ leBytes 4 e.data ++ leBytes 4 (b2n e.masked)
  | none => leBytes 12 0 ++ leBytes 4 1

/-- The PBA of a function as a number. -/
def State.pbaOf (s : State) (fn : Dom) : Nat := (List.range 64).foldl (fun a v => if (fn, v) ∈ s.irq.pba then a + 2 ^ v else a) 0

/-- The MSIX section of R312. -/
def State.msixSection (s : State) (fn : Dom) : List Byte :=
  ((List.range (s.fld 0 .FN_CFG_VECTORS fn.toNat)).map (fun v => msixItem (lookup? s.irq.msix (fn, v)))).flatten ++ leBytes 8 (s.pbaOf fn)

/-- The KV item: where a run of Loft slots lies, its number, die and silo, then the slots. -/
def State.kvItem (s : State) (e : (Nat × Nat) × (Nat × Nat)) : List Byte :=
  leBytes 4 e.1.2 ++ leBytes 4 e.2.2 ++ leBytes 4 e.1.1 ++ leBytes 4 e.2.1 ++ s.bytes (kvBase e.1.1 + 16 * e.1.2) (16 * e.2.2)

/-- Submission slots not yet consumed and completion records not yet read (R312, RING). -/
def State.ringRecs (s : State) (q : Queue) : List MirrorRec :=
  (rangeFrom q.sqHead (countDist q.sqTail q.sqHead)).map (fun n => ⟨9, q.slotAddr (n % 2 ^ 32), s.bytes (q.slotAddr (n % 2 ^ 32)) 64⟩) ++
  (rangeFrom q.cqHead (countDist q.cqTail q.cqHead)).map (fun n => ⟨9, q.recAddr (n % 2 ^ 32), s.bytes (q.recAddr (n % 2 ^ 32)) 32⟩)

/-- The state of a function as records of the section types of R312, in their order. -/
def State.imageRecs (s : State) (fn : Dom) (partner buffers : Bool) : List MirrorRec :=
  let qs := (s.queuesOf fn).filter (fun e => e.2.mapSlot.isSome)
  let bufs := s.fnBufs fn
  let ev := (s.box fn).evq
  [⟨1, s.genOf fn, s.functionItem fn.toNat⟩, ⟨2, s.fld 0 .FN_CFG_VECTORS fn.toNat, s.msixSection fn⟩] ++
  qs.map (fun e => ⟨3, e.2.mapSlot.getD 0, queueItem e.1 e.2⟩) ++
  (qs.map (fun e => (e.2.flight.filter (fun h => !h.done)).map (fun h => (⟨4, e.1, sheafItem e.2 h⟩ : MirrorRec)))).flatten ++
  (s.pins.claims.filter (fun e => decide (e.2.1 = fn))).map (fun e => ⟨5, 0, claimItem e.1.1 e.1.2.1 e.1.2.2 e.2.2⟩) ++
  (s.fnSilos fn).map (fun x => ⟨6, x.1 * 16 + x.2, siloItem x.1 x.2 (s.siloCfg x.1 x.2)⟩) ++
  bufs.map (fun e => ⟨7, 0, bufItem e.1 e.2⟩) ++
  (if buffers then bufs.map (fun e => ⟨8, e.2.base, s.bytes e.2.base e.2.length⟩) else []) ++
  (if partner then (qs.map (fun e => s.ringRecs e.2)).flatten else []) ++
  ev.map (fun e => ⟨10, 0, e.payload⟩) ++
  (s.memy.kvAlloc.filter (fun e => decide ((e.1.1, e.2.1) ∈ s.fnSilos fn))).map (fun e => ⟨11, e.1.1, s.kvItem e⟩)

/-- Bytes padded with zeros to a multiple. -/
def padTo (n : Nat) (bs : List Byte) : List Byte := bs ++ leBytes ((n - bs.length % n) % n) 0

/-- One section of an image (R312): its header and its content, padded to 64 bytes. Each buffer of BUFDATA is padded by itself. -/
def sectionBytes (kind : Nat) (rs : List MirrorRec) : List Byte :=
  let body := (rs.map (fun r => if kind = 8 then padTo 64 r.content else r.content)).flatten
  let count := if kind = 2 then (rs.map (fun r => r.object)).foldl (· + ·) 0 else rs.length
  padTo 64 (leBytes 2 kind ++ leBytes 2 count ++ leBytes 4 (8 + body.length) ++ body)

/-- The sections of an image: those with items. -/
def imageSections (rs : List MirrorRec) : List (List Byte) :=
  (rangeFrom 1 11).filterMap (fun k => let own := rs.filter (fun r => decide (r.kind = k)); if own = [] then none else some (sectionBytes k own))

/-- A key of R481 as the argument of the cipher: 2n the part key of the n-th draw, 2n + 1 the pair key. -/
def State.imageKey (s : State) (keyId : Nat) : Option Nat :=
  if keyId = 0 then some (2 * s.sec.partKey) else if keyId = 1 then s.sec.pairKey.map (fun n => 2 * n + 1) else none

/-- Encrypt or decrypt under a key and IV (R481). -/
def cipher (key iv : Nat) : Nat → List Byte → List Byte
  | _, [] => []
  | i, b :: bs => (b ^^^ Config.aesStream key iv i) :: cipher key iv (i + 1) bs

/-- The copy engine of DIE_0, which FN_SAVE and FN_RESTORE move bytes with (R97, R314). -/
def copyEngine : Master := ioMaster 0 29

/-- What stops the copy engine's reads, at poisoned granules: each is an uncorrectable error (R149). -/
def State.copyUes (s : State) (runs : List (Nat × Nat)) : Option State :=
  match runs.flatMap (fun r => s.poisonIn r.1 r.2) with
  | [] => none
  | gs => some (gs.foldl (fun t g => t.readUe g (agentOf copyEngine)) s)

/-- FN_SAVE (R312, R481). A place that the copy engine may not write is a bus error (R92, R143), and an uncorrectable error in what it reads ends the transfer (R149);
the messages that answer then are the model's choice (notes/assumptions/91). -/
def execFnSave (r : Req) (n flags maxLen addr : Nat) (s : State) : Out :=
  .next (s.serve r 0x0311 none (fun s =>
    let fn := fnDom n
    if 2048 < n ∨ 4 ≤ flags then reply s .badMessage
    else if ¬ s.fnSender r then reply s .denied
    else if bit flags 1 ∧ ¬ s.hasFeature r 13 then reply s .unsupported
    else
      match s.fn.freezes.find? (fun f => decide (f.fn = fn) && f.complete) with
      | none => reply s .busy
      | some f =>
        let recs := s.imageRecs fn (bit flags 1) (bit flags 0)
        let secs := imageSections recs
        let body := secs.flatten
        let len := 128 + body.length
        match decodeAddr s.part 0 addr, s.imageKey (flags / 2) with
        | .dram _ o, some key =>
          if s.part.dramBytes < o + len then reply s .badMessage
          else if maxLen < len then reply s .noResource
          else
          match s.memRefusal copyEngine addr len, s.copyUes ((recs.filter (fun x => decide (x.kind = 8 ∨ x.kind = 9))).map (fun x => (x.object, x.content.length))) with
          | some e, _ => reply (s.fabLog e.2 false e.1 addr copyEngine true) .badMessage
          | none, some t => reply t .timeout
          | none, none =>
            let head := leBytes 4 0x4E465653 ++ leBytes 1 1 ++ leBytes 1 0 ++ leBytes 2 n ++ leBytes 2 (s.genOf fn) ++ leBytes 1 s.part.dies ++ leBytes 1 flags ++
              leBytes 4 secs.length ++ leBytes 8 len ++ leBytes 8 (f.time / 1000000000) ++ leBytes 4 (f.time % 1000000000) ++ leBytes 28 0
            let iv := leBytes 8 s.sec.saveCount ++ leBytes 2 n ++ leBytes 2 0
            let c := cipher key (leNat iv) 0 body
            let auth := leBytes 4 (flags / 2) ++ iv ++ leBytes 16 (Config.gcmTag key (leNat iv) head c).toNat ++ leBytes 32 0
            reply ({ s.store (agentOf copyEngine) addr (head ++ auth ++ c) with sec.saveCount := s.sec.saveCount + 1 }) .ok (leBytes 8 len)
        | .dram _ _, none => reply s .denied
        | _, _ => reply s .badMessage))

/-- The sections of an image: kind, count and content of each; none when one is malformed. The first argument bounds their number. -/
def parseSections : Nat → List Byte → Option (List (Nat × Nat × List Byte))
  | _, [] => some []
  | 0, _ => none
  | n + 1, bs =>
    let k := leAt bs 0 2
    let len := leAt bs 4 4
    let full := ceilDiv len 64 * 64
    if k = 0 ∨ 11 < k ∨ len < 8 ∨ bs.length < full then none
    else (parseSections n (bs.drop full)).map (fun r => (k, leAt bs 2 2, slice bs 8 (len - 8)) :: r)

/-- Items of equal length; the first argument is their number. -/
def itemsOf (kind size : Nat) : Nat → List Byte → Option (List MirrorRec)
  | 0, bs => if bs = [] then some [] else none
  | n + 1, bs => if bs.length < size then none else (itemsOf kind size n (bs.drop size)).map (fun r => ⟨kind, 0, bs.take size⟩ :: r)

/-- Items whose length the item tells. -/
def itemsBy (kind : Nat) (size : List Byte → Nat) : Nat → List Byte → Option (List MirrorRec)
  | 0, bs => if bs = [] then some [] else none
  | n + 1, bs =>
    let k := size bs
    if k = 0 ∨ bs.length < k then none else (itemsBy kind size n (bs.drop k)).map (fun r => ⟨kind, 0, bs.take k⟩ :: r)

/-- Items at places and of lengths known beforehand: (address, bytes, bytes taken). -/
def itemsAt (kind : Nat) : List (Nat × Nat × Nat) → List Byte → Option (List MirrorRec)
  | [], bs => if bs = [] then some [] else none
  | (a, n, k) :: r, bs => if bs.length < k then none else (itemsAt kind r (bs.drop k)).map (fun x => ⟨kind, a, bs.take n⟩ :: x)

/-- The queue that a context spells (R272), FROZEN. -/
def contextQueue (c : List Byte) (slot : Option Nat) : Queue :=
  ⟨leAt c 0 6, leAt c 6 1, leAt c 7 1, leAt c 8 6, BitVec.ofNat 16 (leAt c 14 2), leAt c 16 4, leAt c 20 4, leAt c 24 4, leAt c 28 4, leAt c 32 2, 3,
   bit (leAt c 35 1) 0, leAt c 36 2, leAt c 38 1, leAt c 40 6, false, slot, leAt c 16 4, [], [], [], [], true⟩

/-- The records of one section; RING and BUFDATA take their places from the QUEUE and BUFTAB items before them. -/
def sectionRecs (before : List MirrorRec) (x : Nat × Nat × List Byte) : Option (List MirrorRec) :=
  let (kind, count, bs) := x
  match kind with
  | 1 => if count = 1 ∧ bs.length = 56 then some [⟨1, 0, bs⟩] else none
  | 2 => if bs.length = 16 * count + 8 then some [⟨2, count, bs⟩] else none
  | 3 => itemsOf 3 128 count bs
  | 4 => itemsBy 4 (fun b => 24 + ceilDiv (ceilDiv (leAt b 8 2) 8) 8 * 8) count bs
  | 5 => itemsOf 5 16 count bs
  | 6 => itemsOf 6 24 count bs
  | 7 => itemsOf 7 16 count bs
  | 8 => itemsAt 8 ((before.filter (fun r => decide (r.kind = 7))).map (fun r => (leAt r.content 0 6, leAt r.content 8 4, ceilDiv (leAt r.content 8 4) 64 * 64))) bs
  | 9 => itemsAt 9 (((before.filter (fun r => decide (r.kind = 3))).map (fun r =>
      let q := contextQueue (slice r.content 8 64) none
      (rangeFrom q.sqHead (countDist q.sqTail q.sqHead)).map (fun n => (q.slotAddr (n % 2 ^ 32), 64, 64)) ++
      (rangeFrom q.cqHead (countDist q.cqTail q.cqHead)).map (fun n => (q.recAddr (n % 2 ^ 32), 32, 32)))).flatten) bs
  | 10 => itemsOf 10 32 count bs
  | _ => itemsBy 11 (fun b => 16 + 16 * leAt b 4 4) count bs

/-- The records of an image. -/
def imageOf : List MirrorRec → List (Nat × Nat × List Byte) → Option (List MirrorRec)
  | acc, [] => some acc
  | acc, x :: xs => (sectionRecs acc x).bind (fun rs => imageOf (acc ++ rs) xs)

/-- The sheaf that a SHEAF item and its header in the ring spell. -/
def restoredSheaf (header : List Byte) (item : List Byte) : Sheaf :=
  let n := leAt item 8 2
  let bm := leAt item 24 (ceilDiv n 8)
  let h := sheafOf header (leAt item 4 4) (leAt item 16 8)
  let cmds := (List.range n).map (fun i => if bit bm i then CmdPos.committed else CmdPos.unplaced)
  { h with count := n, preempt := leAt item 10 2, cmds := cmds, high := (List.range n).foldl (fun a i => if bit bm i then i + 1 else a) 0 }

/-- Put a sheaf into its place in ring order. -/
def putSheaf (h : Sheaf) : List Sheaf → List Sheaf
  | [] => [h]
  | x :: xs => if x.hdr = h.hdr then h :: xs else if laterCount x.hdr h.hdr then h :: x :: xs else x :: putSheaf h xs

/-- The event that an EVENTS item spells. -/
def restoredEvent (b : List Byte) : Option EvRec :=
  (Ev.all.find? (fun e => decide (e.code = leAt b 0 2))).map (fun e => ⟨e, leAt b 3 1, leAt b 4 2, leAt b 6 2, leAt b 8 8, leAt b 16 4, slice b 20 12⟩)

/-- The standing queue of a function in a map slot. -/
def State.slotQueue (s : State) (fn : Dom) (j : Nat) : Option (Nat × Queue) := (s.queuesOf fn).find? (fun e => decide (e.2.mapSlot = some j))

/-- The silo configuration that a SILO item spells. -/
def siloOfItem (b : List Byte) : SiloCfg :=
  ⟨leAt b 2 1, leAt b 3 1, leAt b 4 6, leAt b 10 1, leAt b 11 1, leAt b 12 2, leAt b 14 1, leAt b 15 1, bit (leAt b 16 1) 0⟩

/-- A function is FROZEN with nothing in flight. -/
def State.holdFrozen (s : State) (fn : Dom) : State :=
  if s.frozen fn then s
  else ({ s with fn.freezes := s.fn.freezes ++ [(⟨fn, [], true, s.now, false⟩ : FnFreeze)] } : State).setMb fn .FN_STATUS_FROZEN 1

/-- One record of a function's state takes its place (R313, R432); none when a resource is lacking. A buffer whose entry moves takes its bytes along (DEDUCED,
notes/assumptions/107). -/
def State.putRec (fn : Dom) (s : State) (r : MirrorRec) : Option State :=
  let b := r.content
  match r.kind with
  | 1 =>
    let n := fn.toNat
    let s1 := s.setFlds 0 n [(.FN_CFG_ASSIGN, leAt b 0 1), (.FN_CFG_VECTORS, leAt b 1 1), (.FN_CFG_QUOTA, leAt b 2 2), (.FN_APER_BASE, leAt b 4 8)]
    if 65536 * s.part.dies < s1.othersQuota n + leAt b 2 2 ∨ 131072 < s1.othersVectors n + leAt b 1 1 then none
    else some ((s1.setMb fn .FN_GEN_GEN r.object).holdFrozen fn)
  | 2 =>
    let v := (b.length - 8) / 16
    let ents := (List.range v).filterMap (fun i =>
      let x := slice b (16 * i) 16
      if x = msixItem none then none else some ((fn, i), (⟨leAt x 0 8, leAt x 8 4, bit (leAt x 12 4) 0⟩ : MsixEnt)))
    let pba := (List.range 64).filterMap (fun i => if bit (leAt b (16 * v) 8) i then some (fn, i) else none)
    some { s with irq.msix := s.irq.msix.filter (fun e => decide (e.1.1 ≠ fn)) ++ ents, irq.pba := s.irq.pba.filter (fun e => decide (e.1 ≠ fn)) ++ pba }
  | 3 =>
    let j := leAt b 0 4
    let d := leAt b 4 4
    let q := contextQueue (slice b 8 64) (some j)
    match s.slotQueue fn j with
    | some (id, old) => some (s.setQueue id { q with fn := fn, flight := old.flight.filter (fun h => !laterCount q.sqHead h.hdr), next := old.next })
    | none => if s.hasDie d then (s.freeQueue d).map (fun id => s.setQueue id { q with fn := fn }) else none
  | 4 =>
    match s.slotQueue fn (leAt b 0 4) with
    | some (id, q) =>
      let h := restoredSheaf (s.bytes (q.slotAddr (leAt b 4 4)) 64) b
      let n := (h.hdr + h.count + 1) % 2 ^ 32
      some (if laterCount q.sqHead h.hdr then s
        else s.setQueue id { q with flight := putSheaf (if h.waitKind = 0 then { h with ready := some s.now } else h) q.flight, next := if laterCount n q.next then n else q.next })
    | none => none
  | 5 =>
    let ty := leAt b 0 1
    let d := leAt b 1 1
    let i := leAt b 2 2
    some (if leAt b 6 1 = 0xFF then s.ungrant ty d i else s.grant fn ty d (leAt b 6 1) i)
  | 6 => some (s.applyCfg (leAt b 0 1) (leAt b 1 1) (siloOfItem b))
  | 7 =>
    let h := leAt b 12 4
    let f := leAt b 6 1
    let base := leAt b 0 6
    let s1 := match s.bufOf h with
      | some e => if e.base = base then s else s.copyMem e.base base e.length
      | none => s
    some (s1.setBuf (handleDie h) (handleSilo h) (handleIdx h) ⟨base, bit f 0, bit f 1, bit f 2, false, leAt b 7 1, leAt b 8 4, handleGen h⟩)
  | 8 | 9 => some (s.write r.object b)
  | 10 => some (match restoredEvent b with
    | some e => s.setBox fn { s.box fn with evq := ((s.box fn).evq ++ [e]).take 32 }
    | none => s)
  | 11 =>
    let d := leAt b 8 4
    let base := leAt b 0 4
    let n := leAt b 4 4
    let own := s.memy.kvAlloc.filter (fun e => !(decide (e.1 = (d, base)) && decide (e.2.1 = leAt b 12 4)))
    if n = 0 then some { s with memy.kvAlloc := own }
    else if ¬ runFree (own.filterMap (fun e => if e.1.1 = d then some (e.1.2, e.2.2) else none)) base n ∨ s.fld d .LOFT_MAP_KV_MIB * 65536 < base + n then none
    else some (({ s with memy.kvAlloc := own ++ [((d, base), (leAt b 12 4, n))] } : State).write (kvBase d + 16 * base) (b.drop 16))
  | _ => some s

/-- Put records in order. -/
def State.putRecs (fn : Dom) : State → List MirrorRec → Option State
  | s, [] => some s
  | s, r :: rs => (s.putRec fn r).bind (fun t => t.putRecs fn rs)

/-- A record with its die mapped to the target (R313). -/
def mapRec (dieMap : List Nat) (r : MirrorRec) : MirrorRec :=
  let b := r.content
  let toDie (d : Nat) := dieMap.getD d d
  match r.kind with
  | 3 => { r with content := b.take 4 ++ leBytes 4 (toDie (leAt b 4 4)) ++ b.drop 8 }
  | 5 => if leAt b 0 1 = 2 then { r with content := b.take 1 ++ leBytes 1 (toDie (leAt b 1 1)) ++ b.drop 2 } else r
  | 6 => { r with content := leBytes 1 (toDie (leAt b 0 1)) ++ b.drop 1 }
  | 11 => { r with content := b.take 8 ++ leBytes 4 (toDie (leAt b 8 4)) ++ b.drop 12 }
  | _ => r

/-- A buffer moves to the quota of the target die (R313): its handle stays, its bushels are new, and the old ones are kept under an index that no
handle names until the thaw. -/
def State.moveBuf (s : State) (dieMap : List Nat) (b : List Byte) (data : List Byte) : Option State :=
  let h := leAt b 12 4
  let base := leAt b 0 6
  let k := handleSilo h
  match lookup? s.memy.bufs (handleDie h, k, handleIdx h) with
  | none => none
  | some e =>
    let d := match memLoc s.part base with
      | some l => dieMap.getD l.die l.die
      | none => 0
    match (if e.spilled then s.findSpill d e.length else s.allocRun d k e.slice e.length) with
    | none => none
    | some a =>
      let s1 := (s.setBuf (handleDie h) k (handleIdx h + 1024) e).setBuf (handleDie h) k (handleIdx h) { e with base := a }
      some (s1.write a data)

/-- Move every buffer of an image. -/
def State.moveBufs (dieMap : List Nat) : State → List MirrorRec → List MirrorRec → Option State
  | s, b :: bs, x :: xs => (s.moveBuf dieMap b.content x.content).bind (fun t => t.moveBufs dieMap bs xs)
  | s, _, _ => some s

/-- The handles of an image go with the function: each names a buffer of its silo on the die that DIE_MAP names (R312, R313). -/
def State.carry (s : State) (rs : List MirrorRec) (dieMap : List Nat) : State :=
  rs.foldl (fun t r =>
    let h := leAt r.content 12 4
    let d := t.bufDie h
    { t with memy.carried := insertKV t.memy.carried (handleDie h, handleSilo h, handleIdx h) (dieMap.getD d d) }) s

/-- The rebuilding of a function on the same part (R313): source queues leave their map slots to new ones. -/
def State.restoreHere (s : State) (fn : Dom) (buffers : Bool) (dieMap : List Nat) (rs : List MirrorRec) : Option State :=
  let of (k : Nat) := rs.filter (fun r => decide (r.kind = k))
  let src := if s.frozen fn then (s.queuesOf fn).map (fun e => e.1) else []
  let s1 : State := { s with q.queues := s.q.queues.map (fun e => if e.1 ∈ src then (e.1, { e.2 with mapSlot := none }) else e) }
  let left := (of 5).filterMap (fun r => let d := leAt r.content 1 1; if leAt r.content 0 1 = 2 ∧ dieMap.getD d d ≠ d ∧ buffers then some (d, leAt r.content 2 2, 2048) else none)
  if ((of 3).any (fun r => (s1.slotQueue fn (leAt r.content 0 4)).isSome)) then none
  else
    (s1.putRecs fn ((of 5 ++ of 6 ++ (of 11).filter (fun r => dieMap.getD r.object r.object ≠ r.object)).map (mapRec dieMap))).bind (fun s2 =>
      (if buffers then s2.moveBufs dieMap (of 7) (of 8) else some s2).bind (fun s3 =>
        (s3.putRecs fn ((of 3 ++ of 4 ++ of 2).map (mapRec dieMap))).map (fun s4 =>
          let old := if buffers then (of 7).map (fun r => let h := leAt r.content 12 4; (handleDie h, handleSilo h, handleIdx h + 1024)) else []
          let s5 := s4.carry (of 7) dieMap
          { s5.holdFrozen fn with fn.moved := insertKV s5.fn.moved fn (src, old ++ left) })))

/-- Whether the bushels of an image's buffers are free where they stood, as the partner needs them (R313). -/
def State.placesFree (s : State) (rs : List MirrorRec) : Bool :=
  rs.all (fun r =>
    let base := leAt r.content 0 6
    let n := leAt r.content 8 4
    (s.inMemory base n) && s.memy.bufs.all (fun e => !e.2.valid || decide (e.2.base + bushels e.2.length * 0x10000 ≤ base) || decide (base + bushels n * 0x10000 ≤ e.2.base)))

/-- The first claim of an image that is not free on the target (R313). -/
def State.claimTaken (s : State) (fn : Dom) (dieMap : List Nat) (rs : List MirrorRec) : Bool :=
  rs.any (fun r =>
    let b := (mapRec dieMap r).content
    let h := s.holderOf (leAt b 0 1) (leAt b 1 1) (leAt b 2 2)
    !s.hasResource (leAt b 0 1) (leAt b 1 1) (leAt b 2 2) || (decide (h ≠ noDom) && decide (h ≠ fn)))

/-- FN_RESTORE (R313, R481). An image that the copy engine may not read is a bus error (R92, R143), and one with an uncorrectable error does not verify (R149;
notes/assumptions/91). -/
def execFnRestore (r : Req) (n flags len addr : Nat) (dieMap : List Nat) (s : State) : Out :=
  .next (s.serve r 0x0312 none (fun s =>
    let fn := fnDom n
    if 2048 < n ∨ 4 ≤ flags ∨ len < 128 ∨ ¬ s.inMemory addr len then reply s .badMessage
    else if ¬ s.fnSender r then reply s .denied
    else if bit flags 1 ∧ ¬ s.hasFeature r 13 then reply s .unsupported
    else
      match s.memRefusal copyEngine addr len, s.copyUes [(addr, len)] with
      | some e, _ => reply (s.fabLog e.2 false e.1 addr copyEngine false) .badMessage
      | none, some t => reply t .denied
      | none, none =>
      let img := s.bytes addr len
      let head := img.take 64
      let auth := slice img 64 64
      let sealed := img.drop 128
      match s.imageKey (leAt auth 0 1) with
      | none => reply s .denied
      | some key =>
        let iv := leAt auth 4 12
        if (Config.gcmTag key iv head sealed).toNat ≠ leAt auth 16 16 ∨ leAt auth 1 3 ≠ 0 then reply s .denied
        else
          let secs := parseSections 16 (cipher key iv 0 sealed)
          match secs.bind (imageOf []) with
          | none => reply s .badMessage
          | some rs =>
            let partner := bit (leAt head 11 1) 1
            let buffers := bit (leAt head 11 1) 0
            let of (k : Nat) := rs.filter (fun x => decide (x.kind = k))
            if leAt head 0 4 ≠ 0x4E465653 ∨ leAt head 4 1 ≠ 1 ∨ leAt head 6 2 ≠ n ∨ leAt head 11 1 ≠ flags ∨ leAt head 16 8 ≠ len ∨
                leAt head 12 4 ≠ (secs.getD []).length ∨ (partner ∧ ¬ buffers) ∨ (¬ partner ∧ dieMap.any (fun d => decide (s.part.dies ≤ d))) then reply s .badMessage
            else if ¬ partner ∧ earlierGen (leAt head 8 2) (s.genOf fn) then reply s .staleGeneration
            else if partner ∧ s.assign n ≠ 0 ∧ ((s.queuesOf fn) ≠ [] ∨ s.pins.claims.any (fun e => decide (e.2.1 = fn))) then reply s .conflict
            else if s.claimTaken fn (if partner then [] else dieMap) (of 5) then reply s .conflict
            else
              let out := if partner then
                  (if s.placesFree (of 7) then s.putRecs fn ((of 1).map (fun x => { x with object := leAt head 8 2 }) ++ rs.filter (fun x => decide (x.kind ≠ 1))) else none)
                else s.restoreHere fn buffers dieMap rs
              match out with
              | none => reply s .noResource
              | some t => reply t .ok (leBytes 2 (t.genOf fn) ++ leBytes 2 0)))

/-- FN_THAW (R314). -/
def execFnThaw (r : Req) (n : Nat) (s : State) : Out :=
  .next (s.serve r 0x0313 none (fun s =>
    if 2048 < n then reply s .badMessage
    else if ¬ s.fnSender r then reply s .denied
    else if ¬ s.fn.freezes.any (fun f => decide (f.fn = fnDom n) && f.complete) then reply s .busy
    else reply (s.thawFn (fnDom n)) .ok))

end Sys2Proof.Machine
end

