-- ==== Sys2Proof/Machine/EngineMsg.lean ====
section
/-!
DEFINITION. Machine/EngineMsg.lean: the sequencer's commands COPY, NOP and SIGNAL (R283), the queries of the engines (R178, R202, R225, R243) and the messages
of the key-value cache (R270).
-/
namespace Sys2Proof.Machine

/-- COPY as a run (R283): LENGTH bytes from OP1 to OUT. -/
def State.copyJob (s : State) (d core : Nat) (p : Placed) : Job :=
  let b := p.desc
  let n := leAt b 16 4
  let src : Rows := ⟨descOp1 b, leAt b 20 4, 0, 1, n⟩
  let dst : Rows := ⟨descOut b, leAt b 24 4, 0, 1, n⟩
  let code := firstFailing
    [(2, decide (leAt b 28 36 = 0)), (3, decide (64 ≤ n) && decide (n ≤ 16777216) && decide (n % 64 = 0)),
     (4, decide (leAt b 20 4 % 64 = 0) && decide (leAt b 24 4 % 64 = 0)), (5, s.handlesOk d p [descOp1 b, descOut b]), (6, s.boundsOk d p [src, dst]),
     (7, !descInPlace b && !src.meets dst)]
  if code ≠ 0 then Job.fail code
  else Job.done Fl.none (s.runsOf d p src) [(leAt b 24 4, s.bufBytes d p (descOp1 b) (leAt b 20 4) n)]
    (32 + n / (if s.isLocal d core p (descOp1 b) ∧ s.isLocal d core p (descOut b) then 128 else 64)) (0, 0)

/-- NOP as a run: it has no fields. -/
def nopJob (p : Placed) : Job :=
  let code := firstFailing [(2, decide (leAt p.desc 16 48 = 0)), (7, !descInPlace p.desc)]
  if code ≠ 0 then Job.fail code else Job.done Fl.none [] [] 0 (0, 0)

/-- SIGNAL as a run: VALUE is written at DST_OFF of OUT when it commits. -/
def State.signalJob (s : State) (d : Nat) (p : Placed) : Job :=
  let b := p.desc
  let off := leAt b 20 4
  let code := firstFailing
    [(2, decide (leAt b 24 40 = 0)), (4, decide (off % 64 = 0)), (5, s.handlesOk d p [descOut b]), (6, s.boundsOk d p [⟨descOut b, off, 0, 1, 4⟩]),
     (7, !descInPlace b)]
  match code, s.opBuf d p (descOut b) with
  | 0, some e => { Job.done Fl.none [] [] 0 (0, 0) with atCommit := [(e.base + off, slice b 16 4)] }
  | 0, none => Job.fail 5
  | c, _ => Job.fail c

/-- Opcodes of the sequencer's engines (R283). -/
def dmaOps (op : Nat) : Bool := op == 1
def syncOps (op : Nat) : Bool := op == 1 || op == 2

/-- COPY: bytes from the first operand buffer to the output buffer (R283). -/
def execCopy (d core : Nat) (s : State) : Out := s.runRow d core .seq 3 (fun o => o == 1) dmaOps (s.copyJob d core)

/-- NOP: it only commits (R283). -/
def execNop (d core : Nat) (s : State) : Out := s.runRow d core .seq 5 (fun o => o == 1) syncOps nopJob

/-- SIGNAL: its commit writes VALUE (R283). -/
def execSignal (d core : Nat) (s : State) : Out := s.runRow d core .seq 5 (fun o => o == 2) syncOps (s.signalJob d)

/-- Whether a domain may query a core's engines: firmware, PF_0, or the holder of a silo that includes it (R178). -/
def State.seesCore (s : State) (dom : Dom) (d c : Nat) : Bool :=
  decide (dom = fwDom) || decide (dom = 0) || (List.range 16).any (fun k => decide (s.holder 2 d k = dom) && bit (s.fld d .SILO_MASK_MASK k) c)

/-- A query of an engine of a core: the answer is of the image of the core. -/
def State.coreQuery (s : State) (r : Req) (opcode d cl k : Nat) (image : State → Nat → List Byte) : State :=
  s.serve r opcode (some d) (fun s =>
    if ¬ s.hasDie d ∨ 6 ≤ cl ∨ 8 ≤ k then reply s .badMessage
    else if ¬ s.seesCore r.dom d (8 * cl + k) then reply s .denied
    else reply s .ok (image s (8 * cl + k)))

/-- Images of TE_STATUS, VE_STATUS and XE_STATUS (R179, R203, R226), and of WIN_STATUS (R244). -/
def State.teImage (s : State) (d c : Nat) : Nat :=
  s.fld d .TE_STATUS_LAST_ERR c * 2 ^ 12 + s.fld d .TE_STATUS_SAT_FP c * 2 ^ 7 + s.fld d .TE_STATUS_SAT_INT c * 2 ^ 6 + s.fld d .TE_STATUS_INF c * 2 ^ 5 +
  s.fld d .TE_STATUS_NAN c * 2 ^ 4 + s.fld d .TE_STATUS_ACTIVE c
def State.veImage (s : State) (d c : Nat) : Nat :=
  s.fld d .VE_STATUS_LAST_ERR c * 2 ^ 12 + s.fld d .VE_STATUS_SAT_FP c * 2 ^ 7 + s.fld d .VE_STATUS_SAT_INT c * 2 ^ 6 + s.fld d .VE_STATUS_INF c * 2 ^ 5 +
  s.fld d .VE_STATUS_NAN c * 2 ^ 4 + s.fld d .VE_STATUS_WINDOW c * 2 + s.fld d .VE_STATUS_ACTIVE c
def State.xeImage (s : State) (d c : Nat) : Nat :=
  s.fld d .XE_STATUS_LAST_ERR c * 2 ^ 12 + s.fld d .XE_STATUS_TRUNC c * 2 ^ 7 + s.fld d .XE_STATUS_SAT_INT c * 2 ^ 6 + s.fld d .XE_STATUS_INF c * 2 ^ 5 +
  s.fld d .XE_STATUS_NAN c * 2 ^ 4 + s.fld d .XE_STATUS_IN_PLACE c * 2 + s.fld d .XE_STATUS_ACTIVE c
def State.winImage (s : State) (d c : Nat) : Nat :=
  s.fld d .WIN_STATUS_LIVE_TAPS c * 2 ^ 16 + s.fld d .WIN_STATUS_PASSES c * 2 ^ 8 + s.fld d .WIN_STATUS_FOLD c * 8 + s.fld d .WIN_STATUS_REDUCED c * 4 +
  s.fld d .WIN_STATUS_S2D c * 2 + s.fld d .WIN_STATUS_ACTIVE c

/-- TE_QUERY (R178). -/
def execTeQuery (r : Req) (d cl k : Nat) (s : State) : Out :=
  .next (s.coreQuery r 0x0250 d cl k (fun s c => leBytes 8 (s.fld d .TE_ACTIVE_CYCLES c) ++ leBytes 8 (s.fld d .TE_STALL_CYCLES c) ++ leBytes 4 (s.teImage d c) ++ leBytes 4 0))

/-- VE_QUERY (R202). -/
def execVeQuery (r : Req) (d cl k : Nat) (s : State) : Out :=
  .next (s.coreQuery r 0x0251 d cl k (fun s c => leBytes 8 (s.fld d .VE_ACTIVE_CYCLES c) ++ leBytes 8 (s.fld d .VE_STALL_CYCLES c) ++ leBytes 4 (s.veImage d c) ++ leBytes 4 0))

/-- XE_QUERY (R225). -/
def execXeQuery (r : Req) (d cl k : Nat) (s : State) : Out :=
  .next (s.coreQuery r 0x0252 d cl k (fun s c => leBytes 8 (s.fld d .XE_ACTIVE_CYCLES c) ++ leBytes 8 (s.fld d .XE_STALL_CYCLES c) ++ leBytes 4 (s.xeImage d c) ++ leBytes 4 0))

/-- WIN_QUERY (R243). -/
def execWinQuery (r : Req) (d cl k : Nat) (s : State) : Out :=
  .next (s.coreQuery r 0x0253 d cl k (fun s c => leBytes 4 (s.winImage d c) ++ leBytes 4 0))

/-- Whether a run of KV slots meets no allocation of the dies that a test selects. -/
def State.kvClear (s : State) (sel : Nat → Bool) (i n : Nat) : Bool :=
  s.memy.kvAlloc.all (fun e => !sel e.1.1 || decide (i + n ≤ e.1.2) || decide (e.1.2 + e.2.2 ≤ i))

/-- The lowest of some numbers. -/
def lowest : List Nat → Option Nat
  | [] => none
  | i :: is => some (is.foldl min i)

/-- The lowest free run of KV slots of a die at a multiple (R246), of those under whose numbers no other die holds anything where there is one: a message that names
a pool or a sequence names no die (R270). DESIGN CHOICE (notes/assumptions/101). -/
def State.kvFind (s : State) (d step n : Nat) : Option Nat :=
  let starts := (0 :: s.memy.kvAlloc.map (fun e => ceilDiv (e.1.2 + e.2.2) step * step)).filter (fun i => decide (i + n ≤ s.kvSlots d) && s.kvClear (fun x => x == d) i n)
  (lowest (starts.filter (fun i => s.kvClear (fun _ => true) i n))).or (lowest starts)

/-- Slots of a die that nothing holds. -/
def State.kvFreeSlots (s : State) (d : Nat) : Nat := s.kvSlots d - s.memy.kvAlloc.foldl (fun a e => if e.1.1 = d then a + e.2.2 else a) 0

/-- Whether a domain may act on the KV tables of a silo (R270). -/
def State.kvSender (s : State) (dom : Dom) (d k : Nat) : Bool := decide (dom = fwDom) || decide (s.holder 2 d k = dom)

/-- The allocation that an index begins, as a sender names it: its own where it has one. -/
def State.kvEntry (s : State) (dom : Dom) (i : Nat) : Option ((Nat × Nat) × (Nat × Nat)) :=
  let named := s.memy.kvAlloc.filter (fun e => decide (e.1.2 = i))
  (named.find? (fun e => s.kvSender dom e.1.1 e.2.1)).or named.head?

/-- A run of slots is given to a silo; SLOT_LOW shows fewer than one sixteenth free (R271). -/
def State.kvTake (s : State) (d k i n : Nat) : State :=
  let s1 : State := { s with memy.kvAlloc := insertKV s.memy.kvAlloc (d, i) (k, n) }
  if s1.kvFreeSlots d * 16 < s1.kvSlots d then s1.flag d .KV_STATUS_SLOT_LOW else s1

/-- The slots of an allocation go to the standby when its silo's holder is mirrored (R432). -/
def State.kvMirror (s : State) (e : (Nat × Nat) × (Nat × Nat)) : State := s.mirrorChange (s.holder 2 e.1.1 e.2.1) [⟨11, e.1.1, s.kvItem e⟩]

/-- An allocation is given up. -/
def State.kvDrop (s : State) (e : (Nat × Nat) × (Nat × Nat)) : State :=
  let s1 : State := { s with memy.kvAlloc := s.memy.kvAlloc.filter (fun x => decide (x ≠ e)) }
  s1.mirrorChange (s.holder 2 e.1.1 e.2.1) [⟨11, e.1.1, leBytes 4 e.1.2 ++ leBytes 4 0 ++ leBytes 4 e.1.1 ++ leBytes 4 e.2.1⟩]

/-- KV_POOL_CREATE (R250, R270): the record in the first slot of the run, its page entries after it, every page free. -/
def execKvPoolCreate (r : Req) (handle : Word) (pages : Nat) (s : State) : Out :=
  .next (s.serve r 0x0260 (some (handleDie handle.toNat)) (fun s =>
    let h := handle.toNat
    let d := s.bufDie h
    let k := handleSilo h
    match s.bufOf h with
    | none => reply s .badMessage
    | some e =>
      if ¬ s.kvSender r.dom d k then reply s .denied
      else if pages = 0 ∨ 65535 < pages ∨ e.length < 34816 * pages then reply s .badMessage
      else
        match s.kvFind d 1 (pages + 1) with
        | none => reply s .noResource
        | some i =>
          let rec_ := leBytes 4 h ++ leBytes 2 pages ++ leBytes 2 pages ++ leBytes 4 (i + 1) ++ leBytes 4 (i + 1)
          let ptes := (List.range pages).flatMap (fun n =>
            leBytes 4 i ++ leBytes 2 n ++ leBytes 6 0 ++ leBytes 4 (if n + 1 = pages then kvNull else i + 2 + n))
          let s1 := (s.kvTake d k i (pages + 1)).write (kvBase d + 16 * i) (rec_ ++ ptes)
          reply (s1.kvMirror ((d, i), (k, pages + 1))) .ok (leBytes 4 i)))

/-- KV_POOL_DESTROY (R270): refused while a page is in use. -/
def execKvPoolDestroy (r : Req) (pool : Word) (s : State) : Out :=
  .next (s.serve r 0x0261 none (fun s =>
    match s.kvEntry r.dom pool.toNat with
    | none => reply s .badMessage
    | some e =>
      let d := e.1.1
      let p := s.kvPool d [] pool.toNat
      if ¬ s.kvSender r.dom d e.2.1 then reply s .denied
      else if p.base ≠ pool.toNat + 1 ∨ e.2.2 ≠ p.pages + 1 then reply s .badMessage
      else if p.free ≠ p.pages then reply s .busy
      else reply (s.kvDrop e) .ok))

/-- KV_SEQ_CREATE (R251, R270): a record in four slots, its list of MAX_ROWS slots after it, no row. -/
def execKvSeqCreate (r : Req) (c : KvSeqCfg) (s : State) : Out :=
  .next (s.serve r 0x0262 none (fun s =>
    match s.kvEntry r.dom c.pool.toNat with
    | none => reply s .badMessage
    | some e =>
      let d := e.1.1
      let q : KvSeq := ⟨0, c.pool.toNat, c.kvHeads, c.headDim, c.flags, 0, c.maxRows, c.budget, c.recent, c.reserve, c.decay, 0, 0, 0⟩
      if ¬ s.kvSender r.dom d e.2.1 then reply s .denied
      else if ¬ s.poolValid d (s.kvPool d [] c.pool.toNat) e.2.1 ∨ ¬ q.rangesOk then reply s .badMessage
      else
        match s.kvFind d 4 (4 + c.maxRows) with
        | none => reply s .noResource
        | some i =>
          let q1 := { q with flags := Nat.lor c.flags 1, list := i + 4 }
          let s1 := (s.kvTake d e.2.1 i (4 + c.maxRows)).write (kvBase d + 16 * i) (q1.bytes ++ leBytes 32 0 ++ List.replicate (16 * c.maxRows) 0xFF#8)
          reply (s1.kvMirror ((d, i), (e.2.1, 4 + c.maxRows))) .ok (leBytes 4 i)))

/-- A message on a sequence that stands, from a sender that may act on it. -/
def State.onSeq (s : State) (r : Req) (opcode : Nat) (seq : Word) (act : State → ((Nat × Nat) × (Nat × Nat)) → KvSeq → Reply) : State :=
  s.serve r opcode none (fun s =>
    match s.kvEntry r.dom seq.toNat with
    | none => reply s .badMessage
    | some e =>
      if ¬ s.kvSender r.dom e.1.1 e.2.1 then reply s .denied
      else if ¬ s.seqValid e.1.1 seq.toNat e.2.1 then reply s .badMessage
      else act s e (s.kvSeq e.1.1 [] seq.toNat))

/-- Whether a placed command names a sequence (R270). -/
def State.seqBusy (s : State) (d i : Nat) : Bool := (s.slotsOf d).any (fun e => (s.sequences e.2.desc).any (fun x => decide (x.1 = i)))

/-- KV_SEQ_DESTROY (R270): pages released as by KV_RELEASE, the slots given up. -/
def execKvSeqDestroy (r : Req) (seq : Word) (s : State) : Out :=
  .next (s.onSeq r 0x0263 seq (fun s e q =>
    if s.seqBusy e.1.1 q.slot then reply s .busy
    else
      let ops := s.releaseOps e.1.1 q ++ { q with flags := 0, rows := 0, live := 0, nextPos := 0 }.puts
      reply ((s.kvCommit e.1.1 (s.kvApply e.1.1 ops)).kvDrop e) .ok))

/-- KV_SEQ_QUERY (R270): the record. -/
def execKvSeqQuery (r : Req) (seq : Word) (s : State) : Out :=
  .next (s.onSeq r 0x0264 seq (fun s e q => reply s .ok (s.kvBytes e.1.1 q.slot 64)))

/-- KV_SEQ_SET (R270): the parameters of Winnow. -/
def execKvSeqSet (r : Req) (seq : Word) (budget recent reserve decay : Nat) (evict : Bool) (s : State) : Out :=
  .next (s.onSeq r 0x0265 seq (fun s e q =>
    let q1 := { q with budget := budget, recent := recent, reserve := reserve, decay := decay, flags := putBits q.flags 1 1 (b2n evict) }
    if s.seqBusy e.1.1 q.slot then reply s .busy
    else if ¬ q1.rangesOk then reply s .badMessage
    else reply ((s.kvCommit e.1.1 (s.kvApply e.1.1 q1.puts)).kvMirror e) .ok))

end Sys2Proof.Machine
end

