-- ==== Sys2Proof/Machine/Texel.lean ====
section
/-!
DEFINITION. Machine/Texel.lean: the channels of a pixel as numbers (R321, R328) and the texture units (R336): level of detail, addressing, filtering.
-/
namespace Sys2Proof.Machine

/-- A colour: R, G, B, A. -/
abbrev Colour := List Val

/-- A component of a colour; the fourth of a format without alpha is 1. -/
def comp (c : Colour) (i : Nat) : Val := c.getD i (if i = 3 then Val.one else Val.zero)

/-- The channels of a pixel as bit patterns, least significant first (R321). -/
def splitChannels : List Nat → Nat → List Nat
  | [], _ => []
  | w :: ws, v => v % 2 ^ w :: splitChannels ws (v / 2 ^ w)

/-- Channels put together as the bits of a pixel. -/
def joinChannels : List Nat → List Nat → Nat
  | w :: ws, v :: vs => v % 2 ^ w + 2 ^ w * joinChannels ws vs
  | _, _ => 0

/-- A channel of n bits that spells a number from 0 to 1, in FP32. -/
def unorm (n v : Nat) : Val := (Val.ofInt v).div32 (Val.ofInt (2 ^ n - 1))

/-- A number as a channel of n bits: clamped to 0 to 1 and rounded to the nearest, ties to even; NaN gives 0 (DESIGN CHOICE, notes/assumptions/103). -/
def unormBits (n : Nat) (v : Val) : Nat :=
  match v.mul (Val.ofInt (2 ^ n - 1)) with
  | .nan => 0
  | .inf neg => if neg then 0 else 2 ^ n - 1
  | .fin neg m e => min (2 ^ n - 1) (roundInt neg m e).toNat

/-- A channel of a format as a number: `i` is its component of R, G, B, A. SRGB channels are converted to linear; alpha is none of them (R321, R336). -/
def channelVal (fmt i w v : Nat) : Val :=
  match fmt with
  | 2 => if i = 3 then unorm 8 v else fp32.decode (Config.srgbLinear v % 2 ^ 32)
  | 5 => fp16.decode v
  | 6 | 0x10 => fp32.decode v
  | 0x12 => Val.ofInt v
  | _ => unorm w v

/-- A number as a channel of a format. -/
def channelBits (fmt i w : Nat) (v : Val) : Nat :=
  match fmt with
  | 2 => if i = 3 then unormBits 8 v else Config.linearSrgb v.bits32 % 256
  | 5 => (fp16.out false v).1
  | 6 | 0x10 => v.bits32
  | _ => unormBits w v

/-- Replace the bits of a mask. -/
def mergeBits (old new mask : Nat) : Nat := Nat.xor old (Nat.land (Nat.xor old new) mask)

/-- The component of R, G, B, A that each channel of a format holds (R321). -/
def channelOrder (fmt : Nat) : List Nat := if fmt = 3 then [2, 1, 0, 3] else [0, 1, 2, 3]

/-- A pixel as a colour. -/
def decodePixel (fmt v : Nat) : Colour :=
  let cs := ((imgChannels fmt).zip (splitChannels (imgChannels fmt) v)).zip (channelOrder fmt)
  (List.range 4).map (fun i => match cs.find? (fun c => decide (c.2 = i)) with
    | some c => channelVal fmt i c.1.1 c.1.2
    | none => if i = 3 then Val.one else Val.zero)

/-- A colour as a pixel. -/
def encodePixel (fmt : Nat) (c : Colour) : Nat :=
  joinChannels (imgChannels fmt) (((imgChannels fmt).zip (channelOrder fmt)).map (fun w => channelBits fmt w.2 w.1 (comp c w.2)))

/-- The greatest integer not above a number in units of 2 ^ -k; 0 for what is no finite number. -/
def Val.floorAt (v : Val) (k : Nat) : Int :=
  match v with
  | .fin neg m e =>
    let x := e + k
    let down : Nat := if 0 ≤ x then m * 2 ^ x.toNat else m / 2 ^ (-x).toNat
    let up : Nat := if 0 ≤ x then m * 2 ^ x.toNat else ceilDiv m (2 ^ (-x).toNat)
    if neg then -(up : Int) else down
  | _ => 0

/-- A texture of a pass: its first level, and its sampler (R327). -/
structure Texture where
  pic : Picture
  sampler : List Byte

namespace Texture

/-- Fields of the sampler. -/
def filter (t : Texture) : Nat := leAt t.sampler 0 1
def aniso (t : Texture) : Nat := leAt t.sampler 1 1
def addrU (t : Texture) : Nat := leAt t.sampler 2 1
def addrV (t : Texture) : Nat := leAt t.sampler 3 1
def levels (t : Texture) : Nat := leAt t.sampler 4 1
def bias (t : Texture) : Val := fp16.decode (leAt t.sampler 6 2)
def border (t : Texture) : Nat := leAt t.sampler 8 8

/-- Mip level l as a picture: it begins at the next multiple of 64 bytes after the one before it (R320). -/
def mip (t : Texture) (l : Nat) : Picture :=
  let i := t.pic.img
  ⟨i.level l, t.pic.base + ceilDiv (RasImage.levelsLen RasImage.dataLen i l) 64 * 64, t.pic.metaBase + ceilDiv (RasImage.levelsLen RasImage.metaLen i l) 64 * 64⟩

end Texture

/-- A coordinate of a texel under an address mode (R336): repeat, mirrored repeat, clamp to edge, clamp to border; none for the border. -/
def wrapTexel (mode w : Nat) (i : Int) : Option Nat :=
  match mode with
  | 0 => some (i % (w : Int)).toNat
  | 1 => let j := (i % (2 * w : Int)).toNat; some (if j < w then j else 2 * w - 1 - j)
  | 2 => some (min (w - 1) i.toNat)
  | _ => if 0 ≤ i ∧ i < w then some i.toNat else none

/-- A colour with what was read for it. -/
abbrev Sampled := Colour × List (Nat × Nat)

/-- One texel of a level (R336): BORDER beyond the image under clamp to border, the CLEAR value of a CLEAR block without a read of its data, a compressed block expanded. -/
def State.texel (s : State) (t : Texture) (l : Nat) (i j : Int) : Sampled :=
  let m := t.mip l
  match wrapTexel t.addrU m.img.width i, wrapTexel t.addrV m.img.height j with
  | some x, some y => (decodePixel m.img.format ((s.blockPixels m (x / 8) (y / 8)).getD (8 * (y % 8) + x % 8) 0), s.blockReads m (x / 8) (y / 8))
  | _, _ => (decodePixel m.img.format t.border, [])

/-- The sum of colours under weights of 2 ^ -k, in FP32 and in the order of the list (DESIGN CHOICE, notes/assumptions/103). -/
def weighted (k : Nat) (xs : List (Nat × Sampled)) : Sampled :=
  ((List.range 4).map (fun i => xs.foldl (fun a x => a.add32 ((comp x.2.1 i).mul32 (Val.ofInt x.1 (-(k : Int))))) Val.zero), xs.flatMap (fun x => x.2.2))

/-- A coordinate of a level in units of 1/256 texel: the normalised coordinate times the level's size, in FP32. -/
def texelCoord (u : Val) (size : Nat) : Int := (u.mul32 (Val.ofInt size)).floorAt 8

/-- The nearest texel of a level (R336). -/
def State.nearest (s : State) (t : Texture) (l : Nat) (u v : Val) : Sampled :=
  let m := (t.mip l).img
  s.texel t l (texelCoord u m.width / 256) (texelCoord v m.height / 256)

/-- A bilinear sample of a level: four texels with weights of 8 fractional bits in each direction (R336). -/
def State.bilinear (s : State) (t : Texture) (l : Nat) (u v : Val) : Sampled :=
  let m := (t.mip l).img
  let x := texelCoord u m.width - 128
  let y := texelCoord v m.height - 128
  let a := (x % 256).toNat
  let b := (y % 256).toNat
  weighted 16 [((256 - a) * (256 - b), s.texel t l (x / 256) (y / 256)), (a * (256 - b), s.texel t l (x / 256 + 1) (y / 256)),
    ((256 - a) * b, s.texel t l (x / 256) (y / 256 + 1)), (a * b, s.texel t l (x / 256 + 1) (y / 256 + 1))]

/-- The level of detail in units of 1/256 (R336): that of the derivatives, in FP32, plus LOD_BIAS, clamped to 0 to LEVELS - 1. -/
def Texture.lod (t : Texture) (fromDerivatives : Val) : Nat := min (256 * (t.levels - 1)) ((fromDerivatives.add32 t.bias).floorAt 8).toNat

/-- A trilinear sample: the bilinear samples of two levels, blended with a weight of 8 fractional bits (R336). -/
def State.trilinear (s : State) (t : Texture) (lod : Nat) (u v : Val) : Sampled :=
  let l := lod / 256
  weighted 8 [(256 - lod % 256, s.bilinear t l u v), (lod % 256, s.bilinear t (min (l + 1) (t.levels - 1)) u v)]

/-- The one level of a sample that is not trilinear: one of the two about the level of detail. The spec does not say which: `up` is a free choice. -/
def oneLevel (lod : Nat) (up : Bool) : Nat := lod / 256 + (if up ∧ lod % 256 ≠ 0 then 1 else 0)

/-- What a program asks of a texture: coordinates, the level of detail of the derivatives, and the coordinates of the samples along the major axis of the footprint. -/
structure Lookup where
  u : Val
  v : Val
  lod : Val
  along : Nat → Val × Val
  up : Bool

/-- A texture sample (R336): nearest, bilinear, trilinear, or with ANISO above 1 the mean of that many trilinear samples along the major axis. -/
def State.sampleTexture (s : State) (t : Texture) (q : Lookup) : Sampled :=
  let lod := t.lod q.lod
  if 1 < t.aniso then weighted (clog2 t.aniso) ((List.range t.aniso).map (fun i => (1, s.trilinear t lod (q.along i).1 (q.along i).2)))
  else
    match t.filter with
    | 0 => s.nearest t (oneLevel lod q.up) q.u q.v
    | 1 => s.bilinear t (oneLevel lod q.up) q.u q.v
    | _ => s.trilinear t lod q.u q.v

end Sys2Proof.Machine
end

