-- ==== Sys2Proof/Machine/Fragment.lean ====
section
/-!
DEFINITION. Machine/Fragment.lean: from draw records to pixels (R318, R319, R328, R334, R335): primitives and their fragments, shading, the depth and stencil test,
blending, and the scoreboard that retires the fragments of a pixel in submission order. What the shading microcode computes is not in the spec: positions, colours,
depths and discards are free values of the run (`Config.raster`), each tied to what the spec ties it to.
-/
namespace Sys2Proof.Machine

/-- A draw record with its state block, program headers and the vertices that it names in turn (R328). -/
structure Draw where
  bytes : List Byte
  state : List Byte
  vs : List Byte
  fs : List Byte
  verts : List Nat

namespace Draw

/-- TOPOLOGY, as VkPrimitiveTopology, and the number of vertices (R328). -/
def topology (w : Draw) : Nat := leAt w.bytes 0 1
def count (w : Draw) : Nat := leAt w.bytes 4 4

/-- Flags of byte 1: CULL_BACK, CULL_FRONT, FRONT_CW. -/
def cullBack (w : Draw) : Bool := bit (leAt w.bytes 1 1) 1
def cullFront (w : Draw) : Bool := bit (leAt w.bytes 1 1) 2
def frontCw (w : Draw) : Bool := bit (leAt w.bytes 1 1) 3

/-- Whether a pixel lies in the scissor. -/
def inScissor (w : Draw) (x y : Nat) : Bool :=
  decide (leAt w.bytes 36 2 ≤ x) && decide (leAt w.bytes 38 2 ≤ y) && decide (x < leAt w.bytes 40 2) && decide (y < leAt w.bytes 42 2)

/-- FLAGS of the fragment program: writes depth, may discard (R319). -/
def writesDepth (w : Draw) : Bool := bit (leAt w.fs 6 1) 1
def mayDiscard (w : Draw) : Bool := bit (leAt w.fs 6 1) 2

/-- Whether the test runs early, before shading (R335). -/
def early (w : Draw) : Bool := !w.writesDepth && !w.mayDiscard

/-- A byte of the state block. -/
def st (w : Draw) (i : Nat) : Nat := leAt w.state i 1

/-- The state of colour attachment `i`: byte `j` of its eight. -/
def blend (w : Draw) (i j : Nat) : Nat := w.st (16 + 8 * i + j)

/-- Vertices of the primitives of a draw, as places in its vertices (VkPrimitiveTopology 0 to 5). -/
def corners (w : Draw) : List (List Nat) :=
  let n := w.count
  match w.topology with
  | 0 => (List.range n).map (fun i => [i])
  | 1 => (List.range (n / 2)).map (fun i => [2 * i, 2 * i + 1])
  | 2 => (List.range (n - 1)).map (fun i => [i, i + 1])
  | 3 => (List.range (n / 3)).map (fun i => [3 * i, 3 * i + 1, 3 * i + 2])
  | 4 => (List.range (n - 2)).map (fun i => if i % 2 = 0 then [i, i + 1, i + 2] else [i, i + 2, i + 1])
  | _ => (List.range (n - 2)).map (fun i => [i + 1, i + 2, 0])

/-- How many primitives a draw has. -/
def primCount (w : Draw) : Nat :=
  match w.topology with
  | 0 => w.count | 1 => w.count / 2 | 2 => w.count - 1 | 3 => w.count / 3 | _ => w.count - 2

/-- The primitives of a draw: the vertices that each names. -/
def prims (w : Draw) : List (List Nat) := w.corners.map (fun c => c.map (fun i => w.verts.getD i 0))

end Draw

/-- A point in units of 1/256 pixel (R318). -/
abbrev Point := Int × Int

/-- A free coordinate that setup has snapped to 1/256 pixel within ±16,384 pixels (R318). -/
def snapped (n : Nat) : Int := (n % 8388609 : Nat) - 4194304

/-- What the vertex program of a draw leaves for a vertex: whether it lies before the near plane, where, and the size of a point, 1 to 64 pixels (R318). -/
def vertexInFront (key w v : Nat) : Bool := Config.raster key [0, w, v] % 2 == 1
def vertexPlace (key w v : Nat) : Point := (snapped (Config.raster key [1, w, v]), snapped (Config.raster key [2, w, v]))
def pointSize (key w v : Nat) : Nat := 256 + Config.raster key [3, w, v] % 16129

/-- Where an edge meets the near plane: the same place for both primitives that share the edge. -/
def clipPlace (key w u v : Nat) : Point := (snapped (Config.raster key [4, w, min u v, max u v]), snapped (Config.raster key [5, w, min u v, max u v]))

/-- The corners of a primitive after it is clipped against the near plane (R318). -/
def clipped (key w : Nat) (vs : List Nat) : List Point :=
  (vs.zip (vs.drop 1 ++ vs.take 1)).flatMap (fun e =>
    (if vertexInFront key w e.1 then [vertexPlace key w e.1] else []) ++
    (if vertexInFront key w e.1 = vertexInFront key w e.2 then [] else [clipPlace key w e.1 e.2]))

/-- Twice the area of a polygon; positive where its corners run clockwise on the screen. -/
def area2 (ps : List Point) : Int := ((ps.zip (ps.drop 1 ++ ps.take 1)).map (fun e => e.1.1 * e.2.2 - e.2.1 * e.1.2)).foldl (· + ·) 0

/-- Whether a sample lies on the inner side of an edge of a clockwise polygon; on the edge itself where it is a top or a left edge (R318). -/
def insideEdge (q : Point) (e : Point × Point) : Bool :=
  let d := (e.2.1 - e.1.1) * (q.2 - e.1.2) - (e.2.2 - e.1.2) * (q.1 - e.1.1)
  decide (0 < d) || (decide (d = 0) && (decide (e.2.2 < e.1.2) || (decide (e.2.2 = e.1.2) && decide (e.1.1 < e.2.1))))

/-- Whether a polygon that culling leaves covers a sample (R318, R328). -/
def polygonCovers (w : Draw) (ps : List Point) (q : Point) : Bool :=
  let a := area2 ps
  let front := decide (0 < a) == w.frontCw
  let cw := if a < 0 then ps.reverse else ps
  decide (a ≠ 0) && !(w.cullBack && !front) && !(w.cullFront && front) && (cw.zip (cw.drop 1 ++ cw.take 1)).all (insideEdge q)

/-- Whether a line may cover a sample: one pixel wide about its ends (R318). Which samples it covers there is not said: a free choice. -/
def lineReaches (ps : List Point) (q : Point) : Bool :=
  ps.any (fun a => decide (a.1 - 128 ≤ q.1)) && ps.any (fun a => decide (q.1 ≤ a.1 + 128)) && ps.any (fun a => decide (a.2 - 128 ≤ q.2)) &&
  ps.any (fun a => decide (q.2 ≤ a.2 + 128))

/-- Whether a point covers a sample: a square of its size (R318). -/
def pointCovers (size : Nat) (c q : Point) : Bool :=
  decide (2 * c.1 - size ≤ 2 * q.1) && decide (2 * q.1 < 2 * c.1 + size) && decide (2 * c.2 - size ≤ 2 * q.2) && decide (2 * q.2 < 2 * c.2 + size)

/-- Where a sample lies within its pixel: the spec does not say. -/
def samplePlace (samples k : Nat) (x y : Nat) : Point :=
  ((256 * x + Config.raster 0 [6, samples, k] % 256 : Nat), (256 * y + Config.raster 0 [7, samples, k] % 256 : Nat))

/-- Whether a primitive covers a sample of a pixel. -/
def primCovers (key n : Nat) (w : Draw) (i : Nat) (vs : List Nat) (samples k x y : Nat) : Bool :=
  let q := samplePlace samples k x y
  match vs with
  | [v] => vertexInFront key n v && pointCovers (pointSize key n v) (vertexPlace key n v) q
  | [_, _] => lineReaches (clipped key n vs) q && Config.raster key [8, n, i, k, x, y] % 2 == 1
  | _ => polygonCovers w (clipped key n vs) q

/-- A fragment: its number in the order of submission (R334), its draw and primitive, its pixel in the image and in the tile, the samples that it covers, and how many
fragments of the same pixel come before it. -/
structure Frag where
  number : Nat
  draw : Nat
  prim : Nat
  x : Nat
  y : Nat
  pixel : Nat
  mask : List Nat
  turn : Nat
deriving DecidableEq, Repr

/-- What a run of a RENDER knows: its key for free values, samples of a pixel, the size of the images, draws, and textures. -/
structure Scene where
  key : Nat
  samples : Nat
  width : Nat
  height : Nat
  draws : List Draw
  textures : List Texture

/-- The fragments of a tile by draw, primitive and pixel, not yet numbered. -/
def Scene.covered (c : Scene) (tx ty : Nat) : List Frag :=
  c.draws.zipIdx.flatMap (fun w => w.1.prims.zipIdx.flatMap (fun r => (List.range 1024).filterMap (fun p =>
    let x := 32 * tx + p % 32
    let y := 32 * ty + p / 32
    let mask := (List.range c.samples).filter (fun k => primCovers c.key w.2 w.1 r.2 r.1 c.samples k x y)
    if x < c.width ∧ y < c.height ∧ w.1.inScissor x y ∧ mask ≠ [] then some ⟨0, w.2, r.2, x, y, p, mask, 0⟩ else none)))

/-- Number the fragments of a tile in the order of submission: draw record, primitive, rasterisation order (R334). -/
def numbered (fs : List Frag) : List Frag :=
  fs.zipIdx.map (fun f => { f.1 with number := f.2, turn := ((fs.take f.2).filter (fun g => decide (g.pixel = f.1.pixel))).length })

/-- The fragments of a tile in the order of submission. -/
def Scene.frags (c : Scene) (tx ty : Nat) : List Frag := numbered (c.covered tx ty)

/-- Where a fragment's free values are kept. -/
def Frag.path (f : Frag) : List Nat := [f.draw, f.prim, f.x, f.y]

/-- A free FP32 number. -/
def freeVal (n : Nat) : Val := fp32.decode (n % 2 ^ 32)

/-- What the program of a fragment asks of the `n`-th texture that it samples: which texture and how are free. -/
def lookupOf (key : Nat) (at' : List Nat) : Lookup :=
  let r (i : Nat) := Config.raster key (i :: at')
  ⟨freeVal (r 0), freeVal (r 1), freeVal (r 2), fun i => (freeVal (Config.raster key (3 :: i :: at')), freeVal (Config.raster key (4 :: i :: at'))), r 5 % 2 == 1⟩

/-- The texture samples of a fragment: their components in turn as FP32 words, and what was read for them (R336). -/
def State.samplesOf (s : State) (c : Scene) (f : Frag) : List Nat × List (Nat × Nat) :=
  if c.textures = [] then ([], [])
  else
    let xs := (List.range (Config.raster c.key (9 :: f.path))).filterMap (fun n =>
      (c.textures[Config.raster c.key (10 :: n :: f.path) % c.textures.length]?).map (fun t => s.sampleTexture t (lookupOf c.key (11 :: n :: f.path))))
    (xs.flatMap (fun x => x.1.map Val.bits32), xs.flatMap (fun x => x.2))

/-- What shading a fragment gives: whether it is discarded, its depth at each sample, its colours, and what it read. -/
structure Shaded where
  discard : Bool
  depth : Nat → Nat
  colour : Nat → Colour
  reads : List (Nat × Nat)

/-- The depth that setup interpolates at a sample of a fragment, an FP32 word. -/
def setupDepth (c : Scene) (f : Frag) (k : Nat) : Nat := Config.raster c.key (12 :: k :: f.path) % 2 ^ 32

/-- The fragment program runs (R319): free values of the fragment and of the texture samples that it took. Colour 4 is the second source of blending. -/
def State.shade (s : State) (c : Scene) (w : Draw) (f : Frag) : Shaded :=
  let t := s.samplesOf c f
  let r (what : List Nat) := Config.raster c.key (what ++ f.path ++ t.1)
  ⟨w.mayDiscard && r [13] % 2 == 1, fun k => if w.writesDepth then r [14, k] % 2 ^ 32 else setupDepth c f k,
   fun i => (List.range 4).map (fun j => freeVal (r [15, i, j])), t.2⟩

/-- A pixel of the tile buffer: for each attachment (0 to 3 colour, 4 depth, 5 stencil) the value of each sample, and the attachments that a fragment has written. -/
structure Pix where
  planes : List (Nat × List Nat)
  wrote : List Nat
deriving DecidableEq, Repr

/-- The value of an attachment at a sample. -/
def Pix.value (p : Pix) (n k : Nat) : Nat := (lookupD p.planes n []).getD k 0

/-- A fragment writes an attachment at a sample. -/
def Pix.put (p : Pix) (n k v : Nat) : Pix :=
  { planes := p.planes.map (fun e => if e.1 = n then (e.1, setAt e.2 k v) else e), wrote := if n ∈ p.wrote then p.wrote else n :: p.wrote }

/-- VkCompareOp of an order: below, equal, above. -/
def compareOp (op : Nat) (lt eq gt : Bool) : Bool :=
  match op with
  | 0 => false
  | 1 => lt
  | 2 => eq
  | 3 => lt || eq
  | 4 => gt
  | 5 => !eq
  | 6 => gt || eq
  | _ => true

/-- VkStencilOp. -/
def stencilOp (op ref old : Nat) : Nat :=
  match op with
  | 0 => old
  | 1 => 0
  | 2 => ref
  | 3 => min 255 (old + 1)
  | 4 => old - 1
  | 5 => 255 - old
  | 6 => (old + 1) % 256
  | _ => (old + 255) % 256

/-- A depth as the attachment's format holds it (R321). -/
def depthBits (fmt d : Nat) : Nat := if fmt = 0x11 then unormBits 16 (fp32.decode d) else d

/-- The depth comparison of the state block (R328). -/
def depthPasses (op fmt new old : Nat) : Bool :=
  if fmt = 0x11 then compareOp op (decide (new < old)) (decide (new = old)) (decide (old < new))
  else
    let a := fp32.decode new
    let b := fp32.decode old
    compareOp op (a.lt false b) (!a.isNan && !b.isNan && !a.lt false b && !b.lt false a) (b.lt false a)

/-- The formats of the attachments of a pass. -/
abbrev Formats := List (Nat × Nat)

/-- The test of one sample (R328, R335): whether it passes, and the pixel with its depth and stencil. A pass without the attachment passes its test; with depth test
enable 0 the depth test passes and writes nothing (PRESUMED, Vulkan; notes/assumptions/103). -/
def testSample (w : Draw) (fmts : Formats) (depth : Nat) (p : Pix) (k : Nat) : Bool × Pix :=
  let hasD := decide (w.st 0 = 1) && fmts.any (fun e => decide (e.1 = 4))
  let hasS := fmts.any (fun e => decide (e.1 = 5))
  let fmt := lookupD fmts 4 0x10
  let new := depthBits fmt depth
  let old := p.value 5 k
  let ref := Nat.land (w.st 7) (w.st 8)
  let cur := Nat.land old (w.st 8)
  let okS := !hasS || compareOp (w.st 3) (decide (ref < cur)) (decide (ref = cur)) (decide (cur < ref))
  let okD := !hasD || depthPasses (w.st 2) fmt new (p.value 4 k)
  let op := if !okS then w.st 4 else if okD then w.st 5 else w.st 6
  let p1 := if hasS ∧ op ≠ 0 ∧ w.st 9 ≠ 0 then p.put 5 k (mergeBits old (stencilOp op (w.st 7) old) (w.st 9)) else p
  (okS && okD, if okS && okD && hasD && decide (w.st 1 = 1) then p1.put 4 k new else p1)

/-- A blend factor for component `i` (VkBlendFactor): source, second source, destination, constant. -/
def blendFactor (code i : Nat) (src src1 dst k : Colour) : Val :=
  let less (v : Val) := Val.one.sub32 v
  match code with
  | 0 => Val.zero
  | 1 => Val.one
  | 2 => comp src i
  | 3 => less (comp src i)
  | 4 => comp dst i
  | 5 => less (comp dst i)
  | 6 => comp src 3
  | 7 => less (comp src 3)
  | 8 => comp dst 3
  | 9 => less (comp dst 3)
  | 10 => comp k i
  | 11 => less (comp k i)
  | 12 => comp k 3
  | 13 => less (comp k 3)
  | 14 => if i = 3 then Val.one else (comp src 3).min (less (comp dst 3))
  | 15 => comp src1 i
  | 16 => less (comp src1 i)
  | 17 => comp src1 3
  | _ => less (comp src1 3)

/-- A blend operation (VkBlendOp) in FP32 (R328). -/
def blendOp (op : Nat) (s sf d df : Val) : Val :=
  match op with
  | 0 => (s.mul32 sf).add32 (d.mul32 df)
  | 1 => (s.mul32 sf).sub32 (d.mul32 df)
  | 2 => (d.mul32 df).sub32 (s.mul32 sf)
  | 3 => s.min d
  | _ => s.max d

/-- The colour that a fragment leaves in a pixel of an attachment (R328): blended where the state block says so, in linear light for SRGB. -/
def blended (w : Draw) (i fmt : Nat) (src src1 k : Colour) (old : Nat) : Nat :=
  if w.blend i 0 = 0 then encodePixel fmt src
  else
    let dst := decodePixel fmt old
    encodePixel fmt ((List.range 4).map (fun j =>
      let o := if j = 3 then 3 else 0
      blendOp (w.blend i (3 + o)) (comp src j) (blendFactor (w.blend i (1 + o)) j src src1 dst k) (comp dst j) (blendFactor (w.blend i (2 + o)) j src src1 dst k)))

/-- Bits of a pixel that a colour write mask lets through (R328): bits 0 to 3 for R, G, B and A, in the order of the format's channels. -/
def maskBits (fmt mask : Nat) : Nat :=
  joinChannels (imgChannels fmt) (((imgChannels fmt).zip (channelOrder fmt)).map (fun c => if bit mask c.2 then 2 ^ c.1 - 1 else 0))

/-- The ROP writes the colours of a fragment at a sample (R317, R328). The state block holds no blend constant: it is a free value of the draw. -/
def writeColours (key n : Nat) (w : Draw) (fmts : Formats) (colour : Nat → Colour) (p : Pix) (k : Nat) : Pix :=
  let const : Colour := (List.range 4).map (fun j => freeVal (Config.raster key [16, n, j]))
  (fmts.filter (fun e => decide (e.1 < 4))).foldl (fun p e =>
    let m := maskBits e.2 (w.blend e.1 7)
    if m = 0 then p else p.put e.1 k (mergeBits (p.value e.1 k) (blended w e.1 e.2 (colour e.1) (colour 4) const (p.value e.1 k)) m)) p

/-- A fragment retires (R334, R335): the test sees what earlier fragments of its pixel have left, early before shading, else after it; then its colours are written. The
pixel, and what shading read. -/
def State.retire (s : State) (c : Scene) (fmts : Formats) (p : Pix) (f : Frag) : Pix × List (Nat × Nat) :=
  match c.draws[f.draw]? with
  | none => (p, [])
  | some w =>
    let test (depth : Nat → Nat) := f.mask.foldl (fun (a : List Nat × Pix) k =>
      let r := testSample w fmts (depth k) a.2 k
      (if r.1 then a.1 ++ [k] else a.1, r.2)) ([], p)
    if w.early then
      let a := test (setupDepth c f)
      if a.1 = [] then (a.2, [])
      else
        let h := s.shade c w f
        (a.1.foldl (writeColours c.key f.draw w fmts h.colour) a.2, h.reads)
    else
      let h := s.shade c w f
      if h.discard then (p, h.reads)
      else
        let a := test h.depth
        (a.1.foldl (writeColours c.key f.draw w fmts h.colour) a.2, h.reads)

/-- The raster units at work on a tile (R334): fragments not yet rasterised, those being shaded, shaded fragments that the ROP holds, the scoreboard, how many fragments
of each pixel have retired or been discarded, the pixels, and what was read. -/
structure Rop where
  waiting : List Frag
  shading : List Frag
  held : List Frag
  board : List Nat
  pixels : List Pix
  reads : List (Nat × Nat)

/-- Whether every earlier fragment of the same pixel has retired or been discarded. -/
def Rop.ready (r : Rop) (f : Frag) : Bool := decide (r.board.getD f.pixel 0 = f.turn)

/-- The fragments that the ROP holds retire as they become ready; the argument bounds their number. -/
def State.drain (s : State) (c : Scene) (fmts : Formats) : Nat → Rop → Rop
  | 0, r => r
  | n + 1, r =>
    match r.held.find? r.ready with
    | none => r
    | some f =>
      let x := s.retire c fmts (r.pixels.getD f.pixel ⟨[], []⟩) f
      s.drain c fmts n { r with
        held := r.held.filter (fun g => decide (g ≠ f)), board := setAt r.board f.pixel (f.turn + 1), pixels := setAt r.pixels f.pixel x.1, reads := r.reads ++ x.2 }

/-- Shading of a fragment ends and the ROP takes it; while its buffer of 4,096 is full, only one that retires at once (R334). Which one ends is free. -/
def State.endShading (s : State) (c : Scene) (fmts : Formats) (n : List Nat) (r : Rop) : Rop :=
  let able := if 4096 ≤ r.held.length then r.shading.filter r.ready else r.shading
  match able[Config.raster c.key (18 :: n) % able.length]? with
  | none => r
  | some f => s.drain c fmts (r.held.length + 1) { r with shading := r.shading.filter (fun g => decide (g ≠ f)), held := r.held ++ [f] }

/-- One step on a tile: the rasteriser hands on the next fragment, unless the ROP's buffer is full, or shading of a fragment ends; which comes first is free (R334). -/
def State.ropStep (s : State) (c : Scene) (fmts : Formats) (n : List Nat) (r : Rop) : Rop :=
  match r.waiting with
  | f :: fs =>
    if r.held.length < 4096 ∧ (r.shading = [] ∨ Config.raster c.key (17 :: n) % 2 = 1) then { r with waiting := fs, shading := r.shading ++ [f] } else s.endShading c fmts n r
  | [] => s.endShading c fmts n r

/-- The fragments of a tile are shaded and retired (R334): each is handed on once and ends once. -/
def State.renderTile (s : State) (c : Scene) (fmts : Formats) (tx ty : Nat) (pixels : List Pix) : Rop :=
  let fs := c.frags tx ty
  (List.range (2 * fs.length)).foldl (fun r n => s.ropStep c fmts [tx, ty, n] r) ⟨fs, [], [], List.replicate 1024 0, pixels, []⟩

end Sys2Proof.Machine
end

