-- ==== Sys2Proof/Machine/Raster.lean ====
section
/-!
DEFINITION. Machine/Raster.lean: the raster units' commands RENDER, FAST_CLEAR and EXPAND (R325 to R331), shading batches (R319), the Stook region (R332, R333) and
its messages (R343).
-/
namespace Sys2Proof.Machine

/-- The place that a LOC names: its status code (5 a handle that names no buffer, 6 beyond its LENGTH, 10 outside populated memory or inside a
spill region), and the physical address (R327, R329). -/
def State.rasPlace (s : State) (d : Nat) (p : Placed) (loc len : Nat) : Nat × Nat :=
  if bit loc 63 then
    match s.opBuf d p (bits loc 31 0) with
    | none => (5, 0)
    | some e => if bits loc 62 32 + len ≤ e.length then (0, e.base + bits loc 62 32) else (6, 0)
  else
    let a := bits loc 47 0
    let z := a + (len - 1)
    match decodeAddr s.part 0 a, decodeAddr s.part 0 z with
    | .dram x _, .dram y _ => if x = y ∧ z < spillBase s.part x then (0, a) else (10, 0)
    | .granary x _, .granary y _ => if x = y then (0, a) else (10, 0)
    | _, _ => (10, 0)

/-- A program header has defined values (R319). -/
def programOk (h : List Byte) : Bool := decide (leAt h 6 1 < 8) && decide (leAt h 7 1 ≤ 16) && decide (leAt h 8 8 = 0)

/-- A draw record and its state block have defined values (R328). -/
def Draw.ok (w : Draw) (colours : Nat) : Bool :=
  decide (leAt w.bytes 0 1 ≤ 5) && decide (leAt w.bytes 1 1 < 16) && decide (leAt w.bytes 2 2 = 0) && decide (leAt w.bytes 18 2 = 0) &&
  decide (leAt w.bytes 44 20 = 0) &&
  decide (leAt w.state 0 1 ≤ 1) && decide (leAt w.state 1 1 ≤ 1) && (List.range 5).all (fun i => decide (leAt w.state (2 + i) 1 ≤ 7)) &&
  (List.range colours).all (fun i =>
    let c := slice w.state (16 + 8 * i) 8
    decide (leAt c 0 1 ≤ 1) && decide (leAt c 1 1 ≤ 18) && decide (leAt c 2 1 ≤ 18) && decide (leAt c 3 1 ≤ 4) && decide (leAt c 4 1 ≤ 18) &&
    decide (leAt c 5 1 ≤ 18) && decide (leAt c 6 1 ≤ 4) && decide (leAt c 7 1 < 16)) &&
  programOk w.vs && programOk w.fs

/-- A sampler has defined values (R327). -/
def samplerOk (b : List Byte) : Bool :=
  decide (leAt b 0 1 ≤ 2) && decide (leAt b 1 1 ∈ [1, 2, 4, 8, 16]) && decide (leAt b 2 1 ≤ 3) && decide (leAt b 3 1 ≤ 3) &&
  decide (1 ≤ leAt b 4 1) && decide (leAt b 4 1 ≤ 14) && decide (leAt b 5 1 = 0)

/-- What a RENDER's fields and descriptors say (R326, R327). -/
structure Pass where
  colours : Nat
  attach : List (Nat × RasImage)
  textures : List (RasImage × List Byte)
  draws : List Draw

/-- Read the pass of a RENDER from its first operand buffer. -/
def State.passOf (s : State) (d : Nat) (p : Placed) : Pass :=
  let b := p.desc
  let at_ (o n : Nat) := s.bufBytes d p (descOp1 b) o n
  let h := at_ (leAt b 16 4) 256
  let colours := min 4 (leAt h 0 1)
  let image (o : Nat) := rasImage (slice h o 32)
  ⟨leAt h 0 1,
   (List.range colours).map (fun i => (i, image (32 + 32 * i))) ++ (if bit (leAt h 1 1) 0 then [(4, image 160)] else []) ++
     (if bit (leAt h 1 1) 1 then [(5, image 192)] else []),
   (List.range (min 4096 (leAt h 2 2))).map (fun i => let e := at_ (leAt h 4 4 + 48 * i) 48; (rasImage e, e.drop 32)),
   (List.range (leAt b 28 4)).map (fun i =>
     let w := at_ (leAt b 32 4 + 64 * i) 64
     let n := leAt w 4 4
     let index := at_ (leAt w 8 4) (4 * n)
     ⟨w, at_ (leAt w 28 4) 64, at_ (leAt w 20 4) 16, at_ (leAt w 24 4) 16, if bit (leAt w 1 1) 0 then (List.range n).map (fun i => leAt index (4 * i) 4) else List.range n⟩)⟩

/-- The tile range of a RENDER: first column and row, and those after the last. -/
def tileRange (b : List Byte) : Nat × Nat × Nat × Nat := (leAt b 20 2, leAt b 22 2, leAt b 24 2, leAt b 26 2)

/-- Tiles of a range. -/
def tilesIn (b : List Byte) : Nat := (leAt b 24 2 - leAt b 20 2) * (leAt b 26 2 - leAt b 22 2)

/-- The bytes that a pass touches of an attachment: to the end of its last block in the range, or nothing where it neither loads nor stores. -/
def attachSpan (b : List Byte) (i : RasImage) : Nat × Nat :=
  if i.load = 0 ∨ i.store then
    let r := tileRange b
    let last := (i.blocks r.1 r.2.1 r.2.2.1 r.2.2.2).foldl (fun a x => max a (i.blockIdx x.1 x.2 + 1)) 0
    (last * 64 * imgB i.format, last)
  else (1, 1)

/-- The regions of the first operand buffer that a RENDER names (R326 to R328). -/
def State.passRows (s : State) (d : Nat) (p : Placed) (w : Pass) : List Rows :=
  let b := p.desc
  let h := descOp1 b
  let pass := s.bufBytes d p h (leAt b 16 4) 256
  [⟨h, leAt b 16 4, 0, 1, 256⟩, ⟨h, leAt b 32 4, 0, 1, 64 * leAt b 28 4⟩] ++
  (if w.textures = [] then [] else [⟨h, leAt pass 4 4, 0, 1, 48 * w.textures.length⟩]) ++
  w.draws.flatMap (fun x =>
    [⟨h, leAt x.bytes 28 4, 0, 1, 64⟩, ⟨h, leAt x.bytes 20 4, 0, 1, max 16 (8 * leAt x.vs 0 4)⟩, ⟨h, leAt x.bytes 24 4, 0, 1, max 16 (8 * leAt x.fs 0 4)⟩] ++
    (if bit (leAt x.bytes 1 1) 0 then [⟨h, leAt x.bytes 8 4, 0, 1, 4 * leAt x.bytes 4 4⟩] else []))

/-- Every location of a pass: its LOC and the bytes it must hold. -/
def passLocs (b : List Byte) (w : Pass) : List (Nat × Nat) :=
  w.attach.flatMap (fun a =>
    let n := attachSpan b a.2
    (a.2.loc, n.1) :: (if a.2.hasMeta then [(a.2.metaLoc, n.2)] else [])) ++
  w.textures.flatMap (fun t =>
    let n := leAt t.2 4 1
    (t.1.loc, RasImage.levelsLen RasImage.dataLen t.1 n) :: (if t.1.hasMeta then [(t.1.metaLoc, RasImage.levelsLen RasImage.metaLen t.1 n)] else []))

/-- Whether the storage of a texture meets that of a stored attachment (R330). -/
def State.texAlias (s : State) (d : Nat) (p : Placed) (w : Pass) : Bool :=
  let span (loc n : Nat) : Nat × Nat := ((s.rasPlace d p loc n).2, n)
  let storage (i : RasImage) (n : Nat) := span i.loc (RasImage.levelsLen RasImage.dataLen i n) ::
    (if i.hasMeta then [span i.metaLoc (RasImage.levelsLen RasImage.metaLen i n)] else [])
  w.attach.any (fun a => a.2.store && w.textures.any (fun t =>
    (storage a.2 1).any (fun x => (storage t.1 (leAt t.2 4 1)).any (fun y => decide (x.1 < y.1 + y.2) && decide (y.1 < x.1 + x.2)))))

/-- The pass descriptor, its images, draws, programs and samplers have defined values, one size, and the range lies in it (R327 to R329). -/
def State.passOk (s : State) (d : Nat) (p : Placed) (w : Pass) : Bool :=
  let b := p.desc
  let h := s.bufBytes d p (descOp1 b) (leAt b 16 4) 256
  let r := tileRange b
  decide (leAt h 0 1 ≤ 4) && decide (leAt h 1 1 < 4) && decide (leAt h 2 2 ≤ 4096) && decide (leAt h 8 24 = 0) && decide (leAt h 224 32 = 0) &&
  w.attach.all (fun a => a.2.ok && (if a.1 = 4 then decide (a.2.format = 0x10 ∨ a.2.format = 0x11) else if a.1 = 5 then decide (a.2.format = 0x12)
    else decide (a.2.format ≤ 6))) &&
  w.textures.all (fun t => t.1.ok && samplerOk t.2) && w.draws.all (fun x => x.ok w.colours) &&
  w.attach.all (fun a => w.attach.all (fun c => decide (a.2.width = c.2.width ∧ a.2.height = c.2.height))) &&
  decide (r.1 < r.2.2.1) && decide (r.2.1 < r.2.2.2) && w.attach.all (fun a => decide (r.2.2.1 ≤ a.2.tw) && decide (r.2.2.2 ≤ a.2.th)) &&
  (passLocs b w).all (fun l => decide ((s.rasPlace d p l.1 l.2).1 ≠ 10))

/-- Whether a place and size are allowed for the Stook region (R332): bytes of memory from an address, or of a pinned buffer of a Class D silo. -/
def State.stookPlace (s : State) (loc mib addr : Nat) : Bool :=
  let n := mib * 0x100000
  match loc with
  | 0 => true
  | 1 => decide (1 ≤ mib) && decide (mib ≤ 64) && (match s.bufOf addr with
    | some e => e.pinned && !e.spilled && decide (n ≤ e.length) && decide (s.fld (s.bufDie addr) .SILO_CFG_CLASS (handleSilo addr) = 1)
    | none => false)
  | 2 => decide (1 ≤ mib) && decide (mib ≤ 64) && (match decodeAddr s.part 0 addr, decodeAddr s.part 0 (addr + n - 1) with
    | .dram x _, .dram y _ => decide (x = y) && decide (addr + n ≤ spillBase s.part x)
    | _, _ => false)
  | _ => false

/-- Bytes of the Stook region of a die (R140, R332): 0 where the place that RAS_STOOK names is none that is allowed. -/
def State.stookBytes (s : State) (d : Nat) : Nat :=
  let loc := s.fld d .RAS_STOOK_LOC 0
  let mib := if loc = 0 then s.fld d .LOFT_MAP_STOOK_MIB 0 else s.fld d .RAS_STOOK_SIZE_MIB 0
  let addr := s.fld d .RAS_STOOK_ADDR_ADDR 0
  if s.stookPlace loc mib (if loc = 1 then bits addr 31 0 else addr) then mib * 0x100000 else 0

/-- Where the Stook region of a die lies (R140, R332). -/
def State.stookPlaceOf (s : State) (d : Nat) : Nat :=
  match s.fld d .RAS_STOOK_LOC 0 with
  | 0 => loftBase d + (5 + s.fld d .LOFT_MAP_KV_MIB 0) * 0x100000
  | 1 => match s.bufOf (bits (s.fld d .RAS_STOOK_ADDR_ADDR 0) 31 0) with
    | some e => e.base
    | none => 0
  | _ => s.fld d .RAS_STOOK_ADDR_ADDR 0

/-- The class check of R329. -/
def rasterClass (p : Placed) : Bool := decide (p.cls = 1) || decide (p.cls = 3) || decide (p.cls = 4)

/-- The codes of a list of places: whether none is the given one. -/
def State.placesOk (s : State) (d : Nat) (p : Placed) (ls : List (Nat × Nat)) (code : Nat) : Bool :=
  ls.all (fun l => decide ((s.rasPlace d p l.1 l.2).1 ≠ code))

/-- The checks of a RENDER (R329, R330), before its reads. -/
def State.renderCode (s : State) (d : Nat) (p : Placed) (w : Pass) : Nat :=
  let b := p.desc
  let locs := passLocs b w
  let spill : Rows := ⟨descOp2 b, leAt b 36 4, 0, 1, leAt b 40 4⟩
  firstFailing
    [(2, decide (leAt b 46 18 = 0) && decide (bits (leAt b 45 1) 6 2 = 0) && decide (leAt b 44 1 = 1 ∨ leAt b 44 1 = 4)),
     (3, decide (1 ≤ leAt b 28 4) && decide (leAt b 28 4 ≤ 1048575)),
     (4, decide (leAt b 16 4 % 64 = 0) && decide (leAt b 32 4 % 64 = 0) && decide (leAt b 36 4 % 64 = 0)),
     (5, s.handlesOk d p [descOp1 b, descOp2 b] && decide (descOut b = 0) && s.placesOk d p locs 5),
     (6, s.boundsOk d p (spill :: s.passRows d p w) && s.placesOk d p locs 6),
     (7, (descInPlace b || !w.attach.any (fun a => decide (a.2.load = 0) && a.2.store)) && !s.texAlias d p w),
     (9, rasterClass p), (10, s.passOk d p w),
     (11, decide (64 + 128 * tilesIn b ≤ s.stookBytes d) &&
       decide ((w.attach.filter (fun a => decide (a.1 ≠ 5))).foldl (fun n a => n + a.2.dataLen + a.2.metaLen) 0 ≤ leAt b 40 4))]

/-- The most Stook bytes that a RENDER takes with no flush (R332). -/
def Pass.stookMost (w : Pass) (b : List Byte) : Nat :=
  let n := w.draws.foldl (fun a x => a + x.primCount) 0
  64 * n + 128 * (tilesIn b * ceilDiv n 31)

/-- An attachment of a pass: its number (0 to 3 colour, 4 depth, 5 stencil) and its picture. -/
abbrev Attach := Nat × Picture

/-- The pixels of a block before the pass: loaded, cleared, or of no fixed value (R327); a block outside the image is never loaded (R320). -/
def State.loadBlock (s : State) (key : Nat) (a : Attach) (x y : Nat) : List Nat :=
  let i := a.2.img
  if ¬ i.blockIn x y then List.replicate 64 0
  else
    match i.load with
    | 0 => s.blockPixels a.2 x y
    | 1 => List.replicate 64 (i.clear % 2 ^ (8 * imgB i.format))
    | _ => (List.range 64).map (fun k => Config.raster key [19, a.1, i.blockIdx x y, k] % 2 ^ (8 * imgB i.format))

/-- The block and the place in it of pixel `p` of a tile (R320). -/
def blockOf (tx ty p : Nat) : (Nat × Nat) × Nat := ((4 * tx + p % 32 / 8, 4 * ty + p / 256), 8 * (p / 32 % 8) + p % 8)

/-- The tile buffer before the first fragment: every sample of a pixel holds what its attachment loads. -/
def State.loadTile (s : State) (key samples : Nat) (atts : List Attach) (tx ty : Nat) : List Pix :=
  (List.range 1024).map (fun p =>
    let q := blockOf tx ty p
    ⟨atts.map (fun a => (a.1, List.replicate samples ((s.loadBlock key a q.1.1 q.1.2).getD q.2 0))), []⟩)

/-- The pixel that a store leaves of its samples (R324, R327): their value where they agree; how four samples that differ become one pixel is not said. -/
def stored (key n size : Nat) (vs : List Nat) : Nat :=
  let v := vs.headD 0
  if vs.all (fun x => decide (x = v)) then v else Config.raster key (20 :: n :: vs) % 2 ^ (8 * size)

/-- A stored block: the block's metadata and data as physical writes (R324). `flushed` tells of a Stook flush. -/
def storeBlock (key : Nat) (flushed : Bool) (a : Attach) (tile : List Pix) (tx ty x y : Nat) : List (Nat × List Byte) :=
  let i := a.2.img
  let b := imgB i.format
  let places := (List.range 1024).filter (fun p => decide ((blockOf tx ty p).1 = (x, y)))
  let pixels := places.map (fun p => tile.getD p ⟨[], []⟩)
  if i.load = 1 ∧ i.hasMeta ∧ ¬ flushed ∧ pixels.all (fun p => decide (a.1 ∉ p.wrote)) then [(a.2.metaBase + i.blockIdx x y, [0#8])]
  else
    let e := encodeBlock i.format i.hasMeta (pixels.map (fun p => stored key a.1 b (lookupD p.planes a.1 [])))
    (a.2.blockAt x y, e.2) :: (if i.hasMeta then [(a.2.metaBase + i.blockIdx x y, [BitVec.ofNat 8 e.1])] else [])

/-- The picture of an image of a pass. -/
def State.picture (s : State) (d : Nat) (p : Placed) (i : RasImage) : Picture := ⟨i, (s.rasPlace d p i.loc 1).2, (s.rasPlace d p i.metaLoc 1).2⟩

/-- What a RENDER renders (R326 to R328). -/
def State.sceneOf (s : State) (d : Nat) (p : Placed) (key : Nat) (w : Pass) : Scene :=
  let size := match w.attach with
    | a :: _ => (a.2.width, a.2.height)
    | [] => (8192, 8192)
  ⟨key, leAt p.desc 44 1, size.1, size.2, w.draws, w.textures.map (fun t => ⟨s.picture d p t.1, t.2⟩)⟩

/-- A tile of a RENDER (R317, R324, R334): what it reads, and what it stores. -/
def State.tileRun (s : State) (c : Scene) (atts : List Attach) (flushed : Bool) (tx ty : Nat) : List (Nat × Nat) × List (Nat × List Byte) :=
  let r := s.renderTile c (atts.map (fun a => (a.1, a.2.img.format))) tx ty (s.loadTile c.key c.samples atts tx ty)
  let blks (a : Attach) := a.2.img.blocks tx ty (tx + 1) (ty + 1)
  (atts.flatMap (fun a => if a.2.img.load = 0 then (blks a).flatMap (fun q => s.blockReads a.2 q.1 q.2) else []) ++ r.reads,
   atts.flatMap (fun a => if a.2.img.store then (blks a).flatMap (fun q => storeBlock c.key flushed a r.pixels tx ty q.1 q.2) else []))

/-- The tiles of a range. -/
def tilesOf (r : Nat × Nat × Nat × Nat) : List (Nat × Nat) :=
  (rangeFrom r.2.1 (r.2.2.2 - r.2.1)).flatMap (fun y => (rangeFrom r.1 (r.2.2.1 - r.1)).map (fun x => (x, y)))

/-- RENDER as a run (R326): its checks, the bytes it reads, and the blocks it stores. `flushed` tells of a Stook flush during it. -/
def State.renderJob (s : State) (d : Nat) (p : Placed) (key : Nat) (flushed : Bool) : Job :=
  let w := s.passOf d p
  let code := s.renderCode d p w
  let named := (s.passRows d p w).flatMap (s.runsOf d p)
  if code ≠ 0 then { Job.fail code with reads := if 8 < code then named else [] }
  else
    let atts := w.attach.map (fun a => ((a.1, s.picture d p a.2) : Attach))
    let ts := (tilesOf (tileRange p.desc)).map (fun t => s.tileRun (s.sceneOf d p key w) atts flushed t.1 t.2)
    ⟨if flushed then 16 else 0, named ++ ts.flatMap (fun t => t.1), [], [], [], (0, 0, 0), 32, (0, 0), none, ts.flatMap (fun t => t.2)⟩

/-- What a RENDER writes beside its outputs: the tile lists in the Stook region (R332), and after a flush the spill surface (R333). The spec gives neither's bytes. -/
def State.renderBeside (s : State) (d : Nat) (p : Placed) (key flushes : Nat) : List (Nat × List Byte) :=
  let free (what n : Nat) : List Byte := (List.range n).map (fun i => BitVec.ofNat 8 (Config.raster key [what, i]))
  [(s.stookPlaceOf d, free 21 (s.stookBytes d))] ++ (if flushes = 0 then [] else
    match s.opBuf d p (descOp2 p.desc) with
    | some e => [(e.base + leAt p.desc 36 4, free 22 (leAt p.desc 40 4))]
    | none => [])

/-- The checks of FAST_CLEAR and EXPAND (R325, R329): the descriptor and the image it describes. -/
def State.imageCode (s : State) (d : Nat) (p : Placed) (zerosFrom : Nat) (needMeta : Bool) (i : RasImage) : Nat :=
  let b := p.desc
  let locs := (leAt b 16 8, 32) :: (i.loc, i.dataLen) :: (if i.hasMeta then [(i.metaLoc, i.metaLen)] else [])
  firstFailing
    [(2, decide (leAt b zerosFrom (64 - zerosFrom) = 0)), (5, decide (descOp1 b = 0 ∧ descOp2 b = 0 ∧ descOut b = 0) && s.placesOk d p locs 5),
     (6, s.placesOk d p locs 6), (7, !descInPlace b), (9, rasterClass p), (10, i.ok && (!needMeta || i.hasMeta) && s.placesOk d p locs 10)]

/-- The image described at bytes 16 to 23, and where its descriptor lies. -/
def State.imageAt (s : State) (d : Nat) (p : Placed) : Nat × RasImage :=
  let a := (s.rasPlace d p (leAt p.desc 16 8) 32).2
  (a, rasImage (s.bytes a 32))

/-- FAST_CLEAR as a run (R325). -/
def State.fastClearJob (s : State) (d : Nat) (p : Placed) : Job :=
  let x := s.imageAt d p
  let i := x.2
  let code := s.imageCode d p 32 true i
  if code ≠ 0 then { Job.fail code with reads := if 8 < code then [(x.1, 32)] else [] }
  else ⟨0, [(x.1, 32)], [], [], [], (0, 0, 0), 32, (0, 0), none, [((s.rasPlace d p i.metaLoc 1).2, List.replicate i.metaLen 0#8), (x.1 + 24, slice p.desc 24 8)]⟩

/-- EXPAND as a run (R325): every block of the image UNCOMPRESSED. -/
def State.expandJob (s : State) (d : Nat) (p : Placed) : Job :=
  let x := s.imageAt d p
  let code := s.imageCode d p 24 false x.2
  if code ≠ 0 then { Job.fail code with reads := if 8 < code then [(x.1, 32)] else [] }
  else
    let a := s.picture d p x.2
    let blks := x.2.blocks 0 0 x.2.tw x.2.th
    ⟨0, (x.1, 32) :: blks.flatMap (fun q => s.blockReads a q.1 q.2), [], [], [], (0, 0, 0), 32, (0, 0), none,
     blks.flatMap (fun q =>
       let e := encodeBlock x.2.format false (s.blockPixels a q.1 q.2)
       (a.blockAt q.1 q.2, e.2) :: (if x.2.hasMeta then [(a.metaBase + x.2.blockIdx q.1 q.2, [BitVec.ofNat 8 e.1])] else []))⟩

/-- A raster run ends: a refused access ends it with a bus error logged (R92, R145) and an error status that the chapter does not name, a free value; a poisoned granule
among what it read is ECC_UE; otherwise its writes, and those beside its outputs, reach memory piece by piece (R330), and its status is final. -/
def State.rasterRan (s : State) (d ctx : Nat) (p : Placed) (j : Job) (beside : List (Nat × List Byte)) : State :=
  let outs := beside ++ j.scratch
  let q := { p with ran := true, took := j.cycles, left := [] }
  match s.runStops d j outs with
  | (some (at', a), _) =>
    let (v, t) := (s.fabLog at' false 3 a { ioMaster d 27 with dom := p.fn } false).fresh
    t.setPlaced d (.raster ctx) { q with status := 1 + v % 8 }
  | (none, some g) => (s.readUe g (rasterAgent d p)).setPlaced d (.raster ctx) { q with status := 8 }
  | (none, none) =>
    ((j.taken.foldl (fun (t : State) x => t.wake x.1 x.2) s).setPlaced d (.raster ctx) { q with status := j.status, left := outs, extra := j.scratch }).runPart d (.raster ctx)

/-- A raster row: the command that stands in a context runs, when it is of the row's opcode; another opcode of no row fails with BAD_OPCODE. -/
def State.runRaster (s : State) (d ctx op : Nat) (go : State → Placed → State) : Out :=
  if ¬ s.hasDie d ∨ 2 ≤ ctx then .next s
  else
    match s.placed d (.raster ctx) with
    | none => .next s
    | some p =>
      if p.ran ∨ s.tripped d then .next s
      else if descOp p.desc = op then .next (go s p)
      else if 1 ≤ descOp p.desc ∧ descOp p.desc ≤ 3 then .next s
      else .next (s.rasterRan d ctx p (Job.fail 1) [])

/-- One Stook flush (R333): counted, flagged, and EV_STOOK_FLUSH to the holder of the pass's silo. -/
def State.stookFlush (s : State) (d ctx : Nat) (p : Placed) (number : Nat) : State :=
  let f := s.fresh
  let s1 := (f.2.addSat d .RAS_FLUSH_COUNT_COUNT 0 1).flag d .RAS_STATUS_FLUSH
  let o := s1.holder 2 d p.silo
  s1.raise .stookFlush d o.toNat [(20, 4, p.queue), (24, 1, ctx), (25, 2, number), (28, 4, f.1 % max 1 (leAt p.desc 28 4))] [o]

/-- The command of context 0 is flushed for context 1 (R333, step 1): it will commit with FLUSHED. -/
def State.flushOther (s : State) (d : Nat) (p : Placed) : State :=
  (s.stookFlush d 0 p p.progress).setPlaced d (.raster 0)
    { p with progress := p.progress + 1, status := if p.ran ∧ p.status % 16 = 0 then Nat.lor p.status 16 else p.status }

/-- The other context's command where it is a RENDER. -/
def State.otherRender (s : State) (d ctx : Nat) : Option Placed :=
  match s.placed d (.raster (1 - ctx)) with
  | some q => if descOp q.desc = 1 then some q else none
  | none => none

/-- The most bytes of Stook that a RENDER and the other context's may need together. -/
def State.renderMost (s : State) (d ctx : Nat) (p : Placed) : Nat :=
  (s.passOf d p).stookMost p.desc + (match s.otherRender d ctx with
    | some q => (s.passOf d q).stookMost q.desc
    | none => 0)

/-- How often a RENDER flushes: a free number below its primitives, 0 where every primitive of both contexts fits. -/
def State.renderFlushes (s : State) (d ctx : Nat) (p : Placed) : Nat :=
  if s.renderMost d ctx p ≤ s.stookBytes d then 0 else s.fresh.1 % max 1 ((s.passOf d p).draws.foldl (fun a x => a + x.primCount) 0)

/-- The job of a RENDER whose checks pass. -/
def State.renderRun (s : State) (d ctx : Nat) (p : Placed) : Job :=
  let n := s.renderFlushes d ctx p
  s.renderJob d p s.fresh.1 (decide (0 < n) || decide (0 < p.progress))

/-- A RENDER runs. How often its Stook region overflows depends on the primitives that survive setup: a free number, 0 where every primitive of
both contexts fits. -/
def State.render (d ctx : Nat) (s : State) (p : Placed) : State :=
  if s.renderCode d p (s.passOf d p) ≠ 0 then s.rasterRan d ctx p (s.renderJob d p 0 false) []
  else
    let n := s.renderFlushes d ctx p
    let g := s.fresh.2.fresh
    let s1 := match s.otherRender d ctx with
      | some q => if ctx = 1 ∧ 0 < n ∧ g.1 % 2 = 1 then g.2.flushOther d q else g.2
      | none => g.2
    let h := s1.fresh
    let peak := max (s.fld d .RAS_STOOK_PEAK_COUNT 0) (h.1 % (ceilDiv (min (s.renderMost d ctx p) (s.stookBytes d)) 1024 + 1))
    let s2 := (List.range n).foldl (fun t i => t.stookFlush d ctx p (p.progress + i)) (h.2.setFld d .RAS_STOOK_PEAK_COUNT 0 peak)
    s2.rasterRan d ctx p (s.renderRun d ctx p) (s.renderBeside d p s.fresh.1 n)

/-- RENDER: bin and render the draw records of a pass over a range of tiles (R326 to R336). -/
def execRender (d ctx : Nat) (s : State) : Out := s.runRaster d ctx 1 (State.render d ctx)

/-- FAST_CLEAR (R325). -/
def execFastClear (d ctx : Nat) (s : State) : Out := s.runRaster d ctx 2 (fun s p => s.rasterRan d ctx p (s.fastClearJob d p) [])

/-- EXPAND (R325). -/
def execExpand (d ctx : Nat) (s : State) : Out := s.runRaster d ctx 3 (fun s p => s.rasterRan d ctx p (s.expandJob d p) [])

/-- SHADING_BATCH (R319): a batch of the pass in a context takes the free VE slot of a member core for the VE_CYCLES of one of the pass's programs
(which one is free), and writes into the raster units' buffers alone. -/
def execShadingBatch (d core ctx : Nat) (s : State) : Out :=
  if ¬ s.hasDie d ∨ 48 ≤ core ∨ 2 ≤ ctx then .next s
  else
    match s.placed d (.raster ctx) with
    | none => .next s
    | some p =>
      let w := s.passOf d p
      let busy := (s.slotsOf d).any (fun e => match e.1 with
        | .core c x => decide (c = core) && (decide (x = .ve) || descFused e.2.desc)
        | .raster _ => false)
      if p.ran ∨ s.tripped d ∨ descOp p.desc ≠ 1 ∨ w.draws = [] ∨ busy ∨ ¬ s.coreServes d p.silo p.cls core ∨ s.throttled d p.silo p.cls core ∨
          s.fld d .GLN_CORE_TESTING core = 1 ∨ s.renderCode d p w ≠ 0 then .next s
      else
        let f := s.fresh
        let programs := w.draws.flatMap (fun x => [leAt x.vs 4 2, leAt x.fs 4 2])
        let n := programs.getD (f.1 % programs.length) 0
        let t := ceilDiv (n * 1000 * max 1 (s.fld d .CLK_DIV_CURRENT 3)) (max 1 (srcMHz (s.fld d .CLK_DIV_SRC 3)))
        let x := f.2.silo d p.silo
        .next ((f.2.setSilo d p.silo { x with used := x.used + t }).addSat d .VE_ACTIVE_CYCLES core n)

/-- Whether a context of a die has a pass in progress (R332). -/
def State.passInProgress (s : State) (d : Nat) : Bool :=
  [0, 1].any (fun c => match s.placed d (.raster c) with
    | some p => descOp p.desc == 1
    | none => false)

/-- RAS_STOOK_SET (R332, R343). -/
def execRasStookSet (r : Req) (d loc mib addr : Nat) (s : State) : Out :=
  .next (s.serve r 0x0600 (some d) (fun s =>
    if ¬ s.hasDie d ∨ ¬ s.stookPlace loc mib addr then reply s .badMessage
    else if ¬ s.manager r.dom then reply s .denied
    else if s.passInProgress d then reply s .busy
    else if loc = 0 then reply (s.setFld d .RAS_STOOK_LOC 0 0) .ok
    else reply (s.setFlds d 0 [(.RAS_STOOK_LOC, loc), (.RAS_STOOK_SIZE_MIB, mib), (.RAS_STOOK_ADDR_ADDR, addr)]) .ok))

/-- A write of RAS_STOOK or of its address at the expert level (R332, R344). -/
def wrRasStook (d data : Nat) (s : State) : State :=
  let loc := bits data 1 0
  let mib := bits data 22 16
  if loc = 3 ∨ (loc ≠ 0 ∧ (mib = 0 ∨ 64 < mib)) then s.flag d .RAS_STATUS_BADCFG
  else if s.passInProgress d then s.flag d .RAS_STATUS_STOOK_BUSY
  else if loc = 0 then s.setFld d .RAS_STOOK_LOC 0 0
  else s.setFlds d 0 [(.RAS_STOOK_LOC, loc), (.RAS_STOOK_SIZE_MIB, mib)]
def wrRasStookAddr (d v : Nat) (s : State) : State :=
  if s.passInProgress d then s.flag d .RAS_STATUS_STOOK_BUSY else s.setFld d .RAS_STOOK_ADDR_ADDR 0 (v % 2 ^ 48)

/-- Contexts as RAS_STATUS shows them: CTX0, CTX1, CLASS1 (R344). -/
def State.rasContexts (s : State) (d : Nat) : Nat × Nat × Nat :=
  (b2n (s.placed d (.raster 0)).isSome, b2n (s.placed d (.raster 1)).isSome, match s.placed d (.raster 1) with
    | some p => p.cls
    | none => 0)

/-- RAS_STATUS and RAS_STOOK as a read through the PEEK alias gives them (R344). -/
def State.rasStatusImage (s : State) (d : Nat) : Nat :=
  let c := s.rasContexts d
  c.2.2 * 32 + c.2.1 * 16 + c.1 * 8 + s.fld d .RAS_STATUS_FLUSH 0 * 4 + s.fld d .RAS_STATUS_STOOK_BUSY 0 * 2 + s.fld d .RAS_STATUS_BADCFG 0
def State.rasStookMib (s : State) (d : Nat) : Nat :=
  if s.fld d .RAS_STOOK_LOC 0 = 0 then s.fld d .LOFT_MAP_STOOK_MIB 0 else s.fld d .RAS_STOOK_SIZE_MIB 0

/-- RAS_QUERY (R343): the peak is read as at its own address, which clears it. -/
def execRasQuery (r : Req) (d : Nat) (s : State) : Out :=
  .next (s.serve r 0x0601 (some d) (fun s =>
    if ¬ s.hasDie d then reply s .badMessage
    else reply (s.setFld d .RAS_STOOK_PEAK_COUNT 0 0) .ok
      (leBytes 4 (s.rasStatusImage d) ++ leBytes 4 (s.rasStookMib d * 2 ^ 16 + s.fld d .RAS_STOOK_LOC 0) ++ leBytes 4 (s.fld d .RAS_FLUSH_COUNT_COUNT 0) ++
        leBytes 4 (s.fld d .RAS_STOOK_PEAK_COUNT 0))))

end Sys2Proof.Machine
end

