-- ==== Sys2Proof/Machine/Memory.lean ====
section
/-!
DEFINITION. Machine/Memory.lean: ECC and the scrubber (R147 to R152), quotas, spill and refill of buffers (R153 to R155), the Loft map (R140, R141),
LPDDR5X power-down and refresh (R144), and the memory messages (R156).
-/
namespace Sys2Proof.Machine

/-! ECC -/

/-- The domains that an I/O DMA engine acts for (R97): the holders of the Ethernet port, CAN controller, UART or stream whose data it moves, of its multifunction
port, of a display head, and the functions whose commands the raster units run; firmware's own engines act for none. -/
def State.dmaDoms (s : State) (d i : Nat) : List Dom :=
  let held (ty : Nat) (is : List Nat) : List Dom := ((is.map (s.holder ty d)).filter (fun h => decide (h ≠ noDom))).eraseDups
  if i < 4 then held 0xC [i]
  else if i < 8 then held 0xD [i - 4]
  else if i = 8 then held 0xE [0]
  else if 16 ≤ i ∧ i < 24 then held 4 (rangeFrom (16 * (i - 16)) 16)
  else if i = 24 then held 4 ((List.range 128).filter (fun n => decide (s.fld d .STR_CFG_SRC n = 1)))
  else if i = 25 then held 0xB [6]
  else if i = 26 then held 3 [0, 1, 2, 3]
  else if i = 27 then ((s.slotsOf d).filterMap (fun e => match e.1 with | .raster _ => some e.2.fn | .core _ _ => none)).eraseDups
  else []

/-- The domains of a master by its ID (R96, R152): an AP's own, PF_0 for a PCI Express controller, the function whose command runs on a core, those of a DMA engine. -/
def State.masterDoms (s : State) (master : Nat) : List Dom :=
  let d := bits master 11 9
  match bits master 8 6 with
  | 0 => (s.slotsOf d).filterMap (fun e => match e.1 with
    | .core c _ => if c = bits master 5 0 then some e.2.fn else none
    | .raster _ => none)
  | 1 => [BitVec.ofNat 16 (0x1000 + 4 * d + bits master 5 0)]
  | 3 => [0]
  | 4 => s.dmaDoms d (bits master 5 0)
  | _ => []

/-- ECC_CORRECTION_WRITEBACK (R148): the correction is counted and logged; the granule holds the corrected data, or what a port wrote first. -/
def execEccCorrectionWriteback (master addr syndrome origin : Nat) (_overwritten : Bool) (s : State) : Out :=
  match memLoc s.part addr with
  | some l => if l.mem < 2 then .next (s.grnCorrected l (addr / 16 * 16) syndrome master origin) else .next s
  | none => .next s

/-- Words of a unit that the scrubber walks, and the address of a word (R150). -/
def scrubWords (unit : Nat) : Nat := if unit = 6 then 524288 else 1310720
def scrubAddr (d unit w : Nat) : Nat := (if unit = 6 then loftBase d else sliceBase d unit) + 64 * w

/-- The walk of a unit goes on by one word; SCRUB_WRAP sets when all seven have been walked (R150). -/
def State.scrubOn (s : State) (d unit : Nat) : State :=
  let w := lookupD s.memy.scrub (d, unit) 0 + 1
  let s1 := s.setFld d .GRN_SCRUB_UNIT 0 unit
  if w < scrubWords unit then { s1 with memy.scrub := insertKV s1.memy.scrub (d, unit) w }
  else
    let wr := if (d, unit) ∈ s1.memy.wrapped then s1.memy.wrapped else (d, unit) :: s1.memy.wrapped
    let s2 : State := { s1 with memy.scrub := insertKV s1.memy.scrub (d, unit) 0 }
    if (List.range 7).all (fun u => decide ((d, u) ∈ wr)) then
      ({ s2 with memy.wrapped := wr.filter (fun e => decide (e.1 ≠ d)) } : State).flag d .GRN_STATUS_SCRUB_WRAP
    else { s2 with memy.wrapped := wr }

/-- An error found in a granule of a word that the scrubber reads (R148, R149). -/
def State.scrubFind (s : State) (g : Nat) (found : EccFound) : State :=
  match memLoc s.part g, found with
  | some l, .single syn => s.grnCorrected l g syn 0xFFF 2
  | some _, .double syn => (s.poison g syn).detect scrubber 2 g
  | _, _ => s

/-- The granules of a 64-byte word that are not poisoned. -/
def State.cleanGranules (s : State) (a : Nat) : List Nat := ([0, 16, 32, 48].map (a + ·)).filter (fun g => (s.poisoned g 16).isNone)

/-- SCRUB_READ (R148, R149, R150): every poisoned granule of the word is detected, and the error that the row names, in a granule that was not poisoned: which
one is free. -/
def execScrubRead (d unit : Nat) (found : EccFound) (s : State) : Out :=
  if ¬ s.hasDie d ∨ 7 ≤ unit then .next s
  else if s.fld d .GRN_SCRUB_EN = 0 ∨ ¬ s.blkUp d .GRANARY 0 then .next s
  else
    let a := scrubAddr d unit (lookupD s.memy.scrub (d, unit) 0)
    let f := s.fresh
    let clean := s.cleanGranules a
    let s1 := (s.poisonIn a 64).foldl (fun (t : State) g => t.detect scrubber 2 g) f.2
    .next ((if clean = [] then s1 else s1.scrubFind (clean.getD (f.1 % clean.length) a) found).scrubOn d unit)

/-- The commands that a master had running when an uncorrectable error of its read is found: they end with ECC_UE (R149). Which of a core's commands read is not told by the
row; all of the core's do (DESIGN CHOICE, notes/assumptions/95). -/
def State.readFails (s : State) (master : Nat) : State :=
  let d := bits master 11 9
  (s.slotsOf d).foldl (fun (t : State) e =>
    if !e.2.ran && (match bits master 8 6, e.1 with
      | 0, .core c _ => decide (c = bits master 5 0)
      | 4, .raster _ => decide (bits master 5 0 = 27)
      | _, _ => false) then t.setPlaced d e.1 { e.2 with ran := true, status := 8 } else t) s

/-- DRAM_REREAD (R151): a correction is counted; a third detection is an uncorrectable error, with R149's outcome at the reader, judged afresh at the next read. -/
def execDramReread (master addr bg bank rank rereads : Nat) (clean : Bool) (s : State) : Out :=
  match memLoc s.part addr with
  | some l =>
    if l.mem ≠ 2 then .next s
    else if clean then
      .next (((s.addSat l.die (dramCe bg) l.unit 1).ceTotalAdd l.die (8 + l.unit)).dramLog l.die false addr l.unit bg bank rank rereads master)
    else
      let s1 := (((s.addSat l.die .DRAM_UE_COUNT_COUNT 0 1).ueTotalAdd l.die 1).dramLog l.die true addr l.unit bg bank rank rereads master).ueEvent l addr 0
        ⟨master, s.masterDoms master, true⟩
      .next { s1.readFails master with access := .memError }
  | none => .next s

/-- Take a counter into the Tithe working copy and clear it. -/
def State.collect (s : State) (d off : Nat) (f : Fld) (i : Nat) : State := (s.titheAdd (titheDie d off) (s.fld d f i)).setFld d f i 0

/-- The PMC takes the correctable and uncorrectable counters of a die into the Tithe store (R152, R498). -/
def State.collectEcc (s : State) (d : Nat) : State :=
  let s1 := (List.range 28).foldl (fun (t : State) n => t.collect d (0x0B0 + 6 * n) (grnCe (n % 4)) (n / 4)) s
  let s2 := (List.range 32).foldl (fun (t : State) n => t.collect d (0x158 + 6 * n) (dramCe (n % 4)) (n / 4)) s1
  (s2.collect d 0x218 .GRN_UE_COUNT_COUNT 0).collect d 0x21E .DRAM_UE_COUNT_COUNT 0

/-! LPDDR5X (R144) -/

/-- DRAM_POWER_DOWN_ENTRY: a channel has been idle for PD_IDLE. -/
def execDramPowerDownEntry (d ch : Nat) (s : State) : Out :=
  if ¬ s.hasDie d ∨ 8 ≤ ch then .next s
  else .next (if s.fld d .DRAM_CFG_PD_IDLE = 0 ∨ s.fld d .DRAM_STATUS_TRAINED = 0 ∨ (d, ch) ∈ s.memy.powerDown then s
    else { s with memy.powerDown := (d, ch) :: s.memy.powerDown })

/-- DRAM_REFRESH_DERATE: a device reports a temperature that requires the doubled refresh rate, or no longer does. -/
def execDramRefreshDerate (d ch : Nat) (derate : Bool) (s : State) : Out :=
  if ¬ s.hasDie d ∨ 8 ≤ ch then .next s
  else
    let l := (s.memy.derated.filter (fun e => decide (e ≠ (d, ch)))) ++ (if derate then [(d, ch)] else [])
    .next (({ s with memy.derated := l } : State).setFld d .DRAM_STATUS_DERATE 0 (b2n (l.any (fun e => decide (e.1 = d)))))

/-! Spill and refill (R154) -/

/-- Buffers of a silo in its buffer table by home slice, ascending in index, that a test selects. -/
def State.slicesBufs (s : State) (d k sl : Nat) (p : BufEnt → Bool) : List (Nat × BufEnt) :=
  sortBy (fun a b => decide (a.1 ≤ b.1)) (s.memy.bufs.filterMap (fun e =>
    if e.1.1 = d ∧ e.1.2.1 = k ∧ e.1.2.2 < 1024 ∧ e.2.valid ∧ e.2.slice = sl ∧ p e.2 then some (e.1.2.2, e.2) else none))

/-- Commands in slots that name a buffer, with the die that they run on. -/
def State.naming (s : State) (h : Nat) : List (Nat × SlotRef × Placed) :=
  (s.q.slots.filter (fun e => decide (h ∈ s.handlesOf e.2.desc))).map (fun e => (e.1.1, e.1.2, e.2))

/-- USED and QUOTA of a silo in a slice, or of its Loft scratch, as MEM_QUOTA answers them (R156). -/
def State.quotaAnswer (s : State) (d k sl : Nat) : List Byte :=
  if sl = 0xFF then leBytes 2 (s.scratchOf d k).length ++ leBytes 2 (s.fld d .LOFT_SCRATCH_QUOTA k)
  else leBytes 2 (s.usedBushels d k sl) ++ leBytes 2 (s.quotaOf d k sl)

/-- Every MEM_QUOTA that waits for a slice of a silo is answered. -/
def State.quotaDone (s : State) (d k sl : Nat) : State :=
  (s.memy.quotaReqs.filter (fun e => decide (e.1 = (d, k, sl)))).foldl (fun t e => t.answer e.2 0x0240 .ok (s.quotaAnswer d k sl))
    { s with memy.quotaReqs := s.memy.quotaReqs.filter (fun e => decide (e.1 ≠ (d, k, sl))) }

/-- A refill starts where the quota has room for the spilled buffer of lowest index (R154). -/
def State.startRefill (s : State) (d k sl : Nat) : State :=
  if (lookup? s.memy.spills (d, k, sl)).isSome then s
  else
    match s.slicesBufs d k sl (fun e => e.spilled && !e.moving) with
    | [] => s
    | (i, e) :: _ => match s.allocRun d k sl e.length with
      | some a => { s.changeBuf d k i { e with moving := true } with memy.spills := insertKV s.memy.spills (d, k, sl) ⟨i, true, a, none⟩ }
      | none => s

/-- Refills that become possible in a slice. -/
def State.refills (s : State) (d sl : Nat) : State := (List.range 16).foldl (fun (t : State) k => t.startRefill d k sl) s

/-- SPILL_START (R154, R155, R268): the unpinned buffer of highest index of a silo beyond its quota. Killable commands that name it are killed; while
others run, the copy does not begin; a buffer that cannot move stops the spill with QUOTA_ERR. -/
def execSpillStart (d k sl : Nat) (s : State) : Out :=
  if ¬ s.hasDie d ∨ 16 ≤ k ∨ 6 ≤ sl then .next s
  else if s.usedBushels d k sl ≤ s.quotaOf d k sl ∨ (lookup? s.memy.spills (d, k, sl)).isSome then .next s
  else
    match (s.slicesBufs d k sl (fun e => !e.spilled && !e.pinned && !e.moving)).reverse with
    | [] => .next ((s.flag d .GRN_STATUS_QUOTA_ERR).quotaDone d k sl)
    | (i, e) :: _ =>
      let h := mkHandle d k e.gen i
      let s1 := s.dieList.foldl (fun (t : State) x => t.killWhere x true (fun _ p => decide (h ∈ s.handlesOf p.desc))) s
      .next (if s1.naming h ≠ [] then s1
        else match s1.findSpill d e.length with
        | none => (s1.flag d .GRN_STATUS_QUOTA_ERR).quotaDone d k sl
        | some a => { s1.changeBuf d k i { e with moving := true } with memy.spills := insertKV s1.memy.spills (d, k, sl) ⟨i, false, a, none⟩ })

/-- The copy of a buffer has ended: BASE, SPILLED and MOVING, and a quota written meanwhile takes effect (R154). -/
def State.moveEnd (s : State) (d k sl : Nat) (m : Move) : State :=
  let s1 := match lookup? s.memy.bufs (d, k, m.index) with
    | some e => (s.copyMem e.base m.dest e.length).changeBuf d k m.index { e with base := m.dest, spilled := !m.refill, moving := false }
    | none => s
  let s2 : State := { s1 with memy.spills := eraseK s1.memy.spills (d, k, sl) }
  match m.nextQuota with
  | some q => s2.setFld d .GRN_QUOTA_QUOTA (6 * k + sl) q
  | none => s2

/-- SPILL_COPY_END (R154). -/
def execSpillCopyEnd (d k sl : Nat) (s : State) : Out :=
  match lookup? s.memy.spills (d, k, sl) with
  | some m =>
    if m.refill then .next s
    else
      let s1 := s.moveEnd d k sl m
      .next (if s1.usedBushels d k sl ≤ s1.quotaOf d k sl then (s1.quotaDone d k sl).refills d sl else s1)
  | none => .next s

/-- Sheaves of a silo held by a buffer beyond WAIT_MAX, where the silo has that guarantee: how long each has been ready, in µs (R295, KIND 4). -/
def State.heldBy (s : State) (d k h : Nat) : List Nat :=
  let most := s.fld d .SILO_TIME_WAIT_MAX k * 1000
  if most = 0 then [] else (s.q.queues.filter (fun e => decide (e.1 / 65536 = d))).flatMap (fun e => e.2.flight.filterMap (fun f =>
    match f.ready with
    | some t =>
      if f.silo = k ∧ t + most < s.now ∧
          (List.range f.count).any (fun i => decide (f.cmds[i]? = some .unplaced) && decide (h ∈ s.handlesOf (s.bytes (e.2.slotAddr (f.hdr + 1 + i)) 64)))
        then some ((s.now - t) / 1000) else none
    | none => none))

/-- REFILL_COPY_END (R154, R295): the buffer is resident again, and commands that name it may be placed; a delay beyond WAIT_MAX breaks a guarantee. -/
def execRefillCopyEnd (d k sl : Nat) (s : State) : Out :=
  let s0 := s.startRefill d k sl
  match lookup? s0.memy.spills (d, k, sl) with
  | some m =>
    if ¬ m.refill then .next s
    else
      let s1 := s0.moveEnd d k sl m
      let held := match lookup? s1.memy.bufs (d, k, m.index) with
        | some e => s1.heldBy d k (mkHandle d k e.gen m.index)
        | none => []
      let s2 := if held = [] then s1 else s1.guaranteeBroken d k 4 (held.foldl max 0) (s1.takerClass d k) 0
      .next ((if s2.usedBushels d k sl ≤ s2.quotaOf d k sl then s2.quotaDone d k sl else s2).refills d sl)
  | none => .next s

/-- The most that a silo's quota in a slice is, now and after the copy in progress (R154). -/
def State.quotaMost (s : State) (d k sl : Nat) : Nat :=
  max (s.quotaOf d k sl) (((lookup? s.memy.spills (d, k, sl)).bind (fun m => m.nextQuota)).getD 0)

/-- Whether a quota in a slice keeps the quotas of the slice within its bushels (R153), those that wait for a copy to end included. -/
def State.quotaFits (s : State) (d k sl quota : Nat) : Bool :=
  decide (quota ≤ 1280) && decide ((List.range 16).foldl (fun a j => a + if j = k then quota else s.quotaMost d j sl) 0 ≤ 1280)

/-- A quota of a slice takes effect, at once or when the copy in progress ends. -/
def State.putQuota (s : State) (d k sl quota : Nat) : State :=
  match lookup? s.memy.spills (d, k, sl) with
  | some m => { s with memy.spills := insertKV s.memy.spills (d, k, sl) { m with nextQuota := some quota } }
  | none => (s.setFld d .GRN_QUOTA_QUOTA (6 * k + sl) quota).startRefill d k sl

/-- Write of GRN_QUOTA_s_c (R154, R157). -/
def wrGrnQuota (m : Master) (d k sl data : Nat) (s : State) : State :=
  s.guarded m d .GRANARY (0x1000 + 0x20 * k + 4 * sl) (fun t =>
    let q := data % 2 ^ 11
    if ¬ t.quotaFits d k sl q then t.flag d .GRN_STATUS_QUOTA_ERR else t.putQuota d k sl q)

/-- GRN_QUOTA_WRITE. -/
def execGrnQuotaWrite (m : Master) (d k sl : Nat) (data : Word) (s : State) : Out :=
  if 16 ≤ k ∨ 6 ≤ sl then .next s
  else .next (s.regWrite m d .GRANARY (0x1000 + 0x20 * k + 4 * sl) data (wrGrnQuota m d k sl data.toNat))

/-! The Loft map (R140, R141) -/

/-- Whether a sheaf of a die uses KV pages: a fused command of it has not committed. -/
def State.kvUsed (s : State) (d : Nat) : Bool :=
  s.q.queues.any (fun e => decide (e.1 / 65536 = d) && e.2.flight.any (fun f =>
    (List.range f.count).any (fun i => decide (f.cmds[i]? ≠ some .committed) && descFused (s.bytes (e.2.slotAddr (f.hdr + 1 + i)) 64))))

/-- Units of Loft scratch that the silos of a die hold. -/
def State.scratchHeld (s : State) (d : Nat) : Nat := (List.range 16).foldl (fun a k => a + (s.scratchOf d k).length) 0

/-- Whether a map leaves the sizes in range and the scratch large enough (R141). -/
def State.mapFits (s : State) (d kv stook : Nat) : Bool :=
  decide (kv ≤ 8) && decide (stook ≤ 16) && decide (kv + stook ≤ 16) && decide (s.scratchHeld d ≤ (17 - kv - stook) * 16)

/-- Whether the KV or Stook region is in use (R141). -/
def State.mapBusy (s : State) (d : Nat) : Bool := s.kvUsed d || s.passInProgress d

/-- Every byte of a range takes a free value. -/
def State.scramble (s : State) (a n : Nat) : State :=
  { s with mem := (List.range n).foldl (fun m i => cellPut 0#8 m (a + i) (BitVec.ofNat 8 (Config.free (s.free + i)))) s.mem, free := s.free + n }

/-- A new map is in force (R141): what the KV and Stook regions held is not kept, a free value, and the KV slots of the die are unallocated. What lies in the regions after
them is kept, and moves with them (DEDUCED, notes/assumptions/96). -/
def State.putMap (s : State) (d kv stook : Nat) : State :=
  let was := s.fld d .LOFT_MAP_KV_MIB + s.fld d .LOFT_MAP_STOOK_MIB
  let at' (mib : Nat) := loftBase d + (5 + mib) * 0x100000
  let s1 := s.setFlds d 0 [(.LOFT_MAP_KV_MIB, kv), (.LOFT_MAP_STOOK_MIB, stook)]
  if kv = s.fld d .LOFT_MAP_KV_MIB ∧ stook = s.fld d .LOFT_MAP_STOOK_MIB then s1
  else
    let s2 := (s1.moveBytes (at' was) (at' (kv + stook)) ((27 - max was (kv + stook)) * 0x100000)).scramble (at' 0) ((kv + stook) * 0x100000)
    { s2 with memy.kvAlloc := s2.memy.kvAlloc.filter (fun e => decide (e.1.1 ≠ d)) }

/-- Write of LOFT_MAP (R141, R157). -/
def wrLoftMap (m : Master) (d data : Nat) (s : State) : State :=
  s.guarded m d .LOFT 0x010 (fun t =>
    let kv := bits data 3 0
    let stook := bits data 20 16
    if ¬ t.mapFits d kv stook then t.flag d .LOFT_STATUS_BADCFG
    else if t.mapBusy d then t.flag d .LOFT_STATUS_MAP_BUSY
    else t.putMap d kv stook)

/-- LOFT_MAP_WRITE. -/
def execLoftMapWrite (m : Master) (d : Nat) (data : Word) (s : State) : Out :=
  .next (s.regWrite m d .LOFT 0x010 data (wrLoftMap m d data.toNat))

/-- Whether a scratch quota is in range: not below what the silo holds, and the quotas of the die within its units (R155). -/
def State.scratchFits (s : State) (d k quota : Nat) : Bool :=
  decide ((List.range 16).foldl (fun a j => a + if j = k then quota else s.fld d .LOFT_SCRATCH_QUOTA j) 0 ≤ s.scratchUnits d)

/-- Write of LOFT_SCRATCH_s (R155, R157). -/
def wrLoftScratch (m : Master) (d k data : Nat) (s : State) : State :=
  s.guarded m d .LOFT (0x100 + 4 * k) (fun t =>
    let q := data % 2 ^ 9
    if q < (t.scratchOf d k).length ∨ ¬ t.scratchFits d k q then t.flag d .LOFT_STATUS_BADCFG else t.setFld d .LOFT_SCRATCH_QUOTA k q)

/-- LOFT_SCRATCH_WRITE. -/
def execLoftScratchWrite (m : Master) (d k : Nat) (data : Word) (s : State) : Out :=
  if 16 ≤ k then .next s
  else .next (s.regWrite m d .LOFT (0x100 + 4 * k) data (wrLoftScratch m d k data.toNat))

/-! Messages (R156) -/

/-- What refuses a shrink before any buffer moves (R155): pinned buffers alone could reach it, or the spill region lacks room. -/
def State.shrinkRefusal (s : State) (d k sl quota : Nat) : Option Status :=
  let movable := (s.slicesBufs d k sl (fun e => !e.spilled && !e.pinned)).reverse
  if quota < s.usedBushels d k sl - movable.foldl (fun a e => a + bushels e.2.length) 0 then some .guaranteeRefused
  else
    let r := movable.foldl (fun (a : Option State) e => match a with
      | none => none
      | some t =>
        if t.usedBushels d k sl ≤ quota then some t
        else (if e.2.moving then (lookup? t.memy.spills (d, k, sl)).map (fun m => m.dest) else t.findSpill d e.2.length).map (fun b => t.setBuf d k e.1 { e.2 with base := b, spilled := true })) (some s)
    if r.isSome then none else some .noResource

/-- MEM_QUOTA. -/
def execMemQuota (r : Req) (d k sl quota : Nat) (s : State) : Out :=
  .next (s.serve r 0x0240 (some d) (fun s =>
    if ¬ s.hasDie d ∨ 16 ≤ k ∨ (6 ≤ sl ∧ sl ≠ 0xFF) then reply s .badMessage
    else if ¬ s.manager r.dom then reply s .denied
    else if sl = 0xFF then
      if ¬ s.scratchFits d k quota then reply s .badMessage
      else if quota < (s.scratchOf d k).length then reply s .guaranteeRefused
      else let t := s.setFld d .LOFT_SCRATCH_QUOTA k quota; reply t .ok (t.quotaAnswer d k sl)
    else if ¬ s.quotaFits d k sl quota then reply s .badMessage
    else match s.shrinkRefusal d k sl quota with
      | some st => reply s st
      | none =>
        let t := s.putQuota d k sl quota
        if t.quotaOf d k sl = quota ∧ t.usedBushels d k sl ≤ quota then reply t .ok (t.quotaAnswer d k sl)
        else later { t with memy.quotaReqs := t.memy.quotaReqs ++ [((d, k, sl), r)] }))

/-- The lowest entry of a silo's buffer table that is not valid, and the generation that its next buffer has (R153). -/
def State.freeEntry (s : State) (d k : Nat) : Option Nat :=
  (List.range 1024).find? (fun i => match lookup? s.memy.bufs (d, k, i) with
    | some e => !e.valid
    | none => true)
def State.entryGen (s : State) (d k i : Nat) : Nat := (match lookup? s.memy.bufs (d, k, i) with | some e => e.gen + 1 | none => 1) % 65536

/-- MEM_ALLOC: the lowest free entry of the silo's buffer table, and the lowest free run of bushels. -/
def execMemAlloc (r : Req) (d k sl flags length : Nat) (s : State) : Out :=
  .next (s.serve r 0x0241 (some d) (fun s =>
    let c := s.siloClass d k
    if ¬ s.hasDie d ∨ 16 ≤ k ∨ 6 ≤ sl ∨ 2 ≤ flags ∨ length = 0 then reply s .badMessage
    else if s.holder 2 d k ≠ r.dom ∨ (flags = 1 ∧ 2 ≤ c) then reply s .denied
    else
      match s.freeEntry d k, s.allocRun d k sl length with
      | some i, some a =>
        let gen := s.entryGen d k i
        let t := s.changeBuf d k i ⟨a, true, false, decide (c = 0) || decide (flags = 1), false, sl, length, gen⟩
        reply { t with memy.carried := eraseK t.memy.carried (d, k, i) } .ok (leBytes 4 (mkHandle d k gen i))
      | _, _ => reply s .noResource))

/-- MEM_FREE. -/
def execMemFree (r : Req) (handle : Word) (s : State) : Out :=
  let h := handle.toNat
  let d := handleDie h
  let k := handleSilo h
  .next (s.serve r 0x0242 (some d) (fun s =>
    if ¬ s.hasDie d then reply s .badMessage
    else if s.holder 2 (s.bufDie h) k ≠ r.dom then reply s .denied
    else match s.bufOf h with
      | none => reply s .staleGeneration
      | some e =>
        if s.naming h ≠ [] ∨ e.moving then reply s .busy
        else reply ((s.changeBuf d k (handleIdx h) { e with valid := false }).refills (s.bufDie h) e.slice) .ok))

/-- MEM_BUF_QUERY. -/
def execMemBufQuery (r : Req) (handle : Word) (s : State) : Out :=
  let h := handle.toNat
  .next (s.serve r 0x0243 (some (handleDie h)) (fun s =>
    if ¬ s.hasDie (handleDie h) then reply s .badMessage
    else if s.holder 2 (s.bufDie h) (handleSilo h) ≠ r.dom then reply s .denied
    else match s.bufOf h with
      | some e => reply s .ok e.bytes
      | none => reply s .staleGeneration))

/-- MEM_LOFT_MAP. -/
def execMemLoftMap (r : Req) (d kv stook : Nat) (s : State) : Out :=
  .next (s.serve r 0x0244 (some d) (fun s =>
    if ¬ s.hasDie d ∨ ¬ s.mapFits d kv stook then reply s .badMessage
    else if ¬ s.manager r.dom then reply s .denied
    else if s.mapBusy d then reply s .busy
    else let t := s.putMap d kv stook; reply t .ok (leBytes 1 kv ++ leBytes 1 stook ++ leBytes 2 (t.scratchUnits d))))

/-- MEM_ECC_QUERY. -/
def execMemEccQuery (r : Req) (d : Nat) (s : State) : Out :=
  .next (s.serve r 0x0740 (some d) (fun s =>
    if ¬ s.hasDie d then reply s .badMessage
    else
      let ce (u : Nat) : List Byte := leBytes 4 (lookupD s.memy.ceTotal (d, u) 0)
      reply s .ok ((List.range 7).flatMap ce ++ leBytes 4 (lookupD s.memy.ueTotal (d, 0) 0) ++ (rangeFrom 8 8).flatMap ce ++
        leBytes 4 (lookupD s.memy.ueTotal (d, 1) 0))))

end Sys2Proof.Machine
end

