-- ==== Sys2Proof/Machine/Mirror.lean ====
section
/-!
DEFINITION. Machine/Mirror.lean: checked AP pairs (R426 to R429), cores that return to service (R424, R458), and the mirrored pair (R430 to R437, R439).
-/
namespace Sys2Proof.Machine

/-- Master ID of an AP (R96). -/
def apMaster (d a : Nat) : Nat := d * 512 + 64 + a

/-- The run of a checked AP pair. -/
def State.pairRun (s : State) (d p : Nat) : ApPairRun := lookupD s.pairs (d, p) ⟨[], [], false, false, []⟩

/-- Replace the run of a pair. -/
def State.setPair (s : State) (d p : Nat) (x : ApPairRun) : State := ({ s with pairs := insertKV s.pairs (d, p) x } : State).showSeq d

/-- Whether a pair runs checked on both its APs. -/
def State.pairActive (s : State) (d p : Nat) : Bool := bit (s.fld d .APPAIR_STATUS_ACTIVE) p

/-- Pending lines of an AP are released to memory (R427). -/
def State.releaseLines (s : State) (d a : Nat) (ls : List (Nat × Byte)) : State := s.stores ⟨apMaster d a, [BitVec.ofNat 16 (0x1000 + 4 * d + a)], true⟩ (gather ls)

/-- EV_MISMATCH of an AP pair (R438). -/
def State.pairEvent (s : State) (d p outcome : Nat) : State :=
  s.raise .mismatch d 0xFF00 [(20, 1, outcome), (21, 1, 1), (22, 2, apMaster d (2 * p)), (24, 2, apMaster d (2 * p + 1)), (28, 4, 0xFFFFFFFF)]
    ([BitVec.ofNat 16 (0x1000 + 4 * d + 2 * p), BitVec.ofNat 16 (0x1001 + 4 * d + 2 * p)] ++ s.safetyDoms)

/-- An AP is held in reset and removed (R428). -/
def State.removeAp (s : State) (d a : Nat) : State :=
  let s1 : State := { s with boot.down := if (d, a) ∈ s.boot.down then s.boot.down else s.boot.down ++ [(d, a)] }
  (s1.setFld d .APPAIR_STATUS_OUT 0 (setBit (s.fld d .APPAIR_STATUS_OUT) a)).flag d .COMMIT_STATUS_REMOVED

/-- A pair stops running checked. -/
def State.pairStops (s : State) (d p : Nat) (degraded : Bool) : State :=
  let s1 := s.setFld d .APPAIR_STATUS_ACTIVE 0 (clearBit (s.fld d .APPAIR_STATUS_ACTIVE) p)
  if degraded then s1.setFld d .APPAIR_STATUS_DEGRADED 0 (setBit (s.fld d .APPAIR_STATUS_DEGRADED) p) else s1

/-- Both APs fail: no message is performed, both are removed, and the safe-state path runs (R428). -/
def State.pairLost (s : State) (d p outcome : Nat) : State :=
  let s1 := (((s.removeAp d (2 * p)).removeAp d (2 * p + 1)).pairStops d p false).countPersistent d
  (((s1.setPair d p ⟨[], [], false, false, []⟩).flag d .COMMIT_STATUS_INVALID).pairEvent d p outcome).source { src := 11, die := d } []

/-- AP_CHECKPOINT (R427, R428): the signatures of an interval meet; `equal` tells whether they agree. -/
def execApCheckpoint (d p : Nat) (lines : PairLines) (equal : Bool) (s : State) : Out :=
  if ¬ s.hasDie d ∨ 2 ≤ p then .next s
  else
    let x := s.pairRun d p
    if ¬ s.pairActive d p ∨ x.testing ∨ s.tripped d then .next s
    else if equal then
      let s1 := (s.releaseLines d (2 * p) lines.main).setPair d p ⟨[], [], false, false, []⟩
      if x.second then .next ((s1.countTransient d).pairEvent d p 0) else .next s1
    else if x.second then .next (s.pairLost d p 4)
    else .next ((s.setPair d p ⟨lines.main, lines.checker, true, false, x.log⟩).flag d .COMMIT_STATUS_MISMATCH)

/-- AP_PAIR_SELFTEST_END (R428): the survivor's lines are released and it runs alone, or both execute again, or the pair is lost. -/
def execApPairSelftestEnd (d p : Nat) (mainPass checkerPass : Bool) (s : State) : Out :=
  if ¬ s.hasDie d ∨ 2 ≤ p then .next s
  else
    let x := s.pairRun d p
    if ¬ x.testing ∨ s.tripped d then .next s
    else if mainPass && checkerPass then .next (s.setPair d p ⟨[], [], false, true, x.log⟩)
    else if !mainPass && !checkerPass then .next (s.pairLost d p 3)
    else
      let s1 := ((if mainPass then s.releaseLines d (2 * p) x.lines else s.releaseLines d (2 * p + 1) x.checkerLines).setPair d p ⟨[], [], false, false, []⟩).removeAp d (if mainPass then 2 * p + 1 else 2 * p)
      .next ((((s1.pairStops d p true).countPersistent d).pairEvent d p (if mainPass then 2 else 1)).source { src := 11, die := d } [])

/-- DEBUG_ACTION (R429): an action on the main of a checked pair is recorded in the replay log of 256 actions; with the log full it ends with error 7 of the
abstract command or of the system bus and records nothing. The debugger must be authenticated for the AP harts (R480). -/
def execDebugAction (d p : Nat) (a : DebugAct) (s : State) : Out :=
  if ¬ s.hasDie d ∨ 2 ≤ p then .next s
  else if s.fld 0 .SEC_STATUS_DBG_AUTH ≠ 1 ∨ ¬ bit s.sec.dbgOpen 0 ∨ ¬ s.pairActive d p then .next s
  else
    let x := s.pairRun d p
    if 256 ≤ x.log.length then .next { s with access := .value 7 }
    else .next { (s.setPair d p { x with log := x.log ++ [a] }).releaseLines d (2 * p) a.writes with access := .done }

/-- CHK_QUERY (R439). -/
def execChkQuery (r : Req) (d : Nat) (s : State) : Out :=
  .next (s.serve r 0x0750 none (fun s =>
    if ¬ s.hasDie d then reply s .badMessage
    else reply s .ok (leBytes 8 (s.fld d .COMMIT_OUT_CORES) ++ leBytes 4 (s.fld d .COMMIT_COUNT_PERSISTENT * 2 ^ 16 + s.fld d .COMMIT_COUNT_TRANSIENT) ++
      leBytes 4 (s.fld d .COMMIT_SEG_OVERRUN_COUNT) ++ leBytes 4 (s.fld d .APPAIR_CFG_EN0 + 2 * s.fld d .APPAIR_CFG_EN1) ++
      leBytes 4 (s.fld d .APPAIR_STATUS_OUT * 16 + s.fld d .APPAIR_STATUS_DEGRADED * 4 + s.fld d .APPAIR_STATUS_ACTIVE) ++ leBytes 8 0)))

/-- A passing test of a core clears what earlier ones left (R457), and the core rejoins its Class S silos at their next boundary. -/
def State.corePassed (s : State) (d c : Nat) : State :=
  let out := s.fld d .GLN_CORE_S_EXCLUDED c = 1
  let s1 := s.setFlds d c [(.GLN_CORE_FAILED, 0), (.GLN_CORE_LAPSE, 0), (.GLN_CORE_S_EXCLUDED, 0), (.GLN_CORE_AGE, 0)]
  let s2 : State := { s1 with safe.tested := insertKV s1.safe.tested (d, c) s.now, safe.period := insertKV s1.safe.period (d, c) s.now }
  if out then { s2 with safe.rejoin := s2.safe.rejoin ++ (s.classSWith d c).map (fun x => (d, x.2, c)) } else s2

/-- CHK_RESTORE (R424, R439, R458): a removed core or AP returns when its three test runs pass. -/
def execChkRestore (r : Req) (d kind i : Nat) (passes : List Bool) (s : State) : Out :=
  .next (s.serve r 0x0751 none (fun s =>
    if ¬ s.hasDie d ∨ 2 ≤ kind ∨ (kind = 0 ∧ 48 ≤ i) ∨ (kind = 1 ∧ 4 ≤ i) then reply s .badMessage
    else if ¬ s.granted r.dom then reply s .denied
    else
      let out := if kind = 0 then s.fld d .COMMIT_OUT_CORES else s.fld d .APPAIR_STATUS_OUT
      if ¬ bit out i then reply s .ok
      else if passes.length < 3 ∨ ¬ (passes.take 3).all id then reply s .timeout
      else if kind = 0 then reply ((s.setFld d .COMMIT_OUT_CORES 0 (clearBit out i)).corePassed d i) .ok
      else reply { s.setFld d .APPAIR_STATUS_OUT 0 (clearBit out i) with boot.down := s.boot.down.filter (fun x => decide (x ≠ (d, i))) } .ok))

/-- APPAIR_SET (R426, R439): takes effect at the next AP-scope reset of both APs. -/
def execAppairSet (r : Req) (d p en : Nat) (s : State) : Out :=
  .next (s.serve r 0x0752 none (fun s =>
    if ¬ s.hasDie d ∨ 2 ≤ p ∨ 2 ≤ en then reply s .badMessage
    else if ¬ s.granted r.dom then reply s .denied
    else reply (s.setFld d (if p = 0 then .APPAIR_CFG_EN0 else .APPAIR_CFG_EN1) 0 en) .ok))

/-- The mirrored functions (R432). -/
def State.mirroredFns (s : State) : List Dom :=
  (List.range 64).filterMap (fun i => if s.fld 0 .MIRROR_FN_EN i = 1 then some (fnDom (s.fld 0 .MIRROR_FN_FUNCTION i)) else none)

/-- Lanes in use: 4, 2, 1 or none (R430). -/
def lanesInUse (ls : List Nat) : Nat := if 4 ≤ ls.length then 4 else if 2 ≤ ls.length then 2 else ls.length

/-- Send the initial image of a mirrored function (R432); it streams past the queue. -/
def State.sendImage (s : State) (i : Nat) (asked : List Req) : State :=
  let n := s.fld 0 .MIRROR_FN_FUNCTION i
  let seq := (s.fld 0 .MIRROR_SEQ_SEQ + 1) % 2 ^ 64
  let s1 := (s.setFld 0 .MIRROR_SEQ_SEQ 0 seq).setFld 0 .MIRROR_FN_SYNCED i 0
  ({ s1 with mirror.queue := s1.mirror.queue ++ [(seq, n, 0)], mirror.initial := s1.mirror.initial ++ [(n, seq, asked)] } : State).send
    (.transfer seq n (s.imageRecs (fnDom n) true true))

/-- Send the image of every entry of MIRROR_FN that satisfies a test. -/
def State.sendImages (s : State) (which : State → Nat → Bool) : State :=
  (List.range 64).foldl (fun t i => if t.fld 0 .MIRROR_FN_EN i = 1 ∧ which t i then t.sendImage i [] else t) s

/-- Whether this part is a primary whose partner's port is trained. -/
def State.pairUp (s : State) : Bool := decide (s.fld 0 .MIRROR_STATUS_ROLE = 1) && decide (s.fld 0 .MIRROR_STATUS_LINK_UP = 1)

/-- EV_PAIR_LINK with a reason (R438). -/
def State.pairLink (s : State) (why : Nat) : State :=
  s.raise .pairLink 0 0xFF00 [(20, 1, why), (24, 8, s.fld 0 .MIRROR_SEQ_SEQ)] (s.mirroredFns ++ s.safetyDoms)

/-- The pair is synchronised again (R433). -/
def State.synced (s : State) : State :=
  if s.fld 0 .MIRROR_STATUS_UNSYNC = 1 ∧ s.mirror.initial = [] then (s.setFld 0 .MIRROR_STATUS_UNSYNC 0 0).pairLink 4 else s

/-- An unsynchronised primary sends a fresh initial image of every mirrored function (R433). -/
def State.resync (s : State) : State :=
  if s.fld 0 .MIRROR_STATUS_UNSYNC = 0 ∨ s.mirror.initial ≠ [] ∨ ¬ s.pairUp then s
  else
    let s1 := ({ s with mirror.queue := [] } : State).setFld 0 .MIRROR_LAG_COUNT 0 0
    (s1.sendImages (fun _ _ => true)).synced

/-- The outcome of R431 for a part's code and its partner's: a role, or 0 for no pair. -/
def State.pairRole (s : State) (mine partner digest : Nat) : Nat :=
  let own := s.serial
  let them := if partner = 1 then 1 else if partner = 2 ∨ partner = 6 then 2 else 0
  match mine with
  | 1 => if them = 1 then 0 else 1
  | 2 | 6 => if them = 2 then 0 else 2
  | _ => if them = 1 then 2 else if them = 2 then 1 else if own < digest then 1 else if digest < own then 2 else 0

/-- The code under which the port trains: an explicit role of MIRROR_CFG, else the effective BOOTSEL code (R431). -/
def State.pairCode (s : State) : Nat :=
  if s.fld 0 .MIRROR_CFG_EN = 1 ∧ s.fld 0 .MIRROR_CFG_ROLE_REQ ≠ 0 then s.fld 0 .MIRROR_CFG_ROLE_REQ else s.fld 0 .RST_STATUS_BOOTSEL_EFF

/-- Whether the port can train: at step 9 under codes 0, 1, 2 and 6, or when PAIR_SET or MIRROR_CFG enables it with an explicit role (R430, R431). -/
def State.portEnabled (s : State) : Bool :=
  decide (8 ≤ s.stepOf 0) && s.boot.powered && (decide (s.pairCode = 0) || decide (s.pairCode = 1) || decide (s.pairCode = 2) || decide (s.pairCode = 6))

/-- MIRROR_PORT_TRAINED (R430, R431, R481): lanes as a mask, the partner's code, and what the partner presents. The two SECs agree a pair key when a pair forms, and a new primary sends the images of the functions that are named already (R432); roles outlive a loss of the link (R436). A pair whose port trains
again has retrained it, which the Tithe store counts with the Mirsia retrains of DIE_0 (R441, R498; DEDUCED, notes/assumptions/107). -/
def execMirrorPortTrained (lanes code : Nat) (partner : PartnerId) (s : State) : Out :=
  let ls := (List.range 4).filter (bit lanes)
  if ls = [] ∨ ¬ s.portEnabled then .next s
  else
    let s1 := (({ s with mirror.lanes := ls, mirror.partner := some (code, partner.digest), mirror.misses := 0 } : State).setFld 0 .MIRROR_STATUS_LANES 0 (lanesInUse ls)).flag 0 .MIRROR_STATUS_LINK_UP
    if s.fld 0 .MIRROR_STATUS_ROLE ≠ 0 then .next (s1.titheAdd (titheDie 0 0x242) 1).resync
    else if s.pairCode = 0 ∧ ¬ s.mirror.window then .next s1
    else
      let role := s.pairRole s.pairCode code partner.digest
      if role = 0 ∨ ¬ partner.trusted then .next (s1.flag 0 .MIRROR_STATUS_ROLE_ERR)
      else
        let s2 := ({ s1 with sec.pairKey := some s1.free, free := s1.free + 1, mirror.expect := 0 } : State).setFld 0 .MIRROR_STATUS_ROLE 0 role
        .next (if role = 1 then s2.sendImages (fun t i => decide (t.fld 0 .MIRROR_FN_SYNCED i = 0)) else s2)

/-- PAIR_DISCOVERY_WINDOW_END (R431): 100 ms after step 10. -/
def execPairDiscoveryWindowEnd (s : State) : Out := .next { s with mirror.window := false }

/-- MIRROR_LANE_LOSS (R430): the port runs on the lanes that are left; without one, the link is lost (R436). -/
def execMirrorLaneLoss (lane : Nat) (s : State) : Out :=
  if 4 ≤ lane then .next s
  else if lane ∉ s.mirror.lanes then .next s
  else
    let ls := s.mirror.lanes.filter (fun x => decide (x ≠ lane))
    let s1 := ({ s with mirror.lanes := ls } : State).setFld 0 .MIRROR_STATUS_LANES 0 (lanesInUse ls)
    if ls ≠ [] then .next s1
    else
      let s2 := s1.setFld 0 .MIRROR_STATUS_LINK_UP 0 0
      if s.fld 0 .MIRROR_STATUS_ROLE = 1 then .next (s2.unsync 0) else if s.fld 0 .MIRROR_STATUS_ROLE = 2 then .next (s2.pairLink 0) else .next s2

/-- The work of a function that this part gives up as a standby is suppressed (R434, R436): frozen, its killable commands killed and not re-run. -/
def State.suppress (s : State) (fn : Dom) : State :=
  if s.frozen fn then s
  else
    let s1 : State := { s with fn.freezes := s.fn.freezes ++ [(⟨fn, [], false, s.now, false⟩ : FnFreeze)] }
    let s2 := (s1.freezeQueues fn).setMb fn .FN_STATUS_FROZEN 1
    (s2.dieList.foldl (fun (t : State) d => t.killWhere d false (fun _ p => decide (p.fn = fn))) s2).freezeCheck fn

/-- This part becomes standby. -/
def State.demote (s : State) : State :=
  let s1 := ({ s.dropImages .timeout (fun _ => true) with mirror.tookOver := false, mirror.queue := [] } : State).setFlds 0 0 [(.MIRROR_STATUS_ROLE, 2), (.MIRROR_LAG_COUNT, 0)]
  s1.mirroredFns.foldl (fun t f => t.suppress f) s1

/-- EV_PAIR_FAILOVER (R438), which the Tithe store counts (R497). -/
def State.failoverEvent (s : State) (cause : Nat) : State :=
  (s.titheAdd 0x094 1).raise .pairFailover 0 0xFF00 [(20, 1, cause), (21, 1, s.fld 0 .MIRROR_STATUS_UNSYNC), (24, 8, s.fld 0 .MIRROR_SEQ_SEQ)] (s.mirroredFns ++ s.safetyDoms)

/-- A takeover (R135, R435): the standby becomes primary, thaws every mirrored function and lifts the suppression. -/
def State.takeover (s : State) (cause : Nat) : State :=
  let s1 := (({ s with mirror.tookOver := decide (cause ≠ 2) } : State).setFld 0 .MIRROR_STATUS_ROLE 0 1).failoverEvent cause
  let s2 := s1.stopActivation.mirroredFns.foldl (fun t f => if t.frozen f then t.thawFn f else t) s1.stopActivation
  if cause = 2 then (List.range 64).foldl (fun t i => if t.fld 0 .MIRROR_FN_EN i = 1 then t.setFld 0 .MIRROR_FN_SYNCED i 1 else t) s2 else s2.unsync 2

/-- MIRROR_TRANSFER_RX (R432): the standby applies transfers in sequence order and acknowledges them. A transfer with FUNCTION and MSIX records is an
initial image: it rebuilds the function, which must hold nothing here unless it is a copy already armed. -/
def execMirrorTransferRx (seq n : Nat) (records : List MirrorRec) (s : State) : Out :=
  let fn := fnDom n
  if s.fld 0 .MIRROR_STATUS_ROLE ≠ 2 ∨ s.fld 0 .MIRROR_STATUS_LINK_UP = 0 ∨ 2048 < n then .next s
  else
    let image := records.any (fun r => decide (r.kind = 2))
    let entry := s.mirrored fn
    if image then
      if entry.isNone ∧ ((s.queuesOf fn) ≠ [] ∨ s.pins.claims.any (fun e => decide (e.2.1 = fn))) then .next s
      else
        match (match entry with
            | some i => some i
            | none => (List.range 64).find? (fun i => decide (s.fld 0 .MIRROR_FN_EN i = 0))) with
        | none => .next s
        | some i =>
          match ((s.clearFn fn).setFlds 0 i [(.MIRROR_FN_EN, 1), (.MIRROR_FN_FUNCTION, n), (.MIRROR_FN_SYNCED, 1)]).putRecs fn records with
          | none => .next s
          | some t => .next ((({ t.holdFrozen fn with mirror.expect := seq + 1 } : State).setFlds 0 0 [(.MIRROR_SEQ_SEQ, seq), (.MIRROR_ACK_SEQ, seq)]).send (.transfer seq n []))
    else if seq ≠ s.mirror.expect ∨ entry.isNone then .next s
    else
      match s.putRecs fn records with
      | none => .next s
      | some t => .next ((({ t with mirror.expect := seq + 1 } : State).setFlds 0 0 [(.MIRROR_SEQ_SEQ, seq), (.MIRROR_ACK_SEQ, seq)]).send (.transfer seq n []))

/-- MIRROR_ACK_RX (R432, R433, R439): transfers up to the mirror point leave the queue, and functions whose image it covers are synchronised. -/
def execMirrorAckRx (seq : Nat) (s : State) : Out :=
  if s.fld 0 .MIRROR_STATUS_ROLE ≠ 1 then .next s
  else
    let done := s.mirror.initial.filter (fun x => decide (x.2.1 ≤ seq))
    let s1 : State := { s with mirror.queue := s.mirror.queue.filter (fun x => decide (seq < x.1)), mirror.initial := s.mirror.initial.filter (fun x => decide (seq < x.2.1)) }
    let s2 := (s1.setFld 0 .MIRROR_ACK_SEQ 0 seq).setFld 0 .MIRROR_LAG_COUNT 0 s1.mirrorLag
    let s3 := done.foldl (fun t x =>
      let u := match t.mirrored (fnDom x.1) with
        | some i => t.setFld 0 .MIRROR_FN_SYNCED i 1
        | none => t
      x.2.2.foldl (fun v r => v.answer r 0x0761 .ok []) u) s2
    .next s3.synced

/-- Whether a handover has frozen its functions and drained the queue (R437). -/
def State.handoverReady (s : State) : Bool :=
  s.mirror.handover.isSome && s.fn.freezes.all (fun f => !f.handover || f.complete) && s.mirror.queue.isEmpty

/-- HEARTBEAT_SEND (R434, R437, R444): every 8 µs, on the mirror port and with ALT_EN on the alternate path. A clock-failure notice makes the sender standby
at once. -/
def execHeartbeatSend (s : State) : Out :=
  let role := s.fld 0 .MIRROR_STATUS_ROLE
  if role = 0 then .next { s with clk.noticeDue := false }
  else
    let n := (s.mirror.sent + 1) % 2 ^ 32
    let h : Heartbeat := ⟨role, n, s.fld 0 .MIRROR_SEQ_SEQ, s.now, s.clk.noticeDue, s.isSafe, s.handoverReady, decide (s.fld 0 .MIRROR_STATUS_UNSYNC = 1)⟩
    let s1 : State := { s with mirror.sent := n, clk.noticeDue := false }
    let s2 := if s.fld 0 .MIRROR_STATUS_LINK_UP = 1 then s1.send (.heartbeat false h) else s1
    let s3 := if s.fld 0 .MIRROR_CFG_ALT_EN = 1 then s2.send (.heartbeat true h) else s2
    .next (if s.clk.noticeDue ∧ role = 1 then s3.demote else s3)

/-- The old primary of a handover sees its partner primary (R437): it is the new standby and its copies stay FROZEN. -/
def State.handoverDone (s : State) : State :=
  match s.mirror.handover with
  | none => s
  | some r =>
    let t0 := match s.fn.freezes.find? (fun f => f.handover) with
      | some f => f.time
      | none => s.now
    let s1 : State := { s with mirror.handover := none, mirror.tookOver := false, fn.freezes := s.fn.freezes.map (fun f => { f with handover := false }) }
    let s2 := s1.setFlds 0 0 [(.MIRROR_STATUS_ROLE, 2), (.MIRROR_STATUS_HANDOVER, 0)]
    match r with
    | some q => s2.answer q 0x0762 .ok (leBytes 4 ((s.now - t0) / 1000))
    | none => s2

/-- HEARTBEAT_RX (R434 to R437, R447). -/
def execHeartbeatRx (alternate : Bool) (h : Heartbeat) (s : State) : Out :=
  let role := s.fld 0 .MIRROR_STATUS_ROLE
  if role = 0 ∨ (if alternate then s.fld 0 .MIRROR_CFG_ALT_EN = 0 else s.fld 0 .MIRROR_STATUS_LINK_UP = 0) then .next s
  else
    let before := match s.mirror.heard with
      | some x => x.safeState
      | none => false
    let s0 : State := if alternate then { s with mirror.altMisses := 0, mirror.heard := some h } else { s with mirror.misses := 0, mirror.heard := some h }
    let s1 := if alternate then s0.flag 0 .MIRROR_STATUS_ALT_OK else s0
    if role = 2 then
      let s2 := s1.setFld 0 .MIRROR_STATUS_UNSYNC 0 (b2n h.unsync)
      let s3 := if h.safeState && !before then s2.raise .safeState 0 0xFF00 [(20, 1, 2), (23, 1, 0xFF), (24, 4, 0xFFFFFFFF), (28, 4, 0xFFFFFFFF)] s2.safetyDoms else s2
      .next (if h.clkFail then s3.takeover 1 else if h.handover then s3.takeover 2 else s3)
    else if h.role = 1 then
      if s.mirror.handover.isSome then .next s1.handoverDone
      else if s.mirror.tookOver then .next (s1.failoverEvent 3)
      else .next ((s1.failoverEvent 3).demote)
    else if alternate then .next s1
    else .next s1.resync

/-- HEARTBEAT_MISSED (R434 to R437): none arrived within 9 µs of the one before. -/
def execHeartbeatMissed (alternate : Bool) (s : State) : Out :=
  let role := s.fld 0 .MIRROR_STATUS_ROLE
  let alt := s.fld 0 .MIRROR_CFG_ALT_EN = 1
  if role = 0 ∨ (alternate ∧ ¬ alt) then .next s
  else
    let s0 : State := if alternate then { s with mirror.altMisses := s.mirror.altMisses + 1 } else { s with mirror.misses := s.mirror.misses + 1 }
    let s1 := (s0.addSat 0 .MIRROR_HB_MISS_COUNT 0 1).titheAdd 0x09A 1
    let s2 := if alternate ∧ 2 ≤ s1.mirror.altMisses then s1.setFld 0 .MIRROR_STATUS_ALT_OK 0 0 else s1
    let main := decide (2 ≤ s2.mirror.misses)
    let other := decide (2 ≤ s2.mirror.altMisses)
    let now := if alternate then decide (s2.mirror.altMisses = 2) else decide (s2.mirror.misses = 2)
    if ¬ now then .next s2
    else
      let s3 := s2.flag 0 .MIRROR_STATUS_HB_LOST
      if main ∧ (other ∨ ¬ alt) then
        if role = 2 then .next (s3.takeover 0)
        else .next ((s3.abortHandover).unsync 2)
      else if role = 1 ∧ ¬ alternate then .next (s3.unsync 0)
      else .next (s3.pairLink (if alternate then 1 else 0))

/-- Whether a sender may send the pair messages, and has feature bit 13 (R439). -/
def State.pairRefusal (s : State) (r : Req) : Option Status :=
  if ¬ s.hasFeature r 13 then some .unsupported else if ¬ s.granted r.dom then some .denied else none

/-- PAIR_SET (R431, R439). -/
def execPairSet (r : Req) (en role altEn altPort altMac : Nat) (s : State) : Out :=
  .next (s.serve r 0x0760 none (fun s =>
    if 2 ≤ en ∨ 3 ≤ role ∨ 2 ≤ altEn ∨ 8 * s.part.dies ≤ altPort ∨ altPort % 8 = 7 then reply s .badMessage
    else
      match s.pairRefusal r with
      | some st => reply s st
      | none =>
        if s.fld 0 .MIRROR_STATUS_HANDOVER = 1 then reply s .busy
        else reply ({ s.setFlds 0 0 [(.MIRROR_CFG_EN, en), (.MIRROR_CFG_ROLE_REQ, role), (.MIRROR_CFG_ALT_EN, altEn), (.MIRROR_CFG_ALT_PORT, altPort)] with mirror.altMac := altMac }) .ok))

/-- PAIR_MIRROR (R432, R439). -/
def execPairMirror (r : Req) (n en : Nat) (s : State) : Out :=
  .next (s.serve r 0x0761 none (fun s =>
    if 2048 < n ∨ 2 ≤ en then reply s .badMessage
    else
      match s.pairRefusal r with
      | some st => reply s st
      | none =>
        let entry := (List.range 64).find? (fun i => decide (s.fld 0 .MIRROR_FN_EN i = 1) && decide (s.fld 0 .MIRROR_FN_FUNCTION i = n))
        if en = 0 then
          match entry with
          | some i => reply ((s.dropImages .conflict (fun f => decide (f = n))).setFlds 0 i [(.MIRROR_FN_EN, 0), (.MIRROR_FN_SYNCED, 0)]) .ok
          | none => reply s .ok
        else if s.fld 0 .MIRROR_STATUS_ROLE = 2 then reply s .conflict
        else
          match entry with
          | some i =>
            if s.fld 0 .MIRROR_FN_SYNCED i = 1 then reply s .ok
            else if ¬ s.pairUp then reply s .busy
            else if s.mirror.initial.any (fun x => decide (x.1 = n)) then
              later { s with mirror.initial := s.mirror.initial.map (fun x => if x.1 = n then (x.1, x.2.1, x.2.2 ++ [r]) else x) }
            else later (s.sendImage i [r])
          | none =>
            match (List.range 64).find? (fun i => decide (s.fld 0 .MIRROR_FN_EN i = 0)) with
            | none => reply s .noResource
            | some i => if s.pairUp then later ((s.setFlds 0 i [(.MIRROR_FN_EN, 1), (.MIRROR_FN_FUNCTION, n)]).sendImage i [r]) else reply s .busy))

/-- PAIR_HANDOVER (R437). -/
def execPairHandover (r : Req) (s : State) : Out :=
  .next (s.serve r 0x0762 none (fun s =>
    match s.pairRefusal r with
    | some st => reply s st
    | none =>
      if s.fld 0 .MIRROR_STATUS_UNSYNC = 1 ∨ s.fn.freezes ≠ [] ∨ s.fw.activation.isSome ∨ s.mirror.handover.isSome ∨ ¬ s.pairUp then reply s .busy
      else
        let s1 := ({ s with mirror.handover := some (some r) } : State).flag 0 .MIRROR_STATUS_HANDOVER
        later (s1.mirroredFns.foldl (fun t f => t.beginFreeze f [] true) s1)))

/-- PAIR_QUERY (R439). -/
def execPairQuery (r : Req) (s : State) : Out :=
  .next (s.serve r 0x0763 none (fun s =>
    if ¬ s.hasFeature r 13 then reply s .unsupported
    else
      let f (x : Fld) := s.fld 0 x
      let st := f .MIRROR_STATUS_LANES * 2 ^ 8 + f .MIRROR_STATUS_ROLE_ERR * 2 ^ 7 + f .MIRROR_STATUS_UNSYNC * 2 ^ 6 + f .MIRROR_STATUS_HANDOVER * 2 ^ 5 +
        f .MIRROR_STATUS_ALT_OK * 2 ^ 4 + f .MIRROR_STATUS_LINK_UP * 2 ^ 3 + f .MIRROR_STATUS_ROLE * 2 + f .MIRROR_STATUS_HB_LOST
      reply s .ok (leBytes 4 st ++ leBytes 8 (f .MIRROR_SEQ_SEQ) ++ leBytes 8 (f .MIRROR_ACK_SEQ) ++ leBytes 4 (f .MIRROR_LAG_COUNT) ++
        leBytes 4 (f .MIRROR_HB_MISS_COUNT) ++ leBytes 4 0)))

/-- MIRROR_FN_i (R441): setting EN sends the initial image; FUNCTION changed while EN is 1 sets ROLE_ERR and is ignored. DESIGN CHOICE (notes/assumptions/107): so is a
write of a number that is no domain. -/
def wrMirrorFn (i data : Nat) (s : State) : State :=
  let n := bits data 11 0
  let en := bits data 31 31
  let was := s.fld 0 .MIRROR_FN_EN i
  if 2048 < n then s.flag 0 .MIRROR_STATUS_ROLE_ERR
  else
    let s1 := if was = 0 then s.setFld 0 .MIRROR_FN_FUNCTION i n
      else if n = s.fld 0 .MIRROR_FN_FUNCTION i then s else s.flag 0 .MIRROR_STATUS_ROLE_ERR
    let s2 := s1.setFld 0 .MIRROR_FN_EN i en
    if en = 0 then (s2.dropImages .conflict (fun f => decide (f = s2.fld 0 .MIRROR_FN_FUNCTION i))).setFld 0 .MIRROR_FN_SYNCED i 0
    else if was = 0 ∧ s2.pairUp then s2.sendImage i [] else s2

/-- MIRROR_FN_WRITE. -/
def execMirrorFnWrite (m : Master) (i : Nat) (data : Word) (s : State) : Out :=
  if 64 ≤ i then .next s
  else .next (s.regWrite m 0 .MIRROR (0x100 + 4 * i) data (fun s => s.guarded m 0 .MIRROR (0x100 + 4 * i) (wrMirrorFn i data.toNat)))

/-- MIRROR_CFG (R441): ROLE_REQ 3 sets ROLE_ERR and is ignored. -/
def wrMirrorCfg (data : Nat) (s : State) : State :=
  let role := bits data 30 29
  let s1 := s.setFlds 0 0 [(.MIRROR_CFG_EN, bits data 31 31), (.MIRROR_CFG_ALT_EN, bits data 28 28), (.MIRROR_CFG_ALT_PORT, bits data 21 16)]
  if role = 3 then s1.flag 0 .MIRROR_STATUS_ROLE_ERR else s1.setFld 0 .MIRROR_CFG_ROLE_REQ 0 role

end Sys2Proof.Machine
end

