-- ==== Sys2Proof/Machine/Tithe.lean ====
section
/-!
DEFINITION. Machine/Tithe.lean: the Tithe store, the part's lifetime record (R497 to R500): the record, its banks in xSPI flash, and the commands that
concern it alone.
-/
namespace Sys2Proof.Machine

/-- Offsets of the counters of the package, and of a die's section in order with their gaps (R497, R498). -/
def tithePackage : List Nat := (List.range 16).map (fun i => 0x040 + 6 * i)
def titheDieSlots (d : Nat) : List Nat :=
  (((List.range 29).map (fun i => 6 * i)) ++ ((List.range 60).map (fun i => 0x0B0 + 6 * i)) ++ ((List.range 10).map (fun i => 0x218 + 6 * i))).map (titheDie d)

/-- The section of a die (R498). -/
def State.titheSection (s : State) (d : Nat) : List Byte :=
  let c (o : Nat) : List Byte := leBytes 6 (lookupD s.tithe.counts o 0)
  let all := titheDieSlots d
  (all.take 29).flatMap c ++ leBytes 2 0 ++ (all.drop 29).flatMap c ++ leBytes 2 (ofSigned 16 (lookupD s.tithe.maxTemp d 0)) ++ leBytes 42 0

/-- The record from the working copy (R497). -/
def State.titheRecord (s : State) (reason seq : Nat) : List Byte :=
  let dies := s.part.dies
  let head := leBytes 4 0x48544954 ++ leBytes 2 1 ++ leBytes 1 dies ++ leBytes 1 reason ++ leBytes 4 seq ++ leBytes 4 (0x180 + 0x280 * dies) ++ leBytes 44 0
  let body := tithePackage.flatMap (fun o => leBytes 6 (lookupD s.tithe.counts o 0)) ++ leBytes 224 0 ++ s.dieList.flatMap s.titheSection
  head ++ leBytes 4 (crc32 (head ++ body)) ++ body

/-- A bank of the store, and whether it is valid (R497, R499). -/
def titheBase (b : Nat) : Nat := 0x12000 + 0x4000 * b
def State.titheBank (s : State) (b : Nat) : List Byte := s.flashBytes (titheBase b) (0x180 + 0x280 * s.part.dies)
def State.titheValid (s : State) (b : Nat) : Bool :=
  let r := s.titheBank b
  decide (leAt r 0 4 = 0x48544954) && decide (leAt r 4 2 = 1) && decide (leAt r 6 1 = s.part.dies) &&
  decide (leAt r 0x3C 4 = crc32 (slice r 0 0x3C ++ r.drop 0x40))

/-- The bank in use (R80, R499). -/
def State.titheUse (s : State) : Option Nat :=
  chooseBank (s.titheValid 0) (s.titheValid 1) (leAt (s.titheBank 0) 8 4) (leAt (s.titheBank 1) 8 4)

/-- Step 8 on DIE_0 (R499): the chosen record becomes the working copy, or it starts at zero with FRESH; then the reset just taken is added, and a power
cycle when its cause is power-on. -/
def State.titheLoad (s : State) (cause : Nat) : State :=
  let s1 : State := match s.titheUse with
    | some b =>
      let r := s.titheBank b
      let slots := tithePackage ++ s.dieList.flatMap titheDieSlots
      ({ s with tithe.counts := slots.map (fun o => (o, leAt r o 6)),
                tithe.maxTemp := s.dieList.map (fun d => (d, toSigned 16 (leAt r (titheDie d 0x254) 2))) } : State).setFlds 0 0
        [(.TITHE_STATUS_BANK, b), (.TITHE_SEQ_SEQ, leAt r 8 4), (.TITHE_STATUS_FRESH, 0)]
    | none => ({ s with tithe.counts := [], tithe.maxTemp := [] } : State).flag 0 .TITHE_STATUS_FRESH
  let s2 := if 1 ≤ cause ∧ cause ≤ 8 then s1.titheAdd (0x04C + 6 * (cause - 1)) 1 else s1
  if cause = 1 then s2.titheAdd 0x046 1 else s2

/-- Whether a write or an erase of the store is in progress. -/
def State.titheBusy (s : State) : Bool := s.tithe.writing.isSome || decide (s.fld 0 .TITHE_STATUS_ERASING = 1)

/-- A write of the record starts (R500): into the bank not in use, with SEQ one later; into bank 0 with SEQ 1 where none is in use, as R84 has it for
the option store. -/
def State.titheStart (s : State) (reason : Nat) (r : Option Req) : State :=
  if s.titheBusy then s
  else
    let fresh := decide (s.fld 0 .TITHE_STATUS_FRESH = 1) && decide (s.fld 0 .TITHE_SEQ_SEQ = 0)
    let seq := if fresh then 1 else (s.fld 0 .TITHE_SEQ_SEQ + 1) % 2 ^ 32
    ({ s with tithe.writing := some reason, tithe.seq := seq, tithe.image := s.titheRecord reason seq, tithe.flushReq := r } : State).flag 0 .TITHE_STATUS_WRITING

/-- The bank that a write goes to. -/
def State.titheInto (s : State) : Nat :=
  if s.fld 0 .TITHE_STATUS_FRESH = 1 ∧ s.fld 0 .TITHE_SEQ_SEQ = 0 then 0 else 1 - s.fld 0 .TITHE_STATUS_BANK

/-- OPERATION, immediate off, goes to every rail entry of every die (R495). The code of the command is the standard's. -/
def State.railsOff (s : State) : State :=
  s.dieList.foldl (fun (t : State) d => (List.range 8).foldl (fun (u : State) n =>
    if u.fld d .PWR_RAIL_EN n = 1 then u.send (.pmbus d n 0x01 0x00) else u) t) s

/-- TITHE_WRITE_END (R495, R500): the page with the header has been written. A failed read-back leaves the bank invalid, with what its first page then
holds free. -/
def execTitheWriteEnd (readBack : Bool) (s : State) : Out :=
  match s.tithe.writing with
  | none => .next s
  | some reason =>
    let b := s.titheInto
    let (v, s0) := s.fresh
    let image := if readBack then s.tithe.image else leBytes 256 v ++ s.tithe.image.drop 256
    let s1 : State := ({ s0.putFlash (titheBase b) image with tithe.writing := none, tithe.image := [], tithe.flushReq := none } : State).setFld 0 .TITHE_STATUS_WRITING 0 0
    let s2 := if readBack then s1.setFlds 0 0 [(.TITHE_STATUS_BANK, b), (.TITHE_SEQ_SEQ, s.tithe.seq), (.TITHE_STATUS_ERASING, 1)] else s1.flag 0 .TITHE_STATUS_WRITE_ERR
    let s3 := match s.tithe.flushReq with
      | some r => if readBack then s2.answer r 0x0841 .ok (leBytes 4 s.tithe.seq) else s2.answer r 0x0841 .timeout []
      | none => s2
    .next (if reason = 2 then s3.railsOff else s3)

/-- TITHE_ERASE_END (R500): the other bank is blank. -/
def execTitheEraseEnd (s : State) : Out :=
  .next (if s.fld 0 .TITHE_STATUS_ERASING = 1 then
    (s.eraseFlash (titheBase (1 - s.fld 0 .TITHE_STATUS_BANK)) 0x4000).setFld 0 .TITHE_STATUS_ERASING 0 0 else s)

/-- TITHE_HOURLY_WRITE: another 3,600 s of power-on time have passed. -/
def execTitheHourlyWrite (s : State) : Out := .next (if 8 ≤ s.stepOf 0 then s.titheStart 0 none else s)

/-- TITHE_READ (R502): up to 4,080 bytes of the working copy. Its header bytes are those of the record of the bank in use. -/
def execTitheRead (r : Req) (offset : Nat) (s : State) : Out :=
  .next (s.serve r 0x0840 (some 0) (fun s =>
    let b := s.titheRecord 0 (s.fld 0 .TITHE_SEQ_SEQ)
    if b.length ≤ offset then reply s .badMessage else reply s .ok ((b.drop offset).take 4080)))

/-- TITHE_FLUSH (R502). -/
def execTitheFlush (r : Req) (s : State) : Out :=
  .next (s.serve r 0x0841 (some 0) (fun s =>
    if ¬ s.manager r.dom then reply s .denied
    else if s.titheBusy then reply s .busy
    else later (s.titheStart 3 (some r))))

end Sys2Proof.Machine
end

