-- ==== Sys2Proof/Machine/Power.lean ====
section
/-!
DEFINITION. Machine/Power.lean: rails, power limits, throttling, temperature, power failure (R486 to R496, R506), the second's collection into the Tithe
store (R152, R497, R498), and the power messages and registers (R502, R503).
-/
namespace Sys2Proof.Machine

/-- Power control of a die after reset: fall delay 10 ms, no fall or rise within reach. -/
def PowerDie.empty : PowerDie := ⟨0, [], 0, 0, 0, 0, 0, 0, 0, 0, 100, 10000, 10000, [], 0, [], 0, 3⟩
def State.pw (s : State) (d : Nat) : PowerDie := lookupD s.power.dies d PowerDie.empty
def State.setPw (s : State) (d : Nat) (p : PowerDie) : State := { s with power.dies := insertKV s.power.dies d p }

/-- DETAIL of the events of R501: die, kind, throttle level, temperature. -/
def State.powerEvent (s : State) (e : Ev) (d kind : Nat) : State :=
  s.raise e d 0xFF00 [(20, 1, d), (21, 1, kind), (22, 1, s.fld d .PWR_STATUS_LEVEL), (24, 2, ofSigned 16 (toSigned 11 (s.fld d .THERM_STATUS_TEMP)))] [fwDom]

/-- A PMBus fault (R487). -/
def State.pmbusFault (s : State) (d : Nat) : State := (s.flag d .PWR_STATUS_PMBUS_ERR).powerEvent .pmbusFault d 0

/-- Whether the PMC of a die acts: started at step 8, and in no update blackout (R73, R131). -/
def State.pmcRuns (s : State) (d : Nat) : Bool := s.boot.powered && decide (8 ≤ s.stepOf d) && !s.blackout 1 d

/-! Voltages (R488) -/

/-- VDD_AP in mV that a divider of AP_CLK needs. -/
def apMillivolts (n : Nat) : Nat := if n < 4 then 900 else if n < 6 then 800 else if n < 8 then 720 else if n < 12 then 680 else 650

/-- VDD_CORE in mV that a divider of ARITH_CLK needs on a die, from its fused value. -/
def coreMillivolts (d n : Nat) : Nat := max 500 (if n < 48 then Config.avs d else if n < 96 then Config.avs d - 50 else Config.avs d - 75)

/-- The smallest divider that a domain of a die uses now, moves toward or waits for; 1 and 400 stand for limp. -/
def State.fastest (s : State) (d x : Nat) : Nat :=
  if s.fld d .CLK_DIV_SRC x = 1 then (if x = 0 then 400 else 1)
  else
    let now := min (s.fld d .CLK_DIV_CURRENT x) (s.goalOf d x)
    match lookup? (s.pw d).rises x with
    | some v => min now v
    | none => now

/-- Send VOUT_COMMAND to every regulator of a rail (R487). The code of the command is the standard's. -/
def State.vout (s : State) (rail mv : Nat) : State :=
  s.dieList.foldl (fun (t : State) d => (List.range 8).foldl (fun (u : State) n =>
    if u.fld d .PWR_RAIL_EN n = 1 ∧ u.fld d .PWR_RAIL_RAIL n = rail then u.send (.pmbus d n 0x21 mv) else u) t) s

/-- Set the rails to the highest value that any die needs (R488); in an update blackout of the PMC of DIE_0, which decides the voltages, they hold (R131, R487). -/
def State.voltages (s : State) : State :=
  if s.blackout 1 0 then s else
  let core := s.dieList.foldl (fun a d => max a (coreMillivolts d (s.fastest d 3))) 0
  let ap := s.dieList.foldl (fun a d => max a (apMillivolts (s.fastest d 0))) 0
  let s1 := if core ≠ s.power.core then ({ s with power.core := core } : State).vout 0 core else s
  if ap ≠ s1.power.ap then ({ s1 with power.ap := ap } : State).vout 1 ap else s1

/-- Move a clock of a die to a divider (R488): down at once; up when the rail stands high enough, else the raise waits for the voltage. -/
def State.clockTo (s : State) (d x v : Nat) : State :=
  let p := s.pw d
  if s.fld d .PWR_STATUS_TRIP = 1 then s
  else if s.goalOf d x ≤ v then (s.setPw d { p with rises := eraseK p.rises x }).retarget d x v
  else
    let enough := if x = 0 then decide (apMillivolts v ≤ s.power.ap) else decide (coreMillivolts d v ≤ s.power.core)
    if enough then (s.setPw d { p with rises := eraseK p.rises x }).retarget d x v
    else (s.setPw d { p with rises := insertKV p.rises x v }).voltages

/-- VOLTAGE_CONFIRMED (R488): READ_VOUT lies within 10 mV of the target and the ramp begins, or 500 µs have passed and the frequency stays. -/
def execVoltageConfirmed (d : Nat) (inTime : Bool) (s : State) : Out :=
  if ¬ s.hasDie d then .next s
  else
    let p := s.pw d
    if p.rises = [] ∨ s.blackout 1 d then .next s
    else
      let s1 := s.setPw d { p with rises := [] }
      .next (if inTime then p.rises.foldl (fun (t : State) e => t.retarget d e.1 e.2) s1 else s1.flag d .PWR_STATUS_PMBUS_ERR)

/-! Levels (R490, R491) -/

/-- The divider of AP_CLK at a level (R490). -/
def levelDiv (level : Nat) : Nat := if level = 0 then 3 else if level ≤ 2 then 4 else if level ≤ 4 then 6 else if level ≤ 6 then 8 else 12

/-- The floor in force: PWR_FLOOR at least (R493). -/
def State.floorOf (s : State) (d : Nat) : Nat := max (s.fld d .PWR_FLOOR_FLOOR) (s.pw d).floorAdd

/-- The divider of AP_CLK that a die asks for (R490): that of its level, but ÷3 where a checked AP pair is active. -/
def State.apWanted (s : State) (d : Nat) : Nat := if [0, 1].any (fun x => s.pairActive d x) then 3 else levelDiv (s.fld d .PWR_STATUS_LEVEL)

/-- AP_CLK moves when the level has changed, or a pair has formed or stopped (R490). -/
def State.apClock (s : State) (d : Nat) (changed : Bool) : State :=
  let ap := s.apWanted d
  if ap = (s.pw d).apDiv ∧ ¬ changed then s
  else
    let s1 := s.setPw d { s.pw d with apDiv := ap }
    if s1.goalOf d 0 = ap ∧ (lookup? (s1.pw d).rises 0).isNone ∧ (lookup? s1.clk.heldTarget (d, 0)).isNone then s1 else s1.clockTo d 0 ap

/-- The level becomes the highest of the demands and the floor (R490, R491). -/
def State.setLevel (s : State) (d : Nat) : State :=
  let p := s.pw d
  let old := s.fld d .PWR_STATUS_LEVEL
  let l := min 8 (max p.demand (max p.thermal (s.floorOf d)))
  if l = old then s.apClock d false
  else
    let s1 := (s.setFld d .PWR_STATUS_LEVEL 0 l).setPw d { p with above := 0 }
    (if old = 0 then s1.powerEvent .powerThrottle d 0 else if l = 0 then s1.powerEvent .powerThrottle d 1 else s1).apClock d true

/-- ARITH_CLK at a step of R492. -/
def State.arithStep (s : State) (d n : Nat) : State :=
  (s.setFld d .PWR_STATUS_ARITH_STEP 0 n).clockTo d 3 (24 * 2 ^ n)

/-- Class S work of a die cannot be kept (R492). -/
def State.classSLost (s : State) (d : Nat) : State :=
  let silos := s.classSOf [d]
  if silos = [] then s else s.source { src := 8, die := d } silos

/-- A run of 100 intervals at level 8 beyond a limit has passed, or a second one (R492). -/
def State.beyond (s : State) (d n : Nat) : State :=
  if n = 100 then ((s.classSLost d).arithStep d (max 1 (s.fld d .PWR_STATUS_ARITH_STEP)))
  else if n = 200 then s.arithStep d 2
  else s

/-- Judge one interval's power (R491, R492): the demands and counts after it. -/
def judgePower (p : PowerDie) (limit p100 level : Nat) : PowerDie :=
  let above := decide (10 * limit < p100)
  let low := decide (100 * p100 ≤ 950 * limit)
  let o := if above then p.above + 1 else 0
  let l := if low then p.low + 1 else 0
  let rise := decide (2 ≤ o) && decide (p.demand < 8)
  let ended := decide (p.fallDelay ≤ l)
  let fall := ended && decide (0 < p.demand)
  let dbl := rise && decide (p.sinceFall < 1000)
  let delay := if dbl then min 10000 (2 * p.fallDelay) else if !rise && decide (10000 ≤ p.sinceRise + 1) then 100 else p.fallDelay
  { p with above := o, low := if ended then 0 else l, demand := if rise then p.demand + 1 else if fall then p.demand - 1 else p.demand,
            fallDelay := delay, sinceFall := if fall then 0 else min 10000 (p.sinceFall + 1), sinceRise := if rise then 0 else min 10000 (p.sinceRise + 1),
            over8 := if above && decide (level = 8) then p.over8 + 1 else 0 }

/-- The die temperature in 0.25 °C: THROTTLE_C when fewer than six sensors are valid (R494). -/
def State.dieTemp (s : State) (d : Nat) : Int :=
  if popCount 12 (s.fld d .THERM_STATUS_VALID) < 6 then 4 * (s.fld d .THERM_CFG_THROTTLE_C : Int) else toSigned 11 (s.fld d .THERM_STATUS_TEMP)

/-- Judge one interval's temperature (R494). -/
def judgeHeat (p : PowerDie) (temp throttle : Int) (level : Nat) : PowerDie :=
  let hot := decide (4 * throttle ≤ temp)
  let c := if temp < 4 * (throttle - 5) then p.cool + 1 else 0
  let ended := decide (p.fallDelay ≤ c)
  { p with thermal := if hot then min 8 (p.thermal + 1) else if ended then p.thermal - 1 else p.thermal,
           cool := if ended then 0 else c, hot8 := if hot && decide (level = 8) then p.hot8 + 1 else 0 }

/-- Judge one interval for the return of ARITH_CLK (R492, R494): whether a fall delay at or below 95 % of the limit has ended, which under a thermal demand (DEDUCED,
notes/assumptions/109) must also have been cool. -/
def judgeCalm (p : PowerDie) (limit p100 : Nat) (temp throttle : Int) : PowerDie × Bool :=
  let n := if 100 * p100 ≤ 950 * limit ∧ (p.thermal = 0 ∨ temp < 4 * (throttle - 5)) then p.calm + 1 else 0
  ({ p with calm := if p.fallDelay ≤ n then 0 else n }, decide (p.fallDelay ≤ n))

/-- PMC_INTERVAL_END: a 100 µs interval ends with an estimate in 0.01 W, before the scale of R489 (R489 to R494). -/
def execPmcIntervalEnd (d p100 : Nat) (s : State) : Out :=
  if ¬ s.hasDie d then .next s
  else if ¬ s.pmcRuns d then .next s
  else
    let v := min 0xFFFF (p100 * s.power.scaleNum / max 1 s.power.scaleDen)
    let p0 := s.pw d
    let recent := (v :: p0.recent).take 10
    let level := s.fld d .PWR_STATUS_LEVEL
    let limit := s.fld d .PWR_LIMIT_DIE_LIMIT
    let hottest := s.fld d .THERM_CFG_THROTTLE_C
    let p1 := judgeHeat (judgePower { p0 with raw := p100, recent := recent } limit v level) (s.dieTemp d) hottest level
    let (p2, ended) := judgeCalm p1 limit v (s.dieTemp d) hottest
    let s1 := (s.setFlds d 0 [(.PWR_POWER_P100, v), (.PWR_POWER_P1MS, recent.foldl (fun a x => a + x) 0 / max 1 recent.length),
      (.PWR_STATUS_THERM, b2n (decide (0 < p2.thermal)))]).setPw d p2
    let s2 := s1.setLevel d
    let s3 := if p0.thermal = 0 ∧ 0 < p2.thermal then s2.powerEvent .thermal d 0
      else if 0 < p0.thermal ∧ p2.thermal = 0 then s2.powerEvent .thermal d 1 else s2
    let s4 := s3.beyond d p2.over8
    let s5 := if p2.hot8 = p2.over8 then s4 else s4.beyond d p2.hot8
    let step := s5.fld d .PWR_STATUS_ARITH_STEP
    let s6 := if ended ∧ 0 < step then s5.arithStep d (step - 1) else s5
    .next s6.voltages

/-- PACKAGE_POWER_CHECK, once per millisecond (R493). -/
def execPackagePowerCheck (s : State) : Out :=
  if ¬ s.pmcRuns 0 then .next s
  else
    let sum := s.dieList.foldl (fun a d => a + s.fld d .PWR_POWER_P100) 0
    let limit := s.fld 0 .PWR_PKG_LIMIT_PKG_LIMIT
    let floors (f : Nat → Nat) (t : State) : State := t.dieList.foldl (fun (u : State) d => u.setPw d { u.pw d with floorAdd := f (u.pw d).floorAdd }) t
    if 10 * limit < sum then .next (floors (fun x => min 8 (x + 1)) { s with power.pkgLow := 0 })
    else if 100 * sum ≤ 950 * limit then
      if s.power.pkgLow + 1 < 10 then .next { s with power.pkgLow := s.power.pkgLow + 1 }
      else .next (if s.fld 0 .PWR_STATUS_PFAIL = 1 then s else floors (fun x => x - 1) { s with power.pkgLow := 0 })
    else .next { s with power.pkgLow := 0 }

/-- POWER_ESTIMATE_SCALE, once per second (R489): the sum of READ_POUT over all rail entries, in 0.01 W. -/
def execPowerEstimateScale (readPout : Nat) (s : State) : Out :=
  let raw := s.dieList.foldl (fun a d => a + (s.pw d).raw) 0
  .next (if ¬ s.pmcRuns 0 ∨ raw = 0 then s else { s with power.scaleNum := readPout, power.scaleDen := raw })

/-! Temperature (R494, R495) -/

/-- A die trips (R495): source 8 acts, its clocks stop, a record is written and the regulators turn off. -/
def State.trip (s : State) (d : Nat) : State :=
  if s.fld d .PWR_STATUS_TRIP = 1 then s
  else
    let s1 := (((s.flag d .PWR_STATUS_TRIP).titheAdd 0x08E 1).source { src := 8, die := d } (s.classSOf [d])).powerEvent .thermal d 2
    let s2 := s1.setPw d { s1.pw d with rises := [] }
    if s2.titheBusy then
      (if s2.tithe.writing.isSome then { s2 with tithe.writing := some 2 } else (s2.flag 0 .TITHE_STATUS_SKIPPED).railsOff)
    else s2.titheStart 2 none

/-- THERMAL_SAMPLE: the twelve readings of a die in 0.25 °C. -/
def execThermalSample (d : Nat) (readings : List Int) (s : State) : Out :=
  if ¬ s.hasDie d then .next s
  else if ¬ s.boot.powered ∨ readings.length ≠ 12 then .next s
  else
    let ok (x : Int) : Bool := decide (-220 ≤ x) && decide (x ≤ 600)
    let ix := (List.range 12).zip readings
    let valid := ix.foldl (fun a e => if ok e.2 then a else clearBit a e.1) (s.fld d .THERM_STATUS_VALID)
    let live := ix.filter (fun e => bit valid e.1)
    let s1 := live.foldl (fun (t : State) e => t.setFld d .THERM_SENSOR_TEMP e.1 (ofSigned 11 (clampSigned 11 e.2))) (s.setFld d .THERM_STATUS_VALID 0 valid)
    let top := live.foldl (fun (a : Option (Nat × Int)) e => match a with
      | none => some e
      | some b => if b.2 < e.2 then some e else some b) none
    let s2 := match top with
      | some e => s1.setFlds d 0 [(.THERM_STATUS_SENSOR, e.1), (.THERM_STATUS_TEMP, ofSigned 11 (clampSigned 11 e.2))]
      | none => s1
    let hot := (live.filter (fun e => decide (520 ≤ e.2))).map (fun e => e.1)
    let s3 := s2.setPw d { s2.pw d with hot := hot }
    .next (if hot.any (fun i => decide (i ∈ (s.pw d).hot)) then s3.trip d else s3)

/-! Rails (R487, R506) -/

/-- Whether a reading of a rail lies within the tolerance of R505. -/
def State.railOk (s : State) (rail mv : Nat) : Bool :=
  let within (set tol1000 : Nat) : Bool := decide (1000 * mv ≤ set * (1000 + tol1000)) && decide (set * (1000 - tol1000) ≤ 1000 * mv)
  match rail with
  | 0 => decide (mv ≤ s.power.core + 25) && decide (s.power.core ≤ mv + 25)
  | 1 => within s.power.ap 30
  | 2 => within 700 30
  | 3 => within 1800 50
  | _ => within 3300 50

/-- RAIL_MONITOR, every 1 ms: one reading per rail entry of a die (R487, R506). -/
def execRailMonitor (d : Nat) (readings : List PmbusReading) (s : State) : Out :=
  if ¬ s.hasDie d then .next s
  else if ¬ s.pmcRuns d then .next s
  else
    .next (((List.range 8).zip readings).foldl (fun (t : State) e =>
      if t.fld d .PWR_RAIL_EN e.1 = 0 then t
      else match e.2 with
        | .noAnswer => t.pmbusFault d
        | .vout mv =>
          let rail := t.fld d .PWR_RAIL_RAIL e.1
          let t1 := if rail = 0 then t.setPw d { t.pw d with vout := mv } else t
          if t1.railOk rail mv then { t1 with power.outside := eraseK t1.power.outside (d, e.1) }
          else
            let n := lookupD t1.power.outside (d, e.1) 0 + 1
            if n < 2 then { t1 with power.outside := insertKV t1.power.outside (d, e.1) n }
            else ({ t1 with power.outside := eraseK t1.power.outside (d, e.1) } : State).pmbusFault d) s)

/-- PMBUS_ALERT: SMBALERT# is low, and STATUS_WORD reports a fault or none (R487). -/
def execPmbusAlert (d : Nat) (fault : Bool) (s : State) : Out :=
  if ¬ s.hasDie d then .next s
  else .next (if fault ∧ s.pmcRuns d then s.pmbusFault d else s)

/-! The second's collection (R152, R497, R498) -/

/-- Bins of the histograms (R498). -/
def tempBin (t : Int) : Nat := if t < -120 then 0 else if 520 ≤ t then 17 else ((t + 160) / 40).toNat
def coreBin (mv : Nat) : Nat := if mv < 525 then 0 else if 750 ≤ mv then 10 else (mv - 500) / 25

/-- ECC_COUNT_COLLECT: once per second the PMC of a die takes its ECC counters, the bins of the second's samples and the seconds counted into the Tithe
working copy. -/
def execEccCountCollect (d : Nat) (s : State) : Out :=
  if ¬ s.hasDie d then .next s
  else if ¬ s.pmcRuns d then .next s
  else
    let p := s.pw d
    let t := s.dieTemp d
    let s1 := s.collectEcc d
    let s2 := s1.titheAdd (titheDie d (6 * tempBin t)) 1
    let s3 := if p.vout = 0 then s2 else s2.titheAdd (titheDie d (0x06C + 6 * coreBin p.vout)) 1
    let s4 := if 0 < p.thermal then s3.titheAdd (titheDie d 0x248) 1 else s3
    let s5 := if 0 < p.demand then s4.titheAdd (titheDie d 0x24E) 1 else s4
    let s6 := if d = 0 then s5.titheAdd 0x040 1 else s5
    .next { s6 with tithe.maxTemp := insertKV s6.tithe.maxTemp d (max (lookupD s6.tithe.maxTemp d 0) t) }

/-! Power failure (R496) -/

/-- POWER_FAIL_ASSERT: the filtered falling edge of POWER_FAIL_N. -/
def execPowerFailAssert (s : State) : Out :=
  if ¬ s.boot.powered ∨ s.dieList.any (fun d => decide (s.fld d .PWR_STATUS_TRIP = 1)) ∨ s.fld 0 .PWR_STATUS_PFAIL = 1 then .next s
  else
    let s1 := (s.source { src := 8, die := 0 } (s.classSOf s.dieList)).titheAdd 0x088 1
    let s2 := s1.dieList.foldl (fun (t : State) d => ((t.flag d .PWR_STATUS_PFAIL).setPw d { t.pw d with floorAdd := 8 }).setLevel d) s1
    let s3 := s2.dieList.foldl (fun (t : State) d => t.collectEcc d) (s2.powerEvent .powerFail 0 1)
    let s4 := if s3.fld 0 .TITHE_STATUS_ERASING = 1 then s3.flag 0 .TITHE_STATUS_SKIPPED else s3.titheStart 1 none
    .next (s4.dieList.foldl (fun (t : State) d => t.flag d .DRAM_STATUS_SELF_REFRESH) s4)

/-- POWER_FAIL_RESTORE: the pin has stayed high for 10 ms with no brown-out. -/
def execPowerFailRestore (s : State) : Out :=
  .next (if s.fld 0 .PWR_STATUS_PFAIL = 0 then s
    else
      let s1 := s.dieList.foldl (fun (t : State) d => (((t.setFld d .PWR_STATUS_PFAIL 0 0).setFld d .DRAM_STATUS_SELF_REFRESH 0 0).setPw d
        { t.pw d with floorAdd := 0 }).setLevel d) s
      s1.powerEvent .powerFail 0 0)

/-! Messages and registers (R502, R503) -/

/-- Whether a limit of a die, and one of the package, is a permitted lowering (R489, R503). -/
def State.dieLimitOk (s : State) (d v : Nat) : Bool := decide (50 ≤ v) && decide (v ≤ s.fld d .PWR_LIMIT_DIE_LIMIT)
def State.pkgLimitOk (s : State) (v : Nat) : Bool :=
  decide (s.dieList.foldl (fun a d => a + s.fld d .PWR_LIMIT_DIE_LIMIT) 0 ≤ 2 * v) && decide (v ≤ s.fld 0 .PWR_PKG_LIMIT_PKG_LIMIT)
def State.throttleOk (s : State) (d v : Nat) : Bool := decide (90 ≤ v) && decide (v ≤ s.fld d .THERM_CFG_THROTTLE_C)

/-- Writes of PWR_LIMIT, PWR_PKG_LIMIT, PWR_FLOOR and THERM_CFG (R503). -/
def wrPwrLimit (m : Master) (d data : Nat) (s : State) : State :=
  s.guarded m d .PMC 0x010 (fun t => let v := data % 2 ^ 16
    if t.dieLimitOk d v then t.setFld d .PWR_LIMIT_DIE_LIMIT 0 v else t.flag d .PWR_STATUS_BADCFG)
def wrPwrPkgLimit (m : Master) (d data : Nat) (s : State) : State :=
  if d ≠ 0 then s
  else s.guarded m d .PMC 0x014 (fun t => let v := data % 2 ^ 16
    if t.pkgLimitOk v then t.setFld 0 .PWR_PKG_LIMIT_PKG_LIMIT 0 v else t.flag 0 .PWR_STATUS_BADCFG)
def wrPwrFloor (m : Master) (d data : Nat) (s : State) : State :=
  s.guarded m d .PMC 0x018 (fun t => let v := data % 2 ^ 4
    if v ≤ 8 then t.setFld d .PWR_FLOOR_FLOOR 0 v else t.flag d .PWR_STATUS_BADCFG)
def wrThermCfg (m : Master) (d data : Nat) (s : State) : State :=
  s.guarded m d .PMC 0x034 (fun t => let v := data % 2 ^ 8
    if t.throttleOk d v then t.setFld d .THERM_CFG_THROTTLE_C 0 v else t.flag d .PWR_STATUS_BADCFG)

/-- PWR_RAIL_n from its image. -/
def State.putRail (s : State) (d n v : Nat) : State :=
  s.setFlds d n [(.PWR_RAIL_EN, bits v 31 31), (.PWR_RAIL_RAIL, bits v 18 16), (.PWR_RAIL_PAGE, bits v 15 8), (.PWR_RAIL_ADDR, bits v 6 0)]

/-- A write of PWR_RAIL_n: a RAIL of 5 to 7 sets BADCFG and is ignored. -/
def wrPwrRail (m : Master) (d n data : Nat) (s : State) : State :=
  s.guarded m d .PMC (0x100 + 4 * n) (fun t =>
    if 5 ≤ bits data 18 16 then ((t.putRail d n data).setFld d .PWR_RAIL_RAIL n (t.fld d .PWR_RAIL_RAIL n)).flag d .PWR_STATUS_BADCFG else t.putRail d n data)

/-- PWR_STATUS as a word. -/
def State.pwrStatus (s : State) (d : Nat) : Nat :=
  b2n (s.blkBusy d .pmc) * 2 ^ 31 + s.fld d .PWR_STATUS_LEVEL * 2 ^ 8 + s.fld d .PWR_STATUS_ARITH_STEP * 2 ^ 6 + s.fld d .PWR_STATUS_TRIP * 2 ^ 5 +
    s.fld d .PWR_STATUS_PFAIL * 2 ^ 4 + s.fld d .PWR_STATUS_THERM * 2 ^ 3 + s.fld d .PWR_STATUS_PMBUS_ERR * 2 ^ 2 + s.fld d .PWR_STATUS_BADCFG * 2

/-- PWR_QUERY. -/
def execPwrQuery (r : Req) (d : Nat) (s : State) : Out :=
  .next (s.serve r 0x0800 (some d) (fun s =>
    if ¬ s.hasDie d then reply s .badMessage
    else reply s .ok (leBytes 4 (s.pwrStatus d) ++ leBytes 4 (s.fld d .PWR_LIMIT_DIE_LIMIT) ++ leBytes 4 (s.fld 0 .PWR_PKG_LIMIT_PKG_LIMIT) ++
      leBytes 4 (s.fld d .PWR_FLOOR_FLOOR) ++ leBytes 4 (s.fld d .PWR_POWER_P1MS * 2 ^ 16 + s.fld d .PWR_POWER_P100) ++
      leBytes 4 (s.fld d .THERM_STATUS_VALID * 2 ^ 16 + s.fld d .THERM_STATUS_SENSOR * 2 ^ 12 + s.fld d .THERM_STATUS_TEMP) ++ leBytes 8 0)))

/-- PWR_SET: every field is judged before any is set, the package limit against the die limit that the message brings. -/
def execPwrSet (r : Req) (c : PowerSet) (s : State) : Out :=
  .next (s.serve r 0x0801 (some c.die) (fun s =>
    if ¬ s.hasDie c.die then reply s .badMessage
    else if ¬ s.manager r.dom then reply s .denied
    else
      let t := s.setFld c.die .PWR_LIMIT_DIE_LIMIT 0 c.dieLimit
      if 8 < c.floor ∨ ¬ s.dieLimitOk c.die c.dieLimit ∨ ¬ t.pkgLimitOk c.pkgLimit ∨ ¬ s.throttleOk c.die c.throttleC then reply s .badMessage
      else reply (((t.setFld c.die .PWR_FLOOR_FLOOR 0 c.floor).setFld 0 .PWR_PKG_LIMIT_PKG_LIMIT 0 c.pkgLimit).setFld c.die .THERM_CFG_THROTTLE_C 0 c.throttleC) .ok))

/-- RAIL_SET: BUSY after step 8. -/
def execRailSet (r : Req) (d entry : Nat) (image : Word) (s : State) : Out :=
  .next (s.serve r 0x0802 (some d) (fun s =>
    if ¬ s.hasDie d ∨ 8 ≤ entry ∨ 5 ≤ bits image.toNat 18 16 then reply s .badMessage
    else if ¬ s.manager r.dom then reply s .denied
    else if 8 ≤ s.stepOf d then reply s .busy
    else reply (s.putRail d entry image.toNat) .ok))

end Sys2Proof.Machine
end

