-- ==== Sys2Proof/Machine/Boot.lean ====
section
/-!
DEFINITION. Machine/Boot.lean: reset sources, the start-up order, the option store, forced release (R64 to R89).
-/
namespace Sys2Proof.Machine

/-- RST_N_ASSERT: the filtered RST_N goes low (R71). -/
def execRstNAssert (s : State) : Out :=
  .next (if s.boot.powered then { s.requestReset 3 .package 0 with boot.rstNLow := true } else { s with boot.rstNLow := true })

/-- RST_N_RELEASE: the reset that RST_N held is released; one that a trim load still holds pending is released when it takes effect (R71, R72, R75). -/
def execRstNRelease (s : State) : Out :=
  let s1 : State := { s with boot.rstNLow := false }
  .next (if s.boot.rstNLow ∧ s.boot.powered ∧ s.stepOf 0 = 0 ∧ s.boot.loading = [] then s1.allLimp.released .package else s1)

/-- Write of RST_WDT_KICK (R87): the right key restarts the timeout, which is timed outside the state. -/
def wrWdtKick (d data : Nat) (s : State) : State :=
  if data % 2 ^ 16 = 0x6B1D then s else s.flag d .RSTCTL_STATUS_BADKEY

/-- RST_WDT_KICK_WRITE. -/
def execRstWdtKickWrite (m : Master) (d : Nat) (data : Word) (s : State) : Out :=
  .next (s.regWrite m d .RSTCTL 0x34 data (wrWdtKick d data.toNat))

/-- The target that scope, die and index name (R88, R89). -/
def targetOf (scope d i : Nat) : ResetTarget :=
  match scope with
  | 0 => .package
  | 1 => .die d
  | 2 => .cluster d i
  | _ => .ap d i

/-- Write of RST_SWREQ (R64, R89). -/
def wrSwreq (m : Master) (d data : Nat) (s : State) : State :=
  s.guarded m d .RSTCTL 0x10 (fun t =>
    let g := targetOf (bits data 5 4) (bits data 8 6) (bits data 11 9)
    if bits data 31 24 ≠ 0xA5 then t.flag d .RSTCTL_STATUS_BADKEY
    else if ¬ t.hasTarget g then t.flag d .RSTCTL_STATUS_BADCFG
    else t.requestReset 5 g d)

/-- RST_SWREQ_WRITE. -/
def execRstSwreqWrite (m : Master) (d : Nat) (data : Word) (s : State) : Out :=
  .next (s.regWrite m d .RSTCTL 0x10 data (wrSwreq m d data.toNat))

/-- Write of RST_WDT (R89): once enabled it stays enabled; a timeout outside 1 to 1,000 ms sets BADCFG, and it alone is ignored. -/
def wrWdt (m : Master) (d data : Nat) (s : State) : State :=
  s.guarded m d .RSTCTL 0x30 (fun t =>
    let v := data % 2 ^ 10
    let t1 := if bits data 31 31 = 1 then t.flag d .RST_WDT_EN else t
    if v = 0 ∨ 1000 < v then t1.flag d .RSTCTL_STATUS_BADCFG else t1.setFld d .RST_WDT_TIMEOUT 0 v)

/-- DEBUG_RESET_REQUEST: accepted only while debug is authenticated (R64, R480). -/
def execDebugResetRequest (q : DebugReset) (s : State) : Out :=
  let g := match q with
    | .ndmreset => ResetTarget.package
    | .hartreset d a => .ap d a
  if ¬ s.hasTarget g then .next s
  else .next (if s.fld 0 .SEC_STATUS_DBG_AUTH = 1 then s.requestReset 6 g (match g with | .ap d _ => d | _ => 0) else s)

/-- The target that a double fault resets, and its die (R64). -/
def lockTarget : LockUnit → ResetTarget × Nat
  | .ap d a => (.ap d a, d)
  | .ccc d c => (.cluster d c, d)
  | .sch d => (widen (.die d), d)
  | .pmc d => (widen (.die d), d)
  | .sec d => (widen (.die d), d)

/-- HOLDOFF_END (R70, R72). -/
def execHoldoffEnd (t : ResetTarget) (s : State) : Out :=
  .next ({ s with boot.holdoff := s.boot.holdoff.filter (fun x => decide (x ≠ t)) }).freeHeld

/-- The raw code of eight BOOTSEL conversions, whether they disagreed, whether the pin is open (R76). -/
def bootselRaw (cs : List Nat) : Nat × Bool × Bool :=
  if 6 ≤ (cs.filter (fun v => decide (v = 63))).length then (7, false, true)
  else
    match (List.range 16).find? (fun b => decide (6 ≤ (cs.filter (fun v => decide (v / 4 = b))).length)) with
    | some b => (b, false, false)
    | none => (7, true, false)

/-- The effective code of a code that is not 15 (R78). -/
def State.effCode (s : State) (c : Nat) : Nat :=
  if 8 ≤ c ∧ c ≤ 13 then 7 else if c = 14 ∧ s.sec.lc ≠ 0 then 7 else if 15 ≤ c then 7 else c

/-- The fuse map is applied to the pins of a die (R32). -/
def State.applyPins (s : State) (d : Nat) : State :=
  { s with pins.applied := if d ∈ s.pins.applied then s.pins.applied else s.pins.applied ++ [d]
           pins.fuses := (s.pins.fuses.filter (fun e => decide (e.1.1 ≠ d))) ++ s.sec.pinFuse.filter (fun e => decide (e.1.1 = d)) }

/-- BOOTSEL is sampled at step 2 of a package start-up (R76, R78). -/
def State.sampleBootsel (s : State) (cs : List Nat) : State :=
  let r := bootselRaw cs
  let s1 := s.setFld 0 .RST_STATUS_BOOTSEL_RAW 0 r.1
  let s2 := if r.2.1 then s1.flag 0 .RST_STATUS_BOOTSEL_BAD else s1
  let s3 := if r.2.2 then s2.flag 0 .RST_STATUS_BOOTSEL_OPEN else s2
  s3.setFld 0 .RST_STATUS_BOOTSEL_EFF 0 (if r.1 = 15 then 0 else s.effCode r.1)

/-- TRIM_LOAD_END: steps 1 to 3 of a package start-up, step 1 of a die start-up, which goes on with step 8 (R66, R73, R75, R76). -/
def execTrimLoadEnd (d : Nat) (parityFail : Bool) (cs : List Nat) (s : State) : Out :=
  if ¬ s.hasDie d then .next s
  else if d ∉ s.boot.loading then .next s
  else
    let s0 : State := { s with boot.loading := s.boot.loading.filter (fun x => decide (x ≠ d)) }
    let s1 := if parityFail then s0.flag 0 .RST_STATUS_TRIM_ERR else s0
    let s2 := if s1.boot.pkg ∧ d = 0 then s1.sampleBootsel cs else s1
    let s3 := if s2.boot.pkg ∧ d = 0 ∧ s2.sec.lc = 0 then s2.setDbgAuth 7 1 else s2
    .next (((s3.applyPins d).setStep d (if s3.boot.pkg then max 3 (s3.stepOf 0) else 7)).freeHeld)

/-- Whether every die that takes part has completed a start-up step. -/
def State.allAt (s : State) (n : Nat) : Bool := s.boot.powered && s.dieList.all (fun d => decide (s.stepOf d = n) || s.leftOut d)

/-- The dies that go through the start-up order together. -/
def State.starting (s : State) : List Nat := s.dieList.filter (fun d => !s.leftOut d)

/-- Set the step of every die that starts. -/
def State.setAll (s : State) (n : Nat) : State := s.starting.foldl (fun (t : State) d => t.setStep d n) s

/-- The BOOTSEL defaults of the effective code come into force (R43). -/
def State.bootPins (s : State) : State := { s with pins.bootCode := some (s.fld 0 .RST_STATUS_BOOTSEL_EFF) }

/-- TB_0 starts from zero at the end of step 5 (R371); without an option load the BOOTSEL defaults follow at once. -/
def State.endStep5 (s : State) : State :=
  let s0 := (s.setAll (if s.fld 0 .RST_STATUS_BOOTSEL_RAW = 15 then 5 else 6)).setLive 0 0
  let s1 := if s.fld 0 .RST_STATUS_BOOTSEL_RAW = 15 then s0 else s0.bootPins
  (List.range 32).foldl (fun t n => if t.fld 0 .TRG_CFG_SRC n = 0 then t.trgArm n else t) s1

/-- XO_JUDGEMENT_END: step 4; where XO has not passed, the part goes on in limp, each domain from IRC (R54, R73,
R74). DESIGN CHOICE (notes/assumptions/87): TREF_HOLD sets then, though TREF_PLL never locked. -/
def execXoJudgementEnd (counts : List Nat) (s : State) : Out :=
  if ¬ (s.allAt 3 ∧ s.boot.pkg) then .next s
  else if judged counts then .next { (s.clkAll .CLK_STATUS_XO_OK 1).setAll 4 with boot.xoPassed := true }
  else
    let s1 := ((s.clkAll .CLK_STATUS_LIMP 1).clkAll .CLK_STATUS_CAUSE 1).clkAll .CLK_STATUS_TREF_HOLD 1
    .next ({ s1.allLimp with boot.xoPassed := false }).endStep5

/-- PLL_JUDGEMENT_END: step 5; each die's PLLs have their own verdict (R50), the domains ramp from IRC onto ROOT_PLL, and the spread depth is applied (R53, R55,
R73). DESIGN CHOICE (notes/assumptions/88): a die whose TREF_PLL fails has TREF_HOLD; where the ROOT_PLL of a die fails, every domain stays on IRC with LIMP and
CAUSE 3. -/
def execPllJudgementEnd (root tref : List PllWindows) (s : State) : Out :=
  if ¬ (s.allAt 4 ∧ s.boot.pkg) then .next s
  else
    let s0 := s.allLimp.rootVerdicts root
    let s1 := s0.dieList.foldl (fun t d => t.setFld d (if pllPasses tref d then .CLK_STATUS_TREF_LOCK else .CLK_STATUS_TREF_HOLD) 0 1) s0
    let s2 := if s1.dieList.all (fun d => pllPasses root d || s1.leftOut d) then
        let t := { s1 with clk.depth := s1.fld 0 .CLK_CTRL_SSC_DEPTH }
        t.domains.foldl (State.switchTo 0 normalDiv) t
      else (s1.clkAll .CLK_STATUS_LIMP 1).clkAll .CLK_STATUS_CAUSE 3
    .next s2.endStep5

/-- Bytes of a bank of the option store (R79). -/
def State.optBank (s : State) (b : Nat) : List Byte := s.flashBytes (0x10000 + 0x1000 * b) 0x1000

/-- Whether a bank is valid (R79). -/
def bankValid (bs : List Byte) : Bool :=
  decide (leAt bs 0 4 = 0x54504F4C) && decide (leAt bs 4 2 = 1) && decide (leAt bs 0xFFC 4 = crc32 (slice bs 0 0xFFC))

/-- SEQ of a bank. -/
def bankSeq (bs : List Byte) : Nat := leAt bs 8 4

/-- The bank of the option store in use (R80). -/
def State.bankInUse (s : State) : Option Nat :=
  chooseBank (bankValid (s.optBank 0)) (bankValid (s.optBank 1)) (bankSeq (s.optBank 0)) (bankSeq (s.optBank 1))

/-- One pin entry of the option bytes (R43, R83). -/
def State.pinEntry (bs : List Byte) (s : State) (i : Nat) : State :=
  let e := slice bs (0x40 + 4 * i) 4
  let b0 := leAt e 0 1
  let d := b0 % 8
  let p := leAt e 1 2
  let b3 := leAt e 3 1
  if ¬ bit b0 7 ∨ ¬ s.hasDie d ∨ ¬ hasSignal d p ∨ s.pinCode d p = 3 ∨ isSafeOut d p ∨ isOdoPin d p ∨ isMirrorPin d p then s
  else
    let s1 := s.setFld d .PINCFG_SLEW p (bits b3 7 6)
    let s2 := if bits b3 5 4 = 3 then s1 else s1.setFld d .PINCFG_PULL p (bits b3 5 4)
    if funcRefused p (bits b3 3 0) then s2.flag d .PINMUX_STATUS_BADSEL else s2.setFld d .PINCFG_FUNC p (bits b3 3 0)

/-- Option bytes are applied after a whole bank has been read (R81, R82, R83). -/
def State.applyOptions (s : State) (bs : List Byte) : State :=
  let ssc := leAt bs 1 1
  let ref := leAt bs 2 1
  let s1 := (s.setFld 0 .CLK_CTRL_SSC_DEPTH 0 (if 4 < ssc then 2 else ssc)).setFld 0 .CLK_CTRL_REFB_FREQ 0 (if 3 < ref then 0 else ref)
  (List.range 48).foldl (State.pinEntry bs) { s1 with boot.options := some bs }

/-- OPTION_LOAD_END: step 6 of a start-up with raw code 15 (R78 to R83). -/
def execOptionLoadEnd (s : State) : Out :=
  if ¬ (s.allAt 5 ∧ s.boot.pkg) then .next s
  else if s.fld 0 .RST_STATUS_OPT_ABORTS = 3 then
    .next (((s.flag 0 .RST_STATUS_OPT_FALLBACK).setFlds 0 0 [(.RST_STATUS_OPT_ABORTS, 0), (.RST_STATUS_BOOTSEL_EFF, 0)]).setAll 6).bootPins
  else
    let s1 := s.setFld 0 .RST_STATUS_OPT_ABORTS 0 0
    match s1.bankInUse with
    | none => .next (((s1.flag 0 .RST_STATUS_OPT_INVALID).setFld 0 .RST_STATUS_BOOTSEL_EFF 0 0).setAll 6).bootPins
    | some b =>
      let bs := slice (s1.optBank b) 0x10 256
      let s2 := (s1.applyOptions bs).setFlds 0 0 [(.RST_STATUS_OPT_BANK, b), (.RST_STATUS_BOOTSEL_EFF, s1.effCode (leAt bs 0 1))]
      .next (s2.setAll 6).bootPins

/-- The bundle that step 7 uses: the slot, what its header says, SLOT_FAIL and LAST_FAIL so far (R473). -/
structure BootPick where
  slot : Nat
  info : Option BundleInfo
  slotFail : Nat
  lastFail : Nat
  bytes : List Byte
deriving DecidableEq, Repr

/-- Try the recovery bundle. -/
def State.tryRecovery (s : State) (slotFail lastFail : Nat) : BootPick :=
  match s.verify (s.readSlot 2) true with
  | .ok i => ⟨2, some i, slotFail, lastFail, []⟩
  | .error c => ⟨2, none, slotFail, c, []⟩

/-- Try bytes received under code 3 or 6. -/
def State.tryReceived (s : State) (bs : List Byte) : BootPick :=
  match s.verify (readBytes bs) false with
  | .ok i => ⟨3, some i, 0, 0, bs⟩
  | .error c => ⟨3, none, 0, c, []⟩

/-- Try the two flash slots, the later SEQ first, then recovery. -/
def State.trySlots (s : State) : BootPick :=
  let first := if laterSeq (leNat (s.readSlot 1 8 4)) (leNat (s.readSlot 0 8 4)) then 1 else 0
  match s.verify (s.readSlot first) false with
  | .ok i => ⟨first, some i, 0, 0, []⟩
  | .error _ =>
    match s.verify (s.readSlot (1 - first)) false with
    | .ok i => ⟨1 - first, some i, 2 ^ first, (match s.verify (s.readSlot first) false with | .error c => c | .ok _ => 0), []⟩
    | .error c => s.tryRecovery 3 c

/-- What the SEC ROM runs by effective code (R473). -/
def State.bootPick (s : State) (fromPartner : List Byte) : BootPick :=
  match s.fld 0 .RST_STATUS_BOOTSEL_EFF with
  | 3 => s.tryReceived s.boot.chunks
  | 6 => s.tryReceived fromPartner
  | 7 | 14 => s.tryRecovery 0 0
  | _ => s.trySlots

/-- The fuse values that MR_0 measures, SEED left out (R478). -/
def State.fuseValues (s : State) : List Nat :=
  [s.sec.lcFuse, s.sec.svn] ++ (s.sec.keys.map (fun k => [k.ed.toNat, k.mldsa.toNat, k.use, b2n k.revoked])).flatten ++
  (List.range 768).map (fun p => lookupD s.sec.pinFuse (0, p) (shippedCode p))

/-- The measurements of step 7 (R478). -/
def State.measureBoot (s : State) (i : BundleInfo) : State :=
  let opts := match s.boot.options with
    | some bs => bs
    | none => leBytes 256 0
  ((((s.extend 0 (Config.fuseDigest s.fuseValues)).measureBundle i [0, 1, 2, 3])).extend 6 (Config.sha384 opts)).measureDebug

/-- Step 7 sets the PCI Express controllers (R400, R416): under codes 3, 4 and 5 the one of DIE_0 is enabled in the role of the code, at the full width
and rate; every other is off. -/
def State.startPcie (s : State) : State :=
  let e := s.fld 0 .RST_STATUS_BOOTSEL_EFF
  let on := decide (e = 3) || decide (e = 4) || decide (e = 5)
  (if on then s.setFlds 0 0 [(.PCIE_CFG_EN, 1), (.PCIE_CFG_ROLE, b2n (decide (e = 5))), (.PCIE_CFG_WIDTH, 3), (.PCIE_CFG_RATE, 4)] else s)

/-- BOOT_VERIFY_END: step 7 (R473, R474). Under code 3 it waits for the last chunk. -/
def execBootVerifyEnd (fromPartner : List Byte) (s : State) : Out :=
  if ¬ (s.allAt 6 ∧ s.boot.pkg) ∨ s.fld 0 .SEC_STATUS_BOOT_FAIL = 1 then .next s
  else if s.fld 0 .RST_STATUS_BOOTSEL_EFF = 3 ∧ s.boot.chunkTotal ≠ some s.boot.chunks.length then .next s
  else
    let p := s.bootPick fromPartner
    let s1 := s.setFlds 0 0 [(.SEC_STATUS_SLOT_FAIL, p.slotFail), (.SEC_STATUS_LAST_FAIL, p.lastFail)]
    match p.info with
    | none => .next (s1.flag 0 .SEC_STATUS_BOOT_FAIL)
    | some i =>
      let s2 := { (s1.setFld 0 .SEC_STATUS_SLOT 0 p.slot).measureBoot i with
        fw.bundle := some i, fw.running := s1.fwUnits.map (fun u => (u, i)), boot.slotUsed := p.slot, boot.chunks := p.bytes, boot.pkg := false }
      .next ((s2.startCores i s2.fwUnits).startPcie.setAll 7)

/-- The AP boot image of a bundle is read again, its hash checked again, into LPDDR5X of DIE_0 from address 0 (R473). -/
def State.loadApImage (s : State) : State :=
  match s.fw.bundle with
  | none => s
  | some b =>
    (b.images.filter (fun e => decide (e.kind = 4))).foldl (fun t e =>
      let bytes := t.bootImage b 4
      if Config.sha384 bytes = e.digest then t.putBytes (dramBase 0) bytes else t.setFlds 0 0 [(.SEC_STATUS_LAST_FAIL, 5), (.SEC_STATUS_BOOT_FAIL, 1)]) s

/-- DRAM_TRAINING_END: step 8 of a die (R67, R73, R473); on DIE_0 the Tithe store is read and the rails are set (R488, R499). -/
def execDramTrainingEnd (d : Nat) (s : State) : Out :=
  if ¬ s.hasDie d then .next s
  else if s.stepOf d ≠ 7 ∨ ¬ s.boot.powered then .next s
  else
    let s1 := if d ∈ s.boot.dramSaved then s.flag 0 .RST_STATUS_DRAM_KEPT else s
    let s2 := (s1.setFlds d 0 [(.DRAM_STATUS_TRAINED, 1), (.DRAM_STATUS_SELF_REFRESH, 0)])
    let s3 := { s2 with boot.dramSaved := s2.boot.dramSaved.filter (fun x => decide (x ≠ d)) }
    let s4 := if d = 0 then ((s3.titheLoad (s3.fld 0 .RST_CAUSE_CAUSE)).voltages).loadApImage else s3
    .next (if s4.fld 0 .SEC_STATUS_BOOT_FAIL = 1 then s4 else s4.setStep d 8)

/-- Granary and Loft of a die are initialised to zero (R66). -/
def State.zeroDie (s : State) (d : Nat) : State :=
  let t := s.zeroBytes (granaryBase d) 0x22000000
  { t with memy.poison := t.memy.poison.filter (fun g => !(decide (granaryBase d ≤ g.1) && decide (g.1 < granaryBase d + 0x22000000))) }

/-- The slice of a cluster is initialised to zero (R66, R104). -/
def State.zeroSlice (s : State) (d c : Nat) : State :=
  let t := s.zeroBytes (sliceBase d c) 0x5000000
  { t with memy.poison := t.memy.poison.filter (fun g => !(decide (sliceBase d c ≤ g.1) && decide (g.1 < sliceBase d c + 0x5000000))) }

/-- The Mirsia links of a die come up at both ends (R73, R404). -/
def State.linksUp (s : State) (d : Nat) : State :=
  (List.range 3).foldl (fun (t : State) l =>
    let (b, m) := farEnd t.part.dies d l
    (t.setFlds d l [(.MIRSIA_STATUS_UP, 1), (.MIRSIA_STATUS_DOWN, 0)]).setFlds b m [(.MIRSIA_STATUS_UP, 1), (.MIRSIA_STATUS_DOWN, 0)]) s

/-- FABRIC_UP: step 9 (R68, R73). -/
def execFabricUp (t : ResetTarget) (s : State) : Out :=
  if ¬ s.hasTarget t then .next s
  else
    match t with
    | .package => .next (if s.allAt 8 then ((s.starting.foldl (fun (t : State) d => (t.zeroDie d).linksUp d) s).setAll 9) else s)
    | .die d => .next (if s.stepOf d = 8 then ((s.zeroDie d).linksUp d).setStep d 9 else s)
    | .cluster d c => .next (if (d, 4 + c) ∈ s.boot.down then
        let u := s.zeroSlice d c
        { u with boot.zeroed := if (d, c) ∈ u.boot.zeroed then u.boot.zeroed else u.boot.zeroed ++ [(d, c)] }
      else s)
    | .ap _ _ => .next s

/-- FW_PARAM at step 10 (R128). -/
def State.fwParams (s : State) : State :=
  let bs := match s.boot.options with
    | some b => b
    | none => leBytes 0x10 0 ++ leBytes 2 100 ++ leBytes 2 10 ++ leBytes 1 3 ++ leBytes 0x2B 0
  let ftti := leAt bs 0x10 2
  let q := leAt bs 0x12 2
  let pol := leAt bs 0x14 1
  let con := leAt bs 0x15 1
  { s with mail.fttiMs := if 20 ≤ ftti ∧ ftti ≤ 500 then ftti else 100, mail.quantum := if 1 ≤ q ∧ q ≤ 100 then q else 10,
           mail.policy := if pol < 4 then pol else 3, mail.console := if con ≤ 1 then con else 0 }

/-- The firmware log goes to UART_0 of DIE_0 (R128, R397): the divisor nearest to 115,200 bit/s in sixteenths, 8 data bits, no parity, one stop bit (PRESUMED,
notes/assumptions/99). The characters that firmware logs are its own. -/
def State.console (s : State) : State :=
  let n := (srcMHz (s.fld 0 .CLK_DIV_SRC 4) * 1000000 / max 1 (s.fld 0 .CLK_DIV_CURRENT 4) + 57600) / 115200
  s.setFlds 0 0 [(.UART_CFG_EN, 1), (.UART_CFG_RS485, 0), (.UART_CFG_PARITY, 0), (.UART_CFG_BITS8, 1), (.UART_CFG_STOP2, 0), (.UART_CFG_DIV, n / 16),
    (.UART_CFG_DIVF_HI, n % 16 / 4), (.UART_FRAC_DIVF_LO, n % 4)]

/-- Firmware of a die starts: the watchdog is enabled with 200 ms, silos take the default quantum and show their holders, and on DIE_0 the parameters come
into force and the window of pair discovery opens under code 0 (R73, R87, R128, R289, R431). -/
def State.startDie (s : State) (d : Nat) : State :=
  let s1 := (s.setFlds d 0 [(.RST_WDT_EN, 1), (.RST_WDT_TIMEOUT, 200), (.SCH_QCTX_BASE_ADDR, contextBase s.part d)]).setStep d 11
  let s2 := (List.range 16).foldl (fun (t : State) k =>
    let u := t.setFld d .SILO_TIME_QUANTUM k t.mail.quantum
    if u.holder 2 d k = noDom then u else u.setFlds d k [(.SILO_CFG_CLASS, u.claimClass 2 d k), (.SILO_STAT_HOLDER, (u.holder 2 d k).toNat)]) s1
  let s3 := if d = 0 ∧ s2.mail.console = 1 then s2.console else s2
  if d = 0 ∧ s3.fld 0 .RST_STATUS_BOOTSEL_EFF = 0 then { s3 with mirror.window := true } else s3

/-- FIRMWARE_START: steps 10 and 11 (R66, R73, R475), each after step 9 of its scope. In RETURNED every LPDDR5X byte is zeroed before step 11. -/
def execFirmwareStart (t : ResetTarget) (s : State) : Out :=
  if ¬ s.hasTarget t then .next s
  else
    match t with
    | .package =>
      .next (if s.allAt 9 then
          let s1 := if 2 ≤ s.sec.lc then s.zeroBytes 0 0x8000000000 else s
          let s2 := s1.fwParams
          (s2.starting.foldl State.startDie s2).setFld 0 .SAFE_CTRL_FTTI_MS 0 s2.mail.fttiMs
        else s)
    | .die d => .next (if s.stepOf d = 9 then s.startDie d else s)
    | .cluster d c => .next (if (d, c) ∈ s.boot.zeroed then
        { s with boot.down := s.boot.down.filter (fun x => decide (x ≠ (d, 4 + c))), boot.zeroed := s.boot.zeroed.filter (fun x => decide (x ≠ (d, c))) }
      else s)
    | .ap d a => .next { s with boot.down := s.boot.down.filter (fun x => decide (x ≠ (d, a))) }

/-- Whether a die has a release group (R89). -/
def hasGroup (d g : Nat) : Bool := decide (g < 20) && (decide (g ≠ 17) || decide (d = 0)) && (decide (g ≠ 16) || decide (d < 2))

/-- One group is forced out of reset (R86). -/
def State.forceGroup (d : Nat) (s : State) (g : Nat) : State :=
  if s.groupUp d g then s
  else
    let s1 := { s with boot.forced := s.boot.forced ++ [(d, g)] }
    if s.groupStable d g then s1
    else (s1.setFld d .RSTCTL_ISO_GROUPS 0 (setBit (s1.fld d .RSTCTL_ISO_GROUPS) g)).flag d .RSTCTL_STATUS_EARLY_RELEASE

/-- Write of RSTCTL_FORCE. A bit clears as its group leaves reset, so the register reads zero. -/
def wrForce (m : Master) (d data : Nat) (s : State) : State :=
  s.guarded m d .RSTCTL 0x20 (fun t => ((List.range 20).filter (fun g => bit data g && hasGroup d g)).foldl (State.forceGroup d) t)

/-- RSTCTL_FORCE_WRITE. -/
def execRstctlForceWrite (m : Master) (d : Nat) (data : Word) (s : State) : Out :=
  .next (s.regWrite m d .RSTCTL 0x20 data (wrForce m d data.toNat))

/-- The release group of a field, if its block has one; a CCC field's cluster is its index over the cores of a cluster. -/
def fldGroup (f : Fld) (i : Nat) : Option Nat :=
  match f.blk with
  | .CCC => some (4 + (match f with
    | .GLN_CTRL_EN | .GLN_CTRL_TESTING => i
    | _ => i / 8))
  | b => blkGroup b 0

/-- FORCED_GROUP_CLOCK_STABLE: the group receives a second reset pulse, and its isolation lifts (R86). -/
def execForcedGroupClockStable (d g : Nat) (s : State) : Out :=
  if ¬ s.hasDie d ∨ ¬ hasGroup d g then .next s
  else if bit (s.fld d .RSTCTL_ISO_GROUPS) g ∧ s.groupStable d g then
    let inGroup (k : FK) : Bool := decide (k.die = d) && decide (fldGroup k.fld k.i = some g)
    let s1 := (s.restore inGroup).dropPairs inGroup
    .next (s1.setFld d .RSTCTL_ISO_GROUPS 0 (clearBit (s1.fld d .RSTCTL_ISO_GROUPS) g))
  else .next s

/-- Whether an AP runs in a checked pair with its neighbour (R426): pairs are AP_0 with AP_1 and AP_2 with AP_3. -/
def State.apPaired (s : State) (d a : Nat) : Bool := bit (s.fld d .APPAIR_STATUS_ACTIVE) (a / 2)

/-- The domain of an AP mailbox (R39). -/
def apDom (d a : Nat) : Dom := BitVec.ofNat 16 (0x1000 + 4 * d + a)

/-- Whether a reset's target includes a core or AP of a Class S silo grant (R69). -/
def State.reachesClassS (s : State) (t : ResetTarget) : Bool :=
  let core (d : Nat) (c : Option Nat) : Bool := (s.classSSilos d).any (fun k => match c with
    | none => decide (s.fld d .SILO_MASK_MASK k ≠ 0)
    | some c => decide (bits (s.fld d .SILO_MASK_MASK k) (8 * c + 7) (8 * c) ≠ 0))
  let ap (d a : Nat) : Bool := s.holdsClassS (apDom d a) || (s.apPaired d a && s.holdsClassS (apDom d (if a % 2 = 0 then a + 1 else a - 1)))
  let die (d : Nat) : Bool := core d none || (List.range 4).any (ap d)
  match t with
  | .package => s.dieList.any die
  | .die 0 => s.dieList.any die
  | .die d => die d
  | .cluster d c => core d (some c)
  | .ap d a => ap d a

/-- RESET_REQUEST, its refusals in the order of R88. -/
def execResetRequest (r : Req) (scope d i : Nat) (s : State) : Out :=
  .next (s.serve r 0x0830 (some (if scope = 0 then 0 else d)) (fun s =>
    let t := targetOf scope d i
    if 3 < scope then reply s .badMessage
    else if ¬ (if scope < 2 then pf0OrFw r.dom || decide (r.dom = 0x2000) else s.granted r.dom) then reply s .denied
    else if ¬ s.hasTarget t then reply s .badMessage
    else if s.reachesClassS t ∧ r.dom ≠ fwDom then reply s .safetyLocked
    else reply (s.requestReset 5 t 0) .ok))

/-- The image of RST_CAUSE. -/
def State.causeImage (s : State) (d : Nat) : Nat :=
  s.fld d .RST_CAUSE_MERGED * 2 ^ 12 + s.fld d .RST_CAUSE_TARGET * 2 ^ 9 + s.fld d .RST_CAUSE_SRC_DIE * 2 ^ 6 + s.fld d .RST_CAUSE_SCOPE * 2 ^ 4 +
  s.fld d .RST_CAUSE_CAUSE

/-- The image of RST_STATUS. -/
def State.rstImage (s : State) : Nat :=
  s.fld 0 .RST_STATUS_TRIM_ERR * 2 ^ 18 + s.fld 0 .RST_STATUS_OPT_ABORTS * 2 ^ 16 + s.fld 0 .RST_STATUS_DRAM_KEPT * 2 ^ 15 +
  s.fld 0 .RST_STATUS_OPT_BANK * 2 ^ 14 + s.fld 0 .RST_STATUS_OPT_INVALID * 2 ^ 13 + s.fld 0 .RST_STATUS_OPT_FALLBACK * 2 ^ 12 +
  s.fld 0 .RST_STATUS_BOOTSEL_OPEN * 2 ^ 11 + s.fld 0 .RST_STATUS_BOOTSEL_BAD * 2 ^ 10 + s.fld 0 .RST_STATUS_BOOTSEL_EFF * 2 ^ 4 +
  s.fld 0 .RST_STATUS_BOOTSEL_RAW

/-- Whether a hold-off of a die runs, and whether a held reset of it is pending (R72, R89). -/
def State.holdoffRuns (s : State) (d : Nat) : Bool := s.boot.holdoff.any (fun t => decide (d ∈ reachedDies s.part.dies t))
def State.resetPends (s : State) (d : Nat) : Bool := s.boot.held.any (fun q => decide (d ∈ reachedDies s.part.dies q.target))

/-- The image of RSTCTL_STATUS. -/
def State.rstctlImage (s : State) (d : Nat) : Nat :=
  b2n (s.blkBusy d .rstctl) * 2 ^ 31 + b2n (s.holdoffRuns d) * 2 ^ 30 + b2n (s.resetPends d) * 2 ^ 29 + s.fld d .RSTCTL_STATUS_BADKEY * 4 +
  s.fld d .RSTCTL_STATUS_BADCFG * 2 + s.fld d .RSTCTL_STATUS_EARLY_RELEASE

/-- RESET_QUERY. -/
def execResetQuery (r : Req) (d : Nat) (s : State) : Out :=
  .next (s.serve r 0x0831 (some d) (fun s =>
    if ¬ s.hasDie d then reply s .badMessage
    else reply s .ok (leBytes 4 (s.causeImage d) ++ leBytes 4 s.rstImage ++ leBytes 4 (s.rstctlImage d))))

/-- OPT_READ. -/
def execOptRead (r : Req) (s : State) : Out :=
  .next (s.serve r 0x0832 none (fun s =>
    match s.bankInUse with
    | none => reply s .noResource
    | some b => reply s .ok (leBytes 1 b ++ leBytes 3 0 ++ slice (s.optBank b) 8 4 ++ slice (s.optBank b) 0x10 256)))

/-- The bytes of a bank (R79). -/
def bankBytes (seq : Nat) (opts : List Byte) : List Byte :=
  let body := leBytes 4 0x54504F4C ++ leBytes 2 1 ++ leBytes 2 0 ++ leBytes 4 seq ++ leBytes 4 0 ++ slice (opts ++ leBytes 256 0) 0 256 ++
    List.replicate 0xEEC 0xFF#8
  body ++ leBytes 4 (crc32 body)

/-- OPT_WRITE (R84, R88): the bank not in use is written but for its CRC, which comes last, when the write completes (`State.optDone`). A reset of package scope or a
loss of power before that leaves the bank invalid and discards the response. -/
def execOptWrite (r : Req) (expected : Nat) (options : List Byte) (s : State) : Out :=
  .next (s.serve r 0x0833 none (fun s =>
    if ¬ s.granted r.dom then reply s .denied
    else if s.boot.optWrite.isSome then reply s .busy
    else
      let use := s.bankInUse
      let seq := match use with
        | some b => bankSeq (s.optBank b)
        | none => 0
      let into := match use with
        | some 0 => 1
        | _ => 0
      if expected ≠ seq then reply s .conflict
      else
        let new := (seq + 1) % 2 ^ 32
        let bs := bankBytes new options
        later { s.putFlash (0x10000 + 0x1000 * into) (slice bs 0 0xFFC ++ List.replicate 4 0xFF#8) with boot.optWrite := some ⟨r, into, bs, new⟩ }))

/-- A write of the option store completes: the CRC is written and the request answered (R84, R88). -/
def State.optDone (s : State) : State :=
  match s.boot.optWrite with
  | none => s
  | some w =>
    ({ s with boot.optWrite := none }.putFlash (0x10FFC + 0x1000 * w.bank) (slice w.bytes 0xFFC 4)).answer w.req 0x0833 .ok (leBytes 4 w.seq)

/-- What passes while no command waits: one TREF_PLL cycle (R369, R383), and the ends of a write of the option store and of the programming of fuses (DESIGN CHOICE,
notes/assumptions/8: the spec bounds them by 400 ms and 2 ms, and the table has no rows for them). -/
def State.idle (s : State) : State := s.tick.optDone.fusesDone

end Sys2Proof.Machine
end

