-- ==== Sys2Proof/Machine/Camera.lean ====
section
/-!
DEFINITION. Machine/Camera.lean: the camera receivers and the ingest pipeline (R345 to R359, R364 to R367): CSI-2 and GVSP packets, frames, frozen and
golden frames, the CSI registers and the CAM messages. The packet formats themselves (short-packet data types, pixel packing, PFNC codes) are those of
MIPI CSI-2 and GigE Vision, which the spec names without repeating them.
-/
namespace Sys2Proof.Machine

/-- A stream that nothing has used. -/
def CamStream.empty : CamStream := ⟨none, [], none, false, 0, none, none, none, (64, 0, 0)⟩

/-- A stream beside its registers. -/
def State.stream (s : State) (d n : Nat) : CamStream := lookupD s.streams (d, n) CamStream.empty
def State.setStream (s : State) (d n : Nat) (c : CamStream) : State := { s with streams := insertKV s.streams (d, n) c }

/-- Raise a camera event to the stream's holder (R365). -/
def State.camEvent (s : State) (e : Ev) (d n count : Nat) : State :=
  let h := s.holder 4 d n
  s.raise e d h.toNat [(20, 1, n), (24, 8, count)] [h]

/-- The Class S silos of a die that bind a stream (R451). -/
def State.binding (s : State) (d n : Nat) : List (Nat × Nat) :=
  ((s.classSSilos d).filter (fun k => (decide (s.fld d .SAFE_SILO_STR_EN0 k = 1) && decide (s.fld d .SAFE_SILO_STR_STREAM0 k = n)) ||
    (decide (s.fld d .SAFE_SILO_STR_EN1 k = 1) && decide (s.fld d .SAFE_SILO_STR_STREAM1 k = n)))).map (fun k => (d, k))

/-- Source formats: CSI-2 data types (R346); 0x100 more for the GVSP formats whose bytes lie otherwise (R348). Bits of a channel, channels. -/
def srcBits (format : Nat) : Nat :=
  match format % 0x100 with
  | 0x2B => 10 | 0x2C => 12 | 0x2D => 14 | 0x2E => 16 | _ => 8
def srcChannels (format : Nat) : Nat := if format % 0x100 = 0x1E ∨ format % 0x100 = 0x24 then 3 else 1

/-- Data types that a receiver accepts (R346). -/
def dtAccepted (dt : Nat) : Bool := decide (dt = 0x1E) || decide (dt = 0x24) || (decide (0x2A ≤ dt) && decide (dt ≤ 0x2E))

/-- The source format of a PFNC pixel format (R348). -/
def pfnc : Nat → Option Nat
  | 0x01080001 => some 0x2A | 0x01100003 => some 0x12B | 0x01100005 => some 0x12C | 0x01100007 => some 0x12E
  | 0x02180014 => some 0x124 | 0x02100032 => some 0x11E | _ => none

/-- Bytes of a GVSP line of some pixels. -/
def gvspLine (format w : Nat) : Nat :=
  w * (match format with
    | 0x2A => 1 | 0x124 => 3 | _ => 2)

/-- Whole groups of `k` bytes. -/
def groupsOf (k : Nat) (bs : List Byte) : List (List Nat) := (List.range (bs.length / k)).map (fun i => (slice bs (k * i) k).map BitVec.toNat)

/-- `g` pixels that a RAW group holds: `g` high bytes, then the low bits of each, from the first pixel on. -/
def rawGroup (g b : Nat) (bs : List Nat) : List (List Nat) :=
  let low := leNat ((bs.drop g).map (BitVec.ofNat 8))
  (List.range g).map (fun j => [bs.getD j 0 * 2 ^ (b - 8) + low / 2 ^ ((b - 8) * j) % 2 ^ (b - 8)])

/-- The pixels of a line, channels in the order written (R349): R, G, B; Y, U, V. -/
def linePixels (format : Nat) (bs : List Byte) : List (List Nat) :=
  match format with
  | 0x24 => (groupsOf 3 bs).map List.reverse
  | 0x124 => groupsOf 3 bs
  | 0x1E => (groupsOf 4 bs).flatMap (fun g => [[g.getD 1 0, g.getD 0 0, g.getD 2 0], [g.getD 3 0, g.getD 0 0, g.getD 2 0]])
  | 0x11E => (groupsOf 4 bs).flatMap (fun g => [[g.getD 0 0, g.getD 1 0, g.getD 3 0], [g.getD 2 0, g.getD 1 0, g.getD 3 0]])
  | 0x2A => groupsOf 1 bs
  | 0x2B => (groupsOf 5 bs).flatMap (rawGroup 4 10)
  | 0x2C => (groupsOf 3 bs).flatMap (rawGroup 2 12)
  | 0x2D => (groupsOf 7 bs).flatMap (rawGroup 4 14)
  | f => (groupsOf 2 bs).map (fun g => [(g.getD 0 0 + 256 * g.getD 1 0) % 2 ^ srcBits f])

/-- One channel in the output format (R349): the quotient is rounded once, to nearest, ties to even. -/
def convertPixel (b outFmt v : Nat) : List Byte :=
  if outFmt = 1 then leBytes 1 (if b = 8 then v else min 255 (divRne (v : Int) ((2 ^ (b - 8) : Nat) : Int)).toNat)
  else
    let q := v * 2 ^ 64 / (2 ^ b - 1)
    let x : Val := .fin false (2 * q + b2n (decide (v * 2 ^ 64 % (2 ^ b - 1) ≠ 0))) (-65)
    leBytes 2 ((if outFmt = 11 then bf16 else fp16).out false x).1

/-- Bytes of a pixel of a frame as written, and its row stride (R350). -/
def CamFrame.pix (f : CamFrame) : Nat := srcChannels f.format * (if f.outFmt = 1 then 1 else 2)
def CamFrame.rowStride (f : CamFrame) : Nat := ceilDiv (f.width * f.pix) 64 * 64

/-- Row `y` of a frame from the bytes of its line (R349, R350): columns X0 to X0 + WIDTH − 1; what is missing is zero. -/
def CamFrame.rowOf (f : CamFrame) (y : Nat) (bs : List Byte) : Nat × List Byte :=
  let px := (linePixels f.format bs).drop f.x0
  let out := (px.take f.width).flatMap (fun p => p.flatMap (convertPixel (srcBits f.format) f.outFmt))
  (f.rowStride * y, out ++ List.replicate (f.width * f.pix - out.length) 0#8)

/-- The pipeline that writes a stream, as a master (R97). -/
def streamMaster (d n : Nat) (gvsp : Bool) : Master := ioMaster d (if gvsp then 24 else 16 + n / 16)

/-- Whether a stream takes GVSP packets. -/
def State.isGvsp (s : State) (d n : Nat) : Bool := decide (s.fld d .STR_CFG_SRC n = 1)

/-- The pipeline of a stream as a master, for the domain that holds the stream. -/
def State.streamAgent (s : State) (d n : Nat) : Agent := { agentOf (streamMaster d n (s.isGvsp d n)) with doms := [s.holder 4 d n] }

/-- The pipeline of a stream stores; an access that is refused is a bus error (R92, R95, R145). -/
def State.camStore (s : State) (d n a : Nat) (bs : List Byte) : State :=
  let m := streamMaster d n (s.isGvsp d n)
  match s.memRefusal m a bs.length with
  | some (t, at') => s.fabLog at' false t a m true
  | none => s.store (s.streamAgent d n) a bs

/-- Write rows of a frame, where they lie within its buffer. -/
def State.putRows (s : State) (d n : Nat) (f : CamFrame) (rs : List (Nat × List Byte)) : State :=
  rs.foldl (fun (t : State) (r : Nat × List Byte) => if r.1 + r.2.length ≤ f.room then t.camStore d n (f.base + r.1) r.2 else t) s

/-- Streams that share the storage of a stream: of its receiver, or the GVSP streams of the die (R357). -/
def State.sharing (s : State) (d n : Nat) : List Nat :=
  if s.isGvsp d n then (List.range 128).filter (s.isGvsp d) else (rangeFrom (16 * (n / 16)) 16).filter (fun x => !s.isGvsp d x)

/-- The count that the next frame of a stream takes. -/
def State.nextCount (s : State) (d n : Nat) : Nat :=
  let c := s.stream d n
  s.fld d .STR_FRAMES_COUNT n + c.ended.length + b2n c.golden.isSome + 1

/-- Whether the slot of frame `k` is free (R351), and the buffer it lies in. A release count that cannot be read frees no slot (DEDUCED, notes/assumptions/105). -/
def State.slotFree (s : State) (d n k : Nat) : Option BufEnt :=
  let rel := s.fld d .STR_REL_ADDR n
  let nbuf := s.fld d .STR_BUF_NBUF n
  if nbuf = 0 ∨ s.fld d .STR_GEOM_WIDTH n = 0 ∨ s.fld d .STR_GEOM_HEIGHT n = 0 then none
  else
    match s.bufOf (s.fld d .STR_HANDLE_HANDLE n) with
    | some e =>
      if e.spilled ∨ e.moving then none
      else if rel = 0 then some e
      else if (s.memRefusal (streamMaster d n (s.isGvsp d n)) rel 4).isSome ∨ (s.poisoned rel 4).isSome then none
      else if ((k : Int) - s.loadNat rel 4) % ((2 ^ 32 : Nat) : Int) ≤ nbuf then some e else none
    | none => none

/-- SLIP, STILL and HOLDOVER of a record at this moment (R354, R355). -/
def State.stampMarks (s : State) (d n : Nat) : Nat :=
  let o := s.fld d .STR_CFG_ODO n
  let tb := s.fld d .STR_CFG_TB n
  8 * b2n (bit (s.fld 0 .ODO_STATUS_SLIP) o) + 16 * b2n (bit (s.fld 0 .ODO_STATUS_STILL) o) +
    32 * (s.fld 0 .TB_CFG_HOLDOVER tb * s.fld 0 .TB_CFG_DEGRADED tb)

/-- A frame that starts now, under the settings latched now (R350, R355, R364). -/
def State.frameNow (s : State) (d n k number format sizeX : Nat) (skip : Nat) : CamFrame :=
  let tb := s.fld d .STR_CFG_TB n
  let odo := s.fld d .STR_CFG_ODO n
  let trg := s.fld d .STR_CFG_TRIG n
  let trig := decide (s.fld d .STR_CFG_TRIG_EN n = 1)
  let slot := (k - 1) % max 1 (s.fld d .STR_BUF_NBUF n)
  let off := s.fld d .STR_OUT_OFF_OFF n + s.fld d .STR_FSTRIDE_STRIDE n * slot
  let e := s.bufOf (s.fld d .STR_HANDLE_HANDLE n)
  { count := k, number := number, lineScan := decide (s.fld d .STR_CFG_LINESCAN n = 1) && !s.isGvsp d n, format := format, sizeX := sizeX,
    channel := s.fld d (if s.isGvsp d n then .STR_GOLD_UDP_PORT else .STR_CFG_VC) n, outFmt := s.fld d .STR_CFG_OUT_FMT n, tb := tb, odo := odo, width := s.fld d .STR_GEOM_WIDTH n, height := s.fld d .STR_GEOM_HEIGHT n,
    x0 := s.fld d .STR_BUF_X0 n, slot := slot,
    base := (match e with
      | some b => b.base + off
      | none => 0),
    room := (match e with
      | some b => b.length - off
      | none => 0),
    record := s.fld d .STR_REC_ADDR n + 64 * slot,
    tsTrig := if trig then (lookupD s.time.fireAt trg []).getD tb 0 else 0, tsFs := s.tbNs tb,
    distTrig := if trig then (lookupD s.time.fireDist trg []).getD odo 0 else 0, distFs := s.fld 0 .ODO_DIST_DIST odo,
    marks := s.stampMarks d n, skip := skip,
    blank := (match (s.stream d n).endAt with
      | some t => s.now - t
      | none => 0),
    lines := 0, crc := 0xFFFFFFFF, damaged := false, row := [], parts := [] }

/-- An injection counts for nothing (R357): the storage is given back, and the occasion is deferred. How many of its rows had been written is free. -/
def State.dropInjection (s : State) (d n : Nat) : State :=
  let c := s.stream d n
  match c.golden with
  | none => s
  | some g =>
    let f := s.fresh
    let k := f.1 % (g.frame.height + 1)
    let s1 := f.2.putRows d n g.frame [(0, f.2.bytes g.src (k * g.frame.rowStride))]
    (s1.setStream d n { c with golden := none }).setFlds d n [(.STR_STATE_INJECTING, 0), (.STR_STATE_DEFER, min 4 (s1.fld d .STR_STATE_DEFER n + 1))]

/-- An FS or leader aborts the unforced injections of the streams that share a storage (R357). -/
def State.abortInjections (s : State) (d n : Nat) : State :=
  (s.sharing d n).foldl (fun (t : State) x => match (t.stream d x).golden with
    | some g => if g.forced then t else t.dropInjection d x
    | none => t) s

/-- A real frame gives way to a golden one (R358, R451): it is discarded as it arrives, and counts as missing. -/
def State.displaceFrame (s : State) (d n golden : Nat) : State :=
  let s1 := (s.addSat d .STR_DISPLACED_COUNT n 1).camEvent .frameDisplaced d n golden
  (s1.binding d n).foldl (fun t k => t.addSat d .SAFE_SILO_STAT_MISSING k.2 1) s1

/-- A frame of a stream starts (R350, R351, R358). -/
def State.openFrame (s : State) (d n number format sizeX : Nat) : State :=
  let c := s.stream d n
  let k := s.nextCount d n
  match c.displace with
  | some g => (s.setStream d n { c with opened := some (s.frameNow d n k number format sizeX 2), displace := none }).displaceFrame d n g
  | none =>
    if (s.slotFree d n k).isSome then s.setStream d n { c with opened := some (s.frameNow d n k number format sizeX 0) }
    else ((s.setStream d n { c with opened := some (s.frameNow d n k number format sizeX 1) }).addSat d .STR_DROP_COUNT n 1).camEvent .frameDropped d n k

/-- The open frame of a stream ends (R352); a frame that no line was written of leaves nothing. -/
def State.endFrame (s : State) (d n : Nat) (cut : Bool) : State :=
  let c := s.stream d n
  match c.opened with
  | none => s
  | some f =>
    s.setStream d n { c with opened := none, endAt := some s.now,
                             ended := if f.skip = 0 then c.ended ++ [{ f with damaged := f.damaged || cut }] else c.ended }

/-- The enabled CSI streams of a receiver with a virtual channel. -/
def State.csiStreams (s : State) (d rx vc : Nat) : List Nat :=
  (rangeFrom (16 * rx) 16).filter (fun n => decide (s.fld d .STR_CFG_EN n = 1) && !s.isGvsp d n && decide (s.fld d .STR_CFG_VC n = vc) &&
    dtAccepted (s.fld d .STR_CFG_DT n))

/-- Whether a frame came over GVSP. -/
def CamFrame.gvsp (f : CamFrame) : Bool := decide (f.sizeX ≠ 0)

/-- The streams of a range whose open frame satisfies a test: it completes under the values latched at its start (R364). -/
def State.openOn (s : State) (d : Nat) (ns : List Nat) (test : CamFrame → Bool) : List Nat := ns.filter (fun n => (s.stream d n).opened.any test)

/-- A packet header at a receiver (R346): what the ECC and VCX rules leave of it. -/
def State.csiHeader (s : State) (d rx : Nat) (h : CsiHeader) : Bool × State :=
  if s.fld d .CSI_PHY_MODE rx = 0 ∨ 2 ≤ h.eccErrors then (false, s)
  else (decide (h.vcx = 0) && decide (h.vc < 16), if h.eccErrors = 1 then s.addSat d .CSI_PKT_ERR_ECC_FIX rx 1 else s)

/-- CSI_SHORT_PACKET: FS ends a frame that is open on its channel and starts the next, FE ends it; LS and LE have no effect of their own, and other short packets are
ignored (R346, R352, R353, R364). -/
def execCsiShortPacket (d rx : Nat) (h : CsiHeader) (number : Nat) (s : State) : Out :=
  if ¬ s.hasDie d ∨ 8 ≤ rx then .next s
  else
    let r := s.csiHeader d rx h
    let open_ := r.2.openOn d (rangeFrom (16 * rx) 16) (fun f => !f.gvsp && !f.lineScan && decide (f.channel = h.vc))
    let start := (r.2.csiStreams d rx h.vc).filter (fun n => decide (r.2.fld d .STR_CFG_LINESCAN n = 0))
    if ¬ r.1 then .next r.2
    else if h.dt = 0 then
      .next (start.foldl (fun (t : State) n =>
        ((t.endFrame d n true).abortInjections d n).openFrame d n number (t.fld d .STR_CFG_DT n) 0) (open_.foldl (fun (t : State) n => t.endFrame d n true) r.2))
    else if h.dt = 1 then .next (open_.foldl (fun (t : State) n => t.endFrame d n false) r.2)
    else .next r.2

/-- One line arrives in the open frame of a stream: the row before it is written, its own is held (R350, R352, R356). -/
def State.takeLine (s : State) (d n : Nat) (bs : List Byte) (crcOk : Bool) : State :=
  let c := s.stream d n
  match c.opened with
  | none => s
  | some f =>
    let f1 := { f with crc := crcRun 0xEDB88320 f.crc bs, damaged := f.damaged || !crcOk, lines := f.lines + 1 }
    if f.skip ≠ 0 ∨ f.height ≤ f.lines then s.setStream d n { c with opened := some f1 }
    else
      let short := decide ((linePixels f.format bs).length < f.x0 + f.width)
      (s.putRows d n f f.row).setStream d n { c with opened := some { f1 with damaged := f1.damaged || short, row := [f.rowOf f.lines bs] } }

/-- A line-scan tile ends with its HEIGHT-th line (R352, R353). -/
def State.tileEnds (s : State) (d n : Nat) : State :=
  match (s.stream d n).opened with
  | some f => if f.lineScan ∧ f.height ≤ f.lines then s.endFrame d n false else s
  | none => s

/-- CSI_LONG_PACKET: a line of the frame that is open on its VC and DT, or of the stream that they name, whose tile may start with it (R346, R349, R353, R364). -/
def execCsiLongPacket (d rx : Nat) (h : CsiHeader) (payload : List Byte) (crcOk : Bool) (s : State) : Out :=
  if ¬ s.hasDie d ∨ 8 ≤ rx then .next s
  else
    let r := s.csiHeader d rx h
    if ¬ r.1 then .next r.2
    else
      match r.2.openOn d (rangeFrom (16 * rx) 16) (fun f => !f.gvsp && decide (f.channel = h.vc) && decide (f.format = h.dt)),
          (r.2.csiStreams d rx h.vc).find? (fun n => decide (r.2.fld d .STR_CFG_DT n = h.dt)) with
      | n :: _, _ => .next ((r.2.takeLine d n payload crcOk).tileEnds d n)
      | [], none => .next (r.2.addSat d .CSI_PKT_ERR_UNKNOWN rx 1)
      | [], some n =>
        if r.2.fld d .STR_CFG_LINESCAN n = 0 ∨ (r.2.stream d n).opened.isSome then .next r.2
        else .next (((r.2.openFrame d n 0 h.dt 0).takeLine d n payload crcOk).tileEnds d n)

/-- The first byte of an image that has not arrived. -/
def firstGap (parts : List (Nat × List Byte)) : Nat :=
  (sortBy (fun a b => decide (a.1 ≤ b.1)) parts).foldl (fun e p => if p.1 ≤ e then max e (p.1 + p.2.length) else e) 0

/-- One past the highest byte that has arrived. -/
def highByte (parts : List (Nat × List Byte)) : Nat := parts.foldl (fun e p => max e (p.1 + p.2.length)) 0

/-- Bytes of the GVSP storage that a stream uses: from its first missing byte on, and 16 KiB under its injection (R348, R357). -/
def CamStream.stored (c : CamStream) : Nat :=
  (match c.opened with
    | some f => min 0x10000 (highByte f.parts - firstGap f.parts)
    | none => 0) + (if c.golden.isSome then 0x4000 else 0)

/-- A GVSP payload packet of the open frame of a stream: placed while it falls inside the storage that the die's streams leave. -/
def State.gvspPayload (s : State) (d n off : Nat) (bs : List Byte) (f : CamFrame) : State :=
  let c := s.stream d n
  let others := ((s.sharing d n).filter (fun x => decide (x ≠ n))).foldl (fun a x => a + (s.stream d x).stored) 0
  let window := 0x10000 - (others + (if c.golden.isSome then 0x4000 else 0))
  let f1 := { f with crc := crcRun 0xEDB88320 f.crc bs }
  let f2 := if off + window < highByte f.parts then { f1 with damaged := true } else { f1 with parts := f.parts ++ [(off, bs)] }
  s.setStream d n { c with opened := some f2 }

/-- GVSP_PACKET (R348, R364): a leader ends the block that is open on its UDP port and starts one of the stream of that port; a payload packet and a trailer belong to the
block that is open there. -/
def execGvspPacket (d port : Nat) (p : GvspPacket) (s : State) : Out :=
  if ¬ s.hasDie d then .next s
  else
    let open_ := s.openOn d (List.range 128) (fun f => f.gvsp && decide (f.channel = port))
    match p with
    | .leader b fmt w =>
      let s1 := open_.foldl (fun (t : State) n => t.endFrame d n true) s
      (match pfnc fmt, (List.range 128).find? (fun n => decide (s.fld d .STR_CFG_EN n = 1) && s.isGvsp d n && decide (s.fld d .STR_GOLD_UDP_PORT n = port)) with
      | some f, some n => .next (if w = 0 then s1 else ((s1.endFrame d n true).abortInjections d n).openFrame d n b f w)
      | _, _ => .next s1)
    | .payload b off bs =>
      .next (open_.foldl (fun (t : State) n => match (t.stream d n).opened with
        | some f => if f.number = b then t.gvspPayload d n off bs f else t
        | none => t) s)
    | .trailer b => .next ((s.openOn d open_ (fun f => decide (f.number = b))).foldl (fun (t : State) n => t.endFrame d n false) s)

/-- The line `y` of a GVSP image from the packets placed; what is missing is zero. -/
def CamFrame.gvspRow (f : CamFrame) (y : Nat) : List Byte :=
  let n := gvspLine f.format f.sizeX
  (rangeFrom (n * y) n).map (fun o => match f.parts.find? (fun p => decide (p.1 ≤ o) && decide (o < p.1 + p.2.length)) with
    | some p => p.2.getD (o - p.1) 0#8
    | none => 0#8)

/-- The rows that completion still has to write (R352): the last row held, rows of zero for lines that are missing, or a GVSP image's rows. -/
def CamFrame.restRows (f : CamFrame) : List (Nat × List Byte) :=
  if f.gvsp then (List.range f.height).map (fun y => f.rowOf y (f.gvspRow y))
  else f.row ++ (rangeFrom f.lines (f.height - f.lines)).map (fun y => f.rowOf y [])

/-- Whether lines or bytes of a frame are missing (R352). -/
def CamFrame.missing (f : CamFrame) : Bool :=
  if f.gvsp then decide (firstGap f.parts < gvspLine f.format f.sizeX * f.height) || decide (f.sizeX < f.x0 + f.width) else decide (f.lines < f.height)

/-- The record of a frame (R354). -/
def CamFrame.record64 (f : CamFrame) (crc flags : Nat) : List Byte :=
  leBytes 8 f.count ++ leBytes 8 f.number ++ leBytes 8 f.tsTrig ++ leBytes 8 f.tsFs ++ leBytes 8 f.distTrig ++ leBytes 8 f.distFs ++ leBytes 4 crc ++
  leBytes 1 flags ++ leBytes 1 (f.tb + 16 * f.odo) ++ leBytes 2 0 ++ leBytes 2 f.width ++ leBytes 2 f.height ++ leBytes 1 f.slot ++ leBytes 3 0

/-- Write a frame's record and count it (R352). Flags that a waiting sheaf copies are remembered (R449). -/
def State.countFrame (s : State) (d n : Nat) (f : CamFrame) (crc flags : Nat) : State :=
  let s1 := s.camStore d n f.record (f.record64 crc flags)
  let s2 := s1.setFld d .STR_FRAMES_COUNT n f.count
  if flags = 0 then s2 else { s2 with frameFlags := insertKV s2.frameFlags (d, n, f.count) flags }

/-- Nanoseconds that a golden copy takes: 64 bytes per MEM_CLK cycle (R357). -/
def State.copyNs (s : State) (d len : Nat) : Nat :=
  ceilDiv (ceilDiv len 64 * 1000 * max 1 (s.fld d .CLK_DIV_CURRENT 2)) (srcMHz (s.fld d .CLK_DIV_SRC 2))

/-- The pinned buffer of a Class S silo that a golden handle names, with a length it must hold (R357). -/
def State.goldenBuf (s : State) (h len : Nat) : Option BufEnt :=
  match s.bufOf h with
  | some e => if e.pinned ∧ ¬ e.spilled ∧ ¬ e.moving ∧ handleSilo h ∈ s.classSSilos (s.bufDie h) ∧ len ≤ e.length then some e else none
  | none => none

/-- PERIOD, GOLD_HANDLE and EXPECT of a stream are latched (R364). -/
def State.latchGold (s : State) (d n : Nat) : State :=
  s.setStream d n { s.stream d n with
    gold := (s.fld d .STR_GOLD_PERIOD n, s.fld d .STR_GOLD_HANDLE_HANDLE n, s.fld d .STR_EXPECT_0_SIG n + s.fld d .STR_EXPECT_1_SIG n * 2 ^ 32 +
      s.fld d .STR_EXPECT_2_SIG n * 2 ^ 64 + s.fld d .STR_EXPECT_3_SIG n * 2 ^ 96) }

/-- An occasion of a golden frame, at the completion of frame `f` (R357, R358, R364): the injection starts, is forced, or is deferred. -/
def State.occasion (s0 : State) (d n : Nat) (f : CamFrame) : State :=
  let was := s0.stream d n
  if s0.fld d .STR_CFG_EN n = 0 ∨ s0.fld d .STR_CFG_GOLD_EN n = 0 ∨ was.since < was.gold.1 ∨ was.golden.isSome then s0
  else
    let s := s0.latchGold d n
    let c := s.stream d n
    let forced := decide (s.fld d .STR_STATE_DEFER n = 4)
    let k := s.nextCount d n
    let g := { s.frameNow d n k 0 f.format f.sizeX 0 with number := 0, tsTrig := 0, distTrig := 0, width := f.width, height := f.height, outFmt := f.outFmt }
    let len := f.height * f.rowStride
    let mates := s.sharing d n
    let held := mates.any (fun x => decide (x ≠ n) && (s.stream d x).golden.isSome)
    let quiet := !mates.any (fun x => (s.stream d x).opened.isSome) && decide (s.copyNs d len + 10000 ≤ f.blank)
    match s.goldenBuf c.gold.2.1 len with
    | some e =>
      if (s.slotFree d n k).isSome ∧ ¬ held ∧ (quiet ∨ forced) then
        let s1 := (s.setStream d n { c with golden := some ⟨g, e.base, len, forced⟩ }).setFld d .STR_STATE_INJECTING n 1
        if ¬ forced then s1
        else
          match c.opened with
          | some o => ((s1.setStream d n { c with golden := some ⟨g, e.base, len, forced⟩, opened := some { o with skip := 2 } })).displaceFrame d n k
          | none => s1.setStream d n { c with golden := some ⟨g, e.base, len, forced⟩, displace := some k }
      else s.setFld d .STR_STATE_DEFER n (min 4 (s.fld d .STR_STATE_DEFER n + 1))
    | none => s.setFld d .STR_STATE_DEFER n (min 4 (s.fld d .STR_STATE_DEFER n + 1))

/-- FRAME_COMPLETE: the oldest frame of a stream that has ended completes (R352, R354, R356, R451). -/
def execFrameComplete (d n : Nat) (s : State) : Out :=
  if ¬ s.hasDie d ∨ 128 ≤ n then .next s
  else
    let c := s.stream d n
    match c.ended with
    | [] => .next s
    | f :: fs =>
      let damaged := f.damaged || f.missing
      let crc := Nat.xor f.crc 0xFFFFFFFF
      let number := if f.lineScan then 0 else f.number
      let stale := match c.last with
        | some p => decide (p.1 = crc) || (decide (number ≠ 0) && decide (p.2 = number))
        | none => false
      let frozen := stale && c.lastStale
      let flags := 2 * b2n frozen + 4 * b2n damaged + f.marks
      let s1 := (s.putRows d n f f.restRows).setStream d n { c with ended := fs, last := some (crc, number), lastStale := stale, since := c.since + 1 }
      let s2 := s1.countFrame d n { f with number := number } crc flags
      let s3 := if damaged then s2.addSat d .STR_DAMAGED_COUNT n 1 else s2
      let s4 := if frozen ∧ s3.fld d .STR_STATE_FROZEN n = 0 then ((s3.setFld d .STR_STATE_FROZEN n 1).titheAdd (titheDie d 0x23C) 1).camEvent .frozenFrame d n f.count
        else if stale then s3 else s3.setFld d .STR_STATE_FROZEN n 0
      let silos := s4.binding d n
      let s5 := if (frozen ∨ damaged) ∧ silos ≠ [] then s4.source { src := 3, die := d } silos else s4
      .next (s5.occasion d n f)

/-- GOLDEN_COPY_END: the golden frame completes as the next frame (R358, R359); a copy that meets an uncorrectable error ends with nothing (R149). -/
def execGoldenCopyEnd (d n : Nat) (s : State) : Out :=
  if ¬ s.hasDie d ∨ 128 ≤ n then .next s
  else
    let c := s.stream d n
    match c.golden with
    | none => .next s
    | some g =>
      match s.poisoned g.src g.len with
      | some a => .next ((s.readUe a (s.streamAgent d n)).dropInjection d n)
      | none =>
        let s1 := (s.wake g.src g.len).putRows d n g.frame [(0, s.bytes g.src g.len)]
        let s2 := s1.countFrame d n g.frame 0 (1 + g.frame.marks + (if g.forced then 64 else 0))
        .next ((s2.setStream d n { c with golden := none, since := 0 }).setFlds d n [(.STR_STATE_INJECTING, 0), (.STR_STATE_DEFER, 0)])

/-- Disabling a stream (R364): the open frame is discarded, an injection aborted. -/
def State.streamOff (s : State) (d n : Nat) : State :=
  let s1 := s.dropInjection d n
  s1.setStream d n { s1.stream d n with opened := none }

/-- Whether an STR_CFG image may enable its stream (R347, R367): an output format, and a source that no other stream has. -/
def State.strEnableOk (s : State) (d n v port : Nat) : Bool :=
  decide (bits v 31 31 = 0) ||
    (decide (bits v 15 12 ∈ [1, 11, 12]) &&
      (if bits v 30 30 = 1 then
        !(List.range 128).any (fun x => decide (x ≠ n) && decide (s.fld d .STR_CFG_EN x = 1) && s.isGvsp d x && decide (s.fld d .STR_GOLD_UDP_PORT x = port))
      else !(rangeFrom (16 * (n / 16)) 16).any (fun x => decide (x ≠ n) && decide (s.fld d .STR_CFG_EN x = 1) && !s.isGvsp d x &&
        decide (s.fld d .STR_CFG_VC x = bits v 27 24) && decide (s.fld d .STR_CFG_DT x = bits v 23 18))))

/-- Whether the images of a stream are in range, by offset (R367). -/
def strOk (off v : Nat) : Bool :=
  match off with
  | 0x00 => decide (bits v 15 12 ∈ [1, 11, 12])
  | 0x04 => decide (1 ≤ bits v 31 16) && decide (1 ≤ bits v 15 0)
  | 0x08 => decide (1 ≤ bits v 3 0) && decide (bits v 3 0 ≤ 8)
  | 0x10 | 0x14 | 0x18 => decide (v % 64 = 0)
  | 0x28 => decide (8 ≤ bits v 15 0)
  | _ => true

/-- A written image with the value that a field has in place of one out of its range, which is ignored (R357, R367). -/
def State.strKeep (s : State) (d n off v : Nat) (classS : Bool) : Nat :=
  let keep (v hi lo : Nat) (ok : Bool) (f : Fld) : Nat := if ok then v else putBits v hi lo (s.fld d f n)
  match off with
  | 0x00 => keep (keep v 15 12 (strOk 0 v) .STR_CFG_OUT_FMT) 28 28 (classS || decide (bits v 28 28 = 0)) .STR_CFG_GOLD_EN
  | 0x04 => keep (keep v 31 16 (decide (1 ≤ bits v 31 16)) .STR_GEOM_HEIGHT) 15 0 (decide (1 ≤ bits v 15 0)) .STR_GEOM_WIDTH
  | 0x08 => keep v 3 0 (strOk 8 v) .STR_BUF_NBUF
  | 0x28 => keep v 15 0 (strOk 0x28 v) .STR_GOLD_PERIOD
  | _ => v

/-- The fields of an STR_CFG image. -/
def strCfgFields (v : Nat) : List (Fld × Nat) :=
  [(.STR_CFG_EN, bits v 31 31), (.STR_CFG_SRC, bits v 30 30), (.STR_CFG_LINESCAN, bits v 29 29), (.STR_CFG_GOLD_EN, bits v 28 28),
   (.STR_CFG_VC, bits v 27 24), (.STR_CFG_DT, bits v 23 18), (.STR_CFG_OUT_FMT, bits v 15 12), (.STR_CFG_TB, bits v 11 9), (.STR_CFG_ODO, bits v 8 7),
   (.STR_CFG_TRIG_EN, bits v 6 6), (.STR_CFG_TRIG, bits v 4 0)]

/-- An image of a stream offset takes effect (R364, R367); the addresses are written by their halves together. -/
def State.strSet (s : State) (d n off v : Nat) : State :=
  match off with
  | 0x00 => let s1 := if s.fld d .STR_CFG_EN n = 1 ∧ bits v 31 31 = 0 then s.streamOff d n else s
            s1.setFlds d n (strCfgFields v)
  | 0x04 => s.setFlds d n [(.STR_GEOM_HEIGHT, bits v 31 16), (.STR_GEOM_WIDTH, bits v 15 0)]
  | 0x08 => s.setFlds d n [(.STR_BUF_X0, bits v 31 16), (.STR_BUF_NBUF, bits v 3 0)]
  | 0x0C => s.setFld d .STR_HANDLE_HANDLE n v
  | 0x10 => s.setFld d .STR_OUT_OFF_OFF n v
  | 0x14 => s.setFld d .STR_FSTRIDE_STRIDE n v
  | 0x28 => s.setFlds d n [(.STR_GOLD_UDP_PORT, bits v 31 16), (.STR_GOLD_PERIOD, bits v 15 0)]
  | 0x2C => s.setFld d .STR_GOLD_HANDLE_HANDLE n v
  | 0x30 => s.setFld d .STR_EXPECT_0_SIG n v
  | 0x34 => s.setFld d .STR_EXPECT_1_SIG n v
  | 0x38 => s.setFld d .STR_EXPECT_2_SIG n v
  | 0x3C => s.setFld d .STR_EXPECT_3_SIG n v
  | _ => s

/-- A write of STR_CFG takes effect; an enable latches the golden settings (R364). -/
def State.strCfgSet (s : State) (d n v : Nat) : State :=
  let t := s.strSet d n 0 v
  if s.fld d .STR_CFG_EN n = 0 ∧ bits v 31 31 = 1 then t.latchGold d n else t

/-- A write of a stream register at an offset of the stream (R364, R367): a value out of range is ignored, and the second enable of a source. -/
def wrStr (m : Master) (d n off data : Nat) (s : State) : State :=
  if s.otherHolds m 4 d n then s.flag d .CSI_STATUS_CONFLICT (n / 16)
  else
    let classS := s.holdsClassS (writerOf m)
    let v := s.strKeep d n off data classS
    if (off = 0 ∧ ¬ s.strEnableOk d n v (s.fld d .STR_GOLD_UDP_PORT n)) ∨ (off ∈ [0x10, 0x14, 0x18] ∧ data % 64 ≠ 0) then
      s.flag d .CSI_STATUS_BADCFG (n / 16)
    else
      let t := if strOk off data ∧ (off ≠ 0 ∨ classS ∨ bits data 28 28 = 0) then s else s.flag d .CSI_STATUS_BADCFG (n / 16)
      match off with
      | 0x00 => t.strCfgSet d n v
      | 0x18 => t.holdLow d .STR_REC_LO n v
      | 0x1C => (t.setFld d .STR_REC_ADDR n (t.pairLow d .STR_REC_LO n (t.fld d .STR_REC_ADDR n) + v % 2 ^ 16 * 2 ^ 32)).dropLow d .STR_REC_LO n
      | 0x20 => t.holdLow d .STR_REL_LO n v
      | 0x24 => (t.setFld d .STR_REL_ADDR n (t.pairLow d .STR_REL_LO n (t.fld d .STR_REL_ADDR n) + v % 2 ^ 16 * 2 ^ 32)).dropLow d .STR_REL_LO n
      | _ => t.strSet d n off v

/-- STR_CFG_WRITE: a write of a register of a stream, at its offset in the stream. -/
def execStrCfgWrite (m : Master) (d n off : Nat) (data : Word) (s : State) : Out :=
  if ¬ s.hasDie d ∨ 128 ≤ n ∨ 0x80 ≤ off then .next s
  else .next (s.regWrite m d .CSI (0x10000 * (n / 16) + 0x1000 + 0x80 * (n % 16) + off) data (wrStr m d n off data.toNat))

/-- Whether a stream of a receiver is enabled. -/
def State.rxBusy (s : State) (d rx : Nat) : Bool := (rangeFrom (16 * rx) 16).any (fun n => decide (s.fld d .STR_CFG_EN n = 1) && !s.isGvsp d n)

/-- Set a receiver's PHY; one that is off receives nothing (R345). -/
def State.phySet (s : State) (d rx mode lanes rate : Nat) : State :=
  let s1 := s.setFlds d rx [(.CSI_PHY_MODE, mode), (.CSI_PHY_LANES, lanes), (.CSI_PHY_RATE, rate)]
  if mode = 0 then s1.setFld d .CSI_STATUS_LOCK rx 0 else s1

/-- Whether a rate is one of a PHY mode (R345, R367). -/
def rateOk (mode rate : Nat) : Bool := decide (mode = 0) || (decide (80 ≤ rate) && decide (rate ≤ if mode = 1 then 4500 else 6000))

/-- A write of CSI_PHY (R345, R364, R367): a value out of range is ignored. -/
def wrCsiPhy (m : Master) (d rx data : Nat) (s : State) : State :=
  let mode := if bits data 31 30 = 3 then s.fld d .CSI_PHY_MODE rx else bits data 31 30
  let lanes := if bits data 29 28 = 3 then s.fld d .CSI_PHY_LANES rx else bits data 29 28
  let rate := if rateOk mode (bits data 12 0) then bits data 12 0 else s.fld d .CSI_PHY_RATE rx
  if s.otherHolds m 5 d rx then s.flag d .CSI_STATUS_CONFLICT rx
  else if s.rxBusy d rx then s.flag d .CSI_STATUS_BADCFG rx
  else
    let t := s.phySet d rx mode lanes rate
    if bits data 31 30 = 3 ∨ bits data 29 28 = 3 ∨ ¬ rateOk mode (bits data 12 0) then t.flag d .CSI_STATUS_BADCFG rx else t

/-- CSI_PHY_LOCK_CHANGE: LOCK follows the PHY, and a loss sets PHY_ERR (R367). -/
def execCsiPhyLockChange (d rx : Nat) (locked : Bool) (s : State) : Out :=
  if ¬ s.hasDie d ∨ 8 ≤ rx then .next s
  else if s.fld d .CSI_PHY_MODE rx = 0 ∨ s.fld d .CSI_STATUS_LOCK rx = b2n locked then .next s
  else
    let s1 := s.setFld d .CSI_STATUS_LOCK rx (b2n locked)
    .next (if locked then s1 else s1.flag d .CSI_STATUS_PHY_ERR rx)

/-- CAM_RX_SET (R345, R366). -/
def execCamRxSet (r : Req) (d rx mode lanes rate : Nat) (s : State) : Out :=
  .next (s.serve r 0x0400 (some d) (fun s =>
    let ok : Bool := match mode with
      | 0 => true
      | 1 => decide (lanes = 1 ∨ lanes = 2 ∨ lanes = 4) && rateOk 1 rate
      | 2 => decide (1 ≤ lanes) && decide (lanes ≤ 3) && rateOk 2 rate
      | _ => false
    if ¬ s.hasDie d ∨ 8 ≤ rx ∨ ¬ ok then reply s .badMessage
    else if s.holder 5 d rx ≠ r.dom then reply s .denied
    else if s.rxBusy d rx then reply s .busy
    else if mode = 0 then reply (s.phySet d rx 0 0 0) .ok
    else reply (s.phySet d rx mode (if lanes = 1 then 0 else if lanes = 2 then 1 else 2) rate) .ok))

/-- CAM_STREAM_SET (R122, R347, R364, R366): the sixteen images from offset 0x00 on, all in range or none written. -/
def execCamStreamSet (r : Req) (d n : Nat) (images : List Word) (s : State) : Out :=
  .next (s.serve r 0x0401 (some d) (fun s =>
    let w (i : Nat) : Nat := (images.getD i 0).toNat
    if ¬ s.hasDie d ∨ 128 ≤ n ∨ images.length ≠ 16 ∨ (s.subsetRefusal r (decide (handleDie (w 3) ≠ 0) || decide (handleDie (w 11) ≠ 0)) false).isSome then reply s .badMessage
    else if s.holder 4 d n ≠ r.dom then reply s .denied
    else if bits (w 0) 28 28 = 1 ∧ ¬ s.holdsClassS r.dom then reply s .safetyLocked
    else if ¬ (List.range 16).all (fun i => strOk (4 * i) (w i)) ∨ ¬ s.strEnableOk d n (w 0) (bits (w 10) 31 16) then reply s .badMessage
    else
      let s1 := (rangeFrom 1 15).foldl (fun (t : State) i => t.strSet d n (4 * i) (w i)) s
      reply ((s1.strCfgSet d n (w 0)).setFlds d n [(.STR_REC_ADDR, w 6 + w 7 % 2 ^ 16 * 2 ^ 32), (.STR_REL_ADDR, w 8 + w 9 % 2 ^ 16 * 2 ^ 32)]) .ok))

/-- The image of STR_CFG. -/
def State.strCfgImage (s : State) (d n : Nat) : Nat :=
  s.fld d .STR_CFG_EN n * 2 ^ 31 + s.fld d .STR_CFG_SRC n * 2 ^ 30 + s.fld d .STR_CFG_LINESCAN n * 2 ^ 29 + s.fld d .STR_CFG_GOLD_EN n * 2 ^ 28 +
  s.fld d .STR_CFG_VC n * 2 ^ 24 + s.fld d .STR_CFG_DT n * 2 ^ 18 + s.fld d .STR_CFG_OUT_FMT n * 2 ^ 12 + s.fld d .STR_CFG_TB n * 2 ^ 9 +
  s.fld d .STR_CFG_ODO n * 2 ^ 7 + s.fld d .STR_CFG_TRIG_EN n * 2 ^ 6 + s.fld d .STR_CFG_TRIG n

/-- CAM_STREAM_QUERY (R366): offsets 0x00 to 0x57. -/
def execCamStreamQuery (r : Req) (d n : Nat) (s : State) : Out :=
  .next (s.serve r 0x0402 (some d) (fun s =>
    if ¬ s.hasDie d ∨ 128 ≤ n then reply s .badMessage
    else
      let f (x : Fld) := s.fld d x n
      let words := [s.strCfgImage d n, f .STR_GEOM_HEIGHT * 2 ^ 16 + f .STR_GEOM_WIDTH, f .STR_BUF_X0 * 2 ^ 16 + f .STR_BUF_NBUF, f .STR_HANDLE_HANDLE,
        f .STR_OUT_OFF_OFF, f .STR_FSTRIDE_STRIDE, f .STR_REC_ADDR, f .STR_REC_ADDR / 2 ^ 32, f .STR_REL_ADDR, f .STR_REL_ADDR / 2 ^ 32,
        f .STR_GOLD_UDP_PORT * 2 ^ 16 + f .STR_GOLD_PERIOD, f .STR_GOLD_HANDLE_HANDLE, f .STR_EXPECT_0_SIG, f .STR_EXPECT_1_SIG, f .STR_EXPECT_2_SIG,
        f .STR_EXPECT_3_SIG, f .STR_FRAMES_COUNT, f .STR_FRAMES_COUNT / 2 ^ 32,
        f .STR_STATE_FROZEN * 2 ^ 31 + f .STR_STATE_INJECTING * 2 ^ 30 + f .STR_STATE_DEFER * 2 ^ 27, f .STR_DROP_COUNT, f .STR_DAMAGED_COUNT,
        f .STR_DISPLACED_COUNT]
      reply s .ok (words.flatMap (leBytes 4) ++ leBytes 8 0)))

end Sys2Proof.Machine
end

