-- ==== Sys2Proof/Machine/Eth.lean ====
section
/-!
DEFINITION. Machine/Eth.lean: the Ethernet ports, the TSN switch and the CPU port (R390 to R395), safety streams (R443, R446), and their messages (R414).
Frames are byte strings without the FCS. What the spec takes from the IEEE standards without repeating it (tag and header formats, PTP fields, the
redundancy tag, recovery algorithms) is read as those standards have it.
-/
namespace Sys2Proof.Machine

/-- A port that nothing has used. -/
def EthPort.empty : EthPort := ⟨0, 0, [], 0, [], 0, none, 0, 0, none⟩
def State.port (s : State) (d i : Nat) : EthPort := lookupD s.eth.ports (d, i) EthPort.empty
def State.setPort (s : State) (d i : Nat) (p : EthPort) : State := { s with eth.ports := insertKV s.eth.ports (d, i) p }

/-- Big-endian field of a frame. -/
def beAt (bs : List Byte) (o n : Nat) : Nat := leNat (slice bs o n).reverse
def beBytes (n v : Nat) : List Byte := (leBytes n v).reverse

/-- Replace bytes of a frame from an offset on, within the frame. -/
def putAt (bs : List Byte) (o : Nat) (new : List Byte) : List Byte := (bs.take o ++ new ++ bs.drop (o + new.length)).take bs.length

/-- Offset of the EtherType behind the VLAN tags of a frame (IEEE 802.1Q), with the first tag's control information. The first argument bounds the tags. -/
def typeOffset (bs : List Byte) : Nat → Nat → Nat
  | 0, o => o
  | n + 1, o => if beAt bs o 2 = 0x8100 ∨ beAt bs o 2 = 0x88A8 then typeOffset bs n (o + 4) else o
def frameType (bs : List Byte) : Nat := typeOffset bs 4 12
def frameTci (bs : List Byte) : Option Nat := if frameType bs = 12 then none else some (beAt bs 14 2)

/-- VID of a frame: of its tag, else 1 (IEEE 802.1Q); its class: its PCP, else 0. -/
def frameVid (bs : List Byte) : Nat := match frameTci bs with
  | some t => if t % 0x1000 = 0 then 1 else t % 0x1000
  | none => 1
def frameClass (bs : List Byte) : Nat := match frameTci bs with
  | some t => t / 0x2000 % 8
  | none => 0

/-- Destination and source MAC. -/
def dstMac (bs : List Byte) : Nat := beAt bs 0 6
def srcMac (bs : List Byte) : Nat := beAt bs 6 6

/-- Offset of a frame's UDP header, over IPv4 or IPv6. -/
def udpAt (bs : List Byte) : Option Nat :=
  let o := frameType bs
  if beAt bs o 2 = 0x0800 ∧ beAt bs (o + 11) 1 = 17 then some (o + 2 + 4 * (beAt bs (o + 2) 1 % 16))
  else if beAt bs o 2 = 0x86DD ∧ beAt bs (o + 8) 1 = 17 then some (o + 42) else none

/-- Offset of the PTP header of an event message (R391, R393): EtherType 0x88F7, or UDP port 319. -/
def ptpAt (bs : List Byte) : Option Nat :=
  let o := frameType bs
  let p := if beAt bs o 2 = 0x88F7 then some (o + 2) else match udpAt bs with
    | some u => if beAt bs (u + 2) 2 = 319 then some (u + 8) else none
    | none => none
  match p with
  | some x => if beAt bs x 1 % 16 < 4 ∧ x + 34 ≤ bs.length then some x else none
  | none => none

/-- Overwrite bytes of a frame and correct its UDP checksum (R393, R446), by ones' complement arithmetic on 16-bit words. -/
def onesSum (bs : List Byte) : Nat := (List.range ((bs.length + 1) / 2)).foldl (fun a i => a + beAt (bs ++ [0#8]) (2 * i) 2) 0
def fold16 (n : Nat) : Nat := let a := n % 65536 + n / 65536; a % 65536 + a / 65536
def rewrite (bs : List Byte) (o : Nat) (new : List Byte) : List Byte :=
  let out := putAt bs o new
  match udpAt bs with
  | none => out
  | some u =>
    let c := beAt bs (u + 6) 2
    if c = 0 ∨ o < u then out
    else
      let x := fold16 (65535 - c + (65535 * bs.length - onesSum (bs.drop u)) + onesSum (out.drop u))
      putAt out (u + 6) (beBytes 2 (if 65535 - x = 0 then 65535 else 65535 - x))

/-- The time base of a PTP domain (R393): of the domain table, else TB_0. -/
def State.ptpTb (s : State) (number : Nat) : Nat := match s.eth.ptp.find? (fun e => decide (e.2.1 = number)) with
  | some e => e.2.2
  | none => 0

/-- A stamp on a time base, corrected by a signed latency in ns (R393). -/
def State.stampOn (s : State) (tb : Nat) (lat : Int) : Nat := ((s.tbNs tb : Int) + lat).toNat

/-- Speed codes of ETH_PORT_CFG in Mb/s (R416). -/
def speedMb : Nat → Nat
  | 0 => 25000 | 1 => 10000 | 2 => 5000 | 3 => 2500 | 4 => 1000 | _ => 100

/-- Whether an external port is enabled with its link up; the CPU port needs its enable alone. -/
def State.portUp (s : State) (d i : Nat) : Bool :=
  s.hasDie d && decide (s.fld d .ETH_PORT_CFG_EN i = 1) && (decide (i = 6) || (decide (i < 6) && decide (s.fld d .ETH_PORT_STATUS_LINK i = 1)))

/-- A frame dropped for its egress port and class (R392). -/
def State.dropFrame (s : State) (d i cls : Nat) : State :=
  let p := s.port d i
  s.setPort d i { p with drops := insertKV p.drops cls (lookupD p.drops cls 0 + 1) }

/-- Bytes of frame buffer in use in a slice (R392). -/
def State.frameBuffer (s : State) (d : Nat) : Nat :=
  s.eth.ports.foldl (fun a e => if e.1.1 = d then a + e.2.waiting.foldl (fun b f => b + f.bytes.length + 4) 0 else a) 0

/-- A frame joins the queue of an egress port, while the slice has room for it (R392). -/
def State.egress (s : State) (d i : Nat) (f : EthOut) : Bool × State :=
  if s.frameBuffer d + f.bytes.length + 4 ≤ 0x200000 then
    let p := s.port d i
    (true, s.setPort d i { p with waiting := p.waiting ++ [f] })
  else (false, s.dropFrame d i f.cls)

/-- Address of the current descriptor of a ring of the CPU port (R395). -/
def State.ringDesc (s : State) (d ring : Nat) (tx : Bool) : Nat :=
  let c := Config.cpuRing d ring tx
  c.1 + 32 * (lookupD s.eth.rings (d, ring, tx) 0 % 2 ^ max 4 (min 16 c.2))

/-- The ring moves on. -/
def State.ringStep (s : State) (d ring : Nat) (tx : Bool) : State :=
  { s with eth.rings := insertKV s.eth.rings (d, ring, tx) ((lookupD s.eth.rings (d, ring, tx) 0 + 1) % 65536) }

/-- The CPU-port rings of a slice as a master (R97), and as ECC reports them, for the domain that holds the port. -/
def cpuPort (d : Nat) : Master := ioMaster d 25
def State.cpuAgent (s : State) (d : Nat) : Agent := ⟨masterId (cpuPort d), [s.holder 0xB d 6], true⟩

/-- A slice's CPU port reaches for bytes of memory (R92, R149): whether it may use them, with a refusal logged, or an uncorrectable error of a read reported. -/
def State.portReach (s : State) (d a n : Nat) (write : Bool) : Bool × State :=
  match s.memRefusal (cpuPort d) a n with
  | some (t, at') => (false, s.fabLog at' false t a (cpuPort d) write)
  | none =>
    match (if write then none else s.poisoned a n) with
    | some g => (false, (s.wake a n).readUe g (s.cpuAgent d))
    | none => (true, s.wake a n)

/-- A frame for a receive ring of a slice's CPU port (R395): the descriptor in ring order takes it, or it is dropped where OWN is 0. -/
def State.toRing (s : State) (d ring ingress cls : Nat) (bs : List Byte) (trapped : Bool) (stamp : Option (Nat × Nat)) : State :=
  let a := s.ringDesc d ring false
  let b := s.bytes a 32
  let r := s.portReach d a 32 false
  if ¬ r.1 ∨ ¬ bit (leAt b 10 1) 0 then r.2.dropFrame d 6 cls
  else
    let w := if leAt b 6 2 < bs.length then (true, r.2) else r.2.portReach d (leAt b 0 6) bs.length true
    let status := if leAt b 6 2 < bs.length then 1 else if w.1 then 0 else 3
    let s1 := if status = 0 then w.2.store (s.cpuAgent d) (leAt b 0 6) bs else w.2
    let flags := (if stamp.isSome then 8 else 0) + (if trapped then 16 else 0)
    let t := stamp.getD (0, 0)
    let out := slice b 0 6 ++ leBytes 2 bs.length ++ leBytes 1 ingress ++ leBytes 1 cls ++ leBytes 1 flags ++ leBytes 1 status ++
      leBytes 2 ((frameTci bs).getD 0) ++ leBytes 1 t.1 ++ leBytes 1 0 ++ leBytes 8 t.2 ++ leBytes 8 0
    (s1.store (s.cpuAgent d) a out).ringStep d ring false

/-- Whether a path between two slices carries frames (R145, R392). -/
def State.slicePath (s : State) (a b : Nat) : Bool := (s.blocked a b 0).isNone

/-- A frame goes to one port of the package (R390, R392): the CPU port's rings take it by class. -/
def State.toPort (from_ ingress : Nat) (f : EthOut) (stamp : Option (Nat × Nat)) (s : State) (n : Nat) : State :=
  let d := n / 8
  let i := n % 8
  if ¬ s.portUp d i then s
  else if ¬ s.slicePath from_ d then s.dropFrame d i f.cls
  else if i = 6 then s.toRing d f.cls ingress f.cls f.bytes false stamp
  else (s.egress d i f).2

/-- Ports of the package. -/
def State.allPorts (s : State) : List Nat := s.dieList.flatMap (fun d => rangeFrom (8 * d) 7)

/-- Where a frame goes: the port its address was learned on, or every port but its own (R391). Every port is a member of every VID, since no register or
message of the part says otherwise. -/
def State.egressPorts (s : State) (ingress : Nat) (bs : List Byte) : List Nat :=
  match lookup? s.eth.fdb (dstMac bs, frameVid bs) with
  | some e => if e.1 = ingress then [] else [e.1]
  | none => s.allPorts.filter (fun n => decide (n ≠ ingress))

/-- Learn the source of a frame (R391): an individual address, while the database has room. -/
def State.learn (s : State) (ingress : Nat) (bs : List Byte) : State :=
  let k := (srcMac bs, frameVid bs)
  if beAt bs 6 1 % 2 = 1 ∨ (16384 ≤ s.eth.fdb.length ∧ (lookup? s.eth.fdb k).isNone) then s
  else { s with eth.fdb := insertKV s.eth.fdb k (ingress, s.now) }

/-- Whether a frame belongs to a stream (R391): null stream, source MAC and VLAN, or IP octuple. -/
def streamTakes (t : TsnStream) (bs : List Byte) : Bool :=
  match t.idType with
  | 0 => decide (beAt t.ident 0 6 = dstMac bs) && decide (leAt t.ident 6 2 = frameVid bs)
  | 1 => decide (beAt t.ident 0 6 = srcMac bs) && decide (leAt t.ident 6 2 = frameVid bs)
  | _ => Config.ipStream t.ident bs

/-- The sequence number of a frame's redundancy tag (IEEE 802.1CB). -/
def rtagSeq (bs : List Byte) : Option Nat :=
  let o := frameType bs
  if beAt bs o 2 = 0xF1C1 then some (beAt bs (o + 4) 2) else none

/-- Sequence recovery (R391): whether a number is taken, and the history after it. Vector algorithm 0 with its history; match algorithm 1. -/
def recover (algorithm history seq : Nat) (taken : Option (Nat × List Bool)) : Bool × Option (Nat × List Bool) :=
  match taken with
  | none => (true, some (seq, []))
  | some (l, seen) =>
    let delta : Int := toSigned 16 (seq + 65536 - l % 65536)
    if algorithm = 1 then (decide (seq ≠ l), some (seq, []))
    else if delta.natAbs ≥ max 1 history then (false, taken)
    else if 0 < delta then (true, some (seq, ((List.replicate (delta.toNat - 1) false) ++ true :: seen).take history))
    else if delta = 0 then (false, taken)
    else
      let k := delta.natAbs - 1
      if seen.getD k false then (false, taken)
      else (true, some (l, (List.range (max seen.length (k + 1))).map (fun i => decide (i = k) || seen.getD i false)))

/-- What a stream's functions leave of a frame (R391): none where it is discarded. The meter's rates have no layout in the spec: whether a frame is within
them is free. -/
def State.streamWork (s : State) (t : TsnStream) (bs : List Byte) : Option (List Byte) × State :=
  let w := lookupD s.eth.work t.handle ⟨0, none⟩
  let f := s.fresh
  let s0 := if bit t.funcs 2 then f.2 else s
  if bit t.funcs 2 ∧ f.1 % 2 = 0 then (none, s0)
  else
    let o := frameType bs
    let out := if bit t.funcs 3 then bs.take o ++ beBytes 2 0xF1C1 ++ beBytes 2 0 ++ beBytes 2 w.nextSeq ++ bs.drop o else bs
    let w1 := if bit t.funcs 3 then { w with nextSeq := (w.nextSeq + 1) % 65536 } else w
    let r := match (if bit t.funcs 4 then rtagSeq bs else none) with
      | some q => recover t.algorithm t.history q w.taken
      | none => (true, w.taken)
    (if r.1 then some out else none, { s0 with eth.work := insertKV s0.eth.work t.handle { w1 with taken := r.2 } })

/-- A frame inside the switch, from a port (R391, R394): its stream's functions, then its ports. `desc` is the transmit descriptor that takes its egress stamp (R393). -/
def State.forward (s : State) (d ingress : Nat) (bs : List Byte) (ports : List Nat) (cls : Nat) (oneStep : Bool) (stamp desc : Option (Nat × Nat)) : State :=
  match s.eth.tsn.find? (fun e => streamTakes e.2 bs) with
  | none => ports.foldl (State.toPort d ingress ⟨bs, cls, none, oneStep, desc⟩ stamp) s
  | some e =>
    match s.streamWork e.2 bs with
    | (none, s1) => s1.dropFrame d (ingress % 8) cls
    | (some out, s1) => ports.foldl (State.toPort d ingress ⟨out, cls, some e.1, oneStep, desc⟩ stamp) s1

/-- Whether a trap entry matches a frame (R394): the leading MASK_BITS of the destination MAC, and the EtherType. -/
def EthTrap.hits (t : EthTrap) (bs : List Byte) : Bool :=
  decide (t.mac / 2 ^ (48 - t.maskBits) = dstMac bs / 2 ^ (48 - t.maskBits)) && decide (beAt bs (frameType bs) 2 = t.ethertype)

/-- ETH_FRAME_RX: a frame arrives at an external port (R390 to R394). -/
def execEthFrameRx (d i : Nat) (frame : List Byte) (fcsOk : Bool) (s : State) : Out :=
  if ¬ s.hasDie d ∨ 6 ≤ i then .next s
  else if ¬ s.portUp d i then .next s
  else
    let p := s.port d i
    if ¬ fcsOk then .next (s.setPort d i { p with fcs := p.fcs + 1 })
    else if 9212 < frame.length then .next (s.dropFrame d i 0)
    else if frame.length < 60 ∨ beAt frame (frameType frame) 2 = 0x8808 then .next s
    else
      let s1 := (s.setPort d i { p with framesIn := p.framesIn + 1 }).learn (8 * d + i) frame
      let stamp := match ptpAt frame with
        | some x =>
          let tb := s1.ptpTb (beAt frame (x + 4) 1)
          some (tb, s1.stampOn tb (-(toSigned 16 (s1.fld d .ETH_PORT_LAT_LAT_IN i))))
        | none => none
      let cls := frameClass frame
      let traps := (s1.eth.traps.filter (fun e => decide (e.1.1 = d) && e.2.hits frame)).map (fun e => e.2)
      let s2 := traps.foldl (fun (t : State) x => t.toRing d x.ring (8 * d + i) cls frame true stamp) s1
      .next (if traps.any (fun x => !x.copy) then s2 else s2.forward d (8 * d + i) frame (s2.egressPorts (8 * d + i) frame) cls false stamp none)

/-- Nanoseconds a frame takes at a port, with preamble and FCS. -/
def State.frameNs (s : State) (d i n : Nat) : Nat := ceilDiv ((n + 12) * 8000) (speedMb (s.fld d .ETH_PORT_STATUS_SPEED i))

/-- The entries of a gate control list as a cycle runs them (IEEE 802.1Q): one that would outlast the cycle ends with it, and the last holds to its end. -/
def gateSlots : List (Nat × Nat) → Nat → List (Nat × Nat)
  | [], _ => []
  | [e], room => [(e.1, room)]
  | e :: es, room => if room ≤ e.2 then [(e.1, room)] else e :: gateSlots es (room - e.2)
def GateList.slots (g : GateList) : List (Nat × Nat) := gateSlots g.entries g.cycle

/-- How long a class's gate stays open from the start of slot `i` on: none where it never closes. The first argument bounds the slots looked at. -/
def openFor (slots : List (Nat × Nat)) (cls : Nat) : Nat → Nat → Option Nat
  | 0, _ => none
  | n + 1, i =>
    match slots[i % max 1 slots.length]? with
    | some e => if bit e.1 cls then (openFor slots cls n (i + 1)).map (fun x => e.2 + x) else some 0
    | none => none

/-- Whether the gate of a class lets a frame end before it closes (R391). -/
def State.gateLets (s : State) (d i cls ns : Nat) : Bool :=
  let p := s.port d i
  match p.gates with
  | none => true
  | some g =>
    match g.slots[p.entry]? with
    | some e => bit e.1 cls && (match openFor g.slots cls g.slots.length (p.entry + 1) with
      | some x => decide (ns ≤ p.entryEnd - s.tbNs g.tb + x)
      | none => true)
    | none => true

/-- The first frame of the highest class that can start at a port, and the others (R391). -/
def State.nextFrame (s : State) (d i : Nat) : Option (EthOut × List EthOut) :=
  let p := s.port d i
  let ready := (List.range 8).reverse.filterMap (fun c => (firstIdx (fun f => decide (f.cls = c)) 0 p.waiting).bind (fun k =>
    match p.waiting[k]? with
    | some f => if s.gateLets d i c (s.frameNs d i f.bytes.length) then some (f, p.waiting.take k ++ p.waiting.drop (k + 1)) else none
    | none => none))
  ready.head?

/-- Whether the latest output record of a silo has VALID 1 (R445). -/
def State.lastValid (s : State) (d k : Nat) : Bool :=
  let n := (s.silo d k).records
  match s.outputRing d k with
  | some a => decide (0 < n) && bit (s.loadNat (a + 64 * ((n - 1) % 16) + 32) 1) 0
  | none => false

/-- A safety header's bytes 1 to 15 at egress (R446). -/
def State.safetyHeader (s : State) (j : Nat) : List Byte :=
  let valid := s.lastValid (s.fld 0 .SAFE_STREAM_0_DIE j) (s.fld 0 .SAFE_STREAM_0_SILO j) && !s.isSafe && !s.standby
  leBytes 1 (b2n valid + 2 * b2n s.isSafe + 4 * b2n s.standby) ++ leBytes 2 (lookupD s.safe.streamSeq j 0) ++ leBytes 4 0 ++ leBytes 8 s.now

/-- The safety header of a frame of a stream is overwritten, at OFFSET of its MAC client data (R446). -/
def State.safetyEgress (s : State) (handle : Option Nat) (bs : List Byte) : List Byte × State :=
  match handle with
  | none => (bs, s)
  | some h =>
    match (List.range 16).find? (fun j => decide (s.fld 0 .SAFE_STREAM_0_EN j = 1) && decide (s.fld 0 .SAFE_STREAM_0_HANDLE j = h)) with
    | none => (bs, s)
    | some j =>
      (rewrite bs (frameType bs + 2 + s.fld 0 .SAFE_STREAM_1_OFFSET j + 1) (s.safetyHeader j),
       { s with safe.streamSeq := insertKV s.safe.streamSeq j ((lookupD s.safe.streamSeq j 0 + 1) % 65536) })

/-- Complete a transmit descriptor (R395): OWN clears; with a stamp, TS_VALID. -/
def State.doneDesc (s : State) (d a status : Nat) (stamp : Option (Nat × Nat)) : State :=
  let b := s.bytes a 32
  let t := stamp.getD (leAt b 14 1, leAt b 16 8)
  let flags := putBits (putBits (leAt b 10 1) 0 0 0) 3 3 (b2n stamp.isSome)
  s.store (s.cpuAgent d) a (slice b 0 10 ++ leBytes 1 flags ++ leBytes 1 status ++ slice b 12 2 ++ leBytes 1 t.1 ++ slice b 15 1 ++ leBytes 8 t.2 ++ slice b 24 8)

/-- The frames that wait for a descriptor's stamp no longer do: the first egress has taken it (R393, R395). -/
def State.dropDesc (s : State) (x : Nat × Nat) : State :=
  { s with eth.ports := s.eth.ports.map (fun e => (e.1, { e.2 with waiting := e.2.waiting.map (fun f => if f.desc = some x then { f with desc := none } else f) })) }

/-- ETH_FRAME_TX: a queued frame starts egress when the port is idle and its gate allows it to end before closing (R391, R393, R446). -/
def execEthFrameTx (d i : Nat) (s : State) : Out :=
  if ¬ s.hasDie d ∨ 6 ≤ i then .next s
  else if ¬ s.portUp d i ∨ s.now < (s.port d i).sendEnd then .next s
  else
    match s.nextFrame d i with
    | none => .next s
    | some (f, rest) =>
      let stamp := match ptpAt f.bytes with
        | some x =>
          let tb := s.ptpTb (beAt f.bytes (x + 4) 1)
          (tb, s.stampOn tb (toSigned 16 (s.fld d .ETH_PORT_LAT_LAT_OUT i)))
        | none => (0, s.stampOn 0 (toSigned 16 (s.fld d .ETH_PORT_LAT_LAT_OUT i)))
      let b1 := match ptpAt f.bytes with
        | some x => if f.oneStep ∧ beAt f.bytes x 1 % 16 = 0 then
            rewrite f.bytes (x + 34) (beBytes 6 (stamp.2 / 1000000000) ++ beBytes 4 (stamp.2 % 1000000000)) else f.bytes
        | none => f.bytes
      let r := s.safetyEgress f.handle b1
      let p := r.2.port d i
      let s1 := (r.2.setPort d i { p with waiting := rest, framesOut := p.framesOut + 1, sendEnd := r.2.now + r.2.frameNs d i r.1.length }).send (.eth d i r.1)
      .next (match f.desc with
        | some x => (s1.doneDesc x.1 x.2 0 (some stamp)).dropDesc x
        | none => s1)

/-- GCL_ENTRY_END: the interval of a port's current gate entry ends, and the next gate states apply; a list that waits takes effect at its first cycle
start at or after its base time (R391). -/
def execGclEntryEnd (d i : Nat) (s : State) : Out :=
  if ¬ s.hasDie d ∨ 7 ≤ i then .next s
  else
    let p := s.port d i
    let len (g : GateList) (k : Nat) : Nat := (g.slots.getD k (0, 0)).2
    match p.nextGates with
    | some g =>
      let t := s.tbNs g.tb
      if g.base ≤ t ∧ (p.gates.isNone ∨ (t - g.base) % g.cycle < len g 0) then
        .next (s.setPort d i { p with gates := some g, nextGates := none, entry := 0, entryEnd := g.base + (t - g.base) / g.cycle * g.cycle + len g 0 })
      else .next s
    | none =>
      match p.gates with
      | none => .next s
      | some g =>
        if s.tbNs g.tb < p.entryEnd then .next s
        else
          let k := if g.slots.length ≤ p.entry + 1 then 0 else p.entry + 1
          .next (s.setPort d i { p with entry := k, entryEnd := p.entryEnd + len g k })

/-- CPU_TX_DESCRIPTOR: the transmit descriptor in ring order is taken and its frame sent (R395). -/
def execCpuTxDescriptor (d ring : Nat) (s : State) : Out :=
  if ¬ s.hasDie d ∨ 16 ≤ ring then .next s
  else
    let a := s.ringDesc d ring true
    let b := s.bytes a 32
    let n := leAt b 6 2
    let flags := leAt b 10 1
    let r0 := s.portReach d a 32 false
    if ¬ r0.1 ∨ ¬ bit flags 0 then .next r0.2
    else
      let s1 := r0.2.ringStep d ring true
      let port := leAt b 8 1
      let cls := leAt b 9 1 % 8
      if 9212 < n then .next (s1.doneDesc d a 1 none)
      else if port ≠ 0xFF ∧ (¬ s.hasDie (port / 8) ∨ 6 ≤ port % 8) then .next (s1.doneDesc d a 2 none)
      else
        let rb := s1.portReach d (leAt b 0 6) n false
        if ¬ rb.1 then .next (rb.2.doneDesc d a 3 none)
        else
        let s1 := rb.2
        let raw := s.seen (leAt b 0 6) n
        let frame := raw ++ List.replicate (60 - n) 0#8
        let ports := if port = 0xFF then s1.egressPorts (8 * d + 6) frame else [port]
        let out := ports.filter (fun x => decide (x % 8 < 6) && s1.portUp (x / 8) (x % 8) && s1.slicePath d (x / 8))
        let full := decide (out ≠ []) && out.all (fun x => decide (0x200000 < s1.frameBuffer (x / 8) + frame.length + 4))
        let desc := if bit flags 1 then some (d, a) else none
        let s2 := s1.forward d (8 * d + 6) frame ports cls (bit flags 2) none desc
        if desc.isSome ∧ s2.eth.ports.any (fun e => e.2.waiting.any (fun f => decide (f.desc = desc))) then .next s2
        else .next (s2.doneDesc d a (if full then 4 else 0) none)

/-- FDB_ENTRY_AGEING: a learned entry reaches its ageing time and leaves every slice (R391). -/
def execFdbEntryAgeing (mac vlan : Nat) (s : State) : Out := .next { s with eth.fdb := eraseK s.eth.fdb (mac, vlan) }

/-- ETH_LINK_CHANGE (R413). -/
def execEthLinkChange (d i : Nat) (up : Bool) (speed : Nat) (s : State) : Out :=
  if ¬ s.hasDie d ∨ 6 ≤ i then .next s
  else if s.fld d .ETH_PORT_STATUS_LINK i = b2n up then .next s
  else
    let h := s.holder 0xB d i
    let s1 := s.setFlds d i [(.ETH_PORT_STATUS_LINK, b2n up), (.ETH_PORT_STATUS_SPEED, speed % 16)]
    .next (s1.raise .ethLink d h.toNat [(20, 1, 8 * d + i), (21, 1, b2n up), (22, 1, speed % 16)] [h])

/-- A port's configuration is written: the frame in transmission ends and counts as dropped (R416). -/
def State.portCut (s : State) (d i : Nat) : State :=
  let p := s.port d i
  if s.now < p.sendEnd then (s.setPort d i { p with sendEnd := s.now }).dropFrame d i 0 else s

/-- Writes of ETH_PORT_CFG and ETH_PORT_LAT; a port of another holder is left alone (R6, R416). -/
def wrEthCfg (m : Master) (d i data : Nat) (s : State) : State :=
  if s.otherHolds m 0xB d i then s
  else (s.portCut d i).setFlds d i [(.ETH_PORT_CFG_EN, bits data 31 31), (.ETH_PORT_CFG_AN, bits data 30 30), (.ETH_PORT_CFG_FEC, bits data 29 28),
    (.ETH_PORT_CFG_SPEED, bits data 27 24)]
def wrEthLat (m : Master) (d i data : Nat) (s : State) : State :=
  if s.otherHolds m 0xB d i then s
  else (s.portCut d i).setFlds d i [(.ETH_PORT_LAT_LAT_OUT, bits data 31 16), (.ETH_PORT_LAT_LAT_IN, bits data 15 0)]

/-- Modes that a port has (R390): KR at 25 Gb/s with any FEC and 10 Gb/s without RS-FEC; USXGMII at 10 Gb/s and below, without FEC or Clause 73. -/
def ethModeOk (i speed fec an : Nat) : Bool :=
  if i < 2 then decide (speed ≤ 1) && decide (fec ≤ 2) && decide (an ≤ 1) && !(decide (speed = 1) && decide (fec = 2))
  else decide (i < 6) && decide (1 ≤ speed) && decide (speed ≤ 5) && decide (fec = 0) && decide (an = 0)

/-- ETH_PORT_SET (R390, R414): the port is configured and enabled. -/
def execEthPortSet (r : Req) (d i speed fec an latIn latOut : Nat) (s : State) : Out :=
  .next (s.serve r 0x0B00 (some d) (fun s =>
    if ¬ s.hasDie d ∨ ¬ ethModeOk i speed fec an then reply s .badMessage
    else if s.holder 0xB d i ≠ r.dom then reply s .denied
    else reply ((s.portCut d i).setFlds d i [(.ETH_PORT_CFG_EN, 1), (.ETH_PORT_CFG_AN, an), (.ETH_PORT_CFG_FEC, fec), (.ETH_PORT_CFG_SPEED, speed),
      (.ETH_PORT_LAT_LAT_IN, ofSigned 16 (toSigned 8 latIn)), (.ETH_PORT_LAT_LAT_OUT, ofSigned 16 (toSigned 8 latOut))]) .ok))

/-- ETH_PORT_QUERY (R414). -/
def execEthPortQuery (r : Req) (d i : Nat) (s : State) : Out :=
  .next (s.serve r 0x0B01 (some d) (fun s =>
    if ¬ s.hasDie d ∨ 7 ≤ i then reply s .badMessage
    else
      let p := s.port d i
      reply s .ok (leBytes 4 (s.fld d .ETH_PORT_STATUS_LINK i * 2 ^ 31 + s.fld d .ETH_PORT_STATUS_SPEED i * 2 ^ 24) ++ leBytes 6 p.framesIn ++
        leBytes 6 p.framesOut ++ leBytes 6 (p.drops.foldl (fun a e => a + e.2) 0) ++ leBytes 6 p.fcs ++ leBytes 4 0)))

/-- Whether a sender may send the switch-wide messages (R414). -/
def State.switchSender (s : State) (r : Req) : Bool := s.manager r.dom

/-- TSN_GCL_SET (R391, R414): APPEND adds to the list that waits, or to the one in force. -/
def execTsnGclSet (r : Req) (port tb flags cycle base : Nat) (entries : List (Nat × Nat)) (s : State) : Out :=
  .next (s.serve r 0x0B02 (some (port / 8)) (fun s =>
    let d := port / 8
    let i := port % 8
    let p := s.port d i
    let old := match p.nextGates, p.gates with
      | some g, _ => g.entries
      | none, some g => g.entries
      | none, none => []
    let all := if bit flags 0 then old ++ entries else entries
    if ¬ s.hasDie d ∨ 7 ≤ i ∨ 8 ≤ tb ∨ 2 ≤ flags ∨ cycle < 1000 ∨ 4290000000 < cycle ∨ entries.any (fun e => decide (e.2 < 8) || decide (4290000000 < e.2) || decide (256 ≤ e.1)) ∨
        all = [] then reply s .badMessage
    else if ¬ s.switchSender r then reply s .denied
    else if 1024 < all.length then reply s .noResource
    else reply (s.setPort d i { p with nextGates := some ⟨tb, cycle, base, all⟩ }) .ok))

/-- Entries of the stream table with a function. -/
def State.streamsWith (s : State) (f : Nat) (but : Nat) : Nat := (s.eth.tsn.filter (fun e => decide (e.1 ≠ but) && bit e.2.funcs f)).length

/-- TSN_STREAM_SET (R391, R414). -/
def execTsnStreamSet (r : Req) (e : TsnStream) (s : State) : Out :=
  .next (s.serve r 0x0B03 none (fun s =>
    let count := (s.eth.tsn.filter (fun x => decide (x.1 ≠ e.handle))).length
    if 65536 ≤ e.handle ∨ 2 < e.idType ∨ 32 ≤ e.funcs ∨ e.ident.length ≠ 16 ∨ e.meter.length ≠ 8 ∨ 1 < e.algorithm ∨
        (bit e.funcs 4 ∧ e.algorithm = 0 ∧ (e.history < 2 ∨ 32 < e.history)) then reply s .badMessage
    else if ¬ s.switchSender r then reply s .denied
    else if 1024 ≤ count ∨ (bit e.funcs 1 ∧ 512 ≤ s.streamsWith 1 e.handle) ∨ (bit e.funcs 2 ∧ 512 ≤ s.streamsWith 2 e.handle) then reply s .noResource
    else reply { s with eth.tsn := insertKV s.eth.tsn e.handle e, eth.work := eraseK s.eth.work e.handle } .ok))

/-- PTP_DOMAIN_SET (R393, R414). -/
def execPtpDomainSet (r : Req) (entry number tb en : Nat) (s : State) : Out :=
  .next (s.serve r 0x0B04 none (fun s =>
    if 8 ≤ entry ∨ 256 ≤ number ∨ 8 ≤ tb ∨ 1 < en then reply s .badMessage
    else if ¬ s.switchSender r then reply s .denied
    else reply { s with eth.ptp := if en = 1 then insertKV s.eth.ptp entry (number, tb) else eraseK s.eth.ptp entry } .ok))

/-- ETH_TRAP_SET (R394, R414). -/
def execEthTrapSet (r : Req) (d entry ring mode ethertype mac maskBits : Nat) (s : State) : Out :=
  .next (s.serve r 0x0B05 (some d) (fun s =>
    if ¬ s.hasDie d ∨ 32 ≤ entry ∨ 16 ≤ ring ∨ 2 < mode ∨ 48 < maskBits then reply s .badMessage
    else if ¬ s.switchSender r then reply s .denied
    else reply { s with eth.traps := if mode = 0 then eraseK s.eth.traps (d, entry)
                                     else insertKV s.eth.traps (d, entry) ⟨ring, decide (mode = 2), ethertype, mac, maskBits⟩ } .ok))

/-- The safety message of a stream (R446): its template with the safety header of a part in the safe state, and the entry's cause behind it. -/
def State.safetyMessage (s : State) (j : Nat) (bs : List Byte) : List Byte :=
  let o := frameType bs + 2 + s.fld 0 .SAFE_STREAM_1_OFFSET j
  rewrite bs (o + 16) (leBytes 1 (s.fld 0 .SAFE_CAUSE_SOURCE) ++ leBytes 1 (s.fld 0 .SAFE_CAUSE_DIE) ++
    leBytes 1 (if s.fld 0 .SAFE_CAUSE_HAS_SILO = 1 then s.fld 0 .SAFE_CAUSE_SILO else 0xFF) ++ leBytes 1 0 ++ leBytes 8 (s.fld 0 .SAFE_TIME_TIME) ++ leBytes 4 0)

/-- The safety message goes out on every enabled safety stream with a template, through the CPU port of DIE_0 (R444, R446). -/
def State.sendSafety (s : State) : State :=
  (List.range 16).foldl (fun (t : State) j =>
    match (if t.fld 0 .SAFE_STREAM_0_EN j = 1 then lookup? t.safe.templates j else none) with
    | some bs =>
      let f := t.safetyMessage j bs
      (t.egressPorts 6 f).foldl (State.toPort 0 6 ⟨f, frameClass f, some (t.fld 0 .SAFE_STREAM_0_HANDLE j), false, none⟩ none) t
    | none => t) s

/-- SEC_CONFIRM (R443, R444, R446): SEC confirms the latch, channel 1 follows it, and a safety message that is owed is sent. -/
def execSecConfirm (s : State) : Out :=
  let s1 := ({ s with safe.chan1 := !s.isSafe } : State).setFld 0 .SAFE_STATUS_SEC_OK 0 1
  if s1.safe.msgDue then .next (({ s1.sendSafety with safe.msgDue := false } : State).setFld 0 .SAFE_STATUS_MSG_SENT 0 1) else .next s1

end Sys2Proof.Machine
end

