-- ==== Sys2Proof/Machine/Apintc.lean ====
section
/-!
DEFINITION. Machine/Apintc.lean: the registers of a die's APINTC (R127): the APLIC's machine-level and supervisor-level domains and the IMSIC files. The spec
names RISC-V AIA 1.0 and gives the places of the parts; the registers within them are PRESUMED from that standard (notes/assumptions/98).
-/
namespace Sys2Proof.Machine

/-- The 32-bit word with its bytes in the other order. -/
def swap32 (v : Nat) : Nat := leNat (leBytes 4 v).reverse

/-- Sources of an APLIC. -/
def aplicSources : Nat := 1023

/-- Whether a source is of a domain: in it, and active there. -/
def State.aplicIn (s : State) (d dom src : Nat) : Bool :=
  decide (1 ≤ src) && decide (src ≤ aplicSources) && decide (s.aplicDom d src = dom) && s.aplicActive d src

/-- Thirty-two bits of a set of sources. -/
def State.aplicBits (s : State) (d dom k : Nat) (set : List (Nat × Nat)) : Nat :=
  (List.range 32).foldl (fun a i => if s.aplicIn d dom (32 * k + i) ∧ (d, 32 * k + i) ∈ set then a + 2 ^ i else a) 0

/-- Sources set pending, or cleared. -/
def State.aplicPend (s : State) (d dom : Nat) (on : Bool) (srcs : List Nat) : State :=
  (srcs.filter (s.aplicIn d dom)).foldl (fun (t : State) n =>
    if on then t.pulse d n else { t with mail.aplic := t.mail.aplic.filter (fun x => decide (x ≠ (d, n))) }) s

/-- Sources enabled, or disabled. -/
def State.aplicEnable (s : State) (d dom : Nat) (on : Bool) (srcs : List Nat) : State :=
  (srcs.filter (s.aplicIn d dom)).foldl (fun (t : State) n =>
    if on then ({ t with irq.aplicOn := if (d, n) ∈ t.irq.aplicOn then t.irq.aplicOn else t.irq.aplicOn ++ [(d, n)] } : State).aplicForward (d, n)
    else { t with irq.aplicOn := t.irq.aplicOn.filter (fun x => decide (x ≠ (d, n))) }) s

/-- The sources that a written word names, by its bits. -/
def aplicSet (k v : Nat) : List Nat := ((List.range 32).filter (bit v)).map (32 * k + ·)

/-- Keep a register of a domain. -/
def State.setAplicReg (s : State) (d dom o v : Nat) : State := { s with irq.aplicRegs := insertKV s.irq.aplicRegs (d, dom, o) v }

/-- A source configuration: delegation at machine level (bit 10, the one child), else a source mode; a mode of 2 or 3 is reserved and becomes 0. A source that is no longer active
loses its enable and its target. -/
def State.setSourceCfg (s : State) (d dom src v : Nat) : State :=
  if dom = 1 ∧ s.aplicDom d src = 0 then s
  else
    let mode := if v % 8 = 2 ∨ v % 8 = 3 then 0 else v % 8
    let s1 := s.setAplicReg d dom (4 * src) (if bit v 10 then (if dom = 0 then 0x400 else 0) else mode)
    if s1.aplicActive d src then s1
    else ({ s1 with irq.aplicOn := s1.irq.aplicOn.filter (fun x => decide (x ≠ (d, src))) } : State).setAplicReg d dom (0x3000 + 4 * src) 0

/-- A write of a register of an APLIC domain. The APLIC delivers MSIs alone, little-endian; where they go is fixed, so the address registers are locked. -/
def State.aplicWrite (s : State) (d dom o v : Nat) : State :=
  let all := (List.range aplicSources).map (fun n => (d, n + 1))
  if o = 0 then all.foldl State.aplicForward (s.setAplicReg d dom 0 (if bit v 8 then 0x100 else 0))
  else if o < 0x1000 then s.setSourceCfg d dom (o / 4) v
  else if 0x1C00 ≤ o ∧ o < 0x1C80 then s.aplicPend d dom true (aplicSet ((o - 0x1C00) / 4) v)
  else if o = 0x1CDC ∨ o = 0x2000 then s.aplicPend d dom true [v]
  else if o = 0x2004 then s.aplicPend d dom true [swap32 v]
  else if 0x1D00 ≤ o ∧ o < 0x1D80 then s.aplicPend d dom false (aplicSet ((o - 0x1D00) / 4) v)
  else if o = 0x1DDC then s.aplicPend d dom false [v]
  else if 0x1E00 ≤ o ∧ o < 0x1E80 then s.aplicEnable d dom true (aplicSet ((o - 0x1E00) / 4) v)
  else if o = 0x1EDC then s.aplicEnable d dom true [v]
  else if 0x1F00 ≤ o ∧ o < 0x1F80 then s.aplicEnable d dom false (aplicSet ((o - 0x1F00) / 4) v)
  else if o = 0x1FDC then s.aplicEnable d dom false [v]
  else if o = 0x3000 then s.aplicMsi dom (v / 2 ^ 18) 0 (v % 2 ^ 11)
  else if 0x3000 < o ∧ s.aplicIn d dom ((o - 0x3000) / 4) then s.setAplicReg d dom o (v / 2 ^ 18 * 2 ^ 18 + (if dom = 0 then 0 else v / 2 ^ 12 % 64) * 2 ^ 12 + v % 2 ^ 11)
  else s

/-- What a register of an APLIC domain reads as. -/
def State.aplicRead (s : State) (d dom o : Nat) : Nat :=
  if o = 0 then 0x80000004 + s.aplicReg d dom 0
  else if o < 0x1000 then (if dom = 1 ∧ s.aplicDom d (o / 4) = 0 then 0 else s.aplicReg d dom o)
  else if o = 0x1BC4 ∧ dom = 0 then 0x80000000
  else if 0x1C00 ≤ o ∧ o < 0x1C80 then s.aplicBits d dom ((o - 0x1C00) / 4) s.mail.aplic
  else if 0x1E00 ≤ o ∧ o < 0x1E80 then s.aplicBits d dom ((o - 0x1E00) / 4) s.irq.aplicOn
  else if 0x3000 < o then s.aplicReg d dom o
  else 0

/-- The domain of an offset in APINTC that lies in the APLIC, with the offset in the domain (R127). -/
def aplicAt (o : Nat) : Option (Nat × Nat) :=
  if o < 0x4000 then some (0, o) else if 0x8000 ≤ o ∧ o < 0xC000 then some (1, o - 0x8000) else none

/-- A write to APINTC at an offset; none where nothing lies there. An IMSIC file takes identities at its first word, and byte-swapped at its second. -/
def State.apintcWrite (s : State) (d o v : Nat) : Option State :=
  match aplicAt o with
  | some (dom, x) => some (s.aplicWrite d dom x v)
  | none =>
    let file := windowBase d + 0x900000 + o / 0x1000 * 0x1000
    if inImsic s.part.dies file then
      some (if o % 0x1000 = 0 then s.imsicPend file v else if o % 0x1000 = 4 then s.imsicPend file (swap32 v) else s)
    else none

/-- A read of APINTC; the page of an IMSIC file reads zero. -/
def State.apintcRead (s : State) (d o : Nat) : Option Nat :=
  match aplicAt o with
  | some (dom, x) => some (s.aplicRead d dom x)
  | none => if inImsic s.part.dies (windowBase d + 0x900000 + o / 0x1000 * 0x1000) then some 0 else none

end Sys2Proof.Machine
end

