-- ==== Sys2Proof/Machine/Odo.lean ====
section
/-!
DEFINITION. Machine/Odo.lean: odometry (R360 to R368): encoder edges, Z edges, tachometers, the 1 ms window with slip and standstill, the distance
counter and its triggers (R381), and the ODO messages.
-/
namespace Sys2Proof.Machine

/-- An encoder channel that nothing has moved. -/
def OdoState.empty : OdoState := ⟨false, false, 0, none, 0, 0, 0, 0⟩
def State.odoOf (s : State) (n : Nat) : OdoState := lookupD s.odo n OdoState.empty
def State.setOdo (s : State) (n : Nat) (o : OdoState) : State := { s with odo := insertKV s.odo n o }

/-- The distance counter of a channel (R361). -/
def State.dist (s : State) (n : Nat) : Int := toSigned 64 (s.fld 0 .ODO_DIST_DIST n)

/-- Points v ≡ phase (mod D) with a < v ≤ b. -/
def pointsIn (phase period a b : Int) : Nat := ((b - phase) / period - (a - phase) / period).toNat

/-- A distance trigger judges a change of DIST (R381): one fire, and MISSED for the other points passed. -/
def State.trgDistance (a b : Int) (s : State) (n : Nat) : State :=
  let period : Int := s.fld 0 .TRG_PERIOD_PERIOD n
  let phase : Int := s.fld 0 .TRG_START_START n % 2 ^ 32
  let last := lookupD s.time.last n a
  let dir := s.fld 0 .TRG_CFG_DIR n
  if period = 0 then s
  else
    let up := pointsIn phase period (if dir = 2 then a else max a last) b
    let down := pointsIn phase period (b - 1) (if dir = 2 then a - 1 else min a last - 1)
    let k := if a < b ∧ dir ≠ 1 then up else if b < a ∧ dir ≠ 0 then down else 0
    let point := if a < b then b - (b - phase) % period else b + (phase - b) % period
    if k = 0 then s else ({ s.fire n with time.last := insertKV (s.fire n).time.last n point }).missed n (k - 1)

/-- DIST of a channel moves by some counts (R361, R381). -/
def State.distMove (s : State) (ch : Nat) (delta : Int) : State :=
  if delta = 0 then s
  else
    let a := s.dist ch
    let s1 := s.setFld 0 .ODO_DIST_DIST ch (ofSigned 64 (a + delta))
    ((List.range 32).filter (fun n => decide (s.fld 0 .TRG_CFG_MODE n = 3) && decide (s.fld 0 .TRG_CFG_SRC n % 4 = ch))).foldl (State.trgDistance a (a + delta)) s1

/-- DIST is preset (R364, R381): the last point of each trigger of the channel becomes the new DIST. -/
def State.distPreset (s : State) (ch v : Nat) : State :=
  let s1 := (s.setFld 0 .ODO_DIST_DIST ch v).setOdo ch { s.odoOf ch with fraction := 0 }
  ((List.range 32).filter (fun n => decide (s.fld 0 .TRG_CFG_MODE n = 3) && decide (s.fld 0 .TRG_CFG_SRC n % 4 = ch))).foldl
    (fun (t : State) n => { t with time.last := insertKV t.time.last n (toSigned 64 v) }) s1

/-- Holders of the streams whose ODO field names a channel (R365). -/
def State.odoDoms (s : State) (ch : Nat) : List Dom :=
  (s.pins.claims.filter (fun e => decide (e.1.1 = 4) && decide (s.fld e.1.2.1 .STR_CFG_ODO e.1.2.2 = ch))).map (fun e => e.2.1)

/-- The Class S silos that bind an encoder channel (R451). -/
def State.odoBinding (s : State) (ch : Nat) : List (Nat × Nat) :=
  (s.dieList.map (fun d => ((s.classSSilos d).filter (fun k => bit (s.fld d .SAFE_SILO_CFG_ODO k) ch)).map (fun k => (d, k)))).flatten

/-- Raise an odometry event (R365); on a bound channel it acts as safety source 14 (R448, R451). -/
def State.odoEvent (s : State) (e : Ev) (ch : Nat) : State :=
  let h := s.holder 6 0 ch
  let s1 := s.raise e 0 h.toNat [(20, 1, ch), (24, 8, s.fld 0 .ODO_DIST_DIST ch)] (h :: s.odoDoms ch)
  let silos := s1.odoBinding ch
  if silos = [] then s1 else s1.source { src := 14, die := 0 } silos

/-- FAULT of a channel sets, and EV_ODO_FAULT is raised (R360, R361). -/
def State.odoFault (s : State) (ch : Nat) : State :=
  (s.setFld 0 .ODO_STATUS_FAULT 0 (setBit (s.fld 0 .ODO_STATUS_FAULT) ch)).odoEvent .odoFault ch

/-- Whether a channel's DIST follows the reference in place of the counts (R363). -/
def State.fallback (s : State) (ch : Nat) : Bool := bit (s.fld 0 .ODO_STATUS_SLIP) ch && decide (s.fld 0 .ODO_CFG_FALLBACK ch = 1)

/-- The direction of an accepted step from levels (a, b) to (x, y): A leads B upward (R360). -/
def quadStep (a b x y : Bool) : Int := if a ≠ x then (if x ≠ b then 1 else -1) else if b ≠ y then (if y = a then 1 else -1) else 0

/-- ODO_EDGE_ACCEPT: the accepted levels of A and B of a channel (R360, R361). -/
def execOdoEdgeAccept (ch : Nat) (x y : Bool) (s : State) : Out :=
  if 4 ≤ ch then .next s
  else
    let o := s.odoOf ch
    let s1 := ((s.setPad 0 (352 + 3 * ch) x).setPad 0 (353 + 3 * ch) y).setOdo ch { o with levelA := x, levelB := y }
    if s.fld 0 .ODO_CFG_EN ch = 0 then .next s1
    else if o.levelA ≠ x ∧ o.levelB ≠ y then .next ((s1.addSat 0 .ODO_ERR_COUNT ch 1).odoFault ch)
    else
      let q := quadStep o.levelA o.levelB x y
      let k := if s.fld 0 .ODO_CFG_INVERT ch = 1 then -q else q
      let s2 := s1.setFld 0 .ODO_COUNT_COUNT ch (ofSigned 64 (toSigned 64 (s1.fld 0 .ODO_COUNT_COUNT ch) + k))
      .next (if s2.fallback ch then s2 else s2.distMove ch k)

/-- ODO_Z_EDGE: an accepted rising edge of Z (R361). -/
def execOdoZEdge (ch : Nat) (s : State) : Out :=
  if 4 ≤ ch then .next s
  else if s.fld 0 .ODO_CFG_EN ch = 0 then .next s
  else
    let o := s.odoOf ch
    let count := s.fld 0 .ODO_COUNT_COUNT ch
    let s1 := (s.setFld 0 .ODO_ZCOUNT_DIST ch (s.fld 0 .ODO_DIST_DIST ch)).setFld 0 .ODO_STATUS_ZSEEN 0 (setBit (s.fld 0 .ODO_STATUS_ZSEEN) ch)
    let s2 := s1.setOdo ch { o with zCount := some count }
    let cpr : Int := s.fld 0 .ODO_CFG_CPR ch
    match o.zCount with
    | some c => .next (if cpr ≠ 0 ∧ 4 < (((sdiff 64 count c).natAbs : Int) - cpr).natAbs then s2.odoFault ch else s2)
    | none => .next s2

/-- TACH_EDGE: an accepted rising edge, some TREF_PLL cycles after the last one (R362). -/
def execTachEdge (m cycles : Nat) (s : State) : Out :=
  if 4 ≤ m then .next s
  else if s.fld 0 .TACH_CFG_EN m = 0 then .next s
  else
    let s1 : State := { s with tachPulses := insertKV s.tachPulses m (lookupD s.tachPulses m 0 + 1) }
    if m ∈ s.tachSeen then .next (s1.setFld 0 .TACH_PERIOD_CYCLES m (min cycles 0xFFFFFFFF))
    else .next { s1 with tachSeen := s1.tachSeen ++ [m] }

/-- The reference speed of a channel in this window, in 1/65,536 counts: the change of REF times RATIO (R362, R363). -/
def State.reference (s : State) (ch : Nat) (speeds : List Int) : Int :=
  let ref := s.fld 0 .ODO_CFG_REF ch
  let change : Int := if ref < 4 then speeds.getD ref 0
    else if speeds.getD ch 0 < 0 then -(s.fld 0 .TACH_PULSES_COUNT (ref - 4) : Int) else s.fld 0 .TACH_PULSES_COUNT (ref - 4)
  change * s.fld 0 .ODO_RATIO_RATIO ch

/-- The window of one channel ends: SPEED, the fallback's share of DIST, slip and standstill (R361, R363). -/
def State.odoWindow (speeds : List Int) (s : State) (ch : Nat) : State :=
  let o := s.odoOf ch
  let speed := speeds.getD ch 0
  let s0 := s.setFld 0 .ODO_SPEED_SPEED ch (ofSigned 32 speed)
  if s.fld 0 .ODO_CFG_EN ch = 0 then s0.setOdo ch { o with windowCount := s.fld 0 .ODO_COUNT_COUNT ch }
  else
    let r := s.reference ch speeds
    let win := s.fld 0 .ODO_SLIP_WIN ch
    let slip := bit (s.fld 0 .ODO_STATUS_SLIP) ch
    let apart := decide ((s.fld 0 .ODO_SLIP_TOL ch : Int) * max (r.natAbs : Int) (16 * 65536) < 256 * ((speed * 65536 - r).natAbs : Int))
    let disagree := if apart ∧ win ≠ 0 then o.disagree + 1 else 0
    let agree := if apart then 0 else o.agree + 1
    let total : Int := o.fraction + r
    let still := if speed.natAbs ≤ s.fld 0 .ODO_SLIP_STILL_MAX ch then min 100 (o.still + 1) else 0
    let declare := decide (win ≠ 0) && !slip && decide (win ≤ disagree)
    let clear := slip && (decide (win = 0) || decide (win ≤ agree))
    let s1 := s0.setOdo ch { o with windowCount := s.fld 0 .ODO_COUNT_COUNT ch, disagree := disagree, agree := agree, still := still,
                                    fraction := if s.fallback ch then (total % 65536).toNat else 0 }
    let s2 := if s.fallback ch then s1.distMove ch (total / 65536) else s1
    let s3 := s2.setFlds 0 0 [(.ODO_STATUS_STILL, putBits (s2.fld 0 .ODO_STATUS_STILL) ch ch (b2n (decide (still = 100)))),
      (.ODO_STATUS_SLIP, putBits (s2.fld 0 .ODO_STATUS_SLIP) ch ch (b2n ((slip || declare) && !clear)))]
    if declare then s3.odoEvent .odoSlip ch else s3

/-- ODO_WINDOW_END: a 1 ms window of every channel and tachometer ends (R361 to R363). -/
def execOdoWindowEnd (s : State) : Out :=
  let speeds := (List.range 4).map (fun ch => sdiff 64 (s.fld 0 .ODO_COUNT_COUNT ch) (s.odoOf ch).windowCount)
  let s1 := (List.range 4).foldl (fun (t : State) m => t.setFld 0 .TACH_PULSES_COUNT m (lookupD t.tachPulses m 0)) s
  .next ((List.range 4).foldl (State.odoWindow speeds) { s1 with tachPulses := [] })

/-- Whether a DEB is in range (R360). -/
def debOk (n : Nat) : Bool := decide (10 ≤ n) && decide (n ≤ 1000)

/-- Whether an ODO_n_CFG image is in range (R360, R363): DEB 10 to 1,000, and REF names another encoder. -/
def odoCfgOk (ch v : Nat) : Bool := debOk (bits v 25 16) && decide (bits v 28 26 ≠ ch)

/-- An ODO_n_CFG image with the value that REF or DEB has in place of one that is ignored (R360, R363). -/
def State.odoKeep (s : State) (ch v : Nat) : Nat :=
  let w := if debOk (bits v 25 16) then v else putBits v 25 16 (s.fld 0 .ODO_CFG_DEB ch)
  if bits v 28 26 = ch then putBits w 28 26 (s.fld 0 .ODO_CFG_REF ch) else w

/-- The fields of ODO_n_CFG and ODO_n_SLIP. -/
def State.odoCfgSet (s : State) (ch v : Nat) : State :=
  s.setFlds 0 ch [(.ODO_CFG_EN, bits v 31 31), (.ODO_CFG_INVERT, bits v 30 30), (.ODO_CFG_FALLBACK, bits v 29 29), (.ODO_CFG_REF, bits v 28 26),
    (.ODO_CFG_DEB, bits v 25 16), (.ODO_CFG_CPR, bits v 15 0)]
def State.odoSlipSet (s : State) (ch v : Nat) : State :=
  s.setFlds 0 ch [(.ODO_SLIP_STILL_MAX, bits v 31 16), (.ODO_SLIP_TOL, bits v 15 8), (.ODO_SLIP_WIN, bits v 7 0)]

/-- A write to a register of an encoder channel: guarded, and ignored when another domain holds the channel (R6, R105, R368). The ODO block has no
CONFLICT bit. -/
def State.odoWrite (s : State) (m : Master) (ch off : Nat) (eff : State → State) : State :=
  s.guarded m 0 .ODO off (fun t => if t.otherHolds m 6 0 ch then t else eff t)

/-- Writes of ODO_n_CFG, _SLIP, _RATIO, _DIST_LO and _DIST_HI (R363, R364, R368). -/
def wrOdoCfg (m : Master) (ch data : Nat) (s : State) : State :=
  s.odoWrite m ch (0x100 + 0x40 * ch) (fun t =>
    let u := t.odoCfgSet ch (t.odoKeep ch data)
    if odoCfgOk ch data then u else u.flag 0 .ODO_STATUS_BADCFG)
def wrOdoSlip (m : Master) (ch data : Nat) (s : State) : State := s.odoWrite m ch (0x104 + 0x40 * ch) (fun t => t.odoSlipSet ch data)
def wrOdoRatio (m : Master) (ch data : Nat) (s : State) : State := s.odoWrite m ch (0x108 + 0x40 * ch) (fun t => t.setFld 0 .ODO_RATIO_RATIO ch data)
def wrOdoDistLo (m : Master) (ch data : Nat) (s : State) : State := s.odoWrite m ch (0x118 + 0x40 * ch) (fun t => t.holdLow 0 .ODO_DIST_LO ch data)
def wrOdoDistHi (m : Master) (ch data : Nat) (s : State) : State :=
  s.odoWrite m ch (0x11C + 0x40 * ch) (fun t =>
    (t.distPreset ch (t.pairLow 0 .ODO_DIST_LO ch (t.fld 0 .ODO_DIST_DIST ch) + data * 2 ^ 32)).dropLow 0 .ODO_DIST_LO ch)

/-- A tachometer's CFG (R360, R368): a disabled one forgets its last edge. -/
def State.tachSet (s : State) (k v : Nat) : State :=
  let s1 := s.setFlds 0 k [(.TACH_CFG_EN, bits v 31 31), (.TACH_CFG_DEB, bits v 9 0)]
  if bits v 31 31 = 0 then { s1 with tachSeen := s1.tachSeen.filter (fun x => decide (x ≠ k)) } else s1
def wrTachCfg (m : Master) (k data : Nat) (s : State) : State :=
  if s.otherHolds m 7 0 k then s
  else if debOk (bits data 9 0) then s.tachSet k data
  else (s.tachSet k (putBits data 9 0 (s.fld 0 .TACH_CFG_DEB k))).flag 0 .ODO_STATUS_BADCFG

/-- ODO_DIST_WRITE: a write of ODO_n_DIST_HI (R364). -/
def execOdoDistWrite (m : Master) (ch : Nat) (data : Word) (s : State) : Out :=
  if ch < 4 then .next (s.regWrite m 0 .ODO (0x11C + 0x40 * ch) data (wrOdoDistHi m ch data.toNat)) else .next s

/-- ODO_SET (R363, R366). -/
def execOdoSet (r : Req) (ch : Nat) (cfg slip ratio : Word) (s : State) : Out :=
  .next (s.serve r 0x0410 none (fun s =>
    if 4 ≤ ch ∨ ¬ odoCfgOk ch cfg.toNat then reply s .badMessage
    else if s.holder 6 0 ch ≠ r.dom then reply s .denied
    else reply (((s.odoCfgSet ch cfg.toNat).odoSlipSet ch slip.toNat).setFld 0 .ODO_RATIO_RATIO ch ratio.toNat) .ok))

/-- ODO_PRESET (R364, R366). -/
def execOdoPreset (r : Req) (ch : Nat) (dist : BitVec 64) (s : State) : Out :=
  .next (s.serve r 0x0411 none (fun s =>
    if 4 ≤ ch then reply s .badMessage
    else if s.holder 6 0 ch ≠ r.dom then reply s .denied
    else reply (s.distPreset ch dist.toNat) .ok))

/-- Images of ODO_n_CFG, ODO_n_SLIP and ODO_STATUS (R368). -/
def State.odoCfgImage (s : State) (ch : Nat) : Nat :=
  s.fld 0 .ODO_CFG_EN ch * 2 ^ 31 + s.fld 0 .ODO_CFG_INVERT ch * 2 ^ 30 + s.fld 0 .ODO_CFG_FALLBACK ch * 2 ^ 29 + s.fld 0 .ODO_CFG_REF ch * 2 ^ 26 +
  s.fld 0 .ODO_CFG_DEB ch * 2 ^ 16 + s.fld 0 .ODO_CFG_CPR ch
def State.odoSlipImage (s : State) (ch : Nat) : Nat :=
  s.fld 0 .ODO_SLIP_STILL_MAX ch * 2 ^ 16 + s.fld 0 .ODO_SLIP_TOL ch * 2 ^ 8 + s.fld 0 .ODO_SLIP_WIN ch
def State.odoStatusImage (s : State) : Nat :=
  b2n (s.blkBusy 0 .odo) * 2 ^ 31 + s.fld 0 .ODO_STATUS_BADCFG * 2 ^ 16 + s.fld 0 .ODO_STATUS_STILL * 2 ^ 12 + s.fld 0 .ODO_STATUS_SLIP * 2 ^ 8 +
  s.fld 0 .ODO_STATUS_FAULT * 2 ^ 4 + s.fld 0 .ODO_STATUS_ZSEEN

/-- ODO_QUERY (R366): the images, with nothing cleared. -/
def execOdoQuery (r : Req) (ch : Nat) (s : State) : Out :=
  .next (s.serve r 0x0412 none (fun s =>
    if 4 ≤ ch then reply s .badMessage
    else reply s .ok (leBytes 4 (s.odoCfgImage ch) ++ leBytes 4 (s.odoSlipImage ch) ++ leBytes 4 (s.fld 0 .ODO_RATIO_RATIO ch) ++
      leBytes 4 (s.fld 0 .ODO_SPEED_SPEED ch) ++ leBytes 8 (s.fld 0 .ODO_COUNT_COUNT ch) ++ leBytes 8 (s.fld 0 .ODO_DIST_DIST ch) ++
      leBytes 8 (s.fld 0 .ODO_ZCOUNT_DIST ch) ++ leBytes 4 (s.fld 0 .ODO_ERR_COUNT ch) ++ leBytes 4 s.odoStatusImage)))

/-- TACH_SET (R366). -/
def execTachSet (r : Req) (k : Nat) (cfg : Word) (s : State) : Out :=
  .next (s.serve r 0x0413 none (fun s =>
    if 4 ≤ k ∨ ¬ debOk (bits cfg.toNat 9 0) then reply s .badMessage
    else if s.holder 7 0 k ≠ r.dom then reply s .denied
    else reply (s.tachSet k cfg.toNat) .ok))

end Sys2Proof.Machine
end

