-- ==== Sys2Proof/Machine/Safety.lean ====
section
/-!
DEFINITION. Machine/Safety.lean: the rows of the safe state, its configuration, silence, the Gleaner and the rotating tests of checkers (R442 to R466).
-/
namespace Sys2Proof.Machine

/-- SEC_CONFIRM_LAPSE (R443): channel 1 falls and source 12 acts. -/
def execSecConfirmLapse (s : State) : Out :=
  if s.fld 0 .SAFE_STATUS_SEC_OK = 0 then .next s
  else .next (({ s with safe.chan1 := false } : State).setFld 0 .SAFE_STATUS_SEC_OK 0 0 |>.source { src := 12, die := 0 } [])

/-- SILENCE_TIMEOUT (R450): no final commit of the silo's sheaves for FTTI − 2 ms while ARM is 1. -/
def execSilenceTimeout (d k : Nat) (s : State) : Out :=
  if ¬ s.hasDie d ∨ 16 ≤ k then .next s
  else
    let since := max s.safe.armTime (s.silo d k).lastFinal
    if s.fld 0 .SAFE_CTRL_ARM = 1 ∧ s.fld d .SAFE_SILO_CFG_EN k = 1 ∧ k ∈ s.classSSilos d ∧ (d, k) ∉ s.safe.silent ∧
        (s.fld 0 .SAFE_CTRL_FTTI_MS - 2) * 1000000 ≤ s.now - since then
      .next (({ s with safe.silent := s.safe.silent ++ [(d, k)] } : State).source { src := 5, die := d, silo := some k } [(d, k)])
    else .next s

/-- A clear of the safe state (R447): its refusal, or none with the state after it, where a silo that is still silent may be detected again. `sameCycle` is a source that acts in the same FAB_CLK cycle. -/
def State.safeClear (s : State) (sameCycle : Option Nat) : Option Status × State :=
  match sameCycle with
  | some src => (some .busy, s.safeEnter { src := src, die := 0 })
  | none =>
    if ¬ s.isSafe then (none, s)
    else if s.now < s.fld 0 .SAFE_TIME_TIME + 2000000 then (some .busy, s)
    else if s.dieList.any (fun d => decide (s.fld d .CHKROT_FAILED_ORDER ≠ 0)) then (some .safetyLocked, s)
    else
      let s1 := ({ s with safe.silent := [], safe.chan1 := decide (s.fld 0 .SAFE_STATUS_SEC_OK = 1) } : State).setFld 0 .SAFE_STATUS_SAFE 0 0
      let s2 := s1.dieList.foldl (fun t d => (List.range 16).foldl (fun u k => u.setFld d .SAFE_SILO_STAT_INVALID_RUN k 0) t) s1
      let silo := match s.safe.entry with
        | some (_, _, some k) => k
        | _ => 0xFF
      (none, s2.raise .safeState 0 0xFF00 [(20, 1, 0), (21, 1, s.fld 0 .SAFE_CAUSE_SOURCE), (22, 1, s.fld 0 .SAFE_CAUSE_DIE), (23, 1, silo),
        (24, 4, 0xFFFFFFFF), (28, 4, 0xFFFFFFFF)] s2.safetyDoms)

/-- ARM takes a value (R443, R450): silence is judged from then on. ARM written as 1 configures the SAFE_OUT pins anew after a release (R32, R42; the model's
choice of what configures them, notes/assumptions/77). -/
def State.setArm (s : State) (v : Nat) : State :=
  let s1 := s.setFld 0 .SAFE_CTRL_ARM 0 v
  let s2 := if v = 1 then { s1 with pins.released := [] } else s1
  if v = 1 ∧ s.fld 0 .SAFE_CTRL_ARM = 0 then { s2 with safe.armTime := s.now, safe.silent := [] } else s2

/-- A write of SAFE_CTRL (R6, R447, R464): ARM by another domain than the holder of the SAFE_OUT pins is ignored; FTTI_MS out of range, or while ARM is 1, is
ignored with BADCFG; CLEAR clears. Writes on other dies are ignored. -/
def wrSafeCtrl (m : Master) (d data : Nat) (sameCycle : Option Nat) (s : State) : State :=
  if d ≠ 0 then s
  else
    let arm := bits data 31 31
    let ftti := bits data 25 16
    let armed := s.fld 0 .SAFE_CTRL_ARM = 1
    let s1 := if ftti = s.fld 0 .SAFE_CTRL_FTTI_MS then s
      else if armed ∨ ftti < 20 ∨ 500 < ftti then s.flag 0 .SAFE_STATUS_BADCFG else s.setFld 0 .SAFE_CTRL_FTTI_MS 0 ftti
    let s2 := if arm = s.fld 0 .SAFE_CTRL_ARM then s1
      else if s.otherHolds m 1 0 372 ∨ s.otherHolds m 1 0 374 then s1.flag 0 .SCH_STATUS_CONFLICT else s1.setArm arm
    if bits data 30 30 = 1 then (s2.safeClear sameCycle).2 else s2

/-- SAFE_CTRL_ARM_WRITE. -/
def execSafeCtrlArmWrite (m : Master) (d : Nat) (data : Word) (s : State) : Out :=
  .next (s.regWrite m d .SCH 0x90010 data (fun s => s.guarded m d .SCH 0x90010 (wrSafeCtrl m d data.toNat none)))

/-- SAFE_CTRL_CLEAR_WRITE. -/
def execSafeCtrlClearWrite (m : Master) (d : Nat) (data : Word) (sameCycle : Option Nat) (s : State) : Out :=
  .next (s.regWrite m d .SCH 0x90010 data (fun s => s.guarded m d .SCH 0x90010 (wrSafeCtrl m d data.toNat sameCycle)))

/-- A write of SAFE_REACT (R448, R464): a field below its minimum, or 3, becomes the minimum. -/
def wrSafeReact (d data : Nat) (s : State) : State :=
  if d ≠ 0 then s
  else
    let v := reactRaise data
    (if v = data then s else s.flag 0 .SAFE_STATUS_BADCFG).setFld 0 .SAFE_REACT_ACT 0 v

/-- SAFE_REACT_WRITE. -/
def execSafeReactWrite (m : Master) (d : Nat) (data : Word) (s : State) : Out :=
  .next (s.regWrite m d .SCH 0x90014 data (fun s => s.guarded m d .SCH 0x90014 (wrSafeReact d data.toNat)))

/-- SAFE_SILO_s_CFG and SAFE_SILO_s_STR (R6, R465): refused for a silo that is not of Class S. -/
def wrSafeSilo (m : Master) (d k : Nat) (fs : List (Fld × Nat)) (s : State) : State :=
  if s.otherHolds m 2 d k then s.flag d .SCH_STATUS_CONFLICT
  else if s.holder 2 d k = noDom ∨ s.claimClass 2 d k ≠ 0 then s.flag 0 .SAFE_STATUS_BADCFG
  else s.setFlds d k fs

/-- Whether a Class S sheaf of a silo that holds a core is ready, placed or falls due within 322 µs (R455). -/
def State.classSNear (s : State) (d c : Nat) : Bool :=
  s.q.queues.any (fun e => decide (e.1 / 65536 = d) && e.2.flight.any (fun h => decide (h.cls = 0) && !h.done && bit (s.fld d .SILO_MASK_MASK h.silo) c &&
    (h.ready.isSome || (match h.waitKind with
      | 4 => decide (h.waitValue ≤ s.tbNs h.waitArg + 322000)
      | 1 => (match lookup? s.time.next h.waitArg with
        | some t => decide (t + (h.waitValue - s.fld 0 .TRG_COUNT_COUNT h.waitArg - 1) * s.fld 0 .TRG_PERIOD_PERIOD h.waitArg ≤ s.tbNs (s.fld 0 .TRG_CFG_SRC h.waitArg) + 322000)
        | none => false)
      | _ => false))))

/-- Nanoseconds of a core's coverage period that have passed (R454). -/
def State.coverageAge (s : State) (d c : Nat) : Nat := s.now - lookupD s.safe.period (d, c) 0

/-- The commands on a core. -/
def State.onCore (s : State) (d c : Nat) : List (SlotRef × Placed) :=
  (s.slotsOf d).filter (fun e => match e.1 with
    | .core x _ => decide (x = c)
    | .raster _ => false)

/-- Whether the Gleaner may start a test on a core (R455). -/
def State.testable (s : State) (d c : Nat) : Bool :=
  !bit (s.fld d .COMMIT_OUT_CORES) c &&
  !s.q.mismatches.any (fun m => decide (m.die = d) && (decide (coreOf m.main = c) || decide (coreOf m.checker = c))) &&
  !(List.range 16).any (fun k => decide (s.fld d .SILO_STAT_RESERVE k = 1) && bit (s.fld d .SILO_MASK_MASK k) c) && !s.classSNear d c &&
  ((s.onCore d c).isEmpty || (decide (40000000 < s.coverageAge d c) && (s.onCore d c).all (fun e => descKillable e.2.desc && decide (3 ≤ e.2.cls))))

/-- GLEANER_TEST_START (R454, R455): the core of the cluster with the least coverage time left is taken, then the lowest. -/
def execGleanerTestStart (d cl : Nat) (s : State) : Out :=
  if ¬ s.hasDie d ∨ 6 ≤ cl then .next s
  else
    let cores := rangeFrom (8 * cl) 8
    if s.fld d .GLN_CTRL_EN cl = 0 ∨ ¬ s.fwRuns d ∨ (d, 4 + cl) ∈ s.boot.down ∨ s.tripped d ∨ cores.any (fun c => decide (s.fld d .GLN_CORE_TESTING c = 1)) then .next s
    else
      match sortBy (fun a b => decide (s.coverageAge d b ≤ s.coverageAge d a)) (cores.filter (s.testable d)) with
      | [] => .next s
      | c :: _ =>
        let s1 := (s.onCore d c).foldl (fun (t : State) e => t.kill d e.1 true) s
        .next ((s1.flag d .GLN_CORE_TESTING c).setFld d .GLN_CTRL_TESTING cl (c % 8))

/-- GLEANER_TEST_END (R457, R458): `failing` holds a bit for each failing unit. -/
def execGleanerTestEnd (d c failing : Nat) (s : State) : Out :=
  if ¬ s.hasDie d ∨ 48 ≤ c then .next s
  else if s.fld d .GLN_CORE_TESTING c = 0 ∨ s.tripped d then .next s
  else
    let s1 := s.setFld d .GLN_CORE_TESTING c 0
    if failing = 0 then .next (s1.corePassed d c)
    else
      let silos := s.classSWith d c
      let s2 : State := { s1 with safe.tested := insertKV s1.safe.tested (d, c) s.now, safe.period := insertKV s1.safe.period (d, c) s.now }
      let s3 := ((s2.removeCore d c).flag d .GLN_CORE_FAILED c).titheAdd (titheDie d 0x236) 1
      .next ((s3.raise .testFail d 0xFF00 [(20, 1, d), (21, 1, c / 8), (22, 1, c % 8), (23, 1, failing)] s3.safetyDoms).source { src := 10, die := d } silos)

/-- COVERAGE_PERIOD_END (R457). Lapses of a removed core are not judged. -/
def execCoveragePeriodEnd (d c : Nat) (s : State) : Out :=
  if ¬ s.hasDie d ∨ 48 ≤ c then .next s
  else if s.coverageAge d c < 50000000 ∨ bit (s.fld d .COMMIT_OUT_CORES) c ∨ ¬ s.fwRuns d then .next s
  else
    let s1 := ({ s with safe.period := insertKV s.safe.period (d, c) s.now } : State).titheAdd (titheDie d 0x230) 1
    if s.fld d .GLN_CORE_LAPSE c = 0 then .next (s1.flag d .GLN_CORE_LAPSE c)
    else
      let silos := s.classSWith d c
      let s2 := s1.flag d .GLN_CORE_S_EXCLUDED c
      let ms := (s.now - lookupD s.safe.tested (d, c) 0) / 1000000
      .next ((s2.raise .testLapse d 0xFF00 [(20, 1, d), (21, 1, c / 8), (22, 1, c % 8), (24, 4, ms)] s2.safetyDoms).source { src := 9, die := d } silos)

/-- A checker is marked failed (R460): cause 0 its test failed, 1 untested for 20 minutes. -/
def State.checkerFails (s : State) (d n cause : Nat) : State :=
  let s1 := (s.setFld d .CHKROT_FAILED_ORDER 0 (setBit (s.fld d .CHKROT_FAILED_ORDER) n)).flag d (if cause = 0 then .CHKROT_STATUS_FAIL else .CHKROT_STATUS_LAPSE)
  (s1.raise .checkerFail d 0xFF00 [(20, 1, d), (21, 1, n), (22, 1, cause)] s1.safetyDoms).source { src := 12, die := d } []

/-- A checker was tested. -/
def State.checkerTested (s : State) (d n : Nat) : State :=
  { s with safe.untested := eraseK s.safe.untested (d, n), safe.retry := s.safe.retry.filter (fun x => decide (x ≠ (d, n))),
           safe.spare := s.safe.spare.filter (fun x => decide (x ≠ (d, n))) }

/-- One test of a checker ends (R460): a yielded one is retried 1 ms later. -/
def State.checkerOutcome (s : State) (d n : Nat) (o : CheckOutcome) : State :=
  match o with
  | .passed => s.checkerTested d n
  | .failed => (s.checkerTested d n).checkerFails d n 0
  | .yielded => { s with safe.retry := if (d, n) ∈ s.safe.retry then s.safe.retry else s.safe.retry ++ [(d, n)] }

/-- A slot passes for every checker of a die: one untested for 80 slots, 20 minutes, is marked failed (R459, R460). -/
def State.ageCheckers (s : State) (d : Nat) : State :=
  (List.range (s.fld d .CHKROT_STATUS_UNITS)).foldl (fun t n =>
    let k := lookupD t.safe.untested (d, n) 0 + 1
    let u : State := { t with safe.untested := insertKV t.safe.untested (d, n) k }
    if k = 81 then u.checkerFails d n 1 else u) s

/-- CHECKER_ROTATION_SLOT (R459, R460): every 15 s the next checker, or in a spare slot one that is owed a test. -/
def execCheckerRotationSlot (d : Nat) (o : CheckOutcome) (s : State) : Out :=
  if ¬ s.hasDie d then .next s
  else if ¬ s.fwRuns d then .next s
  else
    let late := s.safe.retry.filter (fun x => decide (x.1 = d))
    let s1 : State := { s with safe.retry := s.safe.retry.filter (fun x => decide (x.1 ≠ d)), safe.spare := s.safe.spare ++ late.filter (fun x => decide (x ∉ s.safe.spare)) }
    let n := lookupD s.safe.slot d 0
    let units := s.fld d .CHKROT_STATUS_UNITS
    let s2 := s1.ageCheckers d
    let s3 : State := { s2 with safe.slot := insertKV s2.safe.slot d ((n + 1) % 40) }
    let s4 := s3.setFld d .CHKROT_STATUS_NEXT 0 (if n + 1 < units then n + 1 else 0)
    if n < units then .next (s4.checkerOutcome d n o)
    else
      match s1.safe.spare.find? (fun x => decide (x.1 = d)) with
      | some x => .next (({ s4 with safe.spare := s4.safe.spare.filter (fun y => decide (y ≠ x)) } : State).checkerOutcome d x.2 o)
      | none => .next s4

/-- CHECKER_TEST_RETRY (R460). -/
def execCheckerTestRetry (d : Nat) (o : CheckOutcome) (s : State) : Out :=
  if ¬ s.hasDie d then .next s
  else
    match s.safe.retry.find? (fun x => decide (x.1 = d)) with
    | some x => .next (s.checkerOutcome d x.2 o)
    | none => .next s

/-- SAFE_CFG (R448, R452, R463). -/
def execSafeCfg (r : Req) (ftti : Nat) (react : Word) (s : State) : Out :=
  .next (s.serve r 0x0700 none (fun s =>
    if ftti < 20 ∨ 500 < ftti ∨ reactRaise react.toNat ≠ react.toNat then reply s .badMessage
    else if ¬ s.granted r.dom then reply s .safetyLocked
    else if s.fld 0 .SAFE_CTRL_ARM = 1 then reply s .busy
    else reply ((s.setFld 0 .SAFE_CTRL_FTTI_MS 0 ftti).setFld 0 .SAFE_REACT_ACT 0 react.toNat) .ok))

/-- SAFE_ARM (R443, R463). -/
def execSafeArm (r : Req) (en : Nat) (s : State) : Out :=
  .next (s.serve r 0x0701 none (fun s =>
    if 2 ≤ en then reply s .badMessage
    else if s.holder 1 0 372 ≠ r.dom ∨ s.holder 1 0 374 ≠ r.dom then reply s .safetyLocked
    else reply (s.setArm en) .ok))

/-- Whether a sender holds a Class S silo grant or is firmware (R463). -/
def State.classSSender (s : State) (r : Req) : Bool := decide (r.dom = fwDom) || s.holdsClassS r.dom

/-- SAFE_CLEAR (R447, R463). -/
def execSafeClear (r : Req) (sameCycle : Option Nat) (s : State) : Out :=
  .next (s.serve r 0x0702 none (fun s =>
    if ¬ s.classSSender r then reply s .safetyLocked
    else
      match s.safeClear sameCycle with
      | (some st, t) => reply t st
      | (none, t) => reply t .ok))

/-- The image of SAFE_STATUS (R464). -/
def State.safeStatus (s : State) : Nat :=
  let f (x : Fld) := s.fld 0 x
  f .SAFE_STATUS_BADCFG * 2 ^ 8 + f .SAFE_STATUS_MSG_SENT * 2 ^ 7 + s.pinIn 0 374 * 2 ^ 6 + s.pinIn 0 372 * 2 ^ 5 + f .SAFE_STATUS_SEC_OK * 2 ^ 4 +
  b2n s.standby * 2 ^ 3 + f .SAFE_CTRL_ARM * 2 ^ 2 + f .SAFE_STATUS_ENTERED * 2 + f .SAFE_STATUS_SAFE

/-- The image of SAFE_CAUSE. -/
def State.safeCause (s : State) : Nat :=
  s.fld 0 .SAFE_CAUSE_SOURCE * 2 ^ 20 + s.fld 0 .SAFE_CAUSE_DIE * 2 ^ 17 + s.fld 0 .SAFE_CAUSE_SILO * 2 ^ 12 + s.fld 0 .SAFE_CAUSE_HAS_SILO

/-- SAFE_QUERY (R463). -/
def execSafeQuery (r : Req) (s : State) : Out :=
  .next (s.serve r 0x0703 none (fun s =>
    reply s.useFree .ok (leBytes 4 s.safeStatus ++ leBytes 4 (s.fld 0 .SAFE_CTRL_ARM * 2 ^ 31 + s.fld 0 .SAFE_CTRL_FTTI_MS * 2 ^ 16) ++
      leBytes 4 (s.fld 0 .SAFE_REACT_ACT) ++ leBytes 4 s.safeCause ++ leBytes 8 (s.fld 0 .SAFE_TIME_TIME) ++ leBytes 8 0)))

/-- SAFE_SILO_SET (R463, R465). -/
def execSafeSiloSet (r : Req) (d k cfg : Nat) (str : Word) (s : State) : Out :=
  .next (s.serve r 0x0710 none (fun s =>
    let w := str.toNat
    if ¬ s.hasDie d ∨ 16 ≤ k ∨ bits cfg 14 12 ≠ 0 ∨ bits cfg 3 0 ≠ 0 ∨ 65536 ≤ cfg ∨ bits w 23 16 ≠ 0 ∨ bits w 7 0 ≠ 0 then reply s .badMessage
    else if ¬ s.classSSender r then reply s .safetyLocked
    else if s.holder 2 d k = noDom ∨ s.claimClass 2 d k ≠ 0 then reply s .badMessage
    else reply (s.setFlds d k [(.SAFE_SILO_CFG_EN, bits cfg 15 15), (.SAFE_SILO_CFG_TOL, bits cfg 11 8), (.SAFE_SILO_CFG_ODO, bits cfg 7 4),
      (.SAFE_SILO_STR_EN1, bits w 31 31), (.SAFE_SILO_STR_STREAM1, bits w 30 24), (.SAFE_SILO_STR_EN0, bits w 15 15), (.SAFE_SILO_STR_STREAM0, bits w 14 8)]) .ok))

/-- SAFE_STREAM_SET (R446, R463, R467). -/
def execSafeStreamSet (r : Req) (c : SafeStreamCfg) (s : State) : Out :=
  .next (s.serve r 0x0711 none (fun s =>
    if 16 ≤ c.entry ∨ ¬ s.hasDie c.die ∨ 16 ≤ c.silo ∨ c.offset % 2 = 1 ∨ 1484 < c.offset ∨ 65536 ≤ c.handle then reply s .badMessage
    else if ¬ s.granted r.dom then reply s .safetyLocked
    else if c.en ∧ (c.template.length < 64 ∨ 1522 < c.template.length ∨ c.template.length < c.offset + 32 ∨ s.holder 2 c.die c.silo = noDom ∨
        s.claimClass 2 c.die c.silo ≠ 0) then reply s .badMessage
    else
      let s1 := s.setFlds 0 c.entry [(.SAFE_STREAM_0_EN, b2n c.en), (.SAFE_STREAM_0_DIE, c.die), (.SAFE_STREAM_0_SILO, c.silo), (.SAFE_STREAM_0_HANDLE, c.handle),
        (.SAFE_STREAM_1_OFFSET, c.offset)]
      reply { s1 with safe.templates := insertKV s1.safe.templates c.entry c.template } .ok))

/-- AGE of a core: milliseconds since its last completed test (R466). -/
def State.coreAge (s : State) (d c : Nat) : Nat := min 0xFFFF ((s.now - lookupD s.safe.tested (d, c) 0) / 1000000)

/-- GLN_QUERY (R463, R466). -/
def execGlnQuery (r : Req) (d cl : Nat) (s : State) : Out :=
  .next (s.serve r 0x0720 none (fun s =>
    if ¬ s.hasDie d ∨ 6 ≤ cl then reply s .badMessage
    else reply s .ok (leBytes 4 (s.fld d .GLN_CTRL_EN cl * 2 ^ 31 + s.fld d .GLN_CTRL_TESTING cl) ++
      ((rangeFrom (8 * cl) 8).map (fun c => leBytes 4 (s.fld d .GLN_CORE_KILLS c * 2 ^ 20 + s.fld d .GLN_CORE_FAILED c * 2 ^ 19 + s.fld d .GLN_CORE_S_EXCLUDED c * 2 ^ 18 +
        s.fld d .GLN_CORE_LAPSE c * 2 ^ 17 + s.fld d .GLN_CORE_TESTING c * 2 ^ 16 + s.coreAge d c))).flatten)))

/-- CHKROT_QUERY (R463, R465). -/
def execChkrotQuery (r : Req) (d : Nat) (s : State) : Out :=
  .next (s.serve r 0x0721 none (fun s =>
    if ¬ s.hasDie d then reply s .badMessage
    else reply s .ok (leBytes 4 (s.fld d .CHKROT_STATUS_NEXT * 2 ^ 16 + s.fld d .CHKROT_STATUS_UNITS * 2 ^ 8 + s.fld d .CHKROT_STATUS_LAPSE * 2 + s.fld d .CHKROT_STATUS_FAIL) ++
      leBytes 8 (s.fld d .CHKROT_FAILED_ORDER))))

/-- GLN_CTRL (R457, R466): with EN 0 a running test ends without a result. -/
def wrGlnCtrl (d cl data : Nat) (s : State) : State :=
  let s1 := s.setFld d .GLN_CTRL_EN cl (bits data 31 31)
  if bits data 31 31 = 1 then s1 else (rangeFrom (8 * cl) 8).foldl (fun t c => t.setFld d .GLN_CORE_TESTING c 0) s1

/-- The second word of a safety-stream entry (R467): an odd OFFSET, or one past 1,484, sets BADCFG. -/
def wrSafeStream1 (j data : Nat) (s : State) : State :=
  if data % 2 = 1 ∨ 1484 < bits data 10 0 then s.flag 0 .SAFE_STATUS_BADCFG else s.setFld 0 .SAFE_STREAM_1_OFFSET j (bits data 10 0)

end Sys2Proof.Machine
end

