-- ==== Sys2Proof/Machine/RegView.lean ====
section
/-!
DEFINITION. Machine/RegView.lean: which register lies at an offset of a block (R93, R103), and the value that each field shows on a read: the field as
stored, or what it is a window onto.
-/
namespace Sys2Proof.Machine

/-- The number of one of the places of a repeated register, from its offset past the first. -/
def regIndex : List (Nat × Nat) → Nat → Option Nat
  | [], r => if r = 0 then some 0 else none
  | (st, n) :: ds, r =>
    if r / st < n then (regIndex ds (r % st)).map (fun j => r / st * (ds.foldl (fun a e => a * e.2) 1) + j) else none

/-- The register at an offset of a block, with its number (R93). -/
def findReg (blk : Blk) (o : Nat) : Option (RegDesc × Nat) :=
  regTable.findSome? (fun r => if r.blk = blk ∧ r.off ≤ o then (regIndex r.dims (o - r.off)).map (fun i => (r, i)) else none)

/-- Whether a register holds an RC field. -/
def RegDesc.hasRc (r : RegDesc) : Bool := r.segs.any (fun g => decide (g.acc = .rc))

/-- The register that an access reaches, its number, and whether through its PEEK alias (R103). -/
def hitReg (blk : Blk) (o : Nat) : Option (RegDesc × Nat × Bool) :=
  match findReg blk o with
  | some (r, i) => some (r, i, false)
  | none =>
    if o < 0x800 then none
    else match findReg blk (o - 0x800) with
      | some (r, i) => if r.hasRc then some (r, i, true) else none
      | none => none

/-- Registers of a die's block that stand on DIE_0 only: they read zero and ignore writes elsewhere (R316, R467). -/
def onlyDie0 : RegName → Bool
  | .FN_CFG | .FN_STATE | .FN_APER_LO | .FN_APER_HI | .SAFE_STREAM_0 | .SAFE_STREAM_1 => true
  | _ => false

/-- A bit per place of a list, lowest first. -/
def maskOf (n : Nat) (p : Nat → Bool) : Nat := (List.range n).foldl (fun a i => a + b2n (p i) * 2 ^ i) 0

/-- The queue of a doorbell page, if it exists. -/
def State.qdb (s : State) (d i : Nat) (f : Queue → Nat) : Nat :=
  match s.queue (d * 65536 + i) with
  | some q => if q.loaded then f q else 0
  | none => 0

/-- The mailbox of a page of a die. -/
def State.pageBox (s : State) (p : Nat) (f : Dom → Nat) : Nat :=
  match domOfPage s.part.dies p with
  | some dom => f dom
  | none => 0

/-- What MB_STATUS, MB_REQ_BASE and MB_RSP_BASE show of a mailbox (R109 to R113): RSP_PENDING, SESSION, READY and BLACKOUT with the ring places. -/
def State.mbView (s : State) (f : Fld) (dom : Dom) : Nat :=
  match f with
  | .MB_STATUS_RSP_PENDING => b2n (decide (s.rspHeld dom ≠ 0))
  | .MB_STATUS_SESSION => b2n (s.box dom).session.isSome
  | .MB_STATUS_READY => b2n (s.fwRuns (homeOf s.part.dies dom) || s.romServes dom 0)
  | .MB_STATUS_BLACKOUT =>
    b2n (s.blackout 2 (homeOf s.part.dies dom) || (decide (s.reqHeld dom ≠ 0) && s.inBlackout dom (s.nextReq dom).1 (s.nextReq dom).2))
  | .MB_REQ_BASE_ADDR => s.mbPlace dom
  | .MB_RSP_BASE_ADDR => s.mbPlace dom + 0x1000
  | _ => 0

/-- What a field shows on a read, where it is a window onto other state; every other field shows what it stores. -/
def State.view (s : State) (d : Nat) (f : Fld) (i : Nat) : Nat :=
  match f with
  | .PINMUX_STATUS_BUSY => b2n (s.blkBusy d .pinmux)
  | .PINMUX_OVR_EN => b2n (lookup? s.pins.ovr (d, s.fld d .PINMUX_OVR_PIN)).isSome
  | .PINMUX_OVR_STATE => lookupD s.pins.ovr (d, s.fld d .PINMUX_OVR_PIN) 0
  | .PINCFG_OWNER => if ¬ hasSignal d i then 0 else (s.pinOwner d i).toNat
  | .PINCFG_IN => if hasSignal d i then s.pinIn d i else 0
  | .PINCFG_OE => if hasSignal d i then s.pinOe d i else 0
  | .PINCFG_PULL | .PINCFG_OUT | .PINCFG_FILTER | .PINCFG_SLEW | .PINCFG_FUNC => if hasSignal d i then s.fld d f i else 0
  | .CLK_STATUS_BUSY => b2n (s.blkBusy d .clkctl)
  | .CLK_STATUS_RAMPING => b2n (s.ramping d)
  | .RSTCTL_STATUS_BUSY => b2n (s.blkBusy d .rstctl)
  | .RSTCTL_STATUS_HOLDOFF => b2n (s.boot.holdoff.any (fun t => decide (d ∈ reachedDies s.part.dies t)))
  | .RSTCTL_STATUS_PENDING => b2n (s.boot.held.any (fun q => decide (d ∈ reachedDies s.part.dies q.target)))
  | .RSTCTL_STABLE_GROUPS => maskOf 20 (fun g => hasGroup d g && s.groupStable d g)
  | .MB_STATUS_RSP_PENDING | .MB_STATUS_SESSION | .MB_STATUS_READY | .MB_STATUS_BLACKOUT | .MB_REQ_BASE_ADDR | .MB_RSP_BASE_ADDR =>
    s.pageBox i (s.mbView f)
  | .GRN_STATUS_SPILLING => b2n (s.memy.spills.any (fun e => decide (e.1.1 = d)))
  | .GRN_QUOTA_USED => s.usedBushels d (i / 6) (i % 6)
  | .LOFT_SCRATCH_USED => (s.scratchOf d i).length
  | .KV_FREE_SLOTS_FREE => if s.fwRuns d then s.kvFreeSlots d else 0
  | .SCH_STATUS_BLACKOUT => b2n (s.blackout 2 d)
  | .QDB_SQ_TAIL_COUNT => s.qdb d i (fun q => q.sqTail)
  | .QDB_CQ_HEAD_COUNT => s.qdb d i (fun q => q.cqHead)
  | .QDB_SQ_HEAD_COUNT => s.qdb d i (fun q => q.sqHead)
  | .QDB_CQ_TAIL_COUNT => s.qdb d i (fun q => q.cqTail)
  | .QDB_STATUS_CQ_FULL => s.qdb d i (fun q => b2n (!q.heldRecords.isEmpty))
  | .QDB_STATUS_DB_ERR => s.qdb d i (fun q => b2n q.dbErr)
  | .QDB_STATUS_STATE => s.qdb d i (fun q => q.state)
  | .FN_STATUS_ASSIGN => s.assign i
  | .FN_STATUS_ENABLED => b2n (decide (s.assign i ≠ 0))
  | .FN_STATUS_RESET_BUSY => b2n (s.inReset (fnDom i))
  | .FN_STATUS_FROZEN => b2n (s.frozen (fnDom i))
  | .FN_STATE_STATE => s.fnStateOf (fnDom i)
  | .FN_STATE_GEN => s.genOf (fnDom i)
  | .RAS_STATUS_CTX0 => (s.rasContexts d).1
  | .RAS_STATUS_CTX1 => (s.rasContexts d).2.1
  | .RAS_STATUS_CLASS1 => (s.rasContexts d).2.2
  | .RAS_STOOK_SIZE_MIB => s.rasStookMib d
  | .ODO_STATUS_BUSY => b2n (s.blkBusy 0 .odo)
  | .TB_STATUS_BUSY => b2n (s.blkBusy 0 .timebase)
  | .TB_NSEC_NSEC => s.tbNsec i
  | .TB_NS64_TIME => s.tbNs i
  | .FBR_STATUS_SEM_HELD => s.fld d .FBR_SEM_HELD
  | .CAN_STATUS_BUSY => b2n (s.blkBusy d (.can i))
  | .SAFE_STATUS_OUT0 => s.pinIn 0 372
  | .SAFE_STATUS_OUT1 => s.pinIn 0 374
  | .SAFE_STATUS_STANDBY => b2n s.standby
  | .SAFE_STATUS_ARMED => s.fld 0 .SAFE_CTRL_ARM
  | .GLN_CORE_AGE => s.coreAge d i
  | .SEC_LC_SVN_FUSE => s.svnCount
  | .SEC_LC_REVOKED => maskOf 4 (fun j => (s.keySlot j).revoked)
  | .SEC_LC_USE_DBG => maskOf 4 (fun j => (s.keySlot j).usable 1)
  | .SEC_LC_USE_FW => maskOf 4 (fun j => (s.keySlot j).usable 0)
  | .SEC_LC_LC => s.sec.lc
  | .SEC_FUSE_DATA_VALUE => s.wordValue d (s.fld d .SEC_FUSE_ADDR_WORD)
  | .PWR_STATUS_BUSY => b2n (s.blkBusy d .pmc)
  | _ => s.fld d f i

/-- Bits [hi:lo] of a register as one field fills them, or zero for a master that may not read it (R11, R105). -/
def State.segValue (s : State) (d i : Nat) (ok : Bool) (g : Seg) : Nat :=
  if g.acc = .wo ∨ (g.guarded ∧ ¬ ok) then 0 else bits (s.view d g.fld i) (g.flo + (g.hi - g.lo)) g.flo * 2 ^ g.lo

/-- Reserved bits that do not read zero: CLK_CTRL[4:3] (R63). -/
def regConst : RegName → Nat
  | .CLK_CTRL => 0x10
  | _ => 0

/-- The word that a register holds for a master (R11, R104, R105). -/
def State.regWord (s : State) (d i : Nat) (ok : Bool) (r : RegDesc) : Nat :=
  if d ≠ 0 ∧ onlyDie0 r.name then 0 else r.segs.foldl (fun a g => a + s.segValue d i ok g) (regConst r.name)

/-- Whether a read of a register samples a pad, which uses up a free value where the level is not determined (R45, R519). -/
def samplesPad : RegName → Bool
  | .PINCFG | .SAFE_STATUS => true
  | _ => false

/-- Flag fields of more than one bit: each bit is an event of its own. -/
def flagVector : Fld → Bool
  | .TB_STATUS_STEPPED | .ODO_STATUS_FAULT | .ODO_STATUS_ZSEEN | .DISP_STATUS_UNDERRUN | .DISP_STATUS_REPEAT => true
  | _ => false

/-- What a clearing read leaves in an RC field (R103): zero, or the field left set where an event sets it in the same clock, with that event in it: a flag, a count, a
peak, or the index of a pin. -/
def rcLeft (f : Fld) (width old same : Nat) : Nat :=
  if f = .PINMUX_STATUS_PIN then same
  else if same = 0 then 0
  else if width = 1 ∨ flagVector f then Nat.lor old same
  else if f = .RAS_STOOK_PEAK_COUNT then max old same
  else satAdd width old same

/-- The record of an error log, by its STATUS register: the flags that hold it, and the fields of the record (R106, R157, R409). -/
def logRecord : RegName → Nat × List Fld
  | .FAB_STATUS => (3, [.FAB_ERR_ADDR_ADDR, .FAB_ERR_INFO_WRITE, .FAB_ERR_INFO_TYPE, .FAB_ERR_INFO_V, .FAB_ERR_INFO_PRIV, .FAB_ERR_INFO_MASTER])
  | .GRN_STATUS => (3, [.GRN_ERR_ADDR_ADDR, .GRN_ERR_INFO_UE, .GRN_ERR_INFO_ORIGIN, .GRN_ERR_INFO_UNIT, .GRN_ERR_INFO_SYNDROME, .GRN_ERR_INFO_MASTER])
  | .DRAM_STATUS => (3, [.DRAM_ERR_ADDR_ADDR, .DRAM_ERR_INFO_UE, .DRAM_ERR_INFO_CHANNEL, .DRAM_ERR_INFO_BG, .DRAM_ERR_INFO_BANK, .DRAM_ERR_INFO_RANK,
      .DRAM_ERR_INFO_RETRIES, .DRAM_ERR_INFO_MASTER])
  | .FBR_STATUS => (1, [.FBR_ERR_ADDR_ADDR, .FBR_ERR_INFO_BE, .FBR_ERR_INFO_CAUSE, .FBR_ERR_INFO_MASTER])
  | _ => (0, [])

/-- An event in the clock of the read that clears a log is logged afresh (R106): the read's operand names its flags alone, so its record is free values. -/
def State.logAfresh (s : State) (d same : Nat) (r : RegDesc) : State :=
  if Nat.land same (logRecord r.name).1 = 0 then s
  else (logRecord r.name).2.foldl (fun t f => let (v, u) := t.fresh; u.setFld d f 0 v) s

/-- A read clears the RC fields of a register that its master may read (R103, R105); `same` are the bits that events set in the same clock. -/
def State.clearRc (s : State) (d i : Nat) (ok : Bool) (r : RegDesc) (same : Nat) : State :=
  r.segs.foldl (fun (t : State) g =>
    if g.acc = .rc ∧ (¬ g.guarded ∨ ok) then
      t.setFld d g.fld i (rcLeft g.fld (g.hi - g.lo + 1) (t.fld d g.fld i) (bits same g.hi g.lo))
    else t) s

/-- The die whose copy of a register counts, for its pair's shadow and holding register. -/
def pairDie (r : RegDesc) (d : Nat) : Nat :=
  match r.segs with
  | g :: _ => homeDie g.fld d
  | [] => d

/-- The register at the other half of a pair: the high word 4 bytes on (R101). -/
def highHalf (blk : Blk) (o : Nat) : Option RegDesc := (findReg blk (o + 4)).map (fun e => e.1)

/-- A read of a register (R101, R103, R105): its value, and the state after it. -/
def State.readHit (s : State) (m : Master) (d : Nat) (o : Nat) (r : RegDesc) (i : Nat) (peek : Bool) (same : Nat) : Nat × State :=
  let ok := s.guardOk m
  let v := s.regWord d i ok r
  let s1 := if !ok && r.segs.all (fun g => g.guarded) then s.guardViolation d (regAddr d r.blk o) m false else s
  let s2 := if samplesPad r.name then s1.useFree else s1
  let s3 := if r.name = .TB_NSEC then s2.setFlds 0 i [(.TB_SEC_SEC, s2.tbSec i), (.TB_FRAC_FRAC, s2.tbFrac i)] else s2
  match r.half with
  | .lo =>
    match highHalf r.blk o with
    | some h => (v, { s3 with bus.shadow := insertKV s3.bus.shadow (pairDie r d, r.name, i) (s.regWord d i true h) })
    | none => (v, s3)
  | .hi =>
    match findReg r.blk (o - 4) with
    | some (l, _) =>
      match lookup? s3.bus.shadow (pairDie r d, l.name, i) with
      | some x => (if r.segs.all (fun g => g.guarded) && !ok then 0 else x, { s3 with bus.shadow := eraseK s3.bus.shadow (pairDie r d, l.name, i) })
      | none => (v, s3)
    | none => (v, s3)
  | .single => (v, if peek then s3 else (s3.clearRc d i ok r same).logAfresh d same r)

end Sys2Proof.Machine
end

