-- ==== Sys2Proof/Machine/RegBus.lean ====
section
/-!
DEFINITION. Machine/RegBus.lean: accesses by address to registers and memory (R90 to R106, R407 to R410): the effect of a write on each register, posted writes, waiting
reads, the 64-bit pairs.
-/
namespace Sys2Proof.Machine

/-- A write of a register with no rule of its own: each writable field that the master may write takes its bits (R102, R105). -/
def State.plainWrite (s : State) (m : Master) (d o : Nat) (r : RegDesc) (i data : Nat) : State :=
  let ok := s.guardOk m
  let s1 := if !ok && r.segs.any (fun g => g.guarded) then s.guardViolation d (regAddr d r.blk o) m true else s
  r.segs.foldl (fun (t : State) g =>
    if (g.acc = .rw ∨ g.acc = .rwp) ∧ (¬ g.guarded ∨ ok) then t.setFld d g.fld i (bits data g.hi g.lo) else t) s1

/-- A write of the low half of a guarded pair fills its holding register (R101, R105). -/
def State.lowWrite (s : State) (m : Master) (d o : Nat) (r : RegDesc) (i data : Nat) : State :=
  s.guarded m d r.blk o (fun t => t.holdLow (pairDie r d) r.name i data)

/-- A write of the high half of a guarded pair commits both halves (R101, R105): the value, from the low half held or in force. -/
def State.highWrite (s : State) (m : Master) (d o : Nat) (blk : Blk) (lo : RegName) (i cur data : Nat) (eff : Nat → State → State) : State :=
  s.guarded m d blk o (fun t => (eff (t.pairLow d lo i cur + data * 2 ^ 32) t).dropLow d lo i)

/-- FBR_RANGE_n (R415): COUNT 0 with EN 1 is ignored. -/
def wrFbrRange (d n data : Nat) (s : State) : State :=
  if bits data 31 31 = 1 ∧ bits data 27 16 = 0 then s.flag d .FBR_STATUS_BADCFG
  else s.setFlds d n [(.FBR_RANGE_EN, bits data 31 31), (.FBR_RANGE_POSTED, bits data 30 30), (.FBR_RANGE_COUNT, bits data 27 16), (.FBR_RANGE_BASE, bits data 11 0)]

/-- GRN_SCRUB (R157). -/
def wrGrnScrub (d data : Nat) (s : State) : State :=
  let h := bits data 4 0
  let s1 := s.setFld d .GRN_SCRUB_EN 0 (bits data 31 31)
  if 1 ≤ h ∧ h ≤ 24 then s1.setFld d .GRN_SCRUB_PERIOD_H 0 h else s1.flag d .GRN_STATUS_BADCFG

/-- A write to a register of a mailbox page (R110, R113, R315). -/
def State.pageRegWrite (s : State) (name : RegName) (dom : Dom) (data : Nat) : State :=
  match name with
  | .MB_REQ_TAIL => wrReqTail dom data s
  | .MB_RSP_HEAD => wrRspHead dom data s
  | .MB_NOTIFY => wrNotify dom data s
  | .FN_RESET => wrFnReset dom data s
  | _ => s

/-- The release of the semaphore: nobody holds it, and the reservation of its LR is gone (R412). -/
def State.semFree (s : State) (d : Nat) : State :=
  { s.setFlds d 0 [(.FBR_SEM_HELD, 0), (.FBR_SEM_HOLDER, 0)] with ports.reserved := s.ports.reserved.filter (fun x => decide (x.1 ≠ d)) }

/-- FBR_SEM.RELEASE (R415). -/
def wrFbrSem (d data : Nat) (s : State) : State := if bits data 30 30 = 1 then s.semFree d else s

/-- The effect of a 32-bit write on a register of a block (R102): by the rule of the register, or on its writable fields. -/
def State.regEffect (s : State) (m : Master) (d o : Nat) (r : RegDesc) (i data : Nat) : State :=
  let g (eff : State → State) : State := s.guarded m d r.blk o eff
  match r.name with
  | .PINMUX_OVR => wrPinmuxOvr m d data s
  | .PINCFG => wrPincfg m d i data s
  | .CLK_CTRL => wrClkCtrl m d data s
  | .CLK_ACK => wrClkAck m d data s
  | .CLK_DIV => wrClkDiv m d i data s
  | .RST_SWREQ => wrSwreq m d data s
  | .RSTCTL_FORCE => wrForce m d data s
  | .RST_WDT => wrWdt m d data s
  | .RST_WDT_KICK => wrWdtKick d data s
  | .MB_REQ_TAIL | .MB_RSP_HEAD | .MB_NOTIFY | .FN_RESET =>
    (match domOfPage s.part.dies i with
    | some dom => s.pageRegWrite r.name dom data
    | none => s)
  | .GRN_SCRUB => g (wrGrnScrub d data)
  | .GRN_QUOTA => wrGrnQuota m d (i / 6) (i % 6) data s
  | .LOFT_MAP => wrLoftMap m d data s
  | .LOFT_SCRATCH => wrLoftScratch m d i data s
  | .SCH_QCTX_BASE_LO => s.lowWrite m d o r i data
  | .SCH_QCTX_BASE_HI => s.highWrite m d o r.blk .SCH_QCTX_BASE_LO i (s.fld d .SCH_QCTX_BASE_ADDR) data (fun v t => t.setFld d .SCH_QCTX_BASE_ADDR 0 (v % 2 ^ 48 / 64 * 64))
  | .SCH_QCTL => g (wrQctl d data)
  | .SILO_CFG => g (wrSiloCfg m d i data)
  | .SILO_MASK_LO => s.lowWrite m d o r i data
  | .SILO_MASK_HI => s.highWrite m d o r.blk .SILO_MASK_LO i (s.fld d .SILO_MASK_MASK i) data (wrSiloMask m d i)
  | .SILO_TIME => g (wrSiloTime m d i data)
  | .QDB_SQ_TAIL => wrSqTail (d * 65536 + i) data s
  | .QDB_CQ_HEAD => wrCqHead (d * 65536 + i) data s
  | .FN_CFG => g (wrFnCfg i data)
  | .FN_APER_LO => s.lowWrite m d o r i data
  | .FN_APER_HI => s.highWrite m d o r.blk .FN_APER_LO i (s.fld 0 .FN_APER_BASE i) data (fun v => wrFnAper i (v % 2 ^ 48))
  | .RAS_STOOK => g (wrRasStook d data)
  | .RAS_STOOK_ADDR_LO => s.lowWrite m d o r i data
  | .RAS_STOOK_ADDR_HI => s.highWrite m d o r.blk .RAS_STOOK_ADDR_LO i (s.fld d .RAS_STOOK_ADDR_ADDR) data (wrRasStookAddr d)
  | .HEAD_CTRL => wrHeadCtrl m i data s
  | .HEAD_PCLK => wrHeadPclk m i data s
  | .HEAD_HTIME | .HEAD_HSYNC | .HEAD_VTIME | .HEAD_VSYNC | .HEAD_FILL => s.headWrite m i (fun t => t.plainWrite m 0 o r i data)
  | .HEAD_IMG_LO => s.headWrite m i (fun t => t.holdLow 0 .HEAD_IMG_LO i data)
  | .HEAD_IMG_HI => wrHeadImg m i data s
  | .CSI_PHY => wrCsiPhy m d i data s
  | .STR_CFG | .STR_GEOM | .STR_BUF | .STR_HANDLE | .STR_OUT_OFF | .STR_FSTRIDE | .STR_REC_LO | .STR_REC_HI | .STR_REL_LO | .STR_REL_HI | .STR_GOLD
  | .STR_GOLD_HANDLE | .STR_EXPECT_0 | .STR_EXPECT_1 | .STR_EXPECT_2 | .STR_EXPECT_3 => wrStr m d i (r.off - 0x1000) data s
  | .ODO_CFG => wrOdoCfg m i data s
  | .ODO_SLIP => wrOdoSlip m i data s
  | .ODO_RATIO => wrOdoRatio m i data s
  | .ODO_DIST_LO => wrOdoDistLo m i data s
  | .ODO_DIST_HI => wrOdoDistHi m i data s
  | .TACH_CFG => wrTachCfg m i data s
  | .TB_CFG => wrTbCfg m d i data s
  | .TB_GAIN => wrTbGain m d i data s
  | .TB_ADJ => wrTbAdj m d i data s
  | .TB_OFFSET_LO | .TB_SETSEC_LO => if d ≠ 0 then s else s.tbWrite m d o i (fun t => t.holdLow 0 r.name i data)
  | .TB_OFFSET_HI => wrTbOffset m d i data s
  | .TB_SETSEC_HI => wrTbSetsec m d i data s
  | .TB_SETNSEC => wrTbSetnsec m d i data s
  | .PPS_OUT_CFG => wrPpsOutCfg m d data s
  | .PPS_IN_DELAY => wrPpsInDelay m d data s
  | .TRG_CFG => wrTrgCfg m d i data s
  | .TRG_START_LO => wrTrgStartLo m d i data s
  | .TRG_START_HI => wrTrgStart m d i data s
  | .TRG_PERIOD => wrTrgPeriod m d i data s
  | .TSCAP_CFG => wrTscapCfg m d i data s
  | .CMP32_CFG => wrCmpCfg m d i data s
  | .CMP32_SEC => wrCmpSec m d i data s
  | .CMP32_NSEC => wrCmpNsec m d i (data % 2 ^ 30) s
  | .FBR_SEM => g (wrFbrSem d data)
  | .FBR_RANGE => g (wrFbrRange d i data)
  | .ETH_PORT_CFG => wrEthCfg m d i data s
  | .ETH_PORT_LAT => wrEthLat m d i data s
  | .CAN_CFG => wrCanCfg m d i data s
  | .CAN_BTR => wrCanTiming m d i false data s
  | .CAN_DBTR => wrCanTiming m d i true data s
  | .UART_CFG => wrUartCfg m d i data s
  | .UART_FRAC => wrUartFrac m d i data s
  | .PCIE_CFG => wrPcieCfg m d data s
  | .PCIE_IB_BUS_LO | .PCIE_IB_PHYS_LO => s.lowWrite m d o r i data
  | .PCIE_IB_BUS_HI => s.highWrite m d o r.blk .PCIE_IB_BUS_LO i (s.fld d .PCIE_IB_BUS_ADDR i) data (fun v t => t.setFld d .PCIE_IB_BUS_ADDR i v)
  | .PCIE_IB_PHYS_HI => s.highWrite m d o r.blk .PCIE_IB_PHYS_LO i (s.fld d .PCIE_IB_PHYS_ADDR i) data (fun v t => t.setFld d .PCIE_IB_PHYS_ADDR i v)
  | .MIRROR_CFG => g (wrMirrorCfg data)
  | .MIRROR_FN => g (wrMirrorFn i data)
  | .SAFE_CTRL => if d ≠ 0 then s else g (wrSafeCtrl m d data none)
  | .SAFE_REACT => if d ≠ 0 then s else g (wrSafeReact d data)
  | .SAFE_SILO_CFG => g (wrSafeSilo m d i [(.SAFE_SILO_CFG_EN, bits data 31 31), (.SAFE_SILO_CFG_TOL, bits data 27 24), (.SAFE_SILO_CFG_ODO, bits data 23 20)])
  | .SAFE_SILO_STR => g (wrSafeSilo m d i [(.SAFE_SILO_STR_EN1, bits data 31 31), (.SAFE_SILO_STR_STREAM1, bits data 30 24), (.SAFE_SILO_STR_EN0, bits data 15 15),
      (.SAFE_SILO_STR_STREAM0, bits data 14 8)])
  | .GLN_CTRL => g (wrGlnCtrl d i data)
  | .SAFE_STREAM_1 => g (wrSafeStream1 i data)
  | .SEC_FUSE_CTRL => wrFuseCtrl m d data s
  | .PWR_LIMIT => wrPwrLimit m d data s
  | .PWR_PKG_LIMIT => wrPwrPkgLimit m d data s
  | .PWR_FLOOR => wrPwrFloor m d data s
  | .THERM_CFG => wrThermCfg m d data s
  | .PWR_RAIL => wrPwrRail m d i data s
  | _ => s.plainWrite m d o r i data

/-- The place of a byte in the CAN message RAMs and the MVB traffic memory, which the spec places nowhere: offsets 0x1000 on of each CAN slot, and the MVB slot
from 0x1000 on; and the claim that covers it. Places count from the CAN slot. -/
def portRam (blk : Blk) (o : Nat) : Option (Nat × Nat × Nat) :=
  match blk with
  | .CAN => if 0x1000 ≤ o % 0x4000 then some (o, 0xC, o / 0x4000) else none
  | .MVB => if 0x1000 ≤ o then some (0x40000 + o, 0xE, 0) else none
  | _ => none

/-- Store bytes into a port's RAM. -/
def State.putRam (d : Nat) : State → Nat → List Byte → State
  | s, _, [] => s
  | s, o, b :: bs => State.putRam d { s with ports.canRam := insertKV s.ports.canRam (d, o) b } (o + 1) bs

/-- Another master's write clears the reservation that an LR holds on a word of the peripheral side (R412). -/
def State.breakReserve (s : State) (m : Master) (d off : Nat) : State :=
  if s.fld d .FBR_SEM_HOLDER ≠ masterId m ∨ s.fld d .FBR_SEM_HELD = 0 then { s with ports.reserved := s.ports.reserved.filter (fun x => decide (x ≠ (d, off / 4 * 4))) } else s

/-- Whether the target of a write answers with a slave error: a CAN controller with SRST refuses writes of every register but its CFG (R416). -/
def State.slaveError (s : State) (d : Nat) (blk : Blk) (o : Nat) : Bool :=
  decide (blk = .CAN) && decide (o % 0x4000 ≠ 4) && decide (s.fld d .CAN_CFG_SRST (o / 0x4000) = 1)

/-- The effect of a write at an offset of a block (R93, R102, R103): on a register, on a port's RAM, or none. -/
def State.applyWrite (s : State) (m : Master) (d : Nat) (blk : Blk) (o data size : Nat) : State :=
  let s1 := s.breakReserve m d (blkBase blk + o)
  match portRam blk o with
  | some (p, ty, i) => if s1.otherHolds m ty d i then s1 else State.putRam d s1 p (leBytes size data)
  | none =>
    match hitReg blk o with
    | some (r, i, peek) => if peek ∨ size ≠ 4 ∨ (d ≠ 0 ∧ onlyDie0 r.name) then s1 else s1.regEffect m d o r i data
    | none => s1

/-- A posted write ends (R100, R409): it takes effect, or it fails on the far side of the bridge. -/
def State.endPosted (s : State) (w : Posted) (fail : Option Nat) : State :=
  let blk := blkOfPosted w.blk
  let addr := regAddr w.die blk w.off
  let be := (2 ^ w.size - 1) * 2 ^ (addr % 4)
  let bridge := decide (w.blk ∉ [.rstctl, .clkctl, .pmc, .timebase])
  match fail with
  | some c => if bridge then s.pwFail w.die addr w.m be c else s
  | none =>
    if ¬ s.blkUp w.die blk w.off then (if bridge then s.pwFail w.die addr w.m be 1 else s)
    else if s.slaveError w.die blk w.off then s.pwFail w.die addr w.m be 0
    else s.applyWrite w.m w.die blk w.off w.data.toNat w.size

/-- The window offset of a posted write. -/
def Posted.place (w : Posted) : Nat := blkBase (blkOfPosted w.blk) + w.off

/-- The bridge range that an offset lies in (R408): the first enabled one. -/
def State.rangeOf (s : State) (d off : Nat) : Option Nat :=
  let slot := off / 0x10000
  (List.range 16).find? (fun n => decide (s.fld d .FBR_RANGE_EN n = 1) && decide (s.fld d .FBR_RANGE_BASE n ≤ slot)
      && decide (slot < s.fld d .FBR_RANGE_BASE n + s.fld d .FBR_RANGE_COUNT n))

/-- Whether a slot lies on the peripheral side of the bridge (R406). -/
def peripheral (blk : Blk) : Bool := decide (blk ∈ [.PINMUX, .ODO, .CAN, .UART, .PMBUS, .XSPI, .MVB])

/-- Whether a read waits: at the bridge for earlier posted writes into its range, whichever address of the range it names (R410); at any other posted block, STATUS
apart, for BUSY to clear (R100); or behind a held write, or an earlier access to the block, of its master (R99, R100). -/
def State.readWaits (s : State) (m : Master) (d off : Nat) : Bool :=
  match blockAt d off with
  | none => false
  | some (blk, o) =>
    s.masterHeld m d (postedBlkAt blk o) || s.blockWaits m d off ||
    (if peripheral blk then
      s.bus.posted.any (fun w => decide (w.die = d) && (decide (some w.blk = postedBlkAt blk o) || (decide (s.rangeOf d off ≠ none) && decide (s.rangeOf d w.place = s.rangeOf d off))))
    else
      match postedBlkAt blk o with
      | some p => decide (o ≠ 0) && decide (o ≠ 0x800) && s.blkBusy d p
      | none => false)

/-- One word of a register window as a read returns it, with the state after it. -/
def State.readWord (s : State) (m : Master) (d : Nat) (blk : Blk) (o same : Nat) : Nat × State :=
  match portRam blk o with
  | some (p, _, _) => (leNat (s.canBytes d p 4), s)
  | none =>
    match hitReg blk o with
    | some (r, i, peek) => s.readHit m d o r i peek same
    | none => (0, s)

/-- A read of a register window at an offset: refused, waiting, or the value (R92, R100, R410). -/
def State.readOff (s : State) (m : Master) (addr d off same : Nat) : State :=
  match s.refusal m d off with
  | some (t, at') => s.busError at' t addr m false
  | none =>
    if s.readWaits m d off then { s with bus.stalled := s.bus.stalled ++ [⟨m, addr, false, 0, 4⟩], access := .waits }
    else
      match blockAt d off with
      | some (blk, o) =>
        let r := s.readWord m d blk o same
        { r.2 with access := .value r.1 }
      | none => s

/-- A write of a register window at an offset: refused, queued, posted or in effect (R92, R100, R408). -/
def State.writeOff (s : State) (m : Master) (addr d off size : Nat) (data : Word) : State :=
  match s.refusal m d off with
  | some (t, at') => s.busError at' t addr m true
  | none =>
    let p := s.postsTo d off
    if s.mustQueue m d off then { s with bus.stalled := s.bus.stalled ++ [⟨m, addr, true, data, size⟩], access := .waits }
    else
      match blockAt d off, p with
      | some (_, _), some b =>
        { s with bus.posted := s.bus.posted ++ [⟨m, d, b, off - blkBase (blkOfPosted b), data, size⟩], access := if s.blkBusy d b then .waits else .done }
      | some (blk, o), none =>
        if s.slaveError d blk o then s.busError d 3 addr m true
        else { s.applyWrite m d blk o data.toNat size with access := .done }
      | none, _ => s

/-- Whether an access of a size in bytes is one that a register window takes at an offset (R98, R407): 4 bytes, or 8 as two of 4, aligned; a port's RAM takes 1
and 2 as well. -/
def sizeOk (d off size : Nat) : Bool :=
  decide (off % size = 0) && (decide (size = 4) || decide (size = 8) ||
    (match blockAt d off with
    | some (blk, o) => (portRam blk o).isSome && (decide (size = 1) || decide (size = 2))
    | none => false))

/-- Whether an offset lies in APINTC (R127). -/
def inApintc (off : Nat) : Bool := decide (0x900000 ≤ off) && decide (off < 0xA00000)

/-- Why an access by address is refused before it reaches its target, with the die that logs it (R92, R95, R98, R106): a target die that cannot be reached, an
address with nothing behind it, an outbound window not in service or barred to the master, a wrong size, memory that the master may not reach. A request to an
outbound window takes link 0 as one to a register window does (DESIGN CHOICE, notes/assumptions/90). -/
def State.addrRefusal (s : State) (m : Master) (addr size : Nat) : Option (Nat × Nat) :=
  let reach (d line : Nat) (rest : Option (Nat × Nat)) : Option (Nat × Nat) :=
    match s.blocked m.die d line with
    | some at' => some (3, at')
    | none => rest
  match decodeAddr s.part m.die addr with
  | .absent => some (0, m.die)
  | .hole d => reach d (memLine addr) (some (1, d))
  | .pcieOut k _ =>
    reach k 0 (if m.kind = .core ∨ m.kind = .ioDma then some (5, k) else if s.pcieOn k ∧ s.pcieRoot k then none else some (1, k))
  | .regs d off => reach d 0 (if sizeOk d off size then none else some (2, d))
  | .dram d _ | .granary d _ | .loft d _ => if size = 0 then reach d (memLine addr) (some (2, d)) else s.memRefusal m addr size

/-- A write by address (R90 to R102): to memory, through an outbound window, or to a register. -/
def State.writeAt (s : State) (m : Master) (addr size : Nat) (data : Nat) : Out :=
  match s.addrRefusal m addr size with
  | some (t, at') => .next (s.busError at' t addr m true)
  | none =>
    match decodeAddr s.part m.die addr with
    | .pcieOut k o => .next (if s.pcieUp k then { s.send (.outbound k o true (leBytes size data)) with access := .done } else { s with access := .done })
    | .regs d off =>
      if inApintc off ∧ (s.refusal m d off).isNone then
        let hi := if size = 8 then (s.apintcWrite d (off - 0x900000) (data % 2 ^ 32)).bind (fun t => t.apintcWrite d (off - 0x900000 + 4) (data / 2 ^ 32)) else s.apintcWrite d (off - 0x900000) (data % 2 ^ 32)
        .next (match hi with
          | some t => { t with access := .done }
          | none => s.busError d 1 addr m true)
      else if size = 8 then .next ((s.writeOff m addr d off 4 (BitVec.ofNat 32 data)).writeOff m (addr + 4) d (off + 4) 4 (BitVec.ofNat 32 (data / 2 ^ 32)))
      else .next (s.writeOff m addr d off size (BitVec.ofNat 32 data))
    | _ => .next { s.store (agentOf m) addr (leBytes size data) with access := .done }

/-- A read by address; `same` are the bits of RC fields that events set in the same clock (R103). -/
def State.readAt (s : State) (m : Master) (addr size same : Nat) : Out :=
  match s.addrRefusal m addr size with
  | some (t, at') => .next (s.busError at' t addr m false)
  | none =>
    match decodeAddr s.part m.die addr with
    | .pcieOut k o =>
      let (v, s1) := s.fresh
      .next { (if s1.pcieUp k then s1.send (.outbound k o false []) else s1) with access := .value (v % 256 ^ size) }
    | .regs d off =>
      if inApintc off ∧ (s.refusal m d off).isNone then
        .next (match s.apintcRead d (off - 0x900000), (if size = 8 then s.apintcRead d (off - 0x900000 + 4) else some 0) with
          | some a, some b => { s with access := .value (a + b * 2 ^ 32) }
          | _, _ => s.busError d 1 addr m false)
      else if size = 8 then
        let lo := s.readOff m addr d off (same % 2 ^ 32)
        let hi := lo.readOff m (addr + 4) d (off + 4) (same / 2 ^ 32)
        .next (match lo.access, hi.access with
          | .value a, .value b => { hi with access := .value (a + b * 2 ^ 32) }
          | .value _, _ => hi
          | x, _ => { hi with access := x })
      else
        let t := s.readOff m addr d off (same % 2 ^ 32)
        .next (match t.access with
          | .value v => { t with access := .value (if size = 4 then v else v % 256 ^ size) }
          | _ => t)
    | _ =>
      match s.poisoned addr size with
      | some g => .next { (s.wake addr size).readUe g (agentOf m) with access := .memError }
      | none => .next { s.wake addr size with access := .value (leNat (s.seen addr size)) }

/-- REGISTER_WRITE. -/
def execRegisterWrite (m : Master) (addr size : Nat) (data : BitVec 64) (s : State) : Out := s.writeAt m addr size data.toNat

/-- RC_REGISTER_READ. -/
def execRcRegisterRead (m : Master) (addr size : Nat) (sameClock : BitVec 64) (s : State) : Out := s.readAt m addr size sameClock.toNat

/-- PAIR_LO_READ. -/
def execPairLoRead (m : Master) (addr : Nat) (s : State) : Out := s.readAt m addr 4 0

/-- PAIR_HI_READ. -/
def execPairHiRead (m : Master) (addr : Nat) (s : State) : Out := s.readAt m addr 4 0

/-- PAIR_LO_WRITE. -/
def execPairLoWrite (m : Master) (addr : Nat) (data : Word) (s : State) : Out := s.writeAt m addr 4 data.toNat

/-- PAIR_HI_WRITE. -/
def execPairHiWrite (m : Master) (addr : Nat) (data : Word) (s : State) : Out := s.writeAt m addr 4 data.toNat

/-- RST_STATUS_READ: on any die a read of DIE_0's register (R89). -/
def execRstStatusRead (m : Master) (d : Nat) (s : State) : Out := s.readAt m (windowBase d + 0x8) 4 0

/-- FAB_STATUS_READ: the clearing read releases the log (R106). -/
def execFabStatusRead (m : Master) (d : Nat) (s : State) : Out := s.readAt m (windowBase d + 0xD0000) 4 0

/-- GRN_DRAM_STATUS_READ (R157). -/
def execGrnDramStatusRead (m : Master) (d : Nat) (dram : Bool) (s : State) : Out := s.readAt m (windowBase d + if dram then 0x320000 else 0x300000) 4 0

/-- FBR_STATUS_READ (R409). -/
def execFbrStatusRead (m : Master) (d : Nat) (s : State) : Out := s.readAt m (windowBase d + 0x30000) 4 0

/-- One waiting access is tried again; a read on the peripheral side goes on when its bridge releases it (R410), and one that still waits goes to the end of the queue. -/
def State.retryAccess (bridge : Option Nat) (s : State) (x : Stalled) : State :=
  match regPlace s.part x.m x.addr with
  | none => s
  | some (d, off) =>
    if x.write then s.writeOff x.m x.addr d off x.size x.data
    else if (match blockAt d off with
        | some (blk, _) => peripheral blk
        | none => false) && bridge != some d then { s with bus.stalled := s.bus.stalled ++ [x] }
    else s.readOff x.m x.addr d off 0

/-- The accesses that wait are tried again in order (R99, R100). -/
def State.runStalled (s : State) (bridge : Option Nat) : State := s.bus.stalled.foldl (State.retryAccess bridge) { s with bus.stalled := [] }

/-- The oldest posted write of a block ends, with what waited for it (R100). A read at the bridge goes on by its own row. -/
def State.finishPosted (s : State) (d : Nat) (p : PostedBlk) (fail : Option Nat) : State :=
  match s.bus.posted.find? (fun w => decide (w.die = d) && decide (w.blk = p)) with
  | none => s
  | some w =>
    let s1 := { s with bus.posted := s.bus.posted.erase w }
    (s1.endPosted w fail).runStalled none

/-- POSTED_WRITE_COMPLETE. -/
def execPostedWriteComplete (d : Nat) (p : PostedBlk) (s : State) : Out := ifUnit (s.hasDie d) s (s.finishPosted d p none)

end Sys2Proof.Machine
end

