-- ==== Sys2Proof/Machine/FieldBridge.lean ====
section
/-!
DEFINITION. Machine/FieldBridge.lean: the far side of the Field bridge (R409, R410), atomic accesses that the bridge emulates (R412, R415), and requests that arrive over
PCI Express (R301 to R303, R315, R402, R403).
-/
namespace Sys2Proof.Machine

/-- POSTED_WRITE_FAIL: the oldest posted write of a block behind the bridge fails: 0 slave error, 1 reset or isolated, 2 timeout, 3 parity (R409). -/
def execPostedWriteFail (d : Nat) (p : PostedBlk) (cause : Nat) (s : State) : Out :=
  if ¬ s.hasDie d ∨ ¬ peripheral (blkOfPosted p) then .next s else .next (s.finishPosted d p (some (cause % 4)))

/-- Whether an atomic access is of 64 bits. -/
def atomicWide : FbrAtomic → Bool
  | .amo _ _ w => w
  | .lr w => w
  | .sc _ w => w

/-- The result of an atomic operation of RISC-V of a width by its function code (R412 names no code): add, swap, xor, or, and, signed and unsigned min and max. -/
def amoResult (w op old x : Nat) : Option Nat :=
  let lt := decide (toSigned w old < toSigned w x)
  match op with
  | 0 => some ((old + x) % 2 ^ w)
  | 1 => some x
  | 4 => some (Nat.xor old x)
  | 8 => some (Nat.lor old x)
  | 12 => some (Nat.land old x)
  | 16 => some (if lt then old else x)
  | 20 => some (if lt then x else old)
  | 24 => some (min old x)
  | 28 => some (max old x)
  | _ => none

/-- An LR or an atomic operation takes the semaphore and acts (R412); the atomic operation releases it at once. -/
def State.semTake (s : State) (d : Nat) (m : Master) (addr off : Nat) (blk : Blk) (o : Nat) (op : FbrAtomic) : State :=
  let r := s.readWord m d blk o 0
  match op with
  | .lr _ =>
    let t := r.2.setFlds d 0 [(.FBR_SEM_HELD, 1), (.FBR_SEM_HOLDER, masterId m)]
    { t with ports.reserved := (t.ports.reserved.filter (fun x => decide (x.1 ≠ d))) ++ [(d, off)], access := .value r.1 }
  | .amo k x _ =>
    match amoResult 32 k r.1 (x.toNat % 2 ^ 32) with
    | some v =>
      if r.2.slaveError d blk o then r.2.busError d 3 addr m true
      else { r.2.applyWrite m d blk o v 4 with access := .value r.1 }
    | none => s.busError d 2 addr m true
  | .sc _ _ => s

/-- An access of the peripheral side that the bridge emulates: it waits while the semaphore is held, or for earlier posted writes (R410, R412). An SC never waits: it succeeds only for the
holder while its reservation stands. -/
def State.semOp (s : State) (d : Nat) (m : Master) (addr off : Nat) (blk : Blk) (o : Nat) (op : FbrAtomic) : State :=
  match op with
  | .sc data _ =>
    if s.fld d .FBR_SEM_HELD = 1 ∧ s.fld d .FBR_SEM_HOLDER = masterId m ∧ (d, off) ∈ s.ports.reserved then
      (if s.slaveError d blk o then s.busError d 3 addr m true
      else { (s.applyWrite m d blk o (data.toNat % 2 ^ 32) 4).semFree d with access := .value 0 })
    else { s with access := .value 1 }
  | _ =>
    if s.fld d .FBR_SEM_HELD = 1 ∨ s.readWaits m d off then { s with ports.semWaits := s.ports.semWaits ++ [(d, m, addr, op)], access := .waits }
    else s.semTake d m addr off blk o op

/-- The next access that waits for a die's semaphore, in order of arrival; those that release it at once let the next one follow (R412). -/
def State.semNext (d : Nat) : Nat → State → State
  | 0, s => s
  | n + 1, s =>
    if s.fld d .FBR_SEM_HELD = 1 then s
    else
      match s.ports.semWaits.find? (fun x => decide (x.1 = d)) with
      | none => s
      | some x =>
        let t := { s with ports.semWaits := s.ports.semWaits.erase x }
        match regPlace t.part x.2.1 x.2.2.1 with
        | some (e, off) =>
          match blockAt e off with
          | some (blk, o) => if t.readWaits x.2.1 e off then s else State.semNext d n (t.semTake e x.2.1 x.2.2.1 off blk o x.2.2.2)
          | none => t
        | none => t

/-- Release the semaphore of a die, and serve those that wait. -/
def State.semRelease (s : State) (d : Nat) : State := State.semNext d s.ports.semWaits.length (s.semFree d)

/-- An atomic access of an AP to memory, with its reservation of 64 bytes (R139); an SC ends the AP's reservation, as RISC-V has it. -/
def State.memAtomic (s : State) (m : Master) (addr : Nat) (op : FbrAtomic) : State :=
  let size := if atomicWide op then 8 else 4
  if addr % size ≠ 0 then s.busError m.die 2 addr m true
  else
    match s.memRefusal m addr size with
    | some (t, at') => s.busError at' t addr m true
    | none =>
      match s.poisoned addr size with
      | some g => { (s.wake addr size).readUe g (agentOf m) with access := .memError }
      | none =>
        let s := s.wake addr size
        let old := leNat (s.seen addr size)
        let g := addr / 64 * 64
        match op with
        | .lr _ => { s with memy.reservations := (s.memy.reservations.filter (fun r => decide (r.1 ≠ masterId m))) ++ [(masterId m, g)], access := .value old }
        | .sc data _ =>
          if (masterId m, g) ∈ s.memy.reservations then { s.store (agentOf m) addr (leBytes size data.toNat) with access := .value 0 }
          else { s with memy.reservations := s.memy.reservations.filter (fun r => decide (r.1 ≠ masterId m)), access := .value 1 }
        | .amo k x _ =>
          match amoResult (8 * size) k old (x.toNat % 256 ^ size) with
          | some v => { s.store (agentOf m) addr (leBytes size v) with access := .value old }
          | none => s.busError m.die 2 addr m true

/-- FBR_ATOMIC_EMULATION: an atomic operation, LR or SC of an AP; on the peripheral side by the bridge (R407, R412), on memory by its controller (R139). A register of another
block takes none. -/
def execFbrAtomicEmulation (m : Master) (addr : Nat) (op : FbrAtomic) (s : State) : Out :=
  .next (match decodeAddr s.part m.die addr with
    | .absent => s.busError m.die 0 addr m true
    | .hole _ => (match s.addrRefusal m addr 4 with
      | some (t, at') => s.busError at' t addr m true
      | none => s)
    | .pcieOut k _ => (match s.addrRefusal m addr 4 with
      | some (t, at') => s.busError at' t addr m true
      | none => s.busError k 2 addr m true)
    | .dram _ _ | .granary _ _ | .loft _ _ => s.memAtomic m addr op
    | .regs d off =>
      if atomicWide op ∨ addr % 4 ≠ 0 then (match s.blocked m.die d 0 with
        | some at' => s.busError at' 3 addr m true
        | none => s.busError d 2 addr m true)
      else
        match s.refusal m d off with
        | some (t, at') => s.busError at' t addr m true
        | none =>
          match blockAt d off with
          | some (blk, o) => if peripheral blk then s.semOp d m addr off blk o op else s.busError d 2 addr m true
          | none => s)

/-- FBR_SEM_TIMEOUT: the semaphore has been held for 10 µs (R412). -/
def execFbrSemTimeout (d : Nat) (s : State) : Out :=
  if ¬ s.hasDie d then .next s
  else .next (if s.fld d .FBR_SEM_HELD = 1 then (s.flag d .FBR_STATUS_SEM_TIMEOUT).semRelease d else s)

/-- FBR_SEM_RELEASE_WRITE (R415): released at once, without SEM_TIMEOUT. -/
def execFbrSemReleaseWrite (m : Master) (d : Nat) (data : Word) (s : State) : Out :=
  .next (s.regWrite m d .FBR 0x30 data (fun t => t.guarded m d .FBR 0x30 (fun u => if bit data.toNat 30 then u.semRelease d else u)))

/-- FBR_READ_RELEASE: reads that wait at a bridge go on once the earlier posted writes into their range have ended (R410). -/
def execFbrReadRelease (d : Nat) (s : State) : Out :=
  if ¬ s.hasDie d then .next s
  else .next (let t := s.runStalled (some d); State.semNext d t.ports.semWaits.length t)

/-! Requests over PCI Express -/

/-- The master that stands for a request arriving at a controller (R95, R96, R106), with the domain of the function. -/
def pcieMaster (c : Nat) (fn : Dom) : Master := ⟨c, .pcie, 0, .user, false, fn⟩

/-- Where a BAR of a function leads (R302): a register window, the MSI-X table or PBA of the function's page, a physical address, or nowhere. -/
inductive BarPlace where
  | window (d off : Nat)
  | msix (off : Nat)
  | pba (off : Nat)
  | phys (addr : Nat)
  | none
deriving DecidableEq, Repr

/-- The place of an offset of a BAR (R301 to R304, R315). Under code 3, before step 10, BAR0 holds the PCIe host mailbox page alone (R401). -/
def State.barPlace (s : State) (fn bar o : Nat) : BarPlace :=
  let fd := fnDom fn
  let early := decide (s.stepOf 0 < 10)
  match bar with
  | 0 =>
    if fn = 0 ∧ 0x1000 ≤ o ∧ o < 0x2000 then .window 0 (0x2000000 + 0xA00 * 0x1000 + (o - 0x1000))
    else if early then .none
    else if 0x400 ≤ o ∧ o < 0x800 then .msix (o - 0x400)
    else if 0x180 ≤ o ∧ o < 0x188 then .pba (o - 0x180)
    else if o < 0x1000 then .window (homeOf s.part.dies fd) (0x2000000 + Sys2Proof.Machine.pageOf fd * 0x1000 + o)
    else if 0x10000 ≤ o ∧ o < 0x50000 then
      (match s.q.queues.find? (fun e => decide (e.2.fn = fd) && decide (e.2.mapSlot = some ((o - 0x10000) / 256))) with
      | some e => .window (e.1 / 65536) (0x1000000 + 256 * (e.1 % 65536) + o % 256)
      | none => .none)
    else .none
  | 2 => if early ∨ 2 ^ s.aperExp fn ≤ o then .none else .phys (s.aperOf fn (s.fld 0 .FN_APER_BASE fn) + o)
  | 4 => if early ∨ fn ≠ 0 ∨ ¬ s.hasDie (o / 0x10000000) then .none else .window (o / 0x10000000) (o % 0x10000000)
  | _ => .none

/-- One MSI-X table entry as its 16 bytes: address, data, vector control. -/
def msixBytes (e : MsixEnt) : List Byte := leBytes 8 e.addr ++ leBytes 4 e.data ++ leBytes 4 (b2n e.masked)

/-- The MSI-X entry of a vector; one never written is masked with address and data zero. -/
def State.msixEnt (s : State) (fn : Dom) (v : Nat) : MsixEnt := lookupD s.irq.msix (fn, v) ⟨0, 0, true⟩

/-- A write of 4 bytes into the MSI-X table; unmasking a pending vector sends its message (R303). -/
def State.msixWrite (s : State) (fn : Dom) (o x : Nat) : State :=
  let v := o / 16
  let e := s.msixEnt fn v
  let e' := match o % 16 with
    | 0 => { e with addr := e.addr / 2 ^ 32 * 2 ^ 32 + x }
    | 4 => { e with addr := e.addr % 2 ^ 32 + x * 2 ^ 32 }
    | 8 => { e with data := x }
    | 12 => { e with masked := bit x 0 }
    | _ => e
  let t := { s with irq.msix := insertKV s.irq.msix (fn, v) e' }
  if !e'.masked ∧ (fn, v) ∈ t.irq.pba then { t with irq.pba := t.irq.pba.filter (fun p => decide (p ≠ (fn, v))) }.msix fn v else t

/-- The outcome of a read over the link: its bytes, or Unsupported Request. -/
def State.complete (s : State) (c : Nat) (r : Option (List Byte)) : State :=
  match r with
  | some bs => s.send (.pcie c true bs)
  | none => s.send (.pcie c false [])

/-- A read at a physical address for a request over the link (R92, R403): a refused one completes as Unsupported Request. -/
def State.pcieRead (s : State) (c : Nat) (m : Master) (addr len : Nat) : Out :=
  match s.readAt m addr len 0 with
  | .next t => .next (match t.access with
    | .value v => t.complete c (some (leBytes len v))
    | .waits => t
    | _ => t.complete c none)
  | x => x

/-- Bytes that a request may move at once to memory; a register takes 4 or 8. -/
def State.pcieMemRead (s : State) (c : Nat) (m : Master) (addr len : Nat) : State :=
  match s.memRefusal m addr len with
  | some (t, at') => (s.busError at' t addr m false).complete c none
  | none =>
    match s.poisoned addr len with
    | some g => ((s.wake addr len).readUe g (agentOf m)).complete c none
    | none => (s.wake addr len).complete c (some (s.seen addr len))

/-- Whether an address lies in a register window or outside memory. -/
def isMemory (part : Part) (addr : Nat) : Bool :=
  match decodeAddr part 0 addr with
  | .dram _ _ | .granary _ _ | .loft _ _ => true
  | _ => false

/-- A read by physical address. -/
def State.physRead (s : State) (c : Nat) (m : Master) (addr len : Nat) : Out :=
  if isMemory s.part addr ∧ len ≠ 0 then .next (s.pcieMemRead c m addr len) else s.pcieRead c m addr len

/-- A posted write by physical address: one that is refused is dropped and logged (R403). -/
def State.physWrite (s : State) (m : Master) (addr : Nat) (data : List Byte) : Out :=
  if isMemory s.part addr ∧ data ≠ [] then
    .next (match s.memRefusal m addr data.length with
      | some (t, at') => s.busError at' t addr m true
      | none => { s.store (agentOf m) addr data with access := .done })
  else s.writeAt m addr data.length (leNat data)

/-- The inbound window of a root port that a bus address lies in, the lowest first, and the physical address it leads to (R402): 2^S bytes from BUS, S in bits 5 to 0 of
BUS_LO. -/
def State.inbound (s : State) (c addr : Nat) : Option Nat :=
  (List.range 16).findSome? (fun n =>
    let bus := s.fld c .PCIE_IB_BUS_ADDR n
    let e := bus % 64
    if 12 ≤ e ∧ e ≤ 40 ∧ addr / 2 ^ e = bus / 2 ^ e then some (s.fld c .PCIE_IB_PHYS_ADDR n / 2 ^ e * 2 ^ e + addr % 2 ^ e) else none)

/-- Whether a function is presented on a controller's link (R301, R401): PF_0 always once it answers, a VF by its assignment while VF Enable is 1. -/
def State.presented (s : State) (c fn : Nat) : Bool :=
  if fn = 0 then decide (10 ≤ s.stepOf 0) || (decide (c = 0) && decide (6 ≤ s.stepOf 0) && decide (s.fld 0 .RST_STATUS_BOOTSEL_EFF = 3))
  else decide (10 ≤ s.stepOf 0) && decide (fn ≤ 2048) && decide (s.assign fn = 1 + c)

/-- The access of a function's BAR in bytes of its own page that no register of R315 holds: the MSI-X table and the PBA (R303). -/
def State.barRead (s : State) (c fn bar o len : Nat) : Out :=
  let m := pcieMaster c (fnDom fn)
  match s.barPlace fn bar o with
  | .none => .next (s.complete c none)
  | .window d off => s.pcieRead c m (windowBase d + off) len
  | .phys a => s.physRead c m a len
  | .msix k => .next (if (len = 4 ∨ len = 8) ∧ k % len = 0 then s.complete c (some (slice (msixBytes (s.msixEnt (fnDom fn) (k / 16))) (k % 16) len)) else s.complete c none)
  | .pba k => .next (if (len = 4 ∨ len = 8) ∧ k % len = 0 then
      s.complete c (some (slice (leBytes 8 (maskOf 64 (fun v => decide ((fnDom fn, v) ∈ s.irq.pba)))) k len)) else s.complete c none)

/-- A posted write through a BAR (R302, R303). -/
def State.barWrite (s : State) (c fn bar o : Nat) (data : List Byte) : Out :=
  let m := pcieMaster c (fnDom fn)
  match s.barPlace fn bar o with
  | .none => .next s
  | .window d off => s.writeAt m (windowBase d + off) data.length (leNat data)
  | .phys a => s.physWrite m a data
  | .msix k => .next (if k % 4 = 0 ∧ (data.length = 4 ∨ data.length = 8) ∧ k % data.length = 0 then
      let t := s.msixWrite (fnDom fn) k (leAt data 0 4)
      if data.length = 8 then t.msixWrite (fnDom fn) (k + 4) (leAt data 4 4) else t
    else s)
  | .pba _ => .next s

/-- PCIE_INBOUND_REQUEST (R302, R401 to R403): at an endpoint through a BAR of one of its functions, at a root port through an inbound window. Anything else
completes as Unsupported Request, or is dropped when posted. -/
def execPcieInboundRequest (c : Nat) (q : PcieRequest) (s : State) : Out :=
  if ¬ s.hasDie c ∨ 2 ≤ c then .next s
  else if ¬ s.pcieUp c then .next s
  else
    match q with
    | .atomic => .next (s.complete c none)
    | .barRead fn bar o len => if ¬ s.pcieRoot c ∧ s.presented c fn then s.barRead c fn bar o len else .next (s.complete c none)
    | .barWrite fn bar o data => if ¬ s.pcieRoot c ∧ s.presented c fn then s.barWrite c fn bar o data else .next s
    | .busRead addr len =>
      (match (if s.pcieRoot c then s.inbound c addr else none) with
      | some a => s.physRead c (pcieMaster c 0) a len
      | none => .next (s.complete c none))
    | .busWrite addr data =>
      (match (if s.pcieRoot c then s.inbound c addr else none) with
      | some a => s.physWrite (pcieMaster c 0) a data
      | none => .next s)

end Sys2Proof.Machine
end

