-- ==== Sys2Proof/Machine/Reset.lean ====
section
/-!
DEFINITION. Machine/Reset.lean: what each reset resets and keeps (R65 to R72, R104, R113, R268), and the sources that hardware detects (R64, R87, R506).
-/
namespace Sys2Proof.Machine

/-- A reset request by a unit whose new firmware image is still on trial restores the old image in place of the reset (R132). -/
def State.trialOr (s : State) (u : FwUnit) (otherwise : State → State) : State :=
  match s.inTrial u with
  | some a => s.fwRollback a 3
  | none => otherwise s

/-- WATCHDOG_EXPIRY (R64, R87): DIE_0's resets the package. -/
def execWatchdogExpiry (d : Nat) (s : State) : Out :=
  if ¬ s.hasDie d then .next s
  else
    let go (t : State) : State := if t.fld d .RST_WDT_EN = 1 then t.requestReset 4 (.die d) d else t
    .next (match s.fw.activation with
      | some a => if a.last.kind ≠ 3 ∧ a.last.die = d then s.trialOr a.last go else go s
      | none => go s)

/-- The firmware processor of a lock-up; none for an AP. -/
def lockFw : LockUnit → Option FwUnit
  | .ap _ _ => none
  | .ccc d c => some ⟨3, d, c⟩
  | .sch d => some ⟨2, d, 0⟩
  | .pmc d => some ⟨1, d, 0⟩
  | .sec d => some ⟨0, d, 0⟩

/-- LOCK_UP (R64, R132). -/
def execLockUp (u : LockUnit) (s : State) : Out :=
  let g := lockTarget u
  let go (t : State) : State := t.requestReset 8 g.1 g.2
  if ¬ s.hasTarget g.1 ∨ ¬ s.hasDie g.2 then .next s
  else .next (match lockFw u with
    | some f => s.trialOr f go
    | none => go s)

/-- A package-scope reset (R6, R66, R104). Warm, it keeps LPDDR5X, the pins' fuse codes, OPT_ABORTS and the trip of a die; otherwise only what is
not volatile stays: fuses and flash. -/
def State.packageReset (s : State) (warm : Bool) : State :=
  let f := s.fusesStop
  { State.reset with
    part := s.part
    pending := s.pending
    free := f.free
    flash := s.flash
    out := s.out
    mem := if warm then s.mem else []
    regs := if warm then keepK s.regs (fun k => decide (k.fld = .RST_STATUS_OPT_ABORTS) || decide (k.fld = .PWR_STATUS_TRIP)) else []
    pins := ⟨[], if warm then s.pins.fuses else [], if warm then s.pins.applied else [], [], s.pins.pad, none, []⟩
    boot := { State.reset.boot with
      powered := warm
      rstNLow := s.boot.rstNLow
      due := s.boot.due
      held := s.boot.held
      holdoff := s.boot.holdoff
      dramSaved := if warm then s.dieList.filter (fun d => decide (8 ≤ s.stepOf d) || decide (d ∈ s.boot.dramSaved)) else [] }
    memy := { State.reset.memy with poison := if warm then s.memy.poison else [] }
    power := { State.reset.power with
      core := if warm then s.power.core else 750
      ap := if warm then s.power.ap else 900 }
    sec := { State.reset.sec with
      lc := f.sec.lcFuse
      lcFuse := f.sec.lcFuse
      svn := f.sec.svn
      keys := f.sec.keys
      seeds := f.sec.seeds
      pinFuse := f.sec.pinFuse
      spare := f.sec.spare
      partKey := s.sec.partKey + 1 } }

/-- The fields of a die that only a reset of the package restores (R63, R315, R485), and the trip (R495). -/
def dieKeeps : Fld → Bool
  | .SEC_STATUS_LAST_FAIL | .SEC_STATUS_DBG_LOCKOUT | .SEC_STATUS_DBG_AUTH | .SEC_STATUS_BOOT_FAIL | .SEC_STATUS_SLOT_FAIL | .SEC_STATUS_SLOT
  | .SEC_LC_SVN_FUSE | .SEC_LC_REVOKED | .SEC_LC_USE_DBG | .SEC_LC_USE_FW | .SEC_LC_LC
  | .FN_STATUS_BUSY | .FN_STATUS_ASSIGN | .FN_STATUS_BADKEY | .FN_STATUS_MSI_ERR | .FN_STATUS_FROZEN | .FN_STATUS_RESET_BUSY | .FN_STATUS_ENABLED
  | .FN_GEN_GEN | .FN_LATE_COUNT | .PWR_STATUS_TRIP => true
  | f => decide (f.blk = .CLKCTL)

/-- Kill the commands in flight that a test selects, whether or not a preemption could have killed them: their cores lose power of action. -/
def State.killLost (s : State) (rerun : Bool) (sel : Nat → SlotRef → Placed → Bool) : State :=
  s.q.slots.foldl (fun (t : State) (e : (Nat × SlotRef) × Placed) => if sel e.1.1 e.1.2 e.2 then t.kill e.1.1 e.1.2 rerun else t) s

/-- A queue of a die that is reset (R66, R299): its context stays in LPDDR5X, the registers of its page are restored until Q_ENABLE loads them, and nothing of it is
in flight. DESIGN CHOICE (notes/assumptions/47): a queue that is not FROZEN is DISABLED. -/
def Queue.afterReset (q : Queue) : Queue :=
  { q with state := if q.state = 3 then 3 else 0, dbErr := false, next := q.sqHead, bells := [], heldRecords := [], flight := [], cancelReq := [], loaded := false }

/-- The commands of a die that a reset takes: those of other dies' queues go back to their sheaves, those of its own queues end with what the SCH held (R68). -/
def State.dropQueuesOf (s : State) (d : Nat) : State :=
  let s1 := s.killLost true (fun x _ p => decide (x = d) && decide (p.queue / 65536 ≠ d))
  let s2 := s1.killLost false (fun _ _ p => decide (p.queue / 65536 = d))
  let fns := (s2.fn.freezes.map (fun f => f.fn))
  let asked := (s2.q.queues.filter (fun e => decide (e.1 / 65536 = d))).flatMap (fun e => e.2.cancelReq)
  let s3 := asked.foldl (fun (t : State) r => t.answer r 0x0203 .ok []) ((List.range 16).foldl (fun (t : State) k => t.siloGone d k) s2)
  let s3 : State := { s3 with
    q.queues := s3.q.queues.map (fun e => if e.1 / 65536 = d then (e.1, e.2.afterReset) else e)
    q.silos := s3.q.silos.filter (fun e => decide (e.1.1 ≠ d))
    q.mismatches := s3.q.mismatches.filter (fun m => decide (m.die ≠ d)) }
  fns.foldl (fun (t : State) f => t.freezeCheck f) s3

/-- What the memories of a die keep beside their bytes is dropped; LPDDR5X keeps its poison (R66, R152). -/
def State.dropMemory (s : State) (d : Nat) : State :=
  { s with
    memy.bufs := s.memy.bufs.filter (fun e => decide (e.1.1 ≠ d))
    memy.spills := s.memy.spills.filter (fun e => decide (e.1.1 ≠ d))
    memy.scrub := s.memy.scrub.filter (fun e => decide (e.1.1 ≠ d))
    memy.wrapped := s.memy.wrapped.filter (fun e => decide (e.1 ≠ d))
    memy.powerDown := s.memy.powerDown.filter (fun e => decide (e.1 ≠ d))
    memy.derated := s.memy.derated.filter (fun e => decide (e.1 ≠ d))
    memy.scratch := s.memy.scratch.filter (fun e => decide (e.1.1 ≠ d))
    memy.kvAlloc := s.memy.kvAlloc.filter (fun e => decide (e.1.1 ≠ d))
    memy.released := s.memy.released.filter (fun e => decide (e.1 ≠ d))
    memy.carried := s.memy.carried.filter (fun e => decide (e.1.1 ≠ d))
    memy.quotaReqs := s.memy.quotaReqs.filter (fun e => decide (e.1.1 ≠ d))
    memy.reservations := s.memy.reservations.filter (fun r => decide (r.1 / 512 ≠ d)) }

/-- The ports, streams and bridges of a die return to rest. -/
def State.dropPorts (s : State) (d : Nat) : State :=
  { s with
    bus.shadow := s.bus.shadow.filter (fun e => decide (e.1.1 ≠ d))
    bus.holding := s.bus.holding.filter (fun e => decide (e.1.1 ≠ d))
    bus.posted := s.bus.posted.filter (fun p => decide (p.die ≠ d) && decide (p.m.die ≠ d))
    bus.stalled := s.bus.stalled.filter (fun p => decide (p.m.die ≠ d))
    pins.ovr := s.pins.ovr.filter (fun e => decide (e.1.1 ≠ d))
    irq.imsic := s.irq.imsic.filter (fun e => decide ((e.1 - windowBase 0) / 0x10000000 ≠ d))
    irq.aplicOn := s.irq.aplicOn.filter (fun e => decide (e.1 ≠ d))
    irq.aplicRegs := s.irq.aplicRegs.filter (fun e => decide (e.1.1 ≠ d))
    frameFlags := s.frameFlags.filter (fun e => decide (e.1.1 ≠ d))
    streams := s.streams.filter (fun e => decide (e.1.1 ≠ d))
    eth.ports := s.eth.ports.filter (fun e => decide (e.1.1 ≠ d))
    eth.traps := s.eth.traps.filter (fun e => decide (e.1.1 ≠ d))
    eth.rings := s.eth.rings.filter (fun e => decide (e.1.1 ≠ d))
    ports.canFifo := s.ports.canFifo.filter (fun e => decide (e.1.1 ≠ d))
    ports.canRam := s.ports.canRam.filter (fun e => decide (e.1.1 ≠ d))
    ports.uart := s.ports.uart.filter (fun e => decide (e.1.1 ≠ d))
    ports.mvb := s.ports.mvb.filter (fun e => decide (e.1 ≠ d))
    ports.pcie := s.ports.pcie.filter (fun e => decide (e.1 ≠ d))
    ports.retrains := s.ports.retrains.filter (fun e => decide (e.1.1 ≠ d))
    ports.reserved := s.ports.reserved.filter (fun e => decide (e.1 ≠ d))
    ports.semWaits := s.ports.semWaits.filter (fun e => decide (e.1 ≠ d) && decide (e.2.1.die ≠ d))
    ports.retries := s.ports.retries.filter (fun e => decide (e.1.1 ≠ d)) }

/-- Processors inside a scope run the image that the boot chain loads (R135). -/
def State.reloadFw (s : State) (sel : FwUnit → Bool) : State :=
  let s1 : State := match s.fw.activation with
    | some a => if sel a.last ∧ (a.phase = FwPhase.blackout ∨ a.phase = FwPhase.probation) then s.fwEnd a 4 else s
    | none => s
  match s1.fw.bundle with
  | some b =>
    ({ s1 with
      fw.running := s1.fw.running.map (fun e => if sel e.1 then (e.1, b) else e)
      fw.previous := s1.fw.previous.filter (fun e => !sel e.1) } : State).startCores b (s1.fwUnits.filter sel)
  | none => s1

/-- A reset of die scope, of a die other than DIE_0 (R6, R66, R104, R113, R299). DESIGN CHOICE (notes/assumptions/89): DRAM_STATUS.SELF_REFRESH, a field that the
reset restores, reads 0 until step 8, though the memory is in self-refresh (R67). -/
def State.dieReset (s : State) (d : Nat) : State :=
  let s1 := (s.reloadFw (fun u => decide (u.die = d))).dropQueuesOf d
  let s2 := ((s1.dropMemory d).dropPorts d).restore (fun k => decide (k.die = d) && !dieKeeps k.fld)
  let cores := (List.range 48).map (fun c => ((d, c), s2.now))
  let s3 : State := { s2 with
    mail.boxes := s2.mail.boxes.map (fun e => if homeOf s2.part.dies e.1 = d then (e.1, { Mailbox.empty with orphans := e.2.pending }) else e)
    mail.bells := s2.mail.bells.filter (fun e => decide (homeOf s2.part.dies e.1 ≠ d))
    mail.aplic := s2.mail.aplic.filter (fun e => decide (e.1 ≠ d))
    safe.tested := s2.safe.tested.filter (fun e => decide (e.1.1 ≠ d)) ++ cores
    safe.period := s2.safe.period.filter (fun e => decide (e.1.1 ≠ d)) ++ cores
    safe.silent := s2.safe.silent.filter (fun e => decide (e.1 ≠ d))
    safe.slot := s2.safe.slot.filter (fun e => decide (e.1 ≠ d))
    safe.retry := s2.safe.retry.filter (fun e => decide (e.1 ≠ d))
    safe.spare := s2.safe.spare.filter (fun e => decide (e.1 ≠ d))
    safe.untested := s2.safe.untested.filter (fun e => decide (e.1.1 ≠ d))
    safe.rejoin := s2.safe.rejoin.filter (fun e => decide (e.1 ≠ d))
    pairs := s2.pairs.filter (fun e => decide (e.1.1 ≠ d))
    power.dies := s2.power.dies.filter (fun e => decide (e.1 ≠ d))
    power.outside := s2.power.outside.filter (fun e => decide (e.1.1 ≠ d))
    time.replicas := s2.time.replicas.filter (fun x => decide (x ≠ d))
    boot.down := s2.boot.down.filter (fun x => decide (x.1 ≠ d))
    boot.forced := s2.boot.forced.filter (fun x => decide (x.1 ≠ d))
    boot.zeroed := s2.boot.zeroed.filter (fun x => decide (x.1 ≠ d))
    boot.dramSaved := if 8 ≤ s2.stepOf d ∧ d ∉ s2.boot.dramSaved then s2.boot.dramSaved ++ [d] else s2.boot.dramSaved }
  s3.setStep d 0

/-- What firmware does to the sequences of a pool whose slice is zeroed (R268): each is emptied as by KV_RELEASE, and every page is in the chain. -/
def State.emptyPool (s : State) (d : Nat) (e : (Nat × Nat) × (Nat × Nat)) : State :=
  let i := e.1.2
  let seqs := (s.memy.kvAlloc.filter (fun x => decide (x.1.1 = d) && decide (x.1.2 % 4 = 0) && decide ((s.kvSeq d [] x.1.2).pool = i) &&
    decide ((s.kvSeq d [] x.1.2).list = x.1.2 + 4) && decide ((s.kvSeq d [] x.1.2).flags % 2 = 1))).map (fun x => s.kvSeq d [] x.1.2)
  let r := s.kvApply d (seqs.flatMap (s.releaseOps d))
  let p := s.kvPool d [] i
  let v := (List.range p.pages).foldl (fun v n => if (s.kvPte d v (p.base + n)).ref = 0 then v else s.kvGive d v (p.base + n)) r.1
  s.kvCommit d (v, r.2)

/-- The pools that lie in a slice: their records stand, and their buffers are not spilled. -/
def State.poolsIn (s : State) (d c : Nat) : List ((Nat × Nat) × (Nat × Nat)) :=
  s.memy.kvAlloc.filter (fun e =>
    let p := s.kvPool d [] e.1.2
    decide (e.1.1 = d) && decide (p.base = e.1.2 + 1) && decide (e.2.2 = p.pages + 1) && (match s.bufOf p.handle with
      | some b => !b.spilled && decide (handleDie p.handle = d) && decide (b.slice = c)
      | none => false))

/-- The correctable counts of a slice (R104). -/
def ceField : Fld → Bool
  | .GRN_CE_COUNT_BG0 | .GRN_CE_COUNT_BG1 | .GRN_CE_COUNT_BG2 | .GRN_CE_COUNT_BG3 => true
  | _ => false

/-- The times of the cores of a cluster begin again (R104, R466). -/
def restartCores (d c now : Nat) (l : List ((Nat × Nat) × Nat)) : List ((Nat × Nat) × Nat) :=
  l.filter (fun e => !(decide (e.1.1 = d) && decide (e.1.2 / 8 = c))) ++ (rangeFrom (8 * c) 8).map (fun k => ((d, k), now))

/-- The fields that a reset of cluster scope restores (R104): those of its CCC, and the correctable counts of its slice. -/
def clusterFld (d c : Nat) (k : FK) : Bool :=
  decide (k.die = d) && ((decide (k.fld.blk = .CCC) && decide (fldGroup k.fld k.i = some (4 + c))) || (ceField k.fld && decide (k.i = c)))

/-- A reset of cluster scope (R66, R68, R101, R104, R268). -/
def State.clusterReset (s : State) (d c : Nat) : State :=
  let inside (r : SlotRef) : Bool := match r with
    | .core x _ => decide (x / 8 = c)
    | .raster _ => false
  let s1 := (s.reloadFw (fun u => decide (u = ⟨3, d, c⟩))).killLost true (fun x r _ => decide (x = d) && inside r)
  let s2 : State := { s1 with q.mismatches := s1.q.mismatches.filter (fun m => !(decide (m.die = d) && (inside m.main || inside m.checker))) }
  let s3 := ((s2.showSeq d).restore (clusterFld d c)).dropPairs (clusterFld d c)
  let s4 : State := { s3 with
    boot.down := if (d, 4 + c) ∈ s3.boot.down then s3.boot.down else s3.boot.down ++ [(d, 4 + c)]
    boot.forced := s3.boot.forced.filter (fun x => decide (x ≠ (d, 4 + c)))
    boot.zeroed := s3.boot.zeroed.filter (fun x => decide (x ≠ (d, c)))
    safe.tested := restartCores d c s3.now s3.safe.tested
    safe.period := restartCores d c s3.now s3.safe.period }
  (s4.poolsIn d c).foldl (fun (t : State) e => t.emptyPool d e) s4

/-- Whether a master is an AP of a die. -/
def isAp (d a : Nat) (m : Master) : Bool := decide (m.die = d) && decide (m.kind = .ap) && decide (m.index = a)

/-- Whether an address is one of the IMSIC files of an AP (R127). -/
def imsicOfAp (d a file : Nat) : Bool :=
  let o := file - (windowBase d + 0x900000)
  decide (windowBase d + 0x900000 ≤ file) && ((decide (0x10000 + a * 0x1000 ≤ o) && decide (o < 0x11000 + a * 0x1000)) ||
    (decide (0x20000 + a * 0x8000 ≤ o) && decide (o < 0x28000 + a * 0x8000)))

/-- When both APs of a pair are in reset, the pair forms or dissolves as APPAIR_CFG has it, and its status bits are restored (R426, R440). -/
def State.pairForm (s : State) (d p : Nat) : State :=
  if (d, 2 * p) ∈ s.boot.down ∧ (d, 2 * p + 1) ∈ s.boot.down then
    let en := s.fld d (if p = 0 then .APPAIR_CFG_EN0 else .APPAIR_CFG_EN1)
    let s1 := s.setFlds d 0 [(.APPAIR_STATUS_ACTIVE, putBits (s.fld d .APPAIR_STATUS_ACTIVE) p p en),
      (.APPAIR_STATUS_DEGRADED, clearBit (s.fld d .APPAIR_STATUS_DEGRADED) p), (.APPAIR_STATUS_OUT, putBits (s.fld d .APPAIR_STATUS_OUT) (2 * p + 1) (2 * p) 0)]
    { s1 with pairs := eraseK s1.pairs (d, p) }
  else s

/-- A reset of AP scope (R66, R68, R104, R113). -/
def State.apReset (s : State) (d a : Nat) : State :=
  let s1 := s.mbClose (apDom d a)
  let s2 : State := { s1 with
    irq.imsic := s1.irq.imsic.filter (fun e => !imsicOfAp d a e.1)
    memy.reservations := s1.memy.reservations.filter (fun r => decide (r.1 ≠ d * 512 + 64 + a))
    bus.stalled := s1.bus.stalled.filter (fun x => !isAp d a x.m)
    ports.semWaits := s1.ports.semWaits.filter (fun x => !isAp d a x.2.1)
    boot.down := if (d, a) ∈ s1.boot.down then s1.boot.down else s1.boot.down ++ [(d, a)]
    boot.forced := s1.boot.forced.filter (fun x => decide (x ≠ (d, a))) }
  (s2.showSeq d).pairForm d (a / 2)

/-- The Class S silos whose work a warm reset ends (R69). -/
def State.lostSilos (s : State) (t : ResetTarget) : List (Nat × Nat) :=
  match t with
  | .package => s.classSOf s.dieList
  | .die d => s.classSOf [d]
  | .cluster d c => (s.classSOf [d]).filter (fun x => decide (bits (s.fld d .SILO_MASK_MASK x.2) (8 * c + 7) (8 * c) ≠ 0))
  | .ap d a => (s.pins.claims.filter (fun e => decide (e.1.1 = 2) && decide (e.2.1 = apDom d a) && decide (e.2.2 = 0))).map (fun e => e.1.2)

/-- RST_CAUSE of the dies that a reset reaches (R70, R89). -/
def State.recordCause (s : State) (q : ResetReq) : State :=
  (reachedDies s.part.dies q.target).foldl (fun (t : State) d => t.setFlds d 0
    [(.RST_CAUSE_CAUSE, q.cause), (.RST_CAUSE_SCOPE, scopeCode q.target), (.RST_CAUSE_SRC_DIE, q.srcDie), (.RST_CAUSE_TARGET, targetCode q.target),
     (.RST_CAUSE_MERGED, b2n q.merged)]) s

/-- A warm reset (R66 to R70). A reset narrower than the package that ends Class S work is a fault of source 8, and it counts in the Tithe store; that of the
package counts at step 8. One that arrives during step 6 aborts the option load (R81). -/
def State.warmReset (s : State) (q : ResetReq) : State :=
  let s0 := if s.stepOf 0 = 5 ∧ s.boot.pkg ∧ s.fld 0 .RST_STATUS_BOOTSEL_RAW = 15 then
    s.setFld 0 .RST_STATUS_OPT_ABORTS 0 (min 3 (s.fld 0 .RST_STATUS_OPT_ABORTS + 1)) else s
  match q.target with
  | .package => (s0.packageReset true).recordCause q
  | t =>
    let s1 := if s0.reachesClassS t then s0.source { src := 8, die := (reachedDies s0.part.dies t).headD 0 } (s0.lostSilos t) else s0
    let s2 := if s1.fwRuns 0 then s1.titheAdd (0x04C + 6 * (q.cause - 1)) 1 else s1
    (match t with
      | .die d => s2.dieReset d
      | .cluster d c => s2.clusterReset d c
      | .ap d a => s2.apReset d a
      | .package => s2).recordCause q

/-- A reset is released (R71, R72): while RST_N is low, one of the package is released with the pin; any other at once. From the release of a package
reset every domain runs from IRC at its limp divider (R73). -/
def State.startHoldoff (s : State) (t : ResetTarget) : State :=
  if t = .package ∧ s.boot.rstNLow then s else (if t = .package then s.allLimp else s).released t

/-- RESET_TAKE_EFFECT (R66 to R72): the first reset that is due takes effect; those still due that it now covers are held. -/
def execResetTakeEffect (s : State) : Out :=
  .next (match s.boot.due with
    | [] => s
    | q :: rest =>
      if ¬ s.boot.powered then s
      else
        let s1 := ({ s with boot.due := [] } : State).warmReset q
        let s2 := s1.startHoldoff q.target
        { s2 with boot.due := rest.filter (fun x => !s2.mustHold x.target), boot.held := s2.boot.held ++ rest.filter (fun x => s2.mustHold x.target) })

/-- POWER_ON_RELEASE (R506, R73): the start-up begins, and the hold-off of the release with it (R72). -/
def execPowerOnRelease (s : State) : Out :=
  .next (if s.boot.powered then s else ({ s with boot.powered := true } : State).startHoldoff .package)

/-- BROWN_OUT (R64, R72, R506): it aborts whatever is in progress, and the part is held until POWER_ON_RELEASE. -/
def execBrownOut (d : Nat) (s : State) : Out :=
  if ¬ s.hasDie d then .next s
  else .next (((({ s with boot.due := [], boot.held := [], boot.holdoff := [] } : State).packageReset false)).recordCause ⟨2, .package, d, false⟩)

end Sys2Proof.Machine
end

