-- ==== Sys2Proof/Machine/Dispatch.lean ====
section
/-!
DEFINITION. Machine/Dispatch.lean: one arm per command.
-/
namespace Sys2Proof.Machine

/-- The effect of a command on everything but the queue of waiting commands. -/
def exec (i : Instr) (s : State) : Host.Outcome State Fault Refusal :=
  match i with
  | .powerOnRelease => Sys2Proof.Machine.execPowerOnRelease s
  | .brownOut die => Sys2Proof.Machine.execBrownOut die s
  | .rstNAssert => Sys2Proof.Machine.execRstNAssert s
  | .rstNRelease => Sys2Proof.Machine.execRstNRelease s
  | .watchdogExpiry die => Sys2Proof.Machine.execWatchdogExpiry die s
  | .rstWdtKickWrite m die data => Sys2Proof.Machine.execRstWdtKickWrite m die data s
  | .rstSwreqWrite m die data => Sys2Proof.Machine.execRstSwreqWrite m die data s
  | .debugResetRequest r => Sys2Proof.Machine.execDebugResetRequest r s
  | .lockUp u => Sys2Proof.Machine.execLockUp u s
  | .resetTakeEffect => Sys2Proof.Machine.execResetTakeEffect s
  | .holdoffEnd t => Sys2Proof.Machine.execHoldoffEnd t s
  | .trimLoadEnd die parityFail conversions => Sys2Proof.Machine.execTrimLoadEnd die parityFail conversions s
  | .xoJudgementEnd counts => Sys2Proof.Machine.execXoJudgementEnd counts s
  | .pllJudgementEnd root tref => Sys2Proof.Machine.execPllJudgementEnd root tref s
  | .optionLoadEnd => Sys2Proof.Machine.execOptionLoadEnd s
  | .bootVerifyEnd fromPartner => Sys2Proof.Machine.execBootVerifyEnd fromPartner s
  | .dramTrainingEnd die => Sys2Proof.Machine.execDramTrainingEnd die s
  | .fabricUp t => Sys2Proof.Machine.execFabricUp t s
  | .firmwareStart t => Sys2Proof.Machine.execFirmwareStart t s
  | .rstctlForceWrite m die data => Sys2Proof.Machine.execRstctlForceWrite m die data s
  | .forcedGroupClockStable die group => Sys2Proof.Machine.execForcedGroupClockStable die group s
  | .resetRequest r scope die target => Sys2Proof.Machine.execResetRequest r scope die target s
  | .resetQuery r die => Sys2Proof.Machine.execResetQuery r die s
  | .optRead r => Sys2Proof.Machine.execOptRead r s
  | .optWrite r expected options => Sys2Proof.Machine.execOptWrite r expected options s
  | .rstStatusRead m die => Sys2Proof.Machine.execRstStatusRead m die s
  | .clkmonWindowEnd die w => Sys2Proof.Machine.execClkmonWindowEnd die w s
  | .clkAckTimeout => Sys2Proof.Machine.execClkAckTimeout s
  | .clkAckWrite m die data => Sys2Proof.Machine.execClkAckWrite m die data s
  | .dividerRampStep die domain => Sys2Proof.Machine.execDividerRampStep die domain s
  | .clkDivTargetWrite m die domain data => Sys2Proof.Machine.execClkDivTargetWrite m die domain data s
  | .clkCtrlRestore m die data => Sys2Proof.Machine.execClkCtrlRestore m die data s
  | .sscDepthApply => Sys2Proof.Machine.execSscDepthApply s
  | .restoreJudgementEnd xo root tref => Sys2Proof.Machine.execRestoreJudgementEnd xo root tref s
  | .clkQuery r die => Sys2Proof.Machine.execClkQuery r die s
  | .clkSpread r depth => Sys2Proof.Machine.execClkSpread r depth s
  | .clkRestore r => Sys2Proof.Machine.execClkRestore r s
  | .claim r range => Sys2Proof.Machine.execClaim r range s
  | .release r range => Sys2Proof.Machine.execRelease r range s
  | .pinConfig r die index image => Sys2Proof.Machine.execPinConfig r die index image s
  | .pinQuery r die index => Sys2Proof.Machine.execPinQuery r die index s
  | .pincfgWrite m die index data => Sys2Proof.Machine.execPincfgWrite m die index data s
  | .pinmuxOvrWrite m die data => Sys2Proof.Machine.execPinmuxOvrWrite m die data s
  | .registerWrite m addr size data => Sys2Proof.Machine.execRegisterWrite m addr size data s
  | .postedWriteComplete die blk => Sys2Proof.Machine.execPostedWriteComplete die blk s
  | .pairLoRead m addr => Sys2Proof.Machine.execPairLoRead m addr s
  | .pairHiRead m addr => Sys2Proof.Machine.execPairHiRead m addr s
  | .pairLoWrite m addr data => Sys2Proof.Machine.execPairLoWrite m addr data s
  | .pairHiWrite m addr data => Sys2Proof.Machine.execPairHiWrite m addr data s
  | .rcRegisterRead m addr size sameClock => Sys2Proof.Machine.execRcRegisterRead m addr size sameClock s
  | .fabStatusRead m die => Sys2Proof.Machine.execFabStatusRead m die s
  | .mbReqTailWrite m dom data units => Sys2Proof.Machine.execMbReqTailWrite m dom data units s
  | .mbRspHeadWrite m dom data => Sys2Proof.Machine.execMbRspHeadWrite m dom data s
  | .mbNotifyWrite m dom data => Sys2Proof.Machine.execMbNotifyWrite m dom data s
  | .requestStart dom headerUe payloadUe => Sys2Proof.Machine.execRequestStart dom headerUe payloadUe s
  | .hello r major minor features => Sys2Proof.Machine.execHello r major minor features s
  | .goodbye r => Sys2Proof.Machine.execGoodbye r s
  | .ping r payload => Sys2Proof.Machine.execPing r payload s
  | .event r => Sys2Proof.Machine.execEvent r s
  | .eventMask r mask notifyEn vector => Sys2Proof.Machine.execEventMask r mask notifyEn vector s
  | .eventRingWrite dom => Sys2Proof.Machine.execEventRingWrite dom s
  | .fwStage r addr len => Sys2Proof.Machine.execFwStage r addr len s
  | .fwActivate r kinds dieMask clusterMask flags => Sys2Proof.Machine.execFwActivate r kinds dieMask clusterMask flags s
  | .fwStatus r => Sys2Proof.Machine.execFwStatus r s
  | .fwAbort r => Sys2Proof.Machine.execFwAbort r s
  | .shadowCopyEnd => Sys2Proof.Machine.execShadowCopyEnd s
  | .handoffPoint recordRejected => Sys2Proof.Machine.execHandoffPoint recordRejected s
  | .adoptionDeclared => Sys2Proof.Machine.execAdoptionDeclared s
  | .abandonPoint => Sys2Proof.Machine.execAbandonPoint s
  | .probationEnd => Sys2Proof.Machine.execProbationEnd s
  | .fwPersistWriteEnd ok => Sys2Proof.Machine.execFwPersistWriteEnd ok s
  | .eccCorrectionWriteback master addr syndrome origin overwritten => Sys2Proof.Machine.execEccCorrectionWriteback master addr syndrome origin overwritten s
  | .scrubRead die unit found => Sys2Proof.Machine.execScrubRead die unit found s
  | .dramReread master addr bg bank rank rereads clean => Sys2Proof.Machine.execDramReread master addr bg bank rank rereads clean s
  | .eccCountCollect die => Sys2Proof.Machine.execEccCountCollect die s
  | .dramPowerDownEntry die channel => Sys2Proof.Machine.execDramPowerDownEntry die channel s
  | .spillStart die silo slice => Sys2Proof.Machine.execSpillStart die silo slice s
  | .spillCopyEnd die silo slice => Sys2Proof.Machine.execSpillCopyEnd die silo slice s
  | .refillCopyEnd die silo slice => Sys2Proof.Machine.execRefillCopyEnd die silo slice s
  | .grnQuotaWrite m die silo slice data => Sys2Proof.Machine.execGrnQuotaWrite m die silo slice data s
  | .loftMapWrite m die data => Sys2Proof.Machine.execLoftMapWrite m die data s
  | .loftScratchWrite m die silo data => Sys2Proof.Machine.execLoftScratchWrite m die silo data s
  | .grnDramStatusRead m die dram => Sys2Proof.Machine.execGrnDramStatusRead m die dram s
  | .memQuota r die silo slice quota => Sys2Proof.Machine.execMemQuota r die silo slice quota s
  | .memAlloc r die silo slice flags length => Sys2Proof.Machine.execMemAlloc r die silo slice flags length s
  | .memFree r handle => Sys2Proof.Machine.execMemFree r handle s
  | .memBufQuery r handle => Sys2Proof.Machine.execMemBufQuery r handle s
  | .memLoftMap r die kvMib stookMib => Sys2Proof.Machine.execMemLoftMap r die kvMib stookMib s
  | .memEccQuery r die => Sys2Proof.Machine.execMemEccQuery r die s
  | .matmul die core => Sys2Proof.Machine.execMatmul die core s
  | .conv die core => Sys2Proof.Machine.execConv die core s
  | .attend die core => Sys2Proof.Machine.execAttend die core s
  | .kvAppend die core => Sys2Proof.Machine.execKvAppend die core s
  | .kvFork die core => Sys2Proof.Machine.execKvFork die core s
  | .kvRelease die core => Sys2Proof.Machine.execKvRelease die core s
  | .unary die core => Sys2Proof.Machine.execUnary die core s
  | .binary die core => Sys2Proof.Machine.execBinary die core s
  | .reduce die core => Sys2Proof.Machine.execReduce die core s
  | .softmax die core => Sys2Proof.Machine.execSoftmax die core s
  | .norm die core => Sys2Proof.Machine.execNorm die core s
  | .convert die core => Sys2Proof.Machine.execConvert die core s
  | .dwconv die core => Sys2Proof.Machine.execDwconv die core s
  | .pool die core => Sys2Proof.Machine.execPool die core s
  | .resample die core => Sys2Proof.Machine.execResample die core s
  | .gather die core => Sys2Proof.Machine.execGather die core s
  | .neighbours die core => Sys2Proof.Machine.execNeighbours die core s
  | .setOp die core => Sys2Proof.Machine.execSetOp die core s
  | .hashBuild die core => Sys2Proof.Machine.execHashBuild die core s
  | .hashProbe die core => Sys2Proof.Machine.execHashProbe die core s
  | .radixSort die core => Sys2Proof.Machine.execRadixSort die core s
  | .segReduce die core => Sys2Proof.Machine.execSegReduce die core s
  | .scatter die core => Sys2Proof.Machine.execScatter die core s
  | .frontier die core => Sys2Proof.Machine.execFrontier die core s
  | .copy die core => Sys2Proof.Machine.execCopy die core s
  | .nop die core => Sys2Proof.Machine.execNop die core s
  | .signal die core => Sys2Proof.Machine.execSignal die core s
  | .render die ctx => Sys2Proof.Machine.execRender die ctx s
  | .fastClear die ctx => Sys2Proof.Machine.execFastClear die ctx s
  | .expand die ctx => Sys2Proof.Machine.execExpand die ctx s
  | .shadingBatch die core ctx => Sys2Proof.Machine.execShadingBatch die core ctx s
  | .teQuery r die cluster core => Sys2Proof.Machine.execTeQuery r die cluster core s
  | .veQuery r die cluster core => Sys2Proof.Machine.execVeQuery r die cluster core s
  | .xeQuery r die cluster core => Sys2Proof.Machine.execXeQuery r die cluster core s
  | .winQuery r die cluster core => Sys2Proof.Machine.execWinQuery r die cluster core s
  | .kvPoolCreate r handle pages => Sys2Proof.Machine.execKvPoolCreate r handle pages s
  | .kvPoolDestroy r pool => Sys2Proof.Machine.execKvPoolDestroy r pool s
  | .kvSeqCreate r c => Sys2Proof.Machine.execKvSeqCreate r c s
  | .kvSeqDestroy r seq => Sys2Proof.Machine.execKvSeqDestroy r seq s
  | .kvSeqQuery r seq => Sys2Proof.Machine.execKvSeqQuery r seq s
  | .kvSeqSet r seq budget recent reserve decay evict => Sys2Proof.Machine.execKvSeqSet r seq budget recent reserve decay evict s
  | .qdbSqTailWrite m queue data written => Sys2Proof.Machine.execQdbSqTailWrite m queue data written s
  | .qdbCqHeadWrite m queue data => Sys2Proof.Machine.execQdbCqHeadWrite m queue data s
  | .sheafFetch queue => Sys2Proof.Machine.execSheafFetch queue s
  | .sheafReady queue count => Sys2Proof.Machine.execSheafReady queue count s
  | .commandPlace die => Sys2Proof.Machine.execCommandPlace die s
  | .commandCommit die place => Sys2Proof.Machine.execCommandCommit die place s
  | .quantumBoundary die silo => Sys2Proof.Machine.execQuantumBoundary die silo s
  | .coresGuaranteeCheck die silo => Sys2Proof.Machine.execCoresGuaranteeCheck die silo s
  | .displayReserveStart die silo => Sys2Proof.Machine.execDisplayReserveStart die silo s
  | .siloSpanAck silo dieMask => Sys2Proof.Machine.execSiloSpanAck silo dieMask s
  | .qCreate r c => Sys2Proof.Machine.execQCreate r c s
  | .qDestroy r queue => Sys2Proof.Machine.execQDestroy r queue s
  | .qEnable r queue => Sys2Proof.Machine.execQEnable r queue s
  | .qDisable r queue => Sys2Proof.Machine.execQDisable r queue s
  | .qQuery r queue => Sys2Proof.Machine.execQQuery r queue s
  | .qAcct r queue reset => Sys2Proof.Machine.execQAcct r queue reset s
  | .siloSet r die silo c => Sys2Proof.Machine.execSiloSet r die silo c s
  | .siloQuery r die silo => Sys2Proof.Machine.execSiloQuery r die silo s
  | .siloSpan r silo dieMask => Sys2Proof.Machine.execSiloSpan r silo dieMask s
  | .schQctlEnable m die queue => Sys2Proof.Machine.execSchQctlEnable m die queue s
  | .schQctlDisable m die queue => Sys2Proof.Machine.execSchQctlDisable m die queue s
  | .schQctlDrain m die queue => Sys2Proof.Machine.execSchQctlDrain m die queue s
  | .fnConfig r fn assign quota vectors aperBase => Sys2Proof.Machine.execFnConfig r fn assign quota vectors aperBase s
  | .fnReset r fn => Sys2Proof.Machine.execFnReset r fn s
  | .fnQuery r fn => Sys2Proof.Machine.execFnQuery r fn s
  | .fnQmap r fn first => Sys2Proof.Machine.execFnQmap r fn first s
  | .fnGlobal r controller a => Sys2Proof.Machine.execFnGlobal r controller a s
  | .fnFreeze r fn => Sys2Proof.Machine.execFnFreeze r fn s
  | .fnSave r fn flags maxLen addr => Sys2Proof.Machine.execFnSave r fn flags maxLen addr s
  | .fnRestore r fn flags len addr dieMap => Sys2Proof.Machine.execFnRestore r fn flags len addr dieMap s
  | .fnThaw r fn => Sys2Proof.Machine.execFnThaw r fn s
  | .fnDiscard r fn => Sys2Proof.Machine.execFnDiscard r fn s
  | .functionLevelReset controller fn => Sys2Proof.Machine.execFunctionLevelReset controller fn s
  | .fnResetRegWrite m fn data => Sys2Proof.Machine.execFnResetRegWrite m fn data s
  | .fnCfgWrite m fn data => Sys2Proof.Machine.execFnCfgWrite m fn data s
  | .numvfsWrite controller numVfs vfEnable => Sys2Proof.Machine.execNumvfsWrite controller numVfs vfEnable s
  | .genDrainEnd fn => Sys2Proof.Machine.execGenDrainEnd fn s
  | .functionResetEnd fn => Sys2Proof.Machine.execFunctionResetEnd fn s
  | .verticalBlank head => Sys2Proof.Machine.execVerticalBlank head s
  | .scanoutTileRowDue head ready => Sys2Proof.Machine.execScanoutTileRowDue head ready s
  | .hpdChange head level => Sys2Proof.Machine.execHpdChange head level s
  | .headImgHiWrite m head data => Sys2Proof.Machine.execHeadImgHiWrite m head data s
  | .headCtrlEnWrite m head data => Sys2Proof.Machine.execHeadCtrlEnWrite m head data s
  | .rasStookSet r die loc sizeMib addr => Sys2Proof.Machine.execRasStookSet r die loc sizeMib addr s
  | .rasQuery r die => Sys2Proof.Machine.execRasQuery r die s
  | .dispMode r c training => Sys2Proof.Machine.execDispMode r c training s
  | .dispFlip r head addr => Sys2Proof.Machine.execDispFlip r head addr s
  | .dispQuery r head => Sys2Proof.Machine.execDispQuery r head s
  | .dispOff r head => Sys2Proof.Machine.execDispOff r head s
  | .csiShortPacket die rx h number => Sys2Proof.Machine.execCsiShortPacket die rx h number s
  | .csiLongPacket die rx h payload crcOk => Sys2Proof.Machine.execCsiLongPacket die rx h payload crcOk s
  | .gvspPacket die udpPort p => Sys2Proof.Machine.execGvspPacket die udpPort p s
  | .frameComplete die stream => Sys2Proof.Machine.execFrameComplete die stream s
  | .goldenCopyEnd die stream => Sys2Proof.Machine.execGoldenCopyEnd die stream s
  | .strCfgWrite m die stream offset data => Sys2Proof.Machine.execStrCfgWrite m die stream offset data s
  | .odoEdgeAccept channel levelA levelB => Sys2Proof.Machine.execOdoEdgeAccept channel levelA levelB s
  | .odoZEdge channel => Sys2Proof.Machine.execOdoZEdge channel s
  | .tachEdge tach cycles => Sys2Proof.Machine.execTachEdge tach cycles s
  | .odoWindowEnd => Sys2Proof.Machine.execOdoWindowEnd s
  | .odoDistWrite m channel data => Sys2Proof.Machine.execOdoDistWrite m channel data s
  | .camRxSet r die rx mode lanes rate => Sys2Proof.Machine.execCamRxSet r die rx mode lanes rate s
  | .camStreamSet r die stream images => Sys2Proof.Machine.execCamStreamSet r die stream images s
  | .camStreamQuery r die stream => Sys2Proof.Machine.execCamStreamQuery r die stream s
  | .odoSet r channel cfg slip ratio => Sys2Proof.Machine.execOdoSet r channel cfg slip ratio s
  | .odoPreset r channel dist => Sys2Proof.Machine.execOdoPreset r channel dist s
  | .odoQuery r channel => Sys2Proof.Machine.execOdoQuery r channel s
  | .tachSet r tach cfg => Sys2Proof.Machine.execTachSet r tach cfg s
  | .ppsInEdge => Sys2Proof.Machine.execPpsInEdge s
  | .holdoverTimeout tb => Sys2Proof.Machine.execHoldoverTimeout tb s
  | .replicaAlign => Sys2Proof.Machine.execReplicaAlign s
  | .timeTriggerFire trg => Sys2Proof.Machine.execTimeTriggerFire trg s
  | .triggerPulseEnd trg => Sys2Proof.Machine.execTriggerPulseEnd trg s
  | .ppsOutPulse => Sys2Proof.Machine.execPpsOutPulse s
  | .cmp32Match k => Sys2Proof.Machine.execCmp32Match k s
  | .tscapEdge die input rising => Sys2Proof.Machine.execTscapEdge die input rising s
  | .tbAdjWrite m tb data => Sys2Proof.Machine.execTbAdjWrite m tb data s
  | .tbOffsetHiWrite m tb data => Sys2Proof.Machine.execTbOffsetHiWrite m tb data s
  | .tbSetnsecWrite m tb data => Sys2Proof.Machine.execTbSetnsecWrite m tb data s
  | .trgCfgWrite m trg offset data => Sys2Proof.Machine.execTrgCfgWrite m trg offset data s
  | .cmp32NsecWrite m k data => Sys2Proof.Machine.execCmp32NsecWrite m k data s
  | .tbQuery r tb => Sys2Proof.Machine.execTbQuery r tb s
  | .tbSet r c => Sys2Proof.Machine.execTbSet r c s
  | .tbOffset r tb theta => Sys2Proof.Machine.execTbOffset r tb theta s
  | .tbStep r tb sec nsec => Sys2Proof.Machine.execTbStep r tb sec nsec s
  | .ppsOutSet r tb en width => Sys2Proof.Machine.execPpsOutSet r tb en width s
  | .trgSet r c => Sys2Proof.Machine.execTrgSet r c s
  | .trgQuery r trg => Sys2Proof.Machine.execTrgQuery r trg s
  | .tscapSet r die input en edge tb => Sys2Proof.Machine.execTscapSet r die input en edge tb s
  | .tscapRead r die input => Sys2Proof.Machine.execTscapRead r die input s
  | .cmp32Set r k tb en sec nsec => Sys2Proof.Machine.execCmp32Set r k tb en sec nsec s
  | .ethFrameRx die port frame fcsOk => Sys2Proof.Machine.execEthFrameRx die port frame fcsOk s
  | .ethFrameTx die port => Sys2Proof.Machine.execEthFrameTx die port s
  | .gclEntryEnd die port => Sys2Proof.Machine.execGclEntryEnd die port s
  | .cpuTxDescriptor die ring => Sys2Proof.Machine.execCpuTxDescriptor die ring s
  | .canFrameRx die ctrl f => Sys2Proof.Machine.execCanFrameRx die ctrl f s
  | .canBusoffRejoin die ctrl => Sys2Proof.Machine.execCanBusoffRejoin die ctrl s
  | .uartCharacter die uart u => Sys2Proof.Machine.execUartCharacter die uart u s
  | .mvbTelegram die t => Sys2Proof.Machine.execMvbTelegram die t s
  | .pcieLinkTraining controller trained => Sys2Proof.Machine.execPcieLinkTraining controller trained s
  | .pcieInboundRequest controller q => Sys2Proof.Machine.execPcieInboundRequest controller q s
  | .pcieAerError controller uncorrectable correctable header => Sys2Proof.Machine.execPcieAerError controller uncorrectable correctable header s
  | .mirsiaRetrain die link ok lanesRepaired => Sys2Proof.Machine.execMirsiaRetrain die link ok lanesRepaired s
  | .xspiCommand m c => Sys2Proof.Machine.execXspiCommand m c s
  | .postedWriteFail die blk cause => Sys2Proof.Machine.execPostedWriteFail die blk cause s
  | .fbrReadRelease die => Sys2Proof.Machine.execFbrReadRelease die s
  | .fbrHeadOnRetry die engine => Sys2Proof.Machine.execFbrHeadOnRetry die engine s
  | .fbrSemTimeout die => Sys2Proof.Machine.execFbrSemTimeout die s
  | .fbrSemReleaseWrite m die data => Sys2Proof.Machine.execFbrSemReleaseWrite m die data s
  | .fbrAtomicEmulation m addr op => Sys2Proof.Machine.execFbrAtomicEmulation m addr op s
  | .fbrStatusRead m die => Sys2Proof.Machine.execFbrStatusRead m die s
  | .ethPortSet r die port speed fec an latIn latOut => Sys2Proof.Machine.execEthPortSet r die port speed fec an latIn latOut s
  | .ethPortQuery r die port => Sys2Proof.Machine.execEthPortQuery r die port s
  | .tsnGclSet r port tb flags cycle base entries => Sys2Proof.Machine.execTsnGclSet r port tb flags cycle base entries s
  | .tsnStreamSet r e => Sys2Proof.Machine.execTsnStreamSet r e s
  | .ptpDomainSet r entry domainNumber tb en => Sys2Proof.Machine.execPtpDomainSet r entry domainNumber tb en s
  | .ethTrapSet r die entry ring mode ethertype mac maskBits => Sys2Proof.Machine.execEthTrapSet r die entry ring mode ethertype mac maskBits s
  | .canSet r die ctrl btr dbtr => Sys2Proof.Machine.execCanSet r die ctrl btr dbtr s
  | .uartSet r die uart cfg => Sys2Proof.Machine.execUartSet r die uart cfg s
  | .mvbSet r die role pair periodMs deviceAddr => Sys2Proof.Machine.execMvbSet r die role pair periodMs deviceAddr s
  | .pcieSet r ctrl role width rate => Sys2Proof.Machine.execPcieSet r ctrl role width rate s
  | .fbrQuery r die release => Sys2Proof.Machine.execFbrQuery r die release s
  | .commitCompare die place difference cycles => Sys2Proof.Machine.execCommitCompare die place difference cycles s
  | .mismatchSelftestEnd die place mainPass checkerPass => Sys2Proof.Machine.execMismatchSelftestEnd die place mainPass checkerPass s
  | .shadowToOutputCopyEnd die place => Sys2Proof.Machine.execShadowToOutputCopyEnd die place s
  | .apCheckpoint die pair lines equal => Sys2Proof.Machine.execApCheckpoint die pair lines equal s
  | .apPairSelftestEnd die pair mainPass checkerPass => Sys2Proof.Machine.execApPairSelftestEnd die pair mainPass checkerPass s
  | .debugAction die pair a => Sys2Proof.Machine.execDebugAction die pair a s
  | .mirrorPortTrained lanes partnerCode partner => Sys2Proof.Machine.execMirrorPortTrained lanes partnerCode partner s
  | .mirrorTransferRx seq fn records => Sys2Proof.Machine.execMirrorTransferRx seq fn records s
  | .heartbeatSend => Sys2Proof.Machine.execHeartbeatSend s
  | .heartbeatRx alternate h => Sys2Proof.Machine.execHeartbeatRx alternate h s
  | .heartbeatMissed alternate => Sys2Proof.Machine.execHeartbeatMissed alternate s
  | .chkQuery r die => Sys2Proof.Machine.execChkQuery r die s
  | .chkRestore r die kind index passes => Sys2Proof.Machine.execChkRestore r die kind index passes s
  | .appairSet r die pair en => Sys2Proof.Machine.execAppairSet r die pair en s
  | .pairSet r en role altEn altPort altMac => Sys2Proof.Machine.execPairSet r en role altEn altPort altMac s
  | .pairMirror r fn en => Sys2Proof.Machine.execPairMirror r fn en s
  | .pairHandover r => Sys2Proof.Machine.execPairHandover r s
  | .pairQuery r => Sys2Proof.Machine.execPairQuery r s
  | .mirrorFnWrite m entry data => Sys2Proof.Machine.execMirrorFnWrite m entry data s
  | .secConfirm => Sys2Proof.Machine.execSecConfirm s
  | .secConfirmLapse => Sys2Proof.Machine.execSecConfirmLapse s
  | .silenceTimeout die silo => Sys2Proof.Machine.execSilenceTimeout die silo s
  | .safeCtrlArmWrite m die data => Sys2Proof.Machine.execSafeCtrlArmWrite m die data s
  | .safeCtrlClearWrite m die data sameCycle => Sys2Proof.Machine.execSafeCtrlClearWrite m die data sameCycle s
  | .safeReactWrite m die data => Sys2Proof.Machine.execSafeReactWrite m die data s
  | .gleanerTestStart die cluster => Sys2Proof.Machine.execGleanerTestStart die cluster s
  | .gleanerTestEnd die core failing => Sys2Proof.Machine.execGleanerTestEnd die core failing s
  | .coveragePeriodEnd die core => Sys2Proof.Machine.execCoveragePeriodEnd die core s
  | .checkerRotationSlot die o => Sys2Proof.Machine.execCheckerRotationSlot die o s
  | .checkerTestRetry die o => Sys2Proof.Machine.execCheckerTestRetry die o s
  | .safeCfg r fttiMs react => Sys2Proof.Machine.execSafeCfg r fttiMs react s
  | .safeArm r en => Sys2Proof.Machine.execSafeArm r en s
  | .safeClear r sameCycle => Sys2Proof.Machine.execSafeClear r sameCycle s
  | .safeQuery r => Sys2Proof.Machine.execSafeQuery r s
  | .safeSiloSet r die silo cfg str => Sys2Proof.Machine.execSafeSiloSet r die silo cfg str s
  | .safeStreamSet r c => Sys2Proof.Machine.execSafeStreamSet r c s
  | .glnQuery r die cluster => Sys2Proof.Machine.execGlnQuery r die cluster s
  | .chkrotQuery r die => Sys2Proof.Machine.execChkrotQuery r die s
  | .attest r nonce mrMask => Sys2Proof.Machine.execAttest r nonce mrMask s
  | .certRead r chain offset => Sys2Proof.Machine.execCertRead r chain offset s
  | .mrExtend r index digest => Sys2Proof.Machine.execMrExtend r index digest s
  | .guardGrant r dom => Sys2Proof.Machine.execGuardGrant r dom s
  | .guardRevoke r dom => Sys2Proof.Machine.execGuardRevoke r dom s
  | .fuseProgram r word value mask => Sys2Proof.Machine.execFuseProgram r word value mask s
  | .svnAdvance r target => Sys2Proof.Machine.execSvnAdvance r target s
  | .lcAdvance r target => Sys2Proof.Machine.execLcAdvance r target s
  | .keyRevoke r slot => Sys2Proof.Machine.execKeyRevoke r slot s
  | .bootChunk r offset total data => Sys2Proof.Machine.execBootChunk r offset total data s
  | .secFuseCtrlGo m die data => Sys2Proof.Machine.execSecFuseCtrlGo m die data s
  | .authdataWrite a => Sys2Proof.Machine.execAuthdataWrite a s
  | .pmcIntervalEnd die p100 => Sys2Proof.Machine.execPmcIntervalEnd die p100 s
  | .packagePowerCheck => Sys2Proof.Machine.execPackagePowerCheck s
  | .powerEstimateScale readPout => Sys2Proof.Machine.execPowerEstimateScale readPout s
  | .thermalSample die readings => Sys2Proof.Machine.execThermalSample die readings s
  | .voltageConfirmed die inTime => Sys2Proof.Machine.execVoltageConfirmed die inTime s
  | .railMonitor die readings => Sys2Proof.Machine.execRailMonitor die readings s
  | .pmbusAlert die fault => Sys2Proof.Machine.execPmbusAlert die fault s
  | .powerFailAssert => Sys2Proof.Machine.execPowerFailAssert s
  | .powerFailRestore => Sys2Proof.Machine.execPowerFailRestore s
  | .titheHourlyWrite => Sys2Proof.Machine.execTitheHourlyWrite s
  | .titheWriteEnd readBack => Sys2Proof.Machine.execTitheWriteEnd readBack s
  | .titheEraseEnd => Sys2Proof.Machine.execTitheEraseEnd s
  | .pwrQuery r die => Sys2Proof.Machine.execPwrQuery r die s
  | .pwrSet r c => Sys2Proof.Machine.execPwrSet r c s
  | .railSet r die entry image => Sys2Proof.Machine.execRailSet r die entry image s
  | .titheRead r offset => Sys2Proof.Machine.execTitheRead r offset s
  | .titheFlush r => Sys2Proof.Machine.execTitheFlush r s
  | .ethLinkChange die port up speed => Sys2Proof.Machine.execEthLinkChange die port up speed s
  | .csiPhyLockChange die rx locked => Sys2Proof.Machine.execCsiPhyLockChange die rx locked s
  | .mirrorLaneLoss lane => Sys2Proof.Machine.execMirrorLaneLoss lane s
  | .canFrameTx die ctrl ok => Sys2Proof.Machine.execCanFrameTx die ctrl ok s
  | .failureInProbation => Sys2Proof.Machine.execFailureInProbation s
  | .mirrorAckRx seq => Sys2Proof.Machine.execMirrorAckRx seq s
  | .dramRefreshDerate die channel derate => Sys2Proof.Machine.execDramRefreshDerate die channel derate s
  | .fdbEntryAgeing mac vlan => Sys2Proof.Machine.execFdbEntryAgeing mac vlan s
  | .pairDiscoveryWindowEnd => Sys2Proof.Machine.execPairDiscoveryWindowEnd s

end Sys2Proof.Machine
end

