-- ==== Sys2Proof/WellFormed.lean ====
section
/-!
DEFINITION. WellFormed.lean: which commands can be formed: the fields of a message fit the bytes that carry them (R114 and the message tables of the
chapters), addresses have 48 bits (R90), masters and units are those of some part of R3. The machine does not rest on it: what it does with any other
command is a matter of the meanings.
-/
namespace Sys2Proof

/-- Below a bound. -/
def below (n b : Nat) : Bool := decide (n < b)

/-- A master of R96: the index of its kind on its die. -/
def Master.wf (m : Master) : Bool :=
  below m.die 8 && (match m.kind with
    | .core => below m.index 48
    | .ap => below m.index 4
    | .firmware => below m.index 9
    | .pcie | .debug => below m.index 1
    | .mirsia => below m.index 3
    | .ioDma => below m.index 10 || (decide (16 ≤ m.index) && below m.index 30))

/-- A target of a reset (R64). -/
def ResetTarget.wf : ResetTarget → Bool
  | .package => true
  | .die d => below d 8
  | .cluster d c => below d 8 && below c 6
  | .ap d a => below d 8 && below a 4

/-- A unit with a double fault (R64). -/
def LockUnit.wf : LockUnit → Bool
  | .ap d a => below d 8 && below a 4
  | .ccc d c => below d 8 && below c 6
  | .sch d | .pmc d | .sec d => below d 8

/-- A reset by the debug module (R64). -/
def DebugReset.wf : DebugReset → Bool
  | .ndmreset => true
  | .hartreset d a => below d 8 && below a 4

/-- A window of the clock monitor: a count fits its field (R63). -/
def ClkWindow.wf : ClkWindow → Bool
  | .xo n | .refb n => below n 65536
  | .root _ => true

/-- A posted block: four CAN controllers and four UARTs to a die (R93). -/
def PostedBlk.wf : PostedBlk → Bool
  | .can n | .uart n => below n 4
  | _ => true

/-- The range of CLAIM (R38). -/
def ResRange.wf (r : ResRange) : Bool :=
  below r.resType 256 && below r.die 256 && below r.index 65536 && below r.count 65536 && below r.cls 256

/-- An error found: its syndrome has nine bits (GRN_ERR_INFO.SYNDROME, R157). -/
def EccFound.wf : EccFound → Bool
  | .clean => true
  | .single y | .double y => below y 512

/-- A place of a command: 48 cores and two raster contexts to a die (R330). -/
def SlotRef.wf : SlotRef → Bool
  | .core c _ => below c 48
  | .raster x => below x 2

/-- KV_SEQ_CREATE (R270). -/
def KvSeqCfg.wf (c : KvSeqCfg) : Bool :=
  below c.kvHeads 256 && below c.headDim 256 && below c.flags 256 && below c.maxRows 65536 && below c.budget 65536 && below c.recent 65536 &&
  below c.reserve 65536 && below c.decay 65536

/-- Q_CREATE (R297). -/
def QueueCfg.wf (c : QueueCfg) : Bool :=
  below c.die 256 && below c.sqLog2 256 && below c.cqLog2 256 && below c.flags 256 && below c.sqBase (2 ^ 64) && below c.cqBase (2 ^ 64) &&
  below c.acctBase (2 ^ 64) && below c.vector 65536 && below c.minClass 256

/-- SILO_SET (R297). -/
def SiloCfg.wf (c : SiloCfg) : Bool :=
  below c.cls 256 && below c.head 256 && below c.mask (2 ^ 48) && below c.gMin 256 && below c.share 256 && below c.waitMax 65536 &&
  below c.quantum 256 && below c.lead 256

/-- DISP_MODE (R343). -/
def DispModeCfg.wf (c : DispModeCfg) : Bool :=
  below c.head 256 && below c.link 256 && below c.maxLanes 256 && below c.bpc 256 && below c.pclkKhz (2 ^ 32)

/-- A CSI-2 packet header (R346): six bits of data type, two of channel, two of extension. -/
def CsiHeader.wf (h : CsiHeader) : Bool := below h.dt 64 && below h.vc 4 && below h.vcx 4

/-- TB_SET (R388). -/
def TbCfg.wf (c : TbCfg) : Bool :=
  below c.tb 256 && below c.src 256 && below c.holdS 256 && below c.en 256 && below c.kp 65536 && below c.ki 65536

/-- TRG_SET (R388). -/
def TrgCfg.wf (c : TrgCfg) : Bool :=
  below c.trg 256 && below c.mode 256 && below c.src 256 && below c.dir 256 && below c.flags 256 && below c.width (2 ^ 32) &&
  below c.start (2 ^ 64) && below c.period (2 ^ 32)

/-- A CAN frame (R396): at most 64 bytes, a DLC of four bits. -/
def CanFrame.wf (f : CanFrame) : Bool := below f.dlc 16 && decide (f.data.length ≤ 64)

/-- One character of a UART (R397). -/
def UartEvent.wf : UartEvent → Bool
  | .received c | .loaded c => below c 512
  | .startSending | .stopSent => true

/-- A telegram of the MVB (R398): logical addresses have 12 bits. -/
def MvbTelegram.wf : MvbTelegram → Bool
  | .processReceived l f data => below l 4096 && below f 16 && decide (data.length ≤ 32)
  | .processSent l => below l 4096
  | .messageReceived data => decide (data.length ≤ 32)
  | .messageSent => true
  | .masterFrame _ => true
  | .mastership _ => true

/-- A PCI Express request (R302, R402): one packet carries at most 4,096 bytes. -/
def PcieRequest.wf : PcieRequest → Bool
  | .barRead fn bar _ len => below fn 2049 && below bar 6 && decide (len ≤ 4096)
  | .barWrite fn bar _ data => below fn 2049 && below bar 6 && decide (data.length ≤ 4096)
  | .busRead addr len => below addr (2 ^ 64) && decide (len ≤ 4096)
  | .busWrite addr data => below addr (2 ^ 64) && decide (data.length ≤ 4096)
  | .atomic => true

/-- A command of the xSPI controller (R405): two chip selects. -/
def XspiCmd.wf : XspiCmd → Bool
  | .read cs f a n | .program cs f a n => below cs 2 && below f (2 ^ 32) && below a (2 ^ 48) && below n (2 ^ 32)
  | .erase cs f n => below cs 2 && below f (2 ^ 32) && below n (2 ^ 32)

/-- An atomic access (R412): a function code of five bits. -/
def FbrAtomic.wf : FbrAtomic → Bool
  | .amo op _ _ => below op 32
  | .lr _ => true
  | .sc _ _ => true

/-- TSN_STREAM_SET (R414). -/
def TsnStream.wf (e : TsnStream) : Bool :=
  below e.handle 65536 && below e.idType 256 && below e.funcs 256 && decide (e.ident.length = 16) && decide (e.meter.length = 8) &&
  below e.history 256 && below e.algorithm 256

/-- A handoff record's header fields fit, and its sections its 1 MiB (R134). -/
def Handoff.wf (h : Handoff) : Bool :=
  below h.major 256 && below h.minor 256 && h.sections.all (fun x => below x.tag 65536 && below x.version 65536) &&
  decide (h.sections.foldl (fun a x => a + 8 + x.content.length) 0 ≤ 0x100000)

/-- What a mirror partner presents (R431). -/
def PartnerId.wf (x : PartnerId) : Bool := below x.digest (2 ^ 64)

/-- A heartbeat (R434). -/
def Heartbeat.wf (h : Heartbeat) : Bool := below h.role 4 && below h.count (2 ^ 32) && below h.seq (2 ^ 64) && below h.time (2 ^ 64)

/-- PWR_SET (R502). -/
def PowerSet.wf (c : PowerSet) : Bool :=
  below c.die 256 && below c.floor 256 && below c.dieLimit 65536 && below c.pkgLimit 65536 && below c.throttleC 256

/-- SAFE_STREAM_SET (R463). -/
def SafeStreamCfg.wf (c : SafeStreamCfg) : Bool :=
  below c.entry 256 && below c.handle 65536 && below c.offset 65536 && below c.die 256 && below c.silo 256

/-- Whether a command is one that its sender can form: the fields of a message fit the bytes that carry them, a register access names a place
of its register file, an event names a unit that some part of R3 has. -/
def Instr.wf : Instr → Bool
  | .powerOnRelease => true
  | .brownOut die => below die 8
  | .rstNAssert => true
  | .rstNRelease => true
  | .watchdogExpiry die => below die 8
  | .rstWdtKickWrite m die _ => m.wf && below die 8
  | .rstSwreqWrite m die _ => m.wf && below die 8
  | .debugResetRequest r => r.wf
  | .lockUp u => u.wf
  | .resetTakeEffect => true
  | .holdoffEnd t => t.wf
  | .trimLoadEnd die _ conversions => below die 8 && conversions.all (fun v => below v 64) && decide (conversions.length = 8)
  | .xoJudgementEnd _ => true
  | .pllJudgementEnd _ _ => true
  | .optionLoadEnd => true
  | .bootVerifyEnd _ => true
  | .dramTrainingEnd die => below die 8
  | .fabricUp t => t.wf
  | .firmwareStart t => t.wf
  | .rstctlForceWrite m die _ => m.wf && below die 8
  | .forcedGroupClockStable die group => below die 8 && below group 20
  | .resetRequest _ scope die target => below scope 256 && below die 256 && below target 256
  | .resetQuery _ die => below die 256
  | .optRead _ => true
  | .optWrite _ expected options => below expected (2 ^ 32) && decide (options.length = 256)
  | .rstStatusRead m die => m.wf && below die 8
  | .clkmonWindowEnd die w => below die 8 && w.wf
  | .clkAckTimeout => true
  | .clkAckWrite m die _ => m.wf && below die 8
  | .dividerRampStep die domain => below die 8 && below domain 5
  | .clkDivTargetWrite m die domain _ => m.wf && below die 8 && below domain 5
  | .clkCtrlRestore m die _ => m.wf && below die 8
  | .sscDepthApply => true
  | .restoreJudgementEnd _ _ _ => true
  | .clkQuery _ die => below die 256
  | .clkSpread _ depth => below depth 256
  | .clkRestore _ => true
  | .claim _ range => range.wf
  | .release _ range => range.wf
  | .pinConfig _ die index _ => below die 256 && below index 65536
  | .pinQuery _ die index => below die 256 && below index 65536
  | .pincfgWrite m die index _ => m.wf && below die 8 && below index 768
  | .pinmuxOvrWrite m die _ => m.wf && below die 8
  | .registerWrite m addr size _ => m.wf && below addr (2 ^ 48) && below size 9
  | .postedWriteComplete die blk => below die 8 && blk.wf
  | .pairLoRead m addr => m.wf && below addr (2 ^ 48)
  | .pairHiRead m addr => m.wf && below addr (2 ^ 48)
  | .pairLoWrite m addr _ => m.wf && below addr (2 ^ 48)
  | .pairHiWrite m addr _ => m.wf && below addr (2 ^ 48)
  | .rcRegisterRead m addr size _ => m.wf && below addr (2 ^ 48) && below size 9
  | .fabStatusRead m die => m.wf && below die 8
  | .mbReqTailWrite m _ _ _ => m.wf
  | .mbRspHeadWrite m _ _ => m.wf
  | .mbNotifyWrite m _ _ => m.wf
  | .requestStart _ _ _ => true
  | .hello _ major minor features => below major 256 && below minor 256 && below features (2 ^ 128)
  | .goodbye _ => true
  | .ping _ payload => decide (payload.length ≤ 64)
  | .event _ => true
  | .eventMask _ mask notifyEn vector => below mask (2 ^ 256) && below notifyEn 256 && below vector 65536
  | .eventRingWrite _ => true
  | .fwStage _ addr len => below addr (2 ^ 64) && below len (2 ^ 32)
  | .fwActivate _ kinds dieMask clusterMask flags => below kinds 256 && below dieMask 256 && below clusterMask 256 && below flags 256
  | .fwStatus _ => true
  | .fwAbort _ => true
  | .shadowCopyEnd => true
  | .handoffPoint h => h.wf
  | .adoptionDeclared => true
  | .abandonPoint => true
  | .probationEnd => true
  | .fwPersistWriteEnd _ => true
  | .eccCorrectionWriteback master addr syndrome origin _ => below master 4096 && below addr (2 ^ 48) && below syndrome 512 && below origin 8
  | .scrubRead die unit found => below die 8 && below unit 7 && found.wf
  | .dramReread master addr bg bank rank rereads _ => below master 4096 && below addr (2 ^ 48) && below bg 8 && below bank 8 && below rank 4 && below rereads 3
  | .eccCountCollect die => below die 8
  | .dramPowerDownEntry die channel => below die 8 && below channel 8
  | .spillStart die silo slice => below die 8 && below silo 16 && below slice 6
  | .spillCopyEnd die silo slice => below die 8 && below silo 16 && below slice 6
  | .refillCopyEnd die silo slice => below die 8 && below silo 16 && below slice 6
  | .grnQuotaWrite m die silo slice _ => m.wf && below die 8 && below silo 16 && below slice 6
  | .loftMapWrite m die _ => m.wf && below die 8
  | .loftScratchWrite m die silo _ => m.wf && below die 8 && below silo 16
  | .grnDramStatusRead m die _ => m.wf && below die 8
  | .memQuota _ die silo slice quota => below die 256 && below silo 256 && below slice 256 && below quota 65536
  | .memAlloc _ die silo slice flags length => below die 256 && below silo 256 && below slice 256 && below flags 256 && below length (2 ^ 32)
  | .memFree _ _ => true
  | .memBufQuery _ _ => true
  | .memLoftMap _ die kvMib stookMib => below die 256 && below kvMib 256 && below stookMib 256
  | .memEccQuery _ die => below die 256
  | .matmul die core => below die 8 && below core 48
  | .conv die core => below die 8 && below core 48
  | .attend die core => below die 8 && below core 48
  | .kvAppend die core => below die 8 && below core 48
  | .kvFork die core => below die 8 && below core 48
  | .kvRelease die core => below die 8 && below core 48
  | .unary die core => below die 8 && below core 48
  | .binary die core => below die 8 && below core 48
  | .reduce die core => below die 8 && below core 48
  | .softmax die core => below die 8 && below core 48
  | .norm die core => below die 8 && below core 48
  | .convert die core => below die 8 && below core 48
  | .dwconv die core => below die 8 && below core 48
  | .pool die core => below die 8 && below core 48
  | .resample die core => below die 8 && below core 48
  | .gather die core => below die 8 && below core 48
  | .neighbours die core => below die 8 && below core 48
  | .setOp die core => below die 8 && below core 48
  | .hashBuild die core => below die 8 && below core 48
  | .hashProbe die core => below die 8 && below core 48
  | .radixSort die core => below die 8 && below core 48
  | .segReduce die core => below die 8 && below core 48
  | .scatter die core => below die 8 && below core 48
  | .frontier die core => below die 8 && below core 48
  | .copy die core => below die 8 && below core 48
  | .nop die core => below die 8 && below core 48
  | .signal die core => below die 8 && below core 48
  | .render die ctx => below die 8 && below ctx 2
  | .fastClear die ctx => below die 8 && below ctx 2
  | .expand die ctx => below die 8 && below ctx 2
  | .shadingBatch die core ctx => below die 8 && below core 48 && below ctx 2
  | .teQuery _ die cluster core => below die 256 && below cluster 256 && below core 256
  | .veQuery _ die cluster core => below die 256 && below cluster 256 && below core 256
  | .xeQuery _ die cluster core => below die 256 && below cluster 256 && below core 256
  | .winQuery _ die cluster core => below die 256 && below cluster 256 && below core 256
  | .kvPoolCreate _ _ pages => below pages 65536
  | .kvPoolDestroy _ _ => true
  | .kvSeqCreate _ c => c.wf
  | .kvSeqDestroy _ _ => true
  | .kvSeqQuery _ _ => true
  | .kvSeqSet _ _ budget recent reserve decay _ => below budget 65536 && below recent 65536 && below reserve 65536 && below decay 65536
  | .qdbSqTailWrite m queue _ _ => m.wf && below queue (2 ^ 19)
  | .qdbCqHeadWrite m queue _ => m.wf && below queue (2 ^ 19)
  | .sheafFetch queue => below queue (2 ^ 19)
  | .sheafReady queue count => below queue (2 ^ 19) && below count (2 ^ 32)
  | .commandPlace die => below die 8
  | .commandCommit die place => below die 8 && place.wf
  | .quantumBoundary die silo => below die 8 && below silo 16
  | .coresGuaranteeCheck die silo => below die 8 && below silo 16
  | .displayReserveStart die silo => below die 8 && below silo 16
  | .siloSpanAck silo dieMask => below silo 16 && below dieMask 256
  | .qCreate _ c => c.wf
  | .qDestroy _ _ => true
  | .qEnable _ _ => true
  | .qDisable _ _ => true
  | .qQuery _ _ => true
  | .qAcct _ _ _ => true
  | .siloSet _ die silo c => below die 256 && below silo 256 && c.wf
  | .siloQuery _ die silo => below die 256 && below silo 256
  | .siloSpan _ silo dieMask => below silo 256 && below dieMask 256
  | .schQctlEnable m die queue => m.wf && below die 8 && below queue (2 ^ 19)
  | .schQctlDisable m die queue => m.wf && below die 8 && below queue (2 ^ 19)
  | .schQctlDrain m die queue => m.wf && below die 8 && below queue (2 ^ 19)
  | .fnConfig _ fn assign quota vectors aperBase => below fn 65536 && below assign 256 && below quota 65536 && below vectors 256 && below aperBase (2 ^ 64)
  | .fnReset _ fn => below fn 65536
  | .fnQuery _ fn => below fn 65536
  | .fnQmap _ fn first => below fn 65536 && below first 65536
  | .fnGlobal _ controller a => below controller 256 && below a 256
  | .fnFreeze _ fn => below fn 65536
  | .fnSave _ fn flags maxLen addr => below fn 65536 && below flags 256 && below maxLen (2 ^ 32) && below addr (2 ^ 64)
  | .fnRestore _ fn flags len addr dieMap => below fn 65536 && below flags 256 && below len (2 ^ 32) && below addr (2 ^ 64) && decide (dieMap.length = 8) && dieMap.all (fun v => below v 256)
  | .fnThaw _ fn => below fn 65536
  | .fnDiscard _ fn => below fn 65536
  | .functionLevelReset controller _ => below controller 2
  | .fnResetRegWrite m fn _ => m.wf && below fn 2049
  | .fnCfgWrite m fn _ => m.wf && below fn 2049
  | .numvfsWrite controller numVfs _ => below controller 2 && below numVfs 65536
  | .genDrainEnd fn => below fn 2049
  | .functionResetEnd fn => below fn 2049
  | .verticalBlank head => below head 4
  | .scanoutTileRowDue head _ => below head 4
  | .hpdChange head _ => below head 4
  | .headImgHiWrite m head _ => m.wf && below head 4
  | .headCtrlEnWrite m head _ => m.wf && below head 4
  | .rasStookSet _ die loc sizeMib addr => below die 256 && below loc 256 && below sizeMib 256 && below addr (2 ^ 64)
  | .rasQuery _ die => below die 256
  | .dispMode _ c _ => c.wf
  | .dispFlip _ head addr => below head 256 && below addr (2 ^ 64)
  | .dispQuery _ head => below head 256
  | .dispOff _ head => below head 256
  | .csiShortPacket die rx h number => below die 8 && below rx 8 && h.wf && below number 65536
  | .csiLongPacket die rx h payload _ => below die 8 && below rx 8 && h.wf && decide (payload.length < 65536)
  | .gvspPacket die udpPort _ => below die 8 && below udpPort 65536
  | .frameComplete die stream => below die 8 && below stream 128
  | .goldenCopyEnd die stream => below die 8 && below stream 128
  | .strCfgWrite m die stream offset _ => m.wf && below die 8 && below stream 128 && below offset 128
  | .odoEdgeAccept channel _ _ => below channel 4
  | .odoZEdge channel => below channel 4
  | .tachEdge tach cycles => below tach 4 && below cycles (2 ^ 32)
  | .odoWindowEnd => true
  | .odoDistWrite m channel _ => m.wf && below channel 4
  | .camRxSet _ die rx mode lanes rate => below die 256 && below rx 256 && below mode 256 && below lanes 256 && below rate 65536
  | .camStreamSet _ die stream images => below die 256 && below stream 256 && decide (images.length = 16)
  | .camStreamQuery _ die stream => below die 256 && below stream 256
  | .odoSet _ channel _ _ _ => below channel 256
  | .odoPreset _ channel _ => below channel 256
  | .odoQuery _ channel => below channel 256
  | .tachSet _ tach _ => below tach 256
  | .ppsInEdge => true
  | .holdoverTimeout tb => below tb 8
  | .replicaAlign => true
  | .timeTriggerFire trg => below trg 32
  | .triggerPulseEnd trg => below trg 32
  | .ppsOutPulse => true
  | .cmp32Match k => below k 8
  | .tscapEdge die input _ => below die 8 && below input 32
  | .tbAdjWrite m tb _ => m.wf && below tb 8
  | .tbOffsetHiWrite m tb _ => m.wf && below tb 8
  | .tbSetnsecWrite m tb _ => m.wf && below tb 8
  | .trgCfgWrite m trg offset _ => m.wf && below trg 32 && below offset 32
  | .cmp32NsecWrite m k _ => m.wf && below k 8
  | .tbQuery _ tb => below tb 256
  | .tbSet _ c => c.wf
  | .tbOffset _ tb _ => below tb 256
  | .tbStep _ tb sec nsec => below tb 256 && below sec (2 ^ 64) && below nsec (2 ^ 32)
  | .ppsOutSet _ tb en width => below tb 256 && below en 256 && below width (2 ^ 32)
  | .trgSet _ c => c.wf
  | .trgQuery _ trg => below trg 256
  | .tscapSet _ die input en edge tb => below die 256 && below input 256 && below en 256 && below edge 256 && below tb 256
  | .tscapRead _ die input => below die 256 && below input 256
  | .cmp32Set _ k tb en sec nsec => below k 256 && below tb 256 && below en 256 && below sec (2 ^ 32) && below nsec (2 ^ 32)
  | .ethFrameRx die port _ _ => below die 8 && below port 6
  | .ethFrameTx die port => below die 8 && below port 6
  | .gclEntryEnd die port => below die 8 && below port 7
  | .cpuTxDescriptor die ring => below die 8 && below ring 16
  | .canFrameRx die ctrl f => below die 8 && below ctrl 4 && f.wf
  | .canBusoffRejoin die ctrl => below die 8 && below ctrl 4
  | .uartCharacter die uart u => below die 8 && below uart 4 && u.wf
  | .mvbTelegram die t => below die 8 && t.wf
  | .pcieLinkTraining controller _ => below controller 2
  | .pcieInboundRequest controller q => below controller 2 && q.wf
  | .pcieAerError controller _ _ header => below controller 2 && decide (header.length = 4)
  | .mirsiaRetrain die link _ lanesRepaired => below die 8 && below link 3 && below lanesRepaired 256
  | .xspiCommand m c => m.wf && c.wf
  | .postedWriteFail die blk cause => below die 8 && blk.wf && below cause 4
  | .fbrReadRelease die => below die 8
  | .fbrHeadOnRetry die engine => below die 8 && below engine 10
  | .fbrSemTimeout die => below die 8
  | .fbrSemReleaseWrite m die _ => m.wf && below die 8
  | .fbrAtomicEmulation m addr op => m.wf && below addr (2 ^ 48) && op.wf
  | .fbrStatusRead m die => m.wf && below die 8
  | .ethPortSet _ die port speed fec an latIn latOut => below die 256 && below port 256 && below speed 256 && below fec 256 && below an 256 && below latIn 256 && below latOut 256
  | .ethPortQuery _ die port => below die 256 && below port 256
  | .tsnGclSet _ port tb flags cycle base entries => below port 256 && below tb 256 && below flags 256 && below cycle (2 ^ 32) && below base (2 ^ 64) && entries.all (fun e => below e.1 256 && below e.2 (2 ^ 32))
  | .tsnStreamSet _ e => e.wf
  | .ptpDomainSet _ entry domainNumber tb en => below entry 256 && below domainNumber 256 && below tb 256 && below en 256
  | .ethTrapSet _ die entry ring mode ethertype mac maskBits => below die 256 && below entry 256 && below ring 256 && below mode 256 && below ethertype 65536 && below mac (2 ^ 48) && below maskBits 256
  | .canSet _ die ctrl _ _ => below die 256 && below ctrl 256
  | .uartSet _ die uart _ => below die 256 && below uart 256
  | .mvbSet _ die role pair periodMs deviceAddr => below die 256 && below role 256 && below pair 256 && below periodMs 256 && below deviceAddr 65536
  | .pcieSet _ ctrl role width rate => below ctrl 256 && below role 256 && below width 256 && below rate 256
  | .fbrQuery _ die releaseN => below die 256 && below releaseN 256
  | .commitCompare die place _ cycles => below die 8 && place.wf && below cycles (2 ^ 64)
  | .mismatchSelftestEnd die place _ _ => below die 8 && place.wf
  | .shadowToOutputCopyEnd die place => below die 8 && place.wf
  | .apCheckpoint die pair _ _ => below die 8 && below pair 2
  | .apPairSelftestEnd die pair _ _ => below die 8 && below pair 2
  | .debugAction die pair _ => below die 8 && below pair 2
  | .mirrorPortTrained lanes partnerCode partner => below lanes 16 && below partnerCode 16 && partner.wf
  | .mirrorTransferRx seq fn _ => below seq (2 ^ 64) && below fn 2049
  | .heartbeatSend => true
  | .heartbeatRx _ h => h.wf
  | .heartbeatMissed _ => true
  | .chkQuery _ die => below die 256
  | .chkRestore _ die kind index _ => below die 256 && below kind 256 && below index 256
  | .appairSet _ die pair en => below die 256 && below pair 256 && below en 256
  | .pairSet _ en role altEn altPort altMac => below en 256 && below role 256 && below altEn 256 && below altPort 256 && below altMac (2 ^ 48)
  | .pairMirror _ fn en => below fn 65536 && below en 256
  | .pairHandover _ => true
  | .pairQuery _ => true
  | .mirrorFnWrite m entry _ => m.wf && below entry 64
  | .secConfirm => true
  | .secConfirmLapse => true
  | .silenceTimeout die silo => below die 8 && below silo 16
  | .safeCtrlArmWrite m die _ => m.wf && below die 8
  | .safeCtrlClearWrite m die _ _ => m.wf && below die 8
  | .safeReactWrite m die _ => m.wf && below die 8
  | .gleanerTestStart die cluster => below die 8 && below cluster 6
  | .gleanerTestEnd die core failing => below die 8 && below core 48 && below failing 256
  | .coveragePeriodEnd die core => below die 8 && below core 48
  | .checkerRotationSlot die _ => below die 8
  | .checkerTestRetry die _ => below die 8
  | .safeCfg _ fttiMs _ => below fttiMs 65536
  | .safeArm _ en => below en 256
  | .safeClear _ _ => true
  | .safeQuery _ => true
  | .safeSiloSet _ die silo cfg _ => below die 256 && below silo 256 && below cfg 65536
  | .safeStreamSet _ c => c.wf
  | .glnQuery _ die cluster => below die 256 && below cluster 256
  | .chkrotQuery _ die => below die 256
  | .attest _ nonce mrMask => below mrMask 65536 && decide (nonce.length = 32)
  | .certRead _ chain offset => below chain 256 && below offset (2 ^ 32)
  | .mrExtend _ index digest => below index 256 && decide (digest.length = 48)
  | .guardGrant _ _ => true
  | .guardRevoke _ _ => true
  | .fuseProgram _ word _ _ => below word (2 ^ 32)
  | .svnAdvance _ target => below target 256
  | .lcAdvance _ target => below target 256
  | .keyRevoke _ slot => below slot 256
  | .bootChunk _ offset total data => below offset (2 ^ 32) && below total (2 ^ 32) && decide (data.length % 16 = 0) && decide (data.length ≤ 4064)
  | .secFuseCtrlGo m die _ => m.wf && below die 8
  | .authdataWrite _ => true
  | .pmcIntervalEnd die p100 => below die 8 && below p100 (2 ^ 32)
  | .packagePowerCheck => true
  | .powerEstimateScale readPout => below readPout (2 ^ 32)
  | .thermalSample die readings => below die 8 && decide (readings.length = 12)
  | .voltageConfirmed die _ => below die 8
  | .railMonitor die readings => below die 8 && decide (readings.length ≤ 16)
  | .pmbusAlert die _ => below die 8
  | .powerFailAssert => true
  | .powerFailRestore => true
  | .titheHourlyWrite => true
  | .titheWriteEnd _ => true
  | .titheEraseEnd => true
  | .pwrQuery _ die => below die 256
  | .pwrSet _ c => c.wf
  | .railSet _ die entry _ => below die 256 && below entry 256
  | .titheRead _ offset => below offset (2 ^ 32)
  | .titheFlush _ => true
  | .ethLinkChange die port _ speed => below die 8 && below port 6 && below speed 8
  | .csiPhyLockChange die rx _ => below die 8 && below rx 8
  | .mirrorLaneLoss lane => below lane 4
  | .canFrameTx die ctrl _ => below die 8 && below ctrl 4
  | .failureInProbation => true
  | .mirrorAckRx seq => below seq (2 ^ 64)
  | .dramRefreshDerate die channel _ => below die 8 && below channel 8
  | .fdbEntryAgeing mac vlan => below mac (2 ^ 48) && below vlan 4096
  | .pairDiscoveryWindowEnd => true

end Sys2Proof
end

