-- ==== Sys2Proof/Safety.lean ====
section
/-!
DEFINITION. Safety.lean: the terms that statements about the machine use: when a request is served, when a register access goes through, what a safe
state of the memories is, and what a command that stores nothing leaves alone.
-/
namespace Sys2Proof.Machine

/-- A request starts and passes the session judgement (R111, R116, R120, R122), or it is firmware's own. -/
def Serves (s : State) (r : Req) (opcode : Nat) (die : Option Nat) : Prop :=
  r.dom = fwDom ∨ (s.canServe r.dom opcode (die.getD 0) = true ∧ sessionRefusal (s.box r.dom) r opcode die = none)

/-- A register write of a master is not refused, not held behind another and finds its block free, so that it takes effect at once (R92, R100). -/
def WritesNow (s : State) (m : Master) (d : Nat) (blk : Blk) (off : Nat) : Prop :=
  s.refusal m d (blkBase blk + off) = none ∧ s.mustQueue m d (blkBase blk + off) = false ∧
  ∀ b, s.postsTo d (blkBase blk + off) = some b → s.blkBusy d b = false

/-- What a served request leaves where its owner answers OK at once: its effect, and the payload, from the state in which it is handled. -/
def State.replies (s : State) (r : Req) (opcode : Nat) (die : Option Nat) (body : State → State × List Byte) : State :=
  let b := body (s.handling r opcode)
  b.1.answered r opcode die (some (.ok, b.2))

/-- What a served request leaves where its owner refuses it with a status and an empty payload. -/
def State.refuses (s : State) (r : Req) (opcode : Nat) (die : Option Nat) (st : Status) : State := (s.handling r opcode).answered r opcode die (some (st, []))

/-- What a served request leaves where its answer comes later. -/
def State.defers (s : State) (r : Req) (opcode : Nat) (die : Option Nat) (body : State → State) : State :=
  (body (s.handling r opcode)).answered r opcode die none

/-- The state in which an accepted write takes effect. -/
def State.accepted (s : State) : State := { s with access := .done }

/-- A command of an engine stands in a slot of a core, placed and not yet run, on a die that is not tripped (R195, R330). -/
def Standing (s : State) (d core : Nat) (slot : SlotKind) (engine op : Nat) (p : Placed) : Prop :=
  s.hasDie d = true ∧ core < 48 ∧ s.placed d (.core core slot) = some p ∧ p.ran = false ∧ descEngine p.desc = engine ∧ s.fld d .PWR_STATUS_TRIP ≠ 1 ∧
  descOp p.desc = op

/-- The invariant of the memories: LPDDR5X, Granary and Loft bytes, and the flash bytes, stand in their one canonical form. -/
def Canonical (s : State) : Prop := Memory.wf s = true

/-- Whether an address lies in one of some ranges of bytes. -/
def inRanges (l : List (Nat × Nat)) (a : Nat) : Bool := l.any (fun w => decide (w.1 ≤ a) && decide (a < w.1 + w.2))

/-- The places of some writes. -/
def placesOf (l : List (Nat × List Byte)) : List (Nat × Nat) := l.map (fun w => (w.1, w.2.length))

/-- The bytes that the run of a job by a placed command writes, at once or piece by piece to its commit (R176): in its output buffer, or the shadow buffer of a checked
copy, and in the scratch it was given; none where its way is stopped (R92) or an operand is poisoned (R149). -/
def State.jobStores (s : State) (d : Nat) (p : Placed) (j0 : Job) : List (Nat × Nat) :=
  let j := s.judge d p j0
  match s.runStops d j (s.outWrites p j) with
  | (none, none) => placesOf (s.outWrites p j ++ j.scratch)
  | _ => []

/-- The bytes that a compute row writes: those of the job of the command that stands in the slot, where it is of the row's opcode. -/
def State.slotStores (s : State) (d core : Nat) (slot : SlotKind) (engine op : Nat) (go : Placed → Job) : List (Nat × Nat) :=
  match s.placed d (.core core slot) with
  | some p => if descEngine p.desc = engine ∧ descOp p.desc = op then s.jobStores d p (go p) else []
  | none => []

/-- The bytes that each compute row of an engine writes. -/
def computeStores : Instr → State → Option (List (Nat × Nat))
  | i, s => match i with
    | .matmul d c => some (s.slotStores d c .te 0 0x1 (fun p => s.matmulJob d c p))
    | .conv d c => some (s.slotStores d c .te 0 0x2 (fun p => s.convJob d c p))
    | .attend d c => some (s.slotStores d c .te 0 0x10 (fun p => s.attendJob d p))
    | .kvAppend d c => some (s.slotStores d c .te 0 0x11 (fun p => s.appendJob d p))
    | .kvFork d c => some (s.slotStores d c .te 0 0x12 (fun p => s.forkJob d p))
    | .kvRelease d c => some (s.slotStores d c .te 0 0x13 (fun p => s.releaseJob d p))
    | .unary d c => some (s.slotStores d c .ve 1 0x1 (fun p => s.veJob d p))
    | .binary d c => some (s.slotStores d c .ve 1 0x2 (fun p => s.veJob d p))
    | .reduce d c => some (s.slotStores d c .ve 1 0x3 (fun p => s.veJob d p))
    | .softmax d c => some (s.slotStores d c .ve 1 0x4 (fun p => s.veJob d p))
    | .norm d c => some (s.slotStores d c .ve 1 0x5 (fun p => s.veJob d p))
    | .convert d c => some (s.slotStores d c .ve 1 0x6 (fun p => s.veJob d p))
    | .dwconv d c => some (s.slotStores d c .ve 1 0x10 (fun p => s.dwconvJob d p))
    | .pool d c => some (s.slotStores d c .ve 1 0x11 (fun p => s.poolJob d p))
    | .resample d c => some (s.slotStores d c .ve 1 0x12 (fun p => s.resampleJob d p))
    | .gather d c => some (s.slotStores d c .xe 2 0x1 (fun p => s.xeJob d c (s.gatherRun d p) p))
    | .neighbours d c => some (s.slotStores d c .xe 2 0x2 (fun p => s.xeJob d c (s.neighboursRun d p) p))
    | .setOp d c => some (s.slotStores d c .xe 2 0x3 (fun p => s.xeJob d c (s.setOpRun d p) p))
    | .hashBuild d c => some (s.slotStores d c .xe 2 0x4 (fun p => s.xeJob d c (s.hashBuildRun d p) p))
    | .hashProbe d c => some (s.slotStores d c .xe 2 0x5 (fun p => s.xeJob d c (s.hashProbeRun d p) p))
    | .radixSort d c => some (s.slotStores d c .xe 2 0x6 (fun p => s.xeJob d c (s.radixRun d p) p))
    | .segReduce d c => some (s.slotStores d c .xe 2 0x7 (fun p => s.xeJob d c (s.segReduceRun d p) p))
    | .scatter d c => some (s.slotStores d c .xe 2 0x8 (fun p => s.xeJob d c (s.scatterRun d p) p))
    | .frontier d c => some (s.slotStores d c .xe 2 0x9 (fun p => s.xeJob d c (s.frontierRun d p) p))
    | .copy d c => some (s.slotStores d c .seq 3 0x1 (fun p => s.copyJob d c p))
    | .nop d c => some (s.slotStores d c .seq 5 0x1 (fun p => nopJob p))
    | .signal d c => some (s.slotStores d c .seq 5 0x2 (fun p => s.signalJob d p))
    | _ => none

/-- The bytes that the run of a raster command writes, piece by piece to its commit (R330): those that its job names and those beside them, none where an operand is
poisoned (R149). -/
def State.rasterStores (s : State) (j : Job) (beside : List (Nat × List Byte)) : List (Nat × Nat) :=
  if (j.taken.findSome? (fun x => s.poisoned x.1 x.2)).isSome then [] else placesOf (beside ++ j.scratch)

/-- The bytes that a RENDER writes: its images, and beside them the tile lists and the spill surface (R332, R333). -/
def State.renderStores (s : State) (d ctx : Nat) (p : Placed) : List (Nat × Nat) :=
  if s.renderCode d p (s.passOf d p) ≠ 0 then s.rasterStores (s.renderJob d p 0 false) []
  else s.rasterStores (s.renderRun d ctx p) (s.renderBeside d p s.fresh.1 (s.renderFlushes d ctx p))

/-- The raster command that stands in a context, where it is of an opcode. -/
def State.rasterCommand (s : State) (d ctx op : Nat) : Option Placed := (s.placed d (.raster ctx)).filter (fun p => decide (descOp p.desc = op))

/-- The bytes that each raster row writes. -/
def rasterRowStores : Instr → State → Option (List (Nat × Nat))
  | .render d ctx, s => some (match s.rasterCommand d ctx 1 with
    | some p => s.renderStores d ctx p
    | none => [])
  | .fastClear d ctx, s => some (match s.rasterCommand d ctx 2 with
    | some p => s.rasterStores (s.fastClearJob d p) []
    | none => [])
  | .expand d ctx, s => some (match s.rasterCommand d ctx 3 with
    | some p => s.rasterStores (s.expandJob d p) []
    | none => [])
  | _, _ => none

/-- The slots of the KV table that a list of changes writes (R250, R251). -/
def State.kvStores (s : State) (d : Nat) (ops : List KvOp) : List (Nat × Nat) := placesOf ((s.kvApply d ops).1.map (fun w => (kvBase d + 16 * w.1, w.2)))

/-- The bytes of a Loft that a change of its regions writes: the KV and Stook regions, and those above them, which move (R141; notes/assumptions/96). -/
def State.mapStores (s : State) (d kv stook : Nat) : List (Nat × Nat) :=
  let was := s.fld d .LOFT_MAP_KV_MIB + s.fld d .LOFT_MAP_STOOK_MIB
  [(loftBase d + 0x500000, (kv + stook) * 0x100000), (loftBase d + (5 + kv + stook) * 0x100000, (27 - max was (kv + stook)) * 0x100000)]

/-- The bytes that a request of a function or of firmware writes at most, those rows whose request writes at an address that it names, or at one that the
model's own tables give: a pool or a sequence in the KV table (R250, R253), the regions of a Loft (R141), an accounting buffer (R300, R301), the image of a function (R312). -/
def messageStores : Instr → State → Option (List (Nat × Nat))
  | .kvPoolCreate _ h pages, s => some (match s.kvFind (s.bufDie h.toNat) 1 (pages + 1) with
    | some i => [(kvBase (s.bufDie h.toNat) + 16 * i, 16 + 16 * pages)]
    | none => [])
  | .kvSeqCreate r c, s => some (match s.kvEntry r.dom c.pool.toNat with
    | some e => (match s.kvFind e.1.1 4 (4 + c.maxRows) with
      | some i => [(kvBase e.1.1 + 16 * i, 64 + 16 * c.maxRows)]
      | none => [])
    | none => [])
  | .kvSeqSet r seq budget recent reserve decay evict, s => some (match s.kvEntry r.dom seq.toNat with
    | some e =>
      let q := s.kvSeq e.1.1 [] seq.toNat
      s.kvStores e.1.1 { q with budget := budget, recent := recent, reserve := reserve, decay := decay, flags := putBits q.flags 1 1 (b2n evict) }.puts
    | none => [])
  | .kvSeqDestroy r seq, s => some (match s.kvEntry r.dom seq.toNat with
    | some e =>
      let q := s.kvSeq e.1.1 [] seq.toNat
      s.kvStores e.1.1 (s.releaseOps e.1.1 q ++ { q with flags := 0, rows := 0, live := 0, nextPos := 0 }.puts)
    | none => [])
  | .memLoftMap _ d kv stook, s => some (s.mapStores d kv stook)
  | .qCreate _ c, _ => some [(c.acctBase, 128)]
  | .qAcct _ queue reset, s => some (match s.queue queue.toNat with
    | some q => if reset then [(q.acctBase, 128)] else []
    | none => [])
  | .fnSave _ n flags _ addr, s => some [(addr, 128 + (imageSections (s.imageRecs (fnDom n) (bit flags 1) (bit flags 0))).flatten.length)]
  | _, _ => none

/-- The bytes that an access to a memory address by a processor, by a PCIe device or by the xSPI controller writes, and the accesses to a register that write memory: a
doorbell with what the client has written into its ring before it (R110, R274), the head of a completion ring with the records held for it (R276), the map of a Loft.
What any other access to a register writes is not said here. -/
def accessStores : Instr → State → Option (List (Nat × Nat))
  | .registerWrite _ addr size _, s => if isMemory s.part addr then some [(addr, size)] else none
  | .pairLoWrite _ addr _, s | .pairHiWrite _ addr _, s => if isMemory s.part addr then some [(addr, 4)] else none
  | .pcieInboundRequest c (.busWrite addr data), s => (match (if s.pcieRoot c then s.inbound c addr else none) with
    | some a => if isMemory s.part a then some [(a, data.length)] else none
    | none => some [])
  | .pcieInboundRequest _ (.busRead ..), _ | .pcieInboundRequest _ (.barRead ..), _ | .pcieInboundRequest _ .atomic, _ => some []
  | .fbrAtomicEmulation _ addr op, s => if isMemory s.part addr then some (match op with
    | .lr _ => []
    | _ => [(addr, if atomicWide op then 8 else 4)]) else none
  | .xspiCommand _ (.read _ _ addr n), _ => some [(addr, n)]
  | .xspiCommand .., _ => some []
  | .mbReqTailWrite _ dom _ _, s => some [(s.mbPlace dom, 0x1000)]
  | .loftMapWrite _ d data, s => some (s.mapStores d (bits data.toNat 3 0) (bits data.toNat 20 16))
  | .qdbSqTailWrite _ _ _ written, _ => some (written.map (fun w => (w.1, 1)))
  | .qdbCqHeadWrite _ id _, s => (match s.queue id with
    | some q => if q.heldRecords.all (fun r => decide (r.length ≤ 32)) then some [(q.cqBase, 32 * 2 ^ q.cqLog2)] else none
    | none => some [])
  | _, _ => none

/-- The bytes that a step of the start-up, a copy of a buffer, a checked pair of APs or the end of a transmission writes. -/
def systemStores : Instr → State → Option (List (Nat × Nat))
  | .dramTrainingEnd d, s => some (if d ≠ 0 then [] else match s.fw.bundle with
    | some b => (b.images.filter (fun e => decide (e.kind = 4))).map (fun e => (dramBase 0, e.length))
    | none => [])
  | .fabricUp .package, s => some (s.starting.map (fun d => (granaryBase d, 0x22000000)))
  | .fabricUp (.die d), _ => some [(granaryBase d, 0x22000000)]
  | .fabricUp (.cluster d c), _ => some [(sliceBase d c, 0x5000000)]
  | .fabricUp (.ap ..), _ => some []
  | .firmwareStart .package, s => some (if 2 ≤ s.sec.lc then [(0, 0x8000000000)] else [])
  | .firmwareStart _, _ => some []
  | .spillCopyEnd d k sl, s => some (match lookup? s.memy.spills (d, k, sl) with
    | some m => if m.refill then [] else match lookup? s.memy.bufs (d, k, m.index) with
      | some e => [(m.dest, e.length)]
      | none => []
    | none => [])
  | .refillCopyEnd d k sl, s =>
    let s0 := s.startRefill d k sl
    some ((match lookup? s0.memy.spills (d, k, sl) with
      | some m => (match lookup? s0.memy.bufs (d, k, m.index) with
        | some e => [(m.dest, e.length)]
        | none => [])
      | none => []) ++ s.q.queues.map (fun e => (e.2.acctBase + 96, 8)))
  | .apCheckpoint _ _ lines equal, _ => some (if equal then lines.main.map (fun w => (w.1, 1)) else [])
  | .apPairSelftestEnd d p mainPass checkerPass, s => some (if mainPass = checkerPass then []
    else (if mainPass then (s.pairRun d p).lines else (s.pairRun d p).checkerLines).map (fun w => (w.1, 1)))
  | .debugAction _ _ a, _ => some (a.writes.map (fun w => (w.1, 1)))
  | .ethFrameTx d i, s => some (match s.nextFrame d i with
    | some (f, _) => (match f.desc with
      | some x => [(x.2, 32)]
      | none => [])
    | none => [])
  | _, _ => none

/-- The flash bytes that a row writes. -/
def flashStores : Instr → State → List (Nat × Nat)
  | .optWrite .., s => [(0x10000 + 0x1000 * (if s.bankInUse = some 0 then 1 else 0), 0x1000)]
  | .fwPersistWriteEnd ok, s => (match ok, s.fw.staged with
    | true, some (_, bs) => [(slotBase s.freeSlot, 12 + (bs.length - 12))]
    | _, _ => [])
  | .titheWriteEnd _, s => [(titheBase s.titheInto, max 256 s.tithe.image.length)]
  | .titheEraseEnd, s => [(titheBase (1 - s.fld 0 .TITHE_STATUS_BANK), 0x4000)]
  | .xspiCommand _ (.program cs fa _ n), _ | .xspiCommand _ (.erase cs fa n), _ => [(cs * 2 ^ 32 + fa, n)]
  | _, _ => []

/-- What a command that stores nothing leaves alone: every byte of memory and of flash, the part number and the queue. -/
def StoresNothing (s t : State) : Prop :=
  (∀ a, t.byte a = s.byte a) ∧ (∀ a, t.flashByte a = s.flashByte a) ∧ t.part = s.part ∧ t.pending = s.pending

/-- Every register field but some keeps its value. -/
def KeepsFields (s t : State) (but : Fld → Bool) : Prop := ∀ d f i, but f = false → t.fld d f i = s.fld d f i

/-- The fields of the register table with a kind of access. -/
def fieldsOf (p : Acc → Bool) : List Fld := (regTable.map (fun r => (r.segs.filter (fun g => p g.acc)).map (fun g => g.fld))).flatten

/-- What an event writes when its ring has no room (R124). -/
def eventFields : List Fld :=
  [.MB_STATUS_EVT_LOST, .MB_EVT_LOST_LOST]

/-- PINCFG of a pin that returns to its default (R42). -/
def pinFields : List Fld :=
  [.PINCFG_OWNER, .PINCFG_OUT, .PINCFG_OE, .PINCFG_FILTER, .PINCFG_PULL, .PINCFG_SLEW, .PINCFG_FUNC]

/-- The error log of the FABRIC block (R106). -/
def busErrorFields : List Fld :=
  [.FAB_STATUS_OVERFLOW, .FAB_STATUS_GUARD, .FAB_STATUS_DECODE, .FAB_ERR_ADDR_ADDR, .FAB_ERR_INFO_WRITE, .FAB_ERR_INFO_TYPE, .FAB_ERR_INFO_V,
    .FAB_ERR_INFO_PRIV, .FAB_ERR_INFO_MASTER]

/-- What an answer to a request writes: the response ring and the MSI-X error (R111, R113, R117). -/
def answerFields : List Fld :=
  [.MB_RSP_TAIL_INDEX, .FN_STATUS_MSI_ERR]

/-- What a source of R448 writes: its cause, its time and the status of the safe state, and the event. -/
def faultFields : List Fld :=
  eventFields ++ [.SAFE_STATUS_MSG_SENT, .SAFE_STATUS_ENTERED, .SAFE_STATUS_SAFE, .SAFE_CAUSE_SOURCE, .SAFE_CAUSE_DIE, .SAFE_CAUSE_SILO, .SAFE_CAUSE_HAS_SILO,
    .SAFE_TIME_TIME, .SAFE_SILO_STAT_INVALID_RUN]

/-- The error log and count of an uncorrectable error of Granary (R149, R157). -/
def granaryErrorFields : List Fld :=
  faultFields ++ [.GRN_STATUS_OVERFLOW, .GRN_STATUS_UE, .GRN_STATUS_CE, .GRN_ERR_ADDR_ADDR, .GRN_ERR_INFO_UE, .GRN_ERR_INFO_ORIGIN, .GRN_ERR_INFO_UNIT,
    .GRN_ERR_INFO_SYNDROME, .GRN_ERR_INFO_MASTER, .GRN_UE_COUNT_COUNT]

/-- What a mirrored change writes, with the answers to requests that wait for it (R434, R436). -/
def mirrorFields : List Fld :=
  answerFields ++ faultFields ++ [.MIRROR_STATUS_UNSYNC, .MIRROR_SEQ_SEQ, .MIRROR_LAG_COUNT]

/-- The cycle counters of the engines (R179, R203, R226). -/
def cycleFields : List Fld :=
  [.TE_ACTIVE_CYCLES, .TE_STALL_CYCLES, .VE_ACTIVE_CYCLES, .VE_STALL_CYCLES, .XE_ACTIVE_CYCLES, .XE_STALL_CYCLES]

/-- What WIN_STATUS shows of a plan (R244). -/
def planFields : List Fld :=
  [.WIN_STATUS_LIVE_TAPS, .WIN_STATUS_PASSES, .WIN_STATUS_FOLD, .WIN_STATUS_REDUCED, .WIN_STATUS_S2D]

/-- What the run of a compute command writes (R149, R176, R244). -/
def engineFields : List Fld :=
  busErrorFields ++ granaryErrorFields ++ cycleFields ++ planFields

/-- What the end of a command in flight writes: what its run may still write, the activity of its engine and the sheaf it ends (R176, R286, R288, R301, R434). -/
def endFields : List Fld :=
  granaryErrorFields ++ mirrorFields ++ cycleFields ++ planFields ++ [.TE_STATUS_ACTIVE, .VE_STATUS_WINDOW, .VE_STATUS_ACTIVE, .XE_STATUS_IN_PLACE,
    .XE_STATUS_ACTIVE, .WIN_STATUS_ACTIVE, .SILO_STAT_RESERVE, .FN_LATE_COUNT]

/-- The fields that a read clears (R103). -/
def rcFields : List Fld :=
  fieldsOf (fun a => decide (a = .rc))

/-- The fields that a plain write of software may set (R105). -/
def rwFields : List Fld :=
  fieldsOf (fun a => decide (a = .rw) || decide (a = .rwp))

/-- The components of the state beside the part number, the queue and the register fields. -/
inductive Component where
  | free | access | memory | flash | bus | pins | clocks | boot | mailboxes | update | buffers | interrupts | tithe | sent | time
  | queues | functions | safety | security | mirror | apPairs | heads | frameFlags | streams | odometry | tachPulses | tachEdges | ethernet | ports | power
deriving DecidableEq, Repr

/-- Two states agree on a component. -/
def Component.same : Component → State → State → Prop
  | .free, s, t => t.free = s.free
  | .access, s, t => t.access = s.access
  | .memory, s, t => t.mem = s.mem
  | .flash, s, t => t.flash = s.flash
  | .bus, s, t => t.bus = s.bus
  | .pins, s, t => t.pins = s.pins
  | .clocks, s, t => t.clk = s.clk
  | .boot, s, t => t.boot = s.boot
  | .mailboxes, s, t => t.mail = s.mail
  | .update, s, t => t.fw = s.fw
  | .buffers, s, t => t.memy = s.memy
  | .interrupts, s, t => t.irq = s.irq
  | .tithe, s, t => t.tithe = s.tithe
  | .sent, s, t => t.out = s.out
  | .time, s, t => t.time = s.time
  | .queues, s, t => t.q = s.q
  | .functions, s, t => t.fn = s.fn
  | .safety, s, t => t.safe = s.safe
  | .security, s, t => t.sec = s.sec
  | .mirror, s, t => t.mirror = s.mirror
  | .apPairs, s, t => t.pairs = s.pairs
  | .heads, s, t => t.heads = s.heads
  | .frameFlags, s, t => t.frameFlags = s.frameFlags
  | .streams, s, t => t.streams = s.streams
  | .odometry, s, t => t.odo = s.odo
  | .tachPulses, s, t => t.tachPulses = s.tachPulses
  | .tachEdges, s, t => t.tachSeen = s.tachSeen
  | .ethernet, s, t => t.eth = s.eth
  | .ports, s, t => t.ports = s.ports
  | .power, s, t => t.power = s.power

/-- What an event changes: its ring, and pending interrupts (R123, R127). -/
def eventParts : List Component := [.mailboxes, .interrupts]

/-- What a source of R448 changes: its event, the Tithe counters and the safe state. -/
def faultParts : List Component := [.mailboxes, .interrupts, .tithe, .safety]

/-- What an answer to a request changes: the mailbox, pending interrupts and what is sent. -/
def answerParts : List Component := [.mailboxes, .interrupts, .sent]

/-- What a service changes beside its own effect: its answer, and the record of the firmware core that serves (R132). -/
def serviceParts : List Component := answerParts ++ [.free, .update]

/-- What the run of a compute command changes. -/
def engineParts : List Component := faultParts ++ [.free, .memory, .buffers, .queues]

/-- What the end of a command in flight changes. -/
def endParts : List Component := engineParts ++ [.sent, .functions, .mirror]

/-- The register fields that a row may change, none where it may change any: a reset, a brown-out, a group whose clock is stable again. A row that changes the pads
may change PINCFG.OE and PINCFG.PULL, whose value at reset is the fuse code of the pin (R31, R32). -/
def rowFields : Instr → Option (List Fld)
  | .powerOnRelease .. | .rstNRelease .. =>
    some [.CLK_DIV_SRC, .CLK_DIV_CURRENT]
  | .brownOut .. | .resetTakeEffect .. | .forcedGroupClockStable .. =>
    none
  | .rstNAssert .. | .debugResetRequest .. | .holdoffEnd .. | .clkAckTimeout .. | .sscDepthApply .. | .shadowCopyEnd .. | .dramPowerDownEntry ..
  | .sheafReady .. | .siloSpanAck .. | .replicaAlign .. | .triggerPulseEnd .. | .ppsOutPulse .. | .gclEntryEnd .. | .uartCharacter .. | .mvbTelegram ..
  | .pcieLinkTraining .. | .packagePowerCheck .. | .powerEstimateScale .. | .fdbEntryAgeing .. | .pairDiscoveryWindowEnd .. =>
    some []
  | .watchdogExpiry .. | .lockUp .. | .handoffPoint .. | .abandonPoint .. | .failureInProbation .. =>
    some (eventFields ++ answerFields ++ [.SEC_STATUS_DBG_LOCKOUT, .SEC_STATUS_DBG_AUTH])
  | .rstWdtKickWrite .. =>
    some (busErrorFields ++ [.RSTCTL_STATUS_BADKEY])
  | .rstSwreqWrite .. =>
    some (eventFields ++ busErrorFields ++ [.RSTCTL_STATUS_BADKEY, .RSTCTL_STATUS_BADCFG])
  | .trimLoadEnd .. =>
    some [.RST_STATUS_TRIM_ERR, .RST_STATUS_BOOTSEL_OPEN, .RST_STATUS_BOOTSEL_BAD, .RST_STATUS_BOOTSEL_EFF, .RST_STATUS_BOOTSEL_RAW, .SEC_STATUS_DBG_AUTH]
  | .xoJudgementEnd .. =>
    some [.CLK_STATUS_CAUSE, .CLK_STATUS_TREF_HOLD, .CLK_STATUS_XO_OK, .CLK_STATUS_LIMP, .CLK_DIV_SRC, .CLK_DIV_CURRENT, .TRG_COUNT_COUNT]
  | .pllJudgementEnd .. =>
    some [.CLK_STATUS_CAUSE, .CLK_STATUS_TREF_HOLD, .CLK_STATUS_TREF_LOCK, .CLK_STATUS_ROOT_LOCK, .CLK_STATUS_LIMP, .CLK_DIV_SRC, .CLK_DIV_CURRENT,
      .TRG_COUNT_COUNT]
  | .optionLoadEnd .. =>
    some [.PINMUX_STATUS_BADSEL, .PINCFG_PULL, .PINCFG_SLEW, .PINCFG_FUNC, .CLK_CTRL_REFB_FREQ, .CLK_CTRL_SSC_DEPTH, .RST_STATUS_OPT_ABORTS, .RST_STATUS_OPT_BANK,
      .RST_STATUS_OPT_INVALID, .RST_STATUS_OPT_FALLBACK, .RST_STATUS_BOOTSEL_EFF]
  | .bootVerifyEnd .. =>
    some [.PCIE_CFG_EN, .PCIE_CFG_ROLE, .PCIE_CFG_WIDTH, .PCIE_CFG_RATE, .SEC_STATUS_LAST_FAIL, .SEC_STATUS_BOOT_FAIL, .SEC_STATUS_SLOT_FAIL, .SEC_STATUS_SLOT]
  | .dramTrainingEnd .. =>
    some [.RST_STATUS_DRAM_KEPT, .DRAM_STATUS_SELF_REFRESH, .DRAM_STATUS_TRAINED, .SEC_STATUS_LAST_FAIL, .SEC_STATUS_BOOT_FAIL, .TITHE_STATUS_FRESH,
      .TITHE_STATUS_BANK, .TITHE_SEQ_SEQ]
  | .fabricUp .. =>
    some [.MIRSIA_STATUS_UP, .MIRSIA_STATUS_DOWN]
  | .firmwareStart .. =>
    some [.RST_WDT_EN, .RST_WDT_TIMEOUT, .SCH_QCTX_BASE_ADDR, .SILO_CFG_CLASS, .SILO_TIME_QUANTUM, .SILO_STAT_HOLDER, .UART_CFG_EN, .UART_CFG_RS485,
      .UART_CFG_PARITY, .UART_CFG_BITS8, .UART_CFG_STOP2, .UART_CFG_DIV, .UART_CFG_DIVF_HI, .UART_FRAC_DIVF_LO, .SAFE_CTRL_FTTI_MS]
  | .rstctlForceWrite .. =>
    some (eventFields ++ busErrorFields ++ [.RSTCTL_STATUS_EARLY_RELEASE, .RSTCTL_ISO_GROUPS])
  | .resetRequest .. | .resetQuery .. | .optRead .. | .optWrite .. | .clkQuery .. | .pinQuery .. | .hello .. | .goodbye .. | .ping .. | .event ..
  | .eventRingWrite .. | .fwStage .. | .fwActivate .. | .fwStatus .. | .fwAbort .. | .probationEnd .. | .fwPersistWriteEnd .. | .memBufQuery ..
  | .memEccQuery .. | .teQuery .. | .veQuery .. | .xeQuery .. | .winQuery .. | .kvSeqQuery .. | .qCreate .. | .qDestroy .. | .qEnable .. | .qQuery ..
  | .qAcct .. | .siloQuery .. | .siloSpan .. | .fnQuery .. | .fnQmap .. | .fnGlobal .. | .dispFlip .. | .dispQuery .. | .camStreamQuery .. | .odoQuery ..
  | .tbQuery .. | .trgQuery .. | .ethPortQuery .. | .tsnGclSet .. | .tsnStreamSet .. | .ptpDomainSet .. | .ethTrapSet .. | .mvbSet .. | .chkQuery ..
  | .pairQuery .. | .safeQuery .. | .glnQuery .. | .chkrotQuery .. | .attest .. | .certRead .. | .mrExtend .. | .guardGrant .. | .guardRevoke ..
  | .fuseProgram .. | .svnAdvance .. | .lcAdvance .. | .keyRevoke .. | .bootChunk .. | .pwrQuery .. | .titheRead .. =>
    some answerFields
  | .rstStatusRead .. | .pairLoRead .. | .pairHiRead .. | .rcRegisterRead .. | .fabStatusRead .. | .grnDramStatusRead .. | .fbrStatusRead .. =>
    some (busErrorFields ++ granaryErrorFields ++ rcFields ++ [.DRAM_ERR_ADDR_ADDR, .DRAM_ERR_INFO_UE, .DRAM_ERR_INFO_CHANNEL, .DRAM_ERR_INFO_BG,
      .DRAM_ERR_INFO_BANK, .DRAM_ERR_INFO_RANK, .DRAM_ERR_INFO_RETRIES, .DRAM_ERR_INFO_MASTER, .TB_SEC_SEC, .TB_FRAC_FRAC, .FBR_ERR_ADDR_ADDR,
      .FBR_ERR_INFO_CAUSE, .FBR_ERR_INFO_BE, .FBR_ERR_INFO_MASTER])
  | .clkmonWindowEnd .. =>
    some (faultFields ++ [.CLK_STATUS_CAUSE, .CLK_STATUS_ACKED, .CLK_STATUS_REFB_PRESENT, .CLK_STATUS_TREF_HOLD, .CLK_STATUS_ROOT_LOCK, .CLK_STATUS_XO_OK,
      .CLK_STATUS_LIMP, .CLK_DIV_SRC, .CLK_DIV_CURRENT, .CLKMON_COUNT_REFB, .CLKMON_COUNT_XO, .TB_STATUS_HOLD, .TB_CFG_DEGRADED, .TB_CFG_HOLDOVER,
      .TB_ADJ_ADJ, .TB_INTEG_I])
  | .clkAckWrite .. =>
    some (eventFields ++ busErrorFields ++ [.CLK_STATUS_ACKED])
  | .dividerRampStep .. =>
    some [.CLK_STATUS_LIMP, .CLK_DIV_CURRENT, .CLK_DIV_TARGET]
  | .clkDivTargetWrite .. =>
    some (eventFields ++ busErrorFields ++ [.CLK_STATUS_BADCFG, .CLK_DIV_TARGET])
  | .clkCtrlRestore .. =>
    some (eventFields ++ busErrorFields ++ [.CLK_STATUS_BADCFG, .CLK_STATUS_REFB_PRESENT, .CLK_STATUS_ROOT_LOCK, .CLK_CTRL_REFB_FREQ, .CLK_CTRL_SSC_DEPTH])
  | .restoreJudgementEnd .. =>
    some (eventFields ++ answerFields ++ [.CLK_STATUS_RESTORE_FAIL, .CLK_STATUS_TREF_HOLD, .CLK_STATUS_TREF_LOCK, .CLK_STATUS_ROOT_LOCK, .CLK_STATUS_XO_OK,
      .CLK_DIV_SRC, .CLK_DIV_CURRENT, .TB_STATUS_HOLD, .TB_CFG_DEGRADED, .TB_CFG_HOLDOVER])
  | .clkSpread .. =>
    some (answerFields ++ [.CLK_CTRL_SSC_DEPTH])
  | .clkRestore .. =>
    some (answerFields ++ [.CLK_STATUS_ROOT_LOCK])
  | .claim .. =>
    some (mirrorFields ++ [.SILO_CFG_CLASS, .SILO_TIME_QUANTUM, .SILO_STAT_HOLDER])
  | .release .. =>
    some (pinFields ++ endFields ++ [.LOFT_SCRATCH_USED, .SILO_CFG_EN, .SILO_CFG_CLASS, .SILO_CFG_HEAD, .SILO_CFG_PENDING, .SILO_CFG_SHARE, .SILO_CFG_G_MIN,
      .SILO_MASK_MASK, .SILO_TIME_QUANTUM, .SILO_TIME_LEAD, .SILO_TIME_WAIT_MAX, .SILO_STAT_SPAN, .SILO_STAT_HOLDER])
  | .pinConfig .. =>
    some (answerFields ++ [.PINMUX_STATUS_BADSEL, .PINCFG_OUT, .PINCFG_OE, .PINCFG_FILTER, .PINCFG_PULL, .PINCFG_SLEW, .PINCFG_FUNC])
  | .pincfgWrite .. =>
    some (busErrorFields ++ [.PINMUX_STATUS_PIN, .PINMUX_STATUS_BADSEL, .PINMUX_STATUS_CONFLICT, .PINCFG_OUT, .PINCFG_OE, .PINCFG_FILTER, .PINCFG_PULL,
      .PINCFG_SLEW, .PINCFG_FUNC])
  | .pinmuxOvrWrite .. =>
    some (eventFields ++ busErrorFields ++ [.PINMUX_STATUS_OVR_ACTIVE, .PINMUX_STATUS_BADSEL, .PINMUX_OVR_PIN])
  | .registerWrite .. | .pairLoWrite .. | .pairHiWrite .. =>
    some (busErrorFields ++ endFields ++ rwFields ++ [.PINMUX_STATUS_PIN, .PINMUX_STATUS_OVR_ACTIVE, .PINMUX_STATUS_BADSEL, .PINMUX_STATUS_CONFLICT,
      .PINCFG_OWNER, .CLK_STATUS_BADCFG, .CLK_STATUS_ACKED, .CLK_STATUS_REFB_PRESENT, .CLK_STATUS_ROOT_LOCK, .RSTCTL_STATUS_BADKEY, .RSTCTL_STATUS_BADCFG,
      .RSTCTL_STATUS_EARLY_RELEASE, .RSTCTL_ISO_GROUPS, .MB_STATUS_RING_ERR, .MB_REQ_HEAD_INDEX, .GRN_STATUS_QUOTA_ERR, .GRN_STATUS_BADCFG,
      .LOFT_STATUS_MAP_BUSY, .LOFT_STATUS_BADCFG, .LOFT_SCRATCH_USED, .SCH_STATUS_CONFLICT, .SCH_STATUS_BADCFG, .SILO_CFG_PENDING, .SILO_STAT_SPAN,
      .SILO_STAT_HOLDER, .FN_STATUS_BADKEY, .FN_STATUS_FROZEN, .FN_STATUS_RESET_BUSY, .FN_GEN_GEN, .RAS_STATUS_STOOK_BUSY, .RAS_STATUS_BADCFG,
      .DISP_STATUS_CONFLICT, .CSI_STATUS_CONFLICT, .CSI_STATUS_BADCFG, .CSI_STATUS_LOCK, .STR_STATE_INJECTING, .STR_STATE_DEFER, .ODO_STATUS_BADCFG,
      .TB_STATUS_HOLD, .TB_STATUS_STEPPED, .TB_STATUS_CONFLICT, .TB_STATUS_BADCFG, .TB_CFG_DEGRADED, .TB_CFG_HOLDOVER, .TB_INTEG_I, .TB_LAST_OFF_THETA,
      .TRG_COUNT_COUNT, .TRG_MISSED_COUNT, .FBR_STATUS_BADCFG, .FBR_SEM_HELD, .FBR_SEM_HOLDER, .CAN_STATUS_BUSOFF, .CAN_STATUS_PASSIVE, .CAN_STATUS_TEC,
      .CAN_STATUS_REC, .COMMIT_STATUS_REMOVED, .COMMIT_STATUS_SEQ_ACTIVE, .COMMIT_OUT_CORES, .COMMIT_COUNT_PERSISTENT, .MIRROR_STATUS_ROLE_ERR,
      .MIRROR_STATUS_HANDOVER, .MIRROR_FN_SYNCED, .SAFE_STATUS_BADCFG, .GLN_CORE_TESTING, .SEC_FUSE_CTRL_REFUSED, .SEC_FUSE_CTRL_ACTIVE, .PWR_STATUS_BADCFG])
  | .postedWriteComplete .. | .pcieInboundRequest .. | .postedWriteFail .. | .fbrReadRelease .. | .fbrSemTimeout .. | .fbrSemReleaseWrite ..
  | .fbrAtomicEmulation .. =>
    some (busErrorFields ++ endFields ++ rcFields ++ rwFields ++ [.PINMUX_STATUS_OVR_ACTIVE, .PINCFG_OWNER, .CLK_STATUS_ACKED, .CLK_STATUS_REFB_PRESENT,
      .CLK_STATUS_ROOT_LOCK, .RSTCTL_ISO_GROUPS, .MB_REQ_HEAD_INDEX, .LOFT_SCRATCH_USED, .DRAM_ERR_ADDR_ADDR, .DRAM_ERR_INFO_UE, .DRAM_ERR_INFO_CHANNEL,
      .DRAM_ERR_INFO_BG, .DRAM_ERR_INFO_BANK, .DRAM_ERR_INFO_RANK, .DRAM_ERR_INFO_RETRIES, .DRAM_ERR_INFO_MASTER, .SILO_CFG_PENDING, .SILO_STAT_SPAN,
      .SILO_STAT_HOLDER, .FN_STATUS_FROZEN, .FN_STATUS_RESET_BUSY, .FN_GEN_GEN, .CSI_STATUS_LOCK, .STR_STATE_INJECTING, .STR_STATE_DEFER, .TB_STATUS_HOLD,
      .TB_CFG_DEGRADED, .TB_CFG_HOLDOVER, .TB_INTEG_I, .TB_SEC_SEC, .TB_FRAC_FRAC, .TB_LAST_OFF_THETA, .TRG_COUNT_COUNT, .FBR_ERR_ADDR_ADDR,
      .FBR_ERR_INFO_CAUSE, .FBR_ERR_INFO_BE, .FBR_ERR_INFO_MASTER, .FBR_SEM_HELD, .FBR_SEM_HOLDER, .CAN_STATUS_BUSOFF, .CAN_STATUS_PASSIVE, .CAN_STATUS_TEC,
      .CAN_STATUS_REC, .COMMIT_STATUS_SEQ_ACTIVE, .COMMIT_OUT_CORES, .MIRROR_STATUS_HANDOVER, .MIRROR_FN_SYNCED, .GLN_CORE_TESTING, .SEC_FUSE_CTRL_ACTIVE])
  | .mbReqTailWrite .. =>
    some (busErrorFields ++ granaryErrorFields ++ [.MB_STATUS_RING_ERR, .MB_REQ_TAIL_INDEX])
  | .mbRspHeadWrite .. =>
    some (busErrorFields ++ [.MB_STATUS_RING_ERR, .MB_RSP_HEAD_INDEX])
  | .mbNotifyWrite .. =>
    some (busErrorFields ++ [.MB_STATUS_RING_ERR, .MB_NOTIFY_EN, .MB_NOTIFY_VECTOR])
  | .requestStart .. =>
    some (answerFields ++ granaryErrorFields ++ [.MB_STATUS_RING_ERR, .MB_REQ_HEAD_INDEX])
  | .eventMask .. =>
    some (answerFields ++ [.MB_STATUS_RING_ERR, .MB_NOTIFY_EN, .MB_NOTIFY_VECTOR])
  | .adoptionDeclared .. | .authdataWrite .. =>
    some (eventFields ++ [.SEC_STATUS_DBG_LOCKOUT, .SEC_STATUS_DBG_AUTH])
  | .eccCorrectionWriteback .. =>
    some [.GRN_STATUS_OVERFLOW, .GRN_STATUS_UE, .GRN_STATUS_CE, .GRN_ERR_ADDR_ADDR, .GRN_ERR_INFO_UE, .GRN_ERR_INFO_ORIGIN, .GRN_ERR_INFO_UNIT,
      .GRN_ERR_INFO_SYNDROME, .GRN_ERR_INFO_MASTER, .GRN_CE_COUNT_BG3, .GRN_CE_COUNT_BG2, .GRN_CE_COUNT_BG1, .GRN_CE_COUNT_BG0]
  | .scrubRead .. =>
    some (granaryErrorFields ++ [.GRN_STATUS_SCRUB_WRAP, .GRN_CE_COUNT_BG3, .GRN_CE_COUNT_BG2, .GRN_CE_COUNT_BG1, .GRN_CE_COUNT_BG0, .GRN_SCRUB_UNIT])
  | .dramReread .. =>
    some (faultFields ++ [.DRAM_STATUS_OVERFLOW, .DRAM_STATUS_UE, .DRAM_STATUS_CE, .DRAM_ERR_ADDR_ADDR, .DRAM_ERR_INFO_UE, .DRAM_ERR_INFO_CHANNEL,
      .DRAM_ERR_INFO_BG, .DRAM_ERR_INFO_BANK, .DRAM_ERR_INFO_RANK, .DRAM_ERR_INFO_RETRIES, .DRAM_ERR_INFO_MASTER, .DRAM_CE_COUNT_BG3, .DRAM_CE_COUNT_BG2,
      .DRAM_CE_COUNT_BG1, .DRAM_CE_COUNT_BG0, .DRAM_UE_COUNT_COUNT])
  | .eccCountCollect .. =>
    some [.GRN_CE_COUNT_BG3, .GRN_CE_COUNT_BG2, .GRN_CE_COUNT_BG1, .GRN_CE_COUNT_BG0, .GRN_UE_COUNT_COUNT, .DRAM_CE_COUNT_BG3, .DRAM_CE_COUNT_BG2,
      .DRAM_CE_COUNT_BG1, .DRAM_CE_COUNT_BG0, .DRAM_UE_COUNT_COUNT]
  | .spillStart .. =>
    some (endFields ++ [.GRN_STATUS_QUOTA_ERR])
  | .spillCopyEnd .. =>
    some (granaryErrorFields ++ mirrorFields ++ [.GRN_QUOTA_QUOTA])
  | .refillCopyEnd .. =>
    some (granaryErrorFields ++ mirrorFields ++ [.GRN_QUOTA_QUOTA, .SCH_STATUS_BROKEN])
  | .grnQuotaWrite .. =>
    some (busErrorFields ++ mirrorFields ++ [.GRN_STATUS_QUOTA_ERR, .GRN_QUOTA_QUOTA])
  | .loftMapWrite .. =>
    some (eventFields ++ busErrorFields ++ [.LOFT_STATUS_MAP_BUSY, .LOFT_STATUS_BADCFG, .LOFT_MAP_STOOK_MIB, .LOFT_MAP_KV_MIB])
  | .loftScratchWrite .. =>
    some (eventFields ++ busErrorFields ++ [.LOFT_STATUS_BADCFG, .LOFT_SCRATCH_QUOTA])
  | .memQuota .. =>
    some (mirrorFields ++ [.GRN_QUOTA_QUOTA, .LOFT_SCRATCH_QUOTA])
  | .memAlloc .. | .memFree .. | .kvPoolDestroy .. =>
    some mirrorFields
  | .memLoftMap .. =>
    some (answerFields ++ [.LOFT_MAP_STOOK_MIB, .LOFT_MAP_KV_MIB])
  | .matmul .. | .conv .. | .unary .. | .binary .. | .reduce .. | .softmax .. | .norm .. | .convert .. | .dwconv .. | .pool .. | .resample .. | .gather ..
  | .neighbours .. | .setOp .. | .hashBuild .. | .hashProbe .. | .radixSort .. | .segReduce .. | .scatter .. | .frontier .. | .copy .. | .nop ..
  | .signal .. =>
    some engineFields
  | .attend .. | .kvAppend .. | .kvFork .. | .kvRelease .. =>
    some (engineFields ++ [.KV_STATUS_NO_PAGE])
  | .render .. =>
    some (busErrorFields ++ granaryErrorFields ++ cycleFields ++ [.RAS_STATUS_FLUSH, .RAS_FLUSH_COUNT_COUNT, .RAS_STOOK_PEAK_COUNT])
  | .fastClear .. | .expand .. =>
    some (busErrorFields ++ granaryErrorFields ++ cycleFields)
  | .shadingBatch .. =>
    some [.VE_ACTIVE_CYCLES]
  | .kvPoolCreate .. | .kvSeqCreate .. =>
    some (mirrorFields ++ [.KV_STATUS_SLOT_LOW])
  | .kvSeqDestroy .. | .kvSeqSet .. =>
    some (mirrorFields ++ [.KV_STATUS_TABLE_ERR])
  | .qdbSqTailWrite .. =>
    some (busErrorFields ++ granaryErrorFields ++ mirrorFields)
  | .qdbCqHeadWrite .. =>
    some (busErrorFields ++ granaryErrorFields ++ [.FN_STATUS_MSI_ERR])
  | .sheafFetch .. =>
    some (granaryErrorFields ++ mirrorFields ++ [.SILO_STAT_RESERVE, .FN_LATE_COUNT])
  | .commandPlace .. =>
    some (endFields ++ [.SCH_STATUS_BROKEN, .GLN_CORE_KILLS, .GLN_CORE_TESTING])
  | .commandCommit .. =>
    some (endFields ++ [.TE_STATUS_LAST_ERR, .TE_STATUS_SAT_FP, .TE_STATUS_SAT_INT, .TE_STATUS_INF, .TE_STATUS_NAN, .VE_STATUS_LAST_ERR, .VE_STATUS_SAT_FP,
      .VE_STATUS_SAT_INT, .VE_STATUS_INF, .VE_STATUS_NAN, .XE_STATUS_LAST_ERR, .XE_STATUS_TRUNC, .XE_STATUS_SAT_INT, .XE_STATUS_INF, .XE_STATUS_NAN,
      .KV_STATUS_TABLE_ERR, .KV_STATUS_WINNOW_SHORT, .KV_COW_COUNT, .KV_EVICT_COUNT, .SCH_STATUS_DL_MISS, .SCH_NK_OVERRUN_COUNT])
  | .quantumBoundary .. =>
    some (endFields ++ [.LOFT_SCRATCH_USED, .SCH_STATUS_BROKEN, .SILO_CFG_EN, .SILO_CFG_HEAD, .SILO_CFG_PENDING, .SILO_CFG_SHARE, .SILO_CFG_G_MIN,
      .SILO_MASK_MASK, .SILO_TIME_QUANTUM, .SILO_TIME_LEAD, .SILO_TIME_WAIT_MAX, .SILO_STAT_SPAN])
  | .coresGuaranteeCheck .. =>
    some (granaryErrorFields ++ [.SCH_STATUS_BROKEN])
  | .displayReserveStart .. | .qDisable .. =>
    some endFields
  | .siloSet .. =>
    some (answerFields ++ [.SILO_CFG_PENDING])
  | .schQctlEnable .. | .schQctlDisable .. | .schQctlDrain .. =>
    some (busErrorFields ++ endFields ++ [.SCH_STATUS_BADCFG])
  | .fnConfig .. =>
    some (pinFields ++ endFields ++ [.MB_STATUS_RING_ERR, .MB_REQ_TAIL_INDEX, .MB_REQ_HEAD_INDEX, .MB_RSP_HEAD_INDEX, .MB_NOTIFY_EN, .MB_NOTIFY_VECTOR,
      .LOFT_SCRATCH_USED, .SILO_CFG_EN, .SILO_CFG_CLASS, .SILO_CFG_HEAD, .SILO_CFG_PENDING, .SILO_CFG_SHARE, .SILO_CFG_G_MIN, .SILO_MASK_MASK,
      .SILO_TIME_QUANTUM, .SILO_TIME_LEAD, .SILO_TIME_WAIT_MAX, .SILO_STAT_SPAN, .SILO_STAT_HOLDER, .FN_STATUS_FROZEN, .FN_STATUS_RESET_BUSY, .FN_GEN_GEN,
      .FN_CFG_ASSIGN, .FN_CFG_QUOTA, .FN_CFG_VECTORS, .FN_APER_BASE, .COMMIT_STATUS_REMOVED, .COMMIT_STATUS_SEQ_ACTIVE, .COMMIT_OUT_CORES,
      .COMMIT_COUNT_PERSISTENT, .MIRROR_STATUS_HANDOVER])
  | .fnReset .. | .fnDiscard .. | .functionLevelReset .. =>
    some (pinFields ++ endFields ++ [.MB_STATUS_RING_ERR, .MB_REQ_TAIL_INDEX, .MB_REQ_HEAD_INDEX, .MB_RSP_HEAD_INDEX, .MB_NOTIFY_EN, .MB_NOTIFY_VECTOR,
      .LOFT_SCRATCH_USED, .SILO_CFG_EN, .SILO_CFG_CLASS, .SILO_CFG_HEAD, .SILO_CFG_PENDING, .SILO_CFG_SHARE, .SILO_CFG_G_MIN, .SILO_MASK_MASK,
      .SILO_TIME_QUANTUM, .SILO_TIME_LEAD, .SILO_TIME_WAIT_MAX, .SILO_STAT_SPAN, .SILO_STAT_HOLDER, .FN_STATUS_FROZEN, .FN_STATUS_RESET_BUSY, .FN_GEN_GEN,
      .COMMIT_STATUS_REMOVED, .COMMIT_STATUS_SEQ_ACTIVE, .COMMIT_OUT_CORES, .COMMIT_COUNT_PERSISTENT, .MIRROR_STATUS_HANDOVER])
  | .fnFreeze .. =>
    some (endFields ++ [.FN_STATUS_FROZEN])
  | .fnSave .. =>
    some (busErrorFields ++ answerFields ++ granaryErrorFields)
  | .fnRestore .. =>
    some (pinFields ++ busErrorFields ++ endFields ++ [.LOFT_SCRATCH_USED, .SILO_CFG_EN, .SILO_CFG_CLASS, .SILO_CFG_HEAD, .SILO_CFG_PENDING, .SILO_CFG_SHARE,
      .SILO_CFG_G_MIN, .SILO_MASK_MASK, .SILO_TIME_QUANTUM, .SILO_TIME_LEAD, .SILO_TIME_WAIT_MAX, .SILO_STAT_SPAN, .SILO_STAT_HOLDER, .FN_STATUS_FROZEN,
      .FN_GEN_GEN, .FN_CFG_ASSIGN, .FN_CFG_QUOTA, .FN_CFG_VECTORS, .FN_APER_BASE])
  | .fnThaw .. =>
    some (pinFields ++ endFields ++ [.LOFT_SCRATCH_USED, .SILO_CFG_EN, .SILO_CFG_CLASS, .SILO_CFG_HEAD, .SILO_CFG_PENDING, .SILO_CFG_SHARE, .SILO_CFG_G_MIN,
      .SILO_MASK_MASK, .SILO_TIME_QUANTUM, .SILO_TIME_LEAD, .SILO_TIME_WAIT_MAX, .SILO_STAT_SPAN, .SILO_STAT_HOLDER, .FN_STATUS_FROZEN])
  | .fnResetRegWrite .. =>
    some (pinFields ++ busErrorFields ++ endFields ++ [.MB_STATUS_RING_ERR, .MB_REQ_TAIL_INDEX, .MB_REQ_HEAD_INDEX, .MB_RSP_HEAD_INDEX, .MB_NOTIFY_EN,
      .MB_NOTIFY_VECTOR, .LOFT_SCRATCH_USED, .SILO_CFG_EN, .SILO_CFG_CLASS, .SILO_CFG_HEAD, .SILO_CFG_PENDING, .SILO_CFG_SHARE, .SILO_CFG_G_MIN,
      .SILO_MASK_MASK, .SILO_TIME_QUANTUM, .SILO_TIME_LEAD, .SILO_TIME_WAIT_MAX, .SILO_STAT_SPAN, .SILO_STAT_HOLDER, .FN_STATUS_BADKEY, .FN_STATUS_FROZEN,
      .FN_STATUS_RESET_BUSY, .FN_GEN_GEN, .COMMIT_STATUS_REMOVED, .COMMIT_STATUS_SEQ_ACTIVE, .COMMIT_OUT_CORES, .COMMIT_COUNT_PERSISTENT,
      .MIRROR_STATUS_HANDOVER])
  | .fnCfgWrite .. =>
    some (pinFields ++ busErrorFields ++ endFields ++ [.MB_STATUS_RING_ERR, .MB_REQ_TAIL_INDEX, .MB_REQ_HEAD_INDEX, .MB_RSP_HEAD_INDEX, .MB_NOTIFY_EN,
      .MB_NOTIFY_VECTOR, .LOFT_SCRATCH_USED, .SCH_STATUS_BADCFG, .SILO_CFG_EN, .SILO_CFG_CLASS, .SILO_CFG_HEAD, .SILO_CFG_PENDING, .SILO_CFG_SHARE,
      .SILO_CFG_G_MIN, .SILO_MASK_MASK, .SILO_TIME_QUANTUM, .SILO_TIME_LEAD, .SILO_TIME_WAIT_MAX, .SILO_STAT_SPAN, .SILO_STAT_HOLDER, .FN_STATUS_FROZEN,
      .FN_STATUS_RESET_BUSY, .FN_GEN_GEN, .FN_CFG_ASSIGN, .FN_CFG_QUOTA, .FN_CFG_VECTORS, .COMMIT_STATUS_REMOVED, .COMMIT_STATUS_SEQ_ACTIVE,
      .COMMIT_OUT_CORES, .COMMIT_COUNT_PERSISTENT, .MIRROR_STATUS_HANDOVER])
  | .numvfsWrite .. =>
    some (pinFields ++ endFields ++ [.MB_STATUS_RING_ERR, .MB_REQ_TAIL_INDEX, .MB_REQ_HEAD_INDEX, .MB_RSP_HEAD_INDEX, .MB_NOTIFY_EN, .MB_NOTIFY_VECTOR,
      .LOFT_SCRATCH_USED, .SILO_CFG_EN, .SILO_CFG_CLASS, .SILO_CFG_HEAD, .SILO_CFG_PENDING, .SILO_CFG_SHARE, .SILO_CFG_G_MIN, .SILO_MASK_MASK,
      .SILO_TIME_QUANTUM, .SILO_TIME_LEAD, .SILO_TIME_WAIT_MAX, .SILO_STAT_SPAN, .SILO_STAT_HOLDER, .FN_STATUS_FROZEN, .FN_STATUS_RESET_BUSY, .FN_GEN_GEN,
      .FN_CFG_ASSIGN, .COMMIT_STATUS_REMOVED, .COMMIT_STATUS_SEQ_ACTIVE, .COMMIT_OUT_CORES, .COMMIT_COUNT_PERSISTENT, .MIRROR_STATUS_HANDOVER])
  | .genDrainEnd .. =>
    some [.FN_GEN_GEN]
  | .functionResetEnd .. =>
    some (pinFields ++ endFields ++ [.LOFT_SCRATCH_USED, .SILO_CFG_EN, .SILO_CFG_CLASS, .SILO_CFG_HEAD, .SILO_CFG_PENDING, .SILO_CFG_SHARE, .SILO_CFG_G_MIN,
      .SILO_MASK_MASK, .SILO_TIME_QUANTUM, .SILO_TIME_LEAD, .SILO_TIME_WAIT_MAX, .SILO_STAT_SPAN, .SILO_STAT_HOLDER, .FN_STATUS_BADKEY, .FN_STATUS_FROZEN,
      .FN_STATUS_RESET_BUSY, .FN_CFG_ASSIGN, .FN_CFG_VECTORS])
  | .verticalBlank .. =>
    some (granaryErrorFields ++ [.SCH_STATUS_BROKEN, .SILO_STAT_RESERVE, .DISP_STATUS_REPEAT, .HEAD_REPEAT_COUNT, .HEAD_VBLANK_TIME])
  | .scanoutTileRowDue .. =>
    some (busErrorFields ++ granaryErrorFields ++ [.DISP_STATUS_UNDERRUN, .HEAD_UNDERRUN_COUNT])
  | .hpdChange .. =>
    some (eventFields ++ [.DISP_STATUS_HPD])
  | .headImgHiWrite .. =>
    some (busErrorFields ++ [.DISP_STATUS_CONFLICT, .HEAD_IMG_ADDR])
  | .headCtrlEnWrite .. =>
    some (busErrorFields ++ [.DISP_STATUS_CONFLICT, .HEAD_CTRL_EN, .HEAD_CTRL_BPC10])
  | .rasStookSet .. =>
    some (answerFields ++ [.RAS_STOOK_SIZE_MIB, .RAS_STOOK_LOC, .RAS_STOOK_ADDR_ADDR])
  | .rasQuery .. =>
    some (answerFields ++ [.RAS_STOOK_PEAK_COUNT])
  | .dispMode .. =>
    some (answerFields ++ [.HEAD_CTRL_EN, .HEAD_CTRL_BPC10, .HEAD_HTIME_H_TOTAL, .HEAD_HTIME_H_ACTIVE, .HEAD_HSYNC_POL, .HEAD_HSYNC_WIDTH, .HEAD_HSYNC_START,
      .HEAD_VTIME_V_TOTAL, .HEAD_VTIME_V_ACTIVE, .HEAD_VSYNC_POL, .HEAD_VSYNC_WIDTH, .HEAD_VSYNC_START, .HEAD_PCLK_KHZ, .HEAD_LINK_TRAINED, .HEAD_LINK_LANES,
      .HEAD_LINK_RATE, .HEAD_FILL_COLOUR])
  | .dispOff .. =>
    some (answerFields ++ [.HEAD_CTRL_EN, .HEAD_LINK_TRAINED, .HEAD_LINK_LANES, .HEAD_LINK_RATE])
  | .csiShortPacket .. =>
    some (busErrorFields ++ granaryErrorFields ++ [.CSI_PKT_ERR_ECC_FIX, .STR_STATE_INJECTING, .STR_STATE_DEFER, .STR_DROP_COUNT, .STR_DISPLACED_COUNT,
      .SAFE_SILO_STAT_MISSING])
  | .csiLongPacket .. =>
    some (busErrorFields ++ granaryErrorFields ++ [.CSI_PKT_ERR_UNKNOWN, .CSI_PKT_ERR_ECC_FIX, .STR_DROP_COUNT, .STR_DISPLACED_COUNT, .SAFE_SILO_STAT_MISSING])
  | .gvspPacket .. =>
    some (busErrorFields ++ granaryErrorFields ++ [.STR_STATE_INJECTING, .STR_STATE_DEFER, .STR_DROP_COUNT, .STR_DISPLACED_COUNT, .SAFE_SILO_STAT_MISSING])
  | .frameComplete .. =>
    some (busErrorFields ++ granaryErrorFields ++ [.STR_FRAMES_COUNT, .STR_STATE_FROZEN, .STR_STATE_INJECTING, .STR_STATE_DEFER, .STR_DAMAGED_COUNT,
      .STR_DISPLACED_COUNT, .SAFE_SILO_STAT_MISSING])
  | .goldenCopyEnd .. =>
    some (busErrorFields ++ granaryErrorFields ++ [.STR_FRAMES_COUNT, .STR_STATE_INJECTING, .STR_STATE_DEFER])
  | .strCfgWrite .. =>
    some (busErrorFields ++ granaryErrorFields ++ [.CSI_STATUS_CONFLICT, .CSI_STATUS_BADCFG, .STR_CFG_EN, .STR_CFG_SRC, .STR_CFG_LINESCAN, .STR_CFG_GOLD_EN,
      .STR_CFG_VC, .STR_CFG_DT, .STR_CFG_OUT_FMT, .STR_CFG_TB, .STR_CFG_ODO, .STR_CFG_TRIG_EN, .STR_CFG_TRIG, .STR_GEOM_HEIGHT, .STR_GEOM_WIDTH, .STR_BUF_X0,
      .STR_BUF_NBUF, .STR_HANDLE_HANDLE, .STR_OUT_OFF_OFF, .STR_FSTRIDE_STRIDE, .STR_REC_ADDR, .STR_REL_ADDR, .STR_GOLD_UDP_PORT, .STR_GOLD_PERIOD,
      .STR_GOLD_HANDLE_HANDLE, .STR_EXPECT_0_SIG, .STR_EXPECT_1_SIG, .STR_EXPECT_2_SIG, .STR_EXPECT_3_SIG, .STR_STATE_INJECTING, .STR_STATE_DEFER])
  | .odoEdgeAccept .. =>
    some (faultFields ++ [.ODO_STATUS_FAULT, .ODO_COUNT_COUNT, .ODO_DIST_DIST, .ODO_ERR_COUNT, .TRG_COUNT_COUNT, .TRG_MISSED_COUNT])
  | .odoZEdge .. =>
    some (faultFields ++ [.ODO_STATUS_FAULT, .ODO_STATUS_ZSEEN, .ODO_ZCOUNT_DIST])
  | .tachEdge .. =>
    some [.TACH_PERIOD_CYCLES]
  | .odoWindowEnd .. =>
    some (faultFields ++ [.ODO_STATUS_STILL, .ODO_STATUS_SLIP, .ODO_DIST_DIST, .ODO_SPEED_SPEED, .TACH_PULSES_COUNT, .TRG_COUNT_COUNT, .TRG_MISSED_COUNT])
  | .odoDistWrite .. =>
    some (eventFields ++ busErrorFields ++ [.ODO_DIST_DIST])
  | .camRxSet .. =>
    some (answerFields ++ [.CSI_STATUS_LOCK, .CSI_PHY_MODE, .CSI_PHY_LANES, .CSI_PHY_RATE])
  | .camStreamSet .. =>
    some (busErrorFields ++ answerFields ++ granaryErrorFields ++ [.STR_CFG_EN, .STR_CFG_SRC, .STR_CFG_LINESCAN, .STR_CFG_GOLD_EN, .STR_CFG_VC, .STR_CFG_DT,
      .STR_CFG_OUT_FMT, .STR_CFG_TB, .STR_CFG_ODO, .STR_CFG_TRIG_EN, .STR_CFG_TRIG, .STR_GEOM_HEIGHT, .STR_GEOM_WIDTH, .STR_BUF_X0, .STR_BUF_NBUF,
      .STR_HANDLE_HANDLE, .STR_OUT_OFF_OFF, .STR_FSTRIDE_STRIDE, .STR_REC_ADDR, .STR_REL_ADDR, .STR_GOLD_UDP_PORT, .STR_GOLD_PERIOD, .STR_GOLD_HANDLE_HANDLE,
      .STR_EXPECT_0_SIG, .STR_EXPECT_1_SIG, .STR_EXPECT_2_SIG, .STR_EXPECT_3_SIG, .STR_STATE_INJECTING, .STR_STATE_DEFER])
  | .odoSet .. =>
    some (answerFields ++ [.ODO_CFG_EN, .ODO_CFG_INVERT, .ODO_CFG_FALLBACK, .ODO_CFG_REF, .ODO_CFG_DEB, .ODO_CFG_CPR, .ODO_SLIP_STILL_MAX, .ODO_SLIP_TOL,
      .ODO_SLIP_WIN, .ODO_RATIO_RATIO])
  | .odoPreset .. =>
    some (answerFields ++ [.ODO_DIST_DIST])
  | .tachSet .. =>
    some (answerFields ++ [.TACH_CFG_EN, .TACH_CFG_DEB])
  | .ppsInEdge .. =>
    some (eventFields ++ [.TB_STATUS_HOLD, .TB_STATUS_STEPPED, .TB_STATUS_BADCFG, .TB_CFG_DEGRADED, .TB_CFG_HOLDOVER, .TB_ADJ_ADJ, .TB_INTEG_I,
      .TB_LAST_OFF_THETA, .TRG_COUNT_COUNT, .TRG_MISSED_COUNT])
  | .holdoverTimeout .. =>
    some (eventFields ++ [.TB_STATUS_HOLD, .TB_CFG_DEGRADED, .TB_CFG_HOLDOVER, .TB_ADJ_ADJ, .TB_INTEG_I])
  | .timeTriggerFire .. =>
    some [.TRG_COUNT_COUNT]
  | .cmp32Match .. =>
    some (eventFields ++ [.CMP32_STATUS_MATCH])
  | .tscapEdge .. =>
    some [.TSCAP_CFG_TB, .TSCAP_STAMP_TIME, .TSCAP_STATUS_OVERRUN, .TSCAP_STATUS_VALID]
  | .tbAdjWrite .. =>
    some (eventFields ++ busErrorFields ++ [.TB_STATUS_CONFLICT, .TB_STATUS_BADCFG, .TB_ADJ_ADJ])
  | .tbOffsetHiWrite .. =>
    some (eventFields ++ busErrorFields ++ [.TB_STATUS_HOLD, .TB_STATUS_STEPPED, .TB_STATUS_CONFLICT, .TB_STATUS_BADCFG, .TB_CFG_DEGRADED, .TB_CFG_HOLDOVER,
      .TB_ADJ_ADJ, .TB_INTEG_I, .TB_LAST_OFF_THETA, .TRG_COUNT_COUNT, .TRG_MISSED_COUNT])
  | .tbSetnsecWrite .. =>
    some (eventFields ++ busErrorFields ++ [.TB_STATUS_STEPPED, .TB_STATUS_CONFLICT, .TB_STATUS_BADCFG, .TB_ADJ_ADJ, .TRG_COUNT_COUNT, .TRG_MISSED_COUNT])
  | .trgCfgWrite .. =>
    some (busErrorFields ++ [.TB_STATUS_CONFLICT, .TB_STATUS_BADCFG, .TRG_CFG_MODE, .TRG_CFG_SRC, .TRG_CFG_DIR, .TRG_CFG_PIN, .TRG_CFG_CTRL, .TRG_CFG_POL,
      .TRG_CFG_WIDTH, .TRG_START_START, .TRG_PERIOD_PERIOD, .TRG_COUNT_COUNT])
  | .cmp32NsecWrite .. =>
    some (busErrorFields ++ [.TB_STATUS_CONFLICT, .CMP32_NSEC_NSEC])
  | .tbSet .. =>
    some (eventFields ++ answerFields ++ [.TB_STATUS_HOLD, .TB_CFG_EN, .TB_CFG_SRC, .TB_CFG_DEGRADED, .TB_CFG_HOLDOVER, .TB_CFG_HOLD_S, .TB_GAIN_KP, .TB_GAIN_KI,
      .TB_ADJ_ADJ, .PPS_IN_DELAY_DELAY, .TRG_COUNT_COUNT, .TRG_MISSED_COUNT])
  | .tbOffset .. =>
    some (eventFields ++ answerFields ++ [.TB_STATUS_HOLD, .TB_STATUS_STEPPED, .TB_STATUS_BADCFG, .TB_CFG_DEGRADED, .TB_CFG_HOLDOVER, .TB_ADJ_ADJ, .TB_INTEG_I,
      .TB_LAST_OFF_THETA, .TRG_COUNT_COUNT, .TRG_MISSED_COUNT])
  | .tbStep .. =>
    some (eventFields ++ answerFields ++ [.TB_STATUS_STEPPED, .TB_ADJ_ADJ, .TRG_COUNT_COUNT, .TRG_MISSED_COUNT])
  | .ppsOutSet .. =>
    some (answerFields ++ [.PPS_OUT_CFG_EN, .PPS_OUT_CFG_TB, .PPS_OUT_CFG_WIDTH])
  | .trgSet .. =>
    some (answerFields ++ [.TRG_CFG_MODE, .TRG_CFG_SRC, .TRG_CFG_DIR, .TRG_CFG_PIN, .TRG_CFG_CTRL, .TRG_CFG_POL, .TRG_CFG_WIDTH, .TRG_START_START,
      .TRG_PERIOD_PERIOD, .TRG_COUNT_COUNT])
  | .tscapSet .. =>
    some (answerFields ++ [.TSCAP_CFG_EN, .TSCAP_CFG_EDGE, .TSCAP_CFG_TB])
  | .tscapRead .. =>
    some (answerFields ++ [.TSCAP_STATUS_OVERRUN, .TSCAP_STATUS_VALID])
  | .cmp32Set .. =>
    some (answerFields ++ [.CMP32_CFG_EN, .CMP32_CFG_TB, .CMP32_SEC_SEC, .CMP32_NSEC_NSEC])
  | .ethFrameRx .. | .cpuTxDescriptor .. | .xspiCommand .. =>
    some (busErrorFields ++ granaryErrorFields)
  | .ethFrameTx .. =>
    some granaryErrorFields
  | .canFrameRx .. =>
    some [.CAN_STATUS_PASSIVE, .CAN_STATUS_LOST, .CAN_STATUS_REC]
  | .canBusoffRejoin .. =>
    some [.CAN_STATUS_BUSOFF, .CAN_STATUS_PASSIVE, .CAN_STATUS_TEC, .CAN_STATUS_REC]
  | .pcieAerError .. =>
    some eventFields
  | .mirsiaRetrain .. =>
    some (faultFields ++ [.MIRSIA_STATUS_UP, .MIRSIA_STATUS_DOWN, .MIRSIA_STATUS_REPAIRED, .MIRSIA_STATUS_RETRAINS])
  | .fbrHeadOnRetry .. =>
    some [.FBR_STATUS_LIVELOCK, .FBR_LL_MASTER_MASTER]
  | .ethPortSet .. =>
    some (answerFields ++ [.ETH_PORT_CFG_EN, .ETH_PORT_CFG_AN, .ETH_PORT_CFG_FEC, .ETH_PORT_CFG_SPEED, .ETH_PORT_LAT_LAT_OUT, .ETH_PORT_LAT_LAT_IN])
  | .canSet .. =>
    some (answerFields ++ [.CAN_BTR_PRESC, .CAN_BTR_TSEG1, .CAN_BTR_TSEG2, .CAN_BTR_SJW, .CAN_DBTR_PRESC, .CAN_DBTR_TSEG1, .CAN_DBTR_TSEG2, .CAN_DBTR_SJW,
      .CAN_DBTR_TDCO])
  | .uartSet .. =>
    some (answerFields ++ [.UART_CFG_EN, .UART_CFG_RS485, .UART_CFG_PARITY, .UART_CFG_BITS8, .UART_CFG_STOP2, .UART_CFG_DE_LEAD, .UART_CFG_DE_TAIL, .UART_CFG_DIV,
      .UART_CFG_DIVF_HI])
  | .pcieSet .. =>
    some (answerFields ++ [.PCIE_CFG_ROLE, .PCIE_CFG_WIDTH, .PCIE_CFG_RATE])
  | .fbrQuery .. =>
    some (answerFields ++ [.FBR_STATUS_PWERR])
  | .commitCompare .. =>
    some (endFields ++ [.COMMIT_STATUS_SEG_OVERRUN, .COMMIT_STATUS_INVALID, .COMMIT_STATUS_REMOVED, .COMMIT_STATUS_TRANSIENT, .COMMIT_STATUS_SEQ_ACTIVE,
      .COMMIT_STATUS_MISMATCH, .COMMIT_OUT_CORES, .COMMIT_COUNT_PERSISTENT, .COMMIT_COUNT_TRANSIENT, .COMMIT_SEG_OVERRUN_COUNT])
  | .mismatchSelftestEnd .. | .shadowToOutputCopyEnd .. =>
    some (endFields ++ [.COMMIT_STATUS_INVALID, .COMMIT_STATUS_REMOVED, .COMMIT_STATUS_SEQ_ACTIVE, .COMMIT_OUT_CORES, .COMMIT_COUNT_PERSISTENT])
  | .apCheckpoint .. =>
    some (granaryErrorFields ++ [.COMMIT_STATUS_INVALID, .COMMIT_STATUS_REMOVED, .COMMIT_STATUS_TRANSIENT, .COMMIT_STATUS_SEQ_ACTIVE, .COMMIT_STATUS_MISMATCH,
      .COMMIT_COUNT_PERSISTENT, .COMMIT_COUNT_TRANSIENT, .APPAIR_STATUS_OUT, .APPAIR_STATUS_DEGRADED, .APPAIR_STATUS_ACTIVE])
  | .apPairSelftestEnd .. =>
    some (granaryErrorFields ++ [.COMMIT_STATUS_INVALID, .COMMIT_STATUS_REMOVED, .COMMIT_STATUS_SEQ_ACTIVE, .COMMIT_COUNT_PERSISTENT, .APPAIR_STATUS_OUT,
      .APPAIR_STATUS_DEGRADED, .APPAIR_STATUS_ACTIVE])
  | .debugAction .. =>
    some (granaryErrorFields ++ [.COMMIT_STATUS_SEQ_ACTIVE])
  | .mirrorPortTrained .. =>
    some (eventFields ++ [.MIRROR_STATUS_LANES, .MIRROR_STATUS_ROLE_ERR, .MIRROR_STATUS_UNSYNC, .MIRROR_STATUS_LINK_UP, .MIRROR_STATUS_ROLE, .MIRROR_SEQ_SEQ,
      .MIRROR_LAG_COUNT, .MIRROR_FN_SYNCED])
  | .mirrorTransferRx .. =>
    some (pinFields ++ endFields ++ [.LOFT_SCRATCH_USED, .SILO_CFG_EN, .SILO_CFG_CLASS, .SILO_CFG_HEAD, .SILO_CFG_PENDING, .SILO_CFG_SHARE, .SILO_CFG_G_MIN,
      .SILO_MASK_MASK, .SILO_TIME_QUANTUM, .SILO_TIME_LEAD, .SILO_TIME_WAIT_MAX, .SILO_STAT_SPAN, .SILO_STAT_HOLDER, .FN_STATUS_FROZEN, .FN_GEN_GEN,
      .FN_CFG_ASSIGN, .FN_CFG_QUOTA, .FN_CFG_VECTORS, .FN_APER_BASE, .MIRROR_ACK_SEQ, .MIRROR_FN_EN, .MIRROR_FN_SYNCED, .MIRROR_FN_FUNCTION])
  | .heartbeatSend .. =>
    some (endFields ++ [.FN_STATUS_FROZEN, .MIRROR_STATUS_ROLE])
  | .heartbeatRx .. =>
    some (pinFields ++ endFields ++ [.LOFT_SCRATCH_USED, .SILO_CFG_EN, .SILO_CFG_CLASS, .SILO_CFG_HEAD, .SILO_CFG_PENDING, .SILO_CFG_SHARE, .SILO_CFG_G_MIN,
      .SILO_MASK_MASK, .SILO_TIME_QUANTUM, .SILO_TIME_LEAD, .SILO_TIME_WAIT_MAX, .SILO_STAT_SPAN, .SILO_STAT_HOLDER, .FN_STATUS_FROZEN,
      .MIRROR_STATUS_HANDOVER, .MIRROR_STATUS_ALT_OK, .MIRROR_STATUS_ROLE, .MIRROR_FN_SYNCED])
  | .heartbeatMissed .. =>
    some (pinFields ++ endFields ++ [.LOFT_SCRATCH_USED, .SILO_CFG_EN, .SILO_CFG_CLASS, .SILO_CFG_HEAD, .SILO_CFG_PENDING, .SILO_CFG_SHARE, .SILO_CFG_G_MIN,
      .SILO_MASK_MASK, .SILO_TIME_QUANTUM, .SILO_TIME_LEAD, .SILO_TIME_WAIT_MAX, .SILO_STAT_SPAN, .SILO_STAT_HOLDER, .FN_STATUS_FROZEN,
      .MIRROR_STATUS_HANDOVER, .MIRROR_STATUS_ALT_OK, .MIRROR_STATUS_ROLE, .MIRROR_STATUS_HB_LOST, .MIRROR_HB_MISS_COUNT, .MIRROR_FN_SYNCED])
  | .chkRestore .. =>
    some (answerFields ++ [.COMMIT_OUT_CORES, .APPAIR_STATUS_OUT, .GLN_CORE_FAILED, .GLN_CORE_S_EXCLUDED, .GLN_CORE_LAPSE, .GLN_CORE_AGE])
  | .appairSet .. =>
    some (answerFields ++ [.APPAIR_CFG_EN1, .APPAIR_CFG_EN0])
  | .pairSet .. =>
    some (answerFields ++ [.MIRROR_CFG_EN, .MIRROR_CFG_ROLE_REQ, .MIRROR_CFG_ALT_EN, .MIRROR_CFG_ALT_PORT])
  | .pairMirror .. =>
    some (answerFields ++ [.MIRROR_SEQ_SEQ, .MIRROR_FN_EN, .MIRROR_FN_SYNCED, .MIRROR_FN_FUNCTION])
  | .pairHandover .. =>
    some (endFields ++ [.FN_STATUS_FROZEN, .MIRROR_STATUS_HANDOVER])
  | .mirrorFnWrite .. =>
    some (eventFields ++ busErrorFields ++ answerFields ++ [.MIRROR_STATUS_ROLE_ERR, .MIRROR_SEQ_SEQ, .MIRROR_FN_EN, .MIRROR_FN_SYNCED, .MIRROR_FN_FUNCTION])
  | .secConfirm .. =>
    some (busErrorFields ++ granaryErrorFields ++ [.SAFE_STATUS_SEC_OK])
  | .secConfirmLapse .. =>
    some (faultFields ++ [.SAFE_STATUS_SEC_OK])
  | .silenceTimeout .. =>
    some faultFields
  | .safeCtrlArmWrite .. | .safeCtrlClearWrite .. =>
    some (busErrorFields ++ faultFields ++ [.SCH_STATUS_CONFLICT, .SAFE_STATUS_BADCFG, .SAFE_CTRL_ARM, .SAFE_CTRL_FTTI_MS])
  | .safeReactWrite .. =>
    some (eventFields ++ busErrorFields ++ [.SAFE_STATUS_BADCFG, .SAFE_REACT_ACT])
  | .gleanerTestStart .. =>
    some (endFields ++ [.GLN_CTRL_TESTING, .GLN_CORE_TESTING])
  | .gleanerTestEnd .. =>
    some (endFields ++ [.COMMIT_STATUS_REMOVED, .COMMIT_OUT_CORES, .GLN_CORE_FAILED, .GLN_CORE_S_EXCLUDED, .GLN_CORE_LAPSE, .GLN_CORE_TESTING, .GLN_CORE_AGE])
  | .coveragePeriodEnd .. =>
    some (faultFields ++ [.GLN_CORE_S_EXCLUDED, .GLN_CORE_LAPSE])
  | .checkerRotationSlot .. =>
    some (faultFields ++ [.CHKROT_STATUS_NEXT, .CHKROT_STATUS_LAPSE, .CHKROT_STATUS_FAIL, .CHKROT_FAILED_ORDER])
  | .checkerTestRetry .. =>
    some (faultFields ++ [.CHKROT_STATUS_LAPSE, .CHKROT_STATUS_FAIL, .CHKROT_FAILED_ORDER])
  | .safeCfg .. =>
    some (answerFields ++ [.SAFE_CTRL_FTTI_MS, .SAFE_REACT_ACT])
  | .safeArm .. =>
    some (answerFields ++ [.SAFE_CTRL_ARM])
  | .safeClear .. =>
    some (answerFields ++ faultFields)
  | .safeSiloSet .. =>
    some (answerFields ++ [.SAFE_SILO_CFG_EN, .SAFE_SILO_CFG_TOL, .SAFE_SILO_CFG_ODO, .SAFE_SILO_STR_EN1, .SAFE_SILO_STR_STREAM1, .SAFE_SILO_STR_EN0,
      .SAFE_SILO_STR_STREAM0])
  | .safeStreamSet .. =>
    some (answerFields ++ [.SAFE_STREAM_0_EN, .SAFE_STREAM_0_DIE, .SAFE_STREAM_0_SILO, .SAFE_STREAM_0_HANDLE, .SAFE_STREAM_1_OFFSET])
  | .secFuseCtrlGo .. =>
    some (eventFields ++ busErrorFields ++ [.SEC_FUSE_CTRL_REFUSED, .SEC_FUSE_CTRL_ACTIVE])
  | .pmcIntervalEnd .. =>
    some (faultFields ++ [.CLK_DIV_TARGET, .PWR_STATUS_LEVEL, .PWR_STATUS_ARITH_STEP, .PWR_STATUS_THERM, .PWR_POWER_P1MS, .PWR_POWER_P100])
  | .thermalSample .. =>
    some (faultFields ++ [.PWR_STATUS_TRIP, .THERM_STATUS_VALID, .THERM_STATUS_SENSOR, .THERM_STATUS_TEMP, .THERM_SENSOR_TEMP, .TITHE_STATUS_SKIPPED,
      .TITHE_STATUS_WRITING])
  | .voltageConfirmed .. =>
    some [.CLK_DIV_TARGET, .PWR_STATUS_PMBUS_ERR]
  | .railMonitor .. | .pmbusAlert .. =>
    some (eventFields ++ [.PWR_STATUS_PMBUS_ERR])
  | .powerFailAssert .. =>
    some (faultFields ++ [.CLK_DIV_TARGET, .GRN_CE_COUNT_BG3, .GRN_CE_COUNT_BG2, .GRN_CE_COUNT_BG1, .GRN_CE_COUNT_BG0, .GRN_UE_COUNT_COUNT,
      .DRAM_STATUS_SELF_REFRESH, .DRAM_CE_COUNT_BG3, .DRAM_CE_COUNT_BG2, .DRAM_CE_COUNT_BG1, .DRAM_CE_COUNT_BG0, .DRAM_UE_COUNT_COUNT, .PWR_STATUS_LEVEL,
      .PWR_STATUS_PFAIL, .TITHE_STATUS_SKIPPED, .TITHE_STATUS_WRITING])
  | .powerFailRestore .. =>
    some (eventFields ++ [.CLK_DIV_TARGET, .DRAM_STATUS_SELF_REFRESH, .PWR_STATUS_LEVEL, .PWR_STATUS_PFAIL])
  | .titheHourlyWrite .. =>
    some [.TITHE_STATUS_WRITING]
  | .titheWriteEnd .. =>
    some (answerFields ++ [.TITHE_STATUS_WRITE_ERR, .TITHE_STATUS_ERASING, .TITHE_STATUS_WRITING, .TITHE_STATUS_BANK, .TITHE_SEQ_SEQ])
  | .titheEraseEnd .. =>
    some [.TITHE_STATUS_ERASING]
  | .pwrSet .. =>
    some (answerFields ++ [.PWR_LIMIT_DIE_LIMIT, .PWR_PKG_LIMIT_PKG_LIMIT, .PWR_FLOOR_FLOOR, .THERM_CFG_THROTTLE_C])
  | .railSet .. =>
    some (answerFields ++ [.PWR_RAIL_EN, .PWR_RAIL_RAIL, .PWR_RAIL_PAGE, .PWR_RAIL_ADDR])
  | .titheFlush .. =>
    some (answerFields ++ [.TITHE_STATUS_WRITING])
  | .ethLinkChange .. =>
    some (eventFields ++ [.ETH_PORT_STATUS_LINK, .ETH_PORT_STATUS_SPEED])
  | .csiPhyLockChange .. =>
    some [.CSI_STATUS_PHY_ERR, .CSI_STATUS_LOCK]
  | .mirrorLaneLoss .. =>
    some (answerFields ++ faultFields ++ [.MIRROR_STATUS_LANES, .MIRROR_STATUS_UNSYNC, .MIRROR_STATUS_LINK_UP])
  | .canFrameTx .. =>
    some (eventFields ++ [.CAN_STATUS_BUSOFF, .CAN_STATUS_PASSIVE, .CAN_STATUS_TEC])
  | .mirrorAckRx .. =>
    some (eventFields ++ answerFields ++ [.MIRROR_STATUS_UNSYNC, .MIRROR_ACK_SEQ, .MIRROR_LAG_COUNT, .MIRROR_FN_SYNCED])
  | .dramRefreshDerate .. =>
    some [.DRAM_STATUS_DERATE]

/-- The components that a row may change. -/
def rowParts : Instr → List Component
  | .powerOnRelease .. | .rstNRelease .. | .clkAckTimeout .. =>
    [.clocks, .boot]
  | .brownOut .. =>
    engineParts ++ [.access, .bus, .pins, .clocks, .boot, .update, .time, .functions, .security, .mirror, .apPairs, .heads, .frameFlags, .streams, .odometry,
    .tachPulses, .tachEdges, .ethernet, .ports, .power]
  | .rstNAssert .. | .debugResetRequest .. | .holdoffEnd .. =>
    [.boot]
  | .watchdogExpiry .. | .lockUp .. =>
    answerParts ++ [.boot, .update, .security]
  | .rstWdtKickWrite .. | .pincfgWrite .. | .mbNotifyWrite .. | .headCtrlEnWrite .. =>
    [.access, .bus]
  | .rstSwreqWrite .. | .rstctlForceWrite .. =>
    [.access, .bus, .boot, .mailboxes, .interrupts]
  | .resetTakeEffect .. =>
    endParts ++ [.access, .bus, .pins, .clocks, .boot, .update, .time, .security, .apPairs, .heads, .frameFlags, .streams, .odometry, .tachPulses, .tachEdges,
    .ethernet, .ports, .power]
  | .trimLoadEnd .. =>
    [.pins, .boot, .security]
  | .xoJudgementEnd .. | .pllJudgementEnd .. =>
    [.pins, .clocks, .boot, .mailboxes, .interrupts, .time]
  | .optionLoadEnd .. =>
    [.pins, .boot]
  | .bootVerifyEnd .. =>
    [.boot, .update, .security]
  | .dramTrainingEnd .. =>
    [.memory, .boot, .tithe, .sent, .power]
  | .fabricUp .. =>
    [.memory, .boot, .buffers]
  | .firmwareStart .. =>
    [.memory, .boot, .mailboxes, .mirror]
  | .forcedGroupClockStable .. =>
    [.bus]
  | .resetRequest .. | .bootChunk .. =>
    serviceParts ++ [.boot]
  | .resetQuery .. | .optRead .. | .clkQuery .. | .clkSpread .. | .pinConfig .. | .pinQuery .. | .ping .. | .event .. | .eventMask .. | .fwStage ..
  | .fwActivate .. | .fwStatus .. | .fwAbort .. | .memBufQuery .. | .memEccQuery .. | .teQuery .. | .veQuery .. | .xeQuery .. | .winQuery ..
  | .kvSeqQuery .. | .qQuery .. | .siloQuery .. | .fnQuery .. | .fnQmap .. | .rasStookSet .. | .rasQuery .. | .dispQuery .. | .dispOff .. | .camRxSet ..
  | .camStreamQuery .. | .odoSet .. | .odoQuery .. | .tbQuery .. | .ppsOutSet .. | .trgQuery .. | .tscapSet .. | .tscapRead .. | .ethPortQuery ..
  | .canSet .. | .uartSet .. | .pcieSet .. | .fbrQuery .. | .chkQuery .. | .appairSet .. | .pairQuery .. | .safeCfg .. | .safeQuery .. | .safeSiloSet ..
  | .glnQuery .. | .chkrotQuery .. | .attest .. | .certRead .. | .guardGrant .. | .guardRevoke .. | .pwrQuery .. | .pwrSet .. | .railSet .. | .titheRead .. =>
    serviceParts
  | .optWrite .. =>
    serviceParts ++ [.flash, .boot]
  | .rstStatusRead .. | .pairLoRead .. | .pairHiRead .. | .rcRegisterRead .. | .fabStatusRead .. | .grnDramStatusRead .. | .fbrStatusRead .. =>
    faultParts ++ [.free, .access, .bus, .buffers, .sent]
  | .clkmonWindowEnd .. =>
    faultParts ++ [.clocks, .boot, .update, .time]
  | .clkAckWrite .. | .clkDivTargetWrite .. | .clkCtrlRestore .. =>
    [.access, .bus, .clocks, .mailboxes, .interrupts]
  | .dividerRampStep .. | .sscDepthApply .. =>
    [.clocks]
  | .restoreJudgementEnd .. =>
    answerParts ++ [.clocks]
  | .clkRestore .. =>
    serviceParts ++ [.clocks]
  | .claim .. =>
    serviceParts ++ [.pins, .tithe, .safety, .mirror]
  | .release .. | .fnConfig .. | .fnReset .. | .fnRestore .. | .fnThaw .. | .fnDiscard .. | .heartbeatRx .. | .heartbeatMissed .. =>
    endParts ++ [.pins, .update]
  | .pinmuxOvrWrite .. =>
    [.access, .bus, .pins, .mailboxes, .interrupts]
  | .registerWrite .. | .postedWriteComplete .. | .pairLoWrite .. | .pairHiWrite .. | .pcieInboundRequest .. | .postedWriteFail .. | .fbrReadRelease ..
  | .fbrSemTimeout .. | .fbrSemReleaseWrite .. | .fbrAtomicEmulation .. =>
    endParts ++ [.access, .bus, .pins, .clocks, .boot, .time, .security, .heads, .streams, .odometry, .tachEdges, .ethernet, .ports]
  | .mbReqTailWrite .. =>
    faultParts ++ [.access, .memory, .bus, .buffers]
  | .mbRspHeadWrite .. =>
    [.access, .bus, .mailboxes]
  | .requestStart .. =>
    faultParts ++ [.free, .buffers, .sent]
  | .hello .. | .goodbye .. | .eventRingWrite .. =>
    answerParts
  | .shadowCopyEnd .. =>
    [.update]
  | .handoffPoint .. | .abandonPoint .. | .failureInProbation .. =>
    answerParts ++ [.update, .security]
  | .adoptionDeclared .. =>
    [.mailboxes, .update, .interrupts, .security]
  | .probationEnd .. =>
    answerParts ++ [.update]
  | .fwPersistWriteEnd .. =>
    answerParts ++ [.flash, .update]
  | .eccCorrectionWriteback .. | .dramPowerDownEntry .. | .dramRefreshDerate .. =>
    [.buffers]
  | .scrubRead .. =>
    faultParts ++ [.free, .buffers]
  | .dramReread .. =>
    faultParts ++ [.access, .buffers, .queues]
  | .eccCountCollect .. | .titheHourlyWrite .. =>
    [.tithe]
  | .spillStart .. | .commandPlace .. | .quantumBoundary .. | .displayReserveStart .. | .commitCompare .. | .mismatchSelftestEnd ..
  | .shadowToOutputCopyEnd .. | .gleanerTestStart .. | .gleanerTestEnd .. =>
    endParts
  | .spillCopyEnd .. =>
    faultParts ++ [.free, .memory, .buffers, .sent, .mirror]
  | .refillCopyEnd .. =>
    engineParts ++ [.sent, .mirror]
  | .grnQuotaWrite .. =>
    faultParts ++ [.access, .bus, .buffers, .sent, .mirror]
  | .loftMapWrite .. =>
    [.free, .access, .memory, .bus, .mailboxes, .buffers, .interrupts]
  | .loftScratchWrite .. | .tbAdjWrite .. | .safeReactWrite .. =>
    [.access, .bus, .mailboxes, .interrupts]
  | .memQuota .. | .memAlloc .. | .memFree .. | .kvPoolDestroy .. =>
    serviceParts ++ [.buffers, .tithe, .safety, .mirror]
  | .memLoftMap .. | .qAcct .. =>
    serviceParts ++ [.memory, .buffers]
  | .matmul .. | .conv .. | .attend .. | .kvAppend .. | .kvFork .. | .kvRelease .. | .unary .. | .binary .. | .reduce .. | .softmax .. | .norm ..
  | .convert .. | .dwconv .. | .pool .. | .resample .. | .gather .. | .neighbours .. | .setOp .. | .hashBuild .. | .hashProbe .. | .radixSort ..
  | .segReduce .. | .scatter .. | .frontier .. | .copy .. | .nop .. | .signal .. | .render .. | .fastClear .. | .expand .. =>
    engineParts
  | .shadingBatch .. =>
    [.free, .queues]
  | .kvPoolCreate .. | .kvSeqCreate .. | .kvSeqDestroy .. | .kvSeqSet .. =>
    serviceParts ++ [.memory, .buffers, .tithe, .safety, .mirror]
  | .qdbSqTailWrite .. =>
    faultParts ++ [.access, .memory, .bus, .buffers, .sent, .queues, .mirror]
  | .qdbCqHeadWrite .. =>
    faultParts ++ [.access, .memory, .bus, .buffers, .sent, .queues]
  | .sheafFetch .. =>
    faultParts ++ [.memory, .buffers, .sent, .queues, .mirror]
  | .sheafReady .. | .siloSpanAck .. =>
    [.queues]
  | .commandCommit .. =>
    endParts ++ [.heads]
  | .coresGuaranteeCheck .. =>
    faultParts ++ [.memory, .buffers, .queues]
  | .qCreate .. =>
    serviceParts ++ [.memory, .buffers, .queues]
  | .qDestroy .. | .qEnable .. | .siloSet .. | .siloSpan .. =>
    serviceParts ++ [.queues]
  | .qDisable .. | .fnFreeze .. | .pairHandover .. =>
    endParts ++ [.update]
  | .schQctlEnable .. | .schQctlDisable .. | .schQctlDrain .. =>
    endParts ++ [.access, .bus]
  | .fnGlobal .. =>
    serviceParts ++ [.functions]
  | .fnSave .. =>
    serviceParts ++ [.memory, .buffers, .tithe, .safety, .security]
  | .functionLevelReset .. | .numvfsWrite .. | .functionResetEnd .. | .mirrorTransferRx .. =>
    endParts ++ [.pins]
  | .fnResetRegWrite .. | .fnCfgWrite .. =>
    endParts ++ [.access, .bus, .pins]
  | .genDrainEnd .. =>
    [.functions]
  | .verticalBlank .. =>
    faultParts ++ [.memory, .buffers, .queues, .heads]
  | .scanoutTileRowDue .. =>
    faultParts ++ [.buffers, .sent, .heads]
  | .hpdChange .. =>
    [.mailboxes, .interrupts, .heads]
  | .headImgHiWrite .. =>
    [.access, .bus, .heads]
  | .dispMode .. | .dispFlip .. =>
    serviceParts ++ [.heads]
  | .csiShortPacket .. | .gvspPacket .. =>
    faultParts ++ [.free, .memory, .buffers, .streams]
  | .csiLongPacket .. =>
    faultParts ++ [.memory, .buffers, .streams]
  | .frameComplete .. =>
    faultParts ++ [.memory, .buffers, .frameFlags, .streams]
  | .goldenCopyEnd .. =>
    faultParts ++ [.free, .memory, .buffers, .frameFlags, .streams]
  | .strCfgWrite .. =>
    faultParts ++ [.free, .access, .memory, .bus, .buffers, .streams]
  | .odoEdgeAccept .. =>
    faultParts ++ [.pins, .time, .odometry]
  | .odoZEdge .. =>
    faultParts ++ [.odometry]
  | .tachEdge .. =>
    [.tachPulses, .tachEdges]
  | .odoWindowEnd .. =>
    faultParts ++ [.time, .odometry, .tachPulses]
  | .odoDistWrite .. =>
    [.access, .bus, .mailboxes, .interrupts, .time, .odometry]
  | .camStreamSet .. =>
    serviceParts ++ [.memory, .buffers, .tithe, .safety, .streams]
  | .odoPreset .. =>
    serviceParts ++ [.time, .odometry]
  | .tachSet .. =>
    serviceParts ++ [.tachEdges]
  | .ppsInEdge .. | .holdoverTimeout .. | .timeTriggerFire .. | .cmp32Match .. =>
    [.mailboxes, .interrupts, .time]
  | .replicaAlign .. | .triggerPulseEnd .. | .ppsOutPulse .. =>
    [.time]
  | .tscapEdge .. =>
    [.pins]
  | .tbOffsetHiWrite .. | .tbSetnsecWrite .. | .trgCfgWrite .. =>
    [.access, .bus, .mailboxes, .interrupts, .time]
  | .cmp32NsecWrite .. =>
    [.access, .bus, .time]
  | .tbSet .. | .tbOffset .. | .tbStep .. | .trgSet .. | .cmp32Set .. =>
    serviceParts ++ [.time]
  | .ethFrameRx .. | .cpuTxDescriptor .. =>
    faultParts ++ [.free, .memory, .buffers, .ethernet]
  | .ethFrameTx .. =>
    faultParts ++ [.memory, .buffers, .sent, .ethernet]
  | .gclEntryEnd .. | .fdbEntryAgeing .. =>
    [.ethernet]
  | .canFrameRx .. =>
    [.free, .ports]
  | .canBusoffRejoin .. | .csiPhyLockChange .. =>
    []
  | .uartCharacter .. =>
    [.sent, .ports]
  | .mvbTelegram .. =>
    [.free, .sent, .ports]
  | .pcieLinkTraining .. | .fbrHeadOnRetry .. =>
    [.ports]
  | .pcieAerError .. =>
    [.mailboxes, .interrupts, .ports]
  | .mirsiaRetrain .. =>
    faultParts ++ [.ports]
  | .xspiCommand .. =>
    faultParts ++ [.access, .memory, .flash, .buffers, .ports]
  | .ethPortSet .. | .tsnGclSet .. | .tsnStreamSet .. | .ptpDomainSet .. | .ethTrapSet .. =>
    serviceParts ++ [.ethernet]
  | .mvbSet .. =>
    serviceParts ++ [.ports]
  | .apCheckpoint .. | .apPairSelftestEnd .. =>
    faultParts ++ [.memory, .boot, .buffers, .apPairs]
  | .debugAction .. =>
    faultParts ++ [.access, .memory, .buffers, .apPairs]
  | .mirrorPortTrained .. =>
    answerParts ++ [.free, .tithe, .security, .mirror]
  | .heartbeatSend .. =>
    endParts ++ [.clocks]
  | .chkRestore .. =>
    serviceParts ++ [.boot, .safety]
  | .pairSet .. | .pairMirror .. =>
    serviceParts ++ [.mirror]
  | .mirrorFnWrite .. =>
    answerParts ++ [.access, .bus, .mirror]
  | .secConfirm .. =>
    faultParts ++ [.memory, .buffers, .ethernet]
  | .secConfirmLapse .. | .silenceTimeout .. | .coveragePeriodEnd .. | .checkerRotationSlot .. | .checkerTestRetry .. =>
    faultParts
  | .safeCtrlArmWrite .. | .safeCtrlClearWrite .. =>
    faultParts ++ [.access, .bus, .pins]
  | .safeArm .. =>
    serviceParts ++ [.pins, .safety]
  | .safeClear .. =>
    serviceParts ++ [.tithe, .safety]
  | .safeStreamSet .. =>
    serviceParts ++ [.safety]
  | .mrExtend .. | .fuseProgram .. | .svnAdvance .. | .lcAdvance .. | .keyRevoke .. =>
    serviceParts ++ [.security]
  | .secFuseCtrlGo .. =>
    [.access, .bus, .mailboxes, .interrupts, .security]
  | .authdataWrite .. =>
    [.free, .mailboxes, .interrupts, .security]
  | .pmcIntervalEnd .. | .powerFailAssert .. =>
    faultParts ++ [.clocks, .sent, .power]
  | .packagePowerCheck .. | .powerEstimateScale .. =>
    [.power]
  | .thermalSample .. =>
    faultParts ++ [.sent, .power]
  | .voltageConfirmed .. =>
    [.clocks, .power]
  | .railMonitor .. =>
    [.mailboxes, .interrupts, .power]
  | .pmbusAlert .. | .ethLinkChange .. =>
    [.mailboxes, .interrupts]
  | .powerFailRestore .. =>
    answerParts ++ [.clocks, .power]
  | .titheWriteEnd .. =>
    answerParts ++ [.free, .flash, .tithe]
  | .titheEraseEnd .. =>
    [.flash]
  | .titheFlush .. =>
    serviceParts ++ [.tithe]
  | .mirrorLaneLoss .. =>
    faultParts ++ [.sent, .mirror]
  | .canFrameTx .. =>
    answerParts ++ [.free]
  | .mirrorAckRx .. =>
    answerParts ++ [.mirror]
  | .pairDiscoveryWindowEnd .. =>
    [.mirror]

/-- A row changes a register field only where its entry names the field. -/
def mayChange (i : Instr) (f : Fld) : Bool :=
  match rowFields i with
  | some l => decide (f ∈ l)
  | none => true

end Sys2Proof.Machine
end

