-- ==== Sys2Proof/Certificates/Slice0/Obligations.lean ====
section
/-!
DEFINITION. Certificates/Slice0/Obligations.lean: what is claimed of the machine, one proposition each. Statements named …Complete say where the rows they
name complete: under hypotheses on the state and the operands alone, the row answers the next state that its rules give.
-/

open Sys2Proof Sys2Proof.Machine

/-- R64, R65, R71, R87, R88, R89: while no hold-off runs and no trim load is in progress, each source that hardware or firmware detects requests a reset with its code, in the
scope of the table; a die scope that names DIE_0 is the package.
Choices of the model that it passes through: notes/assumptions 7, 26, 33, 73. -/
def Obligations.ResetSourcesComplete : Prop :=
  ∀ s : State, s.boot.powered = true → (∀ t, s.hasTarget t = true → s.mustHold t = false) →
    (∃ t, exec .rstNAssert s = .next t ∧ t.boot.due = s.boot.due ++ [⟨3, .package, 0, false⟩] ∧ t.boot.rstNLow = true) ∧
    (∀ d, s.hasDie d = true → s.fw.activation = none → s.fld d .RST_WDT_EN = 1 →
      ∃ t, exec (.watchdogExpiry d) s = .next t ∧ t.boot.due = s.boot.due ++ [⟨4, if d = 0 then .package else .die d, d, false⟩]) ∧
    (∀ m d (data : Word), WritesNow s m d .RSTCTL 0x10 → s.guardOk m = true → bits data.toNat 31 24 = 0xA5 →
      s.hasTarget (targetOf (bits data.toNat 5 4) (bits data.toNat 8 6) (bits data.toNat 11 9)) = true →
      ∃ t, exec (.rstSwreqWrite m d data) s = .next t ∧ t.boot.due = s.boot.due ++
        [⟨5, widen (targetOf (bits data.toNat 5 4) (bits data.toNat 8 6) (bits data.toNat 11 9)), d, false⟩]) ∧
    (∀ r scope d i, Serves s r 0x0830 (some (if scope = 0 then 0 else d)) → scope ≤ 3 →
      (if scope < 2 then r.dom = 0 ∨ r.dom = fwDom ∨ r.dom = 0x2000 else s.granted r.dom = true) → s.hasTarget (targetOf scope d i) = true →
      s.reachesClassS (targetOf scope d i) = false →
      exec (.resetRequest r scope d i) s = .next (s.replies r 0x0830 (some (if scope = 0 then 0 else d)) (fun t =>
        ({ t with boot.due := t.boot.due ++ [⟨5, widen (targetOf scope d i), 0, false⟩] }, [])))) ∧
    (s.fld 0 .SEC_STATUS_DBG_AUTH = 1 →
      (∃ t, exec (.debugResetRequest .ndmreset) s = .next t ∧ t.boot.due = s.boot.due ++ [⟨6, .package, 0, false⟩]) ∧
      (∀ d a, s.hasTarget (.ap d a) = true →
        ∃ t, exec (.debugResetRequest (.hartreset d a)) s = .next t ∧ t.boot.due = s.boot.due ++ [⟨6, .ap d a, d, false⟩])) ∧
    (s.fw.activation = none → ∀ u, s.hasTarget (lockTarget u).1 = true → s.hasDie (lockTarget u).2 = true →
      ∃ t, exec (.lockUp u) s = .next t ∧ t.boot.due = s.boot.due ++ [⟨8, match u with
        | .ap d a => .ap d a
        | .ccc d c => .cluster d c
        | .sch d | .pmc d | .sec d => if d = 0 then .package else .die d, (lockTarget u).2, false⟩])

/-- R50, R54, R73, R75, R81, R473: each step of a package start-up, once the step before it is complete on every die, completes that step. After the judgement of the PLLs
every domain is switched to ROOT_PLL where the ROOT_PLL of every die has passed.
Choices of the model that it passes through: notes/assumptions 7, 72, 73, 88. -/
def Obligations.StartupStepsComplete : Prop :=
  ∀ s : State, s.boot.powered = true → s.boot.pkg = true → s.hasDie 0 = true →
    (∀ d parity cs, s.hasDie d = true → d ∈ s.boot.loading →
      ∃ t, exec (.trimLoadEnd d parity cs) s = .next t ∧ t.stepOf d = max 3 (s.stepOf 0) ∧ d ∈ t.pins.applied ∧ d ∉ t.boot.loading) ∧
    (∀ counts, s.allAt 3 = true → judged counts = true → ∃ t, exec (.xoJudgementEnd counts) s = .next t ∧ t.stepOf 0 = 4 ∧ t.boot.xoPassed = true) ∧
    (∀ counts, s.allAt 3 = true → judged counts = false →
      ∃ t, exec (.xoJudgementEnd counts) s = .next t ∧ 4 < t.stepOf 0 ∧ t.boot.xoPassed = false) ∧
    (∀ root tref, s.allAt 4 = true → ∃ t, exec (.pllJudgementEnd root tref) s = .next t ∧ 4 < t.stepOf 0 ∧
      ∀ d, s.hasDie d = true → (pllPasses root d = true → t.fld d .CLK_STATUS_ROOT_LOCK = 1) ∧ (pllPasses tref d = true → t.fld d .CLK_STATUS_TREF_LOCK = 1) ∧
        ((∀ e, s.hasDie e = true → pllPasses root e = true) → ∀ x, x < 5 → t.fld d .CLK_DIV_SRC x = 0 ∧ t.goalOf d x = normalDiv x)) ∧
    (s.allAt 5 = true → ∃ t, exec .optionLoadEnd s = .next t ∧ t.stepOf 0 = 6) ∧
    (∀ partner, s.allAt 6 = true → s.fld 0 .SEC_STATUS_BOOT_FAIL = 0 →
      (s.fld 0 .RST_STATUS_BOOTSEL_EFF = 3 → s.boot.chunkTotal = some s.boot.chunks.length) →
      ∃ t, exec (.bootVerifyEnd partner) s = .next t ∧
        (∀ i, (s.bootPick partner).info = some i → t.stepOf 0 = 7 ∧ t.fw.bundle = some i ∧ t.boot.pkg = false) ∧
        ((s.bootPick partner).info = none → t.fld 0 .SEC_STATUS_BOOT_FAIL = 1))

/-- R67, R73, R86, R87: the steps from 8 on, which a die passes on its own after a reset of its scope, a cluster its last two and an AP the last.
Choices of the model that it passes through: notes/assumptions 4, 7, 73. -/
def Obligations.ReleaseStepsComplete : Prop :=
  ∀ s : State, s.boot.powered = true → s.hasDie 0 = true →
    (∀ d, s.hasDie d = true → d ≠ 0 → s.stepOf d = 7 → s.fld 0 .SEC_STATUS_BOOT_FAIL = 0 →
      ∃ t, exec (.dramTrainingEnd d) s = .next t ∧ t.stepOf d = 8 ∧ t.fld d .DRAM_STATUS_TRAINED = 1) ∧
    (s.allAt 8 = true → ∃ t, exec (.fabricUp .package) s = .next t ∧ t.stepOf 0 = 9) ∧
    (∀ d, s.hasDie d = true → s.stepOf d = 8 →
      ∃ t, exec (.fabricUp (.die d)) s = .next t ∧ t.stepOf d = 9 ∧ ∀ a, granaryBase d ≤ a → a < granaryBase d + 0x22000000 → t.byte a = 0) ∧
    (∀ d c, s.hasTarget (.cluster d c) = true → (d, 4 + c) ∈ s.boot.down →
      ∃ t, exec (.fabricUp (.cluster d c)) s = .next t ∧ (d, c) ∈ t.boot.zeroed ∧
        ∀ a, sliceBase d c ≤ a → a < sliceBase d c + 0x5000000 → t.byte a = 0) ∧
    (s.allAt 9 = true → ∃ t, exec (.firmwareStart .package) s = .next t ∧ t.stepOf 0 = 11) ∧
    (∀ d, s.hasDie d = true → s.stepOf d = 9 →
      ∃ t, exec (.firmwareStart (.die d)) s = .next t ∧ t.stepOf d = 11 ∧ t.fld d .RST_WDT_TIMEOUT = 200 ∧ t.fld d .RST_WDT_EN = 1) ∧
    (∀ d c, s.hasTarget (.cluster d c) = true → (d, c) ∈ s.boot.zeroed →
      ∃ t, exec (.firmwareStart (.cluster d c)) s = .next t ∧ (d, 4 + c) ∉ t.boot.down) ∧
    (∀ d a, s.hasTarget (.ap d a) = true → ∃ t, exec (.firmwareStart (.ap d a)) s = .next t ∧ (d, a) ∉ t.boot.down) ∧
    (∀ d g, s.hasDie d = true → hasGroup d g = true → bit (s.fld d .RSTCTL_ISO_GROUPS) g = true → s.groupStable d g = true →
      ∃ t, exec (.forcedGroupClockStable d g) s = .next t ∧ bit (t.fld d .RSTCTL_ISO_GROUPS) g = false) ∧
    (∀ m d (data : Word), WritesNow s m d .RSTCTL 0x20 → s.guardOk m = true →
      exec (.rstctlForceWrite m d data) s =
        .next (((List.range 20).filter (fun g => bit data.toNat g && hasGroup d g)).foldl (State.forceGroup d) s.accepted)) ∧
    (∀ m d (data : Word), WritesNow s m d .RSTCTL 0x34 → data.toNat % 2 ^ 16 = 0x6B1D → exec (.rstWdtKickWrite m d data) s = .next s.accepted) ∧
    (∀ m d (data : Word), WritesNow s m d .RSTCTL 0x34 → data.toNat % 2 ^ 16 ≠ 0x6B1D →
      ∃ t, exec (.rstWdtKickWrite m d data) s = .next t ∧ t.fld d .RSTCTL_STATUS_BADKEY = 1)

/-- R66, R70, R71, R72, R73, R506: a reset that is due takes effect, and a hold-off that ends releases the groups of joined requests of which none is held any longer, each
as one reset; power-on release and brown-out. A package-scope warm reset keeps LPDDR5X and every claim falls; a brown-out keeps no memory and drops pending resets.
Choices of the model that it passes through: notes/assumptions 4, 5, 73. -/
def Obligations.ResetEffectComplete : Prop :=
  ∀ s : State, s.hasDie 0 = true →
    (s.boot.powered = false → ∃ t, exec .powerOnRelease s = .next t ∧ t.boot.powered = true ∧ t.mem = s.mem ∧
      (s.boot.rstNLow = false → .package ∈ t.boot.holdoff ∧ ∀ d, s.hasDie d = true →
        (s.tripped d = false → d ∈ t.boot.loading) ∧ ∀ x, x < 5 → t.fld d .CLK_DIV_SRC x = 1 ∧ t.fld d .CLK_DIV_CURRENT x = limpDiv x)) ∧
    (∀ d, s.hasDie d = true → ∃ t, exec (.brownOut d) s = .next t ∧ t.boot.powered = false ∧ t.boot.due = [] ∧ t.boot.held = [] ∧ t.boot.holdoff = [] ∧
      t.mem = [] ∧ t.flash = s.flash ∧ t.mail.boxes = [] ∧ t.pins.claims = [] ∧ t.fld 0 .RST_CAUSE_CAUSE = 2 ∧ t.fld 0 .RST_CAUSE_SRC_DIE = d % 8) ∧
    (s.boot.powered = true → s.boot.rstNLow = true → s.stepOf 0 = 0 → s.boot.loading = [] →
      ∃ t, exec .rstNRelease s = .next t ∧ t.boot.rstNLow = false ∧ .package ∈ t.boot.holdoff) ∧
    (∀ g, ∃ t, exec (.holdoffEnd g) s = .next t ∧ g ∉ t.boot.holdoff ∧
      t.boot.due = s.boot.due ++ ((resetGroups s.boot.held).filter (fun x => x.all (fun q => !t.mustHold q.target))).filterMap collapse ∧
      ∀ q ∈ t.boot.held, ∃ x ∈ resetGroups s.boot.held, q ∈ x ∧ ∃ y ∈ x, t.mustHold y.target = true) ∧
    (∀ q rest, s.boot.powered = true → s.boot.due = q :: rest → q.target = .package →
      ∃ t, exec .resetTakeEffect s = .next t ∧ t.mem = s.mem ∧ t.pins.claims = [] ∧ t.mail.boxes = [] ∧ t.boot.step = [] ∧
        t.fld 0 .RST_CAUSE_CAUSE = q.cause % 16 ∧ t.fld 0 .RST_CAUSE_SCOPE = 0) ∧
    (∀ q rest d, s.boot.powered = true → s.boot.due = q :: rest → q.target = .die d → d ≠ 0 →
      ∃ t, exec .resetTakeEffect s = .next t ∧ t.stepOf d = 0 ∧ t.fld d .RST_CAUSE_CAUSE = q.cause % 16 ∧
        t.fld d .RST_CAUSE_SCOPE = 1) ∧
    (∀ q rest d c, s.boot.powered = true → s.boot.due = q :: rest → q.target = .cluster d c →
      ∃ t, exec .resetTakeEffect s = .next t ∧ (d, 4 + c) ∈ t.boot.down ∧ t.fld d .RST_CAUSE_CAUSE = q.cause % 16 ∧ t.fld d .RST_CAUSE_SCOPE = 2) ∧
    (∀ q rest d a, s.boot.powered = true → s.boot.due = q :: rest → q.target = .ap d a →
      ∃ t, exec .resetTakeEffect s = .next t ∧ (d, a) ∈ t.boot.down ∧ t.fld d .RST_CAUSE_CAUSE = q.cause % 16 ∧ t.fld d .RST_CAUSE_SCOPE = 3)

/-- R50, R53, R55, R58, R60 to R63, R520: clock windows, the ramps of the dividers, spreading, acknowledgement and restore.
Choices of the model that it passes through: notes/assumptions 7, 26, 72, 81, 83, 85. -/
def Obligations.ClockRowsComplete : Prop :=
  ∀ s : State,
    (∀ d c, s.hasDie d = true → s.boot.powered = true → 5 ≤ s.stepOf 0 → windowOk (windowCount c) = true →
      ∃ t, exec (.clkmonWindowEnd d (.xo c)) s = .next t ∧ t.fld d .CLKMON_COUNT_XO = min c 1031 ∧ t.fld d .CLK_STATUS_XO_OK = 1) ∧
    (∀ d c, s.hasDie d = true → s.boot.powered = true → 5 ≤ s.stepOf 0 → windowOk (windowCount c) = false → lookupD s.clk.xoFails d 0 = 1 →
      ∃ u : State, u.fld d .CLK_STATUS_XO_OK = 0 ∧ exec (.clkmonWindowEnd d (.xo c)) s = .next (u.clockFailure d 2)) ∧
    (s.clk.awaitAck = true → s.boot.powered = true → s.mustHold .package = false →
      ∃ t, exec .clkAckTimeout s = .next t ∧ t.clk.awaitAck = false ∧ t.boot.due = s.boot.due ++ [⟨7, .package, s.clk.failDie, false⟩]) ∧
    (∀ m (data : Word), WritesNow s m 0 .CLKCTL 0x14 → s.guardOk m = true → ackCounts m = true → data.toNat % 2 = 1 →
      ∃ t, exec (.clkAckWrite m 0 data) s = .next t ∧ t.clk.awaitAck = false ∧ t.mail.nmi = false) ∧
    (∀ d x, s.hasDie d = true → x < 5 → s.clk.restoring = false → s.fld d .CLK_DIV_CURRENT x < s.goalOf d x → s.goalOf d x < 1024 →
      ∃ t, exec (.dividerRampStep d x) s = .next t ∧ t.fld d .CLK_DIV_CURRENT x = s.fld d .CLK_DIV_CURRENT x + 1) ∧
    (∀ m d x (data : Word), x < 5 → WritesNow s m d .CLKCTL (0x20 + 4 * x) → s.guardOk m = true → divValid x (data.toNat % 1024) = true →
      exec (.clkDivTargetWrite m d x data) s = .next (s.accepted.retarget d x (data.toNat % 1024))) ∧
    (∀ m (data : Word), WritesNow s m 0 .CLKCTL 0x10 → s.guardOk m = true → bits data.toNat 2 0 ≤ 4 →
      bits data.toNat 6 5 = s.fld 0 .CLK_CTRL_REFB_FREQ → bits data.toNat 7 7 = 0 →
      ∃ t, exec (.clkCtrlRestore m 0 data) s = .next t ∧ t.fld 0 .CLK_CTRL_SSC_DEPTH = bits data.toNat 2 0) ∧
    (∀ m (data : Word), WritesNow s m 0 .CLKCTL 0x10 → s.guardOk m = true → bits data.toNat 2 0 ≤ 4 →
      bits data.toNat 6 5 = s.fld 0 .CLK_CTRL_REFB_FREQ → bits data.toNat 7 7 = 1 → s.fld 0 .CLK_STATUS_LIMP = 1 → s.clk.judging = false →
      s.clk.restoring = false → ∃ t, exec (.clkCtrlRestore m 0 data) s = .next t ∧ t.clk.judging = true ∧ t.clk.depth = 0) ∧
    (s.fld 0 .CLK_STATUS_ROOT_LOCK = 1 → ∃ t, exec .sscDepthApply s = .next t ∧ t.clk.depth = s.fld 0 .CLK_CTRL_SSC_DEPTH) ∧
    (∀ xo root tref, s.clk.judging = true → s.clk.restoreReq = none → judged xo = true → s.pllsPass root tref = true →
      ∃ t, exec (.restoreJudgementEnd xo root tref) s = .next t ∧ t.clk.restoring = true ∧ t.clk.judging = false ∧ t.clk.back = s.domains) ∧
    (∀ xo root tref, s.clk.judging = true → s.clk.restoreReq = none → ¬ (judged xo = true ∧ s.pllsPass root tref = true) →
      ∃ t, exec (.restoreJudgementEnd xo root tref) s = .next t ∧ t.clk.judging = false ∧ t.clk.restoring = s.clk.restoring ∧
        ∀ d, s.hasDie d = true → t.fld d .CLK_STATUS_RESTORE_FAIL = 1 ∧ t.fld d .CLK_STATUS_LIMP = s.fld d .CLK_STATUS_LIMP) ∧
    (∀ r depth, Serves s r 0x0821 none → depth ≤ 4 → s.granted r.dom = true →
      exec (.clkSpread r depth) s = .next (s.replies r 0x0821 none (fun t => (t.setFld 0 .CLK_CTRL_SSC_DEPTH 0 depth, [])))) ∧
    (∀ r, Serves s r 0x0822 none → s.granted r.dom = true → s.clk.judging = false → s.clk.restoring = false → s.fld 0 .CLK_STATUS_LIMP = 1 →
      exec (.clkRestore r) s = .next (s.defers r 0x0822 none (fun t =>
        { t.clkAll .CLK_STATUS_ROOT_LOCK 0 with clk.judging := true, clk.restoreReq := some r, clk.depth := 0 })))

/-- R40, R46, R47, R517, R518: claiming, releasing and configuring pins.
Choices of the model that it passes through: notes/assumptions 22, 23, 26, 78, 79. -/
def Obligations.PinRowsComplete : Prop :=
  ∀ s : State,
    (∀ r g, Serves s r 0x0100 (some g.die) → s.rangeOk g = true → g.cls ≤ 4 → s.safetyRefuses r g = false → (s.major2 r = true → g.cls ≠ 0) →
      s.conflictIn r.dom g.resType g.die (rangeIndices g) = none →
      exec (.claim r g) s = .next (s.replies r 0x0100 (some g.die) (fun t =>
        let u := (rangeIndices g).foldl (fun v i => v.grant r.dom g.resType g.die g.cls i) t
        (u.useFree, u.claimReply r.dom g.index g)))) ∧
    (∀ r g, Serves s r 0x0101 (some g.die) → s.rangeOk g = true → g.cls = 0 →
      (s.major2 r = true → ∀ i ∈ rangeIndices g, s.holder g.resType g.die i = noDom ∨ s.claimClass g.resType g.die i ≠ 0) →
      s.conflictIn r.dom g.resType g.die (rangeIndices g) = none →
      exec (.release r g) s = .next (s.replies r 0x0101 (some g.die) (fun t =>
        let u := (rangeIndices g).foldl (fun v i => if v.holder g.resType g.die i = r.dom then v.ungrant g.resType g.die i else v) t
        (u.useFree, u.claimReply r.dom g.index g)))) ∧
    (∀ r d p (image : Word), Serves s r 0x0102 (some d) → s.hasDie d = true → hasSignal d p = true → image.toNat < 2 ^ 14 →
      funcReserved p (bits image.toNat 3 0) = false → s.pinHolder d p = r.dom → r.dom ≠ noDom →
      exec (.pinConfig r d p image) s = .next (s.replies r 0x0102 (some d) (fun t =>
        ((t.pinSet d p image.toNat).useFree, leBytes 4 ((t.pinSet d p image.toNat).pinImage d p))))) ∧
    (∀ m d p (data : Word), s.hasDie d = true → p < 768 → WritesNow s m d .PINMUX (0x1000 + 4 * p) → hasSignal d p = true →
      (s.pinHolder d p = noDom ∨ s.pinHolder d p = writerOf m) →
      exec (.pincfgWrite m d p data) s = .next (s.accepted.pinSet d p data.toNat)) ∧
    (∀ m d (data : Word), WritesNow s m d .PINMUX 0x10 → s.guardOk m = true → hasSignal d (bits data.toNat 9 0) = true →
      isSafeOut d (bits data.toNat 9 0) = false →
      ∃ t, exec (.pinmuxOvrWrite m d data) s = .next t ∧ t.pins.ovr =
        (if bits data.toNat 15 15 = 1 then insertKV s.pins.ovr (d, bits data.toNat 9 0) (bits data.toNat 13 12) else eraseK s.pins.ovr (d, bits data.toNat 9 0)) ∧
        t.fld d .PINMUX_OVR_PIN = bits data.toNat 9 0)

/-- R89, R100 to R103, R106, R157, R409: accesses of registers and of memory. A word access that the fabric does not refuse reaches its register; one of memory reaches its
bytes. A posted write that ends, in effect or in error, is followed by the accesses that waited.
Choices of the model that it passes through: notes/assumptions 27, 28, 31, 75. -/
def Obligations.AccessRowsComplete : Prop :=
  ∀ s : State,
    (∀ d p w, s.hasDie d = true → s.bus.posted.find? (fun w => decide (w.die = d) && decide (w.blk = p)) = some w →
      exec (.postedWriteComplete d p) s = .next ((State.endPosted { s with bus.posted := s.bus.posted.erase w } w none).runStalled none) ∧
      ∀ cause, peripheral (blkOfPosted p) = true → exec (.postedWriteFail d p cause) s =
        .next ((State.endPosted { s with bus.posted := s.bus.posted.erase w } w (some (cause % 4))).runStalled none)) ∧
    (∀ (m : Master) a d off (data : Word), decodeAddr s.part m.die a = .regs d off → sizeOk d off 4 = true → inApintc off = false → s.refusal m d off = none →
      exec (.registerWrite m a 4 (data.setWidth 64)) s = .next (s.writeOff m a d off 4 data) ∧
      exec (.pairLoWrite m a data) s = .next (s.writeOff m a d off 4 data) ∧ exec (.pairHiWrite m a data) s = .next (s.writeOff m a d off 4 data)) ∧
    (∀ (m : Master) a d off blk o, decodeAddr s.part m.die a = .regs d off → sizeOk d off 4 = true → inApintc off = false → s.refusal m d off = none →
      s.readWaits m d off = false → blockAt d off = some (blk, o) →
      (∃ t, exec (.pairLoRead m a) s = .next t ∧ t.access = .value (s.readWord m d blk o 0).1) ∧
      (∃ t, exec (.pairHiRead m a) s = .next t ∧ t.access = .value (s.readWord m d blk o 0).1) ∧
      (∀ same : Word, ∃ t, exec (.rcRegisterRead m a 4 (same.setWidth 64)) s = .next t ∧ t.access = .value (s.readWord m d blk o same.toNat).1)) ∧
    (∀ (m : Master) d, d < 8 → s.hasDie d = true →
      (s.refusal m d 0x8 = none → s.readWaits m d 0x8 = false → exec (.rstStatusRead m d) s = .next (s.readOff m (windowBase d + 0x8) d 0x8 0)) ∧
      (s.refusal m d 0xD0000 = none → s.readWaits m d 0xD0000 = false →
        exec (.fabStatusRead m d) s = .next (s.readOff m (windowBase d + 0xD0000) d 0xD0000 0)) ∧
      (s.refusal m d 0x300000 = none → s.readWaits m d 0x300000 = false →
        exec (.grnDramStatusRead m d false) s = .next (s.readOff m (windowBase d + 0x300000) d 0x300000 0)) ∧
      (s.refusal m d 0x320000 = none → s.readWaits m d 0x320000 = false →
        exec (.grnDramStatusRead m d true) s = .next (s.readOff m (windowBase d + 0x320000) d 0x320000 0)) ∧
      (s.refusal m d 0x30000 = none → s.readWaits m d 0x30000 = false →
        exec (.fbrStatusRead m d) s = .next (s.readOff m (windowBase d + 0x30000) d 0x30000 0))) ∧
    (∀ (m : Master) a n (data : BitVec 64) d o, (decodeAddr s.part m.die a = .dram d o ∨ decodeAddr s.part m.die a = .granary d o ∨ decodeAddr s.part m.die a = .loft d o) →
      n ≠ 0 → s.memRefusal m a n = none →
      exec (.registerWrite m a n data) s = .next { s.store (agentOf m) a (leBytes n data.toNat) with access := .done } ∧
      ∀ same, s.poisoned a n = none → exec (.rcRegisterRead m a n same) s = .next { s.wake a n with access := .value (leNat (s.seen a n)) })

/-- R62, R84, R88, R518: the queries of the pins, the clocks, the reset block and the option area answer their images; OPT_WRITE writes the bank that is
not in use but for its CRC, and its answer comes when the write completes.
Choices of the model that it passes through: notes/assumptions 8, 21, 26, 86. -/
def Obligations.PlatformQueriesComplete : Prop :=
  ∀ s : State, ∀ r : Req,
    (∀ d p, Serves s r 0x0103 (some d) → s.hasDie d = true → hasSignal d p = true →
      exec (.pinQuery r d p) s = .next (s.replies r 0x0103 (some d) (fun t =>
        (t.useFree, leBytes 4 (t.pinImage d p) ++ leBytes 2 (t.pinHolder d p).toNat ++ leBytes 2 0)))) ∧
    (∀ d, Serves s r 0x0820 (some d) → s.hasDie d = true → exec (.clkQuery r d) s = .next (s.replies r 0x0820 (some d) (fun t => (t,
      leBytes 4 (t.clkImage d) ++ ((List.range 5).map (fun x => leBytes 2 (t.fld d .CLK_DIV_CURRENT x))).flatten ++ leBytes 1 (t.fld 0 .CLK_CTRL_SSC_DEPTH) ++ leBytes 9 0)))) ∧
    (∀ d, Serves s r 0x0831 (some d) → s.hasDie d = true → exec (.resetQuery r d) s = .next (s.replies r 0x0831 (some d) (fun t => (t,
      leBytes 4 (t.causeImage d) ++ leBytes 4 t.rstImage ++ leBytes 4 (t.rstctlImage d))))) ∧
    (∀ b, Serves s r 0x0832 none → s.bankInUse = some b → exec (.optRead r) s = .next (s.replies r 0x0832 none (fun t => (t,
      leBytes 1 b ++ leBytes 3 0 ++ slice (t.optBank b) 8 4 ++ slice (t.optBank b) 0x10 256)))) ∧
    (∀ b seq (options : List Byte), Serves s r 0x0833 none → s.granted r.dom = true → s.boot.optWrite = none → s.bankInUse = some b → seq = bankSeq (s.optBank b) →
      let bs := bankBytes ((seq + 1) % 2 ^ 32) options
      exec (.optWrite r seq options) s = .next (s.defers r 0x0833 none (fun t =>
        { t.putFlash (if b = 0 then 0x11000 else 0x10000) (slice bs 0 0xFFC ++ List.replicate 4 0xFF#8) with
            boot.optWrite := some ⟨r, if b = 0 then 1 else 0, bs, (seq + 1) % 2 ^ 32⟩ }))) ∧
    (∀ options : List Byte, Serves s r 0x0833 none → s.granted r.dom = true → s.boot.optWrite = none → s.bankInUse = none →
      exec (.optWrite r 0 options) s = .next (s.defers r 0x0833 none (fun t =>
        { t.putFlash 0x10000 (slice (bankBytes 1 options) 0 0xFFC ++ List.replicate 4 0xFF#8) with
            boot.optWrite := some ⟨r, 0, bankBytes 1 options, 1⟩ }))) ∧
    (∀ seq (options : List Byte), Serves s r 0x0833 none → s.granted r.dom = true → s.boot.optWrite.isSome = true →
      exec (.optWrite r seq options) s = .next (s.refuses r 0x0833 none .busy))

/-- R110, R111, R112, R113, R118, R119, R124 to R126: the doorbell rings of a mailbox, the start of a request, and the messages of the session group. A doorbell that makes
requests available joins the order in which requests are served.
Choices of the model that it passes through: notes/assumptions 10, 24, 25, 26, 92. -/
def Obligations.SessionRowsComplete : Prop :=
  ∀ s : State,
    (∀ m dom (data : Word) (units : List Byte) u, u = s.fillRing m dom units → WritesNow u m (homeOf u.part.dies dom) .MBOX (pageOf dom * 0x1000 + 0x4) →
      (data.toNat % 512 + 512 - u.mbFld dom .MB_REQ_HEAD_INDEX) % 512 ≤ 256 →
      u.reqHeld dom ≤ (data.toNat % 512 + 512 - u.mbFld dom .MB_REQ_HEAD_INDEX) % 512 →
      ∃ t, exec (.mbReqTailWrite m dom data units) s = .next t ∧ t.mbFld dom .MB_REQ_TAIL_INDEX = data.toNat % 512 ∧
        (u.reqHeld dom < (data.toNat % 512 + 512 - u.mbFld dom .MB_REQ_HEAD_INDEX) % 512 → (dom, u.time.ticks, data.toNat % 512) ∈ t.mail.bells)) ∧
    (∀ m dom (data : Word), WritesNow s m (homeOf s.part.dies dom) .MBOX (pageOf dom * 0x1000 + 0x10) →
      (data.toNat % 512 + 512 - s.mbFld dom .MB_RSP_HEAD_INDEX) % 512 ≤ s.rspHeld dom →
      ∃ t, exec (.mbRspHeadWrite m dom data) s = .next t ∧ t.mbFld dom .MB_RSP_HEAD_INDEX = data.toNat % 512) ∧
    (∀ m dom (data : Word), WritesNow s m (homeOf s.part.dies dom) .MBOX (pageOf dom * 0x1000 + 0x28) → s.vectorOk dom (bits data.toNat 10 0) = true →
      ∃ t, exec (.mbNotifyWrite m dom data) s = .next t ∧ t.mbFld dom .MB_NOTIFY_VECTOR = bits data.toNat 10 0 ∧ t.mbFld dom .MB_NOTIFY_EN = bits data.toNat 31 31) ∧
    (∀ dom, let h := s.reqBytes dom 1
      let len := leAt h 4 2
      let n := ringUnits len
      let payload := slice (s.reqBytes dom n) 16 len
      s.reqHeld dom ≠ 0 → (s.box dom).current = none → s.canServe dom (leAt h 2 2) (s.nextReq dom).2 = true → len ≤ 4080 → n ≤ s.reqHeld dom →
      (∀ k, k < n → s.poisoned (s.reqUnit dom k) 16 = none) → crc32c (slice h 0 12 ++ payload) = leAt h 12 4 → formRefusal (s.box dom) h payload = none →
      ∃ t, exec (.requestStart dom false false) s = .next t ∧ (t.box dom).current = some (leAt h 2 2, (s.nextReq dom).2) ∧
        t.mbFld dom .MB_REQ_HEAD_INDEX = (s.mbFld dom .MB_REQ_HEAD_INDEX + n) % 512) ∧
    (∀ r minor features, r.dom ≠ fwDom → s.canServe r.dom 0 0 = true → r.session = 0 →
      ∃ u : State, (u.box r.dom).session = some ⟨nextSession (s.box r.dom).issued, 3, min minor 2, Nat.lor (Nat.land features fwFeatures) 1⟩ ∧
        (u.box r.dom).mask = nonMaskableBits ∧
        exec (.hello r 3 minor features) s = .next (u.respondAs r 0 (nextSession (s.box r.dom).issued) 3 (min minor 2) .ok
          (leBytes 16 (Nat.lor (Nat.land features fwFeatures) 1) ++ leBytes 2 (nextSession (s.box r.dom).issued) ++ leBytes 1 3 ++ leBytes 1 (min minor 2) ++
            leBytes 4 s.fwVersion ++ leBytes 2 r.dom.toNat ++ leBytes 1 s.part.dies ++ leBytes 5 0))) ∧
    (∀ r, r.dom ≠ fwDom → Serves s r 1 none →
      ∃ t, exec (.goodbye r) s = .next t ∧ (t.box r.dom).session = none ∧ (t.box r.dom).evq = []) ∧
    (∀ r (payload : List Byte), Serves s r 2 none → payload.length ≤ 64 → exec (.ping r payload) s = .next (s.replies r 2 none (fun t => (t, payload)))) ∧
    (∀ r, Serves s r 3 none → exec (.event r) s = .next (s.refuses r 3 none .badMessage)) ∧
    (∀ r mask en v, Serves s r 4 none → en ≤ 1 → mask < 2 ^ 256 → s.vectorOk r.dom v = true →
      ∃ u : State, (u.box r.dom).mask = Nat.lor mask nonMaskableBits ∧ u.mbFld r.dom .MB_NOTIFY_EN = en ∧ u.mbFld r.dom .MB_NOTIFY_VECTOR = v % 2 ^ 11 ∧
        exec (.eventMask r mask en v) s = .next (u.answered r 4 none (some (.ok, leBytes 32 (Nat.lor mask nonMaskableBits))))) ∧
    (∀ dom (e : EvRec) rest x, (s.box dom).evq = e :: rest → (s.box dom).session = some x → s.rspHeld dom + 3 ≤ 256 →
      s.blackout 2 (homeOf s.part.dies dom) = false → s.fwRuns (homeOf s.part.dies dom) = true →
      ∃ t, exec (.eventRingWrite dom) s = .next t ∧ (t.box dom).evq = rest ∧ (t.box dom).evCount = ((s.box dom).evCount + 1) % 2 ^ 16)

/-- R129, R130, R132, R134, R135: staging, activation and its phases, abandonment, probation and persistence of a firmware image. At the handoff point the record is
written, the banks exchange, and the new image goes on where it does not reject the record; a rejected one stops the activation.
Choices of the model that it passes through: notes/assumptions 7, 26, 32, 97. -/
def Obligations.LiveUpdateRowsComplete : Prop :=
  ∀ s : State,
    (∀ r addr len v, Serves s r 0x0A00 none → s.fwSender r.dom = true → len ≤ 0x1000000 → s.inDram addr len = true → s.fw.activation = none →
      s.verify (fun o n => s.bytes (addr + o) (min n (len - o))) false = v →
      exec (.fwStage r addr len) s = .next (match v with
        | .ok i => s.replies r 0x0A00 none (fun t => ({ t with fw.staged := some (i, t.bytes addr len) }, leBytes 4 i.version))
        | .error _ => s.refuses r 0x0A00 none .denied)) ∧
    (∀ r kinds dies clusters flags i bs u us, Serves s r 0x0A01 none → kinds < 16 → dies < 256 → clusters < 64 → flags < 2 → s.fwSender r.dom = true →
      s.fw.staged = some (i, bs) → s.fw.activation = none → s.fld 0 .CLK_STATUS_LIMP ≠ 1 → s.takeoverOrMigration = false → s.fwSelect kinds dies clusters = u :: us →
      exec (.fwActivate r kinds dies clusters flags) s = .next (s.defers r 0x0A01 none (fun t =>
        { t with fw.activation := some ⟨r, us, 0, u, .copying, bit flags 0, i, false⟩ }))) ∧
    (∀ r, Serves s r 0x0A02 none → s.fwSender r.dom = true →
      exec (.fwStatus r) s = .next (s.replies r 0x0A02 none (fun t => (t, ((List.range 4).map (fun k => leBytes 4 (t.runningVersion ⟨k, 0, 0⟩))).flatten)))) ∧
    (∀ r, Serves s r 0x0A03 none → s.fwSender r.dom = true → s.fw.activation = none →
      exec (.fwAbort r) s = .next (s.replies r 0x0A03 none (fun t => ({ t with fw.staged := none }, [])))) ∧
    (∀ a, s.inPhase .copying = some a →
      ∃ t, exec .shadowCopyEnd s = .next t ∧ (t.core a.last).shadow = bundleImage a.info s.stagedBytes a.last.kind ∧ (t.core a.last).active = (s.core a.last).active ∧
        t.fw.activation = some { a with phase := .copied }) ∧
    (∀ a (h : Handoff), s.inPhase .copied = some a →
      let record := readBack h (s.handoffRecord a.last (s.runningVersion a.last) a.info.version h)
      (rejects h record = false → ∃ t, exec (.handoffPoint h) s = .next t ∧ t.fw.running = insertKV s.fw.running a.last a.info ∧
        t.fw.updateSeq = (s.fw.updateSeq + 1) % 2 ^ 32 ∧ t.fw.activation = some { a with phase := .blackout } ∧
        t.fw.records = insertKV s.fw.records a.last.die record ∧ (t.core a.last).active = (s.core a.last).shadow) ∧
      (rejects h record = true → ∃ u : State, exec (.handoffPoint h) s = .next (u.fwRollback a 1))) ∧
    (∀ a, s.inPhase .blackout = some a →
      exec .adoptionDeclared s = .next ((({ s with fw.early := [] } : State).judgeWaiting.measureBundle a.info [a.last.kind]).toPhase a .probation)) ∧
    (∀ a, s.inPhase .blackout = some a → exec .abandonPoint s = .next (s.fwRollback a 2)) ∧
    (∀ a, s.inPhase .probation = some a → exec .failureInProbation s = .next (s.fwRollback a 3)) ∧
    (∀ a u us, s.inPhase .probation = some a → a.stop = false → a.todo = u :: us →
      ∃ t, exec .probationEnd s = .next t ∧ t.fw.previous = eraseK s.fw.previous a.last ∧ (t.core a.last).shadow = [] ∧
        t.fw.activation = some { a with adopted := a.adopted + 1, todo := us, last := u, phase := .copying }) ∧
    (∀ a i bs, s.inPhase .persisting = some a → s.fw.staged = some (i, bs) →
      exec (.fwPersistWriteEnd true) s = .next ((s.putFlash (slotBase s.freeSlot) (slice bs 0 8 ++
        leBytes 4 ((leNat (s.flashBytes (slotBase (1 - s.freeSlot) + 8) 4) + 1) % 2 ^ 32) ++ bs.drop 12)).fwEnd a 0))

/-- R144, R148, R149, R150, R151, R154: correction, scrubbing, the refresh and power-down of LPDDR5X, and the copies of buffers between the Granary and LPDDR5X.
Choices of the model that it passes through: notes/assumptions 9, 36, 37, 95. -/
def Obligations.MemoryEventsComplete : Prop :=
  ∀ s : State,
    (∀ master addr syn origin l b, memLoc s.part addr = some l → l.mem < 2 →
      exec (.eccCorrectionWriteback master addr syn origin b) s = .next (s.grnCorrected l (addr / 16 * 16) syn master origin)) ∧
    (∀ d unit, s.hasDie d = true → unit < 7 → s.fld d .GRN_SCRUB_EN = 1 → s.blkUp d .GRANARY 0 = true →
      let a := scrubAddr d unit (lookupD s.memy.scrub (d, unit) 0)
      (s.poisoned a 64 = none → exec (.scrubRead d unit .clean) s = .next (s.fresh.2.scrubOn d unit)) ∧
      (s.poisoned a 64 = none → (∀ k, k < 4 → (memLoc s.part (a + 16 * k)).isSome = true) → ∀ syn,
        (∃ k l, k < 4 ∧ memLoc s.part (a + 16 * k) = some l ∧
          exec (.scrubRead d unit (.single syn)) s = .next ((s.fresh.2.grnCorrected l (a + 16 * k) syn 0xFFF 2).scrubOn d unit)) ∧
        (∃ k, k < 4 ∧ exec (.scrubRead d unit (.double syn)) s =
          .next (((s.fresh.2.poison (a + 16 * k) syn).detect scrubber 2 (a + 16 * k)).scrubOn d unit))) ∧
      ∀ g, s.poisonIn a 64 = [g] → exec (.scrubRead d unit .clean) s = .next ((s.fresh.2.detect scrubber 2 g).scrubOn d unit)) ∧
    (∀ master addr bg bank rank n l, memLoc s.part addr = some l → l.mem = 2 →
      exec (.dramReread master addr bg bank rank n true) s =
        .next (((s.addSat l.die (dramCe bg) l.unit 1).ceTotalAdd l.die (8 + l.unit)).dramLog l.die false addr l.unit bg bank rank n master) ∧
      ∃ u : State, exec (.dramReread master addr bg bank rank n false) s =
        .next { (u.ueEvent l addr 0 ⟨master, s.masterDoms master, true⟩).readFails master with access := .memError }) ∧
    (∀ d ch, s.hasDie d = true → ch < 8 → s.fld d .DRAM_CFG_PD_IDLE ≠ 0 → s.fld d .DRAM_STATUS_TRAINED ≠ 0 → (d, ch) ∉ s.memy.powerDown →
      exec (.dramPowerDownEntry d ch) s = .next { s with memy.powerDown := (d, ch) :: s.memy.powerDown }) ∧
    (∀ d ch, s.hasDie d = true → ch < 8 → ∃ t, exec (.dramRefreshDerate d ch true) s = .next t ∧ (d, ch) ∈ t.memy.derated ∧ t.fld d .DRAM_STATUS_DERATE = 1) ∧
    (∀ d k sl i e rest a, s.hasDie d = true → k < 16 → sl < 6 → s.quotaOf d k sl < s.usedBushels d k sl → lookup? s.memy.spills (d, k, sl) = none →
      (s.slicesBufs d k sl (fun e => !e.spilled && !e.pinned && !e.moving)).reverse = (i, e) :: rest →
      (∀ x ∈ s.dieList, s.killWhere x true (fun _ p => decide (mkHandle d k e.gen i ∈ s.handlesOf p.desc)) = s) → s.naming (mkHandle d k e.gen i) = [] →
      s.findSpill d e.length = some a →
      ∃ t, exec (.spillStart d k sl) s = .next t ∧ lookup? t.memy.spills (d, k, sl) = some ⟨i, false, a, none⟩ ∧
        lookup? t.memy.bufs (d, k, i) = some { e with moving := true }) ∧
    (∀ d k sl m, lookup? s.memy.spills (d, k, sl) = some m → m.refill = false → (s.moveEnd d k sl m).quotaOf d k sl < (s.moveEnd d k sl m).usedBushels d k sl →
      exec (.spillCopyEnd d k sl) s = .next (s.moveEnd d k sl m)) ∧
    (∀ d k sl m, lookup? s.memy.spills (d, k, sl) = some m → m.refill = false → (s.moveEnd d k sl m).usedBushels d k sl ≤ (s.moveEnd d k sl m).quotaOf d k sl →
      exec (.spillCopyEnd d k sl) s = .next (((s.moveEnd d k sl m).quotaDone d k sl).refills d sl)) ∧
    (∀ d k sl m e, lookup? (s.startRefill d k sl).memy.spills (d, k, sl) = some m → m.refill = true →
      lookup? (s.startRefill d k sl).memy.bufs (d, k, m.index) = some e →
      ∃ u : State, lookup? u.memy.bufs (d, k, m.index) = some { e with base := m.dest, spilled := false, moving := false } ∧
        exec (.refillCopyEnd d k sl) s = .next (u.refills d sl))

/-- R141, R154 to R156: quotas, the Loft map and scratch quotas by register and by message, buffers, and the error counts. A quota below what the silo uses is
answered when the slice is within it.
Choices of the model that it passes through: notes/assumptions 26, 36, 96. -/
def Obligations.MemoryRequestsComplete : Prop :=
  ∀ s : State,
    (∀ m d k sl (data : Word), k < 16 → sl < 6 → WritesNow s m d .GRANARY (0x1000 + 0x20 * k + 4 * sl) → s.guardOk m = true →
      s.quotaFits d k sl (data.toNat % 2 ^ 11) = true → exec (.grnQuotaWrite m d k sl data) s = .next (s.accepted.putQuota d k sl (data.toNat % 2 ^ 11))) ∧
    (∀ m d (data : Word), WritesNow s m d .LOFT 0x010 → s.guardOk m = true → s.mapFits d (bits data.toNat 3 0) (bits data.toNat 20 16) = true →
      s.mapBusy d = false → exec (.loftMapWrite m d data) s = .next (s.accepted.putMap d (bits data.toNat 3 0) (bits data.toNat 20 16))) ∧
    (∀ m d k (data : Word), k < 16 → WritesNow s m d .LOFT (0x100 + 4 * k) → s.guardOk m = true → (s.scratchOf d k).length ≤ data.toNat % 2 ^ 9 →
      s.scratchFits d k (data.toNat % 2 ^ 9) = true → exec (.loftScratchWrite m d k data) s = .next (s.accepted.setFld d .LOFT_SCRATCH_QUOTA k (data.toNat % 2 ^ 9))) ∧
    (∀ r d k sl quota, Serves s r 0x0240 (some d) → s.hasDie d = true → k < 16 → sl < 6 → s.manager r.dom = true → s.quotaFits d k sl quota = true →
      s.shrinkRefusal d k sl quota = none → (s.putQuota d k sl quota).quotaOf d k sl = quota → (s.putQuota d k sl quota).usedBushels d k sl ≤ quota →
      exec (.memQuota r d k sl quota) s = .next (s.replies r 0x0240 (some d) (fun t => (t.putQuota d k sl quota, (t.putQuota d k sl quota).quotaAnswer d k sl)))) ∧
    (∀ r d k sl quota, Serves s r 0x0240 (some d) → s.hasDie d = true → k < 16 → sl < 6 → s.manager r.dom = true → s.quotaFits d k sl quota = true →
      s.shrinkRefusal d k sl quota = none → quota < (s.putQuota d k sl quota).usedBushels d k sl →
      exec (.memQuota r d k sl quota) s = .next (s.defers r 0x0240 (some d) (fun t =>
        let u := t.putQuota d k sl quota
        { u with memy.quotaReqs := u.memy.quotaReqs ++ [((d, k, sl), r)] }))) ∧
    (∀ r d k quota, Serves s r 0x0240 (some d) → s.hasDie d = true → k < 16 → s.manager r.dom = true → s.scratchFits d k quota = true →
      (s.scratchOf d k).length ≤ quota → exec (.memQuota r d k 0xFF quota) s = .next (s.replies r 0x0240 (some d) (fun t =>
        (t.setFld d .LOFT_SCRATCH_QUOTA k quota, (t.setFld d .LOFT_SCRATCH_QUOTA k quota).quotaAnswer d k 0xFF)))) ∧
    (∀ r d k sl flags length i a, Serves s r 0x0241 (some d) → s.hasDie d = true → k < 16 → sl < 6 → flags < 2 → length ≠ 0 → s.holder 2 d k = r.dom →
      (flags = 1 → s.siloClass d k < 2) → s.allocRun d k sl length = some a → s.freeEntry d k = some i →
      let gen := s.entryGen d k i
      exec (.memAlloc r d k sl flags length) s = .next (s.replies r 0x0241 (some d) (fun t =>
        let u := t.changeBuf d k i ⟨a, true, false, decide (s.siloClass d k = 0) || decide (flags = 1), false, sl, length, gen⟩
        ({ u with memy.carried := eraseK u.memy.carried (d, k, i) }, leBytes 4 (mkHandle d k gen i))))) ∧
    (∀ r (h : Word) e, Serves s r 0x0242 (some (handleDie h.toNat)) → s.hasDie (handleDie h.toNat) = true →
      s.holder 2 (s.bufDie h.toNat) (handleSilo h.toNat) = r.dom → s.bufOf h.toNat = some e → s.naming h.toNat = [] → e.moving = false →
      exec (.memFree r h) s = .next (s.replies r 0x0242 (some (handleDie h.toNat)) (fun t =>
        ((t.changeBuf (handleDie h.toNat) (handleSilo h.toNat) (handleIdx h.toNat) { e with valid := false }).refills (s.bufDie h.toNat) e.slice, [])))) ∧
    (∀ r (h : Word) e, Serves s r 0x0243 (some (handleDie h.toNat)) → s.hasDie (handleDie h.toNat) = true →
      s.holder 2 (s.bufDie h.toNat) (handleSilo h.toNat) = r.dom → s.bufOf h.toNat = some e →
      exec (.memBufQuery r h) s = .next (s.replies r 0x0243 (some (handleDie h.toNat)) (fun t => (t, e.bytes)))) ∧
    (∀ r d kv stook, Serves s r 0x0244 (some d) → s.hasDie d = true → s.mapFits d kv stook = true → s.manager r.dom = true → s.mapBusy d = false →
      exec (.memLoftMap r d kv stook) s = .next (s.replies r 0x0244 (some d) (fun t =>
        (t.putMap d kv stook, leBytes 1 kv ++ leBytes 1 stook ++ leBytes 2 ((t.putMap d kv stook).scratchUnits d))))) ∧
    (∀ r d, Serves s r 0x0740 (some d) → s.hasDie d = true →
      let ce (u : Nat) : List Byte := leBytes 4 (lookupD s.memy.ceTotal (d, u) 0)
      exec (.memEccQuery r d) s = .next (s.replies r 0x0740 (some d) (fun t => (t, (List.range 7).flatMap ce ++ leBytes 4 (lookupD s.memy.ueTotal (d, 0) 0) ++
        (rangeFrom 8 8).flatMap ce ++ leBytes 4 (lookupD s.memy.ueTotal (d, 1) 0)))))

/-- R152, R487 to R489, R491, R493, R494, R496, R502, R506: the power manager's interval, thermal samples, rails, voltages, the power-fail pin and its messages.
Choices of the model that it passes through: notes/assumptions 7, 19, 26, 70, 109. -/
def Obligations.PowerRowsComplete : Prop :=
  ∀ s : State,
    (∀ d, s.hasDie d = true → (s.pw d).rises ≠ [] → s.blackout 1 d = false →
      exec (.voltageConfirmed d true) s = .next ((s.pw d).rises.foldl (fun (t : State) e => t.retarget d e.1 e.2) (s.setPw d { s.pw d with rises := [] }))) ∧
    (∀ d, s.hasDie d = true → (s.pw d).rises ≠ [] → s.blackout 1 d = false →
      ∃ t, exec (.voltageConfirmed d false) s = .next t ∧ t.fld d .PWR_STATUS_PMBUS_ERR = 1) ∧
    (∀ d p100, s.hasDie d = true → s.pmcRuns d = true → ∃ u : State, exec (.pmcIntervalEnd d p100) s = .next u.voltages) ∧
    (s.pmcRuns 0 = true → 10 * s.fld 0 .PWR_PKG_LIMIT_PKG_LIMIT < s.dieList.foldl (fun a d => a + s.fld d .PWR_POWER_P100) 0 →
      ∃ t, exec .packagePowerCheck s = .next t ∧ t.power.pkgLow = 0 ∧ ∀ d, s.hasDie d = true → (t.pw d).floorAdd = min 8 ((s.pw d).floorAdd + 1)) ∧
    (s.pmcRuns 0 = true → 100 * s.dieList.foldl (fun a d => a + s.fld d .PWR_POWER_P100) 0 ≤ 950 * s.fld 0 .PWR_PKG_LIMIT_PKG_LIMIT → s.power.pkgLow + 1 < 10 →
      exec .packagePowerCheck s = .next { s with power.pkgLow := s.power.pkgLow + 1 }) ∧
    (∀ readPout, s.pmcRuns 0 = true → s.dieList.foldl (fun a d => a + (s.pw d).raw) 0 ≠ 0 → exec (.powerEstimateScale readPout) s =
      .next { s with power.scaleNum := readPout, power.scaleDen := s.dieList.foldl (fun a d => a + (s.pw d).raw) 0 }) ∧
    (∀ d (readings : List Int), s.hasDie d = true → s.boot.powered = true → readings.length = 12 → (∀ x ∈ readings, -220 ≤ x ∧ x < 520) →
      ∃ t, exec (.thermalSample d readings) s = .next t ∧ (t.pw d).hot = []) ∧
    (∀ d, s.hasDie d = true → s.pmcRuns d = true → (∀ i, i < 8 → s.fld d .PWR_RAIL_EN i = 0) → ∀ readings, exec (.railMonitor d readings) s = .next s) ∧
    (∀ d rest, s.hasDie d = true → s.pmcRuns d = true → s.fld d .PWR_RAIL_EN 0 ≠ 0 → (∀ i, i < 8 → i ≠ 0 → (s.pmbusFault d).fld d .PWR_RAIL_EN i = 0) →
      exec (.railMonitor d (.noAnswer :: rest)) s = .next (s.pmbusFault d)) ∧
    (∀ d, s.hasDie d = true → s.pmcRuns d = true → exec (.pmbusAlert d true) s = .next (s.pmbusFault d)) ∧
    (∀ d, s.hasDie d = true → s.pmcRuns d = true → ∃ t, exec (.eccCountCollect d) s = .next t ∧
      lookupD t.tithe.maxTemp d 0 = max (lookupD (s.collectEcc d).tithe.maxTemp d 0) (s.dieTemp d)) ∧
    (s.boot.powered = true → (∀ d ∈ s.dieList, s.fld d .PWR_STATUS_TRIP = 0) → s.fld 0 .PWR_STATUS_PFAIL = 0 →
      ∃ t, exec .powerFailAssert s = .next t ∧ ∀ d, s.hasDie d = true → t.fld d .DRAM_STATUS_SELF_REFRESH = 1) ∧
    (s.fld 0 .PWR_STATUS_PFAIL = 1 → ∃ u : State, exec .powerFailRestore s = .next (u.powerEvent .powerFail 0 0) ∧
      ∀ d, s.hasDie d = true → (u.pw d).floorAdd = 0) ∧
    (∀ r d, Serves s r 0x0800 (some d) → s.hasDie d = true → exec (.pwrQuery r d) s = .next (s.replies r 0x0800 (some d) (fun t => (t,
      leBytes 4 (s.pwrStatus d) ++ leBytes 4 (s.fld d .PWR_LIMIT_DIE_LIMIT) ++ leBytes 4 (s.fld 0 .PWR_PKG_LIMIT_PKG_LIMIT) ++ leBytes 4 (s.fld d .PWR_FLOOR_FLOOR) ++
        leBytes 4 (s.fld d .PWR_POWER_P1MS * 2 ^ 16 + s.fld d .PWR_POWER_P100) ++
        leBytes 4 (s.fld d .THERM_STATUS_VALID * 2 ^ 16 + s.fld d .THERM_STATUS_SENSOR * 2 ^ 12 + s.fld d .THERM_STATUS_TEMP) ++ leBytes 8 0)))) ∧
    (∀ r (c : PowerSet), Serves s r 0x0801 (some c.die) → s.hasDie c.die = true → s.manager r.dom = true → c.floor ≤ 8 → s.dieLimitOk c.die c.dieLimit = true →
      (s.setFld c.die .PWR_LIMIT_DIE_LIMIT 0 c.dieLimit).pkgLimitOk c.pkgLimit = true → s.throttleOk c.die c.throttleC = true →
      exec (.pwrSet r c) s = .next (s.replies r 0x0801 (some c.die) (fun t => ((((t.setFld c.die .PWR_LIMIT_DIE_LIMIT 0 c.dieLimit).setFld
        c.die .PWR_FLOOR_FLOOR 0 c.floor).setFld 0 .PWR_PKG_LIMIT_PKG_LIMIT 0 c.pkgLimit).setFld c.die .THERM_CFG_THROTTLE_C 0 c.throttleC, [])))) ∧
    (∀ r d entry (image : Word), Serves s r 0x0802 (some d) → s.hasDie d = true → entry < 8 → bits image.toNat 18 16 < 5 → s.manager r.dom = true → s.stepOf d < 8 →
      exec (.railSet r d entry image) s = .next (s.replies r 0x0802 (some d) (fun t => (t.putRail d entry image.toNat, []))))

/-- R170, R232, R260, R262, R264: a tensor command that stands in its slot and whose checks pass runs to its end with the job its rules give; so does a fused command. Where its way is stopped or an operand is poisoned the run ends as R92 and R149 say, which is part of the run.
Choices of the model that it passes through: notes/assumptions 34, 35, 42. -/
def Obligations.TensorRowsComplete : Prop :=
  ∀ s : State,
    (∀ d c p, Standing s d c .te 0 0x1 p → (s.matmulJob d c p).status % 16 = 0 → exec (.matmul d c) s = .next (s.ranTo d c .te p (s.matmulJob d c p))) ∧
    (∀ d c p, Standing s d c .te 0 0x2 p → (s.convJob d c p).status % 16 = 0 → exec (.conv d c) s = .next (s.ranTo d c .te p (s.convJob d c p))) ∧
    (∀ d c p, Standing s d c .te 0 0x10 p → (s.attendJob d p).status % 16 = 0 → exec (.attend d c) s = .next (s.ranTo d c .te p (s.attendJob d p))) ∧
    (∀ d c p, Standing s d c .te 0 0x11 p → (s.appendJob d p).status % 16 = 0 → exec (.kvAppend d c) s = .next (s.ranTo d c .te p (s.appendJob d p))) ∧
    (∀ d c p, Standing s d c .te 0 0x12 p → (s.forkJob d p).status % 16 = 0 → exec (.kvFork d c) s = .next (s.ranTo d c .te p (s.forkJob d p))) ∧
    (∀ d c p, Standing s d c .te 0 0x13 p → (s.releaseJob d p).status % 16 = 0 → exec (.kvRelease d c) s = .next (s.ranTo d c .te p (s.releaseJob d p)))

/-- R186, R191 to R193, R195, R198 to R200: a vector command, a window command among them, that stands in its slot and whose checks pass runs to its end.
Choices of the model that it passes through: notes/assumptions 14, 38, 39, 40, 42. -/
def Obligations.VectorRowsComplete : Prop :=
  ∀ s : State,
    (∀ d c p, Standing s d c .ve 1 0x1 p → (s.veJob d p).status % 16 = 0 → exec (.unary d c) s = .next (s.ranTo d c .ve p (s.veJob d p))) ∧
    (∀ d c p, Standing s d c .ve 1 0x2 p → (s.veJob d p).status % 16 = 0 → exec (.binary d c) s = .next (s.ranTo d c .ve p (s.veJob d p))) ∧
    (∀ d c p, Standing s d c .ve 1 0x3 p → (s.veJob d p).status % 16 = 0 → exec (.reduce d c) s = .next (s.ranTo d c .ve p (s.veJob d p))) ∧
    (∀ d c p, Standing s d c .ve 1 0x4 p → (s.veJob d p).status % 16 = 0 → exec (.softmax d c) s = .next (s.ranTo d c .ve p (s.veJob d p))) ∧
    (∀ d c p, Standing s d c .ve 1 0x5 p → (s.veJob d p).status % 16 = 0 → exec (.norm d c) s = .next (s.ranTo d c .ve p (s.veJob d p))) ∧
    (∀ d c p, Standing s d c .ve 1 0x6 p → (s.veJob d p).status % 16 = 0 → exec (.convert d c) s = .next (s.ranTo d c .ve p (s.veJob d p))) ∧
    (∀ d c p, Standing s d c .ve 1 0x10 p → (s.dwconvJob d p).status % 16 = 0 → exec (.dwconv d c) s = .next (s.ranTo d c .ve p (s.dwconvJob d p))) ∧
    (∀ d c p, Standing s d c .ve 1 0x11 p → (s.poolJob d p).status % 16 = 0 → exec (.pool d c) s = .next (s.ranTo d c .ve p (s.poolJob d p))) ∧
    (∀ d c p, Standing s d c .ve 1 0x12 p → (s.resampleJob d p).status % 16 = 0 → exec (.resample d c) s = .next (s.ranTo d c .ve p (s.resampleJob d p)))

/-- R214 to R217, R219 to R223, R283: a traversal, copy or synchronisation command that stands in its slot and whose checks pass runs to its end.
Choices of the model that it passes through: notes/assumptions 20, 41, 42. -/
def Obligations.TraversalRowsComplete : Prop :=
  ∀ s : State,
    (∀ d c p, Standing s d c .xe 2 0x1 p → (s.xeJob d c (s.gatherRun d p) p).status % 16 = 0 → exec (.gather d c) s = .next (s.ranTo d c .xe p (s.xeJob d c (s.gatherRun d p) p))) ∧
    (∀ d c p, Standing s d c .xe 2 0x2 p → (s.xeJob d c (s.neighboursRun d p) p).status % 16 = 0 → exec (.neighbours d c) s = .next (s.ranTo d c .xe p (s.xeJob d c (s.neighboursRun d p) p))) ∧
    (∀ d c p, Standing s d c .xe 2 0x3 p → (s.xeJob d c (s.setOpRun d p) p).status % 16 = 0 → exec (.setOp d c) s = .next (s.ranTo d c .xe p (s.xeJob d c (s.setOpRun d p) p))) ∧
    (∀ d c p, Standing s d c .xe 2 0x4 p → (s.xeJob d c (s.hashBuildRun d p) p).status % 16 = 0 → exec (.hashBuild d c) s = .next (s.ranTo d c .xe p (s.xeJob d c (s.hashBuildRun d p) p))) ∧
    (∀ d c p, Standing s d c .xe 2 0x5 p → (s.xeJob d c (s.hashProbeRun d p) p).status % 16 = 0 → exec (.hashProbe d c) s = .next (s.ranTo d c .xe p (s.xeJob d c (s.hashProbeRun d p) p))) ∧
    (∀ d c p, Standing s d c .xe 2 0x6 p → (s.xeJob d c (s.radixRun d p) p).status % 16 = 0 → exec (.radixSort d c) s = .next (s.ranTo d c .xe p (s.xeJob d c (s.radixRun d p) p))) ∧
    (∀ d c p, Standing s d c .xe 2 0x7 p → (s.xeJob d c (s.segReduceRun d p) p).status % 16 = 0 → exec (.segReduce d c) s = .next (s.ranTo d c .xe p (s.xeJob d c (s.segReduceRun d p) p))) ∧
    (∀ d c p, Standing s d c .xe 2 0x8 p → (s.xeJob d c (s.scatterRun d p) p).status % 16 = 0 → exec (.scatter d c) s = .next (s.ranTo d c .xe p (s.xeJob d c (s.scatterRun d p) p))) ∧
    (∀ d c p, Standing s d c .xe 2 0x9 p → (s.xeJob d c (s.frontierRun d p) p).status % 16 = 0 → exec (.frontier d c) s = .next (s.ranTo d c .xe p (s.xeJob d c (s.frontierRun d p) p))) ∧
    (∀ d c p, Standing s d c .seq 3 0x1 p → (s.copyJob d c p).status % 16 = 0 → exec (.copy d c) s = .next (s.ranTo d c .seq p (s.copyJob d c p))) ∧
    (∀ d c p, Standing s d c .seq 5 0x1 p → (nopJob p).status % 16 = 0 → exec (.nop d c) s = .next (s.ranTo d c .seq p (nopJob p))) ∧
    (∀ d c p, Standing s d c .seq 5 0x2 p → (s.signalJob d p).status % 16 = 0 → exec (.signal d c) s = .next (s.ranTo d c .seq p (s.signalJob d p)))

/-- R178, R202, R225, R243, R250, R253, R270: the queries of the engines and the messages of the key and value pools: records and page table entries are written in the KV
region of the buffer's die.
Choices of the model that it passes through: notes/assumptions 26, 45, 101. -/
def Obligations.EngineMessagesComplete : Prop :=
  ∀ s : State,
    (∀ r d cl k, s.hasDie d = true → cl < 6 → k < 8 → s.seesCore r.dom d (8 * cl + k) = true →
      let c := 8 * cl + k
      (Serves s r 0x0250 (some d) → exec (.teQuery r d cl k) s = .next (s.replies r 0x0250 (some d) (fun t => (t,
        leBytes 8 (s.fld d .TE_ACTIVE_CYCLES c) ++ leBytes 8 (s.fld d .TE_STALL_CYCLES c) ++ leBytes 4 (s.teImage d c) ++ leBytes 4 0)))) ∧
      (Serves s r 0x0251 (some d) → exec (.veQuery r d cl k) s = .next (s.replies r 0x0251 (some d) (fun t => (t,
        leBytes 8 (s.fld d .VE_ACTIVE_CYCLES c) ++ leBytes 8 (s.fld d .VE_STALL_CYCLES c) ++ leBytes 4 (s.veImage d c) ++ leBytes 4 0)))) ∧
      (Serves s r 0x0252 (some d) → exec (.xeQuery r d cl k) s = .next (s.replies r 0x0252 (some d) (fun t => (t,
        leBytes 8 (s.fld d .XE_ACTIVE_CYCLES c) ++ leBytes 8 (s.fld d .XE_STALL_CYCLES c) ++ leBytes 4 (s.xeImage d c) ++ leBytes 4 0)))) ∧
      (Serves s r 0x0253 (some d) → exec (.winQuery r d cl k) s = .next (s.replies r 0x0253 (some d) (fun t => (t, leBytes 4 (s.winImage d c) ++ leBytes 4 0))))) ∧
    (∀ r (h : Word) pages e i, Serves s r 0x0260 (some (handleDie h.toNat)) → s.bufOf h.toNat = some e →
      s.kvSender r.dom (s.bufDie h.toNat) (handleSilo h.toNat) = true → 1 ≤ pages → pages ≤ 65535 → 34816 * pages ≤ e.length →
      s.kvFind (s.bufDie h.toNat) 1 (pages + 1) = some i →
      exec (.kvPoolCreate r h pages) s = .next (s.replies r 0x0260 (some (handleDie h.toNat)) (fun t =>
        (((t.kvTake (s.bufDie h.toNat) (handleSilo h.toNat) i (pages + 1)).write (kvBase (s.bufDie h.toNat) + 16 * i)
          (leBytes 4 h.toNat ++ leBytes 2 pages ++ leBytes 2 pages ++ leBytes 4 (i + 1) ++ leBytes 4 (i + 1) ++
            (List.range pages).flatMap (fun n => leBytes 4 i ++ leBytes 2 n ++ leBytes 6 0 ++ leBytes 4 (if n + 1 = pages then kvNull else i + 2 + n)))).kvMirror
          ((s.bufDie h.toNat, i), (handleSilo h.toNat, pages + 1)), leBytes 4 i)))) ∧
    (∀ r (pool : Word) e, Serves s r 0x0261 none → s.kvEntry r.dom pool.toNat = some e → s.kvSender r.dom e.1.1 e.2.1 = true →
      (s.kvPool e.1.1 [] pool.toNat).base = pool.toNat + 1 → e.2.2 = (s.kvPool e.1.1 [] pool.toNat).pages + 1 →
      (s.kvPool e.1.1 [] pool.toNat).free = (s.kvPool e.1.1 [] pool.toNat).pages →
      exec (.kvPoolDestroy r pool) s = .next (s.replies r 0x0261 none (fun t => (t.kvDrop e, [])))) ∧
    (∀ r (c : KvSeqCfg) e i, Serves s r 0x0262 none → s.kvEntry r.dom c.pool.toNat = some e → s.kvSender r.dom e.1.1 e.2.1 = true →
      s.poolValid e.1.1 (s.kvPool e.1.1 [] c.pool.toNat) e.2.1 = true →
      (⟨0, c.pool.toNat, c.kvHeads, c.headDim, c.flags, 0, c.maxRows, c.budget, c.recent, c.reserve, c.decay, 0, 0, 0⟩ : KvSeq).rangesOk = true →
      s.kvFind e.1.1 4 (4 + c.maxRows) = some i →
      exec (.kvSeqCreate r c) s = .next (s.replies r 0x0262 none (fun t =>
        let q : KvSeq := ⟨0, c.pool.toNat, c.kvHeads, c.headDim, Nat.lor c.flags 1, 0, c.maxRows, c.budget, c.recent, c.reserve, c.decay, 0, 0, i + 4⟩
        (((t.kvTake e.1.1 e.2.1 i (4 + c.maxRows)).write (kvBase e.1.1 + 16 * i) (q.bytes ++ leBytes 32 0 ++ List.replicate (16 * c.maxRows) 0xFF#8)).kvMirror
          ((e.1.1, i), (e.2.1, 4 + c.maxRows)), leBytes 4 i)))) ∧
    (∀ r (seq : Word) e, s.kvEntry r.dom seq.toNat = some e → s.kvSender r.dom e.1.1 e.2.1 = true → s.seqValid e.1.1 seq.toNat e.2.1 = true →
      let q := s.kvSeq e.1.1 [] seq.toNat
      (Serves s r 0x0264 none → exec (.kvSeqQuery r seq) s = .next (s.replies r 0x0264 none (fun t => (t, s.kvBytes e.1.1 q.slot 64)))) ∧
      (s.seqBusy e.1.1 q.slot = false →
        (Serves s r 0x0263 none → exec (.kvSeqDestroy r seq) s = .next (s.replies r 0x0263 none (fun t =>
          ((t.kvCommit e.1.1 (t.kvApply e.1.1 (t.releaseOps e.1.1 q ++ { q with flags := 0, rows := 0, live := 0, nextPos := 0 }.puts))).kvDrop e, [])))) ∧
        (∀ b rc rv dc ev, Serves s r 0x0265 none →
          let p := { q with budget := b, recent := rc, reserve := rv, decay := dc, flags := putBits q.flags 1 1 (b2n ev) }
          p.rangesOk = true → exec (.kvSeqSet r seq b rc rv dc ev) s = .next (s.replies r 0x0265 none (fun t =>
            ((t.kvCommit e.1.1 (t.kvApply e.1.1 p.puts)).kvMirror e, []))))))

/-- R319, R325, R326, R330, R332, R343: raster commands in their contexts, shading batches, the place of the Stook and its query.
Choices of the model that it passes through: notes/assumptions 18, 26, 53, 103. -/
def Obligations.RasterRowsComplete : Prop :=
  ∀ s : State,
    (∀ d ctx p, s.hasDie d = true → ctx < 2 → s.placed d (.raster ctx) = some p → p.ran = false → s.tripped d = false →
      (descOp p.desc = 1 → s.renderCode d p (s.passOf d p) = 0 → ∃ u : State, exec (.render d ctx) s =
        .next (u.rasterRan d ctx p (s.renderRun d ctx p) (s.renderBeside d p s.fresh.1 (s.renderFlushes d ctx p)))) ∧
      (descOp p.desc = 2 → (s.fastClearJob d p).status = 0 → exec (.fastClear d ctx) s = .next (s.rasterRan d ctx p (s.fastClearJob d p) [])) ∧
      (descOp p.desc = 3 → (s.expandJob d p).status = 0 → exec (.expand d ctx) s = .next (s.rasterRan d ctx p (s.expandJob d p) []))) ∧
    (∀ d core ctx p, s.hasDie d = true → core < 48 → ctx < 2 → s.placed d (.raster ctx) = some p → p.ran = false → s.tripped d = false → descOp p.desc = 1 →
      (s.passOf d p).draws ≠ [] → (∀ e ∈ s.slotsOf d, ∀ x, e.1 = .core core x → x ≠ .ve ∧ descFused e.2.desc = false) → s.coreServes d p.silo p.cls core = true →
      s.throttled d p.silo p.cls core = false → s.fld d .GLN_CORE_TESTING core ≠ 1 → s.renderCode d p (s.passOf d p) = 0 →
      ∃ u : State, ∃ n ∈ (s.passOf d p).draws.flatMap (fun x => [leAt x.vs 4 2, leAt x.fs 4 2]), exec (.shadingBatch d core ctx) s =
        .next (u.addSat d .VE_ACTIVE_CYCLES core n) ∧ (u.silo d p.silo).used = (s.silo d p.silo).used +
          ceilDiv (n * 1000 * max 1 (s.fld d .CLK_DIV_CURRENT 3)) (max 1 (srcMHz (s.fld d .CLK_DIV_SRC 3)))) ∧
    (∀ r d mib a, Serves s r 0x0600 (some d) → s.hasDie d = true → s.manager r.dom = true → s.passInProgress d = false →
      (s.stookPlace 0 mib a = true → exec (.rasStookSet r d 0 mib a) s = .next (s.replies r 0x0600 (some d) (fun t => (t.setFld d .RAS_STOOK_LOC 0 0, [])))) ∧
      (s.stookPlace 1 mib a = true → exec (.rasStookSet r d 1 mib a) s = .next (s.replies r 0x0600 (some d) (fun t =>
        (t.setFlds d 0 [(.RAS_STOOK_LOC, 1), (.RAS_STOOK_SIZE_MIB, mib), (.RAS_STOOK_ADDR_ADDR, a)], []))))) ∧
    (∀ r d, Serves s r 0x0601 (some d) → s.hasDie d = true → exec (.rasQuery r d) s = .next (s.replies r 0x0601 (some d) (fun t =>
      (t.setFld d .RAS_STOOK_PEAK_COUNT 0 0, leBytes 4 (s.rasStatusImage d) ++ leBytes 4 (s.rasStookMib d * 2 ^ 16 + s.fld d .RAS_STOOK_LOC 0) ++
        leBytes 4 (s.fld d .RAS_FLUSH_COUNT_COUNT 0) ++ leBytes 4 (s.fld d .RAS_STOOK_PEAK_COUNT 0)))))

/-- R274 to R276, R278, R279, R297 to R299: doorbells, fetching and readiness of sheaves, and the queue messages and operations. A queue has its page once it was loaded
from its context.
Choices of the model that it passes through: notes/assumptions 26, 46, 47. -/
def Obligations.QueueRowsComplete : Prop :=
  ∀ s : State,
    (∀ m id (data : Word) written u q, s.clientWrites m written = u → WritesNow u m (id / 65536) .QDB (id % 65536 * 0x100) → u.queue id = some q →
      q.state ≠ 0 → q.loaded = true → u.inReset q.fn = false → laterCount q.sqTail data.toNat = false → countDist data.toNat q.sqHead ≤ 2 ^ q.sqLog2 →
      ∃ recs, exec (.qdbSqTailWrite m id data written) s = .next ((u.accepted.setQueue id
        { q with sqTail := data.toNat, bells := q.bells ++ [(data.toNat, u.now)] }).mirrorChange q.fn recs)) ∧
    (∀ m id (data : Word) q, WritesNow s m (id / 65536) .QDB (id % 65536 * 0x100 + 4) → s.queue id = some q → q.state ≠ 0 → q.loaded = true →
      s.inReset q.fn = false → laterCount q.cqHead data.toNat = false → laterCount data.toNat q.cqTail = false →
      exec (.qdbCqHeadWrite m id data) s = .next (State.flushRecords id q.heldRecords.length (s.accepted.setQueue id { q with cqHead := data.toNat }))) ∧
    (∀ id q, s.queue id = some q → q.state = 1 → s.inReset q.fn = false → s.blackout 2 (id / 65536) = false → s.fwRuns (id / 65536) = true →
      (q.flight.filter (fun h => !h.done)).length < 16 → q.next ≠ q.sqTail → s.poisoned (q.slotAddr q.next) 64 = none →
      let b := s.bytes (q.slotAddr q.next) 64
      let n := leAt b 16 2
      let h := sheafOf b q.next (submitTime q.bells (q.next + n + 1) s.now)
      s.headerCheck id q b = 0 → h.count = n → n < countDist q.sqTail q.next →
      ∃ q' : Queue, q'.next = (q.next + n + 1) % 2 ^ 32 ∧ q'.flight = q.flight ++ [h] ∧
        exec (.sheafFetch id) s = .next (if h.waitKind = 0 then (s.setQueue id q').markReady id h else s.setQueue id q')) ∧
    (∀ id hdr q h, s.queue id = some q → s.sheaf id hdr = some h → h.ready = none → h.done = false → h.ending = none → s.waitMet (id / 65536) h = true →
      exec (.sheafReady id hdr) s = .next (s.markReady id h)) ∧
    (∀ r (c : QueueCfg) j id, Serves s r 0x0200 (some c.die) → s.hasDie c.die = true → 6 ≤ c.sqLog2 → c.sqLog2 ≤ 20 → 6 ≤ c.cqLog2 → c.cqLog2 ≤ 20 → c.flags < 2 →
      c.sqBase % 64 = 0 → c.cqBase % 64 = 0 → c.acctBase % 64 = 0 → s.inMemory c.sqBase (64 * 2 ^ c.sqLog2) = true → s.inMemory c.cqBase (32 * 2 ^ c.cqLog2) = true →
      s.inMemory c.acctBase 128 = true → c.minClass ≤ 4 → s.subsetRefusal r false (decide (c.minClass = 0)) = none → isFunction r.dom = true →
      c.vector < s.fld 0 .FN_CFG_VECTORS r.dom.toNat → s.freeMapSlot r.dom = some j → s.freeQueue c.die = some id →
      exec (.qCreate r c) s = .next (s.replies r 0x0200 (some c.die) (fun t =>
        ((t.setQueue id ⟨c.sqBase, c.sqLog2, c.cqLog2, c.cqBase, r.dom, 0, 0, 0, 0, s.genOf r.dom, 0, bit c.flags 0, c.vector, c.minClass, c.acctBase,
          false, some j, 0, [], [], [], [], true⟩).write c.acctBase (leBytes 128 0), leBytes 4 id)))) ∧
    (∀ r (id : Word) q, s.queue id.toNat = some q → (r.dom = q.fn ∨ r.dom = 0 ∨ r.dom = fwDom) →
      let die := some (id.toNat / 65536)
      (Serves s r 0x0201 die → q.state = 0 → exec (.qDestroy r id) s = .next (s.replies r 0x0201 die (fun t =>
        ({ t with q.queues := eraseK t.q.queues id.toNat }, [])))) ∧
      (Serves s r 0x0202 die → q.state ≠ 3 → exec (.qEnable r id) s = .next (s.replies r 0x0202 die (fun t => (t.queueEnable id.toNat q, [])))) ∧
      (Serves s r 0x0203 die → q.state = 0 → exec (.qDisable r id) s = .next (s.replies r 0x0203 die (fun t => (t, [])))) ∧
      (Serves s r 0x0203 die → q.state ≠ 0 → q.state ≠ 3 → exec (.qDisable r id) s = .next (s.defers r 0x0203 die (fun t =>
        (t.setQueue id.toNat { q with cancelReq := q.cancelReq ++ [r] }).queueDisable id.toNat true))) ∧
      (Serves s r 0x0204 die → exec (.qQuery r id) s = .next (s.replies r 0x0204 die (fun t => (t, q.context)))) ∧
      (Serves s r 0x0205 die → ∀ z, exec (.qAcct r id z) s = .next (s.replies r 0x0205 die (fun t =>
        (if z = true then t.write q.acctBase (leBytes 128 0) else t, t.bytes q.acctBase 128))))) ∧
    (∀ m d queue q, queue < 65536 → WritesNow s m d .SCH 0x20 → s.guardOk m = true → s.queue (d * 65536 + queue) = some q → q.state ≠ 3 →
      let id := d * 65536 + queue
      exec (.schQctlEnable m d queue) s = .next (s.accepted.queueEnable id q) ∧
      (q.state ≠ 0 → exec (.schQctlDisable m d queue) s = .next ((s.accepted.setQueue id { q with dbErr := false }).queueDisable id true) ∧
        exec (.schQctlDrain m d queue) s = .next ((s.accepted.setQueue id { q with dbErr := false }).queueDisable id false)) ∧
      (q.state = 0 → exec (.schQctlDisable m d queue) s = .next (s.accepted.setQueue id { q with dbErr := false }) ∧
        exec (.schQctlDrain m d queue) s = .next (s.accepted.setQueue id { q with dbErr := false })))

/-- R284, R291, R421, R423: placing, comparing the two copies of a checked command once both have run to their ends, the mismatch sequence, and commit.
Choices of the model that it passes through: notes/assumptions 48, 49, 50. -/
def Obligations.PlaceAndCommitComplete : Prop :=
  ∀ s : State,
    (∀ d, s.hasDie d = true → s.fwRuns d = true → exec (.commandPlace d) s = .next (State.placePass d (s.passBound d) (s.noteWork d))) ∧
    (∀ d r p o c, s.hasDie d = true → s.tripped d = false → s.placed d r = some p → p.other = some o → s.placed d o = some c → p.copy = false → p.ran = true →
      c.ran = true → p.published = false → s.q.mismatches.find? (fun m => decide (m.die = d) && decide (m.main = r)) = none →
      ∀ (diff : BitVec 128) cycles, cycles ≤ 5120 →
      (s.signature d p ^^^ s.signature d c ^^^ diff = 0 → exec (.commitCompare d r diff cycles) s = .next (((s.runOut d r).runOut d o).publish d r p)) ∧
      (s.signature d p ^^^ s.signature d c ^^^ diff ≠ 0 → ∃ t, exec (.commitCompare d r diff cycles) s = .next t ∧ t.fld d .COMMIT_STATUS_SEQ_ACTIVE = 1 ∧
        t.q.mismatches = ((s.runOut d r).runOut d o).q.mismatches ++ [⟨d, r, o, p.queue, p.silo, p.fn, false, false⟩])) ∧
    (∀ d r m p c, s.hasDie d = true → s.tripped d = false → s.q.mismatches.find? (fun m => decide (m.die = d) && decide (m.main = r)) = some m →
      m.second = false → m.copying = false → s.placed d m.main = some p → s.placed d m.checker = some c → p.ran = true → p.other = some m.checker →
      (∃ t, exec (.mismatchSelftestEnd d r true true) s = .next t ∧
        t.q.mismatches = s.q.mismatches.map (fun x => if x = m then { m with second := true } else x)) ∧
      exec (.mismatchSelftestEnd d r true false) s = .next ((((s.publish d m.main p).endSequence m 2).removeCore d (coreOf m.checker)).countPersistent d) ∧
      (p.enables = c.enables → exec (.mismatchSelftestEnd d r false true) s =
        .next { s with q.mismatches := s.q.mismatches.map (fun x => if x = m then { m with copying := true } else x) }) ∧
      exec (.mismatchSelftestEnd d r false false) s = .next (s.outputsInvalid m p 3)) ∧
    (∀ d r m p c o sh, s.hasDie d = true → s.q.mismatches.find? (fun m => decide (m.die = d) && decide (m.main = r) && m.copying) = some m →
      s.placed d m.main = some p → s.placed d m.checker = some c → s.bufOf (descOut p.desc) = some o → s.shadowOf (descOut p.desc) = some sh →
      exec (.shadowToOutputCopyEnd d r) s = .next
        (((((s.stores (coreAgent d (coreOf m.main) p) (c.writes.map (fun w => (o.base + w.1, s.bytes (sh.base + w.1) w.2.length)))).publish d m.main
          { p with status := c.status, atCommit := c.atCommit, table := c.table, kv := c.kv, extra := c.extra, writes := c.writes }).endSequence m 1).removeCore
          d (coreOf m.main)).countPersistent d)) ∧
    (∀ d r p, s.hasDie d = true → s.tripped d = false → s.placed d r = some p → p.copy = false → p.ran = true → (p.other = none ∨ p.published = true) →
      p.status % 16 = 0 → (s.mirrorSends p.fn = false ∨ p.cls = 0 ∨ s.mirrorRoom (s.commitRecords p) = true) →
      ∃ u : State, exec (.commandCommit d r) s = .next ((u.commitBooks p (s.signature d p)).freezeCheck p.fn))

/-- R290, R295, R297: the quantum boundary, the cores guarantee and the silo messages. A configuration waits for the boundary of every die of the silo's span.
Choices of the model that it passes through: notes/assumptions 26, 47, 48, 49. -/
def Obligations.SiloRowsComplete : Prop :=
  ∀ s : State,
    (∀ d k, s.hasDie d = true → k < 16 → s.fwRuns d = true → ∃ t, exec (.quantumBoundary d k) s = .next t ∧ (t.silo d k).used = 0 ∧
      (t.silo d k).worked = false ∧ (t.silo d k).gap = false) ∧
    (∀ d k, s.hasDie d = true → k < 16 → ∀ n, s.fld d .SILO_CFG_EN k = 1 → (s.coresHeld d k none).length = n → n < s.fld d .SILO_CFG_G_MIN k →
      (∀ e ∈ s.slotsOf d, descKillable e.2.desc = true) → (∃ c ∈ s.candidates d, c.sheaf.silo = k) →
      exec (.coresGuaranteeCheck d k) s = .next (s.guaranteeBroken d k 0 (s.fld d .SILO_CFG_G_MIN k - n) (s.takerClass d k) 0xFFFFFFFF)) ∧
    (∀ k mask l, k < 16 → (List.range 8).find? (bit mask) = some l → s.hasDie l = true →
      exec (.siloSpanAck k mask) s = .next (s.setSilo l k { s.silo l k with spanFrom := some (s.now + 20000) })) ∧
    (∀ r d k (c : SiloCfg), Serves s r 0x0210 (some d) → s.hasDie d = true → k < 16 → siloInRange c = true → s.siloSender r d k = none →
      s.subsetRefusal r false (decide (c.cls = 0) || decide (s.siloClass d k = 0)) = none → c.cls = s.fld d .SILO_CFG_CLASS k →
      (∀ e ∈ s.spanDies d k, s.reserveClash e k c = false ∧ s.guaranteesFit e k c = true) →
      exec (.siloSet r d k c) s = .next (s.defers r 0x0210 (some d) (fun t => t.pend d k c (some r)))) ∧
    (∀ r d k, Serves s r 0x0211 (some d) → s.hasDie d = true → k < 16 → (s.holder 2 d k = r.dom ∨ r.dom = 0 ∨ r.dom = fwDom) →
      let n := (s.candidates d).foldl (fun a c => if c.sheaf.silo = k then a + 1 else a) 0
      exec (.siloQuery r d k) s = .next (s.replies r 0x0211 (some d) (fun t => (t, (siloItem d k (s.siloCfg d k)).take 20 ++ leBytes 1 (s.coresHeld d k none).length ++
        leBytes 2 n ++ leBytes 2 (s.holder 2 d k).toNat ++ leBytes 1 (s.fld d .SILO_STAT_SPAN k) ++ leBytes 2 0)))) ∧
    (∀ r k mask l ls, Serves s r 0x0212 none → s.dieList.filter (bit mask) = l :: ls → k < 16 → mask < 2 ^ s.part.dies →
      s.subsetRefusal r (decide (2 ≤ mask)) false = none → s.siloSender r l k = none → s.subsetRefusal r false (decide (s.siloClass l k = 0)) = none →
      (∀ d ∈ l :: ls, s.holder 2 d k = noDom ∨ s.holder 2 d k = s.holder 2 l k) →
      exec (.siloSpan r k mask) s = .next (s.defers r 0x0212 none (fun t =>
        let u := t.spanOver k (t.spanReach k mask)
        u.setSilo l k { u.silo l k with spanNext := some (mask, t.spanReach k mask), spanFrom := none, spanReq := some r })))

/-- R293, R338, R339, R341, R343: display heads, their frames, their image and mode, and the display messages. A tile row that is in time is sent; one that is not, or whose
read is refused or poisoned, sends FILL in its place.
Choices of the model that it passes through: notes/assumptions 26, 54, 104. -/
def Obligations.DisplayRowsComplete : Prop :=
  ∀ s : State,
    (∀ d k, s.hasDie d = true → k < 16 → s.fld d .SILO_CFG_EN k ≠ 0 → s.fld d .SILO_CFG_CLASS k = 1 → s.fld d .SILO_TIME_LEAD k ≠ 0 → (s.silo d k).reserveStart = none →
      (s.silo d k).frameDone = false →
      let u := (s.setFld d .SILO_STAT_RESERVE k 1).setSilo d k
        { s.silo d k with reserveStart := some s.now, classSTime := 0, reserveHead := s.fld d .SILO_CFG_HEAD k }
      ∃ f : SlotRef → Placed → Bool, (∀ c x p, f (.core c x) p = (decide (3 ≤ p.cls) && bit (s.fld d .SILO_MASK_MASK k) c)) ∧ (∀ c p, f (.raster c) p = false) ∧
        exec (.displayReserveStart d k) s = .next (u.killWhere d true f)) ∧
    (∀ h, h < 4 → s.headRuns h = true → ∃ (l : List (Nat × Nat)) (u : State), (u.head h).underrun = false ∧ (u.head h).row = 0 ∧ (u.head h).pending = none ∧
      exec (.verticalBlank h) s = .next (l.foldl (State.reserveEnd h) u)) ∧
    (∀ h, h < 4 → s.headRuns h = true →
      ((s.head h).latched = none → ∀ ready, exec (.scanoutTileRowDue h ready) s = .next (s.sendRow h none)) ∧
      ∀ b, (s.head h).latched = some b → (s.head h).row < (scanPicture b).img.th →
        exec (.scanoutTileRowDue h false) s = .next (s.underrunRow h) ∧
        let reads := ((scanPicture b).img.rowBlocks (s.head h).row).flatMap (fun q => s.blockReads (scanPicture b) q.1 q.2)
        ((∀ r ∈ reads, s.memRefusal (ioMaster 0 26) r.1 r.2 = none ∧ s.poisoned r.1 r.2 = none) → exec (.scanoutTileRowDue h true) s =
          .next ((reads.foldl (fun (t : State) r => t.wake r.1 r.2) s).sendRow h (some (s.rowPixels (scanPicture b) (s.head h).row))))) ∧
    (∀ h level, h < 4 → bit (s.fld 0 .DISP_STATUS_HPD) h ≠ level →
      ∃ u : State, bit (u.fld 0 .DISP_STATUS_HPD) h = level ∧ (u.head h).stopped = true ∧ exec (.hpdChange h level) s = .next (u.dispEvent .dispHpd h)) ∧
    (∀ m h (data : Word), h < 4 → WritesNow s m 0 .DISPLAY (0x11C + 0x40 * h) → s.otherHolds m 3 0 h = false →
      ∃ t, exec (.headImgHiWrite m h data) s = .next t ∧
        (t.head h).pending = some (.at (s.pairLow 0 .HEAD_IMG_LO h (s.fld 0 .HEAD_IMG_ADDR h) + bits data.toNat 15 0 * 2 ^ 32))) ∧
    (∀ m h (data : Word), h < 4 → WritesNow s m 0 .DISPLAY (0x100 + 0x40 * h) → s.otherHolds m 3 0 h = false →
      exec (.headCtrlEnWrite m h data) s = .next (s.accepted.setFlds 0 h [(.HEAD_CTRL_EN, bits data.toNat 31 31), (.HEAD_CTRL_BPC10, bits data.toNat 30 30)])) ∧
    (∀ r (c : DispModeCfg) lanes rate, Serves s r 0x0610 none → c.head < 4 → c.link < 2 → (c.maxLanes = 1 ∨ c.maxLanes = 2 ∨ c.maxLanes = 4) → (c.bpc = 8 ∨ c.bpc = 10) →
      25000 ≤ c.pclkKhz → c.pclkKhz ≤ 600000 → s.holder 3 0 c.head = r.dom → lanes ≤ c.maxLanes → (lanes = 1 ∨ lanes = 2 ∨ lanes = 4) → rate < 8 →
      (c.link = 0 → rate < 4) → c.pclkKhz * 3 * c.bpc * 10 ≤ lanes * linkRate rate * 10 * 8 →
      ∃ u : State, u.fld 0 .HEAD_LINK_TRAINED c.head = 1 ∧ u.fld 0 .HEAD_CTRL_EN c.head = 1 ∧ u.fld 0 .HEAD_PCLK_KHZ c.head = c.pclkKhz ∧
        (u.head c.head).stopped = false ∧
        exec (.dispMode r c (some (lanes, rate))) s = .next (u.answered r 0x0610 none (some (.ok, leBytes 4 (u.linkImage c.head))))) ∧
    (∀ r h a, Serves s r 0x0611 none → h < 4 → a < 2 ^ 48 → (memLoc s.part a).isSome = true → s.holder 3 0 h = r.dom →
      exec (.dispFlip r h a) s = .next (s.replies r 0x0611 none (fun t => (t.offer h (.at a), [])))) ∧
    (∀ r h, Serves s r 0x0612 none → h < 4 → exec (.dispQuery r h) s = .next (s.replies r 0x0612 none (fun t => (t,
      leBytes 4 s.dispStatus ++ leBytes 4 (s.fld 0 .HEAD_REPEAT_COUNT h) ++ leBytes 4 (s.fld 0 .HEAD_UNDERRUN_COUNT h) ++ leBytes 4 (s.linkImage h) ++
        leBytes 8 (s.fld 0 .HEAD_VBLANK_TIME h))))) ∧
    (∀ r h, Serves s r 0x0613 none → h < 4 → s.holder 3 0 h = r.dom → exec (.dispOff r h) s = .next (s.replies r 0x0613 none (fun t =>
      (t.setFlds 0 h [(.HEAD_CTRL_EN, 0), (.HEAD_LINK_TRAINED, 0), (.HEAD_LINK_LANES, 0), (.HEAD_LINK_RATE, 0)], []))))

/-- R300 to R302, R304 to R306, R309, R310, R314 to R316: configuring, resetting, querying and freezing functions, their registers, and what a controller's link asks of them.
Choices of the model that it passes through: notes/assumptions 26, 51, 102. -/
def Obligations.FunctionRowsComplete : Prop :=
  ∀ s : State,
    (∀ n, n ≤ 2048 → (∃ e ∈ s.fn.resets, e.fn = fnDom n ∧ e.advanced = false) → (∀ e ∈ s.q.slots, e.2.fn ≠ fnDom n) →
      exec (.genDrainEnd n) s = .next (s.nextGen (fnDom n))) ∧
    (∀ n x, n ≤ 2048 → s.fn.resets.find? (fun e => decide (e.fn = fnDom n) && e.advanced) = some x →
      exec (.functionResetEnd n) s = .next ((s.clearFn (fnDom n)).finishFnReset x)) ∧
    (∀ r n assign quota vectors aper, Serves s r 0x0300 none → n ≤ 2048 → assign < 4 → quota ≤ 1024 → 1 ≤ vectors → vectors ≤ 64 → s.aperOk aper = true →
      s.fnSender r = true → (n = 0 → assign = 1 ∧ vectors = 64 ∧ quota ≠ 0) → (assign ≠ 0 ∨ s.assign n = 0) → s.inReset (fnDom n) = false →
      s.resizeRefusal n assign quota vectors = none →
      exec (.fnConfig r n assign quota vectors aper) s = .next (s.replies r 0x0300 none (fun t =>
        let u := t.resize n assign quota vectors
        ((u.setFld 0 .FN_APER_BASE n (u.aperOf n aper)).functionChange n, leBytes 2 (u.genOf (fnDom n)) ++ leBytes 2 0)))) ∧
    (∀ r n, n ≤ 2048 → s.fnSender r = true → s.assign n ≠ 0 → (s.holdsClassS (fnDom n) = false ∨ r.dom = fwDom ∨ s.inReset (fnDom n) = true) →
      (Serves s r 0x0301 none → exec (.fnReset r n) s = .next (s.defers r 0x0301 none (fun t => t.startFnReset (fnDom n) [(r, 0x0301)] false))) ∧
      (Serves s r 0x0314 none → exec (.fnDiscard r n) s = .next (s.defers r 0x0314 none (fun t => t.startFnReset (fnDom n) [(r, 0x0314)] false)))) ∧
    (∀ r n, Serves s r 0x0302 none → n ≤ 2048 → (s.fnSender r = true ∨ r.dom = fnDom n) →
      let qs := s.queuesOf (fnDom n)
      exec (.fnQuery r n) s = .next (s.replies r 0x0302 none (fun t => (t, leBytes 1 (s.assign n) ++ leBytes 1 (s.fnStateOf (fnDom n)) ++ leBytes 2 (s.genOf (fnDom n)) ++
        leBytes 2 (s.fld 0 .FN_CFG_QUOTA n) ++ leBytes 2 (min qs.length 0xFFFF) ++ leBytes 1 (s.fld 0 .FN_CFG_VECTORS n) ++ leBytes 7 0 ++
        leBytes 8 (s.fld 0 .FN_APER_BASE n) ++
        ((List.range 8).map (fun d => leBytes 1 (min 255 (qs.filter (fun e => decide (e.1 / 65536 = d))).length))).flatten)))) ∧
    (∀ r n first, Serves s r 0x0303 none → n ≤ 2048 → first < 1024 → (s.fnSender r = true ∨ r.dom = fnDom n) →
      exec (.fnQmap r n first) s = .next (s.replies r 0x0303 none (fun t => (t, ((rangeFrom first 64).map (fun j =>
        match (s.queuesOf (fnDom n)).find? (fun e => decide (e.2.mapSlot = some j)) with
        | some e => leBytes 4 e.1
        | none => leBytes 4 0xFFFFFFFF)).flatten)))) ∧
    (∀ r c a, Serves s r 0x0304 none → c < 2 → 20 ≤ a → a ≤ 32 → s.fnSender r = true → c ∉ s.fn.vfEnable →
      exec (.fnGlobal r c a) s = .next (s.replies r 0x0304 none (fun t => ({ t with fn.apExp := insertKV t.fn.apExp c a }, [])))) ∧
    (∀ r n, Serves s r 0x0310 none → n ≤ 2048 → s.fnSender r = true → s.assign n ≠ 0 → (s.holdsClassS (fnDom n) = false ∨ r.dom = fwDom) → s.fn.freezes = [] →
      s.inReset (fnDom n) = false → s.fw.activation = none → s.fld 0 .MIRROR_STATUS_HANDOVER ≠ 1 →
      exec (.fnFreeze r n) s = .next (s.defers r 0x0310 none (fun t => t.beginFreeze (fnDom n) [r] false))) ∧
    (∀ c n, c < 2 → 1 ≤ n → n ≤ 2048 → s.assign n = c + 1 → exec (.functionLevelReset c (some n)) s = .next (s.forceFnReset (fnDom n) false)) ∧
    (∀ c fn, c < 2 → (fn = none ∨ fn = some 0) → exec (.functionLevelReset c fn) s =
      .next ((s.enabledFns.filter (fun n => decide (n = 0) || decide (s.assign n = c + 1))).foldl (fun t n => t.forceFnReset (fnDom n) false) s)) ∧
    (∀ m n (data : Word), n ≤ 2048 → WritesNow s m (homeOf s.part.dies (fnDom n)) .MBOX (pageOf (fnDom n) * 0x1000 + 0x108) → bits data.toNat 31 24 = 0xC3 →
      exec (.fnResetRegWrite m n data) s = .next (s.accepted.forceFnReset (fnDom n) false)) ∧
    (∀ m n (data : Word), 1 ≤ n → n ≤ 2048 → WritesNow s m 0 .SCH (0x80000 + 16 * n) → s.guardOk m = true → bits data.toNat 26 16 ≤ 1024 → 1 ≤ bits data.toNat 6 0 →
      bits data.toNat 6 0 ≤ 64 → (bits data.toNat 31 30 ≠ 0 ∨ s.assign n = 0) → s.inReset (fnDom n) = false →
      s.accepted.resizeRefusal n (bits data.toNat 31 30) (bits data.toNat 26 16) (bits data.toNat 6 0) = none →
      exec (.fnCfgWrite m n data) s = .next ((s.accepted.resize n (bits data.toNat 31 30) (bits data.toNat 26 16) (bits data.toNat 6 0)).functionChange n)) ∧
    (∀ c n, c < 2 → c ∉ s.fn.vfEnable → exec (.numvfsWrite c n false) s = .next { s with fn.numVfs := insertKV s.fn.numVfs c (min n (2048 - s.numVf (1 - c))) }) ∧
    (∀ c n, c < 2 → c ∉ s.fn.vfEnable → ∃ t, exec (.numvfsWrite c n true) s = .next t ∧ c ∈ t.fn.vfEnable) ∧
    (∀ c n, c < 2 → c ∈ s.fn.vfEnable → exec (.numvfsWrite c n true) s = .next s)

/-- R312 to R314: an image of a frozen function is saved under authentication and encryption, restored and thawed.
Choices of the model that it passes through: notes/assumptions 11, 51, 52, 91. -/
def Obligations.ImageRowsComplete : Prop :=
  ∀ s : State,
    (∀ r n flags maxLen a f d o key t, s.handling r 0x0311 = t → Serves s r 0x0311 none → n ≤ 2048 → flags < 4 → t.fnSender r = true →
      (bit flags 1 = true → t.hasFeature r 13 = true) → t.fn.freezes.find? (fun f => decide (f.fn = fnDom n) && f.complete) = some f →
      decodeAddr s.part 0 a = .dram d o → t.imageKey (flags / 2) = some key →
      let recs := t.imageRecs (fnDom n) (bit flags 1) (bit flags 0)
      let secs := imageSections recs
      let len := 128 + secs.flatten.length
      o + len ≤ s.part.dramBytes → len ≤ maxLen → t.memRefusal copyEngine a len = none →
      t.copyUes ((recs.filter (fun x => decide (x.kind = 8 ∨ x.kind = 9))).map (fun x => (x.object, x.content.length))) = none →
      let head := leBytes 4 0x4E465653 ++ leBytes 1 1 ++ leBytes 1 0 ++ leBytes 2 n ++ leBytes 2 (s.genOf (fnDom n)) ++ leBytes 1 s.part.dies ++ leBytes 1 flags ++
        leBytes 4 secs.length ++ leBytes 8 len ++ leBytes 8 (f.time / 1000000000) ++ leBytes 4 (f.time % 1000000000) ++ leBytes 28 0
      let iv := leBytes 8 s.sec.saveCount ++ leBytes 2 n ++ leBytes 2 0
      let c := cipher key (leNat iv) 0 secs.flatten
      exec (.fnSave r n flags maxLen a) s = .next (State.answered
        { t.store (agentOf copyEngine) a (head ++ (leBytes 4 (flags / 2) ++ iv ++ leBytes 16 (Config.gcmTag key (leNat iv) head c).toNat ++ leBytes 32 0) ++ c) with
          sec.saveCount := s.sec.saveCount + 1 } r 0x0311 none (some (.ok, leBytes 8 len)))) ∧
    (∀ r n flags len a key ss rs t u (dieMap : List Nat), s.handling r 0x0312 = t → Serves s r 0x0312 none → n ≤ 2048 → flags < 4 → 128 ≤ len →
      t.inMemory a len = true → t.fnSender r = true → (bit flags 1 = true → t.hasFeature r 13 = true) → t.memRefusal copyEngine a len = none →
      t.copyUes [(a, len)] = none →
      let head := (s.bytes a len).take 64
      let auth := slice (s.bytes a len) 64 64
      let sealed := (s.bytes a len).drop 128
      t.imageKey (leAt auth 0 1) = some key → (Config.gcmTag key (leAt auth 4 12) head sealed).toNat = leAt auth 16 16 → leAt auth 1 3 = 0 →
      parseSections 16 (cipher key (leAt auth 4 12) 0 sealed) = some ss → imageOf [] ss = some rs →
      leAt head 0 4 = 0x4E465653 → leAt head 4 1 = 1 → leAt head 6 2 = n → leAt head 11 1 = flags → leAt head 16 8 = len → leAt head 12 4 = ss.length →
      (bit flags 1 = false → (∀ d ∈ dieMap, d < s.part.dies) → earlierGen (leAt head 8 2) (t.genOf (fnDom n)) = false →
        t.claimTaken (fnDom n) dieMap (rs.filter (fun x => decide (x.kind = 5))) = false → t.restoreHere (fnDom n) (bit flags 0) dieMap rs = some u →
        exec (.fnRestore r n flags len a dieMap) s = .next (u.answered r 0x0312 none (some (.ok, leBytes 2 (u.genOf (fnDom n)) ++ leBytes 2 0)))) ∧
      (bit flags 1 = true → bit flags 0 = true → (t.assign n = 0 ∨ (t.queuesOf (fnDom n) = [] ∧ ∀ e ∈ t.pins.claims, e.2.1 ≠ fnDom n)) →
        t.claimTaken (fnDom n) [] (rs.filter (fun x => decide (x.kind = 5))) = false → t.placesFree (rs.filter (fun x => decide (x.kind = 7))) = true →
        t.putRecs (fnDom n) ((rs.filter (fun x => decide (x.kind = 1))).map (fun x => { x with object := leAt head 8 2 }) ++ rs.filter (fun x => decide (x.kind ≠ 1))) = some u →
        exec (.fnRestore r n flags len a dieMap) s = .next (u.answered r 0x0312 none (some (.ok, leBytes 2 (u.genOf (fnDom n)) ++ leBytes 2 0))))) ∧
    (∀ r n, Serves s r 0x0313 none → n ≤ 2048 → s.fnSender r = true → (∃ f ∈ s.fn.freezes, f.fn = fnDom n ∧ f.complete = true) →
      exec (.fnThaw r n) s = .next (s.replies r 0x0313 none (fun t => (t.thawFn (fnDom n), []))))

/-- R346, R348, R352, R353, R357, R359, R364, R366, R367: packets of a receiver and of GVSP, frames that complete, golden frames, and the registers and messages of the camera
path. What is open on a channel goes on with the stream that opened it.
Choices of the model that it passes through: notes/assumptions 55, 56, 105. -/
def Obligations.CameraRowsComplete : Prop :=
  ∀ s : State,
    (∀ d rx (h : CsiHeader) number u, s.hasDie d = true → rx < 8 → s.csiHeader d rx h = (true, u) →
      let isOpen := u.openOn d (rangeFrom (16 * rx) 16) (fun f => !f.gvsp && !f.lineScan && decide (f.channel = h.vc))
      let start := (u.csiStreams d rx h.vc).filter (fun n => decide (u.fld d .STR_CFG_LINESCAN n = 0))
      (h.dt = 0 → exec (.csiShortPacket d rx h number) s = .next (start.foldl (fun (t : State) n =>
        ((t.endFrame d n true).abortInjections d n).openFrame d n number (t.fld d .STR_CFG_DT n) 0) (isOpen.foldl (fun (t : State) n => t.endFrame d n true) u))) ∧
      (h.dt = 1 → exec (.csiShortPacket d rx h number) s = .next (isOpen.foldl (fun (t : State) n => t.endFrame d n false) u)) ∧
      (h.dt ≠ 0 → h.dt ≠ 1 → exec (.csiShortPacket d rx h number) s = .next u)) ∧
    (∀ d rx (h : CsiHeader) (payload : List Byte) ok u, s.hasDie d = true → rx < 8 → s.csiHeader d rx h = (true, u) →
      let isOpen := u.openOn d (rangeFrom (16 * rx) 16) (fun f => !f.gvsp && decide (f.channel = h.vc) && decide (f.format = h.dt))
      (∀ n rest, isOpen = n :: rest → exec (.csiLongPacket d rx h payload ok) s = .next ((u.takeLine d n payload ok).tileEnds d n)) ∧
      (∀ n, isOpen = [] → (u.csiStreams d rx h.vc).find? (fun n => decide (u.fld d .STR_CFG_DT n = h.dt)) = some n → u.fld d .STR_CFG_LINESCAN n ≠ 0 →
        (u.stream d n).opened = none → exec (.csiLongPacket d rx h payload ok) s = .next (((u.openFrame d n 0 h.dt 0).takeLine d n payload ok).tileEnds d n)) ∧
      (isOpen = [] → (u.csiStreams d rx h.vc).find? (fun n => decide (u.fld d .STR_CFG_DT n = h.dt)) = none →
        exec (.csiLongPacket d rx h payload ok) s = .next (u.addSat d .CSI_PKT_ERR_UNKNOWN rx 1))) ∧
    (∀ d port (p : GvspPacket), s.hasDie d = true →
      let isOpen := s.openOn d (List.range 128) (fun f => f.gvsp && decide (f.channel = port))
      match p with
      | .leader b fmt w => ∀ f n, pfnc fmt = some f → w ≠ 0 →
          (List.range 128).find? (fun n => decide (s.fld d .STR_CFG_EN n = 1) && s.isGvsp d n && decide (s.fld d .STR_GOLD_UDP_PORT n = port)) = some n →
          exec (.gvspPacket d port p) s =
            .next ((((isOpen.foldl (fun (t : State) n => t.endFrame d n true) s).endFrame d n true).abortInjections d n).openFrame d n b f w)
      | .payload b off bs => ∀ f n, isOpen = [n] → (s.stream d n).opened = some f → f.number = b →
          exec (.gvspPacket d port p) s = .next (s.gvspPayload d n off bs f)
      | .trailer b => ∀ f n, isOpen = [n] → (s.stream d n).opened = some f → f.number = b → exec (.gvspPacket d port p) s = .next (s.endFrame d n false)) ∧
    (∀ d n f fs, s.hasDie d = true → n < 128 → (s.stream d n).ended = f :: fs → ∃ u : State, (u.stream d n).ended = fs ∧
      exec (.frameComplete d n) s = .next (u.occasion d n f)) ∧
    (∀ d n g, s.hasDie d = true → n < 128 → (s.stream d n).golden = some g →
      ∃ t, exec (.goldenCopyEnd d n) s = .next t ∧ (t.stream d n).golden = none ∧ t.fld d .STR_STATE_INJECTING n = 0 ∧
        (s.poisoned g.src g.len = none → (t.stream d n).since = 0)) ∧
    (∀ m d n off (data : Word), s.hasDie d = true → n < 128 → off < 0x80 → WritesNow s m d .CSI (0x10000 * (n / 16) + 0x1000 + 0x80 * (n % 16) + off) →
      s.otherHolds m 4 d n = false → strOk off data.toNat = true →
      (off = 0 → (s.holdsClassS (writerOf m) = true ∨ bits data.toNat 28 28 = 0) → s.strEnableOk d n data.toNat (s.fld d .STR_GOLD_UDP_PORT n) = true →
        exec (.strCfgWrite m d n off data) s = .next (s.accepted.strCfgSet d n data.toNat)) ∧
      (off ∉ [0, 0x18, 0x1C, 0x20, 0x24] → exec (.strCfgWrite m d n off data) s = .next (s.accepted.strSet d n off data.toNat))) ∧
    (∀ d rx, s.hasDie d = true → rx < 8 → s.fld d .CSI_PHY_MODE rx ≠ 0 →
      (s.fld d .CSI_STATUS_LOCK rx = 0 → exec (.csiPhyLockChange d rx true) s = .next (s.setFld d .CSI_STATUS_LOCK rx 1)) ∧
      (s.fld d .CSI_STATUS_LOCK rx = 1 → exec (.csiPhyLockChange d rx false) s = .next ((s.setFld d .CSI_STATUS_LOCK rx 0).flag d .CSI_STATUS_PHY_ERR rx))) ∧
    (∀ r d rx mode lanes rate, Serves s r 0x0400 (some d) → s.hasDie d = true → rx < 8 → s.holder 5 d rx = r.dom → s.rxBusy d rx = false →
      (mode = 0 → exec (.camRxSet r d rx mode lanes rate) s = .next (s.replies r 0x0400 (some d) (fun t => (t.phySet d rx 0 0 0, [])))) ∧
      ((mode = 1 ∧ (lanes = 1 ∨ lanes = 2 ∨ lanes = 4) ∧ 80 ≤ rate ∧ rate ≤ 4500) ∨ (mode = 2 ∧ 1 ≤ lanes ∧ lanes ≤ 3 ∧ 80 ≤ rate ∧ rate ≤ 6000) →
        exec (.camRxSet r d rx mode lanes rate) s = .next (s.replies r 0x0400 (some d) (fun t =>
          (t.phySet d rx mode (if lanes = 1 then 0 else if lanes = 2 then 1 else 2) rate, []))))) ∧
    (∀ r d n (images : List Word), Serves s r 0x0401 (some d) → s.hasDie d = true → n < 128 → images.length = 16 → s.holder 4 d n = r.dom →
      let w (i : Nat) : Nat := (images.getD i 0).toNat
      s.subsetRefusal r (decide (handleDie (w 3) ≠ 0) || decide (handleDie (w 11) ≠ 0)) false = none →
      (bits (w 0) 28 28 = 1 → s.holdsClassS r.dom = true) → (∀ i, i < 16 → strOk (4 * i) (w i) = true) → s.strEnableOk d n (w 0) (bits (w 10) 31 16) = true →
      exec (.camStreamSet r d n images) s = .next (s.replies r 0x0401 (some d) (fun t =>
        ((((rangeFrom 1 15).foldl (fun (u : State) i => u.strSet d n (4 * i) (w i)) t).strCfgSet d n (w 0)).setFlds d n
          [(.STR_REC_ADDR, w 6 + w 7 % 2 ^ 16 * 2 ^ 32), (.STR_REL_ADDR, w 8 + w 9 % 2 ^ 16 * 2 ^ 32)], [])))) ∧
    (∀ r d n, Serves s r 0x0402 (some d) → s.hasDie d = true → n < 128 →
      let f (x : Fld) := s.fld d x n
      exec (.camStreamQuery r d n) s = .next (s.replies r 0x0402 (some d) (fun t => (t,
        [s.strCfgImage d n, f .STR_GEOM_HEIGHT * 2 ^ 16 + f .STR_GEOM_WIDTH, f .STR_BUF_X0 * 2 ^ 16 + f .STR_BUF_NBUF, f .STR_HANDLE_HANDLE,
          f .STR_OUT_OFF_OFF, f .STR_FSTRIDE_STRIDE, f .STR_REC_ADDR, f .STR_REC_ADDR / 2 ^ 32, f .STR_REL_ADDR, f .STR_REL_ADDR / 2 ^ 32,
          f .STR_GOLD_UDP_PORT * 2 ^ 16 + f .STR_GOLD_PERIOD, f .STR_GOLD_HANDLE_HANDLE, f .STR_EXPECT_0_SIG, f .STR_EXPECT_1_SIG, f .STR_EXPECT_2_SIG,
          f .STR_EXPECT_3_SIG, f .STR_FRAMES_COUNT, f .STR_FRAMES_COUNT / 2 ^ 32,
          f .STR_STATE_FROZEN * 2 ^ 31 + f .STR_STATE_INJECTING * 2 ^ 30 + f .STR_STATE_DEFER * 2 ^ 27, f .STR_DROP_COUNT, f .STR_DAMAGED_COUNT,
          f .STR_DISPLACED_COUNT].flatMap (leBytes 4) ++ leBytes 8 0))))

/-- R360 to R364, R366: edges of the odometry channels and tachometers, the window, and their registers and messages.
Choices of the model that it passes through: notes/assumptions 56, 57, 105. -/
def Obligations.OdometryRowsComplete : Prop :=
  ∀ s : State,
    (∀ ch x y, ch < 4 → s.fld 0 .ODO_CFG_EN ch ≠ 0 → ((s.odoOf ch).levelA = x ∨ (s.odoOf ch).levelB = y) →
      let q := quadStep (s.odoOf ch).levelA (s.odoOf ch).levelB x y
      let k := if s.fld 0 .ODO_CFG_INVERT ch = 1 then -q else q
      ∃ u : State, u.fld 0 .ODO_COUNT_COUNT ch = ofSigned 64 (toSigned 64 (s.fld 0 .ODO_COUNT_COUNT ch) + k) ∧ u.fallback ch = s.fallback ch ∧
        exec (.odoEdgeAccept ch x y) s = .next (if s.fallback ch = true then u else u.distMove ch k)) ∧
    (∀ ch x y, ch < 4 → s.fld 0 .ODO_CFG_EN ch ≠ 0 → (s.odoOf ch).levelA ≠ x → (s.odoOf ch).levelB ≠ y →
      ∃ u : State, exec (.odoEdgeAccept ch x y) s = .next ((u.addSat 0 .ODO_ERR_COUNT ch 1).odoFault ch)) ∧
    (∀ ch, ch < 4 → s.fld 0 .ODO_CFG_EN ch ≠ 0 → (s.odoOf ch).zCount = none →
      ∃ t, exec (.odoZEdge ch) s = .next t ∧ (t.odoOf ch).zCount = some (s.fld 0 .ODO_COUNT_COUNT ch) ∧ t.fld 0 .ODO_ZCOUNT_DIST ch = s.fld 0 .ODO_DIST_DIST ch % 2 ^ 64) ∧
    (∀ k cycles, k < 4 → s.fld 0 .TACH_CFG_EN k ≠ 0 →
      (k ∈ s.tachSeen → ∃ t, exec (.tachEdge k cycles) s = .next t ∧ t.fld 0 .TACH_PERIOD_CYCLES k = min cycles 0xFFFFFFFF ∧
        lookupD t.tachPulses k 0 = lookupD s.tachPulses k 0 + 1) ∧
      (k ∉ s.tachSeen → ∃ t, exec (.tachEdge k cycles) s = .next t ∧ t.tachSeen = s.tachSeen ++ [k])) ∧
    (∃ u : State, u.tachPulses = [] ∧ (∀ k, k < 4 → u.fld 0 .TACH_PULSES_COUNT k = lookupD s.tachPulses k 0 % 2 ^ Fld.width .TACH_PULSES_COUNT) ∧
      exec .odoWindowEnd s = .next ((List.range 4).foldl (State.odoWindow
        ((List.range 4).map (fun ch => sdiff 64 (s.fld 0 .ODO_COUNT_COUNT ch) (s.odoOf ch).windowCount))) u)) ∧
    (∀ m ch (data : Word), ch < 4 → WritesNow s m 0 .ODO (0x11C + 0x40 * ch) → s.guardOk m = true → s.otherHolds m 6 0 ch = false →
      exec (.odoDistWrite m ch data) s = .next ((s.accepted.distPreset ch (s.accepted.pairLow 0 .ODO_DIST_LO ch (s.fld 0 .ODO_DIST_DIST ch) + data.toNat * 2 ^ 32)).dropLow
        0 .ODO_DIST_LO ch)) ∧
    (∀ r ch (cfg slip ratio : Word), Serves s r 0x0410 none → ch < 4 → odoCfgOk ch cfg.toNat = true → s.holder 6 0 ch = r.dom →
      exec (.odoSet r ch cfg slip ratio) s = .next (s.replies r 0x0410 none (fun t =>
        (((t.odoCfgSet ch cfg.toNat).odoSlipSet ch slip.toNat).setFld 0 .ODO_RATIO_RATIO ch ratio.toNat, [])))) ∧
    (∀ r ch (dist : BitVec 64), Serves s r 0x0411 none → ch < 4 → s.holder 6 0 ch = r.dom →
      exec (.odoPreset r ch dist) s = .next (s.replies r 0x0411 none (fun t => (t.distPreset ch dist.toNat, [])))) ∧
    (∀ r ch, Serves s r 0x0412 none → ch < 4 → exec (.odoQuery r ch) s = .next (s.replies r 0x0412 none (fun t => (t,
      leBytes 4 (s.odoCfgImage ch) ++ leBytes 4 (s.odoSlipImage ch) ++ leBytes 4 (s.fld 0 .ODO_RATIO_RATIO ch) ++ leBytes 4 (s.fld 0 .ODO_SPEED_SPEED ch) ++
        leBytes 8 (s.fld 0 .ODO_COUNT_COUNT ch) ++ leBytes 8 (s.fld 0 .ODO_DIST_DIST ch) ++ leBytes 8 (s.fld 0 .ODO_ZCOUNT_DIST ch) ++
        leBytes 4 (s.fld 0 .ODO_ERR_COUNT ch) ++ leBytes 4 s.odoStatusImage)))) ∧
    (∀ r k (cfg : Word), Serves s r 0x0413 none → k < 4 → debOk (bits cfg.toNat 9 0) = true → s.holder 7 0 k = r.dom →
      exec (.tachSet r k cfg) s = .next (s.replies r 0x0413 none (fun t => (t.tachSet k cfg.toNat, []))))

/-- R372, R374 to R376, R378, R380, R382 to R384: what happens to the timebases, triggers, captures and comparators as time passes, and the register writes that set them.
Choices of the model that it passes through: notes/assumptions 7, 58, 106. -/
def Obligations.TimeEventsComplete : Prop :=
  ∀ s : State,
    (exec .ppsInEdge s = .next ((List.range 8).foldl (fun (t : State) k =>
      if t.tbRuns k = true ∧ t.fld 0 .TB_CFG_SRC k = 2 then (t.offset k (t.ppsTheta k)).1 else t) s)) ∧
    (∀ k, k < 8 → s.tbRuns k = true → (s.fld 0 .TB_CFG_SRC k = 1 ∨ s.fld 0 .TB_CFG_SRC k = 2) → exec (.holdoverTimeout k) s = .next (s.enterHoldover k 0)) ∧
    (exec .replicaAlign s = .next { s with time.replicas := s.dieList.filter (fun d => !s.isolated d) }) ∧
    (∀ n t, n < 32 → lookup? s.time.next n = some t → s.tbRuns (s.fld 0 .TRG_CFG_SRC n) = true → t ≤ s.tbNs (s.fld 0 .TRG_CFG_SRC n) →
      exec (.timeTriggerFire n) s = .next ((s.fire n).setNext n (if s.fld 0 .TRG_CFG_MODE n = 2 then some (t + s.fld 0 .TRG_PERIOD_PERIOD n) else none))) ∧
    (∀ n, n < 32 → exec (.triggerPulseEnd n) s = .next { s with time.pulse := s.time.pulse.filter (fun x => decide (x ≠ n)) }) ∧
    (s.fld 0 .PPS_OUT_CFG_EN = 1 → s.tbRuns (s.fld 0 .PPS_OUT_CFG_TB) = true → exec .ppsOutPulse s = .next { s with time.ppsLeft := s.fld 0 .PPS_OUT_CFG_WIDTH }) ∧
    (∀ k, k < 8 → s.fld 0 .CMP32_CFG_EN k = 1 → k ∈ s.time.armed → s.cmpReached k = true →
      ∃ u : State, u.fld 0 .CMP32_STATUS_MATCH k = 1 ∧ k ∉ u.time.armed ∧ exec (.cmp32Match k) s = .next (u.timeEvent .cmp32 (u.holder 0xA 0 k) k [])) ∧
    (∀ d n rising, s.hasDie d = true → n < 32 → s.fld d .TSCAP_CFG_EN n = 1 → s.fld d .PINCFG_FUNC (gpioPin n) = 2 →
      (s.fld d .TSCAP_CFG_EDGE n = 2 ∨ s.fld d .TSCAP_CFG_EDGE n = (if rising = true then 0 else 1)) →
      ∃ t, exec (.tscapEdge d n rising) s = .next t ∧ t.fld d .TSCAP_STATUS_VALID n = 1 ∧
        (s.fld d .TSCAP_STATUS_VALID n = 1 → t.fld d .TSCAP_STATUS_OVERRUN n = 1)) ∧
    (∀ m k (data : Word), k < 8 → s.guardOk m = true → s.tbMay m k = true →
      (WritesNow s m 0 .TIMEBASE (0x108 + 0x40 * k) → s.fld 0 .TB_CFG_SRC k = 0 → (toSigned 32 data.toNat).natAbs ≤ 549755814 →
        exec (.tbAdjWrite m k data) s = .next (s.accepted.adjSet k data.toNat)) ∧
      (WritesNow s m 0 .TIMEBASE (0x12C + 0x40 * k) → s.fld 0 .TB_CFG_SRC k = 1 → exec (.tbOffsetHiWrite m k data) s =
        .next ((s.accepted.dropLow 0 .TB_OFFSET_LO k).offset k (toSigned 64 (s.pairLow 0 .TB_OFFSET_LO k 0 + data.toNat * 2 ^ 32) * (nsUnit : Nat))).1) ∧
      (WritesNow s m 0 .TIMEBASE (0x138 + 0x40 * k) → s.fld 0 .TB_SETSEC_SEC k < 2 ^ 34 → data.toNat % 2 ^ 30 < 1000000000 →
        exec (.tbSetnsecWrite m k data) s = .next (s.accepted.tbStepTo k ((s.fld 0 .TB_SETSEC_SEC k * 1000000000 + data.toNat % 2 ^ 30) * nsUnit)))) ∧
    (∀ m n (data : Word), n < 32 → s.otherHolds m 9 0 n = false →
      (WritesNow s m 0 .TIMEBASE (0x400 + 0x20 * n) → bits data.toNat 26 25 ≠ 3 → bits data.toNat 19 0 ≠ 0 →
        let mode := bits data.toNat 31 30
        let src := if mode = 3 then bits data.toNat 28 27 else bits data.toNat 29 27
        trgValid mode src (bits data.toNat 26 25) (bits data.toNat 19 0) (s.fld 0 .TRG_START_START n) (s.fld 0 .TRG_PERIOD_PERIOD n) = true →
        exec (.trgCfgWrite m n 0 data) s = .next ((s.accepted.setFlds 0 n [(.TRG_CFG_MODE, mode), (.TRG_CFG_SRC, src), (.TRG_CFG_DIR, bits data.toNat 26 25),
          (.TRG_CFG_PIN, bits data.toNat 24 24), (.TRG_CFG_CTRL, bits data.toNat 23 23), (.TRG_CFG_POL, bits data.toNat 22 22),
          (.TRG_CFG_WIDTH, bits data.toNat 19 0)]).trgArm n)) ∧
      (WritesNow s m 0 .TIMEBASE (0x400 + 0x20 * n + 4) → exec (.trgCfgWrite m n 4 data) s = .next (s.accepted.holdLow 0 .TRG_START_LO n data.toNat))) ∧
    (∀ m k (data : Word), k < 8 → WritesNow s m 0 .TIMEBASE (0x3008 + 0x10 * k) → s.otherHolds m 0xA 0 k = false →
      exec (.cmp32NsecWrite m k data) s = .next (s.accepted.cmpArm k data.toNat))

/-- R369 to R371, R373, R374, R376, R378, R380, R384, R388: the messages of the time group. A session of major 2 carries 32-bit seconds.
Choices of the model that it passes through: notes/assumptions 26, 58, 106. -/
def Obligations.TimeMessagesComplete : Prop :=
  ∀ s : State, ∀ r : Req,
    (∀ k, Serves s r 0x0500 none → k < 8 → exec (.tbQuery r k) s = .next (s.replies r 0x0500 none (fun t => (t,
      leBytes 8 (if t.major2 r = true then s.tbSec k % 2 ^ 32 + s.tbNsec k * 2 ^ 32 else s.tbSec k) ++ leBytes 4 (s.tbNsec k) ++ leBytes 2 (s.tbFrac k) ++
        leBytes 1 (s.fld 0 .TB_CFG_EN k + 2 * s.fld 0 .TB_CFG_HOLDOVER k + 4 * s.fld 0 .TB_CFG_DEGRADED k) ++ leBytes 1 (s.fld 0 .TB_CFG_SRC k) ++
        leBytes 4 (s.fld 0 .TB_ADJ_ADJ k) ++ leBytes 4 (s.fld 0 .TB_INTEG_I k) ++ leBytes 4 (s.fld 0 .TB_LAST_OFF_THETA k) ++ leBytes 4 0)))) ∧
    (∀ (c : TbCfg), Serves s r 0x0501 none → c.tb < 8 → c.src ≤ 2 → c.en ≤ 1 → 1 ≤ c.holdS → c.holdS ≤ 255 → (c.tb = 0 → c.en = 1) →
      (c.src = 0 → (toSigned 32 c.adj.toNat).natAbs ≤ 549755814) → (c.src ≠ 0 → toSigned 32 c.adj.toNat = 0) → s.tbSender r c.tb = true →
      exec (.tbSet r c) s = .next (s.replies r 0x0501 none (fun t =>
        let u := t.setFlds 0 c.tb [(.TB_GAIN_KP, c.kp), (.TB_GAIN_KI, c.ki)]
        let v := (if c.src = 2 then u.setFld 0 .PPS_IN_DELAY_DELAY 0 c.ppsDelay.toNat else u).tbConfigure c.tb c.en c.src c.holdS
        (if c.src = 0 then v.adjSet c.tb c.adj.toNat else v, [])))) ∧
    (∀ k (theta : BitVec 64), Serves s r 0x0502 none → k < 8 → s.fld 0 .TB_CFG_SRC k = 1 → s.tbSender r k = true →
      (s.offset k (toSigned 64 theta.toNat * (nsUnit : Nat))).2 = false →
      exec (.tbOffset r k theta) s = .next (s.replies r 0x0502 none (fun t => ((t.offset k (toSigned 64 theta.toNat * (nsUnit : Nat))).1, [])))) ∧
    (∀ k sec nsec, Serves s r 0x0503 none → k < 8 → s.major2 r = false → sec < 2 ^ 34 → nsec < 1000000000 → s.tbSender r k = true →
      exec (.tbStep r k sec nsec) s = .next (s.replies r 0x0503 none (fun t => (t.tbStepTo k ((sec * 1000000000 + nsec) * nsUnit), [])))) ∧
    (∀ k sec nsec, Serves s r 0x0503 none → k < 8 → s.major2 r = true → s.sec32 k (sec % 2 ^ 32) < 2 ^ 34 → sec / 2 ^ 32 < 1000000000 → s.tbSender r k = true →
      exec (.tbStep r k sec nsec) s = .next (s.replies r 0x0503 none (fun t =>
        (t.tbStepTo k ((s.sec32 k (sec % 2 ^ 32) * 1000000000 + sec / 2 ^ 32) * nsUnit), [])))) ∧
    (∀ tb en width, Serves s r 0x0504 none → tb < 8 → en ≤ 1 → width < 2 ^ 20 → s.granted r.dom = true → exec (.ppsOutSet r tb en width) s =
      .next (s.replies r 0x0504 none (fun t => (t.setFlds 0 0 [(.PPS_OUT_CFG_EN, en), (.PPS_OUT_CFG_TB, tb), (.PPS_OUT_CFG_WIDTH, width)], [])))) ∧
    (∀ (c : TrgCfg) start, Serves s r 0x0510 none → c.trg < 32 → c.flags < 8 → start = (if c.mode = 1 ∨ c.mode = 2 then s.timeIn r c.src c.start else c.start) →
      trgValid c.mode c.src c.dir c.width start c.period = true → s.holder 9 0 c.trg = r.dom →
      exec (.trgSet r c) s = .next (s.replies r 0x0510 none (fun t => ((t.setFlds 0 c.trg [(.TRG_CFG_MODE, c.mode), (.TRG_CFG_SRC, c.src), (.TRG_CFG_DIR, c.dir),
        (.TRG_CFG_PIN, c.flags % 2), (.TRG_CFG_CTRL, c.flags / 2 % 2), (.TRG_CFG_POL, c.flags / 4 % 2), (.TRG_CFG_WIDTH, c.width), (.TRG_START_START, start),
        (.TRG_PERIOD_PERIOD, c.period)]).trgArm c.trg, [])))) ∧
    (∀ n, Serves s r 0x0511 none → n < 32 →
      let mode := s.fld 0 .TRG_CFG_MODE n
      let start := s.fld 0 .TRG_START_START n
      exec (.trgQuery r n) s = .next (s.replies r 0x0511 none (fun t => (t, leBytes 4 (s.trgImage n) ++
        leBytes 8 (if mode = 1 ∨ mode = 2 then t.timeOut r start else start) ++ leBytes 4 (s.fld 0 .TRG_PERIOD_PERIOD n) ++ leBytes 8 (s.fld 0 .TRG_COUNT_COUNT n) ++
        leBytes 4 (s.fld 0 .TRG_MISSED_COUNT n) ++ leBytes 4 0)))) ∧
    (∀ d n en edge tb, Serves s r 0x0520 (some d) → s.hasDie d = true → n < 32 → en ≤ 1 → edge ≤ 2 → tb < 8 → s.holder 1 d (gpioPin n) = r.dom →
      exec (.tscapSet r d n en edge tb) s = .next (s.replies r 0x0520 (some d) (fun t =>
        (t.setFlds d n [(.TSCAP_CFG_EN, en), (.TSCAP_CFG_EDGE, edge), (.TSCAP_CFG_TB, tb)], [])))) ∧
    (∀ d n, Serves s r 0x0521 (some d) → s.hasDie d = true → n < 32 → exec (.tscapRead r d n) s = .next (s.replies r 0x0521 (some d) (fun t =>
      (t.setFlds d n [(.TSCAP_STATUS_VALID, 0), (.TSCAP_STATUS_OVERRUN, 0)], leBytes 8 (t.timeOut r (s.fld d .TSCAP_STAMP_TIME n)) ++
        leBytes 4 (s.fld d .TSCAP_STATUS_VALID n + 2 * s.fld d .TSCAP_STATUS_OVERRUN n) ++ leBytes 4 0)))) ∧
    (∀ k tb en sec nsec, Serves s r 0x0530 none → k < 8 → tb < 8 → en ≤ 1 → nsec < 1000000000 → s.holder 0xA 0 k = r.dom →
      exec (.cmp32Set r k tb en sec nsec) s = .next (s.replies r 0x0530 none (fun t =>
        ((t.setFlds 0 k [(.CMP32_CFG_EN, en), (.CMP32_CFG_TB, tb), (.CMP32_SEC_SEC, sec)]).cmpArm k nsec, []))))

/-- R391 to R395, R413, R414, R443: frames of the Ethernet ports, gates, CPU rings, the tables of the switch, its messages, and the confirmation of the secondary channel.
Choices of the model that it passes through: notes/assumptions 15, 16, 59, 60. -/
def Obligations.EthernetRowsComplete : Prop :=
  ∀ s : State,
    (∀ d i (frame : List Byte), s.hasDie d = true → i < 6 → s.portUp d i = true →
      exec (.ethFrameRx d i frame false) s = .next (s.setPort d i { s.port d i with fcs := (s.port d i).fcs + 1 }) ∧
      (9212 < frame.length → exec (.ethFrameRx d i frame true) s = .next (s.dropFrame d i 0)) ∧
      (60 ≤ frame.length → frame.length ≤ 9212 → beAt frame (frameType frame) 2 ≠ 0x8808 → s.eth.traps = [] →
        let u := (s.setPort d i { s.port d i with framesIn := (s.port d i).framesIn + 1 }).learn (8 * d + i) frame
        ∃ stamp, exec (.ethFrameRx d i frame true) s =
          .next (u.forward d (8 * d + i) frame (u.egressPorts (8 * d + i) frame) (frameClass frame) false stamp none))) ∧
    (∀ d i f rest, s.hasDie d = true → i < 6 → s.portUp d i = true → (s.port d i).sendEnd ≤ s.now → s.nextFrame d i = some (f, rest) →
      let tb := match ptpAt f.bytes with
        | some x => s.ptpTb (beAt f.bytes (x + 4) 1)
        | none => 0
      ∃ u : State, ∃ b p, p.waiting = rest ∧ exec (.ethFrameTx d i) s =
        .next (match f.desc with
          | some x => ((State.send (u.setPort d i p) (.eth d i b)).doneDesc x.1 x.2 0
              (some (tb, s.stampOn tb (toSigned 16 (s.fld d .ETH_PORT_LAT_LAT_OUT i))))).dropDesc x
          | none => State.send (u.setPort d i p) (.eth d i b))) ∧
    (∀ d i g, s.hasDie d = true → i < 7 → (s.port d i).nextGates = some g → g.base ≤ s.tbNs g.tb → (s.port d i).gates = none →
      ∃ t, exec (.gclEntryEnd d i) s = .next t ∧ (t.port d i).gates = some g ∧ (t.port d i).nextGates = none ∧ (t.port d i).entry = 0 ∧
        (t.port d i).entryEnd = g.base + (s.tbNs g.tb - g.base) / g.cycle * g.cycle + (g.slots.getD 0 (0, 0)).2) ∧
    (∀ d i g, s.hasDie d = true → i < 7 → (s.port d i).nextGates = none → (s.port d i).gates = some g → (s.port d i).entryEnd ≤ s.tbNs g.tb →
      let k := if g.slots.length ≤ (s.port d i).entry + 1 then 0 else (s.port d i).entry + 1
      exec (.gclEntryEnd d i) s = .next (s.setPort d i { s.port d i with entry := k, entryEnd := (s.port d i).entryEnd + (g.slots.getD k (0, 0)).2 })) ∧
    (∀ d ring, s.hasDie d = true → ring < 16 →
      let a := s.ringDesc d ring true
      let b := s.bytes a 32
      s.memRefusal (cpuPort d) a 32 = none → s.poisoned a 32 = none → bit (leAt b 10 1) 0 = true →
      (9212 < leAt b 6 2 → exec (.cpuTxDescriptor d ring) s = .next (((s.wake a 32).ringStep d ring true).doneDesc d a 1 none)) ∧
      (leAt b 6 2 ≤ 9212 → leAt b 8 1 = 0xFF → bit (leAt b 10 1) 1 = false → s.memRefusal (cpuPort d) (leAt b 0 6) (leAt b 6 2) = none →
        s.poisoned (leAt b 0 6) (leAt b 6 2) = none →
        ∃ u : State, ∃ status, (status = 0 ∨ status = 4) ∧ exec (.cpuTxDescriptor d ring) s = .next (u.doneDesc d a status none))) ∧
    (∀ mac vlan, exec (.fdbEntryAgeing mac vlan) s = .next { s with eth.fdb := eraseK s.eth.fdb (mac, vlan) }) ∧
    (∀ d i up speed, s.hasDie d = true → i < 6 → s.fld d .ETH_PORT_STATUS_LINK i ≠ b2n up →
      exec (.ethLinkChange d i up speed) s = .next ((s.setFlds d i [(.ETH_PORT_STATUS_LINK, b2n up), (.ETH_PORT_STATUS_SPEED, speed % 16)]).raise .ethLink d
        (s.holder 0xB d i).toNat [(20, 1, 8 * d + i), (21, 1, b2n up), (22, 1, speed % 16)] [s.holder 0xB d i])) ∧
    (∀ r d i speed fec an li lo, Serves s r 0x0B00 (some d) → s.hasDie d = true → ethModeOk i speed fec an = true → s.holder 0xB d i = r.dom →
      exec (.ethPortSet r d i speed fec an li lo) s = .next (s.replies r 0x0B00 (some d) (fun t =>
        ((t.portCut d i).setFlds d i [(.ETH_PORT_CFG_EN, 1), (.ETH_PORT_CFG_AN, an), (.ETH_PORT_CFG_FEC, fec),
          (.ETH_PORT_CFG_SPEED, speed), (.ETH_PORT_LAT_LAT_IN, ofSigned 16 (toSigned 8 li)), (.ETH_PORT_LAT_LAT_OUT, ofSigned 16 (toSigned 8 lo))], [])))) ∧
    (∀ r d i, Serves s r 0x0B01 (some d) → s.hasDie d = true → i < 7 →
      let p := s.port d i
      exec (.ethPortQuery r d i) s = .next (s.replies r 0x0B01 (some d) (fun t => (t,
        leBytes 4 (s.fld d .ETH_PORT_STATUS_LINK i * 2 ^ 31 + s.fld d .ETH_PORT_STATUS_SPEED i * 2 ^ 24) ++ leBytes 6 p.framesIn ++ leBytes 6 p.framesOut ++
          leBytes 6 (p.drops.foldl (fun a e => a + e.2) 0) ++ leBytes 6 p.fcs ++ leBytes 4 0)))) ∧
    (∀ r port tb cycle base (entries : List (Nat × Nat)), Serves s r 0x0B02 (some (port / 8)) → s.hasDie (port / 8) = true → port % 8 < 7 → tb < 8 → 1000 ≤ cycle →
      cycle ≤ 4290000000 → (∀ e ∈ entries, 8 ≤ e.2 ∧ e.2 ≤ 4290000000 ∧ e.1 < 256) → entries ≠ [] → entries.length ≤ 1024 → s.switchSender r = true →
      exec (.tsnGclSet r port tb 0 cycle base entries) s = .next (s.replies r 0x0B02 (some (port / 8)) (fun t =>
        (t.setPort (port / 8) (port % 8) { t.port (port / 8) (port % 8) with nextGates := some ⟨tb, cycle, base, entries⟩ }, [])))) ∧
    (∀ r (e : TsnStream), Serves s r 0x0B03 none → e.handle < 65536 → e.idType ≤ 2 → e.funcs < 32 → e.ident.length = 16 → e.meter.length = 8 → e.algorithm ≤ 1 →
      (bit e.funcs 4 = true → e.algorithm = 0 → 2 ≤ e.history ∧ e.history ≤ 32) → s.switchSender r = true →
      (s.eth.tsn.filter (fun x => decide (x.1 ≠ e.handle))).length < 1024 → (bit e.funcs 1 = true → s.streamsWith 1 e.handle < 512) →
      (bit e.funcs 2 = true → s.streamsWith 2 e.handle < 512) →
      exec (.tsnStreamSet r e) s = .next (s.replies r 0x0B03 none (fun t =>
        ({ t with eth.tsn := insertKV t.eth.tsn e.handle e, eth.work := eraseK t.eth.work e.handle }, [])))) ∧
    (∀ r entry number tb en, Serves s r 0x0B04 none → entry < 8 → number < 256 → tb < 8 → en ≤ 1 → s.switchSender r = true →
      exec (.ptpDomainSet r entry number tb en) s = .next (s.replies r 0x0B04 none (fun t =>
        ({ t with eth.ptp := if en = 1 then insertKV t.eth.ptp entry (number, tb) else eraseK t.eth.ptp entry }, [])))) ∧
    (∀ r d entry ring mode ethertype mac bits, Serves s r 0x0B05 (some d) → s.hasDie d = true → entry < 32 → ring < 16 → mode ≤ 2 → bits ≤ 48 → s.switchSender r = true →
      exec (.ethTrapSet r d entry ring mode ethertype mac bits) s = .next (s.replies r 0x0B05 (some d) (fun t =>
        (if mode = 0 then { t with eth.traps := eraseK t.eth.traps (d, entry) }
         else { t with eth.traps := insertKV t.eth.traps (d, entry) ⟨ring, decide (mode = 2), ethertype, mac, bits⟩ }, [])))) ∧
    (s.safe.msgDue = false → ∃ t, exec .secConfirm s = .next t ∧ t.fld 0 .SAFE_STATUS_SEC_OK = 1 ∧ t.safe.chan1 = !s.isSafe)

/-- R396 to R398, R405, R414: CAN, UART, MVB and xSPI.
Choices of the model that it passes through: notes/assumptions 17, 61, 63. -/
def Obligations.FieldPortRowsComplete : Prop :=
  ∀ s : State,
    (∀ d n (f : CanFrame), s.hasDie d = true → n < 4 → s.canRuns d n = true →
      (f.ok = false → exec (.canFrameRx d n f) s = .next ((s.addSat d .CAN_STATUS_REC n 1).canPassive d n)) ∧
      (f.ok = true → s.fld d .CAN_STATUS_REC n ≤ 127 → ∃ t, exec (.canFrameRx d n f) s = .next t ∧ t.fld d .CAN_STATUS_REC n = s.fld d .CAN_STATUS_REC n - 1)) ∧
    (∀ d n b, s.hasDie d = true → n < 4 → s.canRuns d n = true → s.fresh.2.canNext d n (s.fresh.1 % 2 ^ 16) = some b →
      (∃ x y z, exec (.canFrameTx d n true) s =
        .next (((s.fresh.2.setFld d .CAN_STATUS_TEC n (s.fld d .CAN_STATUS_TEC n - 1)).canPassive d n).send (.can d n x y z))) ∧
      (s.fld d .CAN_STATUS_TEC n + 8 < 256 → exec (.canFrameTx d n false) s = .next ((s.fresh.2.addSat d .CAN_STATUS_TEC n 8).canPassive d n))) ∧
    (∀ d n, s.hasDie d = true → n < 4 → s.fld d .CAN_STATUS_BUSOFF n = 1 → s.fld d .CAN_CFG_MANUAL n = 0 → s.fld d .CAN_CFG_SRST n = 0 →
      exec (.canBusoffRejoin d n) s = .next (s.canRejoin d n)) ∧
    (∀ r d n (a b : Word), Serves s r 0x0B10 (some d) → s.hasDie d = true → n < 4 → s.holder 0xC d n = r.dom → s.fld d .CAN_CFG_EN n ≠ 1 →
      exec (.canSet r d n a b) s = .next (s.replies r 0x0B10 (some d) (fun t => ((t.canBtr d n a.toNat).canDbtr d n b.toNat, [])))) ∧
    (∀ d n, s.hasDie d = true → n < 4 → s.blkUp d .UART (0x4000 * n) = true → s.fld d .UART_CFG_EN n = 1 →
      let char (c : Nat) : Nat := c % (if s.fld d .UART_CFG_BITS8 n = 1 then 256 else 128)
      (∀ c, (s.uart d n).de = false → (s.uart d n).rx.length < 64 →
        exec (.uartCharacter d n (.received c)) s = .next (s.setUart d n { s.uart d n with rx := (s.uart d n).rx ++ [char c] })) ∧
      (∀ c, (s.uart d n).tx.length < 64 → exec (.uartCharacter d n (.loaded c)) s = .next (s.setUart d n { s.uart d n with tx := (s.uart d n).tx ++ [c % 256] })) ∧
      (∀ c cs, (s.uart d n).tx = c :: cs → exec (.uartCharacter d n .startSending) s =
        .next ((s.setUart d n { s.uart d n with tx := cs, de := decide (s.fld d .UART_CFG_RS485 n = 1) }).send (.uart d n (char c)))) ∧
      ((s.uart d n).tx = [] → exec (.uartCharacter d n .stopSent) s = .next (s.setUart d n { s.uart d n with de := false }))) ∧
    (∀ r d n (cfg : Word), Serves s r 0x0B11 (some d) → s.hasDie d = true → n < 4 → s.holder 0xD d n = r.dom →
      exec (.uartSet r d n cfg) s = .next (s.replies r 0x0B11 (some d) (fun t => (t.uartCfg d n cfg.toNat, [])))) ∧
    (∀ d, s.hasDie d = true → d < 2 → s.blkUp d .MVB 0 = true →
      (∀ a bs t0, lookup? (s.mvb d).ports a = some (bs, t0) → exec (.mvbTelegram d (.processSent a)) s = .next (s.send (.mvb d bs))) ∧
      (∀ bs : List Byte, exec (.mvbTelegram d (.messageReceived bs)) s = .next ((s.retryEnds d 8).setMvb d { s.mvb d with inbox := (s.mvb d).inbox ++ [bs] })) ∧
      (∃ bs, exec (.mvbTelegram d .messageSent) s = .next ((s.fresh.2.retryEnds d 8).send (.mvb d bs))) ∧
      ((s.mvb d).role = 1 → ∀ take, exec (.mvbTelegram d (.mastership take)) s = .next (s.setMvb d { s.mvb d with isMaster := take }))) ∧
    (∀ r d role pair ms addr, Serves s r 0x0B12 (some d) → s.hasDie d = true → d < 2 → role < 2 → pair < 2 → (ms = 1 ∨ ms = 2) → addr < 4096 → s.holder 0xE d 0 = r.dom →
      ((s.mvb d).role ≠ 1 ∨ (s.mvb d).isMaster = false) → exec (.mvbSet r d role pair ms addr) s = .next (s.replies r 0x0B12 (some d) (fun t =>
        (t.setMvb d { t.mvb d with role := role, pair := pair, periodMs := ms, addr := addr }, [])))) ∧
    (∀ m cs fa ma n, s.refusal m 0 (blkBase .XSPI) = none → s.guardOk m = true → cs < 2 →
      (0 < n → n ≤ 4096 → fa + n ≤ 2 ^ 32 → s.memRefusal (ioMaster 0 9) ma n = none →
        exec (.xspiCommand m (.read cs fa ma n)) s =
          .next ((s.accepted.retryEnds 0 9).store (agentOf (ioMaster 0 9)) ma (s.flashBytes (cs * 2 ^ 32 + fa) n)) ∧
        (s.poisoned ma n = none → exec (.xspiCommand m (.program cs fa ma n)) s = .next (((s.accepted.retryEnds 0 9).wake ma n).putFlash (cs * 2 ^ 32 + fa)
          ((s.flashBytes (cs * 2 ^ 32 + fa) n).zipWith (fun x y => x &&& y) (s.seen ma n))))) ∧
      (fa + n ≤ 2 ^ 32 → exec (.xspiCommand m (.erase cs fa n)) s = .next (s.accepted.eraseFlash (cs * 2 ^ 32 + fa) n)))

/-- R399, R401, R403, R404, R410 to R412, R414, R415: the PCIe controllers, the links between dies, and the field bridge: its retries, semaphore, atomics and reads.
Choices of the model that it passes through: notes/assumptions 31, 62, 64. -/
def Obligations.BridgeRowsComplete : Prop :=
  ∀ s : State,
    (∀ c, s.hasDie c = true → c < 2 → exec (.pcieLinkTraining c none) s = .next (s.setPcieSt c { s.pcie c with link := none }) ∧
      (∀ w rate, s.pcieOn c = true → s.groupUp c 16 = true → 5 ≤ s.stepOf c → w ∈ [1, 2, 4, 8] → rate < 5 →
        exec (.pcieLinkTraining c (some (w, rate))) s = .next (s.setPcieSt c { s.pcie c with link := some (w, rate) }))) ∧
    (∀ c (u k : Word) (header : List Word), s.hasDie c = true → c < 2 → s.pcieUp c = true →
      ∃ v : State, exec (.pcieAerError c u k header) s = .next (v.raise .pcieAer c 0
          [(20, 1, c), (24, 4, Nat.lor (s.pcie c).uncorrectable u.toNat), (28, 4, Nat.lor (s.pcie c).correctable k.toNat)] [0]) ∧
        (v.pcie c).uncorrectable = Nat.lor (s.pcie c).uncorrectable u.toNat) ∧
    (∀ r c role width rate, Serves s r 0x0B20 (some c) → c < 2 → s.hasDie c = true → role < 2 → width < 4 → rate < 5 → s.manager r.dom = true → s.pcieUp c = false →
      exec (.pcieSet r c role width rate) s = .next (s.replies r 0x0B20 (some c) (fun t =>
        (t.setFlds c 0 [(.PCIE_CFG_ROLE, if c = 1 then role else s.fld c .PCIE_CFG_ROLE), (.PCIE_CFG_WIDTH, width), (.PCIE_CFG_RATE, rate)], [])))) ∧
    (∀ d link lanes, s.hasDie d = true → link < 3 → s.groupUp d 13 = true → s.fld d .MIRSIA_STATUS_DOWN link ≠ 1 →
      (∃ t, exec (.mirsiaRetrain d link true lanes) s = .next t ∧ lookupD t.ports.retrains (d, link) [] = []) ∧
      ∃ t, exec (.mirsiaRetrain d link false lanes) s = .next t ∧
        (((lookupD s.ports.retrains (d, link) []).filter (fun x => decide (s.now < x + 1000000))).length = 2 → t.fld d .MIRSIA_STATUS_DOWN link = 1)) ∧
    (∀ d e, s.hasDie d = true → e < 10 →
      (lookupD s.ports.retries (d, e) 0 < 64 → exec (.fbrHeadOnRetry d e) s =
        .next { s with ports.retries := insertKV s.ports.retries (d, e) (lookupD s.ports.retries (d, e) 0 + 1) }) ∧
      (64 ≤ lookupD s.ports.retries (d, e) 0 → ∃ t, exec (.fbrHeadOnRetry d e) s = .next t ∧ t.fld d .FBR_STATUS_LIVELOCK = 1 ∧
        t.fld d .FBR_LL_MASTER_MASTER = masterId (ioMaster d e) % 2 ^ 12)) ∧
    (∀ r d release, Serves s r 0x0B30 (some d) → s.hasDie d = true → release < 2 → (release = 1 → s.manager r.dom = true) →
      exec (.fbrQuery r d release) s = .next (s.replies r 0x0B30 (some d) (fun t => (if release = 1 then t.setFld d .FBR_STATUS_PWERR 0 0 else t,
        leBytes 4 (s.fbrStatus d) ++ leBytes 8 (s.fld d .FBR_ERR_ADDR_ADDR) ++
          leBytes 4 (s.fld d .FBR_ERR_INFO_CAUSE * 2 ^ 24 + s.fld d .FBR_ERR_INFO_BE * 2 ^ 16 + s.fld d .FBR_ERR_INFO_MASTER) ++
          leBytes 4 (s.fld d .FBR_ERR_OVERFLOW_COUNT) ++ leBytes 4 (s.fld d .FBR_LL_MASTER_MASTER))))) ∧
    (∀ (m : Master) a op d off blk o, decodeAddr s.part m.die a = .regs d off → atomicWide op = false → a % 4 = 0 → s.refusal m d off = none → blockAt d off = some (blk, o) →
      peripheral blk = true → exec (.fbrAtomicEmulation m a op) s = .next (s.semOp d m a off blk o op)) ∧
    (∀ (m : Master) a op d o, decodeAddr s.part m.die a = .dram d o ∨ decodeAddr s.part m.die a = .granary d o ∨ decodeAddr s.part m.die a = .loft d o →
      exec (.fbrAtomicEmulation m a op) s = .next (s.memAtomic m a op)) ∧
    (∀ d, s.hasDie d = true → s.fld d .FBR_SEM_HELD = 1 → exec (.fbrSemTimeout d) s = .next ((s.flag d .FBR_STATUS_SEM_TIMEOUT).semRelease d)) ∧
    (∀ m d (data : Word), WritesNow s m d .FBR 0x30 → s.guardOk m = true → bit data.toNat 30 = true →
      exec (.fbrSemReleaseWrite m d data) s = .next (s.accepted.semRelease d)) ∧
    (∀ d, s.hasDie d = true → exec (.fbrReadRelease d) s =
      .next (State.semNext d (s.runStalled (some d)).ports.semWaits.length (s.runStalled (some d))))

/-- R301 to R303, R401 to R403: a request that arrives over the link of a PCIe controller completes: through a BAR of a function that the controller presents, to memory, to
a register, to the MSI-X table or the PBA; at a root port through an inbound window; an atomic as Unsupported Request.
Choices of the model that it passes through: notes/assumptions 62. -/
def Obligations.PcieInboundRequestCompletes : Prop :=
  ∀ (s : State) (c : Nat), s.hasDie c = true → c < 2 → s.pcieUp c = true →
    exec (.pcieInboundRequest c .atomic) s = .next (s.complete c none) ∧
    (∀ fn bar o, s.pcieRoot c = false → s.presented c fn = true →
      let m := pcieMaster c (fnDom fn)
      (∀ a, s.barPlace fn bar o = .phys a → isMemory s.part a = true →
        (∀ n, n ≠ 0 → s.memRefusal m a n = none → s.poisoned a n = none →
          exec (.pcieInboundRequest c (.barRead fn bar o n)) s = .next ((s.wake a n).complete c (some (s.seen a n)))) ∧
        ∀ data : List Byte, data ≠ [] → s.memRefusal m a data.length = none →
          exec (.pcieInboundRequest c (.barWrite fn bar o data)) s = .next { s.store (agentOf m) a data with access := .done }) ∧
      (∀ d x off blk q, s.barPlace fn bar o = .window d x → decodeAddr s.part c (windowBase d + x) = .regs d off → sizeOk d off 4 = true → inApintc off = false →
        s.refusal m d off = none → blockAt d off = some (blk, q) →
        (s.readWaits m d off = false → exec (.pcieInboundRequest c (.barRead fn bar o 4)) s =
          .next (State.complete { (s.readWord m d blk q 0).2 with access := .value (s.readWord m d blk q 0).1 } c (some (leBytes 4 (s.readWord m d blk q 0).1)))) ∧
        ∀ data : List Byte, data.length = 4 → exec (.pcieInboundRequest c (.barWrite fn bar o data)) s =
          .next (s.writeOff m (windowBase d + x) d off 4 (BitVec.ofNat 32 (leNat data)))) ∧
      (∀ k, s.barPlace fn bar o = .msix k → k % 4 = 0 →
        exec (.pcieInboundRequest c (.barRead fn bar o 4)) s = .next (s.complete c (some (slice (msixBytes (s.msixEnt (fnDom fn) (k / 16))) (k % 16) 4))) ∧
        ∀ data : List Byte, data.length = 4 → exec (.pcieInboundRequest c (.barWrite fn bar o data)) s = .next (s.msixWrite (fnDom fn) k (leAt data 0 4))) ∧
      (∀ k, s.barPlace fn bar o = .pba k → k % 8 = 0 →
        exec (.pcieInboundRequest c (.barRead fn bar o 8)) s =
          .next (s.complete c (some (slice (leBytes 8 (maskOf 64 (fun v => decide ((fnDom fn, v) ∈ s.irq.pba)))) k 8))) ∧
        ∀ data : List Byte, exec (.pcieInboundRequest c (.barWrite fn bar o data)) s = .next s)) ∧
    (∀ b a, s.pcieRoot c = true → s.inbound c b = some a → isMemory s.part a = true →
      (∀ n, n ≠ 0 → s.memRefusal (pcieMaster c 0) a n = none → s.poisoned a n = none →
        exec (.pcieInboundRequest c (.busRead b n)) s = .next ((s.wake a n).complete c (some (s.seen a n)))) ∧
      ∀ data : List Byte, data ≠ [] → s.memRefusal (pcieMaster c 0) a data.length = none →
        exec (.pcieInboundRequest c (.busWrite b data)) s = .next { s.store (agentOf (pcieMaster c 0)) a data with access := .done }) ∧
    (∀ b n (data : List Byte), s.pcieRoot c = true → s.inbound c b = none → exec (.pcieInboundRequest c (.busRead b n)) s = .next (s.complete c none) ∧
      exec (.pcieInboundRequest c (.busWrite b data)) s = .next s)


/-- R427 to R429, R439: checkpoints of AP pairs, their self-tests, debug actions, and the messages of the checking units.
Choices of the model that it passes through: notes/assumptions 50, 65. -/
def Obligations.CheckingRowsComplete : Prop :=
  ∀ s : State,
    (∀ d p (lines : PairLines), s.hasDie d = true → p < 2 → s.pairActive d p = true → s.tripped d = false → (s.pairRun d p).testing = false →
      let agreed := (s.releaseLines d (2 * p) lines.main).setPair d p ⟨[], [], false, false, []⟩
      ((s.pairRun d p).second = false → exec (.apCheckpoint d p lines true) s = .next agreed) ∧
      ((s.pairRun d p).second = true → exec (.apCheckpoint d p lines true) s = .next ((agreed.countTransient d).pairEvent d p 0)) ∧
      ((s.pairRun d p).second = false → exec (.apCheckpoint d p lines false) s =
        .next ((s.setPair d p ⟨lines.main, lines.checker, true, false, (s.pairRun d p).log⟩).flag d .COMMIT_STATUS_MISMATCH)) ∧
      ((s.pairRun d p).second = true → exec (.apCheckpoint d p lines false) s = .next (s.pairLost d p 4))) ∧
    (∀ d p, s.hasDie d = true → p < 2 → s.tripped d = false → (s.pairRun d p).testing = true →
      exec (.apPairSelftestEnd d p true true) s = .next (s.setPair d p ⟨[], [], false, true, (s.pairRun d p).log⟩) ∧
      exec (.apPairSelftestEnd d p false false) s = .next (s.pairLost d p 3) ∧
      (∀ main : Bool,
        let survivor := if main then 2 * p else 2 * p + 1
        let lost := if main then 2 * p + 1 else 2 * p
        let kept := if main then (s.pairRun d p).lines else (s.pairRun d p).checkerLines
        exec (.apPairSelftestEnd d p main (!main)) s = .next (State.source (State.pairEvent (State.countPersistent (State.pairStops
          (((s.releaseLines d survivor kept).setPair d p ⟨[], [], false, false, []⟩).removeAp d lost) d p true) d) d p (if main then 2 else 1))
          { src := 11, die := d } []))) ∧
    (∀ d p (a : DebugAct), s.hasDie d = true → p < 2 → s.fld 0 .SEC_STATUS_DBG_AUTH = 1 → bit s.sec.dbgOpen 0 = true → s.pairActive d p = true →
      ((s.pairRun d p).log.length < 256 → exec (.debugAction d p a) s =
        .next { (s.setPair d p { s.pairRun d p with log := (s.pairRun d p).log ++ [a] }).releaseLines d (2 * p) a.writes with access := .done }) ∧
      (256 ≤ (s.pairRun d p).log.length → exec (.debugAction d p a) s = .next { s with access := .value 7 })) ∧
    (∀ r d, Serves s r 0x0750 none → s.hasDie d = true → exec (.chkQuery r d) s = .next (s.replies r 0x0750 none (fun t => (t,
      leBytes 8 (s.fld d .COMMIT_OUT_CORES) ++ leBytes 4 (s.fld d .COMMIT_COUNT_PERSISTENT * 2 ^ 16 + s.fld d .COMMIT_COUNT_TRANSIENT) ++
        leBytes 4 (s.fld d .COMMIT_SEG_OVERRUN_COUNT) ++ leBytes 4 (s.fld d .APPAIR_CFG_EN0 + 2 * s.fld d .APPAIR_CFG_EN1) ++
        leBytes 4 (s.fld d .APPAIR_STATUS_OUT * 16 + s.fld d .APPAIR_STATUS_DEGRADED * 4 + s.fld d .APPAIR_STATUS_ACTIVE) ++ leBytes 8 0)))) ∧
    (∀ r d i (passes : List Bool), Serves s r 0x0751 none → s.hasDie d = true → i < 48 → s.granted r.dom = true → 3 ≤ passes.length → (passes.take 3).all id = true →
      bit (s.fld d .COMMIT_OUT_CORES) i = true → exec (.chkRestore r d 0 i passes) s = .next (s.replies r 0x0751 none (fun t =>
        ((t.setFld d .COMMIT_OUT_CORES 0 (clearBit (s.fld d .COMMIT_OUT_CORES) i)).corePassed d i, [])))) ∧
    (∀ r d i (passes : List Bool), Serves s r 0x0751 none → s.hasDie d = true → i < 4 → s.granted r.dom = true → 3 ≤ passes.length → (passes.take 3).all id = true →
      bit (s.fld d .APPAIR_STATUS_OUT) i = true → exec (.chkRestore r d 1 i passes) s = .next (s.replies r 0x0751 none (fun t =>
        ({ t.setFld d .APPAIR_STATUS_OUT 0 (clearBit (s.fld d .APPAIR_STATUS_OUT) i) with
          boot.down := s.boot.down.filter (fun x => decide (x ≠ (d, i))) }, [])))) ∧
    (∀ r d p en, Serves s r 0x0752 none → s.hasDie d = true → p < 2 → en < 2 → s.granted r.dom = true →
      exec (.appairSet r d p en) s = .next (s.replies r 0x0752 none (fun t => (t.setFld d (if p = 0 then .APPAIR_CFG_EN0 else .APPAIR_CFG_EN1) 0 en, []))))

/-- R430 to R435, R437, R439, R441: the link to the mirror partner, its transfers, acknowledgements and heartbeats, and the messages of the pair.
Choices of the model that it passes through: notes/assumptions 26, 66, 107. -/
def Obligations.MirrorRowsComplete : Prop :=
  ∀ s : State,
    (∀ lanes code digest, (List.range 4).filter (bit lanes) ≠ [] → s.portEnabled = true → s.fld 0 .MIRROR_STATUS_ROLE = 0 → (s.pairCode ≠ 0 ∨ s.mirror.window = true) →
      (s.pairRole s.pairCode code digest ≠ 0 →
        ∃ t, exec (.mirrorPortTrained lanes code ⟨digest, true⟩) s = .next t ∧ t.mirror.partner = some (code, digest) ∧ t.fld 0 .MIRROR_STATUS_LINK_UP = 1 ∧
          t.fld 0 .MIRROR_STATUS_ROLE = s.pairRole s.pairCode code digest % 4) ∧
      ∃ t, exec (.mirrorPortTrained lanes code ⟨digest, false⟩) s = .next t ∧ t.fld 0 .MIRROR_STATUS_ROLE_ERR = 1 ∧ t.fld 0 .MIRROR_STATUS_ROLE = 0) ∧
    exec .pairDiscoveryWindowEnd s = .next { s with mirror.window := false } ∧
    (∀ l, l < 4 → l ∈ s.mirror.lanes → s.mirror.lanes.filter (fun x => decide (x ≠ l)) ≠ [] →
      ∃ t, exec (.mirrorLaneLoss l) s = .next t ∧ t.mirror.lanes = s.mirror.lanes.filter (fun x => decide (x ≠ l)) ∧
        t.fld 0 .MIRROR_STATUS_LINK_UP = s.fld 0 .MIRROR_STATUS_LINK_UP) ∧
    (∀ seq n records i t, s.fld 0 .MIRROR_STATUS_ROLE = 2 → s.fld 0 .MIRROR_STATUS_LINK_UP ≠ 0 → n ≤ 2048 → (∀ x ∈ records, x.kind ≠ 2) → s.mirror.expect = seq →
      s.mirrored (fnDom n) = some i → s.putRecs (fnDom n) records = some t →
      exec (.mirrorTransferRx seq n records) s =
        .next ((({ t with mirror.expect := seq + 1 } : State).setFlds 0 0 [(.MIRROR_SEQ_SEQ, seq), (.MIRROR_ACK_SEQ, seq)]).send (.transfer seq n []))) ∧
    (∀ seq, s.fld 0 .MIRROR_STATUS_ROLE = 1 → ∃ t, exec (.mirrorAckRx seq) s = .next t ∧ t.fld 0 .MIRROR_ACK_SEQ = seq % 2 ^ 64 ∧
      t.mirror.queue = s.mirror.queue.filter (fun x => decide (seq < x.1)) ∧ t.mirror.initial = s.mirror.initial.filter (fun x => decide (seq < x.2.1))) ∧
    (s.fld 0 .MIRROR_STATUS_ROLE = 0 → exec .heartbeatSend s = .next { s with clk.noticeDue := false }) ∧
    (∀ role, s.fld 0 .MIRROR_STATUS_ROLE = role → role ≠ 0 → s.clk.noticeDue = false → s.fld 0 .MIRROR_STATUS_LINK_UP = 1 → s.fld 0 .MIRROR_CFG_ALT_EN ≠ 1 →
      ∃ t, exec .heartbeatSend s = .next t ∧ t.mirror.sent = (s.mirror.sent + 1) % 2 ^ 32 ∧ t.out = s.out ++ [.heartbeat false
        ⟨role, (s.mirror.sent + 1) % 2 ^ 32, s.fld 0 .MIRROR_SEQ_SEQ, s.now, false, s.isSafe, s.handoverReady, decide (s.fld 0 .MIRROR_STATUS_UNSYNC = 1)⟩]) ∧
    (∀ h : Heartbeat, s.fld 0 .MIRROR_STATUS_ROLE = 2 → s.fld 0 .MIRROR_STATUS_LINK_UP ≠ 0 → h.safeState = false →
      ∃ u : State, u.mirror.heard = some h ∧ u.mirror.misses = 0 ∧ u.fld 0 .MIRROR_STATUS_UNSYNC = b2n h.unsync ∧
        exec (.heartbeatRx false h) s = .next (if h.clkFail = true then u.takeover 1 else if h.handover = true then u.takeover 2 else u)) ∧
    (s.fld 0 .MIRROR_STATUS_ROLE ≠ 0 → s.mirror.misses = 0 → ∃ t, exec (.heartbeatMissed false) s = .next t ∧ t.mirror.misses = 1) ∧
    (s.fld 0 .MIRROR_STATUS_ROLE = 2 → s.mirror.misses = 1 → s.fld 0 .MIRROR_CFG_ALT_EN ≠ 1 →
      ∃ u : State, u.fld 0 .MIRROR_STATUS_HB_LOST = 1 ∧ u.mirror.misses = 2 ∧ exec (.heartbeatMissed false) s = .next (u.takeover 0)) ∧
    (∀ r en role alt port mac, Serves s r 0x0760 none → en < 2 → role < 3 → alt < 2 → port < 8 * s.part.dies → port % 8 ≠ 7 → s.pairRefusal r = none →
      s.fld 0 .MIRROR_STATUS_HANDOVER ≠ 1 → exec (.pairSet r en role alt port mac) s = .next (s.replies r 0x0760 none (fun t =>
        ({ t.setFlds 0 0 [(.MIRROR_CFG_EN, en), (.MIRROR_CFG_ROLE_REQ, role), (.MIRROR_CFG_ALT_EN, alt), (.MIRROR_CFG_ALT_PORT, port)] with
          mirror.altMac := mac }, [])))) ∧
    (∀ r n i, Serves s r 0x0761 none → n ≤ 2048 → s.pairRefusal r = none →
      (List.range 64).find? (fun i => decide (s.fld 0 .MIRROR_FN_EN i = 1) && decide (s.fld 0 .MIRROR_FN_FUNCTION i = n)) = some i →
      exec (.pairMirror r n 0) s = .next (s.replies r 0x0761 none (fun t =>
        ((t.dropImages .conflict (fun f => decide (f = n))).setFlds 0 i [(.MIRROR_FN_EN, 0), (.MIRROR_FN_SYNCED, 0)], [])))) ∧
    (∀ r n i, Serves s r 0x0761 none → n ≤ 2048 → s.pairRefusal r = none → s.pairUp = true →
      (List.range 64).find? (fun i => decide (s.fld 0 .MIRROR_FN_EN i = 1) && decide (s.fld 0 .MIRROR_FN_FUNCTION i = n)) = none →
      (List.range 64).find? (fun i => decide (s.fld 0 .MIRROR_FN_EN i = 0)) = some i →
      exec (.pairMirror r n 1) s = .next (s.defers r 0x0761 none (fun t => (t.setFlds 0 i [(.MIRROR_FN_EN, 1), (.MIRROR_FN_FUNCTION, n)]).sendImage i [r]))) ∧
    (∀ r, Serves s r 0x0762 none → s.pairRefusal r = none → s.fld 0 .MIRROR_STATUS_UNSYNC ≠ 1 → s.fn.freezes = [] → s.fw.activation = none → s.mirror.handover = none →
      s.pairUp = true → exec (.pairHandover r) s = .next (s.defers r 0x0762 none (fun t =>
        s.mirroredFns.foldl (fun u f => u.beginFreeze f [] true) (({ t with mirror.handover := some (some r) } : State).flag 0 .MIRROR_STATUS_HANDOVER)))) ∧
    (∀ r, Serves s r 0x0763 none → s.hasFeature r 13 = true → exec (.pairQuery r) s = .next (s.replies r 0x0763 none (fun t => (t,
      leBytes 4 (s.fld 0 .MIRROR_STATUS_LANES * 2 ^ 8 + s.fld 0 .MIRROR_STATUS_ROLE_ERR * 2 ^ 7 + s.fld 0 .MIRROR_STATUS_UNSYNC * 2 ^ 6 +
          s.fld 0 .MIRROR_STATUS_HANDOVER * 2 ^ 5 + s.fld 0 .MIRROR_STATUS_ALT_OK * 2 ^ 4 + s.fld 0 .MIRROR_STATUS_LINK_UP * 2 ^ 3 +
          s.fld 0 .MIRROR_STATUS_ROLE * 2 + s.fld 0 .MIRROR_STATUS_HB_LOST) ++
        leBytes 8 (s.fld 0 .MIRROR_SEQ_SEQ) ++ leBytes 8 (s.fld 0 .MIRROR_ACK_SEQ) ++ leBytes 4 (s.fld 0 .MIRROR_LAG_COUNT) ++
        leBytes 4 (s.fld 0 .MIRROR_HB_MISS_COUNT) ++ leBytes 4 0)))) ∧
    (∀ m i (data : Word), i < 64 → WritesNow s m 0 .MIRROR (0x100 + 4 * i) → s.guardOk m = true → s.fld 0 .MIRROR_FN_EN i = 0 → bits data.toNat 11 0 ≤ 2048 →
      bits data.toNat 31 31 = 1 → s.pairUp = true → exec (.mirrorFnWrite m i data) s =
        .next ((s.accepted.setFlds 0 i [(.MIRROR_FN_FUNCTION, bits data.toNat 11 0), (.MIRROR_FN_EN, 1)]).sendImage i []))

/-- R443, R446 to R448, R450, R455, R457 to R460, R463, R464: the confirmation and silence timers, the safety registers, the Gleaner, checker rotation, and the messages
of the safety group.
Choices of the model that it passes through: notes/assumptions 26, 67, 68, 77, 108. -/
def Obligations.SafetyRowsComplete : Prop :=
  ∀ s : State,
    (s.fld 0 .SAFE_STATUS_SEC_OK ≠ 0 → exec .secConfirmLapse s =
      .next (State.source (({ s with safe.chan1 := false } : State).setFld 0 .SAFE_STATUS_SEC_OK 0 0) { src := 12, die := 0 } [])) ∧
    (∀ d k, s.hasDie d = true → k < 16 → s.fld 0 .SAFE_CTRL_ARM = 1 → s.fld d .SAFE_SILO_CFG_EN k = 1 → k ∈ s.classSSilos d → (d, k) ∉ s.safe.silent →
      (s.fld 0 .SAFE_CTRL_FTTI_MS - 2) * 1000000 ≤ s.now - max s.safe.armTime (s.silo d k).lastFinal →
      exec (.silenceTimeout d k) s = .next (({ s with safe.silent := s.safe.silent ++ [(d, k)] } : State).source { src := 5, die := d, silo := some k } [(d, k)])) ∧
    (∀ m (data : Word), WritesNow s m 0 .SCH 0x90010 → s.guardOk m = true →
      (bits data.toNat 30 30 = 0 → bits data.toNat 25 16 = s.fld 0 .SAFE_CTRL_FTTI_MS → s.fld 0 .SAFE_CTRL_ARM ≠ bits data.toNat 31 31 →
        s.otherHolds m 1 0 372 = false → s.otherHolds m 1 0 374 = false →
        exec (.safeCtrlArmWrite m 0 data) s = .next (s.accepted.setArm (bits data.toNat 31 31))) ∧
      (bits data.toNat 30 30 = 0 → bits data.toNat 31 31 = s.fld 0 .SAFE_CTRL_ARM → s.fld 0 .SAFE_CTRL_ARM ≠ 1 → 20 ≤ bits data.toNat 25 16 →
        bits data.toNat 25 16 ≤ 500 → bits data.toNat 25 16 ≠ s.fld 0 .SAFE_CTRL_FTTI_MS →
        exec (.safeCtrlArmWrite m 0 data) s = .next (s.accepted.setFld 0 .SAFE_CTRL_FTTI_MS 0 (bits data.toNat 25 16))) ∧
      (bits data.toNat 30 30 = 1 → bits data.toNat 25 16 = s.fld 0 .SAFE_CTRL_FTTI_MS → bits data.toNat 31 31 = s.fld 0 .SAFE_CTRL_ARM → ∀ same,
        exec (.safeCtrlClearWrite m 0 data same) s = .next (s.accepted.safeClear same).2)) ∧
    (∀ m (data : Word), WritesNow s m 0 .SCH 0x90014 → s.guardOk m = true →
      (reactRaise data.toNat = data.toNat → exec (.safeReactWrite m 0 data) s = .next (s.accepted.setFld 0 .SAFE_REACT_ACT 0 data.toNat)) ∧
      (reactRaise data.toNat ≠ data.toNat → exec (.safeReactWrite m 0 data) s =
        .next ((s.accepted.flag 0 .SAFE_STATUS_BADCFG).setFld 0 .SAFE_REACT_ACT 0 (reactRaise data.toNat)))) ∧
    (∀ d cl c rest, s.hasDie d = true → cl < 6 → s.fld d .GLN_CTRL_EN cl ≠ 0 → s.fwRuns d = true → (d, 4 + cl) ∉ s.boot.down → s.tripped d = false →
      (∀ c ∈ rangeFrom (8 * cl) 8, s.fld d .GLN_CORE_TESTING c = 0) →
      sortBy (fun a b => decide (s.coverageAge d b ≤ s.coverageAge d a)) ((rangeFrom (8 * cl) 8).filter (s.testable d)) = c :: rest →
      exec (.gleanerTestStart d cl) s = .next (((((s.onCore d c).foldl (fun (t : State) e => t.kill d e.1 true) s)).flag d .GLN_CORE_TESTING c).setFld d
        .GLN_CTRL_TESTING cl (c % 8))) ∧
    (∀ d c, s.hasDie d = true → c < 48 → s.fld d .GLN_CORE_TESTING c ≠ 0 → s.tripped d = false →
      exec (.gleanerTestEnd d c 0) s = .next ((s.setFld d .GLN_CORE_TESTING c 0).corePassed d c) ∧
      ∀ n, n ≠ 0 → ∃ u : State, u.fld d .GLN_CORE_FAILED c = 1 ∧ u.fld d .GLN_CORE_TESTING c = 0 ∧
        u.fld d .COMMIT_OUT_CORES = setBit (s.fld d .COMMIT_OUT_CORES) c % 2 ^ 48 ∧
        exec (.gleanerTestEnd d c n) s = .next (u.source { src := 10, die := d } (s.classSWith d c))) ∧
    (∀ d c, s.hasDie d = true → c < 48 → 50000000 ≤ s.coverageAge d c → bit (s.fld d .COMMIT_OUT_CORES) c = false → s.fwRuns d = true →
      (s.fld d .GLN_CORE_LAPSE c = 0 → ∃ t, exec (.coveragePeriodEnd d c) s = .next t ∧ t.fld d .GLN_CORE_LAPSE c = 1) ∧
      (s.fld d .GLN_CORE_LAPSE c ≠ 0 → ∃ u : State, u.fld d .GLN_CORE_S_EXCLUDED c = 1 ∧
        exec (.coveragePeriodEnd d c) s = .next (u.source { src := 9, die := d } (s.classSWith d c)))) ∧
    (∀ d o, s.hasDie d = true → s.fwRuns d = true → lookupD s.safe.slot d 0 < s.fld d .CHKROT_STATUS_UNITS →
      ∃ u : State, lookupD u.safe.slot d 0 = (lookupD s.safe.slot d 0 + 1) % 40 ∧ exec (.checkerRotationSlot d o) s = .next (u.checkerOutcome d (lookupD s.safe.slot d 0) o)) ∧
    (∀ d o x, s.hasDie d = true → s.safe.retry.find? (fun x => decide (x.1 = d)) = some x → exec (.checkerTestRetry d o) s = .next (s.checkerOutcome d x.2 o)) ∧
    (∀ r ftti (react : Word), Serves s r 0x0700 none → 20 ≤ ftti → ftti ≤ 500 → reactRaise react.toNat = react.toNat → s.granted r.dom = true →
      (s.fld 0 .SAFE_CTRL_ARM ≠ 1 → exec (.safeCfg r ftti react) s = .next (s.replies r 0x0700 none (fun t =>
        ((t.setFld 0 .SAFE_CTRL_FTTI_MS 0 ftti).setFld 0 .SAFE_REACT_ACT 0 react.toNat, [])))) ∧
      (s.fld 0 .SAFE_CTRL_ARM = 1 → exec (.safeCfg r ftti react) s = .next (s.refuses r 0x0700 none .busy))) ∧
    (∀ r en, Serves s r 0x0701 none → en < 2 →
      (s.holder 1 0 372 = r.dom → s.holder 1 0 374 = r.dom → exec (.safeArm r en) s = .next (s.replies r 0x0701 none (fun t => (t.setArm en, [])))) ∧
      (s.holder 1 0 372 ≠ r.dom ∨ s.holder 1 0 374 ≠ r.dom → exec (.safeArm r en) s = .next (s.refuses r 0x0701 none .safetyLocked))) ∧
    (∀ r t, Serves s r 0x0702 none → s.classSSender r = true → (s.handling r 0x0702).safeClear none = (none, t) →
      exec (.safeClear r none) s = .next (t.answered r 0x0702 none (some (.ok, [])))) ∧
    (∀ r, Serves s r 0x0703 none → exec (.safeQuery r) s = .next (s.replies r 0x0703 none (fun t => (t.useFree,
      leBytes 4 s.safeStatus ++ leBytes 4 (s.fld 0 .SAFE_CTRL_ARM * 2 ^ 31 + s.fld 0 .SAFE_CTRL_FTTI_MS * 2 ^ 16) ++ leBytes 4 (s.fld 0 .SAFE_REACT_ACT) ++
        leBytes 4 s.safeCause ++ leBytes 8 (s.fld 0 .SAFE_TIME_TIME) ++ leBytes 8 0)))) ∧
    (∀ r d k cfg (str : Word), Serves s r 0x0710 none → s.hasDie d = true → k < 16 → cfg < 65536 → bits cfg 14 12 = 0 → bits cfg 3 0 = 0 → bits str.toNat 23 16 = 0 →
      bits str.toNat 7 0 = 0 → s.classSSender r = true → s.holder 2 d k ≠ noDom → s.claimClass 2 d k = 0 →
      exec (.safeSiloSet r d k cfg str) s = .next (s.replies r 0x0710 none (fun t => (t.setFlds d k [(.SAFE_SILO_CFG_EN, bits cfg 15 15),
        (.SAFE_SILO_CFG_TOL, bits cfg 11 8), (.SAFE_SILO_CFG_ODO, bits cfg 7 4), (.SAFE_SILO_STR_EN1, bits str.toNat 31 31),
        (.SAFE_SILO_STR_STREAM1, bits str.toNat 30 24), (.SAFE_SILO_STR_EN0, bits str.toNat 15 15), (.SAFE_SILO_STR_STREAM0, bits str.toNat 14 8)], [])))) ∧
    (∀ r (c : SafeStreamCfg), Serves s r 0x0711 none → c.entry < 16 → s.hasDie c.die = true → c.silo < 16 → c.offset % 2 = 0 → c.offset ≤ 1484 → c.handle < 65536 →
      s.granted r.dom = true → (c.en = true → 64 ≤ c.template.length ∧ c.template.length ≤ 1522 ∧ c.offset + 32 ≤ c.template.length ∧ s.holder 2 c.die c.silo ≠ noDom ∧
        s.claimClass 2 c.die c.silo = 0) →
      exec (.safeStreamSet r c) s = .next (s.replies r 0x0711 none (fun t => ({ t.setFlds 0 c.entry [(.SAFE_STREAM_0_EN, b2n c.en), (.SAFE_STREAM_0_DIE, c.die),
        (.SAFE_STREAM_0_SILO, c.silo), (.SAFE_STREAM_0_HANDLE, c.handle), (.SAFE_STREAM_1_OFFSET, c.offset)] with
          safe.templates := insertKV s.safe.templates c.entry c.template }, [])))) ∧
    (∀ r d cl, Serves s r 0x0720 none → s.hasDie d = true → cl < 6 → exec (.glnQuery r d cl) s = .next (s.replies r 0x0720 none (fun t => (t,
      leBytes 4 (s.fld d .GLN_CTRL_EN cl * 2 ^ 31 + s.fld d .GLN_CTRL_TESTING cl) ++ ((rangeFrom (8 * cl) 8).map (fun c => leBytes 4 (s.fld d .GLN_CORE_KILLS c * 2 ^ 20 +
        s.fld d .GLN_CORE_FAILED c * 2 ^ 19 + s.fld d .GLN_CORE_S_EXCLUDED c * 2 ^ 18 + s.fld d .GLN_CORE_LAPSE c * 2 ^ 17 + s.fld d .GLN_CORE_TESTING c * 2 ^ 16 +
          s.coreAge d c))).flatten)))) ∧
    (∀ r d, Serves s r 0x0721 none → s.hasDie d = true → exec (.chkrotQuery r d) s = .next (s.replies r 0x0721 none (fun t => (t,
      leBytes 4 (s.fld d .CHKROT_STATUS_NEXT * 2 ^ 16 + s.fld d .CHKROT_STATUS_UNITS * 2 ^ 8 + s.fld d .CHKROT_STATUS_LAPSE * 2 + s.fld d .CHKROT_STATUS_FAIL) ++
        leBytes 8 (s.fld d .CHKROT_FAILED_ORDER)))))

/-- R33, R469, R475, R477 to R480, R482, R484, R485: attestation, certificates, measurements, guarded grants, fuses, keys, the boot image in chunks, and debug authentication.
Choices of the model that it passes through: notes/assumptions 11, 12, 13, 69, 110. -/
def Obligations.SecurityRowsComplete : Prop :=
  ∀ s : State, ∀ r : Req,
    (∀ (nonce : List Byte) mask, Serves s r 0x0900 none → mask < 2 ^ 16 → popCount 16 mask ≠ 0 → popCount 16 mask ≤ 8 →
      exec (.attest r nonce mask) s = .next (s.replies r 0x0900 none (fun t => (t, s.report nonce mask)))) ∧
    (∀ chain offset, Serves s r 0x0901 none → chain < 2 → exec (.certRead r chain offset) s = .next (s.replies r 0x0901 none (fun t =>
      (t, s.flashBytes (0x8000 + (Config.certPlace chain).1 + offset) (min 4080 ((Config.certPlace chain).2 - offset)))))) ∧
    (∀ i (digest : List Byte), Serves s r 0x0902 none → 8 ≤ i → i < 16 → s.manager r.dom = true → exec (.mrExtend r i digest) s =
      .next (s.replies r 0x0902 none (fun t =>
        let u := t.extend i (BitVec.ofNat 384 (leNat (slice digest 0 48)))
        (u, leBytes 48 (lookupD u.sec.mr i 0).toNat)))) ∧
    (∀ dom, s.isDomain dom = true → (r.dom = 0 ∨ r.dom = fwDom) →
      (Serves s r 0x0903 none → exec (.guardGrant r dom) s = .next (s.replies r 0x0903 none (fun t =>
        ({ t with mail.grants := if dom ∈ s.mail.grants then s.mail.grants else s.mail.grants ++ [dom] }, [])))) ∧
      (Serves s r 0x0904 none → exec (.guardRevoke r dom) s = .next (s.replies r 0x0904 none (fun t =>
        ({ t with mail.grants := s.mail.grants.filter (fun x => decide (x ≠ dom)) }, []))))) ∧
    (∀ w (value mask : Word), Serves s r 0x0905 none → (r.dom = 0 ∨ r.dom = fwDom) →
      (∀ t, (s.handling r 0x0905).programWord 0 w value.toNat mask.toNat = some t →
        exec (.fuseProgram r w value mask) s = .next (t.answered r 0x0905 none (some (.ok, [])))) ∧
      ((s.handling r 0x0905).programWord 0 w value.toNat mask.toNat = none → exec (.fuseProgram r w value mask) s = .next (s.refuses r 0x0905 none .denied))) ∧
    (∀ b target, Serves s r 0x0906 none → (r.dom = 0 ∨ r.dom = fwDom) → s.fw.bundle = some b → target ≤ b.svn → s.svnCount ≤ target →
      exec (.svnAdvance r target) s = .next (s.replies r 0x0906 none (fun t => ({ t with sec.svn := svnTo 64 s.sec.svn target }, [])))) ∧
    (∀ target, Serves s r 0x0907 none → (r.dom = 0 ∨ r.dom = fwDom) → target = (if s.sec.lcFuse = 0 then 1 else if s.sec.lcFuse = 1 then 3 else 4) →
      exec (.lcAdvance r target) s = .next (s.replies r 0x0907 none (fun t => ({ t with sec.lcFuse := target }, [])))) ∧
    (∀ slot, Serves s r 0x0908 none → slot < 4 → (r.dom = 0 ∨ r.dom = fwDom) → (s.sec.keys.filter (fun k => k.usable 0)).length ≠ 1 →
      exec (.keyRevoke r slot) s = .next (s.replies r 0x0908 none (fun t =>
        ({ t with sec.keys := s.sec.keys.set slot { s.keySlot slot with revoked := true } }, [])))) ∧
    (∀ offset total (data : List Byte), Serves s r 0x0910 none → r.dom = 0x2000 → s.fld 0 .RST_STATUS_BOOTSEL_EFF = 3 → s.stepOf 0 < 7 → offset = s.boot.chunks.length →
      data.length % 16 = 0 → data.length ≤ 4064 → offset + data.length ≤ total → total ≤ 0x1000000 → total ≠ 0 → (offset ≠ 0 → s.boot.chunkTotal = some total) →
      offset + data.length < total →
      exec (.bootChunk r offset total data) s = .next (s.replies r 0x0910 none (fun t =>
        ({ t with boot.chunks := s.boot.chunks ++ data, boot.chunkTotal := some total }, [])))) ∧
    (∀ m d (data : Word), WritesNow s m d .SEC 0x28 → s.guardOk m = true → bits data.toNat 31 31 = 1 → s.fld d .SEC_FUSE_CTRL_ACTIVE ≠ 1 →
      let w := s.fld d .SEC_FUSE_ADDR_WORD
      let v := s.fld d .SEC_FUSE_DATA_VALUE
      (s.accepted.programWord d w v v ≠ none → exec (.secFuseCtrlGo m d data) s =
        .next (({ s.accepted with sec.fusing := s.sec.fusing ++ [(d, w, v)] } : State).flag d .SEC_FUSE_CTRL_ACTIVE)) ∧
      (s.accepted.programWord d w v v = none → exec (.secFuseCtrlGo m d data) s = .next (s.accepted.flag d .SEC_FUSE_CTRL_REFUSED))) ∧
    (s.sec.lc ≠ 0 → (∃ t, exec (.authdataWrite .dmactiveOff) s = .next t ∧ t.sec.dbg = none ∧ t.sec.dbgOpen = 0) ∧
      (∀ w : Word, s.sec.dbg = none → ∃ t x, exec (.authdataWrite (.authdata w)) s = .next t ∧ t.sec.dbg = some x ∧ x.word = w.toNat ∧ x.words = []) ∧
      (∀ (w : Word) x, s.sec.dbg = some x → x.words.length < 843 →
        exec (.authdataWrite (.authdata w)) s = .next { s with sec.dbg := some { x with words := x.words ++ [w.toNat] } }))

/-- R497, R500, R502: the hourly record of the Tithe, the end of its write and of its erase, and its messages.
Choices of the model that it passes through: notes/assumptions 63, 71. -/
def Obligations.TitheRowsComplete : Prop :=
  ∀ s : State,
    (∀ reason, s.tithe.writing = some reason → reason ≠ 2 → s.tithe.flushReq = none →
      (∃ t, exec (.titheWriteEnd true) s = .next t ∧ t.tithe.writing = none ∧ t.fld 0 .TITHE_STATUS_ERASING = 1 ∧ t.fld 0 .TITHE_SEQ_SEQ = s.tithe.seq % 2 ^ 32 ∧
        t.flash = (s.putFlash (titheBase s.titheInto) s.tithe.image).flash) ∧
      ∃ t, exec (.titheWriteEnd false) s = .next t ∧ t.tithe.writing = none ∧ t.fld 0 .TITHE_STATUS_WRITE_ERR = 1) ∧
    (s.fld 0 .TITHE_STATUS_ERASING = 1 → exec .titheEraseEnd s =
      .next ((s.eraseFlash (titheBase (1 - s.fld 0 .TITHE_STATUS_BANK)) 0x4000).setFld 0 .TITHE_STATUS_ERASING 0 0)) ∧
    (8 ≤ s.stepOf 0 → exec .titheHourlyWrite s = .next (s.titheStart 0 none)) ∧
    (∀ r offset, Serves s r 0x0840 (some 0) → offset < (s.titheRecord 0 (s.fld 0 .TITHE_SEQ_SEQ)).length →
      exec (.titheRead r offset) s = .next (s.replies r 0x0840 (some 0) (fun t => (t, ((s.titheRecord 0 (s.fld 0 .TITHE_SEQ_SEQ)).drop offset).take 4080)))) ∧
    (∀ r, Serves s r 0x0841 (some 0) → s.manager r.dom = true →
      (s.titheBusy = false → exec (.titheFlush r) s = .next (s.defers r 0x0841 (some 0) (fun t => t.titheStart 3 (some r)))) ∧
      (s.titheBusy = true → exec (.titheFlush r) s = .next (s.refuses r 0x0841 (some 0) .busy)))

/-- A step takes the command at the front of the queue and has its effect on the state with the rest of the queue. -/
def Obligations.StepRunsFront : Prop :=
  ∀ (c : Instr) (rest : List Instr) (s : State), step { s with pending := c :: rest } = exec c { s with pending := rest }

/-- The model's choice (notes/assumptions/2, 8, 110): on an empty queue a step lets one TREF_PLL cycle pass, in which a write of the option store and the programming of
fuses that are in progress complete. -/
def Obligations.IdleStepTicks : Prop :=
  ∀ s : State, s.pending = [] → step s = .next s.idle ∧ s.idle.pending = [] ∧ s.idle.boot.optWrite = none ∧ s.idle.sec.fusing = []

/-- Reset leaves the memories in their canonical form, nothing written in them, and no command waiting. -/
def Obligations.ResetIsCanonical : Prop :=
  Canonical State.reset ∧ State.reset.pending = [] ∧ State.reset.mem = [] ∧ State.reset.flash = []

/-- The memories keep their canonical form: addresses strictly rising and no entry equal to what an unlisted address reads as. -/
def Obligations.StepKeepsCanonical : Prop :=
  ∀ s t : State, Canonical s → step s = .next t → Canonical t

/-- The frame of every row over the register fields: a row changes no field, at any die and index, but those that rowFields names for it. -/
def Obligations.RowsKeepRegisters : Prop :=
  ∀ (i : Instr) (s t : State), exec i s = .next t → ∀ f, mayChange i f = false → ∀ d n, t.fld d f n = s.fld d f n

/-- The frame of every row over the rest of the state: a row changes no component but those that rowParts names for it, never the part number and never the
queue. Where memory is not named, no byte of it changes; where flash is not named, no byte of flash does. -/
def Obligations.RowsKeepParts : Prop :=
  ∀ (i : Instr) (s t : State), exec i s = .next t →
    t.part = s.part ∧ t.pending = s.pending ∧ (∀ p : Component, p ∉ rowParts i → p.same s t) ∧
    (.memory ∉ rowParts i → ∀ a, t.byte a = s.byte a) ∧ (.flash ∉ rowParts i → ∀ a, t.flashByte a = s.flashByte a)

/-- The frame of the compute rows in memory: outside the bytes that the job of the command standing in the slot writes to its output and its scratch, every byte
keeps its value (R153, R170, R186 to R232, R260 to R264, R283). -/
def Obligations.ComputeRowsStore : Prop :=
  ∀ (i : Instr) (s t : State) l a, Canonical s → computeStores i s = some l → exec i s = .next t → inRanges l a = false → t.byte a = s.byte a

/-- The frame of the raster rows in memory: outside the images and the spill buffer that the job of the command writes, every byte keeps its value (R320 to R330). -/
def Obligations.RasterRowsStore : Prop :=
  ∀ (i : Instr) (s t : State) l a, Canonical s → rasterRowStores i s = some l → exec i s = .next t → inRanges l a = false → t.byte a = s.byte a

/-- The frame of the requests that write the KV table, a region of a Loft, an accounting buffer or the image of a function: every byte outside it keeps its value (R141,
R270, R297, R312). What firmware keeps in memory is shown as bytes and is no byte of it that a request writes (notes/assumptions/93). -/
def Obligations.MessageRowsStore : Prop :=
  ∀ (i : Instr) (s t : State) l a, Canonical s → messageStores i s = some l → exec i s = .next t → inRanges l a = false → t.byte a = s.byte a

/-- The frame of the accesses to memory and of the doorbells: every byte outside those that the access names, the ring it serves or the regions it maps keeps its value
(R90, R91, R110, R141, R274, R276, R402, R405, R412). -/
def Obligations.AccessRowsStore : Prop :=
  ∀ (i : Instr) (s t : State) l a, Canonical s → accessStores i s = some l → exec i s = .next t → inRanges l a = false → t.byte a = s.byte a

/-- The frame of the start-up steps, of a copy of a buffer with the accounting of a guarantee it breaks, of a checked pair of APs and of a transmission in memory (R67, R73,
R154, R295, R395, R427 to R429). -/
def Obligations.SystemRowsStore : Prop :=
  ∀ (i : Instr) (s t : State) l a, Canonical s → systemStores i s = some l → exec i s = .next t → inRanges l a = false → t.byte a = s.byte a

/-- The frame of every row in flash: a bank of options, a firmware slot, a bank of the Tithe or the range of an xSPI command, and no other byte (R84, R135, R405, R500). -/
def Obligations.FlashRowsStore : Prop :=
  ∀ (i : Instr) (s t : State) a, Canonical s → exec i s = .next t → inRanges (flashStores i s) a = false → t.flashByte a = s.flashByte a

/-- R378: an edge that a capture input takes replaces the stamp and sets VALID, and sets OVERRUN where VALID was set; the other inputs keep what they hold. -/
def Obligations.CaptureKeepsLatestStamp : Prop :=
  ∀ (s : State) d n rising, s.hasDie d = true → n < 32 → s.fld d .TSCAP_CFG_EN n = 1 → s.fld d .PINCFG_FUNC (gpioPin n) = 2 →
    (s.fld d .TSCAP_CFG_EDGE n = 2 ∨ s.fld d .TSCAP_CFG_EDGE n = if rising then 0 else 1) →
    ∃ t, exec (.tscapEdge d n rising) s = .next t ∧ t.fld d .TSCAP_STAMP_TIME n = s.tbNs (s.fld d .TSCAP_CFG_TB n) % 2 ^ 64 ∧
      t.fld d .TSCAP_STATUS_VALID n = 1 ∧ (s.fld d .TSCAP_STATUS_VALID n = 1 → t.fld d .TSCAP_STATUS_OVERRUN n = 1) ∧
      (s.fld d .TSCAP_STATUS_VALID n ≠ 1 → t.fld d .TSCAP_STATUS_OVERRUN n = s.fld d .TSCAP_STATUS_OVERRUN n) ∧
      (∀ k, k ≠ n → t.fld d .TSCAP_STAMP_TIME k = s.fld d .TSCAP_STAMP_TIME k ∧ t.fld d .TSCAP_STATUS_VALID k = s.fld d .TSCAP_STATUS_VALID k ∧
        t.fld d .TSCAP_STATUS_OVERRUN k = s.fld d .TSCAP_STATUS_OVERRUN k)

/-- R80: which bank of options the load uses. With both banks valid, bank 1 is used where it is later, else bank 0; one valid bank is used; with none, no options are
loaded, OPT_INVALID sets and the effective code is 0. OPT_BANK records the bank used. -/
def Obligations.OptionBankChosen : Prop :=
  ∀ s : State, s.allAt 5 = true → s.boot.pkg = true → s.fld 0 .RST_STATUS_OPT_ABORTS ≠ 3 →
    ∃ t, exec .optionLoadEnd s = .next t ∧
      (bankValid (s.optBank 0) = true → bankValid (s.optBank 1) = true →
        let d := (bankSeq (s.optBank 1) + 2 ^ 32 - bankSeq (s.optBank 0)) % 2 ^ 32
        (1 ≤ d ∧ d ≤ 2 ^ 31 - 1 → t.fld 0 .RST_STATUS_OPT_BANK = 1 ∧ t.boot.options = some (slice (s.optBank 1) 0x10 256)) ∧
        (¬ (1 ≤ d ∧ d ≤ 2 ^ 31 - 1) → t.fld 0 .RST_STATUS_OPT_BANK = 0 ∧ t.boot.options = some (slice (s.optBank 0) 0x10 256))) ∧
      (bankValid (s.optBank 0) = true → bankValid (s.optBank 1) = false →
        t.fld 0 .RST_STATUS_OPT_BANK = 0 ∧ t.boot.options = some (slice (s.optBank 0) 0x10 256)) ∧
      (bankValid (s.optBank 0) = false → bankValid (s.optBank 1) = true →
        t.fld 0 .RST_STATUS_OPT_BANK = 1 ∧ t.boot.options = some (slice (s.optBank 1) 0x10 256)) ∧
      (bankValid (s.optBank 0) = false → bankValid (s.optBank 1) = false →
        t.boot.options = s.boot.options ∧ t.fld 0 .RST_STATUS_OPT_INVALID = 1 ∧ t.fld 0 .RST_STATUS_BOOTSEL_EFF = 0)

/-- R78: the raw code that the trim load of DIE_0 samples and the effective code, from the raw code or, where it is 15, from BOOT_MODE of the options. -/
def Obligations.EffectiveBootCode : Prop :=
  ∀ s : State,
    (∀ pf cs, s.hasDie 0 = true → 0 ∈ s.boot.loading → s.boot.pkg = true →
      ∃ t, exec (.trimLoadEnd 0 pf cs) s = .next t ∧ t.fld 0 .RST_STATUS_BOOTSEL_RAW = (bootselRaw cs).1 ∧
        ((bootselRaw cs).1 = 15 → t.fld 0 .RST_STATUS_BOOTSEL_EFF = 0) ∧
        ((bootselRaw cs).1 ≠ 15 → t.fld 0 .RST_STATUS_BOOTSEL_EFF =
          if 8 ≤ (bootselRaw cs).1 ∧ (bootselRaw cs).1 ≤ 13 then 7 else if (bootselRaw cs).1 = 14 ∧ s.sec.lc ≠ 0 then 7 else (bootselRaw cs).1)) ∧
    (∀ b, s.allAt 5 = true → s.boot.pkg = true → s.fld 0 .RST_STATUS_OPT_ABORTS ≠ 3 → s.bankInUse = some b →
      ∃ t, exec .optionLoadEnd s = .next t ∧ t.fld 0 .RST_STATUS_BOOTSEL_EFF =
        let m := leAt (slice (s.optBank b) 0x10 256) 0 1
        if 8 ≤ m ∧ m ≤ 13 then 7 else if m = 14 ∧ s.sec.lc ≠ 0 then 7 else if 15 ≤ m then 7 else m)

/-- R65: a reset of die scope that names DIE_0 is one of package scope, whoever asks, and RST_CAUSE of every die records SCOPE 0. -/
def Obligations.DieZeroResetIsPackage : Prop :=
  ∀ s : State, s.hasDie 0 = true →
    (∀ r i j, exec (.resetRequest r 1 0 i) s = exec (.resetRequest r 0 0 j) s) ∧
    (∀ cause src, s.requestReset cause (.die 0) src = s.requestReset cause .package src) ∧
    (∀ cause src, s.boot.powered = true → s.boot.due = [] → s.mustHold .package = false →
      ∃ t, exec .resetTakeEffect (s.requestReset cause (.die 0) src) = .next t ∧ ∀ d, d < s.part.dies → t.fld d .RST_CAUSE_SCOPE = 0)

/-- R117: the encoding of STATUS; no status that an answer can hold lies in 0x0B to 0xFF. -/
def Obligations.StatusCodes : Prop :=
  (Status.ok.code = 0x00 ∧ Status.busy.code = 0x01 ∧ Status.unsupported.code = 0x02 ∧ Status.denied.code = 0x03 ∧ Status.conflict.code = 0x04 ∧
    Status.staleGeneration.code = 0x05 ∧ Status.timeout.code = 0x06 ∧ Status.badMessage.code = 0x07 ∧ Status.noResource.code = 0x08 ∧
    Status.guaranteeRefused.code = 0x09 ∧ Status.safetyLocked.code = 0x0A) ∧
  ∀ st : Status, ¬ (0x0B ≤ st.code ∧ st.code ≤ 0xFF)

/-- R39: the numbers of the domains: the functions, the AP mailboxes, the PCIe host mailbox, firmware and no holder; no two of them are the same. -/
def Obligations.DomainNumbers : Prop :=
  (∀ n, n ≤ 2048 → (fnDom n).toNat = n) ∧ (∀ d a, d < 8 → a < 4 → (apDom d a).toNat = 0x1000 + 4 * d + a) ∧ fwDom = 0xFF00 ∧ noDom = 0xFFFF ∧
  (∀ n d a, n ≤ 2048 → d < 8 → a < 4 → fnDom n ≠ apDom d a ∧ fnDom n ≠ 0x2000 ∧ fnDom n ≠ fwDom ∧ fnDom n ≠ noDom ∧ apDom d a ≠ 0x2000 ∧ apDom d a ≠ fwDom ∧
    apDom d a ≠ noDom)

/-- R214: GATHER writes row i of D as row idx[i] of A, ROW_BYTES long, and a null index as a row of zeros; any other index of COUNT2 or more ends it with BAD_KEY;
a row shorter than 64 bytes takes a lane for each 8 bytes or part of them. -/
def Obligations.GatherWritesRows : Prop :=
  ∀ (s : State) d p (c : XeCmd),
    ((∃ k ∈ s.words d p (descOp2 p.desc) c.bOff c.count, k ≠ nullKey ∧ c.count2 ≤ k) → (s.gatherRun d p c).code = 10) ∧
    ((s.opBuf d p (descOp1 p.desc)).isSome = true → (∀ k ∈ s.words d p (descOp2 p.desc) c.bOff c.count, k = nullKey ∨ k < c.count2) →
      (s.gatherRun d p c).code = 0 ∧ (s.gatherRun d p c).writes.length = (s.words d p (descOp2 p.desc) c.bOff c.count).length ∧
      (c.rowLen < 64 → (s.gatherRun d p c).work = ceilDiv (c.count * ceilDiv c.rowLen 8) 16) ∧
      ∀ i k, (s.words d p (descOp2 p.desc) c.bOff c.count)[i]? = some k → ∃ row, row.length = c.rowLen ∧
        (s.gatherRun d p c).writes[i]? = some (c.outOff + 64 + 64 * c.ldo * i, row) ∧
        (k = nullKey → row = List.replicate c.rowLen 0#8) ∧ (k ≠ nullKey → row = s.bufBytes d p (descOp1 p.desc) (c.aOff + 64 * c.lda * k) c.rowLen))
end

