-- ==== Sys2Proof/Laws/Mask.lean ====
section
/-!
SUPPORT. Laws/Mask.lean: what an operation leaves alone, said once. A mask is a set of bits, one for each component of the state (0 to 32, in the order of
State; 4 is not used) and one for each register field (33 on, in the order of Fld); the masked state forgets what the mask names. An operation with the mask K changes only
components and register fields of K: its masked result is the masked state it began with.
-/
namespace Sys2Proof.Machine

/-- The bit of a register field in a mask. -/
def Fld.maskBit (f : Fld) : Nat := 33 + f.ctorIdx

/-- One mask names at least what another names. -/
abbrev Covers (K k : Nat) : Prop := K &&& k = k

/-- A component, or its reset value where the mask names it. -/
def hide {α : Type} (K i : Nat) (d x : α) : α := if K.testBit i = true then d else x

/-- Forget the components and the register blocks that a mask names. -/
def State.mask (K : Nat) (s : State) : State :=
  ⟨hide K 0 State.reset.part s.part,
   hide K 1 State.reset.pending s.pending,
   hide K 2 State.reset.free s.free,
   hide K 3 State.reset.access s.access,
   s.regs.filter (fun e => !K.testBit e.1.fld.maskBit),
   hide K 5 State.reset.mem s.mem,
   hide K 6 State.reset.flash s.flash,
   hide K 7 State.reset.bus s.bus,
   hide K 8 State.reset.pins s.pins,
   hide K 9 State.reset.clk s.clk,
   hide K 10 State.reset.boot s.boot,
   hide K 11 State.reset.mail s.mail,
   hide K 12 State.reset.fw s.fw,
   hide K 13 State.reset.memy s.memy,
   hide K 14 State.reset.irq s.irq,
   hide K 15 State.reset.tithe s.tithe,
   hide K 16 State.reset.out s.out,
   hide K 17 State.reset.time s.time,
   hide K 18 State.reset.q s.q,
   hide K 19 State.reset.fn s.fn,
   hide K 20 State.reset.safe s.safe,
   hide K 21 State.reset.sec s.sec,
   hide K 22 State.reset.mirror s.mirror,
   hide K 23 State.reset.pairs s.pairs,
   hide K 24 State.reset.heads s.heads,
   hide K 25 State.reset.frameFlags s.frameFlags,
   hide K 26 State.reset.streams s.streams,
   hide K 27 State.reset.odo s.odo,
   hide K 28 State.reset.tachPulses s.tachPulses,
   hide K 29 State.reset.tachSeen s.tachSeen,
   hide K 30 State.reset.eth s.eth,
   hide K 31 State.reset.ports s.ports,
   hide K 32 State.reset.power s.power⟩

/-- A bit of the smaller mask is a bit of the larger. -/
theorem testBit_of_land {K k i : Nat} (h : Covers K k) (hi : k.testBit i = true) : K.testBit i = true := by
  have both : (K &&& k).testBit i = true := h.symm ▸ hi
  simp only [Nat.testBit_and, Bool.and_eq_true] at both
  exact both.1

theorem land_trans {K k j : Nat} (h : Covers K k) (hj : Covers k j) : Covers K j := by
  unfold Covers at *
  rw [← hj, ← Nat.and_assoc, h]

/-- What is hidden by the smaller mask is hidden by the larger. -/
theorem hide_hide {α : Type} {K k i : Nat} (h : k.testBit i = true → K.testBit i = true) (d x : α) : hide K i d (hide k i d x) = hide K i d x := by
  unfold hide
  by_cases q : K.testBit i = true
  · rw [if_pos q, if_pos q]
  · rw [if_neg q, if_neg q, if_neg (fun hk => q (h hk))]

/-- Two values of a component look alike where the mask names it. -/
theorem hide_of {α : Type} {K i : Nat} {x y : α} (h : K.testBit i = true ∨ x = y) (d : α) : hide K i d x = hide K i d y := by
  unfold hide
  rcases h with named | rfl
  · rw [if_pos named, if_pos named]
  · rfl

/-- A component that the mask does not name shows. -/
theorem hide_clear {α : Type} {K i : Nat} (h : K.testBit i = false) (d x : α) : hide K i d x = x := by simp [hide, h]

/-- A larger mask forgets what a smaller has left. -/
theorem State.mask_mask {K k : Nat} (h : Covers K k) (s : State) : (s.mask k).mask K = s.mask K := by
  simp only [State.mask, hide_hide (testBit_of_land h), List.filter_filter]
  congr 2
  funext x
  cases hk : k.testBit x.1.fld.maskBit
  · simp
  · simp [testBit_of_land h hk]

/-- What holds for a mask holds for a larger one. -/
theorem mask_mono {K k : Nat} {a b : State} (h : Covers K k) (e : a.mask k = b.mask k) : a.mask K = b.mask K := by
  rw [← State.mask_mask h a, e, State.mask_mask h b]

/-- An update of components that the mask names. -/
@[simp] theorem mask_mk {K : Nat} (s : State) {x1 x2 x3 x4 x5 x6 x7 x8 x9 x10 x11 x12 x13 x14 x15 x16 x17 x18 x19 x20 x21 x22 x23 x24 x25 x26 x27 x28 x29 x30 x31 x32}
    (h1 : K.testBit 1 = true ∨ x1 = s.pending)
    (h2 : K.testBit 2 = true ∨ x2 = s.free)
    (h3 : K.testBit 3 = true ∨ x3 = s.access)
    (h5 : K.testBit 5 = true ∨ x5 = s.mem)
    (h6 : K.testBit 6 = true ∨ x6 = s.flash)
    (h7 : K.testBit 7 = true ∨ x7 = s.bus)
    (h8 : K.testBit 8 = true ∨ x8 = s.pins)
    (h9 : K.testBit 9 = true ∨ x9 = s.clk)
    (h10 : K.testBit 10 = true ∨ x10 = s.boot)
    (h11 : K.testBit 11 = true ∨ x11 = s.mail)
    (h12 : K.testBit 12 = true ∨ x12 = s.fw)
    (h13 : K.testBit 13 = true ∨ x13 = s.memy)
    (h14 : K.testBit 14 = true ∨ x14 = s.irq)
    (h15 : K.testBit 15 = true ∨ x15 = s.tithe)
    (h16 : K.testBit 16 = true ∨ x16 = s.out)
    (h17 : K.testBit 17 = true ∨ x17 = s.time)
    (h18 : K.testBit 18 = true ∨ x18 = s.q)
    (h19 : K.testBit 19 = true ∨ x19 = s.fn)
    (h20 : K.testBit 20 = true ∨ x20 = s.safe)
    (h21 : K.testBit 21 = true ∨ x21 = s.sec)
    (h22 : K.testBit 22 = true ∨ x22 = s.mirror)
    (h23 : K.testBit 23 = true ∨ x23 = s.pairs)
    (h24 : K.testBit 24 = true ∨ x24 = s.heads)
    (h25 : K.testBit 25 = true ∨ x25 = s.frameFlags)
    (h26 : K.testBit 26 = true ∨ x26 = s.streams)
    (h27 : K.testBit 27 = true ∨ x27 = s.odo)
    (h28 : K.testBit 28 = true ∨ x28 = s.tachPulses)
    (h29 : K.testBit 29 = true ∨ x29 = s.tachSeen)
    (h30 : K.testBit 30 = true ∨ x30 = s.eth)
    (h31 : K.testBit 31 = true ∨ x31 = s.ports)
    (h32 : K.testBit 32 = true ∨ x32 = s.power)
    (h4 : x4.filter (fun e => !K.testBit e.1.fld.maskBit) = s.regs.filter (fun e => !K.testBit e.1.fld.maskBit)) :
    State.mask K ⟨s.part, x1, x2, x3, x4, x5, x6, x7, x8, x9, x10, x11, x12, x13, x14, x15, x16, x17, x18, x19, x20, x21, x22, x23, x24, x25, x26, x27, x28, x29, x30, x31, x32⟩ = s.mask K := by
  simp only [State.mask, h4, hide_of h1, hide_of h2, hide_of h3, hide_of h5, hide_of h6, hide_of h7, hide_of h8, hide_of h9, hide_of h10, hide_of h11, hide_of h12, hide_of h13, hide_of h14, hide_of h15, hide_of h16, hide_of h17, hide_of h18, hide_of h19, hide_of h20, hide_of h21, hide_of h22, hide_of h23, hide_of h24, hide_of h25, hide_of h26, hide_of h27, hide_of h28, hide_of h29, hide_of h30, hide_of h31, hide_of h32]

/-- The result of an access alone. -/
theorem mask_access {K : Nat} (s : State) (x : Access) (h : K.testBit 3 = true) : State.mask K { s with access := x } = s.mask K := by
  simp (disch := first | exact .inl h | exact .inr rfl | rfl) only [mask_mk]

/-- An update of the registers alone. -/
theorem mask_regs {K : Nat} (s : State) {r : List (FK × Nat)}
    (h : r.filter (fun e => !K.testBit e.1.fld.maskBit) = s.regs.filter (fun e => !K.testBit e.1.fld.maskBit)) : State.mask K { s with regs := r } = s.mask K := by
  simp only [State.mask, h]

theorem mask_ite {K : Nat} {c : Prop} [Decidable c] {a b s : State} (ha : c → a.mask K = s.mask K) (hb : ¬c → b.mask K = s.mask K) :
    (if c then a else b).mask K = s.mask K := by
  by_cases h : c
  · simp [h, ha h]
  · simp [h, hb h]

theorem mask_foldl {K : Nat} {α : Type} (g : State → α → State) (h : ∀ t e, (g t e).mask K = t.mask K) (l : List α) (s : State) :
    (l.foldl g s).mask K = s.mask K := by
  induction l generalizing s with
  | nil => rfl
  | cons a l ih => simp [ih, h]

theorem mask_foldl_mem {K : Nat} {α : Type} (g : State → α → State) (l : List α) (h : ∀ t e, e ∈ l → (g t e).mask K = t.mask K) (s : State) :
    (l.foldl g s).mask K = s.mask K := by
  induction l generalizing s with
  | nil => rfl
  | cons a l ih => rw [List.foldl_cons, ih (fun t e he => h t e (List.mem_cons_of_mem _ he)), h s a (List.mem_cons_self ..)]

@[simp] theorem reply_st (s : State) (st : Status) (p : List Byte) : (reply s st p).st = s := rfl
@[simp] theorem later_st (s : State) : (later s).st = s := rfl
@[simp] theorem ite_mask {K : Nat} {c : Prop} [Decidable c] (a b : State) : (if c then a else b).mask K = if c then a.mask K else b.mask K := apply_ite _ c a b
@[simp] theorem ite_st {c : Prop} [Decidable c] (a b : Reply) : (if c then a else b).st = if c then a.st else b.st := apply_ite _ c a b

theorem st_mask_ite {K : Nat} {c : Prop} [Decidable c] {a b : Reply} {x : State} (ha : c → a.st.mask K = x) (hb : ¬c → b.st.mask K = x) :
    (if c then a else b).st.mask K = x := by
  by_cases h : c
  · simp only [h, if_true]
    exact ha h
  · simp only [h, if_false]
    exact hb h

/-- Every next state of an outcome keeps what the mask does not name. -/
def Kept (K : Nat) (s : State) (o : Out) : Prop := ∀ t, o = .next t → t.mask K = s.mask K

@[simp] theorem kept_next {K : Nat} {s t : State} : Kept K s (.next t) ↔ t.mask K = s.mask K :=
  ⟨fun h => h t rfl, fun h _ e => by cases e; exact h⟩

@[simp] theorem kept_fault {K : Nat} {s : State} {f : Fault} : Kept K s (.fault f) := fun _ e => by cases e

@[simp] theorem kept_refused {K : Nat} {s : State} {f : Refusal} : Kept K s (.refused f) := fun _ e => by cases e

theorem kept_mono {K k : Nat} {s : State} {o : Out} (h : K &&& k = k) (e : Kept k s o) : Kept K s o := fun t ht => mask_mono h (e t ht)

/-- A mask of all register fields has the bit of each. -/
theorem allFields_testBit (K : Nat) (f : Fld) (h : Covers K 0xfffffffffffffffffffffffffffffffffffffffffffffffffffffffffffffffffffffffffffffffffffffffffffffffffffffffffffffffffffffffffffffffffffffffffffffffffffe00000000) : K.testBit f.maskBit = true := by
  refine testBit_of_land h ?_
  cases f <;> rfl

/-- A register that an access finds is one of the table. -/
theorem findReg_mem {blk : Blk} {o : Nat} {x : RegDesc × Nat} (h : findReg blk o = some x) : x.1 ∈ regTable := by
  obtain ⟨r, hr, he⟩ := List.exists_of_findSome?_eq_some h
  split at he
  · obtain ⟨i, -, rfl⟩ := Option.map_eq_some_iff.1 he
    exact hr
  · cases he

theorem hitReg_mem {blk : Blk} {o : Nat} {x : RegDesc × Nat × Bool} (h : hitReg blk o = some x) : x.1 ∈ regTable := by
  simp only [hitReg] at h
  split at h
  · rename_i hf
    cases h
    exact findReg_mem hf
  split at h
  · cases h
  split at h
  · rename_i hf
    split at h
    · cases h
      exact findReg_mem hf
    · cases h
  · cases h

/-- The register table is eleven pieces. -/
theorem regTable_pieces {r : RegDesc} (hr : r ∈ regTable) : ∃ l ∈ [regTable1, regTable2, regTable3, regTable4, regTable5, regTable6, regTable7, regTable8, regTable9, regTable10, regTable11], r ∈ l := by
  have whole : regTable = [regTable1, regTable2, regTable3, regTable4, regTable5, regTable6, regTable7, regTable8, regTable9, regTable10, regTable11].flatten := by simp [regTable]
  exact List.mem_flatten.1 (whole ▸ hr)

/-- The fields that a read clears. -/
theorem table_rc (r : RegDesc) (hr : r ∈ regTable) (g : Seg) (hg : g ∈ r.segs) (h : g.acc = .rc) : Nat.testBit 0x60006020000008c40000810808203af4000000002000021d43080000000e04000cb80000000c3818001ac70020c0000043d9e001e0783c7c0388303e07b040601c001e20e00000c003400000000 g.fld.maskBit = true := by
  have each : ∀ l ∈ [regTable1, regTable2, regTable3, regTable4, regTable5, regTable6, regTable7, regTable8, regTable9, regTable10, regTable11], ∀ r ∈ l, ∀ g ∈ r.segs, g.acc = .rc → Nat.testBit 0x60006020000008c40000810808203af4000000002000021d43080000000e04000cb80000000c3818001ac70020c0000043d9e001e0783c7c0388303e07b040601c001e20e00000c003400000000 g.fld.maskBit = true := by decide
  obtain ⟨l, hl, hm⟩ := regTable_pieces hr
  exact each l hl r hm g hg h

/-- The fields that a plain write may set. -/
theorem table_rw (r : RegDesc) (hr : r ∈ regTable) (g : Seg) (hg : g ∈ r.segs) (h : g.acc = .rw ∨ g.acc = .rwp) : Nat.testBit 0x1e83800c003e0201fc1a0050f000c0007fffffff033fc0003c73ffe40f3018bff0007ffffff38207ffe03809c00031fb88000000000000800002c5400006240000c80000008c001f9c000000000 g.fld.maskBit = true := by
  have each : ∀ l ∈ [regTable1, regTable2, regTable3, regTable4, regTable5, regTable6, regTable7, regTable8, regTable9, regTable10, regTable11], ∀ r ∈ l, ∀ g ∈ r.segs, g.acc = .rw ∨ g.acc = .rwp → Nat.testBit 0x1e83800c003e0201fc1a0050f000c0007fffffff033fc0003c73ffe40f3018bff0007ffffff38207ffe03809c00031fb88000000000000800002c5400006240000c80000008c001f9c000000000 g.fld.maskBit = true := by decide
  obtain ⟨l, hl, hm⟩ := regTable_pieces hr
  exact each l hl r hm g hg h

theorem kept_ifUnit {K : Nat} {c : Bool} {s t : State} (h : t.mask K = s.mask K) : Kept K s (ifUnit c s t) := by
  cases c
  · exact kept_next.2 rfl
  · exact kept_next.2 h

/-- An outcome that starts from an updated state keeps what both keep. -/
theorem kept_trans {K : Nat} {s u : State} {o : Out} (h : u.mask K = s.mask K) (e : Kept K u o) : Kept K s o := fun t ht => (e t ht).trans h

theorem filter_insertKV {κ ν : Type} [DecidableEq κ] (p : κ → Bool) (m : List (κ × ν)) (k : κ) (v : ν) (h : p k = false) :
    (insertKV m k v).filter (fun e => p e.1) = m.filter (fun e => p e.1) := by
  induction m with
  | nil => simp [insertKV, h]
  | cons e m ih =>
    obtain ⟨k', v'⟩ := e
    by_cases hk : k' = k
    · subst hk
      simp [insertKV, h]
    · simp [insertKV, hk, List.filter_cons, ih]

@[simp] theorem State.setFld_mask {K : Nat} (s : State) (d : Nat) (f : Fld) (i v : Nat) (h : K.testBit f.maskBit = true) : (s.setFld d f i v).mask K = s.mask K :=
  mask_regs s (filter_insertKV (fun k => !K.testBit k.fld.maskBit) s.regs ⟨homeDie f d, f, i⟩ (v % 2 ^ f.width) (by simp [h]))

theorem State.restore_mask {K : Nat} (s : State) (p : FK → Bool) (h : ∀ k, p k = true → K.testBit k.fld.maskBit = true) : (s.restore p).mask K = s.mask K :=
  mask_regs s (by
    simp only [keepK, List.filter_filter]
    congr 1
    funext x
    cases hp : p x.1
    · simp
    · simp [h x.1 hp])

/-- The memories of states that agree outside a mask that does not name them. -/
theorem mem_of_mask {K : Nat} {s t : State} (h : t.mask K = s.mask K) (h5 : K.testBit 5 = false) : t.mem = s.mem := by
  have := congrArg State.mem h
  simpa [State.mask, hide_clear h5] using this

theorem flash_of_mask {K : Nat} {s t : State} (h : t.mask K = s.mask K) (h6 : K.testBit 6 = false) : t.flash = s.flash := by
  have := congrArg State.flash h
  simpa [State.mask, hide_clear h6] using this

end Sys2Proof.Machine
end

