-- ==== Sys2Proof/Laws/KeepsOps.lean ====
section
/-!
SUPPORT. Laws/KeepsOps.lean: what each operation of Machine/Ops.lean leaves alone: a mask (Laws/Mask.lean) that covers what the operation may write sees no
difference between the state before and the state after.
-/
set_option linter.unusedSimpArgs false
set_option linter.unusedVariables false

namespace Sys2Proof.Machine

@[simp] theorem State.setPad_mask {K : Nat} (s : State) (d p : Nat) (level : Bool) (h : Covers K 0x100) : (State.setPad s d p level).mask K = s.mask K := mask_mono h (by
  simp only [State.setPad]
  repeat' (first | with_reducible rfl | decide | (simp (disch := first | exact .inl rfl | exact .inr rfl | rfl | decide) only [mask_mk, ite_mask, ite_self]; done) | split | dsimp only))

@[simp] theorem State.flag_mask {K : Nat} (s : State) (d : Nat) (f : Fld) (i : optParam Nat 0) (hf : K.testBit f.maskBit = true) : (State.flag s d f i).mask K = s.mask K := State.setFld_mask s d f i 1 hf

@[simp] theorem State.addSat_mask {K : Nat} (s : State) (d : Nat) (f : Fld) (i n : Nat) (hf : K.testBit f.maskBit = true) : (State.addSat s d f i n).mask K = s.mask K := State.setFld_mask s d f i _ hf

theorem State.setFlds_mask {K : Nat} (s : State) (d i : Nat) (l : List (Fld × Nat)) (h : ∀ x ∈ l, K.testBit x.1.maskBit = true) :
    (s.setFlds d i l).mask K = s.mask K := by
  induction l generalizing s with
  | nil => rfl
  | cons x l ih =>
    obtain ⟨f, v⟩ := x
    simp only [State.setFlds]
    rw [ih _ (fun y hy => h y (List.mem_cons_of_mem _ hy)), State.setFld_mask _ _ _ _ _ (h (f, v) (by simp))]

@[simp] theorem State.setFlds_nil_mask {K : Nat} (s : State) (d i : Nat) : (s.setFlds d i []).mask K = s.mask K := rfl

@[simp] theorem State.setFlds_cons_mask {K : Nat} (s : State) (d i : Nat) (f : Fld) (v : Nat) (l : List (Fld × Nat)) (h : K.testBit f.maskBit = true) :
    (s.setFlds d i ((f, v) :: l)).mask K = ((s.setFld d f i v).setFlds d i l).mask K := rfl

@[simp] theorem State.fresh_mask {K : Nat} (s : State) (h : K.testBit 2 = true) : s.fresh.2.mask K = s.mask K := by
  simp [State.fresh, h]

@[simp] theorem State.putByte_mask {K : Nat} (s : State) (a : Nat) (v : Byte) (h : Covers K 0x20) : (State.putByte s a v).mask K = s.mask K := mask_mono h (by
  simp only [State.putByte]
  repeat' (first | with_reducible rfl | decide | (simp (disch := first | exact .inl rfl | exact .inr rfl | rfl | decide) only [mask_mk, ite_mask, ite_self]; done) | split | dsimp only))

@[simp] theorem State.putBytes_mask {K : Nat} (s : State) (a : Nat) (l : List Byte) (h : K.testBit 5 = true) : (s.putBytes a l).mask K = s.mask K := by
  induction l generalizing s a with
  | nil => rfl
  | cons b l ih =>
    simp only [State.putBytes, ih]
    simp [State.putByte, h]

@[simp] theorem State.zeroBytes_mask {K : Nat} (s : State) (lo n : Nat) (h : Covers K 0x20) : (State.zeroBytes s lo n).mask K = s.mask K := mask_mono h (by
  simp only [State.zeroBytes]
  repeat' (first | with_reducible rfl | decide | (simp (disch := first | exact .inl rfl | exact .inr rfl | rfl | decide) only [mask_mk, ite_mask, ite_self]; done) | split | dsimp only))

@[simp] theorem State.putFlash_mask {K : Nat} (s : State) (a : Nat) (l : List Byte) (h : K.testBit 6 = true) : (s.putFlash a l).mask K = s.mask K := by
  induction l generalizing s a with
  | nil => rfl
  | cons b l ih =>
    simp only [State.putFlash, ih]
    simp [h]

@[simp] theorem State.eraseFlash_mask {K : Nat} (s : State) (lo n : Nat) (h : Covers K 0x40) : (State.eraseFlash s lo n).mask K = s.mask K := mask_mono h (by
  simp only [State.eraseFlash]
  repeat' (first | with_reducible rfl | decide | (simp (disch := first | exact .inl rfl | exact .inr rfl | rfl | decide) only [mask_mk, ite_mask, ite_self]; done) | split | dsimp only))

@[simp] theorem State.titheAdd_mask {K : Nat} (s : State) (off n : Nat) (h : Covers K 0x8000) : (State.titheAdd s off n).mask K = s.mask K := mask_mono h (by
  simp only [State.titheAdd]
  repeat' (first | with_reducible rfl | decide | (simp (disch := first | exact .inl rfl | exact .inr rfl | rfl | decide) only [mask_mk, ite_mask, ite_self]; done) | split | dsimp only))

@[simp] theorem State.send_mask {K : Nat} (s : State) (x : Sent) (h : Covers K 0x10000) : (State.send s x).mask K = s.mask K := mask_mono h (by
  simp only [State.send]
  repeat' (first | with_reducible rfl | decide | (simp (disch := first | exact .inl rfl | exact .inr rfl | rfl | decide) only [mask_mk, ite_mask, ite_self]; done) | split | dsimp only))

end Sys2Proof.Machine
end

