-- ==== Sys2Proof/Laws/KeepsEvents.lean ====
section
/-!
SUPPORT. Laws/KeepsEvents.lean: what each operation of Machine/Events.lean leaves alone: a mask (Laws/Mask.lean) that covers what the operation may write sees no
difference between the state before and the state after.
-/
set_option linter.unusedSimpArgs false
set_option linter.unusedVariables false

namespace Sys2Proof.Machine

@[simp] theorem State.setBox_mask {K : Nat} (s : State) (dom : Dom) (b : Mailbox) (h : Covers K 0x800) : (State.setBox s dom b).mask K = s.mask K := mask_mono h (by
  simp only [State.setBox]
  repeat' (first | with_reducible rfl | decide | (simp (disch := first | exact .inl rfl | exact .inr rfl | rfl | decide) only [mask_mk, ite_mask, ite_self]; done) | split | dsimp only))

@[simp] theorem State.setMb_mask {K : Nat} (s : State) (dom : Dom) (f : Fld) (v : Nat) (hf : K.testBit f.maskBit = true) : (State.setMb s dom f v).mask K = s.mask K := State.setFld_mask s _ f _ v hf

@[simp] theorem State.imsicPend_mask {K : Nat} (s : State) (file ident : Nat) (h : Covers K 0x4000) : (State.imsicPend s file ident).mask K = s.mask K := mask_mono h (by
  simp only [State.imsicPend]
  repeat' (first | with_reducible rfl | decide | (simp (disch := first | exact .inl rfl | exact .inr rfl | rfl | decide) only [mask_mk, ite_mask, ite_self]; done) | split | dsimp only))

@[simp] theorem State.aplicMsi_mask {K : Nat} (s : State) (dom hart guest ident : Nat) (h : Covers K 0x4000) : (State.aplicMsi s dom hart guest ident).mask K = s.mask K := mask_mono h (by
  simp only [State.aplicMsi]
  repeat' (first | with_reducible rfl | decide | (simp (disch := first | exact .inl rfl | exact .inr rfl | rfl | decide) only [mask_mk, ite_mask, ite_self, State.imsicPend_mask]; done) | split | dsimp only))

@[simp] theorem State.aplicForward_mask {K : Nat} (s : State) (e : Nat × Nat) (h : Covers K 0x4800) : (State.aplicForward s e).mask K = s.mask K := mask_mono h (by
  simp only [State.aplicForward]
  repeat' (first | with_reducible rfl | decide | (simp (disch := first | exact .inl rfl | exact .inr rfl | rfl | decide) only [mask_mk, ite_mask, ite_self, State.aplicMsi_mask]; done) | split | dsimp only))

@[simp] theorem State.pulse_mask {K : Nat} (s : State) (d src : Nat) (h : Covers K 0x4800) : (State.pulse s d src).mask K = s.mask K := mask_mono h (by
  simp only [State.pulse]
  repeat' (first | with_reducible rfl | decide | (simp (disch := first | exact .inl rfl | exact .inr rfl | rfl | decide) only [mask_mk, ite_mask, ite_self, State.aplicForward_mask]; done) | split | dsimp only))

@[simp] theorem State.msix_mask {K : Nat} (s : State) (fn : Dom) (vec : Nat) (h : Covers K 0x80000000000000000000000000000000000000000000000000000000000014000) : (State.msix s fn vec).mask K = s.mask K := mask_mono h (by
  simp only [State.msix]
  repeat' (first | with_reducible rfl | decide | (simp (disch := first | exact .inl rfl | exact .inr rfl | rfl | decide) only [mask_mk, ite_mask, ite_self, State.imsicPend_mask, State.send_mask, State.setMb_mask]; done) | split | dsimp only))

@[simp] theorem State.notify_mask {K : Nat} (s : State) (dom : Dom) (h : Covers K 0x80000000000000000000000000000000000000000000000000000000000014000) : (State.notify s dom).mask K = s.mask K := mask_mono h (by
  simp only [State.notify]
  repeat' (first | with_reducible rfl | decide | (simp (disch := first | exact .inl rfl | exact .inr rfl | rfl | decide) only [mask_mk, ite_mask, ite_self, State.imsicPend_mask, State.msix_mask]; done) | split | dsimp only))

@[simp] theorem State.evDrop_mask {K : Nat} (s : State) (dom : Dom) (h : Covers K 0x4020000000000000000000000000800) : (State.evDrop s dom).mask K = s.mask K := mask_mono h (by
  simp only [State.evDrop]
  repeat' (first | with_reducible rfl | decide | (simp (disch := first | exact .inl rfl | exact .inr rfl | rfl | decide) only [mask_mk, ite_mask, ite_self, State.addSat_mask, State.setBox_mask, State.setMb_mask]; done) | split | dsimp only))

@[simp] theorem State.evQueue_mask {K : Nat} (s : State) (dom : Dom) (r : EvRec) (h : Covers K 0x4020000000000000000000000000800) : (State.evQueue s dom r).mask K = s.mask K := mask_mono h (by
  simp only [State.evQueue]
  repeat' (first | with_reducible rfl | decide | (simp (disch := first | exact .inl rfl | exact .inr rfl | rfl | decide) only [mask_mk, ite_mask, ite_self, State.evDrop_mask, State.setBox_mask]; done) | split | dsimp only))

@[simp] theorem State.evAll_mask {K : Nat} (s : State) (r : EvRec) (x2 : List Dom) (h : Covers K 0x4020000000000000000000000000800) : (State.evAll s r x2).mask K = s.mask K := by
  induction x2 generalizing s with
  | nil => rfl
  | cons d l ih =>
    simp only [State.evAll]
    rw [ih]
    split
    · exact State.evQueue_mask _ _ _ h
    · rfl

@[simp] theorem State.raise_mask {K : Nat} (s : State) (e : Ev) (die source : Nat) (dt : List (Nat × Nat × Nat)) (doms : List Dom) (h : Covers K 0x4020000000000000000000000004800) : (State.raise s e die source dt doms).mask K = s.mask K := mask_mono h (by
  simp only [State.raise]
  repeat' (first | with_reducible rfl | decide | (simp (disch := first | exact .inl rfl | exact .inr rfl | rfl | decide) only [mask_mk, ite_mask, ite_self, State.evAll_mask, State.pulse_mask]; done) | split | dsimp only))

end Sys2Proof.Machine
end

