-- ==== Sys2Proof/Laws/KeepsApintc.lean ====
section
/-!
SUPPORT. Laws/KeepsApintc.lean: what each operation of Machine/Apintc.lean leaves alone: a mask (Laws/Mask.lean) that covers what the operation may write sees no
difference between the state before and the state after.
-/
set_option linter.unusedSimpArgs false
set_option linter.unusedVariables false

namespace Sys2Proof.Machine

@[simp] theorem State.aplicPend_mask {K : Nat} (s : State) (d dom : Nat) (on : Bool) (srcs : List Nat) (h : Covers K 0x4800) : (State.aplicPend s d dom on srcs).mask K = s.mask K := mask_mono h (by
  simp only [State.aplicPend]
  repeat' (first | with_reducible rfl | decide | with_reducible refine (mask_foldl _ (fun t e => ?_) _ _).trans ?_ | (simp (disch := first | exact .inl rfl | exact .inr rfl | rfl | decide) only [mask_mk, ite_mask, ite_self, State.pulse_mask]; done) | split | dsimp only))

@[simp] theorem State.aplicEnable_mask {K : Nat} (s : State) (d dom : Nat) (on : Bool) (srcs : List Nat) (h : Covers K 0x4800) : (State.aplicEnable s d dom on srcs).mask K = s.mask K := mask_mono h (by
  simp only [State.aplicEnable]
  repeat' (first | with_reducible rfl | decide | with_reducible refine (mask_foldl _ (fun t e => ?_) _ _).trans ?_ | (simp (disch := first | exact .inl rfl | exact .inr rfl | rfl | decide) only [mask_mk, ite_mask, ite_self, State.aplicForward_mask]; done) | split | dsimp only))

@[simp] theorem State.setAplicReg_mask {K : Nat} (s : State) (d dom o v : Nat) (h : Covers K 0x4000) : (State.setAplicReg s d dom o v).mask K = s.mask K := mask_mono h (by
  simp only [State.setAplicReg]
  repeat' (first | with_reducible rfl | decide | (simp (disch := first | exact .inl rfl | exact .inr rfl | rfl | decide) only [mask_mk, ite_mask, ite_self]; done) | split | dsimp only))

@[simp] theorem State.setSourceCfg_mask {K : Nat} (s : State) (d dom src v : Nat) (h : Covers K 0x4000) : (State.setSourceCfg s d dom src v).mask K = s.mask K := mask_mono h (by
  simp only [State.setSourceCfg]
  repeat' (first | with_reducible rfl | decide | (simp (disch := first | exact .inl rfl | exact .inr rfl | rfl | decide) only [mask_mk, ite_mask, ite_self, State.setAplicReg_mask]; done) | split | dsimp only))

@[simp] theorem State.aplicWrite_mask {K : Nat} (s : State) (d dom o v : Nat) (h : Covers K 0x4800) : (State.aplicWrite s d dom o v).mask K = s.mask K := mask_mono h (by
  simp only [State.aplicWrite]
  repeat' (first
    | exact (mask_foldl _ (fun t e => State.aplicForward_mask _ _ (by decide)) _ _).trans (State.setAplicReg_mask _ _ _ _ _ (by decide))
    | with_reducible refine mask_ite (fun _ => ?_) (fun _ => ?_)
    | (simp (disch := first | exact .inl rfl | exact .inr rfl | rfl | decide) only [State.setAplicReg_mask, State.setSourceCfg_mask, State.aplicPend_mask, State.aplicEnable_mask, State.aplicMsi_mask]; done)))

theorem State.apintcWrite_mask {K : Nat} {s u : State} {d o v : Nat} (hq : s.apintcWrite d o v = some u) (h : Covers K 0x4800) : u.mask K = s.mask K := by
  refine mask_mono h ?_
  simp only [State.apintcWrite] at hq
  repeat' split at hq
  all_goals first
    | (cases hq; done)
    | (cases hq; simp (disch := first | exact .inl rfl | exact .inr rfl | rfl | decide))

end Sys2Proof.Machine
end

