-- ==== Sys2Proof/Laws/KeepsBus.lean ====
section
/-!
SUPPORT. Laws/KeepsBus.lean: what each operation of Machine/Bus.lean leaves alone: a mask (Laws/Mask.lean) that covers what the operation may write sees no
difference between the state before and the state after.
-/
set_option linter.unusedSimpArgs false
set_option linter.unusedVariables false

namespace Sys2Proof.Machine

@[simp] theorem State.fabLog_mask {K : Nat} (s : State) (d : Nat) (guard : Bool) (type addr : Nat) (m : Master) (write : Bool) (h : Covers K 0x7fc0000000000000000000000000) : (State.fabLog s d guard type addr m write).mask K = s.mask K := mask_mono h (by
  simp only [State.fabLog]
  repeat' (first | with_reducible rfl | decide | (simp (disch := first | exact .inl rfl | exact .inr rfl | rfl | decide) only [mask_mk, ite_mask, ite_self, State.setFlds_nil_mask, State.setFlds_cons_mask, State.setFld_mask, State.addSat_mask]; done) | split | dsimp only))

@[simp] theorem State.busError_mask {K : Nat} (s : State) (d type addr : Nat) (m : Master) (write : Bool) (h : Covers K 0x7fc0000000000000000000000008) : (State.busError s d type addr m write).mask K = s.mask K := mask_mono h (by
  simp only [State.busError]
  repeat' (first | with_reducible rfl | decide | (simp (disch := first | exact .inl rfl | exact .inr rfl | rfl | decide) only [mask_mk, ite_mask, ite_self, State.fabLog_mask]; done) | split | dsimp only))

@[simp] theorem State.guardViolation_mask {K : Nat} (s : State) (d addr : Nat) (m : Master) (write : Bool) (h : Covers K 0x4027fc0000000000000000000004800) : (State.guardViolation s d addr m write).mask K = s.mask K := mask_mono h (by
  simp only [State.guardViolation]
  repeat' (first | with_reducible rfl | decide | (simp (disch := first | exact .inl rfl | exact .inr rfl | rfl | decide) only [mask_mk, ite_mask, ite_self, State.fabLog_mask, State.raise_mask]; done) | split | dsimp only))

theorem State.regWrite_mask {K : Nat} (s : State) (m : Master) (d : Nat) (blk : Blk) (off : Nat) (data : Word) (apply : State → State) (h : Covers K 0x7fc0000000000000000000000088) (he : ∀ t, (apply t).mask K = t.mask K) : (State.regWrite s m d blk off data apply).mask K = s.mask K := by
  have hb : ∀ i, Nat.testBit 0x7fc0000000000000000000000088 i = true → K.testBit i = true := fun i => testBit_of_land h
  have hl : ∀ j, Covers 0x7fc0000000000000000000000088 j → Covers K j := fun j hj => land_trans h hj
  simp only [State.regWrite]
  repeat' (first | with_reducible rfl | exact hl _ (by decide) | (simp (disch := first | exact .inl (hb _ rfl) | exact .inr rfl | exact hl _ (by decide) | exact hb _ (by decide) | assumption | rfl) only [mask_mk, ite_mask, ite_self, State.busError_mask, he]; done) | split | dsimp only)

@[simp] theorem State.holdLow_mask {K : Nat} (s : State) (d : Nat) (n : RegName) (i v : Nat) (h : Covers K 0x80) : (State.holdLow s d n i v).mask K = s.mask K := mask_mono h (by
  simp only [State.holdLow]
  repeat' (first | with_reducible rfl | decide | (simp (disch := first | exact .inl rfl | exact .inr rfl | rfl | decide) only [mask_mk, ite_mask, ite_self]; done) | split | dsimp only))

@[simp] theorem State.dropLow_mask {K : Nat} (s : State) (d : Nat) (n : RegName) (i : Nat) (h : Covers K 0x80) : (State.dropLow s d n i).mask K = s.mask K := mask_mono h (by
  simp only [State.dropLow]
  repeat' (first | with_reducible rfl | decide | (simp (disch := first | exact .inl rfl | exact .inr rfl | rfl | decide) only [mask_mk, ite_mask, ite_self]; done) | split | dsimp only))

@[simp] theorem State.dropPairs_mask {K : Nat} (s : State) (sel : FK → Bool) (h : Covers K 0x80) : (State.dropPairs s sel).mask K = s.mask K := mask_mono h (by
  simp only [State.dropPairs]
  repeat' (first | with_reducible rfl | decide | (simp (disch := first | exact .inl rfl | exact .inr rfl | rfl | decide) only [mask_mk, ite_mask, ite_self]; done) | split | dsimp only))

@[simp] theorem State.guardWrite_mask {K : Nat} (s : State) (m : Master) (d : Nat) (blk : Blk) (off : Nat) (h : Covers K 0x4027fc0000000000000000000004800) : (State.guardWrite s m d blk off).2.mask K = s.mask K := mask_mono h (by
  simp only [State.guardWrite]
  repeat' (first | with_reducible rfl | decide | (simp (disch := first | exact .inl rfl | exact .inr rfl | rfl | decide) only [mask_mk, ite_mask, ite_self, State.guardViolation_mask]; done) | split | dsimp only))

theorem State.guarded_mask {K : Nat} (s : State) (m : Master) (d : Nat) (blk : Blk) (off : Nat) (eff : State → State) (h : Covers K 0x4027fc0000000000000000000004800) (he : ∀ t, (eff t).mask K = t.mask K) : (State.guarded s m d blk off eff).mask K = s.mask K := by
  have hb : ∀ i, Nat.testBit 0x4027fc0000000000000000000004800 i = true → K.testBit i = true := fun i => testBit_of_land h
  have hl : ∀ j, Covers 0x4027fc0000000000000000000004800 j → Covers K j := fun j hj => land_trans h hj
  simp only [State.guarded]
  repeat' (first | with_reducible rfl | exact hl _ (by decide) | (simp (disch := first | exact .inl (hb _ rfl) | exact .inr rfl | exact hl _ (by decide) | exact hb _ (by decide) | assumption | rfl) only [mask_mk, ite_mask, ite_self, State.guardWrite_mask, he]; done) | split | dsimp only)

end Sys2Proof.Machine
end

