-- ==== Sys2Proof/Laws/KeepsSafeState.lean ====
section
/-!
SUPPORT. Laws/KeepsSafeState.lean: what each operation of Machine/SafeState.lean leaves alone: a mask (Laws/Mask.lean) that covers what the operation may write sees no
difference between the state before and the state after.
-/
set_option linter.unusedSimpArgs false
set_option linter.unusedVariables false

namespace Sys2Proof.Machine

@[simp] theorem State.safeEnter_mask {K : Nat} (s : State) (e : Entry) (h : Covers K 0x3e182000000000000000000000000000000000000000000000000000000000000000000000000000000000000000000000000000000402000000000000000000000010c800) : (State.safeEnter s e).mask K = s.mask K := mask_mono h (by
  simp only [State.safeEnter]
  repeat' (first | with_reducible rfl | decide | (simp (disch := first | exact .inl rfl | exact .inr rfl | rfl | decide) only [mask_mk, ite_mask, ite_self, State.setFlds_nil_mask, State.setFlds_cons_mask, State.setFld_mask, State.flag_mask, State.raise_mask, State.titheAdd_mask]; done) | split | dsimp only))

@[simp] theorem State.invalidOutput_mask {K : Nat} (s : State) (e : Entry) (d k : Nat) (h : Covers K 0x203e182000000000000000000000000000000000000000000000000000000000000000000000000000000000000000000000000000000402000000000000000000000010c800) : (State.invalidOutput s e d k).mask K = s.mask K := mask_mono h (by
  simp only [State.invalidOutput]
  repeat' (first | with_reducible rfl | decide | (simp (disch := first | exact .inl rfl | exact .inr rfl | rfl | decide) only [mask_mk, ite_mask, ite_self, State.addSat_mask, State.safeEnter_mask]; done) | split | dsimp only))

@[simp] theorem State.invalidateAll_mask {K : Nat} (s : State) (e : Entry) (x2 : List (Nat × Nat)) (h : Covers K 0x203e182000000000000000000000000000000000000000000000000000000000000000000000000000000000000000000000000000000402000000000000000000000010c800) : (State.invalidateAll s e x2).mask K = s.mask K := by
  induction x2 generalizing s with
  | nil => rfl
  | cons x l ih => exact (ih _).trans (State.invalidOutput_mask _ _ _ _ (land_trans h (by decide)))

@[simp] theorem State.source_mask {K : Nat} (s : State) (e : Entry) (silos : List (Nat × Nat)) (h : Covers K 0x203e182000000000000000000000000000000000000000000000000000000000000000000000000000000000000000000000000000000402000000000000000000000010c800) : (State.source s e silos).mask K = s.mask K := mask_mono h (by
  simp only [State.source]
  repeat' (first | with_reducible rfl | decide | (simp (disch := first | exact .inl rfl | exact .inr rfl | rfl | decide) only [mask_mk, ite_mask, ite_self, State.invalidateAll_mask, State.safeEnter_mask]; done) | split | dsimp only))

end Sys2Proof.Machine
end

