-- ==== Sys2Proof/Laws/KeepsMemCore.lean ====
section
/-!
SUPPORT. Laws/KeepsMemCore.lean: what each operation of Machine/MemCore.lean leaves alone: a mask (Laws/Mask.lean) that covers what the operation may write sees no
difference between the state before and the state after.
-/
set_option linter.unusedSimpArgs false
set_option linter.unusedVariables false

namespace Sys2Proof.Machine

@[simp] theorem State.wake_mask {K : Nat} (s : State) (a n : Nat) (h : Covers K 0x2000) : (State.wake s a n).mask K = s.mask K := mask_mono h (by
  simp only [State.wake]
  repeat' (first | with_reducible rfl | decide | (simp (disch := first | exact .inl rfl | exact .inr rfl | rfl | decide) only [mask_mk, ite_mask, ite_self]; done) | split | dsimp only))

@[simp] theorem State.write_mask {K : Nat} (s : State) (a : Nat) (bs : List Byte) (h : Covers K 0x2020) : (State.write s a bs).mask K = s.mask K := mask_mono h (by
  simp only [State.write]
  repeat' (first | with_reducible rfl | decide | (simp (disch := first | exact .inl rfl | exact .inr rfl | rfl | decide) only [mask_mk, ite_mask, ite_self, State.putBytes_mask]; done) | split | dsimp only))

@[simp] theorem State.grnLog_mask {K : Nat} (s : State) (d : Nat) (ue : Bool) (addr unit syndrome master origin : Nat) (h : Covers K 0x1fe100000000000000000000000000000000) : (State.grnLog s d ue addr unit syndrome master origin).mask K = s.mask K := mask_mono h (by
  simp only [State.grnLog]
  repeat' (first | with_reducible rfl | decide | (simp (disch := first | exact .inl rfl | exact .inr rfl | rfl | decide) only [mask_mk, ite_mask, ite_self, State.setFlds_nil_mask, State.setFlds_cons_mask, State.setFld_mask, State.addSat_mask, State.flag_mask]; done) | split | dsimp only))

@[simp] theorem State.dramLog_mask {K : Nat} (s : State) (d : Nat) (ue : Bool) (addr channel bg bank rank retries master : Nat) (h : Covers K 0x3ff08000000000000000000000000000000000000000) : (State.dramLog s d ue addr channel bg bank rank retries master).mask K = s.mask K := mask_mono h (by
  simp only [State.dramLog]
  repeat' (first | with_reducible rfl | decide | (simp (disch := first | exact .inl rfl | exact .inr rfl | rfl | decide) only [mask_mk, ite_mask, ite_self, State.setFlds_nil_mask, State.setFlds_cons_mask, State.setFld_mask, State.addSat_mask, State.flag_mask]; done) | split | dsimp only))

@[simp] theorem State.ceTotalAdd_mask {K : Nat} (s : State) (d u : Nat) (h : Covers K 0x2000) : (State.ceTotalAdd s d u).mask K = s.mask K := mask_mono h (by
  simp only [State.ceTotalAdd]
  repeat' (first | with_reducible rfl | decide | (simp (disch := first | exact .inl rfl | exact .inr rfl | rfl | decide) only [mask_mk, ite_mask, ite_self]; done) | split | dsimp only))

@[simp] theorem State.ueTotalAdd_mask {K : Nat} (s : State) (d u : Nat) (h : Covers K 0x2000) : (State.ueTotalAdd s d u).mask K = s.mask K := mask_mono h (by
  simp only [State.ueTotalAdd]
  repeat' (first | with_reducible rfl | decide | (simp (disch := first | exact .inl rfl | exact .inr rfl | rfl | decide) only [mask_mk, ite_mask, ite_self]; done) | split | dsimp only))

@[simp] theorem State.ueEvent_mask {K : Nat} (s : State) (l : MemLoc) (addr origin : Nat) (w : Agent) (h : Covers K 0x203e182000000000000000000000000000000000000000000000000000000000000000000000000000000000000000000000000000000402000000000000000000000010c800) : (State.ueEvent s l addr origin w).mask K = s.mask K := mask_mono h (by
  simp only [State.ueEvent]
  repeat' (first | with_reducible rfl | decide | (simp (disch := first | exact .inl rfl | exact .inr rfl | rfl | decide) only [mask_mk, ite_mask, ite_self, State.raise_mask, State.source_mask]; done) | split | dsimp only))

@[simp] theorem State.grnUe_mask {K : Nat} (s : State) (l : MemLoc) (g origin : Nat) (w : Agent) (h : Covers K 0x203e18200000000000000000000000000000000000000000000000000000000000000000000000000000000000000000000000021fe10402000000000000000000000010e800) : (State.grnUe s l g origin w).mask K = s.mask K := mask_mono h (by
  simp only [State.grnUe]
  repeat' (first | with_reducible rfl | decide | (simp (disch := first | exact .inl rfl | exact .inr rfl | rfl | decide) only [mask_mk, ite_mask, ite_self, State.addSat_mask, State.grnLog_mask, State.ueEvent_mask, State.ueTotalAdd_mask]; done) | split | dsimp only))

@[simp] theorem State.poison_mask {K : Nat} (s : State) (g syndrome : Nat) (h : Covers K 0x2000) : (State.poison s g syndrome).mask K = s.mask K := mask_mono h (by
  simp only [State.poison]
  repeat' (first | with_reducible rfl | decide | (simp (disch := first | exact .inl rfl | exact .inr rfl | rfl | decide) only [mask_mk, ite_mask, ite_self]; done) | split | dsimp only))

@[simp] theorem State.grnCorrected_mask {K : Nat} (s : State) (l : MemLoc) (addr syndrome master origin : Nat) (h : Covers K 0x1ffe100000000000000000000000000002000) : (State.grnCorrected s l addr syndrome master origin).mask K = s.mask K := mask_mono h (by
  have hg : ∀ n, Nat.testBit 0x1ffe100000000000000000000000000002000 (grnCe n).maskBit = true := by intro n; unfold grnCe; split <;> rfl
  simp (disch := first | exact hg _ | decide) [State.grnCorrected])

@[simp] theorem State.detect_mask {K : Nat} (s : State) (w : Agent) (origin g : Nat) (h : Covers K 0x203e18200000000000000000000000000000000000000000000000000000000000000000000000000000000000000000000000021fe10402000000000000000000000010e800) : (State.detect s w origin g).mask K = s.mask K := mask_mono h (by
  simp only [State.detect]
  repeat' (first | with_reducible rfl | decide | (simp (disch := first | exact .inl rfl | exact .inr rfl | rfl | decide) only [mask_mk, ite_mask, ite_self, State.grnUe_mask]; done) | split | dsimp only))

@[simp] theorem State.readUe_mask {K : Nat} (s : State) (g : Nat) (w : Agent) (h : Covers K 0x203e18200000000000000000000000000000000000000000000000000000000000000000000000000000000000000000000000021fe10402000000000000000000000010e800) : (State.readUe s g w).mask K = s.mask K := mask_mono h (by
  simp only [State.readUe]
  repeat' (first | with_reducible rfl | decide | (simp (disch := first | exact .inl rfl | exact .inr rfl | rfl | decide) only [mask_mk, ite_mask, ite_self, State.detect_mask]; done) | split | dsimp only))

@[simp] theorem State.store_mask {K : Nat} (s : State) (w : Agent) (a : Nat) (bs : List Byte) (h : Covers K 0x203e18200000000000000000000000000000000000000000000000000000000000000000000000000000000000000000000000021fe10402000000000000000000000010e820) : (State.store s w a bs).mask K = s.mask K := mask_mono h (by
  simp only [State.store]
  repeat' (first | with_reducible rfl | decide | with_reducible refine (mask_foldl _ (fun t e => ?_) _ _).trans ?_ | (simp (disch := first | exact .inl rfl | exact .inr rfl | rfl | decide) only [mask_mk, ite_mask, ite_self, State.detect_mask, State.write_mask]; done) | split | dsimp only | simp (disch := first | exact .inl rfl | exact .inr rfl | rfl | decide) only [mask_mk, ite_mask, ite_self, State.detect_mask, State.write_mask]))

@[simp] theorem State.stores_mask {K : Nat} (s : State) (w : Agent) (l : List (Nat × List Byte)) (h : Covers K 0x203e18200000000000000000000000000000000000000000000000000000000000000000000000000000000000000000000000021fe10402000000000000000000000010e820) : (State.stores s w l).mask K = s.mask K := mask_mono h (by
  simp only [State.stores]
  repeat' (first | with_reducible rfl | decide | with_reducible refine (mask_foldl _ (fun t e => ?_) _ _).trans ?_ | (simp (disch := first | exact .inl rfl | exact .inr rfl | rfl | decide) only [mask_mk, ite_mask, ite_self, State.store_mask]; done) | split | dsimp only))

@[simp] theorem State.setBuf_mask {K : Nat} (s : State) (d k i : Nat) (e : BufEnt) (h : Covers K 0x2000) : (State.setBuf s d k i e).mask K = s.mask K := mask_mono h (by
  simp only [State.setBuf]
  repeat' (first | with_reducible rfl | decide | (simp (disch := first | exact .inl rfl | exact .inr rfl | rfl | decide) only [mask_mk, ite_mask, ite_self]; done) | split | dsimp only))

@[simp] theorem State.moveBytes_mask {K : Nat} (s : State) (src dst n : Nat) (h : Covers K 0x2020) : (State.moveBytes s src dst n).mask K = s.mask K := mask_mono h (by
  simp only [State.moveBytes]
  repeat' (first | with_reducible rfl | decide | with_reducible refine (mask_foldl _ (fun t e => ?_) _ _).trans ?_ | (simp (disch := first | exact .inl rfl | exact .inr rfl | rfl | decide) only [mask_mk, ite_mask, ite_self, State.putByte_mask, State.zeroBytes_mask]; done) | split | dsimp only | simp (disch := first | exact .inl rfl | exact .inr rfl | rfl | decide) only [mask_mk, ite_mask, ite_self, State.putByte_mask, State.zeroBytes_mask]))

@[simp] theorem State.copyMem_mask {K : Nat} (s : State) (src dst n : Nat) (h : Covers K 0x203e18200000000000000000000000000000000000000000000000000000000000000000000000000000000000000000000000021fe10402000000000000000000000010e824) : (State.copyMem s src dst n).mask K = s.mask K := mask_mono h (by
  simp only [State.copyMem]
  repeat' (first | with_reducible rfl | decide | with_reducible refine (mask_foldl _ (fun t e => ?_) _ _).trans ?_ | (simp (disch := first | exact .inl rfl | exact .inr rfl | rfl | decide) only [mask_mk, ite_mask, ite_self, State.fresh_mask, State.moveBytes_mask, State.putBytes_mask, State.readUe_mask, State.wake_mask]; done) | split | dsimp only))

end Sys2Proof.Machine
end

