-- ==== Sys2Proof/Laws/KeepsLcp.lean ====
section
/-!
SUPPORT. Laws/KeepsLcp.lean: what each operation of Machine/Lcp.lean leaves alone: a mask (Laws/Mask.lean) that covers what the operation may write sees no
difference between the state before and the state after.
-/
set_option linter.unusedSimpArgs false
set_option linter.unusedVariables false

namespace Sys2Proof.Machine

@[simp] theorem State.putMsg_mask {K : Nat} (s : State) (dom : Dom) (m : Msg) (h : Covers K 0x80000000000000000000000000000000001000000000000000000000000014800) : (State.putMsg s dom m).mask K = s.mask K := mask_mono h (by
  simp only [State.putMsg]
  repeat' (first | with_reducible rfl | decide | (simp (disch := first | exact .inl rfl | exact .inr rfl | rfl | decide) only [mask_mk, ite_mask, ite_self, State.notify_mask, State.setBox_mask, State.setMb_mask]; done) | split | dsimp only))

@[simp] theorem State.settle_mask {K : Nat} (s : State) (dom : Dom) (h : Covers K 0x800) : (State.settle s dom).mask K = s.mask K := mask_mono h (by
  simp only [State.settle]
  repeat' (first | with_reducible rfl | decide | (simp (disch := first | exact .inl rfl | exact .inr rfl | rfl | decide) only [mask_mk, ite_mask, ite_self]; done) | split | dsimp only))

@[simp] theorem State.respond_mask {K : Nat} (s : State) (r : Req) (opcode : Nat) (st : Status) (payload : List Byte) (h : Covers K 0x80000000000000000000000000000000001000000000000000000000000014800) : (State.respond s r opcode st payload).mask K = s.mask K := mask_mono h (by
  simp only [State.respond]
  repeat' (first | with_reducible rfl | decide | (simp (disch := first | exact .inl rfl | exact .inr rfl | rfl | decide) only [mask_mk, ite_mask, ite_self, State.putMsg_mask, State.setBox_mask, State.settle_mask]; done) | split | dsimp only))

@[simp] theorem State.answer_mask {K : Nat} (s : State) (r : Req) (opcode : Nat) (st : Status) (payload : List Byte) (h : Covers K 0x80000000000000000000000000000000001000000000000000000000000014800) : (State.answer s r opcode st payload).mask K = s.mask K := mask_mono h (by
  simp only [State.answer]
  repeat' (first | with_reducible rfl | decide | (simp (disch := first | exact .inl rfl | exact .inr rfl | rfl | decide) only [mask_mk, ite_mask, ite_self, State.respond_mask, State.setBox_mask]; done) | split | dsimp only))

@[simp] theorem State.stopActivation_mask {K : Nat} (s : State) (h : Covers K 0x1000) : (State.stopActivation s).mask K = s.mask K := mask_mono h (by
  simp only [State.stopActivation]
  repeat' (first | with_reducible rfl | decide | (simp (disch := first | exact .inl rfl | exact .inr rfl | rfl | decide) only [mask_mk, ite_mask, ite_self]; done) | split | dsimp only))

@[simp] theorem State.noteChange_mask {K : Nat} (s : State) (kind die : Nat) (h : Covers K 0x1004) : (State.noteChange s kind die).mask K = s.mask K := mask_mono h (by
  simp only [State.noteChange]
  repeat' (first | with_reducible rfl | decide | (simp (disch := first | exact .inl rfl | exact .inr rfl | rfl | decide) only [mask_mk, ite_mask, ite_self]; done) | split | dsimp only))

@[simp] theorem State.begin_mask {K : Nat} (s : State) (r : Req) (opcode : Nat) (h : Covers K 0x800) : (State.begin s r opcode).mask K = s.mask K := mask_mono h (by
  simp only [State.begin]
  repeat' (first | with_reducible rfl | decide | (simp (disch := first | exact .inl rfl | exact .inr rfl | rfl | decide) only [mask_mk, ite_mask, ite_self, State.setBox_mask, State.settle_mask]; done) | split | dsimp only))

@[simp] theorem State.handling_mask {K : Nat} (s : State) (r : Req) (opcode : Nat) (h : Covers K 0x800) : (State.handling s r opcode).mask K = s.mask K := mask_mono h (by
  simp only [State.handling]
  repeat' (first | with_reducible rfl | decide | (simp (disch := first | exact .inl rfl | exact .inr rfl | rfl | decide) only [mask_mk, ite_mask, ite_self, State.begin_mask]; done) | split | dsimp only))

@[simp] theorem State.answered_mask {K : Nat} (t : State) (r : Req) (opcode : Nat) (die : Option Nat) (ans : Option (Status × List Byte)) (h : Covers K 0x80000000000000000000000000000000001000000000000000000000000015804) : (State.answered t r opcode die ans).mask K = t.mask K := mask_mono h (by
  simp only [State.answered]
  repeat' (first | with_reducible rfl | decide | (simp (disch := first | exact .inl rfl | exact .inr rfl | rfl | decide) only [mask_mk, ite_mask, ite_self, State.noteChange_mask, State.respond_mask]; done) | split | dsimp only))

theorem State.serve_mask {K : Nat} (s : State) (r : Req) (opcode : Nat) (die : Option Nat) (body : State → Reply) (h : Covers K 0x80000000000000000000000000000000001000000000000000000000000015804) (he : ∀ t, (body t).st.mask K = t.mask K) : (State.serve s r opcode die body).mask K = s.mask K := by
  have hb : ∀ i, Nat.testBit 0x80000000000000000000000000000000001000000000000000000000000015804 i = true → K.testBit i = true := fun i => testBit_of_land h
  have hl : ∀ j, Covers 0x80000000000000000000000000000000001000000000000000000000000015804 j → Covers K j := fun j hj => land_trans h hj
  simp only [State.serve]
  repeat' (first | with_reducible rfl | exact hl _ (by decide) | (simp (disch := first | exact .inl (hb _ rfl) | exact .inr rfl | exact hl _ (by decide) | exact hb _ (by decide) | assumption | rfl) only [mask_mk, ite_mask, ite_self, State.answered_mask, State.handling_mask, State.respond_mask, he]; done) | split | dsimp only)

@[simp] theorem State.mbClose_mask {K : Nat} (s : State) (dom : Dom) (h : Covers K 0x67c60000000000000000000000000800) : (State.mbClose s dom).mask K = s.mask K := mask_mono h (by
  simp only [State.mbClose]
  repeat' (first | with_reducible rfl | decide | with_reducible refine (State.restore_mask _ _ (fun k hk => by replace hk := (Bool.and_eq_true_iff.mp hk).2; split at hk <;> first | (cases hk; done) | (rename_i hf; rw [hf]; decide))).trans ?_ | (simp (disch := first | exact .inl rfl | exact .inr rfl | rfl | decide) only [mask_mk, ite_mask, ite_self, State.setBox_mask]; done) | split | dsimp only))

end Sys2Proof.Machine
end

