-- ==== Sys2Proof/Laws/KeepsQueues.lean ====
section
/-!
SUPPORT. Laws/KeepsQueues.lean: what each operation of Machine/Queues.lean leaves alone: a mask (Laws/Mask.lean) that covers what the operation may write sees no
difference between the state before and the state after.
-/
set_option linter.unusedSimpArgs false
set_option linter.unusedVariables false

namespace Sys2Proof.Machine

@[simp] theorem State.setSilo_mask {K : Nat} (s : State) (d k : Nat) (x : SiloState) (h : Covers K 0x40000) : (State.setSilo s d k x).mask K = s.mask K := mask_mono h (by
  simp only [State.setSilo]
  repeat' (first | with_reducible rfl | decide | (simp (disch := first | exact .inl rfl | exact .inr rfl | rfl | decide) only [mask_mk, ite_mask, ite_self]; done) | split | dsimp only))

@[simp] theorem State.siloGone_mask {K : Nat} (s : State) (d k : Nat) (h : Covers K 0x80000000000000000000000000000000001000000000000000000000000014800) : (State.siloGone s d k).mask K = s.mask K := mask_mono h (by
  simp only [State.siloGone]
  repeat' (first | with_reducible rfl | decide | (simp (disch := first | exact .inl rfl | exact .inr rfl | rfl | decide) only [mask_mk, ite_mask, ite_self, State.answer_mask]; done) | split | dsimp only))

@[simp] theorem State.setQueue_mask {K : Nat} (s : State) (q : Nat) (x : Queue) (h : Covers K 0x40000) : (State.setQueue s q x).mask K = s.mask K := mask_mono h (by
  simp only [State.setQueue]
  repeat' (first | with_reducible rfl | decide | (simp (disch := first | exact .inl rfl | exact .inr rfl | rfl | decide) only [mask_mk, ite_mask, ite_self]; done) | split | dsimp only))

@[simp] theorem State.setPlaced_mask {K : Nat} (s : State) (d : Nat) (r : SlotRef) (p : Placed) (h : Covers K 0x40000) : (State.setPlaced s d r p).mask K = s.mask K := mask_mono h (by
  simp only [State.setPlaced]
  repeat' (first | with_reducible rfl | decide | (simp (disch := first | exact .inl rfl | exact .inr rfl | rfl | decide) only [mask_mk, ite_mask, ite_self]; done) | split | dsimp only))

@[simp] theorem State.setSheaf_mask {K : Nat} (s : State) (q : Nat) (x2 : Sheaf) (h : Covers K 0x40000) : (State.setSheaf s q x2).mask K = s.mask K := mask_mono h (by
  simp only [State.setSheaf]
  repeat' (first | with_reducible rfl | decide | (simp (disch := first | exact .inl rfl | exact .inr rfl | rfl | decide) only [mask_mk, ite_mask, ite_self, State.setQueue_mask]; done) | split | dsimp only))

@[simp] theorem State.setPos_mask {K : Nat} (s : State) (q hdr idx : Nat) (p : CmdPos) (h : Covers K 0x40000) : (State.setPos s q hdr idx p).mask K = s.mask K := mask_mono h (by
  simp only [State.setPos]
  repeat' (first | with_reducible rfl | decide | (simp (disch := first | exact .inl rfl | exact .inr rfl | rfl | decide) only [mask_mk, ite_mask, ite_self, State.setSheaf_mask]; done) | split | dsimp only))

@[simp] theorem State.memAdd_mask {K : Nat} (s : State) (d a n x : Nat) (h : Covers K 0x203e18200000000000000000000000000000000000000000000000000000000000000000000000000000000000000000000000021fe10402000000000000000000000010e820) : (State.memAdd s d a n x).mask K = s.mask K := mask_mono h (by
  simp only [State.memAdd]
  repeat' (first | with_reducible rfl | decide | (simp (disch := first | exact .inl rfl | exact .inr rfl | rfl | decide) only [mask_mk, ite_mask, ite_self, State.store_mask]; done) | split | dsimp only))

@[simp] theorem State.chargeBroken_mask {K : Nat} (s : State) (d k : Nat) (h : Covers K 0x203e18200000000000000000000000000000000000000000000000000000000000000000000000000000000000000000000000021fe10402000000000000000000000010e820) : (State.chargeBroken s d k).mask K = s.mask K := mask_mono h (by
  simp only [State.chargeBroken]
  repeat' (first | with_reducible rfl | decide | with_reducible refine (mask_foldl _ (fun t e => ?_) _ _).trans ?_ | (simp (disch := first | exact .inl rfl | exact .inr rfl | rfl | decide) only [mask_mk, ite_mask, ite_self, State.memAdd_mask]; done) | split | dsimp only))

@[simp] theorem State.guaranteeBroken_mask {K : Nat} (s : State) (d k kind amount cause queue : Nat) (h : Covers K 0x203e18200000000000000000000000000000000000000000000000000000000000000000000000000008000000000000000000021fe10402000000000000000000000014e820) : (State.guaranteeBroken s d k kind amount cause queue).mask K = s.mask K := mask_mono h (by
  simp only [State.guaranteeBroken]
  repeat' (first | with_reducible rfl | decide | (simp (disch := first | exact .inl rfl | exact .inr rfl | rfl | decide) only [mask_mk, ite_mask, ite_self, State.chargeBroken_mask, State.flag_mask, State.raise_mask, State.setSilo_mask, State.source_mask]; done) | split | dsimp only))

@[simp] theorem State.dropImages_mask {K : Nat} (s : State) (st : Status) (which : Nat → Bool) (h : Covers K 0x80000000000000000000000000000000001000000000000000000000000414800) : (State.dropImages s st which).mask K = s.mask K := mask_mono h (by
  simp only [State.dropImages]
  repeat' (first | with_reducible rfl | decide | with_reducible refine (mask_foldl _ (fun t e => ?_) _ _).trans ?_ | (simp (disch := first | exact .inl rfl | exact .inr rfl | rfl | decide) only [mask_mk, ite_mask, ite_self, State.answer_mask]; done) | split | dsimp only))

@[simp] theorem State.unsync_mask {K : Nat} (s : State) (why : Nat) (h : Covers K 0x203e182000040000000000000000000000000000000000000000000000000000000000000008000000000000000000000000000000000502000000000000000000000051c800) : (State.unsync s why).mask K = s.mask K := mask_mono h (by
  simp only [State.unsync]
  repeat' (first | with_reducible rfl | decide | (simp (disch := first | exact .inl rfl | exact .inr rfl | rfl | decide) only [mask_mk, ite_mask, ite_self, State.dropImages_mask, State.flag_mask, State.raise_mask, State.source_mask]; done) | split | dsimp only))

@[simp] theorem State.mirrorPush_mask {K : Nat} (s : State) (fn : Dom) (rs : List MirrorRec) (h : Covers K 0x500000000000000000000000000000000000000000000000000000000000000000000000000000000000000000000000000000000000000000000000000000410000) : (State.mirrorPush s fn rs).mask K = s.mask K := mask_mono h (by
  simp only [State.mirrorPush]
  repeat' (first | with_reducible rfl | decide | (simp (disch := first | exact .inl rfl | exact .inr rfl | rfl | decide) only [mask_mk, ite_mask, ite_self, State.send_mask, State.setFld_mask]; done) | split | dsimp only))

@[simp] theorem State.mirrorChange_mask {K : Nat} (s : State) (fn : Dom) (rs : List MirrorRec) (h : Covers K 0x203e182050040000000000000000000000000000000000000000000000000000000000000008000000000000000000000000000000000502000000000000000000000051c800) : (State.mirrorChange s fn rs).mask K = s.mask K := mask_mono h (by
  simp only [State.mirrorChange]
  repeat' (first | with_reducible rfl | decide | (simp (disch := first | exact .inl rfl | exact .inr rfl | rfl | decide) only [mask_mk, ite_mask, ite_self, State.mirrorPush_mask, State.unsync_mask]; done) | split | dsimp only))

@[simp] theorem State.changeBuf_mask {K : Nat} (s : State) (d k i : Nat) (e : BufEnt) (h : Covers K 0x203e182050040000000000000000000000000000000000000000000000000000000000000008000000000000000000000000000000000502000000000000000000000051e800) : (State.changeBuf s d k i e).mask K = s.mask K := mask_mono h (by
  simp only [State.changeBuf]
  repeat' (first | with_reducible rfl | decide | (simp (disch := first | exact .inl rfl | exact .inr rfl | rfl | decide) only [mask_mk, ite_mask, ite_self, State.mirrorChange_mask, State.setBuf_mask]; done) | split | dsimp only))

@[simp] theorem State.putRecord_mask {K : Nat} (s : State) (id : Nat) (q : Queue) (r : List Byte) (h : Covers K 0x203e18200000000000000000000000000000000000000000000000000000000000000000000800000000000000000000000000021fe10402000000000000000000000015e820) : (State.putRecord s id q r).mask K = s.mask K := mask_mono h (by
  simp only [State.putRecord]
  repeat' (first | with_reducible rfl | decide | (simp (disch := first | exact .inl rfl | exact .inr rfl | rfl | decide) only [mask_mk, ite_mask, ite_self, State.msix_mask, State.setQueue_mask, State.store_mask]; done) | split | dsimp only))

@[simp] theorem State.giveRecord_mask {K : Nat} (s : State) (id : Nat) (r : List Byte) (h : Covers K 0x203e18200000000000000000000000000000000000000000000000000000000000000000000800000000000000000000000000021fe10402000000000000000000000015e820) : (State.giveRecord s id r).mask K = s.mask K := mask_mono h (by
  simp only [State.giveRecord]
  repeat' (first | with_reducible rfl | decide | (simp (disch := first | exact .inl rfl | exact .inr rfl | rfl | decide) only [mask_mk, ite_mask, ite_self, State.putRecord_mask, State.setQueue_mask]; done) | split | dsimp only))

@[simp] theorem State.account_mask {K : Nat} (s : State) (d : Nat) (q : Queue) (x3 : Sheaf) (h : Covers K 0x203e18200000000000000000000000000000000000000000000000000000000000000000000000000000000000000000000000021fe10402000000000000000000000010e820) : (State.account s d q x3).mask K = s.mask K := mask_mono h (by
  simp only [State.account]
  repeat' (first | with_reducible rfl | decide | (simp (disch := first | exact .inl rfl | exact .inr rfl | rfl | decide) only [mask_mk, ite_mask, ite_self, State.memAdd_mask, State.store_mask]; done) | split | dsimp only))

@[simp] theorem State.outputEnd_mask {K : Nat} (s : State) (id d : Nat) (x3 : Sheaf) (status : Nat) (h : Covers K 0x203e18200000000000000000000000000000000000000000000000000000000000000000000000000000000000000000000000021fe10402000000000000000000000014e820) : (State.outputEnd s id d x3 status).mask K = s.mask K := mask_mono h (by
  simp only [State.outputEnd]
  repeat' (first | with_reducible rfl | decide | (simp (disch := first | exact .inl rfl | exact .inr rfl | rfl | decide) only [mask_mk, ite_mask, ite_self, State.addSat_mask, State.safeEnter_mask, State.setFld_mask, State.setSilo_mask, State.store_mask]; done) | split | dsimp only))

@[simp] theorem State.drainCheck_mask {K : Nat} (s : State) (id : Nat) (h : Covers K 0x80000000000000000000000000000000001000000000000000000000000054800) : (State.drainCheck s id).mask K = s.mask K := mask_mono h (by
  simp only [State.drainCheck]
  repeat' (first | with_reducible rfl | decide | with_reducible refine (mask_foldl _ (fun t e => ?_) _ _).trans ?_ | (simp (disch := first | exact .inl rfl | exact .inr rfl | rfl | decide) only [mask_mk, ite_mask, ite_self, State.answer_mask, State.setQueue_mask]; done) | split | dsimp only))

@[simp] theorem State.freezeCheck_mask {K : Nat} (s : State) (fn : Dom) (h : Covers K 0x80000000000000000000000000000000001000000000000000000000000094800) : (State.freezeCheck s fn).mask K = s.mask K := mask_mono h (by
  simp only [State.freezeCheck]
  repeat' (first | with_reducible rfl | decide | with_reducible refine (mask_foldl _ (fun t e => ?_) _ _).trans ?_ | (simp (disch := first | exact .inl rfl | exact .inr rfl | rfl | decide) only [mask_mk, ite_mask, ite_self, State.answer_mask]; done) | split | dsimp only))

@[simp] theorem State.lateRecord_mask {K : Nat} (s : State) (fn : Dom) (h : Covers K 0x2000000000000000000000000000000000000000000000000000000000000000000) : (State.lateRecord s fn).mask K = s.mask K := mask_mono h (by
  simp only [State.lateRecord]
  repeat' (first | with_reducible rfl | decide | (simp (disch := first | exact .inl rfl | exact .inr rfl | rfl | decide) only [mask_mk, ite_mask, ite_self, State.addSat_mask]; done) | split | dsimp only))

@[simp] theorem State.finish_mask {K : Nat} (s : State) (id : Nat) (x2 : Sheaf) (status : Nat) (h : Covers K 0x203e18205004000000000000000000000000000000000000000000000000000000000000020800400000000000000000000000021fe10502000000000000000000000055e820) : (State.finish s id x2 status).mask K = s.mask K := mask_mono h (by
  simp only [State.finish]
  repeat' (first | with_reducible rfl | decide | (simp (disch := first | exact .inl rfl | exact .inr rfl | rfl | decide) only [mask_mk, ite_mask, ite_self, State.account_mask, State.drainCheck_mask, State.giveRecord_mask, State.lateRecord_mask, State.mirrorChange_mask, State.outputEnd_mask, State.setFld_mask, State.setQueue_mask, State.setSheaf_mask, State.setSilo_mask]; done) | split | dsimp only))

@[simp] theorem State.finishIdle_mask {K : Nat} (s : State) (id hdr : Nat) (h : Covers K 0x203e18205004000000000000000000000000000000000000000000000000000000000000020800400000000000000000000000021fe10502000000000000000000000055e820) : (State.finishIdle s id hdr).mask K = s.mask K := mask_mono h (by
  simp only [State.finishIdle]
  repeat' (first | with_reducible rfl | decide | (simp (disch := first | exact .inl rfl | exact .inr rfl | rfl | decide) only [mask_mk, ite_mask, ite_self, State.finish_mask]; done) | split | dsimp only))

@[simp] theorem State.countCycles_mask {K : Nat} (s : State) (d core : Nat) (slot : SlotKind) (p : Placed) (n : Nat × Nat) (h : Covers K 0x18060180000000000000000000000000000000000000000000000) : (State.countCycles s d core slot p n).mask K = s.mask K := mask_mono h (by
  cases slot <;> simp only [State.countCycles, cycleFlds]
  all_goals repeat' (first | with_reducible rfl | (simp (disch := first | exact .inl rfl | exact .inr rfl | rfl | decide); done) | split))

@[simp] theorem State.runOn_mask {K : Nat} (s : State) (d : Nat) (r : SlotRef) (n a w : Nat) (h : Covers K 0x203e18200000000000000000000000000000000000000000000000000000000000000000000000000000000180601800000000021fe10402000000000000000000000014e820) : (State.runOn s d r n a w).mask K = s.mask K := mask_mono h (by
  simp only [State.runOn]
  repeat' (first | with_reducible rfl | decide | (simp (disch := first | exact .inl rfl | exact .inr rfl | rfl | decide) only [mask_mk, ite_mask, ite_self, State.countCycles_mask, State.setPlaced_mask, State.stores_mask]; done) | split | dsimp only))

@[simp] theorem State.runOut_mask {K : Nat} (s : State) (d : Nat) (r : SlotRef) (h : Covers K 0x203e18200000000000000000000000000000000000000000000000000000000000000000000000000000000180601800000000021fe10402000000000000000000000014e820) : (State.runOut s d r).mask K = s.mask K := mask_mono h (by
  simp only [State.runOut]
  repeat' (first | with_reducible rfl | decide | (simp (disch := first | exact .inl rfl | exact .inr rfl | rfl | decide) only [mask_mk, ite_mask, ite_self, State.runOn_mask]; done) | split | dsimp only))

@[simp] theorem State.runPart_mask {K : Nat} (s : State) (d : Nat) (r : SlotRef) (h : Covers K 0x203e18200000000000000000000000000000000000000000000000000000000000000000000000000000000180601800000000021fe10402000000000000000000000014e824) : (State.runPart s d r).mask K = s.mask K := mask_mono h (by
  simp only [State.runPart]
  repeat' (first | with_reducible rfl | decide | (simp (disch := first | exact .inl rfl | exact .inr rfl | rfl | decide) only [mask_mk, ite_mask, ite_self, State.fresh_mask, State.runOn_mask]; done) | split | dsimp only))

@[simp] theorem State.showPlan_mask {K : Nat} (s : State) (d core : Nat) (w : Option (Nat × Nat × Bool × Bool × Bool)) (h : Covers K 0x7c0000000000000000000000000000000000000000000000000000) : (State.showPlan s d core w).mask K = s.mask K := mask_mono h (by
  simp only [State.showPlan]
  repeat' (first | with_reducible rfl | decide | (simp (disch := first | exact .inl rfl | exact .inr rfl | rfl | decide) only [mask_mk, ite_mask, ite_self, State.setFlds_nil_mask, State.setFlds_cons_mask, State.setFld_mask]; done) | split | dsimp only))

@[simp] theorem State.showWindow_mask {K : Nat} (s : State) (d c : Nat) (h : Covers K 0xfc0000000000000000000000000000000000000000000000000000) : (State.showWindow s d c).mask K = s.mask K := mask_mono h (by
  simp only [State.showWindow]
  repeat' (first | with_reducible rfl | decide | (simp (disch := first | exact .inl rfl | exact .inr rfl | rfl | decide) only [mask_mk, ite_mask, ite_self, State.setFld_mask, State.showPlan_mask]; done) | split | dsimp only))

@[simp] theorem State.showActive_mask {K : Nat} (s : State) (d : Nat) (r : SlotRef) (p : Placed) (on : Bool) (h : Covers K 0xfc6018040000000000000000000000000000000000000000000000) : (State.showActive s d r p on).mask K = s.mask K := mask_mono h (by
  cases r with
  | raster c => rfl
  | core c slot =>
    cases slot <;> simp only [State.showActive, activeFld]
    all_goals repeat' (first | with_reducible rfl | (simp (disch := first | exact .inl rfl | exact .inr rfl | rfl | decide); done) | split))

@[simp] theorem State.reserveTime_mask {K : Nat} (s : State) (d c : Nat) (p : Placed) (h : Covers K 0x40000) : (State.reserveTime s d c p).mask K = s.mask K := mask_mono h (by
  simp only [State.reserveTime]
  repeat' (first | with_reducible rfl | decide | with_reducible refine (mask_foldl _ (fun t e => ?_) _ _).trans ?_ | (simp (disch := first | exact .inl rfl | exact .inr rfl | rfl | decide) only [mask_mk, ite_mask, ite_self, State.setSilo_mask]; done) | split | dsimp only))

@[simp] theorem State.reap_mask {K : Nat} (s : State) (h : Covers K 0x203e182050040000000000000000000000000000000000000000000000000000000000000008000000000000000000000000000000000502000000000000000000000051e800) : (State.reap s).mask K = s.mask K := mask_mono h (by
  simp only [State.reap]
  repeat' (first | with_reducible rfl | decide | with_reducible refine (mask_foldl _ (fun t e => ?_) _ _).trans ?_ | (simp (disch := first | exact .inl rfl | exact .inr rfl | rfl | decide) only [mask_mk, ite_mask, ite_self, State.changeBuf_mask]; done) | split | dsimp only))

@[simp] theorem State.leave_mask {K : Nat} (s : State) (d : Nat) (r : SlotRef) (h : Covers K 0x203e1820500400000000000000000000000000000000000000000000000000000000000000080000000000fc601804000000000000000502000000000000000000000055e800) : (State.leave s d r).mask K = s.mask K := mask_mono h (by
  simp only [State.leave]
  repeat' (first | with_reducible rfl | decide | (simp (disch := first | exact .inl rfl | exact .inr rfl | rfl | decide) only [mask_mk, ite_mask, ite_self, State.reap_mask, State.reserveTime_mask, State.setSilo_mask, State.showActive_mask]; done) | split | dsimp only))

@[simp] theorem State.leaveBoth_mask {K : Nat} (s : State) (d : Nat) (r : SlotRef) (h : Covers K 0x203e1820500400000000000000000000000000000000000000000000000000000000000000080000000000fc601804000000000000000502000000000000000000000055e800) : (State.leaveBoth s d r).mask K = s.mask K := mask_mono h (by
  simp only [State.leaveBoth]
  repeat' (first | with_reducible rfl | decide | (simp (disch := first | exact .inl rfl | exact .inr rfl | rfl | decide) only [mask_mk, ite_mask, ite_self, State.leave_mask]; done) | split | dsimp only))

@[simp] theorem State.stopBoth_mask {K : Nat} (s : State) (d : Nat) (r : SlotRef) (h : Covers K 0x203e1820500400000000000000000000000000000000000000000000000000000000000000080000000000fde0781c00000000021fe10502000000000000000000000055e824) : (State.stopBoth s d r).mask K = s.mask K := mask_mono h (by
  simp only [State.stopBoth]
  repeat' (first | with_reducible rfl | decide | (simp (disch := first | exact .inl rfl | exact .inr rfl | rfl | decide) only [mask_mk, ite_mask, ite_self, State.leave_mask, State.runPart_mask]; done) | split | dsimp only))

@[simp] theorem State.kill_mask {K : Nat} (s : State) (d : Nat) (r : SlotRef) (rerun : Bool) (h : Covers K 0x203e1820500400000000000000000000000000000000000000000000000000000000000002080040000000fde0781c00000000021fe1050200000000000000000000005de824) : (State.kill s d r rerun).mask K = s.mask K := mask_mono h (by
  cases r with
  | raster c => 
    simp only [State.kill]
    repeat' (first | with_reducible rfl | (simp (disch := first | exact .inl rfl | exact .inr rfl | rfl | decide); done) | split)
  | core c slot =>
    cases slot <;> simp only [State.kill, cycleFlds]
    all_goals repeat' (first | with_reducible rfl | (simp (disch := first | exact .inl rfl | exact .inr rfl | rfl | decide); done) | split))

@[simp] theorem State.killWhere_mask {K : Nat} (s : State) (d : Nat) (rerun : Bool) (sel : SlotRef → Placed → Bool) (h : Covers K 0x203e1820500400000000000000000000000000000000000000000000000000000000000002080040000000fde0781c00000000021fe1050200000000000000000000005de824) : (State.killWhere s d rerun sel).mask K = s.mask K := mask_mono h (by
  simp only [State.killWhere]
  repeat' (first | with_reducible rfl | decide | with_reducible refine (mask_foldl _ (fun t e => ?_) _ _).trans ?_ | (simp (disch := first | exact .inl rfl | exact .inr rfl | rfl | decide) only [mask_mk, ite_mask, ite_self, State.kill_mask]; done) | split | dsimp only))

@[simp] theorem State.endSheaf_mask {K : Nat} (s : State) (id hdr status engStatus failed : Nat) (h : Covers K 0x203e1820500400000000000000000000000000000000000000000000000000000000000002080040000000fde0781c00000000021fe1050200000000000000000000005de824) : (State.endSheaf s id hdr status engStatus failed).mask K = s.mask K := mask_mono h (by
  simp only [State.endSheaf]
  repeat' (first | with_reducible rfl | decide | (simp (disch := first | exact .inl rfl | exact .inr rfl | rfl | decide) only [mask_mk, ite_mask, ite_self, State.finishIdle_mask, State.killWhere_mask, State.setSheaf_mask]; done) | split | dsimp only))

@[simp] theorem State.cancelWhere_mask {K : Nat} (s : State) (sel : Nat → Sheaf → Bool) (h : Covers K 0x203e1820500400000000000000000000000000000000000000000000000000000000000002080040000000fde0781c00000000021fe1050200000000000000000000005de824) : (State.cancelWhere s sel).mask K = s.mask K := mask_mono h (by
  simp only [State.cancelWhere]
  repeat' (first | with_reducible rfl | decide | with_reducible refine (mask_foldl _ (fun t e => ?_) _ _).trans ?_ | (simp (disch := first | exact .inl rfl | exact .inr rfl | rfl | decide) only [mask_mk, ite_mask, ite_self, State.endSheaf_mask]; done) | split | dsimp only))

end Sys2Proof.Machine
end

