-- ==== Sys2Proof/Laws/KeepsOperands.lean ====
section
/-!
SUPPORT. Laws/KeepsOperands.lean: what each operation of Machine/Operands.lean leaves alone: a mask (Laws/Mask.lean) that covers what the operation may write sees no
difference between the state before and the state after.
-/
set_option linter.unusedSimpArgs false
set_option linter.unusedVariables false

namespace Sys2Proof.Machine

@[simp] theorem State.busyOf_mask {K : Nat} (s : State) (j : Job) (h : Covers K 0x4) : (State.busyOf s j).2.mask K = s.mask K := mask_mono h (by
  simp only [State.busyOf]
  repeat' (first | with_reducible rfl | decide | (simp (disch := first | exact .inl rfl | exact .inr rfl | rfl | decide) only [mask_mk, ite_mask, ite_self, State.fresh_mask]; done) | split | dsimp only))

@[simp] theorem State.ranTo_mask {K : Nat} (s : State) (d core : Nat) (slot : SlotKind) (p : Placed) (j0 : Job) (h : Covers K 0x203e18200000000000000000000000000000000000000000000000000000000000000000000000000000007d80601800000000021fe104027fc000000000000000000014e824) : (State.ranTo s d core slot p j0).mask K = s.mask K := mask_mono h (by
  simp only [State.ranTo]
  repeat' (first | with_reducible rfl | decide | with_reducible refine (mask_foldl _ (fun t e => ?_) _ _).trans ?_ | (simp (disch := first | exact .inl rfl | exact .inr rfl | rfl | decide) only [mask_mk, ite_mask, ite_self, State.busyOf_mask, State.fabLog_mask, State.fresh_mask, State.readUe_mask, State.runPart_mask, State.setPlaced_mask, State.showPlan_mask, State.stores_mask, State.wake_mask]; done) | split | dsimp only | simp (disch := first | exact .inl rfl | exact .inr rfl | rfl | decide) only [mask_mk, ite_mask, ite_self, State.busyOf_mask, State.fabLog_mask, State.fresh_mask, State.readUe_mask, State.runPart_mask, State.setPlaced_mask, State.showPlan_mask, State.stores_mask, State.wake_mask]))

@[simp] theorem State.runRow_mask {K : Nat} (s : State) (d core : Nat) (slot : SlotKind) (engine : Nat) (mine known : Nat → Bool) (go : Placed → Job) (h : Covers K 0x203e18200000000000000000000000000000000000000000000000000000000000000000000000000000007d80601800000000021fe104027fc000000000000000000014e824) : Kept K s (State.runRow s d core slot engine mine known go) := kept_mono h (by
  simp only [State.runRow]
  repeat' (first | with_reducible rfl | decide | with_reducible refine kept_next.2 ?_ | (simp (disch := first | exact .inl rfl | exact .inr rfl | rfl | decide) only [mask_mk, ite_mask, ite_self, kept_next, State.ranTo_mask]; done) | split | dsimp only))

end Sys2Proof.Machine
end

