-- ==== Sys2Proof/Laws/KeepsAttend.lean ====
section
/-!
SUPPORT. Laws/KeepsAttend.lean: what each operation of Machine/Attend.lean leaves alone: a mask (Laws/Mask.lean) that covers what the operation may write sees no
difference between the state before and the state after.
-/
set_option linter.unusedSimpArgs false
set_option linter.unusedVariables false

namespace Sys2Proof.Machine

@[simp] theorem State.runFused_mask {K : Nat} (s : State) (d core op : Nat) (go : Placed → Job) (h : Covers K 0x203e18200000000000000000000000000000000000000000000000000000000000000000000000000000087d80601800000000021fe104027fc000000000000000000014e824) : Kept K s (State.runFused s d core op go) := kept_mono h (by
  simp only [State.runFused]
  split
  · refine kept_trans ?_ (State.runRow_mask _ _ _ _ _ _ _ _ rfl)
    split
    · exact State.flag_mask _ _ _ _ rfl
    · rfl
  · exact State.runRow_mask _ _ _ _ _ _ _ _ rfl)

@[simp] theorem execAttend_mask {K : Nat} (d core : Nat) (s : State) (h : Covers K 0x203e18200000000000000000000000000000000000000000000000000000000000000000000000000000087d80601800000000021fe104027fc000000000000000000014e824) : Kept K s (execAttend d core s) := kept_mono h (by
  simp only [execAttend]
  repeat' (first | with_reducible rfl | decide | with_reducible refine kept_next.2 ?_ | (simp (disch := first | exact .inl rfl | exact .inr rfl | rfl | decide) only [mask_mk, ite_mask, ite_self, kept_next, State.runFused_mask]; done) | split | dsimp only))

@[simp] theorem execKvAppend_mask {K : Nat} (d core : Nat) (s : State) (h : Covers K 0x203e18200000000000000000000000000000000000000000000000000000000000000000000000000000087d80601800000000021fe104027fc000000000000000000014e824) : Kept K s (execKvAppend d core s) := kept_mono h (by
  simp only [execKvAppend]
  repeat' (first | with_reducible rfl | decide | with_reducible refine kept_next.2 ?_ | (simp (disch := first | exact .inl rfl | exact .inr rfl | rfl | decide) only [mask_mk, ite_mask, ite_self, kept_next, State.runFused_mask]; done) | split | dsimp only))

@[simp] theorem execKvFork_mask {K : Nat} (d core : Nat) (s : State) (h : Covers K 0x203e18200000000000000000000000000000000000000000000000000000000000000000000000000000087d80601800000000021fe104027fc000000000000000000014e824) : Kept K s (execKvFork d core s) := kept_mono h (by
  simp only [execKvFork]
  repeat' (first | with_reducible rfl | decide | with_reducible refine kept_next.2 ?_ | (simp (disch := first | exact .inl rfl | exact .inr rfl | rfl | decide) only [mask_mk, ite_mask, ite_self, kept_next, State.runFused_mask]; done) | split | dsimp only))

@[simp] theorem execKvRelease_mask {K : Nat} (d core : Nat) (s : State) (h : Covers K 0x203e18200000000000000000000000000000000000000000000000000000000000000000000000000000087d80601800000000021fe104027fc000000000000000000014e824) : Kept K s (execKvRelease d core s) := kept_mono h (by
  simp only [execKvRelease]
  repeat' (first | with_reducible rfl | decide | with_reducible refine kept_next.2 ?_ | (simp (disch := first | exact .inl rfl | exact .inr rfl | rfl | decide) only [mask_mk, ite_mask, ite_self, kept_next, State.runFused_mask]; done) | split | dsimp only))

end Sys2Proof.Machine
end

