-- ==== Sys2Proof/Laws/KeepsBundle.lean ====
section
/-!
SUPPORT. Laws/KeepsBundle.lean: what each operation of Machine/Bundle.lean leaves alone: a mask (Laws/Mask.lean) that covers what the operation may write sees no
difference between the state before and the state after.
-/
set_option linter.unusedSimpArgs false
set_option linter.unusedVariables false

namespace Sys2Proof.Machine

@[simp] theorem State.extend_mask {K : Nat} (s : State) (i : Nat) (d : BitVec 384) (h : Covers K 0x200000) : (State.extend s i d).mask K = s.mask K := mask_mono h (by
  simp only [State.extend]
  repeat' (first | with_reducible rfl | decide | (simp (disch := first | exact .inl rfl | exact .inr rfl | rfl | decide) only [mask_mk, ite_mask, ite_self]; done) | split | dsimp only))

@[simp] theorem State.measureBundle_mask {K : Nat} (s : State) (b : BundleInfo) (kinds : List Nat) (h : Covers K 0x200000) : (State.measureBundle s b kinds).mask K = s.mask K := mask_mono h (by
  simp only [State.measureBundle]
  repeat' (first | with_reducible rfl | decide | with_reducible refine (mask_foldl _ (fun t e => ?_) _ _).trans ?_ | (simp (disch := first | exact .inl rfl | exact .inr rfl | rfl | decide) only [mask_mk, ite_mask, ite_self, State.extend_mask]; done) | split | dsimp only))

@[simp] theorem State.measureDebug_mask {K : Nat} (s : State) (h : Covers K 0x200000) : (State.measureDebug s).mask K = s.mask K := mask_mono h (by
  simp only [State.measureDebug]
  repeat' (first | with_reducible rfl | decide | (simp (disch := first | exact .inl rfl | exact .inr rfl | rfl | decide) only [mask_mk, ite_mask, ite_self, State.extend_mask]; done) | split | dsimp only))

@[simp] theorem State.setDbgAuth_mask {K : Nat} (s : State) (scopes v : Nat) (h : Covers K 0x20000000000000000000000000000000000000000000000000000000000000000000000000000000000000000000000000000000000000000000000000000000000000000000200000) : (State.setDbgAuth s scopes v).mask K = s.mask K := mask_mono h (by
  simp only [State.setDbgAuth]
  repeat' (first | with_reducible rfl | decide | with_reducible refine (mask_foldl _ (fun t e => ?_) _ _).trans ?_ | (simp (disch := first | exact .inl rfl | exact .inr rfl | rfl | decide) only [mask_mk, ite_mask, ite_self, State.setFld_mask]; done) | split | dsimp only))

@[simp] theorem State.debugEvent_mask {K : Nat} (s : State) (ok scopes : Nat) (h : Covers K 0x4020000000000000000000000004800) : (State.debugEvent s ok scopes).mask K = s.mask K := mask_mono h (by
  simp only [State.debugEvent]
  repeat' (first | with_reducible rfl | decide | (simp (disch := first | exact .inl rfl | exact .inr rfl | rfl | decide) only [mask_mk, ite_mask, ite_self, State.raise_mask]; done) | split | dsimp only))

@[simp] theorem State.judgeDebug_mask {K : Nat} (s : State) (a : DbgAuth) (h : Covers K 0x30000000000000000000000000000000000000000000000000000000000000000000000000000000000000000000000000000000000000000004020000000000000000000000204800) : (State.judgeDebug s a).mask K = s.mask K := mask_mono h (by
  simp only [State.judgeDebug]
  repeat' (first | with_reducible rfl | decide | with_reducible refine (mask_foldl _ (fun t e => ?_) _ _).trans ?_ | (simp (disch := first | exact .inl rfl | exact .inr rfl | rfl | decide) only [mask_mk, ite_mask, ite_self, State.debugEvent_mask, State.flag_mask, State.measureDebug_mask, State.setDbgAuth_mask]; done) | split | dsimp only | simp (disch := first | exact .inl rfl | exact .inr rfl | rfl | decide) only [mask_mk, ite_mask, ite_self, State.debugEvent_mask, State.flag_mask, State.measureDebug_mask, State.setDbgAuth_mask]))

@[simp] theorem State.judgeWaiting_mask {K : Nat} (s : State) (h : Covers K 0x30000000000000000000000000000000000000000000000000000000000000000000000000000000000000000000000000000000000000000004020000000000000000000000204800) : (State.judgeWaiting s).mask K = s.mask K := mask_mono h (by
  simp only [State.judgeWaiting]
  repeat' (first | with_reducible rfl | decide | (simp (disch := first | exact .inl rfl | exact .inr rfl | rfl | decide) only [mask_mk, ite_mask, ite_self, State.judgeDebug_mask]; done) | split | dsimp only))

@[simp] theorem State.setCore_mask {K : Nat} (s : State) (u : FwUnit) (c : FwCore) (h : Covers K 0x1000) : (State.setCore s u c).mask K = s.mask K := mask_mono h (by
  simp only [State.setCore]
  repeat' (first | with_reducible rfl | decide | (simp (disch := first | exact .inl rfl | exact .inr rfl | rfl | decide) only [mask_mk, ite_mask, ite_self]; done) | split | dsimp only))

@[simp] theorem State.startCores_mask {K : Nat} (s : State) (i : BundleInfo) (us : List FwUnit) (h : Covers K 0x1000) : (State.startCores s i us).mask K = s.mask K := mask_mono h (by
  simp only [State.startCores]
  repeat' (first | with_reducible rfl | decide | with_reducible refine (mask_foldl _ (fun t e => ?_) _ _).trans ?_ | (simp (disch := first | exact .inl rfl | exact .inr rfl | rfl | decide) only [mask_mk, ite_mask, ite_self, State.setCore_mask]; done) | split | dsimp only))

end Sys2Proof.Machine
end

