-- ==== Sys2Proof/Laws/KeepsResetReq.lean ====
section
/-!
SUPPORT. Laws/KeepsResetReq.lean: what each operation of Machine/ResetReq.lean leaves alone: a mask (Laws/Mask.lean) that covers what the operation may write sees no
difference between the state before and the state after.
-/
set_option linter.unusedSimpArgs false
set_option linter.unusedVariables false

namespace Sys2Proof.Machine

@[simp] theorem State.requestReset_mask {K : Nat} (s : State) (cause : Nat) (t : ResetTarget) (srcDie : Nat) (h : Covers K 0x400) : (State.requestReset s cause t srcDie).mask K = s.mask K := mask_mono h (by
  simp only [State.requestReset]
  repeat' (first | with_reducible rfl | decide | (simp (disch := first | exact .inl rfl | exact .inr rfl | rfl | decide) only [mask_mk, ite_mask, ite_self]; done) | split | dsimp only))

@[simp] theorem State.freeHeld_mask {K : Nat} (s : State) (h : Covers K 0x400) : (State.freeHeld s).mask K = s.mask K := mask_mono h (by
  simp only [State.freeHeld]
  repeat' (first | with_reducible rfl | decide | (simp (disch := first | exact .inl rfl | exact .inr rfl | rfl | decide) only [mask_mk, ite_mask, ite_self]; done) | split | dsimp only))

@[simp] theorem State.startLoad_mask {K : Nat} (s : State) (t : ResetTarget) (h : Covers K 0x400) : (State.startLoad s t).mask K = s.mask K := mask_mono h (by
  simp only [State.startLoad]
  repeat' (first | with_reducible rfl | decide | (simp (disch := first | exact .inl rfl | exact .inr rfl | rfl | decide) only [mask_mk, ite_mask, ite_self]; done) | split | dsimp only))

@[simp] theorem State.released_mask {K : Nat} (s : State) (t : ResetTarget) (h : Covers K 0x400) : (State.released s t).mask K = s.mask K := mask_mono h (by
  simp only [State.released]
  repeat' (first | with_reducible rfl | decide | (simp (disch := first | exact .inl rfl | exact .inr rfl | rfl | decide) only [mask_mk, ite_mask, ite_self, State.startLoad_mask]; done) | split | dsimp only))

@[simp] theorem State.setStep_mask {K : Nat} (s : State) (d n : Nat) (h : Covers K 0x400) : (State.setStep s d n).mask K = s.mask K := mask_mono h (by
  simp only [State.setStep]
  repeat' (first | with_reducible rfl | decide | (simp (disch := first | exact .inl rfl | exact .inr rfl | rfl | decide) only [mask_mk, ite_mask, ite_self]; done) | split | dsimp only))

end Sys2Proof.Machine
end

