-- ==== Sys2Proof/Laws/KeepsTime.lean ====
section
/-!
SUPPORT. Laws/KeepsTime.lean: what each operation of Machine/Time.lean leaves alone: a mask (Laws/Mask.lean) that covers what the operation may write sees no
difference between the state before and the state after.
-/
set_option linter.unusedSimpArgs false
set_option linter.unusedVariables false

namespace Sys2Proof.Machine

@[simp] theorem State.setLive_mask {K : Nat} (s : State) (k v : Nat) (h : Covers K 0x20000) : (State.setLive s k v).mask K = s.mask K := mask_mono h (by
  simp only [State.setLive]
  repeat' (first | with_reducible rfl | decide | (simp (disch := first | exact .inl rfl | exact .inr rfl | rfl | decide) only [mask_mk, ite_mask, ite_self]; done) | split | dsimp only))

@[simp] theorem State.tbTick_mask {K : Nat} (s : State) (k : Nat) (h : Covers K 0x20000) : (State.tbTick s k).mask K = s.mask K := mask_mono h (by
  simp only [State.tbTick]
  repeat' (first | with_reducible rfl | decide | (simp (disch := first | exact .inl rfl | exact .inr rfl | rfl | decide) only [mask_mk, ite_mask, ite_self, State.setLive_mask]; done) | split | dsimp only))

@[simp] theorem State.tick_mask {K : Nat} (s : State) (h : Covers K 0x20000) : (State.tick s).mask K = s.mask K := mask_mono h (by
  simp only [State.tick]
  repeat' (first | with_reducible rfl | decide | with_reducible refine (mask_foldl _ (fun t e => ?_) _ _).trans ?_ | (simp (disch := first | exact .inl rfl | exact .inr rfl | rfl | decide) only [mask_mk, ite_mask, ite_self, State.tbTick_mask]; done) | split | dsimp only | simp (disch := first | exact .inl rfl | exact .inr rfl | rfl | decide) only [mask_mk, ite_mask, ite_self, State.tbTick_mask]))

@[simp] theorem State.timeEvent_mask {K : Nat} (s : State) (e : Ev) (x2 : Dom) (k : Nat) (fs : List (Nat × Nat × Nat)) (h : Covers K 0x4020000000000000000000000004800) : (State.timeEvent s e x2 k fs).mask K = s.mask K := mask_mono h (by
  simp only [State.timeEvent]
  repeat' (first | with_reducible rfl | decide | (simp (disch := first | exact .inl rfl | exact .inr rfl | rfl | decide) only [mask_mk, ite_mask, ite_self, State.raise_mask]; done) | split | dsimp only))

@[simp] theorem State.setNext_mask {K : Nat} (s : State) (n : Nat) (v : Option Nat) (h : Covers K 0x20000) : (State.setNext s n v).mask K = s.mask K := mask_mono h (by
  simp only [State.setNext]
  repeat' (first | with_reducible rfl | decide | (simp (disch := first | exact .inl rfl | exact .inr rfl | rfl | decide) only [mask_mk, ite_mask, ite_self]; done) | split | dsimp only))

@[simp] theorem State.fire_mask {K : Nat} (s : State) (n : Nat) (h : Covers K 0x40000000000000000000000000000000000000000000000000000000000000000000000000000000000000000000000000024800) : (State.fire s n).mask K = s.mask K := mask_mono h (by
  simp only [State.fire]
  repeat' (first | with_reducible rfl | decide | with_reducible refine (mask_foldl _ (fun t e => ?_) _ _).trans ?_ | (simp (disch := first | exact .inl rfl | exact .inr rfl | rfl | decide) only [mask_mk, ite_mask, ite_self, State.pulse_mask, State.setFld_mask]; done) | split | dsimp only))

@[simp] theorem State.missed_mask {K : Nat} (s : State) (n k : Nat) (h : Covers K 0x80000000000000000000000000000000000000000000000000000000000000000000000004020000000000000000000000004800) : (State.missed s n k).mask K = s.mask K := mask_mono h (by
  simp only [State.missed]
  repeat' (first | with_reducible rfl | decide | (simp (disch := first | exact .inl rfl | exact .inr rfl | rfl | decide) only [mask_mk, ite_mask, ite_self, State.addSat_mask, State.timeEvent_mask]; done) | split | dsimp only))

@[simp] theorem State.trgArm_mask {K : Nat} (s : State) (n : Nat) (h : Covers K 0x40000000000000000000000000000000000000000000000000000000000000000000000000000000000000000000000000024800) : (State.trgArm s n).mask K = s.mask K := mask_mono h (by
  simp only [State.trgArm]
  repeat' (first | with_reducible rfl | decide | (simp (disch := first | exact .inl rfl | exact .inr rfl | rfl | decide) only [mask_mk, ite_mask, ite_self, State.fire_mask, State.setNext_mask]; done) | split | dsimp only))

@[simp] theorem State.trgAfterStep_mask {K : Nat} (k : Nat) (s : State) (n : Nat) (h : Covers K 0xc0000000000000000000000000000000000000000000000000000000000000000000000004020000000000000000000000024800) : (State.trgAfterStep k s n).mask K = s.mask K := mask_mono h (by
  simp only [State.trgAfterStep]
  repeat' (first | with_reducible rfl | decide | (simp (disch := first | exact .inl rfl | exact .inr rfl | rfl | decide) only [mask_mk, ite_mask, ite_self, State.fire_mask, State.missed_mask, State.setNext_mask]; done) | split | dsimp only))

@[simp] theorem State.moveTo_mask {K : Nat} (s : State) (k v : Nat) (h : Covers K 0xc0000000000000000000000000000000000000000000000000000000000000000000000004020000000000000000000000024800) : (State.moveTo s k v).mask K = s.mask K := mask_mono h (by
  simp only [State.moveTo]
  repeat' (first | with_reducible rfl | decide | with_reducible refine (mask_foldl _ (fun t e => ?_) _ _).trans ?_ | (simp (disch := first | exact .inl rfl | exact .inr rfl | rfl | decide) only [mask_mk, ite_mask, ite_self, State.setLive_mask, State.trgAfterStep_mask]; done) | split | dsimp only))

@[simp] theorem State.tbStepTo_mask {K : Nat} (s : State) (k v : Nat) (h : Covers K 0xc0000080200000000000000000000000000000000000000000000000000000000000000004020000000000000000000000024800) : (State.tbStepTo s k v).mask K = s.mask K := mask_mono h (by
  simp only [State.tbStepTo]
  repeat' (first | with_reducible rfl | decide | (simp (disch := first | exact .inl rfl | exact .inr rfl | rfl | decide) only [mask_mk, ite_mask, ite_self, State.moveTo_mask, State.setFld_mask, State.timeEvent_mask]; done) | split | dsimp only))

@[simp] theorem State.enterHoldover_mask {K : Nat} (s : State) (k cause : Nat) (h : Covers K 0x18c100000000000000000000000000000000000000000000000000000000000000004020000000000000000000000024800) : (State.enterHoldover s k cause).mask K = s.mask K := mask_mono h (by
  simp only [State.enterHoldover]
  repeat' (first | with_reducible rfl | decide | (simp (disch := first | exact .inl rfl | exact .inr rfl | rfl | decide) only [mask_mk, ite_mask, ite_self, State.setFlds_nil_mask, State.setFlds_cons_mask, State.setFld_mask, State.timeEvent_mask]; done) | split | dsimp only))

@[simp] theorem State.leaveHoldover_mask {K : Nat} (s : State) (k : Nat) (h : Covers K 0xc100000000000000000000000000000000000000000000000000000000000000004020000000000000000000000004800) : (State.leaveHoldover s k).mask K = s.mask K := mask_mono h (by
  simp only [State.leaveHoldover]
  repeat' (first | with_reducible rfl | decide | (simp (disch := first | exact .inl rfl | exact .inr rfl | rfl | decide) only [mask_mk, ite_mask, ite_self, State.setFlds_nil_mask, State.setFlds_cons_mask, State.setFld_mask, State.timeEvent_mask]; done) | split | dsimp only))

@[simp] theorem State.clockHoldover_mask {K : Nat} (s : State) (h : Covers K 0x18c100000000000000000000000000000000000000000000000000000000000000004020000000000000000000000024800) : (State.clockHoldover s).mask K = s.mask K := mask_mono h (by
  simp only [State.clockHoldover]
  repeat' (first | with_reducible rfl | decide | with_reducible refine (mask_foldl _ (fun t e => ?_) _ _).trans ?_ | (simp (disch := first | exact .inl rfl | exact .inr rfl | rfl | decide) only [mask_mk, ite_mask, ite_self, State.enterHoldover_mask]; done) | split | dsimp only))

@[simp] theorem State.trefBack_mask {K : Nat} (s : State) (h : Covers K 0xc100000000000000000000000000000000000000000000000000000000000000004020000000000000000000000004800) : (State.trefBack s).mask K = s.mask K := mask_mono h (by
  simp only [State.trefBack]
  repeat' (first | with_reducible rfl | decide | with_reducible refine (mask_foldl _ (fun t e => ?_) _ _).trans ?_ | (simp (disch := first | exact .inl rfl | exact .inr rfl | rfl | decide) only [mask_mk, ite_mask, ite_self, State.leaveHoldover_mask]; done) | split | dsimp only))

@[simp] theorem State.servo_mask {K : Nat} (s : State) (k : Nat) (theta : Int) (h : Covers K 0x180000000000000000000000000000000000000000000000000000000000000000000000000000000000000000000020000) : (State.servo s k theta).mask K = s.mask K := mask_mono h (by
  simp only [State.servo]
  repeat' (first | with_reducible rfl | decide | (simp (disch := first | exact .inl rfl | exact .inr rfl | rfl | decide) only [mask_mk, ite_mask, ite_self, State.setFlds_nil_mask, State.setFlds_cons_mask, State.setFld_mask]; done) | split | dsimp only))

@[simp] theorem State.offset_mask {K : Nat} (s : State) (k : Nat) (theta : Int) (h : Covers K 0xc001018cb00000000000000000000000000000000000000000000000000000000000000004020000000000000000000000024800) : (State.offset s k theta).1.mask K = s.mask K := mask_mono h (by
  simp only [State.offset]
  repeat' (first | with_reducible rfl | decide | (simp (disch := first | exact .inl rfl | exact .inr rfl | rfl | decide) only [mask_mk, ite_mask, ite_self, State.flag_mask, State.leaveHoldover_mask, State.servo_mask, State.setFld_mask, State.tbStepTo_mask]; done) | split | dsimp only))

@[simp] theorem execPpsInEdge_mask {K : Nat} (s : State) (h : Covers K 0xc001018cb00000000000000000000000000000000000000000000000000000000000000004020000000000000000000000024800) : Kept K s (execPpsInEdge s) := kept_mono h (by
  simp only [execPpsInEdge]
  repeat' (first | with_reducible rfl | decide | with_reducible refine kept_next.2 ?_ | with_reducible refine (mask_foldl _ (fun t e => ?_) _ _).trans ?_ | (simp (disch := first | exact .inl rfl | exact .inr rfl | rfl | decide) only [mask_mk, ite_mask, ite_self, kept_next, State.offset_mask]; done) | split | dsimp only))

@[simp] theorem execHoldoverTimeout_mask {K : Nat} (k : Nat) (s : State) (h : Covers K 0x18c100000000000000000000000000000000000000000000000000000000000000004020000000000000000000000024800) : Kept K s (execHoldoverTimeout k s) := kept_mono h (by
  simp only [execHoldoverTimeout]
  repeat' (first | with_reducible rfl | decide | with_reducible refine kept_next.2 ?_ | (simp (disch := first | exact .inl rfl | exact .inr rfl | rfl | decide) only [mask_mk, ite_mask, ite_self, kept_next, State.enterHoldover_mask]; done) | split | dsimp only))

@[simp] theorem execReplicaAlign_mask {K : Nat} (s : State) (h : Covers K 0x20000) : Kept K s (execReplicaAlign s) := kept_mono h (by
  simp only [execReplicaAlign]
  repeat' (first | with_reducible rfl | decide | with_reducible refine kept_next.2 ?_ | (simp (disch := first | exact .inl rfl | exact .inr rfl | rfl | decide) only [mask_mk, ite_mask, ite_self, kept_next]; done) | split | dsimp only))

@[simp] theorem execTimeTriggerFire_mask {K : Nat} (n : Nat) (s : State) (h : Covers K 0x40000000000000000000000000000000000000000000000000000000000000000000000000000000000000000000000000024800) : Kept K s (execTimeTriggerFire n s) := kept_mono h (by
  simp only [execTimeTriggerFire]
  repeat' (first | with_reducible rfl | decide | with_reducible refine kept_next.2 ?_ | (simp (disch := first | exact .inl rfl | exact .inr rfl | rfl | decide) only [mask_mk, ite_mask, ite_self, kept_next, State.fire_mask, State.setNext_mask]; done) | split | dsimp only))

@[simp] theorem execTriggerPulseEnd_mask {K : Nat} (n : Nat) (s : State) (h : Covers K 0x20000) : Kept K s (execTriggerPulseEnd n s) := kept_mono h (by
  simp only [execTriggerPulseEnd]
  repeat' (first | with_reducible rfl | decide | with_reducible refine kept_next.2 ?_ | (simp (disch := first | exact .inl rfl | exact .inr rfl | rfl | decide) only [mask_mk, ite_mask, ite_self, kept_next]; done) | split | dsimp only))

@[simp] theorem execPpsOutPulse_mask {K : Nat} (s : State) (h : Covers K 0x20000) : Kept K s (execPpsOutPulse s) := kept_mono h (by
  simp only [execPpsOutPulse]
  repeat' (first | with_reducible rfl | decide | with_reducible refine kept_next.2 ?_ | (simp (disch := first | exact .inl rfl | exact .inr rfl | rfl | decide) only [mask_mk, ite_mask, ite_self, kept_next]; done) | split | dsimp only))

@[simp] theorem execCmp32Match_mask {K : Nat} (k : Nat) (s : State) (h : Covers K 0x40000000000000000000000000000000000000000000000000000000000000000000000000004020000000000000000000000024800) : Kept K s (execCmp32Match k s) := kept_mono h (by
  simp only [execCmp32Match]
  repeat' (first | with_reducible rfl | decide | with_reducible refine kept_next.2 ?_ | with_reducible refine (mask_foldl _ (fun t e => ?_) _ _).trans ?_ | (simp (disch := first | exact .inl rfl | exact .inr rfl | rfl | decide) only [mask_mk, ite_mask, ite_self, kept_next, State.flag_mask, State.pulse_mask, State.timeEvent_mask]; done) | split | dsimp only | simp (disch := first | exact .inl rfl | exact .inr rfl | rfl | decide) only [mask_mk, ite_mask, ite_self, kept_next, State.flag_mask, State.pulse_mask, State.timeEvent_mask]))

@[simp] theorem execTscapEdge_mask {K : Nat} (d n : Nat) (rising : Bool) (s : State) (h : Covers K 0x3c00000000000000000000000000000000000000000000000000000000000000000000000000000000000000000000000000000100) : Kept K s (execTscapEdge d n rising s) := kept_mono h (by
  simp only [execTscapEdge]
  repeat' (first | with_reducible rfl | decide | with_reducible refine kept_next.2 ?_ | (simp (disch := first | exact .inl rfl | exact .inr rfl | rfl | decide) only [mask_mk, ite_mask, ite_self, kept_next, State.setFlds_nil_mask, State.setFlds_cons_mask, State.setFld_mask, State.flag_mask, State.setPad_mask]; done) | split | dsimp only))

@[simp] theorem State.tbConfigure_mask {K : Nat} (s : State) (k en src holdS : Nat) (h : Covers K 0xc000001f100000000000000000000000000000000000000000000000000000000000000004020000000000000000000000024800) : (State.tbConfigure s k en src holdS).mask K = s.mask K := mask_mono h (by
  simp only [State.tbConfigure]
  repeat' (first | with_reducible rfl | decide | (simp (disch := first | exact .inl rfl | exact .inr rfl | rfl | decide) only [mask_mk, ite_mask, ite_self, State.setFlds_nil_mask, State.setFlds_cons_mask, State.setFld_mask, State.leaveHoldover_mask, State.moveTo_mask]; done) | split | dsimp only))

theorem State.tbWrite_mask {K : Nat} (s : State) (m : Master) (d off k : Nat) (eff : State → State) (h : Covers K 0x400000000000000000000000000000000000000000000000000000000000000004027fc0000000000000000000004800) (he : ∀ t, (eff t).mask K = t.mask K) : (State.tbWrite s m d off k eff).mask K = s.mask K := by
  have hb : ∀ i, Nat.testBit 0x400000000000000000000000000000000000000000000000000000000000000004027fc0000000000000000000004800 i = true → K.testBit i = true := fun i => testBit_of_land h
  have hl : ∀ j, Covers 0x400000000000000000000000000000000000000000000000000000000000000004027fc0000000000000000000004800 j → Covers K j := fun j hj => land_trans h hj
  simp only [State.tbWrite]
  repeat' (first | with_reducible rfl | exact hl _ (by decide) | with_reducible refine (State.guarded_mask _ _ _ _ _ _ ?_ (fun t => ?_)).trans ?_ | (simp (disch := first | exact .inl (hb _ rfl) | exact .inr rfl | exact hl _ (by decide) | exact hb _ (by decide) | assumption | rfl) only [mask_mk, ite_mask, ite_self, State.flag_mask, he]; done) | split | dsimp only)

@[simp] theorem wrTbCfg_mask {K : Nat} (m : Master) (d k data : Nat) (s : State) (h : Covers K 0xc000001fd00000000000000000000000000000000000000000000000000000000000000004027fc0000000000000000000024800) : (wrTbCfg m d k data s).mask K = s.mask K := mask_mono h (by
  simp only [wrTbCfg]
  repeat' (first | with_reducible rfl | decide | with_reducible refine (State.tbWrite_mask _ _ _ _ _ _ ?_ (fun t => ?_)).trans ?_ | (simp (disch := first | exact .inl rfl | exact .inr rfl | rfl | decide) only [mask_mk, ite_mask, ite_self, State.flag_mask, State.tbConfigure_mask]; done) | split | dsimp only))

@[simp] theorem wrTbGain_mask {K : Nat} (m : Master) (d k data : Nat) (s : State) (h : Covers K 0x60400000000000000000000000000000000000000000000000000000000000000004027fc0000000000000000000004800) : (wrTbGain m d k data s).mask K = s.mask K := mask_mono h (by
  simp only [wrTbGain]
  repeat' (first | with_reducible rfl | decide | with_reducible refine (State.tbWrite_mask _ _ _ _ _ _ ?_ (fun t => ?_)).trans ?_ | (simp (disch := first | exact .inl rfl | exact .inr rfl | rfl | decide) only [mask_mk, ite_mask, ite_self, State.setFlds_nil_mask, State.setFlds_cons_mask, State.setFld_mask]; done) | split | dsimp only))

@[simp] theorem State.adjSet_mask {K : Nat} (s : State) (k v : Nat) (h : Covers K 0x80000000000000000000000000000000000000000000000000000000000000000000000000000000000000000000000000) : (State.adjSet s k v).mask K = s.mask K := mask_mono h (by
  simp only [State.adjSet]
  repeat' (first | with_reducible rfl | decide | (simp (disch := first | exact .inl rfl | exact .inr rfl | rfl | decide) only [mask_mk, ite_mask, ite_self, State.setFld_mask]; done) | split | dsimp only))

@[simp] theorem wrTbAdj_mask {K : Nat} (m : Master) (d k data : Nat) (s : State) (h : Covers K 0x80c00000000000000000000000000000000000000000000000000000000000000004027fc0000000000000000000004800) : (wrTbAdj m d k data s).mask K = s.mask K := mask_mono h (by
  simp only [wrTbAdj]
  repeat' (first | with_reducible rfl | decide | with_reducible refine (State.tbWrite_mask _ _ _ _ _ _ ?_ (fun t => ?_)).trans ?_ | (simp (disch := first | exact .inl rfl | exact .inr rfl | rfl | decide) only [mask_mk, ite_mask, ite_self, State.adjSet_mask, State.flag_mask]; done) | split | dsimp only))

@[simp] theorem wrTbOffset_mask {K : Nat} (m : Master) (d k data : Nat) (s : State) (h : Covers K 0xc001018cf00000000000000000000000000000000000000000000000000000000000000004027fc0000000000000000000024880) : (wrTbOffset m d k data s).mask K = s.mask K := mask_mono h (by
  simp only [wrTbOffset]
  repeat' (first | with_reducible rfl | decide | with_reducible refine (State.tbWrite_mask _ _ _ _ _ _ ?_ (fun t => ?_)).trans ?_ | (simp (disch := first | exact .inl rfl | exact .inr rfl | rfl | decide) only [mask_mk, ite_mask, ite_self, State.dropLow_mask, State.flag_mask, State.offset_mask]; done) | split | dsimp only))

@[simp] theorem wrTbSetnsec_mask {K : Nat} (m : Master) (d k data : Nat) (s : State) (h : Covers K 0xc0000080e00000000000000000000000000000000000000000000000000000000000000004027fc0000000000000000000024800) : (wrTbSetnsec m d k data s).mask K = s.mask K := mask_mono h (by
  simp only [wrTbSetnsec]
  repeat' (first | with_reducible rfl | decide | with_reducible refine (State.tbWrite_mask _ _ _ _ _ _ ?_ (fun t => ?_)).trans ?_ | (simp (disch := first | exact .inl rfl | exact .inr rfl | rfl | decide) only [mask_mk, ite_mask, ite_self, State.flag_mask, State.tbStepTo_mask]; done) | split | dsimp only))

@[simp] theorem wrTbSetsec_mask {K : Nat} (m : Master) (d k data : Nat) (s : State) (h : Covers K 0x4000400000000000000000000000000000000000000000000000000000000000000004027fc0000000000000000000004880) : (wrTbSetsec m d k data s).mask K = s.mask K := mask_mono h (by
  simp only [wrTbSetsec]
  repeat' (first | with_reducible rfl | decide | with_reducible refine (State.tbWrite_mask _ _ _ _ _ _ ?_ (fun t => ?_)).trans ?_ | (simp (disch := first | exact .inl rfl | exact .inr rfl | rfl | decide) only [mask_mk, ite_mask, ite_self, State.dropLow_mask, State.setFld_mask]; done) | split | dsimp only))

@[simp] theorem wrPpsOutCfg_mask {K : Nat} (m : Master) (d data : Nat) (s : State) (h : Covers K 0xe0000400000000000000000000000000000000000000000000000000000000000000004027fc0000000000000000000004800) : (wrPpsOutCfg m d data s).mask K = s.mask K := mask_mono h (by
  simp only [wrPpsOutCfg]
  repeat' (first | with_reducible rfl | decide | with_reducible refine (State.tbWrite_mask _ _ _ _ _ _ ?_ (fun t => ?_)).trans ?_ | (simp (disch := first | exact .inl rfl | exact .inr rfl | rfl | decide) only [mask_mk, ite_mask, ite_self, State.setFlds_nil_mask, State.setFlds_cons_mask, State.setFld_mask]; done) | split | dsimp only))

@[simp] theorem wrPpsInDelay_mask {K : Nat} (m : Master) (d data : Nat) (s : State) (h : Covers K 0x100000400000000000000000000000000000000000000000000000000000000000000004027fc0000000000000000000004800) : (wrPpsInDelay m d data s).mask K = s.mask K := mask_mono h (by
  simp only [wrPpsInDelay]
  repeat' (first | with_reducible rfl | decide | with_reducible refine (State.tbWrite_mask _ _ _ _ _ _ ?_ (fun t => ?_)).trans ?_ | (simp (disch := first | exact .inl rfl | exact .inr rfl | rfl | decide) only [mask_mk, ite_mask, ite_self, State.setFld_mask]; done) | split | dsimp only))

theorem State.trgWrite_mask {K : Nat} (s : State) (m : Master) (d n : Nat) (eff : State → State) (h : Covers K 0x400000000000000000000000000000000000000000000000000000000000000000000000000000000000000000000000) (he : ∀ t, (eff t).mask K = t.mask K) : (State.trgWrite s m d n eff).mask K = s.mask K := by
  have hb : ∀ i, Nat.testBit 0x400000000000000000000000000000000000000000000000000000000000000000000000000000000000000000000000 i = true → K.testBit i = true := fun i => testBit_of_land h
  have hl : ∀ j, Covers 0x400000000000000000000000000000000000000000000000000000000000000000000000000000000000000000000000 j → Covers K j := fun j hj => land_trans h hj
  simp only [State.trgWrite]
  repeat' (first | with_reducible rfl | exact hl _ (by decide) | (simp (disch := first | exact .inl (hb _ rfl) | exact .inr rfl | exact hl _ (by decide) | exact hb _ (by decide) | assumption | rfl) only [mask_mk, ite_mask, ite_self, State.flag_mask, he]; done) | split | dsimp only)

@[simp] theorem wrTrgCfg_mask {K : Nat} (m : Master) (d n data : Nat) (s : State) (h : Covers K 0x4fe00000c00000000000000000000000000000000000000000000000000000000000000000000000000000000000000000024800) : (wrTrgCfg m d n data s).mask K = s.mask K := mask_mono h (by
  simp only [wrTrgCfg]
  repeat' (first | with_reducible rfl | decide | with_reducible refine (State.trgWrite_mask _ _ _ _ _ ?_ (fun t => ?_)).trans ?_ | (simp (disch := first | exact .inl rfl | exact .inr rfl | rfl | decide) only [mask_mk, ite_mask, ite_self, State.setFlds_nil_mask, State.setFlds_cons_mask, State.setFld_mask, State.flag_mask, State.trgArm_mask]; done) | split | dsimp only))

@[simp] theorem wrTrgStartLo_mask {K : Nat} (m : Master) (d n data : Nat) (s : State) (h : Covers K 0x400000000000000000000000000000000000000000000000000000000000000000000000000000000000000000000080) : (wrTrgStartLo m d n data s).mask K = s.mask K := mask_mono h (by
  simp only [wrTrgStartLo]
  repeat' (first | with_reducible rfl | decide | with_reducible refine (State.trgWrite_mask _ _ _ _ _ ?_ (fun t => ?_)).trans ?_ | (simp (disch := first | exact .inl rfl | exact .inr rfl | rfl | decide) only [mask_mk, ite_mask, ite_self, State.holdLow_mask]; done) | split | dsimp only))

@[simp] theorem wrTrgStart_mask {K : Nat} (m : Master) (d n data : Nat) (s : State) (h : Covers K 0x50000000c00000000000000000000000000000000000000000000000000000000000000000000000000000000000000000024880) : (wrTrgStart m d n data s).mask K = s.mask K := mask_mono h (by
  simp only [wrTrgStart]
  repeat' (first | with_reducible rfl | decide | with_reducible refine (State.trgWrite_mask _ _ _ _ _ ?_ (fun t => ?_)).trans ?_ | (simp (disch := first | exact .inl rfl | exact .inr rfl | rfl | decide) only [mask_mk, ite_mask, ite_self, State.dropLow_mask, State.flag_mask, State.setFld_mask, State.trgArm_mask]; done) | split | dsimp only))

@[simp] theorem wrTrgPeriod_mask {K : Nat} (m : Master) (d n data : Nat) (s : State) (h : Covers K 0x60000000c00000000000000000000000000000000000000000000000000000000000000000000000000000000000000000024800) : (wrTrgPeriod m d n data s).mask K = s.mask K := mask_mono h (by
  simp only [wrTrgPeriod]
  repeat' (first | with_reducible rfl | decide | with_reducible refine (State.trgWrite_mask _ _ _ _ _ ?_ (fun t => ?_)).trans ?_ | (simp (disch := first | exact .inl rfl | exact .inr rfl | rfl | decide) only [mask_mk, ite_mask, ite_self, State.flag_mask, State.setFld_mask, State.trgArm_mask]; done) | split | dsimp only))

@[simp] theorem wrTscapCfg_mask {K : Nat} (m : Master) (d n data : Nat) (s : State) (h : Covers K 0x700000000c00000000000000000000000000000000000000000000000000000000000000000000000000000000000000000000000) : (wrTscapCfg m d n data s).mask K = s.mask K := mask_mono h (by
  simp only [wrTscapCfg]
  repeat' (first | with_reducible rfl | decide | (simp (disch := first | exact .inl rfl | exact .inr rfl | rfl | decide) only [mask_mk, ite_mask, ite_self, State.setFlds_nil_mask, State.setFlds_cons_mask, State.setFld_mask, State.flag_mask]; done) | split | dsimp only))

theorem State.cmpWrite_mask {K : Nat} (s : State) (m : Master) (d k : Nat) (eff : State → State) (h : Covers K 0x400000000000000000000000000000000000000000000000000000000000000000000000000000000000000000000000) (he : ∀ t, (eff t).mask K = t.mask K) : (State.cmpWrite s m d k eff).mask K = s.mask K := by
  have hb : ∀ i, Nat.testBit 0x400000000000000000000000000000000000000000000000000000000000000000000000000000000000000000000000 i = true → K.testBit i = true := fun i => testBit_of_land h
  have hl : ∀ j, Covers 0x400000000000000000000000000000000000000000000000000000000000000000000000000000000000000000000000 j → Covers K j := fun j hj => land_trans h hj
  simp only [State.cmpWrite]
  repeat' (first | with_reducible rfl | exact hl _ (by decide) | (simp (disch := first | exact .inl (hb _ rfl) | exact .inr rfl | exact hl _ (by decide) | exact hb _ (by decide) | assumption | rfl) only [mask_mk, ite_mask, ite_self, State.flag_mask, he]; done) | split | dsimp only)

@[simp] theorem wrCmpCfg_mask {K : Nat} (m : Master) (d k data : Nat) (s : State) (h : Covers K 0xc000000000400000000000000000000000000000000000000000000000000000000000000000000000000000000000000000000000) : (wrCmpCfg m d k data s).mask K = s.mask K := mask_mono h (by
  simp only [wrCmpCfg]
  repeat' (first | with_reducible rfl | decide | with_reducible refine (State.cmpWrite_mask _ _ _ _ _ ?_ (fun t => ?_)).trans ?_ | (simp (disch := first | exact .inl rfl | exact .inr rfl | rfl | decide) only [mask_mk, ite_mask, ite_self, State.setFlds_nil_mask, State.setFlds_cons_mask, State.setFld_mask]; done) | split | dsimp only))

@[simp] theorem wrCmpSec_mask {K : Nat} (m : Master) (d k data : Nat) (s : State) (h : Covers K 0x10000000000400000000000000000000000000000000000000000000000000000000000000000000000000000000000000000000000) : (wrCmpSec m d k data s).mask K = s.mask K := mask_mono h (by
  simp only [wrCmpSec]
  repeat' (first | with_reducible rfl | decide | with_reducible refine (State.cmpWrite_mask _ _ _ _ _ ?_ (fun t => ?_)).trans ?_ | (simp (disch := first | exact .inl rfl | exact .inr rfl | rfl | decide) only [mask_mk, ite_mask, ite_self, State.setFld_mask]; done) | split | dsimp only))

@[simp] theorem State.cmpArm_mask {K : Nat} (s : State) (k nsec : Nat) (h : Covers K 0x20000000000000000000000000000000000000000000000000000000000000000000000000000000000000000000000000000020000) : (State.cmpArm s k nsec).mask K = s.mask K := mask_mono h (by
  simp only [State.cmpArm]
  repeat' (first | with_reducible rfl | decide | (simp (disch := first | exact .inl rfl | exact .inr rfl | rfl | decide) only [mask_mk, ite_mask, ite_self, State.setFld_mask]; done) | split | dsimp only))

@[simp] theorem wrCmpNsec_mask {K : Nat} (m : Master) (d k data : Nat) (s : State) (h : Covers K 0x20000000000400000000000000000000000000000000000000000000000000000000000000000000000000000000000000000020000) : (wrCmpNsec m d k data s).mask K = s.mask K := mask_mono h (by
  simp only [wrCmpNsec]
  repeat' (first | with_reducible rfl | decide | with_reducible refine (State.cmpWrite_mask _ _ _ _ _ ?_ (fun t => ?_)).trans ?_ | (simp (disch := first | exact .inl rfl | exact .inr rfl | rfl | decide) only [mask_mk, ite_mask, ite_self, State.cmpArm_mask]; done) | split | dsimp only))

@[simp] theorem execTbAdjWrite_mask {K : Nat} (m : Master) (k : Nat) (data : Word) (s : State) (h : Covers K 0x80c00000000000000000000000000000000000000000000000000000000000000004027fc0000000000000000000004888) : Kept K s (execTbAdjWrite m k data s) := kept_mono h (by
  simp only [execTbAdjWrite]
  repeat' (first | with_reducible rfl | decide | with_reducible refine kept_next.2 ?_ | with_reducible refine (State.regWrite_mask _ _ _ _ _ _ _ ?_ (fun t => ?_)).trans ?_ | (simp (disch := first | exact .inl rfl | exact .inr rfl | rfl | decide) only [mask_mk, ite_mask, ite_self, kept_next, wrTbAdj_mask]; done) | split | dsimp only))

@[simp] theorem execTbOffsetHiWrite_mask {K : Nat} (m : Master) (k : Nat) (data : Word) (s : State) (h : Covers K 0xc001018cf00000000000000000000000000000000000000000000000000000000000000004027fc0000000000000000000024888) : Kept K s (execTbOffsetHiWrite m k data s) := kept_mono h (by
  simp only [execTbOffsetHiWrite]
  repeat' (first | with_reducible rfl | decide | with_reducible refine kept_next.2 ?_ | with_reducible refine (State.regWrite_mask _ _ _ _ _ _ _ ?_ (fun t => ?_)).trans ?_ | (simp (disch := first | exact .inl rfl | exact .inr rfl | rfl | decide) only [mask_mk, ite_mask, ite_self, kept_next, wrTbOffset_mask]; done) | split | dsimp only))

@[simp] theorem execTbSetnsecWrite_mask {K : Nat} (m : Master) (k : Nat) (data : Word) (s : State) (h : Covers K 0xc0000080e00000000000000000000000000000000000000000000000000000000000000004027fc0000000000000000000024888) : Kept K s (execTbSetnsecWrite m k data s) := kept_mono h (by
  simp only [execTbSetnsecWrite]
  repeat' (first | with_reducible rfl | decide | with_reducible refine kept_next.2 ?_ | with_reducible refine (State.regWrite_mask _ _ _ _ _ _ _ ?_ (fun t => ?_)).trans ?_ | (simp (disch := first | exact .inl rfl | exact .inr rfl | rfl | decide) only [mask_mk, ite_mask, ite_self, kept_next, wrTbSetnsec_mask]; done) | split | dsimp only))

@[simp] theorem execTrgCfgWrite_mask {K : Nat} (m : Master) (n off : Nat) (data : Word) (s : State) (h : Covers K 0x7fe00000c00000000000000000000000000000000000000000000000000000000000000000007fc0000000000000000000024888) : Kept K s (execTrgCfgWrite m n off data s) := kept_mono h (by
  simp only [execTrgCfgWrite]
  repeat' (first | with_reducible rfl | decide | with_reducible refine kept_next.2 ?_ | with_reducible refine (State.regWrite_mask _ _ _ _ _ _ _ ?_ (fun t => ?_)).trans ?_ | (simp (disch := first | exact .inl rfl | exact .inr rfl | rfl | decide) only [mask_mk, ite_mask, ite_self, kept_next, wrTrgCfg_mask, wrTrgPeriod_mask, wrTrgStart_mask, wrTrgStartLo_mask]; done) | split | dsimp only))

@[simp] theorem execCmp32NsecWrite_mask {K : Nat} (m : Master) (k : Nat) (data : Word) (s : State) (h : Covers K 0x20000000000400000000000000000000000000000000000000000000000000000000000000000007fc0000000000000000000020088) : Kept K s (execCmp32NsecWrite m k data s) := kept_mono h (by
  simp only [execCmp32NsecWrite]
  repeat' (first | with_reducible rfl | decide | with_reducible refine kept_next.2 ?_ | with_reducible refine (State.regWrite_mask _ _ _ _ _ _ _ ?_ (fun t => ?_)).trans ?_ | (simp (disch := first | exact .inl rfl | exact .inr rfl | rfl | decide) only [mask_mk, ite_mask, ite_self, kept_next, wrCmpNsec_mask]; done) | split | dsimp only))

@[simp] theorem execTbQuery_mask {K : Nat} (r : Req) (k : Nat) (s : State) (h : Covers K 0x80000000000000000000000000000000001000000000000000000000000015804) : Kept K s (execTbQuery r k s) := kept_mono h (by
  simp only [execTbQuery]
  repeat' (first | with_reducible rfl | decide | with_reducible refine kept_next.2 ?_ | with_reducible refine (State.serve_mask _ _ _ _ _ ?_ (fun t => ?_)).trans ?_ | (simp (disch := first | exact .inl rfl | exact .inr rfl | rfl | decide) only [mask_mk, ite_mask, ite_self, kept_next, ite_st, reply_st, later_st]; done) | split | dsimp only))

@[simp] theorem execTbSet_mask {K : Nat} (r : Req) (c : TbCfg) (s : State) (h : Covers K 0xc01000ff100000000000000000000000000000080000000000000000000000000000000005020000000000000000000000035804) : Kept K s (execTbSet r c s) := kept_mono h (by
  simp only [execTbSet]
  repeat' (first | with_reducible rfl | decide | with_reducible refine kept_next.2 ?_ | with_reducible refine (State.serve_mask _ _ _ _ _ ?_ (fun t => ?_)).trans ?_ | (simp (disch := first | exact .inl rfl | exact .inr rfl | rfl | decide) only [mask_mk, ite_mask, ite_self, kept_next, ite_st, reply_st, later_st, State.setFlds_nil_mask, State.setFlds_cons_mask, State.setFld_mask, State.adjSet_mask, State.tbConfigure_mask]; done) | split | dsimp only))

@[simp] theorem execTbOffset_mask {K : Nat} (r : Req) (k : Nat) (theta : BitVec 64) (s : State) (h : Covers K 0xc001018cb00000000000000000000000000000080000000000000000000000000000000005020000000000000000000000035804) : Kept K s (execTbOffset r k theta s) := kept_mono h (by
  simp only [execTbOffset]
  repeat' (first | with_reducible rfl | decide | with_reducible refine kept_next.2 ?_ | with_reducible refine (State.serve_mask _ _ _ _ _ ?_ (fun t => ?_)).trans ?_ | (simp (disch := first | exact .inl rfl | exact .inr rfl | rfl | decide) only [mask_mk, ite_mask, ite_self, kept_next, ite_st, reply_st, later_st, State.offset_mask]; done) | split | dsimp only))

@[simp] theorem execTbStep_mask {K : Nat} (r : Req) (k sec nsec : Nat) (s : State) (h : Covers K 0xc0000080200000000000000000000000000000080000000000000000000000000000000005020000000000000000000000035804) : Kept K s (execTbStep r k sec nsec s) := kept_mono h (by
  simp only [execTbStep]
  repeat' (first | with_reducible rfl | decide | with_reducible refine kept_next.2 ?_ | with_reducible refine (State.serve_mask _ _ _ _ _ ?_ (fun t => ?_)).trans ?_ | (simp (disch := first | exact .inl rfl | exact .inr rfl | rfl | decide) only [mask_mk, ite_mask, ite_self, kept_next, ite_st, reply_st, later_st, State.tbStepTo_mask]; done) | split | dsimp only))

@[simp] theorem execPpsOutSet_mask {K : Nat} (r : Req) (tb en width : Nat) (s : State) (h : Covers K 0xe0000000000000000000000000000000000080000000000000000000000000000000001000000000000000000000000015804) : Kept K s (execPpsOutSet r tb en width s) := kept_mono h (by
  simp only [execPpsOutSet]
  repeat' (first | with_reducible rfl | decide | with_reducible refine kept_next.2 ?_ | with_reducible refine (State.serve_mask _ _ _ _ _ ?_ (fun t => ?_)).trans ?_ | (simp (disch := first | exact .inl rfl | exact .inr rfl | rfl | decide) only [mask_mk, ite_mask, ite_self, kept_next, ite_st, reply_st, later_st, State.setFlds_nil_mask, State.setFlds_cons_mask, State.setFld_mask]; done) | split | dsimp only))

@[simp] theorem execTrgSet_mask {K : Nat} (r : Req) (c : TrgCfg) (s : State) (h : Covers K 0x7fe00000000000000000000000000000000000080000000000000000000000000000000001000000000000000000000000035804) : Kept K s (execTrgSet r c s) := kept_mono h (by
  simp only [execTrgSet]
  repeat' (first | with_reducible rfl | decide | with_reducible refine kept_next.2 ?_ | with_reducible refine (State.serve_mask _ _ _ _ _ ?_ (fun t => ?_)).trans ?_ | (simp (disch := first | exact .inl rfl | exact .inr rfl | rfl | decide) only [mask_mk, ite_mask, ite_self, kept_next, ite_st, reply_st, later_st, State.setFlds_nil_mask, State.setFlds_cons_mask, State.setFld_mask, State.trgArm_mask]; done) | split | dsimp only))

@[simp] theorem execTrgQuery_mask {K : Nat} (r : Req) (n : Nat) (s : State) (h : Covers K 0x80000000000000000000000000000000001000000000000000000000000015804) : Kept K s (execTrgQuery r n s) := kept_mono h (by
  simp only [execTrgQuery]
  repeat' (first | with_reducible rfl | decide | with_reducible refine kept_next.2 ?_ | with_reducible refine (State.serve_mask _ _ _ _ _ ?_ (fun t => ?_)).trans ?_ | (simp (disch := first | exact .inl rfl | exact .inr rfl | rfl | decide) only [mask_mk, ite_mask, ite_self, kept_next, ite_st, reply_st, later_st]; done) | split | dsimp only))

@[simp] theorem execTscapSet_mask {K : Nat} (r : Req) (d n en edge tb : Nat) (s : State) (h : Covers K 0x700000000000000000000000000000000000000080000000000000000000000000000000001000000000000000000000000015804) : Kept K s (execTscapSet r d n en edge tb s) := kept_mono h (by
  simp only [execTscapSet]
  repeat' (first | with_reducible rfl | decide | with_reducible refine kept_next.2 ?_ | with_reducible refine (State.serve_mask _ _ _ _ _ ?_ (fun t => ?_)).trans ?_ | (simp (disch := first | exact .inl rfl | exact .inr rfl | rfl | decide) only [mask_mk, ite_mask, ite_self, kept_next, ite_st, reply_st, later_st, State.setFlds_nil_mask, State.setFlds_cons_mask, State.setFld_mask]; done) | split | dsimp only))

@[simp] theorem execTscapRead_mask {K : Nat} (r : Req) (d n : Nat) (s : State) (h : Covers K 0x3000000000000000000000000000000000000000080000000000000000000000000000000001000000000000000000000000015804) : Kept K s (execTscapRead r d n s) := kept_mono h (by
  simp only [execTscapRead]
  repeat' (first | with_reducible rfl | decide | with_reducible refine kept_next.2 ?_ | with_reducible refine (State.serve_mask _ _ _ _ _ ?_ (fun t => ?_)).trans ?_ | (simp (disch := first | exact .inl rfl | exact .inr rfl | rfl | decide) only [mask_mk, ite_mask, ite_self, kept_next, ite_st, reply_st, later_st, State.setFlds_nil_mask, State.setFlds_cons_mask, State.setFld_mask]; done) | split | dsimp only))

@[simp] theorem execCmp32Set_mask {K : Nat} (r : Req) (k tb en sec nsec : Nat) (s : State) (h : Covers K 0x3c000000000000000000000000000000000000000080000000000000000000000000000000001000000000000000000000000035804) : Kept K s (execCmp32Set r k tb en sec nsec s) := kept_mono h (by
  simp only [execCmp32Set]
  repeat' (first | with_reducible rfl | decide | with_reducible refine kept_next.2 ?_ | with_reducible refine (State.serve_mask _ _ _ _ _ ?_ (fun t => ?_)).trans ?_ | (simp (disch := first | exact .inl rfl | exact .inr rfl | rfl | decide) only [mask_mk, ite_mask, ite_self, kept_next, ite_st, reply_st, later_st, State.setFlds_nil_mask, State.setFlds_cons_mask, State.setFld_mask, State.cmpArm_mask]; done) | split | dsimp only))

end Sys2Proof.Machine
end

