-- ==== Sys2Proof/Laws/KeepsClocks.lean ====
section
/-!
SUPPORT. Laws/KeepsClocks.lean: what each operation of Machine/Clocks.lean leaves alone: a mask (Laws/Mask.lean) that covers what the operation may write sees no
difference between the state before and the state after.
-/
set_option linter.unusedSimpArgs false
set_option linter.unusedVariables false

namespace Sys2Proof.Machine

@[simp] theorem State.setGoal_mask {K : Nat} (s : State) (d x v : Nat) (h : Covers K 0x200) : (State.setGoal s d x v).mask K = s.mask K := mask_mono h (by
  simp only [State.setGoal]
  repeat' (first | with_reducible rfl | decide | (simp (disch := first | exact .inl rfl | exact .inr rfl | rfl | decide) only [mask_mk, ite_mask, ite_self]; done) | split | dsimp only))

@[simp] theorem State.switchTo_mask {K : Nat} (src : Nat) (goal : Nat → Nat) (s : State) (dx : Nat × Nat) (h : Covers K 0x60000000000000200) : (State.switchTo src goal s dx).mask K = s.mask K := mask_mono h (by
  simp only [State.switchTo]
  repeat' (first | with_reducible rfl | decide | (simp (disch := first | exact .inl rfl | exact .inr rfl | rfl | decide) only [mask_mk, ite_mask, ite_self, State.setFld_mask, State.setGoal_mask]; done) | split | dsimp only))

@[simp] theorem State.atLimp_mask {K : Nat} (s : State) (dx : Nat × Nat) (h : Covers K 0x60000000000000200) : (State.atLimp s dx).mask K = s.mask K := mask_mono h (by
  simp only [State.atLimp]
  repeat' (first | with_reducible rfl | decide | (simp (disch := first | exact .inl rfl | exact .inr rfl | rfl | decide) only [mask_mk, ite_mask, ite_self, State.setFld_mask, State.setGoal_mask]; done) | split | dsimp only))

@[simp] theorem State.allLimp_mask {K : Nat} (s : State) (h : Covers K 0x60000000000000200) : (State.allLimp s).mask K = s.mask K := mask_mono h (by
  simp only [State.allLimp]
  repeat' (first | with_reducible rfl | decide | with_reducible refine (mask_foldl _ (fun t e => ?_) _ _).trans ?_ | (simp (disch := first | exact .inl rfl | exact .inr rfl | rfl | decide) only [mask_mk, ite_mask, ite_self, State.atLimp_mask]; done) | split | dsimp only))

@[simp] theorem State.clkAll_mask {K : Nat} (s : State) (f : Fld) (v : Nat) (h : Covers K 0x0) (hf : K.testBit f.maskBit = true) : (State.clkAll s f v).mask K = s.mask K := by
  have hb : ∀ i, Nat.testBit 0x0 i = true → K.testBit i = true := fun i => testBit_of_land h
  have hl : ∀ j, Covers 0x0 j → Covers K j := fun j hj => land_trans h hj
  simp only [State.clkAll]
  repeat' (first | with_reducible rfl | exact hl _ (by decide) | with_reducible refine (mask_foldl _ (fun t e => ?_) _ _).trans ?_ | (simp (disch := first | exact .inl (hb _ rfl) | exact .inr rfl | exact hl _ (by decide) | exact hb _ (by decide) | assumption | rfl) only [mask_mk, ite_mask, ite_self, State.setFld_mask]; done) | split | dsimp only)

@[simp] theorem State.clockFailure_mask {K : Nat} (s : State) (d cause : Nat) (h : Covers K 0x203e182000000000000000000000000000000000018c100000000000000000000000000000000000000000000000000000000000000004020000000000061d3000000012da00) : (State.clockFailure s d cause).mask K = s.mask K := mask_mono h (by
  simp only [State.clockFailure]
  repeat' (first | with_reducible rfl | decide | with_reducible refine (mask_foldl _ (fun t e => ?_) _ _).trans ?_ | (simp (disch := first | exact .inl rfl | exact .inr rfl | rfl | decide) only [mask_mk, ite_mask, ite_self, State.clkAll_mask, State.clockHoldover_mask, State.raise_mask, State.source_mask, State.stopActivation_mask, State.switchTo_mask, State.titheAdd_mask]; done) | split | dsimp only | simp (disch := first | exact .inl rfl | exact .inr rfl | rfl | decide) only [mask_mk, ite_mask, ite_self, State.clkAll_mask, State.clockHoldover_mask, State.raise_mask, State.source_mask, State.stopActivation_mask, State.switchTo_mask, State.titheAdd_mask]))

@[simp] theorem State.xoWindow_mask {K : Nat} (s : State) (d c : Nat) (h : Covers K 0x203e182000000000000000000000000000000000018c100000000000000000000000000000000000000000000000000000000000000004020000000000261d3000000012da00) : (State.xoWindow s d c).mask K = s.mask K := mask_mono h (by
  simp only [State.xoWindow]
  repeat' (first | with_reducible rfl | decide | (simp (disch := first | exact .inl rfl | exact .inr rfl | rfl | decide) only [mask_mk, ite_mask, ite_self, State.clockFailure_mask, State.setFld_mask]; done) | split | dsimp only))

@[simp] theorem State.rootWindow_mask {K : Nat} (s : State) (d : Nat) (locked : Bool) (h : Covers K 0x203e182000000000000000000000000000000000018c100000000000000000000000000000000000000000000000000000000000000004020000000000061d3000000012da00) : (State.rootWindow s d locked).mask K = s.mask K := mask_mono h (by
  simp only [State.rootWindow]
  repeat' (first | with_reducible rfl | decide | (simp (disch := first | exact .inl rfl | exact .inr rfl | rfl | decide) only [mask_mk, ite_mask, ite_self, State.clockFailure_mask]; done) | split | dsimp only))

@[simp] theorem State.refbWindow_mask {K : Nat} (s : State) (d c : Nat) (h : Covers K 0x100080000000000600) : (State.refbWindow s d c).mask K = s.mask K := mask_mono h (by
  simp only [State.refbWindow]
  repeat' (first | with_reducible rfl | decide | (simp (disch := first | exact .inl rfl | exact .inr rfl | rfl | decide) only [mask_mk, ite_mask, ite_self, State.requestReset_mask, State.setFld_mask]; done) | split | dsimp only))

@[simp] theorem execClkmonWindowEnd_mask {K : Nat} (d : Nat) (w : ClkWindow) (s : State) (h : Covers K 0x203e182000000000000000000000000000000000018c100000000000000000000000000000000000000000000000000000000000000004020000000000361db000000012de00) : Kept K s (execClkmonWindowEnd d w s) := kept_mono h (by
  simp only [execClkmonWindowEnd]
  repeat' (first | with_reducible rfl | decide | with_reducible refine kept_next.2 ?_ | (simp (disch := first | exact .inl rfl | exact .inr rfl | rfl | decide) only [mask_mk, ite_mask, ite_self, kept_next, State.refbWindow_mask, State.rootWindow_mask, State.xoWindow_mask]; done) | split | dsimp only))

@[simp] theorem execClkAckTimeout_mask {K : Nat} (s : State) (h : Covers K 0x600) : Kept K s (execClkAckTimeout s) := kept_mono h (by
  simp only [execClkAckTimeout]
  repeat' (first | with_reducible rfl | decide | with_reducible refine kept_next.2 ?_ | (simp (disch := first | exact .inl rfl | exact .inr rfl | rfl | decide) only [mask_mk, ite_mask, ite_self, kept_next, State.requestReset_mask]; done) | split | dsimp only))

@[simp] theorem wrClkAck_mask {K : Nat} (m : Master) (d data : Nat) (s : State) (h : Covers K 0x4027fc0000000000020000000004a00) : (wrClkAck m d data s).mask K = s.mask K := mask_mono h (by
  simp only [wrClkAck]
  repeat' (first | with_reducible rfl | decide | with_reducible refine (State.guarded_mask _ _ _ _ _ _ ?_ (fun t => ?_)).trans ?_ | (simp (disch := first | exact .inl rfl | exact .inr rfl | rfl | decide) only [mask_mk, ite_mask, ite_self, State.clkAll_mask]; done) | split | dsimp only))

@[simp] theorem execClkAckWrite_mask {K : Nat} (m : Master) (d : Nat) (data : Word) (s : State) (h : Covers K 0x4027fc0000000000020000000004a88) : Kept K s (execClkAckWrite m d data s) := kept_mono h (by
  simp only [execClkAckWrite]
  repeat' (first | with_reducible rfl | decide | with_reducible refine kept_next.2 ?_ | with_reducible refine (State.regWrite_mask _ _ _ _ _ _ _ ?_ (fun t => ?_)).trans ?_ | (simp (disch := first | exact .inl rfl | exact .inr rfl | rfl | decide) only [mask_mk, ite_mask, ite_self, kept_next, wrClkAck_mask]; done) | split | dsimp only))

@[simp] theorem State.retarget_mask {K : Nat} (s : State) (d x v : Nat) (h : Covers K 0x80000000000000200) : (State.retarget s d x v).mask K = s.mask K := mask_mono h (by
  simp only [State.retarget]
  repeat' (first | with_reducible rfl | decide | (simp (disch := first | exact .inl rfl | exact .inr rfl | rfl | decide) only [mask_mk, ite_mask, ite_self, State.setFld_mask, State.setGoal_mask]; done) | split | dsimp only))

@[simp] theorem State.leaveLimp_mask {K : Nat} (s : State) (h : Covers K 0x81000000000000200) : (State.leaveLimp s).mask K = s.mask K := mask_mono h (by
  simp only [State.leaveLimp]
  repeat' (first | with_reducible rfl | decide | with_reducible refine (mask_foldl _ (fun t e => ?_) _ _).trans ?_ | (simp (disch := first | exact .inl rfl | exact .inr rfl | rfl | decide) only [mask_mk, ite_mask, ite_self, State.clkAll_mask, State.retarget_mask]; done) | split | dsimp only))

@[simp] theorem execDividerRampStep_mask {K : Nat} (d x : Nat) (s : State) (h : Covers K 0xc1000000000000200) : Kept K s (execDividerRampStep d x s) := kept_mono h (by
  simp only [execDividerRampStep]
  repeat' (first | with_reducible rfl | decide | with_reducible refine kept_next.2 ?_ | (simp (disch := first | exact .inl rfl | exact .inr rfl | rfl | decide) only [mask_mk, ite_mask, ite_self, kept_next, State.leaveLimp_mask, State.setFld_mask]; done) | split | dsimp only))

@[simp] theorem wrClkDiv_mask {K : Nat} (m : Master) (d x data : Nat) (s : State) (h : Covers K 0x4027fc0000000080004000000004a00) : (wrClkDiv m d x data s).mask K = s.mask K := mask_mono h (by
  simp only [wrClkDiv]
  repeat' (first | with_reducible rfl | decide | with_reducible refine (State.guarded_mask _ _ _ _ _ _ ?_ (fun t => ?_)).trans ?_ | (simp (disch := first | exact .inl rfl | exact .inr rfl | rfl | decide) only [mask_mk, ite_mask, ite_self, State.flag_mask, State.retarget_mask]; done) | split | dsimp only))

@[simp] theorem execClkDivTargetWrite_mask {K : Nat} (m : Master) (d x : Nat) (data : Word) (s : State) (h : Covers K 0x4027fc0000000080004000000004a88) : Kept K s (execClkDivTargetWrite m d x data s) := kept_mono h (by
  simp only [execClkDivTargetWrite]
  repeat' (first | with_reducible rfl | decide | with_reducible refine kept_next.2 ?_ | with_reducible refine (State.regWrite_mask _ _ _ _ _ _ _ ?_ (fun t => ?_)).trans ?_ | (simp (disch := first | exact .inl rfl | exact .inr rfl | rfl | decide) only [mask_mk, ite_mask, ite_self, kept_next, wrClkDiv_mask]; done) | split | dsimp only))

@[simp] theorem State.startRestore_mask {K : Nat} (s : State) (r : Option Req) (h : Covers K 0x400000000000200) : (State.startRestore s r).mask K = s.mask K := mask_mono h (by
  simp only [State.startRestore]
  repeat' (first | with_reducible rfl | decide | (simp (disch := first | exact .inl rfl | exact .inr rfl | rfl | decide) only [mask_mk, ite_mask, ite_self, State.clkAll_mask]; done) | split | dsimp only))

@[simp] theorem wrClkCtrl_mask {K : Nat} (m : Master) (d data : Nat) (s : State) (h : Covers K 0x4027fc000000000c484000000004a00) : (wrClkCtrl m d data s).mask K = s.mask K := mask_mono h (by
  simp only [wrClkCtrl]
  repeat' (first | with_reducible rfl | decide | with_reducible refine (State.guarded_mask _ _ _ _ _ _ ?_ (fun t => ?_)).trans ?_ | (simp (disch := first | exact .inl rfl | exact .inr rfl | rfl | decide) only [mask_mk, ite_mask, ite_self, State.clkAll_mask, State.flag_mask, State.setFld_mask, State.startRestore_mask]; done) | split | dsimp only))

@[simp] theorem execClkCtrlRestore_mask {K : Nat} (m : Master) (d : Nat) (data : Word) (s : State) (h : Covers K 0x4027fc000000000c484000000004a88) : Kept K s (execClkCtrlRestore m d data s) := kept_mono h (by
  simp only [execClkCtrlRestore]
  repeat' (first | with_reducible rfl | decide | with_reducible refine kept_next.2 ?_ | with_reducible refine (State.regWrite_mask _ _ _ _ _ _ _ ?_ (fun t => ?_)).trans ?_ | (simp (disch := first | exact .inl rfl | exact .inr rfl | rfl | decide) only [mask_mk, ite_mask, ite_self, kept_next, wrClkCtrl_mask]; done) | split | dsimp only))

@[simp] theorem execSscDepthApply_mask {K : Nat} (s : State) (h : Covers K 0x200) : Kept K s (execSscDepthApply s) := kept_mono h (by
  simp only [execSscDepthApply]
  repeat' (first | with_reducible rfl | decide | with_reducible refine kept_next.2 ?_ | (simp (disch := first | exact .inl rfl | exact .inr rfl | rfl | decide) only [mask_mk, ite_mask, ite_self, kept_next]; done) | split | dsimp only))

@[simp] theorem State.rootVerdicts_mask {K : Nat} (s : State) (root : List PllWindows) (h : Covers K 0x400000000000000) : (State.rootVerdicts s root).mask K = s.mask K := mask_mono h (by
  simp only [State.rootVerdicts]
  repeat' (first | with_reducible rfl | decide | with_reducible refine (mask_foldl _ (fun t e => ?_) _ _).trans ?_ | (simp (disch := first | exact .inl rfl | exact .inr rfl | rfl | decide) only [mask_mk, ite_mask, ite_self, State.setFld_mask]; done) | split | dsimp only))

@[simp] theorem State.trefGood_mask {K : Nat} (s : State) (h : Covers K 0xc100000000000000000000000000000000000000000000000000000000000000004020000000000000300000000004800) : (State.trefGood s).mask K = s.mask K := mask_mono h (by
  simp only [State.trefGood]
  repeat' (first | with_reducible rfl | decide | (simp (disch := first | exact .inl rfl | exact .inr rfl | rfl | decide) only [mask_mk, ite_mask, ite_self, State.clkAll_mask, State.trefBack_mask]; done) | split | dsimp only))

@[simp] theorem execRestoreJudgementEnd_mask {K : Nat} (xo : List Nat) (root tref : List PllWindows) (s : State) (h : Covers K 0xc100000000000000000000000000000080000000000000000000000000000000005020000000000060f08000000014a00) : Kept K s (execRestoreJudgementEnd xo root tref s) := kept_mono h (by
  simp only [execRestoreJudgementEnd]
  repeat' (first | with_reducible rfl | decide | with_reducible refine kept_next.2 ?_ | with_reducible refine (mask_foldl _ (fun t e => ?_) _ _).trans ?_ | (simp (disch := first | exact .inl rfl | exact .inr rfl | rfl | decide) only [mask_mk, ite_mask, ite_self, kept_next, State.answer_mask, State.clkAll_mask, State.rootVerdicts_mask, State.switchTo_mask, State.trefGood_mask]; done) | split | dsimp only | simp (disch := first | exact .inl rfl | exact .inr rfl | rfl | decide) only [mask_mk, ite_mask, ite_self, kept_next, State.answer_mask, State.clkAll_mask, State.rootVerdicts_mask, State.switchTo_mask, State.trefGood_mask]))

@[simp] theorem execClkQuery_mask {K : Nat} (r : Req) (d : Nat) (s : State) (h : Covers K 0x80000000000000000000000000000000001000000000000000000000000015804) : Kept K s (execClkQuery r d s) := kept_mono h (by
  simp only [execClkQuery]
  repeat' (first | with_reducible rfl | decide | with_reducible refine kept_next.2 ?_ | with_reducible refine (State.serve_mask _ _ _ _ _ ?_ (fun t => ?_)).trans ?_ | (simp (disch := first | exact .inl rfl | exact .inr rfl | rfl | decide) only [mask_mk, ite_mask, ite_self, kept_next, ite_st, reply_st, later_st]; done) | split | dsimp only))

@[simp] theorem execClkSpread_mask {K : Nat} (r : Req) (depth : Nat) (s : State) (h : Covers K 0x80000000000000000000000000000000001000000000000008000000000015804) : Kept K s (execClkSpread r depth s) := kept_mono h (by
  simp only [execClkSpread]
  repeat' (first | with_reducible rfl | decide | with_reducible refine kept_next.2 ?_ | with_reducible refine (State.serve_mask _ _ _ _ _ ?_ (fun t => ?_)).trans ?_ | (simp (disch := first | exact .inl rfl | exact .inr rfl | rfl | decide) only [mask_mk, ite_mask, ite_self, kept_next, ite_st, reply_st, later_st, State.setFld_mask]; done) | split | dsimp only))

@[simp] theorem execClkRestore_mask {K : Nat} (r : Req) (s : State) (h : Covers K 0x80000000000000000000000000000000001000000000000000400000000015a04) : Kept K s (execClkRestore r s) := kept_mono h (by
  simp only [execClkRestore]
  repeat' (first | with_reducible rfl | decide | with_reducible refine kept_next.2 ?_ | with_reducible refine (State.serve_mask _ _ _ _ _ ?_ (fun t => ?_)).trans ?_ | (simp (disch := first | exact .inl rfl | exact .inr rfl | rfl | decide) only [mask_mk, ite_mask, ite_self, kept_next, ite_st, reply_st, later_st, State.startRestore_mask]; done) | split | dsimp only))

end Sys2Proof.Machine
end

