-- ==== Sys2Proof/Laws/KeepsMemory.lean ====
section
/-!
SUPPORT. Laws/KeepsMemory.lean: what each operation of Machine/Memory.lean leaves alone: a mask (Laws/Mask.lean) that covers what the operation may write sees no
difference between the state before and the state after.
-/
set_option linter.unusedSimpArgs false
set_option linter.unusedVariables false

namespace Sys2Proof.Machine

@[simp] theorem execEccCorrectionWriteback_mask {K : Nat} (master addr syndrome origin : Nat) (_overwritten : Bool) (s : State) (h : Covers K 0x1ffe100000000000000000000000000002000) : Kept K s (execEccCorrectionWriteback master addr syndrome origin _overwritten s) := kept_mono h (by
  simp only [execEccCorrectionWriteback]
  repeat' (first | with_reducible rfl | decide | with_reducible refine kept_next.2 ?_ | (simp (disch := first | exact .inl rfl | exact .inr rfl | rfl | decide) only [mask_mk, ite_mask, ite_self, kept_next, State.grnCorrected_mask]; done) | split | dsimp only))

@[simp] theorem State.scrubOn_mask {K : Nat} (s : State) (d unit : Nat) (h : Covers K 0x8000200000000000000000000000000002000) : (State.scrubOn s d unit).mask K = s.mask K := mask_mono h (by
  simp only [State.scrubOn]
  repeat' (first | with_reducible rfl | decide | (simp (disch := first | exact .inl rfl | exact .inr rfl | rfl | decide) only [mask_mk, ite_mask, ite_self, State.flag_mask, State.setFld_mask]; done) | split | dsimp only))

@[simp] theorem State.scrubFind_mask {K : Nat} (s : State) (g : Nat) (found : EccFound) (h : Covers K 0x203e1820000000000000000000000000000000000000000000000000000000000000000000000000000000000000000000000003ffe10402000000000000000000000010e800) : (State.scrubFind s g found).mask K = s.mask K := mask_mono h (by
  simp only [State.scrubFind]
  repeat' (first | with_reducible rfl | decide | (simp (disch := first | exact .inl rfl | exact .inr rfl | rfl | decide) only [mask_mk, ite_mask, ite_self, State.detect_mask, State.grnCorrected_mask, State.poison_mask]; done) | split | dsimp only))

@[simp] theorem execScrubRead_mask {K : Nat} (d unit : Nat) (found : EccFound) (s : State) (h : Covers K 0x203e182000000000000000000000000000000000000000000000000000000000000000000000000000000000000000000000000bffe30402000000000000000000000010e804) : Kept K s (execScrubRead d unit found s) := kept_mono h (by
  simp only [execScrubRead]
  repeat' (first | with_reducible rfl | decide | with_reducible refine kept_next.2 ?_ | with_reducible refine (mask_foldl _ (fun t e => ?_) _ _).trans ?_ | (simp (disch := first | exact .inl rfl | exact .inr rfl | rfl | decide) only [mask_mk, ite_mask, ite_self, kept_next, State.detect_mask, State.fresh_mask, State.scrubFind_mask, State.scrubOn_mask]; done) | split | dsimp only | simp (disch := first | exact .inl rfl | exact .inr rfl | rfl | decide) only [mask_mk, ite_mask, ite_self, kept_next, State.detect_mask, State.fresh_mask, State.scrubFind_mask, State.scrubOn_mask]))

@[simp] theorem State.readFails_mask {K : Nat} (s : State) (master : Nat) (h : Covers K 0x40000) : (State.readFails s master).mask K = s.mask K := mask_mono h (by
  simp only [State.readFails]
  repeat' (first | with_reducible rfl | decide | with_reducible refine (mask_foldl _ (fun t e => ?_) _ _).trans ?_ | (simp (disch := first | exact .inl rfl | exact .inr rfl | rfl | decide) only [mask_mk, ite_mask, ite_self, State.setPlaced_mask]; done) | split | dsimp only))

@[simp] theorem execDramReread_mask {K : Nat} (master addr bg bank rank rereads : Nat) (clean : Bool) (s : State) (h : Covers K 0x203e18200000000000000000000000000000000000000000000000000000000000000000000000000000000000000007fff0800000000402000000000000000000000014e808) : Kept K s (execDramReread master addr bg bank rank rereads clean s) := kept_mono h (by
  have hd : ∀ n, Nat.testBit 0x203e18200000000000000000000000000000000000000000000000000000000000000000000000000000000000000007fff0800000000402000000000000000000000014e808 (dramCe n).maskBit = true := by intro n; unfold dramCe; split <;> rfl
  simp only [execDramReread]
  repeat' split
  all_goals simp (disch := first | exact .inl rfl | exact .inr rfl | rfl | exact hd _ | decide) only [kept_next, mask_mk, State.addSat_mask, State.ceTotalAdd_mask,
    State.ueTotalAdd_mask, State.dramLog_mask, State.ueEvent_mask, State.readFails_mask])

@[simp] theorem State.collect_mask {K : Nat} (s : State) (d off : Nat) (f : Fld) (i : Nat) (h : Covers K 0x8000) (hf : K.testBit f.maskBit = true) : (State.collect s d off f i).mask K = s.mask K := by
  have hb : ∀ i, Nat.testBit 0x8000 i = true → K.testBit i = true := fun i => testBit_of_land h
  have hl : ∀ j, Covers 0x8000 j → Covers K j := fun j hj => land_trans h hj
  simp only [State.collect]
  repeat' (first | with_reducible rfl | exact hl _ (by decide) | (simp (disch := first | exact .inl (hb _ rfl) | exact .inr rfl | exact hl _ (by decide) | exact hb _ (by decide) | assumption | rfl) only [mask_mk, ite_mask, ite_self, State.setFld_mask, State.titheAdd_mask]; done) | split | dsimp only)

@[simp] theorem State.collectEcc_mask {K : Nat} (s : State) (d : Nat) (h : Covers K 0x7c0000003e00000000000000000000000000000008000) : (State.collectEcc s d).mask K = s.mask K := mask_mono h (by
  have hg : ∀ n, Nat.testBit 0x7c0000003e00000000000000000000000000000008000 (grnCe n).maskBit = true := by intro n; unfold grnCe; split <;> rfl
  have hd : ∀ n, Nat.testBit 0x7c0000003e00000000000000000000000000000008000 (dramCe n).maskBit = true := by intro n; unfold dramCe; split <;> rfl
  simp only [State.collectEcc]
  rw [State.collect_mask _ _ _ _ _ (by decide) rfl, State.collect_mask _ _ _ _ _ (by decide) rfl]
  refine (mask_foldl _ (fun t n => State.collect_mask _ _ _ _ _ (by decide) (hd _)) _ _).trans ?_
  exact mask_foldl _ (fun t n => State.collect_mask _ _ _ _ _ (by decide) (hg _)) _ _)

@[simp] theorem execDramPowerDownEntry_mask {K : Nat} (d ch : Nat) (s : State) (h : Covers K 0x2000) : Kept K s (execDramPowerDownEntry d ch s) := kept_mono h (by
  simp only [execDramPowerDownEntry]
  repeat' (first | with_reducible rfl | decide | with_reducible refine kept_next.2 ?_ | (simp (disch := first | exact .inl rfl | exact .inr rfl | rfl | decide) only [mask_mk, ite_mask, ite_self, kept_next]; done) | split | dsimp only))

@[simp] theorem execDramRefreshDerate_mask {K : Nat} (d ch : Nat) (derate : Bool) (s : State) (h : Covers K 0x10000000000000000000000000000000000002000) : Kept K s (execDramRefreshDerate d ch derate s) := kept_mono h (by
  simp only [execDramRefreshDerate]
  repeat' (first | with_reducible rfl | decide | with_reducible refine kept_next.2 ?_ | (simp (disch := first | exact .inl rfl | exact .inr rfl | rfl | decide) only [mask_mk, ite_mask, ite_self, kept_next, State.setFld_mask]; done) | split | dsimp only))

@[simp] theorem State.quotaDone_mask {K : Nat} (s : State) (d k sl : Nat) (h : Covers K 0x80000000000000000000000000000000001000000000000000000000000016800) : (State.quotaDone s d k sl).mask K = s.mask K := mask_mono h (by
  simp only [State.quotaDone]
  repeat' (first | with_reducible rfl | decide | with_reducible refine (mask_foldl _ (fun t e => ?_) _ _).trans ?_ | (simp (disch := first | exact .inl rfl | exact .inr rfl | rfl | decide) only [mask_mk, ite_mask, ite_self, State.answer_mask]; done) | split | dsimp only))

@[simp] theorem State.startRefill_mask {K : Nat} (s : State) (d k sl : Nat) (h : Covers K 0x203e182050040000000000000000000000000000000000000000000000000000000000000008000000000000000000000000000000000502000000000000000000000051e800) : (State.startRefill s d k sl).mask K = s.mask K := mask_mono h (by
  simp only [State.startRefill]
  repeat' (first | with_reducible rfl | decide | (simp (disch := first | exact .inl rfl | exact .inr rfl | rfl | decide) only [mask_mk, ite_mask, ite_self, State.changeBuf_mask]; done) | split | dsimp only))

@[simp] theorem State.refills_mask {K : Nat} (s : State) (d sl : Nat) (h : Covers K 0x203e182050040000000000000000000000000000000000000000000000000000000000000008000000000000000000000000000000000502000000000000000000000051e800) : (State.refills s d sl).mask K = s.mask K := mask_mono h (by
  simp only [State.refills]
  repeat' (first | with_reducible rfl | decide | with_reducible refine (mask_foldl _ (fun t e => ?_) _ _).trans ?_ | (simp (disch := first | exact .inl rfl | exact .inr rfl | rfl | decide) only [mask_mk, ite_mask, ite_self, State.startRefill_mask]; done) | split | dsimp only))

@[simp] theorem execSpillStart_mask {K : Nat} (d k sl : Nat) (s : State) (h : Covers K 0x203e1820500400000000000000000000000000000000000000000000000000000000000002080040000000fde0781c00000000021fe9050200000000000000000000005de824) : Kept K s (execSpillStart d k sl s) := kept_mono h (by
  simp only [execSpillStart]
  repeat' (first | with_reducible rfl | decide | with_reducible refine kept_next.2 ?_ | with_reducible refine (mask_foldl _ (fun t e => ?_) _ _).trans ?_ | (simp (disch := first | exact .inl rfl | exact .inr rfl | rfl | decide) only [mask_mk, ite_mask, ite_self, kept_next, State.changeBuf_mask, State.flag_mask, State.killWhere_mask, State.quotaDone_mask]; done) | split | dsimp only | simp (disch := first | exact .inl rfl | exact .inr rfl | rfl | decide) only [mask_mk, ite_mask, ite_self, kept_next, State.changeBuf_mask, State.flag_mask, State.killWhere_mask, State.quotaDone_mask]))

@[simp] theorem State.moveEnd_mask {K : Nat} (s : State) (d k sl : Nat) (m : Move) (h : Covers K 0x203e18205004000000000000000000000000000000000000000000000000000000000000000800000000000000000000000000421fe10502000000000000000000000051e824) : (State.moveEnd s d k sl m).mask K = s.mask K := mask_mono h (by
  simp only [State.moveEnd]
  repeat' (first | with_reducible rfl | decide | (simp (disch := first | exact .inl rfl | exact .inr rfl | rfl | decide) only [mask_mk, ite_mask, ite_self, State.changeBuf_mask, State.copyMem_mask, State.setFld_mask]; done) | split | dsimp only))

@[simp] theorem execSpillCopyEnd_mask {K : Nat} (d k sl : Nat) (s : State) (h : Covers K 0x203e18205004000000000000000000000000000000000000000000000000000000000000000800000000000000000000000000421fe10502000000000000000000000051e824) : Kept K s (execSpillCopyEnd d k sl s) := kept_mono h (by
  simp only [execSpillCopyEnd]
  repeat' (first | with_reducible rfl | decide | with_reducible refine kept_next.2 ?_ | (simp (disch := first | exact .inl rfl | exact .inr rfl | rfl | decide) only [mask_mk, ite_mask, ite_self, kept_next, State.moveEnd_mask, State.quotaDone_mask, State.refills_mask]; done) | split | dsimp only))

@[simp] theorem execRefillCopyEnd_mask {K : Nat} (d k sl : Nat) (s : State) (h : Covers K 0x203e18205004000000000000000000000000000000000000000000000000000000000000000800000008000000000000000000421fe10502000000000000000000000055e824) : Kept K s (execRefillCopyEnd d k sl s) := kept_mono h (by
  simp only [execRefillCopyEnd]
  repeat' (first | with_reducible rfl | decide | with_reducible refine kept_next.2 ?_ | with_reducible refine (mask_foldl _ (fun t e => ?_) _ _).trans ?_ | (simp (disch := first | exact .inl rfl | exact .inr rfl | rfl | decide) only [mask_mk, ite_mask, ite_self, kept_next, State.guaranteeBroken_mask, State.moveEnd_mask, State.quotaDone_mask, State.refills_mask, State.startRefill_mask]; done) | split | dsimp only))

@[simp] theorem State.putQuota_mask {K : Nat} (s : State) (d k sl quota : Nat) (h : Covers K 0x203e182050040000000000000000000000000000000000000000000000000000000000000008000000000000000000000000004000000502000000000000000000000051e800) : (State.putQuota s d k sl quota).mask K = s.mask K := mask_mono h (by
  simp only [State.putQuota]
  repeat' (first | with_reducible rfl | decide | (simp (disch := first | exact .inl rfl | exact .inr rfl | rfl | decide) only [mask_mk, ite_mask, ite_self, State.setFld_mask, State.startRefill_mask]; done) | split | dsimp only))

@[simp] theorem wrGrnQuota_mask {K : Nat} (m : Master) (d k sl data : Nat) (s : State) (h : Covers K 0x203e1820500400000000000000000000000000000000000000000000000000000000000000080000000000000000000000000040000805027fc000000000000000000051e800) : (wrGrnQuota m d k sl data s).mask K = s.mask K := mask_mono h (by
  simp only [wrGrnQuota]
  repeat' (first | with_reducible rfl | decide | with_reducible refine (State.guarded_mask _ _ _ _ _ _ ?_ (fun t => ?_)).trans ?_ | (simp (disch := first | exact .inl rfl | exact .inr rfl | rfl | decide) only [mask_mk, ite_mask, ite_self, State.flag_mask, State.putQuota_mask]; done) | split | dsimp only))

@[simp] theorem execGrnQuotaWrite_mask {K : Nat} (m : Master) (d k sl : Nat) (data : Word) (s : State) (h : Covers K 0x203e1820500400000000000000000000000000000000000000000000000000000000000000080000000000000000000000000040000805027fc000000000000000000051e888) : Kept K s (execGrnQuotaWrite m d k sl data s) := kept_mono h (by
  simp only [execGrnQuotaWrite]
  repeat' (first | with_reducible rfl | decide | with_reducible refine kept_next.2 ?_ | with_reducible refine (State.regWrite_mask _ _ _ _ _ _ _ ?_ (fun t => ?_)).trans ?_ | (simp (disch := first | exact .inl rfl | exact .inr rfl | rfl | decide) only [mask_mk, ite_mask, ite_self, kept_next, wrGrnQuota_mask]; done) | split | dsimp only))

@[simp] theorem State.scramble_mask {K : Nat} (s : State) (a n : Nat) (h : Covers K 0x24) : (State.scramble s a n).mask K = s.mask K := mask_mono h (by
  simp only [State.scramble]
  repeat' (first | with_reducible rfl | decide | with_reducible refine (mask_foldl _ (fun t e => ?_) _ _).trans ?_ | (simp (disch := first | exact .inl rfl | exact .inr rfl | rfl | decide) only [mask_mk, ite_mask, ite_self]; done) | split | dsimp only))

@[simp] theorem State.putMap_mask {K : Nat} (s : State) (d kv stook : Nat) (h : Covers K 0xc00000000000000000000000000000000002024) : (State.putMap s d kv stook).mask K = s.mask K := mask_mono h (by
  simp only [State.putMap]
  repeat' (first | with_reducible rfl | decide | (simp (disch := first | exact .inl rfl | exact .inr rfl | rfl | decide) only [mask_mk, ite_mask, ite_self, State.setFlds_nil_mask, State.setFlds_cons_mask, State.setFld_mask, State.moveBytes_mask, State.scramble_mask]; done) | split | dsimp only))

@[simp] theorem wrLoftMap_mask {K : Nat} (m : Master) (d data : Nat) (s : State) (h : Covers K 0xf00000004027fc0000000000000000000006824) : (wrLoftMap m d data s).mask K = s.mask K := mask_mono h (by
  simp only [wrLoftMap]
  repeat' (first | with_reducible rfl | decide | with_reducible refine (State.guarded_mask _ _ _ _ _ _ ?_ (fun t => ?_)).trans ?_ | (simp (disch := first | exact .inl rfl | exact .inr rfl | rfl | decide) only [mask_mk, ite_mask, ite_self, State.flag_mask, State.putMap_mask]; done) | split | dsimp only))

@[simp] theorem execLoftMapWrite_mask {K : Nat} (m : Master) (d : Nat) (data : Word) (s : State) (h : Covers K 0xf00000004027fc00000000000000000000068ac) : Kept K s (execLoftMapWrite m d data s) := kept_mono h (by
  simp only [execLoftMapWrite]
  repeat' (first | with_reducible rfl | decide | with_reducible refine kept_next.2 ?_ | with_reducible refine (State.regWrite_mask _ _ _ _ _ _ _ ?_ (fun t => ?_)).trans ?_ | (simp (disch := first | exact .inl rfl | exact .inr rfl | rfl | decide) only [mask_mk, ite_mask, ite_self, kept_next, wrLoftMap_mask]; done) | split | dsimp only))

@[simp] theorem wrLoftScratch_mask {K : Nat} (m : Master) (d k data : Nat) (s : State) (h : Covers K 0x2200000004027fc0000000000000000000004800) : (wrLoftScratch m d k data s).mask K = s.mask K := mask_mono h (by
  simp only [wrLoftScratch]
  repeat' (first | with_reducible rfl | decide | with_reducible refine (State.guarded_mask _ _ _ _ _ _ ?_ (fun t => ?_)).trans ?_ | (simp (disch := first | exact .inl rfl | exact .inr rfl | rfl | decide) only [mask_mk, ite_mask, ite_self, State.flag_mask, State.setFld_mask]; done) | split | dsimp only))

@[simp] theorem execLoftScratchWrite_mask {K : Nat} (m : Master) (d k : Nat) (data : Word) (s : State) (h : Covers K 0x2200000004027fc0000000000000000000004888) : Kept K s (execLoftScratchWrite m d k data s) := kept_mono h (by
  simp only [execLoftScratchWrite]
  repeat' (first | with_reducible rfl | decide | with_reducible refine kept_next.2 ?_ | with_reducible refine (State.regWrite_mask _ _ _ _ _ _ _ ?_ (fun t => ?_)).trans ?_ | (simp (disch := first | exact .inl rfl | exact .inr rfl | rfl | decide) only [mask_mk, ite_mask, ite_self, kept_next, wrLoftScratch_mask]; done) | split | dsimp only))

@[simp] theorem execMemQuota_mask {K : Nat} (r : Req) (d k sl quota : Nat) (s : State) (h : Covers K 0x203e182050040000000000000000000000000000000000000000000000000000000000000008000000000000000000000000204000000502000000000000000000000051f804) : Kept K s (execMemQuota r d k sl quota s) := kept_mono h (by
  simp only [execMemQuota]
  repeat' (first | with_reducible rfl | decide | with_reducible refine kept_next.2 ?_ | with_reducible refine (State.serve_mask _ _ _ _ _ ?_ (fun t => ?_)).trans ?_ | (simp (disch := first | exact .inl rfl | exact .inr rfl | rfl | decide) only [mask_mk, ite_mask, ite_self, kept_next, ite_st, reply_st, later_st, State.putQuota_mask, State.setFld_mask]; done) | split | dsimp only))

@[simp] theorem execMemAlloc_mask {K : Nat} (r : Req) (d k sl flags length : Nat) (s : State) (h : Covers K 0x203e182050040000000000000000000000000000000000000000000000000000000000000008000000000000000000000000000000000502000000000000000000000051f804) : Kept K s (execMemAlloc r d k sl flags length s) := kept_mono h (by
  simp only [execMemAlloc]
  repeat' (first | with_reducible rfl | decide | with_reducible refine kept_next.2 ?_ | with_reducible refine (State.serve_mask _ _ _ _ _ ?_ (fun t => ?_)).trans ?_ | (simp (disch := first | exact .inl rfl | exact .inr rfl | rfl | decide) only [mask_mk, ite_mask, ite_self, kept_next, ite_st, reply_st, later_st, State.changeBuf_mask]; done) | split | dsimp only))

@[simp] theorem execMemFree_mask {K : Nat} (r : Req) (handle : Word) (s : State) (h : Covers K 0x203e182050040000000000000000000000000000000000000000000000000000000000000008000000000000000000000000000000000502000000000000000000000051f804) : Kept K s (execMemFree r handle s) := kept_mono h (by
  simp only [execMemFree]
  repeat' (first | with_reducible rfl | decide | with_reducible refine kept_next.2 ?_ | with_reducible refine (State.serve_mask _ _ _ _ _ ?_ (fun t => ?_)).trans ?_ | (simp (disch := first | exact .inl rfl | exact .inr rfl | rfl | decide) only [mask_mk, ite_mask, ite_self, kept_next, ite_st, reply_st, later_st, State.changeBuf_mask, State.refills_mask]; done) | split | dsimp only))

@[simp] theorem execMemBufQuery_mask {K : Nat} (r : Req) (handle : Word) (s : State) (h : Covers K 0x80000000000000000000000000000000001000000000000000000000000015804) : Kept K s (execMemBufQuery r handle s) := kept_mono h (by
  simp only [execMemBufQuery]
  repeat' (first | with_reducible rfl | decide | with_reducible refine kept_next.2 ?_ | with_reducible refine (State.serve_mask _ _ _ _ _ ?_ (fun t => ?_)).trans ?_ | (simp (disch := first | exact .inl rfl | exact .inr rfl | rfl | decide) only [mask_mk, ite_mask, ite_self, kept_next, ite_st, reply_st, later_st]; done) | split | dsimp only))

@[simp] theorem execMemLoftMap_mask {K : Nat} (r : Req) (d kv stook : Nat) (s : State) (h : Covers K 0x80000000000000000000000000c00000001000000000000000000000000017824) : Kept K s (execMemLoftMap r d kv stook s) := kept_mono h (by
  simp only [execMemLoftMap]
  repeat' (first | with_reducible rfl | decide | with_reducible refine kept_next.2 ?_ | with_reducible refine (State.serve_mask _ _ _ _ _ ?_ (fun t => ?_)).trans ?_ | (simp (disch := first | exact .inl rfl | exact .inr rfl | rfl | decide) only [mask_mk, ite_mask, ite_self, kept_next, ite_st, reply_st, later_st, State.putMap_mask]; done) | split | dsimp only))

@[simp] theorem execMemEccQuery_mask {K : Nat} (r : Req) (d : Nat) (s : State) (h : Covers K 0x80000000000000000000000000000000001000000000000000000000000015804) : Kept K s (execMemEccQuery r d s) := kept_mono h (by
  simp only [execMemEccQuery]
  repeat' (first | with_reducible rfl | decide | with_reducible refine kept_next.2 ?_ | with_reducible refine (State.serve_mask _ _ _ _ _ ?_ (fun t => ?_)).trans ?_ | (simp (disch := first | exact .inl rfl | exact .inr rfl | rfl | decide) only [mask_mk, ite_mask, ite_self, kept_next, ite_st, reply_st, later_st]; done) | split | dsimp only))

end Sys2Proof.Machine
end

