-- ==== Sys2Proof/Laws/KeepsTithe.lean ====
section
/-!
SUPPORT. Laws/KeepsTithe.lean: what each operation of Machine/Tithe.lean leaves alone: a mask (Laws/Mask.lean) that covers what the operation may write sees no
difference between the state before and the state after.
-/
set_option linter.unusedSimpArgs false
set_option linter.unusedVariables false

namespace Sys2Proof.Machine

@[simp] theorem State.titheLoad_mask {K : Nat} (s : State) (cause : Nat) (h : Covers K 0xc80000000000000000000000000000000000000000000000000000000000000000000000000000000000000000000000000000000000000000000000000000000000000000000000000000008000) : (State.titheLoad s cause).mask K = s.mask K := mask_mono h (by
  simp only [State.titheLoad]
  repeat' (first | with_reducible rfl | decide | (simp (disch := first | exact .inl rfl | exact .inr rfl | rfl | decide) only [mask_mk, ite_mask, ite_self, State.setFlds_nil_mask, State.setFlds_cons_mask, State.setFld_mask, State.flag_mask, State.titheAdd_mask]; done) | split | dsimp only))

@[simp] theorem State.titheStart_mask {K : Nat} (s : State) (reason : Nat) (r : Option Req) (h : Covers K 0x200000000000000000000000000000000000000000000000000000000000000000000000000000000000000000000000000000000000000000000000000000000000000000000000000000008000) : (State.titheStart s reason r).mask K = s.mask K := mask_mono h (by
  simp only [State.titheStart]
  repeat' (first | with_reducible rfl | decide | (simp (disch := first | exact .inl rfl | exact .inr rfl | rfl | decide) only [mask_mk, ite_mask, ite_self, State.flag_mask]; done) | split | dsimp only))

@[simp] theorem State.railsOff_mask {K : Nat} (s : State) (h : Covers K 0x10000) : (State.railsOff s).mask K = s.mask K := mask_mono h (by
  simp only [State.railsOff]
  repeat' (first | with_reducible rfl | decide | with_reducible refine (mask_foldl _ (fun t e => ?_) _ _).trans ?_ | (simp (disch := first | exact .inl rfl | exact .inr rfl | rfl | decide) only [mask_mk, ite_mask, ite_self, State.send_mask]; done) | split | dsimp only))

@[simp] theorem execTitheWriteEnd_mask {K : Nat} (readBack : Bool) (s : State) (h : Covers K 0xf2000000000000000000000000000000000000000000000000000000000000000000000000000000000000000008000000000000000000000000000000000100000000000000000000000001c844) : Kept K s (execTitheWriteEnd readBack s) := kept_mono h (by
  simp only [execTitheWriteEnd]
  repeat' (first | with_reducible rfl | decide | with_reducible refine kept_next.2 ?_ | (simp (disch := first | exact .inl rfl | exact .inr rfl | rfl | decide) only [mask_mk, ite_mask, ite_self, kept_next, State.setFlds_nil_mask, State.setFlds_cons_mask, State.setFld_mask, State.answer_mask, State.flag_mask, State.fresh_mask, State.putFlash_mask, State.railsOff_mask]; done) | split | dsimp only))

@[simp] theorem execTitheEraseEnd_mask {K : Nat} (s : State) (h : Covers K 0x100000000000000000000000000000000000000000000000000000000000000000000000000000000000000000000000000000000000000000000000000000000000000000000000000000000040) : Kept K s (execTitheEraseEnd s) := kept_mono h (by
  simp only [execTitheEraseEnd]
  repeat' (first | with_reducible rfl | decide | with_reducible refine kept_next.2 ?_ | (simp (disch := first | exact .inl rfl | exact .inr rfl | rfl | decide) only [mask_mk, ite_mask, ite_self, kept_next, State.eraseFlash_mask, State.setFld_mask]; done) | split | dsimp only))

@[simp] theorem execTitheHourlyWrite_mask {K : Nat} (s : State) (h : Covers K 0x200000000000000000000000000000000000000000000000000000000000000000000000000000000000000000000000000000000000000000000000000000000000000000000000000000008000) : Kept K s (execTitheHourlyWrite s) := kept_mono h (by
  simp only [execTitheHourlyWrite]
  repeat' (first | with_reducible rfl | decide | with_reducible refine kept_next.2 ?_ | (simp (disch := first | exact .inl rfl | exact .inr rfl | rfl | decide) only [mask_mk, ite_mask, ite_self, kept_next, State.titheStart_mask]; done) | split | dsimp only))

@[simp] theorem execTitheRead_mask {K : Nat} (r : Req) (offset : Nat) (s : State) (h : Covers K 0x80000000000000000000000000000000001000000000000000000000000015804) : Kept K s (execTitheRead r offset s) := kept_mono h (by
  simp only [execTitheRead]
  repeat' (first | with_reducible rfl | decide | with_reducible refine kept_next.2 ?_ | with_reducible refine (State.serve_mask _ _ _ _ _ ?_ (fun t => ?_)).trans ?_ | (simp (disch := first | exact .inl rfl | exact .inr rfl | rfl | decide) only [mask_mk, ite_mask, ite_self, kept_next, ite_st, reply_st, later_st]; done) | split | dsimp only))

@[simp] theorem execTitheFlush_mask {K : Nat} (r : Req) (s : State) (h : Covers K 0x20000000000000000000000000000000000000000000000000000000000000000000000000000000000000000008000000000000000000000000000000000100000000000000000000000001d804) : Kept K s (execTitheFlush r s) := kept_mono h (by
  simp only [execTitheFlush]
  repeat' (first | with_reducible rfl | decide | with_reducible refine kept_next.2 ?_ | with_reducible refine (State.serve_mask _ _ _ _ _ ?_ (fun t => ?_)).trans ?_ | (simp (disch := first | exact .inl rfl | exact .inr rfl | rfl | decide) only [mask_mk, ite_mask, ite_self, kept_next, ite_st, reply_st, later_st, State.titheStart_mask]; done) | split | dsimp only))

end Sys2Proof.Machine
end

