-- ==== Sys2Proof/Laws/KeepsPower.lean ====
section
/-!
SUPPORT. Laws/KeepsPower.lean: what each operation of Machine/Power.lean leaves alone: a mask (Laws/Mask.lean) that covers what the operation may write sees no
difference between the state before and the state after.
-/
set_option linter.unusedSimpArgs false
set_option linter.unusedVariables false

namespace Sys2Proof.Machine

@[simp] theorem State.setPw_mask {K : Nat} (s : State) (d : Nat) (p : PowerDie) (h : Covers K 0x100000000) : (State.setPw s d p).mask K = s.mask K := mask_mono h (by
  simp only [State.setPw]
  repeat' (first | with_reducible rfl | decide | (simp (disch := first | exact .inl rfl | exact .inr rfl | rfl | decide) only [mask_mk, ite_mask, ite_self]; done) | split | dsimp only))

@[simp] theorem State.powerEvent_mask {K : Nat} (s : State) (e : Ev) (d kind : Nat) (h : Covers K 0x4020000000000000000000000004800) : (State.powerEvent s e d kind).mask K = s.mask K := mask_mono h (by
  simp only [State.powerEvent]
  repeat' (first | with_reducible rfl | decide | (simp (disch := first | exact .inl rfl | exact .inr rfl | rfl | decide) only [mask_mk, ite_mask, ite_self, State.raise_mask]; done) | split | dsimp only))

@[simp] theorem State.pmbusFault_mask {K : Nat} (s : State) (d : Nat) (h : Covers K 0x2000000000000000000000000000000000000000000000000000000000000000000000000000000000000000000000000000000000000000000000004020000000000000000000000004800) : (State.pmbusFault s d).mask K = s.mask K := mask_mono h (by
  simp only [State.pmbusFault]
  repeat' (first | with_reducible rfl | decide | (simp (disch := first | exact .inl rfl | exact .inr rfl | rfl | decide) only [mask_mk, ite_mask, ite_self, State.flag_mask, State.powerEvent_mask]; done) | split | dsimp only))

@[simp] theorem State.vout_mask {K : Nat} (s : State) (rail mv : Nat) (h : Covers K 0x10000) : (State.vout s rail mv).mask K = s.mask K := mask_mono h (by
  simp only [State.vout]
  repeat' (first | with_reducible rfl | decide | with_reducible refine (mask_foldl _ (fun t e => ?_) _ _).trans ?_ | (simp (disch := first | exact .inl rfl | exact .inr rfl | rfl | decide) only [mask_mk, ite_mask, ite_self, State.send_mask]; done) | split | dsimp only))

@[simp] theorem State.voltages_mask {K : Nat} (s : State) (h : Covers K 0x100010000) : (State.voltages s).mask K = s.mask K := mask_mono h (by
  simp only [State.voltages]
  repeat' (first | with_reducible rfl | decide | with_reducible refine (mask_foldl _ (fun t e => ?_) _ _).trans ?_ | (simp (disch := first | exact .inl rfl | exact .inr rfl | rfl | decide) only [mask_mk, ite_mask, ite_self, State.vout_mask]; done) | split | dsimp only))

@[simp] theorem State.clockTo_mask {K : Nat} (s : State) (d x v : Nat) (h : Covers K 0x80000000100010200) : (State.clockTo s d x v).mask K = s.mask K := mask_mono h (by
  simp only [State.clockTo]
  repeat' (first | with_reducible rfl | decide | (simp (disch := first | exact .inl rfl | exact .inr rfl | rfl | decide) only [mask_mk, ite_mask, ite_self, State.retarget_mask, State.setPw_mask, State.voltages_mask]; done) | split | dsimp only))

@[simp] theorem execVoltageConfirmed_mask {K : Nat} (d : Nat) (inTime : Bool) (s : State) (h : Covers K 0x2000000000000000000000000000000000000000000000000000000000000000000000000000000000000000000000000000000000000000000000000000000000000080000000100000200) : Kept K s (execVoltageConfirmed d inTime s) := kept_mono h (by
  simp only [execVoltageConfirmed]
  repeat' (first | with_reducible rfl | decide | with_reducible refine kept_next.2 ?_ | with_reducible refine (mask_foldl _ (fun t e => ?_) _ _).trans ?_ | (simp (disch := first | exact .inl rfl | exact .inr rfl | rfl | decide) only [mask_mk, ite_mask, ite_self, kept_next, State.flag_mask, State.retarget_mask, State.setPw_mask]; done) | split | dsimp only))

@[simp] theorem State.apClock_mask {K : Nat} (s : State) (d : Nat) (changed : Bool) (h : Covers K 0x80000000100010200) : (State.apClock s d changed).mask K = s.mask K := mask_mono h (by
  simp only [State.apClock]
  repeat' (first | with_reducible rfl | decide | (simp (disch := first | exact .inl rfl | exact .inr rfl | rfl | decide) only [mask_mk, ite_mask, ite_self, State.clockTo_mask, State.setPw_mask]; done) | split | dsimp only))

@[simp] theorem State.setLevel_mask {K : Nat} (s : State) (d : Nat) (h : Covers K 0x100000000000000000000000000000000000000000000000000000000000000000000000000000000000000000000000000000000000000000000004020000000000080000000100014a00) : (State.setLevel s d).mask K = s.mask K := mask_mono h (by
  simp only [State.setLevel]
  repeat' (first | with_reducible rfl | decide | (simp (disch := first | exact .inl rfl | exact .inr rfl | rfl | decide) only [mask_mk, ite_mask, ite_self, State.apClock_mask, State.powerEvent_mask, State.setFld_mask, State.setPw_mask]; done) | split | dsimp only))

@[simp] theorem State.arithStep_mask {K : Nat} (s : State) (d n : Nat) (h : Covers K 0x200000000000000000000000000000000000000000000000000000000000000000000000000000000000000000000000000000000000000000000000000000000000080000000100010200) : (State.arithStep s d n).mask K = s.mask K := mask_mono h (by
  simp only [State.arithStep]
  repeat' (first | with_reducible rfl | decide | (simp (disch := first | exact .inl rfl | exact .inr rfl | rfl | decide) only [mask_mk, ite_mask, ite_self, State.clockTo_mask, State.setFld_mask]; done) | split | dsimp only))

@[simp] theorem State.classSLost_mask {K : Nat} (s : State) (d : Nat) (h : Covers K 0x203e182000000000000000000000000000000000000000000000000000000000000000000000000000000000000000000000000000000402000000000000000000000010c800) : (State.classSLost s d).mask K = s.mask K := mask_mono h (by
  simp only [State.classSLost]
  repeat' (first | with_reducible rfl | decide | (simp (disch := first | exact .inl rfl | exact .inr rfl | rfl | decide) only [mask_mk, ite_mask, ite_self, State.source_mask]; done) | split | dsimp only))

@[simp] theorem State.beyond_mask {K : Nat} (s : State) (d n : Nat) (h : Covers K 0x2000000000203e182000000000000000000000000000000000000000000000000000000000000000000000000000000000000000000000000000000402000000000008000000010011ca00) : (State.beyond s d n).mask K = s.mask K := mask_mono h (by
  simp only [State.beyond]
  repeat' (first | with_reducible rfl | decide | (simp (disch := first | exact .inl rfl | exact .inr rfl | rfl | decide) only [mask_mk, ite_mask, ite_self, State.arithStep_mask, State.classSLost_mask]; done) | split | dsimp only))

@[simp] theorem execPmcIntervalEnd_mask {K : Nat} (d p100 : Nat) (s : State) (h : Covers K 0xc13000000000203e182000000000000000000000000000000000000000000000000000000000000000000000000000000000000000000000000000000402000000000008000000010011ca00) : Kept K s (execPmcIntervalEnd d p100 s) := kept_mono h (by
  simp only [execPmcIntervalEnd]
  repeat' (first | with_reducible rfl | decide | with_reducible refine kept_next.2 ?_ | with_reducible refine (mask_foldl _ (fun t e => ?_) _ _).trans ?_ | (simp (disch := first | exact .inl rfl | exact .inr rfl | rfl | decide) only [mask_mk, ite_mask, ite_self, kept_next, State.setFlds_nil_mask, State.setFlds_cons_mask, State.setFld_mask, State.arithStep_mask, State.beyond_mask, State.powerEvent_mask, State.setLevel_mask, State.setPw_mask, State.voltages_mask]; done) | split | dsimp only))

@[simp] theorem execPackagePowerCheck_mask {K : Nat} (s : State) (h : Covers K 0x100000000) : Kept K s (execPackagePowerCheck s) := kept_mono h (by
  simp only [execPackagePowerCheck]
  repeat' (first | with_reducible rfl | decide | with_reducible refine kept_next.2 ?_ | with_reducible refine (mask_foldl _ (fun t e => ?_) _ _).trans ?_ | (simp (disch := first | exact .inl rfl | exact .inr rfl | rfl | decide) only [mask_mk, ite_mask, ite_self, kept_next, State.setPw_mask]; done) | split | dsimp only))

@[simp] theorem execPowerEstimateScale_mask {K : Nat} (readPout : Nat) (s : State) (h : Covers K 0x100000000) : Kept K s (execPowerEstimateScale readPout s) := kept_mono h (by
  simp only [execPowerEstimateScale]
  repeat' (first | with_reducible rfl | decide | with_reducible refine kept_next.2 ?_ | with_reducible refine (mask_foldl _ (fun t e => ?_) _ _).trans ?_ | (simp (disch := first | exact .inl rfl | exact .inr rfl | rfl | decide) only [mask_mk, ite_mask, ite_self, kept_next]; done) | split | dsimp only))

@[simp] theorem State.trip_mask {K : Nat} (s : State) (d : Nat) (h : Covers K 0x2400004000000000203e182000000000000000000000000000000000000000000000000000000000000000000000000000000000000000000000000000000402000000000000000000010011c800) : (State.trip s d).mask K = s.mask K := mask_mono h (by
  simp only [State.trip]
  repeat' (first | with_reducible rfl | decide | (simp (disch := first | exact .inl rfl | exact .inr rfl | rfl | decide) only [mask_mk, ite_mask, ite_self, State.flag_mask, State.powerEvent_mask, State.railsOff_mask, State.setPw_mask, State.source_mask, State.titheAdd_mask, State.titheStart_mask]; done) | split | dsimp only))

@[simp] theorem execThermalSample_mask {K : Nat} (d : Nat) (readings : List Int) (s : State) (h : Covers K 0x2417004000000000203e182000000000000000000000000000000000000000000000000000000000000000000000000000000000000000000000000000000402000000000000000000010011c800) : Kept K s (execThermalSample d readings s) := kept_mono h (by
  simp only [execThermalSample]
  repeat' (first | with_reducible rfl | decide | with_reducible refine kept_next.2 ?_ | with_reducible refine (mask_foldl _ (fun t e => ?_) _ _).trans ?_ | (simp (disch := first | exact .inl rfl | exact .inr rfl | rfl | decide) only [mask_mk, ite_mask, ite_self, kept_next, State.setFlds_nil_mask, State.setFlds_cons_mask, State.setFld_mask, State.setPw_mask, State.trip_mask]; done) | split | dsimp only | simp (disch := first | exact .inl rfl | exact .inr rfl | rfl | decide) only [mask_mk, ite_mask, ite_self, kept_next, State.setFlds_nil_mask, State.setFlds_cons_mask, State.setFld_mask, State.setPw_mask, State.trip_mask]))

@[simp] theorem execRailMonitor_mask {K : Nat} (d : Nat) (readings : List PmbusReading) (s : State) (h : Covers K 0x2000000000000000000000000000000000000000000000000000000000000000000000000000000000000000000000000000000000000000000000004020000000000000000000100004800) : Kept K s (execRailMonitor d readings s) := kept_mono h (by
  simp only [execRailMonitor]
  repeat' (first | with_reducible rfl | decide | with_reducible refine kept_next.2 ?_ | with_reducible refine (mask_foldl _ (fun t e => ?_) _ _).trans ?_ | (simp (disch := first | exact .inl rfl | exact .inr rfl | rfl | decide) only [mask_mk, ite_mask, ite_self, kept_next, State.pmbusFault_mask, State.setPw_mask]; done) | split | dsimp only))

@[simp] theorem execPmbusAlert_mask {K : Nat} (d : Nat) (fault : Bool) (s : State) (h : Covers K 0x2000000000000000000000000000000000000000000000000000000000000000000000000000000000000000000000000000000000000000000000004020000000000000000000000004800) : Kept K s (execPmbusAlert d fault s) := kept_mono h (by
  simp only [execPmbusAlert]
  repeat' (first | with_reducible rfl | decide | with_reducible refine kept_next.2 ?_ | (simp (disch := first | exact .inl rfl | exact .inr rfl | rfl | decide) only [mask_mk, ite_mask, ite_self, kept_next, State.pmbusFault_mask]; done) | split | dsimp only))

@[simp] theorem execEccCountCollect_mask {K : Nat} (d : Nat) (s : State) (h : Covers K 0x7c0000003e00000000000000000000000000000008000) : Kept K s (execEccCountCollect d s) := kept_mono h (by
  simp only [execEccCountCollect]
  repeat' (first | with_reducible rfl | decide | with_reducible refine kept_next.2 ?_ | (simp (disch := first | exact .inl rfl | exact .inr rfl | rfl | decide) only [mask_mk, ite_mask, ite_self, kept_next, State.collectEcc_mask, State.titheAdd_mask]; done) | split | dsimp only))

@[simp] theorem execPowerFailAssert_mask {K : Nat} (s : State) (h : Covers K 0x2400009000000000203e18200000000000000000000000000000000000000000000000000000000000000000000000000000000000000007c0020003e0000402000000000008000000010011ca00) : Kept K s (execPowerFailAssert s) := kept_mono h (by
  simp only [execPowerFailAssert]
  repeat' (first | with_reducible rfl | decide | with_reducible refine kept_next.2 ?_ | with_reducible refine (mask_foldl _ (fun t e => ?_) _ _).trans ?_ | (simp (disch := first | exact .inl rfl | exact .inr rfl | rfl | decide) only [mask_mk, ite_mask, ite_self, kept_next, State.collectEcc_mask, State.flag_mask, State.powerEvent_mask, State.setLevel_mask, State.setPw_mask, State.source_mask, State.titheAdd_mask, State.titheStart_mask]; done) | split | dsimp only | simp (disch := first | exact .inl rfl | exact .inr rfl | rfl | decide) only [mask_mk, ite_mask, ite_self, kept_next, State.collectEcc_mask, State.flag_mask, State.powerEvent_mask, State.setLevel_mask, State.setPw_mask, State.source_mask, State.titheAdd_mask, State.titheStart_mask]))

@[simp] theorem execPowerFailRestore_mask {K : Nat} (s : State) (h : Covers K 0x900000000000000000000000000000000000000000000000000000000000000000000000000000000000000000000000000000000000020000000004020000000000080000000100014a00) : Kept K s (execPowerFailRestore s) := kept_mono h (by
  simp only [execPowerFailRestore]
  repeat' (first | with_reducible rfl | decide | with_reducible refine kept_next.2 ?_ | with_reducible refine (mask_foldl _ (fun t e => ?_) _ _).trans ?_ | (simp (disch := first | exact .inl rfl | exact .inr rfl | rfl | decide) only [mask_mk, ite_mask, ite_self, kept_next, State.powerEvent_mask, State.setFld_mask, State.setLevel_mask, State.setPw_mask]; done) | split | dsimp only | simp (disch := first | exact .inl rfl | exact .inr rfl | rfl | decide) only [mask_mk, ite_mask, ite_self, kept_next, State.powerEvent_mask, State.setFld_mask, State.setLevel_mask, State.setPw_mask]))

@[simp] theorem wrPwrLimit_mask {K : Nat} (m : Master) (d data : Nat) (s : State) (h : Covers K 0xc000000000000000000000000000000000000000000000000000000000000000000000000000000000000000000000000000000000000000000000004027fc0000000000000000000004800) : (wrPwrLimit m d data s).mask K = s.mask K := mask_mono h (by
  simp only [wrPwrLimit]
  repeat' (first | with_reducible rfl | decide | with_reducible refine (State.guarded_mask _ _ _ _ _ _ ?_ (fun t => ?_)).trans ?_ | (simp (disch := first | exact .inl rfl | exact .inr rfl | rfl | decide) only [mask_mk, ite_mask, ite_self, State.flag_mask, State.setFld_mask]; done) | split | dsimp only))

@[simp] theorem wrPwrPkgLimit_mask {K : Nat} (m : Master) (d data : Nat) (s : State) (h : Covers K 0x14000000000000000000000000000000000000000000000000000000000000000000000000000000000000000000000000000000000000000000000004027fc0000000000000000000004800) : (wrPwrPkgLimit m d data s).mask K = s.mask K := mask_mono h (by
  simp only [wrPwrPkgLimit]
  repeat' (first | with_reducible rfl | decide | with_reducible refine (State.guarded_mask _ _ _ _ _ _ ?_ (fun t => ?_)).trans ?_ | (simp (disch := first | exact .inl rfl | exact .inr rfl | rfl | decide) only [mask_mk, ite_mask, ite_self, State.flag_mask, State.setFld_mask]; done) | split | dsimp only))

@[simp] theorem wrPwrFloor_mask {K : Nat} (m : Master) (d data : Nat) (s : State) (h : Covers K 0x24000000000000000000000000000000000000000000000000000000000000000000000000000000000000000000000000000000000000000000000004027fc0000000000000000000004800) : (wrPwrFloor m d data s).mask K = s.mask K := mask_mono h (by
  simp only [wrPwrFloor]
  repeat' (first | with_reducible rfl | decide | with_reducible refine (State.guarded_mask _ _ _ _ _ _ ?_ (fun t => ?_)).trans ?_ | (simp (disch := first | exact .inl rfl | exact .inr rfl | rfl | decide) only [mask_mk, ite_mask, ite_self, State.flag_mask, State.setFld_mask]; done) | split | dsimp only))

@[simp] theorem wrThermCfg_mask {K : Nat} (m : Master) (d data : Nat) (s : State) (h : Covers K 0x804000000000000000000000000000000000000000000000000000000000000000000000000000000000000000000000000000000000000000000000004027fc0000000000000000000004800) : (wrThermCfg m d data s).mask K = s.mask K := mask_mono h (by
  simp only [wrThermCfg]
  repeat' (first | with_reducible rfl | decide | with_reducible refine (State.guarded_mask _ _ _ _ _ _ ?_ (fun t => ?_)).trans ?_ | (simp (disch := first | exact .inl rfl | exact .inr rfl | rfl | decide) only [mask_mk, ite_mask, ite_self, State.flag_mask, State.setFld_mask]; done) | split | dsimp only))

@[simp] theorem State.putRail_mask {K : Nat} (s : State) (d n v : Nat) (h : Covers K 0x1e000000000000000000000000000000000000000000000000000000000000000000000000000000000000000000000000000000000000000000000000000000000000000000000000000000000) : (State.putRail s d n v).mask K = s.mask K := mask_mono h (by
  simp only [State.putRail]
  repeat' (first | with_reducible rfl | decide | (simp (disch := first | exact .inl rfl | exact .inr rfl | rfl | decide) only [mask_mk, ite_mask, ite_self, State.setFlds_nil_mask, State.setFlds_cons_mask, State.setFld_mask]; done) | split | dsimp only))

@[simp] theorem wrPwrRail_mask {K : Nat} (m : Master) (d n data : Nat) (s : State) (h : Covers K 0x1e004000000000000000000000000000000000000000000000000000000000000000000000000000000000000000000000000000000000000000000000004027fc0000000000000000000004800) : (wrPwrRail m d n data s).mask K = s.mask K := mask_mono h (by
  simp only [wrPwrRail]
  repeat' (first | with_reducible rfl | decide | with_reducible refine (State.guarded_mask _ _ _ _ _ _ ?_ (fun t => ?_)).trans ?_ | (simp (disch := first | exact .inl rfl | exact .inr rfl | rfl | decide) only [mask_mk, ite_mask, ite_self, State.flag_mask, State.putRail_mask, State.setFld_mask]; done) | split | dsimp only))

@[simp] theorem execPwrQuery_mask {K : Nat} (r : Req) (d : Nat) (s : State) (h : Covers K 0x80000000000000000000000000000000001000000000000000000000000015804) : Kept K s (execPwrQuery r d s) := kept_mono h (by
  simp only [execPwrQuery]
  repeat' (first | with_reducible rfl | decide | with_reducible refine kept_next.2 ?_ | with_reducible refine (State.serve_mask _ _ _ _ _ ?_ (fun t => ?_)).trans ?_ | (simp (disch := first | exact .inl rfl | exact .inr rfl | rfl | decide) only [mask_mk, ite_mask, ite_self, kept_next, ite_st, reply_st, later_st]; done) | split | dsimp only))

@[simp] theorem execPwrSet_mask {K : Nat} (r : Req) (c : PowerSet) (s : State) (h : Covers K 0x838000000000000000000000000000000000000000000000000000000000000000000000000000000000000080000000000000000000000000000000001000000000000000000000000015804) : Kept K s (execPwrSet r c s) := kept_mono h (by
  simp only [execPwrSet]
  repeat' (first | with_reducible rfl | decide | with_reducible refine kept_next.2 ?_ | with_reducible refine (State.serve_mask _ _ _ _ _ ?_ (fun t => ?_)).trans ?_ | (simp (disch := first | exact .inl rfl | exact .inr rfl | rfl | decide) only [mask_mk, ite_mask, ite_self, kept_next, ite_st, reply_st, later_st, State.setFld_mask]; done) | split | dsimp only))

@[simp] theorem execRailSet_mask {K : Nat} (r : Req) (d entry : Nat) (image : Word) (s : State) (h : Covers K 0x1e000000000000000000000000000000000000000000000000000000000000000000000000000000000000000080000000000000000000000000000000001000000000000000000000000015804) : Kept K s (execRailSet r d entry image s) := kept_mono h (by
  simp only [execRailSet]
  repeat' (first | with_reducible rfl | decide | with_reducible refine kept_next.2 ?_ | with_reducible refine (State.serve_mask _ _ _ _ _ ?_ (fun t => ?_)).trans ?_ | (simp (disch := first | exact .inl rfl | exact .inr rfl | rfl | decide) only [mask_mk, ite_mask, ite_self, kept_next, ite_st, reply_st, later_st, State.putRail_mask]; done) | split | dsimp only))

end Sys2Proof.Machine
end

