-- ==== Sys2Proof/Laws/KeepsSecurity.lean ====
section
/-!
SUPPORT. Laws/KeepsSecurity.lean: what each operation of Machine/Security.lean leaves alone: a mask (Laws/Mask.lean) that covers what the operation may write sees no
difference between the state before and the state after.
-/
set_option linter.unusedSimpArgs false
set_option linter.unusedVariables false

namespace Sys2Proof.Machine

@[simp] theorem State.blow_mask {K : Nat} (d : Nat) (s : State) (f : FuseBit) (h : Covers K 0x200000) : (State.blow d s f).mask K = s.mask K := mask_mono h (by
  simp only [State.blow]
  repeat' (first | with_reducible rfl | decide | (simp (disch := first | exact .inl rfl | exact .inr rfl | rfl | decide) only [mask_mk, ite_mask, ite_self]; done) | split | dsimp only))

theorem State.programWord_mask {K : Nat} {s u : State} {d w value mask : Nat} (hq : s.programWord d w value mask = some u) (h : Covers K 0x200000) :
    u.mask K = s.mask K := by
  simp only [State.programWord] at hq
  split at hq
  · cases hq
  split at hq
  · cases hq
  cases hq
  exact mask_foldl _ (fun t e => State.blow_mask _ _ _ (land_trans h rfl)) _ _

@[simp] theorem State.programWord_getD_mask {K : Nat} (s : State) (d w value mask : Nat) (h : Covers K 0x200000) :
    ((s.programWord d w value mask).getD s).mask K = s.mask K := by
  cases hq : s.programWord d w value mask with
  | none => rfl
  | some u => exact State.programWord_mask hq h

@[simp] theorem execAttest_mask {K : Nat} (r : Req) (nonce : List Byte) (mask : Nat) (s : State) (h : Covers K 0x80000000000000000000000000000000001000000000000000000000000015804) : Kept K s (execAttest r nonce mask s) := kept_mono h (by
  simp only [execAttest]
  repeat' (first | with_reducible rfl | decide | with_reducible refine kept_next.2 ?_ | with_reducible refine (State.serve_mask _ _ _ _ _ ?_ (fun t => ?_)).trans ?_ | (simp (disch := first | exact .inl rfl | exact .inr rfl | rfl | decide) only [mask_mk, ite_mask, ite_self, kept_next, ite_st, reply_st, later_st]; done) | split | dsimp only))

@[simp] theorem execCertRead_mask {K : Nat} (r : Req) (chain offset : Nat) (s : State) (h : Covers K 0x80000000000000000000000000000000001000000000000000000000000015804) : Kept K s (execCertRead r chain offset s) := kept_mono h (by
  simp only [execCertRead]
  repeat' (first | with_reducible rfl | decide | with_reducible refine kept_next.2 ?_ | with_reducible refine (State.serve_mask _ _ _ _ _ ?_ (fun t => ?_)).trans ?_ | (simp (disch := first | exact .inl rfl | exact .inr rfl | rfl | decide) only [mask_mk, ite_mask, ite_self, kept_next, ite_st, reply_st, later_st]; done) | split | dsimp only))

@[simp] theorem execMrExtend_mask {K : Nat} (r : Req) (i : Nat) (digest : List Byte) (s : State) (h : Covers K 0x80000000000000000000000000000000001000000000000000000000000215804) : Kept K s (execMrExtend r i digest s) := kept_mono h (by
  simp only [execMrExtend]
  repeat' (first | with_reducible rfl | decide | with_reducible refine kept_next.2 ?_ | with_reducible refine (State.serve_mask _ _ _ _ _ ?_ (fun t => ?_)).trans ?_ | (simp (disch := first | exact .inl rfl | exact .inr rfl | rfl | decide) only [mask_mk, ite_mask, ite_self, kept_next, ite_st, reply_st, later_st, State.extend_mask]; done) | split | dsimp only))

@[simp] theorem execGuardGrant_mask {K : Nat} (r : Req) (dom : Dom) (s : State) (h : Covers K 0x80000000000000000000000000000000001000000000000000000000000015804) : Kept K s (execGuardGrant r dom s) := kept_mono h (by
  simp only [execGuardGrant]
  repeat' (first | with_reducible rfl | decide | with_reducible refine kept_next.2 ?_ | with_reducible refine (State.serve_mask _ _ _ _ _ ?_ (fun t => ?_)).trans ?_ | (simp (disch := first | exact .inl rfl | exact .inr rfl | rfl | decide) only [mask_mk, ite_mask, ite_self, kept_next, ite_st, reply_st, later_st]; done) | split | dsimp only))

@[simp] theorem execGuardRevoke_mask {K : Nat} (r : Req) (dom : Dom) (s : State) (h : Covers K 0x80000000000000000000000000000000001000000000000000000000000015804) : Kept K s (execGuardRevoke r dom s) := kept_mono h (by
  simp only [execGuardRevoke]
  repeat' (first | with_reducible rfl | decide | with_reducible refine kept_next.2 ?_ | with_reducible refine (State.serve_mask _ _ _ _ _ ?_ (fun t => ?_)).trans ?_ | (simp (disch := first | exact .inl rfl | exact .inr rfl | rfl | decide) only [mask_mk, ite_mask, ite_self, kept_next, ite_st, reply_st, later_st]; done) | split | dsimp only))

@[simp] theorem execFuseProgram_mask {K : Nat} (r : Req) (w : Nat) (value mask : Word) (s : State) (h : Covers K 0x80000000000000000000000000000000001000000000000000000000000215804) : Kept K s (execFuseProgram r w value mask s) := kept_mono h (by
  simp only [execFuseProgram]
  refine kept_next.2 (State.serve_mask _ _ _ _ _ (by decide) (fun t => ?_))
  refine st_mask_ite (fun _ => rfl) (fun _ => ?_)
  split
  · rename_i hq
    exact State.programWord_mask hq (by decide)
  · rfl)

@[simp] theorem execSvnAdvance_mask {K : Nat} (r : Req) (target : Nat) (s : State) (h : Covers K 0x80000000000000000000000000000000001000000000000000000000000215804) : Kept K s (execSvnAdvance r target s) := kept_mono h (by
  simp only [execSvnAdvance]
  repeat' (first | with_reducible rfl | decide | with_reducible refine kept_next.2 ?_ | with_reducible refine (State.serve_mask _ _ _ _ _ ?_ (fun t => ?_)).trans ?_ | (simp (disch := first | exact .inl rfl | exact .inr rfl | rfl | decide) only [mask_mk, ite_mask, ite_self, kept_next, ite_st, reply_st, later_st]; done) | split | dsimp only))

@[simp] theorem execLcAdvance_mask {K : Nat} (r : Req) (target : Nat) (s : State) (h : Covers K 0x80000000000000000000000000000000001000000000000000000000000215804) : Kept K s (execLcAdvance r target s) := kept_mono h (by
  simp only [execLcAdvance]
  repeat' (first | with_reducible rfl | decide | with_reducible refine kept_next.2 ?_ | with_reducible refine (State.serve_mask _ _ _ _ _ ?_ (fun t => ?_)).trans ?_ | (simp (disch := first | exact .inl rfl | exact .inr rfl | rfl | decide) only [mask_mk, ite_mask, ite_self, kept_next, ite_st, reply_st, later_st]; done) | split | dsimp only))

@[simp] theorem execKeyRevoke_mask {K : Nat} (r : Req) (slot : Nat) (s : State) (h : Covers K 0x80000000000000000000000000000000001000000000000000000000000215804) : Kept K s (execKeyRevoke r slot s) := kept_mono h (by
  simp only [execKeyRevoke]
  repeat' (first | with_reducible rfl | decide | with_reducible refine kept_next.2 ?_ | with_reducible refine (State.serve_mask _ _ _ _ _ ?_ (fun t => ?_)).trans ?_ | (simp (disch := first | exact .inl rfl | exact .inr rfl | rfl | decide) only [mask_mk, ite_mask, ite_self, kept_next, ite_st, reply_st, later_st]; done) | split | dsimp only))

@[simp] theorem execBootChunk_mask {K : Nat} (r : Req) (offset total : Nat) (data : List Byte) (s : State) (h : Covers K 0x80000000000000000000000000000000001000000000000000000000000015c04) : Kept K s (execBootChunk r offset total data s) := kept_mono h (by
  simp only [execBootChunk]
  repeat' (first | with_reducible rfl | decide | with_reducible refine kept_next.2 ?_ | with_reducible refine (State.serve_mask _ _ _ _ _ ?_ (fun t => ?_)).trans ?_ | (simp (disch := first | exact .inl rfl | exact .inr rfl | rfl | decide) only [mask_mk, ite_mask, ite_self, kept_next, ite_st, reply_st, later_st]; done) | split | dsimp only))

@[simp] theorem wrFuseCtrl_mask {K : Nat} (m : Master) (d data : Nat) (s : State) (h : Covers K 0x60000000000000000000000000000000000000000000000000000000000000000000000000000000000000000000000000000000000000000000004027fc0000000000000000000204800) : (wrFuseCtrl m d data s).mask K = s.mask K := mask_mono h (by
  simp only [wrFuseCtrl]
  repeat' (first | with_reducible rfl | decide | with_reducible refine (State.guarded_mask _ _ _ _ _ _ ?_ (fun t => ?_)).trans ?_ | (simp (disch := first | exact .inl rfl | exact .inr rfl | rfl | decide) only [mask_mk, ite_mask, ite_self, State.flag_mask]; done) | split | dsimp only))

@[simp] theorem State.fusesDone_mask {K : Nat} (s : State) (h : Covers K 0x40000000000000000000000000000000000000000000000000000000000000000000000000000000000000000000000000000000000000000000000000000000000000000000000200000) : (State.fusesDone s).mask K = s.mask K := mask_mono h (by
  simp only [State.fusesDone]
  refine (mask_foldl _ (fun t e => ?_) _ _).trans ?_
  · exact (State.setFld_mask _ _ _ _ _ (by decide)).trans (State.programWord_getD_mask _ _ _ _ _ (by decide))
  · simp (disch := first | exact .inl rfl | exact .inr rfl | rfl | decide) only [mask_mk])

@[simp] theorem State.fusesStop_mask {K : Nat} (s : State) (h : Covers K 0x200004) : (State.fusesStop s).mask K = s.mask K := mask_mono h (by
  simp only [State.fusesStop]
  refine (mask_foldl _ (fun t e => ?_) _ _).trans ?_
  · exact (State.programWord_getD_mask _ _ _ _ _ (by decide)).trans (State.fresh_mask _ (by decide))
  · simp (disch := first | exact .inl rfl | exact .inr rfl | rfl | decide) only [mask_mk])

@[simp] theorem execSecFuseCtrlGo_mask {K : Nat} (m : Master) (d : Nat) (data : Word) (s : State) (h : Covers K 0x60000000000000000000000000000000000000000000000000000000000000000000000000000000000000000000000000000000000000000000004027fc0000000000000000000204888) : Kept K s (execSecFuseCtrlGo m d data s) := kept_mono h (by
  simp only [execSecFuseCtrlGo]
  repeat' (first | with_reducible rfl | decide | with_reducible refine kept_next.2 ?_ | with_reducible refine (State.regWrite_mask _ _ _ _ _ _ _ ?_ (fun t => ?_)).trans ?_ | (simp (disch := first | exact .inl rfl | exact .inr rfl | rfl | decide) only [mask_mk, ite_mask, ite_self, kept_next, wrFuseCtrl_mask]; done) | split | dsimp only))

@[simp] theorem execAuthdataWrite_mask {K : Nat} (a : DmAccess) (s : State) (h : Covers K 0x30000000000000000000000000000000000000000000000000000000000000000000000000000000000000000000000000000000000000000004020000000000000000000000204804) : Kept K s (execAuthdataWrite a s) := kept_mono h (by
  simp only [execAuthdataWrite]
  repeat' (first | with_reducible rfl | decide | with_reducible refine kept_next.2 ?_ | (simp (disch := first | exact .inl rfl | exact .inr rfl | rfl | decide) only [mask_mk, ite_mask, ite_self, kept_next, State.fresh_mask, State.judgeDebug_mask, State.setDbgAuth_mask]; done) | split | dsimp only))

end Sys2Proof.Machine
end

