-- ==== Sys2Proof/Laws/KeepsBoot.lean ====
section
/-!
SUPPORT. Laws/KeepsBoot.lean: what each operation of Machine/Boot.lean leaves alone: a mask (Laws/Mask.lean) that covers what the operation may write sees no
difference between the state before and the state after.
-/
set_option linter.unusedSimpArgs false
set_option linter.unusedVariables false

namespace Sys2Proof.Machine

@[simp] theorem execRstNAssert_mask {K : Nat} (s : State) (h : Covers K 0x400) : Kept K s (execRstNAssert s) := kept_mono h (by
  simp only [execRstNAssert]
  repeat' (first | with_reducible rfl | decide | with_reducible refine kept_next.2 ?_ | (simp (disch := first | exact .inl rfl | exact .inr rfl | rfl | decide) only [mask_mk, ite_mask, ite_self, kept_next, State.requestReset_mask]; done) | split | dsimp only))

@[simp] theorem execRstNRelease_mask {K : Nat} (s : State) (h : Covers K 0x60000000000000600) : Kept K s (execRstNRelease s) := kept_mono h (by
  simp only [execRstNRelease]
  repeat' (first | with_reducible rfl | decide | with_reducible refine kept_next.2 ?_ | (simp (disch := first | exact .inl rfl | exact .inr rfl | rfl | decide) only [mask_mk, ite_mask, ite_self, kept_next, State.allLimp_mask, State.released_mask]; done) | split | dsimp only))

@[simp] theorem wrWdtKick_mask {K : Nat} (d data : Nat) (s : State) (h : Covers K 0x2000000000000000000) : (wrWdtKick d data s).mask K = s.mask K := mask_mono h (by
  simp only [wrWdtKick]
  repeat' (first | with_reducible rfl | decide | (simp (disch := first | exact .inl rfl | exact .inr rfl | rfl | decide) only [mask_mk, ite_mask, ite_self, State.flag_mask]; done) | split | dsimp only))

@[simp] theorem execRstWdtKickWrite_mask {K : Nat} (m : Master) (d : Nat) (data : Word) (s : State) (h : Covers K 0x7fc0000002000000000000000088) : Kept K s (execRstWdtKickWrite m d data s) := kept_mono h (by
  simp only [execRstWdtKickWrite]
  repeat' (first | with_reducible rfl | decide | with_reducible refine kept_next.2 ?_ | with_reducible refine (State.regWrite_mask _ _ _ _ _ _ _ ?_ (fun t => ?_)).trans ?_ | (simp (disch := first | exact .inl rfl | exact .inr rfl | rfl | decide) only [mask_mk, ite_mask, ite_self, kept_next, wrWdtKick_mask]; done) | split | dsimp only))

@[simp] theorem wrSwreq_mask {K : Nat} (m : Master) (d data : Nat) (s : State) (h : Covers K 0x4027fc0000006000000000000004c00) : (wrSwreq m d data s).mask K = s.mask K := mask_mono h (by
  simp only [wrSwreq]
  repeat' (first | with_reducible rfl | decide | with_reducible refine (State.guarded_mask _ _ _ _ _ _ ?_ (fun t => ?_)).trans ?_ | (simp (disch := first | exact .inl rfl | exact .inr rfl | rfl | decide) only [mask_mk, ite_mask, ite_self, State.flag_mask, State.requestReset_mask]; done) | split | dsimp only))

@[simp] theorem execRstSwreqWrite_mask {K : Nat} (m : Master) (d : Nat) (data : Word) (s : State) (h : Covers K 0x4027fc0000006000000000000004c88) : Kept K s (execRstSwreqWrite m d data s) := kept_mono h (by
  simp only [execRstSwreqWrite]
  repeat' (first | with_reducible rfl | decide | with_reducible refine kept_next.2 ?_ | with_reducible refine (State.regWrite_mask _ _ _ _ _ _ _ ?_ (fun t => ?_)).trans ?_ | (simp (disch := first | exact .inl rfl | exact .inr rfl | rfl | decide) only [mask_mk, ite_mask, ite_self, kept_next, wrSwreq_mask]; done) | split | dsimp only))

@[simp] theorem wrWdt_mask {K : Nat} (m : Master) (d data : Nat) (s : State) (h : Covers K 0x4027fcc000004000000000000004800) : (wrWdt m d data s).mask K = s.mask K := mask_mono h (by
  simp only [wrWdt]
  repeat' (first | with_reducible rfl | decide | with_reducible refine (State.guarded_mask _ _ _ _ _ _ ?_ (fun t => ?_)).trans ?_ | (simp (disch := first | exact .inl rfl | exact .inr rfl | rfl | decide) only [mask_mk, ite_mask, ite_self, State.flag_mask, State.setFld_mask]; done) | split | dsimp only))

@[simp] theorem execDebugResetRequest_mask {K : Nat} (q : DebugReset) (s : State) (h : Covers K 0x400) : Kept K s (execDebugResetRequest q s) := kept_mono h (by
  simp only [execDebugResetRequest]
  repeat' (first | with_reducible rfl | decide | with_reducible refine kept_next.2 ?_ | (simp (disch := first | exact .inl rfl | exact .inr rfl | rfl | decide) only [mask_mk, ite_mask, ite_self, kept_next, State.requestReset_mask]; done) | split | dsimp only))

@[simp] theorem execHoldoffEnd_mask {K : Nat} (t : ResetTarget) (s : State) (h : Covers K 0x400) : Kept K s (execHoldoffEnd t s) := kept_mono h (by
  simp only [execHoldoffEnd]
  repeat' (first | with_reducible rfl | decide | with_reducible refine kept_next.2 ?_ | (simp (disch := first | exact .inl rfl | exact .inr rfl | rfl | decide) only [mask_mk, ite_mask, ite_self, kept_next, State.freeHeld_mask]; done) | split | dsimp only))

@[simp] theorem State.applyPins_mask {K : Nat} (s : State) (d : Nat) (h : Covers K 0x100) : (State.applyPins s d).mask K = s.mask K := mask_mono h (by
  simp only [State.applyPins]
  repeat' (first | with_reducible rfl | decide | (simp (disch := first | exact .inl rfl | exact .inr rfl | rfl | decide) only [mask_mk, ite_mask, ite_self]; done) | split | dsimp only))

@[simp] theorem State.sampleBootsel_mask {K : Nat} (s : State) (cs : List Nat) (h : Covers K 0x78000000000000000000000) : (State.sampleBootsel s cs).mask K = s.mask K := mask_mono h (by
  simp only [State.sampleBootsel]
  repeat' (first | with_reducible rfl | decide | (simp (disch := first | exact .inl rfl | exact .inr rfl | rfl | decide) only [mask_mk, ite_mask, ite_self, State.flag_mask, State.setFld_mask]; done) | split | dsimp only))

@[simp] theorem execTrimLoadEnd_mask {K : Nat} (d : Nat) (parityFail : Bool) (cs : List Nat) (s : State) (h : Covers K 0x20000000000000000000000000000000000000000000000000000000000000000000000000000000000000000000000000000000000000000000000000078200000000000000200500) : Kept K s (execTrimLoadEnd d parityFail cs s) := kept_mono h (by
  simp only [execTrimLoadEnd]
  repeat' (first | with_reducible rfl | decide | with_reducible refine kept_next.2 ?_ | (simp (disch := first | exact .inl rfl | exact .inr rfl | rfl | decide) only [mask_mk, ite_mask, ite_self, kept_next, State.applyPins_mask, State.flag_mask, State.freeHeld_mask, State.sampleBootsel_mask, State.setDbgAuth_mask, State.setStep_mask]; done) | split | dsimp only))

@[simp] theorem State.setAll_mask {K : Nat} (s : State) (n : Nat) (h : Covers K 0x400) : (State.setAll s n).mask K = s.mask K := mask_mono h (by
  simp only [State.setAll]
  repeat' (first | with_reducible rfl | decide | with_reducible refine (mask_foldl _ (fun t e => ?_) _ _).trans ?_ | (simp (disch := first | exact .inl rfl | exact .inr rfl | rfl | decide) only [mask_mk, ite_mask, ite_self, State.setStep_mask]; done) | split | dsimp only))

@[simp] theorem State.bootPins_mask {K : Nat} (s : State) (h : Covers K 0x100) : (State.bootPins s).mask K = s.mask K := mask_mono h (by
  simp only [State.bootPins]
  repeat' (first | with_reducible rfl | decide | (simp (disch := first | exact .inl rfl | exact .inr rfl | rfl | decide) only [mask_mk, ite_mask, ite_self]; done) | split | dsimp only))

@[simp] theorem State.endStep5_mask {K : Nat} (s : State) (h : Covers K 0x40000000000000000000000000000000000000000000000000000000000000000000000000000000000000000000000000024d00) : (State.endStep5 s).mask K = s.mask K := mask_mono h (by
  simp only [State.endStep5]
  repeat' (first | with_reducible rfl | decide | with_reducible refine (mask_foldl _ (fun t e => ?_) _ _).trans ?_ | (simp (disch := first | exact .inl rfl | exact .inr rfl | rfl | decide) only [mask_mk, ite_mask, ite_self, State.bootPins_mask, State.setAll_mask, State.setLive_mask, State.trgArm_mask]; done) | split | dsimp only))

@[simp] theorem execXoJudgementEnd_mask {K : Nat} (counts : List Nat) (s : State) (h : Covers K 0x40000000000000000000000000000000000000000000000000000000000000000000000000000000000000061910000000024f00) : Kept K s (execXoJudgementEnd counts s) := kept_mono h (by
  simp only [execXoJudgementEnd]
  repeat' (first | with_reducible rfl | decide | with_reducible refine kept_next.2 ?_ | (simp (disch := first | exact .inl rfl | exact .inr rfl | rfl | decide) only [mask_mk, ite_mask, ite_self, kept_next, State.allLimp_mask, State.clkAll_mask, State.endStep5_mask, State.setAll_mask]; done) | split | dsimp only))

@[simp] theorem execPllJudgementEnd_mask {K : Nat} (root tref : List PllWindows) (s : State) (h : Covers K 0x40000000000000000000000000000000000000000000000000000000000000000000000000000000000000061710000000024f00) : Kept K s (execPllJudgementEnd root tref s) := kept_mono h (by
  simp only [execPllJudgementEnd]
  repeat' (first | with_reducible rfl | decide | with_reducible refine kept_next.2 ?_ | with_reducible refine (mask_foldl _ (fun t e => ?_) _ _).trans ?_ | (simp (disch := first | exact .inl rfl | exact .inr rfl | rfl | decide) only [mask_mk, ite_mask, ite_self, kept_next, State.allLimp_mask, State.clkAll_mask, State.endStep5_mask, State.rootVerdicts_mask, State.setFld_mask, State.switchTo_mask]; done) | split | dsimp only | simp (disch := first | exact .inl rfl | exact .inr rfl | rfl | decide) only [mask_mk, ite_mask, ite_self, kept_next, State.allLimp_mask, State.clkAll_mask, State.endStep5_mask, State.rootVerdicts_mask, State.setFld_mask, State.switchTo_mask]))

@[simp] theorem State.pinEntry_mask {K : Nat} (bs : List Byte) (s : State) (i : Nat) (h : Covers K 0x1c01000000000) : (State.pinEntry bs s i).mask K = s.mask K := mask_mono h (by
  simp only [State.pinEntry]
  repeat' (first | with_reducible rfl | decide | (simp (disch := first | exact .inl rfl | exact .inr rfl | rfl | decide) only [mask_mk, ite_mask, ite_self, State.flag_mask, State.setFld_mask]; done) | split | dsimp only))

@[simp] theorem State.applyOptions_mask {K : Nat} (s : State) (bs : List Byte) (h : Covers K 0xc001c01000000400) : (State.applyOptions s bs).mask K = s.mask K := mask_mono h (by
  simp only [State.applyOptions]
  repeat' (first | with_reducible rfl | decide | with_reducible refine (mask_foldl _ (fun t e => ?_) _ _).trans ?_ | (simp (disch := first | exact .inl rfl | exact .inr rfl | rfl | decide) only [mask_mk, ite_mask, ite_self, State.pinEntry_mask, State.setFld_mask]; done) | split | dsimp only))

@[simp] theorem execOptionLoadEnd_mask {K : Nat} (s : State) (h : Covers K 0x2740000c001c01000000500) : Kept K s (execOptionLoadEnd s) := kept_mono h (by
  simp only [execOptionLoadEnd]
  repeat' (first | with_reducible rfl | decide | with_reducible refine kept_next.2 ?_ | (simp (disch := first | exact .inl rfl | exact .inr rfl | rfl | decide) only [mask_mk, ite_mask, ite_self, kept_next, State.setFlds_nil_mask, State.setFlds_cons_mask, State.setFld_mask, State.applyOptions_mask, State.bootPins_mask, State.flag_mask, State.setAll_mask]; done) | split | dsimp only))

@[simp] theorem State.measureBoot_mask {K : Nat} (s : State) (i : BundleInfo) (h : Covers K 0x200000) : (State.measureBoot s i).mask K = s.mask K := mask_mono h (by
  simp only [State.measureBoot]
  repeat' (first | with_reducible rfl | decide | (simp (disch := first | exact .inl rfl | exact .inr rfl | rfl | decide) only [mask_mk, ite_mask, ite_self, State.extend_mask, State.measureBundle_mask, State.measureDebug_mask]; done) | split | dsimp only))

@[simp] theorem State.startPcie_mask {K : Nat} (s : State) (h : Covers K 0x1b0000000000000000000000000000000000000000000000000000000000000000000000000000000000000000000000000000000000000000000000000) : (State.startPcie s).mask K = s.mask K := mask_mono h (by
  simp only [State.startPcie]
  repeat' (first | with_reducible rfl | decide | (simp (disch := first | exact .inl rfl | exact .inr rfl | rfl | decide) only [mask_mk, ite_mask, ite_self, State.setFlds_nil_mask, State.setFlds_cons_mask, State.setFld_mask]; done) | split | dsimp only))

@[simp] theorem execBootVerifyEnd_mask {K : Nat} (fromPartner : List Byte) (s : State) (h : Covers K 0x1c80000000000000000000001b0000000000000000000000000000000000000000000000000000000000000000000000000000000000000000000000000000000000000000000201400) : Kept K s (execBootVerifyEnd fromPartner s) := kept_mono h (by
  simp only [execBootVerifyEnd]
  repeat' (first | with_reducible rfl | decide | with_reducible refine kept_next.2 ?_ | (simp (disch := first | exact .inl rfl | exact .inr rfl | rfl | decide) only [mask_mk, ite_mask, ite_self, kept_next, State.setFlds_nil_mask, State.setFlds_cons_mask, State.setFld_mask, State.flag_mask, State.measureBoot_mask, State.setAll_mask, State.startCores_mask, State.startPcie_mask]; done) | split | dsimp only))

@[simp] theorem State.loadApImage_mask {K : Nat} (s : State) (h : Covers K 0x48000000000000000000000000000000000000000000000000000000000000000000000000000000000000000000000000000000000000000000000000000000000000000000000020) : (State.loadApImage s).mask K = s.mask K := mask_mono h (by
  simp only [State.loadApImage]
  repeat' (first | with_reducible rfl | decide | with_reducible refine (mask_foldl _ (fun t e => ?_) _ _).trans ?_ | (simp (disch := first | exact .inl rfl | exact .inr rfl | rfl | decide) only [mask_mk, ite_mask, ite_self, State.setFlds_nil_mask, State.setFlds_cons_mask, State.setFld_mask, State.putBytes_mask]; done) | split | dsimp only))

@[simp] theorem execDramTrainingEnd_mask {K : Nat} (d : Nat) (s : State) (h : Covers K 0xc80000000048000000000000000000000000000000000000000000000000000000000000000000000000000000000000000000000000000000060000000000000000000800000000000100018420) : Kept K s (execDramTrainingEnd d s) := kept_mono h (by
  simp only [execDramTrainingEnd]
  repeat' (first | with_reducible rfl | decide | with_reducible refine kept_next.2 ?_ | (simp (disch := first | exact .inl rfl | exact .inr rfl | rfl | decide) only [mask_mk, ite_mask, ite_self, kept_next, State.setFlds_nil_mask, State.setFlds_cons_mask, State.setFld_mask, State.flag_mask, State.loadApImage_mask, State.setStep_mask, State.titheLoad_mask, State.voltages_mask]; done) | split | dsimp only))

@[simp] theorem State.zeroDie_mask {K : Nat} (s : State) (d : Nat) (h : Covers K 0x2020) : (State.zeroDie s d).mask K = s.mask K := mask_mono h (by
  simp only [State.zeroDie]
  repeat' (first | with_reducible rfl | decide | (simp (disch := first | exact .inl rfl | exact .inr rfl | rfl | decide) only [mask_mk, ite_mask, ite_self, State.zeroBytes_mask]; done) | split | dsimp only))

@[simp] theorem State.zeroSlice_mask {K : Nat} (s : State) (d c : Nat) (h : Covers K 0x2020) : (State.zeroSlice s d c).mask K = s.mask K := mask_mono h (by
  simp only [State.zeroSlice]
  repeat' (first | with_reducible rfl | decide | (simp (disch := first | exact .inl rfl | exact .inr rfl | rfl | decide) only [mask_mk, ite_mask, ite_self, State.zeroBytes_mask]; done) | split | dsimp only))

@[simp] theorem State.linksUp_mask {K : Nat} (s : State) (d : Nat) (h : Covers K 0x1800000000000000000000000000000000000000000000000000000000000000000000000000000000000000000000000000000000000000000000000000) : (State.linksUp s d).mask K = s.mask K := mask_mono h (by
  simp only [State.linksUp]
  repeat' (first | with_reducible rfl | decide | with_reducible refine (mask_foldl _ (fun t e => ?_) _ _).trans ?_ | (simp (disch := first | exact .inl rfl | exact .inr rfl | rfl | decide) only [mask_mk, ite_mask, ite_self, State.setFlds_nil_mask, State.setFlds_cons_mask, State.setFld_mask]; done) | split | dsimp only))

@[simp] theorem execFabricUp_mask {K : Nat} (t : ResetTarget) (s : State) (h : Covers K 0x1800000000000000000000000000000000000000000000000000000000000000000000000000000000000000000000000000000000000000000000002420) : Kept K s (execFabricUp t s) := kept_mono h (by
  simp only [execFabricUp]
  repeat' (first | with_reducible rfl | decide | with_reducible refine kept_next.2 ?_ | with_reducible refine (mask_foldl _ (fun t e => ?_) _ _).trans ?_ | (simp (disch := first | exact .inl rfl | exact .inr rfl | rfl | decide) only [mask_mk, ite_mask, ite_self, kept_next, State.linksUp_mask, State.setAll_mask, State.setStep_mask, State.zeroDie_mask, State.zeroSlice_mask]; done) | split | dsimp only | simp (disch := first | exact .inl rfl | exact .inr rfl | rfl | decide) only [mask_mk, ite_mask, ite_self, kept_next, State.linksUp_mask, State.setAll_mask, State.setStep_mask, State.zeroDie_mask, State.zeroSlice_mask]))

@[simp] theorem State.fwParams_mask {K : Nat} (s : State) (h : Covers K 0x800) : (State.fwParams s).mask K = s.mask K := mask_mono h (by
  simp only [State.fwParams]
  repeat' (first | with_reducible rfl | decide | (simp (disch := first | exact .inl rfl | exact .inr rfl | rfl | decide) only [mask_mk, ite_mask, ite_self]; done) | split | dsimp only))

@[simp] theorem State.console_mask {K : Nat} (s : State) (h : Covers K 0xe7c0000000000000000000000000000000000000000000000000000000000000000000000000000000000000000000000000000000000000000000000) : (State.console s).mask K = s.mask K := mask_mono h (by
  simp only [State.console]
  repeat' (first | with_reducible rfl | decide | (simp (disch := first | exact .inl rfl | exact .inr rfl | rfl | decide) only [mask_mk, ite_mask, ite_self, State.setFlds_nil_mask, State.setFlds_cons_mask, State.setFld_mask]; done) | split | dsimp only))

@[simp] theorem State.startDie_mask {K : Nat} (s : State) (d : Nat) (h : Covers K 0xe7c000000000000000000000000000000000000000000000000000000008410800000000000000000000000000000000c000000000000000000400400) : (State.startDie s d).mask K = s.mask K := mask_mono h (by
  simp only [State.startDie]
  repeat' (first | with_reducible rfl | decide | with_reducible refine (mask_foldl _ (fun t e => ?_) _ _).trans ?_ | (simp (disch := first | exact .inl rfl | exact .inr rfl | rfl | decide) only [mask_mk, ite_mask, ite_self, State.setFlds_nil_mask, State.setFlds_cons_mask, State.setFld_mask, State.console_mask, State.setStep_mask]; done) | split | dsimp only | simp (disch := first | exact .inl rfl | exact .inr rfl | rfl | decide) only [mask_mk, ite_mask, ite_self, State.setFlds_nil_mask, State.setFlds_cons_mask, State.setFld_mask, State.console_mask, State.setStep_mask]))

@[simp] theorem execFirmwareStart_mask {K : Nat} (t : ResetTarget) (s : State) (h : Covers K 0x800000000000000e7c000000000000000000000000000000000000000000000000000000008410800000000000000000000000000000000c000000000000000000400c20) : Kept K s (execFirmwareStart t s) := kept_mono h (by
  simp only [execFirmwareStart]
  repeat' (first | with_reducible rfl | decide | with_reducible refine kept_next.2 ?_ | with_reducible refine (mask_foldl _ (fun t e => ?_) _ _).trans ?_ | (simp (disch := first | exact .inl rfl | exact .inr rfl | rfl | decide) only [mask_mk, ite_mask, ite_self, kept_next, State.fwParams_mask, State.setFld_mask, State.startDie_mask, State.zeroBytes_mask]; done) | split | dsimp only | simp (disch := first | exact .inl rfl | exact .inr rfl | rfl | decide) only [mask_mk, ite_mask, ite_self, kept_next, State.fwParams_mask, State.setFld_mask, State.startDie_mask, State.zeroBytes_mask]))

@[simp] theorem State.forceGroup_mask {K : Nat} (d : Nat) (s : State) (g : Nat) (h : Covers K 0x2000008000000000000000400) : (State.forceGroup d s g).mask K = s.mask K := mask_mono h (by
  simp only [State.forceGroup]
  repeat' (first | with_reducible rfl | decide | (simp (disch := first | exact .inl rfl | exact .inr rfl | rfl | decide) only [mask_mk, ite_mask, ite_self, State.flag_mask, State.setFld_mask]; done) | split | dsimp only))

@[simp] theorem wrForce_mask {K : Nat} (m : Master) (d data : Nat) (s : State) (h : Covers K 0x4027fc2000008000000000000004c00) : (wrForce m d data s).mask K = s.mask K := mask_mono h (by
  simp only [wrForce]
  repeat' (first | with_reducible rfl | decide | with_reducible refine (mask_foldl _ (fun t e => ?_) _ _).trans ?_ | with_reducible refine (State.guarded_mask _ _ _ _ _ _ ?_ (fun t => ?_)).trans ?_ | (simp (disch := first | exact .inl rfl | exact .inr rfl | rfl | decide) only [mask_mk, ite_mask, ite_self, State.forceGroup_mask]; done) | split | dsimp only))

@[simp] theorem execRstctlForceWrite_mask {K : Nat} (m : Master) (d : Nat) (data : Word) (s : State) (h : Covers K 0x4027fc2000008000000000000004c88) : Kept K s (execRstctlForceWrite m d data s) := kept_mono h (by
  simp only [execRstctlForceWrite]
  repeat' (first | with_reducible rfl | decide | with_reducible refine kept_next.2 ?_ | with_reducible refine (State.regWrite_mask _ _ _ _ _ _ _ ?_ (fun t => ?_)).trans ?_ | (simp (disch := first | exact .inl rfl | exact .inr rfl | rfl | decide) only [mask_mk, ite_mask, ite_self, kept_next, wrForce_mask]; done) | split | dsimp only))

@[simp] theorem execForcedGroupClockStable_mask {K : Nat} (d g : Nat) (s : State) (h : Covers K 0xfffffffffffffffffffffffffffffffffffffffffffffffffffffffffffffffffffffffffffffffffffffffffffffffffffffffffffffffffffffffffffffffffffffffffffffffffffe00000080) : Kept K s (execForcedGroupClockStable d g s) := by
  simp only [execForcedGroupClockStable]
  repeat' split
  all_goals first | exact kept_next.2 rfl | skip
  refine kept_next.2 ((State.setFld_mask _ _ _ _ _ (testBit_of_land h rfl)).trans ((State.dropPairs_mask _ _ (land_trans h (by decide))).trans
    (State.restore_mask _ _ (fun k _ => ?_))))
  exact testBit_of_land h (allFields_testBit _ _ (by decide))

@[simp] theorem execResetRequest_mask {K : Nat} (r : Req) (scope d i : Nat) (s : State) (h : Covers K 0x80000000000000000000000000000000001000000000000000000000000015c04) : Kept K s (execResetRequest r scope d i s) := kept_mono h (by
  simp only [execResetRequest]
  repeat' (first | with_reducible rfl | decide | with_reducible refine kept_next.2 ?_ | with_reducible refine (State.serve_mask _ _ _ _ _ ?_ (fun t => ?_)).trans ?_ | (simp (disch := first | exact .inl rfl | exact .inr rfl | rfl | decide) only [mask_mk, ite_mask, ite_self, kept_next, ite_st, reply_st, later_st, State.requestReset_mask]; done) | split | dsimp only))

@[simp] theorem execResetQuery_mask {K : Nat} (r : Req) (d : Nat) (s : State) (h : Covers K 0x80000000000000000000000000000000001000000000000000000000000015804) : Kept K s (execResetQuery r d s) := kept_mono h (by
  simp only [execResetQuery]
  repeat' (first | with_reducible rfl | decide | with_reducible refine kept_next.2 ?_ | with_reducible refine (State.serve_mask _ _ _ _ _ ?_ (fun t => ?_)).trans ?_ | (simp (disch := first | exact .inl rfl | exact .inr rfl | rfl | decide) only [mask_mk, ite_mask, ite_self, kept_next, ite_st, reply_st, later_st]; done) | split | dsimp only))

@[simp] theorem execOptRead_mask {K : Nat} (r : Req) (s : State) (h : Covers K 0x80000000000000000000000000000000001000000000000000000000000015804) : Kept K s (execOptRead r s) := kept_mono h (by
  simp only [execOptRead]
  repeat' (first | with_reducible rfl | decide | with_reducible refine kept_next.2 ?_ | with_reducible refine (State.serve_mask _ _ _ _ _ ?_ (fun t => ?_)).trans ?_ | (simp (disch := first | exact .inl rfl | exact .inr rfl | rfl | decide) only [mask_mk, ite_mask, ite_self, kept_next, ite_st, reply_st, later_st]; done) | split | dsimp only))

@[simp] theorem execOptWrite_mask {K : Nat} (r : Req) (expected : Nat) (options : List Byte) (s : State) (h : Covers K 0x80000000000000000000000000000000001000000000000000000000000015c44) : Kept K s (execOptWrite r expected options s) := kept_mono h (by
  simp only [execOptWrite]
  repeat' (first | with_reducible rfl | decide | with_reducible refine kept_next.2 ?_ | with_reducible refine (State.serve_mask _ _ _ _ _ ?_ (fun t => ?_)).trans ?_ | (simp (disch := first | exact .inl rfl | exact .inr rfl | rfl | decide) only [mask_mk, ite_mask, ite_self, kept_next, ite_st, reply_st, later_st, State.putFlash_mask]; done) | split | dsimp only))

@[simp] theorem State.optDone_mask {K : Nat} (s : State) (h : Covers K 0x80000000000000000000000000000000001000000000000000000000000014c40) : (State.optDone s).mask K = s.mask K := mask_mono h (by
  simp only [State.optDone]
  repeat' (first | with_reducible rfl | decide | (simp (disch := first | exact .inl rfl | exact .inr rfl | rfl | decide) only [mask_mk, ite_mask, ite_self, State.answer_mask, State.putFlash_mask]; done) | split | dsimp only))

@[simp] theorem State.idle_mask {K : Nat} (s : State) (h : Covers K 0x40000000000000000000000000000000000000000000000000000000000000000000000000000000000080000000000000000000000000000000001000000000000000000000000234c40) : (State.idle s).mask K = s.mask K := mask_mono h (by
  simp only [State.idle]
  repeat' (first | with_reducible rfl | decide | (simp (disch := first | exact .inl rfl | exact .inr rfl | rfl | decide) only [mask_mk, ite_mask, ite_self, State.fusesDone_mask, State.optDone_mask, State.tick_mask]; done) | split | dsimp only))

end Sys2Proof.Machine
end

