-- ==== Sys2Proof/Laws/KeepsCamera.lean ====
section
/-!
SUPPORT. Laws/KeepsCamera.lean: what each operation of Machine/Camera.lean leaves alone: a mask (Laws/Mask.lean) that covers what the operation may write sees no
difference between the state before and the state after.
-/
set_option linter.unusedSimpArgs false
set_option linter.unusedVariables false

namespace Sys2Proof.Machine

@[simp] theorem State.setStream_mask {K : Nat} (s : State) (d n : Nat) (c : CamStream) (h : Covers K 0x4000000) : (State.setStream s d n c).mask K = s.mask K := mask_mono h (by
  simp only [State.setStream]
  repeat' (first | with_reducible rfl | decide | (simp (disch := first | exact .inl rfl | exact .inr rfl | rfl | decide) only [mask_mk, ite_mask, ite_self]; done) | split | dsimp only))

@[simp] theorem State.camEvent_mask {K : Nat} (s : State) (e : Ev) (d n count : Nat) (h : Covers K 0x4020000000000000000000000004800) : (State.camEvent s e d n count).mask K = s.mask K := mask_mono h (by
  simp only [State.camEvent]
  repeat' (first | with_reducible rfl | decide | (simp (disch := first | exact .inl rfl | exact .inr rfl | rfl | decide) only [mask_mk, ite_mask, ite_self, State.raise_mask]; done) | split | dsimp only))

@[simp] theorem State.camStore_mask {K : Nat} (s : State) (d n a : Nat) (bs : List Byte) (h : Covers K 0x203e18200000000000000000000000000000000000000000000000000000000000000000000000000000000000000000000000021fe104027fc000000000000000000010e820) : (State.camStore s d n a bs).mask K = s.mask K := mask_mono h (by
  simp only [State.camStore]
  repeat' (first | with_reducible rfl | decide | (simp (disch := first | exact .inl rfl | exact .inr rfl | rfl | decide) only [mask_mk, ite_mask, ite_self, State.fabLog_mask, State.store_mask]; done) | split | dsimp only))

@[simp] theorem State.putRows_mask {K : Nat} (s : State) (d n : Nat) (f : CamFrame) (rs : List (Nat × List Byte)) (h : Covers K 0x203e18200000000000000000000000000000000000000000000000000000000000000000000000000000000000000000000000021fe104027fc000000000000000000010e820) : (State.putRows s d n f rs).mask K = s.mask K := mask_mono h (by
  simp only [State.putRows]
  repeat' (first | with_reducible rfl | decide | with_reducible refine (mask_foldl _ (fun t e => ?_) _ _).trans ?_ | (simp (disch := first | exact .inl rfl | exact .inr rfl | rfl | decide) only [mask_mk, ite_mask, ite_self, State.camStore_mask]; done) | split | dsimp only))

@[simp] theorem State.dropInjection_mask {K : Nat} (s : State) (d n : Nat) (h : Covers K 0x203e18200000000000000000000000000000000000000000000060000000000000000000000000000000000000000000000000021fe104027fc000000000000000000410e824) : (State.dropInjection s d n).mask K = s.mask K := mask_mono h (by
  simp only [State.dropInjection]
  repeat' (first | with_reducible rfl | decide | (simp (disch := first | exact .inl rfl | exact .inr rfl | rfl | decide) only [mask_mk, ite_mask, ite_self, State.setFlds_nil_mask, State.setFlds_cons_mask, State.setFld_mask, State.fresh_mask, State.putRows_mask, State.setStream_mask]; done) | split | dsimp only))

@[simp] theorem State.abortInjections_mask {K : Nat} (s : State) (d n : Nat) (h : Covers K 0x203e18200000000000000000000000000000000000000000000060000000000000000000000000000000000000000000000000021fe104027fc000000000000000000410e824) : (State.abortInjections s d n).mask K = s.mask K := mask_mono h (by
  simp only [State.abortInjections]
  repeat' (first | with_reducible rfl | decide | with_reducible refine (mask_foldl _ (fun t e => ?_) _ _).trans ?_ | (simp (disch := first | exact .inl rfl | exact .inr rfl | rfl | decide) only [mask_mk, ite_mask, ite_self, State.dropInjection_mask]; done) | split | dsimp only))

@[simp] theorem State.displaceFrame_mask {K : Nat} (s : State) (d n golden : Nat) (h : Covers K 0x40000000000000000000000000000000000000000000000000020000000000000000000000000000000000000000000000000000000004020000000000000000000000004800) : (State.displaceFrame s d n golden).mask K = s.mask K := mask_mono h (by
  simp only [State.displaceFrame]
  repeat' (first | with_reducible rfl | decide | with_reducible refine (mask_foldl _ (fun t e => ?_) _ _).trans ?_ | (simp (disch := first | exact .inl rfl | exact .inr rfl | rfl | decide) only [mask_mk, ite_mask, ite_self, State.addSat_mask, State.camEvent_mask]; done) | split | dsimp only))

@[simp] theorem State.openFrame_mask {K : Nat} (s : State) (d n number format sizeX : Nat) (h : Covers K 0x40000000000000000000000000000000000000000000000000028000000000000000000000000000000000000000000000000000000004020000000000000000000004004800) : (State.openFrame s d n number format sizeX).mask K = s.mask K := mask_mono h (by
  simp only [State.openFrame]
  repeat' (first | with_reducible rfl | decide | (simp (disch := first | exact .inl rfl | exact .inr rfl | rfl | decide) only [mask_mk, ite_mask, ite_self, State.addSat_mask, State.camEvent_mask, State.displaceFrame_mask, State.setStream_mask]; done) | split | dsimp only))

@[simp] theorem State.endFrame_mask {K : Nat} (s : State) (d n : Nat) (cut : Bool) (h : Covers K 0x4000000) : (State.endFrame s d n cut).mask K = s.mask K := mask_mono h (by
  simp only [State.endFrame]
  repeat' (first | with_reducible rfl | decide | (simp (disch := first | exact .inl rfl | exact .inr rfl | rfl | decide) only [mask_mk, ite_mask, ite_self, State.setStream_mask]; done) | split | dsimp only))

@[simp] theorem State.csiHeader_mask {K : Nat} (s : State) (d rx : Nat) (x3 : CsiHeader) (h : Covers K 0x80000000000000000000000000000000000000000000000000000000000000000000000000000000) : (State.csiHeader s d rx x3).2.mask K = s.mask K := mask_mono h (by
  simp only [State.csiHeader]
  repeat' (first | with_reducible rfl | decide | (simp (disch := first | exact .inl rfl | exact .inr rfl | rfl | decide) only [mask_mk, ite_mask, ite_self, State.addSat_mask]; done) | split | dsimp only))

@[simp] theorem execCsiShortPacket_mask {K : Nat} (d rx : Nat) (x2 : CsiHeader) (number : Nat) (s : State) (h : Covers K 0x603e182000000000000000000000000000000000000000000002e0000000800000000000000000000000000000000000000000021fe104027fc000000000000000000410e824) : Kept K s (execCsiShortPacket d rx x2 number s) := kept_mono h (by
  simp only [execCsiShortPacket]
  repeat' (first | with_reducible rfl | decide | with_reducible refine kept_next.2 ?_ | with_reducible refine (mask_foldl _ (fun t e => ?_) _ _).trans ?_ | (simp (disch := first | exact .inl rfl | exact .inr rfl | rfl | decide) only [mask_mk, ite_mask, ite_self, kept_next, State.abortInjections_mask, State.csiHeader_mask, State.endFrame_mask, State.openFrame_mask]; done) | split | dsimp only))

@[simp] theorem State.takeLine_mask {K : Nat} (s : State) (d n : Nat) (bs : List Byte) (crcOk : Bool) (h : Covers K 0x203e18200000000000000000000000000000000000000000000000000000000000000000000000000000000000000000000000021fe104027fc000000000000000000410e820) : (State.takeLine s d n bs crcOk).mask K = s.mask K := mask_mono h (by
  simp only [State.takeLine]
  repeat' (first | with_reducible rfl | decide | (simp (disch := first | exact .inl rfl | exact .inr rfl | rfl | decide) only [mask_mk, ite_mask, ite_self, State.putRows_mask, State.setStream_mask]; done) | split | dsimp only))

@[simp] theorem State.tileEnds_mask {K : Nat} (s : State) (d n : Nat) (h : Covers K 0x4000000) : (State.tileEnds s d n).mask K = s.mask K := mask_mono h (by
  simp only [State.tileEnds]
  repeat' (first | with_reducible rfl | decide | (simp (disch := first | exact .inl rfl | exact .inr rfl | rfl | decide) only [mask_mk, ite_mask, ite_self, State.endFrame_mask]; done) | split | dsimp only))

@[simp] theorem execCsiLongPacket_mask {K : Nat} (d rx : Nat) (x2 : CsiHeader) (payload : List Byte) (crcOk : Bool) (s : State) (h : Covers K 0x603e18200000000000000000000000000000000000000000000280000000c00000000000000000000000000000000000000000021fe104027fc000000000000000000410e820) : Kept K s (execCsiLongPacket d rx x2 payload crcOk s) := kept_mono h (by
  simp only [execCsiLongPacket]
  repeat' (first | with_reducible rfl | decide | with_reducible refine kept_next.2 ?_ | (simp (disch := first | exact .inl rfl | exact .inr rfl | rfl | decide) only [mask_mk, ite_mask, ite_self, kept_next, State.addSat_mask, State.csiHeader_mask, State.openFrame_mask, State.takeLine_mask, State.tileEnds_mask]; done) | split | dsimp only))

@[simp] theorem State.gvspPayload_mask {K : Nat} (s : State) (d n off : Nat) (bs : List Byte) (f : CamFrame) (h : Covers K 0x4000000) : (State.gvspPayload s d n off bs f).mask K = s.mask K := mask_mono h (by
  simp only [State.gvspPayload]
  repeat' (first | with_reducible rfl | decide | with_reducible refine (mask_foldl _ (fun t e => ?_) _ _).trans ?_ | (simp (disch := first | exact .inl rfl | exact .inr rfl | rfl | decide) only [mask_mk, ite_mask, ite_self, State.setStream_mask]; done) | split | dsimp only))

@[simp] theorem execGvspPacket_mask {K : Nat} (d port : Nat) (p : GvspPacket) (s : State) (h : Covers K 0x603e182000000000000000000000000000000000000000000002e0000000000000000000000000000000000000000000000000021fe104027fc000000000000000000410e824) : Kept K s (execGvspPacket d port p s) := kept_mono h (by
  simp only [execGvspPacket]
  repeat' (first | with_reducible rfl | decide | with_reducible refine kept_next.2 ?_ | with_reducible refine (mask_foldl _ (fun t e => ?_) _ _).trans ?_ | (simp (disch := first | exact .inl rfl | exact .inr rfl | rfl | decide) only [mask_mk, ite_mask, ite_self, kept_next, State.abortInjections_mask, State.endFrame_mask, State.gvspPayload_mask, State.openFrame_mask]; done) | split | dsimp only | simp (disch := first | exact .inl rfl | exact .inr rfl | rfl | decide) only [mask_mk, ite_mask, ite_self, kept_next, State.abortInjections_mask, State.endFrame_mask, State.gvspPayload_mask, State.openFrame_mask]))

@[simp] theorem State.countFrame_mask {K : Nat} (s : State) (d n : Nat) (f : CamFrame) (crc flags : Nat) (h : Covers K 0x203e18200000000000000000000000000000000000000000000008000000000000000000000000000000000000000000000000021fe104027fc000000000000000000210e820) : (State.countFrame s d n f crc flags).mask K = s.mask K := mask_mono h (by
  simp only [State.countFrame]
  repeat' (first | with_reducible rfl | decide | (simp (disch := first | exact .inl rfl | exact .inr rfl | rfl | decide) only [mask_mk, ite_mask, ite_self, State.camStore_mask, State.setFld_mask]; done) | split | dsimp only))

@[simp] theorem State.latchGold_mask {K : Nat} (s : State) (d n : Nat) (h : Covers K 0x4000000) : (State.latchGold s d n).mask K = s.mask K := mask_mono h (by
  simp only [State.latchGold]
  repeat' (first | with_reducible rfl | decide | (simp (disch := first | exact .inl rfl | exact .inr rfl | rfl | decide) only [mask_mk, ite_mask, ite_self, State.setStream_mask]; done) | split | dsimp only))

@[simp] theorem State.occasion_mask {K : Nat} (s0 : State) (d n : Nat) (f : CamFrame) (h : Covers K 0x40000000000000000000000000000000000000000000000000026000000000000000000000000000000000000000000000000000000004020000000000000000000004004800) : (State.occasion s0 d n f).mask K = s0.mask K := mask_mono h (by
  simp only [State.occasion]
  repeat' (first | with_reducible rfl | decide | (simp (disch := first | exact .inl rfl | exact .inr rfl | rfl | decide) only [mask_mk, ite_mask, ite_self, State.displaceFrame_mask, State.latchGold_mask, State.setFld_mask, State.setStream_mask]; done) | split | dsimp only))

@[simp] theorem execFrameComplete_mask {K : Nat} (d n : Nat) (s : State) (h : Covers K 0x603e18200000000000000000000000000000000000000000000378000000000000000000000000000000000000000000000000021fe104027fc000000000000000000610e820) : Kept K s (execFrameComplete d n s) := kept_mono h (by
  simp only [execFrameComplete]
  repeat' (first | with_reducible rfl | decide | with_reducible refine kept_next.2 ?_ | (simp (disch := first | exact .inl rfl | exact .inr rfl | rfl | decide) only [mask_mk, ite_mask, ite_self, kept_next, State.addSat_mask, State.camEvent_mask, State.countFrame_mask, State.occasion_mask, State.putRows_mask, State.setFld_mask, State.setStream_mask, State.source_mask, State.titheAdd_mask]; done) | split | dsimp only))

@[simp] theorem execGoldenCopyEnd_mask {K : Nat} (d n : Nat) (s : State) (h : Covers K 0x203e18200000000000000000000000000000000000000000000068000000000000000000000000000000000000000000000000021fe104027fc000000000000000000610e824) : Kept K s (execGoldenCopyEnd d n s) := kept_mono h (by
  simp only [execGoldenCopyEnd]
  repeat' (first | with_reducible rfl | decide | with_reducible refine kept_next.2 ?_ | (simp (disch := first | exact .inl rfl | exact .inr rfl | rfl | decide) only [mask_mk, ite_mask, ite_self, kept_next, State.setFlds_nil_mask, State.setFlds_cons_mask, State.setFld_mask, State.countFrame_mask, State.dropInjection_mask, State.putRows_mask, State.readUe_mask, State.setStream_mask, State.wake_mask]; done) | split | dsimp only))

@[simp] theorem State.streamOff_mask {K : Nat} (s : State) (d n : Nat) (h : Covers K 0x203e18200000000000000000000000000000000000000000000060000000000000000000000000000000000000000000000000021fe104027fc000000000000000000410e824) : (State.streamOff s d n).mask K = s.mask K := mask_mono h (by
  simp only [State.streamOff]
  repeat' (first | with_reducible rfl | decide | (simp (disch := first | exact .inl rfl | exact .inr rfl | rfl | decide) only [mask_mk, ite_mask, ite_self, State.dropInjection_mask, State.setStream_mask]; done) | split | dsimp only))

@[simp] theorem State.strSet_mask {K : Nat} (s : State) (d n off v : Nat) (h : Covers K 0x203e18200000000000000000000000000000000000000000000067f3ffff000000000000000000000000000000000000000000021fe104027fc000000000000000000410e824) : (State.strSet s d n off v).mask K = s.mask K := mask_mono h (by
  simp only [State.strSet, strCfgFields]
  repeat' (first | with_reducible rfl | (simp (disch := first | exact .inl rfl | exact .inr rfl | rfl | decide); done) | split))

@[simp] theorem State.strCfgSet_mask {K : Nat} (s : State) (d n v : Nat) (h : Covers K 0x203e18200000000000000000000000000000000000000000000067f3ffff000000000000000000000000000000000000000000021fe104027fc000000000000000000410e824) : (State.strCfgSet s d n v).mask K = s.mask K := mask_mono h (by
  simp only [State.strCfgSet]
  repeat' (first | with_reducible rfl | decide | (simp (disch := first | exact .inl rfl | exact .inr rfl | rfl | decide) only [mask_mk, ite_mask, ite_self, State.latchGold_mask, State.strSet_mask]; done) | split | dsimp only))

@[simp] theorem wrStr_mask {K : Nat} (m : Master) (d n off data : Nat) (s : State) (h : Covers K 0x203e18200000000000000000000000000000000000000000000067ffffff018000000000000000000000000000000000000000021fe104027fc000000000000000000410e8a4) : (wrStr m d n off data s).mask K = s.mask K := mask_mono h (by
  simp only [wrStr]
  repeat' (first | with_reducible rfl | decide | (simp (disch := first | exact .inl rfl | exact .inr rfl | rfl | decide) only [mask_mk, ite_mask, ite_self, State.dropLow_mask, State.flag_mask, State.holdLow_mask, State.setFld_mask, State.strCfgSet_mask, State.strSet_mask]; done) | split | dsimp only))

@[simp] theorem execStrCfgWrite_mask {K : Nat} (m : Master) (d n off : Nat) (data : Word) (s : State) (h : Covers K 0x203e18200000000000000000000000000000000000000000000067ffffff018000000000000000000000000000000000000000021fe104027fc000000000000000000410e8ac) : Kept K s (execStrCfgWrite m d n off data s) := kept_mono h (by
  simp only [execStrCfgWrite]
  repeat' (first | with_reducible rfl | decide | with_reducible refine kept_next.2 ?_ | with_reducible refine (State.regWrite_mask _ _ _ _ _ _ _ ?_ (fun t => ?_)).trans ?_ | (simp (disch := first | exact .inl rfl | exact .inr rfl | rfl | decide) only [mask_mk, ite_mask, ite_self, kept_next, wrStr_mask]; done) | split | dsimp only))

@[simp] theorem State.phySet_mask {K : Nat} (s : State) (d rx mode lanes rate : Nat) (h : Covers K 0x3c000000000000000000000000000000000000000000000000000000000000000000000000000000) : (State.phySet s d rx mode lanes rate).mask K = s.mask K := mask_mono h (by
  simp only [State.phySet]
  repeat' (first | with_reducible rfl | decide | (simp (disch := first | exact .inl rfl | exact .inr rfl | rfl | decide) only [mask_mk, ite_mask, ite_self, State.setFlds_nil_mask, State.setFlds_cons_mask, State.setFld_mask]; done) | split | dsimp only))

@[simp] theorem wrCsiPhy_mask {K : Nat} (m : Master) (d rx data : Nat) (s : State) (h : Covers K 0x3d800000000000000000000000000000000000000000000000000000000000000000000000000000) : (wrCsiPhy m d rx data s).mask K = s.mask K := mask_mono h (by
  simp only [wrCsiPhy]
  repeat' (first | with_reducible rfl | decide | (simp (disch := first | exact .inl rfl | exact .inr rfl | rfl | decide) only [mask_mk, ite_mask, ite_self, State.flag_mask, State.phySet_mask]; done) | split | dsimp only))

@[simp] theorem execCsiPhyLockChange_mask {K : Nat} (d rx : Nat) (locked : Bool) (s : State) (h : Covers K 0x6000000000000000000000000000000000000000000000000000000000000000000000000000000) : Kept K s (execCsiPhyLockChange d rx locked s) := kept_mono h (by
  simp only [execCsiPhyLockChange]
  repeat' (first | with_reducible rfl | decide | with_reducible refine kept_next.2 ?_ | (simp (disch := first | exact .inl rfl | exact .inr rfl | rfl | decide) only [mask_mk, ite_mask, ite_self, kept_next, State.flag_mask, State.setFld_mask]; done) | split | dsimp only))

@[simp] theorem execCamRxSet_mask {K : Nat} (r : Req) (d rx mode lanes rate : Nat) (s : State) (h : Covers K 0x3c000000000000080000000000000000000000000000000001000000000000000000000000015804) : Kept K s (execCamRxSet r d rx mode lanes rate s) := kept_mono h (by
  simp only [execCamRxSet]
  repeat' (first | with_reducible rfl | decide | with_reducible refine kept_next.2 ?_ | with_reducible refine (State.serve_mask _ _ _ _ _ ?_ (fun t => ?_)).trans ?_ | (simp (disch := first | exact .inl rfl | exact .inr rfl | rfl | decide) only [mask_mk, ite_mask, ite_self, kept_next, ite_st, reply_st, later_st, State.phySet_mask]; done) | split | dsimp only))

@[simp] theorem execCamStreamSet_mask {K : Nat} (r : Req) (d n : Nat) (images : List Word) (s : State) (h : Covers K 0x203e18200000000000000000000000000000000000000000000067ffffff000000000000000800000000000000000000000000021fe105027fc000000000000000000411f824) : Kept K s (execCamStreamSet r d n images s) := kept_mono h (by
  simp only [execCamStreamSet]
  repeat' (first | with_reducible rfl | decide | with_reducible refine kept_next.2 ?_ | with_reducible refine (mask_foldl _ (fun t e => ?_) _ _).trans ?_ | with_reducible refine (State.serve_mask _ _ _ _ _ ?_ (fun t => ?_)).trans ?_ | (simp (disch := first | exact .inl rfl | exact .inr rfl | rfl | decide) only [mask_mk, ite_mask, ite_self, kept_next, ite_st, reply_st, later_st, State.setFlds_nil_mask, State.setFlds_cons_mask, State.setFld_mask, State.strCfgSet_mask, State.strSet_mask]; done) | split | dsimp only | simp (disch := first | exact .inl rfl | exact .inr rfl | rfl | decide) only [mask_mk, ite_mask, ite_self, kept_next, ite_st, reply_st, later_st, State.setFlds_nil_mask, State.setFlds_cons_mask, State.setFld_mask, State.strCfgSet_mask, State.strSet_mask]))

@[simp] theorem execCamStreamQuery_mask {K : Nat} (r : Req) (d n : Nat) (s : State) (h : Covers K 0x80000000000000000000000000000000001000000000000000000000000015804) : Kept K s (execCamStreamQuery r d n s) := kept_mono h (by
  simp only [execCamStreamQuery]
  repeat' (first | with_reducible rfl | decide | with_reducible refine kept_next.2 ?_ | with_reducible refine (State.serve_mask _ _ _ _ _ ?_ (fun t => ?_)).trans ?_ | (simp (disch := first | exact .inl rfl | exact .inr rfl | rfl | decide) only [mask_mk, ite_mask, ite_self, kept_next, ite_st, reply_st, later_st]; done) | split | dsimp only))

end Sys2Proof.Machine
end

