-- ==== Sys2Proof/Laws/KeepsPins.lean ====
section
/-!
SUPPORT. Laws/KeepsPins.lean: what each operation of Machine/Pins.lean leaves alone: a mask (Laws/Mask.lean) that covers what the operation may write sees no
difference between the state before and the state after.
-/
set_option linter.unusedSimpArgs false
set_option linter.unusedVariables false

namespace Sys2Proof.Machine

@[simp] theorem State.pinSet_mask {K : Nat} (s : State) (d p img : Nat) (h : Covers K 0x1f81000000000) : (State.pinSet s d p img).mask K = s.mask K := mask_mono h (by
  simp only [State.pinSet]
  repeat' (first | with_reducible rfl | decide | (simp (disch := first | exact .inl rfl | exact .inr rfl | rfl | decide) only [mask_mk, ite_mask, ite_self, State.setFlds_nil_mask, State.setFlds_cons_mask, State.setFld_mask, State.flag_mask]; done) | split | dsimp only))

@[simp] theorem State.pinConflict_mask {K : Nat} (s : State) (d p : Nat) (h : Covers K 0x2400000000) : (State.pinConflict s d p).mask K = s.mask K := mask_mono h (by
  simp only [State.pinConflict]
  repeat' (first | with_reducible rfl | decide | (simp (disch := first | exact .inl rfl | exact .inr rfl | rfl | decide) only [mask_mk, ite_mask, ite_self, State.flag_mask, State.setFld_mask]; done) | split | dsimp only))

@[simp] theorem wrPincfg_mask {K : Nat} (m : Master) (d p data : Nat) (s : State) (h : Covers K 0x1f83400000000) : (wrPincfg m d p data s).mask K = s.mask K := mask_mono h (by
  simp only [wrPincfg]
  repeat' (first | with_reducible rfl | decide | (simp (disch := first | exact .inl rfl | exact .inr rfl | rfl | decide) only [mask_mk, ite_mask, ite_self, State.pinConflict_mask, State.pinSet_mask]; done) | split | dsimp only))

@[simp] theorem wrPinmuxOvr_mask {K : Nat} (m : Master) (d data : Nat) (s : State) (h : Covers K 0x4027fc0000000000000011800004900) : (wrPinmuxOvr m d data s).mask K = s.mask K := mask_mono h (by
  simp only [wrPinmuxOvr]
  repeat' (first | with_reducible rfl | decide | with_reducible refine (State.guarded_mask _ _ _ _ _ _ ?_ (fun t => ?_)).trans ?_ | (simp (disch := first | exact .inl rfl | exact .inr rfl | rfl | decide) only [mask_mk, ite_mask, ite_self, State.flag_mask, State.setFld_mask]; done) | split | dsimp only))

@[simp] theorem State.useFree_mask {K : Nat} (s : State) (h : Covers K 0x4) : (State.useFree s).mask K = s.mask K := mask_mono h (by
  simp only [State.useFree]
  repeat' (first | with_reducible rfl | decide | (simp (disch := first | exact .inl rfl | exact .inr rfl | rfl | decide) only [mask_mk, ite_mask, ite_self]; done) | split | dsimp only))

@[simp] theorem State.pinDefault_mask {K : Nat} (s : State) (d p : Nat) (h : Covers K 0x1fa0000000100) : (State.pinDefault s d p).mask K = s.mask K := mask_mono h (by
  simp only [State.pinDefault]
  repeat' (first | with_reducible rfl | decide | with_reducible refine (State.restore_mask _ _ (fun k hk => by replace hk := (Bool.and_eq_true_iff.mp hk).2; split at hk <;> first | (cases hk; done) | (rename_i hf; rw [hf]; decide))).trans ?_ | (simp (disch := first | exact .inl rfl | exact .inr rfl | rfl | decide) only [mask_mk, ite_mask, ite_self]; done) | split | dsimp only))

@[simp] theorem execPincfgWrite_mask {K : Nat} (m : Master) (d p : Nat) (data : Word) (s : State) (h : Covers K 0x7fc0000000000001f83400000088) : Kept K s (execPincfgWrite m d p data s) := kept_mono h (by
  simp only [execPincfgWrite]
  repeat' (first | with_reducible rfl | decide | with_reducible refine kept_next.2 ?_ | with_reducible refine (State.regWrite_mask _ _ _ _ _ _ _ ?_ (fun t => ?_)).trans ?_ | (simp (disch := first | exact .inl rfl | exact .inr rfl | rfl | decide) only [mask_mk, ite_mask, ite_self, kept_next, wrPincfg_mask]; done) | split | dsimp only))

@[simp] theorem execPinmuxOvrWrite_mask {K : Nat} (m : Master) (d : Nat) (data : Word) (s : State) (h : Covers K 0x4027fc0000000000000011800004988) : Kept K s (execPinmuxOvrWrite m d data s) := kept_mono h (by
  simp only [execPinmuxOvrWrite]
  repeat' (first | with_reducible rfl | decide | with_reducible refine kept_next.2 ?_ | with_reducible refine (State.regWrite_mask _ _ _ _ _ _ _ ?_ (fun t => ?_)).trans ?_ | (simp (disch := first | exact .inl rfl | exact .inr rfl | rfl | decide) only [mask_mk, ite_mask, ite_self, kept_next, wrPinmuxOvr_mask]; done) | split | dsimp only))

@[simp] theorem execPinConfig_mask {K : Nat} (r : Req) (d p : Nat) (image : Word) (s : State) (h : Covers K 0x80000000000000000000000000000000001000000000000000001f81000015804) : Kept K s (execPinConfig r d p image s) := kept_mono h (by
  simp only [execPinConfig]
  repeat' (first | with_reducible rfl | decide | with_reducible refine kept_next.2 ?_ | with_reducible refine (State.serve_mask _ _ _ _ _ ?_ (fun t => ?_)).trans ?_ | (simp (disch := first | exact .inl rfl | exact .inr rfl | rfl | decide) only [mask_mk, ite_mask, ite_self, kept_next, ite_st, reply_st, later_st, State.pinSet_mask, State.useFree_mask]; done) | split | dsimp only))

@[simp] theorem execPinQuery_mask {K : Nat} (r : Req) (d p : Nat) (s : State) (h : Covers K 0x80000000000000000000000000000000001000000000000000000000000015804) : Kept K s (execPinQuery r d p s) := kept_mono h (by
  simp only [execPinQuery]
  repeat' (first | with_reducible rfl | decide | with_reducible refine kept_next.2 ?_ | with_reducible refine (State.serve_mask _ _ _ _ _ ?_ (fun t => ?_)).trans ?_ | (simp (disch := first | exact .inl rfl | exact .inr rfl | rfl | decide) only [mask_mk, ite_mask, ite_self, kept_next, ite_st, reply_st, later_st, State.useFree_mask]; done) | split | dsimp only))

end Sys2Proof.Machine
end

