-- ==== Sys2Proof/Laws/KeepsClaims.lean ====
section
/-!
SUPPORT. Laws/KeepsClaims.lean: what each operation of Machine/Claims.lean leaves alone: a mask (Laws/Mask.lean) that covers what the operation may write sees no
difference between the state before and the state after.
-/
set_option linter.unusedSimpArgs false
set_option linter.unusedVariables false

namespace Sys2Proof.Machine

@[simp] theorem State.grant_mask {K : Nat} (s : State) (dom : Dom) (ty d cls i : Nat) (h : Covers K 0x203e182050040000000000000000000000000000000000000000000000000000000000000008008410000000000000000000000000000502000000000000000000000051c900) : (State.grant s dom ty d cls i).mask K = s.mask K := mask_mono h (by
  simp only [State.grant]
  repeat' (first | with_reducible rfl | decide | (simp (disch := first | exact .inl rfl | exact .inr rfl | rfl | decide) only [mask_mk, ite_mask, ite_self, State.setFlds_nil_mask, State.setFlds_cons_mask, State.setFld_mask, State.mirrorChange_mask]; done) | split | dsimp only))

@[simp] theorem State.releaseSilo_mask {K : Nat} (s : State) (d k : Nat) (h : Covers K 0x203e18205004000000000000000000000000000000000000000000000000000000000000020800fff80000fde0781c00000010021fe1050200000000000000000000005de824) : (State.releaseSilo s d k).mask K = s.mask K := mask_mono h (by
  simp only [State.releaseSilo]
  repeat' (first | with_reducible rfl | decide | with_reducible refine (State.restore_mask _ _ (fun k hk => by replace hk := (Bool.and_eq_true_iff.mp hk).2; split at hk <;> first | (cases hk; done) | (rename_i hf; rw [hf]; decide))).trans ?_ | (simp (disch := first | exact .inl rfl | exact .inr rfl | rfl | decide) only [mask_mk, ite_mask, ite_self, State.cancelWhere_mask, State.reap_mask, State.setFld_mask, State.siloGone_mask]; done) | split | dsimp only))

@[simp] theorem State.ungrant_mask {K : Nat} (s : State) (ty d i : Nat) (h : Covers K 0x203e18205004000000000000000000000000000000000000000000000000000000000000020800fff80000fde0781c00000010021fe105020000000000000001fa00005de924) : (State.ungrant s ty d i).mask K = s.mask K := mask_mono h (by
  simp only [State.ungrant]
  repeat' (first | with_reducible rfl | decide | with_reducible refine (mask_foldl _ (fun t e => ?_) _ _).trans ?_ | (simp (disch := first | exact .inl rfl | exact .inr rfl | rfl | decide) only [mask_mk, ite_mask, ite_self, State.mirrorChange_mask, State.pinDefault_mask, State.releaseSilo_mask]; done) | split | dsimp only | simp (disch := first | exact .inl rfl | exact .inr rfl | rfl | decide) only [mask_mk, ite_mask, ite_self, State.mirrorChange_mask, State.pinDefault_mask, State.releaseSilo_mask]))

@[simp] theorem execClaim_mask {K : Nat} (r : Req) (g : ResRange) (s : State) (h : Covers K 0x203e182050040000000000000000000000000000000000000000000000000000000000000008008410000000000000000000000000000502000000000000000000000051d904) : Kept K s (execClaim r g s) := kept_mono h (by
  simp only [execClaim]
  repeat' (first | with_reducible rfl | decide | with_reducible refine kept_next.2 ?_ | with_reducible refine (mask_foldl _ (fun t e => ?_) _ _).trans ?_ | with_reducible refine (State.serve_mask _ _ _ _ _ ?_ (fun t => ?_)).trans ?_ | (simp (disch := first | exact .inl rfl | exact .inr rfl | rfl | decide) only [mask_mk, ite_mask, ite_self, kept_next, ite_st, reply_st, later_st, State.grant_mask, State.useFree_mask]; done) | split | dsimp only | simp (disch := first | exact .inl rfl | exact .inr rfl | rfl | decide) only [mask_mk, ite_mask, ite_self, kept_next, ite_st, reply_st, later_st, State.grant_mask, State.useFree_mask]))

@[simp] theorem execRelease_mask {K : Nat} (r : Req) (g : ResRange) (s : State) (h : Covers K 0x203e18205004000000000000000000000000000000000000000000000000000000000000020800fff80000fde0781c00000010021fe105020000000000000001fa00005df924) : Kept K s (execRelease r g s) := kept_mono h (by
  simp only [execRelease]
  repeat' (first | with_reducible rfl | decide | with_reducible refine kept_next.2 ?_ | with_reducible refine (mask_foldl _ (fun t e => ?_) _ _).trans ?_ | with_reducible refine (State.serve_mask _ _ _ _ _ ?_ (fun t => ?_)).trans ?_ | (simp (disch := first | exact .inl rfl | exact .inr rfl | rfl | decide) only [mask_mk, ite_mask, ite_self, kept_next, ite_st, reply_st, later_st, State.ungrant_mask, State.useFree_mask]; done) | split | dsimp only | simp (disch := first | exact .inl rfl | exact .inr rfl | rfl | decide) only [mask_mk, ite_mask, ite_self, kept_next, ite_st, reply_st, later_st, State.ungrant_mask, State.useFree_mask]))

end Sys2Proof.Machine
end

