-- ==== Sys2Proof/Laws/KeepsDisplay.lean ====
section
/-!
SUPPORT. Laws/KeepsDisplay.lean: what each operation of Machine/Display.lean leaves alone: a mask (Laws/Mask.lean) that covers what the operation may write sees no
difference between the state before and the state after.
-/
set_option linter.unusedSimpArgs false
set_option linter.unusedVariables false

namespace Sys2Proof.Machine

@[simp] theorem State.setHead_mask {K : Nat} (s : State) (x1 : Nat) (x : HeadState) (h : Covers K 0x1000000) : (State.setHead s x1 x).mask K = s.mask K := mask_mono h (by
  simp only [State.setHead]
  repeat' (first | with_reducible rfl | decide | (simp (disch := first | exact .inl rfl | exact .inr rfl | rfl | decide) only [mask_mk, ite_mask, ite_self]; done) | split | dsimp only))

@[simp] theorem State.offer_mask {K : Nat} (s : State) (x1 : Nat) (i : HeadImage) (h : Covers K 0x1000000) : (State.offer s x1 i).mask K = s.mask K := mask_mono h (by
  simp only [State.offer]
  repeat' (first | with_reducible rfl | decide | (simp (disch := first | exact .inl rfl | exact .inr rfl | rfl | decide) only [mask_mk, ite_mask, ite_self, State.setHead_mask]; done) | split | dsimp only))

@[simp] theorem State.dispEvent_mask {K : Nat} (s : State) (e : Ev) (x2 : Nat) (h : Covers K 0x4020000000000000000000000004800) : (State.dispEvent s e x2).mask K = s.mask K := mask_mono h (by
  simp only [State.dispEvent]
  repeat' (first | with_reducible rfl | decide | (simp (disch := first | exact .inl rfl | exact .inr rfl | rfl | decide) only [mask_mk, ite_mask, ite_self, State.raise_mask]; done) | split | dsimp only))

@[simp] theorem State.reserveEnd_mask {K : Nat} (x0 : Nat) (s : State) (dk : Nat × Nat) (h : Covers K 0x203e18200000000000000000000000000000000000000000000000000000000000000000000000400008000000000000000000021fe10402000000000000000000000014e820) : (State.reserveEnd x0 s dk).mask K = s.mask K := mask_mono h (by
  simp only [State.reserveEnd]
  repeat' (first | with_reducible rfl | decide | (simp (disch := first | exact .inl rfl | exact .inr rfl | rfl | decide) only [mask_mk, ite_mask, ite_self, State.guaranteeBroken_mask, State.setFld_mask, State.setSilo_mask]; done) | split | dsimp only))

@[simp] theorem execVerticalBlank_mask {K : Nat} (x0 : Nat) (s : State) (h : Covers K 0x203e18200000000000000000000000000000000000000000000000000000000280010000000000400008000000000000000000021fe10402000000000000000000000114e820) : Kept K s (execVerticalBlank x0 s) := kept_mono h (by
  simp only [execVerticalBlank]
  repeat' (first | with_reducible rfl | decide | with_reducible refine kept_next.2 ?_ | with_reducible refine (mask_foldl _ (fun t e => ?_) _ _).trans ?_ | (simp (disch := first | exact .inl rfl | exact .inr rfl | rfl | decide) only [mask_mk, ite_mask, ite_self, kept_next, State.addSat_mask, State.dispEvent_mask, State.reserveEnd_mask, State.setFld_mask, State.setHead_mask]; done) | split | dsimp only))

@[simp] theorem State.sendRow_mask {K : Nat} (s : State) (x1 : Nat) (pixels : Option (List Nat)) (h : Covers K 0x1010000) : (State.sendRow s x1 pixels).mask K = s.mask K := mask_mono h (by
  simp only [State.sendRow]
  repeat' (first | with_reducible rfl | decide | (simp (disch := first | exact .inl rfl | exact .inr rfl | rfl | decide) only [mask_mk, ite_mask, ite_self, State.send_mask, State.setHead_mask]; done) | split | dsimp only))

@[simp] theorem State.underrunRow_mask {K : Nat} (s : State) (x1 : Nat) (h : Covers K 0x10000800000000000000000000000000000000000000004020000000000000000000001014800) : (State.underrunRow s x1).mask K = s.mask K := mask_mono h (by
  simp only [State.underrunRow]
  repeat' (first | with_reducible rfl | decide | (simp (disch := first | exact .inl rfl | exact .inr rfl | rfl | decide) only [mask_mk, ite_mask, ite_self, State.addSat_mask, State.dispEvent_mask, State.sendRow_mask, State.setFld_mask, State.setHead_mask]; done) | split | dsimp only))

@[simp] theorem execScanoutTileRowDue_mask {K : Nat} (x0 : Nat) (ready : Bool) (s : State) (h : Covers K 0x203e18200000000000000000000000000000000000000000000000000000000100008000000000000000000000000000000000021fe104027fc000000000000000000111e800) : Kept K s (execScanoutTileRowDue x0 ready s) := kept_mono h (by
  simp only [execScanoutTileRowDue]
  repeat' (first | with_reducible rfl | decide | with_reducible refine kept_next.2 ?_ | with_reducible refine (mask_foldl _ (fun t e => ?_) _ _).trans ?_ | (simp (disch := first | exact .inl rfl | exact .inr rfl | rfl | decide) only [mask_mk, ite_mask, ite_self, kept_next, State.fabLog_mask, State.readUe_mask, State.sendRow_mask, State.underrunRow_mask, State.wake_mask]; done) | split | dsimp only | simp (disch := first | exact .inl rfl | exact .inr rfl | rfl | decide) only [mask_mk, ite_mask, ite_self, kept_next, State.fabLog_mask, State.readUe_mask, State.sendRow_mask, State.underrunRow_mask, State.wake_mask]))

@[simp] theorem execHpdChange_mask {K : Nat} (x0 : Nat) (level : Bool) (s : State) (h : Covers K 0x400000000000000000000000000000000000000004020000000000000000000001004800) : Kept K s (execHpdChange x0 level s) := kept_mono h (by
  simp only [execHpdChange]
  repeat' (first | with_reducible rfl | decide | with_reducible refine kept_next.2 ?_ | (simp (disch := first | exact .inl rfl | exact .inr rfl | rfl | decide) only [mask_mk, ite_mask, ite_self, kept_next, State.dispEvent_mask, State.setFld_mask, State.setHead_mask]; done) | split | dsimp only))

theorem State.headWrite_mask {K : Nat} (s : State) (m : Master) (x2 : Nat) (eff : State → State) (h : Covers K 0x200000000000000000000000000000000000000000000000000000000000000000000000) (he : ∀ t, (eff t).mask K = t.mask K) : (State.headWrite s m x2 eff).mask K = s.mask K := by
  have hb : ∀ i, Nat.testBit 0x200000000000000000000000000000000000000000000000000000000000000000000000 i = true → K.testBit i = true := fun i => testBit_of_land h
  have hl : ∀ j, Covers 0x200000000000000000000000000000000000000000000000000000000000000000000000 j → Covers K j := fun j hj => land_trans h hj
  simp only [State.headWrite]
  repeat' (first | with_reducible rfl | exact hl _ (by decide) | (simp (disch := first | exact .inl (hb _ rfl) | exact .inr rfl | exact hl _ (by decide) | exact hb _ (by decide) | assumption | rfl) only [mask_mk, ite_mask, ite_self, State.flag_mask, he]; done) | split | dsimp only)

@[simp] theorem wrHeadImg_mask {K : Nat} (m : Master) (x1 data : Nat) (s : State) (h : Covers K 0x4000200000000000000000000000000000000000000000000000000000000000000001000080) : (wrHeadImg m x1 data s).mask K = s.mask K := mask_mono h (by
  simp only [wrHeadImg]
  repeat' (first | with_reducible rfl | decide | with_reducible refine (State.headWrite_mask _ _ _ _ ?_ (fun t => ?_)).trans ?_ | (simp (disch := first | exact .inl rfl | exact .inr rfl | rfl | decide) only [mask_mk, ite_mask, ite_self, State.dropLow_mask, State.offer_mask, State.setFld_mask]; done) | split | dsimp only))

@[simp] theorem wrHeadCtrl_mask {K : Nat} (m : Master) (x1 data : Nat) (s : State) (h : Covers K 0x6200000000000000000000000000000000000000000000000000000000000000000000000) : (wrHeadCtrl m x1 data s).mask K = s.mask K := mask_mono h (by
  simp only [wrHeadCtrl]
  repeat' (first | with_reducible rfl | decide | with_reducible refine (State.headWrite_mask _ _ _ _ ?_ (fun t => ?_)).trans ?_ | (simp (disch := first | exact .inl rfl | exact .inr rfl | rfl | decide) only [mask_mk, ite_mask, ite_self, State.setFlds_nil_mask, State.setFlds_cons_mask, State.setFld_mask]; done) | split | dsimp only))

@[simp] theorem wrHeadPclk_mask {K : Nat} (m : Master) (x1 data : Nat) (s : State) (h : Covers K 0x2000204000000000000000000000000000000000000000000000000000000000000000000000) : (wrHeadPclk m x1 data s).mask K = s.mask K := mask_mono h (by
  simp only [wrHeadPclk]
  repeat' (first | with_reducible rfl | decide | with_reducible refine (State.headWrite_mask _ _ _ _ ?_ (fun t => ?_)).trans ?_ | (simp (disch := first | exact .inl rfl | exact .inr rfl | rfl | decide) only [mask_mk, ite_mask, ite_self, State.flag_mask, State.setFld_mask]; done) | split | dsimp only))

@[simp] theorem execHeadImgHiWrite_mask {K : Nat} (m : Master) (x1 : Nat) (data : Word) (s : State) (h : Covers K 0x4000200000000000000000000000000000000000000000007fc0000000000000000001000088) : Kept K s (execHeadImgHiWrite m x1 data s) := kept_mono h (by
  simp only [execHeadImgHiWrite]
  repeat' (first | with_reducible rfl | decide | with_reducible refine kept_next.2 ?_ | with_reducible refine (State.regWrite_mask _ _ _ _ _ _ _ ?_ (fun t => ?_)).trans ?_ | (simp (disch := first | exact .inl rfl | exact .inr rfl | rfl | decide) only [mask_mk, ite_mask, ite_self, kept_next, wrHeadImg_mask]; done) | split | dsimp only))

@[simp] theorem execHeadCtrlEnWrite_mask {K : Nat} (m : Master) (x1 : Nat) (data : Word) (s : State) (h : Covers K 0x6200000000000000000000000000000000000000000007fc0000000000000000000000088) : Kept K s (execHeadCtrlEnWrite m x1 data s) := kept_mono h (by
  simp only [execHeadCtrlEnWrite]
  repeat' (first | with_reducible rfl | decide | with_reducible refine kept_next.2 ?_ | with_reducible refine (State.regWrite_mask _ _ _ _ _ _ _ ?_ (fun t => ?_)).trans ?_ | (simp (disch := first | exact .inl rfl | exact .inr rfl | rfl | decide) only [mask_mk, ite_mask, ite_self, kept_next, wrHeadCtrl_mask]; done) | split | dsimp only))

@[simp] theorem execDispMode_mask {K : Nat} (r : Req) (c : DispModeCfg) (training : Option (Nat × Nat)) (s : State) (h : Covers K 0x3c3ffe000000080000000000000000000000000000000001000000000000000000000001015804) : Kept K s (execDispMode r c training s) := kept_mono h (by
  simp only [execDispMode]
  repeat' (first | with_reducible rfl | decide | with_reducible refine kept_next.2 ?_ | with_reducible refine (State.serve_mask _ _ _ _ _ ?_ (fun t => ?_)).trans ?_ | (simp (disch := first | exact .inl rfl | exact .inr rfl | rfl | decide) only [mask_mk, ite_mask, ite_self, kept_next, ite_st, reply_st, later_st, State.setFlds_nil_mask, State.setFlds_cons_mask, State.setFld_mask, State.setHead_mask]; done) | split | dsimp only))

@[simp] theorem execDispFlip_mask {K : Nat} (r : Req) (x1 addr : Nat) (s : State) (h : Covers K 0x80000000000000000000000000000000001000000000000000000000001015804) : Kept K s (execDispFlip r x1 addr s) := kept_mono h (by
  simp only [execDispFlip]
  repeat' (first | with_reducible rfl | decide | with_reducible refine kept_next.2 ?_ | with_reducible refine (State.serve_mask _ _ _ _ _ ?_ (fun t => ?_)).trans ?_ | (simp (disch := first | exact .inl rfl | exact .inr rfl | rfl | decide) only [mask_mk, ite_mask, ite_self, kept_next, ite_st, reply_st, later_st, State.offer_mask]; done) | split | dsimp only))

@[simp] theorem execDispQuery_mask {K : Nat} (r : Req) (x1 : Nat) (s : State) (h : Covers K 0x80000000000000000000000000000000001000000000000000000000000015804) : Kept K s (execDispQuery r x1 s) := kept_mono h (by
  simp only [execDispQuery]
  repeat' (first | with_reducible rfl | decide | with_reducible refine kept_next.2 ?_ | with_reducible refine (State.serve_mask _ _ _ _ _ ?_ (fun t => ?_)).trans ?_ | (simp (disch := first | exact .inl rfl | exact .inr rfl | rfl | decide) only [mask_mk, ite_mask, ite_self, kept_next, ite_st, reply_st, later_st]; done) | split | dsimp only))

@[simp] theorem execDispOff_mask {K : Nat} (r : Req) (x1 : Nat) (s : State) (h : Covers K 0x1c0002000000080000000000000000000000000000000001000000000000000000000000015804) : Kept K s (execDispOff r x1 s) := kept_mono h (by
  simp only [execDispOff]
  repeat' (first | with_reducible rfl | decide | with_reducible refine kept_next.2 ?_ | with_reducible refine (State.serve_mask _ _ _ _ _ ?_ (fun t => ?_)).trans ?_ | (simp (disch := first | exact .inl rfl | exact .inr rfl | rfl | decide) only [mask_mk, ite_mask, ite_self, kept_next, ite_st, reply_st, later_st, State.setFlds_nil_mask, State.setFlds_cons_mask, State.setFld_mask]; done) | split | dsimp only))

@[simp] theorem execDisplayReserveStart_mask {K : Nat} (d k : Nat) (s : State) (h : Covers K 0x203e1820500400000000000000000000000000000000000000000000000000000000000002080040000000fde0781c00000000021fe1050200000000000000000000005de824) : Kept K s (execDisplayReserveStart d k s) := kept_mono h (by
  simp only [execDisplayReserveStart]
  repeat' (first | with_reducible rfl | decide | with_reducible refine kept_next.2 ?_ | (simp (disch := first | exact .inl rfl | exact .inr rfl | rfl | decide) only [mask_mk, ite_mask, ite_self, kept_next, State.killWhere_mask, State.setFld_mask, State.setSilo_mask]; done) | split | dsimp only))

end Sys2Proof.Machine
end

