-- ==== Sys2Proof/Laws/KeepsKvTable.lean ====
section
/-!
SUPPORT. Laws/KeepsKvTable.lean: what each operation of Machine/KvTable.lean leaves alone: a mask (Laws/Mask.lean) that covers what the operation may write sees no
difference between the state before and the state after.
-/
set_option linter.unusedSimpArgs false
set_option linter.unusedVariables false

namespace Sys2Proof.Machine

@[simp] theorem State.kvCommit_mask {K : Nat} (s : State) (d : Nat) (r : KvView × Bool) (h : Covers K 0x2000000000000000000000000000000000000000000000000002020) : (State.kvCommit s d r).mask K = s.mask K := mask_mono h (by
  simp only [State.kvCommit]
  repeat' (first | with_reducible rfl | decide | with_reducible refine (mask_foldl _ (fun t e => ?_) _ _).trans ?_ | (simp (disch := first | exact .inl rfl | exact .inr rfl | rfl | decide) only [mask_mk, ite_mask, ite_self, State.flag_mask, State.write_mask]; done) | split | dsimp only | simp (disch := first | exact .inl rfl | exact .inr rfl | rfl | decide) only [mask_mk, ite_mask, ite_self, State.flag_mask, State.write_mask]))

end Sys2Proof.Machine
end

