-- ==== Sys2Proof/Laws/KeepsCommit.lean ====
section
/-!
SUPPORT. Laws/KeepsCommit.lean: what each operation of Machine/Commit.lean leaves alone: a mask (Laws/Mask.lean) that covers what the operation may write sees no
difference between the state before and the state after.
-/
set_option linter.unusedSimpArgs false
set_option linter.unusedVariables false

namespace Sys2Proof.Machine

@[simp] theorem State.mismatchEvent_mask {K : Nat} (s : State) (m : Mismatch) (outcome : Nat) (h : Covers K 0x4020000000000000000000000004800) : (State.mismatchEvent s m outcome).mask K = s.mask K := mask_mono h (by
  simp only [State.mismatchEvent]
  repeat' (first | with_reducible rfl | decide | (simp (disch := first | exact .inl rfl | exact .inr rfl | rfl | decide) only [mask_mk, ite_mask, ite_self, State.raise_mask]; done) | split | dsimp only))

@[simp] theorem State.removeCore_mask {K : Nat} (s : State) (d c : Nat) (h : Covers K 0x203e1820500400440000000000000000000000000000000000000000000000000000000002080040000000fde0781c00000000021fe1050200000000000000000000005de824) : (State.removeCore s d c).mask K = s.mask K := mask_mono h (by
  simp only [State.removeCore]
  repeat' (first | with_reducible rfl | decide | (simp (disch := first | exact .inl rfl | exact .inr rfl | rfl | decide) only [mask_mk, ite_mask, ite_self, State.flag_mask, State.killWhere_mask, State.setFld_mask]; done) | split | dsimp only))

@[simp] theorem State.showSeq_mask {K : Nat} (s : State) (d : Nat) (h : Covers K 0x100000000000000000000000000000000000000000000000000000000000000000000000000000000000000000000000000000000000000000000000000000) : (State.showSeq s d).mask K = s.mask K := mask_mono h (by
  simp only [State.showSeq]
  repeat' (first | with_reducible rfl | decide | (simp (disch := first | exact .inl rfl | exact .inr rfl | rfl | decide) only [mask_mk, ite_mask, ite_self, State.setFld_mask]; done) | split | dsimp only))

@[simp] theorem State.endSequence_mask {K : Nat} (s : State) (m : Mismatch) (outcome : Nat) (h : Covers K 0x1000000000000000000000000000000000000000000000000000000000000800000000000000000000000000000000050200000000000000000000000d4800) : (State.endSequence s m outcome).mask K = s.mask K := mask_mono h (by
  simp only [State.endSequence]
  repeat' (first | with_reducible rfl | decide | (simp (disch := first | exact .inl rfl | exact .inr rfl | rfl | decide) only [mask_mk, ite_mask, ite_self, State.freezeCheck_mask, State.mismatchEvent_mask, State.showSeq_mask]; done) | split | dsimp only))

@[simp] theorem State.countPersistent_mask {K : Nat} (s : State) (d : Nat) (h : Covers K 0x800000000000000000000000000000000000000000000000000000000000000000000000000000000000000000000000000000000000000000000000008000) : (State.countPersistent s d).mask K = s.mask K := mask_mono h (by
  simp only [State.countPersistent]
  repeat' (first | with_reducible rfl | decide | (simp (disch := first | exact .inl rfl | exact .inr rfl | rfl | decide) only [mask_mk, ite_mask, ite_self, State.addSat_mask, State.titheAdd_mask]; done) | split | dsimp only))

@[simp] theorem State.countTransient_mask {K : Nat} (s : State) (d : Nat) (h : Covers K 0x1080000000000000000000000000000000000000000000000000000000000000000000000000000000000000000000000000000000000000000000000008000) : (State.countTransient s d).mask K = s.mask K := mask_mono h (by
  simp only [State.countTransient]
  repeat' (first | with_reducible rfl | decide | (simp (disch := first | exact .inl rfl | exact .inr rfl | rfl | decide) only [mask_mk, ite_mask, ite_self, State.addSat_mask, State.flag_mask, State.titheAdd_mask]; done) | split | dsimp only))

@[simp] theorem State.publish_mask {K : Nat} (s : State) (d : Nat) (r : SlotRef) (p : Placed) (h : Covers K 0x40000) : (State.publish s d r p).mask K = s.mask K := mask_mono h (by
  simp only [State.publish]
  repeat' (first | with_reducible rfl | decide | (simp (disch := first | exact .inl rfl | exact .inr rfl | rfl | decide) only [mask_mk, ite_mask, ite_self, State.setPlaced_mask]; done) | split | dsimp only))

@[simp] theorem State.outputsInvalid_mask {K : Nat} (s : State) (m : Mismatch) (p : Placed) (outcome : Nat) (h : Covers K 0x203e1820500400d60000000000000000000000000000000000000000000000000000000002080040000000fde0781c00000000021fe1050200000000000000000000005de824) : (State.outputsInvalid s m p outcome).mask K = s.mask K := mask_mono h (by
  simp only [State.outputsInvalid]
  repeat' (first | with_reducible rfl | decide | (simp (disch := first | exact .inl rfl | exact .inr rfl | rfl | decide) only [mask_mk, ite_mask, ite_self, State.countPersistent_mask, State.endSequence_mask, State.endSheaf_mask, State.flag_mask, State.freezeCheck_mask, State.leaveBoth_mask, State.removeCore_mask]; done) | split | dsimp only))

@[simp] theorem execCommitCompare_mask {K : Nat} (d : Nat) (r : SlotRef) (difference : BitVec 128) (cycles : Nat) (s : State) (h : Covers K 0x203e1820500403ff0000000000000000000000000000000000000000000000000000000002080040000000fde0781c00000000021fe1050200000000000000000000005de824) : Kept K s (execCommitCompare d r difference cycles s) := kept_mono h (by
  simp only [execCommitCompare]
  repeat' (first | with_reducible rfl | decide | with_reducible refine kept_next.2 ?_ | (simp (disch := first | exact .inl rfl | exact .inr rfl | rfl | decide) only [mask_mk, ite_mask, ite_self, kept_next, State.addSat_mask, State.countTransient_mask, State.endSequence_mask, State.flag_mask, State.outputsInvalid_mask, State.publish_mask, State.runOut_mask]; done) | split | dsimp only))

@[simp] theorem execMismatchSelftestEnd_mask {K : Nat} (d : Nat) (r : SlotRef) (mainPass checkerPass : Bool) (s : State) (h : Covers K 0x203e1820500400d60000000000000000000000000000000000000000000000000000000002080040000000fde0781c00000000021fe1050200000000000000000000005de824) : Kept K s (execMismatchSelftestEnd d r mainPass checkerPass s) := kept_mono h (by
  simp only [execMismatchSelftestEnd]
  repeat' (first | with_reducible rfl | decide | with_reducible refine kept_next.2 ?_ | (simp (disch := first | exact .inl rfl | exact .inr rfl | rfl | decide) only [mask_mk, ite_mask, ite_self, kept_next, State.countPersistent_mask, State.endSequence_mask, State.outputsInvalid_mask, State.publish_mask, State.removeCore_mask, State.setPlaced_mask]; done) | split | dsimp only))

@[simp] theorem execShadowToOutputCopyEnd_mask {K : Nat} (d : Nat) (r : SlotRef) (s : State) (h : Covers K 0x203e1820500400d60000000000000000000000000000000000000000000000000000000002080040000000fde0781c00000000021fe1050200000000000000000000005de824) : Kept K s (execShadowToOutputCopyEnd d r s) := kept_mono h (by
  simp only [execShadowToOutputCopyEnd]
  repeat' (first | with_reducible rfl | decide | with_reducible refine kept_next.2 ?_ | (simp (disch := first | exact .inl rfl | exact .inr rfl | rfl | decide) only [mask_mk, ite_mask, ite_self, kept_next, State.countPersistent_mask, State.endSequence_mask, State.outputsInvalid_mask, State.publish_mask, State.removeCore_mask, State.stores_mask]; done) | split | dsimp only))

@[simp] theorem State.showStatus_mask {K : Nat} (s : State) (d : Nat) (r : SlotRef) (status : Nat) (h : Covers K 0x1f07c3e000000000000000000000000000000000000000000000) : (State.showStatus s d r status).mask K = s.mask K := mask_mono h (by
  cases r with
  | raster c => rfl
  | core c slot =>
    cases slot <;> simp only [State.showStatus, lastErrFld, flagFlds]
    all_goals repeat' (first | with_reducible rfl | (simp (disch := first | exact .inl rfl | exact .inr rfl | rfl | decide) only [List.foldl, ite_mask, State.flag_mask, State.setFld_mask, ite_self]; done) | split))

@[simp] theorem State.applyTable_mask {K : Nat} (s : State) (d : Nat) (p : Placed) (h : Covers K 0x186000000000000000000000000000000000000000000000000002020) : (State.applyTable s d p).mask K = s.mask K := mask_mono h (by
  simp only [State.applyTable]
  repeat' (first | with_reducible rfl | decide | (simp (disch := first | exact .inl rfl | exact .inr rfl | rfl | decide) only [mask_mk, ite_mask, ite_self, State.addSat_mask, State.flag_mask, State.kvCommit_mask]; done) | split | dsimp only))

@[simp] theorem State.present_mask {K : Nat} (s : State) (p : Placed) (h : Covers K 0x1000000) : (State.present s p).mask K = s.mask K := mask_mono h (by
  simp only [State.present]
  repeat' (first | with_reducible rfl | decide | (simp (disch := first | exact .inl rfl | exact .inr rfl | rfl | decide) only [mask_mk, ite_mask, ite_self, State.offer_mask]; done) | split | dsimp only))

@[simp] theorem State.goldenCheck_mask {K : Nat} (s : State) (id : Nat) (x2 : Sheaf) (h : Covers K 0x203e182000000000000000000000000000000000000000000000000000000000000000000000000000000000000000000000000000000402000000000000000000000010c800) : (State.goldenCheck s id x2).mask K = s.mask K := mask_mono h (by
  simp only [State.goldenCheck]
  repeat' (first | with_reducible rfl | decide | (simp (disch := first | exact .inl rfl | exact .inr rfl | rfl | decide) only [mask_mk, ite_mask, ite_self, State.raise_mask, State.source_mask]; done) | split | dsimp only))

@[simp] theorem State.finalCommit_mask {K : Nat} (s : State) (id : Nat) (x2 : Sheaf) (h : Covers K 0x203e18205004000000000000000000000000000000000000000000000000000000000000020800400010000000000000000000021fe10502000000000000000000000055e820) : (State.finalCommit s id x2).mask K = s.mask K := mask_mono h (by
  simp only [State.finalCommit]
  repeat' (first | with_reducible rfl | decide | (simp (disch := first | exact .inl rfl | exact .inr rfl | rfl | decide) only [mask_mk, ite_mask, ite_self, State.finish_mask, State.flag_mask, State.goldenCheck_mask, State.raise_mask]; done) | split | dsimp only))

@[simp] theorem State.commitBooks_mask {K : Nat} (s : State) (p : Placed) (signature : BitVec 128) (h : Covers K 0x203e18205004000000000000000000000000000000000000000000000000000000000000020800400010000000000000000000021fe10502000000000000000000000055e820) : (State.commitBooks s p signature).mask K = s.mask K := mask_mono h (by
  simp only [State.commitBooks]
  repeat' (first | with_reducible rfl | decide | (simp (disch := first | exact .inl rfl | exact .inr rfl | rfl | decide) only [mask_mk, ite_mask, ite_self, State.finalCommit_mask, State.finishIdle_mask, State.lateRecord_mask, State.setSheaf_mask]; done) | split | dsimp only))

@[simp] theorem State.overrun_mask {K : Nat} (s : State) (d : Nat) (p : Placed) (h : Covers K 0x40000000000000000000000000000000000000000000000000000000000) : (State.overrun s d p).mask K = s.mask K := mask_mono h (by
  simp only [State.overrun]
  repeat' (first | with_reducible rfl | decide | (simp (disch := first | exact .inl rfl | exact .inr rfl | rfl | decide) only [mask_mk, ite_mask, ite_self, State.addSat_mask]; done) | split | dsimp only))

@[simp] theorem execCommandCommit_mask {K : Nat} (d : Nat) (r : SlotRef) (s : State) (h : Covers K 0x203e1820500400000000000000000000000000000000000000000000000000000000000002080040041186fdff7fdfe0000000021fe1050200000000000000000000015de824) : Kept K s (execCommandCommit d r s) := kept_mono h (by
  simp only [execCommandCommit]
  repeat' (first | with_reducible rfl | decide | with_reducible refine kept_next.2 ?_ | (simp (disch := first | exact .inl rfl | exact .inr rfl | rfl | decide) only [mask_mk, ite_mask, ite_self, kept_next, State.applyTable_mask, State.commitBooks_mask, State.endSheaf_mask, State.freezeCheck_mask, State.lateRecord_mask, State.leaveBoth_mask, State.mirrorChange_mask, State.overrun_mask, State.present_mask, State.runOut_mask, State.showStatus_mask, State.stores_mask]; done) | split | dsimp only))

end Sys2Proof.Machine
end

