-- ==== Sys2Proof/Laws/KeepsEngineMsg.lean ====
section
/-!
SUPPORT. Laws/KeepsEngineMsg.lean: what each operation of Machine/EngineMsg.lean leaves alone: a mask (Laws/Mask.lean) that covers what the operation may write sees no
difference between the state before and the state after.
-/
set_option linter.unusedSimpArgs false
set_option linter.unusedVariables false

namespace Sys2Proof.Machine

@[simp] theorem execCopy_mask {K : Nat} (d core : Nat) (s : State) (h : Covers K 0x203e18200000000000000000000000000000000000000000000000000000000000000000000000000000007d80601800000000021fe104027fc000000000000000000014e824) : Kept K s (execCopy d core s) := kept_mono h (by
  simp only [execCopy]
  repeat' (first | with_reducible rfl | decide | with_reducible refine kept_next.2 ?_ | (simp (disch := first | exact .inl rfl | exact .inr rfl | rfl | decide) only [mask_mk, ite_mask, ite_self, kept_next, State.runRow_mask]; done) | split | dsimp only))

@[simp] theorem execNop_mask {K : Nat} (d core : Nat) (s : State) (h : Covers K 0x203e18200000000000000000000000000000000000000000000000000000000000000000000000000000007d80601800000000021fe104027fc000000000000000000014e824) : Kept K s (execNop d core s) := kept_mono h (by
  simp only [execNop]
  repeat' (first | with_reducible rfl | decide | with_reducible refine kept_next.2 ?_ | (simp (disch := first | exact .inl rfl | exact .inr rfl | rfl | decide) only [mask_mk, ite_mask, ite_self, kept_next, State.runRow_mask]; done) | split | dsimp only))

@[simp] theorem execSignal_mask {K : Nat} (d core : Nat) (s : State) (h : Covers K 0x203e18200000000000000000000000000000000000000000000000000000000000000000000000000000007d80601800000000021fe104027fc000000000000000000014e824) : Kept K s (execSignal d core s) := kept_mono h (by
  simp only [execSignal]
  repeat' (first | with_reducible rfl | decide | with_reducible refine kept_next.2 ?_ | (simp (disch := first | exact .inl rfl | exact .inr rfl | rfl | decide) only [mask_mk, ite_mask, ite_self, kept_next, State.runRow_mask]; done) | split | dsimp only))

@[simp] theorem State.coreQuery_mask {K : Nat} (s : State) (r : Req) (opcode d cl k : Nat) (image : State → Nat → List Byte) (h : Covers K 0x80000000000000000000000000000000001000000000000000000000000015804) : (State.coreQuery s r opcode d cl k image).mask K = s.mask K := mask_mono h (by
  simp only [State.coreQuery]
  repeat' (first | with_reducible rfl | decide | with_reducible refine (State.serve_mask _ _ _ _ _ ?_ (fun t => ?_)).trans ?_ | (simp (disch := first | exact .inl rfl | exact .inr rfl | rfl | decide) only [mask_mk, ite_mask, ite_self, ite_st, reply_st, later_st]; done) | split | dsimp only))

@[simp] theorem execTeQuery_mask {K : Nat} (r : Req) (d cl k : Nat) (s : State) (h : Covers K 0x80000000000000000000000000000000001000000000000000000000000015804) : Kept K s (execTeQuery r d cl k s) := kept_mono h (by
  simp only [execTeQuery]
  repeat' (first | with_reducible rfl | decide | with_reducible refine kept_next.2 ?_ | (simp (disch := first | exact .inl rfl | exact .inr rfl | rfl | decide) only [mask_mk, ite_mask, ite_self, kept_next, State.coreQuery_mask]; done) | split | dsimp only))

@[simp] theorem execVeQuery_mask {K : Nat} (r : Req) (d cl k : Nat) (s : State) (h : Covers K 0x80000000000000000000000000000000001000000000000000000000000015804) : Kept K s (execVeQuery r d cl k s) := kept_mono h (by
  simp only [execVeQuery]
  repeat' (first | with_reducible rfl | decide | with_reducible refine kept_next.2 ?_ | (simp (disch := first | exact .inl rfl | exact .inr rfl | rfl | decide) only [mask_mk, ite_mask, ite_self, kept_next, State.coreQuery_mask]; done) | split | dsimp only))

@[simp] theorem execXeQuery_mask {K : Nat} (r : Req) (d cl k : Nat) (s : State) (h : Covers K 0x80000000000000000000000000000000001000000000000000000000000015804) : Kept K s (execXeQuery r d cl k s) := kept_mono h (by
  simp only [execXeQuery]
  repeat' (first | with_reducible rfl | decide | with_reducible refine kept_next.2 ?_ | (simp (disch := first | exact .inl rfl | exact .inr rfl | rfl | decide) only [mask_mk, ite_mask, ite_self, kept_next, State.coreQuery_mask]; done) | split | dsimp only))

@[simp] theorem execWinQuery_mask {K : Nat} (r : Req) (d cl k : Nat) (s : State) (h : Covers K 0x80000000000000000000000000000000001000000000000000000000000015804) : Kept K s (execWinQuery r d cl k s) := kept_mono h (by
  simp only [execWinQuery]
  repeat' (first | with_reducible rfl | decide | with_reducible refine kept_next.2 ?_ | (simp (disch := first | exact .inl rfl | exact .inr rfl | rfl | decide) only [mask_mk, ite_mask, ite_self, kept_next, State.coreQuery_mask]; done) | split | dsimp only))

@[simp] theorem State.kvTake_mask {K : Nat} (s : State) (d k i n : Nat) (h : Covers K 0x10000000000000000000000000000000000000000000000000002000) : (State.kvTake s d k i n).mask K = s.mask K := mask_mono h (by
  simp only [State.kvTake]
  repeat' (first | with_reducible rfl | decide | (simp (disch := first | exact .inl rfl | exact .inr rfl | rfl | decide) only [mask_mk, ite_mask, ite_self, State.flag_mask]; done) | split | dsimp only))

@[simp] theorem State.kvMirror_mask {K : Nat} (s : State) (e : (Nat × Nat) × Nat × Nat) (h : Covers K 0x203e182050040000000000000000000000000000000000000000000000000000000000000008000000000000000000000000000000000502000000000000000000000051c800) : (State.kvMirror s e).mask K = s.mask K := mask_mono h (by
  simp only [State.kvMirror]
  repeat' (first | with_reducible rfl | decide | (simp (disch := first | exact .inl rfl | exact .inr rfl | rfl | decide) only [mask_mk, ite_mask, ite_self, State.mirrorChange_mask]; done) | split | dsimp only))

@[simp] theorem State.kvDrop_mask {K : Nat} (s : State) (e : (Nat × Nat) × Nat × Nat) (h : Covers K 0x203e182050040000000000000000000000000000000000000000000000000000000000000008000000000000000000000000000000000502000000000000000000000051e800) : (State.kvDrop s e).mask K = s.mask K := mask_mono h (by
  simp only [State.kvDrop]
  repeat' (first | with_reducible rfl | decide | (simp (disch := first | exact .inl rfl | exact .inr rfl | rfl | decide) only [mask_mk, ite_mask, ite_self, State.mirrorChange_mask]; done) | split | dsimp only))

@[simp] theorem execKvPoolCreate_mask {K : Nat} (r : Req) (handle : Word) (pages : Nat) (s : State) (h : Covers K 0x203e182050040000000000000000000000000000000000000000000000000000000000000008000000001000000000000000000000000502000000000000000000000051f824) : Kept K s (execKvPoolCreate r handle pages s) := kept_mono h (by
  simp only [execKvPoolCreate]
  repeat' (first | with_reducible rfl | decide | with_reducible refine kept_next.2 ?_ | with_reducible refine (State.serve_mask _ _ _ _ _ ?_ (fun t => ?_)).trans ?_ | (simp (disch := first | exact .inl rfl | exact .inr rfl | rfl | decide) only [mask_mk, ite_mask, ite_self, kept_next, ite_st, reply_st, later_st, State.kvMirror_mask, State.kvTake_mask, State.write_mask]; done) | split | dsimp only))

@[simp] theorem execKvPoolDestroy_mask {K : Nat} (r : Req) (pool : Word) (s : State) (h : Covers K 0x203e182050040000000000000000000000000000000000000000000000000000000000000008000000000000000000000000000000000502000000000000000000000051f804) : Kept K s (execKvPoolDestroy r pool s) := kept_mono h (by
  simp only [execKvPoolDestroy]
  repeat' (first | with_reducible rfl | decide | with_reducible refine kept_next.2 ?_ | with_reducible refine (State.serve_mask _ _ _ _ _ ?_ (fun t => ?_)).trans ?_ | (simp (disch := first | exact .inl rfl | exact .inr rfl | rfl | decide) only [mask_mk, ite_mask, ite_self, kept_next, ite_st, reply_st, later_st, State.kvDrop_mask]; done) | split | dsimp only))

@[simp] theorem execKvSeqCreate_mask {K : Nat} (r : Req) (c : KvSeqCfg) (s : State) (h : Covers K 0x203e182050040000000000000000000000000000000000000000000000000000000000000008000000001000000000000000000000000502000000000000000000000051f824) : Kept K s (execKvSeqCreate r c s) := kept_mono h (by
  simp only [execKvSeqCreate]
  repeat' (first | with_reducible rfl | decide | with_reducible refine kept_next.2 ?_ | with_reducible refine (State.serve_mask _ _ _ _ _ ?_ (fun t => ?_)).trans ?_ | (simp (disch := first | exact .inl rfl | exact .inr rfl | rfl | decide) only [mask_mk, ite_mask, ite_self, kept_next, ite_st, reply_st, later_st, State.kvMirror_mask, State.kvTake_mask, State.write_mask]; done) | split | dsimp only))

theorem State.onSeq_mask {K : Nat} (s : State) (r : Req) (opcode : Nat) (seq : Word) (act : State → (Nat × Nat) × Nat × Nat → KvSeq → Reply) (h : Covers K 0x80000000000000000000000000000000001000000000000000000000000015804) (he : ∀ t y1 y2, (act t y1 y2).st.mask K = t.mask K) : (State.onSeq s r opcode seq act).mask K = s.mask K := by
  have hb : ∀ i, Nat.testBit 0x80000000000000000000000000000000001000000000000000000000000015804 i = true → K.testBit i = true := fun i => testBit_of_land h
  have hl : ∀ j, Covers 0x80000000000000000000000000000000001000000000000000000000000015804 j → Covers K j := fun j hj => land_trans h hj
  simp only [State.onSeq]
  repeat' (first | with_reducible rfl | exact hl _ (by decide) | with_reducible refine (State.serve_mask _ _ _ _ _ ?_ (fun t => ?_)).trans ?_ | (simp (disch := first | exact .inl (hb _ rfl) | exact .inr rfl | exact hl _ (by decide) | exact hb _ (by decide) | assumption | rfl) only [mask_mk, ite_mask, ite_self, ite_st, reply_st, later_st, he]; done) | split | dsimp only)

@[simp] theorem execKvSeqDestroy_mask {K : Nat} (r : Req) (seq : Word) (s : State) (h : Covers K 0x203e182050040000000000000000000000000000000000000000000000000000000000000008000000000200000000000000000000000502000000000000000000000051f824) : Kept K s (execKvSeqDestroy r seq s) := kept_mono h (by
  simp only [execKvSeqDestroy]
  repeat' (first | with_reducible rfl | decide | with_reducible refine kept_next.2 ?_ | with_reducible refine (State.onSeq_mask _ _ _ _ _ ?_ (fun t y1 y2 => ?_)).trans ?_ | (simp (disch := first | exact .inl rfl | exact .inr rfl | rfl | decide) only [mask_mk, ite_mask, ite_self, kept_next, ite_st, reply_st, later_st, State.kvCommit_mask, State.kvDrop_mask]; done) | split | dsimp only))

@[simp] theorem execKvSeqQuery_mask {K : Nat} (r : Req) (seq : Word) (s : State) (h : Covers K 0x80000000000000000000000000000000001000000000000000000000000015804) : Kept K s (execKvSeqQuery r seq s) := kept_mono h (by
  simp only [execKvSeqQuery]
  repeat' (first | with_reducible rfl | decide | with_reducible refine kept_next.2 ?_ | with_reducible refine (State.onSeq_mask _ _ _ _ _ ?_ (fun t y1 y2 => ?_)).trans ?_ | (simp (disch := first | exact .inl rfl | exact .inr rfl | rfl | decide) only [mask_mk, ite_mask, ite_self, kept_next, ite_st, reply_st, later_st]; done) | split | dsimp only))

@[simp] theorem execKvSeqSet_mask {K : Nat} (r : Req) (seq : Word) (budget recent reserve decay : Nat) (evict : Bool) (s : State) (h : Covers K 0x203e182050040000000000000000000000000000000000000000000000000000000000000008000000000200000000000000000000000502000000000000000000000051f824) : Kept K s (execKvSeqSet r seq budget recent reserve decay evict s) := kept_mono h (by
  simp only [execKvSeqSet]
  repeat' (first | with_reducible rfl | decide | with_reducible refine kept_next.2 ?_ | with_reducible refine (State.onSeq_mask _ _ _ _ _ ?_ (fun t y1 y2 => ?_)).trans ?_ | (simp (disch := first | exact .inl rfl | exact .inr rfl | rfl | decide) only [mask_mk, ite_mask, ite_self, kept_next, ite_st, reply_st, later_st, State.kvCommit_mask, State.kvMirror_mask]; done) | split | dsimp only))

end Sys2Proof.Machine
end

