-- ==== Sys2Proof/Laws/KeepsEth.lean ====
section
/-!
SUPPORT. Laws/KeepsEth.lean: what each operation of Machine/Eth.lean leaves alone: a mask (Laws/Mask.lean) that covers what the operation may write sees no
difference between the state before and the state after.
-/
set_option linter.unusedSimpArgs false
set_option linter.unusedVariables false

namespace Sys2Proof.Machine

@[simp] theorem State.setPort_mask {K : Nat} (s : State) (d i : Nat) (p : EthPort) (h : Covers K 0x40000000) : (State.setPort s d i p).mask K = s.mask K := mask_mono h (by
  simp only [State.setPort]
  repeat' (first | with_reducible rfl | decide | (simp (disch := first | exact .inl rfl | exact .inr rfl | rfl | decide) only [mask_mk, ite_mask, ite_self]; done) | split | dsimp only))

@[simp] theorem State.dropFrame_mask {K : Nat} (s : State) (d i cls : Nat) (h : Covers K 0x40000000) : (State.dropFrame s d i cls).mask K = s.mask K := mask_mono h (by
  simp only [State.dropFrame]
  repeat' (first | with_reducible rfl | decide | (simp (disch := first | exact .inl rfl | exact .inr rfl | rfl | decide) only [mask_mk, ite_mask, ite_self, State.setPort_mask]; done) | split | dsimp only))

@[simp] theorem State.egress_mask {K : Nat} (s : State) (d i : Nat) (f : EthOut) (h : Covers K 0x40000000) : (State.egress s d i f).2.mask K = s.mask K := mask_mono h (by
  simp only [State.egress]
  repeat' (first | with_reducible rfl | decide | (simp (disch := first | exact .inl rfl | exact .inr rfl | rfl | decide) only [mask_mk, ite_mask, ite_self, State.dropFrame_mask, State.setPort_mask]; done) | split | dsimp only))

@[simp] theorem State.ringStep_mask {K : Nat} (s : State) (d ring : Nat) (tx : Bool) (h : Covers K 0x40000000) : (State.ringStep s d ring tx).mask K = s.mask K := mask_mono h (by
  simp only [State.ringStep]
  repeat' (first | with_reducible rfl | decide | (simp (disch := first | exact .inl rfl | exact .inr rfl | rfl | decide) only [mask_mk, ite_mask, ite_self]; done) | split | dsimp only))

@[simp] theorem State.portReach_mask {K : Nat} (s : State) (d a n : Nat) (write : Bool) (h : Covers K 0x203e18200000000000000000000000000000000000000000000000000000000000000000000000000000000000000000000000021fe104027fc000000000000000000010e800) : (State.portReach s d a n write).2.mask K = s.mask K := mask_mono h (by
  simp only [State.portReach]
  repeat' (first | with_reducible rfl | decide | (simp (disch := first | exact .inl rfl | exact .inr rfl | rfl | decide) only [mask_mk, ite_mask, ite_self, State.fabLog_mask, State.readUe_mask, State.wake_mask]; done) | split | dsimp only))

@[simp] theorem State.toRing_mask {K : Nat} (s : State) (d ring ingress cls : Nat) (bs : List Byte) (trapped : Bool) (stamp : Option (Nat × Nat)) (h : Covers K 0x203e18200000000000000000000000000000000000000000000000000000000000000000000000000000000000000000000000021fe104027fc000000000000000004010e820) : (State.toRing s d ring ingress cls bs trapped stamp).mask K = s.mask K := mask_mono h (by
  simp only [State.toRing]
  repeat' (first | with_reducible rfl | decide | (simp (disch := first | exact .inl rfl | exact .inr rfl | rfl | decide) only [mask_mk, ite_mask, ite_self, State.dropFrame_mask, State.portReach_mask, State.ringStep_mask, State.store_mask]; done) | split | dsimp only))

@[simp] theorem State.toPort_mask {K : Nat} (from_ ingress : Nat) (f : EthOut) (stamp : Option (Nat × Nat)) (s : State) (n : Nat) (h : Covers K 0x203e18200000000000000000000000000000000000000000000000000000000000000000000000000000000000000000000000021fe104027fc000000000000000004010e820) : (State.toPort from_ ingress f stamp s n).mask K = s.mask K := mask_mono h (by
  simp only [State.toPort]
  repeat' (first | with_reducible rfl | decide | (simp (disch := first | exact .inl rfl | exact .inr rfl | rfl | decide) only [mask_mk, ite_mask, ite_self, State.dropFrame_mask, State.egress_mask, State.toRing_mask]; done) | split | dsimp only))

@[simp] theorem State.learn_mask {K : Nat} (s : State) (ingress : Nat) (bs : List Byte) (h : Covers K 0x40000000) : (State.learn s ingress bs).mask K = s.mask K := mask_mono h (by
  simp only [State.learn]
  repeat' (first | with_reducible rfl | decide | (simp (disch := first | exact .inl rfl | exact .inr rfl | rfl | decide) only [mask_mk, ite_mask, ite_self]; done) | split | dsimp only))

@[simp] theorem State.streamWork_mask {K : Nat} (s : State) (t : TsnStream) (bs : List Byte) (h : Covers K 0x40000004) : (State.streamWork s t bs).2.mask K = s.mask K := mask_mono h (by
  simp only [State.streamWork]
  repeat' (first | with_reducible rfl | decide | (simp (disch := first | exact .inl rfl | exact .inr rfl | rfl | decide) only [mask_mk, ite_mask, ite_self, State.fresh_mask]; done) | split | dsimp only))

@[simp] theorem State.forward_mask {K : Nat} (s : State) (d ingress : Nat) (bs : List Byte) (ports : List Nat) (cls : Nat) (oneStep : Bool) (stamp desc : Option (Nat × Nat)) (h : Covers K 0x203e18200000000000000000000000000000000000000000000000000000000000000000000000000000000000000000000000021fe104027fc000000000000000004010e824) : (State.forward s d ingress bs ports cls oneStep stamp desc).mask K = s.mask K := mask_mono h (by
  simp only [State.forward]
  split
  · exact mask_foldl _ (fun t e => State.toPort_mask _ _ _ _ _ _ (by decide)) _ _
  · rename_i e _
    have h2 := State.streamWork_mask (K := 0x203e18200000000000000000000000000000000000000000000000000000000000000000000000000000000000000000000000021fe104027fc000000000000000004010e824) s e.2 bs (by decide)
    split
    · rename_i hq
      rw [hq] at h2
      exact (State.dropFrame_mask _ _ _ _ (by decide)).trans h2
    · rename_i hq
      rw [hq] at h2
      exact (mask_foldl _ (fun t e => State.toPort_mask _ _ _ _ _ _ (by decide)) _ _).trans h2)

@[simp] theorem execEthFrameRx_mask {K : Nat} (d i : Nat) (frame : List Byte) (fcsOk : Bool) (s : State) (h : Covers K 0x203e18200000000000000000000000000000000000000000000000000000000000000000000000000000000000000000000000021fe104027fc000000000000000004010e824) : Kept K s (execEthFrameRx d i frame fcsOk s) := kept_mono h (by
  simp only [execEthFrameRx]
  repeat' (first | with_reducible rfl | decide | with_reducible refine kept_next.2 ?_ | with_reducible refine (mask_foldl _ (fun t e => ?_) _ _).trans ?_ | (simp (disch := first | exact .inl rfl | exact .inr rfl | rfl | decide) only [mask_mk, ite_mask, ite_self, kept_next, State.dropFrame_mask, State.forward_mask, State.learn_mask, State.setPort_mask, State.toRing_mask]; done) | split | dsimp only | simp (disch := first | exact .inl rfl | exact .inr rfl | rfl | decide) only [mask_mk, ite_mask, ite_self, kept_next, State.dropFrame_mask, State.forward_mask, State.learn_mask, State.setPort_mask, State.toRing_mask]))

@[simp] theorem State.safetyEgress_mask {K : Nat} (s : State) (handle : Option Nat) (bs : List Byte) (h : Covers K 0x100000) : (State.safetyEgress s handle bs).2.mask K = s.mask K := mask_mono h (by
  simp only [State.safetyEgress]
  repeat' (first | with_reducible rfl | decide | (simp (disch := first | exact .inl rfl | exact .inr rfl | rfl | decide) only [mask_mk, ite_mask, ite_self]; done) | split | dsimp only))

@[simp] theorem State.doneDesc_mask {K : Nat} (s : State) (d a status : Nat) (stamp : Option (Nat × Nat)) (h : Covers K 0x203e18200000000000000000000000000000000000000000000000000000000000000000000000000000000000000000000000021fe10402000000000000000000000010e820) : (State.doneDesc s d a status stamp).mask K = s.mask K := mask_mono h (by
  simp only [State.doneDesc]
  repeat' (first | with_reducible rfl | decide | (simp (disch := first | exact .inl rfl | exact .inr rfl | rfl | decide) only [mask_mk, ite_mask, ite_self, State.store_mask]; done) | split | dsimp only))

@[simp] theorem State.dropDesc_mask {K : Nat} (s : State) (x : Nat × Nat) (h : Covers K 0x40000000) : (State.dropDesc s x).mask K = s.mask K := mask_mono h (by
  simp only [State.dropDesc]
  repeat' (first | with_reducible rfl | decide | (simp (disch := first | exact .inl rfl | exact .inr rfl | rfl | decide) only [mask_mk, ite_mask, ite_self]; done) | split | dsimp only))

@[simp] theorem execEthFrameTx_mask {K : Nat} (d i : Nat) (s : State) (h : Covers K 0x203e18200000000000000000000000000000000000000000000000000000000000000000000000000000000000000000000000021fe10402000000000000000000004011e820) : Kept K s (execEthFrameTx d i s) := kept_mono h (by
  simp only [execEthFrameTx]
  repeat' (first | with_reducible rfl | decide | with_reducible refine kept_next.2 ?_ | (simp (disch := first | exact .inl rfl | exact .inr rfl | rfl | decide) only [mask_mk, ite_mask, ite_self, kept_next, State.doneDesc_mask, State.dropDesc_mask, State.safetyEgress_mask, State.send_mask, State.setPort_mask]; done) | split | dsimp only))

@[simp] theorem execGclEntryEnd_mask {K : Nat} (d i : Nat) (s : State) (h : Covers K 0x40000000) : Kept K s (execGclEntryEnd d i s) := kept_mono h (by
  simp only [execGclEntryEnd]
  repeat' (first | with_reducible rfl | decide | with_reducible refine kept_next.2 ?_ | (simp (disch := first | exact .inl rfl | exact .inr rfl | rfl | decide) only [mask_mk, ite_mask, ite_self, kept_next, State.setPort_mask]; done) | split | dsimp only))

@[simp] theorem execCpuTxDescriptor_mask {K : Nat} (d ring : Nat) (s : State) (h : Covers K 0x203e18200000000000000000000000000000000000000000000000000000000000000000000000000000000000000000000000021fe104027fc000000000000000004010e824) : Kept K s (execCpuTxDescriptor d ring s) := kept_mono h (by
  simp only [execCpuTxDescriptor]
  repeat' (first | with_reducible rfl | decide | with_reducible refine kept_next.2 ?_ | (simp (disch := first | exact .inl rfl | exact .inr rfl | rfl | decide) only [mask_mk, ite_mask, ite_self, kept_next, State.doneDesc_mask, State.forward_mask, State.portReach_mask, State.ringStep_mask]; done) | split | dsimp only))

@[simp] theorem execFdbEntryAgeing_mask {K : Nat} (mac vlan : Nat) (s : State) (h : Covers K 0x40000000) : Kept K s (execFdbEntryAgeing mac vlan s) := kept_mono h (by
  simp only [execFdbEntryAgeing]
  repeat' (first | with_reducible rfl | decide | with_reducible refine kept_next.2 ?_ | (simp (disch := first | exact .inl rfl | exact .inr rfl | rfl | decide) only [mask_mk, ite_mask, ite_self, kept_next]; done) | split | dsimp only))

@[simp] theorem execEthLinkChange_mask {K : Nat} (d i : Nat) (up : Bool) (speed : Nat) (s : State) (h : Covers K 0xc0000000000000000000000000000000000000000000000000000000000000000000000000000000004020000000000000000000000004800) : Kept K s (execEthLinkChange d i up speed s) := kept_mono h (by
  simp only [execEthLinkChange]
  repeat' (first | with_reducible rfl | decide | with_reducible refine kept_next.2 ?_ | (simp (disch := first | exact .inl rfl | exact .inr rfl | rfl | decide) only [mask_mk, ite_mask, ite_self, kept_next, State.setFlds_nil_mask, State.setFlds_cons_mask, State.setFld_mask, State.raise_mask]; done) | split | dsimp only))

@[simp] theorem State.portCut_mask {K : Nat} (s : State) (d i : Nat) (h : Covers K 0x40000000) : (State.portCut s d i).mask K = s.mask K := mask_mono h (by
  simp only [State.portCut]
  repeat' (first | with_reducible rfl | decide | (simp (disch := first | exact .inl rfl | exact .inr rfl | rfl | decide) only [mask_mk, ite_mask, ite_self, State.dropFrame_mask, State.setPort_mask]; done) | split | dsimp only))

@[simp] theorem wrEthCfg_mask {K : Nat} (m : Master) (d i data : Nat) (s : State) (h : Covers K 0x3c000000000000000000000000000000000000000000000000000000000000000000000000000000000000000000000000000000040000000) : (wrEthCfg m d i data s).mask K = s.mask K := mask_mono h (by
  simp only [wrEthCfg]
  repeat' (first | with_reducible rfl | decide | (simp (disch := first | exact .inl rfl | exact .inr rfl | rfl | decide) only [mask_mk, ite_mask, ite_self, State.setFlds_nil_mask, State.setFlds_cons_mask, State.setFld_mask, State.portCut_mask]; done) | split | dsimp only))

@[simp] theorem wrEthLat_mask {K : Nat} (m : Master) (d i data : Nat) (s : State) (h : Covers K 0x300000000000000000000000000000000000000000000000000000000000000000000000000000000000000000000000000000000040000000) : (wrEthLat m d i data s).mask K = s.mask K := mask_mono h (by
  simp only [wrEthLat]
  repeat' (first | with_reducible rfl | decide | (simp (disch := first | exact .inl rfl | exact .inr rfl | rfl | decide) only [mask_mk, ite_mask, ite_self, State.setFlds_nil_mask, State.setFlds_cons_mask, State.setFld_mask, State.portCut_mask]; done) | split | dsimp only))

@[simp] theorem execEthPortSet_mask {K : Nat} (r : Req) (d i speed fec an latIn latOut : Nat) (s : State) (h : Covers K 0x33c000000000000000000000000000000000000000000000080000000000000000000000000000000001000000000000000000000040015804) : Kept K s (execEthPortSet r d i speed fec an latIn latOut s) := kept_mono h (by
  simp only [execEthPortSet]
  repeat' (first | with_reducible rfl | decide | with_reducible refine kept_next.2 ?_ | with_reducible refine (State.serve_mask _ _ _ _ _ ?_ (fun t => ?_)).trans ?_ | (simp (disch := first | exact .inl rfl | exact .inr rfl | rfl | decide) only [mask_mk, ite_mask, ite_self, kept_next, ite_st, reply_st, later_st, State.setFlds_nil_mask, State.setFlds_cons_mask, State.setFld_mask, State.portCut_mask]; done) | split | dsimp only))

@[simp] theorem execEthPortQuery_mask {K : Nat} (r : Req) (d i : Nat) (s : State) (h : Covers K 0x80000000000000000000000000000000001000000000000000000000000015804) : Kept K s (execEthPortQuery r d i s) := kept_mono h (by
  simp only [execEthPortQuery]
  repeat' (first | with_reducible rfl | decide | with_reducible refine kept_next.2 ?_ | with_reducible refine (mask_foldl _ (fun t e => ?_) _ _).trans ?_ | with_reducible refine (State.serve_mask _ _ _ _ _ ?_ (fun t => ?_)).trans ?_ | (simp (disch := first | exact .inl rfl | exact .inr rfl | rfl | decide) only [mask_mk, ite_mask, ite_self, kept_next, ite_st, reply_st, later_st]; done) | split | dsimp only))

@[simp] theorem execTsnGclSet_mask {K : Nat} (r : Req) (port tb flags cycle base : Nat) (entries : List (Nat × Nat)) (s : State) (h : Covers K 0x80000000000000000000000000000000001000000000000000000000040015804) : Kept K s (execTsnGclSet r port tb flags cycle base entries s) := kept_mono h (by
  simp only [execTsnGclSet]
  repeat' (first | with_reducible rfl | decide | with_reducible refine kept_next.2 ?_ | with_reducible refine (State.serve_mask _ _ _ _ _ ?_ (fun t => ?_)).trans ?_ | (simp (disch := first | exact .inl rfl | exact .inr rfl | rfl | decide) only [mask_mk, ite_mask, ite_self, kept_next, ite_st, reply_st, later_st, State.setPort_mask]; done) | split | dsimp only))

@[simp] theorem execTsnStreamSet_mask {K : Nat} (r : Req) (e : TsnStream) (s : State) (h : Covers K 0x80000000000000000000000000000000001000000000000000000000040015804) : Kept K s (execTsnStreamSet r e s) := kept_mono h (by
  simp only [execTsnStreamSet]
  repeat' (first | with_reducible rfl | decide | with_reducible refine kept_next.2 ?_ | with_reducible refine (State.serve_mask _ _ _ _ _ ?_ (fun t => ?_)).trans ?_ | (simp (disch := first | exact .inl rfl | exact .inr rfl | rfl | decide) only [mask_mk, ite_mask, ite_self, kept_next, ite_st, reply_st, later_st]; done) | split | dsimp only))

@[simp] theorem execPtpDomainSet_mask {K : Nat} (r : Req) (entry number tb en : Nat) (s : State) (h : Covers K 0x80000000000000000000000000000000001000000000000000000000040015804) : Kept K s (execPtpDomainSet r entry number tb en s) := kept_mono h (by
  simp only [execPtpDomainSet]
  repeat' (first | with_reducible rfl | decide | with_reducible refine kept_next.2 ?_ | with_reducible refine (State.serve_mask _ _ _ _ _ ?_ (fun t => ?_)).trans ?_ | (simp (disch := first | exact .inl rfl | exact .inr rfl | rfl | decide) only [mask_mk, ite_mask, ite_self, kept_next, ite_st, reply_st, later_st]; done) | split | dsimp only))

@[simp] theorem execEthTrapSet_mask {K : Nat} (r : Req) (d entry ring mode ethertype mac maskBits : Nat) (s : State) (h : Covers K 0x80000000000000000000000000000000001000000000000000000000040015804) : Kept K s (execEthTrapSet r d entry ring mode ethertype mac maskBits s) := kept_mono h (by
  simp only [execEthTrapSet]
  repeat' (first | with_reducible rfl | decide | with_reducible refine kept_next.2 ?_ | with_reducible refine (State.serve_mask _ _ _ _ _ ?_ (fun t => ?_)).trans ?_ | (simp (disch := first | exact .inl rfl | exact .inr rfl | rfl | decide) only [mask_mk, ite_mask, ite_self, kept_next, ite_st, reply_st, later_st]; done) | split | dsimp only))

@[simp] theorem State.sendSafety_mask {K : Nat} (s : State) (h : Covers K 0x203e18200000000000000000000000000000000000000000000000000000000000000000000000000000000000000000000000021fe104027fc000000000000000004010e820) : (State.sendSafety s).mask K = s.mask K := mask_mono h (by
  simp only [State.sendSafety]
  repeat' (first | with_reducible rfl | decide | with_reducible refine (mask_foldl _ (fun t e => ?_) _ _).trans ?_ | (simp (disch := first | exact .inl rfl | exact .inr rfl | rfl | decide) only [mask_mk, ite_mask, ite_self, State.toPort_mask]; done) | split | dsimp only))

@[simp] theorem execSecConfirm_mask {K : Nat} (s : State) (h : Covers K 0x203e19200000000000000000000000000000000000000000000000000000000000000000000000000000000000000000000000021fe104027fc000000000000000004010e820) : Kept K s (execSecConfirm s) := kept_mono h (by
  simp only [execSecConfirm]
  repeat' (first | with_reducible rfl | decide | with_reducible refine kept_next.2 ?_ | (simp (disch := first | exact .inl rfl | exact .inr rfl | rfl | decide) only [mask_mk, ite_mask, ite_self, kept_next, State.sendSafety_mask, State.setFld_mask]; done) | split | dsimp only))

end Sys2Proof.Machine
end

