-- ==== Sys2Proof/Laws/KeepsMail.lean ====
section
/-!
SUPPORT. Laws/KeepsMail.lean: what each operation of Machine/Mail.lean leaves alone: a mask (Laws/Mask.lean) that covers what the operation may write sees no
difference between the state before and the state after.
-/
set_option linter.unusedSimpArgs false
set_option linter.unusedVariables false

namespace Sys2Proof.Machine

@[simp] theorem State.ring_mask {K : Nat} (s : State) (dom : Dom) (tail : Nat) (h : Covers K 0x800) : (State.ring s dom tail).mask K = s.mask K := mask_mono h (by
  simp only [State.ring]
  repeat' (first | with_reducible rfl | decide | (simp (disch := first | exact .inl rfl | exact .inr rfl | rfl | decide) only [mask_mk, ite_mask, ite_self]; done) | split | dsimp only))

@[simp] theorem wrReqTail_mask {K : Nat} (dom : Dom) (data : Nat) (s : State) (h : Covers K 0x440000000000000000000000000800) : (wrReqTail dom data s).mask K = s.mask K := mask_mono h (by
  simp only [wrReqTail]
  repeat' (first | with_reducible rfl | decide | (simp (disch := first | exact .inl rfl | exact .inr rfl | rfl | decide) only [mask_mk, ite_mask, ite_self, State.ring_mask, State.setMb_mask]; done) | split | dsimp only))

@[simp] theorem State.fillRing_mask {K : Nat} (s : State) (m : Master) (dom : Dom) (units : List Byte) (h : Covers K 0x203e18200000000000000000000000000000000000000000000000000000000000000000000000000000000000000000000000021fe10402000000000000000000000010e820) : (State.fillRing s m dom units).mask K = s.mask K := mask_mono h (by
  simp only [State.fillRing]
  repeat' (first | with_reducible rfl | decide | (simp (disch := first | exact .inl rfl | exact .inr rfl | rfl | decide) only [mask_mk, ite_mask, ite_self, State.stores_mask]; done) | split | dsimp only))

@[simp] theorem wrRspHead_mask {K : Nat} (dom : Dom) (data : Nat) (s : State) (h : Covers K 0x2040000000000000000000000000800) : (wrRspHead dom data s).mask K = s.mask K := mask_mono h (by
  simp only [wrRspHead]
  repeat' (first | with_reducible rfl | decide | (simp (disch := first | exact .inl rfl | exact .inr rfl | rfl | decide) only [mask_mk, ite_mask, ite_self, State.setBox_mask, State.setMb_mask]; done) | split | dsimp only))

@[simp] theorem State.setNotify_mask {K : Nat} (s : State) (dom : Dom) (en v : Nat) (h : Covers K 0x60040000000000000000000000000000) : (State.setNotify s dom en v).mask K = s.mask K := mask_mono h (by
  simp only [State.setNotify]
  repeat' (first | with_reducible rfl | decide | (simp (disch := first | exact .inl rfl | exact .inr rfl | rfl | decide) only [mask_mk, ite_mask, ite_self, State.setMb_mask]; done) | split | dsimp only))

@[simp] theorem wrNotify_mask {K : Nat} (dom : Dom) (data : Nat) (s : State) (h : Covers K 0x60040000000000000000000000000000) : (wrNotify dom data s).mask K = s.mask K := mask_mono h (by
  simp only [wrNotify]
  repeat' (first | with_reducible rfl | decide | (simp (disch := first | exact .inl rfl | exact .inr rfl | rfl | decide) only [mask_mk, ite_mask, ite_self, State.setNotify_mask]; done) | split | dsimp only))

theorem State.pageWrite_mask {K : Nat} (s : State) (m : Master) (dom : Dom) (off : Nat) (data : Word) (eff : State → State) (h : Covers K 0x7fc0000000000000000000000088) (he : ∀ t, (eff t).mask K = t.mask K) : (State.pageWrite s m dom off data eff).mask K = s.mask K := by
  have hb : ∀ i, Nat.testBit 0x7fc0000000000000000000000088 i = true → K.testBit i = true := fun i => testBit_of_land h
  have hl : ∀ j, Covers 0x7fc0000000000000000000000088 j → Covers K j := fun j hj => land_trans h hj
  simp only [State.pageWrite]
  repeat' (first | with_reducible rfl | exact hl _ (by decide) | with_reducible refine (State.regWrite_mask _ _ _ _ _ _ _ ?_ (fun t => ?_)).trans ?_ | (simp (disch := first | exact .inl (hb _ rfl) | exact .inr rfl | exact hl _ (by decide) | exact hb _ (by decide) | assumption | rfl) only [mask_mk, ite_mask, ite_self, he]; done) | split | dsimp only)

@[simp] theorem execMbReqTailWrite_mask {K : Nat} (m : Master) (dom : Dom) (data : Word) (units : List Byte) (s : State) (h : Covers K 0x203e18200000000000000000000000000000000000000000000000000000000000000000000000000000000000000000000000021fe104467fc000000000000000000010e8a8) : Kept K s (execMbReqTailWrite m dom data units s) := kept_mono h (by
  simp only [execMbReqTailWrite]
  repeat' (first | with_reducible rfl | decide | with_reducible refine kept_next.2 ?_ | with_reducible refine (State.pageWrite_mask _ _ _ _ _ _ ?_ (fun t => ?_)).trans ?_ | (simp (disch := first | exact .inl rfl | exact .inr rfl | rfl | decide) only [mask_mk, ite_mask, ite_self, kept_next, State.fillRing_mask, wrReqTail_mask]; done) | split | dsimp only))

@[simp] theorem execMbRspHeadWrite_mask {K : Nat} (m : Master) (dom : Dom) (data : Word) (s : State) (h : Covers K 0x2047fc0000000000000000000000888) : Kept K s (execMbRspHeadWrite m dom data s) := kept_mono h (by
  simp only [execMbRspHeadWrite]
  repeat' (first | with_reducible rfl | decide | with_reducible refine kept_next.2 ?_ | with_reducible refine (State.pageWrite_mask _ _ _ _ _ _ ?_ (fun t => ?_)).trans ?_ | (simp (disch := first | exact .inl rfl | exact .inr rfl | rfl | decide) only [mask_mk, ite_mask, ite_self, kept_next, wrRspHead_mask]; done) | split | dsimp only))

@[simp] theorem execMbNotifyWrite_mask {K : Nat} (m : Master) (dom : Dom) (data : Word) (s : State) (h : Covers K 0x60047fc0000000000000000000000088) : Kept K s (execMbNotifyWrite m dom data s) := kept_mono h (by
  simp only [execMbNotifyWrite]
  repeat' (first | with_reducible rfl | decide | with_reducible refine kept_next.2 ?_ | with_reducible refine (State.pageWrite_mask _ _ _ _ _ _ ?_ (fun t => ?_)).trans ?_ | (simp (disch := first | exact .inl rfl | exact .inr rfl | rfl | decide) only [mask_mk, ite_mask, ite_self, kept_next, wrNotify_mask]; done) | split | dsimp only))

@[simp] theorem State.takeUnits_mask {K : Nat} (s : State) (dom : Dom) (n : Nat) (h : Covers K 0x800000000000000000000000000000) : (State.takeUnits s dom n).mask K = s.mask K := mask_mono h (by
  simp only [State.takeUnits]
  repeat' (first | with_reducible rfl | decide | (simp (disch := first | exact .inl rfl | exact .inr rfl | rfl | decide) only [mask_mk, ite_mask, ite_self, State.setMb_mask]; done) | split | dsimp only))

@[simp] theorem State.ringUe_mask {K : Nat} (s : State) (dom : Dom) (k : Nat) (h : Covers K 0x203e18200000000000000000000000000000000000000000000000000000000000000000000000000000000000000000000000021fe10402000000000000000000000010e804) : (State.ringUe s dom k).mask K = s.mask K := mask_mono h (by
  simp only [State.ringUe]
  repeat' (first | with_reducible rfl | decide | (simp (disch := first | exact .inl rfl | exact .inr rfl | rfl | decide) only [mask_mk, ite_mask, ite_self, State.fresh_mask, State.poison_mask, State.readUe_mask]; done) | split | dsimp only))

@[simp] theorem State.badUnits_mask {K : Nat} (s : State) (dom : Dom) (n : Nat) (ue : Bool) (h : Covers K 0x4) : (State.badUnits s dom n ue).2.mask K = s.mask K := mask_mono h (by
  simp only [State.badUnits]
  repeat' (first | with_reducible rfl | decide | (simp (disch := first | exact .inl rfl | exact .inr rfl | rfl | decide) only [mask_mk, ite_mask, ite_self, State.fresh_mask]; done) | split | dsimp only))

@[simp] theorem execRequestStart_mask {K : Nat} (dom : Dom) (headerUe payloadUe : Bool) (s : State) (h : Covers K 0x203e18200000000000000000000000000000000000000000000000000000000000000000000800000000000000000000000000021fe10586000000000000000000000011e804) : Kept K s (execRequestStart dom headerUe payloadUe s) := kept_mono h (by
  simp only [execRequestStart]
  repeat' (first | with_reducible rfl | decide | with_reducible refine kept_next.2 ?_ | with_reducible refine (mask_foldl _ (fun t e => ?_) _ _).trans ?_ | (simp (disch := first | exact .inl rfl | exact .inr rfl | rfl | decide) only [mask_mk, ite_mask, ite_self, kept_next, State.badUnits_mask, State.respond_mask, State.ringUe_mask, State.setBox_mask, State.setMb_mask, State.takeUnits_mask]; done) | split | dsimp only | simp (disch := first | exact .inl rfl | exact .inr rfl | rfl | decide) only [mask_mk, ite_mask, ite_self, kept_next, State.badUnits_mask, State.respond_mask, State.ringUe_mask, State.setBox_mask, State.setMb_mask, State.takeUnits_mask]))

@[simp] theorem State.respondAs_mask {K : Nat} (s : State) (r : Req) (opcode session major minor : Nat) (st : Status) (p : List Byte) (h : Covers K 0x80000000000000000000000000000000001000000000000000000000000014800) : (State.respondAs s r opcode session major minor st p).mask K = s.mask K := mask_mono h (by
  simp only [State.respondAs]
  repeat' (first | with_reducible rfl | decide | (simp (disch := first | exact .inl rfl | exact .inr rfl | rfl | decide) only [mask_mk, ite_mask, ite_self, State.putMsg_mask, State.setBox_mask, State.settle_mask]; done) | split | dsimp only))

@[simp] theorem execHello_mask {K : Nat} (r : Req) (major minor features : Nat) (s : State) (h : Covers K 0x80000000000000000000000000000000001000000000000000000000000014800) : Kept K s (execHello r major minor features s) := kept_mono h (by
  simp only [execHello]
  repeat' (first | with_reducible rfl | decide | with_reducible refine kept_next.2 ?_ | (simp (disch := first | exact .inl rfl | exact .inr rfl | rfl | decide) only [mask_mk, ite_mask, ite_self, kept_next, State.respond_mask, State.respondAs_mask, State.setBox_mask]; done) | split | dsimp only))

@[simp] theorem execGoodbye_mask {K : Nat} (r : Req) (s : State) (h : Covers K 0x80000000000000000000000000000000001000000000000000000000000014800) : Kept K s (execGoodbye r s) := kept_mono h (by
  simp only [execGoodbye]
  repeat' (first | with_reducible rfl | decide | with_reducible refine kept_next.2 ?_ | (simp (disch := first | exact .inl rfl | exact .inr rfl | rfl | decide) only [mask_mk, ite_mask, ite_self, kept_next, State.respond_mask, State.setBox_mask]; done) | split | dsimp only))

@[simp] theorem execPing_mask {K : Nat} (r : Req) (payload : List Byte) (s : State) (h : Covers K 0x80000000000000000000000000000000001000000000000000000000000015804) : Kept K s (execPing r payload s) := kept_mono h (by
  simp only [execPing]
  repeat' (first | with_reducible rfl | decide | with_reducible refine kept_next.2 ?_ | with_reducible refine (State.serve_mask _ _ _ _ _ ?_ (fun t => ?_)).trans ?_ | (simp (disch := first | exact .inl rfl | exact .inr rfl | rfl | decide) only [mask_mk, ite_mask, ite_self, kept_next, ite_st, reply_st, later_st]; done) | split | dsimp only))

@[simp] theorem execEvent_mask {K : Nat} (r : Req) (s : State) (h : Covers K 0x80000000000000000000000000000000001000000000000000000000000015804) : Kept K s (execEvent r s) := kept_mono h (by
  simp only [execEvent]
  repeat' (first | with_reducible rfl | decide | with_reducible refine kept_next.2 ?_ | with_reducible refine (State.serve_mask _ _ _ _ _ ?_ (fun t => ?_)).trans ?_ | (simp (disch := first | exact .inl rfl | exact .inr rfl | rfl | decide) only [mask_mk, ite_mask, ite_self, kept_next, ite_st, reply_st, later_st]; done) | split | dsimp only))

@[simp] theorem execEventMask_mask {K : Nat} (r : Req) (mask en v : Nat) (s : State) (h : Covers K 0x80000000000000000000000000000000061040000000000000000000000015804) : Kept K s (execEventMask r mask en v s) := kept_mono h (by
  simp only [execEventMask]
  repeat' (first | with_reducible rfl | decide | with_reducible refine kept_next.2 ?_ | with_reducible refine (State.serve_mask _ _ _ _ _ ?_ (fun t => ?_)).trans ?_ | (simp (disch := first | exact .inl rfl | exact .inr rfl | rfl | decide) only [mask_mk, ite_mask, ite_self, kept_next, ite_st, reply_st, later_st, State.setBox_mask, State.setNotify_mask]; done) | split | dsimp only))

@[simp] theorem execEventRingWrite_mask {K : Nat} (dom : Dom) (s : State) (h : Covers K 0x80000000000000000000000000000000001000000000000000000000000014800) : Kept K s (execEventRingWrite dom s) := kept_mono h (by
  simp only [execEventRingWrite]
  repeat' (first | with_reducible rfl | decide | with_reducible refine kept_next.2 ?_ | (simp (disch := first | exact .inl rfl | exact .inr rfl | rfl | decide) only [mask_mk, ite_mask, ite_self, kept_next, State.putMsg_mask, State.setBox_mask]; done) | split | dsimp only))

end Sys2Proof.Machine
end

