-- ==== Sys2Proof/Laws/KeepsFunctions.lean ====
section
/-!
SUPPORT. Laws/KeepsFunctions.lean: what each operation of Machine/Functions.lean leaves alone: a mask (Laws/Mask.lean) that covers what the operation may write sees no
difference between the state before and the state after.
-/
set_option linter.unusedSimpArgs false
set_option linter.unusedVariables false

namespace Sys2Proof.Machine

@[simp] theorem State.functionChange_mask {K : Nat} (s : State) (n : Nat) (h : Covers K 0x203e182050040000000000000000000000000000000000000000000000000000000000000008000000000000000000000000000000000502000000000000000000000051c800) : (State.functionChange s n).mask K = s.mask K := mask_mono h (by
  simp only [State.functionChange]
  repeat' (first | with_reducible rfl | decide | (simp (disch := first | exact .inl rfl | exact .inr rfl | rfl | decide) only [mask_mk, ite_mask, ite_self, State.mirrorChange_mask]; done) | split | dsimp only))

@[simp] theorem State.resize_mask {K : Nat} (s : State) (n assign quota vectors : Nat) (h : Covers K 0x1c000000000000000000000000000000000000000000000000000000000000080000) : (State.resize s n assign quota vectors).mask K = s.mask K := mask_mono h (by
  simp only [State.resize]
  repeat' (first | with_reducible rfl | decide | (simp (disch := first | exact .inl rfl | exact .inr rfl | rfl | decide) only [mask_mk, ite_mask, ite_self, State.setFld_mask]; done) | split | dsimp only))

@[simp] theorem State.loseClassS_mask {K : Nat} (s : State) (fn : Dom) (h : Covers K 0x203e182000000000000000000000000000000000000000000000000000000000000000000000000000000000000000000000000000000402000000000000000000000010c800) : (State.loseClassS s fn).mask K = s.mask K := mask_mono h (by
  simp only [State.loseClassS]
  repeat' (first | with_reducible rfl | decide | (simp (disch := first | exact .inl rfl | exact .inr rfl | rfl | decide) only [mask_mk, ite_mask, ite_self, State.source_mask]; done) | split | dsimp only))

@[simp] theorem State.dropReruns_mask {K : Nat} (s : State) (fn : Dom) (h : Covers K 0x203e1820500400d40000000000000000000000000000000000000000000000000000000002080040000000fde0781c00000000021fe1050200000000000000000000005de824) : (State.dropReruns s fn).mask K = s.mask K := mask_mono h (by
  simp only [State.dropReruns]
  repeat' (first | with_reducible rfl | decide | with_reducible refine (mask_foldl _ (fun t e => ?_) _ _).trans ?_ | (simp (disch := first | exact .inl rfl | exact .inr rfl | rfl | decide) only [mask_mk, ite_mask, ite_self, State.countPersistent_mask, State.mismatchEvent_mask, State.removeCore_mask, State.showSeq_mask]; done) | split | dsimp only))

@[simp] theorem State.nextGen_mask {K : Nat} (s : State) (fn : Dom) (h : Covers K 0x800000000000000000000000000000000000000000000000000000000000080000) : (State.nextGen s fn).mask K = s.mask K := mask_mono h (by
  simp only [State.nextGen]
  repeat' (first | with_reducible rfl | decide | (simp (disch := first | exact .inl rfl | exact .inr rfl | rfl | decide) only [mask_mk, ite_mask, ite_self, State.setMb_mask]; done) | split | dsimp only))

@[simp] theorem State.endFreeze_mask {K : Nat} (s : State) (fn : Dom) (h : Covers K 0x180000000000000000000000000000000001000000000000000000000000094800) : (State.endFreeze s fn).mask K = s.mask K := mask_mono h (by
  simp only [State.endFreeze]
  repeat' (first | with_reducible rfl | decide | with_reducible refine (mask_foldl _ (fun t e => ?_) _ _).trans ?_ | (simp (disch := first | exact .inl rfl | exact .inr rfl | rfl | decide) only [mask_mk, ite_mask, ite_self, State.answer_mask, State.setMb_mask]; done) | split | dsimp only))

@[simp] theorem State.thawFn_mask {K : Nat} (s : State) (fn : Dom) (h : Covers K 0x203e18205004000000000000000000000000000000000000000000000000000000000000021800fff80000fde0781c00000010021fe105020000000000000001fa00005de924) : (State.thawFn s fn).mask K = s.mask K := mask_mono h (by
  simp only [State.thawFn]
  repeat' (first | with_reducible rfl | decide | with_reducible refine (mask_foldl _ (fun t e => ?_) _ _).trans ?_ | (simp (disch := first | exact .inl rfl | exact .inr rfl | rfl | decide) only [mask_mk, ite_mask, ite_self, State.setMb_mask, State.ungrant_mask]; done) | split | dsimp only | simp (disch := first | exact .inl rfl | exact .inr rfl | rfl | decide) only [mask_mk, ite_mask, ite_self, State.setMb_mask, State.ungrant_mask]))

@[simp] theorem State.abortHandover_mask {K : Nat} (s : State) (h : Covers K 0x203e1820500c000000000000000000000000000000000000000000000000000000000000021800fff80000fde0781c00000010021fe105020000000000000001fa00005de924) : (State.abortHandover s).mask K = s.mask K := mask_mono h (by
  simp only [State.abortHandover]
  repeat' (first | with_reducible rfl | decide | with_reducible refine (mask_foldl _ (fun t e => ?_) _ _).trans ?_ | (simp (disch := first | exact .inl rfl | exact .inr rfl | rfl | decide) only [mask_mk, ite_mask, ite_self, State.answer_mask, State.setFld_mask, State.thawFn_mask]; done) | split | dsimp only | simp (disch := first | exact .inl rfl | exact .inr rfl | rfl | decide) only [mask_mk, ite_mask, ite_self, State.answer_mask, State.setFld_mask, State.thawFn_mask]))

@[simp] theorem State.startFnReset_mask {K : Nat} (s : State) (fn : Dom) (asked : List (Req × Nat)) (release : Bool) (h : Covers K 0x203e1820500c00d40000000000000000000000000000000000000000000000000000000002b800fff80000fde0781c00000010021fe167c60000000000000001fa00005de924) : (State.startFnReset s fn asked release).mask K = s.mask K := mask_mono h (by
  simp only [State.startFnReset]
  repeat' (first | with_reducible rfl | decide | with_reducible refine (mask_foldl _ (fun t e => ?_) _ _).trans ?_ | (simp (disch := first | exact .inl rfl | exact .inr rfl | rfl | decide) only [mask_mk, ite_mask, ite_self, State.abortHandover_mask, State.dropReruns_mask, State.endFreeze_mask, State.killWhere_mask, State.mbClose_mask, State.nextGen_mask, State.setMb_mask]; done) | split | dsimp only | simp (disch := first | exact .inl rfl | exact .inr rfl | rfl | decide) only [mask_mk, ite_mask, ite_self, State.abortHandover_mask, State.dropReruns_mask, State.endFreeze_mask, State.killWhere_mask, State.mbClose_mask, State.nextGen_mask, State.setMb_mask]))

@[simp] theorem State.forceFnReset_mask {K : Nat} (s : State) (fn : Dom) (release : Bool) (h : Covers K 0x203e1820500c00d40000000000000000000000000000000000000000000000000000000002b800fff80000fde0781c00000010021fe167c60000000000000001fa00005de924) : (State.forceFnReset s fn release).mask K = s.mask K := mask_mono h (by
  simp only [State.forceFnReset]
  repeat' (first | with_reducible rfl | decide | (simp (disch := first | exact .inl rfl | exact .inr rfl | rfl | decide) only [mask_mk, ite_mask, ite_self, State.loseClassS_mask, State.startFnReset_mask]; done) | split | dsimp only))

@[simp] theorem execGenDrainEnd_mask {K : Nat} (n : Nat) (s : State) (h : Covers K 0x800000000000000000000000000000000000000000000000000000000000080000) : Kept K s (execGenDrainEnd n s) := kept_mono h (by
  simp only [execGenDrainEnd]
  repeat' (first | with_reducible rfl | decide | with_reducible refine kept_next.2 ?_ | (simp (disch := first | exact .inl rfl | exact .inr rfl | rfl | decide) only [mask_mk, ite_mask, ite_self, kept_next, State.nextGen_mask]; done) | split | dsimp only))

@[simp] theorem State.clearFn_mask {K : Nat} (s : State) (fn : Dom) (h : Covers K 0x203e18205004000000000000000000000000000000000000000000000000000000000000020800fff80000fde0781c00000010021fe105020000000000000001fa00005de924) : (State.clearFn s fn).mask K = s.mask K := mask_mono h (by
  simp only [State.clearFn]
  repeat' (first | with_reducible rfl | decide | with_reducible refine (mask_foldl _ (fun t e => ?_) _ _).trans ?_ | (simp (disch := first | exact .inl rfl | exact .inr rfl | rfl | decide) only [mask_mk, ite_mask, ite_self, State.answer_mask, State.cancelWhere_mask, State.ungrant_mask]; done) | split | dsimp only | simp (disch := first | exact .inl rfl | exact .inr rfl | rfl | decide) only [mask_mk, ite_mask, ite_self, State.answer_mask, State.cancelWhere_mask, State.ungrant_mask]))

@[simp] theorem State.finishFnReset_mask {K : Nat} (s : State) (r : FnReset) (h : Covers K 0x163c0000000000000000000000000000000001000000000000000000000000094800) : (State.finishFnReset s r).mask K = s.mask K := mask_mono h (by
  simp only [State.finishFnReset]
  repeat' (first | with_reducible rfl | decide | with_reducible refine (mask_foldl _ (fun t e => ?_) _ _).trans ?_ | with_reducible refine (State.restore_mask _ _ (fun k hk => by replace hk := (Bool.and_eq_true_iff.mp hk).2; split at hk <;> first | (cases hk; done) | (rename_i hf; rw [hf]; decide))).trans ?_ | (simp (disch := first | exact .inl rfl | exact .inr rfl | rfl | decide) only [mask_mk, ite_mask, ite_self, State.answer_mask, State.setFld_mask]; done) | split | dsimp only | simp (disch := first | exact .inl rfl | exact .inr rfl | rfl | decide) only [mask_mk, ite_mask, ite_self, State.answer_mask, State.setFld_mask]))

@[simp] theorem execFunctionResetEnd_mask {K : Nat} (n : Nat) (s : State) (h : Covers K 0x203e18205004000000000000000000000000000000000000000000000000000000000000163c00fff80000fde0781c00000010021fe105020000000000000001fa00005de924) : Kept K s (execFunctionResetEnd n s) := kept_mono h (by
  simp only [execFunctionResetEnd]
  repeat' (first | with_reducible rfl | decide | with_reducible refine kept_next.2 ?_ | (simp (disch := first | exact .inl rfl | exact .inr rfl | rfl | decide) only [mask_mk, ite_mask, ite_self, kept_next, State.clearFn_mask, State.finishFnReset_mask]; done) | split | dsimp only))

@[simp] theorem State.resetByMessage_mask {K : Nat} (s : State) (r : Req) (op n : Nat) (release : Bool) (h : Covers K 0x203e1820500c00d40000000000000000000000000000000000000000000000000000000002b800fff80000fde0781c00000010021fe167c60000000000000001fa00005de924) : (State.resetByMessage s r op n release).st.mask K = s.mask K := mask_mono h (by
  simp only [State.resetByMessage]
  repeat' (first | with_reducible rfl | decide | (simp (disch := first | exact .inl rfl | exact .inr rfl | rfl | decide) only [mask_mk, ite_mask, ite_self, ite_st, reply_st, later_st, State.startFnReset_mask]; done) | split | dsimp only))

@[simp] theorem execFnConfig_mask {K : Nat} (r : Req) (n assign quota vectors aper : Nat) (s : State) (h : Covers K 0x203e1820500c00d4000000000000000000000000000000000000000000000000000000009eb800fff80000fde0781c00000010021fe167c60000000000000001fa00005df924) : Kept K s (execFnConfig r n assign quota vectors aper s) := kept_mono h (by
  simp only [execFnConfig]
  repeat' (first | with_reducible rfl | decide | with_reducible refine kept_next.2 ?_ | with_reducible refine (State.serve_mask _ _ _ _ _ ?_ (fun t => ?_)).trans ?_ | (simp (disch := first | exact .inl rfl | exact .inr rfl | rfl | decide) only [mask_mk, ite_mask, ite_self, kept_next, ite_st, reply_st, later_st, State.functionChange_mask, State.resetByMessage_mask, State.resize_mask, State.setFld_mask]; done) | split | dsimp only))

@[simp] theorem State.resetMessage_mask {K : Nat} (s : State) (r : Req) (op n : Nat) (h : Covers K 0x203e1820500c00d40000000000000000000000000000000000000000000000000000000002b800fff80000fde0781c00000010021fe167c60000000000000001fa00005de924) : (State.resetMessage s r op n).st.mask K = s.mask K := mask_mono h (by
  simp only [State.resetMessage]
  repeat' (first | with_reducible rfl | decide | (simp (disch := first | exact .inl rfl | exact .inr rfl | rfl | decide) only [mask_mk, ite_mask, ite_self, ite_st, reply_st, later_st, State.resetByMessage_mask]; done) | split | dsimp only))

@[simp] theorem execFnReset_mask {K : Nat} (r : Req) (n : Nat) (s : State) (h : Covers K 0x203e1820500c00d40000000000000000000000000000000000000000000000000000000002b800fff80000fde0781c00000010021fe167c60000000000000001fa00005df924) : Kept K s (execFnReset r n s) := kept_mono h (by
  simp only [execFnReset]
  repeat' (first | with_reducible rfl | decide | with_reducible refine kept_next.2 ?_ | with_reducible refine (State.serve_mask _ _ _ _ _ ?_ (fun t => ?_)).trans ?_ | (simp (disch := first | exact .inl rfl | exact .inr rfl | rfl | decide) only [mask_mk, ite_mask, ite_self, kept_next, ite_st, reply_st, later_st, State.resetMessage_mask]; done) | split | dsimp only))

@[simp] theorem execFnDiscard_mask {K : Nat} (r : Req) (n : Nat) (s : State) (h : Covers K 0x203e1820500c00d40000000000000000000000000000000000000000000000000000000002b800fff80000fde0781c00000010021fe167c60000000000000001fa00005df924) : Kept K s (execFnDiscard r n s) := kept_mono h (by
  simp only [execFnDiscard]
  repeat' (first | with_reducible rfl | decide | with_reducible refine kept_next.2 ?_ | with_reducible refine (State.serve_mask _ _ _ _ _ ?_ (fun t => ?_)).trans ?_ | (simp (disch := first | exact .inl rfl | exact .inr rfl | rfl | decide) only [mask_mk, ite_mask, ite_self, kept_next, ite_st, reply_st, later_st, State.resetMessage_mask]; done) | split | dsimp only))

@[simp] theorem execFnQuery_mask {K : Nat} (r : Req) (n : Nat) (s : State) (h : Covers K 0x80000000000000000000000000000000001000000000000000000000000015804) : Kept K s (execFnQuery r n s) := kept_mono h (by
  simp only [execFnQuery]
  repeat' (first | with_reducible rfl | decide | with_reducible refine kept_next.2 ?_ | with_reducible refine (State.serve_mask _ _ _ _ _ ?_ (fun t => ?_)).trans ?_ | (simp (disch := first | exact .inl rfl | exact .inr rfl | rfl | decide) only [mask_mk, ite_mask, ite_self, kept_next, ite_st, reply_st, later_st]; done) | split | dsimp only))

@[simp] theorem execFnQmap_mask {K : Nat} (r : Req) (n first : Nat) (s : State) (h : Covers K 0x80000000000000000000000000000000001000000000000000000000000015804) : Kept K s (execFnQmap r n first s) := kept_mono h (by
  simp only [execFnQmap]
  repeat' (first | with_reducible rfl | decide | with_reducible refine kept_next.2 ?_ | with_reducible refine (State.serve_mask _ _ _ _ _ ?_ (fun t => ?_)).trans ?_ | (simp (disch := first | exact .inl rfl | exact .inr rfl | rfl | decide) only [mask_mk, ite_mask, ite_self, kept_next, ite_st, reply_st, later_st]; done) | split | dsimp only))

@[simp] theorem execFnGlobal_mask {K : Nat} (r : Req) (c a : Nat) (s : State) (h : Covers K 0x80000000000000000000000000000000001000000000000000000000000095804) : Kept K s (execFnGlobal r c a s) := kept_mono h (by
  simp only [execFnGlobal]
  repeat' (first | with_reducible rfl | decide | with_reducible refine kept_next.2 ?_ | with_reducible refine (State.serve_mask _ _ _ _ _ ?_ (fun t => ?_)).trans ?_ | (simp (disch := first | exact .inl rfl | exact .inr rfl | rfl | decide) only [mask_mk, ite_mask, ite_self, kept_next, ite_st, reply_st, later_st]; done) | split | dsimp only))

@[simp] theorem State.freezeQueues_mask {K : Nat} (s : State) (fn : Dom) (h : Covers K 0x80000000000000000000000000000000001000000000000000000000000054800) : (State.freezeQueues s fn).mask K = s.mask K := mask_mono h (by
  simp only [State.freezeQueues]
  repeat' (first | with_reducible rfl | decide | with_reducible refine (mask_foldl _ (fun t e => ?_) _ _).trans ?_ | (simp (disch := first | exact .inl rfl | exact .inr rfl | rfl | decide) only [mask_mk, ite_mask, ite_self, State.answer_mask]; done) | split | dsimp only))

@[simp] theorem State.beginFreeze_mask {K : Nat} (s : State) (fn : Dom) (asked : List Req) (handover : Bool) (h : Covers K 0x203e1820500400000000000000000000000000000000000000000000000000000000000002180040000000fde0781c00000000021fe1050200000000000000000000005de824) : (State.beginFreeze s fn asked handover).mask K = s.mask K := mask_mono h (by
  simp only [State.beginFreeze]
  repeat' (first | with_reducible rfl | decide | with_reducible refine (mask_foldl _ (fun t e => ?_) _ _).trans ?_ | (simp (disch := first | exact .inl rfl | exact .inr rfl | rfl | decide) only [mask_mk, ite_mask, ite_self, State.freezeCheck_mask, State.freezeQueues_mask, State.killWhere_mask, State.setMb_mask]; done) | split | dsimp only | simp (disch := first | exact .inl rfl | exact .inr rfl | rfl | decide) only [mask_mk, ite_mask, ite_self, State.freezeCheck_mask, State.freezeQueues_mask, State.killWhere_mask, State.setMb_mask]))

@[simp] theorem execFnFreeze_mask {K : Nat} (r : Req) (n : Nat) (s : State) (h : Covers K 0x203e1820500400000000000000000000000000000000000000000000000000000000000002180040000000fde0781c00000000021fe1050200000000000000000000005df824) : Kept K s (execFnFreeze r n s) := kept_mono h (by
  simp only [execFnFreeze]
  repeat' (first | with_reducible rfl | decide | with_reducible refine kept_next.2 ?_ | with_reducible refine (State.serve_mask _ _ _ _ _ ?_ (fun t => ?_)).trans ?_ | (simp (disch := first | exact .inl rfl | exact .inr rfl | rfl | decide) only [mask_mk, ite_mask, ite_self, kept_next, ite_st, reply_st, later_st, State.beginFreeze_mask]; done) | split | dsimp only))

@[simp] theorem execFunctionLevelReset_mask {K : Nat} (c : Nat) (fn : Option Nat) (s : State) (h : Covers K 0x203e1820500c00d40000000000000000000000000000000000000000000000000000000002b800fff80000fde0781c00000010021fe167c60000000000000001fa00005de924) : Kept K s (execFunctionLevelReset c fn s) := kept_mono h (by
  simp only [execFunctionLevelReset]
  repeat' (first | with_reducible rfl | decide | with_reducible refine kept_next.2 ?_ | with_reducible refine (mask_foldl _ (fun t e => ?_) _ _).trans ?_ | (simp (disch := first | exact .inl rfl | exact .inr rfl | rfl | decide) only [mask_mk, ite_mask, ite_self, kept_next, State.forceFnReset_mask]; done) | split | dsimp only))

@[simp] theorem wrFnReset_mask {K : Nat} (fn : Dom) (data : Nat) (s : State) (h : Covers K 0x203e1820500c00d40000000000000000000000000000000000000000000000000000000002bc00fff80000fde0781c00000010021fe167c60000000000000001fa00005de924) : (wrFnReset fn data s).mask K = s.mask K := mask_mono h (by
  simp only [wrFnReset]
  repeat' (first | with_reducible rfl | decide | (simp (disch := first | exact .inl rfl | exact .inr rfl | rfl | decide) only [mask_mk, ite_mask, ite_self, State.forceFnReset_mask, State.setMb_mask]; done) | split | dsimp only))

@[simp] theorem execFnResetRegWrite_mask {K : Nat} (m : Master) (n : Nat) (data : Word) (s : State) (h : Covers K 0x203e1820500c00d40000000000000000000000000000000000000000000000000000000002bc00fff80000fde0781c00000010021fe167c67fc0000000000001fa00005de9ac) : Kept K s (execFnResetRegWrite m n data s) := kept_mono h (by
  simp only [execFnResetRegWrite]
  repeat' (first | with_reducible rfl | decide | with_reducible refine kept_next.2 ?_ | with_reducible refine (State.pageWrite_mask _ _ _ _ _ _ ?_ (fun t => ?_)).trans ?_ | (simp (disch := first | exact .inl rfl | exact .inr rfl | rfl | decide) only [mask_mk, ite_mask, ite_self, kept_next, wrFnReset_mask]; done) | split | dsimp only))

@[simp] theorem wrFnCfg_mask {K : Nat} (n data : Nat) (s : State) (h : Covers K 0x203e1820500c00d4000000000000000000000000000000000000000000000000000000001eb800fff82000fde0781c00000010021fe167c60000000000000001fa00005de924) : (wrFnCfg n data s).mask K = s.mask K := mask_mono h (by
  simp only [wrFnCfg]
  repeat' (first | with_reducible rfl | decide | (simp (disch := first | exact .inl rfl | exact .inr rfl | rfl | decide) only [mask_mk, ite_mask, ite_self, State.flag_mask, State.forceFnReset_mask, State.functionChange_mask, State.resize_mask]; done) | split | dsimp only))

@[simp] theorem wrFnAper_mask {K : Nat} (n v : Nat) (s : State) (h : Covers K 0x203e182050040000000000000000000000000000000000000000000000000000000000008008000000200000000000000000000000000502000000000000000000000051c800) : (wrFnAper n v s).mask K = s.mask K := mask_mono h (by
  simp only [wrFnAper]
  repeat' (first | with_reducible rfl | decide | (simp (disch := first | exact .inl rfl | exact .inr rfl | rfl | decide) only [mask_mk, ite_mask, ite_self, State.flag_mask, State.functionChange_mask, State.setFld_mask]; done) | split | dsimp only))

@[simp] theorem execFnCfgWrite_mask {K : Nat} (m : Master) (n : Nat) (data : Word) (s : State) (h : Covers K 0x203e1820500c00d4000000000000000000000000000000000000000000000000000000001eb800fff82000fde0781c00000010021fe167c67fc0000000000001fa00005de9ac) : Kept K s (execFnCfgWrite m n data s) := kept_mono h (by
  simp only [execFnCfgWrite]
  repeat' (first | with_reducible rfl | decide | with_reducible refine kept_next.2 ?_ | with_reducible refine (State.guarded_mask _ _ _ _ _ _ ?_ (fun t => ?_)).trans ?_ | with_reducible refine (State.regWrite_mask _ _ _ _ _ _ _ ?_ (fun t => ?_)).trans ?_ | (simp (disch := first | exact .inl rfl | exact .inr rfl | rfl | decide) only [mask_mk, ite_mask, ite_self, kept_next, wrFnCfg_mask]; done) | split | dsimp only))

@[simp] theorem execNumvfsWrite_mask {K : Nat} (c n : Nat) (en : Bool) (s : State) (h : Covers K 0x203e1820500c00d40000000000000000000000000000000000000000000000000000000006b800fff80000fde0781c00000010021fe167c60000000000000001fa00005de924) : Kept K s (execNumvfsWrite c n en s) := kept_mono h (by
  simp only [execNumvfsWrite]
  repeat' (first | with_reducible rfl | decide | with_reducible refine kept_next.2 ?_ | with_reducible refine (mask_foldl _ (fun t e => ?_) _ _).trans ?_ | (simp (disch := first | exact .inl rfl | exact .inr rfl | rfl | decide) only [mask_mk, ite_mask, ite_self, kept_next, State.forceFnReset_mask, State.setFld_mask]; done) | split | dsimp only))

end Sys2Proof.Machine
end

