-- ==== Sys2Proof/Laws/KeepsGateway.lean ====
section
/-!
SUPPORT. Laws/KeepsGateway.lean: what each operation of Machine/Gateway.lean leaves alone: a mask (Laws/Mask.lean) that covers what the operation may write sees no
difference between the state before and the state after.
-/
set_option linter.unusedSimpArgs false
set_option linter.unusedVariables false

namespace Sys2Proof.Machine

@[simp] theorem State.retryEnds_mask {K : Nat} (s : State) (d engine : Nat) (h : Covers K 0x80000000) : (State.retryEnds s d engine).mask K = s.mask K := mask_mono h (by
  simp only [State.retryEnds]
  repeat' (first | with_reducible rfl | decide | (simp (disch := first | exact .inl rfl | exact .inr rfl | rfl | decide) only [mask_mk, ite_mask, ite_self]; done) | split | dsimp only))

@[simp] theorem State.canPassive_mask {K : Nat} (s : State) (d n : Nat) (h : Covers K 0x1000000000000000000000000000000000000000000000000000000000000000000000000000000000000000000000000000000000000000000) : (State.canPassive s d n).mask K = s.mask K := mask_mono h (by
  simp only [State.canPassive]
  repeat' (first | with_reducible rfl | decide | (simp (disch := first | exact .inl rfl | exact .inr rfl | rfl | decide) only [mask_mk, ite_mask, ite_self, State.setFld_mask]; done) | split | dsimp only))

@[simp] theorem execCanFrameRx_mask {K : Nat} (d n : Nat) (f : CanFrame) (s : State) (h : Covers K 0xb000000000000000000000000000000000000000000000000000000000000000000000000000000000000000000000000000000000080000004) : Kept K s (execCanFrameRx d n f s) := kept_mono h (by
  simp only [execCanFrameRx]
  repeat' (first | with_reducible rfl | decide | with_reducible refine kept_next.2 ?_ | (simp (disch := first | exact .inl rfl | exact .inr rfl | rfl | decide) only [mask_mk, ite_mask, ite_self, kept_next, State.addSat_mask, State.canPassive_mask, State.fresh_mask, State.setFld_mask]; done) | split | dsimp only))

@[simp] theorem execCanFrameTx_mask {K : Nat} (d n : Nat) (ok : Bool) (s : State) (h : Covers K 0x5800000000000000000000000000000000000000000000000000000000000000000000000000000000004020000000000000000000000014804) : Kept K s (execCanFrameTx d n ok s) := kept_mono h (by
  simp only [execCanFrameTx]
  repeat' (first | with_reducible rfl | decide | with_reducible refine kept_next.2 ?_ | (simp (disch := first | exact .inl rfl | exact .inr rfl | rfl | decide) only [mask_mk, ite_mask, ite_self, kept_next, State.addSat_mask, State.canPassive_mask, State.flag_mask, State.fresh_mask, State.raise_mask, State.send_mask, State.setFld_mask]; done) | split | dsimp only))

@[simp] theorem State.canRejoin_mask {K : Nat} (s : State) (d n : Nat) (h : Covers K 0xd800000000000000000000000000000000000000000000000000000000000000000000000000000000000000000000000000000000000000000) : (State.canRejoin s d n).mask K = s.mask K := mask_mono h (by
  simp only [State.canRejoin]
  repeat' (first | with_reducible rfl | decide | (simp (disch := first | exact .inl rfl | exact .inr rfl | rfl | decide) only [mask_mk, ite_mask, ite_self, State.setFlds_nil_mask, State.setFlds_cons_mask, State.setFld_mask]; done) | split | dsimp only))

@[simp] theorem execCanBusoffRejoin_mask {K : Nat} (d n : Nat) (s : State) (h : Covers K 0xd800000000000000000000000000000000000000000000000000000000000000000000000000000000000000000000000000000000000000000) : Kept K s (execCanBusoffRejoin d n s) := kept_mono h (by
  simp only [execCanBusoffRejoin]
  repeat' (first | with_reducible rfl | decide | with_reducible refine kept_next.2 ?_ | (simp (disch := first | exact .inl rfl | exact .inr rfl | rfl | decide) only [mask_mk, ite_mask, ite_self, kept_next, State.canRejoin_mask]; done) | split | dsimp only))

@[simp] theorem wrCanCfg_mask {K : Nat} (m : Master) (d n data : Nat) (s : State) (h : Covers K 0x1fd800000000000000000000000000000000000000000000000000000000000000000000000000000000000000000000000000000000000000000) : (wrCanCfg m d n data s).mask K = s.mask K := mask_mono h (by
  simp only [wrCanCfg]
  repeat' (first | with_reducible rfl | decide | (simp (disch := first | exact .inl rfl | exact .inr rfl | rfl | decide) only [mask_mk, ite_mask, ite_self, State.setFlds_nil_mask, State.setFlds_cons_mask, State.setFld_mask, State.canRejoin_mask]; done) | split | dsimp only))

@[simp] theorem State.canBtr_mask {K : Nat} (s : State) (d n v : Nat) (h : Covers K 0x1e00000000000000000000000000000000000000000000000000000000000000000000000000000000000000000000000000000000000000000000) : (State.canBtr s d n v).mask K = s.mask K := mask_mono h (by
  simp only [State.canBtr]
  repeat' (first | with_reducible rfl | decide | (simp (disch := first | exact .inl rfl | exact .inr rfl | rfl | decide) only [mask_mk, ite_mask, ite_self, State.setFlds_nil_mask, State.setFlds_cons_mask, State.setFld_mask]; done) | split | dsimp only))

@[simp] theorem State.canDbtr_mask {K : Nat} (s : State) (d n v : Nat) (h : Covers K 0x3e000000000000000000000000000000000000000000000000000000000000000000000000000000000000000000000000000000000000000000000) : (State.canDbtr s d n v).mask K = s.mask K := mask_mono h (by
  simp only [State.canDbtr]
  repeat' (first | with_reducible rfl | decide | (simp (disch := first | exact .inl rfl | exact .inr rfl | rfl | decide) only [mask_mk, ite_mask, ite_self, State.setFlds_nil_mask, State.setFlds_cons_mask, State.setFld_mask]; done) | split | dsimp only))

@[simp] theorem wrCanTiming_mask {K : Nat} (m : Master) (d n : Nat) (data : Bool) (v : Nat) (s : State) (h : Covers K 0x3fe00000000000000000000000000000000000000000000000000000000000000000000000000000000000000000000000000000000000000000000) : (wrCanTiming m d n data v s).mask K = s.mask K := mask_mono h (by
  simp only [wrCanTiming]
  repeat' (first | with_reducible rfl | decide | (simp (disch := first | exact .inl rfl | exact .inr rfl | rfl | decide) only [mask_mk, ite_mask, ite_self, State.canBtr_mask, State.canDbtr_mask]; done) | split | dsimp only))

@[simp] theorem execCanSet_mask {K : Nat} (r : Req) (d n : Nat) (btr dbtr : Word) (s : State) (h : Covers K 0x3fe00000000000000000000000000000000000000000000000000080000000000000000000000000000000001000000000000000000000000015804) : Kept K s (execCanSet r d n btr dbtr s) := kept_mono h (by
  simp only [execCanSet]
  repeat' (first | with_reducible rfl | decide | with_reducible refine kept_next.2 ?_ | with_reducible refine (State.serve_mask _ _ _ _ _ ?_ (fun t => ?_)).trans ?_ | (simp (disch := first | exact .inl rfl | exact .inr rfl | rfl | decide) only [mask_mk, ite_mask, ite_self, kept_next, ite_st, reply_st, later_st, State.canBtr_mask, State.canDbtr_mask]; done) | split | dsimp only))

@[simp] theorem State.setUart_mask {K : Nat} (s : State) (d n : Nat) (u : UartState) (h : Covers K 0x80000000) : (State.setUart s d n u).mask K = s.mask K := mask_mono h (by
  simp only [State.setUart]
  repeat' (first | with_reducible rfl | decide | (simp (disch := first | exact .inl rfl | exact .inr rfl | rfl | decide) only [mask_mk, ite_mask, ite_self]; done) | split | dsimp only))

@[simp] theorem execUartCharacter_mask {K : Nat} (d n : Nat) (ev : UartEvent) (s : State) (h : Covers K 0x80010000) : Kept K s (execUartCharacter d n ev s) := kept_mono h (by
  simp only [execUartCharacter]
  repeat' (first | with_reducible rfl | decide | with_reducible refine kept_next.2 ?_ | (simp (disch := first | exact .inl rfl | exact .inr rfl | rfl | decide) only [mask_mk, ite_mask, ite_self, kept_next, State.send_mask, State.setUart_mask]; done) | split | dsimp only))

@[simp] theorem State.uartCfg_mask {K : Nat} (s : State) (d n v : Nat) (h : Covers K 0x7fc0000000000000000000000000000000000000000000000000000000000000000000000000000000000000000000000000000000000000000000000) : (State.uartCfg s d n v).mask K = s.mask K := mask_mono h (by
  simp only [State.uartCfg]
  repeat' (first | with_reducible rfl | decide | (simp (disch := first | exact .inl rfl | exact .inr rfl | rfl | decide) only [mask_mk, ite_mask, ite_self, State.setFlds_nil_mask, State.setFlds_cons_mask, State.setFld_mask]; done) | split | dsimp only))

@[simp] theorem wrUartCfg_mask {K : Nat} (m : Master) (d n v : Nat) (s : State) (h : Covers K 0x7fc0000000000000000000000000000000000000000000000000000000000000000000000000000000000000000000000000000000000000000000000) : (wrUartCfg m d n v s).mask K = s.mask K := mask_mono h (by
  simp only [wrUartCfg]
  repeat' (first | with_reducible rfl | decide | (simp (disch := first | exact .inl rfl | exact .inr rfl | rfl | decide) only [mask_mk, ite_mask, ite_self, State.uartCfg_mask]; done) | split | dsimp only))

@[simp] theorem wrUartFrac_mask {K : Nat} (m : Master) (d n v : Nat) (s : State) (h : Covers K 0x8000000000000000000000000000000000000000000000000000000000000000000000000000000000000000000000000000000000000000000000000) : (wrUartFrac m d n v s).mask K = s.mask K := mask_mono h (by
  simp only [wrUartFrac]
  repeat' (first | with_reducible rfl | decide | (simp (disch := first | exact .inl rfl | exact .inr rfl | rfl | decide) only [mask_mk, ite_mask, ite_self, State.setFld_mask]; done) | split | dsimp only))

@[simp] theorem execUartSet_mask {K : Nat} (r : Req) (d n : Nat) (cfg : Word) (s : State) (h : Covers K 0x7fc0000000000000000000000000000000000000000000000000000080000000000000000000000000000000001000000000000000000000000015804) : Kept K s (execUartSet r d n cfg s) := kept_mono h (by
  simp only [execUartSet]
  repeat' (first | with_reducible rfl | decide | with_reducible refine kept_next.2 ?_ | with_reducible refine (State.serve_mask _ _ _ _ _ ?_ (fun t => ?_)).trans ?_ | (simp (disch := first | exact .inl rfl | exact .inr rfl | rfl | decide) only [mask_mk, ite_mask, ite_self, kept_next, ite_st, reply_st, later_st, State.uartCfg_mask]; done) | split | dsimp only))

@[simp] theorem State.setMvb_mask {K : Nat} (s : State) (d : Nat) (v : MvbState) (h : Covers K 0x80000000) : (State.setMvb s d v).mask K = s.mask K := mask_mono h (by
  simp only [State.setMvb]
  repeat' (first | with_reducible rfl | decide | (simp (disch := first | exact .inl rfl | exact .inr rfl | rfl | decide) only [mask_mk, ite_mask, ite_self]; done) | split | dsimp only))

@[simp] theorem execMvbTelegram_mask {K : Nat} (d : Nat) (t : MvbTelegram) (s : State) (h : Covers K 0x80010004) : Kept K s (execMvbTelegram d t s) := kept_mono h (by
  simp only [execMvbTelegram]
  repeat' (first | with_reducible rfl | decide | with_reducible refine kept_next.2 ?_ | (simp (disch := first | exact .inl rfl | exact .inr rfl | rfl | decide) only [mask_mk, ite_mask, ite_self, kept_next, State.fresh_mask, State.retryEnds_mask, State.send_mask, State.setMvb_mask]; done) | split | dsimp only))

@[simp] theorem execMvbSet_mask {K : Nat} (r : Req) (d role pair periodMs addr : Nat) (s : State) (h : Covers K 0x80000000000000000000000000000000001000000000000000000000080015804) : Kept K s (execMvbSet r d role pair periodMs addr s) := kept_mono h (by
  simp only [execMvbSet]
  repeat' (first | with_reducible rfl | decide | with_reducible refine kept_next.2 ?_ | with_reducible refine (State.serve_mask _ _ _ _ _ ?_ (fun t => ?_)).trans ?_ | (simp (disch := first | exact .inl rfl | exact .inr rfl | rfl | decide) only [mask_mk, ite_mask, ite_self, kept_next, ite_st, reply_st, later_st, State.setMvb_mask]; done) | split | dsimp only))

@[simp] theorem State.setPcieSt_mask {K : Nat} (s : State) (c : Nat) (p : PcieState) (h : Covers K 0x80000000) : (State.setPcieSt s c p).mask K = s.mask K := mask_mono h (by
  simp only [State.setPcieSt]
  repeat' (first | with_reducible rfl | decide | (simp (disch := first | exact .inl rfl | exact .inr rfl | rfl | decide) only [mask_mk, ite_mask, ite_self]; done) | split | dsimp only))

@[simp] theorem execPcieLinkTraining_mask {K : Nat} (c : Nat) (trained : Option (Nat × Nat)) (s : State) (h : Covers K 0x80000000) : Kept K s (execPcieLinkTraining c trained s) := kept_mono h (by
  simp only [execPcieLinkTraining]
  repeat' (first | with_reducible rfl | decide | with_reducible refine kept_next.2 ?_ | (simp (disch := first | exact .inl rfl | exact .inr rfl | rfl | decide) only [mask_mk, ite_mask, ite_self, kept_next, State.setPcieSt_mask]; done) | split | dsimp only))

@[simp] theorem execPcieAerError_mask {K : Nat} (c : Nat) (uncorrectable correctable : Word) (header : List Word) (s : State) (h : Covers K 0x4020000000000000000000080004800) : Kept K s (execPcieAerError c uncorrectable correctable header s) := kept_mono h (by
  simp only [execPcieAerError]
  repeat' (first | with_reducible rfl | decide | with_reducible refine kept_next.2 ?_ | (simp (disch := first | exact .inl rfl | exact .inr rfl | rfl | decide) only [mask_mk, ite_mask, ite_self, kept_next, State.raise_mask, State.setPcieSt_mask]; done) | split | dsimp only))

@[simp] theorem wrPcieCfg_mask {K : Nat} (m : Master) (d data : Nat) (s : State) (h : Covers K 0x1f0000000000000000000000000000000000000000000000000000000000000000000000000000000000000000004027fc0000000000000000000004800) : (wrPcieCfg m d data s).mask K = s.mask K := mask_mono h (by
  simp only [wrPcieCfg]
  repeat' (first | with_reducible rfl | decide | with_reducible refine (State.guarded_mask _ _ _ _ _ _ ?_ (fun t => ?_)).trans ?_ | (simp (disch := first | exact .inl rfl | exact .inr rfl | rfl | decide) only [mask_mk, ite_mask, ite_self, State.setFlds_nil_mask, State.setFlds_cons_mask, State.setFld_mask]; done) | split | dsimp only))

@[simp] theorem execPcieSet_mask {K : Nat} (r : Req) (c role width rate : Nat) (s : State) (h : Covers K 0x1a0000000000000000000000000000000000000000000000000000000080000000000000000000000000000000001000000000000000000000000015804) : Kept K s (execPcieSet r c role width rate s) := kept_mono h (by
  simp only [execPcieSet]
  repeat' (first | with_reducible rfl | decide | with_reducible refine kept_next.2 ?_ | with_reducible refine (State.serve_mask _ _ _ _ _ ?_ (fun t => ?_)).trans ?_ | (simp (disch := first | exact .inl rfl | exact .inr rfl | rfl | decide) only [mask_mk, ite_mask, ite_self, kept_next, ite_st, reply_st, later_st, State.setFlds_nil_mask, State.setFlds_cons_mask, State.setFld_mask]; done) | split | dsimp only))

@[simp] theorem execMirsiaRetrain_mask {K : Nat} (d link : Nat) (ok : Bool) (lanes : Nat) (s : State) (h : Covers K 0x203e182000000000780000000000000000000000000000000000000000000000000000000000000000000000000000000000000000000402000000000000000000008010c800) : Kept K s (execMirsiaRetrain d link ok lanes s) := kept_mono h (by
  simp only [execMirsiaRetrain]
  repeat' (first | with_reducible rfl | decide | with_reducible refine kept_next.2 ?_ | (simp (disch := first | exact .inl rfl | exact .inr rfl | rfl | decide) only [mask_mk, ite_mask, ite_self, kept_next, State.setFlds_nil_mask, State.setFlds_cons_mask, State.setFld_mask, State.addSat_mask, State.raise_mask, State.source_mask, State.titheAdd_mask]; done) | split | dsimp only))

@[simp] theorem execXspiCommand_mask {K : Nat} (m : Master) (c : XspiCmd) (s : State) (h : Covers K 0x203e18200000000000000000000000000000000000000000000000000000000000000000000000000000000000000000000000021fe104027fc000000000000000008010e868) : Kept K s (execXspiCommand m c s) := kept_mono h (by
  simp only [execXspiCommand]
  repeat' (first | with_reducible rfl | decide | with_reducible refine kept_next.2 ?_ | with_reducible refine (State.guarded_mask _ _ _ _ _ _ ?_ (fun t => ?_)).trans ?_ | (simp (disch := first | exact .inl rfl | exact .inr rfl | rfl | decide) only [mask_mk, ite_mask, ite_self, kept_next, State.busError_mask, State.eraseFlash_mask, State.fabLog_mask, State.putFlash_mask, State.readUe_mask, State.retryEnds_mask, State.store_mask, State.wake_mask]; done) | split | dsimp only))

@[simp] theorem State.pwFail_mask {K : Nat} (s : State) (d addr : Nat) (m : Master) (be cause : Nat) (h : Covers K 0x3f000000000000000000000000000000000000000000000000000000000000000000000000000004020000000000000000000000004800) : (State.pwFail s d addr m be cause).mask K = s.mask K := mask_mono h (by
  simp only [State.pwFail]
  repeat' (first | with_reducible rfl | decide | (simp (disch := first | exact .inl rfl | exact .inr rfl | rfl | decide) only [mask_mk, ite_mask, ite_self, State.setFlds_nil_mask, State.setFlds_cons_mask, State.setFld_mask, State.addSat_mask, State.raise_mask]; done) | split | dsimp only))

@[simp] theorem execFbrHeadOnRetry_mask {K : Nat} (d engine : Nat) (s : State) (h : Covers K 0x40800000000000000000000000000000000000000000000000000000000000000000000000000000000000000000000000000080000000) : Kept K s (execFbrHeadOnRetry d engine s) := kept_mono h (by
  simp only [execFbrHeadOnRetry]
  repeat' (first | with_reducible rfl | decide | with_reducible refine kept_next.2 ?_ | (simp (disch := first | exact .inl rfl | exact .inr rfl | rfl | decide) only [mask_mk, ite_mask, ite_self, kept_next, State.setFlds_nil_mask, State.setFlds_cons_mask, State.setFld_mask]; done) | split | dsimp only))

@[simp] theorem execFbrQuery_mask {K : Nat} (r : Req) (d release : Nat) (s : State) (h : Covers K 0x1000000000000000000000000000000000000000000080000000000000000000000000000000001000000000000000000000000015804) : Kept K s (execFbrQuery r d release s) := kept_mono h (by
  simp only [execFbrQuery]
  repeat' (first | with_reducible rfl | decide | with_reducible refine kept_next.2 ?_ | with_reducible refine (State.serve_mask _ _ _ _ _ ?_ (fun t => ?_)).trans ?_ | (simp (disch := first | exact .inl rfl | exact .inr rfl | rfl | decide) only [mask_mk, ite_mask, ite_self, kept_next, ite_st, reply_st, later_st, State.setFld_mask]; done) | split | dsimp only))

end Sys2Proof.Machine
end

