-- ==== Sys2Proof/Laws/KeepsSilos.lean ====
section
/-!
SUPPORT. Laws/KeepsSilos.lean: what each operation of Machine/Silos.lean leaves alone: a mask (Laws/Mask.lean) that covers what the operation may write sees no
difference between the state before and the state after.
-/
set_option linter.unusedSimpArgs false
set_option linter.unusedVariables false

namespace Sys2Proof.Machine

@[simp] theorem State.pend_mask {K : Nat} (s : State) (d k : Nat) (c : SiloCfg) (r : Option Req) (h : Covers K 0x80000400000000000000000000000000001000000000000000000000000054800) : (State.pend s d k c r).mask K = s.mask K := mask_mono h (by
  simp only [State.pend]
  repeat' (first | with_reducible rfl | decide | with_reducible refine (mask_foldl _ (fun t e => ?_) _ _).trans ?_ | (simp (disch := first | exact .inl rfl | exact .inr rfl | rfl | decide) only [mask_mk, ite_mask, ite_self, State.answer_mask, State.flag_mask, State.setSilo_mask]; done) | split | dsimp only | simp (disch := first | exact .inl rfl | exact .inr rfl | rfl | decide) only [mask_mk, ite_mask, ite_self, State.answer_mask, State.flag_mask, State.setSilo_mask]))

@[simp] theorem State.allocRing_mask {K : Nat} (s : State) (d k : Nat) (h : Covers K 0x1000000000000000000000000000000000002000) : (State.allocRing s d k).mask K = s.mask K := mask_mono h (by
  simp only [State.allocRing]
  repeat' (first | with_reducible rfl | decide | (simp (disch := first | exact .inl rfl | exact .inr rfl | rfl | decide) only [mask_mk, ite_mask, ite_self, State.setFld_mask]; done) | split | dsimp only))

@[simp] theorem State.applyCfg_mask {K : Nat} (s : State) (d k : Nat) (c : SiloCfg) (h : Covers K 0x203e182050040000000000000000000000000000000000000000000000000000000000000208005fe80000fde0781c00000010021fe1050200000000000000000000005de824) : (State.applyCfg s d k c).mask K = s.mask K := mask_mono h (by
  simp only [State.applyCfg]
  repeat' (first | with_reducible rfl | decide | (simp (disch := first | exact .inl rfl | exact .inr rfl | rfl | decide) only [mask_mk, ite_mask, ite_self, State.setFlds_nil_mask, State.setFlds_cons_mask, State.setFld_mask, State.allocRing_mask, State.cancelWhere_mask, State.killWhere_mask, State.mirrorChange_mask, State.setSilo_mask]; done) | split | dsimp only))

@[simp] theorem State.takeConfig_mask {K : Nat} (s : State) (d k : Nat) (h : Covers K 0x203e182050040000000000000000000000000000000000000000000000000000000000000208005fe80000fde0781c00000010021fe1050200000000000000000000005de824) : (State.takeConfig s d k).mask K = s.mask K := mask_mono h (by
  simp only [State.takeConfig]
  repeat' (first | with_reducible rfl | decide | (simp (disch := first | exact .inl rfl | exact .inr rfl | rfl | decide) only [mask_mk, ite_mask, ite_self, State.answer_mask, State.applyCfg_mask, State.setSilo_mask]; done) | split | dsimp only))

@[simp] theorem State.takeSpan_mask {K : Nat} (s : State) (d k : Nat) (h : Covers K 0x80020000000000000000000000000000001000000000000000000000000054800) : (State.takeSpan s d k).mask K = s.mask K := mask_mono h (by
  simp only [State.takeSpan]
  repeat' (first | with_reducible rfl | decide | (simp (disch := first | exact .inl rfl | exact .inr rfl | rfl | decide) only [mask_mk, ite_mask, ite_self, State.answer_mask, State.setFld_mask, State.setSilo_mask]; done) | split | dsimp only))

@[simp] theorem execQuantumBoundary_mask {K : Nat} (d k : Nat) (s : State) (h : Covers K 0x203e182050040000000000000000000000000000000000000000000000000000000000000208007fe80800fde0781c00000010021fe1050200000000000000000000005de824) : Kept K s (execQuantumBoundary d k s) := kept_mono h (by
  simp only [execQuantumBoundary]
  repeat' (first | with_reducible rfl | decide | with_reducible refine kept_next.2 ?_ | (simp (disch := first | exact .inl rfl | exact .inr rfl | rfl | decide) only [mask_mk, ite_mask, ite_self, kept_next, State.guaranteeBroken_mask, State.setSilo_mask, State.takeConfig_mask, State.takeSpan_mask]; done) | split | dsimp only))

@[simp] theorem execCoresGuaranteeCheck_mask {K : Nat} (d k : Nat) (s : State) (h : Covers K 0x203e18200000000000000000000000000000000000000000000000000000000000000000000000000008000000000000000000021fe10402000000000000000000000014e820) : Kept K s (execCoresGuaranteeCheck d k s) := kept_mono h (by
  simp only [execCoresGuaranteeCheck]
  repeat' (first | with_reducible rfl | decide | with_reducible refine kept_next.2 ?_ | (simp (disch := first | exact .inl rfl | exact .inr rfl | rfl | decide) only [mask_mk, ite_mask, ite_self, kept_next, State.guaranteeBroken_mask]; done) | split | dsimp only))

@[simp] theorem execSiloSpanAck_mask {K : Nat} (k dieMask : Nat) (s : State) (h : Covers K 0x40000) : Kept K s (execSiloSpanAck k dieMask s) := kept_mono h (by
  simp only [execSiloSpanAck]
  repeat' (first | with_reducible rfl | decide | with_reducible refine kept_next.2 ?_ | (simp (disch := first | exact .inl rfl | exact .inr rfl | rfl | decide) only [mask_mk, ite_mask, ite_self, kept_next, State.setSilo_mask]; done) | split | dsimp only))

@[simp] theorem execSiloSet_mask {K : Nat} (r : Req) (d k : Nat) (c : SiloCfg) (s : State) (h : Covers K 0x80000400000000000000000000000000001000000000000000000000000055804) : Kept K s (execSiloSet r d k c s) := kept_mono h (by
  simp only [execSiloSet]
  repeat' (first | with_reducible rfl | decide | with_reducible refine kept_next.2 ?_ | with_reducible refine (State.serve_mask _ _ _ _ _ ?_ (fun t => ?_)).trans ?_ | (simp (disch := first | exact .inl rfl | exact .inr rfl | rfl | decide) only [mask_mk, ite_mask, ite_self, kept_next, ite_st, reply_st, later_st, State.pend_mask]; done) | split | dsimp only))

@[simp] theorem execSiloQuery_mask {K : Nat} (r : Req) (d k : Nat) (s : State) (h : Covers K 0x80000000000000000000000000000000001000000000000000000000000015804) : Kept K s (execSiloQuery r d k s) := kept_mono h (by
  simp only [execSiloQuery]
  repeat' (first | with_reducible rfl | decide | with_reducible refine kept_next.2 ?_ | with_reducible refine (mask_foldl _ (fun t e => ?_) _ _).trans ?_ | with_reducible refine (State.serve_mask _ _ _ _ _ ?_ (fun t => ?_)).trans ?_ | (simp (disch := first | exact .inl rfl | exact .inr rfl | rfl | decide) only [mask_mk, ite_mask, ite_self, kept_next, ite_st, reply_st, later_st]; done) | split | dsimp only))

@[simp] theorem State.spanOver_mask {K : Nat} (s : State) (k all : Nat) (h : Covers K 0x80000000000000000000000000000000001000000000000000000000000054800) : (State.spanOver s k all).mask K = s.mask K := mask_mono h (by
  simp only [State.spanOver]
  repeat' (first | with_reducible rfl | decide | with_reducible refine (mask_foldl _ (fun t e => ?_) _ _).trans ?_ | (simp (disch := first | exact .inl rfl | exact .inr rfl | rfl | decide) only [mask_mk, ite_mask, ite_self, State.answer_mask, State.setSilo_mask]; done) | split | dsimp only))

@[simp] theorem execSiloSpan_mask {K : Nat} (r : Req) (k mask : Nat) (s : State) (h : Covers K 0x80000000000000000000000000000000001000000000000000000000000055804) : Kept K s (execSiloSpan r k mask s) := kept_mono h (by
  simp only [execSiloSpan]
  repeat' (first | with_reducible rfl | decide | with_reducible refine kept_next.2 ?_ | with_reducible refine (State.serve_mask _ _ _ _ _ ?_ (fun t => ?_)).trans ?_ | (simp (disch := first | exact .inl rfl | exact .inr rfl | rfl | decide) only [mask_mk, ite_mask, ite_self, kept_next, ite_st, reply_st, later_st, State.setSilo_mask, State.spanOver_mask]; done) | split | dsimp only))

@[simp] theorem State.siloWrite_mask {K : Nat} (s : State) (m : Master) (d k : Nat) (f : SiloCfg → SiloCfg) (h : Covers K 0x80000402400000000000000000000000001000000000000000000000000054800) : (State.siloWrite s m d k f).mask K = s.mask K := mask_mono h (by
  simp only [State.siloWrite]
  repeat' (first | with_reducible rfl | decide | (simp (disch := first | exact .inl rfl | exact .inr rfl | rfl | decide) only [mask_mk, ite_mask, ite_self, State.flag_mask, State.pend_mask]; done) | split | dsimp only))

@[simp] theorem wrSiloCfg_mask {K : Nat} (m : Master) (d k data : Nat) (s : State) (h : Covers K 0x80000402400000000000000000000000001000000000000000000000000054800) : (wrSiloCfg m d k data s).mask K = s.mask K := mask_mono h (by
  simp only [wrSiloCfg]
  repeat' (first | with_reducible rfl | decide | (simp (disch := first | exact .inl rfl | exact .inr rfl | rfl | decide) only [mask_mk, ite_mask, ite_self, State.siloWrite_mask]; done) | split | dsimp only))

@[simp] theorem wrSiloMask_mask {K : Nat} (m : Master) (d k v : Nat) (s : State) (h : Covers K 0x80000402400000000000000000000000001000000000000000000000000054800) : (wrSiloMask m d k v s).mask K = s.mask K := mask_mono h (by
  simp only [wrSiloMask]
  repeat' (first | with_reducible rfl | decide | (simp (disch := first | exact .inl rfl | exact .inr rfl | rfl | decide) only [mask_mk, ite_mask, ite_self, State.siloWrite_mask]; done) | split | dsimp only))

@[simp] theorem wrSiloTime_mask {K : Nat} (m : Master) (d k data : Nat) (s : State) (h : Covers K 0x80000402400000000000000000000000001000000000000000000000000054800) : (wrSiloTime m d k data s).mask K = s.mask K := mask_mono h (by
  simp only [wrSiloTime]
  repeat' (first | with_reducible rfl | decide | (simp (disch := first | exact .inl rfl | exact .inr rfl | rfl | decide) only [mask_mk, ite_mask, ite_self, State.siloWrite_mask]; done) | split | dsimp only))

end Sys2Proof.Machine
end

