-- ==== Sys2Proof/Laws/KeepsImage.lean ====
section
/-!
SUPPORT. Laws/KeepsImage.lean: what each operation of Machine/Image.lean leaves alone: a mask (Laws/Mask.lean) that covers what the operation may write sees no
difference between the state before and the state after.
-/
set_option linter.unusedSimpArgs false
set_option linter.unusedVariables false

namespace Sys2Proof.Machine

theorem State.copyUes_mask {K : Nat} {s u : State} {runs : List (Nat × Nat)} (hq : s.copyUes runs = some u) (h : Covers K 0x203e18200000000000000000000000000000000000000000000000000000000000000000000000000000000000000000000000021fe10402000000000000000000000010e800) : u.mask K = s.mask K := by
  simp only [State.copyUes] at hq
  split at hq
  · cases hq
  cases hq
  exact mask_foldl _ (fun t e => State.readUe_mask _ _ _ (land_trans h rfl)) _ _

@[simp] theorem execFnSave_mask {K : Nat} (r : Req) (n flags maxLen addr : Nat) (s : State) (h : Covers K 0x203e18200000000000000000000000000000000000000000000000000000000000000000000800000000000000000000000000021fe105027fc000000000000000000031f824) : Kept K s (execFnSave r n flags maxLen addr s) := kept_mono h (by
  simp only [execFnSave]
  refine kept_next.2 (State.serve_mask _ _ _ _ _ (by decide) (fun t => ?_))
  repeat' (first | with_reducible rfl | (rename_i hq; exact State.copyUes_mask hq (by decide)) |
    (simp (disch := first | exact .inl rfl | exact .inr rfl | rfl | decide) only [mask_mk, ite_mask, ite_self, ite_st, reply_st, State.fabLog_mask, State.store_mask]; done) | split | dsimp only))

@[simp] theorem State.holdFrozen_mask {K : Nat} (s : State) (fn : Dom) (h : Covers K 0x100000000000000000000000000000000000000000000000000000000000080000) : (State.holdFrozen s fn).mask K = s.mask K := mask_mono h (by
  simp only [State.holdFrozen]
  repeat' (first | with_reducible rfl | decide | (simp (disch := first | exact .inl rfl | exact .inr rfl | rfl | decide) only [mask_mk, ite_mask, ite_self, State.setMb_mask]; done) | split | dsimp only))

theorem State.putRec_mask {K : Nat} {s u : State} {fn : Dom} {r : MirrorRec} (hq : s.putRec fn r = some u) (h : Covers K 0x203e182050040000000000000000000000000000000000000000000000000000000000009e9800fff80000fde0781c00000010021fe105020000000000000001fa00005de924) : u.mask K = s.mask K := by
  refine mask_mono h ?_
  simp only [State.putRec] at hq
  repeat' split at hq
  all_goals first
    | (cases hq; done)
    | (simp only [Option.some.injEq] at hq
       subst hq
       repeat' (first | with_reducible rfl | (simp (disch := first | exact .inl rfl | exact .inr rfl | rfl | decide); done) | split))
    | (simp only [Option.map_eq_some_iff] at hq
       obtain ⟨_, -, rfl⟩ := hq
       simp (disch := first | exact .inl rfl | exact .inr rfl | rfl | decide))

theorem State.putRecs_mask {K : Nat} {s u : State} {fn : Dom} {l : List MirrorRec} (hq : s.putRecs fn l = some u) (h : Covers K 0x203e182050040000000000000000000000000000000000000000000000000000000000009e9800fff80000fde0781c00000010021fe105020000000000000001fa00005de924) : u.mask K = s.mask K := by
  induction l generalizing s with
  | nil => cases hq; rfl
  | cons r l ih =>
    simp only [State.putRecs, Option.bind_eq_some_iff] at hq
    obtain ⟨t, h1, h2⟩ := hq
    exact (ih h2).trans (State.putRec_mask h1 (land_trans h rfl))

theorem State.moveBuf_mask {K : Nat} {s u : State} {dieMap : List Nat} {b data : List Byte} (hq : s.moveBuf dieMap b data = some u) (h : Covers K 0x2020) : u.mask K = s.mask K := by
  refine mask_mono h ?_
  simp only [State.moveBuf] at hq
  split at hq
  · cases hq
  split at hq
  · cases hq
  cases hq
  simp (disch := first | exact .inl rfl | exact .inr rfl | rfl | decide)

theorem State.moveBufs_mask {K : Nat} {s u : State} {dieMap : List Nat} {l l2 : List MirrorRec} (hq : s.moveBufs dieMap l l2 = some u) (h : Covers K 0x2020) : u.mask K = s.mask K := by
  induction l generalizing s l2 with
  | nil => cases l2 <;> (simp only [State.moveBufs, Option.some.injEq] at hq; rw [hq])
  | cons r l ih =>
    cases l2 with
    | nil => simp only [State.moveBufs, Option.some.injEq] at hq; rw [hq]
    | cons x l2 =>
      simp only [State.moveBufs, Option.bind_eq_some_iff] at hq
      obtain ⟨t, h1, h2⟩ := hq
      exact (ih h2).trans (State.moveBuf_mask h1 (land_trans h rfl))

@[simp] theorem State.carry_mask {K : Nat} (s : State) (rs : List MirrorRec) (dieMap : List Nat) (h : Covers K 0x2000) : (State.carry s rs dieMap).mask K = s.mask K := mask_mono h (by
  simp only [State.carry]
  repeat' (first | with_reducible rfl | decide | with_reducible refine (mask_foldl _ (fun t e => ?_) _ _).trans ?_ | (simp (disch := first | exact .inl rfl | exact .inr rfl | rfl | decide) only [mask_mk, ite_mask, ite_self]; done) | split | dsimp only))

theorem State.restoreHere_mask {K : Nat} {s u : State} {fn : Dom} {buffers : Bool} {dieMap : List Nat} {rs : List MirrorRec}
    (hq : s.restoreHere fn buffers dieMap rs = some u) (h : Covers K 0x203e182050040000000000000000000000000000000000000000000000000000000000009e9800fff80000fde0781c00000010021fe105020000000000000001fa00005de924) : u.mask K = s.mask K := by
  refine mask_mono h ?_
  simp only [State.restoreHere, Option.ite_none_left_eq_some, Option.bind_eq_some_iff, Option.map_eq_some_iff] at hq
  obtain ⟨-, s2, h2, s3, h3, s4, h4, rfl⟩ := hq
  have e2 := State.putRecs_mask (K := 0x203e182050040000000000000000000000000000000000000000000000000000000000009e9800fff80000fde0781c00000010021fe105020000000000000001fa00005de924) h2 (by decide)
  have e3 : s3.mask 0x203e182050040000000000000000000000000000000000000000000000000000000000009e9800fff80000fde0781c00000010021fe105020000000000000001fa00005de924 = s2.mask 0x203e182050040000000000000000000000000000000000000000000000000000000000009e9800fff80000fde0781c00000010021fe105020000000000000001fa00005de924 := by
    split at h3
    · exact State.moveBufs_mask h3 (by decide)
    · cases h3; rfl
  have e4 := State.putRecs_mask (K := 0x203e182050040000000000000000000000000000000000000000000000000000000000009e9800fff80000fde0781c00000010021fe105020000000000000001fa00005de924) h4 (by decide)
  refine Eq.trans ?_ ((e4.trans (e3.trans e2)).trans ?_)
  · simp (disch := first | exact .inl rfl | exact .inr rfl | rfl | decide)
  · simp (disch := first | exact .inl rfl | exact .inr rfl | rfl | decide)

@[simp] theorem execFnRestore_mask {K : Nat} (r : Req) (n flags len addr : Nat) (dieMap : List Nat) (s : State) (h : Covers K 0x203e182050040000000000000000000000000000000000000000000000000000000000009e9800fff80000fde0781c00000010021fe105027fc0000000000001fa00005df924) : Kept K s (execFnRestore r n flags len addr dieMap s) := kept_mono h (by
  simp only [execFnRestore]
  refine kept_next.2 (State.serve_mask _ _ _ _ _ (by decide) (fun t => ?_))
  refine st_mask_ite (fun _ => rfl) (fun _ => ?_)
  refine st_mask_ite (fun _ => rfl) (fun _ => ?_)
  refine st_mask_ite (fun _ => rfl) (fun _ => ?_)
  split
  · simp (disch := decide) only [reply_st, State.fabLog_mask]
  · rename_i hq
    exact State.copyUes_mask hq (by decide)
  split
  · rfl
  refine st_mask_ite (fun _ => rfl) (fun _ => ?_)
  split
  · rfl
  repeat' refine st_mask_ite (fun _ => rfl) (fun _ => ?_)
  split
  · rfl
  · rename_i u hq
    change State.mask _ u = _
    repeat' split at hq
    all_goals first
      | (cases hq; done)
      | exact State.putRecs_mask hq (by decide)
      | exact State.restoreHere_mask hq (by decide))

@[simp] theorem execFnThaw_mask {K : Nat} (r : Req) (n : Nat) (s : State) (h : Covers K 0x203e18205004000000000000000000000000000000000000000000000000000000000000021800fff80000fde0781c00000010021fe105020000000000000001fa00005df924) : Kept K s (execFnThaw r n s) := kept_mono h (by
  simp only [execFnThaw]
  repeat' (first | with_reducible rfl | decide | with_reducible refine kept_next.2 ?_ | with_reducible refine (State.serve_mask _ _ _ _ _ ?_ (fun t => ?_)).trans ?_ | (simp (disch := first | exact .inl rfl | exact .inr rfl | rfl | decide) only [mask_mk, ite_mask, ite_self, kept_next, ite_st, reply_st, later_st, State.thawFn_mask]; done) | split | dsimp only))

end Sys2Proof.Machine
end

