-- ==== Sys2Proof/Laws/KeepsMirror.lean ====
section
/-!
SUPPORT. Laws/KeepsMirror.lean: what each operation of Machine/Mirror.lean leaves alone: a mask (Laws/Mask.lean) that covers what the operation may write sees no
difference between the state before and the state after.
-/
set_option linter.unusedSimpArgs false
set_option linter.unusedVariables false

namespace Sys2Proof.Machine

@[simp] theorem State.setPair_mask {K : Nat} (s : State) (d p : Nat) (x : ApPairRun) (h : Covers K 0x100000000000000000000000000000000000000000000000000000000000000000000000000000000000000000000000000000000000000000000000800000) : (State.setPair s d p x).mask K = s.mask K := mask_mono h (by
  simp only [State.setPair]
  repeat' (first | with_reducible rfl | decide | (simp (disch := first | exact .inl rfl | exact .inr rfl | rfl | decide) only [mask_mk, ite_mask, ite_self, State.showSeq_mask]; done) | split | dsimp only))

@[simp] theorem State.releaseLines_mask {K : Nat} (s : State) (d a : Nat) (ls : List (Nat × Byte)) (h : Covers K 0x203e18200000000000000000000000000000000000000000000000000000000000000000000000000000000000000000000000021fe10402000000000000000000000010e820) : (State.releaseLines s d a ls).mask K = s.mask K := mask_mono h (by
  simp only [State.releaseLines]
  repeat' (first | with_reducible rfl | decide | (simp (disch := first | exact .inl rfl | exact .inr rfl | rfl | decide) only [mask_mk, ite_mask, ite_self, State.stores_mask]; done) | split | dsimp only))

@[simp] theorem State.pairEvent_mask {K : Nat} (s : State) (d p outcome : Nat) (h : Covers K 0x4020000000000000000000000004800) : (State.pairEvent s d p outcome).mask K = s.mask K := mask_mono h (by
  simp only [State.pairEvent]
  repeat' (first | with_reducible rfl | decide | (simp (disch := first | exact .inl rfl | exact .inr rfl | rfl | decide) only [mask_mk, ite_mask, ite_self, State.raise_mask]; done) | split | dsimp only))

@[simp] theorem State.removeAp_mask {K : Nat} (s : State) (d a : Nat) (h : Covers K 0x10040000000000000000000000000000000000000000000000000000000000000000000000000000000000000000000000000000000000000000000000000400) : (State.removeAp s d a).mask K = s.mask K := mask_mono h (by
  simp only [State.removeAp]
  repeat' (first | with_reducible rfl | decide | (simp (disch := first | exact .inl rfl | exact .inr rfl | rfl | decide) only [mask_mk, ite_mask, ite_self, State.flag_mask, State.setFld_mask]; done) | split | dsimp only))

@[simp] theorem State.pairStops_mask {K : Nat} (s : State) (d p : Nat) (degraded : Bool) (h : Covers K 0x60000000000000000000000000000000000000000000000000000000000000000000000000000000000000000000000000000000000000000000000000000000) : (State.pairStops s d p degraded).mask K = s.mask K := mask_mono h (by
  simp only [State.pairStops]
  repeat' (first | with_reducible rfl | decide | (simp (disch := first | exact .inl rfl | exact .inr rfl | rfl | decide) only [mask_mk, ite_mask, ite_self, State.setFld_mask]; done) | split | dsimp only))

@[simp] theorem State.pairLost_mask {K : Nat} (s : State) (d p outcome : Nat) (h : Covers K 0x203e182000007096000000000000000000000000000000000000000000000000000000000000000000000000000000000000000000000402000000000000000000000090cc00) : (State.pairLost s d p outcome).mask K = s.mask K := mask_mono h (by
  simp only [State.pairLost]
  repeat' (first | with_reducible rfl | decide | (simp (disch := first | exact .inl rfl | exact .inr rfl | rfl | decide) only [mask_mk, ite_mask, ite_self, State.countPersistent_mask, State.flag_mask, State.pairEvent_mask, State.pairStops_mask, State.removeAp_mask, State.setPair_mask, State.source_mask]; done) | split | dsimp only))

@[simp] theorem execApCheckpoint_mask {K : Nat} (d p : Nat) (lines : PairLines) (equal : Bool) (s : State) (h : Covers K 0x203e1820000071be00000000000000000000000000000000000000000000000000000000000000000000000000000000000000021fe10402000000000000000000000090ec20) : Kept K s (execApCheckpoint d p lines equal s) := kept_mono h (by
  simp only [execApCheckpoint]
  repeat' (first | with_reducible rfl | decide | with_reducible refine kept_next.2 ?_ | (simp (disch := first | exact .inl rfl | exact .inr rfl | rfl | decide) only [mask_mk, ite_mask, ite_self, kept_next, State.countTransient_mask, State.flag_mask, State.pairEvent_mask, State.pairLost_mask, State.releaseLines_mask, State.setPair_mask]; done) | split | dsimp only))

@[simp] theorem execApPairSelftestEnd_mask {K : Nat} (d p : Nat) (mainPass checkerPass : Bool) (s : State) (h : Covers K 0x203e18200000709600000000000000000000000000000000000000000000000000000000000000000000000000000000000000021fe10402000000000000000000000090ec20) : Kept K s (execApPairSelftestEnd d p mainPass checkerPass s) := kept_mono h (by
  simp only [execApPairSelftestEnd]
  repeat' (first | with_reducible rfl | decide | with_reducible refine kept_next.2 ?_ | (simp (disch := first | exact .inl rfl | exact .inr rfl | rfl | decide) only [mask_mk, ite_mask, ite_self, kept_next, State.countPersistent_mask, State.pairEvent_mask, State.pairLost_mask, State.pairStops_mask, State.releaseLines_mask, State.removeAp_mask, State.setPair_mask, State.source_mask]; done) | split | dsimp only))

@[simp] theorem execDebugAction_mask {K : Nat} (d p : Nat) (a : DebugAct) (s : State) (h : Covers K 0x203e18200000001000000000000000000000000000000000000000000000000000000000000000000000000000000000000000021fe10402000000000000000000000090e828) : Kept K s (execDebugAction d p a s) := kept_mono h (by
  simp only [execDebugAction]
  repeat' (first | with_reducible rfl | decide | with_reducible refine kept_next.2 ?_ | (simp (disch := first | exact .inl rfl | exact .inr rfl | rfl | decide) only [mask_mk, ite_mask, ite_self, kept_next, State.releaseLines_mask, State.setPair_mask]; done) | split | dsimp only))

@[simp] theorem execChkQuery_mask {K : Nat} (r : Req) (d : Nat) (s : State) (h : Covers K 0x80000000000000000000000000000000001000000000000000000000000015804) : Kept K s (execChkQuery r d s) := kept_mono h (by
  simp only [execChkQuery]
  repeat' (first | with_reducible rfl | decide | with_reducible refine kept_next.2 ?_ | with_reducible refine (State.serve_mask _ _ _ _ _ ?_ (fun t => ?_)).trans ?_ | (simp (disch := first | exact .inl rfl | exact .inr rfl | rfl | decide) only [mask_mk, ite_mask, ite_self, kept_next, ite_st, reply_st, later_st]; done) | split | dsimp only))

@[simp] theorem State.corePassed_mask {K : Nat} (s : State) (d c : Nat) (h : Covers K 0x170000000000000000000000000000000000000000000000000000000000000000000000000000000000000000000000000000000000000000000000000000000000000000100000) : (State.corePassed s d c).mask K = s.mask K := mask_mono h (by
  simp only [State.corePassed]
  repeat' (first | with_reducible rfl | decide | (simp (disch := first | exact .inl rfl | exact .inr rfl | rfl | decide) only [mask_mk, ite_mask, ite_self, State.setFlds_nil_mask, State.setFlds_cons_mask, State.setFld_mask]; done) | split | dsimp only))

@[simp] theorem execChkRestore_mask {K : Nat} (r : Req) (d kind i : Nat) (passes : List Bool) (s : State) (h : Covers K 0x170000000000000010400000000000000000000000000000000000000000000000000000000000080000000000000000000000000000000001000000000000000000000000115c04) : Kept K s (execChkRestore r d kind i passes s) := kept_mono h (by
  simp only [execChkRestore]
  repeat' (first | with_reducible rfl | decide | with_reducible refine kept_next.2 ?_ | with_reducible refine (State.serve_mask _ _ _ _ _ ?_ (fun t => ?_)).trans ?_ | (simp (disch := first | exact .inl rfl | exact .inr rfl | rfl | decide) only [mask_mk, ite_mask, ite_self, kept_next, ite_st, reply_st, later_st, State.corePassed_mask, State.setFld_mask]; done) | split | dsimp only))

@[simp] theorem execAppairSet_mask {K : Nat} (r : Req) (d p en : Nat) (s : State) (h : Covers K 0xc000000000000000000000000000000000000000000000000000000000000080000000000000000000000000000000001000000000000000000000000015804) : Kept K s (execAppairSet r d p en s) := kept_mono h (by
  simp only [execAppairSet]
  repeat' (first | with_reducible rfl | decide | with_reducible refine kept_next.2 ?_ | with_reducible refine (State.serve_mask _ _ _ _ _ ?_ (fun t => ?_)).trans ?_ | (simp (disch := first | exact .inl rfl | exact .inr rfl | rfl | decide) only [mask_mk, ite_mask, ite_self, kept_next, ite_st, reply_st, later_st, State.setFld_mask]; done) | split | dsimp only))

@[simp] theorem State.sendImage_mask {K : Nat} (s : State) (i : Nat) (asked : List Req) (h : Covers K 0x2100000000000000000000000000000000000000000000000000000000000000000000000000000000000000000000000000000000000000000000000000000410000) : (State.sendImage s i asked).mask K = s.mask K := mask_mono h (by
  simp only [State.sendImage]
  repeat' (first | with_reducible rfl | decide | (simp (disch := first | exact .inl rfl | exact .inr rfl | rfl | decide) only [mask_mk, ite_mask, ite_self, State.send_mask, State.setFld_mask]; done) | split | dsimp only))

@[simp] theorem State.sendImages_mask {K : Nat} (s : State) (which : State → Nat → Bool) (h : Covers K 0x2100000000000000000000000000000000000000000000000000000000000000000000000000000000000000000000000000000000000000000000000000000410000) : (State.sendImages s which).mask K = s.mask K := mask_mono h (by
  simp only [State.sendImages]
  repeat' (first | with_reducible rfl | decide | with_reducible refine (mask_foldl _ (fun t e => ?_) _ _).trans ?_ | (simp (disch := first | exact .inl rfl | exact .inr rfl | rfl | decide) only [mask_mk, ite_mask, ite_self, State.sendImage_mask]; done) | split | dsimp only))

@[simp] theorem State.pairLink_mask {K : Nat} (s : State) (why : Nat) (h : Covers K 0x4020000000000000000000000004800) : (State.pairLink s why).mask K = s.mask K := mask_mono h (by
  simp only [State.pairLink]
  repeat' (first | with_reducible rfl | decide | (simp (disch := first | exact .inl rfl | exact .inr rfl | rfl | decide) only [mask_mk, ite_mask, ite_self, State.raise_mask]; done) | split | dsimp only))

@[simp] theorem State.synced_mask {K : Nat} (s : State) (h : Covers K 0x400000000000000000000000000000000000000000000000000000000000000000000000000000000000000000000000004020000000000000000000000004800) : (State.synced s).mask K = s.mask K := mask_mono h (by
  simp only [State.synced]
  repeat' (first | with_reducible rfl | decide | (simp (disch := first | exact .inl rfl | exact .inr rfl | rfl | decide) only [mask_mk, ite_mask, ite_self, State.pairLink_mask, State.setFld_mask]; done) | split | dsimp only))

@[simp] theorem State.resync_mask {K : Nat} (s : State) (h : Covers K 0x2500400000000000000000000000000000000000000000000000000000000000000000000000000000000000000000000000004020000000000000000000000414800) : (State.resync s).mask K = s.mask K := mask_mono h (by
  simp only [State.resync]
  repeat' (first | with_reducible rfl | decide | (simp (disch := first | exact .inl rfl | exact .inr rfl | rfl | decide) only [mask_mk, ite_mask, ite_self, State.sendImages_mask, State.setFld_mask, State.synced_mask]; done) | split | dsimp only))

@[simp] theorem execMirrorPortTrained_mask {K : Nat} (lanes code : Nat) (partner : PartnerId) (s : State) (h : Covers K 0x250670000000000000000000000000000000000000000000000000000000000000000000000000000000000000000000000000402000000000000000000000061c804) : Kept K s (execMirrorPortTrained lanes code partner s) := kept_mono h (by
  simp only [execMirrorPortTrained]
  repeat' (first | with_reducible rfl | decide | with_reducible refine kept_next.2 ?_ | (simp (disch := first | exact .inl rfl | exact .inr rfl | rfl | decide) only [mask_mk, ite_mask, ite_self, kept_next, State.flag_mask, State.resync_mask, State.sendImages_mask, State.setFld_mask, State.titheAdd_mask]; done) | split | dsimp only))

@[simp] theorem execPairDiscoveryWindowEnd_mask {K : Nat} (s : State) (h : Covers K 0x400000) : Kept K s (execPairDiscoveryWindowEnd s) := kept_mono h (by
  simp only [execPairDiscoveryWindowEnd]
  repeat' (first | with_reducible rfl | decide | with_reducible refine kept_next.2 ?_ | (simp (disch := first | exact .inl rfl | exact .inr rfl | rfl | decide) only [mask_mk, ite_mask, ite_self, kept_next]; done) | split | dsimp only))

@[simp] theorem execMirrorLaneLoss_mask {K : Nat} (lane : Nat) (s : State) (h : Covers K 0x203e182000250000000000000000000000000000000000000000000000000000000000000008000000000000000000000000000000000502000000000000000000000051c800) : Kept K s (execMirrorLaneLoss lane s) := kept_mono h (by
  simp only [execMirrorLaneLoss]
  repeat' (first | with_reducible rfl | decide | with_reducible refine kept_next.2 ?_ | (simp (disch := first | exact .inl rfl | exact .inr rfl | rfl | decide) only [mask_mk, ite_mask, ite_self, kept_next, State.pairLink_mask, State.setFld_mask, State.unsync_mask]; done) | split | dsimp only))

@[simp] theorem State.suppress_mask {K : Nat} (s : State) (fn : Dom) (h : Covers K 0x203e1820500400000000000000000000000000000000000000000000000000000000000002180040000000fde0781c00000000021fe1050200000000000000000000005de824) : (State.suppress s fn).mask K = s.mask K := mask_mono h (by
  simp only [State.suppress]
  repeat' (first | with_reducible rfl | decide | with_reducible refine (mask_foldl _ (fun t e => ?_) _ _).trans ?_ | (simp (disch := first | exact .inl rfl | exact .inr rfl | rfl | decide) only [mask_mk, ite_mask, ite_self, State.freezeCheck_mask, State.freezeQueues_mask, State.killWhere_mask, State.setMb_mask]; done) | split | dsimp only | simp (disch := first | exact .inl rfl | exact .inr rfl | rfl | decide) only [mask_mk, ite_mask, ite_self, State.freezeCheck_mask, State.freezeQueues_mask, State.killWhere_mask, State.setMb_mask]))

@[simp] theorem State.demote_mask {K : Nat} (s : State) (h : Covers K 0x203e1820504400000000000000000000000000000000000000000000000000000000000002180040000000fde0781c00000000021fe1050200000000000000000000005de824) : (State.demote s).mask K = s.mask K := mask_mono h (by
  simp only [State.demote]
  repeat' (first | with_reducible rfl | decide | with_reducible refine (mask_foldl _ (fun t e => ?_) _ _).trans ?_ | (simp (disch := first | exact .inl rfl | exact .inr rfl | rfl | decide) only [mask_mk, ite_mask, ite_self, State.setFlds_nil_mask, State.setFlds_cons_mask, State.setFld_mask, State.dropImages_mask, State.suppress_mask]; done) | split | dsimp only))

@[simp] theorem State.failoverEvent_mask {K : Nat} (s : State) (cause : Nat) (h : Covers K 0x402000000000000000000000000c800) : (State.failoverEvent s cause).mask K = s.mask K := mask_mono h (by
  simp only [State.failoverEvent]
  repeat' (first | with_reducible rfl | decide | (simp (disch := first | exact .inl rfl | exact .inr rfl | rfl | decide) only [mask_mk, ite_mask, ite_self, State.raise_mask, State.titheAdd_mask]; done) | split | dsimp only))

@[simp] theorem State.takeover_mask {K : Nat} (s : State) (cause : Nat) (h : Covers K 0x203e18225044000000000000000000000000000000000000000000000000000000000000021800fff80000fde0781c00000010021fe105020000000000000001fa00005df924) : (State.takeover s cause).mask K = s.mask K := mask_mono h (by
  simp only [State.takeover]
  repeat' (first | with_reducible rfl | decide | with_reducible refine (mask_foldl _ (fun t e => ?_) _ _).trans ?_ | (simp (disch := first | exact .inl rfl | exact .inr rfl | rfl | decide) only [mask_mk, ite_mask, ite_self, State.failoverEvent_mask, State.setFld_mask, State.stopActivation_mask, State.thawFn_mask, State.unsync_mask]; done) | split | dsimp only | simp (disch := first | exact .inl rfl | exact .inr rfl | rfl | decide) only [mask_mk, ite_mask, ite_self, State.failoverEvent_mask, State.setFld_mask, State.stopActivation_mask, State.thawFn_mask, State.unsync_mask]))

@[simp] theorem execMirrorTransferRx_mask {K : Nat} (seq n : Nat) (records : List MirrorRec) (s : State) (h : Covers K 0x203e182770040000000000000000000000000000000000000000000000000000000000009e9800fff80000fde0781c00000010021fe105020000000000000001fa00005de924) : Kept K s (execMirrorTransferRx seq n records s) := kept_mono h (by
  simp only [execMirrorTransferRx]
  repeat' split
  all_goals first
    | exact kept_next.2 rfl
    | (rename_i hq
       have e := State.putRecs_mask (K := 0x203e182770040000000000000000000000000000000000000000000000000000000000009e9800fff80000fde0781c00000010021fe105020000000000000001fa00005de924) hq (by decide)
       refine kept_next.2 (Eq.trans ?_ (e.trans ?_))
       · simp (disch := first | exact .inl rfl | exact .inr rfl | rfl | decide) only [mask_mk, State.setFlds_nil_mask, State.setFlds_cons_mask, State.setFld_mask, State.send_mask, State.holdFrozen_mask]
       · simp (disch := first | exact .inl rfl | exact .inr rfl | rfl | decide) only [State.setFlds_nil_mask, State.setFlds_cons_mask, State.setFld_mask, State.clearFn_mask]))

@[simp] theorem execMirrorAckRx_mask {K : Nat} (seq : Nat) (s : State) (h : Covers K 0x2600400000000000000000000000000000000000000000000000000000000000000080000000000000000000000000000000005020000000000000000000000414800) : Kept K s (execMirrorAckRx seq s) := kept_mono h (by
  simp only [execMirrorAckRx]
  repeat' (first | with_reducible rfl | decide | with_reducible refine kept_next.2 ?_ | with_reducible refine (mask_foldl _ (fun t e => ?_) _ _).trans ?_ | (simp (disch := first | exact .inl rfl | exact .inr rfl | rfl | decide) only [mask_mk, ite_mask, ite_self, kept_next, State.answer_mask, State.setFld_mask, State.synced_mask]; done) | split | dsimp only | simp (disch := first | exact .inl rfl | exact .inr rfl | rfl | decide) only [mask_mk, ite_mask, ite_self, kept_next, State.answer_mask, State.setFld_mask, State.synced_mask]))

@[simp] theorem execHeartbeatSend_mask {K : Nat} (s : State) (h : Covers K 0x203e1820504400000000000000000000000000000000000000000000000000000000000002180040000000fde0781c00000000021fe1050200000000000000000000005dea24) : Kept K s (execHeartbeatSend s) := kept_mono h (by
  simp only [execHeartbeatSend]
  repeat' (first | with_reducible rfl | decide | with_reducible refine kept_next.2 ?_ | (simp (disch := first | exact .inl rfl | exact .inr rfl | rfl | decide) only [mask_mk, ite_mask, ite_self, kept_next, State.demote_mask, State.send_mask]; done) | split | dsimp only))

@[simp] theorem State.handoverDone_mask {K : Nat} (s : State) (h : Covers K 0x4800000000000000000000000000000000000000000000000000000000000000080000000000000000000000000000000001000000000000000000000000494800) : (State.handoverDone s).mask K = s.mask K := mask_mono h (by
  simp only [State.handoverDone]
  repeat' (first | with_reducible rfl | decide | (simp (disch := first | exact .inl rfl | exact .inr rfl | rfl | decide) only [mask_mk, ite_mask, ite_self, State.setFlds_nil_mask, State.setFlds_cons_mask, State.setFld_mask, State.answer_mask]; done) | split | dsimp only))

@[simp] theorem execHeartbeatRx_mask {K : Nat} (alternate : Bool) (x1 : Heartbeat) (s : State) (h : Covers K 0x203e1822505c000000000000000000000000000000000000000000000000000000000000021800fff80000fde0781c00000010021fe105020000000000000001fa00005df924) : Kept K s (execHeartbeatRx alternate x1 s) := kept_mono h (by
  simp only [execHeartbeatRx]
  repeat' (first | with_reducible rfl | decide | with_reducible refine kept_next.2 ?_ | (simp (disch := first | exact .inl rfl | exact .inr rfl | rfl | decide) only [mask_mk, ite_mask, ite_self, kept_next, State.demote_mask, State.failoverEvent_mask, State.flag_mask, State.handoverDone_mask, State.raise_mask, State.resync_mask, State.setFld_mask, State.takeover_mask]; done) | split | dsimp only))

@[simp] theorem execHeartbeatMissed_mask {K : Nat} (alternate : Bool) (s : State) (h : Covers K 0x203e1822d0dc000000000000000000000000000000000000000000000000000000000000021800fff80000fde0781c00000010021fe105020000000000000001fa00005df924) : Kept K s (execHeartbeatMissed alternate s) := kept_mono h (by
  simp only [execHeartbeatMissed]
  repeat' (first | with_reducible rfl | decide | with_reducible refine kept_next.2 ?_ | (simp (disch := first | exact .inl rfl | exact .inr rfl | rfl | decide) only [mask_mk, ite_mask, ite_self, kept_next, State.abortHandover_mask, State.addSat_mask, State.flag_mask, State.pairLink_mask, State.setFld_mask, State.takeover_mask, State.titheAdd_mask, State.unsync_mask]; done) | split | dsimp only))

@[simp] theorem execPairSet_mask {K : Nat} (r : Req) (en role altEn altPort altMac : Nat) (s : State) (h : Covers K 0xf0000000000000000000000000000000000000000000000000000000000000000080000000000000000000000000000000001000000000000000000000000415804) : Kept K s (execPairSet r en role altEn altPort altMac s) := kept_mono h (by
  simp only [execPairSet]
  repeat' (first | with_reducible rfl | decide | with_reducible refine kept_next.2 ?_ | with_reducible refine (State.serve_mask _ _ _ _ _ ?_ (fun t => ?_)).trans ?_ | (simp (disch := first | exact .inl rfl | exact .inr rfl | rfl | decide) only [mask_mk, ite_mask, ite_self, kept_next, ite_st, reply_st, later_st, State.setFlds_nil_mask, State.setFlds_cons_mask, State.setFld_mask]; done) | split | dsimp only))

@[simp] theorem execPairMirror_mask {K : Nat} (r : Req) (n en : Nat) (s : State) (h : Covers K 0x7100000000000000000000000000000000000000000000000000000000000000000080000000000000000000000000000000001000000000000000000000000415804) : Kept K s (execPairMirror r n en s) := kept_mono h (by
  simp only [execPairMirror]
  repeat' (first | with_reducible rfl | decide | with_reducible refine kept_next.2 ?_ | with_reducible refine (State.serve_mask _ _ _ _ _ ?_ (fun t => ?_)).trans ?_ | (simp (disch := first | exact .inl rfl | exact .inr rfl | rfl | decide) only [mask_mk, ite_mask, ite_self, kept_next, ite_st, reply_st, later_st, State.setFlds_nil_mask, State.setFlds_cons_mask, State.setFld_mask, State.dropImages_mask, State.sendImage_mask]; done) | split | dsimp only))

@[simp] theorem execPairHandover_mask {K : Nat} (r : Req) (s : State) (h : Covers K 0x203e1820500c00000000000000000000000000000000000000000000000000000000000002180040000000fde0781c00000000021fe1050200000000000000000000005df824) : Kept K s (execPairHandover r s) := kept_mono h (by
  simp only [execPairHandover]
  repeat' (first | with_reducible rfl | decide | with_reducible refine kept_next.2 ?_ | with_reducible refine (mask_foldl _ (fun t e => ?_) _ _).trans ?_ | with_reducible refine (State.serve_mask _ _ _ _ _ ?_ (fun t => ?_)).trans ?_ | (simp (disch := first | exact .inl rfl | exact .inr rfl | rfl | decide) only [mask_mk, ite_mask, ite_self, kept_next, ite_st, reply_st, later_st, State.beginFreeze_mask, State.flag_mask]; done) | split | dsimp only | simp (disch := first | exact .inl rfl | exact .inr rfl | rfl | decide) only [mask_mk, ite_mask, ite_self, kept_next, ite_st, reply_st, later_st, State.beginFreeze_mask, State.flag_mask]))

@[simp] theorem execPairQuery_mask {K : Nat} (r : Req) (s : State) (h : Covers K 0x80000000000000000000000000000000001000000000000000000000000015804) : Kept K s (execPairQuery r s) := kept_mono h (by
  simp only [execPairQuery]
  repeat' (first | with_reducible rfl | decide | with_reducible refine kept_next.2 ?_ | with_reducible refine (State.serve_mask _ _ _ _ _ ?_ (fun t => ?_)).trans ?_ | (simp (disch := first | exact .inl rfl | exact .inr rfl | rfl | decide) only [mask_mk, ite_mask, ite_self, kept_next, ite_st, reply_st, later_st]; done) | split | dsimp only))

@[simp] theorem wrMirrorFn_mask {K : Nat} (i data : Nat) (s : State) (h : Covers K 0x7100200000000000000000000000000000000000000000000000000000000000000080000000000000000000000000000000001000000000000000000000000414800) : (wrMirrorFn i data s).mask K = s.mask K := mask_mono h (by
  simp only [wrMirrorFn]
  repeat' (first | with_reducible rfl | decide | (simp (disch := first | exact .inl rfl | exact .inr rfl | rfl | decide) only [mask_mk, ite_mask, ite_self, State.dropImages_mask, State.flag_mask, State.sendImage_mask, State.setFld_mask]; done) | split | dsimp only))

@[simp] theorem execMirrorFnWrite_mask {K : Nat} (m : Master) (i : Nat) (data : Word) (s : State) (h : Covers K 0x7100200000000000000000000000000000000000000000000000000000000000000080000000000000000000000000000000005027fc0000000000000000000414888) : Kept K s (execMirrorFnWrite m i data s) := kept_mono h (by
  simp only [execMirrorFnWrite]
  repeat' (first | with_reducible rfl | decide | with_reducible refine kept_next.2 ?_ | with_reducible refine (State.guarded_mask _ _ _ _ _ _ ?_ (fun t => ?_)).trans ?_ | with_reducible refine (State.regWrite_mask _ _ _ _ _ _ _ ?_ (fun t => ?_)).trans ?_ | (simp (disch := first | exact .inl rfl | exact .inr rfl | rfl | decide) only [mask_mk, ite_mask, ite_self, kept_next, wrMirrorFn_mask]; done) | split | dsimp only))

@[simp] theorem wrMirrorCfg_mask {K : Nat} (data : Nat) (s : State) (h : Covers K 0xf0200000000000000000000000000000000000000000000000000000000000000000000000000000000000000000000000000000000000000000000000000000000) : (wrMirrorCfg data s).mask K = s.mask K := mask_mono h (by
  simp only [wrMirrorCfg]
  repeat' (first | with_reducible rfl | decide | (simp (disch := first | exact .inl rfl | exact .inr rfl | rfl | decide) only [mask_mk, ite_mask, ite_self, State.setFlds_nil_mask, State.setFlds_cons_mask, State.setFld_mask, State.flag_mask]; done) | split | dsimp only))

end Sys2Proof.Machine
end

