-- ==== Sys2Proof/Laws/KeepsOdo.lean ====
section
/-!
SUPPORT. Laws/KeepsOdo.lean: what each operation of Machine/Odo.lean leaves alone: a mask (Laws/Mask.lean) that covers what the operation may write sees no
difference between the state before and the state after.
-/
set_option linter.unusedSimpArgs false
set_option linter.unusedVariables false

namespace Sys2Proof.Machine

@[simp] theorem State.setOdo_mask {K : Nat} (s : State) (n : Nat) (o : OdoState) (h : Covers K 0x8000000) : (State.setOdo s n o).mask K = s.mask K := mask_mono h (by
  simp only [State.setOdo]
  repeat' (first | with_reducible rfl | decide | (simp (disch := first | exact .inl rfl | exact .inr rfl | rfl | decide) only [mask_mk, ite_mask, ite_self]; done) | split | dsimp only))

@[simp] theorem State.trgDistance_mask {K : Nat} (a b : Int) (s : State) (n : Nat) (h : Covers K 0xc0000000000000000000000000000000000000000000000000000000000000000000000004020000000000000000000000024800) : (State.trgDistance a b s n).mask K = s.mask K := mask_mono h (by
  simp only [State.trgDistance]
  repeat' (first | with_reducible rfl | decide | (simp (disch := first | exact .inl rfl | exact .inr rfl | rfl | decide) only [mask_mk, ite_mask, ite_self, State.fire_mask, State.missed_mask]; done) | split | dsimp only))

@[simp] theorem State.distMove_mask {K : Nat} (s : State) (ch : Nat) (delta : Int) (h : Covers K 0xc0000000000800000000000000000000000000000000000000000000000000000000000004020000000000000000000000024800) : (State.distMove s ch delta).mask K = s.mask K := mask_mono h (by
  simp only [State.distMove]
  repeat' (first | with_reducible rfl | decide | with_reducible refine (mask_foldl _ (fun t e => ?_) _ _).trans ?_ | (simp (disch := first | exact .inl rfl | exact .inr rfl | rfl | decide) only [mask_mk, ite_mask, ite_self, State.setFld_mask, State.trgDistance_mask]; done) | split | dsimp only))

@[simp] theorem State.distPreset_mask {K : Nat} (s : State) (ch v : Nat) (h : Covers K 0x800000000000000000000000000000000000000000000000000000000000000000000000000000000000008020000) : (State.distPreset s ch v).mask K = s.mask K := mask_mono h (by
  simp only [State.distPreset]
  repeat' (first | with_reducible rfl | decide | with_reducible refine (mask_foldl _ (fun t e => ?_) _ _).trans ?_ | (simp (disch := first | exact .inl rfl | exact .inr rfl | rfl | decide) only [mask_mk, ite_mask, ite_self, State.setFld_mask, State.setOdo_mask]; done) | split | dsimp only))

@[simp] theorem State.odoEvent_mask {K : Nat} (s : State) (e : Ev) (ch : Nat) (h : Covers K 0x203e182000000000000000000000000000000000000000000000000000000000000000000000000000000000000000000000000000000402000000000000000000000010c800) : (State.odoEvent s e ch).mask K = s.mask K := mask_mono h (by
  simp only [State.odoEvent]
  repeat' (first | with_reducible rfl | decide | (simp (disch := first | exact .inl rfl | exact .inr rfl | rfl | decide) only [mask_mk, ite_mask, ite_self, State.raise_mask, State.source_mask]; done) | split | dsimp only))

@[simp] theorem State.odoFault_mask {K : Nat} (s : State) (ch : Nat) (h : Covers K 0x203e182000000000000000000000000000000000000000000040000000000000000000000000000000000000000000000000000000000402000000000000000000000010c800) : (State.odoFault s ch).mask K = s.mask K := mask_mono h (by
  simp only [State.odoFault]
  repeat' (first | with_reducible rfl | decide | (simp (disch := first | exact .inl rfl | exact .inr rfl | rfl | decide) only [mask_mk, ite_mask, ite_self, State.odoEvent_mask, State.setFld_mask]; done) | split | dsimp only))

@[simp] theorem execOdoEdgeAccept_mask {K : Nat} (ch : Nat) (x y : Bool) (s : State) (h : Covers K 0x203e18200000000000000000000000000000c0000000004c0040000000000000000000000000000000000000000000000000000000000402000000000000000000000812c900) : Kept K s (execOdoEdgeAccept ch x y s) := kept_mono h (by
  simp only [execOdoEdgeAccept]
  repeat' (first | with_reducible rfl | decide | with_reducible refine kept_next.2 ?_ | (simp (disch := first | exact .inl rfl | exact .inr rfl | rfl | decide) only [mask_mk, ite_mask, ite_self, kept_next, State.addSat_mask, State.distMove_mask, State.odoFault_mask, State.setFld_mask, State.setOdo_mask, State.setPad_mask]; done) | split | dsimp only))

@[simp] theorem execOdoZEdge_mask {K : Nat} (ch : Nat) (s : State) (h : Covers K 0x203e1820000000000000000000000000000000000000001000c0000000000000000000000000000000000000000000000000000000000402000000000000000000000810c800) : Kept K s (execOdoZEdge ch s) := kept_mono h (by
  simp only [execOdoZEdge]
  repeat' (first | with_reducible rfl | decide | with_reducible refine kept_next.2 ?_ | (simp (disch := first | exact .inl rfl | exact .inr rfl | rfl | decide) only [mask_mk, ite_mask, ite_self, kept_next, State.odoFault_mask, State.setFld_mask, State.setOdo_mask]; done) | split | dsimp only))

@[simp] theorem execTachEdge_mask {K : Nat} (m cycles : Nat) (s : State) (h : Covers K 0x40000000000000000000000000000000000000000000000000000000000000000000000000000000000000030000000) : Kept K s (execTachEdge m cycles s) := kept_mono h (by
  simp only [execTachEdge]
  repeat' (first | with_reducible rfl | decide | with_reducible refine kept_next.2 ?_ | (simp (disch := first | exact .inl rfl | exact .inr rfl | rfl | decide) only [mask_mk, ite_mask, ite_self, kept_next, State.setFld_mask]; done) | split | dsimp only))

@[simp] theorem State.odoWindow_mask {K : Nat} (speeds : List Int) (s : State) (ch : Nat) (h : Covers K 0x203e18200000000000000000000000000000c000000000280030000000000000000000000000000000000000000000000000000000000402000000000000000000000812c800) : (State.odoWindow speeds s ch).mask K = s.mask K := mask_mono h (by
  simp only [State.odoWindow]
  repeat' (first | with_reducible rfl | decide | (simp (disch := first | exact .inl rfl | exact .inr rfl | rfl | decide) only [mask_mk, ite_mask, ite_self, State.setFlds_nil_mask, State.setFlds_cons_mask, State.setFld_mask, State.distMove_mask, State.odoEvent_mask, State.setOdo_mask]; done) | split | dsimp only))

@[simp] theorem execOdoWindowEnd_mask {K : Nat} (s : State) (h : Covers K 0x203e18200000000000000000000000000000c000000002280030000000000000000000000000000000000000000000000000000000000402000000000000000000001812c800) : Kept K s (execOdoWindowEnd s) := kept_mono h (by
  simp only [execOdoWindowEnd]
  repeat' (first | with_reducible rfl | decide | with_reducible refine kept_next.2 ?_ | with_reducible refine (mask_foldl _ (fun t e => ?_) _ _).trans ?_ | (simp (disch := first | exact .inl rfl | exact .inr rfl | rfl | decide) only [mask_mk, ite_mask, ite_self, kept_next, State.odoWindow_mask, State.setFld_mask]; done) | split | dsimp only | simp (disch := first | exact .inl rfl | exact .inr rfl | rfl | decide) only [mask_mk, ite_mask, ite_self, kept_next, State.odoWindow_mask, State.setFld_mask]))

@[simp] theorem State.odoCfgSet_mask {K : Nat} (s : State) (ch v : Nat) (h : Covers K 0x3f000000000000000000000000000000000000000000000000000000000000000000000000000000000000000000) : (State.odoCfgSet s ch v).mask K = s.mask K := mask_mono h (by
  simp only [State.odoCfgSet]
  repeat' (first | with_reducible rfl | decide | (simp (disch := first | exact .inl rfl | exact .inr rfl | rfl | decide) only [mask_mk, ite_mask, ite_self, State.setFlds_nil_mask, State.setFlds_cons_mask, State.setFld_mask]; done) | split | dsimp only))

@[simp] theorem State.odoSlipSet_mask {K : Nat} (s : State) (ch v : Nat) (h : Covers K 0x1c0000000000000000000000000000000000000000000000000000000000000000000000000000000000000000000) : (State.odoSlipSet s ch v).mask K = s.mask K := mask_mono h (by
  simp only [State.odoSlipSet]
  repeat' (first | with_reducible rfl | decide | (simp (disch := first | exact .inl rfl | exact .inr rfl | rfl | decide) only [mask_mk, ite_mask, ite_self, State.setFlds_nil_mask, State.setFlds_cons_mask, State.setFld_mask]; done) | split | dsimp only))

theorem State.odoWrite_mask {K : Nat} (s : State) (m : Master) (ch off : Nat) (eff : State → State) (h : Covers K 0x4027fc0000000000000000000004800) (he : ∀ t, (eff t).mask K = t.mask K) : (State.odoWrite s m ch off eff).mask K = s.mask K := by
  have hb : ∀ i, Nat.testBit 0x4027fc0000000000000000000004800 i = true → K.testBit i = true := fun i => testBit_of_land h
  have hl : ∀ j, Covers 0x4027fc0000000000000000000004800 j → Covers K j := fun j hj => land_trans h hj
  simp only [State.odoWrite]
  repeat' (first | with_reducible rfl | exact hl _ (by decide) | with_reducible refine (State.guarded_mask _ _ _ _ _ _ ?_ (fun t => ?_)).trans ?_ | (simp (disch := first | exact .inl (hb _ rfl) | exact .inr rfl | exact hl _ (by decide) | exact hb _ (by decide) | assumption | rfl) only [mask_mk, ite_mask, ite_self, he]; done) | split | dsimp only)

@[simp] theorem wrOdoCfg_mask {K : Nat} (m : Master) (ch data : Nat) (s : State) (h : Covers K 0x3f080000000000000000000000000000000000000000000000000000000004027fc0000000000000000000004800) : (wrOdoCfg m ch data s).mask K = s.mask K := mask_mono h (by
  simp only [wrOdoCfg]
  repeat' (first | with_reducible rfl | decide | with_reducible refine (State.odoWrite_mask _ _ _ _ _ ?_ (fun t => ?_)).trans ?_ | (simp (disch := first | exact .inl rfl | exact .inr rfl | rfl | decide) only [mask_mk, ite_mask, ite_self, State.flag_mask, State.odoCfgSet_mask]; done) | split | dsimp only))

@[simp] theorem wrOdoSlip_mask {K : Nat} (m : Master) (ch data : Nat) (s : State) (h : Covers K 0x1c0000000000000000000000000000000000000000000000000000000000004027fc0000000000000000000004800) : (wrOdoSlip m ch data s).mask K = s.mask K := mask_mono h (by
  simp only [wrOdoSlip]
  repeat' (first | with_reducible rfl | decide | with_reducible refine (State.odoWrite_mask _ _ _ _ _ ?_ (fun t => ?_)).trans ?_ | (simp (disch := first | exact .inl rfl | exact .inr rfl | rfl | decide) only [mask_mk, ite_mask, ite_self, State.odoSlipSet_mask]; done) | split | dsimp only))

@[simp] theorem wrOdoRatio_mask {K : Nat} (m : Master) (ch data : Nat) (s : State) (h : Covers K 0x200000000000000000000000000000000000000000000000000000000000004027fc0000000000000000000004800) : (wrOdoRatio m ch data s).mask K = s.mask K := mask_mono h (by
  simp only [wrOdoRatio]
  repeat' (first | with_reducible rfl | decide | with_reducible refine (State.odoWrite_mask _ _ _ _ _ ?_ (fun t => ?_)).trans ?_ | (simp (disch := first | exact .inl rfl | exact .inr rfl | rfl | decide) only [mask_mk, ite_mask, ite_self, State.setFld_mask]; done) | split | dsimp only))

@[simp] theorem wrOdoDistLo_mask {K : Nat} (m : Master) (ch data : Nat) (s : State) (h : Covers K 0x4027fc0000000000000000000004880) : (wrOdoDistLo m ch data s).mask K = s.mask K := mask_mono h (by
  simp only [wrOdoDistLo]
  repeat' (first | with_reducible rfl | decide | with_reducible refine (State.odoWrite_mask _ _ _ _ _ ?_ (fun t => ?_)).trans ?_ | (simp (disch := first | exact .inl rfl | exact .inr rfl | rfl | decide) only [mask_mk, ite_mask, ite_self, State.holdLow_mask]; done) | split | dsimp only))

@[simp] theorem wrOdoDistHi_mask {K : Nat} (m : Master) (ch data : Nat) (s : State) (h : Covers K 0x800000000000000000000000000000000000000000000000000000000000004027fc0000000000000000008024880) : (wrOdoDistHi m ch data s).mask K = s.mask K := mask_mono h (by
  simp only [wrOdoDistHi]
  repeat' (first | with_reducible rfl | decide | with_reducible refine (State.odoWrite_mask _ _ _ _ _ ?_ (fun t => ?_)).trans ?_ | (simp (disch := first | exact .inl rfl | exact .inr rfl | rfl | decide) only [mask_mk, ite_mask, ite_self, State.distPreset_mask, State.dropLow_mask]; done) | split | dsimp only))

@[simp] theorem State.tachSet_mask {K : Nat} (s : State) (k v : Nat) (h : Covers K 0x18000000000000000000000000000000000000000000000000000000000000000000000000000000000000020000000) : (State.tachSet s k v).mask K = s.mask K := mask_mono h (by
  simp only [State.tachSet]
  repeat' (first | with_reducible rfl | decide | (simp (disch := first | exact .inl rfl | exact .inr rfl | rfl | decide) only [mask_mk, ite_mask, ite_self, State.setFlds_nil_mask, State.setFlds_cons_mask, State.setFld_mask]; done) | split | dsimp only))

@[simp] theorem wrTachCfg_mask {K : Nat} (m : Master) (k data : Nat) (s : State) (h : Covers K 0x18000080000000000000000000000000000000000000000000000000000000000000000000000000000000020000000) : (wrTachCfg m k data s).mask K = s.mask K := mask_mono h (by
  simp only [wrTachCfg]
  repeat' (first | with_reducible rfl | decide | (simp (disch := first | exact .inl rfl | exact .inr rfl | rfl | decide) only [mask_mk, ite_mask, ite_self, State.flag_mask, State.tachSet_mask]; done) | split | dsimp only))

@[simp] theorem execOdoDistWrite_mask {K : Nat} (m : Master) (ch : Nat) (data : Word) (s : State) (h : Covers K 0x800000000000000000000000000000000000000000000000000000000000004027fc0000000000000000008024888) : Kept K s (execOdoDistWrite m ch data s) := kept_mono h (by
  simp only [execOdoDistWrite]
  repeat' (first | with_reducible rfl | decide | with_reducible refine kept_next.2 ?_ | with_reducible refine (State.regWrite_mask _ _ _ _ _ _ _ ?_ (fun t => ?_)).trans ?_ | (simp (disch := first | exact .inl rfl | exact .inr rfl | rfl | decide) only [mask_mk, ite_mask, ite_self, kept_next, wrOdoDistHi_mask]; done) | split | dsimp only))

@[simp] theorem execOdoSet_mask {K : Nat} (r : Req) (ch : Nat) (cfg slip ratio : Word) (s : State) (h : Covers K 0x3ff000000000000000000000000080000000000000000000000000000000001000000000000000000000000015804) : Kept K s (execOdoSet r ch cfg slip ratio s) := kept_mono h (by
  simp only [execOdoSet]
  repeat' (first | with_reducible rfl | decide | with_reducible refine kept_next.2 ?_ | with_reducible refine (State.serve_mask _ _ _ _ _ ?_ (fun t => ?_)).trans ?_ | (simp (disch := first | exact .inl rfl | exact .inr rfl | rfl | decide) only [mask_mk, ite_mask, ite_self, kept_next, ite_st, reply_st, later_st, State.odoCfgSet_mask, State.odoSlipSet_mask, State.setFld_mask]; done) | split | dsimp only))

@[simp] theorem execOdoPreset_mask {K : Nat} (r : Req) (ch : Nat) (dist : BitVec 64) (s : State) (h : Covers K 0x800000000000000000000000000080000000000000000000000000000000001000000000000000000000008035804) : Kept K s (execOdoPreset r ch dist s) := kept_mono h (by
  simp only [execOdoPreset]
  repeat' (first | with_reducible rfl | decide | with_reducible refine kept_next.2 ?_ | with_reducible refine (State.serve_mask _ _ _ _ _ ?_ (fun t => ?_)).trans ?_ | (simp (disch := first | exact .inl rfl | exact .inr rfl | rfl | decide) only [mask_mk, ite_mask, ite_self, kept_next, ite_st, reply_st, later_st, State.distPreset_mask]; done) | split | dsimp only))

@[simp] theorem execOdoQuery_mask {K : Nat} (r : Req) (ch : Nat) (s : State) (h : Covers K 0x80000000000000000000000000000000001000000000000000000000000015804) : Kept K s (execOdoQuery r ch s) := kept_mono h (by
  simp only [execOdoQuery]
  repeat' (first | with_reducible rfl | decide | with_reducible refine kept_next.2 ?_ | with_reducible refine (State.serve_mask _ _ _ _ _ ?_ (fun t => ?_)).trans ?_ | (simp (disch := first | exact .inl rfl | exact .inr rfl | rfl | decide) only [mask_mk, ite_mask, ite_self, kept_next, ite_st, reply_st, later_st]; done) | split | dsimp only))

@[simp] theorem execTachSet_mask {K : Nat} (r : Req) (k : Nat) (cfg : Word) (s : State) (h : Covers K 0x18000000000000000000000000000080000000000000000000000000000000001000000000000000000000020015804) : Kept K s (execTachSet r k cfg s) := kept_mono h (by
  simp only [execTachSet]
  repeat' (first | with_reducible rfl | decide | with_reducible refine kept_next.2 ?_ | with_reducible refine (State.serve_mask _ _ _ _ _ ?_ (fun t => ?_)).trans ?_ | (simp (disch := first | exact .inl rfl | exact .inr rfl | rfl | decide) only [mask_mk, ite_mask, ite_self, kept_next, ite_st, reply_st, later_st, State.tachSet_mask]; done) | split | dsimp only))

end Sys2Proof.Machine
end

