-- ==== Sys2Proof/Laws/KeepsQueueRows.lean ====
section
/-!
SUPPORT. Laws/KeepsQueueRows.lean: what each operation of Machine/QueueRows.lean leaves alone: a mask (Laws/Mask.lean) that covers what the operation may write sees no
difference between the state before and the state after.
-/
set_option linter.unusedSimpArgs false
set_option linter.unusedVariables false

namespace Sys2Proof.Machine

@[simp] theorem State.clientWrites_mask {K : Nat} (s : State) (m : Master) (ws : List (Nat × Byte)) (h : Covers K 0x203e18200000000000000000000000000000000000000000000000000000000000000000000000000000000000000000000000021fe10402000000000000000000000010e820) : (State.clientWrites s m ws).mask K = s.mask K := mask_mono h (by
  simp only [State.clientWrites]
  repeat' (first | with_reducible rfl | decide | (simp (disch := first | exact .inl rfl | exact .inr rfl | rfl | decide) only [mask_mk, ite_mask, ite_self, State.stores_mask]; done) | split | dsimp only))

@[simp] theorem wrSqTail_mask {K : Nat} (id t : Nat) (s : State) (h : Covers K 0x203e182050040000000000000000000000000000000000000000000000000000000000000008000000000000000000000000000000000502000000000000000000000055c800) : (wrSqTail id t s).mask K = s.mask K := mask_mono h (by
  simp only [wrSqTail]
  repeat' (first | with_reducible rfl | decide | (simp (disch := first | exact .inl rfl | exact .inr rfl | rfl | decide) only [mask_mk, ite_mask, ite_self, ite_st, reply_st, later_st, State.mirrorChange_mask, State.setQueue_mask]; done) | split | dsimp only))

@[simp] theorem State.flushRecords_mask {K : Nat} (id x1 : Nat) (x2 : State) (h : Covers K 0x203e18200000000000000000000000000000000000000000000000000000000000000000000800000000000000000000000000021fe10402000000000000000000000015e820) : (State.flushRecords id x1 x2).mask K = x2.mask K := by
  induction x1 generalizing x2 with
  | zero => rfl
  | succ n ih =>
    simp only [State.flushRecords]
    repeat' split
    all_goals first | with_reducible rfl | exact (ih _).trans (State.putRecord_mask _ _ _ _ (land_trans h (by decide))) | skip

@[simp] theorem wrCqHead_mask {K : Nat} (id x1 : Nat) (s : State) (h : Covers K 0x203e18200000000000000000000000000000000000000000000000000000000000000000000800000000000000000000000000021fe10402000000000000000000000015e820) : (wrCqHead id x1 s).mask K = s.mask K := mask_mono h (by
  simp only [wrCqHead]
  repeat' (first | with_reducible rfl | decide | (simp (disch := first | exact .inl rfl | exact .inr rfl | rfl | decide) only [mask_mk, ite_mask, ite_self, ite_st, reply_st, later_st, State.flushRecords_mask, State.setQueue_mask]; done) | split | dsimp only))

@[simp] theorem execQdbSqTailWrite_mask {K : Nat} (m : Master) (id : Nat) (data : Word) (written : List (Nat × Byte)) (s : State) (h : Covers K 0x203e18205004000000000000000000000000000000000000000000000000000000000000000800000000000000000000000000021fe105027fc000000000000000000055e8a8) : Kept K s (execQdbSqTailWrite m id data written s) := kept_mono h (by
  simp only [execQdbSqTailWrite]
  repeat' (first | with_reducible rfl | decide | with_reducible refine kept_next.2 ?_ | with_reducible refine (State.regWrite_mask _ _ _ _ _ _ _ ?_ (fun t => ?_)).trans ?_ | (simp (disch := first | exact .inl rfl | exact .inr rfl | rfl | decide) only [mask_mk, ite_mask, ite_self, kept_next, State.clientWrites_mask, wrSqTail_mask]; done) | split | dsimp only))

@[simp] theorem execQdbCqHeadWrite_mask {K : Nat} (m : Master) (id : Nat) (data : Word) (s : State) (h : Covers K 0x203e18200000000000000000000000000000000000000000000000000000000000000000000800000000000000000000000000021fe104027fc000000000000000000015e8a8) : Kept K s (execQdbCqHeadWrite m id data s) := kept_mono h (by
  simp only [execQdbCqHeadWrite]
  repeat' (first | with_reducible rfl | decide | with_reducible refine kept_next.2 ?_ | with_reducible refine (State.regWrite_mask _ _ _ _ _ _ _ ?_ (fun t => ?_)).trans ?_ | (simp (disch := first | exact .inl rfl | exact .inr rfl | rfl | decide) only [mask_mk, ite_mask, ite_self, kept_next, wrCqHead_mask]; done) | split | dsimp only))

@[simp] theorem State.markReady_mask {K : Nat} (s : State) (id : Nat) (x2 : Sheaf) (h : Covers K 0x40000) : (State.markReady s id x2).mask K = s.mask K := mask_mono h (by
  simp only [State.markReady]
  repeat' (first | with_reducible rfl | decide | (simp (disch := first | exact .inl rfl | exact .inr rfl | rfl | decide) only [mask_mk, ite_mask, ite_self, State.setSheaf_mask, State.setSilo_mask]; done) | split | dsimp only))

@[simp] theorem State.fetchError_mask {K : Nat} (s : State) (id : Nat) (q : Queue) (x3 : Sheaf) (status eng failed : Nat) (h : Covers K 0x203e18200000000000000000000000000000000000000000000000000000000000000000000800000000000000000000000000021fe10402000000000000000000000015e820) : (State.fetchError s id q x3 status eng failed).mask K = s.mask K := mask_mono h (by
  simp only [State.fetchError]
  repeat' (first | with_reducible rfl | decide | (simp (disch := first | exact .inl rfl | exact .inr rfl | rfl | decide) only [mask_mk, ite_mask, ite_self, State.account_mask, State.giveRecord_mask, State.setQueue_mask]; done) | split | dsimp only))

@[simp] theorem execSheafFetch_mask {K : Nat} (id : Nat) (s : State) (h : Covers K 0x203e18205004000000000000000000000000000000000000000000000000000000000000020800400000000000000000000000021fe10502000000000000000000000055e820) : Kept K s (execSheafFetch id s) := kept_mono h (by
  simp only [execSheafFetch]
  repeat' (first | with_reducible rfl | decide | with_reducible refine kept_next.2 ?_ | (simp (disch := first | exact .inl rfl | exact .inr rfl | rfl | decide) only [mask_mk, ite_mask, ite_self, kept_next, ite_st, reply_st, later_st, State.fetchError_mask, State.finish_mask, State.markReady_mask, State.setQueue_mask]; done) | split | dsimp only))

@[simp] theorem execSheafReady_mask {K : Nat} (id hdr : Nat) (s : State) (h : Covers K 0x40000) : Kept K s (execSheafReady id hdr s) := kept_mono h (by
  simp only [execSheafReady]
  repeat' (first | with_reducible rfl | decide | with_reducible refine kept_next.2 ?_ | (simp (disch := first | exact .inl rfl | exact .inr rfl | rfl | decide) only [mask_mk, ite_mask, ite_self, kept_next, State.markReady_mask]; done) | split | dsimp only))

@[simp] theorem execQCreate_mask {K : Nat} (r : Req) (c : QueueCfg) (s : State) (h : Covers K 0x80000000000000000000000000000000001000000000000000000000000057824) : Kept K s (execQCreate r c s) := kept_mono h (by
  simp only [execQCreate]
  repeat' (first | with_reducible rfl | decide | with_reducible refine kept_next.2 ?_ | with_reducible refine (State.serve_mask _ _ _ _ _ ?_ (fun t => ?_)).trans ?_ | (simp (disch := first | exact .inl rfl | exact .inr rfl | rfl | decide) only [mask_mk, ite_mask, ite_self, kept_next, ite_st, reply_st, later_st, State.setQueue_mask, State.write_mask]; done) | split | dsimp only))

theorem State.queueMsg_mask {K : Nat} (s : State) (r : Req) (id : Nat) (changes : Bool) (eff : Queue → State → Reply) (h : Covers K 0x0) (he : ∀ y0 t, (eff y0 t).st.mask K = t.mask K) : (State.queueMsg s r id changes eff).st.mask K = s.mask K := by
  have hb : ∀ i, Nat.testBit 0x0 i = true → K.testBit i = true := fun i => testBit_of_land h
  have hl : ∀ j, Covers 0x0 j → Covers K j := fun j hj => land_trans h hj
  simp only [State.queueMsg]
  repeat' (first | with_reducible rfl | exact hl _ (by decide) | (simp (disch := first | exact .inl (hb _ rfl) | exact .inr rfl | exact hl _ (by decide) | exact hb _ (by decide) | assumption | rfl) only [mask_mk, ite_mask, ite_self, ite_st, reply_st, later_st, he]; done) | split | dsimp only)

@[simp] theorem execQDestroy_mask {K : Nat} (r : Req) (queue : Word) (s : State) (h : Covers K 0x80000000000000000000000000000000001000000000000000000000000055804) : Kept K s (execQDestroy r queue s) := kept_mono h (by
  simp only [execQDestroy]
  repeat' (first | with_reducible rfl | decide | with_reducible refine kept_next.2 ?_ | with_reducible refine (State.queueMsg_mask _ _ _ _ _ ?_ (fun y0 t => ?_)).trans ?_ | with_reducible refine (State.serve_mask _ _ _ _ _ ?_ (fun t => ?_)).trans ?_ | (simp (disch := first | exact .inl rfl | exact .inr rfl | rfl | decide) only [mask_mk, ite_mask, ite_self, kept_next, ite_st, reply_st, later_st]; done) | split | dsimp only))

@[simp] theorem State.queueEnable_mask {K : Nat} (s : State) (id : Nat) (q : Queue) (h : Covers K 0x80000000000000000000000000000000001000000000000000000000000054800) : (State.queueEnable s id q).mask K = s.mask K := mask_mono h (by
  simp only [State.queueEnable]
  repeat' (first | with_reducible rfl | decide | with_reducible refine (mask_foldl _ (fun t e => ?_) _ _).trans ?_ | (simp (disch := first | exact .inl rfl | exact .inr rfl | rfl | decide) only [mask_mk, ite_mask, ite_self, State.answer_mask, State.setQueue_mask]; done) | split | dsimp only))

@[simp] theorem execQEnable_mask {K : Nat} (r : Req) (queue : Word) (s : State) (h : Covers K 0x80000000000000000000000000000000001000000000000000000000000055804) : Kept K s (execQEnable r queue s) := kept_mono h (by
  simp only [execQEnable]
  repeat' (first | with_reducible rfl | decide | with_reducible refine kept_next.2 ?_ | with_reducible refine (State.queueMsg_mask _ _ _ _ _ ?_ (fun y0 t => ?_)).trans ?_ | with_reducible refine (State.serve_mask _ _ _ _ _ ?_ (fun t => ?_)).trans ?_ | (simp (disch := first | exact .inl rfl | exact .inr rfl | rfl | decide) only [mask_mk, ite_mask, ite_self, kept_next, ite_st, reply_st, later_st, State.queueEnable_mask]; done) | split | dsimp only))

@[simp] theorem State.queueDisable_mask {K : Nat} (s : State) (id : Nat) (cancel : Bool) (h : Covers K 0x203e1820500400000000000000000000000000000000000000000000000000000000000002080040000000fde0781c00000000021fe1050200000000000000000000005de824) : (State.queueDisable s id cancel).mask K = s.mask K := mask_mono h (by
  simp only [State.queueDisable]
  repeat' (first | with_reducible rfl | decide | (simp (disch := first | exact .inl rfl | exact .inr rfl | rfl | decide) only [mask_mk, ite_mask, ite_self, State.cancelWhere_mask, State.drainCheck_mask, State.setQueue_mask]; done) | split | dsimp only))

@[simp] theorem execQDisable_mask {K : Nat} (r : Req) (queue : Word) (s : State) (h : Covers K 0x203e1820500400000000000000000000000000000000000000000000000000000000000002080040000000fde0781c00000000021fe1050200000000000000000000005df824) : Kept K s (execQDisable r queue s) := kept_mono h (by
  simp only [execQDisable]
  repeat' (first | with_reducible rfl | decide | with_reducible refine kept_next.2 ?_ | with_reducible refine (State.queueMsg_mask _ _ _ _ _ ?_ (fun y0 t => ?_)).trans ?_ | with_reducible refine (State.serve_mask _ _ _ _ _ ?_ (fun t => ?_)).trans ?_ | (simp (disch := first | exact .inl rfl | exact .inr rfl | rfl | decide) only [mask_mk, ite_mask, ite_self, kept_next, ite_st, reply_st, later_st, State.queueDisable_mask, State.setQueue_mask]; done) | split | dsimp only))

@[simp] theorem execQQuery_mask {K : Nat} (r : Req) (queue : Word) (s : State) (h : Covers K 0x80000000000000000000000000000000001000000000000000000000000015804) : Kept K s (execQQuery r queue s) := kept_mono h (by
  simp only [execQQuery]
  repeat' (first | with_reducible rfl | decide | with_reducible refine kept_next.2 ?_ | with_reducible refine (State.queueMsg_mask _ _ _ _ _ ?_ (fun y0 t => ?_)).trans ?_ | with_reducible refine (State.serve_mask _ _ _ _ _ ?_ (fun t => ?_)).trans ?_ | (simp (disch := first | exact .inl rfl | exact .inr rfl | rfl | decide) only [mask_mk, ite_mask, ite_self, kept_next, ite_st, reply_st, later_st]; done) | split | dsimp only))

@[simp] theorem execQAcct_mask {K : Nat} (r : Req) (queue : Word) (reset : Bool) (s : State) (h : Covers K 0x80000000000000000000000000000000001000000000000000000000000017824) : Kept K s (execQAcct r queue reset s) := kept_mono h (by
  simp only [execQAcct]
  repeat' (first | with_reducible rfl | decide | with_reducible refine kept_next.2 ?_ | with_reducible refine (State.queueMsg_mask _ _ _ _ _ ?_ (fun y0 t => ?_)).trans ?_ | with_reducible refine (State.serve_mask _ _ _ _ _ ?_ (fun t => ?_)).trans ?_ | (simp (disch := first | exact .inl rfl | exact .inr rfl | rfl | decide) only [mask_mk, ite_mask, ite_self, kept_next, ite_st, reply_st, later_st, State.write_mask]; done) | split | dsimp only))

@[simp] theorem wrQctl_mask {K : Nat} (d data : Nat) (s : State) (h : Covers K 0x203e1820500400000000000000000000000000000000000000000000000000000000000002080040002000fde0781c00000000021fe1050200000000000000000000005de824) : (wrQctl d data s).mask K = s.mask K := mask_mono h (by
  simp only [wrQctl]
  repeat' (first | with_reducible rfl | decide | (simp (disch := first | exact .inl rfl | exact .inr rfl | rfl | decide) only [mask_mk, ite_mask, ite_self, State.flag_mask, State.queueDisable_mask, State.queueEnable_mask, State.setQueue_mask]; done) | split | dsimp only))

@[simp] theorem State.qctl_mask {K : Nat} (s : State) (m : Master) (d op queue : Nat) (h : Covers K 0x203e1820500400000000000000000000000000000000000000000000000000000000000002080040002000fde0781c00000000021fe105027fc00000000000000000005de8ac) : (State.qctl s m d op queue).mask K = s.mask K := mask_mono h (by
  simp only [State.qctl]
  repeat' (first | with_reducible rfl | decide | with_reducible refine (State.guarded_mask _ _ _ _ _ _ ?_ (fun t => ?_)).trans ?_ | with_reducible refine (State.regWrite_mask _ _ _ _ _ _ _ ?_ (fun t => ?_)).trans ?_ | (simp (disch := first | exact .inl rfl | exact .inr rfl | rfl | decide) only [mask_mk, ite_mask, ite_self, wrQctl_mask]; done) | split | dsimp only))

@[simp] theorem execSchQctlEnable_mask {K : Nat} (m : Master) (d queue : Nat) (s : State) (h : Covers K 0x203e1820500400000000000000000000000000000000000000000000000000000000000002080040002000fde0781c00000000021fe105027fc00000000000000000005de8ac) : Kept K s (execSchQctlEnable m d queue s) := kept_mono h (by
  simp only [execSchQctlEnable]
  repeat' (first | with_reducible rfl | decide | with_reducible refine kept_next.2 ?_ | (simp (disch := first | exact .inl rfl | exact .inr rfl | rfl | decide) only [mask_mk, ite_mask, ite_self, kept_next, State.qctl_mask]; done) | split | dsimp only))

@[simp] theorem execSchQctlDisable_mask {K : Nat} (m : Master) (d queue : Nat) (s : State) (h : Covers K 0x203e1820500400000000000000000000000000000000000000000000000000000000000002080040002000fde0781c00000000021fe105027fc00000000000000000005de8ac) : Kept K s (execSchQctlDisable m d queue s) := kept_mono h (by
  simp only [execSchQctlDisable]
  repeat' (first | with_reducible rfl | decide | with_reducible refine kept_next.2 ?_ | (simp (disch := first | exact .inl rfl | exact .inr rfl | rfl | decide) only [mask_mk, ite_mask, ite_self, kept_next, State.qctl_mask]; done) | split | dsimp only))

@[simp] theorem execSchQctlDrain_mask {K : Nat} (m : Master) (d queue : Nat) (s : State) (h : Covers K 0x203e1820500400000000000000000000000000000000000000000000000000000000000002080040002000fde0781c00000000021fe105027fc00000000000000000005de8ac) : Kept K s (execSchQctlDrain m d queue s) := kept_mono h (by
  simp only [execSchQctlDrain]
  repeat' (first | with_reducible rfl | decide | with_reducible refine kept_next.2 ?_ | (simp (disch := first | exact .inl rfl | exact .inr rfl | rfl | decide) only [mask_mk, ite_mask, ite_self, kept_next, State.qctl_mask]; done) | split | dsimp only))

end Sys2Proof.Machine
end

