-- ==== Sys2Proof/Laws/KeepsRaster.lean ====
section
/-!
SUPPORT. Laws/KeepsRaster.lean: what each operation of Machine/Raster.lean leaves alone: a mask (Laws/Mask.lean) that covers what the operation may write sees no
difference between the state before and the state after.
-/
set_option linter.unusedSimpArgs false
set_option linter.unusedVariables false

namespace Sys2Proof.Machine

@[simp] theorem State.rasterRan_mask {K : Nat} (s : State) (d ctx : Nat) (p : Placed) (j : Job) (beside : List (Nat × List Byte)) (h : Covers K 0x203e18200000000000000000000000000000000000000000000000000000000000000000000000000000000180601800000000021fe104027fc000000000000000000014e824) : (State.rasterRan s d ctx p j beside).mask K = s.mask K := mask_mono h (by
  simp only [State.rasterRan]
  repeat' (first | with_reducible rfl | decide | with_reducible refine (mask_foldl _ (fun t e => ?_) _ _).trans ?_ | (simp (disch := first | exact .inl rfl | exact .inr rfl | rfl | decide) only [mask_mk, ite_mask, ite_self, State.fabLog_mask, State.fresh_mask, State.readUe_mask, State.runPart_mask, State.setPlaced_mask, State.wake_mask]; done) | split | dsimp only | simp (disch := first | exact .inl rfl | exact .inr rfl | rfl | decide) only [mask_mk, ite_mask, ite_self, State.fabLog_mask, State.fresh_mask, State.readUe_mask, State.runPart_mask, State.setPlaced_mask, State.wake_mask]))

theorem State.runRaster_mask {K : Nat} (s : State) (d ctx op : Nat) (go : State → Placed → State) (h : Covers K 0x203e18200000000000000000000000000000000000000000000000000000000000000000000000000000000180601800000000021fe104027fc000000000000000000014e824) (he : ∀ t y1, (go t y1).mask K = t.mask K) : Kept K s (State.runRaster s d ctx op go) := by
  have hb : ∀ i, Nat.testBit 0x203e18200000000000000000000000000000000000000000000000000000000000000000000000000000000180601800000000021fe104027fc000000000000000000014e824 i = true → K.testBit i = true := fun i => testBit_of_land h
  have hl : ∀ j, Covers 0x203e18200000000000000000000000000000000000000000000000000000000000000000000000000000000180601800000000021fe104027fc000000000000000000014e824 j → Covers K j := fun j hj => land_trans h hj
  simp only [State.runRaster]
  repeat' (first | with_reducible rfl | exact hl _ (by decide) | with_reducible refine kept_next.2 ?_ | (simp (disch := first | exact .inl (hb _ rfl) | exact .inr rfl | exact hl _ (by decide) | exact hb _ (by decide) | assumption | rfl) only [mask_mk, ite_mask, ite_self, kept_next, State.rasterRan_mask, he]; done) | split | dsimp only)

@[simp] theorem State.stookFlush_mask {K : Nat} (s : State) (d ctx : Nat) (p : Placed) (number : Nat) (h : Covers K 0x41000000000000000000000000000000000000004020000000000000000000000004804) : (State.stookFlush s d ctx p number).mask K = s.mask K := mask_mono h (by
  simp only [State.stookFlush]
  repeat' (first | with_reducible rfl | decide | (simp (disch := first | exact .inl rfl | exact .inr rfl | rfl | decide) only [mask_mk, ite_mask, ite_self, State.addSat_mask, State.flag_mask, State.fresh_mask, State.raise_mask]; done) | split | dsimp only))

@[simp] theorem State.flushOther_mask {K : Nat} (s : State) (d : Nat) (p : Placed) (h : Covers K 0x41000000000000000000000000000000000000004020000000000000000000000044804) : (State.flushOther s d p).mask K = s.mask K := mask_mono h (by
  simp only [State.flushOther]
  repeat' (first | with_reducible rfl | decide | (simp (disch := first | exact .inl rfl | exact .inr rfl | rfl | decide) only [mask_mk, ite_mask, ite_self, State.setPlaced_mask, State.stookFlush_mask]; done) | split | dsimp only))

@[simp] theorem State.render_mask {K : Nat} (d ctx : Nat) (s : State) (p : Placed) (h : Covers K 0x203e18200000000000000000000000000000000000000000000000000000000000000c10000000000000000180601800000000021fe104027fc000000000000000000014e824) : (State.render d ctx s p).mask K = s.mask K := mask_mono h (by
  simp only [State.render]
  repeat' (first | with_reducible rfl | decide | with_reducible refine (mask_foldl _ (fun t e => ?_) _ _).trans ?_ | (simp (disch := first | exact .inl rfl | exact .inr rfl | rfl | decide) only [mask_mk, ite_mask, ite_self, State.flushOther_mask, State.fresh_mask, State.rasterRan_mask, State.setFld_mask, State.stookFlush_mask]; done) | split | dsimp only | simp (disch := first | exact .inl rfl | exact .inr rfl | rfl | decide) only [mask_mk, ite_mask, ite_self, State.flushOther_mask, State.fresh_mask, State.rasterRan_mask, State.setFld_mask, State.stookFlush_mask]))

@[simp] theorem execRender_mask {K : Nat} (d ctx : Nat) (s : State) (h : Covers K 0x203e18200000000000000000000000000000000000000000000000000000000000000c10000000000000000180601800000000021fe104027fc000000000000000000014e824) : Kept K s (execRender d ctx s) := kept_mono h (by
  simp only [execRender]
  repeat' (first | with_reducible rfl | decide | with_reducible refine kept_next.2 ?_ | with_reducible refine State.runRaster_mask _ _ _ _ _ ?_ (fun t y1 => ?_) | (simp (disch := first | exact .inl rfl | exact .inr rfl | rfl | decide) only [mask_mk, ite_mask, ite_self, kept_next, State.render_mask]; done) | split | dsimp only))

@[simp] theorem execFastClear_mask {K : Nat} (d ctx : Nat) (s : State) (h : Covers K 0x203e18200000000000000000000000000000000000000000000000000000000000000000000000000000000180601800000000021fe104027fc000000000000000000014e824) : Kept K s (execFastClear d ctx s) := kept_mono h (by
  simp only [execFastClear]
  repeat' (first | with_reducible rfl | decide | with_reducible refine kept_next.2 ?_ | with_reducible refine State.runRaster_mask _ _ _ _ _ ?_ (fun t y1 => ?_) | (simp (disch := first | exact .inl rfl | exact .inr rfl | rfl | decide) only [mask_mk, ite_mask, ite_self, kept_next, State.rasterRan_mask]; done) | split | dsimp only))

@[simp] theorem execExpand_mask {K : Nat} (d ctx : Nat) (s : State) (h : Covers K 0x203e18200000000000000000000000000000000000000000000000000000000000000000000000000000000180601800000000021fe104027fc000000000000000000014e824) : Kept K s (execExpand d ctx s) := kept_mono h (by
  simp only [execExpand]
  repeat' (first | with_reducible rfl | decide | with_reducible refine kept_next.2 ?_ | with_reducible refine State.runRaster_mask _ _ _ _ _ ?_ (fun t y1 => ?_) | (simp (disch := first | exact .inl rfl | exact .inr rfl | rfl | decide) only [mask_mk, ite_mask, ite_self, kept_next, State.rasterRan_mask]; done) | split | dsimp only))

@[simp] theorem execShadingBatch_mask {K : Nat} (d core ctx : Nat) (s : State) (h : Covers K 0x20000000000000000000000000000000000000000000040004) : Kept K s (execShadingBatch d core ctx s) := kept_mono h (by
  simp only [execShadingBatch]
  repeat' (first | with_reducible rfl | decide | with_reducible refine kept_next.2 ?_ | (simp (disch := first | exact .inl rfl | exact .inr rfl | rfl | decide) only [mask_mk, ite_mask, ite_self, kept_next, State.addSat_mask, State.fresh_mask, State.setSilo_mask]; done) | split | dsimp only))

@[simp] theorem execRasStookSet_mask {K : Nat} (r : Req) (d loc mib addr : Nat) (s : State) (h : Covers K 0x38000080000000000000000000000000000000001000000000000000000000000015804) : Kept K s (execRasStookSet r d loc mib addr s) := kept_mono h (by
  simp only [execRasStookSet]
  repeat' (first | with_reducible rfl | decide | with_reducible refine kept_next.2 ?_ | with_reducible refine (State.serve_mask _ _ _ _ _ ?_ (fun t => ?_)).trans ?_ | (simp (disch := first | exact .inl rfl | exact .inr rfl | rfl | decide) only [mask_mk, ite_mask, ite_self, kept_next, ite_st, reply_st, later_st, State.setFlds_nil_mask, State.setFlds_cons_mask, State.setFld_mask]; done) | split | dsimp only))

@[simp] theorem wrRasStook_mask {K : Nat} (d data : Nat) (s : State) (h : Covers K 0x1e000000000000000000000000000000000000000000000000000000000000000000000) : (wrRasStook d data s).mask K = s.mask K := mask_mono h (by
  simp only [wrRasStook]
  repeat' (first | with_reducible rfl | decide | (simp (disch := first | exact .inl rfl | exact .inr rfl | rfl | decide) only [mask_mk, ite_mask, ite_self, State.setFlds_nil_mask, State.setFlds_cons_mask, State.setFld_mask, State.flag_mask]; done) | split | dsimp only))

@[simp] theorem wrRasStookAddr_mask {K : Nat} (d v : Nat) (s : State) (h : Covers K 0x22000000000000000000000000000000000000000000000000000000000000000000000) : (wrRasStookAddr d v s).mask K = s.mask K := mask_mono h (by
  simp only [wrRasStookAddr]
  repeat' (first | with_reducible rfl | decide | (simp (disch := first | exact .inl rfl | exact .inr rfl | rfl | decide) only [mask_mk, ite_mask, ite_self, State.flag_mask, State.setFld_mask]; done) | split | dsimp only))

@[simp] theorem execRasQuery_mask {K : Nat} (r : Req) (d : Nat) (s : State) (h : Covers K 0x80000080000000000000000000000000000000001000000000000000000000000015804) : Kept K s (execRasQuery r d s) := kept_mono h (by
  simp only [execRasQuery]
  repeat' (first | with_reducible rfl | decide | with_reducible refine kept_next.2 ?_ | with_reducible refine (State.serve_mask _ _ _ _ _ ?_ (fun t => ?_)).trans ?_ | (simp (disch := first | exact .inl rfl | exact .inr rfl | rfl | decide) only [mask_mk, ite_mask, ite_self, kept_next, ite_st, reply_st, later_st, State.setFld_mask]; done) | split | dsimp only))

end Sys2Proof.Machine
end

