-- ==== Sys2Proof/Laws/KeepsRegView.lean ====
section
/-!
SUPPORT. Laws/KeepsRegView.lean: what each operation of Machine/RegView.lean leaves alone: a mask (Laws/Mask.lean) that covers what the operation may write sees no
difference between the state before and the state after.
-/
set_option linter.unusedSimpArgs false
set_option linter.unusedVariables false

namespace Sys2Proof.Machine

@[simp] theorem State.logAfresh_mask {K : Nat} (s : State) (d same : Nat) (r : RegDesc) (h : Covers K 0x1e00000000000000000000000000000000000000000000000000000000000000003fc000001f8000007e00000000000000000000000004) : (State.logAfresh s d same r).mask K = s.mask K := mask_mono h (by
  have hl : ∀ f ∈ (logRecord r.name).2, Nat.testBit 0x1e00000000000000000000000000000000000000000000000000000000000000003fc000001f8000007e00000000000000000000000004 f.maskBit = true := by
    cases r.name <;> simp only [logRecord] <;> decide
  simp only [State.logAfresh]
  split
  · rfl
  · exact mask_foldl_mem _ _ (fun t f hf => (State.setFld_mask _ _ _ _ _ (hl f hf)).trans (State.fresh_mask _ (by decide))) _)

theorem State.clearRc_mask {K : Nat} (s : State) (d i : Nat) (ok : Bool) (r : RegDesc) (same : Nat) (hr : r ∈ regTable) (h : Covers K 0x60006020000008c40000810808203af4000000002000021d43080000000e04000cb80000000c3818001ac70020c0000043d9e001e0783c7c0388303e07b040601c001e20e00000c003400000000) :
    (s.clearRc d i ok r same).mask K = s.mask K := by
  simp only [State.clearRc]
  refine mask_foldl_mem _ _ (fun t g hg => ?_) _
  split
  · rename_i hc
    exact State.setFld_mask _ _ _ _ _ (testBit_of_land h (testBit_of_land (by decide) (table_rc r hr g hg hc.1)))
  · rfl

theorem State.readHit_mask {K : Nat} (s : State) (m : Master) (d o : Nat) (r : RegDesc) (i : Nat) (peek : Bool) (same : Nat) (hr : r ∈ regTable) (h : Covers K 0x60006020000008c40000810808203af400000000200003fd43080000c00e04000cb80000000c3818001ac70020c0000043d9e001e0783c7fff88303fffb04067fc001e20e00000c003400004884) :
    (s.readHit m d o r i peek same).2.mask K = s.mask K := mask_mono h (by
  simp only [State.readHit]
  repeat' (first | with_reducible rfl | (simp (disch := first | exact .inl rfl | exact .inr rfl | rfl | decide) [State.clearRc_mask _ _ _ _ _ _ hr]; done) | split))

end Sys2Proof.Machine
end

