-- ==== Sys2Proof/Laws/KeepsSafety.lean ====
section
/-!
SUPPORT. Laws/KeepsSafety.lean: what each operation of Machine/Safety.lean leaves alone: a mask (Laws/Mask.lean) that covers what the operation may write sees no
difference between the state before and the state after.
-/
set_option linter.unusedSimpArgs false
set_option linter.unusedVariables false

namespace Sys2Proof.Machine

@[simp] theorem execSecConfirmLapse_mask {K : Nat} (s : State) (h : Covers K 0x203e192000000000000000000000000000000000000000000000000000000000000000000000000000000000000000000000000000000402000000000000000000000010c800) : Kept K s (execSecConfirmLapse s) := kept_mono h (by
  simp only [execSecConfirmLapse]
  repeat' (first | with_reducible rfl | decide | with_reducible refine kept_next.2 ?_ | (simp (disch := first | exact .inl rfl | exact .inr rfl | rfl | decide) only [mask_mk, ite_mask, ite_self, kept_next, State.setFld_mask, State.source_mask]; done) | split | dsimp only))

@[simp] theorem execSilenceTimeout_mask {K : Nat} (d k : Nat) (s : State) (h : Covers K 0x203e182000000000000000000000000000000000000000000000000000000000000000000000000000000000000000000000000000000402000000000000000000000010c800) : Kept K s (execSilenceTimeout d k s) := kept_mono h (by
  simp only [execSilenceTimeout]
  repeat' (first | with_reducible rfl | decide | with_reducible refine kept_next.2 ?_ | (simp (disch := first | exact .inl rfl | exact .inr rfl | rfl | decide) only [mask_mk, ite_mask, ite_self, kept_next, State.source_mask]; done) | split | dsimp only))

@[simp] theorem State.safeClear_mask {K : Nat} (s : State) (sameCycle : Option Nat) (h : Covers K 0x203e182000000000000000000000000000000000000000000000000000000000000000000000000000000000000000000000000000000402000000000000000000000010c800) : (State.safeClear s sameCycle).2.mask K = s.mask K := mask_mono h (by
  simp only [State.safeClear]
  repeat' (first | with_reducible rfl | decide | with_reducible refine (mask_foldl _ (fun t e => ?_) _ _).trans ?_ | (simp (disch := first | exact .inl rfl | exact .inr rfl | rfl | decide) only [mask_mk, ite_mask, ite_self, State.raise_mask, State.safeEnter_mask, State.setFld_mask]; done) | split | dsimp only | simp (disch := first | exact .inl rfl | exact .inr rfl | rfl | decide) only [mask_mk, ite_mask, ite_self, State.raise_mask, State.safeEnter_mask, State.setFld_mask]))

@[simp] theorem State.setArm_mask {K : Nat} (s : State) (v : Nat) (h : Covers K 0x2000000000000000000000000000000000000000000000000000000000000000000000000000000000000000000000000000000000000000000000000000000000100100) : (State.setArm s v).mask K = s.mask K := mask_mono h (by
  simp only [State.setArm]
  repeat' (first | with_reducible rfl | decide | (simp (disch := first | exact .inl rfl | exact .inr rfl | rfl | decide) only [mask_mk, ite_mask, ite_self, State.setFld_mask]; done) | split | dsimp only))

@[simp] theorem wrSafeCtrl_mask {K : Nat} (m : Master) (d data : Nat) (sameCycle : Option Nat) (s : State) (h : Covers K 0x203eb83000000000000000000000000000000000000000000000000000000000000000000000000000040000000000000000000000000402000000000000000000000010c900) : (wrSafeCtrl m d data sameCycle s).mask K = s.mask K := mask_mono h (by
  simp only [wrSafeCtrl]
  repeat' (first | with_reducible rfl | decide | (simp (disch := first | exact .inl rfl | exact .inr rfl | rfl | decide) only [mask_mk, ite_mask, ite_self, State.flag_mask, State.safeClear_mask, State.setArm_mask, State.setFld_mask]; done) | split | dsimp only))

@[simp] theorem execSafeCtrlArmWrite_mask {K : Nat} (m : Master) (d : Nat) (data : Word) (s : State) (h : Covers K 0x203eb830000000000000000000000000000000000000000000000000000000000000000000000000000400000000000000000000000004027fc000000000000000000010c988) : Kept K s (execSafeCtrlArmWrite m d data s) := kept_mono h (by
  simp only [execSafeCtrlArmWrite]
  repeat' (first | with_reducible rfl | decide | with_reducible refine kept_next.2 ?_ | with_reducible refine (State.guarded_mask _ _ _ _ _ _ ?_ (fun t => ?_)).trans ?_ | with_reducible refine (State.regWrite_mask _ _ _ _ _ _ _ ?_ (fun t => ?_)).trans ?_ | (simp (disch := first | exact .inl rfl | exact .inr rfl | rfl | decide) only [mask_mk, ite_mask, ite_self, kept_next, wrSafeCtrl_mask]; done) | split | dsimp only))

@[simp] theorem execSafeCtrlClearWrite_mask {K : Nat} (m : Master) (d : Nat) (data : Word) (sameCycle : Option Nat) (s : State) (h : Covers K 0x203eb830000000000000000000000000000000000000000000000000000000000000000000000000000400000000000000000000000004027fc000000000000000000010c988) : Kept K s (execSafeCtrlClearWrite m d data sameCycle s) := kept_mono h (by
  simp only [execSafeCtrlClearWrite]
  repeat' (first | with_reducible rfl | decide | with_reducible refine kept_next.2 ?_ | with_reducible refine (State.guarded_mask _ _ _ _ _ _ ?_ (fun t => ?_)).trans ?_ | with_reducible refine (State.regWrite_mask _ _ _ _ _ _ _ ?_ (fun t => ?_)).trans ?_ | (simp (disch := first | exact .inl rfl | exact .inr rfl | rfl | decide) only [mask_mk, ite_mask, ite_self, kept_next, wrSafeCtrl_mask]; done) | split | dsimp only))

@[simp] theorem wrSafeReact_mask {K : Nat} (d data : Nat) (s : State) (h : Covers K 0x10010000000000000000000000000000000000000000000000000000000000000000000000000000000000000000000000000000000000000000000000000000000000000) : (wrSafeReact d data s).mask K = s.mask K := mask_mono h (by
  simp only [wrSafeReact]
  repeat' (first | with_reducible rfl | decide | (simp (disch := first | exact .inl rfl | exact .inr rfl | rfl | decide) only [mask_mk, ite_mask, ite_self, State.flag_mask, State.setFld_mask]; done) | split | dsimp only))

@[simp] theorem execSafeReactWrite_mask {K : Nat} (m : Master) (d : Nat) (data : Word) (s : State) (h : Covers K 0x10010000000000000000000000000000000000000000000000000000000000000000000000000000000000000000000000000000004027fc0000000000000000000004888) : Kept K s (execSafeReactWrite m d data s) := kept_mono h (by
  simp only [execSafeReactWrite]
  repeat' (first | with_reducible rfl | decide | with_reducible refine kept_next.2 ?_ | with_reducible refine (State.guarded_mask _ _ _ _ _ _ ?_ (fun t => ?_)).trans ?_ | with_reducible refine (State.regWrite_mask _ _ _ _ _ _ _ ?_ (fun t => ?_)).trans ?_ | (simp (disch := first | exact .inl rfl | exact .inr rfl | rfl | decide) only [mask_mk, ite_mask, ite_self, kept_next, wrSafeReact_mask]; done) | split | dsimp only))

theorem wrSafeSilo_mask {K : Nat} (m : Master) (d k : Nat) (fs : List (Fld × Nat)) (s : State) (h : Covers K 0x10000000000000000000000000000000000000000000000000000000000000000000000000000400000000000000000000000000000000000000000000000000000000) (hf : ∀ x ∈ fs, K.testBit x.1.maskBit = true) :
    (wrSafeSilo m d k fs s).mask K = s.mask K := by
  simp only [wrSafeSilo]
  split
  · exact State.flag_mask _ _ _ _ (testBit_of_land h rfl)
  split
  · exact State.flag_mask _ _ _ _ (testBit_of_land h rfl)
  · exact State.setFlds_mask _ _ _ _ hf

@[simp] theorem execGleanerTestStart_mask {K : Nat} (d cl : Nat) (s : State) (h : Covers K 0x840203e1820500400000000000000000000000000000000000000000000000000000000000002080040000000fde0781c00000000021fe1050200000000000000000000005de824) : Kept K s (execGleanerTestStart d cl s) := kept_mono h (by
  simp only [execGleanerTestStart]
  repeat' (first | with_reducible rfl | decide | with_reducible refine kept_next.2 ?_ | with_reducible refine (mask_foldl _ (fun t e => ?_) _ _).trans ?_ | (simp (disch := first | exact .inl rfl | exact .inr rfl | rfl | decide) only [mask_mk, ite_mask, ite_self, kept_next, State.flag_mask, State.kill_mask, State.setFld_mask]; done) | split | dsimp only | simp (disch := first | exact .inl rfl | exact .inr rfl | rfl | decide) only [mask_mk, ite_mask, ite_self, kept_next, State.flag_mask, State.kill_mask, State.setFld_mask]))

@[simp] theorem execGleanerTestEnd_mask {K : Nat} (d c failing : Nat) (s : State) (h : Covers K 0x1f00203e1820500400440000000000000000000000000000000000000000000000000000000002080040000000fde0781c00000000021fe1050200000000000000000000005de824) : Kept K s (execGleanerTestEnd d c failing s) := kept_mono h (by
  simp only [execGleanerTestEnd]
  repeat' (first | with_reducible rfl | decide | with_reducible refine kept_next.2 ?_ | (simp (disch := first | exact .inl rfl | exact .inr rfl | rfl | decide) only [mask_mk, ite_mask, ite_self, kept_next, State.corePassed_mask, State.flag_mask, State.raise_mask, State.removeCore_mask, State.setFld_mask, State.source_mask, State.titheAdd_mask]; done) | split | dsimp only))

@[simp] theorem execCoveragePeriodEnd_mask {K : Nat} (d c : Nat) (s : State) (h : Covers K 0x600203e182000000000000000000000000000000000000000000000000000000000000000000000000000000000000000000000000000000402000000000000000000000010c800) : Kept K s (execCoveragePeriodEnd d c s) := kept_mono h (by
  simp only [execCoveragePeriodEnd]
  repeat' (first | with_reducible rfl | decide | with_reducible refine kept_next.2 ?_ | (simp (disch := first | exact .inl rfl | exact .inr rfl | rfl | decide) only [mask_mk, ite_mask, ite_self, kept_next, State.flag_mask, State.raise_mask, State.source_mask, State.titheAdd_mask]; done) | split | dsimp only))

@[simp] theorem State.checkerFails_mask {K : Nat} (s : State) (d n cause : Nat) (h : Covers K 0x1c203e182000000000000000000000000000000000000000000000000000000000000000000000000000000000000000000000000000000402000000000000000000000010c800) : (State.checkerFails s d n cause).mask K = s.mask K := mask_mono h (by
  simp only [State.checkerFails]
  repeat' (first | with_reducible rfl | decide | (simp (disch := first | exact .inl rfl | exact .inr rfl | rfl | decide) only [mask_mk, ite_mask, ite_self, State.flag_mask, State.raise_mask, State.setFld_mask, State.source_mask]; done) | split | dsimp only))

@[simp] theorem State.checkerTested_mask {K : Nat} (s : State) (d n : Nat) (h : Covers K 0x100000) : (State.checkerTested s d n).mask K = s.mask K := mask_mono h (by
  simp only [State.checkerTested]
  repeat' (first | with_reducible rfl | decide | (simp (disch := first | exact .inl rfl | exact .inr rfl | rfl | decide) only [mask_mk, ite_mask, ite_self]; done) | split | dsimp only))

@[simp] theorem State.checkerOutcome_mask {K : Nat} (s : State) (d n : Nat) (o : CheckOutcome) (h : Covers K 0x1c203e182000000000000000000000000000000000000000000000000000000000000000000000000000000000000000000000000000000402000000000000000000000010c800) : (State.checkerOutcome s d n o).mask K = s.mask K := mask_mono h (by
  simp only [State.checkerOutcome]
  repeat' (first | with_reducible rfl | decide | (simp (disch := first | exact .inl rfl | exact .inr rfl | rfl | decide) only [mask_mk, ite_mask, ite_self, State.checkerFails_mask, State.checkerTested_mask]; done) | split | dsimp only))

@[simp] theorem State.ageCheckers_mask {K : Nat} (s : State) (d : Nat) (h : Covers K 0x1c203e182000000000000000000000000000000000000000000000000000000000000000000000000000000000000000000000000000000402000000000000000000000010c800) : (State.ageCheckers s d).mask K = s.mask K := mask_mono h (by
  simp only [State.ageCheckers]
  repeat' (first | with_reducible rfl | decide | with_reducible refine (mask_foldl _ (fun t e => ?_) _ _).trans ?_ | (simp (disch := first | exact .inl rfl | exact .inr rfl | rfl | decide) only [mask_mk, ite_mask, ite_self, State.checkerFails_mask]; done) | split | dsimp only))

@[simp] theorem execCheckerRotationSlot_mask {K : Nat} (d : Nat) (o : CheckOutcome) (s : State) (h : Covers K 0x1d203e182000000000000000000000000000000000000000000000000000000000000000000000000000000000000000000000000000000402000000000000000000000010c800) : Kept K s (execCheckerRotationSlot d o s) := kept_mono h (by
  simp only [execCheckerRotationSlot]
  repeat' (first | with_reducible rfl | decide | with_reducible refine kept_next.2 ?_ | (simp (disch := first | exact .inl rfl | exact .inr rfl | rfl | decide) only [mask_mk, ite_mask, ite_self, kept_next, State.ageCheckers_mask, State.checkerOutcome_mask, State.setFld_mask]; done) | split | dsimp only))

@[simp] theorem execCheckerTestRetry_mask {K : Nat} (d : Nat) (o : CheckOutcome) (s : State) (h : Covers K 0x1c203e182000000000000000000000000000000000000000000000000000000000000000000000000000000000000000000000000000000402000000000000000000000010c800) : Kept K s (execCheckerTestRetry d o s) := kept_mono h (by
  simp only [execCheckerTestRetry]
  repeat' (first | with_reducible rfl | decide | with_reducible refine kept_next.2 ?_ | (simp (disch := first | exact .inl rfl | exact .inr rfl | rfl | decide) only [mask_mk, ite_mask, ite_self, kept_next, State.checkerOutcome_mask]; done) | split | dsimp only))

@[simp] theorem execSafeCfg_mask {K : Nat} (r : Req) (ftti : Nat) (react : Word) (s : State) (h : Covers K 0x18000000000000000000000000000000000000000000000000000000000000000000000080000000000000000000000000000000001000000000000000000000000015804) : Kept K s (execSafeCfg r ftti react s) := kept_mono h (by
  simp only [execSafeCfg]
  repeat' (first | with_reducible rfl | decide | with_reducible refine kept_next.2 ?_ | with_reducible refine (State.serve_mask _ _ _ _ _ ?_ (fun t => ?_)).trans ?_ | (simp (disch := first | exact .inl rfl | exact .inr rfl | rfl | decide) only [mask_mk, ite_mask, ite_self, kept_next, ite_st, reply_st, later_st, State.setFld_mask]; done) | split | dsimp only))

@[simp] theorem execSafeArm_mask {K : Nat} (r : Req) (en : Nat) (s : State) (h : Covers K 0x2000000000000000000000000000000000000000000000000000000000000000000000080000000000000000000000000000000001000000000000000000000000115904) : Kept K s (execSafeArm r en s) := kept_mono h (by
  simp only [execSafeArm]
  repeat' (first | with_reducible rfl | decide | with_reducible refine kept_next.2 ?_ | with_reducible refine (State.serve_mask _ _ _ _ _ ?_ (fun t => ?_)).trans ?_ | (simp (disch := first | exact .inl rfl | exact .inr rfl | rfl | decide) only [mask_mk, ite_mask, ite_self, kept_next, ite_st, reply_st, later_st, State.setArm_mask]; done) | split | dsimp only))

@[simp] theorem execSafeClear_mask {K : Nat} (r : Req) (sameCycle : Option Nat) (s : State) (h : Covers K 0x203e182000000000000000000000000000000000000000000000000000000000000000000008000000000000000000000000000000000502000000000000000000000011d804) : Kept K s (execSafeClear r sameCycle s) := kept_mono h (by
  simp only [execSafeClear]
  refine kept_next.2 (State.serve_mask _ _ _ _ _ (by decide) (fun t => ?_))
  split
  · rfl
  · have h2 := State.safeClear_mask (K := 0x203e182000000000000000000000000000000000000000000000000000000000000000000008000000000000000000000000000000000502000000000000000000000011d804) t sameCycle (by decide)
    split <;> (rename_i hq; rw [hq] at h2; exact h2))

@[simp] theorem execSafeQuery_mask {K : Nat} (r : Req) (s : State) (h : Covers K 0x80000000000000000000000000000000001000000000000000000000000015804) : Kept K s (execSafeQuery r s) := kept_mono h (by
  simp only [execSafeQuery]
  repeat' (first | with_reducible rfl | decide | with_reducible refine kept_next.2 ?_ | with_reducible refine (State.serve_mask _ _ _ _ _ ?_ (fun t => ?_)).trans ?_ | (simp (disch := first | exact .inl rfl | exact .inr rfl | rfl | decide) only [mask_mk, ite_mask, ite_self, kept_next, ite_st, reply_st, later_st, State.useFree_mask]; done) | split | dsimp only))

@[simp] theorem execSafeSiloSet_mask {K : Nat} (r : Req) (d k cfg : Nat) (str : Word) (s : State) (h : Covers K 0x1fc00000000000000000000000000000000000000000000000000000000000000000000000080000000000000000000000000000000001000000000000000000000000015804) : Kept K s (execSafeSiloSet r d k cfg str s) := kept_mono h (by
  simp only [execSafeSiloSet]
  repeat' (first | with_reducible rfl | decide | with_reducible refine kept_next.2 ?_ | with_reducible refine (State.serve_mask _ _ _ _ _ ?_ (fun t => ?_)).trans ?_ | (simp (disch := first | exact .inl rfl | exact .inr rfl | rfl | decide) only [mask_mk, ite_mask, ite_self, kept_next, ite_st, reply_st, later_st, State.setFlds_nil_mask, State.setFlds_cons_mask, State.setFld_mask]; done) | split | dsimp only))

@[simp] theorem execSafeStreamSet_mask {K : Nat} (r : Req) (c : SafeStreamCfg) (s : State) (h : Covers K 0x3e00000000000000000000000000000000000000000000000000000000000000000000000000000080000000000000000000000000000000001000000000000000000000000115804) : Kept K s (execSafeStreamSet r c s) := kept_mono h (by
  simp only [execSafeStreamSet]
  repeat' (first | with_reducible rfl | decide | with_reducible refine kept_next.2 ?_ | with_reducible refine (State.serve_mask _ _ _ _ _ ?_ (fun t => ?_)).trans ?_ | (simp (disch := first | exact .inl rfl | exact .inr rfl | rfl | decide) only [mask_mk, ite_mask, ite_self, kept_next, ite_st, reply_st, later_st, State.setFlds_nil_mask, State.setFlds_cons_mask, State.setFld_mask]; done) | split | dsimp only))

@[simp] theorem execGlnQuery_mask {K : Nat} (r : Req) (d cl : Nat) (s : State) (h : Covers K 0x80000000000000000000000000000000001000000000000000000000000015804) : Kept K s (execGlnQuery r d cl s) := kept_mono h (by
  simp only [execGlnQuery]
  repeat' (first | with_reducible rfl | decide | with_reducible refine kept_next.2 ?_ | with_reducible refine (State.serve_mask _ _ _ _ _ ?_ (fun t => ?_)).trans ?_ | (simp (disch := first | exact .inl rfl | exact .inr rfl | rfl | decide) only [mask_mk, ite_mask, ite_self, kept_next, ite_st, reply_st, later_st]; done) | split | dsimp only))

@[simp] theorem execChkrotQuery_mask {K : Nat} (r : Req) (d : Nat) (s : State) (h : Covers K 0x80000000000000000000000000000000001000000000000000000000000015804) : Kept K s (execChkrotQuery r d s) := kept_mono h (by
  simp only [execChkrotQuery]
  repeat' (first | with_reducible rfl | decide | with_reducible refine kept_next.2 ?_ | with_reducible refine (State.serve_mask _ _ _ _ _ ?_ (fun t => ?_)).trans ?_ | (simp (disch := first | exact .inl rfl | exact .inr rfl | rfl | decide) only [mask_mk, ite_mask, ite_self, kept_next, ite_st, reply_st, later_st]; done) | split | dsimp only))

@[simp] theorem wrGlnCtrl_mask {K : Nat} (d cl data : Nat) (s : State) (h : Covers K 0x82000000000000000000000000000000000000000000000000000000000000000000000000000000000000000000000000000000000000000000000000000000000000000000000) : (wrGlnCtrl d cl data s).mask K = s.mask K := mask_mono h (by
  simp only [wrGlnCtrl]
  repeat' (first | with_reducible rfl | decide | with_reducible refine (mask_foldl _ (fun t e => ?_) _ _).trans ?_ | (simp (disch := first | exact .inl rfl | exact .inr rfl | rfl | decide) only [mask_mk, ite_mask, ite_self, State.setFld_mask]; done) | split | dsimp only))

@[simp] theorem wrSafeStream1_mask {K : Nat} (j data : Nat) (s : State) (h : Covers K 0x2000000000010000000000000000000000000000000000000000000000000000000000000000000000000000000000000000000000000000000000000000000000000000000000000) : (wrSafeStream1 j data s).mask K = s.mask K := mask_mono h (by
  simp only [wrSafeStream1]
  repeat' (first | with_reducible rfl | decide | (simp (disch := first | exact .inl rfl | exact .inr rfl | rfl | decide) only [mask_mk, ite_mask, ite_self, State.flag_mask, State.setFld_mask]; done) | split | dsimp only))

end Sys2Proof.Machine
end

