-- ==== Sys2Proof/Laws/KeepsRegBus.lean ====
section
/-!
SUPPORT. Laws/KeepsRegBus.lean: what each operation of Machine/RegBus.lean leaves alone: a mask (Laws/Mask.lean) that covers what the operation may write sees no
difference between the state before and the state after.
-/
set_option linter.unusedSimpArgs false
set_option linter.unusedVariables false

namespace Sys2Proof.Machine

theorem State.plainWrite_mask {K : Nat} (s : State) (m : Master) (d o : Nat) (r : RegDesc) (i data : Nat) (hr : r ∈ regTable) (h : Covers K 0x1e83800c003e0201fc1a0050f000c0007fffffff033fc0003c73ffe40f3018bff0007ffffff38207ffe03809c00031fb88000000000000800002c54000066427fcc80000008c001f9c000004800) :
    (s.plainWrite m d o r i data).mask K = s.mask K := by
  simp only [State.plainWrite]
  refine (mask_foldl_mem _ _ (fun t g hg => ?_) _).trans ?_
  · split
    · rename_i hc
      exact State.setFld_mask _ _ _ _ _ (testBit_of_land h (testBit_of_land (by decide) (table_rw r hr g hg hc.1)))
    · rfl
  · split
    · exact State.guardViolation_mask _ _ _ _ _ (land_trans h rfl)
    · rfl

@[simp] theorem State.lowWrite_mask {K : Nat} (s : State) (m : Master) (d o : Nat) (r : RegDesc) (i data : Nat) (h : Covers K 0x4027fc0000000000000000000004880) : (State.lowWrite s m d o r i data).mask K = s.mask K := mask_mono h (by
  simp only [State.lowWrite]
  repeat' (first | with_reducible rfl | decide | with_reducible refine (State.guarded_mask _ _ _ _ _ _ ?_ (fun t => ?_)).trans ?_ | (simp (disch := first | exact .inl rfl | exact .inr rfl | rfl | decide) only [mask_mk, ite_mask, ite_self, State.holdLow_mask]; done) | split | dsimp only))

theorem State.highWrite_mask {K : Nat} (s : State) (m : Master) (d o : Nat) (blk : Blk) (lo : RegName) (i cur data : Nat) (eff : Nat → State → State) (h : Covers K 0x4027fc0000000000000000000004880) (he : ∀ y0 t, (eff y0 t).mask K = t.mask K) : (State.highWrite s m d o blk lo i cur data eff).mask K = s.mask K := by
  have hb : ∀ i, Nat.testBit 0x4027fc0000000000000000000004880 i = true → K.testBit i = true := fun i => testBit_of_land h
  have hl : ∀ j, Covers 0x4027fc0000000000000000000004880 j → Covers K j := fun j hj => land_trans h hj
  simp only [State.highWrite]
  repeat' (first | with_reducible rfl | exact hl _ (by decide) | with_reducible refine (State.guarded_mask _ _ _ _ _ _ ?_ (fun t => ?_)).trans ?_ | (simp (disch := first | exact .inl (hb _ rfl) | exact .inr rfl | exact hl _ (by decide) | exact hb _ (by decide) | assumption | rfl) only [mask_mk, ite_mask, ite_self, State.dropLow_mask, he]; done) | split | dsimp only)

@[simp] theorem wrFbrRange_mask {K : Nat} (d n data : Nat) (s : State) (h : Covers K 0x3c00100000000000000000000000000000000000000000000000000000000000000000000000000000000000000000000000000000000000) : (wrFbrRange d n data s).mask K = s.mask K := mask_mono h (by
  simp only [wrFbrRange]
  repeat' (first | with_reducible rfl | decide | (simp (disch := first | exact .inl rfl | exact .inr rfl | rfl | decide) only [mask_mk, ite_mask, ite_self, State.setFlds_nil_mask, State.setFlds_cons_mask, State.setFld_mask, State.flag_mask]; done) | split | dsimp only))

@[simp] theorem wrGrnScrub_mask {K : Nat} (d data : Nat) (s : State) (h : Covers K 0x14001000000000000000000000000000000000) : (wrGrnScrub d data s).mask K = s.mask K := mask_mono h (by
  simp only [wrGrnScrub]
  repeat' (first | with_reducible rfl | decide | (simp (disch := first | exact .inl rfl | exact .inr rfl | rfl | decide) only [mask_mk, ite_mask, ite_self, State.flag_mask, State.setFld_mask]; done) | split | dsimp only))

@[simp] theorem State.pageRegWrite_mask {K : Nat} (s : State) (name : RegName) (dom : Dom) (data : Nat) (h : Covers K 0x203e1820500c00d40000000000000000000000000000000000000000000000000000000002bc00fff80000fde0781c00000010021fe167c60000000000000001fa00005de924) : (State.pageRegWrite s name dom data).mask K = s.mask K := mask_mono h (by
  simp only [State.pageRegWrite]
  repeat' (first | with_reducible rfl | decide | (simp (disch := first | exact .inl rfl | exact .inr rfl | rfl | decide) only [mask_mk, ite_mask, ite_self, wrFnReset_mask, wrNotify_mask, wrReqTail_mask, wrRspHead_mask]; done) | split | dsimp only))

@[simp] theorem State.semFree_mask {K : Nat} (s : State) (d : Nat) (h : Covers K 0x280000000000000000000000000000000000000000000000000000000000000000000000000000000000000000000000000000080000000) : (State.semFree s d).mask K = s.mask K := mask_mono h (by
  simp only [State.semFree]
  repeat' (first | with_reducible rfl | decide | (simp (disch := first | exact .inl rfl | exact .inr rfl | rfl | decide) only [mask_mk, ite_mask, ite_self, State.setFlds_nil_mask, State.setFlds_cons_mask, State.setFld_mask]; done) | split | dsimp only))

@[simp] theorem wrFbrSem_mask {K : Nat} (d data : Nat) (s : State) (h : Covers K 0x280000000000000000000000000000000000000000000000000000000000000000000000000000000000000000000000000000080000000) : (wrFbrSem d data s).mask K = s.mask K := mask_mono h (by
  simp only [wrFbrSem]
  repeat' (first | with_reducible rfl | decide | (simp (disch := first | exact .inl rfl | exact .inr rfl | rfl | decide) only [mask_mk, ite_mask, ite_self, State.semFree_mask]; done) | split | dsimp only))

theorem State.regEffect_mask {K : Nat} (s : State) (m : Master) (d o : Nat) (r : RegDesc) (i data : Nat) (hr : r ∈ regTable) (h : Covers K 0x1e83c06c003e8203fffb8375f0e0cd407fffffffdb3fe8013c7ffff41fff18bff0867ffffff3da07ffe23e09ebc03fff8a400fde0781c0800003f561ff967c67fce80000e08c4a5fbfced7fefa4) :
    (s.regEffect m d o r i data).mask K = s.mask K := mask_mono h (by
  unfold State.regEffect
  generalize r.name = nm
  cases nm <;> dsimp only
  all_goals first | with_reducible exact State.plainWrite_mask _ _ _ _ _ _ _ hr (by decide) | skip
  all_goals repeat' (first | with_reducible rfl | decide | intro t |
    with_reducible exact State.plainWrite_mask _ _ _ _ _ _ _ hr (by decide) |
    (with_reducible refine (State.guarded_mask _ _ _ _ _ _ ?_ (fun t => ?_)).trans ?_) |
    (with_reducible refine (State.highWrite_mask _ _ _ _ _ _ _ _ _ _ ?_ (fun v t => ?_)).trans ?_) |
    (with_reducible refine (State.headWrite_mask _ _ _ _ ?_ (fun t => ?_)).trans ?_) | (with_reducible refine (State.tbWrite_mask _ _ _ _ _ _ ?_ (fun t => ?_)).trans ?_) |
    (with_reducible refine (wrSafeSilo_mask _ _ _ _ _ ?_ (by simp only [List.forall_mem_cons, List.not_mem_nil, false_imp_iff, implies_true, and_true]; decide)).trans ?_) |
    (simp (disch := first | exact .inl rfl | exact .inr rfl | rfl | decide) only [State.holdLow_mask, State.lowWrite_mask, State.pageRegWrite_mask, State.setFld_mask, wrCanCfg_mask, wrCanTiming_mask, wrClkAck_mask, wrClkCtrl_mask, wrClkDiv_mask, wrCmpCfg_mask, wrCmpNsec_mask, wrCmpSec_mask, wrCqHead_mask, wrCsiPhy_mask, wrEthCfg_mask, wrEthLat_mask, wrFbrRange_mask, wrFbrSem_mask, wrFnAper_mask, wrFnCfg_mask, wrForce_mask, wrFuseCtrl_mask, wrGlnCtrl_mask, wrGrnQuota_mask, wrGrnScrub_mask, wrHeadCtrl_mask, wrHeadImg_mask, wrHeadPclk_mask, wrLoftMap_mask, wrLoftScratch_mask, wrMirrorCfg_mask, wrMirrorFn_mask, wrOdoCfg_mask, wrOdoDistHi_mask, wrOdoDistLo_mask, wrOdoRatio_mask, wrOdoSlip_mask, wrPcieCfg_mask, wrPincfg_mask, wrPinmuxOvr_mask, wrPpsInDelay_mask, wrPpsOutCfg_mask, wrPwrFloor_mask, wrPwrLimit_mask, wrPwrPkgLimit_mask, wrPwrRail_mask, wrQctl_mask, wrRasStook_mask, wrRasStookAddr_mask, wrSafeCtrl_mask, wrSafeReact_mask, wrSafeStream1_mask, wrSiloCfg_mask, wrSiloMask_mask, wrSiloTime_mask, wrSqTail_mask, wrStr_mask, wrSwreq_mask, wrTachCfg_mask, wrTbAdj_mask, wrTbCfg_mask, wrTbGain_mask, wrTbOffset_mask, wrTbSetnsec_mask, wrTbSetsec_mask, wrThermCfg_mask, wrTrgCfg_mask, wrTrgPeriod_mask, wrTrgStart_mask, wrTrgStartLo_mask, wrTscapCfg_mask, wrUartCfg_mask, wrUartFrac_mask, wrWdt_mask, wrWdtKick_mask]; done) | split))

@[simp] theorem State.putRam_mask {K : Nat} (d : Nat) (x1 : State) (x2 : Nat) (x3 : List Byte) (h : Covers K 0x80000000) : (State.putRam d x1 x2 x3).mask K = x1.mask K := by
  induction x3 generalizing x1 x2 with
  | nil => rfl
  | cons b l ih => exact (ih _ _).trans (mask_mono h (by simp (disch := first | exact .inl rfl | exact .inr rfl | rfl | decide) only [mask_mk]))

@[simp] theorem State.breakReserve_mask {K : Nat} (s : State) (m : Master) (d off : Nat) (h : Covers K 0x80000000) : (State.breakReserve s m d off).mask K = s.mask K := mask_mono h (by
  simp only [State.breakReserve]
  repeat' (first | with_reducible rfl | decide | (simp (disch := first | exact .inl rfl | exact .inr rfl | rfl | decide) only [mask_mk, ite_mask, ite_self]; done) | split | dsimp only))

@[simp] theorem State.applyWrite_mask {K : Nat} (s : State) (m : Master) (d : Nat) (blk : Blk) (o data size : Nat) (h : Covers K 0x1e83c06c003e8203fffb8375f0e0cd407fffffffdb3fe8013c7ffff41fff18bff0867ffffff3da07ffe23e09ebc03fff8a400fde0781c0800003f561ff967c67fce80000e08c4a5fbfced7fefa4) : (State.applyWrite s m d blk o data size).mask K = s.mask K := mask_mono h (by
  simp only [State.applyWrite]
  split
  · split
    · exact State.breakReserve_mask _ _ _ _ (by decide)
    · exact (State.putRam_mask _ _ _ _ (by decide)).trans (State.breakReserve_mask _ _ _ _ (by decide))
  split
  · rename_i hq
    split
    · exact State.breakReserve_mask _ _ _ _ (by decide)
    · exact (State.regEffect_mask _ _ _ _ _ _ _ (hitReg_mem hq) (by decide)).trans (State.breakReserve_mask _ _ _ _ (by decide))
  · exact State.breakReserve_mask _ _ _ _ (by decide))

@[simp] theorem State.endPosted_mask {K : Nat} (s : State) (w : Posted) (fail : Option Nat) (h : Covers K 0x1e83c06c003e8203fffb8375f0e0cd407fffffffdb3febf13c7ffff41fff18bff0867ffffff3da07ffe23e09ebc03fff8a400fde0781c0800003f561ff967c67fce80000e08c4a5fbfced7fefa4) : (State.endPosted s w fail).mask K = s.mask K := mask_mono h (by
  simp only [State.endPosted]
  repeat' (first | with_reducible rfl | decide | (simp (disch := first | exact .inl rfl | exact .inr rfl | rfl | decide) only [mask_mk, ite_mask, ite_self, State.applyWrite_mask, State.pwFail_mask]; done) | split | dsimp only))

@[simp] theorem State.readWord_mask {K : Nat} (s : State) (m : Master) (d : Nat) (blk : Blk) (o same : Nat) (h : Covers K 0x60006020000008c40000810808203af400000000200003fd43080000c00e04000cb80000000c3818001ac70020c0000043d9e001e0783c7fff88303fffb04067fc001e20e00000c003400004884) : (State.readWord s m d blk o same).2.mask K = s.mask K := by
  simp only [State.readWord]
  split
  · rfl
  split
  · rename_i hq
    exact State.readHit_mask _ _ _ _ _ _ _ _ (hitReg_mem hq) (land_trans h rfl)
  · rfl

@[simp] theorem State.readOff_mask {K : Nat} (s : State) (m : Master) (addr d off same : Nat) (h : Covers K 0x60006020000008c40000810808203af400000000200003fd43080000c00e04000cb80000000c3818001ac70020c0000043d9e001e0783c7fff88303fffb04067fc001e20e00000c00340000488c) : (State.readOff s m addr d off same).mask K = s.mask K := mask_mono h (by
  simp only [State.readOff]
  repeat' (first | with_reducible rfl | decide | (simp (disch := first | exact .inl rfl | exact .inr rfl | rfl | decide) only [mask_mk, ite_mask, ite_self, State.busError_mask, State.readWord_mask]; done) | split | dsimp only))

@[simp] theorem State.writeOff_mask {K : Nat} (s : State) (m : Master) (addr d off size : Nat) (data : Word) (h : Covers K 0x1e83c06c003e8203fffb8375f0e0cd407fffffffdb3fe8013c7ffff41fff18bff0867ffffff3da07ffe23e09ebc03fff8a400fde0781c0800003f561ff967c67fce80000e08c4a5fbfced7fefac) : (State.writeOff s m addr d off size data).mask K = s.mask K := mask_mono h (by
  simp only [State.writeOff]
  repeat' (first | with_reducible rfl | decide | (simp (disch := first | exact .inl rfl | exact .inr rfl | rfl | decide) only [mask_mk, ite_mask, ite_self, State.applyWrite_mask, State.busError_mask]; done) | split | dsimp only))

@[simp] theorem State.writeAt_mask {K : Nat} (s : State) (m : Master) (addr size data : Nat) (h : Covers K 0x1e83c06c003e8203fffb8375f0e0cd407fffffffdb3fe8013c7ffff41fff18bff0867ffffff3da07ffe23e09ebc03fff8a400fde0781c0800003f561ff967c67fce80000e08c4a5fbfced7fefac) : Kept K s (State.writeAt s m addr size data) := kept_mono h (by
  simp only [State.writeAt]
  repeat' (first
    | with_reducible rfl
    | refine kept_next.2 ?_
    | (simp (disch := first | exact .inl rfl | exact .inr rfl | rfl | decide) only [mask_mk, ite_mask, ite_self, State.busError_mask, State.send_mask, State.store_mask, State.writeOff_mask]; done)
    | (rename_i hq
       rw [mask_access _ _ (by decide)]
       split at hq
       · obtain ⟨u, h1, h2⟩ := Option.bind_eq_some_iff.1 hq
         exact (State.apintcWrite_mask h2 (by decide)).trans (State.apintcWrite_mask h1 (by decide))
       · exact State.apintcWrite_mask hq (by decide))
    | split))

@[simp] theorem State.readAt_mask {K : Nat} (s : State) (m : Master) (addr size same : Nat) (h : Covers K 0x60006020000008c603e1830808203af400000000200003fd43080000c00e04000cb80000000c3818001ac70020c0000043d9e001e0783c7fff88303fffb04067fc001e20e00000c00340011e88c) : Kept K s (State.readAt s m addr size same) := kept_mono h (by
  simp only [State.readAt]
  repeat' (first | with_reducible rfl | decide | with_reducible refine kept_next.2 ?_ | (simp (disch := first | exact .inl rfl | exact .inr rfl | rfl | decide) only [mask_mk, ite_mask, ite_self, kept_next, State.busError_mask, State.fresh_mask, State.readOff_mask, State.readUe_mask, State.send_mask, State.wake_mask]; done) | split | dsimp only))

@[simp] theorem execRegisterWrite_mask {K : Nat} (m : Master) (addr size : Nat) (data : BitVec 64) (s : State) (h : Covers K 0x1e83c06c003e8203fffb8375f0e0cd407fffffffdb3fe8013c7ffff41fff18bff0867ffffff3da07ffe23e09ebc03fff8a400fde0781c0800003f561ff967c67fce80000e08c4a5fbfced7fefac) : Kept K s (execRegisterWrite m addr size data s) := kept_mono h (by
  simp only [execRegisterWrite]
  repeat' (first | with_reducible rfl | decide | with_reducible refine kept_next.2 ?_ | (simp (disch := first | exact .inl rfl | exact .inr rfl | rfl | decide) only [mask_mk, ite_mask, ite_self, kept_next, State.writeAt_mask]; done) | split | dsimp only))

@[simp] theorem execRcRegisterRead_mask {K : Nat} (m : Master) (addr size : Nat) (sameClock : BitVec 64) (s : State) (h : Covers K 0x60006020000008c603e1830808203af400000000200003fd43080000c00e04000cb80000000c3818001ac70020c0000043d9e001e0783c7fff88303fffb04067fc001e20e00000c00340011e88c) : Kept K s (execRcRegisterRead m addr size sameClock s) := kept_mono h (by
  simp only [execRcRegisterRead]
  repeat' (first | with_reducible rfl | decide | with_reducible refine kept_next.2 ?_ | (simp (disch := first | exact .inl rfl | exact .inr rfl | rfl | decide) only [mask_mk, ite_mask, ite_self, kept_next, State.readAt_mask]; done) | split | dsimp only))

@[simp] theorem execPairLoRead_mask {K : Nat} (m : Master) (addr : Nat) (s : State) (h : Covers K 0x60006020000008c603e1830808203af400000000200003fd43080000c00e04000cb80000000c3818001ac70020c0000043d9e001e0783c7fff88303fffb04067fc001e20e00000c00340011e88c) : Kept K s (execPairLoRead m addr s) := kept_mono h (by
  simp only [execPairLoRead]
  repeat' (first | with_reducible rfl | decide | with_reducible refine kept_next.2 ?_ | (simp (disch := first | exact .inl rfl | exact .inr rfl | rfl | decide) only [mask_mk, ite_mask, ite_self, kept_next, State.readAt_mask]; done) | split | dsimp only))

@[simp] theorem execPairHiRead_mask {K : Nat} (m : Master) (addr : Nat) (s : State) (h : Covers K 0x60006020000008c603e1830808203af400000000200003fd43080000c00e04000cb80000000c3818001ac70020c0000043d9e001e0783c7fff88303fffb04067fc001e20e00000c00340011e88c) : Kept K s (execPairHiRead m addr s) := kept_mono h (by
  simp only [execPairHiRead]
  repeat' (first | with_reducible rfl | decide | with_reducible refine kept_next.2 ?_ | (simp (disch := first | exact .inl rfl | exact .inr rfl | rfl | decide) only [mask_mk, ite_mask, ite_self, kept_next, State.readAt_mask]; done) | split | dsimp only))

@[simp] theorem execPairLoWrite_mask {K : Nat} (m : Master) (addr : Nat) (data : Word) (s : State) (h : Covers K 0x1e83c06c003e8203fffb8375f0e0cd407fffffffdb3fe8013c7ffff41fff18bff0867ffffff3da07ffe23e09ebc03fff8a400fde0781c0800003f561ff967c67fce80000e08c4a5fbfced7fefac) : Kept K s (execPairLoWrite m addr data s) := kept_mono h (by
  simp only [execPairLoWrite]
  repeat' (first | with_reducible rfl | decide | with_reducible refine kept_next.2 ?_ | (simp (disch := first | exact .inl rfl | exact .inr rfl | rfl | decide) only [mask_mk, ite_mask, ite_self, kept_next, State.writeAt_mask]; done) | split | dsimp only))

@[simp] theorem execPairHiWrite_mask {K : Nat} (m : Master) (addr : Nat) (data : Word) (s : State) (h : Covers K 0x1e83c06c003e8203fffb8375f0e0cd407fffffffdb3fe8013c7ffff41fff18bff0867ffffff3da07ffe23e09ebc03fff8a400fde0781c0800003f561ff967c67fce80000e08c4a5fbfced7fefac) : Kept K s (execPairHiWrite m addr data s) := kept_mono h (by
  simp only [execPairHiWrite]
  repeat' (first | with_reducible rfl | decide | with_reducible refine kept_next.2 ?_ | (simp (disch := first | exact .inl rfl | exact .inr rfl | rfl | decide) only [mask_mk, ite_mask, ite_self, kept_next, State.writeAt_mask]; done) | split | dsimp only))

@[simp] theorem execRstStatusRead_mask {K : Nat} (m : Master) (d : Nat) (s : State) (h : Covers K 0x60006020000008c603e1830808203af400000000200003fd43080000c00e04000cb80000000c3818001ac70020c0000043d9e001e0783c7fff88303fffb04067fc001e20e00000c00340011e88c) : Kept K s (execRstStatusRead m d s) := kept_mono h (by
  simp only [execRstStatusRead]
  repeat' (first | with_reducible rfl | decide | with_reducible refine kept_next.2 ?_ | (simp (disch := first | exact .inl rfl | exact .inr rfl | rfl | decide) only [mask_mk, ite_mask, ite_self, kept_next, State.readAt_mask]; done) | split | dsimp only))

@[simp] theorem execFabStatusRead_mask {K : Nat} (m : Master) (d : Nat) (s : State) (h : Covers K 0x60006020000008c603e1830808203af400000000200003fd43080000c00e04000cb80000000c3818001ac70020c0000043d9e001e0783c7fff88303fffb04067fc001e20e00000c00340011e88c) : Kept K s (execFabStatusRead m d s) := kept_mono h (by
  simp only [execFabStatusRead]
  repeat' (first | with_reducible rfl | decide | with_reducible refine kept_next.2 ?_ | (simp (disch := first | exact .inl rfl | exact .inr rfl | rfl | decide) only [mask_mk, ite_mask, ite_self, kept_next, State.readAt_mask]; done) | split | dsimp only))

@[simp] theorem execGrnDramStatusRead_mask {K : Nat} (m : Master) (d : Nat) (dram : Bool) (s : State) (h : Covers K 0x60006020000008c603e1830808203af400000000200003fd43080000c00e04000cb80000000c3818001ac70020c0000043d9e001e0783c7fff88303fffb04067fc001e20e00000c00340011e88c) : Kept K s (execGrnDramStatusRead m d dram s) := kept_mono h (by
  simp only [execGrnDramStatusRead]
  repeat' (first | with_reducible rfl | decide | with_reducible refine kept_next.2 ?_ | (simp (disch := first | exact .inl rfl | exact .inr rfl | rfl | decide) only [mask_mk, ite_mask, ite_self, kept_next, State.readAt_mask]; done) | split | dsimp only))

@[simp] theorem execFbrStatusRead_mask {K : Nat} (m : Master) (d : Nat) (s : State) (h : Covers K 0x60006020000008c603e1830808203af400000000200003fd43080000c00e04000cb80000000c3818001ac70020c0000043d9e001e0783c7fff88303fffb04067fc001e20e00000c00340011e88c) : Kept K s (execFbrStatusRead m d s) := kept_mono h (by
  simp only [execFbrStatusRead]
  repeat' (first | with_reducible rfl | decide | with_reducible refine kept_next.2 ?_ | (simp (disch := first | exact .inl rfl | exact .inr rfl | rfl | decide) only [mask_mk, ite_mask, ite_self, kept_next, State.readAt_mask]; done) | split | dsimp only))

@[simp] theorem State.retryAccess_mask {K : Nat} (bridge : Option Nat) (s : State) (x : Stalled) (h : Covers K 0x7e83e06c003e8ac7fffb837df8e0fff47ffffffffb3febfd7f7ffff4dfff1cbffcbe7ffffffffa1ffffaff09ebc03fffcbd9efdfe7f9fcffff8bf57fffb67c67fce81e20e08c4adfbfced7fefac) : (State.retryAccess bridge s x).mask K = s.mask K := mask_mono h (by
  simp only [State.retryAccess]
  repeat' (first | with_reducible rfl | decide | (simp (disch := first | exact .inl rfl | exact .inr rfl | rfl | decide) only [mask_mk, ite_mask, ite_self, State.readOff_mask, State.writeOff_mask]; done) | split | dsimp only))

@[simp] theorem State.runStalled_mask {K : Nat} (s : State) (bridge : Option Nat) (h : Covers K 0x7e83e06c003e8ac7fffb837df8e0fff47ffffffffb3febfd7f7ffff4dfff1cbffcbe7ffffffffa1ffffaff09ebc03fffcbd9efdfe7f9fcffff8bf57fffb67c67fce81e20e08c4adfbfced7fefac) : (State.runStalled s bridge).mask K = s.mask K := mask_mono h (by
  simp only [State.runStalled]
  repeat' (first | with_reducible rfl | decide | with_reducible refine (mask_foldl _ (fun t e => ?_) _ _).trans ?_ | (simp (disch := first | exact .inl rfl | exact .inr rfl | rfl | decide) only [mask_mk, ite_mask, ite_self, State.retryAccess_mask]; done) | split | dsimp only))

@[simp] theorem State.finishPosted_mask {K : Nat} (s : State) (d : Nat) (p : PostedBlk) (fail : Option Nat) (h : Covers K 0x7e83e06c003e8ac7fffb837df8e0fff47ffffffffb3febfd7f7ffff4dfff1cbffcbe7ffffffffa1ffffaff09ebc03fffcbd9efdfe7f9fcffff8bf57fffb67c67fce81e20e08c4adfbfced7fefac) : (State.finishPosted s d p fail).mask K = s.mask K := mask_mono h (by
  simp only [State.finishPosted]
  repeat' (first | with_reducible rfl | decide | (simp (disch := first | exact .inl rfl | exact .inr rfl | rfl | decide) only [mask_mk, ite_mask, ite_self, State.endPosted_mask, State.runStalled_mask]; done) | split | dsimp only))

@[simp] theorem execPostedWriteComplete_mask {K : Nat} (d : Nat) (p : PostedBlk) (s : State) (h : Covers K 0x7e83e06c003e8ac7fffb837df8e0fff47ffffffffb3febfd7f7ffff4dfff1cbffcbe7ffffffffa1ffffaff09ebc03fffcbd9efdfe7f9fcffff8bf57fffb67c67fce81e20e08c4adfbfced7fefac) : Kept K s (execPostedWriteComplete d p s) := kept_mono h (by
  simp only [execPostedWriteComplete, ifUnit]
  repeat' (first | with_reducible rfl | decide | with_reducible refine kept_next.2 ?_ | (simp (disch := first | exact .inl rfl | exact .inr rfl | rfl | decide) only [mask_mk, ite_mask, ite_self, kept_next, State.finishPosted_mask]; done) | split | dsimp only))

end Sys2Proof.Machine
end

