-- ==== Sys2Proof/Laws/KeepsFieldBridge.lean ====
section
/-!
SUPPORT. Laws/KeepsFieldBridge.lean: what each operation of Machine/FieldBridge.lean leaves alone: a mask (Laws/Mask.lean) that covers what the operation may write sees no
difference between the state before and the state after.
-/
set_option linter.unusedSimpArgs false
set_option linter.unusedVariables false

namespace Sys2Proof.Machine

@[simp] theorem execPostedWriteFail_mask {K : Nat} (d : Nat) (p : PostedBlk) (cause : Nat) (s : State) (h : Covers K 0x7e83e06c003e8ac7fffb837df8e0fff47ffffffffb3febfd7f7ffff4dfff1cbffcbe7ffffffffa1ffffaff09ebc03fffcbd9efdfe7f9fcffff8bf57fffb67c67fce81e20e08c4adfbfced7fefac) : Kept K s (execPostedWriteFail d p cause s) := kept_mono h (by
  simp only [execPostedWriteFail]
  repeat' (first | with_reducible rfl | decide | with_reducible refine kept_next.2 ?_ | (simp (disch := first | exact .inl rfl | exact .inr rfl | rfl | decide) only [mask_mk, ite_mask, ite_self, kept_next, State.finishPosted_mask]; done) | split | dsimp only))

@[simp] theorem State.semTake_mask {K : Nat} (s : State) (d : Nat) (m : Master) (addr off : Nat) (blk : Blk) (o : Nat) (op : FbrAtomic) (h : Covers K 0x7e83e06c003e8ac7fffb837df8e0fff47ffffffffb3febfd7f7ffff4dfff1cbffcbe7ffffffffa1ffffaff09ebc03fffcbd9efdfe7f9fcffff8bf57fffb67c67fce81e20e08c4adfbfced7fefac) : (State.semTake s d m addr off blk o op).mask K = s.mask K := mask_mono h (by
  simp only [State.semTake]
  repeat' (first | with_reducible rfl | decide | (simp (disch := first | exact .inl rfl | exact .inr rfl | rfl | decide) only [mask_mk, ite_mask, ite_self, State.setFlds_nil_mask, State.setFlds_cons_mask, State.setFld_mask, State.applyWrite_mask, State.busError_mask, State.readWord_mask]; done) | split | dsimp only))

@[simp] theorem State.semOp_mask {K : Nat} (s : State) (d : Nat) (m : Master) (addr off : Nat) (blk : Blk) (o : Nat) (op : FbrAtomic) (h : Covers K 0x7e83e06c003e8ac7fffb837df8e0fff47ffffffffb3febfd7f7ffff4dfff1cbffcbe7ffffffffa1ffffaff09ebc03fffcbd9efdfe7f9fcffff8bf57fffb67c67fce81e20e08c4adfbfced7fefac) : (State.semOp s d m addr off blk o op).mask K = s.mask K := mask_mono h (by
  simp only [State.semOp]
  repeat' (first | with_reducible rfl | decide | (simp (disch := first | exact .inl rfl | exact .inr rfl | rfl | decide) only [mask_mk, ite_mask, ite_self, State.applyWrite_mask, State.busError_mask, State.semFree_mask, State.semTake_mask]; done) | split | dsimp only))

@[simp] theorem State.semNext_mask {K : Nat} (d x1 : Nat) (x2 : State) (h : Covers K 0x7e83e06c003e8ac7fffb837df8e0fff47ffffffffb3febfd7f7ffff4dfff1cbffcbe7ffffffffa1ffffaff09ebc03fffcbd9efdfe7f9fcffff8bf57fffb67c67fce81e20e08c4adfbfced7fefac) : (State.semNext d x1 x2).mask K = x2.mask K := by
  refine mask_mono h ?_
  induction x1 generalizing x2 with
  | zero => rfl
  | succ n ih =>
    simp only [State.semNext]
    repeat' split
    all_goals first
      | with_reducible rfl
      | (simp (disch := first | exact .inl rfl | exact .inr rfl | rfl | decide) only [mask_mk]; done)
      | (refine (ih _).trans ((State.semTake_mask _ _ _ _ _ _ _ _ (by decide)).trans ?_)
         simp (disch := first | exact .inl rfl | exact .inr rfl | rfl | decide) only [mask_mk])

@[simp] theorem State.semRelease_mask {K : Nat} (s : State) (d : Nat) (h : Covers K 0x7e83e06c003e8ac7fffb837df8e0fff47ffffffffb3febfd7f7ffff4dfff1cbffcbe7ffffffffa1ffffaff09ebc03fffcbd9efdfe7f9fcffff8bf57fffb67c67fce81e20e08c4adfbfced7fefac) : (State.semRelease s d).mask K = s.mask K := mask_mono h (by
  simp only [State.semRelease]
  repeat' (first | with_reducible rfl | decide | (simp (disch := first | exact .inl rfl | exact .inr rfl | rfl | decide) only [mask_mk, ite_mask, ite_self, State.semFree_mask, State.semNext_mask]; done) | split | dsimp only))

@[simp] theorem State.memAtomic_mask {K : Nat} (s : State) (m : Master) (addr : Nat) (op : FbrAtomic) (h : Covers K 0x203e18200000000000000000000000000000000000000000000000000000000000000000000000000000000000000000000000021fe104027fc000000000000000000010e828) : (State.memAtomic s m addr op).mask K = s.mask K := mask_mono h (by
  simp only [State.memAtomic]
  repeat' (first | with_reducible rfl | decide | (simp (disch := first | exact .inl rfl | exact .inr rfl | rfl | decide) only [mask_mk, ite_mask, ite_self, State.busError_mask, State.readUe_mask, State.store_mask, State.wake_mask]; done) | split | dsimp only))

@[simp] theorem execFbrAtomicEmulation_mask {K : Nat} (m : Master) (addr : Nat) (op : FbrAtomic) (s : State) (h : Covers K 0x7e83e06c003e8ac7fffb837df8e0fff47ffffffffb3febfd7f7ffff4dfff1cbffcbe7ffffffffa1ffffaff09ebc03fffcbd9efdfe7f9fcffff8bf57fffb67c67fce81e20e08c4adfbfced7fefac) : Kept K s (execFbrAtomicEmulation m addr op s) := kept_mono h (by
  simp only [execFbrAtomicEmulation]
  repeat' (first | with_reducible rfl | decide | with_reducible refine kept_next.2 ?_ | (simp (disch := first | exact .inl rfl | exact .inr rfl | rfl | decide) only [mask_mk, ite_mask, ite_self, kept_next, State.busError_mask, State.memAtomic_mask, State.semOp_mask]; done) | split | dsimp only))

@[simp] theorem execFbrSemTimeout_mask {K : Nat} (d : Nat) (s : State) (h : Covers K 0x7e83e06c003e8ac7fffb837df8e0fff47ffffffffb3febfd7f7ffff4dfff1cbffcbe7ffffffffa1ffffaff09ebc03fffcbd9efdfe7f9fcffff8bf57fffb67c67fce81e20e08c4adfbfced7fefac) : Kept K s (execFbrSemTimeout d s) := kept_mono h (by
  simp only [execFbrSemTimeout]
  repeat' (first | with_reducible rfl | decide | with_reducible refine kept_next.2 ?_ | (simp (disch := first | exact .inl rfl | exact .inr rfl | rfl | decide) only [mask_mk, ite_mask, ite_self, kept_next, State.flag_mask, State.semRelease_mask]; done) | split | dsimp only))

@[simp] theorem execFbrSemReleaseWrite_mask {K : Nat} (m : Master) (d : Nat) (data : Word) (s : State) (h : Covers K 0x7e83e06c003e8ac7fffb837df8e0fff47ffffffffb3febfd7f7ffff4dfff1cbffcbe7ffffffffa1ffffaff09ebc03fffcbd9efdfe7f9fcffff8bf57fffb67c67fce81e20e08c4adfbfced7fefac) : Kept K s (execFbrSemReleaseWrite m d data s) := kept_mono h (by
  simp only [execFbrSemReleaseWrite]
  repeat' (first | with_reducible rfl | decide | with_reducible refine kept_next.2 ?_ | with_reducible refine (State.guarded_mask _ _ _ _ _ _ ?_ (fun t => ?_)).trans ?_ | with_reducible refine (State.regWrite_mask _ _ _ _ _ _ _ ?_ (fun t => ?_)).trans ?_ | (simp (disch := first | exact .inl rfl | exact .inr rfl | rfl | decide) only [mask_mk, ite_mask, ite_self, kept_next, State.semRelease_mask]; done) | split | dsimp only))

@[simp] theorem execFbrReadRelease_mask {K : Nat} (d : Nat) (s : State) (h : Covers K 0x7e83e06c003e8ac7fffb837df8e0fff47ffffffffb3febfd7f7ffff4dfff1cbffcbe7ffffffffa1ffffaff09ebc03fffcbd9efdfe7f9fcffff8bf57fffb67c67fce81e20e08c4adfbfced7fefac) : Kept K s (execFbrReadRelease d s) := kept_mono h (by
  simp only [execFbrReadRelease]
  repeat' (first | with_reducible rfl | decide | with_reducible refine kept_next.2 ?_ | (simp (disch := first | exact .inl rfl | exact .inr rfl | rfl | decide) only [mask_mk, ite_mask, ite_self, kept_next, State.runStalled_mask, State.semNext_mask]; done) | split | dsimp only))

@[simp] theorem State.msixWrite_mask {K : Nat} (s : State) (fn : Dom) (o x : Nat) (h : Covers K 0x80000000000000000000000000000000000000000000000000000000000014000) : (State.msixWrite s fn o x).mask K = s.mask K := mask_mono h (by
  simp only [State.msixWrite]
  repeat' (first | with_reducible rfl | decide | (simp (disch := first | exact .inl rfl | exact .inr rfl | rfl | decide) only [mask_mk, ite_mask, ite_self, State.msix_mask]; done) | split | dsimp only))

@[simp] theorem State.complete_mask {K : Nat} (s : State) (c : Nat) (r : Option (List Byte)) (h : Covers K 0x10000) : (State.complete s c r).mask K = s.mask K := mask_mono h (by
  simp only [State.complete]
  repeat' (first | with_reducible rfl | decide | (simp (disch := first | exact .inl rfl | exact .inr rfl | rfl | decide) only [mask_mk, ite_mask, ite_self, State.send_mask]; done) | split | dsimp only))

@[simp] theorem State.pcieRead_mask {K : Nat} (s : State) (c : Nat) (m : Master) (addr len : Nat) (h : Covers K 0x60006020000008c603e1830808203af400000000200003fd43080000c00e04000cb80000000c3818001ac70020c0000043d9e001e0783c7fff88303fffb04067fc001e20e00000c00340011e88c) : Kept K s (State.pcieRead s c m addr len) := kept_mono h (by
  have h2 := State.readAt_mask (K := 0x60006020000008c603e1830808203af400000000200003fd43080000c00e04000cb80000000c3818001ac70020c0000043d9e001e0783c7fff88303fffb04067fc001e20e00000c00340011e88c) s m addr len 0 (by decide)
  simp only [State.pcieRead]
  split
  · rename_i t hq
    have h3 := h2 t hq
    refine kept_next.2 ?_
    split
    · exact (State.complete_mask _ _ _ (by decide)).trans h3
    · exact h3
    · exact (State.complete_mask _ _ _ (by decide)).trans h3
  · exact h2)

@[simp] theorem State.pcieMemRead_mask {K : Nat} (s : State) (c : Nat) (m : Master) (addr len : Nat) (h : Covers K 0x203e18200000000000000000000000000000000000000000000000000000000000000000000000000000000000000000000000021fe104027fc000000000000000000011e808) : (State.pcieMemRead s c m addr len).mask K = s.mask K := mask_mono h (by
  simp only [State.pcieMemRead]
  repeat' (first | with_reducible rfl | decide | (simp (disch := first | exact .inl rfl | exact .inr rfl | rfl | decide) only [mask_mk, ite_mask, ite_self, State.busError_mask, State.complete_mask, State.readUe_mask, State.wake_mask]; done) | split | dsimp only))

@[simp] theorem State.physRead_mask {K : Nat} (s : State) (c : Nat) (m : Master) (addr len : Nat) (h : Covers K 0x60006020000008c603e1830808203af400000000200003fd43080000c00e04000cb80000000c3818001ac70020c0000043d9e001e0783c7fff88303fffb04067fc001e20e00000c00340011e88c) : Kept K s (State.physRead s c m addr len) := kept_mono h (by
  simp only [State.physRead]
  repeat' (first | with_reducible rfl | decide | with_reducible refine kept_next.2 ?_ | (simp (disch := first | exact .inl rfl | exact .inr rfl | rfl | decide) only [mask_mk, ite_mask, ite_self, kept_next, State.pcieMemRead_mask, State.pcieRead_mask]; done) | split | dsimp only))

@[simp] theorem State.physWrite_mask {K : Nat} (s : State) (m : Master) (addr : Nat) (data : List Byte) (h : Covers K 0x1e83c06c003e8203fffb8375f0e0cd407fffffffdb3fe8013c7ffff41fff18bff0867ffffff3da07ffe23e09ebc03fff8a400fde0781c0800003f561ff967c67fce80000e08c4a5fbfced7fefac) : Kept K s (State.physWrite s m addr data) := kept_mono h (by
  simp only [State.physWrite]
  repeat' (first | with_reducible rfl | decide | with_reducible refine kept_next.2 ?_ | (simp (disch := first | exact .inl rfl | exact .inr rfl | rfl | decide) only [mask_mk, ite_mask, ite_self, kept_next, State.busError_mask, State.store_mask, State.writeAt_mask]; done) | split | dsimp only))

@[simp] theorem State.barRead_mask {K : Nat} (s : State) (c fn bar o len : Nat) (h : Covers K 0x60006020000008c603e1830808203af400000000200003fd43080000c00e04000cb80000000c3818001ac70020c0000043d9e001e0783c7fff88303fffb04067fc001e20e00000c00340011e88c) : Kept K s (State.barRead s c fn bar o len) := kept_mono h (by
  simp only [State.barRead]
  repeat' (first | with_reducible rfl | decide | with_reducible refine kept_next.2 ?_ | (simp (disch := first | exact .inl rfl | exact .inr rfl | rfl | decide) only [mask_mk, ite_mask, ite_self, kept_next, State.complete_mask, State.pcieRead_mask, State.physRead_mask]; done) | split | dsimp only))

@[simp] theorem State.barWrite_mask {K : Nat} (s : State) (c fn bar o : Nat) (data : List Byte) (h : Covers K 0x1e83c06c003e8203fffb8375f0e0cd407fffffffdb3fe8013c7ffff41fff18bff0867ffffff3da07ffe23e09ebc03fff8a400fde0781c0800003f561ff967c67fce80000e08c4a5fbfced7fefac) : Kept K s (State.barWrite s c fn bar o data) := kept_mono h (by
  simp only [State.barWrite]
  repeat' (first | with_reducible rfl | decide | with_reducible refine kept_next.2 ?_ | (simp (disch := first | exact .inl rfl | exact .inr rfl | rfl | decide) only [mask_mk, ite_mask, ite_self, kept_next, State.msixWrite_mask, State.physWrite_mask, State.writeAt_mask]; done) | split | dsimp only))

@[simp] theorem execPcieInboundRequest_mask {K : Nat} (c : Nat) (q : PcieRequest) (s : State) (h : Covers K 0x7e83e06c003e8ac7fffb837df8e0fff47ffffffffb3febfd7f7ffff4dfff1cbffcbe7ffffffffa1ffffaff09ebc03fffcbd9efdfe7f9fcffff8bf57fffb67c67fce81e20e08c4adfbfced7fefac) : Kept K s (execPcieInboundRequest c q s) := kept_mono h (by
  simp only [execPcieInboundRequest]
  repeat' (first | with_reducible rfl | decide | with_reducible refine kept_next.2 ?_ | (simp (disch := first | exact .inl rfl | exact .inr rfl | rfl | decide) only [mask_mk, ite_mask, ite_self, kept_next, State.barRead_mask, State.barWrite_mask, State.complete_mask, State.physRead_mask, State.physWrite_mask]; done) | split | dsimp only))

end Sys2Proof.Machine
end

