-- ==== Sys2Proof/Laws/KeepsFwUpdate.lean ====
section
/-!
SUPPORT. Laws/KeepsFwUpdate.lean: what each operation of Machine/FwUpdate.lean leaves alone: a mask (Laws/Mask.lean) that covers what the operation may write sees no
difference between the state before and the state after.
-/
set_option linter.unusedSimpArgs false
set_option linter.unusedVariables false

namespace Sys2Proof.Machine

@[simp] theorem execFwStage_mask {K : Nat} (r : Req) (addr len : Nat) (s : State) (h : Covers K 0x80000000000000000000000000000000001000000000000000000000000015804) : Kept K s (execFwStage r addr len s) := kept_mono h (by
  simp only [execFwStage]
  repeat' (first | with_reducible rfl | decide | with_reducible refine kept_next.2 ?_ | with_reducible refine (State.serve_mask _ _ _ _ _ ?_ (fun t => ?_)).trans ?_ | (simp (disch := first | exact .inl rfl | exact .inr rfl | rfl | decide) only [mask_mk, ite_mask, ite_self, kept_next, ite_st, reply_st, later_st]; done) | split | dsimp only))

@[simp] theorem State.fwEnd_mask {K : Nat} (s : State) (a : Activation) (result : Nat) (h : Covers K 0x80000000000000000000000000000000001000000000000000000000000015800) : (State.fwEnd s a result).mask K = s.mask K := mask_mono h (by
  simp only [State.fwEnd]
  repeat' (first | with_reducible rfl | decide | (simp (disch := first | exact .inl rfl | exact .inr rfl | rfl | decide) only [mask_mk, ite_mask, ite_self, State.answer_mask]; done) | split | dsimp only))

@[simp] theorem execFwActivate_mask {K : Nat} (r : Req) (kinds dieMask clusterMask flags : Nat) (s : State) (h : Covers K 0x80000000000000000000000000000000001000000000000000000000000015804) : Kept K s (execFwActivate r kinds dieMask clusterMask flags s) := kept_mono h (by
  simp only [execFwActivate]
  repeat' (first | with_reducible rfl | decide | with_reducible refine kept_next.2 ?_ | with_reducible refine (State.serve_mask _ _ _ _ _ ?_ (fun t => ?_)).trans ?_ | (simp (disch := first | exact .inl rfl | exact .inr rfl | rfl | decide) only [mask_mk, ite_mask, ite_self, kept_next, ite_st, reply_st, later_st]; done) | split | dsimp only))

@[simp] theorem execFwStatus_mask {K : Nat} (r : Req) (s : State) (h : Covers K 0x80000000000000000000000000000000001000000000000000000000000015804) : Kept K s (execFwStatus r s) := kept_mono h (by
  simp only [execFwStatus]
  repeat' (first | with_reducible rfl | decide | with_reducible refine kept_next.2 ?_ | with_reducible refine (State.serve_mask _ _ _ _ _ ?_ (fun t => ?_)).trans ?_ | (simp (disch := first | exact .inl rfl | exact .inr rfl | rfl | decide) only [mask_mk, ite_mask, ite_self, kept_next, ite_st, reply_st, later_st]; done) | split | dsimp only))

@[simp] theorem execFwAbort_mask {K : Nat} (r : Req) (s : State) (h : Covers K 0x80000000000000000000000000000000001000000000000000000000000015804) : Kept K s (execFwAbort r s) := kept_mono h (by
  simp only [execFwAbort]
  repeat' (first | with_reducible rfl | decide | with_reducible refine kept_next.2 ?_ | with_reducible refine (State.serve_mask _ _ _ _ _ ?_ (fun t => ?_)).trans ?_ | (simp (disch := first | exact .inl rfl | exact .inr rfl | rfl | decide) only [mask_mk, ite_mask, ite_self, kept_next, ite_st, reply_st, later_st]; done) | split | dsimp only))

@[simp] theorem State.toPhase_mask {K : Nat} (s : State) (a : Activation) (p : FwPhase) (h : Covers K 0x1000) : (State.toPhase s a p).mask K = s.mask K := mask_mono h (by
  simp only [State.toPhase]
  repeat' (first | with_reducible rfl | decide | (simp (disch := first | exact .inl rfl | exact .inr rfl | rfl | decide) only [mask_mk, ite_mask, ite_self]; done) | split | dsimp only))

@[simp] theorem execShadowCopyEnd_mask {K : Nat} (s : State) (h : Covers K 0x1000) : Kept K s (execShadowCopyEnd s) := kept_mono h (by
  simp only [execShadowCopyEnd]
  repeat' (first | with_reducible rfl | decide | with_reducible refine kept_next.2 ?_ | (simp (disch := first | exact .inl rfl | exact .inr rfl | rfl | decide) only [mask_mk, ite_mask, ite_self, kept_next, State.setCore_mask, State.toPhase_mask]; done) | split | dsimp only))

@[simp] theorem State.fwRollback_mask {K : Nat} (s : State) (a : Activation) (cause : Nat) (h : Covers K 0x30000000000000000000000000000000000000000000000000000000000000000000000000000000080000000000000000000000000000000005020000000000000000000000215800) : (State.fwRollback s a cause).mask K = s.mask K := mask_mono h (by
  simp only [State.fwRollback]
  repeat' (first | with_reducible rfl | decide | (simp (disch := first | exact .inl rfl | exact .inr rfl | rfl | decide) only [mask_mk, ite_mask, ite_self, State.fwEnd_mask, State.judgeWaiting_mask, State.measureBundle_mask, State.raise_mask, State.setCore_mask]; done) | split | dsimp only))

@[simp] theorem execHandoffPoint_mask {K : Nat} (x0 : Handoff) (s : State) (h : Covers K 0x30000000000000000000000000000000000000000000000000000000000000000000000000000000080000000000000000000000000000000005020000000000000000000000215800) : Kept K s (execHandoffPoint x0 s) := kept_mono h (by
  simp only [execHandoffPoint]
  repeat' (first | with_reducible rfl | decide | with_reducible refine kept_next.2 ?_ | (simp (disch := first | exact .inl rfl | exact .inr rfl | rfl | decide) only [mask_mk, ite_mask, ite_self, kept_next, State.fwRollback_mask, State.setCore_mask, State.toPhase_mask]; done) | split | dsimp only))

@[simp] theorem execAdoptionDeclared_mask {K : Nat} (s : State) (h : Covers K 0x30000000000000000000000000000000000000000000000000000000000000000000000000000000000000000000000000000000000000000004020000000000000000000000205800) : Kept K s (execAdoptionDeclared s) := kept_mono h (by
  simp only [execAdoptionDeclared]
  repeat' (first | with_reducible rfl | decide | with_reducible refine kept_next.2 ?_ | (simp (disch := first | exact .inl rfl | exact .inr rfl | rfl | decide) only [mask_mk, ite_mask, ite_self, kept_next, State.judgeWaiting_mask, State.measureBundle_mask, State.toPhase_mask]; done) | split | dsimp only))

@[simp] theorem execAbandonPoint_mask {K : Nat} (s : State) (h : Covers K 0x30000000000000000000000000000000000000000000000000000000000000000000000000000000080000000000000000000000000000000005020000000000000000000000215800) : Kept K s (execAbandonPoint s) := kept_mono h (by
  simp only [execAbandonPoint]
  repeat' (first | with_reducible rfl | decide | with_reducible refine kept_next.2 ?_ | (simp (disch := first | exact .inl rfl | exact .inr rfl | rfl | decide) only [mask_mk, ite_mask, ite_self, kept_next, State.fwRollback_mask]; done) | split | dsimp only))

@[simp] theorem execFailureInProbation_mask {K : Nat} (s : State) (h : Covers K 0x30000000000000000000000000000000000000000000000000000000000000000000000000000000080000000000000000000000000000000005020000000000000000000000215800) : Kept K s (execFailureInProbation s) := kept_mono h (by
  simp only [execFailureInProbation]
  repeat' (first | with_reducible rfl | decide | with_reducible refine kept_next.2 ?_ | (simp (disch := first | exact .inl rfl | exact .inr rfl | rfl | decide) only [mask_mk, ite_mask, ite_self, kept_next, State.fwRollback_mask]; done) | split | dsimp only))

@[simp] theorem execProbationEnd_mask {K : Nat} (s : State) (h : Covers K 0x80000000000000000000000000000000001000000000000000000000000015800) : Kept K s (execProbationEnd s) := kept_mono h (by
  simp only [execProbationEnd]
  repeat' (first | with_reducible rfl | decide | with_reducible refine kept_next.2 ?_ | (simp (disch := first | exact .inl rfl | exact .inr rfl | rfl | decide) only [mask_mk, ite_mask, ite_self, kept_next, State.fwEnd_mask, State.setCore_mask, State.toPhase_mask]; done) | split | dsimp only))

@[simp] theorem execFwPersistWriteEnd_mask {K : Nat} (ok : Bool) (s : State) (h : Covers K 0x80000000000000000000000000000000001000000000000000000000000015840) : Kept K s (execFwPersistWriteEnd ok s) := kept_mono h (by
  simp only [execFwPersistWriteEnd]
  repeat' (first | with_reducible rfl | decide | with_reducible refine kept_next.2 ?_ | (simp (disch := first | exact .inl rfl | exact .inr rfl | rfl | decide) only [mask_mk, ite_mask, ite_self, kept_next, State.fwEnd_mask, State.putFlash_mask]; done) | split | dsimp only))

end Sys2Proof.Machine
end

