-- ==== Sys2Proof/Laws/KeepsPlace.lean ====
section
/-!
SUPPORT. Laws/KeepsPlace.lean: what each operation of Machine/Place.lean leaves alone: a mask (Laws/Mask.lean) that covers what the operation may write sees no
difference between the state before and the state after.
-/
set_option linter.unusedSimpArgs false
set_option linter.unusedVariables false

namespace Sys2Proof.Machine

@[simp] theorem State.killTest_mask {K : Nat} (s : State) (d c : Nat) (h : Covers K 0x88000000000000000000000000000000000000000000000000000000000000000000000000000000000000000000000000000000000000000000000000000000000000000000000) : (State.killTest s d c).mask K = s.mask K := mask_mono h (by
  simp only [State.killTest]
  repeat' (first | with_reducible rfl | decide | (simp (disch := first | exact .inl rfl | exact .inr rfl | rfl | decide) only [mask_mk, ite_mask, ite_self, State.addSat_mask, State.setFld_mask]; done) | split | dsimp only))

@[simp] theorem State.clearCore_mask {K : Nat} (s : State) (d c : Nat) (b : List Byte) (h : Covers K 0x203e1820500400000000000000000000000000000000000000000000000000000000000002080040000000fde0781c00000000021fe1050200000000000000000000005de824) : (State.clearCore s d c b).mask K = s.mask K := mask_mono h (by
  simp only [State.clearCore]
  repeat' (first | with_reducible rfl | decide | with_reducible refine (mask_foldl _ (fun t e => ?_) _ _).trans ?_ | (simp (disch := first | exact .inl rfl | exact .inr rfl | rfl | decide) only [mask_mk, ite_mask, ite_self, State.kill_mask]; done) | split | dsimp only))

theorem State.preempt_mask {K : Nat} {s u : State} {d m : Nat} {h : Sheaf} {b : List Byte} {free : List Nat} {x : Option Nat}
    (hq : s.preempt d h b free = some (u, m, x)) (hK : Covers K 0x203e1820500400000000000000000000000000000000000000000000000000000000000002080040000000fde0781c00000000021fe1050200000000000000000000005de824) : u.mask K = s.mask K := by
  simp only [State.preempt] at hq
  repeat' split at hq
  all_goals simp only [Option.map_eq_some_iff, Prod.mk.injEq, reduceCtorEq] at hq
  all_goals obtain ⟨c, -, rfl, -, -⟩ := hq
  all_goals simp (disch := exact land_trans hK (by decide))

@[simp] theorem State.putIn_mask {K : Nat} (s : State) (c : Cand) (b : List Byte) (r : SlotRef) (copy : Bool) (other : Option SlotRef) (h : Covers K 0xfc6018040000000000000000000000000000000000000000040000) : (State.putIn s c b r copy other).mask K = s.mask K := mask_mono h (by
  simp only [State.putIn]
  repeat' (first | with_reducible rfl | decide | (simp (disch := first | exact .inl rfl | exact .inr rfl | rfl | decide) only [mask_mk, ite_mask, ite_self, State.setPlaced_mask, State.showActive_mask]; done) | split | dsimp only))

@[simp] theorem State.notePlaced_mask {K : Nat} (s : State) (d : Nat) (c : Cand) (h : Covers K 0x203e18200000000000000000000000000000000000000000000000000000000000000000000000000008000000000000000000021fe10402000000000000000000000014e820) : (State.notePlaced s d c).mask K = s.mask K := mask_mono h (by
  simp only [State.notePlaced]
  repeat' (first | with_reducible rfl | decide | (simp (disch := first | exact .inl rfl | exact .inr rfl | rfl | decide) only [mask_mk, ite_mask, ite_self, State.guaranteeBroken_mask, State.setSheaf_mask]; done) | split | dsimp only))

@[simp] theorem State.placeOn_mask {K : Nat} (s : State) (d : Nat) (c : Cand) (b : List Byte) (core : Nat) (chk : Option Nat) (h : Covers K 0x203e1820000000000000000000000000000000000000000000000000000000000000000000000000000800fc60180400000000021fe10402000000000000000000000014e820) : (State.placeOn s d c b core chk).mask K = s.mask K := mask_mono h (by
  simp only [State.placeOn]
  repeat' (first | with_reducible rfl | decide | (simp (disch := first | exact .inl rfl | exact .inr rfl | rfl | decide) only [mask_mk, ite_mask, ite_self, State.notePlaced_mask, State.putIn_mask]; done) | split | dsimp only))

@[simp] theorem State.tryRaster_mask {K : Nat} (s : State) (d : Nat) (c : Cand) (b : List Byte) (h : Covers K 0x203e1820500400000000000000000000000000000000000000000000000000000000000002080040000800fde0781c00000000021fe1050200000000000000000000005de824) : (State.tryRaster s d c b).1.mask K = s.mask K := mask_mono h (by
  simp only [State.tryRaster]
  repeat' (first | with_reducible rfl | decide | (simp (disch := first | exact .inl rfl | exact .inr rfl | rfl | decide) only [mask_mk, ite_mask, ite_self, State.killWhere_mask, State.notePlaced_mask, State.putIn_mask]; done) | split | dsimp only))

@[simp] theorem State.tryPlace_mask {K : Nat} (s : State) (d : Nat) (c : Cand) (h : Covers K 0x880203e1820500400000000000000000000000000000000000000000000000000000000000002080040000800fde0781c00000000021fe1050200000000000000000000005de824) : (State.tryPlace s d c).1.mask K = s.mask K := mask_mono h (by
  simp only [State.tryPlace]
  repeat' (first | with_reducible rfl | (simp (disch := first | exact .inl rfl | exact .inr rfl | rfl | decide); done) |
    (rename_i hq; exact (State.placeOn_mask _ _ _ _ _ _ rfl).trans (State.preempt_mask hq rfl)) | split | dsimp only))

@[simp] theorem State.tryAll_mask {K : Nat} (s : State) (d : Nat) (x2 : List Cand) (h : Covers K 0x880203e1820500400000000000000000000000000000000000000000000000000000000000002080040000800fde0781c00000000021fe1050200000000000000000000005de824) : (State.tryAll s d x2).1.mask K = s.mask K := by
  induction x2 generalizing s with
  | nil => rfl
  | cons c l ih =>
    simp only [State.tryAll]
    split
    · exact State.tryPlace_mask _ _ _ h
    · exact (ih _).trans (State.tryPlace_mask _ _ _ h)

@[simp] theorem State.placePass_mask {K : Nat} (d x1 : Nat) (x2 : State) (h : Covers K 0x880203e1820500400000000000000000000000000000000000000000000000000000000000002080040000800fde0781c00000000021fe1050200000000000000000000005de824) : (State.placePass d x1 x2).mask K = x2.mask K := by
  induction x1 generalizing x2 with
  | zero => rfl
  | succ n ih =>
    simp only [State.placePass]
    split
    · exact (ih _).trans (State.tryAll_mask _ _ _ h)
    · exact State.tryAll_mask _ _ _ h

@[simp] theorem State.noteWork_mask {K : Nat} (s : State) (d : Nat) (h : Covers K 0x40000) : (State.noteWork s d).mask K = s.mask K := mask_mono h (by
  simp only [State.noteWork]
  repeat' (first | with_reducible rfl | decide | with_reducible refine (mask_foldl _ (fun t e => ?_) _ _).trans ?_ | (simp (disch := first | exact .inl rfl | exact .inr rfl | rfl | decide) only [mask_mk, ite_mask, ite_self, State.setSilo_mask]; done) | split | dsimp only))

@[simp] theorem execCommandPlace_mask {K : Nat} (d : Nat) (s : State) (h : Covers K 0x880203e1820500400000000000000000000000000000000000000000000000000000000000002080040000800fde0781c00000000021fe1050200000000000000000000005de824) : Kept K s (execCommandPlace d s) := kept_mono h (by
  simp only [execCommandPlace, ifUnit]
  repeat' (first | with_reducible rfl | decide | with_reducible refine kept_next.2 ?_ | (simp (disch := first | exact .inl rfl | exact .inr rfl | rfl | decide) only [mask_mk, ite_mask, ite_self, kept_next, State.noteWork_mask, State.placePass_mask]; done) | split | dsimp only))

end Sys2Proof.Machine
end

