-- ==== Sys2Proof/Laws/KeepsReset.lean ====
section
/-!
SUPPORT. Laws/KeepsReset.lean: what each operation of Machine/Reset.lean leaves alone: a mask (Laws/Mask.lean) that covers what the operation may write sees no
difference between the state before and the state after.
-/
set_option linter.unusedSimpArgs false
set_option linter.unusedVariables false

namespace Sys2Proof.Machine

theorem State.trialOr_mask {K : Nat} (s : State) (u : FwUnit) (otherwise : State → State) (h : Covers K 0x30000000000000000000000000000000000000000000000000000000000000000000000000000000080000000000000000000000000000000005020000000000000000000000215800) (he : ∀ t, (otherwise t).mask K = t.mask K) : (State.trialOr s u otherwise).mask K = s.mask K := by
  have hb : ∀ i, Nat.testBit 0x30000000000000000000000000000000000000000000000000000000000000000000000000000000080000000000000000000000000000000005020000000000000000000000215800 i = true → K.testBit i = true := fun i => testBit_of_land h
  have hl : ∀ j, Covers 0x30000000000000000000000000000000000000000000000000000000000000000000000000000000080000000000000000000000000000000005020000000000000000000000215800 j → Covers K j := fun j hj => land_trans h hj
  simp only [State.trialOr]
  repeat' (first | with_reducible rfl | exact hl _ (by decide) | (simp (disch := first | exact .inl (hb _ rfl) | exact .inr rfl | exact hl _ (by decide) | exact hb _ (by decide) | assumption | rfl) only [mask_mk, ite_mask, ite_self, State.fwRollback_mask, he]; done) | split | dsimp only)

@[simp] theorem execWatchdogExpiry_mask {K : Nat} (d : Nat) (s : State) (h : Covers K 0x30000000000000000000000000000000000000000000000000000000000000000000000000000000080000000000000000000000000000000005020000000000000000000000215c00) : Kept K s (execWatchdogExpiry d s) := kept_mono h (by
  simp only [execWatchdogExpiry]
  repeat' (first | with_reducible rfl | decide | with_reducible refine kept_next.2 ?_ | with_reducible refine (State.trialOr_mask _ _ _ ?_ (fun t => ?_)).trans ?_ | (simp (disch := first | exact .inl rfl | exact .inr rfl | rfl | decide) only [mask_mk, ite_mask, ite_self, kept_next, State.requestReset_mask]; done) | split | dsimp only))

@[simp] theorem execLockUp_mask {K : Nat} (u : LockUnit) (s : State) (h : Covers K 0x30000000000000000000000000000000000000000000000000000000000000000000000000000000080000000000000000000000000000000005020000000000000000000000215c00) : Kept K s (execLockUp u s) := kept_mono h (by
  simp only [execLockUp]
  repeat' (first | with_reducible rfl | decide | with_reducible refine kept_next.2 ?_ | with_reducible refine (State.trialOr_mask _ _ _ ?_ (fun t => ?_)).trans ?_ | (simp (disch := first | exact .inl rfl | exact .inr rfl | rfl | decide) only [mask_mk, ite_mask, ite_self, kept_next, State.requestReset_mask]; done) | split | dsimp only))

@[simp] theorem State.packageReset_mask {K : Nat} (s : State) (warm : Bool) (h : Covers K 0xfffffffffffffffffffffffffffffffffffffffffffffffffffffffffffffffffffffffffffffffffffffffffffffffffffffffffffffffffffffffffffffffffffffffffffffffffffffffeffac) : (State.packageReset s warm).mask K = s.mask K := mask_mono h (by
  have hr : ∀ l : List (FK × Nat), l.filter (fun e => !Nat.testBit 0xfffffffffffffffffffffffffffffffffffffffffffffffffffffffffffffffffffffffffffffffffffffffffffffffffffffffffffffffffffffffffffffffffffffffffffffffffffffffeffac e.1.fld.maskBit) = [] := by
    intro l
    rw [List.filter_eq_nil_iff]
    intro x _
    simp [allFields_testBit 0xfffffffffffffffffffffffffffffffffffffffffffffffffffffffffffffffffffffffffffffffffffffffffffffffffffffffffffffffffffffffffffffffffffffffffffffffffffffffeffac x.1.fld (by decide)]
  simp only [State.packageReset]
  cases warm
  all_goals simp (disch := first | exact .inl rfl | exact .inr rfl | exact (hr _).trans (hr _).symm) only [mask_mk])

@[simp] theorem State.killLost_mask {K : Nat} (s : State) (rerun : Bool) (sel : Nat → SlotRef → Placed → Bool) (h : Covers K 0x203e1820500400000000000000000000000000000000000000000000000000000000000002080040000000fde0781c00000000021fe1050200000000000000000000005de824) : (State.killLost s rerun sel).mask K = s.mask K := mask_mono h (by
  simp only [State.killLost]
  repeat' (first | with_reducible rfl | decide | with_reducible refine (mask_foldl _ (fun t e => ?_) _ _).trans ?_ | (simp (disch := first | exact .inl rfl | exact .inr rfl | rfl | decide) only [mask_mk, ite_mask, ite_self, State.kill_mask]; done) | split | dsimp only))

@[simp] theorem State.dropQueuesOf_mask {K : Nat} (s : State) (d : Nat) (h : Covers K 0x203e1820500400000000000000000000000000000000000000000000000000000000000002080040000000fde0781c00000000021fe1050200000000000000000000005de824) : (State.dropQueuesOf s d).mask K = s.mask K := mask_mono h (by
  simp only [State.dropQueuesOf]
  repeat' (first | with_reducible rfl | decide | with_reducible refine (mask_foldl _ (fun t e => ?_) _ _).trans ?_ | (simp (disch := first | exact .inl rfl | exact .inr rfl | rfl | decide) only [mask_mk, ite_mask, ite_self, State.answer_mask, State.freezeCheck_mask, State.killLost_mask, State.siloGone_mask]; done) | split | dsimp only | simp (disch := first | exact .inl rfl | exact .inr rfl | rfl | decide) only [mask_mk, ite_mask, ite_self, State.answer_mask, State.freezeCheck_mask, State.killLost_mask, State.siloGone_mask]))

@[simp] theorem State.dropMemory_mask {K : Nat} (s : State) (d : Nat) (h : Covers K 0x2000) : (State.dropMemory s d).mask K = s.mask K := mask_mono h (by
  simp only [State.dropMemory]
  repeat' (first | with_reducible rfl | decide | (simp (disch := first | exact .inl rfl | exact .inr rfl | rfl | decide) only [mask_mk, ite_mask, ite_self]; done) | split | dsimp only))

@[simp] theorem State.dropPorts_mask {K : Nat} (s : State) (d : Nat) (h : Covers K 0xc6004180) : (State.dropPorts s d).mask K = s.mask K := mask_mono h (by
  simp only [State.dropPorts]
  repeat' (first | with_reducible rfl | decide | (simp (disch := first | exact .inl rfl | exact .inr rfl | rfl | decide) only [mask_mk, ite_mask, ite_self]; done) | split | dsimp only))

@[simp] theorem State.reloadFw_mask {K : Nat} (s : State) (sel : FwUnit → Bool) (h : Covers K 0x80000000000000000000000000000000001000000000000000000000000015800) : (State.reloadFw s sel).mask K = s.mask K := mask_mono h (by
  simp only [State.reloadFw]
  repeat' (first | with_reducible rfl | decide | (simp (disch := first | exact .inl rfl | exact .inr rfl | rfl | decide) only [mask_mk, ite_mask, ite_self, State.fwEnd_mask, State.startCores_mask]; done) | split | dsimp only))

@[simp] theorem State.dieReset_mask {K : Nat} (s : State) (d : Nat) (h : Covers K 0xffffffffffffffffffffffffffffffffffffffffffffffffffffffffffffffffffffffffffffffffffffffffffffffffffffffffffffffffffffffffffffffffffffffffffffffffffffc6dffda4) : (State.dieReset s d).mask K = s.mask K := mask_mono h (by
  simp only [State.dieReset]
  refine (State.setStep_mask _ _ _ (by decide)).trans ?_
  refine Eq.trans (by simp (disch := first | exact .inl rfl | exact .inr rfl | rfl | decide) only [mask_mk]; rfl) ((State.restore_mask _ _ (fun k _ => allFields_testBit _ _ (by decide))).trans ?_)
  simp (disch := first | exact .inl rfl | exact .inr rfl | rfl | decide) only [State.dropPorts_mask, State.dropMemory_mask, State.dropQueuesOf_mask, State.reloadFw_mask])

@[simp] theorem State.emptyPool_mask {K : Nat} (s : State) (d : Nat) (e : (Nat × Nat) × Nat × Nat) (h : Covers K 0x2000000000000000000000000000000000000000000000000002020) : (State.emptyPool s d e).mask K = s.mask K := mask_mono h (by
  simp only [State.emptyPool]
  repeat' (first | with_reducible rfl | decide | with_reducible refine (mask_foldl _ (fun t e => ?_) _ _).trans ?_ | (simp (disch := first | exact .inl rfl | exact .inr rfl | rfl | decide) only [mask_mk, ite_mask, ite_self, State.kvCommit_mask]; done) | split | dsimp only))

@[simp] theorem State.clusterReset_mask {K : Nat} (s : State) (d c : Nat) (h : Covers K 0xfffffffffffffffffffffffffffffffffffffffffffffffffffffffffffffffffffffffffffffffffffffffffffffffffffffffffffffffffffffffffffffffffffffffffffffffffffe005dfca4) : (State.clusterReset s d c).mask K = s.mask K := mask_mono h (by
  simp only [State.clusterReset]
  refine (mask_foldl _ (fun t e => State.emptyPool_mask _ _ _ (by decide)) _ _).trans ?_
  refine Eq.trans (by simp (disch := first | exact .inl rfl | exact .inr rfl | rfl | decide) only [mask_mk]; rfl) ((State.dropPairs_mask _ _ (by decide)).trans
    ((State.restore_mask _ _ (fun k _ => allFields_testBit _ _ (by decide))).trans ((State.showSeq_mask _ _ (by decide)).trans ?_)))
  simp (disch := first | exact .inl rfl | exact .inr rfl | rfl | decide) only [mask_mk, State.killLost_mask, State.reloadFw_mask])

@[simp] theorem State.pairForm_mask {K : Nat} (s : State) (d p : Nat) (h : Covers K 0x70000000000000000000000000000000000000000000000000000000000000000000000000000000000000000000000000000000000000000000000000800000) : (State.pairForm s d p).mask K = s.mask K := mask_mono h (by
  simp only [State.pairForm]
  repeat' (first | with_reducible rfl | decide | (simp (disch := first | exact .inl rfl | exact .inr rfl | rfl | decide) only [mask_mk, ite_mask, ite_self, State.setFlds_nil_mask, State.setFlds_cons_mask, State.setFld_mask]; done) | split | dsimp only))

@[simp] theorem State.apReset_mask {K : Nat} (s : State) (d a : Nat) (h : Covers K 0x70100000000000000000000000000000000000000000000000000000000000000000000000000000000000000000000067c60000000000000000000080806c80) : (State.apReset s d a).mask K = s.mask K := mask_mono h (by
  simp only [State.apReset]
  repeat' (first | with_reducible rfl | decide | (simp (disch := first | exact .inl rfl | exact .inr rfl | rfl | decide) only [mask_mk, ite_mask, ite_self, State.mbClose_mask, State.pairForm_mask, State.showSeq_mask]; done) | split | dsimp only))

@[simp] theorem State.recordCause_mask {K : Nat} (s : State) (q : ResetReq) (h : Covers K 0x1f0000000000000000000) : (State.recordCause s q).mask K = s.mask K := mask_mono h (by
  simp only [State.recordCause]
  repeat' (first | with_reducible rfl | decide | with_reducible refine (mask_foldl _ (fun t e => ?_) _ _).trans ?_ | (simp (disch := first | exact .inl rfl | exact .inr rfl | rfl | decide) only [mask_mk, ite_mask, ite_self, State.setFlds_nil_mask, State.setFlds_cons_mask, State.setFld_mask]; done) | split | dsimp only))

@[simp] theorem State.warmReset_mask {K : Nat} (s : State) (q : ResetReq) (h : Covers K 0xffffffffffffffffffffffffffffffffffffffffffffffffffffffffffffffffffffffffffffffffffffffffffffffffffffffffffffffffffffffffffffffffffffffffffffffffffffffffffac) : (State.warmReset s q).mask K = s.mask K := mask_mono h (by
  simp only [State.warmReset]
  repeat' (first | with_reducible rfl | decide | (simp (disch := first | exact .inl rfl | exact .inr rfl | rfl | decide) only [mask_mk, ite_mask, ite_self, State.apReset_mask, State.clusterReset_mask, State.dieReset_mask, State.packageReset_mask, State.recordCause_mask, State.setFld_mask, State.source_mask, State.titheAdd_mask]; done) | split | dsimp only))

@[simp] theorem State.startHoldoff_mask {K : Nat} (s : State) (t : ResetTarget) (h : Covers K 0x60000000000000600) : (State.startHoldoff s t).mask K = s.mask K := mask_mono h (by
  simp only [State.startHoldoff]
  repeat' (first | with_reducible rfl | decide | (simp (disch := first | exact .inl rfl | exact .inr rfl | rfl | decide) only [mask_mk, ite_mask, ite_self, State.allLimp_mask, State.released_mask]; done) | split | dsimp only))

@[simp] theorem execResetTakeEffect_mask {K : Nat} (s : State) (h : Covers K 0xffffffffffffffffffffffffffffffffffffffffffffffffffffffffffffffffffffffffffffffffffffffffffffffffffffffffffffffffffffffffffffffffffffffffffffffffffffffffffac) : Kept K s (execResetTakeEffect s) := kept_mono h (by
  simp only [execResetTakeEffect]
  repeat' (first | with_reducible rfl | decide | with_reducible refine kept_next.2 ?_ | (simp (disch := first | exact .inl rfl | exact .inr rfl | rfl | decide) only [mask_mk, ite_mask, ite_self, kept_next, State.startHoldoff_mask, State.warmReset_mask]; done) | split | dsimp only))

@[simp] theorem execPowerOnRelease_mask {K : Nat} (s : State) (h : Covers K 0x60000000000000600) : Kept K s (execPowerOnRelease s) := kept_mono h (by
  simp only [execPowerOnRelease]
  repeat' (first | with_reducible rfl | decide | with_reducible refine kept_next.2 ?_ | (simp (disch := first | exact .inl rfl | exact .inr rfl | rfl | decide) only [mask_mk, ite_mask, ite_self, kept_next, State.startHoldoff_mask]; done) | split | dsimp only))

@[simp] theorem execBrownOut_mask {K : Nat} (d : Nat) (s : State) (h : Covers K 0xfffffffffffffffffffffffffffffffffffffffffffffffffffffffffffffffffffffffffffffffffffffffffffffffffffffffffffffffffffffffffffffffffffffffffffffffffffffffeffac) : Kept K s (execBrownOut d s) := kept_mono h (by
  simp only [execBrownOut]
  repeat' (first | with_reducible rfl | decide | with_reducible refine kept_next.2 ?_ | (simp (disch := first | exact .inl rfl | exact .inr rfl | rfl | decide) only [mask_mk, ite_mask, ite_self, kept_next, State.packageReset_mask, State.recordCause_mask]; done) | split | dsimp only))

end Sys2Proof.Machine
end

