-- ==== Sys2Proof/Laws/KeepsTraverse.lean ====
section
/-!
SUPPORT. Laws/KeepsTraverse.lean: what each operation of Machine/Traverse.lean leaves alone: a mask (Laws/Mask.lean) that covers what the operation may write sees no
difference between the state before and the state after.
-/
set_option linter.unusedSimpArgs false
set_option linter.unusedVariables false

namespace Sys2Proof.Machine

@[simp] theorem execGather_mask {K : Nat} (d core : Nat) (s : State) (h : Covers K 0x203e18200000000000000000000000000000000000000000000000000000000000000000000000000000007d80601800000000021fe104027fc000000000000000000014e824) : Kept K s (execGather d core s) := kept_mono h (by
  simp only [execGather]
  repeat' (first | with_reducible rfl | decide | with_reducible refine kept_next.2 ?_ | (simp (disch := first | exact .inl rfl | exact .inr rfl | rfl | decide) only [mask_mk, ite_mask, ite_self, kept_next, State.runRow_mask]; done) | split | dsimp only))

@[simp] theorem execNeighbours_mask {K : Nat} (d core : Nat) (s : State) (h : Covers K 0x203e18200000000000000000000000000000000000000000000000000000000000000000000000000000007d80601800000000021fe104027fc000000000000000000014e824) : Kept K s (execNeighbours d core s) := kept_mono h (by
  simp only [execNeighbours]
  repeat' (first | with_reducible rfl | decide | with_reducible refine kept_next.2 ?_ | (simp (disch := first | exact .inl rfl | exact .inr rfl | rfl | decide) only [mask_mk, ite_mask, ite_self, kept_next, State.runRow_mask]; done) | split | dsimp only))

@[simp] theorem execSetOp_mask {K : Nat} (d core : Nat) (s : State) (h : Covers K 0x203e18200000000000000000000000000000000000000000000000000000000000000000000000000000007d80601800000000021fe104027fc000000000000000000014e824) : Kept K s (execSetOp d core s) := kept_mono h (by
  simp only [execSetOp]
  repeat' (first | with_reducible rfl | decide | with_reducible refine kept_next.2 ?_ | (simp (disch := first | exact .inl rfl | exact .inr rfl | rfl | decide) only [mask_mk, ite_mask, ite_self, kept_next, State.runRow_mask]; done) | split | dsimp only))

@[simp] theorem execHashBuild_mask {K : Nat} (d core : Nat) (s : State) (h : Covers K 0x203e18200000000000000000000000000000000000000000000000000000000000000000000000000000007d80601800000000021fe104027fc000000000000000000014e824) : Kept K s (execHashBuild d core s) := kept_mono h (by
  simp only [execHashBuild]
  repeat' (first | with_reducible rfl | decide | with_reducible refine kept_next.2 ?_ | (simp (disch := first | exact .inl rfl | exact .inr rfl | rfl | decide) only [mask_mk, ite_mask, ite_self, kept_next, State.runRow_mask]; done) | split | dsimp only))

@[simp] theorem execHashProbe_mask {K : Nat} (d core : Nat) (s : State) (h : Covers K 0x203e18200000000000000000000000000000000000000000000000000000000000000000000000000000007d80601800000000021fe104027fc000000000000000000014e824) : Kept K s (execHashProbe d core s) := kept_mono h (by
  simp only [execHashProbe]
  repeat' (first | with_reducible rfl | decide | with_reducible refine kept_next.2 ?_ | (simp (disch := first | exact .inl rfl | exact .inr rfl | rfl | decide) only [mask_mk, ite_mask, ite_self, kept_next, State.runRow_mask]; done) | split | dsimp only))

@[simp] theorem execRadixSort_mask {K : Nat} (d core : Nat) (s : State) (h : Covers K 0x203e18200000000000000000000000000000000000000000000000000000000000000000000000000000007d80601800000000021fe104027fc000000000000000000014e824) : Kept K s (execRadixSort d core s) := kept_mono h (by
  simp only [execRadixSort]
  repeat' (first | with_reducible rfl | decide | with_reducible refine kept_next.2 ?_ | (simp (disch := first | exact .inl rfl | exact .inr rfl | rfl | decide) only [mask_mk, ite_mask, ite_self, kept_next, State.runRow_mask]; done) | split | dsimp only))

@[simp] theorem execSegReduce_mask {K : Nat} (d core : Nat) (s : State) (h : Covers K 0x203e18200000000000000000000000000000000000000000000000000000000000000000000000000000007d80601800000000021fe104027fc000000000000000000014e824) : Kept K s (execSegReduce d core s) := kept_mono h (by
  simp only [execSegReduce]
  repeat' (first | with_reducible rfl | decide | with_reducible refine kept_next.2 ?_ | (simp (disch := first | exact .inl rfl | exact .inr rfl | rfl | decide) only [mask_mk, ite_mask, ite_self, kept_next, State.runRow_mask]; done) | split | dsimp only))

@[simp] theorem execScatter_mask {K : Nat} (d core : Nat) (s : State) (h : Covers K 0x203e18200000000000000000000000000000000000000000000000000000000000000000000000000000007d80601800000000021fe104027fc000000000000000000014e824) : Kept K s (execScatter d core s) := kept_mono h (by
  simp only [execScatter]
  repeat' (first | with_reducible rfl | decide | with_reducible refine kept_next.2 ?_ | (simp (disch := first | exact .inl rfl | exact .inr rfl | rfl | decide) only [mask_mk, ite_mask, ite_self, kept_next, State.runRow_mask]; done) | split | dsimp only))

@[simp] theorem execFrontier_mask {K : Nat} (d core : Nat) (s : State) (h : Covers K 0x203e18200000000000000000000000000000000000000000000000000000000000000000000000000000007d80601800000000021fe104027fc000000000000000000014e824) : Kept K s (execFrontier d core s) := kept_mono h (by
  simp only [execFrontier]
  repeat' (first | with_reducible rfl | decide | with_reducible refine kept_next.2 ?_ | (simp (disch := first | exact .inl rfl | exact .inr rfl | rfl | decide) only [mask_mk, ite_mask, ite_self, kept_next, State.runRow_mask]; done) | split | dsimp only))

end Sys2Proof.Machine
end

