-- ==== Sys2Proof/Laws/KeepsVecWindow.lean ====
section
/-!
SUPPORT. Laws/KeepsVecWindow.lean: what each operation of Machine/VecWindow.lean leaves alone: a mask (Laws/Mask.lean) that covers what the operation may write sees no
difference between the state before and the state after.
-/
set_option linter.unusedSimpArgs false
set_option linter.unusedVariables false

namespace Sys2Proof.Machine

@[simp] theorem execDwconv_mask {K : Nat} (d core : Nat) (s : State) (h : Covers K 0x203e18200000000000000000000000000000000000000000000000000000000000000000000000000000007d80601800000000021fe104027fc000000000000000000014e824) : Kept K s (execDwconv d core s) := kept_mono h (by
  simp only [execDwconv]
  repeat' (first | with_reducible rfl | decide | with_reducible refine kept_next.2 ?_ | (simp (disch := first | exact .inl rfl | exact .inr rfl | rfl | decide) only [mask_mk, ite_mask, ite_self, kept_next, State.runRow_mask]; done) | split | dsimp only))

@[simp] theorem execPool_mask {K : Nat} (d core : Nat) (s : State) (h : Covers K 0x203e18200000000000000000000000000000000000000000000000000000000000000000000000000000007d80601800000000021fe104027fc000000000000000000014e824) : Kept K s (execPool d core s) := kept_mono h (by
  simp only [execPool]
  repeat' (first | with_reducible rfl | decide | with_reducible refine kept_next.2 ?_ | (simp (disch := first | exact .inl rfl | exact .inr rfl | rfl | decide) only [mask_mk, ite_mask, ite_self, kept_next, State.runRow_mask]; done) | split | dsimp only))

@[simp] theorem execResample_mask {K : Nat} (d core : Nat) (s : State) (h : Covers K 0x203e18200000000000000000000000000000000000000000000000000000000000000000000000000000007d80601800000000021fe104027fc000000000000000000014e824) : Kept K s (execResample d core s) := kept_mono h (by
  simp only [execResample]
  repeat' (first | with_reducible rfl | decide | with_reducible refine kept_next.2 ?_ | (simp (disch := first | exact .inl rfl | exact .inr rfl | rfl | decide) only [mask_mk, ite_mask, ite_self, kept_next, State.runRow_mask]; done) | split | dsimp only))

end Sys2Proof.Machine
end

