-- ==== Sys2Proof/Laws/Canon.lean ====
section
/-!
SUPPORT. Laws/Canon.lean: every operation that writes memory or flash keeps their canonical form; the others leave both alone (Laws/Mask.lean).
-/
set_option linter.unusedSimpArgs false
set_option linter.unusedVariables false

namespace Sys2Proof.Machine

theorem cellsWf_cons (d : Byte) (e : Nat × Byte) (m : List (Nat × Byte)) :
    cellsWf d (e :: m) = true ↔ e.2 ≠ d ∧ (∀ x ∈ m, e.1 < x.1) ∧ cellsWf d m = true := by
  obtain ⟨a, b⟩ := e
  simp [cellsWf, and_assoc]

theorem cellPut_keys (d : Byte) (m : List (Nat × Byte)) (x : Nat) (v : Byte) (e : Nat × Byte) (h : e ∈ cellPut d m x v) : e ∈ m ∨ e.1 = x := by
  induction m with
  | nil =>
    simp only [cellPut] at h
    split at h
    · simp at h
    · simp at h; right; rw [h]
  | cons c m ih =>
    obtain ⟨a, b⟩ := c
    simp only [cellPut] at h
    split at h
    · split at h
      · exact .inl h
      · rcases List.mem_cons.mp h with h | h
        · right; rw [h]
        · exact .inl h
    · split at h
      · split at h
        · exact .inl (List.mem_cons_of_mem _ h)
        · rcases List.mem_cons.mp h with h | h
          · right; rw [h]
          · exact .inl (List.mem_cons_of_mem _ h)
      · rcases List.mem_cons.mp h with h | h
        · left; rw [h]; simp
        · rcases ih h with h | h
          · exact .inl (List.mem_cons_of_mem _ h)
          · exact .inr h

/-- A write keeps the canonical form. -/
theorem cellPut_wf (d : Byte) (m : List (Nat × Byte)) (x : Nat) (v : Byte) (h : cellsWf d m = true) : cellsWf d (cellPut d m x v) = true := by
  induction m with
  | nil =>
    simp only [cellPut]
    split
    · rfl
    · rename_i hv
      simp [cellsWf, hv]
  | cons c m ih =>
    obtain ⟨a, b⟩ := c
    have hc := (cellsWf_cons d (a, b) m).mp h
    simp only [cellPut]
    split
    · rename_i hx
      split
      · exact h
      · rename_i hv
        refine (cellsWf_cons d (x, v) _).mpr ⟨hv, ?_, h⟩
        intro y hy
        rcases List.mem_cons.mp hy with hy | hy
        · rw [hy]; exact hx
        · exact Nat.lt_trans hx (hc.2.1 y hy)
    · split
      · rename_i hx
        split
        · exact hc.2.2
        · rename_i hv
          exact (cellsWf_cons d (x, v) _).mpr ⟨hv, fun y hy => hx ▸ hc.2.1 y hy, hc.2.2⟩
      · rename_i hx1 hx2
        refine (cellsWf_cons d (a, b) _).mpr ⟨hc.1, ?_, ih hc.2.2⟩
        intro y hy
        rcases cellPut_keys d m x v y hy with hy | hy
        · exact hc.2.1 y hy
        · dsimp only at hx1 hx2 ⊢
          omega

/-- Leaving cells out keeps the canonical form. -/
theorem filter_wf (d : Byte) (m : List (Nat × Byte)) (p : Nat × Byte → Bool) (h : cellsWf d m = true) : cellsWf d (m.filter p) = true := by
  induction m with
  | nil => rfl
  | cons c m ih =>
    have hc := (cellsWf_cons d c m).mp h
    simp only [List.filter_cons]
    split
    · exact (cellsWf_cons d c _).mpr ⟨hc.1, fun y hy => hc.2.1 y (List.mem_filter.mp hy).1, ih hc.2.2⟩
    · exact ih hc.2.2

/-- The mask of everything but memory and flash. -/
abbrev memMask : Nat := 0xffffffffffffffffffffffffffffffffffffffffffffffffffffffffffffffffffffffffffffffffffffffffffffffffffffffffffffffffffffffffffffffffffffffffffffffffffffffffff9f

theorem canonical_parts {s : State} : Canonical s ↔ cellsWf 0#8 s.mem = true ∧ cellsWf 0xFF#8 s.flash = true := by
  simp [Canonical, Memory.wf]

/-- States that agree on both memories. -/
theorem canonical_of_mask {a b : State} (h : a.mask memMask = b.mask memMask) (hb : Canonical b) : Canonical a := by
  rw [canonical_parts] at hb ⊢
  rw [mem_of_mask h rfl, flash_of_mask h rfl]
  exact hb

theorem canonical_mk {x0 x1 x2 x3 x4 x5 x6 x7 x8 x9 x10 x11 x12 x13 x14 x15 x16 x17 x18 x19 x20 x21 x22 x23 x24 x25 x26 x27 x28 x29 x30 x31 x32} :
    Canonical ⟨x0, x1, x2, x3, x4, x5, x6, x7, x8, x9, x10, x11, x12, x13, x14, x15, x16, x17, x18, x19, x20, x21, x22, x23, x24, x25, x26, x27, x28, x29, x30, x31, x32⟩ =
      ((cellsWf 0#8 x5 && cellsWf 0xFF#8 x6) = true) := rfl

theorem canonical_upd {b : State} (h : Canonical b) : (cellsWf 0#8 b.mem && cellsWf 0xFF#8 b.flash) = true := h

theorem canonical_unmask {a : State} (h : Canonical (a.mask memMask)) : Canonical a := h

theorem canonical_mask {a : State} (h : Canonical a) : Canonical (a.mask memMask) := h

theorem canonical_ite {c : Prop} [Decidable c] {a b : State} (ha : c → Canonical a) (hb : ¬c → Canonical b) : Canonical (if c then a else b) := by
  split
  · exact ha ‹_›
  · exact hb ‹_›

theorem canonical_st_ite {c : Prop} [Decidable c] {a b : Reply} (ha : c → Canonical a.st) (hb : ¬c → Canonical b.st) : Canonical (if c then a else b).st := by
  split
  · exact ha ‹_›
  · exact hb ‹_›

theorem canonical_foldl {α : Type} (g : State → α → State) (h : ∀ t e, Canonical t → Canonical (g t e)) (l : List α) (s : State) (hw : Canonical s) :
    Canonical (l.foldl g s) := by
  induction l generalizing s with
  | nil => exact hw
  | cons a l ih => exact ih _ (h s a hw)

/-- Every next state of an outcome has its memories in canonical form. -/
def CanonicalOut (o : Out) : Prop := ∀ t, o = .next t → Canonical t

theorem canonicalOut_next {t : State} (h : Canonical t) : CanonicalOut (.next t) := fun u e => by cases e; exact h

theorem canonicalOut_ifUnit {c : Bool} {s t : State} (hs : Canonical s) (h : Canonical t) : CanonicalOut (ifUnit c s t) := by
  cases c
  · exact canonicalOut_next hs
  · exact canonicalOut_next h

theorem canonicalOut_of_kept {s : State} {o : Out} (h : Kept memMask s o) (hw : Canonical s) : CanonicalOut o := fun t e => canonical_of_mask (h t e) hw

theorem State.restore_wf (s : State) (p : FK → Bool) (h : Canonical s) : Canonical (s.restore p) := h

theorem State.setFld_wf (s : State) (d : Nat) (f : Fld) (i v : Nat) (h : Canonical s) : Canonical (s.setFld d f i v) := h

theorem State.setFlds_wf (s : State) (d i : Nat) (l : List (Fld × Nat)) (h : Canonical s) : Canonical (s.setFlds d i l) := by
  induction l generalizing s with
  | nil => exact h
  | cons x l ih => exact ih _ h

theorem State.putByte_wf (s : State) (a : Nat) (v : Byte) (hw : Canonical s) : Canonical (s.putByte a v) := by
  rw [canonical_parts] at hw ⊢
  exact ⟨cellPut_wf _ _ _ _ hw.1, hw.2⟩

theorem State.putBytes_wf (s : State) (a : Nat) (l : List Byte) (hw : Canonical s) : Canonical (s.putBytes a l) := by
  induction l generalizing s a with
  | nil => exact hw
  | cons b l ih => exact ih _ _ (State.putByte_wf _ _ _ hw)

theorem State.zeroBytes_wf (s : State) (lo n : Nat) (hw : Canonical s) : Canonical (s.zeroBytes lo n) := by
  rw [canonical_parts] at hw ⊢
  exact ⟨filter_wf _ _ _ hw.1, hw.2⟩

theorem State.putFlash_wf (s : State) (a : Nat) (l : List Byte) (hw : Canonical s) : Canonical (s.putFlash a l) := by
  induction l generalizing s a with
  | nil => exact hw
  | cons b l ih =>
    refine ih _ _ ?_
    rw [canonical_parts] at hw ⊢
    exact ⟨hw.1, cellPut_wf _ _ _ _ hw.2⟩

theorem State.eraseFlash_wf (s : State) (lo n : Nat) (hw : Canonical s) : Canonical (s.eraseFlash lo n) := by
  rw [canonical_parts] at hw ⊢
  exact ⟨hw.1, filter_wf _ _ _ hw.2⟩

theorem State.regWrite_wf (s : State) (m : Master) (d : Nat) (blk : Blk) (off : Nat) (data : Word) (apply : State → State) (he : ∀ t, Canonical t → Canonical ((apply t))) (hw : Canonical s) : Canonical (State.regWrite s m d blk off data apply) := by
  simp only [State.regWrite]
  repeat' (first | with_reducible assumption | with_reducible refine he _ ?_ | with_reducible refine canonical_ite (fun _ => ?_) (fun _ => ?_) | (with_reducible apply canonical_unmask; simp (disch := decide) only [State.busError_mask]; with_reducible apply canonical_mask) | (simp only [canonical_mk]; with_reducible refine canonical_upd ?_) | split)

theorem State.guarded_wf (s : State) (m : Master) (d : Nat) (blk : Blk) (off : Nat) (eff : State → State) (he : ∀ t, Canonical t → Canonical ((eff t))) (hw : Canonical s) : Canonical (State.guarded s m d blk off eff) := by
  simp only [State.guarded]
  repeat' (first | with_reducible assumption | with_reducible refine he _ ?_ | with_reducible refine canonical_ite (fun _ => ?_) (fun _ => ?_) | (with_reducible apply canonical_unmask; simp (disch := decide) only [State.guardWrite_mask]; with_reducible apply canonical_mask) | (simp only [canonical_mk]; with_reducible refine canonical_upd ?_) | split)

theorem State.serve_wf (s : State) (r : Req) (opcode : Nat) (die : Option Nat) (body : State → Reply) (he : ∀ t, Canonical t → Canonical ((body t)).st) (hw : Canonical s) : Canonical (State.serve s r opcode die body) := by
  simp only [State.serve]
  repeat' (first | with_reducible assumption | with_reducible refine he _ ?_ | with_reducible refine canonical_ite (fun _ => ?_) (fun _ => ?_) | (with_reducible apply canonical_unmask; simp (disch := decide) only [State.answered_mask, State.handling_mask, State.respond_mask]; with_reducible apply canonical_mask) | (simp only [canonical_mk]; with_reducible refine canonical_upd ?_) | split)

theorem State.write_wf (s : State) (a : Nat) (bs : List Byte) (hw : Canonical s) : Canonical (State.write s a bs) := by
  simp only [State.write]
  repeat' (first | with_reducible assumption | with_reducible refine canonical_ite (fun _ => ?_) (fun _ => ?_) | with_reducible apply State.putBytes_wf | (simp only [canonical_mk]; with_reducible refine canonical_upd ?_) | split)

theorem State.store_wf (s : State) (w : Agent) (a : Nat) (bs : List Byte) (hw : Canonical s) : Canonical (State.store s w a bs) := by
  simp only [State.store]
  repeat' (first | with_reducible assumption | with_reducible refine canonical_foldl _ (fun t e ht => ?_) _ _ ?_ | (with_reducible apply canonical_unmask; simp (disch := decide) only [State.detect_mask]; with_reducible apply canonical_mask) | with_reducible apply State.write_wf | (simp only [canonical_mk]; with_reducible refine canonical_upd ?_) | split)

theorem State.stores_wf (s : State) (w : Agent) (l : List (Nat × List Byte)) (hw : Canonical s) : Canonical (State.stores s w l) := by
  simp only [State.stores]
  repeat' (first | with_reducible assumption | with_reducible refine canonical_foldl _ (fun t e ht => ?_) _ _ ?_ | with_reducible apply State.store_wf | (simp only [canonical_mk]; with_reducible refine canonical_upd ?_) | split)

theorem State.moveBytes_wf (s : State) (src dst n : Nat) (hw : Canonical s) : Canonical (State.moveBytes s src dst n) := by
  simp only [State.moveBytes]
  repeat' (first | with_reducible assumption | with_reducible refine canonical_foldl _ (fun t e ht => ?_) _ _ ?_ | with_reducible apply State.putByte_wf | with_reducible apply State.zeroBytes_wf | (simp only [canonical_mk]; with_reducible refine canonical_upd ?_) | split)

theorem State.copyMem_wf (s : State) (src dst n : Nat) (hw : Canonical s) : Canonical (State.copyMem s src dst n) := by
  simp only [State.copyMem]
  repeat' (first | with_reducible assumption | with_reducible refine canonical_foldl _ (fun t e ht => ?_) _ _ ?_ | (with_reducible apply canonical_unmask; simp (disch := decide) only [State.fresh_mask, State.readUe_mask, State.wake_mask]; with_reducible apply canonical_mask) | with_reducible apply State.moveBytes_wf | with_reducible apply State.putBytes_wf | (simp only [canonical_mk]; with_reducible refine canonical_upd ?_) | split)

theorem State.tbWrite_wf (s : State) (m : Master) (d off k : Nat) (eff : State → State) (he : ∀ t, Canonical t → Canonical ((eff t))) (hw : Canonical s) : Canonical (State.tbWrite s m d off k eff) := by
  simp only [State.tbWrite]
  repeat' (first | with_reducible assumption | with_reducible refine he _ ?_ | with_reducible refine canonical_ite (fun _ => ?_) (fun _ => ?_) | (with_reducible apply canonical_unmask; simp (disch := decide) only [State.flag_mask]; with_reducible apply canonical_mask) | with_reducible refine State.guarded_wf _ _ _ _ _ _ (fun t ht => ?_) ?_ | (simp only [canonical_mk]; with_reducible refine canonical_upd ?_) | split)

theorem State.memAdd_wf (s : State) (d a n x : Nat) (hw : Canonical s) : Canonical (State.memAdd s d a n x) := by
  simp only [State.memAdd]
  repeat' (first | with_reducible assumption | with_reducible apply State.store_wf | (simp only [canonical_mk]; with_reducible refine canonical_upd ?_) | split)

theorem State.chargeBroken_wf (s : State) (d k : Nat) (hw : Canonical s) : Canonical (State.chargeBroken s d k) := by
  simp only [State.chargeBroken]
  repeat' (first | with_reducible assumption | with_reducible refine canonical_ite (fun _ => ?_) (fun _ => ?_) | with_reducible refine canonical_foldl _ (fun t e ht => ?_) _ _ ?_ | with_reducible apply State.memAdd_wf | (simp only [canonical_mk]; with_reducible refine canonical_upd ?_) | split)

theorem State.guaranteeBroken_wf (s : State) (d k kind amount cause queue : Nat) (hw : Canonical s) : Canonical (State.guaranteeBroken s d k kind amount cause queue) := by
  simp only [State.guaranteeBroken]
  repeat' (first | with_reducible assumption | with_reducible refine canonical_ite (fun _ => ?_) (fun _ => ?_) | (with_reducible apply canonical_unmask; simp (disch := decide) only [State.flag_mask, State.raise_mask, State.setSilo_mask, State.source_mask]; with_reducible apply canonical_mask) | with_reducible apply State.chargeBroken_wf | (simp only [canonical_mk]; with_reducible refine canonical_upd ?_) | split)

theorem State.putRecord_wf (s : State) (id : Nat) (q : Queue) (r : List Byte) (hw : Canonical s) : Canonical (State.putRecord s id q r) := by
  simp only [State.putRecord]
  repeat' (first | with_reducible assumption | with_reducible refine canonical_ite (fun _ => ?_) (fun _ => ?_) | (with_reducible apply canonical_unmask; simp (disch := decide) only [State.msix_mask, State.setQueue_mask]; with_reducible apply canonical_mask) | with_reducible apply State.store_wf | (simp only [canonical_mk]; with_reducible refine canonical_upd ?_) | split)

theorem State.giveRecord_wf (s : State) (id : Nat) (r : List Byte) (hw : Canonical s) : Canonical (State.giveRecord s id r) := by
  simp only [State.giveRecord]
  repeat' (first | with_reducible assumption | with_reducible refine canonical_ite (fun _ => ?_) (fun _ => ?_) | (with_reducible apply canonical_unmask; simp (disch := decide) only [State.setQueue_mask]; with_reducible apply canonical_mask) | with_reducible apply State.putRecord_wf | (simp only [canonical_mk]; with_reducible refine canonical_upd ?_) | split)

theorem State.account_wf (s : State) (d : Nat) (q : Queue) (x3 : Sheaf) (hw : Canonical s) : Canonical (State.account s d q x3) := by
  simp only [State.account]
  repeat' (first | with_reducible assumption | with_reducible apply State.memAdd_wf | with_reducible apply State.store_wf | (simp only [canonical_mk]; with_reducible refine canonical_upd ?_) | split)

theorem State.outputEnd_wf (s : State) (id d : Nat) (x3 : Sheaf) (status : Nat) (hw : Canonical s) : Canonical (State.outputEnd s id d x3 status) := by
  simp only [State.outputEnd]
  repeat' (first | with_reducible assumption | with_reducible refine canonical_ite (fun _ => ?_) (fun _ => ?_) | (with_reducible apply canonical_unmask; simp (disch := decide) only [State.addSat_mask, State.safeEnter_mask, State.setFld_mask, State.setSilo_mask]; with_reducible apply canonical_mask) | with_reducible apply State.store_wf | (simp only [canonical_mk]; with_reducible refine canonical_upd ?_) | split)

theorem State.finish_wf (s : State) (id : Nat) (x2 : Sheaf) (status : Nat) (hw : Canonical s) : Canonical (State.finish s id x2 status) := by
  simp only [State.finish]
  repeat' (first | with_reducible assumption | with_reducible refine canonical_ite (fun _ => ?_) (fun _ => ?_) | (with_reducible apply canonical_unmask; simp (disch := decide) only [State.drainCheck_mask, State.lateRecord_mask, State.mirrorChange_mask, State.setFld_mask, State.setQueue_mask, State.setSheaf_mask, State.setSilo_mask]; with_reducible apply canonical_mask) | with_reducible apply State.account_wf | with_reducible apply State.giveRecord_wf | with_reducible apply State.outputEnd_wf | (simp only [canonical_mk]; with_reducible refine canonical_upd ?_) | split)

theorem State.finishIdle_wf (s : State) (id hdr : Nat) (hw : Canonical s) : Canonical (State.finishIdle s id hdr) := by
  simp only [State.finishIdle]
  repeat' (first | with_reducible assumption | with_reducible refine canonical_ite (fun _ => ?_) (fun _ => ?_) | with_reducible apply State.finish_wf | (simp only [canonical_mk]; with_reducible refine canonical_upd ?_) | split)

theorem State.runOn_wf (s : State) (d : Nat) (r : SlotRef) (n a w : Nat) (hw : Canonical s) : Canonical (State.runOn s d r n a w) := by
  simp only [State.runOn]
  repeat' (first | with_reducible assumption | (with_reducible apply canonical_unmask; simp (disch := decide) only [State.countCycles_mask, State.setPlaced_mask]; with_reducible apply canonical_mask) | with_reducible apply State.stores_wf | (simp only [canonical_mk]; with_reducible refine canonical_upd ?_) | split)

theorem State.runOut_wf (s : State) (d : Nat) (r : SlotRef) (hw : Canonical s) : Canonical (State.runOut s d r) := by
  simp only [State.runOut]
  repeat' (first | with_reducible assumption | with_reducible apply State.runOn_wf | (simp only [canonical_mk]; with_reducible refine canonical_upd ?_) | split)

theorem State.runPart_wf (s : State) (d : Nat) (r : SlotRef) (hw : Canonical s) : Canonical (State.runPart s d r) := by
  simp only [State.runPart]
  repeat' (first | with_reducible assumption | (with_reducible apply canonical_unmask; simp (disch := decide) only [State.fresh_mask]; with_reducible apply canonical_mask) | with_reducible apply State.runOn_wf | (simp only [canonical_mk]; with_reducible refine canonical_upd ?_) | split)

theorem State.stopBoth_wf (s : State) (d : Nat) (r : SlotRef) (hw : Canonical s) : Canonical (State.stopBoth s d r) := by
  simp only [State.stopBoth]
  repeat' (first | with_reducible assumption | (with_reducible apply canonical_unmask; simp (disch := decide) only [State.leave_mask]; with_reducible apply canonical_mask) | with_reducible apply State.runPart_wf | (simp only [canonical_mk]; with_reducible refine canonical_upd ?_) | split)

theorem State.kill_wf (s : State) (d : Nat) (r : SlotRef) (rerun : Bool) (hw : Canonical s) : Canonical (s.kill d r rerun) := by
  unfold State.kill
  split
  · exact hw
  · have stopped : Canonical (s.stopBoth d r) := State.stopBoth_wf _ _ _ hw
    refine canonical_of_mask (State.freezeCheck_mask _ _ (by decide)) ?_
    split
    · refine State.finishIdle_wf _ _ _ (canonical_of_mask (State.setSheaf_mask _ _ _ (by decide)) (State.memAdd_wf _ _ _ _ _ ?_))
      repeat' (first | exact stopped | split)
    · repeat' (first | exact stopped | split)

theorem State.killWhere_wf (s : State) (d : Nat) (rerun : Bool) (sel : SlotRef → Placed → Bool) (hw : Canonical s) : Canonical (State.killWhere s d rerun sel) := by
  simp only [State.killWhere]
  repeat' (first | with_reducible assumption | with_reducible refine canonical_ite (fun _ => ?_) (fun _ => ?_) | with_reducible refine canonical_foldl _ (fun t e ht => ?_) _ _ ?_ | with_reducible apply State.kill_wf | (simp only [canonical_mk]; with_reducible refine canonical_upd ?_) | split)

theorem State.endSheaf_wf (s : State) (id hdr status engStatus failed : Nat) (hw : Canonical s) : Canonical (State.endSheaf s id hdr status engStatus failed) := by
  simp only [State.endSheaf]
  repeat' (first | with_reducible assumption | with_reducible refine canonical_ite (fun _ => ?_) (fun _ => ?_) | (with_reducible apply canonical_unmask; simp (disch := decide) only [State.setSheaf_mask]; with_reducible apply canonical_mask) | with_reducible apply State.finishIdle_wf | with_reducible apply State.killWhere_wf | (simp only [canonical_mk]; with_reducible refine canonical_upd ?_) | split)

theorem State.cancelWhere_wf (s : State) (sel : Nat → Sheaf → Bool) (hw : Canonical s) : Canonical (State.cancelWhere s sel) := by
  simp only [State.cancelWhere]
  repeat' (first | with_reducible assumption | with_reducible refine canonical_ite (fun _ => ?_) (fun _ => ?_) | with_reducible refine canonical_foldl _ (fun t e ht => ?_) _ _ ?_ | with_reducible apply State.endSheaf_wf | (simp only [canonical_mk]; with_reducible refine canonical_upd ?_) | split)

theorem State.clearCore_wf (s : State) (d c : Nat) (b : List Byte) (hw : Canonical s) : Canonical (State.clearCore s d c b) := by
  simp only [State.clearCore]
  repeat' (first | with_reducible assumption | with_reducible refine canonical_foldl _ (fun t e ht => ?_) _ _ ?_ | with_reducible apply State.kill_wf | (simp only [canonical_mk]; with_reducible refine canonical_upd ?_) | split)

theorem State.preempt_wf {s u : State} {d m : Nat} {h : Sheaf} {b : List Byte} {free : List Nat} {x : Option Nat}
    (hq : s.preempt d h b free = some (u, m, x)) (hw : Canonical s) : Canonical u := by
  simp only [State.preempt] at hq
  repeat' split at hq
  all_goals simp only [Option.map_eq_some_iff, Prod.mk.injEq, reduceCtorEq] at hq
  all_goals obtain ⟨c, -, rfl, -, -⟩ := hq
  all_goals first
    | exact State.clearCore_wf _ _ _ _ hw
    | exact State.clearCore_wf _ _ _ _ (State.clearCore_wf _ _ _ _ hw)

theorem State.notePlaced_wf (s : State) (d : Nat) (c : Cand) (hw : Canonical s) : Canonical (State.notePlaced s d c) := by
  simp only [State.notePlaced]
  repeat' (first | with_reducible assumption | with_reducible refine canonical_ite (fun _ => ?_) (fun _ => ?_) | (with_reducible apply canonical_unmask; simp (disch := decide) only [State.setSheaf_mask]; with_reducible apply canonical_mask) | with_reducible apply State.guaranteeBroken_wf | (simp only [canonical_mk]; with_reducible refine canonical_upd ?_) | split)

theorem State.placeOn_wf (s : State) (d : Nat) (c : Cand) (b : List Byte) (core : Nat) (chk : Option Nat) (hw : Canonical s) : Canonical (State.placeOn s d c b core chk) := by
  simp only [State.placeOn]
  repeat' (first | with_reducible assumption | (with_reducible apply canonical_unmask; simp (disch := decide) only [State.putIn_mask]; with_reducible apply canonical_mask) | with_reducible apply State.notePlaced_wf | (simp only [canonical_mk]; with_reducible refine canonical_upd ?_) | split)

theorem State.tryRaster_wf (s : State) (d : Nat) (c : Cand) (b : List Byte) (hw : Canonical s) : Canonical (State.tryRaster s d c b).1 := by
  simp only [State.tryRaster]
  repeat' (first | with_reducible assumption | with_reducible refine canonical_ite (fun _ => ?_) (fun _ => ?_) | (with_reducible apply canonical_unmask; simp (disch := decide) only [State.putIn_mask]; with_reducible apply canonical_mask) | with_reducible apply State.killWhere_wf | with_reducible apply State.notePlaced_wf | (simp only [canonical_mk]; with_reducible refine canonical_upd ?_) | split)

theorem State.tryPlace_wf (s : State) (d : Nat) (c : Cand) (hw : Canonical s) : Canonical (s.tryPlace d c).1 := by
  simp only [State.tryPlace]
  repeat' (first | (rename_i hq; exact State.placeOn_wf _ _ _ _ _ _ (State.preempt_wf hq hw)) | with_reducible assumption | with_reducible refine canonical_ite (fun _ => ?_) (fun _ => ?_) | (with_reducible apply canonical_unmask; simp (disch := decide) only [State.killTest_mask, State.setSheaf_mask]; with_reducible apply canonical_mask) | with_reducible apply State.endSheaf_wf | with_reducible apply State.placeOn_wf | with_reducible apply State.tryRaster_wf | (simp only [canonical_mk]; with_reducible refine canonical_upd ?_) | dsimp only | split)

theorem State.tryAll_wf (s : State) (d : Nat) (l : List Cand) (hw : Canonical s) : Canonical (s.tryAll d l).1 := by
  induction l generalizing s with
  | nil => exact hw
  | cons c l ih =>
    simp only [State.tryAll]
    split
    · exact State.tryPlace_wf _ _ _ hw
    · exact ih _ (State.tryPlace_wf _ _ _ hw)

theorem State.placePass_wf (d n : Nat) (s : State) (hw : Canonical s) : Canonical (State.placePass d n s) := by
  induction n generalizing s with
  | zero => exact hw
  | succ n ih =>
    simp only [State.placePass]
    split
    · exact ih _ (State.tryAll_wf _ _ _ hw)
    · exact State.tryAll_wf _ _ _ hw

theorem execCommandPlace_wf (d : Nat) (s : State) (hw : Canonical s) : CanonicalOut (execCommandPlace d s) := by
  simp only [execCommandPlace]
  repeat' (first | with_reducible assumption | with_reducible refine canonicalOut_next ?_ | with_reducible refine canonicalOut_ifUnit ?_ ?_ | with_reducible refine canonical_ite (fun _ => ?_) (fun _ => ?_) | (with_reducible apply canonical_unmask; simp (disch := decide) only [State.noteWork_mask]; with_reducible apply canonical_mask) | with_reducible apply State.placePass_wf | (simp only [canonical_mk]; with_reducible refine canonical_upd ?_) | split)

theorem State.kvCommit_wf (s : State) (d : Nat) (r : KvView × Bool) (hw : Canonical s) : Canonical (State.kvCommit s d r) := by
  simp only [State.kvCommit]
  repeat' (first | with_reducible assumption | with_reducible refine canonical_ite (fun _ => ?_) (fun _ => ?_) | with_reducible refine canonical_foldl _ (fun t e ht => ?_) _ _ ?_ | (with_reducible apply canonical_unmask; simp (disch := decide) only [State.flag_mask]; with_reducible apply canonical_mask) | with_reducible apply State.write_wf | (simp only [canonical_mk]; with_reducible refine canonical_upd ?_) | split)

theorem State.reserveEnd_wf (x0 : Nat) (s : State) (dk : Nat × Nat) (hw : Canonical s) : Canonical (State.reserveEnd x0 s dk) := by
  simp only [State.reserveEnd]
  repeat' (first | with_reducible assumption | with_reducible refine canonical_ite (fun _ => ?_) (fun _ => ?_) | (with_reducible apply canonical_unmask; simp (disch := decide) only [State.setFld_mask, State.setSilo_mask]; with_reducible apply canonical_mask) | with_reducible apply State.guaranteeBroken_wf | (simp only [canonical_mk]; with_reducible refine canonical_upd ?_) | split)

theorem execVerticalBlank_wf (x0 : Nat) (s : State) (hw : Canonical s) : CanonicalOut (execVerticalBlank x0 s) := by
  simp only [execVerticalBlank]
  repeat' (first | with_reducible assumption | with_reducible refine canonicalOut_next ?_ | with_reducible refine canonicalOut_ifUnit ?_ ?_ | with_reducible refine canonical_ite (fun _ => ?_) (fun _ => ?_) | with_reducible refine canonical_foldl _ (fun t e ht => ?_) _ _ ?_ | (with_reducible apply canonical_unmask; simp (disch := decide) only [State.addSat_mask, State.dispEvent_mask, State.setFld_mask, State.setHead_mask]; with_reducible apply canonical_mask) | with_reducible apply State.reserveEnd_wf | (simp only [canonical_mk]; with_reducible refine canonical_upd ?_) | split)

theorem State.headWrite_wf (s : State) (m : Master) (x2 : Nat) (eff : State → State) (he : ∀ t, Canonical t → Canonical ((eff t))) (hw : Canonical s) : Canonical (State.headWrite s m x2 eff) := by
  simp only [State.headWrite]
  repeat' (first | with_reducible assumption | with_reducible refine he _ ?_ | with_reducible refine canonical_ite (fun _ => ?_) (fun _ => ?_) | (with_reducible apply canonical_unmask; simp (disch := decide) only [State.flag_mask]; with_reducible apply canonical_mask) | (simp only [canonical_mk]; with_reducible refine canonical_upd ?_) | split)

theorem execDisplayReserveStart_wf (d k : Nat) (s : State) (hw : Canonical s) : CanonicalOut (execDisplayReserveStart d k s) := by
  simp only [execDisplayReserveStart]
  repeat' (first | with_reducible assumption | with_reducible refine canonicalOut_next ?_ | with_reducible refine canonicalOut_ifUnit ?_ ?_ | with_reducible refine canonical_ite (fun _ => ?_) (fun _ => ?_) | (with_reducible apply canonical_unmask; simp (disch := decide) only [State.setFld_mask, State.setSilo_mask]; with_reducible apply canonical_mask) | with_reducible apply State.killWhere_wf | (simp only [canonical_mk]; with_reducible refine canonical_upd ?_) | split)

theorem State.removeCore_wf (s : State) (d c : Nat) (hw : Canonical s) : Canonical (State.removeCore s d c) := by
  simp only [State.removeCore]
  repeat' (first | with_reducible assumption | (with_reducible apply canonical_unmask; simp (disch := decide) only [State.flag_mask, State.setFld_mask]; with_reducible apply canonical_mask) | with_reducible apply State.killWhere_wf | (simp only [canonical_mk]; with_reducible refine canonical_upd ?_) | split)

theorem State.outputsInvalid_wf (s : State) (m : Mismatch) (p : Placed) (outcome : Nat) (hw : Canonical s) : Canonical (State.outputsInvalid s m p outcome) := by
  simp only [State.outputsInvalid]
  repeat' (first | with_reducible assumption | (with_reducible apply canonical_unmask; simp (disch := decide) only [State.countPersistent_mask, State.endSequence_mask, State.flag_mask, State.freezeCheck_mask, State.leaveBoth_mask]; with_reducible apply canonical_mask) | with_reducible apply State.endSheaf_wf | with_reducible apply State.removeCore_wf | (simp only [canonical_mk]; with_reducible refine canonical_upd ?_) | split)

theorem execCommitCompare_wf (d : Nat) (r : SlotRef) (difference : BitVec 128) (cycles : Nat) (s : State) (hw : Canonical s) : CanonicalOut (execCommitCompare d r difference cycles s) := by
  simp only [execCommitCompare]
  repeat' (first | with_reducible assumption | with_reducible refine canonicalOut_next ?_ | with_reducible refine canonicalOut_ifUnit ?_ ?_ | with_reducible refine canonical_ite (fun _ => ?_) (fun _ => ?_) | (with_reducible apply canonical_unmask; simp (disch := decide) only [State.addSat_mask, State.countTransient_mask, State.endSequence_mask, State.flag_mask, State.publish_mask]; with_reducible apply canonical_mask) | with_reducible apply State.outputsInvalid_wf | with_reducible apply State.runOut_wf | (simp only [canonical_mk]; with_reducible refine canonical_upd ?_) | split)

theorem execMismatchSelftestEnd_wf (d : Nat) (r : SlotRef) (mainPass checkerPass : Bool) (s : State) (hw : Canonical s) : CanonicalOut (execMismatchSelftestEnd d r mainPass checkerPass s) := by
  simp only [execMismatchSelftestEnd]
  repeat' (first | with_reducible assumption | with_reducible refine canonicalOut_next ?_ | with_reducible refine canonicalOut_ifUnit ?_ ?_ | with_reducible refine canonical_ite (fun _ => ?_) (fun _ => ?_) | (with_reducible apply canonical_unmask; simp (disch := decide) only [State.countPersistent_mask, State.endSequence_mask, State.publish_mask, State.setPlaced_mask]; with_reducible apply canonical_mask) | with_reducible apply State.outputsInvalid_wf | with_reducible apply State.removeCore_wf | (simp only [canonical_mk]; with_reducible refine canonical_upd ?_) | split)

theorem execShadowToOutputCopyEnd_wf (d : Nat) (r : SlotRef) (s : State) (hw : Canonical s) : CanonicalOut (execShadowToOutputCopyEnd d r s) := by
  simp only [execShadowToOutputCopyEnd]
  repeat' (first | with_reducible assumption | with_reducible refine canonicalOut_next ?_ | with_reducible refine canonicalOut_ifUnit ?_ ?_ | with_reducible refine canonical_ite (fun _ => ?_) (fun _ => ?_) | (with_reducible apply canonical_unmask; simp (disch := decide) only [State.countPersistent_mask, State.endSequence_mask, State.publish_mask]; with_reducible apply canonical_mask) | with_reducible apply State.outputsInvalid_wf | with_reducible apply State.removeCore_wf | with_reducible apply State.stores_wf | (simp only [canonical_mk]; with_reducible refine canonical_upd ?_) | split)

theorem State.applyTable_wf (s : State) (d : Nat) (p : Placed) (hw : Canonical s) : Canonical (State.applyTable s d p) := by
  simp only [State.applyTable]
  repeat' (first | with_reducible assumption | with_reducible refine canonical_ite (fun _ => ?_) (fun _ => ?_) | (with_reducible apply canonical_unmask; simp (disch := decide) only [State.addSat_mask, State.flag_mask]; with_reducible apply canonical_mask) | with_reducible apply State.kvCommit_wf | (simp only [canonical_mk]; with_reducible refine canonical_upd ?_) | split)

theorem State.finalCommit_wf (s : State) (id : Nat) (x2 : Sheaf) (hw : Canonical s) : Canonical (State.finalCommit s id x2) := by
  simp only [State.finalCommit]
  repeat' (first | with_reducible assumption | with_reducible refine canonical_ite (fun _ => ?_) (fun _ => ?_) | (with_reducible apply canonical_unmask; simp (disch := decide) only [State.flag_mask, State.goldenCheck_mask, State.raise_mask]; with_reducible apply canonical_mask) | with_reducible apply State.finish_wf | (simp only [canonical_mk]; with_reducible refine canonical_upd ?_) | split)

theorem State.commitBooks_wf (s : State) (p : Placed) (signature : BitVec 128) (hw : Canonical s) : Canonical (State.commitBooks s p signature) := by
  simp only [State.commitBooks]
  repeat' (first | with_reducible assumption | with_reducible refine canonical_ite (fun _ => ?_) (fun _ => ?_) | (with_reducible apply canonical_unmask; simp (disch := decide) only [State.lateRecord_mask, State.setSheaf_mask]; with_reducible apply canonical_mask) | with_reducible apply State.finalCommit_wf | with_reducible apply State.finishIdle_wf | (simp only [canonical_mk]; with_reducible refine canonical_upd ?_) | split)

theorem execCommandCommit_wf (d : Nat) (r : SlotRef) (s : State) (hw : Canonical s) : CanonicalOut (execCommandCommit d r s) := by
  simp only [execCommandCommit]
  repeat' (first | with_reducible assumption | with_reducible refine canonicalOut_next ?_ | with_reducible refine canonicalOut_ifUnit ?_ ?_ | with_reducible refine canonical_ite (fun _ => ?_) (fun _ => ?_) | (with_reducible apply canonical_unmask; simp (disch := decide) only [State.freezeCheck_mask, State.lateRecord_mask, State.leaveBoth_mask, State.mirrorChange_mask, State.overrun_mask, State.present_mask, State.showStatus_mask]; with_reducible apply canonical_mask) | with_reducible apply State.applyTable_wf | with_reducible apply State.commitBooks_wf | with_reducible apply State.endSheaf_wf | with_reducible apply State.runOut_wf | with_reducible apply State.stores_wf | (simp only [canonical_mk]; with_reducible refine canonical_upd ?_) | split)

theorem State.clientWrites_wf (s : State) (m : Master) (ws : List (Nat × Byte)) (hw : Canonical s) : Canonical (State.clientWrites s m ws) := by
  simp only [State.clientWrites]
  repeat' (first | with_reducible assumption | with_reducible apply State.stores_wf | (simp only [canonical_mk]; with_reducible refine canonical_upd ?_) | split)

theorem State.flushRecords_wf (id n : Nat) (s : State) (hw : Canonical s) : Canonical (State.flushRecords id n s) := by
  induction n generalizing s with
  | zero => exact hw
  | succ n ih =>
    simp only [State.flushRecords]
    repeat' split
    all_goals first | exact hw | exact ih _ (State.putRecord_wf _ _ _ _ hw)

theorem wrCqHead_wf (id x1 : Nat) (s : State) (hw : Canonical s) : Canonical (wrCqHead id x1 s) := by
  simp only [wrCqHead]
  repeat' (first | with_reducible assumption | with_reducible refine canonical_ite (fun _ => ?_) (fun _ => ?_) | with_reducible refine canonical_st_ite (fun _ => ?_) (fun _ => ?_) | simp only [reply_st, later_st] | (with_reducible apply canonical_unmask; simp (disch := decide) only [State.setQueue_mask]; with_reducible apply canonical_mask) | with_reducible apply State.flushRecords_wf | (simp only [canonical_mk]; with_reducible refine canonical_upd ?_) | split)

theorem execQdbSqTailWrite_wf (m : Master) (id : Nat) (data : Word) (written : List (Nat × Byte)) (s : State) (hw : Canonical s) : CanonicalOut (execQdbSqTailWrite m id data written s) := by
  simp only [execQdbSqTailWrite]
  repeat' (first | with_reducible assumption | with_reducible refine canonicalOut_next ?_ | with_reducible refine canonicalOut_ifUnit ?_ ?_ | (with_reducible apply canonical_unmask; simp (disch := decide) only [wrSqTail_mask]; with_reducible apply canonical_mask) | with_reducible apply State.clientWrites_wf | with_reducible refine State.regWrite_wf _ _ _ _ _ _ _ (fun t ht => ?_) ?_ | (simp only [canonical_mk]; with_reducible refine canonical_upd ?_) | split)

theorem execQdbCqHeadWrite_wf (m : Master) (id : Nat) (data : Word) (s : State) (hw : Canonical s) : CanonicalOut (execQdbCqHeadWrite m id data s) := by
  simp only [execQdbCqHeadWrite]
  repeat' (first | with_reducible assumption | with_reducible refine canonicalOut_next ?_ | with_reducible refine canonicalOut_ifUnit ?_ ?_ | with_reducible refine State.regWrite_wf _ _ _ _ _ _ _ (fun t ht => ?_) ?_ | with_reducible apply wrCqHead_wf | (simp only [canonical_mk]; with_reducible refine canonical_upd ?_) | split)

theorem State.fetchError_wf (s : State) (id : Nat) (q : Queue) (x3 : Sheaf) (status eng failed : Nat) (hw : Canonical s) : Canonical (State.fetchError s id q x3 status eng failed) := by
  simp only [State.fetchError]
  repeat' (first | with_reducible assumption | (with_reducible apply canonical_unmask; simp (disch := decide) only [State.setQueue_mask]; with_reducible apply canonical_mask) | with_reducible apply State.account_wf | with_reducible apply State.giveRecord_wf | (simp only [canonical_mk]; with_reducible refine canonical_upd ?_) | split)

theorem execSheafFetch_wf (id : Nat) (s : State) (hw : Canonical s) : CanonicalOut (execSheafFetch id s) := by
  simp only [execSheafFetch]
  repeat' (first | with_reducible assumption | with_reducible refine canonicalOut_next ?_ | with_reducible refine canonicalOut_ifUnit ?_ ?_ | with_reducible refine canonical_ite (fun _ => ?_) (fun _ => ?_) | with_reducible refine canonical_st_ite (fun _ => ?_) (fun _ => ?_) | simp only [reply_st, later_st] | (with_reducible apply canonical_unmask; simp (disch := decide) only [State.markReady_mask, State.setQueue_mask]; with_reducible apply canonical_mask) | with_reducible apply State.fetchError_wf | with_reducible apply State.finish_wf | (simp only [canonical_mk]; with_reducible refine canonical_upd ?_) | split)

theorem execQCreate_wf (r : Req) (c : QueueCfg) (s : State) (hw : Canonical s) : CanonicalOut (execQCreate r c s) := by
  simp only [execQCreate]
  repeat' (first | with_reducible assumption | with_reducible refine canonicalOut_next ?_ | with_reducible refine canonicalOut_ifUnit ?_ ?_ | with_reducible refine canonical_ite (fun _ => ?_) (fun _ => ?_) | with_reducible refine canonical_st_ite (fun _ => ?_) (fun _ => ?_) | simp only [reply_st, later_st] | (with_reducible apply canonical_unmask; simp (disch := decide) only [State.setQueue_mask]; with_reducible apply canonical_mask) | with_reducible refine State.serve_wf _ _ _ _ _ (fun t ht => ?_) ?_ | with_reducible apply State.write_wf | (simp only [canonical_mk]; with_reducible refine canonical_upd ?_) | split)

theorem State.queueMsg_wf (s : State) (r : Req) (id : Nat) (changes : Bool) (eff : Queue → State → Reply) (he : ∀ y0 t, Canonical t → Canonical ((eff y0 t)).st) (hw : Canonical s) : Canonical (State.queueMsg s r id changes eff).st := by
  simp only [State.queueMsg]
  repeat' (first | with_reducible assumption | with_reducible refine he _ _ ?_ | with_reducible refine canonical_ite (fun _ => ?_) (fun _ => ?_) | with_reducible refine canonical_st_ite (fun _ => ?_) (fun _ => ?_) | simp only [reply_st, later_st] | (simp only [canonical_mk]; with_reducible refine canonical_upd ?_) | split)

theorem State.queueDisable_wf (s : State) (id : Nat) (cancel : Bool) (hw : Canonical s) : Canonical (State.queueDisable s id cancel) := by
  simp only [State.queueDisable]
  repeat' (first | with_reducible assumption | with_reducible refine canonical_ite (fun _ => ?_) (fun _ => ?_) | (with_reducible apply canonical_unmask; simp (disch := decide) only [State.drainCheck_mask, State.setQueue_mask]; with_reducible apply canonical_mask) | with_reducible apply State.cancelWhere_wf | (simp only [canonical_mk]; with_reducible refine canonical_upd ?_) | split)

theorem execQDisable_wf (r : Req) (queue : Word) (s : State) (hw : Canonical s) : CanonicalOut (execQDisable r queue s) := by
  simp only [execQDisable]
  repeat' (first | with_reducible assumption | with_reducible refine canonicalOut_next ?_ | with_reducible refine canonicalOut_ifUnit ?_ ?_ | with_reducible refine canonical_ite (fun _ => ?_) (fun _ => ?_) | with_reducible refine canonical_st_ite (fun _ => ?_) (fun _ => ?_) | simp only [reply_st, later_st] | (with_reducible apply canonical_unmask; simp (disch := decide) only [State.setQueue_mask]; with_reducible apply canonical_mask) | with_reducible apply State.queueDisable_wf | with_reducible refine State.queueMsg_wf _ _ _ _ _ (fun y0 t ht => ?_) ?_ | with_reducible refine State.serve_wf _ _ _ _ _ (fun t ht => ?_) ?_ | (simp only [canonical_mk]; with_reducible refine canonical_upd ?_) | split)

theorem execQAcct_wf (r : Req) (queue : Word) (reset : Bool) (s : State) (hw : Canonical s) : CanonicalOut (execQAcct r queue reset s) := by
  simp only [execQAcct]
  repeat' (first | with_reducible assumption | with_reducible refine canonicalOut_next ?_ | with_reducible refine canonicalOut_ifUnit ?_ ?_ | with_reducible refine canonical_ite (fun _ => ?_) (fun _ => ?_) | with_reducible refine canonical_st_ite (fun _ => ?_) (fun _ => ?_) | simp only [reply_st, later_st] | with_reducible refine State.queueMsg_wf _ _ _ _ _ (fun y0 t ht => ?_) ?_ | with_reducible refine State.serve_wf _ _ _ _ _ (fun t ht => ?_) ?_ | with_reducible apply State.write_wf | (simp only [canonical_mk]; with_reducible refine canonical_upd ?_) | split)

theorem wrQctl_wf (d data : Nat) (s : State) (hw : Canonical s) : Canonical (wrQctl d data s) := by
  simp only [wrQctl]
  repeat' (first | with_reducible assumption | with_reducible refine canonical_ite (fun _ => ?_) (fun _ => ?_) | (with_reducible apply canonical_unmask; simp (disch := decide) only [State.flag_mask, State.queueEnable_mask, State.setQueue_mask]; with_reducible apply canonical_mask) | with_reducible apply State.queueDisable_wf | (simp only [canonical_mk]; with_reducible refine canonical_upd ?_) | split)

theorem State.qctl_wf (s : State) (m : Master) (d op queue : Nat) (hw : Canonical s) : Canonical (State.qctl s m d op queue) := by
  simp only [State.qctl]
  repeat' (first | with_reducible assumption | with_reducible refine State.guarded_wf _ _ _ _ _ _ (fun t ht => ?_) ?_ | with_reducible refine State.regWrite_wf _ _ _ _ _ _ _ (fun t ht => ?_) ?_ | with_reducible apply wrQctl_wf | (simp only [canonical_mk]; with_reducible refine canonical_upd ?_) | split)

theorem execSchQctlEnable_wf (m : Master) (d queue : Nat) (s : State) (hw : Canonical s) : CanonicalOut (execSchQctlEnable m d queue s) := by
  simp only [execSchQctlEnable]
  repeat' (first | with_reducible assumption | with_reducible refine canonicalOut_next ?_ | with_reducible refine canonicalOut_ifUnit ?_ ?_ | with_reducible apply State.qctl_wf | (simp only [canonical_mk]; with_reducible refine canonical_upd ?_) | split)

theorem execSchQctlDisable_wf (m : Master) (d queue : Nat) (s : State) (hw : Canonical s) : CanonicalOut (execSchQctlDisable m d queue s) := by
  simp only [execSchQctlDisable]
  repeat' (first | with_reducible assumption | with_reducible refine canonicalOut_next ?_ | with_reducible refine canonicalOut_ifUnit ?_ ?_ | with_reducible apply State.qctl_wf | (simp only [canonical_mk]; with_reducible refine canonical_upd ?_) | split)

theorem execSchQctlDrain_wf (m : Master) (d queue : Nat) (s : State) (hw : Canonical s) : CanonicalOut (execSchQctlDrain m d queue s) := by
  simp only [execSchQctlDrain]
  repeat' (first | with_reducible assumption | with_reducible refine canonicalOut_next ?_ | with_reducible refine canonicalOut_ifUnit ?_ ?_ | with_reducible apply State.qctl_wf | (simp only [canonical_mk]; with_reducible refine canonical_upd ?_) | split)

theorem State.applyCfg_wf (s : State) (d k : Nat) (c : SiloCfg) (hw : Canonical s) : Canonical (State.applyCfg s d k c) := by
  simp only [State.applyCfg]
  repeat' (first | with_reducible assumption | with_reducible refine canonical_ite (fun _ => ?_) (fun _ => ?_) | (with_reducible apply canonical_unmask; simp (disch := decide) only [State.allocRing_mask, State.mirrorChange_mask, State.setFlds_nil_mask, State.setFlds_cons_mask, State.setFld_mask, State.setSilo_mask]; with_reducible apply canonical_mask) | with_reducible apply State.cancelWhere_wf | with_reducible apply State.killWhere_wf | (simp only [canonical_mk]; with_reducible refine canonical_upd ?_) | split)

theorem State.takeConfig_wf (s : State) (d k : Nat) (hw : Canonical s) : Canonical (State.takeConfig s d k) := by
  simp only [State.takeConfig]
  repeat' (first | with_reducible assumption | with_reducible refine canonical_ite (fun _ => ?_) (fun _ => ?_) | (with_reducible apply canonical_unmask; simp (disch := decide) only [State.answer_mask, State.setSilo_mask]; with_reducible apply canonical_mask) | with_reducible apply State.applyCfg_wf | (simp only [canonical_mk]; with_reducible refine canonical_upd ?_) | split)

theorem execQuantumBoundary_wf (d k : Nat) (s : State) (hw : Canonical s) : CanonicalOut (execQuantumBoundary d k s) := by
  simp only [execQuantumBoundary]
  repeat' (first | with_reducible assumption | with_reducible refine canonicalOut_next ?_ | with_reducible refine canonicalOut_ifUnit ?_ ?_ | with_reducible refine canonical_ite (fun _ => ?_) (fun _ => ?_) | (with_reducible apply canonical_unmask; simp (disch := decide) only [State.setSilo_mask, State.takeSpan_mask]; with_reducible apply canonical_mask) | with_reducible apply State.guaranteeBroken_wf | with_reducible apply State.takeConfig_wf | (simp only [canonical_mk]; with_reducible refine canonical_upd ?_) | split)

theorem execCoresGuaranteeCheck_wf (d k : Nat) (s : State) (hw : Canonical s) : CanonicalOut (execCoresGuaranteeCheck d k s) := by
  simp only [execCoresGuaranteeCheck]
  repeat' (first | with_reducible assumption | with_reducible refine canonicalOut_next ?_ | with_reducible refine canonicalOut_ifUnit ?_ ?_ | with_reducible refine canonical_ite (fun _ => ?_) (fun _ => ?_) | with_reducible apply State.guaranteeBroken_wf | (simp only [canonical_mk]; with_reducible refine canonical_upd ?_) | split)

theorem State.ranTo_wf (s : State) (d core : Nat) (slot : SlotKind) (p : Placed) (j0 : Job) (hw : Canonical s) : Canonical (State.ranTo s d core slot p j0) := by
  simp only [State.ranTo]
  repeat' (first | with_reducible assumption | with_reducible refine canonical_foldl _ (fun t e ht => ?_) _ _ ?_ | (with_reducible apply canonical_unmask; simp (disch := decide) only [State.busyOf_mask, State.fabLog_mask, State.fresh_mask, State.readUe_mask, State.setPlaced_mask, State.showPlan_mask, State.wake_mask]; with_reducible apply canonical_mask) | with_reducible apply State.runPart_wf | with_reducible apply State.stores_wf | (simp only [canonical_mk]; with_reducible refine canonical_upd ?_) | split)

theorem State.runRow_wf (s : State) (d core : Nat) (slot : SlotKind) (engine : Nat) (mine known : Nat → Bool) (go : Placed → Job) (hw : Canonical s) : CanonicalOut (State.runRow s d core slot engine mine known go) := by
  simp only [State.runRow]
  repeat' (first | with_reducible assumption | with_reducible refine canonicalOut_next ?_ | with_reducible refine canonicalOut_ifUnit ?_ ?_ | with_reducible refine canonical_ite (fun _ => ?_) (fun _ => ?_) | with_reducible apply State.ranTo_wf | (simp only [canonical_mk]; with_reducible refine canonical_upd ?_) | split)

theorem execMatmul_wf (d core : Nat) (s : State) (hw : Canonical s) : CanonicalOut (execMatmul d core s) := by
  simp only [execMatmul]
  repeat' (first | with_reducible assumption | with_reducible refine canonicalOut_next ?_ | with_reducible refine canonicalOut_ifUnit ?_ ?_ | with_reducible apply State.runRow_wf | (simp only [canonical_mk]; with_reducible refine canonical_upd ?_) | split)

theorem execConv_wf (d core : Nat) (s : State) (hw : Canonical s) : CanonicalOut (execConv d core s) := by
  simp only [execConv]
  repeat' (first | with_reducible assumption | with_reducible refine canonicalOut_next ?_ | with_reducible refine canonicalOut_ifUnit ?_ ?_ | with_reducible apply State.runRow_wf | (simp only [canonical_mk]; with_reducible refine canonical_upd ?_) | split)

theorem execUnary_wf (d core : Nat) (s : State) (hw : Canonical s) : CanonicalOut (execUnary d core s) := by
  simp only [execUnary]
  repeat' (first | with_reducible assumption | with_reducible refine canonicalOut_next ?_ | with_reducible refine canonicalOut_ifUnit ?_ ?_ | with_reducible apply State.runRow_wf | (simp only [canonical_mk]; with_reducible refine canonical_upd ?_) | split)

theorem execBinary_wf (d core : Nat) (s : State) (hw : Canonical s) : CanonicalOut (execBinary d core s) := by
  simp only [execBinary]
  repeat' (first | with_reducible assumption | with_reducible refine canonicalOut_next ?_ | with_reducible refine canonicalOut_ifUnit ?_ ?_ | with_reducible apply State.runRow_wf | (simp only [canonical_mk]; with_reducible refine canonical_upd ?_) | split)

theorem execReduce_wf (d core : Nat) (s : State) (hw : Canonical s) : CanonicalOut (execReduce d core s) := by
  simp only [execReduce]
  repeat' (first | with_reducible assumption | with_reducible refine canonicalOut_next ?_ | with_reducible refine canonicalOut_ifUnit ?_ ?_ | with_reducible apply State.runRow_wf | (simp only [canonical_mk]; with_reducible refine canonical_upd ?_) | split)

theorem execSoftmax_wf (d core : Nat) (s : State) (hw : Canonical s) : CanonicalOut (execSoftmax d core s) := by
  simp only [execSoftmax]
  repeat' (first | with_reducible assumption | with_reducible refine canonicalOut_next ?_ | with_reducible refine canonicalOut_ifUnit ?_ ?_ | with_reducible apply State.runRow_wf | (simp only [canonical_mk]; with_reducible refine canonical_upd ?_) | split)

theorem execNorm_wf (d core : Nat) (s : State) (hw : Canonical s) : CanonicalOut (execNorm d core s) := by
  simp only [execNorm]
  repeat' (first | with_reducible assumption | with_reducible refine canonicalOut_next ?_ | with_reducible refine canonicalOut_ifUnit ?_ ?_ | with_reducible apply State.runRow_wf | (simp only [canonical_mk]; with_reducible refine canonical_upd ?_) | split)

theorem execConvert_wf (d core : Nat) (s : State) (hw : Canonical s) : CanonicalOut (execConvert d core s) := by
  simp only [execConvert]
  repeat' (first | with_reducible assumption | with_reducible refine canonicalOut_next ?_ | with_reducible refine canonicalOut_ifUnit ?_ ?_ | with_reducible apply State.runRow_wf | (simp only [canonical_mk]; with_reducible refine canonical_upd ?_) | split)

theorem execDwconv_wf (d core : Nat) (s : State) (hw : Canonical s) : CanonicalOut (execDwconv d core s) := by
  simp only [execDwconv]
  repeat' (first | with_reducible assumption | with_reducible refine canonicalOut_next ?_ | with_reducible refine canonicalOut_ifUnit ?_ ?_ | with_reducible apply State.runRow_wf | (simp only [canonical_mk]; with_reducible refine canonical_upd ?_) | split)

theorem execPool_wf (d core : Nat) (s : State) (hw : Canonical s) : CanonicalOut (execPool d core s) := by
  simp only [execPool]
  repeat' (first | with_reducible assumption | with_reducible refine canonicalOut_next ?_ | with_reducible refine canonicalOut_ifUnit ?_ ?_ | with_reducible apply State.runRow_wf | (simp only [canonical_mk]; with_reducible refine canonical_upd ?_) | split)

theorem execResample_wf (d core : Nat) (s : State) (hw : Canonical s) : CanonicalOut (execResample d core s) := by
  simp only [execResample]
  repeat' (first | with_reducible assumption | with_reducible refine canonicalOut_next ?_ | with_reducible refine canonicalOut_ifUnit ?_ ?_ | with_reducible apply State.runRow_wf | (simp only [canonical_mk]; with_reducible refine canonical_upd ?_) | split)

theorem execGather_wf (d core : Nat) (s : State) (hw : Canonical s) : CanonicalOut (execGather d core s) := by
  simp only [execGather]
  repeat' (first | with_reducible assumption | with_reducible refine canonicalOut_next ?_ | with_reducible refine canonicalOut_ifUnit ?_ ?_ | with_reducible apply State.runRow_wf | (simp only [canonical_mk]; with_reducible refine canonical_upd ?_) | split)

theorem execNeighbours_wf (d core : Nat) (s : State) (hw : Canonical s) : CanonicalOut (execNeighbours d core s) := by
  simp only [execNeighbours]
  repeat' (first | with_reducible assumption | with_reducible refine canonicalOut_next ?_ | with_reducible refine canonicalOut_ifUnit ?_ ?_ | with_reducible apply State.runRow_wf | (simp only [canonical_mk]; with_reducible refine canonical_upd ?_) | split)

theorem execSetOp_wf (d core : Nat) (s : State) (hw : Canonical s) : CanonicalOut (execSetOp d core s) := by
  simp only [execSetOp]
  repeat' (first | with_reducible assumption | with_reducible refine canonicalOut_next ?_ | with_reducible refine canonicalOut_ifUnit ?_ ?_ | with_reducible apply State.runRow_wf | (simp only [canonical_mk]; with_reducible refine canonical_upd ?_) | split)

theorem execHashBuild_wf (d core : Nat) (s : State) (hw : Canonical s) : CanonicalOut (execHashBuild d core s) := by
  simp only [execHashBuild]
  repeat' (first | with_reducible assumption | with_reducible refine canonicalOut_next ?_ | with_reducible refine canonicalOut_ifUnit ?_ ?_ | with_reducible apply State.runRow_wf | (simp only [canonical_mk]; with_reducible refine canonical_upd ?_) | split)

theorem execHashProbe_wf (d core : Nat) (s : State) (hw : Canonical s) : CanonicalOut (execHashProbe d core s) := by
  simp only [execHashProbe]
  repeat' (first | with_reducible assumption | with_reducible refine canonicalOut_next ?_ | with_reducible refine canonicalOut_ifUnit ?_ ?_ | with_reducible apply State.runRow_wf | (simp only [canonical_mk]; with_reducible refine canonical_upd ?_) | split)

theorem execRadixSort_wf (d core : Nat) (s : State) (hw : Canonical s) : CanonicalOut (execRadixSort d core s) := by
  simp only [execRadixSort]
  repeat' (first | with_reducible assumption | with_reducible refine canonicalOut_next ?_ | with_reducible refine canonicalOut_ifUnit ?_ ?_ | with_reducible apply State.runRow_wf | (simp only [canonical_mk]; with_reducible refine canonical_upd ?_) | split)

theorem execSegReduce_wf (d core : Nat) (s : State) (hw : Canonical s) : CanonicalOut (execSegReduce d core s) := by
  simp only [execSegReduce]
  repeat' (first | with_reducible assumption | with_reducible refine canonicalOut_next ?_ | with_reducible refine canonicalOut_ifUnit ?_ ?_ | with_reducible apply State.runRow_wf | (simp only [canonical_mk]; with_reducible refine canonical_upd ?_) | split)

theorem execScatter_wf (d core : Nat) (s : State) (hw : Canonical s) : CanonicalOut (execScatter d core s) := by
  simp only [execScatter]
  repeat' (first | with_reducible assumption | with_reducible refine canonicalOut_next ?_ | with_reducible refine canonicalOut_ifUnit ?_ ?_ | with_reducible apply State.runRow_wf | (simp only [canonical_mk]; with_reducible refine canonical_upd ?_) | split)

theorem execFrontier_wf (d core : Nat) (s : State) (hw : Canonical s) : CanonicalOut (execFrontier d core s) := by
  simp only [execFrontier]
  repeat' (first | with_reducible assumption | with_reducible refine canonicalOut_next ?_ | with_reducible refine canonicalOut_ifUnit ?_ ?_ | with_reducible apply State.runRow_wf | (simp only [canonical_mk]; with_reducible refine canonical_upd ?_) | split)

theorem State.runFused_wf (s : State) (d core op : Nat) (go : Placed → Job) (hw : Canonical s) : CanonicalOut (State.runFused s d core op go) := by
  simp only [State.runFused]
  repeat' (first | with_reducible assumption | with_reducible refine canonicalOut_next ?_ | with_reducible refine canonicalOut_ifUnit ?_ ?_ | with_reducible refine canonical_ite (fun _ => ?_) (fun _ => ?_) | (with_reducible apply canonical_unmask; simp (disch := decide) only [State.flag_mask]; with_reducible apply canonical_mask) | with_reducible apply State.runRow_wf | (simp only [canonical_mk]; with_reducible refine canonical_upd ?_) | split)

theorem execAttend_wf (d core : Nat) (s : State) (hw : Canonical s) : CanonicalOut (execAttend d core s) := by
  simp only [execAttend]
  repeat' (first | with_reducible assumption | with_reducible refine canonicalOut_next ?_ | with_reducible refine canonicalOut_ifUnit ?_ ?_ | with_reducible apply State.runFused_wf | (simp only [canonical_mk]; with_reducible refine canonical_upd ?_) | split)

theorem execKvAppend_wf (d core : Nat) (s : State) (hw : Canonical s) : CanonicalOut (execKvAppend d core s) := by
  simp only [execKvAppend]
  repeat' (first | with_reducible assumption | with_reducible refine canonicalOut_next ?_ | with_reducible refine canonicalOut_ifUnit ?_ ?_ | with_reducible apply State.runFused_wf | (simp only [canonical_mk]; with_reducible refine canonical_upd ?_) | split)

theorem execKvFork_wf (d core : Nat) (s : State) (hw : Canonical s) : CanonicalOut (execKvFork d core s) := by
  simp only [execKvFork]
  repeat' (first | with_reducible assumption | with_reducible refine canonicalOut_next ?_ | with_reducible refine canonicalOut_ifUnit ?_ ?_ | with_reducible apply State.runFused_wf | (simp only [canonical_mk]; with_reducible refine canonical_upd ?_) | split)

theorem execKvRelease_wf (d core : Nat) (s : State) (hw : Canonical s) : CanonicalOut (execKvRelease d core s) := by
  simp only [execKvRelease]
  repeat' (first | with_reducible assumption | with_reducible refine canonicalOut_next ?_ | with_reducible refine canonicalOut_ifUnit ?_ ?_ | with_reducible apply State.runFused_wf | (simp only [canonical_mk]; with_reducible refine canonical_upd ?_) | split)

theorem State.releaseSilo_wf (s : State) (d k : Nat) (hw : Canonical s) : Canonical (State.releaseSilo s d k) := by
  simp only [State.releaseSilo]
  repeat' (first | with_reducible assumption | with_reducible apply State.restore_wf | (with_reducible apply canonical_unmask; simp (disch := decide) only [State.reap_mask, State.setFld_mask, State.siloGone_mask]; with_reducible apply canonical_mask) | with_reducible apply State.cancelWhere_wf | (simp only [canonical_mk]; with_reducible refine canonical_upd ?_) | split)

theorem State.ungrant_wf (s : State) (ty d i : Nat) (hw : Canonical s) : Canonical (State.ungrant s ty d i) := by
  simp only [State.ungrant]
  repeat' (first | with_reducible assumption | with_reducible refine canonical_ite (fun _ => ?_) (fun _ => ?_) | with_reducible refine canonical_foldl _ (fun t e ht => ?_) _ _ ?_ | (with_reducible apply canonical_unmask; simp (disch := decide) only [State.mirrorChange_mask, State.pinDefault_mask]; with_reducible apply canonical_mask) | with_reducible apply State.releaseSilo_wf | (simp only [canonical_mk]; with_reducible refine canonical_upd ?_) | split)

theorem execRelease_wf (r : Req) (g : ResRange) (s : State) (hw : Canonical s) : CanonicalOut (execRelease r g s) := by
  simp only [execRelease]
  repeat' (first | with_reducible assumption | with_reducible refine canonicalOut_next ?_ | with_reducible refine canonicalOut_ifUnit ?_ ?_ | with_reducible refine canonical_ite (fun _ => ?_) (fun _ => ?_) | with_reducible refine canonical_st_ite (fun _ => ?_) (fun _ => ?_) | simp only [reply_st, later_st] | with_reducible refine canonical_foldl _ (fun t e ht => ?_) _ _ ?_ | (with_reducible apply canonical_unmask; simp (disch := decide) only [State.useFree_mask]; with_reducible apply canonical_mask) | with_reducible refine State.serve_wf _ _ _ _ _ (fun t ht => ?_) ?_ | with_reducible apply State.ungrant_wf | (simp only [canonical_mk]; with_reducible refine canonical_upd ?_) | split)

theorem execFwPersistWriteEnd_wf (ok : Bool) (s : State) (hw : Canonical s) : CanonicalOut (execFwPersistWriteEnd ok s) := by
  simp only [execFwPersistWriteEnd]
  repeat' (first | with_reducible assumption | with_reducible refine canonicalOut_next ?_ | with_reducible refine canonicalOut_ifUnit ?_ ?_ | (with_reducible apply canonical_unmask; simp (disch := decide) only [State.fwEnd_mask]; with_reducible apply canonical_mask) | with_reducible apply State.putFlash_wf | (simp only [canonical_mk]; with_reducible refine canonical_upd ?_) | split)

theorem State.fillRing_wf (s : State) (m : Master) (dom : Dom) (units : List Byte) (hw : Canonical s) : Canonical (State.fillRing s m dom units) := by
  simp only [State.fillRing]
  repeat' (first | with_reducible assumption | with_reducible apply State.stores_wf | (simp only [canonical_mk]; with_reducible refine canonical_upd ?_) | split)

theorem State.pageWrite_wf (s : State) (m : Master) (dom : Dom) (off : Nat) (data : Word) (eff : State → State) (he : ∀ t, Canonical t → Canonical ((eff t))) (hw : Canonical s) : Canonical (State.pageWrite s m dom off data eff) := by
  simp only [State.pageWrite]
  repeat' (first | with_reducible assumption | with_reducible refine he _ ?_ | with_reducible refine State.regWrite_wf _ _ _ _ _ _ _ (fun t ht => ?_) ?_ | (simp only [canonical_mk]; with_reducible refine canonical_upd ?_) | split)

theorem execMbReqTailWrite_wf (m : Master) (dom : Dom) (data : Word) (units : List Byte) (s : State) (hw : Canonical s) : CanonicalOut (execMbReqTailWrite m dom data units s) := by
  simp only [execMbReqTailWrite]
  repeat' (first | with_reducible assumption | with_reducible refine canonicalOut_next ?_ | with_reducible refine canonicalOut_ifUnit ?_ ?_ | (with_reducible apply canonical_unmask; simp (disch := decide) only [wrReqTail_mask]; with_reducible apply canonical_mask) | with_reducible apply State.fillRing_wf | with_reducible refine State.pageWrite_wf _ _ _ _ _ _ (fun t ht => ?_) ?_ | (simp only [canonical_mk]; with_reducible refine canonical_upd ?_) | split)

theorem State.dropReruns_wf (s : State) (fn : Dom) (hw : Canonical s) : Canonical (State.dropReruns s fn) := by
  simp only [State.dropReruns]
  repeat' (first | with_reducible assumption | with_reducible refine canonical_ite (fun _ => ?_) (fun _ => ?_) | with_reducible refine canonical_foldl _ (fun t e ht => ?_) _ _ ?_ | (with_reducible apply canonical_unmask; simp (disch := decide) only [State.countPersistent_mask, State.mismatchEvent_mask, State.showSeq_mask]; with_reducible apply canonical_mask) | with_reducible apply State.removeCore_wf | (simp only [canonical_mk]; with_reducible refine canonical_upd ?_) | split)

theorem State.thawFn_wf (s : State) (fn : Dom) (hw : Canonical s) : Canonical (State.thawFn s fn) := by
  simp only [State.thawFn]
  repeat' (first | with_reducible assumption | with_reducible refine canonical_ite (fun _ => ?_) (fun _ => ?_) | with_reducible refine canonical_foldl _ (fun t e ht => ?_) _ _ ?_ | (with_reducible apply canonical_unmask; simp (disch := decide) only [State.setMb_mask]; with_reducible apply canonical_mask) | with_reducible apply State.ungrant_wf | (simp only [canonical_mk]; with_reducible refine canonical_upd ?_) | split)

theorem State.abortHandover_wf (s : State) (hw : Canonical s) : Canonical (State.abortHandover s) := by
  simp only [State.abortHandover]
  repeat' (first | with_reducible assumption | with_reducible refine canonical_foldl _ (fun t e ht => ?_) _ _ ?_ | (with_reducible apply canonical_unmask; simp (disch := decide) only [State.answer_mask, State.setFld_mask]; with_reducible apply canonical_mask) | with_reducible apply State.thawFn_wf | (simp only [canonical_mk]; with_reducible refine canonical_upd ?_) | split)

theorem State.startFnReset_wf (s : State) (fn : Dom) (asked : List (Req × Nat)) (release : Bool) (hw : Canonical s) : Canonical (State.startFnReset s fn asked release) := by
  simp only [State.startFnReset]
  repeat' (first | with_reducible assumption | with_reducible refine canonical_ite (fun _ => ?_) (fun _ => ?_) | with_reducible refine canonical_foldl _ (fun t e ht => ?_) _ _ ?_ | (with_reducible apply canonical_unmask; simp (disch := decide) only [State.endFreeze_mask, State.mbClose_mask, State.nextGen_mask, State.setMb_mask]; with_reducible apply canonical_mask) | with_reducible apply State.abortHandover_wf | with_reducible apply State.dropReruns_wf | with_reducible apply State.killWhere_wf | (simp only [canonical_mk]; with_reducible refine canonical_upd ?_) | split)

theorem State.forceFnReset_wf (s : State) (fn : Dom) (release : Bool) (hw : Canonical s) : Canonical (State.forceFnReset s fn release) := by
  simp only [State.forceFnReset]
  repeat' (first | with_reducible assumption | with_reducible refine canonical_ite (fun _ => ?_) (fun _ => ?_) | (with_reducible apply canonical_unmask; simp (disch := decide) only [State.loseClassS_mask]; with_reducible apply canonical_mask) | with_reducible apply State.startFnReset_wf | (simp only [canonical_mk]; with_reducible refine canonical_upd ?_) | split)

theorem State.clearFn_wf (s : State) (fn : Dom) (hw : Canonical s) : Canonical (State.clearFn s fn) := by
  simp only [State.clearFn]
  repeat' (first | with_reducible assumption | with_reducible refine canonical_foldl _ (fun t e ht => ?_) _ _ ?_ | (with_reducible apply canonical_unmask; simp (disch := decide) only [State.answer_mask]; with_reducible apply canonical_mask) | with_reducible apply State.cancelWhere_wf | with_reducible apply State.ungrant_wf | (simp only [canonical_mk]; with_reducible refine canonical_upd ?_) | split)

theorem execFunctionResetEnd_wf (n : Nat) (s : State) (hw : Canonical s) : CanonicalOut (execFunctionResetEnd n s) := by
  simp only [execFunctionResetEnd]
  repeat' (first | with_reducible assumption | with_reducible refine canonicalOut_next ?_ | with_reducible refine canonicalOut_ifUnit ?_ ?_ | with_reducible refine canonical_ite (fun _ => ?_) (fun _ => ?_) | (with_reducible apply canonical_unmask; simp (disch := decide) only [State.finishFnReset_mask]; with_reducible apply canonical_mask) | with_reducible apply State.clearFn_wf | (simp only [canonical_mk]; with_reducible refine canonical_upd ?_) | split)

theorem State.resetByMessage_wf (s : State) (r : Req) (op n : Nat) (release : Bool) (hw : Canonical s) : Canonical (State.resetByMessage s r op n release).st := by
  simp only [State.resetByMessage]
  repeat' (first | with_reducible assumption | with_reducible refine canonical_ite (fun _ => ?_) (fun _ => ?_) | with_reducible refine canonical_st_ite (fun _ => ?_) (fun _ => ?_) | simp only [reply_st, later_st] | with_reducible apply State.startFnReset_wf | (simp only [canonical_mk]; with_reducible refine canonical_upd ?_) | split)

theorem execFnConfig_wf (r : Req) (n assign quota vectors aper : Nat) (s : State) (hw : Canonical s) : CanonicalOut (execFnConfig r n assign quota vectors aper s) := by
  simp only [execFnConfig]
  repeat' (first | with_reducible assumption | with_reducible refine canonicalOut_next ?_ | with_reducible refine canonicalOut_ifUnit ?_ ?_ | with_reducible refine canonical_ite (fun _ => ?_) (fun _ => ?_) | with_reducible refine canonical_st_ite (fun _ => ?_) (fun _ => ?_) | simp only [reply_st, later_st] | (with_reducible apply canonical_unmask; simp (disch := decide) only [State.functionChange_mask, State.resize_mask, State.setFld_mask]; with_reducible apply canonical_mask) | with_reducible apply State.resetByMessage_wf | with_reducible refine State.serve_wf _ _ _ _ _ (fun t ht => ?_) ?_ | (simp only [canonical_mk]; with_reducible refine canonical_upd ?_) | split)

theorem State.resetMessage_wf (s : State) (r : Req) (op n : Nat) (hw : Canonical s) : Canonical (State.resetMessage s r op n).st := by
  simp only [State.resetMessage]
  repeat' (first | with_reducible assumption | with_reducible refine canonical_ite (fun _ => ?_) (fun _ => ?_) | with_reducible refine canonical_st_ite (fun _ => ?_) (fun _ => ?_) | simp only [reply_st, later_st] | with_reducible apply State.resetByMessage_wf | (simp only [canonical_mk]; with_reducible refine canonical_upd ?_) | split)

theorem execFnReset_wf (r : Req) (n : Nat) (s : State) (hw : Canonical s) : CanonicalOut (execFnReset r n s) := by
  simp only [execFnReset]
  repeat' (first | with_reducible assumption | with_reducible refine canonicalOut_next ?_ | with_reducible refine canonicalOut_ifUnit ?_ ?_ | with_reducible refine canonical_st_ite (fun _ => ?_) (fun _ => ?_) | simp only [reply_st, later_st] | with_reducible apply State.resetMessage_wf | with_reducible refine State.serve_wf _ _ _ _ _ (fun t ht => ?_) ?_ | (simp only [canonical_mk]; with_reducible refine canonical_upd ?_) | split)

theorem execFnDiscard_wf (r : Req) (n : Nat) (s : State) (hw : Canonical s) : CanonicalOut (execFnDiscard r n s) := by
  simp only [execFnDiscard]
  repeat' (first | with_reducible assumption | with_reducible refine canonicalOut_next ?_ | with_reducible refine canonicalOut_ifUnit ?_ ?_ | with_reducible refine canonical_st_ite (fun _ => ?_) (fun _ => ?_) | simp only [reply_st, later_st] | with_reducible apply State.resetMessage_wf | with_reducible refine State.serve_wf _ _ _ _ _ (fun t ht => ?_) ?_ | (simp only [canonical_mk]; with_reducible refine canonical_upd ?_) | split)

theorem State.beginFreeze_wf (s : State) (fn : Dom) (asked : List Req) (handover : Bool) (hw : Canonical s) : Canonical (State.beginFreeze s fn asked handover) := by
  simp only [State.beginFreeze]
  repeat' (first | with_reducible assumption | with_reducible refine canonical_foldl _ (fun t e ht => ?_) _ _ ?_ | (with_reducible apply canonical_unmask; simp (disch := decide) only [State.freezeCheck_mask, State.freezeQueues_mask, State.setMb_mask]; with_reducible apply canonical_mask) | with_reducible apply State.killWhere_wf | (simp only [canonical_mk]; with_reducible refine canonical_upd ?_) | split)

theorem execFnFreeze_wf (r : Req) (n : Nat) (s : State) (hw : Canonical s) : CanonicalOut (execFnFreeze r n s) := by
  simp only [execFnFreeze]
  repeat' (first | with_reducible assumption | with_reducible refine canonicalOut_next ?_ | with_reducible refine canonicalOut_ifUnit ?_ ?_ | with_reducible refine canonical_ite (fun _ => ?_) (fun _ => ?_) | with_reducible refine canonical_st_ite (fun _ => ?_) (fun _ => ?_) | simp only [reply_st, later_st] | with_reducible apply State.beginFreeze_wf | with_reducible refine State.serve_wf _ _ _ _ _ (fun t ht => ?_) ?_ | (simp only [canonical_mk]; with_reducible refine canonical_upd ?_) | split)

theorem execFunctionLevelReset_wf (c : Nat) (fn : Option Nat) (s : State) (hw : Canonical s) : CanonicalOut (execFunctionLevelReset c fn s) := by
  simp only [execFunctionLevelReset]
  repeat' (first | with_reducible assumption | with_reducible refine canonicalOut_next ?_ | with_reducible refine canonicalOut_ifUnit ?_ ?_ | with_reducible refine canonical_ite (fun _ => ?_) (fun _ => ?_) | with_reducible refine canonical_foldl _ (fun t e ht => ?_) _ _ ?_ | with_reducible apply State.forceFnReset_wf | (simp only [canonical_mk]; with_reducible refine canonical_upd ?_) | split)

theorem wrFnReset_wf (fn : Dom) (data : Nat) (s : State) (hw : Canonical s) : Canonical (wrFnReset fn data s) := by
  simp only [wrFnReset]
  repeat' (first | with_reducible assumption | with_reducible refine canonical_ite (fun _ => ?_) (fun _ => ?_) | (with_reducible apply canonical_unmask; simp (disch := decide) only [State.setMb_mask]; with_reducible apply canonical_mask) | with_reducible apply State.forceFnReset_wf | (simp only [canonical_mk]; with_reducible refine canonical_upd ?_) | split)

theorem execFnResetRegWrite_wf (m : Master) (n : Nat) (data : Word) (s : State) (hw : Canonical s) : CanonicalOut (execFnResetRegWrite m n data s) := by
  simp only [execFnResetRegWrite]
  repeat' (first | with_reducible assumption | with_reducible refine canonicalOut_next ?_ | with_reducible refine canonicalOut_ifUnit ?_ ?_ | with_reducible refine canonical_ite (fun _ => ?_) (fun _ => ?_) | with_reducible refine State.pageWrite_wf _ _ _ _ _ _ (fun t ht => ?_) ?_ | with_reducible apply wrFnReset_wf | (simp only [canonical_mk]; with_reducible refine canonical_upd ?_) | split)

theorem wrFnCfg_wf (n data : Nat) (s : State) (hw : Canonical s) : Canonical (wrFnCfg n data s) := by
  simp only [wrFnCfg]
  repeat' (first | with_reducible assumption | with_reducible refine canonical_ite (fun _ => ?_) (fun _ => ?_) | (with_reducible apply canonical_unmask; simp (disch := decide) only [State.flag_mask, State.functionChange_mask, State.resize_mask]; with_reducible apply canonical_mask) | with_reducible apply State.forceFnReset_wf | (simp only [canonical_mk]; with_reducible refine canonical_upd ?_) | split)

theorem execFnCfgWrite_wf (m : Master) (n : Nat) (data : Word) (s : State) (hw : Canonical s) : CanonicalOut (execFnCfgWrite m n data s) := by
  simp only [execFnCfgWrite]
  repeat' (first | with_reducible assumption | with_reducible refine canonicalOut_next ?_ | with_reducible refine canonicalOut_ifUnit ?_ ?_ | with_reducible refine canonical_ite (fun _ => ?_) (fun _ => ?_) | with_reducible refine State.guarded_wf _ _ _ _ _ _ (fun t ht => ?_) ?_ | with_reducible refine State.regWrite_wf _ _ _ _ _ _ _ (fun t ht => ?_) ?_ | with_reducible apply wrFnCfg_wf | (simp only [canonical_mk]; with_reducible refine canonical_upd ?_) | split)

theorem execNumvfsWrite_wf (c n : Nat) (en : Bool) (s : State) (hw : Canonical s) : CanonicalOut (execNumvfsWrite c n en s) := by
  simp only [execNumvfsWrite]
  repeat' (first | with_reducible assumption | with_reducible refine canonicalOut_next ?_ | with_reducible refine canonicalOut_ifUnit ?_ ?_ | with_reducible refine canonical_ite (fun _ => ?_) (fun _ => ?_) | with_reducible refine canonical_foldl _ (fun t e ht => ?_) _ _ ?_ | (with_reducible apply canonical_unmask; simp (disch := decide) only [State.setFld_mask]; with_reducible apply canonical_mask) | with_reducible apply State.forceFnReset_wf | (simp only [canonical_mk]; with_reducible refine canonical_upd ?_) | split)

theorem State.copyUes_wf {s t : State} {l : List (Nat × Nat)} (hq : s.copyUes l = some t) (hw : Canonical s) : Canonical t :=
  canonical_of_mask (State.copyUes_mask hq (by decide)) hw

theorem execFnSave_wf (r : Req) (n flags maxLen addr : Nat) (s : State) (hw : Canonical s) : CanonicalOut (execFnSave r n flags maxLen addr s) := by
  simp only [execFnSave]
  repeat' (first | with_reducible assumption | with_reducible refine canonicalOut_next ?_ | with_reducible refine canonicalOut_ifUnit ?_ ?_ | with_reducible refine canonical_ite (fun _ => ?_) (fun _ => ?_) | with_reducible refine canonical_st_ite (fun _ => ?_) (fun _ => ?_) | simp only [reply_st, later_st] | (with_reducible apply canonical_unmask; simp (disch := decide) only [State.fabLog_mask]; with_reducible apply canonical_mask) | with_reducible refine State.serve_wf _ _ _ _ _ (fun t ht => ?_) ?_ | with_reducible apply State.store_wf | (simp only [canonical_mk]; with_reducible refine canonical_upd ?_) | split | (rename_i hq; with_reducible exact State.copyUes_wf hq ‹_›))

theorem State.putRec_wf {s u : State} {fn : Dom} {r : MirrorRec} (hq : s.putRec fn r = some u) (hw : Canonical s) : Canonical u := by
  simp only [State.putRec] at hq
  repeat' split at hq
  all_goals first
    | (cases hq; done)
    | (simp only [Option.some.injEq] at hq
       subst hq
       repeat' (first | with_reducible assumption | with_reducible refine canonical_ite (fun _ => ?_) (fun _ => ?_) | with_reducible refine canonical_st_ite (fun _ => ?_) (fun _ => ?_) | simp only [reply_st, later_st] | (with_reducible apply canonical_unmask; simp (disch := decide) only [State.grant_mask, State.holdFrozen_mask, State.setBox_mask, State.setBuf_mask, State.setFlds_nil_mask, State.setFlds_cons_mask, State.setFld_mask, State.setMb_mask, State.setQueue_mask]; with_reducible apply canonical_mask) | with_reducible apply State.applyCfg_wf | with_reducible apply State.copyMem_wf | with_reducible apply State.ungrant_wf | with_reducible apply State.write_wf | (simp only [canonical_mk]; with_reducible refine canonical_upd ?_) | split | dsimp only))
    | (simp only [Option.map_eq_some_iff] at hq
       obtain ⟨_, -, rfl⟩ := hq
       repeat' (first | with_reducible assumption | with_reducible refine canonical_ite (fun _ => ?_) (fun _ => ?_) | with_reducible refine canonical_st_ite (fun _ => ?_) (fun _ => ?_) | simp only [reply_st, later_st] | (with_reducible apply canonical_unmask; simp (disch := decide) only [State.grant_mask, State.holdFrozen_mask, State.setBox_mask, State.setBuf_mask, State.setFlds_nil_mask, State.setFlds_cons_mask, State.setFld_mask, State.setMb_mask, State.setQueue_mask]; with_reducible apply canonical_mask) | with_reducible apply State.applyCfg_wf | with_reducible apply State.copyMem_wf | with_reducible apply State.ungrant_wf | with_reducible apply State.write_wf | (simp only [canonical_mk]; with_reducible refine canonical_upd ?_) | split | dsimp only))

theorem State.putRecs_wf {s u : State} {fn : Dom} {l : List MirrorRec} (hq : s.putRecs fn l = some u) (hw : Canonical s) : Canonical u := by
  induction l generalizing s with
  | nil => cases hq; exact hw
  | cons r l ih =>
    simp only [State.putRecs, Option.bind_eq_some_iff] at hq
    obtain ⟨t, h1, h2⟩ := hq
    exact ih h2 (State.putRec_wf h1 hw)

theorem State.moveBuf_wf {s u : State} {dieMap : List Nat} {b data : List Byte} (hq : s.moveBuf dieMap b data = some u) (hw : Canonical s) : Canonical u := by
  simp only [State.moveBuf] at hq
  split at hq
  · cases hq
  split at hq
  · cases hq
  cases hq
  exact State.write_wf _ _ _ (canonical_of_mask (State.setBuf_mask _ _ _ _ _ (by decide)) (canonical_of_mask (State.setBuf_mask _ _ _ _ _ (by decide)) hw))

theorem State.moveBufs_wf {s u : State} {dieMap : List Nat} {l l2 : List MirrorRec} (hq : s.moveBufs dieMap l l2 = some u) (hw : Canonical s) : Canonical u := by
  induction l generalizing s l2 with
  | nil => cases l2 <;> (simp only [State.moveBufs, Option.some.injEq] at hq; rw [← hq]; exact hw)
  | cons r l ih =>
    cases l2 with
    | nil => simp only [State.moveBufs, Option.some.injEq] at hq; rw [← hq]; exact hw
    | cons x l2 =>
      simp only [State.moveBufs, Option.bind_eq_some_iff] at hq
      obtain ⟨t, h1, h2⟩ := hq
      exact ih h2 (State.moveBuf_wf h1 hw)

theorem State.restoreHere_wf {s u : State} {fn : Dom} {buffers : Bool} {dieMap : List Nat} {rs : List MirrorRec}
    (hq : s.restoreHere fn buffers dieMap rs = some u) (hw : Canonical s) : Canonical u := by
  simp only [State.restoreHere, Option.ite_none_left_eq_some, Option.bind_eq_some_iff, Option.map_eq_some_iff] at hq
  obtain ⟨-, s2, h2, s3, h3, s4, h4, rfl⟩ := hq
  have second := State.putRecs_wf h2 hw
  have third : Canonical s3 := by
    split at h3
    · exact State.moveBufs_wf h3 second
    · cases h3; exact second
  exact canonical_of_mask (State.holdFrozen_mask _ _ (by decide)) (canonical_of_mask (State.carry_mask _ _ _ (by decide)) (State.putRecs_wf h4 third))

theorem execFnRestore_wf (r : Req) (n flags len addr : Nat) (dieMap : List Nat) (s : State) (hw : Canonical s) :
    CanonicalOut (execFnRestore r n flags len addr dieMap s) := by
  simp only [execFnRestore]
  refine canonicalOut_next (State.serve_wf _ _ _ _ _ (fun t ht => ?_) hw)
  iterate 3 refine canonical_st_ite (fun _ => ht) (fun _ => ?_)
  split
  · exact canonical_of_mask (State.fabLog_mask _ _ _ _ _ _ _ (by decide)) ht
  · rename_i hq
    exact State.copyUes_wf hq ht
  split
  · exact ht
  refine canonical_st_ite (fun _ => ht) (fun _ => ?_)
  split
  · exact ht
  repeat' refine canonical_st_ite (fun _ => ht) (fun _ => ?_)
  split
  · exact ht
  · rename_i u hq
    change Canonical u
    repeat' split at hq
    all_goals first
      | (cases hq; done)
      | exact State.putRecs_wf hq ht
      | exact State.restoreHere_wf hq ht

theorem execFnThaw_wf (r : Req) (n : Nat) (s : State) (hw : Canonical s) : CanonicalOut (execFnThaw r n s) := by
  simp only [execFnThaw]
  repeat' (first | with_reducible assumption | with_reducible refine canonicalOut_next ?_ | with_reducible refine canonicalOut_ifUnit ?_ ?_ | with_reducible refine canonical_ite (fun _ => ?_) (fun _ => ?_) | with_reducible refine canonical_st_ite (fun _ => ?_) (fun _ => ?_) | simp only [reply_st, later_st] | with_reducible refine State.serve_wf _ _ _ _ _ (fun t ht => ?_) ?_ | with_reducible apply State.thawFn_wf | (simp only [canonical_mk]; with_reducible refine canonical_upd ?_) | split)

theorem execCopy_wf (d core : Nat) (s : State) (hw : Canonical s) : CanonicalOut (execCopy d core s) := by
  simp only [execCopy]
  repeat' (first | with_reducible assumption | with_reducible refine canonicalOut_next ?_ | with_reducible refine canonicalOut_ifUnit ?_ ?_ | with_reducible apply State.runRow_wf | (simp only [canonical_mk]; with_reducible refine canonical_upd ?_) | split)

theorem execNop_wf (d core : Nat) (s : State) (hw : Canonical s) : CanonicalOut (execNop d core s) := by
  simp only [execNop]
  repeat' (first | with_reducible assumption | with_reducible refine canonicalOut_next ?_ | with_reducible refine canonicalOut_ifUnit ?_ ?_ | with_reducible apply State.runRow_wf | (simp only [canonical_mk]; with_reducible refine canonical_upd ?_) | split)

theorem execSignal_wf (d core : Nat) (s : State) (hw : Canonical s) : CanonicalOut (execSignal d core s) := by
  simp only [execSignal]
  repeat' (first | with_reducible assumption | with_reducible refine canonicalOut_next ?_ | with_reducible refine canonicalOut_ifUnit ?_ ?_ | with_reducible apply State.runRow_wf | (simp only [canonical_mk]; with_reducible refine canonical_upd ?_) | split)

theorem execKvPoolCreate_wf (r : Req) (handle : Word) (pages : Nat) (s : State) (hw : Canonical s) : CanonicalOut (execKvPoolCreate r handle pages s) := by
  simp only [execKvPoolCreate]
  repeat' (first | with_reducible assumption | with_reducible refine canonicalOut_next ?_ | with_reducible refine canonicalOut_ifUnit ?_ ?_ | with_reducible refine canonical_ite (fun _ => ?_) (fun _ => ?_) | with_reducible refine canonical_st_ite (fun _ => ?_) (fun _ => ?_) | simp only [reply_st, later_st] | (with_reducible apply canonical_unmask; simp (disch := decide) only [State.kvMirror_mask, State.kvTake_mask]; with_reducible apply canonical_mask) | with_reducible refine State.serve_wf _ _ _ _ _ (fun t ht => ?_) ?_ | with_reducible apply State.write_wf | (simp only [canonical_mk]; with_reducible refine canonical_upd ?_) | split)

theorem execKvSeqCreate_wf (r : Req) (c : KvSeqCfg) (s : State) (hw : Canonical s) : CanonicalOut (execKvSeqCreate r c s) := by
  simp only [execKvSeqCreate]
  repeat' (first | with_reducible assumption | with_reducible refine canonicalOut_next ?_ | with_reducible refine canonicalOut_ifUnit ?_ ?_ | with_reducible refine canonical_ite (fun _ => ?_) (fun _ => ?_) | with_reducible refine canonical_st_ite (fun _ => ?_) (fun _ => ?_) | simp only [reply_st, later_st] | (with_reducible apply canonical_unmask; simp (disch := decide) only [State.kvMirror_mask, State.kvTake_mask]; with_reducible apply canonical_mask) | with_reducible refine State.serve_wf _ _ _ _ _ (fun t ht => ?_) ?_ | with_reducible apply State.write_wf | (simp only [canonical_mk]; with_reducible refine canonical_upd ?_) | split)

theorem State.onSeq_wf (s : State) (r : Req) (opcode : Nat) (seq : Word) (act : State → (Nat × Nat) × Nat × Nat → KvSeq → Reply) (he : ∀ t y1 y2, Canonical t → Canonical ((act t y1 y2)).st) (hw : Canonical s) : Canonical (State.onSeq s r opcode seq act) := by
  simp only [State.onSeq]
  repeat' (first | with_reducible assumption | with_reducible refine he _ _ _ ?_ | with_reducible refine canonical_ite (fun _ => ?_) (fun _ => ?_) | with_reducible refine canonical_st_ite (fun _ => ?_) (fun _ => ?_) | simp only [reply_st, later_st] | with_reducible refine State.serve_wf _ _ _ _ _ (fun t ht => ?_) ?_ | (simp only [canonical_mk]; with_reducible refine canonical_upd ?_) | split)

theorem execKvSeqDestroy_wf (r : Req) (seq : Word) (s : State) (hw : Canonical s) : CanonicalOut (execKvSeqDestroy r seq s) := by
  simp only [execKvSeqDestroy]
  repeat' (first | with_reducible assumption | with_reducible refine canonicalOut_next ?_ | with_reducible refine canonicalOut_ifUnit ?_ ?_ | with_reducible refine canonical_ite (fun _ => ?_) (fun _ => ?_) | with_reducible refine canonical_st_ite (fun _ => ?_) (fun _ => ?_) | simp only [reply_st, later_st] | (with_reducible apply canonical_unmask; simp (disch := decide) only [State.kvDrop_mask]; with_reducible apply canonical_mask) | with_reducible apply State.kvCommit_wf | with_reducible refine State.onSeq_wf _ _ _ _ _ (fun t y1 y2 ht => ?_) ?_ | (simp only [canonical_mk]; with_reducible refine canonical_upd ?_) | split)

theorem execKvSeqSet_wf (r : Req) (seq : Word) (budget recent reserve decay : Nat) (evict : Bool) (s : State) (hw : Canonical s) : CanonicalOut (execKvSeqSet r seq budget recent reserve decay evict s) := by
  simp only [execKvSeqSet]
  repeat' (first | with_reducible assumption | with_reducible refine canonicalOut_next ?_ | with_reducible refine canonicalOut_ifUnit ?_ ?_ | with_reducible refine canonical_ite (fun _ => ?_) (fun _ => ?_) | with_reducible refine canonical_st_ite (fun _ => ?_) (fun _ => ?_) | simp only [reply_st, later_st] | (with_reducible apply canonical_unmask; simp (disch := decide) only [State.kvMirror_mask]; with_reducible apply canonical_mask) | with_reducible apply State.kvCommit_wf | with_reducible refine State.onSeq_wf _ _ _ _ _ (fun t y1 y2 ht => ?_) ?_ | (simp only [canonical_mk]; with_reducible refine canonical_upd ?_) | split)

theorem State.rasterRan_wf (s : State) (d ctx : Nat) (p : Placed) (j : Job) (beside : List (Nat × List Byte)) (hw : Canonical s) : Canonical (State.rasterRan s d ctx p j beside) := by
  simp only [State.rasterRan]
  repeat' (first | with_reducible assumption | with_reducible refine canonical_foldl _ (fun t e ht => ?_) _ _ ?_ | (with_reducible apply canonical_unmask; simp (disch := decide) only [State.fabLog_mask, State.fresh_mask, State.readUe_mask, State.setPlaced_mask, State.wake_mask]; with_reducible apply canonical_mask) | with_reducible apply State.runPart_wf | (simp only [canonical_mk]; with_reducible refine canonical_upd ?_) | split)

theorem State.runRaster_wf (s : State) (d ctx op : Nat) (go : State → Placed → State) (he : ∀ t y1, Canonical t → Canonical ((go t y1))) (hw : Canonical s) : CanonicalOut (State.runRaster s d ctx op go) := by
  simp only [State.runRaster]
  repeat' (first | with_reducible assumption | with_reducible refine canonicalOut_next ?_ | with_reducible refine canonicalOut_ifUnit ?_ ?_ | with_reducible refine he _ _ ?_ | with_reducible refine canonical_ite (fun _ => ?_) (fun _ => ?_) | with_reducible apply State.rasterRan_wf | (simp only [canonical_mk]; with_reducible refine canonical_upd ?_) | split)

theorem State.render_wf (d ctx : Nat) (s : State) (p : Placed) (hw : Canonical s) : Canonical (State.render d ctx s p) := by
  simp only [State.render]
  repeat' (first | with_reducible assumption | with_reducible refine canonical_ite (fun _ => ?_) (fun _ => ?_) | with_reducible refine canonical_foldl _ (fun t e ht => ?_) _ _ ?_ | (with_reducible apply canonical_unmask; simp (disch := decide) only [State.flushOther_mask, State.fresh_mask, State.setFld_mask, State.stookFlush_mask]; with_reducible apply canonical_mask) | with_reducible apply State.rasterRan_wf | (simp only [canonical_mk]; with_reducible refine canonical_upd ?_) | split)

theorem execRender_wf (d ctx : Nat) (s : State) (hw : Canonical s) : CanonicalOut (execRender d ctx s) := by
  simp only [execRender]
  repeat' (first | with_reducible assumption | with_reducible refine canonicalOut_next ?_ | with_reducible refine canonicalOut_ifUnit ?_ ?_ | with_reducible apply State.render_wf | with_reducible refine State.runRaster_wf _ _ _ _ _ (fun t y1 ht => ?_) ?_ | (simp only [canonical_mk]; with_reducible refine canonical_upd ?_) | split)

theorem execFastClear_wf (d ctx : Nat) (s : State) (hw : Canonical s) : CanonicalOut (execFastClear d ctx s) := by
  simp only [execFastClear]
  repeat' (first | with_reducible assumption | with_reducible refine canonicalOut_next ?_ | with_reducible refine canonicalOut_ifUnit ?_ ?_ | with_reducible apply State.rasterRan_wf | with_reducible refine State.runRaster_wf _ _ _ _ _ (fun t y1 ht => ?_) ?_ | (simp only [canonical_mk]; with_reducible refine canonical_upd ?_) | split)

theorem execExpand_wf (d ctx : Nat) (s : State) (hw : Canonical s) : CanonicalOut (execExpand d ctx s) := by
  simp only [execExpand]
  repeat' (first | with_reducible assumption | with_reducible refine canonicalOut_next ?_ | with_reducible refine canonicalOut_ifUnit ?_ ?_ | with_reducible apply State.rasterRan_wf | with_reducible refine State.runRaster_wf _ _ _ _ _ (fun t y1 ht => ?_) ?_ | (simp only [canonical_mk]; with_reducible refine canonical_upd ?_) | split)

theorem execSpillStart_wf (d k sl : Nat) (s : State) (hw : Canonical s) : CanonicalOut (execSpillStart d k sl s) := by
  simp only [execSpillStart]
  repeat' (first | with_reducible assumption | with_reducible refine canonicalOut_next ?_ | with_reducible refine canonicalOut_ifUnit ?_ ?_ | with_reducible refine canonical_ite (fun _ => ?_) (fun _ => ?_) | with_reducible refine canonical_foldl _ (fun t e ht => ?_) _ _ ?_ | (with_reducible apply canonical_unmask; simp (disch := decide) only [State.changeBuf_mask, State.flag_mask, State.quotaDone_mask]; with_reducible apply canonical_mask) | with_reducible apply State.killWhere_wf | (simp only [canonical_mk]; with_reducible refine canonical_upd ?_) | split)

theorem State.moveEnd_wf (s : State) (d k sl : Nat) (m : Move) (hw : Canonical s) : Canonical (State.moveEnd s d k sl m) := by
  simp only [State.moveEnd]
  repeat' (first | with_reducible assumption | (with_reducible apply canonical_unmask; simp (disch := decide) only [State.changeBuf_mask, State.setFld_mask]; with_reducible apply canonical_mask) | with_reducible apply State.copyMem_wf | (simp only [canonical_mk]; with_reducible refine canonical_upd ?_) | split)

theorem execSpillCopyEnd_wf (d k sl : Nat) (s : State) (hw : Canonical s) : CanonicalOut (execSpillCopyEnd d k sl s) := by
  simp only [execSpillCopyEnd]
  repeat' (first | with_reducible assumption | with_reducible refine canonicalOut_next ?_ | with_reducible refine canonicalOut_ifUnit ?_ ?_ | with_reducible refine canonical_ite (fun _ => ?_) (fun _ => ?_) | (with_reducible apply canonical_unmask; simp (disch := decide) only [State.quotaDone_mask, State.refills_mask]; with_reducible apply canonical_mask) | with_reducible apply State.moveEnd_wf | (simp only [canonical_mk]; with_reducible refine canonical_upd ?_) | split)

theorem execRefillCopyEnd_wf (d k sl : Nat) (s : State) (hw : Canonical s) : CanonicalOut (execRefillCopyEnd d k sl s) := by
  simp only [execRefillCopyEnd]
  repeat' (first | with_reducible assumption | with_reducible refine canonicalOut_next ?_ | with_reducible refine canonicalOut_ifUnit ?_ ?_ | with_reducible refine canonical_ite (fun _ => ?_) (fun _ => ?_) | with_reducible refine canonical_foldl _ (fun t e ht => ?_) _ _ ?_ | (with_reducible apply canonical_unmask; simp (disch := decide) only [State.quotaDone_mask, State.refills_mask, State.startRefill_mask]; with_reducible apply canonical_mask) | with_reducible apply State.guaranteeBroken_wf | with_reducible apply State.moveEnd_wf | (simp only [canonical_mk]; with_reducible refine canonical_upd ?_) | split)

theorem State.scramble_wf (s : State) (a n : Nat) (hw : Canonical s) : Canonical (s.scramble a n) := by
  rw [canonical_parts] at hw ⊢
  refine ⟨?_, hw.2⟩
  exact List.foldlRecOn (motive := fun m => cellsWf 0#8 m = true) _ _ hw.1 (fun m h i _ => cellPut_wf _ _ _ _ h)

theorem State.putMap_wf (s : State) (d kv stook : Nat) (hw : Canonical s) : Canonical (State.putMap s d kv stook) := by
  simp only [State.putMap]
  repeat' (first | with_reducible assumption | with_reducible refine canonical_ite (fun _ => ?_) (fun _ => ?_) | (with_reducible apply canonical_unmask; simp (disch := decide) only [State.setFlds_nil_mask, State.setFlds_cons_mask, State.setFld_mask]; with_reducible apply canonical_mask) | with_reducible apply State.moveBytes_wf | with_reducible apply State.scramble_wf | (simp only [canonical_mk]; with_reducible refine canonical_upd ?_) | split)

theorem wrLoftMap_wf (m : Master) (d data : Nat) (s : State) (hw : Canonical s) : Canonical (wrLoftMap m d data s) := by
  simp only [wrLoftMap]
  repeat' (first | with_reducible assumption | with_reducible refine canonical_ite (fun _ => ?_) (fun _ => ?_) | (with_reducible apply canonical_unmask; simp (disch := decide) only [State.flag_mask]; with_reducible apply canonical_mask) | with_reducible refine State.guarded_wf _ _ _ _ _ _ (fun t ht => ?_) ?_ | with_reducible apply State.putMap_wf | (simp only [canonical_mk]; with_reducible refine canonical_upd ?_) | split)

theorem execLoftMapWrite_wf (m : Master) (d : Nat) (data : Word) (s : State) (hw : Canonical s) : CanonicalOut (execLoftMapWrite m d data s) := by
  simp only [execLoftMapWrite]
  repeat' (first | with_reducible assumption | with_reducible refine canonicalOut_next ?_ | with_reducible refine canonicalOut_ifUnit ?_ ?_ | with_reducible refine State.regWrite_wf _ _ _ _ _ _ _ (fun t ht => ?_) ?_ | with_reducible apply wrLoftMap_wf | (simp only [canonical_mk]; with_reducible refine canonical_upd ?_) | split)

theorem execMemLoftMap_wf (r : Req) (d kv stook : Nat) (s : State) (hw : Canonical s) : CanonicalOut (execMemLoftMap r d kv stook s) := by
  simp only [execMemLoftMap]
  repeat' (first | with_reducible assumption | with_reducible refine canonicalOut_next ?_ | with_reducible refine canonicalOut_ifUnit ?_ ?_ | with_reducible refine canonical_ite (fun _ => ?_) (fun _ => ?_) | with_reducible refine canonical_st_ite (fun _ => ?_) (fun _ => ?_) | simp only [reply_st, later_st] | with_reducible apply State.putMap_wf | with_reducible refine State.serve_wf _ _ _ _ _ (fun t ht => ?_) ?_ | (simp only [canonical_mk]; with_reducible refine canonical_upd ?_) | split)

theorem State.releaseLines_wf (s : State) (d a : Nat) (ls : List (Nat × Byte)) (hw : Canonical s) : Canonical (State.releaseLines s d a ls) := by
  simp only [State.releaseLines]
  repeat' (first | with_reducible assumption | with_reducible apply State.stores_wf | (simp only [canonical_mk]; with_reducible refine canonical_upd ?_) | split)

theorem execApCheckpoint_wf (d p : Nat) (lines : PairLines) (equal : Bool) (s : State) (hw : Canonical s) : CanonicalOut (execApCheckpoint d p lines equal s) := by
  simp only [execApCheckpoint]
  repeat' (first | with_reducible assumption | with_reducible refine canonicalOut_next ?_ | with_reducible refine canonicalOut_ifUnit ?_ ?_ | with_reducible refine canonical_ite (fun _ => ?_) (fun _ => ?_) | (with_reducible apply canonical_unmask; simp (disch := decide) only [State.countTransient_mask, State.flag_mask, State.pairEvent_mask, State.pairLost_mask, State.setPair_mask]; with_reducible apply canonical_mask) | with_reducible apply State.releaseLines_wf | (simp only [canonical_mk]; with_reducible refine canonical_upd ?_) | split)

theorem execApPairSelftestEnd_wf (d p : Nat) (mainPass checkerPass : Bool) (s : State) (hw : Canonical s) : CanonicalOut (execApPairSelftestEnd d p mainPass checkerPass s) := by
  simp only [execApPairSelftestEnd]
  repeat' (first | with_reducible assumption | with_reducible refine canonicalOut_next ?_ | with_reducible refine canonicalOut_ifUnit ?_ ?_ | with_reducible refine canonical_ite (fun _ => ?_) (fun _ => ?_) | (with_reducible apply canonical_unmask; simp (disch := decide) only [State.countPersistent_mask, State.pairEvent_mask, State.pairLost_mask, State.pairStops_mask, State.removeAp_mask, State.setPair_mask, State.source_mask]; with_reducible apply canonical_mask) | with_reducible apply State.releaseLines_wf | (simp only [canonical_mk]; with_reducible refine canonical_upd ?_) | split)

theorem execDebugAction_wf (d p : Nat) (a : DebugAct) (s : State) (hw : Canonical s) : CanonicalOut (execDebugAction d p a s) := by
  simp only [execDebugAction]
  repeat' (first | with_reducible assumption | with_reducible refine canonicalOut_next ?_ | with_reducible refine canonicalOut_ifUnit ?_ ?_ | with_reducible refine canonical_ite (fun _ => ?_) (fun _ => ?_) | (with_reducible apply canonical_unmask; simp (disch := decide) only [State.setPair_mask]; with_reducible apply canonical_mask) | with_reducible apply State.releaseLines_wf | (simp only [canonical_mk]; with_reducible refine canonical_upd ?_) | split)

theorem State.suppress_wf (s : State) (fn : Dom) (hw : Canonical s) : Canonical (State.suppress s fn) := by
  simp only [State.suppress]
  repeat' (first | with_reducible assumption | with_reducible refine canonical_ite (fun _ => ?_) (fun _ => ?_) | with_reducible refine canonical_foldl _ (fun t e ht => ?_) _ _ ?_ | (with_reducible apply canonical_unmask; simp (disch := decide) only [State.freezeCheck_mask, State.freezeQueues_mask, State.setMb_mask]; with_reducible apply canonical_mask) | with_reducible apply State.killWhere_wf | (simp only [canonical_mk]; with_reducible refine canonical_upd ?_) | split)

theorem State.demote_wf (s : State) (hw : Canonical s) : Canonical (State.demote s) := by
  simp only [State.demote]
  repeat' (first | with_reducible assumption | with_reducible refine canonical_foldl _ (fun t e ht => ?_) _ _ ?_ | (with_reducible apply canonical_unmask; simp (disch := decide) only [State.dropImages_mask, State.setFlds_nil_mask, State.setFlds_cons_mask, State.setFld_mask]; with_reducible apply canonical_mask) | with_reducible apply State.suppress_wf | (simp only [canonical_mk]; with_reducible refine canonical_upd ?_) | split)

theorem State.takeover_wf (s : State) (cause : Nat) (hw : Canonical s) : Canonical (State.takeover s cause) := by
  simp only [State.takeover]
  repeat' (first | with_reducible assumption | with_reducible refine canonical_ite (fun _ => ?_) (fun _ => ?_) | with_reducible refine canonical_foldl _ (fun t e ht => ?_) _ _ ?_ | (with_reducible apply canonical_unmask; simp (disch := decide) only [State.failoverEvent_mask, State.setFld_mask, State.stopActivation_mask, State.unsync_mask]; with_reducible apply canonical_mask) | with_reducible apply State.thawFn_wf | (simp only [canonical_mk]; with_reducible refine canonical_upd ?_) | split)

theorem execMirrorTransferRx_wf (seq n : Nat) (records : List MirrorRec) (s : State) (hw : Canonical s) : CanonicalOut (execMirrorTransferRx seq n records s) := by
  have sent : ∀ (t : State) l x, Canonical t → Canonical ((t.setFlds 0 0 l).send x) := fun t l x ht =>
    canonical_of_mask (State.send_mask _ _ (by decide)) (State.setFlds_wf _ _ _ _ ht)
  have held : ∀ t : State, Canonical t → Canonical (t.holdFrozen (fnDom n)) := fun t ht => canonical_of_mask (State.holdFrozen_mask _ _ (by decide)) ht
  simp only [execMirrorTransferRx]
  repeat' split
  all_goals first
    | exact canonicalOut_next hw
    | (rename_i hq
       refine canonicalOut_next (sent _ _ _ ?_)
       first
         | exact (State.putRecs_wf hq hw : Canonical _)
         | exact held _ (State.putRecs_wf hq (State.setFlds_wf _ _ _ _ (State.clearFn_wf _ _ hw))))

theorem execHeartbeatSend_wf (s : State) (hw : Canonical s) : CanonicalOut (execHeartbeatSend s) := by
  simp only [execHeartbeatSend]
  repeat' (first | with_reducible assumption | with_reducible refine canonicalOut_next ?_ | with_reducible refine canonicalOut_ifUnit ?_ ?_ | with_reducible refine canonical_ite (fun _ => ?_) (fun _ => ?_) | (with_reducible apply canonical_unmask; simp (disch := decide) only [State.send_mask]; with_reducible apply canonical_mask) | with_reducible apply State.demote_wf | (simp only [canonical_mk]; with_reducible refine canonical_upd ?_) | split)

theorem execHeartbeatRx_wf (alternate : Bool) (x1 : Heartbeat) (s : State) (hw : Canonical s) : CanonicalOut (execHeartbeatRx alternate x1 s) := by
  simp only [execHeartbeatRx]
  repeat' (first | with_reducible assumption | with_reducible refine canonicalOut_next ?_ | with_reducible refine canonicalOut_ifUnit ?_ ?_ | with_reducible refine canonical_ite (fun _ => ?_) (fun _ => ?_) | (with_reducible apply canonical_unmask; simp (disch := decide) only [State.failoverEvent_mask, State.flag_mask, State.handoverDone_mask, State.raise_mask, State.resync_mask, State.setFld_mask]; with_reducible apply canonical_mask) | with_reducible apply State.demote_wf | with_reducible apply State.takeover_wf | (simp only [canonical_mk]; with_reducible refine canonical_upd ?_) | split)

theorem execHeartbeatMissed_wf (alternate : Bool) (s : State) (hw : Canonical s) : CanonicalOut (execHeartbeatMissed alternate s) := by
  simp only [execHeartbeatMissed]
  repeat' (first | with_reducible assumption | with_reducible refine canonicalOut_next ?_ | with_reducible refine canonicalOut_ifUnit ?_ ?_ | with_reducible refine canonical_ite (fun _ => ?_) (fun _ => ?_) | (with_reducible apply canonical_unmask; simp (disch := decide) only [State.addSat_mask, State.flag_mask, State.pairLink_mask, State.setFld_mask, State.titheAdd_mask, State.unsync_mask]; with_reducible apply canonical_mask) | with_reducible apply State.abortHandover_wf | with_reducible apply State.takeover_wf | (simp only [canonical_mk]; with_reducible refine canonical_upd ?_) | split)

theorem execPairHandover_wf (r : Req) (s : State) (hw : Canonical s) : CanonicalOut (execPairHandover r s) := by
  simp only [execPairHandover]
  repeat' (first | with_reducible assumption | with_reducible refine canonicalOut_next ?_ | with_reducible refine canonicalOut_ifUnit ?_ ?_ | with_reducible refine canonical_ite (fun _ => ?_) (fun _ => ?_) | with_reducible refine canonical_st_ite (fun _ => ?_) (fun _ => ?_) | simp only [reply_st, later_st] | with_reducible refine canonical_foldl _ (fun t e ht => ?_) _ _ ?_ | (with_reducible apply canonical_unmask; simp (disch := decide) only [State.flag_mask]; with_reducible apply canonical_mask) | with_reducible apply State.beginFreeze_wf | with_reducible refine State.serve_wf _ _ _ _ _ (fun t ht => ?_) ?_ | (simp only [canonical_mk]; with_reducible refine canonical_upd ?_) | split)

theorem execTitheWriteEnd_wf (readBack : Bool) (s : State) (hw : Canonical s) : CanonicalOut (execTitheWriteEnd readBack s) := by
  simp only [execTitheWriteEnd]
  repeat' (first | with_reducible assumption | with_reducible refine canonicalOut_next ?_ | with_reducible refine canonicalOut_ifUnit ?_ ?_ | with_reducible refine canonical_ite (fun _ => ?_) (fun _ => ?_) | (with_reducible apply canonical_unmask; simp (disch := decide) only [State.answer_mask, State.flag_mask, State.fresh_mask, State.railsOff_mask, State.setFld_mask, State.setFlds_nil_mask, State.setFlds_cons_mask]; with_reducible apply canonical_mask) | with_reducible apply State.putFlash_wf | (simp only [canonical_mk]; with_reducible refine canonical_upd ?_) | split)

theorem execTitheEraseEnd_wf (s : State) (hw : Canonical s) : CanonicalOut (execTitheEraseEnd s) := by
  simp only [execTitheEraseEnd]
  repeat' (first | with_reducible assumption | with_reducible refine canonicalOut_next ?_ | with_reducible refine canonicalOut_ifUnit ?_ ?_ | with_reducible refine canonical_ite (fun _ => ?_) (fun _ => ?_) | (with_reducible apply canonical_unmask; simp (disch := decide) only [State.setFld_mask]; with_reducible apply canonical_mask) | with_reducible apply State.eraseFlash_wf | (simp only [canonical_mk]; with_reducible refine canonical_upd ?_) | split)

theorem execXspiCommand_wf (m : Master) (c : XspiCmd) (s : State) (hw : Canonical s) : CanonicalOut (execXspiCommand m c s) := by
  simp only [execXspiCommand]
  repeat' (first | with_reducible assumption | with_reducible refine canonicalOut_next ?_ | with_reducible refine canonicalOut_ifUnit ?_ ?_ | with_reducible refine canonical_ite (fun _ => ?_) (fun _ => ?_) | (with_reducible apply canonical_unmask; simp (disch := decide) only [State.busError_mask, State.fabLog_mask, State.readUe_mask, State.retryEnds_mask, State.wake_mask]; with_reducible apply canonical_mask) | with_reducible apply State.eraseFlash_wf | with_reducible refine State.guarded_wf _ _ _ _ _ _ (fun t ht => ?_) ?_ | with_reducible apply State.putFlash_wf | with_reducible apply State.store_wf | (simp only [canonical_mk]; with_reducible refine canonical_upd ?_) | split)

theorem State.loadApImage_wf (s : State) (hw : Canonical s) : Canonical (State.loadApImage s) := by
  simp only [State.loadApImage]
  repeat' (first | with_reducible assumption | with_reducible refine canonical_ite (fun _ => ?_) (fun _ => ?_) | with_reducible refine canonical_foldl _ (fun t e ht => ?_) _ _ ?_ | (with_reducible apply canonical_unmask; simp (disch := decide) only [State.setFlds_nil_mask, State.setFlds_cons_mask, State.setFld_mask]; with_reducible apply canonical_mask) | with_reducible apply State.putBytes_wf | (simp only [canonical_mk]; with_reducible refine canonical_upd ?_) | split)

theorem execDramTrainingEnd_wf (d : Nat) (s : State) (hw : Canonical s) : CanonicalOut (execDramTrainingEnd d s) := by
  simp only [execDramTrainingEnd]
  repeat' (first | with_reducible assumption | with_reducible refine canonicalOut_next ?_ | with_reducible refine canonicalOut_ifUnit ?_ ?_ | with_reducible refine canonical_ite (fun _ => ?_) (fun _ => ?_) | (with_reducible apply canonical_unmask; simp (disch := decide) only [State.flag_mask, State.setFlds_nil_mask, State.setFlds_cons_mask, State.setFld_mask, State.setStep_mask, State.titheLoad_mask, State.voltages_mask]; with_reducible apply canonical_mask) | with_reducible apply State.loadApImage_wf | (simp only [canonical_mk]; with_reducible refine canonical_upd ?_) | split)

theorem State.zeroDie_wf (s : State) (d : Nat) (hw : Canonical s) : Canonical (State.zeroDie s d) := by
  simp only [State.zeroDie]
  repeat' (first | with_reducible assumption | with_reducible apply State.zeroBytes_wf | (simp only [canonical_mk]; with_reducible refine canonical_upd ?_) | split)

theorem State.zeroSlice_wf (s : State) (d c : Nat) (hw : Canonical s) : Canonical (State.zeroSlice s d c) := by
  simp only [State.zeroSlice]
  repeat' (first | with_reducible assumption | with_reducible apply State.zeroBytes_wf | (simp only [canonical_mk]; with_reducible refine canonical_upd ?_) | split)

theorem execFabricUp_wf (t : ResetTarget) (s : State) (hw : Canonical s) : CanonicalOut (execFabricUp t s) := by
  simp only [execFabricUp]
  repeat' (first | with_reducible assumption | with_reducible refine canonicalOut_next ?_ | with_reducible refine canonicalOut_ifUnit ?_ ?_ | with_reducible refine canonical_ite (fun _ => ?_) (fun _ => ?_) | with_reducible refine canonical_foldl _ (fun t e ht => ?_) _ _ ?_ | (with_reducible apply canonical_unmask; simp (disch := decide) only [State.linksUp_mask, State.setAll_mask, State.setStep_mask]; with_reducible apply canonical_mask) | with_reducible apply State.zeroDie_wf | with_reducible apply State.zeroSlice_wf | (simp only [canonical_mk]; with_reducible refine canonical_upd ?_) | split)

theorem execFirmwareStart_wf (t : ResetTarget) (s : State) (hw : Canonical s) : CanonicalOut (execFirmwareStart t s) := by
  simp only [execFirmwareStart]
  repeat' (first | with_reducible assumption | with_reducible refine canonicalOut_next ?_ | with_reducible refine canonicalOut_ifUnit ?_ ?_ | with_reducible refine canonical_ite (fun _ => ?_) (fun _ => ?_) | with_reducible refine canonical_foldl _ (fun t e ht => ?_) _ _ ?_ | (with_reducible apply canonical_unmask; simp (disch := decide) only [State.fwParams_mask, State.setFld_mask, State.startDie_mask]; with_reducible apply canonical_mask) | with_reducible apply State.zeroBytes_wf | (simp only [canonical_mk]; with_reducible refine canonical_upd ?_) | split)

theorem execOptWrite_wf (r : Req) (expected : Nat) (options : List Byte) (s : State) (hw : Canonical s) : CanonicalOut (execOptWrite r expected options s) := by
  simp only [execOptWrite]
  repeat' (first | with_reducible assumption | with_reducible refine canonicalOut_next ?_ | with_reducible refine canonicalOut_ifUnit ?_ ?_ | with_reducible refine canonical_ite (fun _ => ?_) (fun _ => ?_) | with_reducible refine canonical_st_ite (fun _ => ?_) (fun _ => ?_) | simp only [reply_st, later_st] | with_reducible apply State.putFlash_wf | with_reducible refine State.serve_wf _ _ _ _ _ (fun t ht => ?_) ?_ | (simp only [canonical_mk]; with_reducible refine canonical_upd ?_) | split)

theorem State.optDone_wf (s : State) (hw : Canonical s) : Canonical (State.optDone s) := by
  simp only [State.optDone]
  repeat' (first | with_reducible assumption | (with_reducible apply canonical_unmask; simp (disch := decide) only [State.answer_mask]; with_reducible apply canonical_mask) | with_reducible apply State.putFlash_wf | (simp only [canonical_mk]; with_reducible refine canonical_upd ?_) | split)

theorem State.idle_wf (s : State) (hw : Canonical s) : Canonical (State.idle s) := by
  simp only [State.idle]
  repeat' (first | with_reducible assumption | (with_reducible apply canonical_unmask; simp (disch := decide) only [State.fusesDone_mask, State.tick_mask]; with_reducible apply canonical_mask) | with_reducible apply State.optDone_wf | (simp only [canonical_mk]; with_reducible refine canonical_upd ?_) | split)

theorem State.camStore_wf (s : State) (d n a : Nat) (bs : List Byte) (hw : Canonical s) : Canonical (State.camStore s d n a bs) := by
  simp only [State.camStore]
  repeat' (first | with_reducible assumption | (with_reducible apply canonical_unmask; simp (disch := decide) only [State.fabLog_mask]; with_reducible apply canonical_mask) | with_reducible apply State.store_wf | (simp only [canonical_mk]; with_reducible refine canonical_upd ?_) | split)

theorem State.putRows_wf (s : State) (d n : Nat) (f : CamFrame) (rs : List (Nat × List Byte)) (hw : Canonical s) : Canonical (State.putRows s d n f rs) := by
  simp only [State.putRows]
  repeat' (first | with_reducible assumption | with_reducible refine canonical_ite (fun _ => ?_) (fun _ => ?_) | with_reducible refine canonical_foldl _ (fun t e ht => ?_) _ _ ?_ | with_reducible apply State.camStore_wf | (simp only [canonical_mk]; with_reducible refine canonical_upd ?_) | split)

theorem State.dropInjection_wf (s : State) (d n : Nat) (hw : Canonical s) : Canonical (State.dropInjection s d n) := by
  simp only [State.dropInjection]
  repeat' (first | with_reducible assumption | (with_reducible apply canonical_unmask; simp (disch := decide) only [State.fresh_mask, State.setFlds_nil_mask, State.setFlds_cons_mask, State.setFld_mask, State.setStream_mask]; with_reducible apply canonical_mask) | with_reducible apply State.putRows_wf | (simp only [canonical_mk]; with_reducible refine canonical_upd ?_) | split)

theorem State.abortInjections_wf (s : State) (d n : Nat) (hw : Canonical s) : Canonical (State.abortInjections s d n) := by
  simp only [State.abortInjections]
  repeat' (first | with_reducible assumption | with_reducible refine canonical_ite (fun _ => ?_) (fun _ => ?_) | with_reducible refine canonical_foldl _ (fun t e ht => ?_) _ _ ?_ | with_reducible apply State.dropInjection_wf | (simp only [canonical_mk]; with_reducible refine canonical_upd ?_) | split)

theorem execCsiShortPacket_wf (d rx : Nat) (x2 : CsiHeader) (number : Nat) (s : State) (hw : Canonical s) : CanonicalOut (execCsiShortPacket d rx x2 number s) := by
  simp only [execCsiShortPacket]
  repeat' (first | with_reducible assumption | with_reducible refine canonicalOut_next ?_ | with_reducible refine canonicalOut_ifUnit ?_ ?_ | with_reducible refine canonical_ite (fun _ => ?_) (fun _ => ?_) | with_reducible refine canonical_foldl _ (fun t e ht => ?_) _ _ ?_ | (with_reducible apply canonical_unmask; simp (disch := decide) only [State.csiHeader_mask, State.endFrame_mask, State.openFrame_mask]; with_reducible apply canonical_mask) | with_reducible apply State.abortInjections_wf | (simp only [canonical_mk]; with_reducible refine canonical_upd ?_) | split)

theorem State.takeLine_wf (s : State) (d n : Nat) (bs : List Byte) (crcOk : Bool) (hw : Canonical s) : Canonical (State.takeLine s d n bs crcOk) := by
  simp only [State.takeLine]
  repeat' (first | with_reducible assumption | with_reducible refine canonical_ite (fun _ => ?_) (fun _ => ?_) | (with_reducible apply canonical_unmask; simp (disch := decide) only [State.setStream_mask]; with_reducible apply canonical_mask) | with_reducible apply State.putRows_wf | (simp only [canonical_mk]; with_reducible refine canonical_upd ?_) | split)

theorem execCsiLongPacket_wf (d rx : Nat) (x2 : CsiHeader) (payload : List Byte) (crcOk : Bool) (s : State) (hw : Canonical s) : CanonicalOut (execCsiLongPacket d rx x2 payload crcOk s) := by
  simp only [execCsiLongPacket]
  repeat' (first | with_reducible assumption | with_reducible refine canonicalOut_next ?_ | with_reducible refine canonicalOut_ifUnit ?_ ?_ | with_reducible refine canonical_ite (fun _ => ?_) (fun _ => ?_) | (with_reducible apply canonical_unmask; simp (disch := decide) only [State.addSat_mask, State.csiHeader_mask, State.openFrame_mask, State.tileEnds_mask]; with_reducible apply canonical_mask) | with_reducible apply State.takeLine_wf | (simp only [canonical_mk]; with_reducible refine canonical_upd ?_) | split)

theorem execGvspPacket_wf (d port : Nat) (p : GvspPacket) (s : State) (hw : Canonical s) : CanonicalOut (execGvspPacket d port p s) := by
  simp only [execGvspPacket]
  repeat' (first | with_reducible assumption | with_reducible refine canonicalOut_next ?_ | with_reducible refine canonicalOut_ifUnit ?_ ?_ | with_reducible refine canonical_ite (fun _ => ?_) (fun _ => ?_) | with_reducible refine canonical_foldl _ (fun t e ht => ?_) _ _ ?_ | (with_reducible apply canonical_unmask; simp (disch := decide) only [State.endFrame_mask, State.gvspPayload_mask, State.openFrame_mask]; with_reducible apply canonical_mask) | with_reducible apply State.abortInjections_wf | (simp only [canonical_mk]; with_reducible refine canonical_upd ?_) | split)

theorem State.countFrame_wf (s : State) (d n : Nat) (f : CamFrame) (crc flags : Nat) (hw : Canonical s) : Canonical (State.countFrame s d n f crc flags) := by
  simp only [State.countFrame]
  repeat' (first | with_reducible assumption | with_reducible refine canonical_ite (fun _ => ?_) (fun _ => ?_) | (with_reducible apply canonical_unmask; simp (disch := decide) only [State.setFld_mask]; with_reducible apply canonical_mask) | with_reducible apply State.camStore_wf | (simp only [canonical_mk]; with_reducible refine canonical_upd ?_) | split)

theorem execFrameComplete_wf (d n : Nat) (s : State) (hw : Canonical s) : CanonicalOut (execFrameComplete d n s) := by
  simp only [execFrameComplete]
  repeat' (first | with_reducible assumption | with_reducible refine canonicalOut_next ?_ | with_reducible refine canonicalOut_ifUnit ?_ ?_ | with_reducible refine canonical_ite (fun _ => ?_) (fun _ => ?_) | (with_reducible apply canonical_unmask; simp (disch := decide) only [State.addSat_mask, State.camEvent_mask, State.occasion_mask, State.setFld_mask, State.setStream_mask, State.source_mask, State.titheAdd_mask]; with_reducible apply canonical_mask) | with_reducible apply State.countFrame_wf | with_reducible apply State.putRows_wf | (simp only [canonical_mk]; with_reducible refine canonical_upd ?_) | split)

theorem execGoldenCopyEnd_wf (d n : Nat) (s : State) (hw : Canonical s) : CanonicalOut (execGoldenCopyEnd d n s) := by
  simp only [execGoldenCopyEnd]
  repeat' (first | with_reducible assumption | with_reducible refine canonicalOut_next ?_ | with_reducible refine canonicalOut_ifUnit ?_ ?_ | with_reducible refine canonical_ite (fun _ => ?_) (fun _ => ?_) | (with_reducible apply canonical_unmask; simp (disch := decide) only [State.readUe_mask, State.setFlds_nil_mask, State.setFlds_cons_mask, State.setFld_mask, State.setStream_mask, State.wake_mask]; with_reducible apply canonical_mask) | with_reducible apply State.countFrame_wf | with_reducible apply State.dropInjection_wf | with_reducible apply State.putRows_wf | (simp only [canonical_mk]; with_reducible refine canonical_upd ?_) | split)

theorem State.streamOff_wf (s : State) (d n : Nat) (hw : Canonical s) : Canonical (State.streamOff s d n) := by
  simp only [State.streamOff]
  repeat' (first | with_reducible assumption | (with_reducible apply canonical_unmask; simp (disch := decide) only [State.setStream_mask]; with_reducible apply canonical_mask) | with_reducible apply State.dropInjection_wf | (simp only [canonical_mk]; with_reducible refine canonical_upd ?_) | split)

theorem State.strSet_wf (s : State) (d n off v : Nat) (hw : Canonical s) : Canonical (s.strSet d n off v) := by
  simp only [State.strSet]
  split
  all_goals first
    | exact hw
    | exact State.setFlds_wf _ _ _ _ hw
    | exact State.setFlds_wf _ _ _ _ (canonical_ite (fun _ => State.streamOff_wf _ _ _ hw) (fun _ => hw))

theorem State.strCfgSet_wf (s : State) (d n v : Nat) (hw : Canonical s) : Canonical (State.strCfgSet s d n v) := by
  simp only [State.strCfgSet]
  repeat' (first | with_reducible assumption | with_reducible refine canonical_ite (fun _ => ?_) (fun _ => ?_) | (with_reducible apply canonical_unmask; simp (disch := decide) only [State.latchGold_mask]; with_reducible apply canonical_mask) | with_reducible apply State.strSet_wf | (simp only [canonical_mk]; with_reducible refine canonical_upd ?_) | split)

theorem wrStr_wf (m : Master) (d n off data : Nat) (s : State) (hw : Canonical s) : Canonical (wrStr m d n off data s) := by
  simp only [wrStr]
  repeat' (first | with_reducible assumption | with_reducible refine canonical_ite (fun _ => ?_) (fun _ => ?_) | (with_reducible apply canonical_unmask; simp (disch := decide) only [State.dropLow_mask, State.flag_mask, State.holdLow_mask, State.setFld_mask]; with_reducible apply canonical_mask) | with_reducible apply State.strCfgSet_wf | with_reducible apply State.strSet_wf | (simp only [canonical_mk]; with_reducible refine canonical_upd ?_) | split)

theorem execStrCfgWrite_wf (m : Master) (d n off : Nat) (data : Word) (s : State) (hw : Canonical s) : CanonicalOut (execStrCfgWrite m d n off data s) := by
  simp only [execStrCfgWrite]
  repeat' (first | with_reducible assumption | with_reducible refine canonicalOut_next ?_ | with_reducible refine canonicalOut_ifUnit ?_ ?_ | with_reducible refine canonical_ite (fun _ => ?_) (fun _ => ?_) | with_reducible refine State.regWrite_wf _ _ _ _ _ _ _ (fun t ht => ?_) ?_ | with_reducible apply wrStr_wf | (simp only [canonical_mk]; with_reducible refine canonical_upd ?_) | split)

theorem execCamStreamSet_wf (r : Req) (d n : Nat) (images : List Word) (s : State) (hw : Canonical s) : CanonicalOut (execCamStreamSet r d n images s) := by
  simp only [execCamStreamSet]
  repeat' (first | with_reducible assumption | with_reducible refine canonicalOut_next ?_ | with_reducible refine canonicalOut_ifUnit ?_ ?_ | with_reducible refine canonical_ite (fun _ => ?_) (fun _ => ?_) | with_reducible refine canonical_st_ite (fun _ => ?_) (fun _ => ?_) | simp only [reply_st, later_st] | with_reducible refine canonical_foldl _ (fun t e ht => ?_) _ _ ?_ | (with_reducible apply canonical_unmask; simp (disch := decide) only [State.setFlds_nil_mask, State.setFlds_cons_mask, State.setFld_mask]; with_reducible apply canonical_mask) | with_reducible refine State.serve_wf _ _ _ _ _ (fun t ht => ?_) ?_ | with_reducible apply State.strCfgSet_wf | with_reducible apply State.strSet_wf | (simp only [canonical_mk]; with_reducible refine canonical_upd ?_) | split)

theorem State.toRing_wf (s : State) (d ring ingress cls : Nat) (bs : List Byte) (trapped : Bool) (stamp : Option (Nat × Nat)) (hw : Canonical s) : Canonical (State.toRing s d ring ingress cls bs trapped stamp) := by
  simp only [State.toRing]
  repeat' (first | with_reducible assumption | with_reducible refine canonical_ite (fun _ => ?_) (fun _ => ?_) | (with_reducible apply canonical_unmask; simp (disch := decide) only [State.dropFrame_mask, State.portReach_mask, State.ringStep_mask]; with_reducible apply canonical_mask) | with_reducible apply State.store_wf | (simp only [canonical_mk]; with_reducible refine canonical_upd ?_) | split)

theorem State.toPort_wf (from_ ingress : Nat) (f : EthOut) (stamp : Option (Nat × Nat)) (s : State) (n : Nat) (hw : Canonical s) : Canonical (State.toPort from_ ingress f stamp s n) := by
  simp only [State.toPort]
  repeat' (first | with_reducible assumption | with_reducible refine canonical_ite (fun _ => ?_) (fun _ => ?_) | (with_reducible apply canonical_unmask; simp (disch := decide) only [State.dropFrame_mask, State.egress_mask]; with_reducible apply canonical_mask) | with_reducible apply State.toRing_wf | (simp only [canonical_mk]; with_reducible refine canonical_upd ?_) | split)

theorem State.forward_wf (s : State) (d ingress : Nat) (bs : List Byte) (ports : List Nat) (cls : Nat) (oneStep : Bool) (stamp desc : Option (Nat × Nat))
    (hw : Canonical s) : Canonical (s.forward d ingress bs ports cls oneStep stamp desc) := by
  simp only [State.forward]
  split
  · exact canonical_foldl _ (fun t e ht => State.toPort_wf _ _ _ _ _ _ ht) _ _ hw
  · rename_i e _
    have worked : Canonical (s.streamWork e.2 bs).2 := canonical_of_mask (State.streamWork_mask _ _ _ (by decide)) hw
    split
    all_goals
      rename_i hq
      rw [hq] at worked
    · exact canonical_of_mask (State.dropFrame_mask _ _ _ _ (by decide)) worked
    · exact canonical_foldl _ (fun t e ht => State.toPort_wf _ _ _ _ _ _ ht) _ _ worked

theorem execEthFrameRx_wf (d i : Nat) (frame : List Byte) (fcsOk : Bool) (s : State) (hw : Canonical s) : CanonicalOut (execEthFrameRx d i frame fcsOk s) := by
  simp only [execEthFrameRx]
  repeat' (first | with_reducible assumption | with_reducible refine canonicalOut_next ?_ | with_reducible refine canonicalOut_ifUnit ?_ ?_ | with_reducible refine canonical_ite (fun _ => ?_) (fun _ => ?_) | with_reducible refine canonical_foldl _ (fun t e ht => ?_) _ _ ?_ | (with_reducible apply canonical_unmask; simp (disch := decide) only [State.dropFrame_mask, State.learn_mask, State.setPort_mask]; with_reducible apply canonical_mask) | with_reducible apply State.forward_wf | with_reducible apply State.toRing_wf | (simp only [canonical_mk]; with_reducible refine canonical_upd ?_) | split)

theorem State.doneDesc_wf (s : State) (d a status : Nat) (stamp : Option (Nat × Nat)) (hw : Canonical s) : Canonical (State.doneDesc s d a status stamp) := by
  simp only [State.doneDesc]
  repeat' (first | with_reducible assumption | with_reducible apply State.store_wf | (simp only [canonical_mk]; with_reducible refine canonical_upd ?_) | split)

theorem execEthFrameTx_wf (d i : Nat) (s : State) (hw : Canonical s) : CanonicalOut (execEthFrameTx d i s) := by
  simp only [execEthFrameTx]
  repeat' (first | with_reducible assumption | with_reducible refine canonicalOut_next ?_ | with_reducible refine canonicalOut_ifUnit ?_ ?_ | with_reducible refine canonical_ite (fun _ => ?_) (fun _ => ?_) | (with_reducible apply canonical_unmask; simp (disch := decide) only [State.dropDesc_mask, State.safetyEgress_mask, State.send_mask, State.setPort_mask]; with_reducible apply canonical_mask) | with_reducible apply State.doneDesc_wf | (simp only [canonical_mk]; with_reducible refine canonical_upd ?_) | split)

theorem execCpuTxDescriptor_wf (d ring : Nat) (s : State) (hw : Canonical s) : CanonicalOut (execCpuTxDescriptor d ring s) := by
  simp only [execCpuTxDescriptor]
  repeat' (first | with_reducible assumption | with_reducible refine canonicalOut_next ?_ | with_reducible refine canonicalOut_ifUnit ?_ ?_ | with_reducible refine canonical_ite (fun _ => ?_) (fun _ => ?_) | (with_reducible apply canonical_unmask; simp (disch := decide) only [State.portReach_mask, State.ringStep_mask]; with_reducible apply canonical_mask) | with_reducible apply State.doneDesc_wf | with_reducible apply State.forward_wf | (simp only [canonical_mk]; with_reducible refine canonical_upd ?_) | split)

theorem State.sendSafety_wf (s : State) (hw : Canonical s) : Canonical (State.sendSafety s) := by
  simp only [State.sendSafety]
  repeat' (first | with_reducible assumption | with_reducible refine canonical_ite (fun _ => ?_) (fun _ => ?_) | with_reducible refine canonical_foldl _ (fun t e ht => ?_) _ _ ?_ | with_reducible apply State.toPort_wf | (simp only [canonical_mk]; with_reducible refine canonical_upd ?_) | split)

theorem execSecConfirm_wf (s : State) (hw : Canonical s) : CanonicalOut (execSecConfirm s) := by
  simp only [execSecConfirm]
  repeat' (first | with_reducible assumption | with_reducible refine canonicalOut_next ?_ | with_reducible refine canonicalOut_ifUnit ?_ ?_ | with_reducible refine canonical_ite (fun _ => ?_) (fun _ => ?_) | (with_reducible apply canonical_unmask; simp (disch := decide) only [State.setFld_mask]; with_reducible apply canonical_mask) | with_reducible apply State.sendSafety_wf | (simp only [canonical_mk]; with_reducible refine canonical_upd ?_) | split)

theorem wrSafeSilo_wf (m : Master) (d k : Nat) (fs : List (Fld × Nat)) (s : State) (hw : Canonical s) : Canonical (wrSafeSilo m d k fs s) := by
  simp only [wrSafeSilo]
  repeat' split
  all_goals first
    | exact hw
    | exact State.setFlds_wf _ _ _ _ hw
    | exact canonical_of_mask (State.flag_mask _ _ _ _ rfl) hw

theorem execGleanerTestStart_wf (d cl : Nat) (s : State) (hw : Canonical s) : CanonicalOut (execGleanerTestStart d cl s) := by
  simp only [execGleanerTestStart]
  repeat' (first | with_reducible assumption | with_reducible refine canonicalOut_next ?_ | with_reducible refine canonicalOut_ifUnit ?_ ?_ | with_reducible refine canonical_ite (fun _ => ?_) (fun _ => ?_) | with_reducible refine canonical_foldl _ (fun t e ht => ?_) _ _ ?_ | (with_reducible apply canonical_unmask; simp (disch := decide) only [State.flag_mask, State.setFld_mask]; with_reducible apply canonical_mask) | with_reducible apply State.kill_wf | (simp only [canonical_mk]; with_reducible refine canonical_upd ?_) | split)

theorem execGleanerTestEnd_wf (d c failing : Nat) (s : State) (hw : Canonical s) : CanonicalOut (execGleanerTestEnd d c failing s) := by
  simp only [execGleanerTestEnd]
  repeat' (first | with_reducible assumption | with_reducible refine canonicalOut_next ?_ | with_reducible refine canonicalOut_ifUnit ?_ ?_ | with_reducible refine canonical_ite (fun _ => ?_) (fun _ => ?_) | (with_reducible apply canonical_unmask; simp (disch := decide) only [State.corePassed_mask, State.flag_mask, State.raise_mask, State.setFld_mask, State.source_mask, State.titheAdd_mask]; with_reducible apply canonical_mask) | with_reducible apply State.removeCore_wf | (simp only [canonical_mk]; with_reducible refine canonical_upd ?_) | split)

theorem State.plainWrite_wf (s : State) (m : Master) (d o : Nat) (r : RegDesc) (i data : Nat) (hw : Canonical s) : Canonical (s.plainWrite m d o r i data) := by
  simp only [State.plainWrite]
  refine canonical_foldl _ (fun t g ht => ?_) _ _ ?_
  · split
    · exact State.setFld_wf _ _ _ _ _ ht
    · exact ht
  · repeat' (first | exact hw | exact canonical_of_mask (State.guardViolation_mask _ _ _ _ _ (by decide)) hw | split)

theorem State.highWrite_wf (s : State) (m : Master) (d o : Nat) (blk : Blk) (lo : RegName) (i cur data : Nat) (eff : Nat → State → State) (he : ∀ y0 t, Canonical t → Canonical ((eff y0 t))) (hw : Canonical s) : Canonical (State.highWrite s m d o blk lo i cur data eff) := by
  simp only [State.highWrite]
  repeat' (first | with_reducible assumption | with_reducible refine he _ _ ?_ | (with_reducible apply canonical_unmask; simp (disch := decide) only [State.dropLow_mask]; with_reducible apply canonical_mask) | with_reducible refine State.guarded_wf _ _ _ _ _ _ (fun t ht => ?_) ?_ | (simp only [canonical_mk]; with_reducible refine canonical_upd ?_) | split)

theorem State.pageRegWrite_wf (s : State) (name : RegName) (dom : Dom) (data : Nat) (hw : Canonical s) : Canonical (State.pageRegWrite s name dom data) := by
  simp only [State.pageRegWrite]
  repeat' (first | with_reducible assumption | (with_reducible apply canonical_unmask; simp (disch := decide) only [wrNotify_mask, wrReqTail_mask, wrRspHead_mask]; with_reducible apply canonical_mask) | with_reducible apply wrFnReset_wf | (simp only [canonical_mk]; with_reducible refine canonical_upd ?_) | split)

theorem State.regEffect_wf (s : State) (m : Master) (d o : Nat) (r : RegDesc) (i data : Nat) (hw : Canonical s) : Canonical (s.regEffect m d o r i data) := by
  unfold State.regEffect
  generalize r.name = nm
  cases nm <;> dsimp only
  all_goals repeat' (first | (with_reducible exact State.plainWrite_wf _ _ _ _ _ _ _ hw) | (intro t ht) | (with_reducible apply State.plainWrite_wf) | with_reducible assumption | with_reducible refine canonical_ite (fun _ => ?_) (fun _ => ?_) | (with_reducible apply canonical_unmask; simp (disch := decide) only [State.holdLow_mask, State.lowWrite_mask, State.setFld_mask, wrCanCfg_mask, wrCanTiming_mask, wrClkAck_mask, wrClkCtrl_mask, wrClkDiv_mask, wrCmpCfg_mask, wrCmpNsec_mask, wrCmpSec_mask, wrCsiPhy_mask, wrEthCfg_mask, wrEthLat_mask, wrFbrRange_mask, wrFbrSem_mask, wrFnAper_mask, wrForce_mask, wrFuseCtrl_mask, wrGlnCtrl_mask, wrGrnQuota_mask, wrGrnScrub_mask, wrHeadCtrl_mask, wrHeadImg_mask, wrHeadPclk_mask, wrLoftScratch_mask, wrMirrorCfg_mask, wrMirrorFn_mask, wrOdoCfg_mask, wrOdoDistHi_mask, wrOdoDistLo_mask, wrOdoRatio_mask, wrOdoSlip_mask, wrPcieCfg_mask, wrPincfg_mask, wrPinmuxOvr_mask, wrPpsInDelay_mask, wrPpsOutCfg_mask, wrPwrFloor_mask, wrPwrLimit_mask, wrPwrPkgLimit_mask, wrPwrRail_mask, wrRasStook_mask, wrRasStookAddr_mask, wrSafeCtrl_mask, wrSafeReact_mask, wrSafeStream1_mask, wrSiloCfg_mask, wrSiloMask_mask, wrSiloTime_mask, wrSqTail_mask, wrSwreq_mask, wrTachCfg_mask, wrTbAdj_mask, wrTbCfg_mask, wrTbGain_mask, wrTbOffset_mask, wrTbSetnsec_mask, wrTbSetsec_mask, wrThermCfg_mask, wrTrgCfg_mask, wrTrgPeriod_mask, wrTrgStart_mask, wrTrgStartLo_mask, wrTscapCfg_mask, wrUartCfg_mask, wrUartFrac_mask, wrWdt_mask, wrWdtKick_mask]; with_reducible apply canonical_mask) | with_reducible refine State.guarded_wf _ _ _ _ _ _ (fun t ht => ?_) ?_ | with_reducible refine State.headWrite_wf _ _ _ _ (fun t ht => ?_) ?_ | with_reducible refine State.highWrite_wf _ _ _ _ _ _ _ _ _ _ (fun y0 t ht => ?_) ?_ | with_reducible apply State.pageRegWrite_wf | with_reducible apply State.plainWrite_wf | with_reducible refine State.tbWrite_wf _ _ _ _ _ _ (fun t ht => ?_) ?_ | with_reducible apply wrCqHead_wf | with_reducible apply wrFnCfg_wf | with_reducible apply wrLoftMap_wf | with_reducible apply wrQctl_wf | with_reducible apply wrSafeSilo_wf | with_reducible apply wrStr_wf | (simp only [canonical_mk]; with_reducible refine canonical_upd ?_) | split)

theorem State.applyWrite_wf (s : State) (m : Master) (d : Nat) (blk : Blk) (o data size : Nat) (hw : Canonical s) : Canonical (State.applyWrite s m d blk o data size) := by
  simp only [State.applyWrite]
  repeat' (first | with_reducible assumption | with_reducible refine canonical_ite (fun _ => ?_) (fun _ => ?_) | (with_reducible apply canonical_unmask; simp (disch := decide) only [State.breakReserve_mask, State.putRam_mask]; with_reducible apply canonical_mask) | with_reducible apply State.regEffect_wf | (simp only [canonical_mk]; with_reducible refine canonical_upd ?_) | split)

theorem State.endPosted_wf (s : State) (w : Posted) (fail : Option Nat) (hw : Canonical s) : Canonical (State.endPosted s w fail) := by
  simp only [State.endPosted]
  repeat' (first | with_reducible assumption | with_reducible refine canonical_ite (fun _ => ?_) (fun _ => ?_) | (with_reducible apply canonical_unmask; simp (disch := decide) only [State.pwFail_mask]; with_reducible apply canonical_mask) | with_reducible apply State.applyWrite_wf | (simp only [canonical_mk]; with_reducible refine canonical_upd ?_) | split)

theorem State.writeOff_wf (s : State) (m : Master) (addr d off size : Nat) (data : Word) (hw : Canonical s) : Canonical (State.writeOff s m addr d off size data) := by
  simp only [State.writeOff]
  repeat' (first | with_reducible assumption | with_reducible refine canonical_ite (fun _ => ?_) (fun _ => ?_) | (with_reducible apply canonical_unmask; simp (disch := decide) only [State.busError_mask]; with_reducible apply canonical_mask) | with_reducible apply State.applyWrite_wf | (simp only [canonical_mk]; with_reducible refine canonical_upd ?_) | split)

theorem State.apintcWrite_wf {s t : State} {d o v : Nat} (hq : s.apintcWrite d o v = some t) (hw : Canonical s) : Canonical t :=
  canonical_of_mask (State.apintcWrite_mask hq (by decide)) hw

theorem State.writeAt_wf (s : State) (m : Master) (addr size : Nat) (data : Nat) (hw : Canonical s) : CanonicalOut (s.writeAt m addr size data) := by
  simp only [State.writeAt]
  repeat' (first | with_reducible assumption | with_reducible refine canonicalOut_next ?_ | with_reducible refine canonicalOut_ifUnit ?_ ?_ | with_reducible refine canonical_ite (fun _ => ?_) (fun _ => ?_) | (with_reducible apply canonical_unmask; simp (disch := decide) only [State.busError_mask, State.send_mask]; with_reducible apply canonical_mask) | with_reducible apply State.store_wf | with_reducible apply State.writeOff_wf | (simp only [canonical_mk]; with_reducible refine canonical_upd ?_) | split)
  rename_i hq
  split at hq
  · obtain ⟨u, h1, h2⟩ := Option.bind_eq_some_iff.1 hq
    exact State.apintcWrite_wf h2 (State.apintcWrite_wf h1 hw)
  · exact State.apintcWrite_wf hq hw

theorem execRegisterWrite_wf (m : Master) (addr size : Nat) (data : BitVec 64) (s : State) (hw : Canonical s) : CanonicalOut (execRegisterWrite m addr size data s) := by
  simp only [execRegisterWrite]
  repeat' (first | with_reducible assumption | with_reducible refine canonicalOut_next ?_ | with_reducible refine canonicalOut_ifUnit ?_ ?_ | with_reducible apply State.writeAt_wf | (simp only [canonical_mk]; with_reducible refine canonical_upd ?_) | split)

theorem execPairLoWrite_wf (m : Master) (addr : Nat) (data : Word) (s : State) (hw : Canonical s) : CanonicalOut (execPairLoWrite m addr data s) := by
  simp only [execPairLoWrite]
  repeat' (first | with_reducible assumption | with_reducible refine canonicalOut_next ?_ | with_reducible refine canonicalOut_ifUnit ?_ ?_ | with_reducible apply State.writeAt_wf | (simp only [canonical_mk]; with_reducible refine canonical_upd ?_) | split)

theorem execPairHiWrite_wf (m : Master) (addr : Nat) (data : Word) (s : State) (hw : Canonical s) : CanonicalOut (execPairHiWrite m addr data s) := by
  simp only [execPairHiWrite]
  repeat' (first | with_reducible assumption | with_reducible refine canonicalOut_next ?_ | with_reducible refine canonicalOut_ifUnit ?_ ?_ | with_reducible apply State.writeAt_wf | (simp only [canonical_mk]; with_reducible refine canonical_upd ?_) | split)

theorem State.retryAccess_wf (bridge : Option Nat) (s : State) (x : Stalled) (hw : Canonical s) : Canonical (State.retryAccess bridge s x) := by
  simp only [State.retryAccess]
  repeat' (first | with_reducible assumption | with_reducible refine canonical_ite (fun _ => ?_) (fun _ => ?_) | (with_reducible apply canonical_unmask; simp (disch := decide) only [State.readOff_mask]; with_reducible apply canonical_mask) | with_reducible apply State.writeOff_wf | (simp only [canonical_mk]; with_reducible refine canonical_upd ?_) | split)

theorem State.runStalled_wf (s : State) (bridge : Option Nat) (hw : Canonical s) : Canonical (State.runStalled s bridge) := by
  simp only [State.runStalled]
  repeat' (first | with_reducible assumption | with_reducible refine canonical_foldl _ (fun t e ht => ?_) _ _ ?_ | with_reducible apply State.retryAccess_wf | (simp only [canonical_mk]; with_reducible refine canonical_upd ?_) | split)

theorem State.finishPosted_wf (s : State) (d : Nat) (p : PostedBlk) (fail : Option Nat) (hw : Canonical s) : Canonical (State.finishPosted s d p fail) := by
  simp only [State.finishPosted]
  repeat' (first | with_reducible assumption | with_reducible apply State.endPosted_wf | with_reducible apply State.runStalled_wf | (simp only [canonical_mk]; with_reducible refine canonical_upd ?_) | split)

theorem execPostedWriteComplete_wf (d : Nat) (p : PostedBlk) (s : State) (hw : Canonical s) : CanonicalOut (execPostedWriteComplete d p s) := by
  simp only [execPostedWriteComplete]
  repeat' (first | with_reducible assumption | with_reducible refine canonicalOut_next ?_ | with_reducible refine canonicalOut_ifUnit ?_ ?_ | with_reducible apply State.finishPosted_wf | (simp only [canonical_mk]; with_reducible refine canonical_upd ?_) | split)

theorem execPostedWriteFail_wf (d : Nat) (p : PostedBlk) (cause : Nat) (s : State) (hw : Canonical s) : CanonicalOut (execPostedWriteFail d p cause s) := by
  simp only [execPostedWriteFail]
  repeat' (first | with_reducible assumption | with_reducible refine canonicalOut_next ?_ | with_reducible refine canonicalOut_ifUnit ?_ ?_ | with_reducible refine canonical_ite (fun _ => ?_) (fun _ => ?_) | with_reducible apply State.finishPosted_wf | (simp only [canonical_mk]; with_reducible refine canonical_upd ?_) | split)

theorem State.semTake_wf (s : State) (d : Nat) (m : Master) (addr off : Nat) (blk : Blk) (o : Nat) (op : FbrAtomic) (hw : Canonical s) : Canonical (State.semTake s d m addr off blk o op) := by
  simp only [State.semTake]
  repeat' (first | with_reducible assumption | with_reducible refine canonical_ite (fun _ => ?_) (fun _ => ?_) | (with_reducible apply canonical_unmask; simp (disch := decide) only [State.busError_mask, State.readWord_mask, State.setFlds_nil_mask, State.setFlds_cons_mask, State.setFld_mask]; with_reducible apply canonical_mask) | with_reducible apply State.applyWrite_wf | (simp only [canonical_mk]; with_reducible refine canonical_upd ?_) | split)

theorem State.semOp_wf (s : State) (d : Nat) (m : Master) (addr off : Nat) (blk : Blk) (o : Nat) (op : FbrAtomic) (hw : Canonical s) : Canonical (State.semOp s d m addr off blk o op) := by
  simp only [State.semOp]
  repeat' (first | with_reducible assumption | with_reducible refine canonical_ite (fun _ => ?_) (fun _ => ?_) | (with_reducible apply canonical_unmask; simp (disch := decide) only [State.busError_mask, State.semFree_mask]; with_reducible apply canonical_mask) | with_reducible apply State.applyWrite_wf | with_reducible apply State.semTake_wf | (simp only [canonical_mk]; with_reducible refine canonical_upd ?_) | split)

theorem State.semNext_wf (d n : Nat) (s : State) (hw : Canonical s) : Canonical (State.semNext d n s) := by
  induction n generalizing s with
  | zero => exact hw
  | succ n ih =>
    simp only [State.semNext]
    repeat' split
    all_goals first
      | exact hw
      | exact ih _ (State.semTake_wf _ _ _ _ _ _ _ _ hw)

theorem State.semRelease_wf (s : State) (d : Nat) (hw : Canonical s) : Canonical (State.semRelease s d) := by
  simp only [State.semRelease]
  repeat' (first | with_reducible assumption | (with_reducible apply canonical_unmask; simp (disch := decide) only [State.semFree_mask]; with_reducible apply canonical_mask) | with_reducible apply State.semNext_wf | (simp only [canonical_mk]; with_reducible refine canonical_upd ?_) | split)

theorem State.memAtomic_wf (s : State) (m : Master) (addr : Nat) (op : FbrAtomic) (hw : Canonical s) : Canonical (State.memAtomic s m addr op) := by
  simp only [State.memAtomic]
  repeat' (first | with_reducible assumption | with_reducible refine canonical_ite (fun _ => ?_) (fun _ => ?_) | (with_reducible apply canonical_unmask; simp (disch := decide) only [State.busError_mask, State.readUe_mask, State.wake_mask]; with_reducible apply canonical_mask) | with_reducible apply State.store_wf | (simp only [canonical_mk]; with_reducible refine canonical_upd ?_) | split)

theorem execFbrAtomicEmulation_wf (m : Master) (addr : Nat) (op : FbrAtomic) (s : State) (hw : Canonical s) : CanonicalOut (execFbrAtomicEmulation m addr op s) := by
  simp only [execFbrAtomicEmulation]
  repeat' (first | with_reducible assumption | with_reducible refine canonicalOut_next ?_ | with_reducible refine canonicalOut_ifUnit ?_ ?_ | with_reducible refine canonical_ite (fun _ => ?_) (fun _ => ?_) | (with_reducible apply canonical_unmask; simp (disch := decide) only [State.busError_mask]; with_reducible apply canonical_mask) | with_reducible apply State.memAtomic_wf | with_reducible apply State.semOp_wf | (simp only [canonical_mk]; with_reducible refine canonical_upd ?_) | split)

theorem execFbrSemTimeout_wf (d : Nat) (s : State) (hw : Canonical s) : CanonicalOut (execFbrSemTimeout d s) := by
  simp only [execFbrSemTimeout]
  repeat' (first | with_reducible assumption | with_reducible refine canonicalOut_next ?_ | with_reducible refine canonicalOut_ifUnit ?_ ?_ | with_reducible refine canonical_ite (fun _ => ?_) (fun _ => ?_) | (with_reducible apply canonical_unmask; simp (disch := decide) only [State.flag_mask]; with_reducible apply canonical_mask) | with_reducible apply State.semRelease_wf | (simp only [canonical_mk]; with_reducible refine canonical_upd ?_) | split)

theorem execFbrSemReleaseWrite_wf (m : Master) (d : Nat) (data : Word) (s : State) (hw : Canonical s) : CanonicalOut (execFbrSemReleaseWrite m d data s) := by
  simp only [execFbrSemReleaseWrite]
  repeat' (first | with_reducible assumption | with_reducible refine canonicalOut_next ?_ | with_reducible refine canonicalOut_ifUnit ?_ ?_ | with_reducible refine canonical_ite (fun _ => ?_) (fun _ => ?_) | with_reducible refine State.guarded_wf _ _ _ _ _ _ (fun t ht => ?_) ?_ | with_reducible refine State.regWrite_wf _ _ _ _ _ _ _ (fun t ht => ?_) ?_ | with_reducible apply State.semRelease_wf | (simp only [canonical_mk]; with_reducible refine canonical_upd ?_) | split)

theorem execFbrReadRelease_wf (d : Nat) (s : State) (hw : Canonical s) : CanonicalOut (execFbrReadRelease d s) := by
  simp only [execFbrReadRelease]
  repeat' (first | with_reducible assumption | with_reducible refine canonicalOut_next ?_ | with_reducible refine canonicalOut_ifUnit ?_ ?_ | with_reducible refine canonical_ite (fun _ => ?_) (fun _ => ?_) | with_reducible apply State.runStalled_wf | with_reducible apply State.semNext_wf | (simp only [canonical_mk]; with_reducible refine canonical_upd ?_) | split)

theorem State.physWrite_wf (s : State) (m : Master) (addr : Nat) (data : List Byte) (hw : Canonical s) : CanonicalOut (State.physWrite s m addr data) := by
  simp only [State.physWrite]
  repeat' (first | with_reducible assumption | with_reducible refine canonicalOut_next ?_ | with_reducible refine canonicalOut_ifUnit ?_ ?_ | with_reducible refine canonical_ite (fun _ => ?_) (fun _ => ?_) | (with_reducible apply canonical_unmask; simp (disch := decide) only [State.busError_mask]; with_reducible apply canonical_mask) | with_reducible apply State.store_wf | with_reducible apply State.writeAt_wf | (simp only [canonical_mk]; with_reducible refine canonical_upd ?_) | split)

theorem State.barWrite_wf (s : State) (c fn bar o : Nat) (data : List Byte) (hw : Canonical s) : CanonicalOut (State.barWrite s c fn bar o data) := by
  simp only [State.barWrite]
  repeat' (first | with_reducible assumption | with_reducible refine canonicalOut_next ?_ | with_reducible refine canonicalOut_ifUnit ?_ ?_ | with_reducible refine canonical_ite (fun _ => ?_) (fun _ => ?_) | (with_reducible apply canonical_unmask; simp (disch := decide) only [State.msixWrite_mask]; with_reducible apply canonical_mask) | with_reducible apply State.physWrite_wf | with_reducible apply State.writeAt_wf | (simp only [canonical_mk]; with_reducible refine canonical_upd ?_) | split)

theorem execPcieInboundRequest_wf (c : Nat) (q : PcieRequest) (s : State) (hw : Canonical s) : CanonicalOut (execPcieInboundRequest c q s) := by
  simp only [execPcieInboundRequest]
  repeat' (first | with_reducible refine canonicalOut_of_kept (State.barRead_mask _ _ _ _ _ _ (by decide)) ?_ |
    with_reducible refine canonicalOut_of_kept (State.physRead_mask _ _ _ _ _ (by decide)) ?_ | with_reducible assumption | with_reducible refine canonicalOut_next ?_ | with_reducible refine canonicalOut_ifUnit ?_ ?_ | with_reducible refine canonical_ite (fun _ => ?_) (fun _ => ?_) | (with_reducible apply canonical_unmask; simp (disch := decide) only [State.barRead_mask, State.complete_mask, State.physRead_mask]; with_reducible apply canonical_mask) | with_reducible apply State.barWrite_wf | with_reducible apply State.physWrite_wf | (simp only [canonical_mk]; with_reducible refine canonical_upd ?_) | split)

theorem State.packageReset_wf (s : State) (warm : Bool) (hw : Canonical s) : Canonical (s.packageReset warm) := by
  rw [canonical_parts] at hw ⊢
  refine ⟨?_, hw.2⟩
  cases warm
  · rfl
  · exact hw.1

theorem State.killLost_wf (s : State) (rerun : Bool) (sel : Nat → SlotRef → Placed → Bool) (hw : Canonical s) : Canonical (State.killLost s rerun sel) := by
  simp only [State.killLost]
  repeat' (first | with_reducible assumption | with_reducible refine canonical_ite (fun _ => ?_) (fun _ => ?_) | with_reducible refine canonical_foldl _ (fun t e ht => ?_) _ _ ?_ | with_reducible apply State.kill_wf | (simp only [canonical_mk]; with_reducible refine canonical_upd ?_) | split)

theorem State.dropQueuesOf_wf (s : State) (d : Nat) (hw : Canonical s) : Canonical (State.dropQueuesOf s d) := by
  simp only [State.dropQueuesOf]
  repeat' (first | with_reducible assumption | with_reducible refine canonical_ite (fun _ => ?_) (fun _ => ?_) | with_reducible refine canonical_foldl _ (fun t e ht => ?_) _ _ ?_ | (with_reducible apply canonical_unmask; simp (disch := decide) only [State.answer_mask, State.freezeCheck_mask, State.siloGone_mask]; with_reducible apply canonical_mask) | with_reducible apply State.killLost_wf | (simp only [canonical_mk]; with_reducible refine canonical_upd ?_) | split)

theorem State.dieReset_wf (s : State) (d : Nat) (hw : Canonical s) : Canonical (State.dieReset s d) := by
  simp only [State.dieReset]
  repeat' (first | with_reducible assumption | with_reducible refine canonical_ite (fun _ => ?_) (fun _ => ?_) | with_reducible apply State.restore_wf | (with_reducible apply canonical_unmask; simp (disch := decide) only [State.dropMemory_mask, State.dropPorts_mask, State.reloadFw_mask, State.setStep_mask]; with_reducible apply canonical_mask) | with_reducible apply State.dropQueuesOf_wf | (simp only [canonical_mk]; with_reducible refine canonical_upd ?_) | split)

theorem State.emptyPool_wf (s : State) (d : Nat) (e : (Nat × Nat) × Nat × Nat) (hw : Canonical s) : Canonical (State.emptyPool s d e) := by
  simp only [State.emptyPool]
  repeat' (first | with_reducible assumption | with_reducible refine canonical_ite (fun _ => ?_) (fun _ => ?_) | with_reducible refine canonical_foldl _ (fun t e ht => ?_) _ _ ?_ | with_reducible apply State.kvCommit_wf | (simp only [canonical_mk]; with_reducible refine canonical_upd ?_) | split)

theorem State.clusterReset_wf (s : State) (d c : Nat) (hw : Canonical s) : Canonical (State.clusterReset s d c) := by
  simp only [State.clusterReset]
  repeat' (first | with_reducible assumption | with_reducible refine canonical_ite (fun _ => ?_) (fun _ => ?_) | with_reducible refine canonical_foldl _ (fun t e ht => ?_) _ _ ?_ | with_reducible apply State.restore_wf | (with_reducible apply canonical_unmask; simp (disch := decide) only [State.dropPairs_mask, State.reloadFw_mask, State.showSeq_mask]; with_reducible apply canonical_mask) | with_reducible apply State.emptyPool_wf | with_reducible apply State.killLost_wf | (simp only [canonical_mk]; with_reducible refine canonical_upd ?_) | split)

theorem State.warmReset_wf (s : State) (q : ResetReq) (hw : Canonical s) : Canonical (State.warmReset s q) := by
  simp only [State.warmReset]
  repeat' (first | with_reducible assumption | with_reducible refine canonical_ite (fun _ => ?_) (fun _ => ?_) | (with_reducible apply canonical_unmask; simp (disch := decide) only [State.apReset_mask, State.recordCause_mask, State.setFld_mask, State.source_mask, State.titheAdd_mask]; with_reducible apply canonical_mask) | with_reducible apply State.clusterReset_wf | with_reducible apply State.dieReset_wf | with_reducible apply State.packageReset_wf | (simp only [canonical_mk]; with_reducible refine canonical_upd ?_) | split)

theorem execResetTakeEffect_wf (s : State) (hw : Canonical s) : CanonicalOut (execResetTakeEffect s) := by
  simp only [execResetTakeEffect]
  repeat' (first | with_reducible assumption | with_reducible refine canonicalOut_next ?_ | with_reducible refine canonicalOut_ifUnit ?_ ?_ | with_reducible refine canonical_ite (fun _ => ?_) (fun _ => ?_) | (with_reducible apply canonical_unmask; simp (disch := decide) only [State.startHoldoff_mask]; with_reducible apply canonical_mask) | with_reducible apply State.warmReset_wf | (simp only [canonical_mk]; with_reducible refine canonical_upd ?_) | split)

theorem execBrownOut_wf (d : Nat) (s : State) (hw : Canonical s) : CanonicalOut (execBrownOut d s) := by
  simp only [execBrownOut]
  repeat' (first | with_reducible assumption | with_reducible refine canonicalOut_next ?_ | with_reducible refine canonicalOut_ifUnit ?_ ?_ | with_reducible refine canonical_ite (fun _ => ?_) (fun _ => ?_) | (with_reducible apply canonical_unmask; simp (disch := decide) only [State.recordCause_mask]; with_reducible apply canonical_mask) | with_reducible apply State.packageReset_wf | (simp only [canonical_mk]; with_reducible refine canonical_upd ?_) | split)

end Sys2Proof.Machine
end

