-- ==== Sys2Proof/Laws/Frame.lean ====
section
/-!
SUPPORT. Laws/Frame.lean: from a mask (Laws/Mask.lean) to the terms of Safety.lean: what a masked equation says of one register field and of one component.
-/
namespace Sys2Proof.Machine

/-- A list's value for a key is that of the list without other keys. -/
theorem lookupD_filter {κ ν : Type} [DecidableEq κ] (p : κ → Bool) (m : List (κ × ν)) (k : κ) (d : ν) (h : p k = true) :
    lookupD (m.filter (fun e => p e.1)) k d = lookupD m k d := by
  induction m with
  | nil => rfl
  | cons e m ih =>
    obtain ⟨k', v⟩ := e
    by_cases hk : k' = k
    · subst hk
      simp [h, lookupD]
    · by_cases hp : p k' = true
      · simp [hp, lookupD, hk, ih]
      · simp [hp, lookupD, hk, ih]

theorem part_of_mask0 {K : Nat} {s t : State} (h : t.mask K = s.mask K) (h0 : K.testBit 0 = false) : t.part = s.part := by
  have := congrArg State.part h
  simpa [State.mask, hide_clear h0] using this

theorem pending_of_mask {K : Nat} {s t : State} (h : t.mask K = s.mask K) (h1 : K.testBit 1 = false) : t.pending = s.pending := by
  have := congrArg State.pending h
  simpa [State.mask, hide_clear h1] using this

theorem free_of_mask {K : Nat} {s t : State} (h : t.mask K = s.mask K) (h2 : K.testBit 2 = false) : t.free = s.free := by
  have := congrArg State.free h
  simpa [State.mask, hide_clear h2] using this

theorem access_of_mask {K : Nat} {s t : State} (h : t.mask K = s.mask K) (h3 : K.testBit 3 = false) : t.access = s.access := by
  have := congrArg State.access h
  simpa [State.mask, hide_clear h3] using this

theorem bus_of_mask {K : Nat} {s t : State} (h : t.mask K = s.mask K) (h7 : K.testBit 7 = false) : t.bus = s.bus := by
  have := congrArg State.bus h
  simpa [State.mask, hide_clear h7] using this

theorem pins_of_mask {K : Nat} {s t : State} (h : t.mask K = s.mask K) (h8 : K.testBit 8 = false) : t.pins = s.pins := by
  have := congrArg State.pins h
  simpa [State.mask, hide_clear h8] using this

theorem clk_of_mask {K : Nat} {s t : State} (h : t.mask K = s.mask K) (h9 : K.testBit 9 = false) : t.clk = s.clk := by
  have := congrArg State.clk h
  simpa [State.mask, hide_clear h9] using this

theorem boot_of_mask {K : Nat} {s t : State} (h : t.mask K = s.mask K) (h10 : K.testBit 10 = false) : t.boot = s.boot := by
  have := congrArg State.boot h
  simpa [State.mask, hide_clear h10] using this

theorem mail_of_mask {K : Nat} {s t : State} (h : t.mask K = s.mask K) (h11 : K.testBit 11 = false) : t.mail = s.mail := by
  have := congrArg State.mail h
  simpa [State.mask, hide_clear h11] using this

theorem fw_of_mask {K : Nat} {s t : State} (h : t.mask K = s.mask K) (h12 : K.testBit 12 = false) : t.fw = s.fw := by
  have := congrArg State.fw h
  simpa [State.mask, hide_clear h12] using this

theorem memy_of_mask {K : Nat} {s t : State} (h : t.mask K = s.mask K) (h13 : K.testBit 13 = false) : t.memy = s.memy := by
  have := congrArg State.memy h
  simpa [State.mask, hide_clear h13] using this

theorem irq_of_mask {K : Nat} {s t : State} (h : t.mask K = s.mask K) (h14 : K.testBit 14 = false) : t.irq = s.irq := by
  have := congrArg State.irq h
  simpa [State.mask, hide_clear h14] using this

theorem tithe_of_mask {K : Nat} {s t : State} (h : t.mask K = s.mask K) (h15 : K.testBit 15 = false) : t.tithe = s.tithe := by
  have := congrArg State.tithe h
  simpa [State.mask, hide_clear h15] using this

theorem out_of_mask {K : Nat} {s t : State} (h : t.mask K = s.mask K) (h16 : K.testBit 16 = false) : t.out = s.out := by
  have := congrArg State.out h
  simpa [State.mask, hide_clear h16] using this

theorem time_of_mask {K : Nat} {s t : State} (h : t.mask K = s.mask K) (h17 : K.testBit 17 = false) : t.time = s.time := by
  have := congrArg State.time h
  simpa [State.mask, hide_clear h17] using this

theorem q_of_mask {K : Nat} {s t : State} (h : t.mask K = s.mask K) (h18 : K.testBit 18 = false) : t.q = s.q := by
  have := congrArg State.q h
  simpa [State.mask, hide_clear h18] using this

theorem fn_of_mask {K : Nat} {s t : State} (h : t.mask K = s.mask K) (h19 : K.testBit 19 = false) : t.fn = s.fn := by
  have := congrArg State.fn h
  simpa [State.mask, hide_clear h19] using this

theorem safe_of_mask {K : Nat} {s t : State} (h : t.mask K = s.mask K) (h20 : K.testBit 20 = false) : t.safe = s.safe := by
  have := congrArg State.safe h
  simpa [State.mask, hide_clear h20] using this

theorem sec_of_mask {K : Nat} {s t : State} (h : t.mask K = s.mask K) (h21 : K.testBit 21 = false) : t.sec = s.sec := by
  have := congrArg State.sec h
  simpa [State.mask, hide_clear h21] using this

theorem mirror_of_mask {K : Nat} {s t : State} (h : t.mask K = s.mask K) (h22 : K.testBit 22 = false) : t.mirror = s.mirror := by
  have := congrArg State.mirror h
  simpa [State.mask, hide_clear h22] using this

theorem pairs_of_mask {K : Nat} {s t : State} (h : t.mask K = s.mask K) (h23 : K.testBit 23 = false) : t.pairs = s.pairs := by
  have := congrArg State.pairs h
  simpa [State.mask, hide_clear h23] using this

theorem heads_of_mask {K : Nat} {s t : State} (h : t.mask K = s.mask K) (h24 : K.testBit 24 = false) : t.heads = s.heads := by
  have := congrArg State.heads h
  simpa [State.mask, hide_clear h24] using this

theorem frameFlags_of_mask {K : Nat} {s t : State} (h : t.mask K = s.mask K) (h25 : K.testBit 25 = false) : t.frameFlags = s.frameFlags := by
  have := congrArg State.frameFlags h
  simpa [State.mask, hide_clear h25] using this

theorem streams_of_mask {K : Nat} {s t : State} (h : t.mask K = s.mask K) (h26 : K.testBit 26 = false) : t.streams = s.streams := by
  have := congrArg State.streams h
  simpa [State.mask, hide_clear h26] using this

theorem odo_of_mask {K : Nat} {s t : State} (h : t.mask K = s.mask K) (h27 : K.testBit 27 = false) : t.odo = s.odo := by
  have := congrArg State.odo h
  simpa [State.mask, hide_clear h27] using this

theorem tachPulses_of_mask {K : Nat} {s t : State} (h : t.mask K = s.mask K) (h28 : K.testBit 28 = false) : t.tachPulses = s.tachPulses := by
  have := congrArg State.tachPulses h
  simpa [State.mask, hide_clear h28] using this

theorem tachSeen_of_mask {K : Nat} {s t : State} (h : t.mask K = s.mask K) (h29 : K.testBit 29 = false) : t.tachSeen = s.tachSeen := by
  have := congrArg State.tachSeen h
  simpa [State.mask, hide_clear h29] using this

theorem eth_of_mask {K : Nat} {s t : State} (h : t.mask K = s.mask K) (h30 : K.testBit 30 = false) : t.eth = s.eth := by
  have := congrArg State.eth h
  simpa [State.mask, hide_clear h30] using this

theorem ports_of_mask {K : Nat} {s t : State} (h : t.mask K = s.mask K) (h31 : K.testBit 31 = false) : t.ports = s.ports := by
  have := congrArg State.ports h
  simpa [State.mask, hide_clear h31] using this

theorem power_of_mask {K : Nat} {s t : State} (h : t.mask K = s.mask K) (h32 : K.testBit 32 = false) : t.power = s.power := by
  have := congrArg State.power h
  simpa [State.mask, hide_clear h32] using this

/-- The bit of a component in a mask. -/
def Component.maskBit : Component → Nat
  | .free => 2
  | .access => 3
  | .memory => 5
  | .flash => 6
  | .bus => 7
  | .pins => 8
  | .clocks => 9
  | .boot => 10
  | .mailboxes => 11
  | .update => 12
  | .buffers => 13
  | .interrupts => 14
  | .tithe => 15
  | .sent => 16
  | .time => 17
  | .queues => 18
  | .functions => 19
  | .safety => 20
  | .security => 21
  | .mirror => 22
  | .apPairs => 23
  | .heads => 24
  | .frameFlags => 25
  | .streams => 26
  | .odometry => 27
  | .tachPulses => 28
  | .tachEdges => 29
  | .ethernet => 30
  | .ports => 31
  | .power => 32

/-- A component that the mask does not name is the same. -/
theorem part_of_mask {K : Nat} {s t : State} (h : t.mask K = s.mask K) (p : Component) (hp : K.testBit p.maskBit = false) : p.same s t := by
  cases p
  case access => exact access_of_mask h hp
  case memory => exact mem_of_mask h hp
  case flash => exact flash_of_mask h hp
  case bus => exact bus_of_mask h hp
  case pins => exact pins_of_mask h hp
  case clocks => exact clk_of_mask h hp
  case boot => exact boot_of_mask h hp
  case mailboxes => exact mail_of_mask h hp
  case update => exact fw_of_mask h hp
  case buffers => exact memy_of_mask h hp
  case interrupts => exact irq_of_mask h hp
  case tithe => exact tithe_of_mask h hp
  case sent => exact out_of_mask h hp
  case time => exact time_of_mask h hp
  case queues => exact q_of_mask h hp
  case functions => exact fn_of_mask h hp
  case safety => exact safe_of_mask h hp
  case security => exact sec_of_mask h hp
  case mirror => exact mirror_of_mask h hp
  case apPairs => exact pairs_of_mask h hp
  case heads => exact heads_of_mask h hp
  case frameFlags => exact frameFlags_of_mask h hp
  case streams => exact streams_of_mask h hp
  case odometry => exact odo_of_mask h hp
  case tachPulses => exact tachPulses_of_mask h hp
  case tachEdges => exact tachSeen_of_mask h hp
  case ethernet => exact eth_of_mask h hp
  case ports => exact ports_of_mask h hp
  case power => exact power_of_mask h hp
  case free => exact free_of_mask h hp

/-- The reset value of a field depends on the part and, for two fields, on the pads. -/
theorem fieldReset_eq {s t : State} (hp : t.part = s.part) (f : Fld) (hx : t.pins = s.pins ∨ (f ≠ .PINCFG_OE ∧ f ≠ .PINCFG_PULL)) (d i : Nat) :
    fieldReset t d f i = fieldReset s d f i := by
  by_cases h1 : f = .PINCFG_OE
  · subst h1
    rcases hx with hx | hx
    · simp only [fieldReset, State.pinCode, hx]
      congr
    · exact absurd rfl hx.1
  by_cases h2 : f = .PINCFG_PULL
  · subst h2
    rcases hx with hx | hx
    · simp only [fieldReset, State.pinCode, hx]
      congr
    · exact absurd rfl hx.2
  · unfold fieldReset
    rw [hp]
    split <;> first | rfl | exact absurd rfl h1 | exact absurd rfl h2

/-- A register field that the mask does not name is the same. -/
theorem fld_of_mask {K : Nat} {s t : State} (h : t.mask K = s.mask K) (h0 : K.testBit 0 = false) (f : Fld) (hf : K.testBit f.maskBit = false)
    (hx : K.testBit 8 = false ∨ (f ≠ .PINCFG_OE ∧ f ≠ .PINCFG_PULL)) (d i : Nat) : t.fld d f i = s.fld d f i := by
  have hr : t.regs.filter (fun e => !K.testBit e.1.fld.maskBit) = s.regs.filter (fun e => !K.testBit e.1.fld.maskBit) := congrArg State.regs h
  have hp : (fun k : FK => !K.testBit k.fld.maskBit) ⟨homeDie f d, f, i⟩ = true := by simp [hf]
  have h1 := lookupD_filter (fun k : FK => !K.testBit k.fld.maskBit) t.regs ⟨homeDie f d, f, i⟩ (fieldReset t d f i) hp
  have h2 := lookupD_filter (fun k : FK => !K.testBit k.fld.maskBit) s.regs ⟨homeDie f d, f, i⟩ (fieldReset t d f i) hp
  have he : fieldReset t d f i = fieldReset s d f i := fieldReset_eq (part_of_mask0 h h0) f (hx.imp (fun h8 => pins_of_mask h h8) id) d i
  simp only [State.fld]
  rw [← he, ← h1, ← h2, hr]

/-- The number of a field names it. -/
theorem Fld.ctorIdx_inj {f g : Fld} (h : f.ctorIdx = g.ctorIdx) : f = g := by
  have hf : ∀ x : Fld, Fld.ofNat x.ctorIdx = x := by
    intro x
    cases x <;> rfl
  rw [← hf f, ← hf g, h]

/-- The mask of a list of fields, without the components. -/
def fieldMask (l : List Fld) : Nat := l.foldl (fun a f => a ||| 1 <<< f.ctorIdx) 0

theorem fieldMask_bit (l : List Fld) (f : Fld) (h : f ∉ l) : (fieldMask l).testBit f.ctorIdx = false := by
  have : ∀ (l : List Fld) (a : Nat), f ∉ l → a.testBit f.ctorIdx = false → (l.foldl (fun a f => a ||| 1 <<< f.ctorIdx) a).testBit f.ctorIdx = false := by
    intro l
    induction l with
    | nil => exact fun a _ ha => ha
    | cons g l ih =>
      intro a hl ha
      simp only [List.mem_cons, not_or] at hl
      refine ih _ hl.2 ?_
      have hg : g.ctorIdx ≠ f.ctorIdx := fun he => hl.1 (Fld.ctorIdx_inj he).symm
      simp [Nat.testBit_or, ha, Nat.shiftLeft_eq, hg]
  exact this l 0 h (Nat.zero_testBit _)

/-- A field outside a list has no bit in a mask whose fields are those of the list. -/
theorem maskBit_notin {K : Nat} {l : List Fld} (h : K >>> 33 = fieldMask l) (f : Fld) (hf : f ∉ l) : K.testBit f.maskBit = false := by
  have := fieldMask_bit l f hf
  rw [← h, Nat.testBit_shiftRight] at this
  exact this

/-- A field that a row may not change is none of those its entry names. -/
theorem mayChange_notin {i : Instr} {l : List Fld} {f : Fld} (h : rowFields i = some l) (hf : mayChange i f = false) : f ∉ l := by
  simpa [mayChange, h] using hf

end Sys2Proof.Machine
end

