-- ==== Sys2Proof/Laws/Serve.lean ====
section
/-!
SUPPORT. Laws/Serve.lean: what the shared paths of a command do, said once: a request that is served, a register write that goes through, the guard.
-/
namespace Sys2Proof.Machine

/-- A served request has its body's effect on the state in which it is handled, and its answer. -/
theorem Serves.eq {s : State} {r : Req} {op : Nat} {die : Option Nat} (h : Serves s r op die) (body : State → Reply) :
    s.serve r op die body = (body (s.handling r op)).st.answered r op die (body (s.handling r op)).ans := by
  rcases h with h | ⟨h1, h2⟩
  · simp [State.serve, h]
  · simp [State.serve, h1, h2]

/-- A served request whose body answers. -/
theorem Serves.reply {s s' : State} {r : Req} {op : Nat} {die : Option Nat} {body : State → Reply} {st : Status} {p : List Byte} (h : Serves s r op die)
    (hb : body (s.handling r op) = Machine.reply s' st p) : s.serve r op die body = s'.answered r op die (some (st, p)) := by
  rw [h.eq, hb]
  rfl

/-- A served request that completes later. -/
theorem Serves.later {s s' : State} {r : Req} {op : Nat} {die : Option Nat} {body : State → Reply} (h : Serves s r op die)
    (hb : body (s.handling r op) = Machine.later s') : s.serve r op die body = s'.answered r op die none := by
  rw [h.eq, hb]
  rfl

/-- A served request whose body answers OK. -/
theorem Serves.replies {s : State} {r : Req} {op : Nat} {die : Option Nat} {body : State → Reply} {f : State → State × List Byte} (h : Serves s r op die)
    (hb : body (s.handling r op) = Machine.reply (f (s.handling r op)).1 .ok (f (s.handling r op)).2) : s.serve r op die body = s.replies r op die f :=
  h.reply hb

/-- A served request whose body refuses changes nothing more. -/
theorem Serves.refuses {s : State} {r : Req} {op : Nat} {die : Option Nat} {body : State → Reply} {st : Status} (h : Serves s r op die)
    (hb : body (s.handling r op) = Machine.reply (s.handling r op) st []) : s.serve r op die body = s.refuses r op die st :=
  h.reply hb

/-- A served request whose body completes later. -/
theorem Serves.defers {s : State} {r : Req} {op : Nat} {die : Option Nat} {body : State → Reply} {f : State → State} (h : Serves s r op die)
    (hb : body (s.handling r op) = Machine.later (f (s.handling r op))) : s.serve r op die body = s.defers r op die f :=
  h.later hb

/-- Handling a request changes its mailbox and the doorbells alone. -/
theorem State.handling_eq (s : State) (r : Req) (op : Nat) :
    ∃ boxes bells, s.handling r op = { s with mail.boxes := boxes, mail.bells := bells } := by
  unfold State.handling
  split
  · exact ⟨s.mail.boxes, s.mail.bells, rfl⟩
  · exact ⟨_, _, rfl⟩

@[simp] theorem State.handling_part (s : State) (r : Req) (op : Nat) : (s.handling r op).part = s.part := by
  unfold State.handling
  split <;> rfl

@[simp] theorem State.handling_pending (s : State) (r : Req) (op : Nat) : (s.handling r op).pending = s.pending := by
  unfold State.handling
  split <;> rfl

@[simp] theorem State.handling_free (s : State) (r : Req) (op : Nat) : (s.handling r op).free = s.free := by
  unfold State.handling
  split <;> rfl

@[simp] theorem State.handling_access (s : State) (r : Req) (op : Nat) : (s.handling r op).access = s.access := by
  unfold State.handling
  split <;> rfl

@[simp] theorem State.handling_regs (s : State) (r : Req) (op : Nat) : (s.handling r op).regs = s.regs := by
  unfold State.handling
  split <;> rfl

@[simp] theorem State.handling_mem (s : State) (r : Req) (op : Nat) : (s.handling r op).mem = s.mem := by
  unfold State.handling
  split <;> rfl

@[simp] theorem State.handling_flash (s : State) (r : Req) (op : Nat) : (s.handling r op).flash = s.flash := by
  unfold State.handling
  split <;> rfl

@[simp] theorem State.handling_bus (s : State) (r : Req) (op : Nat) : (s.handling r op).bus = s.bus := by
  unfold State.handling
  split <;> rfl

@[simp] theorem State.handling_pins (s : State) (r : Req) (op : Nat) : (s.handling r op).pins = s.pins := by
  unfold State.handling
  split <;> rfl

@[simp] theorem State.handling_clk (s : State) (r : Req) (op : Nat) : (s.handling r op).clk = s.clk := by
  unfold State.handling
  split <;> rfl

@[simp] theorem State.handling_boot (s : State) (r : Req) (op : Nat) : (s.handling r op).boot = s.boot := by
  unfold State.handling
  split <;> rfl

@[simp] theorem State.handling_fw (s : State) (r : Req) (op : Nat) : (s.handling r op).fw = s.fw := by
  unfold State.handling
  split <;> rfl

@[simp] theorem State.handling_memy (s : State) (r : Req) (op : Nat) : (s.handling r op).memy = s.memy := by
  unfold State.handling
  split <;> rfl

@[simp] theorem State.handling_irq (s : State) (r : Req) (op : Nat) : (s.handling r op).irq = s.irq := by
  unfold State.handling
  split <;> rfl

@[simp] theorem State.handling_tithe (s : State) (r : Req) (op : Nat) : (s.handling r op).tithe = s.tithe := by
  unfold State.handling
  split <;> rfl

@[simp] theorem State.handling_out (s : State) (r : Req) (op : Nat) : (s.handling r op).out = s.out := by
  unfold State.handling
  split <;> rfl

@[simp] theorem State.handling_time (s : State) (r : Req) (op : Nat) : (s.handling r op).time = s.time := by
  unfold State.handling
  split <;> rfl

@[simp] theorem State.handling_q (s : State) (r : Req) (op : Nat) : (s.handling r op).q = s.q := by
  unfold State.handling
  split <;> rfl

@[simp] theorem State.handling_fn (s : State) (r : Req) (op : Nat) : (s.handling r op).fn = s.fn := by
  unfold State.handling
  split <;> rfl

@[simp] theorem State.handling_safe (s : State) (r : Req) (op : Nat) : (s.handling r op).safe = s.safe := by
  unfold State.handling
  split <;> rfl

@[simp] theorem State.handling_sec (s : State) (r : Req) (op : Nat) : (s.handling r op).sec = s.sec := by
  unfold State.handling
  split <;> rfl

@[simp] theorem State.handling_mirror (s : State) (r : Req) (op : Nat) : (s.handling r op).mirror = s.mirror := by
  unfold State.handling
  split <;> rfl

@[simp] theorem State.handling_pairs (s : State) (r : Req) (op : Nat) : (s.handling r op).pairs = s.pairs := by
  unfold State.handling
  split <;> rfl

@[simp] theorem State.handling_heads (s : State) (r : Req) (op : Nat) : (s.handling r op).heads = s.heads := by
  unfold State.handling
  split <;> rfl

@[simp] theorem State.handling_frameFlags (s : State) (r : Req) (op : Nat) : (s.handling r op).frameFlags = s.frameFlags := by
  unfold State.handling
  split <;> rfl

@[simp] theorem State.handling_streams (s : State) (r : Req) (op : Nat) : (s.handling r op).streams = s.streams := by
  unfold State.handling
  split <;> rfl

@[simp] theorem State.handling_odo (s : State) (r : Req) (op : Nat) : (s.handling r op).odo = s.odo := by
  unfold State.handling
  split <;> rfl

@[simp] theorem State.handling_tachPulses (s : State) (r : Req) (op : Nat) : (s.handling r op).tachPulses = s.tachPulses := by
  unfold State.handling
  split <;> rfl

@[simp] theorem State.handling_tachSeen (s : State) (r : Req) (op : Nat) : (s.handling r op).tachSeen = s.tachSeen := by
  unfold State.handling
  split <;> rfl

@[simp] theorem State.handling_eth (s : State) (r : Req) (op : Nat) : (s.handling r op).eth = s.eth := by
  unfold State.handling
  split <;> rfl

@[simp] theorem State.handling_ports (s : State) (r : Req) (op : Nat) : (s.handling r op).ports = s.ports := by
  unfold State.handling
  split <;> rfl

@[simp] theorem State.handling_power (s : State) (r : Req) (op : Nat) : (s.handling r op).power = s.power := by
  unfold State.handling
  split <;> rfl

@[simp] theorem State.handling_grants (s : State) (r : Req) (op : Nat) : (s.handling r op).mail.grants = s.mail.grants := by
  unfold State.handling
  split <;> rfl

@[simp] theorem State.handling_fld (s : State) (r : Req) (op d : Nat) (f : Fld) (i : Nat) : (s.handling r op).fld d f i = s.fld d f i := by
  unfold State.handling
  split <;> rfl

@[simp] theorem State.handling_byte (s : State) (r : Req) (op a : Nat) : (s.handling r op).byte a = s.byte a := by
  unfold State.handling
  split <;> rfl

@[simp] theorem State.handling_granted (s : State) (r : Req) (op : Nat) (dom : Dom) : (s.handling r op).granted dom = s.granted dom := by
  unfold State.handling
  split <;> rfl

/-- A write that goes through has its effect. -/
theorem WritesNow.eq {s : State} {m : Master} {d : Nat} {blk : Blk} {off : Nat} (h : WritesNow s m d blk off) (data : Word) (f : State → State) :
    s.regWrite m d blk off data f = f s.accepted := by
  obtain ⟨h1, h2, h3⟩ := h
  unfold State.regWrite
  simp only [h1, h2]
  cases hp : s.postsTo d (blkBase blk + off) with
  | none => simp [State.accepted]
  | some b => simp [h3 b hp, State.accepted]

/-- The guard lets a permitted master's write through. -/
theorem State.guarded_ok {s : State} {m : Master} (h : s.guardOk m = true) (d : Nat) (blk : Blk) (off : Nat) (eff : State → State) :
    s.guarded m d blk off eff = eff s := by
  simp [State.guarded, State.guardWrite, h]

/-- The guard does not look at the access. -/
@[simp] theorem State.accepted_guardOk (s : State) (m : Master) : s.accepted.guardOk m = s.guardOk m := rfl

end Sys2Proof.Machine
end

