-- ==== Sys2Proof/Laws/State.lean ====
section
/-!
SUPPORT. Laws/State.lean: small lemmas of the updates of the state: what was written reads back, the rest is as before.
-/
namespace Sys2Proof.Machine

/-- A key that was written reads back. -/
@[simp] theorem lookupD_insertKV_same {κ ν : Type} [DecidableEq κ] (m : List (κ × ν)) (k : κ) (v d : ν) : lookupD (insertKV m k v) k d = v := by
  induction m with
  | nil => simp [insertKV, lookupD]
  | cons e m ih =>
    obtain ⟨k', v'⟩ := e
    by_cases h : k' = k
    · simp [insertKV, lookupD, h]
    · simp [insertKV, lookupD, h, ih]

/-- Writing a key leaves the others. -/
theorem lookupD_insertKV_other {κ ν : Type} [DecidableEq κ] (m : List (κ × ν)) {k j : κ} (v d : ν) (h : j ≠ k) :
    lookupD (insertKV m k v) j d = lookupD m j d := by
  induction m with
  | nil => simp [insertKV, lookupD, Ne.symm h]
  | cons e m ih =>
    obtain ⟨k', v'⟩ := e
    by_cases h1 : k' = k
    · subst h1
      simp [insertKV, lookupD, Ne.symm h]
    · simp [insertKV, lookupD, h1, ih]

/-- A key that was written is found. -/
@[simp] theorem lookup?_insertKV_same {κ ν : Type} [DecidableEq κ] (m : List (κ × ν)) (k : κ) (v : ν) : lookup? (insertKV m k v) k = some v := by
  induction m with
  | nil => simp [insertKV, lookup?]
  | cons e m ih =>
    obtain ⟨k', v'⟩ := e
    by_cases h : k' = k
    · simp [insertKV, lookup?, h]
    · simp [insertKV, lookup?, h, ih]

/-- Writing a key leaves the others as they are found. -/
theorem lookup?_insertKV_other {κ ν : Type} [DecidableEq κ] (m : List (κ × ν)) {k j : κ} (v : ν) (h : j ≠ k) :
    lookup? (insertKV m k v) j = lookup? m j := by
  induction m with
  | nil => simp [insertKV, lookup?, Ne.symm h]
  | cons e m ih =>
    obtain ⟨k', v'⟩ := e
    by_cases h1 : k' = k
    · subst h1
      simp [insertKV, lookup?, Ne.symm h]
    · simp [insertKV, lookup?, h1, ih]

/-- A field that was set reads back, in as many bits as it has. -/
@[simp] theorem State.fld_setFld_same (s : State) (d : Nat) (f : Fld) (i v : Nat) : (s.setFld d f i v).fld d f i = v % 2 ^ f.width := by
  simp [State.fld, State.setFld]

/-- Setting a field leaves every other field. -/
theorem State.fld_setFld_other (s : State) (d d' : Nat) {f g : Fld} (i i' v : Nat) (h : g ≠ f) : (s.setFld d f i v).fld d' g i' = s.fld d' g i' := by
  simp only [State.fld, State.setFld]
  rw [lookupD_insertKV_other _ _ _ (fun e => h (by injection e))]
  rfl

/-- Setting a field of a die leaves the same field at another index. -/
theorem State.fld_setFld_index (s : State) (d d' : Nat) (f : Fld) {i i' : Nat} (v : Nat) (h : i' ≠ i) : (s.setFld d f i v).fld d' f i' = s.fld d' f i' := by
  simp only [State.fld, State.setFld]
  rw [lookupD_insertKV_other _ _ _ (fun e => h (by injection e))]
  rfl

/-- The records of the hidden state that were written read back. -/
@[simp] theorem State.queue_setQueue (s : State) (q : Nat) (x : Queue) : (s.setQueue q x).queue q = some x := lookup?_insertKV_same _ _ _

@[simp] theorem State.placed_setPlaced (s : State) (d : Nat) (r : SlotRef) (p : Placed) : (s.setPlaced d r p).placed d r = some p := lookup?_insertKV_same _ _ _

@[simp] theorem State.box_setBox (s : State) (dom : Dom) (b : Mailbox) : (s.setBox dom b).box dom = b := lookupD_insertKV_same _ _ _ _

@[simp] theorem State.silo_setSilo (s : State) (d k : Nat) (x : SiloState) : (s.setSilo d k x).silo d k = x := lookupD_insertKV_same _ _ _ _

/-! `setFld` changes `regs` only. -/

section
variable (s : State) (d : Nat) (f : Fld) (i v : Nat)
@[simp] theorem State.setFld_part : (s.setFld d f i v).part = s.part := rfl
@[simp] theorem State.setFld_pending : (s.setFld d f i v).pending = s.pending := rfl
@[simp] theorem State.setFld_free : (s.setFld d f i v).free = s.free := rfl
@[simp] theorem State.setFld_access : (s.setFld d f i v).access = s.access := rfl
@[simp] theorem State.setFld_mem : (s.setFld d f i v).mem = s.mem := rfl
@[simp] theorem State.setFld_flash : (s.setFld d f i v).flash = s.flash := rfl
@[simp] theorem State.setFld_bus : (s.setFld d f i v).bus = s.bus := rfl
@[simp] theorem State.setFld_pins : (s.setFld d f i v).pins = s.pins := rfl
@[simp] theorem State.setFld_clk : (s.setFld d f i v).clk = s.clk := rfl
@[simp] theorem State.setFld_boot : (s.setFld d f i v).boot = s.boot := rfl
@[simp] theorem State.setFld_mail : (s.setFld d f i v).mail = s.mail := rfl
@[simp] theorem State.setFld_fw : (s.setFld d f i v).fw = s.fw := rfl
@[simp] theorem State.setFld_memy : (s.setFld d f i v).memy = s.memy := rfl
@[simp] theorem State.setFld_irq : (s.setFld d f i v).irq = s.irq := rfl
@[simp] theorem State.setFld_tithe : (s.setFld d f i v).tithe = s.tithe := rfl
@[simp] theorem State.setFld_out : (s.setFld d f i v).out = s.out := rfl
@[simp] theorem State.setFld_time : (s.setFld d f i v).time = s.time := rfl
@[simp] theorem State.setFld_q : (s.setFld d f i v).q = s.q := rfl
@[simp] theorem State.setFld_fn : (s.setFld d f i v).fn = s.fn := rfl
@[simp] theorem State.setFld_safe : (s.setFld d f i v).safe = s.safe := rfl
@[simp] theorem State.setFld_sec : (s.setFld d f i v).sec = s.sec := rfl
@[simp] theorem State.setFld_mirror : (s.setFld d f i v).mirror = s.mirror := rfl
@[simp] theorem State.setFld_pairs : (s.setFld d f i v).pairs = s.pairs := rfl
@[simp] theorem State.setFld_heads : (s.setFld d f i v).heads = s.heads := rfl
@[simp] theorem State.setFld_frameFlags : (s.setFld d f i v).frameFlags = s.frameFlags := rfl
@[simp] theorem State.setFld_streams : (s.setFld d f i v).streams = s.streams := rfl
@[simp] theorem State.setFld_odo : (s.setFld d f i v).odo = s.odo := rfl
@[simp] theorem State.setFld_tachPulses : (s.setFld d f i v).tachPulses = s.tachPulses := rfl
@[simp] theorem State.setFld_tachSeen : (s.setFld d f i v).tachSeen = s.tachSeen := rfl
@[simp] theorem State.setFld_eth : (s.setFld d f i v).eth = s.eth := rfl
@[simp] theorem State.setFld_ports : (s.setFld d f i v).ports = s.ports := rfl
@[simp] theorem State.setFld_power : (s.setFld d f i v).power = s.power := rfl
@[simp] theorem State.setFld_byte (a' : Nat) : (s.setFld d f i v).byte a' = s.byte a' := rfl
end

/-! `setStream` changes `streams` only. -/

section
variable (s : State) (d n : Nat) (c : CamStream)
@[simp] theorem State.setStream_part : (s.setStream d n c).part = s.part := rfl
@[simp] theorem State.setStream_pending : (s.setStream d n c).pending = s.pending := rfl
@[simp] theorem State.setStream_free : (s.setStream d n c).free = s.free := rfl
@[simp] theorem State.setStream_access : (s.setStream d n c).access = s.access := rfl
@[simp] theorem State.setStream_regs : (s.setStream d n c).regs = s.regs := rfl
@[simp] theorem State.setStream_mem : (s.setStream d n c).mem = s.mem := rfl
@[simp] theorem State.setStream_flash : (s.setStream d n c).flash = s.flash := rfl
@[simp] theorem State.setStream_bus : (s.setStream d n c).bus = s.bus := rfl
@[simp] theorem State.setStream_pins : (s.setStream d n c).pins = s.pins := rfl
@[simp] theorem State.setStream_clk : (s.setStream d n c).clk = s.clk := rfl
@[simp] theorem State.setStream_boot : (s.setStream d n c).boot = s.boot := rfl
@[simp] theorem State.setStream_mail : (s.setStream d n c).mail = s.mail := rfl
@[simp] theorem State.setStream_fw : (s.setStream d n c).fw = s.fw := rfl
@[simp] theorem State.setStream_memy : (s.setStream d n c).memy = s.memy := rfl
@[simp] theorem State.setStream_irq : (s.setStream d n c).irq = s.irq := rfl
@[simp] theorem State.setStream_tithe : (s.setStream d n c).tithe = s.tithe := rfl
@[simp] theorem State.setStream_out : (s.setStream d n c).out = s.out := rfl
@[simp] theorem State.setStream_time : (s.setStream d n c).time = s.time := rfl
@[simp] theorem State.setStream_q : (s.setStream d n c).q = s.q := rfl
@[simp] theorem State.setStream_fn : (s.setStream d n c).fn = s.fn := rfl
@[simp] theorem State.setStream_safe : (s.setStream d n c).safe = s.safe := rfl
@[simp] theorem State.setStream_sec : (s.setStream d n c).sec = s.sec := rfl
@[simp] theorem State.setStream_mirror : (s.setStream d n c).mirror = s.mirror := rfl
@[simp] theorem State.setStream_pairs : (s.setStream d n c).pairs = s.pairs := rfl
@[simp] theorem State.setStream_heads : (s.setStream d n c).heads = s.heads := rfl
@[simp] theorem State.setStream_frameFlags : (s.setStream d n c).frameFlags = s.frameFlags := rfl
@[simp] theorem State.setStream_odo : (s.setStream d n c).odo = s.odo := rfl
@[simp] theorem State.setStream_tachPulses : (s.setStream d n c).tachPulses = s.tachPulses := rfl
@[simp] theorem State.setStream_tachSeen : (s.setStream d n c).tachSeen = s.tachSeen := rfl
@[simp] theorem State.setStream_eth : (s.setStream d n c).eth = s.eth := rfl
@[simp] theorem State.setStream_ports : (s.setStream d n c).ports = s.ports := rfl
@[simp] theorem State.setStream_power : (s.setStream d n c).power = s.power := rfl
@[simp] theorem State.setStream_fld (d' : Nat) (f' : Fld) (i' : Nat) : (s.setStream d n c).fld d' f' i' = s.fld d' f' i' := rfl
@[simp] theorem State.setStream_byte (a' : Nat) : (s.setStream d n c).byte a' = s.byte a' := rfl
end

/-! `setHead` changes `heads` only. -/

section
variable (s : State) (h : Nat) (x : HeadState)
@[simp] theorem State.setHead_part : (s.setHead h x).part = s.part := rfl
@[simp] theorem State.setHead_pending : (s.setHead h x).pending = s.pending := rfl
@[simp] theorem State.setHead_free : (s.setHead h x).free = s.free := rfl
@[simp] theorem State.setHead_access : (s.setHead h x).access = s.access := rfl
@[simp] theorem State.setHead_regs : (s.setHead h x).regs = s.regs := rfl
@[simp] theorem State.setHead_mem : (s.setHead h x).mem = s.mem := rfl
@[simp] theorem State.setHead_flash : (s.setHead h x).flash = s.flash := rfl
@[simp] theorem State.setHead_bus : (s.setHead h x).bus = s.bus := rfl
@[simp] theorem State.setHead_pins : (s.setHead h x).pins = s.pins := rfl
@[simp] theorem State.setHead_clk : (s.setHead h x).clk = s.clk := rfl
@[simp] theorem State.setHead_boot : (s.setHead h x).boot = s.boot := rfl
@[simp] theorem State.setHead_mail : (s.setHead h x).mail = s.mail := rfl
@[simp] theorem State.setHead_fw : (s.setHead h x).fw = s.fw := rfl
@[simp] theorem State.setHead_memy : (s.setHead h x).memy = s.memy := rfl
@[simp] theorem State.setHead_irq : (s.setHead h x).irq = s.irq := rfl
@[simp] theorem State.setHead_tithe : (s.setHead h x).tithe = s.tithe := rfl
@[simp] theorem State.setHead_out : (s.setHead h x).out = s.out := rfl
@[simp] theorem State.setHead_time : (s.setHead h x).time = s.time := rfl
@[simp] theorem State.setHead_q : (s.setHead h x).q = s.q := rfl
@[simp] theorem State.setHead_fn : (s.setHead h x).fn = s.fn := rfl
@[simp] theorem State.setHead_safe : (s.setHead h x).safe = s.safe := rfl
@[simp] theorem State.setHead_sec : (s.setHead h x).sec = s.sec := rfl
@[simp] theorem State.setHead_mirror : (s.setHead h x).mirror = s.mirror := rfl
@[simp] theorem State.setHead_pairs : (s.setHead h x).pairs = s.pairs := rfl
@[simp] theorem State.setHead_frameFlags : (s.setHead h x).frameFlags = s.frameFlags := rfl
@[simp] theorem State.setHead_streams : (s.setHead h x).streams = s.streams := rfl
@[simp] theorem State.setHead_odo : (s.setHead h x).odo = s.odo := rfl
@[simp] theorem State.setHead_tachPulses : (s.setHead h x).tachPulses = s.tachPulses := rfl
@[simp] theorem State.setHead_tachSeen : (s.setHead h x).tachSeen = s.tachSeen := rfl
@[simp] theorem State.setHead_eth : (s.setHead h x).eth = s.eth := rfl
@[simp] theorem State.setHead_ports : (s.setHead h x).ports = s.ports := rfl
@[simp] theorem State.setHead_power : (s.setHead h x).power = s.power := rfl
@[simp] theorem State.setHead_fld (d' : Nat) (f' : Fld) (i' : Nat) : (s.setHead h x).fld d' f' i' = s.fld d' f' i' := rfl
@[simp] theorem State.setHead_byte (a' : Nat) : (s.setHead h x).byte a' = s.byte a' := rfl
end

/-! `setPort` changes `eth` only. -/

section
variable (s : State) (d i : Nat) (p : EthPort)
@[simp] theorem State.setPort_part : (s.setPort d i p).part = s.part := rfl
@[simp] theorem State.setPort_pending : (s.setPort d i p).pending = s.pending := rfl
@[simp] theorem State.setPort_free : (s.setPort d i p).free = s.free := rfl
@[simp] theorem State.setPort_access : (s.setPort d i p).access = s.access := rfl
@[simp] theorem State.setPort_regs : (s.setPort d i p).regs = s.regs := rfl
@[simp] theorem State.setPort_mem : (s.setPort d i p).mem = s.mem := rfl
@[simp] theorem State.setPort_flash : (s.setPort d i p).flash = s.flash := rfl
@[simp] theorem State.setPort_bus : (s.setPort d i p).bus = s.bus := rfl
@[simp] theorem State.setPort_pins : (s.setPort d i p).pins = s.pins := rfl
@[simp] theorem State.setPort_clk : (s.setPort d i p).clk = s.clk := rfl
@[simp] theorem State.setPort_boot : (s.setPort d i p).boot = s.boot := rfl
@[simp] theorem State.setPort_mail : (s.setPort d i p).mail = s.mail := rfl
@[simp] theorem State.setPort_fw : (s.setPort d i p).fw = s.fw := rfl
@[simp] theorem State.setPort_memy : (s.setPort d i p).memy = s.memy := rfl
@[simp] theorem State.setPort_irq : (s.setPort d i p).irq = s.irq := rfl
@[simp] theorem State.setPort_tithe : (s.setPort d i p).tithe = s.tithe := rfl
@[simp] theorem State.setPort_out : (s.setPort d i p).out = s.out := rfl
@[simp] theorem State.setPort_time : (s.setPort d i p).time = s.time := rfl
@[simp] theorem State.setPort_q : (s.setPort d i p).q = s.q := rfl
@[simp] theorem State.setPort_fn : (s.setPort d i p).fn = s.fn := rfl
@[simp] theorem State.setPort_safe : (s.setPort d i p).safe = s.safe := rfl
@[simp] theorem State.setPort_sec : (s.setPort d i p).sec = s.sec := rfl
@[simp] theorem State.setPort_mirror : (s.setPort d i p).mirror = s.mirror := rfl
@[simp] theorem State.setPort_pairs : (s.setPort d i p).pairs = s.pairs := rfl
@[simp] theorem State.setPort_heads : (s.setPort d i p).heads = s.heads := rfl
@[simp] theorem State.setPort_frameFlags : (s.setPort d i p).frameFlags = s.frameFlags := rfl
@[simp] theorem State.setPort_streams : (s.setPort d i p).streams = s.streams := rfl
@[simp] theorem State.setPort_odo : (s.setPort d i p).odo = s.odo := rfl
@[simp] theorem State.setPort_tachPulses : (s.setPort d i p).tachPulses = s.tachPulses := rfl
@[simp] theorem State.setPort_tachSeen : (s.setPort d i p).tachSeen = s.tachSeen := rfl
@[simp] theorem State.setPort_ports : (s.setPort d i p).ports = s.ports := rfl
@[simp] theorem State.setPort_power : (s.setPort d i p).power = s.power := rfl
@[simp] theorem State.setPort_fld (d' : Nat) (f' : Fld) (i' : Nat) : (s.setPort d i p).fld d' f' i' = s.fld d' f' i' := rfl
@[simp] theorem State.setPort_byte (a' : Nat) : (s.setPort d i p).byte a' = s.byte a' := rfl
end

/-! `setBox` changes `mail` only. -/

section
variable (s : State) (dom : Dom) (b : Mailbox)
@[simp] theorem State.setBox_part : (s.setBox dom b).part = s.part := rfl
@[simp] theorem State.setBox_pending : (s.setBox dom b).pending = s.pending := rfl
@[simp] theorem State.setBox_free : (s.setBox dom b).free = s.free := rfl
@[simp] theorem State.setBox_access : (s.setBox dom b).access = s.access := rfl
@[simp] theorem State.setBox_regs : (s.setBox dom b).regs = s.regs := rfl
@[simp] theorem State.setBox_mem : (s.setBox dom b).mem = s.mem := rfl
@[simp] theorem State.setBox_flash : (s.setBox dom b).flash = s.flash := rfl
@[simp] theorem State.setBox_bus : (s.setBox dom b).bus = s.bus := rfl
@[simp] theorem State.setBox_pins : (s.setBox dom b).pins = s.pins := rfl
@[simp] theorem State.setBox_clk : (s.setBox dom b).clk = s.clk := rfl
@[simp] theorem State.setBox_boot : (s.setBox dom b).boot = s.boot := rfl
@[simp] theorem State.setBox_fw : (s.setBox dom b).fw = s.fw := rfl
@[simp] theorem State.setBox_memy : (s.setBox dom b).memy = s.memy := rfl
@[simp] theorem State.setBox_irq : (s.setBox dom b).irq = s.irq := rfl
@[simp] theorem State.setBox_tithe : (s.setBox dom b).tithe = s.tithe := rfl
@[simp] theorem State.setBox_out : (s.setBox dom b).out = s.out := rfl
@[simp] theorem State.setBox_time : (s.setBox dom b).time = s.time := rfl
@[simp] theorem State.setBox_q : (s.setBox dom b).q = s.q := rfl
@[simp] theorem State.setBox_fn : (s.setBox dom b).fn = s.fn := rfl
@[simp] theorem State.setBox_safe : (s.setBox dom b).safe = s.safe := rfl
@[simp] theorem State.setBox_sec : (s.setBox dom b).sec = s.sec := rfl
@[simp] theorem State.setBox_mirror : (s.setBox dom b).mirror = s.mirror := rfl
@[simp] theorem State.setBox_pairs : (s.setBox dom b).pairs = s.pairs := rfl
@[simp] theorem State.setBox_heads : (s.setBox dom b).heads = s.heads := rfl
@[simp] theorem State.setBox_frameFlags : (s.setBox dom b).frameFlags = s.frameFlags := rfl
@[simp] theorem State.setBox_streams : (s.setBox dom b).streams = s.streams := rfl
@[simp] theorem State.setBox_odo : (s.setBox dom b).odo = s.odo := rfl
@[simp] theorem State.setBox_tachPulses : (s.setBox dom b).tachPulses = s.tachPulses := rfl
@[simp] theorem State.setBox_tachSeen : (s.setBox dom b).tachSeen = s.tachSeen := rfl
@[simp] theorem State.setBox_eth : (s.setBox dom b).eth = s.eth := rfl
@[simp] theorem State.setBox_ports : (s.setBox dom b).ports = s.ports := rfl
@[simp] theorem State.setBox_power : (s.setBox dom b).power = s.power := rfl
@[simp] theorem State.setBox_fld (d' : Nat) (f' : Fld) (i' : Nat) : (s.setBox dom b).fld d' f' i' = s.fld d' f' i' := rfl
@[simp] theorem State.setBox_byte (a' : Nat) : (s.setBox dom b).byte a' = s.byte a' := rfl
end

/-! `setUart` changes `ports` only. -/

section
variable (s : State) (d n : Nat) (u : UartState)
@[simp] theorem State.setUart_part : (s.setUart d n u).part = s.part := rfl
@[simp] theorem State.setUart_pending : (s.setUart d n u).pending = s.pending := rfl
@[simp] theorem State.setUart_free : (s.setUart d n u).free = s.free := rfl
@[simp] theorem State.setUart_access : (s.setUart d n u).access = s.access := rfl
@[simp] theorem State.setUart_regs : (s.setUart d n u).regs = s.regs := rfl
@[simp] theorem State.setUart_mem : (s.setUart d n u).mem = s.mem := rfl
@[simp] theorem State.setUart_flash : (s.setUart d n u).flash = s.flash := rfl
@[simp] theorem State.setUart_bus : (s.setUart d n u).bus = s.bus := rfl
@[simp] theorem State.setUart_pins : (s.setUart d n u).pins = s.pins := rfl
@[simp] theorem State.setUart_clk : (s.setUart d n u).clk = s.clk := rfl
@[simp] theorem State.setUart_boot : (s.setUart d n u).boot = s.boot := rfl
@[simp] theorem State.setUart_mail : (s.setUart d n u).mail = s.mail := rfl
@[simp] theorem State.setUart_fw : (s.setUart d n u).fw = s.fw := rfl
@[simp] theorem State.setUart_memy : (s.setUart d n u).memy = s.memy := rfl
@[simp] theorem State.setUart_irq : (s.setUart d n u).irq = s.irq := rfl
@[simp] theorem State.setUart_tithe : (s.setUart d n u).tithe = s.tithe := rfl
@[simp] theorem State.setUart_out : (s.setUart d n u).out = s.out := rfl
@[simp] theorem State.setUart_time : (s.setUart d n u).time = s.time := rfl
@[simp] theorem State.setUart_q : (s.setUart d n u).q = s.q := rfl
@[simp] theorem State.setUart_fn : (s.setUart d n u).fn = s.fn := rfl
@[simp] theorem State.setUart_safe : (s.setUart d n u).safe = s.safe := rfl
@[simp] theorem State.setUart_sec : (s.setUart d n u).sec = s.sec := rfl
@[simp] theorem State.setUart_mirror : (s.setUart d n u).mirror = s.mirror := rfl
@[simp] theorem State.setUart_pairs : (s.setUart d n u).pairs = s.pairs := rfl
@[simp] theorem State.setUart_heads : (s.setUart d n u).heads = s.heads := rfl
@[simp] theorem State.setUart_frameFlags : (s.setUart d n u).frameFlags = s.frameFlags := rfl
@[simp] theorem State.setUart_streams : (s.setUart d n u).streams = s.streams := rfl
@[simp] theorem State.setUart_odo : (s.setUart d n u).odo = s.odo := rfl
@[simp] theorem State.setUart_tachPulses : (s.setUart d n u).tachPulses = s.tachPulses := rfl
@[simp] theorem State.setUart_tachSeen : (s.setUart d n u).tachSeen = s.tachSeen := rfl
@[simp] theorem State.setUart_eth : (s.setUart d n u).eth = s.eth := rfl
@[simp] theorem State.setUart_power : (s.setUart d n u).power = s.power := rfl
@[simp] theorem State.setUart_fld (d' : Nat) (f' : Fld) (i' : Nat) : (s.setUart d n u).fld d' f' i' = s.fld d' f' i' := rfl
@[simp] theorem State.setUart_byte (a' : Nat) : (s.setUart d n u).byte a' = s.byte a' := rfl
end

/-! `setMvb` changes `ports` only. -/

section
variable (s : State) (d : Nat) (v : MvbState)
@[simp] theorem State.setMvb_part : (s.setMvb d v).part = s.part := rfl
@[simp] theorem State.setMvb_pending : (s.setMvb d v).pending = s.pending := rfl
@[simp] theorem State.setMvb_free : (s.setMvb d v).free = s.free := rfl
@[simp] theorem State.setMvb_access : (s.setMvb d v).access = s.access := rfl
@[simp] theorem State.setMvb_regs : (s.setMvb d v).regs = s.regs := rfl
@[simp] theorem State.setMvb_mem : (s.setMvb d v).mem = s.mem := rfl
@[simp] theorem State.setMvb_flash : (s.setMvb d v).flash = s.flash := rfl
@[simp] theorem State.setMvb_bus : (s.setMvb d v).bus = s.bus := rfl
@[simp] theorem State.setMvb_pins : (s.setMvb d v).pins = s.pins := rfl
@[simp] theorem State.setMvb_clk : (s.setMvb d v).clk = s.clk := rfl
@[simp] theorem State.setMvb_boot : (s.setMvb d v).boot = s.boot := rfl
@[simp] theorem State.setMvb_mail : (s.setMvb d v).mail = s.mail := rfl
@[simp] theorem State.setMvb_fw : (s.setMvb d v).fw = s.fw := rfl
@[simp] theorem State.setMvb_memy : (s.setMvb d v).memy = s.memy := rfl
@[simp] theorem State.setMvb_irq : (s.setMvb d v).irq = s.irq := rfl
@[simp] theorem State.setMvb_tithe : (s.setMvb d v).tithe = s.tithe := rfl
@[simp] theorem State.setMvb_out : (s.setMvb d v).out = s.out := rfl
@[simp] theorem State.setMvb_time : (s.setMvb d v).time = s.time := rfl
@[simp] theorem State.setMvb_q : (s.setMvb d v).q = s.q := rfl
@[simp] theorem State.setMvb_fn : (s.setMvb d v).fn = s.fn := rfl
@[simp] theorem State.setMvb_safe : (s.setMvb d v).safe = s.safe := rfl
@[simp] theorem State.setMvb_sec : (s.setMvb d v).sec = s.sec := rfl
@[simp] theorem State.setMvb_mirror : (s.setMvb d v).mirror = s.mirror := rfl
@[simp] theorem State.setMvb_pairs : (s.setMvb d v).pairs = s.pairs := rfl
@[simp] theorem State.setMvb_heads : (s.setMvb d v).heads = s.heads := rfl
@[simp] theorem State.setMvb_frameFlags : (s.setMvb d v).frameFlags = s.frameFlags := rfl
@[simp] theorem State.setMvb_streams : (s.setMvb d v).streams = s.streams := rfl
@[simp] theorem State.setMvb_odo : (s.setMvb d v).odo = s.odo := rfl
@[simp] theorem State.setMvb_tachPulses : (s.setMvb d v).tachPulses = s.tachPulses := rfl
@[simp] theorem State.setMvb_tachSeen : (s.setMvb d v).tachSeen = s.tachSeen := rfl
@[simp] theorem State.setMvb_eth : (s.setMvb d v).eth = s.eth := rfl
@[simp] theorem State.setMvb_power : (s.setMvb d v).power = s.power := rfl
@[simp] theorem State.setMvb_fld (d' : Nat) (f' : Fld) (i' : Nat) : (s.setMvb d v).fld d' f' i' = s.fld d' f' i' := rfl
@[simp] theorem State.setMvb_byte (a' : Nat) : (s.setMvb d v).byte a' = s.byte a' := rfl
end

/-! `setPcieSt` changes `ports` only. -/

section
variable (s : State) (c : Nat) (p : PcieState)
@[simp] theorem State.setPcieSt_part : (s.setPcieSt c p).part = s.part := rfl
@[simp] theorem State.setPcieSt_pending : (s.setPcieSt c p).pending = s.pending := rfl
@[simp] theorem State.setPcieSt_free : (s.setPcieSt c p).free = s.free := rfl
@[simp] theorem State.setPcieSt_access : (s.setPcieSt c p).access = s.access := rfl
@[simp] theorem State.setPcieSt_regs : (s.setPcieSt c p).regs = s.regs := rfl
@[simp] theorem State.setPcieSt_mem : (s.setPcieSt c p).mem = s.mem := rfl
@[simp] theorem State.setPcieSt_flash : (s.setPcieSt c p).flash = s.flash := rfl
@[simp] theorem State.setPcieSt_bus : (s.setPcieSt c p).bus = s.bus := rfl
@[simp] theorem State.setPcieSt_pins : (s.setPcieSt c p).pins = s.pins := rfl
@[simp] theorem State.setPcieSt_clk : (s.setPcieSt c p).clk = s.clk := rfl
@[simp] theorem State.setPcieSt_boot : (s.setPcieSt c p).boot = s.boot := rfl
@[simp] theorem State.setPcieSt_mail : (s.setPcieSt c p).mail = s.mail := rfl
@[simp] theorem State.setPcieSt_fw : (s.setPcieSt c p).fw = s.fw := rfl
@[simp] theorem State.setPcieSt_memy : (s.setPcieSt c p).memy = s.memy := rfl
@[simp] theorem State.setPcieSt_irq : (s.setPcieSt c p).irq = s.irq := rfl
@[simp] theorem State.setPcieSt_tithe : (s.setPcieSt c p).tithe = s.tithe := rfl
@[simp] theorem State.setPcieSt_out : (s.setPcieSt c p).out = s.out := rfl
@[simp] theorem State.setPcieSt_time : (s.setPcieSt c p).time = s.time := rfl
@[simp] theorem State.setPcieSt_q : (s.setPcieSt c p).q = s.q := rfl
@[simp] theorem State.setPcieSt_fn : (s.setPcieSt c p).fn = s.fn := rfl
@[simp] theorem State.setPcieSt_safe : (s.setPcieSt c p).safe = s.safe := rfl
@[simp] theorem State.setPcieSt_sec : (s.setPcieSt c p).sec = s.sec := rfl
@[simp] theorem State.setPcieSt_mirror : (s.setPcieSt c p).mirror = s.mirror := rfl
@[simp] theorem State.setPcieSt_pairs : (s.setPcieSt c p).pairs = s.pairs := rfl
@[simp] theorem State.setPcieSt_heads : (s.setPcieSt c p).heads = s.heads := rfl
@[simp] theorem State.setPcieSt_frameFlags : (s.setPcieSt c p).frameFlags = s.frameFlags := rfl
@[simp] theorem State.setPcieSt_streams : (s.setPcieSt c p).streams = s.streams := rfl
@[simp] theorem State.setPcieSt_odo : (s.setPcieSt c p).odo = s.odo := rfl
@[simp] theorem State.setPcieSt_tachPulses : (s.setPcieSt c p).tachPulses = s.tachPulses := rfl
@[simp] theorem State.setPcieSt_tachSeen : (s.setPcieSt c p).tachSeen = s.tachSeen := rfl
@[simp] theorem State.setPcieSt_eth : (s.setPcieSt c p).eth = s.eth := rfl
@[simp] theorem State.setPcieSt_power : (s.setPcieSt c p).power = s.power := rfl
@[simp] theorem State.setPcieSt_fld (d' : Nat) (f' : Fld) (i' : Nat) : (s.setPcieSt c p).fld d' f' i' = s.fld d' f' i' := rfl
@[simp] theorem State.setPcieSt_byte (a' : Nat) : (s.setPcieSt c p).byte a' = s.byte a' := rfl
end

/-! `setBuf` changes `memy` only. -/

section
variable (s : State) (d k i : Nat) (e : BufEnt)
@[simp] theorem State.setBuf_part : (s.setBuf d k i e).part = s.part := rfl
@[simp] theorem State.setBuf_pending : (s.setBuf d k i e).pending = s.pending := rfl
@[simp] theorem State.setBuf_free : (s.setBuf d k i e).free = s.free := rfl
@[simp] theorem State.setBuf_access : (s.setBuf d k i e).access = s.access := rfl
@[simp] theorem State.setBuf_regs : (s.setBuf d k i e).regs = s.regs := rfl
@[simp] theorem State.setBuf_mem : (s.setBuf d k i e).mem = s.mem := rfl
@[simp] theorem State.setBuf_flash : (s.setBuf d k i e).flash = s.flash := rfl
@[simp] theorem State.setBuf_bus : (s.setBuf d k i e).bus = s.bus := rfl
@[simp] theorem State.setBuf_pins : (s.setBuf d k i e).pins = s.pins := rfl
@[simp] theorem State.setBuf_clk : (s.setBuf d k i e).clk = s.clk := rfl
@[simp] theorem State.setBuf_boot : (s.setBuf d k i e).boot = s.boot := rfl
@[simp] theorem State.setBuf_mail : (s.setBuf d k i e).mail = s.mail := rfl
@[simp] theorem State.setBuf_fw : (s.setBuf d k i e).fw = s.fw := rfl
@[simp] theorem State.setBuf_irq : (s.setBuf d k i e).irq = s.irq := rfl
@[simp] theorem State.setBuf_tithe : (s.setBuf d k i e).tithe = s.tithe := rfl
@[simp] theorem State.setBuf_out : (s.setBuf d k i e).out = s.out := rfl
@[simp] theorem State.setBuf_time : (s.setBuf d k i e).time = s.time := rfl
@[simp] theorem State.setBuf_q : (s.setBuf d k i e).q = s.q := rfl
@[simp] theorem State.setBuf_fn : (s.setBuf d k i e).fn = s.fn := rfl
@[simp] theorem State.setBuf_safe : (s.setBuf d k i e).safe = s.safe := rfl
@[simp] theorem State.setBuf_sec : (s.setBuf d k i e).sec = s.sec := rfl
@[simp] theorem State.setBuf_mirror : (s.setBuf d k i e).mirror = s.mirror := rfl
@[simp] theorem State.setBuf_pairs : (s.setBuf d k i e).pairs = s.pairs := rfl
@[simp] theorem State.setBuf_heads : (s.setBuf d k i e).heads = s.heads := rfl
@[simp] theorem State.setBuf_frameFlags : (s.setBuf d k i e).frameFlags = s.frameFlags := rfl
@[simp] theorem State.setBuf_streams : (s.setBuf d k i e).streams = s.streams := rfl
@[simp] theorem State.setBuf_odo : (s.setBuf d k i e).odo = s.odo := rfl
@[simp] theorem State.setBuf_tachPulses : (s.setBuf d k i e).tachPulses = s.tachPulses := rfl
@[simp] theorem State.setBuf_tachSeen : (s.setBuf d k i e).tachSeen = s.tachSeen := rfl
@[simp] theorem State.setBuf_eth : (s.setBuf d k i e).eth = s.eth := rfl
@[simp] theorem State.setBuf_ports : (s.setBuf d k i e).ports = s.ports := rfl
@[simp] theorem State.setBuf_power : (s.setBuf d k i e).power = s.power := rfl
@[simp] theorem State.setBuf_fld (d' : Nat) (f' : Fld) (i' : Nat) : (s.setBuf d k i e).fld d' f' i' = s.fld d' f' i' := rfl
@[simp] theorem State.setBuf_byte (a' : Nat) : (s.setBuf d k i e).byte a' = s.byte a' := rfl
end

/-! `setOdo` changes `odo` only. -/

section
variable (s : State) (n : Nat) (o : OdoState)
@[simp] theorem State.setOdo_part : (s.setOdo n o).part = s.part := rfl
@[simp] theorem State.setOdo_pending : (s.setOdo n o).pending = s.pending := rfl
@[simp] theorem State.setOdo_free : (s.setOdo n o).free = s.free := rfl
@[simp] theorem State.setOdo_access : (s.setOdo n o).access = s.access := rfl
@[simp] theorem State.setOdo_regs : (s.setOdo n o).regs = s.regs := rfl
@[simp] theorem State.setOdo_mem : (s.setOdo n o).mem = s.mem := rfl
@[simp] theorem State.setOdo_flash : (s.setOdo n o).flash = s.flash := rfl
@[simp] theorem State.setOdo_bus : (s.setOdo n o).bus = s.bus := rfl
@[simp] theorem State.setOdo_pins : (s.setOdo n o).pins = s.pins := rfl
@[simp] theorem State.setOdo_clk : (s.setOdo n o).clk = s.clk := rfl
@[simp] theorem State.setOdo_boot : (s.setOdo n o).boot = s.boot := rfl
@[simp] theorem State.setOdo_mail : (s.setOdo n o).mail = s.mail := rfl
@[simp] theorem State.setOdo_fw : (s.setOdo n o).fw = s.fw := rfl
@[simp] theorem State.setOdo_memy : (s.setOdo n o).memy = s.memy := rfl
@[simp] theorem State.setOdo_irq : (s.setOdo n o).irq = s.irq := rfl
@[simp] theorem State.setOdo_tithe : (s.setOdo n o).tithe = s.tithe := rfl
@[simp] theorem State.setOdo_out : (s.setOdo n o).out = s.out := rfl
@[simp] theorem State.setOdo_time : (s.setOdo n o).time = s.time := rfl
@[simp] theorem State.setOdo_q : (s.setOdo n o).q = s.q := rfl
@[simp] theorem State.setOdo_fn : (s.setOdo n o).fn = s.fn := rfl
@[simp] theorem State.setOdo_safe : (s.setOdo n o).safe = s.safe := rfl
@[simp] theorem State.setOdo_sec : (s.setOdo n o).sec = s.sec := rfl
@[simp] theorem State.setOdo_mirror : (s.setOdo n o).mirror = s.mirror := rfl
@[simp] theorem State.setOdo_pairs : (s.setOdo n o).pairs = s.pairs := rfl
@[simp] theorem State.setOdo_heads : (s.setOdo n o).heads = s.heads := rfl
@[simp] theorem State.setOdo_frameFlags : (s.setOdo n o).frameFlags = s.frameFlags := rfl
@[simp] theorem State.setOdo_streams : (s.setOdo n o).streams = s.streams := rfl
@[simp] theorem State.setOdo_tachPulses : (s.setOdo n o).tachPulses = s.tachPulses := rfl
@[simp] theorem State.setOdo_tachSeen : (s.setOdo n o).tachSeen = s.tachSeen := rfl
@[simp] theorem State.setOdo_eth : (s.setOdo n o).eth = s.eth := rfl
@[simp] theorem State.setOdo_ports : (s.setOdo n o).ports = s.ports := rfl
@[simp] theorem State.setOdo_power : (s.setOdo n o).power = s.power := rfl
@[simp] theorem State.setOdo_fld (d' : Nat) (f' : Fld) (i' : Nat) : (s.setOdo n o).fld d' f' i' = s.fld d' f' i' := rfl
@[simp] theorem State.setOdo_byte (a' : Nat) : (s.setOdo n o).byte a' = s.byte a' := rfl
end

/-! `setPad` changes `pins` only. -/

section
variable (s : State) (d p : Nat) (level : Bool)
@[simp] theorem State.setPad_part : (s.setPad d p level).part = s.part := rfl
@[simp] theorem State.setPad_pending : (s.setPad d p level).pending = s.pending := rfl
@[simp] theorem State.setPad_free : (s.setPad d p level).free = s.free := rfl
@[simp] theorem State.setPad_access : (s.setPad d p level).access = s.access := rfl
@[simp] theorem State.setPad_regs : (s.setPad d p level).regs = s.regs := rfl
@[simp] theorem State.setPad_mem : (s.setPad d p level).mem = s.mem := rfl
@[simp] theorem State.setPad_flash : (s.setPad d p level).flash = s.flash := rfl
@[simp] theorem State.setPad_bus : (s.setPad d p level).bus = s.bus := rfl
@[simp] theorem State.setPad_clk : (s.setPad d p level).clk = s.clk := rfl
@[simp] theorem State.setPad_boot : (s.setPad d p level).boot = s.boot := rfl
@[simp] theorem State.setPad_mail : (s.setPad d p level).mail = s.mail := rfl
@[simp] theorem State.setPad_fw : (s.setPad d p level).fw = s.fw := rfl
@[simp] theorem State.setPad_memy : (s.setPad d p level).memy = s.memy := rfl
@[simp] theorem State.setPad_irq : (s.setPad d p level).irq = s.irq := rfl
@[simp] theorem State.setPad_tithe : (s.setPad d p level).tithe = s.tithe := rfl
@[simp] theorem State.setPad_out : (s.setPad d p level).out = s.out := rfl
@[simp] theorem State.setPad_time : (s.setPad d p level).time = s.time := rfl
@[simp] theorem State.setPad_q : (s.setPad d p level).q = s.q := rfl
@[simp] theorem State.setPad_fn : (s.setPad d p level).fn = s.fn := rfl
@[simp] theorem State.setPad_safe : (s.setPad d p level).safe = s.safe := rfl
@[simp] theorem State.setPad_sec : (s.setPad d p level).sec = s.sec := rfl
@[simp] theorem State.setPad_mirror : (s.setPad d p level).mirror = s.mirror := rfl
@[simp] theorem State.setPad_pairs : (s.setPad d p level).pairs = s.pairs := rfl
@[simp] theorem State.setPad_heads : (s.setPad d p level).heads = s.heads := rfl
@[simp] theorem State.setPad_frameFlags : (s.setPad d p level).frameFlags = s.frameFlags := rfl
@[simp] theorem State.setPad_streams : (s.setPad d p level).streams = s.streams := rfl
@[simp] theorem State.setPad_odo : (s.setPad d p level).odo = s.odo := rfl
@[simp] theorem State.setPad_tachPulses : (s.setPad d p level).tachPulses = s.tachPulses := rfl
@[simp] theorem State.setPad_tachSeen : (s.setPad d p level).tachSeen = s.tachSeen := rfl
@[simp] theorem State.setPad_eth : (s.setPad d p level).eth = s.eth := rfl
@[simp] theorem State.setPad_ports : (s.setPad d p level).ports = s.ports := rfl
@[simp] theorem State.setPad_power : (s.setPad d p level).power = s.power := rfl
@[simp] theorem State.setPad_fld (d' : Nat) (f' : Fld) (i' : Nat) : (s.setPad d p level).fld d' f' i' = s.fld d' f' i' := rfl
@[simp] theorem State.setPad_byte (a' : Nat) : (s.setPad d p level).byte a' = s.byte a' := rfl
end

/-! `putByte` changes `mem` only. -/

section
variable (s : State) (a : Nat) (v : Byte)
@[simp] theorem State.putByte_part : (s.putByte a v).part = s.part := rfl
@[simp] theorem State.putByte_pending : (s.putByte a v).pending = s.pending := rfl
@[simp] theorem State.putByte_free : (s.putByte a v).free = s.free := rfl
@[simp] theorem State.putByte_access : (s.putByte a v).access = s.access := rfl
@[simp] theorem State.putByte_regs : (s.putByte a v).regs = s.regs := rfl
@[simp] theorem State.putByte_flash : (s.putByte a v).flash = s.flash := rfl
@[simp] theorem State.putByte_bus : (s.putByte a v).bus = s.bus := rfl
@[simp] theorem State.putByte_pins : (s.putByte a v).pins = s.pins := rfl
@[simp] theorem State.putByte_clk : (s.putByte a v).clk = s.clk := rfl
@[simp] theorem State.putByte_boot : (s.putByte a v).boot = s.boot := rfl
@[simp] theorem State.putByte_mail : (s.putByte a v).mail = s.mail := rfl
@[simp] theorem State.putByte_fw : (s.putByte a v).fw = s.fw := rfl
@[simp] theorem State.putByte_memy : (s.putByte a v).memy = s.memy := rfl
@[simp] theorem State.putByte_irq : (s.putByte a v).irq = s.irq := rfl
@[simp] theorem State.putByte_tithe : (s.putByte a v).tithe = s.tithe := rfl
@[simp] theorem State.putByte_out : (s.putByte a v).out = s.out := rfl
@[simp] theorem State.putByte_time : (s.putByte a v).time = s.time := rfl
@[simp] theorem State.putByte_q : (s.putByte a v).q = s.q := rfl
@[simp] theorem State.putByte_fn : (s.putByte a v).fn = s.fn := rfl
@[simp] theorem State.putByte_safe : (s.putByte a v).safe = s.safe := rfl
@[simp] theorem State.putByte_sec : (s.putByte a v).sec = s.sec := rfl
@[simp] theorem State.putByte_mirror : (s.putByte a v).mirror = s.mirror := rfl
@[simp] theorem State.putByte_pairs : (s.putByte a v).pairs = s.pairs := rfl
@[simp] theorem State.putByte_heads : (s.putByte a v).heads = s.heads := rfl
@[simp] theorem State.putByte_frameFlags : (s.putByte a v).frameFlags = s.frameFlags := rfl
@[simp] theorem State.putByte_streams : (s.putByte a v).streams = s.streams := rfl
@[simp] theorem State.putByte_odo : (s.putByte a v).odo = s.odo := rfl
@[simp] theorem State.putByte_tachPulses : (s.putByte a v).tachPulses = s.tachPulses := rfl
@[simp] theorem State.putByte_tachSeen : (s.putByte a v).tachSeen = s.tachSeen := rfl
@[simp] theorem State.putByte_eth : (s.putByte a v).eth = s.eth := rfl
@[simp] theorem State.putByte_ports : (s.putByte a v).ports = s.ports := rfl
@[simp] theorem State.putByte_power : (s.putByte a v).power = s.power := rfl
@[simp] theorem State.putByte_fld (d' : Nat) (f' : Fld) (i' : Nat) : (s.putByte a v).fld d' f' i' = s.fld d' f' i' := rfl
end

/-! `send` changes `out` only. -/

section
variable (s : State) (x : Sent)
@[simp] theorem State.send_part : (s.send x).part = s.part := rfl
@[simp] theorem State.send_pending : (s.send x).pending = s.pending := rfl
@[simp] theorem State.send_free : (s.send x).free = s.free := rfl
@[simp] theorem State.send_access : (s.send x).access = s.access := rfl
@[simp] theorem State.send_regs : (s.send x).regs = s.regs := rfl
@[simp] theorem State.send_mem : (s.send x).mem = s.mem := rfl
@[simp] theorem State.send_flash : (s.send x).flash = s.flash := rfl
@[simp] theorem State.send_bus : (s.send x).bus = s.bus := rfl
@[simp] theorem State.send_pins : (s.send x).pins = s.pins := rfl
@[simp] theorem State.send_clk : (s.send x).clk = s.clk := rfl
@[simp] theorem State.send_boot : (s.send x).boot = s.boot := rfl
@[simp] theorem State.send_mail : (s.send x).mail = s.mail := rfl
@[simp] theorem State.send_fw : (s.send x).fw = s.fw := rfl
@[simp] theorem State.send_memy : (s.send x).memy = s.memy := rfl
@[simp] theorem State.send_irq : (s.send x).irq = s.irq := rfl
@[simp] theorem State.send_tithe : (s.send x).tithe = s.tithe := rfl
@[simp] theorem State.send_time : (s.send x).time = s.time := rfl
@[simp] theorem State.send_q : (s.send x).q = s.q := rfl
@[simp] theorem State.send_fn : (s.send x).fn = s.fn := rfl
@[simp] theorem State.send_safe : (s.send x).safe = s.safe := rfl
@[simp] theorem State.send_sec : (s.send x).sec = s.sec := rfl
@[simp] theorem State.send_mirror : (s.send x).mirror = s.mirror := rfl
@[simp] theorem State.send_pairs : (s.send x).pairs = s.pairs := rfl
@[simp] theorem State.send_heads : (s.send x).heads = s.heads := rfl
@[simp] theorem State.send_frameFlags : (s.send x).frameFlags = s.frameFlags := rfl
@[simp] theorem State.send_streams : (s.send x).streams = s.streams := rfl
@[simp] theorem State.send_odo : (s.send x).odo = s.odo := rfl
@[simp] theorem State.send_tachPulses : (s.send x).tachPulses = s.tachPulses := rfl
@[simp] theorem State.send_tachSeen : (s.send x).tachSeen = s.tachSeen := rfl
@[simp] theorem State.send_eth : (s.send x).eth = s.eth := rfl
@[simp] theorem State.send_ports : (s.send x).ports = s.ports := rfl
@[simp] theorem State.send_power : (s.send x).power = s.power := rfl
@[simp] theorem State.send_fld (d' : Nat) (f' : Fld) (i' : Nat) : (s.send x).fld d' f' i' = s.fld d' f' i' := rfl
@[simp] theorem State.send_byte (a' : Nat) : (s.send x).byte a' = s.byte a' := rfl
end

/-! `useFree` changes `free` only. -/

section
variable (s : State)
@[simp] theorem State.useFree_part : (s.useFree).part = s.part := rfl
@[simp] theorem State.useFree_pending : (s.useFree).pending = s.pending := rfl
@[simp] theorem State.useFree_access : (s.useFree).access = s.access := rfl
@[simp] theorem State.useFree_regs : (s.useFree).regs = s.regs := rfl
@[simp] theorem State.useFree_mem : (s.useFree).mem = s.mem := rfl
@[simp] theorem State.useFree_flash : (s.useFree).flash = s.flash := rfl
@[simp] theorem State.useFree_bus : (s.useFree).bus = s.bus := rfl
@[simp] theorem State.useFree_pins : (s.useFree).pins = s.pins := rfl
@[simp] theorem State.useFree_clk : (s.useFree).clk = s.clk := rfl
@[simp] theorem State.useFree_boot : (s.useFree).boot = s.boot := rfl
@[simp] theorem State.useFree_mail : (s.useFree).mail = s.mail := rfl
@[simp] theorem State.useFree_fw : (s.useFree).fw = s.fw := rfl
@[simp] theorem State.useFree_memy : (s.useFree).memy = s.memy := rfl
@[simp] theorem State.useFree_irq : (s.useFree).irq = s.irq := rfl
@[simp] theorem State.useFree_tithe : (s.useFree).tithe = s.tithe := rfl
@[simp] theorem State.useFree_out : (s.useFree).out = s.out := rfl
@[simp] theorem State.useFree_time : (s.useFree).time = s.time := rfl
@[simp] theorem State.useFree_q : (s.useFree).q = s.q := rfl
@[simp] theorem State.useFree_fn : (s.useFree).fn = s.fn := rfl
@[simp] theorem State.useFree_safe : (s.useFree).safe = s.safe := rfl
@[simp] theorem State.useFree_sec : (s.useFree).sec = s.sec := rfl
@[simp] theorem State.useFree_mirror : (s.useFree).mirror = s.mirror := rfl
@[simp] theorem State.useFree_pairs : (s.useFree).pairs = s.pairs := rfl
@[simp] theorem State.useFree_heads : (s.useFree).heads = s.heads := rfl
@[simp] theorem State.useFree_frameFlags : (s.useFree).frameFlags = s.frameFlags := rfl
@[simp] theorem State.useFree_streams : (s.useFree).streams = s.streams := rfl
@[simp] theorem State.useFree_odo : (s.useFree).odo = s.odo := rfl
@[simp] theorem State.useFree_tachPulses : (s.useFree).tachPulses = s.tachPulses := rfl
@[simp] theorem State.useFree_tachSeen : (s.useFree).tachSeen = s.tachSeen := rfl
@[simp] theorem State.useFree_eth : (s.useFree).eth = s.eth := rfl
@[simp] theorem State.useFree_ports : (s.useFree).ports = s.ports := rfl
@[simp] theorem State.useFree_power : (s.useFree).power = s.power := rfl
@[simp] theorem State.useFree_fld (d' : Nat) (f' : Fld) (i' : Nat) : (s.useFree).fld d' f' i' = s.fld d' f' i' := rfl
@[simp] theorem State.useFree_byte (a' : Nat) : (s.useFree).byte a' = s.byte a' := rfl
end

/-! `setPw` changes `power` only. -/

section
variable (s : State) (d : Nat) (p : PowerDie)
@[simp] theorem State.setPw_part : (s.setPw d p).part = s.part := rfl
@[simp] theorem State.setPw_pending : (s.setPw d p).pending = s.pending := rfl
@[simp] theorem State.setPw_free : (s.setPw d p).free = s.free := rfl
@[simp] theorem State.setPw_access : (s.setPw d p).access = s.access := rfl
@[simp] theorem State.setPw_regs : (s.setPw d p).regs = s.regs := rfl
@[simp] theorem State.setPw_mem : (s.setPw d p).mem = s.mem := rfl
@[simp] theorem State.setPw_flash : (s.setPw d p).flash = s.flash := rfl
@[simp] theorem State.setPw_bus : (s.setPw d p).bus = s.bus := rfl
@[simp] theorem State.setPw_pins : (s.setPw d p).pins = s.pins := rfl
@[simp] theorem State.setPw_clk : (s.setPw d p).clk = s.clk := rfl
@[simp] theorem State.setPw_boot : (s.setPw d p).boot = s.boot := rfl
@[simp] theorem State.setPw_mail : (s.setPw d p).mail = s.mail := rfl
@[simp] theorem State.setPw_fw : (s.setPw d p).fw = s.fw := rfl
@[simp] theorem State.setPw_memy : (s.setPw d p).memy = s.memy := rfl
@[simp] theorem State.setPw_irq : (s.setPw d p).irq = s.irq := rfl
@[simp] theorem State.setPw_tithe : (s.setPw d p).tithe = s.tithe := rfl
@[simp] theorem State.setPw_out : (s.setPw d p).out = s.out := rfl
@[simp] theorem State.setPw_time : (s.setPw d p).time = s.time := rfl
@[simp] theorem State.setPw_q : (s.setPw d p).q = s.q := rfl
@[simp] theorem State.setPw_fn : (s.setPw d p).fn = s.fn := rfl
@[simp] theorem State.setPw_safe : (s.setPw d p).safe = s.safe := rfl
@[simp] theorem State.setPw_sec : (s.setPw d p).sec = s.sec := rfl
@[simp] theorem State.setPw_mirror : (s.setPw d p).mirror = s.mirror := rfl
@[simp] theorem State.setPw_pairs : (s.setPw d p).pairs = s.pairs := rfl
@[simp] theorem State.setPw_heads : (s.setPw d p).heads = s.heads := rfl
@[simp] theorem State.setPw_frameFlags : (s.setPw d p).frameFlags = s.frameFlags := rfl
@[simp] theorem State.setPw_streams : (s.setPw d p).streams = s.streams := rfl
@[simp] theorem State.setPw_odo : (s.setPw d p).odo = s.odo := rfl
@[simp] theorem State.setPw_tachPulses : (s.setPw d p).tachPulses = s.tachPulses := rfl
@[simp] theorem State.setPw_tachSeen : (s.setPw d p).tachSeen = s.tachSeen := rfl
@[simp] theorem State.setPw_eth : (s.setPw d p).eth = s.eth := rfl
@[simp] theorem State.setPw_ports : (s.setPw d p).ports = s.ports := rfl
@[simp] theorem State.setPw_fld (d' : Nat) (f' : Fld) (i' : Nat) : (s.setPw d p).fld d' f' i' = s.fld d' f' i' := rfl
@[simp] theorem State.setPw_byte (a' : Nat) : (s.setPw d p).byte a' = s.byte a' := rfl
end

/-! `setSilo` changes `q` only. -/

section
variable (s : State) (d k : Nat) (x : SiloState)
@[simp] theorem State.setSilo_part : (s.setSilo d k x).part = s.part := rfl
@[simp] theorem State.setSilo_pending : (s.setSilo d k x).pending = s.pending := rfl
@[simp] theorem State.setSilo_free : (s.setSilo d k x).free = s.free := rfl
@[simp] theorem State.setSilo_access : (s.setSilo d k x).access = s.access := rfl
@[simp] theorem State.setSilo_regs : (s.setSilo d k x).regs = s.regs := rfl
@[simp] theorem State.setSilo_mem : (s.setSilo d k x).mem = s.mem := rfl
@[simp] theorem State.setSilo_flash : (s.setSilo d k x).flash = s.flash := rfl
@[simp] theorem State.setSilo_bus : (s.setSilo d k x).bus = s.bus := rfl
@[simp] theorem State.setSilo_pins : (s.setSilo d k x).pins = s.pins := rfl
@[simp] theorem State.setSilo_clk : (s.setSilo d k x).clk = s.clk := rfl
@[simp] theorem State.setSilo_boot : (s.setSilo d k x).boot = s.boot := rfl
@[simp] theorem State.setSilo_mail : (s.setSilo d k x).mail = s.mail := rfl
@[simp] theorem State.setSilo_fw : (s.setSilo d k x).fw = s.fw := rfl
@[simp] theorem State.setSilo_memy : (s.setSilo d k x).memy = s.memy := rfl
@[simp] theorem State.setSilo_irq : (s.setSilo d k x).irq = s.irq := rfl
@[simp] theorem State.setSilo_tithe : (s.setSilo d k x).tithe = s.tithe := rfl
@[simp] theorem State.setSilo_out : (s.setSilo d k x).out = s.out := rfl
@[simp] theorem State.setSilo_time : (s.setSilo d k x).time = s.time := rfl
@[simp] theorem State.setSilo_fn : (s.setSilo d k x).fn = s.fn := rfl
@[simp] theorem State.setSilo_safe : (s.setSilo d k x).safe = s.safe := rfl
@[simp] theorem State.setSilo_sec : (s.setSilo d k x).sec = s.sec := rfl
@[simp] theorem State.setSilo_mirror : (s.setSilo d k x).mirror = s.mirror := rfl
@[simp] theorem State.setSilo_pairs : (s.setSilo d k x).pairs = s.pairs := rfl
@[simp] theorem State.setSilo_heads : (s.setSilo d k x).heads = s.heads := rfl
@[simp] theorem State.setSilo_frameFlags : (s.setSilo d k x).frameFlags = s.frameFlags := rfl
@[simp] theorem State.setSilo_streams : (s.setSilo d k x).streams = s.streams := rfl
@[simp] theorem State.setSilo_odo : (s.setSilo d k x).odo = s.odo := rfl
@[simp] theorem State.setSilo_tachPulses : (s.setSilo d k x).tachPulses = s.tachPulses := rfl
@[simp] theorem State.setSilo_tachSeen : (s.setSilo d k x).tachSeen = s.tachSeen := rfl
@[simp] theorem State.setSilo_eth : (s.setSilo d k x).eth = s.eth := rfl
@[simp] theorem State.setSilo_ports : (s.setSilo d k x).ports = s.ports := rfl
@[simp] theorem State.setSilo_power : (s.setSilo d k x).power = s.power := rfl
@[simp] theorem State.setSilo_fld (d' : Nat) (f' : Fld) (i' : Nat) : (s.setSilo d k x).fld d' f' i' = s.fld d' f' i' := rfl
@[simp] theorem State.setSilo_byte (a' : Nat) : (s.setSilo d k x).byte a' = s.byte a' := rfl
end

/-! `setQueue` changes `q` only. -/

section
variable (s : State) (q : Nat) (x : Queue)
@[simp] theorem State.setQueue_part : (s.setQueue q x).part = s.part := rfl
@[simp] theorem State.setQueue_pending : (s.setQueue q x).pending = s.pending := rfl
@[simp] theorem State.setQueue_free : (s.setQueue q x).free = s.free := rfl
@[simp] theorem State.setQueue_access : (s.setQueue q x).access = s.access := rfl
@[simp] theorem State.setQueue_regs : (s.setQueue q x).regs = s.regs := rfl
@[simp] theorem State.setQueue_mem : (s.setQueue q x).mem = s.mem := rfl
@[simp] theorem State.setQueue_flash : (s.setQueue q x).flash = s.flash := rfl
@[simp] theorem State.setQueue_bus : (s.setQueue q x).bus = s.bus := rfl
@[simp] theorem State.setQueue_pins : (s.setQueue q x).pins = s.pins := rfl
@[simp] theorem State.setQueue_clk : (s.setQueue q x).clk = s.clk := rfl
@[simp] theorem State.setQueue_boot : (s.setQueue q x).boot = s.boot := rfl
@[simp] theorem State.setQueue_mail : (s.setQueue q x).mail = s.mail := rfl
@[simp] theorem State.setQueue_fw : (s.setQueue q x).fw = s.fw := rfl
@[simp] theorem State.setQueue_memy : (s.setQueue q x).memy = s.memy := rfl
@[simp] theorem State.setQueue_irq : (s.setQueue q x).irq = s.irq := rfl
@[simp] theorem State.setQueue_tithe : (s.setQueue q x).tithe = s.tithe := rfl
@[simp] theorem State.setQueue_out : (s.setQueue q x).out = s.out := rfl
@[simp] theorem State.setQueue_time : (s.setQueue q x).time = s.time := rfl
@[simp] theorem State.setQueue_fn : (s.setQueue q x).fn = s.fn := rfl
@[simp] theorem State.setQueue_safe : (s.setQueue q x).safe = s.safe := rfl
@[simp] theorem State.setQueue_sec : (s.setQueue q x).sec = s.sec := rfl
@[simp] theorem State.setQueue_mirror : (s.setQueue q x).mirror = s.mirror := rfl
@[simp] theorem State.setQueue_pairs : (s.setQueue q x).pairs = s.pairs := rfl
@[simp] theorem State.setQueue_heads : (s.setQueue q x).heads = s.heads := rfl
@[simp] theorem State.setQueue_frameFlags : (s.setQueue q x).frameFlags = s.frameFlags := rfl
@[simp] theorem State.setQueue_streams : (s.setQueue q x).streams = s.streams := rfl
@[simp] theorem State.setQueue_odo : (s.setQueue q x).odo = s.odo := rfl
@[simp] theorem State.setQueue_tachPulses : (s.setQueue q x).tachPulses = s.tachPulses := rfl
@[simp] theorem State.setQueue_tachSeen : (s.setQueue q x).tachSeen = s.tachSeen := rfl
@[simp] theorem State.setQueue_eth : (s.setQueue q x).eth = s.eth := rfl
@[simp] theorem State.setQueue_ports : (s.setQueue q x).ports = s.ports := rfl
@[simp] theorem State.setQueue_power : (s.setQueue q x).power = s.power := rfl
@[simp] theorem State.setQueue_fld (d' : Nat) (f' : Fld) (i' : Nat) : (s.setQueue q x).fld d' f' i' = s.fld d' f' i' := rfl
@[simp] theorem State.setQueue_byte (a' : Nat) : (s.setQueue q x).byte a' = s.byte a' := rfl
end

/-! `setPlaced` changes `q` only. -/

section
variable (s : State) (d : Nat) (r : SlotRef) (p : Placed)
@[simp] theorem State.setPlaced_part : (s.setPlaced d r p).part = s.part := rfl
@[simp] theorem State.setPlaced_pending : (s.setPlaced d r p).pending = s.pending := rfl
@[simp] theorem State.setPlaced_free : (s.setPlaced d r p).free = s.free := rfl
@[simp] theorem State.setPlaced_access : (s.setPlaced d r p).access = s.access := rfl
@[simp] theorem State.setPlaced_regs : (s.setPlaced d r p).regs = s.regs := rfl
@[simp] theorem State.setPlaced_mem : (s.setPlaced d r p).mem = s.mem := rfl
@[simp] theorem State.setPlaced_flash : (s.setPlaced d r p).flash = s.flash := rfl
@[simp] theorem State.setPlaced_bus : (s.setPlaced d r p).bus = s.bus := rfl
@[simp] theorem State.setPlaced_pins : (s.setPlaced d r p).pins = s.pins := rfl
@[simp] theorem State.setPlaced_clk : (s.setPlaced d r p).clk = s.clk := rfl
@[simp] theorem State.setPlaced_boot : (s.setPlaced d r p).boot = s.boot := rfl
@[simp] theorem State.setPlaced_mail : (s.setPlaced d r p).mail = s.mail := rfl
@[simp] theorem State.setPlaced_fw : (s.setPlaced d r p).fw = s.fw := rfl
@[simp] theorem State.setPlaced_memy : (s.setPlaced d r p).memy = s.memy := rfl
@[simp] theorem State.setPlaced_irq : (s.setPlaced d r p).irq = s.irq := rfl
@[simp] theorem State.setPlaced_tithe : (s.setPlaced d r p).tithe = s.tithe := rfl
@[simp] theorem State.setPlaced_out : (s.setPlaced d r p).out = s.out := rfl
@[simp] theorem State.setPlaced_time : (s.setPlaced d r p).time = s.time := rfl
@[simp] theorem State.setPlaced_fn : (s.setPlaced d r p).fn = s.fn := rfl
@[simp] theorem State.setPlaced_safe : (s.setPlaced d r p).safe = s.safe := rfl
@[simp] theorem State.setPlaced_sec : (s.setPlaced d r p).sec = s.sec := rfl
@[simp] theorem State.setPlaced_mirror : (s.setPlaced d r p).mirror = s.mirror := rfl
@[simp] theorem State.setPlaced_pairs : (s.setPlaced d r p).pairs = s.pairs := rfl
@[simp] theorem State.setPlaced_heads : (s.setPlaced d r p).heads = s.heads := rfl
@[simp] theorem State.setPlaced_frameFlags : (s.setPlaced d r p).frameFlags = s.frameFlags := rfl
@[simp] theorem State.setPlaced_streams : (s.setPlaced d r p).streams = s.streams := rfl
@[simp] theorem State.setPlaced_odo : (s.setPlaced d r p).odo = s.odo := rfl
@[simp] theorem State.setPlaced_tachPulses : (s.setPlaced d r p).tachPulses = s.tachPulses := rfl
@[simp] theorem State.setPlaced_tachSeen : (s.setPlaced d r p).tachSeen = s.tachSeen := rfl
@[simp] theorem State.setPlaced_eth : (s.setPlaced d r p).eth = s.eth := rfl
@[simp] theorem State.setPlaced_ports : (s.setPlaced d r p).ports = s.ports := rfl
@[simp] theorem State.setPlaced_power : (s.setPlaced d r p).power = s.power := rfl
@[simp] theorem State.setPlaced_fld (d' : Nat) (f' : Fld) (i' : Nat) : (s.setPlaced d r p).fld d' f' i' = s.fld d' f' i' := rfl
@[simp] theorem State.setPlaced_byte (a' : Nat) : (s.setPlaced d r p).byte a' = s.byte a' := rfl
end

/-! `setStep` changes `boot` only. -/

section
variable (s : State) (d n : Nat)
@[simp] theorem State.setStep_part : (s.setStep d n).part = s.part := rfl
@[simp] theorem State.setStep_pending : (s.setStep d n).pending = s.pending := rfl
@[simp] theorem State.setStep_free : (s.setStep d n).free = s.free := rfl
@[simp] theorem State.setStep_access : (s.setStep d n).access = s.access := rfl
@[simp] theorem State.setStep_regs : (s.setStep d n).regs = s.regs := rfl
@[simp] theorem State.setStep_mem : (s.setStep d n).mem = s.mem := rfl
@[simp] theorem State.setStep_flash : (s.setStep d n).flash = s.flash := rfl
@[simp] theorem State.setStep_bus : (s.setStep d n).bus = s.bus := rfl
@[simp] theorem State.setStep_pins : (s.setStep d n).pins = s.pins := rfl
@[simp] theorem State.setStep_clk : (s.setStep d n).clk = s.clk := rfl
@[simp] theorem State.setStep_mail : (s.setStep d n).mail = s.mail := rfl
@[simp] theorem State.setStep_fw : (s.setStep d n).fw = s.fw := rfl
@[simp] theorem State.setStep_memy : (s.setStep d n).memy = s.memy := rfl
@[simp] theorem State.setStep_irq : (s.setStep d n).irq = s.irq := rfl
@[simp] theorem State.setStep_tithe : (s.setStep d n).tithe = s.tithe := rfl
@[simp] theorem State.setStep_out : (s.setStep d n).out = s.out := rfl
@[simp] theorem State.setStep_time : (s.setStep d n).time = s.time := rfl
@[simp] theorem State.setStep_q : (s.setStep d n).q = s.q := rfl
@[simp] theorem State.setStep_fn : (s.setStep d n).fn = s.fn := rfl
@[simp] theorem State.setStep_safe : (s.setStep d n).safe = s.safe := rfl
@[simp] theorem State.setStep_sec : (s.setStep d n).sec = s.sec := rfl
@[simp] theorem State.setStep_mirror : (s.setStep d n).mirror = s.mirror := rfl
@[simp] theorem State.setStep_pairs : (s.setStep d n).pairs = s.pairs := rfl
@[simp] theorem State.setStep_heads : (s.setStep d n).heads = s.heads := rfl
@[simp] theorem State.setStep_frameFlags : (s.setStep d n).frameFlags = s.frameFlags := rfl
@[simp] theorem State.setStep_streams : (s.setStep d n).streams = s.streams := rfl
@[simp] theorem State.setStep_odo : (s.setStep d n).odo = s.odo := rfl
@[simp] theorem State.setStep_tachPulses : (s.setStep d n).tachPulses = s.tachPulses := rfl
@[simp] theorem State.setStep_tachSeen : (s.setStep d n).tachSeen = s.tachSeen := rfl
@[simp] theorem State.setStep_eth : (s.setStep d n).eth = s.eth := rfl
@[simp] theorem State.setStep_ports : (s.setStep d n).ports = s.ports := rfl
@[simp] theorem State.setStep_power : (s.setStep d n).power = s.power := rfl
@[simp] theorem State.setStep_fld (d' : Nat) (f' : Fld) (i' : Nat) : (s.setStep d n).fld d' f' i' = s.fld d' f' i' := rfl
@[simp] theorem State.setStep_byte (a' : Nat) : (s.setStep d n).byte a' = s.byte a' := rfl
end

/-! `setLive` changes `time` only. -/

section
variable (s : State) (k v : Nat)
@[simp] theorem State.setLive_part : (s.setLive k v).part = s.part := rfl
@[simp] theorem State.setLive_pending : (s.setLive k v).pending = s.pending := rfl
@[simp] theorem State.setLive_free : (s.setLive k v).free = s.free := rfl
@[simp] theorem State.setLive_access : (s.setLive k v).access = s.access := rfl
@[simp] theorem State.setLive_regs : (s.setLive k v).regs = s.regs := rfl
@[simp] theorem State.setLive_mem : (s.setLive k v).mem = s.mem := rfl
@[simp] theorem State.setLive_flash : (s.setLive k v).flash = s.flash := rfl
@[simp] theorem State.setLive_bus : (s.setLive k v).bus = s.bus := rfl
@[simp] theorem State.setLive_pins : (s.setLive k v).pins = s.pins := rfl
@[simp] theorem State.setLive_clk : (s.setLive k v).clk = s.clk := rfl
@[simp] theorem State.setLive_boot : (s.setLive k v).boot = s.boot := rfl
@[simp] theorem State.setLive_mail : (s.setLive k v).mail = s.mail := rfl
@[simp] theorem State.setLive_fw : (s.setLive k v).fw = s.fw := rfl
@[simp] theorem State.setLive_memy : (s.setLive k v).memy = s.memy := rfl
@[simp] theorem State.setLive_irq : (s.setLive k v).irq = s.irq := rfl
@[simp] theorem State.setLive_tithe : (s.setLive k v).tithe = s.tithe := rfl
@[simp] theorem State.setLive_out : (s.setLive k v).out = s.out := rfl
@[simp] theorem State.setLive_q : (s.setLive k v).q = s.q := rfl
@[simp] theorem State.setLive_fn : (s.setLive k v).fn = s.fn := rfl
@[simp] theorem State.setLive_safe : (s.setLive k v).safe = s.safe := rfl
@[simp] theorem State.setLive_sec : (s.setLive k v).sec = s.sec := rfl
@[simp] theorem State.setLive_mirror : (s.setLive k v).mirror = s.mirror := rfl
@[simp] theorem State.setLive_pairs : (s.setLive k v).pairs = s.pairs := rfl
@[simp] theorem State.setLive_heads : (s.setLive k v).heads = s.heads := rfl
@[simp] theorem State.setLive_frameFlags : (s.setLive k v).frameFlags = s.frameFlags := rfl
@[simp] theorem State.setLive_streams : (s.setLive k v).streams = s.streams := rfl
@[simp] theorem State.setLive_odo : (s.setLive k v).odo = s.odo := rfl
@[simp] theorem State.setLive_tachPulses : (s.setLive k v).tachPulses = s.tachPulses := rfl
@[simp] theorem State.setLive_tachSeen : (s.setLive k v).tachSeen = s.tachSeen := rfl
@[simp] theorem State.setLive_eth : (s.setLive k v).eth = s.eth := rfl
@[simp] theorem State.setLive_ports : (s.setLive k v).ports = s.ports := rfl
@[simp] theorem State.setLive_power : (s.setLive k v).power = s.power := rfl
@[simp] theorem State.setLive_fld (d' : Nat) (f' : Fld) (i' : Nat) : (s.setLive k v).fld d' f' i' = s.fld d' f' i' := rfl
@[simp] theorem State.setLive_byte (a' : Nat) : (s.setLive k v).byte a' = s.byte a' := rfl
end

/-! `setGoal` changes `clk` only. -/

section
variable (s : State) (d x v : Nat)
@[simp] theorem State.setGoal_part : (s.setGoal d x v).part = s.part := rfl
@[simp] theorem State.setGoal_pending : (s.setGoal d x v).pending = s.pending := rfl
@[simp] theorem State.setGoal_free : (s.setGoal d x v).free = s.free := rfl
@[simp] theorem State.setGoal_access : (s.setGoal d x v).access = s.access := rfl
@[simp] theorem State.setGoal_regs : (s.setGoal d x v).regs = s.regs := rfl
@[simp] theorem State.setGoal_mem : (s.setGoal d x v).mem = s.mem := rfl
@[simp] theorem State.setGoal_flash : (s.setGoal d x v).flash = s.flash := rfl
@[simp] theorem State.setGoal_bus : (s.setGoal d x v).bus = s.bus := rfl
@[simp] theorem State.setGoal_pins : (s.setGoal d x v).pins = s.pins := rfl
@[simp] theorem State.setGoal_boot : (s.setGoal d x v).boot = s.boot := rfl
@[simp] theorem State.setGoal_mail : (s.setGoal d x v).mail = s.mail := rfl
@[simp] theorem State.setGoal_fw : (s.setGoal d x v).fw = s.fw := rfl
@[simp] theorem State.setGoal_memy : (s.setGoal d x v).memy = s.memy := rfl
@[simp] theorem State.setGoal_irq : (s.setGoal d x v).irq = s.irq := rfl
@[simp] theorem State.setGoal_tithe : (s.setGoal d x v).tithe = s.tithe := rfl
@[simp] theorem State.setGoal_out : (s.setGoal d x v).out = s.out := rfl
@[simp] theorem State.setGoal_time : (s.setGoal d x v).time = s.time := rfl
@[simp] theorem State.setGoal_q : (s.setGoal d x v).q = s.q := rfl
@[simp] theorem State.setGoal_fn : (s.setGoal d x v).fn = s.fn := rfl
@[simp] theorem State.setGoal_safe : (s.setGoal d x v).safe = s.safe := rfl
@[simp] theorem State.setGoal_sec : (s.setGoal d x v).sec = s.sec := rfl
@[simp] theorem State.setGoal_mirror : (s.setGoal d x v).mirror = s.mirror := rfl
@[simp] theorem State.setGoal_pairs : (s.setGoal d x v).pairs = s.pairs := rfl
@[simp] theorem State.setGoal_heads : (s.setGoal d x v).heads = s.heads := rfl
@[simp] theorem State.setGoal_frameFlags : (s.setGoal d x v).frameFlags = s.frameFlags := rfl
@[simp] theorem State.setGoal_streams : (s.setGoal d x v).streams = s.streams := rfl
@[simp] theorem State.setGoal_odo : (s.setGoal d x v).odo = s.odo := rfl
@[simp] theorem State.setGoal_tachPulses : (s.setGoal d x v).tachPulses = s.tachPulses := rfl
@[simp] theorem State.setGoal_tachSeen : (s.setGoal d x v).tachSeen = s.tachSeen := rfl
@[simp] theorem State.setGoal_eth : (s.setGoal d x v).eth = s.eth := rfl
@[simp] theorem State.setGoal_ports : (s.setGoal d x v).ports = s.ports := rfl
@[simp] theorem State.setGoal_power : (s.setGoal d x v).power = s.power := rfl
@[simp] theorem State.setGoal_fld (d' : Nat) (f' : Fld) (i' : Nat) : (s.setGoal d x v).fld d' f' i' = s.fld d' f' i' := rfl
@[simp] theorem State.setGoal_byte (a' : Nat) : (s.setGoal d x v).byte a' = s.byte a' := rfl
end

/-! `setCore` changes `fw` only. -/

section
variable (s : State) (u : FwUnit) (c : FwCore)
@[simp] theorem State.setCore_part : (s.setCore u c).part = s.part := rfl
@[simp] theorem State.setCore_pending : (s.setCore u c).pending = s.pending := rfl
@[simp] theorem State.setCore_free : (s.setCore u c).free = s.free := rfl
@[simp] theorem State.setCore_access : (s.setCore u c).access = s.access := rfl
@[simp] theorem State.setCore_regs : (s.setCore u c).regs = s.regs := rfl
@[simp] theorem State.setCore_mem : (s.setCore u c).mem = s.mem := rfl
@[simp] theorem State.setCore_flash : (s.setCore u c).flash = s.flash := rfl
@[simp] theorem State.setCore_bus : (s.setCore u c).bus = s.bus := rfl
@[simp] theorem State.setCore_pins : (s.setCore u c).pins = s.pins := rfl
@[simp] theorem State.setCore_clk : (s.setCore u c).clk = s.clk := rfl
@[simp] theorem State.setCore_boot : (s.setCore u c).boot = s.boot := rfl
@[simp] theorem State.setCore_mail : (s.setCore u c).mail = s.mail := rfl
@[simp] theorem State.setCore_memy : (s.setCore u c).memy = s.memy := rfl
@[simp] theorem State.setCore_irq : (s.setCore u c).irq = s.irq := rfl
@[simp] theorem State.setCore_tithe : (s.setCore u c).tithe = s.tithe := rfl
@[simp] theorem State.setCore_out : (s.setCore u c).out = s.out := rfl
@[simp] theorem State.setCore_time : (s.setCore u c).time = s.time := rfl
@[simp] theorem State.setCore_q : (s.setCore u c).q = s.q := rfl
@[simp] theorem State.setCore_fn : (s.setCore u c).fn = s.fn := rfl
@[simp] theorem State.setCore_safe : (s.setCore u c).safe = s.safe := rfl
@[simp] theorem State.setCore_sec : (s.setCore u c).sec = s.sec := rfl
@[simp] theorem State.setCore_mirror : (s.setCore u c).mirror = s.mirror := rfl
@[simp] theorem State.setCore_pairs : (s.setCore u c).pairs = s.pairs := rfl
@[simp] theorem State.setCore_heads : (s.setCore u c).heads = s.heads := rfl
@[simp] theorem State.setCore_frameFlags : (s.setCore u c).frameFlags = s.frameFlags := rfl
@[simp] theorem State.setCore_streams : (s.setCore u c).streams = s.streams := rfl
@[simp] theorem State.setCore_odo : (s.setCore u c).odo = s.odo := rfl
@[simp] theorem State.setCore_tachPulses : (s.setCore u c).tachPulses = s.tachPulses := rfl
@[simp] theorem State.setCore_tachSeen : (s.setCore u c).tachSeen = s.tachSeen := rfl
@[simp] theorem State.setCore_eth : (s.setCore u c).eth = s.eth := rfl
@[simp] theorem State.setCore_ports : (s.setCore u c).ports = s.ports := rfl
@[simp] theorem State.setCore_power : (s.setCore u c).power = s.power := rfl
@[simp] theorem State.setCore_fld (d' : Nat) (f' : Fld) (i' : Nat) : (s.setCore u c).fld d' f' i' = s.fld d' f' i' := rfl
@[simp] theorem State.setCore_byte (a' : Nat) : (s.setCore u c).byte a' = s.byte a' := rfl
end

/-! `setAplicReg` changes `irq` only. -/

section
variable (s : State) (d dom o v : Nat)
@[simp] theorem State.setAplicReg_part : (s.setAplicReg d dom o v).part = s.part := rfl
@[simp] theorem State.setAplicReg_pending : (s.setAplicReg d dom o v).pending = s.pending := rfl
@[simp] theorem State.setAplicReg_free : (s.setAplicReg d dom o v).free = s.free := rfl
@[simp] theorem State.setAplicReg_access : (s.setAplicReg d dom o v).access = s.access := rfl
@[simp] theorem State.setAplicReg_regs : (s.setAplicReg d dom o v).regs = s.regs := rfl
@[simp] theorem State.setAplicReg_mem : (s.setAplicReg d dom o v).mem = s.mem := rfl
@[simp] theorem State.setAplicReg_flash : (s.setAplicReg d dom o v).flash = s.flash := rfl
@[simp] theorem State.setAplicReg_bus : (s.setAplicReg d dom o v).bus = s.bus := rfl
@[simp] theorem State.setAplicReg_pins : (s.setAplicReg d dom o v).pins = s.pins := rfl
@[simp] theorem State.setAplicReg_clk : (s.setAplicReg d dom o v).clk = s.clk := rfl
@[simp] theorem State.setAplicReg_boot : (s.setAplicReg d dom o v).boot = s.boot := rfl
@[simp] theorem State.setAplicReg_mail : (s.setAplicReg d dom o v).mail = s.mail := rfl
@[simp] theorem State.setAplicReg_fw : (s.setAplicReg d dom o v).fw = s.fw := rfl
@[simp] theorem State.setAplicReg_memy : (s.setAplicReg d dom o v).memy = s.memy := rfl
@[simp] theorem State.setAplicReg_tithe : (s.setAplicReg d dom o v).tithe = s.tithe := rfl
@[simp] theorem State.setAplicReg_out : (s.setAplicReg d dom o v).out = s.out := rfl
@[simp] theorem State.setAplicReg_time : (s.setAplicReg d dom o v).time = s.time := rfl
@[simp] theorem State.setAplicReg_q : (s.setAplicReg d dom o v).q = s.q := rfl
@[simp] theorem State.setAplicReg_fn : (s.setAplicReg d dom o v).fn = s.fn := rfl
@[simp] theorem State.setAplicReg_safe : (s.setAplicReg d dom o v).safe = s.safe := rfl
@[simp] theorem State.setAplicReg_sec : (s.setAplicReg d dom o v).sec = s.sec := rfl
@[simp] theorem State.setAplicReg_mirror : (s.setAplicReg d dom o v).mirror = s.mirror := rfl
@[simp] theorem State.setAplicReg_pairs : (s.setAplicReg d dom o v).pairs = s.pairs := rfl
@[simp] theorem State.setAplicReg_heads : (s.setAplicReg d dom o v).heads = s.heads := rfl
@[simp] theorem State.setAplicReg_frameFlags : (s.setAplicReg d dom o v).frameFlags = s.frameFlags := rfl
@[simp] theorem State.setAplicReg_streams : (s.setAplicReg d dom o v).streams = s.streams := rfl
@[simp] theorem State.setAplicReg_odo : (s.setAplicReg d dom o v).odo = s.odo := rfl
@[simp] theorem State.setAplicReg_tachPulses : (s.setAplicReg d dom o v).tachPulses = s.tachPulses := rfl
@[simp] theorem State.setAplicReg_tachSeen : (s.setAplicReg d dom o v).tachSeen = s.tachSeen := rfl
@[simp] theorem State.setAplicReg_eth : (s.setAplicReg d dom o v).eth = s.eth := rfl
@[simp] theorem State.setAplicReg_ports : (s.setAplicReg d dom o v).ports = s.ports := rfl
@[simp] theorem State.setAplicReg_power : (s.setAplicReg d dom o v).power = s.power := rfl
@[simp] theorem State.setAplicReg_fld (d' : Nat) (f' : Fld) (i' : Nat) : (s.setAplicReg d dom o v).fld d' f' i' = s.fld d' f' i' := rfl
@[simp] theorem State.setAplicReg_byte (a' : Nat) : (s.setAplicReg d dom o v).byte a' = s.byte a' := rfl
end

/-! `setNext` changes `time` only. -/

section
variable (s : State) (n : Nat) (x : Option Nat)
@[simp] theorem State.setNext_part : (s.setNext n x).part = s.part := rfl
@[simp] theorem State.setNext_pending : (s.setNext n x).pending = s.pending := rfl
@[simp] theorem State.setNext_free : (s.setNext n x).free = s.free := rfl
@[simp] theorem State.setNext_access : (s.setNext n x).access = s.access := rfl
@[simp] theorem State.setNext_regs : (s.setNext n x).regs = s.regs := rfl
@[simp] theorem State.setNext_mem : (s.setNext n x).mem = s.mem := rfl
@[simp] theorem State.setNext_flash : (s.setNext n x).flash = s.flash := rfl
@[simp] theorem State.setNext_bus : (s.setNext n x).bus = s.bus := rfl
@[simp] theorem State.setNext_pins : (s.setNext n x).pins = s.pins := rfl
@[simp] theorem State.setNext_clk : (s.setNext n x).clk = s.clk := rfl
@[simp] theorem State.setNext_boot : (s.setNext n x).boot = s.boot := rfl
@[simp] theorem State.setNext_mail : (s.setNext n x).mail = s.mail := rfl
@[simp] theorem State.setNext_fw : (s.setNext n x).fw = s.fw := rfl
@[simp] theorem State.setNext_memy : (s.setNext n x).memy = s.memy := rfl
@[simp] theorem State.setNext_irq : (s.setNext n x).irq = s.irq := rfl
@[simp] theorem State.setNext_tithe : (s.setNext n x).tithe = s.tithe := rfl
@[simp] theorem State.setNext_out : (s.setNext n x).out = s.out := rfl
@[simp] theorem State.setNext_q : (s.setNext n x).q = s.q := rfl
@[simp] theorem State.setNext_fn : (s.setNext n x).fn = s.fn := rfl
@[simp] theorem State.setNext_safe : (s.setNext n x).safe = s.safe := rfl
@[simp] theorem State.setNext_sec : (s.setNext n x).sec = s.sec := rfl
@[simp] theorem State.setNext_mirror : (s.setNext n x).mirror = s.mirror := rfl
@[simp] theorem State.setNext_pairs : (s.setNext n x).pairs = s.pairs := rfl
@[simp] theorem State.setNext_heads : (s.setNext n x).heads = s.heads := rfl
@[simp] theorem State.setNext_frameFlags : (s.setNext n x).frameFlags = s.frameFlags := rfl
@[simp] theorem State.setNext_streams : (s.setNext n x).streams = s.streams := rfl
@[simp] theorem State.setNext_odo : (s.setNext n x).odo = s.odo := rfl
@[simp] theorem State.setNext_tachPulses : (s.setNext n x).tachPulses = s.tachPulses := rfl
@[simp] theorem State.setNext_tachSeen : (s.setNext n x).tachSeen = s.tachSeen := rfl
@[simp] theorem State.setNext_eth : (s.setNext n x).eth = s.eth := rfl
@[simp] theorem State.setNext_ports : (s.setNext n x).ports = s.ports := rfl
@[simp] theorem State.setNext_power : (s.setNext n x).power = s.power := rfl
@[simp] theorem State.setNext_fld (d' : Nat) (f' : Fld) (i' : Nat) : (s.setNext n x).fld d' f' i' = s.fld d' f' i' := rfl
@[simp] theorem State.setNext_byte (a' : Nat) : (s.setNext n x).byte a' = s.byte a' := rfl
end

end Sys2Proof.Machine
end

