-- ==== Sys2Proof/Laws/Stores.lean ====
section
/-!
SUPPORT. Laws/Stores.lean: what a write of memory or of flash leaves alone. In canonical memories, a byte outside the range that is written keeps its value.
-/
namespace Sys2Proof.Machine

theorem cellGet_none (d : Byte) (m : List (Nat × Byte)) (y : Nat) (h : ∀ e ∈ m, e.1 ≠ y) : cellGet d m y = d := by
  induction m with
  | nil => rfl
  | cons c m ih =>
    obtain ⟨a, b⟩ := c
    have h1 : a ≠ y := h (a, b) (by simp)
    simp only [cellGet, h1, if_false]
    split
    · rfl
    · exact ih (fun e he => h e (List.mem_cons_of_mem _ he))

/-- A canonical list reads, at the key of a cell, that cell. -/
theorem cellGet_below (d : Byte) (m : List (Nat × Byte)) (a y : Nat) (h : ∀ e ∈ m, a < e.1) (hy : y ≤ a) : cellGet d m y = d :=
  cellGet_none d m y (fun e he => by have := h e he; omega)

theorem cellGet_put (d : Byte) (m : List (Nat × Byte)) (x y : Nat) (v : Byte) (h : cellsWf d m = true) (hy : y ≠ x) :
    cellGet d (cellPut d m x v) y = cellGet d m y := by
  induction m with
  | nil =>
    simp only [cellPut]
    split
    · rfl
    · simp [cellGet, Ne.symm hy]
  | cons c m ih =>
    obtain ⟨a, b⟩ := c
    have hc := (cellsWf_cons d (a, b) m).mp h
    simp only [cellPut]
    split
    · split
      · rfl
      · rename_i hx hv
        simp only [cellGet, Ne.symm hy, if_false]
        split
        · rename_i hlt
          rw [if_neg (by omega), if_pos (by omega)]
        · rfl
    · split
      · rename_i hx
        subst hx
        split
        · simp only [cellGet, Ne.symm hy, if_false]
          split
          · exact cellGet_below d m a y hc.2.1 (by omega)
          · rfl
        · simp only [cellGet, Ne.symm hy, if_false]
      · simp only [cellGet]
        split
        · rfl
        · split
          · rfl
          · exact ih hc.2.2

theorem cellGet_filter (d : Byte) (m : List (Nat × Byte)) (p : Nat → Bool) (y : Nat) (h : cellsWf d m = true) (hy : p y = true) :
    cellGet d (m.filter (fun e => p e.1)) y = cellGet d m y := by
  induction m with
  | nil => rfl
  | cons c m ih =>
    obtain ⟨a, b⟩ := c
    have hc := (cellsWf_cons d (a, b) m).mp h
    by_cases hp : p a = true
    · simp only [List.filter_cons, hp, if_true, cellGet, ih hc.2.2]
    · have hay : a ≠ y := fun e => hp (e ▸ hy)
      have e : ((a, b) :: m).filter (fun e => p e.1) = m.filter (fun e => p e.1) := by simp [hp]
      rw [e, ih hc.2.2]
      simp only [cellGet, hay, if_false]
      by_cases hlt : y < a
      · rw [if_pos hlt]
        exact cellGet_below d m a y hc.2.1 (by omega)
      · rw [if_neg hlt]

/-- The memories are canonical and one byte of memory has a value. -/
def Reads (a : Nat) (v : Byte) (s : State) : Prop := Canonical s ∧ s.byte a = v

/-- The memories are canonical and one byte of flash has a value. -/
def FlashReads (a : Nat) (v : Byte) (s : State) : Prop := Canonical s ∧ s.flashByte a = v

theorem reads_of_mask {a : Nat} {v : Byte} {s t : State} (h : t.mask memMask = s.mask memMask) (hs : Reads a v s) : Reads a v t :=
  ⟨canonical_of_mask h hs.1, by rw [← hs.2]; unfold State.byte; rw [mem_of_mask h rfl]⟩

theorem flashReads_of_mask {a : Nat} {v : Byte} {s t : State} (h : t.mask memMask = s.mask memMask) (hs : FlashReads a v s) : FlashReads a v t :=
  ⟨canonical_of_mask h hs.1, by rw [← hs.2]; unfold State.flashByte; rw [flash_of_mask h rfl]⟩

theorem reads_mem {a : Nat} {v : Byte} {s t : State} (hm : t.mem = s.mem) (hf : t.flash = s.flash) (hs : Reads a v s) : Reads a v t :=
  ⟨by simpa [canonical_parts, hm, hf] using hs.1, by rw [← hs.2]; unfold State.byte; rw [hm]⟩

theorem flashReads_mem {a : Nat} {v : Byte} {s t : State} (hm : t.mem = s.mem) (hf : t.flash = s.flash) (hs : FlashReads a v s) : FlashReads a v t :=
  ⟨by simpa [canonical_parts, hm, hf] using hs.1, by rw [← hs.2]; unfold State.flashByte; rw [hf]⟩

theorem State.putByte_reads {a b : Nat} {v x : Byte} {s : State} (h : Reads a v s) (hb : a ≠ b) : Reads a v (s.putByte b x) :=
  ⟨State.putByte_wf _ _ _ h.1, (cellGet_put _ _ _ _ _ (canonical_parts.mp h.1).1 hb).trans h.2⟩

theorem State.putBytes_reads {a b : Nat} {v : Byte} (l : List Byte) {s : State} (h : Reads a v s) (hb : a < b ∨ b + l.length ≤ a) : Reads a v (s.putBytes b l) := by
  induction l generalizing s b with
  | nil => exact h
  | cons x l ih =>
    simp only [List.length_cons] at hb
    exact ih (State.putByte_reads h (by omega)) (by omega)

theorem State.write_reads {a b : Nat} {v : Byte} {l : List Byte} {s : State} (h : Reads a v s) (hb : a < b ∨ b + l.length ≤ a) : Reads a v (s.write b l) := by
  unfold State.write
  split
  · exact h
  · exact reads_mem rfl rfl (State.putBytes_reads l h hb)

theorem State.zeroBytes_reads {a b n : Nat} {v : Byte} {s : State} (h : Reads a v s) (hb : a < b ∨ b + n ≤ a) : Reads a v (s.zeroBytes b n) :=
  ⟨State.zeroBytes_wf _ _ _ h.1, (cellGet_filter 0#8 s.mem (fun x => !(decide (b ≤ x) && decide (x < b + n))) a (canonical_parts.mp h.1).1
    (by simp; omega)).trans h.2⟩

theorem State.putFlash_reads {a b : Nat} {v : Byte} (l : List Byte) {s : State} (h : FlashReads a v s) (hb : a < b ∨ b + l.length ≤ a) :
    FlashReads a v (s.putFlash b l) := by
  induction l generalizing s b with
  | nil => exact h
  | cons x l ih =>
    simp only [List.length_cons] at hb
    refine ih ⟨?_, ?_⟩ (by omega)
    · exact State.putFlash_wf s b [x] h.1
    · exact (cellGet_put _ _ _ _ _ (canonical_parts.mp h.1).2 (by omega)).trans h.2

theorem State.eraseFlash_reads {a b n : Nat} {v : Byte} {s : State} (h : FlashReads a v s) (hb : a < b ∨ b + n ≤ a) : FlashReads a v (s.eraseFlash b n) :=
  ⟨State.eraseFlash_wf _ _ _ h.1, (cellGet_filter 0xFF#8 s.flash (fun x => !(decide (b ≤ x) && decide (x < b + n))) a (canonical_parts.mp h.1).2
    (by simp; omega)).trans h.2⟩

theorem reads_foldl {α : Type} {a : Nat} {v : Byte} (g : State → α → State) (l : List α) (h : ∀ t, ∀ e ∈ l, Reads a v t → Reads a v (g t e)) (s : State)
    (hs : Reads a v s) : Reads a v (l.foldl g s) := by
  induction l generalizing s with
  | nil => exact hs
  | cons e l ih => exact ih (fun t x hx => h t x (List.mem_cons_of_mem _ hx)) _ (h s e (by simp) hs)

theorem inRanges_out {l : List (Nat × Nat)} {a : Nat} (h : inRanges l a = false) {w : Nat × Nat} (hw : w ∈ l) : a < w.1 ∨ w.1 + w.2 ≤ a := by
  simp only [inRanges, List.any_eq_false] at h
  have := h w hw
  simp at this
  omega

theorem inRanges_append (l k : List (Nat × Nat)) (a : Nat) : inRanges (l ++ k) a = (inRanges l a || inRanges k a) := by
  simp [inRanges]

/-- Outside the places of some writes, each of them is elsewhere. -/
theorem placesOf_out {l : List (Nat × List Byte)} {a : Nat} (h : inRanges (placesOf l) a = false) {w : Nat × List Byte} (hw : w ∈ l) :
    a < w.1 ∨ w.1 + w.2.length ≤ a :=
  inRanges_out h (w := (w.1, w.2.length)) (List.mem_map.mpr ⟨w, hw, rfl⟩)

theorem placesOf_append (l k : List (Nat × List Byte)) : placesOf (l ++ k) = placesOf l ++ placesOf k := List.map_append ..

/-- A store writes its bytes alone; what it detects on the way changes no byte. -/
theorem State.store_reads {a b : Nat} {v : Byte} {l : List Byte} {s : State} {w : Agent} (h : Reads a v s) (hb : a < b ∨ b + l.length ≤ a) :
    Reads a v (s.store w b l) := by
  unfold State.store
  refine State.write_reads ?_ hb
  exact reads_foldl _ _ (fun t g _ ht => reads_of_mask (State.detect_mask _ _ _ _ (by decide)) ht) _ h

theorem State.stores_reads {a : Nat} {v : Byte} {l : List (Nat × List Byte)} {s : State} {w : Agent} (h : Reads a v s) (hb : inRanges (placesOf l) a = false) :
    Reads a v (s.stores w l) :=
  reads_foldl _ _ (fun _ _ hx ht => State.store_reads ht (placesOf_out hb hx)) _ h

/-- A part of the writes is elsewhere where all of them are. -/
theorem placesOf_take {l : List (Nat × List Byte)} {a : Nat} (h : inRanges (placesOf l) a = false) (n : Nat) : inRanges (placesOf (l.take n)) a = false := by
  rw [← List.take_append_drop n l, placesOf_append, inRanges_append, Bool.or_eq_false_iff] at h
  exact h.1

/-- A command that writes a part of what it has left writes within its places. -/
theorem State.runOn_reads {a : Nat} {v : Byte} {s : State} {d : Nat} {r : SlotRef} {n x w : Nat} {p : Placed} (h : Reads a v s) (hp : s.placed d r = some p)
    (ha : inRanges (placesOf p.left) a = false) : Reads a v (s.runOn d r n x w) := by
  unfold State.runOn
  rw [hp]
  have hs : Reads a v (s.stores (engineAgent d r p) (p.left.take n)) := State.stores_reads h (placesOf_take ha n)
  refine reads_of_mask (State.setPlaced_mask _ _ _ _ (by decide)) ?_
  cases r
  · exact reads_of_mask (State.countCycles_mask _ _ _ _ _ _ (by decide)) hs
  · exact hs

theorem State.runPart_reads {a : Nat} {v : Byte} {s : State} {d : Nat} {r : SlotRef} {p : Placed} (h : Reads a v s) (hp : s.placed d r = some p)
    (ha : inRanges (placesOf p.left) a = false) : Reads a v (s.runPart d r) := by
  unfold State.runPart
  rw [hp]
  exact State.runOn_reads (reads_mem rfl rfl h) hp ha

theorem State.wakes_reads {a : Nat} {v : Byte} {s : State} {l : List (Nat × Nat)} (h : Reads a v s) :
    Reads a v (l.foldl (fun (t : State) x => t.wake x.1 x.2) s) :=
  reads_foldl _ _ (fun _ _ _ ht => reads_of_mask (State.wake_mask _ _ _ (by decide)) ht) _ h

/-- A run writes within the ranges of its job. -/
theorem State.ranTo_reads {a : Nat} {v : Byte} (s : State) (d core : Nat) (slot : SlotKind) (p : Placed) (j0 : Job)
    (h : Reads a v s) (ha : inRanges (s.jobStores d p j0) a = false) : Reads a v (s.ranTo d core slot p j0) := by
  unfold State.jobStores at ha
  unfold State.ranTo
  dsimp only at ha ⊢
  have shown : Reads a v ((s.busyOf (s.judge d p j0)).2.showPlan d core (s.judge d p j0).win) :=
    reads_of_mask (by simp (disch := decide) only [State.showPlan_mask, State.busyOf_mask]) h
  split
  · refine State.runPart_reads ?_ (State.placed_setPlaced _ _ _ _) rfl
    exact reads_of_mask (by simp (disch := decide) only [State.setPlaced_mask, State.fabLog_mask, State.fresh_mask]) shown
  · refine State.runPart_reads ?_ (State.placed_setPlaced _ _ _ _) rfl
    exact reads_of_mask (by simp (disch := decide) only [State.setPlaced_mask, State.readUe_mask]) shown
  · rename_i hr
    rw [hr] at ha
    simp only [placesOf_append, inRanges_append, Bool.or_eq_false_iff] at ha
    refine State.runPart_reads ?_ (State.placed_setPlaced _ _ _ _) ha.1
    exact reads_of_mask (State.setPlaced_mask _ _ _ _ (by decide)) (State.stores_reads (State.wakes_reads shown) ha.2)

/-- A run that fails writes nothing. -/
theorem jobStores_fail (s : State) (d : Nat) (p : Placed) (a : Nat) : inRanges (s.jobStores d p (Job.fail 1)) a = false := by
  have failed : s.judge d p (Job.fail 1) = Job.fail 1 := by simp [State.judge, Job.fail]
  unfold State.jobStores
  rw [failed]
  simp only [Job.fail]
  split
  · simp only [State.outWrites]
    cases s.outBase p <;> rfl
  · rfl

/-- A compute row writes within the ranges of the command that stands in its slot. -/
theorem State.runRow_reads {a : Nat} {v : Byte} (s : State) (d core : Nat) (slot : SlotKind) (engine op : Nat) (known : Nat → Bool) (go : Placed → Job) (t : State)
    (h : Reads a v s) (ha : inRanges (s.slotStores d core slot engine op go) a = false)
    (ht : s.runRow d core slot engine (fun o => o == op) known go = .next t) : Reads a v t := by
  unfold State.slotStores at ha
  unfold State.runRow at ht
  split at ht
  · cases ht; exact h
  · split at ht
    · cases ht; exact h
    · rename_i p hp
      rw [hp] at ha
      split at ht
      · cases ht; exact h
      · rename_i hn
        split at ht
        · rename_i ho
          cases ht
          have engineIs : descEngine p.desc = engine := Decidable.byContradiction (fun hc => hn (.inr (.inl hc)))
          have opIs : descOp p.desc = op := by simpa using ho
          simp only [engineIs, opIs, and_self, if_true] at ha
          exact State.ranTo_reads _ _ _ _ _ _ h ha
        · split at ht
          · cases ht; exact h
          · cases ht
            exact State.ranTo_reads _ _ _ _ _ _ h (jobStores_fail _ _ _ _)

/-- Where a command writes does not depend on KV_STATUS.NO_PAGE. -/
theorem State.slotStores_noPage (s : State) (d core op : Nat) (go : Placed → Job) :
    (s.flag d .KV_STATUS_NO_PAGE).slotStores d core .te 0 op go = s.slotStores d core .te 0 op go := by
  have sameFld : ∀ e g i, g ≠ .KV_STATUS_NO_PAGE → (s.flag d .KV_STATUS_NO_PAGE).fld e g i = s.fld e g i := fun e g i hg => State.fld_setFld_other _ _ _ _ _ _ hg
  have span : ∀ k, (s.flag d .KV_STATUS_NO_PAGE).spanDies d k = s.spanDies d k := fun k => by
    simp only [State.spanDies, sameFld _ _ _ (show Fld.SILO_STAT_SPAN ≠ .KV_STATUS_NO_PAGE by decide)]
    rfl
  have route : ∀ line l x, (s.flag d .KV_STATUS_NO_PAGE).routeStop line x l = s.routeStop line x l := fun line l => by
    induction l with
    | nil => exact fun _ => rfl
    | cons b l ih =>
      intro x
      simp only [State.routeStop, ih, sameFld _ _ _ (show Fld.MIRSIA_STATUS_DOWN ≠ .KV_STATUS_NO_PAGE by decide)]
      rfl
  have judged : ∀ p j, (s.flag d .KV_STATUS_NO_PAGE).judge d p j = s.judge d p j := fun p j => by
    simp only [State.judge, State.shadowOk, State.opBuf, span]
    rfl
  have stops : ∀ j outs, (s.flag d .KV_STATUS_NO_PAGE).runStops d j outs = s.runStops d j outs := fun j outs => by
    simp only [State.runStops, State.stopOnWay, State.blocked, route]
    rfl
  simp only [State.slotStores, State.jobStores, judged, stops]
  rfl

/-- So does a fused row, which may raise KV_STATUS.NO_PAGE first. -/
theorem State.runFused_reads {a : Nat} {v : Byte} (s : State) (d core op : Nat) (go : Placed → Job) (t : State)
    (h : Reads a v s) (ha : inRanges (s.slotStores d core .te 0 op go) a = false) (ht : s.runFused d core op go = .next t) : Reads a v t := by
  unfold State.runFused at ht
  split at ht
  · rename_i p hp
    dsimp only at ht
    split at ht
    · exact State.runRow_reads _ _ _ _ _ _ _ _ _ (reads_of_mask (State.flag_mask _ _ _ _ (by decide)) h) (by rw [State.slotStores_noPage]; exact ha) ht
    · exact State.runRow_reads _ _ _ _ _ _ _ _ _ h ha ht
  · exact State.runRow_reads _ _ _ _ _ _ _ _ _ h ha ht

/-- The run of a raster command writes within its places, on any state that has the same poison. -/
theorem State.rasterRan_reads {a : Nat} {v : Byte} (s s' : State) (d ctx : Nat) (p : Placed) (j : Job) (beside : List (Nat × List Byte))
    (h : Reads a v s') (hp : s'.memy = s.memy) (ha : inRanges (s.rasterStores j beside) a = false) : Reads a v (s'.rasterRan d ctx p j beside) := by
  have samePoison : ∀ x n, s'.poisoned x n = s.poisoned x n := fun x n => by simp only [State.poisoned, State.poisonIn, hp]
  unfold State.rasterStores at ha
  unfold State.rasterRan
  dsimp only
  split
  · exact reads_of_mask (by simp (disch := decide) only [State.setPlaced_mask, State.fabLog_mask, State.fresh_mask]) h
  · exact reads_of_mask (by simp (disch := decide) only [State.readUe_mask, State.setPlaced_mask]) h
  · rename_i hr
    simp only [State.runStops, samePoison, Prod.mk.injEq] at hr
    rw [hr.2] at ha
    refine State.runPart_reads ?_ (State.placed_setPlaced _ _ _ _) ha
    exact reads_of_mask (State.setPlaced_mask _ _ _ _ (by decide)) (State.wakes_reads h)

theorem rasterStores_fail (s : State) (n a : Nat) : inRanges (s.rasterStores (Job.fail n) []) a = false := by
  unfold State.rasterStores
  split <;> rfl

theorem State.runRaster_reads {a : Nat} {v : Byte} (s : State) (d ctx op : Nat) (go : State → Placed → State) (t : State) (h : Reads a v s)
    (hgo : ∀ p, s.rasterCommand d ctx op = some p → Reads a v (go s p)) (ht : s.runRaster d ctx op go = .next t) : Reads a v t := by
  unfold State.runRaster at ht
  split at ht
  · cases ht; exact h
  · split at ht
    · cases ht; exact h
    · rename_i p hp
      split at ht
      · cases ht; exact h
      · split at ht
        · rename_i ho
          cases ht
          exact hgo p (by simp [State.rasterCommand, hp, ho])
        · split at ht
          · cases ht; exact h
          · cases ht
            exact State.rasterRan_reads s s _ _ _ _ _ h rfl (rasterStores_fail _ _ _)

theorem State.render_reads {a : Nat} {v : Byte} (s : State) (d ctx : Nat) (p : Placed) (h : Reads a v s) (ha : inRanges (s.renderStores d ctx p) a = false) :
    Reads a v (State.render d ctx s p) := by
  unfold State.renderStores at ha
  unfold State.render
  split
  · rename_i hc
    rw [if_pos hc] at ha
    exact State.rasterRan_reads s s _ _ _ _ _ h rfl ha
  · rename_i hc
    rw [if_neg hc] at ha
    dsimp only
    have run : ∀ t : State, t.mask 0xc1000000000000000000000000000000000000004020000000000000000000000044804 = s.mask 0xc1000000000000000000000000000000000000004020000000000000000000000044804 → Reads a v (t.rasterRan d ctx p (s.renderRun d ctx p) (s.renderBeside d p s.fresh.1 (s.renderFlushes d ctx p))) :=
      fun t ht => State.rasterRan_reads s t _ _ _ _ _ (reads_of_mask (mask_mono (by decide) ht) h) (memy_of_mask ht rfl) ha
    refine run _ ((mask_foldl _ (fun t e => State.stookFlush_mask _ _ _ _ _ (by decide)) _ _).trans ?_)
    simp (disch := decide) only [State.setFld_mask, State.fresh_mask]
    split
    · split
      · simp (disch := decide) only [State.flushOther_mask, State.fresh_mask]
      · simp (disch := decide) only [State.fresh_mask]
    · simp (disch := decide) only [State.fresh_mask]

/-- A number in bytes takes as many as asked for. -/
theorem leBytes_length (n v : Nat) : (leBytes n v).length = n := by
  induction n generalizing v with
  | zero => rfl
  | succ n ih => simp [leBytes, ih]

theorem cipher_length (k iv : Nat) (i : Nat) (l : List Byte) : (cipher k iv i l).length = l.length := by
  induction l generalizing i with
  | nil => rfl
  | cons b l ih => simp [cipher, ih]

/-- Serving a request writes memory only in its body. -/
theorem State.serve_reads {a : Nat} {v : Byte} (s : State) (r : Req) (opcode : Nat) (die : Option Nat) (body : State → Reply) (h : Reads a v s)
    (hb : Reads a v (s.handling r opcode) → Reads a v (body (s.handling r opcode)).st) : Reads a v (s.serve r opcode die body) := by
  unfold State.serve
  split
  · exact h
  · split
    · exact reads_of_mask (State.respond_mask _ _ _ _ _ (by decide)) h
    · exact reads_of_mask (State.answered_mask _ _ _ _ _ (by decide)) (hb (reads_of_mask (State.handling_mask _ _ _ (by decide)) h))

theorem reads_reply {a : Nat} {v : Byte} {s : State} {x : Status} {p : List Byte} (h : Reads a v s) : Reads a v (reply s x p).st := h

theorem reads_saveCount {a : Nat} {v : Byte} {s : State} {n : Nat} (h : Reads a v s) : Reads a v { s with sec.saveCount := n } := reads_mem rfl rfl h

theorem flatMap_length {α β : Type} (l : List α) (f : α → List β) (n : Nat) (h : ∀ x, (f x).length = n) : (l.flatMap f).length = n * l.length := by
  induction l with
  | nil => simp
  | cons x l ih => simp [h, ih, Nat.mul_add]; omega

/-- Whether an address is memory does not depend on whose access it is. -/
theorem isMemory_own (part : Part) (own a : Nat) : isMemory part a = (match decodeAddr part own a with
    | .dram _ _ | .granary _ _ | .loft _ _ => true
    | _ => false) := by
  have h : ∀ o, decodeAddr part own o = decodeAddr part 0 o ∨ (decodeAddr part own o = .regs own (o - 0xF0F000000000) ∧ decodeAddr part 0 o = .regs 0 (o - 0xF0F000000000)) := by
    intro o
    unfold decodeAddr
    by_cases h1 : o < 0x8000000000
    · left; rw [if_pos h1, if_pos h1]
    · rw [if_neg h1, if_neg h1]
      by_cases h2 : 0x800000000000 ≤ o ∧ o < 0x800000000000 + 8 * 0x40000000
      · left; rw [if_pos h2, if_pos h2]
      · rw [if_neg h2, if_neg h2]
        by_cases h3 : 0xC00000000000 ≤ o ∧ o < 0xC00000000000 + 2 * 0x10000000000
        · left; rw [if_pos h3, if_pos h3]
        · rw [if_neg h3, if_neg h3]
          by_cases h4 : 0xF00000000000 ≤ o ∧ o < 0xF00000000000 + 8 * 0x10000000
          · left; rw [if_pos h4, if_pos h4]
          · rw [if_neg h4, if_neg h4]
            by_cases h5 : 0xF0F000000000 ≤ o ∧ o < 0xF0F000000000 + 0x10000000
            · right; rw [if_pos h5, if_pos h5]; exact ⟨rfl, rfl⟩
            · left; rw [if_neg h5, if_neg h5]
  unfold isMemory
  rcases h a with e | ⟨e, e'⟩
  · first | (rw [e]; done) | (rw [e]; rfl)
  · rw [e, e']

/-- An address of memory decodes as none of the other places. -/
theorem isMemory_place {part : Part} {own a : Nat} (h : isMemory part a = true) :
    (∃ d o, decodeAddr part own a = .dram d o) ∨ (∃ d o, decodeAddr part own a = .granary d o) ∨ (∃ d o, decodeAddr part own a = .loft d o) := by
  rw [isMemory_own part own] at h
  split at h
  · rename_i e; exact .inl ⟨_, _, e⟩
  · rename_i e; exact .inr (.inl ⟨_, _, e⟩)
  · rename_i e; exact .inr (.inr ⟨_, _, e⟩)
  · cases h

/-- A write to a memory address writes the bytes it names. -/
theorem State.writeAt_reads {a : Nat} {v : Byte} (s t : State) (m : Master) (addr size data : Nat) (h : Reads a v s) (hm : isMemory s.part addr = true)
    (ha : a < addr ∨ addr + size ≤ a) (ht : s.writeAt m addr size data = .next t) : Reads a v t := by
  unfold State.writeAt at ht
  split at ht
  · injection ht with ht
    exact ht ▸ reads_of_mask (State.busError_mask _ _ _ _ _ _ (by decide)) h
  · obtain ⟨d, o, e⟩ | ⟨d, o, e⟩ | ⟨d, o, e⟩ := isMemory_place (own := m.die) hm
    all_goals
      simp only [e] at ht
      injection ht with ht
      exact ht ▸ reads_mem (s := s.store _ addr _) rfl rfl (State.store_reads h (by rw [leBytes_length]; exact ha))

theorem State.physWrite_reads {a : Nat} {v : Byte} (s t : State) (m : Master) (addr : Nat) (data : List Byte) (h : Reads a v s) (hm : isMemory s.part addr = true)
    (ha : a < addr ∨ addr + data.length ≤ a) (ht : s.physWrite m addr data = .next t) : Reads a v t := by
  unfold State.physWrite at ht
  split at ht
  · injection ht with ht
    subst ht
    split
    · exact reads_of_mask (State.busError_mask _ _ _ _ _ _ (by decide)) h
    · exact reads_mem (s := s.store _ addr _) rfl rfl (State.store_reads h ha)
  · exact State.writeAt_reads _ _ _ _ _ _ h hm ha ht

theorem State.memAtomic_reads {a : Nat} {v : Byte} (s : State) (m : Master) (addr : Nat) (op : FbrAtomic) (h : Reads a v s)
    (ha : (∀ w, op ≠ .lr w) → a < addr ∨ addr + (if atomicWide op then 8 else 4) ≤ a) : Reads a v (s.memAtomic m addr op) := by
  have err : ∀ (u : State) (d t x : Nat), Reads a v u → Reads a v (u.busError d t x m true) :=
    fun u d t x hu => reads_of_mask (State.busError_mask _ _ _ _ _ _ (by decide)) hu
  unfold State.memAtomic
  dsimp only
  generalize (if atomicWide op = true then 8 else 4) = n at *
  have hw : Reads a v (s.wake addr n) := reads_of_mask (State.wake_mask _ _ _ (by decide)) h
  have put : ∀ x, (∀ w, op ≠ .lr w) → Reads a v ((s.wake addr n).store (agentOf m) addr (leBytes n x)) :=
    fun x ho => State.store_reads hw (by rw [leBytes_length]; exact ha ho)
  split
  · exact err _ _ _ _ h
  · split
    · exact err _ _ _ _ h
    · split
      · exact reads_mem (s := State.readUe _ _ _) rfl rfl (reads_of_mask (State.readUe_mask _ _ _ (by decide)) hw)
      · cases op with
        | lr w => exact reads_mem rfl rfl hw
        | sc x w =>
          dsimp only
          split
          · exact reads_mem rfl rfl (put _ nofun)
          · exact reads_mem rfl rfl hw
        | amo k x w =>
          dsimp only
          split
          · exact reads_mem rfl rfl (put _ nofun)
          · exact err _ _ _ _ hw

theorem putFlash_mem (s : State) (a : Nat) (l : List Byte) : (s.putFlash a l).mem = s.mem := by
  induction l generalizing s a with
  | nil => rfl
  | cons b l ih => exact ih _ _

theorem bytes_length (s : State) (a n : Nat) : (s.flashBytes a n).length = n := by
  induction n generalizing a with
  | zero => rfl
  | succ n ih => simp [State.flashBytes, ih]

theorem flashBytes_length (s : State) (a n : Nat) : (s.flashBytes a n).length = n := by
  induction n generalizing a with
  | zero => rfl
  | succ n ih => simp [State.flashBytes, ih]

theorem slice_length {α : Type} (l : List α) (o n : Nat) : (slice l o n).length ≤ n := by
  simp only [slice, List.length_take]
  omega

/-- An AP image is written from the base of the DRAM of DIE_0 on. -/
theorem loadApImage_reads {a : Nat} {v : Byte} (s : State) (h : Reads a v s)
    (ha : ∀ b, s.fw.bundle = some b → ∀ e ∈ b.images, e.kind = 4 → a < dramBase 0 ∨ dramBase 0 + e.length ≤ a) : Reads a v s.loadApImage := by
  unfold State.loadApImage
  split
  · exact h
  · rename_i b hb
    refine reads_foldl _ _ (fun t e _ ht => ?_) _ h
    have hy : a < dramBase 0 ∨ dramBase 0 + (t.bootImage b 4).length ≤ a := by
      unfold State.bootImage bundleImage
      split
      · rename_i x hx
        have hk := ha b hb x (List.mem_of_find?_eq_some hx) (by simpa using List.find?_some hx)
        dsimp only
        split
        · have := slice_length t.boot.chunks x.offset x.length
          omega
        · have : (t.readSlot t.boot.slotUsed x.offset x.length).length = x.length := flashBytes_length _ _ _
          omega
      · simp only [List.length_nil]; omega
    dsimp only
    split
    · exact State.putBytes_reads _ ht hy
    · exact reads_of_mask (State.setFlds_mask _ _ _ _ (by decide)) ht

theorem State.moveBytes_reads {a : Nat} {v : Byte} (s : State) (src dst n : Nat) (h : Reads a v s) (ha : a < dst ∨ dst + n ≤ a) : Reads a v (s.moveBytes src dst n) := by
  unfold State.moveBytes
  refine reads_mem (s := List.foldl _ _ _) rfl rfl (reads_foldl _ _ (fun t e he ht => State.putByte_reads ht ?_) _ (State.zeroBytes_reads h ha))
  have := (List.mem_filter.mp he).2
  simp at this
  omega

/-- A copy of a buffer writes within its destination. -/
theorem copyMem_reads {a : Nat} {v : Byte} (s : State) (src dst n : Nat) (h : Reads a v s) (ha : a < dst ∨ dst + n ≤ a) : Reads a v (s.copyMem src dst n) := by
  unfold State.copyMem
  refine reads_foldl _ _ (fun t g hg ht => ?_) _ (State.moveBytes_reads _ _ _ _ (reads_of_mask (State.wake_mask _ _ _ (by decide)) (reads_of_mask (State.wake_mask _ _ _ (by decide)) h)) ha)
  have := (List.mem_filter.mp hg).2
  simp at this
  refine reads_of_mask (State.readUe_mask _ _ _ (by decide)) (State.putBytes_reads _ (reads_of_mask (State.fresh_mask _ (by decide)) ht) ?_)
  rw [leBytes_length]
  omega

/-- Bytes that are gathered stand where they stood. -/
theorem inRanges_gather (l : List (Nat × Byte)) (a : Nat) : inRanges (placesOf (gather l)) a = inRanges (l.map (fun w => (w.1, 1))) a := by
  induction l with
  | nil => rfl
  | cons w l ih =>
    obtain ⟨x, b⟩ := w
    refine Eq.trans ?_ (inRanges_append [(x, 1)] _ a).symm
    rw [← ih]
    rw [gather.eq_2]
    split
    · rename_i y bs t e
      rw [e]
      split
      · rename_i hy
        subst hy
        simp only [placesOf, inRanges, List.map_cons, List.any_cons, List.any_nil, List.length_cons, Bool.or_false, ← Bool.or_assoc]
        congr 1
        rw [Bool.eq_iff_iff]
        simp only [Bool.or_eq_true, Bool.and_eq_true, decide_eq_true_eq]
        omega
      · simp [placesOf, inRanges]
    · rename_i e
      rw [e]
      simp [placesOf, inRanges]

/-- Lines that a checked pair releases. -/
theorem releaseLines_reads {a : Nat} {v : Byte} (s : State) (d c : Nat) (ls : List (Nat × Byte)) (h : Reads a v s)
    (ha : inRanges (ls.map (fun w => (w.1, 1))) a = false) : Reads a v (s.releaseLines d c ls) :=
  State.stores_reads h ((inRanges_gather ls a).trans ha)

/-- Zeroing a die writes its Granary window. -/
theorem zeroDie_reads {a : Nat} {v : Byte} (s : State) (d : Nat) (h : Reads a v s) (ha : a < granaryBase d ∨ granaryBase d + 0x22000000 ≤ a) : Reads a v (s.zeroDie d) :=
  reads_mem (s := s.zeroBytes _ _) rfl rfl (State.zeroBytes_reads h ha)

theorem zeroSlice_reads {a : Nat} {v : Byte} (s : State) (d c : Nat) (h : Reads a v s) (ha : a < sliceBase d c ∨ sliceBase d c + 0x5000000 ≤ a) : Reads a v (s.zeroSlice d c) :=
  reads_mem (s := s.zeroBytes _ _) rfl rfl (State.zeroBytes_reads h ha)

theorem doneDesc_reads {a : Nat} {v : Byte} (s : State) (d x status : Nat) (st : Option (Nat × Nat)) (h : Reads a v s) (ha : a < x ∨ x + 32 ≤ a) :
    Reads a v (s.doneDesc d x status st) := by
  unfold State.doneDesc
  refine State.store_reads h ?_
  have hb : (s.bytes x 32).length = 32 := by simp only [State.bytes, List.length_cons, List.length_nil]
  simp only [List.length_append, leBytes_length, slice, List.length_take, List.length_drop, hb]
  omega

/-- Serving a request writes flash only in its body. -/
theorem State.serve_flash {a : Nat} {v : Byte} (s : State) (r : Req) (opcode : Nat) (die : Option Nat) (body : State → Reply) (h : FlashReads a v s)
    (hb : FlashReads a v (s.handling r opcode) → FlashReads a v (body (s.handling r opcode)).st) : FlashReads a v (s.serve r opcode die body) := by
  unfold State.serve
  split
  · exact h
  · split
    · exact flashReads_of_mask (State.respond_mask _ _ _ _ _ (by decide)) h
    · exact flashReads_of_mask (State.answered_mask _ _ _ _ _ (by decide)) (hb (flashReads_of_mask (State.handling_mask _ _ _ (by decide)) h))

theorem bank_length (n : Nat) (l : List Byte) : (bankBytes n l).length = 0x1000 := by
  have : (slice (l ++ leBytes 256 0) 0 256).length = 256 := by
    simp only [slice, List.length_take, List.length_drop, List.length_append, leBytes_length]; omega
  simp only [bankBytes, List.length_append, leBytes_length, List.length_replicate, this]

theorem flashReads_reply {a : Nat} {v : Byte} {s : State} {x : Status} {p : List Byte} (h : FlashReads a v s) : FlashReads a v (reply s x p).st := h

end Sys2Proof.Machine
end

