-- ==== Sys2Proof/Tests/Slice0.lean ====
section
/-!
SUPPORT. Tests/Slice0.lean: ill-formed commands that WellFormed refuses, and for each statement of Certificates/Slice0/Obligations.lean states and operands
that meet its hypotheses together, clause by clause.
-/
namespace Sys2Proof.Tests
open Sys2Proof Sys2Proof.Machine
set_option Elab.async false

/-- A register write goes through where the fabric does not refuse it, the master has no access before it and no posted write waits. -/
theorem WritesNow.of_flags {s : State} {m : Master} {d : Nat} {blk : Blk} {off : Nat}
    (h : (decide (s.refusal m d (blkBase blk + off) = none) && !s.mustQueue m d (blkBase blk + off) && s.bus.posted.isEmpty) = true) :
    WritesNow s m d blk off := by
  obtain ⟨⟨h1, h2⟩, h3⟩ : (s.refusal m d (blkBase blk + off) = none ∧ s.mustQueue m d (blkBase blk + off) = false) ∧ s.bus.posted = [] := by simpa using h
  exact ⟨h1, h2, fun b _ => by simp [State.blkBusy, h3]⟩

/-- A part of two dies that runs, all its reset groups released, with the registers given. -/
def runs (regs : List (FK × Nat)) : State :=
  { State.reset with part := .lrk2c32e, regs := regs, boot := { State.reset.boot with powered := true, step := [(0, 11), (1, 11)], pkg := false } }

/-- The same at a step of its start-up. -/
def atStep (n : Nat) (regs : List (FK × Nat)) : State :=
  { State.reset with part := .lrk2c32e, regs := regs, boot := { State.reset.boot with powered := true, step := [(0, n), (1, n)] } }

/-- A firmware core of DIE_0, and a request of its own. -/
def sch : Master := ⟨0, .firmware, 0, .machine, false, 0xFF00⟩
def fwReq : Req := ⟨0xFF00, 0, 0⟩

/-- No hold-off runs and no trim load is in progress. -/
theorem noHold {s : State} (h : s.boot.holdoff = []) (hl : s.boot.loading = []) (t : ResetTarget) : s.mustHold t = false := by
  simp [State.mustHold, State.trimRuns, h, hl]

/-- The little-endian bytes of a number spell it. -/
theorem leNat_leBytes : ∀ (n v : Nat), v < 256 ^ n → leNat (leBytes n v) = v
  | 0, v, h => by simp [leBytes, leNat] at h ⊢; omega
  | n + 1, v, h => by
    have h' : v / 256 < 256 ^ n := by rw [Nat.pow_succ] at h; omega
    simp only [leBytes, leNat, leNat_leBytes n (v / 256) h', BitVec.toNat_ofNat]
    omega

/-- Flash is read in pieces. -/
theorem flashBytes_append (s : State) : ∀ (m n a : Nat), s.flashBytes a (m + n) = s.flashBytes a m ++ s.flashBytes (a + m) n
  | 0, n, a => by simp [State.flashBytes]
  | m + 1, n, a => by
    rw [Nat.add_right_comm, State.flashBytes, State.flashBytes, flashBytes_append s m n (a + 1), List.cons_append]
    congr 3; omega

/-- Flash that nothing wrote reads as erased bytes. -/
theorem flashBytes_blank (s : State) : ∀ (n a : Nat), (∀ x, a ≤ x → x < a + n → s.flashByte x = 0xFF#8) → s.flashBytes a n = List.replicate n 0xFF#8
  | 0, _, _ => rfl
  | n + 1, a, h => by
    rw [State.flashBytes, h a (by omega) (by omega), flashBytes_blank s n (a + 1) (fun x h1 h2 => h x (by omega) (by omega))]; rfl

/-- A CRC-32 has 32 bits. -/
theorem crcShift_lt (p : Nat) (hp : p < 2 ^ 32) : ∀ n c, c < 2 ^ 32 → crcShift p n c < 2 ^ 32
  | 0, _, h => h
  | n + 1, c, h => by
    rw [crcShift]; apply crcShift_lt p hp n; split
    · exact Nat.xor_lt_two_pow (by omega) hp
    · omega
theorem crcRun_lt (p : Nat) (hp : p < 2 ^ 32) : ∀ (bs : List Byte) c, c < 2 ^ 32 → crcRun p c bs < 2 ^ 32
  | [], _, h => h
  | b :: bs, c, h => by
    have hb : b.toNat < 2 ^ 32 := Nat.lt_trans b.isLt (by decide)
    exact crcRun_lt p hp bs _ (crcShift_lt p hp 8 _ (Nat.xor_lt_two_pow h hb))
theorem crc32_lt (bs : List Byte) : crc32 bs < 256 ^ 4 := by
  have h := crcRun_lt 0xEDB88320 (by decide) bs 0xFFFFFFFF (by decide)
  rw [crc32, show 256 ^ 4 = 2 ^ 32 by decide]
  exact Nat.xor_lt_two_pow h (by decide)

/-- The first 16 bytes of a bank of the option store with a sequence number, and what its check sum covers (R79). -/
def bankHead (seq : Nat) : List Byte := leBytes 4 0x54504F4C ++ leBytes 4 1 ++ leBytes 4 seq ++ leBytes 4 0
def bankBody (seq : Nat) : List Byte := bankHead seq ++ List.replicate 0xFEC 0xFF#8

/-- Cells of flash that hold that bank under a check sum. -/
def bankCells (a seq crc : Nat) : List (Nat × Byte) := (rangeFrom a 16).zip (bankHead seq) ++ (rangeFrom (a + 0xFFC) 4).zip (leBytes 4 crc)

/-- A cell that is not listed reads as the default. -/
theorem cellGet_absent (b : Byte) (x : Nat) : ∀ l : List (Nat × Byte), (∀ c ∈ l, c.1 ≠ x) → cellGet b l x = b
  | [], _ => rfl
  | (a, v) :: l, h => by
    rw [cellGet, if_neg (h (a, v) List.mem_cons_self), cellGet_absent b x l (fun c hc => h c (List.mem_cons_of_mem _ hc))]
    split <;> rfl

/-- The addresses of a bank's cells. -/
theorem bankCells_at (a seq crc : Nat) (c : Nat × Byte) (h : c ∈ bankCells a seq crc) : (a ≤ c.1 ∧ c.1 < a + 16) ∨ (a + 0xFFC ≤ c.1 ∧ c.1 < a + 0x1000) := by
  rw [bankCells, List.mem_append] at h
  rcases h with h | h <;> have h := (List.of_mem_zip h).1 <;> simp only [rangeFrom, List.mem_map, List.mem_range] at h <;> omega

/-- A bank whose bytes are those is valid and bears that sequence number. -/
theorem bank_valid (l : List Byte) (seq : Nat) (hq : seq < 256 ^ 4) (h0 : l = bankBody seq ++ leBytes 4 (crc32 (bankBody seq))) :
    bankValid l = true ∧ bankSeq l = seq := by
  have hl : (bankBody seq).length = 0xFFC := by
    rw [bankBody, List.length_append, List.length_replicate, show (bankHead seq).length = 16 from rfl]
  have hr : l = bankHead seq ++ (List.replicate 0xFEC 0xFF#8 ++ leBytes 4 (crc32 (bankBody seq))) := by rw [h0, bankBody, List.append_assoc]
  generalize List.replicate 0xFEC 0xFF#8 ++ leBytes 4 (crc32 (bankBody seq)) = r at hr
  have a0 : slice l 0 4 = leBytes 4 0x54504F4C := by rw [hr]; rfl
  have a1 : leAt l 0 4 = 0x54504F4C := by rw [leAt, a0, leNat_leBytes _ _ (by decide)]
  have a2 : leAt l 4 2 = 1 := by rw [hr]; rfl
  have a5 : slice l 8 4 = leBytes 4 seq := by rw [hr]; rfl
  have a3 : slice l 0 0xFFC = bankBody seq := by rw [h0, slice, List.drop_zero, List.take_left' hl]
  have a4 : leAt l 0xFFC 4 = crc32 (bankBody seq) := by
    rw [h0, leAt, slice, List.drop_left' hl, List.take_of_length_le (by simp [leBytes]), leNat_leBytes _ _ (crc32_lt _)]
  exact ⟨by simp [bankValid, a1, a2, a3, a4], by rw [bankSeq, leAt, a5, leNat_leBytes _ _ hq]⟩

/-- A bank whose pieces read as its head, erased bytes and its check sum. -/
theorem bank_reads (s : State) (b seq : Nat) (hq : seq < 256 ^ 4) (hh : s.flashBytes (0x10000 + 0x1000 * b) 16 = bankHead seq)
    (hm : ∀ x, 0x10000 + 0x1000 * b + 16 ≤ x → x < 0x10000 + 0x1000 * b + 16 + 0xFEC → s.flashByte x = 0xFF#8)
    (hc : s.flashBytes (0x10000 + 0x1000 * b + 16 + 0xFEC) 4 = leBytes 4 (crc32 (bankBody seq))) :
    bankValid (s.optBank b) = true ∧ bankSeq (s.optBank b) = seq := by
  refine bank_valid _ seq hq ?_
  have hz : 0x1000 = 16 + (0xFEC + 4) := by decide
  rw [State.optBank]
  generalize 0x10000 + 0x1000 * b = a at *
  rw [hz, flashBytes_append, flashBytes_append, hh, flashBytes_blank s _ _ hm, hc, bankBody, List.append_assoc]

/-- A bank of erased bytes is not valid. -/
theorem bank_blank (s : State) (b : Nat) (hm : ∀ x, 0x10000 + 0x1000 * b ≤ x → x < 0x10000 + 0x1000 * b + 0x1000 → s.flashByte x = 0xFF#8) :
    bankValid (s.optBank b) = false := by
  have h1 : s.optBank b = List.replicate 0x1000 0xFF#8 := flashBytes_blank s _ _ hm
  have a1 : leAt (s.optBank b) 0 4 = 0xFFFFFFFF := by rw [h1]; rfl
  simp [bankValid, a1]

/-- Flash with bank 0, with bank 1, with both. -/
def flash0 : List (Nat × Byte) := bankCells 0x10000 1 (crc32 (bankBody 1))
def flash1 : List (Nat × Byte) := bankCells 0x11000 1 (crc32 (bankBody 1))
def flash01 (seq : Nat) : List (Nat × Byte) := bankCells 0x10000 1 (crc32 (bankBody 1)) ++ bankCells 0x11000 seq (crc32 (bankBody seq))

theorem flash0_reads (s : State) (h : s.flash = flash0) : bankValid (s.optBank 0) = true ∧ bankValid (s.optBank 1) = false := by
  have hf : ∀ x, s.flashByte x = cellGet 0xFF#8 (bankCells 0x10000 1 (crc32 (bankBody 1))) x := by intro x; rw [State.flashByte, h]; rfl
  generalize hc : crc32 (bankBody 1) = c at hf
  have rd : ∀ x, (0x10010 ≤ x ∧ x < 0x10FFC) ∨ 0x11000 ≤ x → s.flashByte x = 0xFF#8 := by
    intro x hx
    rw [hf]
    refine cellGet_absent _ _ _ (fun v hv => ?_)
    have := bankCells_at _ _ _ v hv; omega
  exact ⟨(bank_reads s 0 1 (by decide) (by simp only [State.flashBytes, hf]; rfl) (fun x _ _ => rd x (by omega))
    (by rw [hc]; simp only [State.flashBytes, hf]; rfl)).1, bank_blank s 1 (fun x _ _ => rd x (by omega))⟩

theorem flash1_reads (s : State) (h : s.flash = flash1) : bankValid (s.optBank 0) = false ∧ bankValid (s.optBank 1) = true := by
  have hf : ∀ x, s.flashByte x = cellGet 0xFF#8 (bankCells 0x11000 1 (crc32 (bankBody 1))) x := by intro x; rw [State.flashByte, h]; rfl
  generalize hc : crc32 (bankBody 1) = c at hf
  have rd : ∀ x, (0x11010 ≤ x ∧ x < 0x11FFC) ∨ x < 0x11000 → s.flashByte x = 0xFF#8 := by
    intro x hx
    rw [hf]
    refine cellGet_absent _ _ _ (fun v hv => ?_)
    have := bankCells_at _ _ _ v hv; omega
  exact ⟨bank_blank s 0 (fun x _ _ => rd x (by omega)), (bank_reads s 1 1 (by decide) (by simp only [State.flashBytes, hf]; rfl)
    (fun x _ _ => rd x (by omega)) (by rw [hc]; simp only [State.flashBytes, hf]; rfl)).1⟩

theorem flash01_reads (seq : Nat) (hq : seq < 256 ^ 4) (s : State) (h : s.flash = flash01 seq) :
    (bankValid (s.optBank 0) = true ∧ bankSeq (s.optBank 0) = 1) ∧ bankValid (s.optBank 1) = true ∧ bankSeq (s.optBank 1) = seq := by
  have hf : ∀ x, s.flashByte x = cellGet 0xFF#8 (bankCells 0x10000 1 (crc32 (bankBody 1)) ++ bankCells 0x11000 seq (crc32 (bankBody seq))) x := by
    intro x; rw [State.flashByte, h]; rfl
  generalize hc : crc32 (bankBody 1) = c at hf
  generalize hd : crc32 (bankBody seq) = d at hf
  have rd : ∀ x, (0x10010 ≤ x ∧ x < 0x10FFC) ∨ (0x11010 ≤ x ∧ x < 0x11FFC) → s.flashByte x = 0xFF#8 := by
    intro x hx
    rw [hf]
    refine cellGet_absent _ _ _ (fun v hv => ?_)
    rcases List.mem_append.1 hv with hv | hv <;> have := bankCells_at _ _ _ v hv <;> omega
  exact ⟨bank_reads s 0 1 (by decide) (by simp only [State.flashBytes, hf]; rfl) (fun x _ _ => rd x (by omega))
    (by rw [hc]; simp only [State.flashBytes, hf]; rfl), bank_reads s 1 seq hq (by simp only [State.flashBytes, hf]; rfl)
    (fun x _ _ => rd x (by omega)) (by rw [hd]; simp only [State.flashBytes, hf]; rfl)⟩

/-- Bank 0 is the bank in use (R80). -/
def banked : State := { runs [] with flash := flash0 }
theorem banked_inUse (s : State) (h : s.flash = flash0) : s.bankInUse = some 0 := by
  simp [State.bankInUse, flash0_reads s h, chooseBank]

/-- A PING of 16 bytes with its check sum (R114). -/
def ping : List Byte := [3#8, 2#8, 2#8, 0#8, 0#8, 0#8, 0#8, 0#8, 1#8, 0#8, 0#8, 0#8, 125#8, 123#8, 248#8, 29#8]

/-- PF_0 with an open session of major version 3 and every feature, and a PING at the head of its request ring (R114, R119). -/
def client : State :=
  { runs [(⟨0, .MB_REQ_TAIL_INDEX, 0⟩, 1)] with mail.boxes := [(0, { Mailbox.empty with session := some ⟨1, 3, 2, 2 ^ 16 - 1⟩ })] }

/-- A request of PF_0 under that session. -/
def cli : Req := ⟨0, 0, 1⟩

/-- Programming no bit of a fuse word changes nothing (R485). -/
theorem programNone (s : State) (d w value : Nat) (h : s.sec.lc = 0) : s.programWord d w value 0 = some s := by
  have nil : ∀ l : List (FuseBit × Nat), l.filter (fun _ => false) = [] := fun l => by simp
  simp [State.programWord, h, bit, nil]


/-- A word that holds a key slot or a seed is refused past LC FAB (R485). -/
theorem programRefused (s : State) (d w value mask : Nat) (hk : keyOrSeed d w = true) (h : s.sec.lc ≠ 0) : s.programWord d w value mask = none := by
  simp [State.programWord, hk, h]

/-- A queue of PF_0 on DIE_0 with 64 slots, its submission ring at 0x1000 (R274). -/
def ring (state : Nat) (flight : List Sheaf) : Queue :=
  ⟨0x1000, 6, 6, 0x2000, 0, 0, 2, 0, 0, 0, state, false, 0, 0, 0x3000, false, none, 0, [], [], flight, [], true⟩

/-- A sheaf of class 1 of silo 15 with one command, fetched and not yet ready (R275). -/
def sheaf : Sheaf :=
  ⟨0, 0, 1, 15, 0, false, false, 0, 1, 0, 0, 0, 0, none, none, 0, [.unplaced], 0, 0, none, 0, 0, false, none, none, false, 7⟩

/-- A command of that sheaf in a slot, not yet run. -/
def task (desc : List Byte) : Placed :=
  ⟨0, 0, 0, desc, 0, 0, 0, 15, 1, false, 0, false, none, [], [], [], (0, 0, 0), [], false, 0, [], (0, 0), 0, none⟩

/-- A state whose DIE_0 has that queue. -/
def queued (state : Nat) (flight : List Sheaf) (regs : List (FK × Nat)) : State :=
  { runs regs with q := ⟨[(0, ring state flight)], [], [], []⟩, pins.claims := [((2, 0, 15), (0, 1))] }

/-- A frame of a stream with nothing in it yet. -/
def plainFrame : CamFrame :=
  { count := 0, number := 0, lineScan := false, format := 0, sizeX := 0, channel := 0, outFmt := 0, tb := 0, odo := 0, width := 0, height := 0, x0 := 0, slot := 0,
    base := 0, room := 0, record := 0, tsTrig := 0, tsFs := 0, distTrig := 0, distFs := 0, marks := 0, skip := 0, blank := 0, lines := 0, crc := 0,
    damaged := false, row := [], parts := [] }

/-- The 64 bytes of a command descriptor from its 32-bit words (R280). -/
def words (l : List Nat) : List Byte := l.flatMap (leBytes 4)

/-- Cells of memory that hold bytes from an address on. -/
def cells (a : Nat) (bs : List Byte) : List (Nat × Byte) := ((rangeFrom a bs.length).zip bs).filter (fun x => decide (x.2 ≠ 0#8))

/-- Handles and bases of eight buffers of 64 KiB of silo 15 in the first slice of DIE_0 (R139, R153). -/
def hd (i : Nat) : Nat := mkHandle 0 15 0 i
def base (i : Nat) : Nat := sliceBase 0 0 + 0x10000 * i

/-- A state of DIE_0 with those buffers, bytes in them, and a command in a slot. -/
def working (slot : SlotRef) (desc : List Byte) (mem : List (Nat × Byte)) : State :=
  { runs [(⟨0, .LOFT_MAP_KV_MIB, 0⟩, 1)] with
    mem := mem, memy.bufs := (List.range 8).map (fun i => ((0, 15, i), ⟨base i, true, false, false, false, 0, 0x10000, 0⟩)),
    q.slots := [((0, slot), task desc)] }

/-- A window descriptor of a map of one pixel of one channel and a kernel of one tap (R229). -/
def window : List Byte := words [0x00010001, 0x00010001, 1, 0x00010001, 1, 0x01010101, 0x0101, 0, 0, 0, 64, 0, 0, 0, 0, 0]

/-- Records of the key-value cache: a pool of one page in slots 0 and 1, an empty sequence in slots 4 to 8, one of one row in slots 12 to 16 (R249 to R252). -/
def kvRecords : List (Nat × Byte) :=
  cells (kvBase 0) (words [hd 6, 0x00010001, 1, 1, 0, 0, 0, 0xFFFFFFFF] ++ List.replicate 32 0#8 ++
    words [0, 0x00012001, 0x00010000, 1, 0, 0, 0, 8] ++ List.replicate 96 0#8 ++ words [0, 0x00012001, 0x00010001, 1, 0, 1, 128, 16] ++
    List.replicate 32 0#8 ++ words [1, 0xFFFFFFFF, 0xFFFFFFFF, 0xFFFFFFFF])

/-- The first 64 bytes of an image of VF_2048 without sections (R312). -/
def imageHead (flags : Nat) : List Byte := words [0x4E465653, 0x08000001, flags * 2 ^ 24, 0, 128] ++ List.replicate 44 0#8

/-- A state with that image at 0x10000, a tag at its place. -/
def sealedAt (flags tag : Nat) : State :=
  { runs [] with mem := cells 0x10000 (imageHead flags) ++ (rangeFrom 0x10050 16).zip (leBytes 16 tag) }

set_option maxRecDepth 100000 in
/-- The bytes of that image, whatever its tag. -/
theorem sealed_bytes (flags tag : Nat) (h : flags = 0 ∨ flags = 3) : (sealedAt flags tag).bytes 0x10000 128 =
    imageHead flags ++ List.replicate 16 0#8 ++ leBytes 16 tag ++ List.replicate 32 0#8 := by
  rcases h with rfl | rfl <;> rfl

/-- The pieces of that image. -/
theorem sealed_pieces (flags tag : Nat) (h : flags = 0 ∨ flags = 3) (b : List Byte)
    (hb : b = imageHead flags ++ List.replicate 16 0#8 ++ leBytes 16 tag ++ List.replicate 32 0#8) :
    b.take 64 = imageHead flags ∧ b.drop 128 = [] ∧ leAt (slice b 64 64) 4 12 = 0 ∧ slice (slice b 64 64) 16 16 = leBytes 16 tag := by
  have hl : (imageHead flags).length = 64 := by rcases h with rfl | rfl <;> rfl
  have hn : ∀ n v, (leBytes n v).length = n := by
    intro n; induction n with
    | zero => intro v; rfl
    | succ n ih => intro v; simp [leBytes, ih]
  have hs : slice b 64 64 = List.replicate 16 0#8 ++ leBytes 16 tag ++ List.replicate 32 0#8 := by
    rw [hb, List.append_assoc, List.append_assoc, slice, List.drop_left' hl, List.take_of_length_le]
    · simp
    · simp [hn]
  refine ⟨?_, ?_, ?_, ?_⟩
  · rw [hb, List.append_assoc, List.append_assoc, List.take_left' hl]
  · rw [hb, List.drop_of_length_le]; simp [hl, hn]
  · have h0 : slice (slice b 64 64) 4 12 = List.replicate 12 0#8 := by
      rw [hs, slice, List.append_assoc, List.drop_append_of_le_length (by simp), List.drop_replicate, List.take_append_of_le_length (by simp),
        List.take_replicate]
      rfl
    rw [leAt, h0]; rfl
  · rw [hs, slice, List.append_assoc, List.drop_left' (by simp), List.take_left' (hn _ _)]

/-- The tag that the image bears is that of its bytes, whatever AES-GCM gives (R312, notes/assumptions/11). -/
theorem tag_agrees (flags : Nat) (h : flags = 0 ∨ flags = 3) :
    let b := (sealedAt flags (Config.gcmTag 0 0 (imageHead flags) []).toNat).bytes 0x10000 128
    (Config.gcmTag 0 (leAt (slice b 64 64) 4 12) (b.take 64) (b.drop 128)).toNat = leAt (slice b 64 64) 16 16 := by
  intro b
  have hlt : (Config.gcmTag 0 0 (imageHead flags) []).toNat < 256 ^ 16 := BitVec.isLt _
  have hb : b = _ := sealed_bytes flags _ h
  clear_value b
  revert hb hlt
  have gen : ∀ T : BitVec 128, T.toNat < 256 ^ 16 → b = imageHead flags ++ List.replicate 16 0#8 ++ leBytes 16 T.toNat ++ List.replicate 32 0#8 →
      T = Config.gcmTag 0 0 (imageHead flags) [] →
      (Config.gcmTag 0 (leAt (slice b 64 64) 4 12) (b.take 64) (b.drop 128)).toNat = leAt (slice b 64 64) 16 16 := by
    intro T hlt hb hT
    obtain ⟨h1, h2, h3, h4⟩ := sealed_pieces flags T.toNat h b hb
    rw [h1, h2, h3, ← hT, leAt, h4, leNat_leBytes _ _ hlt]
  exact fun hlt hb => gen _ hlt hb rfl

/-- The hypotheses of ResetSourcesComplete are met, each clause. -/
theorem witness_ResetSourcesComplete :
    (∃ s : State, s.boot.powered = true ∧ (∀ t, s.hasTarget t = true → s.mustHold t = false)) ∧
    (∃ s : State, ∃ d, s.boot.powered = true ∧ (∀ t, s.hasTarget t = true → s.mustHold t = false) ∧ s.hasDie d = true ∧ s.fw.activation = none ∧ s.fld d
      .RST_WDT_EN = 1) ∧
    (∃ s : State, ∃ m : Master, ∃ d, ∃ data : Word, s.boot.powered = true ∧ (∀ t, s.hasTarget t = true → s.mustHold t = false) ∧ WritesNow s m d .RSTCTL 0x10 ∧
      s.guardOk m = true ∧ bits data.toNat 31 24 = 0xA5 ∧ s.hasTarget (targetOf (bits data.toNat 5 4) (bits data.toNat 8 6) (bits data.toNat 11 9)) = true) ∧
    (∃ s : State, ∃ r : Req, ∃ scope, ∃ d, ∃ i, s.boot.powered = true ∧ (∀ t, s.hasTarget t = true → s.mustHold t = false) ∧ Serves s r 0x0830 (some (if scope
      = 0 then 0 else d)) ∧ scope ≤ 3 ∧ (if scope < 2 then r.dom = 0 ∨ r.dom = fwDom ∨ r.dom = 0x2000 else s.granted r.dom = true) ∧ s.hasTarget (targetOf
      scope d i) = true ∧ s.reachesClassS (targetOf scope d i) = false) ∧
    (∃ s : State, s.boot.powered = true ∧ (∀ t, s.hasTarget t = true → s.mustHold t = false) ∧ s.fld 0 .SEC_STATUS_DBG_AUTH = 1) ∧
    (∃ s : State, ∃ d, ∃ a, s.boot.powered = true ∧ (∀ t, s.hasTarget t = true → s.mustHold t = false) ∧ s.fld 0 .SEC_STATUS_DBG_AUTH = 1 ∧ s.hasTarget (.ap d
      a) = true) ∧
    (∃ s : State, ∃ u, s.boot.powered = true ∧ (∀ t, s.hasTarget t = true → s.mustHold t = false) ∧ s.fw.activation = none ∧ s.hasTarget (lockTarget u).1 =
      true ∧ s.hasDie (lockTarget u).2 = true) :=
  ⟨⟨(runs []), by decide +kernel, (fun t _ => noHold rfl rfl t)⟩,
    ⟨(runs [(⟨0, .RST_WDT_EN, 0⟩, 1)]), 0, by decide +kernel, (fun t _ => noHold rfl rfl t), by and_intros <;> decide +kernel⟩,
    ⟨(runs []), sch, 0, 0xA5000000, by decide +kernel, (fun t _ => noHold rfl rfl t), (WritesNow.of_flags (by decide +kernel)),
      by and_intros <;> decide +kernel⟩,
    ⟨(runs []), fwReq, 0, 0, 0, by decide +kernel, (fun t _ => noHold rfl rfl t), (.inl rfl), by and_intros <;> decide +kernel⟩,
    ⟨(runs [(⟨0, .SEC_STATUS_DBG_AUTH, 0⟩, 1)]), by decide +kernel, (fun t _ => noHold rfl rfl t), by decide +kernel⟩,
    ⟨(runs [(⟨0, .SEC_STATUS_DBG_AUTH, 0⟩, 1)]), 1, 3, by decide +kernel, (fun t _ => noHold rfl rfl t), by and_intros <;> decide +kernel⟩,
    ⟨(runs []), (.ccc 1 5), by decide +kernel, (fun t _ => noHold rfl rfl t), by and_intros <;> decide +kernel⟩⟩

/-- The hypotheses of StartupStepsComplete are met, each clause. -/
theorem witness_StartupStepsComplete :
    (∃ s : State, ∃ d, s.boot.powered = true ∧ s.boot.pkg = true ∧ s.hasDie 0 = true ∧ s.hasDie d = true ∧ d ∈ s.boot.loading) ∧
    (∃ s : State, ∃ counts, s.boot.powered = true ∧ s.boot.pkg = true ∧ s.hasDie 0 = true ∧ s.allAt 3 = true ∧ judged counts = true) ∧
    (∃ s : State, ∃ counts, s.boot.powered = true ∧ s.boot.pkg = true ∧ s.hasDie 0 = true ∧ s.allAt 3 = true ∧ judged counts = false) ∧
    (∃ s : State, s.boot.powered = true ∧ s.boot.pkg = true ∧ s.hasDie 0 = true ∧ s.allAt 4 = true) ∧
    (∃ s : State, s.boot.powered = true ∧ s.boot.pkg = true ∧ s.hasDie 0 = true ∧ s.allAt 5 = true) ∧
    (∃ s : State, s.boot.powered = true ∧ s.boot.pkg = true ∧ s.hasDie 0 = true ∧ s.allAt 6 = true ∧ s.fld 0 .SEC_STATUS_BOOT_FAIL = 0 ∧ (s.fld 0
      .RST_STATUS_BOOTSEL_EFF = 3 → s.boot.chunkTotal = some s.boot.chunks.length)) :=
  ⟨⟨{ atStep 0 [] with boot.loading := [0, 1] }, 1, by and_intros <;> decide +kernel⟩,
    ⟨(atStep 3 []), [1000, 1000, 1000, 1000, 1000, 1000, 1000, 1000], by and_intros <;> decide +kernel⟩,
    ⟨(atStep 3 []), [], by and_intros <;> decide +kernel⟩,
    ⟨(atStep 4 []), by and_intros <;> decide +kernel⟩,
    ⟨(atStep 5 []), by and_intros <;> decide +kernel⟩,
    ⟨(atStep 6 []), by and_intros <;> decide +kernel⟩⟩

/-- The hypotheses of ReleaseStepsComplete are met, each clause. -/
theorem witness_ReleaseStepsComplete :
    (∃ s : State, ∃ d, s.boot.powered = true ∧ s.hasDie 0 = true ∧ s.hasDie d = true ∧ d ≠ 0 ∧ s.stepOf d = 7 ∧ s.fld 0 .SEC_STATUS_BOOT_FAIL = 0) ∧
    (∃ s : State, s.boot.powered = true ∧ s.hasDie 0 = true ∧ s.allAt 8 = true) ∧
    (∃ s : State, ∃ d, s.boot.powered = true ∧ s.hasDie 0 = true ∧ s.hasDie d = true ∧ s.stepOf d = 8) ∧
    (∃ s : State, ∃ d, ∃ c, s.boot.powered = true ∧ s.hasDie 0 = true ∧ s.hasTarget (.cluster d c) = true ∧ (d, 4 + c) ∈ s.boot.down) ∧
    (∃ s : State, s.boot.powered = true ∧ s.hasDie 0 = true ∧ s.allAt 9 = true) ∧
    (∃ s : State, ∃ d, s.boot.powered = true ∧ s.hasDie 0 = true ∧ s.hasDie d = true ∧ s.stepOf d = 9) ∧
    (∃ s : State, ∃ d, ∃ c, s.boot.powered = true ∧ s.hasDie 0 = true ∧ s.hasTarget (.cluster d c) = true ∧ (d, c) ∈ s.boot.zeroed) ∧
    (∃ s : State, ∃ d, ∃ a, s.boot.powered = true ∧ s.hasDie 0 = true ∧ s.hasTarget (.ap d a) = true) ∧
    (∃ s : State, ∃ d, ∃ g, s.boot.powered = true ∧ s.hasDie 0 = true ∧ s.hasDie d = true ∧ hasGroup d g = true ∧ bit (s.fld d .RSTCTL_ISO_GROUPS) g = true ∧
      s.groupStable d g = true) ∧
    (∃ s : State, ∃ m : Master, ∃ d, s.boot.powered = true ∧ s.hasDie 0 = true ∧ WritesNow s m d .RSTCTL 0x20 ∧ s.guardOk m = true) ∧
    (∃ s : State, ∃ m : Master, ∃ d, ∃ data : Word, s.boot.powered = true ∧ s.hasDie 0 = true ∧ WritesNow s m d .RSTCTL 0x34 ∧ data.toNat % 2 ^ 16 = 0x6B1D) ∧
    (∃ s : State, ∃ m : Master, ∃ d, ∃ data : Word, s.boot.powered = true ∧ s.hasDie 0 = true ∧ WritesNow s m d .RSTCTL 0x34 ∧ data.toNat % 2 ^ 16 ≠ 0x6B1D) :=
  ⟨⟨(atStep 7 []), 1, by and_intros <;> decide +kernel⟩,
    ⟨(atStep 8 []), by and_intros <;> decide +kernel⟩,
    ⟨(atStep 8 []), 1, by and_intros <;> decide +kernel⟩,
    ⟨{ runs [] with boot.down := [(1, 9)] }, 1, 5, by and_intros <;> decide +kernel⟩,
    ⟨(atStep 9 []), by and_intros <;> decide +kernel⟩,
    ⟨(atStep 9 []), 1, by and_intros <;> decide +kernel⟩,
    ⟨{ runs [] with boot.zeroed := [(1, 5)] }, 1, 5, by and_intros <;> decide +kernel⟩,
    ⟨(runs []), 1, 3, by and_intros <;> decide +kernel⟩,
    ⟨(runs [(⟨1, .RSTCTL_ISO_GROUPS, 0⟩, 262144)]), 1, 18, by and_intros <;> decide +kernel⟩,
    ⟨(runs []), sch, 0, by decide +kernel, by decide +kernel, (WritesNow.of_flags (by decide +kernel)), by decide +kernel⟩,
    ⟨(runs []), sch, 0, 0x6B1D, by decide +kernel, by decide +kernel, (WritesNow.of_flags (by decide +kernel)), by decide +kernel⟩,
    ⟨(runs []), sch, 0, 0, by decide +kernel, by decide +kernel, (WritesNow.of_flags (by decide +kernel)), by decide +kernel⟩⟩

/-- The hypotheses of ResetEffectComplete are met, each clause. -/
theorem witness_ResetEffectComplete :
    (∃ s : State, s.hasDie 0 = true ∧ s.boot.powered = false) ∧
    (∃ s : State, ∃ d, s.hasDie 0 = true ∧ s.hasDie d = true) ∧
    (∃ s : State, s.hasDie 0 = true ∧ s.boot.powered = true ∧ s.boot.rstNLow = true ∧ s.stepOf 0 = 0 ∧ s.boot.loading = []) ∧
    (∃ s : State, s.hasDie 0 = true) ∧
    (∃ s : State, ∃ q, ∃ rest, s.hasDie 0 = true ∧ s.boot.powered = true ∧ s.boot.due = q :: rest ∧ q.target = .package) ∧
    (∃ s : State, ∃ q, ∃ rest, ∃ d, s.hasDie 0 = true ∧ s.boot.powered = true ∧ s.boot.due = q :: rest ∧ q.target = .die d ∧ d ≠ 0) ∧
    (∃ s : State, ∃ q, ∃ rest, ∃ d, ∃ c, s.hasDie 0 = true ∧ s.boot.powered = true ∧ s.boot.due = q :: rest ∧ q.target = .cluster d c) ∧
    (∃ s : State, ∃ q, ∃ rest, ∃ d, ∃ a, s.hasDie 0 = true ∧ s.boot.powered = true ∧ s.boot.due = q :: rest ∧ q.target = .ap d a) :=
  ⟨⟨State.reset, by and_intros <;> decide +kernel⟩,
    ⟨(runs []), 1, by and_intros <;> decide +kernel⟩,
    ⟨{ runs [] with boot.rstNLow := true, boot.step := [] }, by and_intros <;> decide +kernel⟩,
    ⟨(runs []), by decide +kernel⟩,
    ⟨{ runs [] with boot.due := [⟨5, .package, 0, false⟩] }, ⟨5, .package, 0, false⟩, [], by and_intros <;> decide +kernel⟩,
    ⟨{ runs [] with boot.due := [⟨5, .die 1, 0, false⟩] }, ⟨5, .die 1, 0, false⟩, [], 1, by and_intros <;> decide +kernel⟩,
    ⟨{ runs [] with boot.due := [⟨5, .cluster 1 5, 0, false⟩] }, ⟨5, .cluster 1 5, 0, false⟩, [], 1, 5, by and_intros <;> decide +kernel⟩,
    ⟨{ runs [] with boot.due := [⟨5, .ap 1 3, 0, false⟩] }, ⟨5, .ap 1 3, 0, false⟩, [], 1, 3, by and_intros <;> decide +kernel⟩⟩

/-- The hypotheses of ClockRowsComplete are met, each clause. -/
theorem witness_ClockRowsComplete :
    (∃ s : State, ∃ d, ∃ c, s.hasDie d = true ∧ s.boot.powered = true ∧ 5 ≤ s.stepOf 0 ∧ windowOk (windowCount c) = true) ∧
    (∃ s : State, ∃ d, ∃ c, s.hasDie d = true ∧ s.boot.powered = true ∧ 5 ≤ s.stepOf 0 ∧ windowOk (windowCount c) = false ∧ lookupD s.clk.xoFails d 0 = 1) ∧
    (∃ s : State, s.clk.awaitAck = true ∧ s.boot.powered = true ∧ s.mustHold .package = false) ∧
    (∃ s : State, ∃ m : Master, ∃ data : Word, WritesNow s m 0 .CLKCTL 0x14 ∧ s.guardOk m = true ∧ ackCounts m = true ∧ data.toNat % 2 = 1) ∧
    (∃ s : State, ∃ d, ∃ x, s.hasDie d = true ∧ x < 5 ∧ s.clk.restoring = false ∧ s.fld d .CLK_DIV_CURRENT x < s.goalOf d x ∧ s.goalOf d x < 1024) ∧
    (∃ s : State, ∃ m : Master, ∃ d, ∃ x, ∃ data : Word, x < 5 ∧ WritesNow s m d .CLKCTL (0x20 + 4 * x) ∧ s.guardOk m = true ∧ divValid x (data.toNat % 1024) =
      true) ∧
    (∃ s : State, ∃ m : Master, ∃ data : Word, WritesNow s m 0 .CLKCTL 0x10 ∧ s.guardOk m = true ∧ bits data.toNat 2 0 ≤ 4 ∧ bits data.toNat 6 5 = s.fld 0
      .CLK_CTRL_REFB_FREQ ∧ bits data.toNat 7 7 = 0) ∧
    (∃ s : State, ∃ m : Master, ∃ data : Word, WritesNow s m 0 .CLKCTL 0x10 ∧ s.guardOk m = true ∧ bits data.toNat 2 0 ≤ 4 ∧ bits data.toNat 6 5 = s.fld 0
      .CLK_CTRL_REFB_FREQ ∧ bits data.toNat 7 7 = 1 ∧ s.fld 0 .CLK_STATUS_LIMP = 1 ∧ s.clk.judging = false ∧ s.clk.restoring = false) ∧
    (∃ s : State, s.fld 0 .CLK_STATUS_ROOT_LOCK = 1) ∧
    (∃ s : State, ∃ xo, ∃ root, ∃ tref, s.clk.judging = true ∧ s.clk.restoreReq = none ∧ judged xo = true ∧ s.pllsPass root tref = true) ∧
    (∃ s : State, ∃ xo, ∃ root, ∃ tref, s.clk.judging = true ∧ s.clk.restoreReq = none ∧ ¬ (judged xo = true ∧ s.pllsPass root tref = true)) ∧
    (∃ s : State, ∃ r : Req, ∃ depth, Serves s r 0x0821 none ∧ depth ≤ 4 ∧ s.granted r.dom = true) ∧
    (∃ s : State, ∃ r : Req, Serves s r 0x0822 none ∧ s.granted r.dom = true ∧ s.clk.judging = false ∧ s.clk.restoring = false ∧ s.fld 0 .CLK_STATUS_LIMP = 1)
      :=
  ⟨⟨(runs []), 1, 1000, by and_intros <;> decide +kernel⟩,
    ⟨{ runs [] with clk.xoFails := [(1, 1)] }, 1, 0, by and_intros <;> decide +kernel⟩,
    ⟨{ runs [] with clk.awaitAck := true }, by and_intros <;> decide +kernel⟩,
    ⟨(runs []), sch, 1, (WritesNow.of_flags (by decide +kernel)), by and_intros <;> decide +kernel⟩,
    ⟨{ runs [] with clk.goal := [((1, 4), 50)] }, 1, 4, by and_intros <;> decide +kernel⟩,
    ⟨(runs []), sch, 1, 3, 96, by decide +kernel, (WritesNow.of_flags (by decide +kernel)), by and_intros <;> decide +kernel⟩,
    ⟨(runs []), sch, 4, (WritesNow.of_flags (by decide +kernel)), by and_intros <;> decide +kernel⟩,
    ⟨(runs [(⟨0, .CLK_STATUS_LIMP, 0⟩, 1)]), sch, 0x80, (WritesNow.of_flags (by decide +kernel)), by and_intros <;> decide +kernel⟩,
    ⟨(runs [(⟨0, .CLK_STATUS_ROOT_LOCK, 0⟩, 1)]), by decide +kernel⟩,
    ⟨{ runs [] with clk.judging := true }, [1000, 1000, 1000, 1000, 1000, 1000, 1000, 1000], [⟨1000, [1000, 1000, 1000, 1000, 1000, 1000, 1000, 1000]⟩, ⟨1000,
      [1000, 1000, 1000, 1000, 1000, 1000, 1000, 1000]⟩], [⟨1000, [1000, 1000, 1000, 1000, 1000, 1000, 1000, 1000]⟩, ⟨1000, [1000, 1000, 1000, 1000, 1000,
      1000, 1000, 1000]⟩], by and_intros <;> decide +kernel⟩,
    ⟨{ runs [] with clk.judging := true }, [1000, 1000, 1000, 1000, 1000, 1000, 1000, 1000], [], [], by and_intros <;> decide +kernel⟩,
    ⟨(runs []), fwReq, 4, (.inl rfl), by and_intros <;> decide +kernel⟩,
    ⟨(runs [(⟨0, .CLK_STATUS_LIMP, 0⟩, 1)]), fwReq, (.inl rfl), by and_intros <;> decide +kernel⟩⟩

/-- The hypotheses of PinRowsComplete are met, each clause. -/
theorem witness_PinRowsComplete :
    (∃ s : State, ∃ r : Req, ∃ g, Serves s r 0x0100 (some g.die) ∧ s.rangeOk g = true ∧ g.cls ≤ 4 ∧ s.safetyRefuses r g = false ∧ (s.major2 r = true → g.cls ≠
      0) ∧ s.conflictIn r.dom g.resType g.die (rangeIndices g) = none) ∧
    (∃ s : State, ∃ r : Req, ∃ g, Serves s r 0x0101 (some g.die) ∧ s.rangeOk g = true ∧ g.cls = 0 ∧ (s.major2 r = true → ∀ i ∈ rangeIndices g, s.holder
      g.resType g.die i = noDom ∨ s.claimClass g.resType g.die i ≠ 0) ∧ s.conflictIn r.dom g.resType g.die (rangeIndices g) = none) ∧
    (∃ s : State, ∃ r : Req, ∃ d, ∃ p, ∃ image : Word, Serves s r 0x0102 (some d) ∧ s.hasDie d = true ∧ hasSignal d p = true ∧ image.toNat < 2 ^ 14 ∧
      funcReserved p (bits image.toNat 3 0) = false ∧ s.pinHolder d p = r.dom ∧ r.dom ≠ noDom) ∧
    (∃ s : State, ∃ m : Master, ∃ d, ∃ p, s.hasDie d = true ∧ p < 768 ∧ WritesNow s m d .PINMUX (0x1000 + 4 * p) ∧ hasSignal d p = true ∧ (s.pinHolder d p =
      noDom ∨ s.pinHolder d p = writerOf m)) ∧
    (∃ s : State, ∃ m : Master, ∃ d, ∃ data : Word, WritesNow s m d .PINMUX 0x10 ∧ s.guardOk m = true ∧ hasSignal d (bits data.toNat 9 0) = true ∧ isSafeOut d
      (bits data.toNat 9 0) = false) :=
  ⟨⟨(runs []), fwReq, ⟨1, 0, 376, 2, 1⟩, (.inl rfl), by and_intros <;> decide +kernel⟩,
    ⟨(runs []), fwReq, ⟨1, 0, 376, 2, 0⟩, (.inl rfl), by and_intros <;> decide +kernel⟩,
    ⟨{ runs [] with pins.claims := [((1, 0, 376), (0xFF00, 1))] }, fwReq, 0, 376, 0x35D0, (.inl rfl), by and_intros <;> decide +kernel⟩,
    ⟨(runs []), sch, 0, 376, by decide +kernel, by decide +kernel, (WritesNow.of_flags (by decide +kernel)), by and_intros <;> decide +kernel⟩,
    ⟨(runs []), sch, 0, 0x8178, (WritesNow.of_flags (by decide +kernel)), by and_intros <;> decide +kernel⟩⟩

/-- The hypotheses of AccessRowsComplete are met, each clause. -/
theorem witness_AccessRowsComplete :
    (∃ s : State, ∃ d, ∃ p, ∃ w, s.hasDie d = true ∧ s.bus.posted.find? (fun w => decide (w.die = d) && decide (w.blk = p)) = some w) ∧
    (∃ s : State, ∃ d, ∃ p, ∃ w, s.hasDie d = true ∧ s.bus.posted.find? (fun w => decide (w.die = d) && decide (w.blk = p)) = some w ∧ peripheral (blkOfPosted
      p) = true) ∧
    (∃ s : State, ∃ m : Master, ∃ a, ∃ d, ∃ off, decodeAddr s.part m.die a = .regs d off ∧ sizeOk d off 4 = true ∧ inApintc off = false ∧ s.refusal m d off =
      none) ∧
    (∃ s : State, ∃ m : Master, ∃ a, ∃ d, ∃ off, decodeAddr s.part m.die a = .regs d off ∧ sizeOk d off 4 = true ∧ inApintc off = false ∧ s.refusal m d off =
      none) ∧
    (∃ s : State, ∃ m : Master, ∃ a, ∃ d, ∃ off, decodeAddr s.part m.die a = .regs d off ∧ sizeOk d off 4 = true ∧ inApintc off = false ∧ s.refusal m d off =
      none) ∧
    (∃ s : State, ∃ m : Master, ∃ a, ∃ d, ∃ off, ∃ blk, ∃ o, decodeAddr s.part m.die a = .regs d off ∧ sizeOk d off 4 = true ∧ inApintc off = false ∧ s.refusal
      m d off = none ∧ s.readWaits m d off = false ∧ blockAt d off = some (blk, o)) ∧
    (∃ s : State, ∃ m : Master, ∃ a, ∃ d, ∃ off, ∃ blk, ∃ o, decodeAddr s.part m.die a = .regs d off ∧ sizeOk d off 4 = true ∧ inApintc off = false ∧ s.refusal
      m d off = none ∧ s.readWaits m d off = false ∧ blockAt d off = some (blk, o)) ∧
    (∃ s : State, ∃ m : Master, ∃ a, ∃ d, ∃ off, ∃ blk, ∃ o, decodeAddr s.part m.die a = .regs d off ∧ sizeOk d off 4 = true ∧ inApintc off = false ∧ s.refusal
      m d off = none ∧ s.readWaits m d off = false ∧ blockAt d off = some (blk, o)) ∧
    (∃ s : State, ∃ m : Master, ∃ d, d < 8 ∧ s.hasDie d = true ∧ s.refusal m d 0x8 = none ∧ s.readWaits m d 0x8 = false) ∧
    (∃ s : State, ∃ m : Master, ∃ d, d < 8 ∧ s.hasDie d = true ∧ s.refusal m d 0xD0000 = none ∧ s.readWaits m d 0xD0000 = false) ∧
    (∃ s : State, ∃ m : Master, ∃ d, d < 8 ∧ s.hasDie d = true ∧ s.refusal m d 0x300000 = none ∧ s.readWaits m d 0x300000 = false) ∧
    (∃ s : State, ∃ m : Master, ∃ d, d < 8 ∧ s.hasDie d = true ∧ s.refusal m d 0x320000 = none ∧ s.readWaits m d 0x320000 = false) ∧
    (∃ s : State, ∃ m : Master, ∃ d, d < 8 ∧ s.hasDie d = true ∧ s.refusal m d 0x30000 = none ∧ s.readWaits m d 0x30000 = false) ∧
    (∃ s : State, ∃ m : Master, ∃ a, ∃ n, ∃ d, ∃ o, (decodeAddr s.part m.die a = .dram d o ∨ decodeAddr s.part m.die a = .granary d o ∨ decodeAddr s.part m.die
      a = .loft d o) ∧ n ≠ 0 ∧ s.memRefusal m a n = none) ∧
    (∃ s : State, ∃ m : Master, ∃ a, ∃ n, ∃ d, ∃ o, (decodeAddr s.part m.die a = .dram d o ∨ decodeAddr s.part m.die a = .granary d o ∨ decodeAddr s.part m.die
      a = .loft d o) ∧ n ≠ 0 ∧ s.memRefusal m a n = none ∧ s.poisoned a n = none) :=
  ⟨⟨{ runs [] with bus.posted := [⟨sch, 0, .uart 3, 0xC004, 1, 4⟩] }, 0, (.uart 3), ⟨sch, 0, .uart 3, 0xC004, 1, 4⟩, by and_intros <;> decide +kernel⟩,
    ⟨{ runs [] with bus.posted := [⟨sch, 0, .uart 3, 0xC004, 1, 4⟩] }, 0, (.uart 3), ⟨sch, 0, .uart 3, 0xC004, 1, 4⟩, by and_intros <;> decide +kernel⟩,
    ⟨(runs []), sch, 0xF00000000008, 0, 8, by and_intros <;> decide +kernel⟩,
    ⟨(runs []), sch, 0xF00000000008, 0, 8, by and_intros <;> decide +kernel⟩,
    ⟨(runs []), sch, 0xF00000000008, 0, 8, by and_intros <;> decide +kernel⟩,
    ⟨(runs []), sch, 0xF00000000008, 0, 8, _, _, by decide +kernel, by decide +kernel, by decide +kernel, by decide +kernel, by decide +kernel, rfl⟩,
    ⟨(runs []), sch, 0xF00000000008, 0, 8, _, _, by decide +kernel, by decide +kernel, by decide +kernel, by decide +kernel, by decide +kernel, rfl⟩,
    ⟨(runs []), sch, 0xF00000000008, 0, 8, _, _, by decide +kernel, by decide +kernel, by decide +kernel, by decide +kernel, by decide +kernel, rfl⟩,
    ⟨(runs []), sch, 1, by and_intros <;> decide +kernel⟩,
    ⟨(runs []), sch, 1, by and_intros <;> decide +kernel⟩,
    ⟨(runs []), sch, 1, by and_intros <;> decide +kernel⟩,
    ⟨(runs []), sch, 1, by and_intros <;> decide +kernel⟩,
    ⟨(runs []), sch, 1, by and_intros <;> decide +kernel⟩,
    ⟨(runs []), sch, 0x13FFFFFFFC, 4, 1, 0x3FFFFFFFC, by and_intros <;> decide +kernel⟩,
    ⟨(runs []), sch, 0x800040000000, 8, 1, 0, by and_intros <;> decide +kernel⟩⟩

/-- The hypotheses of PlatformQueriesComplete are met, each clause. -/
theorem witness_PlatformQueriesComplete :
    (∃ s : State, ∃ r : Req, ∃ d, ∃ p, Serves s r 0x0103 (some d) ∧ s.hasDie d = true ∧ hasSignal d p = true) ∧
    (∃ s : State, ∃ r : Req, ∃ d, Serves s r 0x0820 (some d) ∧ s.hasDie d = true) ∧
    (∃ s : State, ∃ r : Req, ∃ d, Serves s r 0x0831 (some d) ∧ s.hasDie d = true) ∧
    (∃ s : State, ∃ r : Req, ∃ b, Serves s r 0x0832 none ∧ s.bankInUse = some b) ∧
    (∃ s : State, ∃ r : Req, ∃ b, ∃ seq, Serves s r 0x0833 none ∧ s.granted r.dom = true ∧ s.boot.optWrite = none ∧ s.bankInUse = some b ∧ seq = bankSeq
      (s.optBank b)) ∧
    (∃ s : State, ∃ r : Req, Serves s r 0x0833 none ∧ s.granted r.dom = true ∧ s.boot.optWrite = none ∧ s.bankInUse = none) ∧
    (∃ s : State, ∃ r : Req, Serves s r 0x0833 none ∧ s.granted r.dom = true ∧ s.boot.optWrite.isSome = true) :=
  ⟨⟨(runs []), fwReq, 0, 376, (.inl rfl), by and_intros <;> decide +kernel⟩,
    ⟨(runs []), fwReq, 1, (.inl rfl), by decide +kernel⟩,
    ⟨(runs []), fwReq, 1, (.inl rfl), by decide +kernel⟩,
    ⟨banked, fwReq, 0, (.inl rfl), banked_inUse _ rfl⟩,
    ⟨banked, fwReq, 0, _, (.inl rfl), by decide +kernel, by decide +kernel, banked_inUse _ rfl, rfl⟩,
    ⟨(runs []), fwReq, (.inl rfl), by and_intros <;> decide +kernel⟩,
    ⟨{ runs [] with boot.optWrite := some ⟨fwReq, 0, [], 0⟩ }, fwReq, (.inl rfl), by and_intros <;> decide +kernel⟩⟩

/-- The hypotheses of SessionRowsComplete are met, each clause. -/
theorem witness_SessionRowsComplete :
    (∃ s : State, ∃ m : Master, ∃ dom, ∃ data : Word, ∃ units : List Byte, ∃ u, u = s.fillRing m dom units ∧ WritesNow u m (homeOf u.part.dies dom) .MBOX
      (pageOf dom * 0x1000 + 0x4) ∧ (data.toNat % 512 + 512 - u.mbFld dom .MB_REQ_HEAD_INDEX) % 512 ≤ 256 ∧ u.reqHeld dom ≤ (data.toNat % 512 + 512 - u.mbFld
      dom .MB_REQ_HEAD_INDEX) % 512) ∧
    (∃ s : State, ∃ m : Master, ∃ dom, ∃ data : Word, WritesNow s m (homeOf s.part.dies dom) .MBOX (pageOf dom * 0x1000 + 0x10) ∧ (data.toNat % 512 + 512 -
      s.mbFld dom .MB_RSP_HEAD_INDEX) % 512 ≤ s.rspHeld dom) ∧
    (∃ s : State, ∃ m : Master, ∃ dom, ∃ data : Word, WritesNow s m (homeOf s.part.dies dom) .MBOX (pageOf dom * 0x1000 + 0x28) ∧ s.vectorOk dom (bits
      data.toNat 10 0) = true) ∧
    (∃ s : State, ∃ r : Req, r.dom ≠ fwDom ∧ s.canServe r.dom 0 0 = true ∧ r.session = 0) ∧
    (∃ s : State, ∃ r : Req, r.dom ≠ fwDom ∧ Serves s r 1 none) ∧
    (∃ s : State, ∃ r : Req, ∃ payload : List Byte, Serves s r 2 none ∧ payload.length ≤ 64) ∧
    (∃ s : State, ∃ r : Req, Serves s r 3 none) ∧
    (∃ s : State, ∃ r : Req, ∃ mask, ∃ en, ∃ v, Serves s r 4 none ∧ en ≤ 1 ∧ mask < 2 ^ 256 ∧ s.vectorOk r.dom v = true) ∧
    (∃ s : State, ∃ dom, ∃ e : EvRec, ∃ rest, ∃ x, (s.box dom).evq = e :: rest ∧ (s.box dom).session = some x ∧ s.rspHeld dom + 3 ≤ 256 ∧ s.blackout 2 (homeOf
      s.part.dies dom) = false ∧ s.fwRuns (homeOf s.part.dies dom) = true) :=
  ⟨⟨client, sch, 0, 1, [], client, rfl, (WritesNow.of_flags (by decide +kernel)), by and_intros <;> decide +kernel⟩,
    ⟨client, sch, 0, 0, (WritesNow.of_flags (by decide +kernel)), by decide +kernel⟩,
    ⟨client, sch, 0, 63, (WritesNow.of_flags (by decide +kernel)), by decide +kernel⟩,
    ⟨(runs []), ⟨0, 0, 0⟩, by and_intros <;> decide +kernel⟩,
    ⟨client, cli, by decide +kernel, (.inr ⟨by decide +kernel, by decide +kernel⟩)⟩,
    ⟨client, cli, (List.replicate 64 0), (.inr ⟨by decide +kernel, by decide +kernel⟩), by decide +kernel⟩,
    ⟨client, cli, (.inr ⟨by decide +kernel, by decide +kernel⟩)⟩,
    ⟨client, cli, 0, 1, 63, (.inr ⟨by decide +kernel, by decide +kernel⟩), by and_intros <;> decide +kernel⟩,
    ⟨{ client with mail.boxes := [(0, { Mailbox.empty with session := some ⟨1, 3, 2, 1⟩, evq := [⟨.clkFail, 0, 0, 0, 0, 0, []⟩] })] }, 0, ⟨.clkFail, 0, 0, 0,
      0, 0, []⟩, [], ⟨1, 3, 2, 1⟩, by and_intros <;> decide +kernel⟩⟩

/-- The hypotheses of LiveUpdateRowsComplete are met, each clause. -/
theorem witness_LiveUpdateRowsComplete :
    (∃ s : State, ∃ r : Req, ∃ addr, ∃ len, ∃ v, Serves s r 0x0A00 none ∧ s.fwSender r.dom = true ∧ len ≤ 0x1000000 ∧ s.inDram addr len = true ∧
      s.fw.activation = none ∧ s.verify (fun o n => s.bytes (addr + o) (min n (len - o))) false = v) ∧
    (∃ s : State, ∃ r : Req, ∃ kinds, ∃ dies, ∃ clusters, ∃ flags, ∃ i, ∃ bs, ∃ u, ∃ us, Serves s r 0x0A01 none ∧ kinds < 16 ∧ dies < 256 ∧ clusters < 64 ∧
      flags < 2 ∧ s.fwSender r.dom = true ∧ s.fw.staged = some (i, bs) ∧ s.fw.activation = none ∧ s.fld 0 .CLK_STATUS_LIMP ≠ 1 ∧ s.takeoverOrMigration = false
      ∧ s.fwSelect kinds dies clusters = u :: us) ∧
    (∃ s : State, ∃ r : Req, Serves s r 0x0A02 none ∧ s.fwSender r.dom = true) ∧
    (∃ s : State, ∃ r : Req, Serves s r 0x0A03 none ∧ s.fwSender r.dom = true ∧ s.fw.activation = none) ∧
    (∃ s : State, ∃ a, s.inPhase .copying = some a) ∧
    (∃ s : State, ∃ a, ∃ h : Handoff, s.inPhase .copied = some a ∧ rejects h (readBack h (s.handoffRecord a.last (s.runningVersion a.last) a.info.version h)) =
      false) ∧
    (∃ s : State, ∃ a, ∃ h : Handoff, s.inPhase .copied = some a ∧ rejects h (readBack h (s.handoffRecord a.last (s.runningVersion a.last) a.info.version h)) =
      true) ∧
    (∃ s : State, ∃ a, s.inPhase .blackout = some a) ∧
    (∃ s : State, ∃ a, s.inPhase .blackout = some a) ∧
    (∃ s : State, ∃ a, s.inPhase .probation = some a) ∧
    (∃ s : State, ∃ a, ∃ u, ∃ us, s.inPhase .probation = some a ∧ a.stop = false ∧ a.todo = u :: us) ∧
    (∃ s : State, ∃ a, ∃ i, ∃ bs, s.inPhase .persisting = some a ∧ s.fw.staged = some (i, bs)) :=
  ⟨⟨(runs []), fwReq, 0, 0x1000000, _, (.inl rfl), by decide +kernel, by decide +kernel, by decide +kernel, by decide +kernel, rfl⟩,
    ⟨{ runs [] with fw.staged := some (⟨1, 1, 0, 0, []⟩, []) }, fwReq, 1, 1, 1, 1, ⟨1, 1, 0, 0, []⟩, [], ⟨3, 0, 0⟩, [], (.inl rfl),
      by and_intros <;> decide +kernel⟩,
    ⟨(runs []), fwReq, (.inl rfl), by decide +kernel⟩,
    ⟨(runs []), fwReq, (.inl rfl), by and_intros <;> decide +kernel⟩,
    ⟨{ runs [] with fw.activation := some ⟨fwReq, [], 0, ⟨2, 0, 0⟩, .copying, false, ⟨1, 1, 0, 0, []⟩, false⟩ }, ⟨fwReq, [], 0, ⟨2, 0, 0⟩, .copying, false, ⟨1,
      1, 0, 0, []⟩, false⟩, by decide +kernel⟩,
    ⟨{ runs [] with fw.activation := some ⟨fwReq, [], 0, ⟨2, 0, 0⟩, .copied, false, ⟨1, 1, 0, 0, []⟩, false⟩ }, ⟨fwReq, [], 0, ⟨2, 0, 0⟩, .copied, false, ⟨1,
      1, 0, 0, []⟩, false⟩, ⟨1, 0, [⟨0x8001, 1, [1]⟩], [1], [0x8001], none⟩, by and_intros <;> decide +kernel⟩,
    ⟨{ runs [] with fw.activation := some ⟨fwReq, [], 0, ⟨2, 0, 0⟩, .copied, false, ⟨1, 1, 0, 0, []⟩, false⟩ }, ⟨fwReq, [], 0, ⟨2, 0, 0⟩, .copied, false, ⟨1,
      1, 0, 0, []⟩, false⟩, ⟨1, 0, [⟨0x8001, 1, [1]⟩], [1], [], none⟩, by and_intros <;> decide +kernel⟩,
    ⟨{ runs [] with fw.activation := some ⟨fwReq, [], 0, ⟨2, 0, 0⟩, .blackout, false, ⟨1, 1, 0, 0, []⟩, false⟩ }, ⟨fwReq, [], 0, ⟨2, 0, 0⟩, .blackout, false,
      ⟨1, 1, 0, 0, []⟩, false⟩, by decide +kernel⟩,
    ⟨{ runs [] with fw.activation := some ⟨fwReq, [], 0, ⟨2, 0, 0⟩, .blackout, false, ⟨1, 1, 0, 0, []⟩, false⟩ }, ⟨fwReq, [], 0, ⟨2, 0, 0⟩, .blackout, false,
      ⟨1, 1, 0, 0, []⟩, false⟩, by decide +kernel⟩,
    ⟨{ runs [] with fw.activation := some ⟨fwReq, [], 0, ⟨2, 0, 0⟩, .probation, false, ⟨1, 1, 0, 0, []⟩, false⟩ }, ⟨fwReq, [], 0, ⟨2, 0, 0⟩, .probation, false,
      ⟨1, 1, 0, 0, []⟩, false⟩, by decide +kernel⟩,
    ⟨{ runs [] with fw.activation := some ⟨fwReq, [⟨1, 0, 0⟩], 0, ⟨2, 0, 0⟩, .probation, false, ⟨1, 1, 0, 0, []⟩, false⟩ }, ⟨fwReq, [⟨1, 0, 0⟩], 0, ⟨2, 0, 0⟩,
      .probation, false, ⟨1, 1, 0, 0, []⟩, false⟩, ⟨1, 0, 0⟩, [], by and_intros <;> decide +kernel⟩,
    ⟨{ runs [] with fw.activation := some ⟨fwReq, [], 0, ⟨2, 0, 0⟩, .persisting, false, ⟨1, 1, 0, 0, []⟩, false⟩, fw.staged := some (⟨1, 1, 0, 0, []⟩, []) },
      ⟨fwReq, [], 0, ⟨2, 0, 0⟩, .persisting, false, ⟨1, 1, 0, 0, []⟩, false⟩, ⟨1, 1, 0, 0, []⟩, [], by and_intros <;> decide +kernel⟩⟩

/-- The hypotheses of MemoryEventsComplete are met, each clause. -/
theorem witness_MemoryEventsComplete :
    (∃ s : State, ∃ addr, ∃ l, memLoc s.part addr = some l ∧ l.mem < 2) ∧
    (∃ s : State, ∃ d, ∃ unit, s.hasDie d = true ∧ unit < 7 ∧ s.fld d .GRN_SCRUB_EN = 1 ∧ s.blkUp d .GRANARY 0 = true ∧ s.poisoned (scrubAddr d unit (lookupD
      s.memy.scrub (d, unit) 0)) 64 = none) ∧
    (∃ s : State, ∃ d, ∃ unit, s.hasDie d = true ∧ unit < 7 ∧ s.fld d .GRN_SCRUB_EN = 1 ∧ s.blkUp d .GRANARY 0 = true ∧ s.poisoned (scrubAddr d unit (lookupD
      s.memy.scrub (d, unit) 0)) 64 = none ∧ (∀ k, k < 4 → (memLoc s.part ((scrubAddr d unit (lookupD s.memy.scrub (d, unit) 0)) + 16 * k)).isSome = true)) ∧
    (∃ s : State, ∃ d, ∃ unit, s.hasDie d = true ∧ unit < 7 ∧ s.fld d .GRN_SCRUB_EN = 1 ∧ s.blkUp d .GRANARY 0 = true ∧ s.poisoned (scrubAddr d unit (lookupD
      s.memy.scrub (d, unit) 0)) 64 = none ∧ (∀ k, k < 4 → (memLoc s.part ((scrubAddr d unit (lookupD s.memy.scrub (d, unit) 0)) + 16 * k)).isSome = true)) ∧
    (∃ s : State, ∃ d, ∃ unit, ∃ g, s.hasDie d = true ∧ unit < 7 ∧ s.fld d .GRN_SCRUB_EN = 1 ∧ s.blkUp d .GRANARY 0 = true ∧ s.poisonIn (scrubAddr d unit
      (lookupD s.memy.scrub (d, unit) 0)) 64 = [g]) ∧
    (∃ s : State, ∃ addr, ∃ l, memLoc s.part addr = some l ∧ l.mem = 2) ∧
    (∃ s : State, ∃ addr, ∃ l, memLoc s.part addr = some l ∧ l.mem = 2) ∧
    (∃ s : State, ∃ d, ∃ ch, s.hasDie d = true ∧ ch < 8 ∧ s.fld d .DRAM_CFG_PD_IDLE ≠ 0 ∧ s.fld d .DRAM_STATUS_TRAINED ≠ 0 ∧ (d, ch) ∉ s.memy.powerDown) ∧
    (∃ s : State, ∃ d, ∃ ch, s.hasDie d = true ∧ ch < 8) ∧
    (∃ s : State, ∃ d, ∃ k, ∃ sl, ∃ i, ∃ e, ∃ rest, ∃ a, s.hasDie d = true ∧ k < 16 ∧ sl < 6 ∧ s.quotaOf d k sl < s.usedBushels d k sl ∧ lookup? s.memy.spills
      (d, k, sl) = none ∧ (s.slicesBufs d k sl (fun e => !e.spilled && !e.pinned && !e.moving)).reverse = (i, e) :: rest ∧ (∀ x ∈ s.dieList, s.killWhere x true
      (fun _ p => decide (mkHandle d k e.gen i ∈ s.handlesOf p.desc)) = s) ∧ s.naming (mkHandle d k e.gen i) = [] ∧ s.findSpill d e.length = some a) ∧
    (∃ s : State, ∃ d, ∃ k, ∃ sl, ∃ m, lookup? s.memy.spills (d, k, sl) = some m ∧ m.refill = false ∧ (s.moveEnd d k sl m).quotaOf d k sl < (s.moveEnd d k sl
      m).usedBushels d k sl) ∧
    (∃ s : State, ∃ d, ∃ k, ∃ sl, ∃ m, lookup? s.memy.spills (d, k, sl) = some m ∧ m.refill = false ∧ (s.moveEnd d k sl m).usedBushels d k sl ≤ (s.moveEnd d k
      sl m).quotaOf d k sl) ∧
    (∃ s : State, ∃ d, ∃ k, ∃ sl, ∃ m, ∃ e, lookup? (s.startRefill d k sl).memy.spills (d, k, sl) = some m ∧ m.refill = true ∧ lookup? (s.startRefill d k
      sl).memy.bufs (d, k, m.index) = some e) :=
  ⟨⟨(runs []), 0x800000000000, _, rfl, by decide +kernel⟩,
    ⟨(runs []), 1, 6, by and_intros <;> decide +kernel⟩,
    ⟨(runs []), 1, 6, by decide +kernel, by decide +kernel, by decide +kernel, by decide +kernel, rfl, by decide +kernel⟩,
    ⟨(runs []), 1, 6, by decide +kernel, by decide +kernel, by decide +kernel, by decide +kernel, rfl, by decide +kernel⟩,
    ⟨{ runs [] with memy.poison := [(scrubAddr 1 6 0 + 48, 5)] }, 1, 6, (scrubAddr 1 6 0 + 48), by and_intros <;> decide +kernel⟩,
    ⟨(runs []), 0x13FFFFFFF0, _, rfl, by decide +kernel⟩,
    ⟨(runs []), 0x13FFFFFFF0, _, rfl, by decide +kernel⟩,
    ⟨(runs [(⟨1, .DRAM_STATUS_TRAINED, 0⟩, 1)]), 1, 7, by and_intros <;> decide +kernel⟩,
    ⟨(runs []), 1, 7, by and_intros <;> decide +kernel⟩,
    ⟨{ runs [] with memy.bufs := [((0, 0, 3), ⟨sliceBase 0 2, true, false, false, false, 2, 0x10000, 5⟩)] }, 0, 0, 2, 3, ⟨sliceBase 0 2, true, false, false,
      false, 2, 0x10000, 5⟩, [], _, by decide +kernel, by decide +kernel, by decide +kernel, by decide +kernel, by decide +kernel, by decide +kernel, (fun x hx
      => rfl), by decide +kernel, rfl⟩,
    ⟨{ runs [] with memy.bufs := [((0, 0, 3), ⟨sliceBase 0 2, true, false, false, true, 2, 0x10000, 5⟩), ((0, 0, 4), ⟨sliceBase 0 2 + 0x10000, true, false, false, false, 2, 0x10000, 5⟩)], memy.spills := [((0, 0, 2), ⟨3, false, 0x3C0400000, none⟩)] },
      0, 0, 2, ⟨3, false, 0x3C0400000, none⟩, by and_intros <;> decide +kernel⟩,
    ⟨{ runs [] with memy.bufs := [((0, 0, 3), ⟨sliceBase 0 2, true, false, false, true, 2, 0x10000, 5⟩)], memy.spills := [((0, 0, 2), ⟨3, false, 0x3C0400000, none⟩)] },
      0, 0, 2, ⟨3, false, 0x3C0400000, none⟩, by and_intros <;> decide +kernel⟩,
    ⟨{ runs [] with memy.bufs := [((0, 0, 3), ⟨0x3C0400000, true, true, false, true, 2, 0x10000, 5⟩)], memy.spills := [((0, 0, 2), ⟨3, true, sliceBase 0 2, none⟩)] },
      0, 0, 2, ⟨3, true, sliceBase 0 2, none⟩, ⟨0x3C0400000, true, true, false, true, 2, 0x10000, 5⟩, by and_intros <;> decide +kernel⟩⟩

/-- The hypotheses of MemoryRequestsComplete are met, each clause. -/
theorem witness_MemoryRequestsComplete :
    (∃ s : State, ∃ m : Master, ∃ d, ∃ k, ∃ sl, ∃ data : Word, k < 16 ∧ sl < 6 ∧ WritesNow s m d .GRANARY (0x1000 + 0x20 * k + 4 * sl) ∧ s.guardOk m = true ∧
      s.quotaFits d k sl (data.toNat % 2 ^ 11) = true) ∧
    (∃ s : State, ∃ m : Master, ∃ d, ∃ data : Word, WritesNow s m d .LOFT 0x010 ∧ s.guardOk m = true ∧ s.mapFits d (bits data.toNat 3 0) (bits data.toNat 20
      16) = true ∧ s.mapBusy d = false) ∧
    (∃ s : State, ∃ m : Master, ∃ d, ∃ k, ∃ data : Word, k < 16 ∧ WritesNow s m d .LOFT (0x100 + 4 * k) ∧ s.guardOk m = true ∧ (s.scratchOf d k).length ≤
      data.toNat % 2 ^ 9 ∧ s.scratchFits d k (data.toNat % 2 ^ 9) = true) ∧
    (∃ s : State, ∃ r : Req, ∃ d, ∃ k, ∃ sl, ∃ quota, Serves s r 0x0240 (some d) ∧ s.hasDie d = true ∧ k < 16 ∧ sl < 6 ∧ s.manager r.dom = true ∧ s.quotaFits d
      k sl quota = true ∧ s.shrinkRefusal d k sl quota = none ∧ (s.putQuota d k sl quota).quotaOf d k sl = quota ∧ (s.putQuota d k sl quota).usedBushels d k sl
      ≤ quota) ∧
    (∃ s : State, ∃ r : Req, ∃ d, ∃ k, ∃ sl, ∃ quota, Serves s r 0x0240 (some d) ∧ s.hasDie d = true ∧ k < 16 ∧ sl < 6 ∧ s.manager r.dom = true ∧ s.quotaFits d
      k sl quota = true ∧ s.shrinkRefusal d k sl quota = none ∧ quota < (s.putQuota d k sl quota).usedBushels d k sl) ∧
    (∃ s : State, ∃ r : Req, ∃ d, ∃ k, ∃ quota, Serves s r 0x0240 (some d) ∧ s.hasDie d = true ∧ k < 16 ∧ s.manager r.dom = true ∧ s.scratchFits d k quota =
      true ∧ (s.scratchOf d k).length ≤ quota) ∧
    (∃ s : State, ∃ r : Req, ∃ d, ∃ k, ∃ sl, ∃ flags, ∃ length, ∃ i, ∃ a, Serves s r 0x0241 (some d) ∧ s.hasDie d = true ∧ k < 16 ∧ sl < 6 ∧ flags < 2 ∧ length
      ≠ 0 ∧ s.holder 2 d k = r.dom ∧ (flags = 1 → s.siloClass d k < 2) ∧ s.allocRun d k sl length = some a ∧ s.freeEntry d k = some i) ∧
    (∃ s : State, ∃ r : Req, ∃ h : Word, ∃ e, Serves s r 0x0242 (some (handleDie h.toNat)) ∧ s.hasDie (handleDie h.toNat) = true ∧ s.holder 2 (s.bufDie
      h.toNat) (handleSilo h.toNat) = r.dom ∧ s.bufOf h.toNat = some e ∧ s.naming h.toNat = [] ∧ e.moving = false) ∧
    (∃ s : State, ∃ r : Req, ∃ h : Word, ∃ e, Serves s r 0x0243 (some (handleDie h.toNat)) ∧ s.hasDie (handleDie h.toNat) = true ∧ s.holder 2 (s.bufDie
      h.toNat) (handleSilo h.toNat) = r.dom ∧ s.bufOf h.toNat = some e) ∧
    (∃ s : State, ∃ r : Req, ∃ d, ∃ kv, ∃ stook, Serves s r 0x0244 (some d) ∧ s.hasDie d = true ∧ s.mapFits d kv stook = true ∧ s.manager r.dom = true ∧
      s.mapBusy d = false) ∧
    (∃ s : State, ∃ r : Req, ∃ d, Serves s r 0x0740 (some d) ∧ s.hasDie d = true) :=
  ⟨⟨(runs []), sch, 1, 15, 5, 1280, by decide +kernel, by decide +kernel, (WritesNow.of_flags (by decide +kernel)), by and_intros <;> decide +kernel⟩,
    ⟨(runs []), sch, 1, 0x00080008, (WritesNow.of_flags (by decide +kernel)), by and_intros <;> decide +kernel⟩,
    ⟨(runs []), sch, 1, 15, 16, by decide +kernel, (WritesNow.of_flags (by decide +kernel)), by and_intros <;> decide +kernel⟩,
    ⟨(runs []), fwReq, 1, 15, 5, 1280, (.inl rfl), by and_intros <;> decide +kernel⟩,
    ⟨{ runs [(⟨0, .GRN_QUOTA_QUOTA, 2⟩, 1)] with memy.bufs := [((0, 0, 3), ⟨sliceBase 0 2, true, false, false, false, 2, 0x10000, 5⟩)] }, fwReq, 0, 0, 2, 0,
      (.inl rfl), by and_intros <;> decide +kernel⟩,
    ⟨(runs []), fwReq, 1, 15, 16, (.inl rfl), by and_intros <;> decide +kernel⟩,
    ⟨{ runs [(⟨0, .GRN_QUOTA_QUOTA, 2⟩, 1)] with pins.claims := [((2, 0, 0), (0xFF00, 1))] }, fwReq, 0, 0, 2, 1, 0x10000, 0, (sliceBase 0 2), (.inl rfl),
      by and_intros <;> decide +kernel⟩,
    ⟨{ runs [] with memy.bufs := [((0, 0, 3), ⟨sliceBase 0 2, true, false, false, false, 2, 0x10000, 5⟩)], pins.claims := [((2, 0, 0), (0xFF00, 1))] }, fwReq,
      0x1403, ⟨sliceBase 0 2, true, false, false, false, 2, 0x10000, 5⟩, (.inl rfl), by and_intros <;> decide +kernel⟩,
    ⟨{ runs [] with memy.bufs := [((0, 0, 3), ⟨sliceBase 0 2, true, false, false, false, 2, 0x10000, 5⟩)], pins.claims := [((2, 0, 0), (0xFF00, 1))] }, fwReq,
      0x1403, ⟨sliceBase 0 2, true, false, false, false, 2, 0x10000, 5⟩, (.inl rfl), by and_intros <;> decide +kernel⟩,
    ⟨(runs []), fwReq, 1, 8, 8, (.inl rfl), by and_intros <;> decide +kernel⟩,
    ⟨(runs []), fwReq, 1, (.inl rfl), by decide +kernel⟩⟩

/-- The hypotheses of PowerRowsComplete are met, each clause. -/
theorem witness_PowerRowsComplete :
    (∃ s : State, ∃ d, s.hasDie d = true ∧ (s.pw d).rises ≠ [] ∧ s.blackout 1 d = false) ∧
    (∃ s : State, ∃ d, s.hasDie d = true ∧ (s.pw d).rises ≠ [] ∧ s.blackout 1 d = false) ∧
    (∃ s : State, ∃ d, s.hasDie d = true ∧ s.pmcRuns d = true) ∧
    (∃ s : State, s.pmcRuns 0 = true ∧ 10 * s.fld 0 .PWR_PKG_LIMIT_PKG_LIMIT < s.dieList.foldl (fun a d => a + s.fld d .PWR_POWER_P100) 0) ∧
    (∃ s : State, s.pmcRuns 0 = true ∧ 100 * s.dieList.foldl (fun a d => a + s.fld d .PWR_POWER_P100) 0 ≤ 950 * s.fld 0 .PWR_PKG_LIMIT_PKG_LIMIT ∧
      s.power.pkgLow + 1 < 10) ∧
    (∃ s : State, s.pmcRuns 0 = true ∧ s.dieList.foldl (fun a d => a + (s.pw d).raw) 0 ≠ 0) ∧
    (∃ s : State, ∃ d, ∃ readings : List Int, s.hasDie d = true ∧ s.boot.powered = true ∧ readings.length = 12 ∧ (∀ x ∈ readings, -220 ≤ x ∧ x < 520)) ∧
    (∃ s : State, ∃ d, s.hasDie d = true ∧ s.pmcRuns d = true ∧ (∀ i, i < 8 → s.fld d .PWR_RAIL_EN i = 0)) ∧
    (∃ s : State, ∃ d, s.hasDie d = true ∧ s.pmcRuns d = true ∧ s.fld d .PWR_RAIL_EN 0 ≠ 0 ∧ (∀ i, i < 8 → i ≠ 0 → (s.pmbusFault d).fld d .PWR_RAIL_EN i = 0)) ∧
    (∃ s : State, ∃ d, s.hasDie d = true ∧ s.pmcRuns d = true) ∧
    (∃ s : State, ∃ d, s.hasDie d = true ∧ s.pmcRuns d = true) ∧
    (∃ s : State, s.boot.powered = true ∧ (∀ d ∈ s.dieList, s.fld d .PWR_STATUS_TRIP = 0) ∧ s.fld 0 .PWR_STATUS_PFAIL = 0) ∧
    (∃ s : State, s.fld 0 .PWR_STATUS_PFAIL = 1) ∧
    (∃ s : State, ∃ r : Req, ∃ d, Serves s r 0x0800 (some d) ∧ s.hasDie d = true) ∧
    (∃ s : State, ∃ r : Req, ∃ c : PowerSet, Serves s r 0x0801 (some c.die) ∧ s.hasDie c.die = true ∧ s.manager r.dom = true ∧ c.floor ≤ 8 ∧ s.dieLimitOk c.die
      c.dieLimit = true ∧ (s.setFld c.die .PWR_LIMIT_DIE_LIMIT 0 c.dieLimit).pkgLimitOk c.pkgLimit = true ∧ s.throttleOk c.die c.throttleC = true) ∧
    (∃ s : State, ∃ r : Req, ∃ d, ∃ entry, ∃ image : Word, Serves s r 0x0802 (some d) ∧ s.hasDie d = true ∧ entry < 8 ∧ bits image.toNat 18 16 < 5 ∧ s.manager
      r.dom = true ∧ s.stepOf d < 8) :=
  ⟨⟨{ runs [] with power := ⟨[(1, { PowerDie.empty with rises := [(0, 3)], raw := 1 })], 1, 1, 0, 750, 900, []⟩ }, 1, by and_intros <;> decide +kernel⟩,
    ⟨{ runs [] with power := ⟨[(1, { PowerDie.empty with rises := [(0, 3)], raw := 1 })], 1, 1, 0, 750, 900, []⟩ }, 1, by and_intros <;> decide +kernel⟩,
    ⟨(runs []), 1, by and_intros <;> decide +kernel⟩,
    ⟨(runs [(⟨1, .PWR_POWER_P100, 0⟩, 65535)]), by and_intros <;> decide +kernel⟩,
    ⟨(runs []), by and_intros <;> decide +kernel⟩,
    ⟨{ runs [] with power := ⟨[(1, { PowerDie.empty with rises := [(0, 3)], raw := 1 })], 1, 1, 0, 750, 900, []⟩ }, by and_intros <;> decide +kernel⟩,
    ⟨(runs []), 1, [-220, 519, 0, 0, 0, 0, 0, 0, 0, 0, 0, 0], by and_intros <;> decide +kernel⟩,
    ⟨(runs []), 1, by and_intros <;> decide +kernel⟩,
    ⟨(runs [(⟨1, .PWR_RAIL_EN, 0⟩, 1)]), 1, by and_intros <;> decide +kernel⟩,
    ⟨(runs []), 1, by and_intros <;> decide +kernel⟩,
    ⟨(runs []), 1, by and_intros <;> decide +kernel⟩,
    ⟨(runs []), by and_intros <;> decide +kernel⟩,
    ⟨(runs [(⟨0, .PWR_STATUS_PFAIL, 0⟩, 1)]), by decide +kernel⟩,
    ⟨(runs []), fwReq, 1, (.inl rfl), by decide +kernel⟩,
    ⟨(runs []), fwReq, ⟨1, 8, 50, 500, 90⟩, (.inl rfl), by and_intros <;> decide +kernel⟩,
    ⟨(atStep 7 []), fwReq, 1, 7, 0x40000, (.inl rfl), by and_intros <;> decide +kernel⟩⟩

/-- The hypotheses of TensorRowsComplete are met, each clause. -/
theorem witness_TensorRowsComplete :
    (∃ s : State, ∃ d, ∃ c, ∃ p, Standing s d c .te 0 0x1 p ∧ (s.matmulJob d c p).status % 16 = 0) ∧
    (∃ s : State, ∃ d, ∃ c, ∃ p, Standing s d c .te 0 0x2 p ∧ (s.convJob d c p).status % 16 = 0) ∧
    (∃ s : State, ∃ d, ∃ c, ∃ p, Standing s d c .te 0 0x10 p ∧ (s.attendJob d p).status % 16 = 0) ∧
    (∃ s : State, ∃ d, ∃ c, ∃ p, Standing s d c .te 0 0x11 p ∧ (s.appendJob d p).status % 16 = 0) ∧
    (∃ s : State, ∃ d, ∃ c, ∃ p, Standing s d c .te 0 0x12 p ∧ (s.forkJob d p).status % 16 = 0) ∧
    (∃ s : State, ∃ d, ∃ c, ∃ p, Standing s d c .te 0 0x13 p ∧ (s.releaseJob d p).status % 16 = 0) :=
  ⟨⟨(working (.core 47 .te) (words [1, hd 1, hd 2, hd 3, 65536, 1, 1, 65537, 0, 0, 0, 0, 0, 0, 0, 65537]) ([])), 0, 47, (task (words [1, hd 1, hd 2, hd 3,
    65536, 1, 1, 65537, 0, 0, 0, 0, 0, 0, 0, 65537])), by and_intros <;> decide +kernel⟩,
    ⟨(working (.core 47 .te) (words [2, hd 1, hd 2, hd 3, 65536, 1, 1, 65537, 0, 0, 0, 0, 0, 0, 0, 65536]) (cells (base 1) window)), 0, 47, (task (words [2, hd
      1, hd 2, hd 3, 65536, 1, 1, 65537, 0, 0, 0, 0, 0, 0, 0, 65536])), by and_intros <;> decide +kernel⟩,
    ⟨(working (.core 47 .te) (words [16, hd 1, hd 2, hd 3, 16780043, 67371009, 1065353216, 65537, 0, 0, 0, 0, 0, 0, 0, 0]) (cells (base 2) (words [4, 0, 1]) ++
      kvRecords)), 0, 47, (task (words [16, hd 1, hd 2, hd 3, 16780043, 67371009, 1065353216, 65537, 0, 0, 0, 0, 0, 0, 0, 0])),
      by and_intros <;> decide +kernel⟩,
    ⟨(working (.core 47 .te) (words [17, hd 1, 0, hd 6, 13, 4, 1, 131072, 0, 0, 0, 0, 0, 0, 0, 0]) (kvRecords)), 0, 47, (task (words [17, hd 1, 0, hd 6, 13, 4,
      1, 131072, 0, 0, 0, 0, 0, 0, 0, 0])), by and_intros <;> decide +kernel⟩,
    ⟨(working (.core 47 .te) (words [18, 0, 0, hd 6, 4, 12, 65537, 0, 0, 0, 0, 0, 0, 0, 0, 0]) (kvRecords)), 0, 47, (task (words [18, 0, 0, hd 6, 4, 12, 65537,
      0, 0, 0, 0, 0, 0, 0, 0, 0])), by and_intros <;> decide +kernel⟩,
    ⟨(working (.core 47 .te) (words [19, 0, 0, hd 6, 12, 0, 0, 0, 0, 0, 0, 0, 0, 0, 0, 0]) (kvRecords)), 0, 47, (task (words [19, 0, 0, hd 6, 12, 0, 0, 0, 0,
      0, 0, 0, 0, 0, 0, 0])), by and_intros <;> decide +kernel⟩⟩

/-- The hypotheses of VectorRowsComplete are met, each clause. -/
theorem witness_VectorRowsComplete :
    (∃ s : State, ∃ d, ∃ c, ∃ p, Standing s d c .ve 1 0x1 p ∧ (s.veJob d p).status % 16 = 0) ∧
    (∃ s : State, ∃ d, ∃ c, ∃ p, Standing s d c .ve 1 0x2 p ∧ (s.veJob d p).status % 16 = 0) ∧
    (∃ s : State, ∃ d, ∃ c, ∃ p, Standing s d c .ve 1 0x3 p ∧ (s.veJob d p).status % 16 = 0) ∧
    (∃ s : State, ∃ d, ∃ c, ∃ p, Standing s d c .ve 1 0x4 p ∧ (s.veJob d p).status % 16 = 0) ∧
    (∃ s : State, ∃ d, ∃ c, ∃ p, Standing s d c .ve 1 0x5 p ∧ (s.veJob d p).status % 16 = 0) ∧
    (∃ s : State, ∃ d, ∃ c, ∃ p, Standing s d c .ve 1 0x6 p ∧ (s.veJob d p).status % 16 = 0) ∧
    (∃ s : State, ∃ d, ∃ c, ∃ p, Standing s d c .ve 1 0x10 p ∧ (s.dwconvJob d p).status % 16 = 0) ∧
    (∃ s : State, ∃ d, ∃ c, ∃ p, Standing s d c .ve 1 0x11 p ∧ (s.poolJob d p).status % 16 = 0) ∧
    (∃ s : State, ∃ d, ∃ c, ∃ p, Standing s d c .ve 1 0x12 p ∧ (s.resampleJob d p).status % 16 = 0) :=
  ⟨⟨(working (.core 47 .ve) (words [257, hd 1, hd 2, hd 3, 0, 1, 1, 65536, 0, 0, 0, 0, 0, 0, 0, 65537]) ([])), 0, 47, (task (words [257, hd 1, hd 2, hd 3, 0,
    1, 1, 65536, 0, 0, 0, 0, 0, 0, 0, 65537])), by and_intros <;> decide +kernel⟩,
    ⟨(working (.core 47 .ve) (words [258, hd 1, hd 2, hd 3, 0, 1, 1, 65536, 0, 0, 0, 0, 0, 0, 0, 65537]) ([])), 0, 47, (task (words [258, hd 1, hd 2, hd 3, 0,
      1, 1, 65536, 0, 0, 0, 0, 0, 0, 0, 65537])), by and_intros <;> decide +kernel⟩,
    ⟨(working (.core 47 .ve) (words [259, hd 1, hd 2, hd 3, 0, 1, 1, 65537, 0, 0, 0, 0, 0, 0, 0, 65537]) ([])), 0, 47, (task (words [259, hd 1, hd 2, hd 3, 0,
      1, 1, 65537, 0, 0, 0, 0, 0, 0, 0, 65537])), by and_intros <;> decide +kernel⟩,
    ⟨(working (.core 47 .ve) (words [260, hd 1, hd 2, hd 3, 851981, 1, 1, 65536, 0, 0, 0, 0, 0, 0, 1065353216, 65537]) (cells (base 1) (words [0xFF800000]))),
      0, 47, (task (words [260, hd 1, hd 2, hd 3, 851981, 1, 1, 65536, 0, 0, 0, 0, 0, 0, 1065353216, 65537])), by and_intros <;> decide +kernel⟩,
    ⟨(working (.core 47 .ve) (words [261, hd 1, hd 2, hd 3, 851981, 1, 1, 65537, 0, 0, 0, 0, 0, 0, 0, 65537]) (cells (base 1) (words [0x7FC00000]))), 0, 47,
      (task (words [261, hd 1, hd 2, hd 3, 851981, 1, 1, 65537, 0, 0, 0, 0, 0, 0, 0, 65537])), by and_intros <;> decide +kernel⟩,
    ⟨(working (.core 47 .ve) (words [262, hd 1, hd 2, hd 3, 0, 1, 1, 65536, 0, 0, 0, 0, 0, 0, 1065353216, 65537]) ([])), 0, 47, (task (words [262, hd 1, hd 2,
      hd 3, 0, 1, 1, 65536, 0, 0, 0, 0, 0, 0, 1065353216, 65537])), by and_intros <;> decide +kernel⟩,
    ⟨(working (.core 47 .ve) (words [272, hd 1, hd 2, hd 3, 917504, 285278209, 0, 0, 0, 0, 0, 0, 0, 0, 0, 0]) (cells (base 1) window)), 0, 47, (task (words
      [272, hd 1, hd 2, hd 3, 917504, 285278209, 0, 0, 0, 0, 0, 0, 0, 0, 0, 0])), by and_intros <;> decide +kernel⟩,
    ⟨(working (.core 47 .ve) (words [273, hd 1, hd 2, hd 3, 0, 285278209, 0, 0, 0, 0, 0, 0, 0, 0, 0, 0]) (cells (base 1) window)), 0, 47, (task (words [273, hd
      1, hd 2, hd 3, 0, 285278209, 0, 0, 0, 0, 0, 0, 0, 0, 0, 0])), by and_intros <;> decide +kernel⟩,
    ⟨(working (.core 47 .ve) (words [274, hd 1, hd 2, hd 3, 0, 65537, 65537, 65536, 0, 0, 0, 0, 0, 0, 0, 0]) ([])), 0, 47, (task (words [274, hd 1, hd 2, hd 3,
      0, 65537, 65537, 65536, 0, 0, 0, 0, 0, 0, 0, 0])), by and_intros <;> decide +kernel⟩⟩

/-- The hypotheses of TraversalRowsComplete are met, each clause. -/
theorem witness_TraversalRowsComplete :
    (∃ s : State, ∃ d, ∃ c, ∃ p, Standing s d c .xe 2 0x1 p ∧ (s.xeJob d c (s.gatherRun d p) p).status % 16 = 0) ∧
    (∃ s : State, ∃ d, ∃ c, ∃ p, Standing s d c .xe 2 0x2 p ∧ (s.xeJob d c (s.neighboursRun d p) p).status % 16 = 0) ∧
    (∃ s : State, ∃ d, ∃ c, ∃ p, Standing s d c .xe 2 0x3 p ∧ (s.xeJob d c (s.setOpRun d p) p).status % 16 = 0) ∧
    (∃ s : State, ∃ d, ∃ c, ∃ p, Standing s d c .xe 2 0x4 p ∧ (s.xeJob d c (s.hashBuildRun d p) p).status % 16 = 0) ∧
    (∃ s : State, ∃ d, ∃ c, ∃ p, Standing s d c .xe 2 0x5 p ∧ (s.xeJob d c (s.hashProbeRun d p) p).status % 16 = 0) ∧
    (∃ s : State, ∃ d, ∃ c, ∃ p, Standing s d c .xe 2 0x6 p ∧ (s.xeJob d c (s.radixRun d p) p).status % 16 = 0) ∧
    (∃ s : State, ∃ d, ∃ c, ∃ p, Standing s d c .xe 2 0x7 p ∧ (s.xeJob d c (s.segReduceRun d p) p).status % 16 = 0) ∧
    (∃ s : State, ∃ d, ∃ c, ∃ p, Standing s d c .xe 2 0x8 p ∧ (s.xeJob d c (s.scatterRun d p) p).status % 16 = 0) ∧
    (∃ s : State, ∃ d, ∃ c, ∃ p, Standing s d c .xe 2 0x9 p ∧ (s.xeJob d c (s.frontierRun d p) p).status % 16 = 0) ∧
    (∃ s : State, ∃ d, ∃ c, ∃ p, Standing s d c .seq 3 0x1 p ∧ (s.copyJob d c p).status % 16 = 0) ∧
    (∃ s : State, ∃ d, ∃ c, ∃ p, Standing s d c .seq 5 0x1 p ∧ (nopJob p).status % 16 = 0) ∧
    (∃ s : State, ∃ d, ∃ c, ∃ p, Standing s d c .seq 5 0x2 p ∧ (s.signalJob d p).status % 16 = 0) :=
  ⟨⟨(working (.core 47 .xe) (words [513, hd 1, hd 2, hd 3, 60928, 1, 1, 65540, 0, 0, 0, 0, 0, 0, 0, 1]) ([])), 0, 47, (task (words [513, hd 1, hd 2, hd 3,
    60928, 1, 1, 65540, 0, 0, 0, 0, 0, 0, 0, 1])), by and_intros <;> decide +kernel⟩,
    ⟨(working (.core 47 .xe) (words [514, hd 1, hd 2, hd 3, 60928, 1, 1, 0, 0, 0, 0, 0, hd 4, 0, 0, 0]) (cells (base 1) (words [1]))), 0, 47, (task (words
      [514, hd 1, hd 2, hd 3, 60928, 1, 1, 0, 0, 0, 0, 0, hd 4, 0, 0, 0])), by and_intros <;> decide +kernel⟩,
    ⟨(working (.core 47 .xe) (words [515, hd 1, hd 2, hd 3, 60928, 1, 1, 0, 0, 0, 0, 0, hd 4, 0, 0, 0]) ([])), 0, 47, (task (words [515, hd 1, hd 2, hd 3,
      60928, 1, 1, 0, 0, 0, 0, 0, hd 4, 0, 0, 0])), by and_intros <;> decide +kernel⟩,
    ⟨(working (.core 47 .xe) (words [516, hd 1, hd 2, hd 3, 60928, 1, 4, 0, 0, 0, 0, 0, 0, 0, 0, 0]) ([])), 0, 47, (task (words [516, hd 1, hd 2, hd 3, 60928,
      1, 4, 0, 0, 0, 0, 0, 0, 0, 0, 0])), by and_intros <;> decide +kernel⟩,
    ⟨(working (.core 47 .xe) (words [517, hd 1, hd 2, hd 3, 60928, 1, 4, 0, 0, 0, 0, 0, 0, 0, 0, 0]) ([])), 0, 47, (task (words [517, hd 1, hd 2, hd 3, 60928,
      1, 4, 0, 0, 0, 0, 0, 0, 0, 0, 0])), by and_intros <;> decide +kernel⟩,
    ⟨(working (.core 47 .xe) (words [518, hd 1, hd 2, hd 3, 60928, 1, 8, 0, 0, 0, 0, 0, hd 4, 0, 0, 0]) ([])), 0, 47, (task (words [518, hd 1, hd 2, hd 3,
      60928, 1, 8, 0, 0, 0, 0, 0, hd 4, 0, 0, 0])), by and_intros <;> decide +kernel⟩,
    ⟨(working (.core 47 .xe) (words [519, hd 1, hd 2, hd 3, 60928, 1, 1, 65540, 0, 0, 0, 0, 0, 0, 0, 1]) ([])), 0, 47, (task (words [519, hd 1, hd 2, hd 3,
      60928, 1, 1, 65540, 0, 0, 0, 0, 0, 0, 0, 1])), by and_intros <;> decide +kernel⟩,
    ⟨(working (.core 47 .xe) (words [520, hd 1, hd 2, hd 3, 33615360, 1, 1, 65540, 0, 0, 0, 0, 0, 0, 0, 1]) ([])), 0, 47, (task (words [520, hd 1, hd 2, hd 3,
      33615360, 1, 1, 65540, 0, 0, 0, 0, 0, 0, 0, 1])), by and_intros <;> decide +kernel⟩,
    ⟨(working (.core 47 .xe) (words [521, hd 1, hd 2, hd 3, 60928, 1, 1, 0, 0, 0, 0, 0, hd 4, hd 5, 0, 0]) (cells (base 1) (words [1]))), 0, 47, (task (words
      [521, hd 1, hd 2, hd 3, 60928, 1, 1, 0, 0, 0, 0, 0, hd 4, hd 5, 0, 0])), by and_intros <;> decide +kernel⟩,
    ⟨(working (.core 47 .seq) (words [769, hd 1, 0, hd 3, 64, 0, 0, 0, 0, 0, 0, 0, 0, 0, 0, 0]) ([])), 0, 47, (task (words [769, hd 1, 0, hd 3, 64, 0, 0, 0, 0,
      0, 0, 0, 0, 0, 0, 0])), by and_intros <;> decide +kernel⟩,
    ⟨(working (.core 47 .seq) (words [1281, 0, 0, 0, 0, 0, 0, 0, 0, 0, 0, 0, 0, 0, 0, 0]) ([])), 0, 47, (task (words [1281, 0, 0, 0, 0, 0, 0, 0, 0, 0, 0, 0, 0,
      0, 0, 0])), by and_intros <;> decide +kernel⟩,
    ⟨(working (.core 47 .seq) (words [1282, 0, 0, hd 3, 0, 0, 0, 0, 0, 0, 0, 0, 0, 0, 0, 0]) ([])), 0, 47, (task (words [1282, 0, 0, hd 3, 0, 0, 0, 0, 0, 0, 0,
      0, 0, 0, 0, 0])), by and_intros <;> decide +kernel⟩⟩

/-- The hypotheses of EngineMessagesComplete are met, each clause. -/
theorem witness_EngineMessagesComplete :
    (∃ s : State, ∃ r : Req, ∃ d, ∃ cl, ∃ k, s.hasDie d = true ∧ cl < 6 ∧ k < 8 ∧ s.seesCore r.dom d (8 * cl + k) = true ∧ Serves s r 0x0250 (some d)) ∧
    (∃ s : State, ∃ r : Req, ∃ d, ∃ cl, ∃ k, s.hasDie d = true ∧ cl < 6 ∧ k < 8 ∧ s.seesCore r.dom d (8 * cl + k) = true ∧ Serves s r 0x0251 (some d)) ∧
    (∃ s : State, ∃ r : Req, ∃ d, ∃ cl, ∃ k, s.hasDie d = true ∧ cl < 6 ∧ k < 8 ∧ s.seesCore r.dom d (8 * cl + k) = true ∧ Serves s r 0x0252 (some d)) ∧
    (∃ s : State, ∃ r : Req, ∃ d, ∃ cl, ∃ k, s.hasDie d = true ∧ cl < 6 ∧ k < 8 ∧ s.seesCore r.dom d (8 * cl + k) = true ∧ Serves s r 0x0253 (some d)) ∧
    (∃ s : State, ∃ r : Req, ∃ h : Word, ∃ pages, ∃ e, ∃ i, Serves s r 0x0260 (some (handleDie h.toNat)) ∧ s.bufOf h.toNat = some e ∧ s.kvSender r.dom
      (s.bufDie h.toNat) (handleSilo h.toNat) = true ∧ 1 ≤ pages ∧ pages ≤ 65535 ∧ 34816 * pages ≤ e.length ∧ s.kvFind (s.bufDie h.toNat) 1 (pages + 1) = some
      i) ∧
    (∃ s : State, ∃ r : Req, ∃ pool : Word, ∃ e, Serves s r 0x0261 none ∧ s.kvEntry r.dom pool.toNat = some e ∧ s.kvSender r.dom e.1.1 e.2.1 = true ∧ (s.kvPool
      e.1.1 [] pool.toNat).base = pool.toNat + 1 ∧ e.2.2 = (s.kvPool e.1.1 [] pool.toNat).pages + 1 ∧ (s.kvPool e.1.1 [] pool.toNat).free = (s.kvPool e.1.1 []
      pool.toNat).pages) ∧
    (∃ s : State, ∃ r : Req, ∃ c : KvSeqCfg, ∃ e, ∃ i, Serves s r 0x0262 none ∧ s.kvEntry r.dom c.pool.toNat = some e ∧ s.kvSender r.dom e.1.1 e.2.1 = true ∧
      s.poolValid e.1.1 (s.kvPool e.1.1 [] c.pool.toNat) e.2.1 = true ∧ (⟨0, c.pool.toNat, c.kvHeads, c.headDim, c.flags, 0, c.maxRows, c.budget, c.recent,
      c.reserve, c.decay, 0, 0, 0⟩ : KvSeq).rangesOk = true ∧ s.kvFind e.1.1 4 (4 + c.maxRows) = some i) ∧
    (∃ s : State, ∃ r : Req, ∃ seq : Word, ∃ e, s.kvEntry r.dom seq.toNat = some e ∧ s.kvSender r.dom e.1.1 e.2.1 = true ∧ s.seqValid e.1.1 seq.toNat e.2.1 =
      true ∧ Serves s r 0x0264 none) ∧
    (∃ s : State, ∃ r : Req, ∃ seq : Word, ∃ e, s.kvEntry r.dom seq.toNat = some e ∧ s.kvSender r.dom e.1.1 e.2.1 = true ∧ s.seqValid e.1.1 seq.toNat e.2.1 =
      true ∧ s.seqBusy e.1.1 (s.kvSeq e.1.1 [] seq.toNat).slot = false ∧ Serves s r 0x0263 none) ∧
    (∃ s : State, ∃ r : Req, ∃ seq : Word, ∃ e, ∃ b, ∃ rc, ∃ rv, ∃ dc, ∃ ev, s.kvEntry r.dom seq.toNat = some e ∧ s.kvSender r.dom e.1.1 e.2.1 = true ∧
      s.seqValid e.1.1 seq.toNat e.2.1 = true ∧ s.seqBusy e.1.1 (s.kvSeq e.1.1 [] seq.toNat).slot = false ∧ Serves s r 0x0265 none ∧
      ({ (s.kvSeq e.1.1 [] seq.toNat) with budget := b, recent := rc, reserve := rv, decay := dc, flags := putBits (s.kvSeq e.1.1 [] seq.toNat).flags 1 1 (b2n ev) }).rangesOk
      = true) :=
  ⟨⟨(runs []), fwReq, 1, 5, 7, by decide +kernel, by decide +kernel, by decide +kernel, by decide +kernel, (.inl rfl)⟩,
    ⟨(runs []), fwReq, 1, 5, 7, by decide +kernel, by decide +kernel, by decide +kernel, by decide +kernel, (.inl rfl)⟩,
    ⟨(runs []), fwReq, 1, 5, 7, by decide +kernel, by decide +kernel, by decide +kernel, by decide +kernel, (.inl rfl)⟩,
    ⟨(runs []), fwReq, 1, 5, 7, by decide +kernel, by decide +kernel, by decide +kernel, by decide +kernel, (.inl rfl)⟩,
    ⟨{ working (.core 47 .te) [] [] with memy.kvAlloc := [] }, fwReq, (BitVec.ofNat 32 (hd 6)), 1, ⟨base 6, true, false, false, false, 0, 0x10000, 0⟩, 0, (.inl
      rfl), by and_intros <;> decide +kernel⟩,
    ⟨{ working (.core 47 .te) [] kvRecords with memy.kvAlloc := [((0, 0), (15, 2))] }, fwReq, 0, ((0, 0), (15, 2)), (.inl rfl),
      by and_intros <;> decide +kernel⟩,
    ⟨{ working (.core 47 .te) [] kvRecords with memy.kvAlloc := [((0, 0), (15, 2))] }, fwReq, ⟨0, 1, 32, 0, 1, 1, 0, 0, 0⟩, ((0, 0), (15, 2)), 4, (.inl rfl),
      by and_intros <;> decide +kernel⟩,
    ⟨{ working (.core 47 .te) [] kvRecords with memy.kvAlloc := [((0, 0), (15, 2)), ((0, 4), (15, 5))] }, fwReq, 4, ((0, 4), (15, 5)), by decide +kernel, by
      decide +kernel, by decide +kernel, (.inl rfl)⟩,
    ⟨{ working (.core 47 .te) [] kvRecords with memy.kvAlloc := [((0, 0), (15, 2)), ((0, 4), (15, 5))] }, fwReq, 4, ((0, 4), (15, 5)), by decide +kernel, by
      decide +kernel, by decide +kernel, by decide +kernel, (.inl rfl)⟩,
    ⟨{ working (.core 47 .te) [] kvRecords with memy.kvAlloc := [((0, 0), (15, 2)), ((0, 4), (15, 5))] }, fwReq, 4, ((0, 4), (15, 5)), 1, 0, 0, 0, true, by
      decide +kernel, by decide +kernel, by decide +kernel, by decide +kernel, (.inl rfl), by decide +kernel⟩⟩

/-- The hypotheses of RasterRowsComplete are met, each clause. -/
theorem witness_RasterRowsComplete :
    (∃ s : State, ∃ d, ∃ ctx, ∃ p, s.hasDie d = true ∧ ctx < 2 ∧ s.placed d (.raster ctx) = some p ∧ p.ran = false ∧ s.tripped d = false ∧ descOp p.desc = 1 ∧
      s.renderCode d p (s.passOf d p) = 0) ∧
    (∃ s : State, ∃ d, ∃ ctx, ∃ p, s.hasDie d = true ∧ ctx < 2 ∧ s.placed d (.raster ctx) = some p ∧ p.ran = false ∧ s.tripped d = false ∧ descOp p.desc = 2 ∧
      (s.fastClearJob d p).status = 0) ∧
    (∃ s : State, ∃ d, ∃ ctx, ∃ p, s.hasDie d = true ∧ ctx < 2 ∧ s.placed d (.raster ctx) = some p ∧ p.ran = false ∧ s.tripped d = false ∧ descOp p.desc = 3 ∧
      (s.expandJob d p).status = 0) ∧
    (∃ s : State, ∃ d, ∃ core, ∃ ctx, ∃ p, s.hasDie d = true ∧ core < 48 ∧ ctx < 2 ∧ s.placed d (.raster ctx) = some p ∧ p.ran = false ∧ s.tripped d = false ∧
      descOp p.desc = 1 ∧ (s.passOf d p).draws ≠ [] ∧ (∀ e ∈ s.slotsOf d, ∀ x, e.1 = .core core x → x ≠ .ve ∧ descFused e.2.desc = false) ∧ s.coreServes d
      p.silo p.cls core = true ∧ s.throttled d p.silo p.cls core = false ∧ s.fld d .GLN_CORE_TESTING core ≠ 1 ∧ s.renderCode d p (s.passOf d p) = 0) ∧
    (∃ s : State, ∃ r : Req, ∃ d, ∃ mib, ∃ a, Serves s r 0x0600 (some d) ∧ s.hasDie d = true ∧ s.manager r.dom = true ∧ s.passInProgress d = false ∧
      s.stookPlace 0 mib a = true) ∧
    (∃ s : State, ∃ r : Req, ∃ d, ∃ mib, ∃ a, Serves s r 0x0600 (some d) ∧ s.hasDie d = true ∧ s.manager r.dom = true ∧ s.passInProgress d = false ∧
      s.stookPlace 1 mib a = true) ∧
    (∃ s : State, ∃ r : Req, ∃ d, Serves s r 0x0601 (some d) ∧ s.hasDie d = true) :=
  ⟨⟨{ working (.raster 1) (words [1025, hd 1, hd 2, 0, 0, 0, 65537, 1, 256, 0, 0, 1, 0, 0, 0, 0]) (cells (base 1 + 256) (words [3, 3, 0, 0, 0, 384, 384, 320])) with regs := [(⟨0, .LOFT_MAP_STOOK_MIB, 0⟩, 8), (⟨0, .SILO_MASK_MASK, 15⟩, 281474976710655)] },
    0, 1, (task (words [1025, hd 1, hd 2, 0, 0, 0, 65537, 1, 256, 0, 0, 1, 0, 0, 0, 0])), by and_intros <;> decide +kernel⟩,
    ⟨(working (.raster 1) (words [1026, 0, 0, 0, 65536, 0, 0, 0, 0, 0, 0, 0, 0, 0, 0, 0]) (cells 0x10000 (words [0x20000, 0, 0x00200020, 0x00000807, 0x30000,
      0, 0, 0]))), 0, 1, (task (words [1026, 0, 0, 0, 65536, 0, 0, 0, 0, 0, 0, 0, 0, 0, 0, 0])), by and_intros <;> decide +kernel⟩,
    ⟨(working (.raster 1) (words [1027, 0, 0, 0, 65536, 0, 0, 0, 0, 0, 0, 0, 0, 0, 0, 0]) (cells 0x10000 (words [0x20000, 0, 0x00200020, 0x00000807, 0x30000,
      0, 0, 0]))), 0, 1, (task (words [1027, 0, 0, 0, 65536, 0, 0, 0, 0, 0, 0, 0, 0, 0, 0, 0])), by and_intros <;> decide +kernel⟩,
    ⟨{ working (.raster 1) (words [1025, hd 1, hd 2, 0, 0, 0, 65537, 1, 256, 0, 0, 1, 0, 0, 0, 0]) (cells (base 1 + 256) (words [3, 3, 0, 0, 0, 384, 384, 320])) with regs := [(⟨0, .LOFT_MAP_STOOK_MIB, 0⟩, 8), (⟨0, .SILO_MASK_MASK, 15⟩, 281474976710655)] },
      0, 47, 1, (task (words [1025, hd 1, hd 2, 0, 0, 0, 65537, 1, 256, 0, 0, 1, 0, 0, 0, 0])), by decide +kernel, by decide +kernel, by decide +kernel, by
      decide +kernel, by decide +kernel, by decide +kernel, by decide +kernel, by decide +kernel,
      (fun e he x hx => by rcases List.mem_singleton.1 he with rfl; cases hx), by and_intros <;> decide +kernel⟩,
    ⟨(runs []), fwReq, 1, 0, 0, (.inl rfl), by and_intros <;> decide +kernel⟩,
    ⟨{ runs [(⟨0, .SILO_CFG_CLASS, 15⟩, 1)] with memy.bufs := [((0, 15, 0), ⟨sliceBase 0 0, true, false, true, false, 0, 0x4000000, 0⟩)] }, fwReq, 1, 64, (hd
      0), (.inl rfl), by and_intros <;> decide +kernel⟩,
    ⟨(runs []), fwReq, 1, (.inl rfl), by decide +kernel⟩⟩

/-- The hypotheses of QueueRowsComplete are met, each clause. -/
theorem witness_QueueRowsComplete :
    (∃ s : State, ∃ m : Master, ∃ id, ∃ data : Word, ∃ written, ∃ u, ∃ q, s.clientWrites m written = u ∧ WritesNow u m (id / 65536) .QDB (id % 65536 * 0x100) ∧
      u.queue id = some q ∧ q.state ≠ 0 ∧ q.loaded = true ∧ u.inReset q.fn = false ∧ laterCount q.sqTail data.toNat = false ∧ countDist data.toNat q.sqHead ≤ 2
      ^ q.sqLog2) ∧
    (∃ s : State, ∃ m : Master, ∃ id, ∃ data : Word, ∃ q, WritesNow s m (id / 65536) .QDB (id % 65536 * 0x100 + 4) ∧ s.queue id = some q ∧ q.state ≠ 0 ∧
      q.loaded = true ∧ s.inReset q.fn = false ∧ laterCount q.cqHead data.toNat = false ∧ laterCount data.toNat q.cqTail = false) ∧
    (∃ s : State, ∃ id, ∃ q, s.queue id = some q ∧ q.state = 1 ∧ s.inReset q.fn = false ∧ s.blackout 2 (id / 65536) = false ∧ s.fwRuns (id / 65536) = true ∧
      (q.flight.filter (fun z => !z.done)).length < 16 ∧ q.next ≠ q.sqTail ∧ s.poisoned (q.slotAddr q.next) 64 = none ∧ s.headerCheck id q (s.bytes (q.slotAddr
      q.next) 64) = 0 ∧ (sheafOf (s.bytes (q.slotAddr q.next) 64) q.next (submitTime q.bells (q.next + (leAt (s.bytes (q.slotAddr q.next) 64) 16 2) + 1)
      s.now)).count = (leAt (s.bytes (q.slotAddr q.next) 64) 16 2) ∧ (leAt (s.bytes (q.slotAddr q.next) 64) 16 2) < countDist q.sqTail q.next) ∧
    (∃ s : State, ∃ id, ∃ hdr, ∃ q, ∃ h, s.queue id = some q ∧ s.sheaf id hdr = some h ∧ h.ready = none ∧ h.done = false ∧ h.ending = none ∧ s.waitMet (id /
      65536) h = true) ∧
    (∃ s : State, ∃ r : Req, ∃ c : QueueCfg, ∃ j, ∃ id, Serves s r 0x0200 (some c.die) ∧ s.hasDie c.die = true ∧ 6 ≤ c.sqLog2 ∧ c.sqLog2 ≤ 20 ∧ 6 ≤ c.cqLog2 ∧
      c.cqLog2 ≤ 20 ∧ c.flags < 2 ∧ c.sqBase % 64 = 0 ∧ c.cqBase % 64 = 0 ∧ c.acctBase % 64 = 0 ∧ s.inMemory c.sqBase (64 * 2 ^ c.sqLog2) = true ∧ s.inMemory
      c.cqBase (32 * 2 ^ c.cqLog2) = true ∧ s.inMemory c.acctBase 128 = true ∧ c.minClass ≤ 4 ∧ s.subsetRefusal r false (decide (c.minClass = 0)) = none ∧
      isFunction r.dom = true ∧ c.vector < s.fld 0 .FN_CFG_VECTORS r.dom.toNat ∧ s.freeMapSlot r.dom = some j ∧ s.freeQueue c.die = some id) ∧
    (∃ s : State, ∃ r : Req, ∃ id : Word, ∃ q, s.queue id.toNat = some q ∧ (r.dom = q.fn ∨ r.dom = 0 ∨ r.dom = fwDom) ∧ Serves s r 0x0201 (some (id.toNat /
      65536)) ∧ q.state = 0) ∧
    (∃ s : State, ∃ r : Req, ∃ id : Word, ∃ q, s.queue id.toNat = some q ∧ (r.dom = q.fn ∨ r.dom = 0 ∨ r.dom = fwDom) ∧ Serves s r 0x0202 (some (id.toNat /
      65536)) ∧ q.state ≠ 3) ∧
    (∃ s : State, ∃ r : Req, ∃ id : Word, ∃ q, s.queue id.toNat = some q ∧ (r.dom = q.fn ∨ r.dom = 0 ∨ r.dom = fwDom) ∧ Serves s r 0x0203 (some (id.toNat /
      65536)) ∧ q.state = 0) ∧
    (∃ s : State, ∃ r : Req, ∃ id : Word, ∃ q, s.queue id.toNat = some q ∧ (r.dom = q.fn ∨ r.dom = 0 ∨ r.dom = fwDom) ∧ Serves s r 0x0203 (some (id.toNat /
      65536)) ∧ q.state ≠ 0 ∧ q.state ≠ 3) ∧
    (∃ s : State, ∃ r : Req, ∃ id : Word, ∃ q, s.queue id.toNat = some q ∧ (r.dom = q.fn ∨ r.dom = 0 ∨ r.dom = fwDom) ∧ Serves s r 0x0204 (some (id.toNat /
      65536))) ∧
    (∃ s : State, ∃ r : Req, ∃ id : Word, ∃ q, s.queue id.toNat = some q ∧ (r.dom = q.fn ∨ r.dom = 0 ∨ r.dom = fwDom) ∧ Serves s r 0x0205 (some (id.toNat /
      65536))) ∧
    (∃ s : State, ∃ m : Master, ∃ d, ∃ queue, ∃ q, queue < 65536 ∧ WritesNow s m d .SCH 0x20 ∧ s.guardOk m = true ∧ s.queue (d * 65536 + queue) = some q ∧
      q.state ≠ 3) ∧
    (∃ s : State, ∃ m : Master, ∃ d, ∃ queue, ∃ q, queue < 65536 ∧ WritesNow s m d .SCH 0x20 ∧ s.guardOk m = true ∧ s.queue (d * 65536 + queue) = some q ∧
      q.state ≠ 3 ∧ q.state ≠ 0) ∧
    (∃ s : State, ∃ m : Master, ∃ d, ∃ queue, ∃ q, queue < 65536 ∧ WritesNow s m d .SCH 0x20 ∧ s.guardOk m = true ∧ s.queue (d * 65536 + queue) = some q ∧
      q.state ≠ 3 ∧ q.state ≠ 0) ∧
    (∃ s : State, ∃ m : Master, ∃ d, ∃ queue, ∃ q, queue < 65536 ∧ WritesNow s m d .SCH 0x20 ∧ s.guardOk m = true ∧ s.queue (d * 65536 + queue) = some q ∧
      q.state ≠ 3 ∧ q.state = 0) ∧
    (∃ s : State, ∃ m : Master, ∃ d, ∃ queue, ∃ q, queue < 65536 ∧ WritesNow s m d .SCH 0x20 ∧ s.guardOk m = true ∧ s.queue (d * 65536 + queue) = some q ∧
      q.state ≠ 3 ∧ q.state = 0) :=
  ⟨⟨(queued 1 [] []), sch, 0, 64, [], (queued 1 [] []), (ring 1 []), rfl, (WritesNow.of_flags (by decide +kernel)), by and_intros <;> decide +kernel⟩,
    ⟨(queued 1 [] []), sch, 0, 0, (ring 1 []), (WritesNow.of_flags (by decide +kernel)), by and_intros <;> decide +kernel⟩,
    ⟨{ queued 1 [] [(⟨0, .SILO_CFG_EN, 15⟩, 1), (⟨0, .SILO_CFG_CLASS, 15⟩, 1)] with mem := [(0x1004, 1), (0x1005, 15), (0x1010, 1)] }, 0, (ring 1 []),
      by and_intros <;> decide +kernel⟩,
    ⟨(queued 1 [sheaf] []), 0, 0, (ring 1 [sheaf]), sheaf, by and_intros <;> decide +kernel⟩,
    ⟨{ client with regs := [(⟨0, .FN_CFG_QUOTA, 0⟩, 1), (⟨0, .FN_CFG_VECTORS, 0⟩, 64), (⟨0, .MB_REQ_TAIL_INDEX, 0⟩, 1)] }, cli, ⟨1, 20, 20, 1, 0, 0, 0, 63, 4⟩,
      0, 65536, (.inr ⟨by decide +kernel, by decide +kernel⟩), by and_intros <;> decide +kernel⟩,
    ⟨(queued 0 [] []), fwReq, 0, (ring 0 []), by decide +kernel, by decide +kernel, (.inl rfl), by decide +kernel⟩,
    ⟨(queued 0 [] []), fwReq, 0, (ring 0 []), by decide +kernel, by decide +kernel, (.inl rfl), by decide +kernel⟩,
    ⟨(queued 0 [] []), fwReq, 0, (ring 0 []), by decide +kernel, by decide +kernel, (.inl rfl), by decide +kernel⟩,
    ⟨(queued 1 [] []), fwReq, 0, (ring 1 []), by decide +kernel, by decide +kernel, (.inl rfl), by and_intros <;> decide +kernel⟩,
    ⟨(queued 1 [] []), fwReq, 0, (ring 1 []), by decide +kernel, by decide +kernel, (.inl rfl)⟩,
    ⟨(queued 1 [] []), fwReq, 0, (ring 1 []), by decide +kernel, by decide +kernel, (.inl rfl)⟩,
    ⟨(queued 1 [] []), sch, 0, 0, (ring 1 []), by decide +kernel, (WritesNow.of_flags (by decide +kernel)), by and_intros <;> decide +kernel⟩,
    ⟨(queued 1 [] []), sch, 0, 0, (ring 1 []), by decide +kernel, (WritesNow.of_flags (by decide +kernel)), by and_intros <;> decide +kernel⟩,
    ⟨(queued 1 [] []), sch, 0, 0, (ring 1 []), by decide +kernel, (WritesNow.of_flags (by decide +kernel)), by and_intros <;> decide +kernel⟩,
    ⟨(queued 0 [] []), sch, 0, 0, (ring 0 []), by decide +kernel, (WritesNow.of_flags (by decide +kernel)), by and_intros <;> decide +kernel⟩,
    ⟨(queued 0 [] []), sch, 0, 0, (ring 0 []), by decide +kernel, (WritesNow.of_flags (by decide +kernel)), by and_intros <;> decide +kernel⟩⟩

/-- The hypotheses of PlaceAndCommitComplete are met, each clause. -/
theorem witness_PlaceAndCommitComplete :
    (∃ s : State, ∃ d, s.hasDie d = true ∧ s.fwRuns d = true) ∧
    (∃ s : State, ∃ d, ∃ r, ∃ p, ∃ o, ∃ c, ∃ diff : BitVec 128, ∃ cycles, s.hasDie d = true ∧ s.tripped d = false ∧ s.placed d r = some p ∧ p.other = some o ∧
      s.placed d o = some c ∧ p.copy = false ∧ p.ran = true ∧ c.ran = true ∧ p.published = false ∧ s.q.mismatches.find? (fun m => decide (m.die = d) && decide
      (m.main = r)) = none ∧ cycles ≤ 5120 ∧ s.signature d p ^^^ s.signature d c ^^^ diff = 0) ∧
    (∃ s : State, ∃ d, ∃ r, ∃ p, ∃ o, ∃ c, ∃ diff : BitVec 128, ∃ cycles, s.hasDie d = true ∧ s.tripped d = false ∧ s.placed d r = some p ∧ p.other = some o ∧
      s.placed d o = some c ∧ p.copy = false ∧ p.ran = true ∧ c.ran = true ∧ p.published = false ∧ s.q.mismatches.find? (fun m => decide (m.die = d) && decide
      (m.main = r)) = none ∧ cycles ≤ 5120 ∧ s.signature d p ^^^ s.signature d c ^^^ diff ≠ 0) ∧
    (∃ s : State, ∃ d, ∃ r, ∃ m, ∃ p, ∃ c, s.hasDie d = true ∧ s.tripped d = false ∧ s.q.mismatches.find? (fun m => decide (m.die = d) && decide (m.main = r))
      = some m ∧ m.second = false ∧ m.copying = false ∧ s.placed d m.main = some p ∧ s.placed d m.checker = some c ∧ p.ran = true ∧ p.other = some m.checker) ∧
    (∃ s : State, ∃ d, ∃ r, ∃ m, ∃ p, ∃ c, s.hasDie d = true ∧ s.tripped d = false ∧ s.q.mismatches.find? (fun m => decide (m.die = d) && decide (m.main = r))
      = some m ∧ m.second = false ∧ m.copying = false ∧ s.placed d m.main = some p ∧ s.placed d m.checker = some c ∧ p.ran = true ∧ p.other = some m.checker) ∧
    (∃ s : State, ∃ d, ∃ r, ∃ m, ∃ p, ∃ c, s.hasDie d = true ∧ s.tripped d = false ∧ s.q.mismatches.find? (fun m => decide (m.die = d) && decide (m.main = r))
      = some m ∧ m.second = false ∧ m.copying = false ∧ s.placed d m.main = some p ∧ s.placed d m.checker = some c ∧ p.ran = true ∧ p.other = some m.checker ∧
      p.enables = c.enables) ∧
    (∃ s : State, ∃ d, ∃ r, ∃ m, ∃ p, ∃ c, s.hasDie d = true ∧ s.tripped d = false ∧ s.q.mismatches.find? (fun m => decide (m.die = d) && decide (m.main = r))
      = some m ∧ m.second = false ∧ m.copying = false ∧ s.placed d m.main = some p ∧ s.placed d m.checker = some c ∧ p.ran = true ∧ p.other = some m.checker) ∧
    (∃ s : State, ∃ d, ∃ r, ∃ m, ∃ p, ∃ c, ∃ o, ∃ sh, s.hasDie d = true ∧ s.q.mismatches.find? (fun m => decide (m.die = d) && decide (m.main = r) &&
      m.copying) = some m ∧ s.placed d m.main = some p ∧ s.placed d m.checker = some c ∧ s.bufOf (descOut p.desc) = some o ∧ s.shadowOf (descOut p.desc) = some
      sh) ∧
    (∃ s : State, ∃ d, ∃ r, ∃ p, s.hasDie d = true ∧ s.tripped d = false ∧ s.placed d r = some p ∧ p.copy = false ∧ p.ran = true ∧ (p.other = none ∨
      p.published = true) ∧ p.status % 16 = 0 ∧ (s.mirrorSends p.fn = false ∨ p.cls = 0 ∨ s.mirrorRoom (s.commitRecords p) = true)) :=
  ⟨⟨(runs []), 1, by and_intros <;> decide +kernel⟩,
    ⟨{ runs [] with q := ⟨[(0, ring 1 [sheaf])], [], [((1, .core 47 .te), { task [] with ran := true, other := some (.core 46 .te) }), ((1, .core 46 .te), { task [] with ran := true, copy := true, other := some (.core 47 .te) })], []⟩ },
      1, (.core 47 .te), { task [] with ran := true, other := some (.core 46 .te) }, (.core 46 .te),
      { task [] with ran := true, copy := true, other := some (.core 47 .te) }, 0, 5120, by and_intros <;> decide +kernel⟩,
    ⟨{ runs [] with q := ⟨[(0, ring 1 [sheaf])], [], [((1, .core 47 .te), { task [] with ran := true, other := some (.core 46 .te) }), ((1, .core 46 .te), { task [] with ran := true, copy := true, other := some (.core 47 .te) })], []⟩ },
      1, (.core 47 .te), { task [] with ran := true, other := some (.core 46 .te) }, (.core 46 .te),
      { task [] with ran := true, copy := true, other := some (.core 47 .te) }, 1, 5120, by and_intros <;> decide +kernel⟩,
    ⟨{ runs [] with q := ⟨[(0, ring 1 [sheaf])], [], [((1, .core 47 .te), { task [] with ran := true, other := some (.core 46 .te) }), ((1, .core 46 .te), { task [] with ran := true, copy := true, other := some (.core 47 .te) })], [⟨1, .core 47 .te, .core 46 .te, 0, 15, 0, false, false⟩]⟩ },
      1, (.core 47 .te), ⟨1, .core 47 .te, .core 46 .te, 0, 15, 0, false, false⟩, { task [] with ran := true, other := some (.core 46 .te) },
      { task [] with ran := true, copy := true, other := some (.core 47 .te) }, by and_intros <;> decide +kernel⟩,
    ⟨{ runs [] with q := ⟨[(0, ring 1 [sheaf])], [], [((1, .core 47 .te), { task [] with ran := true, other := some (.core 46 .te) }), ((1, .core 46 .te), { task [] with ran := true, copy := true, other := some (.core 47 .te) })], [⟨1, .core 47 .te, .core 46 .te, 0, 15, 0, false, false⟩]⟩ },
      1, (.core 47 .te), ⟨1, .core 47 .te, .core 46 .te, 0, 15, 0, false, false⟩, { task [] with ran := true, other := some (.core 46 .te) },
      { task [] with ran := true, copy := true, other := some (.core 47 .te) }, by and_intros <;> decide +kernel⟩,
    ⟨{ runs [] with q := ⟨[(0, ring 1 [sheaf])], [], [((1, .core 47 .te), { task [] with ran := true, other := some (.core 46 .te) }), ((1, .core 46 .te), { task [] with ran := true, copy := true, other := some (.core 47 .te) })], [⟨1, .core 47 .te, .core 46 .te, 0, 15, 0, false, false⟩]⟩ },
      1, (.core 47 .te), ⟨1, .core 47 .te, .core 46 .te, 0, 15, 0, false, false⟩, { task [] with ran := true, other := some (.core 46 .te) },
      { task [] with ran := true, copy := true, other := some (.core 47 .te) }, by and_intros <;> decide +kernel⟩,
    ⟨{ runs [] with q := ⟨[(0, ring 1 [sheaf])], [], [((1, .core 47 .te), { task [] with ran := true, other := some (.core 46 .te) }), ((1, .core 46 .te), { task [] with ran := true, copy := true, other := some (.core 47 .te) })], [⟨1, .core 47 .te, .core 46 .te, 0, 15, 0, false, false⟩]⟩ },
      1, (.core 47 .te), ⟨1, .core 47 .te, .core 46 .te, 0, 15, 0, false, false⟩, { task [] with ran := true, other := some (.core 46 .te) },
      { task [] with ran := true, copy := true, other := some (.core 47 .te) }, by and_intros <;> decide +kernel⟩,
    ⟨{ runs [] with q := ⟨[(0, ring 1 [sheaf])], [], [((1, .core 47 .te), { task [] with ran := true, other := some (.core 46 .te) }), ((1, .core 46 .te), { task [] with ran := true, copy := true, other := some (.core 47 .te) })], [⟨1, .core 47 .te, .core 46 .te, 0, 15, 0, false, true⟩]⟩, memy.bufs := [((0, 0, 0), ⟨0x800000000000, true, false, false, false, 0, 0x10000, 0⟩), ((0, 0, 512), ⟨0x800000010000, true, false, false, false, 0, 0x10000, 0⟩)] },
      1, (.core 47 .te), ⟨1, .core 47 .te, .core 46 .te, 0, 15, 0, false, true⟩, { task [] with ran := true, other := some (.core 46 .te) },
      { task [] with ran := true, copy := true, other := some (.core 47 .te) }, ⟨0x800000000000, true, false, false, false, 0, 0x10000, 0⟩, ⟨0x800000010000,
      true, false, false, false, 0, 0x10000, 0⟩, by and_intros <;> decide +kernel⟩,
    ⟨{ queued 1 [sheaf] [] with q.slots := [((1, .core 47 .te), { task [] with ran := true })] }, 1, (.core 47 .te), { task [] with ran := true },
      by and_intros <;> decide +kernel⟩⟩

/-- The hypotheses of SiloRowsComplete are met, each clause. -/
theorem witness_SiloRowsComplete :
    (∃ s : State, ∃ d, ∃ k, s.hasDie d = true ∧ k < 16 ∧ s.fwRuns d = true) ∧
    (∃ s : State, ∃ d, ∃ k, ∃ n, s.hasDie d = true ∧ k < 16 ∧ s.fld d .SILO_CFG_EN k = 1 ∧ (s.coresHeld d k none).length = n ∧ n < s.fld d .SILO_CFG_G_MIN k ∧
      (∀ e ∈ s.slotsOf d, descKillable e.2.desc = true) ∧ (∃ c ∈ s.candidates d, c.sheaf.silo = k)) ∧
    (∃ s : State, ∃ k, ∃ mask, ∃ l, k < 16 ∧ (List.range 8).find? (bit mask) = some l ∧ s.hasDie l = true) ∧
    (∃ s : State, ∃ r : Req, ∃ d, ∃ k, ∃ c : SiloCfg, Serves s r 0x0210 (some d) ∧ s.hasDie d = true ∧ k < 16 ∧ siloInRange c = true ∧ s.siloSender r d k =
      none ∧ s.subsetRefusal r false (decide (c.cls = 0) || decide (s.siloClass d k = 0)) = none ∧ c.cls = s.fld d .SILO_CFG_CLASS k ∧ (∀ e ∈ s.spanDies d k,
      s.reserveClash e k c = false ∧ s.guaranteesFit e k c = true)) ∧
    (∃ s : State, ∃ r : Req, ∃ d, ∃ k, Serves s r 0x0211 (some d) ∧ s.hasDie d = true ∧ k < 16 ∧ (s.holder 2 d k = r.dom ∨ r.dom = 0 ∨ r.dom = fwDom)) ∧
    (∃ s : State, ∃ r : Req, ∃ k, ∃ mask, ∃ l, ∃ ls, Serves s r 0x0212 none ∧ s.dieList.filter (bit mask) = l :: ls ∧ k < 16 ∧ mask < 2 ^ s.part.dies ∧
      s.subsetRefusal r (decide (2 ≤ mask)) false = none ∧ s.siloSender r l k = none ∧ s.subsetRefusal r false (decide (s.siloClass l k = 0)) = none ∧ (∀ d ∈ l
      :: ls, s.holder 2 d k = noDom ∨ s.holder 2 d k = s.holder 2 l k)) :=
  ⟨⟨(runs []), 1, 15, by and_intros <;> decide +kernel⟩,
    ⟨(queued 1 [{ sheaf with ready := some 0 }] [(⟨0, .SILO_CFG_EN, 15⟩, 1), (⟨0, .SILO_CFG_CLASS, 15⟩, 1), (⟨0, .SILO_CFG_G_MIN, 15⟩, 1)]), 0, 15, 0,
      by and_intros <;> decide +kernel⟩,
    ⟨(runs []), 15, 2, 1, by and_intros <;> decide +kernel⟩,
    ⟨{ runs [(⟨1, .SILO_CFG_CLASS, 15⟩, 4)] with pins.claims := [((2, 1, 15), (0xFF00, 1))] }, fwReq, 1, 15, ⟨4, 3, 2 ^ 48 - 1, 48, 255, 65535, 100, 100,
      true⟩, (.inl rfl), by and_intros <;> decide +kernel⟩,
    ⟨(runs []), fwReq, 1, 15, (.inl rfl), by and_intros <;> decide +kernel⟩,
    ⟨{ runs [] with pins.claims := [((2, 0, 15), (0xFF00, 1)), ((2, 1, 15), (0xFF00, 1))] }, fwReq, 15, 3, 0, [1], (.inl rfl),
      by and_intros <;> decide +kernel⟩⟩

/-- The hypotheses of DisplayRowsComplete are met, each clause. -/
theorem witness_DisplayRowsComplete :
    (∃ s : State, ∃ d, ∃ k, s.hasDie d = true ∧ k < 16 ∧ s.fld d .SILO_CFG_EN k ≠ 0 ∧ s.fld d .SILO_CFG_CLASS k = 1 ∧ s.fld d .SILO_TIME_LEAD k ≠ 0 ∧ (s.silo d
      k).reserveStart = none ∧ (s.silo d k).frameDone = false) ∧
    (∃ s : State, ∃ h, h < 4 ∧ s.headRuns h = true) ∧
    (∃ s : State, ∃ h, h < 4 ∧ s.headRuns h = true ∧ (s.head h).latched = none) ∧
    (∃ s : State, ∃ h, ∃ b, h < 4 ∧ s.headRuns h = true ∧ (s.head h).latched = some b ∧ (s.head h).row < (scanPicture b).img.th) ∧
    (∃ s : State, ∃ h, ∃ b, h < 4 ∧ s.headRuns h = true ∧ (s.head h).latched = some b ∧ (s.head h).row < (scanPicture b).img.th ∧ (∀ r ∈ (((scanPicture
      b).img.rowBlocks (s.head h).row).flatMap (fun q => s.blockReads (scanPicture b) q.1 q.2)), s.memRefusal (ioMaster 0 26) r.1 r.2 = none ∧ s.poisoned r.1
      r.2 = none)) ∧
    (∃ s : State, ∃ h, ∃ level, h < 4 ∧ bit (s.fld 0 .DISP_STATUS_HPD) h ≠ level) ∧
    (∃ s : State, ∃ m : Master, ∃ h, h < 4 ∧ WritesNow s m 0 .DISPLAY (0x11C + 0x40 * h) ∧ s.otherHolds m 3 0 h = false) ∧
    (∃ s : State, ∃ m : Master, ∃ h, h < 4 ∧ WritesNow s m 0 .DISPLAY (0x100 + 0x40 * h) ∧ s.otherHolds m 3 0 h = false) ∧
    (∃ s : State, ∃ r : Req, ∃ c : DispModeCfg, ∃ lanes, ∃ rate, Serves s r 0x0610 none ∧ c.head < 4 ∧ c.link < 2 ∧ (c.maxLanes = 1 ∨ c.maxLanes = 2 ∨
      c.maxLanes = 4) ∧ (c.bpc = 8 ∨ c.bpc = 10) ∧ 25000 ≤ c.pclkKhz ∧ c.pclkKhz ≤ 600000 ∧ s.holder 3 0 c.head = r.dom ∧ lanes ≤ c.maxLanes ∧ (lanes = 1 ∨
      lanes = 2 ∨ lanes = 4) ∧ rate < 8 ∧ (c.link = 0 → rate < 4) ∧ c.pclkKhz * 3 * c.bpc * 10 ≤ lanes * linkRate rate * 10 * 8) ∧
    (∃ s : State, ∃ r : Req, ∃ h, ∃ a, Serves s r 0x0611 none ∧ h < 4 ∧ a < 2 ^ 48 ∧ (memLoc s.part a).isSome = true ∧ s.holder 3 0 h = r.dom) ∧
    (∃ s : State, ∃ r : Req, ∃ h, Serves s r 0x0612 none ∧ h < 4) ∧
    (∃ s : State, ∃ r : Req, ∃ h, Serves s r 0x0613 none ∧ h < 4 ∧ s.holder 3 0 h = r.dom) :=
  ⟨⟨(runs [(⟨1, .SILO_CFG_EN, 15⟩, 1), (⟨1, .SILO_CFG_CLASS, 15⟩, 1), (⟨1, .SILO_TIME_LEAD, 15⟩, 1)]), 1, 15, by and_intros <;> decide +kernel⟩,
    ⟨(runs [(⟨0, .HEAD_CTRL_EN, 3⟩, 1), (⟨0, .HEAD_LINK_TRAINED, 3⟩, 1)]), 3, by and_intros <;> decide +kernel⟩,
    ⟨(runs [(⟨0, .HEAD_CTRL_EN, 3⟩, 1), (⟨0, .HEAD_LINK_TRAINED, 3⟩, 1)]), 3, by and_intros <;> decide +kernel⟩,
    ⟨{ runs [(⟨0, .HEAD_CTRL_EN, 3⟩, 1), (⟨0, .HEAD_LINK_TRAINED, 3⟩, 1)] with heads := [(3, { HeadState.empty with latched := some (words [0, 0, 0x00200020, 0, 0x10000, 0, 0, 0]) })] },
      3, (words [0, 0, 0x00200020, 0, 0x10000, 0, 0, 0]), by and_intros <;> decide +kernel⟩,
    ⟨{ runs [(⟨0, .HEAD_CTRL_EN, 3⟩, 1), (⟨0, .HEAD_LINK_TRAINED, 3⟩, 1)] with heads := [(3, { HeadState.empty with latched := some (words [0, 0, 0x00200020, 0, 0x10000, 0, 0, 0]) })] },
      3, (words [0, 0, 0x00200020, 0, 0x10000, 0, 0, 0]), by and_intros <;> decide +kernel⟩,
    ⟨(runs []), 3, true, by and_intros <;> decide +kernel⟩,
    ⟨(runs []), sch, 3, by decide +kernel, (WritesNow.of_flags (by decide +kernel)), by decide +kernel⟩,
    ⟨(runs []), sch, 3, by decide +kernel, (WritesNow.of_flags (by decide +kernel)), by decide +kernel⟩,
    ⟨{ runs [] with pins.claims := [((3, 0, 3), (0xFF00, 1))] }, fwReq, ⟨3, 1, 4, 8, 25000, 0, 0, 0, 0, 0⟩, 4, 7, (.inl rfl), by and_intros <;> decide +kernel⟩,
    ⟨{ runs [] with pins.claims := [((3, 0, 3), (0xFF00, 1))] }, fwReq, 3, 0x13FFFFFFFF, (.inl rfl), by and_intros <;> decide +kernel⟩,
    ⟨(runs []), fwReq, 3, (.inl rfl), by decide +kernel⟩,
    ⟨{ runs [] with pins.claims := [((3, 0, 3), (0xFF00, 1))] }, fwReq, 3, (.inl rfl), by and_intros <;> decide +kernel⟩⟩

/-- The hypotheses of FunctionRowsComplete are met, each clause. -/
theorem witness_FunctionRowsComplete :
    (∃ s : State, ∃ n, n ≤ 2048 ∧ (∃ e ∈ s.fn.resets, e.fn = fnDom n ∧ e.advanced = false) ∧ (∀ e ∈ s.q.slots, e.2.fn ≠ fnDom n)) ∧
    (∃ s : State, ∃ n, ∃ x, n ≤ 2048 ∧ s.fn.resets.find? (fun e => decide (e.fn = fnDom n) && e.advanced) = some x) ∧
    (∃ s : State, ∃ r : Req, ∃ n, ∃ assign, ∃ quota, ∃ vectors, ∃ aper, Serves s r 0x0300 none ∧ n ≤ 2048 ∧ assign < 4 ∧ quota ≤ 1024 ∧ 1 ≤ vectors ∧ vectors ≤
      64 ∧ s.aperOk aper = true ∧ s.fnSender r = true ∧ (n = 0 → assign = 1 ∧ vectors = 64 ∧ quota ≠ 0) ∧ (assign ≠ 0 ∨ s.assign n = 0) ∧ s.inReset (fnDom n) =
      false ∧ s.resizeRefusal n assign quota vectors = none) ∧
    (∃ s : State, ∃ r : Req, ∃ n, n ≤ 2048 ∧ s.fnSender r = true ∧ s.assign n ≠ 0 ∧ (s.holdsClassS (fnDom n) = false ∨ r.dom = fwDom ∨ s.inReset (fnDom n) =
      true) ∧ Serves s r 0x0301 none) ∧
    (∃ s : State, ∃ r : Req, ∃ n, n ≤ 2048 ∧ s.fnSender r = true ∧ s.assign n ≠ 0 ∧ (s.holdsClassS (fnDom n) = false ∨ r.dom = fwDom ∨ s.inReset (fnDom n) =
      true) ∧ Serves s r 0x0314 none) ∧
    (∃ s : State, ∃ r : Req, ∃ n, Serves s r 0x0302 none ∧ n ≤ 2048 ∧ (s.fnSender r = true ∨ r.dom = fnDom n)) ∧
    (∃ s : State, ∃ r : Req, ∃ n, ∃ first, Serves s r 0x0303 none ∧ n ≤ 2048 ∧ first < 1024 ∧ (s.fnSender r = true ∨ r.dom = fnDom n)) ∧
    (∃ s : State, ∃ r : Req, ∃ c, ∃ a, Serves s r 0x0304 none ∧ c < 2 ∧ 20 ≤ a ∧ a ≤ 32 ∧ s.fnSender r = true ∧ c ∉ s.fn.vfEnable) ∧
    (∃ s : State, ∃ r : Req, ∃ n, Serves s r 0x0310 none ∧ n ≤ 2048 ∧ s.fnSender r = true ∧ s.assign n ≠ 0 ∧ (s.holdsClassS (fnDom n) = false ∨ r.dom = fwDom)
      ∧ s.fn.freezes = [] ∧ s.inReset (fnDom n) = false ∧ s.fw.activation = none ∧ s.fld 0 .MIRROR_STATUS_HANDOVER ≠ 1) ∧
    (∃ s : State, ∃ c, ∃ n, c < 2 ∧ 1 ≤ n ∧ n ≤ 2048 ∧ s.assign n = c + 1) ∧
    (∃ c, ∃ fn, c < 2 ∧ (fn = none ∨ fn = some 0)) ∧
    (∃ s : State, ∃ m : Master, ∃ n, ∃ data : Word, n ≤ 2048 ∧ WritesNow s m (homeOf s.part.dies (fnDom n)) .MBOX (pageOf (fnDom n) * 0x1000 + 0x108) ∧ bits
      data.toNat 31 24 = 0xC3) ∧
    (∃ s : State, ∃ m : Master, ∃ n, ∃ data : Word, 1 ≤ n ∧ n ≤ 2048 ∧ WritesNow s m 0 .SCH (0x80000 + 16 * n) ∧ s.guardOk m = true ∧ bits data.toNat 26 16 ≤
      1024 ∧ 1 ≤ bits data.toNat 6 0 ∧ bits data.toNat 6 0 ≤ 64 ∧ (bits data.toNat 31 30 ≠ 0 ∨ s.assign n = 0) ∧ s.inReset (fnDom n) = false ∧
      s.accepted.resizeRefusal n (bits data.toNat 31 30) (bits data.toNat 26 16) (bits data.toNat 6 0) = none) ∧
    (∃ s : State, ∃ c, c < 2 ∧ c ∉ s.fn.vfEnable) ∧
    (∃ s : State, ∃ c, c < 2 ∧ c ∉ s.fn.vfEnable) ∧
    (∃ s : State, ∃ c, c < 2 ∧ c ∈ s.fn.vfEnable) :=
  ⟨⟨{ runs [] with fn.resets := [⟨fnDom 2048, [], false, false⟩] }, 2048, by and_intros <;> decide +kernel⟩,
    ⟨{ runs [] with fn.resets := [⟨fnDom 2048, [], true, false⟩] }, 2048, ⟨fnDom 2048, [], true, false⟩, by and_intros <;> decide +kernel⟩,
    ⟨(runs []), fwReq, 2048, 3, 1024, 64, 0, (.inl rfl), by and_intros <;> decide +kernel⟩,
    ⟨(runs [(⟨0, .FN_CFG_ASSIGN, 2048⟩, 3)]), fwReq, 2048, by decide +kernel, by decide +kernel, by decide +kernel, by decide +kernel, (.inl rfl)⟩,
    ⟨(runs [(⟨0, .FN_CFG_ASSIGN, 2048⟩, 3)]), fwReq, 2048, by decide +kernel, by decide +kernel, by decide +kernel, by decide +kernel, (.inl rfl)⟩,
    ⟨(runs []), fwReq, 2048, (.inl rfl), by and_intros <;> decide +kernel⟩,
    ⟨(runs []), fwReq, 2048, 1023, (.inl rfl), by and_intros <;> decide +kernel⟩,
    ⟨(runs []), fwReq, 1, 32, (.inl rfl), by and_intros <;> decide +kernel⟩,
    ⟨(runs [(⟨0, .FN_CFG_ASSIGN, 2048⟩, 3)]), fwReq, 2048, (.inl rfl), by and_intros <;> decide +kernel⟩,
    ⟨(runs [(⟨0, .FN_CFG_ASSIGN, 2048⟩, 2)]), 1, 2048, by and_intros <;> decide +kernel⟩,
    ⟨1, (some 0), by and_intros <;> decide +kernel⟩,
    ⟨(runs [(⟨0, .FN_CFG_ASSIGN, 2048⟩, 3)]), sch, 2048, 0xC3000000, by decide +kernel, (WritesNow.of_flags (by decide +kernel)), by decide +kernel⟩,
    ⟨(runs []), sch, 2048, 0xc4000040, by decide +kernel, by decide +kernel, (WritesNow.of_flags (by decide +kernel)), by and_intros <;> decide +kernel⟩,
    ⟨(runs []), 1, by and_intros <;> decide +kernel⟩,
    ⟨(runs []), 1, by and_intros <;> decide +kernel⟩,
    ⟨{ runs [] with fn.vfEnable := [1] }, 1, by and_intros <;> decide +kernel⟩⟩

/-- The hypotheses of ImageRowsComplete are met, each clause. -/
theorem witness_ImageRowsComplete :
    (∃ s : State, ∃ r : Req, ∃ n, ∃ flags, ∃ maxLen, ∃ a, ∃ f, ∃ d, ∃ o, ∃ key, ∃ t, s.handling r 0x0311 = t ∧ Serves s r 0x0311 none ∧ n ≤ 2048 ∧ flags < 4 ∧
      t.fnSender r = true ∧ (bit flags 1 = true → t.hasFeature r 13 = true) ∧ t.fn.freezes.find? (fun f => decide (f.fn = fnDom n) && f.complete) = some f ∧
      decodeAddr s.part 0 a = .dram d o ∧ t.imageKey (flags / 2) = some key ∧ o + (128 + (imageSections (t.imageRecs (fnDom n) (bit flags 1) (bit flags
      0))).flatten.length) ≤ s.part.dramBytes ∧ (128 + (imageSections (t.imageRecs (fnDom n) (bit flags 1) (bit flags 0))).flatten.length) ≤ maxLen ∧
      t.memRefusal copyEngine a (128 + (imageSections (t.imageRecs (fnDom n) (bit flags 1) (bit flags 0))).flatten.length) = none ∧ (t.copyUes (((t.imageRecs
      (fnDom n) (bit flags 1) (bit flags 0)).filter (fun x => decide (x.kind = 8 ∨ x.kind = 9))).map (fun x => (x.object, x.content.length))) = none)) ∧
    (∃ s : State, ∃ r : Req, ∃ n, ∃ flags, ∃ len, ∃ a, ∃ key, ∃ ss, ∃ rs, ∃ t, ∃ u, ∃ dieMap : List Nat, s.handling r 0x0312 = t ∧ Serves s r 0x0312 none ∧ n ≤
      2048 ∧ flags < 4 ∧ 128 ≤ len ∧ t.inMemory a len = true ∧ t.fnSender r = true ∧ (bit flags 1 = true → t.hasFeature r 13 = true) ∧ t.memRefusal copyEngine
      a len = none ∧ t.copyUes [(a, len)] = none ∧ t.imageKey (leAt (slice (s.bytes a len) 64 64) 0 1) = some key ∧ (Config.gcmTag key (leAt (slice (s.bytes a
      len) 64 64) 4 12) ((s.bytes a len).take 64) ((s.bytes a len).drop 128)).toNat = leAt (slice (s.bytes a len) 64 64) 16 16 ∧ leAt (slice (s.bytes a len) 64
      64) 1 3 = 0 ∧ parseSections 16 (cipher key (leAt (slice (s.bytes a len) 64 64) 4 12) 0 ((s.bytes a len).drop 128)) = some ss ∧ imageOf [] ss = some rs ∧
      leAt ((s.bytes a len).take 64) 0 4 = 0x4E465653 ∧ leAt ((s.bytes a len).take 64) 4 1 = 1 ∧ leAt ((s.bytes a len).take 64) 6 2 = n ∧ leAt ((s.bytes a
      len).take 64) 11 1 = flags ∧ leAt ((s.bytes a len).take 64) 16 8 = len ∧ leAt ((s.bytes a len).take 64) 12 4 = ss.length ∧ bit flags 1 = false ∧ (∀ d ∈
      dieMap, d < s.part.dies) ∧ earlierGen (leAt ((s.bytes a len).take 64) 8 2) (t.genOf (fnDom n)) = false ∧ t.claimTaken (fnDom n) dieMap (rs.filter (fun x
      => decide (x.kind = 5))) = false ∧ t.restoreHere (fnDom n) (bit flags 0) dieMap rs = some u) ∧
    (∃ s : State, ∃ r : Req, ∃ n, ∃ flags, ∃ len, ∃ a, ∃ key, ∃ ss, ∃ rs, ∃ t, ∃ u, s.handling r 0x0312 = t ∧ Serves s r 0x0312 none ∧ n ≤ 2048 ∧ flags < 4 ∧
      128 ≤ len ∧ t.inMemory a len = true ∧ t.fnSender r = true ∧ (bit flags 1 = true → t.hasFeature r 13 = true) ∧ t.memRefusal copyEngine a len = none ∧
      t.copyUes [(a, len)] = none ∧ t.imageKey (leAt (slice (s.bytes a len) 64 64) 0 1) = some key ∧ (Config.gcmTag key (leAt (slice (s.bytes a len) 64 64) 4
      12) ((s.bytes a len).take 64) ((s.bytes a len).drop 128)).toNat = leAt (slice (s.bytes a len) 64 64) 16 16 ∧ leAt (slice (s.bytes a len) 64 64) 1 3 = 0 ∧
      parseSections 16 (cipher key (leAt (slice (s.bytes a len) 64 64) 4 12) 0 ((s.bytes a len).drop 128)) = some ss ∧ imageOf [] ss = some rs ∧ leAt ((s.bytes
      a len).take 64) 0 4 = 0x4E465653 ∧ leAt ((s.bytes a len).take 64) 4 1 = 1 ∧ leAt ((s.bytes a len).take 64) 6 2 = n ∧ leAt ((s.bytes a len).take 64) 11 1
      = flags ∧ leAt ((s.bytes a len).take 64) 16 8 = len ∧ leAt ((s.bytes a len).take 64) 12 4 = ss.length ∧ bit flags 1 = true ∧ bit flags 0 = true ∧
      (t.assign n = 0 ∨ (t.queuesOf (fnDom n) = [] ∧ ∀ e ∈ t.pins.claims, e.2.1 ≠ fnDom n)) ∧ t.claimTaken (fnDom n) [] (rs.filter (fun x => decide (x.kind =
      5))) = false ∧ t.placesFree (rs.filter (fun x => decide (x.kind = 7))) = true ∧ t.putRecs (fnDom n) ((rs.filter (fun x => decide (x.kind = 1))).map (fun
      x => { x with object := leAt ((s.bytes a len).take 64) 8 2 }) ++ rs.filter (fun x => decide (x.kind ≠ 1))) = some u) ∧
    (∃ s : State, ∃ r : Req, ∃ n, Serves s r 0x0313 none ∧ n ≤ 2048 ∧ s.fnSender r = true ∧ (∃ f ∈ s.fn.freezes, f.fn = fnDom n ∧ f.complete = true)) :=
  ⟨⟨{ runs [] with fn.freezes := [⟨fnDom 2048, [], true, 0, false⟩] }, fwReq, 2048, 0, 0x10000, 0x10000, ⟨fnDom 2048, [], true, 0, false⟩, 0, 0x10000, 0,
    { runs [] with fn.freezes := [⟨fnDom 2048, [], true, 0, false⟩] }, rfl, (.inl rfl), by and_intros <;> decide +kernel⟩,
    (by
      refine ⟨(sealedAt 0 (Config.gcmTag 0 0 (imageHead 0) []).toNat), fwReq, 2048, 0, 128, 0x10000, 0, [], [], (sealedAt 0 (Config.gcmTag 0 0 (imageHead 0)
        []).toNat), ?u239, [], rfl, (.inl rfl), ?rest239⟩
      case rest239 => and_intros <;> first | decide +kernel | exact tag_agrees 0 (by decide) | rfl),
    (by
      refine ⟨(sealedAt 3 (Config.gcmTag 0 0 (imageHead 3) []).toNat), fwReq, 2048, 3, 128, 0x10000, 0, [], [], (sealedAt 3 (Config.gcmTag 0 0 (imageHead 3)
        []).toNat), ?u240, rfl, (.inl rfl), ?rest240⟩
      case rest240 => and_intros <;> first | decide +kernel | exact tag_agrees 3 (by decide) | rfl),
    ⟨{ runs [] with fn.freezes := [⟨fnDom 2048, [], true, 0, false⟩] }, fwReq, 2048, (.inl rfl), by and_intros <;> decide +kernel⟩⟩

/-- The hypotheses of CameraRowsComplete are met, each clause. -/
theorem witness_CameraRowsComplete :
    (∃ s : State, ∃ d, ∃ rx, ∃ h : CsiHeader, ∃ u, s.hasDie d = true ∧ rx < 8 ∧ s.csiHeader d rx h = (true, u) ∧ h.dt = 0) ∧
    (∃ s : State, ∃ d, ∃ rx, ∃ h : CsiHeader, ∃ u, s.hasDie d = true ∧ rx < 8 ∧ s.csiHeader d rx h = (true, u) ∧ h.dt = 1) ∧
    (∃ s : State, ∃ d, ∃ rx, ∃ h : CsiHeader, ∃ u, s.hasDie d = true ∧ rx < 8 ∧ s.csiHeader d rx h = (true, u) ∧ h.dt ≠ 0 ∧ h.dt ≠ 1) ∧
    (∃ s : State, ∃ d, ∃ rx, ∃ h : CsiHeader, ∃ u, ∃ n, ∃ rest, s.hasDie d = true ∧ rx < 8 ∧ s.csiHeader d rx h = (true, u) ∧ (u.openOn d (rangeFrom (16 * rx)
      16) (fun f => !f.gvsp && decide (f.channel = h.vc) && decide (f.format = h.dt))) = n :: rest) ∧
    (∃ s : State, ∃ d, ∃ rx, ∃ h : CsiHeader, ∃ u, ∃ n, s.hasDie d = true ∧ rx < 8 ∧ s.csiHeader d rx h = (true, u) ∧ (u.openOn d (rangeFrom (16 * rx) 16) (fun
      f => !f.gvsp && decide (f.channel = h.vc) && decide (f.format = h.dt))) = [] ∧ (u.csiStreams d rx h.vc).find? (fun n => decide (u.fld d .STR_CFG_DT n =
      h.dt)) = some n ∧ u.fld d .STR_CFG_LINESCAN n ≠ 0 ∧ (u.stream d n).opened = none) ∧
    (∃ s : State, ∃ d, ∃ rx, ∃ h : CsiHeader, ∃ u, s.hasDie d = true ∧ rx < 8 ∧ s.csiHeader d rx h = (true, u) ∧ (u.openOn d (rangeFrom (16 * rx) 16) (fun f =>
      !f.gvsp && decide (f.channel = h.vc) && decide (f.format = h.dt))) = [] ∧ (u.csiStreams d rx h.vc).find? (fun n => decide (u.fld d .STR_CFG_DT n = h.dt))
      = none) ∧
    (∃ s : State, ∃ d, ∃ n, ∃ f, ∃ fs, s.hasDie d = true ∧ n < 128 ∧ (s.stream d n).ended = f :: fs) ∧
    (∃ s : State, ∃ d, ∃ n, ∃ g, s.hasDie d = true ∧ n < 128 ∧ (s.stream d n).golden = some g) ∧
    (∃ s : State, ∃ m : Master, ∃ d, ∃ n, ∃ off, ∃ data : Word, s.hasDie d = true ∧ n < 128 ∧ off < 0x80 ∧ WritesNow s m d .CSI (0x10000 * (n / 16) + 0x1000 +
      0x80 * (n % 16) + off) ∧ s.otherHolds m 4 d n = false ∧ strOk off data.toNat = true ∧ off = 0 ∧ (s.holdsClassS (writerOf m) = true ∨ bits data.toNat 28
      28 = 0) ∧ s.strEnableOk d n data.toNat (s.fld d .STR_GOLD_UDP_PORT n) = true) ∧
    (∃ s : State, ∃ m : Master, ∃ d, ∃ n, ∃ off, ∃ data : Word, s.hasDie d = true ∧ n < 128 ∧ off < 0x80 ∧ WritesNow s m d .CSI (0x10000 * (n / 16) + 0x1000 +
      0x80 * (n % 16) + off) ∧ s.otherHolds m 4 d n = false ∧ strOk off data.toNat = true ∧ off ∉ [0, 0x18, 0x1C, 0x20, 0x24]) ∧
    (∃ s : State, ∃ d, ∃ rx, s.hasDie d = true ∧ rx < 8 ∧ s.fld d .CSI_PHY_MODE rx ≠ 0 ∧ s.fld d .CSI_STATUS_LOCK rx = 0) ∧
    (∃ s : State, ∃ d, ∃ rx, s.hasDie d = true ∧ rx < 8 ∧ s.fld d .CSI_PHY_MODE rx ≠ 0 ∧ s.fld d .CSI_STATUS_LOCK rx = 1) ∧
    (∃ s : State, ∃ r : Req, ∃ d, ∃ rx, ∃ mode, Serves s r 0x0400 (some d) ∧ s.hasDie d = true ∧ rx < 8 ∧ s.holder 5 d rx = r.dom ∧ s.rxBusy d rx = false ∧
      mode = 0) ∧
    (∃ s : State, ∃ r : Req, ∃ d, ∃ rx, ∃ mode, ∃ lanes, ∃ rate, Serves s r 0x0400 (some d) ∧ s.hasDie d = true ∧ rx < 8 ∧ s.holder 5 d rx = r.dom ∧ s.rxBusy d
      rx = false ∧ ((mode = 1 ∧ (lanes = 1 ∨ lanes = 2 ∨ lanes = 4) ∧ 80 ≤ rate ∧ rate ≤ 4500) ∨ (mode = 2 ∧ 1 ≤ lanes ∧ lanes ≤ 3 ∧ 80 ≤ rate ∧ rate ≤ 6000)))
      ∧
    (∃ s : State, ∃ r : Req, ∃ d, ∃ n, ∃ images : List Word, Serves s r 0x0401 (some d) ∧ s.hasDie d = true ∧ n < 128 ∧ images.length = 16 ∧ s.holder 4 d n =
      r.dom ∧ s.subsetRefusal r (decide (handleDie ((fun (i : Nat) => (images.getD i 0).toNat) 3) ≠ 0) || decide (handleDie ((fun (i : Nat) => (images.getD i
      0).toNat) 11) ≠ 0)) false = none ∧ (bits ((fun (i : Nat) => (images.getD i 0).toNat) 0) 28 28 = 1 → s.holdsClassS r.dom = true) ∧ (∀ i, i < 16 → strOk (4
      * i) ((fun (i : Nat) => (images.getD i 0).toNat) i) = true) ∧ s.strEnableOk d n ((fun (i : Nat) => (images.getD i 0).toNat) 0) (bits ((fun (i : Nat) =>
      (images.getD i 0).toNat) 10) 31 16) = true) ∧
    (∃ s : State, ∃ r : Req, ∃ d, ∃ n, Serves s r 0x0402 (some d) ∧ s.hasDie d = true ∧ n < 128) :=
  ⟨⟨(runs [(⟨1, .CSI_PHY_MODE, 7⟩, 1), (⟨1, .STR_CFG_EN, 127⟩, 1), (⟨1, .STR_CFG_DT, 127⟩, 42)]), 1, 7, ⟨0, 0, 0, 0⟩, _, by decide +kernel, by decide +kernel,
    rfl, by decide +kernel⟩,
    ⟨(runs [(⟨1, .CSI_PHY_MODE, 7⟩, 1), (⟨1, .STR_CFG_EN, 127⟩, 1), (⟨1, .STR_CFG_DT, 127⟩, 42)]), 1, 7, ⟨0, 1, 0, 0⟩, _, by decide +kernel, by decide +kernel,
      rfl, by decide +kernel⟩,
    ⟨(runs [(⟨1, .CSI_PHY_MODE, 7⟩, 1), (⟨1, .STR_CFG_EN, 127⟩, 1), (⟨1, .STR_CFG_DT, 127⟩, 42)]), 1, 7, ⟨0, 2, 0, 0⟩, _, by decide +kernel, by decide +kernel,
      rfl, by and_intros <;> decide +kernel⟩,
    ⟨{ runs [(⟨1, .CSI_PHY_MODE, 7⟩, 1), (⟨1, .STR_CFG_EN, 127⟩, 1), (⟨1, .STR_CFG_DT, 127⟩, 42)] with streams := [((1, 127), { CamStream.empty with opened := some { plainFrame with format := 42 } })] },
      1, 7, ⟨0, 0x2A, 0, 0⟩,
      { runs [(⟨1, .CSI_PHY_MODE, 7⟩, 1), (⟨1, .STR_CFG_EN, 127⟩, 1), (⟨1, .STR_CFG_DT, 127⟩, 42)] with streams := [((1, 127), { CamStream.empty with opened := some { plainFrame with format := 42 } })] },
      127, [], by decide +kernel, by decide +kernel, rfl, by decide +kernel⟩,
    ⟨(runs [(⟨1, .CSI_PHY_MODE, 7⟩, 1), (⟨1, .STR_CFG_EN, 127⟩, 1), (⟨1, .STR_CFG_DT, 127⟩, 42), (⟨1, .STR_CFG_LINESCAN, 127⟩, 1)]), 1, 7, ⟨0, 0x2A, 0, 0⟩,
      (runs [(⟨1, .CSI_PHY_MODE, 7⟩, 1), (⟨1, .STR_CFG_EN, 127⟩, 1), (⟨1, .STR_CFG_DT, 127⟩, 42), (⟨1, .STR_CFG_LINESCAN, 127⟩, 1)]), 127, by decide +kernel,
      by decide +kernel, rfl, by and_intros <;> decide +kernel⟩,
    ⟨(runs [(⟨1, .CSI_PHY_MODE, 7⟩, 1), (⟨1, .STR_CFG_EN, 127⟩, 1), (⟨1, .STR_CFG_DT, 127⟩, 42)]), 1, 7, ⟨0, 0x24, 0, 0⟩, (runs [(⟨1, .CSI_PHY_MODE, 7⟩, 1),
      (⟨1, .STR_CFG_EN, 127⟩, 1), (⟨1, .STR_CFG_DT, 127⟩, 42)]), by decide +kernel, by decide +kernel, rfl, by and_intros <;> decide +kernel⟩,
    ⟨{ runs [] with streams := [((1, 127), { CamStream.empty with ended := [plainFrame] })] }, 1, 127, plainFrame, [], by and_intros <;> decide +kernel⟩,
    ⟨{ runs [] with streams := [((1, 127), { CamStream.empty with golden := some ⟨plainFrame, 0, 0, false⟩ })] }, 1, 127, ⟨plainFrame, 0, 0, false⟩,
      by and_intros <;> decide +kernel⟩,
    ⟨(runs []), sch, 1, 127, 0, 0x1000, by decide +kernel, by decide +kernel, by decide +kernel, (WritesNow.of_flags (by decide +kernel)),
      by and_intros <;> decide +kernel⟩,
    ⟨(runs []), sch, 1, 127, 124, 0, by decide +kernel, by decide +kernel, by decide +kernel, (WritesNow.of_flags (by decide +kernel)),
      by and_intros <;> decide +kernel⟩,
    ⟨(runs [(⟨1, .CSI_PHY_MODE, 7⟩, 1)]), 1, 7, by and_intros <;> decide +kernel⟩,
    ⟨(runs [(⟨1, .CSI_PHY_MODE, 7⟩, 1), (⟨1, .CSI_STATUS_LOCK, 7⟩, 1)]), 1, 7, by and_intros <;> decide +kernel⟩,
    ⟨{ runs [] with pins.claims := [((5, 1, 7), (0xFF00, 1))] }, fwReq, 1, 7, 0, (.inl rfl), by and_intros <;> decide +kernel⟩,
    ⟨{ runs [] with pins.claims := [((5, 1, 7), (0xFF00, 1))] }, fwReq, 1, 7, 2, 3, 6000, (.inl rfl), by and_intros <;> decide +kernel⟩,
    ⟨{ runs [] with pins.claims := [((4, 1, 127), (0xFF00, 1))] }, fwReq, 1, 127, ([0x1000, 0x10001, 1, 0, 0, 0, 0, 0, 0, 0, 8, 0, 0, 0, 0, 0]), (.inl rfl),
      by and_intros <;> decide +kernel⟩,
    ⟨(runs []), fwReq, 1, 127, (.inl rfl), by and_intros <;> decide +kernel⟩⟩

/-- The hypotheses of OdometryRowsComplete are met, each clause. -/
theorem witness_OdometryRowsComplete :
    (∃ s : State, ∃ ch, ∃ x, ∃ y, ch < 4 ∧ s.fld 0 .ODO_CFG_EN ch ≠ 0 ∧ ((s.odoOf ch).levelA = x ∨ (s.odoOf ch).levelB = y)) ∧
    (∃ s : State, ∃ ch, ∃ x, ∃ y, ch < 4 ∧ s.fld 0 .ODO_CFG_EN ch ≠ 0 ∧ (s.odoOf ch).levelA ≠ x ∧ (s.odoOf ch).levelB ≠ y) ∧
    (∃ s : State, ∃ ch, ch < 4 ∧ s.fld 0 .ODO_CFG_EN ch ≠ 0 ∧ (s.odoOf ch).zCount = none) ∧
    (∃ s : State, ∃ k, k < 4 ∧ s.fld 0 .TACH_CFG_EN k ≠ 0 ∧ k ∈ s.tachSeen) ∧
    (∃ s : State, ∃ k, k < 4 ∧ s.fld 0 .TACH_CFG_EN k ≠ 0 ∧ k ∉ s.tachSeen) ∧
    (∃ s : State, ∃ m : Master, ∃ ch, ch < 4 ∧ WritesNow s m 0 .ODO (0x11C + 0x40 * ch) ∧ s.guardOk m = true ∧ s.otherHolds m 6 0 ch = false) ∧
    (∃ s : State, ∃ r : Req, ∃ ch, ∃ cfg : Word, Serves s r 0x0410 none ∧ ch < 4 ∧ odoCfgOk ch cfg.toNat = true ∧ s.holder 6 0 ch = r.dom) ∧
    (∃ s : State, ∃ r : Req, ∃ ch, Serves s r 0x0411 none ∧ ch < 4 ∧ s.holder 6 0 ch = r.dom) ∧
    (∃ s : State, ∃ r : Req, ∃ ch, Serves s r 0x0412 none ∧ ch < 4) ∧
    (∃ s : State, ∃ r : Req, ∃ k, ∃ cfg : Word, Serves s r 0x0413 none ∧ k < 4 ∧ debOk (bits cfg.toNat 9 0) = true ∧ s.holder 7 0 k = r.dom) :=
  ⟨⟨(runs [(⟨0, .ODO_CFG_EN, 3⟩, 1)]), 3, true, false, by and_intros <;> decide +kernel⟩,
    ⟨(runs [(⟨0, .ODO_CFG_EN, 3⟩, 1)]), 3, true, true, by and_intros <;> decide +kernel⟩,
    ⟨(runs [(⟨0, .ODO_CFG_EN, 3⟩, 1)]), 3, by and_intros <;> decide +kernel⟩,
    ⟨{ runs [(⟨0, .TACH_CFG_EN, 3⟩, 1)] with tachSeen := [3] }, 3, by and_intros <;> decide +kernel⟩,
    ⟨(runs [(⟨0, .TACH_CFG_EN, 3⟩, 1)]), 3, by and_intros <;> decide +kernel⟩,
    ⟨(runs []), sch, 3, by decide +kernel, (WritesNow.of_flags (by decide +kernel)), by and_intros <;> decide +kernel⟩,
    ⟨{ runs [] with pins.claims := [((6, 0, 3), (0xFF00, 1))] }, fwReq, 3, 0x03E80000, (.inl rfl), by and_intros <;> decide +kernel⟩,
    ⟨{ runs [] with pins.claims := [((6, 0, 3), (0xFF00, 1))] }, fwReq, 3, (.inl rfl), by and_intros <;> decide +kernel⟩,
    ⟨(runs []), fwReq, 3, (.inl rfl), by decide +kernel⟩,
    ⟨{ runs [] with pins.claims := [((7, 0, 3), (0xFF00, 1))] }, fwReq, 3, 1000, (.inl rfl), by and_intros <;> decide +kernel⟩⟩

/-- The hypotheses of TimeEventsComplete are met, each clause. -/
theorem witness_TimeEventsComplete :
    (∃ s : State, ∃ k, k < 8 ∧ s.tbRuns k = true ∧ (s.fld 0 .TB_CFG_SRC k = 1 ∨ s.fld 0 .TB_CFG_SRC k = 2)) ∧
    (∃ s : State, ∃ n, ∃ t, n < 32 ∧ lookup? s.time.next n = some t ∧ s.tbRuns (s.fld 0 .TRG_CFG_SRC n) = true ∧ t ≤ s.tbNs (s.fld 0 .TRG_CFG_SRC n)) ∧
    (∃ n, n < 32) ∧
    (∃ s : State, s.fld 0 .PPS_OUT_CFG_EN = 1 ∧ s.tbRuns (s.fld 0 .PPS_OUT_CFG_TB) = true) ∧
    (∃ s : State, ∃ k, k < 8 ∧ s.fld 0 .CMP32_CFG_EN k = 1 ∧ k ∈ s.time.armed ∧ s.cmpReached k = true) ∧
    (∃ s : State, ∃ d, ∃ n, ∃ rising, s.hasDie d = true ∧ n < 32 ∧ s.fld d .TSCAP_CFG_EN n = 1 ∧ s.fld d .PINCFG_FUNC (gpioPin n) = 2 ∧ (s.fld d
      .TSCAP_CFG_EDGE n = 2 ∨ s.fld d .TSCAP_CFG_EDGE n = (if rising = true then 0 else 1))) ∧
    (∃ s : State, ∃ m : Master, ∃ k, ∃ data : Word, k < 8 ∧ s.guardOk m = true ∧ s.tbMay m k = true ∧ WritesNow s m 0 .TIMEBASE (0x108 + 0x40 * k) ∧ s.fld 0
      .TB_CFG_SRC k = 0 ∧ (toSigned 32 data.toNat).natAbs ≤ 549755814) ∧
    (∃ s : State, ∃ m : Master, ∃ k, k < 8 ∧ s.guardOk m = true ∧ s.tbMay m k = true ∧ WritesNow s m 0 .TIMEBASE (0x12C + 0x40 * k) ∧ s.fld 0 .TB_CFG_SRC k =
      1) ∧
    (∃ s : State, ∃ m : Master, ∃ k, ∃ data : Word, k < 8 ∧ s.guardOk m = true ∧ s.tbMay m k = true ∧ WritesNow s m 0 .TIMEBASE (0x138 + 0x40 * k) ∧ s.fld 0
      .TB_SETSEC_SEC k < 2 ^ 34 ∧ data.toNat % 2 ^ 30 < 1000000000) ∧
    (∃ s : State, ∃ m : Master, ∃ n, ∃ data : Word, n < 32 ∧ s.otherHolds m 9 0 n = false ∧ WritesNow s m 0 .TIMEBASE (0x400 + 0x20 * n) ∧ bits data.toNat 26
      25 ≠ 3 ∧ bits data.toNat 19 0 ≠ 0 ∧ trgValid (bits data.toNat 31 30) (if (bits data.toNat 31 30) = 3 then bits data.toNat 28 27 else bits data.toNat 29
      27) (bits data.toNat 26 25) (bits data.toNat 19 0) (s.fld 0 .TRG_START_START n) (s.fld 0 .TRG_PERIOD_PERIOD n) = true) ∧
    (∃ s : State, ∃ m : Master, ∃ n, n < 32 ∧ s.otherHolds m 9 0 n = false ∧ WritesNow s m 0 .TIMEBASE (0x400 + 0x20 * n + 4)) ∧
    (∃ s : State, ∃ m : Master, ∃ k, k < 8 ∧ WritesNow s m 0 .TIMEBASE (0x3008 + 0x10 * k) ∧ s.otherHolds m 0xA 0 k = false) :=
  ⟨⟨(runs [(⟨0, .TB_CFG_EN, 7⟩, 1), (⟨0, .TB_CFG_SRC, 7⟩, 2)]), 7, by and_intros <;> decide +kernel⟩,
    ⟨{ runs [(⟨0, .TB_CFG_EN, 0⟩, 1)] with time.next := [(31, 0)] }, 31, 0, by and_intros <;> decide +kernel⟩,
    ⟨31, by decide +kernel⟩,
    ⟨(runs [(⟨0, .PPS_OUT_CFG_EN, 0⟩, 1), (⟨0, .TB_CFG_EN, 0⟩, 1)]), by and_intros <;> decide +kernel⟩,
    ⟨{ runs [(⟨0, .CMP32_CFG_EN, 7⟩, 1)] with time.armed := [7] }, 7, by and_intros <;> decide +kernel⟩,
    ⟨(runs [(⟨1, .TSCAP_CFG_EN, 31⟩, 1), (⟨1, .PINCFG_FUNC, 207⟩, 2), (⟨1, .TSCAP_CFG_EDGE, 31⟩, 1), (⟨1, .TSCAP_STATUS_VALID, 31⟩, 1)]), 1, 31, false,
      by and_intros <;> decide +kernel⟩,
    ⟨(runs []), sch, 7, 0x20C49BA5, by decide +kernel, by decide +kernel, by decide +kernel, (WritesNow.of_flags (by decide +kernel)),
      by and_intros <;> decide +kernel⟩,
    ⟨(runs [(⟨0, .TB_CFG_SRC, 7⟩, 1)]), sch, 7, by decide +kernel, by decide +kernel, by decide +kernel, (WritesNow.of_flags (by decide +kernel)), by
      decide +kernel⟩,
    ⟨(runs []), sch, 7, 999999999, by decide +kernel, by decide +kernel, by decide +kernel, (WritesNow.of_flags (by decide +kernel)),
      by and_intros <;> decide +kernel⟩,
    ⟨(runs []), sch, 31, 0x40000001, by decide +kernel, by decide +kernel, (WritesNow.of_flags (by decide +kernel)), by and_intros <;> decide +kernel⟩,
    ⟨(runs []), sch, 31, by decide +kernel, by decide +kernel, (WritesNow.of_flags (by decide +kernel))⟩,
    ⟨(runs []), sch, 7, by decide +kernel, (WritesNow.of_flags (by decide +kernel)), by decide +kernel⟩⟩

/-- The hypotheses of TimeMessagesComplete are met, each clause. -/
theorem witness_TimeMessagesComplete :
    (∃ s : State, ∃ r : Req, ∃ k, Serves s r 0x0500 none ∧ k < 8) ∧
    (∃ s : State, ∃ r : Req, ∃ c : TbCfg, Serves s r 0x0501 none ∧ c.tb < 8 ∧ c.src ≤ 2 ∧ c.en ≤ 1 ∧ 1 ≤ c.holdS ∧ c.holdS ≤ 255 ∧ (c.tb = 0 → c.en = 1) ∧
      (c.src = 0 → (toSigned 32 c.adj.toNat).natAbs ≤ 549755814) ∧ (c.src ≠ 0 → toSigned 32 c.adj.toNat = 0) ∧ s.tbSender r c.tb = true) ∧
    (∃ s : State, ∃ r : Req, ∃ k, ∃ theta : BitVec 64, Serves s r 0x0502 none ∧ k < 8 ∧ s.fld 0 .TB_CFG_SRC k = 1 ∧ s.tbSender r k = true ∧ (s.offset k
      (toSigned 64 theta.toNat * (nsUnit : Nat))).2 = false) ∧
    (∃ s : State, ∃ r : Req, ∃ k, ∃ sec, ∃ nsec, Serves s r 0x0503 none ∧ k < 8 ∧ s.major2 r = false ∧ sec < 2 ^ 34 ∧ nsec < 1000000000 ∧ s.tbSender r k =
      true) ∧
    (∃ s : State, ∃ r : Req, ∃ k, ∃ sec, Serves s r 0x0503 none ∧ k < 8 ∧ s.major2 r = true ∧ s.sec32 k (sec % 2 ^ 32) < 2 ^ 34 ∧ sec / 2 ^ 32 < 1000000000 ∧
      s.tbSender r k = true) ∧
    (∃ s : State, ∃ r : Req, ∃ tb, ∃ en, ∃ width, Serves s r 0x0504 none ∧ tb < 8 ∧ en ≤ 1 ∧ width < 2 ^ 20 ∧ s.granted r.dom = true) ∧
    (∃ s : State, ∃ r : Req, ∃ c : TrgCfg, ∃ start, Serves s r 0x0510 none ∧ c.trg < 32 ∧ c.flags < 8 ∧ (start = (if c.mode = 1 ∨ c.mode = 2 then s.timeIn r
      c.src c.start else c.start)) ∧ trgValid c.mode c.src c.dir c.width start c.period = true ∧ s.holder 9 0 c.trg = r.dom) ∧
    (∃ s : State, ∃ r : Req, ∃ n, Serves s r 0x0511 none ∧ n < 32) ∧
    (∃ s : State, ∃ r : Req, ∃ d, ∃ n, ∃ en, ∃ edge, ∃ tb, Serves s r 0x0520 (some d) ∧ s.hasDie d = true ∧ n < 32 ∧ en ≤ 1 ∧ edge ≤ 2 ∧ tb < 8 ∧ s.holder 1 d
      (gpioPin n) = r.dom) ∧
    (∃ s : State, ∃ r : Req, ∃ d, ∃ n, Serves s r 0x0521 (some d) ∧ s.hasDie d = true ∧ n < 32) ∧
    (∃ s : State, ∃ r : Req, ∃ k, ∃ tb, ∃ en, ∃ nsec, Serves s r 0x0530 none ∧ k < 8 ∧ tb < 8 ∧ en ≤ 1 ∧ nsec < 1000000000 ∧ s.holder 0xA 0 k = r.dom) :=
  ⟨⟨(runs []), fwReq, 7, (.inl rfl), by decide +kernel⟩,
    ⟨{ runs [] with pins.claims := [((8, 0, 7), (0xFF00, 1))] }, fwReq, ⟨7, 0, 255, 1, 0, 0, 0, 0x20C49BA5⟩, (.inl rfl), by and_intros <;> decide +kernel⟩,
    ⟨{ runs [(⟨0, .TB_CFG_SRC, 7⟩, 1)] with pins.claims := [((8, 0, 7), (0xFF00, 1))] }, fwReq, 7, 0, (.inl rfl), by decide +kernel, by decide +kernel, by
      decide +kernel, rfl⟩,
    ⟨{ runs [] with pins.claims := [((8, 0, 7), (0xFF00, 1))] }, fwReq, 7, (2 ^ 34 - 1), 999999999, (.inl rfl), by and_intros <;> decide +kernel⟩,
    ⟨{ client with mail.boxes := [(0, { Mailbox.empty with session := some ⟨1, 2, 2, 2 ^ 16 - 1⟩ })], pins.claims := [((8, 0, 7), (0, 1))] }, cli, 7,
      (999999999 * 2 ^ 32), (.inr ⟨by decide +kernel, by decide +kernel⟩), by and_intros <;> decide +kernel⟩,
    ⟨(runs []), fwReq, 7, 1, (2 ^ 20 - 1), (.inl rfl), by and_intros <;> decide +kernel⟩,
    ⟨{ runs [] with pins.claims := [((9, 0, 31), (0xFF00, 1))] }, fwReq, ⟨31, 2, 7, 2, 7, 1, 0, 100⟩, 0, (.inl rfl), by and_intros <;> decide +kernel⟩,
    ⟨(runs []), fwReq, 31, (.inl rfl), by decide +kernel⟩,
    ⟨{ runs [] with pins.claims := [((1, 1, 207), (0xFF00, 1))] }, fwReq, 1, 31, 1, 2, 7, (.inl rfl), by and_intros <;> decide +kernel⟩,
    ⟨(runs []), fwReq, 1, 31, (.inl rfl), by and_intros <;> decide +kernel⟩,
    ⟨{ runs [] with pins.claims := [((10, 0, 7), (0xFF00, 1))] }, fwReq, 7, 7, 1, 999999999, (.inl rfl), by and_intros <;> decide +kernel⟩⟩

/-- The hypotheses of EthernetRowsComplete are met, each clause. -/
theorem witness_EthernetRowsComplete :
    (∃ s : State, ∃ d, ∃ i, s.hasDie d = true ∧ i < 6 ∧ s.portUp d i = true) ∧
    (∃ s : State, ∃ d, ∃ i, ∃ frame : List Byte, s.hasDie d = true ∧ i < 6 ∧ s.portUp d i = true ∧ 9212 < frame.length) ∧
    (∃ s : State, ∃ d, ∃ i, ∃ frame : List Byte, s.hasDie d = true ∧ i < 6 ∧ s.portUp d i = true ∧ 60 ≤ frame.length ∧ frame.length ≤ 9212 ∧ beAt frame
      (frameType frame) 2 ≠ 0x8808 ∧ s.eth.traps = []) ∧
    (∃ s : State, ∃ d, ∃ i, ∃ f, ∃ rest, s.hasDie d = true ∧ i < 6 ∧ s.portUp d i = true ∧ (s.port d i).sendEnd ≤ s.now ∧ s.nextFrame d i = some (f, rest)) ∧
    (∃ s : State, ∃ d, ∃ i, ∃ g, s.hasDie d = true ∧ i < 7 ∧ (s.port d i).nextGates = some g ∧ g.base ≤ s.tbNs g.tb ∧ (s.port d i).gates = none) ∧
    (∃ s : State, ∃ d, ∃ i, ∃ g, s.hasDie d = true ∧ i < 7 ∧ (s.port d i).nextGates = none ∧ (s.port d i).gates = some g ∧ (s.port d i).entryEnd ≤ s.tbNs g.tb)
      ∧
    (∃ s : State, ∃ d, ∃ i, ∃ up, s.hasDie d = true ∧ i < 6 ∧ s.fld d .ETH_PORT_STATUS_LINK i ≠ b2n up) ∧
    (∃ s : State, ∃ r : Req, ∃ d, ∃ i, ∃ speed, ∃ fec, ∃ an, Serves s r 0x0B00 (some d) ∧ s.hasDie d = true ∧ ethModeOk i speed fec an = true ∧ s.holder 0xB d
      i = r.dom) ∧
    (∃ s : State, ∃ r : Req, ∃ d, ∃ i, Serves s r 0x0B01 (some d) ∧ s.hasDie d = true ∧ i < 7) ∧
    (∃ s : State, ∃ r : Req, ∃ port, ∃ tb, ∃ cycle, ∃ entries : List (Nat × Nat), Serves s r 0x0B02 (some (port / 8)) ∧ s.hasDie (port / 8) = true ∧ port % 8 <
      7 ∧ tb < 8 ∧ 1000 ≤ cycle ∧ cycle ≤ 4290000000 ∧ (∀ e ∈ entries, 8 ≤ e.2 ∧ e.2 ≤ 4290000000 ∧ e.1 < 256) ∧ entries ≠ [] ∧ entries.length ≤ 1024 ∧
      s.switchSender r = true) ∧
    (∃ s : State, ∃ r : Req, ∃ e : TsnStream, Serves s r 0x0B03 none ∧ e.handle < 65536 ∧ e.idType ≤ 2 ∧ e.funcs < 32 ∧ e.ident.length = 16 ∧ e.meter.length =
      8 ∧ e.algorithm ≤ 1 ∧ (bit e.funcs 4 = true → e.algorithm = 0 → 2 ≤ e.history ∧ e.history ≤ 32) ∧ s.switchSender r = true ∧ (s.eth.tsn.filter (fun x =>
      decide (x.1 ≠ e.handle))).length < 1024 ∧ (bit e.funcs 1 = true → s.streamsWith 1 e.handle < 512) ∧ (bit e.funcs 2 = true → s.streamsWith 2 e.handle <
      512)) ∧
    (∃ s : State, ∃ r : Req, ∃ entry, ∃ number, ∃ tb, ∃ en, Serves s r 0x0B04 none ∧ entry < 8 ∧ number < 256 ∧ tb < 8 ∧ en ≤ 1 ∧ s.switchSender r = true) ∧
    (∃ s : State, ∃ r : Req, ∃ d, ∃ entry, ∃ ring, ∃ mode, ∃ bits, Serves s r 0x0B05 (some d) ∧ s.hasDie d = true ∧ entry < 32 ∧ ring < 16 ∧ mode ≤ 2 ∧ bits ≤
      48 ∧ s.switchSender r = true) ∧
    (∃ s : State, s.safe.msgDue = false) :=
  ⟨⟨(runs [(⟨1, .ETH_PORT_CFG_EN, 5⟩, 1), (⟨1, .ETH_PORT_STATUS_LINK, 5⟩, 1)]), 1, 5, by and_intros <;> decide +kernel⟩,
    ⟨(runs [(⟨1, .ETH_PORT_CFG_EN, 5⟩, 1), (⟨1, .ETH_PORT_STATUS_LINK, 5⟩, 1)]), 1, 5, (List.replicate 9213 0), by decide +kernel, by decide +kernel, by
      decide +kernel, (by rw [List.length_replicate]; decide)⟩,
    ⟨(runs [(⟨1, .ETH_PORT_CFG_EN, 5⟩, 1), (⟨1, .ETH_PORT_STATUS_LINK, 5⟩, 1)]), 1, 5, (List.replicate 60 0), by and_intros <;> decide +kernel⟩,
    ⟨{ runs [(⟨1, .ETH_PORT_CFG_EN, 5⟩, 1), (⟨1, .ETH_PORT_STATUS_LINK, 5⟩, 1)] with eth.ports := [((1, 5), ⟨0, 0, [], 0, [⟨List.replicate 60 0, 0, none, false, none⟩], 0, none, 0, 0, none⟩)] },
      1, 5, ⟨List.replicate 60 0, 0, none, false, none⟩, [], by and_intros <;> decide +kernel⟩,
    ⟨{ runs [(⟨1, .ETH_PORT_CFG_EN, 5⟩, 1), (⟨1, .ETH_PORT_STATUS_LINK, 5⟩, 1)] with eth.ports := [((1, 6), ⟨0, 0, [], 0, [], 0, none, 0, 0, some ⟨7, 1000, 0, [(255, 1000)]⟩⟩)] },
      1, 6, ⟨7, 1000, 0, [(255, 1000)]⟩, by and_intros <;> decide +kernel⟩,
    ⟨{ runs [(⟨1, .ETH_PORT_CFG_EN, 5⟩, 1), (⟨1, .ETH_PORT_STATUS_LINK, 5⟩, 1)] with eth.ports := [((1, 6), ⟨0, 0, [], 0, [], 0, some ⟨7, 1000, 0, [(255, 1000)]⟩, 0, 0, none⟩)] },
      1, 6, ⟨7, 1000, 0, [(255, 1000)]⟩, by and_intros <;> decide +kernel⟩,
    ⟨(runs []), 1, 5, true, by and_intros <;> decide +kernel⟩,
    ⟨{ runs [] with pins.claims := [((11, 1, 5), (0xFF00, 1))] }, fwReq, 1, 5, 5, 0, 0, (.inl rfl), by and_intros <;> decide +kernel⟩,
    ⟨(runs []), fwReq, 1, 6, (.inl rfl), by and_intros <;> decide +kernel⟩,
    ⟨(runs []), fwReq, 14, 7, 4290000000, [(255, 8)], (.inl rfl), by and_intros <;> decide +kernel⟩,
    ⟨(runs []), fwReq, ⟨65535, 2, 31, List.replicate 16 0, List.replicate 8 0, 32, 0⟩, (.inl rfl), by and_intros <;> decide +kernel⟩,
    ⟨(runs []), fwReq, 7, 255, 7, 1, (.inl rfl), by and_intros <;> decide +kernel⟩,
    ⟨(runs []), fwReq, 1, 31, 15, 2, 48, (.inl rfl), by and_intros <;> decide +kernel⟩,
    ⟨(runs []), by decide +kernel⟩⟩

/-- The hypotheses of FieldPortRowsComplete are met, each clause. -/
theorem witness_FieldPortRowsComplete :
    (∃ s : State, ∃ d, ∃ n, ∃ f : CanFrame, s.hasDie d = true ∧ n < 4 ∧ s.canRuns d n = true ∧ f.ok = false) ∧
    (∃ s : State, ∃ d, ∃ n, ∃ f : CanFrame, s.hasDie d = true ∧ n < 4 ∧ s.canRuns d n = true ∧ f.ok = true ∧ s.fld d .CAN_STATUS_REC n ≤ 127) ∧
    (∃ s : State, ∃ d, ∃ n, s.hasDie d = true ∧ n < 4 ∧ s.fld d .CAN_STATUS_BUSOFF n = 1 ∧ s.fld d .CAN_CFG_MANUAL n = 0 ∧ s.fld d .CAN_CFG_SRST n = 0) ∧
    (∃ s : State, ∃ r : Req, ∃ d, ∃ n, Serves s r 0x0B10 (some d) ∧ s.hasDie d = true ∧ n < 4 ∧ s.holder 0xC d n = r.dom ∧ s.fld d .CAN_CFG_EN n ≠ 1) ∧
    (∃ s : State, ∃ d, ∃ n, s.hasDie d = true ∧ n < 4 ∧ s.blkUp d .UART (0x4000 * n) = true ∧ s.fld d .UART_CFG_EN n = 1 ∧ (s.uart d n).de = false ∧ (s.uart d
      n).rx.length < 64) ∧
    (∃ s : State, ∃ d, ∃ n, s.hasDie d = true ∧ n < 4 ∧ s.blkUp d .UART (0x4000 * n) = true ∧ s.fld d .UART_CFG_EN n = 1 ∧ (s.uart d n).tx.length < 64) ∧
    (∃ s : State, ∃ d, ∃ n, ∃ c, ∃ cs, s.hasDie d = true ∧ n < 4 ∧ s.blkUp d .UART (0x4000 * n) = true ∧ s.fld d .UART_CFG_EN n = 1 ∧ (s.uart d n).tx = c ::
      cs) ∧
    (∃ s : State, ∃ d, ∃ n, s.hasDie d = true ∧ n < 4 ∧ s.blkUp d .UART (0x4000 * n) = true ∧ s.fld d .UART_CFG_EN n = 1 ∧ (s.uart d n).tx = []) ∧
    (∃ s : State, ∃ r : Req, ∃ d, ∃ n, Serves s r 0x0B11 (some d) ∧ s.hasDie d = true ∧ n < 4 ∧ s.holder 0xD d n = r.dom) ∧
    (∃ s : State, ∃ d, ∃ a, ∃ bs, ∃ t0, s.hasDie d = true ∧ d < 2 ∧ s.blkUp d .MVB 0 = true ∧ lookup? (s.mvb d).ports a = some (bs, t0)) ∧
    (∃ s : State, ∃ d, s.hasDie d = true ∧ d < 2 ∧ s.blkUp d .MVB 0 = true) ∧
    (∃ s : State, ∃ d, s.hasDie d = true ∧ d < 2 ∧ s.blkUp d .MVB 0 = true) ∧
    (∃ s : State, ∃ d, s.hasDie d = true ∧ d < 2 ∧ s.blkUp d .MVB 0 = true ∧ (s.mvb d).role = 1) ∧
    (∃ s : State, ∃ r : Req, ∃ d, ∃ role, ∃ pair, ∃ ms, ∃ addr, Serves s r 0x0B12 (some d) ∧ s.hasDie d = true ∧ d < 2 ∧ role < 2 ∧ pair < 2 ∧ (ms = 1 ∨ ms =
      2) ∧ addr < 4096 ∧ s.holder 0xE d 0 = r.dom ∧ ((s.mvb d).role ≠ 1 ∨ (s.mvb d).isMaster = false)) ∧
    (∃ s : State, ∃ m : Master, ∃ cs, ∃ fa, ∃ ma, ∃ n, s.refusal m 0 (blkBase .XSPI) = none ∧ s.guardOk m = true ∧ cs < 2 ∧ 0 < n ∧ n ≤ 4096 ∧ fa + n ≤ 2 ^ 32
      ∧ s.memRefusal (ioMaster 0 9) ma n = none) ∧
    (∃ s : State, ∃ m : Master, ∃ cs, ∃ fa, ∃ ma, ∃ n, s.refusal m 0 (blkBase .XSPI) = none ∧ s.guardOk m = true ∧ cs < 2 ∧ 0 < n ∧ n ≤ 4096 ∧ fa + n ≤ 2 ^ 32
      ∧ s.memRefusal (ioMaster 0 9) ma n = none ∧ s.poisoned ma n = none) ∧
    (∃ s : State, ∃ m : Master, ∃ cs, ∃ fa, ∃ n, s.refusal m 0 (blkBase .XSPI) = none ∧ s.guardOk m = true ∧ cs < 2 ∧ fa + n ≤ 2 ^ 32) :=
  ⟨⟨(runs [(⟨1, .CAN_CFG_EN, 3⟩, 1), (⟨1, .CAN_CFG_SRST, 3⟩, 0)]), 1, 3, ⟨0, 0, [], false⟩, by and_intros <;> decide +kernel⟩,
    ⟨(runs [(⟨1, .CAN_CFG_EN, 3⟩, 1), (⟨1, .CAN_CFG_SRST, 3⟩, 0)]), 1, 3, ⟨0, 0, [], true⟩, by and_intros <;> decide +kernel⟩,
    ⟨(runs [(⟨1, .CAN_STATUS_BUSOFF, 3⟩, 1), (⟨1, .CAN_CFG_SRST, 3⟩, 0)]), 1, 3, by and_intros <;> decide +kernel⟩,
    ⟨{ runs [] with pins.claims := [((12, 1, 3), (0xFF00, 1))] }, fwReq, 1, 3, (.inl rfl), by and_intros <;> decide +kernel⟩,
    ⟨(runs [(⟨1, .UART_CFG_EN, 3⟩, 1), (⟨1, .UART_CFG_BITS8, 3⟩, 1)]), 1, 3, by and_intros <;> decide +kernel⟩,
    ⟨(runs [(⟨1, .UART_CFG_EN, 3⟩, 1), (⟨1, .UART_CFG_BITS8, 3⟩, 1)]), 1, 3, by and_intros <;> decide +kernel⟩,
    ⟨{ runs [(⟨1, .UART_CFG_EN, 3⟩, 1), (⟨1, .UART_CFG_BITS8, 3⟩, 1)] with ports.uart := [((1, 3), ⟨[], [255], false⟩)] }, 1, 3, 255, [],
      by and_intros <;> decide +kernel⟩,
    ⟨(runs [(⟨1, .UART_CFG_EN, 3⟩, 1), (⟨1, .UART_CFG_BITS8, 3⟩, 1)]), 1, 3, by and_intros <;> decide +kernel⟩,
    ⟨{ runs [] with pins.claims := [((13, 1, 3), (0xFF00, 1))] }, fwReq, 1, 3, (.inl rfl), by and_intros <;> decide +kernel⟩,
    ⟨{ runs [] with ports.mvb := [(1, ⟨0, 0, 1, 0, false, [(4095, ([1], 0))], []⟩)] }, 1, 4095, [1], 0, by and_intros <;> decide +kernel⟩,
    ⟨(runs []), 1, by and_intros <;> decide +kernel⟩,
    ⟨(runs []), 1, by and_intros <;> decide +kernel⟩,
    ⟨{ runs [] with ports.mvb := [(1, ⟨1, 0, 1, 0, false, [], []⟩)] }, 1, by and_intros <;> decide +kernel⟩,
    ⟨{ runs [] with pins.claims := [((14, 1, 0), (0xFF00, 1))] }, fwReq, 1, 1, 1, 2, 4095, (.inl rfl), by and_intros <;> decide +kernel⟩,
    ⟨(runs []), sch, 1, (2 ^ 32 - 4096), 0x3BFFFF000, 4096, by and_intros <;> decide +kernel⟩,
    ⟨(runs []), sch, 1, (2 ^ 32 - 4096), 0x3BFFFF000, 4096, by and_intros <;> decide +kernel⟩,
    ⟨(runs []), sch, 1, (2 ^ 32 - 4096), 4096, by and_intros <;> decide +kernel⟩⟩

/-- The hypotheses of BridgeRowsComplete are met, each clause. -/
theorem witness_BridgeRowsComplete :
    (∃ s : State, ∃ c, s.hasDie c = true ∧ c < 2) ∧
    (∃ s : State, ∃ c, ∃ w, ∃ rate, s.hasDie c = true ∧ c < 2 ∧ s.pcieOn c = true ∧ s.groupUp c 16 = true ∧ 5 ≤ s.stepOf c ∧ w ∈ [1, 2, 4, 8] ∧ rate < 5) ∧
    (∃ s : State, ∃ c, s.hasDie c = true ∧ c < 2 ∧ s.pcieUp c = true) ∧
    (∃ s : State, ∃ r : Req, ∃ c, ∃ role, ∃ width, ∃ rate, Serves s r 0x0B20 (some c) ∧ c < 2 ∧ s.hasDie c = true ∧ role < 2 ∧ width < 4 ∧ rate < 5 ∧ s.manager
      r.dom = true ∧ s.pcieUp c = false) ∧
    (∃ s : State, ∃ d, ∃ link, s.hasDie d = true ∧ link < 3 ∧ s.groupUp d 13 = true ∧ s.fld d .MIRSIA_STATUS_DOWN link ≠ 1) ∧
    (∃ s : State, ∃ d, ∃ link, s.hasDie d = true ∧ link < 3 ∧ s.groupUp d 13 = true ∧ s.fld d .MIRSIA_STATUS_DOWN link ≠ 1) ∧
    (∃ s : State, ∃ d, ∃ e, s.hasDie d = true ∧ e < 10 ∧ lookupD s.ports.retries (d, e) 0 < 64) ∧
    (∃ s : State, ∃ d, ∃ e, s.hasDie d = true ∧ e < 10 ∧ 64 ≤ lookupD s.ports.retries (d, e) 0) ∧
    (∃ s : State, ∃ r : Req, ∃ d, ∃ release, Serves s r 0x0B30 (some d) ∧ s.hasDie d = true ∧ release < 2 ∧ (release = 1 → s.manager r.dom = true)) ∧
    (∃ s : State, ∃ m : Master, ∃ a, ∃ op, ∃ d, ∃ off, ∃ blk, ∃ o, decodeAddr s.part m.die a = .regs d off ∧ atomicWide op = false ∧ a % 4 = 0 ∧ s.refusal m d
      off = none ∧ blockAt d off = some (blk, o) ∧ peripheral blk = true) ∧
    (∃ s : State, ∃ m : Master, ∃ a, ∃ d, ∃ o, (decodeAddr s.part m.die a = .dram d o ∨ decodeAddr s.part m.die a = .granary d o ∨ decodeAddr s.part m.die a =
      .loft d o)) ∧
    (∃ s : State, ∃ d, s.hasDie d = true ∧ s.fld d .FBR_SEM_HELD = 1) ∧
    (∃ s : State, ∃ m : Master, ∃ d, ∃ data : Word, WritesNow s m d .FBR 0x30 ∧ s.guardOk m = true ∧ bit data.toNat 30 = true) ∧
    (∃ s : State, ∃ d, s.hasDie d = true) :=
  ⟨⟨(runs []), 1, by and_intros <;> decide +kernel⟩,
    ⟨(runs [(⟨1, .PCIE_CFG_EN, 0⟩, 1)]), 1, 8, 4, by and_intros <;> decide +kernel⟩,
    ⟨{ runs [] with ports.pcie := [(1, ⟨some (8, 4), 0, 0, []⟩)] }, 1, by and_intros <;> decide +kernel⟩,
    ⟨(runs []), fwReq, 1, 1, 3, 4, (.inl rfl), by and_intros <;> decide +kernel⟩,
    ⟨(runs []), 1, 2, by and_intros <;> decide +kernel⟩,
    ⟨(runs []), 1, 2, by and_intros <;> decide +kernel⟩,
    ⟨(runs []), 1, 9, by and_intros <;> decide +kernel⟩,
    ⟨{ runs [] with ports.retries := [((1, 9), 64)] }, 1, 9, by and_intros <;> decide +kernel⟩,
    ⟨(runs []), fwReq, 1, 1, (.inl rfl), by and_intros <;> decide +kernel⟩,
    ⟨(runs []), sch, (0xF00000000000 + blkBase (.UART)), (.lr false), 0, (blkBase .UART), .UART, 0, by and_intros <;> decide +kernel⟩,
    ⟨(runs []), sch, 0, 0, 0, .inl (by decide +kernel)⟩,
    ⟨(runs [(⟨1, .FBR_SEM_HELD, 0⟩, 1)]), 1, by and_intros <;> decide +kernel⟩,
    ⟨(runs []), sch, 1, 0x40000000, (WritesNow.of_flags (by decide +kernel)), by and_intros <;> decide +kernel⟩,
    ⟨(runs []), 1, by decide +kernel⟩⟩

/-- The hypotheses of PcieInboundRequestCompletes are met, each clause. -/
theorem witness_PcieInboundRequestCompletes :
    (∃ s : State, ∃ c : Nat, s.hasDie c = true ∧ c < 2 ∧ s.pcieUp c = true) ∧
    (∃ s : State, ∃ c : Nat, ∃ fn, ∃ bar, ∃ o, ∃ a, ∃ n, s.hasDie c = true ∧ c < 2 ∧ s.pcieUp c = true ∧ s.pcieRoot c = false ∧ s.presented c fn = true ∧
      s.barPlace fn bar o = .phys a ∧ isMemory s.part a = true ∧ n ≠ 0 ∧ s.memRefusal (pcieMaster c (fnDom fn)) a n = none ∧ s.poisoned a n = none) ∧
    (∃ s : State, ∃ c : Nat, ∃ fn, ∃ bar, ∃ o, ∃ a, ∃ data : List Byte, s.hasDie c = true ∧ c < 2 ∧ s.pcieUp c = true ∧ s.pcieRoot c = false ∧ s.presented c fn
      = true ∧ s.barPlace fn bar o = .phys a ∧ isMemory s.part a = true ∧ data ≠ [] ∧ s.memRefusal (pcieMaster c (fnDom fn)) a data.length = none) ∧
    (∃ s : State, ∃ c : Nat, ∃ fn, ∃ bar, ∃ o, ∃ d, ∃ x, ∃ off, ∃ blk, ∃ q, s.hasDie c = true ∧ c < 2 ∧ s.pcieUp c = true ∧ s.pcieRoot c = false ∧ s.presented
      c fn = true ∧ s.barPlace fn bar o = .window d x ∧ decodeAddr s.part c (windowBase d + x) = .regs d off ∧ sizeOk d off 4 = true ∧ inApintc off = false ∧
      s.refusal (pcieMaster c (fnDom fn)) d off = none ∧ blockAt d off = some (blk, q) ∧ s.readWaits (pcieMaster c (fnDom fn)) d off = false) ∧
    (∃ s : State, ∃ c : Nat, ∃ fn, ∃ bar, ∃ o, ∃ d, ∃ x, ∃ off, ∃ blk, ∃ q, ∃ data : List Byte, s.hasDie c = true ∧ c < 2 ∧ s.pcieUp c = true ∧ s.pcieRoot c =
      false ∧ s.presented c fn = true ∧ s.barPlace fn bar o = .window d x ∧ decodeAddr s.part c (windowBase d + x) = .regs d off ∧ sizeOk d off 4 = true ∧
      inApintc off = false ∧ s.refusal (pcieMaster c (fnDom fn)) d off = none ∧ blockAt d off = some (blk, q) ∧ data.length = 4) ∧
    (∃ s : State, ∃ c : Nat, ∃ fn, ∃ bar, ∃ o, ∃ k, s.hasDie c = true ∧ c < 2 ∧ s.pcieUp c = true ∧ s.pcieRoot c = false ∧ s.presented c fn = true ∧ s.barPlace
      fn bar o = .msix k ∧ k % 4 = 0) ∧
    (∃ s : State, ∃ c : Nat, ∃ fn, ∃ bar, ∃ o, ∃ k, ∃ data : List Byte, s.hasDie c = true ∧ c < 2 ∧ s.pcieUp c = true ∧ s.pcieRoot c = false ∧ s.presented c fn
      = true ∧ s.barPlace fn bar o = .msix k ∧ k % 4 = 0 ∧ data.length = 4) ∧
    (∃ s : State, ∃ c : Nat, ∃ fn, ∃ bar, ∃ o, ∃ k, s.hasDie c = true ∧ c < 2 ∧ s.pcieUp c = true ∧ s.pcieRoot c = false ∧ s.presented c fn = true ∧ s.barPlace
      fn bar o = .pba k ∧ k % 8 = 0) ∧
    (∃ s : State, ∃ c : Nat, ∃ fn, ∃ bar, ∃ o, ∃ k, s.hasDie c = true ∧ c < 2 ∧ s.pcieUp c = true ∧ s.pcieRoot c = false ∧ s.presented c fn = true ∧ s.barPlace
      fn bar o = .pba k ∧ k % 8 = 0) ∧
    (∃ s : State, ∃ c : Nat, ∃ b, ∃ a, ∃ n, s.hasDie c = true ∧ c < 2 ∧ s.pcieUp c = true ∧ s.pcieRoot c = true ∧ s.inbound c b = some a ∧ isMemory s.part a =
      true ∧ n ≠ 0 ∧ s.memRefusal (pcieMaster c 0) a n = none ∧ s.poisoned a n = none) ∧
    (∃ s : State, ∃ c : Nat, ∃ b, ∃ a, ∃ data : List Byte, s.hasDie c = true ∧ c < 2 ∧ s.pcieUp c = true ∧ s.pcieRoot c = true ∧ s.inbound c b = some a ∧
      isMemory s.part a = true ∧ data ≠ [] ∧ s.memRefusal (pcieMaster c 0) a data.length = none) ∧
    (∃ s : State, ∃ c : Nat, ∃ b, s.hasDie c = true ∧ c < 2 ∧ s.pcieUp c = true ∧ s.pcieRoot c = true ∧ s.inbound c b = none) ∧
    (∃ s : State, ∃ c : Nat, ∃ b, s.hasDie c = true ∧ c < 2 ∧ s.pcieUp c = true ∧ s.pcieRoot c = true ∧ s.inbound c b = none) :=
  ⟨⟨{ runs [] with ports.pcie := [(1, ⟨some (8, 4), 0, 0, []⟩)] }, 1, by and_intros <;> decide +kernel⟩,
    ⟨{ runs [] with ports.pcie := [(1, ⟨some (8, 4), 0, 0, []⟩)] }, 1, 0, 2, 0x10000, 0x10000, 4096, by and_intros <;> decide +kernel⟩,
    ⟨{ runs [] with ports.pcie := [(1, ⟨some (8, 4), 0, 0, []⟩)] }, 1, 0, 2, 0x10000, 0x10000, [1], by and_intros <;> decide +kernel⟩,
    ⟨{ runs [] with ports.pcie := [(1, ⟨some (8, 4), 0, 0, []⟩)] }, 1, 0, 0, 4, 0, 0x2000004, 0x2000004, .MBOX, 4, by and_intros <;> decide +kernel⟩,
    ⟨{ runs [] with ports.pcie := [(1, ⟨some (8, 4), 0, 0, []⟩)] }, 1, 0, 0, 4, 0, 0x2000004, 0x2000004, .MBOX, 4, [0, 0, 0, 0],
      by and_intros <;> decide +kernel⟩,
    ⟨{ runs [] with ports.pcie := [(1, ⟨some (8, 4), 0, 0, []⟩)] }, 1, 0, 0, 0x404, 4, by and_intros <;> decide +kernel⟩,
    ⟨{ runs [] with ports.pcie := [(1, ⟨some (8, 4), 0, 0, []⟩)] }, 1, 0, 0, 0x404, 4, [0, 0, 0, 0], by and_intros <;> decide +kernel⟩,
    ⟨{ runs [] with ports.pcie := [(1, ⟨some (8, 4), 0, 0, []⟩)] }, 1, 0, 0, 0x180, 0, by and_intros <;> decide +kernel⟩,
    ⟨{ runs [] with ports.pcie := [(1, ⟨some (8, 4), 0, 0, []⟩)] }, 1, 0, 0, 0x180, 0, by and_intros <;> decide +kernel⟩,
    ⟨{ runs [(⟨1, .PCIE_CFG_ROLE, 0⟩, 1), (⟨1, .PCIE_IB_BUS_ADDR, 15⟩, 0x8000000C), (⟨1, .PCIE_IB_PHYS_ADDR, 15⟩, 0x10000)] with ports.pcie := [(1, ⟨some (8, 4), 0, 0, []⟩)] },
      1, 0x80000FFF, 0x10FFF, 1, by and_intros <;> decide +kernel⟩,
    ⟨{ runs [(⟨1, .PCIE_CFG_ROLE, 0⟩, 1), (⟨1, .PCIE_IB_BUS_ADDR, 15⟩, 0x8000000C), (⟨1, .PCIE_IB_PHYS_ADDR, 15⟩, 0x10000)] with ports.pcie := [(1, ⟨some (8, 4), 0, 0, []⟩)] },
      1, 0x80000FFF, 0x10FFF, [1], by and_intros <;> decide +kernel⟩,
    ⟨{ runs [(⟨1, .PCIE_CFG_ROLE, 0⟩, 1), (⟨1, .PCIE_IB_BUS_ADDR, 15⟩, 0x8000000C), (⟨1, .PCIE_IB_PHYS_ADDR, 15⟩, 0x10000)] with ports.pcie := [(1, ⟨some (8, 4), 0, 0, []⟩)] },
      1, 0x80001000, by and_intros <;> decide +kernel⟩,
    ⟨{ runs [(⟨1, .PCIE_CFG_ROLE, 0⟩, 1), (⟨1, .PCIE_IB_BUS_ADDR, 15⟩, 0x8000000C), (⟨1, .PCIE_IB_PHYS_ADDR, 15⟩, 0x10000)] with ports.pcie := [(1, ⟨some (8, 4), 0, 0, []⟩)] },
      1, 0x80001000, by and_intros <;> decide +kernel⟩⟩

/-- The hypotheses of CheckingRowsComplete are met, each clause. -/
theorem witness_CheckingRowsComplete :
    (∃ s : State, ∃ d, ∃ p, s.hasDie d = true ∧ p < 2 ∧ s.pairActive d p = true ∧ s.tripped d = false ∧ (s.pairRun d p).testing = false ∧ (s.pairRun d
      p).second = false) ∧
    (∃ s : State, ∃ d, ∃ p, s.hasDie d = true ∧ p < 2 ∧ s.pairActive d p = true ∧ s.tripped d = false ∧ (s.pairRun d p).testing = false ∧ (s.pairRun d
      p).second = true) ∧
    (∃ s : State, ∃ d, ∃ p, s.hasDie d = true ∧ p < 2 ∧ s.pairActive d p = true ∧ s.tripped d = false ∧ (s.pairRun d p).testing = false ∧ (s.pairRun d
      p).second = false) ∧
    (∃ s : State, ∃ d, ∃ p, s.hasDie d = true ∧ p < 2 ∧ s.pairActive d p = true ∧ s.tripped d = false ∧ (s.pairRun d p).testing = false ∧ (s.pairRun d
      p).second = true) ∧
    (∃ s : State, ∃ d, ∃ p, s.hasDie d = true ∧ p < 2 ∧ s.tripped d = false ∧ (s.pairRun d p).testing = true) ∧
    (∃ s : State, ∃ d, ∃ p, s.hasDie d = true ∧ p < 2 ∧ s.tripped d = false ∧ (s.pairRun d p).testing = true) ∧
    (∃ s : State, ∃ d, ∃ p, s.hasDie d = true ∧ p < 2 ∧ s.tripped d = false ∧ (s.pairRun d p).testing = true) ∧
    (∃ s : State, ∃ d, ∃ p, s.hasDie d = true ∧ p < 2 ∧ s.fld 0 .SEC_STATUS_DBG_AUTH = 1 ∧ bit s.sec.dbgOpen 0 = true ∧ s.pairActive d p = true ∧ (s.pairRun d
      p).log.length < 256) ∧
    (∃ s : State, ∃ d, ∃ p, s.hasDie d = true ∧ p < 2 ∧ s.fld 0 .SEC_STATUS_DBG_AUTH = 1 ∧ bit s.sec.dbgOpen 0 = true ∧ s.pairActive d p = true ∧ 256 ≤
      (s.pairRun d p).log.length) ∧
    (∃ s : State, ∃ r : Req, ∃ d, Serves s r 0x0750 none ∧ s.hasDie d = true) ∧
    (∃ s : State, ∃ r : Req, ∃ d, ∃ i, ∃ passes : List Bool, Serves s r 0x0751 none ∧ s.hasDie d = true ∧ i < 48 ∧ s.granted r.dom = true ∧ 3 ≤ passes.length ∧
      (passes.take 3).all id = true ∧ bit (s.fld d .COMMIT_OUT_CORES) i = true) ∧
    (∃ s : State, ∃ r : Req, ∃ d, ∃ i, ∃ passes : List Bool, Serves s r 0x0751 none ∧ s.hasDie d = true ∧ i < 4 ∧ s.granted r.dom = true ∧ 3 ≤ passes.length ∧
      (passes.take 3).all id = true ∧ bit (s.fld d .APPAIR_STATUS_OUT) i = true) ∧
    (∃ s : State, ∃ r : Req, ∃ d, ∃ p, ∃ en, Serves s r 0x0752 none ∧ s.hasDie d = true ∧ p < 2 ∧ en < 2 ∧ s.granted r.dom = true) :=
  ⟨⟨(runs [(⟨1, .APPAIR_STATUS_ACTIVE, 0⟩, 3)]), 1, 1, by and_intros <;> decide +kernel⟩,
    ⟨{ runs [(⟨1, .APPAIR_STATUS_ACTIVE, 0⟩, 3)] with pairs := [((1, 1), ⟨[], [], false, true, []⟩)] }, 1, 1, by and_intros <;> decide +kernel⟩,
    ⟨(runs [(⟨1, .APPAIR_STATUS_ACTIVE, 0⟩, 3)]), 1, 1, by and_intros <;> decide +kernel⟩,
    ⟨{ runs [(⟨1, .APPAIR_STATUS_ACTIVE, 0⟩, 3)] with pairs := [((1, 1), ⟨[], [], false, true, []⟩)] }, 1, 1, by and_intros <;> decide +kernel⟩,
    ⟨{ runs [] with pairs := [((1, 1), ⟨[], [], true, false, []⟩)] }, 1, 1, by and_intros <;> decide +kernel⟩,
    ⟨{ runs [] with pairs := [((1, 1), ⟨[], [], true, false, []⟩)] }, 1, 1, by and_intros <;> decide +kernel⟩,
    ⟨{ runs [] with pairs := [((1, 1), ⟨[], [], true, false, []⟩)] }, 1, 1, by and_intros <;> decide +kernel⟩,
    ⟨{ runs [(⟨0, .SEC_STATUS_DBG_AUTH, 0⟩, 1), (⟨1, .APPAIR_STATUS_ACTIVE, 0⟩, 3)] with sec.dbgOpen := 1 }, 1, 1, by and_intros <;> decide +kernel⟩,
    ⟨{ runs [(⟨0, .SEC_STATUS_DBG_AUTH, 0⟩, 1), (⟨1, .APPAIR_STATUS_ACTIVE, 0⟩, 3)] with sec.dbgOpen := 1, pairs := [((1, 1), ⟨[], [], false, false, List.replicate 256 ⟨0, false, []⟩⟩)] },
      1, 1, by and_intros <;> decide +kernel⟩,
    ⟨(runs []), fwReq, 1, (.inl rfl), by decide +kernel⟩,
    ⟨(runs [(⟨1, .COMMIT_OUT_CORES, 0⟩, 140737488355328)]), fwReq, 1, 47, [true, true, true], (.inl rfl), by and_intros <;> decide +kernel⟩,
    ⟨(runs [(⟨1, .APPAIR_STATUS_OUT, 0⟩, 8)]), fwReq, 1, 3, [true, true, true], (.inl rfl), by and_intros <;> decide +kernel⟩,
    ⟨(runs []), fwReq, 1, 1, 1, (.inl rfl), by and_intros <;> decide +kernel⟩⟩

/-- The hypotheses of MirrorRowsComplete are met, each clause. -/
theorem witness_MirrorRowsComplete :
    (∃ s : State, ∃ lanes, ∃ code, ∃ digest, (List.range 4).filter (bit lanes) ≠ [] ∧ s.portEnabled = true ∧ s.fld 0 .MIRROR_STATUS_ROLE = 0 ∧ (s.pairCode ≠ 0
      ∨ s.mirror.window = true) ∧ s.pairRole s.pairCode code digest ≠ 0) ∧
    (∃ s : State, ∃ lanes, (List.range 4).filter (bit lanes) ≠ [] ∧ s.portEnabled = true ∧ s.fld 0 .MIRROR_STATUS_ROLE = 0 ∧ (s.pairCode ≠ 0 ∨ s.mirror.window
      = true)) ∧
    (∃ s : State, ∃ l, l < 4 ∧ l ∈ s.mirror.lanes ∧ s.mirror.lanes.filter (fun x => decide (x ≠ l)) ≠ []) ∧
    (∃ s : State, ∃ seq, ∃ n, ∃ records, ∃ i, ∃ t, s.fld 0 .MIRROR_STATUS_ROLE = 2 ∧ s.fld 0 .MIRROR_STATUS_LINK_UP ≠ 0 ∧ n ≤ 2048 ∧ (∀ x ∈ records, x.kind ≠
      2) ∧ s.mirror.expect = seq ∧ s.mirrored (fnDom n) = some i ∧ s.putRecs (fnDom n) records = some t) ∧
    (∃ s : State, s.fld 0 .MIRROR_STATUS_ROLE = 1) ∧
    (∃ s : State, s.fld 0 .MIRROR_STATUS_ROLE = 0) ∧
    (∃ s : State, ∃ role, s.fld 0 .MIRROR_STATUS_ROLE = role ∧ role ≠ 0 ∧ s.clk.noticeDue = false ∧ s.fld 0 .MIRROR_STATUS_LINK_UP = 1 ∧ s.fld 0
      .MIRROR_CFG_ALT_EN ≠ 1) ∧
    (∃ s : State, ∃ h : Heartbeat, s.fld 0 .MIRROR_STATUS_ROLE = 2 ∧ s.fld 0 .MIRROR_STATUS_LINK_UP ≠ 0 ∧ h.safeState = false) ∧
    (∃ s : State, s.fld 0 .MIRROR_STATUS_ROLE ≠ 0 ∧ s.mirror.misses = 0) ∧
    (∃ s : State, s.fld 0 .MIRROR_STATUS_ROLE = 2 ∧ s.mirror.misses = 1 ∧ s.fld 0 .MIRROR_CFG_ALT_EN ≠ 1) ∧
    (∃ s : State, ∃ r : Req, ∃ en, ∃ role, ∃ alt, ∃ port, Serves s r 0x0760 none ∧ en < 2 ∧ role < 3 ∧ alt < 2 ∧ port < 8 * s.part.dies ∧ port % 8 ≠ 7 ∧
      s.pairRefusal r = none ∧ s.fld 0 .MIRROR_STATUS_HANDOVER ≠ 1) ∧
    (∃ s : State, ∃ r : Req, ∃ n, ∃ i, Serves s r 0x0761 none ∧ n ≤ 2048 ∧ s.pairRefusal r = none ∧ (List.range 64).find? (fun i => decide (s.fld 0
      .MIRROR_FN_EN i = 1) && decide (s.fld 0 .MIRROR_FN_FUNCTION i = n)) = some i) ∧
    (∃ s : State, ∃ r : Req, ∃ n, ∃ i, Serves s r 0x0761 none ∧ n ≤ 2048 ∧ s.pairRefusal r = none ∧ s.pairUp = true ∧ (List.range 64).find? (fun i => decide
      (s.fld 0 .MIRROR_FN_EN i = 1) && decide (s.fld 0 .MIRROR_FN_FUNCTION i = n)) = none ∧ (List.range 64).find? (fun i => decide (s.fld 0 .MIRROR_FN_EN i =
      0)) = some i) ∧
    (∃ s : State, ∃ r : Req, Serves s r 0x0762 none ∧ s.pairRefusal r = none ∧ s.fld 0 .MIRROR_STATUS_UNSYNC ≠ 1 ∧ s.fn.freezes = [] ∧ s.fw.activation = none ∧
      s.mirror.handover = none ∧ s.pairUp = true) ∧
    (∃ s : State, ∃ r : Req, Serves s r 0x0763 none ∧ s.hasFeature r 13 = true) ∧
    (∃ s : State, ∃ m : Master, ∃ i, ∃ data : Word, i < 64 ∧ WritesNow s m 0 .MIRROR (0x100 + 4 * i) ∧ s.guardOk m = true ∧ s.fld 0 .MIRROR_FN_EN i = 0 ∧ bits
      data.toNat 11 0 ≤ 2048 ∧ bits data.toNat 31 31 = 1 ∧ s.pairUp = true) :=
  ⟨⟨(runs [(⟨0, .RST_STATUS_BOOTSEL_EFF, 0⟩, 1)]), 15, 2, 0, by and_intros <;> decide +kernel⟩,
    ⟨(runs [(⟨0, .RST_STATUS_BOOTSEL_EFF, 0⟩, 1)]), 15, by and_intros <;> decide +kernel⟩,
    ⟨{ runs [] with mirror.lanes := [2, 3] }, 3, by and_intros <;> decide +kernel⟩,
    ⟨(runs [(⟨0, .MIRROR_STATUS_ROLE, 0⟩, 2), (⟨0, .MIRROR_STATUS_LINK_UP, 0⟩, 1), (⟨0, .MIRROR_FN_EN, 63⟩, 1), (⟨0, .MIRROR_FN_FUNCTION, 63⟩, 2048)]), 0,
      2048, [], 63, _, by decide +kernel, by decide +kernel, by decide +kernel, by decide +kernel, by decide +kernel, by decide +kernel, rfl⟩,
    ⟨(runs [(⟨0, .MIRROR_STATUS_ROLE, 0⟩, 1), (⟨0, .MIRROR_STATUS_LINK_UP, 0⟩, 1)]), by decide +kernel⟩,
    ⟨(runs []), by decide +kernel⟩,
    ⟨(runs [(⟨0, .MIRROR_STATUS_ROLE, 0⟩, 1), (⟨0, .MIRROR_STATUS_LINK_UP, 0⟩, 1)]), 1, by and_intros <;> decide +kernel⟩,
    ⟨(runs [(⟨0, .MIRROR_STATUS_ROLE, 0⟩, 2), (⟨0, .MIRROR_STATUS_LINK_UP, 0⟩, 1)]), ⟨1, 1, 0, 0, true, false, false, true⟩, by and_intros <;> decide +kernel⟩,
    ⟨(runs [(⟨0, .MIRROR_STATUS_ROLE, 0⟩, 1), (⟨0, .MIRROR_STATUS_LINK_UP, 0⟩, 1)]), by and_intros <;> decide +kernel⟩,
    ⟨{ runs [(⟨0, .MIRROR_STATUS_ROLE, 0⟩, 2), (⟨0, .MIRROR_STATUS_LINK_UP, 0⟩, 1)] with mirror.misses := 1 }, by and_intros <;> decide +kernel⟩,
    ⟨(runs []), fwReq, 1, 2, 1, 14, (.inl rfl), by and_intros <;> decide +kernel⟩,
    ⟨(runs [(⟨0, .MIRROR_FN_EN, 63⟩, 1), (⟨0, .MIRROR_FN_FUNCTION, 63⟩, 2048)]), fwReq, 2048, 63, (.inl rfl), by and_intros <;> decide +kernel⟩,
    ⟨(runs [(⟨0, .MIRROR_STATUS_ROLE, 0⟩, 1), (⟨0, .MIRROR_STATUS_LINK_UP, 0⟩, 1)]), fwReq, 2048, 0, (.inl rfl), by and_intros <;> decide +kernel⟩,
    ⟨(runs [(⟨0, .MIRROR_STATUS_ROLE, 0⟩, 1), (⟨0, .MIRROR_STATUS_LINK_UP, 0⟩, 1)]), fwReq, (.inl rfl), by and_intros <;> decide +kernel⟩,
    ⟨(runs []), fwReq, (.inl rfl), by decide +kernel⟩,
    ⟨(runs [(⟨0, .MIRROR_STATUS_ROLE, 0⟩, 1), (⟨0, .MIRROR_STATUS_LINK_UP, 0⟩, 1)]), sch, 63, 0x80000800, by decide +kernel, (WritesNow.of_flags (by
      decide +kernel)), by and_intros <;> decide +kernel⟩⟩

/-- The hypotheses of SafetyRowsComplete are met, each clause. -/
theorem witness_SafetyRowsComplete :
    (∃ s : State, s.fld 0 .SAFE_STATUS_SEC_OK ≠ 0) ∧
    (∃ s : State, ∃ d, ∃ k, s.hasDie d = true ∧ k < 16 ∧ s.fld 0 .SAFE_CTRL_ARM = 1 ∧ s.fld d .SAFE_SILO_CFG_EN k = 1 ∧ k ∈ s.classSSilos d ∧ (d, k) ∉
      s.safe.silent ∧ (s.fld 0 .SAFE_CTRL_FTTI_MS - 2) * 1000000 ≤ s.now - max s.safe.armTime (s.silo d k).lastFinal) ∧
    (∃ s : State, ∃ m : Master, ∃ data : Word, WritesNow s m 0 .SCH 0x90010 ∧ s.guardOk m = true ∧ bits data.toNat 30 30 = 0 ∧ bits data.toNat 25 16 = s.fld 0
      .SAFE_CTRL_FTTI_MS ∧ s.fld 0 .SAFE_CTRL_ARM ≠ bits data.toNat 31 31 ∧ s.otherHolds m 1 0 372 = false ∧ s.otherHolds m 1 0 374 = false) ∧
    (∃ s : State, ∃ m : Master, ∃ data : Word, WritesNow s m 0 .SCH 0x90010 ∧ s.guardOk m = true ∧ bits data.toNat 30 30 = 0 ∧ bits data.toNat 31 31 = s.fld 0
      .SAFE_CTRL_ARM ∧ s.fld 0 .SAFE_CTRL_ARM ≠ 1 ∧ 20 ≤ bits data.toNat 25 16 ∧ bits data.toNat 25 16 ≤ 500 ∧ bits data.toNat 25 16 ≠ s.fld 0
      .SAFE_CTRL_FTTI_MS) ∧
    (∃ s : State, ∃ m : Master, ∃ data : Word, WritesNow s m 0 .SCH 0x90010 ∧ s.guardOk m = true ∧ bits data.toNat 30 30 = 1 ∧ bits data.toNat 25 16 = s.fld 0
      .SAFE_CTRL_FTTI_MS ∧ bits data.toNat 31 31 = s.fld 0 .SAFE_CTRL_ARM) ∧
    (∃ s : State, ∃ m : Master, ∃ data : Word, WritesNow s m 0 .SCH 0x90014 ∧ s.guardOk m = true ∧ reactRaise data.toNat = data.toNat) ∧
    (∃ s : State, ∃ m : Master, ∃ data : Word, WritesNow s m 0 .SCH 0x90014 ∧ s.guardOk m = true ∧ reactRaise data.toNat ≠ data.toNat) ∧
    (∃ s : State, ∃ d, ∃ cl, ∃ c, ∃ rest, s.hasDie d = true ∧ cl < 6 ∧ s.fld d .GLN_CTRL_EN cl ≠ 0 ∧ s.fwRuns d = true ∧ (d, 4 + cl) ∉ s.boot.down ∧ s.tripped
      d = false ∧ (∀ c ∈ rangeFrom (8 * cl) 8, s.fld d .GLN_CORE_TESTING c = 0) ∧ sortBy (fun a b => decide (s.coverageAge d b ≤ s.coverageAge d a))
      ((rangeFrom (8 * cl) 8).filter (s.testable d)) = c :: rest) ∧
    (∃ s : State, ∃ d, ∃ c, s.hasDie d = true ∧ c < 48 ∧ s.fld d .GLN_CORE_TESTING c ≠ 0 ∧ s.tripped d = false) ∧
    (∃ s : State, ∃ d, ∃ c, ∃ n, s.hasDie d = true ∧ c < 48 ∧ s.fld d .GLN_CORE_TESTING c ≠ 0 ∧ s.tripped d = false ∧ n ≠ 0) ∧
    (∃ s : State, ∃ d, ∃ c, s.hasDie d = true ∧ c < 48 ∧ 50000000 ≤ s.coverageAge d c ∧ bit (s.fld d .COMMIT_OUT_CORES) c = false ∧ s.fwRuns d = true ∧ s.fld d
      .GLN_CORE_LAPSE c = 0) ∧
    (∃ s : State, ∃ d, ∃ c, s.hasDie d = true ∧ c < 48 ∧ 50000000 ≤ s.coverageAge d c ∧ bit (s.fld d .COMMIT_OUT_CORES) c = false ∧ s.fwRuns d = true ∧ s.fld d
      .GLN_CORE_LAPSE c ≠ 0) ∧
    (∃ s : State, ∃ d, s.hasDie d = true ∧ s.fwRuns d = true ∧ lookupD s.safe.slot d 0 < s.fld d .CHKROT_STATUS_UNITS) ∧
    (∃ s : State, ∃ d, ∃ x, s.hasDie d = true ∧ s.safe.retry.find? (fun x => decide (x.1 = d)) = some x) ∧
    (∃ s : State, ∃ r : Req, ∃ ftti, ∃ react : Word, Serves s r 0x0700 none ∧ 20 ≤ ftti ∧ ftti ≤ 500 ∧ reactRaise react.toNat = react.toNat ∧ s.granted r.dom =
      true ∧ s.fld 0 .SAFE_CTRL_ARM ≠ 1) ∧
    (∃ s : State, ∃ r : Req, ∃ ftti, ∃ react : Word, Serves s r 0x0700 none ∧ 20 ≤ ftti ∧ ftti ≤ 500 ∧ reactRaise react.toNat = react.toNat ∧ s.granted r.dom =
      true ∧ s.fld 0 .SAFE_CTRL_ARM = 1) ∧
    (∃ s : State, ∃ r : Req, ∃ en, Serves s r 0x0701 none ∧ en < 2 ∧ s.holder 1 0 372 = r.dom ∧ s.holder 1 0 374 = r.dom) ∧
    (∃ s : State, ∃ r : Req, ∃ en, Serves s r 0x0701 none ∧ en < 2 ∧ (s.holder 1 0 372 ≠ r.dom ∨ s.holder 1 0 374 ≠ r.dom)) ∧
    (∃ s : State, ∃ r : Req, ∃ t, Serves s r 0x0702 none ∧ s.classSSender r = true ∧ (s.handling r 0x0702).safeClear none = (none, t)) ∧
    (∃ s : State, ∃ r : Req, Serves s r 0x0703 none) ∧
    (∃ s : State, ∃ r : Req, ∃ d, ∃ k, ∃ cfg, ∃ str : Word, Serves s r 0x0710 none ∧ s.hasDie d = true ∧ k < 16 ∧ cfg < 65536 ∧ bits cfg 14 12 = 0 ∧ bits cfg 3
      0 = 0 ∧ bits str.toNat 23 16 = 0 ∧ bits str.toNat 7 0 = 0 ∧ s.classSSender r = true ∧ s.holder 2 d k ≠ noDom ∧ s.claimClass 2 d k = 0) ∧
    (∃ s : State, ∃ r : Req, ∃ c : SafeStreamCfg, Serves s r 0x0711 none ∧ c.entry < 16 ∧ s.hasDie c.die = true ∧ c.silo < 16 ∧ c.offset % 2 = 0 ∧ c.offset ≤
      1484 ∧ c.handle < 65536 ∧ s.granted r.dom = true ∧ (c.en = true → 64 ≤ c.template.length ∧ c.template.length ≤ 1522 ∧ c.offset + 32 ≤ c.template.length ∧
      s.holder 2 c.die c.silo ≠ noDom ∧ s.claimClass 2 c.die c.silo = 0)) ∧
    (∃ s : State, ∃ r : Req, ∃ d, ∃ cl, Serves s r 0x0720 none ∧ s.hasDie d = true ∧ cl < 6) ∧
    (∃ s : State, ∃ r : Req, ∃ d, Serves s r 0x0721 none ∧ s.hasDie d = true) :=
  ⟨⟨(runs [(⟨0, .SAFE_STATUS_SEC_OK, 0⟩, 1)]), by decide +kernel⟩,
    ⟨{ runs [(⟨0, .SAFE_CTRL_ARM, 0⟩, 1), (⟨0, .SAFE_CTRL_FTTI_MS, 0⟩, 20), (⟨1, .SAFE_SILO_CFG_EN, 15⟩, 1), (⟨1, .SILO_CFG_EN, 15⟩, 1)] with pins.claims := [((2, 1, 15), (0, 0))], time.live := [(0, 18000000 * 2 ^ 48)] },
      1, 15, by and_intros <;> decide +kernel⟩,
    ⟨(runs [(⟨0, .SAFE_CTRL_FTTI_MS, 0⟩, 500)]), sch, 0x81f40000, (WritesNow.of_flags (by decide +kernel)), by and_intros <;> decide +kernel⟩,
    ⟨(runs [(⟨0, .SAFE_CTRL_FTTI_MS, 0⟩, 400)]), sch, 0x01F40000, (WritesNow.of_flags (by decide +kernel)), by and_intros <;> decide +kernel⟩,
    ⟨(runs [(⟨0, .SAFE_CTRL_FTTI_MS, 0⟩, 500)]), sch, 0x41f40000, (WritesNow.of_flags (by decide +kernel)), by and_intros <;> decide +kernel⟩,
    ⟨(runs []), sch, 2863311530, (WritesNow.of_flags (by decide +kernel)), by and_intros <;> decide +kernel⟩,
    ⟨(runs []), sch, 0, (WritesNow.of_flags (by decide +kernel)), by and_intros <;> decide +kernel⟩,
    ⟨(runs [(⟨1, .GLN_CTRL_EN, 5⟩, 1)]), 1, 5, 40, [41, 42, 43, 44, 45, 46, 47], by and_intros <;> decide +kernel⟩,
    ⟨(runs [(⟨1, .GLN_CORE_TESTING, 47⟩, 1)]), 1, 47, by and_intros <;> decide +kernel⟩,
    ⟨(runs [(⟨1, .GLN_CORE_TESTING, 47⟩, 1)]), 1, 47, 1, by and_intros <;> decide +kernel⟩,
    ⟨{ runs [] with time.live := [(0, 50000000 * 2 ^ 48)] }, 1, 47, by and_intros <;> decide +kernel⟩,
    ⟨{ runs [(⟨1, .GLN_CORE_LAPSE, 47⟩, 1)] with time.live := [(0, 50000000 * 2 ^ 48)] }, 1, 47, by and_intros <;> decide +kernel⟩,
    ⟨(runs [(⟨1, .CHKROT_STATUS_UNITS, 0⟩, 1)]), 1, by and_intros <;> decide +kernel⟩,
    ⟨{ runs [] with safe.retry := [(1, 3)] }, 1, (1, 3), by and_intros <;> decide +kernel⟩,
    ⟨(runs []), fwReq, 500, 2863311530, (.inl rfl), by and_intros <;> decide +kernel⟩,
    ⟨(runs [(⟨0, .SAFE_CTRL_ARM, 0⟩, 1)]), fwReq, 500, 2863311530, (.inl rfl), by and_intros <;> decide +kernel⟩,
    ⟨{ runs [] with pins.claims := [((1, 0, 372), (0xFF00, 1)), ((1, 0, 374), (0xFF00, 1))] }, fwReq, 1, (.inl rfl), by and_intros <;> decide +kernel⟩,
    ⟨(runs []), fwReq, 1, (.inl rfl), by and_intros <;> decide +kernel⟩,
    ⟨(runs []), fwReq, _, (.inl rfl), by decide +kernel, rfl⟩,
    ⟨(runs []), fwReq, (.inl rfl)⟩,
    ⟨{ runs [] with pins.claims := [((2, 1, 15), (0, 0))] }, fwReq, 1, 15, 0x8FF0, 0xFF00FF00, (.inl rfl), by and_intros <;> decide +kernel⟩,
    ⟨{ runs [] with pins.claims := [((2, 1, 15), (0, 0))] }, fwReq, ⟨15, true, 65535, 1484, 1, 15, List.replicate 1522 0⟩, (.inl rfl), by decide +kernel, by
      decide +kernel, by decide +kernel, by decide +kernel, by decide +kernel, by decide +kernel, by decide +kernel,
      (by rw [List.length_replicate]; decide +kernel)⟩,
    ⟨(runs []), fwReq, 1, 5, (.inl rfl), by and_intros <;> decide +kernel⟩,
    ⟨(runs []), fwReq, 1, (.inl rfl), by decide +kernel⟩⟩

/-- The hypotheses of SecurityRowsComplete are met, each clause. -/
theorem witness_SecurityRowsComplete :
    (∃ s : State, ∃ r : Req, ∃ mask, Serves s r 0x0900 none ∧ mask < 2 ^ 16 ∧ popCount 16 mask ≠ 0 ∧ popCount 16 mask ≤ 8) ∧
    (∃ s : State, ∃ r : Req, ∃ chain, Serves s r 0x0901 none ∧ chain < 2) ∧
    (∃ s : State, ∃ r : Req, ∃ i, Serves s r 0x0902 none ∧ 8 ≤ i ∧ i < 16 ∧ s.manager r.dom = true) ∧
    (∃ s : State, ∃ r : Req, ∃ dom, s.isDomain dom = true ∧ (r.dom = 0 ∨ r.dom = fwDom) ∧ Serves s r 0x0903 none) ∧
    (∃ s : State, ∃ r : Req, ∃ dom, s.isDomain dom = true ∧ (r.dom = 0 ∨ r.dom = fwDom) ∧ Serves s r 0x0904 none) ∧
    (∃ s : State, ∃ r : Req, ∃ w, ∃ value : Word, ∃ mask : Word, ∃ t, Serves s r 0x0905 none ∧ (r.dom = 0 ∨ r.dom = fwDom) ∧ (s.handling r 0x0905).programWord
      0 w value.toNat mask.toNat = some t) ∧
    (∃ s : State, ∃ r : Req, ∃ b, ∃ target, Serves s r 0x0906 none ∧ (r.dom = 0 ∨ r.dom = fwDom) ∧ s.fw.bundle = some b ∧ target ≤ b.svn ∧ s.svnCount ≤ target)
      ∧
    (∃ s : State, ∃ r : Req, ∃ target, Serves s r 0x0907 none ∧ (r.dom = 0 ∨ r.dom = fwDom) ∧ target = (if s.sec.lcFuse = 0 then 1 else if s.sec.lcFuse = 1
      then 3 else 4)) ∧
    (∃ s : State, ∃ r : Req, ∃ slot, Serves s r 0x0908 none ∧ slot < 4 ∧ (r.dom = 0 ∨ r.dom = fwDom) ∧ (s.sec.keys.filter (fun k => k.usable 0)).length ≠ 1) ∧
    (∃ s : State, ∃ r : Req, ∃ offset, ∃ total, ∃ data : List Byte, Serves s r 0x0910 none ∧ r.dom = 0x2000 ∧ s.fld 0 .RST_STATUS_BOOTSEL_EFF = 3 ∧ s.stepOf 0
      < 7 ∧ offset = s.boot.chunks.length ∧ data.length % 16 = 0 ∧ data.length ≤ 4064 ∧ offset + data.length ≤ total ∧ total ≤ 0x1000000 ∧ total ≠ 0 ∧ (offset
      ≠ 0 → s.boot.chunkTotal = some total) ∧ offset + data.length < total) ∧
    (∃ s : State, ∃ m : Master, ∃ d, ∃ data : Word, WritesNow s m d .SEC 0x28 ∧ s.guardOk m = true ∧ bits data.toNat 31 31 = 1 ∧ s.fld d .SEC_FUSE_CTRL_ACTIVE
      ≠ 1 ∧ s.accepted.programWord d (s.fld d .SEC_FUSE_ADDR_WORD) (s.fld d .SEC_FUSE_DATA_VALUE) (s.fld d .SEC_FUSE_DATA_VALUE) ≠ none) ∧
    (∃ s : State, s.sec.lc ≠ 0) ∧
    (∃ s : State, s.sec.lc ≠ 0 ∧ s.sec.dbg = none) ∧
    (∃ s : State, ∃ x, s.sec.lc ≠ 0 ∧ s.sec.dbg = some x ∧ x.words.length < 843) :=
  ⟨⟨(runs []), fwReq, 0xFF00, (.inl rfl), by and_intros <;> decide +kernel⟩,
    ⟨(runs []), fwReq, 1, (.inl rfl), by decide +kernel⟩,
    ⟨(runs []), fwReq, 15, (.inl rfl), by and_intros <;> decide +kernel⟩,
    ⟨(runs []), fwReq, 0x1007, by decide +kernel, by decide +kernel, (.inl rfl)⟩,
    ⟨(runs []), fwReq, 0x1007, by decide +kernel, by decide +kernel, (.inl rfl)⟩,
    ⟨{ runs [] with sec.lc := 0 }, fwReq, 0, 0, 0, _, (.inl rfl), by decide +kernel, programNone _ _ _ _ rfl⟩,
    ⟨{ runs [] with fw.bundle := some ⟨1, 1, 63, 0, []⟩ }, fwReq, ⟨1, 1, 63, 0, []⟩, 63, (.inl rfl), by and_intros <;> decide +kernel⟩,
    ⟨(runs []), fwReq, 3, (.inl rfl), by and_intros <;> decide +kernel⟩,
    ⟨{ runs [] with sec.keys := [⟨1, 1, 1, false⟩, ⟨2, 2, 1, false⟩, ⟨0, 0, 0, false⟩, ⟨0, 0, 0, false⟩] }, fwReq, 3, (.inl rfl),
      by and_intros <;> decide +kernel⟩,
    ⟨{ atStep 6 [(⟨0, .RST_STATUS_BOOTSEL_EFF, 0⟩, 3)] with mail.boxes := [(0x2000, { Mailbox.empty with session := some ⟨1, 3, 2, 2 ^ 16 - 1⟩ })] }, ⟨0x2000,
      0, 1⟩, 0, 0x1000000, [], (.inr ⟨by decide +kernel, by decide +kernel⟩), by and_intros <;> decide +kernel⟩,
    ⟨{ runs [] with sec.lc := 0 }, sch, 1, 0x80000000, (WritesNow.of_flags (by decide +kernel)), by decide +kernel, by decide +kernel, by decide +kernel,
      (fun e => Option.some_ne_none _ ((programNone _ 1 0 0 rfl).symm.trans e))⟩,
    ⟨(runs []), by decide +kernel⟩,
    ⟨(runs []), by and_intros <;> decide +kernel⟩,
    ⟨{ runs [] with sec.dbg := some ⟨0, 0, []⟩ }, ⟨0, 0, []⟩, by and_intros <;> decide +kernel⟩⟩

/-- The hypotheses of TitheRowsComplete are met, each clause. -/
theorem witness_TitheRowsComplete :
    (∃ s : State, ∃ reason, s.tithe.writing = some reason ∧ reason ≠ 2 ∧ s.tithe.flushReq = none) ∧
    (∃ s : State, ∃ reason, s.tithe.writing = some reason ∧ reason ≠ 2 ∧ s.tithe.flushReq = none) ∧
    (∃ s : State, s.fld 0 .TITHE_STATUS_ERASING = 1) ∧
    (∃ s : State, 8 ≤ s.stepOf 0) ∧
    (∃ s : State, ∃ r : Req, ∃ offset, Serves s r 0x0840 (some 0) ∧ offset < (s.titheRecord 0 (s.fld 0 .TITHE_SEQ_SEQ)).length) ∧
    (∃ s : State, ∃ r : Req, Serves s r 0x0841 (some 0) ∧ s.manager r.dom = true ∧ s.titheBusy = false) ∧
    (∃ s : State, ∃ r : Req, Serves s r 0x0841 (some 0) ∧ s.manager r.dom = true ∧ s.titheBusy = true) :=
  ⟨⟨{ runs [] with tithe.writing := some 0 }, 0, by and_intros <;> decide +kernel⟩,
    ⟨{ runs [] with tithe.writing := some 0 }, 0, by and_intros <;> decide +kernel⟩,
    ⟨(runs [(⟨0, .TITHE_STATUS_ERASING, 0⟩, 1)]), by decide +kernel⟩,
    ⟨(atStep 8 []), by decide +kernel⟩,
    ⟨(runs []), fwReq, 1663, (.inl rfl), by decide +kernel⟩,
    ⟨(runs []), fwReq, (.inl rfl), by and_intros <;> decide +kernel⟩,
    ⟨(runs [(⟨0, .TITHE_STATUS_ERASING, 0⟩, 1)]), fwReq, (.inl rfl), by and_intros <;> decide +kernel⟩⟩

/-- The hypotheses of IdleStepTicks are met, each clause. -/
theorem witness_IdleStepTicks :
    (∃ s : State, s.pending = []) ∧
    (∃ s : State, s.pending = []) ∧
    (∃ s : State, s.pending = []) ∧
    (∃ s : State, s.pending = []) :=
  ⟨⟨State.reset, by decide +kernel⟩,
    ⟨State.reset, by decide +kernel⟩,
    ⟨State.reset, by decide +kernel⟩,
    ⟨State.reset, by decide +kernel⟩⟩

/-- The hypotheses of CaptureKeepsLatestStamp are met, together. -/
theorem witness_CaptureKeepsLatestStamp : ∃ s : State, ∃ d, ∃ n, ∃ rising : Bool, s.hasDie d = true ∧ n < 32 ∧ s.fld d .TSCAP_CFG_EN n = 1 ∧ s.fld d
  .PINCFG_FUNC (gpioPin n) = 2 ∧ (s.fld d .TSCAP_CFG_EDGE n = 2 ∨ s.fld d .TSCAP_CFG_EDGE n = if rising then 0 else 1) :=
  ⟨(runs [(⟨1, .TSCAP_CFG_EN, 31⟩, 1), (⟨1, .PINCFG_FUNC, 207⟩, 2), (⟨1, .TSCAP_CFG_EDGE, 31⟩, 1), (⟨1, .TSCAP_STATUS_VALID, 31⟩, 1)]), 1, 31, false,
    by and_intros <;> decide +kernel⟩

/-- The hypotheses of EffectiveBootCode are met, each clause. -/
theorem witness_EffectiveBootCode :
    (∃ s : State, s.hasDie 0 = true ∧ 0 ∈ s.boot.loading ∧ s.boot.pkg = true) ∧
    (∃ s : State, ∃ b, s.allAt 5 = true ∧ s.boot.pkg = true ∧ s.fld 0 .RST_STATUS_OPT_ABORTS ≠ 3 ∧ s.bankInUse = some b) :=
  ⟨⟨{ atStep 0 [] with boot.loading := [0, 1] }, by and_intros <;> decide +kernel⟩,
    ⟨{ atStep 5 [] with flash := flash0 }, 0, by decide +kernel, by decide +kernel, by decide +kernel, banked_inUse _ rfl⟩⟩

/-- The hypotheses of DieZeroResetIsPackage are met, each clause. -/
theorem witness_DieZeroResetIsPackage :
    (∃ s : State, s.hasDie 0 = true) ∧
    (∃ s : State, s.hasDie 0 = true) ∧
    (∃ s : State, s.hasDie 0 = true ∧ s.boot.powered = true ∧ s.boot.due = [] ∧ s.mustHold .package = false) :=
  ⟨⟨(runs []), by decide +kernel⟩,
    ⟨(runs []), by decide +kernel⟩,
    ⟨(runs []), by and_intros <;> decide +kernel⟩⟩

/-- The hypotheses of DomainNumbers are met, each clause. -/
theorem witness_DomainNumbers :
    (∃ n, n ≤ 2048) ∧
    (∃ d, ∃ a, d < 8 ∧ a < 4) ∧
    (∃ n, ∃ d, ∃ a, n ≤ 2048 ∧ d < 8 ∧ a < 4) ∧
    (∃ n, ∃ d, ∃ a, n ≤ 2048 ∧ d < 8 ∧ a < 4) ∧
    (∃ n, ∃ d, ∃ a, n ≤ 2048 ∧ d < 8 ∧ a < 4) ∧
    (∃ n, ∃ d, ∃ a, n ≤ 2048 ∧ d < 8 ∧ a < 4) ∧
    (∃ n, ∃ d, ∃ a, n ≤ 2048 ∧ d < 8 ∧ a < 4) ∧
    (∃ n, ∃ d, ∃ a, n ≤ 2048 ∧ d < 8 ∧ a < 4) ∧
    (∃ n, ∃ d, ∃ a, n ≤ 2048 ∧ d < 8 ∧ a < 4) :=
  ⟨⟨2048, by decide +kernel⟩,
    ⟨7, 3, by and_intros <;> decide +kernel⟩,
    ⟨2048, 7, 3, by and_intros <;> decide +kernel⟩,
    ⟨2048, 7, 3, by and_intros <;> decide +kernel⟩,
    ⟨2048, 7, 3, by and_intros <;> decide +kernel⟩,
    ⟨2048, 7, 3, by and_intros <;> decide +kernel⟩,
    ⟨2048, 7, 3, by and_intros <;> decide +kernel⟩,
    ⟨2048, 7, 3, by and_intros <;> decide +kernel⟩,
    ⟨2048, 7, 3, by and_intros <;> decide +kernel⟩⟩

/-- The hypotheses of GatherWritesRows are met, each clause. -/
theorem witness_GatherWritesRows :
    (∃ s : State, ∃ d : Nat, ∃ p : Placed, ∃ c : XeCmd, (∃ k ∈ s.words d p (descOp2 p.desc) c.bOff c.count, k ≠ nullKey ∧ c.count2 ≤ k)) ∧
    (∃ s : State, ∃ d : Nat, ∃ p : Placed, ∃ c : XeCmd, (s.opBuf d p (descOp1 p.desc)).isSome = true ∧ (∀ k ∈ s.words d p (descOp2 p.desc) c.bOff c.count, k =
      nullKey ∨ k < c.count2)) ∧
    (∃ s : State, ∃ d : Nat, ∃ p : Placed, ∃ c : XeCmd, (s.opBuf d p (descOp1 p.desc)).isSome = true ∧ (∀ k ∈ s.words d p (descOp2 p.desc) c.bOff c.count, k =
      nullKey ∨ k < c.count2)) ∧
    (∃ s : State, ∃ d : Nat, ∃ p : Placed, ∃ c : XeCmd, (s.opBuf d p (descOp1 p.desc)).isSome = true ∧ (∀ k ∈ s.words d p (descOp2 p.desc) c.bOff c.count, k =
      nullKey ∨ k < c.count2) ∧ c.rowLen < 64) ∧
    (∃ s : State, ∃ d : Nat, ∃ p : Placed, ∃ c : XeCmd, ∃ i : Nat, ∃ k : Nat, (s.opBuf d p (descOp1 p.desc)).isSome = true ∧ (∀ k ∈ s.words d p (descOp2
      p.desc) c.bOff c.count, k = nullKey ∨ k < c.count2) ∧ (s.words d p (descOp2 p.desc) c.bOff c.count)[i]? = some k) :=
  ⟨⟨(working (.core 47 .xe) (words [513, hd 1, hd 2, hd 3, 0, 1, 1, 65599, 0, 0, 0, 0, 0, 0, 0, 1]) (cells (base 2) (words [1]))), 0, (task (words [513, hd 1,
    hd 2, hd 3, 0, 1, 1, 65599, 0, 0, 0, 0, 0, 0, 0, 1])), (XeCmd.parse (words [513, hd 1, hd 2, hd 3, 0, 1, 1, 65599, 0, 0, 0, 0, 0, 0, 0, 1])), by
    decide +kernel⟩,
    ⟨(working (.core 47 .xe) (words [513, hd 1, hd 2, hd 3, 0, 2, 1, 65599, 0, 0, 0, 0, 0, 0, 0, 1]) (cells (base 2) (words [0xFFFFFFFF, 0]))), 0, (task (words
      [513, hd 1, hd 2, hd 3, 0, 2, 1, 65599, 0, 0, 0, 0, 0, 0, 0, 1])), (XeCmd.parse (words [513, hd 1, hd 2, hd 3, 0, 2, 1, 65599, 0, 0, 0, 0, 0, 0, 0, 1])),
      by and_intros <;> decide +kernel⟩,
    ⟨(working (.core 47 .xe) (words [513, hd 1, hd 2, hd 3, 0, 2, 1, 65599, 0, 0, 0, 0, 0, 0, 0, 1]) (cells (base 2) (words [0xFFFFFFFF, 0]))), 0, (task (words
      [513, hd 1, hd 2, hd 3, 0, 2, 1, 65599, 0, 0, 0, 0, 0, 0, 0, 1])), (XeCmd.parse (words [513, hd 1, hd 2, hd 3, 0, 2, 1, 65599, 0, 0, 0, 0, 0, 0, 0, 1])),
      by and_intros <;> decide +kernel⟩,
    ⟨(working (.core 47 .xe) (words [513, hd 1, hd 2, hd 3, 0, 2, 1, 65599, 0, 0, 0, 0, 0, 0, 0, 1]) (cells (base 2) (words [0xFFFFFFFF, 0]))), 0, (task (words
      [513, hd 1, hd 2, hd 3, 0, 2, 1, 65599, 0, 0, 0, 0, 0, 0, 0, 1])), (XeCmd.parse (words [513, hd 1, hd 2, hd 3, 0, 2, 1, 65599, 0, 0, 0, 0, 0, 0, 0, 1])),
      by and_intros <;> decide +kernel⟩,
    ⟨(working (.core 47 .xe) (words [513, hd 1, hd 2, hd 3, 0, 2, 1, 65599, 0, 0, 0, 0, 0, 0, 0, 1]) (cells (base 2) (words [0xFFFFFFFF, 0]))), 0, (task (words
      [513, hd 1, hd 2, hd 3, 0, 2, 1, 65599, 0, 0, 0, 0, 0, 0, 0, 1])), (XeCmd.parse (words [513, hd 1, hd 2, hd 3, 0, 2, 1, 65599, 0, 0, 0, 0, 0, 0, 0, 1])),
      0, 0xFFFFFFFF, by and_intros <;> decide +kernel⟩⟩

/-- Whether a command answers a next state. -/
def goesOn : Out → Bool
  | .next _ => true
  | _ => false

theorem goesOn_next {o : Out} (h : goesOn o = true) : ∃ t, o = .next t := by cases o <;> first | exact ⟨_, rfl⟩ | cases h

/-- A command goes on from a canonical state, its stores are listed and an address lies outside them. -/
def storesAt (F : Instr → State → Option (List (Nat × Nat))) (i : Instr) (s : State) (a : Nat) : Bool :=
  Memory.wf s && goesOn (exec i s) && (match F i s with
    | some l => !l.isEmpty && !inRanges l a
    | none => false)

theorem storesAt_meets {F : Instr → State → Option (List (Nat × Nat))} (i : Instr) (s : State) (a : Nat) (h : storesAt F i s a = true) :
    ∃ t l, l ≠ [] ∧ Canonical s ∧ F i s = some l ∧ exec i s = .next t ∧ inRanges l a = false := by
  unfold storesAt at h
  cases hl : F i s with
  | none => simp [hl] at h
  | some l =>
    simp only [hl, Bool.and_eq_true, Bool.not_eq_true'] at h
    obtain ⟨t, ht⟩ := goesOn_next h.1.2
    exact ⟨t, l, by rintro rfl; simp at h, h.1.1, rfl, ht, h.2.2⟩

/-- The hypotheses of ComputeRowsStore are met. -/
theorem witness_ComputeRowsStore :
    (∃ t l, l ≠ [] ∧ Canonical (working (.core 47 .ve) (words [257, hd 1, hd 2, hd 3, 0, 1, 1, 65536, 0, 0, 0, 0, 0, 0, 0, 65537]) ([])) ∧ computeStores
      (.unary 0 47) (working (.core 47 .ve) (words [257, hd 1, hd 2, hd 3, 0, 1, 1, 65536, 0, 0, 0, 0, 0, 0, 0, 65537]) ([])) = some l ∧ exec (.unary 0 47)
      (working (.core 47 .ve) (words [257, hd 1, hd 2, hd 3, 0, 1, 1, 65536, 0, 0, 0, 0, 0, 0, 0, 65537]) ([])) = .next t ∧ inRanges l 0 = false) ∧
    (∃ t l, l ≠ [] ∧ Canonical (working (.core 47 .te) (words [1, hd 1, hd 2, hd 3, 65536, 1, 1, 65537, 0, 0, 0, 0, 0, 0, 0, 65537]) ([])) ∧ computeStores
      (.matmul 0 47) (working (.core 47 .te) (words [1, hd 1, hd 2, hd 3, 65536, 1, 1, 65537, 0, 0, 0, 0, 0, 0, 0, 65537]) ([])) = some l ∧ exec (.matmul 0 47)
      (working (.core 47 .te) (words [1, hd 1, hd 2, hd 3, 65536, 1, 1, 65537, 0, 0, 0, 0, 0, 0, 0, 65537]) ([])) = .next t ∧ inRanges l 0 = false) ∧
    (∃ t l, l ≠ [] ∧ Canonical (working (.core 47 .xe) (words [513, hd 1, hd 2, hd 3, 60928, 1, 1, 65540, 0, 0, 0, 0, 0, 0, 0, 1]) ([])) ∧ computeStores
      (.gather 0 47) (working (.core 47 .xe) (words [513, hd 1, hd 2, hd 3, 60928, 1, 1, 65540, 0, 0, 0, 0, 0, 0, 0, 1]) ([])) = some l ∧ exec (.gather 0 47)
      (working (.core 47 .xe) (words [513, hd 1, hd 2, hd 3, 60928, 1, 1, 65540, 0, 0, 0, 0, 0, 0, 0, 1]) ([])) = .next t ∧ inRanges l 0 = false) ∧
    (∃ t l, l ≠ [] ∧ Canonical (working (.core 47 .seq) (words [769, hd 1, 0, hd 3, 64, 0, 0, 0, 0, 0, 0, 0, 0, 0, 0, 0]) ([])) ∧ computeStores (.copy 0 47)
      (working (.core 47 .seq) (words [769, hd 1, 0, hd 3, 64, 0, 0, 0, 0, 0, 0, 0, 0, 0, 0, 0]) ([])) = some l ∧ exec (.copy 0 47) (working (.core 47 .seq)
      (words [769, hd 1, 0, hd 3, 64, 0, 0, 0, 0, 0, 0, 0, 0, 0, 0, 0]) ([])) = .next t ∧ inRanges l 0 = false) :=
  ⟨storesAt_meets _ _ _ (by decide +kernel), storesAt_meets _ _ _ (by decide +kernel), storesAt_meets _ _ _ (by decide +kernel), storesAt_meets _ _ _ (by
    decide +kernel)⟩

/-- The hypotheses of RasterRowsStore are met. -/
theorem witness_RasterRowsStore :
    (∃ t l, l ≠ [] ∧ Canonical (working (.raster 1) (words [1027, 0, 0, 0, 65536, 0, 0, 0, 0, 0, 0, 0, 0, 0, 0, 0]) (cells 0x10000 (words [0x20000, 0,
      0x00200020, 0x00000807, 0x30000, 0, 0, 0]))) ∧ rasterRowStores (.expand 0 1) (working (.raster 1) (words [1027, 0, 0, 0, 65536, 0, 0, 0, 0, 0, 0, 0, 0,
      0, 0, 0]) (cells 0x10000 (words [0x20000, 0, 0x00200020, 0x00000807, 0x30000, 0, 0, 0]))) = some l ∧ exec (.expand 0 1) (working (.raster 1) (words
      [1027, 0, 0, 0, 65536, 0, 0, 0, 0, 0, 0, 0, 0, 0, 0, 0]) (cells 0x10000 (words [0x20000, 0, 0x00200020, 0x00000807, 0x30000, 0, 0, 0]))) = .next t ∧
      inRanges l 0 = false) ∧
    (∃ t l, l ≠ [] ∧ Canonical (working (.raster 1) (words [1026, 0, 0, 0, 65536, 0, 0, 0, 0, 0, 0, 0, 0, 0, 0, 0]) (cells 0x10000 (words [0x20000, 0,
      0x00200020, 0x00000807, 0x30000, 0, 0, 0]))) ∧ rasterRowStores (.fastClear 0 1) (working (.raster 1) (words [1026, 0, 0, 0, 65536, 0, 0, 0, 0, 0, 0, 0,
      0, 0, 0, 0]) (cells 0x10000 (words [0x20000, 0, 0x00200020, 0x00000807, 0x30000, 0, 0, 0]))) = some l ∧ exec (.fastClear 0 1) (working (.raster 1) (words
      [1026, 0, 0, 0, 65536, 0, 0, 0, 0, 0, 0, 0, 0, 0, 0, 0]) (cells 0x10000 (words [0x20000, 0, 0x00200020, 0x00000807, 0x30000, 0, 0, 0]))) = .next t ∧
      inRanges l 0 = false) :=
  ⟨storesAt_meets _ _ _ (by decide +kernel), storesAt_meets _ _ _ (by decide +kernel)⟩

/-- The hypotheses of MessageRowsStore are met. -/
theorem witness_MessageRowsStore :
    (∃ t l, l ≠ [] ∧ Canonical { working (.core 47 .te) [] [] with memy.kvAlloc := [] } ∧ messageStores (.kvPoolCreate fwReq (BitVec.ofNat 32 (hd 6)) 1)
      { working (.core 47 .te) [] [] with memy.kvAlloc := [] } = some l ∧ exec (.kvPoolCreate fwReq (BitVec.ofNat 32 (hd 6)) 1)
      { working (.core 47 .te) [] [] with memy.kvAlloc := [] } = .next t ∧ inRanges l 0 = false) ∧
    (∃ t l, l ≠ [] ∧ Canonical { runs [] with fn.freezes := [⟨fnDom 2048, [], true, 0, false⟩] } ∧ messageStores (.fnSave fwReq 2048 0 0x10000 0x10000)
      { runs [] with fn.freezes := [⟨fnDom 2048, [], true, 0, false⟩] } = some l ∧ exec (.fnSave fwReq 2048 0 0x10000 0x10000)
      { runs [] with fn.freezes := [⟨fnDom 2048, [], true, 0, false⟩] } = .next t ∧ inRanges l 0xFFFF = false) :=
  ⟨storesAt_meets _ _ _ (by decide +kernel), storesAt_meets _ _ _ (by decide +kernel)⟩

/-- The hypotheses of AccessRowsStore are met. -/
theorem witness_AccessRowsStore :
    (∃ t l, l ≠ [] ∧ Canonical (runs []) ∧ accessStores (.registerWrite sch 0x10000 4 1) (runs []) = some l ∧ exec (.registerWrite sch 0x10000 4 1) (runs []) =
      .next t ∧ inRanges l 0x10004 = false) ∧
    (∃ t l, l ≠ [] ∧ Canonical (runs []) ∧ accessStores (.pairHiWrite sch 0x10000 1) (runs []) = some l ∧ exec (.pairHiWrite sch 0x10000 1) (runs []) = .next t
      ∧ inRanges l 0xFFFF = false) ∧
    (∃ t l, l ≠ [] ∧ Canonical (runs []) ∧ accessStores (.xspiCommand sch (.read 1 0 0x10000 16)) (runs []) = some l ∧ exec (.xspiCommand sch (.read 1 0
      0x10000 16)) (runs []) = .next t ∧ inRanges l 0x10010 = false) :=
  ⟨storesAt_meets _ _ _ (by decide +kernel), storesAt_meets _ _ _ (by decide +kernel), storesAt_meets _ _ _ (by decide +kernel)⟩

/-- The hypotheses of SystemRowsStore are met. -/
theorem witness_SystemRowsStore :
    (∃ t l, l ≠ [] ∧ Canonical
      { runs [] with memy.bufs := [((0, 0, 3), ⟨sliceBase 0 2, true, false, false, true, 2, 0x10000, 5⟩), ((0, 0, 4), ⟨sliceBase 0 2 + 0x10000, true, false, false, false, 2, 0x10000, 5⟩)], memy.spills := [((0, 0, 2), ⟨3, false, 0x3C0400000, none⟩)] }
      ∧ systemStores (.spillCopyEnd 0 0 2)
      { runs [] with memy.bufs := [((0, 0, 3), ⟨sliceBase 0 2, true, false, false, true, 2, 0x10000, 5⟩), ((0, 0, 4), ⟨sliceBase 0 2 + 0x10000, true, false, false, false, 2, 0x10000, 5⟩)], memy.spills := [((0, 0, 2), ⟨3, false, 0x3C0400000, none⟩)] }
      = some l ∧ exec (.spillCopyEnd 0 0 2)
      { runs [] with memy.bufs := [((0, 0, 3), ⟨sliceBase 0 2, true, false, false, true, 2, 0x10000, 5⟩), ((0, 0, 4), ⟨sliceBase 0 2 + 0x10000, true, false, false, false, 2, 0x10000, 5⟩)], memy.spills := [((0, 0, 2), ⟨3, false, 0x3C0400000, none⟩)] }
      = .next t ∧ inRanges l 0 = false) ∧
    (∃ t l, l ≠ [] ∧ Canonical { runs [] with boot.down := [(1, 9)] } ∧ systemStores (.fabricUp (.cluster 1 5)) { runs [] with boot.down := [(1, 9)] } = some l
      ∧ exec (.fabricUp (.cluster 1 5)) { runs [] with boot.down := [(1, 9)] } = .next t ∧ inRanges l 0 = false) :=
  ⟨storesAt_meets _ _ _ (by decide +kernel), storesAt_meets _ _ _ (by decide +kernel)⟩

/-- The hypotheses of FlashRowsStore are met. -/
theorem witness_FlashRowsStore :
    (∃ t, Canonical (runs [(⟨0, .TITHE_STATUS_ERASING, 0⟩, 1)]) ∧ flashStores .titheEraseEnd (runs [(⟨0, .TITHE_STATUS_ERASING, 0⟩, 1)]) ≠ [] ∧ exec
      .titheEraseEnd (runs [(⟨0, .TITHE_STATUS_ERASING, 0⟩, 1)]) = .next t ∧ inRanges (flashStores .titheEraseEnd (runs [(⟨0, .TITHE_STATUS_ERASING, 0⟩, 1)]))
      0 = false) ∧
    (∃ t, Canonical (runs []) ∧ flashStores (.xspiCommand sch (.erase 1 0 4096)) (runs []) ≠ [] ∧ exec (.xspiCommand sch (.erase 1 0 4096)) (runs []) = .next t
      ∧ inRanges (flashStores (.xspiCommand sch (.erase 1 0 4096)) (runs [])) 0 = false) :=
  ⟨(let ⟨t, h⟩ := goesOn_next (by decide +kernel); ⟨t, show Memory.wf _ = true by decide +kernel, by decide +kernel, h, by decide +kernel⟩),
    (let ⟨t, h⟩ := goesOn_next (by decide +kernel); ⟨t, show Memory.wf _ = true by decide +kernel, by decide +kernel, h, by decide +kernel⟩)⟩

/-- The hypotheses of StepKeepsCanonical are met. -/
theorem witness_StepKeepsCanonical : ∃ s t, Canonical s ∧ s.pending ≠ [] ∧ step s = .next t :=
  let s : State := { runs [] with pending := [.registerWrite sch 0x10000 4 1] }
  have h : goesOn (step s) = true := by decide +kernel
  let ⟨t, ht⟩ := goesOn_next h
  ⟨s, t, show Memory.wf _ = true by decide +kernel, by decide +kernel, ht⟩

/-- The hypotheses of RowsKeepRegisters are met. -/
theorem witness_RowsKeepRegisters : ∃ t, exec (.registerWrite sch 0x10000 4 1) (runs []) = .next t ∧ mayChange (.registerWrite sch 0x10000 4 1)
  .RST_CAUSE_SCOPE = false :=
  let ⟨t, h⟩ := goesOn_next (by decide +kernel); ⟨t, h, by decide +kernel⟩

/-- The hypotheses of RowsKeepParts are met, each clause. -/
theorem witness_RowsKeepParts : (∃ t, exec (.registerWrite sch 0x10000 4 1) (runs []) = .next t ∧ Component.flash ∉ rowParts (.registerWrite sch 0x10000 4 1)) ∧
    ∃ t, exec (.odoQuery fwReq 3) (runs []) = .next t ∧ Component.memory ∉ rowParts (.odoQuery fwReq 3) ∧ Component.boot ∉ rowParts (.odoQuery fwReq 3) :=
  ⟨let ⟨t, h⟩ := goesOn_next (by decide +kernel); ⟨t, h, by decide +kernel⟩,
    let ⟨t, h⟩ := goesOn_next (by decide +kernel); ⟨t, h, by decide +kernel, by decide +kernel⟩⟩

/-- The hypotheses of OptionBankChosen are met, each clause: both banks at either side of the bound, one bank, no bank. -/
theorem witness_OptionBankChosen :
    (∃ s : State, s.allAt 5 = true ∧ s.boot.pkg = true ∧ s.fld 0 .RST_STATUS_OPT_ABORTS ≠ 3 ∧ bankValid (s.optBank 0) = true ∧ bankValid (s.optBank 1) = true ∧
      (bankSeq (s.optBank 1) + 2 ^ 32 - bankSeq (s.optBank 0)) % 2 ^ 32 = 2 ^ 31 - 1) ∧
    (∃ s : State, s.allAt 5 = true ∧ s.boot.pkg = true ∧ s.fld 0 .RST_STATUS_OPT_ABORTS ≠ 3 ∧ bankValid (s.optBank 0) = true ∧ bankValid (s.optBank 1) = true ∧
      (bankSeq (s.optBank 1) + 2 ^ 32 - bankSeq (s.optBank 0)) % 2 ^ 32 = 2 ^ 31) ∧
    (∃ s : State, s.allAt 5 = true ∧ s.boot.pkg = true ∧ s.fld 0 .RST_STATUS_OPT_ABORTS ≠ 3 ∧ bankValid (s.optBank 0) = true ∧ bankValid (s.optBank 1) = false)
      ∧
    (∃ s : State, s.allAt 5 = true ∧ s.boot.pkg = true ∧ s.fld 0 .RST_STATUS_OPT_ABORTS ≠ 3 ∧ bankValid (s.optBank 0) = false ∧ bankValid (s.optBank 1) = true)
      ∧
    (∃ s : State, s.allAt 5 = true ∧ s.boot.pkg = true ∧ s.fld 0 .RST_STATUS_OPT_ABORTS ≠ 3 ∧ bankValid (s.optBank 0) = false ∧ bankValid (s.optBank 1) =
      false) :=
  ⟨(have h := flash01_reads (2 ^ 31) (by decide) { atStep 5 [] with flash := flash01 (2 ^ 31) } rfl; ⟨_, by decide +kernel, by decide +kernel, by
    decide +kernel, h.1.1, h.2.1, by rw [h.1.2, h.2.2] <;> decide⟩),
    (have h := flash01_reads (2 ^ 31 + 1) (by decide) { atStep 5 [] with flash := flash01 (2 ^ 31 + 1) } rfl; ⟨_, by decide +kernel, by decide +kernel, by
      decide +kernel, h.1.1, h.2.1, by rw [h.1.2, h.2.2] <;> decide⟩),
    ⟨{ atStep 5 [] with flash := flash0 }, by decide +kernel, by decide +kernel, by decide +kernel, flash0_reads _ rfl⟩,
    ⟨{ atStep 5 [] with flash := flash1 }, by decide +kernel, by decide +kernel, by decide +kernel, flash1_reads _ rfl⟩,
    ⟨atStep 5 [], by decide +kernel, by decide +kernel, by decide +kernel, bank_blank _ 0 (fun _ _ _ => rfl), bank_blank _ 1 (fun _ _ _ => rfl)⟩⟩


/-- A state whose CPU port has a transmit descriptor at 0x10000: its length, its port mask 0xFF, its flag of a frame that stands ready (R395). -/
def cpuQueued (len : Nat) : State :=
  { runs [] with mem := cells 0x10000 (leBytes 6 0x20000 ++ leBytes 2 len ++ [0xFF#8, 0#8, 1#8]) }

/-- The hypotheses of EthernetRowsComplete on the CPU port are met where its ring lies in populated memory (notes/assumptions/15: where rings lie is open). -/
theorem witness_EthernetRowsComplete_cpu (h : Config.cpuRing 1 15 true = (0x10000, 4)) :
    (∃ s : State, s.hasDie 1 = true ∧ s.memRefusal (cpuPort 1) (s.ringDesc 1 15 true) 32 = none ∧ s.poisoned (s.ringDesc 1 15 true) 32 = none ∧
      bit (leAt (s.bytes (s.ringDesc 1 15 true) 32) 10 1) 0 = true ∧ 9212 < leAt (s.bytes (s.ringDesc 1 15 true) 32) 6 2) ∧
    ∃ s : State, s.hasDie 1 = true ∧ s.memRefusal (cpuPort 1) (s.ringDesc 1 15 true) 32 = none ∧ s.poisoned (s.ringDesc 1 15 true) 32 = none ∧
      bit (leAt (s.bytes (s.ringDesc 1 15 true) 32) 10 1) 0 = true ∧ leAt (s.bytes (s.ringDesc 1 15 true) 32) 6 2 ≤ 9212 ∧
      leAt (s.bytes (s.ringDesc 1 15 true) 32) 8 1 = 0xFF ∧ bit (leAt (s.bytes (s.ringDesc 1 15 true) 32) 10 1) 1 = false ∧
      s.memRefusal (cpuPort 1) (leAt (s.bytes (s.ringDesc 1 15 true) 32) 0 6) (leAt (s.bytes (s.ringDesc 1 15 true) 32) 6 2) = none ∧
      s.poisoned (leAt (s.bytes (s.ringDesc 1 15 true) 32) 0 6) (leAt (s.bytes (s.ringDesc 1 15 true) 32) 6 2) = none := by
  have hr : ∀ n, (cpuQueued n).ringDesc 1 15 true = 0x10000 := by intro n; simp only [State.ringDesc, h]; rfl
  refine ⟨⟨cpuQueued 9213, ?_⟩, ⟨cpuQueued 9212, ?_⟩⟩ <;> rw [hr] <;> decide +kernel

/-- The hypotheses of FieldPortRowsComplete on a CAN controller that sends are met where the free value requests its buffer 15 alone. -/
theorem witness_FieldPortRowsComplete_tx (h : (runs [(⟨1, .CAN_CFG_EN, 3⟩, 1), (⟨1, .CAN_CFG_SRST, 3⟩, 0)]).fresh.1 % 2 ^ 16 = 2 ^ 15) :
    ∃ s : State, s.hasDie 1 = true ∧ s.canRuns 1 3 = true ∧ s.fresh.2.canNext 1 3 (s.fresh.1 % 2 ^ 16) = some 15 ∧ s.fld 1 .CAN_STATUS_TEC 3 + 8 < 256 := by
  refine ⟨(runs [(⟨1, .CAN_CFG_EN, 3⟩, 1), (⟨1, .CAN_CFG_SRST, 3⟩, 0)]), ?_⟩; rw [h]; decide +kernel

/-- The hypotheses of SecurityRowsComplete on a fuse word that is refused are met where word 0 of DIE_1 holds a key slot and LC is past FAB. -/
theorem witness_SecurityRowsComplete_word (h : keyOrSeed 1 0 = true) :
    ∃ s : State, WritesNow s sch 1 .SEC 0x28 ∧ s.guardOk sch = true ∧ s.fld 1 .SEC_FUSE_CTRL_ACTIVE ≠ 1 ∧
      s.accepted.programWord 1 (s.fld 1 .SEC_FUSE_ADDR_WORD) (s.fld 1 .SEC_FUSE_DATA_VALUE) (s.fld 1 .SEC_FUSE_DATA_VALUE) = none :=
  ⟨{ runs [] with sec.lc := 1 }, WritesNow.of_flags (by decide +kernel), by decide +kernel, by decide +kernel, programRefused _ 1 0 0 0 h (by decide)⟩

/-- The same for FUSE_PROGRAM, which programs a word of DIE_0. -/
theorem witness_SecurityRowsComplete_fuse (h : keyOrSeed 0 0 = true) :
    ∃ s : State, Serves s fwReq 0x0905 none ∧ (s.handling fwReq 0x0905).programWord 0 0 0 0 = none :=
  ⟨{ runs [] with sec.lc := 1 }, .inl rfl, programRefused _ 0 0 0 0 h (by decide)⟩

/-- A request ring that holds a PING reads as that PING. -/
theorem ping_reads (s : State) (p : Nat) (h : s.mem = (rangeFrom p 16).zip ping) : s.bytes p 16 = ping := by
  simp [State.bytes, State.byte, h, rangeFrom, ping, cellGet, Nat.add_assoc, List.range, List.range.loop]

/-- PF_0 with that PING at the head of its request ring, wherever firmware placed the ring. -/
def asked : State := { client with mem := (rangeFrom (client.reqUnit 0 0) 16).zip ping }

theorem asked_head : asked.reqBytes 0 1 = ping := by
  have h : asked.bytes (asked.reqUnit 0 0) 16 = ping := ping_reads asked _ rfl
  rw [State.reqBytes, show List.range 1 = [0] from rfl, List.flatMap_cons, h]; rfl

/-- The hypotheses of SessionRowsComplete on a request that starts are met. -/
theorem witness_SessionRowsComplete_start : ∃ s : State,
    let h := s.reqBytes 0 1
    let n := ringUnits (leAt h 4 2)
    let payload := slice (s.reqBytes 0 n) 16 (leAt h 4 2)
    s.reqHeld 0 ≠ 0 ∧ (s.box 0).current = none ∧ s.canServe 0 (leAt h 2 2) (s.nextReq 0).2 = true ∧ leAt h 4 2 ≤ 4080 ∧ n ≤ s.reqHeld 0 ∧
      (∀ k, k < n → s.poisoned (s.reqUnit 0 k) 16 = none) ∧ crc32c (slice h 0 12 ++ payload) = leAt h 12 4 ∧ formRefusal (s.box 0) h payload = none := by
  refine ⟨asked, ?_⟩
  have hn : ringUnits (leAt ping 4 2) = 1 := by decide +kernel
  simp only [asked_head, hn]
  refine ⟨by decide +kernel, by decide +kernel, by decide +kernel, by decide +kernel, by decide +kernel, fun _ _ => rfl, by decide +kernel, by decide +kernel⟩

/-- A GVSP stream of DIE_1 that is enabled, a frame of block 7 open on it. -/
def gvsp : State :=
  { runs [(⟨1, .STR_CFG_EN, 127⟩, 1), (⟨1, .STR_CFG_SRC, 127⟩, 1)] with
    streams := [((1, 127), { CamStream.empty with opened := some { plainFrame with sizeX := 64, number := 7 } })] }

/-- The hypotheses of CameraRowsComplete on the packets of a GVSP stream are met, each form. -/
theorem witness_CameraRowsComplete_gvsp :
    (∃ s : State, s.hasDie 1 = true ∧ pfnc 0x01080001 = some 0x2A ∧
      (List.range 128).find? (fun n => decide (s.fld 1 .STR_CFG_EN n = 1) && s.isGvsp 1 n && decide (s.fld 1 .STR_GOLD_UDP_PORT n = 0)) = some 127) ∧
    ∃ (s : State) (f : CamFrame), s.hasDie 1 = true ∧ s.openOn 1 (List.range 128) (fun f => f.gvsp && decide (f.channel = 0)) = [127] ∧
      (s.stream 1 127).opened = some f ∧ f.number = 7 :=
  ⟨⟨gvsp, by and_intros <;> decide +kernel⟩, gvsp, { plainFrame with sizeX := 64, number := 7 }, by and_intros <;> decide +kernel⟩


/-- A master of a die that no part has. -/
def badMaster : Master := ⟨8, .core, 0, .user, false, 0⟩

/-- ResRange: a field past its bound is refused, each field at its greatest value is taken. -/
theorem test_wf_resRange : ([⟨256, 0, 0, 0, 0⟩, ⟨0, 256, 0, 0, 0⟩, ⟨0, 0, 65536, 0, 0⟩, ⟨0, 0, 0, 65536, 0⟩, ⟨0, 0, 0, 0, 256⟩] : List ResRange).all (fun c =>
  !c.wf) = true ∧ ResRange.wf ⟨255, 255, 65535, 65535, 255⟩ = true := by decide +kernel

/-- KvSeqCfg: a field past its bound is refused, each field at its greatest value is taken. -/
theorem test_wf_kvSeqCfg : ([⟨0, 256, 0, 0, 0, 0, 0, 0, 0⟩, ⟨0, 0, 256, 0, 0, 0, 0, 0, 0⟩, ⟨0, 0, 0, 256, 0, 0, 0, 0, 0⟩, ⟨0, 0, 0, 0, 65536, 0, 0, 0, 0⟩, ⟨0,
  0, 0, 0, 0, 65536, 0, 0, 0⟩, ⟨0, 0, 0, 0, 0, 0, 65536, 0, 0⟩, ⟨0, 0, 0, 0, 0, 0, 0, 65536, 0⟩, ⟨0, 0, 0, 0, 0, 0, 0, 0, 65536⟩] : List KvSeqCfg).all (fun c
  => !c.wf) = true ∧ KvSeqCfg.wf ⟨0, 255, 255, 255, 65535, 65535, 65535, 65535, 65535⟩ = true := by decide +kernel

/-- QueueCfg: a field past its bound is refused, each field at its greatest value is taken. -/
theorem test_wf_queueCfg : ([⟨256, 0, 0, 0, 0, 0, 0, 0, 0⟩, ⟨0, 256, 0, 0, 0, 0, 0, 0, 0⟩, ⟨0, 0, 256, 0, 0, 0, 0, 0, 0⟩, ⟨0, 0, 0, 256, 0, 0, 0, 0, 0⟩, ⟨0, 0,
  0, 0, (2 ^ 64), 0, 0, 0, 0⟩, ⟨0, 0, 0, 0, 0, (2 ^ 64), 0, 0, 0⟩, ⟨0, 0, 0, 0, 0, 0, (2 ^ 64), 0, 0⟩, ⟨0, 0, 0, 0, 0, 0, 0, 65536, 0⟩, ⟨0, 0, 0, 0, 0, 0, 0,
  0, 256⟩] : List QueueCfg).all (fun c => !c.wf) = true ∧ QueueCfg.wf ⟨255, 255, 255, 255, (2 ^ 64 - 1), (2 ^ 64 - 1), (2 ^ 64 - 1), 65535, 255⟩ = true := by
  decide +kernel

/-- SiloCfg: a field past its bound is refused, each field at its greatest value is taken. -/
theorem test_wf_siloCfg : ([⟨256, 0, 0, 0, 0, 0, 0, 0, false⟩, ⟨0, 256, 0, 0, 0, 0, 0, 0, false⟩, ⟨0, 0, (2 ^ 48), 0, 0, 0, 0, 0, false⟩, ⟨0, 0, 0, 256, 0, 0,
  0, 0, false⟩, ⟨0, 0, 0, 0, 256, 0, 0, 0, false⟩, ⟨0, 0, 0, 0, 0, 65536, 0, 0, false⟩, ⟨0, 0, 0, 0, 0, 0, 256, 0, false⟩, ⟨0, 0, 0, 0, 0, 0, 0, 256, false⟩] :
  List SiloCfg).all (fun c => !c.wf) = true ∧ SiloCfg.wf ⟨255, 255, (2 ^ 48 - 1), 255, 255, 65535, 255, 255, false⟩ = true := by decide +kernel

/-- DispModeCfg: a field past its bound is refused, each field at its greatest value is taken. -/
theorem test_wf_dispModeCfg : ([⟨256, 0, 0, 0, 0, 0, 0, 0, 0, 0⟩, ⟨0, 256, 0, 0, 0, 0, 0, 0, 0, 0⟩, ⟨0, 0, 256, 0, 0, 0, 0, 0, 0, 0⟩, ⟨0, 0, 0, 256, 0, 0, 0,
  0, 0, 0⟩, ⟨0, 0, 0, 0, (2 ^ 32), 0, 0, 0, 0, 0⟩] : List DispModeCfg).all (fun c => !c.wf) = true ∧ DispModeCfg.wf ⟨255, 255, 255, 255, (2 ^ 32 - 1), 0, 0, 0,
  0, 0⟩ = true := by decide +kernel

/-- CsiHeader: a field past its bound is refused, each field at its greatest value is taken. -/
theorem test_wf_csiHeader : ([⟨0, 64, 0, 0⟩, ⟨0, 0, 4, 0⟩, ⟨0, 0, 0, 4⟩] : List CsiHeader).all (fun c => !c.wf) = true ∧ CsiHeader.wf ⟨0, 63, 3, 3⟩ = true :=
  by decide +kernel

/-- TbCfg: a field past its bound is refused, each field at its greatest value is taken. -/
theorem test_wf_tbCfg : ([⟨256, 0, 0, 0, 0, 0, 0, 0⟩, ⟨0, 256, 0, 0, 0, 0, 0, 0⟩, ⟨0, 0, 256, 0, 0, 0, 0, 0⟩, ⟨0, 0, 0, 256, 0, 0, 0, 0⟩, ⟨0, 0, 0, 0, 65536,
  0, 0, 0⟩, ⟨0, 0, 0, 0, 0, 65536, 0, 0⟩] : List TbCfg).all (fun c => !c.wf) = true ∧ TbCfg.wf ⟨255, 255, 255, 255, 65535, 65535, 0, 0⟩ = true := by
  decide +kernel

/-- TrgCfg: a field past its bound is refused, each field at its greatest value is taken. -/
theorem test_wf_trgCfg : ([⟨256, 0, 0, 0, 0, 0, 0, 0⟩, ⟨0, 256, 0, 0, 0, 0, 0, 0⟩, ⟨0, 0, 256, 0, 0, 0, 0, 0⟩, ⟨0, 0, 0, 256, 0, 0, 0, 0⟩, ⟨0, 0, 0, 0, 256, 0,
  0, 0⟩, ⟨0, 0, 0, 0, 0, (2 ^ 32), 0, 0⟩, ⟨0, 0, 0, 0, 0, 0, (2 ^ 64), 0⟩, ⟨0, 0, 0, 0, 0, 0, 0, (2 ^ 32)⟩] : List TrgCfg).all (fun c => !c.wf) = true ∧
  TrgCfg.wf ⟨255, 255, 255, 255, 255, (2 ^ 32 - 1), (2 ^ 64 - 1), (2 ^ 32 - 1)⟩ = true := by decide +kernel

/-- CanFrame: a field past its bound is refused, each field at its greatest value is taken. -/
theorem test_wf_canFrame : ([⟨0, 16, [], false⟩, ⟨0, 0, List.replicate 65 0, false⟩] : List CanFrame).all (fun c => !c.wf) = true ∧ CanFrame.wf ⟨0, 15,
  List.replicate 64 0, false⟩ = true := by decide +kernel

/-- TsnStream: a field past its bound is refused, each field at its greatest value is taken. -/
theorem test_wf_tsnStream : ([⟨65536, 0, 0, List.replicate 16 0, List.replicate 8 0, 0, 0⟩, ⟨0, 256, 0, List.replicate 16 0, List.replicate 8 0, 0, 0⟩, ⟨0, 0,
  256, List.replicate 16 0, List.replicate 8 0, 0, 0⟩, ⟨0, 0, 0, List.replicate 17 0, List.replicate 8 0, 0, 0⟩, ⟨0, 0, 0, List.replicate 15 0, List.replicate
  8 0, 0, 0⟩, ⟨0, 0, 0, List.replicate 16 0, List.replicate 9 0, 0, 0⟩, ⟨0, 0, 0, List.replicate 16 0, List.replicate 7 0, 0, 0⟩, ⟨0, 0, 0, List.replicate 16
  0, List.replicate 8 0, 256, 0⟩, ⟨0, 0, 0, List.replicate 16 0, List.replicate 8 0, 0, 256⟩] : List TsnStream).all (fun c => !c.wf) = true ∧ TsnStream.wf
  ⟨65535, 255, 255, List.replicate 16 0, List.replicate 8 0, 255, 255⟩ = true := by decide +kernel

/-- PartnerId: a field past its bound is refused, each field at its greatest value is taken. -/
theorem test_wf_partnerId : ([⟨(2 ^ 64), false⟩] : List PartnerId).all (fun c => !c.wf) = true ∧ PartnerId.wf ⟨(2 ^ 64 - 1), false⟩ = true := by decide +kernel

/-- Heartbeat: a field past its bound is refused, each field at its greatest value is taken. -/
theorem test_wf_heartbeat : ([⟨4, 0, 0, 0, false, false, false, false⟩, ⟨0, (2 ^ 32), 0, 0, false, false, false, false⟩, ⟨0, 0, (2 ^ 64), 0, false, false,
  false, false⟩, ⟨0, 0, 0, (2 ^ 64), false, false, false, false⟩] : List Heartbeat).all (fun c => !c.wf) = true ∧ Heartbeat.wf ⟨3, (2 ^ 32 - 1), (2 ^ 64 - 1),
  (2 ^ 64 - 1), false, false, false, false⟩ = true := by decide +kernel

/-- PowerSet: a field past its bound is refused, each field at its greatest value is taken. -/
theorem test_wf_powerSet : ([⟨256, 0, 0, 0, 0⟩, ⟨0, 256, 0, 0, 0⟩, ⟨0, 0, 65536, 0, 0⟩, ⟨0, 0, 0, 65536, 0⟩, ⟨0, 0, 0, 0, 256⟩] : List PowerSet).all (fun c =>
  !c.wf) = true ∧ PowerSet.wf ⟨255, 255, 65535, 65535, 255⟩ = true := by decide +kernel

/-- SafeStreamCfg: a field past its bound is refused, each field at its greatest value is taken. -/
theorem test_wf_safeStreamCfg : ([⟨256, false, 0, 0, 0, 0, []⟩, ⟨0, false, 65536, 0, 0, 0, []⟩, ⟨0, false, 0, 65536, 0, 0, []⟩, ⟨0, false, 0, 0, 256, 0, []⟩,
  ⟨0, false, 0, 0, 0, 256, []⟩] : List SafeStreamCfg).all (fun c => !c.wf) = true ∧ SafeStreamCfg.wf ⟨255, false, 65535, 65535, 255, 255, []⟩ = true := by
  decide +kernel

/-- Master: what no part has is refused, the last of each range is taken. -/
theorem test_wf_master : ([⟨8, .core, 0, .user, false, 0⟩, ⟨0, .core, 48, .user, false, 0⟩, ⟨0, .ap, 4, .user, false, 0⟩, ⟨0, .firmware, 9, .machine, false,
  0⟩, ⟨0, .pcie, 1, .user, false, 0⟩, ⟨0, .mirsia, 3, .user, false, 0⟩, ⟨0, .ioDma, 10, .user, false, 0⟩, ⟨0, .ioDma, 15, .user, false, 0⟩, ⟨0, .ioDma, 30,
  .user, false, 0⟩] : List Master).all (fun c => !c.wf) = true ∧
    ([⟨7, .core, 47, .user, false, 0⟩, ⟨7, .ap, 3, .user, false, 0⟩, ⟨7, .firmware, 8, .machine, false, 0⟩, ⟨7, .debug, 0, .user, false, 0⟩, ⟨7, .mirsia, 2,
      .user, false, 0⟩, ⟨7, .ioDma, 9, .user, false, 0⟩, ⟨7, .ioDma, 16, .user, false, 0⟩, ⟨7, .ioDma, 29, .user, false, 0⟩] : List Master).all Master.wf =
      true := by decide +kernel

/-- Handoff: what no part has is refused, the last of each range is taken. -/
theorem test_wf_handoff : ([⟨256, 0, [], [], [], none⟩, ⟨0, 256, [], [], [], none⟩, ⟨0, 0, [⟨65536, 0, []⟩], [], [], none⟩, ⟨0, 0, [⟨0, 65536, []⟩], [], [],
  none⟩] : List Handoff).all (fun c => !c.wf) = true ∧
    ([⟨255, 255, [⟨65535, 65535, [0]⟩], [255], [65535], some (0, 0)⟩] : List Handoff).all Handoff.wf = true := by decide +kernel

/-- ResetTarget: what no part has is refused, the last of each range is taken. -/
theorem test_wf_resetTarget : ([.die 8, .cluster 8 0, .cluster 0 6, .ap 8 0, .ap 0 4] : List ResetTarget).all (fun c => !c.wf) = true ∧
    ([.package, .die 7, .cluster 7 5, .ap 7 3] : List ResetTarget).all ResetTarget.wf = true := by decide +kernel

/-- LockUnit: what no part has is refused, the last of each range is taken. -/
theorem test_wf_lockUnit : ([.ap 8 0, .ap 0 4, .ccc 8 0, .ccc 0 6, .sch 8, .pmc 8, .sec 8] : List LockUnit).all (fun c => !c.wf) = true ∧
    ([.ap 7 3, .ccc 7 5, .sch 7, .pmc 7, .sec 7] : List LockUnit).all LockUnit.wf = true := by decide +kernel

/-- DebugReset: what no part has is refused, the last of each range is taken. -/
theorem test_wf_debugReset : ([.hartreset 8 0, .hartreset 0 4] : List DebugReset).all (fun c => !c.wf) = true ∧
    ([.ndmreset, .hartreset 7 3] : List DebugReset).all DebugReset.wf = true := by decide +kernel

/-- ClkWindow: what no part has is refused, the last of each range is taken. -/
theorem test_wf_clkWindow : ([.xo 65536, .refb 65536] : List ClkWindow).all (fun c => !c.wf) = true ∧
    ([.xo 65535, .refb 65535, .root false] : List ClkWindow).all ClkWindow.wf = true := by decide +kernel

/-- PostedBlk: what no part has is refused, the last of each range is taken. -/
theorem test_wf_postedBlk : ([.can 4, .uart 4] : List PostedBlk).all (fun c => !c.wf) = true ∧
    ([.can 3, .uart 3, .mvb] : List PostedBlk).all PostedBlk.wf = true := by decide +kernel

/-- EccFound: what no part has is refused, the last of each range is taken. -/
theorem test_wf_eccFound : ([.single 512, .double 512] : List EccFound).all (fun c => !c.wf) = true ∧
    ([.clean, .single 511, .double 511] : List EccFound).all EccFound.wf = true := by decide +kernel

/-- SlotRef: what no part has is refused, the last of each range is taken. -/
theorem test_wf_slotRef : ([.core 48 .te, .raster 2] : List SlotRef).all (fun c => !c.wf) = true ∧
    ([.core 47 .seq, .raster 1] : List SlotRef).all SlotRef.wf = true := by decide +kernel

/-- UartEvent: what no part has is refused, the last of each range is taken. -/
theorem test_wf_uartEvent : ([.received 512, .loaded 512] : List UartEvent).all (fun c => !c.wf) = true ∧
    ([.received 511, .loaded 511, .startSending, .stopSent] : List UartEvent).all UartEvent.wf = true := by decide +kernel

/-- MvbTelegram: what no part has is refused, the last of each range is taken. -/
theorem test_wf_mvbTelegram : ([.processReceived 4096 0 [], .processReceived 0 16 [], .processReceived 0 0 (List.replicate 33 0), .processSent 4096,
  .messageReceived (List.replicate 33 0)] : List MvbTelegram).all (fun c => !c.wf) = true ∧
    ([.processReceived 4095 15 (List.replicate 32 0), .processSent 4095, .messageReceived (List.replicate 32 0)] : List MvbTelegram).all MvbTelegram.wf = true
      := by decide +kernel

/-- PcieRequest: what no part has is refused, the last of each range is taken. -/
theorem test_wf_pcieRequest : ([.barRead 2049 0 0 0, .barRead 0 6 0 0, .barRead 0 0 0 4097, .barWrite 2049 0 0 [], .barWrite 0 6 0 [], .busRead (2 ^ 64) 0,
  .busRead 0 4097, .busWrite (2 ^ 64) []] : List PcieRequest).all (fun c => !c.wf) = true ∧
    ([.barRead 2048 5 0 4096, .barWrite 2048 5 0 [], .busRead (2 ^ 64 - 1) 4096, .atomic] : List PcieRequest).all PcieRequest.wf = true := by decide +kernel

/-- XspiCmd: what no part has is refused, the last of each range is taken. -/
theorem test_wf_xspiCmd : ([.read 2 0 0 0, .read 0 (2 ^ 32) 0 0, .read 0 0 (2 ^ 48) 0, .read 0 0 0 (2 ^ 32), .program 2 0 0 0, .program 0 (2 ^ 32) 0 0,
  .program 0 0 (2 ^ 48) 0, .program 0 0 0 (2 ^ 32), .erase 2 0 0, .erase 0 (2 ^ 32) 0, .erase 0 0 (2 ^ 32)] : List XspiCmd).all (fun c => !c.wf) = true ∧
    ([.read 1 (2 ^ 32 - 1) (2 ^ 48 - 1) (2 ^ 32 - 1), .erase 1 (2 ^ 32 - 1) (2 ^ 32 - 1)] : List XspiCmd).all XspiCmd.wf = true := by decide +kernel

/-- FbrAtomic: what no part has is refused, the last of each range is taken. -/
theorem test_wf_fbrAtomic : ([.amo 32 0 false] : List FbrAtomic).all (fun c => !c.wf) = true ∧
    ([.amo 31 0 true, .lr true, .sc 0 true] : List FbrAtomic).all FbrAtomic.wf = true := by decide +kernel

/-- Reset, strap sensing and option loading: an ill-formed term for each check of a row is refused; each row with its fields at their greatest value is taken.
  -/
theorem test_wf_reset_strap_sensing_and_option_loading :
    ([.brownOut 8, .watchdogExpiry 8, .rstWdtKickWrite badMaster 0 0, .rstWdtKickWrite sch 8 0, .rstSwreqWrite badMaster 0 0, .rstSwreqWrite sch 8 0,
      .debugResetRequest (.hartreset 8 0), .lockUp (.sch 8), .holdoffEnd (.die 8), .trimLoadEnd 8 false (List.replicate 8 0), .trimLoadEnd 0 false
      (List.replicate 7 0 ++ [64]), .trimLoadEnd 0 false (List.replicate 9 0), .trimLoadEnd 0 false (List.replicate 7 0), .dramTrainingEnd 8, .fabricUp (.die
      8), .firmwareStart (.die 8), .rstctlForceWrite badMaster 0 0, .rstctlForceWrite sch 8 0, .forcedGroupClockStable 8 0, .forcedGroupClockStable 0 20,
      .resetRequest fwReq 256 0 0, .resetRequest fwReq 0 256 0, .resetRequest fwReq 0 0 256, .resetQuery fwReq 256, .optWrite fwReq (2 ^ 32) (List.replicate
      256 0), .optWrite fwReq 0 (List.replicate 257 0), .optWrite fwReq 0 (List.replicate 255 0), .rstStatusRead badMaster 0, .rstStatusRead sch 8] : List
      Instr).all (fun i => !i.wf) = true ∧
    ([.brownOut 7, .watchdogExpiry 7, .rstWdtKickWrite sch 7 0, .rstSwreqWrite sch 7 0, .debugResetRequest .ndmreset, .lockUp (.sch 0), .holdoffEnd .package,
      .trimLoadEnd 7 false (List.replicate 7 0 ++ [63]), .dramTrainingEnd 7, .fabricUp .package, .firmwareStart .package, .rstctlForceWrite sch 7 0,
      .forcedGroupClockStable 7 19, .resetRequest fwReq 255 255 255, .resetQuery fwReq 255, .optWrite fwReq (2 ^ 32 - 1) (List.replicate 256 0), .rstStatusRead
      sch 7] : List Instr).all Instr.wf = true := by decide +kernel

/-- Clock generation, spreading and monitoring: an ill-formed term for each check of a row is refused; each row with its fields at their greatest value is
  taken. -/
theorem test_wf_clock_generation_spreading_and_monitorin :
    ([.clkmonWindowEnd 8 (.root true), .clkmonWindowEnd 0 (.xo 65536), .clkAckWrite badMaster 0 0, .clkAckWrite sch 8 0, .dividerRampStep 8 0, .dividerRampStep
      0 5, .clkDivTargetWrite badMaster 0 0 0, .clkDivTargetWrite sch 8 0 0, .clkDivTargetWrite sch 0 5 0, .clkCtrlRestore badMaster 0 0, .clkCtrlRestore sch 8
      0, .clkQuery fwReq 256, .clkSpread fwReq 256] : List Instr).all (fun i => !i.wf) = true ∧
    ([.clkmonWindowEnd 7 (.root true), .clkAckWrite sch 7 0, .dividerRampStep 7 4, .clkDivTargetWrite sch 7 4 0, .clkCtrlRestore sch 7 0, .clkQuery fwReq 255,
      .clkSpread fwReq 255] : List Instr).all Instr.wf = true := by decide +kernel

/-- Claims and pins: an ill-formed term for each check of a row is refused; each row with its fields at their greatest value is taken. -/
theorem test_wf_claims_and_pins :
    ([.claim fwReq ⟨256, 0, 0, 0, 0⟩, .release fwReq ⟨256, 0, 0, 0, 0⟩, .pinConfig fwReq 256 0 0, .pinConfig fwReq 0 65536 0, .pinQuery fwReq 256 0, .pinQuery
      fwReq 0 65536, .pincfgWrite badMaster 0 0 0, .pincfgWrite sch 8 0 0, .pincfgWrite sch 0 768 0, .pinmuxOvrWrite badMaster 0 0, .pinmuxOvrWrite sch 8 0] :
      List Instr).all (fun i => !i.wf) = true ∧
    ([.claim fwReq ⟨0, 0, 0, 0, 0⟩, .release fwReq ⟨0, 0, 0, 0, 0⟩, .pinConfig fwReq 255 65535 0, .pinQuery fwReq 255 65535, .pincfgWrite sch 7 767 0,
      .pinmuxOvrWrite sch 7 0] : List Instr).all Instr.wf = true := by decide +kernel

/-- Register behaviour: an ill-formed term for each check of a row is refused; each row with its fields at their greatest value is taken. -/
theorem test_wf_register_behaviour :
    ([.registerWrite badMaster 0 0 0, .registerWrite sch (2 ^ 48) 0 0, .registerWrite sch 0 9 0, .postedWriteComplete 8 .rstctl, .postedWriteComplete 0 (.can
      4), .pairLoRead badMaster 0, .pairLoRead sch (2 ^ 48), .pairHiRead badMaster 0, .pairHiRead sch (2 ^ 48), .pairLoWrite badMaster 0 0, .pairLoWrite sch (2
      ^ 48) 0, .pairHiWrite badMaster 0 0, .pairHiWrite sch (2 ^ 48) 0, .rcRegisterRead badMaster 0 0 0, .rcRegisterRead sch (2 ^ 48) 0 0, .rcRegisterRead sch
      0 9 0, .fabStatusRead badMaster 0, .fabStatusRead sch 8] : List Instr).all (fun i => !i.wf) = true ∧
    ([.registerWrite sch (2 ^ 48 - 1) 8 0, .postedWriteComplete 7 .rstctl, .pairLoRead sch (2 ^ 48 - 1), .pairHiRead sch (2 ^ 48 - 1), .pairLoWrite sch (2 ^ 48
      - 1) 0, .pairHiWrite sch (2 ^ 48 - 1) 0, .rcRegisterRead sch (2 ^ 48 - 1) 8 0, .fabStatusRead sch 7] : List Instr).all Instr.wf = true := by
      decide +kernel

/-- Mailboxes and sessions: an ill-formed term for each check of a row is refused; each row with its fields at their greatest value is taken. -/
theorem test_wf_mailboxes_and_sessions :
    ([.mbReqTailWrite badMaster 0 0 [], .mbRspHeadWrite badMaster 0 0, .mbNotifyWrite badMaster 0 0, .hello fwReq 256 0 0, .hello fwReq 0 256 0, .hello fwReq 0
      0 (2 ^ 128), .ping fwReq (List.replicate 65 0), .eventMask fwReq (2 ^ 256) 0 0, .eventMask fwReq 0 256 0, .eventMask fwReq 0 0 65536] : List Instr).all
      (fun i => !i.wf) = true ∧
    ([.mbReqTailWrite sch 0 0 [], .mbRspHeadWrite sch 0 0, .mbNotifyWrite sch 0 0, .hello fwReq 255 255 (2 ^ 128 - 1), .ping fwReq (List.replicate 64 0),
      .eventMask fwReq (2 ^ 256 - 1) 255 65535] : List Instr).all Instr.wf = true := by decide +kernel

/-- Live update: an ill-formed term for each check of a row is refused; each row with its fields at their greatest value is taken. -/
theorem test_wf_live_update :
    ([.fwStage fwReq (2 ^ 64) 0, .fwStage fwReq 0 (2 ^ 32), .fwActivate fwReq 256 0 0 0, .fwActivate fwReq 0 256 0 0, .fwActivate fwReq 0 0 256 0, .fwActivate
      fwReq 0 0 0 256, .handoffPoint ⟨256, 0, [], [1], [], none⟩] : List Instr).all (fun i => !i.wf) = true ∧
    ([.fwStage fwReq (2 ^ 64 - 1) (2 ^ 32 - 1), .fwActivate fwReq 255 255 255 255, .handoffPoint ⟨1, 0, [], [1], [], none⟩] : List Instr).all Instr.wf = true
      := by decide +kernel

/-- Granary, Loft and LPDDR5X memory: an ill-formed term for each check of a row is refused; each row with its fields at their greatest value is taken. -/
theorem test_wf_granary_loft_and_lpddr5x_memory :
    ([.eccCorrectionWriteback 4096 0 0 0 false, .eccCorrectionWriteback 0 (2 ^ 48) 0 0 false, .eccCorrectionWriteback 0 0 512 0 false, .eccCorrectionWriteback
      0 0 0 8 false, .scrubRead 8 0 .clean, .scrubRead 0 7 .clean, .scrubRead 0 0 (.single 512), .dramReread 4096 0 0 0 0 0 false, .dramReread 0 (2 ^ 48) 0 0 0
      0 false, .dramReread 0 0 8 0 0 0 false, .dramReread 0 0 0 8 0 0 false, .dramReread 0 0 0 0 4 0 false, .dramReread 0 0 0 0 0 3 false, .eccCountCollect 8,
      .dramPowerDownEntry 8 0, .dramPowerDownEntry 0 8, .spillStart 8 0 0, .spillStart 0 16 0, .spillStart 0 0 6, .spillCopyEnd 8 0 0, .spillCopyEnd 0 16 0,
      .spillCopyEnd 0 0 6, .refillCopyEnd 8 0 0, .refillCopyEnd 0 16 0, .refillCopyEnd 0 0 6, .grnQuotaWrite badMaster 0 0 0 0, .grnQuotaWrite sch 8 0 0 0,
      .grnQuotaWrite sch 0 16 0 0, .grnQuotaWrite sch 0 0 6 0, .loftMapWrite badMaster 0 0, .loftMapWrite sch 8 0, .loftScratchWrite badMaster 0 0 0,
      .loftScratchWrite sch 8 0 0, .loftScratchWrite sch 0 16 0, .grnDramStatusRead badMaster 0 false, .grnDramStatusRead sch 8 false, .memQuota fwReq 256 0 0
      0, .memQuota fwReq 0 256 0 0, .memQuota fwReq 0 0 256 0, .memQuota fwReq 0 0 0 65536] : List Instr).all (fun i => !i.wf) = true ∧
    ([.memAlloc fwReq 256 0 0 0 0, .memAlloc fwReq 0 256 0 0 0, .memAlloc fwReq 0 0 256 0 0, .memAlloc fwReq 0 0 0 256 0, .memAlloc fwReq 0 0 0 0 (2 ^ 32),
      .memLoftMap fwReq 256 0 0, .memLoftMap fwReq 0 256 0, .memLoftMap fwReq 0 0 256, .memEccQuery fwReq 256] : List Instr).all (fun i => !i.wf) = true ∧
    ([.eccCorrectionWriteback 4095 (2 ^ 48 - 1) 511 7 false, .scrubRead 7 6 .clean, .dramReread 4095 (2 ^ 48 - 1) 7 7 3 2 false, .eccCountCollect 7,
      .dramPowerDownEntry 7 7, .spillStart 7 15 5, .spillCopyEnd 7 15 5, .refillCopyEnd 7 15 5, .grnQuotaWrite sch 7 15 5 0, .loftMapWrite sch 7 0,
      .loftScratchWrite sch 7 15 0, .grnDramStatusRead sch 7 false, .memQuota fwReq 255 255 255 65535, .memAlloc fwReq 255 255 255 255 (2 ^ 32 - 1),
      .memLoftMap fwReq 255 255 255, .memEccQuery fwReq 255] : List Instr).all Instr.wf = true := by decide +kernel

/-- Tensor engine: an ill-formed term for each check of a row is refused; each row with its fields at their greatest value is taken. -/
theorem test_wf_tensor_engine :
    ([.matmul 8 0, .matmul 0 48, .conv 8 0, .conv 0 48, .attend 8 0, .attend 0 48, .kvAppend 8 0, .kvAppend 0 48, .kvFork 8 0, .kvFork 0 48, .kvRelease 8 0,
      .kvRelease 0 48] : List Instr).all (fun i => !i.wf) = true ∧
    ([.matmul 7 47, .conv 7 47, .attend 7 47, .kvAppend 7 47, .kvFork 7 47, .kvRelease 7 47] : List Instr).all Instr.wf = true := by decide +kernel

/-- Vector engine: an ill-formed term for each check of a row is refused; each row with its fields at their greatest value is taken. -/
theorem test_wf_vector_engine :
    ([.unary 8 0, .unary 0 48, .binary 8 0, .binary 0 48, .reduce 8 0, .reduce 0 48, .softmax 8 0, .softmax 0 48, .norm 8 0, .norm 0 48, .convert 8 0, .convert
      0 48, .dwconv 8 0, .dwconv 0 48, .pool 8 0, .pool 0 48, .resample 8 0, .resample 0 48] : List Instr).all (fun i => !i.wf) = true ∧
    ([.unary 7 47, .binary 7 47, .reduce 7 47, .softmax 7 47, .norm 7 47, .convert 7 47, .dwconv 7 47, .pool 7 47, .resample 7 47] : List Instr).all Instr.wf =
      true := by decide +kernel

/-- Traversal engine: an ill-formed term for each check of a row is refused; each row with its fields at their greatest value is taken. -/
theorem test_wf_traversal_engine :
    ([.gather 8 0, .gather 0 48, .neighbours 8 0, .neighbours 0 48, .setOp 8 0, .setOp 0 48, .hashBuild 8 0, .hashBuild 0 48, .hashProbe 8 0, .hashProbe 0 48,
      .radixSort 8 0, .radixSort 0 48, .segReduce 8 0, .segReduce 0 48, .scatter 8 0, .scatter 0 48, .frontier 8 0, .frontier 0 48] : List Instr).all (fun i =>
      !i.wf) = true ∧
    ([.gather 7 47, .neighbours 7 47, .setOp 7 47, .hashBuild 7 47, .hashProbe 7 47, .radixSort 7 47, .segReduce 7 47, .scatter 7 47, .frontier 7 47] : List
      Instr).all Instr.wf = true := by decide +kernel

/-- Command sequencer: an ill-formed term for each check of a row is refused; each row with its fields at their greatest value is taken. -/
theorem test_wf_command_sequencer :
    ([.copy 8 0, .copy 0 48, .nop 8 0, .nop 0 48, .signal 8 0, .signal 0 48] : List Instr).all (fun i => !i.wf) = true ∧
    ([.copy 7 47, .nop 7 47, .signal 7 47] : List Instr).all Instr.wf = true := by decide +kernel

/-- Raster units: an ill-formed term for each check of a row is refused; each row with its fields at their greatest value is taken. -/
theorem test_wf_raster_units :
    ([.render 8 0, .render 0 2, .fastClear 8 0, .fastClear 0 2, .expand 8 0, .expand 0 2, .shadingBatch 8 0 0, .shadingBatch 0 48 0, .shadingBatch 0 0 2] :
      List Instr).all (fun i => !i.wf) = true ∧
    ([.render 7 1, .fastClear 7 1, .expand 7 1, .shadingBatch 7 47 1] : List Instr).all Instr.wf = true := by decide +kernel

/-- Engine queries and the key-value messages: an ill-formed term for each check of a row is refused; each row with its fields at their greatest value is
  taken. -/
theorem test_wf_engine_queries_and_the_key_value_message :
    ([.teQuery fwReq 256 0 0, .teQuery fwReq 0 256 0, .teQuery fwReq 0 0 256, .veQuery fwReq 256 0 0, .veQuery fwReq 0 256 0, .veQuery fwReq 0 0 256, .xeQuery
      fwReq 256 0 0, .xeQuery fwReq 0 256 0, .xeQuery fwReq 0 0 256, .winQuery fwReq 256 0 0, .winQuery fwReq 0 256 0, .winQuery fwReq 0 0 256, .kvPoolCreate
      fwReq 0 65536, .kvSeqCreate fwReq ⟨0, 256, 0, 0, 0, 0, 0, 0, 0⟩, .kvSeqSet fwReq 0 65536 0 0 0 false, .kvSeqSet fwReq 0 0 65536 0 0 false, .kvSeqSet
      fwReq 0 0 0 65536 0 false, .kvSeqSet fwReq 0 0 0 0 65536 false] : List Instr).all (fun i => !i.wf) = true ∧
    ([.teQuery fwReq 255 255 255, .veQuery fwReq 255 255 255, .xeQuery fwReq 255 255 255, .winQuery fwReq 255 255 255, .kvPoolCreate fwReq 0 65535,
      .kvSeqCreate fwReq ⟨0, 0, 0, 0, 0, 0, 0, 0, 0⟩, .kvSeqSet fwReq 0 65535 65535 65535 65535 false] : List Instr).all Instr.wf = true := by decide +kernel

/-- Queues, sheaves and scheduling: an ill-formed term for each check of a row is refused; each row with its fields at their greatest value is taken. -/
theorem test_wf_queues_sheaves_and_scheduling :
    ([.qdbSqTailWrite badMaster 0 0 [], .qdbSqTailWrite sch (2 ^ 19) 0 [], .qdbCqHeadWrite badMaster 0 0, .qdbCqHeadWrite sch (2 ^ 19) 0, .sheafFetch (2 ^ 19),
      .sheafReady (2 ^ 19) 0, .sheafReady 0 (2 ^ 32), .commandPlace 8, .commandCommit 8 (.raster 0), .commandCommit 0 (.raster 2), .quantumBoundary 8 0,
      .quantumBoundary 0 16, .coresGuaranteeCheck 8 0, .coresGuaranteeCheck 0 16, .displayReserveStart 8 0, .displayReserveStart 0 16, .siloSpanAck 16 0,
      .siloSpanAck 0 256, .qCreate fwReq ⟨256, 0, 0, 0, 0, 0, 0, 0, 0⟩, .siloSet fwReq 256 0 ⟨0, 0, 0, 0, 0, 0, 0, 0, false⟩, .siloSet fwReq 0 256 ⟨0, 0, 0, 0,
      0, 0, 0, 0, false⟩, .siloSet fwReq 0 0 ⟨256, 0, 0, 0, 0, 0, 0, 0, false⟩, .siloQuery fwReq 256 0, .siloQuery fwReq 0 256, .siloSpan fwReq 256 0,
      .siloSpan fwReq 0 256, .schQctlEnable badMaster 0 0, .schQctlEnable sch 8 0, .schQctlEnable sch 0 (2 ^ 19), .schQctlDisable badMaster 0 0,
      .schQctlDisable sch 8 0, .schQctlDisable sch 0 (2 ^ 19), .schQctlDrain badMaster 0 0, .schQctlDrain sch 8 0, .schQctlDrain sch 0 (2 ^ 19)] : List
      Instr).all (fun i => !i.wf) = true ∧
    ([.qdbSqTailWrite sch (2 ^ 19 - 1) 0 [], .qdbCqHeadWrite sch (2 ^ 19 - 1) 0, .sheafFetch (2 ^ 19 - 1), .sheafReady (2 ^ 19 - 1) (2 ^ 32 - 1), .commandPlace
      7, .commandCommit 7 (.raster 0), .quantumBoundary 7 15, .coresGuaranteeCheck 7 15, .displayReserveStart 7 15, .siloSpanAck 15 255, .qCreate fwReq ⟨0, 0,
      0, 0, 0, 0, 0, 0, 0⟩, .siloSet fwReq 255 255 ⟨0, 0, 0, 0, 0, 0, 0, 0, false⟩, .siloQuery fwReq 255 255, .siloSpan fwReq 255 255, .schQctlEnable sch 7 (2
      ^ 19 - 1), .schQctlDisable sch 7 (2 ^ 19 - 1), .schQctlDrain sch 7 (2 ^ 19 - 1)] : List Instr).all Instr.wf = true := by decide +kernel

/-- Virtual functions and migration: an ill-formed term for each check of a row is refused; each row with its fields at their greatest value is taken. -/
theorem test_wf_virtual_functions_and_migration :
    ([.fnConfig fwReq 65536 0 0 0 0, .fnConfig fwReq 0 256 0 0 0, .fnConfig fwReq 0 0 65536 0 0, .fnConfig fwReq 0 0 0 256 0, .fnConfig fwReq 0 0 0 0 (2 ^ 64),
      .fnReset fwReq 65536, .fnQuery fwReq 65536, .fnQmap fwReq 65536 0, .fnQmap fwReq 0 65536, .fnGlobal fwReq 256 0, .fnGlobal fwReq 0 256, .fnFreeze fwReq
      65536, .fnSave fwReq 65536 0 0 0, .fnSave fwReq 0 256 0 0, .fnSave fwReq 0 0 (2 ^ 32) 0, .fnSave fwReq 0 0 0 (2 ^ 64), .fnRestore fwReq 65536 0 0 0
      (List.replicate 8 0), .fnRestore fwReq 0 256 0 0 (List.replicate 8 0), .fnRestore fwReq 0 0 (2 ^ 32) 0 (List.replicate 8 0), .fnRestore fwReq 0 0 0 (2 ^
      64) (List.replicate 8 0), .fnRestore fwReq 0 0 0 0 (List.replicate 9 0), .fnRestore fwReq 0 0 0 0 (List.replicate 7 0), .fnRestore fwReq 0 0 0 0
      (List.replicate 7 0 ++ [256]), .fnThaw fwReq 65536, .fnDiscard fwReq 65536, .functionLevelReset 2 none, .fnResetRegWrite badMaster 0 0, .fnResetRegWrite
      sch 2049 0, .fnCfgWrite badMaster 0 0, .fnCfgWrite sch 2049 0, .numvfsWrite 2 0 false, .numvfsWrite 0 65536 false, .genDrainEnd 2049, .functionResetEnd
      2049] : List Instr).all (fun i => !i.wf) = true ∧
    ([.fnConfig fwReq 65535 255 65535 255 (2 ^ 64 - 1), .fnReset fwReq 65535, .fnQuery fwReq 65535, .fnQmap fwReq 65535 65535, .fnGlobal fwReq 255 255,
      .fnFreeze fwReq 65535, .fnSave fwReq 65535 255 (2 ^ 32 - 1) (2 ^ 64 - 1), .fnRestore fwReq 65535 255 (2 ^ 32 - 1) (2 ^ 64 - 1) (List.replicate 7 0 ++
      [255]), .fnThaw fwReq 65535, .fnDiscard fwReq 65535, .functionLevelReset 1 none, .fnResetRegWrite sch 2048 0, .fnCfgWrite sch 2048 0, .numvfsWrite 1
      65535 false, .genDrainEnd 2048, .functionResetEnd 2048] : List Instr).all Instr.wf = true := by decide +kernel

/-- Display engine and the graphics messages: an ill-formed term for each check of a row is refused; each row with its fields at their greatest value is taken.
  -/
theorem test_wf_display_engine_and_the_graphics_messages :
    ([.verticalBlank 4, .scanoutTileRowDue 4 false, .hpdChange 4 false, .headImgHiWrite badMaster 0 0, .headImgHiWrite sch 4 0, .headCtrlEnWrite badMaster 0 0,
      .headCtrlEnWrite sch 4 0, .rasStookSet fwReq 256 0 0 0, .rasStookSet fwReq 0 256 0 0, .rasStookSet fwReq 0 0 256 0, .rasStookSet fwReq 0 0 0 (2 ^ 64),
      .rasQuery fwReq 256, .dispMode fwReq ⟨256, 0, 0, 0, 0, 0, 0, 0, 0, 0⟩ none, .dispFlip fwReq 256 0, .dispFlip fwReq 0 (2 ^ 64), .dispQuery fwReq 256,
      .dispOff fwReq 256] : List Instr).all (fun i => !i.wf) = true ∧
    ([.verticalBlank 3, .scanoutTileRowDue 3 false, .hpdChange 3 false, .headImgHiWrite sch 3 0, .headCtrlEnWrite sch 3 0, .rasStookSet fwReq 255 255 255 (2 ^
      64 - 1), .rasQuery fwReq 255, .dispMode fwReq ⟨0, 0, 0, 0, 0, 0, 0, 0, 0, 0⟩ none, .dispFlip fwReq 255 (2 ^ 64 - 1), .dispQuery fwReq 255, .dispOff fwReq
      255] : List Instr).all Instr.wf = true := by decide +kernel

/-- Camera ingest and odometry: an ill-formed term for each check of a row is refused; each row with its fields at their greatest value is taken. -/
theorem test_wf_camera_ingest_and_odometry :
    ([.csiShortPacket 8 0 ⟨0, 0, 0, 0⟩ 0, .csiShortPacket 0 8 ⟨0, 0, 0, 0⟩ 0, .csiShortPacket 0 0 ⟨0, 64, 0, 0⟩ 0, .csiShortPacket 0 0 ⟨0, 0, 0, 0⟩ 65536,
      .csiLongPacket 8 0 ⟨0, 0, 0, 0⟩ [] false, .csiLongPacket 0 8 ⟨0, 0, 0, 0⟩ [] false, .csiLongPacket 0 0 ⟨0, 64, 0, 0⟩ [] false, .gvspPacket 8 0 (.trailer
      0), .gvspPacket 0 65536 (.trailer 0), .frameComplete 8 0, .frameComplete 0 128, .goldenCopyEnd 8 0, .goldenCopyEnd 0 128, .strCfgWrite badMaster 0 0 0 0,
      .strCfgWrite sch 8 0 0 0, .strCfgWrite sch 0 128 0 0, .strCfgWrite sch 0 0 128 0, .odoEdgeAccept 4 false false, .odoZEdge 4, .tachEdge 4 0, .tachEdge 0
      (2 ^ 32), .odoDistWrite badMaster 0 0, .odoDistWrite sch 4 0, .camRxSet fwReq 256 0 0 0 0, .camRxSet fwReq 0 256 0 0 0, .camRxSet fwReq 0 0 256 0 0,
      .camRxSet fwReq 0 0 0 256 0, .camRxSet fwReq 0 0 0 0 65536, .camStreamSet fwReq 256 0 (List.replicate 16 0), .camStreamSet fwReq 0 256 (List.replicate 16
      0), .camStreamSet fwReq 0 0 (List.replicate 17 0), .camStreamSet fwReq 0 0 (List.replicate 15 0), .camStreamQuery fwReq 256 0, .camStreamQuery fwReq 0
      256, .odoSet fwReq 256 0 0 0, .odoPreset fwReq 256 0, .odoQuery fwReq 256, .tachSet fwReq 256 0] : List Instr).all (fun i => !i.wf) = true ∧
    ([.csiShortPacket 7 7 ⟨0, 0, 0, 0⟩ 65535, .csiLongPacket 7 7 ⟨0, 0, 0, 0⟩ [] false, .gvspPacket 7 65535 (.trailer 0), .frameComplete 7 127, .goldenCopyEnd
      7 127, .strCfgWrite sch 7 127 127 0, .odoEdgeAccept 3 false false, .odoZEdge 3, .tachEdge 3 (2 ^ 32 - 1), .odoDistWrite sch 3 0, .camRxSet fwReq 255 255
      255 255 65535, .camStreamSet fwReq 255 255 (List.replicate 16 0), .camStreamQuery fwReq 255 255, .odoSet fwReq 255 0 0 0, .odoPreset fwReq 255 0,
      .odoQuery fwReq 255, .tachSet fwReq 255 0] : List Instr).all Instr.wf = true := by decide +kernel

/-- Time bases and triggers: an ill-formed term for each check of a row is refused; each row with its fields at their greatest value is taken. -/
theorem test_wf_time_bases_and_triggers :
    ([.holdoverTimeout 8, .timeTriggerFire 32, .triggerPulseEnd 32, .cmp32Match 8, .tscapEdge 8 0 false, .tscapEdge 0 32 false, .tbAdjWrite badMaster 0 0,
      .tbAdjWrite sch 8 0, .tbOffsetHiWrite badMaster 0 0, .tbOffsetHiWrite sch 8 0, .tbSetnsecWrite badMaster 0 0, .tbSetnsecWrite sch 8 0, .trgCfgWrite
      badMaster 0 0 0, .trgCfgWrite sch 32 0 0, .trgCfgWrite sch 0 32 0, .cmp32NsecWrite badMaster 0 0, .cmp32NsecWrite sch 8 0, .tbQuery fwReq 256, .tbSet
      fwReq ⟨256, 0, 0, 0, 0, 0, 0, 0⟩, .tbOffset fwReq 256 0, .tbStep fwReq 256 0 0, .tbStep fwReq 0 (2 ^ 64) 0, .tbStep fwReq 0 0 (2 ^ 32), .ppsOutSet fwReq
      256 0 0, .ppsOutSet fwReq 0 256 0, .ppsOutSet fwReq 0 0 (2 ^ 32), .trgSet fwReq ⟨256, 0, 0, 0, 0, 0, 0, 0⟩, .trgQuery fwReq 256, .tscapSet fwReq 256 0 0
      0 0, .tscapSet fwReq 0 256 0 0 0, .tscapSet fwReq 0 0 256 0 0, .tscapSet fwReq 0 0 0 256 0, .tscapSet fwReq 0 0 0 0 256, .tscapRead fwReq 256 0,
      .tscapRead fwReq 0 256, .cmp32Set fwReq 256 0 0 0 0, .cmp32Set fwReq 0 256 0 0 0, .cmp32Set fwReq 0 0 256 0 0, .cmp32Set fwReq 0 0 0 (2 ^ 32) 0,
      .cmp32Set fwReq 0 0 0 0 (2 ^ 32)] : List Instr).all (fun i => !i.wf) = true ∧
    ([.holdoverTimeout 7, .timeTriggerFire 31, .triggerPulseEnd 31, .cmp32Match 7, .tscapEdge 7 31 false, .tbAdjWrite sch 7 0, .tbOffsetHiWrite sch 7 0,
      .tbSetnsecWrite sch 7 0, .trgCfgWrite sch 31 31 0, .cmp32NsecWrite sch 7 0, .tbQuery fwReq 255, .tbSet fwReq ⟨0, 0, 0, 0, 0, 0, 0, 0⟩, .tbOffset fwReq
      255 0, .tbStep fwReq 255 (2 ^ 64 - 1) (2 ^ 32 - 1), .ppsOutSet fwReq 255 255 (2 ^ 32 - 1), .trgSet fwReq ⟨0, 0, 0, 0, 0, 0, 0, 0⟩, .trgQuery fwReq 255,
      .tscapSet fwReq 255 255 255 255 255, .tscapRead fwReq 255 255, .cmp32Set fwReq 255 255 255 (2 ^ 32 - 1) (2 ^ 32 - 1)] : List Instr).all Instr.wf = true
      := by decide +kernel

/-- Gateway ports, PCI Express and bridges: an ill-formed term for each check of a row is refused; each row with its fields at their greatest value is taken. -/
theorem test_wf_gateway_ports_pci_express_and_bridges :
    ([.ethFrameRx 8 0 [] false, .ethFrameRx 0 6 [] false, .ethFrameTx 8 0, .ethFrameTx 0 6, .gclEntryEnd 8 0, .gclEntryEnd 0 7, .cpuTxDescriptor 8 0,
      .cpuTxDescriptor 0 16, .canFrameRx 8 0 ⟨0, 0, [], false⟩, .canFrameRx 0 4 ⟨0, 0, [], false⟩, .canFrameRx 0 0 ⟨0, 16, [], false⟩, .canBusoffRejoin 8 0,
      .canBusoffRejoin 0 4, .uartCharacter 8 0 .stopSent, .uartCharacter 0 4 .stopSent, .uartCharacter 0 0 (.received 512), .mvbTelegram 8 .messageSent,
      .mvbTelegram 0 (.processSent 4096), .pcieLinkTraining 2 none, .pcieInboundRequest 2 .atomic, .pcieInboundRequest 0 (.busRead (2 ^ 64) 0), .pcieAerError 2
      0 0 (List.replicate 4 0), .pcieAerError 0 0 0 (List.replicate 5 0), .pcieAerError 0 0 0 (List.replicate 3 0), .mirsiaRetrain 8 0 false 0, .mirsiaRetrain
      0 3 false 0, .mirsiaRetrain 0 0 false 256, .xspiCommand badMaster (.erase 0 0 0), .xspiCommand sch (.erase 2 0 0), .postedWriteFail 8 .rstctl 0,
      .postedWriteFail 0 (.can 4) 0, .postedWriteFail 0 .rstctl 4, .fbrReadRelease 8, .fbrHeadOnRetry 8 0, .fbrHeadOnRetry 0 10, .fbrSemTimeout 8,
      .fbrSemReleaseWrite badMaster 0 0, .fbrSemReleaseWrite sch 8 0, .fbrAtomicEmulation badMaster 0 (.lr false), .fbrAtomicEmulation sch (2 ^ 48) (.lr
      false)] : List Instr).all (fun i => !i.wf) = true ∧
    ([.fbrAtomicEmulation sch 0 (.amo 32 0 false), .fbrStatusRead badMaster 0, .fbrStatusRead sch 8, .ethPortSet fwReq 256 0 0 0 0 0 0, .ethPortSet fwReq 0 256
      0 0 0 0 0, .ethPortSet fwReq 0 0 256 0 0 0 0, .ethPortSet fwReq 0 0 0 256 0 0 0, .ethPortSet fwReq 0 0 0 0 256 0 0, .ethPortSet fwReq 0 0 0 0 0 256 0,
      .ethPortSet fwReq 0 0 0 0 0 0 256, .ethPortQuery fwReq 256 0, .ethPortQuery fwReq 0 256, .tsnGclSet fwReq 256 0 0 0 0 [], .tsnGclSet fwReq 0 256 0 0 0
      [], .tsnGclSet fwReq 0 0 256 0 0 [], .tsnGclSet fwReq 0 0 0 (2 ^ 32) 0 [], .tsnGclSet fwReq 0 0 0 0 (2 ^ 64) [], .tsnGclSet fwReq 0 0 0 0 0 [(256, 0)],
      .tsnGclSet fwReq 0 0 0 0 0 [(0, 2 ^ 32)], .tsnStreamSet fwReq ⟨65536, 0, 0, List.replicate 16 0, List.replicate 8 0, 0, 0⟩, .ptpDomainSet fwReq 256 0 0
      0, .ptpDomainSet fwReq 0 256 0 0, .ptpDomainSet fwReq 0 0 256 0, .ptpDomainSet fwReq 0 0 0 256, .ethTrapSet fwReq 256 0 0 0 0 0 0, .ethTrapSet fwReq 0
      256 0 0 0 0 0, .ethTrapSet fwReq 0 0 256 0 0 0 0, .ethTrapSet fwReq 0 0 0 256 0 0 0, .ethTrapSet fwReq 0 0 0 0 65536 0 0, .ethTrapSet fwReq 0 0 0 0 0 (2
      ^ 48) 0, .ethTrapSet fwReq 0 0 0 0 0 0 256, .canSet fwReq 256 0 0 0, .canSet fwReq 0 256 0 0, .uartSet fwReq 256 0 0, .uartSet fwReq 0 256 0, .mvbSet
      fwReq 256 0 0 0 0, .mvbSet fwReq 0 256 0 0 0, .mvbSet fwReq 0 0 256 0 0, .mvbSet fwReq 0 0 0 256 0, .mvbSet fwReq 0 0 0 0 65536] : List Instr).all (fun i
      => !i.wf) = true ∧
    ([.pcieSet fwReq 256 0 0 0, .pcieSet fwReq 0 256 0 0, .pcieSet fwReq 0 0 256 0, .pcieSet fwReq 0 0 0 256, .fbrQuery fwReq 256 0, .fbrQuery fwReq 0 256] :
      List Instr).all (fun i => !i.wf) = true ∧
    ([.ethFrameRx 7 5 [] false, .ethFrameTx 7 5, .gclEntryEnd 7 6, .cpuTxDescriptor 7 15, .canFrameRx 7 3 ⟨0, 0, [], false⟩, .canBusoffRejoin 7 3,
      .uartCharacter 7 3 .stopSent, .mvbTelegram 7 .messageSent, .pcieLinkTraining 1 none, .pcieInboundRequest 1 .atomic, .pcieAerError 1 0 0 (List.replicate 4
      0), .mirsiaRetrain 7 2 false 255, .xspiCommand sch (.erase 0 0 0), .postedWriteFail 7 .rstctl 3, .fbrReadRelease 7, .fbrHeadOnRetry 7 9, .fbrSemTimeout
      7, .fbrSemReleaseWrite sch 7 0, .fbrAtomicEmulation sch (2 ^ 48 - 1) (.lr false), .fbrStatusRead sch 7, .ethPortSet fwReq 255 255 255 255 255 255 255,
      .ethPortQuery fwReq 255 255, .tsnGclSet fwReq 255 255 255 (2 ^ 32 - 1) (2 ^ 64 - 1) [(255, 2 ^ 32 - 1)], .tsnStreamSet fwReq ⟨0, 0, 0, List.replicate 16
      0, List.replicate 8 0, 0, 0⟩, .ptpDomainSet fwReq 255 255 255 255, .ethTrapSet fwReq 255 255 255 255 65535 (2 ^ 48 - 1) 255, .canSet fwReq 255 255 0 0,
      .uartSet fwReq 255 255 0, .mvbSet fwReq 255 255 255 255 65535, .pcieSet fwReq 255 255 255 255, .fbrQuery fwReq 255 255] : List Instr).all Instr.wf = true
      := by decide +kernel

/-- Redundant execution and the mirrored pair: an ill-formed term for each check of a row is refused; each row with its fields at their greatest value is
  taken. -/
theorem test_wf_redundant_execution_and_the_mirrored_pai :
    ([.commitCompare 8 (.raster 0) 0 0, .commitCompare 0 (.raster 2) 0 0, .commitCompare 0 (.raster 0) 0 (2 ^ 64), .mismatchSelftestEnd 8 (.raster 0) false
      false, .mismatchSelftestEnd 0 (.raster 2) false false, .shadowToOutputCopyEnd 8 (.raster 0), .shadowToOutputCopyEnd 0 (.raster 2), .apCheckpoint 8 0 ⟨[],
      []⟩ false, .apCheckpoint 0 2 ⟨[], []⟩ false, .apPairSelftestEnd 8 0 false false, .apPairSelftestEnd 0 2 false false, .debugAction 8 0 ⟨0, false, []⟩,
      .debugAction 0 2 ⟨0, false, []⟩, .mirrorPortTrained 16 0 ⟨0, false⟩, .mirrorPortTrained 0 16 ⟨0, false⟩, .mirrorPortTrained 0 0 ⟨(2 ^ 64), false⟩,
      .mirrorTransferRx (2 ^ 64) 0 [], .mirrorTransferRx 0 2049 [], .heartbeatRx false ⟨4, 0, 0, 0, false, false, false, false⟩, .chkQuery fwReq 256,
      .chkRestore fwReq 256 0 0 [], .chkRestore fwReq 0 256 0 [], .chkRestore fwReq 0 0 256 [], .appairSet fwReq 256 0 0, .appairSet fwReq 0 256 0, .appairSet
      fwReq 0 0 256, .pairSet fwReq 256 0 0 0 0, .pairSet fwReq 0 256 0 0 0, .pairSet fwReq 0 0 256 0 0, .pairSet fwReq 0 0 0 256 0, .pairSet fwReq 0 0 0 0 (2
      ^ 48), .pairMirror fwReq 65536 0, .pairMirror fwReq 0 256, .mirrorFnWrite badMaster 0 0, .mirrorFnWrite sch 64 0] : List Instr).all (fun i => !i.wf) =
      true ∧
    ([.commitCompare 7 (.raster 0) 0 (2 ^ 64 - 1), .mismatchSelftestEnd 7 (.raster 0) false false, .shadowToOutputCopyEnd 7 (.raster 0), .apCheckpoint 7 1 ⟨[],
      []⟩ false, .apPairSelftestEnd 7 1 false false, .debugAction 7 1 ⟨0, false, []⟩, .mirrorPortTrained 15 15 ⟨0, false⟩, .mirrorTransferRx (2 ^ 64 - 1) 2048
      [], .heartbeatRx false ⟨0, 0, 0, 0, false, false, false, false⟩, .chkQuery fwReq 255, .chkRestore fwReq 255 255 255 [], .appairSet fwReq 255 255 255,
      .pairSet fwReq 255 255 255 255 (2 ^ 48 - 1), .pairMirror fwReq 65535 255, .mirrorFnWrite sch 63 0] : List Instr).all Instr.wf = true := by decide +kernel

/-- Safety mechanisms and the safe state: an ill-formed term for each check of a row is refused; each row with its fields at their greatest value is taken. -/
theorem test_wf_safety_mechanisms_and_the_safe_state :
    ([.silenceTimeout 8 0, .silenceTimeout 0 16, .safeCtrlArmWrite badMaster 0 0, .safeCtrlArmWrite sch 8 0, .safeCtrlClearWrite badMaster 0 0 none,
      .safeCtrlClearWrite sch 8 0 none, .safeReactWrite badMaster 0 0, .safeReactWrite sch 8 0, .gleanerTestStart 8 0, .gleanerTestStart 0 6, .gleanerTestEnd 8
      0 0, .gleanerTestEnd 0 48 0, .gleanerTestEnd 0 0 256, .coveragePeriodEnd 8 0, .coveragePeriodEnd 0 48, .checkerRotationSlot 8 .passed, .checkerTestRetry
      8 .passed, .safeCfg fwReq 65536 0, .safeArm fwReq 256, .safeSiloSet fwReq 256 0 0 0, .safeSiloSet fwReq 0 256 0 0, .safeSiloSet fwReq 0 0 65536 0,
      .safeStreamSet fwReq ⟨256, false, 0, 0, 0, 0, []⟩, .glnQuery fwReq 256 0, .glnQuery fwReq 0 256, .chkrotQuery fwReq 256] : List Instr).all (fun i =>
      !i.wf) = true ∧
    ([.silenceTimeout 7 15, .safeCtrlArmWrite sch 7 0, .safeCtrlClearWrite sch 7 0 none, .safeReactWrite sch 7 0, .gleanerTestStart 7 5, .gleanerTestEnd 7 47
      255, .coveragePeriodEnd 7 47, .checkerRotationSlot 7 .passed, .checkerTestRetry 7 .passed, .safeCfg fwReq 65535 0, .safeArm fwReq 255, .safeSiloSet fwReq
      255 255 65535 0, .safeStreamSet fwReq ⟨0, false, 0, 0, 0, 0, []⟩, .glnQuery fwReq 255 255, .chkrotQuery fwReq 255] : List Instr).all Instr.wf = true :=
      by decide +kernel

/-- Security, identity and firmware signing: an ill-formed term for each check of a row is refused; each row with its fields at their greatest value is taken.
  -/
theorem test_wf_security_identity_and_firmware_signing :
    ([.attest fwReq (List.replicate 32 0) 65536, .attest fwReq (List.replicate 33 0) 0, .attest fwReq (List.replicate 31 0) 0, .certRead fwReq 256 0, .certRead
      fwReq 0 (2 ^ 32), .mrExtend fwReq 256 (List.replicate 48 0), .mrExtend fwReq 0 (List.replicate 49 0), .mrExtend fwReq 0 (List.replicate 47 0),
      .fuseProgram fwReq (2 ^ 32) 0 0, .svnAdvance fwReq 256, .lcAdvance fwReq 256, .keyRevoke fwReq 256, .bootChunk fwReq (2 ^ 32) 0 [], .bootChunk fwReq 0 (2
      ^ 32) [], .bootChunk fwReq 0 0 [0], .secFuseCtrlGo badMaster 0 0, .secFuseCtrlGo sch 8 0] : List Instr).all (fun i => !i.wf) = true ∧
    ([.attest fwReq (List.replicate 32 0) 65535, .certRead fwReq 255 (2 ^ 32 - 1), .mrExtend fwReq 255 (List.replicate 48 0), .fuseProgram fwReq (2 ^ 32 - 1) 0
      0, .svnAdvance fwReq 255, .lcAdvance fwReq 255, .keyRevoke fwReq 255, .bootChunk fwReq (2 ^ 32 - 1) (2 ^ 32 - 1) [], .secFuseCtrlGo sch 7 0] : List
      Instr).all Instr.wf = true := by decide +kernel

/-- Power, thermal control and lifetime records: an ill-formed term for each check of a row is refused; each row with its fields at their greatest value is
  taken. -/
theorem test_wf_power_thermal_control_and_lifetime_recor :
    ([.pmcIntervalEnd 8 0, .pmcIntervalEnd 0 (2 ^ 32), .powerEstimateScale (2 ^ 32), .thermalSample 8 (List.replicate 12 0), .thermalSample 0 (List.replicate
      13 0), .thermalSample 0 (List.replicate 11 0), .voltageConfirmed 8 false, .railMonitor 8 [], .railMonitor 0 (List.replicate 17 .noAnswer), .pmbusAlert 8
      false, .pwrQuery fwReq 256, .pwrSet fwReq ⟨256, 0, 0, 0, 0⟩, .railSet fwReq 256 0 0, .railSet fwReq 0 256 0, .titheRead fwReq (2 ^ 32)] : List Instr).all
      (fun i => !i.wf) = true ∧
    ([.pmcIntervalEnd 7 (2 ^ 32 - 1), .powerEstimateScale (2 ^ 32 - 1), .thermalSample 7 (List.replicate 12 0), .voltageConfirmed 7 false, .railMonitor 7
      (List.replicate 16 .noAnswer), .pmbusAlert 7 false, .pwrQuery fwReq 255, .pwrSet fwReq ⟨0, 0, 0, 0, 0⟩, .railSet fwReq 255 255 0, .titheRead fwReq (2 ^
      32 - 1)] : List Instr).all Instr.wf = true := by decide +kernel

/-- Events of links, devices and tables: an ill-formed term for each check of a row is refused; each row with its fields at their greatest value is taken. -/
theorem test_wf_events_of_links_devices_and_tables :
    ([.ethLinkChange 8 0 false 0, .ethLinkChange 0 6 false 0, .ethLinkChange 0 0 false 8, .csiPhyLockChange 8 0 false, .csiPhyLockChange 0 8 false,
      .mirrorLaneLoss 4, .canFrameTx 8 0 false, .canFrameTx 0 4 false, .mirrorAckRx (2 ^ 64), .dramRefreshDerate 8 0 false, .dramRefreshDerate 0 8 false,
      .fdbEntryAgeing (2 ^ 48) 0, .fdbEntryAgeing 0 4096] : List Instr).all (fun i => !i.wf) = true ∧
    ([.ethLinkChange 7 5 false 7, .csiPhyLockChange 7 7 false, .mirrorLaneLoss 3, .canFrameTx 7 3 false, .mirrorAckRx (2 ^ 64 - 1), .dramRefreshDerate 7 7
      false, .fdbEntryAgeing (2 ^ 48 - 1) 4095] : List Instr).all Instr.wf = true := by decide +kernel

/-- Payloads longer than a packet carries, and sections longer than a handoff record, are refused. -/
theorem test_wf_long (l : List Byte) : (65535 < l.length → Instr.wf (.csiLongPacket 0 0 ⟨0, 0, 0, 0⟩ l false) = false) ∧
    (4064 < l.length → Instr.wf (.bootChunk fwReq 0 0 l) = false) ∧
    (0xFFFF8 < l.length → Handoff.wf ⟨0, 0, [⟨0, 0, l⟩], [], [], none⟩ = false) ∧
    (4096 < l.length → PcieRequest.wf (.barWrite 0 0 0 l) = false ∧ PcieRequest.wf (.busWrite 0 l) = false) := by
  refine ⟨fun h => ?_, fun h => ?_, fun h => ?_, fun h => ⟨?_, ?_⟩⟩
  · simp only [Instr.wf, decide_eq_false (show ¬ l.length < 65536 by omega), Bool.and_false]
  · simp only [Instr.wf, decide_eq_false (show ¬ l.length ≤ 4064 by omega), Bool.and_false]
  · simp [Handoff.wf, below]; omega
  · simp only [PcieRequest.wf, decide_eq_false (show ¬ l.length ≤ 4096 by omega), Bool.and_false]
  · simp only [PcieRequest.wf, decide_eq_false (show ¬ l.length ≤ 4096 by omega), Bool.and_false]


end Sys2Proof.Tests
end

section
/-!
SUPPORT and PROOFS. What handling a request leaves alone, the rows of the pins and of security under the hypotheses of their statements, and the numbers of the
domains (02_package_and_pins.md, 21_security_and_identity.md).
-/
namespace Sys2Proof.Machine

/-! A function of the state that looks at no mailbox reads the same while a request is handled. -/

section
variable (s : State) (r : Req) (op : Nat)

@[simp] theorem State.handling_hasDie (d : Nat) : (s.handling r op).hasDie d = s.hasDie d := by
  simp [State.hasDie]

@[simp] theorem State.handling_hasResource (ty d i : Nat) : (s.handling r op).hasResource ty d i = s.hasResource ty d i := by
  obtain ⟨boxes, bells, h⟩ := s.handling_eq r op
  rw [h]; rfl

@[simp] theorem State.handling_rangeOk (g : ResRange) : (s.handling r op).rangeOk g = s.rangeOk g := by
  obtain ⟨boxes, bells, h⟩ := s.handling_eq r op
  rw [h]; rfl

@[simp] theorem State.handling_holder (ty d i : Nat) : (s.handling r op).holder ty d i = s.holder ty d i := by
  obtain ⟨boxes, bells, h⟩ := s.handling_eq r op
  rw [h]; rfl

@[simp] theorem State.handling_claimClass (ty d i : Nat) : (s.handling r op).claimClass ty d i = s.claimClass ty d i := by
  obtain ⟨boxes, bells, h⟩ := s.handling_eq r op
  rw [h]; rfl

@[simp] theorem State.handling_pinHolder (d p : Nat) : (s.handling r op).pinHolder d p = s.pinHolder d p := by
  obtain ⟨boxes, bells, h⟩ := s.handling_eq r op
  rw [h]; rfl

@[simp] theorem State.handling_holderOf (ty d i : Nat) : (s.handling r op).holderOf ty d i = s.holderOf ty d i := by
  obtain ⟨boxes, bells, h⟩ := s.handling_eq r op
  rw [h]; rfl

@[simp] theorem State.handling_conflictIn (dom : Dom) (ty d : Nat) (l : List Nat) :
    (s.handling r op).conflictIn dom ty d l = s.conflictIn dom ty d l := by
  induction l with
  | nil => rfl
  | cons i is ih => simp only [State.conflictIn, State.handling_holderOf, ih]

@[simp] theorem State.handling_safetyRefuses (q : Req) (g : ResRange) : (s.handling r op).safetyRefuses q g = s.safetyRefuses q g := by
  obtain ⟨boxes, bells, h⟩ := s.handling_eq r op
  rw [h]; rfl

@[simp] theorem State.handling_manager (dom : Dom) : (s.handling r op).manager dom = s.manager dom := by
  simp [State.manager]

@[simp] theorem State.handling_isDomain (dom : Dom) : (s.handling r op).isDomain dom = s.isDomain dom := by
  simp [State.isDomain]

@[simp] theorem State.handling_svnCount : (s.handling r op).svnCount = s.svnCount := by
  simp [State.svnCount]

@[simp] theorem State.handling_keySlot (n : Nat) : (s.handling r op).keySlot n = s.keySlot n := by
  simp [State.keySlot]

@[simp] theorem State.handling_stepOf (d : Nat) : (s.handling r op).stepOf d = s.stepOf d := by
  simp [State.stepOf]

@[simp] theorem State.handling_report (nonce : List Byte) (mask : Nat) : (s.handling r op).report nonce mask = s.report nonce mask := by
  obtain ⟨boxes, bells, h⟩ := s.handling_eq r op
  rw [h]; rfl

@[simp] theorem State.handling_flashBytes (a n : Nat) : (s.handling r op).flashBytes a n = s.flashBytes a n := by
  induction n generalizing a with
  | zero => rfl
  | succ n ih => simp only [State.flashBytes, State.flashByte, State.handling_flash, ih]

/-- A request in progress is the work of its mailbox, whose session stays. -/
theorem State.box_begin : (s.begin r op).box r.dom = { s.box r.dom with current := none, work := some (r, op) } :=
  s.box_setBox r.dom { s.box r.dom with current := none, work := some (r, op) }

@[simp] theorem State.handling_major2 : (s.handling r op).major2 r = s.major2 r := by
  unfold State.handling
  split
  · rfl
  · simp only [State.major2, State.box_begin]

end

/-! Claims, releases and pins (R40, R46, R47, R517, R518). -/

section
variable {s : State} {r : Req}

/-- A session of major 3, or a release that names no resource of Class S, is not refused by the compatibility subset (R122). -/
theorem State.subsetRefusal_classS_none {classS : Bool} (h : s.major2 r = true → classS = false) : s.subsetRefusal r false classS = none := by
  cases hm : s.major2 r with
  | false => simp [State.subsetRefusal, hm]
  | true => simp [State.subsetRefusal, h hm]

theorem exec_claim_replies {g : ResRange} (hs : Serves s r 0x0100 (some g.die)) (hrange : s.rangeOk g = true) (hcls : g.cls ≤ 4)
    (hsafe : s.safetyRefuses r g = false) (hsub : s.major2 r = true → g.cls ≠ 0) (hfree : s.conflictIn r.dom g.resType g.die (rangeIndices g) = none) :
    exec (.claim r g) s = .next (s.replies r 0x0100 (some g.die) (fun t =>
      let u := (rangeIndices g).foldl (fun v i => v.grant r.dom g.resType g.die g.cls i) t
      (u.useFree, u.claimReply r.dom g.index g))) := by
  refine congrArg Host.Outcome.next (hs.replies ?_)
  have hform : ¬ (¬ (s.handling r 0x0100).rangeOk g = true ∨ 4 < g.cls) := by simp [hrange, hcls]
  have hlock : ¬ ((s.handling r 0x0100).safetyRefuses r g = true ∨ (s.handling r 0x0100).major2 r = true ∧ g.cls = 0) := by simpa [hsafe] using hsub
  simp only [if_neg hform, if_neg hlock, State.handling_conflictIn, hfree]

theorem exec_release_replies {g : ResRange} (hs : Serves s r 0x0101 (some g.die)) (hrange : s.rangeOk g = true) (hcls : g.cls = 0)
    (hsub : s.major2 r = true → ∀ i ∈ rangeIndices g, s.holder g.resType g.die i = noDom ∨ s.claimClass g.resType g.die i ≠ 0)
    (hfree : s.conflictIn r.dom g.resType g.die (rangeIndices g) = none) :
    exec (.release r g) s = .next (s.replies r 0x0101 (some g.die) (fun t =>
      let u := (rangeIndices g).foldl (fun v i => if v.holder g.resType g.die i = r.dom then v.ungrant g.resType g.die i else v) t
      (u.useFree, u.claimReply r.dom g.index g))) := by
  refine congrArg Host.Outcome.next (hs.replies ?_)
  have hform : ¬ (¬ (s.handling r 0x0101).rangeOk g = true ∨ g.cls ≠ 0) := by simp [hrange, hcls]
  have hclass : (s.handling r 0x0101).subsetRefusal r false ((rangeIndices g).any (fun i =>
      decide ((s.handling r 0x0101).holder g.resType g.die i ≠ noDom) && decide ((s.handling r 0x0101).claimClass g.resType g.die i = 0))) = none :=
    State.subsetRefusal_classS_none (fun hm => List.any_eq_false.mpr (fun i hi => by
      rw [State.handling_major2] at hm
      simp only [State.handling_holder, State.handling_claimClass, Bool.and_eq_true, decide_eq_true_eq]
      exact fun ⟨hheld, hzero⟩ => (hsub hm i hi).elim hheld (fun hne => hne hzero)))
  simp only [if_neg hform, hclass, Option.isSome_none, Bool.false_eq_true, if_false, State.handling_conflictIn, hfree]

theorem exec_pinConfig_replies {d p : Nat} {image : Word} (hs : Serves s r 0x0102 (some d)) (hd : s.hasDie d = true) (hp : hasSignal d p = true)
    (himage : image.toNat < 2 ^ 14) (hfunc : funcReserved p (bits image.toNat 3 0) = false) (hholder : s.pinHolder d p = r.dom) (hdom : r.dom ≠ noDom) :
    exec (.pinConfig r d p image) s = .next (s.replies r 0x0102 (some d) (fun t =>
      ((t.pinSet d p image.toNat).useFree, leBytes 4 ((t.pinSet d p image.toNat).pinImage d p)))) := by
  refine congrArg Host.Outcome.next (hs.replies ?_)
  have hform : ¬ (¬ (s.handling r 0x0102).hasDie d = true ∨ ¬ hasSignal d p = true ∨ 2 ^ 14 ≤ image.toNat ∨
      funcReserved p (bits image.toNat 3 0) = true) := by simpa [hd, hp, hfunc] using himage
  have hheld : (s.handling r 0x0102).pinHolder d p ≠ noDom := by rwa [State.handling_pinHolder, hholder]
  have hown : ¬ (s.handling r 0x0102).pinHolder d p ≠ r.dom := by simp [hholder]
  simp only [if_neg hform, if_neg hheld, if_neg hown]

/-- A write of PINCFG by the holder of the pin, or to a pin that nobody holds, takes effect. -/
theorem wrPincfg_of_holder {m : Master} {d p : Nat} (data : Nat) (hp : hasSignal d p = true) (hholder : s.pinHolder d p = noDom ∨ s.pinHolder d p = writerOf m) :
    wrPincfg m d p data s = s.pinSet d p data := by
  have hfree : ¬ (s.pinHolder d p ≠ noDom ∧ s.pinHolder d p ≠ writerOf m) :=
    fun ⟨hheld, hother⟩ => hholder.elim hheld hother
  simp [wrPincfg, hp, hfree]

theorem exec_pincfgWrite_pinSet {m : Master} {d p : Nat} (data : Word) (hd : s.hasDie d = true) (hlt : p < 768) (hw : WritesNow s m d .PINMUX (0x1000 + 4 * p))
    (hp : hasSignal d p = true) (hholder : s.pinHolder d p = noDom ∨ s.pinHolder d p = writerOf m) :
    exec (.pincfgWrite m d p data) s = .next (s.accepted.pinSet d p data.toNat) := by
  have hunit : ¬ (¬ s.hasDie d = true ∨ 768 ≤ p) := by simp [hd, hlt]
  calc exec (.pincfgWrite m d p data) s
      = .next (s.regWrite m d .PINMUX (0x1000 + 4 * p) data (wrPincfg m d p data.toNat)) := if_neg hunit
    _ = .next (wrPincfg m d p data.toNat s.accepted) := by rw [hw.eq]
    _ = .next (s.accepted.pinSet d p data.toNat) := by rw [wrPincfg_of_holder (s := s.accepted) data.toNat hp hholder]

/-- The overrides after a write of PINMUX_OVR: that of the named pin set with EN, erased without. -/
def ovrAfter (ovr : List ((Nat × Nat) × Nat)) (d data : Nat) : List ((Nat × Nat) × Nat) :=
  if bits data 15 15 = 1 then insertKV ovr (d, bits data 9 0) (bits data 13 12) else eraseK ovr (d, bits data 9 0)

/-- A permitted write of PINMUX_OVR that names a pin which is no SAFE_OUT pin (R45, R47). -/
theorem wrPinmuxOvr_of_signal {m : Master} {d data : Nat} (hg : s.guardOk m = true) (hp : hasSignal d (bits data 9 0) = true)
    (hout : isSafeOut d (bits data 9 0) = false) :
    wrPinmuxOvr m d data s = ({ s with pins.ovr := ovrAfter s.pins.ovr d data }.setFld d .PINMUX_OVR_PIN 0 (bits data 9 0)).setFld d
      .PINMUX_STATUS_OVR_ACTIVE 0 (b2n ((ovrAfter s.pins.ovr d data).any (fun e => decide (e.1.1 = d)))) := by
  rw [wrPinmuxOvr, State.guarded_ok hg]
  simp [hp, hout, ovrAfter]

theorem bits_lt (v hi lo : Nat) : bits v hi lo < 2 ^ (hi + 1 - lo) := Nat.mod_lt _ (Nat.two_pow_pos _)

theorem exec_pinmuxOvrWrite_next {m : Master} {d : Nat} {data : Word} (hw : WritesNow s m d .PINMUX 0x10) (hg : s.guardOk m = true)
    (hp : hasSignal d (bits data.toNat 9 0) = true) (hout : isSafeOut d (bits data.toNat 9 0) = false) :
    ∃ t, exec (.pinmuxOvrWrite m d data) s = .next t ∧ t.pins.ovr = ovrAfter s.pins.ovr d data.toNat ∧ t.fld d .PINMUX_OVR_PIN = bits data.toNat 9 0 := by
  refine ⟨_, congrArg Host.Outcome.next ((hw.eq data _).trans (wrPinmuxOvr_of_signal (s := s.accepted) hg hp hout)), rfl, ?_⟩
  rw [State.fld_setFld_other _ _ _ _ _ _ (by decide), State.fld_setFld_same]
  exact Nat.mod_eq_of_lt (bits_lt data.toNat 9 0)

end

/-- Settles O6, clause by clause. -/
theorem pinRowsComplete : Obligations.PinRowsComplete := fun _ =>
  ⟨fun _ _ => exec_claim_replies, fun _ _ => exec_release_replies, fun _ _ _ _ => exec_pinConfig_replies, fun _ _ _ => exec_pincfgWrite_pinSet,
    fun _ _ _ => exec_pinmuxOvrWrite_next⟩

/-! Attestation, fuses, keys, the boot image and debug authentication (R33, R469, R475, R477 to R480, R482, R484, R485). -/

section
variable {s : State} {r : Req}

theorem exec_attest_replies {nonce : List Byte} {mask : Nat} (hs : Serves s r 0x0900 none) (hmask : mask < 2 ^ 16) (hsome : popCount 16 mask ≠ 0)
    (hfew : popCount 16 mask ≤ 8) :
    exec (.attest r nonce mask) s = .next (s.replies r 0x0900 none (fun t => (t, s.report nonce mask))) := by
  refine congrArg Host.Outcome.next (hs.replies ?_)
  have hform : ¬ (8 < popCount 16 mask ∨ popCount 16 mask = 0 ∨ 2 ^ 16 ≤ mask) := by omega
  simp only [if_neg hform, State.handling_report]

theorem exec_certRead_replies {chain offset : Nat} (hs : Serves s r 0x0901 none) (hchain : chain < 2) :
    exec (.certRead r chain offset) s = .next (s.replies r 0x0901 none (fun t =>
      (t, s.flashBytes (0x8000 + (Config.certPlace chain).1 + offset) (min 4080 ((Config.certPlace chain).2 - offset))))) := by
  refine congrArg Host.Outcome.next (hs.replies ?_)
  simp only [if_neg (Nat.not_le.mpr hchain), State.handling_flashBytes]

theorem exec_mrExtend_replies {i : Nat} {digest : List Byte} (hs : Serves s r 0x0902 none) (hlo : 8 ≤ i) (hhi : i < 16) (hman : s.manager r.dom = true) :
    exec (.mrExtend r i digest) s = .next (s.replies r 0x0902 none (fun t =>
      let u := t.extend i (BitVec.ofNat 384 (leNat (slice digest 0 48)))
      (u, leBytes 48 (lookupD u.sec.mr i 0).toNat))) := by
  refine congrArg Host.Outcome.next (hs.replies ?_)
  have hindex : ¬ (i < 8 ∨ 16 ≤ i) := by omega
  simp only [if_neg hindex, State.handling_manager, hman, not_true_eq_false, if_false]

/-- PF_0 and firmware have the rights of R484. -/
theorem pf0OrFw_of_dom {dom : Dom} (h : dom = 0 ∨ dom = fwDom) : pf0OrFw dom = true := by
  simpa [pf0OrFw] using h

theorem exec_guardGrant_replies {dom : Dom} (hdom : s.isDomain dom = true) (hpf : r.dom = 0 ∨ r.dom = fwDom) (hs : Serves s r 0x0903 none) :
    exec (.guardGrant r dom) s = .next (s.replies r 0x0903 none (fun t =>
      ({ t with mail.grants := if dom ∈ s.mail.grants then s.mail.grants else s.mail.grants ++ [dom] }, []))) := by
  refine congrArg Host.Outcome.next (hs.replies ?_)
  simp only [State.handling_isDomain, hdom, pf0OrFw_of_dom hpf, not_true_eq_false, if_false, State.handling_grants]

theorem exec_guardRevoke_replies {dom : Dom} (hdom : s.isDomain dom = true) (hpf : r.dom = 0 ∨ r.dom = fwDom) (hs : Serves s r 0x0904 none) :
    exec (.guardRevoke r dom) s = .next (s.replies r 0x0904 none (fun t =>
      ({ t with mail.grants := s.mail.grants.filter (fun x => decide (x ≠ dom)) }, []))) := by
  refine congrArg Host.Outcome.next (hs.replies ?_)
  simp only [State.handling_isDomain, hdom, pf0OrFw_of_dom hpf, not_true_eq_false, if_false, State.handling_grants]

theorem exec_fuseProgram_answered {w : Nat} {value mask : Word} {t : State} (hs : Serves s r 0x0905 none) (hpf : r.dom = 0 ∨ r.dom = fwDom)
    (hword : (s.handling r 0x0905).programWord 0 w value.toNat mask.toNat = some t) :
    exec (.fuseProgram r w value mask) s = .next (t.answered r 0x0905 none (some (.ok, []))) := by
  refine congrArg Host.Outcome.next (hs.reply ?_)
  simp only [pf0OrFw_of_dom hpf, not_true_eq_false, if_false, hword]

theorem exec_fuseProgram_refuses {w : Nat} {value mask : Word} (hs : Serves s r 0x0905 none) (hpf : r.dom = 0 ∨ r.dom = fwDom)
    (hword : (s.handling r 0x0905).programWord 0 w value.toNat mask.toNat = none) :
    exec (.fuseProgram r w value mask) s = .next (s.refuses r 0x0905 none .denied) := by
  refine congrArg Host.Outcome.next (hs.refuses ?_)
  simp only [pf0OrFw_of_dom hpf, not_true_eq_false, if_false, hword]

theorem exec_svnAdvance_replies {b : BundleInfo} {target : Nat} (hs : Serves s r 0x0906 none) (hpf : r.dom = 0 ∨ r.dom = fwDom)
    (hbundle : s.fw.bundle = some b) (hmax : target ≤ b.svn) (hmin : s.svnCount ≤ target) :
    exec (.svnAdvance r target) s = .next (s.replies r 0x0906 none (fun t => ({ t with sec.svn := svnTo 64 s.sec.svn target }, []))) := by
  refine congrArg Host.Outcome.next (hs.replies ?_)
  simp only [pf0OrFw_of_dom hpf, State.handling_fw, hbundle, State.handling_svnCount, Nat.not_lt.mpr hmax, Nat.not_lt.mpr hmin, not_true_eq_false, or_self,
    if_false, State.handling_sec]

theorem exec_lcAdvance_replies {target : Nat} (hs : Serves s r 0x0907 none) (hpf : r.dom = 0 ∨ r.dom = fwDom)
    (hnext : target = if s.sec.lcFuse = 0 then 1 else if s.sec.lcFuse = 1 then 3 else 4) :
    exec (.lcAdvance r target) s = .next (s.replies r 0x0907 none (fun t => ({ t with sec.lcFuse := target }, []))) := by
  refine congrArg Host.Outcome.next (hs.replies ?_)
  simp only [pf0OrFw_of_dom hpf, State.handling_sec, ← hnext, not_true_eq_false, ne_eq, if_false]

theorem exec_keyRevoke_replies {slot : Nat} (hs : Serves s r 0x0908 none) (hslot : slot < 4) (hpf : r.dom = 0 ∨ r.dom = fwDom)
    (hlast : (s.sec.keys.filter (fun k => k.usable 0)).length ≠ 1) :
    exec (.keyRevoke r slot) s = .next (s.replies r 0x0908 none (fun t =>
      ({ t with sec.keys := s.sec.keys.set slot { s.keySlot slot with revoked := true } }, []))) := by
  refine congrArg Host.Outcome.next (hs.replies ?_)
  simp only [if_neg (Nat.not_le.mpr hslot), pf0OrFw_of_dom hpf, State.handling_sec, State.handling_keySlot, hlast, not_true_eq_false, and_false, if_false]

theorem exec_bootChunk_replies {offset total : Nat} {data : List Byte} (hs : Serves s r 0x0910 none) (hdom : r.dom = 0x2000)
    (hcode : s.fld 0 .RST_STATUS_BOOTSEL_EFF = 3) (hstep : s.stepOf 0 < 7) (hoffset : offset = s.boot.chunks.length) (halign : data.length % 16 = 0)
    (hlen : data.length ≤ 4064) (hfit : offset + data.length ≤ total) (hmax : total ≤ 0x1000000) (hsome : total ≠ 0)
    (htotal : offset ≠ 0 → s.boot.chunkTotal = some total) (hmore : offset + data.length < total) :
    exec (.bootChunk r offset total data) s = .next (s.replies r 0x0910 none (fun t =>
      ({ t with boot.chunks := s.boot.chunks ++ data, boot.chunkTotal := some total }, []))) := by
  refine congrArg Host.Outcome.next (hs.replies ?_)
  have hopen : ¬ (r.dom ≠ 0x2000 ∨ (s.handling r 0x0910).fld 0 .RST_STATUS_BOOTSEL_EFF ≠ 3 ∨ 7 ≤ (s.handling r 0x0910).stepOf 0) := by
    simp [hdom, hcode, hstep]
  have hform : ¬ (data.length % 16 ≠ 0 ∨ 4064 < data.length ∨ offset ≠ s.boot.chunks.length ∨ total < offset + data.length ∨ 0x1000000 < total ∨ total = 0 ∨
      (offset ≠ 0 ∧ s.boot.chunkTotal ≠ some total)) := by
    rintro (h | h | h | h | h | h | ⟨h, h'⟩)
    · exact h halign
    · exact absurd hlen (Nat.not_le.mpr h)
    · exact h hoffset
    · exact absurd hfit (Nat.not_le.mpr h)
    · exact absurd hmax (Nat.not_le.mpr h)
    · exact hsome h
    · exact h' (htotal h)
  have hpart : (s.boot.chunks ++ data).length < total := by rwa [List.length_append, ← hoffset]
  simp only [if_neg hopen, State.handling_boot, if_neg hform, if_pos hpart]

/-- A permitted write of SEC_FUSE_CTRL with GO while no programming is in progress (R485). -/
theorem wrFuseCtrl_of_go {m : Master} {d data : Nat} (hg : s.guardOk m = true) (hgo : bits data 31 31 = 1) (hidle : s.fld d .SEC_FUSE_CTRL_ACTIVE ≠ 1) :
    wrFuseCtrl m d data s =
      if (s.programWord d (s.fld d .SEC_FUSE_ADDR_WORD) (s.fld d .SEC_FUSE_DATA_VALUE) (s.fld d .SEC_FUSE_DATA_VALUE)).isNone then
        s.flag d .SEC_FUSE_CTRL_REFUSED
      else
        ({ s with sec.fusing := s.sec.fusing ++ [(d, s.fld d .SEC_FUSE_ADDR_WORD, s.fld d .SEC_FUSE_DATA_VALUE)] } : State).flag d .SEC_FUSE_CTRL_ACTIVE := by
  have hstarts : ¬ (bits data 31 31 = 0 ∨ s.fld d .SEC_FUSE_CTRL_ACTIVE = 1) := by simp [hgo, hidle]
  rw [wrFuseCtrl, State.guarded_ok hg]
  exact if_neg hstarts

theorem exec_secFuseCtrlGo_next {m : Master} {d : Nat} {data : Word} (hw : WritesNow s m d .SEC 0x28) (hg : s.guardOk m = true)
    (hgo : bits data.toNat 31 31 = 1) (hidle : s.fld d .SEC_FUSE_CTRL_ACTIVE ≠ 1) :
    let w := s.fld d .SEC_FUSE_ADDR_WORD
    let v := s.fld d .SEC_FUSE_DATA_VALUE
    (s.accepted.programWord d w v v ≠ none → exec (.secFuseCtrlGo m d data) s =
      .next (({ s.accepted with sec.fusing := s.sec.fusing ++ [(d, w, v)] } : State).flag d .SEC_FUSE_CTRL_ACTIVE)) ∧
    (s.accepted.programWord d w v v = none → exec (.secFuseCtrlGo m d data) s = .next (s.accepted.flag d .SEC_FUSE_CTRL_REFUSED)) := by
  have heff := (hw.eq data _).trans (wrFuseCtrl_of_go (s := s.accepted) hg hgo hidle)
  exact ⟨fun h => congrArg Host.Outcome.next (heff.trans (if_neg (by rwa [Option.isNone_iff_eq_none]))),
    fun h => congrArg Host.Outcome.next (heff.trans (if_pos (Option.isNone_iff_eq_none.mpr h)))⟩

/-- Setting fields leaves what the security block keeps beside its registers. -/
theorem State.foldl_setFld_sec (f : Fld) (i v : Nat) (l : List Nat) (s : State) : (l.foldl (fun t d => t.setFld d f i v) s).sec = s.sec := by
  induction l generalizing s with
  | nil => rfl
  | cons d l ih => exact ih (s.setFld d f i v)

@[simp] theorem State.setDbgAuth_sec (s : State) (scopes v : Nat) : (s.setDbgAuth scopes v).sec = { s.sec with dbgOpen := scopes } :=
  State.foldl_setFld_sec _ _ _ _ _

/-- DMACTIVE written 0 outside MANUFACTURE closes debug and ends an exchange (R480). -/
theorem exec_authdataWrite_dmactiveOff (hlc : s.sec.lc ≠ 0) :
    ∃ t, exec (.authdataWrite .dmactiveOff) s = .next t ∧ t.sec.dbg = none ∧ t.sec.dbgOpen = 0 :=
  ⟨{ s.setDbgAuth 0 0 with sec.dbg := none }, congrArg Host.Outcome.next (if_neg hlc), rfl, congrArg SecState.dbgOpen (s.setDbgAuth_sec 0 0)⟩

/-- The first word of an exchange draws its challenge (R480). -/
theorem exec_authdataWrite_first (hlc : s.sec.lc ≠ 0) (w : Word) (hdbg : s.sec.dbg = none) :
    ∃ t x, exec (.authdataWrite (.authdata w)) s = .next t ∧ t.sec.dbg = some x ∧ x.word = w.toNat ∧ x.words = [] := by
  refine ⟨{ s.fresh.2 with sec.dbg := some ⟨w.toNat, s.fresh.1 % 2 ^ 256, []⟩ }, ⟨w.toNat, s.fresh.1 % 2 ^ 256, []⟩, ?_, rfl, rfl, rfl⟩
  change execAuthdataWrite (.authdata w) s = _
  simp only [execAuthdataWrite, if_neg hlc, hdbg]

/-- A word of the response before its last is kept (R480). -/
theorem exec_authdataWrite_word (hlc : s.sec.lc ≠ 0) (w : Word) (x : DbgAuth) (hdbg : s.sec.dbg = some x) (hmore : x.words.length < 843) :
    exec (.authdataWrite (.authdata w)) s = .next { s with sec.dbg := some { x with words := x.words ++ [w.toNat] } } := by
  have hshort : (x.words ++ [w.toNat]).length < 844 := by simpa using Nat.succ_lt_succ hmore
  change execAuthdataWrite (.authdata w) s = _
  simp only [execAuthdataWrite, if_neg hlc, hdbg, hshort, true_or, if_true]

end

/-- Settles O36, clause by clause. -/
theorem securityRowsComplete : Obligations.SecurityRowsComplete := fun _ _ =>
  ⟨fun _ _ => exec_attest_replies,
    fun _ _ => exec_certRead_replies,
    fun _ _ => exec_mrExtend_replies,
    fun _ hdom hpf => ⟨exec_guardGrant_replies hdom hpf, exec_guardRevoke_replies hdom hpf⟩,
    fun _ _ _ hs hpf => ⟨fun _ => exec_fuseProgram_answered hs hpf, exec_fuseProgram_refuses hs hpf⟩,
    fun _ _ => exec_svnAdvance_replies,
    fun _ => exec_lcAdvance_replies,
    fun _ => exec_keyRevoke_replies,
    fun _ _ _ => exec_bootChunk_replies,
    fun _ _ _ => exec_secFuseCtrlGo_next,
    fun hlc => ⟨exec_authdataWrite_dmactiveOff hlc, exec_authdataWrite_first hlc, exec_authdataWrite_word hlc⟩⟩

/-! The numbers of the domains (R39). -/

theorem fnDom_toNat {n : Nat} (h : n ≤ 2048) : (fnDom n).toNat = n := by
  rw [fnDom, BitVec.toNat_ofNat]; omega

theorem apDom_toNat {d a : Nat} (hd : d < 8) (ha : a < 4) : (apDom d a).toNat = 0x1000 + 4 * d + a := by
  rw [apDom, BitVec.toNat_ofNat]; omega

/-- A function's number lies below every other domain's. -/
theorem fnDom_ne_of_lt {n : Nat} {dom : Dom} (hn : n ≤ 2048) (h : 2048 < dom.toNat) : fnDom n ≠ dom := by
  rintro rfl
  rw [fnDom_toNat hn] at h
  omega

/-- The numbers of the AP mailboxes end at 0x101F. -/
theorem apDom_ne_of_lt {d a : Nat} {dom : Dom} (hd : d < 8) (ha : a < 4) (h : 0x101F < dom.toNat) : apDom d a ≠ dom := by
  rintro rfl
  rw [apDom_toNat hd ha] at h
  omega

/-- Settles O55: the function numbers, then those of the AP mailboxes, lie below the rest. -/
theorem domainNumbers : Obligations.DomainNumbers := by
  refine ⟨fun _ => fnDom_toNat, fun _ _ => apDom_toNat, rfl, rfl, fun n d a hn hd ha => ?_⟩
  have hap : 2048 < (apDom d a).toNat := by rw [apDom_toNat hd ha]; omega
  exact ⟨fnDom_ne_of_lt hn hap, fnDom_ne_of_lt hn (by decide), fnDom_ne_of_lt hn (by decide), fnDom_ne_of_lt hn (by decide),
    apDom_ne_of_lt hd ha (by decide), apDom_ne_of_lt hd ha (by decide), apDom_ne_of_lt hd ha (by decide)⟩

end Sys2Proof.Machine
end

section
/-!
SUPPORT and PROOFS. The queries of the platform and OPT_WRITE, loops over the dies and the domains, the rows of the clocks, and the steps of a package start-up
(03_clocks.md, 04_reset_and_options.md).
-/
namespace Sys2Proof.Machine

/-! The queries of the pins, the clocks, the reset block and the option area, and OPT_WRITE (R62, R84, R88, R518). -/

section
variable {s : State} {r : Req}

@[simp] theorem State.handling_optBank (s : State) (r : Req) (op b : Nat) : (s.handling r op).optBank b = s.optBank b := by
  simp only [State.optBank, State.handling_flashBytes]

@[simp] theorem State.handling_bankInUse (s : State) (r : Req) (op : Nat) : (s.handling r op).bankInUse = s.bankInUse := by
  simp only [State.bankInUse, State.handling_optBank]

theorem exec_pinQuery_replies {d p : Nat} (hs : Serves s r 0x0103 (some d)) (hd : s.hasDie d = true) (hp : hasSignal d p = true) :
    exec (.pinQuery r d p) s = .next (s.replies r 0x0103 (some d) (fun t =>
      (t.useFree, leBytes 4 (t.pinImage d p) ++ leBytes 2 (t.pinHolder d p).toNat ++ leBytes 2 0))) := by
  refine congrArg Host.Outcome.next (hs.replies ?_)
  have hform : ¬ (¬ (s.handling r 0x0103).hasDie d = true ∨ ¬ hasSignal d p = true) := by simp [hd, hp]
  simp only [if_neg hform]

theorem exec_clkQuery_replies {d : Nat} (hs : Serves s r 0x0820 (some d)) (hd : s.hasDie d = true) :
    exec (.clkQuery r d) s = .next (s.replies r 0x0820 (some d) (fun t => (t,
      leBytes 4 (t.clkImage d) ++ ((List.range 5).map (fun x => leBytes 2 (t.fld d .CLK_DIV_CURRENT x))).flatten ++
        leBytes 1 (t.fld 0 .CLK_CTRL_SSC_DEPTH) ++ leBytes 9 0))) := by
  refine congrArg Host.Outcome.next (hs.replies ?_)
  simp only [State.handling_hasDie, hd, not_true_eq_false, if_false]

theorem exec_resetQuery_replies {d : Nat} (hs : Serves s r 0x0831 (some d)) (hd : s.hasDie d = true) :
    exec (.resetQuery r d) s = .next (s.replies r 0x0831 (some d) (fun t =>
      (t, leBytes 4 (t.causeImage d) ++ leBytes 4 t.rstImage ++ leBytes 4 (t.rstctlImage d)))) := by
  refine congrArg Host.Outcome.next (hs.replies ?_)
  simp only [State.handling_hasDie, hd, not_true_eq_false, if_false]

theorem exec_optRead_replies {b : Nat} (hs : Serves s r 0x0832 none) (hb : s.bankInUse = some b) :
    exec (.optRead r) s = .next (s.replies r 0x0832 none (fun t =>
      (t, leBytes 1 b ++ leBytes 3 0 ++ slice (t.optBank b) 8 4 ++ slice (t.optBank b) 0x10 256))) := by
  refine congrArg Host.Outcome.next (hs.replies ?_)
  simp only [State.handling_bankInUse, hb]

/-- OPT_WRITE with the SEQ of the bank in use writes the other bank but for its CRC, and its answer comes later (R84, R88). -/
theorem exec_optWrite_defers {b seq : Nat} {options : List Byte} (hs : Serves s r 0x0833 none) (hg : s.granted r.dom = true)
    (hidle : s.boot.optWrite = none) (huse : s.bankInUse = some b) (hseq : seq = bankSeq (s.optBank b)) :
    let bs := bankBytes ((seq + 1) % 2 ^ 32) options
    exec (.optWrite r seq options) s = .next (s.defers r 0x0833 none (fun t =>
      { t.putFlash (if b = 0 then 0x11000 else 0x10000) (slice bs 0 0xFFC ++ List.replicate 4 0xFF#8) with
          boot.optWrite := some ⟨r, if b = 0 then 1 else 0, bs, (seq + 1) % 2 ^ 32⟩ })) := by
  refine congrArg Host.Outcome.next (hs.defers ?_)
  subst hseq
  simp only [State.handling_granted, hg, State.handling_boot, hidle, State.handling_bankInUse, huse, State.handling_optBank, ne_eq, not_true_eq_false,
    Option.isSome_none, Bool.false_eq_true, if_false]
  cases b with
  | zero => simp only [Nat.mul_one, Nat.reduceAdd, if_true]
  | succ b => simp only [Nat.mul_zero, Nat.add_zero, Nat.add_eq_zero_iff, Nat.one_ne_zero, and_false, if_false]

/-- While no bank is valid, OPT_WRITE with SEQ 0 writes bank 0 with SEQ 1 (R84, R88). -/
theorem exec_optWrite_first_defers {options : List Byte} (hs : Serves s r 0x0833 none) (hg : s.granted r.dom = true)
    (hidle : s.boot.optWrite = none) (huse : s.bankInUse = none) :
    exec (.optWrite r 0 options) s = .next (s.defers r 0x0833 none (fun t =>
      { t.putFlash 0x10000 (slice (bankBytes 1 options) 0 0xFFC ++ List.replicate 4 0xFF#8) with
          boot.optWrite := some ⟨r, 0, bankBytes 1 options, 1⟩ })) := by
  refine congrArg Host.Outcome.next (hs.defers ?_)
  simp only [State.handling_granted, hg, State.handling_boot, hidle, State.handling_bankInUse, huse, ne_eq, not_true_eq_false, Option.isSome_none,
    Bool.false_eq_true, if_false, Nat.mul_zero, Nat.zero_add, Nat.add_zero, Nat.reducePow, Nat.reduceMod]

theorem exec_optWrite_refuses_busy {seq : Nat} {options : List Byte} (hs : Serves s r 0x0833 none) (hg : s.granted r.dom = true)
    (hbusy : s.boot.optWrite.isSome = true) : exec (.optWrite r seq options) s = .next (s.refuses r 0x0833 none .busy) := by
  refine congrArg Host.Outcome.next (hs.refuses ?_)
  simp only [State.handling_granted, hg, State.handling_boot, hbusy, not_true_eq_false, if_false, if_true]

end

/-- Settles O8, clause by clause. -/
theorem platformQueriesComplete : Obligations.PlatformQueriesComplete := fun _ _ =>
  ⟨fun _ _ => exec_pinQuery_replies, fun _ => exec_clkQuery_replies, fun _ => exec_resetQuery_replies, fun _ => exec_optRead_replies,
    fun _ _ _ => exec_optWrite_defers, fun _ => exec_optWrite_first_defers, fun _ _ => exec_optWrite_refuses_busy⟩

/-! Loops over the dies and the domains: what every pass keeps, and what one pass brings about. -/

theorem foldl_keeps {σ α β : Type} (p : σ → β) {g : σ → α → σ} (h : ∀ t a, p (g t a) = p t) (l : List α) (s : σ) : p (l.foldl g s) = p s :=
  List.foldlRecOn l g (motive := fun t => p t = p s) rfl (fun t ht a _ => (h t a).trans ht)

theorem foldl_brings {σ α : Type} (p : σ → Prop) {g : σ → α → σ} {a : α} (hbrings : ∀ t, p (g t a)) (hkeeps : ∀ t b, p t → p (g t b))
    {l : List α} (ha : a ∈ l) (s : σ) : p (l.foldl g s) := by
  induction l generalizing s with
  | nil => cases ha
  | cons b l ih =>
    rcases List.mem_cons.mp ha with rfl | hmem
    · exact List.foldlRecOn l g (hbrings s) (fun t ht c _ => hkeeps t c ht)
    · exact ih hmem (g s b)

theorem State.mem_dieList {s : State} {d : Nat} (h : s.hasDie d = true) : d ∈ s.dieList := List.mem_range.mpr (of_decide_eq_true h)

theorem State.hasDie_of_part {s t : State} (h : t.part = s.part) (d : Nat) : t.hasDie d = s.hasDie d := by rw [State.hasDie, State.hasDie, h]

theorem State.domains_of_part {s t : State} (h : t.part = s.part) : t.domains = s.domains := by
  rw [State.domains, State.domains, State.dieList, State.dieList, h]

theorem State.mem_domains {s : State} {d x : Nat} (hd : s.hasDie d = true) (hx : x < 5) : (d, x) ∈ s.domains :=
  List.mem_flatten.mpr ⟨_, List.mem_map.mpr ⟨d, State.mem_dieList hd, rfl⟩, List.mem_map.mpr ⟨x, List.mem_range.mpr hx, rfl⟩⟩

/-- A field that holds a value still holds it when some die's copy is set to the same value. -/
theorem State.fld_setFld_again {s : State} {d i v : Nat} {f : Fld} (h : s.fld d f i = v % 2 ^ f.width) (e : Nat) :
    (s.setFld e f i v).fld d f i = v % 2 ^ f.width := by
  by_cases he : homeDie f d = homeDie f e
  · simp only [State.fld, State.setFld, he, lookupD_insertKV_same]
  · rw [← h]
    simp only [State.fld, State.setFld]
    rw [lookupD_insertKV_other _ _ _ (fun hk => he (by injection hk))]
    rfl

@[simp] theorem State.clkAll_part (s : State) (f : Fld) (v : Nat) : (s.clkAll f v).part = s.part := foldl_keeps State.part (fun _ _ => by rfl) _ _
@[simp] theorem State.clkAll_clk (s : State) (f : Fld) (v : Nat) : (s.clkAll f v).clk = s.clk := foldl_keeps State.clk (fun _ _ => by rfl) _ _
@[simp] theorem State.clkAll_boot (s : State) (f : Fld) (v : Nat) : (s.clkAll f v).boot = s.boot := foldl_keeps State.boot (fun _ _ => by rfl) _ _

theorem State.fld_clkAll_same {s : State} {d : Nat} (hd : s.hasDie d = true) (f : Fld) (v : Nat) : (s.clkAll f v).fld d f = v % 2 ^ f.width :=
  foldl_brings (fun t : State => t.fld d f = v % 2 ^ f.width) (g := fun t e => t.setFld e f 0 v) (fun t => t.fld_setFld_same d f 0 v)
    (fun _ e h => State.fld_setFld_again h e) (State.mem_dieList hd) s

theorem State.fld_clkAll_other (s : State) {f g : Fld} (h : g ≠ f) (v d i : Nat) : (s.clkAll f v).fld d g i = s.fld d g i :=
  foldl_keeps (fun t : State => t.fld d g i) (fun t e => t.fld_setFld_other e d 0 i v h) _ _

/-! The verdicts on the PLLs (R50). -/

section
variable {s : State} (root tref : List PllWindows)

@[simp] theorem State.rootVerdicts_part : (s.rootVerdicts root).part = s.part := part_of_mask0 (s.rootVerdicts_mask root (Nat.and_self _)) rfl
@[simp] theorem State.rootVerdicts_clk : (s.rootVerdicts root).clk = s.clk := clk_of_mask (s.rootVerdicts_mask root (Nat.and_self _)) rfl
@[simp] theorem State.rootVerdicts_boot : (s.rootVerdicts root).boot = s.boot := boot_of_mask (s.rootVerdicts_mask root (Nat.and_self _)) rfl

theorem State.fld_rootVerdicts_other {f : Fld} (hf : f ≠ .CLK_STATUS_ROOT_LOCK) (d i : Nat) : (s.rootVerdicts root).fld d f i = s.fld d f i :=
  foldl_keeps (fun t : State => t.fld d f i) (fun t e => by
    by_cases h : pllPasses root e = true
    · simp only [if_pos h, t.fld_setFld_other e d 0 i 1 hf]
    · simp only [if_neg h]) _ _

theorem State.fld_rootVerdicts_lock {root : List PllWindows} {d : Nat} (hd : s.hasDie d = true) (h : pllPasses root d = true) :
    (s.rootVerdicts root).fld d .CLK_STATUS_ROOT_LOCK = 1 :=
  foldl_brings (fun t : State => t.fld d .CLK_STATUS_ROOT_LOCK = 1 % 2 ^ Fld.CLK_STATUS_ROOT_LOCK.width) (fun t => by
      simp only [if_pos h, t.fld_setFld_same])
    (fun t e ht => by
      by_cases he : pllPasses root e = true
      · simp only [if_pos he, State.fld_setFld_again ht]
      · simpa only [if_neg he] using ht)
    (State.mem_dieList hd) s

/-- A die takes part or stays out as its trip and its step say. -/
theorem State.leftOut_of_eq {s t : State} {d : Nat} (htrip : t.fld d .PWR_STATUS_TRIP = s.fld d .PWR_STATUS_TRIP) (hboot : t.boot = s.boot) :
    t.leftOut d = s.leftOut d := by
  rw [State.leftOut, State.leftOut, State.tripped, State.tripped, State.stepOf, State.stepOf, htrip, hboot]

@[simp] theorem State.rootVerdicts_pllsPass (root' : List PllWindows) : (s.rootVerdicts root').pllsPass root tref = s.pllsPass root tref := by
  rw [State.pllsPass, State.pllsPass, State.dieList, State.dieList, State.rootVerdicts_part]
  congr 1
  funext d
  rw [State.leftOut_of_eq (State.fld_rootVerdicts_other root' (by decide) d 0) (State.rootVerdicts_boot root')]

@[simp] theorem State.trefGood_part : s.trefGood.part = s.part := part_of_mask0 (s.trefGood_mask (Nat.and_self _)) rfl
@[simp] theorem State.trefGood_clk : s.trefGood.clk = s.clk := clk_of_mask (s.trefGood_mask (Nat.and_self _)) rfl

end

/-! Clock windows, ramps, spreading, acknowledgement and restore (R50, R53, R55, R58, R60 to R63, R520). -/

section
variable {s : State} {r : Req} {m : Master}

/-- A window of XO after its judgement: the count as it is shown, the verdict, and the failing windows in a row (R54, R56). -/
def State.xoJudged (s : State) (d c : Nat) : State :=
  { (s.setFld d .CLKMON_COUNT_XO 0 (windowCount c)).setFld d .CLK_STATUS_XO_OK 0 (b2n (windowOk (windowCount c))) with
    clk.xoFails := insertKV s.clk.xoFails d (if windowOk (windowCount c) then 0 else min 2 (lookupD s.clk.xoFails d 0 + 1)) }

/-- The second failing window of XO in a row is a clock failure (R56). -/
theorem State.xoWindow_eq (s : State) (d c : Nat) : s.xoWindow d c =
    if (if windowOk (windowCount c) then 0 else min 2 (lookupD s.clk.xoFails d 0 + 1)) = 2 then (s.xoJudged d c).clockFailure d 2 else s.xoJudged d c := rfl

theorem State.fld_xoJudged_ok (s : State) (d c : Nat) : (s.xoJudged d c).fld d .CLK_STATUS_XO_OK = b2n (windowOk (windowCount c)) := by
  refine (State.fld_setFld_same _ d .CLK_STATUS_XO_OK 0 _).trans ?_
  cases windowOk (windowCount c) <;> rfl

theorem State.fld_xoJudged_count (s : State) (d c : Nat) : (s.xoJudged d c).fld d .CLKMON_COUNT_XO = min c 1031 := by
  refine (State.fld_setFld_other _ d d 0 0 _ (by decide)).trans ((State.fld_setFld_same s d .CLKMON_COUNT_XO 0 _).trans ?_)
  exact Nat.mod_eq_of_lt (Nat.lt_of_le_of_lt (Nat.min_le_right c 1031) (by decide))

/-- The running checks of a die judge each window once step 5 is complete (R520). -/
theorem exec_clkmonWindowEnd_xo (d c : Nat) (hd : s.hasDie d = true) (hpow : s.boot.powered = true) (hstep : 5 ≤ s.stepOf 0) :
    exec (.clkmonWindowEnd d (.xo c)) s = .next (s.xoWindow d c) := by
  change execClkmonWindowEnd d (.xo c) s = _
  have hearly : ¬ (¬ s.boot.powered = true ∨ s.stepOf 0 < 5) := by simp [hpow, hstep]
  simp only [execClkmonWindowEnd, hd, not_true_eq_false, if_false, if_neg hearly]

theorem exec_clkmonWindowEnd_passes {d c : Nat} (hd : s.hasDie d = true) (hpow : s.boot.powered = true) (hstep : 5 ≤ s.stepOf 0)
    (hok : windowOk (windowCount c) = true) :
    ∃ t, exec (.clkmonWindowEnd d (.xo c)) s = .next t ∧ t.fld d .CLKMON_COUNT_XO = min c 1031 ∧ t.fld d .CLK_STATUS_XO_OK = 1 := by
  refine ⟨s.xoJudged d c, ?_, s.fld_xoJudged_count d c, by rw [State.fld_xoJudged_ok, hok]; rfl⟩
  rw [exec_clkmonWindowEnd_xo d c hd hpow hstep, State.xoWindow_eq, hok]
  rfl

theorem exec_clkmonWindowEnd_fails {d c : Nat} (hd : s.hasDie d = true) (hpow : s.boot.powered = true) (hstep : 5 ≤ s.stepOf 0)
    (hbad : windowOk (windowCount c) = false) (hone : lookupD s.clk.xoFails d 0 = 1) :
    ∃ u : State, u.fld d .CLK_STATUS_XO_OK = 0 ∧ exec (.clkmonWindowEnd d (.xo c)) s = .next (u.clockFailure d 2) := by
  refine ⟨s.xoJudged d c, by rw [State.fld_xoJudged_ok, hbad]; rfl, ?_⟩
  rw [exec_clkmonWindowEnd_xo d c hd hpow hstep, State.xoWindow_eq, hbad, hone]
  rfl

/-- A reset that nothing holds pending is due (R64, R72). -/
theorem State.requestReset_due {cause srcDie : Nat} {t : ResetTarget} (hpow : s.boot.powered = true) (hfree : s.mustHold (widen t) = false) :
    s.requestReset cause t srcDie = { s with boot.due := s.boot.due ++ [⟨cause, widen t, srcDie, false⟩] } := by
  simp only [State.requestReset, hpow, hfree, not_true_eq_false, if_false, Bool.false_eq_true]

theorem exec_clkAckTimeout_next (hawait : s.clk.awaitAck = true) (hpow : s.boot.powered = true) (hfree : s.mustHold .package = false) :
    ∃ t, exec .clkAckTimeout s = .next t ∧ t.clk.awaitAck = false ∧ t.boot.due = s.boot.due ++ [⟨7, .package, s.clk.failDie, false⟩] :=
  ⟨_, congrArg Host.Outcome.next ((if_pos hawait).trans (State.requestReset_due (s := { s with clk.awaitAck := false }) hpow hfree)), rfl, rfl⟩

/-- A write of CLK_ACK that counts acknowledges the clock failure on every die (R58). -/
theorem wrClkAck_of_counts {data : Nat} (hg : s.guardOk m = true) (hm : ackCounts m = true) (hdata : data % 2 = 1) :
    wrClkAck m 0 data s = { s.clkAll .CLK_STATUS_ACKED 1 with clk.awaitAck := false, mail.nmi := false } := by
  simp only [wrClkAck, State.guarded_ok hg, hm, hdata, ne_eq, not_true_eq_false, if_false, and_self, if_true]

theorem exec_clkAckWrite_next {data : Word} (hw : WritesNow s m 0 .CLKCTL 0x14) (hg : s.guardOk m = true) (hm : ackCounts m = true)
    (hdata : data.toNat % 2 = 1) : ∃ t, exec (.clkAckWrite m 0 data) s = .next t ∧ t.clk.awaitAck = false ∧ t.mail.nmi = false :=
  ⟨_, congrArg Host.Outcome.next ((hw.eq data _).trans (wrClkAck_of_counts (s := s.accepted) hg hm hdata)), rfl, rfl⟩

/-- While no restore ramps, the part does not leave limp (R60). -/
theorem State.leaveLimp_of_not_restoring (h : s.clk.restoring = false) : s.leaveLimp = s := by
  simp only [State.leaveLimp, h, Bool.false_eq_true, false_and, if_false]

theorem exec_dividerRampStep_rises {d x : Nat} (hd : s.hasDie d = true) (hx : x < 5) (hrest : s.clk.restoring = false)
    (hbelow : s.fld d .CLK_DIV_CURRENT x < s.goalOf d x) (hgoal : s.goalOf d x < 1024) :
    ∃ t, exec (.dividerRampStep d x) s = .next t ∧ t.fld d .CLK_DIV_CURRENT x = s.fld d .CLK_DIV_CURRENT x + 1 := by
  have hunit : ¬ (¬ s.hasDie d = true ∨ 5 ≤ x) := by simp [hd, hx]
  have hnext : s.fld d .CLK_DIV_CURRENT x + 1 < 2 ^ Fld.CLK_DIV_CURRENT.width := Nat.lt_of_le_of_lt hbelow hgoal
  refine ⟨_, (if_neg hunit).trans ((if_neg (Nat.ne_of_lt hbelow)).trans (congrArg Host.Outcome.next (State.leaveLimp_of_not_restoring hrest))), ?_⟩
  refine (State.fld_setFld_same s d .CLK_DIV_CURRENT x _).trans ?_
  rw [if_pos hbelow, Nat.mod_eq_of_lt hnext]

/-- A permitted write of a divider that software may set moves the target, or is held (R55, R63). -/
theorem wrClkDiv_of_valid {d x data : Nat} (hg : s.guardOk m = true) (hv : divValid x (data % 1024) = true) :
    wrClkDiv m d x data s = s.retarget d x (data % 1024) := by
  rw [wrClkDiv, State.guarded_ok hg]
  exact if_pos hv

theorem exec_clkDivTargetWrite_retarget {d x : Nat} {data : Word} (hx : x < 5) (hw : WritesNow s m d .CLKCTL (0x20 + 4 * x)) (hg : s.guardOk m = true)
    (hv : divValid x (data.toNat % 1024) = true) :
    exec (.clkDivTargetWrite m d x data) s = .next (s.accepted.retarget d x (data.toNat % 1024)) :=
  (if_pos hx).trans (congrArg Host.Outcome.next ((hw.eq data _).trans (wrClkDiv_of_valid (s := s.accepted) hg hv)))

/-- A restore starts in limp while none runs: ROOT_PLL is reset on every die and starts unspread (R53, R60). -/
theorem State.startRestore_of_limp (q : Option Req) (hlimp : s.fld 0 .CLK_STATUS_LIMP = 1) (hjudging : s.clk.judging = false)
    (hrest : s.clk.restoring = false) :
    s.startRestore q = { s.clkAll .CLK_STATUS_ROOT_LOCK 0 with clk.judging := true, clk.restoreReq := q, clk.depth := 0 } := by
  simp only [State.startRestore, hlimp, hjudging, hrest, Bool.false_eq_true, not_false_eq_true, and_self, if_true]

/-- A permitted write of CLK_CTRL with a valid depth and the frequency of REFB_IN unchanged sets the depth, and starts a restore with RESTORE (R53, R60). -/
theorem wrClkCtrl_of_depth {data : Nat} (hg : s.guardOk m = true) (hdepth : bits data 2 0 ≤ 4) (hfreq : bits data 6 5 = s.fld 0 .CLK_CTRL_REFB_FREQ) :
    wrClkCtrl m 0 data s = if bits data 7 7 = 1 then (s.setFld 0 .CLK_CTRL_SSC_DEPTH 0 (bits data 2 0)).startRestore none
      else s.setFld 0 .CLK_CTRL_SSC_DEPTH 0 (bits data 2 0) := by
  have hsame : bits data 6 5 = (s.setFld 0 .CLK_CTRL_SSC_DEPTH 0 (bits data 2 0)).fld 0 .CLK_CTRL_REFB_FREQ := by
    rw [State.fld_setFld_other _ _ _ _ _ _ (by decide), hfreq]
  rw [wrClkCtrl, State.guarded_ok hg]
  simp only [ne_eq, not_true_eq_false, if_false, if_pos hdepth, if_pos hsame]

theorem exec_clkCtrlRestore_depth {data : Word} (hw : WritesNow s m 0 .CLKCTL 0x10) (hg : s.guardOk m = true) (hdepth : bits data.toNat 2 0 ≤ 4)
    (hfreq : bits data.toNat 6 5 = s.fld 0 .CLK_CTRL_REFB_FREQ) (hno : bits data.toNat 7 7 = 0) :
    ∃ t, exec (.clkCtrlRestore m 0 data) s = .next t ∧ t.fld 0 .CLK_CTRL_SSC_DEPTH = bits data.toNat 2 0 := by
  refine ⟨_, congrArg Host.Outcome.next ((hw.eq data _).trans ((wrClkCtrl_of_depth (s := s.accepted) hg hdepth hfreq).trans
    (if_neg (by rw [hno]; decide)))), ?_⟩
  exact (State.fld_setFld_same _ 0 .CLK_CTRL_SSC_DEPTH 0 _).trans (Nat.mod_eq_of_lt (bits_lt data.toNat 2 0))

theorem exec_clkCtrlRestore_starts {data : Word} (hw : WritesNow s m 0 .CLKCTL 0x10) (hg : s.guardOk m = true) (hdepth : bits data.toNat 2 0 ≤ 4)
    (hfreq : bits data.toNat 6 5 = s.fld 0 .CLK_CTRL_REFB_FREQ) (hgo : bits data.toNat 7 7 = 1) (hlimp : s.fld 0 .CLK_STATUS_LIMP = 1)
    (hjudging : s.clk.judging = false) (hrest : s.clk.restoring = false) :
    ∃ t, exec (.clkCtrlRestore m 0 data) s = .next t ∧ t.clk.judging = true ∧ t.clk.depth = 0 := by
  let u := s.accepted.setFld 0 .CLK_CTRL_SSC_DEPTH 0 (bits data.toNat 2 0)
  have hlimp' : u.fld 0 .CLK_STATUS_LIMP = 1 := (State.fld_setFld_other _ 0 0 0 0 _ (by decide)).trans hlimp
  exact ⟨_, congrArg Host.Outcome.next ((hw.eq data _).trans ((wrClkCtrl_of_depth (s := s.accepted) hg hdepth hfreq).trans
    ((if_pos hgo).trans (State.startRestore_of_limp (s := u) none hlimp' hjudging hrest)))), rfl, rfl⟩

theorem exec_sscDepthApply_next (hlock : s.fld 0 .CLK_STATUS_ROOT_LOCK = 1) :
    ∃ t, exec .sscDepthApply s = .next t ∧ t.clk.depth = s.fld 0 .CLK_CTRL_SSC_DEPTH :=
  ⟨_, congrArg Host.Outcome.next (if_pos hlock), rfl⟩

/-- The judgement of a restore is over, and the verdicts on the PLLs are shown (R60). -/
def State.restoreJudged (s : State) (root : List PllWindows) : State := ({ s with clk.judging := false, clk.restoreReq := none } : State).rootVerdicts root

/-- Every domain ramps back from limp onto ROOT_PLL (R60). -/
def State.rampBack (s : State) : State :=
  let s1 := (s.clkAll .CLK_STATUS_XO_OK 1).trefGood
  let s2 := { s1 with clk.restoring := true, clk.back := s1.domains, clk.depth := s1.fld 0 .CLK_CTRL_SSC_DEPTH, clk.xoFails := [], clk.rootFails := [] }
  s2.domains.foldl (State.switchTo 0 normalDiv) s2

@[simp] theorem State.restoreJudged_pllsPass (root tref : List PllWindows) : (s.restoreJudged root).pllsPass root tref = s.pllsPass root tref :=
  State.rootVerdicts_pllsPass root tref root

/-- A switch of sources changes, beside registers, the goals of the ramps alone. -/
theorem State.switchTo_all_clk (src : Nat) (goal : Nat → Nat) (l : List (Nat × Nat)) (s : State) :
    (l.foldl (State.switchTo src goal) s).clk = { s.clk with goal := (l.foldl (State.switchTo src goal) s).clk.goal } := by
  induction l generalizing s with
  | nil => rfl
  | cons dx l ih => exact ih (State.switchTo src goal s dx)

/-- The ramp back leaves the judgement as it was and concerns every domain of the part. -/
theorem State.rampBack_clk (s : State) : s.rampBack.clk.restoring = true ∧ s.rampBack.clk.judging = s.clk.judging ∧ s.rampBack.clk.back = s.domains := by
  have hdomains : (s.clkAll .CLK_STATUS_XO_OK 1).trefGood.domains = s.domains :=
    State.domains_of_part (by simp only [State.trefGood_part, State.clkAll_part])
  rw [State.rampBack, State.switchTo_all_clk]
  simp only [hdomains, State.trefGood_clk, State.clkAll_clk, and_self]

theorem exec_restoreJudgementEnd_passes {xo : List Nat} {root tref : List PllWindows} (hjudging : s.clk.judging = true) (hreq : s.clk.restoreReq = none)
    (hxo : judged xo = true) (hplls : s.pllsPass root tref = true) :
    ∃ t, exec (.restoreJudgementEnd xo root tref) s = .next t ∧ t.clk.restoring = true ∧ t.clk.judging = false ∧ t.clk.back = s.domains := by
  obtain ⟨hrest, hdone, hback⟩ := (s.restoreJudged root).rampBack_clk
  have hjudged : (s.restoreJudged root).clk.judging = false := by simp only [State.restoreJudged, State.rootVerdicts_clk]
  refine ⟨(s.restoreJudged root).rampBack, ?_, hrest, hdone.trans hjudged, hback.trans (State.domains_of_part (State.rootVerdicts_part root))⟩
  refine (if_neg (Decidable.not_not.mpr hjudging)).trans ((if_pos ⟨hxo, (State.restoreJudged_pllsPass root tref).trans hplls⟩).trans ?_)
  simp only [hreq, State.rampBack, State.restoreJudged]

theorem exec_restoreJudgementEnd_fails {xo : List Nat} {root tref : List PllWindows} (hjudging : s.clk.judging = true) (hreq : s.clk.restoreReq = none)
    (hfail : ¬ (judged xo = true ∧ s.pllsPass root tref = true)) :
    ∃ t, exec (.restoreJudgementEnd xo root tref) s = .next t ∧ t.clk.judging = false ∧ t.clk.restoring = s.clk.restoring ∧
      ∀ d, s.hasDie d = true → t.fld d .CLK_STATUS_RESTORE_FAIL = 1 ∧ t.fld d .CLK_STATUS_LIMP = s.fld d .CLK_STATUS_LIMP := by
  refine ⟨(s.restoreJudged root).clkAll .CLK_STATUS_RESTORE_FAIL 1, ?_, ?_, ?_, fun d hd => ⟨State.fld_clkAll_same ?_ _ _, ?_⟩⟩
  · have hfail' : ¬ (judged xo = true ∧ (s.restoreJudged root).pllsPass root tref = true) := by rwa [State.restoreJudged_pllsPass]
    refine (if_neg (Decidable.not_not.mpr hjudging)).trans ((if_neg hfail').trans ?_)
    rw [hreq]
    rfl
  · simp only [State.clkAll_clk, State.restoreJudged, State.rootVerdicts_clk]
  · simp only [State.clkAll_clk, State.restoreJudged, State.rootVerdicts_clk]
  · exact (State.hasDie_of_part (State.rootVerdicts_part root) d).trans hd
  · rw [State.fld_clkAll_other _ (by decide), State.restoreJudged, State.fld_rootVerdicts_other _ (by decide)]
    rfl

theorem exec_clkSpread_replies {depth : Nat} (hs : Serves s r 0x0821 none) (hdepth : depth ≤ 4) (hgr : s.granted r.dom = true) :
    exec (.clkSpread r depth) s = .next (s.replies r 0x0821 none (fun t => (t.setFld 0 .CLK_CTRL_SSC_DEPTH 0 depth, []))) := by
  refine congrArg Host.Outcome.next (hs.replies ?_)
  simp only [Nat.not_lt.mpr hdepth, State.handling_granted, hgr, not_true_eq_false, if_false]

theorem exec_clkRestore_defers (hs : Serves s r 0x0822 none) (hgr : s.granted r.dom = true) (hjudging : s.clk.judging = false)
    (hrest : s.clk.restoring = false) (hlimp : s.fld 0 .CLK_STATUS_LIMP = 1) :
    exec (.clkRestore r) s = .next (s.defers r 0x0822 none (fun t =>
      { t.clkAll .CLK_STATUS_ROOT_LOCK 0 with clk.judging := true, clk.restoreReq := some r, clk.depth := 0 })) := by
  refine congrArg Host.Outcome.next (hs.defers ?_)
  have hstart := State.startRestore_of_limp (s := s.handling r 0x0822) (some r) (by simpa using hlimp) (by simpa using hjudging) (by simpa using hrest)
  simp only [State.handling_granted, hgr, State.handling_clk, hjudging, hrest, State.handling_fld, hlimp, not_true_eq_false, Bool.false_eq_true, or_self,
    Nat.one_ne_zero, if_false, hstart]

end

/-- Settles O5, clause by clause. -/
theorem clockRowsComplete : Obligations.ClockRowsComplete := fun _ =>
  ⟨fun _ _ => exec_clkmonWindowEnd_passes, fun _ _ => exec_clkmonWindowEnd_fails, exec_clkAckTimeout_next, fun _ _ => exec_clkAckWrite_next,
    fun _ _ => exec_dividerRampStep_rises, fun _ _ _ _ => exec_clkDivTargetWrite_retarget, fun _ _ => exec_clkCtrlRestore_depth,
    fun _ _ => exec_clkCtrlRestore_starts, exec_sscDepthApply_next, fun _ _ _ => exec_restoreJudgementEnd_passes,
    fun _ _ _ => exec_restoreJudgementEnd_fails, fun _ _ => exec_clkSpread_replies, fun _ => exec_clkRestore_defers⟩

/-! Every domain on ROOT_PLL (R55). -/

section
variable {s : State}

/-- After a switch of every domain each runs from the source and ramps toward its divider. -/
theorem State.switchTo_all {d x : Nat} (src : Nat) (goal : Nat → Nat) (hd : s.hasDie d = true) (hx : x < 5) (u : State) :
    (s.domains.foldl (State.switchTo src goal) u).fld d .CLK_DIV_SRC x = src % 4 ∧
      (s.domains.foldl (State.switchTo src goal) u).goalOf d x = goal x := by
  have hmem : (d, x) ∈ s.domains := State.mem_domains hd hx
  constructor
  · refine foldl_brings (fun t : State => t.fld d .CLK_DIV_SRC x = src % 2 ^ Fld.CLK_DIV_SRC.width) (fun t => ?_) (fun t e h => ?_) hmem u
    · exact State.fld_setFld_same _ d .CLK_DIV_SRC x src
    · have hcur : (t.setFld e.1 .CLK_DIV_CURRENT e.2 (startDiv src (t.fld e.1 .CLK_DIV_SRC e.2) (t.fld e.1 .CLK_DIV_CURRENT e.2))).fld d .CLK_DIV_SRC x =
          src % 2 ^ Fld.CLK_DIV_SRC.width := (State.fld_setFld_other _ _ _ _ _ _ (by decide)).trans h
      by_cases hex : x = e.2
      · subst hex
        exact State.fld_setFld_again hcur e.1
      · exact (State.fld_setFld_index _ _ _ _ _ hex).trans hcur
  · refine foldl_brings (fun t : State => ∀ v, lookupD t.clk.goal (d, x) v = goal x) (fun t v => ?_) (fun t e h v => ?_) hmem u _
    · exact lookupD_insertKV_same _ _ _ _
    · by_cases hex : (d, x) = e
      · subst hex
        exact lookupD_insertKV_same _ _ _ _
      · exact (lookupD_insertKV_other _ _ _ hex).trans (h v)

/-- A switch of sources leaves the fields other than those of the dividers. -/
theorem State.fld_switchTo_all (src : Nat) (goal : Nat → Nat) (l : List (Nat × Nat)) (u : State) {f : Fld} (hcur : f ≠ .CLK_DIV_CURRENT)
    (hsrc : f ≠ .CLK_DIV_SRC) (d i : Nat) : (l.foldl (State.switchTo src goal) u).fld d f i = u.fld d f i :=
  foldl_keeps (fun t : State => t.fld d f i) (g := State.switchTo src goal)
    (fun _ _ => (State.fld_setFld_other _ _ _ _ _ _ hsrc).trans (State.fld_setFld_other _ _ _ _ _ _ hcur)) l u

/-! The steps of the dies that start together (R73). -/

/-- DIE_0 takes part in every start-up of the package. -/
theorem State.zero_mem_starting (h : s.hasDie 0 = true) : 0 ∈ s.starting :=
  List.mem_filter.mpr ⟨State.mem_dieList h, by simp [State.leftOut]⟩

theorem State.stepOf_setAll (h : s.hasDie 0 = true) (n : Nat) : (s.setAll n).stepOf 0 = n := by
  refine foldl_brings (fun t : State => ∀ v, lookupD t.boot.step 0 v = n) (fun t v => ?_) (fun t d ht v => ?_) (State.zero_mem_starting h) s 0
  · exact lookupD_insertKV_same _ _ _ _
  · by_cases hd : 0 = d
    · subst hd
      exact lookupD_insertKV_same _ _ _ _
    · exact (lookupD_insertKV_other _ _ _ hd).trans (ht v)

theorem State.setAll_xoPassed (s : State) (n : Nat) : (s.setAll n).boot.xoPassed = s.boot.xoPassed :=
  foldl_keeps (fun t : State => t.boot.xoPassed) (fun _ _ => by rfl) _ _

theorem State.setAll_pkg (s : State) (n : Nat) : (s.setAll n).boot.pkg = s.boot.pkg :=
  foldl_keeps (fun t : State => t.boot.pkg) (fun _ _ => by rfl) _ _

theorem State.setAll_fw (s : State) (n : Nat) : (s.setAll n).fw = s.fw :=
  foldl_keeps State.fw (fun _ _ => by rfl) _ _

/-- Of the reset and start-up state the end of step 5 changes the steps alone. -/
theorem State.endStep5_boot (s : State) : s.endStep5.boot = (s.setAll (if s.fld 0 .RST_STATUS_BOOTSEL_RAW = 15 then 5 else 6)).boot := by
  refine (foldl_keeps State.boot (fun t n => ?_) _ _).trans ?_
  · by_cases h : t.fld 0 .TRG_CFG_SRC n = 0
    · simp only [if_pos h, boot_of_mask (t.trgArm_mask n (Nat.and_self _)) rfl]
    · simp only [if_neg h]
  · split <;> rfl

theorem State.four_lt_stepOf_endStep5 (h : s.hasDie 0 = true) : 4 < s.endStep5.stepOf 0 := by
  rw [State.stepOf, State.endStep5_boot, ← State.stepOf, State.stepOf_setAll h]
  split <;> omega

theorem State.endStep5_xoPassed (s : State) : s.endStep5.boot.xoPassed = s.boot.xoPassed := by
  rw [State.endStep5_boot, State.setAll_xoPassed]

theorem State.endStep5_clk (s : State) : s.endStep5.clk = s.clk := clk_of_mask (s.endStep5_mask (Nat.and_self _)) rfl

/-! The steps of a package start-up (R50, R54, R73, R75, R81, R473). -/

/-- A die whose trim load ends, before the fuse map of its pins: TRIM_ERR, and on DIE_0 the code of BOOTSEL and the debug scopes of MANUFACTURE (R75, R76). -/
def State.trimmed (s : State) (d : Nat) (parityFail : Bool) (cs : List Nat) : State :=
  let s0 : State := { s with boot.loading := s.boot.loading.filter (fun x => decide (x ≠ d)) }
  let s1 := if parityFail then s0.flag 0 .RST_STATUS_TRIM_ERR else s0
  let s2 := if s1.boot.pkg ∧ d = 0 then s1.sampleBootsel cs else s1
  if s2.boot.pkg ∧ d = 0 ∧ s2.sec.lc = 0 then s2.setDbgAuth 7 1 else s2

theorem State.trimmed_boot (s : State) (d : Nat) (parityFail : Bool) (cs : List Nat) :
    (s.trimmed d parityFail cs).boot = { s.boot with loading := s.boot.loading.filter (fun x => decide (x ≠ d)) } := by
  have hflag : ∀ t : State, (t.flag 0 .RST_STATUS_TRIM_ERR).boot = t.boot := fun _ => rfl
  have hsample : ∀ t : State, (t.sampleBootsel cs).boot = t.boot := fun t => boot_of_mask (t.sampleBootsel_mask cs (Nat.and_self _)) rfl
  have hdbg : ∀ t : State, (t.setDbgAuth 7 1).boot = t.boot := fun t => boot_of_mask (t.setDbgAuth_mask 7 1 (Nat.and_self _)) rfl
  simp only [State.trimmed, apply_ite State.boot, hflag, hsample, hdbg, ite_self]

/-- The fuse map of a die's pins is applied with its trim load (R32). -/
theorem State.mem_applyPins (s : State) (d : Nat) : d ∈ (s.applyPins d).pins.applied := by
  by_cases h : d ∈ s.pins.applied <;> simp [State.applyPins, h]

theorem exec_trimLoadEnd_next {d : Nat} {parityFail : Bool} {cs : List Nat} (hpkg : s.boot.pkg = true) (hd : s.hasDie d = true) (hload : d ∈ s.boot.loading) :
    ∃ t, exec (.trimLoadEnd d parityFail cs) s = .next t ∧ t.stepOf d = max 3 (s.stepOf 0) ∧ d ∈ t.pins.applied ∧ d ∉ t.boot.loading := by
  have hboot := s.trimmed_boot d parityFail cs
  refine ⟨(((s.trimmed d parityFail cs).applyPins d).setStep d (max 3 (s.stepOf 0))).freeHeld, ?_, ?_, (s.trimmed d parityFail cs).mem_applyPins d, ?_⟩
  · have hstep : (if (s.trimmed d parityFail cs).boot.pkg then max 3 ((s.trimmed d parityFail cs).stepOf 0) else 7) = max 3 (s.stepOf 0) := by
      rw [State.stepOf, hboot]
      exact if_pos hpkg
    rw [← hstep]
    exact (if_neg (Decidable.not_not.mpr hd)).trans (if_neg (Decidable.not_not.mpr hload))
  · exact lookupD_insertKV_same _ _ _ _
  · change d ∉ (s.trimmed d parityFail cs).boot.loading
    rw [hboot]
    simp

theorem exec_xoJudgementEnd_passes {counts : List Nat} (hpkg : s.boot.pkg = true) (h0 : s.hasDie 0 = true) (hall : s.allAt 3 = true)
    (hjudged : judged counts = true) : ∃ t, exec (.xoJudgementEnd counts) s = .next t ∧ t.stepOf 0 = 4 ∧ t.boot.xoPassed = true := by
  refine ⟨{ (s.clkAll .CLK_STATUS_XO_OK 1).setAll 4 with boot.xoPassed := true }, ?_, ?_, rfl⟩
  · exact (if_neg (Decidable.not_not.mpr ⟨hall, hpkg⟩)).trans (if_pos hjudged)
  · exact State.stepOf_setAll ((State.hasDie_of_part (State.clkAll_part _ _ _) 0).trans h0) 4

@[simp] theorem State.allLimp_part (s : State) : s.allLimp.part = s.part := part_of_mask0 (s.allLimp_mask (Nat.and_self _)) rfl

/-- Where XO fails its judgement, every domain stays on IRC and the start-up goes on in limp (R54, R74). -/
theorem exec_xoJudgementEnd_fails {counts : List Nat} (hpkg : s.boot.pkg = true) (h0 : s.hasDie 0 = true) (hall : s.allAt 3 = true)
    (hjudged : judged counts = false) : ∃ t, exec (.xoJudgementEnd counts) s = .next t ∧ 4 < t.stepOf 0 ∧ t.boot.xoPassed = false := by
  let u : State := { (((s.clkAll .CLK_STATUS_LIMP 1).clkAll .CLK_STATUS_CAUSE 1).clkAll .CLK_STATUS_TREF_HOLD 1).allLimp with boot.xoPassed := false }
  have hpart : u.part = s.part := (State.allLimp_part _).trans (by simp only [State.clkAll_part])
  refine ⟨u.endStep5, ?_, State.four_lt_stepOf_endStep5 ((State.hasDie_of_part hpart 0).trans h0), u.endStep5_xoPassed⟩
  exact (if_neg (Decidable.not_not.mpr ⟨hall, hpkg⟩)).trans (if_neg (by rw [hjudged]; decide))

/-- The verdict on each die's TREF_PLL: TREF_LOCK or TREF_HOLD (R50). -/
def State.trefVerdicts (s : State) (tref : List PllWindows) : State :=
  s.dieList.foldl (fun t d => t.setFld d (if pllPasses tref d then .CLK_STATUS_TREF_LOCK else .CLK_STATUS_TREF_HOLD) 0 1) s

/-- The domains after the verdicts: onto ROOT_PLL where that of every die has passed, else on IRC with LIMP and CAUSE 3 (R55, R73). -/
def State.ontoRoot (s : State) (root : List PllWindows) : State :=
  if s.dieList.all (fun d => pllPasses root d || s.leftOut d) then
    let t := { s with clk.depth := s.fld 0 .CLK_CTRL_SSC_DEPTH }
    t.domains.foldl (State.switchTo 0 normalDiv) t
  else (s.clkAll .CLK_STATUS_LIMP 1).clkAll .CLK_STATUS_CAUSE 3

/-- The state in which step 5 ends. -/
def State.pllJudged (s : State) (root tref : List PllWindows) : State := ((s.allLimp.rootVerdicts root).trefVerdicts tref).ontoRoot root

theorem exec_pllJudgementEnd_eq (root tref : List PllWindows) (hpkg : s.boot.pkg = true) (hall : s.allAt 4 = true) :
    exec (.pllJudgementEnd root tref) s = .next (s.pllJudged root tref).endStep5 := if_neg (Decidable.not_not.mpr ⟨hall, hpkg⟩)

@[simp] theorem State.trefVerdicts_part (s : State) (tref : List PllWindows) : (s.trefVerdicts tref).part = s.part :=
  foldl_keeps State.part (fun _ _ => by rfl) _ _

theorem State.fld_trefVerdicts_lock {tref : List PllWindows} {d : Nat} (hd : s.hasDie d = true) (h : pllPasses tref d = true) :
    (s.trefVerdicts tref).fld d .CLK_STATUS_TREF_LOCK = 1 :=
  foldl_brings (fun t : State => t.fld d .CLK_STATUS_TREF_LOCK = 1 % 2 ^ Fld.CLK_STATUS_TREF_LOCK.width) (fun t => by
      simp only [if_pos h, t.fld_setFld_same])
    (fun t e ht => by
      by_cases he : pllPasses tref e = true
      · simp only [if_pos he, State.fld_setFld_again ht]
      · simpa only [if_neg he, t.fld_setFld_other e d 0 0 1 (show Fld.CLK_STATUS_TREF_LOCK ≠ .CLK_STATUS_TREF_HOLD by decide)] using ht)
    (State.mem_dieList hd) s

theorem State.fld_trefVerdicts_other (tref : List PllWindows) {f : Fld} (hlock : f ≠ .CLK_STATUS_TREF_LOCK) (hhold : f ≠ .CLK_STATUS_TREF_HOLD) (d i : Nat) :
    (s.trefVerdicts tref).fld d f i = s.fld d f i :=
  foldl_keeps (fun t : State => t.fld d f i) (fun t e => t.fld_setFld_other e d 0 i 1 (by split <;> assumption)) _ _

@[simp] theorem State.ontoRoot_part (s : State) (root : List PllWindows) : (s.ontoRoot root).part = s.part := by
  unfold State.ontoRoot
  split
  · exact foldl_keeps State.part (fun _ _ => by rfl) _ _
  · simp only [State.clkAll_part]

/-- The switch of the domains leaves the verdicts on the PLLs. -/
theorem State.fld_ontoRoot_lock (s : State) (root : List PllWindows) {f : Fld} (hf : f = .CLK_STATUS_ROOT_LOCK ∨ f = .CLK_STATUS_TREF_LOCK) (d : Nat) :
    (s.ontoRoot root).fld d f = s.fld d f := by
  have hother : f ≠ .CLK_DIV_CURRENT ∧ f ≠ .CLK_DIV_SRC ∧ f ≠ .CLK_STATUS_LIMP ∧ f ≠ .CLK_STATUS_CAUSE := by
    rcases hf with rfl | rfl <;> decide
  obtain ⟨hcur, hsrc, hlimp, hcause⟩ := hother
  unfold State.ontoRoot
  split
  · exact State.fld_switchTo_all _ _ _ _ hcur hsrc d 0
  · rw [State.fld_clkAll_other _ hcause, State.fld_clkAll_other _ hlimp]

/-- Where the ROOT_PLL of every die has passed, every domain runs from ROOT_PLL and ramps to its normal divider (R55). -/
theorem State.ontoRoot_domain {root : List PllWindows} {d x : Nat} (hroot : ∀ e, s.hasDie e = true → pllPasses root e = true) (hd : s.hasDie d = true)
    (hx : x < 5) : (s.ontoRoot root).fld d .CLK_DIV_SRC x = 0 ∧ (s.ontoRoot root).goalOf d x = normalDiv x := by
  have hall : s.dieList.all (fun e => pllPasses root e || s.leftOut e) = true := List.all_eq_true.mpr (fun e he => by
    rw [hroot e (decide_eq_true (List.mem_range.mp he)), Bool.true_or])
  rw [State.ontoRoot, if_pos hall]
  exact State.switchTo_all (s := { s with clk.depth := s.fld 0 .CLK_CTRL_SSC_DEPTH }) 0 normalDiv hd hx _

/-- The end of step 5 leaves the locks and the dividers. -/
theorem State.fld_endStep5 (s : State) {f : Fld} (hf : f = .CLK_STATUS_ROOT_LOCK ∨ f = .CLK_STATUS_TREF_LOCK ∨ f = .CLK_DIV_SRC ∨ f = .CLK_DIV_CURRENT)
    (d i : Nat) : s.endStep5.fld d f i = s.fld d f i := by
  rcases hf with rfl | rfl | rfl | rfl <;> exact fld_of_mask (s.endStep5_mask (Nat.and_self _)) rfl _ rfl (.inr ⟨by decide, by decide⟩) d i

theorem State.goalOf_endStep5 (s : State) (d x : Nat) : s.endStep5.goalOf d x = s.goalOf d x := by
  rw [State.goalOf, State.goalOf, State.endStep5_clk, s.fld_endStep5 (.inr (.inr (.inr rfl)))]

theorem exec_pllJudgementEnd_next {root tref : List PllWindows} (hpkg : s.boot.pkg = true) (h0 : s.hasDie 0 = true) (hall : s.allAt 4 = true) :
    ∃ t, exec (.pllJudgementEnd root tref) s = .next t ∧ 4 < t.stepOf 0 ∧
      ∀ d, s.hasDie d = true → (pllPasses root d = true → t.fld d .CLK_STATUS_ROOT_LOCK = 1) ∧
        (pllPasses tref d = true → t.fld d .CLK_STATUS_TREF_LOCK = 1) ∧
        ((∀ e, s.hasDie e = true → pllPasses root e = true) → ∀ x, x < 5 → t.fld d .CLK_DIV_SRC x = 0 ∧ t.goalOf d x = normalDiv x) := by
  have hlimp : ∀ e, s.allLimp.hasDie e = s.hasDie e := State.hasDie_of_part s.allLimp_part
  have hroots : ∀ e, (s.allLimp.rootVerdicts root).hasDie e = s.hasDie e := fun e => (State.hasDie_of_part (State.rootVerdicts_part root) e).trans (hlimp e)
  have htrefs : ∀ e, ((s.allLimp.rootVerdicts root).trefVerdicts tref).hasDie e = s.hasDie e :=
    fun e => (State.hasDie_of_part (State.trefVerdicts_part _ tref) e).trans (hroots e)
  have hjudged : (s.pllJudged root tref).hasDie 0 = true := (State.hasDie_of_part (State.ontoRoot_part _ root) 0).trans ((htrefs 0).trans h0)
  refine ⟨_, exec_pllJudgementEnd_eq root tref hpkg hall, State.four_lt_stepOf_endStep5 hjudged,
    fun d hd => ⟨fun hpass => ?_, fun hpass => ?_, fun hroot x hx => ?_⟩⟩
  · rw [State.fld_endStep5 _ (.inl rfl), State.pllJudged, State.fld_ontoRoot_lock _ _ (.inl rfl), State.fld_trefVerdicts_other _ (by decide) (by decide)]
    exact State.fld_rootVerdicts_lock ((hlimp d).trans hd) hpass
  · rw [State.fld_endStep5 _ (.inr (.inl rfl)), State.pllJudged, State.fld_ontoRoot_lock _ _ (.inr rfl)]
    exact State.fld_trefVerdicts_lock ((hroots d).trans hd) hpass
  · rw [State.fld_endStep5 _ (.inr (.inr (.inl rfl))), State.goalOf_endStep5]
    exact State.ontoRoot_domain (fun e he => hroot e ((htrefs e).symm.trans he)) ((htrefs d).trans hd) hx

/-- Step 6 is complete on DIE_0 whichever BOOTSEL defaults come into force (R43, R81). -/
theorem State.stepOf_bootPins_setAll {u : State} (hpart : u.part = s.part) (h0 : s.hasDie 0 = true) (n : Nat) : (u.setAll n).bootPins.stepOf 0 = n :=
  State.stepOf_setAll ((State.hasDie_of_part hpart 0).trans h0) n

@[simp] theorem State.applyOptions_part (s : State) (bs : List Byte) : (s.applyOptions bs).part = s.part :=
  part_of_mask0 (s.applyOptions_mask bs (Nat.and_self _)) rfl

theorem exec_optionLoadEnd_next (hpkg : s.boot.pkg = true) (h0 : s.hasDie 0 = true) (hall : s.allAt 5 = true) :
    ∃ t, exec .optionLoadEnd s = .next t ∧ t.stepOf 0 = 6 := by
  change ∃ t, execOptionLoadEnd s = .next t ∧ t.stepOf 0 = 6
  rw [execOptionLoadEnd, if_neg (Decidable.not_not.mpr ⟨hall, hpkg⟩)]
  by_cases haborts : s.fld 0 .RST_STATUS_OPT_ABORTS = 3
  · refine ⟨_, if_pos haborts, State.stepOf_bootPins_setAll ?_ h0 6⟩
    rfl
  · rw [if_neg haborts]
    cases hbank : (s.setFld 0 .RST_STATUS_OPT_ABORTS 0 0).bankInUse with
    | none =>
      simp only [hbank]
      refine ⟨_, rfl, State.stepOf_bootPins_setAll ?_ h0 6⟩
      rfl
    | some b =>
      simp only [hbank]
      refine ⟨_, rfl, State.stepOf_bootPins_setAll ?_ h0 6⟩
      simp only [State.setFlds, State.setFld_part, State.applyOptions_part]

/-- The state that a verified bundle leaves before its cores start: SLOT, the measurements, the bundle that booted (R473, R478). -/
def State.bundleBooted (s : State) (p : BootPick) (i : BundleInfo) : State :=
  { (s.setFld 0 .SEC_STATUS_SLOT 0 p.slot).measureBoot i with
    fw.bundle := some i, fw.running := s.fwUnits.map (fun u => (u, i)), boot.slotUsed := p.slot, boot.chunks := p.bytes, boot.pkg := false }

@[simp] theorem State.measureBoot_part (s : State) (i : BundleInfo) : (s.measureBoot i).part = s.part :=
  part_of_mask0 (s.measureBoot_mask i (Nat.and_self _)) rfl

/-- The verdicts of step 7 so far: SLOT_FAIL and LAST_FAIL. -/
def State.verifyShown (s : State) (p : BootPick) : State := s.setFlds 0 0 [(.SEC_STATUS_SLOT_FAIL, p.slotFail), (.SEC_STATUS_LAST_FAIL, p.lastFail)]

/-- The end of step 7: the cores start the verified bundle, or BOOT_FAIL shows that none is (R473). -/
def State.bootVerified (s : State) (p : BootPick) : State :=
  match p.info with
  | none => (s.verifyShown p).flag 0 .SEC_STATUS_BOOT_FAIL
  | some i => (((s.verifyShown p).bundleBooted p i).startCores i ((s.verifyShown p).bundleBooted p i).fwUnits).startPcie.setAll 7

theorem exec_bootVerifyEnd_eq (partner : List Byte) (hpkg : s.boot.pkg = true) (hall : s.allAt 6 = true) (hgood : s.fld 0 .SEC_STATUS_BOOT_FAIL = 0)
    (hchunks : s.fld 0 .RST_STATUS_BOOTSEL_EFF = 3 → s.boot.chunkTotal = some s.boot.chunks.length) :
    exec (.bootVerifyEnd partner) s = .next (s.bootVerified (s.bootPick partner)) := by
  have hopen : ¬ (¬ (s.allAt 6 = true ∧ s.boot.pkg = true) ∨ s.fld 0 .SEC_STATUS_BOOT_FAIL = 1) := by simp [hall, hpkg, hgood]
  have hwhole : ¬ (s.fld 0 .RST_STATUS_BOOTSEL_EFF = 3 ∧ s.boot.chunkTotal ≠ some s.boot.chunks.length) := fun ⟨hcode, hpart⟩ => hpart (hchunks hcode)
  refine (if_neg hopen).trans ((if_neg hwhole).trans ?_)
  simp only [State.bootVerified, State.bundleBooted, State.verifyShown]
  cases (s.bootPick partner).info <;> rfl

theorem State.startCores_bundle (s : State) (i : BundleInfo) (us : List FwUnit) : (s.startCores i us).fw.bundle = s.fw.bundle :=
  foldl_keeps (fun t : State => t.fw.bundle) (fun _ _ => by rfl) _ _

/-- The start of the cores and of the PCI Express controllers leaves the bundle, the start-up state and the part. -/
theorem State.startCores_startPcie_keeps (s : State) (i : BundleInfo) (us : List FwUnit) :
    (s.startCores i us).startPcie.part = s.part ∧ (s.startCores i us).startPcie.boot = s.boot ∧ (s.startCores i us).startPcie.fw.bundle = s.fw.bundle := by
  have hpcie := (s.startCores i us).startPcie_mask (Nat.and_self _)
  have hcores := s.startCores_mask i us (Nat.and_self _)
  exact ⟨(part_of_mask0 hpcie rfl).trans (part_of_mask0 hcores rfl), (boot_of_mask hpcie rfl).trans (boot_of_mask hcores rfl),
    (congrArg FwState.bundle (fw_of_mask hpcie rfl)).trans (s.startCores_bundle i us)⟩

theorem exec_bootVerifyEnd_next {partner : List Byte} (hpkg : s.boot.pkg = true) (h0 : s.hasDie 0 = true) (hall : s.allAt 6 = true)
    (hgood : s.fld 0 .SEC_STATUS_BOOT_FAIL = 0) (hchunks : s.fld 0 .RST_STATUS_BOOTSEL_EFF = 3 → s.boot.chunkTotal = some s.boot.chunks.length) :
    ∃ t, exec (.bootVerifyEnd partner) s = .next t ∧
      (∀ i, (s.bootPick partner).info = some i → t.stepOf 0 = 7 ∧ t.fw.bundle = some i ∧ t.boot.pkg = false) ∧
      ((s.bootPick partner).info = none → t.fld 0 .SEC_STATUS_BOOT_FAIL = 1) := by
  refine ⟨_, exec_bootVerifyEnd_eq partner hpkg hall hgood hchunks, fun i hinfo => ?_, fun hinfo => ?_⟩
  · let u := (s.verifyShown (s.bootPick partner)).bundleBooted (s.bootPick partner) i
    have hend : s.bootVerified (s.bootPick partner) = (u.startCores i u.fwUnits).startPcie.setAll 7 := by simp only [State.bootVerified, hinfo, u]
    have hupart : u.part = s.part := by
      simp only [u, State.bundleBooted, State.measureBoot_part, State.setFld_part, State.verifyShown, State.setFlds]
    obtain ⟨hpart, hboot, hbundle⟩ := u.startCores_startPcie_keeps i u.fwUnits
    rw [hend]
    refine ⟨State.stepOf_setAll ((State.hasDie_of_part (hpart.trans hupart) 0).trans h0) 7, ?_, ?_⟩
    · exact (congrArg FwState.bundle (State.setAll_fw _ 7)).trans hbundle
    · exact (State.setAll_pkg _ 7).trans (congrArg BootState.pkg hboot)
  · have hend : s.bootVerified (s.bootPick partner) = (s.verifyShown (s.bootPick partner)).flag 0 .SEC_STATUS_BOOT_FAIL := by
      simp only [State.bootVerified, hinfo]
    rw [hend]
    exact State.fld_setFld_same _ 0 .SEC_STATUS_BOOT_FAIL 0 1

end

/-- Settles O2, step by step. -/
theorem startupStepsComplete : Obligations.StartupStepsComplete := fun _ _ hpkg h0 =>
  ⟨fun _ _ _ => exec_trimLoadEnd_next hpkg, fun _ => exec_xoJudgementEnd_passes hpkg h0, fun _ => exec_xoJudgementEnd_fails hpkg h0,
    fun _ _ => exec_pllJudgementEnd_next hpkg h0, exec_optionLoadEnd_next hpkg h0, fun _ => exec_bootVerifyEnd_next hpkg h0⟩

end Sys2Proof.Machine
end

section
/-!
SUPPORT and PROOFS. The canonical form of the memories along every step, and what the accesses to memory and the doorbells leave of it
(05_registers_and_address_map.md).
-/
namespace Sys2Proof.Machine

/-! The canonical form of memory and flash (R90; notes/assumptions/4, 5). -/

/-- Every row keeps the canonical form of both memories: the named rows may write one of them, and the masks of the others leave both out. -/
theorem exec_wf (i : Instr) (s : State) (hw : Canonical s) : CanonicalOut (exec i s) := by
  cases i with
  | brownOut die => exact execBrownOut_wf die s hw
  | resetTakeEffect => exact execResetTakeEffect_wf s hw
  | dramTrainingEnd die => exact execDramTrainingEnd_wf die s hw
  | fabricUp t => exact execFabricUp_wf t s hw
  | firmwareStart t => exact execFirmwareStart_wf t s hw
  | optWrite r expected options => exact execOptWrite_wf r expected options s hw
  | release r range => exact execRelease_wf r range s hw
  | registerWrite m addr size data => exact execRegisterWrite_wf m addr size data s hw
  | postedWriteComplete die blk => exact execPostedWriteComplete_wf die blk s hw
  | pairLoWrite m addr data => exact execPairLoWrite_wf m addr data s hw
  | pairHiWrite m addr data => exact execPairHiWrite_wf m addr data s hw
  | mbReqTailWrite m dom data units => exact execMbReqTailWrite_wf m dom data units s hw
  | fwPersistWriteEnd ok => exact execFwPersistWriteEnd_wf ok s hw
  | spillStart die silo slice => exact execSpillStart_wf die silo slice s hw
  | spillCopyEnd die silo slice => exact execSpillCopyEnd_wf die silo slice s hw
  | refillCopyEnd die silo slice => exact execRefillCopyEnd_wf die silo slice s hw
  | loftMapWrite m die data => exact execLoftMapWrite_wf m die data s hw
  | memLoftMap r die kvMib stookMib => exact execMemLoftMap_wf r die kvMib stookMib s hw
  | matmul die core => exact execMatmul_wf die core s hw
  | conv die core => exact execConv_wf die core s hw
  | attend die core => exact execAttend_wf die core s hw
  | kvAppend die core => exact execKvAppend_wf die core s hw
  | kvFork die core => exact execKvFork_wf die core s hw
  | kvRelease die core => exact execKvRelease_wf die core s hw
  | unary die core => exact execUnary_wf die core s hw
  | binary die core => exact execBinary_wf die core s hw
  | reduce die core => exact execReduce_wf die core s hw
  | softmax die core => exact execSoftmax_wf die core s hw
  | norm die core => exact execNorm_wf die core s hw
  | convert die core => exact execConvert_wf die core s hw
  | dwconv die core => exact execDwconv_wf die core s hw
  | pool die core => exact execPool_wf die core s hw
  | resample die core => exact execResample_wf die core s hw
  | gather die core => exact execGather_wf die core s hw
  | neighbours die core => exact execNeighbours_wf die core s hw
  | setOp die core => exact execSetOp_wf die core s hw
  | hashBuild die core => exact execHashBuild_wf die core s hw
  | hashProbe die core => exact execHashProbe_wf die core s hw
  | radixSort die core => exact execRadixSort_wf die core s hw
  | segReduce die core => exact execSegReduce_wf die core s hw
  | scatter die core => exact execScatter_wf die core s hw
  | frontier die core => exact execFrontier_wf die core s hw
  | copy die core => exact execCopy_wf die core s hw
  | nop die core => exact execNop_wf die core s hw
  | signal die core => exact execSignal_wf die core s hw
  | render die ctx => exact execRender_wf die ctx s hw
  | fastClear die ctx => exact execFastClear_wf die ctx s hw
  | expand die ctx => exact execExpand_wf die ctx s hw
  | kvPoolCreate r handle pages => exact execKvPoolCreate_wf r handle pages s hw
  | kvSeqCreate r c => exact execKvSeqCreate_wf r c s hw
  | kvSeqDestroy r seq => exact execKvSeqDestroy_wf r seq s hw
  | kvSeqSet r seq budget recent reserve decay evict => exact execKvSeqSet_wf r seq budget recent reserve decay evict s hw
  | qdbSqTailWrite m queue data written => exact execQdbSqTailWrite_wf m queue data written s hw
  | qdbCqHeadWrite m queue data => exact execQdbCqHeadWrite_wf m queue data s hw
  | sheafFetch queue => exact execSheafFetch_wf queue s hw
  | commandPlace die => exact execCommandPlace_wf die s hw
  | commandCommit die place => exact execCommandCommit_wf die place s hw
  | quantumBoundary die silo => exact execQuantumBoundary_wf die silo s hw
  | coresGuaranteeCheck die silo => exact execCoresGuaranteeCheck_wf die silo s hw
  | displayReserveStart die silo => exact execDisplayReserveStart_wf die silo s hw
  | qCreate r c => exact execQCreate_wf r c s hw
  | qDisable r queue => exact execQDisable_wf r queue s hw
  | qAcct r queue reset => exact execQAcct_wf r queue reset s hw
  | schQctlEnable m die queue => exact execSchQctlEnable_wf m die queue s hw
  | schQctlDisable m die queue => exact execSchQctlDisable_wf m die queue s hw
  | schQctlDrain m die queue => exact execSchQctlDrain_wf m die queue s hw
  | fnConfig r fn assign quota vectors aperBase => exact execFnConfig_wf r fn assign quota vectors aperBase s hw
  | fnReset r fn => exact execFnReset_wf r fn s hw
  | fnFreeze r fn => exact execFnFreeze_wf r fn s hw
  | fnSave r fn flags maxLen addr => exact execFnSave_wf r fn flags maxLen addr s hw
  | fnRestore r fn flags len addr dieMap => exact execFnRestore_wf r fn flags len addr dieMap s hw
  | fnThaw r fn => exact execFnThaw_wf r fn s hw
  | fnDiscard r fn => exact execFnDiscard_wf r fn s hw
  | functionLevelReset controller fn => exact execFunctionLevelReset_wf controller fn s hw
  | fnResetRegWrite m fn data => exact execFnResetRegWrite_wf m fn data s hw
  | fnCfgWrite m fn data => exact execFnCfgWrite_wf m fn data s hw
  | numvfsWrite controller numVfs vfEnable => exact execNumvfsWrite_wf controller numVfs vfEnable s hw
  | functionResetEnd fn => exact execFunctionResetEnd_wf fn s hw
  | verticalBlank head => exact execVerticalBlank_wf head s hw
  | csiShortPacket die rx h number => exact execCsiShortPacket_wf die rx h number s hw
  | csiLongPacket die rx h payload crcOk => exact execCsiLongPacket_wf die rx h payload crcOk s hw
  | gvspPacket die udpPort p => exact execGvspPacket_wf die udpPort p s hw
  | frameComplete die stream => exact execFrameComplete_wf die stream s hw
  | goldenCopyEnd die stream => exact execGoldenCopyEnd_wf die stream s hw
  | strCfgWrite m die stream offset data => exact execStrCfgWrite_wf m die stream offset data s hw
  | camStreamSet r die stream images => exact execCamStreamSet_wf r die stream images s hw
  | ethFrameRx die port frame fcsOk => exact execEthFrameRx_wf die port frame fcsOk s hw
  | ethFrameTx die port => exact execEthFrameTx_wf die port s hw
  | cpuTxDescriptor die ring => exact execCpuTxDescriptor_wf die ring s hw
  | pcieInboundRequest controller q => exact execPcieInboundRequest_wf controller q s hw
  | xspiCommand m c => exact execXspiCommand_wf m c s hw
  | postedWriteFail die blk cause => exact execPostedWriteFail_wf die blk cause s hw
  | fbrReadRelease die => exact execFbrReadRelease_wf die s hw
  | fbrSemTimeout die => exact execFbrSemTimeout_wf die s hw
  | fbrSemReleaseWrite m die data => exact execFbrSemReleaseWrite_wf m die data s hw
  | fbrAtomicEmulation m addr op => exact execFbrAtomicEmulation_wf m addr op s hw
  | commitCompare die place difference cycles => exact execCommitCompare_wf die place difference cycles s hw
  | mismatchSelftestEnd die place mainPass checkerPass => exact execMismatchSelftestEnd_wf die place mainPass checkerPass s hw
  | shadowToOutputCopyEnd die place => exact execShadowToOutputCopyEnd_wf die place s hw
  | apCheckpoint die pair lines equal => exact execApCheckpoint_wf die pair lines equal s hw
  | apPairSelftestEnd die pair mainPass checkerPass => exact execApPairSelftestEnd_wf die pair mainPass checkerPass s hw
  | debugAction die pair a => exact execDebugAction_wf die pair a s hw
  | mirrorTransferRx seq fn records => exact execMirrorTransferRx_wf seq fn records s hw
  | heartbeatSend => exact execHeartbeatSend_wf s hw
  | heartbeatRx alternate h => exact execHeartbeatRx_wf alternate h s hw
  | heartbeatMissed alternate => exact execHeartbeatMissed_wf alternate s hw
  | pairHandover r => exact execPairHandover_wf r s hw
  | secConfirm => exact execSecConfirm_wf s hw
  | gleanerTestStart die cluster => exact execGleanerTestStart_wf die cluster s hw
  | gleanerTestEnd die core failing => exact execGleanerTestEnd_wf die core failing s hw
  | titheWriteEnd readBack => exact execTitheWriteEnd_wf readBack s hw
  | titheEraseEnd => exact execTitheEraseEnd_wf s hw
  | _ =>
    refine canonicalOut_of_kept (?_ : Kept memMask s _) hw
    simp (disch := decide) [exec]

/-- Settles O41: an idle step keeps the form, and any other step is a row on the state with the rest of the queue, which has the same memories. -/
theorem stepKeepsCanonical : Obligations.StepKeepsCanonical := by
  unfold Obligations.StepKeepsCanonical
  intro s t hw ht
  unfold step at ht
  split at ht
  · exact canonicalOut_next (State.idle_wf s hw) t ht
  · rename_i c rest waiting
    exact exec_wf c { s with pending := rest } hw t ht

/-! The frame of the accesses to memory and of the doorbells (R90, R91, R110, R141, R274, R276, R402, R405, R412). -/

section
variable {a : Nat} {v : Byte} {s t : State}

/-- A row that leaves both memories alone leaves every byte. -/
theorem reads_of_kept {o : Out} (hk : Kept memMask s o) (h : Reads a v s) (ht : o = .next t) : Reads a v t :=
  reads_of_mask (hk t ht) h

/-- A row that always has a next state reads as that state does. -/
theorem reads_of_next {u : State} (h : Reads a v u) (ht : (.next u : Out) = .next t) : Reads a v t :=
  Host.Outcome.next.inj ht ▸ h

/-- A register write writes memory only in its effect, which acts on the state that has accepted the access. -/
theorem State.regWrite_reads (m : Master) (d : Nat) (blk : Blk) (off : Nat) (data : Word) (eff : State → State) (h : Reads a v s)
    (heff : Reads a v s.accepted → Reads a v (eff s.accepted)) : Reads a v (s.regWrite m d blk off data eff) := by
  have accepted : Reads a v s.accepted := reads_mem rfl rfl h
  unfold State.regWrite
  dsimp only
  split
  · exact reads_of_mask (State.busError_mask _ _ _ _ _ _ (by decide)) h
  · split
    · exact reads_mem rfl rfl h
    · split
      · split
        · exact reads_mem rfl rfl h
        · exact heff accepted
      · exact heff accepted

/-- A guarded write writes memory only in its effect, and only where the guard lets it through. -/
theorem State.guarded_reads (m : Master) (d : Nat) (blk : Blk) (off : Nat) (eff : State → State) (h : Reads a v s)
    (heff : Reads a v (eff s)) : Reads a v (s.guarded m d blk off eff) := by
  unfold State.guarded State.guardWrite
  by_cases hg : s.guardOk m = true
  · simpa [hg] using heff
  · simpa [hg] using reads_of_mask (State.guardViolation_mask _ _ _ _ _ (by decide)) h

/-- Writes of single cells at other addresses leave what an address reads as. -/
theorem cellGet_foldl_put (d : Byte) (place : Nat → Nat) (value : Nat → Byte) (l : List Nat) (m : List (Nat × Byte)) (hw : cellsWf d m = true)
    (hl : ∀ i ∈ l, a ≠ place i) : cellGet d (l.foldl (fun m i => cellPut d m (place i) (value i)) m) a = cellGet d m a := by
  induction l generalizing m with
  | nil => rfl
  | cons i l ih =>
    obtain ⟨hi, hl⟩ := List.forall_mem_cons.mp hl
    exact (ih _ (cellPut_wf _ _ _ _ hw) hl).trans (cellGet_put _ _ _ _ _ hw hi)

theorem State.scramble_reads {b n : Nat} (h : Reads a v s) (ha : a < b ∨ b + n ≤ a) : Reads a v (s.scramble b n) := by
  have elsewhere : ∀ i ∈ List.range n, a ≠ b + i := fun i hi => by
    have below := List.mem_range.mp hi
    omega
  exact ⟨State.scramble_wf _ _ _ h.1, (cellGet_foldl_put _ _ _ _ _ (canonical_parts.mp h.1).1 elsewhere).trans h.2⟩

/-- A new map of a Loft writes the regions it gives to the KV table and the Stook and those that move behind them (R141). -/
theorem State.putMap_reads {d kv stook : Nat} (h : Reads a v s) (ha : inRanges (s.mapStores d kv stook) a = false) : Reads a v (s.putMap d kv stook) := by
  have regions := inRanges_out ha (w := (loftBase d + 0x500000, (kv + stook) * 0x100000)) (by simp [State.mapStores])
  have moved := inRanges_out ha (w := (loftBase d + (5 + kv + stook) * 0x100000,
    (27 - max (s.fld d .LOFT_MAP_KV_MIB + s.fld d .LOFT_MAP_STOOK_MIB) (kv + stook)) * 0x100000)) (by simp [State.mapStores])
  have shown : Reads a v (s.setFlds d 0 [(.LOFT_MAP_KV_MIB, kv), (.LOFT_MAP_STOOK_MIB, stook)]) := reads_mem rfl rfl h
  unfold State.putMap
  dsimp only at regions moved ⊢
  split
  · exact shown
  · refine reads_mem (s := State.scramble _ _ _) rfl rfl (State.scramble_reads (State.moveBytes_reads _ _ _ _ shown ?_) ?_)
    · rwa [← Nat.add_assoc]
    · exact regions

theorem execLoftMapWrite_reads {m : Master} {d : Nat} {data : Word} (h : Reads a v s)
    (ha : inRanges (s.mapStores d (bits data.toNat 3 0) (bits data.toNat 20 16)) a = false) (ht : execLoftMapWrite m d data s = .next t) : Reads a v t := by
  refine reads_of_next (State.regWrite_reads _ _ _ _ _ _ h (fun haccepted => State.guarded_reads _ _ _ _ _ haccepted ?_)) ht
  dsimp only
  split
  · exact reads_of_mask (State.flag_mask _ _ _ _ (by decide)) haccepted
  · split
    · exact reads_of_mask (State.flag_mask _ _ _ _ (by decide)) haccepted
    · exact State.putMap_reads haccepted ha

/-- The units of a request lie in the client's ring of 4 KiB (R109, R110). -/
theorem State.fillRing_reads {m : Master} {dom : Dom} {units : List Byte} (h : Reads a v s) (ha : inRanges [(s.mbPlace dom, 0x1000)] a = false) :
    Reads a v (s.fillRing m dom units) := by
  have ring := inRanges_out ha (List.mem_singleton_self _)
  unfold State.fillRing State.stores
  refine reads_foldl _ _ (fun u w hw hu => State.store_reads hu ?_) _ h
  obtain ⟨k, -, rfl⟩ := List.mem_map.mp hw
  have unit := slice_length units (16 * k) 16
  dsimp only at ring ⊢
  omega

theorem execMbReqTailWrite_reads {m : Master} {dom : Dom} {data : Word} {units : List Byte} (h : Reads a v s)
    (ha : inRanges [(s.mbPlace dom, 0x1000)] a = false) (ht : execMbReqTailWrite m dom data units s = .next t) : Reads a v t :=
  reads_of_next (State.regWrite_reads _ _ _ _ _ _ (State.fillRing_reads h ha) (reads_of_mask (wrReqTail_mask _ _ _ (by decide)))) ht

/-- A client's stores fall on the bytes it names. -/
theorem State.clientWrites_reads {m : Master} {ws : List (Nat × Byte)} (h : Reads a v s) (ha : inRanges (ws.map (fun w => (w.1, 1))) a = false) :
    Reads a v (s.clientWrites m ws) := by
  refine State.stores_reads h ((inRanges_gather _ a).trans ?_)
  simp only [inRanges, List.any_map, List.any_eq_false] at ha ⊢
  exact fun w hw => ha w (List.mem_filter.mp hw).1

theorem execQdbSqTailWrite_reads {m : Master} {id : Nat} {data : Word} {written : List (Nat × Byte)} (h : Reads a v s)
    (ha : inRanges (written.map (fun w => (w.1, 1))) a = false) (ht : execQdbSqTailWrite m id data written s = .next t) : Reads a v t :=
  reads_of_next (State.regWrite_reads _ _ _ _ _ _ (State.clientWrites_reads h ha) (reads_of_mask (wrSqTail_mask _ _ _ (by decide)))) ht

/-- A record that is put into the ring advances the tail of its queue and changes nothing else of it. -/
theorem State.queue_putRecord (id : Nat) (q : Queue) (r : List Byte) : (s.putRecord id q r).queue id = some { q with cqTail := (q.cqTail + 1) % 2 ^ 32 } := by
  unfold State.putRecord
  dsimp only
  split
  · rw [State.queue, q_of_mask (State.msix_mask _ _ _ (Nat.and_self _)) rfl, ← State.queue, State.queue_setQueue]
  · exact State.queue_setQueue _ _ _

/-- A record of at most 32 bytes is put into the completion ring of its queue (R274). -/
theorem State.putRecord_reads {id : Nat} {q : Queue} {r : List Byte} (h : Reads a v s) (hr : r.length ≤ 32)
    (ha : a < q.cqBase ∨ q.cqBase + 32 * 2 ^ q.cqLog2 ≤ a) : Reads a v (s.putRecord id q r) := by
  have slot : q.cqTail % 2 ^ q.cqLog2 < 2 ^ q.cqLog2 := Nat.mod_lt _ (Nat.two_pow_pos _)
  have stored : Reads a v (s.store (schAgent (id / 65536)) (q.recAddr q.cqTail) r) := State.store_reads h (by unfold Queue.recAddr; omega)
  unfold State.putRecord
  dsimp only
  split
  · exact reads_of_mask (State.msix_mask _ _ _ (by decide)) (reads_mem rfl rfl stored)
  · exact reads_mem rfl rfl stored

/-- Held records that find room go into the completion ring (R276). -/
theorem State.flushRecords_reads {id n : Nat} {q : Queue} (h : Reads a v s) (hq : s.queue id = some q) (hr : ∀ r ∈ q.heldRecords, r.length ≤ 32)
    (ha : a < q.cqBase ∨ q.cqBase + 32 * 2 ^ q.cqLog2 ≤ a) : Reads a v (State.flushRecords id n s) := by
  induction n generalizing s q with
  | zero => exact h
  | succ n ih =>
    simp only [State.flushRecords, hq]
    split
    · rename_i r rs held
      rw [held, List.forall_mem_cons] at hr
      split
      · exact ih (State.putRecord_reads h hr.1 ha) (State.queue_putRecord _ _ _) hr.2 ha
      · exact h
    · exact h

/-- A write of QDB_CQ_HEAD lets the held records of its queue into the completion ring and writes nothing else. -/
theorem wrCqHead_reads {id x : Nat} {q : Queue} (h : Reads a v s) (hq : s.queue id = some q) (hr : ∀ r ∈ q.heldRecords, r.length ≤ 32)
    (ha : a < q.cqBase ∨ q.cqBase + 32 * 2 ^ q.cqLog2 ≤ a) : Reads a v (wrCqHead id x s) := by
  simp only [wrCqHead, hq]
  split
  · exact h
  · split
    · exact reads_mem rfl rfl h
    · exact State.flushRecords_reads (reads_mem rfl rfl h) (State.queue_setQueue _ _ _) hr ha

theorem execQdbCqHeadWrite_reads {m : Master} {id : Nat} {data : Word} {l : List (Nat × Nat)} (h : Reads a v s)
    (hl : accessStores (.qdbCqHeadWrite m id data) s = some l) (ha : inRanges l a = false) (ht : execQdbCqHeadWrite m id data s = .next t) : Reads a v t := by
  refine reads_of_next (State.regWrite_reads _ _ _ _ _ _ h (fun haccepted => ?_)) ht
  cases hq : s.queue id with
  | none => rwa [wrCqHead, show s.accepted.queue id = none from hq]
  | some q =>
    simp only [accessStores, hq, Option.ite_none_right_eq_some, Option.some.injEq] at hl
    obtain ⟨short, rfl⟩ := hl
    exact wrCqHead_reads haccepted hq (fun r hr => of_decide_eq_true (List.all_eq_true.mp short r hr)) (inRanges_out ha (List.mem_singleton_self _))

/-- A write by address writes the bytes from that address on, where they are memory (R90, R91). -/
theorem State.writeAt_stores {m : Master} {addr size data : Nat} {l : List (Nat × Nat)} (h : Reads a v s)
    (hl : (if isMemory s.part addr then some [(addr, size)] else none) = some l) (ha : inRanges l a = false) (ht : s.writeAt m addr size data = .next t) :
    Reads a v t := by
  simp only [Option.ite_none_right_eq_some, Option.some.injEq] at hl
  obtain ⟨memory, rfl⟩ := hl
  exact State.writeAt_reads s t m addr size data h memory (inRanges_out ha (List.mem_singleton_self _)) ht

/-- A request from a PCIe link writes memory only as a posted write through an inbound window (R402, R403). -/
theorem execPcieInboundRequest_reads {c : Nat} {q : PcieRequest} {l : List (Nat × Nat)} (h : Reads a v s)
    (hl : accessStores (.pcieInboundRequest c q) s = some l) (ha : inRanges l a = false) (ht : execPcieInboundRequest c q s = .next t) : Reads a v t := by
  have completed : ∀ r, Reads a v (s.complete c r) := fun r => reads_of_mask (State.complete_mask _ _ _ (by decide)) h
  unfold execPcieInboundRequest at ht
  split at ht
  · exact reads_of_next h ht
  split at ht
  · exact reads_of_next h ht
  cases q with
  | atomic => exact reads_of_next (completed none) ht
  | barRead fn bar o len =>
    dsimp only at ht
    split at ht
    · exact reads_of_kept (State.barRead_mask _ _ _ _ _ _ (by decide)) h ht
    · exact reads_of_next (completed none) ht
  | barWrite fn bar o data => cases hl
  | busRead addr len =>
    dsimp only at ht
    split at ht
    · exact reads_of_kept (State.physRead_mask _ _ _ _ _ (by decide)) h ht
    · exact reads_of_next (completed none) ht
  | busWrite addr data =>
    simp only [accessStores] at hl
    dsimp only at ht
    split at ht
    · rename_i x window
      simp only [window, Option.ite_none_right_eq_some, Option.some.injEq] at hl
      obtain ⟨memory, rfl⟩ := hl
      exact State.physWrite_reads _ _ _ _ _ h memory (inRanges_out ha (List.mem_singleton_self _)) ht
    · exact reads_of_next h ht

/-- An atomic operation on memory writes its word or doubleword, LR nothing (R139, R412). -/
theorem execFbrAtomicEmulation_reads {m : Master} {addr : Nat} {op : FbrAtomic} {l : List (Nat × Nat)} (h : Reads a v s)
    (hl : accessStores (.fbrAtomicEmulation m addr op) s = some l) (ha : inRanges l a = false) (ht : execFbrAtomicEmulation m addr op s = .next t) :
    Reads a v t := by
  simp only [accessStores, Option.ite_none_right_eq_some, Option.some.injEq] at hl
  obtain ⟨memory, rfl⟩ := hl
  have run : Reads a v (s.memAtomic m addr op) := by
    refine State.memAtomic_reads s m addr op h (fun stores => ?_)
    cases op with
    | lr w => exact absurd rfl (stores w)
    | sc => exact inRanges_out ha (List.mem_singleton_self _)
    | amo => exact inRanges_out ha (List.mem_singleton_self _)
  unfold execFbrAtomicEmulation at ht
  obtain ⟨d, o, place⟩ | ⟨d, o, place⟩ | ⟨d, o, place⟩ := isMemory_place (own := m.die) memory
  all_goals
    simp only [place] at ht
    exact reads_of_next run ht

/-- A write to flash leaves the bytes of memory. -/
theorem State.putFlash_keeps_reads {b : Nat} {bs : List Byte} (h : Reads a v s) : Reads a v (s.putFlash b bs) :=
  ⟨State.putFlash_wf _ _ _ h.1, by rw [← h.2, State.byte, putFlash_mem, State.byte]⟩

/-- So does erasing flash. -/
theorem State.eraseFlash_keeps_reads {b n : Nat} (h : Reads a v s) : Reads a v (s.eraseFlash b n) :=
  ⟨State.eraseFlash_wf _ _ _ h.1, h.2⟩

/-- A command of the xSPI controller writes memory only as a read of flash (R405). -/
theorem execXspiCommand_reads {m : Master} {c : XspiCmd} {l : List (Nat × Nat)} (h : Reads a v s) (hl : accessStores (.xspiCommand m c) s = some l)
    (ha : inRanges l a = false) (ht : execXspiCommand m c s = .next t) : Reads a v t := by
  have accepted : Reads a v s.accepted := reads_mem rfl rfl h
  have logged : ∀ d ty x (dma : Master) w, Reads a v (s.accepted.fabLog d false ty x dma w) :=
    fun _ _ _ _ _ => reads_of_mask (State.fabLog_mask _ _ _ _ _ _ _ (by decide)) accepted
  have retried : Reads a v (s.accepted.retryEnds 0 9) := reads_mem rfl rfl accepted
  unfold execXspiCommand at ht
  refine reads_of_next ?_ ht
  split
  · exact reads_of_mask (State.busError_mask _ _ _ _ _ _ (by decide)) h
  refine State.guarded_reads (s := s.accepted) _ _ _ _ _ accepted ?_
  cases c with
  | read cs fa ma n =>
    simp only [accessStores, Option.some.injEq] at hl
    subst hl
    dsimp only
    split
    · exact accepted
    · split
      · exact logged _ _ _ _ _
      · refine State.store_reads retried ?_
        rw [flashBytes_length]
        exact inRanges_out ha (List.mem_singleton_self _)
  | program cs fa ma n =>
    have woken := reads_of_mask (State.wake_mask _ ma n (by decide)) retried
    dsimp only
    split
    · exact accepted
    · split
      · exact logged _ _ _ _ _
      · split
        · exact reads_of_mask (State.readUe_mask _ _ _ (by decide)) woken
        · exact State.putFlash_keeps_reads woken
  | erase cs fa n =>
    dsimp only
    split
    · exact State.eraseFlash_keeps_reads accepted
    · exact accepted

/-- An access or a doorbell reads back every byte outside the ranges it names. -/
theorem accessRow_reads {i : Instr} {l : List (Nat × Nat)} (h : Reads a v s) (hl : accessStores i s = some l) (ht : exec i s = .next t)
    (ha : inRanges l a = false) : Reads a v t := by
  cases i with
  | registerWrite => exact State.writeAt_stores h hl ha ht
  | pairLoWrite => exact State.writeAt_stores h hl ha ht
  | pairHiWrite => exact State.writeAt_stores h hl ha ht
  | pcieInboundRequest => exact execPcieInboundRequest_reads h hl ha ht
  | fbrAtomicEmulation => exact execFbrAtomicEmulation_reads h hl ha ht
  | xspiCommand => exact execXspiCommand_reads h hl ha ht
  | mbReqTailWrite =>
    cases hl
    exact execMbReqTailWrite_reads h ha ht
  | loftMapWrite =>
    cases hl
    exact execLoftMapWrite_reads h ha ht
  | qdbSqTailWrite =>
    cases hl
    exact execQdbSqTailWrite_reads h ha ht
  | qdbCqHeadWrite => exact execQdbCqHeadWrite_reads h hl ha ht
  | _ => cases hl

end

/-- Settles O47, row by row. -/
theorem accessRowsStore : Obligations.AccessRowsStore := by
  unfold Obligations.AccessRowsStore
  intro i s t l a canonical hl ht ha
  have before : Reads a (s.byte a) s := ⟨canonical, rfl⟩
  exact (accessRow_reads before hl ht ha).2

end Sys2Proof.Machine
end

section
/-!
SUPPORT and PROOFS. The encoding of STATUS, the doorbells of a mailbox, the start of a request, the messages of the session group, and the rows of a live update
(06_firmware_and_control.md).
-/
namespace Sys2Proof.Machine

/-! The encoding of STATUS (R117). -/

theorem Status.code_le (st : Status) : st.code ≤ 0x0A := by
  cases st <;> decide

/-- Settles O54: the codes are those of the table, and none lies above 0x0A. -/
theorem statusCodes : Obligations.StatusCodes :=
  ⟨by and_intros <;> rfl, fun st ⟨hlo, _⟩ => absurd (Nat.le_trans hlo st.code_le) (by decide)⟩

/-! What the operations on a mailbox set reads back, and what they leave alone. -/

section
variable (s : State) (dom e : Dom)

@[simp] theorem State.mbFld_setMb_same (f : Fld) (v : Nat) : (s.setMb dom f v).mbFld dom f = v % 2 ^ f.width :=
  s.fld_setFld_same (homeOf s.part.dies dom) f (pageOf dom) v

theorem State.mbFld_setMb_other {f g : Fld} (v : Nat) (h : g ≠ f) : (s.setMb dom f v).mbFld e g = s.mbFld e g :=
  s.fld_setFld_other (homeOf s.part.dies dom) (homeOf s.part.dies e) (pageOf dom) (pageOf e) v h

@[simp] theorem State.box_setMb (f : Fld) (v : Nat) : (s.setMb dom f v).box e = s.box e := rfl

@[simp] theorem State.notify_mail : (s.notify dom).mail = s.mail := mail_of_mask (s.notify_mask dom (Nat.and_self _)) rfl

/-- A message that enters the response ring stands behind those of its mailbox, which is otherwise as before. -/
theorem State.box_putMsg (m : Msg) : (s.putMsg dom m).box dom = { s.box dom with rsp := (s.box dom).rsp ++ [m] } := by
  rw [State.box, State.putMsg, State.notify_mail]
  exact s.box_setBox dom _

end

/-! The doorbells of a mailbox (R110, R112, R113). -/

section
variable {s : State} {m : Master} {dom : Dom} {data : Nat}

theorem State.mem_bells_ring (s : State) (dom : Dom) (tail : Nat) : (dom, s.time.ticks, tail) ∈ (s.ring dom tail).mail.bells := by
  simp [State.ring]

/-- A tail that keeps the units held, and names no more than the ring has room for, stands; one that makes units available joins the order of R112. -/
theorem wrReqTail_of_fits (hcap : (data % 512 + 512 - s.mbFld dom .MB_REQ_HEAD_INDEX) % 512 ≤ 256)
    (hheld : s.reqHeld dom ≤ (data % 512 + 512 - s.mbFld dom .MB_REQ_HEAD_INDEX) % 512) :
    (wrReqTail dom data s).mbFld dom .MB_REQ_TAIL_INDEX = data % 512 ∧
      (s.reqHeld dom < (data % 512 + 512 - s.mbFld dom .MB_REQ_HEAD_INDEX) % 512 → (dom, s.time.ticks, data % 512) ∈ (wrReqTail dom data s).mail.bells) := by
  have htail : (s.setMb dom .MB_REQ_TAIL_INDEX (data % 512)).mbFld dom .MB_REQ_TAIL_INDEX = data % 512 :=
    (s.mbFld_setMb_same dom _ _).trans (Nat.mod_mod data 512)
  rw [wrReqTail, if_pos ⟨hcap, hheld⟩]
  split
  next => exact ⟨htail, fun _ => State.mem_bells_ring (s.setMb dom .MB_REQ_TAIL_INDEX (data % 512)) dom (data % 512)⟩
  next hnone => exact ⟨htail, fun hmore => absurd hmore hnone⟩

theorem exec_mbReqTailWrite_next {data : Word} {units : List Byte} {u : State} (hu : u = s.fillRing m dom units)
    (hw : WritesNow u m (homeOf u.part.dies dom) .MBOX (pageOf dom * 0x1000 + 0x4))
    (hcap : (data.toNat % 512 + 512 - u.mbFld dom .MB_REQ_HEAD_INDEX) % 512 ≤ 256)
    (hheld : u.reqHeld dom ≤ (data.toNat % 512 + 512 - u.mbFld dom .MB_REQ_HEAD_INDEX) % 512) :
    ∃ t, exec (.mbReqTailWrite m dom data units) s = .next t ∧ t.mbFld dom .MB_REQ_TAIL_INDEX = data.toNat % 512 ∧
      (u.reqHeld dom < (data.toNat % 512 + 512 - u.mbFld dom .MB_REQ_HEAD_INDEX) % 512 → (dom, u.time.ticks, data.toNat % 512) ∈ t.mail.bells) := by
  subst hu
  exact ⟨_, congrArg Host.Outcome.next (hw.eq data _), wrReqTail_of_fits (s := (s.fillRing m dom units).accepted) hcap hheld⟩

theorem exec_mbRspHeadWrite_next {data : Word} (hw : WritesNow s m (homeOf s.part.dies dom) .MBOX (pageOf dom * 0x1000 + 0x10))
    (hread : (data.toNat % 512 + 512 - s.mbFld dom .MB_RSP_HEAD_INDEX) % 512 ≤ s.rspHeld dom) :
    ∃ t, exec (.mbRspHeadWrite m dom data) s = .next t ∧ t.mbFld dom .MB_RSP_HEAD_INDEX = data.toNat % 512 :=
  ⟨_, congrArg Host.Outcome.next ((hw.eq data _).trans (if_pos hread)),
    (s.accepted.mbFld_setMb_same dom .MB_RSP_HEAD_INDEX (data.toNat % 512)).trans (Nat.mod_mod data.toNat 512)⟩

/-- A notification vector in range is set with its enable (R113). -/
theorem State.setNotify_of_ok {en v : Nat} (hv : s.vectorOk dom v = true) :
    (s.setNotify dom en v).mbFld dom .MB_NOTIFY_VECTOR = v % 2 ^ 11 ∧ (s.setNotify dom en v).mbFld dom .MB_NOTIFY_EN = en % 2 := by
  rw [State.setNotify, if_pos hv]
  exact ⟨State.mbFld_setMb_same _ dom _ v, (State.mbFld_setMb_other _ dom dom v (by decide)).trans (State.mbFld_setMb_same _ dom _ en)⟩

theorem exec_mbNotifyWrite_next {data : Word} (hw : WritesNow s m (homeOf s.part.dies dom) .MBOX (pageOf dom * 0x1000 + 0x28))
    (hv : s.vectorOk dom (bits data.toNat 10 0) = true) :
    ∃ t, exec (.mbNotifyWrite m dom data) s = .next t ∧ t.mbFld dom .MB_NOTIFY_VECTOR = bits data.toNat 10 0 ∧
      t.mbFld dom .MB_NOTIFY_EN = bits data.toNat 31 31 := by
  obtain ⟨hvector, hen⟩ := State.setNotify_of_ok (s := s.accepted) (en := bits data.toNat 31 31) hv
  exact ⟨_, congrArg Host.Outcome.next (hw.eq data _), hvector.trans (Nat.mod_eq_of_lt (bits_lt data.toNat 10 0)),
    hen.trans (Nat.mod_eq_of_lt (bits_lt data.toNat 31 31))⟩

end

/-! The start of a request (R111, R112, R116). -/

section
variable {s : State} {dom : Dom}

theorem State.badUnits_of_sound {n : Nat} (h : ∀ k, k < n → s.poisoned (s.reqUnit dom k) 16 = none) : s.badUnits dom n false = ([], s) := by
  have hnone : (rangeFrom 1 (n - 1)).filter (fun k => (s.poisoned (s.reqUnit dom k) 16).isSome) = [] := by
    refine List.filter_eq_nil_iff.mpr (fun k hk => ?_)
    obtain ⟨i, hi, rfl⟩ := List.mem_map.mp hk
    rw [h (1 + i) (by have := List.mem_range.mp hi; omega)]
    exact Bool.false_ne_true
  simp only [State.badUnits, hnone, Bool.false_eq_true, false_and, if_false]

/-- A sound request that its header describes is taken from the ring, and its own row serves it. -/
theorem exec_requestStart_eq {h payload : List Byte} {len n : Nat} (hhead : s.reqBytes dom 1 = h) (hlen : leAt h 4 2 = len) (hn : ringUnits len = n)
    (hpayload : slice (s.reqBytes dom n) 16 len = payload) (hheld : s.reqHeld dom ≠ 0) (hidle : (s.box dom).current = none)
    (hserve : s.canServe dom (leAt h 2 2) (s.nextReq dom).2 = true) (hmax : len ≤ 4080) (hfits : n ≤ s.reqHeld dom)
    (hsound : ∀ k, k < n → s.poisoned (s.reqUnit dom k) 16 = none) (hcrc : crc32c (slice h 0 12 ++ payload) = leAt h 12 4)
    (hform : formRefusal (s.box dom) h payload = none) :
    exec (.requestStart dom false false) s =
      .next ((s.takeUnits dom n).setBox dom { s.box dom with current := some (leAt h 2 2, (s.nextReq dom).2) }) := by
  have hgo : ¬ (s.reqHeld dom = 0 ∨ (s.box dom).current.isSome = true ∨ ¬ s.canServe dom (leAt h 2 2) (s.nextReq dom).2 = true) := by
    simp [hheld, hidle, hserve]
  have hunits : 0 < n := hn ▸ by simp only [ringUnits]; omega
  have hwhole : ¬ ((false || (s.poisoned (s.reqUnit dom 0) 16).isSome) = true ∨ 4080 < len ∨ s.reqHeld dom < n) := by
    simp [hsound 0 hunits, hmax, hfits]
  have hgood : ¬ (([] : List Nat) ≠ [] ∨ crc32c (slice h 0 12 ++ payload) ≠ leAt h 12 4) := by simp [hcrc]
  change execRequestStart dom false false s = _
  simp only [execRequestStart, hhead, hlen, hn, hpayload, if_neg hgo, if_neg hwhole, State.badUnits_of_sound hsound, List.foldl_nil, if_neg hgood, hform]
  rfl

theorem exec_requestStart_next (hheld : s.reqHeld dom ≠ 0) (hidle : (s.box dom).current = none) :
    let h := s.reqBytes dom 1
    let len := leAt h 4 2
    let n := ringUnits len
    let payload := slice (s.reqBytes dom n) 16 len
    s.canServe dom (leAt h 2 2) (s.nextReq dom).2 = true → len ≤ 4080 → n ≤ s.reqHeld dom →
    (∀ k, k < n → s.poisoned (s.reqUnit dom k) 16 = none) → crc32c (slice h 0 12 ++ payload) = leAt h 12 4 → formRefusal (s.box dom) h payload = none →
    ∃ t, exec (.requestStart dom false false) s = .next t ∧ (t.box dom).current = some (leAt h 2 2, (s.nextReq dom).2) ∧
      t.mbFld dom .MB_REQ_HEAD_INDEX = (s.mbFld dom .MB_REQ_HEAD_INDEX + n) % 512 := by
  intro h len n payload hserve hlen hfits hsound hcrc hform
  refine ⟨_, exec_requestStart_eq rfl rfl rfl rfl hheld hidle hserve hlen hfits hsound hcrc hform, ?_, ?_⟩
  · rw [State.box_setBox]
  · exact (s.mbFld_setMb_same dom .MB_REQ_HEAD_INDEX _).trans (Nat.mod_mod (s.mbFld dom .MB_REQ_HEAD_INDEX + n) 512)

end

/-! The messages of the session group (R118, R119, R124 to R126). -/

section
variable {s : State} {r : Req}

theorem Serves.of_client {op : Nat} {die : Option Nat} (hdom : r.dom ≠ fwDom) (h : Serves s r op die) :
    s.canServe r.dom op (die.getD 0) = true ∧ sessionRefusal (s.box r.dom) r op die = none := h.resolve_left hdom

theorem exec_hello_next {minor features : Nat} (hdom : r.dom ≠ fwDom) (hserve : s.canServe r.dom 0 0 = true) (hsession : r.session = 0) :
    ∃ u : State, (u.box r.dom).session = some ⟨nextSession (s.box r.dom).issued, 3, min minor 2, Nat.lor (Nat.land features fwFeatures) 1⟩ ∧
      (u.box r.dom).mask = nonMaskableBits ∧
      exec (.hello r 3 minor features) s = .next (u.respondAs r 0 (nextSession (s.box r.dom).issued) 3 (min minor 2) .ok
        (leBytes 16 (Nat.lor (Nat.land features fwFeatures) 1) ++ leBytes 2 (nextSession (s.box r.dom).issued) ++ leBytes 1 3 ++ leBytes 1 (min minor 2) ++
          leBytes 4 s.fwVersion ++ leBytes 2 r.dom.toNat ++ leBytes 1 s.part.dies ++ leBytes 5 0)) := by
  have hgo : ¬ (r.dom = fwDom ∨ ¬ s.canServe r.dom 0 0 = true) := by simp [hdom, hserve]
  have hzero : ¬ r.session.toNat ≠ 0 := by simp [hsession]
  have hmajor : ¬ ((3 ≠ 3 ∧ 3 ≠ 2) ∨ (3 = 2 ∧ ¬ bit s.mail.policy 1 = true)) := by simp
  refine ⟨s.setBox r.dom _, ?_, ?_, (if_neg hgo).trans ((if_neg hzero).trans (if_neg hmajor))⟩
  · rw [State.box_setBox]
    rfl
  · rw [State.box_setBox]

/-- The session closes after its response, and the events that wait for it are not kept. -/
theorem exec_goodbye_eq (hdom : r.dom ≠ fwDom) (hs : Serves s r 1 none) :
    exec (.goodbye r) s =
      .next ((s.respond r 1 .ok []).setBox r.dom { (s.respond r 1 .ok []).box r.dom with session := none, evq := [] }) := by
  obtain ⟨hserve, hsession⟩ := hs.of_client hdom
  have hgo : ¬ (r.dom = fwDom ∨ ¬ s.canServe r.dom 1 0 = true) := not_or.mpr ⟨hdom, not_not_intro hserve⟩
  refine (if_neg hgo).trans ?_
  simp only [hsession]

theorem exec_goodbye_next (hdom : r.dom ≠ fwDom) (hs : Serves s r 1 none) :
    ∃ t, exec (.goodbye r) s = .next t ∧ (t.box r.dom).session = none ∧ (t.box r.dom).evq = [] := by
  refine ⟨_, exec_goodbye_eq hdom hs, ?_⟩
  rw [State.box_setBox]
  exact ⟨rfl, rfl⟩

theorem exec_ping_replies {payload : List Byte} (hs : Serves s r 2 none) (hlen : payload.length ≤ 64) :
    exec (.ping r payload) s = .next (s.replies r 2 none (fun t => (t, payload))) :=
  congrArg Host.Outcome.next (hs.replies (if_neg (Nat.not_lt.mpr hlen)))

theorem exec_event_refuses (hs : Serves s r 3 none) : exec (.event r) s = .next (s.refuses r 3 none .badMessage) :=
  congrArg Host.Outcome.next (hs.refuses rfl)

@[simp] theorem State.handling_vectorOk (s : State) (r : Req) (op : Nat) (dom : Dom) (v : Nat) : (s.handling r op).vectorOk dom v = s.vectorOk dom v := by
  simp only [State.vectorOk, State.handling_fld]

theorem exec_eventMask_next {mask en v : Nat} (hs : Serves s r 4 none) (hen : en ≤ 1) (hmask : mask < 2 ^ 256) (hv : s.vectorOk r.dom v = true) :
    ∃ u : State, (u.box r.dom).mask = Nat.lor mask nonMaskableBits ∧ u.mbFld r.dom .MB_NOTIFY_EN = en ∧ u.mbFld r.dom .MB_NOTIFY_VECTOR = v % 2 ^ 11 ∧
      exec (.eventMask r mask en v) s = .next (u.answered r 4 none (some (.ok, leBytes 32 (Nat.lor mask nonMaskableBits)))) := by
  have hform : ¬ (1 < en ∨ 2 ^ 256 ≤ mask) := not_or.mpr ⟨Nat.not_lt.mpr hen, Nat.not_le.mpr hmask⟩
  let u := (s.handling r 4).setBox r.dom { (s.handling r 4).box r.dom with mask := Nat.lor mask nonMaskableBits }
  have hvu : u.vectorOk r.dom v = true := (s.handling_vectorOk r 4 r.dom v).trans hv
  obtain ⟨hvector, hset⟩ := State.setNotify_of_ok (en := en) hvu
  refine ⟨u.setNotify r.dom en v, ?_, hset.trans (Nat.mod_eq_of_lt (Nat.lt_succ_of_le hen)), hvector, congrArg Host.Outcome.next (hs.reply (if_neg hform))⟩
  rw [State.setNotify, if_pos hvu, State.box_setMb, State.box_setMb, State.box_setBox]

/-- The message of an event of a mailbox in its session (R124, R125): a major 2 session takes the seconds in 32 bits. -/
def Mailbox.eventMsg (b : Mailbox) (x : Session) (e : EvRec) : Msg :=
  ⟨3, b.evCount, x.number, 0, 2 + 4 * b2n b.lost, x.major, x.minor, (if x.major = 2 then { e with sec := e.sec % 2 ^ 32 } else e).payload⟩

theorem exec_eventRingWrite_eq {dom : Dom} {e : EvRec} {rest : List EvRec} {x : Session} (hevq : (s.box dom).evq = e :: rest)
    (hsession : (s.box dom).session = some x) (hroom : s.rspHeld dom + 3 ≤ 256) (hblack : s.blackout 2 (homeOf s.part.dies dom) = false)
    (hruns : s.fwRuns (homeOf s.part.dies dom) = true) :
    exec (.eventRingWrite dom) s =
      .next ((s.setBox dom { s.box dom with evq := rest, evCount := ((s.box dom).evCount + 1) % 2 ^ 16, lost := false }).putMsg dom ((s.box dom).eventMsg x e)) := by
  have hgo : ¬ (256 < s.rspHeld dom + 3 ∨ s.blackout 2 (homeOf s.part.dies dom) = true ∨ ¬ s.fwRuns (homeOf s.part.dies dom) = true) := by
    simp [hroom, hblack, hruns]
  change execEventRingWrite dom s = _
  simp only [execEventRingWrite, hevq, hsession, if_neg hgo]
  rfl

theorem exec_eventRingWrite_next {dom : Dom} {e : EvRec} {rest : List EvRec} {x : Session} (hevq : (s.box dom).evq = e :: rest)
    (hsession : (s.box dom).session = some x) (hroom : s.rspHeld dom + 3 ≤ 256) (hblack : s.blackout 2 (homeOf s.part.dies dom) = false)
    (hruns : s.fwRuns (homeOf s.part.dies dom) = true) :
    ∃ t, exec (.eventRingWrite dom) s = .next t ∧ (t.box dom).evq = rest ∧ (t.box dom).evCount = ((s.box dom).evCount + 1) % 2 ^ 16 := by
  refine ⟨_, exec_eventRingWrite_eq hevq hsession hroom hblack hruns, ?_⟩
  rw [State.box_putMsg, State.box_setBox]
  exact ⟨rfl, rfl⟩

end

/-- Settles O9, clause by clause. -/
theorem sessionRowsComplete : Obligations.SessionRowsComplete := fun _ =>
  ⟨fun _ _ _ _ _ => exec_mbReqTailWrite_next, fun _ _ _ => exec_mbRspHeadWrite_next, fun _ _ _ => exec_mbNotifyWrite_next, fun _ => exec_requestStart_next,
    fun _ _ _ => exec_hello_next, fun _ => exec_goodbye_next, fun _ _ => exec_ping_replies, fun _ => exec_event_refuses, fun _ _ _ _ => exec_eventMask_next,
    fun _ _ _ _ => exec_eventRingWrite_next⟩

/-! Staging, activation, status and abandonment of a staged bundle (R129, R472). -/

section
variable {s : State} {r : Req}

@[simp] theorem State.handling_fwSender (s : State) (r : Req) (op : Nat) (dom : Dom) : (s.handling r op).fwSender dom = s.fwSender dom := by
  obtain ⟨boxes, bells, h⟩ := s.handling_eq r op
  rw [h]; rfl

@[simp] theorem State.handling_inDram (s : State) (r : Req) (op addr len : Nat) : (s.handling r op).inDram addr len = s.inDram addr len := by
  simp only [State.inDram, State.handling_part]

@[simp] theorem State.handling_bytes (s : State) (r : Req) (op a n : Nat) : (s.handling r op).bytes a n = s.bytes a n := by
  induction n generalizing a with
  | zero => rfl
  | succ n ih => simp only [State.bytes, State.handling_byte, ih]

@[simp] theorem State.handling_verify (s : State) (r : Req) (op : Nat) (read : Nat → Nat → List Byte) (recovery : Bool) :
    (s.handling r op).verify read recovery = s.verify read recovery := by
  simp only [State.verify, State.handling_keySlot, State.handling_svnCount]

@[simp] theorem State.handling_takeoverOrMigration (s : State) (r : Req) (op : Nat) : (s.handling r op).takeoverOrMigration = s.takeoverOrMigration := by
  simp only [State.takeoverOrMigration, State.handling_fld, State.handling_fn]

@[simp] theorem State.handling_fwSelect (s : State) (r : Req) (op kinds dies clusters : Nat) :
    (s.handling r op).fwSelect kinds dies clusters = s.fwSelect kinds dies clusters := by
  simp only [State.fwSelect, State.dieList, State.handling_part]

theorem exec_fwStage_next {addr len : Nat} {v : Except Nat BundleInfo} (hs : Serves s r 0x0A00 none) (hsender : s.fwSender r.dom = true)
    (hlen : len ≤ 0x1000000) (hdram : s.inDram addr len = true) (hidle : s.fw.activation = none)
    (hv : s.verify (fun o n => s.bytes (addr + o) (min n (len - o))) false = v) :
    exec (.fwStage r addr len) s = .next (match (generalizing := false) v with
      | .ok i => s.replies r 0x0A00 none (fun t => ({ t with fw.staged := some (i, t.bytes addr len) }, leBytes 4 i.version))
      | .error _ => s.refuses r 0x0A00 none .denied) := by
  have hallowed : ¬ ¬ (s.handling r 0x0A00).fwSender r.dom = true := by simp [hsender]
  have hform : ¬ (0x1000000 < len ∨ ¬ (s.handling r 0x0A00).inDram addr len = true) := by simp [hlen, hdram]
  have hbusy : ¬ (s.handling r 0x0A00).fw.activation.isSome = true := by simp [hidle]
  have htests : (s.handling r 0x0A00).verify (fun o n => (s.handling r 0x0A00).bytes (addr + o) (min n (len - o))) false = v := by
    simp only [State.handling_bytes, State.handling_verify, hv]
  cases v with
  | ok i =>
    refine congrArg Host.Outcome.next (hs.replies ?_)
    simp only [if_neg hallowed, if_neg hform, if_neg hbusy, htests]
  | error code =>
    refine congrArg Host.Outcome.next (hs.refuses ?_)
    simp only [if_neg hallowed, if_neg hform, if_neg hbusy, htests]

theorem exec_fwActivate_defers {kinds dies clusters flags : Nat} {i : BundleInfo} {bs : List Byte} {u : FwUnit} {us : List FwUnit}
    (hs : Serves s r 0x0A01 none) (hkinds : kinds < 16) (hdies : dies < 256) (hclusters : clusters < 64) (hflags : flags < 2)
    (hsender : s.fwSender r.dom = true) (hstaged : s.fw.staged = some (i, bs)) (hidle : s.fw.activation = none) (hlimp : s.fld 0 .CLK_STATUS_LIMP ≠ 1)
    (hpair : s.takeoverOrMigration = false) (hselect : s.fwSelect kinds dies clusters = u :: us) :
    exec (.fwActivate r kinds dies clusters flags) s = .next (s.defers r 0x0A01 none (fun t =>
      { t with fw.activation := some ⟨r, us, 0, u, .copying, bit flags 0, i, false⟩ })) := by
  refine congrArg Host.Outcome.next (hs.defers ?_)
  have hform : ¬ (16 ≤ kinds ∨ 256 ≤ dies ∨ 64 ≤ clusters ∨ 2 ≤ flags) := by omega
  have hbusy : ¬ ((none : Option Activation).isSome = true ∨ s.fld 0 .CLK_STATUS_LIMP = 1 ∨ s.takeoverOrMigration = true) := by simp [hlimp, hpair]
  simp only [if_neg hform, State.handling_fwSender, hsender, not_true_eq_false, if_false, State.handling_fw, hstaged, hidle, State.handling_fld,
    State.handling_takeoverOrMigration, if_neg hbusy, State.handling_fwSelect, hselect]

theorem exec_fwStatus_replies (hs : Serves s r 0x0A02 none) (hsender : s.fwSender r.dom = true) :
    exec (.fwStatus r) s = .next (s.replies r 0x0A02 none (fun t =>
      (t, ((List.range 4).map (fun k => leBytes 4 (t.runningVersion ⟨k, 0, 0⟩))).flatten))) := by
  refine congrArg Host.Outcome.next (hs.replies ?_)
  simp only [State.handling_fwSender, hsender, not_true_eq_false, if_false]

theorem exec_fwAbort_replies (hs : Serves s r 0x0A03 none) (hsender : s.fwSender r.dom = true) (hidle : s.fw.activation = none) :
    exec (.fwAbort r) s = .next (s.replies r 0x0A03 none (fun t => ({ t with fw.staged := none }, []))) := by
  refine congrArg Host.Outcome.next (hs.replies ?_)
  simp only [State.handling_fwSender, hsender, not_true_eq_false, if_false, State.handling_fw, hidle, Option.isSome_none, Bool.false_eq_true]

end

/-! The phases of an activation (R130, R132, R134, R135). -/

section
variable {s : State} {a : Activation}

@[simp] theorem State.core_setCore (s : State) (u : FwUnit) (c : FwCore) : (s.setCore u c).core u = c := lookupD_insertKV_same _ _ _ _

theorem exec_shadowCopyEnd_next (ha : s.inPhase .copying = some a) :
    ∃ t, exec .shadowCopyEnd s = .next t ∧ (t.core a.last).shadow = bundleImage a.info s.stagedBytes a.last.kind ∧
      (t.core a.last).active = (s.core a.last).active ∧ t.fw.activation = some { a with phase := .copied } := by
  let u := s.setCore a.last { s.core a.last with shadow := bundleImage a.info s.stagedBytes a.last.kind }
  have hcore : (u.toPhase a .copied).core a.last = { s.core a.last with shadow := bundleImage a.info s.stagedBytes a.last.kind } :=
    s.core_setCore a.last _
  refine ⟨u.toPhase a .copied, ?_, ?_, ?_, rfl⟩
  · change execShadowCopyEnd s = _
    simp only [execShadowCopyEnd, ha, u]
  · rw [hcore]
  · rw [hcore]

/-- The handoff of the last unit of an activation (R130, steps 2 to 4): the record is written, the banks exchange, and the new image starts while the old one is kept. -/
def State.handedOff (s : State) (a : Activation) (record : List Byte) : State :=
  ({ s with
    fw.previous := match lookup? s.fw.running a.last with
      | some o => insertKV s.fw.previous a.last o
      | none => s.fw.previous
    fw.running := insertKV s.fw.running a.last a.info
    fw.updateSeq := (s.fw.updateSeq + 1) % 2 ^ 32
    fw.records := insertKV s.fw.records a.last.die record
    fw.early := if a.last.kind = 2 then s.preDispatched a.last.die else [] } : State).setCore a.last
      ((s.core a.last).exchange FwWork.start (some (s.core a.last).work))

theorem exec_handoffPoint_eq (h : Handoff) (ha : s.inPhase .copied = some a) :
    let record := readBack h (s.handoffRecord a.last (s.runningVersion a.last) a.info.version h)
    exec (.handoffPoint h) s =
      .next (if rejects h record = true then (s.handedOff a record).fwRollback a 1 else (s.handedOff a record).toPhase a .blackout) := by
  change execHandoffPoint h s = _
  simp only [execHandoffPoint, ha]
  rfl

theorem exec_handoffPoint_next (h : Handoff) (ha : s.inPhase .copied = some a) :
    let record := readBack h (s.handoffRecord a.last (s.runningVersion a.last) a.info.version h)
    (rejects h record = false → ∃ t, exec (.handoffPoint h) s = .next t ∧ t.fw.running = insertKV s.fw.running a.last a.info ∧
      t.fw.updateSeq = (s.fw.updateSeq + 1) % 2 ^ 32 ∧ t.fw.activation = some { a with phase := .blackout } ∧
      t.fw.records = insertKV s.fw.records a.last.die record ∧ (t.core a.last).active = (s.core a.last).shadow) ∧
    (rejects h record = true → ∃ u : State, exec (.handoffPoint h) s = .next (u.fwRollback a 1)) := by
  intro record
  refine ⟨fun haccepts => ⟨(s.handedOff a record).toPhase a .blackout, ?_, rfl, rfl, rfl, rfl, ?_⟩, fun hrejects => ⟨s.handedOff a record, ?_⟩⟩
  · exact (exec_handoffPoint_eq h ha).trans (congrArg Host.Outcome.next (if_neg (ne_true_of_eq_false haccepts)))
  · exact congrArg FwCore.active (State.core_setCore _ a.last _)
  · exact (exec_handoffPoint_eq h ha).trans (congrArg Host.Outcome.next (if_pos hrejects))

theorem exec_adoptionDeclared_eq (ha : s.inPhase .blackout = some a) :
    exec .adoptionDeclared s = .next ((({ s with fw.early := [] } : State).judgeWaiting.measureBundle a.info [a.last.kind]).toPhase a .probation) := by
  change execAdoptionDeclared s = _
  simp only [execAdoptionDeclared, ha]

theorem exec_abandonPoint_eq (ha : s.inPhase .blackout = some a) : exec .abandonPoint s = .next (s.fwRollback a 2) := by
  change execAbandonPoint s = _
  simp only [execAbandonPoint, ha]

theorem exec_failureInProbation_eq (ha : s.inPhase .probation = some a) : exec .failureInProbation s = .next (s.fwRollback a 3) := by
  change execFailureInProbation s = _
  simp only [execFailureInProbation, ha]

/-- The old image and its data are discarded at the end of probation (R130, step 7). -/
def State.oldDiscarded (s : State) (u : FwUnit) : State :=
  ({ s with fw.previous := eraseK s.fw.previous u } : State).setCore u { s.core u with shadow := [], kept := none }

/-- While processors are left, and nothing has stopped the activation, the next one is updated. -/
theorem exec_probationEnd_eq {u : FwUnit} {us : List FwUnit} (ha : s.inPhase .probation = some a) (hstop : a.stop = false) (htodo : a.todo = u :: us) :
    exec .probationEnd s = .next { s.oldDiscarded a.last with
      fw.activation := some { a with adopted := a.adopted + 1, todo := us, last := u, phase := .copying } } := by
  change execProbationEnd s = _
  simp only [execProbationEnd, ha, hstop, htodo, Bool.false_eq_true, if_false]
  rfl

theorem exec_probationEnd_next {u : FwUnit} {us : List FwUnit} (ha : s.inPhase .probation = some a) (hstop : a.stop = false) (htodo : a.todo = u :: us) :
    ∃ t, exec .probationEnd s = .next t ∧ t.fw.previous = eraseK s.fw.previous a.last ∧ (t.core a.last).shadow = [] ∧
      t.fw.activation = some { a with adopted := a.adopted + 1, todo := us, last := u, phase := .copying } :=
  ⟨_, exec_probationEnd_eq ha hstop htodo, rfl, congrArg FwCore.shadow (State.core_setCore _ a.last _), rfl⟩

theorem exec_fwPersistWriteEnd_eq {i : BundleInfo} {bs : List Byte} (ha : s.inPhase .persisting = some a) (hstaged : s.fw.staged = some (i, bs)) :
    exec (.fwPersistWriteEnd true) s = .next ((s.putFlash (slotBase s.freeSlot) (slice bs 0 8 ++
      leBytes 4 ((leNat (s.flashBytes (slotBase (1 - s.freeSlot) + 8) 4) + 1) % 2 ^ 32) ++ bs.drop 12)).fwEnd a 0) := by
  change execFwPersistWriteEnd true s = _
  simp only [execFwPersistWriteEnd, ha, hstaged]

end

/-- Settles O10, clause by clause. -/
theorem liveUpdateRowsComplete : Obligations.LiveUpdateRowsComplete := fun _ =>
  ⟨fun _ _ _ _ => exec_fwStage_next, fun _ _ _ _ _ _ _ _ _ => exec_fwActivate_defers, fun _ => exec_fwStatus_replies, fun _ => exec_fwAbort_replies,
    fun _ => exec_shadowCopyEnd_next, fun _ h => exec_handoffPoint_next h, fun _ => exec_adoptionDeclared_eq, fun _ => exec_abandonPoint_eq,
    fun _ => exec_failureInProbation_eq, fun _ _ _ => exec_probationEnd_next, fun _ _ _ => exec_fwPersistWriteEnd_eq⟩

end Sys2Proof.Machine
end

section
/-!
SUPPORT and PROOFS. The memory frame of the requests that write a table, a region, a buffer or an image, and of the compute rows (07_granary_and_dram.md).
-/
namespace Sys2Proof.Machine

/-! The tables of the key-value cache lie in memory (R246 to R252): states of the same memory show the same tables. -/

section
variable {s t : State} (hm : t.mem = s.mem) (d : Nat)
include hm

theorem State.bytes_of_mem (x n : Nat) : t.bytes x n = s.bytes x n := by
  induction n generalizing x with
  | zero => rfl
  | succ n ih => simp only [State.bytes, State.byte, hm, ih]

theorem State.kvSlot_of_mem (w : KvView) (i : Nat) : t.kvSlot d w i = s.kvSlot d w i := by
  simp only [State.kvSlot, State.kvBytes, State.bytes_of_mem hm]

theorem State.kvPut_of_mem (w : KvView) (i o : Nat) (bs : List Byte) : t.kvPut d w i o bs = s.kvPut d w i o bs := by
  simp only [State.kvPut, State.kvSlot_of_mem hm]

theorem State.kvPool_of_mem (w : KvView) (i : Nat) : t.kvPool d w i = s.kvPool d w i := by
  simp only [State.kvPool, State.kvSlot_of_mem hm]

theorem State.kvPte_of_mem (w : KvView) (i : Nat) : t.kvPte d w i = s.kvPte d w i := by
  simp only [State.kvPte, State.kvSlot_of_mem hm]

theorem State.kvChain_of_mem (w : KvView) (n i : Nat) : t.kvChain d w n i = s.kvChain d w n i := by
  induction n generalizing i with
  | zero => rfl
  | succ n ih => simp only [State.kvChain, State.kvPte_of_mem hm, ih]

theorem State.kvUnchain_of_mem (w : KvView) (i : Nat) : t.kvUnchain d w i = s.kvUnchain d w i := by
  simp only [State.kvUnchain, State.kvPte_of_mem hm, State.kvPool_of_mem hm, State.kvPut_of_mem hm, State.kvChain_of_mem hm]

theorem State.kvGive_of_mem (w : KvView) (i : Nat) : t.kvGive d w i = s.kvGive d w i := by
  simp only [State.kvGive, State.kvPte_of_mem hm, State.kvPool_of_mem hm, State.kvPut_of_mem hm]

theorem State.kvStep_of_mem (x : KvView × Bool) (op : KvOp) : t.kvStep d x op = s.kvStep d x op := by
  cases op with
  | put i bs => simp only [State.kvStep, State.kvPut_of_mem hm]
  | page i live bank => simp only [State.kvStep, State.kvPut_of_mem hm]
  | take i live bank => simp only [State.kvStep, State.kvUnchain_of_mem hm, State.kvPut_of_mem hm]
  | ref i up => cases up <;> simp only [State.kvStep, State.kvPte_of_mem hm, State.kvGive_of_mem hm, State.kvPut_of_mem hm]

theorem State.kvApply_of_mem (ops : List KvOp) : t.kvApply d ops = s.kvApply d ops := by
  rw [State.kvApply, State.kvApply, funext (fun x => funext (State.kvStep_of_mem hm d x))]

theorem State.kvSeq_of_mem (w : KvView) (i : Nat) : t.kvSeq d w i = s.kvSeq d w i := by
  simp only [State.kvSeq, State.kvSlot_of_mem hm]

theorem State.kvRow_of_mem (q : KvSeq) (j : Nat) : t.kvRow d q j = s.kvRow d q j := by
  simp only [State.kvRow, State.kvSlot_of_mem hm]

theorem State.releaseOps_of_mem (q : KvSeq) : t.releaseOps d q = s.releaseOps d q := by
  rw [State.releaseOps, State.releaseOps, State.kvRows, State.kvRows, funext (State.kvRow_of_mem hm d q)]

end

/-! What a request finds while it is handled is what it would have found before. -/

section
variable (s : State) (r : Req) (op : Nat)

@[simp] theorem State.handling_kvApply (d : Nat) (ops : List KvOp) : (s.handling r op).kvApply d ops = s.kvApply d ops :=
  State.kvApply_of_mem (s.handling_mem r op) d ops

@[simp] theorem State.handling_kvSeq (d : Nat) (w : KvView) (i : Nat) : (s.handling r op).kvSeq d w i = s.kvSeq d w i :=
  State.kvSeq_of_mem (s.handling_mem r op) d w i

@[simp] theorem State.handling_releaseOps (d : Nat) (q : KvSeq) : (s.handling r op).releaseOps d q = s.releaseOps d q :=
  State.releaseOps_of_mem (s.handling_mem r op) d q

@[simp] theorem State.handling_kvFind (d step n : Nat) : (s.handling r op).kvFind d step n = s.kvFind d step n := by
  obtain ⟨boxes, bells, h⟩ := s.handling_eq r op
  rw [h]; rfl

@[simp] theorem State.handling_kvEntry (dom : Dom) (i : Nat) : (s.handling r op).kvEntry dom i = s.kvEntry dom i := by
  simp only [State.kvEntry, State.kvSender, State.handling_memy, State.handling_holder]

@[simp] theorem State.handling_bufDie (h : Nat) : (s.handling r op).bufDie h = s.bufDie h := by
  simp only [State.bufDie, State.handling_memy]

@[simp] theorem State.handling_queue (id : Nat) : (s.handling r op).queue id = s.queue id := by
  simp only [State.queue, State.handling_q]

@[simp] theorem State.handling_mapStores (d kv stook : Nat) : (s.handling r op).mapStores d kv stook = s.mapStores d kv stook := by
  simp only [State.mapStores, State.handling_fld]

/-- Handling a request takes no event from any mailbox. -/
@[simp] theorem State.handling_evq (dom : Dom) : ((s.handling r op).box dom).evq = (s.box dom).evq := by
  unfold State.handling
  split
  · rfl
  · by_cases h : dom = r.dom
    · rw [h, State.box_begin]
    · exact congrArg Mailbox.evq (lookupD_insertKV_other s.mail.boxes _ Mailbox.empty h)

@[simp] theorem State.handling_fnSilos (fn : Dom) : (s.handling r op).fnSilos fn = s.fnSilos fn := by
  simp only [State.fnSilos, State.handling_pins]

@[simp] theorem State.handling_fnBufs (fn : Dom) : (s.handling r op).fnBufs fn = s.fnBufs fn := by
  simp only [State.fnBufs, State.handling_fnSilos, State.siloBufs, State.handling_memy, State.handling_part]

@[simp] theorem State.handling_imageRecs (fn : Dom) (partner buffers : Bool) :
    (s.handling r op).imageRecs fn partner buffers = s.imageRecs fn partner buffers := by
  have item : (s.handling r op).functionItem fn.toNat = s.functionItem fn.toNat := by
    obtain ⟨boxes, bells, h⟩ := s.handling_eq r op
    rw [h]; rfl
  have msix : (s.handling r op).msixSection fn = s.msixSection fn := by
    simp only [State.msixSection, State.pbaOf, State.handling_fld, State.handling_irq]
  have gen : (s.handling r op).genOf fn = s.genOf fn := by
    obtain ⟨boxes, bells, h⟩ := s.handling_eq r op
    rw [h]; rfl
  simp only [State.imageRecs, item, msix, gen, State.handling_evq, State.handling_fnBufs, State.handling_fnSilos, State.queuesOf, State.siloCfg,
    State.ringRecs, State.kvItem, State.handling_q, State.handling_pins, State.handling_memy, State.handling_fld, State.handling_bytes]

end

/-! The memory frame of the requests that write a table, a region, a buffer or an image (R141, R270, R297, R312). -/

section
variable {a : Nat} {v : Byte} {s t : State}

/-- The slots of a view are written into the Loft, and nothing else (R266). -/
theorem State.kvCommit_reads {d : Nat} {x : KvView × Bool} (h : Reads a v s)
    (ha : inRanges (placesOf (x.1.map (fun w => (kvBase d + 16 * w.1, w.2)))) a = false) : Reads a v (s.kvCommit d x) := by
  have written : Reads a v (x.1.foldl (fun (t : State) (w : Nat × List Byte) => t.write (kvBase d + 16 * w.1) w.2) s) :=
    reads_foldl _ _ (fun t w hw ht => State.write_reads ht (placesOf_out ha (List.mem_map.mpr ⟨w, hw, rfl⟩))) _ h
  unfold State.kvCommit
  dsimp only
  split
  · exact reads_of_mask (State.flag_mask _ _ _ _ (by decide)) written
  · exact written

/-- A pool record takes one slot, and each of its pages one more (R250). -/
theorem execKvPoolCreate_reads {r : Req} {handle : Word} {pages : Nat} {l : List (Nat × Nat)} (h : Reads a v s)
    (hl : messageStores (.kvPoolCreate r handle pages) s = some l) (ha : inRanges l a = false) (ht : execKvPoolCreate r handle pages s = .next t) :
    Reads a v t := by
  refine reads_of_next (State.serve_reads _ _ _ _ _ h (fun hu => ?_)) ht
  dsimp only
  split
  · exact hu
  split
  · exact hu
  split
  · exact hu
  split
  · exact hu
  · rename_i i found
    rw [State.handling_kvFind, State.handling_bufDie] at found
    simp only [messageStores, found, Option.some.injEq] at hl
    subst hl
    have slots := inRanges_out ha (List.mem_singleton_self _)
    refine reads_reply (reads_of_mask (State.kvMirror_mask _ _ (by decide)) (State.write_reads (reads_of_mask (State.kvTake_mask _ _ _ _ _ (by decide)) hu) ?_))
    rw [List.length_append, flatMap_length _ _ 16 (fun n => by simp only [List.length_append, leBytes_length])]
    simp only [List.length_append, leBytes_length, List.length_range, State.handling_bufDie]
    omega

theorem KvSeq.bytes_length (q : KvSeq) : q.bytes.length = 32 := by
  simp only [KvSeq.bytes, List.length_append, leBytes_length]

/-- A sequence record takes four slots, and each of its rows one more (R251, R252). -/
theorem execKvSeqCreate_reads {r : Req} {c : KvSeqCfg} {l : List (Nat × Nat)} (h : Reads a v s) (hl : messageStores (.kvSeqCreate r c) s = some l)
    (ha : inRanges l a = false) (ht : execKvSeqCreate r c s = .next t) : Reads a v t := by
  refine reads_of_next (State.serve_reads _ _ _ _ _ h (fun hu => ?_)) ht
  split
  · exact hu
  · rename_i e pool
    dsimp only
    split
    · exact hu
    split
    · exact hu
    split
    · exact hu
    · rename_i i found
      rw [State.handling_kvEntry] at pool
      rw [State.handling_kvFind] at found
      simp only [messageStores, pool, found, Option.some.injEq] at hl
      subst hl
      have slots := inRanges_out ha (List.mem_singleton_self _)
      refine reads_reply (reads_of_mask (State.kvMirror_mask _ _ (by decide)) (State.write_reads (reads_of_mask (State.kvTake_mask _ _ _ _ _ (by decide)) hu) ?_))
      simp only [List.length_append, KvSeq.bytes_length, leBytes_length, List.length_replicate]
      omega

/-- A message on a sequence writes memory only in what it does to the sequence that stands. -/
theorem State.onSeq_reads {r : Req} {op : Nat} {seq : Word} {act : State → ((Nat × Nat) × (Nat × Nat)) → KvSeq → Reply} (h : Reads a v s)
    (hact : ∀ e, s.kvEntry r.dom seq.toNat = some e → Reads a v (s.handling r op) →
      Reads a v (act (s.handling r op) e (s.kvSeq e.1.1 [] seq.toNat)).st) : Reads a v (s.onSeq r op seq act) := by
  refine State.serve_reads _ _ _ _ _ h (fun hu => ?_)
  split
  · exact hu
  · rename_i e stands
    split
    · exact hu
    split
    · exact hu
    · rw [State.handling_kvSeq]
      exact hact e (by rwa [State.handling_kvEntry] at stands) hu

theorem execKvSeqDestroy_reads {r : Req} {seq : Word} {l : List (Nat × Nat)} (h : Reads a v s) (hl : messageStores (.kvSeqDestroy r seq) s = some l)
    (ha : inRanges l a = false) (ht : execKvSeqDestroy r seq s = .next t) : Reads a v t := by
  refine reads_of_next (State.onSeq_reads h (fun e stands hu => ?_)) ht
  simp only [messageStores, stands, Option.some.injEq] at hl
  subst hl
  split
  · exact hu
  · refine reads_reply (reads_of_mask (State.kvDrop_mask _ _ (by decide)) (State.kvCommit_reads hu ?_))
    rw [State.handling_kvApply, State.handling_releaseOps]
    exact ha

theorem execKvSeqSet_reads {r : Req} {seq : Word} {budget recent reserve decay : Nat} {evict : Bool} {l : List (Nat × Nat)} (h : Reads a v s)
    (hl : messageStores (.kvSeqSet r seq budget recent reserve decay evict) s = some l) (ha : inRanges l a = false)
    (ht : execKvSeqSet r seq budget recent reserve decay evict s = .next t) : Reads a v t := by
  refine reads_of_next (State.onSeq_reads h (fun e stands hu => ?_)) ht
  simp only [messageStores, stands, Option.some.injEq] at hl
  subst hl
  dsimp only
  split
  · exact hu
  split
  · exact hu
  · refine reads_reply (reads_of_mask (State.kvMirror_mask _ _ (by decide)) (State.kvCommit_reads hu ?_))
    rw [State.handling_kvApply]
    exact ha

theorem execMemLoftMap_reads {r : Req} {d kv stook : Nat} (h : Reads a v s) (ha : inRanges (s.mapStores d kv stook) a = false)
    (ht : execMemLoftMap r d kv stook s = .next t) : Reads a v t := by
  refine reads_of_next (State.serve_reads _ _ _ _ _ h (fun hu => ?_)) ht
  dsimp only
  split
  · exact hu
  split
  · exact hu
  split
  · exact hu
  · exact State.putMap_reads hu (by rwa [State.handling_mapStores])

/-- A queue that is created starts with an accounting buffer of zeros (R297). -/
theorem execQCreate_reads {r : Req} {c : QueueCfg} (h : Reads a v s) (ha : inRanges [(c.acctBase, 128)] a = false) (ht : execQCreate r c s = .next t) :
    Reads a v t := by
  have acct := inRanges_out ha (List.mem_singleton_self _)
  refine reads_of_next (State.serve_reads _ _ _ _ _ h (fun hu => ?_)) ht
  dsimp only
  split
  · exact hu
  split
  · exact hu
  split
  · exact hu
  split
  · exact hu
  split
  · exact reads_reply (State.write_reads (reads_of_mask (State.setQueue_mask _ _ _ (by decide)) hu) (by rwa [leBytes_length]))
  · exact hu

/-- Q_ACCT writes the accounting buffer of its queue, and only to reset it (R297). -/
theorem execQAcct_reads {r : Req} {queue : Word} {reset : Bool} {l : List (Nat × Nat)} (h : Reads a v s)
    (hl : messageStores (.qAcct r queue reset) s = some l) (ha : inRanges l a = false) (ht : execQAcct r queue reset s = .next t) : Reads a v t := by
  refine reads_of_next (State.serve_reads _ _ _ _ _ h (fun hu => ?_)) ht
  unfold State.queueMsg
  rw [State.handling_queue]
  cases hq : s.queue queue.toNat with
  | none => exact hu
  | some q =>
    dsimp only
    split
    · exact hu
    split
    · exact hu
    · cases reset with
      | false => exact hu
      | true =>
        simp only [messageStores, hq, if_true, Option.some.injEq] at hl
        subst hl
        refine reads_reply ?_
        rw [if_pos rfl]
        exact State.write_reads hu (by rw [leBytes_length]; exact inRanges_out ha (List.mem_singleton_self _))

/-- FN_SAVE writes the header and the sections of the image, and nothing where it refuses or fails (R312). -/
theorem execFnSave_reads {r : Req} {n flags maxLen addr : Nat} {l : List (Nat × Nat)} (h : Reads a v s)
    (hl : messageStores (.fnSave r n flags maxLen addr) s = some l) (ha : inRanges l a = false) (ht : execFnSave r n flags maxLen addr s = .next t) :
    Reads a v t := by
  simp only [messageStores, Option.some.injEq] at hl
  subst hl
  have image := inRanges_out ha (List.mem_singleton_self _)
  refine reads_of_next (State.serve_reads _ _ _ _ _ h (fun hu => ?_)) ht
  dsimp only
  split
  · exact hu
  split
  · exact hu
  split
  · exact hu
  split
  · exact hu
  split
  · split
    · exact hu
    split
    · exact hu
    split
    · exact reads_of_mask (State.fabLog_mask _ _ _ _ _ _ _ (by decide)) hu
    · rename_i failed
      exact reads_of_mask (State.copyUes_mask failed (by decide)) hu
    · refine reads_reply (reads_saveCount (State.store_reads hu ?_))
      simp only [List.length_append, leBytes_length, cipher_length, State.handling_imageRecs]
      dsimp only at image
      omega
  · exact hu
  · exact hu

/-- A request that writes a table, a region, a buffer or an image reads back every byte outside the ranges it names. -/
theorem messageRow_reads {i : Instr} {l : List (Nat × Nat)} (h : Reads a v s) (hl : messageStores i s = some l) (ht : exec i s = .next t)
    (ha : inRanges l a = false) : Reads a v t := by
  cases i with
  | kvPoolCreate => exact execKvPoolCreate_reads h hl ha ht
  | kvSeqCreate => exact execKvSeqCreate_reads h hl ha ht
  | kvSeqDestroy => exact execKvSeqDestroy_reads h hl ha ht
  | kvSeqSet => exact execKvSeqSet_reads h hl ha ht
  | qAcct => exact execQAcct_reads h hl ha ht
  | memLoftMap =>
    cases hl
    exact execMemLoftMap_reads h ha ht
  | qCreate =>
    cases hl
    exact execQCreate_reads h ha ht
  | fnSave => exact execFnSave_reads h hl ha ht
  | _ => cases hl

end

/-- Settles O46, row by row. -/
theorem messageRowsStore : Obligations.MessageRowsStore := by
  unfold Obligations.MessageRowsStore
  intro i s t l a canonical hl ht ha
  have before : Reads a (s.byte a) s := ⟨canonical, rfl⟩
  exact (messageRow_reads before hl ht ha).2

/-! The memory frame of the compute rows (R153, R170, R186 to R232, R260 to R264, R283). -/

section
variable {a : Nat} {v : Byte} {s t : State}

/-- A compute row reads back every byte outside the ranges of the command that stands in its slot. -/
theorem computeRow_reads {i : Instr} {l : List (Nat × Nat)} (h : Reads a v s) (hl : computeStores i s = some l) (ht : exec i s = .next t)
    (ha : inRanges l a = false) : Reads a v t := by
  cases i with
  | attend | kvAppend | kvFork | kvRelease =>
    cases hl
    exact State.runFused_reads _ _ _ _ _ _ h ha ht
  | matmul | conv | unary | binary | reduce | softmax | norm | convert | dwconv | pool | resample | gather | neighbours | setOp | hashBuild | hashProbe
  | radixSort | segReduce | scatter | frontier | copy | nop | signal =>
    cases hl
    exact State.runRow_reads _ _ _ _ _ _ _ _ _ h ha ht
  | _ => cases hl

end

/-- Settles O44, row by row. -/
theorem computeRowsStore : Obligations.ComputeRowsStore := by
  unfold Obligations.ComputeRowsStore
  intro i s t l a canonical hl ht ha
  have before : Reads a (s.byte a) s := ⟨canonical, rfl⟩
  exact (computeRow_reads before hl ht ha).2

end Sys2Proof.Machine
end

section
/-!
SUPPORT and PROOFS. Quotas, the Loft map, buffers and the error counts: what they look like while a request is handled, and the rows of R141 and R154 to R156
(07_granary_and_dram.md).
-/
namespace Sys2Proof.Machine

/-! What a slice holds, and where a buffer has place in it, stands in the tables of memory and the quota (R153). -/

section
variable {s t : State} (hm : t.memy = s.memy)
include hm

theorem State.usedBushels_of_memy (d k sl : Nat) : t.usedBushels d k sl = s.usedBushels d k sl := by
  rw [State.usedBushels, State.usedBushels, hm]

theorem State.sliceRuns_of_memy (d sl : Nat) : t.sliceRuns d sl = s.sliceRuns d sl := by
  rw [State.sliceRuns, State.sliceRuns, hm]

theorem State.findRun_of_memy (d sl n : Nat) : t.findRun d sl n = s.findRun d sl n := by
  rw [State.findRun, State.findRun, State.sliceRuns_of_memy hm]

theorem State.allocRun_of {d k sl : Nat} (hq : t.quotaOf d k sl = s.quotaOf d k sl) (len : Nat) : t.allocRun d k sl len = s.allocRun d k sl len := by
  rw [State.allocRun, State.allocRun, hq, State.usedBushels_of_memy hm, State.findRun_of_memy hm]

end

/-! Buffers, quotas and the Loft map while a request is handled. -/

section
variable (s : State) (r : Req) (op : Nat)

@[simp] theorem State.handling_quotaFits (d k sl quota : Nat) : (s.handling r op).quotaFits d k sl quota = s.quotaFits d k sl quota := by
  obtain ⟨boxes, bells, h⟩ := s.handling_eq r op
  rw [h]; rfl

@[simp] theorem State.handling_scratchOf (d k : Nat) : (s.handling r op).scratchOf d k = s.scratchOf d k := by
  simp only [State.scratchOf, State.handling_memy]

@[simp] theorem State.handling_scratchFits (d k quota : Nat) : (s.handling r op).scratchFits d k quota = s.scratchFits d k quota := by
  obtain ⟨boxes, bells, h⟩ := s.handling_eq r op
  rw [h]; rfl

@[simp] theorem State.handling_mapFits (d kv stook : Nat) : (s.handling r op).mapFits d kv stook = s.mapFits d kv stook := by
  obtain ⟨boxes, bells, h⟩ := s.handling_eq r op
  rw [h]; rfl

@[simp] theorem State.handling_mapBusy (d : Nat) : (s.handling r op).mapBusy d = s.mapBusy d := by
  simp only [State.mapBusy, State.kvUsed, State.passInProgress, State.placed, State.handling_q, State.handling_bytes]

@[simp] theorem State.handling_siloClass (d k : Nat) : (s.handling r op).siloClass d k = s.siloClass d k := by
  simp only [State.siloClass, State.handling_fld]

@[simp] theorem State.handling_allocRun (d k sl len : Nat) : (s.handling r op).allocRun d k sl len = s.allocRun d k sl len :=
  State.allocRun_of (s.handling_memy r op) (s.handling_fld r op _ _ _) len

@[simp] theorem State.handling_freeEntry (d k : Nat) : (s.handling r op).freeEntry d k = s.freeEntry d k := by
  simp only [State.freeEntry, State.handling_memy]

@[simp] theorem State.handling_entryGen (d k i : Nat) : (s.handling r op).entryGen d k i = s.entryGen d k i := by
  simp only [State.entryGen, State.handling_memy]

@[simp] theorem State.handling_bufOf (h : Nat) : (s.handling r op).bufOf h = s.bufOf h := by
  simp only [State.bufOf, State.handling_memy]

@[simp] theorem State.handling_locBytes (loc off n : Nat) : (s.handling r op).locBytes loc off n = s.locBytes loc off n := by
  simp only [State.locBytes, State.handling_bufOf, State.handling_bytes]

@[simp] theorem State.handling_handlesOf (b : List Byte) : (s.handling r op).handlesOf b = s.handlesOf b := by
  have names : (s.handling r op).locBytes = s.locBytes := funext (fun loc => funext (fun off => funext (s.handling_locBytes r op loc off)))
  rw [State.handlesOf, State.handlesOf, State.rasHandles, State.rasHandles, names]

@[simp] theorem State.handling_naming (h : Nat) : (s.handling r op).naming h = s.naming h := by
  rw [State.naming, State.naming, State.handling_q, funext (s.handling_handlesOf r op)]

/-- The place that a shrink gives a buffer (R155): that of the copy in progress, or a free one of the spill region. -/
def State.shrinkPlace (s : State) (d k sl : Nat) (e : BufEnt) : Option Nat :=
  if e.moving then (lookup? s.memy.spills (d, k, sl)).map (fun m => m.dest) else s.findSpill d e.length

/-- One buffer that a shrink spills while the silo uses more than its quota (R155). -/
def State.shrinkStep (d k sl quota : Nat) (x : Option State) (e : Nat × BufEnt) : Option State :=
  match x with
  | none => none
  | some t =>
    if t.usedBushels d k sl ≤ quota then some t
    else (t.shrinkPlace d k sl e.2).map (fun b => t.setBuf d k e.1 { e.2 with base := b, spilled := true })

theorem State.shrinkStep_fits {t : State} {d k sl quota : Nat} (e : Nat × BufEnt) (h : t.usedBushels d k sl ≤ quota) :
    State.shrinkStep d k sl quota (some t) e = some t := if_pos h

theorem State.shrinkStep_spills {t : State} {d k sl quota : Nat} (e : Nat × BufEnt) (h : ¬ t.usedBushels d k sl ≤ quota) :
    State.shrinkStep d k sl quota (some t) e = (t.shrinkPlace d k sl e.2).map (fun b => t.setBuf d k e.1 { e.2 with base := b, spilled := true }) := if_neg h

theorem State.shrinkRefusal_eq (d k sl quota : Nat) : s.shrinkRefusal d k sl quota =
    (let movable := (s.slicesBufs d k sl (fun e => !e.spilled && !e.pinned)).reverse
     if quota < s.usedBushels d k sl - movable.foldl (fun a e => a + bushels e.2.length) 0 then some .guaranteeRefused
     else if (movable.foldl (State.shrinkStep d k sl quota) (some s)).isSome then none else some .noResource) := rfl

/-- Spilling looks at no mailbox. -/
theorem State.shrinkStep_mail (m : MailState) (d k sl quota : Nat) (x : Option State) (e : Nat × BufEnt) :
    State.shrinkStep d k sl quota (x.map (fun t => { t with mail := m })) e = (State.shrinkStep d k sl quota x e).map (fun t => { t with mail := m }) := by
  cases x with
  | none => rfl
  | some t =>
    by_cases fits : t.usedBushels d k sl ≤ quota
    · rw [State.shrinkStep_fits e fits]
      exact State.shrinkStep_fits (t := { t with mail := m }) e fits
    · rw [State.shrinkStep_spills e fits, Option.map_map]
      exact State.shrinkStep_spills (t := { t with mail := m }) e fits

theorem State.shrinkFold_isSome_mail (m : MailState) (d k sl quota : Nat) (l : List (Nat × BufEnt)) :
    (l.foldl (State.shrinkStep d k sl quota) (some { s with mail := m })).isSome = (l.foldl (State.shrinkStep d k sl quota) (some s)).isSome :=
  (congrArg Option.isSome (List.foldl_hom (l := l) (init := some s) (Option.map (fun t : State => { t with mail := m })) (State.shrinkStep_mail m d k sl quota))).trans
    Option.isSome_map

@[simp] theorem State.handling_shrinkRefusal (d k sl quota : Nat) : (s.handling r op).shrinkRefusal d k sl quota = s.shrinkRefusal d k sl quota := by
  obtain ⟨boxes, bells, h⟩ := s.handling_eq r op
  rw [h, State.shrinkRefusal_eq, State.shrinkRefusal_eq]
  simp only [State.shrinkFold_isSome_mail]
  rfl

end

/-! A buffer that changes, and a quota that takes effect (R153, R154). -/

section
variable (s : State)

/-- A buffer's entry is set, and beside the tables of memory its record may go to the mirror partner. -/
@[simp] theorem State.changeBuf_memy (d k i : Nat) (e : BufEnt) : (s.changeBuf d k i e).memy = { s.memy with bufs := insertKV s.memy.bufs (d, k, i) e } :=
  memy_of_mask ((s.setBuf d k i e).mirrorChange_mask _ _ (Nat.and_self _)) rfl

/-- The tables of memory after a refill that may start depend on those before, and on the quota. -/
theorem State.startRefill_memy_of {s t : State} {d k sl : Nat} (hm : t.memy = s.memy) (hq : t.quotaOf d k sl = s.quotaOf d k sl) :
    (t.startRefill d k sl).memy = (s.startRefill d k sl).memy := by
  have place : ∀ len, t.allocRun d k sl len = s.allocRun d k sl len := State.allocRun_of hm hq
  simp only [State.startRefill, State.slicesBufs, place, hm]
  split
  · exact hm
  split
  · exact hm
  split
  · simp only [State.changeBuf_memy, hm]
  · exact hm

theorem State.quotaOf_startRefill (d k sl : Nat) : (s.startRefill d k sl).quotaOf d k sl = s.quotaOf d k sl :=
  fld_of_mask (s.startRefill_mask d k sl (Nat.and_self _)) rfl .GRN_QUOTA_QUOTA rfl (.inl rfl) _ _

theorem State.quotaOf_setFld_quota (d k sl quota : Nat) : (s.setFld d .GRN_QUOTA_QUOTA (6 * k + sl) quota).quotaOf d k sl = quota % 2 ^ Fld.GRN_QUOTA_QUOTA.width :=
  s.fld_setFld_same d .GRN_QUOTA_QUOTA _ _

/-- A quota that is set takes effect alike on states of the same tables and the same quota. -/
theorem State.putQuota_of {s t : State} {d k sl : Nat} (quota : Nat) (hm : t.memy = s.memy) (hq : t.quotaOf d k sl = s.quotaOf d k sl) :
    (t.putQuota d k sl quota).memy = (s.putQuota d k sl quota).memy ∧ (t.putQuota d k sl quota).quotaOf d k sl = (s.putQuota d k sl quota).quotaOf d k sl := by
  simp only [State.putQuota, hm]
  split
  · exact ⟨rfl, hq⟩
  · have hset : (t.setFld d .GRN_QUOTA_QUOTA (6 * k + sl) quota).quotaOf d k sl = (s.setFld d .GRN_QUOTA_QUOTA (6 * k + sl) quota).quotaOf d k sl := by
      rw [State.quotaOf_setFld_quota, State.quotaOf_setFld_quota]
    exact ⟨State.startRefill_memy_of hm hset, by rw [State.quotaOf_startRefill, State.quotaOf_startRefill, hset]⟩

theorem State.quotaOf_putQuota_handling (r : Req) (op d k sl quota : Nat) :
    ((s.handling r op).putQuota d k sl quota).quotaOf d k sl = (s.putQuota d k sl quota).quotaOf d k sl :=
  (State.putQuota_of quota (s.handling_memy r op) (s.handling_fld r op _ _ _)).2

theorem State.usedBushels_putQuota_handling (r : Req) (op d k sl quota : Nat) :
    ((s.handling r op).putQuota d k sl quota).usedBushels d k sl = (s.putQuota d k sl quota).usedBushels d k sl :=
  State.usedBushels_of_memy (State.putQuota_of quota (s.handling_memy r op) (s.handling_fld r op _ _ _)).1 _ _ _

end

/-! Quotas, the Loft map, buffers and the error counts (R141, R154 to R156). -/

section
variable {s : State} {r : Req} {m : Master}

theorem wrGrnQuota_of_fits {d k sl data : Nat} (hg : s.guardOk m = true) (hfits : s.quotaFits d k sl (data % 2 ^ 11) = true) :
    wrGrnQuota m d k sl data s = s.putQuota d k sl (data % 2 ^ 11) := by
  rw [wrGrnQuota, State.guarded_ok hg]
  exact if_neg (not_not_intro hfits)

theorem exec_grnQuotaWrite_putQuota {d k sl : Nat} {data : Word} (hk : k < 16) (hsl : sl < 6) (hw : WritesNow s m d .GRANARY (0x1000 + 0x20 * k + 4 * sl))
    (hg : s.guardOk m = true) (hfits : s.quotaFits d k sl (data.toNat % 2 ^ 11) = true) :
    exec (.grnQuotaWrite m d k sl data) s = .next (s.accepted.putQuota d k sl (data.toNat % 2 ^ 11)) := by
  have hunit : ¬ (16 ≤ k ∨ 6 ≤ sl) := by omega
  exact (if_neg hunit).trans (congrArg Host.Outcome.next ((hw.eq data _).trans (wrGrnQuota_of_fits (s := s.accepted) hg hfits)))

theorem wrLoftMap_of_fits {d data : Nat} (hg : s.guardOk m = true) (hfits : s.mapFits d (bits data 3 0) (bits data 20 16) = true)
    (hidle : s.mapBusy d = false) : wrLoftMap m d data s = s.putMap d (bits data 3 0) (bits data 20 16) := by
  rw [wrLoftMap, State.guarded_ok hg]
  exact (if_neg (not_not_intro hfits)).trans (if_neg (ne_true_of_eq_false hidle))

theorem exec_loftMapWrite_putMap {d : Nat} {data : Word} (hw : WritesNow s m d .LOFT 0x010) (hg : s.guardOk m = true)
    (hfits : s.mapFits d (bits data.toNat 3 0) (bits data.toNat 20 16) = true) (hidle : s.mapBusy d = false) :
    exec (.loftMapWrite m d data) s = .next (s.accepted.putMap d (bits data.toNat 3 0) (bits data.toNat 20 16)) :=
  congrArg Host.Outcome.next ((hw.eq data _).trans (wrLoftMap_of_fits (s := s.accepted) hg hfits hidle))

theorem wrLoftScratch_of_fits {d k data : Nat} (hg : s.guardOk m = true) (hheld : (s.scratchOf d k).length ≤ data % 2 ^ 9)
    (hfits : s.scratchFits d k (data % 2 ^ 9) = true) : wrLoftScratch m d k data s = s.setFld d .LOFT_SCRATCH_QUOTA k (data % 2 ^ 9) := by
  rw [wrLoftScratch, State.guarded_ok hg]
  exact if_neg (not_or.mpr ⟨Nat.not_lt.mpr hheld, not_not_intro hfits⟩)

theorem exec_loftScratchWrite_setFld {d k : Nat} {data : Word} (hk : k < 16) (hw : WritesNow s m d .LOFT (0x100 + 4 * k)) (hg : s.guardOk m = true)
    (hheld : (s.scratchOf d k).length ≤ data.toNat % 2 ^ 9) (hfits : s.scratchFits d k (data.toNat % 2 ^ 9) = true) :
    exec (.loftScratchWrite m d k data) s = .next (s.accepted.setFld d .LOFT_SCRATCH_QUOTA k (data.toNat % 2 ^ 9)) :=
  (if_neg (Nat.not_le.mpr hk)).trans
    (congrArg Host.Outcome.next ((hw.eq data _).trans (wrLoftScratch_of_fits (s := s.accepted) hg hheld hfits)))

theorem exec_memQuota_replies {d k sl quota : Nat} (hs : Serves s r 0x0240 (some d)) (hd : s.hasDie d = true) (hk : k < 16) (hsl : sl < 6)
    (hman : s.manager r.dom = true) (hfits : s.quotaFits d k sl quota = true) (hshrink : s.shrinkRefusal d k sl quota = none)
    (hset : (s.putQuota d k sl quota).quotaOf d k sl = quota) (hused : (s.putQuota d k sl quota).usedBushels d k sl ≤ quota) :
    exec (.memQuota r d k sl quota) s =
      .next (s.replies r 0x0240 (some d) (fun t => (t.putQuota d k sl quota, (t.putQuota d k sl quota).quotaAnswer d k sl))) := by
  refine congrArg Host.Outcome.next (hs.replies ?_)
  have hform : ¬ (¬ (s.handling r 0x0240).hasDie d = true ∨ 16 ≤ k ∨ 6 ≤ sl ∧ sl ≠ 0xFF) :=
    not_or.mpr ⟨not_not_intro ((s.handling_hasDie r _ d).trans hd), by omega⟩
  have hslice : sl ≠ 0xFF := by omega
  simp only [if_neg hform, if_neg hslice, State.handling_manager, hman, State.handling_quotaFits, hfits, State.handling_shrinkRefusal, hshrink,
    State.quotaOf_putQuota_handling, hset, State.usedBushels_putQuota_handling, hused, not_true_eq_false, if_false, and_self, if_true]

theorem exec_memQuota_defers {d k sl quota : Nat} (hs : Serves s r 0x0240 (some d)) (hd : s.hasDie d = true) (hk : k < 16) (hsl : sl < 6)
    (hman : s.manager r.dom = true) (hfits : s.quotaFits d k sl quota = true) (hshrink : s.shrinkRefusal d k sl quota = none)
    (hused : quota < (s.putQuota d k sl quota).usedBushels d k sl) :
    exec (.memQuota r d k sl quota) s = .next (s.defers r 0x0240 (some d) (fun t =>
      let u := t.putQuota d k sl quota
      { u with memy.quotaReqs := u.memy.quotaReqs ++ [((d, k, sl), r)] })) := by
  refine congrArg Host.Outcome.next (hs.defers ?_)
  have hform : ¬ (¬ (s.handling r 0x0240).hasDie d = true ∨ 16 ≤ k ∨ 6 ≤ sl ∧ sl ≠ 0xFF) :=
    not_or.mpr ⟨not_not_intro ((s.handling_hasDie r _ d).trans hd), by omega⟩
  have hslice : sl ≠ 0xFF := by omega
  simp only [if_neg hform, if_neg hslice, State.handling_manager, hman, State.handling_quotaFits, hfits, State.handling_shrinkRefusal, hshrink,
    State.usedBushels_putQuota_handling, Nat.not_le.mpr hused, not_true_eq_false, if_false, and_false]

theorem exec_memQuota_scratch_replies {d k quota : Nat} (hs : Serves s r 0x0240 (some d)) (hd : s.hasDie d = true) (hk : k < 16)
    (hman : s.manager r.dom = true) (hfits : s.scratchFits d k quota = true) (hheld : (s.scratchOf d k).length ≤ quota) :
    exec (.memQuota r d k 0xFF quota) s = .next (s.replies r 0x0240 (some d) (fun t =>
      (t.setFld d .LOFT_SCRATCH_QUOTA k quota, (t.setFld d .LOFT_SCRATCH_QUOTA k quota).quotaAnswer d k 0xFF))) := by
  refine congrArg Host.Outcome.next (hs.replies ?_)
  have hform : ¬ (¬ (s.handling r 0x0240).hasDie d = true ∨ 16 ≤ k ∨ 6 ≤ 0xFF ∧ 0xFF ≠ 0xFF) :=
    not_or.mpr ⟨not_not_intro ((s.handling_hasDie r _ d).trans hd), by omega⟩
  simp only [if_neg hform, State.handling_manager, hman, State.handling_scratchFits, hfits, State.handling_scratchOf, Nat.not_lt.mpr hheld,
    not_true_eq_false, if_false, if_true]

theorem exec_memAlloc_replies {d k sl flags length i a : Nat} (hs : Serves s r 0x0241 (some d)) (hd : s.hasDie d = true) (hk : k < 16) (hsl : sl < 6)
    (hflags : flags < 2) (hlen : length ≠ 0) (hholder : s.holder 2 d k = r.dom) (hclass : flags = 1 → s.siloClass d k < 2)
    (hplace : s.allocRun d k sl length = some a) (hentry : s.freeEntry d k = some i) :
    let gen := s.entryGen d k i
    exec (.memAlloc r d k sl flags length) s = .next (s.replies r 0x0241 (some d) (fun t =>
      let u := t.changeBuf d k i ⟨a, true, false, decide (s.siloClass d k = 0) || decide (flags = 1), false, sl, length, gen⟩
      ({ u with memy.carried := eraseK u.memy.carried (d, k, i) }, leBytes 4 (mkHandle d k gen i)))) := by
  refine congrArg Host.Outcome.next (hs.replies ?_)
  have hform : ¬ (¬ (s.handling r 0x0241).hasDie d = true ∨ 16 ≤ k ∨ 6 ≤ sl ∨ 2 ≤ flags ∨ length = 0) :=
    not_or.mpr ⟨not_not_intro ((s.handling_hasDie r _ d).trans hd), by omega⟩
  have hallowed : ¬ (s.holder 2 d k ≠ r.dom ∨ flags = 1 ∧ 2 ≤ s.siloClass d k) :=
    not_or.mpr ⟨not_not_intro hholder, fun ⟨hpin, hlow⟩ => absurd (hclass hpin) (Nat.not_lt.mpr hlow)⟩
  simp only [if_neg hform, State.handling_holder, State.handling_siloClass, if_neg hallowed, State.handling_freeEntry, hentry, State.handling_allocRun, hplace,
    State.handling_entryGen]

theorem exec_memFree_replies {h : Word} {e : BufEnt} (hs : Serves s r 0x0242 (some (handleDie h.toNat))) (hd : s.hasDie (handleDie h.toNat) = true)
    (hholder : s.holder 2 (s.bufDie h.toNat) (handleSilo h.toNat) = r.dom) (hbuf : s.bufOf h.toNat = some e) (hnaming : s.naming h.toNat = [])
    (hstill : e.moving = false) :
    exec (.memFree r h) s = .next (s.replies r 0x0242 (some (handleDie h.toNat)) (fun t =>
      ((t.changeBuf (handleDie h.toNat) (handleSilo h.toNat) (handleIdx h.toNat) { e with valid := false }).refills (s.bufDie h.toNat) e.slice, []))) := by
  refine congrArg Host.Outcome.next (hs.replies ?_)
  simp only [State.handling_hasDie, hd, State.handling_holder, State.handling_bufDie, hholder, State.handling_bufOf, hbuf, State.handling_naming, hnaming, hstill,
    ne_eq, not_true_eq_false, Bool.false_eq_true, or_self, if_false]

theorem exec_memBufQuery_replies {h : Word} {e : BufEnt} (hs : Serves s r 0x0243 (some (handleDie h.toNat))) (hd : s.hasDie (handleDie h.toNat) = true)
    (hholder : s.holder 2 (s.bufDie h.toNat) (handleSilo h.toNat) = r.dom) (hbuf : s.bufOf h.toNat = some e) :
    exec (.memBufQuery r h) s = .next (s.replies r 0x0243 (some (handleDie h.toNat)) (fun t => (t, e.bytes))) := by
  refine congrArg Host.Outcome.next (hs.replies ?_)
  simp only [State.handling_hasDie, hd, State.handling_holder, State.handling_bufDie, hholder, State.handling_bufOf, hbuf, ne_eq, not_true_eq_false, if_false]

theorem exec_memLoftMap_replies {d kv stook : Nat} (hs : Serves s r 0x0244 (some d)) (hd : s.hasDie d = true) (hfits : s.mapFits d kv stook = true)
    (hman : s.manager r.dom = true) (hidle : s.mapBusy d = false) :
    exec (.memLoftMap r d kv stook) s = .next (s.replies r 0x0244 (some d) (fun t =>
      (t.putMap d kv stook, leBytes 1 kv ++ leBytes 1 stook ++ leBytes 2 ((t.putMap d kv stook).scratchUnits d)))) := by
  refine congrArg Host.Outcome.next (hs.replies ?_)
  simp only [State.handling_hasDie, hd, State.handling_mapFits, hfits, State.handling_manager, hman, State.handling_mapBusy, hidle, not_true_eq_false, or_self,
    Bool.false_eq_true, if_false]

theorem exec_memEccQuery_replies {d : Nat} (hs : Serves s r 0x0740 (some d)) (hd : s.hasDie d = true) :
    let ce (u : Nat) : List Byte := leBytes 4 (lookupD s.memy.ceTotal (d, u) 0)
    exec (.memEccQuery r d) s = .next (s.replies r 0x0740 (some d) (fun t => (t, (List.range 7).flatMap ce ++ leBytes 4 (lookupD s.memy.ueTotal (d, 0) 0) ++
      (rangeFrom 8 8).flatMap ce ++ leBytes 4 (lookupD s.memy.ueTotal (d, 1) 0)))) := by
  refine congrArg Host.Outcome.next (hs.replies ?_)
  simp only [State.handling_hasDie, hd, State.handling_memy, not_true_eq_false, if_false]

end

/-- Settles O12, clause by clause. -/
theorem memoryRequestsComplete : Obligations.MemoryRequestsComplete := fun _ =>
  ⟨fun _ _ _ _ _ => exec_grnQuotaWrite_putQuota, fun _ _ _ => exec_loftMapWrite_putMap, fun _ _ _ _ => exec_loftScratchWrite_setFld,
    fun _ _ _ _ _ => exec_memQuota_replies, fun _ _ _ _ _ => exec_memQuota_defers, fun _ _ _ _ => exec_memQuota_scratch_replies,
    fun _ _ _ _ _ _ _ _ => exec_memAlloc_replies, fun _ _ _ => exec_memFree_replies, fun _ _ _ => exec_memBufQuery_replies,
    fun _ _ _ _ => exec_memLoftMap_replies, fun _ _ => exec_memEccQuery_replies⟩

end Sys2Proof.Machine
end

section
/-!
SUPPORT and PROOFS. Correction, scrubbing and re-reading, the refresh and power-down of LPDDR5X, and the copies of buffers between the Granary and LPDDR5X
(07_granary_and_dram.md).
-/
namespace Sys2Proof.Machine

/-- A loop of which no pass changes the state. -/
theorem foldl_fixed_of_mem {σ α : Type} {g : σ → α → σ} {l : List α} {s : σ} (h : ∀ a ∈ l, g s a = s) : l.foldl g s = s :=
  List.foldlRecOn l g (motive := fun t => t = s) rfl (fun _ ht a ha => ht ▸ h a ha)

/-! Correction, scrubbing and re-reading (R148 to R151). -/

section
variable {s : State}

theorem exec_eccCorrectionWriteback_grnCorrected (master addr syn origin : Nat) {l : MemLoc} (b : Bool) (hloc : memLoc s.part addr = some l) (hgrn : l.mem < 2) :
    exec (.eccCorrectionWriteback master addr syn origin b) s = .next (s.grnCorrected l (addr / 16 * 16) syn master origin) := by
  change execEccCorrectionWriteback master addr syn origin b s = _
  simp only [execEccCorrectionWriteback, hloc, if_pos hgrn]

/-- A range without a poisoned granule has none in any part. -/
theorem State.poisonIn_part {a n b m : Nat} (h : s.poisonIn a n = []) (hlo : a ≤ b) (hhi : b + m ≤ a + n) : s.poisonIn b m = [] := by
  simp only [State.poisonIn, List.map_eq_nil_iff, List.filter_eq_nil_iff, Bool.and_eq_true, decide_eq_true_eq] at h ⊢
  intro g hg
  have := h g hg
  omega

theorem State.poisonIn_of_poisoned {a n : Nat} (h : s.poisoned a n = none) : s.poisonIn a n = [] := List.head?_eq_none_iff.mp h

/-- In a word without poison every granule may show an error. -/
theorem State.cleanGranules_of_clean {a : Nat} (h : s.poisoned a 64 = none) : s.cleanGranules a = [a, a + 16, a + 32, a + 48] := by
  refine List.filter_eq_self.mpr (fun g hg => ?_)
  have within : a ≤ g ∧ g + 16 ≤ a + 64 := by
    simp only [List.map_cons, List.map_nil, List.mem_cons, List.not_mem_nil, or_false] at hg
    omega
  rw [State.poisoned, State.poisonIn_part (State.poisonIn_of_poisoned h) within.1 within.2]
  rfl

theorem State.scrubFind_clean (s : State) (g : Nat) : s.scrubFind g .clean = s := by
  unfold State.scrubFind
  cases memLoc s.part g <;> rfl

theorem State.scrubFind_single {g : Nat} {l : MemLoc} (syn : Nat) (h : memLoc s.part g = some l) :
    s.scrubFind g (.single syn) = s.grnCorrected l g syn 0xFFF 2 := by simp only [State.scrubFind, h]

theorem State.scrubFind_double {g : Nat} {l : MemLoc} (syn : Nat) (h : memLoc s.part g = some l) :
    s.scrubFind g (.double syn) = (s.poison g syn).detect scrubber 2 g := by simp only [State.scrubFind, h]

/-- What the scrubber finds in the poisoned granules of a word. -/
def State.scrubSees (s : State) (a : Nat) : State := (s.poisonIn a 64).foldl (fun (t : State) g => t.detect scrubber 2 g) s.fresh.2

section
variable {d unit : Nat} (hd : s.hasDie d = true) (hunit : unit < 7) (hen : s.fld d .GRN_SCRUB_EN = 1) (hup : s.blkUp d .GRANARY 0 = true)
include hd hunit hen hup

/-- The scrubber reads the next word of a unit: first its poisoned granules, then the error that the row names, and its walk goes on (R148 to R150). -/
theorem exec_scrubRead_eq (found : EccFound) :
    let a := scrubAddr d unit (lookupD s.memy.scrub (d, unit) 0)
    exec (.scrubRead d unit found) s = .next ((if s.cleanGranules a = [] then s.scrubSees a
      else (s.scrubSees a).scrubFind ((s.cleanGranules a).getD (s.fresh.1 % (s.cleanGranules a).length) a) found).scrubOn d unit) := by
  have hthere : ¬ (¬ s.hasDie d = true ∨ 7 ≤ unit) := not_or.mpr ⟨not_not_intro hd, Nat.not_le.mpr hunit⟩
  have hwalks : ¬ (s.fld d .GRN_SCRUB_EN = 0 ∨ ¬ s.blkUp d .GRANARY 0 = true) := not_or.mpr ⟨by rw [hen]; decide, not_not_intro hup⟩
  exact (if_neg hthere).trans (if_neg hwalks)

/-- A word in which the row names no error shows what is poisoned in it. -/
theorem exec_scrubRead_clean :
    exec (.scrubRead d unit .clean) s = .next ((s.scrubSees (scrubAddr d unit (lookupD s.memy.scrub (d, unit) 0))).scrubOn d unit) := by
  rw [exec_scrubRead_eq hd hunit hen hup]
  simp only [State.scrubFind_clean, ite_self]

/-- An error in a word without poison is found in one of its four granules. -/
theorem exec_scrubRead_error {found : EccFound} (hclean : s.poisoned (scrubAddr d unit (lookupD s.memy.scrub (d, unit) 0)) 64 = none) :
    exec (.scrubRead d unit found) s =
      .next ((s.fresh.2.scrubFind (scrubAddr d unit (lookupD s.memy.scrub (d, unit) 0) + 16 * (s.fresh.1 % 4)) found).scrubOn d unit) := by
  have granule : ∀ a k, k < 4 → [a, a + 16, a + 32, a + 48].getD k a = a + 16 * k := fun a k hk => by
    match k, hk with
    | 0, _ | 1, _ | 2, _ | 3, _ => rfl
  have sees : s.scrubSees (scrubAddr d unit (lookupD s.memy.scrub (d, unit) 0)) = s.fresh.2 := by
    rw [State.scrubSees, State.poisonIn_of_poisoned hclean, List.foldl_nil]
  rw [exec_scrubRead_eq hd hunit hen hup, State.cleanGranules_of_clean hclean, if_neg (List.cons_ne_nil _ _), sees]
  exact congrArg (fun g => Host.Outcome.next ((s.fresh.2.scrubFind g found).scrubOn d unit)) (granule _ _ (Nat.mod_lt s.fresh.1 (show 4 > 0 by decide)))

theorem exec_scrubRead_next :
    let a := scrubAddr d unit (lookupD s.memy.scrub (d, unit) 0)
    (s.poisoned a 64 = none → exec (.scrubRead d unit .clean) s = .next (s.fresh.2.scrubOn d unit)) ∧
    (s.poisoned a 64 = none → (∀ k, k < 4 → (memLoc s.part (a + 16 * k)).isSome = true) → ∀ syn,
      (∃ k l, k < 4 ∧ memLoc s.part (a + 16 * k) = some l ∧
        exec (.scrubRead d unit (.single syn)) s = .next ((s.fresh.2.grnCorrected l (a + 16 * k) syn 0xFFF 2).scrubOn d unit)) ∧
      (∃ k, k < 4 ∧ exec (.scrubRead d unit (.double syn)) s =
        .next (((s.fresh.2.poison (a + 16 * k) syn).detect scrubber 2 (a + 16 * k)).scrubOn d unit))) ∧
    ∀ g, s.poisonIn a 64 = [g] → exec (.scrubRead d unit .clean) s = .next ((s.fresh.2.detect scrubber 2 g).scrubOn d unit) := by
  intro a
  have hk : s.fresh.1 % 4 < 4 := Nat.mod_lt _ (by decide)
  refine ⟨fun hclean => ?_, fun hclean hloc syn => ?_, fun g hone => ?_⟩
  · rw [exec_scrubRead_clean hd hunit hen hup, State.scrubSees, State.poisonIn_of_poisoned hclean, List.foldl_nil]
  · obtain ⟨l, hl⟩ := Option.isSome_iff_exists.mp (hloc _ hk)
    exact ⟨⟨_, l, hk, hl, (exec_scrubRead_error hd hunit hen hup hclean).trans
        (congrArg (fun u : State => Host.Outcome.next (u.scrubOn d unit)) (State.scrubFind_single syn (s := s.fresh.2) hl))⟩,
      ⟨_, hk, (exec_scrubRead_error hd hunit hen hup hclean).trans
        (congrArg (fun u : State => Host.Outcome.next (u.scrubOn d unit)) (State.scrubFind_double syn (s := s.fresh.2) hl))⟩⟩
  · rw [exec_scrubRead_clean hd hunit hen hup, State.scrubSees, hone]
    rfl

end

theorem exec_dramReread_next (master : Nat) {addr : Nat} (bg bank rank n : Nat) {l : MemLoc} (hloc : memLoc s.part addr = some l) (hdram : l.mem = 2) :
    exec (.dramReread master addr bg bank rank n true) s =
      .next (((s.addSat l.die (dramCe bg) l.unit 1).ceTotalAdd l.die (8 + l.unit)).dramLog l.die false addr l.unit bg bank rank n master) ∧
    ∃ u : State, exec (.dramReread master addr bg bank rank n false) s =
      .next { (u.ueEvent l addr 0 ⟨master, s.masterDoms master, true⟩).readFails master with access := .memError } := by
  have run : ∀ clean, exec (.dramReread master addr bg bank rank n clean) s = execDramReread master addr bg bank rank n clean s := fun _ => rfl
  refine ⟨?_, ((s.addSat l.die .DRAM_UE_COUNT_COUNT 0 1).ueTotalAdd l.die 1).dramLog l.die true addr l.unit bg bank rank n master, ?_⟩
  · rw [run]
    simp only [execDramReread, hloc, if_neg (not_not_intro hdram), if_true]
  · rw [run]
    simp only [execDramReread, hloc, if_neg (not_not_intro hdram), Bool.false_eq_true, if_false]

/-! Power-down and refresh of LPDDR5X (R144). -/

theorem exec_dramPowerDownEntry_enters {d ch : Nat} (hd : s.hasDie d = true) (hch : ch < 8) (hidle : s.fld d .DRAM_CFG_PD_IDLE ≠ 0)
    (htrained : s.fld d .DRAM_STATUS_TRAINED ≠ 0) (hup : (d, ch) ∉ s.memy.powerDown) :
    exec (.dramPowerDownEntry d ch) s = .next { s with memy.powerDown := (d, ch) :: s.memy.powerDown } :=
  (if_neg (not_or.mpr ⟨not_not_intro hd, Nat.not_le.mpr hch⟩)).trans
    (congrArg Host.Outcome.next (if_neg (not_or.mpr ⟨hidle, not_or.mpr ⟨htrained, hup⟩⟩)))

theorem exec_dramRefreshDerate_next {d ch : Nat} (hd : s.hasDie d = true) (hch : ch < 8) :
    ∃ t, exec (.dramRefreshDerate d ch true) s = .next t ∧ (d, ch) ∈ t.memy.derated ∧ t.fld d .DRAM_STATUS_DERATE = 1 := by
  let l := s.memy.derated.filter (fun e => decide (e ≠ (d, ch))) ++ [(d, ch)]
  have listed : (d, ch) ∈ l := List.mem_append_right _ (List.mem_singleton_self _)
  have some_derated : l.any (fun e => decide (e.1 = d)) = true := List.any_eq_true.mpr ⟨_, listed, decide_eq_true rfl⟩
  refine ⟨({ s with memy.derated := l } : State).setFld d .DRAM_STATUS_DERATE 0 (b2n (l.any (fun e => decide (e.1 = d)))),
    if_neg (not_or.mpr ⟨not_not_intro hd, Nat.not_le.mpr hch⟩), listed, ?_⟩
  rw [some_derated]
  exact State.fld_setFld_same _ d .DRAM_STATUS_DERATE 0 _

end

/-! The buffer table is left alone by what is detected, charged and answered beside a copy (R149, R154, R295). -/

section
variable (s : State)

theorem State.bufs_grnUe (l : MemLoc) (g origin : Nat) (w : Agent) : (s.grnUe l g origin w).memy.bufs = s.memy.bufs := by
  have told : ∀ (t : State) addr, (t.ueEvent l addr origin w).memy = t.memy := fun t addr => memy_of_mask (t.ueEvent_mask l addr origin w (Nat.and_self _)) rfl
  have logged : ∀ (t : State) ue addr unit syn m o, (t.grnLog l.1 ue addr unit syn m o).memy = t.memy := fun t ue addr unit syn m o =>
    memy_of_mask (t.grnLog_mask l.1 ue addr unit syn m o (Nat.and_self _)) rfl
  unfold State.grnUe
  simp only [told, logged]
  rfl

theorem State.bufs_detect (w : Agent) (origin g : Nat) : (s.detect w origin g).memy.bufs = s.memy.bufs := by
  unfold State.detect
  split
  · split
    · exact State.bufs_grnUe _ _ _ _ _
    · rfl
  · rfl

theorem State.bufs_write (a : Nat) (l : List Byte) : (s.write a l).memy.bufs = s.memy.bufs := by
  have put : (s.putBytes a l).memy = s.memy := memy_of_mask (s.putBytes_mask (K := 0x20) a l rfl) rfl
  have kept : (s.putBytes a l).memy.bufs = s.memy.bufs := congrArg MemState.bufs put
  unfold State.write
  split
  · rfl
  · exact kept

theorem State.bufs_store (w : Agent) (a : Nat) (l : List Byte) : (s.store w a l).memy.bufs = s.memy.bufs :=
  (State.bufs_write _ a l).trans (foldl_keeps (fun t : State => t.memy.bufs) (fun t g => t.bufs_detect w 1 g) _ s)

theorem State.bufs_chargeBroken (d k : Nat) : (s.chargeBroken d k).memy.bufs = s.memy.bufs :=
  foldl_keeps (fun t : State => t.memy.bufs) (fun t e => by
    split
    · exact t.bufs_store _ _ _
    · rfl) _ s

theorem State.bufs_guaranteeBroken (d k kind amount cause queue : Nat) : (s.guaranteeBroken d k kind amount cause queue).memy.bufs = s.memy.bufs := by
  have charged : (((s.setSilo d k { s.silo d k with broken := kind :: (s.silo d k).broken }).flag d .SCH_STATUS_BROKEN).chargeBroken d k).memy.bufs = s.memy.bufs :=
    State.bufs_chargeBroken _ d k
  have told : ∀ (t : State) e d src dt doms, (t.raise e d src dt doms).memy = t.memy := fun t e d src dt doms =>
    memy_of_mask (t.raise_mask e d src dt doms (Nat.and_self _)) rfl
  have acts : ∀ (t : State) e silos, (t.source e silos).memy = t.memy := fun t e silos => memy_of_mask (t.source_mask e silos (Nat.and_self _)) rfl
  unfold State.guaranteeBroken
  dsimp only
  split
  · rfl
  · rw [apply_ite State.memy, acts, ite_self, told, charged]

theorem State.bufs_quotaDone (d k sl : Nat) : (s.quotaDone d k sl).memy.bufs = s.memy.bufs :=
  foldl_keeps (fun t : State => t.memy.bufs) (fun t _ => congrArg MemState.bufs (memy_of_mask (t.answer_mask _ _ _ _ (Nat.and_self _)) rfl)) _ _

/-- A buffer whose copy has ended lies where it was copied to (R154). -/
theorem State.lookup_bufs_moveEnd {d k sl : Nat} {m : Move} {e : BufEnt} (he : lookup? s.memy.bufs (d, k, m.index) = some e) :
    lookup? (s.moveEnd d k sl m).memy.bufs (d, k, m.index) = some { e with base := m.dest, spilled := !m.refill, moving := false } := by
  unfold State.moveEnd
  rw [he]
  dsimp only
  split
  · simp only [State.setFld_memy, State.changeBuf_memy, lookup?_insertKV_same]
  · simp only [State.changeBuf_memy, lookup?_insertKV_same]

end

/-! Spill and refill (R154). -/

section
variable {s : State} {d k sl : Nat} {m : Move}

theorem exec_spillStart_next {i a : Nat} {e : BufEnt} {rest : List (Nat × BufEnt)} (hd : s.hasDie d = true) (hk : k < 16) (hsl : sl < 6)
    (hover : s.quotaOf d k sl < s.usedBushels d k sl) (hfree : lookup? s.memy.spills (d, k, sl) = none)
    (hbufs : (s.slicesBufs d k sl (fun e => !e.spilled && !e.pinned && !e.moving)).reverse = (i, e) :: rest)
    (hkills : ∀ x ∈ s.dieList, s.killWhere x true (fun _ p => decide (mkHandle d k e.gen i ∈ s.handlesOf p.desc)) = s)
    (hnaming : s.naming (mkHandle d k e.gen i) = []) (hplace : s.findSpill d e.length = some a) :
    ∃ t, exec (.spillStart d k sl) s = .next t ∧ lookup? t.memy.spills (d, k, sl) = some ⟨i, false, a, none⟩ ∧
      lookup? t.memy.bufs (d, k, i) = some { e with moving := true } := by
  have hthere : ¬ (¬ s.hasDie d = true ∨ 16 ≤ k ∨ 6 ≤ sl) := not_or.mpr ⟨not_not_intro hd, by omega⟩
  have hmust : ¬ (s.usedBushels d k sl ≤ s.quotaOf d k sl ∨ (lookup? s.memy.spills (d, k, sl)).isSome = true) := by
    rw [hfree]
    exact not_or.mpr ⟨Nat.not_le.mpr hover, by decide⟩
  refine ⟨{ s.changeBuf d k i { e with moving := true } with memy.spills := insertKV s.memy.spills (d, k, sl) ⟨i, false, a, none⟩ }, ?_,
    lookup?_insertKV_same _ _ _, ?_⟩
  · have kept : s.dieList.foldl (fun (t : State) x => t.killWhere x true (fun _ p => decide (mkHandle d k e.gen i ∈ s.handlesOf p.desc))) s = s :=
      foldl_fixed_of_mem hkills
    change execSpillStart d k sl s = _
    simp only [execSpillStart, if_neg hthere, if_neg hmust, hbufs, kept, hnaming, hplace, ne_eq, not_true_eq_false, if_false]
  · simp only [State.changeBuf_memy, lookup?_insertKV_same]

/-- The end of a spill, as it finds the silo within its quota or not. -/
theorem exec_spillCopyEnd_eq (hm : lookup? s.memy.spills (d, k, sl) = some m) (hspill : m.refill = false) :
    exec (.spillCopyEnd d k sl) s = .next (if (s.moveEnd d k sl m).usedBushels d k sl ≤ (s.moveEnd d k sl m).quotaOf d k sl
      then ((s.moveEnd d k sl m).quotaDone d k sl).refills d sl else s.moveEnd d k sl m) := by
  change execSpillCopyEnd d k sl s = _
  simp only [execSpillCopyEnd, hm, hspill, Bool.false_eq_true, if_false]

theorem exec_spillCopyEnd_over (hm : lookup? s.memy.spills (d, k, sl) = some m) (hspill : m.refill = false)
    (hover : (s.moveEnd d k sl m).quotaOf d k sl < (s.moveEnd d k sl m).usedBushels d k sl) : exec (.spillCopyEnd d k sl) s = .next (s.moveEnd d k sl m) := by
  rw [exec_spillCopyEnd_eq hm hspill, if_neg (Nat.not_le.mpr hover)]

theorem exec_spillCopyEnd_within (hm : lookup? s.memy.spills (d, k, sl) = some m) (hspill : m.refill = false)
    (hwithin : (s.moveEnd d k sl m).usedBushels d k sl ≤ (s.moveEnd d k sl m).quotaOf d k sl) :
    exec (.spillCopyEnd d k sl) s = .next (((s.moveEnd d k sl m).quotaDone d k sl).refills d sl) := by
  rw [exec_spillCopyEnd_eq hm hspill, if_pos hwithin]

theorem exec_refillCopyEnd_next {e : BufEnt} (hm : lookup? (s.startRefill d k sl).memy.spills (d, k, sl) = some m) (hrefill : m.refill = true)
    (he : lookup? (s.startRefill d k sl).memy.bufs (d, k, m.index) = some e) :
    ∃ u : State, lookup? u.memy.bufs (d, k, m.index) = some { e with base := m.dest, spilled := false, moving := false } ∧
      exec (.refillCopyEnd d k sl) s = .next (u.refills d sl) := by
  have moved := State.lookup_bufs_moveEnd (s.startRefill d k sl) (sl := sl) he
  rw [hrefill] at moved
  let v : State := (s.startRefill d k sl).moveEnd d k sl m
  let held := v.heldBy d k (mkHandle d k e.gen m.index)
  let w : State := if held = [] then v else v.guaranteeBroken d k 4 (held.foldl max 0) (v.takerClass d k) 0
  have hw : w.memy.bufs = v.memy.bufs := by
    by_cases h : held = []
    · simp only [w, if_pos h]
    · simp only [w, if_neg h, State.bufs_guaranteeBroken]
  refine ⟨if w.usedBushels d k sl ≤ w.quotaOf d k sl then w.quotaDone d k sl else w, ?_, ?_⟩
  · have hbufs : (if w.usedBushels d k sl ≤ w.quotaOf d k sl then w.quotaDone d k sl else w).memy.bufs = v.memy.bufs := by
      by_cases h : w.usedBushels d k sl ≤ w.quotaOf d k sl
      · rw [if_pos h, State.bufs_quotaDone, hw]
      · rw [if_neg h, hw]
    rw [hbufs]
    exact moved
  · change execRefillCopyEnd d k sl s = _
    simp only [execRefillCopyEnd, hm, hrefill, not_true_eq_false, if_false, moved, w, held, v]

end

/-- Settles O11, clause by clause. -/
theorem memoryEventsComplete : Obligations.MemoryEventsComplete := fun _ =>
  ⟨fun _ _ _ _ _ _ => exec_eccCorrectionWriteback_grnCorrected _ _ _ _ _, fun _ _ => exec_scrubRead_next, fun _ _ _ _ _ _ _ => exec_dramReread_next _ _ _ _ _,
    fun _ _ => exec_dramPowerDownEntry_enters, fun _ _ => exec_dramRefreshDerate_next, fun _ _ _ _ _ _ _ => exec_spillStart_next,
    fun _ _ _ _ => exec_spillCopyEnd_over, fun _ _ _ _ => exec_spillCopyEnd_within, fun _ _ _ _ _ => exec_refillCopyEnd_next⟩

end Sys2Proof.Machine
end

section
/-!
SUPPORT and PROOFS. The power manager: a die's power control, its interval, rails and sensors, a power failure and its end, and the power messages (07_granary_and_dram.md).
-/
namespace Sys2Proof.Machine

/-! Loops of which each pass changes what belongs to its own element alone. -/

/-- A loop over distinct elements changes what belongs to one of them once. -/
theorem foldl_once {σ α β : Type} (p : σ → β) (q : β → β) {g : σ → α → σ} {a : α} (hown : ∀ t, p (g t a) = q (p t))
    (hother : ∀ t b, b ≠ a → p (g t b) = p t) {l : List α} (hl : l.Nodup) (ha : a ∈ l) (s : σ) : p (l.foldl g s) = q (p s) := by
  induction l generalizing s with
  | nil => cases ha
  | cons b l ih =>
    obtain ⟨hb, hl⟩ := List.nodup_cons.mp hl
    rw [List.foldl_cons]
    by_cases hab : a = b
    · subst hab
      rw [← hown]
      exact List.foldlRecOn l g (motive := fun t => p t = p (g s a)) rfl (fun t ht c hc => (hother t c (fun e => hb (e ▸ hc))).trans ht)
    · rw [ih hl ((List.mem_cons.mp ha).resolve_left hab), hother s b (Ne.symm hab)]

/-! Power control of a die. -/

@[simp] theorem State.pw_setPw_same (s : State) (d : Nat) (p : PowerDie) : (s.setPw d p).pw d = p := lookupD_insertKV_same _ _ _ _

theorem State.pw_setPw_other (s : State) {d e : Nat} (p : PowerDie) (h : e ≠ d) : (s.setPw d p).pw e = s.pw e := lookupD_insertKV_other _ _ _ h

theorem State.pw_of_power {s t : State} (h : t.power = s.power) (d : Nat) : t.pw d = s.pw d := by rw [State.pw, State.pw, h]

/-- An update of a die's power control that leaves its floor raise leaves every die's. -/
theorem State.floorAdd_setPw (s : State) (d e : Nat) (p : PowerDie) (h : p.floorAdd = (s.pw d).floorAdd) : ((s.setPw d p).pw e).floorAdd = (s.pw e).floorAdd := by
  by_cases he : e = d
  · rw [he, State.pw_setPw_same, h]
  · rw [State.pw_setPw_other _ _ he]

/-! Setting a level moves no die's floor raise (R490, R493): of a die's power control it changes its run of intervals, its divisor for the APs and its rises. -/

section
variable (s : State) (d e : Nat)

theorem State.power_powerEvent (ev : Ev) (die kind : Nat) : (s.powerEvent ev die kind).power = s.power :=
  power_of_mask (s.powerEvent_mask ev die kind (Nat.and_self _)) rfl

theorem State.power_vout (rail mv : Nat) : (s.vout rail mv).power = s.power := power_of_mask (s.vout_mask rail mv (Nat.and_self _)) rfl

theorem State.power_retarget (x v : Nat) : (s.retarget d x v).power = s.power := power_of_mask (s.retarget_mask d x v (Nat.and_self _)) rfl

/-- What the rails are asked for is no die's power control. -/
theorem State.pw_voltages : s.voltages.pw e = s.pw e := by
  have core : ∀ v, (({ s with power.core := v } : State).vout 0 v).pw e = s.pw e := fun v => State.pw_of_power (State.power_vout _ 0 v) e
  have ap : ∀ (t : State) v, (({ t with power.ap := v } : State).vout 1 v).pw e = t.pw e := fun t v => State.pw_of_power (State.power_vout _ 1 v) e
  unfold State.voltages
  split
  · rfl
  · simp only [apply_ite (fun t : State => t.pw e), core, ap, ite_self]

theorem State.floorAdd_clockTo (x v : Nat) : ((s.clockTo d x v).pw e).floorAdd = (s.pw e).floorAdd := by
  have rises : ∀ l, ((s.setPw d { s.pw d with rises := l }).pw e).floorAdd = (s.pw e).floorAdd := fun l =>
    s.floorAdd_setPw d e { s.pw d with rises := l } rfl
  have moved : ∀ l, (((s.setPw d { s.pw d with rises := l }).retarget d x v).pw e).floorAdd = (s.pw e).floorAdd := fun l =>
    (congrArg PowerDie.floorAdd (State.pw_of_power (State.power_retarget _ d x v) e)).trans (rises l)
  have waits : ∀ l, ((s.setPw d { s.pw d with rises := l }).voltages.pw e).floorAdd = (s.pw e).floorAdd := fun l =>
    (congrArg PowerDie.floorAdd (State.pw_voltages _ e)).trans (rises l)
  unfold State.clockTo
  dsimp only
  split
  · rfl
  · split
    · exact moved _
    · refine (apply_ite (fun t : State => (t.pw e).floorAdd) _ _ _).trans ?_
      rw [moved, waits, ite_self]

theorem State.floorAdd_apClock (changed : Bool) : ((s.apClock d changed).pw e).floorAdd = (s.pw e).floorAdd := by
  have chosen : ((s.setPw d { s.pw d with apDiv := s.apWanted d }).pw e).floorAdd = (s.pw e).floorAdd :=
    s.floorAdd_setPw d e { s.pw d with apDiv := s.apWanted d } rfl
  unfold State.apClock
  dsimp only
  split
  · rfl
  · split
    · exact chosen
    · rw [State.floorAdd_clockTo, chosen]

theorem State.floorAdd_setLevel : ((s.setLevel d).pw e).floorAdd = (s.pw e).floorAdd := by
  have set : ∀ l, (((s.setFld d .PWR_STATUS_LEVEL 0 l).setPw d { s.pw d with above := 0 }).pw e).floorAdd = (s.pw e).floorAdd := fun l =>
    State.floorAdd_setPw (s.setFld d .PWR_STATUS_LEVEL 0 l) d e { s.pw d with above := 0 } rfl
  have told : ∀ (t : State) ev kind, (t.powerEvent ev d kind).pw e = t.pw e := fun t ev kind => State.pw_of_power (t.power_powerEvent ev d kind) e
  unfold State.setLevel
  dsimp only
  split
  · rw [State.floorAdd_apClock]
  · rw [State.floorAdd_apClock, apply_ite (fun t : State => t.pw e), apply_ite (fun t : State => t.pw e), told, told, ite_self, ite_self, set]

end

section
variable {s : State} {r : Req}

theorem exec_voltageConfirmed_inTime {d : Nat} (hd : s.hasDie d = true) (hrises : (s.pw d).rises ≠ []) (hblack : s.blackout 1 d = false) :
    exec (.voltageConfirmed d true) s = .next ((s.pw d).rises.foldl (fun (t : State) e => t.retarget d e.1 e.2) (s.setPw d { s.pw d with rises := [] })) := by
  have hgo : ¬ ((s.pw d).rises = [] ∨ s.blackout 1 d = true) := by simp [hrises, hblack]
  change execVoltageConfirmed d true s = _
  simp only [execVoltageConfirmed, hd, not_true_eq_false, if_false, if_neg hgo, if_true]

theorem exec_voltageConfirmed_late {d : Nat} (hd : s.hasDie d = true) (hrises : (s.pw d).rises ≠ []) (hblack : s.blackout 1 d = false) :
    ∃ t, exec (.voltageConfirmed d false) s = .next t ∧ t.fld d .PWR_STATUS_PMBUS_ERR = 1 := by
  have hgo : ¬ ((s.pw d).rises = [] ∨ s.blackout 1 d = true) := by simp [hrises, hblack]
  refine ⟨(s.setPw d { s.pw d with rises := [] }).flag d .PWR_STATUS_PMBUS_ERR, ?_, State.fld_setFld_same _ d .PWR_STATUS_PMBUS_ERR 0 1⟩
  change execVoltageConfirmed d false s = _
  simp only [execVoltageConfirmed, hd, not_true_eq_false, if_false, if_neg hgo, Bool.false_eq_true]

theorem exec_pmcIntervalEnd_voltages {d p100 : Nat} (hd : s.hasDie d = true) (hruns : s.pmcRuns d = true) :
    ∃ u : State, exec (.pmcIntervalEnd d p100) s = .next u.voltages :=
  ⟨_, (if_neg (not_not_intro hd)).trans (if_neg (not_not_intro hruns))⟩

/-- Every die's floor raise moves by one step (R493). -/
def State.raiseFloors (s : State) (f : Nat → Nat) : State := s.dieList.foldl (fun (u : State) d => u.setPw d { u.pw d with floorAdd := f (u.pw d).floorAdd }) s

theorem State.floorAdd_raiseFloors {d : Nat} (hd : s.hasDie d = true) (f : Nat → Nat) : ((s.raiseFloors f).pw d).floorAdd = f (s.pw d).floorAdd :=
  foldl_once (fun t : State => (t.pw d).floorAdd) f (fun t => by simp only [State.pw_setPw_same])
    (fun t b hb => by simp only [State.pw_setPw_other t _ (Ne.symm hb)]) List.nodup_range (State.mem_dieList hd) s

theorem State.raiseFloors_pkgLow (f : Nat → Nat) : (s.raiseFloors f).power.pkgLow = s.power.pkgLow :=
  foldl_keeps (fun t : State => t.power.pkgLow) (fun _ _ => by rfl) _ _

theorem exec_packagePowerCheck_above (hruns : s.pmcRuns 0 = true)
    (habove : 10 * s.fld 0 .PWR_PKG_LIMIT_PKG_LIMIT < s.dieList.foldl (fun a d => a + s.fld d .PWR_POWER_P100) 0) :
    ∃ t, exec .packagePowerCheck s = .next t ∧ t.power.pkgLow = 0 ∧ ∀ d, s.hasDie d = true → (t.pw d).floorAdd = min 8 ((s.pw d).floorAdd + 1) := by
  let u : State := { s with power.pkgLow := 0 }
  exact ⟨u.raiseFloors (fun x => min 8 (x + 1)), (if_neg (not_not_intro hruns)).trans (if_pos habove), State.raiseFloors_pkgLow _,
    fun d hd => State.floorAdd_raiseFloors (s := u) hd _⟩

theorem exec_packagePowerCheck_low (hruns : s.pmcRuns 0 = true)
    (hlow : 100 * s.dieList.foldl (fun a d => a + s.fld d .PWR_POWER_P100) 0 ≤ 950 * s.fld 0 .PWR_PKG_LIMIT_PKG_LIMIT) (hcount : s.power.pkgLow + 1 < 10) :
    exec .packagePowerCheck s = .next { s with power.pkgLow := s.power.pkgLow + 1 } := by
  have hbelow : ¬ 10 * s.fld 0 .PWR_PKG_LIMIT_PKG_LIMIT < s.dieList.foldl (fun a d => a + s.fld d .PWR_POWER_P100) 0 := by omega
  exact (if_neg (not_not_intro hruns)).trans ((if_neg hbelow).trans ((if_pos hlow).trans (if_pos hcount)))

theorem exec_powerEstimateScale_eq (readPout : Nat) (hruns : s.pmcRuns 0 = true) (hraw : s.dieList.foldl (fun a d => a + (s.pw d).raw) 0 ≠ 0) :
    exec (.powerEstimateScale readPout) s =
      .next { s with power.scaleNum := readPout, power.scaleDen := s.dieList.foldl (fun a d => a + (s.pw d).raw) 0 } :=
  congrArg Host.Outcome.next (if_neg (not_or.mpr ⟨not_not_intro hruns, hraw⟩))

/-- No reading at or above 130 °C: no sensor counts toward a trip (R495). -/
theorem exec_thermalSample_next {d : Nat} {readings : List Int} (hd : s.hasDie d = true) (hpow : s.boot.powered = true) (hlen : readings.length = 12)
    (hcool : ∀ x ∈ readings, -220 ≤ x ∧ x < 520) : ∃ t, exec (.thermalSample d readings) s = .next t ∧ (t.pw d).hot = [] := by
  have hgo : ¬ (¬ s.boot.powered = true ∨ readings.length ≠ 12) := by simp [hpow, hlen]
  have none_hot : ∀ valid, (((List.range 12).zip readings).filter (fun e => bit valid e.1)).filter (fun e => decide (520 ≤ e.2)) = [] := fun valid =>
    List.filter_eq_nil_iff.mpr (fun e he => by
      have cool := hcool e.2 (List.of_mem_zip (List.mem_filter.mp he).1).2
      simp [cool.2])
  refine ⟨_, (if_neg (not_not_intro hd)).trans (if_neg hgo), ?_⟩
  dsimp only
  simp only [none_hot, List.map_nil, List.any_nil, Bool.false_eq_true, if_false, State.pw_setPw_same]

/-- A rail that is off is not watched (R488). -/
theorem exec_railMonitor_off {d : Nat} {readings : List PmbusReading} (hd : s.hasDie d = true) (hruns : s.pmcRuns d = true)
    (hoff : ∀ i, i < 8 → s.fld d .PWR_RAIL_EN i = 0) : exec (.railMonitor d readings) s = .next s :=
  (if_neg (not_not_intro hd)).trans ((if_neg (not_not_intro hruns)).trans (congrArg Host.Outcome.next
    (foldl_fixed_of_mem (fun e he => if_pos (hoff e.1 (List.mem_range.mp (List.of_mem_zip he).1))))))

theorem exec_railMonitor_noAnswer {d : Nat} {rest : List PmbusReading} (hd : s.hasDie d = true) (hruns : s.pmcRuns d = true)
    (hon : s.fld d .PWR_RAIL_EN 0 ≠ 0) (hoff : ∀ i, i < 8 → i ≠ 0 → (s.pmbusFault d).fld d .PWR_RAIL_EN i = 0) :
    exec (.railMonitor d (.noAnswer :: rest)) s = .next (s.pmbusFault d) := by
  have others : ∀ e ∈ [1, 2, 3, 4, 5, 6, 7].zip rest, (s.pmbusFault d).fld d .PWR_RAIL_EN e.1 = 0 := fun e he => by
    have hi : e.1 ∈ [1, 2, 3, 4, 5, 6, 7] := (List.of_mem_zip he).1
    simp only [List.mem_cons, List.not_mem_nil, or_false] at hi
    exact hoff e.1 (by omega) (by omega)
  refine (if_neg (not_not_intro hd)).trans ((if_neg (not_not_intro hruns)).trans (congrArg Host.Outcome.next ?_))
  rw [show List.range 8 = [0, 1, 2, 3, 4, 5, 6, 7] from rfl, List.zip_cons_cons, List.foldl_cons, if_neg hon]
  exact foldl_fixed_of_mem (fun e he => if_pos (others e he))

theorem exec_pmbusAlert_fault {d : Nat} (hd : s.hasDie d = true) (hruns : s.pmcRuns d = true) : exec (.pmbusAlert d true) s = .next (s.pmbusFault d) :=
  (if_neg (not_not_intro hd)).trans (congrArg Host.Outcome.next (if_pos ⟨rfl, hruns⟩))

theorem exec_eccCountCollect_next {d : Nat} (hd : s.hasDie d = true) (hruns : s.pmcRuns d = true) : ∃ t, exec (.eccCountCollect d) s = .next t ∧
    lookupD t.tithe.maxTemp d 0 = max (lookupD (s.collectEcc d).tithe.maxTemp d 0) (s.dieTemp d) := by
  have counted : ∀ (t : State) off n, (t.titheAdd off n).tithe.maxTemp = t.tithe.maxTemp := fun _ _ _ => rfl
  refine ⟨_, (if_neg (not_not_intro hd)).trans (if_neg (not_not_intro hruns)), ?_⟩
  simp only [lookupD_insertKV_same, apply_ite (fun t : State => t.tithe.maxTemp), counted, ite_self]

end

/-! A power failure and its end (R496). -/

section
variable (s : State)

theorem State.part_source (e : Entry) (silos : List (Nat × Nat)) : (s.source e silos).part = s.part := part_of_mask0 (s.source_mask e silos (Nat.and_self _)) rfl

theorem State.part_setLevel (d : Nat) : (s.setLevel d).part = s.part := part_of_mask0 (s.setLevel_mask d (Nat.and_self _)) rfl

theorem State.part_powerEvent (e : Ev) (d kind : Nat) : (s.powerEvent e d kind).part = s.part := part_of_mask0 (s.powerEvent_mask e d kind (Nat.and_self _)) rfl

theorem State.part_collectEcc (d : Nat) : (s.collectEcc d).part = s.part := part_of_mask0 (s.collectEcc_mask d (Nat.and_self _)) rfl

theorem State.part_titheStart (reason : Nat) (r : Option Req) : (s.titheStart reason r).part = s.part :=
  part_of_mask0 (s.titheStart_mask reason r (Nat.and_self _)) rfl

/-- A flag put on every die of the part stands on each of them. -/
theorem State.fld_flag_dies {d : Nat} (hd : s.hasDie d = true) (f : Fld) :
    (s.dieList.foldl (fun (t : State) d => t.flag d f) s).fld d f 0 = 1 % 2 ^ f.width :=
  foldl_brings (g := fun (t : State) b => t.flag b f) (fun t : State => t.fld d f 0 = 1 % 2 ^ f.width) (fun t => t.fld_setFld_same d f 0 1)
    (fun _ b ht => State.fld_setFld_again ht b) (State.mem_dieList hd) s

theorem exec_powerFailAssert_next {s : State} (hpow : s.boot.powered = true) (htrip : ∀ d ∈ s.dieList, s.fld d .PWR_STATUS_TRIP = 0)
    (hpfail : s.fld 0 .PWR_STATUS_PFAIL = 0) :
    ∃ t, exec .powerFailAssert s = .next t ∧ ∀ d, s.hasDie d = true → t.fld d .DRAM_STATUS_SELF_REFRESH = 1 := by
  have untripped : ¬ s.dieList.any (fun d => decide (s.fld d .PWR_STATUS_TRIP = 1)) = true := by
    simp only [List.any_eq_true, decide_eq_true_eq, not_exists, not_and]
    exact fun d hd => by rw [htrip d hd]; decide
  have hgo : ¬ (¬ s.boot.powered = true ∨ s.dieList.any (fun d => decide (s.fld d .PWR_STATUS_TRIP = 1)) = true ∨ s.fld 0 .PWR_STATUS_PFAIL = 1) :=
    not_or.mpr ⟨not_not_intro hpow, not_or.mpr ⟨untripped, by omega⟩⟩
  have levelled : ∀ (l : List Nat) (t : State),
      (l.foldl (fun (t : State) d => ((t.flag d .PWR_STATUS_PFAIL).setPw d { t.pw d with floorAdd := 8 }).setLevel d) t).part = t.part :=
    fun l t => foldl_keeps State.part (fun u d => State.part_setLevel ((u.flag d .PWR_STATUS_PFAIL).setPw d { u.pw d with floorAdd := 8 }) d) l t
  have collected : ∀ (l : List Nat) (t : State), (l.foldl (fun (t : State) d => t.collectEcc d) t).part = t.part :=
    fun l t => foldl_keeps State.part (fun u d => u.part_collectEcc d) l t
  have recorded : ∀ t : State, (if t.fld 0 .TITHE_STATUS_ERASING = 1 then t.flag 0 .TITHE_STATUS_SKIPPED else t.titheStart 1 none).part = t.part := fun t => by
    split
    · rfl
    · exact t.part_titheStart 1 none
  refine ⟨_, if_neg hgo, fun d hd => State.fld_flag_dies _ ((State.hasDie_of_part ?_ d).trans hd) .DRAM_STATUS_SELF_REFRESH⟩
  rw [recorded, collected, State.part_powerEvent, levelled]
  exact State.part_source s _ _

theorem exec_powerFailRestore_next {s : State} (hpfail : s.fld 0 .PWR_STATUS_PFAIL = 1) :
    ∃ u : State, exec .powerFailRestore s = .next (u.powerEvent .powerFail 0 0) ∧ ∀ d, s.hasDie d = true → (u.pw d).floorAdd = 0 := by
  have failed : ¬ s.fld 0 .PWR_STATUS_PFAIL = 0 := by omega
  let relax (t : State) (d : Nat) : State := ((t.setFld d .PWR_STATUS_PFAIL 0 0).setFld d .DRAM_STATUS_SELF_REFRESH 0 0).setPw d { t.pw d with floorAdd := 0 }
  have other : ∀ (t : State) b d, (t.pw d).floorAdd = 0 → ((relax t b).pw d).floorAdd = 0 := fun t b d ht => by
    by_cases h : d = b
    · simp only [relax, h, State.pw_setPw_same]
    · simp only [relax, State.pw_setPw_other _ _ h]
      exact ht
  refine ⟨s.dieList.foldl (fun (t : State) d => (relax t d).setLevel d) s, congrArg Host.Outcome.next (if_neg failed), fun d hd => ?_⟩
  exact foldl_brings (fun t : State => (t.pw d).floorAdd = 0) (fun t => by rw [State.floorAdd_setLevel]; simp only [relax, State.pw_setPw_same])
    (fun t b ht => by rw [State.floorAdd_setLevel]; exact other t b d ht) (State.mem_dieList hd) s

end

/-! The messages of the power manager (R506). -/

section
variable (s : State) (r : Req) (op : Nat)

@[simp] theorem State.handling_pwrStatus (d : Nat) : (s.handling r op).pwrStatus d = s.pwrStatus d := by
  obtain ⟨boxes, bells, h⟩ := s.handling_eq r op
  rw [h]; rfl

@[simp] theorem State.handling_dieLimitOk (d v : Nat) : (s.handling r op).dieLimitOk d v = s.dieLimitOk d v := by
  simp only [State.dieLimitOk, State.handling_fld]

@[simp] theorem State.handling_throttleOk (d v : Nat) : (s.handling r op).throttleOk d v = s.throttleOk d v := by
  simp only [State.throttleOk, State.handling_fld]

/-- A package limit is judged by the limits of the dies. -/
theorem State.pkgLimitOk_handling_setFld (d : Nat) (f : Fld) (i v w : Nat) : ((s.handling r op).setFld d f i v).pkgLimitOk w = (s.setFld d f i v).pkgLimitOk w := by
  obtain ⟨boxes, bells, h⟩ := s.handling_eq r op
  rw [h]; rfl

end

section
variable {s : State} {r : Req}

theorem exec_pwrQuery_replies {d : Nat} (hs : Serves s r 0x0800 (some d)) (hd : s.hasDie d = true) :
    exec (.pwrQuery r d) s = .next (s.replies r 0x0800 (some d) (fun t => (t,
      leBytes 4 (s.pwrStatus d) ++ leBytes 4 (s.fld d .PWR_LIMIT_DIE_LIMIT) ++ leBytes 4 (s.fld 0 .PWR_PKG_LIMIT_PKG_LIMIT) ++ leBytes 4 (s.fld d .PWR_FLOOR_FLOOR) ++
        leBytes 4 (s.fld d .PWR_POWER_P1MS * 2 ^ 16 + s.fld d .PWR_POWER_P100) ++
        leBytes 4 (s.fld d .THERM_STATUS_VALID * 2 ^ 16 + s.fld d .THERM_STATUS_SENSOR * 2 ^ 12 + s.fld d .THERM_STATUS_TEMP) ++ leBytes 8 0))) := by
  refine congrArg Host.Outcome.next (hs.replies ?_)
  simp only [State.handling_hasDie, hd, not_true_eq_false, if_false, State.handling_pwrStatus, State.handling_fld]

theorem exec_pwrSet_replies {c : PowerSet} (hs : Serves s r 0x0801 (some c.die)) (hd : s.hasDie c.die = true) (hman : s.manager r.dom = true)
    (hfloor : c.floor ≤ 8) (hdie : s.dieLimitOk c.die c.dieLimit = true)
    (hpkg : (s.setFld c.die .PWR_LIMIT_DIE_LIMIT 0 c.dieLimit).pkgLimitOk c.pkgLimit = true) (hthrottle : s.throttleOk c.die c.throttleC = true) :
    exec (.pwrSet r c) s = .next (s.replies r 0x0801 (some c.die) (fun t => ((((t.setFld c.die .PWR_LIMIT_DIE_LIMIT 0 c.dieLimit).setFld
      c.die .PWR_FLOOR_FLOOR 0 c.floor).setFld 0 .PWR_PKG_LIMIT_PKG_LIMIT 0 c.pkgLimit).setFld c.die .THERM_CFG_THROTTLE_C 0 c.throttleC, []))) := by
  refine congrArg Host.Outcome.next (hs.replies ?_)
  simp only [State.handling_hasDie, hd, State.handling_manager, hman, State.handling_dieLimitOk, hdie, State.pkgLimitOk_handling_setFld, hpkg,
    State.handling_throttleOk, hthrottle, Nat.not_lt.mpr hfloor, not_true_eq_false, or_self, if_false]

theorem exec_railSet_replies {d entry : Nat} {image : Word} (hs : Serves s r 0x0802 (some d)) (hd : s.hasDie d = true) (hentry : entry < 8)
    (hrail : bits image.toNat 18 16 < 5) (hman : s.manager r.dom = true) (hstep : s.stepOf d < 8) :
    exec (.railSet r d entry image) s = .next (s.replies r 0x0802 (some d) (fun t => (t.putRail d entry image.toNat, []))) := by
  refine congrArg Host.Outcome.next (hs.replies ?_)
  simp only [State.handling_hasDie, hd, Nat.not_le.mpr hentry, Nat.not_le.mpr hrail, State.handling_manager, hman, State.handling_stepOf, Nat.not_le.mpr hstep,
    not_true_eq_false, or_self, if_false]

end

/-- Settles O13, clause by clause. -/
theorem powerRowsComplete : Obligations.PowerRowsComplete := fun _ =>
  ⟨fun _ => exec_voltageConfirmed_inTime, fun _ => exec_voltageConfirmed_late, fun _ _ => exec_pmcIntervalEnd_voltages, exec_packagePowerCheck_above,
    exec_packagePowerCheck_low, exec_powerEstimateScale_eq, fun _ _ => exec_thermalSample_next, fun _ hd hruns hoff _ => exec_railMonitor_off hd hruns hoff,
    fun _ _ => exec_railMonitor_noAnswer, fun _ => exec_pmbusAlert_fault, fun _ => exec_eccCountCollect_next, exec_powerFailAssert_next,
    exec_powerFailRestore_next, fun _ _ => exec_pwrQuery_replies, fun _ _ => exec_pwrSet_replies, fun _ _ _ _ => exec_railSet_replies⟩

end Sys2Proof.Machine
end

section
/-!
PROOFS. The rows of a command that stands in its slot, and the rows of the tensor engine (08_tensor_engine.md, 12_attention_and_kv.md).
-/
namespace Sys2Proof.Machine

section
variable {s : State} {d core engine op : Nat} {slot : SlotKind} {p : Placed}

/-- A row whose opcode is that of the command standing in its slot runs the command with the row's job. -/
theorem Standing.runRow (h : Standing s d core slot engine op p) (known : Nat → Bool) (go : Placed → Job) :
    s.runRow d core slot engine (fun o => o == op) known go = .next (s.ranTo d core slot p (go p)) := by
  obtain ⟨hdie, hcore, hplaced, hran, hengine, htrip, hop⟩ := h
  have hunit : ¬ (¬ s.hasDie d = true ∨ 48 ≤ core) := not_or.mpr ⟨not_not_intro hdie, Nat.not_le.mpr hcore⟩
  have hready : ¬ (p.ran = true ∨ descEngine p.desc ≠ engine ∨ s.tripped d = true) := by
    simp [hran, hengine, State.tripped, htrip]
  simp only [State.runRow, if_neg hunit, hplaced, if_neg hready, hop, beq_self_eq_true, if_true]

/-- A fused command that finds the pages it needs runs as any command (R271). -/
theorem Standing.runFused {go : Placed → Job} (h : Standing s d core .te 0 op p) (hpages : (go p).status ≠ 10) :
    s.runFused d core op go = .next (s.ranTo d core .te p (go p)) := by
  have ⟨_, _, hplaced, _⟩ := h
  simp only [State.runFused, hplaced, hpages, decide_false, Bool.and_false, Bool.false_eq_true, if_false]
  exact h.runRow teOps go

/-- A job whose checks pass lacks no page: that is code 10 of the checks (R258). -/
theorem status_ne_noPage {j : Job} (h : j.status % 16 = 0) : j.status ≠ 10 := fun hs => by omega

end

/-- Settles O14, row by row. -/
theorem tensorRowsComplete : Obligations.TensorRowsComplete := fun _ =>
  ⟨fun _ _ _ h _ => h.runRow _ _, fun _ _ _ h _ => h.runRow _ _, fun _ _ _ h ok => h.runFused (status_ne_noPage ok),
    fun _ _ _ h ok => h.runFused (status_ne_noPage ok), fun _ _ _ h ok => h.runFused (status_ne_noPage ok),
    fun _ _ _ h ok => h.runFused (status_ne_noPage ok)⟩

end Sys2Proof.Machine
end

section
/-!
SUPPORT and PROOFS. The tables of the key-value cache while a request is handled, and the rows of the engines' queries and of the key and value pools
(R178, R202, R225, R243, R250, R253, R270).
-/
namespace Sys2Proof.Machine

/-! What the requests of this chapter look at reads the same while one of them is handled. -/

section
variable (s : State) (r : Req) (op : Nat)

@[simp] theorem State.handling_seesCore (dom : Dom) (d c : Nat) : (s.handling r op).seesCore dom d c = s.seesCore dom d c := by
  simp only [State.seesCore, State.handling_holder, State.handling_fld]

@[simp] theorem State.handling_kvSender (dom : Dom) (d k : Nat) : (s.handling r op).kvSender dom d k = s.kvSender dom d k := by
  simp only [State.kvSender, State.handling_holder]

@[simp] theorem State.handling_kvBytes (d i n : Nat) : (s.handling r op).kvBytes d i n = s.kvBytes d i n :=
  s.handling_bytes r op (kvBase d + 16 * i) n

@[simp] theorem State.handling_kvPool (d : Nat) (w : KvView) (i : Nat) : (s.handling r op).kvPool d w i = s.kvPool d w i :=
  State.kvPool_of_mem (s.handling_mem r op) d w i

@[simp] theorem State.handling_kvSlots (d : Nat) : (s.handling r op).kvSlots d = s.kvSlots d := by
  simp only [State.kvSlots, State.handling_fld]

@[simp] theorem State.handling_poolValid (d : Nat) (p : KvPool) (silo : Nat) : (s.handling r op).poolValid d p silo = s.poolValid d p silo := by
  simp only [State.poolValid, State.handling_kvSlots, State.handling_bufOf]

@[simp] theorem State.handling_seqValid (d i silo : Nat) : (s.handling r op).seqValid d i silo = s.seqValid d i silo := by
  simp only [State.seqValid, State.handling_kvSlots, State.handling_kvSeq, State.handling_kvPool, State.handling_poolValid]

/-- The sequences that a command names stand in its descriptor, or in the batch of its second operand (R254 to R257). -/
@[simp] theorem State.handling_sequences (b : List Byte) : (s.handling r op).sequences b = s.sequences b := by
  simp only [State.sequences, State.loadNat, State.handling_bufOf, State.handling_bytes]

@[simp] theorem State.handling_seqBusy (d i : Nat) : (s.handling r op).seqBusy d i = s.seqBusy d i := by
  simp only [State.seqBusy, State.slotsOf, State.handling_q, State.handling_sequences]

end

/-! The queries of the engines (R178, R202, R225, R243). -/

section
variable {s : State} {r : Req}

/-- A query of a core that its sender sees is answered with the image of the core. -/
theorem State.coreQuery_replies {op d cl k : Nat} {image : State → Nat → List Byte} (hs : Serves s r op (some d)) (hd : s.hasDie d = true)
    (hcl : cl < 6) (hk : k < 8) (hsees : s.seesCore r.dom d (8 * cl + k) = true)
    (himage : image (s.handling r op) (8 * cl + k) = image s (8 * cl + k)) :
    s.coreQuery r op d cl k image = s.replies r op (some d) (fun t => (t, image s (8 * cl + k))) := by
  refine hs.replies ?_
  have hform : ¬ (¬ (s.handling r op).hasDie d = true ∨ 6 ≤ cl ∨ 8 ≤ k) :=
    not_or.mpr ⟨not_not_intro ((s.handling_hasDie r op d).trans hd), by omega⟩
  simp only [if_neg hform, State.handling_seesCore, hsees, not_true_eq_false, if_false, himage]

variable {d cl k : Nat} (hd : s.hasDie d = true) (hcl : cl < 6) (hk : k < 8) (hsees : s.seesCore r.dom d (8 * cl + k) = true)
include hd hcl hk hsees

theorem exec_teQuery_replies (hs : Serves s r 0x0250 (some d)) :
    let c := 8 * cl + k
    exec (.teQuery r d cl k) s = .next (s.replies r 0x0250 (some d) (fun t => (t,
      leBytes 8 (s.fld d .TE_ACTIVE_CYCLES c) ++ leBytes 8 (s.fld d .TE_STALL_CYCLES c) ++ leBytes 4 (s.teImage d c) ++ leBytes 4 0))) :=
  congrArg Host.Outcome.next (State.coreQuery_replies hs hd hcl hk hsees (by simp only [State.teImage, State.handling_fld]))

theorem exec_veQuery_replies (hs : Serves s r 0x0251 (some d)) :
    let c := 8 * cl + k
    exec (.veQuery r d cl k) s = .next (s.replies r 0x0251 (some d) (fun t => (t,
      leBytes 8 (s.fld d .VE_ACTIVE_CYCLES c) ++ leBytes 8 (s.fld d .VE_STALL_CYCLES c) ++ leBytes 4 (s.veImage d c) ++ leBytes 4 0))) :=
  congrArg Host.Outcome.next (State.coreQuery_replies hs hd hcl hk hsees (by simp only [State.veImage, State.handling_fld]))

theorem exec_xeQuery_replies (hs : Serves s r 0x0252 (some d)) :
    let c := 8 * cl + k
    exec (.xeQuery r d cl k) s = .next (s.replies r 0x0252 (some d) (fun t => (t,
      leBytes 8 (s.fld d .XE_ACTIVE_CYCLES c) ++ leBytes 8 (s.fld d .XE_STALL_CYCLES c) ++ leBytes 4 (s.xeImage d c) ++ leBytes 4 0))) :=
  congrArg Host.Outcome.next (State.coreQuery_replies hs hd hcl hk hsees (by simp only [State.xeImage, State.handling_fld]))

theorem exec_winQuery_replies (hs : Serves s r 0x0253 (some d)) :
    exec (.winQuery r d cl k) s =
      .next (s.replies r 0x0253 (some d) (fun t => (t, leBytes 4 (s.winImage d (8 * cl + k)) ++ leBytes 4 0))) :=
  congrArg Host.Outcome.next (State.coreQuery_replies hs hd hcl hk hsees (by simp only [State.winImage, State.handling_fld]))

end

/-! The messages of the pools (R250, R270). -/

section
variable {s : State} {r : Req} {e : (Nat × Nat) × (Nat × Nat)}

theorem exec_kvPoolCreate_replies {h : Word} {pages i : Nat} {b : BufEnt} (hs : Serves s r 0x0260 (some (handleDie h.toNat)))
    (hbuf : s.bufOf h.toNat = some b) (hsender : s.kvSender r.dom (s.bufDie h.toNat) (handleSilo h.toNat) = true) (hsome : 1 ≤ pages)
    (hmax : pages ≤ 65535) (hfits : 34816 * pages ≤ b.length) (hfree : s.kvFind (s.bufDie h.toNat) 1 (pages + 1) = some i) :
    exec (.kvPoolCreate r h pages) s = .next (s.replies r 0x0260 (some (handleDie h.toNat)) (fun t =>
      (((t.kvTake (s.bufDie h.toNat) (handleSilo h.toNat) i (pages + 1)).write (kvBase (s.bufDie h.toNat) + 16 * i)
        (leBytes 4 h.toNat ++ leBytes 2 pages ++ leBytes 2 pages ++ leBytes 4 (i + 1) ++ leBytes 4 (i + 1) ++
          (List.range pages).flatMap (fun n => leBytes 4 i ++ leBytes 2 n ++ leBytes 6 0 ++ leBytes 4 (if n + 1 = pages then kvNull else i + 2 + n)))).kvMirror
        ((s.bufDie h.toNat, i), (handleSilo h.toNat, pages + 1)), leBytes 4 i))) := by
  refine congrArg Host.Outcome.next (hs.replies ?_)
  have hform : ¬ (pages = 0 ∨ 65535 < pages ∨ b.length < 34816 * pages) := by omega
  simp only [State.handling_bufOf, hbuf, State.handling_bufDie, State.handling_kvSender, hsender, not_true_eq_false, if_false, if_neg hform,
    State.handling_kvFind, hfree]

theorem exec_kvPoolDestroy_replies {pool : Word} (hs : Serves s r 0x0261 none) (hentry : s.kvEntry r.dom pool.toNat = some e)
    (hsender : s.kvSender r.dom e.1.1 e.2.1 = true) (hbase : (s.kvPool e.1.1 [] pool.toNat).base = pool.toNat + 1)
    (hpages : e.2.2 = (s.kvPool e.1.1 [] pool.toNat).pages + 1) (hfree : (s.kvPool e.1.1 [] pool.toNat).free = (s.kvPool e.1.1 [] pool.toNat).pages) :
    exec (.kvPoolDestroy r pool) s = .next (s.replies r 0x0261 none (fun t => (t.kvDrop e, []))) := by
  refine congrArg Host.Outcome.next (hs.replies ?_)
  simp only [State.handling_kvEntry, hentry, State.handling_kvSender, hsender, State.handling_kvPool, hbase, hpages, hfree, ne_eq, not_true_eq_false,
    or_self, if_false]

end

/-! The messages of the sequences (R251, R253, R270). -/

section
variable {s : State} {r : Req} {e : (Nat × Nat) × (Nat × Nat)}

theorem exec_kvSeqCreate_replies {c : KvSeqCfg} {i : Nat} (hs : Serves s r 0x0262 none) (hentry : s.kvEntry r.dom c.pool.toNat = some e)
    (hsender : s.kvSender r.dom e.1.1 e.2.1 = true) (hpool : s.poolValid e.1.1 (s.kvPool e.1.1 [] c.pool.toNat) e.2.1 = true)
    (hranges : (⟨0, c.pool.toNat, c.kvHeads, c.headDim, c.flags, 0, c.maxRows, c.budget, c.recent, c.reserve, c.decay, 0, 0, 0⟩ : KvSeq).rangesOk = true)
    (hfree : s.kvFind e.1.1 4 (4 + c.maxRows) = some i) :
    exec (.kvSeqCreate r c) s = .next (s.replies r 0x0262 none (fun t =>
      let q : KvSeq := ⟨0, c.pool.toNat, c.kvHeads, c.headDim, Nat.lor c.flags 1, 0, c.maxRows, c.budget, c.recent, c.reserve, c.decay, 0, 0, i + 4⟩
      (((t.kvTake e.1.1 e.2.1 i (4 + c.maxRows)).write (kvBase e.1.1 + 16 * i) (q.bytes ++ leBytes 32 0 ++ List.replicate (16 * c.maxRows) 0xFF#8)).kvMirror
        ((e.1.1, i), (e.2.1, 4 + c.maxRows)), leBytes 4 i))) := by
  refine congrArg Host.Outcome.next (hs.replies ?_)
  simp only [State.handling_kvEntry, hentry, State.handling_kvSender, hsender, State.handling_kvPool, State.handling_poolValid, hpool, hranges,
    State.handling_kvFind, hfree, not_true_eq_false, or_self, if_false]

variable {seq : Word} (hentry : s.kvEntry r.dom seq.toNat = some e) (hsender : s.kvSender r.dom e.1.1 e.2.1 = true)
  (hvalid : s.seqValid e.1.1 seq.toNat e.2.1 = true)
include hentry hsender hvalid

/-- A message on a sequence that stands, from a sender that may act on it, is answered as its action on the sequence answers. -/
theorem State.onSeq_replies {op : Nat} {act : State → ((Nat × Nat) × (Nat × Nat)) → KvSeq → Reply} {f : State → State × List Byte} (hs : Serves s r op none)
    (hact : act (s.handling r op) e (s.kvSeq e.1.1 [] seq.toNat) = reply (f (s.handling r op)).1 .ok (f (s.handling r op)).2) :
    s.onSeq r op seq act = s.replies r op none f := by
  refine hs.replies ?_
  simp only [State.handling_kvEntry, hentry, State.handling_kvSender, hsender, State.handling_seqValid, hvalid, State.handling_kvSeq, hact,
    not_true_eq_false, if_false]

theorem exec_kvSeqQuery_replies (hs : Serves s r 0x0264 none) :
    exec (.kvSeqQuery r seq) s =
      .next (s.replies r 0x0264 none (fun t => (t, s.kvBytes e.1.1 (s.kvSeq e.1.1 [] seq.toNat).slot 64))) := by
  refine congrArg Host.Outcome.next (State.onSeq_replies hentry hsender hvalid hs ?_)
  simp only [State.handling_kvBytes]

theorem exec_kvSeqDestroy_replies (hidle : s.seqBusy e.1.1 (s.kvSeq e.1.1 [] seq.toNat).slot = false) (hs : Serves s r 0x0263 none) :
    let q := s.kvSeq e.1.1 [] seq.toNat
    exec (.kvSeqDestroy r seq) s = .next (s.replies r 0x0263 none (fun t =>
      ((t.kvCommit e.1.1 (t.kvApply e.1.1 (t.releaseOps e.1.1 q ++ { q with flags := 0, rows := 0, live := 0, nextPos := 0 }.puts))).kvDrop e, []))) := by
  refine congrArg Host.Outcome.next (State.onSeq_replies hentry hsender hvalid hs ?_)
  simp only [State.handling_seqBusy, hidle, Bool.false_eq_true, if_false]

theorem exec_kvSeqSet_replies {b rc rv dc : Nat} {ev : Bool} (hidle : s.seqBusy e.1.1 (s.kvSeq e.1.1 [] seq.toNat).slot = false)
    (hs : Serves s r 0x0265 none) :
    let q := s.kvSeq e.1.1 [] seq.toNat
    let p := { q with budget := b, recent := rc, reserve := rv, decay := dc, flags := putBits q.flags 1 1 (b2n ev) }
    p.rangesOk = true → exec (.kvSeqSet r seq b rc rv dc ev) s =
      .next (s.replies r 0x0265 none (fun t => ((t.kvCommit e.1.1 (t.kvApply e.1.1 p.puts)).kvMirror e, []))) := by
  intro q p hranges
  refine congrArg Host.Outcome.next (State.onSeq_replies hentry hsender hvalid hs ?_)
  simp only [State.handling_seqBusy, hidle, Bool.false_eq_true, if_false]
  exact if_neg (not_not_intro hranges)

end

/-- Settles O17, clause by clause. -/
theorem engineMessagesComplete : Obligations.EngineMessagesComplete := fun _ =>
  ⟨fun _ _ _ _ hd hcl hk hsees => ⟨exec_teQuery_replies hd hcl hk hsees, exec_veQuery_replies hd hcl hk hsees, exec_xeQuery_replies hd hcl hk hsees,
      exec_winQuery_replies hd hcl hk hsees⟩,
    fun _ _ _ _ _ => exec_kvPoolCreate_replies, fun _ _ _ => exec_kvPoolDestroy_replies, fun _ _ _ _ => exec_kvSeqCreate_replies,
    fun _ _ _ hentry hsender hvalid => ⟨exec_kvSeqQuery_replies hentry hsender hvalid, fun hidle =>
      ⟨exec_kvSeqDestroy_replies hentry hsender hvalid hidle, fun _ _ _ _ _ => exec_kvSeqSet_replies hentry hsender hvalid hidle⟩⟩⟩

end Sys2Proof.Machine
end

section
/-!
PROOFS. The rows of the vector engine (R184, 09_vector_engine.md): those of the row commands have one job (State.veJob), those of the window path one job each.
-/
namespace Sys2Proof.Machine

section
variable {s : State} {d core op : Nat} {p : Placed}

/-- A row command that stands in its slot runs with the job of the row commands, whichever of them it is (R186, R191 to R193, R195). -/
theorem Standing.runVeRow (h : Standing s d core .ve 1 op p) :
    s.runRow d core .ve 1 (fun o => o == op) veOps (s.veJob d) = .next (s.ranTo d core .ve p (s.veJob d p)) :=
  h.runRow veOps (s.veJob d)

theorem exec_dwconv_standing (h : Standing s d core .ve 1 0x10 p) :
    exec (.dwconv d core) s = .next (s.ranTo d core .ve p (s.dwconvJob d p)) :=
  h.runRow veOps (s.dwconvJob d)

theorem exec_pool_standing (h : Standing s d core .ve 1 0x11 p) : exec (.pool d core) s = .next (s.ranTo d core .ve p (s.poolJob d p)) :=
  h.runRow veOps (s.poolJob d)

theorem exec_resample_standing (h : Standing s d core .ve 1 0x12 p) :
    exec (.resample d core) s = .next (s.ranTo d core .ve p (s.resampleJob d p)) :=
  h.runRow veOps (s.resampleJob d)

end

/-- Settles O15, row by row. A row answers with ranTo for a job whose checks fail too, so the hypothesis on the status is not used. -/
theorem vectorRowsComplete : Obligations.VectorRowsComplete := fun _ =>
  ⟨fun _ _ _ h _ => h.runVeRow, fun _ _ _ h _ => h.runVeRow, fun _ _ _ h _ => h.runVeRow, fun _ _ _ h _ => h.runVeRow,
    fun _ _ _ h _ => h.runVeRow, fun _ _ _ h _ => h.runVeRow, fun _ _ _ h _ => exec_dwconv_standing h,
    fun _ _ _ h _ => exec_pool_standing h, fun _ _ _ h _ => exec_resample_standing h⟩

end Sys2Proof.Machine
end

section
/-!
PROOFS. The rows of the traversal engine and of the sequencer (10_traversal_engine.md, R283), and what a GATHER writes (R214).
-/
namespace Sys2Proof.Machine

section
variable {s : State} {d core op : Nat} {p : Placed}

/-- A traversal command that stands in its slot runs with the job of its operation, whichever of them it is (R214 to R223). -/
theorem Standing.runXeRow (h : Standing s d core .xe 2 op p) (run : Placed → XeCmd → XeRun) :
    s.runRow d core .xe 2 (fun o => o == op) xeOps (fun q => s.xeJob d core (run q) q) = .next (s.ranTo d core .xe p (s.xeJob d core (run p) p)) :=
  h.runRow xeOps (fun q => s.xeJob d core (run q) q)

theorem exec_copy_standing (h : Standing s d core .seq 3 0x1 p) :
    exec (.copy d core) s = .next (s.ranTo d core .seq p (s.copyJob d core p)) :=
  h.runRow dmaOps (s.copyJob d core)

theorem exec_nop_standing (h : Standing s d core .seq 5 0x1 p) : exec (.nop d core) s = .next (s.ranTo d core .seq p (nopJob p)) :=
  h.runRow syncOps nopJob

theorem exec_signal_standing (h : Standing s d core .seq 5 0x2 p) : exec (.signal d core) s = .next (s.ranTo d core .seq p (s.signalJob d p)) :=
  h.runRow syncOps (s.signalJob d)

end

/-- Settles O16, row by row. A row answers with ranTo for a job whose checks fail too, so the hypothesis on the status is not used. -/
theorem traversalRowsComplete : Obligations.TraversalRowsComplete := fun s =>
  ⟨fun d _ _ h _ => h.runXeRow (s.gatherRun d), fun d _ _ h _ => h.runXeRow (s.neighboursRun d), fun d _ _ h _ => h.runXeRow (s.setOpRun d),
    fun d _ _ h _ => h.runXeRow (s.hashBuildRun d), fun d _ _ h _ => h.runXeRow (s.hashProbeRun d), fun d _ _ h _ => h.runXeRow (s.radixRun d),
    fun d _ _ h _ => h.runXeRow (s.segReduceRun d), fun d _ _ h _ => h.runXeRow (s.scatterRun d), fun d _ _ h _ => h.runXeRow (s.frontierRun d),
    fun _ _ _ h _ => exec_copy_standing h, fun _ _ _ h _ => exec_nop_standing h, fun _ _ _ h _ => exec_signal_standing h⟩

theorem State.length_bytes (s : State) (a n : Nat) : (s.bytes a n).length = n := by
  induction n generalizing a with
  | zero => rfl
  | succ n ih => simp [State.bytes, ih]

/-- A handle that names a buffer of the command reads as many bytes as are asked for. -/
theorem State.length_bufBytes {s : State} {d h : Nat} {p : Placed} (hbuf : (s.opBuf d p h).isSome = true) (off n : Nat) :
    (s.bufBytes d p h off n).length = n := by
  obtain ⟨e, he⟩ := Option.isSome_iff_exists.mp hbuf
  simp only [State.bufBytes, he, State.length_bytes]

/-- The row that GATHER writes for an index: zeros for a null index, else the row of A that it names (R214). -/
def State.gatherRow (s : State) (d : Nat) (p : Placed) (c : XeCmd) (k : Nat) : List Byte :=
  if k = nullKey then List.replicate c.rowLen 0#8 else s.bufBytes d p (descOp1 p.desc) (c.aOff + 64 * c.lda * k) c.rowLen

section
variable {s : State} {d : Nat} {p : Placed} {c : XeCmd}

theorem State.gatherRow_null : s.gatherRow d p c nullKey = List.replicate c.rowLen 0#8 := if_pos rfl

theorem State.gatherRow_of_ne_null {k : Nat} (hk : k ≠ nullKey) :
    s.gatherRow d p c k = s.bufBytes d p (descOp1 p.desc) (c.aOff + 64 * c.lda * k) c.rowLen := if_neg hk

theorem State.length_gatherRow (hbuf : (s.opBuf d p (descOp1 p.desc)).isSome = true) (k : Nat) : (s.gatherRow d p c k).length = c.rowLen := by
  by_cases hk : k = nullKey
  · rw [hk, State.gatherRow_null, List.length_replicate]
  · rw [State.gatherRow_of_ne_null hk, State.length_bufBytes hbuf]

/-- An index outside the table that is not null ends a GATHER with BAD_KEY (R214). -/
theorem State.gatherRun_badKey (h : ∃ k ∈ s.words d p (descOp2 p.desc) c.bOff c.count, k ≠ nullKey ∧ c.count2 ≤ k) :
    s.gatherRun d p c = XeRun.fail 10 :=
  if_pos (by simpa only [List.any_eq_true, Bool.and_eq_true, decide_eq_true_eq] using h)

/-- A GATHER whose indices are null or in the table writes the row of each index, in order (R214), in the cycles of its lanes or bank words (R208). -/
theorem State.gatherRun_rows (h : ∀ k ∈ s.words d p (descOp2 p.desc) c.bOff c.count, k = nullKey ∨ k < c.count2) :
    s.gatherRun d p c = ⟨0, c.count, c.count, 0, Fl.none,
      (s.words d p (descOp2 p.desc) c.bOff c.count).mapIdx (fun i k => (c.outOff + 64 + 64 * c.ldo * i, s.gatherRow d p c k)),
      if c.rowLen < 64 then ceilDiv (c.count * ceilDiv c.rowLen 8) 16 else ceilDiv (c.count * ceilDiv c.rowLen 64) 4, []⟩ :=
  if_neg (by
    simp only [List.any_eq_true, Bool.and_eq_true, decide_eq_true_eq]
    rintro ⟨k, hmem, hnull, hout⟩
    exact (h k hmem).elim hnull (Nat.not_lt.mpr hout))

end

/-- Settles O56: an index outside the table ends the run (gatherRun_badKey), and else each index has its row (gatherRun_rows). -/
theorem gatherWritesRows : Obligations.GatherWritesRows := by
  intro s d p c
  refine ⟨fun hout => by rw [State.gatherRun_badKey hout]; rfl, fun hbuf hin => ?_⟩
  rw [State.gatherRun_rows hin]
  refine ⟨rfl, List.length_mapIdx, fun hshort => if_pos hshort, fun i k hi => ⟨s.gatherRow d p c k, State.length_gatherRow hbuf k, ?_, ?_, ?_⟩⟩
  · rw [List.getElem?_mapIdx, hi, Option.map_some]
  · rintro rfl
    exact State.gatherRow_null
  · exact State.gatherRow_of_ne_null

end Sys2Proof.Machine
end

section
/-!
SUPPORT and PROOFS. Doorbells, the fetching and readiness of sheaves, and the queue messages and operations (R274 to R276, R278, R279, R297 to R299,
13_queues_sheaves_scheduling.md).
-/
namespace Sys2Proof.Machine

/-! Doorbells (R274, R276, R299). -/

section
variable {s : State} {m : Master} {q : Queue}

/-- A queue that is not DISABLED, has its page and whose function is in no reset takes its doorbells (R274, R299, R306). -/
theorem Queue.takes_doorbell (hon : q.state ≠ 0) (hpage : q.loaded = true) (hruns : s.inReset q.fn = false) :
    ¬ (q.state = 0 ∨ ¬ q.loaded = true ∨ s.inReset q.fn = true) := by
  simp [hon, hpage, hruns]

theorem wrSqTail_of_inRange {id t : Nat} (hq : s.queue id = some q) (hgo : ¬ (q.state = 0 ∨ ¬ q.loaded = true ∨ s.inReset q.fn = true))
    (hback : laterCount q.sqTail t = false) (hring : countDist t q.sqHead ≤ 2 ^ q.sqLog2) :
    ∃ recs, wrSqTail id t s = (s.setQueue id { q with sqTail := t, bells := q.bells ++ [(t, s.now)] }).mirrorChange q.fn recs := by
  have hrange : ¬ (laterCount q.sqTail t = true ∨ 2 ^ q.sqLog2 < countDist t q.sqHead) := by simp [hback, hring]
  simp only [wrSqTail, hq, if_neg hgo, if_neg hrange]
  exact ⟨_, rfl⟩

theorem wrCqHead_of_inRange {id h : Nat} (hq : s.queue id = some q) (hgo : ¬ (q.state = 0 ∨ ¬ q.loaded = true ∨ s.inReset q.fn = true))
    (hback : laterCount q.cqHead h = false) (hring : laterCount h q.cqTail = false) :
    wrCqHead id h s = State.flushRecords id q.heldRecords.length (s.setQueue id { q with cqHead := h }) := by
  have hrange : ¬ (laterCount q.cqHead h = true ∨ laterCount h q.cqTail = true) := by simp [hback, hring]
  simp only [wrCqHead, hq, if_neg hgo, if_neg hrange]

theorem exec_qdbSqTailWrite_mirrorChange {id : Nat} {data : Word} {written : List (Nat × Byte)} {u : State} (hu : s.clientWrites m written = u)
    (hw : WritesNow u m (id / 65536) .QDB (id % 65536 * 0x100)) (hq : u.queue id = some q) (hon : q.state ≠ 0) (hpage : q.loaded = true)
    (hruns : u.inReset q.fn = false) (hback : laterCount q.sqTail data.toNat = false) (hring : countDist data.toNat q.sqHead ≤ 2 ^ q.sqLog2) :
    ∃ recs, exec (.qdbSqTailWrite m id data written) s = .next ((u.accepted.setQueue id
      { q with sqTail := data.toNat, bells := q.bells ++ [(data.toNat, u.now)] }).mirrorChange q.fn recs) := by
  subst hu
  obtain ⟨recs, hrecs⟩ := wrSqTail_of_inRange (s := (s.clientWrites m written).accepted) hq (Queue.takes_doorbell hon hpage hruns) hback hring
  exact ⟨recs, congrArg Host.Outcome.next ((hw.eq data _).trans hrecs)⟩

theorem exec_qdbCqHeadWrite_flushRecords {id : Nat} {data : Word} (hw : WritesNow s m (id / 65536) .QDB (id % 65536 * 0x100 + 4)) (hq : s.queue id = some q)
    (hon : q.state ≠ 0) (hpage : q.loaded = true) (hruns : s.inReset q.fn = false) (hback : laterCount q.cqHead data.toNat = false)
    (hring : laterCount data.toNat q.cqTail = false) :
    exec (.qdbCqHeadWrite m id data) s =
      .next (State.flushRecords id q.heldRecords.length (s.accepted.setQueue id { q with cqHead := data.toNat })) :=
  congrArg Host.Outcome.next ((hw.eq data _).trans
    (wrCqHead_of_inRange (s := s.accepted) hq (Queue.takes_doorbell hon hpage hruns) hback hring))

end

/-! Fetching and readiness of sheaves (R275, R278, R279). -/

section
variable {s : State} {id : Nat} {q : Queue}

/-- The queue after it has fetched a sheaf (R275): its next slot, the sheaf in flight, and the doorbells that later sheaves may need. -/
def Queue.fetched (q : Queue) (h : Sheaf) : Queue :=
  { q with next := (q.next + h.count + 1) % 2 ^ 32, flight := q.flight ++ [h], bells := q.bells.filter (fun x => laterCount x.1 (q.next + h.count + 1)) }

theorem exec_sheafFetch_next (hq : s.queue id = some q) (hactive : q.state = 1) (hruns : s.inReset q.fn = false) (hblack : s.blackout 2 (id / 65536) = false)
    (hfw : s.fwRuns (id / 65536) = true) (hfew : (q.flight.filter (fun h => !h.done)).length < 16) (hmore : q.next ≠ q.sqTail)
    (hclean : s.poisoned (q.slotAddr q.next) 64 = none) :
    let b := s.bytes (q.slotAddr q.next) 64
    let n := leAt b 16 2
    let h := sheafOf b q.next (submitTime q.bells (q.next + n + 1) s.now)
    s.headerCheck id q b = 0 → h.count = n → n < countDist q.sqTail q.next →
    ∃ q' : Queue, q'.next = (q.next + n + 1) % 2 ^ 32 ∧ q'.flight = q.flight ++ [h] ∧
      exec (.sheafFetch id) s = .next (if h.waitKind = 0 then (s.setQueue id q').markReady id h else s.setQueue id q') := by
  intro b n h hcheck _ hslots
  have hgo : ¬ (q.state ≠ 1 ∨ s.inReset q.fn = true ∨ s.blackout 2 (id / 65536) = true ∨ ¬ s.fwRuns (id / 65536) = true ∨
      16 ≤ (q.flight.filter (fun h => !h.done)).length ∨ q.next = q.sqTail) := by
    simp [hactive, hruns, hblack, hfw, hmore, hfew]
  have hinCount : ¬ 0 = 6 := by decide
  have havail : ¬ countDist q.sqTail q.next < h.count + 1 := Nat.not_lt.mpr hslots
  refine ⟨q.fetched h, rfl, rfl, ?_⟩
  change execSheafFetch id s = _
  simp only [execSheafFetch, hq, if_neg hgo, hclean, show s.headerCheck id q (s.bytes (q.slotAddr q.next) 64) = 0 from hcheck, if_neg hinCount,
    Option.isSome_none, Bool.false_eq_true, if_false, ne_eq, not_true_eq_false, false_and]
  rw [if_neg havail]
  exact (apply_ite Host.Outcome.next (h.waitKind = 0) _ _).symm

theorem exec_sheafReady_markReady {hdr : Nat} {h : Sheaf} (hq : s.queue id = some q) (hsheaf : s.sheaf id hdr = some h) (hready : h.ready = none)
    (hdone : h.done = false) (hending : h.ending = none) (hmet : s.waitMet (id / 65536) h = true) :
    exec (.sheafReady id hdr) s = .next (s.markReady id h) := by
  change execSheafReady id hdr s = _
  simp only [execSheafReady, hq, hsheaf, hready, hdone, hending, hmet, Option.isSome_none, Bool.false_eq_true, not_true_eq_false, or_self, if_false]

end

/-! What the requests of this chapter look at reads the same while one of them is handled. -/

section
variable (s : State) (r : Req) (op : Nat)

@[simp] theorem State.handling_subsetRefusal (otherDie classS : Bool) : (s.handling r op).subsetRefusal r otherDie classS = s.subsetRefusal r otherDie classS := by
  simp only [State.subsetRefusal, State.handling_major2]

@[simp] theorem State.handling_inMemory (a n : Nat) : (s.handling r op).inMemory a n = s.inMemory a n := by
  simp only [State.inMemory, State.handling_part]

@[simp] theorem State.handling_genOf (fn : Dom) : (s.handling r op).genOf fn = s.genOf fn := by
  simp only [State.genOf, State.mbFld, State.handling_fld, State.handling_part]

@[simp] theorem State.handling_freeMapSlot (fn : Dom) : (s.handling r op).freeMapSlot fn = s.freeMapSlot fn := by
  simp only [State.freeMapSlot, State.queuesOf, State.handling_fld, State.handling_q]

@[simp] theorem State.handling_freeQueue (d : Nat) : (s.handling r op).freeQueue d = s.freeQueue d := by
  simp only [State.freeQueue, State.handling_q]

end

/-! The queue messages (R297, R299, R304). -/

theorem exec_qCreate_replies {s : State} {r : Req} {c : QueueCfg} {j id : Nat} (hs : Serves s r 0x0200 (some c.die)) (hd : s.hasDie c.die = true)
    (hsq : 6 ≤ c.sqLog2) (hsqMax : c.sqLog2 ≤ 20) (hcq : 6 ≤ c.cqLog2) (hcqMax : c.cqLog2 ≤ 20) (hflags : c.flags < 2) (hsqAt : c.sqBase % 64 = 0)
    (hcqAt : c.cqBase % 64 = 0) (hacctAt : c.acctBase % 64 = 0) (hsqIn : s.inMemory c.sqBase (64 * 2 ^ c.sqLog2) = true)
    (hcqIn : s.inMemory c.cqBase (32 * 2 ^ c.cqLog2) = true) (hacctIn : s.inMemory c.acctBase 128 = true) (hclass : c.minClass ≤ 4)
    (hsubset : s.subsetRefusal r false (decide (c.minClass = 0)) = none) (hfn : isFunction r.dom = true)
    (hvector : c.vector < s.fld 0 .FN_CFG_VECTORS r.dom.toNat) (hslot : s.freeMapSlot r.dom = some j) (hfree : s.freeQueue c.die = some id) :
    exec (.qCreate r c) s = .next (s.replies r 0x0200 (some c.die) (fun t =>
      ((t.setQueue id ⟨c.sqBase, c.sqLog2, c.cqLog2, c.cqBase, r.dom, 0, 0, 0, 0, s.genOf r.dom, 0, bit c.flags 0, c.vector, c.minClass, c.acctBase,
        false, some j, 0, [], [], [], [], true⟩).write c.acctBase (leBytes 128 0), leBytes 4 id))) := by
  refine congrArg Host.Outcome.next (hs.replies ?_)
  have hform : ¬ (¬ s.hasDie c.die = true ∨ c.sqLog2 < 6 ∨ 20 < c.sqLog2 ∨ c.cqLog2 < 6 ∨ 20 < c.cqLog2 ∨ 2 ≤ c.flags ∨ c.sqBase % 64 ≠ 0 ∨
      c.cqBase % 64 ≠ 0 ∨ c.acctBase % 64 ≠ 0 ∨ ¬ s.inMemory c.sqBase (64 * 2 ^ c.sqLog2) = true ∨ ¬ s.inMemory c.cqBase (32 * 2 ^ c.cqLog2) = true ∨
      ¬ s.inMemory c.acctBase 128 = true ∨ 4 < c.minClass) := by
    simp only [hd, hsqIn, hcqIn, hacctIn, not_true_eq_false, false_or]
    omega
  simp only [State.handling_hasDie, State.handling_inMemory, if_neg hform, State.handling_subsetRefusal, hsubset, hfn, State.handling_fld,
    Nat.not_le.mpr hvector, State.handling_freeMapSlot, hslot, State.handling_freeQueue, hfree, State.handling_genOf, Option.isSome_none,
    Bool.false_eq_true, not_true_eq_false, if_false]

section
variable {s : State} {r : Req} {id : Word} {q : Queue} (hq : s.queue id.toNat = some q) (hsender : r.dom = q.fn ∨ r.dom = 0 ∨ r.dom = fwDom)
include hq hsender

/-- A message about a queue has its effect where its sender may send it, and a queue that it changes is not frozen (R297, R310). -/
theorem State.queueMsg_handling {op : Nat} {changes : Bool} (hthawed : changes = true → q.state ≠ 3) (eff : Queue → State → Reply) :
    (s.handling r op).queueMsg r id.toNat changes eff = eff q (s.handling r op) := by
  have hmay : ¬ (r.dom ≠ q.fn ∧ r.dom ≠ 0 ∧ r.dom ≠ fwDom) := fun ⟨hfn, hpf, hfw⟩ => hsender.elim hfn (fun h => h.elim hpf hfw)
  have hchange : ¬ (changes = true ∧ q.state = 3) := fun ⟨hc, hfrozen⟩ => hthawed hc hfrozen
  simp only [State.queueMsg, State.handling_queue, hq, if_neg hmay, if_neg hchange]

/-- A message about a queue is answered as its effect on the queue answers. -/
theorem State.queueMsg_replies {op : Nat} {die : Option Nat} {changes : Bool} {eff : Queue → State → Reply} {f : State → State × List Byte}
    (hs : Serves s r op die) (hthawed : changes = true → q.state ≠ 3)
    (heff : eff q (s.handling r op) = reply (f (s.handling r op)).1 .ok (f (s.handling r op)).2) :
    s.serve r op die (fun s => s.queueMsg r id.toNat changes eff) = s.replies r op die f :=
  hs.replies ((State.queueMsg_handling hq hsender hthawed eff).trans heff)

theorem exec_qDestroy_replies (hs : Serves s r 0x0201 (some (id.toNat / 65536))) (hoff : q.state = 0) :
    exec (.qDestroy r id) s = .next (s.replies r 0x0201 (some (id.toNat / 65536)) (fun t =>
      ({ t with q.queues := eraseK t.q.queues id.toNat }, []))) :=
  congrArg Host.Outcome.next (State.queueMsg_replies hq hsender hs (fun _ => by omega) (if_neg (not_not_intro hoff)))

theorem exec_qEnable_replies (hs : Serves s r 0x0202 (some (id.toNat / 65536))) (hthawed : q.state ≠ 3) :
    exec (.qEnable r id) s = .next (s.replies r 0x0202 (some (id.toNat / 65536)) (fun t => (t.queueEnable id.toNat q, []))) :=
  congrArg Host.Outcome.next (State.queueMsg_replies hq hsender hs (fun _ => hthawed) rfl)

theorem exec_qDisable_replies (hs : Serves s r 0x0203 (some (id.toNat / 65536))) (hoff : q.state = 0) :
    exec (.qDisable r id) s = .next (s.replies r 0x0203 (some (id.toNat / 65536)) (fun t => (t, []))) :=
  congrArg Host.Outcome.next (State.queueMsg_replies hq hsender hs (fun _ => by omega) (if_pos hoff))

theorem exec_qDisable_defers (hs : Serves s r 0x0203 (some (id.toNat / 65536))) (hon : q.state ≠ 0) (hthawed : q.state ≠ 3) :
    exec (.qDisable r id) s = .next (s.defers r 0x0203 (some (id.toNat / 65536)) (fun t =>
      (t.setQueue id.toNat { q with cancelReq := q.cancelReq ++ [r] }).queueDisable id.toNat true)) :=
  congrArg Host.Outcome.next (hs.defers ((State.queueMsg_handling hq hsender (fun _ => hthawed) _).trans (if_neg hon)))

theorem exec_qQuery_replies (hs : Serves s r 0x0204 (some (id.toNat / 65536))) :
    exec (.qQuery r id) s = .next (s.replies r 0x0204 (some (id.toNat / 65536)) (fun t => (t, q.context))) :=
  congrArg Host.Outcome.next (State.queueMsg_replies hq hsender hs (fun h => absurd h Bool.false_ne_true) rfl)

theorem exec_qAcct_replies (hs : Serves s r 0x0205 (some (id.toNat / 65536))) (z : Bool) :
    exec (.qAcct r id z) s = .next (s.replies r 0x0205 (some (id.toNat / 65536)) (fun t =>
      (if z = true then t.write q.acctBase (leBytes 128 0) else t, t.bytes q.acctBase 128))) :=
  congrArg Host.Outcome.next (State.queueMsg_replies hq hsender hs (fun h => absurd h Bool.false_ne_true) rfl)

end

/-! SCH_QCTL (R298, R299). -/

section
variable {s : State} {m : Master} {d queue : Nat} {q : Queue}

theorem bits_qctl_queue (op : Nat) (h : queue < 65536) : bits (op * 2 ^ 16 + queue % 2 ^ 16) 15 0 = queue := by
  simp only [bits]; omega

theorem bits_qctl_op {op : Nat} (h : op < 4) : bits (op * 2 ^ 16 + queue % 2 ^ 16) 17 16 = op := by
  simp only [bits]; omega

/-- A permitted write of SCH_QCTL with an OP of R298 on a queue that is there and not frozen. -/
theorem wrQctl_of_queue {op : Nat} (hlt : queue < 65536) (hop : op < 3) (hq : s.queue (d * 65536 + queue) = some q) (hthawed : q.state ≠ 3) :
    wrQctl d (op * 2 ^ 16 + queue % 2 ^ 16) s =
      if op = 0 then s.queueEnable (d * 65536 + queue) q
      else if q.state = 0 then s.setQueue (d * 65536 + queue) { q with dbErr := false }
      else (s.setQueue (d * 65536 + queue) { q with dbErr := false }).queueDisable (d * 65536 + queue) (decide (op = 1)) := by
  have hvalid : ¬ (q.state = 3 ∨ op = 3) := by omega
  simp only [wrQctl, bits_qctl_queue op hlt, bits_qctl_op (queue := queue) (Nat.lt_succ_of_lt hop), hq, if_neg hvalid]
  match op, hop with
  | 0, _ => rfl
  | 1, _ => rfl
  | 2, _ => rfl

/-- A write of SCH_QCTL with an OP goes through as its effect on the queue. -/
theorem State.qctl_of_queue {op : Nat} (hop : op < 3) (hlt : queue < 65536) (hw : WritesNow s m d .SCH 0x20) (hg : s.guardOk m = true)
    (hq : s.queue (d * 65536 + queue) = some q) (hthawed : q.state ≠ 3) :
    s.qctl m d op queue =
      if op = 0 then s.accepted.queueEnable (d * 65536 + queue) q
      else if q.state = 0 then s.accepted.setQueue (d * 65536 + queue) { q with dbErr := false }
      else (s.accepted.setQueue (d * 65536 + queue) { q with dbErr := false }).queueDisable (d * 65536 + queue) (decide (op = 1)) := by
  rw [State.qctl, hw.eq, State.guarded_ok (s := s.accepted) hg]
  exact wrQctl_of_queue (s := s.accepted) hlt hop hq hthawed

theorem exec_schQctl_next (hlt : queue < 65536) (hw : WritesNow s m d .SCH 0x20) (hg : s.guardOk m = true) (hq : s.queue (d * 65536 + queue) = some q)
    (hthawed : q.state ≠ 3) :
    let id := d * 65536 + queue
    exec (.schQctlEnable m d queue) s = .next (s.accepted.queueEnable id q) ∧
    (q.state ≠ 0 → exec (.schQctlDisable m d queue) s = .next ((s.accepted.setQueue id { q with dbErr := false }).queueDisable id true) ∧
      exec (.schQctlDrain m d queue) s = .next ((s.accepted.setQueue id { q with dbErr := false }).queueDisable id false)) ∧
    (q.state = 0 → exec (.schQctlDisable m d queue) s = .next (s.accepted.setQueue id { q with dbErr := false }) ∧
      exec (.schQctlDrain m d queue) s = .next (s.accepted.setQueue id { q with dbErr := false })) := by
  have enables := State.qctl_of_queue (op := 0) (by decide) hlt hw hg hq hthawed
  have disables := State.qctl_of_queue (op := 1) (by decide) hlt hw hg hq hthawed
  have drains := State.qctl_of_queue (op := 2) (by decide) hlt hw hg hq hthawed
  refine ⟨congrArg Host.Outcome.next enables, fun hon => ?_, fun hoff => ?_⟩
  · exact ⟨congrArg Host.Outcome.next (disables.trans (if_neg hon)), congrArg Host.Outcome.next (drains.trans (if_neg hon))⟩
  · exact ⟨congrArg Host.Outcome.next (disables.trans (if_pos hoff)), congrArg Host.Outcome.next (drains.trans (if_pos hoff))⟩

end

/-- Settles O19, clause by clause. -/
theorem queueRowsComplete : Obligations.QueueRowsComplete := fun _ =>
  ⟨fun _ _ _ _ _ _ => exec_qdbSqTailWrite_mirrorChange, fun _ _ _ _ => exec_qdbCqHeadWrite_flushRecords, fun _ _ => exec_sheafFetch_next,
    fun _ _ _ _ => exec_sheafReady_markReady, fun _ _ _ _ => exec_qCreate_replies,
    fun _ _ _ hq hsender => ⟨exec_qDestroy_replies hq hsender, exec_qEnable_replies hq hsender, exec_qDisable_replies hq hsender,
      exec_qDisable_defers hq hsender, exec_qQuery_replies hq hsender, exec_qAcct_replies hq hsender⟩,
    fun _ _ _ _ => exec_schQctl_next⟩

end Sys2Proof.Machine
end

section
/-!
SUPPORT and PROOFS. Placing, comparing the two copies of a checked command, the mismatch sequence, and commit (R284, R291, R421, R423,
13_queues_sheaves_scheduling.md, 19_redundant_execution.md).
-/
namespace Sys2Proof.Machine

section
variable {s : State} {d : Nat} {r : SlotRef} {p c : Placed}

theorem exec_commandPlace_placePass (hd : s.hasDie d = true) (hruns : s.fwRuns d = true) :
    exec (.commandPlace d) s = .next (State.placePass d (s.passBound d) (s.noteWork d)) :=
  congrArg Host.Outcome.next ((if_pos hd).trans (if_pos hruns))

/-! Comparing the two copies (R419, R421, R422). -/

section
variable {o : SlotRef} (hd : s.hasDie d = true) (hcool : s.tripped d = false) (hp : s.placed d r = some p) (hother : p.other = some o)
  (hc : s.placed d o = some c) (hmain : p.copy = false) (hran : p.ran = true) (hcran : c.ran = true) (hfresh : p.published = false)
  (hfirst : s.q.mismatches.find? (fun m => decide (m.die = d) && decide (m.main = r)) = none)
include hd hcool hp hother hc hmain hran hcran hfresh hfirst

/-- The first comparison of two copies that have both run, in a segment that is not too long: they are published, or a mismatch sequence begins. -/
theorem exec_commitCompare_first (diff : BitVec 128) {cycles : Nat} (hcycles : cycles ≤ 5120) :
    exec (.commitCompare d r diff cycles) s = .next (if s.signature d p ^^^ s.signature d c ^^^ diff = 0 then ((s.runOut d r).runOut d o).publish d r p
      else (({ (s.runOut d r).runOut d o with q.mismatches :=
        ((s.runOut d r).runOut d o).q.mismatches ++ [(⟨d, r, o, p.queue, p.silo, p.fn, false, false⟩ : Mismatch)] } : State).flag d .COMMIT_STATUS_MISMATCH).flag
          d .COMMIT_STATUS_SEQ_ACTIVE) := by
  have hgo : ¬ (p.copy = true ∨ ¬ p.ran = true ∨ ¬ c.ran = true ∨ p.published = true ∨ s.tripped d = true) := by
    simp [hmain, hran, hcran, hfresh, hcool]
  change execCommitCompare d r diff cycles s = _
  simp only [execCommitCompare, hd, hp, hother, hc, if_neg hgo, hfirst, Nat.not_lt.mpr hcycles, not_true_eq_false, if_false, decide_eq_true_eq]
  exact (apply_ite Host.Outcome.next _ _ _).symm

theorem exec_commitCompare_next (diff : BitVec 128) (cycles : Nat) (hcycles : cycles ≤ 5120) :
    (s.signature d p ^^^ s.signature d c ^^^ diff = 0 → exec (.commitCompare d r diff cycles) s = .next (((s.runOut d r).runOut d o).publish d r p)) ∧
    (s.signature d p ^^^ s.signature d c ^^^ diff ≠ 0 → ∃ t, exec (.commitCompare d r diff cycles) s = .next t ∧ t.fld d .COMMIT_STATUS_SEQ_ACTIVE = 1 ∧
      t.q.mismatches = ((s.runOut d r).runOut d o).q.mismatches ++ [⟨d, r, o, p.queue, p.silo, p.fn, false, false⟩]) := by
  rw [exec_commitCompare_first hd hcool hp hother hc hmain hran hcran hfresh hfirst diff hcycles]
  refine ⟨fun hequal => by rw [if_pos hequal], fun hdiffer => ⟨_, by rw [if_neg hdiffer], ?_, rfl⟩⟩
  exact State.fld_setFld_same _ d .COMMIT_STATUS_SEQ_ACTIVE 0 1

end

/-! The mismatch sequence (R422, R423). -/

section
variable {m : Mismatch}

section
variable (hd : s.hasDie d = true) (hcool : s.tripped d = false)
  (hm : s.q.mismatches.find? (fun m => decide (m.die = d) && decide (m.main = r)) = some m) (hfirst : m.second = false) (hnocopy : m.copying = false)
  (hp : s.placed d m.main = some p) (hc : s.placed d m.checker = some c) (hran : p.ran = true) (hother : p.other = some m.checker)
include hd hcool hm hfirst hnocopy hp hc hran hother

/-- The self-tests of two copies whose first runs have differed decide which of them stands, if any. -/
theorem exec_mismatchSelftestEnd_eq (mainPass checkerPass : Bool) :
    exec (.mismatchSelftestEnd d r mainPass checkerPass) s = .next (match mainPass, checkerPass with
      | true, true => { (s.setPlaced d m.main p.again).setPlaced d m.checker c.again with
          q.mismatches := s.q.mismatches.map (fun x => if x = m then { m with second := true } else x) }
      | true, false => (((s.publish d m.main p).endSequence m 2).removeCore d (coreOf m.checker)).countPersistent d
      | false, true =>
        if p.enables = c.enables then { s with q.mismatches := s.q.mismatches.map (fun x => if x = m then { m with copying := true } else x) }
        else s.outputsInvalid m p 3
      | false, false => s.outputsInvalid m p 3) := by
  have hgo : ¬ (m.second = true ∨ m.copying = true ∨ s.tripped d = true) := by simp [hfirst, hnocopy, hcool]
  have hpair : ¬ (¬ p.ran = true ∨ p.other ≠ some m.checker) := by simp [hran, hother]
  change execMismatchSelftestEnd d r mainPass checkerPass s = _
  simp only [execMismatchSelftestEnd, hd, hm, if_neg hgo, hp, hc, if_neg hpair, not_true_eq_false, if_false]
  match mainPass, checkerPass with
  | true, true => rfl
  | true, false => rfl
  | false, true => exact (apply_ite Host.Outcome.next (p.enables = c.enables) _ _).symm
  | false, false => rfl

theorem exec_mismatchSelftestEnd_next :
    (∃ t, exec (.mismatchSelftestEnd d r true true) s = .next t ∧
      t.q.mismatches = s.q.mismatches.map (fun x => if x = m then { m with second := true } else x)) ∧
    exec (.mismatchSelftestEnd d r true false) s = .next ((((s.publish d m.main p).endSequence m 2).removeCore d (coreOf m.checker)).countPersistent d) ∧
    (p.enables = c.enables → exec (.mismatchSelftestEnd d r false true) s =
      .next { s with q.mismatches := s.q.mismatches.map (fun x => if x = m then { m with copying := true } else x) }) ∧
    exec (.mismatchSelftestEnd d r false false) s = .next (s.outputsInvalid m p 3) := by
  have ends := exec_mismatchSelftestEnd_eq hd hcool hm hfirst hnocopy hp hc hran hother
  exact ⟨⟨_, ends true true, rfl⟩, ends true false, fun henables => (ends false true).trans (congrArg Host.Outcome.next (if_pos henables)), ends false false⟩

end

theorem exec_shadowToOutputCopyEnd_next {o sh : BufEnt} (hd : s.hasDie d = true)
    (hm : s.q.mismatches.find? (fun m => decide (m.die = d) && decide (m.main = r) && m.copying) = some m) (hp : s.placed d m.main = some p)
    (hc : s.placed d m.checker = some c) (hout : s.bufOf (descOut p.desc) = some o) (hshadow : s.shadowOf (descOut p.desc) = some sh) :
    exec (.shadowToOutputCopyEnd d r) s = .next
      (((((s.stores (coreAgent d (coreOf m.main) p) (c.writes.map (fun w => (o.base + w.1, s.bytes (sh.base + w.1) w.2.length)))).publish d m.main
        { p with status := c.status, atCommit := c.atCommit, table := c.table, kv := c.kv, extra := c.extra, writes := c.writes }).endSequence m 1).removeCore
        d (coreOf m.main)).countPersistent d) := by
  change execShadowToOutputCopyEnd d r s = _
  simp only [execShadowToOutputCopyEnd, hd, hm, hp, hc, hout, hshadow, not_true_eq_false, if_false]

end

/-! Commit (R284, R421, R433). -/

theorem exec_commandCommit_next (hd : s.hasDie d = true) (hcool : s.tripped d = false) (hp : s.placed d r = some p) (hmain : p.copy = false)
    (hran : p.ran = true) (hpublished : p.other = none ∨ p.published = true) (hstatus : p.status % 16 = 0)
    (hroom : s.mirrorSends p.fn = false ∨ p.cls = 0 ∨ s.mirrorRoom (s.commitRecords p) = true) :
    ∃ u : State, exec (.commandCommit d r) s = .next ((u.commitBooks p (s.signature d p)).freezeCheck p.fn) := by
  have hunpublished : ¬ (p.other.isSome = true ∧ ¬ p.published = true) := by
    rintro ⟨hother, hnot⟩
    exact hpublished.elim (fun h => by simp [h] at hother) hnot
  have hgo : ¬ (p.copy = true ∨ ¬ p.ran = true ∨ (p.other.isSome = true ∧ ¬ p.published = true) ∨ s.tripped d = true) := by
    simp only [hmain, hran, hunpublished, hcool, Bool.false_eq_true, not_true_eq_false, or_self, not_false_eq_true]
  have hnowait : ¬ (s.mirrorSends p.fn = true ∧ p.cls ≠ 0 ∧ ¬ s.mirrorRoom (s.commitRecords p) = true) := by
    rintro ⟨hsends, hcls, hfull⟩
    exact hroom.elim (fun h => by simp [h] at hsends) (fun h => h.elim hcls hfull)
  change ∃ u : State, execCommandCommit d r s = _
  simp only [execCommandCommit, hd, hp, if_neg hgo, hstatus, if_neg hnowait, ne_eq, not_true_eq_false, if_false]
  exact ⟨_, rfl⟩

end

/-- Settles O20, clause by clause. -/
theorem placeAndCommitComplete : Obligations.PlaceAndCommitComplete := fun _ =>
  ⟨fun _ => exec_commandPlace_placePass,
    fun _ _ _ _ _ => exec_commitCompare_next,
    fun _ _ _ _ _ => exec_mismatchSelftestEnd_next, fun _ _ _ _ _ _ _ => exec_shadowToOutputCopyEnd_next, fun _ _ _ => exec_commandCommit_next⟩

end Sys2Proof.Machine
end

section
/-!
SUPPORT and PROOFS. What the requests of silos look at while one of them is handled, and the quantum boundary, the cores guarantee and the silo messages
(R290, R295, R297, 13_queues_sheaves_scheduling.md).
-/
namespace Sys2Proof.Machine

/-! What a silo is and what it could hold reads the same while a request is handled. -/

section
variable (s : State) (r : Req) (op : Nat)

@[simp] theorem State.handling_silo (d k : Nat) : (s.handling r op).silo d k = s.silo d k := by
  simp only [State.silo, State.handling_q]

@[simp] theorem State.handling_siloCfg (d k : Nat) : (s.handling r op).siloCfg d k = s.siloCfg d k := by
  simp only [State.siloCfg, State.handling_fld]

@[simp] theorem State.handling_latestCfg (d k : Nat) : (s.handling r op).latestCfg d k = s.latestCfg d k := by
  simp only [State.latestCfg, State.handling_silo, State.handling_siloCfg]

@[simp] theorem State.handling_reserveClash (d k : Nat) (c : SiloCfg) : (s.handling r op).reserveClash d k c = s.reserveClash d k c := by
  simp only [State.reserveClash, State.handling_latestCfg, State.handling_holder]

@[simp] theorem State.handling_guaranteesFit (d k : Nat) (c : SiloCfg) : (s.handling r op).guaranteesFit d k c = s.guaranteesFit d k c := by
  simp only [State.guaranteesFit, State.handling_latestCfg, State.handling_holder]

@[simp] theorem State.handling_dieList : (s.handling r op).dieList = s.dieList := by
  simp only [State.dieList, State.handling_part]

@[simp] theorem State.handling_spanDies (d k : Nat) : (s.handling r op).spanDies d k = s.spanDies d k := by
  simp only [State.spanDies, State.handling_fld, State.handling_dieList, State.handling_holder]

@[simp] theorem State.handling_siloSender (d k : Nat) : (s.handling r op).siloSender r d k = s.siloSender r d k := by
  simp only [State.siloSender, State.handling_holder, State.handling_claimClass, State.handling_granted]

@[simp] theorem State.handling_slotsOf (d : Nat) : (s.handling r op).slotsOf d = s.slotsOf d := by
  simp only [State.slotsOf, State.handling_q]

@[simp] theorem State.handling_coresHeld (d k : Nat) (slot : Option SlotKind) : (s.handling r op).coresHeld d k slot = s.coresHeld d k slot := by
  simp only [State.coresHeld, State.handling_slotsOf]

end

/-! So do the commands that the sheaves offer for placement (R275, R276, R281). -/

section
variable (s : State) (r : Req) (op : Nat)

@[simp] theorem State.handling_inReset (fn : Dom) : (s.handling r op).inReset fn = s.inReset fn := by
  simp only [State.inReset, State.handling_fn]

@[simp] theorem State.handling_blackout (kind die : Nat) : (s.handling r op).blackout kind die = s.blackout kind die := by
  simp only [State.blackout, State.handling_fw]

@[simp] theorem State.handling_poisoned (a n : Nat) : (s.handling r op).poisoned a n = s.poisoned a n := by
  simp only [State.poisoned, State.poisonIn, State.handling_memy]

@[simp] theorem State.handling_bufferAway (b : List Byte) : (s.handling r op).bufferAway b = s.bufferAway b := by
  simp only [State.bufferAway, State.handling_handlesOf, State.handling_bufOf]

@[simp] theorem State.handling_seqWaits (d : Nat) (b : List Byte) : (s.handling r op).seqWaits d b = s.seqWaits d b := by
  simp only [State.seqWaits, State.poolAway, State.handling_sequences, State.handling_kvBytes, State.handling_bufOf, State.handling_slotsOf]

@[simp] theorem State.handling_seqBehind (q : Queue) (h : Sheaf) (b : List Byte) : (s.handling r op).seqBehind q h b = s.seqBehind q h b := by
  simp only [State.seqBehind, State.handling_sequences, State.handling_bytes]

@[simp] theorem State.handling_candOf (id : Nat) (q : Queue) (prev : Option Sheaf) (h : Sheaf) :
    (s.handling r op).candOf id q prev h = s.candOf id q prev h := by
  simp only [State.candOf, State.handling_inReset, State.handling_blackout, State.handling_fw, State.handling_poisoned, State.handling_bytes,
    State.handling_bufferAway, State.handling_seqWaits, State.handling_seqBehind]

@[simp] theorem State.handling_candsOf (id : Nat) (q : Queue) (prev : Option Sheaf) (l : List Sheaf) :
    (s.handling r op).candsOf id q prev l = s.candsOf id q prev l := by
  induction l generalizing prev with
  | nil => rfl
  | cons h hs ih => simp only [State.candsOf, State.handling_candOf, ih]

@[simp] theorem State.handling_candidates (d : Nat) : (s.handling r op).candidates d = s.candidates d := by
  simp only [State.candidates, State.handling_q, State.handling_candsOf]

end

/-! The quantum boundary, the cores guarantee and the acknowledgement of a span (R290, R295). -/

section
variable {s : State} {d k : Nat}

theorem exec_quantumBoundary_next (hd : s.hasDie d = true) (hk : k < 16) (hruns : s.fwRuns d = true) :
    ∃ t, exec (.quantumBoundary d k) s = .next t ∧ (t.silo d k).used = 0 ∧ (t.silo d k).worked = false ∧ (t.silo d k).gap = false := by
  have hunit : ¬ (¬ s.hasDie d = true ∨ 16 ≤ k) := not_or.mpr ⟨not_not_intro hd, Nat.not_le.mpr hk⟩
  refine ⟨_, (if_neg hunit).trans (if_neg (not_not_intro hruns)), ?_⟩
  simp only [State.silo, State.setSilo, lookupD_insertKV_same, and_self]

/-- The guarantee is broken where too few cores are held and every command that runs may be killed, so that none stands in the way of a core (R295). -/
theorem exec_coresGuaranteeCheck_broken (hd : s.hasDie d = true) (hk : k < 16) (n : Nat) (hen : s.fld d .SILO_CFG_EN k = 1)
    (hheld : (s.coresHeld d k none).length = n) (hfew : n < s.fld d .SILO_CFG_G_MIN k) (hkillable : ∀ e ∈ s.slotsOf d, descKillable e.2.desc = true)
    (hwork : ∃ c ∈ s.candidates d, c.sheaf.silo = k) :
    exec (.coresGuaranteeCheck d k) s = .next (s.guaranteeBroken d k 0 (s.fld d .SILO_CFG_G_MIN k - n) (s.takerClass d k) 0xFFFFFFFF) := by
  subst hheld
  have hunit : ¬ (¬ s.hasDie d = true ∨ 16 ≤ k) := not_or.mpr ⟨not_not_intro hd, Nat.not_le.mpr hk⟩
  have hany : (s.candidates d).any (fun c => decide (c.sheaf.silo = k)) = true := by
    simpa only [List.any_eq_true, decide_eq_true_eq] using hwork
  refine (if_neg hunit).trans (if_pos ⟨hen, ?_, hany⟩)
  rw [List.filterMap_eq_nil_iff.mpr (fun e he => ?_)]
  · exact hfew
  · cases e.1 with
    | core c slot => exact if_neg (fun ⟨_, hnot, _⟩ => hnot (hkillable e he))
    | raster c => rfl

theorem exec_siloSpanAck_setSilo {mask l : Nat} (hk : k < 16) (hl : (List.range 8).find? (bit mask) = some l) (hd : s.hasDie l = true) :
    exec (.siloSpanAck k mask) s = .next (s.setSilo l k { s.silo l k with spanFrom := some (s.now + 20000) }) := by
  change execSiloSpanAck k mask s = _
  simp only [execSiloSpanAck, Nat.not_le.mpr hk, hl, hd, if_false, if_true]

end

/-! The silo messages (R297). -/

section
variable {s : State} {r : Req} {d k : Nat}

theorem exec_siloSet_defers {c : SiloCfg} (hs : Serves s r 0x0210 (some d)) (hd : s.hasDie d = true) (hk : k < 16) (hrange : siloInRange c = true)
    (hsender : s.siloSender r d k = none) (hsubset : s.subsetRefusal r false (decide (c.cls = 0) || decide (s.siloClass d k = 0)) = none)
    (hcls : c.cls = s.fld d .SILO_CFG_CLASS k) (hfits : ∀ e ∈ s.spanDies d k, s.reserveClash e k c = false ∧ s.guaranteesFit e k c = true) :
    exec (.siloSet r d k c) s = .next (s.defers r 0x0210 (some d) (fun t => t.pend d k c (some r))) := by
  refine congrArg Host.Outcome.next (hs.defers ?_)
  have hform : ¬ (¬ s.hasDie d = true ∨ 16 ≤ k ∨ ¬ siloInRange c = true) := by simp [hd, hk, hrange]
  have hclear : (s.spanDies d k).any (fun e => s.reserveClash e k c) = false :=
    List.any_eq_false.mpr (fun e he => by simp only [(hfits e he).1, Bool.false_eq_true, not_false_eq_true])
  have hall : (s.spanDies d k).all (fun e => s.guaranteesFit e k c) = true := List.all_eq_true.mpr (fun e he => (hfits e he).2)
  simp only [State.handling_hasDie, if_neg hform, State.handling_siloSender, hsender, State.handling_siloClass, State.handling_subsetRefusal, hsubset,
    State.handling_fld, ← hcls, State.handling_spanDies, State.handling_reserveClash, hclear, State.handling_guaranteesFit, hall, Option.isSome_none,
    Bool.false_eq_true, ne_eq, not_true_eq_false, if_false]

theorem exec_siloQuery_replies (hs : Serves s r 0x0211 (some d)) (hd : s.hasDie d = true) (hk : k < 16)
    (hsender : s.holder 2 d k = r.dom ∨ r.dom = 0 ∨ r.dom = fwDom) :
    let n := (s.candidates d).foldl (fun a c => if c.sheaf.silo = k then a + 1 else a) 0
    exec (.siloQuery r d k) s = .next (s.replies r 0x0211 (some d) (fun t => (t, (siloItem d k (s.siloCfg d k)).take 20 ++
      leBytes 1 (s.coresHeld d k none).length ++ leBytes 2 n ++ leBytes 2 (s.holder 2 d k).toNat ++ leBytes 1 (s.fld d .SILO_STAT_SPAN k) ++ leBytes 2 0))) := by
  refine congrArg Host.Outcome.next (hs.replies ?_)
  have hform : ¬ (¬ s.hasDie d = true ∨ 16 ≤ k) := not_or.mpr ⟨not_not_intro hd, Nat.not_le.mpr hk⟩
  have hmay : ¬ (s.holder 2 d k ≠ r.dom ∧ r.dom ≠ 0 ∧ r.dom ≠ fwDom) := fun ⟨hother, hpf, hfw⟩ => hsender.elim hother (fun h => h.elim hpf hfw)
  simp only [State.handling_hasDie, if_neg hform, State.handling_holder, if_neg hmay, State.handling_candidates, State.handling_siloCfg,
    State.handling_coresHeld, State.handling_fld]

theorem exec_siloSpan_defers {mask l : Nat} {ls : List Nat} (hs : Serves s r 0x0212 none) (hdies : s.dieList.filter (bit mask) = l :: ls) (hk : k < 16)
    (hmask : mask < 2 ^ s.part.dies) (hdie : s.subsetRefusal r (decide (2 ≤ mask)) false = none) (hsender : s.siloSender r l k = none)
    (hclass : s.subsetRefusal r false (decide (s.siloClass l k = 0)) = none)
    (hheld : ∀ d ∈ l :: ls, s.holder 2 d k = noDom ∨ s.holder 2 d k = s.holder 2 l k) :
    exec (.siloSpan r k mask) s = .next (s.defers r 0x0212 none (fun t =>
      let u := t.spanOver k (t.spanReach k mask)
      u.setSilo l k { u.silo l k with spanNext := some (mask, t.spanReach k mask), spanFrom := none, spanReq := some r })) := by
  refine congrArg Host.Outcome.next (hs.defers ?_)
  have hform : ¬ (16 ≤ k ∨ 2 ^ s.part.dies ≤ mask ∨ (s.subsetRefusal r (decide (2 ≤ mask)) false).isSome = true) := by
    simp [hk, hmask, hdie]
  have hsame : (l :: ls).any (fun d => decide (s.holder 2 d k ≠ noDom) && decide (s.holder 2 d k ≠ s.holder 2 l k)) = false :=
    List.any_eq_false.mpr (fun d hd => by
      simp only [Bool.and_eq_true, decide_eq_true_eq]
      exact fun ⟨hsome, hother⟩ => (hheld d hd).elim hsome hother)
  simp only [State.handling_dieList, hdies, State.handling_part, State.handling_subsetRefusal, if_neg hform, State.handling_siloSender, hsender,
    State.handling_siloClass, hclass, State.handling_holder, hsame, Option.isSome_none, Bool.false_eq_true, if_false]

end

/-- Settles O21, clause by clause. -/
theorem siloRowsComplete : Obligations.SiloRowsComplete := fun _ =>
  ⟨fun _ _ => exec_quantumBoundary_next, fun _ _ => exec_coresGuaranteeCheck_broken, fun _ _ _ => exec_siloSpanAck_setSilo,
    fun _ _ _ _ => exec_siloSet_defers, fun _ _ _ => exec_siloQuery_replies, fun _ _ _ _ _ => exec_siloSpan_defers⟩

end Sys2Proof.Machine
end

section
/-!
SUPPORT and PROOFS. Display heads: the reserve, the blank, tile rows, registers, and the display messages (R293, R338 to R343, 15_raster_and_display.md).
-/
namespace Sys2Proof.Machine

/-! What was written of a head, or into several fields of a register, reads back. -/

section
variable (s : State) (h : Nat)

@[simp] theorem State.head_setHead_same (x : HeadState) : (s.setHead h x).head h = x := lookupD_insertKV_same _ _ _ _

theorem State.head_of_heads {s t : State} (hheads : t.heads = s.heads) : t.head h = s.head h := by rw [State.head, State.head, hheads]

@[simp] theorem State.head_dispEvent (e : Ev) (g : Nat) : (s.dispEvent e g).head h = s.head h :=
  State.head_of_heads h (heads_of_mask (s.dispEvent_mask e g (Nat.and_self _)) rfl)

theorem State.fld_setFlds_notin {l : List (Fld × Nat)} {f : Fld} (hf : f ∉ l.map Prod.fst) (d d' i i' : Nat) :
    (s.setFlds d i l).fld d' f i' = s.fld d' f i' := by
  induction l generalizing s with
  | nil => rfl
  | cons e l ih =>
    obtain ⟨hne, hl⟩ := not_or.mp (fun he => hf (List.mem_cons.mpr he))
    exact (ih (s.setFld d e.1 i e.2) hl).trans (s.fld_setFld_other d d' i i' e.2 hne)

/-- Of several fields that are set, each named once, each reads back. -/
theorem State.fld_setFlds_mem {l : List (Fld × Nat)} (hl : (l.map Prod.fst).Nodup) {f : Fld} {v : Nat} (hmem : (f, v) ∈ l) (d i : Nat) :
    (s.setFlds d i l).fld d f i = v % 2 ^ f.width := by
  induction l generalizing s with
  | nil => cases hmem
  | cons e l ih =>
    obtain ⟨hfst, hl⟩ := List.nodup_cons.mp hl
    rcases List.mem_cons.mp hmem with rfl | hrest
    · exact ((s.setFld d f i v).fld_setFlds_notin hfst d d i i).trans (s.fld_setFld_same d f i v)
    · exact ih (s.setFld d e.1 i e.2) hl hrest

end

/-- A bit that is replaced reads back. -/
theorem bit_putBits_same (v i : Nat) (b : Bool) : bit (putBits v i i (b2n b)) i = b := by
  have hdiv : putBits v i i (b2n b) / 2 ^ i = v / 2 ^ i - v / 2 ^ i % 2 + b2n b % 2 := by
    simp only [putBits, bits, Nat.add_sub_cancel_left, Nat.pow_one]
    rw [Nat.add_mul_div_right _ _ (Nat.two_pow_pos i), Nat.mul_comm, Nat.sub_mul_div]
  rw [bit, hdiv]
  cases b with
  | false => simp only [b2n, Bool.false_eq_true, if_false, beq_eq_false_iff_ne]; omega
  | true => simp only [b2n, if_true, beq_iff_eq]; omega

/-- The low bits of a value are those of what a narrower field keeps of it. -/
theorem bit_mod_two_pow {i n : Nat} (h : i < n) (v : Nat) : bit (v % 2 ^ n) i = bit v i := by
  have hbit : ∀ x, bit x i = x.testBit i := fun x => by rw [bit, Nat.testBit_eq_decide_div_mod_eq]; rfl
  rw [hbit, hbit, Nat.testBit_mod_two_pow, decide_eq_true h, Bool.true_and]

/-! The display reserve, the blank, and the tile row that is due (R293, R338, R339). -/

section
variable {s : State} {h : Nat}

/-- The commands that the start of a silo's display reserve stops: those of Class I and B on the cores of a mask (R293). -/
def reserveStops (mask : Nat) : SlotRef → Placed → Bool
  | .core c _, p => decide (3 ≤ p.cls) && bit mask c
  | .raster _, _ => false

theorem exec_displayReserveStart_killWhere {d k : Nat} (hd : s.hasDie d = true) (hk : k < 16) (hen : s.fld d .SILO_CFG_EN k ≠ 0)
    (hcls : s.fld d .SILO_CFG_CLASS k = 1) (hlead : s.fld d .SILO_TIME_LEAD k ≠ 0) (hidle : (s.silo d k).reserveStart = none)
    (hundone : (s.silo d k).frameDone = false) :
    let u := (s.setFld d .SILO_STAT_RESERVE k 1).setSilo d k
      { s.silo d k with reserveStart := some s.now, classSTime := 0, reserveHead := s.fld d .SILO_CFG_HEAD k }
    ∃ f : SlotRef → Placed → Bool, (∀ c x p, f (.core c x) p = (decide (3 ≤ p.cls) && bit (s.fld d .SILO_MASK_MASK k) c)) ∧
      (∀ c p, f (.raster c) p = false) ∧ exec (.displayReserveStart d k) s = .next (u.killWhere d true f) := by
  intro u
  have hunit : ¬ (¬ s.hasDie d = true ∨ 16 ≤ k) := not_or.mpr ⟨not_not_intro hd, Nat.not_le.mpr hk⟩
  have hgo : ¬ (s.fld d .SILO_CFG_EN k = 0 ∨ s.fld d .SILO_CFG_CLASS k ≠ 1 ∨ s.fld d .SILO_TIME_LEAD k = 0 ∨
      (s.silo d k).reserveStart.isSome = true ∨ (s.silo d k).frameDone = true) := by
    simp [hen, hcls, hlead, hidle, hundone]
  have hmask : u.fld d .SILO_MASK_MASK k = s.fld d .SILO_MASK_MASK k := s.fld_setFld_other d d k k 1 (by decide)
  refine ⟨reserveStops (u.fld d .SILO_MASK_MASK k), fun c x p => by rw [reserveStops, hmask], fun _ _ => rfl, ?_⟩
  refine (if_neg hunit).trans ((if_neg hgo).trans (congrArg (fun f => Host.Outcome.next (u.killWhere d true f)) ?_))
  funext r p
  cases r <;> rfl

theorem exec_verticalBlank_next (hh : h < 4) (hruns : s.headRuns h = true) :
    ∃ (l : List (Nat × Nat)) (u : State), (u.head h).underrun = false ∧ (u.head h).row = 0 ∧ (u.head h).pending = none ∧
      exec (.verticalBlank h) s = .next (l.foldl (State.reserveEnd h) u) := by
  refine ⟨_, _, ?_, ?_, ?_, (if_neg (Nat.not_le.mpr hh)).trans (if_neg (not_not_intro hruns))⟩
  · rw [State.head_setHead_same]
  · rw [State.head_setHead_same]
  · rw [State.head_setHead_same]
    split
    next i hpending =>
      split
      next b hresolved => rw [State.head_setHead_same]
      next hunresolved => rw [State.head_setHead_same]
    next hnone =>
      split
      next hmissed => rw [State.head_dispEvent]; exact hnone
      next hintime => exact hnone

section
variable (hh : h < 4) (hruns : s.headRuns h = true)
include hh hruns

theorem exec_scanoutTileRowDue_unlatched (hlatch : (s.head h).latched = none) (ready : Bool) :
    exec (.scanoutTileRowDue h ready) s = .next (s.sendRow h none) := by
  change execScanoutTileRowDue h ready s = _
  simp only [execScanoutTileRowDue, Nat.not_le.mpr hh, hruns, hlatch, not_true_eq_false, if_false]

theorem exec_scanoutTileRowDue_latched {b : List Byte} (hlatch : (s.head h).latched = some b) (hrow : (s.head h).row < (scanPicture b).img.th) :
    exec (.scanoutTileRowDue h false) s = .next (s.underrunRow h) ∧
    let reads := ((scanPicture b).img.rowBlocks (s.head h).row).flatMap (fun q => s.blockReads (scanPicture b) q.1 q.2)
    ((∀ r ∈ reads, s.memRefusal (ioMaster 0 26) r.1 r.2 = none ∧ s.poisoned r.1 r.2 = none) → exec (.scanoutTileRowDue h true) s =
      .next ((reads.foldl (fun (t : State) r => t.wake r.1 r.2) s).sendRow h (some (s.rowPixels (scanPicture b) (s.head h).row)))) := by
  refine ⟨?_, ?_⟩
  · change execScanoutTileRowDue h false s = _
    simp only [execScanoutTileRowDue, Nat.not_le.mpr hh, hruns, hlatch, Nat.not_le.mpr hrow, not_true_eq_false, if_false, Bool.false_eq_true,
      not_false_eq_true, if_true]
  · intro reads hreads
    have allowed : reads.findSome? (fun r => (s.memRefusal (ioMaster 0 26) r.1 r.2).map (fun e => (e, r.1))) = none :=
      List.findSome?_eq_none_iff.mpr (fun r hr => by rw [(hreads r hr).1, Option.map_none])
    have clean : reads.findSome? (fun r => s.poisoned r.1 r.2) = none := List.findSome?_eq_none_iff.mpr (fun r hr => (hreads r hr).2)
    change execScanoutTileRowDue h true s = _
    simp only [execScanoutTileRowDue, Nat.not_le.mpr hh, hruns, hlatch, Nat.not_le.mpr hrow, not_true_eq_false, if_false]
    rw [allowed, clean]

end

theorem exec_hpdChange_dispEvent {level : Bool} (hh : h < 4) (hchange : bit (s.fld 0 .DISP_STATUS_HPD) h ≠ level) :
    ∃ u : State, bit (u.fld 0 .DISP_STATUS_HPD) h = level ∧ (u.head h).stopped = true ∧ exec (.hpdChange h level) s = .next (u.dispEvent .dispHpd h) := by
  refine ⟨_, ?_, ?_, (if_neg (Nat.not_le.mpr hh)).trans (if_neg hchange)⟩
  · refine (congrArg (bit · h) (State.fld_setFld_same s 0 .DISP_STATUS_HPD 0 _)).trans ?_
    exact (bit_mod_two_pow hh _).trans (bit_putBits_same _ h level)
  · rw [State.head_setHead_same]

end

/-! The registers of a head (R6, R101, R339, R341). -/

section
variable {s : State} {m : Master} {h : Nat}

/-- A write to a register of a head that no other domain holds has its effect. -/
theorem State.headWrite_of_free (hfree : s.otherHolds m 3 0 h = false) (eff : State → State) : s.headWrite m h eff = eff s := by
  rw [State.headWrite, hfree]
  rfl

theorem exec_headImgHiWrite_next {data : Word} (hh : h < 4) (hw : WritesNow s m 0 .DISPLAY (0x11C + 0x40 * h)) (hfree : s.otherHolds m 3 0 h = false) :
    ∃ t, exec (.headImgHiWrite m h data) s = .next t ∧
      (t.head h).pending = some (.at (s.pairLow 0 .HEAD_IMG_LO h (s.fld 0 .HEAD_IMG_ADDR h) + bits data.toNat 15 0 * 2 ^ 32)) := by
  refine ⟨_, (if_neg (Nat.not_le.mpr hh)).trans
    (congrArg Host.Outcome.next ((hw.eq data _).trans (State.headWrite_of_free (s := s.accepted) hfree _))), ?_⟩
  exact congrArg HeadState.pending (State.head_setHead_same _ h _)

theorem exec_headCtrlEnWrite_setFlds {data : Word} (hh : h < 4) (hw : WritesNow s m 0 .DISPLAY (0x100 + 0x40 * h)) (hfree : s.otherHolds m 3 0 h = false) :
    exec (.headCtrlEnWrite m h data) s =
      .next (s.accepted.setFlds 0 h [(.HEAD_CTRL_EN, bits data.toNat 31 31), (.HEAD_CTRL_BPC10, bits data.toNat 30 30)]) :=
  (if_neg (Nat.not_le.mpr hh)).trans (congrArg Host.Outcome.next ((hw.eq data _).trans (State.headWrite_of_free (s := s.accepted) hfree _)))

end

/-! The display messages (R339, R343). -/

section
variable {s : State} {r : Req} {h : Nat}

/-- The fields of a head that a mode sets, with what the link reached (R343). -/
def modeFields (c : DispModeCfg) (lanes rate : Nat) : List (Fld × Nat) :=
  let w (x : Word) (hi lo : Nat) := bits x.toNat hi lo
  [(.HEAD_CTRL_EN, 1), (.HEAD_CTRL_BPC10, b2n (decide (c.bpc = 10))), (.HEAD_PCLK_KHZ, c.pclkKhz), (.HEAD_HTIME_H_TOTAL, w c.htime 31 16),
    (.HEAD_HTIME_H_ACTIVE, w c.htime 15 0), (.HEAD_HSYNC_POL, w c.hsync 31 31), (.HEAD_HSYNC_WIDTH, w c.hsync 30 16), (.HEAD_HSYNC_START, w c.hsync 15 0),
    (.HEAD_VTIME_V_TOTAL, w c.vtime 31 16), (.HEAD_VTIME_V_ACTIVE, w c.vtime 15 0), (.HEAD_VSYNC_POL, w c.vsync 31 31), (.HEAD_VSYNC_WIDTH, w c.vsync 30 16),
    (.HEAD_VSYNC_START, w c.vsync 15 0), (.HEAD_FILL_COLOUR, w c.fill 29 0), (.HEAD_LINK_TRAINED, 1), (.HEAD_LINK_LANES, lanes), (.HEAD_LINK_RATE, rate)]

theorem modeFields_nodup (c : DispModeCfg) (lanes rate : Nat) : ((modeFields c lanes rate).map Prod.fst).Nodup := by
  have distinct : ([.HEAD_CTRL_EN, .HEAD_CTRL_BPC10, .HEAD_PCLK_KHZ, .HEAD_HTIME_H_TOTAL, .HEAD_HTIME_H_ACTIVE, .HEAD_HSYNC_POL, .HEAD_HSYNC_WIDTH,
      .HEAD_HSYNC_START, .HEAD_VTIME_V_TOTAL, .HEAD_VTIME_V_ACTIVE, .HEAD_VSYNC_POL, .HEAD_VSYNC_WIDTH, .HEAD_VSYNC_START, .HEAD_FILL_COLOUR,
      .HEAD_LINK_TRAINED, .HEAD_LINK_LANES, .HEAD_LINK_RATE] : List Fld).Nodup := by decide
  exact distinct

/-- A head whose mode is set: its fields, and output goes on (R341, R343). -/
def State.modeSet (s : State) (c : DispModeCfg) (lanes rate : Nat) : State :=
  let t := s.setFlds 0 c.head (modeFields c lanes rate)
  t.setHead c.head { t.head c.head with stopped := false }

theorem State.fld_modeSet {c : DispModeCfg} {lanes rate v : Nat} {f : Fld} (hmem : (f, v) ∈ modeFields c lanes rate) :
    (s.modeSet c lanes rate).fld 0 f c.head = v % 2 ^ f.width := by
  simp only [State.modeSet, State.setHead_fld]
  exact s.fld_setFlds_mem (modeFields_nodup c lanes rate) hmem 0 c.head

theorem exec_dispMode_modeSet {c : DispModeCfg} {lanes rate : Nat} (hs : Serves s r 0x0610 none) (hh : c.head < 4) (hlink : c.link < 2)
    (hmax : c.maxLanes = 1 ∨ c.maxLanes = 2 ∨ c.maxLanes = 4) (hbpc : c.bpc = 8 ∨ c.bpc = 10) (hslow : 25000 ≤ c.pclkKhz) (hfast : c.pclkKhz ≤ 600000)
    (hholder : s.holder 3 0 c.head = r.dom) (hlanes : lanes ≤ c.maxLanes) (hcount : lanes = 1 ∨ lanes = 2 ∨ lanes = 4) (hrate : rate < 8)
    (hdp : c.link = 0 → rate < 4) (hcarries : c.pclkKhz * 3 * c.bpc * 10 ≤ lanes * linkRate rate * 10 * 8) :
    ∃ u : State, u.fld 0 .HEAD_LINK_TRAINED c.head = 1 ∧ u.fld 0 .HEAD_CTRL_EN c.head = 1 ∧ u.fld 0 .HEAD_PCLK_KHZ c.head = c.pclkKhz ∧
      (u.head c.head).stopped = false ∧
      exec (.dispMode r c (some (lanes, rate))) s = .next (u.answered r 0x0610 none (some (.ok, leBytes 4 (u.linkImage c.head)))) := by
  have hform : ¬ (4 ≤ c.head ∨ 2 ≤ c.link ∨ ¬ (c.maxLanes = 1 ∨ c.maxLanes = 2 ∨ c.maxLanes = 4) ∨ ¬ (c.bpc = 8 ∨ c.bpc = 10) ∨ c.pclkKhz < 25000 ∨
      600000 < c.pclkKhz) := by omega
  have hmay : ¬ (s.handling r 0x0610).holder 3 0 c.head ≠ r.dom := not_not_intro ((s.handling_holder r _ 3 0 c.head).trans hholder)
  have htrained : ¬ (c.maxLanes < lanes ∨ ¬ (lanes = 1 ∨ lanes = 2 ∨ lanes = 4) ∨ 8 ≤ rate ∨ (c.link = 0 ∧ 4 ≤ rate)) := by omega
  refine ⟨(s.handling r 0x0610).modeSet c lanes rate, State.fld_modeSet (v := 1) ?_, State.fld_modeSet (v := 1) ?_, ?_, ?_, congrArg Host.Outcome.next (hs.reply
    ((if_neg hform).trans ((if_neg hmay).trans ((if_neg htrained).trans (if_neg (Nat.not_lt.mpr hcarries))))))⟩
  · simp [modeFields]
  · simp [modeFields]
  · refine (State.fld_modeSet (v := c.pclkKhz) (by simp [modeFields])).trans (Nat.mod_eq_of_lt ?_)
    exact Nat.lt_of_le_of_lt hfast (by decide)
  · rw [State.modeSet, State.head_setHead_same]

theorem exec_dispFlip_replies {a : Nat} (hs : Serves s r 0x0611 none) (hh : h < 4) (ha : a < 2 ^ 48) (hloc : (memLoc s.part a).isSome = true)
    (hholder : s.holder 3 0 h = r.dom) : exec (.dispFlip r h a) s = .next (s.replies r 0x0611 none (fun t => (t.offer h (.at a), []))) := by
  refine congrArg Host.Outcome.next (hs.replies ?_)
  have hform : ¬ (4 ≤ h ∨ 2 ^ 48 ≤ a ∨ (memLoc s.part a).isNone = true) := by
    simp only [Nat.not_le.mpr hh, Nat.not_le.mpr ha, Option.isNone_eq_false_iff.mpr hloc, Bool.false_eq_true, or_self, not_false_eq_true]
  simp only [State.handling_part, if_neg hform, State.handling_holder, hholder, ne_eq, not_true_eq_false, if_false]

@[simp] theorem State.handling_dispStatus (s : State) (r : Req) (op : Nat) : (s.handling r op).dispStatus = s.dispStatus := by
  simp only [State.dispStatus, State.handling_fld]

@[simp] theorem State.handling_linkImage (s : State) (r : Req) (op h : Nat) : (s.handling r op).linkImage h = s.linkImage h := by
  simp only [State.linkImage, State.handling_fld]

theorem exec_dispQuery_replies (hs : Serves s r 0x0612 none) (hh : h < 4) :
    exec (.dispQuery r h) s = .next (s.replies r 0x0612 none (fun t => (t,
      leBytes 4 s.dispStatus ++ leBytes 4 (s.fld 0 .HEAD_REPEAT_COUNT h) ++ leBytes 4 (s.fld 0 .HEAD_UNDERRUN_COUNT h) ++ leBytes 4 (s.linkImage h) ++
        leBytes 8 (s.fld 0 .HEAD_VBLANK_TIME h)))) := by
  refine congrArg Host.Outcome.next (hs.replies ?_)
  simp only [Nat.not_le.mpr hh, if_false, State.handling_dispStatus, State.handling_fld, State.handling_linkImage]

theorem exec_dispOff_replies (hs : Serves s r 0x0613 none) (hh : h < 4) (hholder : s.holder 3 0 h = r.dom) :
    exec (.dispOff r h) s = .next (s.replies r 0x0613 none (fun t =>
      (t.setFlds 0 h [(.HEAD_CTRL_EN, 0), (.HEAD_LINK_TRAINED, 0), (.HEAD_LINK_LANES, 0), (.HEAD_LINK_RATE, 0)], []))) := by
  refine congrArg Host.Outcome.next (hs.replies ?_)
  simp only [Nat.not_le.mpr hh, State.handling_holder, hholder, ne_eq, not_true_eq_false, if_false]

end

/-- Settles O22, clause by clause. -/
theorem displayRowsComplete : Obligations.DisplayRowsComplete := fun _ =>
  ⟨fun _ _ => exec_displayReserveStart_killWhere, fun _ => exec_verticalBlank_next,
    fun _ hh hruns => ⟨exec_scanoutTileRowDue_unlatched hh hruns, fun _ => exec_scanoutTileRowDue_latched hh hruns⟩,
    fun _ _ => exec_hpdChange_dispEvent, fun _ _ _ => exec_headImgHiWrite_next, fun _ _ _ => exec_headCtrlEnWrite_setFlds,
    fun _ _ _ _ => exec_dispMode_modeSet, fun _ _ _ => exec_dispFlip_replies, fun _ _ => exec_dispQuery_replies, fun _ _ => exec_dispOff_replies⟩

end Sys2Proof.Machine
end

section
/-!
SUPPORT and PROOFS. Configuring, resetting, querying and freezing functions, their registers, and what a controller's link asks of them (R300 to R302, R304 to R306,
R309, R310, R314 to R316, 14_virtual_functions.md).
-/
namespace Sys2Proof.Machine

/-! What the function messages look at reads the same while one of them is handled. -/

section
variable (s : State) (r : Req) (op : Nat)

@[simp] theorem State.handling_fnSender (q : Req) : (s.handling r op).fnSender q = s.fnSender q := by
  simp only [State.fnSender, State.handling_manager]

@[simp] theorem State.handling_aperOk (v : Nat) : (s.handling r op).aperOk v = s.aperOk v := by
  simp only [State.aperOk, State.handling_inMemory]

@[simp] theorem State.handling_assign (n : Nat) : (s.handling r op).assign n = s.assign n := by
  simp only [State.assign, State.handling_fld]

@[simp] theorem State.handling_holdsClassS (dom : Dom) : (s.handling r op).holdsClassS dom = s.holdsClassS dom := by
  simp only [State.holdsClassS, State.handling_pins]

@[simp] theorem State.handling_frozen (fn : Dom) : (s.handling r op).frozen fn = s.frozen fn := by
  simp only [State.frozen, State.handling_fn]

@[simp] theorem State.handling_fnStateOf (fn : Dom) : (s.handling r op).fnStateOf fn = s.fnStateOf fn := by
  simp only [State.fnStateOf, State.handling_inReset, State.handling_frozen]

@[simp] theorem State.handling_queuesOf (fn : Dom) : (s.handling r op).queuesOf fn = s.queuesOf fn := by
  simp only [State.queuesOf, State.handling_q]

@[simp] theorem State.handling_resizeRefusal (n assign quota vectors : Nat) :
    (s.handling r op).resizeRefusal n assign quota vectors = s.resizeRefusal n assign quota vectors := by
  obtain ⟨boxes, bells, h⟩ := s.handling_eq r op
  rw [h]; rfl

end

/-! The ends of a function reset (R306, R309). -/

section
variable {s : State} {n : Nat}

theorem exec_genDrainEnd_nextGen (hn : n ≤ 2048) (hreset : ∃ e ∈ s.fn.resets, e.fn = fnDom n ∧ e.advanced = false)
    (hdrained : ∀ e ∈ s.q.slots, e.2.fn ≠ fnDom n) : exec (.genDrainEnd n) s = .next (s.nextGen (fnDom n)) := by
  have hgo : s.fn.resets.any (fun r => decide (r.fn = fnDom n) && !r.advanced) = true ∧ ¬ s.q.slots.any (fun e => decide (e.2.fn = fnDom n)) = true :=
    ⟨by simpa using hreset, by simpa using hdrained⟩
  exact (if_neg (Nat.not_lt.mpr hn)).trans (if_pos hgo)

theorem exec_functionResetEnd_finishes {x : FnReset} (hn : n ≤ 2048)
    (hreset : s.fn.resets.find? (fun e => decide (e.fn = fnDom n) && e.advanced) = some x) :
    exec (.functionResetEnd n) s = .next ((s.clearFn (fnDom n)).finishFnReset x) := by
  change execFunctionResetEnd n s = _
  simp only [execFunctionResetEnd, Nat.not_lt.mpr hn, if_false, hreset]

end

/-! The function messages (R302, R304 to R306, R310, R314, R316). -/

section
variable {s : State} {r : Req} {n : Nat}

theorem exec_fnConfig_replies {assign quota vectors aper : Nat} (hs : Serves s r 0x0300 none) (hn : n ≤ 2048) (hassign : assign < 4) (hquota : quota ≤ 1024)
    (hsome : 1 ≤ vectors) (hvectors : vectors ≤ 64) (haper : s.aperOk aper = true) (hsender : s.fnSender r = true)
    (hpf : n = 0 → assign = 1 ∧ vectors = 64 ∧ quota ≠ 0) (hkeeps : assign ≠ 0 ∨ s.assign n = 0) (hruns : s.inReset (fnDom n) = false)
    (hresize : s.resizeRefusal n assign quota vectors = none) :
    exec (.fnConfig r n assign quota vectors aper) s = .next (s.replies r 0x0300 none (fun t =>
      let u := t.resize n assign quota vectors
      ((u.setFld 0 .FN_APER_BASE n (u.aperOf n aper)).functionChange n, leBytes 2 (u.genOf (fnDom n)) ++ leBytes 2 0))) := by
  refine congrArg Host.Outcome.next (hs.replies ?_)
  have hform : ¬ (2048 < n ∨ 4 ≤ assign ∨ 1024 < quota ∨ vectors = 0 ∨ 64 < vectors ∨ ¬ s.aperOk aper = true) := by
    simp only [haper, not_true_eq_false, or_false]
    omega
  have hpfKept : ¬ (n = 0 ∧ (assign ≠ 1 ∨ vectors ≠ 64 ∨ quota = 0)) := by omega
  have hstays : ¬ (assign = 0 ∧ s.assign n ≠ 0) := by omega
  simp only [State.handling_aperOk, if_neg hform, State.handling_fnSender, hsender, if_neg hpfKept, State.handling_assign, if_neg hstays,
    State.handling_inReset, hruns, State.handling_resizeRefusal, hresize, not_true_eq_false, Bool.false_eq_true, if_false]

/-- FN_RESET and FN_DISCARD start or join the function's reset where their sender may reset it (R306, R314). -/
theorem State.resetMessage_handling {op : Nat} (hn : n ≤ 2048) (hsender : s.fnSender r = true) (hassigned : s.assign n ≠ 0)
    (hsafety : s.holdsClassS (fnDom n) = false ∨ r.dom = fwDom ∨ s.inReset (fnDom n) = true) :
    (s.handling r op).resetMessage r op n = later ((s.handling r op).startFnReset (fnDom n) [(r, op)] false) := by
  have hallowed : ¬ (s.holdsClassS (fnDom n) = true ∧ r.dom ≠ fwDom ∧ ¬ s.inReset (fnDom n) = true) := by
    rintro ⟨hclassS, hfw, hfresh⟩
    rcases hsafety with h | h | h
    · exact Bool.false_ne_true (h.symm.trans hclassS)
    · exact hfw h
    · exact hfresh h
  simp only [State.resetMessage, State.resetByMessage, Nat.not_lt.mpr hn, State.handling_fnSender, hsender, State.handling_assign, hassigned,
    State.handling_holdsClassS, State.handling_inReset, if_neg hallowed, not_true_eq_false, if_false]

theorem exec_fnReset_defers (hn : n ≤ 2048) (hsender : s.fnSender r = true) (hassigned : s.assign n ≠ 0)
    (hsafety : s.holdsClassS (fnDom n) = false ∨ r.dom = fwDom ∨ s.inReset (fnDom n) = true) (hs : Serves s r 0x0301 none) :
    exec (.fnReset r n) s = .next (s.defers r 0x0301 none (fun t => t.startFnReset (fnDom n) [(r, 0x0301)] false)) :=
  congrArg Host.Outcome.next (hs.defers (State.resetMessage_handling hn hsender hassigned hsafety))

theorem exec_fnDiscard_defers (hn : n ≤ 2048) (hsender : s.fnSender r = true) (hassigned : s.assign n ≠ 0)
    (hsafety : s.holdsClassS (fnDom n) = false ∨ r.dom = fwDom ∨ s.inReset (fnDom n) = true) (hs : Serves s r 0x0314 none) :
    exec (.fnDiscard r n) s = .next (s.defers r 0x0314 none (fun t => t.startFnReset (fnDom n) [(r, 0x0314)] false)) :=
  congrArg Host.Outcome.next (hs.defers (State.resetMessage_handling hn hsender hassigned hsafety))

/-- A sender of the group and the function itself may ask about a function (R304, R316). -/
theorem State.fnAsker_allowed (hsender : s.fnSender r = true ∨ r.dom = fnDom n) : ¬ (¬ s.fnSender r = true ∧ r.dom ≠ fnDom n) :=
  fun ⟨hother, hforeign⟩ => hsender.elim hother hforeign

theorem exec_fnQuery_replies (hs : Serves s r 0x0302 none) (hn : n ≤ 2048) (hsender : s.fnSender r = true ∨ r.dom = fnDom n) :
    let qs := s.queuesOf (fnDom n)
    exec (.fnQuery r n) s = .next (s.replies r 0x0302 none (fun t => (t, leBytes 1 (s.assign n) ++ leBytes 1 (s.fnStateOf (fnDom n)) ++
      leBytes 2 (s.genOf (fnDom n)) ++ leBytes 2 (s.fld 0 .FN_CFG_QUOTA n) ++ leBytes 2 (min qs.length 0xFFFF) ++ leBytes 1 (s.fld 0 .FN_CFG_VECTORS n) ++
      leBytes 7 0 ++ leBytes 8 (s.fld 0 .FN_APER_BASE n) ++
      ((List.range 8).map (fun d => leBytes 1 (min 255 (qs.filter (fun e => decide (e.1 / 65536 = d))).length))).flatten))) := by
  refine congrArg Host.Outcome.next (hs.replies ?_)
  simp only [Nat.not_lt.mpr hn, if_false, State.handling_fnSender, if_neg (State.fnAsker_allowed hsender), State.handling_queuesOf, State.handling_assign,
    State.handling_fnStateOf, State.handling_genOf, State.handling_fld]

theorem exec_fnQmap_replies {first : Nat} (hs : Serves s r 0x0303 none) (hn : n ≤ 2048) (hfirst : first < 1024)
    (hsender : s.fnSender r = true ∨ r.dom = fnDom n) :
    exec (.fnQmap r n first) s = .next (s.replies r 0x0303 none (fun t => (t, ((rangeFrom first 64).map (fun j =>
      match (s.queuesOf (fnDom n)).find? (fun e => decide (e.2.mapSlot = some j)) with
      | some e => leBytes 4 e.1
      | none => leBytes 4 0xFFFFFFFF)).flatten))) := by
  refine congrArg Host.Outcome.next (hs.replies ?_)
  have hform : ¬ (2048 < n ∨ 1024 ≤ first) := by omega
  simp only [if_neg hform, State.handling_fnSender, if_neg (State.fnAsker_allowed hsender), State.handling_queuesOf] <;> rfl

theorem exec_fnGlobal_replies {c a : Nat} (hs : Serves s r 0x0304 none) (hc : c < 2) (hlow : 20 ≤ a) (hhigh : a ≤ 32) (hsender : s.fnSender r = true)
    (hoff : c ∉ s.fn.vfEnable) :
    exec (.fnGlobal r c a) s = .next (s.replies r 0x0304 none (fun t => ({ t with fn.apExp := insertKV t.fn.apExp c a }, []))) := by
  refine congrArg Host.Outcome.next (hs.replies ?_)
  have hform : ¬ (2 ≤ c ∨ a < 20 ∨ 32 < a) := by omega
  simp only [if_neg hform, State.handling_fnSender, hsender, State.handling_fn, hoff, not_true_eq_false, if_false]

theorem exec_fnFreeze_defers (hs : Serves s r 0x0310 none) (hn : n ≤ 2048) (hsender : s.fnSender r = true) (hassigned : s.assign n ≠ 0)
    (hsafety : s.holdsClassS (fnDom n) = false ∨ r.dom = fwDom) (hnone : s.fn.freezes = []) (hruns : s.inReset (fnDom n) = false)
    (hidle : s.fw.activation = none) (hpair : s.fld 0 .MIRROR_STATUS_HANDOVER ≠ 1) :
    exec (.fnFreeze r n) s = .next (s.defers r 0x0310 none (fun t => t.beginFreeze (fnDom n) [r] false)) := by
  refine congrArg Host.Outcome.next (hs.defers ?_)
  have hallowed : ¬ (s.holdsClassS (fnDom n) = true ∧ r.dom ≠ fwDom) :=
    fun ⟨hclassS, hfw⟩ => hsafety.elim (fun h => Bool.false_ne_true (h.symm.trans hclassS)) hfw
  simp only [Nat.not_lt.mpr hn, State.handling_fnSender, hsender, State.handling_assign, hassigned, State.handling_holdsClassS, if_neg hallowed,
    State.handling_fn, hnone, List.find?_nil, State.handling_inReset, hruns, State.handling_fw, hidle, State.handling_fld, hpair, Option.isSome_none,
    Bool.false_eq_true, ne_eq, not_true_eq_false, or_self, if_false]

end

/-! Resets and VFs from a controller's link (R301, R306). -/

section
variable {s : State} {c n : Nat} (hc : c < 2)
include hc

theorem exec_functionLevelReset_vf (hpos : 1 ≤ n) (hn : n ≤ 2048) (hassigned : s.assign n = c + 1) :
    exec (.functionLevelReset c (some n)) s = .next (s.forceFnReset (fnDom n) false) := by
  obtain ⟨k, rfl⟩ := Nat.exists_eq_add_of_le' hpos
  have hgo : ¬ (2 ≤ c ∨ 2048 < k + 1 ∨ s.assign (k + 1) ≠ c + 1) := by omega
  exact if_neg hgo

theorem exec_functionLevelReset_pf {fn : Option Nat} (hfn : fn = none ∨ fn = some 0) :
    exec (.functionLevelReset c fn) s =
      .next ((s.enabledFns.filter (fun n => decide (n = 0) || decide (s.assign n = c + 1))).foldl (fun t n => t.forceFnReset (fnDom n) false) s) := by
  rcases hfn with rfl | rfl
  · exact if_neg (Nat.not_le.mpr hc)
  · exact if_neg (Nat.not_le.mpr hc)

/-- NumVFs takes a value while VF Enable stays 0. -/
theorem exec_numvfsWrite_disabled (hoff : c ∉ s.fn.vfEnable) :
    exec (.numvfsWrite c n false) s = .next { s with fn.numVfs := insertKV s.fn.numVfs c (min n (2048 - s.numVf (1 - c))) } := by
  change execNumvfsWrite c n false s = _
  simp only [execNumvfsWrite, Nat.not_le.mpr hc, hoff, decide_false, Bool.and_self, Bool.false_eq_true, if_false, if_true]

/-- VF Enable is set; assigning the VFs leaves it. -/
theorem exec_numvfsWrite_enables (hoff : c ∉ s.fn.vfEnable) : ∃ t, exec (.numvfsWrite c n true) s = .next t ∧ c ∈ t.fn.vfEnable := by
  have hwas : ¬ decide (c ∈ s.fn.vfEnable) = true := by simpa using hoff
  refine ⟨_, (if_neg (Nat.not_le.mpr hc)).trans ((if_neg hwas).trans (if_pos rfl)), ?_⟩
  refine List.foldlRecOn _ _ (motive := fun t : State => c ∈ t.fn.vfEnable) List.mem_cons_self (fun t ht v _ => ?_)
  split
  · exact ht
  · exact ht

theorem exec_numvfsWrite_keeps (hon : c ∈ s.fn.vfEnable) : exec (.numvfsWrite c n true) s = .next s := by
  change execNumvfsWrite c n true s = _
  simp only [execNumvfsWrite, Nat.not_le.mpr hc, hon, decide_true, Bool.and_self, if_false, if_true]

end

/-! The registers of a function (R305, R306, R315, R316). -/

section
variable {s : State} {m : Master} {n : Nat} {data : Word}

theorem exec_fnResetRegWrite_resets (hn : n ≤ 2048) (hw : WritesNow s m (homeOf s.part.dies (fnDom n)) .MBOX (pageOf (fnDom n) * 0x1000 + 0x108))
    (hkey : bits data.toNat 31 24 = 0xC3) : exec (.fnResetRegWrite m n data) s = .next (s.accepted.forceFnReset (fnDom n) false) :=
  (if_neg (Nat.not_lt.mpr hn)).trans (congrArg Host.Outcome.next ((hw.eq data _).trans (if_pos hkey)))

/-- A write of FN_CFG_n that its checks allow changes ASSIGN, QUOTA and VECTORS (R305). -/
theorem wrFnCfg_of_allowed {data : Nat} (hpos : 1 ≤ n) (hquota : bits data 26 16 ≤ 1024) (hsome : 1 ≤ bits data 6 0) (hvectors : bits data 6 0 ≤ 64)
    (hkeeps : bits data 31 30 ≠ 0 ∨ s.assign n = 0) (hruns : s.inReset (fnDom n) = false)
    (hresize : s.resizeRefusal n (bits data 31 30) (bits data 26 16) (bits data 6 0) = none) :
    wrFnCfg n data s = (s.resize n (bits data 31 30) (bits data 26 16) (bits data 6 0)).functionChange n := by
  have hform : ¬ (1024 < bits data 26 16 ∨ bits data 6 0 = 0 ∨ 64 < bits data 6 0 ∨
      (n = 0 ∧ (bits data 31 30 ≠ 1 ∨ bits data 6 0 ≠ 64 ∨ bits data 26 16 = 0))) := by omega
  have hstays : ¬ (bits data 31 30 = 0 ∧ s.assign n ≠ 0) := by omega
  simp only [wrFnCfg, if_neg hform, if_neg hstays, hruns, hresize, Option.isSome_none, Bool.false_eq_true, or_self, if_false]

theorem exec_fnCfgWrite_resizes (hpos : 1 ≤ n) (hn : n ≤ 2048) (hw : WritesNow s m 0 .SCH (0x80000 + 16 * n)) (hg : s.guardOk m = true)
    (hquota : bits data.toNat 26 16 ≤ 1024) (hsome : 1 ≤ bits data.toNat 6 0) (hvectors : bits data.toNat 6 0 ≤ 64)
    (hkeeps : bits data.toNat 31 30 ≠ 0 ∨ s.assign n = 0) (hruns : s.inReset (fnDom n) = false)
    (hresize : s.accepted.resizeRefusal n (bits data.toNat 31 30) (bits data.toNat 26 16) (bits data.toNat 6 0) = none) :
    exec (.fnCfgWrite m n data) s =
      .next ((s.accepted.resize n (bits data.toNat 31 30) (bits data.toNat 26 16) (bits data.toNat 6 0)).functionChange n) :=
  (if_neg (Nat.not_lt.mpr hn)).trans (congrArg Host.Outcome.next ((hw.eq data _).trans ((State.guarded_ok (s := s.accepted) hg _ _ _ _).trans
    (wrFnCfg_of_allowed (s := s.accepted) hpos hquota hsome hvectors hkeeps hruns hresize))))

end

/-- Settles O23, clause by clause. -/
theorem functionRowsComplete : Obligations.FunctionRowsComplete := fun _ =>
  ⟨fun _ => exec_genDrainEnd_nextGen, fun _ _ => exec_functionResetEnd_finishes, fun _ _ _ _ _ _ => exec_fnConfig_replies,
    fun _ _ hn hsender hassigned hsafety =>
      ⟨exec_fnReset_defers hn hsender hassigned hsafety, exec_fnDiscard_defers hn hsender hassigned hsafety⟩,
    fun _ _ => exec_fnQuery_replies, fun _ _ _ => exec_fnQmap_replies, fun _ _ _ => exec_fnGlobal_replies, fun _ _ => exec_fnFreeze_defers,
    fun _ _ => exec_functionLevelReset_vf, fun _ _ hc hfn => exec_functionLevelReset_pf hc hfn, fun _ _ _ => exec_fnResetRegWrite_resets,
    fun _ _ _ => exec_fnCfgWrite_resizes, fun _ _ => exec_numvfsWrite_disabled, fun _ _ => exec_numvfsWrite_enables, fun _ _ => exec_numvfsWrite_keeps⟩

end Sys2Proof.Machine
end

section
/-!
SUPPORT and PROOFS. An image of a frozen function: its saving under authentication and encryption, its restoring and the thaw (R312 to R314, R481,
14_virtual_functions.md).
-/
namespace Sys2Proof.Machine

section
variable {s : State} {r : Req} {n : Nat}

theorem exec_fnSave_answered {flags maxLen a d o key : Nat} {f : FnFreeze} {t : State} (ht : s.handling r 0x0311 = t) (hs : Serves s r 0x0311 none)
    (hn : n ≤ 2048) (hflags : flags < 4) (hsender : t.fnSender r = true) (hfeature : bit flags 1 = true → t.hasFeature r 13 = true)
    (hfrozen : t.fn.freezes.find? (fun f => decide (f.fn = fnDom n) && f.complete) = some f) (hplace : decodeAddr s.part 0 a = .dram d o)
    (hkey : t.imageKey (flags / 2) = some key) :
    let recs := t.imageRecs (fnDom n) (bit flags 1) (bit flags 0)
    let secs := imageSections recs
    let len := 128 + secs.flatten.length
    o + len ≤ s.part.dramBytes → len ≤ maxLen → t.memRefusal copyEngine a len = none →
    t.copyUes ((recs.filter (fun x => decide (x.kind = 8 ∨ x.kind = 9))).map (fun x => (x.object, x.content.length))) = none →
    let head := leBytes 4 0x4E465653 ++ leBytes 1 1 ++ leBytes 1 0 ++ leBytes 2 n ++ leBytes 2 (s.genOf (fnDom n)) ++ leBytes 1 s.part.dies ++ leBytes 1 flags ++
      leBytes 4 secs.length ++ leBytes 8 len ++ leBytes 8 (f.time / 1000000000) ++ leBytes 4 (f.time % 1000000000) ++ leBytes 28 0
    let iv := leBytes 8 s.sec.saveCount ++ leBytes 2 n ++ leBytes 2 0
    let c := cipher key (leNat iv) 0 secs.flatten
    exec (.fnSave r n flags maxLen a) s = .next (State.answered
      { t.store (agentOf copyEngine) a (head ++ (leBytes 4 (flags / 2) ++ iv ++ leBytes 16 (Config.gcmTag key (leNat iv) head c).toNat ++ leBytes 32 0) ++ c) with
        sec.saveCount := s.sec.saveCount + 1 } r 0x0311 none (some (.ok, leBytes 8 len))) := by
  have hpart : t.part = s.part := ht ▸ s.handling_part r _
  have hgen : t.genOf (fnDom n) = s.genOf (fnDom n) := ht ▸ s.handling_genOf r _ _
  have hsec : t.sec = s.sec := ht ▸ s.handling_sec r _
  rw [← hpart, ← hgen, ← hsec]
  intro recs secs len hfits hroom hreach hclean head iv c
  refine congrArg Host.Outcome.next (hs.reply ?_)
  rw [ht]
  have hform : ¬ (2048 < n ∨ 4 ≤ flags) := by omega
  have hallowed : ¬ (bit flags 1 = true ∧ ¬ t.hasFeature r 13 = true) := fun ⟨hpartner, hlacks⟩ => hlacks (hfeature hpartner)
  rw [← hpart] at hplace
  simp only [if_neg hform, hsender, if_neg hallowed, hfrozen, hplace, hkey, not_true_eq_false, if_false]
  rw [if_neg (Nat.not_lt.mpr hfits), if_neg (Nat.not_lt.mpr hroom), hreach, hclean]

/-- An image that FN_RESTORE takes for a function under some flags: its key is known, its tag verifies, its header agrees, and it holds the sections `ss` and the records
`rs` (R312, R313, R481). -/
structure ImageOpens (t : State) (head auth sealed : List Byte) (n flags len key : Nat) (ss : List (Nat × Nat × List Byte)) (rs : List MirrorRec) : Prop where
  known : t.imageKey (leAt auth 0 1) = some key
  verified : (Config.gcmTag key (leAt auth 4 12) head sealed).toNat = leAt auth 16 16
  padding : leAt auth 1 3 = 0
  sections : parseSections 16 (cipher key (leAt auth 4 12) 0 sealed) = some ss
  records : imageOf [] ss = some rs
  magic : leAt head 0 4 = 0x4E465653
  version : leAt head 4 1 = 1
  function : leAt head 6 2 = n
  flagged : leAt head 11 1 = flags
  length : leAt head 16 8 = len
  count : leAt head 12 4 = ss.length

/-- The function that the records of an image rebuild: the partner's as it stood there, or one on the same part (R313). -/
def State.restored (t : State) (fn : Dom) (partner buffers : Bool) (gen : Nat) (dieMap : List Nat) (rs : List MirrorRec) : Option State :=
  if partner then
    (if t.placesFree (rs.filter (fun x => decide (x.kind = 7))) then
      t.putRecs fn ((rs.filter (fun x => decide (x.kind = 1))).map (fun x => { x with object := gen }) ++ rs.filter (fun x => decide (x.kind ≠ 1)))
    else none)
  else t.restoreHere fn buffers dieMap rs

section
variable {flags len a key : Nat} {ss : List (Nat × Nat × List Byte)} {rs : List MirrorRec} {t u : State} {dieMap : List Nat}
  (ht : s.handling r 0x0312 = t) (hs : Serves s r 0x0312 none) (hn : n ≤ 2048) (hflags : flags < 4) (hlen : 128 ≤ len) (hin : t.inMemory a len = true)
  (hsender : t.fnSender r = true) (hfeature : bit flags 1 = true → t.hasFeature r 13 = true) (hreach : t.memRefusal copyEngine a len = none)
  (hclean : t.copyUes [(a, len)] = none)
  (hopens : ImageOpens t ((s.bytes a len).take 64) (slice (s.bytes a len) 64 64) ((s.bytes a len).drop 128) n flags len key ss rs)
include ht hs hn hflags hlen hin hsender hfeature hreach hclean hopens

/-- An image that opens is restored where its target has room for it. -/
theorem exec_fnRestore_of_opens (hbuffers : bit flags 1 = true → bit flags 0 = true) (hdies : bit flags 1 = false → ∀ d ∈ dieMap, d < s.part.dies)
    (hgen : bit flags 1 = false → earlierGen (leAt ((s.bytes a len).take 64) 8 2) (t.genOf (fnDom n)) = false)
    (hvacant : bit flags 1 = true → t.assign n = 0 ∨ (t.queuesOf (fnDom n) = [] ∧ ∀ e ∈ t.pins.claims, e.2.1 ≠ fnDom n))
    (hclaims : t.claimTaken (fnDom n) (if bit flags 1 then [] else dieMap) (rs.filter (fun x => decide (x.kind = 5))) = false)
    (hput : t.restored (fnDom n) (bit flags 1) (bit flags 0) (leAt ((s.bytes a len).take 64) 8 2) dieMap rs = some u) :
    exec (.fnRestore r n flags len a dieMap) s = .next (u.answered r 0x0312 none (some (.ok, leBytes 2 (u.genOf (fnDom n)) ++ leBytes 2 0))) := by
  have hpart : t.part = s.part := ht ▸ s.handling_part r _
  have hbytes : t.bytes a len = s.bytes a len := ht ▸ s.handling_bytes r _ _ _
  rw [← hbytes] at hopens hgen hput
  rw [← hpart] at hdies
  obtain ⟨hknown, hverified, hpadding, hsections, hrecords, hmagic, hversion, hfunction, hflagged, hlength, hcount⟩ := hopens
  refine congrArg Host.Outcome.next (hs.reply ?_)
  rw [ht]
  have hform : ¬ (2048 < n ∨ 4 ≤ flags ∨ len < 128 ∨ ¬ t.inMemory a len = true) := by
    simp only [hin, not_true_eq_false, or_false]
    omega
  have hallowed : ¬ (bit flags 1 = true ∧ ¬ t.hasFeature r 13 = true) := fun ⟨hpartner, hlacks⟩ => hlacks (hfeature hpartner)
  have hsealed : ¬ ((Config.gcmTag key (leAt (slice (t.bytes a len) 64 64) 4 12) ((t.bytes a len).take 64) ((t.bytes a len).drop 128)).toNat ≠
      leAt (slice (t.bytes a len) 64 64) 16 16 ∨ leAt (slice (t.bytes a len) 64 64) 1 3 ≠ 0) := by
    simp only [hverified, hpadding, ne_eq, not_true_eq_false, or_self, not_false_eq_true]
  have hmapped : ¬ ((bit flags 1 = true ∧ ¬ bit flags 0 = true) ∨ (¬ bit flags 1 = true ∧ dieMap.any (fun d => decide (t.part.dies ≤ d)) = true)) := by
    rintro (⟨hpartner, hbare⟩ | ⟨hlocal, hoff⟩)
    · exact hbare (hbuffers hpartner)
    · obtain ⟨d, hd, hbeyond⟩ := List.any_eq_true.mp hoff
      exact absurd (hdies (eq_false_of_ne_true hlocal) d hd) (Nat.not_lt.mpr (of_decide_eq_true hbeyond))
  have hfresh : ¬ (¬ bit flags 1 = true ∧ earlierGen (leAt ((t.bytes a len).take 64) 8 2) (t.genOf (fnDom n)) = true) :=
    fun ⟨hlocal, hstale⟩ => Bool.false_ne_true ((hgen (eq_false_of_ne_true hlocal)).symm.trans hstale)
  have hfree : ¬ (bit flags 1 = true ∧ t.assign n ≠ 0 ∧ (t.queuesOf (fnDom n) ≠ [] ∨ t.pins.claims.any (fun e => decide (e.2.1 = fnDom n)) = true)) := by
    rintro ⟨hpartner, hassigned, hused⟩
    obtain ⟨hqueues, hclaimed⟩ := (hvacant hpartner).resolve_left hassigned
    obtain ⟨e, he, hfn⟩ := List.any_eq_true.mp (hused.resolve_left (not_not_intro hqueues))
    exact hclaimed e he (of_decide_eq_true hfn)
  simp only [if_neg hform, hsender, if_neg hallowed, hreach, hclean, hknown, if_neg hsealed, hsections, Option.bind_some, hrecords, hmagic, hversion, hfunction,
    hflagged, hlength, hcount, Option.getD_some, not_true_eq_false, if_false, ne_self_iff_false, false_or]
  rw [if_neg hmapped, if_neg hfresh, if_neg hfree, hclaims]
  simp only [State.restored] at hput
  simp only [hput, Bool.false_eq_true, if_false]

theorem exec_fnRestore_here (hlocal : bit flags 1 = false) (hdies : ∀ d ∈ dieMap, d < s.part.dies)
    (hgen : earlierGen (leAt ((s.bytes a len).take 64) 8 2) (t.genOf (fnDom n)) = false)
    (hclaims : t.claimTaken (fnDom n) dieMap (rs.filter (fun x => decide (x.kind = 5))) = false)
    (hput : t.restoreHere (fnDom n) (bit flags 0) dieMap rs = some u) :
    exec (.fnRestore r n flags len a dieMap) s = .next (u.answered r 0x0312 none (some (.ok, leBytes 2 (u.genOf (fnDom n)) ++ leBytes 2 0))) := by
  have hnot : ¬ bit flags 1 = true := ne_true_of_eq_false hlocal
  refine exec_fnRestore_of_opens ht hs hn hflags hlen hin hsender hfeature hreach hclean hopens (absurd · hnot) (fun _ => hdies) (fun _ => hgen)
    (absurd · hnot) ?_ ?_
  · rwa [if_neg hnot]
  · rwa [State.restored, if_neg hnot]

theorem exec_fnRestore_partner (hpartner : bit flags 1 = true) (hbuffers : bit flags 0 = true)
    (hvacant : t.assign n = 0 ∨ (t.queuesOf (fnDom n) = [] ∧ ∀ e ∈ t.pins.claims, e.2.1 ≠ fnDom n))
    (hclaims : t.claimTaken (fnDom n) [] (rs.filter (fun x => decide (x.kind = 5))) = false)
    (hplaces : t.placesFree (rs.filter (fun x => decide (x.kind = 7))) = true)
    (hput : t.putRecs (fnDom n) ((rs.filter (fun x => decide (x.kind = 1))).map (fun x => { x with object := leAt ((s.bytes a len).take 64) 8 2 }) ++
      rs.filter (fun x => decide (x.kind ≠ 1))) = some u) :
    exec (.fnRestore r n flags len a dieMap) s = .next (u.answered r 0x0312 none (some (.ok, leBytes 2 (u.genOf (fnDom n)) ++ leBytes 2 0))) := by
  have hnot : bit flags 1 ≠ false := ne_false_of_eq_true hpartner
  refine exec_fnRestore_of_opens ht hs hn hflags hlen hin hsender hfeature hreach hclean hopens (fun _ => hbuffers) (absurd · hnot) (absurd · hnot)
    (fun _ => hvacant) ?_ ?_
  · rwa [if_pos hpartner]
  · rwa [State.restored, if_pos hpartner, if_pos hplaces]

end

theorem exec_fnThaw_replies (hs : Serves s r 0x0313 none) (hn : n ≤ 2048) (hsender : s.fnSender r = true)
    (hfrozen : ∃ f ∈ s.fn.freezes, f.fn = fnDom n ∧ f.complete = true) :
    exec (.fnThaw r n) s = .next (s.replies r 0x0313 none (fun t => (t.thawFn (fnDom n), []))) := by
  refine congrArg Host.Outcome.next (hs.replies ?_)
  have hcomplete : s.fn.freezes.any (fun f => decide (f.fn = fnDom n) && f.complete) = true := by simpa using hfrozen
  simp only [Nat.not_lt.mpr hn, State.handling_fnSender, hsender, State.handling_fn, hcomplete, not_true_eq_false, if_false]

end

/-- Settles O24, clause by clause. -/
theorem imageRowsComplete : Obligations.ImageRowsComplete := fun _ =>
  ⟨fun _ _ _ _ _ _ _ _ _ _ => exec_fnSave_answered,
    fun _ _ _ _ _ _ _ _ _ _ _ ht hs hn hflags hlen hin hsender hfeature hreach hclean hknown hverified hpadding hsections hrecords hmagic hversion
        hfunction hflagged hlength hcount =>
      have hopens := ImageOpens.mk hknown hverified hpadding hsections hrecords hmagic hversion hfunction hflagged hlength hcount
      ⟨exec_fnRestore_here ht hs hn hflags hlen hin hsender hfeature hreach hclean hopens,
        exec_fnRestore_partner ht hs hn hflags hlen hin hsender hfeature hreach hclean hopens⟩,
    fun _ _ => exec_fnThaw_replies⟩

end Sys2Proof.Machine
end

section
/-!
SUPPORT and PROOFS. What a request that arrives over the link of a PCIe controller reads and writes: through a BAR, at a register, and through an inbound window (R301 to
R303, R401 to R403, 14_virtual_functions.md, 18_gateway_and_bridges.md).
-/
namespace Sys2Proof.Machine

/-! Accesses of a master to memory and to the registers, where nothing refuses them (R92, R403). -/

section
variable {s : State} {m : Master} {a : Nat}

theorem State.physRead_of_memory {c n : Nat} (hmem : isMemory s.part a = true) (hsome : n ≠ 0) (hreach : s.memRefusal m a n = none)
    (hclean : s.poisoned a n = none) : s.physRead c m a n = .next ((s.wake a n).complete c (some (s.seen a n))) := by
  rw [State.physRead, if_pos ⟨hmem, hsome⟩]
  simp only [State.pcieMemRead, hreach, hclean]

theorem State.physWrite_of_memory {data : List Byte} (hmem : isMemory s.part a = true) (hsome : data ≠ []) (hreach : s.memRefusal m a data.length = none) :
    s.physWrite m a data = .next { s.store (agentOf m) a data with access := .done } := by
  rw [State.physWrite, if_pos ⟨hmem, hsome⟩]
  simp only [hreach]

/-- A register that does not refuse a master lies on a die that the master reaches (R92). -/
theorem State.blocked_of_refusal_none {d off : Nat} (h : s.refusal m d off = none) : s.blocked m.die d 0 = none := by
  unfold State.refusal at h
  split at h
  · cases h
  · split at h
    · cases h
    · assumption

section
variable {d off : Nat} (hplace : decodeAddr s.part m.die a = .regs d off) (hsize : sizeOk d off 4 = true) (hreach : s.refusal m d off = none)
include hplace hsize hreach

theorem State.addrRefusal_of_register : s.addrRefusal m a 4 = none := by
  simp only [State.addrRefusal, hplace, State.blocked_of_refusal_none hreach, hsize, if_true]

variable (hplain : inApintc off = false)
include hplain

theorem State.writeAt_of_register (data : Nat) : s.writeAt m a 4 data = .next (s.writeOff m a d off 4 (BitVec.ofNat 32 data)) := by
  simp only [State.writeAt, State.addrRefusal_of_register hplace hsize hreach, hplace, hplain, Bool.false_eq_true, false_and, if_false,
    Nat.reduceEqDiff]

theorem State.pcieRead_of_register {c q : Nat} {blk : Blk} (hblk : blockAt d off = some (blk, q)) (hfree : s.readWaits m d off = false) :
    s.pcieRead c m a 4 =
      .next (State.complete { (s.readWord m d blk q 0).2 with access := .value (s.readWord m d blk q 0).1 } c (some (leBytes 4 (s.readWord m d blk q 0).1))) := by
  have hread : s.readOff m a d off 0 = { (s.readWord m d blk q 0).2 with access := .value (s.readWord m d blk q 0).1 } := by
    simp only [State.readOff, hreach, hfree, hblk, Bool.false_eq_true, if_false]
  simp only [State.pcieRead, State.readAt, State.addrRefusal_of_register hplace hsize hreach, hplace, hplain, Bool.false_eq_true, false_and, if_false,
    Nat.reduceEqDiff, Nat.zero_mod, hread, if_true]

end

end

/-! A request through a BAR of a presented function, by the place that the BAR leads to (R302, R303). -/

section
variable {s : State} {c fn bar o : Nat}

theorem State.barRead_of_phys {a : Nat} (h : s.barPlace fn bar o = .phys a) (n : Nat) :
    s.barRead c fn bar o n = s.physRead c (pcieMaster c (fnDom fn)) a n := by
  simp only [State.barRead, h]

theorem State.barWrite_of_phys {a : Nat} (h : s.barPlace fn bar o = .phys a) (data : List Byte) :
    s.barWrite c fn bar o data = s.physWrite (pcieMaster c (fnDom fn)) a data := by
  simp only [State.barWrite, h]

theorem State.barRead_of_window {d x : Nat} (h : s.barPlace fn bar o = .window d x) (n : Nat) :
    s.barRead c fn bar o n = s.pcieRead c (pcieMaster c (fnDom fn)) (windowBase d + x) n := by
  simp only [State.barRead, h]

theorem State.barWrite_of_window {d x : Nat} (h : s.barPlace fn bar o = .window d x) (data : List Byte) :
    s.barWrite c fn bar o data = s.writeAt (pcieMaster c (fnDom fn)) (windowBase d + x) data.length (leNat data) := by
  simp only [State.barWrite, h]

theorem State.barRead_of_msix {k : Nat} (h : s.barPlace fn bar o = .msix k) (halign : k % 4 = 0) :
    s.barRead c fn bar o 4 = .next (s.complete c (some (slice (msixBytes (s.msixEnt (fnDom fn) (k / 16))) (k % 16) 4))) := by
  simp only [State.barRead, h, halign, true_or, and_self, if_true]

theorem State.barWrite_of_msix {k : Nat} (h : s.barPlace fn bar o = .msix k) (halign : k % 4 = 0) {data : List Byte} (hlen : data.length = 4) :
    s.barWrite c fn bar o data = .next (s.msixWrite (fnDom fn) k (leAt data 0 4)) := by
  simp only [State.barWrite, h, hlen, halign, Nat.reduceEqDiff, true_or, and_self, if_true, if_false]

theorem State.barRead_of_pba {k : Nat} (h : s.barPlace fn bar o = .pba k) (halign : k % 8 = 0) :
    s.barRead c fn bar o 8 = .next (s.complete c (some (slice (leBytes 8 (maskOf 64 (fun v => decide ((fnDom fn, v) ∈ s.irq.pba)))) k 8))) := by
  simp only [State.barRead, h, halign, or_true, and_self, if_true]

/-- The PBA takes no write (R303). -/
theorem State.barWrite_of_pba {k : Nat} (h : s.barPlace fn bar o = .pba k) (data : List Byte) : s.barWrite c fn bar o data = .next s := by
  simp only [State.barWrite, h]

end

/-! The request at its controller (R401 to R403). -/

section
variable {s : State} {c : Nat} (hd : s.hasDie c = true) (hc : c < 2)
include hd hc

/-- DIE_0 and DIE_1, where the part has them, hold a controller. -/
theorem State.pcieController_there : ¬ (¬ s.hasDie c = true ∨ 2 ≤ c) := not_or.mpr ⟨not_not_intro hd, Nat.not_le.mpr hc⟩

variable (hup : s.pcieUp c = true)
include hup

theorem exec_pcieAtomic_unsupported : exec (.pcieInboundRequest c .atomic) s = .next (s.complete c none) :=
  (if_neg (State.pcieController_there hd hc)).trans (if_neg (not_not_intro hup))

section
variable (hend : s.pcieRoot c = false) {fn : Nat} (hshown : s.presented c fn = true)
include hend hshown

theorem exec_barRead_presented (bar o n : Nat) : exec (.pcieInboundRequest c (.barRead fn bar o n)) s = s.barRead c fn bar o n :=
  (if_neg (State.pcieController_there hd hc)).trans ((if_neg (not_not_intro hup)).trans (if_pos ⟨ne_true_of_eq_false hend, hshown⟩))

theorem exec_barWrite_presented (bar o : Nat) (data : List Byte) : exec (.pcieInboundRequest c (.barWrite fn bar o data)) s = s.barWrite c fn bar o data :=
  (if_neg (State.pcieController_there hd hc)).trans ((if_neg (not_not_intro hup)).trans (if_pos ⟨ne_true_of_eq_false hend, hshown⟩))

end

section
variable (hroot : s.pcieRoot c = true) {b : Nat}
include hroot

theorem exec_busRead_inbound {a : Nat} (hwindow : s.inbound c b = some a) (n : Nat) :
    exec (.pcieInboundRequest c (.busRead b n)) s = s.physRead c (pcieMaster c 0) a n := by
  change execPcieInboundRequest c (.busRead b n) s = _
  simp only [execPcieInboundRequest, hd, Nat.not_le.mpr hc, hup, hroot, hwindow, not_true_eq_false, or_self, if_false, if_true]

theorem exec_busWrite_inbound {a : Nat} (hwindow : s.inbound c b = some a) (data : List Byte) :
    exec (.pcieInboundRequest c (.busWrite b data)) s = s.physWrite (pcieMaster c 0) a data := by
  change execPcieInboundRequest c (.busWrite b data) s = _
  simp only [execPcieInboundRequest, hd, Nat.not_le.mpr hc, hup, hroot, hwindow, not_true_eq_false, or_self, if_false, if_true]

/-- A bus address that lies in no inbound window is not supported; a posted write to it is dropped (R402). -/
theorem exec_bus_outside (hnone : s.inbound c b = none) (n : Nat) (data : List Byte) :
    exec (.pcieInboundRequest c (.busRead b n)) s = .next (s.complete c none) ∧ exec (.pcieInboundRequest c (.busWrite b data)) s = .next s := by
  change execPcieInboundRequest c (.busRead b n) s = _ ∧ execPcieInboundRequest c (.busWrite b data) s = _
  simp only [execPcieInboundRequest, hd, Nat.not_le.mpr hc, hup, hroot, hnone, not_true_eq_false, or_self, if_false, if_true, and_self]

end

end

/-- Settles O32: by the form of the request, then by the place it leads to. -/
theorem pcieInboundRequestCompletes : Obligations.PcieInboundRequestCompletes := by
  intro s c hd hc hup
  refine ⟨exec_pcieAtomic_unsupported hd hc hup, fun fn bar o hend hshown => ?_, fun b a hroot hwindow hmem => ?_,
    fun b n data hroot hnone => exec_bus_outside hd hc hup hroot hnone n data⟩
  · have hread := exec_barRead_presented hd hc hup hend hshown bar o
    have hwrite := exec_barWrite_presented hd hc hup hend hshown bar o
    refine ⟨fun a hplace hmem => ⟨fun n hsome hreach hclean => ?_, fun data hsome hreach => ?_⟩,
      fun d x off blk q hplace hdecode hsize hplain hreach hblk => ⟨fun hfree => ?_, fun data hlen => ?_⟩,
      fun k hplace halign => ⟨?_, fun data hlen => ?_⟩, fun k hplace halign => ⟨?_, fun data => ?_⟩⟩
    · rw [hread, State.barRead_of_phys hplace, State.physRead_of_memory hmem hsome hreach hclean]
    · rw [hwrite, State.barWrite_of_phys hplace, State.physWrite_of_memory hmem hsome hreach]
    · rw [hread, State.barRead_of_window hplace, State.pcieRead_of_register hdecode hsize hreach hplain hblk hfree]
    · rw [hwrite, State.barWrite_of_window hplace, hlen, State.writeAt_of_register hdecode hsize hreach hplain]
    · rw [hread, State.barRead_of_msix hplace halign]
    · rw [hwrite, State.barWrite_of_msix hplace halign hlen]
    · rw [hread, State.barRead_of_pba hplace halign]
    · rw [hwrite, State.barWrite_of_pba hplace]
  · refine ⟨fun n hsome hreach hclean => ?_, fun data hsome hreach => ?_⟩
    · rw [exec_busRead_inbound hd hc hup hroot hwindow, State.physRead_of_memory hmem hsome hreach hclean]
    · rw [exec_busWrite_inbound hd hc hup hroot hwindow, State.physWrite_of_memory hmem hsome hreach]

end Sys2Proof.Machine
end

section
/-!
SUPPORT and PROOFS. A step of the machine: the command at the front of the queue, the idle cycle in which writes in progress complete, and the state of reset
(03_clocks.md, 04_reset_and_options.md).
-/
namespace Sys2Proof.Machine

/-- Settles O38: `step` looks at the queue alone to choose the row. -/
theorem stepRunsFront : Obligations.StepRunsFront := fun _ _ _ => rfl

/-! What an idle cycle brings to its end (R84, R485; notes/assumptions/8, 110). -/

section
variable (s : State)

/-- Once its write is done, no write of the option store is in progress (R84). -/
theorem State.optDone_optWrite : s.optDone.boot.optWrite = none := by
  unfold State.optDone
  split
  next hnone => exact hnone
  next w hwrite =>
    have hboot : ∀ t : State, (t.answer w.req 0x0833 .ok (leBytes 4 w.seq)).boot = t.boot := fun t =>
      boot_of_mask (t.answer_mask _ _ _ _ (Nat.and_self _)) rfl
    have hflash : ∀ (t : State) a l, (t.putFlash a l).boot = t.boot := fun t a l => boot_of_mask (K := 0x40) (t.putFlash_mask a l rfl) rfl
    rw [hboot, hflash]

theorem State.blow_fusing (d : Nat) (f : FuseBit) : (State.blow d s f).sec.fusing = s.sec.fusing := by
  unfold State.blow
  split
  · rfl
  · cases f <;> rfl

/-- Programming a word of fuses leaves what waits to be programmed. -/
theorem State.programWord_getD_fusing (d w value mask : Nat) : ((s.programWord d w value mask).getD s).sec.fusing = s.sec.fusing := by
  unfold State.programWord
  simp only
  split
  · rfl
  split
  · rfl
  · exact foldl_keeps (fun t : State => t.sec.fusing) (fun t (e : FuseBit × Nat) => State.blow_fusing t d e.1) _ s

/-- After the fuses in progress no programming is in progress (R485). -/
theorem State.fusesDone_fusing : s.fusesDone.sec.fusing = [] :=
  foldl_keeps (fun t : State => t.sec.fusing)
    (g := fun t (e : Nat × Nat × Nat) => ((t.programWord e.1 e.2.1 e.2.2 e.2.2).getD t).setFld e.1 .SEC_FUSE_CTRL_ACTIVE 0 0)
    (fun t e => (rfl : _ = ((t.programWord e.1 e.2.1 e.2.2 e.2.2).getD t).sec.fusing).trans (t.programWord_getD_fusing ..))
    s.sec.fusing { s with sec.fusing := [] }

end

/-- Settles O39: the queue is none of what an idle cycle changes, and its two ends leave nothing in progress. -/
theorem idleStepTicks : Obligations.IdleStepTicks := by
  intro s hempty
  have hboot : s.idle.boot = s.tick.optDone.boot := boot_of_mask (s.tick.optDone.fusesDone_mask (Nat.and_self _)) rfl
  refine ⟨?_, ?_, ?_, State.fusesDone_fusing _⟩
  · rw [step, hempty]
  · exact (pending_of_mask (s.idle_mask (Nat.and_self _)) rfl).trans hempty
  · rw [hboot]
    exact s.tick.optDone_optWrite

/-- Settles O40: at reset both memories are empty, so they are in canonical form. -/
theorem resetIsCanonical : Obligations.ResetIsCanonical := ⟨canonical_parts.mpr ⟨rfl, rfl⟩, rfl, rfl, rfl⟩

end Sys2Proof.Machine
end

section
/-!
SUPPORT and PROOFS. The frame of every row: the components of the state that it leaves alone, and the register fields of the pads, which their fuse codes
change (05_registers_and_address_map.md, opcode_table.json).
-/
namespace Sys2Proof.Machine

/-! The mask of a row: every register field, and the components that its entry names. -/

/-- The bits of some components in a mask. -/
def partsMask (l : List Component) : Nat := l.foldl (fun a p => a ||| 1 <<< p.maskBit) 0

/-- The bits of all register fields in a mask. -/
abbrev allFieldsMask : Nat := memMask >>> 33 <<< 33

/-- What a row may change, as a mask. -/
abbrev rowMask (i : Instr) : Nat := allFieldsMask ||| partsMask (rowParts i)

/-- The bit of a component names it. -/
theorem Component.maskBit_inj {p q : Component} (h : p.maskBit = q.maskBit) : p = q := by
  have named : ∀ x : Component, Component.ofNat (x.maskBit - if x.maskBit < 5 then 2 else 3) = x := by
    intro x
    cases x <;> rfl
  rw [← named p, ← named q, h]

/-- The part number and the queue have the bits below those of the components, the register fields those above. -/
theorem Component.maskBit_range (p : Component) : 2 ≤ p.maskBit ∧ p.maskBit < 33 := by
  cases p <;> decide

theorem partsMask_bit (l : List Component) (n : Nat) (h : ∀ p ∈ l, p.maskBit ≠ n) : (partsMask l).testBit n = false := by
  refine List.foldlRecOn (motive := fun a : Nat => a.testBit n = false) l _ (Nat.zero_testBit n) fun a ha p hp => ?_
  simp [Nat.testBit_or, ha, Nat.shiftLeft_eq, h p hp]

theorem rowMask_bit {i : Instr} {n : Nat} (hlow : n < 33) (h : ∀ p ∈ rowParts i, p.maskBit ≠ n) : (rowMask i).testBit n = false := by
  rw [Nat.testBit_or, partsMask_bit _ _ h, Bool.or_false, Nat.testBit_shiftLeft]
  simp [hlow]

theorem rowMask_component {i : Instr} {p : Component} (h : p ∉ rowParts i) : (rowMask i).testBit p.maskBit = false :=
  rowMask_bit p.maskBit_range.2 fun _ hq heq => h (Component.maskBit_inj heq ▸ hq)

/-- A row keeps what its mask does not name: by the mask of its own operation. -/
theorem exec_kept (i : Instr) (s : State) : Kept (rowMask i) s (exec i s) := by
  cases i
  all_goals
    simp only [exec, rowMask, rowParts, serviceParts, faultParts, answerParts, engineParts, endParts]
    simp (disch := decide)

/-- Settles O43: by the mask of the row. -/
theorem rowsKeepParts : Obligations.RowsKeepParts := by
  unfold Obligations.RowsKeepParts
  intro i s t hrun
  have kept : t.mask (rowMask i) = s.mask (rowMask i) := exec_kept i s t hrun
  have same : ∀ p, p ∉ rowParts i → p.same s t := fun p hp => part_of_mask kept p (rowMask_component hp)
  have neither : ∀ n < 2, (rowMask i).testBit n = false := fun n hn =>
    rowMask_bit (by omega) fun p _ => by
      have := p.maskBit_range
      omega
  refine ⟨part_of_mask0 kept (neither 0 (by decide)), pending_of_mask kept (neither 1 (by decide)), same, fun hmem a => ?_, fun hflash a => ?_⟩
  · have memory : t.mem = s.mem := same .memory hmem
    rw [State.byte, memory, State.byte]
  · have flash : t.flash = s.flash := same .flash hflash
    rw [State.flashByte, flash, State.flashByte]

/-! The end of the trim load applies the fuse codes of the pads (R31, R32, R66), which PINCFG.OE and PINCFG.PULL read at reset. -/

/-- DIE_0 loads its trims, and its pads have not taken their fuse codes. -/
def trimLoading : State := { State.reset with boot.loading := [0] }

theorem trimLoadEnd_pull : ∃ t, exec (.trimLoadEnd 0 false []) trimLoading = .next t ∧ t.fld 0 .PINCFG_PULL 152 = 1 := ⟨_, rfl, by decide⟩

/-- Refutes O42: the end of the trim load of DIE_0 applies the fuse codes of its pads, so that PINCFG.PULL of pin 152, never written, reads 1 where it read 0; the entry
of the row names no field of PINCFG. -/
theorem not_rowsKeepRegisters : ¬ Obligations.RowsKeepRegisters := by
  unfold Obligations.RowsKeepRegisters
  intro keeps
  obtain ⟨t, hrun, after⟩ := trimLoadEnd_pull
  have before : trimLoading.fld 0 .PINCFG_PULL 152 = 0 := by decide
  have kept : t.fld 0 .PINCFG_PULL 152 = trimLoading.fld 0 .PINCFG_PULL 152 := keeps _ _ t hrun .PINCFG_PULL (by decide) 0 152
  omega

end Sys2Proof.Machine
end

section
/-!
SUPPORT and PROOFS. Raster commands and shading batches, what they write in memory, and the messages of the Stook (R319 to R333, R343, 15_raster_and_display.md).
-/
namespace Sys2Proof.Machine

/-! Raster commands in their contexts (R325, R326, R330). -/

section
variable {s : State} {d ctx op : Nat} {p : Placed}

/-- The command that stands in a context, of the row's opcode and not yet run, runs. -/
theorem State.runRaster_of_standing (hd : s.hasDie d = true) (hctx : ctx < 2) (hp : s.placed d (.raster ctx) = some p) (hran : p.ran = false)
    (htrip : s.tripped d = false) (hop : descOp p.desc = op) (go : State → Placed → State) : s.runRaster d ctx op go = .next (go s p) := by
  have hctx' : ¬ 2 ≤ ctx := Nat.not_le.mpr hctx
  simp only [State.runRaster, hd, hctx', hp, hran, htrip, hop, not_true_eq_false, Bool.false_eq_true, or_self, if_false, if_true]

section
variable (s d p)

/-- VE_CYCLES of the programs of a pass: the vertex and the fragment program of each of its draws (R319). -/
def State.passCycles : List Nat := (s.passOf d p).draws.flatMap (fun x => [leAt x.vs 4 2, leAt x.fs 4 2])

/-- The cycles that the next shading batch takes; which program it is of is free (R319). -/
def State.batchCycles : Nat := (s.passCycles d p).getD (s.fresh.1 % (s.passCycles d p).length) 0

/-- The time of a shading batch counts as used time of its silo (R319). -/
def State.batchTaken : State :=
  let time := ceilDiv (s.batchCycles d p * 1000 * max 1 (s.fld d .CLK_DIV_CURRENT 3)) (max 1 (srcMHz (s.fld d .CLK_DIV_SRC 3)))
  let x := s.silo d p.silo
  s.fresh.2.setSilo d p.silo { x with used := x.used + time }

theorem State.batchTaken_used : ((s.batchTaken d p).silo d p.silo).used = (s.silo d p.silo).used +
    ceilDiv (s.batchCycles d p * 1000 * max 1 (s.fld d .CLK_DIV_CURRENT 3)) (max 1 (srcMHz (s.fld d .CLK_DIV_SRC 3))) := by
  simp [State.batchTaken, State.setSilo, State.silo]

/-- A pass that draws has programs, so a batch is of one of them. -/
theorem State.batchCycles_mem (hdraws : (s.passOf d p).draws ≠ []) : s.batchCycles d p ∈ s.passCycles d p := by
  obtain ⟨x, xs, hx⟩ := List.exists_cons_of_ne_nil hdraws
  have below : s.fresh.1 % (s.passCycles d p).length < (s.passCycles d p).length := Nat.mod_lt _ (by simp [State.passCycles, hx])
  rw [State.batchCycles, List.getD_eq_getElem _ _ below]
  exact List.getElem_mem below

end

theorem State.render_of_checked (hcode : s.renderCode d p (s.passOf d p) = 0) :
    ∃ u : State, State.render d ctx s p = u.rasterRan d ctx p (s.renderRun d ctx p) (s.renderBeside d p s.fresh.1 (s.renderFlushes d ctx p)) :=
  ⟨_, if_neg (not_not_intro hcode)⟩

section
variable (hd : s.hasDie d = true) (hctx : ctx < 2) (hp : s.placed d (.raster ctx) = some p) (hran : p.ran = false) (htrip : s.tripped d = false)
include hd hctx hp hran htrip

theorem exec_render_rasterRan (hop : descOp p.desc = 1) (hcode : s.renderCode d p (s.passOf d p) = 0) : ∃ u : State, exec (.render d ctx) s =
    .next (u.rasterRan d ctx p (s.renderRun d ctx p) (s.renderBeside d p s.fresh.1 (s.renderFlushes d ctx p))) := by
  obtain ⟨u, hu⟩ := State.render_of_checked (ctx := ctx) hcode
  exact ⟨u, (State.runRaster_of_standing hd hctx hp hran htrip hop _).trans (congrArg Host.Outcome.next hu)⟩

theorem exec_fastClear_rasterRan (hop : descOp p.desc = 2) : exec (.fastClear d ctx) s = .next (s.rasterRan d ctx p (s.fastClearJob d p) []) :=
  State.runRaster_of_standing hd hctx hp hran htrip hop (fun s p => s.rasterRan d ctx p (s.fastClearJob d p) [])

theorem exec_expand_rasterRan (hop : descOp p.desc = 3) : exec (.expand d ctx) s = .next (s.rasterRan d ctx p (s.expandJob d p) []) :=
  State.runRaster_of_standing hd hctx hp hran htrip hop (fun s p => s.rasterRan d ctx p (s.expandJob d p) [])

/-- A batch of a pass that draws takes the VE slot of a core for the cycles of one of the pass's programs (R319). -/
theorem exec_shadingBatch_addSat {core : Nat} (hcore : core < 48) (hop : descOp p.desc = 1) (hdraws : (s.passOf d p).draws ≠ [])
    (hfree : ∀ e ∈ s.slotsOf d, ∀ x, e.1 = .core core x → x ≠ .ve ∧ descFused e.2.desc = false) (hserves : s.coreServes d p.silo p.cls core = true)
    (hpace : s.throttled d p.silo p.cls core = false) (htest : s.fld d .GLN_CORE_TESTING core ≠ 1) (hcode : s.renderCode d p (s.passOf d p) = 0) :
    exec (.shadingBatch d core ctx) s = .next ((s.batchTaken d p).addSat d .VE_ACTIVE_CYCLES core (s.batchCycles d p)) := by
  have placed : ¬ (s.hasDie d ≠ true ∨ 48 ≤ core ∨ 2 ≤ ctx) := by simp [hd, hcore, hctx]
  change execShadingBatch d core ctx s = _
  simp only [execShadingBatch, if_neg placed, hp, hran, htrip, hop, hserves, hpace, htest, hcode, hdraws,
    not_true_eq_false, ne_eq, Bool.false_eq_true, false_or, or_false]
  refine (if_neg (Bool.eq_false_iff.mp (List.any_eq_false.mpr fun e he => ?_))).trans rfl
  cases hslot : e.1 with
  | raster _ => simp
  | core c x =>
    by_cases hc : c = core
    · obtain ⟨hve, hfused⟩ := hfree e he x (hc ▸ hslot)
      simp [hve, hfused]
    · simp [hc]

end
end

/-! The place of the Stook and the raster query (R332, R343, R344). -/

section
variable {s : State} {r : Req} {d : Nat}

section
variable (s r) (op : Nat)

@[simp] theorem State.handling_stookPlace (loc mib a : Nat) : (s.handling r op).stookPlace loc mib a = s.stookPlace loc mib a := by
  simp only [State.stookPlace, State.bufDie, State.handling_bufOf, State.handling_memy, State.handling_fld, State.handling_part] <;> rfl

@[simp] theorem State.handling_passInProgress (d : Nat) : (s.handling r op).passInProgress d = s.passInProgress d := by
  simp only [State.passInProgress, State.placed, State.handling_q]

@[simp] theorem State.handling_rasStatusImage (d : Nat) : (s.handling r op).rasStatusImage d = s.rasStatusImage d := by
  simp only [State.rasStatusImage, State.rasContexts, State.placed, State.handling_q, State.handling_fld]

@[simp] theorem State.handling_rasStookMib (d : Nat) : (s.handling r op).rasStookMib d = s.rasStookMib d := by
  simp only [State.rasStookMib, State.handling_fld]

end

section
variable (hs : Serves s r 0x0600 (some d)) (hd : s.hasDie d = true) (hmanager : s.manager r.dom = true) (hidle : s.passInProgress d = false) {mib a : Nat}
include hs hd hmanager hidle

theorem exec_rasStookSet_loft (hplace : s.stookPlace 0 mib a = true) :
    exec (.rasStookSet r d 0 mib a) s = .next (s.replies r 0x0600 (some d) (fun t => (t.setFld d .RAS_STOOK_LOC 0 0, []))) :=
  congrArg Host.Outcome.next (hs.replies (by simp [hd, hplace, hmanager, hidle]))

theorem exec_rasStookSet_buffer (hplace : s.stookPlace 1 mib a = true) :
    exec (.rasStookSet r d 1 mib a) s = .next (s.replies r 0x0600 (some d) (fun t =>
      (t.setFlds d 0 [(.RAS_STOOK_LOC, 1), (.RAS_STOOK_SIZE_MIB, mib), (.RAS_STOOK_ADDR_ADDR, a)], []))) :=
  congrArg Host.Outcome.next (hs.replies (by simp [hd, hplace, hmanager, hidle]))

end

theorem exec_rasQuery_replies (hs : Serves s r 0x0601 (some d)) (hd : s.hasDie d = true) :
    exec (.rasQuery r d) s = .next (s.replies r 0x0601 (some d) (fun t =>
      (t.setFld d .RAS_STOOK_PEAK_COUNT 0 0, leBytes 4 (s.rasStatusImage d) ++ leBytes 4 (s.rasStookMib d * 2 ^ 16 + s.fld d .RAS_STOOK_LOC 0) ++
        leBytes 4 (s.fld d .RAS_FLUSH_COUNT_COUNT 0) ++ leBytes 4 (s.fld d .RAS_STOOK_PEAK_COUNT 0)))) :=
  congrArg Host.Outcome.next (hs.replies (by simp [hd]))

end

/-- Settles O18, clause by clause. -/
theorem rasterRowsComplete : Obligations.RasterRowsComplete := fun _ =>
  ⟨fun _ _ _ hd hctx hp hran htrip => ⟨exec_render_rasterRan hd hctx hp hran htrip, fun hop _ => exec_fastClear_rasterRan hd hctx hp hran htrip hop,
      fun hop _ => exec_expand_rasterRan hd hctx hp hran htrip hop⟩,
    fun _ _ _ _ hd hcore hctx hp hran htrip hop hdraws hfree hserves hpace htest hcode => ⟨_, _, State.batchCycles_mem _ _ _ hdraws,
      exec_shadingBatch_addSat hd hctx hp hran htrip hcore hop hdraws hfree hserves hpace htest hcode, State.batchTaken_used ..⟩,
    fun _ _ _ _ hs hd hmanager hidle => ⟨exec_rasStookSet_loft hs hd hmanager hidle, exec_rasStookSet_buffer hs hd hmanager hidle⟩,
    fun _ _ => exec_rasQuery_replies⟩

/-! What a raster row writes (R320 to R330). -/

/-- The command that a raster row runs is the one in its context, and its run writes only what that command's job names. -/
theorem rasterRow_reads {i : Instr} {s t : State} {a : Nat} {v : Byte} {l : List (Nat × Nat)} (h : Reads a v s) (hl : rasterRowStores i s = some l)
    (ht : exec i s = .next t) (ha : inRanges l a = false) : Reads a v t := by
  cases i with
  | render d ctx =>
    cases hl
    refine State.runRaster_reads s d ctx 1 (State.render d ctx) t h (fun p hp => ?_) ht
    exact State.render_reads s d ctx p h (by simpa only [hp] using ha)
  | fastClear d ctx =>
    cases hl
    refine State.runRaster_reads s d ctx 2 (fun s p => s.rasterRan d ctx p (s.fastClearJob d p) []) t h (fun p hp => ?_) ht
    exact State.rasterRan_reads s s d ctx p _ _ h rfl (by simpa only [hp] using ha)
  | expand d ctx =>
    cases hl
    refine State.runRaster_reads s d ctx 3 (fun s p => s.rasterRan d ctx p (s.expandJob d p) []) t h (fun p hp => ?_) ht
    exact State.rasterRan_reads s s d ctx p _ _ h rfl (by simpa only [hp] using ha)
  | _ => cases hl

/-- Settles O45, row by row. -/
theorem rasterRowsStore : Obligations.RasterRowsStore := by
  unfold Obligations.RasterRowsStore
  intro i s t l a canonical hl ht ha
  have before : Reads a (s.byte a) s := ⟨canonical, rfl⟩
  exact (rasterRow_reads before hl ht ha).2

end Sys2Proof.Machine
end

section
/-!
SUPPORT and PROOFS. What happens to the time bases, triggers, captures and compare registers as time passes, and the register writes that set them
(R369 to R385, 17_time_bases.md).
-/
namespace Sys2Proof.Machine

/-- Other entries of a field than the one that is set keep their value. -/
theorem State.fld_setFlds_index (s : State) (l : List (Fld × Nat)) (d d' : Nat) (f : Fld) {i i' : Nat} (h : i' ≠ i) :
    (s.setFlds d i l).fld d' f i' = s.fld d' f i' := by
  induction l generalizing s with
  | nil => rfl
  | cons e l ih =>
    refine (ih (s.setFld d e.1 i e.2)).trans ?_
    by_cases hf : f = e.1
    · exact hf ▸ s.fld_setFld_index d d' e.1 e.2 h
    · exact s.fld_setFld_other d d' i i' e.2 hf

/-! A capture input (R377, R378). -/

section
variable (s : State) (d n : Nat) (rising : Bool)

/-- The level at the pin of a capture input, and OVERRUN where VALID is set (R378). -/
def State.captureLevel : State :=
  let t := s.setPad d (gpioPin n) rising
  if t.fld d .TSCAP_STATUS_VALID n = 1 then t.flag d .TSCAP_STATUS_OVERRUN n else t

/-- An edge that a capture input takes (R378). -/
def State.captureEdge : State :=
  let t := s.captureLevel d n rising
  t.setFlds d n [(.TSCAP_STAMP_TIME, t.tbNs (t.fld d .TSCAP_CFG_TB n)), (.TSCAP_STATUS_VALID, 1)]

variable {s d n rising}

theorem exec_tscapEdge_captureEdge (hd : s.hasDie d = true) (hn : n < 32) (hen : s.fld d .TSCAP_CFG_EN n = 1) (hfunc : s.fld d .PINCFG_FUNC (gpioPin n) = 2)
    (hedge : s.fld d .TSCAP_CFG_EDGE n = 2 ∨ s.fld d .TSCAP_CFG_EDGE n = if rising then 0 else 1) :
    exec (.tscapEdge d n rising) s = .next (s.captureEdge d n rising) :=
  (if_neg (by simp [hd, hn])).trans (if_pos ⟨hen, hfunc, hedge⟩)

theorem State.captureLevel_tbNs (k : Nat) : (s.captureLevel d n rising).tbNs k = s.tbNs k := by
  unfold State.captureLevel
  dsimp only
  split <;> rfl

theorem State.captureLevel_fld {f : Fld} (hf : f ≠ .TSCAP_STATUS_OVERRUN) (k : Nat) : (s.captureLevel d n rising).fld d f k = s.fld d f k := by
  unfold State.captureLevel
  dsimp only
  split
  · exact State.fld_setFld_other _ d d n k 1 hf
  · rfl

theorem State.captureLevel_index (f : Fld) {k : Nat} (hk : k ≠ n) : (s.captureLevel d n rising).fld d f k = s.fld d f k := by
  by_cases hf : f = .TSCAP_STATUS_OVERRUN
  · unfold State.captureLevel
    dsimp only
    split
    · exact hf ▸ State.fld_setFld_index _ d d _ 1 hk
    · rfl
  · exact State.captureLevel_fld hf k

theorem State.captureEdge_stamp : (s.captureEdge d n rising).fld d .TSCAP_STAMP_TIME n = s.tbNs (s.fld d .TSCAP_CFG_TB n) % 2 ^ 64 := by
  rw [State.captureEdge, State.fld_setFlds_mem _ (by simp) (List.mem_cons_self ..) d n, State.captureLevel_tbNs, State.captureLevel_fld (by decide)]
  rfl

theorem State.captureEdge_valid : (s.captureEdge d n rising).fld d .TSCAP_STATUS_VALID n = 1 :=
  State.fld_setFlds_mem (v := 1) _ (by simp) (by simp) d n

theorem State.captureEdge_overrun_of_valid (h : s.fld d .TSCAP_STATUS_VALID n = 1) : (s.captureEdge d n rising).fld d .TSCAP_STATUS_OVERRUN n = 1 := by
  have valid : (s.setPad d (gpioPin n) rising).fld d .TSCAP_STATUS_VALID n = 1 := h
  rw [State.captureEdge, State.fld_setFlds_notin _ (by simp), State.captureLevel, if_pos valid]
  exact State.fld_setFld_same ..

theorem State.captureEdge_overrun_of_invalid (h : s.fld d .TSCAP_STATUS_VALID n ≠ 1) :
    (s.captureEdge d n rising).fld d .TSCAP_STATUS_OVERRUN n = s.fld d .TSCAP_STATUS_OVERRUN n := by
  have invalid : ¬ (s.setPad d (gpioPin n) rising).fld d .TSCAP_STATUS_VALID n = 1 := h
  rw [State.captureEdge, State.fld_setFlds_notin _ (by simp), State.captureLevel, if_neg invalid]
  rfl

/-- The other capture inputs keep what they hold (R378). -/
theorem State.captureEdge_index (f : Fld) {k : Nat} (hk : k ≠ n) : (s.captureEdge d n rising).fld d f k = s.fld d f k :=
  (State.fld_setFlds_index _ _ d d f hk).trans (State.captureLevel_index f hk)

end

/-- Settles O50: the edge goes through, and each entry of the input and of the others reads back. -/
theorem captureKeepsLatestStamp : Obligations.CaptureKeepsLatestStamp := fun _ _ _ _ hd hn hen hfunc hedge =>
  ⟨_, exec_tscapEdge_captureEdge hd hn hen hfunc hedge, State.captureEdge_stamp, State.captureEdge_valid, State.captureEdge_overrun_of_valid,
    State.captureEdge_overrun_of_invalid, fun _ hk => ⟨State.captureEdge_index _ hk, State.captureEdge_index _ hk, State.captureEdge_index _ hk⟩⟩

/-! Triggers, pulses and compare registers as time passes (R372, R380, R382 to R384). -/

section
variable {s : State} {k n : Nat}

theorem exec_timeTriggerFire_fires {t : Nat} (hn : n < 32) (hnext : lookup? s.time.next n = some t) (hruns : s.tbRuns (s.fld 0 .TRG_CFG_SRC n) = true)
    (hdue : t ≤ s.tbNs (s.fld 0 .TRG_CFG_SRC n)) :
    exec (.timeTriggerFire n) s = .next ((s.fire n).setNext n (if s.fld 0 .TRG_CFG_MODE n = 2 then some (t + s.fld 0 .TRG_PERIOD_PERIOD n) else none)) := by
  change execTimeTriggerFire n s = _
  simp only [execTimeTriggerFire, if_neg (Nat.not_le.mpr hn), hnext, if_pos (And.intro hruns hdue)]

/-- A match sets MATCH and its interrupts and takes its arming away (R384). -/
def State.cmpMatched (s : State) (k : Nat) : State :=
  let t := s.flag 0 .CMP32_STATUS_MATCH k
  t.dieList.foldl (fun u d => u.pulse d (288 + k)) { t with time.armed := t.time.armed.filter (fun x => decide (x ≠ k)) }

theorem exec_cmp32Match_event (hk : k < 8) (hen : s.fld 0 .CMP32_CFG_EN k = 1) (harmed : k ∈ s.time.armed) (hreached : s.cmpReached k = true) :
    exec (.cmp32Match k) s = .next ((s.cmpMatched k).timeEvent .cmp32 ((s.cmpMatched k).holder 0xA 0 k) k []) :=
  (if_neg (Nat.not_le.mpr hk)).trans (if_pos ⟨hen, harmed, hreached⟩)

theorem State.cmpMatched_match : (s.cmpMatched k).fld 0 .CMP32_STATUS_MATCH k = 1 :=
  (foldl_keeps (fun t : State => t.fld 0 .CMP32_STATUS_MATCH k)
    (fun t d => fld_of_mask (t.pulse_mask d (288 + k) (Nat.and_self _)) rfl _ rfl (.inl rfl) 0 k) _ _).trans (State.fld_setFld_same s 0 .CMP32_STATUS_MATCH k 1)

theorem State.cmpMatched_unarmed : k ∉ (s.cmpMatched k).time.armed := by
  have armed : (s.cmpMatched k).time.armed = s.time.armed.filter (fun x => decide (x ≠ k)) :=
    foldl_keeps (fun t : State => t.time.armed) (fun t d => congrArg (·.armed) (time_of_mask (t.pulse_mask d (288 + k) (Nat.and_self _)) rfl)) _ _
  simp [armed]

end

/-! Register writes of the time bases, triggers and compare registers (R101, R369, R374, R376, R380, R384, R388, R389). -/

section
variable {s : State} {m : Master} {k n : Nat} {data : Word}

section
variable (hguard : s.guardOk m = true) (hmay : s.tbMay m k = true)
include hguard hmay

/-- A write that the guard and the claim of the time base let through takes its effect. -/
theorem State.tbWrite_accepted (off : Nat) (eff : State → State) : s.accepted.tbWrite m 0 off k eff = eff s.accepted := by
  have hmay' : s.accepted.tbMay m k = true := hmay
  rw [State.tbWrite, if_neg (by decide), State.guarded_ok ((s.accepted_guardOk m).trans hguard), if_pos hmay']

variable (hk : k < 8)
include hk

theorem exec_tbAdjWrite_adjSet (hw : WritesNow s m 0 .TIMEBASE (0x108 + 0x40 * k)) (hsrc : s.fld 0 .TB_CFG_SRC k = 0)
    (hlimit : (toSigned 32 data.toNat).natAbs ≤ 549755814) : exec (.tbAdjWrite m k data) s = .next (s.accepted.adjSet k data.toNat) := by
  have inRange : ¬ (s.accepted.fld 0 .TB_CFG_SRC k ≠ 0 ∨ (toSigned 32 data.toNat).natAbs > 549755814) := fun h =>
    h.elim (absurd hsrc) (Nat.not_lt.mpr hlimit)
  refine (if_pos hk).trans (congrArg Host.Outcome.next ((hw.eq data _).trans ?_))
  exact (State.tbWrite_accepted hguard hmay _ _).trans (if_neg inRange)

theorem exec_tbOffsetHiWrite_offset (hw : WritesNow s m 0 .TIMEBASE (0x12C + 0x40 * k)) (hsrc : s.fld 0 .TB_CFG_SRC k = 1) :
    exec (.tbOffsetHiWrite m k data) s =
      .next ((s.accepted.dropLow 0 .TB_OFFSET_LO k).offset k (toSigned 64 (s.pairLow 0 .TB_OFFSET_LO k 0 + data.toNat * 2 ^ 32) * (nsUnit : Nat))).1 := by
  have src : (s.accepted.dropLow 0 .TB_OFFSET_LO k).fld 0 .TB_CFG_SRC k = 1 := hsrc
  refine (if_pos hk).trans (congrArg Host.Outcome.next ((hw.eq data _).trans ?_))
  exact (State.tbWrite_accepted hguard hmay _ _).trans (if_neg (not_not_intro src))

theorem exec_tbSetnsecWrite_step (hw : WritesNow s m 0 .TIMEBASE (0x138 + 0x40 * k)) (hsec : s.fld 0 .TB_SETSEC_SEC k < 2 ^ 34)
    (hnsec : data.toNat % 2 ^ 30 < 1000000000) : exec (.tbSetnsecWrite m k data) s =
      .next (s.accepted.tbStepTo k ((s.fld 0 .TB_SETSEC_SEC k * 1000000000 + data.toNat % 2 ^ 30) * nsUnit)) := by
  have inRange : ¬ (2 ^ 34 ≤ s.accepted.fld 0 .TB_SETSEC_SEC k ∨ 1000000000 ≤ data.toNat % 2 ^ 30) := fun h =>
    h.elim (Nat.not_le.mpr hsec) (Nat.not_le.mpr hnsec)
  refine (if_pos hk).trans (congrArg Host.Outcome.next ((hw.eq data _).trans ?_))
  exact (State.tbWrite_accepted hguard hmay _ _).trans (if_neg inRange)

end

section
variable (hfree : s.otherHolds m 9 0 n = false)
include hfree

theorem State.trgWrite_accepted (eff : State → State) : s.accepted.trgWrite m 0 n eff = eff s.accepted := by
  have hfree' : ¬ s.accepted.otherHolds m 9 0 n = true := ne_true_of_eq_false hfree
  rw [State.trgWrite, if_neg (by decide), if_neg hfree']

variable (hn : n < 32)
include hn

/-- The source of a trigger is a time base, or a channel under MODE 3 (R379, R389). -/
theorem exec_trgCfgWrite_arm (hw : WritesNow s m 0 .TIMEBASE (0x400 + 0x20 * n)) (hdir : bits data.toNat 26 25 ≠ 3) (hwidth : bits data.toNat 19 0 ≠ 0) :
    let mode := bits data.toNat 31 30
    let src := if mode = 3 then bits data.toNat 28 27 else bits data.toNat 29 27
    trgValid mode src (bits data.toNat 26 25) (bits data.toNat 19 0) (s.fld 0 .TRG_START_START n) (s.fld 0 .TRG_PERIOD_PERIOD n) = true →
    exec (.trgCfgWrite m n 0 data) s = .next ((s.accepted.setFlds 0 n [(.TRG_CFG_MODE, mode), (.TRG_CFG_SRC, src), (.TRG_CFG_DIR, bits data.toNat 26 25),
      (.TRG_CFG_PIN, bits data.toNat 24 24), (.TRG_CFG_CTRL, bits data.toNat 23 23), (.TRG_CFG_POL, bits data.toNat 22 22),
      (.TRG_CFG_WIDTH, bits data.toNat 19 0)]).trgArm n) := by
  intro mode src hvalid
  have hvalid' : trgValid mode src (bits data.toNat 26 25) (bits data.toNat 19 0) (s.accepted.fld 0 .TRG_START_START n)
    (s.accepted.fld 0 .TRG_PERIOD_PERIOD n) = true := hvalid
  refine (if_neg (Nat.not_le.mpr hn)).trans (congrArg Host.Outcome.next ((hw.eq data _).trans ?_))
  refine (State.trgWrite_accepted hfree _).trans ?_
  simp only [hdir, hwidth, if_false, or_self]
  exact if_neg (not_not_intro hvalid')

theorem exec_trgCfgWrite_holdLow (hw : WritesNow s m 0 .TIMEBASE (0x400 + 0x20 * n + 4)) :
    exec (.trgCfgWrite m n 4 data) s = .next (s.accepted.holdLow 0 .TRG_START_LO n data.toNat) :=
  (if_neg (Nat.not_le.mpr hn)).trans (congrArg Host.Outcome.next ((hw.eq data _).trans (State.trgWrite_accepted hfree _)))

end

theorem State.cmpWrite_accepted (hfree : s.otherHolds m 0xA 0 k = false) (eff : State → State) : s.accepted.cmpWrite m 0 k eff = eff s.accepted := by
  have hfree' : ¬ s.accepted.otherHolds m 0xA 0 k = true := ne_true_of_eq_false hfree
  rw [State.cmpWrite, if_neg (by decide), if_neg hfree']

theorem exec_cmp32NsecWrite_arm (hk : k < 8) (hw : WritesNow s m 0 .TIMEBASE (0x3008 + 0x10 * k)) (hfree : s.otherHolds m 0xA 0 k = false) :
    exec (.cmp32NsecWrite m k data) s = .next (s.accepted.cmpArm k data.toNat) :=
  (if_pos hk).trans (congrArg Host.Outcome.next ((hw.eq data _).trans (State.cmpWrite_accepted hfree _)))

end

/-- Settles O27, clause by clause. -/
theorem timeEventsComplete : Obligations.TimeEventsComplete := fun _ =>
  ⟨rfl, fun _ hk hruns hsrc => (if_pos hk).trans (congrArg Host.Outcome.next (if_pos ⟨hruns, hsrc⟩)), rfl, fun _ _ => exec_timeTriggerFire_fires,
    fun _ hn => if_pos hn, fun hen hruns => congrArg Host.Outcome.next (if_pos ⟨hen, hruns⟩),
    fun _ hk hen harmed hreached => ⟨_, State.cmpMatched_match, State.cmpMatched_unarmed, exec_cmp32Match_event hk hen harmed hreached⟩,
    fun _ _ _ hd hn hen hfunc hedge => ⟨_, exec_tscapEdge_captureEdge hd hn hen hfunc hedge, State.captureEdge_valid, State.captureEdge_overrun_of_valid⟩,
    fun _ _ _ hk hguard hmay => ⟨exec_tbAdjWrite_adjSet hguard hmay hk, exec_tbOffsetHiWrite_offset hguard hmay hk, exec_tbSetnsecWrite_step hguard hmay hk⟩,
    fun _ _ _ hn hfree => ⟨exec_trgCfgWrite_arm hfree hn, exec_trgCfgWrite_holdLow hfree hn⟩, fun _ _ _ => exec_cmp32NsecWrite_arm⟩

end Sys2Proof.Machine
end

section
/-!
SUPPORT and PROOFS. The messages of the time group (R369 to R388, 17_time_bases.md).
-/
namespace Sys2Proof.Machine

/-! The time bases while a request is handled. -/

section
variable (s : State) (r : Req) (op : Nat)

@[simp] theorem State.handling_tbNs (k : Nat) : (s.handling r op).tbNs k = s.tbNs k := by
  simp only [State.tbNs, State.handling_time]

@[simp] theorem State.handling_tbSec (k : Nat) : (s.handling r op).tbSec k = s.tbSec k := by
  simp only [State.tbSec, State.handling_tbNs]

@[simp] theorem State.handling_tbNsec (k : Nat) : (s.handling r op).tbNsec k = s.tbNsec k := by
  simp only [State.tbNsec, State.handling_tbNs]

@[simp] theorem State.handling_tbFrac (k : Nat) : (s.handling r op).tbFrac k = s.tbFrac k := by
  simp only [State.tbFrac, State.handling_time]

@[simp] theorem State.handling_tbRuns (k : Nat) : (s.handling r op).tbRuns k = s.tbRuns k := by
  simp only [State.tbRuns, State.handling_boot, State.handling_stepOf, State.handling_fld]

@[simp] theorem State.handling_stepFits (k : Nat) (theta : Int) : (s.handling r op).stepFits k theta = s.stepFits k theta := by
  rw [State.stepFits, State.stepFits, State.live, State.live, State.handling_time]

@[simp] theorem State.handling_tbSender (k : Nat) : (s.handling r op).tbSender r k = s.tbSender r k := by
  simp only [State.tbSender, State.handling_granted, State.handling_holder]

@[simp] theorem State.handling_sec32 (k v : Nat) : (s.handling r op).sec32 k v = s.sec32 k v := by
  simp only [State.sec32, State.handling_tbSec]

@[simp] theorem State.handling_timeIn (k v : Nat) : (s.handling r op).timeIn r k v = s.timeIn r k v := by
  simp only [State.timeIn, State.handling_major2, State.handling_sec32]

@[simp] theorem State.handling_trgImage (n : Nat) : (s.handling r op).trgImage n = s.trgImage n := by
  simp only [State.trgImage, State.handling_fld]

/-- An offset is refused only as a step beyond R370, of a time base that runs (R374). -/
theorem State.offset_refused (k : Nat) (theta : Int) : (s.offset k theta).2 =
    (decide (¬ (s.fld 0 .CLK_STATUS_TREF_HOLD = 1 ∨ ¬ s.tbRuns k = true) ∧ theta.natAbs > 1000000 * nsUnit) && !s.stepFits k theta) := by
  unfold State.offset
  split
  next held => exact (Bool.and_eq_false_imp.mpr fun h => absurd held (of_decide_eq_true h).1).symm
  next runs =>
    split
    next far =>
      split
      next fits => simp [fits]
      next beyond => rw [decide_eq_true ⟨runs, far⟩, eq_false_of_ne_true beyond, Bool.not_false, Bool.and_self]
    next near => simp [near]

@[simp] theorem State.handling_offset_refused (k : Nat) (theta : Int) : ((s.handling r op).offset k theta).2 = (s.offset k theta).2 := by
  simp only [State.offset_refused, State.handling_fld, State.handling_tbRuns, State.handling_stepFits]

end

/-! Time bases and PPS_OUT (R369 to R376, R383). -/

section
variable {s : State} {r : Req} {k : Nat}

theorem exec_tbQuery_replies (hs : Serves s r 0x0500 none) (hk : k < 8) : exec (.tbQuery r k) s = .next (s.replies r 0x0500 none (fun t => (t,
    leBytes 8 (if t.major2 r = true then s.tbSec k % 2 ^ 32 + s.tbNsec k * 2 ^ 32 else s.tbSec k) ++ leBytes 4 (s.tbNsec k) ++ leBytes 2 (s.tbFrac k) ++
      leBytes 1 (s.fld 0 .TB_CFG_EN k + 2 * s.fld 0 .TB_CFG_HOLDOVER k + 4 * s.fld 0 .TB_CFG_DEGRADED k) ++ leBytes 1 (s.fld 0 .TB_CFG_SRC k) ++
      leBytes 4 (s.fld 0 .TB_ADJ_ADJ k) ++ leBytes 4 (s.fld 0 .TB_INTEG_I k) ++ leBytes 4 (s.fld 0 .TB_LAST_OFF_THETA k) ++ leBytes 4 0))) :=
  congrArg Host.Outcome.next (hs.replies (by simp [hk]))

/-- What a TB_SET in range asks (R373): a source, its holdover time, EN 1 of TB_0, and ADJ within its limit under SRC 0 and 0 under the others. -/
theorem exec_tbSet_configures {c : TbCfg} (hs : Serves s r 0x0501 none) (htb : c.tb < 8) (hsrc : c.src ≤ 2) (hen : c.en ≤ 1) (hpos : 1 ≤ c.holdS)
    (hhold : c.holdS ≤ 255) (htb0 : c.tb = 0 → c.en = 1) (hfree : c.src = 0 → (toSigned 32 c.adj.toNat).natAbs ≤ 549755814)
    (hled : c.src ≠ 0 → toSigned 32 c.adj.toNat = 0) (hsender : s.tbSender r c.tb = true) :
    exec (.tbSet r c) s = .next (s.replies r 0x0501 none (fun t =>
      let u := t.setFlds 0 c.tb [(.TB_GAIN_KP, c.kp), (.TB_GAIN_KI, c.ki)]
      let v := (if c.src = 2 then u.setFld 0 .PPS_IN_DELAY_DELAY 0 c.ppsDelay.toNat else u).tbConfigure c.tb c.en c.src c.holdS
      (if c.src = 0 then v.adjSet c.tb c.adj.toNat else v, []))) := by
  have inRange : ¬ (8 ≤ c.tb ∨ 2 < c.src ∨ 1 < c.en ∨ c.holdS = 0 ∨ 255 < c.holdS ∨ (c.tb = 0 ∧ c.en = 0) ∨
      (c.src = 0 ∧ (toSigned 32 c.adj.toNat).natAbs > 549755814) ∨ (c.src ≠ 0 ∧ toSigned 32 c.adj.toNat ≠ 0)) := by
    rintro (h | h | h | h | h | ⟨h0, h⟩ | ⟨h0, h⟩ | ⟨h0, h⟩)
    · omega
    · omega
    · omega
    · omega
    · omega
    · exact absurd (htb0 h0) (by omega)
    · exact absurd (hfree h0) (Nat.not_le.mpr h)
    · exact h (hled h0)
  exact congrArg Host.Outcome.next (hs.replies (by simp only [if_neg inRange, State.handling_tbSender, hsender, not_true_eq_false, if_false]))

theorem exec_tbOffset_replies {theta : BitVec 64} (hs : Serves s r 0x0502 none) (hk : k < 8) (hsrc : s.fld 0 .TB_CFG_SRC k = 1)
    (hsender : s.tbSender r k = true) (htaken : (s.offset k (toSigned 64 theta.toNat * (nsUnit : Nat))).2 = false) :
    exec (.tbOffset r k theta) s = .next (s.replies r 0x0502 none (fun t => ((t.offset k (toSigned 64 theta.toNat * (nsUnit : Nat))).1, []))) :=
  congrArg Host.Outcome.next (hs.replies (by simp only [State.handling_fld, State.handling_tbSender, State.handling_offset_refused, hsrc, hsender, htaken,
    Nat.not_le.mpr hk, ne_eq, not_true_eq_false, or_self, Bool.false_eq_true, if_false]))

theorem exec_tbStep_native {sec nsec : Nat} (hs : Serves s r 0x0503 none) (hk : k < 8) (hmajor : s.major2 r = false) (hsec : sec < 2 ^ 34)
    (hnsec : nsec < 1000000000) (hsender : s.tbSender r k = true) :
    exec (.tbStep r k sec nsec) s = .next (s.replies r 0x0503 none (fun t => (t.tbStepTo k ((sec * 1000000000 + nsec) * nsUnit), []))) :=
  congrArg Host.Outcome.next (hs.replies (by simp only [State.handling_major2, State.handling_tbSender, hmajor, hsender, Nat.not_le.mpr hk,
    Nat.not_le.mpr hsec, Nat.not_le.mpr hnsec, Bool.false_eq_true, not_true_eq_false, or_self, if_false]))

/-- A session of major 2 carries nanoseconds above 32-bit seconds (R384). -/
theorem exec_tbStep_major2 {sec nsec : Nat} (hs : Serves s r 0x0503 none) (hk : k < 8) (hmajor : s.major2 r = true) (hsec : s.sec32 k (sec % 2 ^ 32) < 2 ^ 34)
    (hnsec : sec / 2 ^ 32 < 1000000000) (hsender : s.tbSender r k = true) : exec (.tbStep r k sec nsec) s = .next (s.replies r 0x0503 none (fun t =>
      (t.tbStepTo k ((s.sec32 k (sec % 2 ^ 32) * 1000000000 + sec / 2 ^ 32) * nsUnit), []))) :=
  congrArg Host.Outcome.next (hs.replies (by simp only [State.handling_major2, State.handling_tbSender, State.handling_sec32, hmajor, hsender,
    Nat.not_le.mpr hk, Nat.not_le.mpr hsec, Nat.not_le.mpr hnsec, not_true_eq_false, or_self, if_true, if_false]))

theorem exec_ppsOutSet_replies {tb en width : Nat} (hs : Serves s r 0x0504 none) (htb : tb < 8) (hen : en ≤ 1) (hwidth : width < 2 ^ 20)
    (hgranted : s.granted r.dom = true) : exec (.ppsOutSet r tb en width) s = .next (s.replies r 0x0504 none (fun t =>
      (t.setFlds 0 0 [(.PPS_OUT_CFG_EN, en), (.PPS_OUT_CFG_TB, tb), (.PPS_OUT_CFG_WIDTH, width)], []))) :=
  congrArg Host.Outcome.next (hs.replies (by simp only [State.handling_granted, hgranted, Nat.not_le.mpr htb, Nat.not_lt.mpr hen, Nat.not_le.mpr hwidth,
    not_true_eq_false, or_self, if_false]))

end

/-! Triggers, capture inputs and compare registers (R378 to R384). -/

section
variable {s : State} {r : Req} {n : Nat}

theorem exec_trgSet_arm {c : TrgCfg} {start : Nat} (hs : Serves s r 0x0510 none) (htrg : c.trg < 32) (hflags : c.flags < 8)
    (hstart : start = (if c.mode = 1 ∨ c.mode = 2 then s.timeIn r c.src c.start else c.start))
    (hvalid : trgValid c.mode c.src c.dir c.width start c.period = true) (hholder : s.holder 9 0 c.trg = r.dom) :
    exec (.trgSet r c) s = .next (s.replies r 0x0510 none (fun t => ((t.setFlds 0 c.trg [(.TRG_CFG_MODE, c.mode), (.TRG_CFG_SRC, c.src), (.TRG_CFG_DIR, c.dir),
      (.TRG_CFG_PIN, c.flags % 2), (.TRG_CFG_CTRL, c.flags / 2 % 2), (.TRG_CFG_POL, c.flags / 4 % 2), (.TRG_CFG_WIDTH, c.width), (.TRG_START_START, start),
      (.TRG_PERIOD_PERIOD, c.period)]).trgArm c.trg, []))) :=
  congrArg Host.Outcome.next (hs.replies (by simp only [State.handling_timeIn, State.handling_holder, ← hstart, hvalid, hholder, Nat.not_le.mpr htrg,
    Nat.not_le.mpr hflags, ne_eq, not_true_eq_false, or_self, if_false]))

theorem exec_trgQuery_replies (hs : Serves s r 0x0511 none) (hn : n < 32) :
    let mode := s.fld 0 .TRG_CFG_MODE n
    let start := s.fld 0 .TRG_START_START n
    exec (.trgQuery r n) s = .next (s.replies r 0x0511 none (fun t => (t, leBytes 4 (s.trgImage n) ++
      leBytes 8 (if mode = 1 ∨ mode = 2 then t.timeOut r start else start) ++ leBytes 4 (s.fld 0 .TRG_PERIOD_PERIOD n) ++ leBytes 8 (s.fld 0 .TRG_COUNT_COUNT n) ++
      leBytes 4 (s.fld 0 .TRG_MISSED_COUNT n) ++ leBytes 4 0))) :=
  congrArg Host.Outcome.next (hs.replies (by simp [hn]))

section
variable {d : Nat}

theorem exec_tscapSet_replies {en edge tb : Nat} (hs : Serves s r 0x0520 (some d)) (hd : s.hasDie d = true) (hn : n < 32) (hen : en ≤ 1) (hedge : edge ≤ 2)
    (htb : tb < 8) (hholder : s.holder 1 d (gpioPin n) = r.dom) : exec (.tscapSet r d n en edge tb) s = .next (s.replies r 0x0520 (some d) (fun t =>
      (t.setFlds d n [(.TSCAP_CFG_EN, en), (.TSCAP_CFG_EDGE, edge), (.TSCAP_CFG_TB, tb)], []))) :=
  congrArg Host.Outcome.next (hs.replies (by simp only [State.handling_hasDie, State.handling_holder, hd, hholder, Nat.not_le.mpr hn, Nat.not_lt.mpr hen,
    Nat.not_lt.mpr hedge, Nat.not_le.mpr htb, ne_eq, not_true_eq_false, or_self, if_false]))

theorem exec_tscapRead_replies (hs : Serves s r 0x0521 (some d)) (hd : s.hasDie d = true) (hn : n < 32) :
    exec (.tscapRead r d n) s = .next (s.replies r 0x0521 (some d) (fun t =>
      (t.setFlds d n [(.TSCAP_STATUS_VALID, 0), (.TSCAP_STATUS_OVERRUN, 0)], leBytes 8 (t.timeOut r (s.fld d .TSCAP_STAMP_TIME n)) ++
        leBytes 4 (s.fld d .TSCAP_STATUS_VALID n + 2 * s.fld d .TSCAP_STATUS_OVERRUN n) ++ leBytes 4 0))) :=
  congrArg Host.Outcome.next (hs.replies (by simp [hd, hn]))

end

theorem exec_cmp32Set_arm {k tb en sec nsec : Nat} (hs : Serves s r 0x0530 none) (hk : k < 8) (htb : tb < 8) (hen : en ≤ 1) (hnsec : nsec < 1000000000)
    (hholder : s.holder 0xA 0 k = r.dom) : exec (.cmp32Set r k tb en sec nsec) s = .next (s.replies r 0x0530 none (fun t =>
      ((t.setFlds 0 k [(.CMP32_CFG_EN, en), (.CMP32_CFG_TB, tb), (.CMP32_SEC_SEC, sec)]).cmpArm k nsec, []))) :=
  congrArg Host.Outcome.next (hs.replies (by simp only [State.handling_holder, hholder, Nat.not_le.mpr hk, Nat.not_le.mpr htb, Nat.not_lt.mpr hen,
    Nat.not_le.mpr hnsec, ne_eq, not_true_eq_false, or_self, if_false]))

end

/-- Settles O28, message by message. -/
theorem timeMessagesComplete : Obligations.TimeMessagesComplete := fun _ _ =>
  ⟨fun _ => exec_tbQuery_replies, fun _ => exec_tbSet_configures, fun _ _ => exec_tbOffset_replies, fun _ _ _ => exec_tbStep_native,
    fun _ _ _ => exec_tbStep_major2, fun _ _ _ => exec_ppsOutSet_replies, fun _ _ => exec_trgSet_arm, fun _ => exec_trgQuery_replies,
    fun _ _ _ _ _ => exec_tscapSet_replies, fun _ _ => exec_tscapRead_replies, fun _ _ _ _ _ => exec_cmp32Set_arm⟩

end Sys2Proof.Machine
end

section
/-!
SUPPORT and PROOFS. Edges of the odometry channels and tachometers, the 1 ms window, and their registers and messages (R360 to R366, 16_camera_and_odometry.md).
-/
namespace Sys2Proof.Machine

/-- The low bits of a two's complement number fit their width. -/
theorem ofSigned_mod (w : Nat) (x : Int) : ofSigned w x % 2 ^ w = ofSigned w x := by
  have bound : x % ((2 ^ w : Nat) : Int) < ((2 ^ w : Nat) : Int) := Int.emod_lt_of_pos x (by positivity)
  exact Nat.mod_eq_of_lt ((Int.toNat_lt' (Nat.two_pow_pos w)).mpr bound)

/-! Edges of an encoder channel (R360, R361, R363). -/

section
variable {s : State} {ch : Nat} {x y : Bool}

section
variable (s ch x y)

/-- The levels at the pins of a channel, which it accepted (R360). -/
def State.odoLevels : State :=
  ((s.setPad 0 (352 + 3 * ch) x).setPad 0 (353 + 3 * ch) y).setOdo ch { s.odoOf ch with levelA := x, levelB := y }

/-- The counts of an accepted step, as INVERT has them (R360, R361). -/
def State.odoDelta : Int :=
  let q := quadStep (s.odoOf ch).levelA (s.odoOf ch).levelB x y
  if s.fld 0 .ODO_CFG_INVERT ch = 1 then -q else q

/-- COUNT of a channel after an accepted step (R361). -/
def State.odoCounted : State :=
  (s.odoLevels ch x y).setFld 0 .ODO_COUNT_COUNT ch (ofSigned 64 (toSigned 64 (s.fld 0 .ODO_COUNT_COUNT ch) + s.odoDelta ch x y))

end

theorem State.odoCounted_count :
    (s.odoCounted ch x y).fld 0 .ODO_COUNT_COUNT ch = ofSigned 64 (toSigned 64 (s.fld 0 .ODO_COUNT_COUNT ch) + s.odoDelta ch x y) :=
  (State.fld_setFld_same ..).trans (ofSigned_mod 64 _)

theorem State.odoCounted_fallback : (s.odoCounted ch x y).fallback ch = s.fallback ch := by
  have others : ∀ f, f ≠ .ODO_COUNT_COUNT → ∀ i, (s.odoCounted ch x y).fld 0 f i = s.fld 0 f i := fun f hf i => State.fld_setFld_other _ 0 0 ch i _ hf
  rw [State.fallback, State.fallback, others .ODO_STATUS_SLIP (by decide), others .ODO_CFG_FALLBACK (by decide)]

variable (hch : ch < 4) (hen : s.fld 0 .ODO_CFG_EN ch ≠ 0)
include hch hen

theorem exec_odoEdgeAccept_counts (hstep : (s.odoOf ch).levelA = x ∨ (s.odoOf ch).levelB = y) : exec (.odoEdgeAccept ch x y) s =
    .next (if s.fallback ch = true then s.odoCounted ch x y else (s.odoCounted ch x y).distMove ch (s.odoDelta ch x y)) := by
  have legal : ¬ ((s.odoOf ch).levelA ≠ x ∧ (s.odoOf ch).levelB ≠ y) := fun h => hstep.elim h.1 h.2
  rw [← State.odoCounted_fallback (x := x) (y := y)]
  exact (if_neg (Nat.not_le.mpr hch)).trans ((if_neg hen).trans (if_neg legal))

/-- Both levels change at once: an illegal step (R360). -/
theorem exec_odoEdgeAccept_fault (ha : (s.odoOf ch).levelA ≠ x) (hb : (s.odoOf ch).levelB ≠ y) :
    exec (.odoEdgeAccept ch x y) s = .next (((s.odoLevels ch x y).addSat 0 .ODO_ERR_COUNT ch 1).odoFault ch) :=
  (if_neg (Nat.not_le.mpr hch)).trans ((if_neg hen).trans (if_pos ⟨ha, hb⟩))

/-- The first Z edge of a channel keeps its count (R361). -/
theorem exec_odoZEdge_first (hfirst : (s.odoOf ch).zCount = none) : ∃ t, exec (.odoZEdge ch) s = .next t ∧
    (t.odoOf ch).zCount = some (s.fld 0 .ODO_COUNT_COUNT ch) ∧ t.fld 0 .ODO_ZCOUNT_DIST ch = s.fld 0 .ODO_DIST_DIST ch % 2 ^ 64 := by
  refine ⟨((s.setFld 0 .ODO_ZCOUNT_DIST ch (s.fld 0 .ODO_DIST_DIST ch)).setFld 0 .ODO_STATUS_ZSEEN 0 (setBit (s.fld 0 .ODO_STATUS_ZSEEN) ch)).setOdo ch
    { s.odoOf ch with zCount := some (s.fld 0 .ODO_COUNT_COUNT ch) }, ?_, ?_, ?_⟩
  · change execOdoZEdge ch s = _
    simp only [execOdoZEdge, if_neg (Nat.not_le.mpr hch), if_neg hen, hfirst]
  · simp [State.odoOf, State.setOdo]
  · rw [State.setOdo_fld, State.fld_setFld_other _ _ _ _ _ _ (by decide)]
    exact State.fld_setFld_same ..

end

/-! Tachometers and the window (R361, R362). -/

section
variable {s : State} {k cycles : Nat}

section
variable (hk : k < 4) (hen : s.fld 0 .TACH_CFG_EN k ≠ 0)
include hk hen

theorem exec_tachEdge_seen (hseen : k ∈ s.tachSeen) : ∃ t, exec (.tachEdge k cycles) s = .next t ∧ t.fld 0 .TACH_PERIOD_CYCLES k = min cycles 0xFFFFFFFF ∧
    lookupD t.tachPulses k 0 = lookupD s.tachPulses k 0 + 1 := by
  have fits : min cycles 0xFFFFFFFF % 2 ^ 32 = min cycles 0xFFFFFFFF := Nat.mod_eq_of_lt (by omega)
  exact ⟨_, (if_neg (Nat.not_le.mpr hk)).trans ((if_neg hen).trans (if_pos hseen)), (State.fld_setFld_same ..).trans fits, lookupD_insertKV_same ..⟩

theorem exec_tachEdge_first (hfirst : k ∉ s.tachSeen) : ∃ t, exec (.tachEdge k cycles) s = .next t ∧ t.tachSeen = s.tachSeen ++ [k] :=
  ⟨_, (if_neg (Nat.not_le.mpr hk)).trans ((if_neg hen).trans (if_neg hfirst)), rfl⟩

end

section
variable (s)

/-- The pulses of each tachometer in the window that ends (R362). -/
def State.tachWindow : State :=
  { (List.range 4).foldl (fun (t : State) m => t.setFld 0 .TACH_PULSES_COUNT m (lookupD t.tachPulses m 0)) s with tachPulses := [] }

end

theorem State.tachWindow_pulses (hk : k < 4) : s.tachWindow.fld 0 .TACH_PULSES_COUNT k = lookupD s.tachPulses k 0 % 2 ^ Fld.width .TACH_PULSES_COUNT := by
  have unrolled : s.tachWindow.fld 0 .TACH_PULSES_COUNT k = ([0, 1, 2, 3].foldl (fun (t : State) m =>
    t.setFld 0 .TACH_PULSES_COUNT m (lookupD t.tachPulses m 0)) s).fld 0 .TACH_PULSES_COUNT k := rfl
  rw [unrolled]
  interval_cases k
  all_goals simp [State.fld_setFld_index]

end

/-! The preset of DIST and the messages (R363, R364, R366). -/

section
variable {s : State} {r : Req} {ch : Nat}

theorem State.odoWrite_accepted {m : Master} (hguard : s.guardOk m = true) (hfree : s.otherHolds m 6 0 ch = false) (off : Nat) (eff : State → State) :
    s.accepted.odoWrite m ch off eff = eff s.accepted := by
  have hfree' : ¬ s.accepted.otherHolds m 6 0 ch = true := ne_true_of_eq_false hfree
  rw [State.odoWrite, State.guarded_ok ((s.accepted_guardOk m).trans hguard), if_neg hfree']

variable (hch : ch < 4)
include hch

theorem exec_odoDistWrite_preset {m : Master} {data : Word} (hw : WritesNow s m 0 .ODO (0x11C + 0x40 * ch)) (hguard : s.guardOk m = true)
    (hfree : s.otherHolds m 6 0 ch = false) : exec (.odoDistWrite m ch data) s =
      .next ((s.accepted.distPreset ch (s.accepted.pairLow 0 .ODO_DIST_LO ch (s.fld 0 .ODO_DIST_DIST ch) + data.toNat * 2 ^ 32)).dropLow 0 .ODO_DIST_LO ch) :=
  (if_pos hch).trans (congrArg Host.Outcome.next ((hw.eq data _).trans (State.odoWrite_accepted hguard hfree _ _)))

theorem exec_odoSet_replies {cfg slip ratio : Word} (hs : Serves s r 0x0410 none) (hcfg : odoCfgOk ch cfg.toNat = true) (hholder : s.holder 6 0 ch = r.dom) :
    exec (.odoSet r ch cfg slip ratio) s = .next (s.replies r 0x0410 none (fun t =>
      (((t.odoCfgSet ch cfg.toNat).odoSlipSet ch slip.toNat).setFld 0 .ODO_RATIO_RATIO ch ratio.toNat, []))) :=
  congrArg Host.Outcome.next (hs.replies (by simp [hch, hcfg, hholder]))

theorem exec_odoPreset_replies {dist : BitVec 64} (hs : Serves s r 0x0411 none) (hholder : s.holder 6 0 ch = r.dom) :
    exec (.odoPreset r ch dist) s = .next (s.replies r 0x0411 none (fun t => (t.distPreset ch dist.toNat, []))) :=
  congrArg Host.Outcome.next (hs.replies (by simp [hch, hholder]))

theorem exec_odoQuery_replies (hs : Serves s r 0x0412 none) : exec (.odoQuery r ch) s = .next (s.replies r 0x0412 none (fun t => (t,
    leBytes 4 (s.odoCfgImage ch) ++ leBytes 4 (s.odoSlipImage ch) ++ leBytes 4 (s.fld 0 .ODO_RATIO_RATIO ch) ++ leBytes 4 (s.fld 0 .ODO_SPEED_SPEED ch) ++
      leBytes 8 (s.fld 0 .ODO_COUNT_COUNT ch) ++ leBytes 8 (s.fld 0 .ODO_DIST_DIST ch) ++ leBytes 8 (s.fld 0 .ODO_ZCOUNT_DIST ch) ++
      leBytes 4 (s.fld 0 .ODO_ERR_COUNT ch) ++ leBytes 4 s.odoStatusImage))) :=
  congrArg Host.Outcome.next (hs.replies (by simp [hch, State.odoCfgImage, State.odoSlipImage, State.odoStatusImage, State.blkBusy]))

omit hch in
theorem exec_tachSet_replies {k : Nat} {cfg : Word} (hs : Serves s r 0x0413 none) (hk : k < 4) (hdeb : debOk (bits cfg.toNat 9 0) = true)
    (hholder : s.holder 7 0 k = r.dom) : exec (.tachSet r k cfg) s = .next (s.replies r 0x0413 none (fun t => (t.tachSet k cfg.toNat, []))) :=
  congrArg Host.Outcome.next (hs.replies (by simp [hk, hdeb, hholder]))

end

/-- Settles O26, clause by clause. -/
theorem odometryRowsComplete : Obligations.OdometryRowsComplete := fun s =>
  ⟨fun _ _ _ hch hen hstep => ⟨_, State.odoCounted_count, State.odoCounted_fallback, exec_odoEdgeAccept_counts hch hen hstep⟩,
    fun _ _ _ hch hen ha hb => ⟨_, exec_odoEdgeAccept_fault hch hen ha hb⟩, fun _ => exec_odoZEdge_first,
    fun _ _ hk hen => ⟨exec_tachEdge_seen hk hen, exec_tachEdge_first hk hen⟩,
    ⟨s.tachWindow, rfl, fun _ => State.tachWindow_pulses, rfl⟩, fun _ _ _ hch => exec_odoDistWrite_preset hch,
    fun _ _ _ _ _ hs hch => exec_odoSet_replies hch hs, fun _ _ _ hs hch => exec_odoPreset_replies hch hs, fun _ _ hs hch => exec_odoQuery_replies hch hs,
    fun _ _ _ => exec_tachSet_replies⟩

end Sys2Proof.Machine
end

section
/-!
SUPPORT and PROOFS. Packets of the camera receivers and of GVSP, frames that complete, golden frames, and the registers and messages of the camera path
(R345 to R367, 16_camera_and_odometry.md).
-/
namespace Sys2Proof.Machine

/-- A row of a part that is there is not taken for one of a die or an index that is not. -/
theorem not_absent {s : State} {d i bound : Nat} (hd : s.hasDie d = true) (hi : i < bound) : ¬ (¬ s.hasDie d = true ∨ bound ≤ i) :=
  fun h => h.elim (absurd hd) (Nat.not_le.mpr hi)

/-! Packets of a receiver (R346, R352, R353, R364). -/

section
variable {s u : State} {d rx : Nat} {h : CsiHeader} (hd : s.hasDie d = true) (hrx : rx < 8) (hheader : s.csiHeader d rx h = (true, u))
include hd hrx hheader

section
variable (number : Nat)

theorem exec_csiShortPacket_start (hdt : h.dt = 0) :
    let isOpen := u.openOn d (rangeFrom (16 * rx) 16) (fun f => !f.gvsp && !f.lineScan && decide (f.channel = h.vc))
    let start := (u.csiStreams d rx h.vc).filter (fun n => decide (u.fld d .STR_CFG_LINESCAN n = 0))
    exec (.csiShortPacket d rx h number) s = .next (start.foldl (fun (t : State) n =>
      ((t.endFrame d n true).abortInjections d n).openFrame d n number (t.fld d .STR_CFG_DT n) 0) (isOpen.foldl (fun (t : State) n => t.endFrame d n true) u)) := by
  change execCsiShortPacket d rx h number s = _
  simp only [execCsiShortPacket, if_neg (not_absent hd hrx), hheader, hdt, not_true_eq_false, if_true, if_false]

theorem exec_csiShortPacket_end (hdt : h.dt = 1) :
    let isOpen := u.openOn d (rangeFrom (16 * rx) 16) (fun f => !f.gvsp && !f.lineScan && decide (f.channel = h.vc))
    exec (.csiShortPacket d rx h number) s = .next (isOpen.foldl (fun (t : State) n => t.endFrame d n false) u) := by
  change execCsiShortPacket d rx h number s = _
  simp only [execCsiShortPacket, if_neg (not_absent hd hrx), hheader, hdt, not_true_eq_false, Nat.one_ne_zero, if_true, if_false]

theorem exec_csiShortPacket_other (h0 : h.dt ≠ 0) (h1 : h.dt ≠ 1) : exec (.csiShortPacket d rx h number) s = .next u := by
  change execCsiShortPacket d rx h number s = _
  simp only [execCsiShortPacket, if_neg (not_absent hd hrx), hheader, if_neg h0, if_neg h1, not_true_eq_false, if_false]

end

section
variable (payload : List Byte) (ok : Bool)

theorem exec_csiLongPacket_line {n : Nat} {rest : List Nat}
    (hopen : u.openOn d (rangeFrom (16 * rx) 16) (fun f => !f.gvsp && decide (f.channel = h.vc) && decide (f.format = h.dt)) = n :: rest) :
    exec (.csiLongPacket d rx h payload ok) s = .next ((u.takeLine d n payload ok).tileEnds d n) := by
  change execCsiLongPacket d rx h payload ok s = _
  simp only [execCsiLongPacket, if_neg (not_absent hd hrx), hheader, hopen, not_true_eq_false, if_false]

variable (hopen : u.openOn d (rangeFrom (16 * rx) 16) (fun f => !f.gvsp && decide (f.channel = h.vc) && decide (f.format = h.dt)) = [])
include hopen

theorem exec_csiLongPacket_tile {n : Nat} (hfind : (u.csiStreams d rx h.vc).find? (fun n => decide (u.fld d .STR_CFG_DT n = h.dt)) = some n)
    (hscan : u.fld d .STR_CFG_LINESCAN n ≠ 0) (hnone : (u.stream d n).opened = none) :
    exec (.csiLongPacket d rx h payload ok) s = .next (((u.openFrame d n 0 h.dt 0).takeLine d n payload ok).tileEnds d n) := by
  change execCsiLongPacket d rx h payload ok s = _
  simp only [execCsiLongPacket, if_neg (not_absent hd hrx), hheader, hopen, hfind, hscan, hnone, not_true_eq_false, Option.isSome_none, Bool.false_eq_true,
    or_self, if_false]

theorem exec_csiLongPacket_unknown (hfind : (u.csiStreams d rx h.vc).find? (fun n => decide (u.fld d .STR_CFG_DT n = h.dt)) = none) :
    exec (.csiLongPacket d rx h payload ok) s = .next (u.addSat d .CSI_PKT_ERR_UNKNOWN rx 1) := by
  change execCsiLongPacket d rx h payload ok s = _
  simp only [execCsiLongPacket, if_neg (not_absent hd hrx), hheader, hopen, hfind, not_true_eq_false, if_false]

end

end

/-! Packets of GVSP (R348, R364). -/

section
variable {s : State} {d port : Nat} (hd : s.hasDie d = true)
include hd

theorem exec_gvspLeader_opens {b fmt w f n : Nat} (hformat : pfnc fmt = some f) (hw : w ≠ 0)
    (hfind : (List.range 128).find? (fun n => decide (s.fld d .STR_CFG_EN n = 1) && s.isGvsp d n && decide (s.fld d .STR_GOLD_UDP_PORT n = port)) = some n) :
    exec (.gvspPacket d port (.leader b fmt w)) s = .next (((((s.openOn d (List.range 128) (fun f => f.gvsp && decide (f.channel = port))).foldl
      (fun (t : State) n => t.endFrame d n true) s).endFrame d n true).abortInjections d n).openFrame d n b f w) := by
  change execGvspPacket d port (.leader b fmt w) s = _
  simp only [execGvspPacket, hd, hformat, hfind, hw, not_true_eq_false, if_false]

section
variable {b n : Nat} {f : CamFrame} (hopen : s.openOn d (List.range 128) (fun f => f.gvsp && decide (f.channel = port)) = [n])
  (hframe : (s.stream d n).opened = some f) (hnumber : f.number = b)
include hopen hframe hnumber

theorem exec_gvspPayload_placed (off : Nat) (bs : List Byte) : exec (.gvspPacket d port (.payload b off bs)) s = .next (s.gvspPayload d n off bs f) := by
  change execGvspPacket d port (.payload b off bs) s = _
  simp only [execGvspPacket, hd, hopen, hframe, hnumber, not_true_eq_false, List.foldl_cons, List.foldl_nil, if_true, if_false]

theorem exec_gvspTrailer_ends : exec (.gvspPacket d port (.trailer b)) s = .next (s.endFrame d n false) := by
  have block : s.openOn d [n] (fun f => decide (f.number = b)) = [n] := by simp [State.openOn, hframe, hnumber]
  change execGvspPacket d port (.trailer b) s = _
  simp only [execGvspPacket, hd, hopen, block, not_true_eq_false, List.foldl_cons, List.foldl_nil, if_false]

end

end

/-! Frames that complete, and golden frames (R149, R352 to R359). -/

section
variable {s t : State} {d n : Nat}

theorem State.stream_of_streams (h : t.streams = s.streams) (d n : Nat) : t.stream d n = s.stream d n := by
  rw [State.stream, State.stream, h]

@[simp] theorem State.stream_setStream_same (s : State) (d n : Nat) (c : CamStream) : (s.setStream d n c).stream d n = c := lookupD_insertKV_same ..

@[simp] theorem State.stream_setFlds (s : State) (d' i : Nat) (l : List (Fld × Nat)) (d n : Nat) : (s.setFlds d' i l).stream d n = s.stream d n := by
  induction l generalizing s with
  | nil => rfl
  | cons e l ih => exact ih (s.setFld d' e.1 i e.2)

theorem streams_ite {c : Prop} [Decidable c] {a b : State} {l : List ((Nat × Nat) × CamStream)} (ha : a.streams = l) (hb : b.streams = l) :
    (if c then a else b).streams = l := by
  split
  · exact ha
  · exact hb

/-! What counts a frame, its damage, its freeze and the safety source it is leaves the streams alone. -/

theorem State.source_streams (s : State) (e : Entry) (silos : List (Nat × Nat)) : (s.source e silos).streams = s.streams :=
  streams_of_mask (s.source_mask e silos (Nat.and_self _)) rfl

theorem State.countFrame_streams (s : State) (d n : Nat) (f : CamFrame) (crc flags : Nat) : (s.countFrame d n f crc flags).streams = s.streams :=
  streams_of_mask (s.countFrame_mask d n f crc flags (Nat.and_self _)) rfl

theorem State.camEvent_streams (s : State) (e : Ev) (d n count : Nat) : (s.camEvent e d n count).streams = s.streams :=
  streams_of_mask (s.camEvent_mask e d n count (Nat.and_self _)) rfl

theorem exec_frameComplete_occasion {f : CamFrame} {fs : List CamFrame} (hd : s.hasDie d = true) (hn : n < 128) (hended : (s.stream d n).ended = f :: fs) :
    ∃ u : State, (u.stream d n).ended = fs ∧ exec (.frameComplete d n) s = .next (u.occasion d n f) := by
  change ∃ u : State, _ ∧ execFrameComplete d n s = _
  rw [execFrameComplete, if_neg (not_absent hd hn)]
  extract_lets c
  have hc : c.ended = f :: fs := hended
  rw [hc]
  dsimp -zeta only
  extract_lets damaged crc number stale frozen flags s1 s2 s3 s4 silos s5
  have counted : s3.streams = s1.streams := streams_ite (State.countFrame_streams ..) (State.countFrame_streams ..)
  have marked : s4.streams = s3.streams := streams_ite (State.camEvent_streams ..) (streams_ite rfl rfl)
  have bound : s5.streams = s4.streams := streams_ite (State.source_streams ..) rfl
  refine ⟨s5, ?_, rfl⟩
  rw [State.stream_of_streams (bound.trans (marked.trans counted)), State.stream_setStream_same]

/-- An injection that is dropped is no longer open (R357). -/
theorem State.dropInjection_ends {g : Injection} (h : (s.stream d n).golden = some g) :
    ((s.dropInjection d n).stream d n).golden = none ∧ (s.dropInjection d n).fld d .STR_STATE_INJECTING n = 0 := by
  unfold State.dropInjection
  simp only [h]
  refine ⟨?_, State.fld_setFlds_mem (v := 0) _ (by simp) (List.mem_cons_self ..) d n⟩
  rw [State.stream_setFlds, State.stream_setStream_same]

/-- A golden copy ends with its frame counted, or with nothing where it met an uncorrectable error (R149, R358, R359). -/
theorem exec_goldenCopyEnd_ends {g : Injection} (hd : s.hasDie d = true) (hn : n < 128) (hgolden : (s.stream d n).golden = some g) :
    ∃ t, exec (.goldenCopyEnd d n) s = .next t ∧ (t.stream d n).golden = none ∧ t.fld d .STR_STATE_INJECTING n = 0 ∧
      (s.poisoned g.src g.len = none → (t.stream d n).since = 0) := by
  change ∃ t, execGoldenCopyEnd d n s = _ ∧ _
  simp only [execGoldenCopyEnd, if_neg (not_absent hd hn), hgolden]
  cases hpoison : s.poisoned g.src g.len with
  | some a =>
    have same : (s.readUe a (s.streamAgent d n)).streams = s.streams := streams_of_mask (State.readUe_mask _ _ _ (Nat.and_self _)) rfl
    obtain ⟨golden, injecting⟩ := State.dropInjection_ends (d := d) (n := n) ((congrArg CamStream.golden (State.stream_of_streams same d n)).trans hgolden)
    exact ⟨_, rfl, golden, injecting, fun h => nomatch h⟩
  | none =>
    refine ⟨_, rfl, ?_, State.fld_setFlds_mem (v := 0) _ (by simp) (List.mem_cons_self ..) d n, fun _ => ?_⟩
    · rw [State.stream_setFlds, State.stream_setStream_same]
    · rw [State.stream_setFlds, State.stream_setStream_same]

end

/-! Registers of a stream and of a receiver (R345, R357, R364, R367). -/

section
variable {s : State} {d n : Nat}

/-- An image in range, of a writer who may set GOLD_EN where it does, is taken as it is (R357, R367). -/
theorem State.strKeep_of_ok {off v : Nat} {classS : Bool} (hok : strOk off v = true) (hgold : off = 0 → classS = true ∨ bits v 28 28 = 0) :
    s.strKeep d n off v classS = v := by
  unfold State.strKeep
  dsimp only
  split
  · have gold : (classS || decide (bits v 28 28 = 0)) = true := by simpa using hgold rfl
    rw [if_pos hok, if_pos gold]
  · obtain ⟨hheight, hwidth⟩ := (Bool.and_eq_true _ _).mp hok
    rw [if_pos hheight, if_pos hwidth]
  · exact if_pos hok
  · exact if_pos hok
  · rfl

section
variable {m : Master} {off : Nat} {data : Word} (hd : s.hasDie d = true) (hn : n < 128) (hoff : off < 0x80)
  (hw : WritesNow s m d .CSI (0x10000 * (n / 16) + 0x1000 + 0x80 * (n % 16) + off)) (hfree : s.otherHolds m 4 d n = false)
  (hok : strOk off data.toNat = true)
include hd hn hoff hw

theorem exec_strCfgWrite_wrStr : exec (.strCfgWrite m d n off data) s = .next (wrStr m d n off data.toNat s.accepted) :=
  (if_neg (by simp [hd, hn, hoff])).trans (congrArg Host.Outcome.next (hw.eq data _))

include hfree hok

theorem exec_strCfgWrite_cfg (hzero : off = 0) (hgold : s.holdsClassS (writerOf m) = true ∨ bits data.toNat 28 28 = 0)
    (henable : s.strEnableOk d n data.toNat (s.fld d .STR_GOLD_UDP_PORT n) = true) :
    exec (.strCfgWrite m d n off data) s = .next (s.accepted.strCfgSet d n data.toNat) := by
  subst hzero
  have free : s.accepted.otherHolds m 4 d n = false := hfree
  have gold : s.accepted.holdsClassS (writerOf m) = true ∨ bits data.toNat 28 28 = 0 := hgold
  have enable : s.accepted.strEnableOk d n data.toNat (s.accepted.fld d .STR_GOLD_UDP_PORT n) = true := henable
  rw [exec_strCfgWrite_wrStr hd hn hoff hw, wrStr]
  simp [free, State.strKeep_of_ok hok (fun _ => gold), enable, hok, gold]

/-- The offsets of the addresses are those of their halves, which a holding register joins (R101). -/
theorem exec_strCfgWrite_other (hother : off ∉ [0, 0x18, 0x1C, 0x20, 0x24]) :
    exec (.strCfgWrite m d n off data) s = .next (s.accepted.strSet d n off data.toNat) := by
  have free : s.accepted.otherHolds m 4 d n = false := hfree
  simp only [List.mem_cons, List.not_mem_nil, or_false, not_or] at hother
  obtain ⟨h0, h18, h1C, h20, h24⟩ := hother
  have aligned : ¬ (off ∈ [0x10, 0x14, 0x18] ∧ data.toNat % 64 ≠ 0) := by
    rintro ⟨hmem, hodd⟩
    rcases List.mem_cons.mp hmem with rfl | hmem
    · exact hodd (of_decide_eq_true hok)
    rcases List.mem_cons.mp hmem with rfl | hmem
    · exact hodd (of_decide_eq_true hok)
    · exact h18 (List.mem_singleton.mp hmem)
  rw [exec_strCfgWrite_wrStr hd hn hoff hw, wrStr, if_neg (ne_true_of_eq_false free)]
  dsimp only
  rw [State.strKeep_of_ok hok (fun h => absurd h h0), if_neg (fun h => h.elim (fun h => h0 h.1) aligned), if_pos ⟨hok, .inl h0⟩]
  split
  · exact absurd rfl h0
  · exact absurd rfl h18
  · exact absurd rfl h1C
  · exact absurd rfl h20
  · exact absurd rfl h24
  · rfl

end

theorem exec_csiPhyLockChange_locks {rx : Nat} (hd : s.hasDie d = true) (hrx : rx < 8) (hmode : s.fld d .CSI_PHY_MODE rx ≠ 0)
    (hlock : s.fld d .CSI_STATUS_LOCK rx = 0) : exec (.csiPhyLockChange d rx true) s = .next (s.setFld d .CSI_STATUS_LOCK rx 1) := by
  change execCsiPhyLockChange d rx true s = _
  simp [execCsiPhyLockChange, hd, hrx, hmode, hlock, b2n]

theorem exec_csiPhyLockChange_loses {rx : Nat} (hd : s.hasDie d = true) (hrx : rx < 8) (hmode : s.fld d .CSI_PHY_MODE rx ≠ 0)
    (hlock : s.fld d .CSI_STATUS_LOCK rx = 1) :
    exec (.csiPhyLockChange d rx false) s = .next ((s.setFld d .CSI_STATUS_LOCK rx 0).flag d .CSI_STATUS_PHY_ERR rx) := by
  change execCsiPhyLockChange d rx false s = _
  simp [execCsiPhyLockChange, hd, hrx, hmode, hlock, b2n]

end

/-! The messages of the camera path (R122, R345, R347, R364, R366). -/

section
variable {s : State} {r : Req} {d n : Nat}

section
variable (s r) (op : Nat)

@[simp] theorem State.handling_isGvsp (d n : Nat) : (s.handling r op).isGvsp d n = s.isGvsp d n := by
  simp only [State.isGvsp, State.handling_fld]

@[simp] theorem State.handling_rxBusy (d rx : Nat) : (s.handling r op).rxBusy d rx = s.rxBusy d rx := by
  simp only [State.rxBusy, State.handling_fld, State.handling_isGvsp]

@[simp] theorem State.handling_strEnableOk (d n v port : Nat) : (s.handling r op).strEnableOk d n v port = s.strEnableOk d n v port := by
  simp only [State.strEnableOk, State.handling_fld, State.handling_isGvsp]

@[simp] theorem State.handling_strCfgImage (d n : Nat) : (s.handling r op).strCfgImage d n = s.strCfgImage d n := by
  simp only [State.strCfgImage, State.handling_fld]

end

section
variable {rx mode lanes rate : Nat} (hs : Serves s r 0x0400 (some d)) (hd : s.hasDie d = true) (hrx : rx < 8) (hholder : s.holder 5 d rx = r.dom)
  (hidle : s.rxBusy d rx = false)
include hs hd hrx hholder hidle

theorem exec_camRxSet_off (hmode : mode = 0) :
    exec (.camRxSet r d rx mode lanes rate) s = .next (s.replies r 0x0400 (some d) (fun t => (t.phySet d rx 0 0 0, []))) := by
  subst hmode
  exact congrArg Host.Outcome.next (hs.replies (by simp [hd, hrx, hholder, hidle]))

/-- D-PHY on 1, 2 or 4 lanes, or C-PHY on 1 to 3 trios, at a rate of its own (R345). -/
theorem exec_camRxSet_on (hmode : (mode = 1 ∧ (lanes = 1 ∨ lanes = 2 ∨ lanes = 4) ∧ 80 ≤ rate ∧ rate ≤ 4500) ∨
      (mode = 2 ∧ 1 ≤ lanes ∧ lanes ≤ 3 ∧ 80 ≤ rate ∧ rate ≤ 6000)) :
    exec (.camRxSet r d rx mode lanes rate) s = .next (s.replies r 0x0400 (some d) (fun t =>
      (t.phySet d rx mode (if lanes = 1 then 0 else if lanes = 2 then 1 else 2) rate, []))) := by
  refine congrArg Host.Outcome.next (hs.replies ?_)
  rcases hmode with ⟨rfl, hlanes, hlow, hhigh⟩ | ⟨rfl, hone, hthree, hlow, hhigh⟩
  · simp [hd, hrx, hholder, hidle, hlanes, rateOk, hlow, hhigh]
  · simp [hd, hrx, hholder, hidle, hone, hthree, rateOk, hlow, hhigh]

end

theorem exec_camStreamSet_replies {images : List Word} (hs : Serves s r 0x0401 (some d)) (hd : s.hasDie d = true) (hn : n < 128) (hlen : images.length = 16)
    (hholder : s.holder 4 d n = r.dom) :
    let w (i : Nat) : Nat := (images.getD i 0).toNat
    s.subsetRefusal r (decide (handleDie (w 3) ≠ 0) || decide (handleDie (w 11) ≠ 0)) false = none →
    (bits (w 0) 28 28 = 1 → s.holdsClassS r.dom = true) → (∀ i, i < 16 → strOk (4 * i) (w i) = true) → s.strEnableOk d n (w 0) (bits (w 10) 31 16) = true →
    exec (.camStreamSet r d n images) s = .next (s.replies r 0x0401 (some d) (fun t =>
      ((((rangeFrom 1 15).foldl (fun (u : State) i => u.strSet d n (4 * i) (w i)) t).strCfgSet d n (w 0)).setFlds d n
        [(.STR_REC_ADDR, w 6 + w 7 % 2 ^ 16 * 2 ^ 32), (.STR_REL_ADDR, w 8 + w 9 % 2 ^ 16 * 2 ^ 32)], []))) := by
  intro w hsubset hgold hok henable
  have inRange : (List.range 16).all (fun i => strOk (4 * i) (w i)) = true := List.all_eq_true.mpr fun i hi => hok i (List.mem_range.mp hi)
  have unlocked : ¬ (bits (w 0) 28 28 = 1 ∧ ¬ s.holdsClassS r.dom = true) := fun h => h.2 (hgold h.1)
  refine congrArg Host.Outcome.next (hs.replies ?_)
  dsimp only
  rw [if_neg, if_neg, if_neg, if_neg]
  · rintro (h | h)
    · exact h inRange
    · exact h ((s.handling_strEnableOk ..).trans henable)
  · rwa [State.handling_holdsClassS]
  · exact not_not_intro ((s.handling_holder ..).trans hholder)
  · rintro (h | h | h | h)
    · exact h ((s.handling_hasDie ..).trans hd)
    · exact absurd hn (Nat.not_lt.mpr h)
    · exact h hlen
    · rw [State.handling_subsetRefusal, hsubset] at h
      cases h

theorem exec_camStreamQuery_replies (hs : Serves s r 0x0402 (some d)) (hd : s.hasDie d = true) (hn : n < 128) :
    let f (x : Fld) := s.fld d x n
    exec (.camStreamQuery r d n) s = .next (s.replies r 0x0402 (some d) (fun t => (t,
      [s.strCfgImage d n, f .STR_GEOM_HEIGHT * 2 ^ 16 + f .STR_GEOM_WIDTH, f .STR_BUF_X0 * 2 ^ 16 + f .STR_BUF_NBUF, f .STR_HANDLE_HANDLE,
        f .STR_OUT_OFF_OFF, f .STR_FSTRIDE_STRIDE, f .STR_REC_ADDR, f .STR_REC_ADDR / 2 ^ 32, f .STR_REL_ADDR, f .STR_REL_ADDR / 2 ^ 32,
        f .STR_GOLD_UDP_PORT * 2 ^ 16 + f .STR_GOLD_PERIOD, f .STR_GOLD_HANDLE_HANDLE, f .STR_EXPECT_0_SIG, f .STR_EXPECT_1_SIG, f .STR_EXPECT_2_SIG,
        f .STR_EXPECT_3_SIG, f .STR_FRAMES_COUNT, f .STR_FRAMES_COUNT / 2 ^ 32,
        f .STR_STATE_FROZEN * 2 ^ 31 + f .STR_STATE_INJECTING * 2 ^ 30 + f .STR_STATE_DEFER * 2 ^ 27, f .STR_DROP_COUNT, f .STR_DAMAGED_COUNT,
        f .STR_DISPLACED_COUNT].flatMap (leBytes 4) ++ leBytes 8 0))) :=
  congrArg Host.Outcome.next (hs.replies (by
    simp only [State.handling_hasDie, if_neg (not_absent hd hn), State.handling_fld, State.handling_strCfgImage]))

end

/-- Settles O25, clause by clause. -/
theorem cameraRowsComplete : Obligations.CameraRowsComplete := by
  intro s
  refine ⟨fun d rx h number u hd hrx hheader => ⟨exec_csiShortPacket_start hd hrx hheader number, exec_csiShortPacket_end hd hrx hheader number,
      exec_csiShortPacket_other hd hrx hheader number⟩,
    fun d rx h payload ok u hd hrx hheader => ⟨fun n rest => exec_csiLongPacket_line hd hrx hheader payload ok,
      fun n hopen => exec_csiLongPacket_tile hd hrx hheader payload ok hopen, fun hopen => exec_csiLongPacket_unknown hd hrx hheader payload ok hopen⟩,
    fun d port p hd => ?_, fun d n f fs => exec_frameComplete_occasion, fun d n g => exec_goldenCopyEnd_ends,
    fun m d n off data hd hn hoff hw hfree hok => ⟨exec_strCfgWrite_cfg hd hn hoff hw hfree hok, exec_strCfgWrite_other hd hn hoff hw hfree hok⟩,
    fun d rx hd hrx hmode => ⟨exec_csiPhyLockChange_locks hd hrx hmode, exec_csiPhyLockChange_loses hd hrx hmode⟩,
    fun r d rx mode lanes rate hs hd hrx hholder hidle => ⟨exec_camRxSet_off hs hd hrx hholder hidle, exec_camRxSet_on hs hd hrx hholder hidle⟩,
    fun r d n images => exec_camStreamSet_replies, fun r d n => exec_camStreamQuery_replies⟩
  cases p with
  | leader b fmt w => exact fun f n => exec_gvspLeader_opens hd
  | payload b off bs => exact fun f n hopen hframe hnumber => exec_gvspPayload_placed hd hopen hframe hnumber off bs
  | trailer b => exact fun f n => exec_gvspTrailer_ends hd

end Sys2Proof.Machine
end

section
/-!
SUPPORT and PROOFS. Frames of the Ethernet ports, gates, the rings of the CPU port, the tables of the switch, its messages, and the confirmation of the secondary channel
(R390 to R395, R413, R414, R443, 18_gateway_and_bridges.md, 19_redundant_execution.md).
-/
namespace Sys2Proof.Machine

/-! Frames that arrive (R390 to R394). -/

section
variable {s : State} {d i : Nat} {frame : List Byte} (hd : s.hasDie d = true) (hi : i < 6) (hup : s.portUp d i = true)
include hd hi hup

theorem exec_ethFrameRx_fcs : exec (.ethFrameRx d i frame false) s = .next (s.setPort d i { s.port d i with fcs := (s.port d i).fcs + 1 }) :=
  (if_neg (not_absent hd hi)).trans ((if_neg (not_not_intro hup)).trans (if_pos Bool.false_ne_true))

theorem exec_ethFrameRx_long (hlong : 9212 < frame.length) : exec (.ethFrameRx d i frame true) s = .next (s.dropFrame d i 0) :=
  (if_neg (not_absent hd hi)).trans ((if_neg (not_not_intro hup)).trans ((if_neg (not_not_intro rfl)).trans (if_pos hlong)))

omit hd hi hup in
theorem State.learn_traps (s : State) (ingress : Nat) (frame : List Byte) : (s.learn ingress frame).eth.traps = s.eth.traps := by
  unfold State.learn
  dsimp only
  split <;> rfl

/-- Where nothing is trapped, a frame goes on to the ports that its destination names. -/
theorem exec_ethFrameRx_forward (hshort : 60 ≤ frame.length) (hfits : frame.length ≤ 9212) (hpause : beAt frame (frameType frame) 2 ≠ 0x8808)
    (htraps : s.eth.traps = []) :
    let u := (s.setPort d i { s.port d i with framesIn := (s.port d i).framesIn + 1 }).learn (8 * d + i) frame
    ∃ stamp, exec (.ethFrameRx d i frame true) s =
      .next (u.forward d (8 * d + i) frame (u.egressPorts (8 * d + i) frame) (frameClass frame) false stamp none) := by
  intro u
  have untrapped : u.eth.traps = [] := (State.learn_traps ..).trans htraps
  have taken : ¬ (frame.length < 60 ∨ beAt frame (frameType frame) 2 = 0x8808) := fun h => h.elim (Nat.not_lt.mpr hshort) hpause
  change ∃ stamp, execEthFrameRx d i frame true s = _
  rw [execEthFrameRx, if_neg (not_absent hd hi), if_neg (not_not_intro hup)]
  extract_lets p s1 stamp cls traps s2
  have none : traps = [] := by simp only [traps, show s1.eth.traps = [] from untrapped, List.filter_nil, List.map_nil]
  have same : s2 = u := by rw [show s2 = traps.foldl _ s1 from rfl, none, List.foldl_nil]
  refine ⟨stamp, ?_⟩
  rw [if_neg (not_not_intro rfl), if_neg (Nat.not_lt.mpr hfits), if_neg taken, none, List.any_nil, if_neg Bool.false_ne_true, same]

end

/-! Frames that leave (R391, R393, R395, R446). -/

section
variable {s : State} {d i : Nat}

theorem exec_ethFrameTx_sends {f : EthOut} {rest : List EthOut} (hd : s.hasDie d = true) (hi : i < 6) (hup : s.portUp d i = true)
    (hidle : (s.port d i).sendEnd ≤ s.now) (hnext : s.nextFrame d i = some (f, rest)) :
    let tb := match ptpAt f.bytes with
      | some x => s.ptpTb (beAt f.bytes (x + 4) 1)
      | none => 0
    ∃ u : State, ∃ b p, p.waiting = rest ∧ exec (.ethFrameTx d i) s =
      .next (match f.desc with
        | some x => ((State.send (u.setPort d i p) (.eth d i b)).doneDesc x.1 x.2 0
            (some (tb, s.stampOn tb (toSigned 16 (s.fld d .ETH_PORT_LAT_LAT_OUT i))))).dropDesc x
        | none => State.send (u.setPort d i p) (.eth d i b)) := by
  intro tb
  have starts : ¬ (¬ s.portUp d i = true ∨ s.now < (s.port d i).sendEnd) := fun h => h.elim (absurd hup) (Nat.not_lt.mpr hidle)
  change ∃ u b p, _ ∧ execEthFrameTx d i s = _
  rw [execEthFrameTx, if_neg (not_absent hd hi), if_neg starts, hnext]
  dsimp -zeta only
  extract_lets stamp b1 r p s1
  have stamped : stamp = (tb, s.stampOn tb (toSigned 16 (s.fld d .ETH_PORT_LAT_LAT_OUT i))) := by
    dsimp only [stamp, tb]
    cases ptpAt f.bytes <;> rfl
  refine ⟨r.2, r.1, { p with waiting := rest, framesOut := p.framesOut + 1, sendEnd := r.2.now + r.2.frameNs d i r.1.length }, rfl, ?_⟩
  rw [← stamped] <;> rfl

end

/-! Gates (R391). -/

/-- A list of gate states takes effect at a time of its cycle (R391). -/
def EthPort.takeGates (p : EthPort) (g : GateList) (now : Nat) : EthPort :=
  { p with gates := some g, nextGates := none, entry := 0, entryEnd := g.base + (now - g.base) / g.cycle * g.cycle + (g.slots.getD 0 (0, 0)).2 }

@[simp] theorem State.port_setPort_same (s : State) (d i : Nat) (p : EthPort) : (s.setPort d i p).port d i = p := lookupD_insertKV_same ..

section
variable {s : State} {d i : Nat} {g : GateList} (hd : s.hasDie d = true) (hi : i < 7)
include hd hi

theorem exec_gclEntryEnd_takes (hnext : (s.port d i).nextGates = some g) (hbase : g.base ≤ s.tbNs g.tb) (hnone : (s.port d i).gates = none) :
    ∃ t, exec (.gclEntryEnd d i) s = .next t ∧ (t.port d i).gates = some g ∧ (t.port d i).nextGates = none ∧ (t.port d i).entry = 0 ∧
      (t.port d i).entryEnd = g.base + (s.tbNs g.tb - g.base) / g.cycle * g.cycle + (g.slots.getD 0 (0, 0)).2 := by
  refine ⟨s.setPort d i ((s.port d i).takeGates g (s.tbNs g.tb)), ?_, ?_⟩
  · change execGclEntryEnd d i s = _
    simp only [execGclEntryEnd, if_neg (not_absent hd hi), hnext, hbase, hnone, Option.isNone_none, true_or, and_self, if_true]
    rfl
  · rw [State.port_setPort_same]
    exact ⟨rfl, rfl, rfl, rfl⟩

theorem exec_gclEntryEnd_moves (hnext : (s.port d i).nextGates = none) (hgates : (s.port d i).gates = some g) (hend : (s.port d i).entryEnd ≤ s.tbNs g.tb) :
    let k := if g.slots.length ≤ (s.port d i).entry + 1 then 0 else (s.port d i).entry + 1
    exec (.gclEntryEnd d i) s = .next (s.setPort d i { s.port d i with entry := k, entryEnd := (s.port d i).entryEnd + (g.slots.getD k (0, 0)).2 }) := by
  intro k
  change execGclEntryEnd d i s = _
  simp only [execGclEntryEnd, if_neg (not_absent hd hi), hnext, hgates, Nat.not_lt.mpr hend, if_false]
  rfl

end

/-! The transmit ring of the CPU port (R395). -/

section
variable {s : State} {d ring : Nat}

/-! What a master may reach hangs on the registers, the part and what has started (R92, R106, R145). -/

section
variable {t : State} (hfld : ∀ d f i, t.fld d f i = s.fld d f i) (hpart : t.part = s.part) (hboot : t.boot = s.boot)
include hfld hpart hboot

theorem State.routeStop_of_fld (line a : Nat) (l : List Nat) : t.routeStop line a l = s.routeStop line a l := by
  induction l generalizing a with
  | nil => rfl
  | cons b l ih =>
    have isolated : t.isolated b = s.isolated b := by rw [State.isolated, State.isolated, State.stepOf, State.stepOf, hboot]
    rw [State.routeStop, State.routeStop, isolated, hpart, hfld, ih]

theorem State.memRefusal_of_fld (m : Master) (a n : Nat) : t.memRefusal m a n = s.memRefusal m a n := by
  have blocked : t.blocked = s.blocked := by
    funext src d line
    rw [State.blocked, State.blocked, hpart, State.routeStop_of_fld hfld hpart hboot]
  have reached : t.mayReach = s.mayReach := by
    funext m a
    simp only [State.mayReach, State.dieList, State.guardOk, hfld, hpart]
  simp only [State.memRefusal, blocked, reached, hpart]

end

/-- What the CPU port may read, and what is poisoned, hangs on neither the power of a channel nor a ring. -/
theorem State.portReach_read {a n : Nat} (hreach : s.memRefusal (cpuPort d) a n = none) (hclean : s.poisoned a n = none) :
    s.portReach d a n false = (true, s.wake a n) := by
  simp only [State.portReach, hreach, Bool.false_eq_true, if_false, hclean]

section
variable (hd : s.hasDie d = true) (hring : ring < 16) (hreach : s.memRefusal (cpuPort d) (s.ringDesc d ring true) 32 = none)
  (hclean : s.poisoned (s.ringDesc d ring true) 32 = none) (hown : bit (leAt (s.bytes (s.ringDesc d ring true) 32) 10 1) 0 = true)
include hd hring hreach hclean hown

theorem exec_cpuTxDescriptor_long (hlong : 9212 < leAt (s.bytes (s.ringDesc d ring true) 32) 6 2) : exec (.cpuTxDescriptor d ring) s =
    .next (((s.wake (s.ringDesc d ring true) 32).ringStep d ring true).doneDesc d (s.ringDesc d ring true) 1 none) := by
  change execCpuTxDescriptor d ring s = _
  simp only [execCpuTxDescriptor, if_neg (not_absent hd hring), State.portReach_read hreach hclean, hown, hlong, not_true_eq_false, or_self, if_false,
    if_true]

/-- A frame for the switch to place is sent, or dropped where no egress port has room; a descriptor that wants no stamp is complete at once. -/
theorem exec_cpuTxDescriptor_sends (hfits : leAt (s.bytes (s.ringDesc d ring true) 32) 6 2 ≤ 9212)
    (hswitch : leAt (s.bytes (s.ringDesc d ring true) 32) 8 1 = 0xFF) (hstamp : bit (leAt (s.bytes (s.ringDesc d ring true) 32) 10 1) 1 = false)
    (hdata : s.memRefusal (cpuPort d) (leAt (s.bytes (s.ringDesc d ring true) 32) 0 6) (leAt (s.bytes (s.ringDesc d ring true) 32) 6 2) = none)
    (hdataClean : s.poisoned (leAt (s.bytes (s.ringDesc d ring true) 32) 0 6) (leAt (s.bytes (s.ringDesc d ring true) 32) 6 2) = none) :
    ∃ u : State, ∃ status, (status = 0 ∨ status = 4) ∧ exec (.cpuTxDescriptor d ring) s = .next (u.doneDesc d (s.ringDesc d ring true) status none) := by
  change ∃ u status, _ ∧ execCpuTxDescriptor d ring s = _
  rw [execCpuTxDescriptor, if_neg (not_absent hd hring)]
  extract_lets a b n flags r0 s1 port cls rb s2 raw frame ports out full desc s3
  have first : r0 = (true, s.wake a 32) := State.portReach_read hreach hclean
  have hstep : s1 = (s.wake a 32).ringStep d ring true := by rw [show s1 = r0.2.ringStep d ring true from rfl, first]
  have second : rb = (true, s1.wake (leAt b 0 6) n) := by
    refine State.portReach_read ?_ ?_
    · exact (State.memRefusal_of_fld (fun _ _ _ => hstep ▸ rfl) (hstep ▸ rfl) (hstep ▸ rfl) ..).trans hdata
    · rw [hstep]
      exact hdataClean
  refine ⟨s3, if full then 4 else 0, ?_, ?_⟩
  · cases full
    · exact .inl rfl
    · exact .inr rfl
  · have owned : ¬ (¬ r0.1 = true ∨ ¬ bit flags 0 = true) := by simp [first, show bit flags 0 = true from hown]
    have placed : ¬ (port ≠ 0xFF ∧ (¬ s.hasDie (port / 8) = true ∨ 6 ≤ port % 8)) := fun h => h.1 hswitch
    have unstamped : desc = none := if_neg (ne_true_of_eq_false hstamp)
    rw [if_neg owned, if_neg (Nat.not_lt.mpr hfits), if_neg placed, if_neg (by simp [second]), if_neg (by simp [unstamped])]

end

end

/-! Links and the messages of the switch (R390, R391, R393, R394, R413, R414). -/

section
variable {s : State} {r : Req} {d i : Nat}

theorem exec_ethLinkChange_raises {up : Bool} {speed : Nat} (hd : s.hasDie d = true) (hi : i < 6) (hlink : s.fld d .ETH_PORT_STATUS_LINK i ≠ b2n up) :
    exec (.ethLinkChange d i up speed) s = .next ((s.setFlds d i [(.ETH_PORT_STATUS_LINK, b2n up), (.ETH_PORT_STATUS_SPEED, speed % 16)]).raise .ethLink d
      (s.holder 0xB d i).toNat [(20, 1, 8 * d + i), (21, 1, b2n up), (22, 1, speed % 16)] [s.holder 0xB d i]) :=
  (if_neg (not_absent hd hi)).trans (if_neg hlink)

theorem exec_ethPortSet_replies {speed fec an li lo : Nat} (hs : Serves s r 0x0B00 (some d)) (hd : s.hasDie d = true) (hmode : ethModeOk i speed fec an = true)
    (hholder : s.holder 0xB d i = r.dom) : exec (.ethPortSet r d i speed fec an li lo) s = .next (s.replies r 0x0B00 (some d) (fun t =>
      ((t.portCut d i).setFlds d i [(.ETH_PORT_CFG_EN, 1), (.ETH_PORT_CFG_AN, an), (.ETH_PORT_CFG_FEC, fec),
        (.ETH_PORT_CFG_SPEED, speed), (.ETH_PORT_LAT_LAT_IN, ofSigned 16 (toSigned 8 li)), (.ETH_PORT_LAT_LAT_OUT, ofSigned 16 (toSigned 8 lo))], []))) :=
  congrArg Host.Outcome.next (hs.replies (by simp [hd, hmode, hholder]))

section
variable (s r) (op : Nat)

@[simp] theorem State.handling_port (d i : Nat) : (s.handling r op).port d i = s.port d i := by
  simp only [State.port, State.handling_eth]

@[simp] theorem State.handling_switchSender (q : Req) : (s.handling r op).switchSender q = s.switchSender q := by
  simp only [State.switchSender, State.handling_manager]

@[simp] theorem State.handling_streamsWith (f but : Nat) : (s.handling r op).streamsWith f but = s.streamsWith f but := by
  simp only [State.streamsWith, State.handling_eth]

end

theorem exec_ethPortQuery_replies (hs : Serves s r 0x0B01 (some d)) (hd : s.hasDie d = true) (hi : i < 7) :
    let p := s.port d i
    exec (.ethPortQuery r d i) s = .next (s.replies r 0x0B01 (some d) (fun t => (t,
      leBytes 4 (s.fld d .ETH_PORT_STATUS_LINK i * 2 ^ 31 + s.fld d .ETH_PORT_STATUS_SPEED i * 2 ^ 24) ++ leBytes 6 p.framesIn ++ leBytes 6 p.framesOut ++
        leBytes 6 (p.drops.foldl (fun a e => a + e.2) 0) ++ leBytes 6 p.fcs ++ leBytes 4 0))) :=
  congrArg Host.Outcome.next (hs.replies (by
    simp only [State.handling_hasDie, if_neg (not_absent hd hi), State.handling_fld, State.handling_port]))

section
variable (hsender : s.switchSender r = true)
include hsender

/-- A gate list in range, of at most 1,024 entries, waits at its port (R391, R414). -/
theorem exec_tsnGclSet_replies {port tb cycle base : Nat} {entries : List (Nat × Nat)} (hs : Serves s r 0x0B02 (some (port / 8)))
    (hd : s.hasDie (port / 8) = true) (hport : port % 8 < 7) (htb : tb < 8) (hlow : 1000 ≤ cycle) (hhigh : cycle ≤ 4290000000)
    (hentries : ∀ e ∈ entries, 8 ≤ e.2 ∧ e.2 ≤ 4290000000 ∧ e.1 < 256) (hsome : entries ≠ []) (hlen : entries.length ≤ 1024) :
    exec (.tsnGclSet r port tb 0 cycle base entries) s = .next (s.replies r 0x0B02 (some (port / 8)) (fun t =>
      (t.setPort (port / 8) (port % 8) { t.port (port / 8) (port % 8) with nextGates := some ⟨tb, cycle, base, entries⟩ }, []))) := by
  have inRange : entries.any (fun e => decide (e.2 < 8) || decide (4290000000 < e.2) || decide (256 ≤ e.1)) = false := by
    refine List.any_eq_false.mpr fun e he => ?_
    obtain ⟨hshort, hlong, hgates⟩ := hentries e he
    simp [hshort, hlong, hgates]
  refine congrArg Host.Outcome.next (hs.replies ?_)
  have replaces : ¬ bit 0 0 = true := by decide
  dsimp only
  rw [if_neg replaces, if_neg, if_neg (not_not_intro ((s.handling_switchSender ..).trans hsender)), if_neg (Nat.not_lt.mpr hlen)]
  rintro (h | h | h | h | h | h | h | h)
  · exact h ((s.handling_hasDie ..).trans hd)
  · omega
  · omega
  · omega
  · omega
  · omega
  · exact ne_true_of_eq_false inRange h
  · exact hsome h

theorem exec_tsnStreamSet_replies {e : TsnStream} (hs : Serves s r 0x0B03 none) (hhandle : e.handle < 65536) (hid : e.idType ≤ 2) (hfuncs : e.funcs < 32)
    (hident : e.ident.length = 16) (hmeter : e.meter.length = 8) (halg : e.algorithm ≤ 1)
    (hhistory : bit e.funcs 4 = true → e.algorithm = 0 → 2 ≤ e.history ∧ e.history ≤ 32)
    (hroom : (s.eth.tsn.filter (fun x => decide (x.1 ≠ e.handle))).length < 1024) (hfilters : bit e.funcs 1 = true → s.streamsWith 1 e.handle < 512)
    (hmeters : bit e.funcs 2 = true → s.streamsWith 2 e.handle < 512) :
    exec (.tsnStreamSet r e) s = .next (s.replies r 0x0B03 none (fun t =>
      ({ t with eth.tsn := insertKV t.eth.tsn e.handle e, eth.work := eraseK t.eth.work e.handle }, []))) := by
  have inRange : ¬ (65536 ≤ e.handle ∨ 2 < e.idType ∨ 32 ≤ e.funcs ∨ e.ident.length ≠ 16 ∨ e.meter.length ≠ 8 ∨ 1 < e.algorithm ∨
      (bit e.funcs 4 = true ∧ e.algorithm = 0 ∧ (e.history < 2 ∨ 32 < e.history))) := by
    rintro (h | h | h | h | h | h | ⟨hrecover, hvector, h⟩)
    · omega
    · omega
    · omega
    · exact h hident
    · exact h hmeter
    · omega
    · have := hhistory hrecover hvector
      omega
  have room : ¬ (1024 ≤ (s.eth.tsn.filter (fun x => decide (x.1 ≠ e.handle))).length ∨ (bit e.funcs 1 = true ∧ 512 ≤ s.streamsWith 1 e.handle) ∨
      (bit e.funcs 2 = true ∧ 512 ≤ s.streamsWith 2 e.handle)) := by
    rintro (h | ⟨hf, h⟩ | ⟨hf, h⟩)
    · exact Nat.not_le.mpr hroom h
    · exact Nat.not_le.mpr (hfilters hf) h
    · exact Nat.not_le.mpr (hmeters hf) h
  refine congrArg Host.Outcome.next (hs.replies ?_)
  simp only [State.handling_eth, State.handling_switchSender, State.handling_streamsWith, if_neg inRange, if_neg room, hsender, not_true_eq_false, if_false]

theorem exec_ptpDomainSet_replies {entry number tb en : Nat} (hs : Serves s r 0x0B04 none) (hentry : entry < 8) (hnumber : number < 256) (htb : tb < 8)
    (hen : en ≤ 1) : exec (.ptpDomainSet r entry number tb en) s = .next (s.replies r 0x0B04 none (fun t =>
      ({ t with eth.ptp := if en = 1 then insertKV t.eth.ptp entry (number, tb) else eraseK t.eth.ptp entry }, []))) :=
  congrArg Host.Outcome.next (hs.replies (by simp [hentry, hnumber, htb, hen, hsender]))

theorem exec_ethTrapSet_replies {entry ring mode ethertype mac bits : Nat} (hs : Serves s r 0x0B05 (some d)) (hd : s.hasDie d = true) (hentry : entry < 32)
    (hring : ring < 16) (hmode : mode ≤ 2) (hbits : bits ≤ 48) :
    exec (.ethTrapSet r d entry ring mode ethertype mac bits) s = .next (s.replies r 0x0B05 (some d) (fun t =>
      (if mode = 0 then { t with eth.traps := eraseK t.eth.traps (d, entry) }
       else { t with eth.traps := insertKV t.eth.traps (d, entry) ⟨ring, decide (mode = 2), ethertype, mac, bits⟩ }, []))) := by
  refine congrArg Host.Outcome.next (hs.replies ?_)
  have inRange : ¬ (¬ s.hasDie d = true ∨ 32 ≤ entry ∨ 16 ≤ ring ∨ 2 < mode ∨ 48 < bits) := by
    rintro (h | h | h | h | h)
    · exact h hd
    · omega
    · omega
    · omega
    · omega
  simp only [State.handling_hasDie, State.handling_switchSender, if_neg inRange, hsender, not_true_eq_false, if_false]
  split <;> rfl

end

/-- SEC confirms, and channel 1 follows the safe state (R443). -/
theorem exec_secConfirm_quiet (hdue : s.safe.msgDue = false) :
    ∃ t, exec .secConfirm s = .next t ∧ t.fld 0 .SAFE_STATUS_SEC_OK = 1 ∧ t.safe.chan1 = !s.isSafe :=
  ⟨_, if_neg (ne_true_of_eq_false hdue), State.fld_setFld_same .., rfl⟩

end

/-- Settles O29, clause by clause. -/
theorem ethernetRowsComplete : Obligations.EthernetRowsComplete := fun _ =>
  ⟨fun _ _ _ hd hi hup => ⟨exec_ethFrameRx_fcs hd hi hup, exec_ethFrameRx_long hd hi hup, exec_ethFrameRx_forward hd hi hup⟩,
    fun _ _ _ _ => exec_ethFrameTx_sends, fun _ _ _ hd hi => exec_gclEntryEnd_takes hd hi, fun _ _ _ hd hi => exec_gclEntryEnd_moves hd hi,
    fun _ _ hd hring hreach hclean hown => ⟨exec_cpuTxDescriptor_long hd hring hreach hclean hown, exec_cpuTxDescriptor_sends hd hring hreach hclean hown⟩,
    fun _ _ => rfl, fun _ _ _ _ => exec_ethLinkChange_raises, fun _ _ _ _ _ _ _ _ => exec_ethPortSet_replies, fun _ _ _ => exec_ethPortQuery_replies,
    fun _ _ _ _ _ _ hs hd hport htb hlow hhigh hentries hsome hlen hsender => exec_tsnGclSet_replies hsender hs hd hport htb hlow hhigh hentries hsome hlen,
    fun _ _ hs hhandle hid hfuncs hident hmeter halg hhistory hsender => exec_tsnStreamSet_replies hsender hs hhandle hid hfuncs hident hmeter halg hhistory,
    fun _ _ _ _ _ hs hentry hnumber htb hen hsender => exec_ptpDomainSet_replies hsender hs hentry hnumber htb hen,
    fun _ _ _ _ _ _ _ _ hs hd hentry hring hmode hbits hsender => exec_ethTrapSet_replies hsender hs hd hentry hring hmode hbits, exec_secConfirm_quiet⟩

end Sys2Proof.Machine
end

section
/-!
SUPPORT and PROOFS. CAN, the UARTs, the MVB controllers and the xSPI controller (R396 to R398, R405, R414, 18_gateway_and_bridges.md).
-/
namespace Sys2Proof.Machine

/-! CAN FD (R396). -/

section
variable {s : State} {d n : Nat} (hd : s.hasDie d = true) (hn : n < 4)
include hd hn

section
variable (hruns : s.canRuns d n = true)
include hruns

theorem exec_canFrameRx_error {f : CanFrame} (hok : f.ok = false) : exec (.canFrameRx d n f) s = .next ((s.addSat d .CAN_STATUS_REC n 1).canPassive d n) :=
  (if_neg (not_absent hd hn)).trans ((if_neg (not_not_intro hruns)).trans (if_pos (ne_true_of_eq_false hok)))

omit hd hn hruns in
/-- The counters of a controller are its own fields, which neither PASSIVE nor LOST is. -/
theorem State.canPassive_rec (s : State) (d n : Nat) : (s.canPassive d n).fld d .CAN_STATUS_REC n = s.fld d .CAN_STATUS_REC n :=
  State.fld_setFld_other s d d n n _ (by decide)

/-- A good frame counts REC down, whatever the filters make of it. -/
theorem exec_canFrameRx_counts {f : CanFrame} (hok : f.ok = true) (hlow : s.fld d .CAN_STATUS_REC n ≤ 127) :
    ∃ t, exec (.canFrameRx d n f) s = .next t ∧ t.fld d .CAN_STATUS_REC n = s.fld d .CAN_STATUS_REC n - 1 := by
  change ∃ t, execCanFrameRx d n f s = _ ∧ _
  rw [execCanFrameRx, if_neg (not_absent hd hn), if_neg (not_not_intro hruns), if_neg (not_not_intro hok)]
  dsimp -zeta only [State.fresh]
  extract_lets rec' s1 k held left e
  have counted : s1.fld d .CAN_STATUS_REC n = s.fld d .CAN_STATUS_REC n - 1 := by
    have width : (s.fld d .CAN_STATUS_REC n - 1) % 2 ^ Fld.width .CAN_STATUS_REC = s.fld d .CAN_STATUS_REC n - 1 :=
      Nat.mod_eq_of_lt (show _ < 256 by omega)
    exact (State.canPassive_rec ..).trans ((State.fld_setFld_same ..).trans ((congrArg (· % _) (if_neg (Nat.not_lt.mpr hlow))).trans width))
  split
  · exact ⟨_, rfl, counted⟩
  · split
    · exact ⟨_, rfl, (State.fld_setFld_other _ d d n n _ (by decide)).trans counted⟩
    · exact ⟨_, rfl, counted⟩

section
variable {b : Nat} (hnext : s.fresh.2.canNext d n (s.fresh.1 % 2 ^ 16) = some b)
include hnext

theorem exec_canFrameTx_sends : ∃ x y z, exec (.canFrameTx d n true) s =
    .next (((s.fresh.2.setFld d .CAN_STATUS_TEC n (s.fld d .CAN_STATUS_TEC n - 1)).canPassive d n).send (.can d n x y z)) := by
  change ∃ x y z, execCanFrameTx d n true s = _
  simp only [execCanFrameTx, if_neg (not_absent hd hn), hruns, not_true_eq_false, if_false, hnext, if_true]
  exact ⟨_, _, _, rfl⟩

theorem exec_canFrameTx_error (htec : s.fld d .CAN_STATUS_TEC n + 8 < 256) :
    exec (.canFrameTx d n false) s = .next ((s.fresh.2.addSat d .CAN_STATUS_TEC n 8).canPassive d n) := by
  have below : s.fresh.2.fld d .CAN_STATUS_TEC n + 8 < 256 := htec
  change execCanFrameTx d n false s = _
  simp only [execCanFrameTx, if_neg (not_absent hd hn), hruns, not_true_eq_false, if_false, hnext, Bool.false_eq_true, if_pos below]

end

end

theorem exec_canBusoffRejoin_rejoins (hoff : s.fld d .CAN_STATUS_BUSOFF n = 1) (hmanual : s.fld d .CAN_CFG_MANUAL n = 0) (hreset : s.fld d .CAN_CFG_SRST n = 0) :
    exec (.canBusoffRejoin d n) s = .next (s.canRejoin d n) :=
  (if_neg (not_absent hd hn)).trans (congrArg Host.Outcome.next (if_pos ⟨hoff, hmanual, hreset⟩))

theorem exec_canSet_replies {r : Req} {a b : Word} (hs : Serves s r 0x0B10 (some d)) (hholder : s.holder 0xC d n = r.dom) (hen : s.fld d .CAN_CFG_EN n ≠ 1) :
    exec (.canSet r d n a b) s = .next (s.replies r 0x0B10 (some d) (fun t => ((t.canBtr d n a.toNat).canDbtr d n b.toNat, []))) :=
  congrArg Host.Outcome.next (hs.replies (by
    simp only [State.handling_hasDie, State.handling_holder, State.handling_fld, if_neg (not_absent hd hn), hholder, hen, ne_eq, not_true_eq_false, if_false]))

/-! UARTs (R397). -/

section
variable (hup : s.blkUp d .UART (0x4000 * n) = true) (hen : s.fld d .UART_CFG_EN n = 1)
include hup hen

theorem exec_uartCharacter_received (c : Nat) (hde : (s.uart d n).de = false) (hroom : (s.uart d n).rx.length < 64) :
    exec (.uartCharacter d n (.received c)) s = .next (s.setUart d n { s.uart d n with
      rx := (s.uart d n).rx ++ [c % (if s.fld d .UART_CFG_BITS8 n = 1 then 256 else 128)] }) :=
  (if_neg (not_absent hd hn)).trans ((if_neg (not_not_intro ⟨hup, hen⟩)).trans (congrArg Host.Outcome.next
    (if_neg (fun h => h.elim (ne_true_of_eq_false hde) (Nat.not_le.mpr hroom)))))

theorem exec_uartCharacter_loaded (c : Nat) (hroom : (s.uart d n).tx.length < 64) :
    exec (.uartCharacter d n (.loaded c)) s = .next (s.setUart d n { s.uart d n with tx := (s.uart d n).tx ++ [c % 256] }) :=
  (if_neg (not_absent hd hn)).trans ((if_neg (not_not_intro ⟨hup, hen⟩)).trans (congrArg Host.Outcome.next (if_neg (Nat.not_le.mpr hroom))))

theorem exec_uartCharacter_startSending {c : Nat} {cs : List Nat} (htx : (s.uart d n).tx = c :: cs) : exec (.uartCharacter d n .startSending) s =
    .next ((s.setUart d n { s.uart d n with tx := cs, de := decide (s.fld d .UART_CFG_RS485 n = 1) }).send
      (.uart d n (c % (if s.fld d .UART_CFG_BITS8 n = 1 then 256 else 128)))) := by
  change execUartCharacter d n .startSending s = _
  simp only [execUartCharacter, if_neg (not_absent hd hn), hup, hen, and_self, not_true_eq_false, if_false, htx]

theorem exec_uartCharacter_stopSent (htx : (s.uart d n).tx = []) :
    exec (.uartCharacter d n .stopSent) s = .next (s.setUart d n { s.uart d n with de := false }) :=
  (if_neg (not_absent hd hn)).trans ((if_neg (not_not_intro ⟨hup, hen⟩)).trans (congrArg Host.Outcome.next (if_pos htx)))

end

theorem exec_uartSet_replies {r : Req} {cfg : Word} (hs : Serves s r 0x0B11 (some d)) (hholder : s.holder 0xD d n = r.dom) :
    exec (.uartSet r d n cfg) s = .next (s.replies r 0x0B11 (some d) (fun t => (t.uartCfg d n cfg.toNat, []))) :=
  congrArg Host.Outcome.next (hs.replies (by
    simp only [State.handling_hasDie, State.handling_holder, if_neg (not_absent hd hn), hholder, ne_eq, not_true_eq_false, if_false]))

end

/-! MVB (R398). -/

section
variable {s : State} {d : Nat} (hd : s.hasDie d = true) (htwo : d < 2)
include hd htwo

section
variable (hup : s.blkUp d .MVB 0 = true)
include hup

theorem exec_mvbTelegram_processSent {a t0 : Nat} {bs : List Byte} (hport : lookup? (s.mvb d).ports a = some (bs, t0)) :
    exec (.mvbTelegram d (.processSent a)) s = .next (s.send (.mvb d bs)) := by
  change execMvbTelegram d (.processSent a) s = _
  simp only [execMvbTelegram, if_neg (not_absent hd htwo), hup, not_true_eq_false, if_false, hport]

theorem exec_mvbTelegram_messageReceived (bs : List Byte) :
    exec (.mvbTelegram d (.messageReceived bs)) s = .next ((s.retryEnds d 8).setMvb d { s.mvb d with inbox := (s.mvb d).inbox ++ [bs] }) :=
  (if_neg (not_absent hd htwo)).trans (if_neg (not_not_intro hup))

theorem exec_mvbTelegram_messageSent : ∃ bs, exec (.mvbTelegram d .messageSent) s = .next ((s.fresh.2.retryEnds d 8).send (.mvb d bs)) :=
  ⟨_, (if_neg (not_absent hd htwo)).trans (if_neg (not_not_intro hup))⟩

theorem exec_mvbTelegram_mastership (hrole : (s.mvb d).role = 1) (take : Bool) :
    exec (.mvbTelegram d (.mastership take)) s = .next (s.setMvb d { s.mvb d with isMaster := take }) :=
  (if_neg (not_absent hd htwo)).trans ((if_neg (not_not_intro hup)).trans (congrArg Host.Outcome.next (if_pos hrole)))

end

omit hd htwo in
@[simp] theorem State.handling_mvb (s : State) (r : Req) (op d : Nat) : (s.handling r op).mvb d = s.mvb d := by
  simp only [State.mvb, State.handling_ports]

/-- A controller that is not the bus master takes its settings (R414). -/
theorem exec_mvbSet_replies {r : Req} {role pair ms addr : Nat} (hs : Serves s r 0x0B12 (some d)) (hrole : role < 2) (hpair : pair < 2) (hms : ms = 1 ∨ ms = 2)
    (haddr : addr < 4096) (hholder : s.holder 0xE d 0 = r.dom) (hidle : (s.mvb d).role ≠ 1 ∨ (s.mvb d).isMaster = false) :
    exec (.mvbSet r d role pair ms addr) s = .next (s.replies r 0x0B12 (some d) (fun t =>
      (t.setMvb d { t.mvb d with role := role, pair := pair, periodMs := ms, addr := addr }, []))) := by
  have inRange : ¬ (¬ s.hasDie d = true ∨ 2 ≤ d ∨ 2 ≤ role ∨ 2 ≤ pair ∨ (ms ≠ 1 ∧ ms ≠ 2) ∨ 4096 ≤ addr) := by
    rintro (h | h | h | h | ⟨h1, h2⟩ | h)
    · exact h hd
    · omega
    · omega
    · omega
    · exact hms.elim h1 h2
    · omega
  have idle : ¬ ((s.mvb d).role = 1 ∧ (s.mvb d).isMaster = true) := fun h => hidle.elim (absurd h.1) (fun hf => ne_true_of_eq_false hf h.2)
  refine congrArg Host.Outcome.next (hs.replies ?_)
  simp only [State.handling_hasDie, State.handling_holder, State.handling_mvb, if_neg inRange, hholder, ne_eq, not_true_eq_false, if_false, if_neg idle]

end

/-! The xSPI controller (R405). -/

theorem State.flashBytes_of_flash {s t : State} (h : t.flash = s.flash) (a n : Nat) : t.flashBytes a n = s.flashBytes a n := by
  induction n generalizing a with
  | zero => rfl
  | succ n ih => rw [State.flashBytes, State.flashBytes, State.flashByte, State.flashByte, h, ih]

section
variable {s : State} {m : Master} {cs fa : Nat} (hrefusal : s.refusal m 0 (blkBase .XSPI) = none) (hguard : s.guardOk m = true) (hcs : cs < 2)
include hrefusal hguard hcs

section
variable {ma n : Nat} (hpos : 0 < n) (hfits : n ≤ 4096) (hend : fa + n ≤ 2 ^ 32) (hreach : s.memRefusal (ioMaster 0 9) ma n = none)
include hpos hfits hend hreach

theorem exec_xspiCommand_read : exec (.xspiCommand m (.read cs fa ma n)) s =
    .next ((s.accepted.retryEnds 0 9).store (agentOf (ioMaster 0 9)) ma (s.flashBytes (cs * 2 ^ 32 + fa) n)) := by
  have reach : s.accepted.memRefusal (ioMaster 0 9) ma n = none := (State.memRefusal_of_fld (s := s) (t := s.accepted) (fun _ _ _ => rfl) rfl rfl ..).trans hreach
  change execXspiCommand m (.read cs fa ma n) s = _
  simp only [execXspiCommand, hrefusal]
  refine congrArg Host.Outcome.next ((State.guarded_ok (s := s.accepted) hguard ..).trans ?_)
  simp only [hcs, hpos, hfits, hend, decide_true, Bool.and_self, not_true_eq_false, if_false, reach,
    State.flashBytes_of_flash (s := s) (t := s.accepted) rfl]

theorem exec_xspiCommand_program (hclean : s.poisoned ma n = none) : exec (.xspiCommand m (.program cs fa ma n)) s =
    .next (((s.accepted.retryEnds 0 9).wake ma n).putFlash (cs * 2 ^ 32 + fa)
      ((s.flashBytes (cs * 2 ^ 32 + fa) n).zipWith (fun x y => x &&& y) (s.seen ma n))) := by
  have reach : s.accepted.memRefusal (ioMaster 0 9) ma n = none := (State.memRefusal_of_fld (s := s) (t := s.accepted) (fun _ _ _ => rfl) rfl rfl ..).trans hreach
  have clean : s.accepted.poisoned ma n = none := hclean
  change execXspiCommand m (.program cs fa ma n) s = _
  simp only [execXspiCommand, hrefusal]
  refine congrArg Host.Outcome.next ((State.guarded_ok (s := s.accepted) hguard ..).trans ?_)
  simp only [hcs, hpos, hfits, hend, decide_true, Bool.and_self, not_true_eq_false, if_false, reach, clean,
    State.flashBytes_of_flash (s := s) (t := s.accepted) rfl, show s.accepted.seen ma n = s.seen ma n from rfl]

end

theorem exec_xspiCommand_erase {n : Nat} (hend : fa + n ≤ 2 ^ 32) :
    exec (.xspiCommand m (.erase cs fa n)) s = .next (s.accepted.eraseFlash (cs * 2 ^ 32 + fa) n) := by
  change execXspiCommand m (.erase cs fa n) s = _
  simp only [execXspiCommand, hrefusal]
  exact congrArg Host.Outcome.next ((State.guarded_ok (s := s.accepted) hguard ..).trans (if_pos ⟨hcs, hend⟩))

end

/-- Settles O30, clause by clause. -/
theorem fieldPortRowsComplete : Obligations.FieldPortRowsComplete := fun _ =>
  ⟨fun _ _ _ hd hn hruns => ⟨exec_canFrameRx_error hd hn hruns, exec_canFrameRx_counts hd hn hruns⟩,
    fun _ _ _ hd hn hruns hnext => ⟨exec_canFrameTx_sends hd hn hruns hnext, exec_canFrameTx_error hd hn hruns hnext⟩,
    fun _ _ hd hn => exec_canBusoffRejoin_rejoins hd hn, fun _ _ _ _ _ hs hd hn => exec_canSet_replies hd hn hs,
    fun _ _ hd hn hup hen => ⟨exec_uartCharacter_received hd hn hup hen, exec_uartCharacter_loaded hd hn hup hen,
      fun _ _ => exec_uartCharacter_startSending hd hn hup hen, exec_uartCharacter_stopSent hd hn hup hen⟩,
    fun _ _ _ _ hs hd hn => exec_uartSet_replies hd hn hs,
    fun _ hd htwo hup => ⟨fun _ _ _ => exec_mvbTelegram_processSent hd htwo hup, exec_mvbTelegram_messageReceived hd htwo hup,
      exec_mvbTelegram_messageSent hd htwo hup, exec_mvbTelegram_mastership hd htwo hup⟩,
    fun _ _ _ _ _ _ hs hd htwo => exec_mvbSet_replies hd htwo hs,
    fun _ _ _ _ _ hrefusal hguard hcs => ⟨fun hpos hfits hend hreach => ⟨exec_xspiCommand_read hrefusal hguard hcs hpos hfits hend hreach,
      exec_xspiCommand_program hrefusal hguard hcs hpos hfits hend hreach⟩, exec_xspiCommand_erase hrefusal hguard hcs⟩⟩

end Sys2Proof.Machine
end

section
/-!
SUPPORT and PROOFS. The PCIe controllers, the links between dies and the field bridge (R399, R401, R403, R404, R410 to R412, R414, R415, 18_gateway_and_bridges.md).
-/
namespace Sys2Proof.Machine

/-- A key that was erased reads as the default. -/
theorem lookupD_eraseK_same {κ ν : Type} [DecidableEq κ] (m : List (κ × ν)) (k : κ) (v : ν) : lookupD (eraseK m k) k v = v := by
  induction m with
  | nil => rfl
  | cons e m ih =>
    by_cases he : e.1 = k
    · simpa [eraseK, he] using ih
    · simpa [eraseK, he, lookupD] using ih

/-! PCI Express (R399, R401, R403, R414). -/

section
variable {s : State} {c : Nat} (hc : s.hasDie c = true) (htwo : c < 2)
include hc htwo

theorem exec_pcieLinkTraining_down : exec (.pcieLinkTraining c none) s = .next (s.setPcieSt c { s.pcie c with link := none }) :=
  if_neg (not_absent hc htwo)

theorem exec_pcieLinkTraining_trained (w rate : Nat) (hon : s.pcieOn c = true) (hup : s.groupUp c 16 = true) (hstep : 5 ≤ s.stepOf c) (hw : w ∈ [1, 2, 4, 8])
    (hrate : rate < 5) : exec (.pcieLinkTraining c (some (w, rate))) s = .next (s.setPcieSt c { s.pcie c with link := some (w, rate) }) :=
  (if_neg (not_absent hc htwo)).trans (congrArg Host.Outcome.next (if_pos ⟨hon, hup, hstep, hw, hrate⟩))

theorem exec_pcieAerError_records (u k : Word) (header : List Word) (hup : s.pcieUp c = true) :
    ∃ v : State, exec (.pcieAerError c u k header) s = .next (v.raise .pcieAer c 0
        [(20, 1, c), (24, 4, Nat.lor (s.pcie c).uncorrectable u.toNat), (28, 4, Nat.lor (s.pcie c).correctable k.toNat)] [0]) ∧
      (v.pcie c).uncorrectable = Nat.lor (s.pcie c).uncorrectable u.toNat := by
  refine ⟨_, (if_neg (not_absent hc htwo)).trans (if_neg (not_not_intro hup)), ?_⟩
  exact congrArg PcieState.uncorrectable (lookupD_insertKV_same ..)

omit hc htwo in
@[simp] theorem State.handling_pcieUp (s : State) (r : Req) (op c : Nat) : (s.handling r op).pcieUp c = s.pcieUp c := by
  simp only [State.pcieUp, State.pcie, State.handling_ports]

theorem exec_pcieSet_replies {r : Req} {role width rate : Nat} (hs : Serves s r 0x0B20 (some c)) (hrole : role < 2) (hwidth : width < 4) (hrate : rate < 5)
    (hman : s.manager r.dom = true) (hdown : s.pcieUp c = false) :
    exec (.pcieSet r c role width rate) s = .next (s.replies r 0x0B20 (some c) (fun t =>
      (t.setFlds c 0 [(.PCIE_CFG_ROLE, if c = 1 then role else s.fld c .PCIE_CFG_ROLE), (.PCIE_CFG_WIDTH, width), (.PCIE_CFG_RATE, rate)], []))) := by
  have inRange : ¬ (2 ≤ c ∨ ¬ s.hasDie c = true ∨ 2 ≤ role ∨ 4 ≤ width ∨ 5 ≤ rate) := by
    rintro (h | h | h | h | h)
    · omega
    · exact h hc
    all_goals omega
  refine congrArg Host.Outcome.next (hs.replies ?_)
  simp only [State.handling_hasDie, State.handling_manager, State.handling_pcieUp, State.handling_fld, if_neg inRange, hman, hdown, not_true_eq_false, if_false,
    Bool.false_eq_true]

end

/-! Mirsia (R404). -/

theorem State.raise_ports (s : State) (e : Ev) (die source : Nat) (dt : List (Nat × Nat × Nat)) (doms : List Dom) : (s.raise e die source dt doms).ports = s.ports :=
  ports_of_mask (s.raise_mask e die source dt doms (Nat.and_self _)) rfl

theorem State.titheAdd_ports (s : State) (off n : Nat) : (s.titheAdd off n).ports = s.ports := ports_of_mask (s.titheAdd_mask off n (Nat.and_self _)) rfl

/-- A port that is down stays down through the report of it and what the safety logic does with it. -/
theorem State.raise_down (s : State) (e : Ev) (die source : Nat) (dt : List (Nat × Nat × Nat)) (doms : List Dom) (d i : Nat) :
    (s.raise e die source dt doms).fld d .MIRSIA_STATUS_DOWN i = s.fld d .MIRSIA_STATUS_DOWN i :=
  fld_of_mask (s.raise_mask e die source dt doms (Nat.and_self _)) rfl _ rfl (.inl rfl) d i

theorem State.source_down (s : State) (e : Entry) (silos : List (Nat × Nat)) (d i : Nat) : (s.source e silos).fld d .MIRSIA_STATUS_DOWN i = s.fld d .MIRSIA_STATUS_DOWN i :=
  fld_of_mask (s.source_mask e silos (Nat.and_self _)) rfl _ rfl (.inl rfl) d i

/-- Marking any end of any link down leaves a port down that is. -/
theorem State.down_setFlds {t : State} {d i : Nat} (h : t.fld d .MIRSIA_STATUS_DOWN i = 1) (b l : Nat) :
    (t.setFlds b l [(.MIRSIA_STATUS_UP, 0), (.MIRSIA_STATUS_DOWN, 1)]).fld d .MIRSIA_STATUS_DOWN i = 1 := by
  by_cases hl : i = l
  · subst hl
    exact State.fld_setFld_again (f := .MIRSIA_STATUS_DOWN) (v := 1) ((State.fld_setFld_other t b d i i 0 (by decide)).trans h) b
  · exact (State.fld_setFlds_index t _ b d .MIRSIA_STATUS_DOWN hl).trans h

section
variable {s : State} {d link : Nat} (hd : s.hasDie d = true) (hlink : link < 3) (hup : s.groupUp d 13 = true) (hdown : s.fld d .MIRSIA_STATUS_DOWN link ≠ 1) (lanes : Nat)
include hd hlink hup hdown

theorem exec_mirsiaRetrain_ok :
    ∃ t, exec (.mirsiaRetrain d link true lanes) s = .next t ∧ lookupD t.ports.retrains (d, link) [] = [] :=
  ⟨_, (if_neg (not_absent hd hlink)).trans (if_neg (not_or.mpr ⟨not_not_intro hup, hdown⟩)), lookupD_eraseK_same ..⟩

/-- The third retrain that fails within 1 ms leaves the port down at both ends. -/
theorem exec_mirsiaRetrain_third : ∃ t, exec (.mirsiaRetrain d link false lanes) s = .next t ∧
    (((lookupD s.ports.retrains (d, link) []).filter (fun x => decide (s.now < x + 1000000))).length = 2 → t.fld d .MIRSIA_STATUS_DOWN link = 1) := by
  change ∃ t, execMirsiaRetrain d link false lanes s = _ ∧ _
  rw [execMirsiaRetrain, if_neg (not_absent hd hlink), if_neg (not_or.mpr ⟨not_not_intro hup, hdown⟩)]
  simp -zeta only [Bool.false_eq_true, if_false]
  extract_lets s1 now fails src s2 s3 silos
  have ports : s1.ports = s.ports := (State.raise_ports ..).trans (State.titheAdd_ports ..)

  split
  next hfew =>
    refine ⟨_, rfl, fun h => absurd hfew ?_⟩
    have three : fails.length = 3 := by simp only [fails, List.length_append, ports, now, h, List.length_singleton]
    omega
  next =>
    have downAfterRaise : s3.fld d .MIRSIA_STATUS_DOWN link = 1 := (State.raise_down ..).trans (State.down_setFlds (State.fld_setFlds_mem _ (by simp)
      (List.mem_cons_of_mem _ (List.mem_cons_self ..)) d link) ..)
    refine ⟨_, rfl, fun _ => ?_⟩
    split
    · exact downAfterRaise
    · exact (State.source_down ..).trans downAfterRaise

end

/-! The field bridge (R410 to R412, R414, R415). -/

section
variable {s : State} {d : Nat} (hd : s.hasDie d = true)
include hd

section
variable {e : Nat} (he : e < 10)
include he

theorem exec_fbrHeadOnRetry_counts (hfew : lookupD s.ports.retries (d, e) 0 < 64) : exec (.fbrHeadOnRetry d e) s =
    .next { s with ports.retries := insertKV s.ports.retries (d, e) (lookupD s.ports.retries (d, e) 0 + 1) } :=
  (if_neg (not_absent hd he)).trans (congrArg Host.Outcome.next (if_pos hfew))

theorem exec_fbrHeadOnRetry_livelock (hmany : 64 ≤ lookupD s.ports.retries (d, e) 0) : ∃ t, exec (.fbrHeadOnRetry d e) s = .next t ∧
    t.fld d .FBR_STATUS_LIVELOCK = 1 ∧ t.fld d .FBR_LL_MASTER_MASTER = masterId (ioMaster d e) % 2 ^ 12 :=
  ⟨_, (if_neg (not_absent hd he)).trans (congrArg Host.Outcome.next (if_neg (Nat.not_lt.mpr hmany))),
    State.fld_setFlds_mem _ (by simp) (List.mem_cons_self ..) d 0,
    State.fld_setFlds_mem _ (by simp) (List.mem_cons_of_mem _ (List.mem_cons_self ..)) d 0⟩

end

omit hd in
@[simp] theorem State.handling_fbrStatus (s : State) (r : Req) (op d : Nat) : (s.handling r op).fbrStatus d = s.fbrStatus d := by
  simp only [State.fbrStatus, State.handling_fld]

theorem exec_fbrQuery_replies {r : Req} {release : Nat} (hs : Serves s r 0x0B30 (some d)) (hrelease : release < 2) (hman : release = 1 → s.manager r.dom = true) :
    exec (.fbrQuery r d release) s = .next (s.replies r 0x0B30 (some d) (fun t => (if release = 1 then t.setFld d .FBR_STATUS_PWERR 0 0 else t,
      leBytes 4 (s.fbrStatus d) ++ leBytes 8 (s.fld d .FBR_ERR_ADDR_ADDR) ++
        leBytes 4 (s.fld d .FBR_ERR_INFO_CAUSE * 2 ^ 24 + s.fld d .FBR_ERR_INFO_BE * 2 ^ 16 + s.fld d .FBR_ERR_INFO_MASTER) ++
        leBytes 4 (s.fld d .FBR_ERR_OVERFLOW_COUNT) ++ leBytes 4 (s.fld d .FBR_LL_MASTER_MASTER)))) := by
  have allowed : ¬ (release = 1 ∧ ¬ s.manager r.dom = true) := fun h => h.2 (hman h.1)
  refine congrArg Host.Outcome.next (hs.replies ?_)
  simp only [State.handling_hasDie, State.handling_manager, State.handling_fbrStatus, State.handling_fld, if_neg (not_absent hd hrelease), if_neg allowed]

theorem exec_fbrSemTimeout_releases (hheld : s.fld d .FBR_SEM_HELD = 1) :
    exec (.fbrSemTimeout d) s = .next ((s.flag d .FBR_STATUS_SEM_TIMEOUT).semRelease d) :=
  (if_neg (not_not_intro hd)).trans (congrArg Host.Outcome.next (if_pos hheld))

theorem exec_fbrReadRelease_eq : exec (.fbrReadRelease d) s =
    .next (State.semNext d (s.runStalled (some d)).ports.semWaits.length (s.runStalled (some d))) :=
  if_neg (not_not_intro hd)

end

/-- On the peripheral side the bridge emulates the access with its semaphore (R412). -/
theorem exec_fbrAtomicEmulation_regs {s : State} {m : Master} {a : Nat} {op : FbrAtomic} {d off : Nat} {blk : Blk} {o : Nat} (hat : decodeAddr s.part m.die a = .regs d off)
    (hnarrow : atomicWide op = false) (halign : a % 4 = 0) (hrefusal : s.refusal m d off = none) (hblk : blockAt d off = some (blk, o)) (hperi : peripheral blk = true) :
    exec (.fbrAtomicEmulation m a op) s = .next (s.semOp d m a off blk o op) := by
  change execFbrAtomicEmulation m a op s = _
  simp only [execFbrAtomicEmulation, hat, hnarrow, halign, hrefusal, hblk, hperi, ne_eq, not_true_eq_false, or_self, if_false, if_true, Bool.false_eq_true]

/-- Memory does its own atomic accesses (R139). -/
theorem exec_fbrAtomicEmulation_memory {s : State} (m : Master) (a : Nat) (op : FbrAtomic) (d o : Nat)
    (hat : decodeAddr s.part m.die a = .dram d o ∨ decodeAddr s.part m.die a = .granary d o ∨ decodeAddr s.part m.die a = .loft d o) :
    exec (.fbrAtomicEmulation m a op) s = .next (s.memAtomic m a op) := by
  change execFbrAtomicEmulation m a op s = _
  rcases hat with hat | hat | hat
  · simp only [execFbrAtomicEmulation, hat]
  · simp only [execFbrAtomicEmulation, hat]
  · simp only [execFbrAtomicEmulation, hat]

theorem exec_fbrSemReleaseWrite_releases {s : State} (m : Master) (d : Nat) (data : Word) (hw : WritesNow s m d .FBR 0x30) (hguard : s.guardOk m = true)
    (hbit : bit data.toNat 30 = true) : exec (.fbrSemReleaseWrite m d data) s = .next (s.accepted.semRelease d) :=
  congrArg Host.Outcome.next ((hw.eq data _).trans ((State.guarded_ok ((s.accepted_guardOk m).trans hguard) ..).trans (if_pos hbit)))

/-- Settles O31, clause by clause. -/
theorem bridgeRowsComplete : Obligations.BridgeRowsComplete := fun _ =>
  ⟨fun _ hc htwo => ⟨exec_pcieLinkTraining_down hc htwo, exec_pcieLinkTraining_trained hc htwo⟩,
    fun _ u k header hc htwo => exec_pcieAerError_records hc htwo u k header,
    fun _ _ _ _ _ hs htwo hc => exec_pcieSet_replies hc htwo hs,
    fun _ _ lanes hd hlink hup hdown => ⟨exec_mirsiaRetrain_ok hd hlink hup hdown lanes, exec_mirsiaRetrain_third hd hlink hup hdown lanes⟩,
    fun _ _ hd he => ⟨exec_fbrHeadOnRetry_counts hd he, exec_fbrHeadOnRetry_livelock hd he⟩,
    fun _ _ _ hs hd => exec_fbrQuery_replies hd hs,
    fun _ _ _ _ _ _ _ => exec_fbrAtomicEmulation_regs, exec_fbrAtomicEmulation_memory,
    fun _ hd => exec_fbrSemTimeout_releases hd, exec_fbrSemReleaseWrite_releases, fun _ hd => exec_fbrReadRelease_eq hd⟩

end Sys2Proof.Machine
end

section
/-!
SUPPORT and PROOFS. Checked AP pairs and the messages of the checking units (R427 to R429, R439, 19_redundant_execution.md).
-/
namespace Sys2Proof.Machine

section
variable {s : State} {d p : Nat} (hd : s.hasDie d = true) (hp : p < 2)
include hd hp

/-! The checkpoint of a pair (R427, R428). -/

section
variable (lines : PairLines) (hactive : s.pairActive d p = true) (htrip : s.tripped d = false) (htest : (s.pairRun d p).testing = false)
include hactive htrip htest

omit hd hp in
theorem State.pairChecks : ¬ (¬ s.pairActive d p = true ∨ (s.pairRun d p).testing = true ∨ s.tripped d = true) := by
  simp only [hactive, htest, htrip, not_true_eq_false, Bool.false_eq_true, or_self, not_false_eq_true]

theorem exec_apCheckpoint_agreed : exec (.apCheckpoint d p lines true) s =
    if (s.pairRun d p).second = true then .next ((((s.releaseLines d (2 * p) lines.main).setPair d p ⟨[], [], false, false, []⟩).countTransient d).pairEvent d p 0)
    else .next ((s.releaseLines d (2 * p) lines.main).setPair d p ⟨[], [], false, false, []⟩) :=
  (if_neg (not_absent hd hp)).trans ((if_neg (State.pairChecks hactive htrip htest)).trans (if_pos rfl))

theorem exec_apCheckpoint_differs : exec (.apCheckpoint d p lines false) s =
    if (s.pairRun d p).second = true then .next (s.pairLost d p 4)
    else .next ((s.setPair d p ⟨lines.main, lines.checker, true, false, (s.pairRun d p).log⟩).flag d .COMMIT_STATUS_MISMATCH) :=
  (if_neg (not_absent hd hp)).trans ((if_neg (State.pairChecks hactive htrip htest)).trans (if_neg Bool.false_ne_true))

end

/-! The self-test of a pair (R428). -/

section
variable (htrip : s.tripped d = false) (htest : (s.pairRun d p).testing = true)
include htrip htest

omit hd hp in
theorem State.pairTests : ¬ (¬ (s.pairRun d p).testing = true ∨ s.tripped d = true) :=
  not_or.mpr ⟨not_not_intro htest, ne_true_of_eq_false htrip⟩

theorem exec_apPairSelftestEnd_bothPass : exec (.apPairSelftestEnd d p true true) s = .next (s.setPair d p ⟨[], [], false, true, (s.pairRun d p).log⟩) :=
  (if_neg (not_absent hd hp)).trans (if_neg (State.pairTests htrip htest))

theorem exec_apPairSelftestEnd_bothFail : exec (.apPairSelftestEnd d p false false) s = .next (s.pairLost d p 3) :=
  (if_neg (not_absent hd hp)).trans (if_neg (State.pairTests htrip htest))

theorem exec_apPairSelftestEnd_oneFails (main : Bool) :
    let survivor := if main then 2 * p else 2 * p + 1
    let lost := if main then 2 * p + 1 else 2 * p
    let kept := if main then (s.pairRun d p).lines else (s.pairRun d p).checkerLines
    exec (.apPairSelftestEnd d p main (!main)) s = .next (State.source (State.pairEvent (State.countPersistent (State.pairStops
      (((s.releaseLines d survivor kept).setPair d p ⟨[], [], false, false, []⟩).removeAp d lost) d p true) d) d p (if main then 2 else 1))
      { src := 11, die := d } []) := by
  cases main with
  | true => exact (if_neg (not_absent hd hp)).trans (if_neg (State.pairTests htrip htest))
  | false => exact (if_neg (not_absent hd hp)).trans (if_neg (State.pairTests htrip htest))

end

/-! Debug actions (R429). -/

section
variable (a : DebugAct) (hauth : s.fld 0 .SEC_STATUS_DBG_AUTH = 1) (hopen : bit s.sec.dbgOpen 0 = true) (hactive : s.pairActive d p = true)
include hauth hopen hactive

omit hd hp in
theorem State.debugAllowed : ¬ (s.fld 0 .SEC_STATUS_DBG_AUTH ≠ 1 ∨ ¬ bit s.sec.dbgOpen 0 = true ∨ ¬ s.pairActive d p = true) := by
  simp only [hauth, hopen, hactive, ne_eq, not_true_eq_false, or_self, not_false_eq_true]

theorem exec_debugAction_records (hroom : (s.pairRun d p).log.length < 256) : exec (.debugAction d p a) s =
    .next { (s.setPair d p { s.pairRun d p with log := (s.pairRun d p).log ++ [a] }).releaseLines d (2 * p) a.writes with access := .done } :=
  (if_neg (not_absent hd hp)).trans ((if_neg (State.debugAllowed hauth hopen hactive)).trans (if_neg (Nat.not_le.mpr hroom)))

theorem exec_debugAction_full (hfull : 256 ≤ (s.pairRun d p).log.length) : exec (.debugAction d p a) s = .next { s with access := .value 7 } :=
  (if_neg (not_absent hd hp)).trans ((if_neg (State.debugAllowed hauth hopen hactive)).trans (if_pos hfull))

end

theorem exec_appairSet_replies {r : Req} {en : Nat} (hs : Serves s r 0x0752 none) (hen : en < 2) (hgrant : s.granted r.dom = true) :
    exec (.appairSet r d p en) s = .next (s.replies r 0x0752 none (fun t => (t.setFld d (if p = 0 then .APPAIR_CFG_EN0 else .APPAIR_CFG_EN1) 0 en, []))) :=
  congrArg Host.Outcome.next (hs.replies (by
    simp only [State.handling_hasDie, State.handling_granted, hd, hgrant, Nat.not_le.mpr hp, Nat.not_le.mpr hen, not_true_eq_false, or_self, if_false]))

end

/-! The messages of the checking units (R424, R439). -/

section
variable {s : State} {r : Req} {d : Nat}

theorem exec_chkQuery_replies (hs : Serves s r 0x0750 none) (hd : s.hasDie d = true) : exec (.chkQuery r d) s = .next (s.replies r 0x0750 none (fun t => (t,
    leBytes 8 (s.fld d .COMMIT_OUT_CORES) ++ leBytes 4 (s.fld d .COMMIT_COUNT_PERSISTENT * 2 ^ 16 + s.fld d .COMMIT_COUNT_TRANSIENT) ++
      leBytes 4 (s.fld d .COMMIT_SEG_OVERRUN_COUNT) ++ leBytes 4 (s.fld d .APPAIR_CFG_EN0 + 2 * s.fld d .APPAIR_CFG_EN1) ++
      leBytes 4 (s.fld d .APPAIR_STATUS_OUT * 16 + s.fld d .APPAIR_STATUS_DEGRADED * 4 + s.fld d .APPAIR_STATUS_ACTIVE) ++ leBytes 8 0))) :=
  congrArg Host.Outcome.next (hs.replies (by simp only [State.handling_hasDie, State.handling_fld, hd, not_true_eq_false, if_false]))

section
variable {i : Nat} {passes : List Bool} (hs : Serves s r 0x0751 none) (hd : s.hasDie d = true) (hgrant : s.granted r.dom = true) (hthree : 3 ≤ passes.length)
  (hpass : (passes.take 3).all id = true)
include hs hd hgrant hthree hpass

omit hs hd hgrant in
theorem testsPass : ¬ (passes.length < 3 ∨ ¬ (passes.take 3).all id = true) := not_or.mpr ⟨Nat.not_lt.mpr hthree, not_not_intro hpass⟩

/-- A core that was removed returns when its three tests pass. -/
theorem exec_chkRestore_core (hi : i < 48) (hout : bit (s.fld d .COMMIT_OUT_CORES) i = true) : exec (.chkRestore r d 0 i passes) s =
    .next (s.replies r 0x0751 none (fun t => ((t.setFld d .COMMIT_OUT_CORES 0 (clearBit (s.fld d .COMMIT_OUT_CORES) i)).corePassed d i, []))) := by
  refine congrArg Host.Outcome.next (hs.replies ?_)
  simp only [State.handling_hasDie, State.handling_granted, State.handling_fld, hd, Nat.not_le.mpr Nat.two_pos, Nat.not_le.mpr hi, and_false, zero_ne_one, false_and,
    or_self, if_neg (testsPass hthree hpass), hgrant, hout, not_true_eq_false, if_false, if_true]

/-- An AP that was removed returns when its three tests pass. -/
theorem exec_chkRestore_ap (hi : i < 4) (hout : bit (s.fld d .APPAIR_STATUS_OUT) i = true) : exec (.chkRestore r d 1 i passes) s =
    .next (s.replies r 0x0751 none (fun t => ({ t.setFld d .APPAIR_STATUS_OUT 0 (clearBit (s.fld d .APPAIR_STATUS_OUT) i) with
      boot.down := s.boot.down.filter (fun x => decide (x ≠ (d, i))) }, []))) := by
  refine congrArg Host.Outcome.next (hs.replies ?_)
  simp only [State.handling_hasDie, State.handling_granted, State.handling_fld, State.handling_boot, hd, Nat.not_le.mpr Nat.one_lt_two, Nat.not_le.mpr hi,
    and_false, one_ne_zero, false_and, or_self, if_neg (testsPass hthree hpass), hgrant, hout, not_true_eq_false, if_false]

end

end

/-- Settles O33, clause by clause. -/
theorem checkingRowsComplete : Obligations.CheckingRowsComplete := fun _ =>
  ⟨fun _ _ lines hd hp hactive htrip htest => ⟨fun hfirst => (exec_apCheckpoint_agreed hd hp lines hactive htrip htest).trans (if_neg (ne_true_of_eq_false hfirst)),
      fun hsecond => (exec_apCheckpoint_agreed hd hp lines hactive htrip htest).trans (if_pos hsecond),
      fun hfirst => (exec_apCheckpoint_differs hd hp lines hactive htrip htest).trans (if_neg (ne_true_of_eq_false hfirst)),
      fun hsecond => (exec_apCheckpoint_differs hd hp lines hactive htrip htest).trans (if_pos hsecond)⟩,
    fun _ _ hd hp htrip htest => ⟨exec_apPairSelftestEnd_bothPass hd hp htrip htest, exec_apPairSelftestEnd_bothFail hd hp htrip htest,
      exec_apPairSelftestEnd_oneFails hd hp htrip htest⟩,
    fun _ _ a hd hp hauth hopen hactive => ⟨exec_debugAction_records hd hp a hauth hopen hactive, exec_debugAction_full hd hp a hauth hopen hactive⟩,
    fun _ _ => exec_chkQuery_replies,
    fun _ _ _ _ hs hd hi hgrant hthree hpass => exec_chkRestore_core hs hd hgrant hthree hpass hi,
    fun _ _ _ _ hs hd hi hgrant hthree hpass => exec_chkRestore_ap hs hd hgrant hthree hpass hi,
    fun _ _ _ _ hs hd hp hen hgrant => exec_appairSet_replies hd hp hs hen hgrant⟩

end Sys2Proof.Machine
end

section
/-!
SUPPORT and PROOFS. The link to the mirror partner, its transfers and heartbeats, and the messages of the pair (R430 to R435, R437, R439, R441,
19_redundant_execution.md).
-/
namespace Sys2Proof.Machine

/-! What sending the initial images keeps (R432). -/

section
variable (s : State) (which : State → Nat → Bool)

/-- Sending images keeps whatever each of them keeps. -/
theorem State.sendImages_keeps {α : Type} (p : State → α) (h : ∀ (t : State) i, p (t.sendImage i []) = p t) : p (s.sendImages which) = p s :=
  foldl_keeps p (fun t i => by split; exacts [h t i, rfl]) _ _

theorem State.sendImages_partner : (s.sendImages which).mirror.partner = s.mirror.partner := s.sendImages_keeps which (·.mirror.partner) (fun _ _ => rfl)

theorem State.sendImages_fld {f : Fld} (hseq : f ≠ .MIRROR_SEQ_SEQ) (hsync : f ≠ .MIRROR_FN_SYNCED) : (s.sendImages which).fld 0 f = s.fld 0 f :=
  s.sendImages_keeps which (·.fld 0 f) (fun _ i => (State.fld_setFld_other _ 0 0 i 0 _ hsync).trans (State.fld_setFld_other _ 0 0 0 0 _ hseq))

end

/-! The port and its lanes (R430, R431). -/

section
variable {s : State} {lanes : Nat} (hlanes : (List.range 4).filter (bit lanes) ≠ []) (hen : s.portEnabled = true) (hrole : s.fld 0 .MIRROR_STATUS_ROLE = 0)
  (hopen : s.pairCode ≠ 0 ∨ s.mirror.window = true) (code digest : Nat)
include hlanes hen hrole hopen

theorem exec_mirrorPortTrained_pairs (hpair : s.pairRole s.pairCode code digest ≠ 0) :
    ∃ t, exec (.mirrorPortTrained lanes code ⟨digest, true⟩) s = .next t ∧ t.mirror.partner = some (code, digest) ∧ t.fld 0 .MIRROR_STATUS_LINK_UP = 1 ∧
      t.fld 0 .MIRROR_STATUS_ROLE = s.pairRole s.pairCode code digest % 4 := by
  change ∃ t, execMirrorPortTrained lanes code ⟨digest, true⟩ s = _ ∧ _
  have window : ¬ (s.pairCode = 0 ∧ ¬ s.mirror.window = true) := fun h => hopen.elim (absurd h.1) h.2
  rw [execMirrorPortTrained, if_neg (not_or.mpr ⟨hlanes, not_not_intro hen⟩)]
  simp -zeta only [hrole, ne_eq, not_true_eq_false, if_false, if_neg window]
  extract_lets src s1 role sec1 mirror1 s2
  rw [if_neg (not_or.mpr ⟨hpair, not_false⟩)]
  have link : s2.fld 0 .MIRROR_STATUS_LINK_UP = 1 := (State.fld_setFld_other _ 0 0 0 0 _ (by decide)).trans (State.fld_setFld_same ..)
  have named : s2.fld 0 .MIRROR_STATUS_ROLE = role % 4 := State.fld_setFld_same ..
  split
  · exact ⟨_, rfl, State.sendImages_partner .., (State.sendImages_fld _ _ (by decide) (by decide)).trans link, (State.sendImages_fld _ _ (by decide) (by decide)).trans named⟩
  · exact ⟨_, rfl, rfl, link, named⟩

theorem exec_mirrorPortTrained_mistrusts :
    ∃ t, exec (.mirrorPortTrained lanes code ⟨digest, false⟩) s = .next t ∧ t.fld 0 .MIRROR_STATUS_ROLE_ERR = 1 ∧ t.fld 0 .MIRROR_STATUS_ROLE = 0 := by
  have window : ¬ (s.pairCode = 0 ∧ ¬ s.mirror.window = true) := fun h => hopen.elim (absurd h.1) h.2
  refine ⟨_, (if_neg (not_or.mpr ⟨hlanes, not_not_intro hen⟩)).trans ((if_neg (not_not_intro hrole)).trans ((if_neg window).trans (if_pos (.inr Bool.false_ne_true)))),
    State.fld_setFld_same .., ?_⟩
  exact (State.fld_setFld_other _ 0 0 0 0 _ (by decide)).trans ((State.fld_setFld_other _ 0 0 0 0 _ (by decide)).trans
    ((State.fld_setFld_other _ 0 0 0 0 _ (by decide)).trans hrole))

end

theorem exec_mirrorLaneLoss_runsOn {s : State} (l : Nat) (hl : l < 4) (hmem : l ∈ s.mirror.lanes) (hleft : s.mirror.lanes.filter (fun x => decide (x ≠ l)) ≠ []) :
    ∃ t, exec (.mirrorLaneLoss l) s = .next t ∧ t.mirror.lanes = s.mirror.lanes.filter (fun x => decide (x ≠ l)) ∧
      t.fld 0 .MIRROR_STATUS_LINK_UP = s.fld 0 .MIRROR_STATUS_LINK_UP :=
  ⟨_, (if_neg (Nat.not_le.mpr hl)).trans ((if_neg (not_not_intro hmem)).trans (if_pos hleft)), rfl, State.fld_setFld_other _ 0 0 0 0 _ (by decide)⟩

/-! Transfers and acknowledgements (R432, R433). -/

section
variable {s : State}

/-- The standby applies the transfer that it expects, and acknowledges it. -/
theorem exec_mirrorTransferRx_applies {seq n i : Nat} {records : List MirrorRec} {t : State} (hrole : s.fld 0 .MIRROR_STATUS_ROLE = 2)
    (hlink : s.fld 0 .MIRROR_STATUS_LINK_UP ≠ 0) (hn : n ≤ 2048) (hplain : ∀ x ∈ records, x.kind ≠ 2) (hexpect : s.mirror.expect = seq)
    (hentry : s.mirrored (fnDom n) = some i) (hput : s.putRecs (fnDom n) records = some t) : exec (.mirrorTransferRx seq n records) s =
      .next ((({ t with mirror.expect := seq + 1 } : State).setFlds 0 0 [(.MIRROR_SEQ_SEQ, seq), (.MIRROR_ACK_SEQ, seq)]).send (.transfer seq n [])) := by
  have noImage : records.any (fun r => decide (r.kind = 2)) = false := List.any_eq_false.mpr (fun x hx => by simpa using hplain x hx)
  change execMirrorTransferRx seq n records s = _
  simp only [execMirrorTransferRx, hrole, hlink, Nat.not_lt.mpr hn, noImage, hexpect, hentry, hput, ne_eq, not_true_eq_false, Option.isNone_some, Bool.false_eq_true,
    or_self, if_false]

/-- What an answer of the pair's messages leaves alone. -/
theorem State.answer_mirror (r : Req) (op : Nat) (st : Status) (p : List Byte) : (s.answer r op st p).mirror = s.mirror :=
  mirror_of_mask (s.answer_mask r op st p (Nat.and_self _)) rfl

theorem State.answer_ack (r : Req) (op : Nat) (st : Status) (p : List Byte) : (s.answer r op st p).fld 0 .MIRROR_ACK_SEQ = s.fld 0 .MIRROR_ACK_SEQ :=
  fld_of_mask (s.answer_mask r op st p (Nat.and_self _)) rfl _ rfl (.inl rfl) 0 0

theorem State.synced_mirror : s.synced.mirror = s.mirror := mirror_of_mask (s.synced_mask (Nat.and_self _)) rfl

theorem State.synced_ack : s.synced.fld 0 .MIRROR_ACK_SEQ = s.fld 0 .MIRROR_ACK_SEQ := fld_of_mask (s.synced_mask (Nat.and_self _)) rfl _ rfl (.inl rfl) 0 0

theorem exec_mirrorAckRx_acks (seq : Nat) (hrole : s.fld 0 .MIRROR_STATUS_ROLE = 1) : ∃ t, exec (.mirrorAckRx seq) s = .next t ∧
    t.fld 0 .MIRROR_ACK_SEQ = seq % 2 ^ 64 ∧ t.mirror.queue = s.mirror.queue.filter (fun x => decide (seq < x.1)) ∧
    t.mirror.initial = s.mirror.initial.filter (fun x => decide (seq < x.2.1)) := by
  change ∃ t, execMirrorAckRx seq s = _ ∧ _
  rw [execMirrorAckRx, if_neg (not_not_intro hrole)]
  extract_lets done src s1 s2 s3
  have mirror : s3.synced.mirror = s1.mirror := by
    refine State.synced_mirror.trans (foldl_keeps (s := s2) State.mirror (fun t x => (foldl_keeps State.mirror (fun _ _ => State.answer_mirror ..) ..).trans ?_) done)
    split
    · rfl
    · rfl
  have ack : s3.synced.fld 0 .MIRROR_ACK_SEQ = seq % 2 ^ 64 := by
    refine State.synced_ack.trans ((foldl_keeps (s := s2) (fun v : State => v.fld 0 .MIRROR_ACK_SEQ) (fun t x => (foldl_keeps (fun v : State => v.fld 0 .MIRROR_ACK_SEQ)
      (fun _ _ => State.answer_ack ..) ..).trans ?_) done).trans ((State.fld_setFld_other _ 0 0 0 0 _ (by decide)).trans (State.fld_setFld_same ..)))
    split
    next i _ => exact State.fld_setFld_other _ 0 0 i 0 _ (by decide)
    next => rfl
  exact ⟨_, rfl, ack, congrArg (·.queue) mirror, congrArg (·.initial) mirror⟩

/-! Heartbeats (R434, R435). -/

theorem exec_heartbeatSend_alone (hrole : s.fld 0 .MIRROR_STATUS_ROLE = 0) : exec .heartbeatSend s = .next { s with clk.noticeDue := false } :=
  if_pos hrole

theorem exec_heartbeatSend_sends (role : Nat) (hrole : s.fld 0 .MIRROR_STATUS_ROLE = role) (hpair : role ≠ 0) (hnotice : s.clk.noticeDue = false)
    (hlink : s.fld 0 .MIRROR_STATUS_LINK_UP = 1) (halt : s.fld 0 .MIRROR_CFG_ALT_EN ≠ 1) :
    ∃ t, exec .heartbeatSend s = .next t ∧ t.mirror.sent = (s.mirror.sent + 1) % 2 ^ 32 ∧ t.out = s.out ++ [.heartbeat false
      ⟨role, (s.mirror.sent + 1) % 2 ^ 32, s.fld 0 .MIRROR_SEQ_SEQ, s.now, false, s.isSafe, s.handoverReady, decide (s.fld 0 .MIRROR_STATUS_UNSYNC = 1)⟩] := by
  change ∃ t, execHeartbeatSend s = _ ∧ _
  simp only [execHeartbeatSend, hrole, if_neg hpair, hnotice, if_pos hlink, if_neg halt, Bool.false_eq_true, false_and, if_false]
  exact ⟨_, rfl, rfl, rfl⟩

/-- A standby that hears its partner answers a failing clock and a handover by a takeover. -/
theorem exec_heartbeatRx_standby (h : Heartbeat) (hrole : s.fld 0 .MIRROR_STATUS_ROLE = 2) (hlink : s.fld 0 .MIRROR_STATUS_LINK_UP ≠ 0) (hsafe : h.safeState = false) :
    ∃ u : State, u.mirror.heard = some h ∧ u.mirror.misses = 0 ∧ u.fld 0 .MIRROR_STATUS_UNSYNC = b2n h.unsync ∧
      exec (.heartbeatRx false h) s = .next (if h.clkFail = true then u.takeover 1 else if h.handover = true then u.takeover 2 else u) := by
  refine ⟨({ s with mirror.misses := 0, mirror.heard := some h } : State).setFld 0 .MIRROR_STATUS_UNSYNC 0 (b2n h.unsync), rfl, rfl, ?_, ?_⟩
  · exact (State.fld_setFld_same ..).trans (by cases h.unsync <;> rfl)
  · change execHeartbeatRx false h s = _
    simp only [execHeartbeatRx, hrole, hlink, hsafe, Bool.false_eq_true, if_false, or_self, OfNat.ofNat_ne_zero, Bool.false_and, if_true]

/-- One more heartbeat missed on the mirror port, counted in MIRROR_HB_MISS and in the Tithe store. -/
def State.missedOne (s : State) : State :=
  (({ s with mirror.misses := s.mirror.misses + 1 } : State).addSat 0 .MIRROR_HB_MISS_COUNT 0 1).titheAdd 0x09A 1

theorem exec_heartbeatMissed_counts (hrole : s.fld 0 .MIRROR_STATUS_ROLE ≠ 0) (hfirst : s.mirror.misses + 1 ≠ 2) :
    exec (.heartbeatMissed false) s = .next s.missedOne := by
  have notYet : ¬ decide (s.missedOne.mirror.misses = 2) = true := fun h => hfirst (of_decide_eq_true h)
  exact (if_neg (not_or.mpr ⟨hrole, fun h => Bool.false_ne_true h.1⟩)).trans (if_pos notYet)

theorem exec_heartbeatMissed_first (hrole : s.fld 0 .MIRROR_STATUS_ROLE ≠ 0) (hnone : s.mirror.misses = 0) :
    ∃ t, exec (.heartbeatMissed false) s = .next t ∧ t.mirror.misses = 1 :=
  ⟨_, exec_heartbeatMissed_counts hrole (by rw [hnone]; decide), congrArg (· + 1) hnone⟩

/-- The second heartbeat in a row that a standby misses makes it primary. -/
theorem exec_heartbeatMissed_second (hrole : s.fld 0 .MIRROR_STATUS_ROLE = 2) (hone : s.mirror.misses = 1) (halt : s.fld 0 .MIRROR_CFG_ALT_EN ≠ 1) :
    ∃ u : State, u.fld 0 .MIRROR_STATUS_HB_LOST = 1 ∧ u.mirror.misses = 2 ∧ exec (.heartbeatMissed false) s = .next (u.takeover 0) := by
  have second : s.missedOne.mirror.misses = 2 := congrArg (· + 1) hone
  have lost : decide (2 ≤ s.missedOne.mirror.misses) = true := decide_eq_true second.ge
  have paired : s.fld 0 .MIRROR_STATUS_ROLE ≠ 0 := by rw [hrole]; decide
  refine ⟨s.missedOne.flag 0 .MIRROR_STATUS_HB_LOST, State.fld_setFld_same .., second, ?_⟩
  exact (if_neg (not_or.mpr ⟨paired, fun h => Bool.false_ne_true h.1⟩)).trans ((if_neg (not_not_intro (decide_eq_true second))).trans
    ((if_pos ⟨lost, .inr halt⟩).trans (if_pos hrole)))

end

/-! The messages of the pair (R432, R437, R439, R441). -/

section
variable {s : State} {r : Req} {op : Nat}

@[simp] theorem State.handling_hasFeature (n : Nat) : (s.handling r op).hasFeature r n = s.hasFeature r n := by
  unfold State.handling
  split
  · rfl
  · simp only [State.hasFeature, State.box_begin]

@[simp] theorem State.handling_pairRefusal : (s.handling r op).pairRefusal r = s.pairRefusal r := by
  simp only [State.pairRefusal, State.handling_hasFeature, State.handling_granted]

@[simp] theorem State.handling_pairUp : (s.handling r op).pairUp = s.pairUp := by
  simp only [State.pairUp, State.handling_fld]

@[simp] theorem State.handling_mirroredFns : (s.handling r op).mirroredFns = s.mirroredFns := by
  simp only [State.mirroredFns, State.handling_fld]

theorem State.flag_handover_mirroredFns (t : State) : (t.flag 0 .MIRROR_STATUS_HANDOVER).mirroredFns = t.mirroredFns := by
  simp only [State.mirroredFns, State.flag, State.fld_setFld_other t 0 0 0 _ 1 (show Fld.MIRROR_FN_EN ≠ .MIRROR_STATUS_HANDOVER by decide),
    State.fld_setFld_other t 0 0 0 _ 1 (show Fld.MIRROR_FN_FUNCTION ≠ .MIRROR_STATUS_HANDOVER by decide)]

theorem exec_pairSet_replies {en role alt port mac : Nat} (hs : Serves s r 0x0760 none) (hen : en < 2) (hrole : role < 3) (halt : alt < 2)
    (hport : port < 8 * s.part.dies) (hseven : port % 8 ≠ 7) (hrefusal : s.pairRefusal r = none) (hidle : s.fld 0 .MIRROR_STATUS_HANDOVER ≠ 1) :
    exec (.pairSet r en role alt port mac) s = .next (s.replies r 0x0760 none (fun t =>
      ({ t.setFlds 0 0 [(.MIRROR_CFG_EN, en), (.MIRROR_CFG_ROLE_REQ, role), (.MIRROR_CFG_ALT_EN, alt), (.MIRROR_CFG_ALT_PORT, port)] with mirror.altMac := mac }, []))) := by
  refine congrArg Host.Outcome.next (hs.replies ?_)
  simp only [State.handling_part, State.handling_pairRefusal, State.handling_fld, Nat.not_le.mpr hen, Nat.not_le.mpr hrole, Nat.not_le.mpr halt, Nat.not_le.mpr hport, hseven,
    or_self, if_false, hrefusal, if_neg hidle]

section
variable {n i : Nat} (hs : Serves s r 0x0761 none) (hn : n ≤ 2048) (hrefusal : s.pairRefusal r = none)
include hs hn hrefusal

theorem exec_pairMirror_stops
    (hentry : (List.range 64).find? (fun i => decide (s.fld 0 .MIRROR_FN_EN i = 1) && decide (s.fld 0 .MIRROR_FN_FUNCTION i = n)) = some i) :
    exec (.pairMirror r n 0) s = .next (s.replies r 0x0761 none (fun t =>
      ((t.dropImages .conflict (fun f => decide (f = n))).setFlds 0 i [(.MIRROR_FN_EN, 0), (.MIRROR_FN_SYNCED, 0)], []))) := by
  refine congrArg Host.Outcome.next (hs.replies ?_)
  simp only [State.handling_pairRefusal, State.handling_fld, Nat.not_lt.mpr hn, Nat.not_le.mpr Nat.two_pos, or_self, if_false, hrefusal, if_true, hentry]

theorem exec_pairMirror_starts (hup : s.pairUp = true)
    (hentry : (List.range 64).find? (fun i => decide (s.fld 0 .MIRROR_FN_EN i = 1) && decide (s.fld 0 .MIRROR_FN_FUNCTION i = n)) = none)
    (hfree : (List.range 64).find? (fun i => decide (s.fld 0 .MIRROR_FN_EN i = 0)) = some i) :
    exec (.pairMirror r n 1) s = .next (s.defers r 0x0761 none (fun t => (t.setFlds 0 i [(.MIRROR_FN_EN, 1), (.MIRROR_FN_FUNCTION, n)]).sendImage i [r])) := by
  have primary : s.fld 0 .MIRROR_STATUS_ROLE = 1 := of_decide_eq_true (Bool.and_eq_true_iff.mp hup).1
  refine congrArg Host.Outcome.next (hs.defers ?_)
  simp only [State.handling_pairRefusal, State.handling_fld, State.handling_pairUp, Nat.not_lt.mpr hn, Nat.not_le.mpr Nat.one_lt_two, or_self, if_false, hrefusal, one_ne_zero,
    primary, OfNat.one_ne_ofNat, hentry, hfree, hup, if_true]

end

theorem exec_pairHandover_defers (hs : Serves s r 0x0762 none) (hrefusal : s.pairRefusal r = none) (hsync : s.fld 0 .MIRROR_STATUS_UNSYNC ≠ 1)
    (hfreezes : s.fn.freezes = []) (hact : s.fw.activation = none) (hnone : s.mirror.handover = none) (hup : s.pairUp = true) :
    exec (.pairHandover r) s = .next (s.defers r 0x0762 none (fun t =>
      s.mirroredFns.foldl (fun u f => u.beginFreeze f [] true) (({ t with mirror.handover := some (some r) } : State).flag 0 .MIRROR_STATUS_HANDOVER))) := by
  have free : ¬ ((s.handling r 0x0762).fld 0 .MIRROR_STATUS_UNSYNC = 1 ∨ (s.handling r 0x0762).fn.freezes ≠ [] ∨ (s.handling r 0x0762).fw.activation.isSome = true ∨
      (s.handling r 0x0762).mirror.handover.isSome = true ∨ ¬ (s.handling r 0x0762).pairUp = true) := by
    simp [hsync, hfreezes, hact, hnone, hup]
  refine congrArg Host.Outcome.next (hs.defers ?_)
  simp only [State.handling_pairRefusal, hrefusal, if_neg free, State.flag_handover_mirroredFns]
  change later (List.foldl _ _ (s.handling r 0x0762).mirroredFns) = _
  rw [State.handling_mirroredFns]

theorem exec_pairQuery_replies (hs : Serves s r 0x0763 none) (hfeature : s.hasFeature r 13 = true) :
    exec (.pairQuery r) s = .next (s.replies r 0x0763 none (fun t => (t,
      leBytes 4 (s.fld 0 .MIRROR_STATUS_LANES * 2 ^ 8 + s.fld 0 .MIRROR_STATUS_ROLE_ERR * 2 ^ 7 + s.fld 0 .MIRROR_STATUS_UNSYNC * 2 ^ 6 +
          s.fld 0 .MIRROR_STATUS_HANDOVER * 2 ^ 5 + s.fld 0 .MIRROR_STATUS_ALT_OK * 2 ^ 4 + s.fld 0 .MIRROR_STATUS_LINK_UP * 2 ^ 3 +
          s.fld 0 .MIRROR_STATUS_ROLE * 2 + s.fld 0 .MIRROR_STATUS_HB_LOST) ++
        leBytes 8 (s.fld 0 .MIRROR_SEQ_SEQ) ++ leBytes 8 (s.fld 0 .MIRROR_ACK_SEQ) ++ leBytes 4 (s.fld 0 .MIRROR_LAG_COUNT) ++
        leBytes 4 (s.fld 0 .MIRROR_HB_MISS_COUNT) ++ leBytes 4 0))) :=
  congrArg Host.Outcome.next (hs.replies (by simp only [State.handling_hasFeature, State.handling_fld, hfeature, not_true_eq_false, if_false]))

theorem State.wrMirrorFn_starts {i data : Nat} (hfree : s.fld 0 .MIRROR_FN_EN i = 0) (hn : bits data 11 0 ≤ 2048) (hen : bits data 31 31 = 1) (hup : s.pairUp = true) :
    wrMirrorFn i data s = (s.setFlds 0 i [(.MIRROR_FN_FUNCTION, bits data 11 0), (.MIRROR_FN_EN, 1)]).sendImage i [] := by
  have up : (s.setFlds 0 i [(.MIRROR_FN_FUNCTION, bits data 11 0), (.MIRROR_FN_EN, 1)]).pairUp = true := by
    rw [State.pairUp, State.fld_setFlds_notin _ (by simp), State.fld_setFlds_notin _ (by simp)]
    exact hup
  simp only [wrMirrorFn, if_neg (Nat.not_lt.mpr hn), hfree, if_true, hen, one_ne_zero, if_false, true_and]
  exact if_pos up

/-- Naming a function in a free entry sends its initial image (R441). -/
theorem exec_mirrorFnWrite_starts {m : Master} {i : Nat} {data : Word} (hi : i < 64) (hw : WritesNow s m 0 .MIRROR (0x100 + 4 * i)) (hguard : s.guardOk m = true)
    (hfree : s.fld 0 .MIRROR_FN_EN i = 0) (hn : bits data.toNat 11 0 ≤ 2048) (hen : bits data.toNat 31 31 = 1) (hup : s.pairUp = true) :
    exec (.mirrorFnWrite m i data) s =
      .next ((s.accepted.setFlds 0 i [(.MIRROR_FN_FUNCTION, bits data.toNat 11 0), (.MIRROR_FN_EN, 1)]).sendImage i []) := by
  refine (if_neg (Nat.not_le.mpr hi)).trans (congrArg Host.Outcome.next ((hw.eq data _).trans ((State.guarded_ok ((s.accepted_guardOk m).trans hguard) ..).trans ?_)))
  exact State.wrMirrorFn_starts hfree hn hen hup

end

/-- Settles O34, clause by clause. -/
theorem mirrorRowsComplete : Obligations.MirrorRowsComplete := fun _ =>
  ⟨fun _ code digest hlanes hen hrole hopen => ⟨exec_mirrorPortTrained_pairs hlanes hen hrole hopen code digest,
      exec_mirrorPortTrained_mistrusts hlanes hen hrole hopen code digest⟩,
    rfl, exec_mirrorLaneLoss_runsOn, fun _ _ _ _ _ => exec_mirrorTransferRx_applies, exec_mirrorAckRx_acks, exec_heartbeatSend_alone, exec_heartbeatSend_sends,
    exec_heartbeatRx_standby, exec_heartbeatMissed_first, exec_heartbeatMissed_second, fun _ _ _ _ _ _ => exec_pairSet_replies,
    fun _ _ _ hs hn hrefusal => exec_pairMirror_stops hs hn hrefusal, fun _ _ _ hs hn hrefusal => exec_pairMirror_starts hs hn hrefusal,
    fun _ => exec_pairHandover_defers, fun _ => exec_pairQuery_replies, fun _ _ _ => exec_mirrorFnWrite_starts⟩

end Sys2Proof.Machine
end

section
/-!
SUPPORT and PROOFS. The Tithe store: its hourly record, the end of a write and of an erase, and its messages (R497, R500, R502).
-/
namespace Sys2Proof.Machine

section
variable {s : State}

/-- What a write leaves in flash depends on the flash alone. -/
theorem State.putFlash_flash {t : State} (h : t.flash = s.flash) (a : Nat) (bs : List Byte) : (t.putFlash a bs).flash = (s.putFlash a bs).flash := by
  induction bs generalizing a s t with
  | nil => exact h
  | cons b bs ih => exact ih (congrArg (cellPut 0xFF#8 · a b) h) (a + 1)

/-- With no TITHE_FLUSH waiting and no power going, a record that reads back is the bank in use, and the other bank is being erased. -/
theorem exec_titheWriteEnd_good {reason : Nat} (hwriting : s.tithe.writing = some reason) (hpower : reason ≠ 2) (hflush : s.tithe.flushReq = none) :
    ∃ t, exec (.titheWriteEnd true) s = .next t ∧ t.tithe.writing = none ∧ t.fld 0 .TITHE_STATUS_ERASING = 1 ∧ t.fld 0 .TITHE_SEQ_SEQ = s.tithe.seq % 2 ^ 32 ∧
      t.flash = (s.putFlash (titheBase s.titheInto) s.tithe.image).flash := by
  change ∃ t, execTitheWriteEnd true s = _ ∧ _
  simp only [execTitheWriteEnd, hwriting, hflush, if_true, if_neg hpower, State.fresh]
  refine ⟨_, rfl, rfl, ?_, ?_, ?_⟩
  · exact State.fld_setFlds_mem _ (by simp) (List.mem_cons_of_mem _ (List.mem_cons_of_mem _ (List.mem_cons_self ..))) 0 0
  · exact State.fld_setFlds_mem _ (by simp) (List.mem_cons_of_mem _ (List.mem_cons_self ..)) 0 0
  · change (s.fresh.2.putFlash (titheBase s.titheInto) s.tithe.image).flash = _
    exact State.putFlash_flash (s := s) (t := s.fresh.2) rfl ..

theorem exec_titheWriteEnd_bad {reason : Nat} (hwriting : s.tithe.writing = some reason) (hpower : reason ≠ 2) (hflush : s.tithe.flushReq = none) :
    ∃ t, exec (.titheWriteEnd false) s = .next t ∧ t.tithe.writing = none ∧ t.fld 0 .TITHE_STATUS_WRITE_ERR = 1 := by
  change ∃ t, execTitheWriteEnd false s = _ ∧ _
  simp only [execTitheWriteEnd, hwriting, hflush, Bool.false_eq_true, if_false, if_neg hpower, State.fresh]
  exact ⟨_, rfl, rfl, State.fld_setFld_same ..⟩

theorem exec_titheEraseEnd_erases (herasing : s.fld 0 .TITHE_STATUS_ERASING = 1) : exec .titheEraseEnd s =
    .next ((s.eraseFlash (titheBase (1 - s.fld 0 .TITHE_STATUS_BANK)) 0x4000).setFld 0 .TITHE_STATUS_ERASING 0 0) :=
  congrArg Host.Outcome.next (if_pos herasing)

theorem exec_titheHourlyWrite_starts (hstep : 8 ≤ s.stepOf 0) : exec .titheHourlyWrite s = .next (s.titheStart 0 none) :=
  congrArg Host.Outcome.next (if_pos hstep)

end

section
variable {s : State} {r : Req} {op : Nat}

@[simp] theorem State.handling_titheSection (d : Nat) : (s.handling r op).titheSection d = s.titheSection d := by
  simp only [State.titheSection, State.handling_tithe]

@[simp] theorem State.handling_titheRecord (reason seq : Nat) : (s.handling r op).titheRecord reason seq = s.titheRecord reason seq := by
  simp only [State.titheRecord, State.handling_tithe, State.handling_part, State.handling_dieList, funext (State.handling_titheSection (s := s) (r := r) (op := op))]

@[simp] theorem State.handling_titheBusy : (s.handling r op).titheBusy = s.titheBusy := by
  simp only [State.titheBusy, State.handling_tithe, State.handling_fld]

theorem exec_titheRead_replies {offset : Nat} (hs : Serves s r 0x0840 (some 0)) (hoffset : offset < (s.titheRecord 0 (s.fld 0 .TITHE_SEQ_SEQ)).length) :
    exec (.titheRead r offset) s = .next (s.replies r 0x0840 (some 0) (fun t => (t, ((s.titheRecord 0 (s.fld 0 .TITHE_SEQ_SEQ)).drop offset).take 4080))) :=
  congrArg Host.Outcome.next (hs.replies (by simp only [State.handling_titheRecord, State.handling_fld, if_neg (Nat.not_le.mpr hoffset)]))

section
variable (hs : Serves s r 0x0841 (some 0)) (hman : s.manager r.dom = true)
include hs hman

theorem exec_titheFlush_defers (hidle : s.titheBusy = false) : exec (.titheFlush r) s = .next (s.defers r 0x0841 (some 0) (fun t => t.titheStart 3 (some r))) :=
  congrArg Host.Outcome.next (hs.defers (by
    simp only [State.handling_manager, State.handling_titheBusy, hman, hidle, not_true_eq_false, Bool.false_eq_true, if_false]))

theorem exec_titheFlush_busy (hbusy : s.titheBusy = true) : exec (.titheFlush r) s = .next (s.refuses r 0x0841 (some 0) .busy) :=
  congrArg Host.Outcome.next (hs.refuses (by
    simp only [State.handling_manager, State.handling_titheBusy, hman, hbusy, not_true_eq_false, if_false, if_true]))

end

end

/-- Settles O37, clause by clause. -/
theorem titheRowsComplete : Obligations.TitheRowsComplete := fun _ =>
  ⟨fun _ hwriting hpower hflush => ⟨exec_titheWriteEnd_good hwriting hpower hflush, exec_titheWriteEnd_bad hwriting hpower hflush⟩,
    exec_titheEraseEnd_erases, exec_titheHourlyWrite_starts, fun _ _ => exec_titheRead_replies,
    fun _ hs hman => ⟨exec_titheFlush_defers hs hman, exec_titheFlush_busy hs hman⟩⟩

end Sys2Proof.Machine
end

section
/-!
SUPPORT and PROOFS. The safe state's timers and registers, the Gleaner, the rotating tests of checkers, and the messages of the safety group (R443 to R465,
19_redundant_execution.md and 20_functional_safety.md).
-/
namespace Sys2Proof.Machine

/-! Confirmation, silence, and the safety registers (R443, R447, R448, R450, R464). -/

section
variable {s : State}

theorem exec_secConfirmLapse_acts (hok : s.fld 0 .SAFE_STATUS_SEC_OK ≠ 0) : exec .secConfirmLapse s =
    .next (State.source (({ s with safe.chan1 := false } : State).setFld 0 .SAFE_STATUS_SEC_OK 0 0) { src := 12, die := 0 } []) :=
  if_neg hok

theorem exec_silenceTimeout_acts {d k : Nat} (hd : s.hasDie d = true) (hk : k < 16) (harm : s.fld 0 .SAFE_CTRL_ARM = 1) (hen : s.fld d .SAFE_SILO_CFG_EN k = 1)
    (hsilo : k ∈ s.classSSilos d) (hsilent : (d, k) ∉ s.safe.silent)
    (hlong : (s.fld 0 .SAFE_CTRL_FTTI_MS - 2) * 1000000 ≤ s.now - max s.safe.armTime (s.silo d k).lastFinal) : exec (.silenceTimeout d k) s =
      .next (({ s with safe.silent := s.safe.silent ++ [(d, k)] } : State).source { src := 5, die := d, silo := some k } [(d, k)]) :=
  (if_neg (not_absent hd hk)).trans (if_pos ⟨harm, hen, hsilo, hsilent, hlong⟩)

/-! What a write of SAFE_CTRL does, by the part of it that differs. -/

section
variable {m : Master} {data : Nat} (same : Option Nat)

theorem wrSafeCtrl_arms (hclear : bits data 30 30 = 0) (hftti : bits data 25 16 = s.fld 0 .SAFE_CTRL_FTTI_MS) (harm : s.fld 0 .SAFE_CTRL_ARM ≠ bits data 31 31)
    (h372 : s.otherHolds m 1 0 372 = false) (h374 : s.otherHolds m 1 0 374 = false) : wrSafeCtrl m 0 data same s = s.setArm (bits data 31 31) := by
  simp only [wrSafeCtrl, ne_eq, not_true_eq_false, if_false, hclear, zero_ne_one, hftti, if_true, if_neg (Ne.symm harm), h372, h374, Bool.false_eq_true, or_self]

theorem wrSafeCtrl_ftti (hclear : bits data 30 30 = 0) (harm : bits data 31 31 = s.fld 0 .SAFE_CTRL_ARM) (hoff : s.fld 0 .SAFE_CTRL_ARM ≠ 1)
    (hlow : 20 ≤ bits data 25 16) (hhigh : bits data 25 16 ≤ 500) (hnew : bits data 25 16 ≠ s.fld 0 .SAFE_CTRL_FTTI_MS) :
    wrSafeCtrl m 0 data same s = s.setFld 0 .SAFE_CTRL_FTTI_MS 0 (bits data 25 16) := by
  simp only [wrSafeCtrl, ne_eq, not_true_eq_false, if_false, hclear, zero_ne_one, if_neg hnew, if_neg (show ¬ (s.fld 0 .SAFE_CTRL_ARM = 1 ∨ bits data 25 16 < 20 ∨
    500 < bits data 25 16) by omega), harm, if_true]

theorem wrSafeCtrl_clears (hclear : bits data 30 30 = 1) (hftti : bits data 25 16 = s.fld 0 .SAFE_CTRL_FTTI_MS) (harm : bits data 31 31 = s.fld 0 .SAFE_CTRL_ARM) :
    wrSafeCtrl m 0 data same s = (s.safeClear same).2 := by
  simp only [wrSafeCtrl, ne_eq, not_true_eq_false, if_false, hclear, if_true, hftti, harm]

end

section
variable (m : Master) (data : Word)

section
variable (hw : WritesNow s m 0 .SCH 0x90010) (hguard : s.guardOk m = true)
include hw hguard

theorem exec_safeCtrlArmWrite_accepted : exec (.safeCtrlArmWrite m 0 data) s = .next (wrSafeCtrl m 0 data.toNat none s.accepted) :=
  congrArg Host.Outcome.next ((hw.eq data _).trans (State.guarded_ok ((s.accepted_guardOk m).trans hguard) ..))

theorem exec_safeCtrlClearWrite_accepted (same : Option Nat) : exec (.safeCtrlClearWrite m 0 data same) s = .next (wrSafeCtrl m 0 data.toNat same s.accepted) :=
  congrArg Host.Outcome.next ((hw.eq data _).trans (State.guarded_ok ((s.accepted_guardOk m).trans hguard) ..))

end

theorem exec_safeReactWrite_accepted (hw : WritesNow s m 0 .SCH 0x90014) (hguard : s.guardOk m = true) :
    exec (.safeReactWrite m 0 data) s = .next (wrSafeReact 0 data.toNat s.accepted) :=
  congrArg Host.Outcome.next ((hw.eq data _).trans (State.guarded_ok ((s.accepted_guardOk m).trans hguard) ..))

end

theorem wrSafeReact_admits {data : Nat} (hadmitted : reactRaise data = data) : wrSafeReact 0 data s = s.setFld 0 .SAFE_REACT_ACT 0 data := by
  simp only [wrSafeReact, ne_eq, not_true_eq_false, if_false, hadmitted, if_true]

theorem wrSafeReact_raises {data : Nat} (hraised : reactRaise data ≠ data) :
    wrSafeReact 0 data s = (s.flag 0 .SAFE_STATUS_BADCFG).setFld 0 .SAFE_REACT_ACT 0 (reactRaise data) := by
  simp only [wrSafeReact, ne_eq, not_true_eq_false, if_false, if_neg hraised]

end

/-! The Gleaner (R454, R455, R457, R458). -/

section
variable (s : State) (d c : Nat)

/-- The core leaves; the commands that it ran are killed, which changes no record of its tests. -/
theorem State.removeCore_out : (s.removeCore d c).fld d .COMMIT_OUT_CORES = setBit (s.fld d .COMMIT_OUT_CORES) c % 2 ^ 48 :=
  (fld_of_mask (State.killWhere_mask _ d true _ (Nat.and_self _)) rfl _ rfl (.inl rfl) d 0).trans
    ((State.fld_setFld_other _ d d 0 0 _ (by decide)).trans (State.fld_setFld_same ..))

theorem State.removeCore_testing : (s.removeCore d c).fld d .GLN_CORE_TESTING c = s.fld d .GLN_CORE_TESTING c :=
  fld_of_mask (s.removeCore_mask d c (Nat.and_self _)) rfl _ rfl (.inl rfl) d c

section
variable (e : Ev) (die source : Nat) (dt : List (Nat × Nat × Nat)) (doms : List Dom)

theorem State.raise_failed : (s.raise e die source dt doms).fld d .GLN_CORE_FAILED c = s.fld d .GLN_CORE_FAILED c :=
  fld_of_mask (s.raise_mask e die source dt doms (Nat.and_self _)) rfl _ rfl (.inl rfl) d c

theorem State.raise_testing : (s.raise e die source dt doms).fld d .GLN_CORE_TESTING c = s.fld d .GLN_CORE_TESTING c :=
  fld_of_mask (s.raise_mask e die source dt doms (Nat.and_self _)) rfl _ rfl (.inl rfl) d c

theorem State.raise_out : (s.raise e die source dt doms).fld d .COMMIT_OUT_CORES = s.fld d .COMMIT_OUT_CORES :=
  fld_of_mask (s.raise_mask e die source dt doms (Nat.and_self _)) rfl _ rfl (.inl rfl) d 0

end

end

section
variable {s : State} {d : Nat} (hd : s.hasDie d = true)
include hd

theorem exec_gleanerTestStart_starts {cl c : Nat} {rest : List Nat} (hcl : cl < 6) (hen : s.fld d .GLN_CTRL_EN cl ≠ 0) (hruns : s.fwRuns d = true)
    (hup : (d, 4 + cl) ∉ s.boot.down) (htrip : s.tripped d = false) (hidle : ∀ c ∈ rangeFrom (8 * cl) 8, s.fld d .GLN_CORE_TESTING c = 0)
    (hnext : sortBy (fun a b => decide (s.coverageAge d b ≤ s.coverageAge d a)) ((rangeFrom (8 * cl) 8).filter (s.testable d)) = c :: rest) :
    exec (.gleanerTestStart d cl) s = .next (((((s.onCore d c).foldl (fun (t : State) e => t.kill d e.1 true) s)).flag d .GLN_CORE_TESTING c).setFld d
      .GLN_CTRL_TESTING cl (c % 8)) := by
  have noneTesting : (rangeFrom (8 * cl) 8).any (fun c => decide (s.fld d .GLN_CORE_TESTING c = 1)) = false :=
    List.any_eq_false.mpr (fun c hc => by simp [hidle c hc])
  change execGleanerTestStart d cl s = _
  simp only [execGleanerTestStart, if_neg (not_absent hd hcl), hen, hruns, hup, htrip, noneTesting, not_true_eq_false, Bool.false_eq_true, or_self, if_false, hnext]

section
variable {c : Nat} (hc : c < 48)
include hc

section
variable (htest : s.fld d .GLN_CORE_TESTING c ≠ 0) (htrip : s.tripped d = false)
include htest htrip

omit hd hc in
theorem State.coreTests : ¬ (s.fld d .GLN_CORE_TESTING c = 0 ∨ s.tripped d = true) := not_or.mpr ⟨htest, ne_true_of_eq_false htrip⟩

theorem exec_gleanerTestEnd_passes : exec (.gleanerTestEnd d c 0) s = .next ((s.setFld d .GLN_CORE_TESTING c 0).corePassed d c) :=
  (if_neg (not_absent hd hc)).trans ((if_neg (State.coreTests htest htrip)).trans (if_pos rfl))

/-- A core that fails its test is removed, and source 10 acts on the Class S silos that hold it. -/
theorem exec_gleanerTestEnd_fails (n : Nat) (hn : n ≠ 0) : ∃ u : State, u.fld d .GLN_CORE_FAILED c = 1 ∧ u.fld d .GLN_CORE_TESTING c = 0 ∧
    u.fld d .COMMIT_OUT_CORES = setBit (s.fld d .COMMIT_OUT_CORES) c % 2 ^ 48 ∧
    exec (.gleanerTestEnd d c n) s = .next (u.source { src := 10, die := d } (s.classSWith d c)) := by
  change ∃ u, _ ∧ _ ∧ _ ∧ execGleanerTestEnd d c n s = _
  rw [execGleanerTestEnd, if_neg (not_absent hd hc), if_neg (State.coreTests htest htrip), if_neg hn]
  extract_lets s1 silos safe s2
  refine ⟨_, ?_, ?_, ?_, rfl⟩
  · exact (State.raise_failed ..).trans (State.fld_setFld_same ..)
  · exact (State.raise_testing ..).trans ((State.fld_setFld_other _ d d c c _ (by decide)).trans ((State.removeCore_testing ..).trans (State.fld_setFld_same ..)))
  · refine (State.raise_out ..).trans ((State.fld_setFld_other _ d d c 0 _ (by decide)).trans ((State.removeCore_out ..).trans ?_))
    exact congrArg (setBit · c % 2 ^ 48) (State.fld_setFld_other s d d c 0 0 (by decide))

end

section
variable (hage : 50000000 ≤ s.coverageAge d c) (hin : bit (s.fld d .COMMIT_OUT_CORES) c = false) (hruns : s.fwRuns d = true)
include hage hin hruns

omit hd hc in
theorem State.coreLapses : ¬ (s.coverageAge d c < 50000000 ∨ bit (s.fld d .COMMIT_OUT_CORES) c = true ∨ ¬ s.fwRuns d = true) :=
  not_or.mpr ⟨Nat.not_lt.mpr hage, not_or.mpr ⟨ne_true_of_eq_false hin, not_not_intro hruns⟩⟩

theorem exec_coveragePeriodEnd_lapses (hfirst : s.fld d .GLN_CORE_LAPSE c = 0) : ∃ t, exec (.coveragePeriodEnd d c) s = .next t ∧ t.fld d .GLN_CORE_LAPSE c = 1 :=
  ⟨_, (if_neg (not_absent hd hc)).trans ((if_neg (State.coreLapses hage hin hruns)).trans (if_pos hfirst)), State.fld_setFld_same ..⟩

/-- A second lapse in a row excludes the core from Class S. -/
theorem exec_coveragePeriodEnd_excludes (hsecond : s.fld d .GLN_CORE_LAPSE c ≠ 0) : ∃ u : State, u.fld d .GLN_CORE_S_EXCLUDED c = 1 ∧
    exec (.coveragePeriodEnd d c) s = .next (u.source { src := 9, die := d } (s.classSWith d c)) := by
  change ∃ u, _ ∧ execCoveragePeriodEnd d c s = _
  rw [execCoveragePeriodEnd, if_neg (not_absent hd hc), if_neg (State.coreLapses hage hin hruns), if_neg hsecond]
  refine ⟨_, ?_, rfl⟩
  exact (fld_of_mask (State.raise_mask _ _ _ _ _ _ (Nat.and_self _)) rfl _ rfl (.inl rfl) d c).trans (State.fld_setFld_same ..)

end

end

/-! Checkers (R459, R460). -/

theorem exec_checkerRotationSlot_tests (o : CheckOutcome) (hruns : s.fwRuns d = true) (hslot : lookupD s.safe.slot d 0 < s.fld d .CHKROT_STATUS_UNITS) :
    ∃ u : State, lookupD u.safe.slot d 0 = (lookupD s.safe.slot d 0 + 1) % 40 ∧ exec (.checkerRotationSlot d o) s =
      .next (u.checkerOutcome d (lookupD s.safe.slot d 0) o) := by
  change ∃ u, _ ∧ execCheckerRotationSlot d o s = _
  rw [execCheckerRotationSlot, if_neg (not_not_intro hd), if_neg (not_not_intro hruns)]
  extract_lets late safe s1 n units s2 safe' s3 s4
  exact ⟨s4, lookupD_insertKV_same .., if_pos hslot⟩

theorem exec_checkerTestRetry_tests {o : CheckOutcome} {x : Nat × Nat} (hretry : s.safe.retry.find? (fun x => decide (x.1 = d)) = some x) :
    exec (.checkerTestRetry d o) s = .next (s.checkerOutcome d x.2 o) := by
  change execCheckerTestRetry d o s = _
  simp only [execCheckerTestRetry, if_neg (not_not_intro hd), hretry]

end

/-! The messages of the safety group (R463). -/

theorem State.setFlds_safe (s : State) (d i : Nat) (l : List (Fld × Nat)) : (s.setFlds d i l).safe = s.safe := by
  induction l generalizing s with
  | nil => rfl
  | cons e l ih => exact ih (s.setFld d e.1 i e.2)

section
variable {s : State} {r : Req} {op : Nat}

@[simp] theorem State.handling_classSSender : (s.handling r op).classSSender r = s.classSSender r := by
  simp only [State.classSSender, State.handling_holdsClassS]

@[simp] theorem State.handling_cphyUnused (d p : Nat) : (s.handling r op).cphyUnused d p = s.cphyUnused d p := by
  obtain ⟨boxes, bells, h⟩ := s.handling_eq r op
  rw [h]; rfl

@[simp] theorem State.handling_safeOut0 : (s.handling r op).safeOut0 = s.safeOut0 := by
  obtain ⟨boxes, bells, h⟩ := s.handling_eq r op
  rw [h]; rfl

@[simp] theorem State.handling_safeOut1 : (s.handling r op).safeOut1 = s.safeOut1 := by
  obtain ⟨boxes, bells, h⟩ := s.handling_eq r op
  rw [h]; rfl

@[simp] theorem State.handling_trigOut (n : Nat) : (s.handling r op).trigOut n = s.trigOut n := by
  obtain ⟨boxes, bells, h⟩ := s.handling_eq r op
  rw [h]; rfl

@[simp] theorem State.handling_bootEnables (d p : Nat) : (s.handling r op).bootEnables d p = s.bootEnables d p := by
  obtain ⟨boxes, bells, h⟩ := s.handling_eq r op
  rw [h]; rfl

@[simp] theorem State.handling_periphOut (d p : Nat) : (s.handling r op).periphOut d p = s.periphOut d p := by
  simp only [State.periphOut, State.handling_bootEnables, State.handling_fld, State.handling_ports]

@[simp] theorem State.handling_driven (d p : Nat) : (s.handling r op).driven d p = s.driven d p := by
  simp only [State.driven, State.handling_pins, State.handling_cphyUnused, State.handling_safeOut0, State.handling_safeOut1, State.handling_fld, State.handling_trigOut,
    State.handling_periphOut, State.handling_time]

@[simp] theorem State.handling_pull (d p : Nat) : (s.handling r op).pull d p = s.pull d p := by
  simp only [State.pull, State.handling_pins, State.handling_cphyUnused, State.handling_fld]

@[simp] theorem State.handling_pinIn (d p : Nat) : (s.handling r op).pinIn d p = s.pinIn d p := by
  simp only [State.pinIn, State.padLevel, State.handling_driven, State.handling_pins, State.handling_pull, State.handling_free]

@[simp] theorem State.handling_standby : (s.handling r op).standby = s.standby := by
  simp only [State.standby, State.handling_fld]

@[simp] theorem State.handling_safeStatus : (s.handling r op).safeStatus = s.safeStatus := by
  simp only [State.safeStatus, State.handling_fld, State.handling_pinIn, State.handling_standby]

@[simp] theorem State.handling_safeCause : (s.handling r op).safeCause = s.safeCause := by
  simp only [State.safeCause, State.handling_fld]

@[simp] theorem State.handling_coreAge (d c : Nat) : (s.handling r op).coreAge d c = s.coreAge d c := by
  simp only [State.coreAge, State.now, State.handling_tbNs, State.handling_safe]

section
variable {ftti : Nat} {react : Word} (hs : Serves s r 0x0700 none) (hlow : 20 ≤ ftti) (hhigh : ftti ≤ 500) (hadmitted : reactRaise react.toNat = react.toNat)
  (hgrant : s.granted r.dom = true)
include hs hlow hhigh hadmitted hgrant

theorem exec_safeCfg_replies (hoff : s.fld 0 .SAFE_CTRL_ARM ≠ 1) : exec (.safeCfg r ftti react) s = .next (s.replies r 0x0700 none (fun t =>
    ((t.setFld 0 .SAFE_CTRL_FTTI_MS 0 ftti).setFld 0 .SAFE_REACT_ACT 0 react.toNat, []))) :=
  congrArg Host.Outcome.next (hs.replies (by
    simp only [State.handling_granted, State.handling_fld, Nat.not_lt.mpr hlow, Nat.not_lt.mpr hhigh, hadmitted, hgrant, hoff, ne_eq, not_true_eq_false, or_self, if_false]))

theorem exec_safeCfg_armed (harm : s.fld 0 .SAFE_CTRL_ARM = 1) : exec (.safeCfg r ftti react) s = .next (s.refuses r 0x0700 none .busy) :=
  congrArg Host.Outcome.next (hs.refuses (by
    simp only [State.handling_granted, State.handling_fld, Nat.not_lt.mpr hlow, Nat.not_lt.mpr hhigh, hadmitted, hgrant, harm, ne_eq, not_true_eq_false, or_self, if_false,
      if_true]))

end

section
variable {en : Nat} (hs : Serves s r 0x0701 none) (hen : en < 2)
include hs hen

theorem exec_safeArm_replies (h372 : s.holder 1 0 372 = r.dom) (h374 : s.holder 1 0 374 = r.dom) :
    exec (.safeArm r en) s = .next (s.replies r 0x0701 none (fun t => (t.setArm en, []))) :=
  congrArg Host.Outcome.next (hs.replies (by
    simp only [State.handling_holder, Nat.not_le.mpr hen, h372, h374, ne_eq, not_true_eq_false, or_self, if_false]))

theorem exec_safeArm_locked (hother : s.holder 1 0 372 ≠ r.dom ∨ s.holder 1 0 374 ≠ r.dom) :
    exec (.safeArm r en) s = .next (s.refuses r 0x0701 none .safetyLocked) :=
  congrArg Host.Outcome.next (hs.refuses (by simp only [State.handling_holder, Nat.not_le.mpr hen, if_false, if_pos hother]))

end

theorem exec_safeClear_clears {t : State} (hs : Serves s r 0x0702 none) (hsender : s.classSSender r = true) (hclear : (s.handling r 0x0702).safeClear none = (none, t)) :
    exec (.safeClear r none) s = .next (t.answered r 0x0702 none (some (.ok, []))) :=
  congrArg Host.Outcome.next (hs.reply (by simp only [State.handling_classSSender, hsender, not_true_eq_false, if_false, hclear]))

theorem exec_safeQuery_replies (hs : Serves s r 0x0703 none) : exec (.safeQuery r) s = .next (s.replies r 0x0703 none (fun t => (t.useFree,
    leBytes 4 s.safeStatus ++ leBytes 4 (s.fld 0 .SAFE_CTRL_ARM * 2 ^ 31 + s.fld 0 .SAFE_CTRL_FTTI_MS * 2 ^ 16) ++ leBytes 4 (s.fld 0 .SAFE_REACT_ACT) ++
      leBytes 4 s.safeCause ++ leBytes 8 (s.fld 0 .SAFE_TIME_TIME) ++ leBytes 8 0))) :=
  congrArg Host.Outcome.next (hs.replies (by simp only [State.handling_safeStatus, State.handling_fld, State.handling_safeCause]))

theorem exec_safeSiloSet_replies {d k cfg : Nat} {str : Word} (hs : Serves s r 0x0710 none) (hd : s.hasDie d = true) (hk : k < 16) (hcfg : cfg < 65536)
    (h14 : bits cfg 14 12 = 0) (h3 : bits cfg 3 0 = 0) (h23 : bits str.toNat 23 16 = 0) (h7 : bits str.toNat 7 0 = 0) (hsender : s.classSSender r = true)
    (hholder : s.holder 2 d k ≠ noDom) (hclass : s.claimClass 2 d k = 0) :
    exec (.safeSiloSet r d k cfg str) s = .next (s.replies r 0x0710 none (fun t => (t.setFlds d k [(.SAFE_SILO_CFG_EN, bits cfg 15 15),
      (.SAFE_SILO_CFG_TOL, bits cfg 11 8), (.SAFE_SILO_CFG_ODO, bits cfg 7 4), (.SAFE_SILO_STR_EN1, bits str.toNat 31 31),
      (.SAFE_SILO_STR_STREAM1, bits str.toNat 30 24), (.SAFE_SILO_STR_EN0, bits str.toNat 15 15), (.SAFE_SILO_STR_STREAM0, bits str.toNat 14 8)], []))) :=
  congrArg Host.Outcome.next (hs.replies (by
    simp only [State.handling_hasDie, State.handling_classSSender, State.handling_holder, State.handling_claimClass, hd, Nat.not_le.mpr hk, Nat.not_le.mpr hcfg, h14, h3, h23,
      h7, hsender, hholder, hclass, ne_eq, not_true_eq_false, or_self, if_false]))

theorem exec_safeStreamSet_replies {c : SafeStreamCfg} (hs : Serves s r 0x0711 none) (hentry : c.entry < 16) (hd : s.hasDie c.die = true) (hsilo : c.silo < 16)
    (heven : c.offset % 2 = 0) (hoffset : c.offset ≤ 1484) (hhandle : c.handle < 65536) (hgrant : s.granted r.dom = true)
    (htemplate : c.en = true → 64 ≤ c.template.length ∧ c.template.length ≤ 1522 ∧ c.offset + 32 ≤ c.template.length ∧ s.holder 2 c.die c.silo ≠ noDom ∧
      s.claimClass 2 c.die c.silo = 0) :
    exec (.safeStreamSet r c) s = .next (s.replies r 0x0711 none (fun t => ({ t.setFlds 0 c.entry [(.SAFE_STREAM_0_EN, b2n c.en), (.SAFE_STREAM_0_DIE, c.die),
      (.SAFE_STREAM_0_SILO, c.silo), (.SAFE_STREAM_0_HANDLE, c.handle), (.SAFE_STREAM_1_OFFSET, c.offset)] with
        safe.templates := insertKV s.safe.templates c.entry c.template }, []))) := by
  have sound : ¬ (c.en = true ∧ (c.template.length < 64 ∨ 1522 < c.template.length ∨ c.template.length < c.offset + 32 ∨ s.holder 2 c.die c.silo = noDom ∨
      s.claimClass 2 c.die c.silo ≠ 0)) := by
    rintro ⟨hen, h⟩
    obtain ⟨hlow, hhigh, hroom, hholder, hclass⟩ := htemplate hen
    rcases h with h | h | h | h | h
    · omega
    · omega
    · omega
    · exact hholder h
    · exact h hclass
  refine congrArg Host.Outcome.next (hs.replies ?_)
  simp only [State.handling_hasDie, State.handling_granted, State.handling_holder, State.handling_claimClass, Nat.not_le.mpr hentry, hd, Nat.not_le.mpr hsilo, heven, zero_ne_one,
    Nat.not_lt.mpr hoffset, Nat.not_le.mpr hhandle, hgrant, not_true_eq_false, or_self, if_false, if_neg sound]
  rw [show ∀ l, ((s.handling r 0x0711).setFlds 0 c.entry l).safe = s.safe from fun l => (State.setFlds_safe ..).trans (s.handling_safe r 0x0711)]

theorem exec_glnQuery_replies {d cl : Nat} (hs : Serves s r 0x0720 none) (hd : s.hasDie d = true) (hcl : cl < 6) :
    exec (.glnQuery r d cl) s = .next (s.replies r 0x0720 none (fun t => (t,
      leBytes 4 (s.fld d .GLN_CTRL_EN cl * 2 ^ 31 + s.fld d .GLN_CTRL_TESTING cl) ++ ((rangeFrom (8 * cl) 8).map (fun c => leBytes 4 (s.fld d .GLN_CORE_KILLS c * 2 ^ 20 +
        s.fld d .GLN_CORE_FAILED c * 2 ^ 19 + s.fld d .GLN_CORE_S_EXCLUDED c * 2 ^ 18 + s.fld d .GLN_CORE_LAPSE c * 2 ^ 17 + s.fld d .GLN_CORE_TESTING c * 2 ^ 16 +
          s.coreAge d c))).flatten))) :=
  congrArg Host.Outcome.next (hs.replies (by simp only [State.handling_hasDie, State.handling_fld, State.handling_coreAge, if_neg (not_absent hd hcl)]))

theorem exec_chkrotQuery_replies {d : Nat} (hs : Serves s r 0x0721 none) (hd : s.hasDie d = true) :
    exec (.chkrotQuery r d) s = .next (s.replies r 0x0721 none (fun t => (t,
      leBytes 4 (s.fld d .CHKROT_STATUS_NEXT * 2 ^ 16 + s.fld d .CHKROT_STATUS_UNITS * 2 ^ 8 + s.fld d .CHKROT_STATUS_LAPSE * 2 + s.fld d .CHKROT_STATUS_FAIL) ++
        leBytes 8 (s.fld d .CHKROT_FAILED_ORDER)))) :=
  congrArg Host.Outcome.next (hs.replies (by simp only [State.handling_hasDie, State.handling_fld, hd, not_true_eq_false, if_false]))

end

/-- Settles O35, clause by clause. -/
theorem safetyRowsComplete : Obligations.SafetyRowsComplete := fun _ =>
  ⟨exec_secConfirmLapse_acts, fun _ _ => exec_silenceTimeout_acts,
    fun m data hw hguard => ⟨fun hclear hftti harm h372 h374 => (exec_safeCtrlArmWrite_accepted m data hw hguard).trans
        (congrArg Host.Outcome.next (wrSafeCtrl_arms none hclear hftti harm h372 h374)),
      fun hclear harm hoff hlow hhigh hnew => (exec_safeCtrlArmWrite_accepted m data hw hguard).trans
        (congrArg Host.Outcome.next (wrSafeCtrl_ftti none hclear harm hoff hlow hhigh hnew)),
      fun hclear hftti harm same => (exec_safeCtrlClearWrite_accepted m data hw hguard same).trans
        (congrArg Host.Outcome.next (wrSafeCtrl_clears same hclear hftti harm))⟩,
    fun m data hw hguard => ⟨fun hadmitted => (exec_safeReactWrite_accepted m data hw hguard).trans (congrArg Host.Outcome.next (wrSafeReact_admits hadmitted)),
      fun hraised => (exec_safeReactWrite_accepted m data hw hguard).trans (congrArg Host.Outcome.next (wrSafeReact_raises hraised))⟩,
    fun _ _ _ _ hd => exec_gleanerTestStart_starts hd,
    fun _ _ hd hc htest htrip => ⟨exec_gleanerTestEnd_passes hd hc htest htrip, exec_gleanerTestEnd_fails hd hc htest htrip⟩,
    fun _ _ hd hc hage hin hruns => ⟨exec_coveragePeriodEnd_lapses hd hc hage hin hruns, exec_coveragePeriodEnd_excludes hd hc hage hin hruns⟩,
    fun _ o hd => exec_checkerRotationSlot_tests hd o, fun _ _ _ hd => exec_checkerTestRetry_tests hd,
    fun _ _ _ hs hlow hhigh hadmitted hgrant => ⟨exec_safeCfg_replies hs hlow hhigh hadmitted hgrant, exec_safeCfg_armed hs hlow hhigh hadmitted hgrant⟩,
    fun _ _ hs hen => ⟨exec_safeArm_replies hs hen, exec_safeArm_locked hs hen⟩, fun _ _ => exec_safeClear_clears, fun _ => exec_safeQuery_replies,
    fun _ _ _ _ _ => exec_safeSiloSet_replies, fun _ _ => exec_safeStreamSet_replies, fun _ _ _ => exec_glnQuery_replies, fun _ _ => exec_chkrotQuery_replies⟩

end Sys2Proof.Machine
end

section
/-!
SUPPORT and PROOFS. The sources that request a reset, and the scope of a request that names DIE_0 (04_reset_and_options.md, R64, R65, R71, R87 to R89).
-/
namespace Sys2Proof.Machine

/-! What a request of a reset reads of the state. -/

section
variable (s : State) (r : Req) (op : Nat)

@[simp] theorem State.handling_hasTarget (t : ResetTarget) : (s.handling r op).hasTarget t = s.hasTarget t := by
  cases t <;> simp only [State.hasTarget, State.handling_hasDie]

@[simp] theorem State.handling_mustHold (t : ResetTarget) : (s.handling r op).mustHold t = s.mustHold t := by
  simp only [State.mustHold, State.trimRuns, State.handling_boot, State.handling_part]

@[simp] theorem State.handling_classSSilos (d : Nat) : (s.handling r op).classSSilos d = s.classSSilos d := by
  simp only [State.classSSilos, State.handling_holder, State.handling_siloClass, State.handling_fld]

@[simp] theorem State.handling_apPaired (d a : Nat) : (s.handling r op).apPaired d a = s.apPaired d a := by
  simp only [State.apPaired, State.handling_fld]

@[simp] theorem State.handling_reachesClassS (t : ResetTarget) : (s.handling r op).reachesClassS t = s.reachesClassS t := by
  simp only [State.reachesClassS, State.handling_classSSilos, State.handling_apPaired, State.handling_fld, State.handling_holdsClassS, State.handling_dieList]

end

/-! The scope of a request (R65). -/

theorem widen_die (d : Nat) : widen (.die d) = if d = 0 then .package else .die d := by
  cases d with
  | zero => rfl
  | succ d => rfl

theorem widen_widen (t : ResetTarget) : widen (widen t) = widen t := by
  cases t with
  | die d => cases d <;> rfl
  | _ => rfl

section
variable {s : State}

theorem State.hasTarget_widen {t : ResetTarget} (h : s.hasTarget t = true) : s.hasTarget (widen t) = true := by
  cases t with
  | die d =>
    rw [widen_die]
    split
    · rfl
    · exact h
  | _ => exact h

/-- A request of die scope that names DIE_0 is the request of the package (R65). -/
theorem State.requestReset_die_zero (cause src : Nat) : s.requestReset cause (.die 0) src = s.requestReset cause .package src := rfl

/-- What a served request does depends on its body only at the state in which it is handled. -/
theorem State.serve_congr {r : Req} {op : Nat} {die : Option Nat} {f g : State → Reply} (h : f (s.handling r op) = g (s.handling r op)) :
    s.serve r op die f = s.serve r op die g := by
  unfold State.serve
  rw [h]

/-- RESET_REQUEST with scope 1 and DIE_0 is RESET_REQUEST with scope 0 (R65, R88). -/
theorem exec_resetRequest_die_zero (h0 : s.hasDie 0 = true) (r : Req) (i j : Nat) : exec (.resetRequest r 1 0 i) s = exec (.resetRequest r 0 0 j) s := by
  have die : (s.handling r 0x0830).hasTarget (.die 0) = true := (State.handling_hasTarget s r _ _).trans h0
  have package : (s.handling r 0x0830).hasTarget .package = true := rfl
  have reach : ∀ u : State, u.reachesClassS (.die 0) = u.reachesClassS .package := fun _ => rfl
  refine congrArg Host.Outcome.next (State.serve_congr ?_)
  simp only [targetOf, die, package, reach, State.requestReset_die_zero, Nat.one_lt_two, Nat.zero_lt_two, show ¬ 3 < 1 by decide, show ¬ 3 < 0 by decide,
    if_true, if_false]

/-- Outside an activation a lock-up requests the reset of its target (R64, R132). -/
theorem exec_lockUp_eq (hact : s.fw.activation = none) (u : LockUnit) (ht : s.hasTarget (lockTarget u).1 = true) (hd : s.hasDie (lockTarget u).2 = true) :
    exec (.lockUp u) s = .next (s.requestReset 8 (lockTarget u).1 (lockTarget u).2) := by
  have present : ¬ (¬ s.hasTarget (lockTarget u).1 = true ∨ ¬ s.hasDie (lockTarget u).2 = true) := by simp [ht, hd]
  have untried : ∀ f, s.inTrial f = none := fun f => by simp only [State.inTrial, hact]
  refine (if_neg present).trans (congrArg Host.Outcome.next ?_)
  cases u with
  | ap d a => rfl
  | _ => simp only [lockFw, State.trialOr, untried]

/-! The sources, while nothing holds a reset pending (R64, R71, R87 to R89). -/

section
variable (hpow : s.boot.powered = true) (hfree : ∀ t, s.hasTarget t = true → s.mustHold t = false)
include hpow hfree

/-- A request of a target of the part is due at once. -/
theorem State.requestReset_free {cause src : Nat} {t : ResetTarget} (ht : s.hasTarget t = true) :
    s.requestReset cause t src = { s with boot.due := s.boot.due ++ [⟨cause, widen t, src, false⟩] } :=
  State.requestReset_due hpow (hfree _ (State.hasTarget_widen ht))

theorem exec_rstNAssert_requests :
    ∃ t, exec .rstNAssert s = .next t ∧ t.boot.due = s.boot.due ++ [⟨3, .package, 0, false⟩] ∧ t.boot.rstNLow = true :=
  ⟨_, congrArg Host.Outcome.next (if_pos hpow), congrArg (fun t : State => t.boot.due) (State.requestReset_free hpow hfree (t := .package) rfl), rfl⟩

theorem exec_watchdogExpiry_requests (d : Nat) (hd : s.hasDie d = true) (hact : s.fw.activation = none) (hen : s.fld d .RST_WDT_EN = 1) :
    ∃ t, exec (.watchdogExpiry d) s = .next t ∧ t.boot.due = s.boot.due ++ [⟨4, if d = 0 then .package else .die d, d, false⟩] := by
  refine ⟨s.requestReset 4 (.die d) d, ?_, ?_⟩
  · change execWatchdogExpiry d s = _
    simp only [execWatchdogExpiry, hd, hact, hen, not_true_eq_false, if_false, if_true]
  · rw [State.requestReset_free hpow hfree (t := .die d) hd, widen_die]

theorem exec_rstSwreqWrite_requests (m : Master) (d : Nat) (data : Word) (hw : WritesNow s m d .RSTCTL 0x10) (hg : s.guardOk m = true)
    (hkey : bits data.toNat 31 24 = 0xA5) (ht : s.hasTarget (targetOf (bits data.toNat 5 4) (bits data.toNat 8 6) (bits data.toNat 11 9)) = true) :
    ∃ t, exec (.rstSwreqWrite m d data) s = .next t ∧ t.boot.due = s.boot.due ++
      [⟨5, widen (targetOf (bits data.toNat 5 4) (bits data.toNat 8 6) (bits data.toNat 11 9)), d, false⟩] := by
  refine ⟨s.accepted.requestReset 5 (targetOf (bits data.toNat 5 4) (bits data.toNat 8 6) (bits data.toNat 11 9)) d,
    congrArg Host.Outcome.next ((hw.eq data _).trans ?_), ?_⟩
  · have accepted : s.accepted.hasTarget (targetOf (bits data.toNat 5 4) (bits data.toNat 8 6) (bits data.toNat 11 9)) = true := ht
    simp only [wrSwreq, State.guarded_ok (s := s.accepted) hg, hkey, accepted, ne_eq, not_true_eq_false, if_false]
  · rw [State.requestReset_free (s := s.accepted) hpow hfree ht]
    rfl

theorem exec_resetRequest_replies (r : Req) (scope d i : Nat) (hs : Serves s r 0x0830 (some (if scope = 0 then 0 else d))) (hscope : scope ≤ 3)
    (hsender : if scope < 2 then r.dom = 0 ∨ r.dom = fwDom ∨ r.dom = 0x2000 else s.granted r.dom = true) (ht : s.hasTarget (targetOf scope d i) = true)
    (hclass : s.reachesClassS (targetOf scope d i) = false) :
    exec (.resetRequest r scope d i) s = .next (s.replies r 0x0830 (some (if scope = 0 then 0 else d)) (fun t =>
      ({ t with boot.due := t.boot.due ++ [⟨5, widen (targetOf scope d i), 0, false⟩] }, []))) := by
  have sender : (if scope < 2 then pf0OrFw r.dom || decide (r.dom = 0x2000) else (s.handling r 0x0830).granted r.dom) = true := by
    split at hsender
    · rw [if_pos ‹_›, pf0OrFw]
      rcases hsender with h | h | h <;> simp [h]
    · rw [if_neg ‹_›, State.handling_granted, hsender]
  have due := State.requestReset_due (s := s.handling r 0x0830) (cause := 5) (srcDie := 0) (t := targetOf scope d i)
    ((congrArg (fun b => b.powered) (State.handling_boot s r _)).trans hpow)
    ((State.handling_mustHold s r _ _).trans (hfree _ (State.hasTarget_widen ht)))
  refine congrArg Host.Outcome.next (hs.replies ?_)
  simp only [if_neg (Nat.not_lt.mpr hscope), sender, State.handling_hasTarget, ht, State.handling_reachesClassS, hclass, due, not_true_eq_false,
    Bool.false_eq_true, false_and, if_false]

theorem exec_debugResetRequest_ndmreset (hauth : s.fld 0 .SEC_STATUS_DBG_AUTH = 1) :
    ∃ t, exec (.debugResetRequest .ndmreset) s = .next t ∧ t.boot.due = s.boot.due ++ [⟨6, .package, 0, false⟩] := by
  have present : s.hasTarget .package = true := rfl
  refine ⟨s.requestReset 6 .package 0, ?_, ?_⟩
  · change execDebugResetRequest .ndmreset s = _
    simp only [execDebugResetRequest, present, hauth, not_true_eq_false, if_false, if_true]
  · exact congrArg (fun t : State => t.boot.due) (State.requestReset_free hpow hfree present)

theorem exec_debugResetRequest_hartreset (hauth : s.fld 0 .SEC_STATUS_DBG_AUTH = 1) (d a : Nat) (ht : s.hasTarget (.ap d a) = true) :
    ∃ t, exec (.debugResetRequest (.hartreset d a)) s = .next t ∧ t.boot.due = s.boot.due ++ [⟨6, .ap d a, d, false⟩] := by
  refine ⟨_, (if_neg (Decidable.not_not.mpr ht)).trans (congrArg Host.Outcome.next (if_pos hauth)), ?_⟩
  exact congrArg (fun t : State => t.boot.due) (State.requestReset_free hpow hfree (t := .ap d a) ht)

theorem exec_lockUp_requests (hact : s.fw.activation = none) (u : LockUnit) :
    s.hasTarget (lockTarget u).1 = true → s.hasDie (lockTarget u).2 = true → ∃ t, exec (.lockUp u) s = .next t ∧ t.boot.due = s.boot.due ++ [⟨8, match u with
      | .ap d a => .ap d a
      | .ccc d c => .cluster d c
      | .sch d | .pmc d | .sec d => if d = 0 then .package else .die d, (lockTarget u).2, false⟩] := by
  intro ht hd
  refine ⟨_, exec_lockUp_eq hact u ht hd, ?_⟩
  rw [State.requestReset_free hpow hfree ht]
  cases u with
  | ap d a => rfl
  | ccc d c => rfl
  | sch d => rw [lockTarget, widen_widen, widen_die]
  | pmc d => rw [lockTarget, widen_widen, widen_die]
  | sec d => rw [lockTarget, widen_widen, widen_die]

end

end

/-- Settles O1, source by source. -/
theorem resetSourcesComplete : Obligations.ResetSourcesComplete := fun _ hpow hfree =>
  ⟨exec_rstNAssert_requests hpow hfree, exec_watchdogExpiry_requests hpow hfree, exec_rstSwreqWrite_requests hpow hfree,
    exec_resetRequest_replies hpow hfree,
    fun hauth => ⟨exec_debugResetRequest_ndmreset hpow hfree hauth, exec_debugResetRequest_hartreset hpow hfree hauth⟩,
    exec_lockUp_requests hpow hfree⟩

end Sys2Proof.Machine
end

section
/-!
SUPPORT and PROOFS. What a reset that is due resets, its release, the end of a hold-off, power-on and brown-out (04_reset_and_options.md, R65, R66, R70 to R73, R506).
-/
namespace Sys2Proof.Machine

/-! RST_CAUSE of the dies that a reset reaches (R70, R89). -/

section
variable {s : State} {q : ResetReq}

/-- Fields that hold what is written still hold it when some die's copies are written with the same. -/
theorem State.fld_setFlds_again {l : List (Fld × Nat)} (hl : (l.map Prod.fst).Nodup) {f : Fld} {v d i : Nat} (hmem : (f, v) ∈ l)
    (h : s.fld d f i = v % 2 ^ f.width) {e : Nat} : (s.setFlds e i l).fld d f i = v % 2 ^ f.width := by
  induction l generalizing s with
  | nil => cases hmem
  | cons x l ih =>
    obtain ⟨hfst, hl⟩ := List.nodup_cons.mp hl
    rcases List.mem_cons.mp hmem with rfl | hrest
    · exact ((s.setFld e f i v).fld_setFlds_notin hfst e d i i).trans (State.fld_setFld_again h e)
    · have other : f ≠ x.1 := fun hf => hfst (hf ▸ List.mem_map.mpr ⟨(f, v), hrest, rfl⟩)
      exact ih hl hrest ((State.fld_setFld_other _ _ _ _ _ _ other).trans h)

/-- What RST_CAUSE records of a reset. -/
def causeFields (q : ResetReq) : List (Fld × Nat) :=
  [(.RST_CAUSE_CAUSE, q.cause), (.RST_CAUSE_SCOPE, scopeCode q.target), (.RST_CAUSE_SRC_DIE, q.srcDie), (.RST_CAUSE_TARGET, targetCode q.target),
    (.RST_CAUSE_MERGED, b2n q.merged)]

theorem State.recordCause_eq (s : State) (q : ResetReq) :
    s.recordCause q = (reachedDies s.part.dies q.target).foldl (fun (t : State) d => t.setFlds d 0 (causeFields q)) s := rfl

/-- RST_CAUSE of every die that a reset reaches records it. -/
theorem State.fld_recordCause {d v : Nat} {f : Fld} (hd : d ∈ reachedDies s.part.dies q.target) (hmem : (f, v) ∈ causeFields q) :
    (s.recordCause q).fld d f = v % 2 ^ f.width := by
  have once : ((causeFields q).map Prod.fst).Nodup := by simp [causeFields]
  rw [State.recordCause_eq]
  refine foldl_brings (fun t : State => t.fld d f = v % 2 ^ f.width) (a := d) (fun t => ?_) (fun t e ht => ?_) hd s
  · exact t.fld_setFlds_mem once hmem d 0
  · exact State.fld_setFlds_again once hmem ht

@[simp] theorem State.recordCause_boot (s : State) (q : ResetReq) : (s.recordCause q).boot = s.boot := boot_of_mask (s.recordCause_mask q (Nat.and_self _)) rfl

@[simp] theorem State.recordCause_mem (s : State) (q : ResetReq) : (s.recordCause q).mem = s.mem := mem_of_mask (s.recordCause_mask q (Nat.and_self _)) rfl

@[simp] theorem State.recordCause_flash (s : State) (q : ResetReq) : (s.recordCause q).flash = s.flash :=
  flash_of_mask (s.recordCause_mask q (Nat.and_self _)) rfl

@[simp] theorem State.recordCause_pins (s : State) (q : ResetReq) : (s.recordCause q).pins = s.pins := pins_of_mask (s.recordCause_mask q (Nat.and_self _)) rfl

@[simp] theorem State.recordCause_mail (s : State) (q : ResetReq) : (s.recordCause q).mail = s.mail := mail_of_mask (s.recordCause_mask q (Nat.and_self _)) rfl

end

/-! The release of a reset (R71 to R73, R75). -/

section
variable {s : State} {g : ResetTarget}

@[simp] theorem State.startHoldoff_mem (s : State) (g : ResetTarget) : (s.startHoldoff g).mem = s.mem := mem_of_mask (s.startHoldoff_mask g (Nat.and_self _)) rfl

@[simp] theorem State.startHoldoff_pins (s : State) (g : ResetTarget) : (s.startHoldoff g).pins = s.pins :=
  pins_of_mask (s.startHoldoff_mask g (Nat.and_self _)) rfl

@[simp] theorem State.startHoldoff_mail (s : State) (g : ResetTarget) : (s.startHoldoff g).mail = s.mail :=
  mail_of_mask (s.startHoldoff_mask g (Nat.and_self _)) rfl

@[simp] theorem State.allLimp_boot (s : State) : s.allLimp.boot = s.boot := boot_of_mask (s.allLimp_mask (Nat.and_self _)) rfl

/-- Of the reset and start-up state a release changes the hold-offs and the trim loads alone. -/
theorem State.released_boot (s : State) (g : ResetTarget) :
    ∃ holdoff loading, (s.released g).boot = { s.boot with holdoff := holdoff, loading := loading } := by
  cases g <;> exact ⟨_, _, rfl⟩

theorem State.startHoldoff_boot (s : State) (g : ResetTarget) :
    ∃ holdoff loading, (s.startHoldoff g).boot = { s.boot with holdoff := holdoff, loading := loading } := by
  have limp : (if g = .package then s.allLimp else s).boot = s.boot := by
    split
    · exact s.allLimp_boot
    · rfl
  unfold State.startHoldoff
  split
  · exact ⟨_, _, rfl⟩
  · rw [← limp]
    exact State.released_boot _ g

@[simp] theorem State.startHoldoff_step (s : State) (g : ResetTarget) : (s.startHoldoff g).boot.step = s.boot.step := by
  obtain ⟨holdoff, loading, hboot⟩ := s.startHoldoff_boot g
  rw [hboot]

@[simp] theorem State.startHoldoff_down (s : State) (g : ResetTarget) : (s.startHoldoff g).boot.down = s.boot.down := by
  obtain ⟨holdoff, loading, hboot⟩ := s.startHoldoff_boot g
  rw [hboot]

@[simp] theorem State.startHoldoff_powered (s : State) (g : ResetTarget) : (s.startHoldoff g).boot.powered = s.boot.powered := by
  obtain ⟨holdoff, loading, hboot⟩ := s.startHoldoff_boot g
  rw [hboot]

theorem State.fld_startHoldoff_cause {f : Fld} (hf : f = .RST_CAUSE_CAUSE ∨ f = .RST_CAUSE_SCOPE) (d : Nat) : (s.startHoldoff g).fld d f = s.fld d f := by
  rcases hf with rfl | rfl <;> exact fld_of_mask (s.startHoldoff_mask g (Nat.and_self _)) rfl _ rfl (.inr ⟨by decide, by decide⟩) d 0

/-- The hold-off of a released reset runs. -/
theorem State.mem_holdoff_released (s : State) (g : ResetTarget) : g ∈ (s.released g).boot.holdoff := by
  have here : g ∈ (if g ∈ s.boot.holdoff then s.boot.holdoff else s.boot.holdoff ++ [g]) := by
    split
    · assumption
    · simp
  cases g <;> exact here

/-- A release of the package starts the trim load of every die that has not tripped. -/
theorem State.mem_loading_released {d : Nat} (hd : s.hasDie d = true) (htrip : s.tripped d = false) : d ∈ (s.released .package).boot.loading := by
  change d ∈ s.boot.loading ++ (List.range s.part.dies).filter (fun d => decide (d ∉ s.boot.loading) && !s.tripped d)
  by_cases hload : d ∈ s.boot.loading
  · exact List.mem_append_left _ hload
  · exact List.mem_append_right _ (List.mem_filter.mpr ⟨State.mem_dieList hd, by simp [hload, htrip]⟩)

/-- Until step 5 every domain of the part runs from IRC at its limp divider (R73). -/
theorem State.fld_allLimp {d x : Nat} (hd : s.hasDie d = true) (hx : x < 5) :
    s.allLimp.fld d .CLK_DIV_SRC x = 1 ∧ s.allLimp.fld d .CLK_DIV_CURRENT x = limpDiv x := by
  have hmem : (d, x) ∈ s.domains := State.mem_domains hd hx
  have small : limpDiv x % 2 ^ Fld.CLK_DIV_CURRENT.width = limpDiv x := Nat.mod_eq_of_lt (by
    have : limpDiv x < 2 ^ 10 := by unfold limpDiv; split <;> decide
    exact this)
  constructor
  · refine foldl_brings (fun t : State => t.fld d .CLK_DIV_SRC x = 1 % 2 ^ Fld.CLK_DIV_SRC.width) (fun t => ?_) (fun t e h => ?_) hmem s
    · exact State.fld_setFld_same _ d .CLK_DIV_SRC x 1
    · have hcur : (t.setFld e.1 .CLK_DIV_CURRENT e.2 (limpDiv e.2)).fld d .CLK_DIV_SRC x = 1 % 2 ^ Fld.CLK_DIV_SRC.width :=
        (State.fld_setFld_other _ _ _ _ _ _ (by decide)).trans h
      by_cases hex : x = e.2
      · subst hex
        exact State.fld_setFld_again hcur e.1
      · exact (State.fld_setFld_index _ _ _ _ _ hex).trans hcur
  · refine (foldl_brings (fun t : State => t.fld d .CLK_DIV_CURRENT x = limpDiv x % 2 ^ Fld.CLK_DIV_CURRENT.width) (fun t => ?_) (fun t e h => ?_) hmem s).trans
      small
    · exact (State.fld_setFld_other _ _ _ _ _ _ (by decide)).trans (State.fld_setFld_same _ d .CLK_DIV_CURRENT x (limpDiv x))
    · refine (State.fld_setFld_other _ _ _ _ _ _ (by decide)).trans ?_
      by_cases hex : x = e.2
      · subst hex
        exact State.fld_setFld_again h e.1
      · exact (State.fld_setFld_index _ _ _ _ _ hex).trans h

/-- Where RST_N is high, the release of the package leaves every domain at its limp divider and starts the trim loads (R71, R73). -/
theorem State.startHoldoff_package (h : s.boot.rstNLow = false) : s.startHoldoff .package = s.allLimp.released .package := by
  simp only [State.startHoldoff, h, Bool.false_eq_true, and_false, if_false, if_true]

theorem exec_powerOnRelease_next (hpow : s.boot.powered = false) :
    ∃ t, exec .powerOnRelease s = .next t ∧ t.boot.powered = true ∧ t.mem = s.mem ∧
      (s.boot.rstNLow = false → .package ∈ t.boot.holdoff ∧ ∀ d, s.hasDie d = true →
        (s.tripped d = false → d ∈ t.boot.loading) ∧ ∀ x, x < 5 → t.fld d .CLK_DIV_SRC x = 1 ∧ t.fld d .CLK_DIV_CURRENT x = limpDiv x) := by
  let u : State := { s with boot.powered := true }
  refine ⟨u.startHoldoff .package, congrArg Host.Outcome.next (if_neg (by rw [hpow]; decide)), ?_, ?_, fun hlow => ?_⟩
  · exact State.startHoldoff_powered _ _
  · exact State.startHoldoff_mem _ _
  rw [State.startHoldoff_package (s := u) hlow]
  refine ⟨State.mem_holdoff_released _ _, fun d hd => ⟨fun htrip => State.mem_loading_released ?_ ?_, fun x hx => ?_⟩⟩
  · exact (State.hasDie_of_part u.allLimp_part d).trans hd
  · have kept : u.allLimp.fld d .PWR_STATUS_TRIP = s.fld d .PWR_STATUS_TRIP :=
      fld_of_mask (u.allLimp_mask (Nat.and_self _)) rfl _ rfl (.inr ⟨by decide, by decide⟩) d 0
    rwa [State.tripped, kept]
  · exact State.fld_allLimp (s := u) hd hx

theorem exec_rstNRelease_next (hpow : s.boot.powered = true) (hlow : s.boot.rstNLow = true) (hstep : s.stepOf 0 = 0) (hload : s.boot.loading = []) :
    ∃ t, exec .rstNRelease s = .next t ∧ t.boot.rstNLow = false ∧ .package ∈ t.boot.holdoff := by
  let u : State := { s with boot.rstNLow := false }
  refine ⟨u.allLimp.released .package, congrArg Host.Outcome.next (if_pos ⟨hlow, hpow, hstep, hload⟩), ?_, State.mem_holdoff_released _ _⟩
  change u.allLimp.boot.rstNLow = false
  rw [State.allLimp_boot]

/-- The end of a hold-off frees the groups of which no request is held any longer, and no other (R70, R72). -/
theorem exec_holdoffEnd_next (g : ResetTarget) : ∃ t, exec (.holdoffEnd g) s = .next t ∧ g ∉ t.boot.holdoff ∧
    t.boot.due = s.boot.due ++ ((resetGroups s.boot.held).filter (fun x => x.all (fun q => !t.mustHold q.target))).filterMap collapse ∧
    ∀ q ∈ t.boot.held, ∃ x ∈ resetGroups s.boot.held, q ∈ x ∧ ∃ y ∈ x, t.mustHold y.target = true := by
  refine ⟨_, rfl, ?_, rfl, fun q hq => ?_⟩
  · change g ∉ s.boot.holdoff.filter (fun x => decide (x ≠ g))
    simp
  · obtain ⟨x, hx, hin⟩ := List.mem_flatten.mp (of_decide_eq_true (List.mem_filter.mp hq).2)
    obtain ⟨hgroup, hheld⟩ := List.mem_filter.mp hx
    obtain ⟨y, hy, hmust⟩ := List.any_eq_true.mp hheld
    exact ⟨x, hgroup, hin, y, hy, hmust⟩

end

/-! The reset of the package, warm and from a loss of power (R65, R66, R506). -/

section
variable {s : State} {q : ResetReq} {rest : List ResetReq}

theorem exec_brownOut_next (h0 : s.hasDie 0 = true) (d : Nat) (hd : s.hasDie d = true) :
    ∃ t, exec (.brownOut d) s = .next t ∧ t.boot.powered = false ∧ t.boot.due = [] ∧ t.boot.held = [] ∧ t.boot.holdoff = [] ∧
      t.mem = [] ∧ t.flash = s.flash ∧ t.mail.boxes = [] ∧ t.pins.claims = [] ∧ t.fld 0 .RST_CAUSE_CAUSE = 2 ∧ t.fld 0 .RST_CAUSE_SRC_DIE = d % 8 := by
  let u : State := State.packageReset { s with boot.due := [], boot.held := [], boot.holdoff := [] } false
  have reached : 0 ∈ reachedDies u.part.dies .package := State.mem_dieList h0
  refine ⟨u.recordCause ⟨2, .package, d, false⟩, if_neg (Decidable.not_not.mpr hd), ?_⟩
  simp only [State.recordCause_boot, State.recordCause_mem, State.recordCause_flash, State.recordCause_mail, State.recordCause_pins]
  exact ⟨rfl, rfl, rfl, rfl, rfl, rfl, rfl, rfl, State.fld_recordCause (v := 2) reached (by simp [causeFields]),
    State.fld_recordCause (v := d) reached (by simp [causeFields])⟩

/-- A warm reset of the package during step 6 counts an abort of the option load (R81). -/
def State.optAborted (s : State) : State :=
  if s.stepOf 0 = 5 ∧ s.boot.pkg ∧ s.fld 0 .RST_STATUS_BOOTSEL_RAW = 15 then
    s.setFld 0 .RST_STATUS_OPT_ABORTS 0 (min 3 (s.fld 0 .RST_STATUS_OPT_ABORTS + 1)) else s

theorem State.optAborted_kept (s : State) : s.optAborted.mem = s.mem ∧ s.optAborted.part = s.part := by
  unfold State.optAborted
  split
  · exact ⟨rfl, rfl⟩
  · exact ⟨rfl, rfl⟩

/-- The state of a reset that takes effect, before the requests still due are judged again. -/
def State.afterReset (s : State) (q : ResetReq) : State := (({ s with boot.due := [] } : State).warmReset q).startHoldoff q.target

/-- The first reset that is due takes effect; those still due are due or held after it. -/
theorem exec_resetTakeEffect_eq (hpow : s.boot.powered = true) (hdue : s.boot.due = q :: rest) :
    ∃ due held, exec .resetTakeEffect s = .next { s.afterReset q with boot.due := due, boot.held := held } := by
  refine ⟨rest.filter (fun x => !(s.afterReset q).mustHold x.target),
    (s.afterReset q).boot.held ++ rest.filter (fun x => (s.afterReset q).mustHold x.target), congrArg Host.Outcome.next ?_⟩
  split
  · rename_i hnone
    cases hnone.symm.trans hdue
  · rename_i first others hfirst
    obtain ⟨rfl, rfl⟩ := List.cons.inj (hfirst.symm.trans hdue)
    exact if_neg (Decidable.not_not.mpr hpow)

/-- A warm reset of the package drops the claims and the mailboxes, keeps memory and records its cause (R65, R66, R70). -/
theorem State.warmReset_package (hq : q.target = .package) : s.warmReset q = (s.optAborted.packageReset true).recordCause q := by
  unfold State.warmReset
  simp only [hq]
  rfl

/-- A reset that has taken effect on the package records it as its RST_CAUSE on every die. -/
theorem State.fld_afterReset_package (hq : q.target = .package) {d v : Nat} {f : Fld} (hd : d < s.part.dies) (hmem : (f, v) ∈ causeFields q)
    (hf : f = .RST_CAUSE_CAUSE ∨ f = .RST_CAUSE_SCOPE) : (s.afterReset q).fld d f = v % 2 ^ f.width := by
  have reached : d ∈ reachedDies (State.packageReset (State.optAborted { s with boot.due := [] }) true).part.dies q.target := by
    rw [hq]
    exact List.mem_range.mpr (lt_of_lt_of_eq hd (congrArg Part.dies (State.optAborted_kept { s with boot.due := [] }).2.symm))
  rw [State.afterReset, State.fld_startHoldoff_cause hf, State.warmReset_package hq]
  exact State.fld_recordCause reached hmem

theorem exec_resetTakeEffect_package (h0 : s.hasDie 0 = true) (hpow : s.boot.powered = true) (hdue : s.boot.due = q :: rest) (hq : q.target = .package) :
    ∃ t, exec .resetTakeEffect s = .next t ∧ t.mem = s.mem ∧ t.pins.claims = [] ∧ t.mail.boxes = [] ∧ t.boot.step = [] ∧
      t.fld 0 .RST_CAUSE_CAUSE = q.cause % 16 ∧ t.fld 0 .RST_CAUSE_SCOPE = 0 := by
  obtain ⟨due, held, hexec⟩ := exec_resetTakeEffect_eq hpow hdue
  let u : State := State.optAborted { s with boot.due := [] }
  have hafter : s.afterReset q = ((u.packageReset true).recordCause q).startHoldoff q.target := by rw [State.afterReset, State.warmReset_package hq]
  have here : 0 < s.part.dies := of_decide_eq_true h0
  refine ⟨_, hexec, ?_, ?_, ?_, ?_, State.fld_afterReset_package hq here (by simp [causeFields]) (.inl rfl), ?_⟩
  · change (s.afterReset q).mem = s.mem
    rw [hafter, State.startHoldoff_mem, State.recordCause_mem]
    exact (State.optAborted_kept _).1
  · change (s.afterReset q).pins.claims = []
    rw [hafter, State.startHoldoff_pins, State.recordCause_pins]
    rfl
  · change (s.afterReset q).mail.boxes = []
    rw [hafter, State.startHoldoff_mail, State.recordCause_mail]
    rfl
  · change (s.afterReset q).boot.step = []
    rw [hafter, State.startHoldoff_step, State.recordCause_boot]
    rfl
  · have scope := State.fld_afterReset_package (s := s) hq here (v := scopeCode q.target) (f := .RST_CAUSE_SCOPE) (by simp [causeFields]) (.inr rfl)
    rwa [hq] at scope

/-- A reset that the request of a die scope that names DIE_0 leads to records SCOPE 0 on every die (R65). -/
theorem exec_resetTakeEffect_die_zero (cause src : Nat) (hpow : s.boot.powered = true) (hdue : s.boot.due = []) (hfree : s.mustHold .package = false) :
    ∃ t, exec .resetTakeEffect (s.requestReset cause (.die 0) src) = .next t ∧ ∀ d, d < s.part.dies → t.fld d .RST_CAUSE_SCOPE = 0 := by
  let q : ResetReq := ⟨cause, .package, src, false⟩
  let u : State := { s with boot.due := [q] }
  have hreq : s.requestReset cause (.die 0) src = u := by
    rw [State.requestReset_due (t := .die 0) hpow hfree, hdue]
    rfl
  obtain ⟨due, held, hexec⟩ := exec_resetTakeEffect_eq (s := u) (q := q) hpow rfl
  rw [hreq]
  exact ⟨_, hexec, fun d hd => State.fld_afterReset_package (s := u) (q := q) (v := 0) rfl hd (by simp [causeFields, q, scopeCode]) (.inr rfl)⟩

/-! The reset of a die, of a cluster and of an AP (R66, R68, R104). -/

/-- Class S work that a reset narrower than the package ends is a fault, and the reset counts in the Tithe store (R69, R81). -/
def State.resetNoted (s : State) (q : ResetReq) : State :=
  let s0 := s.optAborted
  let s1 := if s0.reachesClassS q.target then s0.source { src := 8, die := (reachedDies s0.part.dies q.target).headD 0 } (s0.lostSilos q.target) else s0
  if s1.fwRuns 0 then s1.titheAdd (0x04C + 6 * (q.cause - 1)) 1 else s1

theorem State.warmReset_die {d : Nat} (hq : q.target = .die d) : s.warmReset q = ((s.resetNoted q).dieReset d).recordCause q := by
  unfold State.warmReset State.resetNoted
  simp only [hq]
  rfl

theorem State.warmReset_cluster {d c : Nat} (hq : q.target = .cluster d c) : s.warmReset q = ((s.resetNoted q).clusterReset d c).recordCause q := by
  unfold State.warmReset State.resetNoted
  simp only [hq]
  rfl

theorem State.warmReset_ap {d a : Nat} (hq : q.target = .ap d a) : s.warmReset q = ((s.resetNoted q).apReset d a).recordCause q := by
  unfold State.warmReset State.resetNoted
  simp only [hq]
  rfl

/-- A die that is reset stands before its start-up. -/
theorem State.stepOf_dieReset (s : State) (d : Nat) : (s.dieReset d).stepOf d = 0 := lookupD_insertKV_same _ _ _ _

/-- A cluster that is reset is held until firmware starts it again. -/
theorem State.mem_down_clusterReset (s : State) (d c : Nat) : (d, 4 + c) ∈ (s.clusterReset d c).boot.down := by
  have pools : ∀ (l : List ((Nat × Nat) × (Nat × Nat))) (u : State), (l.foldl (fun (t : State) e => t.emptyPool d e) u).boot = u.boot := fun l u =>
    foldl_keeps State.boot (fun t e => boot_of_mask (t.emptyPool_mask d e (Nat.and_self _)) rfl) l u
  unfold State.clusterReset
  simp only [pools]
  split
  · assumption
  · exact List.mem_append_right _ (List.mem_singleton_self _)

theorem State.mem_down_apReset (s : State) (d a : Nat) : (d, a) ∈ (s.apReset d a).boot.down := by
  unfold State.apReset
  simp only [boot_of_mask (State.pairForm_mask _ _ _ (Nat.and_self _)) rfl, boot_of_mask (State.showSeq_mask _ _ (Nat.and_self _)) rfl]
  split
  · assumption
  · exact List.mem_append_right _ (List.mem_singleton_self _)

/-- A reset narrower than the package leaves the start-up state that the reset of its part does, and RST_CAUSE of its die records it (R70). -/
theorem exec_resetTakeEffect_narrow {u : State} {d : Nat} (hpow : s.boot.powered = true) (hdue : s.boot.due = q :: rest)
    (hwarm : ({ s with boot.due := [] } : State).warmReset q = u.recordCause q) (hd : d ∈ reachedDies u.part.dies q.target) :
    ∃ t, exec .resetTakeEffect s = .next t ∧ t.boot.step = u.boot.step ∧ t.boot.down = u.boot.down ∧
      t.fld d .RST_CAUSE_CAUSE = q.cause % 16 ∧ t.fld d .RST_CAUSE_SCOPE = scopeCode q.target % 4 := by
  obtain ⟨due, held, hexec⟩ := exec_resetTakeEffect_eq hpow hdue
  have hafter : s.afterReset q = (u.recordCause q).startHoldoff q.target := congrArg (fun t : State => t.startHoldoff q.target) hwarm
  have recorded : ∀ f v, (f, v) ∈ causeFields q → (f = .RST_CAUSE_CAUSE ∨ f = .RST_CAUSE_SCOPE) → (s.afterReset q).fld d f = v % 2 ^ f.width :=
    fun f v hmem hf => by
      rw [hafter, State.fld_startHoldoff_cause hf]
      exact State.fld_recordCause hd hmem
  refine ⟨_, hexec, ?_, ?_, recorded _ _ (by simp [causeFields]) (.inl rfl), recorded _ (scopeCode q.target) (by simp [causeFields]) (.inr rfl)⟩
  · change (s.afterReset q).boot.step = u.boot.step
    rw [hafter, State.startHoldoff_step, State.recordCause_boot]
  · change (s.afterReset q).boot.down = u.boot.down
    rw [hafter, State.startHoldoff_down, State.recordCause_boot]

theorem exec_resetTakeEffect_die (d : Nat) (hpow : s.boot.powered = true) (hdue : s.boot.due = q :: rest) (hq : q.target = .die d) :
    ∃ t, exec .resetTakeEffect s = .next t ∧ t.stepOf d = 0 ∧ t.fld d .RST_CAUSE_CAUSE = q.cause % 16 ∧ t.fld d .RST_CAUSE_SCOPE = 1 := by
  obtain ⟨t, hexec, hstep, -, hcause, hscope⟩ := exec_resetTakeEffect_narrow (d := d) hpow hdue (State.warmReset_die hq)
    (by rw [hq]; exact List.mem_singleton_self d)
  refine ⟨t, hexec, ?_, hcause, by rw [hscope, hq]; rfl⟩
  rw [State.stepOf, hstep]
  exact State.stepOf_dieReset _ d

theorem exec_resetTakeEffect_cluster (d c : Nat) (hpow : s.boot.powered = true) (hdue : s.boot.due = q :: rest) (hq : q.target = .cluster d c) :
    ∃ t, exec .resetTakeEffect s = .next t ∧ (d, 4 + c) ∈ t.boot.down ∧ t.fld d .RST_CAUSE_CAUSE = q.cause % 16 ∧ t.fld d .RST_CAUSE_SCOPE = 2 := by
  obtain ⟨t, hexec, -, hdown, hcause, hscope⟩ := exec_resetTakeEffect_narrow (d := d) hpow hdue (State.warmReset_cluster hq)
    (by rw [hq]; exact List.mem_singleton_self d)
  exact ⟨t, hexec, hdown ▸ State.mem_down_clusterReset _ d c, hcause, by rw [hscope, hq]; rfl⟩

theorem exec_resetTakeEffect_ap (d a : Nat) (hpow : s.boot.powered = true) (hdue : s.boot.due = q :: rest) (hq : q.target = .ap d a) :
    ∃ t, exec .resetTakeEffect s = .next t ∧ (d, a) ∈ t.boot.down ∧ t.fld d .RST_CAUSE_CAUSE = q.cause % 16 ∧ t.fld d .RST_CAUSE_SCOPE = 3 := by
  obtain ⟨t, hexec, -, hdown, hcause, hscope⟩ := exec_resetTakeEffect_narrow (d := d) hpow hdue (State.warmReset_ap hq)
    (by rw [hq]; exact List.mem_singleton_self d)
  exact ⟨t, hexec, hdown ▸ State.mem_down_apReset _ d a, hcause, by rw [hscope, hq]; rfl⟩

end

/-- Settles O4, clause by clause. -/
theorem resetEffectComplete : Obligations.ResetEffectComplete := fun _ h0 =>
  ⟨exec_powerOnRelease_next, exec_brownOut_next h0, exec_rstNRelease_next, exec_holdoffEnd_next, fun _ _ => exec_resetTakeEffect_package h0,
    fun _ _ d hpow hdue hq _ => exec_resetTakeEffect_die d hpow hdue hq, fun _ _ => exec_resetTakeEffect_cluster, fun _ _ => exec_resetTakeEffect_ap⟩

/-- Settles O53: both forms of a request for DIE_0 become one of the package, whose reset RST_CAUSE records with SCOPE 0. -/
theorem dieZeroResetIsPackage : Obligations.DieZeroResetIsPackage := fun _ h0 =>
  ⟨exec_resetRequest_die_zero h0, State.requestReset_die_zero, exec_resetTakeEffect_die_zero⟩

end Sys2Proof.Machine
end

section
/-!
SUPPORT and PROOFS. The flash frame of every row (04_reset_and_options.md, R84; R135, R405, R500).
-/
namespace Sys2Proof.Machine

section
variable {a : Nat} {v : Byte} {s t : State}

/-- A row that always has a next state reads flash as that state does. -/
theorem flashReads_of_next {u : State} (h : FlashReads a v u) (ht : (.next u : Out) = .next t) : FlashReads a v t :=
  Host.Outcome.next.inj ht ▸ h

/-- A guarded write writes flash only in its effect. -/
theorem State.guarded_flashReads (m : Master) (d : Nat) (blk : Blk) (off : Nat) (eff : State → State) (h : FlashReads a v s)
    (heff : FlashReads a v (eff s)) : FlashReads a v (s.guarded m d blk off eff) := by
  unfold State.guarded State.guardWrite
  by_cases hg : s.guardOk m = true
  · simpa [hg] using heff
  · simpa [hg] using flashReads_of_mask (State.guardViolation_mask _ _ _ _ _ (by decide)) h

/-- A store in memory leaves every byte of flash. -/
theorem State.store_flashReads {w : Agent} {b : Nat} {bs : List Byte} (h : FlashReads a v s) : FlashReads a v (s.store w b bs) :=
  ⟨State.store_wf _ _ _ _ h.1, by rw [← h.2, State.flashByte, flash_of_mask (State.store_mask s w b bs (Nat.and_self _)) rfl, State.flashByte]⟩

/-- The state of start-up and the Tithe store are no part of flash. -/
theorem flashReads_boot (h : FlashReads a v s) (x : BootState) : FlashReads a v { s with boot := x } := h

theorem flashReads_tithe (h : FlashReads a v s) (x : TitheState) : FlashReads a v { s with tithe := x } := h

/-- To set register fields leaves flash. -/
theorem State.setFlds_flashReads {d i : Nat} (l : List (Fld × Nat)) (h : FlashReads a v s) : FlashReads a v (s.setFlds d i l) := by
  induction l generalizing s with
  | nil => exact h
  | cons x l ih => exact ih (flashReads_mem (s := s) rfl rfl h)

/-- Of two answers the one that is given leaves flash where both do. -/
theorem flashReads_reply_ite {c : Prop} [Decidable c] {x y : Reply} (hx : FlashReads a v x.st) (hy : FlashReads a v y.st) :
    FlashReads a v (if c then x else y).st := by
  split
  · exact hx
  · exact hy

/-- OPT_WRITE writes the bank that is not in use, but for its check sum (R84). -/
theorem execOptWrite_flashReads {r : Req} {expected : Nat} {options : List Byte} (h : FlashReads a v s)
    (ha : inRanges (flashStores (.optWrite r expected options) s) a = false) (ht : execOptWrite r expected options s = .next t) : FlashReads a v t := by
  have bank := inRanges_out ha (List.mem_singleton_self _)
  have written : ∀ into seq, into = (if s.bankInUse = some 0 then 1 else 0) → FlashReads a v ((s.handling r 0x0833).putFlash (0x10000 + 0x1000 * into)
      (slice (bankBytes seq options) 0 0xFFC ++ List.replicate 4 0xFF#8)) := fun into seq hinto => by
    have short := slice_length (bankBytes seq options) 0 0xFFC
    subst hinto
    refine State.putFlash_reads _ (flashReads_of_mask (State.handling_mask _ _ _ (by decide)) h) ?_
    simp only [List.length_append, List.length_replicate] at bank ⊢
    omega
  refine flashReads_of_next (State.serve_flash _ _ _ _ _ h (fun handled => ?_)) ht
  simp only [State.handling_bankInUse]
  split
  · exact handled
  split
  · exact handled
  refine flashReads_reply_ite handled (flashReads_boot (written _ _ ?_) _)
  split
  · rename_i first
    rw [if_pos first]
  · rename_i other
    rw [if_neg other]

/-- The staged bundle goes into the flash slot not in use, with its new SEQ (R135). -/
theorem execFwPersistWriteEnd_flashReads {ok : Bool} (h : FlashReads a v s) (ha : inRanges (flashStores (.fwPersistWriteEnd ok) s) a = false)
    (ht : execFwPersistWriteEnd ok s = .next t) : FlashReads a v t := by
  refine flashReads_of_next ?_ ht
  split
  · exact h
  · refine flashReads_of_mask (State.fwEnd_mask _ _ _ (by decide)) ?_
    split
    · rename_i bs hstaged
      simp only [flashStores, hstaged] at ha
      have slot := inRanges_out ha (List.mem_singleton_self _)
      have head := slice_length bs 0 8
      refine State.putFlash_reads _ h ?_
      simp only [List.length_append, List.length_drop, leBytes_length]
      omega
    · exact h

/-- The end of the write of a trip record writes the bank that is not in use (R500). -/
theorem execTitheWriteEnd_flashReads {readBack : Bool} (h : FlashReads a v s) (ha : inRanges (flashStores (.titheWriteEnd readBack) s) a = false)
    (ht : execTitheWriteEnd readBack s = .next t) : FlashReads a v t := by
  have bank := inRanges_out ha (List.mem_singleton_self _)
  have written : ∀ image : List Byte, image.length ≤ max 256 s.tithe.image.length → FlashReads a v (s.fresh.2.putFlash (titheBase s.titheInto) image) :=
    fun image short => State.putFlash_reads image (flashReads_mem rfl rfl h) (by dsimp only at bank; omega)
  have answered : ∀ (u : State) x p, FlashReads a v u → FlashReads a v (match s.tithe.flushReq with
      | some r => u.answer r 0x0841 x p
      | none => u) := fun u x p hu => by
    split
    · exact flashReads_of_mask (State.answer_mask _ _ _ _ _ (by decide)) hu
    · exact hu
  have off : ∀ (u : State) (c : Prop) [Decidable c], FlashReads a v u → FlashReads a v (if c then u.railsOff else u) := fun u c _ hu => by
    split
    · exact flashReads_of_mask (State.railsOff_mask _ (by decide)) hu
    · exact hu
  unfold execTitheWriteEnd at ht
  split at ht
  · exact flashReads_of_next h ht
  refine flashReads_of_next (off _ _ ?_) ht
  cases readBack with
  | true =>
    have image := written s.tithe.image (Nat.le_max_right _ _)
    exact answered _ _ _ (State.setFlds_flashReads _ (State.setFlds_flashReads [(_, _)] (flashReads_tithe image _)))
  | false =>
    have short : (leBytes 256 s.fresh.1 ++ s.tithe.image.drop 256).length ≤ max 256 s.tithe.image.length := by
      rw [List.length_append, leBytes_length, List.length_drop]
      omega
    exact answered _ _ _ (State.setFlds_flashReads [(_, _)] (State.setFlds_flashReads [(_, _)] (flashReads_tithe (written _ short) _)))

/-- The end of an erase leaves the other bank blank (R500). -/
theorem execTitheEraseEnd_flashReads (h : FlashReads a v s) (ha : inRanges (flashStores .titheEraseEnd s) a = false)
    (ht : execTitheEraseEnd s = .next t) : FlashReads a v t := by
  refine flashReads_of_next ?_ ht
  split
  · exact flashReads_of_mask (State.setFld_mask _ _ _ _ _ (by decide)) (State.eraseFlash_reads h (inRanges_out ha (List.mem_singleton_self _)))
  · exact h

/-- A command of the xSPI controller writes flash as a program or an erase, in its range (R405). -/
theorem execXspiCommand_flashReads {m : Master} {c : XspiCmd} (h : FlashReads a v s) (ha : inRanges (flashStores (.xspiCommand m c) s) a = false)
    (ht : execXspiCommand m c s = .next t) : FlashReads a v t := by
  have accepted : FlashReads a v s.accepted := flashReads_mem rfl rfl h
  have logged : ∀ d ty x (dma : Master) w, FlashReads a v (s.accepted.fabLog d false ty x dma w) :=
    fun _ _ _ _ _ => flashReads_of_mask (State.fabLog_mask _ _ _ _ _ _ _ (by decide)) accepted
  have retried : FlashReads a v (s.accepted.retryEnds 0 9) := flashReads_mem rfl rfl accepted
  refine flashReads_of_next ?_ ht
  split
  · exact flashReads_of_mask (State.busError_mask _ _ _ _ _ _ (by decide)) h
  refine State.guarded_flashReads (s := s.accepted) _ _ _ _ _ accepted ?_
  cases c with
  | read cs fa ma n =>
    dsimp only
    split
    · exact accepted
    · split
      · exact logged _ _ _ _ _
      · exact State.store_flashReads retried
  | program cs fa ma n =>
    have range := inRanges_out ha (List.mem_singleton_self _)
    have woken := flashReads_of_mask (State.wake_mask _ ma n (by decide)) retried
    dsimp only
    split
    · exact accepted
    · split
      · exact logged _ _ _ _ _
      · split
        · exact flashReads_of_mask (State.readUe_mask _ _ _ (by decide)) woken
        · refine State.putFlash_reads _ woken ?_
          rw [List.length_zipWith, flashBytes_length]
          dsimp only at range
          omega
  | erase cs fa n =>
    dsimp only
    split
    · exact State.eraseFlash_reads accepted (inRanges_out ha (List.mem_singleton_self _))
    · exact accepted

/-- A row reads back every byte of flash outside the ranges it names. -/
theorem row_flashReads {i : Instr} (h : FlashReads a v s) (ht : exec i s = .next t) (ha : inRanges (flashStores i s) a = false) : t.flashByte a = v := by
  have unnamed : .flash ∉ rowParts i → t.flashByte a = v := fun hi => ((rowsKeepParts i s t ht).2.2.2.2 hi a).trans h.2
  cases i with
  | optWrite => exact (execOptWrite_flashReads h ha ht).2
  | fwPersistWriteEnd => exact (execFwPersistWriteEnd_flashReads h ha ht).2
  | titheWriteEnd => exact (execTitheWriteEnd_flashReads h ha ht).2
  | titheEraseEnd => exact (execTitheEraseEnd_flashReads h ha ht).2
  | xspiCommand => exact (execXspiCommand_flashReads h ha ht).2
  | _ => exact unnamed (of_decide_eq_false rfl)

end

/-- Settles O49: the rows that name flash, one by one, and the rest by the frame of the components. -/
theorem flashRowsStore : Obligations.FlashRowsStore := by
  unfold Obligations.FlashRowsStore
  intro i s t a canonical ht ha
  have before : FlashReads a (s.flashByte a) s := ⟨canonical, rfl⟩
  exact row_flashReads before ht ha
end Sys2Proof.Machine
end

section
/-!
SUPPORT and PROOFS. The memory frame of the start-up steps, of a copy of a buffer, of a checked pair of APs and of a transmission (R67, R73, R154, R295, R395, R427 to
R429).
-/
namespace Sys2Proof.Machine

section
variable {a : Nat} {v : Byte} {s t : State}

/-! Components that are no part of memory. -/

theorem reads_boot (h : Reads a v s) (x : BootState) : Reads a v { s with boot := x } := h

theorem reads_access (h : Reads a v s) (x : Access) : Reads a v { s with access := x } := h

theorem reads_memy (h : Reads a v s) (x : MemState) : Reads a v { s with memy := x } := h

theorem State.setStep_reads (h : Reads a v s) (d n : Nat) : Reads a v (s.setStep d n) := h

theorem State.setFld_reads (h : Reads a v s) (d : Nat) (f : Fld) (i x : Nat) : Reads a v (s.setFld d f i x) := reads_mem (s := s) rfl rfl h

/-! The start-up steps from 8 on (R66, R67, R73, R473). -/

/-- Step 8 writes memory on DIE_0 alone, as the AP boot image (R473). -/
theorem execDramTrainingEnd_reads {d : Nat} {l : List (Nat × Nat)} (h : Reads a v s) (hl : systemStores (.dramTrainingEnd d) s = some l)
    (ha : inRanges l a = false) (ht : execDramTrainingEnd d s = .next t) : Reads a v t := by
  have kept : ∀ u : State, Reads a v u → Reads a v (if u.fld 0 .SEC_STATUS_BOOT_FAIL = 1 then u else u.setStep d 8) := fun u hu => by
    split
    · exact hu
    · exact reads_mem rfl rfl hu
  unfold execDramTrainingEnd at ht
  split at ht
  · exact reads_of_next h ht
  split at ht
  · exact reads_of_next h ht
  refine reads_of_next (kept _ ?_) ht
  by_cases hd : d = 0
  · subst hd
    cases hl
    have loaded : ∀ u : State, Reads a v u → u.fw = s.fw → Reads a v u.loadApImage := fun u hu hfw => by
      refine loadApImage_reads u hu (fun b hb e he hk => ?_)
      rw [hfw] at hb
      simp only [hb, ne_eq, not_true_eq_false, if_false] at ha
      exact inRanges_out ha (w := (dramBase 0, e.length)) (List.mem_map.mpr ⟨e, List.mem_filter.mpr ⟨he, decide_eq_true hk⟩, rfl⟩)
    rw [if_pos rfl]
    refine loaded _ (reads_of_mask (State.voltages_mask _ (by decide)) (reads_of_mask (State.titheLoad_mask _ _ (by decide)) ?_)) ?_
    · exact reads_boot (State.setFld_reads (State.setFld_reads (by split; exacts [State.setFld_reads h _ _ _ _, h]) _ _ _ _) _ _ _ _) _
    · rw [fw_of_mask (State.voltages_mask _ (Nat.and_self _)) rfl, fw_of_mask (State.titheLoad_mask _ _ (Nat.and_self _)) rfl]
      change (if 0 ∈ s.boot.dramSaved then s.flag 0 .RST_STATUS_DRAM_KEPT else s).fw = s.fw
      split
      · rfl
      · rfl
  · rw [if_neg hd]
    exact reads_boot (State.setFld_reads (State.setFld_reads (by split; exacts [State.setFld_reads h _ _ _ _, h]) _ _ _ _) _ _ _ _) _

theorem execFabricUp_reads {g : ResetTarget} {l : List (Nat × Nat)} (h : Reads a v s) (hl : systemStores (.fabricUp g) s = some l)
    (ha : inRanges l a = false) (ht : execFabricUp g s = .next t) : Reads a v t := by
  have linked : ∀ (u : State) d, Reads a v u → Reads a v (u.linksUp d) := fun u d hu => reads_of_mask (State.linksUp_mask _ _ (by decide)) hu
  unfold execFabricUp at ht
  split at ht
  · exact reads_of_next h ht
  cases g with
  | package =>
    cases hl
    have zeroed : ∀ u : State, ∀ d ∈ s.starting, Reads a v u → Reads a v ((u.zeroDie d).linksUp d) := fun u d hd hu =>
      linked _ d (zeroDie_reads u d hu (inRanges_out ha (w := (granaryBase d, 0x22000000)) (List.mem_map.mpr ⟨d, hd, rfl⟩)))
    refine reads_of_next ?_ ht
    split
    · exact reads_of_mask (State.setAll_mask _ _ (by decide)) (reads_foldl _ _ zeroed _ h)
    · exact h
  | die d =>
    cases hl
    refine reads_of_next ?_ ht
    split
    · exact State.setStep_reads (linked _ d (zeroDie_reads s d h (inRanges_out ha (List.mem_singleton_self _)))) _ _
    · exact h
  | cluster d c =>
    cases hl
    refine reads_of_next ?_ ht
    split
    · exact reads_boot (zeroSlice_reads s d c h (inRanges_out ha (List.mem_singleton_self _))) _
    · exact h
  | ap d i => exact reads_of_next h ht

/-- Firmware starts without a store, but in RETURNED every byte of LPDDR5X is zeroed first (R475). -/
theorem execFirmwareStart_reads {g : ResetTarget} {l : List (Nat × Nat)} (h : Reads a v s) (hl : systemStores (.firmwareStart g) s = some l)
    (ha : inRanges l a = false) (ht : execFirmwareStart g s = .next t) : Reads a v t := by
  have started : ∀ (u : State) d, Reads a v u → Reads a v (u.startDie d) := fun u d hu => reads_of_mask (State.startDie_mask _ _ (by decide)) hu
  unfold execFirmwareStart at ht
  split at ht
  · exact reads_of_next h ht
  cases g with
  | package =>
    cases hl
    refine reads_of_next ?_ ht
    split
    · have zeroed : Reads a v (if 2 ≤ s.sec.lc then s.zeroBytes 0 0x8000000000 else s) := by
        by_cases hlc : 2 ≤ s.sec.lc
        · simp only [hlc, if_true] at ha ⊢
          exact State.zeroBytes_reads h (inRanges_out ha (List.mem_singleton_self _))
        · simpa only [hlc, if_false] using h
      exact State.setFld_reads (reads_foldl _ _ (fun u d _ hu => started u d hu) _ (reads_of_mask (State.fwParams_mask _ (by decide)) zeroed)) _ _ _ _
    · exact h
  | die d =>
    refine reads_of_next ?_ ht
    split
    · exact started s d h
    · exact h
  | cluster d c =>
    refine reads_of_next ?_ ht
    split
    · exact reads_boot h _
    · exact h
  | ap d i => exact reads_of_next (reads_boot h _) ht

/-! The copy of a buffer, and the accounting of a guarantee that its delay breaks (R154, R295, R296). -/

/-- The end of a copy writes the destination of the buffer that has moved (R154). -/
theorem State.moveEnd_reads {d k sl : Nat} {m : Move} (h : Reads a v s)
    (ha : ∀ e, lookup? s.memy.bufs (d, k, m.index) = some e → a < m.dest ∨ m.dest + e.length ≤ a) : Reads a v (s.moveEnd d k sl m) := by
  have quotaSet : ∀ u : State, Reads a v u → Reads a v (match m.nextQuota with
      | some q => u.setFld d .GRN_QUOTA_QUOTA (6 * k + sl) q
      | none => u) := fun u hu => by
    split
    · exact State.setFld_reads hu _ _ _ _
    · exact hu
  unfold State.moveEnd
  cases hbuf : lookup? s.memy.bufs (d, k, m.index) with
  | none => exact quotaSet _ (reads_memy h _)
  | some e =>
    exact quotaSet _ (reads_memy (reads_of_mask (State.changeBuf_mask _ _ _ _ _ (by decide)) (copyMem_reads _ _ _ _ h (ha e hbuf))) _)

theorem execSpillCopyEnd_reads {d k sl : Nat} {l : List (Nat × Nat)} (h : Reads a v s) (hl : systemStores (.spillCopyEnd d k sl) s = some l)
    (ha : inRanges l a = false) (ht : execSpillCopyEnd d k sl s = .next t) : Reads a v t := by
  unfold execSpillCopyEnd at ht
  cases hmove : lookup? s.memy.spills (d, k, sl) with
  | none =>
    simp only [hmove] at ht
    exact reads_of_next h ht
  | some m =>
    simp only [hmove] at ht
    by_cases hrefill : m.refill = true
    · exact reads_of_next h ((if_pos hrefill).symm.trans ht)
    · have moved : Reads a v (s.moveEnd d k sl m) := State.moveEnd_reads h (fun e hbuf => by
        simp only [systemStores, hmove, hrefill, hbuf, Bool.false_eq_true, if_false, Option.some.injEq] at hl
        subst hl
        exact inRanges_out ha (List.mem_singleton_self _))
      refine reads_of_next ?_ ((if_neg hrefill).symm.trans ht)
      split
      · exact reads_of_mask (State.refills_mask _ _ _ (by decide)) (reads_of_mask (State.quotaDone_mask _ _ _ _ (by decide)) moved)
      · exact moved

/-- A broken guarantee adds to the accounting of queues alone (R295, R296). -/
theorem State.guaranteeBroken_reads {d k kind amount cause queue : Nat} (h : Reads a v s)
    (ha : inRanges (s.q.queues.map (fun e => (e.2.acctBase + 96, 8))) a = false) : Reads a v (s.guaranteeBroken d k kind amount cause queue) := by
  have charged : ∀ u : State, u.q.queues = s.q.queues → Reads a v u → Reads a v (u.chargeBroken d k) := fun u hq hu => by
    unfold State.chargeBroken
    rw [hq]
    refine reads_foldl _ _ (fun w e he hw => ?_) _ hu
    split
    · refine State.store_reads hw ?_
      rw [leBytes_length]
      exact inRanges_out ha (w := (e.2.acctBase + 96, 8)) (List.mem_map.mpr ⟨e, he, rfl⟩)
    · exact hw
  have told : ∀ (u : State) e x y l doms, Reads a v u → Reads a v (u.raise e x y l doms) := fun u e x y l doms hu =>
    reads_of_mask (State.raise_mask _ _ _ _ _ _ (by decide)) hu
  have shown : ∀ u : State, Reads a v u → Reads a v (if k ∈ u.classSSilos d then u.source { src := 6, die := d, silo := some k } [(d, k)] else u) :=
    fun u hu => by
      split
      · exact reads_of_mask (State.source_mask _ _ _ (by decide)) hu
      · exact hu
  unfold State.guaranteeBroken
  dsimp only
  split
  · exact h
  · refine shown _ (told _ _ _ _ _ _ (charged _ ?_ (reads_of_mask (State.flag_mask _ _ _ _ (by decide)) ?_)))
    · rfl
    · exact reads_of_mask (State.setSilo_mask _ _ _ _ (by decide)) h

theorem execRefillCopyEnd_reads {d k sl : Nat} {l : List (Nat × Nat)} (h : Reads a v s) (hl : systemStores (.refillCopyEnd d k sl) s = some l)
    (ha : inRanges l a = false) (ht : execRefillCopyEnd d k sl s = .next t) : Reads a v t := by
  have started : Reads a v (s.startRefill d k sl) := reads_of_mask (State.startRefill_mask _ _ _ _ (by decide)) h
  have startedQ : (s.startRefill d k sl).q = s.q := q_of_mask (State.startRefill_mask _ _ _ _ (Nat.and_self _)) rfl
  have settled : ∀ u : State, Reads a v u →
      Reads a v ((if u.usedBushels d k sl ≤ u.quotaOf d k sl then u.quotaDone d k sl else u).refills d sl) := fun u hu => by
    refine reads_of_mask (State.refills_mask _ _ _ (by decide)) ?_
    split
    · exact reads_of_mask (State.quotaDone_mask _ _ _ _ (by decide)) hu
    · exact hu
  unfold execRefillCopyEnd at ht
  simp only [systemStores, Option.some.injEq] at hl
  subst hl
  obtain ⟨hcopy, hacct⟩ := Bool.or_eq_false_iff.mp ((inRanges_append _ _ a).symm.trans ha)
  cases hmove : lookup? (s.startRefill d k sl).memy.spills (d, k, sl) with
  | none =>
    simp only [hmove] at ht
    exact reads_of_next h ht
  | some m =>
    simp only [hmove] at ht hcopy
    split at ht
    · exact reads_of_next h ht
    have moved : Reads a v ((s.startRefill d k sl).moveEnd d k sl m) := State.moveEnd_reads started (fun e hbuf => by
      simp only [hbuf] at hcopy
      exact inRanges_out hcopy (List.mem_singleton_self _))
    have movedQ : ((s.startRefill d k sl).moveEnd d k sl m).q = s.q := (q_of_mask (State.moveEnd_mask _ _ _ _ _ (Nat.and_self _)) rfl).trans startedQ
    have judged : ∀ (held : List Nat) cls, Reads a v (if held = [] then (s.startRefill d k sl).moveEnd d k sl m
        else ((s.startRefill d k sl).moveEnd d k sl m).guaranteeBroken d k 4 (held.foldl max 0) cls 0) := fun held cls => by
      split
      · exact moved
      · exact State.guaranteeBroken_reads moved (by rwa [movedQ])
    exact reads_of_next (settled _ (judged _ _)) ht

/-! Checked pairs of APs (R427 to R429) and transmissions (R395). -/

theorem State.setPair_reads {d p : Nat} {x : ApPairRun} (h : Reads a v s) : Reads a v (s.setPair d p x) :=
  reads_of_mask (State.setPair_mask _ _ _ _ (by decide)) h

theorem State.pairEvent_reads {d p outcome : Nat} (h : Reads a v s) : Reads a v (s.pairEvent d p outcome) :=
  reads_of_mask (State.pairEvent_mask _ _ _ _ (by decide)) h

theorem State.pairLost_reads {d p outcome : Nat} (h : Reads a v s) : Reads a v (s.pairLost d p outcome) :=
  reads_of_mask (State.pairLost_mask _ _ _ _ (by decide)) h

theorem execApCheckpoint_reads {d p : Nat} {lines : PairLines} {equal : Bool} {l : List (Nat × Nat)} (h : Reads a v s)
    (hl : systemStores (.apCheckpoint d p lines equal) s = some l) (ha : inRanges l a = false) (ht : execApCheckpoint d p lines equal s = .next t) :
    Reads a v t := by
  unfold execApCheckpoint at ht
  split at ht
  · exact reads_of_next h ht
  dsimp only at ht
  split at ht
  · exact reads_of_next h ht
  cases equal with
  | true =>
    cases hl
    have released : Reads a v ((s.releaseLines d (2 * p) lines.main).setPair d p ⟨[], [], false, false, []⟩) :=
      State.setPair_reads (releaseLines_reads _ _ _ _ h ha)
    simp only [if_true] at ht
    split at ht
    · exact reads_of_next (State.pairEvent_reads (reads_of_mask (State.countTransient_mask _ _ (by decide)) released)) ht
    · exact reads_of_next released ht
  | false =>
    simp only [Bool.false_eq_true, if_false] at ht
    split at ht
    · exact reads_of_next (State.pairLost_reads h) ht
    · exact reads_of_next (State.setFld_reads (State.setPair_reads h) _ _ _ _) ht

/-- The survivor's lines are released where one AP of the pair passes its self-test (R428). -/
theorem execApPairSelftestEnd_reads {d p : Nat} {mainPass checkerPass : Bool} {l : List (Nat × Nat)} (h : Reads a v s)
    (hl : systemStores (.apPairSelftestEnd d p mainPass checkerPass) s = some l) (ha : inRanges l a = false)
    (ht : execApPairSelftestEnd d p mainPass checkerPass s = .next t) : Reads a v t := by
  have survives : ∀ (u : State) gone outcome, Reads a v u → Reads a v (State.source ((((((u.setPair d p ⟨[], [], false, false, []⟩).removeAp d gone).pairStops d p
      true).countPersistent d).pairEvent d p outcome)) { src := 11, die := d } []) := fun u gone outcome hu =>
    reads_of_mask (State.source_mask _ _ _ (by decide)) (State.pairEvent_reads (reads_of_mask (State.countPersistent_mask _ _ (by decide))
      (reads_of_mask (State.pairStops_mask _ _ _ _ (by decide)) (reads_of_mask (State.removeAp_mask _ _ _ (by decide)) (State.setPair_reads hu)))))
  unfold execApPairSelftestEnd at ht
  split at ht
  · exact reads_of_next h ht
  dsimp only at ht
  split at ht
  · exact reads_of_next h ht
  cases mainPass with
  | true =>
    cases checkerPass with
    | true => exact reads_of_next (State.setPair_reads h) ht
    | false =>
      cases hl
      exact reads_of_next (survives _ _ _ (releaseLines_reads _ _ _ _ h ha)) ht
  | false =>
    cases checkerPass with
    | true =>
      cases hl
      exact reads_of_next (survives _ _ _ (releaseLines_reads _ _ _ _ h ha)) ht
    | false => exact reads_of_next (State.pairLost_reads h) ht

theorem execDebugAction_reads {d p : Nat} {x : DebugAct} {l : List (Nat × Nat)} (h : Reads a v s) (hl : systemStores (.debugAction d p x) s = some l)
    (ha : inRanges l a = false) (ht : execDebugAction d p x s = .next t) : Reads a v t := by
  cases hl
  unfold execDebugAction at ht
  split at ht
  · exact reads_of_next h ht
  split at ht
  · exact reads_of_next h ht
  dsimp only at ht
  split at ht
  · exact reads_of_next (reads_access h _) ht
  · exact reads_of_next (reads_access (releaseLines_reads _ _ _ _ (State.setPair_reads h) ha) _) ht

/-- The start of an egress writes the descriptor of its frame (R395). -/
theorem execEthFrameTx_reads {d i : Nat} {l : List (Nat × Nat)} (h : Reads a v s) (hl : systemStores (.ethFrameTx d i) s = some l)
    (ha : inRanges l a = false) (ht : execEthFrameTx d i s = .next t) : Reads a v t := by
  unfold execEthFrameTx at ht
  split at ht
  · exact reads_of_next h ht
  split at ht
  · exact reads_of_next h ht
  cases hnext : s.nextFrame d i with
  | none =>
    simp only [hnext] at ht
    exact reads_of_next h ht
  | some x =>
    obtain ⟨f, rest⟩ := x
    simp only [systemStores, hnext, Option.some.injEq] at hl
    simp only [hnext] at ht
    refine reads_of_next ?_ ht
    have sent : ∀ (u : State) p m, Reads a v u → Reads a v ((u.setPort d i p).send m) := fun u p m hu =>
      reads_of_mask (State.send_mask _ _ (by decide)) (reads_of_mask (State.setPort_mask _ _ _ _ (by decide)) hu)
    have marked : ∀ bytes, Reads a v (s.safetyEgress f.handle bytes).2 := fun bytes => reads_of_mask (State.safetyEgress_mask _ _ _ (by decide)) h
    cases hdesc : f.desc with
    | none => exact sent _ _ _ (marked _)
    | some x =>
      simp only [hdesc] at hl
      subst hl
      exact reads_of_mask (State.dropDesc_mask _ _ (by decide))
        (doneDesc_reads _ _ _ _ _ (sent _ _ _ (marked _)) (inRanges_out ha (List.mem_singleton_self _)))

/-- A start-up step, a copy, a checked pair or a transmission reads back every byte outside the ranges it names. -/
theorem systemRow_reads {i : Instr} {l : List (Nat × Nat)} (h : Reads a v s) (hl : systemStores i s = some l) (ht : exec i s = .next t)
    (ha : inRanges l a = false) : Reads a v t := by
  cases i with
  | dramTrainingEnd => exact execDramTrainingEnd_reads h hl ha ht
  | fabricUp => exact execFabricUp_reads h hl ha ht
  | firmwareStart => exact execFirmwareStart_reads h hl ha ht
  | spillCopyEnd => exact execSpillCopyEnd_reads h hl ha ht
  | refillCopyEnd => exact execRefillCopyEnd_reads h hl ha ht
  | apCheckpoint => exact execApCheckpoint_reads h hl ha ht
  | apPairSelftestEnd => exact execApPairSelftestEnd_reads h hl ha ht
  | debugAction => exact execDebugAction_reads h hl ha ht
  | ethFrameTx => exact execEthFrameTx_reads h hl ha ht
  | _ => cases hl

end

/-- Settles O48, row by row. -/
theorem systemRowsStore : Obligations.SystemRowsStore := by
  unfold Obligations.SystemRowsStore
  intro i s t l a canonical hl ht ha
  have before : Reads a (s.byte a) s := ⟨canonical, rfl⟩
  exact (systemRow_reads before hl ht ha).2

end Sys2Proof.Machine
end

section
/-!
SUPPORT and PROOFS. The boot code and the bank of options that a start-up uses (04_reset_and_options.md, R76, R78 to R82).
-/
namespace Sys2Proof.Machine

/-! Codes of BOOTSEL and sequence numbers (R76, R78, R80). -/

theorem bootselRaw_lt (cs : List Nat) : (bootselRaw cs).1 < 16 := by
  unfold bootselRaw
  split
  · decide
  · split
    · rename_i b hfind
      exact List.mem_range.mp (List.mem_of_find?_eq_some hfind)
    · decide

/-- The effective code of a code is one of the codes of R77. -/
theorem State.effCode_lt (s : State) (c : Nat) : s.effCode c < 16 := by
  unfold State.effCode
  split_ifs <;> omega

/-- A raw code other than 15 is in force unless it is reserved (R78). -/
theorem State.effCode_of_lt {c : Nat} (s : State) (h : c < 15) :
    s.effCode c = if 8 ≤ c ∧ c ≤ 13 then 7 else if c = 14 ∧ s.sec.lc ≠ 0 then 7 else c := by
  rw [State.effCode, if_neg (Nat.not_le.mpr h)]

theorem leNat_lt : ∀ l : List Byte, leNat l < 256 ^ l.length
  | [] => by decide
  | b :: l => by
    have low := b.isLt
    have high := leNat_lt l
    rw [leNat, List.length_cons, pow_succ]
    omega

theorem bankSeq_lt (bs : List Byte) : bankSeq bs < 2 ^ 32 :=
  calc bankSeq bs < 256 ^ (slice bs 8 4).length := leNat_lt _
    _ ≤ 256 ^ 4 := Nat.pow_le_pow_right (by decide) (slice_length bs 8 4)
    _ = 2 ^ 32 := by decide

/-- Bank 1 is later where its SEQ lies 1 to 2³¹ − 1 behind that of bank 0 (R80). -/
theorem laterSeq_bankSeq (bs0 bs1 : List Byte) : laterSeq (bankSeq bs1) (bankSeq bs0) = true ↔
    1 ≤ (bankSeq bs1 + 2 ^ 32 - bankSeq bs0) % 2 ^ 32 ∧ (bankSeq bs1 + 2 ^ 32 - bankSeq bs0) % 2 ^ 32 ≤ 2 ^ 31 - 1 := by
  simp only [laterSeq, Nat.mod_eq_of_lt (bankSeq_lt bs0), Bool.and_eq_true, decide_eq_true_eq]

section
variable {s : State}

/-! The bank in use by the validity of both (R80). -/

theorem State.bankInUse_of_later (h0 : bankValid (s.optBank 0) = true) (h1 : bankValid (s.optBank 1) = true)
    (hlater : laterSeq (bankSeq (s.optBank 1)) (bankSeq (s.optBank 0)) = true) : s.bankInUse = some 1 := by
  simp only [State.bankInUse, chooseBank, h0, h1, hlater, and_self, if_true]

theorem State.bankInUse_of_not_later (h0 : bankValid (s.optBank 0) = true) (h1 : bankValid (s.optBank 1) = true)
    (hlater : ¬ laterSeq (bankSeq (s.optBank 1)) (bankSeq (s.optBank 0)) = true) : s.bankInUse = some 0 := by
  simp only [State.bankInUse, chooseBank, h0, h1, hlater, and_self, if_true, if_false, Bool.false_eq_true]

theorem State.bankInUse_of_first (h0 : bankValid (s.optBank 0) = true) (h1 : bankValid (s.optBank 1) = false) : s.bankInUse = some 0 := by
  simp only [State.bankInUse, chooseBank, h0, h1, Bool.false_eq_true, and_false, if_true, if_false]

theorem State.bankInUse_of_second (h0 : bankValid (s.optBank 0) = false) (h1 : bankValid (s.optBank 1) = true) : s.bankInUse = some 1 := by
  simp only [State.bankInUse, chooseBank, h0, h1, Bool.false_eq_true, false_and, if_true, if_false]

theorem State.bankInUse_of_neither (h0 : bankValid (s.optBank 0) = false) (h1 : bankValid (s.optBank 1) = false) : s.bankInUse = none := by
  simp only [State.bankInUse, chooseBank, h0, h1, Bool.false_eq_true, false_and, if_false]

theorem State.optBank_of_flash {t : State} (h : t.flash = s.flash) (b : Nat) : t.optBank b = s.optBank b := State.flashBytes_of_flash h _ _

theorem State.bankInUse_of_flash {t : State} (h : t.flash = s.flash) : t.bankInUse = s.bankInUse := by
  simp only [State.bankInUse, State.optBank_of_flash h]

theorem State.flash_setFld_aborts (s : State) : (s.setFld 0 .RST_STATUS_OPT_ABORTS 0 0).flash = s.flash := rfl

/-! The option load (R78, R80 to R83). -/

/-- The option bytes of a bank. -/
def State.bankOptions (s : State) (b : Nat) : List Byte := slice (s.optBank b) 0x10 256

/-- The state after the option load from a bank, before step 6 is complete. -/
def State.optionsLoaded (s : State) (b : Nat) : State :=
  ((s.setFld 0 .RST_STATUS_OPT_ABORTS 0 0).applyOptions (s.bankOptions b)).setFlds 0 0
    [(.RST_STATUS_OPT_BANK, b), (.RST_STATUS_BOOTSEL_EFF, s.effCode (leAt (s.bankOptions b) 0 1))]

/-- The state after an option load that finds no valid bank. -/
def State.optionsMissing (s : State) : State :=
  ((s.setFld 0 .RST_STATUS_OPT_ABORTS 0 0).flag 0 .RST_STATUS_OPT_INVALID).setFld 0 .RST_STATUS_BOOTSEL_EFF 0 0

/-- The completion of step 6 leaves the fields other than those of the pins. -/
theorem State.fld_stepSix (s : State) {f : Fld} (hoe : f ≠ .PINCFG_OE) (hpull : f ≠ .PINCFG_PULL) (d i : Nat) :
    (s.setAll 6).bootPins.fld d f i = s.fld d f i := by
  have high : ∀ n, n < 33 → (2 ^ n).testBit f.maskBit = false := fun n hn => by
    rw [Nat.testBit_two_pow]
    exact decide_eq_false (by unfold Fld.maskBit; omega)
  have pins : (s.setAll 6).bootPins.mask (2 ^ 8) = (s.setAll 6).mask (2 ^ 8) := State.bootPins_mask _ (by decide)
  have steps : (s.setAll 6).mask (2 ^ 10) = s.mask (2 ^ 10) := State.setAll_mask _ _ (by decide)
  exact (fld_of_mask pins (by decide) f (high 8 (by decide)) (.inr ⟨hoe, hpull⟩) d i).trans
    (fld_of_mask steps (by decide) f (high 10 (by decide)) (.inl (by decide)) d i)

theorem State.stepSix_options (s : State) : (s.setAll 6).bootPins.boot.options = s.boot.options :=
  foldl_keeps (fun t : State => t.boot.options) (fun _ _ => by rfl) _ _

/-- The options that are applied are in force. -/
theorem State.applyOptions_options (s : State) (bs : List Byte) : (s.applyOptions bs).boot.options = some bs :=
  foldl_keeps (fun t : State => t.boot.options)
    (fun t i => congrArg BootState.options (boot_of_mask (t.pinEntry_mask bs i (Nat.and_self _)) rfl)) _ _

section
variable (hall : s.allAt 5 = true) (hpkg : s.boot.pkg = true) (haborts : s.fld 0 .RST_STATUS_OPT_ABORTS ≠ 3)
include hall hpkg haborts

theorem exec_optionLoadEnd_bank {b : Nat} (hbank : s.bankInUse = some b) : exec .optionLoadEnd s = .next ((s.optionsLoaded b).setAll 6).bootPins := by
  have same : (s.setFld 0 .RST_STATUS_OPT_ABORTS 0 0).bankInUse = some b := (State.bankInUse_of_flash s.flash_setFld_aborts).trans hbank
  have bytes : (s.setFld 0 .RST_STATUS_OPT_ABORTS 0 0).optBank b = s.optBank b := State.optBank_of_flash s.flash_setFld_aborts b
  refine (if_neg (Decidable.not_not.mpr ⟨hall, hpkg⟩)).trans ((if_neg haborts).trans ?_)
  simp only [same, bytes, State.optionsLoaded, State.bankOptions]
  rfl

theorem exec_optionLoadEnd_none (hbank : s.bankInUse = none) : exec .optionLoadEnd s = .next (s.optionsMissing.setAll 6).bootPins := by
  have same : (s.setFld 0 .RST_STATUS_OPT_ABORTS 0 0).bankInUse = none := (State.bankInUse_of_flash s.flash_setFld_aborts).trans hbank
  refine (if_neg (Decidable.not_not.mpr ⟨hall, hpkg⟩)).trans ((if_neg haborts).trans ?_)
  simp only [same, State.optionsMissing]

/-- An option load from a bank shows the bank, and its options come into force. -/
theorem exec_optionLoadEnd_uses {b : Nat} (hb : b < 2) (hbank : s.bankInUse = some b) :
    ∃ t, exec .optionLoadEnd s = .next t ∧ t.fld 0 .RST_STATUS_OPT_BANK = b ∧ t.boot.options = some (s.bankOptions b) := by
  refine ⟨_, exec_optionLoadEnd_bank hall hpkg haborts hbank, ?_, ?_⟩
  · rw [State.fld_stepSix _ (by decide) (by decide), State.optionsLoaded, State.fld_setFlds_mem (v := b) _ (by simp) (by simp)]
    exact Nat.mod_eq_of_lt hb
  · rw [State.stepSix_options]
    exact State.applyOptions_options _ _

theorem exec_optionLoadEnd_code {b : Nat} (hbank : s.bankInUse = some b) :
    ∃ t, exec .optionLoadEnd s = .next t ∧ t.fld 0 .RST_STATUS_BOOTSEL_EFF = s.effCode (leAt (s.bankOptions b) 0 1) := by
  refine ⟨_, exec_optionLoadEnd_bank hall hpkg haborts hbank, ?_⟩
  rw [State.fld_stepSix _ (by decide) (by decide), State.optionsLoaded,
    State.fld_setFlds_mem (v := s.effCode (leAt (s.bankOptions b) 0 1)) _ (by simp) (by simp)]
  exact Nat.mod_eq_of_lt (s.effCode_lt _)

/-- With no valid bank no options are loaded, OPT_INVALID sets and the effective code is 0. -/
theorem exec_optionLoadEnd_invalid (hbank : s.bankInUse = none) :
    ∃ t, exec .optionLoadEnd s = .next t ∧ t.boot.options = s.boot.options ∧ t.fld 0 .RST_STATUS_OPT_INVALID = 1 ∧ t.fld 0 .RST_STATUS_BOOTSEL_EFF = 0 := by
  refine ⟨_, exec_optionLoadEnd_none hall hpkg haborts hbank, State.stepSix_options _, ?_, ?_⟩
  · rw [State.fld_stepSix _ (by decide) (by decide), State.optionsMissing, State.fld_setFld_other _ _ _ _ _ _ (by decide)]
    exact State.fld_setFld_same _ _ _ _ _
  · rw [State.fld_stepSix _ (by decide) (by decide)]
    exact State.fld_setFld_same _ _ _ _ _

end

/-! The code that BOOTSEL gives (R76, R78). -/

theorem exec_trimLoadEnd_eq {d : Nat} (parityFail : Bool) (cs : List Nat) (hd : s.hasDie d = true) (hload : d ∈ s.boot.loading) :
    ∃ n, exec (.trimLoadEnd d parityFail cs) s = .next (((s.trimmed d parityFail cs).applyPins d).setStep d n).freeHeld :=
  ⟨_, (if_neg (Decidable.not_not.mpr hd)).trans (if_neg (Decidable.not_not.mpr hload))⟩

/-- The end of a trim load leaves the codes of BOOTSEL as it has sampled them. -/
theorem State.fld_trimEnd (t : State) (n : Nat) {f : Fld} (hf : f = .RST_STATUS_BOOTSEL_RAW ∨ f = .RST_STATUS_BOOTSEL_EFF) :
    (((t.applyPins 0).setStep 0 n).freeHeld).fld 0 f = t.fld 0 f := by
  change (t.applyPins 0).fld 0 f = t.fld 0 f
  rcases hf with rfl | rfl <;> exact fld_of_mask (t.applyPins_mask 0 (Nat.and_self _)) rfl _ rfl (.inr ⟨by decide, by decide⟩) 0 0

/-- The debug scopes of MANUFACTURE leave the codes of BOOTSEL. -/
theorem State.fld_trimmed_zero (hpkg : s.boot.pkg = true) (parityFail : Bool) (cs : List Nat) {f : Fld}
    (hf : f = .RST_STATUS_BOOTSEL_RAW ∨ f = .RST_STATUS_BOOTSEL_EFF) :
    ∃ u : State, u.sec = s.sec ∧ (s.trimmed 0 parityFail cs).fld 0 f = (u.sampleBootsel cs).fld 0 f := by
  have debug : ∀ u : State, (u.setDbgAuth 7 1).fld 0 f = u.fld 0 f := fun u => by
    rcases hf with rfl | rfl <;> exact fld_of_mask (u.setDbgAuth_mask 7 1 (Nat.and_self _)) rfl _ rfl (.inl (by decide)) 0 0
  have same : ∀ (u : State) (c : Prop) [Decidable c], (if c then u.setDbgAuth 7 1 else u).fld 0 f = u.fld 0 f := fun u c _ => by
    split
    · exact debug u
    · rfl
  cases parityFail with
  | true => exact ⟨State.flag { s with boot.loading := s.boot.loading.filter (fun x => decide (x ≠ 0)) } 0 .RST_STATUS_TRIM_ERR, rfl,
      (same _ _).trans (congrArg (fun u : State => u.fld 0 f) (if_pos ⟨hpkg, rfl⟩))⟩
  | false => exact ⟨{ s with boot.loading := s.boot.loading.filter (fun x => decide (x ≠ 0)) }, rfl,
      (same _ _).trans (congrArg (fun u : State => u.fld 0 f) (if_pos ⟨hpkg, rfl⟩))⟩

/-- A flag that BOOTSEL sets leaves the raw code. -/
theorem State.flag_keeps_raw {w : State} {c : Bool} {g : Fld} (hg : Fld.RST_STATUS_BOOTSEL_RAW ≠ g) :
    (if c then w.flag 0 g else w).fld 0 .RST_STATUS_BOOTSEL_RAW = w.fld 0 .RST_STATUS_BOOTSEL_RAW := by
  split
  · exact State.fld_setFld_other _ _ _ _ _ _ hg
  · rfl

/-- BOOTSEL as it is sampled, before the effective code: the raw code, whether the conversions disagreed, whether the pin is open (R76). -/
def State.bootselShown (s : State) (cs : List Nat) : State :=
  let r := bootselRaw cs
  let s1 := s.setFld 0 .RST_STATUS_BOOTSEL_RAW 0 r.1
  let s2 := if r.2.1 then s1.flag 0 .RST_STATUS_BOOTSEL_BAD else s1
  if r.2.2 then s2.flag 0 .RST_STATUS_BOOTSEL_OPEN else s2

theorem State.bootselShown_raw (u : State) (cs : List Nat) : (u.bootselShown cs).fld 0 .RST_STATUS_BOOTSEL_RAW = (bootselRaw cs).1 := by
  unfold State.bootselShown
  dsimp only
  rw [State.flag_keeps_raw (by decide), State.flag_keeps_raw (by decide)]
  exact (State.fld_setFld_same _ _ _ _ _).trans (Nat.mod_eq_of_lt (bootselRaw_lt cs))

theorem State.sampleBootsel_eq (u : State) (cs : List Nat) : u.sampleBootsel cs = (u.bootselShown cs).setFld 0 .RST_STATUS_BOOTSEL_EFF 0
    (if (bootselRaw cs).1 = 15 then 0 else u.effCode (bootselRaw cs).1) := rfl

/-- What BOOTSEL gives as the raw and as the effective code (R76, R78). -/
theorem State.fld_sampleBootsel (u : State) (cs : List Nat) : (u.sampleBootsel cs).fld 0 .RST_STATUS_BOOTSEL_RAW = (bootselRaw cs).1 ∧
    (u.sampleBootsel cs).fld 0 .RST_STATUS_BOOTSEL_EFF = if (bootselRaw cs).1 = 15 then 0 else u.effCode (bootselRaw cs).1 := by
  have small : (if (bootselRaw cs).1 = 15 then 0 else u.effCode (bootselRaw cs).1) < 16 := by
    split
    · decide
    · exact u.effCode_lt _
  rw [State.sampleBootsel_eq]
  exact ⟨(State.fld_setFld_other _ _ _ _ _ _ (by decide)).trans (u.bootselShown_raw cs), (State.fld_setFld_same _ _ _ _ _).trans (Nat.mod_eq_of_lt small)⟩

theorem exec_trimLoadEnd_codes (parityFail : Bool) (cs : List Nat) (h0 : s.hasDie 0 = true) (hload : 0 ∈ s.boot.loading) (hpkg : s.boot.pkg = true) :
    ∃ t, exec (.trimLoadEnd 0 parityFail cs) s = .next t ∧ t.fld 0 .RST_STATUS_BOOTSEL_RAW = (bootselRaw cs).1 ∧
      ((bootselRaw cs).1 = 15 → t.fld 0 .RST_STATUS_BOOTSEL_EFF = 0) ∧
      ((bootselRaw cs).1 ≠ 15 → t.fld 0 .RST_STATUS_BOOTSEL_EFF =
        if 8 ≤ (bootselRaw cs).1 ∧ (bootselRaw cs).1 ≤ 13 then 7 else if (bootselRaw cs).1 = 14 ∧ s.sec.lc ≠ 0 then 7 else (bootselRaw cs).1) := by
  obtain ⟨n, hexec⟩ := exec_trimLoadEnd_eq parityFail cs h0 hload
  obtain ⟨u, -, hraw⟩ := State.fld_trimmed_zero hpkg parityFail cs (.inl rfl)
  obtain ⟨w, hsec, heff⟩ := State.fld_trimmed_zero hpkg parityFail cs (.inr rfl)
  have code := (State.fld_trimEnd (s.trimmed 0 parityFail cs) n (.inr rfl)).trans (heff.trans (w.fld_sampleBootsel cs).2)
  refine ⟨_, hexec, ?_, fun h15 => ?_, fun h15 => ?_⟩
  · rw [State.fld_trimEnd _ _ (.inl rfl), hraw, (u.fld_sampleBootsel cs).1]
  · rw [code, if_pos h15]
  · have small := bootselRaw_lt cs
    rw [code, if_neg h15, State.effCode_of_lt _ (by omega), hsec]

end

/-- Settles O51, by the validity of the two banks. -/
theorem optionBankChosen : Obligations.OptionBankChosen := by
  unfold Obligations.OptionBankChosen
  intro s hall hpkg haborts
  have uses := fun {b} => exec_optionLoadEnd_uses (b := b) hall hpkg haborts
  cases h0 : bankValid (s.optBank 0) with
  | true =>
    cases h1 : bankValid (s.optBank 1) with
    | true =>
      by_cases hlater : laterSeq (bankSeq (s.optBank 1)) (bankSeq (s.optBank 0)) = true
      · obtain ⟨t, hexec, hbank⟩ := uses (by decide) (State.bankInUse_of_later h0 h1 hlater)
        have range := (laterSeq_bankSeq _ _).mp hlater
        exact ⟨t, hexec, fun _ _ => ⟨fun _ => hbank, fun hnot => absurd range hnot⟩, nofun, nofun, nofun⟩
      · obtain ⟨t, hexec, hbank⟩ := uses (by decide) (State.bankInUse_of_not_later h0 h1 hlater)
        have range := mt (laterSeq_bankSeq _ _).mpr hlater
        exact ⟨t, hexec, fun _ _ => ⟨fun hin => absurd hin range, fun _ => hbank⟩, nofun, nofun, nofun⟩
    | false =>
      obtain ⟨t, hexec, hbank⟩ := uses (by decide) (State.bankInUse_of_first h0 h1)
      exact ⟨t, hexec, nofun, fun _ _ => hbank, nofun, nofun⟩
  | false =>
    cases h1 : bankValid (s.optBank 1) with
    | true =>
      obtain ⟨t, hexec, hbank⟩ := uses (by decide) (State.bankInUse_of_second h0 h1)
      exact ⟨t, hexec, nofun, nofun, fun _ _ => hbank, nofun⟩
    | false =>
      obtain ⟨t, hexec, hinvalid⟩ := exec_optionLoadEnd_invalid hall hpkg haborts (State.bankInUse_of_neither h0 h1)
      exact ⟨t, hexec, nofun, nofun, nofun, fun _ _ => hinvalid⟩

/-- Settles O52. -/
theorem effectiveBootCode : Obligations.EffectiveBootCode := fun _ =>
  ⟨exec_trimLoadEnd_codes, fun _ hall hpkg haborts => exec_optionLoadEnd_code hall hpkg haborts⟩

end Sys2Proof.Machine
end

section
/-!
SUPPORT and PROOFS. The steps from training to firmware start, groups that are forced out of reset, and the watchdog kick (04_reset_and_options.md, R66, R67, R73, R86,
R87).
-/
namespace Sys2Proof.Machine

section
variable {s : State}

/-! Steps 8 and 9 (R66, R67, R73, R104). -/

/-- A die whose LPDDR5X is trained, before its step (R67). -/
def State.trained (s : State) (d : Nat) : State :=
  let s1 := if d ∈ s.boot.dramSaved then s.flag 0 .RST_STATUS_DRAM_KEPT else s
  let s2 := s1.setFlds d 0 [(.DRAM_STATUS_TRAINED, 1), (.DRAM_STATUS_SELF_REFRESH, 0)]
  { s2 with boot.dramSaved := s2.boot.dramSaved.filter (fun x => decide (x ≠ d)) }

theorem State.fld_trained_same (s : State) (d : Nat) : (s.trained d).fld d .DRAM_STATUS_TRAINED = 1 :=
  State.fld_setFlds_mem (v := 1) _ (by decide) (by simp) d 0

theorem State.fld_trained_bootFail (s : State) (d : Nat) : (s.trained d).fld 0 .SEC_STATUS_BOOT_FAIL = s.fld 0 .SEC_STATUS_BOOT_FAIL := by
  refine (State.fld_setFlds_notin _ (by decide) d 0 0 0).trans ?_
  split
  · exact State.fld_setFld_other _ _ _ _ _ _ (by decide)
  · rfl

/-- A die other than DIE_0 completes step 8 on its own. -/
theorem exec_dramTrainingEnd_trained (hpow : s.boot.powered = true) (d : Nat) (hd : s.hasDie d = true) (hother : d ≠ 0) (hstep : s.stepOf d = 7)
    (hboot : s.fld 0 .SEC_STATUS_BOOT_FAIL = 0) : ∃ t, exec (.dramTrainingEnd d) s = .next t ∧ t.stepOf d = 8 ∧ t.fld d .DRAM_STATUS_TRAINED = 1 := by
  have ready : ¬ (s.stepOf d ≠ 7 ∨ ¬ s.boot.powered = true) := by simp [hstep, hpow]
  have booted : ¬ (s.trained d).fld 0 .SEC_STATUS_BOOT_FAIL = 1 := by rw [State.fld_trained_bootFail, hboot]; decide
  refine ⟨(s.trained d).setStep d 8, ?_, lookupD_insertKV_same _ _ _ _, s.fld_trained_same d⟩
  refine (if_neg (Decidable.not_not.mpr hd)).trans ((if_neg ready).trans (congrArg Host.Outcome.next ?_))
  simp only [if_neg hother]
  exact if_neg booted

/-- The bytes that are zeroed read as zero. -/
theorem State.byte_zeroBytes {lo n a : Nat} (hlo : lo ≤ a) (hhi : a < lo + n) : (s.zeroBytes lo n).byte a = 0 :=
  cellGet_none _ _ _ (fun e he => by
    have out := (List.mem_filter.mp he).2
    simp only [Bool.not_eq_true', Bool.and_eq_false_iff, decide_eq_false_iff_not] at out
    omega)

theorem State.byte_linksUp (s : State) (d a : Nat) : (s.linksUp d).byte a = s.byte a := by
  rw [State.byte, State.byte, mem_of_mask (s.linksUp_mask d (Nat.and_self _)) rfl]

theorem State.linksUp_part (s : State) (d : Nat) : (s.linksUp d).part = s.part := part_of_mask0 (s.linksUp_mask d (Nat.and_self _)) rfl

theorem State.byte_zeroDie {d a : Nat} (hlo : granaryBase d ≤ a) (hhi : a < granaryBase d + 0x22000000) : (s.zeroDie d).byte a = 0 := by
  change (s.zeroBytes (granaryBase d) 0x22000000).byte a = 0
  exact State.byte_zeroBytes hlo hhi

theorem State.byte_zeroSlice {d c a : Nat} (hlo : sliceBase d c ≤ a) (hhi : a < sliceBase d c + 0x5000000) : (s.zeroSlice d c).byte a = 0 := by
  change (s.zeroBytes (sliceBase d c) 0x5000000).byte a = 0
  exact State.byte_zeroBytes hlo hhi

/-- To zero the dies that start and to bring up their links leaves the part. -/
theorem State.zeroed_linked_part (l : List Nat) (s : State) : (l.foldl (fun (t : State) d => (t.zeroDie d).linksUp d) s).part = s.part :=
  foldl_keeps State.part (fun t d => (t.zeroDie d).linksUp_part d) l s

theorem exec_fabricUp_package (h0 : s.hasDie 0 = true) (hall : s.allAt 8 = true) : ∃ t, exec (.fabricUp .package) s = .next t ∧ t.stepOf 0 = 9 := by
  have present : s.hasTarget .package = true := rfl
  refine ⟨(s.starting.foldl (fun (t : State) d => (t.zeroDie d).linksUp d) s).setAll 9, ?_, State.stepOf_setAll ?_ 9⟩
  · change execFabricUp .package s = _
    simp only [execFabricUp, present, hall, not_true_eq_false, if_false, if_true]
  · exact (State.hasDie_of_part (State.zeroed_linked_part _ _) 0).trans h0

theorem exec_fabricUp_die (d : Nat) (hd : s.hasDie d = true) (hstep : s.stepOf d = 8) : ∃ t, exec (.fabricUp (.die d)) s = .next t ∧ t.stepOf d = 9 ∧
    ∀ a, granaryBase d ≤ a → a < granaryBase d + 0x22000000 → t.byte a = 0 := by
  have present : s.hasTarget (.die d) = true := hd
  refine ⟨((s.zeroDie d).linksUp d).setStep d 9, ?_, lookupD_insertKV_same _ _ _ _, fun a hlo hhi => ?_⟩
  · exact (if_neg (Decidable.not_not.mpr present)).trans (congrArg Host.Outcome.next (if_pos hstep))
  · change ((s.zeroDie d).linksUp d).byte a = 0
    rw [State.byte_linksUp]
    exact State.byte_zeroDie hlo hhi

theorem exec_fabricUp_cluster (d c : Nat) (ht : s.hasTarget (.cluster d c) = true) (hdown : (d, 4 + c) ∈ s.boot.down) :
    ∃ t, exec (.fabricUp (.cluster d c)) s = .next t ∧ (d, c) ∈ t.boot.zeroed ∧
      ∀ a, sliceBase d c ≤ a → a < sliceBase d c + 0x5000000 → t.byte a = 0 := by
  refine ⟨_, (if_neg (Decidable.not_not.mpr ht)).trans (congrArg Host.Outcome.next (if_pos hdown)), ?_, fun a hlo hhi => ?_⟩
  · change (d, c) ∈ if (d, c) ∈ s.boot.zeroed then s.boot.zeroed else s.boot.zeroed ++ [(d, c)]
    split
    · assumption
    · exact List.mem_append_right _ (List.mem_singleton_self _)
  · exact State.byte_zeroSlice (s := s) hlo hhi

/-! Steps 10 and 11 (R66, R73, R87, R128). -/

/-- A die at step 11 with its watchdog enabled at 200 ms, before the silos and the console (R87). -/
def State.watched (s : State) (d : Nat) : State :=
  (s.setFlds d 0 [(.RST_WDT_EN, 1), (.RST_WDT_TIMEOUT, 200), (.SCH_QCTX_BASE_ADDR, contextBase s.part d)]).setStep d 11

/-- Past the step and the watchdog, the start of firmware changes other fields and the window of pair discovery alone (R73, R128, R289). -/
theorem State.startDie_keeps {β : Type} (p : State → β) (s : State) (d : Nat)
    (hfld : ∀ (u : State) e f i v, f ≠ .RST_WDT_EN → f ≠ .RST_WDT_TIMEOUT → p (u.setFld e f i v) = p u)
    (hwindow : ∀ u : State, p { u with mirror.window := true } = p u) : p (s.startDie d) = p (s.watched d) := by
  have flds : ∀ (l : List (Fld × Nat)) (u : State) e i, (∀ x ∈ l, x.1 ≠ .RST_WDT_EN ∧ x.1 ≠ .RST_WDT_TIMEOUT) → p (u.setFlds e i l) = p u := by
    intro l
    induction l with
    | nil => exact fun _ _ _ _ => rfl
    | cons x l ih =>
      intro u e i hl
      obtain ⟨⟨hen, htimeout⟩, hl⟩ := List.forall_mem_cons.mp hl
      exact (ih _ e i hl).trans (hfld u e x.1 i x.2 hen htimeout)
  have console : ∀ (u : State) (c : Prop) [Decidable c], p (if c then u.console else u) = p u := fun u c _ => by
    split
    · exact flds _ _ _ _ (by simp)
    · rfl
  have window : ∀ (u : State) (c : Prop) [Decidable c], p (if c then { u with mirror.window := true } else u) = p u := fun u c _ => by
    split
    · exact hwindow u
    · rfl
  refine (window _ _).trans ((console _ _).trans (foldl_keeps p (fun t k => ?_) _ _))
  dsimp only
  split
  · exact hfld _ _ _ _ _ (by decide) (by decide)
  · exact (flds _ _ _ _ (by simp)).trans (hfld _ _ _ _ _ (by decide) (by decide))

theorem State.startDie_boot (s : State) (d : Nat) : (s.startDie d).boot = (s.watched d).boot :=
  State.startDie_keeps State.boot s d (fun _ _ _ _ _ _ _ => rfl) (fun _ => rfl)

theorem State.fld_startDie_wdt (s : State) (d : Nat) : (s.startDie d).fld d .RST_WDT_TIMEOUT = 200 ∧ (s.startDie d).fld d .RST_WDT_EN = 1 := by
  have once : ([(Fld.RST_WDT_EN, 1), (.RST_WDT_TIMEOUT, 200), (.SCH_QCTX_BASE_ADDR, contextBase s.part d)].map Prod.fst).Nodup := by simp
  constructor
  · refine (State.startDie_keeps (fun t : State => t.fld d .RST_WDT_TIMEOUT) s d (fun u e f i v _ h => ?_) (fun _ => rfl)).trans ?_
    · exact u.fld_setFld_other _ _ _ _ _ (Ne.symm h)
    · exact State.fld_setFlds_mem (v := 200) s once (by simp) d 0
  · refine (State.startDie_keeps (fun t : State => t.fld d .RST_WDT_EN) s d (fun u e f i v h _ => ?_) (fun _ => rfl)).trans ?_
    · exact u.fld_setFld_other _ _ _ _ _ (Ne.symm h)
    · exact State.fld_setFlds_mem (v := 1) s once (by simp) d 0

theorem State.stepOf_startDie (s : State) (d : Nat) : (s.startDie d).stepOf d = 11 := by
  rw [State.stepOf, State.startDie_boot]
  exact lookupD_insertKV_same _ _ _ _

/-- The dies that start together complete step 11, DIE_0 among them. -/
theorem State.stepOf_startAll {l : List Nat} (h : 0 ∈ l) (s : State) : (l.foldl State.startDie s).stepOf 0 = 11 := by
  refine foldl_brings (fun t : State => ∀ v, lookupD t.boot.step 0 v = 11) (fun t v => ?_) (fun t d ht v => ?_) h s 0
  · rw [State.startDie_boot]
    exact lookupD_insertKV_same _ _ _ _
  · rw [State.startDie_boot]
    by_cases hd : 0 = d
    · subst hd
      exact lookupD_insertKV_same _ _ _ _
    · exact (lookupD_insertKV_other _ _ _ hd).trans (ht v)

theorem exec_firmwareStart_package (h0 : s.hasDie 0 = true) (hall : s.allAt 9 = true) : ∃ t, exec (.firmwareStart .package) s = .next t ∧ t.stepOf 0 = 11 := by
  let u : State := (if 2 ≤ s.sec.lc then s.zeroBytes 0 0x8000000000 else s).fwParams
  have present : s.hasTarget .package = true := rfl
  have part : u.part = s.part := by
    change (if 2 ≤ s.sec.lc then s.zeroBytes 0 0x8000000000 else s).part = s.part
    split
    · rfl
    · rfl
  refine ⟨(u.starting.foldl State.startDie u).setFld 0 .SAFE_CTRL_FTTI_MS 0 u.mail.fttiMs, ?_, ?_⟩
  · change execFirmwareStart .package s = _
    simp only [execFirmwareStart, present, hall, not_true_eq_false, if_false, if_true, u]
  · exact State.stepOf_startAll (State.zero_mem_starting ((State.hasDie_of_part part 0).trans h0)) u

theorem exec_firmwareStart_die (d : Nat) (hd : s.hasDie d = true) (hstep : s.stepOf d = 9) : ∃ t, exec (.firmwareStart (.die d)) s = .next t ∧
    t.stepOf d = 11 ∧ t.fld d .RST_WDT_TIMEOUT = 200 ∧ t.fld d .RST_WDT_EN = 1 := by
  have present : s.hasTarget (.die d) = true := hd
  refine ⟨s.startDie d, ?_, s.stepOf_startDie d, s.fld_startDie_wdt d⟩
  exact (if_neg (Decidable.not_not.mpr present)).trans (congrArg Host.Outcome.next (if_pos hstep))

theorem exec_firmwareStart_cluster (d c : Nat) (ht : s.hasTarget (.cluster d c) = true) (hzeroed : (d, c) ∈ s.boot.zeroed) :
    ∃ t, exec (.firmwareStart (.cluster d c)) s = .next t ∧ (d, 4 + c) ∉ t.boot.down := by
  refine ⟨_, (if_neg (Decidable.not_not.mpr ht)).trans (congrArg Host.Outcome.next (if_pos hzeroed)), ?_⟩
  change (d, 4 + c) ∉ s.boot.down.filter (fun x => decide (x ≠ (d, 4 + c)))
  simp

theorem exec_firmwareStart_ap (d a : Nat) (ht : s.hasTarget (.ap d a) = true) : ∃ t, exec (.firmwareStart (.ap d a)) s = .next t ∧ (d, a) ∉ t.boot.down := by
  refine ⟨_, if_neg (Decidable.not_not.mpr ht), ?_⟩
  change (d, a) ∉ s.boot.down.filter (fun x => decide (x ≠ (d, a)))
  simp

/-! Groups that are forced out of reset, and the watchdog kick (R86, R87). -/

theorem exec_forcedGroupClockStable_lifts (d g : Nat) (hd : s.hasDie d = true) (hg : hasGroup d g = true) (hiso : bit (s.fld d .RSTCTL_ISO_GROUPS) g = true)
    (hstable : s.groupStable d g = true) :
    ∃ t, exec (.forcedGroupClockStable d g) s = .next t ∧ bit (t.fld d .RSTCTL_ISO_GROUPS) g = false := by
  have present : ¬ (¬ s.hasDie d = true ∨ ¬ hasGroup d g = true) := by simp [hd, hg]
  have small : g < 20 := by
    simp only [hasGroup, Bool.and_eq_true, decide_eq_true_eq] at hg
    exact hg.1.1
  refine ⟨_, (if_neg present).trans (if_pos ⟨hiso, hstable⟩), ?_⟩
  rw [State.fld_setFld_same]
  exact (bit_mod_two_pow small _).trans (bit_putBits_same _ g false)

theorem exec_rstctlForceWrite_forces (m : Master) (d : Nat) (data : Word) (hw : WritesNow s m d .RSTCTL 0x20) (hg : s.guardOk m = true) :
    exec (.rstctlForceWrite m d data) s =
      .next (((List.range 20).filter (fun g => bit data.toNat g && hasGroup d g)).foldl (State.forceGroup d) s.accepted) :=
  congrArg Host.Outcome.next ((hw.eq data _).trans (State.guarded_ok (s := s.accepted) hg d .RSTCTL 0x20 _))

theorem exec_rstWdtKickWrite_key (m : Master) (d : Nat) (data : Word) (hw : WritesNow s m d .RSTCTL 0x34) (hkey : data.toNat % 2 ^ 16 = 0x6B1D) :
    exec (.rstWdtKickWrite m d data) s = .next s.accepted :=
  congrArg Host.Outcome.next ((hw.eq data _).trans (if_pos hkey))

theorem exec_rstWdtKickWrite_badKey (m : Master) (d : Nat) (data : Word) (hw : WritesNow s m d .RSTCTL 0x34) (hkey : data.toNat % 2 ^ 16 ≠ 0x6B1D) :
    ∃ t, exec (.rstWdtKickWrite m d data) s = .next t ∧ t.fld d .RSTCTL_STATUS_BADKEY = 1 :=
  ⟨_, congrArg Host.Outcome.next ((hw.eq data _).trans (if_neg hkey)), State.fld_setFld_same s.accepted d .RSTCTL_STATUS_BADKEY 0 1⟩

end

/-- Settles O3, clause by clause. -/
theorem releaseStepsComplete : Obligations.ReleaseStepsComplete := fun _ hpow h0 =>
  ⟨exec_dramTrainingEnd_trained hpow, exec_fabricUp_package h0, exec_fabricUp_die, exec_fabricUp_cluster, exec_firmwareStart_package h0,
    exec_firmwareStart_die, exec_firmwareStart_cluster, exec_firmwareStart_ap, exec_forcedGroupClockStable_lifts, exec_rstctlForceWrite_forces,
    exec_rstWdtKickWrite_key, exec_rstWdtKickWrite_badKey⟩

end Sys2Proof.Machine
end

section
/-!
SUPPORT and PROOFS. Accesses by address to registers and to memory, and the end of a posted write (R89, R92, R100 to R103, R106, R157, R409).
-/
namespace Sys2Proof.Machine

section
variable {s : State}

/-! The oldest posted write of a block ends (R100, R409). -/

theorem State.finishPosted_of_oldest {d : Nat} {p : PostedBlk} {w : Posted} (fail : Option Nat)
    (hold : s.bus.posted.find? (fun w => decide (w.die = d) && decide (w.blk = p)) = some w) :
    s.finishPosted d p fail = (State.endPosted { s with bus.posted := s.bus.posted.erase w } w fail).runStalled none := by
  simp only [State.finishPosted, hold]

theorem exec_postedWrite_ends (d : Nat) (p : PostedBlk) (w : Posted) (hd : s.hasDie d = true)
    (hold : s.bus.posted.find? (fun w => decide (w.die = d) && decide (w.blk = p)) = some w) :
    exec (.postedWriteComplete d p) s = .next ((State.endPosted { s with bus.posted := s.bus.posted.erase w } w none).runStalled none) ∧
      ∀ cause, peripheral (blkOfPosted p) = true → exec (.postedWriteFail d p cause) s =
        .next ((State.endPosted { s with bus.posted := s.bus.posted.erase w } w (some (cause % 4))).runStalled none) := by
  refine ⟨?_, fun cause hper => ?_⟩
  · exact congrArg Host.Outcome.next ((if_pos hd).trans (State.finishPosted_of_oldest none hold))
  · have present : ¬ (¬ s.hasDie d = true ∨ ¬ peripheral (blkOfPosted p) = true) := by simp [hd, hper]
    exact (if_neg present).trans (congrArg Host.Outcome.next (State.finishPosted_of_oldest (some (cause % 4)) hold))

/-! A register that does not refuse a master (R92, R100 to R103). -/

/-- A word in 64 bits has the value of the word. -/
theorem toNat_setWidth_word (data : Word) : (data.setWidth 64).toNat = data.toNat := by
  rw [BitVec.toNat_setWidth]
  exact Nat.mod_eq_of_lt (lt_of_lt_of_le data.isLt (by decide))

section
variable {m : Master} {a d off : Nat} (hplace : decodeAddr s.part m.die a = .regs d off) (hsize : sizeOk d off 4 = true) (hplain : inApintc off = false)
  (hreach : s.refusal m d off = none)
include hplace hsize hplain hreach

theorem State.writeAt_of_word (data : Word) : s.writeAt m a 4 data.toNat = .next (s.writeOff m a d off 4 data) := by
  rw [State.writeAt_of_register hplace hsize hreach hplain, BitVec.ofNat_toNat, BitVec.setWidth_eq]

/-- A read of a word answers what the register window gives. -/
theorem State.readAt_of_register (same : Nat) : s.readAt m a 4 same = .next (s.readOff m a d off (same % 2 ^ 32)) := by
  have unchanged : ∀ (t : State) v, t.access = .value v → { t with access := .value v } = t := fun t v h => by rw [← h]
  simp only [State.readAt, State.addrRefusal_of_register hplace hsize hreach, hplace, hplain, Bool.false_eq_true, false_and, if_false, Nat.reduceEqDiff,
    if_true]
  split
  · rename_i v hvalue
    exact congrArg Host.Outcome.next (unchanged _ v hvalue)
  · rfl

theorem exec_registerWrite_writes (data : Word) : exec (.registerWrite m a 4 (data.setWidth 64)) s = .next (s.writeOff m a d off 4 data) ∧
    exec (.pairLoWrite m a data) s = .next (s.writeOff m a d off 4 data) ∧ exec (.pairHiWrite m a data) s = .next (s.writeOff m a d off 4 data) := by
  have written := State.writeAt_of_word hplace hsize hplain hreach data
  refine ⟨?_, written, written⟩
  change s.writeAt m a 4 (data.setWidth 64).toNat = _
  rw [toNat_setWidth_word, written]

section
variable {blk : Blk} {o : Nat} (hfree : s.readWaits m d off = false) (hblk : blockAt d off = some (blk, o))
include hfree hblk

theorem State.readAt_value (same : Nat) : ∃ t, s.readAt m a 4 same = .next t ∧ t.access = .value (s.readWord m d blk o (same % 2 ^ 32)).1 := by
  refine ⟨_, State.readAt_of_register hplace hsize hplain hreach same, ?_⟩
  simp only [State.readOff, hreach, hfree, hblk, Bool.false_eq_true, if_false]

theorem exec_registerRead_value : (∃ t, exec (.pairLoRead m a) s = .next t ∧ t.access = .value (s.readWord m d blk o 0).1) ∧
    (∃ t, exec (.pairHiRead m a) s = .next t ∧ t.access = .value (s.readWord m d blk o 0).1) ∧
    (∀ same : Word, ∃ t, exec (.rcRegisterRead m a 4 (same.setWidth 64)) s = .next t ∧ t.access = .value (s.readWord m d blk o same.toNat).1) := by
  have value := State.readAt_value hplace hsize hplain hreach hfree hblk
  refine ⟨value 0, value 0, fun same => ?_⟩
  have read := value (same.setWidth 64).toNat
  rw [toNat_setWidth_word, Nat.mod_eq_of_lt same.isLt] at read
  change ∃ t, s.readAt m a 4 (same.setWidth 64).toNat = .next t ∧ _
  rwa [toNat_setWidth_word]

end

end

/-! The status registers of a die that have reads of their own (R89, R106, R157, R409). -/

/-- The register window of a die of the part. -/
theorem decodeAddr_window {part : Part} {own d off : Nat} (hd : d < 8) (hpart : d < part.dies) (hoff : off < 0x10000000) :
    decodeAddr part own (windowBase d + off) = .regs d off := by
  have place : (windowBase d + off - 0xF00000000000) / 0x10000000 = d ∧ (windowBase d + off - 0xF00000000000) % 0x10000000 = off := by
    unfold windowBase
    omega
  have notDram : ¬ windowBase d + off < 0x8000000000 := by unfold windowBase; omega
  have notGranary : ¬ (0x800000000000 ≤ windowBase d + off ∧ windowBase d + off < 0x800000000000 + 8 * 0x40000000) := by unfold windowBase; omega
  have notOut : ¬ (0xC00000000000 ≤ windowBase d + off ∧ windowBase d + off < 0xC00000000000 + 2 * 0x10000000000) := by unfold windowBase; omega
  have window : 0xF00000000000 ≤ windowBase d + off ∧ windowBase d + off < 0xF00000000000 + 8 * 0x10000000 := by unfold windowBase; omega
  rw [decodeAddr, if_neg notDram, if_neg notGranary, if_neg notOut, if_pos window]
  simp only [place.1, place.2, if_pos hpart]

theorem State.readAt_window {m : Master} {d off : Nat} (hd : d < 8) (hdie : s.hasDie d = true) (hoff : off < 0x10000000) (haligned : off % 4 = 0)
    (hplain : inApintc off = false) (hreach : s.refusal m d off = none) :
    s.readAt m (windowBase d + off) 4 0 = .next (s.readOff m (windowBase d + off) d off 0) := by
  have size : sizeOk d off 4 = true := by simp [sizeOk, haligned]
  exact State.readAt_of_register (decodeAddr_window hd (of_decide_eq_true hdie) hoff) size hplain hreach 0

theorem exec_rstStatusRead_reads {m : Master} {d : Nat} (hd : d < 8) (hdie : s.hasDie d = true) (hreach : s.refusal m d 0x8 = none)
    (_ : s.readWaits m d 0x8 = false) : exec (.rstStatusRead m d) s = .next (s.readOff m (windowBase d + 0x8) d 0x8 0) := by
  change s.readAt m (windowBase d + 0x8) 4 0 = _
  exact State.readAt_window (off := 0x8) hd hdie (by decide) (by decide) (by decide) hreach

theorem exec_fabStatusRead_reads {m : Master} {d : Nat} (hd : d < 8) (hdie : s.hasDie d = true) (hreach : s.refusal m d 0xD0000 = none)
    (_ : s.readWaits m d 0xD0000 = false) : exec (.fabStatusRead m d) s = .next (s.readOff m (windowBase d + 0xD0000) d 0xD0000 0) := by
  change s.readAt m (windowBase d + 0xD0000) 4 0 = _
  exact State.readAt_window (off := 0xD0000) hd hdie (by decide) (by decide) (by decide) hreach

theorem exec_grnStatusRead_reads {m : Master} {d : Nat} (hd : d < 8) (hdie : s.hasDie d = true) (hreach : s.refusal m d 0x300000 = none)
    (_ : s.readWaits m d 0x300000 = false) : exec (.grnDramStatusRead m d false) s = .next (s.readOff m (windowBase d + 0x300000) d 0x300000 0) := by
  change s.readAt m (windowBase d + 0x300000) 4 0 = _
  exact State.readAt_window (off := 0x300000) hd hdie (by decide) (by decide) (by decide) hreach

theorem exec_dramStatusRead_reads {m : Master} {d : Nat} (hd : d < 8) (hdie : s.hasDie d = true) (hreach : s.refusal m d 0x320000 = none)
    (_ : s.readWaits m d 0x320000 = false) : exec (.grnDramStatusRead m d true) s = .next (s.readOff m (windowBase d + 0x320000) d 0x320000 0) := by
  change s.readAt m (windowBase d + 0x320000) 4 0 = _
  exact State.readAt_window (off := 0x320000) hd hdie (by decide) (by decide) (by decide) hreach

theorem exec_fbrStatusRead_reads {m : Master} {d : Nat} (hd : d < 8) (hdie : s.hasDie d = true) (hreach : s.refusal m d 0x30000 = none)
    (_ : s.readWaits m d 0x30000 = false) : exec (.fbrStatusRead m d) s = .next (s.readOff m (windowBase d + 0x30000) d 0x30000 0) := by
  change s.readAt m (windowBase d + 0x30000) 4 0 = _
  exact State.readAt_window (off := 0x30000) hd hdie (by decide) (by decide) (by decide) hreach

/-! Memory (R100). -/

section
variable {m : Master} {a n d o : Nat}
  (hplace : decodeAddr s.part m.die a = .dram d o ∨ decodeAddr s.part m.die a = .granary d o ∨ decodeAddr s.part m.die a = .loft d o)
  (hsome : n ≠ 0) (hreach : s.memRefusal m a n = none)
include hplace hsome hreach

theorem exec_registerWrite_memory (data : BitVec 64) :
    exec (.registerWrite m a n data) s = .next { s.store (agentOf m) a (leBytes n data.toNat) with access := .done } := by
  change s.writeAt m a n data.toNat = _
  rcases hplace with h | h | h <;> simp only [State.writeAt, State.addrRefusal, h, hsome, hreach, if_false]

theorem exec_rcRegisterRead_memory (same : BitVec 64) (hclean : s.poisoned a n = none) :
    exec (.rcRegisterRead m a n same) s = .next { s.wake a n with access := .value (leNat (s.seen a n)) } := by
  change s.readAt m a n same.toNat = _
  rcases hplace with h | h | h <;> simp only [State.readAt, State.addrRefusal, h, hsome, hreach, hclean, if_false]

end

end

/-- Settles O7, access by access. -/
theorem accessRowsComplete : Obligations.AccessRowsComplete := fun _ =>
  ⟨exec_postedWrite_ends,
    fun _ _ _ _ data hplace hsize hplain hreach => exec_registerWrite_writes hplace hsize hplain hreach data,
    fun _ _ _ _ _ _ hplace hsize hplain hreach hfree hblk => exec_registerRead_value hplace hsize hplain hreach hfree hblk,
    fun _ _ hd hdie => ⟨exec_rstStatusRead_reads hd hdie, exec_fabStatusRead_reads hd hdie, exec_grnStatusRead_reads hd hdie, exec_dramStatusRead_reads hd hdie,
      exec_fbrStatusRead_reads hd hdie⟩,
    fun _ _ _ data _ _ hplace hsome hreach => ⟨exec_registerWrite_memory hplace hsome hreach data, exec_rcRegisterRead_memory hplace hsome hreach⟩⟩

end Sys2Proof.Machine
end
